-- ==== Sys2Proof/Word.lean ====
section
/-!
DEFINITION. The word and byte types of the block, and the shape of the sparse
maps in which the state is held.
-/
namespace Sys2Proof

/-- One byte of device memory. -/
abbrev Byte := BitVec 8

/-- A sparse map: pairs of a key and a value, keys strictly rising. -/
abbrev Map (α : Type) := List (Nat × α)

end Sys2Proof
end

