-- ==== Sys2Proof/Syntax.lean ====
section
/-!
DEFINITION. The commands the block takes: one constructor per row of the opcode
table, with the operands that come with it from outside. A descriptor, a work
entry or a message is a little-endian number of its bytes, as the spec lays them
out; what the device reads from outside (host data, a sensor, the outcome of a
self-test) is an operand.
-/
namespace Sys2Proof

/-- R18, R710: the roles, in the order of the ROLE byte. -/
inductive Role where
  | owner | platform | manager | tenant | device
  deriving DecidableEq, Repr

/-- R710: where a command came from, in the order of the ORIGIN byte. -/
inductive Origin where
  | device | host | mctp | fabric | tile
  deriving DecidableEq, Repr

/-- Who issues a command: role, origin, attachment point, and routing ID, MCTP
endpoint, fabric device or hart (R710). -/
structure Issuer where
  role : Role
  origin : Origin
  ap : Nat
  id : Nat
  deriving DecidableEq, Repr

/-- One access to a register block: who, byte offset, size in bytes. `niche` names the
niche whose page is accessed, or `none` for the manager's BAR0. -/
structure Access0 where
  who : Issuer
  offset : Nat
  size : Nat
  deriving DecidableEq, Repr

/-- A work entry that the device has taken from a ring (R247): the ring, and the 64 bytes
of the entry as a little-endian number. -/
structure Work where
  ring : Nat
  entry : Nat
  deriving DecidableEq, Repr

/-- What the stroke's sensors report (R791, R792): the hottest die sensor in °C and its
number, the two diode pairs, and the last 1 ms average power in W. -/
structure Env where
  hot : Int
  sensor : Nat
  diode0 : Int
  diode1 : Int
  watts : Nat
  deriving DecidableEq, Repr

/-- R104, R105: one signature record: algorithm, SHA-384 of its public key, and whether
the signature verifies over the bytes it covers. -/
structure Signature where
  alg : Nat
  keyHash : Nat
  ok : Bool
  deriving DecidableEq, Repr

/-- One register field that a section's body sets: BAR0 offset of the register, lowest bit of
the field, instance, value. -/
structure SecField where
  off : Nat
  lo : Nat
  idx : Nat
  val : Nat
  deriving DecidableEq, Repr

/-- R100 to R103: one section: its table entry, the units its TOPOLOGY records name (unit key
to partition), and the register fields its body sets (R102 leaves the bodies to Xozovar). -/
structure Section where
  type : Nat
  version : Nat
  partMask : Nat
  offset : Nat
  length : Nat
  digest : Nat
  units : List (Nat × Nat)
  fields : List SecField
  rows : List (List Nat)
  deriving DecidableEq, Repr

/-- R111: one proved unit: its terms in cycles and the end of its window (0 COMMIT, 1 SEAL, 2 the period). -/
structure ProofUnit where
  terms : List Nat
  window : Nat
  deriving DecidableEq, Repr

/-- R99 to R111: an image: its header, its signatures, its sections, whether its tables and
digests hold (R109 steps 5 to 7), and its budget proof. -/
structure Image where
  magic : Nat
  format : Nat
  kind : Nat
  svn : Nat
  member : Nat
  shapeRev : Nat
  len : Nat
  imageId : Nat
  partMask : Nat
  baseDigest : Nat
  sigs : List Signature
  sections : List Section
  tableOk : Bool
  digestsOk : Bool
  shapeOk : Bool
  consistent : Bool
  proofDigests : List (Nat × Nat)
  proofUnits : List ProofUnit
  deriving DecidableEq, Repr

/-- R123: an OWNER token: its first 72 bytes as a number, and its signatures. -/
structure Token where
  bytes : Nat
  sigs : List Signature
  deriving DecidableEq, Repr

/-- R521, R522: a Turelm packet: the fields of its header, the bytes from 32 on of its extension as a number,
its payload, and how it arrived: with ECN CE set, or with a bad UDP checksum. -/
structure TlPkt where
  version : Nat
  op : Nat
  flags : Nat
  epoch : Nat
  src : Nat
  dst : Nat
  srcEp : Nat
  dstEp : Nat
  seg : Nat
  path : Nat
  msg : Nat
  off : Nat
  len : Nat
  oseq : Nat
  ext : Nat
  data : List Byte
  ce : Bool
  csumBad : Bool
  deriving DecidableEq, Repr

/-- R521: the fields of a Turelm packet lie within their widths. -/
def TlPkt.ok (p : TlPkt) : Bool :=
  decide (p.version < 16) && decide (p.op < 256) && decide (p.flags < 256) && decide (p.epoch < 256) && decide (p.src < 2 ^ 14)
    && decide (p.dst < 2 ^ 14) && decide (p.srcEp < 2 ^ 24) && decide (p.dstEp < 2 ^ 24) && decide (p.seg < 256)
    && decide (p.path < 64) && decide (p.msg < 2 ^ 32) && decide (p.off < 2 ^ 32) && decide (p.len < 2 ^ 32) && decide (p.oseq < 2 ^ 16)

/-- The commands of the block, in the order of the opcode table. -/
inductive Instr where
  /-- AUX_POWER_PRESENT (R16): Auxiliary power arrives; the device moves from OFF to AUX and the plinth starts from boot ROM. -/
  | auxPowerPresent
  /-- AUX_POWER_LOST (R16): Auxiliary power is lost; the device goes to OFF and loses grants, tails and the epochs kept by the plinth. -/
  | auxPowerLost
  /-- STRAP_SAMPLE (R823): On deassertion of AUX_PORST_N the device samples the straps and holds them until auxiliary power is lost. -/
  | strapSample (autoOn : Bool) (mgmtAddr : Nat) (rgmiiEn flashMode test : Bool)
  /-- POWER_ON (R781): The platform's MCTP POWER_ON request asserts MAIN_EN, or is refused while a sensor reads at or above T_CRIT. -/
  | powerOn (eid : Nat) (hot : Int)
  /-- MAIN_PG_ASSERTED (R781): MAIN_PG asserts (main power enabled); the device enters BOOT, runs step B1 and starts the PHC. -/
  | mainPgAsserted
  /-- MAIN_PG_TIMEOUT (R781): MAIN_PG has not come 50 ms after MAIN_EN; MAIN_EN is deasserted, the device stays in AUX and patina 0x1A80 is written. -/
  | mainPgTimeout
  /-- MAIN_PG_DEASSERTED (R781): MAIN_PG deasserts (main power removed); every domain is gated, the device goes to AUX and the current tail becomes the previous-epoch tail. -/
  | mainPgDeasserted
  /-- POWER_STEP_B2 (R783): 1 ms after MAIN_PG the host controllers are ungated, and each link whose PERST is deasserted starts training. -/
  | powerStepB2
  /-- ARMATURE_BOOT_LOAD (R109): The plinth verifies its firmware and loads the armature in BOOT, with fallback to the other slot; it then enters BRINGUP or, if both slots fail, SAFE. -/
  | armatureBootLoad
  /-- POWER_STEP (R783): Each STEP_STROKES boundary in BRINGUP ungates the next domain group (stacks, tile rows, pipelines, accelerators, Ethernet quads) and runs its self-tests. -/
  | powerStep (regulated : Bool) (failed : List Nat) (repairs : Nat)
  /-- POWER_STEP_WAIT_EXCEEDED (R784): A step has waited 65 536 strokes for regulation; this is an uncontainable error with pinned patina 0x1381. -/
  | powerStepWaitExceeded
  /-- ENTER_SERVICE (R797): The manager's ENTER_SERVICE command moves the device from BRINGUP to SERVICE once READY is set. -/
  | enterService (who : Issuer)
  /-- TEST_ENTER (R797): The test-entry command moves the device from SERVICE to TEST and freezes the loops. -/
  | testEnter (who : Issuer)
  /-- TEST_EXIT (R797): The test-end command returns the device from TEST to SERVICE and the loops resume. -/
  | testExit (who : Issuer)
  /-- STANDBY (R795): The platform's STANDBY command moves the device into P1 at the next boundary if every precondition holds. -/
  | standby (who : Issuer)
  /-- WAKE (R796): The platform's WAKE command, or a function entering D0, ends P1 and brings the domains back in step order. -/
  | wake (who : Issuer)
  /-- POWER_OFF (R782): The platform's POWER_OFF command journals the move to AUX and schedules the deassertion of MAIN_EN. -/
  | powerOff (who : Issuer)
  /-- POWER_OFF_MAIN_EN_DROP (R782): 1 ms after the boundary that follows POWER_OFF, MAIN_EN is deasserted. -/
  | powerOffMainEnDrop
  /-- SAFE (R797): The platform's SAFE command stops the datapath and moves the device to SAFE with a pinned patina entry. -/
  | safe (who : Issuer)
  /-- RESTART (R116): The platform's restart command moves the device from SAFE to BOOT, keeping the journal epoch and writing a RESTART entry. -/
  | restart (who : Issuer)
  /-- SAFE_ENTRY (R762): An uncontainable error stops the datapath and moves the device to SAFE with pinned patina 0x1800. -/
  | safeEntry (cause : Nat)
  /-- T_CRIT_REACHED (R793): A sensor reaches T_CRIT; the device holds throttle level 3, sets CRIT and asserts ALERT_N. -/
  | tCritReached (sensor : Nat) (hot : Int)
  /-- CAP_OVER_DETECTED (R793): Average power has exceeded the cap for 10 ms; CAP_OVER is set and ALERT_N is asserted. -/
  | capOverDetected
  /-- THERMTRIP (R794): A sensor reaches 115 °C; the hardware asserts THERMTRIP_N, gates every main domain and enters SAFE. -/
  | thermtrip (sensor : Nat)
  /-- STROKE_BOUNDARY (R34): At each stroke boundary the stroke count advances, and the COMMIT-phase work of R36 (refills, gates, samples, pending steps) is carried out. -/
  | strokeBoundary (env : Env)
  /-- DEFERRED_CHANGE_APPLY (R38): A change accepted earlier (niche or ring state, shaper, window, rule version, configuration write) takes effect at the next boundary that R38 allows. -/
  | deferredChangeApply
  /-- THREAD_OVERRUN (R40): A stroke-bound thread has not signalled STROKE_DONE by the start of SEAL; the overrun is counted and recorded. -/
  | threadOverrun (hart : Nat) (missed : Bool)
  /-- HW_UNIT_OVERRUN (R42): A stroke-bound hardware unit misses its phase and handles the overrun by kind, with a patina entry. -/
  | hwUnitOverrun (kind index : Nat)
  /-- PHC_STEP_WRITE (R45): A write of STK_PHC_STEP is accepted for the next boundary, held for an armed realign, replaces a pending step, or is refused. -/
  | phcStepWrite (who : Issuer) (ns : Nat)
  /-- STEP_LATCH (R45): At the start of the SEAL before its boundary, a pending step is latched and fixed. -/
  | stepLatch
  /-- SLEW_DONE (R46): SLEW_LEFT reaches zero, and held STK_PHC_RATE writes apply again. -/
  | slewDone
  /-- PHC_RATE_WRITE (R32): A write of STK_PHC_RATE sets the rate offset, clamped to ±500 ppm, or is held during a slew. -/
  | phcRateWrite (who : Issuer) (rate : Nat)
  /-- REALIGN_ARM (R48): A write of STK_REALIGN with ARM set arms or moves a realign after a range check. -/
  | realignArm (who : Issuer) (atStroke : Nat)
  /-- REALIGN_DISARM (R48): A write of STK_REALIGN with ARM clear disarms the realign and refuses any step held for it. -/
  | realignDisarm (who : Issuer) (atStroke : Nat)
  /-- REALIGN_TARGET (R48): The target boundary of an armed realign is reached; the held step is applied, or the realign lapses with RESULT 5. -/
  | realignTarget
  /-- ALIGN_ESTIMATE_WRITE (R52): Software writes STK_ALIGN_EST, which reclassifies ALIGN and restarts the holdover count. -/
  | alignEstimateWrite (who : Issuer) (offset : Nat)
  /-- ALIGN_HOLDOVER (R52): HOLD boundaries pass without an estimate, and ALIGN becomes HOLDOVER. -/
  | alignHoldover
  /-- PHC_SEC_READ (R31): A read of STK_PHC_SEC latches the nanoseconds and fraction of the same instant into STK_PHC_NS. -/
  | phcSecRead (who : Issuer) (ns frac : Nat)
  /-- TXTS_INFO_READ (R62): A read of STK_TXTS_INFO_m returns the head of the time-stamp queue, removes it and latches its time. -/
  | txtsInfoRead (who : Issuer) (mac : Nat)
  /-- PPS_IN_EDGE (R68): A selected PPS_IN edge captures the PHC, sets MISSED if the previous capture was unread, and raises EV_PPS_IN. -/
  | ppsInEdge (ns sub : Nat)
  /-- PPS_IN_TS_READ (R94): A read of STK_PPS_IN_TS returns the capture and clears NEW. -/
  | ppsInTsRead (who : Issuer)
  /-- PPS_OUT_PULSE (R67): At each offset PHC second PPS_OUT asserts, and it deasserts WIDTH ms later. -/
  | ppsOutPulse (assert : Bool)
  /-- CLK10M_LOCK (R69): CLK10M_IN has been within ±10 ppm for three seconds; it is in lock, and the PHC moves to it if selected. -/
  | clk10mLock
  /-- CLK10M_LOCK_LOSS (R69): CLK10M_IN goes out of range or misses an edge for 1 µs; the PHC returns to the system reference and EV_CLK_REF_LOST is raised. -/
  | clk10mLockLoss
  /-- TOD_MESSAGE (R71): A time-of-day UART frame is accepted or discarded, and with TOD_LOAD set an accepted one requests a step. -/
  | todMessage (msg ms : Nat)
  /-- STAGE (R121): The ARM_CMD STAGE operation copies an image of up to 64 MiB into the staging area. -/
  | stage (who : Issuer) (image : Image) (token : Option Token) (flashOk : Bool)
  /-- MAQUETTE (R118): The ARM_CMD MAQUETTE operation runs a CHECK or SHADOW maquette of the staged image. -/
  | maquette (who : Issuer)
  /-- MAQUETTE_REPORT_DONE (R119): A maquette finishes; its report is written to ARM_MAQ_ADDR and EV_ARM_MAQ_DONE is raised. -/
  | maquetteReportDone (findings warnings : Nat) (report : List Byte)
  /-- PARTIAL (R129): The ARM_CMD PARTIAL operation starts a partial re-armature job in CHECK, or is refused. -/
  | partialImage (who : Issuer)
  /-- JOB_CHECK_DONE (R129): The job's check ends, and the job fails or moves to DRAIN, or to RAMP for global sections. -/
  | jobCheckDone
  /-- JOB_DRAIN_DONE (R129): All accepted work of the drained partitions has finished; the units enter HELD and the new content is applied. -/
  | jobDrainDone
  /-- JOB_DRAIN_TIMEOUT (R129): ARM_DRAIN_LIMIT strokes elapse in DRAIN; the job fails with DRAIN_TIMEOUT and the units return to ACTIVE. -/
  | jobDrainTimeout
  /-- JOB_APPLY_DONE (R129): The self-test of the loaded units ends; the partition switch goes to RAMP, or the old content is restored under APPLY_FAILED. -/
  | jobApplyDone (pass : Bool)
  /-- JOB_RAMP_DONE (R129): 256 strokes after the switch the units are ACTIVE, the job is DONE and EV_ARM_JOB_DONE is raised. -/
  | jobRampDone
  /-- ARM_JOB_READ (R144): A read of ARM_JOB that finds DONE or FAILED returns the job to IDLE. -/
  | armJobRead (who : Issuer)
  /-- PERSIST (R133): The ARM_CMD PERSIST operation appends the last applied partial to the active slot and rewrites the boot descriptor. -/
  | persist (who : Issuer) (flashOk : Bool)
  /-- FLASH_WRITE (R121): The ARM_CMD FLASH_WRITE operation checks the staged armature or plinth image and writes it to the inactive slot. -/
  | flashWrite (who : Issuer) (flashOk : Bool)
  /-- ACTIVATE (R121): The ARM_CMD ACTIVATE operation selects a slot in the boot descriptor. -/
  | activate (who : Issuer) (arg : Nat) (flashOk : Bool)
  /-- CANCEL (R129): The ARM_CMD CANCEL operation ends a job in CHECK or DRAIN as FAILED with CANCELLED. -/
  | cancel (who : Issuer)
  /-- COMMAND_UNDEFINED_OP (R828): A write that sets GO with an unlisted OP starts nothing, reports ST_INVALID or NONE, and is journaled as refused. -/
  | commandUndefinedOp (who : Issuer) (offset op : Nat)
  /-- TOKEN_CONSUME_STEP (R125): An OWNER token of kind 1 consumes one step of a tally, raising a floor or disabling production debug. -/
  | tokenConsumeStep (who : Issuer)
  /-- OWNERSHIP_TRANSFER (R124): An OWNER token of kind 2 writes a new owner key hash, effective at the next BOOT, and consumes a step of tally 0. -/
  | ownershipTransfer (who : Issuer)
  /-- DEBUG_UNLOCK (R354): An OWNER token of kind 3 opens the tile debug modules within its scope until it expires. -/
  | debugUnlock (who : Issuer)
  /-- TALLY_GRANT (R126): An OWNER token of kind 4 grants tally steps to PLATFORM or DEVICE. -/
  | tallyGrant (who : Issuer)
  /-- DEBUG_UNLOCK_EXPIRY (R354): The unlock time passes; every debug module closes and halted threads resume at the next boundary. -/
  | debugUnlockExpiry
  /-- PERST_ASSERT (R180): A PERST ball asserts; the attachment point takes a fundamental reset with the effects of R180. -/
  | perstAssert (ap : Nat)
  /-- PERST_DEASSERT (R788): A PERST ball deasserts, and the attachment point's link starts training if B2 has passed. -/
  | perstDeassert (ap : Nat)
  /-- HOT_RESET (R180): A hot reset is received on an attachment point; its functions and niches reset as R180 sets out. -/
  | hotReset (ap : Nat)
  /-- LINK_UP (R195): An attachment point's link trains to L0. -/
  | linkUp (ap speed width : Nat) (flit : Bool)
  /-- LINK_DOWN (R180): An attachment point's link goes down; its functions and niches reset as for PERST. -/
  | linkDown (ap : Nat)
  /-- AP_EN_WRITE (R196): A write of HIF_CTL_h.AP_EN enables an attachment point or holds it in Detect, taking its link down. -/
  | apEnWrite (who : Issuer) (h value : Nat)
  /-- CONFIG_REQUEST (R789): A configuration request is answered with Request Retry Status, Unsupported Request or the function's configuration space. -/
  | configRequest (ap rid op value : Nat)
  /-- FLR (R181): A function-level reset is written; the function stops requests and its niches reset. -/
  | flr (ap rid : Nat)
  /-- FLR_COMPLETE (R181): The FLR completes within 10 ms, and the function sends Function Readiness Status. -/
  | flrComplete (ap rid : Nat)
  /-- DSTATE_CHANGE (R177): A function changes its D-state, and fetching for its niches stops or resumes at the next boundary. -/
  | dstateChange (ap rid dstate : Nat)
  /-- D3COLD (R177): The attachment point's host loses main power, which is treated as a fundamental reset until PERST is next deasserted. -/
  | d3cold (ap : Nat)
  /-- HOST_READ_COMPLETION (R170): A PCIe completion arrives and is delivered, freed as an error, or discarded as late. -/
  | hostReadCompletion (ap tag status : Nat) (data : List Byte)
  /-- READ_TIMEOUT (R167): A host read has been outstanding K whole strokes; its work ends with ST_HOST_TIMEOUT and its tag is quarantined. -/
  | readTimeout (ap tag : Nat)
  /-- TAG_QUARANTINE_END (R169): A quarantined tag has served HIF_TAG_QUAR.STROKES strokes and returns to the pool. -/
  | tagQuarantineEnd (ap tag : Nat)
  /-- IDE_KEY_PROGRAM (R184): IDE_KM over a PF's DOE mailbox programs the keys of an IDE stream. -/
  | ideKeyProgram (ap index pf : Nat) (link : Bool)
  /-- IDE_CHECK_FAILED (R184): An unprotected or failing request to an IDE stream is dropped and the stream becomes Insecure. -/
  | ideCheckFailed (ap index : Nat) (link : Bool)
  /-- TDISP_REQUEST (R185): A TDISP message over DOE moves a TDI between CONFIG_UNLOCKED, CONFIG_LOCKED and RUN. -/
  | tdispRequest (ap rid msg : Nat)
  /-- TDI_ERROR (R185): A TDI enters ERROR; all DMA of the function stops and EV_TDI_ERROR is raised. -/
  | tdiError (ap rid : Nat)
  /-- ATS_INVALIDATION (R160): The host sends an ATS invalidation request, and the device translation cache drops the matching entries. -/
  | atsInvalidation (ap rid pasid addr len : Nat)
  /-- MANAGER_HEARTBEAT (R186): The manager PF writes HIF_MGR_HB, which arms the heartbeat check and restarts its count. -/
  | managerHeartbeat (who : Issuer)
  /-- MANAGER_HEARTBEAT_TIMEOUT (R186): HB_LIMIT boundaries pass without a heartbeat, and the manager PF counts as lost. -/
  | managerHeartbeatTimeout
  /-- HANDOVER (R204): The active manager writes HIF_MGR_CMD.HANDOVER, which moves the role to a ready standby or is refused. -/
  | handover (who : Issuer) (both : Bool)
  /-- TAKEOVER (R204): The standby writes HIF_MGR_CMD.TAKEOVER after a loss or while the role is VACANT. -/
  | takeover (who : Issuer)
  /-- MANAGER_ROLE_MOVE (R187): At the boundary after a loss the MANAGER role moves or becomes VACANT, and niche 0's rings are disabled and rebound. -/
  | managerRoleMove
  /-- STANDBY_READY (R187): A candidate PF becomes ready while the role is VACANT, and takes the role if AUTO_FAILOVER is set. -/
  | standbyReady (ap pf : Nat)
  /-- CXL_MEM_ACCESS (R191): The host reads or writes the CXL region through the HDM decoders, with poison returned on uncorrectable errors. -/
  | cxlMemAccess (addr : Nat) (data : List Byte) (write bad : Bool)
  /-- HDM_COMMIT (R191): The host commits or uncommits an HDM decoder. -/
  | hdmCommit (decoder base size ways gran : Nat) (commit : Bool)
  /-- CXL_MAILBOX_COMMAND (R192): A memory-device mailbox command is executed, or completes with Unsupported. -/
  | cxlMailboxCommand (op input : Nat)
  /-- CXL_RESET (R192): A CXL Reset uncommits both decoders and zeroes the region before it reports completion. -/
  | cxlReset
  /-- INVALID_ACCESS (R20): A misaligned, wrong-sized or reserved-range register access is dropped, reads all ones and is logged to the patina log. -/
  | invalidAccess (a : Access0) (write : Bool)
  /-- REGISTER_WRITE (R117): A write to a register without a row of its own is applied, or not applied and logged as a bound violation, and journaled if it changes a setting. -/
  | registerWrite (who : Issuer) (offset value : Nat)
  /-- SAT_CLEAR (R729): A write of 1 to a class B counter's SAT clears SAT and COUNT together. -/
  | satClear (who : Issuer) (offset : Nat)
  /-- COUNTER_LOW_READ (R729): A read of the low half of an 80-bit counter latches its high part for the same accessor. -/
  | counterLowRead (who : Issuer) (offset : Nat)
  /-- CREATE (R213): The NCH_CMD CREATE command draws a niche's quotas from a pool and places its stacked range. -/
  | create (who : Issuer) (desc : Nat)
  /-- BIND (R215): The NCH_CMD BIND command attaches a niche to a function and optional PASID and gives it a BAR0 page. -/
  | bind (who : Issuer)
  /-- UNBIND (R217): The NCH_CMD UNBIND command resets a QUIESCED niche, frees its page and invalidates its translations. -/
  | unbind (who : Issuer)
  /-- QUIESCE (R227): The NCH_CMD QUIESCE command stops intake for a niche from the next boundary. -/
  | quiesce (who : Issuer)
  /-- NICHE_QUIESCED (R227): All accepted work of a QUIESCING niche has completed; it becomes QUIESCED and EV_NCH_QUIESCED is raised. -/
  | nicheQuiesced (niche : Nat)
  /-- RESUME (R227): The NCH_CMD RESUME command returns a bound QUIESCED niche to ACTIVE. -/
  | resume (who : Issuer)
  /-- RESET (R228): The NCH_CMD RESET command starts a niche reset at the next boundary. -/
  | reset (who : Issuer)
  /-- NICHE_RESET_DONE (R228): At the first boundary after the last revoke fence and abandoned work, the niche leaves RESETTING and RESET_COUNT increments. -/
  | nicheResetDone (niche : Nat)
  /-- DESTROY (R229): The NCH_CMD DESTROY command starts the teardown of a QUIESCED niche. -/
  | destroy (who : Issuer)
  /-- TEARDOWN_DONE (R229): Zeroing completes, the quotas return to the pool at the next boundary, and the niche becomes FREE. -/
  | teardownDone (niche : Nat)
  /-- SPOOF_WRITE (R221): The NCH_CMD SPOOF_WRITE command writes one spoof-table entry of a niche. -/
  | spoofWrite (who : Issuer) (entry : Nat)
  /-- SPOOF_MODE (R222): The NCH_CMD SPOOF_MODE command sets a niche's four spoof-check enables. -/
  | spoofMode (who : Issuer)
  /-- WAKE_SET (R224): The NCH_CMD WAKE_SET command sets a niche's four wake filters. -/
  | wakeSet (who : Issuer)
  /-- LOG_START (R230): The NCH_CMD LOG_START command starts dirty-page logging at the next boundary. -/
  | logStart (who : Issuer) (block : Nat)
  /-- HARVEST (R232): The NCH_CMD HARVEST command swaps the dirty bitmaps at the next boundary and starts copying the retired one. -/
  | harvest (who : Issuer)
  /-- HARVEST_COPY_DONE (R232): The bitmap and trailer have been written and the bitmap cleared; the harvest completes. -/
  | harvestCopyDone
  /-- LOG_STOP (R233): The NCH_CMD LOG_STOP command performs a final harvest and stops logging at that swap. -/
  | logStop (who : Issuer)
  /-- NICHE_COUNTER_CLEAR (R245): A write of NCH_CNT_CLR clears a niche's spoof or receive drop counters. -/
  | nicheCounterClear (who : Issuer) (value : Nat)
  /-- RNG_CREATE (R254): The RNG_CMD CREATE command creates a ring from a descriptor. -/
  | rngCreate (who : Issuer) (desc : Nat)
  /-- RNG_ENABLE (R257): The RNG_CMD ENABLE command enables a ring from the next boundary, optionally restarting its indices. -/
  | rngEnable (who : Issuer)
  /-- RNG_DISABLE (R257): The RNG_CMD DISABLE command stops intake from a ring from the next boundary. -/
  | rngDisable (who : Issuer)
  /-- RNG_DESTROY (R257): The RNG_CMD DESTROY command frees a disabled idle ring and returns its quota. -/
  | rngDestroy (who : Issuer)
  /-- RING_CREATE (R258): The tenant opcode RING_CREATE on a CONTROL ring creates a ring of the niche. -/
  | ringCreate (w : Work) (desc : Nat)
  /-- RING_ENABLE (R258): The tenant opcode RING_ENABLE enables a ring of the niche. -/
  | ringEnable (w : Work)
  /-- RING_DISABLE (R258): The tenant opcode RING_DISABLE disables a ring of the niche. -/
  | ringDisable (w : Work)
  /-- RING_DESTROY (R258): The tenant opcode RING_DESTROY destroys a ring of the niche. -/
  | ringDestroy (w : Work)
  /-- RING_IDLE (R257): A disabled work ring's last taken work completes; IDLE is set and EV_RING_IDLE is raised. -/
  | ringIdle (ring : Nat)
  /-- RING_POLL (R259): A host-memory work ring due by interval, nudge or full batch is polled in COMMIT within the controller's budget. -/
  | ringPoll (h : Nat)
  /-- RING_POLL_DATA (R259): A poll's read returns, and the device takes the entries whose OWN is set in order. -/
  | ringPollData (ring : Nat) (entries : List Nat)
  /-- NUDGE (R261): A write of NCH_PG_NUDGE or RNG_MGR_NUDGE makes a host-memory ring due at the next boundary. -/
  | nudge (who : Issuer) (niche ring : Nat)
  /-- RESIDENT_RING_WRITE (R263): A host write into a resident ring slot arrives, the entry counting as arrived when byte 63 sets OWN. -/
  | residentRingWrite (who : Issuer) (off : Nat) (data : List Byte)
  /-- RESIDENT_INTAKE (R264): At a boundary arrived resident entries are taken in arrival order within the per-ring and device limits. -/
  | residentIntake
  /-- CQ_RELEASE (R253): A release of a completion ring returns slots, writes held entries and may re-arm the ring. -/
  | cqRelease (who : Issuer) (niche ring count : Nat) (arm : Bool)
  /-- EQ_RELEASE (R276): A release of an event ring returns slots and may re-arm its vector. -/
  | eqRelease (who : Issuer) (niche ring count : Nat) (arm : Bool)
  /-- CQ_RESTART (R271): At the first boundary after a release makes places non-zero, STOPPED clears and intake resumes. -/
  | cqRestart (ring : Nat)
  /-- EVENT_MSIX_SEND (R276): An armed event ring with unreturned entries sends its MSI-X vector once MOD_STROKES allows. -/
  | eventMsixSend (ring : Nat)
  /-- NOP (R248): The NOP work entry completes with ST_OK. -/
  | nop (w : Work)
  /-- SEND (R266): The SEND work entry transmits one Ethernet frame through a niche's scheduler queue. -/
  | send (w : Work)
  /-- RECV_POST (R267): The RECV_POST work entry posts a receive buffer to a RECEIVE ring. -/
  | recvPost (w : Work)
  /-- ABORT (R268): The ABORT work entry aborts the niche's work carrying a given tag. -/
  | abort (w : Work)
  /-- COPY (R298): The DMA COPY work entry moves a stream between address spaces on a channel. -/
  | copy (w : Work)
  /-- FILL (R298): The DMA FILL work entry writes a repeated 8-byte pattern to the destination. -/
  | fill (w : Work)
  /-- LIST (R301): The DMA LIST work entry runs a list of COPY and FILL elements in order with one completion. -/
  | list (w : Work) (elements : List Nat)
  /-- DMA_CHANNEL_START (R306): A queued DMA entry starts on an idle channel of its priority once its niche limit and fence allow. -/
  | dmaChannelStart (prio : Nat)
  /-- DMA_HALF_POINT (R309): Every stream byte below the half point has been written, and EV_DMA_HALF is raised. -/
  | dmaHalfPoint (chan : Nat)
  /-- DMA_PASS_END (R312): A transfer's last byte is visible; the entry completes, or raises EV_DMA_FULL and starts a new pass under REPEAT. -/
  | dmaPassEnd (chan : Nat)
  /-- TC_WAIT (R341): A thread loads TC_WAIT and returns pending masked events or enters WAIT. -/
  | tcWait (hart : Nat)
  /-- THREAD_WAKE (R341): A masked event becomes pending for a waiting thread, and its TC_WAIT load returns. -/
  | threadWake (hart : Nat)
  /-- TIMER_EVENT (R341): The time reaches TC_MTIMECMP, and the thread's TIMER bit becomes pending. -/
  | timerEvent (hart ns : Nat)
  /-- TC_BIND (R341): A write of TC_BIND binds a channel to an event bit of the thread. -/
  | tcBind (hart value : Nat)
  /-- TC_STROKE_DONE (R351): A stroke-bound thread writes TC_STROKE_DONE, ending its budgeted work for the stroke. -/
  | tcStrokeDone (hart cycles : Nat)
  /-- TC_CH_COMMIT (R339): A store to TC_CH_COMMIT appends the staged message to a channel, or reports full, no access or discarded. -/
  | tcChCommit (hart value : Nat)
  /-- CH_COMMIT_UNBLOCK (R339): A slot frees in a full channel, and a blocking commit that was waiting completes. -/
  | chCommitUnblock (chan : Nat)
  /-- TC_CH_DISCARD (R337): A write of TC_CH_DISCARD discards the thread's staged message. -/
  | tcChDiscard (hart : Nat)
  /-- TC_TAKE (R339): A load of TC_TAKE takes a channel's head message into TC_RECV and may enter niche context. -/
  | tcTake (hart ch : Nat)
  /-- TC_ITEM_DONE (R403): A store to TC_ITEM_DONE ends the item with a packet verdict and leaves niche context. -/
  | tcItemDone (hart value : Nat)
  /-- TC_DMA_SUBMIT (R340): A write of TC_DMA_SUBMIT hands the staged 64 bytes to the DMA engine as a work entry from the tile's port. -/
  | tcDmaSubmit (hart value : Nat)
  /-- SUP_INJECT (R347): The supervisor's write to SUP_INJECT sets INJECT for the threads in its mask. -/
  | supInject (hart mask : Nat)
  /-- SUP_KILL (R347): The supervisor's write to SUP_KILL stops the threads in its mask. -/
  | supKill (hart mask : Nat)
  /-- SUP_START (R347): The supervisor's write to SUP_START starts the STOPPED or FAULT threads in its mask. -/
  | supStart (hart mask : Nat)
  /-- SUP_RESTART (R347): The supervisor's write to SUP_RESTART restarts every member of a wait group. -/
  | supRestart (hart group : Nat)
  /-- SUP_DRAIN_DONE (R752): The supervisor of a DRAINING CONTROL tile writes SUP_DRAIN_DONE to report that its work has been handed on. -/
  | supDrainDone (hart : Nat)
  /-- THREAD_FAULT (R349): A DATAPATH thread takes an exception; its item ends or it enters FAULT, and a fault message goes to the supervisor. -/
  | threadFault (hart mcause mepc mtval : Nat)
  /-- SUPERVISOR_FAULT (R350): A supervisor or M-mode fault goes to the plinth, which pins a patina entry and holds the tile at the next boundary. -/
  | supervisorFault (hart mcause : Nat)
  /-- WAIT_CYCLE_REPORT (R346): A wait group's stuck count reaches LIMIT, and an EV_WAIT_CYCLE report goes to the supervisor or the plinth. -/
  | waitCycleReport (tile group : Nat)
  /-- WAIT_GROUP_RESTART (R348): At the boundary after a plinth report with PLINTH_ACTION set, the plinth restarts the group and journals it. -/
  | waitGroupRestart (tile group : Nat)
  /-- DEBUG_ACCESS (R354): A JTAG/DMI access to a tile debug module is served within the unlock scope, or answered with a DMI error. -/
  | debugAccess (hart kind addr value : Nat)
  /-- DEBUG_HALT (R355): The debugger halts a thread, which enters HALT. -/
  | debugHalt (hart : Nat)
  /-- DEBUG_RESUME (R332): The debugger resumes a halted thread to its state before HALT. -/
  | debugResume (hart : Nat)
  /-- TILE_DEBUG_HOLD (R355): At the boundary after a stroke-bound thread halts, the tile enters HELD for debug and leaves the spreader rotation. -/
  | tileDebugHold (tile : Nat)
  /-- TILE_DEBUG_RELEASE (R355): At the boundary after no stroke-bound thread remains halted, the tile enters PROBATION. -/
  | tileDebugRelease (tile : Nat)
  /-- STAGED_DISCARD (R357): A halt has lasted 2^20 strokes; the staged message is discarded and journaled. -/
  | stagedDiscard (hart : Nat)
  /-- FRAME_RECEIVE (R55): A MAC receives a frame, time-stamps it and queues it to its parse cluster. -/
  | frameReceive (mac : Nat) (data : List Byte) (ns sub : Nat)
  /-- PARSE_FRAME (R378): A parse engine runs its program on a frame and releases the header vector in source order. -/
  | parseFrame (id engine vec : Nat)
  /-- PIPELINE_ENTRY (R385): A vector enters a match pipeline, takes the live version and a sequence number, and is looked up and acted on stage by stage. -/
  | pipelineEntry (id park : Nat)
  /-- PARK_LOOKUP_RETURN (R385): A stacked-memory lookup returns, and its parked vector continues through the pipeline. -/
  | parkLookupReturn (id park : Nat)
  /-- RESIDENCY_TIMEOUT (R385): A parked vector's lookup has not returned 4 strokes after entry; it is discarded and its sequence released. -/
  | residencyTimeout (id : Nat)
  /-- PIPELINE_EXIT (R393): The deparser rewrites the frame and sends it to its DEST: queue, ring, tile, Turelm, fabric, control or drop. -/
  | pipelineExit (id : Nat) (patch : List (Nat × Byte))
  /-- SPREADER_DISPATCH (R402): The spreader copies a packet into a slot of the next eligible tile and commits its packet message. -/
  | spreaderDispatch
  /-- REORDER_SKIP (R408): SKIP_STROKES boundaries pass with a missing sequence, and it is skipped and the held packets leave. -/
  | reorderSkip (domain : Nat)
  /-- GROUP_DEFINE (R388): The PRS_CMD GROUP_DEFINE command defines the mask of a mask group. -/
  | groupDefine (who : Issuer) (desc : Nat)
  /-- RULE_WRITE (R388): The PRS_CMD RULE_WRITE command writes a masked rule. -/
  | ruleWrite (who : Issuer) (desc : Nat)
  /-- RULE_DELETE (R388): The PRS_CMD RULE_DELETE command deletes a masked rule. -/
  | ruleDelete (who : Issuer) (desc : Nat)
  /-- ACTION_WRITE (R389): The PRS_CMD ACTION_WRITE command writes an action entry after checking its operations. -/
  | actionWrite (who : Issuer) (entry : Nat)
  /-- TEMPLATE_WRITE (R393): The PRS_CMD TEMPLATE_WRITE command writes an ENCAP template. -/
  | templateWrite (who : Issuer) (template : Nat)
  /-- COUNTER_CLEAR (R395): The PRS_CMD COUNTER_CLEAR command clears a packet and byte counter pair. -/
  | counterClear (who : Issuer)
  /-- DEFAULT_ACTION (R384): The PRS_CMD DEFAULT_ACTION command sets a table's miss action. -/
  | defaultAction (who : Issuer)
  /-- VER_COMMIT (R398): The PRS_CMD VER_COMMIT command schedules the staged version to become live. -/
  | verCommit (who : Issuer)
  /-- VER_ABORT (R399): The PRS_CMD VER_ABORT command discards the staged changes. -/
  | verAbort (who : Issuer)
  /-- VERSION_SWITCH (R398): At the boundary after a commit with no OLD live, the staged version becomes live and the previous one OLD. -/
  | versionSwitch
  /-- VERSION_RETIRE (R398): The last vector stamped OLD leaves; OLD retires, dead entries are cleaned, and EV_PRS_VER_DONE is raised. -/
  | versionRetire
  /-- INSERT (R434): The TBL_CMD INSERT command inserts a flow or L2 entry through the update engine. -/
  | insert (who : Issuer) (desc : Nat)
  /-- DELETE (R437): The TBL_CMD DELETE command removes an entry. -/
  | delete (who : Issuer) (desc : Nat)
  /-- QUERY (R432): The TBL_CMD QUERY command writes the entry it finds back over the descriptor. -/
  | query (who : Issuer) (desc : Nat)
  /-- PFX_INSERT (R448): The TBL_CMD PFX_INSERT command inserts a prefix and raises its filter counters. -/
  | pfxInsert (who : Issuer) (desc : Nat)
  /-- PFX_DELETE (R448): The TBL_CMD PFX_DELETE command removes a prefix and then lowers its filter counters. -/
  | pfxDelete (who : Issuer) (desc : Nat)
  /-- L2_FLUSH (R443): The TBL_CMD L2_FLUSH command removes the matching LEARNED entries of an L2 table. -/
  | l2Flush (who : Issuer)
  /-- REHASH_START (R449): The TBL_CMD REHASH_START command starts building a shadow table under a new seed. -/
  | rehashStart (who : Issuer)
  /-- REHASH_COPY_DONE (R449): The copier finishes or a shadow insertion fails; the rehash becomes READY or FAILED. -/
  | rehashCopyDone
  /-- REHASH_SWITCH (R449): The TBL_CMD REHASH_SWITCH command makes the shadow live at the next boundary. -/
  | rehashSwitch (who : Issuer)
  /-- REHASH_SWITCH_END (R449): 4 strokes after the switch the old table returns to the reserve, and the rehash is IDLE. -/
  | rehashSwitchEnd
  /-- REHASH_ABORT (R449): The TBL_CMD REHASH_ABORT command discards the shadow. -/
  | rehashAbort (who : Issuer)
  /-- REHASH_STATE_READ (R464): A read of TBL_REHASH that finds FAILED returns the rehash to IDLE. -/
  | rehashStateRead (who : Issuer)
  /-- FLOW_INSERT (R450): The tenant opcode FLOW_INSERT inserts an entry into a TENANT table. -/
  | flowInsert (w : Work) (desc : Nat)
  /-- FLOW_DELETE (R450): The tenant opcode FLOW_DELETE removes an entry of the niche. -/
  | flowDelete (w : Work) (desc : Nat)
  /-- FLOW_QUERY (R450): The tenant opcode FLOW_QUERY returns the niche's entry in the completion. -/
  | flowQuery (w : Work) (desc : Nat)
  /-- L2_LEARN (R441): The update engine serves a queued learn request by inserting a LEARNED entry, within RATE per stroke. -/
  | l2Learn (table : Nat)
  /-- L2_MOVE (R442): A move of a LEARNED entry rewrites ACTION and SOURCE, or is held back as a flap. -/
  | l2Move (table : Nat)
  /-- MOVE_FLAG_CLEAR (R434): The drain interval after a MOVE flag was set passes, and the flag is cleared. -/
  | moveFlagClear (table place : Nat)
  /-- AGING_SWEEP (R444): The aging sweep visits entries, clearing HIT or removing unhit entries and raising EV_FLOW_AGED. -/
  | agingSweep (table : Nat)
  /-- QUEUE_BIND (R471): The SCH_CMD QUEUE_BIND command gives a queue to a niche under a local index. -/
  | queueBind (who : Issuer)
  /-- QUEUE_UNBIND (R471): The SCH_CMD QUEUE_UNBIND command unbinds an empty queue. -/
  | queueUnbind (who : Issuer)
  /-- POLICER_BIND (R490): The SCH_CMD POLICER_BIND command gives a policer to a niche. -/
  | policerBind (who : Issuer)
  /-- POLICER_UNBIND (R492): The SCH_CMD POLICER_UNBIND command unbinds a policer and clears its counters. -/
  | policerUnbind (who : Issuer)
  /-- GCL_SET (R484): The SCH_CMD GCL_SET command loads a gate control list into the inactive bank as pending. -/
  | gclSet (who : Issuer) (gcl : Nat)
  /-- GCL_CANCEL (R484): The SCH_CMD GCL_CANCEL command discards a port's pending list. -/
  | gclCancel (who : Issuer)
  /-- GCL_SWITCH (R485): At the switch instant the pending list enters force and EV_GCL_SWITCH is raised. -/
  | gclSwitch (port : Nat)
  /-- SHAPER_CHANGE (R480): A write of SCH_NODE_SHAPE changes a shaper, at the next refill if seamless or otherwise at the next boundary. -/
  | shaperChange (who : Issuer) (value : Nat)
  /-- POLICER_APPLY (R491): A write of SCH_POL_CFG.APPLY applies the held policer parameters at the next boundary with full buckets. -/
  | policerApply (who : Issuer) (mode : Nat)
  /-- TRANSMIT_LIST_BUILD (R476): During RUN the scheduler builds and seals each port's transmit list for the next stroke. -/
  | transmitListBuild (port : Nat)
  /-- FRAME_TRANSMIT (R474): A frame starts on the wire at its placed instant; time-stamps and SENT completions follow. -/
  | frameTransmit (port sub : Nat)
  /-- TL_WRITE (R517): The TL_WRITE work entry sends a one-sided write to a remote window. -/
  | tlWrite (w : Work)
  /-- TL_WRITE_IMM (R517): The TL_WRITE_IMM work entry writes and completes at the receiver with IMM. -/
  | tlWriteImm (w : Work)
  /-- TL_SEND (R517): The TL_SEND work entry sends a message into a remote endpoint's receive buffers. -/
  | tlSend (w : Work)
  /-- TL_READ (R517): The TL_READ work entry reads a remote window into a local window. -/
  | tlRead (w : Work)
  /-- TL_ATOMIC (R518): The TL_ATOMIC work entry performs an 8-byte atomic on a remote window. -/
  | tlAtomic (w : Work)
  /-- TL_FLUSH (R534): The TL_FLUSH work entry confirms placement and visibility of earlier work to a device once that work has settled. -/
  | tlFlush (w : Work)
  /-- TL_RECV (R530): The TL_RECV work entry posts a receive buffer to a local endpoint. -/
  | tlRecv (w : Work)
  /-- EP_OPEN (R512): The EP_OPEN work entry allocates an endpoint. -/
  | epOpen (w : Work)
  /-- EP_CLOSE (R547): The EP_CLOSE work entry closes an endpoint at the next boundary, ending its messages and buffers. -/
  | epClose (w : Work)
  /-- EP_HOLD_EXPIRY (R547): EP_HOLD strokes pass, and a closed endpoint ID becomes reusable. -/
  | epHoldExpiry (ep : Nat)
  /-- WIN_OPEN (R538): The WIN_OPEN work entry opens a window at a never-issued generation, completing at the next boundary. -/
  | winOpen (w : Work)
  /-- WIN_REWRITE (R540): The WIN_REWRITE work entry revokes and reopens a window under the same index. -/
  | winRewrite (w : Work)
  /-- WIN_REVOKE (R539): The WIN_REVOKE work entry raises a window's generation at the next boundary. -/
  | winRevoke (w : Work)
  /-- REVOKE_FENCE (R539): After the generation switch and the issue of earlier passed placements, the revoke completion is written. -/
  | revokeFence (index : Nat)
  /-- WRAP_HOLD_EXPIRY (R540): WRAP_HOLD strokes pass, and a wrapped window index is reused from generation 1. -/
  | wrapHoldExpiry (index : Nat)
  /-- PD_ALLOC (R513): The PD_ALLOC work entry allocates a protection domain. -/
  | pdAlloc (w : Work)
  /-- PD_FREE (R513): The PD_FREE work entry frees an unused protection domain. -/
  | pdFree (w : Work)
  /-- WIRE_DATA_RECEIVE (R527): A received WRITE, WRITE_IMM or SEND packet is checked and placed by offset, or held, NAKed or discarded. -/
  | wireDataReceive (p : TlPkt)
  /-- WIRE_READ_REQ_RECEIVE (R537): A received READ_REQ is served with READ_RESP chunks. -/
  | wireReadReqReceive (p : TlPkt)
  /-- WIRE_READ_RESP_RECEIVE (R532): A received READ_RESP chunk is placed in the requester's local window. -/
  | wireReadRespReceive (p : TlPkt)
  /-- WIRE_ATOMIC_RECEIVE (R536): A received ATOMIC is executed once and answered with ATOMIC_RESP. -/
  | wireAtomicReceive (p : TlPkt)
  /-- WIRE_ATOMIC_RESP_RECEIVE (R532): A received ATOMIC_RESP completes the requester's TL_ATOMIC. -/
  | wireAtomicRespReceive (p : TlPkt)
  /-- WIRE_FLUSH_RECEIVE (R534): A received FLUSH starts the visibility reads for that peer. -/
  | wireFlushReceive (p : TlPkt)
  /-- FLUSH_VISIBILITY_DONE (R534): The visibility reads complete, and FLUSH_ACK is sent. -/
  | flushVisibilityDone (peer msg : Nat)
  /-- WIRE_FLUSH_ACK_RECEIVE (R535): A received FLUSH_ACK completes the TL_FLUSH with ST_OK or ST_TL_FLUSH_FAILED. -/
  | wireFlushAckReceive (p : TlPkt)
  /-- WIRE_ACK_RECEIVE (R541): A received ACK records acknowledged chunks, resets timers and gives round-trip samples. -/
  | wireAckReceive (p : TlPkt)
  /-- WIRE_NAK_RECEIVE (R541): A received NAK fails the message, or arms a busy back-off for ST_RECEIVER_BUSY. -/
  | wireNakReceive (p : TlPkt)
  /-- WIRE_ABANDON_RECEIVE (R533): A received ABANDON records the ID complete with no completion. -/
  | wireAbandonReceive (p : TlPkt)
  /-- DEFERRED_ACK (R531): At the first boundary after chunks of an open message arrived, one ACK covering them is sent. -/
  | deferredAck (peer msg : Nat)
  /-- ORDERED_COMPLETION_RELEASE (R548): Lower OSEQ completions of a lane are written, and a waiting ordered message completes. -/
  | orderedCompletionRelease (peer msg : Nat)
  /-- MESSAGE_TIMEOUT (R541): A message's timer expires; unacknowledged chunks are resent with back-off, or the message fails after LIMIT. -/
  | messageTimeout (peer msg : Nat)
  /-- BUSY_BACKOFF_EXPIRY (R541): A chunk's busy back-off expires, and the chunk is resent. -/
  | busyBackoffExpiry (peer msg chunk : Nat)
  /-- CONTEXT_RECALL_DONE (R545): An evicted endpoint context arrives; held packets are handled in order, or the endpoint is lost if a host read failed. -/
  | contextRecallDone (ep status : Nat)
  /-- NVME_SQ_DOORBELL (R575): An SQ tail doorbell arrives, and the queue becomes fetchable at the next boundary or an error notice is posted. -/
  | nvmeSqDoorbell (ctrl qid value : Nat)
  /-- NVME_CQ_DOORBELL (R575): A CQ head doorbell frees completion queue slots. -/
  | nvmeCqDoorbell (ctrl qid value : Nat)
  /-- NVME_FETCH (R578): At each boundary the front-end arbitrates and issues fetches of submission entries within the budget. -/
  | nvmeFetch
  /-- NVME_COMMAND_FORWARD (R581): Fetched entries arrive and each command is checked and served locally or forwarded to its tile back end. -/
  | nvmeCommandForward (ctrl sqid : Nat)
  /-- NVME_READ (R581): An NVMe Read is served from a LOCAL or POOL namespace with PI checks. -/
  | nvmeRead (h : Nat) (bad : Bool)
  /-- NVME_WRITE (R581): An NVMe Write is served to a LOCAL or POOL namespace with PI checks. -/
  | nvmeWrite (h : Nat)
  /-- COMPARE (R581): An NVMe Compare reads the blocks and host data and reports Compare Failure at a difference. -/
  | compare (h : Nat) (bad : Bool)
  /-- WRITE_ZEROES (R581): An NVMe Write Zeroes writes zero data and PI. -/
  | writeZeroes (h : Nat)
  /-- DATASET_MANAGEMENT (R581): An NVMe Dataset Management deallocate writes zero data. -/
  | datasetManagement (h : Nat)
  /-- VERIFY (R581): An NVMe Verify reads the blocks and checks PI. -/
  | verify (h : Nat) (bad : Bool)
  /-- NVME_FLUSH (R581): An NVMe Flush completes once earlier completed writes of the namespace are complete. -/
  | nvmeFlush (h : Nat)
  /-- NVS_DATA (R583): The NVS_DATA work entry moves data between a command's host buffers and local memory with PI handling. -/
  | nvsData (w : Work)
  /-- NVS_COMPLETE (R583): The NVS_COMPLETE work entry ends an NVMe command with a status. -/
  | nvsComplete (w : Work)
  /-- CREATE_IO_SQ (R574): The admin Create I/O Submission Queue command creates a queue and takes a queue-pair quota unit. -/
  | createIoSq (h : Nat)
  /-- DELETE_IO_SQ (R588): The admin Delete I/O Submission Queue command aborts the queue's commands and deletes it. -/
  | deleteIoSq (h : Nat)
  /-- CREATE_IO_CQ (R574): The admin Create I/O Completion Queue command creates a completion queue. -/
  | createIoCq (h : Nat)
  /-- DELETE_IO_CQ (R588): The admin Delete I/O Completion Queue command deletes it, or fails while SQs are attached. -/
  | deleteIoCq (h : Nat)
  /-- IDENTIFY (R589): The admin Identify command returns the supported CNS data. -/
  | identify (h : Nat)
  /-- GET_LOG_PAGE (R589): The admin Get Log Page command returns a supported log page. -/
  | getLogPage (h : Nat)
  /-- SET_FEATURES (R589): The admin Set Features command sets a supported feature. -/
  | setFeatures (h : Nat)
  /-- GET_FEATURES (R589): The admin Get Features command returns a supported feature. -/
  | getFeatures (h : Nat)
  /-- ASYNC_EVENT_REQUEST (R589): The admin Asynchronous Event Request is held until a notice completes it. -/
  | asyncEventRequest (h : Nat)
  /-- NVME_ABORT (R587): The admin Abort command aborts a named command if the abort commits first. -/
  | nvmeAbort (h : Nat)
  /-- FIRMWARE_IMAGE_DOWNLOAD (R590): The admin Firmware Image Download copies a part into niche 0's staging region, or fails. -/
  | firmwareImageDownload (h : Nat)
  /-- FIRMWARE_COMMIT (R590): The admin Firmware Commit stays pending and raises EV_NVS_FW_COMMIT to the manager, or fails. -/
  | firmwareCommit (h : Nat)
  /-- DEVICE_SELF_TEST (R591): The admin Device Self-test command starts or aborts a short or extended self-test. -/
  | deviceSelfTest (h : Nat)
  /-- SELF_TEST_WORK (R591): In a stroke with no fetchable queue, the self-test issues up to 4 operations of its segments. -/
  | selfTestWork (ctrl : Nat) (bad : Bool)
  /-- CC_ENABLE (R569): The host sets CC.EN, and the controller becomes ready or fails with CSTS.CFS. -/
  | ccEnable (ctrl cc aqa asq acq : Nat)
  /-- CC_DISABLE (R588): The host clears CC.EN, and the controller resets its queues and handles at the next boundary. -/
  | ccDisable (ctrl : Nat)
  /-- CC_SHUTDOWN (R588): The host sets CC.SHN, and fetching stops. -/
  | ccShutdown (ctrl shn : Nat)
  /-- SHUTDOWN_COMPLETE (R588): Every outstanding command has completed after a shutdown, and SHST reads 2h. -/
  | shutdownComplete (ctrl : Nat)
  /-- INTERRUPT_COALESCE_EXPIRY (R577): The aggregation time of a completion queue expires, and its MSI-X message is sent. -/
  | interruptCoalesceExpiry (ctrl cq : Nat)
  /-- CTRL_CREATE (R571): The NVS_CMD CTRL_CREATE command creates an NVMe controller on a niche's NVME function. -/
  | ctrlCreate (who : Issuer) (desc : Nat)
  /-- CTRL_DESTROY (R594): The NVS_CMD CTRL_DESTROY command destroys a disabled controller. -/
  | ctrlDestroy (who : Issuer)
  /-- NS_CREATE (R572): The NVS_CMD NS_CREATE command creates and zeroes a namespace. -/
  | nsCreate (who : Issuer) (desc : Nat)
  /-- NS_DESTROY (R573): The NVS_CMD NS_DESTROY command destroys a detached namespace. -/
  | nsDestroy (who : Issuer)
  /-- NS_ATTACH (R573): The NVS_CMD NS_ATTACH command gives a namespace an NSID on a controller at the next boundary. -/
  | nsAttach (who : Issuer)
  /-- NS_DETACH (R573): The NVS_CMD NS_DETACH command removes a namespace's NSID and completes when its commands are done. -/
  | nsDetach (who : Issuer)
  /-- FW_DONE (R590): The NVS_CMD FW_DONE command ends a pending Firmware Commit. -/
  | fwDone (who : Issuer) (block : Nat)
  /-- CIPHER (R617): The CIPHER work entry encrypts or decrypts on a cipher slice. -/
  | cipher (w : Work)
  /-- DIGEST (R617): The DIGEST work entry computes a hash or HMAC. -/
  | digest (w : Work)
  /-- PKEY (R617): The PKEY work entry performs a public-key or post-quantum operation. -/
  | pkey (w : Work)
  /-- COMPRESS (R617): The COMPRESS work entry compresses data on a compression slice. -/
  | compress (w : Work)
  /-- DECOMPRESS (R618): The DECOMPRESS work entry decompresses data, or reports corrupt or unsupported input. -/
  | decompress (w : Work)
  /-- CRC (R618): The CRC work entry computes a CRC on an integrity slice. -/
  | crc (w : Work)
  /-- EC_ENCODE (R617): The EC_ENCODE work entry writes Reed-Solomon parity fragments. -/
  | ecEncode (w : Work)
  /-- EC_DECODE (R619): The EC_DECODE work entry rebuilds erased fragments from K survivors. -/
  | ecDecode (w : Work)
  /-- SCRUB (R620): The SCRUB work entry checks PI guards of blocks at a paced rate and reports failing blocks. -/
  | scrub (w : Work)
  /-- KEY_LOAD (R610): The KEY_LOAD work entry loads key material into the key store and returns a handle. -/
  | keyLoad (w : Work) (host : List Byte)
  /-- KEY_GENERATE (R610): The KEY_GENERATE work entry generates a key in the device and returns a handle. -/
  | keyGenerate (w : Work)
  /-- KEY_DESTROY (R611): The KEY_DESTROY work entry makes a handle unusable from the next boundary. -/
  | keyDestroy (w : Work)
  /-- KEY_DESTROY_FENCE (R611): Every frame and entry that used the key has left its slice; the material is overwritten and the completion written. -/
  | keyDestroyFence (index : Nat)
  /-- SEG_CREATE (R647): The FAB_CMD SEG_CREATE command creates a pool segment and opens its window. -/
  | segCreate (who : Issuer) (desc : Nat)
  /-- SEG_DESTROY (R650): The FAB_CMD SEG_DESTROY command returns a CLOSED segment's range. -/
  | segDestroy (who : Issuer)
  /-- SEG_GRANT (R648): The FAB_CMD SEG_GRANT command writes a grant entry of a segment. -/
  | segGrant (who : Issuer) (entry : Nat)
  /-- SEG_REVOKE (R650): The FAB_CMD SEG_REVOKE command raises the segment window's generation, optionally reopening it. -/
  | segRevoke (who : Issuer)
  /-- IMPORT_ADD (R651): The FAB_CMD IMPORT_ADD command records an import of a pool segment for a niche. -/
  | importAdd (who : Issuer) (entry : Nat)
  /-- IMPORT_DEL (R651): The FAB_CMD IMPORT_DEL command removes an import. -/
  | importDel (who : Issuer)
  /-- APERTURE_SET (R653): The FAB_CMD APERTURE_SET command binds or unbinds a BAR4 aperture slot to an import. -/
  | apertureSet (who : Issuer)
  /-- FAB_TEMPLATE_WRITE (R641): The FAB_CMD TEMPLATE_WRITE command writes an underlay template. -/
  | fabTemplateWrite (who : Issuer) (template : Nat)
  /-- SEED_WRITE (R657): The FAB_CMD SEED_WRITE command writes or clears a seed address. -/
  | seedWrite (who : Issuer) (addr : Nat)
  /-- RMT_READ (R655): The FAB_CMD RMT_READ command reads a remote device's register. -/
  | rmtRead (who : Issuer)
  /-- RMT_WRITE (R655): The FAB_CMD RMT_WRITE command writes a remote device's register. -/
  | rmtWrite (who : Issuer)
  /-- POOL_ATOMIC (R654): The POOL_ATOMIC work entry performs an 8-byte atomic on a pool address. -/
  | poolAtomic (w : Work)
  /-- APERTURE_ACCESS (R653): A host read or write to a BAR4 aperture slot is sent to the pool address under its import. -/
  | apertureAccess (who : Issuer) (off len : Nat) (data : Option (List Byte))
  /-- APERTURE_READ_TIMEOUT (R653): An aperture read is unanswered after APT_TIMEOUT_US, and it completes with Completer Abort. -/
  | apertureReadTimeout (id : Nat)
  /-- FABRIC_ENABLE (R635): FAB_CFG.ENABLE is set, and the device starts discovery. -/
  | fabricEnable (who : Issuer) (value : Nat)
  /-- FABRIC_DISABLE (R635): FAB_CFG.ENABLE is cleared, and the device releases its ID. -/
  | fabricDisable (who : Issuer) (value : Nat)
  /-- HELLO_TIMER (R635): Every HELLO_PERIOD the device sends HELLOs and retries pending ID requests and member updates. -/
  | helloTimer
  /-- ELECTION_SETTLED (R634): COORD_ID has been unchanged for ELECT_WAIT periods, and the device coordinates or requests an ID. -/
  | electionSettled
  /-- COORDINATOR_TIMEOUT (R635): The coordinator has been silent for DEAD_HELLOS periods, and the election runs again. -/
  | coordinatorTimeout
  /-- NEIGHBOUR_TIMEOUT (R644): A neighbour has not sent a HELLO within DEAD_HELLOS periods and leaves the neighbour list. -/
  | neighbourTimeout (mac : Nat)
  /-- HELLO (R634): A received HELLO updates neighbours, election state and journal epochs, or is discarded as foreign. -/
  | hello (mac : Nat) (p : TlPkt)
  /-- ID_REQUEST (R636): The coordinator decides a received ID_REQUEST and answers with ID_ASSIGN. -/
  | idRequest (p : TlPkt)
  /-- ID_ASSIGN (R635): A received ID_ASSIGN grants the device an ID or reports a refusal. -/
  | idAssign (p : TlPkt)
  /-- ID_REVOKE (R638): A received ID_REVOKE releases the device's ID at the next boundary and fails unsettled work. -/
  | idRevoke (p : TlPkt)
  /-- MEMBER_UPDATE (R639): A received MEMBER_UPDATE is applied in VERSION order at the next boundary. -/
  | memberUpdate (p : TlPkt)
  /-- MEMBER_ACK (R639): A received MEMBER_ACK stops the coordinator's retries of that update. -/
  | memberAck (p : TlPkt)
  /-- PROBE (R642): A received PROBE is answered with PROBE_ACK. -/
  | probe (p : TlPkt)
  /-- PROBE_ACK (R642): A received PROBE_ACK echoes a path, returning it to UP. -/
  | probeAck (p : TlPkt)
  /-- LINK_STATE (R644): A received newer LINK_STATE is flooded and updates the routes. -/
  | linkState (mac : Nat) (p : TlPkt)
  /-- LINK_STATE_TIMER (R644): Every 64 HELLO periods, or at a neighbour change, the device sends its LINK_STATE. -/
  | linkStateTimer
  /-- ROUTE_TABLE_SWITCH (R644): The recomputed route table is switched in at a boundary within 64 strokes of the change. -/
  | routeTableSwitch
  /-- REG_ACCESS (R655): A received REG_ACCESS is executed once at the target, or refused, and answered with REG_RESP. -/
  | regAccess (p : TlPkt)
  /-- REG_RESP (R655): A received REG_RESP completes RMT_READ or RMT_WRITE. -/
  | regResp (p : TlPkt)
  /-- PATH_SILENT (R642): SILENT strokes pass without an echo, and the path becomes SUSPECT. -/
  | pathSilent (peer path : Nat)
  /-- PATH_IDLE_PROBE (R642): An UP path idle for PROBE_PERIOD strokes is probed. -/
  | pathIdleProbe (peer path : Nat)
  /-- PROBE_RETRY_EXPIRY (R642): A probe of a SUSPECT or TRIAL path goes unanswered for PROBE_RETRY strokes; the path is reprobed, resprayed or goes DOWN. -/
  | probeRetryExpiry (peer path : Nat)
  /-- PATH_REVIVE (R642): REVIVE strokes pass, and a DOWN path enters TRIAL with a new source port. -/
  | pathRevive (peer path : Nat)
  /-- ETH_LINK_CHANGE (R642): An Ethernet link goes down or up, moving its fabric paths to DOWN or TRIAL. -/
  | ethLinkChange (mac : Nat) (up : Bool)
  /-- REGULATION_RUN (R677): A loop runs at a boundary that is a multiple of its PERIOD, sampling and evaluating its targets. -/
  | regulationRun (l : Nat) (samples : List (Nat × Nat))
  /-- REGULATION_APPLY (R678): At the boundary after a run's last target its changes apply or its advice is written. -/
  | regulationApply (l : Nat)
  /-- ENVELOPE_APPLY (R682): A new envelope or outer limit applies at the next boundary and clamps regulated fields in ACT. -/
  | envelopeApply (l : Nat)
  /-- ADVICE_ACCEPT (R689): A write of RGL_ADV_ACCEPT applies the masked proposals at the next boundary, or is refused. -/
  | adviceAccept (who : Issuer) (l run : Nat)
  /-- DECISION_JOURNAL_FLUSH (R690): Every JNL_STROKES strokes a loop's merged decision entry is journaled. -/
  | decisionJournalFlush (l : Nat)
  /-- READ (R717): The JNL_CMD READ command copies journal entries and a trailer to a buffer. -/
  | read (who : Issuer) (bad : List Nat)
  /-- READ_PREV (R717): The JNL_CMD READ_PREV command copies entries of the previous-epoch tail. -/
  | readPrev (who : Issuer)
  /-- MARK (R716): The JNL_CMD MARK command writes a MARK entry with the manager's 28 bytes. -/
  | mark (who : Issuer) (block : Nat)
  /-- JOURNAL_ACK (R718): A write of JNL_ACK reports the sequence consumed and rearms the lag checks. -/
  | journalAck (who : Issuer) (value : Nat)
  /-- PATINA_READ_LATCH (R726): A read of PAT_RD_0 latches the whole selected patina entry for that accessor. -/
  | patinaReadLatch (who : Issuer)
  /-- READ_JOURNAL (R727): The platform's MCTP READ_JOURNAL returns journal entries. -/
  | readJournal (eid start n : Nat) (bad : List Nat)
  /-- READ_PREV_JOURNAL (R727): The platform's MCTP READ_PREV_JOURNAL returns previous-epoch tail entries. -/
  | readPrevJournal (eid start n : Nat)
  /-- READ_PATINA (R727): The platform's MCTP READ_PATINA returns patina entries. -/
  | readPatina (eid start n : Nat)
  /-- READ_PINNED (R727): The platform's MCTP READ_PINNED returns pinned patina entries. -/
  | readPinned (eid start n : Nat)
  /-- CLEAR_PINNED (R724): The platform's MCTP CLEAR_PINNED clears the pinned patina entries and is journaled. -/
  | clearPinned (eid : Nat)
  /-- PWR_READ (R797): The platform's MCTP PWR_READ reads a PWR register. -/
  | pwrRead (eid off : Nat)
  /-- SVC_READ (R747): The platform's MCTP SVC_READ reads an SVC register. -/
  | svcRead (eid off : Nat)
  /-- DRAIN (R751): The SVC_CMD DRAIN command starts draining a unit at the next boundary. -/
  | drain (who : Issuer)
  /-- DRAIN_CANCEL (R748): The SVC_CMD CANCEL command returns a DRAINING unit to ACTIVE. -/
  | drainCancel (who : Issuer)
  /-- UNIT_DRAINED (R748): A DRAINING unit's accepted work is finished, and it enters HELD at the next boundary. -/
  | unitDrained (kind index : Nat)
  /-- UNIT_DRAIN_TIMEOUT (R753): DRAIN_LIMIT strokes elapse, and the unit is forced to HELD, ending its remaining work. -/
  | unitDrainTimeout (kind index : Nat)
  /-- TEST (R754): The SVC_CMD TEST command runs a HELD unit's self-test. -/
  | test (who : Issuer)
  /-- TEST_DONE (R754): A unit self-test finishes and reports its result. -/
  | testDone (kind index : Nat) (pass : Bool)
  /-- READMIT (R760): The SVC_CMD READMIT command self-tests and reloads a HELD unit and admits it under probation. -/
  | readmit (who : Issuer)
  /-- PROBATION_STEP (R760): Every 64 strokes of probation a unit's share doubles. -/
  | probationStep (kind index : Nat)
  /-- PROBATION_END (R760): 256 strokes without failure pass, and the unit becomes ACTIVE. -/
  | probationEnd (kind index : Nat)
  /-- SUBSTITUTE (R755): The SVC_CMD SUBSTITUTE command gives a HELD tile's logical tile to a STANDBY tile. -/
  | substitute (who : Issuer)
  /-- RETIRE (R761): The SVC_CMD RETIRE command retires a HELD unit, consuming a step of tally 3. -/
  | retire (who : Issuer)
  /-- REPAIR (R759): The SVC_CMD REPAIR command runs post-package repair of a row on a HELD pseudo-channel. -/
  | repair (who : Issuer)
  /-- REPAIR_DONE (R759): A post-package repair finishes within 2 s. -/
  | repairDone (index : Nat) (ok : Bool)
  /-- SPARE (R757): The SVC_CMD SPARE command starts sparing a pseudo-channel to its stack's reserve. -/
  | spare (who : Issuer)
  /-- SPARE_SWITCH (R757): At the boundary after the sparing copy ends, the spare replaces the pseudo-channel. -/
  | spareSwitch (stack : Nat)
  /-- PLINTH_SWITCH (R765): The SVC_CMD PLINTH_SWITCH command restarts the plinth into the selected firmware slot. -/
  | plinthSwitch (who : Issuer)
  /-- PLINTH_READY (R765): The new plinth firmware reports ready within 2 s, and RESULT is 1. -/
  | plinthReady
  /-- PLINTH_SWITCH_TIMEOUT (R765): Ready has not come within 2 s, and the hardware reverts to the previous slot. -/
  | plinthSwitchTimeout
  /-- PLINTH_LOCKSTEP_RESTART (R762): A lockstep mismatch of the plinth cores restarts the plinth without stopping the datapath. -/
  | plinthLockstepRestart
  /-- UNIT_FAILURE (R748): A replaceable unit fails; it is held at the next boundary if AUTO_HOLD is set, and its work ends. -/
  | unitFailure (kind index code : Nat)
  /-- CORRECTED_ERROR (R762): A corrected error is counted toward the pseudo-channel's CE_LIMIT. -/
  | correctedError (pc : Nat)
  /-- RECOVERY_ENTRY (R763): A device-contained error moves the device to RECOVERY at the next boundary, aborting affected work and starting the rebuild. -/
  | recoveryEntry (structure_ : Nat) (bank : List Nat)
  /-- RECOVERY_EXIT (R763): The rebuild is complete, RECOVERY_MIN has passed and RECOVERY_HOLD is clear; the device returns to SERVICE. -/
  | recoveryExit (rebuilt : Bool)
  /-- FUNCTION_READY (R183): 20 ms after PERST is deasserted or a hot reset ends, the functions stop answering Request Retry Status and each sends a Function Readiness Status message. -/
  | functionReady (ap : Nat)
  /-- ARMATURE_RELOAD_DONE (R760): The self-test and armature reload of a readmitted unit, or the image load of a substitute tile, completes, and the unit joins in PROBATION at the next boundary. -/
  | armatureReloadDone (kind index : Nat)
  /-- ACCELERATOR_WORK_DONE (R618): A slice finishes an accelerator ring entry, writing its output and committing its completion with its RESULT or error status. -/
  | acceleratorWorkDone (w : Work) (slice load : Nat) (bad : List Nat)
  /-- READ_CLEARS (R23): A read of an RC field, such as ARM_MAQ_STATUS.DONE, ACC_SLICE_s.LOAD_PCT or the PEAK fields of TIL_SB_PEAK, PRS_RO_STATUS, NVS_INFLIGHT, PWR_TEMP and PWR_POWER, returns the value and clears it. -/
  | readClears (who : Issuer) (offset : Nat)
  deriving DecidableEq, Repr

end Sys2Proof
end

