-- ==== Sys2Proof/Config.lean ====
section
/-!
DEFINITION. What an implementation fixes, and the values the spec leaves open.
Every constant here is opaque: nothing can be proved about its value, so a
statement that mentions one holds whatever the value is.
-/
namespace Sys2Proof.Config

/-- R708, R123, R549: values drawn at random. The n-th draw. -/
opaque freeNat : Nat → Nat

/-- R711, R713, R111: SHA-384 of a byte string held as (length, little-endian number).
The function is fixed by FIPS 180-4, not by this spec; the model keeps it uninterpreted. -/
opaque sha384 : Nat → Nat → Nat

/-- R607 to R620: the output bytes of a cipher, digest, public-key, compression or
erasure operation: function selector, key material, input bytes. -/
opaque accel : Nat → Nat → List Byte → List Byte

/-- R617 to R620: whether an accelerator input passes the check its standard gives
(an authentication tag, a compressed stream, a signature). -/
opaque accelOk : Nat → Nat → List Byte → Bool

/-- R433, R438: the two bucket indices and the fingerprint of a key under a seed. -/
opaque tableHash : Nat → Nat → Nat

/-- R645, R641: the MAC address of a port, which the spec places outside the registers. -/
opaque portMac : Nat → Nat

/-- R645: the MAC address of the neighbour on a port. -/
opaque neighbourMac : Nat → Nat

/-- R393: the bytes of an ENCAP template that are its header; the spec does not say where a
template gives its length. -/
opaque templateLen : Nat → Nat

/-- R583: whether a namespace's host layout is the extended LBA one; its descriptor does not say. -/
opaque extendedLba : Nat → Bool

/-- R325, R755: the bytes that TILE_IMAGES gives a tile's memory: digest of the section, tile. -/
opaque tileImage : Nat → Nat → List Byte

/-- R163: what a function's configuration space holds at an offset that the spec does not give: function, offset. -/
opaque configSpace : Nat → Nat → Nat

end Sys2Proof.Config
end

