-- ==== Sys2Proof/Machine/Codes.lean ====
section
/-!
DEFINITION. The event IDs (R272 and the events table of each chapter) and the status
codes (R28, R278 and the status tables of the chapters).
-/
namespace Sys2Proof.Machine

/-- Event EV_STROKE_OVERRUN (device scope). -/
def Ev.strokeOverrun : Nat := 0x0200
/-- Event EV_STROKE_ALIGN_LOST (device scope). -/
def Ev.strokeAlignLost : Nat := 0x0201
/-- Event EV_STEP_DONE (device scope). -/
def Ev.stepDone : Nat := 0x0202
/-- Event EV_TXTS_READY (device scope). -/
def Ev.txtsReady : Nat := 0x0203
/-- Event EV_TXTS_OVERFLOW (device scope). -/
def Ev.txtsOverflow : Nat := 0x0204
/-- Event EV_PPS_IN (device scope). -/
def Ev.ppsIn : Nat := 0x0205
/-- Event EV_CLK_REF_LOST (device scope). -/
def Ev.clkRefLost : Nat := 0x0206
/-- Event EV_TOD_RECEIVED (device scope). -/
def Ev.todReceived : Nat := 0x0207
/-- Event EV_ARM_CMD_DONE (device scope). -/
def Ev.armCmdDone : Nat := 0x0400
/-- Event EV_ARM_JOB_DONE (device scope). -/
def Ev.armJobDone : Nat := 0x0401
/-- Event EV_ARM_MAQ_DONE (device scope). -/
def Ev.armMaqDone : Nat := 0x0402
/-- Event EV_ARM_BOUND (device scope). -/
def Ev.armBound : Nat := 0x0403
/-- Event EV_TALLY_LOW (device scope). -/
def Ev.tallyLow : Nat := 0x0404
/-- Event EV_HIF_LINK_UP (device scope). -/
def Ev.hifLinkUp : Nat := 0x0600
/-- Event EV_HIF_LINK_DOWN (device scope). -/
def Ev.hifLinkDown : Nat := 0x0601
/-- Event EV_HIF_RESET (device scope). -/
def Ev.hifReset : Nat := 0x0602
/-- Event EV_HIF_CPL_TIMEOUT (device scope). -/
def Ev.hifCplTimeout : Nat := 0x0603
/-- Event EV_HIF_LATE_CPL (device scope). -/
def Ev.hifLateCpl : Nat := 0x0604
/-- Event EV_MGR_FAILOVER (device scope). -/
def Ev.mgrFailover : Nat := 0x0605
/-- Event EV_TDI_ERROR (device scope). -/
def Ev.tdiError : Nat := 0x0606
/-- Event EV_CXL_MEDIA (device scope). -/
def Ev.cxlMedia : Nat := 0x0607
/-- Event EV_NCH_CMD_DONE (device scope). -/
def Ev.nchCmdDone : Nat := 0x0800
/-- Event EV_NCH_SPOOF (device scope). -/
def Ev.nchSpoof : Nat := 0x0801
/-- Event EV_NCH_QUIESCED (device scope). -/
def Ev.nchQuiesced : Nat := 0x0802
/-- Event EV_RNG_CMD_DONE (device scope). -/
def Ev.rngCmdDone : Nat := 0x0a00
/-- Event EV_RNG_POLL_DEFER (device scope). -/
def Ev.rngPollDefer : Nat := 0x0a01
/-- Event EV_RNG_ERROR (device scope). -/
def Ev.rngError : Nat := 0x0a02
/-- Event EV_CQ_NOTIFY (niche scope). -/
def Ev.cqNotify : Nat := 0x0a03
/-- Event EV_CQ_FULL (niche scope). -/
def Ev.cqFull : Nat := 0x0a04
/-- Event EV_RING_IDLE (niche scope). -/
def Ev.ringIdle : Nat := 0x0a05
/-- Event EV_RING_ERROR (niche scope). -/
def Ev.ringError : Nat := 0x0a06
/-- Event EV_EVQ_OVERFLOW (neither scope). -/
def Ev.evqOverflow : Nat := 0x0a07
/-- Event EV_DMA_HALF (niche scope). -/
def Ev.dmaHalf : Nat := 0x0c00
/-- Event EV_DMA_FULL (niche scope). -/
def Ev.dmaFull : Nat := 0x0c01
/-- Event EV_DMA_ERROR (device scope). -/
def Ev.dmaError : Nat := 0x0c02
/-- Event EV_WAIT_CYCLE (device scope). -/
def Ev.waitCycle : Nat := 0x0e00
/-- Event EV_THREAD_FAULT (device scope). -/
def Ev.threadFault : Nat := 0x0e01
/-- Event EV_TIL_FAULT (device scope). -/
def Ev.tilFault : Nat := 0x0e02
/-- Event EV_TIL_DEBUG (device scope). -/
def Ev.tilDebug : Nat := 0x0e03
/-- Event EV_TIL_STAGED_DISCARD (device scope). -/
def Ev.tilStagedDiscard : Nat := 0x0e04
/-- Event EV_PRS_CMD_DONE (device scope). -/
def Ev.prsCmdDone : Nat := 0x1000
/-- Event EV_PRS_VER_DONE (device scope). -/
def Ev.prsVerDone : Nat := 0x1001
/-- Event EV_PRS_STAGE_DISCARD (device scope). -/
def Ev.prsStageDiscard : Nat := 0x1002
/-- Event EV_PRS_PARSE_EXC (device scope). -/
def Ev.prsParseExc : Nat := 0x1003
/-- Event EV_PRS_CL_DROP (device scope). -/
def Ev.prsClDrop : Nat := 0x1004
/-- Event EV_RO_SKIP (device scope). -/
def Ev.roSkip : Nat := 0x1005
/-- Event EV_RO_FULL (device scope). -/
def Ev.roFull : Nat := 0x1006
/-- Event EV_TBL_CMD_DONE (device scope). -/
def Ev.tblCmdDone : Nat := 0x1200
/-- Event EV_TBL_REHASH_NEEDED (device scope). -/
def Ev.tblRehashNeeded : Nat := 0x1201
/-- Event EV_TBL_REHASH_DONE (device scope). -/
def Ev.tblRehashDone : Nat := 0x1202
/-- Event EV_L2_MOVE (device scope). -/
def Ev.l2Move : Nat := 0x1203
/-- Event EV_L2_FLAP (device scope). -/
def Ev.l2Flap : Nat := 0x1204
/-- Event EV_L2_LEARN_DROP (device scope). -/
def Ev.l2LearnDrop : Nat := 0x1205
/-- Event EV_FLOW_AGED (niche scope). -/
def Ev.flowAged : Nat := 0x1206
/-- Event EV_SCH_CMD_DONE (device scope). -/
def Ev.schCmdDone : Nat := 0x1400
/-- Event EV_GCL_SWITCH (device scope). -/
def Ev.gclSwitch : Nat := 0x1401
/-- Event EV_SCH_QUEUE_DROP (device scope). -/
def Ev.schQueueDrop : Nat := 0x1402
/-- Event EV_SCH_SDU_DROP (device scope). -/
def Ev.schSduDrop : Nat := 0x1403
/-- Event EV_TLT_LATE_FAIL (niche scope). -/
def Ev.tltLateFail : Nat := 0x1600
/-- Event EV_TLT_EP_LOST (niche scope). -/
def Ev.tltEpLost : Nat := 0x1601
/-- Event EV_TLT_RETRY_EXCEEDED (device scope). -/
def Ev.tltRetryExceeded : Nat := 0x1602
/-- Event EV_TLT_RECALL_OVF (device scope). -/
def Ev.tltRecallOvf : Nat := 0x1603
/-- Event EV_TLT_PEER_EPOCH (device scope). -/
def Ev.tltPeerEpoch : Nat := 0x1604
/-- Event EV_TLT_TRK_FULL (device scope). -/
def Ev.tltTrkFull : Nat := 0x1605
/-- Event EV_NVS_CMD_DONE (device scope). -/
def Ev.nvsCmdDone : Nat := 0x1800
/-- Event EV_NVS_FW_COMMIT (device scope). -/
def Ev.nvsFwCommit : Nat := 0x1801
/-- Event EV_NVS_CTRL_STATE (device scope). -/
def Ev.nvsCtrlState : Nat := 0x1802
/-- Event EV_NVS_ERROR (device scope). -/
def Ev.nvsError : Nat := 0x1803
/-- Event EV_NVS_SELFTEST (device scope). -/
def Ev.nvsSelftest : Nat := 0x1804
/-- Event EV_ACC_SEQ_WARN (device scope). -/
def Ev.accSeqWarn : Nat := 0x1a00
/-- Event EV_ACC_INLINE_DROP (device scope). -/
def Ev.accInlineDrop : Nat := 0x1a01
/-- Event EV_ACC_ERROR (device scope). -/
def Ev.accError : Nat := 0x1a02
/-- Event EV_ACC_KEYSTORE_FULL (device scope). -/
def Ev.accKeystoreFull : Nat := 0x1a03
/-- Event EV_FAB_CMD_DONE (device scope). -/
def Ev.fabCmdDone : Nat := 0x1c00
/-- Event EV_FAB_ID_ASSIGNED (device scope). -/
def Ev.fabIdAssigned : Nat := 0x1c01
/-- Event EV_FAB_ID_LOST (device scope). -/
def Ev.fabIdLost : Nat := 0x1c02
/-- Event EV_FAB_COORD_CHANGE (device scope). -/
def Ev.fabCoordChange : Nat := 0x1c03
/-- Event EV_FAB_PEER_UP (device scope). -/
def Ev.fabPeerUp : Nat := 0x1c04
/-- Event EV_FAB_PEER_DOWN (device scope). -/
def Ev.fabPeerDown : Nat := 0x1c05
/-- Event EV_FAB_PATH_DOWN (device scope). -/
def Ev.fabPathDown : Nat := 0x1c06
/-- Event EV_FAB_TRANSIT_DROP (device scope). -/
def Ev.fabTransitDrop : Nat := 0x1c07
/-- Event EV_FAB_GRANT (device scope). -/
def Ev.fabGrant : Nat := 0x1c08
/-- Event EV_RGL_ADVICE (device scope). -/
def Ev.rglAdvice : Nat := 0x1e00
/-- Event EV_RGL_ACCEPT_DONE (device scope). -/
def Ev.rglAcceptDone : Nat := 0x1e01
/-- Event EV_RGL_CLAMP (device scope). -/
def Ev.rglClamp : Nat := 0x1e02
/-- Event EV_RGL_SKIP (device scope). -/
def Ev.rglSkip : Nat := 0x1e03
/-- Event EV_JNL_CMD_DONE (device scope). -/
def Ev.jnlCmdDone : Nat := 0x2000
/-- Event EV_JNL_LAG (device scope). -/
def Ev.jnlLag : Nat := 0x2001
/-- Event EV_JNL_OVERRUN (device scope). -/
def Ev.jnlOverrun : Nat := 0x2002
/-- Event EV_JNL_MEDIA (device scope). -/
def Ev.jnlMedia : Nat := 0x2003
/-- Event EV_PAT_ENTRY (device scope). -/
def Ev.patEntry : Nat := 0x2200
/-- Event EV_PAT_PINNED (device scope). -/
def Ev.patPinned : Nat := 0x2201
/-- Event EV_CNT_SAT (device scope). -/
def Ev.cntSat : Nat := 0x2202
/-- Event EV_SVC_CMD_DONE (device scope). -/
def Ev.svcCmdDone : Nat := 0x2400
/-- Event EV_SVC_UNIT (device scope). -/
def Ev.svcUnit : Nat := 0x2401
/-- Event EV_SVC_PROBATION_FAIL (device scope). -/
def Ev.svcProbationFail : Nat := 0x2402
/-- Event EV_SVC_SPARE (device scope). -/
def Ev.svcSpare : Nat := 0x2403
/-- Event EV_SVC_RECOVERY (device scope). -/
def Ev.svcRecovery : Nat := 0x2404
/-- Event EV_SVC_AVAIL (device scope). -/
def Ev.svcAvail : Nat := 0x2405
/-- Event EV_SVC_PLINTH (device scope). -/
def Ev.svcPlinth : Nat := 0x2406
/-- Event EV_PWR_CMD_DONE (device scope). -/
def Ev.pwrCmdDone : Nat := 0x2600
/-- Event EV_PWR_READY (device scope). -/
def Ev.pwrReady : Nat := 0x2601
/-- Event EV_PWR_THROTTLE (device scope). -/
def Ev.pwrThrottle : Nat := 0x2602
/-- Event EV_PWR_CRIT (device scope). -/
def Ev.pwrCrit : Nat := 0x2603
/-- Event EV_PWR_PSTATE (device scope). -/
def Ev.pwrPstate : Nat := 0x2604
/-- Status ST_OK. -/
def St.ok : Nat := 0x00
/-- Status ST_ABORTED. -/
def St.aborted : Nat := 0x01
/-- Status ST_NOT_FOUND. -/
def St.notFound : Nat := 0x02
/-- Status ST_ABORTED_RECOVERY. -/
def St.abortedRecovery : Nat := 0x03
/-- Status ST_HOST_TIMEOUT. -/
def St.hostTimeout : Nat := 0x04
/-- Status ST_NO_RESOURCE. -/
def St.noResource : Nat := 0x05
/-- Status ST_PERMISSION. -/
def St.permission : Nat := 0x06
/-- Status ST_HOST_ERROR. -/
def St.hostError : Nat := 0x07
/-- Status ST_BUSY. -/
def St.busy : Nat := 0x08
/-- Status ST_BAD_STATE. -/
def St.badState : Nat := 0x09
/-- Status ST_BAD_OPCODE. -/
def St.badOpcode : Nat := 0x0a
/-- Status ST_INVALID. -/
def St.invalid : Nat := 0x0b
/-- Status ST_LAUNCH_LATE. -/
def St.launchLate : Nat := 0x0c
/-- Status ST_LAUNCH_RANGE. -/
def St.launchRange : Nat := 0x0d
/-- Status ST_TRANSLATION. -/
def St.translation : Nat := 0x0e
/-- Status ST_MEDIA_ERROR. -/
def St.mediaError : Nat := 0x0f
/-- Status ST_TRUNCATED. -/
def St.truncated : Nat := 0x10
/-- Status ST_WINDOW_REVOKED. -/
def St.windowRevoked : Nat := 0x20
/-- Status ST_RECEIVER_BUSY. -/
def St.receiverBusy : Nat := 0x21
/-- Status ST_RETRY_EXCEEDED. -/
def St.retryExceeded : Nat := 0x22
/-- Status ST_WINDOW_INVALID. -/
def St.windowInvalid : Nat := 0x23
/-- Status ST_WINDOW_RANGE. -/
def St.windowRange : Nat := 0x24
/-- Status ST_WINDOW_ACCESS. -/
def St.windowAccess : Nat := 0x25
/-- Status ST_TL_NO_ENDPOINT. -/
def St.tlNoEndpoint : Nat := 0x26
/-- Status ST_TL_NO_PEER. -/
def St.tlNoPeer : Nat := 0x27
/-- Status ST_TL_RECV_SHORT. -/
def St.tlRecvShort : Nat := 0x28
/-- Status ST_TL_PEER_RECOVERY. -/
def St.tlPeerRecovery : Nat := 0x29
/-- Status ST_TL_FLUSH_FAILED. -/
def St.tlFlushFailed : Nat := 0x2a
/-- Status ST_TL_ABANDONED. -/
def St.tlAbandoned : Nat := 0x2b
/-- Status ST_NVS_HANDLE. -/
def St.nvsHandle : Nat := 0x40
/-- Status ST_NVS_RANGE. -/
def St.nvsRange : Nat := 0x41
/-- Status ST_NVS_GUARD. -/
def St.nvsGuard : Nat := 0x42
/-- Status ST_NVS_APPTAG. -/
def St.nvsApptag : Nat := 0x43
/-- Status ST_NVS_REFTAG. -/
def St.nvsReftag : Nat := 0x44
/-- Status ST_NVS_SGL. -/
def St.nvsSgl : Nat := 0x45
/-- Status ST_NVS_TARGET. -/
def St.nvsTarget : Nat := 0x46
/-- Status ST_ACC_MODE. -/
def St.accMode : Nat := 0x60
/-- Status ST_ACC_KEY. -/
def St.accKey : Nat := 0x61
/-- Status ST_ACC_AUTH. -/
def St.accAuth : Nat := 0x62
/-- Status ST_ACC_OVERFLOW. -/
def St.accOverflow : Nat := 0x63
/-- Status ST_ACC_CORRUPT. -/
def St.accCorrupt : Nat := 0x64
/-- Status ST_ACC_UNSUPPORTED. -/
def St.accUnsupported : Nat := 0x65
/-- Status ST_ACC_EC_UNRECOVERABLE. -/
def St.accEcUnrecoverable : Nat := 0x66
/-- Status ST_ACC_SPACE. -/
def St.accSpace : Nat := 0x67
/-- Status ST_ACC_INLINE. -/
def St.accInline : Nat := 0x68
/-- Status ST_DMA_SHAPE. -/
def St.dmaShape : Nat := 0x80
/-- Status ST_DMA_SPACE. -/
def St.dmaSpace : Nat := 0x81
/-- Status ST_DMA_BOUNDS. -/
def St.dmaBounds : Nat := 0x82
/-- Status ST_DMA_WINDOW. -/
def St.dmaWindow : Nat := 0x83
/-- Status ST_TBL_EXISTS. -/
def St.tblExists : Nat := 0xa0
/-- Status ST_TBL_NO_ENTRY. -/
def St.tblNoEntry : Nat := 0xa1
/-- Status ST_TBL_FULL. -/
def St.tblFull : Nat := 0xa2
/-- Status ST_TBL_NO_TABLE. -/
def St.tblNoTable : Nat := 0xa3
/-- Status ST_TBL_KEY. -/
def St.tblKey : Nat := 0xa4
/-- Status ST_TBL_ACTION. -/
def St.tblAction : Nat := 0xa5
/-- Status ST_TBL_VERSIONED. -/
def St.tblVersioned : Nat := 0xa6
/-- Status ST_TBL_STATIC. -/
def St.tblStatic : Nat := 0xa7
/-- Status ST_TBL_REHASH. -/
def St.tblRehash : Nat := 0xa8
/-- Status ST_TBL_REHASH_FAIL. -/
def St.tblRehashFail : Nat := 0xa9
/-- Status ST_RULE_NO_TABLE. -/
def St.ruleNoTable : Nat := 0xb0
/-- Status ST_RULE_NO_GROUP. -/
def St.ruleNoGroup : Nat := 0xb1
/-- Status ST_RULE_FULL. -/
def St.ruleFull : Nat := 0xb2
/-- Status ST_RULE_STAGE_FULL. -/
def St.ruleStageFull : Nat := 0xb3
/-- Status ST_ACTION_INVALID. -/
def St.actionInvalid : Nat := 0xb4
/-- Status ST_GROUP_IN_USE. -/
def St.groupInUse : Nat := 0xb5
/-- Status ST_FAB_NO_ID. -/
def St.fabNoId : Nat := 0xc0
/-- Status ST_FAB_ID_CHANGED. -/
def St.fabIdChanged : Nat := 0xc1
/-- Status ST_FAB_PEER_REPLACED. -/
def St.fabPeerReplaced : Nat := 0xc2
/-- Status ST_FAB_GRANT. -/
def St.fabGrant : Nat := 0xc3
/-- Status ST_FAB_IMPORT. -/
def St.fabImport : Nat := 0xc4
/-- Status ST_FAB_POOL_FULL. -/
def St.fabPoolFull : Nat := 0xc5
/-- Status ST_FAB_REMOTE. -/
def St.fabRemote : Nat := 0xc6
/-- Status ST_FAB_SPACE. -/
def St.fabSpace : Nat := 0xc7
/-- The niche-scoped events (R273): every other event but EV_EVQ_OVERFLOW is device-scoped. -/
def Ev.nicheScoped : List Nat := [0x0a03, 0x0a04, 0x0a05, 0x0a06, 0x0c00, 0x0c01, 0x1206, 0x1600, 0x1601]

end Sys2Proof.Machine
end

