-- ==== Sys2Proof/Machine/RegTypes.lean ====
section
/-!
DEFINITION. The types in which the register tables of the spec are written down.
-/
namespace Sys2Proof.Machine

/-- R23: the access codes of the register tables. -/
inductive Access where
  | rw | ro | rc | w1c | w1s | wo | ar | hl | tl
  deriving DecidableEq, Repr

/-- The reset column of a register table. Most registers have one number; a few
give a formula in the instance. -/
inductive ResetVal where
  | const (n : Nat)
  | idx
  | idxDiv (k : Nat)
  | idxMod (k : Nat)
  | zeroElse (a b : Nat)
  | table (l : List Nat)
  | atLeast (k a b : Nat)
  deriving DecidableEq, Repr

/-- One field of a register table: BAR0 offset of the first instance, lowest bit,
width, access, reset, and the limits to which values outside act (R20 to R23). -/
structure Field where
  off : Nat
  lo : Nat
  width : Nat
  access : Access
  reset : ResetVal
  limLo : Nat
  limHi : Nat
  deriving DecidableEq, Repr

/-- Which selector gives the object that a register refers to; `none` for a plain
register or an array of registers. -/
inductive Win where
  | none | fuseRec | fn | niche | nicheRes | pool | ring | evroute | dmaNiche | chan
  | prsCnt | prsTbl | tbl | tblNiche | node | policer | peerT | tltNiche | ctrl | ns
  | peer | path | seg | beEntry | accessor | unit
  deriving DecidableEq, Repr

/-- One register table: offset, two array dimensions, selector, fields, and whether
a write applies at the next stroke boundary. -/
structure RegDef where
  off : Nat
  count : Nat
  stride : Nat
  count2 : Nat
  stride2 : Nat
  win : Win
  deferred : Bool
  fields : List Field
  deriving DecidableEq, Repr

/-- A command register (R828): its block number, the fields of its status register, its
BUSY bit and its command-done event. -/
structure CmdBlk where
  num : Nat
  busy : Field
  status : Field
  op : Field
  stroke : Field
  hasObj : Bool
  obj : Field
  ev : Nat
  deriving DecidableEq, Repr

end Sys2Proof.Machine
end

