-- ==== Sys2Proof/Machine/Regs.lean ====
section
/-!
DEFINITION. The register fields of the BAR0 map (R21) and of the niche page (R218),
transcribed from the register tables of the spec: one constant per field, named
<register>_<field>, and one table entry per register. Niche pages stand at
0x200_0000 + 0x1_0000 * niche, outside BAR0.
-/
namespace Sys2Proof.Machine.Reg

/-- R5: IDN_PART.ARCH [63:48], RO, reset 0x4E47. -/
def IDN_PART_ARCH : Field := ⟨0x0, 48, 16, .ro, .const 20039, 0, 0⟩
/-- R5: IDN_PART.MEMBER [47:32], RO, reset 0x0060. -/
def IDN_PART_MEMBER : Field := ⟨0x0, 32, 16, .ro, .const 96, 0, 0⟩
/-- R5: IDN_PART.STEP_MAJOR [15:8], RO, reset per part. -/
def IDN_PART_STEP_MAJOR : Field := ⟨0x0, 8, 8, .ro, .const 0x41, 0, 0⟩
/-- R5: IDN_PART.STEP_MINOR [7:0], RO, reset per part. -/
def IDN_PART_STEP_MINOR : Field := ⟨0x0, 0, 8, .ro, .const 0, 0, 0⟩
/-- R6: IDN_STATE.STATE [2:0], RO, reset 0b001. -/
def IDN_STATE_STATE : Field := ⟨0x8, 0, 3, .ro, .const 1, 0, 0⟩
/-- R7: IDN_SHAPE0.MATCH_STAGES [55:48], RO, reset 0x18. -/
def IDN_SHAPE0_MATCH_STAGES : Field := ⟨0x10, 48, 8, .ro, .const 24, 0, 0⟩
/-- R7: IDN_SHAPE0.MATCH_PIPES [47:44], RO, reset 0x2. -/
def IDN_SHAPE0_MATCH_PIPES : Field := ⟨0x10, 44, 4, .ro, .const 2, 0, 0⟩
/-- R7: IDN_SHAPE0.PARSE_PER_CLUSTER [43:36], RO, reset 0x20. -/
def IDN_SHAPE0_PARSE_PER_CLUSTER : Field := ⟨0x10, 36, 8, .ro, .const 32, 0, 0⟩
/-- R7: IDN_SHAPE0.PARSE_CLUSTERS [35:30], RO, reset 0x18. -/
def IDN_SHAPE0_PARSE_CLUSTERS : Field := ⟨0x10, 30, 6, .ro, .const 24, 0, 0⟩
/-- R7: IDN_SHAPE0.HOST_CTRLS [29:26], RO, reset 0x2. -/
def IDN_SHAPE0_HOST_CTRLS : Field := ⟨0x10, 26, 4, .ro, .const 2, 0, 0⟩
/-- R7: IDN_SHAPE0.ETH_LANES [25:20], RO, reset 0x10. -/
def IDN_SHAPE0_ETH_LANES : Field := ⟨0x10, 20, 6, .ro, .const 16, 0, 0⟩
/-- R7: IDN_SHAPE0.ETH_MACS [19:15], RO, reset 0x10. -/
def IDN_SHAPE0_ETH_MACS : Field := ⟨0x10, 15, 5, .ro, .const 16, 0, 0⟩
/-- R7: IDN_SHAPE0.THREADS_PER_CORE [14:11], RO, reset 0x8. -/
def IDN_SHAPE0_THREADS_PER_CORE : Field := ⟨0x10, 11, 4, .ro, .const 8, 0, 0⟩
/-- R7: IDN_SHAPE0.CORES_PER_TILE [10:8], RO, reset 0x4. -/
def IDN_SHAPE0_CORES_PER_TILE : Field := ⟨0x10, 8, 3, .ro, .const 4, 0, 0⟩
/-- R7: IDN_SHAPE0.TILES [7:0], RO, reset 0x60. -/
def IDN_SHAPE0_TILES : Field := ⟨0x10, 0, 8, .ro, .const 96, 0, 0⟩
/-- R8: IDN_SHAPE1.STACK_GIB [59:52], RO, reset 0x18. -/
def IDN_SHAPE1_STACK_GIB : Field := ⟨0x18, 52, 8, .ro, .const 24, 0, 0⟩
/-- R8: IDN_SHAPE1.STACKS [51:48], RO, reset 0x4. -/
def IDN_SHAPE1_STACKS : Field := ⟨0x18, 48, 4, .ro, .const 4, 0, 0⟩
/-- R8: IDN_SHAPE1.PLINTH_MIB [47:40], RO, reset 0x08. -/
def IDN_SHAPE1_PLINTH_MIB : Field := ⟨0x18, 40, 8, .ro, .const 8, 0, 0⟩
/-- R8: IDN_SHAPE1.PKT_BUF_MIB [39:32], RO, reset 0x28. -/
def IDN_SHAPE1_PKT_BUF_MIB : Field := ⟨0x18, 32, 8, .ro, .const 40, 0, 0⟩
/-- R8: IDN_SHAPE1.MATCH_MEM_MIB [31:24], RO, reset 0x28. -/
def IDN_SHAPE1_MATCH_MEM_MIB : Field := ⟨0x18, 24, 8, .ro, .const 40, 0, 0⟩
/-- R8: IDN_SHAPE1.CTX_STORE_MIB [23:16], RO, reset 0x30. -/
def IDN_SHAPE1_CTX_STORE_MIB : Field := ⟨0x18, 16, 8, .ro, .const 48, 0, 0⟩
/-- R8: IDN_SHAPE1.TILE_MEM_KIB [15:0], RO, reset 0x0500. -/
def IDN_SHAPE1_TILE_MEM_KIB : Field := ⟨0x18, 0, 16, .ro, .const 1280, 0, 0⟩
/-- R9: IDN_SHAPE2.PFX6_LOG2 [47:42], RO, reset 21. -/
def IDN_SHAPE2_PFX6_LOG2 : Field := ⟨0x20, 42, 6, .ro, .const 21, 0, 0⟩
/-- R9: IDN_SHAPE2.PFX4_LOG2 [41:36], RO, reset 22. -/
def IDN_SHAPE2_PFX4_LOG2 : Field := ⟨0x20, 36, 6, .ro, .const 22, 0, 0⟩
/-- R9: IDN_SHAPE2.FLOW_STACKED_LOG2 [35:30], RO, reset 26. -/
def IDN_SHAPE2_FLOW_STACKED_LOG2 : Field := ⟨0x20, 30, 6, .ro, .const 26, 0, 0⟩
/-- R9: IDN_SHAPE2.EP_STACKED_LOG2 [29:24], RO, reset 24. -/
def IDN_SHAPE2_EP_STACKED_LOG2 : Field := ⟨0x20, 24, 6, .ro, .const 24, 0, 0⟩
/-- R9: IDN_SHAPE2.FLOW_ONDIE_LOG2 [23:18], RO, reset 19. -/
def IDN_SHAPE2_FLOW_ONDIE_LOG2 : Field := ⟨0x20, 18, 6, .ro, .const 19, 0, 0⟩
/-- R9: IDN_SHAPE2.WIN_LOG2 [17:12], RO, reset 16. -/
def IDN_SHAPE2_WIN_LOG2 : Field := ⟨0x20, 12, 6, .ro, .const 16, 0, 0⟩
/-- R9: IDN_SHAPE2.PEER_LOG2 [11:6], RO, reset 14. -/
def IDN_SHAPE2_PEER_LOG2 : Field := ⟨0x20, 6, 6, .ro, .const 14, 0, 0⟩
/-- R9: IDN_SHAPE2.EP_ONDIE_LOG2 [5:0], RO, reset 18. -/
def IDN_SHAPE2_EP_ONDIE_LOG2 : Field := ⟨0x20, 0, 6, .ro, .const 18, 0, 0⟩
/-- R10: IDN_SHAPE3.SHAPE_REV [63:56], RO, reset 0x01. -/
def IDN_SHAPE3_SHAPE_REV : Field := ⟨0x28, 56, 8, .ro, .const 1, 0, 0⟩
/-- R10: IDN_SHAPE3.FABRIC_DEV_LOG2 [55:51], RO, reset 14. -/
def IDN_SHAPE3_FABRIC_DEV_LOG2 : Field := ⟨0x28, 51, 5, .ro, .const 14, 0, 0⟩
/-- R10: IDN_SHAPE3.CE_SLICES [50:48], RO, reset 4. -/
def IDN_SHAPE3_CE_SLICES : Field := ⟨0x28, 48, 3, .ro, .const 4, 0, 0⟩
/-- R10: IDN_SHAPE3.CZ_SLICES [47:45], RO, reset 4. -/
def IDN_SHAPE3_CZ_SLICES : Field := ⟨0x28, 45, 3, .ro, .const 4, 0, 0⟩
/-- R10: IDN_SHAPE3.PK_SLICES [44:43], RO, reset 2. -/
def IDN_SHAPE3_PK_SLICES : Field := ⟨0x28, 43, 2, .ro, .const 2, 0, 0⟩
/-- R10: IDN_SHAPE3.CY_SLICES [42:39], RO, reset 8. -/
def IDN_SHAPE3_CY_SLICES : Field := ⟨0x28, 39, 4, .ro, .const 8, 0, 0⟩
/-- R10: IDN_SHAPE3.STROKE_OPTS [38:36], RO, reset 0b111. -/
def IDN_SHAPE3_STROKE_OPTS : Field := ⟨0x28, 36, 3, .ro, .const 7, 0, 0⟩
/-- R10: IDN_SHAPE3.EVQ_LOG2 [35:31], RO, reset 12. -/
def IDN_SHAPE3_EVQ_LOG2 : Field := ⟨0x28, 31, 5, .ro, .const 12, 0, 0⟩
/-- R10: IDN_SHAPE3.CQ_LOG2 [30:26], RO, reset 15. -/
def IDN_SHAPE3_CQ_LOG2 : Field := ⟨0x28, 26, 5, .ro, .const 15, 0, 0⟩
/-- R10: IDN_SHAPE3.WQ_LOG2 [25:21], RO, reset 16. -/
def IDN_SHAPE3_WQ_LOG2 : Field := ⟨0x28, 21, 5, .ro, .const 16, 0, 0⟩
/-- R10: IDN_SHAPE3.NICHES_LOG2 [20:17], RO, reset 12. -/
def IDN_SHAPE3_NICHES_LOG2 : Field := ⟨0x28, 17, 4, .ro, .const 12, 0, 0⟩
/-- R10: IDN_SHAPE3.FRONT_WINDOW [16:10], RO, reset 64. -/
def IDN_SHAPE3_FRONT_WINDOW : Field := ⟨0x28, 10, 7, .ro, .const 64, 0, 0⟩
/-- R10: IDN_SHAPE3.PARSE_DEPTH [9:0], RO, reset 512. -/
def IDN_SHAPE3_PARSE_DEPTH : Field := ⟨0x28, 0, 10, .ro, .const 512, 0, 0⟩
/-- R74: STK_CTL.PERIOD [7:6], AR, reset per armature. -/
def STK_CTL_PERIOD : Field := ⟨0x100000, 6, 2, .ar, .const 1, 0, 0⟩
/-- R74: STK_CTL.CLK10M_REF [5:5], RW, reset 0. -/
def STK_CTL_CLK10M_REF : Field := ⟨0x100000, 5, 1, .rw, .const 0, 0, 0⟩
/-- R74: STK_CTL.TOD_LOAD [4:4], RW, reset 0. -/
def STK_CTL_TOD_LOAD : Field := ⟨0x100000, 4, 1, .rw, .const 0, 0, 0⟩
/-- R75: STK_STATUS.TOD_ERR [9:9], W1C, reset 0. -/
def STK_STATUS_TOD_ERR : Field := ⟨0x100008, 9, 1, .w1c, .const 0, 0, 0⟩
/-- R75: STK_STATUS.TXTS_OVF [8:8], W1C, reset 0. -/
def STK_STATUS_TXTS_OVF : Field := ⟨0x100008, 8, 1, .w1c, .const 0, 0, 0⟩
/-- R75: STK_STATUS.RATE_CLAMP [7:7], W1C, reset 0. -/
def STK_STATUS_RATE_CLAMP : Field := ⟨0x100008, 7, 1, .w1c, .const 0, 0, 0⟩
/-- R75: STK_STATUS.OVR [6:6], W1C, reset 0. -/
def STK_STATUS_OVR : Field := ⟨0x100008, 6, 1, .w1c, .const 0, 0, 0⟩
/-- R75: STK_STATUS.STEP_PENDING [5:5], RO, reset 0. -/
def STK_STATUS_STEP_PENDING : Field := ⟨0x100008, 5, 1, .ro, .const 0, 0, 0⟩
/-- R75: STK_STATUS.REF_LOCK [4:4], RO, reset 0. -/
def STK_STATUS_REF_LOCK : Field := ⟨0x100008, 4, 1, .ro, .const 0, 0, 0⟩
/-- R75: STK_STATUS.PHASE [3:2], RO, reset 0. -/
def STK_STATUS_PHASE : Field := ⟨0x100008, 2, 2, .ro, .const 0, 0, 0⟩
/-- R75: STK_STATUS.ALIGN [1:0], RO, reset 0. -/
def STK_STATUS_ALIGN : Field := ⟨0x100008, 0, 2, .ro, .const 0, 0, 0⟩
/-- R76: STK_COUNT.COUNT [63:0], RO, reset 0. -/
def STK_COUNT_COUNT : Field := ⟨0x100010, 0, 64, .ro, .const 0, 0, 0⟩
/-- R77: STK_COUNT_LEAD.LEAD [63:0], RO, reset 0. -/
def STK_COUNT_LEAD_LEAD : Field := ⟨0x100018, 0, 64, .ro, .const 0, 0, 0⟩
/-- R78: STK_PHC_SEC.SEC [63:0], RO, reset 0. -/
def STK_PHC_SEC_SEC : Field := ⟨0x100020, 0, 64, .ro, .const 0, 0, 0⟩
/-- R79: STK_PHC_NS.NS [61:32], RO, reset 0. -/
def STK_PHC_NS_NS : Field := ⟨0x100028, 32, 30, .ro, .const 0, 0, 0⟩
/-- R79: STK_PHC_NS.FRAC [31:0], RO, reset 0. -/
def STK_PHC_NS_FRAC : Field := ⟨0x100028, 0, 32, .ro, .const 0, 0, 0⟩
/-- R80: STK_PHC_RATE.RATE [31:0], RW, reset 0. -/
def STK_PHC_RATE_RATE : Field := ⟨0x100030, 0, 32, .rw, .const 0, 0, 0⟩
/-- R81: STK_PHC_STEP.STEP [63:0], WO, reset 0. -/
def STK_PHC_STEP_STEP : Field := ⟨0x100038, 0, 64, .wo, .const 0, 0, 0⟩
/-- R82: STK_REALIGN.ARM [63:63], RW, reset 0. -/
def STK_REALIGN_ARM : Field := ⟨0x100040, 63, 1, .rw, .const 0, 0, 0⟩
/-- R82: STK_REALIGN.AT_STROKE [47:0], RW, reset 0. -/
def STK_REALIGN_AT_STROKE : Field := ⟨0x100040, 0, 48, .rw, .const 0, 0, 0⟩
/-- R83: STK_STEP_STATUS.PENDING [63:63], RO, reset 0. -/
def STK_STEP_STATUS_PENDING : Field := ⟨0x100048, 63, 1, .ro, .const 0, 0, 0⟩
/-- R83: STK_STEP_STATUS.RESULT [62:60], RO, reset 0. -/
def STK_STEP_STATUS_RESULT : Field := ⟨0x100048, 60, 3, .ro, .const 0, 0, 0⟩
/-- R83: STK_STEP_STATUS.SLEW_LEFT [15:0], RO, reset 0. -/
def STK_STEP_STATUS_SLEW_LEFT : Field := ⟨0x100048, 0, 16, .ro, .const 0, 0, 0⟩
/-- R84: STK_ALIGN_EST.OFFSET [31:0], RW, reset 0. -/
def STK_ALIGN_EST_OFFSET : Field := ⟨0x100050, 0, 32, .rw, .const 0, 0, 0⟩
/-- R85: STK_ALIGN_CFG.HOLD [47:16], RW, reset 3 906 250. -/
def STK_ALIGN_CFG_HOLD : Field := ⟨0x100058, 16, 32, .rw, .const 3906250, 0, 0⟩
/-- R85: STK_ALIGN_CFG.LIMIT [7:0], RW, reset 12. -/
def STK_ALIGN_CFG_LIMIT : Field := ⟨0x100058, 0, 8, .rw, .const 12, 0, 0⟩
/-- R86: STK_OVR_COUNT.SAT [32:32], W1C, reset 0. -/
def STK_OVR_COUNT_SAT : Field := ⟨0x100060, 32, 1, .w1c, .const 0, 0, 0⟩
/-- R86: STK_OVR_COUNT.COUNT [31:0], RO, reset 0. -/
def STK_OVR_COUNT_COUNT : Field := ⟨0x100060, 0, 32, .ro, .const 0, 0, 0⟩
/-- R87: STK_OVR_LAST.KIND [63:60], RO, reset 0. -/
def STK_OVR_LAST_KIND : Field := ⟨0x100068, 60, 4, .ro, .const 0, 0, 0⟩
/-- R87: STK_OVR_LAST.INDEX [59:48], RO, reset 0. -/
def STK_OVR_LAST_INDEX : Field := ⟨0x100068, 48, 12, .ro, .const 0, 0, 0⟩
/-- R87: STK_OVR_LAST.STROKE [47:0], RO, reset 0. -/
def STK_OVR_LAST_STROKE : Field := ⟨0x100068, 0, 48, .ro, .const 0, 0, 0⟩
/-- R88: STK_TS_TRIM.TX_TRIM [31:16], RW, reset 0. -/
def STK_TS_TRIM_TX_TRIM : Field := ⟨0x100100, 16, 16, .rw, .const 0, 0, 0⟩
/-- R88: STK_TS_TRIM.RX_TRIM [15:0], RW, reset 0. -/
def STK_TS_TRIM_RX_TRIM : Field := ⟨0x100100, 0, 16, .rw, .const 0, 0, 0⟩
/-- R89: STK_LAUNCH_CFG.HORIZON [47:32], RW, reset 4 096. -/
def STK_LAUNCH_CFG_HORIZON : Field := ⟨0x100180, 32, 16, .rw, .const 4096, 0, 0⟩
/-- R89: STK_LAUNCH_CFG.POLICY [15:0], RW, reset 0. -/
def STK_LAUNCH_CFG_POLICY : Field := ⟨0x100180, 0, 16, .rw, .const 0, 0, 0⟩
/-- R90: STK_TXTS_INFO.VALID [63:63], RC, reset 0. -/
def STK_TXTS_INFO_VALID : Field := ⟨0x100200, 63, 1, .rc, .const 0, 0, 0⟩
/-- R90: STK_TXTS_INFO.LEVEL [62:56], RC, reset 0. -/
def STK_TXTS_INFO_LEVEL : Field := ⟨0x100200, 56, 7, .rc, .const 0, 0, 0⟩
/-- R90: STK_TXTS_INFO.STATUS [55:48], RC, reset 0. -/
def STK_TXTS_INFO_STATUS : Field := ⟨0x100200, 48, 8, .rc, .const 0, 0, 0⟩
/-- R90: STK_TXTS_INFO.SUBNS [47:40], RC, reset 0. -/
def STK_TXTS_INFO_SUBNS : Field := ⟨0x100200, 40, 8, .rc, .const 0, 0, 0⟩
/-- R90: STK_TXTS_INFO.TS_ID [15:0], RC, reset 0. -/
def STK_TXTS_INFO_TS_ID : Field := ⟨0x100200, 0, 16, .rc, .const 0, 0, 0⟩
/-- R91: STK_TXTS_TIME.TIME [63:0], RO, reset 0. -/
def STK_TXTS_TIME_TIME : Field := ⟨0x100208, 0, 64, .ro, .const 0, 0, 0⟩
/-- R92: STK_TXTS_DROP.SAT [32:32], W1C, reset 0. -/
def STK_TXTS_DROP_SAT : Field := ⟨0x100300, 32, 1, .w1c, .const 0, 0, 0⟩
/-- R92: STK_TXTS_DROP.COUNT [31:0], RO, reset 0. -/
def STK_TXTS_DROP_COUNT : Field := ⟨0x100300, 0, 32, .ro, .const 0, 0, 0⟩
/-- R92: STK_LATE.SAT [32:32], W1C, reset 0. -/
def STK_LATE_SAT : Field := ⟨0x100308, 32, 1, .w1c, .const 0, 0, 0⟩
/-- R92: STK_LATE.COUNT [31:0], RO, reset 0. -/
def STK_LATE_COUNT : Field := ⟨0x100308, 0, 32, .ro, .const 0, 0, 0⟩
/-- R93: STK_PPS_OUT_CFG.PPS_EN [63:63], RW, reset 0. -/
def STK_PPS_OUT_CFG_PPS_EN : Field := ⟨0x100400, 63, 1, .rw, .const 0, 0, 0⟩
/-- R93: STK_PPS_OUT_CFG.PPS_POL [62:62], RW, reset 0. -/
def STK_PPS_OUT_CFG_PPS_POL : Field := ⟨0x100400, 62, 1, .rw, .const 0, 0, 0⟩
/-- R93: STK_PPS_OUT_CFG.CLK10M_EN [61:61], RW, reset 0. -/
def STK_PPS_OUT_CFG_CLK10M_EN : Field := ⟨0x100400, 61, 1, .rw, .const 0, 0, 0⟩
/-- R93: STK_PPS_OUT_CFG.PPS_IN_EDGE [60:60], RW, reset 0. -/
def STK_PPS_OUT_CFG_PPS_IN_EDGE : Field := ⟨0x100400, 60, 1, .rw, .const 0, 0, 0⟩
/-- R93: STK_PPS_OUT_CFG.WIDTH [41:32], RW, reset 100. -/
def STK_PPS_OUT_CFG_WIDTH : Field := ⟨0x100400, 32, 10, .rw, .const 100, 0, 0⟩
/-- R93: STK_PPS_OUT_CFG.OFFSET [15:0], RW, reset 0. -/
def STK_PPS_OUT_CFG_OFFSET : Field := ⟨0x100400, 0, 16, .rw, .const 0, 0, 0⟩
/-- R94: STK_PPS_IN_TS.TIME [63:0], RO, reset 0. -/
def STK_PPS_IN_TS_TIME : Field := ⟨0x100408, 0, 64, .ro, .const 0, 0, 0⟩
/-- R95: STK_PPS_IN_INFO.NEW [63:63], RO, reset 0. -/
def STK_PPS_IN_INFO_NEW : Field := ⟨0x100410, 63, 1, .ro, .const 0, 0, 0⟩
/-- R95: STK_PPS_IN_INFO.MISSED [62:62], W1C, reset 0. -/
def STK_PPS_IN_INFO_MISSED : Field := ⟨0x100410, 62, 1, .w1c, .const 0, 0, 0⟩
/-- R95: STK_PPS_IN_INFO.SUBNS [7:0], RO, reset 0. -/
def STK_PPS_IN_INFO_SUBNS : Field := ⟨0x100410, 0, 8, .ro, .const 0, 0, 0⟩
/-- R96: STK_TOD_SEC.SEC [63:0], RO, reset 0. -/
def STK_TOD_SEC_SEC : Field := ⟨0x100418, 0, 64, .ro, .const 0, 0, 0⟩
/-- R97: STK_TOD_INFO.VALID [63:63], RO, reset 0. -/
def STK_TOD_INFO_VALID : Field := ⟨0x100420, 63, 1, .ro, .const 0, 0, 0⟩
/-- R97: STK_TOD_INFO.LEAP_PENDING [62:62], RO, reset 0. -/
def STK_TOD_INFO_LEAP_PENDING : Field := ⟨0x100420, 62, 1, .ro, .const 0, 0, 0⟩
/-- R97: STK_TOD_INFO.LEAP_NEG [61:61], RO, reset 0. -/
def STK_TOD_INFO_LEAP_NEG : Field := ⟨0x100420, 61, 1, .ro, .const 0, 0, 0⟩
/-- R97: STK_TOD_INFO.UTC_OFFSET [15:0], RO, reset 0. -/
def STK_TOD_INFO_UTC_OFFSET : Field := ⟨0x100420, 0, 16, .ro, .const 0, 0, 0⟩
/-- R135: ARM_ID.IMAGE_ID [63:0], RO, reset per armature. -/
def ARM_ID_IMAGE_ID : Field := ⟨0x200000, 0, 64, .ro, .const 0, 0, 0⟩
/-- R136: ARM_INFO.SVN [63:56], RO, reset per armature. -/
def ARM_INFO_SVN : Field := ⟨0x200008, 56, 8, .ro, .const 0, 0, 0⟩
/-- R136: ARM_INFO.PARTIALS [55:52], RO, reset 0. -/
def ARM_INFO_PARTIALS : Field := ⟨0x200008, 52, 4, .ro, .const 0, 0, 0⟩
/-- R136: ARM_INFO.FALLBACK [51:51], RO, reset 0. -/
def ARM_INFO_FALLBACK : Field := ⟨0x200008, 51, 1, .ro, .const 0, 0, 0⟩
/-- R136: ARM_INFO.PARTIAL_FAULT [50:50], RO, reset 0. -/
def ARM_INFO_PARTIAL_FAULT : Field := ⟨0x200008, 50, 1, .ro, .const 0, 0, 0⟩
/-- R136: ARM_INFO.SLOT [49:49], RO, reset 0. -/
def ARM_INFO_SLOT : Field := ⟨0x200008, 49, 1, .ro, .const 0, 0, 0⟩
/-- R136: ARM_INFO.FORMAT [31:16], RO, reset per armature. -/
def ARM_INFO_FORMAT : Field := ⟨0x200008, 16, 16, .ro, .const 0, 0, 0⟩
/-- R136: ARM_INFO.PART_DEFINED [15:0], RO, reset per armature. -/
def ARM_INFO_PART_DEFINED : Field := ⟨0x200008, 0, 16, .ro, .const 0, 0, 0⟩
/-- R137: ARM_EFF_DIGEST.DIGEST [63:0], RO, reset per armature. -/
def ARM_EFF_DIGEST_DIGEST : Field := ⟨0x200010, 0, 64, .ro, .const 0, 0, 0⟩
/-- R138: ARM_LOAD_STATUS.SLOT_A [63:56], RO, reset 0x00. -/
def ARM_LOAD_STATUS_SLOT_A : Field := ⟨0x200040, 56, 8, .ro, .const 0, 0, 0⟩
/-- R138: ARM_LOAD_STATUS.SLOT_B [55:48], RO, reset 0x00. -/
def ARM_LOAD_STATUS_SLOT_B : Field := ⟨0x200040, 48, 8, .ro, .const 0, 0, 0⟩
/-- R138: ARM_LOAD_STATUS.PARTIAL_INDEX [43:40], RO, reset 0. -/
def ARM_LOAD_STATUS_PARTIAL_INDEX : Field := ⟨0x200040, 40, 4, .ro, .const 0, 0, 0⟩
/-- R138: ARM_LOAD_STATUS.PARTIAL_CODE [39:32], RO, reset 0x00. -/
def ARM_LOAD_STATUS_PARTIAL_CODE : Field := ⟨0x200040, 32, 8, .ro, .const 0, 0, 0⟩
/-- R139: ARM_FLOOR.PLINTH [15:8], RO, reset per fuses. -/
def ARM_FLOOR_PLINTH : Field := ⟨0x200048, 8, 8, .ro, .const 0, 0, 0⟩
/-- R139: ARM_FLOOR.ARMATURE [7:0], RO, reset per fuses. -/
def ARM_FLOOR_ARMATURE : Field := ⟨0x200048, 0, 8, .ro, .const 0, 0, 0⟩
/-- R140: ARM_STAGE_ADDR.ADDR [63:0], RW, reset 0. -/
def ARM_STAGE_ADDR_ADDR : Field := ⟨0x200050, 0, 64, .rw, .const 0, 0, 0⟩
/-- R141: ARM_STAGE_LEN.LEN [31:0], RW, reset 0. -/
def ARM_STAGE_LEN_LEN : Field := ⟨0x200058, 0, 32, .rw, .const 0, 0, 0⟩
/-- R142: ARM_CMD.GO [63:63], W1S, reset 0. -/
def ARM_CMD_GO : Field := ⟨0x200060, 63, 1, .w1s, .const 0, 0, 0⟩
/-- R142: ARM_CMD.BUSY [62:62], RO, reset 0. -/
def ARM_CMD_BUSY : Field := ⟨0x200060, 62, 1, .ro, .const 0, 0, 0⟩
/-- R142: ARM_CMD.OP [55:48], RW, reset 0. -/
def ARM_CMD_OP : Field := ⟨0x200060, 48, 8, .rw, .const 0, 0, 0⟩
/-- R142: ARM_CMD.ARG [47:40], RW, reset 0. -/
def ARM_CMD_ARG : Field := ⟨0x200060, 40, 8, .rw, .const 0, 0, 0⟩
/-- R143: ARM_CMD_STATUS.RESULT [63:56], RO, reset 0x00. -/
def ARM_CMD_STATUS_RESULT : Field := ⟨0x200068, 56, 8, .ro, .const 0, 0, 0⟩
/-- R143: ARM_CMD_STATUS.OP [55:48], RO, reset 0. -/
def ARM_CMD_STATUS_OP : Field := ⟨0x200068, 48, 8, .ro, .const 0, 0, 0⟩
/-- R143: ARM_CMD_STATUS.STROKE [47:0], RO, reset 0. -/
def ARM_CMD_STATUS_STROKE : Field := ⟨0x200068, 0, 48, .ro, .const 0, 0, 0⟩
/-- R144: ARM_JOB.PHASE [63:60], RC, reset 0. -/
def ARM_JOB_PHASE : Field := ⟨0x200070, 60, 4, .rc, .const 0, 0, 0⟩
/-- R144: ARM_JOB.RESULT [59:52], RO, reset 0x00. -/
def ARM_JOB_RESULT : Field := ⟨0x200070, 52, 8, .ro, .const 0, 0, 0⟩
/-- R144: ARM_JOB.PART_MASK [47:32], RO, reset 0. -/
def ARM_JOB_PART_MASK : Field := ⟨0x200070, 32, 16, .ro, .const 0, 0, 0⟩
/-- R144: ARM_JOB.STROKES [31:0], RO, reset 0. -/
def ARM_JOB_STROKES : Field := ⟨0x200070, 0, 32, .ro, .const 0, 0, 0⟩
/-- R145: ARM_DRAIN_LIMIT.LIMIT [31:0], RW, reset 65 536. -/
def ARM_DRAIN_LIMIT_LIMIT : Field := ⟨0x200078, 0, 32, .rw, .const 65536, 0, 0⟩
/-- R146: ARM_MAQ_ADDR.ADDR [63:0], RW, reset 0. -/
def ARM_MAQ_ADDR_ADDR : Field := ⟨0x200080, 0, 64, .rw, .const 0, 0, 0⟩
/-- R147: ARM_MAQ_STATUS.DONE [63:63], RC, reset 0. -/
def ARM_MAQ_STATUS_DONE : Field := ⟨0x200088, 63, 1, .rc, .const 0, 0, 0⟩
/-- R147: ARM_MAQ_STATUS.RESULT [55:48], RO, reset 0x00. -/
def ARM_MAQ_STATUS_RESULT : Field := ⟨0x200088, 48, 8, .ro, .const 0, 0, 0⟩
/-- R147: ARM_MAQ_STATUS.FINDINGS [47:32], RO, reset 0. -/
def ARM_MAQ_STATUS_FINDINGS : Field := ⟨0x200088, 32, 16, .ro, .const 0, 0, 0⟩
/-- R147: ARM_MAQ_STATUS.WARNINGS [31:16], RO, reset 0. -/
def ARM_MAQ_STATUS_WARNINGS : Field := ⟨0x200088, 16, 16, .ro, .const 0, 0, 0⟩
/-- R148: ARM_NONCE.VALUE [63:0], RO, reset random or per fuses. -/
def ARM_NONCE_VALUE : Field := ⟨0x200090, 0, 64, .ro, .const 0, 0, 0⟩
/-- R148: ARM_DEVICE_UID.VALUE [63:0], RO, reset random or per fuses. -/
def ARM_DEVICE_UID_VALUE : Field := ⟨0x200098, 0, 64, .ro, .const 0, 0, 0⟩
/-- R149: ARM_TALLY.GRANT_DEVICE [63:54], RO, reset 0. -/
def ARM_TALLY_GRANT_DEVICE : Field := ⟨0x2000a0, 54, 10, .ro, .const 0, 0, 0⟩
/-- R149: ARM_TALLY.GRANT_PLATFORM [53:44], RO, reset 0. -/
def ARM_TALLY_GRANT_PLATFORM : Field := ⟨0x2000a0, 44, 10, .ro, .const 0, 0, 0⟩
/-- R149: ARM_TALLY.CONSUMED [31:16], RO, reset per fuses. -/
def ARM_TALLY_CONSUMED : Field := ⟨0x2000a0, 16, 16, .ro, .const 0, 0, 0⟩
/-- R149: ARM_TALLY.REMAINING [15:0], RO, reset per fuses. -/
def ARM_TALLY_REMAINING : Field := ⟨0x2000a0, 0, 16, .ro, .table [8, 255, 255, 32, 0, 1], 0, 0⟩
/-- R150: ARM_FUSE_REC_IDX.INDEX [9:0], RW, reset 0. -/
def ARM_FUSE_REC_IDX_INDEX : Field := ⟨0x2000d0, 0, 10, .rw, .const 0, 0, 0⟩
/-- R150: ARM_FUSE_REC_DATA.VALID [63:63], RO, reset per fuses. -/
def ARM_FUSE_REC_DATA_VALID : Field := ⟨0x2000d8, 63, 1, .ro, .const 0, 0, 0⟩
/-- R150: ARM_FUSE_REC_DATA.UNIT [62:56], RO, reset per fuses. -/
def ARM_FUSE_REC_DATA_UNIT : Field := ⟨0x2000d8, 56, 7, .ro, .const 0, 0, 0⟩
/-- R150: ARM_FUSE_REC_DATA.TALLY [47:44], RO, reset per fuses. -/
def ARM_FUSE_REC_DATA_TALLY : Field := ⟨0x2000d8, 44, 4, .ro, .const 0, 0, 0⟩
/-- R150: ARM_FUSE_REC_DATA.ARG [43:40], RO, reset per fuses. -/
def ARM_FUSE_REC_DATA_ARG : Field := ⟨0x2000d8, 40, 4, .ro, .const 0, 0, 0⟩
/-- R150: ARM_FUSE_REC_DATA.EPOCH [31:0], RO, reset per fuses. -/
def ARM_FUSE_REC_DATA_EPOCH : Field := ⟨0x2000d8, 0, 32, .ro, .const 0, 0, 0⟩
/-- R151: ARM_BOUND_LAST.OFFSET [56:32], RO, reset 0. -/
def ARM_BOUND_LAST_OFFSET : Field := ⟨0x2000e0, 32, 25, .ro, .const 0, 0, 0⟩
/-- R151: ARM_BOUND_LAST.STROKE [31:0], RO, reset 0. -/
def ARM_BOUND_LAST_STROKE : Field := ⟨0x2000e0, 0, 32, .ro, .const 0, 0, 0⟩
/-- R152: ARM_STATUS.BOUND_VIOL [2:2], W1C, reset 0. -/
def ARM_STATUS_BOUND_VIOL : Field := ⟨0x2000e8, 2, 1, .w1c, .const 0, 0, 0⟩
/-- R152: ARM_STATUS.TALLY_LOW [1:1], W1C, reset 0. -/
def ARM_STATUS_TALLY_LOW : Field := ⟨0x2000e8, 1, 1, .w1c, .const 0, 0, 0⟩
/-- R152: ARM_STATUS.JOB_ACTIVE [0:0], RO, reset 0. -/
def ARM_STATUS_JOB_ACTIVE : Field := ⟨0x2000e8, 0, 1, .ro, .const 0, 0, 0⟩
/-- R153: ARM_BOOTDESC.PARTIALS [57:54], RO, reset per flash. -/
def ARM_BOOTDESC_PARTIALS : Field := ⟨0x2000f0, 54, 4, .ro, .const 0, 0, 0⟩
/-- R153: ARM_BOOTDESC.ARM_SLOT [53:53], RO, reset per flash. -/
def ARM_BOOTDESC_ARM_SLOT : Field := ⟨0x2000f0, 53, 1, .ro, .const 0, 0, 0⟩
/-- R153: ARM_BOOTDESC.PLINTH_SLOT [52:52], RO, reset per flash. -/
def ARM_BOOTDESC_PLINTH_SLOT : Field := ⟨0x2000f0, 52, 1, .ro, .const 0, 0, 0⟩
/-- R153: ARM_BOOTDESC.SEQ [47:0], RO, reset per flash. -/
def ARM_BOOTDESC_SEQ : Field := ⟨0x2000f0, 0, 48, .ro, .const 0, 0, 0⟩
/-- R150: ARM_FUSE_REC_DETAIL.ROW [23:0], RO, reset per fuses. -/
def ARM_FUSE_REC_DETAIL_ROW : Field := ⟨0x2000f8, 0, 24, .ro, .const 0, 0, 0⟩
/-- R154: ARM_PPR.DONE [31:16], RO, reset per stack. -/
def ARM_PPR_DONE : Field := ⟨0x200100, 16, 16, .ro, .const 0, 0, 0⟩
/-- R154: ARM_PPR.REMAINING [15:0], RO, reset per stack. -/
def ARM_PPR_REMAINING : Field := ⟨0x200100, 0, 16, .ro, .const 0, 0, 0⟩
/-- R155: ARM_PART.DEFINED [63:63], RO, reset per armature. -/
def ARM_PART_DEFINED : Field := ⟨0x200200, 63, 1, .ro, .const 0, 0, 0⟩
/-- R155: ARM_PART.IN_JOB [62:62], RO, reset 0. -/
def ARM_PART_IN_JOB : Field := ⟨0x200200, 62, 1, .ro, .const 0, 0, 0⟩
/-- R155: ARM_PART.UNITS [47:32], RO, reset per armature. -/
def ARM_PART_UNITS : Field := ⟨0x200200, 32, 16, .ro, .const 0, 0, 0⟩
/-- R155: ARM_PART.ACTIVE [31:16], RO, reset per armature. -/
def ARM_PART_ACTIVE : Field := ⟨0x200200, 16, 16, .ro, .const 0, 0, 0⟩
/-- R196: HIF_CTL.AP_EN [9:8], RW, reset 0b11. -/
def HIF_CTL_AP_EN : Field := ⟨0x300000, 8, 2, .rw, .const 3, 0, 0⟩
/-- R196: HIF_CTL.MODE [7:6], AR, reset per armature. -/
def HIF_CTL_MODE : Field := ⟨0x300000, 6, 2, .ar, .const 0, 0, 0⟩
/-- R196: HIF_CTL.SPEED_CAP [3:0], RW, reset 7. -/
def HIF_CTL_SPEED_CAP : Field := ⟨0x300000, 0, 4, .rw, .const 7, 0, 0⟩
/-- R197: HIF_LINK.UP [31:31], RO, reset 0. -/
def HIF_LINK_UP : Field := ⟨0x300010, 31, 1, .ro, .const 0, 0, 0⟩
/-- R197: HIF_LINK.FLIT [30:30], RO, reset 0. -/
def HIF_LINK_FLIT : Field := ⟨0x300010, 30, 1, .ro, .const 0, 0, 0⟩
/-- R197: HIF_LINK.SPEED [29:26], RO, reset 0. -/
def HIF_LINK_SPEED : Field := ⟨0x300010, 26, 4, .ro, .const 0, 0, 0⟩
/-- R197: HIF_LINK.WIDTH [25:21], RO, reset 0. -/
def HIF_LINK_WIDTH : Field := ⟨0x300010, 21, 5, .ro, .const 0, 0, 0⟩
/-- R197: HIF_LINK.L0P_WIDTH [20:16], RO, reset 0. -/
def HIF_LINK_L0P_WIDTH : Field := ⟨0x300010, 16, 5, .ro, .const 0, 0, 0⟩
/-- R197: HIF_LINK.PM [15:13], RO, reset 0. -/
def HIF_LINK_PM : Field := ⟨0x300010, 13, 3, .ro, .const 0, 0, 0⟩
/-- R197: HIF_LINK.IDE_LINK [12:12], RO, reset 0. -/
def HIF_LINK_IDE_LINK : Field := ⟨0x300010, 12, 1, .ro, .const 0, 0, 0⟩
/-- R198: HIF_CPL_TO.TIMEOUT_US [15:0], RW, reset 4 000. -/
def HIF_CPL_TO_TIMEOUT_US : Field := ⟨0x300040, 0, 16, .rw, .const 4000, 50, 10000⟩
/-- R199: HIF_TAG_QUAR.STROKES [31:0], RW, reset 65 536. -/
def HIF_TAG_QUAR_STROKES : Field := ⟨0x300048, 0, 32, .rw, .const 65536, 16384, 1048576⟩
/-- R200: HIF_TAG_STATUS.QUARANTINED [30:16], RO, reset 0. -/
def HIF_TAG_STATUS_QUARANTINED : Field := ⟨0x300050, 16, 15, .ro, .const 0, 0, 0⟩
/-- R200: HIF_TAG_STATUS.IN_USE [14:0], RO, reset 0. -/
def HIF_TAG_STATUS_IN_USE : Field := ⟨0x300050, 0, 15, .ro, .const 0, 0, 0⟩
/-- R201: HIF_TIMEOUT_CNT.SAT [32:32], W1C, reset 0. -/
def HIF_TIMEOUT_CNT_SAT : Field := ⟨0x300070, 32, 1, .w1c, .const 0, 0, 0⟩
/-- R201: HIF_TIMEOUT_CNT.COUNT [31:0], RO, reset 0. -/
def HIF_TIMEOUT_CNT_COUNT : Field := ⟨0x300070, 0, 32, .ro, .const 0, 0, 0⟩
/-- R201: HIF_LATE_CPL.SAT [32:32], W1C, reset 0. -/
def HIF_LATE_CPL_SAT : Field := ⟨0x300078, 32, 1, .w1c, .const 0, 0, 0⟩
/-- R201: HIF_LATE_CPL.COUNT [31:0], RO, reset 0. -/
def HIF_LATE_CPL_COUNT : Field := ⟨0x300078, 0, 32, .ro, .const 0, 0, 0⟩
/-- R202: HIF_RESET_LAST.KIND [63:60], RO, reset 0. -/
def HIF_RESET_LAST_KIND : Field := ⟨0x3000b0, 60, 4, .ro, .const 0, 0, 0⟩
/-- R202: HIF_RESET_LAST.RID [55:40], RO, reset 0. -/
def HIF_RESET_LAST_RID : Field := ⟨0x3000b0, 40, 16, .ro, .const 0, 0, 0⟩
/-- R202: HIF_RESET_LAST.STROKE [39:0], RO, reset 0. -/
def HIF_RESET_LAST_STROKE : Field := ⟨0x3000b0, 0, 40, .ro, .const 0, 0, 0⟩
/-- R203: HIF_MGR.VACANT [63:63], RO, reset 0. -/
def HIF_MGR_VACANT : Field := ⟨0x3000d0, 63, 1, .ro, .const 0, 0, 0⟩
/-- R203: HIF_MGR.AUTO_FAILOVER [62:62], RW, reset 1. -/
def HIF_MGR_AUTO_FAILOVER : Field := ⟨0x3000d0, 62, 1, .rw, .const 1, 0, 0⟩
/-- R203: HIF_MGR.STANDBY_READY [61:61], RO, reset 0. -/
def HIF_MGR_STANDBY_READY : Field := ⟨0x3000d0, 61, 1, .ro, .const 0, 0, 0⟩
/-- R203: HIF_MGR.ACTIVE_AP [57:56], RO, reset per armature. -/
def HIF_MGR_ACTIVE_AP : Field := ⟨0x3000d0, 56, 2, .ro, .const 0, 0, 0⟩
/-- R203: HIF_MGR.ACTIVE_PF [55:52], RO, reset per armature. -/
def HIF_MGR_ACTIVE_PF : Field := ⟨0x3000d0, 52, 4, .ro, .const 0, 0, 0⟩
/-- R203: HIF_MGR.STANDBY_AP [51:50], RO, reset per armature. -/
def HIF_MGR_STANDBY_AP : Field := ⟨0x3000d0, 50, 2, .ro, .const 0, 0, 0⟩
/-- R203: HIF_MGR.STANDBY_PF [49:46], RO, reset per armature. -/
def HIF_MGR_STANDBY_PF : Field := ⟨0x3000d0, 46, 4, .ro, .const 0, 0, 0⟩
/-- R203: HIF_MGR.HB_LIMIT [31:0], RW, reset 3 906 250. -/
def HIF_MGR_HB_LIMIT : Field := ⟨0x3000d0, 0, 32, .rw, .const 3906250, 0, 0⟩
/-- R204: HIF_MGR_HB.BEAT [63:0], WO, reset 0. -/
def HIF_MGR_HB_BEAT : Field := ⟨0x3000d8, 0, 64, .wo, .const 0, 0, 0⟩
/-- R204: HIF_MGR_CMD.HANDOVER [63:63], W1S, reset 0. -/
def HIF_MGR_CMD_HANDOVER : Field := ⟨0x3000e0, 63, 1, .w1s, .const 0, 0, 0⟩
/-- R204: HIF_MGR_CMD.TAKEOVER [62:62], W1S, reset 0. -/
def HIF_MGR_CMD_TAKEOVER : Field := ⟨0x3000e0, 62, 1, .w1s, .const 0, 0, 0⟩
/-- R205: HIF_STATUS.CPL_TIMEOUT [5:5], W1C, reset 0. -/
def HIF_STATUS_CPL_TIMEOUT : Field := ⟨0x3000e8, 5, 1, .w1c, .const 0, 0, 0⟩
/-- R205: HIF_STATUS.LATE_CPL [4:4], W1C, reset 0. -/
def HIF_STATUS_LATE_CPL : Field := ⟨0x3000e8, 4, 1, .w1c, .const 0, 0, 0⟩
/-- R205: HIF_STATUS.FAILOVER [3:3], W1C, reset 0. -/
def HIF_STATUS_FAILOVER : Field := ⟨0x3000e8, 3, 1, .w1c, .const 0, 0, 0⟩
/-- R205: HIF_STATUS.TDI_ERROR [2:2], W1C, reset 0. -/
def HIF_STATUS_TDI_ERROR : Field := ⟨0x3000e8, 2, 1, .w1c, .const 0, 0, 0⟩
/-- R205: HIF_STATUS.CXL_ERR [1:1], W1C, reset 0. -/
def HIF_STATUS_CXL_ERR : Field := ⟨0x3000e8, 1, 1, .w1c, .const 0, 0, 0⟩
/-- R205: HIF_STATUS.LINK_CHANGE [0:0], W1C, reset 0. -/
def HIF_STATUS_LINK_CHANGE : Field := ⟨0x3000e8, 0, 1, .w1c, .const 0, 0, 0⟩
/-- R206: HIF_ATC_STATUS.INVAL_PENDING [37:32], RO, reset 0. -/
def HIF_ATC_STATUS_INVAL_PENDING : Field := ⟨0x3000f0, 32, 6, .ro, .const 0, 0, 0⟩
/-- R206: HIF_ATC_STATUS.VALID [14:0], RO, reset 0. -/
def HIF_ATC_STATUS_VALID : Field := ⟨0x3000f0, 0, 15, .ro, .const 0, 0, 0⟩
/-- R207: HIF_FN_SEL.AP [17:16], RW, reset 0. -/
def HIF_FN_SEL_AP : Field := ⟨0x300100, 16, 2, .rw, .const 0, 0, 0⟩
/-- R207: HIF_FN_SEL.RID [15:0], RW, reset 0. -/
def HIF_FN_SEL_RID : Field := ⟨0x300100, 0, 16, .rw, .const 0, 0, 0⟩
/-- R207: HIF_FN_INFO.DSTATE [63:62], RO, reset 0. -/
def HIF_FN_INFO_DSTATE : Field := ⟨0x300108, 62, 2, .ro, .const 0, 0, 0⟩
/-- R207: HIF_FN_INFO.FLR_BUSY [61:61], RO, reset 0. -/
def HIF_FN_INFO_FLR_BUSY : Field := ⟨0x300108, 61, 1, .ro, .const 0, 0, 0⟩
/-- R207: HIF_FN_INFO.TDI_STATE [60:58], RO, reset 0. -/
def HIF_FN_INFO_TDI_STATE : Field := ⟨0x300108, 58, 3, .ro, .const 0, 0, 0⟩
/-- R207: HIF_FN_INFO.BME [57:57], RO, reset 0. -/
def HIF_FN_INFO_BME : Field := ⟨0x300108, 57, 1, .ro, .const 0, 0, 0⟩
/-- R207: HIF_FN_INFO.EXISTS [56:56], RO, reset 0. -/
def HIF_FN_INFO_EXISTS : Field := ⟨0x300108, 56, 1, .ro, .const 0, 0, 0⟩
/-- R207: HIF_FN_INFO.CTO_RANGE [55:52], RO, reset 0. -/
def HIF_FN_INFO_CTO_RANGE : Field := ⟨0x300108, 52, 4, .ro, .const 0, 0, 0⟩
/-- R207: HIF_FN_INFO.NICHES [47:32], RO, reset 0. -/
def HIF_FN_INFO_NICHES : Field := ⟨0x300108, 32, 16, .ro, .const 0, 0, 0⟩
/-- R207: HIF_FN_INFO.EFF_TIMEOUT_US [31:16], RO, reset 0. -/
def HIF_FN_INFO_EFF_TIMEOUT_US : Field := ⟨0x300108, 16, 16, .ro, .const 0, 0, 0⟩
/-- R208: HIF_CXL.CXL_MODE [63:63], RO, reset per armature. -/
def HIF_CXL_CXL_MODE : Field := ⟨0x300110, 63, 1, .ro, .const 0, 0, 0⟩
/-- R208: HIF_CXL.HDM0_COMMITTED [62:62], RO, reset 0. -/
def HIF_CXL_HDM0_COMMITTED : Field := ⟨0x300110, 62, 1, .ro, .const 0, 0, 0⟩
/-- R208: HIF_CXL.HDM1_COMMITTED [61:61], RO, reset 0. -/
def HIF_CXL_HDM1_COMMITTED : Field := ⟨0x300110, 61, 1, .ro, .const 0, 0, 0⟩
/-- R208: HIF_CXL.EXPORT_GIB [47:40], AR, reset per armature. -/
def HIF_CXL_EXPORT_GIB : Field := ⟨0x300110, 40, 8, .ar, .const 0, 0, 0⟩
/-- R208: HIF_CXL.EXPORT_QTR [39:32], AR, reset per armature. -/
def HIF_CXL_EXPORT_QTR : Field := ⟨0x300110, 32, 8, .ar, .const 0, 0, 0⟩
/-- R208: HIF_CXL.POISONED [31:0], RO, reset 0. -/
def HIF_CXL_POISONED : Field := ⟨0x300110, 0, 32, .ro, .const 0, 0, 0⟩
/-- R209: HIF_PCI_ID.VENDOR [63:48], RO, reset 0x1E47. -/
def HIF_PCI_ID_VENDOR : Field := ⟨0x300118, 48, 16, .ro, .const 7751, 0, 0⟩
/-- R209: HIF_PCI_ID.DEVICE_PF [47:32], RO, reset 0x9600. -/
def HIF_PCI_ID_DEVICE_PF : Field := ⟨0x300118, 32, 16, .ro, .const 38400, 0, 0⟩
/-- R209: HIF_PCI_ID.DEVICE_VF [31:16], RO, reset 0x9601. -/
def HIF_PCI_ID_DEVICE_VF : Field := ⟨0x300118, 16, 16, .ro, .const 38401, 0, 0⟩
/-- R209: HIF_PCI_ID.SUBSYSTEM [15:0], AR, reset per armature. -/
def HIF_PCI_ID_SUBSYSTEM : Field := ⟨0x300118, 0, 16, .ar, .const 0, 0, 0⟩
/-- R236: NCH_CMD.GO [63:63], W1S, reset 0. -/
def NCH_CMD_GO : Field := ⟨0x400000, 63, 1, .w1s, .const 0, 0, 0⟩
/-- R236: NCH_CMD.BUSY [62:62], RO, reset 0. -/
def NCH_CMD_BUSY : Field := ⟨0x400000, 62, 1, .ro, .const 0, 0, 0⟩
/-- R236: NCH_CMD.OP [55:48], RW, reset 0. -/
def NCH_CMD_OP : Field := ⟨0x400000, 48, 8, .rw, .const 0, 0, 0⟩
/-- R236: NCH_CMD.NICHE [11:0], RW, reset 0. -/
def NCH_CMD_NICHE : Field := ⟨0x400000, 0, 12, .rw, .const 0, 0, 0⟩
/-- R237: NCH_CMD_ADDR.ADDR [63:0], RW, reset 0. -/
def NCH_CMD_ADDR_ADDR : Field := ⟨0x400008, 0, 64, .rw, .const 0, 0, 0⟩
/-- R237: NCH_CMD_ARG.ARG [63:0], RW, reset 0. -/
def NCH_CMD_ARG_ARG : Field := ⟨0x400010, 0, 64, .rw, .const 0, 0, 0⟩
/-- R238: NCH_CMD_STATUS.STATUS [63:56], RO, reset 0x00. -/
def NCH_CMD_STATUS_STATUS : Field := ⟨0x400018, 56, 8, .ro, .const 0, 0, 0⟩
/-- R238: NCH_CMD_STATUS.OP [55:48], RO, reset 0. -/
def NCH_CMD_STATUS_OP : Field := ⟨0x400018, 48, 8, .ro, .const 0, 0, 0⟩
/-- R238: NCH_CMD_STATUS.NICHE [43:32], RO, reset 0. -/
def NCH_CMD_STATUS_NICHE : Field := ⟨0x400018, 32, 12, .ro, .const 0, 0, 0⟩
/-- R238: NCH_CMD_STATUS.STROKE [31:0], RO, reset 0. -/
def NCH_CMD_STATUS_STROKE : Field := ⟨0x400018, 0, 32, .ro, .const 0, 0, 0⟩
/-- R239: NCH_SEL.RES [19:16], RW, reset 0. -/
def NCH_SEL_RES : Field := ⟨0x400020, 16, 4, .rw, .const 0, 0, 0⟩
/-- R239: NCH_SEL.NICHE [11:0], RW, reset 0. -/
def NCH_SEL_NICHE : Field := ⟨0x400020, 0, 12, .rw, .const 0, 0, 0⟩
/-- R240: NCH_INFO.STATE [63:60], RO, reset 0. -/
def NCH_INFO_STATE : Field := ⟨0x400028, 60, 4, .ro, .const 0, 0, 0⟩
/-- R240: NCH_INFO.BOUND [59:59], RO, reset 0. -/
def NCH_INFO_BOUND : Field := ⟨0x400028, 59, 1, .ro, .const 0, 0, 0⟩
/-- R240: NCH_INFO.PASID_VALID [58:58], RO, reset 0. -/
def NCH_INFO_PASID_VALID : Field := ⟨0x400028, 58, 1, .ro, .const 0, 0, 0⟩
/-- R240: NCH_INFO.LOGGING [57:57], RO, reset 0. -/
def NCH_INFO_LOGGING : Field := ⟨0x400028, 57, 1, .ro, .const 0, 0, 0⟩
/-- R240: NCH_INFO.POOL [55:50], RO, reset 0. -/
def NCH_INFO_POOL : Field := ⟨0x400028, 50, 6, .ro, .const 0, 0, 0⟩
/-- R240: NCH_INFO.AP [49:48], RO, reset 0. -/
def NCH_INFO_AP : Field := ⟨0x400028, 48, 2, .ro, .const 0, 0, 0⟩
/-- R240: NCH_INFO.PAGE [47:36], RO, reset 0. -/
def NCH_INFO_PAGE : Field := ⟨0x400028, 36, 12, .ro, .const 0, 0, 0⟩
/-- R240: NCH_INFO.PASID [35:16], RO, reset 0. -/
def NCH_INFO_PASID : Field := ⟨0x400028, 16, 20, .ro, .const 0, 0, 0⟩
/-- R240: NCH_INFO.RID [15:0], RO, reset 0. -/
def NCH_INFO_RID : Field := ⟨0x400028, 0, 16, .ro, .const 0, 0, 0⟩
/-- R241: NCH_QUOTA.LIMIT [63:32], RO, reset 0. -/
def NCH_QUOTA_LIMIT : Field := ⟨0x400030, 32, 32, .ro, .const 0, 0, 0⟩
/-- R241: NCH_QUOTA.USED [31:0], RO, reset 0. -/
def NCH_QUOTA_USED : Field := ⟨0x400030, 0, 32, .ro, .const 0, 0, 0⟩
/-- R242: NCH_POOL_SEL.RES [11:8], RW, reset 0. -/
def NCH_POOL_SEL_RES : Field := ⟨0x400038, 8, 4, .rw, .const 0, 0, 0⟩
/-- R242: NCH_POOL_SEL.POOL [5:0], RW, reset 0. -/
def NCH_POOL_SEL_POOL : Field := ⟨0x400038, 0, 6, .rw, .const 0, 0, 0⟩
/-- R242: NCH_POOL_INFO.TOTAL [63:32], AR, reset per armature. -/
def NCH_POOL_INFO_TOTAL : Field := ⟨0x400040, 32, 32, .ar, .const 0, 0, 0⟩
/-- R242: NCH_POOL_INFO.FREE [31:0], RO, reset per armature. -/
def NCH_POOL_INFO_FREE : Field := ⟨0x400040, 0, 32, .ro, .const 0, 0, 0⟩
/-- R243: NCH_STATUS.IN_USE [44:32], RO, reset 1. -/
def NCH_STATUS_IN_USE : Field := ⟨0x400048, 32, 13, .ro, .const 1, 0, 0⟩
/-- R243: NCH_STATUS.SPOOF [1:1], W1C, reset 0. -/
def NCH_STATUS_SPOOF : Field := ⟨0x400048, 1, 1, .w1c, .const 0, 0, 0⟩
/-- R243: NCH_STATUS.QUIESCED [0:0], W1C, reset 0. -/
def NCH_STATUS_QUIESCED : Field := ⟨0x400048, 0, 1, .w1c, .const 0, 0, 0⟩
/-- R244: NCH_SPOOF_LAST.CHECK [63:60], RO, reset 0. -/
def NCH_SPOOF_LAST_CHECK : Field := ⟨0x400050, 60, 4, .ro, .const 0, 0, 0⟩
/-- R244: NCH_SPOOF_LAST.NICHE [43:32], RO, reset 0. -/
def NCH_SPOOF_LAST_NICHE : Field := ⟨0x400050, 32, 12, .ro, .const 0, 0, 0⟩
/-- R244: NCH_SPOOF_LAST.STROKE [31:0], RO, reset 0. -/
def NCH_SPOOF_LAST_STROKE : Field := ⟨0x400050, 0, 32, .ro, .const 0, 0, 0⟩
/-- R245: NCH_CNT_CLR.RX_DROP [13:13], WO, reset 0. -/
def NCH_CNT_CLR_RX_DROP : Field := ⟨0x400058, 13, 1, .wo, .const 0, 0, 0⟩
/-- R245: NCH_CNT_CLR.SPOOF_DROP [12:12], WO, reset 0. -/
def NCH_CNT_CLR_SPOOF_DROP : Field := ⟨0x400058, 12, 1, .wo, .const 0, 0, 0⟩
/-- R245: NCH_CNT_CLR.NICHE [11:0], WO, reset 0. -/
def NCH_CNT_CLR_NICHE : Field := ⟨0x400058, 0, 12, .wo, .const 0, 0, 0⟩
/-- R829: NCH_STACKED.BASE_MIB [63:32], RO, reset 0. -/
def NCH_STACKED_BASE_MIB : Field := ⟨0x400060, 32, 32, .ro, .const 0, 0, 0⟩
/-- R829: NCH_STACKED.LEN_MIB [31:0], RO, reset 0. -/
def NCH_STACKED_LEN_MIB : Field := ⟨0x400060, 0, 32, .ro, .const 0, 0, 0⟩
/-- R282: RNG_CMD.GO [63:63], W1S, reset 0. -/
def RNG_CMD_GO : Field := ⟨0x500000, 63, 1, .w1s, .const 0, 0, 0⟩
/-- R282: RNG_CMD.BUSY [62:62], RO, reset 0. -/
def RNG_CMD_BUSY : Field := ⟨0x500000, 62, 1, .ro, .const 0, 0, 0⟩
/-- R282: RNG_CMD.OP [55:48], RW, reset 0. -/
def RNG_CMD_OP : Field := ⟨0x500000, 48, 8, .rw, .const 0, 0, 0⟩
/-- R282: RNG_CMD_ADDR.ADDR [63:0], RW, reset 0. -/
def RNG_CMD_ADDR_ADDR : Field := ⟨0x500008, 0, 64, .rw, .const 0, 0, 0⟩
/-- R283: RNG_CMD_ARG.RESTART [63:63], RW, reset 0. -/
def RNG_CMD_ARG_RESTART : Field := ⟨0x500010, 63, 1, .rw, .const 0, 0, 0⟩
/-- R283: RNG_CMD_ARG.RING [16:0], RW, reset 0. -/
def RNG_CMD_ARG_RING : Field := ⟨0x500010, 0, 17, .rw, .const 0, 0, 0⟩
/-- R283: RNG_CMD_STATUS.STATUS [63:56], RO, reset 0x00. -/
def RNG_CMD_STATUS_STATUS : Field := ⟨0x500018, 56, 8, .ro, .const 0, 0, 0⟩
/-- R283: RNG_CMD_STATUS.OP [55:48], RO, reset 0. -/
def RNG_CMD_STATUS_OP : Field := ⟨0x500018, 48, 8, .ro, .const 0, 0, 0⟩
/-- R283: RNG_CMD_STATUS.RING [46:30], RO, reset 0. -/
def RNG_CMD_STATUS_RING : Field := ⟨0x500018, 30, 17, .ro, .const 0, 0, 0⟩
/-- R283: RNG_CMD_STATUS.STROKE [29:0], RO, reset 0. -/
def RNG_CMD_STATUS_STROKE : Field := ⟨0x500018, 0, 30, .ro, .const 0, 0, 0⟩
/-- R284: RNG_SEL.RING [16:0], RW, reset 0. -/
def RNG_SEL_RING : Field := ⟨0x500020, 0, 17, .rw, .const 0, 0, 0⟩
/-- R285: RNG_INFO.STATE [63:62], RO, reset 0. -/
def RNG_INFO_STATE : Field := ⟨0x500028, 62, 2, .ro, .const 0, 0, 0⟩
/-- R285: RNG_INFO.IDLE [61:61], RO, reset 0. -/
def RNG_INFO_IDLE : Field := ⟨0x500028, 61, 1, .ro, .const 0, 0, 0⟩
/-- R285: RNG_INFO.TYPE [60:59], RO, reset 0. -/
def RNG_INFO_TYPE : Field := ⟨0x500028, 59, 2, .ro, .const 0, 0, 0⟩
/-- R285: RNG_INFO.RESIDENT [58:58], RO, reset 0. -/
def RNG_INFO_RESIDENT : Field := ⟨0x500028, 58, 1, .ro, .const 0, 0, 0⟩
/-- R285: RNG_INFO.CONTROL [57:57], RO, reset 0. -/
def RNG_INFO_CONTROL : Field := ⟨0x500028, 57, 1, .ro, .const 0, 0, 0⟩
/-- R285: RNG_INFO.RECEIVE [56:56], RO, reset 0. -/
def RNG_INFO_RECEIVE : Field := ⟨0x500028, 56, 1, .ro, .const 0, 0, 0⟩
/-- R285: RNG_INFO.UNORDERED [55:55], RO, reset 0. -/
def RNG_INFO_UNORDERED : Field := ⟨0x500028, 55, 1, .ro, .const 0, 0, 0⟩
/-- R285: RNG_INFO.RX_TS [54:54], RO, reset 0. -/
def RNG_INFO_RX_TS : Field := ⟨0x500028, 54, 1, .ro, .const 0, 0, 0⟩
/-- R285: RNG_INFO.ARMED [53:53], RO, reset 0. -/
def RNG_INFO_ARMED : Field := ⟨0x500028, 53, 1, .ro, .const 0, 0, 0⟩
/-- R285: RNG_INFO.STOPPED [52:52], RO, reset 0. -/
def RNG_INFO_STOPPED : Field := ⟨0x500028, 52, 1, .ro, .const 0, 0, 0⟩
/-- R285: RNG_INFO.SIZE_LOG2 [51:47], RO, reset 0. -/
def RNG_INFO_SIZE_LOG2 : Field := ⟨0x500028, 47, 5, .ro, .const 0, 0, 0⟩
/-- R285: RNG_INFO.NICHE [46:35], RO, reset 0. -/
def RNG_INFO_NICHE : Field := ⟨0x500028, 35, 12, .ro, .const 0, 0, 0⟩
/-- R285: RNG_INFO.LINK [16:0], RO, reset 0. -/
def RNG_INFO_LINK : Field := ⟨0x500028, 0, 17, .ro, .const 0, 0, 0⟩
/-- R286: RNG_PTRS.PRODUCER [63:48], RO, reset 0. -/
def RNG_PTRS_PRODUCER : Field := ⟨0x500030, 48, 16, .ro, .const 0, 0, 0⟩
/-- R286: RNG_PTRS.CONSUMER [47:32], RO, reset 0. -/
def RNG_PTRS_CONSUMER : Field := ⟨0x500030, 32, 16, .ro, .const 0, 0, 0⟩
/-- R286: RNG_PTRS.HELD [31:24], RO, reset 0. -/
def RNG_PTRS_HELD : Field := ⟨0x500030, 24, 8, .ro, .const 0, 0, 0⟩
/-- R286: RNG_PTRS.IN_FLIGHT [15:0], RO, reset 0. -/
def RNG_PTRS_IN_FLIGHT : Field := ⟨0x500030, 0, 16, .ro, .const 0, 0, 0⟩
/-- R287: RNG_POLL.INTERVAL [47:32], RW, reset per descriptor. -/
def RNG_POLL_INTERVAL : Field := ⟨0x500038, 32, 16, .rw, .const 0, 0, 0⟩
/-- R287: RNG_POLL.POLL_MIN [31:16], RW, reset per descriptor. -/
def RNG_POLL_POLL_MIN : Field := ⟨0x500038, 16, 16, .rw, .const 0, 0, 0⟩
/-- R287: RNG_POLL.POLL_MAX [15:0], RW, reset per descriptor. -/
def RNG_POLL_POLL_MAX : Field := ⟨0x500038, 0, 16, .rw, .const 0, 0, 0⟩
/-- R288: RNG_RCNT.SAT [32:32], W1C, reset 0. -/
def RNG_RCNT_SAT : Field := ⟨0x500040, 32, 1, .w1c, .const 0, 0, 0⟩
/-- R288: RNG_RCNT.COUNT [31:0], RO, reset 0. -/
def RNG_RCNT_COUNT : Field := ⟨0x500040, 0, 32, .ro, .const 0, 0, 0⟩
/-- R289: RNG_MGR_NUDGE.RING [16:0], WO, reset 0. -/
def RNG_MGR_NUDGE_RING : Field := ⟨0x500048, 0, 17, .wo, .const 0, 0, 0⟩
/-- R289: RNG_MGR_CQ_REL.ARM [63:63], WO, reset 0. -/
def RNG_MGR_CQ_REL_ARM : Field := ⟨0x500050, 63, 1, .wo, .const 0, 0, 0⟩
/-- R289: RNG_MGR_CQ_REL.COUNT [48:32], WO, reset 0. -/
def RNG_MGR_CQ_REL_COUNT : Field := ⟨0x500050, 32, 17, .wo, .const 0, 0, 0⟩
/-- R289: RNG_MGR_CQ_REL.RING [16:0], WO, reset 0. -/
def RNG_MGR_CQ_REL_RING : Field := ⟨0x500050, 0, 17, .wo, .const 0, 0, 0⟩
/-- R289: RNG_MGR_EQ_REL.ARM [63:63], WO, reset 0. -/
def RNG_MGR_EQ_REL_ARM : Field := ⟨0x500058, 63, 1, .wo, .const 0, 0, 0⟩
/-- R289: RNG_MGR_EQ_REL.COUNT [48:32], WO, reset 0. -/
def RNG_MGR_EQ_REL_COUNT : Field := ⟨0x500058, 32, 17, .wo, .const 0, 0, 0⟩
/-- R289: RNG_MGR_EQ_REL.RING [16:0], WO, reset 0. -/
def RNG_MGR_EQ_REL_RING : Field := ⟨0x500058, 0, 17, .wo, .const 0, 0, 0⟩
/-- R290: RNG_STATUS.EVQ_LOST [2:2], W1C, reset 0. -/
def RNG_STATUS_EVQ_LOST : Field := ⟨0x500060, 2, 1, .w1c, .const 0, 0, 0⟩
/-- R290: RNG_STATUS.POLL_DEFER [1:1], W1C, reset 0. -/
def RNG_STATUS_POLL_DEFER : Field := ⟨0x500060, 1, 1, .w1c, .const 0, 0, 0⟩
/-- R290: RNG_STATUS.RING_ERR [0:0], W1C, reset 0. -/
def RNG_STATUS_RING_ERR : Field := ⟨0x500060, 0, 1, .w1c, .const 0, 0, 0⟩
/-- R291: RNG_ERR_LAST.KIND [63:60], RO, reset 0. -/
def RNG_ERR_LAST_KIND : Field := ⟨0x500068, 60, 4, .ro, .const 0, 0, 0⟩
/-- R291: RNG_ERR_LAST.NICHE [59:48], RO, reset 0. -/
def RNG_ERR_LAST_NICHE : Field := ⟨0x500068, 48, 12, .ro, .const 0, 0, 0⟩
/-- R291: RNG_ERR_LAST.RING [46:30], RO, reset 0. -/
def RNG_ERR_LAST_RING : Field := ⟨0x500068, 30, 17, .ro, .const 0, 0, 0⟩
/-- R291: RNG_ERR_LAST.STROKE [29:0], RO, reset 0. -/
def RNG_ERR_LAST_STROKE : Field := ⟨0x500068, 0, 30, .ro, .const 0, 0, 0⟩
/-- R292: RNG_BASE.BASE [63:0], RO, reset 0. -/
def RNG_BASE_BASE : Field := ⟨0x500070, 0, 64, .ro, .const 0, 0, 0⟩
/-- R293: RNG_POLL_BUDGET.BUDGET [15:0], RW, reset 128. -/
def RNG_POLL_BUDGET_BUDGET : Field := ⟨0x500100, 0, 16, .rw, .const 128, 16, 1024⟩
/-- R293: RNG_POLL_DEFER.SAT [32:32], W1C, reset 0. -/
def RNG_POLL_DEFER_SAT : Field := ⟨0x500110, 32, 1, .w1c, .const 0, 0, 0⟩
/-- R293: RNG_POLL_DEFER.COUNT [31:0], RO, reset 0. -/
def RNG_POLL_DEFER_COUNT : Field := ⟨0x500110, 0, 32, .ro, .const 0, 0, 0⟩
/-- R294: RNG_EVROUTE_SEL.EVENT_ID [13:0], RW, reset 0. -/
def RNG_EVROUTE_SEL_EVENT_ID : Field := ⟨0x500200, 0, 14, .rw, .const 0, 0, 0⟩
/-- R294: RNG_EVROUTE.TARGET [63:62], RW, reset per armature. -/
def RNG_EVROUTE_TARGET : Field := ⟨0x500208, 62, 2, .rw, .const 0, 0, 0⟩
/-- R294: RNG_EVROUTE.DEST [16:0], RW, reset per armature. -/
def RNG_EVROUTE_DEST : Field := ⟨0x500208, 0, 17, .rw, .const 0, 0, 0⟩
/-- R317: DMA_CH_CFG.EN [2:2], RW, reset 1. -/
def DMA_CH_CFG_EN : Field := ⟨0x600000, 2, 1, .rw, .const 1, 0, 0⟩
/-- R317: DMA_CH_CFG.PRIO [1:0], RW, reset c ÷ 16, rounded down. -/
def DMA_CH_CFG_PRIO : Field := ⟨0x600000, 0, 2, .rw, .idxDiv 16, 0, 0⟩
/-- R318: DMA_CH_STAT.BUSY [63:63], RO, reset 0. -/
def DMA_CH_STAT_BUSY : Field := ⟨0x600200, 63, 1, .ro, .const 0, 0, 0⟩
/-- R318: DMA_CH_STAT.REPEAT [62:62], RO, reset 0. -/
def DMA_CH_STAT_REPEAT : Field := ⟨0x600200, 62, 1, .ro, .const 0, 0, 0⟩
/-- R318: DMA_CH_STAT.PRIO [61:60], RO, reset 0. -/
def DMA_CH_STAT_PRIO : Field := ⟨0x600200, 60, 2, .ro, .const 0, 0, 0⟩
/-- R318: DMA_CH_STAT.NICHE [59:48], RO, reset 0. -/
def DMA_CH_STAT_NICHE : Field := ⟨0x600200, 48, 12, .ro, .const 0, 0, 0⟩
/-- R318: DMA_CH_STAT.RING [47:31], RO, reset 0. -/
def DMA_CH_STAT_RING : Field := ⟨0x600200, 31, 17, .ro, .const 0, 0, 0⟩
/-- R318: DMA_CH_STAT.TAG [30:15], RO, reset 0. -/
def DMA_CH_STAT_TAG : Field := ⟨0x600200, 15, 16, .ro, .const 0, 0, 0⟩
/-- R318: DMA_CH_STAT.BUF [14:11], RO, reset 0. -/
def DMA_CH_STAT_BUF : Field := ⟨0x600200, 11, 4, .ro, .const 0, 0, 0⟩
/-- R319: DMA_NSEL.NICHE [11:0], RW, reset 0. -/
def DMA_NSEL_NICHE : Field := ⟨0x600400, 0, 12, .rw, .const 0, 0, 0⟩
/-- R319: DMA_NCFG.CH_MAX [15:8], RW, reset 16. -/
def DMA_NCFG_CH_MAX : Field := ⟨0x600408, 8, 8, .rw, .const 16, 1, 64⟩
/-- R319: DMA_NCFG.PRIO_CAP [1:0], RW, reset 0 for niche 0, 2 otherwise. -/
def DMA_NCFG_PRIO_CAP : Field := ⟨0x600408, 0, 2, .rw, .zeroElse 0 2, 0, 0⟩
/-- R320: DMA_STATUS.CAP_CLAMP [1:1], W1C, reset 0. -/
def DMA_STATUS_CAP_CLAMP : Field := ⟨0x600410, 1, 1, .w1c, .const 0, 0, 0⟩
/-- R320: DMA_STATUS.ERR [0:0], W1C, reset 0. -/
def DMA_STATUS_ERR : Field := ⟨0x600410, 0, 1, .w1c, .const 0, 0, 0⟩
/-- R321: DMA_ERR_LAST.STATUS [63:56], RO, reset 0x00. -/
def DMA_ERR_LAST_STATUS : Field := ⟨0x600418, 56, 8, .ro, .const 0, 0, 0⟩
/-- R321: DMA_ERR_LAST.NICHE [55:44], RO, reset 0. -/
def DMA_ERR_LAST_NICHE : Field := ⟨0x600418, 44, 12, .ro, .const 0, 0, 0⟩
/-- R321: DMA_ERR_LAST.RING [43:27], RO, reset 0. -/
def DMA_ERR_LAST_RING : Field := ⟨0x600418, 27, 17, .ro, .const 0, 0, 0⟩
/-- R321: DMA_ERR_LAST.TAG [26:11], RO, reset 0. -/
def DMA_ERR_LAST_TAG : Field := ⟨0x600418, 11, 16, .ro, .const 0, 0, 0⟩
/-- R322: DMA_ERR_CNT.SAT [32:32], W1C, reset 0. -/
def DMA_ERR_CNT_SAT : Field := ⟨0x600420, 32, 1, .w1c, .const 0, 0, 0⟩
/-- R322: DMA_ERR_CNT.COUNT [31:0], RO, reset 0. -/
def DMA_ERR_CNT_COUNT : Field := ⟨0x600420, 0, 32, .ro, .const 0, 0, 0⟩
/-- R323: DMA_BEATS.COUNT [63:0], RO, reset 0. -/
def DMA_BEATS_COUNT : Field := ⟨0x600440, 0, 64, .ro, .const 0, 0, 0⟩
/-- R360: TIL_INFO.ROLE [63:62], AR, reset per armature. -/
def TIL_INFO_ROLE : Field := ⟨0x800000, 62, 2, .ar, .const 0, 0, 0⟩
/-- R360: TIL_INFO.UNIT_STATE [61:59], RO, reset per armature. -/
def TIL_INFO_UNIT_STATE : Field := ⟨0x800000, 59, 3, .ro, .const 0, 0, 0⟩
/-- R360: TIL_INFO.DEBUG_HELD [58:58], RO, reset 0. -/
def TIL_INFO_DEBUG_HELD : Field := ⟨0x800000, 58, 1, .ro, .const 0, 0, 0⟩
/-- R360: TIL_INFO.PARTITION [55:52], AR, reset per armature. -/
def TIL_INFO_PARTITION : Field := ⟨0x800000, 52, 4, .ar, .const 0, 0, 0⟩
/-- R360: TIL_INFO.SHARE_LOG2 [51:48], RO, reset 0. -/
def TIL_INFO_SHARE_LOG2 : Field := ⟨0x800000, 48, 4, .ro, .const 0, 0, 0⟩
/-- R360: TIL_INFO.ROW [47:44], RO, reset per tile. -/
def TIL_INFO_ROW : Field := ⟨0x800000, 44, 4, .ro, .idxDiv 12, 0, 0⟩
/-- R360: TIL_INFO.COL [43:40], RO, reset per tile. -/
def TIL_INFO_COL : Field := ⟨0x800000, 40, 4, .ro, .idxMod 12, 0, 0⟩
/-- R360: TIL_INFO.SB_THREADS [39:32], AR, reset per armature. -/
def TIL_INFO_SB_THREADS : Field := ⟨0x800000, 32, 8, .ar, .const 0, 0, 0⟩
/-- R360: TIL_INFO.SB_MASK [31:0], AR, reset per armature. -/
def TIL_INFO_SB_MASK : Field := ⟨0x800000, 0, 32, .ar, .const 0, 0, 0⟩
/-- R361: TIL_STATUS.STAGED_DISCARD [2:2], W1C, reset 0. -/
def TIL_STATUS_STAGED_DISCARD : Field := ⟨0x800008, 2, 1, .w1c, .const 0, 0, 0⟩
/-- R361: TIL_STATUS.FAULT [1:1], W1C, reset 0. -/
def TIL_STATUS_FAULT : Field := ⟨0x800008, 1, 1, .w1c, .const 0, 0, 0⟩
/-- R361: TIL_STATUS.DEBUG [0:0], W1C, reset 0. -/
def TIL_STATUS_DEBUG : Field := ⟨0x800008, 0, 1, .w1c, .const 0, 0, 0⟩
/-- R362: TIL_THR_PRIO.PRIO [63:0], RW, reset per armature. -/
def TIL_THR_PRIO_PRIO : Field := ⟨0x800010, 0, 64, .rw, .const 0, 0, 0⟩
/-- R363: TIL_THR_STATE_LO.STATE [63:0], RO, reset 0. -/
def TIL_THR_STATE_LO_STATE : Field := ⟨0x800018, 0, 64, .ro, .const 0, 0, 0⟩
/-- R363: TIL_THR_STATE_HI.STATE [63:0], RO, reset 0. -/
def TIL_THR_STATE_HI_STATE : Field := ⟨0x800020, 0, 64, .ro, .const 0, 0, 0⟩
/-- R364: TIL_WAITMON.PLINTH_ACTION [8:8], RW, reset 1. -/
def TIL_WAITMON_PLINTH_ACTION : Field := ⟨0x800028, 8, 1, .rw, .const 1, 0, 0⟩
/-- R364: TIL_WAITMON.LIMIT [7:0], RW, reset 16. -/
def TIL_WAITMON_LIMIT : Field := ⟨0x800028, 0, 8, .rw, .const 16, 0, 0⟩
/-- R365: TIL_MEM.CODE_4K [63:55], AR, reset per armature. -/
def TIL_MEM_CODE_4K : Field := ⟨0x800030, 55, 9, .ar, .const 0, 0, 0⟩
/-- R365: TIL_MEM.SHARED_4K [54:46], AR, reset per armature. -/
def TIL_MEM_SHARED_4K : Field := ⟨0x800030, 46, 9, .ar, .const 0, 0, 0⟩
/-- R365: TIL_MEM.PRIVATE_4K [45:38], AR, reset per armature. -/
def TIL_MEM_PRIVATE_4K : Field := ⟨0x800030, 38, 8, .ar, .const 0, 0, 0⟩
/-- R365: TIL_MEM.SCRATCH_4K [37:30], AR, reset per armature. -/
def TIL_MEM_SCRATCH_4K : Field := ⟨0x800030, 30, 8, .ar, .const 0, 0, 0⟩
/-- R365: TIL_MEM.CH_SLOTS [29:18], AR, reset per armature. -/
def TIL_MEM_CH_SLOTS : Field := ⟨0x800030, 18, 12, .ar, .const 0, 0, 0⟩
/-- R366: TIL_WAITGRP.DEFINED [63:63], AR, reset per armature. -/
def TIL_WAITGRP_DEFINED : Field := ⟨0x800040, 63, 1, .ar, .const 0, 0, 0⟩
/-- R366: TIL_WAITGRP.REPORTED [62:62], RO, reset 0. -/
def TIL_WAITGRP_REPORTED : Field := ⟨0x800040, 62, 1, .ro, .const 0, 0, 0⟩
/-- R366: TIL_WAITGRP.COUNT [55:48], RO, reset 0. -/
def TIL_WAITGRP_COUNT : Field := ⟨0x800040, 48, 8, .ro, .const 0, 0, 0⟩
/-- R366: TIL_WAITGRP.MEMBERS [31:0], AR, reset per armature. -/
def TIL_WAITGRP_MEMBERS : Field := ⟨0x800040, 0, 32, .ar, .const 0, 0, 0⟩
/-- R367: TIL_FAULT_CNT.SAT [32:32], W1C, reset 0. -/
def TIL_FAULT_CNT_SAT : Field := ⟨0x8000c0, 32, 1, .w1c, .const 0, 0, 0⟩
/-- R367: TIL_FAULT_CNT.COUNT [31:0], RO, reset 0. -/
def TIL_FAULT_CNT_COUNT : Field := ⟨0x8000c0, 0, 32, .ro, .const 0, 0, 0⟩
/-- R368: TIL_FAULT_LAST.CAUSE [63:56], RO, reset 0. -/
def TIL_FAULT_LAST_CAUSE : Field := ⟨0x8000c8, 56, 8, .ro, .const 0, 0, 0⟩
/-- R368: TIL_FAULT_LAST.NICHE_CTX [55:55], RO, reset 0. -/
def TIL_FAULT_LAST_NICHE_CTX : Field := ⟨0x8000c8, 55, 1, .ro, .const 0, 0, 0⟩
/-- R368: TIL_FAULT_LAST.THREAD [54:50], RO, reset 0. -/
def TIL_FAULT_LAST_THREAD : Field := ⟨0x8000c8, 50, 5, .ro, .const 0, 0, 0⟩
/-- R368: TIL_FAULT_LAST.NICHE [47:36], RO, reset 0. -/
def TIL_FAULT_LAST_NICHE : Field := ⟨0x8000c8, 36, 12, .ro, .const 0, 0, 0⟩
/-- R368: TIL_FAULT_LAST.STROKE [31:0], RO, reset 0. -/
def TIL_FAULT_LAST_STROKE : Field := ⟨0x8000c8, 0, 32, .ro, .const 0, 0, 0⟩
/-- R367: TIL_OVR_CNT.SAT [32:32], W1C, reset 0. -/
def TIL_OVR_CNT_SAT : Field := ⟨0x8000d0, 32, 1, .w1c, .const 0, 0, 0⟩
/-- R367: TIL_OVR_CNT.COUNT [31:0], RO, reset 0. -/
def TIL_OVR_CNT_COUNT : Field := ⟨0x8000d0, 0, 32, .ro, .const 0, 0, 0⟩
/-- R369: TIL_SB_PEAK.C3 [63:48], RC, reset 0. -/
def TIL_SB_PEAK_C3 : Field := ⟨0x8000d8, 48, 16, .rc, .const 0, 0, 0⟩
/-- R369: TIL_SB_PEAK.C2 [47:32], RC, reset 0. -/
def TIL_SB_PEAK_C2 : Field := ⟨0x8000d8, 32, 16, .rc, .const 0, 0, 0⟩
/-- R369: TIL_SB_PEAK.C1 [31:16], RC, reset 0. -/
def TIL_SB_PEAK_C1 : Field := ⟨0x8000d8, 16, 16, .rc, .const 0, 0, 0⟩
/-- R369: TIL_SB_PEAK.C0 [15:0], RC, reset 0. -/
def TIL_SB_PEAK_C0 : Field := ⟨0x8000d8, 0, 16, .rc, .const 0, 0, 0⟩
/-- R370: TIL_CH_SEL.CH [7:0], RW, reset 0. -/
def TIL_CH_SEL_CH : Field := ⟨0x8000e0, 0, 8, .rw, .const 0, 0, 0⟩
/-- R370: TIL_CH_INFO.HW_WRITER [63:63], AR, reset per armature. -/
def TIL_CH_INFO_HW_WRITER : Field := ⟨0x8000e8, 63, 1, .ar, .const 0, 0, 0⟩
/-- R370: TIL_CH_INFO.NICHE_BEARING [62:62], AR, reset per armature. -/
def TIL_CH_INFO_NICHE_BEARING : Field := ⟨0x8000e8, 62, 1, .ar, .const 0, 0, 0⟩
/-- R370: TIL_CH_INFO.DEPTH [54:48], AR, reset per armature. -/
def TIL_CH_INFO_DEPTH : Field := ⟨0x8000e8, 48, 7, .ar, .const 0, 0, 0⟩
/-- R370: TIL_CH_INFO.LEVEL [40:34], RO, reset 0. -/
def TIL_CH_INFO_LEVEL : Field := ⟨0x8000e8, 34, 7, .ro, .const 0, 0, 0⟩
/-- R370: TIL_CH_INFO.LOST [31:0], RO, reset 0. -/
def TIL_CH_INFO_LOST : Field := ⟨0x8000e8, 0, 32, .ro, .const 0, 0, 0⟩
/-- R371: TIL_DBG.UNLOCKED [63:63], RO, reset 0. -/
def TIL_DBG_UNLOCKED : Field := ⟨0x8000f0, 63, 1, .ro, .const 0, 0, 0⟩
/-- R371: TIL_DBG.RIGHTS [35:32], RO, reset 0. -/
def TIL_DBG_RIGHTS : Field := ⟨0x8000f0, 32, 4, .ro, .const 0, 0, 0⟩
/-- R371: TIL_DBG.HALTED [31:0], RO, reset 0. -/
def TIL_DBG_HALTED : Field := ⟨0x8000f0, 0, 32, .ro, .const 0, 0, 0⟩
/-- R413: PRS_CMD.GO [63:63], W1S, reset 0. -/
def PRS_CMD_GO : Field := ⟨0xa00000, 63, 1, .w1s, .const 0, 0, 0⟩
/-- R413: PRS_CMD.BUSY [62:62], RO, reset 0. -/
def PRS_CMD_BUSY : Field := ⟨0xa00000, 62, 1, .ro, .const 0, 0, 0⟩
/-- R413: PRS_CMD.OP [55:48], RW, reset 0. -/
def PRS_CMD_OP : Field := ⟨0xa00000, 48, 8, .rw, .const 0, 0, 0⟩
/-- R414: PRS_CMD_ADDR.ADDR [63:0], RW, reset 0. -/
def PRS_CMD_ADDR_ADDR : Field := ⟨0xa00008, 0, 64, .rw, .const 0, 0, 0⟩
/-- R414: PRS_CMD_ARG.TABLE [29:24], RW, reset 0. -/
def PRS_CMD_ARG_TABLE : Field := ⟨0xa00010, 24, 6, .rw, .const 0, 0, 0⟩
/-- R414: PRS_CMD_ARG.INDEX [23:0], RW, reset 0. -/
def PRS_CMD_ARG_INDEX : Field := ⟨0xa00010, 0, 24, .rw, .const 0, 0, 0⟩
/-- R415: PRS_CMD_STATUS.STATUS [63:56], RO, reset 0x00. -/
def PRS_CMD_STATUS_STATUS : Field := ⟨0xa00018, 56, 8, .ro, .const 0, 0, 0⟩
/-- R415: PRS_CMD_STATUS.OP [55:48], RO, reset 0. -/
def PRS_CMD_STATUS_OP : Field := ⟨0xa00018, 48, 8, .ro, .const 0, 0, 0⟩
/-- R415: PRS_CMD_STATUS.STROKE [47:0], RO, reset 0. -/
def PRS_CMD_STATUS_STROKE : Field := ⟨0xa00018, 0, 48, .ro, .const 0, 0, 0⟩
/-- R416: PRS_VER.LIVE [63:60], RO, reset 0. -/
def PRS_VER_LIVE : Field := ⟨0xa00020, 60, 4, .ro, .const 0, 0, 0⟩
/-- R416: PRS_VER.OLD [59:56], RO, reset 0. -/
def PRS_VER_OLD : Field := ⟨0xa00020, 56, 4, .ro, .const 0, 0, 0⟩
/-- R416: PRS_VER.OLD_LIVE [55:55], RO, reset 0. -/
def PRS_VER_OLD_LIVE : Field := ⟨0xa00020, 55, 1, .ro, .const 0, 0, 0⟩
/-- R416: PRS_VER.COMMIT_PENDING [54:54], RO, reset 0. -/
def PRS_VER_COMMIT_PENDING : Field := ⟨0xa00020, 54, 1, .ro, .const 0, 0, 0⟩
/-- R416: PRS_VER.VERSIONED [53:53], RO, reset 1. -/
def PRS_VER_VERSIONED : Field := ⟨0xa00020, 53, 1, .ro, .const 1, 0, 0⟩
/-- R416: PRS_VER.STAGED [44:32], RO, reset 0. -/
def PRS_VER_STAGED : Field := ⟨0xa00020, 32, 13, .ro, .const 0, 0, 0⟩
/-- R416: PRS_VER.COMMIT_STROKE [31:0], RO, reset 0. -/
def PRS_VER_COMMIT_STROKE : Field := ⟨0xa00020, 0, 32, .ro, .const 0, 0, 0⟩
/-- R417: PRS_STATUS.STAGE_DISCARD [5:5], W1C, reset 0. -/
def PRS_STATUS_STAGE_DISCARD : Field := ⟨0xa00028, 5, 1, .w1c, .const 0, 0, 0⟩
/-- R417: PRS_STATUS.RO_FULL [4:4], W1C, reset 0. -/
def PRS_STATUS_RO_FULL : Field := ⟨0xa00028, 4, 1, .w1c, .const 0, 0, 0⟩
/-- R417: PRS_STATUS.RO_SKIP [3:3], W1C, reset 0. -/
def PRS_STATUS_RO_SKIP : Field := ⟨0xa00028, 3, 1, .w1c, .const 0, 0, 0⟩
/-- R417: PRS_STATUS.CL_DROP [2:2], W1C, reset 0. -/
def PRS_STATUS_CL_DROP : Field := ⟨0xa00028, 2, 1, .w1c, .const 0, 0, 0⟩
/-- R417: PRS_STATUS.PARSE_EXC [1:1], W1C, reset 0. -/
def PRS_STATUS_PARSE_EXC : Field := ⟨0xa00028, 1, 1, .w1c, .const 0, 0, 0⟩
/-- R417: PRS_STATUS.DEV_DROP [0:0], W1C, reset 0. -/
def PRS_STATUS_DEV_DROP : Field := ⟨0xa00028, 0, 1, .w1c, .const 0, 0, 0⟩
/-- R418: PRS_RO_CFG.SKIP_STROKES [7:0], RW, reset 8. -/
def PRS_RO_CFG_SKIP_STROKES : Field := ⟨0xa00030, 0, 8, .rw, .const 8, 2, 64⟩
/-- R419: PRS_RO_STATUS.PEAK [48:32], RC, reset 0. -/
def PRS_RO_STATUS_PEAK : Field := ⟨0xa00038, 32, 17, .rc, .const 0, 0, 0⟩
/-- R419: PRS_RO_STATUS.IN_FLIGHT [16:0], RO, reset 0. -/
def PRS_RO_STATUS_IN_FLIGHT : Field := ⟨0xa00038, 0, 17, .ro, .const 0, 0, 0⟩
/-- R420: PRS_RO_SKIP.SAT [32:32], W1C, reset 0. -/
def PRS_RO_SKIP_SAT : Field := ⟨0xa00040, 32, 1, .w1c, .const 0, 0, 0⟩
/-- R420: PRS_RO_SKIP.COUNT [31:0], RO, reset 0. -/
def PRS_RO_SKIP_COUNT : Field := ⟨0xa00040, 0, 32, .ro, .const 0, 0, 0⟩
/-- R420: PRS_RO_LATE.SAT [32:32], W1C, reset 0. -/
def PRS_RO_LATE_SAT : Field := ⟨0xa00048, 32, 1, .w1c, .const 0, 0, 0⟩
/-- R420: PRS_RO_LATE.COUNT [31:0], RO, reset 0. -/
def PRS_RO_LATE_COUNT : Field := ⟨0xa00048, 0, 32, .ro, .const 0, 0, 0⟩
/-- R420: PRS_RO_LOST.SAT [32:32], W1C, reset 0. -/
def PRS_RO_LOST_SAT : Field := ⟨0xa00050, 32, 1, .w1c, .const 0, 0, 0⟩
/-- R420: PRS_RO_LOST.COUNT [31:0], RO, reset 0. -/
def PRS_RO_LOST_COUNT : Field := ⟨0xa00050, 0, 32, .ro, .const 0, 0, 0⟩
/-- R421: PRS_SKIP_LAST.TILE [63:56], RO, reset 0xFF. -/
def PRS_SKIP_LAST_TILE : Field := ⟨0xa00058, 56, 8, .ro, .const 255, 0, 0⟩
/-- R421: PRS_SKIP_LAST.DOMAIN [51:32], RO, reset 0. -/
def PRS_SKIP_LAST_DOMAIN : Field := ⟨0xa00058, 32, 20, .ro, .const 0, 0, 0⟩
/-- R421: PRS_SKIP_LAST.SEQ [31:0], RO, reset 0. -/
def PRS_SKIP_LAST_SEQ : Field := ⟨0xa00058, 0, 32, .ro, .const 0, 0, 0⟩
/-- R422: PRS_SPR.ELIGIBLE [46:40], RO, reset 0. -/
def PRS_SPR_ELIGIBLE : Field := ⟨0xa00060, 40, 7, .ro, .const 0, 0, 0⟩
/-- R422: PRS_SPR.LAST [39:32], RO, reset 0. -/
def PRS_SPR_LAST : Field := ⟨0xa00060, 32, 8, .ro, .const 0, 0, 0⟩
/-- R422: PRS_SPR.ROUND [31:0], RO, reset 0. -/
def PRS_SPR_ROUND : Field := ⟨0xa00060, 0, 32, .ro, .const 0, 0, 0⟩
/-- R423: PRS_CNT_SEL.INDEX [17:0], RW, reset 0. -/
def PRS_CNT_SEL_INDEX : Field := ⟨0xa00068, 0, 18, .rw, .const 0, 0, 0⟩
/-- R423: PRS_CNT_PKT.COUNT [63:0], RO, reset 0. -/
def PRS_CNT_PKT_COUNT : Field := ⟨0xa00070, 0, 64, .ro, .const 0, 0, 0⟩
/-- R423: PRS_CNT_BYTE_LO.BYTES [79:0], RO, reset 0. -/
def PRS_CNT_BYTE_LO_BYTES : Field := ⟨0xa00078, 0, 80, .ro, .const 0, 0, 0⟩
/-- R423: PRS_CNT_BYTE_HI.HIGH [15:0], RO, reset 0. -/
def PRS_CNT_BYTE_HI_HIGH : Field := ⟨0xa00080, 0, 16, .ro, .const 0, 0, 0⟩
/-- R424: PRS_EXC_LAST.CLUSTER [63:59], RO, reset 0. -/
def PRS_EXC_LAST_CLUSTER : Field := ⟨0xa00088, 59, 5, .ro, .const 0, 0, 0⟩
/-- R424: PRS_EXC_LAST.ENGINE [58:54], RO, reset 0. -/
def PRS_EXC_LAST_ENGINE : Field := ⟨0xa00088, 54, 5, .ro, .const 0, 0, 0⟩
/-- R424: PRS_EXC_LAST.VERDICT [47:40], RO, reset 0. -/
def PRS_EXC_LAST_VERDICT : Field := ⟨0xa00088, 40, 8, .ro, .const 0, 0, 0⟩
/-- R424: PRS_EXC_LAST.STROKE [31:0], RO, reset 0. -/
def PRS_EXC_LAST_STROKE : Field := ⟨0xa00088, 0, 32, .ro, .const 0, 0, 0⟩
/-- R425: PRS_TBL_SEL.TABLE [5:0], RW, reset 0. -/
def PRS_TBL_SEL_TABLE : Field := ⟨0xa00090, 0, 6, .rw, .const 0, 0, 0⟩
/-- R425: PRS_TBL_INFO.DEFINED [63:63], AR, reset per armature. -/
def PRS_TBL_INFO_DEFINED : Field := ⟨0xa00098, 63, 1, .ar, .const 0, 0, 0⟩
/-- R425: PRS_TBL_INFO.KIND [62:61], AR, reset per armature. -/
def PRS_TBL_INFO_KIND : Field := ⟨0xa00098, 61, 2, .ar, .const 0, 0, 0⟩
/-- R425: PRS_TBL_INFO.PIPE [60:60], AR, reset per armature. -/
def PRS_TBL_INFO_PIPE : Field := ⟨0xa00098, 60, 1, .ar, .const 0, 0, 0⟩
/-- R425: PRS_TBL_INFO.FIRST_STAGE [59:55], AR, reset per armature. -/
def PRS_TBL_INFO_FIRST_STAGE : Field := ⟨0xa00098, 55, 5, .ar, .const 0, 0, 0⟩
/-- R425: PRS_TBL_INFO.STAGES [54:50], AR, reset per armature. -/
def PRS_TBL_INFO_STAGES : Field := ⟨0xa00098, 50, 5, .ar, .const 0, 0, 0⟩
/-- R425: PRS_TBL_INFO.GROUPS [49:41], RO, reset 0. -/
def PRS_TBL_INFO_GROUPS : Field := ⟨0xa00098, 41, 9, .ro, .const 0, 0, 0⟩
/-- R425: PRS_TBL_INFO.RULES [31:0], RO, reset 0. -/
def PRS_TBL_INFO_RULES : Field := ⟨0xa00098, 0, 32, .ro, .const 0, 0, 0⟩
/-- R425: PRS_TBL_CAP.DEFAULT_ACTION [63:40], RO, reset 0. -/
def PRS_TBL_CAP_DEFAULT_ACTION : Field := ⟨0xa000a0, 40, 24, .ro, .const 0, 0, 0⟩
/-- R425: PRS_TBL_CAP.DEFAULT_SET [39:39], RO, reset 0. -/
def PRS_TBL_CAP_DEFAULT_SET : Field := ⟨0xa000a0, 39, 1, .ro, .const 0, 0, 0⟩
/-- R425: PRS_TBL_CAP.KEY_LEN [38:32], AR, reset per armature. -/
def PRS_TBL_CAP_KEY_LEN : Field := ⟨0xa000a0, 32, 7, .ar, .const 0, 0, 0⟩
/-- R425: PRS_TBL_CAP.CAPACITY [31:0], AR, reset per armature. -/
def PRS_TBL_CAP_CAPACITY : Field := ⟨0xa000a0, 0, 32, .ar, .const 0, 0, 0⟩
/-- R420: PRS_DEV_DROP.SAT [32:32], W1C, reset 0. -/
def PRS_DEV_DROP_SAT : Field := ⟨0xa000a8, 32, 1, .w1c, .const 0, 0, 0⟩
/-- R420: PRS_DEV_DROP.COUNT [31:0], RO, reset 0. -/
def PRS_DEV_DROP_COUNT : Field := ⟨0xa000a8, 0, 32, .ro, .const 0, 0, 0⟩
/-- R426: PRS_DROP_LAST.REASON [63:60], RO, reset 0. -/
def PRS_DROP_LAST_REASON : Field := ⟨0xa000b0, 60, 4, .ro, .const 0, 0, 0⟩
/-- R426: PRS_DROP_LAST.NICHE [43:32], RO, reset 0. -/
def PRS_DROP_LAST_NICHE : Field := ⟨0xa000b0, 32, 12, .ro, .const 0, 0, 0⟩
/-- R426: PRS_DROP_LAST.STROKE [31:0], RO, reset 0. -/
def PRS_DROP_LAST_STROKE : Field := ⟨0xa000b0, 0, 32, .ro, .const 0, 0, 0⟩
/-- R427: PRS_CL_INFO.WORST_MIN [63:48], AR, reset per armature. -/
def PRS_CL_INFO_WORST_MIN : Field := ⟨0xa00100, 48, 16, .ar, .const 0, 0, 0⟩
/-- R427: PRS_CL_INFO.DEPTH [31:22], AR, reset per armature. -/
def PRS_CL_INFO_DEPTH : Field := ⟨0xa00100, 22, 10, .ar, .const 0, 0, 0⟩
/-- R427: PRS_CL_INFO.BUSY [21:16], RO, reset 0. -/
def PRS_CL_INFO_BUSY : Field := ⟨0xa00100, 16, 6, .ro, .const 0, 0, 0⟩
/-- R427: PRS_CL_INFO.QUEUE [8:0], RO, reset 0. -/
def PRS_CL_INFO_QUEUE : Field := ⟨0xa00100, 0, 9, .ro, .const 0, 0, 0⟩
/-- R420: PRS_CL_DROP.SAT [32:32], W1C, reset 0. -/
def PRS_CL_DROP_SAT : Field := ⟨0xa00200, 32, 1, .w1c, .const 0, 0, 0⟩
/-- R420: PRS_CL_DROP.COUNT [31:0], RO, reset 0. -/
def PRS_CL_DROP_COUNT : Field := ⟨0xa00200, 0, 32, .ro, .const 0, 0, 0⟩
/-- R420: PRS_CL_EXC.SAT [32:32], W1C, reset 0. -/
def PRS_CL_EXC_SAT : Field := ⟨0xa00208, 32, 1, .w1c, .const 0, 0, 0⟩
/-- R420: PRS_CL_EXC.COUNT [31:0], RO, reset 0. -/
def PRS_CL_EXC_COUNT : Field := ⟨0xa00208, 0, 32, .ro, .const 0, 0, 0⟩
/-- R454: TBL_CMD.GO [63:63], W1S, reset 0. -/
def TBL_CMD_GO : Field := ⟨0xb00000, 63, 1, .w1s, .const 0, 0, 0⟩
/-- R454: TBL_CMD.BUSY [62:62], RO, reset 0. -/
def TBL_CMD_BUSY : Field := ⟨0xb00000, 62, 1, .ro, .const 0, 0, 0⟩
/-- R454: TBL_CMD.OP [55:48], RW, reset 0. -/
def TBL_CMD_OP : Field := ⟨0xb00000, 48, 8, .rw, .const 0, 0, 0⟩
/-- R454: TBL_CMD_ADDR.ADDR [63:0], RW, reset 0. -/
def TBL_CMD_ADDR_ADDR : Field := ⟨0xb00008, 0, 64, .rw, .const 0, 0, 0⟩
/-- R455: TBL_CMD_ARG.SEED [63:32], RW, reset 0. -/
def TBL_CMD_ARG_SEED : Field := ⟨0xb00010, 32, 32, .rw, .const 0, 0, 0⟩
/-- R455: TBL_CMD_ARG.SOURCE [31:16], RW, reset 0. -/
def TBL_CMD_ARG_SOURCE : Field := ⟨0xb00010, 16, 16, .rw, .const 0, 0, 0⟩
/-- R455: TBL_CMD_ARG.FLUSH_MATCH [9:8], RW, reset 0. -/
def TBL_CMD_ARG_FLUSH_MATCH : Field := ⟨0xb00010, 8, 2, .rw, .const 0, 0, 0⟩
/-- R455: TBL_CMD_ARG.TABLE [5:0], RW, reset 0. -/
def TBL_CMD_ARG_TABLE : Field := ⟨0xb00010, 0, 6, .rw, .const 0, 0, 0⟩
/-- R454: TBL_CMD_STATUS.STATUS [63:56], RO, reset 0x00. -/
def TBL_CMD_STATUS_STATUS : Field := ⟨0xb00018, 56, 8, .ro, .const 0, 0, 0⟩
/-- R454: TBL_CMD_STATUS.OP [55:48], RO, reset 0. -/
def TBL_CMD_STATUS_OP : Field := ⟨0xb00018, 48, 8, .ro, .const 0, 0, 0⟩
/-- R454: TBL_CMD_STATUS.STROKE [47:0], RO, reset 0. -/
def TBL_CMD_STATUS_STROKE : Field := ⟨0xb00018, 0, 48, .ro, .const 0, 0, 0⟩
/-- R456: TBL_SEL.TABLE [5:0], RW, reset 0. -/
def TBL_SEL_TABLE : Field := ⟨0xb00020, 0, 6, .rw, .const 0, 0, 0⟩
/-- R457: TBL_INFO.STACKED [63:63], AR, reset per armature. -/
def TBL_INFO_STACKED : Field := ⟨0xb00028, 63, 1, .ar, .const 0, 0, 0⟩
/-- R457: TBL_INFO.TENANT [62:62], AR, reset per armature. -/
def TBL_INFO_TENANT : Field := ⟨0xb00028, 62, 1, .ar, .const 0, 0, 0⟩
/-- R457: TBL_INFO.L2 [61:61], AR, reset per armature. -/
def TBL_INFO_L2 : Field := ⟨0xb00028, 61, 1, .ar, .const 0, 0, 0⟩
/-- R457: TBL_INFO.SLOT128 [60:60], AR, reset per armature. -/
def TBL_INFO_SLOT128 : Field := ⟨0xb00028, 60, 1, .ar, .const 0, 0, 0⟩
/-- R457: TBL_INFO.DATA_HI [59:59], AR, reset per armature. -/
def TBL_INFO_DATA_HI : Field := ⟨0xb00028, 59, 1, .ar, .const 0, 0, 0⟩
/-- R457: TBL_INFO.FILTER_BITS [58:53], AR, reset per armature. -/
def TBL_INFO_FILTER_BITS : Field := ⟨0xb00028, 53, 6, .ar, .const 0, 0, 0⟩
/-- R457: TBL_INFO.STASH [52:48], RO, reset 0. -/
def TBL_INFO_STASH : Field := ⟨0xb00028, 48, 5, .ro, .const 0, 0, 0⟩
/-- R457: TBL_INFO.LENGTHS [47:40], RO, reset 0. -/
def TBL_INFO_LENGTHS : Field := ⟨0xb00028, 40, 8, .ro, .const 0, 0, 0⟩
/-- R457: TBL_INFO.ENTRIES [31:0], RO, reset 0. -/
def TBL_INFO_ENTRIES : Field := ⟨0xb00028, 0, 32, .ro, .const 0, 0, 0⟩
/-- R458: TBL_CUCKOO.SEED [63:32], RO, reset per armature. -/
def TBL_CUCKOO_SEED : Field := ⟨0xb00030, 32, 32, .ro, .const 0, 0, 0⟩
/-- R458: TBL_CUCKOO.STASH_WARN [15:8], RW, reset 4. -/
def TBL_CUCKOO_STASH_WARN : Field := ⟨0xb00030, 8, 8, .rw, .const 4, 1, 16⟩
/-- R458: TBL_CUCKOO.MAX_KICKS [7:0], RW, reset 32. -/
def TBL_CUCKOO_MAX_KICKS : Field := ⟨0xb00030, 0, 8, .rw, .const 32, 4, 128⟩
/-- R459: TBL_AGE.PERIOD [31:0], RW, reset 1 171 875 000 for L2 tables, 0 otherwise. -/
def TBL_AGE_PERIOD : Field := ⟨0xb00038, 0, 32, .rw, .const 0, 0, 0⟩
/-- R460: TBL_LOOKUPS.COUNT [63:0], RO, reset 0. -/
def TBL_LOOKUPS_COUNT : Field := ⟨0xb00040, 0, 64, .ro, .const 0, 0, 0⟩
/-- R460: TBL_HITS.COUNT [63:0], RO, reset 0. -/
def TBL_HITS_COUNT : Field := ⟨0xb00048, 0, 64, .ro, .const 0, 0, 0⟩
/-- R461: TBL_INS_FAIL.SAT [32:32], W1C, reset 0. -/
def TBL_INS_FAIL_SAT : Field := ⟨0xb00050, 32, 1, .w1c, .const 0, 0, 0⟩
/-- R461: TBL_INS_FAIL.COUNT [31:0], RO, reset 0. -/
def TBL_INS_FAIL_COUNT : Field := ⟨0xb00050, 0, 32, .ro, .const 0, 0, 0⟩
/-- R461: TBL_AGED.SAT [32:32], W1C, reset 0. -/
def TBL_AGED_SAT : Field := ⟨0xb00058, 32, 1, .w1c, .const 0, 0, 0⟩
/-- R461: TBL_AGED.COUNT [31:0], RO, reset 0. -/
def TBL_AGED_COUNT : Field := ⟨0xb00058, 0, 32, .ro, .const 0, 0, 0⟩
/-- R462: TBL_L2_CFG.LEARN [63:63], RW, reset 1. -/
def TBL_L2_CFG_LEARN : Field := ⟨0xb00060, 63, 1, .rw, .const 1, 0, 0⟩
/-- R462: TBL_L2_CFG.HOST_LEARN [62:62], RW, reset 0. -/
def TBL_L2_CFG_HOST_LEARN : Field := ⟨0xb00060, 62, 1, .rw, .const 0, 0, 0⟩
/-- R462: TBL_L2_CFG.STATIC_DROP [61:61], RW, reset 0. -/
def TBL_L2_CFG_STATIC_DROP : Field := ⟨0xb00060, 61, 1, .rw, .const 0, 0, 0⟩
/-- R462: TBL_L2_CFG.MOVE_HOLD [47:32], RW, reset 3 906. -/
def TBL_L2_CFG_MOVE_HOLD : Field := ⟨0xb00060, 32, 16, .rw, .const 3906, 0, 0⟩
/-- R462: TBL_L2_CFG.RATE [8:0], RW, reset 16. -/
def TBL_L2_CFG_RATE : Field := ⟨0xb00060, 0, 9, .rw, .const 16, 1, 256⟩
/-- R463: TBL_L2_ACT.NICHE_ACT_BASE [63:40], RW, reset 0. -/
def TBL_L2_ACT_NICHE_ACT_BASE : Field := ⟨0xb00068, 40, 24, .rw, .const 0, 0, 0⟩
/-- R463: TBL_L2_ACT.PORT_ACT_BASE [23:0], RW, reset 0. -/
def TBL_L2_ACT_PORT_ACT_BASE : Field := ⟨0xb00068, 0, 24, .rw, .const 0, 0, 0⟩
/-- R461: TBL_L2_MOVES.SAT [32:32], W1C, reset 0. -/
def TBL_L2_MOVES_SAT : Field := ⟨0xb00070, 32, 1, .w1c, .const 0, 0, 0⟩
/-- R461: TBL_L2_MOVES.COUNT [31:0], RO, reset 0. -/
def TBL_L2_MOVES_COUNT : Field := ⟨0xb00070, 0, 32, .ro, .const 0, 0, 0⟩
/-- R461: TBL_L2_FLAP.SAT [32:32], W1C, reset 0. -/
def TBL_L2_FLAP_SAT : Field := ⟨0xb00078, 32, 1, .w1c, .const 0, 0, 0⟩
/-- R461: TBL_L2_FLAP.COUNT [31:0], RO, reset 0. -/
def TBL_L2_FLAP_COUNT : Field := ⟨0xb00078, 0, 32, .ro, .const 0, 0, 0⟩
/-- R461: TBL_L2_LEARN_DROP.SAT [32:32], W1C, reset 0. -/
def TBL_L2_LEARN_DROP_SAT : Field := ⟨0xb00080, 32, 1, .w1c, .const 0, 0, 0⟩
/-- R461: TBL_L2_LEARN_DROP.COUNT [31:0], RO, reset 0. -/
def TBL_L2_LEARN_DROP_COUNT : Field := ⟨0xb00080, 0, 32, .ro, .const 0, 0, 0⟩
/-- R461: TBL_L2_STATIC_HIT.SAT [32:32], W1C, reset 0. -/
def TBL_L2_STATIC_HIT_SAT : Field := ⟨0xb00088, 32, 1, .w1c, .const 0, 0, 0⟩
/-- R461: TBL_L2_STATIC_HIT.COUNT [31:0], RO, reset 0. -/
def TBL_L2_STATIC_HIT_COUNT : Field := ⟨0xb00088, 0, 32, .ro, .const 0, 0, 0⟩
/-- R464: TBL_REHASH.STATE [63:61], RC, reset 0. -/
def TBL_REHASH_STATE : Field := ⟨0xb00090, 61, 3, .rc, .const 0, 0, 0⟩
/-- R464: TBL_REHASH.TABLE [53:48], RO, reset 0. -/
def TBL_REHASH_TABLE : Field := ⟨0xb00090, 48, 6, .ro, .const 0, 0, 0⟩
/-- R464: TBL_REHASH.COPIED [31:0], RO, reset 0. -/
def TBL_REHASH_COPIED : Field := ⟨0xb00090, 0, 32, .ro, .const 0, 0, 0⟩
/-- R465: TBL_STATUS.LEARN_DROP [3:3], W1C, reset 0. -/
def TBL_STATUS_LEARN_DROP : Field := ⟨0xb00098, 3, 1, .w1c, .const 0, 0, 0⟩
/-- R465: TBL_STATUS.L2_FLAP [2:2], W1C, reset 0. -/
def TBL_STATUS_L2_FLAP : Field := ⟨0xb00098, 2, 1, .w1c, .const 0, 0, 0⟩
/-- R465: TBL_STATUS.L2_MOVE [1:1], W1C, reset 0. -/
def TBL_STATUS_L2_MOVE : Field := ⟨0xb00098, 1, 1, .w1c, .const 0, 0, 0⟩
/-- R465: TBL_STATUS.REHASH_NEEDED [0:0], W1C, reset 0. -/
def TBL_STATUS_REHASH_NEEDED : Field := ⟨0xb00098, 0, 1, .w1c, .const 0, 0, 0⟩
/-- R466: TBL_NSEL.NICHE [11:0], RW, reset 0. -/
def TBL_NSEL_NICHE : Field := ⟨0xb000a0, 0, 12, .rw, .const 0, 0, 0⟩
/-- R466: TBL_NCFG.ACT_BASE [63:40], RW, reset 0. -/
def TBL_NCFG_ACT_BASE : Field := ⟨0xb000a8, 40, 24, .rw, .const 0, 0, 0⟩
/-- R466: TBL_NCFG.ACT_COUNT [39:16], RW, reset 0. -/
def TBL_NCFG_ACT_COUNT : Field := ⟨0xb000a8, 16, 24, .rw, .const 0, 0, 0⟩
/-- R494: SCH_CMD.GO [63:63], W1S, reset 0. -/
def SCH_CMD_GO : Field := ⟨0xc00000, 63, 1, .w1s, .const 0, 0, 0⟩
/-- R494: SCH_CMD.BUSY [62:62], RO, reset 0. -/
def SCH_CMD_BUSY : Field := ⟨0xc00000, 62, 1, .ro, .const 0, 0, 0⟩
/-- R494: SCH_CMD.OP [55:48], RW, reset 0. -/
def SCH_CMD_OP : Field := ⟨0xc00000, 48, 8, .rw, .const 0, 0, 0⟩
/-- R494: SCH_CMD_ADDR.ADDR [63:0], RW, reset 0. -/
def SCH_CMD_ADDR_ADDR : Field := ⟨0xc00008, 0, 64, .rw, .const 0, 0, 0⟩
/-- R495: SCH_CMD_ARG.NICHE [63:52], RW, reset 0. -/
def SCH_CMD_ARG_NICHE : Field := ⟨0xc00010, 52, 12, .rw, .const 0, 0, 0⟩
/-- R495: SCH_CMD_ARG.PORT [51:48], RW, reset 0. -/
def SCH_CMD_ARG_PORT : Field := ⟨0xc00010, 48, 4, .rw, .const 0, 0, 0⟩
/-- R495: SCH_CMD_ARG.LOCAL [47:32], RW, reset 0. -/
def SCH_CMD_ARG_LOCAL : Field := ⟨0xc00010, 32, 16, .rw, .const 0, 0, 0⟩
/-- R495: SCH_CMD_ARG.INDEX [16:0], RW, reset 0. -/
def SCH_CMD_ARG_INDEX : Field := ⟨0xc00010, 0, 17, .rw, .const 0, 0, 0⟩
/-- R494: SCH_CMD_STATUS.STATUS [63:56], RO, reset 0x00. -/
def SCH_CMD_STATUS_STATUS : Field := ⟨0xc00018, 56, 8, .ro, .const 0, 0, 0⟩
/-- R494: SCH_CMD_STATUS.OP [55:48], RO, reset 0. -/
def SCH_CMD_STATUS_OP : Field := ⟨0xc00018, 48, 8, .ro, .const 0, 0, 0⟩
/-- R494: SCH_CMD_STATUS.STROKE [47:0], RO, reset 0. -/
def SCH_CMD_STATUS_STROKE : Field := ⟨0xc00018, 0, 48, .ro, .const 0, 0, 0⟩
/-- R496: SCH_NODE_SEL.NODE [19:0], RW, reset 0. -/
def SCH_NODE_SEL_NODE : Field := ⟨0xc00020, 0, 20, .rw, .const 0, 0, 0⟩
/-- R497: SCH_NODE_CFG.DEFINED [63:63], AR, reset per armature. -/
def SCH_NODE_CFG_DEFINED : Field := ⟨0xc00028, 63, 1, .ar, .const 0, 0, 0⟩
/-- R497: SCH_NODE_CFG.SEAMLESS [62:62], RW, reset 1 for ports, 0 otherwise. -/
def SCH_NODE_CFG_SEAMLESS : Field := ⟨0xc00028, 62, 1, .rw, .atLeast 524288 0 1, 0, 0⟩
/-- R497: SCH_NODE_CFG.RESET_TO [61:61], RW, reset 0. -/
def SCH_NODE_CFG_RESET_TO : Field := ⟨0xc00028, 61, 1, .rw, .const 0, 0, 0⟩
/-- R497: SCH_NODE_CFG.IDLE_ACCRUE [60:60], RW, reset 0. -/
def SCH_NODE_CFG_IDLE_ACCRUE : Field := ⟨0xc00028, 60, 1, .rw, .const 0, 0, 0⟩
/-- R497: SCH_NODE_CFG.SHAPE_EN [59:59], RW, reset 0. -/
def SCH_NODE_CFG_SHAPE_EN : Field := ⟨0xc00028, 59, 1, .rw, .const 0, 0, 0⟩
/-- R497: SCH_NODE_CFG.MODE [58:58], RW, reset 1 for ports, 0 otherwise. -/
def SCH_NODE_CFG_MODE : Field := ⟨0xc00028, 58, 1, .rw, .atLeast 524288 0 1, 0, 0⟩
/-- R497: SCH_NODE_CFG.PRIO [57:55], RW, reset 0. -/
def SCH_NODE_CFG_PRIO : Field := ⟨0xc00028, 55, 3, .rw, .const 0, 0, 0⟩
/-- R497: SCH_NODE_CFG.WEIGHT [54:43], RW, reset 1. -/
def SCH_NODE_CFG_WEIGHT : Field := ⟨0xc00028, 43, 12, .rw, .const 1, 0, 0⟩
/-- R497: SCH_NODE_CFG.PARENT [39:20], AR, reset per armature. -/
def SCH_NODE_CFG_PARENT : Field := ⟨0xc00028, 20, 20, .ar, .const 0, 0, 0⟩
/-- R497: SCH_NODE_CFG.MAX_SDU [13:0], RW, reset 0. -/
def SCH_NODE_CFG_MAX_SDU : Field := ⟨0xc00028, 0, 14, .rw, .const 0, 0, 0⟩
/-- R498: SCH_NODE_SHAPE.RATE [63:32], RW, reset per armature. -/
def SCH_NODE_SHAPE_RATE : Field := ⟨0xc00030, 32, 32, .rw, .const 0, 0, 0⟩
/-- R498: SCH_NODE_SHAPE.HI_LIMIT [31:16], RW, reset 0. -/
def SCH_NODE_SHAPE_HI_LIMIT : Field := ⟨0xc00030, 16, 16, .rw, .const 0, 0, 0⟩
/-- R498: SCH_NODE_SHAPE.LO_LIMIT [15:0], RW, reset 0. -/
def SCH_NODE_SHAPE_LO_LIMIT : Field := ⟨0xc00030, 0, 16, .rw, .const 0, 0, 0⟩
/-- R499: SCH_NODE_STATE.CREDIT [63:32], RO, reset 0. -/
def SCH_NODE_STATE_CREDIT : Field := ⟨0xc00038, 32, 32, .ro, .const 0, 0, 0⟩
/-- R499: SCH_NODE_STATE.WAITING [31:31], RO, reset 0. -/
def SCH_NODE_STATE_WAITING : Field := ⟨0xc00038, 31, 1, .ro, .const 0, 0, 0⟩
/-- R499: SCH_NODE_STATE.GATE_OPEN [30:30], RO, reset 1. -/
def SCH_NODE_STATE_GATE_OPEN : Field := ⟨0xc00038, 30, 1, .ro, .const 1, 0, 0⟩
/-- R499: SCH_NODE_STATE.BACKLOG_KIB [27:0], RO, reset 0. -/
def SCH_NODE_STATE_BACKLOG_KIB : Field := ⟨0xc00038, 0, 28, .ro, .const 0, 0, 0⟩
/-- R500: SCH_QUEUE_CFG.NICHE [63:52], RO, reset 0. -/
def SCH_QUEUE_CFG_NICHE : Field := ⟨0xc00040, 52, 12, .ro, .const 0, 0, 0⟩
/-- R500: SCH_QUEUE_CFG.BOUND [51:51], RO, reset 0. -/
def SCH_QUEUE_CFG_BOUND : Field := ⟨0xc00040, 51, 1, .ro, .const 0, 0, 0⟩
/-- R500: SCH_QUEUE_CFG.LOCAL [49:34], RO, reset 0. -/
def SCH_QUEUE_CFG_LOCAL : Field := ⟨0xc00040, 34, 16, .ro, .const 0, 0, 0⟩
/-- R500: SCH_QUEUE_CFG.QLIMIT_KIB [31:16], RW, reset 256. -/
def SCH_QUEUE_CFG_QLIMIT_KIB : Field := ⟨0xc00040, 16, 16, .rw, .const 256, 0, 0⟩
/-- R500: SCH_QUEUE_CFG.ECN_KIB [15:0], RW, reset 0. -/
def SCH_QUEUE_CFG_ECN_KIB : Field := ⟨0xc00040, 0, 16, .rw, .const 0, 0, 0⟩
/-- R501: SCH_Q_DROP.SAT [32:32], W1C, reset 0. -/
def SCH_Q_DROP_SAT : Field := ⟨0xc00048, 32, 1, .w1c, .const 0, 0, 0⟩
/-- R501: SCH_Q_DROP.COUNT [31:0], RO, reset 0. -/
def SCH_Q_DROP_COUNT : Field := ⟨0xc00048, 0, 32, .ro, .const 0, 0, 0⟩
/-- R501: SCH_Q_TX_PKT.COUNT [63:0], RO, reset 0. -/
def SCH_Q_TX_PKT_COUNT : Field := ⟨0xc00050, 0, 64, .ro, .const 0, 0, 0⟩
/-- R501: SCH_Q_TX_BYTE_LO.BYTES [79:0], RO, reset 0. -/
def SCH_Q_TX_BYTE_LO_BYTES : Field := ⟨0xc00058, 0, 80, .ro, .const 0, 0, 0⟩
/-- R501: SCH_Q_TX_BYTE_HI.HIGH [15:0], RO, reset 0. -/
def SCH_Q_TX_BYTE_HI_HIGH : Field := ⟨0xc00060, 0, 16, .ro, .const 0, 0, 0⟩
/-- R502: SCH_POL_SEL.POLICER [15:0], RW, reset 0. -/
def SCH_POL_SEL_POLICER : Field := ⟨0xc00068, 0, 16, .rw, .const 0, 0, 0⟩
/-- R503: SCH_POL_RATE.SECOND_RATE [63:32], RW, reset 0. -/
def SCH_POL_RATE_SECOND_RATE : Field := ⟨0xc00070, 32, 32, .rw, .const 0, 0, 0⟩
/-- R503: SCH_POL_RATE.CIR [31:0], RW, reset 0. -/
def SCH_POL_RATE_CIR : Field := ⟨0xc00070, 0, 32, .rw, .const 0, 0, 0⟩
/-- R503: SCH_POL_BURST.SECOND_BURST [63:32], RW, reset 9 216. -/
def SCH_POL_BURST_SECOND_BURST : Field := ⟨0xc00078, 32, 32, .rw, .const 9216, 0, 0⟩
/-- R503: SCH_POL_BURST.CBS [31:0], RW, reset 9 216. -/
def SCH_POL_BURST_CBS : Field := ⟨0xc00078, 0, 32, .rw, .const 9216, 0, 0⟩
/-- R504: SCH_POL_CFG.NICHE [63:52], RO, reset 0. -/
def SCH_POL_CFG_NICHE : Field := ⟨0xc00080, 52, 12, .ro, .const 0, 0, 0⟩
/-- R504: SCH_POL_CFG.BOUND [51:51], RO, reset 0. -/
def SCH_POL_CFG_BOUND : Field := ⟨0xc00080, 51, 1, .ro, .const 0, 0, 0⟩
/-- R504: SCH_POL_CFG.MODE [1:1], RW, reset 0. -/
def SCH_POL_CFG_MODE : Field := ⟨0xc00080, 1, 1, .rw, .const 0, 0, 0⟩
/-- R504: SCH_POL_CFG.APPLY [0:0], WO, reset 0. -/
def SCH_POL_CFG_APPLY : Field := ⟨0xc00080, 0, 1, .wo, .const 0, 0, 0⟩
/-- R505: SCH_POL_GREEN.COUNT [63:0], RO, reset 0. -/
def SCH_POL_GREEN_COUNT : Field := ⟨0xc00088, 0, 64, .ro, .const 0, 0, 0⟩
/-- R505: SCH_POL_YELLOW.COUNT [63:0], RO, reset 0. -/
def SCH_POL_YELLOW_COUNT : Field := ⟨0xc00090, 0, 64, .ro, .const 0, 0, 0⟩
/-- R505: SCH_POL_RED.COUNT [63:0], RO, reset 0. -/
def SCH_POL_RED_COUNT : Field := ⟨0xc00098, 0, 64, .ro, .const 0, 0, 0⟩
/-- R506: SCH_STATUS.SEAMLESS_USED [23:16], RO, reset 0. -/
def SCH_STATUS_SEAMLESS_USED : Field := ⟨0xc000a0, 16, 8, .ro, .const 0, 0, 0⟩
/-- R506: SCH_STATUS.SDU_DROP [2:2], W1C, reset 0. -/
def SCH_STATUS_SDU_DROP : Field := ⟨0xc000a0, 2, 1, .w1c, .const 0, 0, 0⟩
/-- R506: SCH_STATUS.QUEUE_DROP [1:1], W1C, reset 0. -/
def SCH_STATUS_QUEUE_DROP : Field := ⟨0xc000a0, 1, 1, .w1c, .const 0, 0, 0⟩
/-- R506: SCH_STATUS.GCL_SWITCH [0:0], W1C, reset 0. -/
def SCH_STATUS_GCL_SWITCH : Field := ⟨0xc000a0, 0, 1, .w1c, .const 0, 0, 0⟩
/-- R507: SCH_PORT_CFG.GATE_EN [63:63], RW, reset 0. -/
def SCH_PORT_CFG_GATE_EN : Field := ⟨0xc00100, 63, 1, .rw, .const 0, 0, 0⟩
/-- R507: SCH_PORT_CFG.OVERHEAD [55:48], RW, reset 0. -/
def SCH_PORT_CFG_OVERHEAD : Field := ⟨0xc00100, 48, 8, .rw, .const 0, 0, 0⟩
/-- R507: SCH_PORT_CFG.RATE_MBPS [31:0], RO, reset per armature. -/
def SCH_PORT_CFG_RATE_MBPS : Field := ⟨0xc00100, 0, 32, .ro, .const 0, 0, 0⟩
/-- R508: SCH_GCL_STATUS.OPER_VALID [63:63], RO, reset 0. -/
def SCH_GCL_STATUS_OPER_VALID : Field := ⟨0xc00180, 63, 1, .ro, .const 0, 0, 0⟩
/-- R508: SCH_GCL_STATUS.PENDING [62:62], RO, reset 0. -/
def SCH_GCL_STATUS_PENDING : Field := ⟨0xc00180, 62, 1, .ro, .const 0, 0, 0⟩
/-- R508: SCH_GCL_STATUS.BANK [61:61], RO, reset 0. -/
def SCH_GCL_STATUS_BANK : Field := ⟨0xc00180, 61, 1, .ro, .const 0, 0, 0⟩
/-- R508: SCH_GCL_STATUS.ENTRY [55:48], RO, reset 0. -/
def SCH_GCL_STATUS_ENTRY : Field := ⟨0xc00180, 48, 8, .ro, .const 0, 0, 0⟩
/-- R508: SCH_GCL_STATUS.CYCLE [47:24], RO, reset 0. -/
def SCH_GCL_STATUS_CYCLE : Field := ⟨0xc00180, 24, 24, .ro, .const 0, 0, 0⟩
/-- R508: SCH_GCL_STATUS.REMAIN [23:8], RO, reset 0. -/
def SCH_GCL_STATUS_REMAIN : Field := ⟨0xc00180, 8, 16, .ro, .const 0, 0, 0⟩
/-- R508: SCH_GCL_STATUS.GATES [7:0], RO, reset 0xFF. -/
def SCH_GCL_STATUS_GATES : Field := ⟨0xc00180, 0, 8, .ro, .const 255, 0, 0⟩
/-- R509: SCH_GCL_PEND.SWITCH_TIME [63:0], RO, reset 0. -/
def SCH_GCL_PEND_SWITCH_TIME : Field := ⟨0xc00200, 0, 64, .ro, .const 0, 0, 0⟩
/-- R510: SCH_SDU_DROP.SAT [32:32], W1C, reset 0. -/
def SCH_SDU_DROP_SAT : Field := ⟨0xc00280, 32, 1, .w1c, .const 0, 0, 0⟩
/-- R510: SCH_SDU_DROP.COUNT [31:0], RO, reset 0. -/
def SCH_SDU_DROP_COUNT : Field := ⟨0xc00280, 0, 32, .ro, .const 0, 0, 0⟩
/-- R553: TLT_CFG.UDP_PORT [63:48], AR, reset per armature. -/
def TLT_CFG_UDP_PORT : Field := ⟨0xd00000, 48, 16, .ar, .const 49877, 0, 0⟩
/-- R553: TLT_CFG.EPOCH [47:40], RO, reset per power-up. -/
def TLT_CFG_EPOCH : Field := ⟨0xd00000, 40, 8, .ro, .const 0, 0, 0⟩
/-- R554: TLT_HOLD.WRAP_HOLD [63:32], RW, reset 3 906 250. -/
def TLT_HOLD_WRAP_HOLD : Field := ⟨0xd00008, 32, 32, .rw, .const 3906250, 0, 0⟩
/-- R554: TLT_HOLD.EP_HOLD [31:0], RW, reset 3 906 250. -/
def TLT_HOLD_EP_HOLD : Field := ⟨0xd00008, 0, 32, .rw, .const 3906250, 0, 0⟩
/-- R555: TLT_RETRY.RTO_MAX [63:48], RW, reset 16 384. -/
def TLT_RETRY_RTO_MAX : Field := ⟨0xd00010, 48, 16, .rw, .const 16384, 0, 0⟩
/-- R555: TLT_RETRY.RTO_DEFAULT [47:32], RW, reset 64. -/
def TLT_RETRY_RTO_DEFAULT : Field := ⟨0xd00010, 32, 16, .rw, .const 64, 0, 0⟩
/-- R555: TLT_RETRY.LIMIT [31:24], RW, reset 7. -/
def TLT_RETRY_LIMIT : Field := ⟨0xd00010, 24, 8, .rw, .const 7, 0, 0⟩
/-- R555: TLT_RETRY.BUSY_LIMIT [23:16], RW, reset 16. -/
def TLT_RETRY_BUSY_LIMIT : Field := ⟨0xd00010, 16, 8, .rw, .const 16, 0, 0⟩
/-- R555: TLT_RETRY.BUSY_BASE [15:0], RW, reset 8. -/
def TLT_RETRY_BUSY_BASE : Field := ⟨0xd00010, 0, 16, .rw, .const 8, 0, 0⟩
/-- R556: TLT_STATUS.PEER_EPOCH [4:4], W1C, reset 0. -/
def TLT_STATUS_PEER_EPOCH : Field := ⟨0xd00018, 4, 1, .w1c, .const 0, 0, 0⟩
/-- R556: TLT_STATUS.LATE_FAIL [3:3], W1C, reset 0. -/
def TLT_STATUS_LATE_FAIL : Field := ⟨0xd00018, 3, 1, .w1c, .const 0, 0, 0⟩
/-- R556: TLT_STATUS.RETRY_EXC [2:2], W1C, reset 0. -/
def TLT_STATUS_RETRY_EXC : Field := ⟨0xd00018, 2, 1, .w1c, .const 0, 0, 0⟩
/-- R556: TLT_STATUS.RECALL_OVF [1:1], W1C, reset 0. -/
def TLT_STATUS_RECALL_OVF : Field := ⟨0xd00018, 1, 1, .w1c, .const 0, 0, 0⟩
/-- R556: TLT_STATUS.TRK_FULL [0:0], W1C, reset 0. -/
def TLT_STATUS_TRK_FULL : Field := ⟨0xd00018, 0, 1, .w1c, .const 0, 0, 0⟩
/-- R557: TLT_CTX.EVICTED [63:39], RO, reset 0. -/
def TLT_CTX_EVICTED : Field := ⟨0xd00020, 39, 25, .ro, .const 0, 0, 0⟩
/-- R557: TLT_CTX.ONDIE [38:20], RO, reset 0. -/
def TLT_CTX_ONDIE : Field := ⟨0xd00020, 20, 19, .ro, .const 0, 0, 0⟩
/-- R557: TLT_CTX.RECALL_HELD [14:0], RO, reset 0. -/
def TLT_CTX_RECALL_HELD : Field := ⟨0xd00020, 0, 15, .ro, .const 0, 0, 0⟩
/-- R558: TLT_TRK.SEND_USED [63:32], RO, reset 0. -/
def TLT_TRK_SEND_USED : Field := ⟨0xd00028, 32, 32, .ro, .const 0, 0, 0⟩
/-- R558: TLT_TRK.RECV_USED [31:0], RO, reset 0. -/
def TLT_TRK_RECV_USED : Field := ⟨0xd00028, 0, 32, .ro, .const 0, 0, 0⟩
/-- R558: TLT_TRK_CAP.SEND_MAX [63:32], AR, reset per armature. -/
def TLT_TRK_CAP_SEND_MAX : Field := ⟨0xd00030, 32, 32, .ar, .const 0, 0, 0⟩
/-- R558: TLT_TRK_CAP.RECV_MAX [31:0], AR, reset per armature. -/
def TLT_TRK_CAP_RECV_MAX : Field := ⟨0xd00030, 0, 32, .ar, .const 0, 0, 0⟩
/-- R559: TLT_SPILL_ADDR.ADDR [63:0], RW, reset 0. -/
def TLT_SPILL_ADDR_ADDR : Field := ⟨0xd00038, 0, 64, .rw, .const 0, 0, 0⟩
/-- R559: TLT_SPILL_LEN.SLOTS [31:0], RW, reset 0. -/
def TLT_SPILL_LEN_SLOTS : Field := ⟨0xd00040, 0, 32, .rw, .const 0, 0, 0⟩
/-- R560: TLT_NSEL.NICHE [11:0], RW, reset 0. -/
def TLT_NSEL_NICHE : Field := ⟨0xd00048, 0, 12, .rw, .const 0, 0, 0⟩
/-- R560: TLT_NCFG.HOST_TIER [63:63], RW, reset 0. -/
def TLT_NCFG_HOST_TIER : Field := ⟨0xd00050, 63, 1, .rw, .const 0, 0, 0⟩
/-- R561: TLT_PEER_SEL.DEVICE [13:0], RW, reset 0. -/
def TLT_PEER_SEL_DEVICE : Field := ⟨0xd00058, 0, 14, .rw, .const 0, 0, 0⟩
/-- R562: TLT_PEER_INFO.KNOWN [63:63], RO, reset 0. -/
def TLT_PEER_INFO_KNOWN : Field := ⟨0xd00060, 63, 1, .ro, .const 0, 0, 0⟩
/-- R562: TLT_PEER_INFO.PEER_EPOCH [62:55], RO, reset 0. -/
def TLT_PEER_INFO_PEER_EPOCH : Field := ⟨0xd00060, 55, 8, .ro, .const 0, 0, 0⟩
/-- R562: TLT_PEER_INFO.PATHS [54:48], RO, reset 0. -/
def TLT_PEER_INFO_PATHS : Field := ⟨0xd00060, 48, 7, .ro, .const 0, 0, 0⟩
/-- R562: TLT_PEER_INFO.OUTSTANDING [42:32], RO, reset 0. -/
def TLT_PEER_INFO_OUTSTANDING : Field := ⟨0xd00060, 32, 11, .ro, .const 0, 0, 0⟩
/-- R562: TLT_PEER_INFO.RATE_MBPS [31:0], RO, reset 0. -/
def TLT_PEER_INFO_RATE_MBPS : Field := ⟨0xd00060, 0, 32, .ro, .const 0, 0, 0⟩
/-- R563: TLT_PEER_RTO.SRTT [47:32], RO, reset 0. -/
def TLT_PEER_RTO_SRTT : Field := ⟨0xd00068, 32, 16, .ro, .const 0, 0, 0⟩
/-- R563: TLT_PEER_RTO.RTO [15:0], RW, reset RTO_DEFAULT. -/
def TLT_PEER_RTO_RTO : Field := ⟨0xd00068, 0, 16, .rw, .const 0, 0, 0⟩
/-- R564: TLT_NAK_LAST.STATUS [63:56], RO, reset 0x00. -/
def TLT_NAK_LAST_STATUS : Field := ⟨0xd00070, 56, 8, .ro, .const 0, 0, 0⟩
/-- R564: TLT_NAK_LAST.PEER [55:42], RO, reset 0. -/
def TLT_NAK_LAST_PEER : Field := ⟨0xd00070, 42, 14, .ro, .const 0, 0, 0⟩
/-- R564: TLT_NAK_LAST.ENDPOINT [41:18], RO, reset 0. -/
def TLT_NAK_LAST_ENDPOINT : Field := ⟨0xd00070, 18, 24, .ro, .const 0, 0, 0⟩
/-- R564: TLT_NAK_LAST.RECEIVED [17:17], RO, reset 0. -/
def TLT_NAK_LAST_RECEIVED : Field := ⟨0xd00070, 17, 1, .ro, .const 0, 0, 0⟩
/-- R565: TLT_NAK_TX.SAT [32:32], W1C, reset 0. -/
def TLT_NAK_TX_SAT : Field := ⟨0xd00080, 32, 1, .w1c, .const 0, 0, 0⟩
/-- R565: TLT_NAK_TX.COUNT [31:0], RO, reset 0. -/
def TLT_NAK_TX_COUNT : Field := ⟨0xd00080, 0, 32, .ro, .const 0, 0, 0⟩
/-- R565: TLT_NAK_RX.SAT [32:32], W1C, reset 0. -/
def TLT_NAK_RX_SAT : Field := ⟨0xd00088, 32, 1, .w1c, .const 0, 0, 0⟩
/-- R565: TLT_NAK_RX.COUNT [31:0], RO, reset 0. -/
def TLT_NAK_RX_COUNT : Field := ⟨0xd00088, 0, 32, .ro, .const 0, 0, 0⟩
/-- R565: TLT_RETX.SAT [32:32], W1C, reset 0. -/
def TLT_RETX_SAT : Field := ⟨0xd00090, 32, 1, .w1c, .const 0, 0, 0⟩
/-- R565: TLT_RETX.COUNT [31:0], RO, reset 0. -/
def TLT_RETX_COUNT : Field := ⟨0xd00090, 0, 32, .ro, .const 0, 0, 0⟩
/-- R565: TLT_DUP_DROP.SAT [32:32], W1C, reset 0. -/
def TLT_DUP_DROP_SAT : Field := ⟨0xd00098, 32, 1, .w1c, .const 0, 0, 0⟩
/-- R565: TLT_DUP_DROP.COUNT [31:0], RO, reset 0. -/
def TLT_DUP_DROP_COUNT : Field := ⟨0xd00098, 0, 32, .ro, .const 0, 0, 0⟩
/-- R565: TLT_EPOCH_DROP.SAT [32:32], W1C, reset 0. -/
def TLT_EPOCH_DROP_SAT : Field := ⟨0xd000a0, 32, 1, .w1c, .const 0, 0, 0⟩
/-- R565: TLT_EPOCH_DROP.COUNT [31:0], RO, reset 0. -/
def TLT_EPOCH_DROP_COUNT : Field := ⟨0xd000a0, 0, 32, .ro, .const 0, 0, 0⟩
/-- R565: TLT_RECALL_OVF.SAT [32:32], W1C, reset 0. -/
def TLT_RECALL_OVF_SAT : Field := ⟨0xd000a8, 32, 1, .w1c, .const 0, 0, 0⟩
/-- R565: TLT_RECALL_OVF.COUNT [31:0], RO, reset 0. -/
def TLT_RECALL_OVF_COUNT : Field := ⟨0xd000a8, 0, 32, .ro, .const 0, 0, 0⟩
/-- R565: TLT_RETRY_EXC.SAT [32:32], W1C, reset 0. -/
def TLT_RETRY_EXC_SAT : Field := ⟨0xd000b0, 32, 1, .w1c, .const 0, 0, 0⟩
/-- R565: TLT_RETRY_EXC.COUNT [31:0], RO, reset 0. -/
def TLT_RETRY_EXC_COUNT : Field := ⟨0xd000b0, 0, 32, .ro, .const 0, 0, 0⟩
/-- R565: TLT_LATE_FAIL.SAT [32:32], W1C, reset 0. -/
def TLT_LATE_FAIL_SAT : Field := ⟨0xd000b8, 32, 1, .w1c, .const 0, 0, 0⟩
/-- R565: TLT_LATE_FAIL.COUNT [31:0], RO, reset 0. -/
def TLT_LATE_FAIL_COUNT : Field := ⟨0xd000b8, 0, 32, .ro, .const 0, 0, 0⟩
/-- R565: TLT_WIN_DROP.SAT [32:32], W1C, reset 0. -/
def TLT_WIN_DROP_SAT : Field := ⟨0xd000c0, 32, 1, .w1c, .const 0, 0, 0⟩
/-- R565: TLT_WIN_DROP.COUNT [31:0], RO, reset 0. -/
def TLT_WIN_DROP_COUNT : Field := ⟨0xd000c0, 0, 32, .ro, .const 0, 0, 0⟩
/-- R565: TLT_CSUM_DROP.SAT [32:32], W1C, reset 0. -/
def TLT_CSUM_DROP_SAT : Field := ⟨0xd000c8, 32, 1, .w1c, .const 0, 0, 0⟩
/-- R565: TLT_CSUM_DROP.COUNT [31:0], RO, reset 0. -/
def TLT_CSUM_DROP_COUNT : Field := ⟨0xd000c8, 0, 32, .ro, .const 0, 0, 0⟩
/-- R566: TLT_RECALLS.COUNT [63:0], RO, reset 0. -/
def TLT_RECALLS_COUNT : Field := ⟨0xd000d0, 0, 64, .ro, .const 0, 0, 0⟩
/-- R566: TLT_TX_PKT.COUNT [63:0], RO, reset 0. -/
def TLT_TX_PKT_COUNT : Field := ⟨0xd000d8, 0, 64, .ro, .const 0, 0, 0⟩
/-- R566: TLT_RX_PKT.COUNT [63:0], RO, reset 0. -/
def TLT_RX_PKT_COUNT : Field := ⟨0xd000e0, 0, 64, .ro, .const 0, 0, 0⟩
/-- R566: TLT_TX_BYTE_LO.BYTES [79:0], RO, reset 0. -/
def TLT_TX_BYTE_LO_BYTES : Field := ⟨0xd000e8, 0, 80, .ro, .const 0, 0, 0⟩
/-- R566: TLT_TX_BYTE_HI.HIGH [15:0], RO, reset 0. -/
def TLT_TX_BYTE_HI_HIGH : Field := ⟨0xd000f0, 0, 16, .ro, .const 0, 0, 0⟩
/-- R566: TLT_RX_BYTE_LO.BYTES [79:0], RO, reset 0. -/
def TLT_RX_BYTE_LO_BYTES : Field := ⟨0xd000f8, 0, 80, .ro, .const 0, 0, 0⟩
/-- R566: TLT_RX_BYTE_HI.HIGH [15:0], RO, reset 0. -/
def TLT_RX_BYTE_HI_HIGH : Field := ⟨0xd00100, 0, 16, .ro, .const 0, 0, 0⟩
/-- R594: NVS_CMD.GO [63:63], W1S, reset 0. -/
def NVS_CMD_GO : Field := ⟨0xe00000, 63, 1, .w1s, .const 0, 0, 0⟩
/-- R594: NVS_CMD.BUSY [62:62], RO, reset 0. -/
def NVS_CMD_BUSY : Field := ⟨0xe00000, 62, 1, .ro, .const 0, 0, 0⟩
/-- R594: NVS_CMD.OP [55:48], RW, reset 0. -/
def NVS_CMD_OP : Field := ⟨0xe00000, 48, 8, .rw, .const 0, 0, 0⟩
/-- R594: NVS_CMD_ADDR.ADDR [63:0], RW, reset 0. -/
def NVS_CMD_ADDR_ADDR : Field := ⟨0xe00008, 0, 64, .rw, .const 0, 0, 0⟩
/-- R595: NVS_CMD_ARG.NS [63:50], RW, reset 0. -/
def NVS_CMD_ARG_NS : Field := ⟨0xe00010, 50, 14, .rw, .const 0, 0, 0⟩
/-- R595: NVS_CMD_ARG.CTRL [40:32], RW, reset 0. -/
def NVS_CMD_ARG_CTRL : Field := ⟨0xe00010, 32, 9, .rw, .const 0, 0, 0⟩
/-- R595: NVS_CMD_ARG.NSID [6:0], RW, reset 0. -/
def NVS_CMD_ARG_NSID : Field := ⟨0xe00010, 0, 7, .rw, .const 0, 0, 0⟩
/-- R596: NVS_CMD_STATUS.STATUS [63:56], RO, reset 0x00. -/
def NVS_CMD_STATUS_STATUS : Field := ⟨0xe00018, 56, 8, .ro, .const 0, 0, 0⟩
/-- R596: NVS_CMD_STATUS.OP [55:48], RO, reset 0. -/
def NVS_CMD_STATUS_OP : Field := ⟨0xe00018, 48, 8, .ro, .const 0, 0, 0⟩
/-- R596: NVS_CMD_STATUS.OBJECT [45:32], RO, reset 0. -/
def NVS_CMD_STATUS_OBJECT : Field := ⟨0xe00018, 32, 14, .ro, .const 0, 0, 0⟩
/-- R596: NVS_CMD_STATUS.STROKE [31:0], RO, reset 0. -/
def NVS_CMD_STATUS_STROKE : Field := ⟨0xe00018, 0, 32, .ro, .const 0, 0, 0⟩
/-- R597: NVS_FETCH.BUDGET [15:0], RW, reset 256. -/
def NVS_FETCH_BUDGET : Field := ⟨0xe00020, 0, 16, .rw, .const 256, 16, 4096⟩
/-- R598: NVS_STATUS.FW_PENDING [1:1], RO, reset 0. -/
def NVS_STATUS_FW_PENDING : Field := ⟨0xe00028, 1, 1, .ro, .const 0, 0, 0⟩
/-- R598: NVS_STATUS.ERR [0:0], W1C, reset 0. -/
def NVS_STATUS_ERR : Field := ⟨0xe00028, 0, 1, .w1c, .const 0, 0, 0⟩
/-- R599: NVS_CTRL_SEL.CTRL [8:0], RW, reset 0. -/
def NVS_CTRL_SEL_CTRL : Field := ⟨0xe00030, 0, 9, .rw, .const 0, 0, 0⟩
/-- R599: NVS_CTRL_INFO.STATE [63:61], RO, reset 0. -/
def NVS_CTRL_INFO_STATE : Field := ⟨0xe00038, 61, 3, .ro, .const 0, 0, 0⟩
/-- R599: NVS_CTRL_INFO.FW_PENDING [60:60], RO, reset 0. -/
def NVS_CTRL_INFO_FW_PENDING : Field := ⟨0xe00038, 60, 1, .ro, .const 0, 0, 0⟩
/-- R599: NVS_CTRL_INFO.SELFTEST [59:59], RO, reset 0. -/
def NVS_CTRL_INFO_SELFTEST : Field := ⟨0xe00038, 59, 1, .ro, .const 0, 0, 0⟩
/-- R599: NVS_CTRL_INFO.AP [57:56], RO, reset 0. -/
def NVS_CTRL_INFO_AP : Field := ⟨0xe00038, 56, 2, .ro, .const 0, 0, 0⟩
/-- R599: NVS_CTRL_INFO.NICHE [55:44], RO, reset 0. -/
def NVS_CTRL_INFO_NICHE : Field := ⟨0xe00038, 44, 12, .ro, .const 0, 0, 0⟩
/-- R599: NVS_CTRL_INFO.IO_SQS [42:32], RO, reset 0. -/
def NVS_CTRL_INFO_IO_SQS : Field := ⟨0xe00038, 32, 11, .ro, .const 0, 0, 0⟩
/-- R599: NVS_CTRL_INFO.RID [31:16], RO, reset 0. -/
def NVS_CTRL_INFO_RID : Field := ⟨0xe00038, 16, 16, .ro, .const 0, 0, 0⟩
/-- R599: NVS_CTRL_INFO.MAX_IO [10:0], RO, reset 0. -/
def NVS_CTRL_INFO_MAX_IO : Field := ⟨0xe00038, 0, 11, .ro, .const 0, 0, 0⟩
/-- R600: NVS_CTRL_CFG.EDSTT [15:0], RW, reset 30. -/
def NVS_CTRL_CFG_EDSTT : Field := ⟨0xe00040, 0, 16, .rw, .const 30, 0, 0⟩
/-- R600: NVS_CTRL_FW.BASE_MIB [63:16], RW, reset 0. -/
def NVS_CTRL_FW_BASE_MIB : Field := ⟨0xe00048, 16, 48, .rw, .const 0, 0, 0⟩
/-- R600: NVS_CTRL_FW.SIZE_MIB [6:0], RW, reset 0. -/
def NVS_CTRL_FW_SIZE_MIB : Field := ⟨0xe00048, 0, 7, .rw, .const 0, 0, 0⟩
/-- R601: NVS_NS_SEL.NS [13:0], RW, reset 0. -/
def NVS_NS_SEL_NS : Field := ⟨0xe00050, 0, 14, .rw, .const 0, 0, 0⟩
/-- R601: NVS_NS_INFO.DEFINED [63:63], RO, reset 0. -/
def NVS_NS_INFO_DEFINED : Field := ⟨0xe00058, 63, 1, .ro, .const 0, 0, 0⟩
/-- R601: NVS_NS_INFO.ATTACHED [62:62], RO, reset 0. -/
def NVS_NS_INFO_ATTACHED : Field := ⟨0xe00058, 62, 1, .ro, .const 0, 0, 0⟩
/-- R601: NVS_NS_INFO.BACKEND [61:60], RO, reset 0. -/
def NVS_NS_INFO_BACKEND : Field := ⟨0xe00058, 60, 2, .ro, .const 0, 0, 0⟩
/-- R601: NVS_NS_INFO.PI_TYPE [59:57], RO, reset 0. -/
def NVS_NS_INFO_PI_TYPE : Field := ⟨0xe00058, 57, 3, .ro, .const 0, 0, 0⟩
/-- R601: NVS_NS_INFO.GUARD64 [56:56], RO, reset 0. -/
def NVS_NS_INFO_GUARD64 : Field := ⟨0xe00058, 56, 1, .ro, .const 0, 0, 0⟩
/-- R601: NVS_NS_INFO.LBADS [55:52], RO, reset 0. -/
def NVS_NS_INFO_LBADS : Field := ⟨0xe00058, 52, 4, .ro, .const 0, 0, 0⟩
/-- R601: NVS_NS_INFO.MS [51:45], RO, reset 0. -/
def NVS_NS_INFO_MS : Field := ⟨0xe00058, 45, 7, .ro, .const 0, 0, 0⟩
/-- R601: NVS_NS_INFO.CTRL [41:33], RO, reset 0. -/
def NVS_NS_INFO_CTRL : Field := ⟨0xe00058, 33, 9, .ro, .const 0, 0, 0⟩
/-- R601: NVS_NS_INFO.NSID [32:26], RO, reset 0. -/
def NVS_NS_INFO_NSID : Field := ⟨0xe00058, 26, 7, .ro, .const 0, 0, 0⟩
/-- R601: NVS_NS_INFO.NICHE [25:14], RO, reset 0. -/
def NVS_NS_INFO_NICHE : Field := ⟨0xe00058, 14, 12, .ro, .const 0, 0, 0⟩
/-- R601: NVS_NS_SIZE.NSZE [63:0], RO, reset 0. -/
def NVS_NS_SIZE_NSZE : Field := ⟨0xe00060, 0, 64, .ro, .const 0, 0, 0⟩
/-- R602: NVS_ERR_LAST.STATUS [63:56], RO, reset 0x00. -/
def NVS_ERR_LAST_STATUS : Field := ⟨0xe00068, 56, 8, .ro, .const 0, 0, 0⟩
/-- R602: NVS_ERR_LAST.NVME_STATUS [54:40], RO, reset 0. -/
def NVS_ERR_LAST_NVME_STATUS : Field := ⟨0xe00068, 40, 15, .ro, .const 0, 0, 0⟩
/-- R602: NVS_ERR_LAST.CTRL [39:31], RO, reset 0. -/
def NVS_ERR_LAST_CTRL : Field := ⟨0xe00068, 31, 9, .ro, .const 0, 0, 0⟩
/-- R602: NVS_ERR_LAST.CID [30:15], RO, reset 0. -/
def NVS_ERR_LAST_CID : Field := ⟨0xe00068, 15, 16, .ro, .const 0, 0, 0⟩
/-- R602: NVS_ERR_LAST.SQID [10:0], RO, reset 0. -/
def NVS_ERR_LAST_SQID : Field := ⟨0xe00068, 0, 11, .ro, .const 0, 0, 0⟩
/-- R603: NVS_ERR_CNT.SAT [32:32], W1C, reset 0. -/
def NVS_ERR_CNT_SAT : Field := ⟨0xe00070, 32, 1, .w1c, .const 0, 0, 0⟩
/-- R603: NVS_ERR_CNT.COUNT [31:0], RO, reset 0. -/
def NVS_ERR_CNT_COUNT : Field := ⟨0xe00070, 0, 32, .ro, .const 0, 0, 0⟩
/-- R603: NVS_CMD_CNT.COUNT [63:0], RO, reset 0. -/
def NVS_CMD_CNT_COUNT : Field := ⟨0xe00078, 0, 64, .ro, .const 0, 0, 0⟩
/-- R604: NVS_INFLIGHT.PEAK [49:32], RC, reset 0. -/
def NVS_INFLIGHT_PEAK : Field := ⟨0xe00080, 32, 18, .rc, .const 0, 0, 0⟩
/-- R604: NVS_INFLIGHT.IN_USE [17:0], RO, reset 0. -/
def NVS_INFLIGHT_IN_USE : Field := ⟨0xe00080, 0, 18, .ro, .const 0, 0, 0⟩
/-- R623: ACC_SLICE.UNIT_STATE [63:61], RO, reset 0. -/
def ACC_SLICE_UNIT_STATE : Field := ⟨0xf00000, 61, 3, .ro, .const 0, 0, 0⟩
/-- R623: ACC_SLICE.INLINE [60:60], RO, reset per armature. -/
def ACC_SLICE_INLINE : Field := ⟨0xf00000, 60, 1, .ro, .const 0, 0, 0⟩
/-- R623: ACC_SLICE.LOAD_PCT [47:40], RC, reset 0. -/
def ACC_SLICE_LOAD_PCT : Field := ⟨0xf00000, 40, 8, .rc, .const 0, 0, 0⟩
/-- R623: ACC_SLICE.QUEUED [19:0], RO, reset 0. -/
def ACC_SLICE_QUEUED : Field := ⟨0xf00000, 0, 20, .ro, .const 0, 0, 0⟩
/-- R624: ACC_CFG.RING_MIN [3:0], RW, reset 2. -/
def ACC_CFG_RING_MIN : Field := ⟨0xf00100, 0, 4, .rw, .const 2, 0, 0⟩
/-- R625: ACC_STATUS.KEYSTORE_FULL [2:2], W1C, reset 0. -/
def ACC_STATUS_KEYSTORE_FULL : Field := ⟨0xf00108, 2, 1, .w1c, .const 0, 0, 0⟩
/-- R625: ACC_STATUS.INLINE_DROP [1:1], W1C, reset 0. -/
def ACC_STATUS_INLINE_DROP : Field := ⟨0xf00108, 1, 1, .w1c, .const 0, 0, 0⟩
/-- R625: ACC_STATUS.ERR [0:0], W1C, reset 0. -/
def ACC_STATUS_ERR : Field := ⟨0xf00108, 0, 1, .w1c, .const 0, 0, 0⟩
/-- R626: ACC_KEYS.USED [48:32], RO, reset 0. -/
def ACC_KEYS_USED : Field := ⟨0xf00110, 32, 17, .ro, .const 0, 0, 0⟩
/-- R626: ACC_KEYS.CACHED [12:0], RO, reset 0. -/
def ACC_KEYS_CACHED : Field := ⟨0xf00110, 0, 13, .ro, .const 0, 0, 0⟩
/-- R627: ACC_ERR_LAST.STATUS [63:56], RO, reset 0x00. -/
def ACC_ERR_LAST_STATUS : Field := ⟨0xf00118, 56, 8, .ro, .const 0, 0, 0⟩
/-- R627: ACC_ERR_LAST.NICHE [55:44], RO, reset 0. -/
def ACC_ERR_LAST_NICHE : Field := ⟨0xf00118, 44, 12, .ro, .const 0, 0, 0⟩
/-- R627: ACC_ERR_LAST.SLICE [43:39], RO, reset 0. -/
def ACC_ERR_LAST_SLICE : Field := ⟨0xf00118, 39, 5, .ro, .const 0, 0, 0⟩
/-- R627: ACC_ERR_LAST.REASON [38:36], RO, reset 0. -/
def ACC_ERR_LAST_REASON : Field := ⟨0xf00118, 36, 3, .ro, .const 0, 0, 0⟩
/-- R627: ACC_ERR_LAST.STROKE [31:0], RO, reset 0. -/
def ACC_ERR_LAST_STROKE : Field := ⟨0xf00118, 0, 32, .ro, .const 0, 0, 0⟩
/-- R628: ACC_ERR_CNT.SAT [32:32], W1C, reset 0. -/
def ACC_ERR_CNT_SAT : Field := ⟨0xf00120, 32, 1, .w1c, .const 0, 0, 0⟩
/-- R628: ACC_ERR_CNT.COUNT [31:0], RO, reset 0. -/
def ACC_ERR_CNT_COUNT : Field := ⟨0xf00120, 0, 32, .ro, .const 0, 0, 0⟩
/-- R628: ACC_INLINE_DROP.SAT [32:32], W1C, reset 0. -/
def ACC_INLINE_DROP_SAT : Field := ⟨0xf00140, 32, 1, .w1c, .const 0, 0, 0⟩
/-- R628: ACC_INLINE_DROP.COUNT [31:0], RO, reset 0. -/
def ACC_INLINE_DROP_COUNT : Field := ⟨0xf00140, 0, 32, .ro, .const 0, 0, 0⟩
/-- R629: ACC_SCRUB.BLOCKS [15:0], RW, reset 64. -/
def ACC_SCRUB_BLOCKS : Field := ⟨0xf00180, 0, 16, .rw, .const 64, 1, 4096⟩
/-- R660: FAB_CMD.GO [63:63], W1S, reset 0. -/
def FAB_CMD_GO : Field := ⟨0x1000000, 63, 1, .w1s, .const 0, 0, 0⟩
/-- R660: FAB_CMD.BUSY [62:62], RO, reset 0. -/
def FAB_CMD_BUSY : Field := ⟨0x1000000, 62, 1, .ro, .const 0, 0, 0⟩
/-- R660: FAB_CMD.OP [55:48], RW, reset 0. -/
def FAB_CMD_OP : Field := ⟨0x1000000, 48, 8, .rw, .const 0, 0, 0⟩
/-- R660: FAB_CMD_ADDR.ADDR [63:0], RW, reset 0. -/
def FAB_CMD_ADDR_ADDR : Field := ⟨0x1000008, 0, 64, .rw, .const 0, 0, 0⟩
/-- R661: FAB_CMD_ARG.AP [63:62], RW, reset 0. -/
def FAB_CMD_ARG_AP : Field := ⟨0x1000010, 62, 2, .rw, .const 0, 0, 0⟩
/-- R661: FAB_CMD_ARG.RID [61:46], RW, reset 0. -/
def FAB_CMD_ARG_RID : Field := ⟨0x1000010, 46, 16, .rw, .const 0, 0, 0⟩
/-- R661: FAB_CMD_ARG.SLOT [45:40], RW, reset 0. -/
def FAB_CMD_ARG_SLOT : Field := ⟨0x1000010, 40, 6, .rw, .const 0, 0, 0⟩
/-- R661: FAB_CMD_ARG.REOPEN [39:39], RW, reset 0. -/
def FAB_CMD_ARG_REOPEN : Field := ⟨0x1000010, 39, 1, .rw, .const 0, 0, 0⟩
/-- R661: FAB_CMD_ARG.ENTRY [35:32], RW, reset 0. -/
def FAB_CMD_ARG_ENTRY : Field := ⟨0x1000010, 32, 4, .rw, .const 0, 0, 0⟩
/-- R661: FAB_CMD_ARG.INDEX [31:14], RW, reset 0. -/
def FAB_CMD_ARG_INDEX : Field := ⟨0x1000010, 14, 18, .rw, .const 0, 0, 0⟩
/-- R661: FAB_CMD_ARG.SEG [11:0], RW, reset 0. -/
def FAB_CMD_ARG_SEG : Field := ⟨0x1000010, 0, 12, .rw, .const 0, 0, 0⟩
/-- R662: FAB_CMD_STATUS.STATUS [63:56], RO, reset 0x00. -/
def FAB_CMD_STATUS_STATUS : Field := ⟨0x1000018, 56, 8, .ro, .const 0, 0, 0⟩
/-- R662: FAB_CMD_STATUS.OP [55:48], RO, reset 0. -/
def FAB_CMD_STATUS_OP : Field := ⟨0x1000018, 48, 8, .ro, .const 0, 0, 0⟩
/-- R662: FAB_CMD_STATUS.OBJECT [47:32], RO, reset 0. -/
def FAB_CMD_STATUS_OBJECT : Field := ⟨0x1000018, 32, 16, .ro, .const 0, 0, 0⟩
/-- R662: FAB_CMD_STATUS.STROKE [31:0], RO, reset 0. -/
def FAB_CMD_STATUS_STROKE : Field := ⟨0x1000018, 0, 32, .ro, .const 0, 0, 0⟩
/-- R663: FAB_CFG.FABRIC_ID [63:32], RW, reset 0. -/
def FAB_CFG_FABRIC_ID : Field := ⟨0x1000020, 32, 32, .rw, .const 0, 0, 0⟩
/-- R663: FAB_CFG.PRIORITY [31:24], RW, reset 0x80. -/
def FAB_CFG_PRIORITY : Field := ⟨0x1000020, 24, 8, .rw, .const 128, 0, 0⟩
/-- R663: FAB_CFG.MODE [23:23], RW, reset 0. -/
def FAB_CFG_MODE : Field := ⟨0x1000020, 23, 1, .rw, .const 0, 0, 0⟩
/-- R663: FAB_CFG.ENABLE [22:22], RW, reset 0. -/
def FAB_CFG_ENABLE : Field := ⟨0x1000020, 22, 1, .rw, .const 0, 0, 0⟩
/-- R663: FAB_CFG.RMGMT_ALLOW [21:21], RW, reset 0. -/
def FAB_CFG_RMGMT_ALLOW : Field := ⟨0x1000020, 21, 1, .rw, .const 0, 0, 0⟩
/-- R663: FAB_CFG.ID_STATIC [20:20], RW, reset 0. -/
def FAB_CFG_ID_STATIC : Field := ⟨0x1000020, 20, 1, .rw, .const 0, 0, 0⟩
/-- R663: FAB_CFG.POOL_QUEUE [16:0], RW, reset 0. -/
def FAB_CFG_POOL_QUEUE : Field := ⟨0x1000020, 0, 17, .rw, .const 0, 0, 0⟩
/-- R664: FAB_ID.VALID [63:63], RO, reset 0. -/
def FAB_ID_VALID : Field := ⟨0x1000028, 63, 1, .ro, .const 0, 0, 0⟩
/-- R664: FAB_ID.COORD_KNOWN [62:62], RO, reset 0. -/
def FAB_ID_COORD_KNOWN : Field := ⟨0x1000028, 62, 1, .ro, .const 0, 0, 0⟩
/-- R664: FAB_ID.ROLE [61:59], RO, reset 0. -/
def FAB_ID_ROLE : Field := ⟨0x1000028, 59, 3, .ro, .const 0, 0, 0⟩
/-- R664: FAB_ID.COORD_ID [47:34], RO, reset 0. -/
def FAB_ID_COORD_ID : Field := ⟨0x1000028, 34, 14, .ro, .const 0, 0, 0⟩
/-- R664: FAB_ID.STATIC_ID [29:16], RW, reset 0. -/
def FAB_ID_STATIC_ID : Field := ⟨0x1000028, 16, 14, .rw, .const 0, 0, 0⟩
/-- R664: FAB_ID.ID [13:0], RO, reset 0. -/
def FAB_ID_ID : Field := ⟨0x1000028, 0, 14, .ro, .const 0, 0, 0⟩
/-- R665: FAB_TIMING.HELLO_PERIOD [63:48], RW, reset 3 906. -/
def FAB_TIMING_HELLO_PERIOD : Field := ⟨0x1000030, 48, 16, .rw, .const 3906, 0, 0⟩
/-- R665: FAB_TIMING.DEAD_HELLOS [47:40], RW, reset 3. -/
def FAB_TIMING_DEAD_HELLOS : Field := ⟨0x1000030, 40, 8, .rw, .const 3, 0, 0⟩
/-- R665: FAB_TIMING.ELECT_WAIT [39:32], RW, reset 3. -/
def FAB_TIMING_ELECT_WAIT : Field := ⟨0x1000030, 32, 8, .rw, .const 3, 0, 0⟩
/-- R665: FAB_TIMING.PROBE_PERIOD [31:16], RW, reset 3 906. -/
def FAB_TIMING_PROBE_PERIOD : Field := ⟨0x1000030, 16, 16, .rw, .const 3906, 0, 0⟩
/-- R665: FAB_TIMING.SILENT [15:0], RW, reset 32. -/
def FAB_TIMING_SILENT : Field := ⟨0x1000030, 0, 16, .rw, .const 32, 0, 0⟩
/-- R665: FAB_PATHCFG.PROBE_RETRY [63:48], RW, reset 16. -/
def FAB_PATHCFG_PROBE_RETRY : Field := ⟨0x1000038, 48, 16, .rw, .const 16, 0, 0⟩
/-- R665: FAB_PATHCFG.DOWN_MISSES [47:40], RW, reset 3. -/
def FAB_PATHCFG_DOWN_MISSES : Field := ⟨0x1000038, 40, 8, .rw, .const 3, 0, 0⟩
/-- R665: FAB_PATHCFG.RESPRAY_LIMIT [39:32], RW, reset 4. -/
def FAB_PATHCFG_RESPRAY_LIMIT : Field := ⟨0x1000038, 32, 8, .rw, .const 4, 0, 0⟩
/-- R665: FAB_PATHCFG.REVIVE [31:16], RW, reset 62 500. -/
def FAB_PATHCFG_REVIVE : Field := ⟨0x1000038, 16, 16, .rw, .const 62500, 0, 0⟩
/-- R665: FAB_PATHCFG.APT_TIMEOUT_US [15:7], RW, reset 50. -/
def FAB_PATHCFG_APT_TIMEOUT_US : Field := ⟨0x1000038, 7, 9, .rw, .const 50, 0, 0⟩
/-- R665: FAB_PATHCFG.PATHS_PER_PEER [6:0], RW, reset 16. -/
def FAB_PATHCFG_PATHS_PER_PEER : Field := ⟨0x1000038, 0, 7, .rw, .const 16, 0, 0⟩
/-- R666: FAB_UL_ADDR_LO.ADDR [63:0], RW, reset 0. -/
def FAB_UL_ADDR_LO_ADDR : Field := ⟨0x1000040, 0, 64, .rw, .const 0, 0, 0⟩
/-- R666: FAB_UL_ADDR_HI.ADDR [63:0], RW, reset 0. -/
def FAB_UL_ADDR_HI_ADDR : Field := ⟨0x1000048, 0, 64, .rw, .const 0, 0, 0⟩
/-- R667: FAB_STATUS.ID_REFUSED [6:6], W1C, reset 0. -/
def FAB_STATUS_ID_REFUSED : Field := ⟨0x1000050, 6, 1, .w1c, .const 0, 0, 0⟩
/-- R667: FAB_STATUS.FOREIGN_HELLO [5:5], W1C, reset 0. -/
def FAB_STATUS_FOREIGN_HELLO : Field := ⟨0x1000050, 5, 1, .w1c, .const 0, 0, 0⟩
/-- R667: FAB_STATUS.GRANT_DROP [4:4], W1C, reset 0. -/
def FAB_STATUS_GRANT_DROP : Field := ⟨0x1000050, 4, 1, .w1c, .const 0, 0, 0⟩
/-- R667: FAB_STATUS.TRANSIT_DROP [3:3], W1C, reset 0. -/
def FAB_STATUS_TRANSIT_DROP : Field := ⟨0x1000050, 3, 1, .w1c, .const 0, 0, 0⟩
/-- R667: FAB_STATUS.PATH_DOWN [2:2], W1C, reset 0. -/
def FAB_STATUS_PATH_DOWN : Field := ⟨0x1000050, 2, 1, .w1c, .const 0, 0, 0⟩
/-- R667: FAB_STATUS.PEER_DOWN [1:1], W1C, reset 0. -/
def FAB_STATUS_PEER_DOWN : Field := ⟨0x1000050, 1, 1, .w1c, .const 0, 0, 0⟩
/-- R667: FAB_STATUS.COORD_CHANGE [0:0], W1C, reset 0. -/
def FAB_STATUS_COORD_CHANGE : Field := ⟨0x1000050, 0, 1, .w1c, .const 0, 0, 0⟩
/-- R668: FAB_MEMBERS.VERSION [63:32], RO, reset 0. -/
def FAB_MEMBERS_VERSION : Field := ⟨0x1000058, 32, 32, .ro, .const 0, 0, 0⟩
/-- R668: FAB_MEMBERS.COUNT [14:0], RO, reset 0. -/
def FAB_MEMBERS_COUNT : Field := ⟨0x1000058, 0, 15, .ro, .const 0, 0, 0⟩
/-- R669: FAB_PEER_SEL.DEVICE [13:0], RW, reset 0. -/
def FAB_PEER_SEL_DEVICE : Field := ⟨0x1000060, 0, 14, .rw, .const 0, 0, 0⟩
/-- R669: FAB_PEER_INFO.PRESENT [63:63], RO, reset 0. -/
def FAB_PEER_INFO_PRESENT : Field := ⟨0x1000068, 63, 1, .ro, .const 0, 0, 0⟩
/-- R669: FAB_PEER_INFO.NEIGHBOUR [62:62], RO, reset 0. -/
def FAB_PEER_INFO_NEIGHBOUR : Field := ⟨0x1000068, 62, 1, .ro, .const 0, 0, 0⟩
/-- R669: FAB_PEER_INFO.PATHS_UP [60:54], RO, reset 0. -/
def FAB_PEER_INFO_PATHS_UP : Field := ⟨0x1000068, 54, 7, .ro, .const 0, 0, 0⟩
/-- R669: FAB_PEER_INFO.PATHS [53:47], RO, reset 0. -/
def FAB_PEER_INFO_PATHS : Field := ⟨0x1000068, 47, 7, .ro, .const 0, 0, 0⟩
/-- R669: FAB_PEER_INFO.HOPS [46:43], RO, reset 0. -/
def FAB_PEER_INFO_HOPS : Field := ⟨0x1000068, 43, 4, .ro, .const 0, 0, 0⟩
/-- R669: FAB_PEER_UID.VALUE [63:0], RO, reset 0. -/
def FAB_PEER_UID_VALUE : Field := ⟨0x1000070, 0, 64, .ro, .const 0, 0, 0⟩
/-- R670: FAB_PATH_SEL.PATH [5:0], RW, reset 0. -/
def FAB_PATH_SEL_PATH : Field := ⟨0x1000078, 0, 6, .rw, .const 0, 0, 0⟩
/-- R670: FAB_PATH_INFO.STATE [63:62], RO, reset 0. -/
def FAB_PATH_INFO_STATE : Field := ⟨0x1000080, 62, 2, .ro, .const 0, 0, 0⟩
/-- R670: FAB_PATH_INFO.MAC [61:58], RO, reset 0. -/
def FAB_PATH_INFO_MAC : Field := ⟨0x1000080, 58, 4, .ro, .const 0, 0, 0⟩
/-- R670: FAB_PATH_INFO.TEMPLATE [51:40], RO, reset 0. -/
def FAB_PATH_INFO_TEMPLATE : Field := ⟨0x1000080, 40, 12, .ro, .const 0, 0, 0⟩
/-- R670: FAB_PATH_INFO.WEIGHT [35:32], RW, reset 1. -/
def FAB_PATH_INFO_WEIGHT : Field := ⟨0x1000080, 32, 4, .rw, .const 1, 0, 0⟩
/-- R670: FAB_PATH_INFO.UDP_SPORT [31:16], RO, reset 0. -/
def FAB_PATH_INFO_UDP_SPORT : Field := ⟨0x1000080, 16, 16, .ro, .const 0, 0, 0⟩
/-- R670: FAB_PATH_INFO.MISSES [15:8], RO, reset 0. -/
def FAB_PATH_INFO_MISSES : Field := ⟨0x1000080, 8, 8, .ro, .const 0, 0, 0⟩
/-- R670: FAB_PATH_INFO.RESPRAYS [7:0], RO, reset 0. -/
def FAB_PATH_INFO_RESPRAYS : Field := ⟨0x1000080, 0, 8, .ro, .const 0, 0, 0⟩
/-- R671: FAB_SEG_SEL.SEG [11:0], RW, reset 0. -/
def FAB_SEG_SEL_SEG : Field := ⟨0x1000088, 0, 12, .rw, .const 0, 0, 0⟩
/-- R671: FAB_SEG_INFO.STATE [63:62], RO, reset 0. -/
def FAB_SEG_INFO_STATE : Field := ⟨0x1000090, 62, 2, .ro, .const 0, 0, 0⟩
/-- R671: FAB_SEG_INFO.RIGHTS [61:59], RO, reset 0. -/
def FAB_SEG_INFO_RIGHTS : Field := ⟨0x1000090, 59, 3, .ro, .const 0, 0, 0⟩
/-- R671: FAB_SEG_INFO.NICHE [58:47], RO, reset 0. -/
def FAB_SEG_INFO_NICHE : Field := ⟨0x1000090, 47, 12, .ro, .const 0, 0, 0⟩
/-- R671: FAB_SEG_INFO.SIZE_2M [31:0], RO, reset 0. -/
def FAB_SEG_INFO_SIZE_2M : Field := ⟨0x1000090, 0, 32, .ro, .const 0, 0, 0⟩
/-- R671: FAB_SEG_KEY.KEY [31:0], RO, reset 0. -/
def FAB_SEG_KEY_KEY : Field := ⟨0x1000098, 0, 32, .ro, .const 0, 0, 0⟩
/-- R671: FAB_SEG_ADDR.VALUE [63:0], RO, reset 0. -/
def FAB_SEG_ADDR_VALUE : Field := ⟨0x10000a0, 0, 64, .ro, .const 0, 0, 0⟩
/-- R672: FAB_RMT_ADDR.ADDR [63:0], RW, reset 0. -/
def FAB_RMT_ADDR_ADDR : Field := ⟨0x10000a8, 0, 64, .rw, .const 0, 0, 0⟩
/-- R672: FAB_RMT_DATA.DATA [63:0], RW, reset 0. -/
def FAB_RMT_DATA_DATA : Field := ⟨0x10000b0, 0, 64, .rw, .const 0, 0, 0⟩
/-- R672: FAB_RMGMT.FIRST_DEV [29:16], RW, reset 0. -/
def FAB_RMGMT_FIRST_DEV : Field := ⟨0x10000b8, 16, 14, .rw, .const 0, 0, 0⟩
/-- R672: FAB_RMGMT.LAST_DEV [13:0], RW, reset 0. -/
def FAB_RMGMT_LAST_DEV : Field := ⟨0x10000b8, 0, 14, .rw, .const 0, 0, 0⟩
/-- R673: FAB_TRANSIT_DROP.SAT [32:32], W1C, reset 0. -/
def FAB_TRANSIT_DROP_SAT : Field := ⟨0x10000c0, 32, 1, .w1c, .const 0, 0, 0⟩
/-- R673: FAB_TRANSIT_DROP.COUNT [31:0], RO, reset 0. -/
def FAB_TRANSIT_DROP_COUNT : Field := ⟨0x10000c0, 0, 32, .ro, .const 0, 0, 0⟩
/-- R673: FAB_GRANT_DROP.SAT [32:32], W1C, reset 0. -/
def FAB_GRANT_DROP_SAT : Field := ⟨0x10000c8, 32, 1, .w1c, .const 0, 0, 0⟩
/-- R673: FAB_GRANT_DROP.COUNT [31:0], RO, reset 0. -/
def FAB_GRANT_DROP_COUNT : Field := ⟨0x10000c8, 0, 32, .ro, .const 0, 0, 0⟩
/-- R673: FAB_PATH_DOWN_CNT.SAT [32:32], W1C, reset 0. -/
def FAB_PATH_DOWN_CNT_SAT : Field := ⟨0x10000d0, 32, 1, .w1c, .const 0, 0, 0⟩
/-- R673: FAB_PATH_DOWN_CNT.COUNT [31:0], RO, reset 0. -/
def FAB_PATH_DOWN_CNT_COUNT : Field := ⟨0x10000d0, 0, 32, .ro, .const 0, 0, 0⟩
/-- R673: FAB_FOREIGN_HELLO.SAT [32:32], W1C, reset 0. -/
def FAB_FOREIGN_HELLO_SAT : Field := ⟨0x10000d8, 32, 1, .w1c, .const 0, 0, 0⟩
/-- R673: FAB_FOREIGN_HELLO.COUNT [31:0], RO, reset 0. -/
def FAB_FOREIGN_HELLO_COUNT : Field := ⟨0x10000d8, 0, 32, .ro, .const 0, 0, 0⟩
/-- R673: FAB_APT_ERR.SAT [32:32], W1C, reset 0. -/
def FAB_APT_ERR_SAT : Field := ⟨0x10000e0, 32, 1, .w1c, .const 0, 0, 0⟩
/-- R673: FAB_APT_ERR.COUNT [31:0], RO, reset 0. -/
def FAB_APT_ERR_COUNT : Field := ⟨0x10000e0, 0, 32, .ro, .const 0, 0, 0⟩
/-- R673: FAB_TRANSIT_PKT.COUNT [63:0], RO, reset 0. -/
def FAB_TRANSIT_PKT_COUNT : Field := ⟨0x10000e8, 0, 64, .ro, .const 0, 0, 0⟩
/-- R673: FAB_POOL_OPS.COUNT [63:0], RO, reset 0. -/
def FAB_POOL_OPS_COUNT : Field := ⟨0x10000f0, 0, 64, .ro, .const 0, 0, 0⟩
/-- R674: FAB_PORT.FABRIC [63:63], RW, reset 0. -/
def FAB_PORT_FABRIC : Field := ⟨0x1000100, 63, 1, .rw, .const 0, 0, 0⟩
/-- R674: FAB_PORT.NEIGHBOUR_VALID [62:62], RO, reset 0. -/
def FAB_PORT_NEIGHBOUR_VALID : Field := ⟨0x1000100, 62, 1, .ro, .const 0, 0, 0⟩
/-- R674: FAB_PORT.NEIGHBOUR [61:48], RO, reset 0. -/
def FAB_PORT_NEIGHBOUR : Field := ⟨0x1000100, 48, 14, .ro, .const 0, 0, 0⟩
/-- R674: FAB_PORT.TRANSIT_QUEUE [16:0], RW, reset 0. -/
def FAB_PORT_TRANSIT_QUEUE : Field := ⟨0x1000100, 0, 17, .rw, .const 0, 0, 0⟩
/-- R693: RGL_CTL.FROZEN [63:63], RO, reset 1. -/
def RGL_CTL_FROZEN : Field := ⟨0x1100000, 63, 1, .ro, .const 1, 0, 0⟩
/-- R693: RGL_CTL.JNL_STROKES [31:0], RW, reset 3 906. -/
def RGL_CTL_JNL_STROKES : Field := ⟨0x1100000, 0, 32, .rw, .const 3906, 256, 3906250⟩
/-- R694: RGL_ADV_ADDR.ADDR [63:0], RW, reset 0. -/
def RGL_ADV_ADDR_ADDR : Field := ⟨0x1100008, 0, 64, .rw, .const 0, 0, 0⟩
/-- R694: RGL_ADV_MASK.MASK [59:0], RW, reset 0. -/
def RGL_ADV_MASK_MASK : Field := ⟨0x1100010, 0, 60, .rw, .const 0, 0, 0⟩
/-- R695: RGL_ADV_ACCEPT.GO [63:63], W1S, reset 0. -/
def RGL_ADV_ACCEPT_GO : Field := ⟨0x1100018, 63, 1, .w1s, .const 0, 0, 0⟩
/-- R695: RGL_ADV_ACCEPT.LOOP [62:60], RW, reset 0. -/
def RGL_ADV_ACCEPT_LOOP : Field := ⟨0x1100018, 60, 3, .rw, .const 0, 0, 0⟩
/-- R695: RGL_ADV_ACCEPT.RUN [47:0], RW, reset 0. -/
def RGL_ADV_ACCEPT_RUN : Field := ⟨0x1100018, 0, 48, .rw, .const 0, 0, 0⟩
/-- R696: RGL_ADV_STATUS.RESULT [63:56], RO, reset 0. -/
def RGL_ADV_STATUS_RESULT : Field := ⟨0x1100020, 56, 8, .ro, .const 0, 0, 0⟩
/-- R696: RGL_ADV_STATUS.APPLIED [55:48], RO, reset 0. -/
def RGL_ADV_STATUS_APPLIED : Field := ⟨0x1100020, 48, 8, .ro, .const 0, 0, 0⟩
/-- R696: RGL_ADV_STATUS.STROKE [47:0], RO, reset 0. -/
def RGL_ADV_STATUS_STROKE : Field := ⟨0x1100020, 0, 48, .ro, .const 0, 0, 0⟩
/-- R697: RGL_STATUS.ADVICE [2:2], W1C, reset 0. -/
def RGL_STATUS_ADVICE : Field := ⟨0x1100028, 2, 1, .w1c, .const 0, 0, 0⟩
/-- R697: RGL_STATUS.CLAMP [1:1], W1C, reset 0. -/
def RGL_STATUS_CLAMP : Field := ⟨0x1100028, 1, 1, .w1c, .const 0, 0, 0⟩
/-- R697: RGL_STATUS.SKIP [0:0], W1C, reset 0. -/
def RGL_STATUS_SKIP : Field := ⟨0x1100028, 0, 1, .w1c, .const 0, 0, 0⟩
/-- R698: RGL_ADMIT.RES_INTAKE [63:48], RO, reset 4 096. -/
def RGL_ADMIT_RES_INTAKE : Field := ⟨0x1100030, 48, 16, .ro, .const 4096, 0, 0⟩
/-- R698: RGL_ADMIT.POLL_H0 [47:32], RO, reset RNG_POLL_BUDGET_0. -/
def RGL_ADMIT_POLL_H0 : Field := ⟨0x1100030, 32, 16, .ro, .const 128, 0, 0⟩
/-- R698: RGL_ADMIT.POLL_H1 [31:16], RO, reset RNG_POLL_BUDGET_1. -/
def RGL_ADMIT_POLL_H1 : Field := ⟨0x1100030, 16, 16, .ro, .const 128, 0, 0⟩
/-- R698: RGL_ADMIT.NVS_FETCH [15:0], RO, reset NVS_FETCH.BUDGET. -/
def RGL_ADMIT_NVS_FETCH : Field := ⟨0x1100030, 0, 16, .ro, .const 256, 0, 0⟩
/-- R699: RGL_POWER.CONTROL_MHZ [63:48], RO, reset 2 000. -/
def RGL_POWER_CONTROL_MHZ : Field := ⟨0x1100038, 48, 16, .ro, .const 2000, 0, 0⟩
/-- R699: RGL_POWER.GATED [23:0], RO, reset 0. -/
def RGL_POWER_GATED : Field := ⟨0x1100038, 0, 24, .ro, .const 0, 0, 0⟩
/-- R700: RGL_BE_SEL.ENTRY [7:0], RW, reset 0. -/
def RGL_BE_SEL_ENTRY : Field := ⟨0x1100040, 0, 8, .rw, .const 0, 0, 0⟩
/-- R700: RGL_BE_ENTRY.VALID [63:63], RW, reset 0. -/
def RGL_BE_ENTRY_VALID : Field := ⟨0x1100048, 63, 1, .rw, .const 0, 0, 0⟩
/-- R700: RGL_BE_ENTRY.NODE [59:40], RW, reset 0. -/
def RGL_BE_ENTRY_NODE : Field := ⟨0x1100048, 40, 20, .rw, .const 0, 0, 0⟩
/-- R700: RGL_BE_ENTRY.MIN_MBPS [39:20], RW, reset 0. -/
def RGL_BE_ENTRY_MIN_MBPS : Field := ⟨0x1100048, 20, 20, .rw, .const 0, 0, 0⟩
/-- R700: RGL_BE_ENTRY.MAX_MBPS [19:0], RW, reset 0. -/
def RGL_BE_ENTRY_MAX_MBPS : Field := ⟨0x1100048, 0, 20, .rw, .const 0, 0, 0⟩
/-- R701: RGL_LOOP_CFG.MODE [63:62], RW, reset per armature. -/
def RGL_LOOP_CFG_MODE : Field := ⟨0x1100100, 62, 2, .rw, .const 0, 0, 0⟩
/-- R701: RGL_LOOP_CFG.MAX_CHANGES [61:56], RW, reset 60. -/
def RGL_LOOP_CFG_MAX_CHANGES : Field := ⟨0x1100100, 56, 6, .rw, .const 60, 1, 60⟩
/-- R701: RGL_LOOP_CFG.PARAM [47:32], RW, reset per armature. -/
def RGL_LOOP_CFG_PARAM : Field := ⟨0x1100100, 32, 16, .rw, .const 0, 0, 0⟩
/-- R701: RGL_LOOP_CFG.PERIOD [15:0], RW, reset as in R676. -/
def RGL_LOOP_CFG_PERIOD : Field := ⟨0x1100100, 0, 16, .rw, .table [64, 256, 256, 3906, 64, 3906, 16, 39063], 16, 65535⟩
/-- R702: RGL_LOOP_STAT.LAST_CHANGES [63:56], RO, reset 0. -/
def RGL_LOOP_STAT_LAST_CHANGES : Field := ⟨0x1100108, 56, 8, .ro, .const 0, 0, 0⟩
/-- R702: RGL_LOOP_STAT.SKIPPED [55:48], RO, reset 0. -/
def RGL_LOOP_STAT_SKIPPED : Field := ⟨0x1100108, 48, 8, .ro, .const 0, 0, 0⟩
/-- R702: RGL_LOOP_STAT.RUN [47:0], RO, reset 0. -/
def RGL_LOOP_STAT_RUN : Field := ⟨0x1100108, 0, 48, .ro, .const 0, 0, 0⟩
/-- R703: RGL_ENV.MAX [63:32], RW, reset outer limit. -/
def RGL_ENV_MAX : Field := ⟨0x1100110, 32, 32, .rw, .const 0, 0, 0⟩
/-- R703: RGL_ENV.MIN [31:0], RW, reset outer limit. -/
def RGL_ENV_MIN : Field := ⟨0x1100110, 0, 32, .rw, .const 0, 0, 0⟩
/-- R703: RGL_OUTER.MAX [63:32], AR, reset outer limit. -/
def RGL_OUTER_MAX : Field := ⟨0x1100118, 32, 32, .ar, .const 0, 0, 0⟩
/-- R703: RGL_OUTER.MIN [31:0], AR, reset outer limit. -/
def RGL_OUTER_MIN : Field := ⟨0x1100118, 0, 32, .ar, .const 0, 0, 0⟩
/-- R733: JNL_EPOCH.PREV_EPOCH [63:32], RO, reset per power-up. -/
def JNL_EPOCH_PREV_EPOCH : Field := ⟨0x1200000, 32, 32, .ro, .const 0, 0, 0⟩
/-- R733: JNL_EPOCH.EPOCH [31:0], RO, reset per power-up. -/
def JNL_EPOCH_EPOCH : Field := ⟨0x1200000, 0, 32, .ro, .const 0, 0, 0⟩
/-- R734: JNL_HEAD.SEQ [63:0], RO, reset 0. -/
def JNL_HEAD_SEQ : Field := ⟨0x1200008, 0, 64, .ro, .const 0, 0, 0⟩
/-- R734: JNL_OLDEST.SEQ [63:0], RO, reset 0. -/
def JNL_OLDEST_SEQ : Field := ⟨0x1200010, 0, 64, .ro, .const 0, 0, 0⟩
/-- R734: JNL_CKPT.SEQ [63:0], RO, reset 0. -/
def JNL_CKPT_SEQ : Field := ⟨0x1200018, 0, 64, .ro, .const 0, 0, 0⟩
/-- R735: JNL_ACK.ACK [63:0], RW, reset 0. -/
def JNL_ACK_ACK : Field := ⟨0x1200020, 0, 64, .rw, .const 0, 0, 0⟩
/-- R735: JNL_CFG.LAG_WARN [20:0], RW, reset 786 432. -/
def JNL_CFG_LAG_WARN : Field := ⟨0x1200028, 0, 21, .rw, .const 786432, 4096, 1048576⟩
/-- R736: JNL_CMD.GO [63:63], W1S, reset 0. -/
def JNL_CMD_GO : Field := ⟨0x1200030, 63, 1, .w1s, .const 0, 0, 0⟩
/-- R736: JNL_CMD.BUSY [62:62], RO, reset 0. -/
def JNL_CMD_BUSY : Field := ⟨0x1200030, 62, 1, .ro, .const 0, 0, 0⟩
/-- R736: JNL_CMD.OP [55:48], RW, reset 0. -/
def JNL_CMD_OP : Field := ⟨0x1200030, 48, 8, .rw, .const 0, 0, 0⟩
/-- R736: JNL_CMD_ADDR.ADDR [63:0], RW, reset 0. -/
def JNL_CMD_ADDR_ADDR : Field := ⟨0x1200038, 0, 64, .rw, .const 0, 0, 0⟩
/-- R736: JNL_CMD_ARG.START [63:0], RW, reset 0. -/
def JNL_CMD_ARG_START : Field := ⟨0x1200040, 0, 64, .rw, .const 0, 0, 0⟩
/-- R736: JNL_CMD_COUNT.COUNT [20:0], RW, reset 0. -/
def JNL_CMD_COUNT_COUNT : Field := ⟨0x1200048, 0, 21, .rw, .const 0, 0, 0⟩
/-- R736: JNL_CMD_STATUS.STATUS [63:56], RO, reset 0x00. -/
def JNL_CMD_STATUS_STATUS : Field := ⟨0x1200050, 56, 8, .ro, .const 0, 0, 0⟩
/-- R736: JNL_CMD_STATUS.OP [55:48], RO, reset 0. -/
def JNL_CMD_STATUS_OP : Field := ⟨0x1200050, 48, 8, .ro, .const 0, 0, 0⟩
/-- R736: JNL_CMD_STATUS.STROKE [47:0], RO, reset 0. -/
def JNL_CMD_STATUS_STROKE : Field := ⟨0x1200050, 0, 48, .ro, .const 0, 0, 0⟩
/-- R737: JNL_STATUS.PREV_VALID [4:4], RO, reset per power-up. -/
def JNL_STATUS_PREV_VALID : Field := ⟨0x1200058, 4, 1, .ro, .const 0, 0, 0⟩
/-- R737: JNL_STATUS.MEDIA [3:3], W1C, reset 0. -/
def JNL_STATUS_MEDIA : Field := ⟨0x1200058, 3, 1, .w1c, .const 0, 0, 0⟩
/-- R737: JNL_STATUS.OVERRUN [2:2], W1C, reset 0. -/
def JNL_STATUS_OVERRUN : Field := ⟨0x1200058, 2, 1, .w1c, .const 0, 0, 0⟩
/-- R737: JNL_STATUS.LAG [1:1], RO, reset 0. -/
def JNL_STATUS_LAG : Field := ⟨0x1200058, 1, 1, .ro, .const 0, 0, 0⟩
/-- R737: JNL_STATUS.REGION_READY [0:0], RO, reset 0. -/
def JNL_STATUS_REGION_READY : Field := ⟨0x1200058, 0, 1, .ro, .const 0, 0, 0⟩
/-- R738: JNL_PREV_HEAD.SEQ [63:0], RO, reset 0. -/
def JNL_PREV_HEAD_SEQ : Field := ⟨0x1200060, 0, 64, .ro, .const 0, 0, 0⟩
/-- R738: JNL_MARK_SEQ.SEQ [63:0], RO, reset 0. -/
def JNL_MARK_SEQ_SEQ : Field := ⟨0x1200068, 0, 64, .ro, .const 0, 0, 0⟩
/-- R738: JNL_MEDIA_CNT.SAT [32:32], W1C, reset 0. -/
def JNL_MEDIA_CNT_SAT : Field := ⟨0x1200070, 32, 1, .w1c, .const 0, 0, 0⟩
/-- R738: JNL_MEDIA_CNT.COUNT [31:0], RO, reset 0. -/
def JNL_MEDIA_CNT_COUNT : Field := ⟨0x1200070, 0, 32, .ro, .const 0, 0, 0⟩
/-- R739: PAT_HEAD.SEQ [63:0], RO, reset 0. -/
def PAT_HEAD_SEQ : Field := ⟨0x1300000, 0, 64, .ro, .const 0, 0, 0⟩
/-- R739: PAT_OLDEST.SEQ [63:0], RO, reset 0. -/
def PAT_OLDEST_SEQ : Field := ⟨0x1300008, 0, 64, .ro, .const 0, 0, 0⟩
/-- R740: PAT_CFG.EVENT_SEV [1:0], RW, reset 2. -/
def PAT_CFG_EVENT_SEV : Field := ⟨0x1300010, 0, 2, .rw, .const 2, 0, 0⟩
/-- R741: PAT_STATUS.CNT_SAT [3:3], W1C, reset 0. -/
def PAT_STATUS_CNT_SAT : Field := ⟨0x1300018, 3, 1, .w1c, .const 0, 0, 0⟩
/-- R741: PAT_STATUS.PINNED_FULL [2:2], RO, reset 0. -/
def PAT_STATUS_PINNED_FULL : Field := ⟨0x1300018, 2, 1, .ro, .const 0, 0, 0⟩
/-- R741: PAT_STATUS.PINNED [1:1], W1C, reset 0. -/
def PAT_STATUS_PINNED : Field := ⟨0x1300018, 1, 1, .w1c, .const 0, 0, 0⟩
/-- R741: PAT_STATUS.NEW_ENTRY [0:0], W1C, reset 0. -/
def PAT_STATUS_NEW_ENTRY : Field := ⟨0x1300018, 0, 1, .w1c, .const 0, 0, 0⟩
/-- R742: PAT_PIN_INFO.OVERFLOW [63:32], RO, reset 0. -/
def PAT_PIN_INFO_OVERFLOW : Field := ⟨0x1300020, 32, 32, .ro, .const 0, 0, 0⟩
/-- R742: PAT_PIN_INFO.USED [10:0], RO, reset 0. -/
def PAT_PIN_INFO_USED : Field := ⟨0x1300020, 0, 11, .ro, .const 0, 0, 0⟩
/-- R743: PAT_RD_SEL.PINNED [63:63], RW, reset 0. -/
def PAT_RD_SEL_PINNED : Field := ⟨0x1300028, 63, 1, .rw, .const 0, 0, 0⟩
/-- R743: PAT_RD_SEL.INDEX [47:0], RW, reset 0. -/
def PAT_RD_SEL_INDEX : Field := ⟨0x1300028, 0, 48, .rw, .const 0, 0, 0⟩
/-- R743: PAT_RD.DATA [63:0], RO, reset 0. -/
def PAT_RD_DATA : Field := ⟨0x1300030, 0, 64, .ro, .const 0, 0, 0⟩
/-- R744: PAT_SAT_LAST.STROKE [63:32], RO, reset 0. -/
def PAT_SAT_LAST_STROKE : Field := ⟨0x1300050, 32, 32, .ro, .const 0, 0, 0⟩
/-- R744: PAT_SAT_LAST.NICHE_PAGE [25:25], RO, reset 0. -/
def PAT_SAT_LAST_NICHE_PAGE : Field := ⟨0x1300050, 25, 1, .ro, .const 0, 0, 0⟩
/-- R744: PAT_SAT_LAST.OFFSET [24:0], RO, reset 0. -/
def PAT_SAT_LAST_OFFSET : Field := ⟨0x1300050, 0, 25, .ro, .const 0, 0, 0⟩
/-- R769: SVC_CMD.GO [63:63], W1S, reset 0. -/
def SVC_CMD_GO : Field := ⟨0x1400000, 63, 1, .w1s, .const 0, 0, 0⟩
/-- R769: SVC_CMD.BUSY [62:62], RO, reset 0. -/
def SVC_CMD_BUSY : Field := ⟨0x1400000, 62, 1, .ro, .const 0, 0, 0⟩
/-- R769: SVC_CMD.OP [55:48], RW, reset 0. -/
def SVC_CMD_OP : Field := ⟨0x1400000, 48, 8, .rw, .const 0, 0, 0⟩
/-- R770: SVC_CMD_ARG.KIND [63:60], RW, reset 0. -/
def SVC_CMD_ARG_KIND : Field := ⟨0x1400010, 60, 4, .rw, .const 0, 0, 0⟩
/-- R770: SVC_CMD_ARG.INDEX [59:53], RW, reset 0. -/
def SVC_CMD_ARG_INDEX : Field := ⟨0x1400010, 53, 7, .rw, .const 0, 0, 0⟩
/-- R770: SVC_CMD_ARG.DISCARD [52:52], RW, reset 0. -/
def SVC_CMD_ARG_DISCARD : Field := ⟨0x1400010, 52, 1, .rw, .const 0, 0, 0⟩
/-- R770: SVC_CMD_ARG.NO_SUBST [51:51], RW, reset 0. -/
def SVC_CMD_ARG_NO_SUBST : Field := ⟨0x1400010, 51, 1, .rw, .const 0, 0, 0⟩
/-- R770: SVC_CMD_ARG.STANDBY [50:44], RW, reset 0x7F. -/
def SVC_CMD_ARG_STANDBY : Field := ⟨0x1400010, 44, 7, .rw, .const 127, 0, 0⟩
/-- R770: SVC_CMD_ARG.ROW [23:0], RW, reset 0. -/
def SVC_CMD_ARG_ROW : Field := ⟨0x1400010, 0, 24, .rw, .const 0, 0, 0⟩
/-- R769: SVC_CMD_STATUS.STATUS [63:56], RO, reset 0x00. -/
def SVC_CMD_STATUS_STATUS : Field := ⟨0x1400018, 56, 8, .ro, .const 0, 0, 0⟩
/-- R769: SVC_CMD_STATUS.OP [55:48], RO, reset 0. -/
def SVC_CMD_STATUS_OP : Field := ⟨0x1400018, 48, 8, .ro, .const 0, 0, 0⟩
/-- R769: SVC_CMD_STATUS.STROKE [47:0], RO, reset 0. -/
def SVC_CMD_STATUS_STROKE : Field := ⟨0x1400018, 0, 48, .ro, .const 0, 0, 0⟩
/-- R771: SVC_CTL.AUTO_HOLD [63:63], RW, reset 1. -/
def SVC_CTL_AUTO_HOLD : Field := ⟨0x1400020, 63, 1, .rw, .const 1, 0, 0⟩
/-- R771: SVC_CTL.AUTO_SUBST [62:62], RW, reset 1. -/
def SVC_CTL_AUTO_SUBST : Field := ⟨0x1400020, 62, 1, .rw, .const 1, 0, 0⟩
/-- R771: SVC_CTL.AUTO_SPARE [61:61], RW, reset 1. -/
def SVC_CTL_AUTO_SPARE : Field := ⟨0x1400020, 61, 1, .rw, .const 1, 0, 0⟩
/-- R771: SVC_CTL.AUTO_RETIRE [60:60], RW, reset 0. -/
def SVC_CTL_AUTO_RETIRE : Field := ⟨0x1400020, 60, 1, .rw, .const 0, 0, 0⟩
/-- R771: SVC_CTL.RECOVERY_HOLD [59:59], RW, reset 0. -/
def SVC_CTL_RECOVERY_HOLD : Field := ⟨0x1400020, 59, 1, .rw, .const 0, 0, 0⟩
/-- R771: SVC_CTL.RECOVERY_MAX [55:48], RW, reset 8. -/
def SVC_CTL_RECOVERY_MAX : Field := ⟨0x1400020, 48, 8, .rw, .const 8, 0, 0⟩
/-- R771: SVC_CTL.SPARE_GBPS [47:32], RW, reset 16. -/
def SVC_CTL_SPARE_GBPS : Field := ⟨0x1400020, 32, 16, .rw, .const 16, 1, 64⟩
/-- R771: SVC_CTL.DRAIN_LIMIT [31:0], RW, reset 65 536. -/
def SVC_CTL_DRAIN_LIMIT : Field := ⟨0x1400020, 0, 32, .rw, .const 65536, 256, 16777216⟩
/-- R772: SVC_STATUS.PLINTH [5:5], W1C, reset 0. -/
def SVC_STATUS_PLINTH : Field := ⟨0x1400028, 5, 1, .w1c, .const 0, 0, 0⟩
/-- R772: SVC_STATUS.AVAIL_LOST [4:4], W1C, reset 0. -/
def SVC_STATUS_AVAIL_LOST : Field := ⟨0x1400028, 4, 1, .w1c, .const 0, 0, 0⟩
/-- R772: SVC_STATUS.RECOVERY [3:3], W1C, reset 0. -/
def SVC_STATUS_RECOVERY : Field := ⟨0x1400028, 3, 1, .w1c, .const 0, 0, 0⟩
/-- R772: SVC_STATUS.SPARE [2:2], W1C, reset 0. -/
def SVC_STATUS_SPARE : Field := ⟨0x1400028, 2, 1, .w1c, .const 0, 0, 0⟩
/-- R772: SVC_STATUS.PROBATION_FAIL [1:1], W1C, reset 0. -/
def SVC_STATUS_PROBATION_FAIL : Field := ⟨0x1400028, 1, 1, .w1c, .const 0, 0, 0⟩
/-- R772: SVC_STATUS.UNIT_CHANGE [0:0], W1C, reset 0. -/
def SVC_STATUS_UNIT_CHANGE : Field := ⟨0x1400028, 0, 1, .w1c, .const 0, 0, 0⟩
/-- R773: SVC_UNIT_SEL.KIND [11:8], RW, reset 0. -/
def SVC_UNIT_SEL_KIND : Field := ⟨0x1400030, 8, 4, .rw, .const 0, 0, 0⟩
/-- R773: SVC_UNIT_SEL.INDEX [6:0], RW, reset 0. -/
def SVC_UNIT_SEL_INDEX : Field := ⟨0x1400030, 0, 7, .rw, .const 0, 0, 0⟩
/-- R773: SVC_UNIT_INFO.STATE [63:61], RO, reset per armature. -/
def SVC_UNIT_INFO_STATE : Field := ⟨0x1400038, 61, 3, .ro, .const 0, 0, 0⟩
/-- R773: SVC_UNIT_INFO.TEST [60:59], RO, reset 0. -/
def SVC_UNIT_INFO_TEST : Field := ⟨0x1400038, 59, 2, .ro, .const 0, 0, 0⟩
/-- R773: SVC_UNIT_INFO.FAILS [55:48], RO, reset 0. -/
def SVC_UNIT_INFO_FAILS : Field := ⟨0x1400038, 48, 8, .ro, .const 0, 0, 0⟩
/-- R773: SVC_UNIT_INFO.LOGICAL [47:40], RO, reset per armature. -/
def SVC_UNIT_INFO_LOGICAL : Field := ⟨0x1400038, 40, 8, .ro, .const 0, 0, 0⟩
/-- R773: SVC_UNIT_INFO.CAUSE [39:32], RO, reset 0. -/
def SVC_UNIT_INFO_CAUSE : Field := ⟨0x1400038, 32, 8, .ro, .const 0, 0, 0⟩
/-- R773: SVC_UNIT_INFO.STROKE [31:0], RO, reset 0. -/
def SVC_UNIT_INFO_STROKE : Field := ⟨0x1400038, 0, 32, .ro, .const 0, 0, 0⟩
/-- R774: SVC_SPARE.STATE [63:62], RO, reset per armature. -/
def SVC_SPARE_STATE : Field := ⟨0x1400040, 62, 2, .ro, .const 0, 0, 0⟩
/-- R774: SVC_SPARE.SPARE [61:57], RO, reset per armature. -/
def SVC_SPARE_SPARE : Field := ⟨0x1400040, 57, 5, .ro, .const 0, 0, 0⟩
/-- R774: SVC_SPARE.TARGET [56:52], RO, reset 0. -/
def SVC_SPARE_TARGET : Field := ⟨0x1400040, 52, 5, .ro, .const 0, 0, 0⟩
/-- R774: SVC_SPARE.COPIED_MIB [15:0], RO, reset 0. -/
def SVC_SPARE_COPIED_MIB : Field := ⟨0x1400040, 0, 16, .ro, .const 0, 0, 0⟩
/-- R775: SVC_RECOVERY.ENTRIES [63:48], RO, reset 0. -/
def SVC_RECOVERY_ENTRIES : Field := ⟨0x1400060, 48, 16, .ro, .const 0, 0, 0⟩
/-- R775: SVC_RECOVERY.CAUSE [47:40], RO, reset 0. -/
def SVC_RECOVERY_CAUSE : Field := ⟨0x1400060, 40, 8, .ro, .const 0, 0, 0⟩
/-- R775: SVC_RECOVERY.STROKES [31:0], RO, reset 0. -/
def SVC_RECOVERY_STROKES : Field := ⟨0x1400060, 0, 32, .ro, .const 0, 0, 0⟩
/-- R776: SVC_AVAIL.STANDBY_COUNT [15:8], RO, reset 0. -/
def SVC_AVAIL_STANDBY_COUNT : Field := ⟨0x1400068, 8, 8, .ro, .const 0, 0, 0⟩
/-- R776: SVC_AVAIL.ALL_MET [7:7], RO, reset 0. -/
def SVC_AVAIL_ALL_MET : Field := ⟨0x1400068, 7, 1, .ro, .const 0, 0, 0⟩
/-- R776: SVC_AVAIL.SPARES [4:4], RO, reset 0. -/
def SVC_AVAIL_SPARES : Field := ⟨0x1400068, 4, 1, .ro, .const 0, 0, 0⟩
/-- R776: SVC_AVAIL.PORTS [3:3], RO, reset 0. -/
def SVC_AVAIL_PORTS : Field := ⟨0x1400068, 3, 1, .ro, .const 0, 0, 0⟩
/-- R776: SVC_AVAIL.STANDBY_MGR [2:2], RO, reset 0. -/
def SVC_AVAIL_STANDBY_MGR : Field := ⟨0x1400068, 2, 1, .ro, .const 0, 0, 0⟩
/-- R776: SVC_AVAIL.HOSTS [1:1], RO, reset 0. -/
def SVC_AVAIL_HOSTS : Field := ⟨0x1400068, 1, 1, .ro, .const 0, 0, 0⟩
/-- R776: SVC_AVAIL.STANDBY_TILES [0:0], RO, reset 0. -/
def SVC_AVAIL_STANDBY_TILES : Field := ⟨0x1400068, 0, 1, .ro, .const 0, 0, 0⟩
/-- R777: SVC_LIMITS.CE_LIMIT [63:32], RW, reset 1 024. -/
def SVC_LIMITS_CE_LIMIT : Field := ⟨0x1400070, 32, 32, .rw, .const 1024, 0, 0⟩
/-- R777: SVC_LIMITS.RECOVERY_MIN [31:0], RW, reset 256. -/
def SVC_LIMITS_RECOVERY_MIN : Field := ⟨0x1400070, 0, 32, .rw, .const 256, 16, 3906250⟩
/-- R778: SVC_PLINTH.SWITCHING [63:63], RO, reset 0. -/
def SVC_PLINTH_SWITCHING : Field := ⟨0x1400078, 63, 1, .ro, .const 0, 0, 0⟩
/-- R778: SVC_PLINTH.SLOT [60:60], RO, reset per flash. -/
def SVC_PLINTH_SLOT : Field := ⟨0x1400078, 60, 1, .ro, .const 0, 0, 0⟩
/-- R778: SVC_PLINTH.RESULT [59:56], RO, reset 0. -/
def SVC_PLINTH_RESULT : Field := ⟨0x1400078, 56, 4, .ro, .const 0, 0, 0⟩
/-- R778: SVC_PLINTH.LOCKSTEP [55:48], RO, reset 0. -/
def SVC_PLINTH_LOCKSTEP : Field := ⟨0x1400078, 48, 8, .ro, .const 0, 0, 0⟩
/-- R778: SVC_PLINTH.STROKE [47:0], RO, reset 0. -/
def SVC_PLINTH_STROKE : Field := ⟨0x1400078, 0, 48, .ro, .const 0, 0, 0⟩
/-- R799: PWR_CMD.GO [63:63], W1S, reset 0. -/
def PWR_CMD_GO : Field := ⟨0x1500000, 63, 1, .w1s, .const 0, 0, 0⟩
/-- R799: PWR_CMD.BUSY [62:62], RO, reset 0. -/
def PWR_CMD_BUSY : Field := ⟨0x1500000, 62, 1, .ro, .const 0, 0, 0⟩
/-- R799: PWR_CMD.OP [55:48], RW, reset 0. -/
def PWR_CMD_OP : Field := ⟨0x1500000, 48, 8, .rw, .const 0, 0, 0⟩
/-- R799: PWR_CMD_STATUS.STATUS [63:56], RO, reset 0x00. -/
def PWR_CMD_STATUS_STATUS : Field := ⟨0x1500018, 56, 8, .ro, .const 0, 0, 0⟩
/-- R799: PWR_CMD_STATUS.OP [55:48], RO, reset 0. -/
def PWR_CMD_STATUS_OP : Field := ⟨0x1500018, 48, 8, .ro, .const 0, 0, 0⟩
/-- R799: PWR_CMD_STATUS.STROKE [47:0], RO, reset 0. -/
def PWR_CMD_STATUS_STROKE : Field := ⟨0x1500018, 0, 48, .ro, .const 0, 0, 0⟩
/-- R800: PWR_SEQ.READY [63:63], RO, reset 0. -/
def PWR_SEQ_READY : Field := ⟨0x1500020, 63, 1, .ro, .const 0, 0, 0⟩
/-- R800: PWR_SEQ.WAITING [62:62], RO, reset 0. -/
def PWR_SEQ_WAITING : Field := ⟨0x1500020, 62, 1, .ro, .const 0, 0, 0⟩
/-- R800: PWR_SEQ.STEP [52:48], RO, reset 0. -/
def PWR_SEQ_STEP : Field := ⟨0x1500020, 48, 5, .ro, .const 0, 0, 0⟩
/-- R800: PWR_SEQ.STEP_STROKES [15:0], RW, reset 7 813. -/
def PWR_SEQ_STEP_STROKES : Field := ⟨0x1500020, 0, 16, .rw, .const 7813, 2000, 65535⟩
/-- R801: PWR_STATE.PSTATE [63:62], RO, reset 0. -/
def PWR_STATE_PSTATE : Field := ⟨0x1500028, 62, 2, .ro, .const 0, 0, 0⟩
/-- R801: PWR_STATE.LEVEL [61:60], RO, reset 0. -/
def PWR_STATE_LEVEL : Field := ⟨0x1500028, 60, 2, .ro, .const 0, 0, 0⟩
/-- R801: PWR_STATE.TEMP_LEVEL [59:58], RO, reset 0. -/
def PWR_STATE_TEMP_LEVEL : Field := ⟨0x1500028, 58, 2, .ro, .const 0, 0, 0⟩
/-- R801: PWR_STATE.POWER_LEVEL [57:56], RO, reset 0. -/
def PWR_STATE_POWER_LEVEL : Field := ⟨0x1500028, 56, 2, .ro, .const 0, 0, 0⟩
/-- R802: PWR_CAP.WATTS [15:0], RW, reset 450. -/
def PWR_CAP_WATTS : Field := ⟨0x1500030, 0, 16, .rw, .const 450, 100, 520⟩
/-- R802: PWR_THERM.T_CRIT [23:16], RW, reset 105. -/
def PWR_THERM_T_CRIT : Field := ⟨0x1500038, 16, 8, .rw, .const 105, 0, 0⟩
/-- R802: PWR_THERM.T_THROTTLE [15:8], RW, reset 95. -/
def PWR_THERM_T_THROTTLE : Field := ⟨0x1500038, 8, 8, .rw, .const 95, 0, 0⟩
/-- R802: PWR_THERM.HYST [7:0], RW, reset 3. -/
def PWR_THERM_HYST : Field := ⟨0x1500038, 0, 8, .rw, .const 3, 0, 0⟩
/-- R803: PWR_TEMP.DIODE1 [63:56], RO, reset 0. -/
def PWR_TEMP_DIODE1 : Field := ⟨0x1500040, 56, 8, .ro, .const 0, 0, 0⟩
/-- R803: PWR_TEMP.DIODE0 [55:48], RO, reset 0. -/
def PWR_TEMP_DIODE0 : Field := ⟨0x1500040, 48, 8, .ro, .const 0, 0, 0⟩
/-- R803: PWR_TEMP.HOT_SENSOR [47:40], RO, reset 0. -/
def PWR_TEMP_HOT_SENSOR : Field := ⟨0x1500040, 40, 8, .ro, .const 0, 0, 0⟩
/-- R803: PWR_TEMP.PEAK [23:16], RC, reset 0. -/
def PWR_TEMP_PEAK : Field := ⟨0x1500040, 16, 8, .rc, .const 0, 0, 0⟩
/-- R803: PWR_TEMP.HOTTEST [7:0], RO, reset 0. -/
def PWR_TEMP_HOTTEST : Field := ⟨0x1500040, 0, 8, .ro, .const 0, 0, 0⟩
/-- R804: PWR_POWER.PEAK_W [47:32], RC, reset 0. -/
def PWR_POWER_PEAK_W : Field := ⟨0x1500048, 32, 16, .rc, .const 0, 0, 0⟩
/-- R804: PWR_POWER.AVG_W [15:0], RO, reset 0. -/
def PWR_POWER_AVG_W : Field := ⟨0x1500048, 0, 16, .ro, .const 0, 0, 0⟩
/-- R805: PWR_LP.WAKE_PORTS [15:0], RW, reset 0. -/
def PWR_LP_WAKE_PORTS : Field := ⟨0x1500050, 0, 16, .rw, .const 0, 0, 0⟩
/-- R806: PWR_STATUS.PSTATE [4:4], W1C, reset 0. -/
def PWR_STATUS_PSTATE : Field := ⟨0x1500058, 4, 1, .w1c, .const 0, 0, 0⟩
/-- R806: PWR_STATUS.THROTTLE [3:3], W1C, reset 0. -/
def PWR_STATUS_THROTTLE : Field := ⟨0x1500058, 3, 1, .w1c, .const 0, 0, 0⟩
/-- R806: PWR_STATUS.CAP_OVER [2:2], W1C, reset 0. -/
def PWR_STATUS_CAP_OVER : Field := ⟨0x1500058, 2, 1, .w1c, .const 0, 0, 0⟩
/-- R806: PWR_STATUS.CRIT [1:1], W1C, reset 0. -/
def PWR_STATUS_CRIT : Field := ⟨0x1500058, 1, 1, .w1c, .const 0, 0, 0⟩
/-- R806: PWR_STATUS.READY [0:0], W1C, reset 0. -/
def PWR_STATUS_READY : Field := ⟨0x1500058, 0, 1, .w1c, .const 0, 0, 0⟩
/-- R807: PWR_THROTTLE_CNT.SAT [32:32], W1C, reset 0. -/
def PWR_THROTTLE_CNT_SAT : Field := ⟨0x1500060, 32, 1, .w1c, .const 0, 0, 0⟩
/-- R807: PWR_THROTTLE_CNT.COUNT [31:0], RO, reset 0. -/
def PWR_THROTTLE_CNT_COUNT : Field := ⟨0x1500060, 0, 32, .ro, .const 0, 0, 0⟩
/-- R807: PWR_LP_DROP.SAT [32:32], W1C, reset 0. -/
def PWR_LP_DROP_SAT : Field := ⟨0x1500068, 32, 1, .w1c, .const 0, 0, 0⟩
/-- R807: PWR_LP_DROP.COUNT [31:0], RO, reset 0. -/
def PWR_LP_DROP_COUNT : Field := ⟨0x1500068, 0, 32, .ro, .const 0, 0, 0⟩
/-- R219: NCH_PG_STATUS.RESET_COUNT [47:32], RO, reset 0. -/
def NCH_PG_STATUS_RESET_COUNT : Field := ⟨0x2000000, 32, 16, .ro, .const 0, 0, 0⟩
/-- R219: NCH_PG_STATUS.STATE [15:12], RO, reset 1. -/
def NCH_PG_STATUS_STATE : Field := ⟨0x2000000, 12, 4, .ro, .const 1, 0, 0⟩
/-- R219: NCH_PG_STATUS.NICHE [11:0], RO, reset per niche. -/
def NCH_PG_STATUS_NICHE : Field := ⟨0x2000000, 0, 12, .ro, .idx, 0, 0⟩
/-- R220: NCH_PG_SPOOF_DROP.SAT [32:32], RO, reset 0. -/
def NCH_PG_SPOOF_DROP_SAT : Field := ⟨0x2000008, 32, 1, .ro, .const 0, 0, 0⟩
/-- R220: NCH_PG_SPOOF_DROP.COUNT [31:0], RO, reset 0. -/
def NCH_PG_SPOOF_DROP_COUNT : Field := ⟨0x2000008, 0, 32, .ro, .const 0, 0, 0⟩
/-- R220: NCH_PG_RX_DROP.SAT [32:32], RO, reset 0. -/
def NCH_PG_RX_DROP_SAT : Field := ⟨0x2000010, 32, 1, .ro, .const 0, 0, 0⟩
/-- R220: NCH_PG_RX_DROP.COUNT [31:0], RO, reset 0. -/
def NCH_PG_RX_DROP_COUNT : Field := ⟨0x2000010, 0, 32, .ro, .const 0, 0, 0⟩
/-- R280: NCH_PG_NUDGE.RING [16:0], WO, reset 0. -/
def NCH_PG_NUDGE_RING : Field := ⟨0x2001000, 0, 17, .wo, .const 0, 0, 0⟩
/-- R281: NCH_PG_CQ_REL.ARM [63:63], WO, reset 0. -/
def NCH_PG_CQ_REL_ARM : Field := ⟨0x2001008, 63, 1, .wo, .const 0, 0, 0⟩
/-- R281: NCH_PG_CQ_REL.COUNT [48:32], WO, reset 0. -/
def NCH_PG_CQ_REL_COUNT : Field := ⟨0x2001008, 32, 17, .wo, .const 0, 0, 0⟩
/-- R281: NCH_PG_CQ_REL.RING [16:0], WO, reset 0. -/
def NCH_PG_CQ_REL_RING : Field := ⟨0x2001008, 0, 17, .wo, .const 0, 0, 0⟩
/-- R281: NCH_PG_EQ_REL.ARM [63:63], WO, reset 0. -/
def NCH_PG_EQ_REL_ARM : Field := ⟨0x2001010, 63, 1, .wo, .const 0, 0, 0⟩
/-- R281: NCH_PG_EQ_REL.COUNT [48:32], WO, reset 0. -/
def NCH_PG_EQ_REL_COUNT : Field := ⟨0x2001010, 32, 17, .wo, .const 0, 0, 0⟩
/-- R281: NCH_PG_EQ_REL.RING [16:0], WO, reset 0. -/
def NCH_PG_EQ_REL_RING : Field := ⟨0x2001010, 0, 17, .wo, .const 0, 0, 0⟩

/-- Part of the register table, in offset order. -/
def table0 : List RegDef := [
  ⟨0x0, 1, 0x0, 1, 0x0, .none, false, [IDN_PART_ARCH, IDN_PART_MEMBER, IDN_PART_STEP_MAJOR, IDN_PART_STEP_MINOR]⟩,
  ⟨0x8, 1, 0x0, 1, 0x0, .none, false, [IDN_STATE_STATE]⟩,
  ⟨0x10, 1, 0x0, 1, 0x0, .none, false, [IDN_SHAPE0_MATCH_STAGES, IDN_SHAPE0_MATCH_PIPES, IDN_SHAPE0_PARSE_PER_CLUSTER, IDN_SHAPE0_PARSE_CLUSTERS, IDN_SHAPE0_HOST_CTRLS, IDN_SHAPE0_ETH_LANES, IDN_SHAPE0_ETH_MACS, IDN_SHAPE0_THREADS_PER_CORE, IDN_SHAPE0_CORES_PER_TILE, IDN_SHAPE0_TILES]⟩,
  ⟨0x18, 1, 0x0, 1, 0x0, .none, false, [IDN_SHAPE1_STACK_GIB, IDN_SHAPE1_STACKS, IDN_SHAPE1_PLINTH_MIB, IDN_SHAPE1_PKT_BUF_MIB, IDN_SHAPE1_MATCH_MEM_MIB, IDN_SHAPE1_CTX_STORE_MIB, IDN_SHAPE1_TILE_MEM_KIB]⟩,
  ⟨0x20, 1, 0x0, 1, 0x0, .none, false, [IDN_SHAPE2_PFX6_LOG2, IDN_SHAPE2_PFX4_LOG2, IDN_SHAPE2_FLOW_STACKED_LOG2, IDN_SHAPE2_EP_STACKED_LOG2, IDN_SHAPE2_FLOW_ONDIE_LOG2, IDN_SHAPE2_WIN_LOG2, IDN_SHAPE2_PEER_LOG2, IDN_SHAPE2_EP_ONDIE_LOG2]⟩,
  ⟨0x28, 1, 0x0, 1, 0x0, .none, false, [IDN_SHAPE3_SHAPE_REV, IDN_SHAPE3_FABRIC_DEV_LOG2, IDN_SHAPE3_CE_SLICES, IDN_SHAPE3_CZ_SLICES, IDN_SHAPE3_PK_SLICES, IDN_SHAPE3_CY_SLICES, IDN_SHAPE3_STROKE_OPTS, IDN_SHAPE3_EVQ_LOG2, IDN_SHAPE3_CQ_LOG2, IDN_SHAPE3_WQ_LOG2, IDN_SHAPE3_NICHES_LOG2, IDN_SHAPE3_FRONT_WINDOW, IDN_SHAPE3_PARSE_DEPTH]⟩,
  ⟨0x100000, 1, 0x0, 1, 0x0, .none, false, [STK_CTL_PERIOD, STK_CTL_CLK10M_REF, STK_CTL_TOD_LOAD]⟩,
  ⟨0x100008, 1, 0x0, 1, 0x0, .none, false, [STK_STATUS_TOD_ERR, STK_STATUS_TXTS_OVF, STK_STATUS_RATE_CLAMP, STK_STATUS_OVR, STK_STATUS_STEP_PENDING, STK_STATUS_REF_LOCK, STK_STATUS_PHASE, STK_STATUS_ALIGN]⟩,
  ⟨0x100010, 1, 0x0, 1, 0x0, .none, false, [STK_COUNT_COUNT]⟩,
  ⟨0x100018, 1, 0x0, 1, 0x0, .none, false, [STK_COUNT_LEAD_LEAD]⟩,
  ⟨0x100020, 1, 0x0, 1, 0x0, .none, false, [STK_PHC_SEC_SEC]⟩,
  ⟨0x100028, 1, 0x0, 1, 0x0, .none, false, [STK_PHC_NS_NS, STK_PHC_NS_FRAC]⟩,
  ⟨0x100030, 1, 0x0, 1, 0x0, .none, false, [STK_PHC_RATE_RATE]⟩,
  ⟨0x100038, 1, 0x0, 1, 0x0, .none, false, [STK_PHC_STEP_STEP]⟩,
  ⟨0x100040, 1, 0x0, 1, 0x0, .none, false, [STK_REALIGN_ARM, STK_REALIGN_AT_STROKE]⟩,
  ⟨0x100048, 1, 0x0, 1, 0x0, .none, false, [STK_STEP_STATUS_PENDING, STK_STEP_STATUS_RESULT, STK_STEP_STATUS_SLEW_LEFT]⟩,
  ⟨0x100050, 1, 0x0, 1, 0x0, .none, false, [STK_ALIGN_EST_OFFSET]⟩,
  ⟨0x100058, 1, 0x0, 1, 0x0, .none, false, [STK_ALIGN_CFG_HOLD, STK_ALIGN_CFG_LIMIT]⟩,
  ⟨0x100060, 1, 0x0, 1, 0x0, .none, false, [STK_OVR_COUNT_SAT, STK_OVR_COUNT_COUNT]⟩,
  ⟨0x100068, 1, 0x0, 1, 0x0, .none, false, [STK_OVR_LAST_KIND, STK_OVR_LAST_INDEX, STK_OVR_LAST_STROKE]⟩]
/-- Part of the register table, in offset order. -/
def table1 : List RegDef := [
  ⟨0x100100, 16, 0x8, 1, 0x0, .none, false, [STK_TS_TRIM_TX_TRIM, STK_TS_TRIM_RX_TRIM]⟩,
  ⟨0x100180, 16, 0x8, 1, 0x0, .none, false, [STK_LAUNCH_CFG_HORIZON, STK_LAUNCH_CFG_POLICY]⟩,
  ⟨0x100200, 16, 0x10, 1, 0x0, .none, false, [STK_TXTS_INFO_VALID, STK_TXTS_INFO_LEVEL, STK_TXTS_INFO_STATUS, STK_TXTS_INFO_SUBNS, STK_TXTS_INFO_TS_ID]⟩,
  ⟨0x100208, 16, 0x10, 1, 0x0, .none, false, [STK_TXTS_TIME_TIME]⟩,
  ⟨0x100300, 16, 0x10, 1, 0x0, .none, false, [STK_TXTS_DROP_SAT, STK_TXTS_DROP_COUNT]⟩,
  ⟨0x100308, 16, 0x10, 1, 0x0, .none, false, [STK_LATE_SAT, STK_LATE_COUNT]⟩,
  ⟨0x100400, 1, 0x0, 1, 0x0, .none, false, [STK_PPS_OUT_CFG_PPS_EN, STK_PPS_OUT_CFG_PPS_POL, STK_PPS_OUT_CFG_CLK10M_EN, STK_PPS_OUT_CFG_PPS_IN_EDGE, STK_PPS_OUT_CFG_WIDTH, STK_PPS_OUT_CFG_OFFSET]⟩,
  ⟨0x100408, 1, 0x0, 1, 0x0, .none, false, [STK_PPS_IN_TS_TIME]⟩,
  ⟨0x100410, 1, 0x0, 1, 0x0, .none, false, [STK_PPS_IN_INFO_NEW, STK_PPS_IN_INFO_MISSED, STK_PPS_IN_INFO_SUBNS]⟩,
  ⟨0x100418, 1, 0x0, 1, 0x0, .none, false, [STK_TOD_SEC_SEC]⟩,
  ⟨0x100420, 1, 0x0, 1, 0x0, .none, false, [STK_TOD_INFO_VALID, STK_TOD_INFO_LEAP_PENDING, STK_TOD_INFO_LEAP_NEG, STK_TOD_INFO_UTC_OFFSET]⟩,
  ⟨0x200000, 1, 0x0, 1, 0x0, .none, false, [ARM_ID_IMAGE_ID]⟩,
  ⟨0x200008, 1, 0x0, 1, 0x0, .none, false, [ARM_INFO_SVN, ARM_INFO_PARTIALS, ARM_INFO_FALLBACK, ARM_INFO_PARTIAL_FAULT, ARM_INFO_SLOT, ARM_INFO_FORMAT, ARM_INFO_PART_DEFINED]⟩,
  ⟨0x200010, 6, 0x8, 1, 0x0, .none, false, [ARM_EFF_DIGEST_DIGEST]⟩,
  ⟨0x200040, 1, 0x0, 1, 0x0, .none, false, [ARM_LOAD_STATUS_SLOT_A, ARM_LOAD_STATUS_SLOT_B, ARM_LOAD_STATUS_PARTIAL_INDEX, ARM_LOAD_STATUS_PARTIAL_CODE]⟩,
  ⟨0x200048, 1, 0x0, 1, 0x0, .none, false, [ARM_FLOOR_PLINTH, ARM_FLOOR_ARMATURE]⟩,
  ⟨0x200050, 1, 0x0, 1, 0x0, .none, false, [ARM_STAGE_ADDR_ADDR]⟩,
  ⟨0x200058, 1, 0x0, 1, 0x0, .none, false, [ARM_STAGE_LEN_LEN]⟩,
  ⟨0x200060, 1, 0x0, 1, 0x0, .none, false, [ARM_CMD_GO, ARM_CMD_BUSY, ARM_CMD_OP, ARM_CMD_ARG]⟩,
  ⟨0x200068, 1, 0x0, 1, 0x0, .none, false, [ARM_CMD_STATUS_RESULT, ARM_CMD_STATUS_OP, ARM_CMD_STATUS_STROKE]⟩]
/-- Part of the register table, in offset order. -/
def table2 : List RegDef := [
  ⟨0x200070, 1, 0x0, 1, 0x0, .none, false, [ARM_JOB_PHASE, ARM_JOB_RESULT, ARM_JOB_PART_MASK, ARM_JOB_STROKES]⟩,
  ⟨0x200078, 1, 0x0, 1, 0x0, .none, false, [ARM_DRAIN_LIMIT_LIMIT]⟩,
  ⟨0x200080, 1, 0x0, 1, 0x0, .none, false, [ARM_MAQ_ADDR_ADDR]⟩,
  ⟨0x200088, 1, 0x0, 1, 0x0, .none, false, [ARM_MAQ_STATUS_DONE, ARM_MAQ_STATUS_RESULT, ARM_MAQ_STATUS_FINDINGS, ARM_MAQ_STATUS_WARNINGS]⟩,
  ⟨0x200090, 1, 0x0, 1, 0x0, .none, false, [ARM_NONCE_VALUE]⟩,
  ⟨0x200098, 1, 0x0, 1, 0x0, .none, false, [ARM_DEVICE_UID_VALUE]⟩,
  ⟨0x2000a0, 6, 0x8, 1, 0x0, .none, false, [ARM_TALLY_GRANT_DEVICE, ARM_TALLY_GRANT_PLATFORM, ARM_TALLY_CONSUMED, ARM_TALLY_REMAINING]⟩,
  ⟨0x2000d0, 1, 0x0, 1, 0x0, .none, false, [ARM_FUSE_REC_IDX_INDEX]⟩,
  ⟨0x2000d8, 1, 0x0, 1, 0x0, .fuseRec, false, [ARM_FUSE_REC_DATA_VALID, ARM_FUSE_REC_DATA_UNIT, ARM_FUSE_REC_DATA_TALLY, ARM_FUSE_REC_DATA_ARG, ARM_FUSE_REC_DATA_EPOCH]⟩,
  ⟨0x2000e0, 1, 0x0, 1, 0x0, .none, false, [ARM_BOUND_LAST_OFFSET, ARM_BOUND_LAST_STROKE]⟩,
  ⟨0x2000e8, 1, 0x0, 1, 0x0, .none, false, [ARM_STATUS_BOUND_VIOL, ARM_STATUS_TALLY_LOW, ARM_STATUS_JOB_ACTIVE]⟩,
  ⟨0x2000f0, 1, 0x0, 1, 0x0, .none, false, [ARM_BOOTDESC_PARTIALS, ARM_BOOTDESC_ARM_SLOT, ARM_BOOTDESC_PLINTH_SLOT, ARM_BOOTDESC_SEQ]⟩,
  ⟨0x2000f8, 1, 0x0, 1, 0x0, .fuseRec, false, [ARM_FUSE_REC_DETAIL_ROW]⟩,
  ⟨0x200100, 4, 0x8, 1, 0x0, .none, false, [ARM_PPR_DONE, ARM_PPR_REMAINING]⟩,
  ⟨0x200200, 16, 0x8, 1, 0x0, .none, false, [ARM_PART_DEFINED, ARM_PART_IN_JOB, ARM_PART_UNITS, ARM_PART_ACTIVE]⟩,
  ⟨0x300000, 2, 0x8, 1, 0x0, .none, false, [HIF_CTL_AP_EN, HIF_CTL_MODE, HIF_CTL_SPEED_CAP]⟩,
  ⟨0x300010, 4, 0x8, 1, 0x0, .none, false, [HIF_LINK_UP, HIF_LINK_FLIT, HIF_LINK_SPEED, HIF_LINK_WIDTH, HIF_LINK_L0P_WIDTH, HIF_LINK_PM, HIF_LINK_IDE_LINK]⟩,
  ⟨0x300040, 1, 0x0, 1, 0x0, .none, false, [HIF_CPL_TO_TIMEOUT_US]⟩,
  ⟨0x300048, 1, 0x0, 1, 0x0, .none, false, [HIF_TAG_QUAR_STROKES]⟩,
  ⟨0x300050, 4, 0x8, 1, 0x0, .none, false, [HIF_TAG_STATUS_QUARANTINED, HIF_TAG_STATUS_IN_USE]⟩]
/-- Part of the register table, in offset order. -/
def table3 : List RegDef := [
  ⟨0x300070, 4, 0x10, 1, 0x0, .none, false, [HIF_TIMEOUT_CNT_SAT, HIF_TIMEOUT_CNT_COUNT]⟩,
  ⟨0x300078, 4, 0x10, 1, 0x0, .none, false, [HIF_LATE_CPL_SAT, HIF_LATE_CPL_COUNT]⟩,
  ⟨0x3000b0, 4, 0x8, 1, 0x0, .none, false, [HIF_RESET_LAST_KIND, HIF_RESET_LAST_RID, HIF_RESET_LAST_STROKE]⟩,
  ⟨0x3000d0, 1, 0x0, 1, 0x0, .none, false, [HIF_MGR_VACANT, HIF_MGR_AUTO_FAILOVER, HIF_MGR_STANDBY_READY, HIF_MGR_ACTIVE_AP, HIF_MGR_ACTIVE_PF, HIF_MGR_STANDBY_AP, HIF_MGR_STANDBY_PF, HIF_MGR_HB_LIMIT]⟩,
  ⟨0x3000d8, 1, 0x0, 1, 0x0, .none, false, [HIF_MGR_HB_BEAT]⟩,
  ⟨0x3000e0, 1, 0x0, 1, 0x0, .none, false, [HIF_MGR_CMD_HANDOVER, HIF_MGR_CMD_TAKEOVER]⟩,
  ⟨0x3000e8, 1, 0x0, 1, 0x0, .none, false, [HIF_STATUS_CPL_TIMEOUT, HIF_STATUS_LATE_CPL, HIF_STATUS_FAILOVER, HIF_STATUS_TDI_ERROR, HIF_STATUS_CXL_ERR, HIF_STATUS_LINK_CHANGE]⟩,
  ⟨0x3000f0, 1, 0x0, 1, 0x0, .none, false, [HIF_ATC_STATUS_INVAL_PENDING, HIF_ATC_STATUS_VALID]⟩,
  ⟨0x300100, 1, 0x0, 1, 0x0, .none, false, [HIF_FN_SEL_AP, HIF_FN_SEL_RID]⟩,
  ⟨0x300108, 1, 0x0, 1, 0x0, .fn, false, [HIF_FN_INFO_DSTATE, HIF_FN_INFO_FLR_BUSY, HIF_FN_INFO_TDI_STATE, HIF_FN_INFO_BME, HIF_FN_INFO_EXISTS, HIF_FN_INFO_CTO_RANGE, HIF_FN_INFO_NICHES, HIF_FN_INFO_EFF_TIMEOUT_US]⟩,
  ⟨0x300110, 1, 0x0, 1, 0x0, .none, false, [HIF_CXL_CXL_MODE, HIF_CXL_HDM0_COMMITTED, HIF_CXL_HDM1_COMMITTED, HIF_CXL_EXPORT_GIB, HIF_CXL_EXPORT_QTR, HIF_CXL_POISONED]⟩,
  ⟨0x300118, 1, 0x0, 1, 0x0, .none, false, [HIF_PCI_ID_VENDOR, HIF_PCI_ID_DEVICE_PF, HIF_PCI_ID_DEVICE_VF, HIF_PCI_ID_SUBSYSTEM]⟩,
  ⟨0x400000, 1, 0x0, 1, 0x0, .none, false, [NCH_CMD_GO, NCH_CMD_BUSY, NCH_CMD_OP, NCH_CMD_NICHE]⟩,
  ⟨0x400008, 1, 0x0, 1, 0x0, .none, false, [NCH_CMD_ADDR_ADDR]⟩,
  ⟨0x400010, 1, 0x0, 1, 0x0, .none, false, [NCH_CMD_ARG_ARG]⟩,
  ⟨0x400018, 1, 0x0, 1, 0x0, .none, false, [NCH_CMD_STATUS_STATUS, NCH_CMD_STATUS_OP, NCH_CMD_STATUS_NICHE, NCH_CMD_STATUS_STROKE]⟩,
  ⟨0x400020, 1, 0x0, 1, 0x0, .none, false, [NCH_SEL_RES, NCH_SEL_NICHE]⟩,
  ⟨0x400028, 1, 0x0, 1, 0x0, .niche, false, [NCH_INFO_STATE, NCH_INFO_BOUND, NCH_INFO_PASID_VALID, NCH_INFO_LOGGING, NCH_INFO_POOL, NCH_INFO_AP, NCH_INFO_PAGE, NCH_INFO_PASID, NCH_INFO_RID]⟩,
  ⟨0x400030, 1, 0x0, 1, 0x0, .nicheRes, false, [NCH_QUOTA_LIMIT, NCH_QUOTA_USED]⟩,
  ⟨0x400038, 1, 0x0, 1, 0x0, .none, false, [NCH_POOL_SEL_RES, NCH_POOL_SEL_POOL]⟩]
/-- Part of the register table, in offset order. -/
def table4 : List RegDef := [
  ⟨0x400040, 1, 0x0, 1, 0x0, .pool, false, [NCH_POOL_INFO_TOTAL, NCH_POOL_INFO_FREE]⟩,
  ⟨0x400048, 1, 0x0, 1, 0x0, .none, false, [NCH_STATUS_IN_USE, NCH_STATUS_SPOOF, NCH_STATUS_QUIESCED]⟩,
  ⟨0x400050, 1, 0x0, 1, 0x0, .none, false, [NCH_SPOOF_LAST_CHECK, NCH_SPOOF_LAST_NICHE, NCH_SPOOF_LAST_STROKE]⟩,
  ⟨0x400058, 1, 0x0, 1, 0x0, .none, false, [NCH_CNT_CLR_RX_DROP, NCH_CNT_CLR_SPOOF_DROP, NCH_CNT_CLR_NICHE]⟩,
  ⟨0x400060, 1, 0x0, 1, 0x0, .niche, false, [NCH_STACKED_BASE_MIB, NCH_STACKED_LEN_MIB]⟩,
  ⟨0x500000, 1, 0x0, 1, 0x0, .none, false, [RNG_CMD_GO, RNG_CMD_BUSY, RNG_CMD_OP]⟩,
  ⟨0x500008, 1, 0x0, 1, 0x0, .none, false, [RNG_CMD_ADDR_ADDR]⟩,
  ⟨0x500010, 1, 0x0, 1, 0x0, .none, false, [RNG_CMD_ARG_RESTART, RNG_CMD_ARG_RING]⟩,
  ⟨0x500018, 1, 0x0, 1, 0x0, .none, false, [RNG_CMD_STATUS_STATUS, RNG_CMD_STATUS_OP, RNG_CMD_STATUS_RING, RNG_CMD_STATUS_STROKE]⟩,
  ⟨0x500020, 1, 0x0, 1, 0x0, .none, false, [RNG_SEL_RING]⟩,
  ⟨0x500028, 1, 0x0, 1, 0x0, .ring, false, [RNG_INFO_STATE, RNG_INFO_IDLE, RNG_INFO_TYPE, RNG_INFO_RESIDENT, RNG_INFO_CONTROL, RNG_INFO_RECEIVE, RNG_INFO_UNORDERED, RNG_INFO_RX_TS, RNG_INFO_ARMED, RNG_INFO_STOPPED, RNG_INFO_SIZE_LOG2, RNG_INFO_NICHE, RNG_INFO_LINK]⟩,
  ⟨0x500030, 1, 0x0, 1, 0x0, .ring, false, [RNG_PTRS_PRODUCER, RNG_PTRS_CONSUMER, RNG_PTRS_HELD, RNG_PTRS_IN_FLIGHT]⟩,
  ⟨0x500038, 1, 0x0, 1, 0x0, .ring, true, [RNG_POLL_INTERVAL, RNG_POLL_POLL_MIN, RNG_POLL_POLL_MAX]⟩,
  ⟨0x500040, 1, 0x0, 1, 0x0, .ring, false, [RNG_RCNT_SAT, RNG_RCNT_COUNT]⟩,
  ⟨0x500048, 1, 0x0, 1, 0x0, .none, false, [RNG_MGR_NUDGE_RING]⟩,
  ⟨0x500050, 1, 0x0, 1, 0x0, .none, false, [RNG_MGR_CQ_REL_ARM, RNG_MGR_CQ_REL_COUNT, RNG_MGR_CQ_REL_RING]⟩,
  ⟨0x500058, 1, 0x0, 1, 0x0, .none, false, [RNG_MGR_EQ_REL_ARM, RNG_MGR_EQ_REL_COUNT, RNG_MGR_EQ_REL_RING]⟩,
  ⟨0x500060, 1, 0x0, 1, 0x0, .none, false, [RNG_STATUS_EVQ_LOST, RNG_STATUS_POLL_DEFER, RNG_STATUS_RING_ERR]⟩,
  ⟨0x500068, 1, 0x0, 1, 0x0, .none, false, [RNG_ERR_LAST_KIND, RNG_ERR_LAST_NICHE, RNG_ERR_LAST_RING, RNG_ERR_LAST_STROKE]⟩,
  ⟨0x500070, 1, 0x0, 1, 0x0, .ring, false, [RNG_BASE_BASE]⟩]
/-- Part of the register table, in offset order. -/
def table5 : List RegDef := [
  ⟨0x500100, 2, 0x8, 1, 0x0, .none, false, [RNG_POLL_BUDGET_BUDGET]⟩,
  ⟨0x500110, 2, 0x8, 1, 0x0, .none, false, [RNG_POLL_DEFER_SAT, RNG_POLL_DEFER_COUNT]⟩,
  ⟨0x500200, 1, 0x0, 1, 0x0, .none, false, [RNG_EVROUTE_SEL_EVENT_ID]⟩,
  ⟨0x500208, 1, 0x0, 1, 0x0, .evroute, false, [RNG_EVROUTE_TARGET, RNG_EVROUTE_DEST]⟩,
  ⟨0x600000, 64, 0x8, 1, 0x0, .none, true, [DMA_CH_CFG_EN, DMA_CH_CFG_PRIO]⟩,
  ⟨0x600200, 64, 0x8, 1, 0x0, .none, false, [DMA_CH_STAT_BUSY, DMA_CH_STAT_REPEAT, DMA_CH_STAT_PRIO, DMA_CH_STAT_NICHE, DMA_CH_STAT_RING, DMA_CH_STAT_TAG, DMA_CH_STAT_BUF]⟩,
  ⟨0x600400, 1, 0x0, 1, 0x0, .none, false, [DMA_NSEL_NICHE]⟩,
  ⟨0x600408, 1, 0x0, 1, 0x0, .dmaNiche, false, [DMA_NCFG_CH_MAX, DMA_NCFG_PRIO_CAP]⟩,
  ⟨0x600410, 1, 0x0, 1, 0x0, .none, false, [DMA_STATUS_CAP_CLAMP, DMA_STATUS_ERR]⟩,
  ⟨0x600418, 1, 0x0, 1, 0x0, .none, false, [DMA_ERR_LAST_STATUS, DMA_ERR_LAST_NICHE, DMA_ERR_LAST_RING, DMA_ERR_LAST_TAG]⟩,
  ⟨0x600420, 1, 0x0, 1, 0x0, .none, false, [DMA_ERR_CNT_SAT, DMA_ERR_CNT_COUNT]⟩,
  ⟨0x600440, 4, 0x8, 1, 0x0, .none, false, [DMA_BEATS_COUNT]⟩,
  ⟨0x800000, 96, 0x4000, 1, 0x0, .none, false, [TIL_INFO_ROLE, TIL_INFO_UNIT_STATE, TIL_INFO_DEBUG_HELD, TIL_INFO_PARTITION, TIL_INFO_SHARE_LOG2, TIL_INFO_ROW, TIL_INFO_COL, TIL_INFO_SB_THREADS, TIL_INFO_SB_MASK]⟩,
  ⟨0x800008, 96, 0x4000, 1, 0x0, .none, false, [TIL_STATUS_STAGED_DISCARD, TIL_STATUS_FAULT, TIL_STATUS_DEBUG]⟩,
  ⟨0x800010, 96, 0x4000, 1, 0x0, .none, true, [TIL_THR_PRIO_PRIO]⟩,
  ⟨0x800018, 96, 0x4000, 1, 0x0, .none, false, [TIL_THR_STATE_LO_STATE]⟩,
  ⟨0x800020, 96, 0x4000, 1, 0x0, .none, false, [TIL_THR_STATE_HI_STATE]⟩,
  ⟨0x800028, 96, 0x4000, 1, 0x0, .none, false, [TIL_WAITMON_PLINTH_ACTION, TIL_WAITMON_LIMIT]⟩,
  ⟨0x800030, 96, 0x4000, 1, 0x0, .none, false, [TIL_MEM_CODE_4K, TIL_MEM_SHARED_4K, TIL_MEM_PRIVATE_4K, TIL_MEM_SCRATCH_4K, TIL_MEM_CH_SLOTS]⟩,
  ⟨0x800040, 96, 0x4000, 16, 0x8, .none, false, [TIL_WAITGRP_DEFINED, TIL_WAITGRP_REPORTED, TIL_WAITGRP_COUNT, TIL_WAITGRP_MEMBERS]⟩]
/-- Part of the register table, in offset order. -/
def table6 : List RegDef := [
  ⟨0x8000c0, 96, 0x4000, 1, 0x0, .none, false, [TIL_FAULT_CNT_SAT, TIL_FAULT_CNT_COUNT]⟩,
  ⟨0x8000c8, 96, 0x4000, 1, 0x0, .none, false, [TIL_FAULT_LAST_CAUSE, TIL_FAULT_LAST_NICHE_CTX, TIL_FAULT_LAST_THREAD, TIL_FAULT_LAST_NICHE, TIL_FAULT_LAST_STROKE]⟩,
  ⟨0x8000d0, 96, 0x4000, 1, 0x0, .none, false, [TIL_OVR_CNT_SAT, TIL_OVR_CNT_COUNT]⟩,
  ⟨0x8000d8, 96, 0x4000, 1, 0x0, .none, false, [TIL_SB_PEAK_C3, TIL_SB_PEAK_C2, TIL_SB_PEAK_C1, TIL_SB_PEAK_C0]⟩,
  ⟨0x8000e0, 96, 0x4000, 1, 0x0, .none, false, [TIL_CH_SEL_CH]⟩,
  ⟨0x8000e8, 96, 0x4000, 1, 0x0, .chan, false, [TIL_CH_INFO_HW_WRITER, TIL_CH_INFO_NICHE_BEARING, TIL_CH_INFO_DEPTH, TIL_CH_INFO_LEVEL, TIL_CH_INFO_LOST]⟩,
  ⟨0x8000f0, 96, 0x4000, 1, 0x0, .none, false, [TIL_DBG_UNLOCKED, TIL_DBG_RIGHTS, TIL_DBG_HALTED]⟩,
  ⟨0xa00000, 1, 0x0, 1, 0x0, .none, false, [PRS_CMD_GO, PRS_CMD_BUSY, PRS_CMD_OP]⟩,
  ⟨0xa00008, 1, 0x0, 1, 0x0, .none, false, [PRS_CMD_ADDR_ADDR]⟩,
  ⟨0xa00010, 1, 0x0, 1, 0x0, .none, false, [PRS_CMD_ARG_TABLE, PRS_CMD_ARG_INDEX]⟩,
  ⟨0xa00018, 1, 0x0, 1, 0x0, .none, false, [PRS_CMD_STATUS_STATUS, PRS_CMD_STATUS_OP, PRS_CMD_STATUS_STROKE]⟩,
  ⟨0xa00020, 1, 0x0, 1, 0x0, .none, false, [PRS_VER_LIVE, PRS_VER_OLD, PRS_VER_OLD_LIVE, PRS_VER_COMMIT_PENDING, PRS_VER_VERSIONED, PRS_VER_STAGED, PRS_VER_COMMIT_STROKE]⟩,
  ⟨0xa00028, 1, 0x0, 1, 0x0, .none, false, [PRS_STATUS_STAGE_DISCARD, PRS_STATUS_RO_FULL, PRS_STATUS_RO_SKIP, PRS_STATUS_CL_DROP, PRS_STATUS_PARSE_EXC, PRS_STATUS_DEV_DROP]⟩,
  ⟨0xa00030, 1, 0x0, 1, 0x0, .none, false, [PRS_RO_CFG_SKIP_STROKES]⟩,
  ⟨0xa00038, 1, 0x0, 1, 0x0, .none, false, [PRS_RO_STATUS_PEAK, PRS_RO_STATUS_IN_FLIGHT]⟩,
  ⟨0xa00040, 1, 0x0, 1, 0x0, .none, false, [PRS_RO_SKIP_SAT, PRS_RO_SKIP_COUNT]⟩,
  ⟨0xa00048, 1, 0x0, 1, 0x0, .none, false, [PRS_RO_LATE_SAT, PRS_RO_LATE_COUNT]⟩,
  ⟨0xa00050, 1, 0x0, 1, 0x0, .none, false, [PRS_RO_LOST_SAT, PRS_RO_LOST_COUNT]⟩,
  ⟨0xa00058, 1, 0x0, 1, 0x0, .none, false, [PRS_SKIP_LAST_TILE, PRS_SKIP_LAST_DOMAIN, PRS_SKIP_LAST_SEQ]⟩,
  ⟨0xa00060, 1, 0x0, 1, 0x0, .none, false, [PRS_SPR_ELIGIBLE, PRS_SPR_LAST, PRS_SPR_ROUND]⟩]
/-- Part of the register table, in offset order. -/
def table7 : List RegDef := [
  ⟨0xa00068, 1, 0x0, 1, 0x0, .none, false, [PRS_CNT_SEL_INDEX]⟩,
  ⟨0xa00070, 1, 0x0, 1, 0x0, .prsCnt, false, [PRS_CNT_PKT_COUNT]⟩,
  ⟨0xa00078, 1, 0x0, 1, 0x0, .prsCnt, false, [PRS_CNT_BYTE_LO_BYTES]⟩,
  ⟨0xa00080, 1, 0x0, 1, 0x0, .prsCnt, false, [PRS_CNT_BYTE_HI_HIGH]⟩,
  ⟨0xa00088, 1, 0x0, 1, 0x0, .none, false, [PRS_EXC_LAST_CLUSTER, PRS_EXC_LAST_ENGINE, PRS_EXC_LAST_VERDICT, PRS_EXC_LAST_STROKE]⟩,
  ⟨0xa00090, 1, 0x0, 1, 0x0, .none, false, [PRS_TBL_SEL_TABLE]⟩,
  ⟨0xa00098, 1, 0x0, 1, 0x0, .prsTbl, false, [PRS_TBL_INFO_DEFINED, PRS_TBL_INFO_KIND, PRS_TBL_INFO_PIPE, PRS_TBL_INFO_FIRST_STAGE, PRS_TBL_INFO_STAGES, PRS_TBL_INFO_GROUPS, PRS_TBL_INFO_RULES]⟩,
  ⟨0xa000a0, 1, 0x0, 1, 0x0, .prsTbl, false, [PRS_TBL_CAP_DEFAULT_ACTION, PRS_TBL_CAP_DEFAULT_SET, PRS_TBL_CAP_KEY_LEN, PRS_TBL_CAP_CAPACITY]⟩,
  ⟨0xa000a8, 1, 0x0, 1, 0x0, .none, false, [PRS_DEV_DROP_SAT, PRS_DEV_DROP_COUNT]⟩,
  ⟨0xa000b0, 1, 0x0, 1, 0x0, .none, false, [PRS_DROP_LAST_REASON, PRS_DROP_LAST_NICHE, PRS_DROP_LAST_STROKE]⟩,
  ⟨0xa00100, 24, 0x8, 1, 0x0, .none, false, [PRS_CL_INFO_WORST_MIN, PRS_CL_INFO_DEPTH, PRS_CL_INFO_BUSY, PRS_CL_INFO_QUEUE]⟩,
  ⟨0xa00200, 24, 0x10, 1, 0x0, .none, false, [PRS_CL_DROP_SAT, PRS_CL_DROP_COUNT]⟩,
  ⟨0xa00208, 24, 0x10, 1, 0x0, .none, false, [PRS_CL_EXC_SAT, PRS_CL_EXC_COUNT]⟩,
  ⟨0xb00000, 1, 0x0, 1, 0x0, .none, false, [TBL_CMD_GO, TBL_CMD_BUSY, TBL_CMD_OP]⟩,
  ⟨0xb00008, 1, 0x0, 1, 0x0, .none, false, [TBL_CMD_ADDR_ADDR]⟩,
  ⟨0xb00010, 1, 0x0, 1, 0x0, .none, false, [TBL_CMD_ARG_SEED, TBL_CMD_ARG_SOURCE, TBL_CMD_ARG_FLUSH_MATCH, TBL_CMD_ARG_TABLE]⟩,
  ⟨0xb00018, 1, 0x0, 1, 0x0, .none, false, [TBL_CMD_STATUS_STATUS, TBL_CMD_STATUS_OP, TBL_CMD_STATUS_STROKE]⟩,
  ⟨0xb00020, 1, 0x0, 1, 0x0, .none, false, [TBL_SEL_TABLE]⟩,
  ⟨0xb00028, 1, 0x0, 1, 0x0, .tbl, false, [TBL_INFO_STACKED, TBL_INFO_TENANT, TBL_INFO_L2, TBL_INFO_SLOT128, TBL_INFO_DATA_HI, TBL_INFO_FILTER_BITS, TBL_INFO_STASH, TBL_INFO_LENGTHS, TBL_INFO_ENTRIES]⟩,
  ⟨0xb00030, 1, 0x0, 1, 0x0, .tbl, false, [TBL_CUCKOO_SEED, TBL_CUCKOO_STASH_WARN, TBL_CUCKOO_MAX_KICKS]⟩]
/-- Part of the register table, in offset order. -/
def table8 : List RegDef := [
  ⟨0xb00038, 1, 0x0, 1, 0x0, .tbl, true, [TBL_AGE_PERIOD]⟩,
  ⟨0xb00040, 1, 0x0, 1, 0x0, .tbl, false, [TBL_LOOKUPS_COUNT]⟩,
  ⟨0xb00048, 1, 0x0, 1, 0x0, .tbl, false, [TBL_HITS_COUNT]⟩,
  ⟨0xb00050, 1, 0x0, 1, 0x0, .tbl, false, [TBL_INS_FAIL_SAT, TBL_INS_FAIL_COUNT]⟩,
  ⟨0xb00058, 1, 0x0, 1, 0x0, .tbl, false, [TBL_AGED_SAT, TBL_AGED_COUNT]⟩,
  ⟨0xb00060, 1, 0x0, 1, 0x0, .tbl, false, [TBL_L2_CFG_LEARN, TBL_L2_CFG_HOST_LEARN, TBL_L2_CFG_STATIC_DROP, TBL_L2_CFG_MOVE_HOLD, TBL_L2_CFG_RATE]⟩,
  ⟨0xb00068, 1, 0x0, 1, 0x0, .tbl, false, [TBL_L2_ACT_NICHE_ACT_BASE, TBL_L2_ACT_PORT_ACT_BASE]⟩,
  ⟨0xb00070, 1, 0x0, 1, 0x0, .tbl, false, [TBL_L2_MOVES_SAT, TBL_L2_MOVES_COUNT]⟩,
  ⟨0xb00078, 1, 0x0, 1, 0x0, .tbl, false, [TBL_L2_FLAP_SAT, TBL_L2_FLAP_COUNT]⟩,
  ⟨0xb00080, 1, 0x0, 1, 0x0, .tbl, false, [TBL_L2_LEARN_DROP_SAT, TBL_L2_LEARN_DROP_COUNT]⟩,
  ⟨0xb00088, 1, 0x0, 1, 0x0, .tbl, false, [TBL_L2_STATIC_HIT_SAT, TBL_L2_STATIC_HIT_COUNT]⟩,
  ⟨0xb00090, 1, 0x0, 1, 0x0, .none, false, [TBL_REHASH_STATE, TBL_REHASH_TABLE, TBL_REHASH_COPIED]⟩,
  ⟨0xb00098, 1, 0x0, 1, 0x0, .none, false, [TBL_STATUS_LEARN_DROP, TBL_STATUS_L2_FLAP, TBL_STATUS_L2_MOVE, TBL_STATUS_REHASH_NEEDED]⟩,
  ⟨0xb000a0, 1, 0x0, 1, 0x0, .none, false, [TBL_NSEL_NICHE]⟩,
  ⟨0xb000a8, 1, 0x0, 1, 0x0, .tblNiche, false, [TBL_NCFG_ACT_BASE, TBL_NCFG_ACT_COUNT]⟩,
  ⟨0xc00000, 1, 0x0, 1, 0x0, .none, false, [SCH_CMD_GO, SCH_CMD_BUSY, SCH_CMD_OP]⟩,
  ⟨0xc00008, 1, 0x0, 1, 0x0, .none, false, [SCH_CMD_ADDR_ADDR]⟩,
  ⟨0xc00010, 1, 0x0, 1, 0x0, .none, false, [SCH_CMD_ARG_NICHE, SCH_CMD_ARG_PORT, SCH_CMD_ARG_LOCAL, SCH_CMD_ARG_INDEX]⟩,
  ⟨0xc00018, 1, 0x0, 1, 0x0, .none, false, [SCH_CMD_STATUS_STATUS, SCH_CMD_STATUS_OP, SCH_CMD_STATUS_STROKE]⟩,
  ⟨0xc00020, 1, 0x0, 1, 0x0, .none, false, [SCH_NODE_SEL_NODE]⟩]
/-- Part of the register table, in offset order. -/
def table9 : List RegDef := [
  ⟨0xc00028, 1, 0x0, 1, 0x0, .node, true, [SCH_NODE_CFG_DEFINED, SCH_NODE_CFG_SEAMLESS, SCH_NODE_CFG_RESET_TO, SCH_NODE_CFG_IDLE_ACCRUE, SCH_NODE_CFG_SHAPE_EN, SCH_NODE_CFG_MODE, SCH_NODE_CFG_PRIO, SCH_NODE_CFG_WEIGHT, SCH_NODE_CFG_PARENT, SCH_NODE_CFG_MAX_SDU]⟩,
  ⟨0xc00030, 1, 0x0, 1, 0x0, .node, true, [SCH_NODE_SHAPE_RATE, SCH_NODE_SHAPE_HI_LIMIT, SCH_NODE_SHAPE_LO_LIMIT]⟩,
  ⟨0xc00038, 1, 0x0, 1, 0x0, .node, false, [SCH_NODE_STATE_CREDIT, SCH_NODE_STATE_WAITING, SCH_NODE_STATE_GATE_OPEN, SCH_NODE_STATE_BACKLOG_KIB]⟩,
  ⟨0xc00040, 1, 0x0, 1, 0x0, .node, true, [SCH_QUEUE_CFG_NICHE, SCH_QUEUE_CFG_BOUND, SCH_QUEUE_CFG_LOCAL, SCH_QUEUE_CFG_QLIMIT_KIB, SCH_QUEUE_CFG_ECN_KIB]⟩,
  ⟨0xc00048, 1, 0x0, 1, 0x0, .node, false, [SCH_Q_DROP_SAT, SCH_Q_DROP_COUNT]⟩,
  ⟨0xc00050, 1, 0x0, 1, 0x0, .node, false, [SCH_Q_TX_PKT_COUNT]⟩,
  ⟨0xc00058, 1, 0x0, 1, 0x0, .node, false, [SCH_Q_TX_BYTE_LO_BYTES]⟩,
  ⟨0xc00060, 1, 0x0, 1, 0x0, .node, false, [SCH_Q_TX_BYTE_HI_HIGH]⟩,
  ⟨0xc00068, 1, 0x0, 1, 0x0, .none, false, [SCH_POL_SEL_POLICER]⟩,
  ⟨0xc00070, 1, 0x0, 1, 0x0, .policer, false, [SCH_POL_RATE_SECOND_RATE, SCH_POL_RATE_CIR]⟩,
  ⟨0xc00078, 1, 0x0, 1, 0x0, .policer, false, [SCH_POL_BURST_SECOND_BURST, SCH_POL_BURST_CBS]⟩,
  ⟨0xc00080, 1, 0x0, 1, 0x0, .policer, false, [SCH_POL_CFG_NICHE, SCH_POL_CFG_BOUND, SCH_POL_CFG_MODE, SCH_POL_CFG_APPLY]⟩,
  ⟨0xc00088, 1, 0x0, 1, 0x0, .policer, false, [SCH_POL_GREEN_COUNT]⟩,
  ⟨0xc00090, 1, 0x0, 1, 0x0, .policer, false, [SCH_POL_YELLOW_COUNT]⟩,
  ⟨0xc00098, 1, 0x0, 1, 0x0, .policer, false, [SCH_POL_RED_COUNT]⟩,
  ⟨0xc000a0, 1, 0x0, 1, 0x0, .none, false, [SCH_STATUS_SEAMLESS_USED, SCH_STATUS_SDU_DROP, SCH_STATUS_QUEUE_DROP, SCH_STATUS_GCL_SWITCH]⟩,
  ⟨0xc00100, 16, 0x8, 1, 0x0, .none, true, [SCH_PORT_CFG_GATE_EN, SCH_PORT_CFG_OVERHEAD, SCH_PORT_CFG_RATE_MBPS]⟩,
  ⟨0xc00180, 16, 0x8, 1, 0x0, .none, false, [SCH_GCL_STATUS_OPER_VALID, SCH_GCL_STATUS_PENDING, SCH_GCL_STATUS_BANK, SCH_GCL_STATUS_ENTRY, SCH_GCL_STATUS_CYCLE, SCH_GCL_STATUS_REMAIN, SCH_GCL_STATUS_GATES]⟩,
  ⟨0xc00200, 16, 0x8, 1, 0x0, .none, false, [SCH_GCL_PEND_SWITCH_TIME]⟩,
  ⟨0xc00280, 16, 0x8, 1, 0x0, .none, false, [SCH_SDU_DROP_SAT, SCH_SDU_DROP_COUNT]⟩]
/-- Part of the register table, in offset order. -/
def table10 : List RegDef := [
  ⟨0xd00000, 1, 0x0, 1, 0x0, .none, false, [TLT_CFG_UDP_PORT, TLT_CFG_EPOCH]⟩,
  ⟨0xd00008, 1, 0x0, 1, 0x0, .none, false, [TLT_HOLD_WRAP_HOLD, TLT_HOLD_EP_HOLD]⟩,
  ⟨0xd00010, 1, 0x0, 1, 0x0, .none, false, [TLT_RETRY_RTO_MAX, TLT_RETRY_RTO_DEFAULT, TLT_RETRY_LIMIT, TLT_RETRY_BUSY_LIMIT, TLT_RETRY_BUSY_BASE]⟩,
  ⟨0xd00018, 1, 0x0, 1, 0x0, .none, false, [TLT_STATUS_PEER_EPOCH, TLT_STATUS_LATE_FAIL, TLT_STATUS_RETRY_EXC, TLT_STATUS_RECALL_OVF, TLT_STATUS_TRK_FULL]⟩,
  ⟨0xd00020, 1, 0x0, 1, 0x0, .none, false, [TLT_CTX_EVICTED, TLT_CTX_ONDIE, TLT_CTX_RECALL_HELD]⟩,
  ⟨0xd00028, 1, 0x0, 1, 0x0, .none, false, [TLT_TRK_SEND_USED, TLT_TRK_RECV_USED]⟩,
  ⟨0xd00030, 1, 0x0, 1, 0x0, .none, false, [TLT_TRK_CAP_SEND_MAX, TLT_TRK_CAP_RECV_MAX]⟩,
  ⟨0xd00038, 1, 0x0, 1, 0x0, .none, false, [TLT_SPILL_ADDR_ADDR]⟩,
  ⟨0xd00040, 1, 0x0, 1, 0x0, .none, false, [TLT_SPILL_LEN_SLOTS]⟩,
  ⟨0xd00048, 1, 0x0, 1, 0x0, .none, false, [TLT_NSEL_NICHE]⟩,
  ⟨0xd00050, 1, 0x0, 1, 0x0, .tltNiche, false, [TLT_NCFG_HOST_TIER]⟩,
  ⟨0xd00058, 1, 0x0, 1, 0x0, .none, false, [TLT_PEER_SEL_DEVICE]⟩,
  ⟨0xd00060, 1, 0x0, 1, 0x0, .peerT, false, [TLT_PEER_INFO_KNOWN, TLT_PEER_INFO_PEER_EPOCH, TLT_PEER_INFO_PATHS, TLT_PEER_INFO_OUTSTANDING, TLT_PEER_INFO_RATE_MBPS]⟩,
  ⟨0xd00068, 1, 0x0, 1, 0x0, .peerT, true, [TLT_PEER_RTO_SRTT, TLT_PEER_RTO_RTO]⟩,
  ⟨0xd00070, 1, 0x0, 1, 0x0, .none, false, [TLT_NAK_LAST_STATUS, TLT_NAK_LAST_PEER, TLT_NAK_LAST_ENDPOINT, TLT_NAK_LAST_RECEIVED]⟩,
  ⟨0xd00080, 1, 0x0, 1, 0x0, .none, false, [TLT_NAK_TX_SAT, TLT_NAK_TX_COUNT]⟩,
  ⟨0xd00088, 1, 0x0, 1, 0x0, .none, false, [TLT_NAK_RX_SAT, TLT_NAK_RX_COUNT]⟩,
  ⟨0xd00090, 1, 0x0, 1, 0x0, .none, false, [TLT_RETX_SAT, TLT_RETX_COUNT]⟩,
  ⟨0xd00098, 1, 0x0, 1, 0x0, .none, false, [TLT_DUP_DROP_SAT, TLT_DUP_DROP_COUNT]⟩,
  ⟨0xd000a0, 1, 0x0, 1, 0x0, .none, false, [TLT_EPOCH_DROP_SAT, TLT_EPOCH_DROP_COUNT]⟩]
/-- Part of the register table, in offset order. -/
def table11 : List RegDef := [
  ⟨0xd000a8, 1, 0x0, 1, 0x0, .none, false, [TLT_RECALL_OVF_SAT, TLT_RECALL_OVF_COUNT]⟩,
  ⟨0xd000b0, 1, 0x0, 1, 0x0, .none, false, [TLT_RETRY_EXC_SAT, TLT_RETRY_EXC_COUNT]⟩,
  ⟨0xd000b8, 1, 0x0, 1, 0x0, .none, false, [TLT_LATE_FAIL_SAT, TLT_LATE_FAIL_COUNT]⟩,
  ⟨0xd000c0, 1, 0x0, 1, 0x0, .none, false, [TLT_WIN_DROP_SAT, TLT_WIN_DROP_COUNT]⟩,
  ⟨0xd000c8, 1, 0x0, 1, 0x0, .none, false, [TLT_CSUM_DROP_SAT, TLT_CSUM_DROP_COUNT]⟩,
  ⟨0xd000d0, 1, 0x0, 1, 0x0, .none, false, [TLT_RECALLS_COUNT]⟩,
  ⟨0xd000d8, 1, 0x0, 1, 0x0, .none, false, [TLT_TX_PKT_COUNT]⟩,
  ⟨0xd000e0, 1, 0x0, 1, 0x0, .none, false, [TLT_RX_PKT_COUNT]⟩,
  ⟨0xd000e8, 1, 0x0, 1, 0x0, .none, false, [TLT_TX_BYTE_LO_BYTES]⟩,
  ⟨0xd000f0, 1, 0x0, 1, 0x0, .none, false, [TLT_TX_BYTE_HI_HIGH]⟩,
  ⟨0xd000f8, 1, 0x0, 1, 0x0, .none, false, [TLT_RX_BYTE_LO_BYTES]⟩,
  ⟨0xd00100, 1, 0x0, 1, 0x0, .none, false, [TLT_RX_BYTE_HI_HIGH]⟩,
  ⟨0xe00000, 1, 0x0, 1, 0x0, .none, false, [NVS_CMD_GO, NVS_CMD_BUSY, NVS_CMD_OP]⟩,
  ⟨0xe00008, 1, 0x0, 1, 0x0, .none, false, [NVS_CMD_ADDR_ADDR]⟩,
  ⟨0xe00010, 1, 0x0, 1, 0x0, .none, false, [NVS_CMD_ARG_NS, NVS_CMD_ARG_CTRL, NVS_CMD_ARG_NSID]⟩,
  ⟨0xe00018, 1, 0x0, 1, 0x0, .none, false, [NVS_CMD_STATUS_STATUS, NVS_CMD_STATUS_OP, NVS_CMD_STATUS_OBJECT, NVS_CMD_STATUS_STROKE]⟩,
  ⟨0xe00020, 1, 0x0, 1, 0x0, .none, true, [NVS_FETCH_BUDGET]⟩,
  ⟨0xe00028, 1, 0x0, 1, 0x0, .none, false, [NVS_STATUS_FW_PENDING, NVS_STATUS_ERR]⟩,
  ⟨0xe00030, 1, 0x0, 1, 0x0, .none, false, [NVS_CTRL_SEL_CTRL]⟩,
  ⟨0xe00038, 1, 0x0, 1, 0x0, .ctrl, false, [NVS_CTRL_INFO_STATE, NVS_CTRL_INFO_FW_PENDING, NVS_CTRL_INFO_SELFTEST, NVS_CTRL_INFO_AP, NVS_CTRL_INFO_NICHE, NVS_CTRL_INFO_IO_SQS, NVS_CTRL_INFO_RID, NVS_CTRL_INFO_MAX_IO]⟩]
/-- Part of the register table, in offset order. -/
def table12 : List RegDef := [
  ⟨0xe00040, 1, 0x0, 1, 0x0, .ctrl, false, [NVS_CTRL_CFG_EDSTT]⟩,
  ⟨0xe00048, 1, 0x0, 1, 0x0, .ctrl, false, [NVS_CTRL_FW_BASE_MIB, NVS_CTRL_FW_SIZE_MIB]⟩,
  ⟨0xe00050, 1, 0x0, 1, 0x0, .none, false, [NVS_NS_SEL_NS]⟩,
  ⟨0xe00058, 1, 0x0, 1, 0x0, .ns, false, [NVS_NS_INFO_DEFINED, NVS_NS_INFO_ATTACHED, NVS_NS_INFO_BACKEND, NVS_NS_INFO_PI_TYPE, NVS_NS_INFO_GUARD64, NVS_NS_INFO_LBADS, NVS_NS_INFO_MS, NVS_NS_INFO_CTRL, NVS_NS_INFO_NSID, NVS_NS_INFO_NICHE]⟩,
  ⟨0xe00060, 1, 0x0, 1, 0x0, .ns, false, [NVS_NS_SIZE_NSZE]⟩,
  ⟨0xe00068, 1, 0x0, 1, 0x0, .none, false, [NVS_ERR_LAST_STATUS, NVS_ERR_LAST_NVME_STATUS, NVS_ERR_LAST_CTRL, NVS_ERR_LAST_CID, NVS_ERR_LAST_SQID]⟩,
  ⟨0xe00070, 1, 0x0, 1, 0x0, .none, false, [NVS_ERR_CNT_SAT, NVS_ERR_CNT_COUNT]⟩,
  ⟨0xe00078, 1, 0x0, 1, 0x0, .ctrl, false, [NVS_CMD_CNT_COUNT]⟩,
  ⟨0xe00080, 1, 0x0, 1, 0x0, .none, false, [NVS_INFLIGHT_PEAK, NVS_INFLIGHT_IN_USE]⟩,
  ⟨0xf00000, 18, 0x8, 1, 0x0, .none, false, [ACC_SLICE_UNIT_STATE, ACC_SLICE_INLINE, ACC_SLICE_LOAD_PCT, ACC_SLICE_QUEUED]⟩,
  ⟨0xf00100, 1, 0x0, 1, 0x0, .none, true, [ACC_CFG_RING_MIN]⟩,
  ⟨0xf00108, 1, 0x0, 1, 0x0, .none, false, [ACC_STATUS_KEYSTORE_FULL, ACC_STATUS_INLINE_DROP, ACC_STATUS_ERR]⟩,
  ⟨0xf00110, 1, 0x0, 1, 0x0, .none, false, [ACC_KEYS_USED, ACC_KEYS_CACHED]⟩,
  ⟨0xf00118, 1, 0x0, 1, 0x0, .none, false, [ACC_ERR_LAST_STATUS, ACC_ERR_LAST_NICHE, ACC_ERR_LAST_SLICE, ACC_ERR_LAST_REASON, ACC_ERR_LAST_STROKE]⟩,
  ⟨0xf00120, 1, 0x0, 1, 0x0, .none, false, [ACC_ERR_CNT_SAT, ACC_ERR_CNT_COUNT]⟩,
  ⟨0xf00140, 7, 0x8, 1, 0x0, .none, false, [ACC_INLINE_DROP_SAT, ACC_INLINE_DROP_COUNT]⟩,
  ⟨0xf00180, 1, 0x0, 1, 0x0, .none, true, [ACC_SCRUB_BLOCKS]⟩,
  ⟨0x1000000, 1, 0x0, 1, 0x0, .none, false, [FAB_CMD_GO, FAB_CMD_BUSY, FAB_CMD_OP]⟩,
  ⟨0x1000008, 1, 0x0, 1, 0x0, .none, false, [FAB_CMD_ADDR_ADDR]⟩,
  ⟨0x1000010, 1, 0x0, 1, 0x0, .none, false, [FAB_CMD_ARG_AP, FAB_CMD_ARG_RID, FAB_CMD_ARG_SLOT, FAB_CMD_ARG_REOPEN, FAB_CMD_ARG_ENTRY, FAB_CMD_ARG_INDEX, FAB_CMD_ARG_SEG]⟩]
/-- Part of the register table, in offset order. -/
def table13 : List RegDef := [
  ⟨0x1000018, 1, 0x0, 1, 0x0, .none, false, [FAB_CMD_STATUS_STATUS, FAB_CMD_STATUS_OP, FAB_CMD_STATUS_OBJECT, FAB_CMD_STATUS_STROKE]⟩,
  ⟨0x1000020, 1, 0x0, 1, 0x0, .none, false, [FAB_CFG_FABRIC_ID, FAB_CFG_PRIORITY, FAB_CFG_MODE, FAB_CFG_ENABLE, FAB_CFG_RMGMT_ALLOW, FAB_CFG_ID_STATIC, FAB_CFG_POOL_QUEUE]⟩,
  ⟨0x1000028, 1, 0x0, 1, 0x0, .none, false, [FAB_ID_VALID, FAB_ID_COORD_KNOWN, FAB_ID_ROLE, FAB_ID_COORD_ID, FAB_ID_STATIC_ID, FAB_ID_ID]⟩,
  ⟨0x1000030, 1, 0x0, 1, 0x0, .none, true, [FAB_TIMING_HELLO_PERIOD, FAB_TIMING_DEAD_HELLOS, FAB_TIMING_ELECT_WAIT, FAB_TIMING_PROBE_PERIOD, FAB_TIMING_SILENT]⟩,
  ⟨0x1000038, 1, 0x0, 1, 0x0, .none, true, [FAB_PATHCFG_PROBE_RETRY, FAB_PATHCFG_DOWN_MISSES, FAB_PATHCFG_RESPRAY_LIMIT, FAB_PATHCFG_REVIVE, FAB_PATHCFG_APT_TIMEOUT_US, FAB_PATHCFG_PATHS_PER_PEER]⟩,
  ⟨0x1000040, 1, 0x0, 1, 0x0, .none, false, [FAB_UL_ADDR_LO_ADDR]⟩,
  ⟨0x1000048, 1, 0x0, 1, 0x0, .none, false, [FAB_UL_ADDR_HI_ADDR]⟩,
  ⟨0x1000050, 1, 0x0, 1, 0x0, .none, false, [FAB_STATUS_ID_REFUSED, FAB_STATUS_FOREIGN_HELLO, FAB_STATUS_GRANT_DROP, FAB_STATUS_TRANSIT_DROP, FAB_STATUS_PATH_DOWN, FAB_STATUS_PEER_DOWN, FAB_STATUS_COORD_CHANGE]⟩,
  ⟨0x1000058, 1, 0x0, 1, 0x0, .none, false, [FAB_MEMBERS_VERSION, FAB_MEMBERS_COUNT]⟩,
  ⟨0x1000060, 1, 0x0, 1, 0x0, .none, false, [FAB_PEER_SEL_DEVICE]⟩,
  ⟨0x1000068, 1, 0x0, 1, 0x0, .peer, false, [FAB_PEER_INFO_PRESENT, FAB_PEER_INFO_NEIGHBOUR, FAB_PEER_INFO_PATHS_UP, FAB_PEER_INFO_PATHS, FAB_PEER_INFO_HOPS]⟩,
  ⟨0x1000070, 1, 0x0, 1, 0x0, .peer, false, [FAB_PEER_UID_VALUE]⟩,
  ⟨0x1000078, 1, 0x0, 1, 0x0, .none, false, [FAB_PATH_SEL_PATH]⟩,
  ⟨0x1000080, 1, 0x0, 1, 0x0, .path, false, [FAB_PATH_INFO_STATE, FAB_PATH_INFO_MAC, FAB_PATH_INFO_TEMPLATE, FAB_PATH_INFO_WEIGHT, FAB_PATH_INFO_UDP_SPORT, FAB_PATH_INFO_MISSES, FAB_PATH_INFO_RESPRAYS]⟩,
  ⟨0x1000088, 1, 0x0, 1, 0x0, .none, false, [FAB_SEG_SEL_SEG]⟩,
  ⟨0x1000090, 1, 0x0, 1, 0x0, .seg, false, [FAB_SEG_INFO_STATE, FAB_SEG_INFO_RIGHTS, FAB_SEG_INFO_NICHE, FAB_SEG_INFO_SIZE_2M]⟩,
  ⟨0x1000098, 1, 0x0, 1, 0x0, .seg, false, [FAB_SEG_KEY_KEY]⟩,
  ⟨0x10000a0, 1, 0x0, 1, 0x0, .seg, false, [FAB_SEG_ADDR_VALUE]⟩,
  ⟨0x10000a8, 1, 0x0, 1, 0x0, .none, false, [FAB_RMT_ADDR_ADDR]⟩,
  ⟨0x10000b0, 1, 0x0, 1, 0x0, .none, false, [FAB_RMT_DATA_DATA]⟩]
/-- Part of the register table, in offset order. -/
def table14 : List RegDef := [
  ⟨0x10000b8, 1, 0x0, 1, 0x0, .none, false, [FAB_RMGMT_FIRST_DEV, FAB_RMGMT_LAST_DEV]⟩,
  ⟨0x10000c0, 1, 0x0, 1, 0x0, .none, false, [FAB_TRANSIT_DROP_SAT, FAB_TRANSIT_DROP_COUNT]⟩,
  ⟨0x10000c8, 1, 0x0, 1, 0x0, .none, false, [FAB_GRANT_DROP_SAT, FAB_GRANT_DROP_COUNT]⟩,
  ⟨0x10000d0, 1, 0x0, 1, 0x0, .none, false, [FAB_PATH_DOWN_CNT_SAT, FAB_PATH_DOWN_CNT_COUNT]⟩,
  ⟨0x10000d8, 1, 0x0, 1, 0x0, .none, false, [FAB_FOREIGN_HELLO_SAT, FAB_FOREIGN_HELLO_COUNT]⟩,
  ⟨0x10000e0, 1, 0x0, 1, 0x0, .none, false, [FAB_APT_ERR_SAT, FAB_APT_ERR_COUNT]⟩,
  ⟨0x10000e8, 1, 0x0, 1, 0x0, .none, false, [FAB_TRANSIT_PKT_COUNT]⟩,
  ⟨0x10000f0, 1, 0x0, 1, 0x0, .none, false, [FAB_POOL_OPS_COUNT]⟩,
  ⟨0x1000100, 16, 0x8, 1, 0x0, .none, true, [FAB_PORT_FABRIC, FAB_PORT_NEIGHBOUR_VALID, FAB_PORT_NEIGHBOUR, FAB_PORT_TRANSIT_QUEUE]⟩,
  ⟨0x1100000, 1, 0x0, 1, 0x0, .none, false, [RGL_CTL_FROZEN, RGL_CTL_JNL_STROKES]⟩,
  ⟨0x1100008, 1, 0x0, 1, 0x0, .none, false, [RGL_ADV_ADDR_ADDR]⟩,
  ⟨0x1100010, 1, 0x0, 1, 0x0, .none, false, [RGL_ADV_MASK_MASK]⟩,
  ⟨0x1100018, 1, 0x0, 1, 0x0, .none, false, [RGL_ADV_ACCEPT_GO, RGL_ADV_ACCEPT_LOOP, RGL_ADV_ACCEPT_RUN]⟩,
  ⟨0x1100020, 1, 0x0, 1, 0x0, .none, false, [RGL_ADV_STATUS_RESULT, RGL_ADV_STATUS_APPLIED, RGL_ADV_STATUS_STROKE]⟩,
  ⟨0x1100028, 1, 0x0, 1, 0x0, .none, false, [RGL_STATUS_ADVICE, RGL_STATUS_CLAMP, RGL_STATUS_SKIP]⟩,
  ⟨0x1100030, 1, 0x0, 1, 0x0, .none, false, [RGL_ADMIT_RES_INTAKE, RGL_ADMIT_POLL_H0, RGL_ADMIT_POLL_H1, RGL_ADMIT_NVS_FETCH]⟩,
  ⟨0x1100038, 1, 0x0, 1, 0x0, .none, false, [RGL_POWER_CONTROL_MHZ, RGL_POWER_GATED]⟩,
  ⟨0x1100040, 1, 0x0, 1, 0x0, .none, false, [RGL_BE_SEL_ENTRY]⟩,
  ⟨0x1100048, 1, 0x0, 1, 0x0, .beEntry, false, [RGL_BE_ENTRY_VALID, RGL_BE_ENTRY_NODE, RGL_BE_ENTRY_MIN_MBPS, RGL_BE_ENTRY_MAX_MBPS]⟩,
  ⟨0x1100100, 8, 0x20, 1, 0x0, .none, true, [RGL_LOOP_CFG_MODE, RGL_LOOP_CFG_MAX_CHANGES, RGL_LOOP_CFG_PARAM, RGL_LOOP_CFG_PERIOD]⟩]
/-- Part of the register table, in offset order. -/
def table15 : List RegDef := [
  ⟨0x1100108, 8, 0x20, 1, 0x0, .none, false, [RGL_LOOP_STAT_LAST_CHANGES, RGL_LOOP_STAT_SKIPPED, RGL_LOOP_STAT_RUN]⟩,
  ⟨0x1100110, 8, 0x20, 1, 0x0, .none, true, [RGL_ENV_MAX, RGL_ENV_MIN]⟩,
  ⟨0x1100118, 8, 0x20, 1, 0x0, .none, false, [RGL_OUTER_MAX, RGL_OUTER_MIN]⟩,
  ⟨0x1200000, 1, 0x0, 1, 0x0, .none, false, [JNL_EPOCH_PREV_EPOCH, JNL_EPOCH_EPOCH]⟩,
  ⟨0x1200008, 1, 0x0, 1, 0x0, .none, false, [JNL_HEAD_SEQ]⟩,
  ⟨0x1200010, 1, 0x0, 1, 0x0, .none, false, [JNL_OLDEST_SEQ]⟩,
  ⟨0x1200018, 1, 0x0, 1, 0x0, .none, false, [JNL_CKPT_SEQ]⟩,
  ⟨0x1200020, 1, 0x0, 1, 0x0, .none, false, [JNL_ACK_ACK]⟩,
  ⟨0x1200028, 1, 0x0, 1, 0x0, .none, false, [JNL_CFG_LAG_WARN]⟩,
  ⟨0x1200030, 1, 0x0, 1, 0x0, .none, false, [JNL_CMD_GO, JNL_CMD_BUSY, JNL_CMD_OP]⟩,
  ⟨0x1200038, 1, 0x0, 1, 0x0, .none, false, [JNL_CMD_ADDR_ADDR]⟩,
  ⟨0x1200040, 1, 0x0, 1, 0x0, .none, false, [JNL_CMD_ARG_START]⟩,
  ⟨0x1200048, 1, 0x0, 1, 0x0, .none, false, [JNL_CMD_COUNT_COUNT]⟩,
  ⟨0x1200050, 1, 0x0, 1, 0x0, .none, false, [JNL_CMD_STATUS_STATUS, JNL_CMD_STATUS_OP, JNL_CMD_STATUS_STROKE]⟩,
  ⟨0x1200058, 1, 0x0, 1, 0x0, .none, false, [JNL_STATUS_PREV_VALID, JNL_STATUS_MEDIA, JNL_STATUS_OVERRUN, JNL_STATUS_LAG, JNL_STATUS_REGION_READY]⟩,
  ⟨0x1200060, 1, 0x0, 1, 0x0, .none, false, [JNL_PREV_HEAD_SEQ]⟩,
  ⟨0x1200068, 1, 0x0, 1, 0x0, .none, false, [JNL_MARK_SEQ_SEQ]⟩,
  ⟨0x1200070, 1, 0x0, 1, 0x0, .none, false, [JNL_MEDIA_CNT_SAT, JNL_MEDIA_CNT_COUNT]⟩,
  ⟨0x1300000, 1, 0x0, 1, 0x0, .none, false, [PAT_HEAD_SEQ]⟩,
  ⟨0x1300008, 1, 0x0, 1, 0x0, .none, false, [PAT_OLDEST_SEQ]⟩]
/-- Part of the register table, in offset order. -/
def table16 : List RegDef := [
  ⟨0x1300010, 1, 0x0, 1, 0x0, .none, false, [PAT_CFG_EVENT_SEV]⟩,
  ⟨0x1300018, 1, 0x0, 1, 0x0, .none, false, [PAT_STATUS_CNT_SAT, PAT_STATUS_PINNED_FULL, PAT_STATUS_PINNED, PAT_STATUS_NEW_ENTRY]⟩,
  ⟨0x1300020, 1, 0x0, 1, 0x0, .none, false, [PAT_PIN_INFO_OVERFLOW, PAT_PIN_INFO_USED]⟩,
  ⟨0x1300028, 1, 0x0, 1, 0x0, .accessor, false, [PAT_RD_SEL_PINNED, PAT_RD_SEL_INDEX]⟩,
  ⟨0x1300030, 4, 0x8, 1, 0x0, .accessor, false, [PAT_RD_DATA]⟩,
  ⟨0x1300050, 1, 0x0, 1, 0x0, .none, false, [PAT_SAT_LAST_STROKE, PAT_SAT_LAST_NICHE_PAGE, PAT_SAT_LAST_OFFSET]⟩,
  ⟨0x1400000, 1, 0x0, 1, 0x0, .none, false, [SVC_CMD_GO, SVC_CMD_BUSY, SVC_CMD_OP]⟩,
  ⟨0x1400010, 1, 0x0, 1, 0x0, .none, false, [SVC_CMD_ARG_KIND, SVC_CMD_ARG_INDEX, SVC_CMD_ARG_DISCARD, SVC_CMD_ARG_NO_SUBST, SVC_CMD_ARG_STANDBY, SVC_CMD_ARG_ROW]⟩,
  ⟨0x1400018, 1, 0x0, 1, 0x0, .none, false, [SVC_CMD_STATUS_STATUS, SVC_CMD_STATUS_OP, SVC_CMD_STATUS_STROKE]⟩,
  ⟨0x1400020, 1, 0x0, 1, 0x0, .none, false, [SVC_CTL_AUTO_HOLD, SVC_CTL_AUTO_SUBST, SVC_CTL_AUTO_SPARE, SVC_CTL_AUTO_RETIRE, SVC_CTL_RECOVERY_HOLD, SVC_CTL_RECOVERY_MAX, SVC_CTL_SPARE_GBPS, SVC_CTL_DRAIN_LIMIT]⟩,
  ⟨0x1400028, 1, 0x0, 1, 0x0, .none, false, [SVC_STATUS_PLINTH, SVC_STATUS_AVAIL_LOST, SVC_STATUS_RECOVERY, SVC_STATUS_SPARE, SVC_STATUS_PROBATION_FAIL, SVC_STATUS_UNIT_CHANGE]⟩,
  ⟨0x1400030, 1, 0x0, 1, 0x0, .none, false, [SVC_UNIT_SEL_KIND, SVC_UNIT_SEL_INDEX]⟩,
  ⟨0x1400038, 1, 0x0, 1, 0x0, .unit, false, [SVC_UNIT_INFO_STATE, SVC_UNIT_INFO_TEST, SVC_UNIT_INFO_FAILS, SVC_UNIT_INFO_LOGICAL, SVC_UNIT_INFO_CAUSE, SVC_UNIT_INFO_STROKE]⟩,
  ⟨0x1400040, 4, 0x8, 1, 0x0, .none, false, [SVC_SPARE_STATE, SVC_SPARE_SPARE, SVC_SPARE_TARGET, SVC_SPARE_COPIED_MIB]⟩,
  ⟨0x1400060, 1, 0x0, 1, 0x0, .none, false, [SVC_RECOVERY_ENTRIES, SVC_RECOVERY_CAUSE, SVC_RECOVERY_STROKES]⟩,
  ⟨0x1400068, 1, 0x0, 1, 0x0, .none, false, [SVC_AVAIL_STANDBY_COUNT, SVC_AVAIL_ALL_MET, SVC_AVAIL_SPARES, SVC_AVAIL_PORTS, SVC_AVAIL_STANDBY_MGR, SVC_AVAIL_HOSTS, SVC_AVAIL_STANDBY_TILES]⟩,
  ⟨0x1400070, 1, 0x0, 1, 0x0, .none, false, [SVC_LIMITS_CE_LIMIT, SVC_LIMITS_RECOVERY_MIN]⟩,
  ⟨0x1400078, 1, 0x0, 1, 0x0, .none, false, [SVC_PLINTH_SWITCHING, SVC_PLINTH_SLOT, SVC_PLINTH_RESULT, SVC_PLINTH_LOCKSTEP, SVC_PLINTH_STROKE]⟩,
  ⟨0x1500000, 1, 0x0, 1, 0x0, .none, false, [PWR_CMD_GO, PWR_CMD_BUSY, PWR_CMD_OP]⟩,
  ⟨0x1500018, 1, 0x0, 1, 0x0, .none, false, [PWR_CMD_STATUS_STATUS, PWR_CMD_STATUS_OP, PWR_CMD_STATUS_STROKE]⟩]
/-- Part of the register table, in offset order. -/
def table17 : List RegDef := [
  ⟨0x1500020, 1, 0x0, 1, 0x0, .none, false, [PWR_SEQ_READY, PWR_SEQ_WAITING, PWR_SEQ_STEP, PWR_SEQ_STEP_STROKES]⟩,
  ⟨0x1500028, 1, 0x0, 1, 0x0, .none, false, [PWR_STATE_PSTATE, PWR_STATE_LEVEL, PWR_STATE_TEMP_LEVEL, PWR_STATE_POWER_LEVEL]⟩,
  ⟨0x1500030, 1, 0x0, 1, 0x0, .none, false, [PWR_CAP_WATTS]⟩,
  ⟨0x1500038, 1, 0x0, 1, 0x0, .none, false, [PWR_THERM_T_CRIT, PWR_THERM_T_THROTTLE, PWR_THERM_HYST]⟩,
  ⟨0x1500040, 1, 0x0, 1, 0x0, .none, false, [PWR_TEMP_DIODE1, PWR_TEMP_DIODE0, PWR_TEMP_HOT_SENSOR, PWR_TEMP_PEAK, PWR_TEMP_HOTTEST]⟩,
  ⟨0x1500048, 1, 0x0, 1, 0x0, .none, false, [PWR_POWER_PEAK_W, PWR_POWER_AVG_W]⟩,
  ⟨0x1500050, 1, 0x0, 1, 0x0, .none, false, [PWR_LP_WAKE_PORTS]⟩,
  ⟨0x1500058, 1, 0x0, 1, 0x0, .none, false, [PWR_STATUS_PSTATE, PWR_STATUS_THROTTLE, PWR_STATUS_CAP_OVER, PWR_STATUS_CRIT, PWR_STATUS_READY]⟩,
  ⟨0x1500060, 1, 0x0, 1, 0x0, .none, false, [PWR_THROTTLE_CNT_SAT, PWR_THROTTLE_CNT_COUNT]⟩,
  ⟨0x1500068, 1, 0x0, 1, 0x0, .none, false, [PWR_LP_DROP_SAT, PWR_LP_DROP_COUNT]⟩,
  ⟨0x2000000, 4096, 0x10000, 1, 0x0, .none, false, [NCH_PG_STATUS_RESET_COUNT, NCH_PG_STATUS_STATE, NCH_PG_STATUS_NICHE]⟩,
  ⟨0x2000008, 4096, 0x10000, 1, 0x0, .none, false, [NCH_PG_SPOOF_DROP_SAT, NCH_PG_SPOOF_DROP_COUNT]⟩,
  ⟨0x2000010, 4096, 0x10000, 1, 0x0, .none, false, [NCH_PG_RX_DROP_SAT, NCH_PG_RX_DROP_COUNT]⟩,
  ⟨0x2001000, 4096, 0x10000, 1, 0x0, .none, false, [NCH_PG_NUDGE_RING]⟩,
  ⟨0x2001008, 4096, 0x10000, 1, 0x0, .none, false, [NCH_PG_CQ_REL_ARM, NCH_PG_CQ_REL_COUNT, NCH_PG_CQ_REL_RING]⟩,
  ⟨0x2001010, 4096, 0x10000, 1, 0x0, .none, false, [NCH_PG_EQ_REL_ARM, NCH_PG_EQ_REL_COUNT, NCH_PG_EQ_REL_RING]⟩]
/-- Every register of the spec, in offset order. -/
def table : List RegDef :=
  table0 ++ table1 ++ table2 ++ table3 ++ table4 ++ table5 ++ table6 ++ table7 ++ table8 ++ table9 ++ table10 ++ table11 ++ table12 ++ table13 ++ table14 ++ table15 ++ table16 ++ table17

end Sys2Proof.Machine.Reg
end

