-- ==== Sys2Proof/Machine/State.lean ====
section
/-!
DEFINITION. The state of the block as plain data: every register field (in one sparse
map from field to value, an unlisted field reading its reset value), the device memory,
the state behind the registers block by block, the changes that wait for a boundary,
what has left the block, and the queue of waiting commands.
-/
namespace Sys2Proof.Machine

/-- What an occurrence of an event concerns (R273): the device, a work or completion
ring through whose LINK it goes, or an event ring itself. -/
inductive EvTarget where
  | device
  | ring (r : Nat)
  | eventRing (r : Nat)
  deriving DecidableEq, Repr

/-- R274: the occurrences of one event for one object within the running stroke. -/
structure EvOcc where
  id : Nat
  obj : Nat
  target : EvTarget
  count : Nat
  time : Nat
  data : Nat
  deriving DecidableEq, Repr

/-- R710: one journal entry; body is the 28 bytes 32 to 59 as a little-endian number. -/
structure JEntry where
  seq : Nat
  epoch : Nat
  kind : Nat
  role : Role
  flags : Nat
  time : Nat
  niche : Nat
  origin : Origin
  ap : Nat
  originId : Nat
  status : Nat
  body : Nat
  deriving DecidableEq, Repr

/-- R722: one patina entry. -/
structure PEntry where
  seq : Nat
  severity : Nat
  pinned : Bool
  merged : Bool
  noTime : Bool
  time : Nat
  code : Nat
  count : Nat
  epoch : Nat
  detail : Nat
  deriving DecidableEq, Repr

/-- R705 to R719: the journal. `log` is the running epoch's entries, newest first, as
far as the region reaches; the tail cache is its 4 096 newest. -/
structure Jnl where
  log : List JEntry
  prevTail : List JEntry
  prevHead : Nat
  lastEpoch : Nat
  chain : Nat
  lagRaised : Bool
  counterLatch : Map Nat
  deriving DecidableEq, Repr

/-- R721 to R726: the patina log, newest first, its pinned entries, oldest first, and the
latch of each accessor. -/
structure Pat where
  ring : List PEntry
  pinned : List PEntry
  latch : Map Nat
  deriving DecidableEq, Repr

/-- A command of a command register (R828) that has been accepted and not yet completed:
its operation, its issuer, the object, its argument, and the descriptor it read. -/
structure CmdPend where
  op : Nat
  who : Issuer
  niche : Nat
  obj : Nat
  arg : Nat
  param : Nat
  param2 : Nat
  desc : Option (Nat × Nat)
  deriving DecidableEq, Repr

/-- R168, R170, R172, R184, R653: what the device reports through AER. -/
inductive AerError where
  | completionTimeout | unexpectedCompletion | poisonedTlp | ideCheckFailed | completerAbort
  deriving DecidableEq, Repr

/-- What leaves the block: writes and messages on its host links, frames on its ports,
messages on its management interface, Turelm packets and fabric messages. A host read names its tag: the tag's purpose says what it
reads. A readiness message of the whole device (R789) has RID 65536. -/
inductive Out where
  | hostWrite (ap rid pasid addr : Nat) (data : List Byte)
  | hostRead (ap rid pasid tag : Nat)
  | msix (ap rid vector : Nat)
  | readiness (ap rid : Nat)
  | aer (ap : Nat) (rid : Option Nat) (error : AerError)
  | pme (ap rid : Nat)
  | hostReply (ap rid status : Nat) (data : Nat)
  | mctp (eid status : Nat) (entries : List Nat)
  | frame (mac : Nat) (pkt : Nat) (time : Nat)
  | turelm (mac sport addr : Nat) (p : TlPkt)
  | load (hart value : Nat)
  | dmi (hart : Nat) (ok : Bool) (value : Nat)
  deriving DecidableEq, Repr

/-- R45: a clock step that waits for its boundary: signed ns, the boundary ordinal at
which it applies, and whether it is held for an armed realign instead. -/
structure PendStep where
  ns : Int
  due : Nat
  held : Bool
  deriving DecidableEq, Repr

/-- R61: one entry of a transmit time-stamp queue. -/
structure TxTs where
  tsId : Nat
  time : Nat
  sub : Nat
  status : Nat
  deriving DecidableEq, Repr

/-- R29 to R72: the stroke and time block behind its registers. -/
structure Stk where
  phcNs : Nat
  phcRunning : Bool
  counting : Bool
  boundary : Nat
  phase : Nat
  step : Option PendStep
  latched : Option PendStep
  slewPs : Int
  realign : Option Nat
  realignLatched : Bool
  heldRate : Option Int
  timerBacklog : Nat
  alignHold : Nat
  txts : Map (List TxTs)
  txtsOvf : List Nat
  ppsUnread : Bool
  ppsNs : Nat
  ppsOut : Bool
  clkLock : Bool
  deriving DecidableEq, Repr

/-- R107: a boot descriptor. -/
structure BootDesc where
  seq : Nat
  plinthSlot : Nat
  armSlot : Nat
  partialsA : Nat
  partialsB : Nat
  deriving DecidableEq, Repr

/-- R129: a re-armature job: its image, and the boundary at
which its phase began. The phase, result and mask stand in ARM_JOB. -/
structure Job where
  image : Image
  since : Nat
  deriving DecidableEq, Repr

/-- R118: a maquette under way. -/
structure MaqRun where
  level : Nat
  start : Nat
  result : Nat
  imageId : Nat
  deriving DecidableEq, Repr

/-- R99 to R134: the armature block behind its registers: flash, staging area, sections in
force, keys and fuse policy, the job, the maquette and the debug unlock. -/
structure Arm where
  desc0 : Option BootDesc
  desc1 : Option BootDesc
  plinthSlots : Map Image
  armSlots : Map (List Image)
  staged : Option Image
  stagedToken : Option Token
  inForce : List Section
  loaded : Bool
  unitPart : Map Nat
  keyHash : Nat
  newKey : Option Nat
  pqRequired : Bool
  algs : List Nat
  fuseCount : Nat
  job : Option Job
  lastDone : Option Image
  maq : Option MaqRun
  unlock : Option (Nat × Nat)
  debugDisabled : Bool
  deriving DecidableEq, Repr

/-- R163, R164: a function that HOST_FUNCTIONS gives an attachment point, and the parts of
its configuration that HIF_FN_INFO does not show. kind: 0 MANAGER, 1 NETWORK, 2 NVME,
3 MEMEXPORT; vf is 0 for a PF; pages, bar2 and bar4 (bytes) bound what may be placed in it. -/
structure Fn where
  ap : Nat
  rid : Nat
  pf : Nat
  vf : Nat
  kind : Nat
  pages : Nat
  bar2 : Nat
  bar4 : Nat
  vectors : Nat
  vfEnable : Bool
  pmeEn : Bool
  fetch : Bool
  notReady : Bool
  deriving DecidableEq, Repr

/-- R166: what an outstanding host read is for: a poll of a ring, a work entry, an NVMe
command or fetch, a remote READ or ATOMIC served, a FLUSH, or an endpoint context. -/
inductive Purpose where
  | poll (ring : Nat)
  | work (seq : Nat)
  | nvme (id : Nat)
  | serve (peer msg : Nat)
  | flush (peer msg : Nat)
  | context (ep : Nat)
  deriving DecidableEq, Repr

/-- R166, R167: an outstanding host read: its tag, its function, and the boundary of its issue. -/
structure HostTag where
  ap : Nat
  tag : Nat
  rid : Nat
  since : Nat
  purpose : Purpose
  deriving DecidableEq, Repr

/-- R169: a quarantined tag and the boundary at which it returns. -/
structure QuarTag where
  ap : Nat
  tag : Nat
  till : Nat
  deriving DecidableEq, Repr

/-- R160, R216: a translation in the device translation cache. -/
structure AtcEntry where
  ap : Nat
  rid : Nat
  pasid : Nat
  addr : Nat
  deriving DecidableEq, Repr

/-- R184: an IDE stream of an attachment point; secure is clear in the Insecure state. -/
structure IdeStream where
  ap : Nat
  index : Nat
  pf : Nat
  link : Bool
  secure : Bool
  deriving DecidableEq, Repr

/-- R191: what the host has programmed into an HDM decoder. -/
structure Hdm where
  base : Nat
  size : Nat
  ways : Nat
  gran : Nat
  deriving DecidableEq, Repr

/-- R157 to R194: the host link behind its registers. -/
structure Hif where
  fns : Map Fn
  perst : List Nat
  cold : List Nat
  training : List Nat
  wakeN : List Nat
  tags : List HostTag
  quar : List QuarTag
  waiting : List (Nat × Purpose)
  atc : List AtcEntry
  ide : List IdeStream
  hbArmed : Bool
  hbCount : Nat
  lost : Bool
  claim : Option (Nat × Nat)
  cxlRegion : Nat × Nat
  hdm : Map Hdm
  poison : List Nat
  cxlEvents : List Nat
  cxlTime : Nat
  deriving DecidableEq, Repr

/-- R230 to R233: a niche's dirty log: the active bitmap as the granules marked, the counts
of its interval, and the retired bitmap with its trailer while a harvest copies it. -/
structure DirtyLog where
  base : Nat
  len : Nat
  gran : Nat
  pages : List Nat
  writes : Nat
  outOfRange : Nat
  since : Nat
  retired : Option (List Nat × Nat × Nat × Nat × Nat)
  last : Bool
  deriving DecidableEq, Repr

/-- R227, R228: why a niche is RESETTING. -/
inductive ResetCause where
  | reset | unbind | destroy
  deriving DecidableEq, Repr

/-- R211 to R233: a niche behind its registers. -/
structure NicheX where
  prev : Nat
  cause : ResetCause
  started : Bool
  intake : Bool
  spoof : Map Nat
  spoofMode : Nat
  wake : Nat
  zero : Bool
  log : Option DirtyLog
  deriving DecidableEq, Repr

/-- R211, R213: the niches that are not FREE, and the base and length in MiB of the niche region of stacked memory. -/
structure Nch where
  niches : Map NicheX
  region : Nat × Nat
  deriving DecidableEq, Repr

/-- R249: what a finished work entry's completion will hold; time is a frame time-stamp or,
when absent, the commit time. -/
structure Cpl where
  status : Nat
  flags : Nat
  result : Nat
  time : Option Nat
  deriving DecidableEq, Repr

/-- R247, R270, R340: a work entry that the device has taken and not yet completed: its place in
intake order, ring, niche, entry, whether it has started, the host data read for it, its
completion once it has finished, and, for an entry of a tile's port, the hart and reply channel. -/
structure Flight where
  seq : Nat
  ring : Nat
  niche : Nat
  entry : Nat
  started : Bool
  data : List Byte
  done : Option Cpl
  port : Option (Nat × Nat)
  deriving DecidableEq, Repr

/-- R254 to R276: a ring behind its registers. -/
structure RingX where
  lastPoll : Nat
  nudged : Bool
  more : Bool
  dueSince : Option Nat
  polling : Bool
  written : Nat
  reserved : Nat
  held : List Nat
  freed : Bool
  mod : Nat
  lastMsix : Option Nat
  owed : Bool
  lost : Nat
  firstLost : Nat
  slots : Map Nat
  deriving DecidableEq, Repr

/-- R247 to R276: rings, the entries taken from them in intake order, the resident entries
that have arrived (ring, slot, first boundary), what intake has taken in this stroke, and the events
whose route named a ring that has been destroyed (R294). -/
structure Rng where
  rings : Map RingX
  flights : List Flight
  nextSeq : Nat
  arrived : List (Nat × Nat × Nat)
  takenAt : Nat
  taken : Nat
  takenRing : Map Nat
  pollAt : Nat
  polls : Map Nat
  deadRoutes : List Nat
  deriving DecidableEq, Repr

/-- R306, R310: a DMA entry on a channel: its flight, priority, pass, the element of a LIST it
runs, the sum of the totals before that element, the bytes written in this pass, whether the half point has been
reported, whether the element has been checked and its reads issued, and the lines of its POOL side that remote
messages have moved. -/
structure DmaRun where
  seq : Nat
  niche : Nat
  prio : Nat
  pass : Nat
  element : Nat
  list : List Nat
  before : Nat
  done : Nat
  half : Bool
  fed : Bool
  lines : Nat
  deriving DecidableEq, Repr

/-- R306: a taken DMA entry that waits for a channel. -/
structure DmaWait where
  seq : Nat
  niche : Nat
  prio : Nat
  list : List Nat
  deriving DecidableEq, Repr

/-- R296 to R315: the DMA engine behind its registers. -/
structure Dma where
  channels : Map DmaRun
  queue : List DmaWait
  deriving DecidableEq, Repr

/-- R338, R339: a channel message: its words as a number, who wrote it, and the niche it bears. -/
structure Msg where
  words : Nat
  data : Nat
  writer : Nat
  niche : Nat
  deriving DecidableEq, Repr

/-- R339: a blocking commit that waits for a slot. -/
structure CommitWait where
  hart : Nat
  chan : Nat
  msg : Msg
  deriving DecidableEq, Repr

/-- R332, R337, R341: a thread behind TIL_THR_STATE: its register file (integer 0 to 31, floating
point 32 to 63, vector 64 to 95), program counter, control page and item in hand. -/
structure Thread where
  xregs : Map Nat
  pc : Nat
  entry : Nat
  dispatch : Nat
  before : Nat
  niche : Option Nat
  stage : Nat
  staged : Bool
  dropped : Bool
  recv : Nat
  edge : Nat
  mask : Nat
  cmp : Nat
  binds : Map Nat
  last : Nat
  irqEn : Nat
  blocked : Bool
  haltAt : Nat
  stroke : Bool
  missed : Nat
  item : Option (Nat × Nat)
  deriving DecidableEq, Repr

/-- R325 to R357: the tiles behind their registers. Threads are keyed by hart, channels by
tile * 256 + channel, groups by tile * 16 + group. -/
structure Til where
  threads : Map Thread
  chans : Map (List Msg)
  writers : Map (List Nat)
  reserved : Map Nat
  waiting : List CommitWait
  moved : List Nat
  reports : List Nat
  restarts : List Nat
  pktSlots : Map Nat
  pktChan : Map Nat
  freeSlots : Map (List Nat)
  deriving DecidableEq, Repr

/-- R373, R385, R401, R408: where a frame stands on its way through classification: in its cluster's queue,
with its header vector released, on its way back into the pipeline, parked at a stage, ready to leave the
pipeline, in the spreader, in a packet slot of a tile, or ready in the reorder engine. -/
inductive PktAt where
  | queued
  | parsed
  | recirc
  | parked (stage : Nat)
  | leaving
  | spread
  | tile (t slot : Nat)
  | ready (boundary : Nat)
  deriving DecidableEq, Repr

/-- R372 to R410: a frame in classification: its cluster, source (MAC, or 16 + controller) and pipe, its
bytes, its 256-byte header vector, the work entry that sent it, where it stands, the boundary of its pipeline entry, its
ordering domain and sequence, the final DROP, the stage of SKIP_TO, the operations for the deparser, and
the keys that inline processing used. -/
structure Pkt where
  id : Nat
  cluster : Nat
  source : Nat
  pipe : Nat
  bytes : List Byte
  vec : Nat
  seqWork : Option Nat
  at_ : PktAt
  entered : Nat
  domain : Nat
  seq : Nat
  drop : Bool
  skip : Nat
  edits : List Nat
  crypto : List Nat
  decrypted : Bool
  deriving DecidableEq, Repr

/-- R386: a masked rule. -/
structure Rule where
  table : Nat
  group : Nat
  key : Nat
  prio : Nat
  action : Nat
  deriving DecidableEq, Repr

/-- R398: one version of the rules: group masks (table * 256 + group), rules, action entries,
templates, and default actions. -/
structure RuleSet where
  groups : Map Nat
  rules : List Rule
  actions : Map Nat
  templates : Map Nat
  defaults : Map Nat
  deriving DecidableEq, Repr

/-- R407, R408: an ordering domain: its next sequence, the next sequence to release, and the
sequences that were dropped before their turn. -/
structure Domain where
  next : Nat
  release : Nat
  gone : List Nat
  deriving DecidableEq, Repr

/-- R372 to R410: parsing and classification behind its registers: the frames in order, the domains, the skipped
sequences still outstanding, the rule versions and the boundary from which a commit may switch, the turns of
dealing, the lanes of each MAC, the spreader's queue, each table's key ranges and each fixed action. -/
structure Prs where
  pkts : List Pkt
  nextId : Nat
  domains : Map Domain
  skipped : List (Nat × Nat)
  live : RuleSet
  staged : RuleSet
  old : RuleSet
  commitDue : Nat
  next : Map Nat
  lanes : Map (List Nat)
  spread : List Nat
  keys : Map (List (Nat × Nat))
  fixed : Map Nat
  deriving DecidableEq, Repr

/-- R432, R433: an entry of a flow, L2 or prefix table. `key` is the table's key, or for a prefix
length * 2^160 + context * 2^128 + address. born and dead: 0 unmarked, 1 staged, 2 since the live
version (R438). ring is the work ring that inserted it (R446). -/
structure FlowEntry where
  key : Nat
  niche : Nat
  action : Nat
  data : Nat
  source : Nat
  static : Bool
  notify : Bool
  learned : Bool
  hit : Bool
  ring : Option Nat
  born : Nat
  dead : Nat
  lastMove : Option Nat
  deriving DecidableEq, Repr

/-- R430, R434: a bucket store: the entries by place (bucket * 4 + slot, stash slot i at 2^40 + i) and
the places whose MOVE is set, with the boundary of the write that set it. -/
structure Store where
  slots : Map FlowEntry
  moves : Map Nat
  deriving DecidableEq, Repr

/-- R441, R442: a learn or move request: key, SOURCE and the learned ACTION. -/
structure Learn where
  key : Nat
  source : Nat
  action : Nat
  deriving DecidableEq, Repr

/-- R429 to R447: one table: its live store, its learn and move requests, the learns served in a
stroke, the boundary last swept, and the filter counters of a PREFIX table. -/
structure TblX where
  live : Store
  learns : List Learn
  moving : List Learn
  learnAt : Nat
  learned : Nat
  sweptAt : Nat
  filter : Map Nat
  deriving DecidableEq, Repr

/-- R449: the rehash under way: its new seed, the boundary of its start, its shadow once built, and
the boundary of its switch. -/
structure Rehash where
  seed : Nat
  since : Nat
  shadow : Option Store
  switchedAt : Option Nat
  deriving DecidableEq, Repr

/-- R429 to R450: the tables behind their registers. srcKeys gives an L2 table's source key, ages the
tables that may age, reserve the rehash reserve of each residency in 64-byte slots, actions the size of the action store. -/
structure Tbl where
  tables : Map TblX
  rehash : Option Rehash
  srcKeys : Map (List (Nat × Nat))
  ages : List Nat
  v6 : List Nat
  reserve : Nat × Nat
  actions : Nat
  deriving DecidableEq, Repr

/-- R470, R488: a frame in a scheduler queue or on a list: bytes, the work entry that sent it,
its niche, its launch time, the time-stamp asked for, once on a list its start instant,
and the Turelm (peer, message, chunk) it carries. -/
structure SFrame where
  bytes : List Byte
  queue : Nat
  niche : Nat
  seqWork : Option Nat
  launch : Option Nat
  tsId : Option Nat
  oneStep : Bool
  late : Bool
  at_ : Nat
  tl : Option (Nat × Nat × Nat)
  deriving DecidableEq, Repr

/-- R484: a gate control list: its entries (gates, strokes), base time in ns, bank. -/
structure GateList where
  entries : List (Nat × Nat)
  base : Nat
  deriving DecidableEq, Repr

/-- R490: a policer's buckets, with their remainders, and the parameters in force. -/
structure Policer where
  mode : Nat
  cir : Nat
  cbs : Nat
  rate2 : Nat
  burst2 : Nat
  c : Nat
  cRem : Nat
  e : Nat
  eRem : Nat
  deriving DecidableEq, Repr

/-- R468 to R491: the scheduler behind its registers. Nodes are keyed by handle. -/
structure Sch where
  queues : Map (List SFrame)
  credit : Map Int
  rem : Map Nat
  deficit : Map Nat
  turn : Map Nat
  oper : Map GateList
  pend : Map GateList
  pendAt : Map Nat
  lists : Map (List SFrame)
  late : List Nat
  wireFree : Map Nat
  policers : Map Policer
  linkUp : List Nat
  kids : Map (List Nat)
  local_ : Map Nat
  spill : Nat
  deriving DecidableEq, Repr

/-- R514, R646: a window: its protection domain, space (0 HOST, 1 STACKED, 2 POOL), base, length, rights,
niche and the generation in force. -/
structure Window where
  pd : Nat
  space : Nat
  base : Nat
  len : Nat
  rights : Nat
  niche : Nat
  gen : Nat
  deriving DecidableEq, Repr

/-- R512, R530, R535, R544: an endpoint: its niche, domain, queue, where its context is, the flights of its
posted buffers, the ring it was opened on, and its failed works toward each device since its last TL_FLUSH to it. -/
structure Endpoint where
  niche : Nat
  pd : Nat
  queue : Nat
  pin : Bool
  onDie : Bool
  host : Bool
  lost : Bool
  recalling : Bool
  ring : Nat
  used : Nat
  buffers : List Nat
  fails : Map Nat
  deriving DecidableEq, Repr

/-- What a message belongs to: a work entry, a DMA entry, an aperture access, an NVMe command, NVS_DATA, or a remote register access. -/
inductive Owner where
  | work (seq : Nat)
  | dma (seq : Nat)
  | aperture (id : Nat)
  | nvme (slot : Nat)
  | nvsData (seq : Nat)
  | reg
  | none
  deriving DecidableEq, Repr

/-- R541: the send record of a message that is not settled: what it is, its payload, the chunks that have
left, are acknowledged, or (of a READ) have come, its timer, its chunks' busy back-offs, and the ACK that its response waits for. -/
structure Send where
  peer : Nat
  msg : Nat
  op : Nat
  owner : Owner
  ring : Nat
  port : Option (Nat × Nat)
  tag : Nat
  niche : Nat
  srcEp : Nat
  dstEp : Nat
  queue : Option Nat
  len : Nat
  seg : Nat
  key : Nat
  off : Nat
  lkey : Nat
  loff : Nat
  imm : Nat
  atop : Nat
  operand : Nat
  compare : Nat
  data : List Byte
  ready : Bool
  acked : Bool
  ordered : Bool
  oseq : Nat
  next : Nat
  left : List Nat
  resent : List Nat
  held : List Nat
  rto : Nat
  tries : Nat
  busy : Nat
  due : Nat
  chunkDue : List (Nat × Nat)
  lastPath : Map Nat
  ackDue : Option Nat
  path : Nat
  ces : Nat
  deriving DecidableEq, Repr

/-- R529, R530, R548: an open message at the receiver: the chunks held, its buffer, and whether it waits in its lane. -/
structure RxMsg where
  peer : Nat
  msg : Nat
  op : Nat
  len : Nat
  seg : Nat
  srcEp : Nat
  dstEp : Nat
  buffer : Option Nat
  imm : Nat
  held : List Nat
  ordered : Bool
  oseq : Nat
  waiting : Bool
  ackDue : Option Nat
  path : Nat
  ces : Nat
  deriving DecidableEq, Repr

/-- R536, R537: a READ_REQ or ATOMIC that the device serves: its target, and the result once it is there. -/
structure Serve where
  peer : Nat
  msg : Nat
  op : Nat
  srcEp : Nat
  dstEp : Nat
  len : Nat
  seg : Nat
  win : Nat
  off : Nat
  ext : Nat
  result : Option (List Byte)
  deriving DecidableEq, Repr

/-- R683, R684: what the loops keep for a peer: packets acknowledged, marks, retransmissions and busy NAKs of the
period, alpha in units of 2^-16, and the smoothed round trip and its variation in units of 16 ns / 2^16. -/
structure PeerRate where
  acked : Nat
  ce : Nat
  retx : Nat
  busy : Nat
  alpha : Nat
  srtt : Nat
  rttvar : Nat
  samples : Nat
  measured : Bool
  deriving DecidableEq, Repr

/-- R524, R525, R534: what the device keeps for a peer: IDs, lanes, the last HOST placement for it at each attachment
point since its last FLUSH_ACK (niche, address), and the turn of its paths. done gives the status with which each
complete ID above the floor ended, and the chunk a NAK named. -/
structure PeerX where
  next : Nat
  floor : Nat
  done : Map (Nat × Nat)
  txLane : Map Nat
  rxLane : Map Nat
  laneDone : List (Nat × Nat)
  turn : Nat
  dirty : Map (Nat × Nat)
  rate : PeerRate
  deriving DecidableEq, Repr

/-- R539: a WIN_REVOKE or WIN_REWRITE, or a SEG_REVOKE, whose fence is to come: index, flight, key to return, niche. -/
structure Fence where
  index : Nat
  seq : Option Nat
  key : Nat
  niche : Nat
  deriving DecidableEq, Repr

/-- R512 to R550: the Turelm engine behind its registers. gens gives the next generation of an index,
epHold and winHold the boundary at which an ID is free again, flushes the (peer, FLUSH) to be answered, with the placements that their reads confirm. -/
structure Tlt where
  eps : Map Endpoint
  pds : Map Nat
  wins : Map Window
  gens : Map Nat
  epHold : Map Nat
  winHold : Map Nat
  fences : List Fence
  peers : Map PeerX
  sends : List Send
  rx : List RxMsg
  serves : List Serve
  recallHeld : List TlPkt
  flushes : List (Nat × Nat × Map (Nat × Nat))
  clock : Nat
  deriving DecidableEq, Repr

/-- R574, R575: a submission queue: host address, entries, completion queue, QPRIO, head, tail, the tail that a
boundary has made fetchable, the entries that a read under way brings, and the fetched entries to examine. -/
structure NvSq where
  base : Nat
  size : Nat
  cq : Nat
  prio : Nat
  head : Nat
  tail : Nat
  seen : Nat
  reading : Nat
  entries : List Nat
  deriving DecidableEq, Repr

/-- R574, R576, R577: a completion queue: host address, entries, interrupt vector (none when interrupts are off), head,
tail, phase tag, hold buffer, places reserved, and the entries that no message has announced, since when. -/
structure NvCq where
  base : Nat
  size : Nat
  vector : Option Nat
  head : Nat
  tail : Nat
  phase : Nat
  held : List Nat
  reserved : Nat
  owed : Nat
  since : Nat
  deriving DecidableEq, Repr

/-- R580, R584: a command in a slot: controller, queue, entry, namespace, the host bytes read for it, its stage
(0 examined, 1 waits for host bytes, 2 ready, 3 in a POOL access, 4 waits for its target, 5 with its back end, 6 a held
admin command), its first data error with the LBA, the POOL writes to come, whether a self-test made it, and
its place in the order of all commands. -/
structure NvCmd where
  gen : Nat
  ctrl : Nat
  sqid : Nat
  sqe : Nat
  ns : Nat
  data : List Byte
  stage : Nat
  err : Option (Nat × Nat)
  todo : List (Nat × List Byte)
  test : Bool
  born : Nat
  deriving DecidableEq, Repr

/-- R591: a self-test under way: its code, NSID, segment, the operations of the segment done, its namespaces, whether
segments failed with the first failure (segment, NSID, LBA), its start, and the operations of the stroke. -/
structure NvTest where
  code : Nat
  nsid : Nat
  seg : Nat
  step : Nat
  nss : List Nat
  failed : Option (Nat × Nat × Nat)
  stroke : Nat
  ops : Nat
  deriving DecidableEq, Repr

/-- R569 to R591: a controller behind NVS_CTRL_INFO: its function, descriptor strings, properties, queues by
identifier, features, held Asynchronous Event Requests and notices with their masks, the Error Information log, self-test and
its log, the firmware slots (revision of each, the active one, the one to activate), the SMART counts and the arbitration's turns. -/
structure NvCtrl where
  niche : Nat
  fn : Nat
  sn : Nat
  maxIo : Nat
  cc : Nat
  csts : Nat
  aqa : Nat
  asq : Nat
  acq : Nat
  sqs : Map NvSq
  cqs : Map NvCq
  feats : Map Nat
  aers : List Nat
  notices : List (Nat × Nat × Nat)
  masked : List Nat
  errors : List Nat
  errCount : Nat
  test : Option NvTest
  testLog : List Nat
  fr : Map Nat
  active : Nat
  activate : Option Nat
  commit : Option Nat
  smart : Map Nat
  turn : Map Nat
  credit : Map Nat
  deriving DecidableEq, Repr

/-- R572: a namespace behind NVS_NS_INFO: the bytes of its descriptor, and whether a detach waits for its commands. -/
structure NvNs where
  desc : Nat
  detaching : Bool
  deriving DecidableEq, Repr

/-- R568 to R604: the storage front-end behind its registers: controllers, namespaces, commands by slot, generations of
the slots, the slots never used and those freed, oldest first, the last controller granted, the boundary last fetched at,
the commands so far. -/
structure Nvs where
  ctrls : Map NvCtrl
  nss : Map NvNs
  cmds : Map NvCmd
  gens : Map Nat
  fresh : Nat
  freed : List Nat
  turn : Nat
  fetchedAt : Nat
  count : Nat
  deriving DecidableEq, Repr

/-- R613: a security association in a KIND 4 key: the next number to send or the lowest to accept,
the highest number accepted, the numbers accepted within the window, and whether SEQ_WARN was raised. -/
structure Sa where
  next : Nat
  high : Nat
  seen : List Nat
  warned : Bool
  deriving DecidableEq, Repr

/-- R609, R610: a key in the key store: generation, niche, KIND, MODE, length and material as a
little-endian number, its SA, the ring that loaded it, and whether it no longer resolves (R611). -/
structure KeyEnt where
  gen : Nat
  niche : Nat
  kind : Nat
  mode : Nat
  len : Nat
  material : Nat
  sa : Option Sa
  ring : Option Nat
  dead : Bool
  deriving DecidableEq, Repr

/-- R606 to R620: the accelerators behind their registers: keys by index, the generations issued, the last
index issued, the KEY_DESTROY entries that wait for their fence (index, flight), the entries that wait
for or run on a slice (flight, kind of slice, boundary of its start), and the kinds' turns. -/
structure Acc where
  keys : Map KeyEnt
  gens : Map Nat
  last : Nat
  dying : List (Nat × Nat)
  work : List (Nat × Nat × Nat)
  turn : Map Nat
  deriving DecidableEq, Repr

/-- R642: a path behind FAB_PATH_INFO: the boundary of the oldest send that nothing has echoed, of the last
send, and of its entry to its state or its last probe; and its echo, to apply at the next boundary. -/
structure PathX where
  oldest : Option Nat
  last : Nat
  since : Nat
  echoed : Bool
  deriving DecidableEq, Repr

/-- R646 to R650: a pool segment: its place in the pool region in bytes, its niche, window index and grants. -/
structure Seg where
  off : Nat
  len : Nat
  niche : Nat
  win : Nat
  grants : Map Nat
  deriving DecidableEq, Repr

/-- R651: an import. -/
structure Import where
  niche : Nat
  rights : Nat
  key : Nat
  base : Nat
  len : Nat
  deriving DecidableEq, Repr

/-- R653: an aperture access under way: attachment point, function, slot, offset in the slot, its bytes (of a
write), whether it has been sent, and its start in ns. -/
structure AptOp where
  id : Nat
  ap : Nat
  rid : Nat
  slot : Nat
  off : Nat
  len : Nat
  data : Option (List Byte)
  sent : Bool
  since : Nat
  deriving DecidableEq, Repr

/-- R634, R644: a device that a HELLO has shown: UID, priority, its ID, the coordinator it names, its address, its
HELLO period, its journal epoch, the MAC and the boundary of its last HELLO. -/
structure Heard where
  uid : Nat
  prio : Nat
  id : Option Nat
  names : Option Nat
  addr : Nat
  epoch : Nat
  period : Nat
  mac : Nat
  at_ : Nat
  deriving DecidableEq, Repr

/-- R639: a member as the last update gave it. -/
structure Member where
  id : Nat
  uid : Nat
  epoch : Nat
  addr : Nat
  deriving DecidableEq, Repr

/-- R631 to R655: the fabric unit behind its registers. paths is keyed peer * 64 + path; apertures
(attachment point * 65536 + RID) * 64 + slot; owners gives the niche that last had each 2 MiB of the pool region; version the last
VERSION issued or accepted, updates what each VERSION still to be acknowledged says (ID, present, member), acks the (member,
VERSION) not yet acknowledged, asking that a full list has been asked for; routes the ports toward a device. -/
structure Fab where
  paths : Map PathX
  templates : Map Nat
  seeds : Map Nat
  segs : Map Seg
  owners : Map Nat
  imports : Map Import
  apertures : Map Nat
  apt : List AptOp
  nextApt : Nat
  pool : Nat × Nat
  heard : List Heard
  settleAt : Nat
  helloAt : Nat
  lastId : Option Nat
  members : List Member
  version : Nat
  updates : Map (List (Bool × Member))
  acks : List (Nat × Nat)
  asking : Bool
  linkStates : Map (Nat × List (Nat × Nat))
  linkSeq : Nat
  linkAt : Nat
  routes : Map (List Nat)
  routeDue : Option Nat
  deriving DecidableEq, Repr

/-- R688: a proposed change: target, field, value in force, value proposed. -/
structure Proposal where
  target : Nat
  field : Nat
  old : Nat
  new : Nat
  deriving DecidableEq, Repr

/-- R678: a run that has been evaluated and waits for its boundary: its sequence, the stroke of its sample, the boundary, its proposals. -/
structure RglRun where
  run : Nat
  stroke : Nat
  due : Nat
  props : List Proposal
  deriving DecidableEq, Repr

/-- R690: the decisions of a loop merged for the journal: first and last run, runs covered, changes, proposals, the largest change,
whether a clamp is among them, and the stroke of the first. -/
structure RglMerge where
  first : Nat
  last : Nat
  runs : Nat
  changes : Nat
  proposals : Nat
  best : Proposal
  clamp : Bool
  since : Nat
  deriving DecidableEq, Repr

/-- R677, R686: a sample of a loop: the counts of each peer, the recalls of each endpoint, the warm endpoints without traffic,
the polls by ring, whether an overrun has come, the package power, and the measures that no other block of the model counts. -/
structure RglSample where
  peers : Map PeerRate
  recalls : Map Nat
  idle : List Nat
  rings : Map (Nat × Nat × Bool)
  overrun : Bool
  watts : Nat
  given : List (Nat × Nat)
  deriving DecidableEq, Repr

/-- R677 to R690: a loop: its run sequence, the stroke of its last run, the stroke since which it is in ACT, the run to apply, the
advice that may be accepted, its merged decisions, an envelope written and not yet in force (MIN, MAX, boundary), and its last sample. -/
structure RglLoop where
  run : Nat
  lastRun : Nat
  actSince : Nat
  pending : Option RglRun
  advice : Option RglRun
  merged : Option RglMerge
  envNext : Option (Nat × Nat × Nat)
  sample : Option RglSample
  deriving DecidableEq, Repr

/-- R676 to R691: the regulation engine behind its registers: the loops, the stroke of entry to SERVICE, the tiles that loop 2 has
lowered by how much, the warm set with each member's runs without traffic, the recalls of the period and the clock of the last run,
the polls of the period by ring (polls, entries taken, full batch), the effective admission budgets that differ from the configured
ones, whether an overrun has come since the last run, the quiet runs, the stroke whose sample was last dropped (R42), and the
place, in targets counted at 8 192 for a stroke, up to which the engine is busy. -/
structure Rgl where
  loops : Map RglLoop
  since : Nat
  lowered : Map Nat
  warm : Map Nat
  recalls : Map Nat
  warmClock : Nat
  rings : Map (Nat × Nat × Bool)
  budgets : Map Nat
  overrun : Bool
  quiet : Nat
  dropped : Option Nat
  busyTo : Nat
  deriving DecidableEq, Repr

/-- R748: a drain under way: the boundary it began at, and the NO_SUBST bit. -/
structure Drain where
  since : Nat
  noSubst : Bool
  deriving DecidableEq, Repr

/-- R757: a sparing copy: the pseudo-channel spared, and whether the copy has ended. -/
structure SpareJob where
  pc : Nat
  since : Nat
  deriving DecidableEq, Repr

/-- R765: a plinth firmware switch under way: the slot it goes to and the slot before. -/
structure PlinthSwitch where
  target : Nat
  was : Nat
  deriving DecidableEq, Repr

/-- R746 to R766: the service block behind its registers. Units are keyed kind * 128 + index. -/
structure Svc where
  used : List Nat
  drain : Map Drain
  testing : Map Bool
  reloading : Map Nat
  probation : Map Nat
  spare : Map SpareJob
  replaced : Map Nat
  ce : Map (Nat × Nat)
  recoveryAt : Nat
  recoveryStrokes : List Nat
  structures : List Nat
  plinth : Option PlinthSwitch
  plinthSlot : Nat
  mgrQuiesced : List Nat
  deriving DecidableEq, Repr

/-- R823: the straps as sampled. -/
structure Straps where
  autoOn : Bool
  mgmtAddr : Nat
  rgmiiEn : Bool
  flashMode : Nat
  test : Bool
  deriving DecidableEq, Repr

/-- R780 to R796: power behind its registers: the supplies and pins, the sequencer, the
throttle's accumulators, P1 and a scheduled POWER_OFF. -/
structure Pwr where
  aux : Bool
  mainEn : Bool
  mainPg : Bool
  pgFailed : Bool
  straps : Option Straps
  thermtrip : Bool
  b2 : Bool
  nextStep : Nat
  steppedAt : Nat
  waitSince : Option Nat
  offAt : Option Nat
  offJournaled : Bool
  poweredBy : Option Issuer
  coolNs : Nat
  powerNs : Nat
  overMs : Nat
  hot : Int
  deriving DecidableEq, Repr

/-- R38: a change that takes effect at a later stroke boundary. -/
inductive Change where
  | field (f : Field) (i v : Nat)
  | unitDrain (kind index : Nat) (discard noSubst : Bool)
  | unitActive (kind index : Nat)
  | unitHeld (kind index : Nat)
  | unitForce (kind index : Nat)
  | unitRetire (kind index : Nat)
  | unitJoin (kind index : Nat)
  | jobSwitch
  | jobDrain (mask : Nat)
  | jobHold
  | debugResume
  | enterP1
  | enterRecovery (structure_ : Nat) (bank : List Nat)
  | ringEnable (r : Nat) (restart : Bool)
  | ringDisable (r : Nat)
  | nudge (r : Nat)
  | cqFreed (cq : Nat)
  | nicheActive (n : Nat)
  | nicheReset (n : Nat)
  | nicheIntake (n : Nat) (takes : Bool)
  | logStart (n base len gran : Nat)
  | logSwap (n : Nat) (last : Bool)
  | policer (p mode cir cbs rate2 burst2 : Nat)
  | shaper (h value : Nat)
  | rehashSwitch (t : Nat)
  | keyDead (i : Nat)
  | pathUp (k : Nat)
  | macLink (mac : Nat) (up : Bool)
  | fnFetch (fn : Nat) (on : Bool)
  | epClose (ep : Nat) (seq : Option Nat)
  | winOpen (i : Nat) (w : Window) (seq : Nat)
  | winRevoke (i : Nat) (seq : Option Nat)
  | winRewrite (i j : Nat) (w : Window) (seq : Nat)
  | segOpen (seg : Nat) (zero : Bool)
  | segRevoke (seg : Nat) (reopen : Bool)
  | segGrant (seg entry value : Nat)
  | fabMembers (version : Nat) (recs : List (Bool × Member))
  | fabId (id : Nat)
  | fabIdLost
  | nvmeTail (ctrl sq tail : Nat)
  | nvmeReset (ctrl : Nat)
  | nsAttach (ns ctrl nsid : Nat)
  | nsDetach (ns : Nat)
  | adviceApply (l run mask : Nat)
  deriving DecidableEq, Repr

/-- Why the block would stop. No command of this block stops it: every fault that the spec
names is an effect on the state, so nothing raises this one. Safe. -/
inductive Fault where
  /-- Raised by nothing: it keeps the type inhabited. Safe. -/
  | none
  deriving DecidableEq, Repr

/-- Why a command has no meaning. -/
inductive Refusal where
  /-- Raised by `exec` for a command the model has no meaning for. Safe. -/
  | notModelled (mnemonic : String)
  deriving DecidableEq, Repr

/-- The whole state. `regs` holds every register field that differs from its reset value,
`free` counts the free values drawn, `cmds` the running commands by block, `deferred` the
changes and the boundaries at which they apply, `out` what has left the block. -/
structure State where
  regs : Map Nat
  mem : List Host.Cell
  free : Nat
  stk : Stk
  arm : Arm
  hif : Hif
  nch : Nch
  rng : Rng
  dma : Dma
  til : Til
  prs : Prs
  tbl : Tbl
  sch : Sch
  nvs : Nvs
  acc : Acc
  tlt : Tlt
  fab : Fab
  rgl : Rgl
  svc : Svc
  pwr : Pwr
  jnl : Jnl
  pat : Pat
  cmds : Map CmdPend
  deferred : List (Nat × Change)
  events : List EvOcc
  out : List Out
  pending : List Instr
  deriving DecidableEq, Repr

/-- The machine right after reset: auxiliary power is present and main power is not (R16, IDN_STATE), so every register reads
the reset value its table gives, device memory and flash are empty, nothing waits, and every host link is held in reset. -/
def State.reset : State where
  regs := []
  mem := []
  free := 0
  stk := {
    phcNs := 0, phcRunning := false, counting := false, boundary := 0, phase := 0, step := none, latched := none, slewPs := 0
    realign := none, realignLatched := false, heldRate := none, timerBacklog := 0, alignHold := 0, txts := [], txtsOvf := []
    ppsUnread := false, ppsNs := 0, ppsOut := false, clkLock := false }
  arm := {
    desc0 := none, desc1 := none, plinthSlots := [], armSlots := [], staged := none, stagedToken := none, inForce := [], loaded := false
    unitPart := [], keyHash := 0, newKey := none, pqRequired := false, algs := [1, 2], fuseCount := 0, job := none, lastDone := none
    maq := none, unlock := none, debugDisabled := false }
  hif := {
    fns := [], perst := [0, 1, 2, 3], cold := [], training := [], wakeN := [], tags := [], quar := [], waiting := [], atc := [], ide := []
    hbArmed := false, hbCount := 0, lost := false, claim := none, cxlRegion := (0, 0), hdm := [], poison := [], cxlEvents := [], cxlTime := 0 }
  nch := { niches := [], region := (0, 0) }
  rng := { rings := [], flights := [], nextSeq := 0, arrived := [], takenAt := 0, taken := 0, takenRing := [], pollAt := 0, polls := [], deadRoutes := [] }
  dma := { channels := [], queue := [] }
  til := {
    threads := [], chans := [], writers := [], reserved := [], waiting := [], moved := [], reports := [], restarts := [], pktSlots := []
    pktChan := [], freeSlots := [] }
  prs := {
    pkts := [], nextId := 0, domains := [], skipped := [], live := ⟨[], [], [], [], []⟩, staged := ⟨[], [], [], [], []⟩
    old := ⟨[], [], [], [], []⟩, commitDue := 0, next := [], lanes := [], spread := [], keys := [], fixed := [] }
  tbl := { tables := [], rehash := none, srcKeys := [], ages := [], v6 := [], reserve := (0, 0), actions := 0 }
  sch := {
    queues := [], credit := [], rem := [], deficit := [], turn := [], oper := [], pend := [], pendAt := [], lists := [], late := []
    wireFree := [], policers := [], linkUp := [], kids := [], local_ := [], spill := 0 }
  nvs := { ctrls := [], nss := [], cmds := [], gens := [], fresh := 0, freed := [], turn := 0, fetchedAt := 0, count := 0 }
  acc := { keys := [], gens := [], last := 0, dying := [], work := [], turn := [] }
  tlt := {
    eps := [], pds := [], wins := [], gens := [], epHold := [], winHold := [], fences := [], peers := [], sends := [], rx := [], serves := []
    recallHeld := [], flushes := [], clock := 0 }
  fab := {
    paths := [], templates := [], seeds := [], segs := [], owners := [], imports := [], apertures := [], apt := [], nextApt := 0
    pool := (0, 0), heard := [], settleAt := 0, helloAt := 0, lastId := none, members := [], version := 0, updates := [], acks := []
    asking := false, linkStates := [], linkSeq := 0, linkAt := 0, routes := [], routeDue := none }
  rgl := {
    loops := [], since := 0, lowered := [], warm := [], recalls := [], warmClock := 0, rings := [], budgets := [], overrun := false, quiet := 0
    dropped := none, busyTo := 0 }
  svc := {
    used := [], drain := [], testing := [], reloading := [], probation := [], spare := [], replaced := [], ce := [], recoveryAt := 0
    recoveryStrokes := [], structures := [], plinth := none, plinthSlot := 0, mgrQuiesced := [] }
  pwr := {
    aux := true, mainEn := false, mainPg := false, pgFailed := false, straps := none, thermtrip := false, b2 := false, nextStep := 0, steppedAt := 0
    waitSince := none, offAt := none, offJournaled := false, poweredBy := none
    coolNs := 0, powerNs := 0, overMs := 0, hot := 0 }
  jnl := { log := [], prevTail := [], prevHead := 0, lastEpoch := 0, chain := 0, lagRaised := false, counterLatch := [] }
  pat := { ring := [], pinned := [], latch := [] }
  cmds := []
  deferred := []
  events := []
  out := []
  pending := []

/-- What a step or a command answers. -/
abbrev Outcome := Host.Outcome State Fault Refusal

end Sys2Proof.Machine
end

