-- ==== Sys2Proof/Machine/Ops.lean ====
section
/-!
DEFINITION. The named operations over registers, memory, counters, the journal, the
patina log, events and deferred changes. Every meaning is written over these.
-/
namespace Sys2Proof.Machine

/-! ### One part of the state changed -/

/-- A state with another value of `regs`. -/
def State.updRegs (s : State) (f : Map Nat → Map Nat) : State := { s with regs := f s.regs }
/-- A state with another value of `mem`. -/
def State.updMem (s : State) (f : List Host.Cell → List Host.Cell) : State := { s with mem := f s.mem }
/-- A state with another value of `free`. -/
def State.updFree (s : State) (f : Nat → Nat) : State := { s with free := f s.free }
/-- A state with another value of `stk`. -/
def State.updStk (s : State) (f : Stk → Stk) : State := { s with stk := f s.stk }
/-- A state with another value of `arm`. -/
def State.updArm (s : State) (f : Arm → Arm) : State := { s with arm := f s.arm }
/-- A state with another value of `hif`. -/
def State.updHif (s : State) (f : Hif → Hif) : State := { s with hif := f s.hif }
/-- A state with another value of `nch`. -/
def State.updNch (s : State) (f : Nch → Nch) : State := { s with nch := f s.nch }
/-- A state with another value of `rng`. -/
def State.updRng (s : State) (f : Rng → Rng) : State := { s with rng := f s.rng }
/-- A state with another value of `dma`. -/
def State.updDma (s : State) (f : Dma → Dma) : State := { s with dma := f s.dma }
/-- A state with another value of `til`. -/
def State.updTil (s : State) (f : Til → Til) : State := { s with til := f s.til }
/-- A state with another value of `prs`. -/
def State.updPrs (s : State) (f : Prs → Prs) : State := { s with prs := f s.prs }
/-- A state with another value of `tbl`. -/
def State.updTbl (s : State) (f : Tbl → Tbl) : State := { s with tbl := f s.tbl }
/-- A state with another value of `sch`. -/
def State.updSch (s : State) (f : Sch → Sch) : State := { s with sch := f s.sch }
/-- A state with another value of `nvs`. -/
def State.updNvs (s : State) (f : Nvs → Nvs) : State := { s with nvs := f s.nvs }
/-- A state with another value of `acc`. -/
def State.updAcc (s : State) (f : Acc → Acc) : State := { s with acc := f s.acc }
/-- A state with another value of `tlt`. -/
def State.updTlt (s : State) (f : Tlt → Tlt) : State := { s with tlt := f s.tlt }
/-- A state with another value of `fab`. -/
def State.updFab (s : State) (f : Fab → Fab) : State := { s with fab := f s.fab }
/-- A state with another value of `rgl`. -/
def State.updRgl (s : State) (f : Rgl → Rgl) : State := { s with rgl := f s.rgl }
/-- A state with another value of `svc`. -/
def State.updSvc (s : State) (f : Svc → Svc) : State := { s with svc := f s.svc }
/-- A state with another value of `pwr`. -/
def State.updPwr (s : State) (f : Pwr → Pwr) : State := { s with pwr := f s.pwr }
/-- A state with another value of `jnl`. -/
def State.updJnl (s : State) (f : Jnl → Jnl) : State := { s with jnl := f s.jnl }
/-- A state with another value of `pat`. -/
def State.updPat (s : State) (f : Pat → Pat) : State := { s with pat := f s.pat }
/-- A state with another value of `cmds`. -/
def State.updCmds (s : State) (f : Map CmdPend → Map CmdPend) : State := { s with cmds := f s.cmds }
/-- A state with another value of `deferred`. -/
def State.updDeferred (s : State) (f : List (Nat × Change) → List (Nat × Change)) : State := { s with deferred := f s.deferred }
/-- A state with another value of `events`. -/
def State.updEvents (s : State) (f : List EvOcc → List EvOcc) : State := { s with events := f s.events }
/-- A state with another value of `out`. -/
def State.updOut (s : State) (f : List Out → List Out) : State := { s with out := f s.out }
/-- A state with another value of `pending`. -/
def State.updPending (s : State) (f : List Instr → List Instr) : State := { s with pending := f s.pending }

/-! ### Sparse maps -/

/-- The value a map holds at a key. -/
def Map.find? {α : Type} (m : Map α) (k : Nat) : Option α :=
  match m with
  | [] => none
  | (k', v) :: t => if k = k' then some v else Map.find? t k

/-- A map with one key set; the keys stay in order. -/
def Map.put {α : Type} (m : Map α) (k : Nat) (v : α) : Map α :=
  match m with
  | [] => [(k, v)]
  | (k', v') :: t =>
    if k < k' then (k, v) :: (k', v') :: t
    else if k = k' then (k, v) :: t
    else (k', v') :: Map.put t k v

/-- A map without one key. -/
def Map.del {α : Type} (m : Map α) (k : Nat) : Map α := m.filter (fun p => p.1 != k)

/-- A map with the value at a key changed, if it holds one. -/
def Map.upd {α : Type} (m : Map α) (k : Nat) (f : α → α) : Map α :=
  match Map.find? m k with
  | some v => Map.put m k (f v)
  | none => m

/-- A pair put into a list of pairs in rising order. -/
def insertPair (a : Nat × Nat) (l : List (Nat × Nat)) : List (Nat × Nat) :=
  match l with
  | [] => [a]
  | h :: t => if a.1 < h.1 ∨ (a.1 = h.1 ∧ a.2 < h.2) then a :: h :: t else h :: insertPair a t

/-- Pairs in rising order. -/
def sortPairs (l : List (Nat × Nat)) : List (Nat × Nat) := l.foldr insertPair []

/-! ### Bits of little-endian numbers -/

/-- Bits hi down to lo of a number. -/
def bits (v hi lo : Nat) : Nat := (v >>> lo) % 2 ^ (hi + 1 - lo)

/-- Bit k of a number, as 0 or 1. -/
def bit (v k : Nat) : Nat := (v >>> k) % 2

/-- Bytes lo to hi of a little-endian byte string. -/
def byteField (v lo hi : Nat) : Nat := (v >>> (8 * lo)) % 2 ^ (8 * (hi + 1 - lo))

/-- The signed value of the low w bits of a number. -/
def signed (w v : Nat) : Int :=
  let u := v % 2 ^ w
  if u < 2 ^ (w - 1) then (u : Int) else (u : Int) - (2 ^ w : Nat)

/-- The two's complement of an integer in w bits. -/
def unsigned (w : Nat) (i : Int) : Nat := (i % ((2 ^ w : Nat) : Int)).toNat

/-- A value held to the nearer of two limits. -/
def clamp (lo hi v : Nat) : Nat := if v < lo then lo else if hi < v then hi else v

/-- The first n bytes of a number, least significant first. -/
def toBytes (n v : Nat) : List Byte :=
  match n with
  | 0 => []
  | n + 1 => BitVec.ofNat 8 v :: toBytes n (v / 256)

/-- The number that a byte string spells, least significant first. -/
def ofBytes (l : List Byte) : Nat :=
  match l with
  | [] => 0
  | b :: t => b.toNat + 256 * ofBytes t

/-- One bit step of CRC-32C (reflected polynomial 0x82F6_3B78). -/
def crcBits (n c : Nat) : Nat :=
  match n with
  | 0 => c
  | n + 1 => crcBits n (if c % 2 = 1 then (c / 2) ^^^ 0x82F63B78 else c / 2)

/-- CRC-32C over a byte string (R710). -/
def crc32c (l : List Byte) : Nat :=
  (l.foldl (fun c b => crcBits 8 (c ^^^ b.toNat)) 0xFFFFFFFF) ^^^ 0xFFFFFFFF

/-! ### Registers -/

/-- The reset value of one instance of a field. -/
def Field.resetAt (f : Field) (i : Nat) : Nat :=
  match f.reset with
  | .const n => n
  | .idx => i
  | .idxDiv k => i / k
  | .idxMod k => i % k
  | .zeroElse a b => if i = 0 then a else b
  | .table l => l.getD i 0
  | .atLeast k a b => if i < k then a else b

/-- The key of one instance of a field in the register map; fields of different registers never share one. -/
def Field.key (f : Field) (i : Nat) : Nat := (f.off * 128 + f.lo) * 2 ^ 32 + i % 2 ^ 32

/-- The value of one instance of a register field. -/
def State.getI (s : State) (f : Field) (i : Nat) : Nat :=
  match Map.find? s.regs (f.key i) with
  | some v => v
  | none => f.resetAt i

/-- The value of a register field of a register that stands alone. -/
def State.get (s : State) (f : Field) : Nat := s.getI f 0

/-- A state with one instance of a register field set; a field at its reset value is not listed. -/
def State.setI (s : State) (f : Field) (i v : Nat) : State :=
  if v % 2 ^ f.width = f.resetAt i then (s.updRegs (fun _ => Map.del s.regs (f.key i)))
  else (s.updRegs (fun _ => Map.put s.regs (f.key i) (v % 2 ^ f.width)))

/-- A state with one field of a register that stands alone set. -/
def State.set (s : State) (f : Field) (v : Nat) : State := s.setI f 0 v

/-- The effective value of a field whose values outside its limits act as the nearer limit. -/
def State.effI (s : State) (f : Field) (i : Nat) : Nat :=
  if f.limHi = 0 then s.getI f i else clamp f.limLo f.limHi (s.getI f i)

/-- The effective value of a field of a register that stands alone. -/
def State.eff (s : State) (f : Field) : Nat := s.effI f 0

/-- Whether a one-bit field is set. -/
def State.flagI (s : State) (f : Field) (i : Nat) : Bool := s.getI f i == 1

/-- Whether a one-bit field of a register that stands alone is set. -/
def State.flag (s : State) (f : Field) : Bool := s.get f == 1

/-- Several fields of one instance set in turn. -/
def State.setsI (s : State) (i : Nat) (l : List (Field × Nat)) : State :=
  l.foldl (fun t p => t.setI p.1 i p.2) s

/-- Several fields set in turn. -/
def State.sets (s : State) (l : List (Field × Nat)) : State := s.setsI 0 l

/-! ### Device memory -/

/-- R20: the spaces of device memory, as they stand in one address map: stacked memory,
then the memory of each tile. -/
def tileMemBase (t : Nat) : Nat := 2 ^ 48 + t * 2 ^ 24

/-- One byte of device memory; a byte nothing has written reads as zero (DESIGN CHOICE). -/
def memRead (s : State) (a : Nat) : Byte := (Map.find? s.mem a).getD 0

/-- One byte of device memory written; a zero is not listed. -/
def memWrite (s : State) (a : Nat) (b : Byte) : State :=
  if b = 0 then (s.updMem (fun _ => Map.del s.mem a)) else (s.updMem (fun _ => Map.put s.mem a b))

/-- A byte string written to consecutive addresses. -/
def memWriteList (s : State) (a : Nat) (l : List Byte) : State :=
  match l with
  | [] => s
  | b :: t => memWriteList (memWrite s a b) (a + 1) t

/-- n consecutive bytes of device memory. -/
def memReadList (s : State) (a n : Nat) : List Byte :=
  match n with
  | 0 => []
  | n + 1 => memRead s a :: memReadList s (a + 1) n

/-- A range of device memory zeroed. -/
def memZero (s : State) (a n : Nat) : State :=
  (s.updMem (fun _ => s.mem.filter (fun p => p.1 < a || a + n ≤ p.1)))

/-- The canonical form of the memory: addresses strictly rising, no zero byte listed. -/
def Memory.wf (m : List Host.Cell) : Bool :=
  match m with
  | [] => true
  | [(_, b)] => b != 0
  | (a, b) :: (a', b') :: t => b != 0 && decide (a < a') && Memory.wf ((a', b') :: t)

/-! ### Time -/

/-- The stroke period in nanoseconds (R33, R74); the reserved code 3 is never loaded. -/
def State.period (s : State) : Nat := 128 * 2 ^ s.get Reg.STK_CTL_PERIOD

/-- The stroke count. -/
def State.stroke (s : State) : Nat := s.get Reg.STK_COUNT_COUNT

/-- R27: compact time of an instant in ns since the epoch. -/
def compactTime (ns : Nat) : Nat := ((ns / 1000000000) % 2 ^ 34) * 2 ^ 30 + ns % 1000000000

/-- R27: the instant in ns that a compact time denotes, as seen at an instant in ns: the nearest one
with its 34 low bits of seconds, at or after the epoch. -/
def expandTime (nowNs c : Nat) : Nat :=
  let nowS := nowNs / 1000000000
  let lo := c / 2 ^ 30 % 2 ^ 34
  let base := nowS / 2 ^ 34 * 2 ^ 34 + lo
  let sec := if nowS + 2 ^ 33 < base ∧ 2 ^ 34 ≤ base then base - 2 ^ 34 else if base + 2 ^ 33 < nowS then base + 2 ^ 34 else base
  sec * 1000000000 + c % 2 ^ 30

/-- Compact time now. -/
def State.now (s : State) : Nat := compactTime s.stk.phcNs

/-- R15: the device state. -/
def State.dev (s : State) : Nat := s.get Reg.IDN_STATE_STATE

/-- R15, R34: the states in which stroke-bound units run. -/
def State.running (s : State) : Bool :=
  s.dev == 3 || s.dev == 4 || s.dev == 5 || s.dev == 6

/-- A free value: the next draw of an opaque constant (R708, R123). -/
def State.draw (s : State) : Nat × State := (Config.freeNat s.free, (s.updFree (fun _ => s.free + 1)))

/-- Something leaves the block. -/
def State.emit (s : State) (o : Out) : State := s.updOut (fun _ => s.out ++ [o])

/-! ### Events (R273, R274) -/

/-- An occurrence added to the occurrences of the running stroke. -/
def evMerge (l : List EvOcc) (e : EvOcc) : List EvOcc :=
  match l with
  | [] => [e]
  | h :: t =>
    if h.id = e.id ∧ h.obj = e.obj ∧ h.target = e.target then { h with count := h.count + e.count } :: t
    else h :: evMerge t e

/-- An event raised, for an object and a target, with DATA bytes 8 to 14 as a number. -/
def raiseTo (tgt : EvTarget) (id obj data : Nat) (s : State) : State :=
  (s.updEvents (fun _ => evMerge s.events ⟨id, obj, tgt, 1, s.now, data % 2 ^ 56⟩))

/-- A device-scoped event raised. -/
def raise (id obj data : Nat) (s : State) : State := raiseTo .device id obj data s

/-! ### Rings of entries -/

/-- The entries, newest first, that a ring of so many places still holds. -/
def newest {α : Type} (places : Nat) (l : List α) : List α := l.take places

/-- The oldest sequence that a ring of so many places holds once its newest is `head`. -/
def oldestSeq (places head : Nat) : Nat := max 1 (head + 1 - places)

/-- R721: the places of the patina log. -/
def patinaPlaces : Nat := 65536

/-- R715: the places of the journal region. -/
def journalPlaces : Nat := 1048576

/-! ### Patina log (R721 to R724) -/

/-- The severities of R722. -/
def Sev.info : Nat := 0
def Sev.warning : Nat := 1
def Sev.error : Nat := 2
def Sev.fatal : Nat := 3

/-- R741, R732: the status bit and event of an occurrence at or above EVENT_SEV. -/
def patinaNotice (code sev : Nat) (s : State) : State :=
  if s.get Reg.PAT_CFG_EVENT_SEV ≤ sev then
    raise Ev.patEntry 0 (code + sev * 2 ^ 16) (s.set Reg.PAT_STATUS_NEW_ENTRY 1)
  else s

/-- R723: an occurrence merged into the newest entry. -/
def patinaMerge (h : PEntry) (t : List PEntry) (s : State) : State :=
  (s.updPat (fun u => { u with ring := { h with count := h.count + 1, merged := true } :: t }))

/-- R721: an entry put at the head of the ring. -/
def patinaPush (e : PEntry) (s : State) : State :=
  ((s.updPat (fun u => { u with ring := newest patinaPlaces (e :: u.ring) })).set Reg.PAT_HEAD_SEQ e.seq).set Reg.PAT_OLDEST_SEQ
    (oldestSeq patinaPlaces e.seq)

/-- R724: an entry pinned; the last free place fills the store. -/
def patinaPin (e : PEntry) (s : State) : State :=
  let n := s.get Reg.PAT_PIN_INFO_USED + 1
  let s := s.updPat (fun u => { u with pinned := u.pinned ++ [e] })
  let s := (s.set Reg.PAT_PIN_INFO_USED n).set Reg.PAT_STATUS_PINNED 1
  raise Ev.patPinned 0 e.code (if n = 1024 then s.set Reg.PAT_STATUS_PINNED_FULL 1 else s)

/-- R724: a FATAL entry that finds the store of pinned entries full. -/
def patinaOverflow (s : State) : State :=
  s.set Reg.PAT_PIN_INFO_OVERFLOW (min (2 ^ 32 - 1) (s.get Reg.PAT_PIN_INFO_OVERFLOW + 1))

/-- R722: the entry of an occurrence. -/
def patinaEntry (code sev detail : Nat) (s : State) : PEntry :=
  ⟨s.get Reg.PAT_HEAD_SEQ + 1, sev, sev == Sev.fatal && decide (s.pat.pinned.length < 1024), false, !s.stk.phcRunning,
    if s.stk.phcRunning then s.now else 0, code, 1, s.get Reg.JNL_EPOCH_EPOCH, detail % 2 ^ 64⟩

/-- R721, R724: a new entry, pinned when FATAL and room is left. -/
def patinaNew (code sev detail : Nat) (s : State) : State :=
  let e := patinaEntry code sev detail s
  let s := patinaPush e s
  if e.pinned then patinaPin e s else if sev = Sev.fatal then patinaOverflow s else s

/-- An occurrence recorded in the patina log. -/
def patina (code sev detail : Nat) (s : State) : State :=
  patinaNotice code sev <|
    match s.pat.ring with
    | h :: t =>
      if h.code = code ∧ h.detail = detail % 2 ^ 64 ∧ h.count < 0xFFFF ∧ sev ≠ Sev.fatal then
        patinaMerge h t s
      else patinaNew code sev detail s
    | [] => patinaNew code sev detail s

/-! ### Counters (R728, R729) -/

/-- The SAT field beside a class B COUNT field. -/
def Field.sat (f : Field) : Field := { f with lo := 32, width := 1, access := .w1c }

/-- R729: the location of a counter as PAT_SAT_LAST and EV_CNT_SAT give it. -/
def satLocation (off i : Nat) : Nat :=
  if off < 0x2000000 then off else 2 ^ 25 + (i % 4096) * 2 ^ 12 + off % 2 ^ 12

/-- R729: a class B counter incremented by n at BAR0 offset off. -/
def countAt (f : Field) (i off n : Nat) (s : State) : State :=
  let c := s.getI f i
  let c' := min 0xFFFFFFFF (c + n)
  let s := s.setI f i c'
  if c' = 0xFFFFFFFF ∧ s.getI f.sat i = 0 then
    let s := s.setI f.sat i 1
    let s := s.set Reg.PAT_STATUS_CNT_SAT 1
    let loc := satLocation off i
    let s := s.sets [(Reg.PAT_SAT_LAST_STROKE, s.stroke), (Reg.PAT_SAT_LAST_NICHE_PAGE, loc / 2 ^ 25),
      (Reg.PAT_SAT_LAST_OFFSET, loc)]
    raise Ev.cntSat loc loc s
  else s

/-- The BAR0 offset of one instance of a register array; a windowed register stands at one offset. -/
def instanceOffset (f : Field) (i : Nat) : Nat :=
  match Reg.table.find? (fun d => d.off == f.off && d.win == .none) with
  | some d => d.off + i / d.count2 * d.stride + i % d.count2 * d.stride2
  | none => f.off

/-- A class B counter of an array incremented by one. -/
def countI (f : Field) (i : Nat) (s : State) : State := countAt f i (instanceOffset f i) 1 s

/-- A class B counter of a register that stands alone incremented by one. -/
def count (f : Field) (s : State) : State := countI f 0 s

/-- A class A counter increased by n. -/
def addI (f : Field) (i n : Nat) (s : State) : State := s.setI f i (s.getI f i + n)

/-! ### Deferred changes (R38) -/

/-- R38: the boundary ordinal at which a change accepted now takes effect. -/
def State.dueBoundary (s : State) : Nat :=
  if s.stk.counting ∧ s.stk.phase = 2 then s.stk.boundary + 2 else s.stk.boundary + 1

/-- A change held for its boundary, after those accepted before it. -/
def State.defer (s : State) (c : Change) : State :=
  (s.updDeferred (fun _ => s.deferred ++ [(s.dueBoundary, c)]))

/-! ### Journal (R705 to R713) -/

/-- The ROLE byte. -/
def roleCode (r : Role) : Nat :=
  match r with
  | .owner => 0 | .platform => 1 | .manager => 2 | .tenant => 3 | .device => 4

/-- The ORIGIN byte. -/
def originCode (o : Origin) : Nat :=
  match o with
  | .device => 0 | .host => 1 | .mctp => 2 | .fabric => 3 | .tile => 4

/-- R710: bytes 0 to 59 of an entry as a number. -/
def JEntry.head (e : JEntry) : Nat :=
  e.seq % 2 ^ 64 + e.epoch % 2 ^ 32 * 2 ^ 64 + e.kind % 2 ^ 16 * 2 ^ 96 + roleCode e.role * 2 ^ 112
  + e.flags % 256 * 2 ^ 120 + e.time % 2 ^ 64 * 2 ^ 128 + e.niche % 4096 * 2 ^ 192
  + originCode e.origin * 2 ^ 208 + e.ap % 256 * 2 ^ 216 + e.originId % 2 ^ 16 * 2 ^ 224
  + e.status % 256 * 2 ^ 240 + e.body % 2 ^ 224 * 2 ^ 256

/-- R710: the 64 bytes of an entry, its CRC last, as a number. -/
def JEntry.word (e : JEntry) : Nat :=
  e.head + crc32c (toBytes 60 e.head) * 2 ^ 480

/-- R713: the entries below a checkpoint whose bytes enter its chain, oldest first, as
(length in bytes, number). -/
def chainBytes (l : List JEntry) : Nat × Nat :=
  l.foldl (fun (n, v) e => (n + 64, v * 2 ^ 512 + e.word)) (0, 0)

/-- One entry put into the journal; the sequence is the next (R707). -/
def jPut (e : JEntry) (s : State) : State :=
  let seq := s.get Reg.JNL_HEAD_SEQ + 1
  let e := { e with seq := seq, epoch := s.get Reg.JNL_EPOCH_EPOCH, time := s.now }
  let s := s.updJnl (fun u => { u with log := newest journalPlaces (e :: s.jnl.log) })
  (s.set Reg.JNL_HEAD_SEQ seq).set Reg.JNL_OLDEST_SEQ (oldestSeq journalPlaces seq)

/-- R713: the state digest of a checkpoint. -/
def jCheckpoint (s : State) : State :=
  let seq := s.get Reg.JNL_HEAD_SEQ + 1
  let (n, v) := chainBytes (s.jnl.log.take 4095)
  let chain := Config.sha384 (n + 24) (s.jnl.chain + v * 2 ^ 192) % 2 ^ 192
  let body := chain + s.get Reg.NCH_STATUS_IN_USE % 2 ^ 16 * 2 ^ 192 + s.dev * 2 ^ 208
  let s := s.updJnl (fun u => { u with chain := chain })
  let s := jPut ⟨0, 0, 0x1000, .device, 0, 0, 0, .device, 0, 0, 0, body⟩ s
  s.set Reg.JNL_CKPT_SEQ seq

/-- R718: what the journal's growth raises while ACK is not zero. -/
def jPace (s : State) : State :=
  let ack := s.get Reg.JNL_ACK_ACK
  let head := s.get Reg.JNL_HEAD_SEQ
  if ack = 0 then s
  else
    let lag := s.eff Reg.JNL_CFG_LAG_WARN ≤ head - ack
    let s := s.set Reg.JNL_STATUS_LAG (if lag then 1 else 0)
    let s := if lag ∧ s.jnl.lagRaised = false then raise Ev.jnlLag 0 (head % 2 ^ 48) s else s
    let s := s.updJnl (fun u => { u with lagRaised := decide lag })
    if journalPlaces < head ∧ ack < head - journalPlaces then
      raise Ev.jnlOverrun 0 ((head - journalPlaces) % 2 ^ 48) (s.set Reg.JNL_STATUS_OVERRUN 1)
    else s

/-- One entry journaled, behind a CHECKPOINT when its sequence falls on one (R713). -/
def jEntry (e : JEntry) (s : State) : State :=
  let s := if (s.get Reg.JNL_HEAD_SEQ + 1) % 4096 = 0 then jCheckpoint s else s
  jPace (jPut e s)

/-- A record of one or more bodies journaled (R710): CONTINUED in all but the last. -/
def jRecord (e : JEntry) (bodies : List Nat) (s : State) : State :=
  match bodies with
  | [] => s
  | [b] => jEntry { e with body := b } s
  | b :: rest => jRecord e rest (jEntry { e with flags := e.flags ||| 1, body := b } s)

/-- R712: one of the device's own records. -/
def jDevice (kind niche status : Nat) (bodies : List Nat) (s : State) : State :=
  jRecord ⟨0, 0, kind, .device, if status = 0 then 0 else 4, 0, niche, .device, 0, 0, status, 0⟩ bodies s

/-- The bodies of a descriptor of `len` bytes (R711): its first 16 bytes stand in 44 to 59
of the first body, the rest in continuations of 28 bytes. -/
def descBodies (fuel base len d : Nat) : List Nat :=
  let rec rest (fuel d len : Nat) : List Nat :=
    match fuel with
    | 0 => []
    | fuel + 1 => if len = 0 then [] else d % 2 ^ 224 :: rest fuel (d >>> 224) (len - 28)
  (base + d % 2 ^ 128 * 2 ^ 96) :: rest fuel (d >>> 128) (len - 16)

/-- R709: a command that would be journaled is refused until the region is ready,
except those of the platform and the device. -/
def State.jReady (s : State) (who : Issuer) : Bool :=
  s.flag Reg.JNL_STATUS_REGION_READY || who.role == .platform || who.role == .device || who.origin == .mctp

/-- R711: the record of a command of a command register of block `blk`. -/
def jCommand (blk : Nat) (p : CmdPend) (status : Nat) (s : State) : State :=
  let base := p.arg % 2 ^ 64 + p.obj % 2 ^ 32 * 2 ^ 64
  let e : JEntry := ⟨0, 0, blk * 256 + p.op % 256, p.who.role, if status = 0 then 0 else 4, 0, p.niche,
    p.who.origin, p.who.ap, p.who.id, status, 0⟩
  match p.desc with
  | some (len, d) => jRecord e (descBodies (len / 28 + 1) base len d) s
  | none => jRecord e [base + p.param % 2 ^ 64 * 2 ^ 96 + p.param2 % 2 ^ 64 * 2 ^ 160] s

/-- R711: the record of a register write. -/
def jRegWrite (who : Issuer) (niche off val before status : Nat) (s : State) : State :=
  jEntry ⟨0, 0, regBlock off * 256 + 0xFF, who.role, if status = 0 then 0 else 4, 0, niche,
    who.origin, who.ap, who.id, status, off % 2 ^ 32 + val % 2 ^ 64 * 2 ^ 64 + before % 2 ^ 64 * 2 ^ 128⟩ s
where
  /-- The block of R272 in whose BAR0 range (R21) an offset lies. -/
  regBlock (off : Nat) : Nat :=
    match off / 2 ^ 20 with
    | 0 => 0 | 1 => 1 | 2 => 2 | 3 => 3 | 4 => 4 | 5 => 5 | 6 => 6 | 8 => 7 | 9 => 7 | 10 => 8 | 11 => 9
    | 12 => 10 | 13 => 11 | 14 => 12 | 15 => 13 | 16 => 14 | 17 => 15 | 18 => 16 | 19 => 17 | 20 => 18 | 21 => 19
    | _ => 4

/-- R691: at entry to SERVICE the loops begin new samples, and runs under evaluation are gone. -/
def enterService (s : State) : State :=
  ((s.updRgl (fun u => { u with since := s.stroke, recalls := [], rings := [], overrun := false, dropped := none, busyTo := 0, loops := s.rgl.loops.map fun p => (p.1, { p.2 with pending := none, sample := none }) })).updTlt (fun u => { u with peers := s.tlt.peers.map fun p =>
             (p.1, { p.2 with rate := { p.2.rate with acked := 0, ce := 0, retx := 0, busy := 0, samples := 0 } }) }))

/-- The device moves to another state; the move is journaled from BOOT onwards (R16, R712). At entry to
VERSIONED mode the staged rules start equal to the live ones (R396, R400). -/
def enterState (new cause : Nat) (s : State) : State :=
  let old := s.dev
  let versioned (d : Nat) : Bool := d == 3 || d == 5 || d == 6
  let s := (s.set Reg.IDN_STATE_STATE new).set Reg.PRS_VER_VERSIONED (if new = 4 then 0 else 1)
  let s := if versioned new ∧ versioned old = false then (s.updPrs (fun u => { u with staged := s.prs.live })) else s
  let s := s.set Reg.RGL_CTL_FROZEN (if new = 4 then 0 else 1)
  let s := if new = 4 ∧ old ≠ 4 then enterService s else s
  jDevice 0x1003 0 0 [old + new * 256 + cause % 2 ^ 16 * 2 ^ 16] s

/-! ### Bound violations and dropped accesses -/

/-- R117: a write that is not applied: patina entry, ARM_BOUND_LAST, BOUND_VIOL, event. -/
def boundViolation (off : Nat) (s : State) : State :=
  let s := s.sets [(Reg.ARM_BOUND_LAST_OFFSET, off), (Reg.ARM_BOUND_LAST_STROKE, s.stroke)]
  let s := patina 0x0200 Sev.warning (off % 2 ^ 25 * 2 ^ 32 + s.stroke % 2 ^ 32) s
  if s.flag Reg.ARM_STATUS_BOUND_VIOL then s
  else raise Ev.armBound 0 (off % 2 ^ 25) (s.set Reg.ARM_STATUS_BOUND_VIOL 1)

/-- R20, R725: an access dropped and logged. -/
def accessDropped (ap off size : Nat) (s : State) : State :=
  patina 0x0000 Sev.warning (ap % 4 * 2 ^ 62 + off % 2 ^ 25 * 2 ^ 32 + size % 256) s

/-! ### Command registers (R828) -/

/-- What carrying out a command gives at once: done with a status and an object, or
running until a later command of the table ends it. -/
inductive CmdRes where
  | done (status obj : Nat) (s : State)
  | running (s : State)

/-- The status register of a command block reports a command, and its event is raised. -/
def cmdReport (b : CmdBlk) (op status obj : Nat) (s : State) : State :=
  let s := s.sets [(b.status, status), (b.op, op), (b.stroke, s.stroke)]
  let s := if b.hasObj then s.set b.obj obj else s
  raise b.ev 0 status s

/-- A command ends: its outcome is journaled, then reported (R707). -/
def cmdFinish (b : CmdBlk) (p : CmdPend) (status : Nat) (s : State) : State :=
  cmdReport b p.op status p.obj (jCommand b.num p status s)

/-- A running command ends: BUSY clears and its outcome is journaled and reported. -/
def cmdEnd (b : CmdBlk) (status : Nat) (s : State) : State :=
  match Map.find? s.cmds b.num with
  | some p => cmdFinish b p status (((s.updCmds (fun _ => Map.del s.cmds b.num))).set b.busy 0)
  | none => s

/-- A command starts: refused before the region is ready (R709), while another runs, or
for want of role; else it is carried out. -/
def cmdStart (b : CmdBlk) (p : CmdPend) (allowed : Bool) (act : State → CmdRes) (s : State) : State :=
  if s.jReady p.who = false then cmdReport b p.op St.busy p.obj s
  else if s.flag b.busy then cmdFinish b p St.busy s
  else if allowed = false then cmdFinish b p St.permission s
  else match act s with
    | .done st obj t => cmdFinish b { p with obj := obj } st t
    | .running t => ((t.updCmds (fun _ => Map.put t.cmds b.num p))).set b.busy 1

end Sys2Proof.Machine
end

