-- ==== Sys2Proof/Machine/Operands.lean ====
section
/-!
DEFINITION. The operand forms every family shares: who may reach a register (R18, R20,
R165, R790), what a read answers, the keys of the replaceable units (R746), the fields an
armature section names, and the accessor of a latched read (R726, R729).
-/
namespace Sys2Proof.Machine

/-- R790: whether the block of a BAR0 offset answers in the present device state. -/
def State.blockAnswers (s : State) (off : Nat) : Bool :=
  let b := off / 2 ^ 20
  if s.dev = 7 then b == 0 || b == 2 || b == 18 || b == 19 || b == 20 || b == 21
  else if s.dev ≤ 1 then b == 21
  else true

/-- R187, R189: whether a host function on an attachment point can be the manager PF. -/
def State.managerAt (s : State) (ap : Nat) : Bool := !s.flag Reg.HIF_MGR_VACANT && s.get Reg.HIF_MGR_ACTIVE_AP == ap

/-- R18, R165, R187: whether an issuer may write registers: the manager PF (or a device on the fabric, R655), the platform
or the device itself. -/
def State.mayWriteRegs (s : State) (who : Issuer) : Bool :=
  match who.role with
  | .manager => who.origin != .host || s.managerAt who.ap
  | .platform => true
  | .device => true
  | _ => false

/-- R20, R165: a register write reaches its register when the issuer may write registers and the block answers; else it
is dropped and logged. -/
def regGate (who : Issuer) (off : Nat) (s : State) (f : State → State) : State :=
  if s.mayWriteRegs who = true ∧ s.blockAnswers off = true then f s
  else accessDropped who.ap off 8 s

/-- R709: a register write that would be journaled changes nothing before the journal's region is ready. -/
def setGate (who : Issuer) (off : Nat) (s : State) (f : State → State) : State :=
  regGate who off s fun s => if s.jReady who then f s else s

/-- R165: a register read is answered to the manager and the standby alike. -/
def readGate (who : Issuer) (off : Nat) (s : State) (f : State → State) : State :=
  if s.blockAnswers off then f s
  else (accessDropped who.ap off 8 s).emit (.hostReply who.ap who.id 0 (2 ^ 64 - 1))

/-- The answer to a register read. -/
def reply (who : Issuer) (v : Nat) (s : State) : State :=
  match who.origin with
  | .mctp => s.emit (.mctp who.id St.ok [v])
  | _ => s.emit (.hostReply who.ap who.id 0 v)

/-- R726, R729: the number of an accessing function, or of the platform. -/
def accessor (who : Issuer) : Nat :=
  match who.origin with
  | .mctp => 2 ^ 18
  | _ => who.ap % 4 * 2 ^ 16 + who.id % 2 ^ 16

/-- R746: the key of a unit. -/
def unitKey (kind index : Nat) : Nat := kind * 128 + index

/-- R746: how many units a kind has; 0 for a reserved kind. -/
def unitCount (kind : Nat) : Nat := [96, 24, 12, 18, 128, 2, 16].getD kind 0

/-- The field of the register table at an offset and lowest bit. -/
def findField (off lo : Nat) : Option Field :=
  (Reg.table.filter (fun d => d.off == off)).findSome? fun d =>
    d.fields.find? fun f => f.lo == lo

/-- One register field that a section sets. -/
def putSecField (s : State) (e : SecField) : State :=
  match findField e.off e.lo with
  | some f => s.setI f e.idx e.val
  | none => s

/-- The register fields that a section's body sets. -/
def putSecFields (l : List SecField) (s : State) : State := l.foldl putSecField s

/-- The values that the fields of a section hold now. -/
def readSecFields (s : State) (l : List SecField) : List SecField :=
  l.map fun e => match findField e.off e.lo with
    | some f => { e with val := s.getI f e.idx }
    | none => e

/-- The value of a 64-bit register as its fields give it. -/
def regValue (s : State) (d : RegDef) (i : Nat) : Nat :=
  d.fields.foldl (fun v f => if f.access = .wo then v else v + s.getI f i % 2 ^ 64 * 2 ^ f.lo) 0 % 2 ^ 64

/-! ### Finding and reading a register -/

/-- The object that a windowed register refers to: what its selector register holds. -/
def winIndex (s : State) (w : Win) (who : Issuer) (tile : Nat) : Nat :=
  match w with
  | .none => 0
  | .fuseRec => s.get Reg.ARM_FUSE_REC_IDX_INDEX
  | .fn => s.get Reg.HIF_FN_SEL_AP * 65536 + s.get Reg.HIF_FN_SEL_RID
  | .niche => s.get Reg.NCH_SEL_NICHE
  | .nicheRes => s.get Reg.NCH_SEL_NICHE * 16 + s.get Reg.NCH_SEL_RES
  | .pool => s.get Reg.NCH_POOL_SEL_POOL * 16 + s.get Reg.NCH_POOL_SEL_RES
  | .ring => s.get Reg.RNG_SEL_RING
  | .evroute => s.get Reg.RNG_EVROUTE_SEL_EVENT_ID
  | .dmaNiche => s.get Reg.DMA_NSEL_NICHE
  | .chan => tile * 256 + s.getI Reg.TIL_CH_SEL_CH tile
  | .prsCnt => s.get Reg.PRS_CNT_SEL_INDEX
  | .prsTbl => s.get Reg.PRS_TBL_SEL_TABLE
  | .tbl => s.get Reg.TBL_SEL_TABLE
  | .tblNiche => s.get Reg.TBL_NSEL_NICHE
  | .node => s.get Reg.SCH_NODE_SEL_NODE
  | .policer => s.get Reg.SCH_POL_SEL_POLICER
  | .peerT => s.get Reg.TLT_PEER_SEL_DEVICE
  | .tltNiche => s.get Reg.TLT_NSEL_NICHE
  | .ctrl => s.get Reg.NVS_CTRL_SEL_CTRL
  | .ns => s.get Reg.NVS_NS_SEL_NS
  | .peer => s.get Reg.FAB_PEER_SEL_DEVICE
  | .path => s.get Reg.FAB_PEER_SEL_DEVICE * 64 + s.get Reg.FAB_PATH_SEL_PATH
  | .seg => s.get Reg.FAB_SEG_SEL_SEG
  | .beEntry => s.get Reg.RGL_BE_SEL_ENTRY
  | .accessor => accessor who
  | .unit => unitKey (s.get Reg.SVC_UNIT_SEL_KIND) (s.get Reg.SVC_UNIT_SEL_INDEX)

/-- R20, R21, R218: the position of an offset in a register's array, if it is one of its instances. -/
def RegDef.at? (d : RegDef) (off : Nat) : Option (Nat × Nat) :=
  if off < d.off then none
  else
    let r := off - d.off
    let a := if d.stride = 0 then 0 else min (d.count - 1) (r / d.stride)
    let b := if d.stride2 = 0 then 0 else min (d.count2 - 1) ((r - a * d.stride) / d.stride2)
    if r = a * d.stride + b * d.stride2 then some (a, b) else none

/-- The register at an offset, and which instance of its fields an access there reaches. -/
def findReg (s : State) (who : Issuer) (off : Nat) : Option (RegDef × Nat) :=
  Reg.table.findSome? fun d => (d.at? off).map fun p =>
    (d, match d.win with
        | .none => p.1 * d.count2 + p.2
        | w => winIndex s w who p.1)

/-- R729: the registers of the low halves of the 80-bit counters; the high half follows each. -/
def lowHalves : List Nat := [0xA00078, 0xC00058, 0xD000E8, 0xD000F8]

/-- R462, R500: a register that reads zero for the object selected: the L2 settings of another table, the queue settings of a
node that is no queue. -/
def readsZero (s : State) (d : RegDef) (i : Nat) : Bool :=
  (d.off == 0xB00060 && !s.flagI Reg.TBL_INFO_L2 i) || (d.off == 0xC00040 && i / 2 ^ 17 % 8 != 0)

/-- R23, R729: what a read of a register answers and does: a field that reads clear is cleared, the low half of an 80-bit
counter latches its high part, and the high half answers what its accessor's last low read latched. -/
def readReg (who : Issuer) (d : RegDef) (i : Nat) (s : State) : Nat × State :=
  let k := d.off * 2 ^ 20 + accessor who
  if lowHalves.contains d.off then
    let v := match d.fields with
      | f :: _ => s.getI f i
      | [] => 0
    (v % 2 ^ 64, (s.updJnl (fun u => { u with counterLatch := Map.put s.jnl.counterLatch k (v / 2 ^ 64) })))
  else if lowHalves.contains (d.off - 8) then
    ((Map.find? s.jnl.counterLatch ((d.off - 8) * 2 ^ 20 + accessor who)).getD 0, s)
  else (if readsZero s d i then 0 else regValue s d i, d.fields.foldl (fun s f => if f.access = .rc then s.setI f i 0 else s) s)

/-- The command register of a block other than the armature's (R413, R415). -/
def Blk.nch : CmdBlk := ⟨4, Reg.NCH_CMD_BUSY, Reg.NCH_CMD_STATUS_STATUS, Reg.NCH_CMD_STATUS_OP, Reg.NCH_CMD_STATUS_STROKE, true, Reg.NCH_CMD_STATUS_NICHE, Ev.nchCmdDone⟩
def Blk.rng : CmdBlk := ⟨5, Reg.RNG_CMD_BUSY, Reg.RNG_CMD_STATUS_STATUS, Reg.RNG_CMD_STATUS_OP, Reg.RNG_CMD_STATUS_STROKE, true, Reg.RNG_CMD_STATUS_RING, Ev.rngCmdDone⟩
def Blk.prs : CmdBlk := ⟨8, Reg.PRS_CMD_BUSY, Reg.PRS_CMD_STATUS_STATUS, Reg.PRS_CMD_STATUS_OP, Reg.PRS_CMD_STATUS_STROKE, false, Reg.PRS_CMD_OP, Ev.prsCmdDone⟩
def Blk.tbl : CmdBlk := ⟨9, Reg.TBL_CMD_BUSY, Reg.TBL_CMD_STATUS_STATUS, Reg.TBL_CMD_STATUS_OP, Reg.TBL_CMD_STATUS_STROKE, false, Reg.TBL_CMD_OP, Ev.tblCmdDone⟩
def Blk.sch : CmdBlk := ⟨10, Reg.SCH_CMD_BUSY, Reg.SCH_CMD_STATUS_STATUS, Reg.SCH_CMD_STATUS_OP, Reg.SCH_CMD_STATUS_STROKE, false, Reg.SCH_CMD_OP, Ev.schCmdDone⟩
def Blk.nvs : CmdBlk := ⟨12, Reg.NVS_CMD_BUSY, Reg.NVS_CMD_STATUS_STATUS, Reg.NVS_CMD_STATUS_OP, Reg.NVS_CMD_STATUS_STROKE, true, Reg.NVS_CMD_STATUS_OBJECT, Ev.nvsCmdDone⟩
def Blk.fab : CmdBlk := ⟨14, Reg.FAB_CMD_BUSY, Reg.FAB_CMD_STATUS_STATUS, Reg.FAB_CMD_STATUS_OP, Reg.FAB_CMD_STATUS_STROKE, true, Reg.FAB_CMD_STATUS_OBJECT, Ev.fabCmdDone⟩
def Blk.jnl : CmdBlk := ⟨16, Reg.JNL_CMD_BUSY, Reg.JNL_CMD_STATUS_STATUS, Reg.JNL_CMD_STATUS_OP, Reg.JNL_CMD_STATUS_STROKE, false, Reg.JNL_CMD_OP, Ev.jnlCmdDone⟩
def Blk.svc : CmdBlk := ⟨18, Reg.SVC_CMD_BUSY, Reg.SVC_CMD_STATUS_STATUS, Reg.SVC_CMD_STATUS_OP, Reg.SVC_CMD_STATUS_STROKE, false, Reg.SVC_CMD_OP, Ev.svcCmdDone⟩
def Blk.pwr : CmdBlk := ⟨19, Reg.PWR_CMD_BUSY, Reg.PWR_CMD_STATUS_STATUS, Reg.PWR_CMD_STATUS_OP, Reg.PWR_CMD_STATUS_STROKE, false, Reg.PWR_CMD_OP, Ev.pwrCmdDone⟩

/-- A command of a block written by an issuer: its operation, object and parameters. -/
def cmdOf (op : Nat) (who : Issuer) (obj arg param : Nat) : CmdPend := ⟨op, who, 0, obj, arg, param, 0, none⟩

end Sys2Proof.Machine
end

