-- ==== Sys2Proof/Machine/Flags.lean ====
section
/-!
DEFINITION. The status flags that commands compute: the class B and class A counters as a
group (R728, R729), the throttle level (R792), the alignment and availability conditions
(R766), the partitions' ACTIVE counts (R155), and the balls that follow the state (R813).
-/
namespace Sys2Proof.Machine

/-- The state of a replaceable unit (R17, R773). -/
def State.unitState (s : State) (kind index : Nat) : Nat := s.getI Reg.SVC_UNIT_INFO_STATE (unitKey kind index)

/-- Whether a unit takes work: ACTIVE or in PROBATION. -/
def State.unitServes (s : State) (kind index : Nat) : Bool :=
  s.unitState kind index == 0 || s.unitState kind index == 3

/-- R755, R773: the physical tile that serves a logical tile. -/
def State.servingTile (s : State) (t : Nat) : Nat :=
  ((List.range 96).find? fun p => s.getI Reg.SVC_UNIT_INFO_LOGICAL (unitKey 0 p) == t).getD t

/-- R755: whether the tile that serves a logical tile takes work. -/
def State.tileServes (s : State) (t : Nat) : Bool := s.unitServes 0 (s.servingTile t)

/-- R755, R756: a physical tile that serves no logical tile and is not OUT is a STANDBY tile. -/
def State.standbyTile (s : State) (p : Nat) : Bool :=
  s.getI Reg.SVC_UNIT_INFO_LOGICAL (unitKey 0 p) == 0xFF && s.getI Reg.TIL_INFO_ROLE p != 3

/-- R760: the share of a unit in PROBATION as the logarithm of its divisor: 4, less one for each 64 strokes since it joined. -/
def State.unitShare (s : State) (kind index : Nat) : Nat :=
  match Map.find? s.svc.probation (unitKey kind index) with
  | some b => if s.unitState kind index = 3 then 4 - (s.stk.boundary - b) / 64 else 0
  | none => 0

/-- R155: the ACTIVE units of a partition counted again. -/
def partitionCount (p : Nat) (s : State) : State :=
  let us := s.arm.unitPart.filter (fun e => e.2 == p)
  let n := us.length
  let a := (us.filter fun e => s.getI Reg.SVC_UNIT_INFO_STATE e.1 == 0).length
  (s.setI Reg.ARM_PART_UNITS p n).setI Reg.ARM_PART_ACTIVE p a

/-- R766: the condition bits of SVC_AVAIL, and the number of STANDBY tiles ACTIVE. -/
def availBits (s : State) : Nat × Nat :=
  let sb := ((List.range 96).filter fun t => s.standbyTile t && s.unitState 0 t == 0).length
  let up (a : Nat) := s.flagI Reg.HIF_LINK_UP a
  let hosts := (up 0 || up 1) && (up 2 || up 3) && s.getI Reg.HIF_CTL_MODE 0 != 2 && s.getI Reg.HIF_CTL_MODE 1 != 2
  let mgr := s.flag Reg.HIF_MGR_STANDBY_READY && s.flag Reg.HIF_MGR_AUTO_FAILOVER
  let port (l : List Nat) := l.any fun m => s.sch.linkUp.contains m
  let ports := port (List.range 8) && port ((List.range 8).map (· + 8))
  let spares := (List.range 4).all fun k => s.getI Reg.SVC_SPARE_STATE k == 1
  ((if 2 ≤ sb then 1 else 0) + (if hosts then 2 else 0) + (if mgr then 4 else 0)
    + (if ports then 8 else 0) + (if spares then 16 else 0), sb)

/-- R766, R776: SVC_AVAIL follows the conditions; a change raises EV_SVC_AVAIL. -/
def availUpdate (s : State) : State :=
  let (b, n) := availBits s
  let old := s.get Reg.SVC_AVAIL_STANDBY_TILES + 2 * s.get Reg.SVC_AVAIL_HOSTS + 4 * s.get Reg.SVC_AVAIL_STANDBY_MGR
    + 8 * s.get Reg.SVC_AVAIL_PORTS + 16 * s.get Reg.SVC_AVAIL_SPARES
  let all := if b = 31 then 1 else 0
  let s := s.sets [(Reg.SVC_AVAIL_STANDBY_COUNT, n), (Reg.SVC_AVAIL_ALL_MET, all), (Reg.SVC_AVAIL_SPARES, bit b 4),
    (Reg.SVC_AVAIL_PORTS, bit b 3), (Reg.SVC_AVAIL_STANDBY_MGR, bit b 2), (Reg.SVC_AVAIL_HOSTS, bit b 1),
    (Reg.SVC_AVAIL_STANDBY_TILES, bit b 0)]
  if b = old then s
  else
    let s := if (old &&& (b ^^^ 31)) ≠ 0 then s.set Reg.SVC_STATUS_AVAIL_LOST 1 else s
    raise Ev.svcAvail 0 (b + all * 128) s

/-- R792: the temperature demand that a reading calls for at once. -/
def tempDemand (t hot : Int) : Nat := if hot < t then 0 else min 3 (1 + ((hot - t) / 3).toNat)

/-- R686: the configured admission budgets: resident-ring intake, polls on H0 and H1, NVMe fetches. -/
def State.admitConf (s : State) (k : Nat) : Nat :=
  [4096, s.effI Reg.RNG_POLL_BUDGET_BUDGET 0, s.effI Reg.RNG_POLL_BUDGET_BUDGET 1, s.eff Reg.NVS_FETCH_BUDGET].getD k 0

/-- R686, R698: an admission budget in force, never above the configured one. -/
def State.admitted (s : State) (k : Nat) : Nat := min (s.admitConf k) ((Map.find? s.rgl.budgets k).getD (s.admitConf k))

/-- R698: RGL_ADMIT follows the budgets in force. -/
def admitShow (s : State) : State :=
  s.sets [(Reg.RGL_ADMIT_RES_INTAKE, s.admitted 0), (Reg.RGL_ADMIT_POLL_H0, s.admitted 1), (Reg.RGL_ADMIT_POLL_H1, s.admitted 2),
    (Reg.RGL_ADMIT_NVS_FETCH, s.admitted 3)]

/-- R795, R796: the device is in P1, or leaving it. -/
def State.inP1 (s : State) : Bool := decide (2 ≤ s.get Reg.PWR_STATE_PSTATE)

/-- R813: FAULT_N is asserted in SAFE and while MAIN_EN is held deasserted after a failure. -/
def State.faultAsserted (s : State) : Bool := s.dev == 7 || s.pwr.pgFailed

/-- R793: ALERT_N is asserted while CRIT or CAP_OVER is set. -/
def State.alertAsserted (s : State) : Bool := s.flag Reg.PWR_STATUS_CRIT || s.flag Reg.PWR_STATUS_CAP_OVER

end Sys2Proof.Machine
end

