-- ==== Sys2Proof/Machine/Wire.lean ====
section
/-!
DEFINITION. What every block does for a niche: the function it is bound to (R215, R216), its
quotas (R214), its stacked range (R213), writes to its host memory with dirty-page logging
(R231), and the outstanding reads of an attachment point (R166 to R172).
-/
namespace Sys2Proof.Machine

/-! ### Functions and niches -/

/-- R207: the key of a function: attachment point and Routing ID. -/
def fnKey (ap rid : Nat) : Nat := ap % 4 * 65536 + rid % 65536

/-- The key of the function that a niche is bound to. -/
def State.nicheFn (s : State) (n : Nat) : Nat := fnKey (s.getI Reg.NCH_INFO_AP n) (s.getI Reg.NCH_INFO_RID n)

/-- R216: PASID valid in bit 20, the PASID below it. -/
def State.nichePasid (s : State) (n : Nat) : Nat :=
  s.getI Reg.NCH_INFO_PASID_VALID n * 2 ^ 20 + s.getI Reg.NCH_INFO_PASID n

/-- R177, R185, R216, R790: whether requests can be issued for a niche: bound, its function in D0 with
Bus Master Enable, its TDI not in ERROR, and the device not in SAFE. -/
def State.canIssue (s : State) (n : Nat) : Bool :=
  let k := s.nicheFn n
  s.dev != 7 && s.flagI Reg.NCH_INFO_BOUND n && s.flagI Reg.HIF_FN_INFO_EXISTS k && s.getI Reg.HIF_FN_INFO_DSTATE k == 0
    && s.flagI Reg.HIF_FN_INFO_BME k && s.getI Reg.HIF_FN_INFO_TDI_STATE k != 4

/-- R185: the niche's function is a CONFIG_LOCKED or RUN TDI. -/
def State.tdiLocked (s : State) (n : Nat) : Bool :=
  s.flagI Reg.NCH_INFO_BOUND n &&
    (s.getI Reg.HIF_FN_INFO_TDI_STATE (s.nicheFn n) == 2 || s.getI Reg.HIF_FN_INFO_TDI_STATE (s.nicheFn n) == 3)

/-- R227: the state of a niche. -/
def State.nicheState (s : State) (n : Nat) : Nat := s.getI Reg.NCH_INFO_STATE n

/-- R227: both registers that report a niche's state take it. -/
def setNicheState (n st : Nat) (s : State) : State :=
  (s.setI Reg.NCH_INFO_STATE n st).setI Reg.NCH_PG_STATUS_STATE n st

/-- R227: ring intake is open for a niche, and its function fetches (R177). -/
def State.nicheTakes (s : State) (n : Nat) : Bool :=
  match Map.find? s.nch.niches n with
  | some x => x.intake && s.flagI Reg.NCH_INFO_BOUND n &&
      match Map.find? s.hif.fns (s.nicheFn n) with
      | some f => f.fetch
      | none => false
  | none => false

/-! ### Quotas (R214) -/

/-- The quota instance of a niche and a resource of R212. -/
def quotaKey (n res : Nat) : Nat := n * 16 + res

/-- R211, R214: what a niche may still take of a resource, niche 0 by the quota that NICHE_POOLS gives it. -/
def State.quotaLeft (s : State) (n res : Nat) : Nat :=
  s.getI Reg.NCH_QUOTA_LIMIT (quotaKey n res) - s.getI Reg.NCH_QUOTA_USED (quotaKey n res)

/-- Units of a resource taken by a niche. -/
def quotaTake (n res k : Nat) (s : State) : State :=
  s.setI Reg.NCH_QUOTA_USED (quotaKey n res) (s.getI Reg.NCH_QUOTA_USED (quotaKey n res) + k)

/-- Units of a resource returned by a niche. -/
def quotaGive (n res k : Nat) (s : State) : State :=
  s.setI Reg.NCH_QUOTA_USED (quotaKey n res) (s.getI Reg.NCH_QUOTA_USED (quotaKey n res) - k)

/-- R213, R829: the range of a niche's STACKED_MIB quota. -/
def State.stackedQuota (s : State) (n : Nat) : Nat × Nat :=
  (s.getI Reg.NCH_STACKED_BASE_MIB n * 2 ^ 20, s.getI Reg.NCH_STACKED_LEN_MIB n * 2 ^ 20)

/-- R302: the stacked range that the DMA sides of a niche lie in: the whole of it for niche 0. -/
def State.stackedRange (s : State) (n : Nat) : Nat × Nat := if n = 0 then (0, 96 * 2 ^ 30) else s.stackedQuota n

/-! ### Host memory -/

/-- R230: the bytes of a granule. -/
def granule (g : Nat) : Nat := [4096, 65536, 2097152].getD g 4096

/-- A number put into a rising list without repeats. -/
def insertNat (k : Nat) (l : List Nat) : List Nat :=
  match l with
  | [] => [k]
  | h :: t => if k < h then k :: h :: t else if k = h then h :: t else h :: insertNat k t

/-- R231: a write of len bytes marked in the active bitmap, or counted as out of range. -/
def DirtyLog.mark (d : DirtyLog) (addr len : Nat) : DirtyLog :=
  let g := granule d.gran
  let first := addr / g
  let last := (addr + max 1 len - 1) / g
  let idx := (List.range (last + 1 - first)).map fun k => first + k
  let inside := idx.filter fun k => decide (d.base ≤ k * g) && decide (k * g < d.base + d.len)
  let out := decide (addr < d.base) || decide (d.base + d.len < addr + len)
  { d with pages := inside.foldl (fun l k => insertNat (k - d.base / g) l) d.pages
           writes := d.writes + 1
           outOfRange := d.outOfRange + if out then 1 else 0 }

/-- R231: the dirty log of a niche marks a write the device issues for it. -/
def dirtyMark (n addr len : Nat) (s : State) : State :=
  match Map.find? s.nch.niches n with
  | some x =>
    match x.log with
    | some d => s.updNch (fun u => { u with niches := Map.put s.nch.niches n { x with log := some (d.mark addr len) } })
    | none => s
  | none => s

/-- R173, R216, R231: a posted write to a niche's host memory, logged before it is issued. -/
def hostPut (n addr : Nat) (data : List Byte) (s : State) : State :=
  if s.canIssue n ∧ data ≠ [] then
    (dirtyMark n addr data.length s).emit
      (.hostWrite (s.getI Reg.NCH_INFO_AP n) (s.getI Reg.NCH_INFO_RID n) (s.nichePasid n) addr data)
  else s

/-! ### Outstanding reads (R166, R169) -/

/-- R200: HIF_TAG_STATUS follows the tags of an attachment point. -/
def tagCounts (ap : Nat) (s : State) : State :=
  s.setsI ap [(Reg.HIF_TAG_STATUS_IN_USE, (s.hif.tags.filter fun t => t.ap == ap).length),
    (Reg.HIF_TAG_STATUS_QUARANTINED, (s.hif.quar.filter fun t => t.ap == ap).length)]

/-- The lowest number from k on that a list does not hold, within fuel. -/
def lowestFree (fuel k : Nat) (used : List Nat) : Option Nat :=
  match fuel with
  | 0 => none
  | fuel + 1 => if used.contains k then lowestFree fuel (k + 1) used else some k

/-- R166: a host read issued for a niche takes a tag; with no tag free the requester waits. -/
def issueRead (n : Nat) (p : Purpose) (s : State) : State × Bool :=
  let ap := s.getI Reg.NCH_INFO_AP n
  let rid := s.getI Reg.NCH_INFO_RID n
  let used := (s.hif.tags.filter fun t => t.ap == ap).map (·.tag) ++ (s.hif.quar.filter fun t => t.ap == ap).map (·.tag)
  match lowestFree 16384 0 used with
  | some t =>
    let s := s.updHif (fun u => { u with tags := s.hif.tags ++ [(⟨ap, t, rid, s.stk.boundary, p⟩ : HostTag)] })
    (tagCounts ap (s.emit (.hostRead ap rid (s.nichePasid n) t)), true)
  | none => (s, false)

/-- R170, R172: a tag returns to its pool. -/
def freeTag (ap tag : Nat) (s : State) : State :=
  tagCounts ap (s.updHif (fun u => { u with tags := s.hif.tags.filter fun t => !(t.ap == ap && t.tag == tag) }))

/-- R169: tags are quarantined from a boundary on. -/
def quarantine (p : HostTag → Bool) (fromB : Nat) (s : State) : State :=
  let hit := s.hif.tags.filter p
  let till := fromB + s.eff Reg.HIF_TAG_QUAR_STROKES
  let s := (s.updHif (fun _ => { s.hif with
    tags := s.hif.tags.filter fun t => !p t
    quar := s.hif.quar ++ hit.map fun t => (⟨t.ap, t.tag, till⟩ : QuarTag) }))
  (List.range 4).foldl (fun s ap => tagCounts ap s) s

/-- R216: an MSI-X message of the function a niche is bound to. -/
def nicheMsix (n vector : Nat) (s : State) : State :=
  if s.canIssue n then s.emit (.msix (s.getI Reg.NCH_INFO_AP n) (s.getI Reg.NCH_INFO_RID n) vector) else s

/-- The mutable part of a niche changed. -/
def updNiche (n : Nat) (f : NicheX → NicheX) (s : State) : State :=
  (s.updNch (fun u => { u with niches := Map.upd s.nch.niches n f }))

/-- A function's own part changed. -/
def updFn (k : Nat) (f : Fn → Fn) (s : State) : State :=
  (s.updHif (fun u => { u with fns := Map.upd s.hif.fns k f }))

end Sys2Proof.Machine
end

