-- ==== Sys2Proof/Machine/Channels.lean ====
section
/-!
DEFINITION. Tile threads and channels as every block meets them (R332, R338, R339): the
state of a thread, a message put into a channel by hardware, and what leaves a thread.
-/
namespace Sys2Proof.Machine

/-- R14: the thread index and the tile of a hart. -/
def hartTile (h : Nat) : Nat := h / 32
def hartThread (h : Nat) : Nat := h % 32

/-- R332, R363: the state of a thread. -/
def State.thrState (s : State) (h : Nat) : Nat :=
  let i := hartThread h
  let w := if i < 16 then s.getI Reg.TIL_THR_STATE_LO_STATE (hartTile h) else s.getI Reg.TIL_THR_STATE_HI_STATE (hartTile h)
  (w >>> (4 * (i % 16))) % 16

/-- R363: TIL_THR_STATE takes a thread's state. -/
def setThrState (h st : Nat) (s : State) : State :=
  let i := hartThread h
  let t := hartTile h
  let put (w : Nat) : Nat := w - ((w >>> (4 * (i % 16))) % 16) * 16 ^ (i % 16) + st % 16 * 16 ^ (i % 16)
  if i < 16 then s.setI Reg.TIL_THR_STATE_LO_STATE t (put (s.getI Reg.TIL_THR_STATE_LO_STATE t))
  else s.setI Reg.TIL_THR_STATE_HI_STATE t (put (s.getI Reg.TIL_THR_STATE_HI_STATE t))

/-- A thread as it stands after reset (R332, R337). -/
def Thread.fresh : Thread :=
  { xregs := [], pc := 0, entry := 0, dispatch := 0, before := 0, niche := none, stage := 0, staged := false
    dropped := false, recv := 0, edge := 0, mask := 2 ^ 30, cmp := 2 ^ 64 - 1, binds := [], last := 0, irqEn := 0
    blocked := false, haltAt := 0, stroke := false, missed := 0, item := none }

/-- A thread behind its registers. -/
def State.thread (s : State) (h : Nat) : Thread := (Map.find? s.til.threads h).getD Thread.fresh

/-- A thread changed. -/
def updThread (h : Nat) (f : Thread → Thread) (s : State) : State :=
  (s.updTil (fun u => { u with threads := Map.put s.til.threads h (f (s.thread h)) }))

/-- R344, R345: a change of a thread that ends the whole-stroke wait of its groups. -/
def groupMoved (h : Nat) (s : State) : State :=
  let t := hartTile h
  let gs := (List.range 16).filter fun g => bit (s.getI Reg.TIL_WAITGRP_MEMBERS (t * 16 + g)) (hartThread h) == 1
  (s.updTil (fun u => { u with moved := gs.foldl (fun l g => insertNat (t * 16 + g) l) s.til.moved }))

/-- R332: a thread enters a state. -/
def enterThrState (h st : Nat) (s : State) : State := groupMoved h (setThrState h st s)

/-- R14: whether a hart exists. -/
def hartOk (h : Nat) : Bool := decide (h < 3072)

/-- The messages a channel holds. -/
def State.chan (s : State) (k : Nat) : List Msg := (Map.find? s.til.chans k).getD []

/-- R338: the slots of a channel neither filled nor reserved (R340). -/
def State.chanFree (s : State) (k : Nat) : Nat :=
  s.getI Reg.TIL_CH_INFO_DEPTH k - (s.chan k).length - (Map.find? s.til.reserved k).getD 0

/-- A channel's messages changed; LEVEL follows (R370). -/
def setChan (k : Nat) (l : List Msg) (s : State) : State :=
  (s.updTil (fun u => { u with chans := if l = [] then Map.del s.til.chans k else Map.put s.til.chans k l })).setI
    Reg.TIL_CH_INFO_LEVEL k l.length

/-- A message appended to a channel. -/
def chanPut (k : Nat) (m : Msg) (s : State) : State := setChan k (s.chan k ++ [m]) s

/-- R338: a message from hardware, when hardware may write the channel and a slot is free. -/
def hwPut (k : Nat) (m : Msg) (s : State) : State × Bool :=
  if s.flagI Reg.TIL_CH_INFO_HW_WRITER k ∧ 0 < s.chanFree k then (chanPut k m s, true) else (s, false)

/-- R340: a completion fills the slot that its submission reserved in the reply channel. -/
def replyPut (k : Nat) (m : Msg) (s : State) : State :=
  chanPut k m (s.updTil (fun u => { u with reserved := Map.upd s.til.reserved k fun n => n - 1 }))

/-- R340: a notice, or a loss counted when the reply channel is full. -/
def noticePut (k : Nat) (m : Msg) (s : State) : State :=
  if 0 < s.chanFree k then chanPut k m s
  else s.setI Reg.TIL_CH_INFO_LOST k (min (2 ^ 32 - 1) (s.getI Reg.TIL_CH_INFO_LOST k + 1))

/-- R338: the supervisor channel of a tile. -/
def supChan (t : Nat) : Nat := t * 256

end Sys2Proof.Machine
end

