-- ==== Sys2Proof/Machine/Flights.lean ====
section
/-!
DEFINITION. Work entries in flight and their completions (R247 to R253, R268 to R271): taking
an entry, committing completions in order, the hold buffer, and the journal of tenant work.
-/
namespace Sys2Proof.Machine

/-- R247: the opcode, flags and tag of a work entry. -/
def wOpcode (e : Nat) : Nat := byteField e 0 0
def wFlags (e : Nat) : Nat := byteField e 1 1
def wTag (e : Nat) : Nat := byteField e 2 3

/-- R248 and the opcode tables of the chapters: the opcodes that are implemented. -/
def opcodeKnown (o : Nat) : Bool :=
  decide (o ≤ 0x07) || (decide (0x10 ≤ o) && decide (o ≤ 0x16)) || (decide (0x18 ≤ o) && decide (o ≤ 0x1E))
    || (decide (0x40 ≤ o) && decide (o ≤ 0x42)) || (decide (0x60 ≤ o) && decide (o ≤ 0x6B))
    || (decide (0x80 ≤ o) && decide (o ≤ 0x82)) || o == 0xA0 || o == 0xA1 || o == 0xC0

/-- R248, R258, R267: whether a ring's kind accepts an opcode. -/
def State.ringAccepts (s : State) (r o : Nat) : Bool :=
  opcodeKnown o
    && (if s.flagI Reg.RNG_INFO_RECEIVE r then o == 0 || o == 2 || o == 3 else o != 2)
    && (if decide (4 ≤ o) && decide (o ≤ 7) then s.flagI Reg.RNG_INFO_CONTROL r else true)

/-- The part of a ring behind its registers. -/
def State.ringX (s : State) (r : Nat) : RingX :=
  (Map.find? s.rng.rings r).getD ⟨0, false, false, none, false, 0, 0, [], false, 0, none, false, 0, 0, []⟩

/-- A ring's own part changed. -/
def updRing (r : Nat) (f : RingX → RingX) (s : State) : State :=
  (s.updRng (fun u => { u with rings := Map.upd s.rng.rings r f }))

/-- R257: whether a ring exists. -/
def State.ringExists (s : State) (r : Nat) : Bool := (Map.find? s.rng.rings r).isSome

/-- R257: whether a ring is ENABLED. -/
def State.ringEnabled (s : State) (r : Nat) : Bool := s.getI Reg.RNG_INFO_STATE r == 2

/-- Entries of a ring. -/
def State.ringSize (s : State) (r : Nat) : Nat := 2 ^ s.getI Reg.RNG_INFO_SIZE_LOG2 r

/-- R270: slots that the producer of a completion or event ring owns. -/
def State.ringFree (s : State) (r : Nat) : Nat := s.ringSize r - (s.ringX r).written

/-- R270: places(cq). -/
def State.places (s : State) (cq : Nat) : Nat :=
  s.ringFree cq + (64 - (s.ringX cq).held.length) - (s.ringX cq).reserved

/-- The entries of a ring in flight. -/
def State.ringFlights (s : State) (r : Nat) : List Flight := s.rng.flights.filter fun f => f.ring == r

/-- R286: HELD and IN_FLIGHT follow a ring's own part. -/
def ringCounts (r : Nat) (s : State) : State :=
  let x := s.ringX r
  if s.getI Reg.RNG_INFO_TYPE r = 0 then s.setI Reg.RNG_PTRS_IN_FLIGHT r (min 65535 (s.ringFlights r).length)
  else s.setsI r [(Reg.RNG_PTRS_HELD, x.held.length), (Reg.RNG_PTRS_IN_FLIGHT, min 65535 x.reserved)]

/-- R276: a completion written while its ring is ARMED writes a notice and clears ARMED. -/
def cqNotice (cq : Nat) (s : State) : State :=
  if s.flagI Reg.RNG_INFO_ARMED cq then raiseTo (.ring cq) Ev.cqNotify cq cq (s.setI Reg.RNG_INFO_ARMED cq 0) else s

/-- R249, R251: a completion entry written into the next slot of its ring. -/
def cqWrite (cq w : Nat) (s : State) : State :=
  let slot := s.getI Reg.RNG_PTRS_PRODUCER cq
  let s := hostPut (s.getI Reg.RNG_INFO_NICHE cq) (s.getI Reg.RNG_BASE_BASE cq + 32 * slot) (toBytes 32 w) s
  let s := s.setI Reg.RNG_PTRS_PRODUCER cq ((slot + 1) % s.ringSize cq)
  cqNotice cq (updRing cq (fun x => { x with written := x.written + 1 }) s)

/-- R249: the 32 bytes of a completion. -/
def cplWord (f : Flight) (c : Cpl) (now : Nat) : Nat :=
  let kind := if c.time.isSome then 1 else 0
  c.status % 256 + (c.flags ||| kind) % 256 * 2 ^ 8 + wTag f.entry * 2 ^ 16 + f.ring % 2 ^ 17 * 2 ^ 32
    + wOpcode f.entry * 2 ^ 56 + (c.time.getD now) % 2 ^ 64 * 2 ^ 64 + c.result % 2 ^ 120 * 2 ^ 128 + 2 ^ 255

/-- R270: a completion committed: written to its ring, or appended to the hold buffer. -/
def cqCommit (cq w : Nat) (s : State) : State :=
  let s := updRing cq (fun x => { x with reserved := x.reserved - 1 }) s
  let x := s.ringX cq
  let s := if x.held = [] ∧ 0 < s.ringFree cq ∧ s.canIssue (s.getI Reg.RNG_INFO_NICHE cq) then cqWrite cq w s
           else updRing cq (fun x => { x with held := x.held ++ [w] }) s
  ringCounts cq s

/-- R177, R270: whether a completion for a ring can commit now. -/
def State.cqOpen (s : State) (cq : Nat) : Bool :=
  decide ((s.ringX cq).held.length < 64)

/-- R257: a work ring with nothing in flight reads IDLE while it is ENABLED. -/
def ringIdleFlag (r : Nat) (s : State) : State :=
  if s.ringFlights r = [] ∧ s.ringEnabled r then s.setI Reg.RNG_INFO_IDLE r 1 else s

/-- One flight's completion commits and the flight ends. -/
def commitOne (f : Flight) (c : Cpl) (s : State) : State :=
  let s := s.updRng (fun u => { u with flights := s.rng.flights.filter fun g => g.seq != f.seq })
  match f.port with
  | some (_, ch) => replyPut ch ⟨4, cplWord f c s.now, 0xFFF, f.niche⟩ s
  | none => ringIdleFlag f.ring (ringCounts f.ring (cqCommit (s.getI Reg.RNG_INFO_LINK f.ring) (cplWord f c s.now) s))

/-- R269: the flight of a ring whose completion commits next: the oldest, or for an UNORDERED
ring or a tile's port any that has finished. -/
def State.nextCommit (s : State) (r : Nat) : Option (Flight × Cpl) :=
  let fs := s.ringFlights r
  let free := s.flagI Reg.RNG_INFO_UNORDERED r || decide (2 ^ 17 - 1 ≤ r)
  let pick := if free then fs.find? fun f => f.done.isSome else fs.head?
  match pick with
  | some f =>
    match f.done with
    | some c => if f.port.isSome || s.cqOpen (s.getI Reg.RNG_INFO_LINK r) then some (f, c) else none
    | none => none
  | none => none

/-- R269: completions of a ring commit while one may. -/
def commitRing (fuel r : Nat) (s : State) : State :=
  match fuel with
  | 0 => s
  | fuel + 1 =>
    match s.nextCommit r with
    | some (f, c) => commitRing fuel r (commitOne f c s)
    | none => s

/-- The flight with a sequence number. -/
def State.flight (s : State) (seq : Nat) : Option Flight := s.rng.flights.find? fun f => f.seq == seq

/-- A flight changed. -/
def updFlight (seq : Nat) (g : Flight → Flight) (s : State) : State :=
  (s.updRng (fun u => { u with flights := s.rng.flights.map fun f => if f.seq = seq then g f else f }))

/-- R249, R269: a work entry finishes; its completion commits in its turn. -/
def finishAs (seq : Nat) (c : Cpl) (s : State) : State :=
  match s.flight seq with
  | some f =>
    if f.done.isSome then s
    else
      let s := updFlight seq (fun f => { f with done := some c }) s
      commitRing s.rng.flights.length f.ring s
  | none => s

/-- A work entry finishes with a status and a RESULT, no flags, at its commit time. -/
def finish (seq status result : Nat) (s : State) : State := finishAs seq ⟨status, 0, result, none⟩ s

/-- R247: every entry taken earlier from the same ring has completed. -/
def State.fenceMet (s : State) (f : Flight) : Bool :=
  bit (wFlags f.entry) 0 == 0 ||
    (s.rng.flights.all fun g => !(g.ring == f.ring && decide (g.seq < f.seq) && g.port.map (·.1) == f.port.map (·.1)))

/-- R711: the record of a tenant's work entry. -/
def jWork (blk : Nat) (f : Flight) (result : Nat) (s : State) : State :=
  let e : JEntry := ⟨0, 0, blk * 256 + wOpcode f.entry, .tenant, 2, 0, f.niche,
    if f.port.isSome then .tile else .host, if f.port.isSome then 0 else s.getI Reg.NCH_INFO_AP f.niche,
    match f.port with
    | some (h, _) => h
    | none => s.getI Reg.NCH_INFO_RID f.niche, 0, 0⟩
  jRecord e [result % 2 ^ 32 + byteField f.entry 4 27 * 2 ^ 32, byteField f.entry 28 55, byteField f.entry 56 62] s

/-- R706, R707, R709: tenant work that changes state: refused before the region is ready, journaled when
it completes with ST_OK, then completed. -/
def stateWork (blk : Nat) (f : Flight) (act : State → Nat × Nat × State) (s : State) : State :=
  if s.flag Reg.JNL_STATUS_REGION_READY = false then finish f.seq St.busy 0 s
  else
    let (st, result, s) := act s
    finish f.seq st result (if st = St.ok then jWork blk f result s else s)

/-- R247, R252, R265, R270: an entry is taken: its completion's place is reserved, OWN is cleared, and an
opcode that the ring does not accept completes at once. -/
def takeEntry (r e : Nat) (s : State) : State :=
  let n := s.getI Reg.RNG_INFO_NICHE r
  let cq := s.getI Reg.RNG_INFO_LINK r
  let slot := s.getI Reg.RNG_PTRS_CONSUMER r
  let seq := s.rng.nextSeq
  let s := s.updRng (fun u => { u with nextSeq := seq + 1, flights := s.rng.flights ++ [(⟨seq, r, n, e, false, [], none, none⟩ : Flight)] })
  let s := updRing cq (fun x => { x with reserved := x.reserved + 1 }) s
  let s := if s.flagI Reg.RNG_INFO_RESIDENT r then
      updRing r (fun x => { x with slots := Map.upd x.slots slot fun w => w % 2 ^ 504 + w / 2 ^ 504 % 128 * 2 ^ 504 }) s
    else hostPut n (s.getI Reg.RNG_BASE_BASE r + 64 * slot + 63) [0] s
  let s := s.setsI r [(Reg.RNG_PTRS_CONSUMER, (slot + 1) % s.ringSize r), (Reg.RNG_INFO_IDLE, 0)]
  let s := if s.flagI Reg.RNG_INFO_RESIDENT r then s else s.setI Reg.RNG_PTRS_PRODUCER r ((slot + 1) % s.ringSize r)
  let s := ringCounts cq (ringCounts r s)
  if s.ringAccepts r (wOpcode e) then s else finish seq St.badOpcode 0 s

/-- R270, R271: STOPPED is set once when a completion ring has no place left. -/
def cqStop (cq : Nat) (s : State) : State :=
  if s.flagI Reg.RNG_INFO_STOPPED cq then s
  else raiseTo (.ring cq) Ev.cqFull cq cq
    (countI Reg.RNG_RCNT_COUNT cq
      ((updRing cq (fun x => { x with freed := false }) s).setI Reg.RNG_INFO_STOPPED cq 1))

/-- R267: the buffers a RECEIVE ring holds. -/
def State.buffers (s : State) (r : Nat) : List Flight :=
  s.rng.flights.filter fun f => f.ring == r && wOpcode f.entry == 2 && f.started && f.done.isNone

/-- R227, R257, R270, R796: whether the next entry of a ring may be taken. -/
def State.mayTake (s : State) (r : Nat) : Bool :=
  s.ringEnabled r && s.running && !s.inP1 && s.nicheTakes (s.getI Reg.RNG_INFO_NICHE r)
    && !(s.flagI Reg.RNG_INFO_STOPPED (s.getI Reg.RNG_INFO_LINK r))
    && (!(s.flagI Reg.RNG_INFO_RECEIVE r) || decide ((s.ringFlights r).length < 512))

/-- The work entry that a command names: taken, not yet started, its fence met, its opcode as given. -/
def State.workFlight (s : State) (w : Work) (opcode : Nat) : Option Flight :=
  s.rng.flights.find? fun f => f.ring == w.ring && f.entry == w.entry && !f.started && f.done.isNone
    && wOpcode f.entry == opcode && s.fenceMet f

/-- A taken work entry starts, and its engine acts on it. -/
def startWork (w : Work) (opcode : Nat) (act : Flight → State → State) (s : State) : Outcome :=
  .next <| match s.workFlight w opcode with
    | some f => act f (updFlight f.seq (fun f => { f with started := true }) s)
    | none => s

/-- Entries end without completions (R228): the flights and their reservations go. -/
def dropFlights (p : Flight → Bool) (s : State) : State :=
  let gone := s.rng.flights.filter p
  let s := s.updRng (fun u => { u with flights := s.rng.flights.filter fun f => !p f })
  gone.foldl (fun s f => match f.port with
    | some (_, ch) => s.updTil (fun u => { u with reserved := Map.upd s.til.reserved ch fun n => n - 1 })
    | none =>
      let cq := s.getI Reg.RNG_INFO_LINK f.ring
      ringCounts cq (ringCounts f.ring (updRing cq (fun x => { x with reserved := x.reserved - 1 }) s))) s

end Sys2Proof.Machine
end

