-- ==== Sys2Proof/Machine/Spaces.lean ====
section
/-!
DEFINITION. The address spaces of work entries (R302, R303) and the bytes in them, host reads for
work (R166), and the CRCs that the spec names by their standards (R608).
-/
namespace Sys2Proof.Machine

/-! ### Spaces (R302, R303, R334, R340) -/

/-- R334: where a thread's SCRATCH lies in its tile's memory, and its length. -/
def scratchRange (s : State) (h : Nat) : Nat × Nat :=
  let t := hartTile h
  let p := s.getI Reg.TIL_MEM_PRIVATE_4K t
  let c := s.getI Reg.TIL_MEM_SCRATCH_4K t
  (4096 * (s.getI Reg.TIL_MEM_CODE_4K t + s.getI Reg.TIL_MEM_SHARED_4K t + hartThread h * (p + c) + p), 4096 * c)

/-- R302: whether work of a flight may use a space: 0 HOST, 1 STACKED, 2 TILE, 3 POOL. -/
def spaceAllowed (f : Flight) (space : Nat) : Bool :=
  decide (space < 4) && (space != 2 || f.niche == 0 || f.port.isSome)

/-- R303, R340: whether the bytes lo to hi of a STACKED or TILE side lie within the quota, the tile
memory, or, in niche context, the thread's own SCRATCH. -/
def spaceBounds (s : State) (f : Flight) (space addr : Nat) (lo hi : Int) : Bool :=
  match space with
  | 1 => decide (0 ≤ (addr : Int) + lo) && decide ((addr : Int) + hi < ((s.stackedRange f.niche).2 : Int))
  | 2 =>
    let t := addr / 2 ^ 56
    let off : Int := ((addr % 2 ^ 21 : Nat) : Int)
    decide (t < 96) && decide (0 ≤ off + lo) && decide (off + hi < 0x140000)
      && match f.port with
        | some (h, _) =>
          f.niche == 0 || (t == hartTile h && decide (((scratchRange s h).1 : Int) ≤ off + lo)
            && decide (off + hi < (((scratchRange s h).1 + (scratchRange s h).2 : Nat) : Int)))
        | none => true
  | _ => true

/-- Where a STACKED or TILE address lies in device memory. -/
def deviceAddr (s : State) (f : Flight) (space addr : Nat) : Nat :=
  if space = 1 then (s.stackedRange f.niche).1 + addr else tileMemBase (addr / 2 ^ 56) + addr % 2 ^ 21

/-- The bytes of a side: of a HOST side as the host returned them, else as device memory holds them. -/
def spaceRead (s : State) (f : Flight) (space addr len : Nat) : List Byte :=
  if space = 0 then f.data.take len else memReadList s (deviceAddr s f space addr) len

/-- Bytes written to a side. -/
def spaceWrite (f : Flight) (space addr : Nat) (data : List Byte) (s : State) : State :=
  if space = 0 then hostPut f.niche addr data s else memWriteList s (deviceAddr s f space addr) data

/-- n bytes of a byte string, zeros beyond its end. -/
def fit (n : Nat) (l : List Byte) : List Byte := (List.range n).map fun k => l.getD k 0

/-! ### Host reads for work (R166) -/

/-- R166, R177: a host read for work is issued, or waits for its function or for a tag. -/
def needRead (n : Nat) (p : Purpose) (s : State) : State :=
  let (t, ok) := if s.canIssue n then issueRead n p s else (s, false)
  if ok then t else (s.updHif (fun u => { u with waiting := s.hif.waiting ++ [(n, p)] }))

/-- R166: the reads that wait are tried again in order. -/
def retryReads (s : State) : State :=
  let l := s.hif.waiting
  l.foldl (fun s e => needRead e.1 e.2 s) (s.updHif (fun u => { u with waiting := [] }))

/-! ### CRCs (R608) -/

/-- One reflected CRC step over n bits. -/
def crcStep (poly n c : Nat) : Nat :=
  match n with
  | 0 => c
  | n + 1 => crcStep poly n (if c % 2 = 1 then c / 2 ^^^ poly else c / 2)

/-- A reflected CRC with all-ones start and end. -/
def crcReflected (w poly : Nat) (l : List Byte) : Nat :=
  (l.foldl (fun c b => crcStep poly 8 (c ^^^ b.toNat)) (2 ^ w - 1)) ^^^ (2 ^ w - 1)

/-- One CRC-16 T10-DIF step over n bits. -/
def t10Step (n c : Nat) : Nat :=
  match n with
  | 0 => c
  | n + 1 => t10Step n (if c / 32768 % 2 = 1 then (c * 2 % 65536) ^^^ 0x8BB7 else c * 2 % 65536)

/-- CRC-16 T10-DIF. -/
def crcT10 (l : List Byte) : Nat := l.foldl (fun c b => t10Step 8 (c ^^^ b.toNat * 256)) 0

/-- CRC-32 of IEEE 802.3. -/
def crc32 (l : List Byte) : Nat := crcReflected 32 0xEDB88320 l

/-- CRC-64 of the NVMe protection information. -/
def crc64Nvme (l : List Byte) : Nat := crcReflected 64 0x9A6C9329AC4BC9B5 l

end Sys2Proof.Machine
end

