-- ==== Sys2Proof/Machine/Keys.lean ====
section
/-!
DEFINITION. The key store and inline processing (R609 to R615): handles, KEY_LOAD, KEY_GENERATE,
KEY_DESTROY and its fence, and what the CRYPTO action does with a security association.
-/
namespace Sys2Proof.Machine

/-! ### Handles (R609) -/

/-- R609: the handle of a key: index and generation. -/
def keyHandle (i : Nat) (k : KeyEnt) : Nat := i % 2 ^ 24 + k.gen % 256 * 2 ^ 24

/-- R609, R611: the key that a handle resolves to for a niche. -/
def State.keyOf (s : State) (n handle : Nat) : Option (Nat × KeyEnt) :=
  match Map.find? s.acc.keys (handle % 2 ^ 24) with
  | some k => if k.gen = handle / 2 ^ 24 % 256 ∧ k.niche = n ∧ k.dead = false then some (handle % 2 ^ 24, k) else none
  | none => none

/-- A key changed. -/
def updKey (i : Nat) (f : KeyEnt → KeyEnt) (s : State) : State :=
  (s.updAcc (fun u => { u with keys := Map.upd s.acc.keys i f }))

/-- R626: ACC_KEYS follows the store. -/
def keysShow (s : State) : State :=
  s.sets [(Reg.ACC_KEYS_USED, s.acc.keys.length), (Reg.ACC_KEYS_CACHED, min 4096 s.acc.keys.length)]

/-- R609: the next index after the last one issued that holds no key. -/
def nextKeyIndex (s : State) (fuel i : Nat) : Nat :=
  match fuel with
  | 0 => i
  | fuel + 1 => if (Map.find? s.acc.keys i).isSome then nextKeyIndex s fuel ((i + 1) % 2 ^ 24) else i

/-- R609: a key takes the next index, its generation raised by one, skipping 0; answers its handle. -/
def storeKey (k : KeyEnt) (s : State) : Nat × State :=
  let i := nextKeyIndex s (s.acc.keys.length + 1) ((s.acc.last + 1) % 2 ^ 24)
  let g := ((Map.find? s.acc.gens i).getD 0 + 1) % 256
  let g := if g = 0 then 1 else g
  let k := { k with gen := g }
  let s := s.updAcc (fun u => { u with keys := Map.put s.acc.keys i k, gens := Map.put s.acc.gens i g, last := i })
  (keyHandle i k, keysShow (quotaTake k.niche 9 1 s))

/-! ### Errors (R627, R628) -/

/-- R627, R628: a completion other than ST_OK or ST_ABORTED counted and recorded. -/
def accError (n slice status reason : Nat) (s : State) : State :=
  let s := s.sets [(Reg.ACC_ERR_LAST_STATUS, status), (Reg.ACC_ERR_LAST_NICHE, n), (Reg.ACC_ERR_LAST_SLICE, slice),
    (Reg.ACC_ERR_LAST_REASON, reason), (Reg.ACC_ERR_LAST_STROKE, s.stroke)]
  if status = St.accInline then s
  else
    let s := count Reg.ACC_ERR_CNT_COUNT s
    if s.flag Reg.ACC_STATUS_ERR then s
    else raise Ev.accError 0 (s.stroke % 2 ^ 32 + reason * 2 ^ 36 + slice * 2 ^ 39 + n * 2 ^ 44) (s.set Reg.ACC_STATUS_ERR 1)

/-- A work entry of the accelerators finishes; the slice that ERR_LAST names for one that never
reached a slice is a free value. -/
def accFinish (f : Flight) (slice : Option Nat) (status result : Nat) (s : State) : State :=
  if status = St.ok ∨ status = St.aborted then finish f.seq status result s
  else
    let (v, s) := match slice with
      | some k => (k, s)
      | none => s.draw
    finish f.seq status result (accError f.niche (v % 32) status 0 s)

/-! ### Loading and generating (R610, R613) -/

/-- R608: the values of MODE. -/
def modeKnown (m : Nat) : Bool :=
  (decide (1 ≤ m) && decide (m ≤ 6)) || (decide (0x10 ≤ m) && decide (m ≤ 0x15)) || (decide (0x20 ≤ m) && decide (m ≤ 0x2D))
    || (decide (0x30 ≤ m) && decide (m ≤ 0x35)) || (decide (0x40 ≤ m) && decide (m ≤ 0x44))

/-- R608, R617: the bytes of a symmetric key that a mode takes; any for the other modes. -/
def keyLenOk (mode len : Nat) : Bool :=
  match mode with
  | 1 => len == 16
  | 2 => len == 32
  | 3 => len == 32
  | 4 => len == 32
  | 5 => len == 64
  | 6 => len == 32
  | _ => true

/-- R610, R613: what refuses a key entry. -/
def keyRefusal (s : State) (f : Flight) (source : Bool) : Option Nat :=
  let e := f.entry
  let kind := byteField e 9 9
  let len := byteField e 12 15
  let space := byteField e 8 8
  if kind = 0 ∨ 4 < kind ∨ modeKnown (byteField e 10 10) = false ∨ len < 16 ∨ 4096 < len
      ∨ (kind = 1 ∧ keyLenOk (byteField e 10 10) len = false) ∨ (kind = 4 ∧ len < 64) then some St.accMode
  else if source = true ∧ (space = 3 ∨ spaceAllowed f space = false) then some St.accSpace
  else if source = true ∧ spaceBounds s f space (byteField e 16 23) 0 (len - 1) = false then some St.dmaBounds
  else if s.quotaLeft f.niche 9 = 0 then some St.noResource
  else if 65536 ≤ s.acc.keys.length then some St.noResource
  else none

/-- R613: the security association that KIND 4 material begins with. -/
def saOf (material : Nat) : Sa :=
  let n := byteField material 16 23
  ⟨n, n, [], false⟩

/-- R622: a key that finds the store full raises its event. -/
def keyStoreFull (s : State) : State :=
  if 65536 ≤ s.acc.keys.length then raise Ev.accKeystoreFull 0 0 (s.set Reg.ACC_STATUS_KEYSTORE_FULL 1) else s

/-- R610: material stored as a key of the niche. -/
def loadMaterial (f : Flight) (len material : Nat) (s : State) : Nat × Nat × State :=
  let kind := byteField f.entry 9 9
  let (h, s) := storeKey ⟨0, f.niche, kind, byteField f.entry 10 10, len, material,
    if kind = 4 then some (saOf material) else none, if f.port.isSome then none else some f.ring, false⟩ s
  (St.ok, h, s)

/-- R610: a refused key entry is counted as an accelerator error. -/
def keyRefused (f : Flight) (st : Nat) (s : State) : Nat × Nat × State :=
  let (v, s) := s.draw
  (st, 0, accError f.niche (v % 32) st 0 (if st = St.noResource then keyStoreFull s else s))

/-- KEY_LOAD (R610): the material is read, unwrapped, zeroed at its source when asked, and stored. -/
def execKeyLoad (w : Work) (host : List Byte) (s : State) : Outcome :=
  startWork w 0x69 (fun f => stateWork 13 f fun s =>
    match keyRefusal s f true with
    | some st => keyRefused f st s
    | none =>
      let e := f.entry
      let len := byteField e 12 15
      let space := byteField e 8 8
      let src := fit len (spaceRead s { f with data := host } space (byteField e 16 23) len)
      let s := if bit (wFlags e) 1 = 1 then spaceWrite f space (byteField e 16 23) (List.replicate len 0) s else s
      let wrap := byteField e 4 7
      if wrap = 0 then loadMaterial f len (ofBytes src) s
      else match s.keyOf f.niche wrap with
        | some (_, k) =>
          if k.kind ≠ 1 ∨ k.len ≠ 32 then keyRefused f St.accKey s
          else if Config.accelOk 0x69 k.material src then
            let m := Config.accel 0x69 k.material src
            loadMaterial f m.length (ofBytes m) s
          else keyRefused f St.accAuth s
        | none => keyRefused f St.accKey s) s

/-- KEY_GENERATE (R610): the key is drawn in the device; a private key's public part goes to SRC_ADDR. -/
def execKeyGenerate (w : Work) (s : State) : Outcome :=
  startWork w 0x6A (fun f => stateWork 13 f fun s =>
    let pub := byteField f.entry 9 9 == 2
    match keyRefusal s f pub with
    | some st => keyRefused f st s
    | none =>
      let len := byteField f.entry 12 15
      let (v, s) := s.draw
      let m := v % 2 ^ (8 * len)
      let s := if pub then spaceWrite f (byteField f.entry 8 8) (byteField f.entry 16 23) (Config.accel 0x6A m []) s else s
      loadMaterial f len m s) s

/-! ### Destroying (R611) -/

/-- KEY_DESTROY (R611): the handle is unusable from the next boundary; the completion waits for the fence. -/
def execKeyDestroy (w : Work) (s : State) : Outcome :=
  startWork w 0x6B (fun f s =>
    if s.flag Reg.JNL_STATUS_REGION_READY = false then finish f.seq St.busy 0 s
    else match s.keyOf f.niche (byteField f.entry 4 7) with
      | some (i, _) =>
        if s.acc.dying.any (fun d => d.1 == i) then accFinish f none St.accKey 0 s
        else (s.updAcc (fun u => { u with dying := s.acc.dying ++ [(i, f.seq)] })).defer (.keyDead i)
      | none => accFinish f none St.accKey 0 s) s

/-- R611: from the boundary the handle no longer resolves. -/
def applyKeyDead (i : Nat) (s : State) : State := updKey i (fun k => { k with dead := true }) s

/-- R611: the key's material is overwritten, its index freed and its quota returned. -/
def dropKey (i : Nat) (s : State) : State :=
  match Map.find? s.acc.keys i with
  | some k => keysShow (quotaGive k.niche 9 1 (s.updAcc (fun u => { u with keys := Map.del s.acc.keys i })))
  | none => s

/-- R611: whether a frame or a started entry still uses a key. -/
def State.keyInUse (s : State) (i : Nat) : Bool :=
  s.prs.pkts.any (fun p => p.crypto.contains i)
    || s.acc.work.any fun w => match s.flight w.1 with
      | some f => byteField f.entry 4 7 % 2 ^ 24 == i
      | none => false

/-- KEY_DESTROY_FENCE (R611). -/
def execKeyDestroyFence (index : Nat) (s : State) : Outcome :=
  .next <|
    match s.acc.dying.find? fun d => d.1 == index, Map.find? s.acc.keys index with
    | some d, some k =>
      if k.dead = false ∨ s.keyInUse index then s
      else
        let s := dropKey index (s.updAcc (fun u => { u with dying := s.acc.dying.filter fun e => e.1 != index }))
        match s.flight d.2 with
        | some f => finish f.seq St.ok 0 (jWork 13 f 0 s)
        | none => s
    | _, _ => s

/-- R611: teardown destroys every key of a niche. -/
def dropNicheKeys (n : Nat) (s : State) : State :=
  let gone := (s.acc.keys.filter fun k => k.2.niche == n).map (·.1)
  gone.foldl (fun s i => dropKey i (s.updAcc (fun u => { u with dying := s.acc.dying.filter fun e => e.1 != i }))) s

/-! ### Inline processing (R612 to R615) -/

/-- R613: whether SA numbers run to 64 bits: ESP always, MACsec with XPN, TLS records. -/
def saWide (material : Nat) : Bool := byteField material 0 0 != 2 || bit (byteField material 1 1) 2 == 1

/-- R613: an outbound frame takes the next number of its SA; none when the numbers are exhausted. -/
def saSend (i : Nat) (k : KeyEnt) (a : Sa) (s : State) : Bool × State :=
  if (if saWide k.material then 2 ^ 64 else 2 ^ 32) ≤ a.next then (false, s)
  else
    let warn := a.next + 1 == byteField k.material 24 31 && !a.warned
    let s := updKey i (fun k => { k with sa := some { a with next := a.next + 1, warned := a.warned || warn } }) s
    let h := keyHandle i k
    (true, if warn then (match k.ring with
      | some r => raiseTo (.ring r) Ev.accSeqWarn h h s
      | none => s) else s)

/-- R613: whether a received number passes the replay check, and the SA after. -/
def saAccept (k : KeyEnt) (a : Sa) (q : Nat) : Bool × Sa :=
  let check := bit (byteField k.material 1 1) 3 == 1
  let win := byteField k.material 32 35
  if check = true ∧ (q < a.next ∨ q + win ≤ a.high ∨ a.seen.contains q) then (false, a)
  else
    let high := max a.high q
    (true, { a with high := high, seen := (q :: a.seen).filter fun x => decide (high < x + win) })

/-- R613: an inbound frame with a number is checked against its SA. -/
def saReceive (i q : Nat) (k : KeyEnt) (a : Sa) (s : State) : Bool × State :=
  let (ok, a') := saAccept k a q
  (ok, if ok then updKey i (fun k => { k with sa := some a' }) s else s)

/-- R614, R627, R628: an inline drop counted and recorded. -/
def inlineDrop (n slice reason : Nat) (s : State) : State :=
  let s := countAt Reg.ACC_INLINE_DROP_COUNT reason (Reg.ACC_INLINE_DROP_COUNT.off + 8 * reason) 1 s
  let s := accError n slice St.accInline reason s
  if s.flag Reg.ACC_STATUS_INLINE_DROP then s
  else raise Ev.accInlineDrop 0 reason (s.set Reg.ACC_STATUS_INLINE_DROP 1)

end Sys2Proof.Machine
end

