-- ==== Sys2Proof/Machine/Accel.lean ====
section
/-!
DEFINITION. The accelerators (R606 to R620): what is checked of a work entry, the slice it is dealt to, and the
output and result of its work. A cipher, digest, public-key, compression or erasure output is uninterpreted
(Config); the CRCs are computed.
-/
namespace Sys2Proof.Machine

/-! ### The body (R617) -/

def aKey (e : Nat) : Nat := byteField e 4 7
def aSrcSpace (e : Nat) : Nat := byteField e 8 8
def aDstSpace (e : Nat) : Nat := byteField e 9 9
def aMode (e : Nat) : Nat := byteField e 10 10
def aAux (e : Nat) : Nat := byteField e 11 11
def aLen (e : Nat) : Nat := byteField e 12 15
def aSrc (e : Nat) : Nat := byteField e 16 23
def aDst (e : Nat) : Nat := byteField e 24 31
def aRoom (e : Nat) : Nat := byteField e 32 35
def aK (e : Nat) : Nat := byteField e 48 48
def aM (e : Nat) : Nat := byteField e 49 49
def aErased (e : Nat) : Nat := byteField e 52 55

/-- R616: CIPHER decrypts. -/
def aDecrypt (e : Nat) : Bool := bit (aAux e) 7 == 1

/-- R608: the modes with a tag. -/
def aAead (e : Nat) : Bool := decide (aMode e ≤ 3)

/-- R620: the bytes of PI after each block of a SCRUB, and its blocks. -/
def aPi (e : Nat) : Nat := if aMode e = 0x42 then 8 else 16
def aBlocks (e : Nat) : Nat := aLen e / (aErased e + aPi e)

/-! ### Checks at intake (R608, R617, R619) -/

/-- R608, R617: whether MODE, AUX and LENGTH are of an opcode. -/
def accModeOk (e : Nat) : Bool :=
  let m := aMode e
  let x := aAux e
  let n := aLen e
  decide (1 ≤ n) && decide (n ≤ 67108864) &&
  match wOpcode e with
  | 0x60 => decide (1 ≤ m) && decide (m ≤ 6)
      && (!(m == 4 || m == 5) || (decide (9 ≤ x % 128) && decide (x % 128 ≤ 12) && decide (16 ≤ n)))
      && (!(aAead e && aDecrypt e) || decide (16 + aRoom e ≤ n))
  | 0x61 => decide (0x10 ≤ m) && decide (m ≤ 0x15)
  | 0x62 => decide (0x20 ≤ m) && decide (m ≤ 0x2D)
      && (!(m == 0x2A || m == 0x2B) || decide (x ≤ 2)) && (!(m == 0x2C || m == 0x2D) || decide (x ≤ 1))
  | 0x63 => decide (0x30 ≤ m) && decide (m ≤ 0x35)
      && (!(decide (m ≤ 0x32)) || (decide (1 ≤ x) && decide (x ≤ 9))) && (!(m == 0x33) || (decide (1 ≤ x) && decide (x ≤ 19)))
  | 0x64 => decide (0x30 ≤ m) && decide (m ≤ 0x35)
  | 0x65 => decide (0x40 ≤ m) && decide (m ≤ 0x43)
  | 0x68 => m == 0x42 || m == 0x43
  | _ => m == 0x44 && n % 64 == 0

/-- R617, R620: whether the spaces are allowed to an opcode. -/
def accSpaceOk (f : Flight) : Bool :=
  let e := f.entry
  aSrcSpace e != 3 && aDstSpace e != 3 && spaceAllowed f (aSrcSpace e) && spaceAllowed f (aDstSpace e)
    && !(wOpcode e == 0x68 && aSrcSpace e == 2)

/-- R608: the KIND of key that a mode takes; none where it takes no key. -/
def accKind (e : Nat) : Option Nat :=
  match wOpcode e with
  | 0x60 => some 1
  | 0x61 => if 0x13 ≤ aMode e then some 1 else none
  | 0x62 =>
    match aMode e with
    | 0x20 => some 2 | 0x21 => some 3 | 0x22 => some 2 | 0x23 => some 3 | 0x24 => some 2 | 0x25 => some 2
    | 0x26 => some 2 | 0x27 => some 3 | 0x28 => some 2 | 0x29 => some 3
    | 0x2A => [none, some 3, some 2].getD (aAux e) none
    | 0x2B => [none, some 3, some 2].getD (aAux e) none
    | _ => if aAux e = 0 then some 2 else some 3
  | _ => none

/-- The bits set among the low w bits of a number. -/
def bitCount (w v : Nat) : Nat := ((List.range w).filter fun k => bit v k == 1).length

/-- R617, R618: the bytes an entry writes at most: of a CIPHER its output, else its room. -/
def accOutLen (e : Nat) : Nat :=
  if wOpcode e = 0x60 then
    if aAead e then (if aDecrypt e then aLen e - aRoom e - 16 else aLen e - aRoom e + 16) else aLen e
  else aRoom e

/-- R617: an erasure opcode. -/
def accEc (e : Nat) : Bool := wOpcode e == 0x66 || wOpcode e == 0x67

/-- R303, R617: the STACKED and TILE bounds of source and destination. -/
def accBoundsOk (s : State) (f : Flight) : Bool :=
  let e := f.entry
  let src := if accEc e then 256 else aLen e
  let dst := if accEc e ∨ wOpcode e = 0x65 then 0 else accOutLen e
  spaceBounds s f (aSrcSpace e) (aSrc e) 0 ((src : Int) - 1) && (dst == 0 || spaceBounds s f (aDstSpace e) (aDst e) 0 ((dst : Int) - 1))

/-- R617, R619, R621: what refuses an accelerator entry at intake. -/
def accRefusal (s : State) (f : Flight) : Option Nat :=
  let e := f.entry
  if accModeOk e = false then some St.accMode
  else if accSpaceOk f = false then some St.accSpace
  else if accEc e ∧ (aK e = 0 ∨ 24 < aK e ∨ aM e = 0 ∨ 8 < aM e) then some St.invalid
  else if wOpcode e = 0x67 ∧ aM e < bitCount 32 (aErased e) then some St.accEcUnrecoverable
  else if accBoundsOk s f = false then some St.dmaBounds
  else match accKind e with
    | none => none
    | some kind =>
      match s.keyOf f.niche (aKey e) with
      | some (_, k) =>
        if k.kind ≠ kind then some St.accKey
        else if kind = 1 ∧ wOpcode e = 0x60 ∧ keyLenOk (aMode e) k.len = false then some St.accMode
        else none
      | none => some St.accKey

/-! ### Slices (R604, R606, R607, R623) -/

/-- R606: the first slice of an opcode's kind, and how many there are. -/
def accSlices (opcode : Nat) : Nat × Nat :=
  if opcode ≤ 0x61 then (0, 8) else if opcode = 0x62 then (8, 2) else if opcode ≤ 0x64 then (10, 4) else (14, 4)

/-- R623: the first slice of the kind that a slice is of. -/
def sliceBase (k : Nat) : Nat := if k < 8 then 0 else if k < 10 then 8 else if k < 14 then 10 else 14

/-- R623: QUEUED follows the waiting entries of every kind. -/
def accShow (s : State) : State :=
  (List.range 18).foldl (fun s k =>
    s.setI Reg.ACC_SLICE_QUEUED k (s.acc.work.filter fun w => sliceBase w.2.1 == sliceBase k).length) s

/-- R607, R760: an entry is dealt to the next slice of its kind that takes work; one in PROBATION takes its share of the rounds. -/
def accDeal (seq opcode : Nat) (s : State) : State :=
  let (base, n) := accSlices opcode
  let t := (Map.find? s.acc.turn base).getD 0
  let k := ((List.range (16 * n)).find? fun i => s.unitServes 3 (base + (t + i) % n) && (t + i) / n % 2 ^ s.unitShare 3 (base + (t + i) % n) == 0).getD 0
  let slice := (t + k) % n
  accShow (s.updAcc (fun u => { u with work := s.acc.work ++ [(seq, base + slice, s.stk.boundary)], turn := Map.put s.acc.turn base ((t + k + 1) % (16 * n)) }))

/-- An accelerator entry starts: refused, or dealt to a slice, its HOST source read. -/
def accBegin (opcode : Nat) (w : Work) (s : State) : Outcome :=
  startWork w opcode (fun f s =>
    match accRefusal s f with
    | some st => accFinish f none st 0 s
    | none =>
      let s := accDeal f.seq opcode s
      if aSrcSpace f.entry = 0 then needRead f.niche (.work f.seq) s else s) s

/-- An entry leaves the accelerators. -/
def accForget (seq : Nat) (s : State) : State :=
  accShow (s.updAcc (fun u => { u with work := s.acc.work.filter fun w => w.1 != seq }))

/-- R166: the host data of an accelerator entry has come. -/
def accHostData (seq : Nat) (data : List Byte) (s : State) : State := updFlight seq (fun f => { f with data := data }) s

/-- R172, R268: an accelerator entry ends with a status before its work is done. -/
def accStop (seq st : Nat) (s : State) : State :=
  match s.flight seq, s.acc.work.find? fun w => w.1 == seq with
  | some f, some w => accFinish f (some w.2.1) st 0 (accForget seq s)
  | _, _ => s

/-! ### Outputs (R608, R617 to R620) -/

/-- The material of the key that an entry uses; a key whose destruction waits serves started work (R611). -/
def accMaterial (s : State) (e : Nat) : Nat :=
  match accKind e, Map.find? s.acc.keys (aKey e % 2 ^ 24) with
  | some _, some k => k.material
  | _, _ => 0

/-- What selects the function of an entry, and its parameters before the source bytes. -/
def accFunction (e : Nat) : Nat := wOpcode e * 65536 + aMode e * 256 + aAux e
def accInput (e : Nat) (src : List Byte) : List Byte := toBytes 20 (byteField e 32 51) ++ src

/-- R608, R618: the output of an entry that has one, before it is cut to its room. -/
def accOutput (s : State) (e : Nat) (src : List Byte) : List Byte :=
  let out := Config.accel (accFunction e) (accMaterial s e) (accInput e src)
  match wOpcode e with
  | 0x60 => fit (accOutLen e) out
  | 0x61 => fit ([32, 48, 64].getD ((aMode e - 0x10) % 3) 32) out
  | _ => out

/-- R617, R618: whether an entry verifies something: a tag, a signature. -/
def accVerifies (e : Nat) : Bool :=
  (wOpcode e == 0x60 && aAead e && aDecrypt e)
    || (wOpcode e == 0x62 && (aMode e == 0x21 || aMode e == 0x23 || aMode e == 0x27
        || ((aMode e == 0x2C || aMode e == 0x2D) && aAux e == 1)))

/-- R608: the CRC of a mode. -/
def accCrc (mode : Nat) (l : List Byte) : Nat :=
  match mode with
  | 0x40 => crc32c l
  | 0x41 => crc32 l
  | 0x42 => crcT10 l
  | _ => crc64Nvme l

/-- R618: the output of DIGEST, PKEY, COMPRESS or DECOMPRESS within its room; one that does not fit leaves the
bytes of the room undefined. -/
def accWrite (f : Flight) (slice : Nat) (out : List Byte) (result : Nat) (s : State) : State :=
  let e := f.entry
  if aRoom e < out.length then
    let (v, s) := s.draw
    accFinish f (some slice) St.accOverflow 0 (spaceWrite f (aDstSpace e) (aDst e) (toBytes (aRoom e) v) s)
  else accFinish f (some slice) St.ok result (spaceWrite f (aDstSpace e) (aDst e) out s)

/-- R618: CIPHER. -/
def cipherDone (f : Flight) (slice : Nat) (src : List Byte) (s : State) : State :=
  let e := f.entry
  if accVerifies e ∧ Config.accelOk (accFunction e) (accMaterial s e) (accInput e src) = false then
    accFinish f (some slice) St.accAuth 0 (spaceWrite f (aDstSpace e) (aDst e) (List.replicate (accOutLen e) 0) s)
  else accFinish f (some slice) St.ok 0 (spaceWrite f (aDstSpace e) (aDst e) (accOutput s e src) s)

/-- R618: DIGEST and PKEY. -/
def digestDone (f : Flight) (slice : Nat) (src : List Byte) (s : State) : State :=
  let e := f.entry
  if accVerifies e then
    accFinish f (some slice) (if Config.accelOk (accFunction e) (accMaterial s e) (accInput e src) then St.ok else St.accAuth) 0 s
  else
    let out := accOutput s e src
    accWrite f slice out out.length s

/-- R618: COMPRESS. -/
def compressDone (f : Flight) (slice : Nat) (src : List Byte) (s : State) : State :=
  let out := accOutput s f.entry src
  accWrite f slice out (out.length + crc32c src * 2 ^ 32) s

/-- R608, R618: DECOMPRESS; a stream that needs an unsupported feature, then one that is malformed. -/
def decompressDone (f : Flight) (slice : Nat) (src : List Byte) (s : State) : State :=
  let e := f.entry
  if Config.accelOk (accFunction e + 2 ^ 24) 0 (accInput e src) = false then accFinish f (some slice) St.accUnsupported 0 s
  else if Config.accelOk (accFunction e) 0 (accInput e src) = false then accFinish f (some slice) St.accCorrupt 0 s
  else
    let out := accOutput s e src
    accWrite f slice out (out.length + crc32c out * 2 ^ 32) s

/-- R618: CRC; RESULT bytes 16 to 23. -/
def crcDone (f : Flight) (slice : Nat) (src : List Byte) (s : State) : State :=
  accFinish f (some slice) St.ok (accCrc (aMode f.entry) src) s

/-! ### Erasure codes (R617, R619) -/

/-- R617: entry i of the table of fragment addresses. -/
def ecAddr (s : State) (f : Flight) (i : Nat) : Nat :=
  ofBytes (((spaceRead s f (aSrcSpace f.entry) (aSrc f.entry) 256).drop (8 * i)).take 8)

/-- R619: the fragments that are read: the data fragments, or the first K not marked. -/
def ecReads (e : Nat) : List Nat :=
  if wOpcode e = 0x66 then List.range (aK e)
  else ((List.range (aK e + aM e)).filter fun i => bit (aErased e) i == 0).take (aK e)

/-- R617, R619: the fragments that are written: the parity, or the marked ones. -/
def ecWrites (e : Nat) : List Nat :=
  if wOpcode e = 0x66 then (List.range (aM e)).map (aK e + ·)
  else (List.range (aK e + aM e)).filter fun i => bit (aErased e) i == 1

/-- The j-th fragment that is read; of a HOST source, as the host returned it after the table. -/
def ecFragment (s : State) (f : Flight) (j i : Nat) : List Byte :=
  let e := f.entry
  if aSrcSpace e = 0 then fit (aLen e) ((f.data.drop (256 + j * aLen e)).take (aLen e))
  else spaceRead s f (aSrcSpace e) (ecAddr s f i) (aLen e)

/-- R303: the fragments' bounds. -/
def ecBoundsOk (s : State) (f : Flight) : Bool :=
  let e := f.entry
  let ok (space i : Nat) : Bool := spaceBounds s f space (ecAddr s f i) 0 ((aLen e : Int) - 1)
  (ecReads e).all (ok (aSrcSpace e)) && (ecWrites e).all (ok (aDstSpace e))

/-- R618, R619: EC_ENCODE and EC_DECODE write each fragment to its own table entry. -/
def ecDone (f : Flight) (slice : Nat) (s : State) : State :=
  let e := f.entry
  if ecBoundsOk s f = false then accFinish f (some slice) St.dmaBounds 0 s
  else
    let src := (ecReads e).zipIdx.foldl (fun l p => l ++ ecFragment s f p.2 p.1) []
    let out := Config.accel (accFunction e) (byteField e 48 55) src
    let addrs := (ecWrites e).map (ecAddr s f)
    let s := addrs.zipIdx.foldl (fun s p => spaceWrite f (aDstSpace e) p.1 (fit (aLen e) (out.drop (p.2 * aLen e))) s) s
    accFinish f (some slice) St.ok (ecWrites e).length s

/-! ### SCRUB (R620) -/

/-- R620: whether the guard of a block holds. -/
def guardOk (e : Nat) (block : List Byte) : Bool :=
  let data := block.take (aErased e)
  let pi := block.drop (aErased e)
  if aMode e = 0x42 then crcT10 data == ofBytes ((pi.take 2).reverse)
  else crc64Nvme data == ofBytes ((pi.take 8).reverse)

/-- R620: the blocks of a source that fail their guard, or whose memory is uncorrectable. -/
def scrubFailing (e : Nat) (src : List Byte) (bad : List Nat) : List Nat :=
  let b := aErased e + aPi e
  (List.range (aBlocks e)).filter fun k => bad.contains k || !(guardOk e ((src.drop (k * b)).take b))

/-- R618, R620: SCRUB writes the offsets of the failing blocks, up to its room. -/
def scrubDone (f : Flight) (slice : Nat) (src : List Byte) (bad : List Nat) (s : State) : State :=
  let e := f.entry
  let failing := scrubFailing e src bad
  let out := failing.foldl (fun l k => l ++ toBytes 8 (k * (aErased e + aPi e))) []
  accFinish f (some slice) St.ok (aBlocks e + failing.length * 2 ^ 32) (spaceWrite f (aDstSpace e) (aDst e) (out.take (aRoom e / 8 * 8)) s)

/-! ### The commands -/

def execCipher (w : Work) (s : State) : Outcome := accBegin 0x60 w s
def execDigest (w : Work) (s : State) : Outcome := accBegin 0x61 w s
def execPkey (w : Work) (s : State) : Outcome := accBegin 0x62 w s
def execCompress (w : Work) (s : State) : Outcome := accBegin 0x63 w s
def execDecompress (w : Work) (s : State) : Outcome := accBegin 0x64 w s
def execCrc (w : Work) (s : State) : Outcome := accBegin 0x65 w s
def execEcEncode (w : Work) (s : State) : Outcome := accBegin 0x66 w s
def execEcDecode (w : Work) (s : State) : Outcome := accBegin 0x67 w s
def execScrub (w : Work) (s : State) : Outcome := accBegin 0x68 w s

/-- What the work of an entry leaves, by its opcode. -/
def accDone (f : Flight) (slice : Nat) (bad : List Nat) (s : State) : State :=
  let e := f.entry
  let src := fit (aLen e) (spaceRead s f (aSrcSpace e) (aSrc e) (aLen e))
  if bad ≠ [] ∧ wOpcode e ≠ 0x68 then accFinish f (some slice) St.mediaError 0 s
  else match wOpcode e with
    | 0x60 => cipherDone f slice src s
    | 0x61 => digestDone f slice src s
    | 0x62 => digestDone f slice src s
    | 0x63 => compressDone f slice src s
    | 0x64 => decompressDone f slice src s
    | 0x65 => crcDone f slice src s
    | 0x68 => scrubDone f slice src bad s
    | _ => ecDone f slice s

/-- R620, R629: whether the strokes that have passed allow a SCRUB's blocks at the pace of ACC_SCRUB. -/
def scrubPaced (s : State) (e since : Nat) : Bool :=
  wOpcode e != 0x68 || decide (aBlocks e ≤ s.eff Reg.ACC_SCRUB_BLOCKS * (s.stk.boundary + 1 - since))

/-- The dealt entry that a work entry names, its HOST source read: its slice, when it was dealt, and its flight. -/
def accHit (w : Work) (s : State) : Option ((Nat × Nat × Nat) × Flight) :=
  s.acc.work.findSome? fun a => match s.flight a.1 with
    | some f => if f.ring = w.ring ∧ f.entry = w.entry ∧ (aSrcSpace f.entry ≠ 0 ∨ f.data ≠ []) then some (a, f) else none
    | none => none

/-- ACCELERATOR_WORK_DONE (R606, R618, R623): a slice has done an entry's work; `bad` gives the blocks or fragments
whose memory was uncorrectable, `load` its busy percentage in the stroke. -/
def execAcceleratorWorkDone (w : Work) (slice load : Nat) (bad : List Nat) (s : State) : Outcome :=
  .next <|
    match accHit w s with
    | some ((_, k, since), f) =>
      if s.running = false ∨ s.unitServes 3 slice = false ∨ sliceBase slice ≠ sliceBase k ∨ (slice ≠ k ∧ s.unitServes 3 k)
          ∨ scrubPaced s f.entry since = false then s
      else
        let s := s.setI Reg.ACC_SLICE_LOAD_PCT slice (max load (s.getI Reg.ACC_SLICE_LOAD_PCT slice))
        accDone f slice bad (accForget f.seq s)
    | none => s

end Sys2Proof.Machine
end

