-- ==== Sys2Proof/Machine/Rings.lean ====
section
/-!
DEFINITION. Rings (R247 to R295): the meanings of the ring commands, the tenant's ring
opcodes, polling, resident rings, releases, and NOP and RECV_POST.
-/
namespace Sys2Proof.Machine

/-! ### Ring errors (R279, R290, R291) -/

/-- R291: the RNG_ERR_LAST word. -/
def ringErrWord (kind niche ring stroke : Nat) : Nat :=
  kind * 2 ^ 60 + niche % 4096 * 2 ^ 48 + ring % 2 ^ 17 * 2 ^ 30 + stroke % 2 ^ 30

/-- R273, R277: a ring error: recorded, raised once, and delivered when it concerns a ring of the niche. -/
def ringError (kind niche ring : Nat) (s : State) : State :=
  let w := ringErrWord kind niche ring s.stroke
  let s := s.sets [(Reg.RNG_ERR_LAST_KIND, kind), (Reg.RNG_ERR_LAST_NICHE, niche), (Reg.RNG_ERR_LAST_RING, ring),
    (Reg.RNG_ERR_LAST_STROKE, s.stroke)]
  let s := if s.flag Reg.RNG_STATUS_RING_ERR then s else raise Ev.rngError 0 w (s.set Reg.RNG_STATUS_RING_ERR 1)
  if s.ringExists ring ∧ s.getI Reg.RNG_INFO_NICHE ring = niche then
    raiseTo (if s.getI Reg.RNG_INFO_TYPE ring = 2 then .eventRing ring else .ring ring) Ev.ringError ring
      (ring + kind * 2 ^ 24) s
  else s

/-- R279: a doorbell that names a wrong ring is dropped, logged, and counted as a ring error. -/
def doorbellError (who : Issuer) (off niche ring : Nat) (s : State) : State :=
  ringError 3 niche ring (accessDropped who.ap off 8 s)

/-- R279: whether a doorbell of a niche names a ring of it of a type. -/
def State.doorbellRing (s : State) (niche ring type : Nat) : Bool :=
  s.ringExists ring && s.getI Reg.RNG_INFO_NICHE ring == niche && s.getI Reg.RNG_INFO_TYPE ring == type

/-! ### Creating rings (R254 to R256) -/

/-- R254: the fields of a ring descriptor. -/
def rdId (d : Nat) : Nat := byteField d 0 3 % 2 ^ 17
def rdNiche (d : Nat) : Nat := byteField d 4 5 % 4096
def rdType (d : Nat) : Nat := byteField d 6 6
def rdFlags (d : Nat) : Nat := byteField d 7 7
def rdBase (d : Nat) : Nat := byteField d 8 15
def rdSize (d : Nat) : Nat := byteField d 16 16
def rdLink (d : Nat) : Nat := byteField d 20 23 % 2 ^ 17
def rdInterval (d : Nat) : Nat := byteField d 24 25
def rdMin (d : Nat) : Nat := byteField d 26 27
def rdMax (d : Nat) : Nat := byteField d 28 29
def rdMod (d : Nat) : Nat := byteField d 30 31

/-- R25: the range of ring IDs of a type. -/
def ringRange (type : Nat) : Nat × Nat :=
  if type = 0 then (0, 65536) else if type = 1 then (65536, 98304) else (98304, 102400)

/-- R254, R255: whether the descriptor keeps the ranges of R254. -/
def rdValid (d : Nat) : Bool :=
  let fl := rdFlags d
  decide (rdType d ≤ 2) && decide (4 ≤ rdSize d) && decide (rdSize d ≤ 16) && decide (fl < 32)
    && (rdType d == 0 || fl % 16 == 0) && (rdType d == 1 || bit fl 4 == 0)
    && (bit fl 0 == 1 || rdBase d % 4096 == 0) && decide (rdMin d ≤ rdMax d)
    && (rdId d == 0x1FFFF || decide (102400 ≤ rdId d)
        || (decide ((ringRange (rdType d)).1 ≤ rdId d) && decide (rdId d < (ringRange (rdType d)).2)))

/-- R255: whether LINK names a ring of the right type of the niche. -/
def State.linkOk (s : State) (n d : Nat) : Bool :=
  match rdType d with
  | 0 => s.doorbellRing n (rdLink d) 1
  | 1 => rdLink d == 0x1FFFF || s.doorbellRing n (rdLink d) 2
  | _ => true

/-- R256: the BAR2 ranges that resident rings hold in a function. -/
def State.bar2Used (s : State) (fn : Nat) : List (Nat × Nat) :=
  (s.rng.rings.filter fun p => s.flagI Reg.RNG_INFO_RESIDENT p.1
      && s.nicheFn (s.getI Reg.RNG_INFO_NICHE p.1) == fn && s.flagI Reg.NCH_INFO_BOUND (s.getI Reg.RNG_INFO_NICHE p.1)).map fun p =>
    (s.getI Reg.RNG_BASE_BASE p.1, 64 * s.ringSize p.1)

/-- The lowest offset aligned to `align` at which len bytes fit between ranges, below a bound. -/
def lowestFit (used : List (Nat × Nat)) (align len bound : Nat) : Option Nat :=
  let up (a : Nat) : Nat := (a + align - 1) / align * align
  let cand := 0 :: used.map fun u => up (u.1 + u.2)
  let ok := cand.filter fun c => decide (c + len ≤ bound) && used.all fun u => decide (c + len ≤ u.1) || decide (u.1 + u.2 ≤ c)
  match ok with
  | [] => none
  | h :: t => some (t.foldl min h)

/-- R256: where a resident ring of a niche would lie. -/
def State.bar2Place (s : State) (n d : Nat) : Option Nat :=
  match Map.find? s.hif.fns (s.nicheFn n) with
  | some f => lowestFit (s.bar2Used (s.nicheFn n)) (64 * 2 ^ rdSize d) (64 * 2 ^ rdSize d) f.bar2
  | none => none

/-- The ID that a descriptor gets: as asked, or the lowest free one of its type. -/
def State.pickRing (s : State) (d : Nat) : Option Nat :=
  let (lo, hi) := ringRange (rdType d)
  if rdId d = 0x1FFFF then
    match lowestFree (s.rng.rings.length + 1) lo (s.rng.rings.map (·.1)) with
    | some k => if k < hi then some k else none
    | none => none
  else some (rdId d)

/-- R257: a ring stands created, DISABLED and IDLE. -/
def putRing (r n base d : Nat) (s : State) : State :=
  let fl := rdFlags d
  let x : RingX := ⟨s.stroke, false, false, none, false, 0, 0, [], false, rdMod d, none, false, 0, 0, []⟩
  let s := s.updRng (fun u => { u with rings := Map.put s.rng.rings r x })
  let s := quotaTake n (rdType d) 1 s
  s.setsI r [(Reg.RNG_INFO_STATE, 1), (Reg.RNG_INFO_IDLE, 1), (Reg.RNG_INFO_TYPE, rdType d), (Reg.RNG_INFO_RESIDENT, bit fl 0),
    (Reg.RNG_INFO_CONTROL, bit fl 1), (Reg.RNG_INFO_RECEIVE, bit fl 2), (Reg.RNG_INFO_UNORDERED, bit fl 3),
    (Reg.RNG_INFO_RX_TS, bit fl 4), (Reg.RNG_INFO_ARMED, 0), (Reg.RNG_INFO_STOPPED, 0), (Reg.RNG_INFO_SIZE_LOG2, rdSize d),
    (Reg.RNG_INFO_NICHE, n), (Reg.RNG_INFO_LINK, rdLink d), (Reg.RNG_PTRS_PRODUCER, 0), (Reg.RNG_PTRS_CONSUMER, 0),
    (Reg.RNG_PTRS_HELD, 0), (Reg.RNG_PTRS_IN_FLIGHT, 0), (Reg.RNG_POLL_INTERVAL, rdInterval d),
    (Reg.RNG_POLL_POLL_MIN, rdMin d), (Reg.RNG_POLL_POLL_MAX, rdMax d), (Reg.RNG_BASE_BASE, base),
    (Reg.RNG_RCNT_COUNT, 0), (Reg.RNG_RCNT_SAT, 0)]

/-- R255, R570: the outcome of a ring descriptor for a niche: a status, the ring, the BAR2 offset, and the state. -/
def createRing (n d : Nat) (tenant : Bool) (s : State) : Nat × Nat × Nat × State :=
  let resident := bit (rdFlags d) 0 == 1
  if rdId d ≠ 0x1FFFF ∧ 102400 ≤ rdId d then (St.notFound, 0, 0, s)
  else if rdValid d = false then (St.invalid, 0, 0, s)
  else if s.nicheState n = 0 then (St.notFound, 0, 0, s)
  else if s.nicheState n = 4 ∨ s.nicheState n = 5 then (St.busy, 0, 0, s)
  else if s.linkOk n d = false then (St.notFound, 0, 0, s)
  else if rdId d ≠ 0x1FFFF ∧ s.ringExists (rdId d) then (St.badState, 0, 0, s)
  else if resident ∧ s.flagI Reg.NCH_INFO_BOUND n = false then (St.badState, 0, 0, s)
  else if s.flagI Reg.NCH_INFO_BOUND n ∧ (Map.find? s.hif.fns (s.nicheFn n)).map (·.kind) = some 2 then (St.badState, 0, 0, s)
  else if (tenant ∧ bit (rdFlags d) 1 = 1) ∨ s.tdiLocked n then (St.permission, 0, 0, s)
  else if s.quotaLeft n (rdType d) = 0 then (St.noResource, 0, 0, s)
  else match s.pickRing d, if resident then s.bar2Place n d else some (rdBase d) with
    | some r, some base => (St.ok, r, if resident then base else 0, putRing r n base d s)
    | _, _ => (St.noResource, 0, 0, s)

/-! ### Ring state changes (R257) -/

/-- R257: the rings that link to a ring. -/
def State.linkers (s : State) (r : Nat) : List Nat :=
  (s.rng.rings.filter fun p => s.getI Reg.RNG_INFO_LINK p.1 == r && p.1 != r
      && s.getI Reg.RNG_INFO_TYPE p.1 + 1 == s.getI Reg.RNG_INFO_TYPE r).map (·.1)

/-- R257, R185: the status of an ENABLE. -/
def enableStatus (s : State) (r : Nat) : Nat :=
  if s.ringExists r = false then St.notFound
  else if s.tdiLocked (s.getI Reg.RNG_INFO_NICHE r) then St.permission
  else if s.ringEnabled r then St.badState
  else if s.getI Reg.RNG_INFO_TYPE r = 0 ∧ s.ringEnabled (s.getI Reg.RNG_INFO_LINK r) = false then St.badState
  else St.ok

/-- R257, R185: the status of a DISABLE. -/
def disableStatus (s : State) (r : Nat) : Nat :=
  if s.ringExists r = false then St.notFound
  else if s.tdiLocked (s.getI Reg.RNG_INFO_NICHE r) then St.permission
  else if s.ringEnabled r = false then St.badState
  else if (s.linkers r).any s.ringEnabled then St.badState
  else St.ok

/-- R257, R185: the status of a DESTROY. -/
def destroyStatus (s : State) (r : Nat) : Nat :=
  if s.ringExists r = false then St.notFound
  else if s.tdiLocked (s.getI Reg.RNG_INFO_NICHE r) then St.permission
  else if s.getI Reg.RNG_INFO_STATE r ≠ 1 ∨ s.flagI Reg.RNG_INFO_IDLE r = false then St.badState
  else if s.linkers r ≠ [] then St.badState
  else St.ok

/-- R294: the events whose route names a ring. -/
def State.routesTo (s : State) (r : Nat) : List Nat :=
  (s.regs.filter fun p => p.1 / 2 ^ 32 == Reg.RNG_EVROUTE_DEST.key 0 / 2 ^ 32 && p.2 == r).map fun p => p.1 % 2 ^ 32

/-- R257: a ring becomes FREE and its quota returns. -/
def freeRing (r : Nat) (s : State) : State :=
  let gone := (s.routesTo r).filter fun e => s.getI Reg.RNG_EVROUTE_TARGET e == 1
  let s := s.updRng (fun u => { u with deadRoutes := gone ++ s.rng.deadRoutes })
  let s := quotaGive (s.getI Reg.RNG_INFO_NICHE r) (s.getI Reg.RNG_INFO_TYPE r) 1 s
  let s := s.updRng (fun u => { u with rings := Map.del s.rng.rings r, arrived := s.rng.arrived.filter fun a => a.1 != r })
  s.setsI r [(Reg.RNG_INFO_STATE, 0), (Reg.RNG_INFO_IDLE, 0), (Reg.RNG_INFO_TYPE, 0), (Reg.RNG_INFO_RESIDENT, 0),
    (Reg.RNG_INFO_CONTROL, 0), (Reg.RNG_INFO_RECEIVE, 0), (Reg.RNG_INFO_UNORDERED, 0), (Reg.RNG_INFO_RX_TS, 0),
    (Reg.RNG_INFO_ARMED, 0), (Reg.RNG_INFO_STOPPED, 0), (Reg.RNG_INFO_SIZE_LOG2, 0), (Reg.RNG_INFO_NICHE, 0),
    (Reg.RNG_INFO_LINK, 0), (Reg.RNG_PTRS_PRODUCER, 0), (Reg.RNG_PTRS_CONSUMER, 0), (Reg.RNG_POLL_INTERVAL, 0),
    (Reg.RNG_POLL_POLL_MIN, 0), (Reg.RNG_POLL_POLL_MAX, 0), (Reg.RNG_BASE_BASE, 0), (Reg.RNG_RCNT_COUNT, 0), (Reg.RNG_RCNT_SAT, 0)]

/-- R257: every slot of a ring is producer-owned and its indices are zero. -/
def restartRing (r : Nat) (s : State) : State :=
  let s := updRing r (fun x => { x with written := 0, slots := x.slots.map fun p => (p.1, p.2 % 2 ^ 511) }) s
  let s := s.updRng (fun u => { u with arrived := s.rng.arrived.filter fun a => a.1 != r })
  s.setsI r [(Reg.RNG_PTRS_PRODUCER, 0), (Reg.RNG_PTRS_CONSUMER, 0)]

/-- R257, R276: at its boundary a ring is ENABLED; an event ring with a vector is ARMED. -/
def applyEnable (r : Nat) (restart : Bool) (s : State) : State :=
  if s.ringExists r = false then s
  else
    let s := if restart then restartRing r s else s
    let s := updRing r (fun x => { x with lastPoll := s.stroke, owed := false }) s
    let vec := s.getI Reg.RNG_INFO_TYPE r == 2 && s.getI Reg.RNG_INFO_LINK r % 65536 != 0xFFFF
    s.setsI r [(Reg.RNG_INFO_STATE, 2), (Reg.RNG_INFO_ARMED, if vec then 1 else 0)]

/-- R257: at its boundary a ring is DISABLED; a work ring becomes IDLE when nothing taken remains. -/
def applyDisable (r : Nat) (s : State) : State :=
  if s.ringExists r = false then s
  else
    let s := s.setI Reg.RNG_INFO_STATE r 1
    if s.getI Reg.RNG_INFO_TYPE r = 0 then s.setI Reg.RNG_INFO_IDLE r 0 else s

/-! ### The manager's ring commands (R282, R283) -/

/-- A ring command of the manager. -/
def rngCmd (op : Nat) (who : Issuer) (niche ring : Nat) (desc : Option (Nat × Nat)) (act : State → CmdRes) (s : State) : Outcome :=
  let addr := if desc.isSome then 0 else s.get Reg.RNG_CMD_ADDR_ADDR
  let arg := s.get Reg.RNG_CMD_ARG_RESTART * 2 ^ 63 + s.get Reg.RNG_CMD_ARG_RING
  .next <| regGate who 0x500000 s (cmdStart Blk.rng ⟨op, who, niche, ring, arg, addr, 0, desc⟩ (who.role == .manager) act)

/-- RNG_CREATE (R254, R255, R282). -/
def execRngCreate (who : Issuer) (desc : Nat) (s : State) : Outcome :=
  rngCmd 1 who (rdNiche desc) 0 (some (64, desc)) (fun s =>
    let (st, r, _, s) := createRing (rdNiche desc) desc false s
    .done st r s) s

/-- RNG_ENABLE (R257). -/
def execRngEnable (who : Issuer) (s : State) : Outcome :=
  let r := s.get Reg.RNG_CMD_ARG_RING
  rngCmd 2 who (s.getI Reg.RNG_INFO_NICHE r) r none (fun s =>
    let st := enableStatus s r
    .done st r (if st = St.ok then s.defer (.ringEnable r (s.flag Reg.RNG_CMD_ARG_RESTART)) else s)) s

/-- RNG_DISABLE (R257). -/
def execRngDisable (who : Issuer) (s : State) : Outcome :=
  let r := s.get Reg.RNG_CMD_ARG_RING
  rngCmd 3 who (s.getI Reg.RNG_INFO_NICHE r) r none (fun s =>
    let st := disableStatus s r
    .done st r (if st = St.ok then s.defer (.ringDisable r) else s)) s

/-- RNG_DESTROY (R257). -/
def execRngDestroy (who : Issuer) (s : State) : Outcome :=
  let r := s.get Reg.RNG_CMD_ARG_RING
  rngCmd 4 who (s.getI Reg.RNG_INFO_NICHE r) r none (fun s =>
    let st := destroyStatus s r
    .done st r (if st = St.ok then freeRing r s else s)) s

/-! ### The tenant's ring opcodes (R258) -/

/-- RING_CREATE (R254, R258). -/
def execRingCreate (w : Work) (desc : Nat) (s : State) : Outcome :=
  startWork w 4 (fun f => stateWork 5 f fun s =>
    let (st, r, off, s) := createRing f.niche desc true s
    (st, if st = St.ok then r + off * 2 ^ 32 else 0, s)) s

/-- R258: the ring that a ring opcode names, of the issuing niche only. -/
def ownRing (f : Flight) (s : State) (st : State → Nat → Nat) (act : Nat → State → State) : Nat × Nat × State :=
  let r := byteField f.entry 4 7 % 2 ^ 17
  if s.ringExists r = false ∨ s.getI Reg.RNG_INFO_NICHE r ≠ f.niche then (St.notFound, 0, s)
  else
    let c := st s r
    (c, 0, if c = St.ok then act r s else s)

/-- RING_ENABLE (R257, R258). -/
def execRingEnable (w : Work) (s : State) : Outcome :=
  startWork w 5 (fun f => stateWork 5 f fun s =>
    ownRing f s enableStatus fun r s => s.defer (.ringEnable r (bit (byteField f.entry 8 8) 0 == 1))) s

/-- RING_DISABLE (R257, R258). -/
def execRingDisable (w : Work) (s : State) : Outcome :=
  startWork w 6 (fun f => stateWork 5 f fun s => ownRing f s disableStatus fun r s => s.defer (.ringDisable r)) s

/-- RING_DESTROY (R257, R258). -/
def execRingDestroy (w : Work) (s : State) : Outcome :=
  startWork w 7 (fun f => stateWork 5 f fun s => ownRing f s destroyStatus freeRing) s

/-- RING_IDLE (R257): a disabled work ring has nothing taken left. -/
def execRingIdle (ring : Nat) (s : State) : Outcome :=
  .next <|
    if s.ringExists ring ∧ s.getI Reg.RNG_INFO_TYPE ring = 0 ∧ s.getI Reg.RNG_INFO_STATE ring = 1
        ∧ s.flagI Reg.RNG_INFO_IDLE ring = false ∧ s.ringFlights ring = [] then
      raiseTo (.ring ring) Ev.ringIdle ring ring (s.setI Reg.RNG_INFO_IDLE ring 1)
    else s

/-! ### Polling (R259 to R261) -/

/-- R259, R260: the group of a ring that is due for a poll at this boundary: 0 nudged, 1 after a
full batch, 2 by interval; none when it is not due. -/
def State.dueGroup (s : State) (r : Nat) : Option Nat :=
  let x := s.ringX r
  let i := s.getI Reg.RNG_POLL_INTERVAL r
  if s.getI Reg.RNG_INFO_TYPE r ≠ 0 ∨ s.flagI Reg.RNG_INFO_RESIDENT r ∨ s.mayTake r = false ∨ x.polling then none
  else if x.nudged then some 0
  else if x.more then some 1
  else if i ≠ 0 ∧ x.lastPoll + i ≤ s.stroke then some 2
  else none

/-- R260: the due rings of a controller in the order of R260. -/
def State.dueRings (s : State) (h : Nat) : List Nat :=
  let due := s.rng.rings.filterMap fun p => match s.dueGroup p.1 with
    | some g => if s.getI Reg.NCH_INFO_AP (s.getI Reg.RNG_INFO_NICHE p.1) / 2 = h then
        some (g * 2 ^ 64 + (p.2.dueSince.getD s.stroke), p.1) else none
    | none => none
  (sortPairs due).map (·.2)

/-- R260, R290: a due poll beyond the budget stays due and is counted. -/
def deferPoll (h r : Nat) (s : State) : State :=
  let s := updRing r (fun x => { x with dueSince := some (x.dueSince.getD s.stroke) }) s
  let s := countI Reg.RNG_POLL_DEFER_COUNT h s
  if s.flag Reg.RNG_STATUS_POLL_DEFER then s else raise Ev.rngPollDefer 0 h (s.set Reg.RNG_STATUS_POLL_DEFER 1)

/-- R259, R261: one poll is issued; its interval restarts. -/
def issuePoll (h r : Nat) (s : State) : State :=
  let (t, ok) := issueRead (s.getI Reg.RNG_INFO_NICHE r) (.poll r) s
  if ok then
    let t := t.updRng (fun u => { u with polls := Map.put t.rng.polls h ((Map.find? t.rng.polls h).getD 0 + 1) })
    updRing r (fun x => { x with lastPoll := s.stroke, nudged := false, more := false, dueSince := none, polling := true }) t
  else updRing r (fun x => { x with dueSince := some (x.dueSince.getD s.stroke) }) s

/-- RING_POLL (R259, R260): a controller issues its due polls of this boundary within its budget. -/
def execRingPoll (h : Nat) (s : State) : Outcome :=
  .next <|
    let s := if s.rng.pollAt = s.stk.boundary then s else (s.updRng (fun u => { u with pollAt := s.stk.boundary, polls := [] }))
    (s.dueRings h).foldl (fun s r =>
      if (Map.find? s.rng.polls h).getD 0 < s.admitted (h + 1) then issuePoll h r s else deferPoll h r s) s

/-- R259, R270: entries of a ring are taken in order while OWN is set and a place is free; answers how
many were taken and whether intake was stopped for want of a place. -/
def takeList (r : Nat) (l : List Nat) (k : Nat) (s : State) : Nat × Bool × State :=
  match l with
  | [] => (k, false, s)
  | e :: t =>
    if bit e 511 = 0 ∨ s.mayTake r = false then (k, false, s)
    else if s.places (s.getI Reg.RNG_INFO_LINK r) = 0 then (k, true, cqStop (s.getI Reg.RNG_INFO_LINK r) s)
    else takeList r t (k + 1) (takeEntry r e s)

/-- R259, R170, R685: the answer of a poll: its tag returns, and the entries read are taken. -/
def pollAnswer (r : Nat) (entries : List Nat) (s : State) : State :=
  match s.hif.tags.find? fun t => t.purpose == .poll r with
  | none => s
  | some t =>
    let s := freeTag t.ap t.tag (updRing r (fun x => { x with polling := false }) s)
    let room := min 8 (s.ringSize r - s.getI Reg.RNG_PTRS_CONSUMER r)
    let (k, stopped, s) := takeList r (entries.take room) 0 s
    let (p, n, full) := (Map.find? s.rgl.rings r).getD (0, 0, false)
    let s := s.updRgl (fun u => { u with rings := Map.put s.rgl.rings r (p + 1, n + k, full || k == 8) })
    if k = 8 ∨ stopped then updRing r (fun x => { x with more := true }) s else s

/-- RING_POLL_DATA (R259). -/
def execRingPollData (ring : Nat) (entries : List Nat) (s : State) : Outcome := .next (pollAnswer ring entries s)

/-- NUDGE (R261, R279, R280, R289): NCH_PG_NUDGE of a niche's page, or RNG_MGR_NUDGE for niche 0. -/
def execNudge (who : Issuer) (niche ring : Nat) (s : State) : Outcome :=
  let off := if niche = 0 then 0x500048 else 0x1000
  .next <|
    if s.doorbellRing niche ring 0 = true ∧ s.flagI Reg.RNG_INFO_RESIDENT ring = false then s.defer (.nudge ring)
    else doorbellError who off niche ring s

/-! ### Resident rings (R263, R264) -/

/-- A byte string written over a slot's 64 bytes at an offset. -/
def slotPut (w off : Nat) (data : List Byte) : Nat :=
  let l := toBytes 64 w
  ofBytes (l.take off ++ data ++ l.drop (off + data.length)) % 2 ^ 512

/-- R22, R263: the resident ring of a function in whose slots a BAR2 offset lies. -/
def State.bar2Ring (s : State) (fn off : Nat) : Option Nat :=
  (s.rng.rings.find? fun p => s.flagI Reg.RNG_INFO_RESIDENT p.1 && s.nicheFn (s.getI Reg.RNG_INFO_NICHE p.1) == fn
    && decide (s.getI Reg.RNG_BASE_BASE p.1 ≤ off) && decide (off < s.getI Reg.RNG_BASE_BASE p.1 + 64 * s.ringSize p.1)).map (·.1)

/-- RESIDENT_RING_WRITE (R22, R263, R264, R291): a host write into a function's BAR2. -/
def execResidentRingWrite (who : Issuer) (off : Nat) (data : List Byte) (s : State) : Outcome :=
  .next <|
    match s.bar2Ring (fnKey who.ap who.id) off with
    | none => accessDropped who.ap off data.length s
    | some r =>
      let rel := off - s.getI Reg.RNG_BASE_BASE r
      let slot := rel / 64
      let n := s.getI Reg.RNG_INFO_NICHE r
      if 64 < rel % 64 + data.length then accessDropped who.ap off data.length s
      else if s.ringEnabled r = false then ringError 4 n r s
      else
        let w := (Map.find? (s.ringX r).slots slot).getD 0
        if bit w 511 = 1 then ringError 2 n r s
        else
          let w' := slotPut w (rel % 64) data
          let s := updRing r (fun x => { x with slots := Map.put x.slots slot w' }) s
          if bit w' 511 = 1 then
            let s := s.updRng (fun u => { u with arrived := s.rng.arrived ++ [(r, slot, s.dueBoundary)] })
            s.setI Reg.RNG_PTRS_PRODUCER r ((slot + 1) % s.ringSize r)
          else s

/-- R264: what intake does with one arrived entry: taken within the limits, or left waiting. -/
def residentOne (a : Nat × Nat × Nat) (p : List (Nat × Nat × Nat) × State) : List (Nat × Nat × Nat) × State :=
  let (keep, s) := p
  let (r, slot, due) := a
  let k := (Map.find? s.rng.takenRing r).getD 0
  if keep.any (fun b => b.1 == r) ∨ s.stk.boundary < due ∨ s.mayTake r = false ∨ 64 ≤ k ∨ s.admitted 0 ≤ s.rng.taken then (keep ++ [a], s)
  else if s.places (s.getI Reg.RNG_INFO_LINK r) = 0 then (keep ++ [a], cqStop (s.getI Reg.RNG_INFO_LINK r) s)
  else
    let s := s.updRng (fun u => { u with taken := s.rng.taken + 1, takenRing := Map.put s.rng.takenRing r (k + 1) })
    (keep, takeEntry r ((Map.find? (s.ringX r).slots slot).getD 0) s)

/-- RESIDENT_INTAKE (R263, R264): arrived entries are taken in arrival order. -/
def execResidentIntake (s : State) : Outcome :=
  .next <|
    let s := if s.rng.takenAt = s.stk.boundary then s
             else (s.updRng (fun u => { u with takenAt := s.stk.boundary, taken := 0, takenRing := [] }))
    let (keep, s) := s.rng.arrived.foldl (fun p a => residentOne a p) ([], s)
    (s.updRng (fun u => { u with arrived := keep }))

/-! ### Releases (R253, R271, R276) -/

/-- R270: held completions are written, oldest first, while slots are free. -/
def drainHeld (fuel cq : Nat) (s : State) : State :=
  match fuel with
  | 0 => s
  | fuel + 1 =>
    match (s.ringX cq).held with
    | [] => s
    | w :: t =>
      if s.ringFree cq = 0 ∨ s.canIssue (s.getI Reg.RNG_INFO_NICHE cq) = false then s
      else drainHeld fuel cq (cqWrite cq w (updRing cq (fun x => { x with held := t }) s))

/-- R253: slots returned, counted from the oldest. -/
def returnSlots (r count : Nat) (s : State) : State :=
  (updRing r (fun x => { x with written := x.written - count }) s).setI Reg.RNG_PTRS_CONSUMER r
    ((s.getI Reg.RNG_PTRS_CONSUMER r + count) % s.ringSize r)

/-- R177, R270, R271: room has come to a completion ring: its held entries, the work that waited for it, and
the restart of its intake. -/
def cqRoom (cq : Nat) (s : State) : State :=
  let s := drainHeld 64 cq s
  let s := (s.linkers cq).foldl (fun s r => commitRing s.rng.flights.length r s) s
  let s := ringCounts cq s
  if s.flagI Reg.RNG_INFO_STOPPED cq ∧ 0 < s.places cq then s.defer (.cqFreed cq) else s

/-- CQ_RELEASE (R253, R270, R276, R281, R289). -/
def execCqRelease (who : Issuer) (niche ring count : Nat) (arm : Bool) (s : State) : Outcome :=
  let off := if niche = 0 then 0x500050 else 0x1008
  .next <|
    if s.doorbellRing niche ring 1 = false then doorbellError who off niche ring s
    else if (s.ringX ring).written < count then ringError 1 niche ring s
    else
      let s := cqRoom ring (returnSlots ring count s)
      if arm ∧ s.getI Reg.RNG_INFO_LINK ring ≠ 0x1FFFF then
        let s := s.setI Reg.RNG_INFO_ARMED ring 1
        if 0 < (s.ringX ring).written then cqNotice ring s else s
      else s

/-- EQ_RELEASE (R253, R276, R281, R289). -/
def execEqRelease (who : Issuer) (niche ring count : Nat) (arm : Bool) (s : State) : Outcome :=
  let off := if niche = 0 then 0x500058 else 0x1010
  .next <|
    if s.doorbellRing niche ring 2 = false then doorbellError who off niche ring s
    else if (s.ringX ring).written < count then ringError 1 niche ring s
    else
      let s := returnSlots ring count s
      if arm ∧ s.getI Reg.RNG_INFO_LINK ring % 65536 ≠ 0xFFFF then
        updRing ring (fun x => { x with owed := decide (0 < x.written) }) (s.setI Reg.RNG_INFO_ARMED ring 1)
      else s

/-- CQ_RESTART (R271): at the first boundary after places became non-zero, STOPPED clears. -/
def execCqRestart (ring : Nat) (s : State) : Outcome :=
  .next <|
    if s.flagI Reg.RNG_INFO_STOPPED ring ∧ (s.ringX ring).freed ∧ 0 < s.places ring then
      updRing ring (fun x => { x with freed := false }) (s.setI Reg.RNG_INFO_STOPPED ring 0)
    else s

/-- EVENT_MSIX_SEND (R276): an armed event ring with unreturned entries sends its vector once MOD_STROKES allow. -/
def execEventMsixSend (ring : Nat) (s : State) : Outcome :=
  .next <|
    let x := s.ringX ring
    let due : Bool := match x.lastMsix with
      | some b => decide (b + x.mod ≤ s.stk.boundary)
      | none => true
    if s.ringEnabled ring ∧ s.getI Reg.RNG_INFO_TYPE ring = 2 ∧ s.flagI Reg.RNG_INFO_ARMED ring ∧ x.owed ∧ 0 < x.written ∧ due then
      let s := updRing ring (fun x => { x with owed := false, lastMsix := some s.stk.boundary }) (s.setI Reg.RNG_INFO_ARMED ring 0)
      nicheMsix (s.getI Reg.RNG_INFO_NICHE ring) (s.getI Reg.RNG_INFO_LINK ring % 2048) s
    else s

/-! ### Generic opcodes -/

/-- NOP (R248). -/
def execNop (w : Work) (s : State) : Outcome := startWork w 0 (fun f => finish f.seq St.ok 0) s

/-- RECV_POST (R267): the buffer joins its ring's list and completes with the frame that takes it. -/
def execRecvPost (w : Work) (s : State) : Outcome := startWork w 2 (fun _ s => s) s

end Sys2Proof.Machine
end

