-- ==== Sys2Proof/Machine/Niches.lean ====
section
/-!
DEFINITION. Niches (R211 to R246, R829): the meanings of the NCH_CMD commands, niche reset
and teardown, spoof and wake settings, and dirty-page logging.
-/
namespace Sys2Proof.Machine

/-! ### Commands (R234) -/

/-- R227: the refusal that any command on a niche meets: FREE, RESETTING or TEARDOWN. -/
def State.nicheRefusal (s : State) (n : Nat) : Option Nat :=
  let st := s.nicheState n
  if st = 0 then some St.notFound else if st = 4 ∨ st = 5 then some St.busy else none

/-- R165, R234: a niche command of the manager, on NCH_CMD.NICHE. -/
def nchCmd (op : Nat) (who : Issuer) (desc : Option (Nat × Nat)) (act : Nat → State → CmdRes) (s : State) : Outcome :=
  let n := if op = 1 then 0 else s.get Reg.NCH_CMD_NICHE
  let addr := if desc.isSome then 0 else s.get Reg.NCH_CMD_ADDR_ADDR
  .next <| regGate who 0x400000 s
    (cmdStart Blk.nch ⟨op, who, n, n, s.get Reg.NCH_CMD_ARG_ARG, addr, 0, desc⟩ (who.role == .manager) (act n))

/-- A niche command other than CREATE: refused as R227 says, else carried out. -/
def nchOn (op : Nat) (who : Issuer) (desc : Option (Nat × Nat)) (act : Nat → State → Nat × State) (s : State) : Outcome :=
  nchCmd op who desc (fun n s =>
    match s.nicheRefusal n with
    | some st => .done st n s
    | none =>
      let (st, s) := act n s
      .done st n s) s

/-! ### CREATE (R212, R213) -/

/-- R212: the byte range of each quota in the descriptor. -/
def quotaBytes : List (Nat × Nat) :=
  [(4, 5), (6, 7), (8, 9), (10, 11), (12, 15), (16, 19), (20, 21), (22, 23), (24, 25), (26, 27), (28, 29), (30, 31),
   (32, 35), (36, 39), (40, 43)]

/-- R212: the quota of a resource that a descriptor asks for. -/
def ndQuota (d res : Nat) : Nat :=
  match quotaBytes[res]? with
  | some (a, b) => byteField d a b
  | none => 0

/-- R213: the ranges of R212. -/
def ndValid (d : Nat) : Bool :=
  let n := byteField d 2 3
  decide (byteField d 0 0 ≤ 63) && (n == 0xFFFF || (decide (1 ≤ n) && decide (n ≤ 4095))) && decide (byteField d 1 1 ≤ 1)
    && ndQuota d 13 % 8 == 0 && byteField d 44 63 == 0

/-- R213: the stacked ranges of existing niches, in MiB relative to the niche region. -/
def State.stackedUsed (s : State) : List (Nat × Nat) :=
  (s.nch.niches.map fun p => (s.getI Reg.NCH_STACKED_BASE_MIB p.1 - s.nch.region.1, s.getI Reg.NCH_STACKED_LEN_MIB p.1)).filter
    fun u => decide (0 < u.2)

/-- R213: whether a pool can give every quota of a descriptor and one more niche. -/
def State.poolHas (s : State) (d : Nat) : Bool :=
  let p := byteField d 0 0
  decide (0 < s.getI Reg.NCH_POOL_INFO_FREE (p * 16 + 15))
    && (List.range 15).all fun res => decide (ndQuota d res ≤ s.getI Reg.NCH_POOL_INFO_FREE (p * 16 + res))

/-- R213: every quota moves from the pool to the niche. -/
def drawQuotas (p n d : Nat) (s : State) : State :=
  (List.range 15).foldl (fun s res =>
    let s := s.setI Reg.NCH_POOL_INFO_FREE (p * 16 + res) (s.getI Reg.NCH_POOL_INFO_FREE (p * 16 + res) - ndQuota d res)
    (s.setI Reg.NCH_QUOTA_LIMIT (quotaKey n res) (ndQuota d res)).setI Reg.NCH_QUOTA_USED (quotaKey n res) 0)
    (s.setI Reg.NCH_POOL_INFO_FREE (p * 16 + 15) (s.getI Reg.NCH_POOL_INFO_FREE (p * 16 + 15) - 1))

/-- A niche as it stands when it is created. -/
def NicheX.fresh (zero : Bool) : NicheX :=
  { prev := 1, cause := .reset, started := false, intake := false, spoof := [], spoofMode := 0, wake := 0, zero := zero, log := none }

/-- CREATE (R212, R213, R227). -/
def execCreate (who : Issuer) (desc : Nat) (s : State) : Outcome :=
  nchCmd 1 who (some (64, desc)) (fun _ s =>
    let p := byteField desc 0 0
    let asked := byteField desc 2 3
    let mib := ndQuota desc 12
    if ndValid desc = false then .done St.invalid 0 s
    else if asked ≠ 0xFFFF ∧ (Map.find? s.nch.niches asked).isSome then .done St.badState 0 s
    else if s.poolHas desc = false then .done St.noResource 0 s
    else
      let id := if asked = 0xFFFF then lowestFree 4096 1 (s.nch.niches.map (·.1)) else some asked
      let base := if mib = 0 then some 0 else lowestFit s.stackedUsed 1 mib s.nch.region.2
      match id, base with
      | some n, some b =>
        if 4096 ≤ n then .done St.noResource 0 s
        else
          let s := drawQuotas p n desc s
          let s := s.updNch (fun u => { u with niches := Map.put s.nch.niches n (NicheX.fresh (bit (byteField desc 1 1) 0 == 1)) })
          let s := s.setsI n [(Reg.NCH_INFO_POOL, p), (Reg.NCH_STACKED_BASE_MIB, if mib = 0 then 0 else s.nch.region.1 + b),
            (Reg.NCH_STACKED_LEN_MIB, mib), (Reg.NCH_PG_STATUS_RESET_COUNT, 0)]
          .done St.ok n (s.defer (.nicheActive n))
      | _, _ => .done St.noResource 0 s) s

/-- R213, R227, R212: at its boundary a created niche is ACTIVE, its stacked range zeroed when the descriptor asked. -/
def applyNicheActive (n : Nat) (s : State) : State :=
  match Map.find? s.nch.niches n with
  | none => s
  | some x =>
    let s := if x.zero then memZero s (s.getI Reg.NCH_STACKED_BASE_MIB n * 2 ^ 20) (s.getI Reg.NCH_STACKED_LEN_MIB n * 2 ^ 20) else s
    let s := updNiche n (fun x => { x with intake := true, zero := false }) s
    (setNicheState n 1 s).set Reg.NCH_STATUS_IN_USE (s.get Reg.NCH_STATUS_IN_USE + 1)

/-! ### BIND and UNBIND (R215 to R217) -/

/-- R215: the other niches bound to a function. -/
def State.boundTo (s : State) (fn : Nat) : List Nat :=
  (s.nch.niches.map (·.1)).filter fun n => n != 0 && s.flagI Reg.NCH_INFO_BOUND n && s.nicheFn n == fn

/-- R207: NICHES of a function follows the niches bound to it. -/
def fnNiches (fn : Nat) (s : State) : State := s.setI Reg.HIF_FN_INFO_NICHES fn (s.boundTo fn).length

/-- BIND (R215, R216, R234, R185). -/
def execBind (who : Issuer) (s : State) : Outcome :=
  nchOn 2 who none (fun n s =>
    let arg := s.get Reg.NCH_CMD_ARG_ARG
    let valid := bit arg 63
    let pasid := bits arg 51 32
    let fn := fnKey (bits arg 17 16) (bits arg 15 0)
    match Map.find? s.hif.fns fn with
    | none => (St.notFound, s)
    | some f =>
      let others := s.boundTo fn
      if f.kind = 0 ∨ s.tdiLocked n ∨ s.getI Reg.HIF_FN_INFO_TDI_STATE fn = 2 ∨ s.getI Reg.HIF_FN_INFO_TDI_STATE fn = 3 then
        (St.permission, s)
      else if s.flagI Reg.HIF_FN_INFO_EXISTS fn = false then (St.notFound, s)
      else if s.flagI Reg.NCH_INFO_BOUND n ∨ others.any (fun m => s.getI Reg.NCH_INFO_PASID_VALID m == valid
          && (valid == 0 || s.getI Reg.NCH_INFO_PASID m == pasid)) then (St.badState, s)
      else match lowestFree (f.pages + 1) 0 (others.map fun m => s.getI Reg.NCH_INFO_PAGE m) with
        | some page =>
          if f.pages ≤ page then (St.noResource, s)
          else
            let s := s.setsI n [(Reg.NCH_INFO_BOUND, 1), (Reg.NCH_INFO_PASID_VALID, valid),
              (Reg.NCH_INFO_PASID, if valid = 1 then pasid else 0), (Reg.NCH_INFO_AP, bits arg 17 16),
              (Reg.NCH_INFO_RID, bits arg 15 0), (Reg.NCH_INFO_PAGE, page)]
            (St.ok, fnNiches fn s)
        | none => (St.noResource, s)) s

/-- R216, R217: a niche is unbound: its page is free and its translations are invalidated. -/
def unbindNiche (n : Nat) (s : State) : State :=
  let fn := s.nicheFn n
  let pasid := s.nichePasid n
  let s := s.updHif (fun u => { u with atc := s.hif.atc.filter fun a => !(fnKey a.ap a.rid == fn && a.pasid == pasid) })
  let s := s.set Reg.HIF_ATC_STATUS_VALID s.hif.atc.length
  let s := s.setsI n [(Reg.NCH_INFO_BOUND, 0), (Reg.NCH_INFO_PASID_VALID, 0), (Reg.NCH_INFO_PASID, 0), (Reg.NCH_INFO_AP, 0),
    (Reg.NCH_INFO_RID, 0), (Reg.NCH_INFO_PAGE, 0)]
  fnNiches fn s

/-! ### Reset and teardown (R227 to R229) -/

/-- R227, R228: a niche enters RESETTING, or TEARDOWN, at once; its reset starts at the next boundary. -/
def beginReset (n : Nat) (cause : ResetCause) (s : State) : State :=
  let prev := s.nicheState n
  let s := updNiche n (fun x => { x with prev := prev, cause := cause, started := false, intake := false }) s
  (setNicheState n (if cause = .destroy then 5 else 4) s).defer (.nicheReset n)

/-- R180, R227: a reset of its function resets a niche that is ACTIVE, QUIESCING or QUIESCED. -/
def functionResetsNiche (n : Nat) (s : State) : State :=
  if s.nicheState n = 1 ∨ s.nicheState n = 2 ∨ s.nicheState n = 3 then beginReset n .reset s else s

/-- UNBIND (R217). -/
def execUnbind (who : Issuer) (s : State) : Outcome :=
  nchOn 3 who none (fun n s =>
    if s.tdiLocked n then (St.permission, s)
    else if s.nicheState n ≠ 3 ∨ s.flagI Reg.NCH_INFO_BOUND n = false then (St.badState, s)
    else (St.ok, beginReset n .unbind s)) s

/-- QUIESCE (R227): QUIESCING; intake stops from the next boundary. -/
def execQuiesce (who : Issuer) (s : State) : Outcome :=
  nchOn 4 who none (fun n s =>
    if s.nicheState n ≠ 1 then (St.badState, s) else (St.ok, (setNicheState n 2 s).defer (.nicheIntake n false))) s

/-- NICHE_QUIESCED (R227, R235): all accepted work of a QUIESCING niche has completed. -/
def execNicheQuiesced (niche : Nat) (s : State) : Outcome :=
  .next <|
    match Map.find? s.nch.niches niche with
    | some x =>
      if s.nicheState niche = 2 ∧ x.intake = false ∧ s.rng.flights.all (fun f => f.niche != niche) then
        raise Ev.nchQuiesced niche niche ((setNicheState niche 3 s).set Reg.NCH_STATUS_QUIESCED 1)
      else s
    | none => s

/-- RESUME (R227). -/
def execResume (who : Issuer) (s : State) : Outcome :=
  nchOn 5 who none (fun n s =>
    if s.nicheState n ≠ 3 ∨ s.flagI Reg.NCH_INFO_BOUND n = false then (St.badState, s)
    else (St.ok, (setNicheState n 1 s).defer (.nicheIntake n true))) s

/-- RESET (R227, R228). -/
def execReset (who : Issuer) (s : State) : Outcome :=
  nchOn 6 who none (fun n s => (St.ok, beginReset n .reset s)) s

/-- R185: a TDI enters ERROR. -/
def tdiEnterError (fn : Nat) (s : State) : State :=
  if s.getI Reg.HIF_FN_INFO_TDI_STATE fn = 4 then s
  else raise Ev.tdiError fn 0 ((s.setI Reg.HIF_FN_INFO_TDI_STATE fn 4).set Reg.HIF_STATUS_TDI_ERROR 1)

/-- DESTROY (R229, R185). -/
def execDestroy (who : Issuer) (s : State) : Outcome :=
  nchOn 7 who none (fun n s =>
    if n = 0 then (St.permission, s)
    else if s.nicheState n ≠ 3 then (St.badState, s)
    else
      let s := if s.tdiLocked n then tdiEnterError (s.nicheFn n) s else s
      (St.ok, beginReset n .destroy s)) s

/-- R229: a niche's stacked memory is zeroed and its own counters cleared. -/
def wipeNiche (n : Nat) (s : State) : State :=
  let s := memZero s (s.getI Reg.NCH_STACKED_BASE_MIB n * 2 ^ 20) (s.getI Reg.NCH_STACKED_LEN_MIB n * 2 ^ 20)
  let s := updNiche n (fun x => { x with log := none, zero := true, spoof := [], spoofMode := 0, wake := 0 }) s
  s.setsI n [(Reg.NCH_INFO_LOGGING, 0), (Reg.NCH_PG_SPOOF_DROP_COUNT, 0), (Reg.NCH_PG_SPOOF_DROP_SAT, 0),
    (Reg.NCH_PG_RX_DROP_COUNT, 0), (Reg.NCH_PG_RX_DROP_SAT, 0)]

/-- TEARDOWN_DONE (R229, R235): the quotas return to the pool and the niche is FREE. -/
def execTeardownDone (niche : Nat) (s : State) : Outcome :=
  .next <|
    match Map.find? s.nch.niches niche with
    | some x =>
      if s.nicheState niche = 5 ∧ x.zero then
        let p := s.getI Reg.NCH_INFO_POOL niche
        let s := (List.range 15).foldl (fun s res =>
          let k := quotaKey niche res
          let s := s.setI Reg.NCH_POOL_INFO_FREE (p * 16 + res) (s.getI Reg.NCH_POOL_INFO_FREE (p * 16 + res) + s.getI Reg.NCH_QUOTA_LIMIT k)
          (s.setI Reg.NCH_QUOTA_LIMIT k 0).setI Reg.NCH_QUOTA_USED k 0) s
        let s := s.setI Reg.NCH_POOL_INFO_FREE (p * 16 + 15) (s.getI Reg.NCH_POOL_INFO_FREE (p * 16 + 15) + 1)
        let s := s.updNch (fun u => { u with niches := Map.del s.nch.niches niche })
        let s := s.setsI niche [(Reg.NCH_INFO_STATE, 0), (Reg.NCH_INFO_POOL, 0), (Reg.NCH_STACKED_BASE_MIB, 0),
          (Reg.NCH_STACKED_LEN_MIB, 0), (Reg.NCH_PG_STATUS_RESET_COUNT, 0)]
        let s := s.set Reg.NCH_STATUS_IN_USE (s.get Reg.NCH_STATUS_IN_USE - 1)
        raise Ev.nchCmdDone niche (St.ok + niche * 2 ^ 8) s
      else s
    | none => s

/-! ### Spoof and wake settings (R221, R222, R224) -/

/-- SPOOF_WRITE (R221, R185). -/
def execSpoofWrite (who : Issuer) (entry : Nat) (s : State) : Outcome :=
  nchOn 8 who (some (32, entry)) (fun n s =>
    if s.tdiLocked n then (St.permission, s)
    else
      let i := bits (s.get Reg.NCH_CMD_ARG_ARG) 5 0
      (St.ok, updNiche n (fun x => { x with
        spoof := if byteField entry 0 0 = 0 then Map.del x.spoof i else Map.put x.spoof i (entry % 2 ^ 256) }) s)) s

/-- SPOOF_MODE (R222, R185). -/
def execSpoofMode (who : Issuer) (s : State) : Outcome :=
  nchOn 9 who none (fun n s =>
    if s.tdiLocked n then (St.permission, s)
    else (St.ok, updNiche n (fun x => { x with spoofMode := bits (s.get Reg.NCH_CMD_ARG_ARG) 3 0 }) s)) s

/-- WAKE_SET (R224, R185). -/
def execWakeSet (who : Issuer) (s : State) : Outcome :=
  nchOn 10 who none (fun n s =>
    if s.tdiLocked n then (St.permission, s)
    else (St.ok, updNiche n (fun x => { x with wake := bits (s.get Reg.NCH_CMD_ARG_ARG) 15 0 }) s)) s

/-! ### Dirty-page logging (R230 to R233) -/

/-- R230: the bytes of one bitmap. -/
def bitmapLen (len gran : Nat) : Nat := len / granule gran / 8

/-- R230: the ranges of a LOG_START block. -/
def logValid (b : Nat) : Bool :=
  let g := byteField b 16 16
  decide (g ≤ 2) && byteField b 0 7 % granule g == 0 && byteField b 8 15 % (8 * granule g) == 0 && byteField b 17 31 == 0

/-- LOG_START (R230). -/
def execLogStart (who : Issuer) (block : Nat) (s : State) : Outcome :=
  nchOn 11 who (some (32, block)) (fun n s =>
    let len := byteField block 8 15
    let g := byteField block 16 16
    if s.flagI Reg.NCH_INFO_LOGGING n then (St.badState, s)
    else if logValid block = false then (St.invalid, s)
    else if s.getI Reg.NCH_QUOTA_LIMIT (quotaKey n 13) * 1024 < 2 * bitmapLen len g then (St.noResource, s)
    else (St.ok, s.defer (.logStart n (byteField block 0 7) len g))) s

/-- R230: at its boundary logging starts with both bitmaps clear. -/
def applyLogStart (n base len g : Nat) (s : State) : State :=
  let s := updNiche n (fun x => { x with log := some ⟨base, len, g, [], 0, 0, s.stroke, none, false⟩ }) s
  let s := s.setI Reg.NCH_QUOTA_USED (quotaKey n 13) ((2 * bitmapLen len g + 1023) / 1024)
  s.setI Reg.NCH_INFO_LOGGING n 1

/-- HARVEST (R232, R233): the bitmaps swap at the next boundary. -/
def execHarvest (who : Issuer) (s : State) : Outcome :=
  nchCmd 12 who none (fun n s =>
    match s.nicheRefusal n with
    | some st => .done st n s
    | none => if s.flagI Reg.NCH_INFO_LOGGING n then .running (s.defer (.logSwap n false)) else .done St.badState n s) s

/-- LOG_STOP (R233): a final harvest; logging stops at its swap. -/
def execLogStop (who : Issuer) (s : State) : Outcome :=
  nchCmd 13 who none (fun n s =>
    match s.nicheRefusal n with
    | some st => .done st n s
    | none => if s.flagI Reg.NCH_INFO_LOGGING n then .running (s.defer (.logSwap n true)) else .done St.badState n s) s

/-- R232: at its boundary the active bitmap is retired with its trailer and a clear one takes its place. -/
def applyLogSwap (n : Nat) (last : Bool) (s : State) : State :=
  let s := updNiche n (fun x => { x with log := x.log.map fun d =>
    { d with pages := [], writes := 0, outOfRange := 0, since := s.stroke, last := last
             retired := some (d.pages, d.writes, d.outOfRange, s.stroke, d.since) } }) s
  if last then s.setI Reg.NCH_INFO_LOGGING n 0 else s

/-- R232: the bytes of a bitmap. -/
def bitmapBytes (n : Nat) (pages : List Nat) : List Byte :=
  (List.range n).map fun j => BitVec.ofNat 8 ((List.range 8).foldl (fun v i => v + (if pages.contains (8 * j + i) then 2 ^ i else 0)) 0)

/-- HARVEST_COPY_DONE (R232, R233): the retired bitmap and its trailer have been written to the buffer. -/
def execHarvestCopyDone (s : State) : Outcome :=
  .next <|
    match Map.find? s.cmds 4 with
    | none => s
    | some p =>
      match (Map.find? s.nch.niches p.niche).bind (·.log) with
      | some d =>
        match d.retired with
        | some (pages, writes, oor, swap, since) =>
          let bytes := bitmapBytes (bitmapLen d.len d.gran) pages
            ++ toBytes 64 (writes % 2 ^ 64 + oor % 2 ^ 64 * 2 ^ 64 + swap % 2 ^ 64 * 2 ^ 128 + since % 2 ^ 64 * 2 ^ 192)
          let s := hostPut 0 p.param bytes s
          let s := updNiche p.niche (fun x => { x with log := if d.last then none else some { d with retired := none } }) s
          let s := if d.last then s.setI Reg.NCH_QUOTA_USED (quotaKey p.niche 13) 0 else s
          cmdEnd Blk.nch St.ok s
        | none => s
      | none => s

/-- NICHE_COUNTER_CLEAR (R245): NCH_CNT_CLR is written. -/
def execNicheCounterClear (who : Issuer) (value : Nat) (s : State) : Outcome :=
  .next <| regGate who 0x400058 s fun s =>
    let n := bits value 11 0
    let s := if bit value 12 = 1 then s.setsI n [(Reg.NCH_PG_SPOOF_DROP_COUNT, 0), (Reg.NCH_PG_SPOOF_DROP_SAT, 0)] else s
    if bit value 13 = 1 then s.setsI n [(Reg.NCH_PG_RX_DROP_COUNT, 0), (Reg.NCH_PG_RX_DROP_SAT, 0)] else s

/-- R220, R729: a counter of a niche's page incremented. -/
def countPage (f : Field) (n : Nat) (s : State) : State := countAt f n f.off 1 s

end Sys2Proof.Machine
end

