-- ==== Sys2Proof/Machine/Tiles.lean ====
section
/-!
DEFINITION. Tiles, threads and channels (R325 to R371): the thread control page, the event
unit, channel commits and takes, the supervisor page's INJECT and START, and debug halts.
A thread acts only in RUN.
-/
namespace Sys2Proof.Machine

/-! ### The event word (R341) -/

/-- R341: the channel bits pending for a thread: a bound channel that is not empty. -/
def chanBits (s : State) (h : Nat) (binds : Map Nat) : Nat :=
  binds.foldl (fun v b => if s.chan (hartTile h * 256 + b.2) = [] then v else v ||| 2 ^ b.1) 0

/-- R341: the event word of a thread: bound channels, TIMER, and the edges held. -/
def State.pending_ (s : State) (h : Nat) : Nat :=
  let t := s.thread h
  let timer := if t.cmp ≠ 2 ^ 64 - 1 ∧ s.stk.phcRunning ∧ t.cmp ≤ s.stk.phcNs then 2 ^ 28 else 0
  chanBits s h t.binds ||| timer ||| t.edge

/-- R341: INJECT is always part of the mask. -/
def Thread.waitMask (t : Thread) : Nat := t.mask ||| 2 ^ 30

/-- R341: the pending masked bits are returned; the edge bits among them clear. -/
def waitReturn (h : Nat) (s : State) : State :=
  let p := s.pending_ h &&& (s.thread h).waitMask
  (updThread h (fun t => { t with edge := t.edge &&& (2 ^ 32 - 1 - (p &&& 0x60000000)) }) s).emit (.load h p)

/-- A thread in RUN, not held in a blocking commit, acts while the tiles are clocked (R795). -/
def threadActs (h : Nat) (f : State → State) (s : State) : Outcome :=
  .next (if hartOk h ∧ s.running = true ∧ s.inP1 = false ∧ s.thrState h = 1 ∧ (s.thread h).blocked = false then f s else s)

/-- TC_WAIT (R341, R332): pending masked events are returned, or the thread enters WAIT. -/
def execTcWait (hart : Nat) (s : State) : Outcome :=
  threadActs hart (fun s =>
    if s.pending_ hart &&& (s.thread hart).waitMask = 0 then enterThrState hart 2 s else waitReturn hart s) s

/-- THREAD_WAKE (R341): a masked event is pending for a waiting thread; its load returns. -/
def execThreadWake (hart : Nat) (s : State) : Outcome :=
  .next <|
    if s.thrState hart = 2 ∧ s.pending_ hart &&& (s.thread hart).waitMask ≠ 0 then waitReturn hart (enterThrState hart 1 s)
    else s

/-- TIMER_EVENT (R337, R341): ns past the last boundary the time reaches TC_MTIMECMP. -/
def execTimerEvent (hart ns : Nat) (s : State) : Outcome :=
  .next <|
    let t := s.thread hart
    if t.cmp ≠ 2 ^ 64 - 1 ∧ s.stk.phcRunning ∧ t.cmp ≤ s.stk.phcNs + ns then
      updThread hart (fun t => { t with edge := t.edge ||| 2 ^ 28 }) s
    else s

/-- TC_BIND (R337, R341): an event bit is bound to a channel of the tile, or unbound. -/
def execTcBind (hart value : Nat) (s : State) : Outcome :=
  threadActs hart (fun s =>
    let b := bits value 12 8
    if 27 < b then s
    else updThread hart (fun t => { t with binds := if bit value 15 = 1 then Map.put t.binds b (bits value 7 0) else Map.del t.binds b }) s) s

/-- R369: the peak of a core. -/
def sbPeak (core : Nat) : Field :=
  match core with
  | 0 => Reg.TIL_SB_PEAK_C0 | 1 => Reg.TIL_SB_PEAK_C1 | 2 => Reg.TIL_SB_PEAK_C2 | _ => Reg.TIL_SB_PEAK_C3

/-- TC_STROKE_DONE (R351, R352): the stroke's budgeted work ends, `cycles` core cycles after the boundary. -/
def execTcStrokeDone (hart cycles : Nat) (s : State) : Outcome :=
  threadActs hart (fun s =>
    let t := s.thread hart
    if t.stroke then
      let f := sbPeak (hartThread hart / 8)
      let s := s.setI f (hartTile hart) (max (s.getI f (hartTile hart)) (min 65535 cycles))
      updThread hart (fun t => { t with stroke := false }) s
    else s) s

/-! ### Channels (R338, R339) -/

/-- R326: whether a tile can be reached: not OUT, and not HELD other than for debug. -/
def State.tileReachable (s : State) (t : Nat) : Bool :=
  decide (t < 96) && s.getI Reg.TIL_INFO_ROLE t != 3 && (s.unitState 0 (s.servingTile t) != 2 || s.flagI Reg.TIL_INFO_DEBUG_HELD t)

/-- R338, R339, R751: whether a thread may write a channel now. -/
def State.mayWrite (s : State) (h k : Nat) : Bool :=
  s.tileReachable (k / 256) && decide (k % 256 ≠ 0) && ((Map.find? s.til.writers k).getD []).contains h
    && (s.unitState 0 (s.servingTile (k / 256)) != 1 || s.getI Reg.TIL_INFO_ROLE (k / 256) == 1 || decide (k / 256 = hartTile h))

/-- The outcome of a commit reported (R337). -/
def setLast (h v : Nat) (s : State) : State := updThread h (fun t => { t with last := v }) s

/-- TC_CH_COMMIT (R339): the staged words are committed, refused, or wait for a slot. -/
def execTcChCommit (hart value : Nat) (s : State) : Outcome :=
  threadActs hart (fun s =>
    let t := s.thread hart
    let words := bits value 59 56
    let tile := if bits value 46 40 = 0x7F then hartTile hart else bits value 46 40
    let k := tile * 256 + bits value 7 0
    if t.dropped then updThread hart (fun t => { t with dropped := false, last := 3 }) s
    else if words = 0 ∨ 8 < words ∨ s.mayWrite hart k = false then setLast hart 2 s
    else
      let m : Msg := ⟨words, t.stage % 2 ^ (64 * words), hart, if s.flagI Reg.TIL_CH_INFO_NICHE_BEARING k then t.niche.getD 0 else 0⟩
      if 0 < s.chanFree k then updThread hart (fun t => { t with staged := false, last := 0 }) (chanPut k m s)
      else if bit value 63 = 1 then
        let s := s.updTil (fun u => { u with waiting := s.til.waiting ++ [(⟨hart, k, m⟩ : CommitWait)] })
        updThread hart (fun t => { t with blocked := true }) (groupMoved hart s)
      else setLast hart 1 s) s

/-- CH_COMMIT_UNBLOCK (R339): a slot is free; the commit that has waited longest completes. -/
def execChCommitUnblock (chan : Nat) (s : State) : Outcome :=
  .next <|
    match s.til.waiting.find? fun w => w.chan == chan with
    | some w =>
      if 0 < s.chanFree chan then
        let s := s.updTil (fun u => { u with waiting := s.til.waiting.filter fun v => v != w })
        let s := groupMoved w.hart (chanPut chan w.msg s)
        updThread w.hart (fun t => { t with staged := false, last := 0, blocked := false }) s
      else s
    | none => s

/-- TC_CH_DISCARD (R337). -/
def execTcChDiscard (hart : Nat) (s : State) : Outcome :=
  threadActs hart (updThread hart (fun t => { t with staged := false, stage := 0 })) s

/-- R346: a report that found the supervisor channel full is written when a slot frees. -/
def reportsWaiting (t : Nat) (put : Nat → State → State) (s : State) : State :=
  match s.til.reports.find? fun g => g / 16 == t with
  | some g => if 0 < s.chanFree (supChan t) then put g (s.updTil (fun u => { u with reports := s.til.reports.filter fun x => x != g })) else s
  | none => s

/-- R346: the report of a wait group: kind, group, event, members, time, and each member's mask. -/
def waitReport (t g : Nat) (s : State) : Msg :=
  let members := s.getI Reg.TIL_WAITGRP_MEMBERS (t * 16 + g)
  let ms := (List.range 32).filter fun i => bit members i == 1
  let masks := (ms.foldl (fun (p : Nat × Nat) i => (p.1 + 1, p.2 + (s.thread (t * 32 + i)).waitMask % 2 ^ 32 * 2 ^ (32 * p.1))) (0, 0)).2
  ⟨8, 1 + g * 2 ^ 8 + Ev.waitCycle * 2 ^ 16 + members * 2 ^ 32 + s.now * 2 ^ 64 + masks % 2 ^ 384 * 2 ^ 128, 0xFFF, 0⟩

/-- R339: the header that a load of TC_TAKE returns. -/
def takeHeader (bearing : Bool) (m : Msg) : Nat :=
  2 ^ 63 + m.words * 2 ^ 56 + m.writer % 4096 * 2 ^ 44 + (if bearing then m.niche % 4096 * 2 ^ 32 else 0)

/-- TC_TAKE (R339, R336): the head of a channel of the thread's tile moves into TC_RECV. -/
def execTcTake (hart ch : Nat) (s : State) : Outcome :=
  threadActs hart (fun s =>
    let k := hartTile hart * 256 + ch
    let bearing := s.flagI Reg.TIL_CH_INFO_NICHE_BEARING k
    if (bearing ∧ (s.thread hart).niche.isSome) ∨ (ch = 0 ∧ hartThread hart ≠ 0) then s.emit (.load hart 0)
    else match s.chan k with
      | [] => s.emit (.load hart 0)
      | m :: rest =>
        let s := setChan k rest s
        let pkt := (Map.find? s.til.pktChan (hartTile hart)) == some ch && bearing
        let item := if pkt then some (bits m.data 83 64, bits m.data 127 96) else none
        let s := updThread hart (fun t => { t with
          recv := m.data, niche := if bearing then some m.niche else t.niche, item := if bearing then item else t.item }) s
        let s := reportsWaiting (hartTile hart) (fun g s => chanPut (supChan (hartTile hart)) (waitReport (g / 16) (g % 16) s) s) s
        s.emit (.load hart (takeHeader bearing m))) s

/-- TC_DMA_SUBMIT (R340): the staged 64 bytes become a work entry of the tile's port. -/
def execTcDmaSubmit (hart value : Nat) (s : State) : Outcome :=
  threadActs hart (fun s =>
    let k := hartTile hart * 256 + bits value 7 0
    if s.flagI Reg.TIL_CH_INFO_HW_WRITER k = false then setLast hart 2 s
    else if s.chanFree k = 0 then setLast hart 1 s
    else
      let t := s.thread hart
      let seq := s.rng.nextSeq
      let s := s.updTil (fun u => { u with reserved := Map.put s.til.reserved k ((Map.find? s.til.reserved k).getD 0 + 1) })
      let s := s.updRng (fun u => { u with nextSeq := seq + 1, flights := s.rng.flights ++ [(⟨seq, 0x1FFFF, t.niche.getD 0, t.stage % 2 ^ 512, false, [], none, some (hart, k)⟩ : Flight)] })
      let s := setLast hart 0 s
      if 0x10 ≤ wOpcode t.stage ∧ opcodeKnown (wOpcode t.stage) then s else finish seq St.badOpcode 0 s) s

/-- R337: a write to a value register of the thread control page. -/
def threadPageWrite (hart off value : Nat) (s : State) : State :=
  if off = 0x010 then updThread hart (fun t => { t with mask := value % 2 ^ 32 ||| 2 ^ 30 }) s
  else if off = 0x030 then updThread hart (fun t => { t with cmp := value % 2 ^ 64, edge := t.edge &&& (2 ^ 32 - 1 - 2 ^ 28) }) s
  else if off = 0x070 then
    if s.getI Reg.TIL_INFO_ROLE (hartTile hart) = 1 then updThread hart (fun t => { t with irqEn := value % 2 ^ 32 }) s else s
  else if 0x080 ≤ off ∧ off < 0x0C0 ∧ off % 8 = 0 then
    let i := (off - 0x080) / 8
    updThread hart (fun t => { t with
      stage := t.stage - (t.stage >>> (64 * i)) % 2 ^ 64 * 2 ^ (64 * i) + value % 2 ^ 64 * 2 ^ (64 * i), staged := true }) s
  else s

/-! ### The supervisor (R347) -/

/-- R347: the supervisor thread of a tile acts on the threads of a mask. -/
def supervisor (hart mask : Nat) (f : Nat → State → State) (s : State) : Outcome :=
  threadActs hart (fun s =>
    if hartThread hart = 0 then
      (List.range 32).foldl (fun s i => if bit mask i = 1 then f (hartTile hart * 32 + i) s else s) s
    else s) s

/-- SUP_INJECT (R341, R347). -/
def execSupInject (hart mask : Nat) (s : State) : Outcome :=
  supervisor hart mask (fun h => updThread h (fun t => { t with edge := t.edge ||| 2 ^ 30 })) s

/-- R332, R336: a thread starts at its entry point with its registers cleared. -/
def startThread (h : Nat) (s : State) : State :=
  enterThrState h 1 (updThread h (fun t => { t with xregs := [], pc := t.entry, niche := none, item := none, blocked := false }) s)

/-- SUP_START (R332, R347): STOPPED and FAULT threads of the mask start. -/
def execSupStart (hart mask : Nat) (s : State) : Outcome :=
  supervisor hart mask (fun h s => if s.thrState h = 0 ∨ s.thrState h = 4 then startThread h s else s) s

/-! ### Debug (R353 to R357) -/

/-- R354: whether the unlock in force covers a tile with a right. -/
def State.debugRight (s : State) (t right : Nat) : Bool :=
  s.flagI Reg.TIL_DBG_UNLOCKED t && bit (s.getI Reg.TIL_DBG_RIGHTS t) right == 1

/-- R354: the niche of an unlock's payload. -/
def State.debugNiche (s : State) : Nat :=
  match s.arm.unlock with
  | some (p, _) => byteField p 34 35
  | none => 0xFFFF

/-- R354, R725: an access outside the scope: a DMI error, logged. -/
def debugRefused (h : Nat) (s : State) : State :=
  (patina 0x0702 Sev.warning (hartTile h * 2 ^ 56 + h % 4096) s).emit (.dmi h false 0)

/-- DEBUG_ACCESS (R353, R354): kind 0 a register access, 1 a read and 2 a write of tile memory, 3 a read and
4 a write of the niche's stacked memory, one byte at an address. -/
def execDebugAccess (hart kind addr value : Nat) (s : State) : Outcome :=
  .next <|
    let t := hartTile hart
    let tileAddr := decide (addr < 0x140000)
    let (base, len) := s.stackedQuota s.debugNiche
    let stacked := s.debugRight t 3 && s.debugNiche != 0xFFFF && decide (base ≤ addr) && decide (addr < base + len)
    match kind with
    | 0 => if s.debugRight t 0 then s.emit (.dmi hart true ((Map.find? (s.thread hart).xregs addr).getD 0)) else debugRefused hart s
    | 1 => if s.debugRight t 1 ∧ tileAddr then s.emit (.dmi hart true (memRead s (tileMemBase t + addr)).toNat) else debugRefused hart s
    | 2 => if s.debugRight t 2 ∧ tileAddr then
        (memWrite s (tileMemBase t + addr) (BitVec.ofNat 8 value)).emit (.dmi hart true 0) else debugRefused hart s
    | 3 => if stacked then s.emit (.dmi hart true (memRead s addr).toNat) else debugRefused hart s
    | _ => if stacked then (memWrite s addr (BitVec.ofNat 8 value)).emit (.dmi hart true 0) else debugRefused hart s

/-- R371: HALTED of a tile follows a thread. -/
def setHalted (h v : Nat) (s : State) : State :=
  let w := s.getI Reg.TIL_DBG_HALTED (hartTile h)
  s.setI Reg.TIL_DBG_HALTED (hartTile h) (w - bit w (hartThread h) * 2 ^ hartThread h + v * 2 ^ hartThread h)

/-- DEBUG_HALT (R332, R354): a thread in RUN or WAIT enters HALT. -/
def execDebugHalt (hart : Nat) (s : State) : Outcome :=
  .next <|
    if s.debugRight (hartTile hart) 0 = false then debugRefused hart s
    else
      let st := s.thrState hart
      if st = 1 ∨ st = 2 then
        setHalted hart 1 (enterThrState hart 3 (updThread hart (fun t => { t with before := st, haltAt := s.stk.boundary }) s))
      else s

/-- R332: a halted thread returns to its state before HALT. -/
def resumeThread (h : Nat) (s : State) : State :=
  if s.thrState h = 3 then setHalted h 0 (enterThrState h (s.thread h).before s) else s

/-- DEBUG_RESUME (R332, R354). -/
def execDebugResume (hart : Nat) (s : State) : Outcome :=
  .next (if s.debugRight (hartTile hart) 0 = false then debugRefused hart s else resumeThread hart s)

/-- STAGED_DISCARD (R357): a halt has lasted 2^20 strokes; the staged message is discarded. -/
def execStagedDiscard (hart : Nat) (s : State) : Outcome :=
  .next <|
    let t := s.thread hart
    if s.thrState hart = 3 ∧ t.staged ∧ t.haltAt + 1048576 ≤ s.stk.boundary then
      let s := updThread hart (fun t => { t with staged := false, stage := 0, dropped := true }) s
      let s := jDevice 0x07E0 0 0 [hartTile hart + 1 * 2 ^ 8 + hartThread hart * 2 ^ 16] s
      raise Ev.tilStagedDiscard (hartTile hart) (hartTile hart + hartThread hart * 2 ^ 8)
        (s.setI Reg.TIL_STATUS_STAGED_DISCARD (hartTile hart) 1)
    else s

end Sys2Proof.Machine
end

