-- ==== Sys2Proof/Machine/Packets.lean ====
section
/-!
DEFINITION. The bytes of a frame: fields in wire order, the IP header behind the VLAN tags,
congestion marking (R472), the one-step time-stamp (R59), and prefix comparison (R221, R222).
-/
namespace Sys2Proof.Machine

/-- The number that bytes spell in wire order. -/
def ofBE (l : List Byte) : Nat := l.foldl (fun v b => v * 256 + b.toNat) 0

/-- n bytes of a number in wire order. -/
def toBE (n v : Nat) : List Byte := (toBytes n v).reverse

/-- n bytes of a frame from an offset, as a number in wire order; bytes beyond the end read zero. -/
def frameBE (l : List Byte) (off n : Nat) : Nat := ofBE ((List.range n).map fun k => l.getD (off + k) 0)

/-- Bytes written over a frame at an offset, within its length. -/
def framePut (l : List Byte) (off : Nat) (d : List Byte) : List Byte :=
  l.take off ++ (d.take (l.length - off)) ++ l.drop (off + d.length)

/-- The offset behind the VLAN tags of a frame, and the EtherType there. -/
def etherType (fuel off : Nat) (l : List Byte) : Nat × Nat :=
  let t := frameBE l off 2
  match fuel with
  | 0 => (off + 2, t)
  | fuel + 1 => if t = 0x8100 ∨ t = 0x88A8 then etherType fuel (off + 4) l else (off + 2, t)

/-- The one's complement sum of the 16-bit words of a byte string. -/
def onesSum (l : List Byte) : Nat :=
  match l with
  | a :: b :: t => (a.toNat * 256 + b.toNat) + onesSum t
  | [a] => a.toNat * 256
  | [] => 0

/-- The carries of a one's complement sum folded into 16 bits. -/
def foldSum (fuel v : Nat) : Nat :=
  match fuel with
  | 0 => v % 65536
  | fuel + 1 => if v < 65536 then v else foldSum fuel (v / 65536 + v % 65536)

/-- The internet checksum of a byte string. -/
def inetSum (l : List Byte) : Nat := 65535 - foldSum 8 (onesSum l)

/-- The IPv4 header checksum of the header at an offset made good. -/
def fixIp4 (off : Nat) (l : List Byte) : List Byte :=
  let n := frameBE l off 1 % 16 * 4
  let l := framePut l (off + 10) [0, 0]
  framePut l (off + 10) (toBE 2 (inetSum ((l.drop off).take n)))

/-- R472: CE is set in an outermost IP header that carries ECT(0) or ECT(1). -/
def setCE (l : List Byte) : List Byte :=
  let (off, t) := etherType 4 12 l
  if t = 0x0800 then
    let tos := frameBE l (off + 1) 1
    if tos % 4 = 1 ∨ tos % 4 = 2 then fixIp4 off (framePut l (off + 1) (toBE 1 (tos / 4 * 4 + 3))) else l
  else if t = 0x86DD then
    let b := frameBE l (off + 1) 1
    let ecn := b / 16 % 4
    if ecn = 1 ∨ ecn = 2 then framePut l (off + 1) (toBE 1 (b - ecn * 16 + 48)) else l
  else l

/-- R58, R59: where a PTP message lies in a frame: its offset, and the offset of its UDP header over IPv4 or IPv6. -/
def ptpAt (l : List Byte) : Option (Nat × Option (Nat × Bool)) :=
  let (off, t) := etherType 4 12 l
  if t = 0x88F7 then some (off, none)
  else if t = 0x0800 ∧ frameBE l (off + 9) 1 = 17 then
    let u := off + frameBE l off 1 % 16 * 4
    if frameBE l (u + 2) 2 = 319 then some (u + 8, some (u, false)) else none
  else if t = 0x86DD ∧ frameBE l (off + 6) 1 = 17 then
    let u := off + 40
    if frameBE l (u + 2) 2 = 319 then some (u + 8, some (u, true)) else none
  else none

/-- R59: the UDP checksum of a one-step frame: zero over IPv4, made neutral in the last two bytes over IPv6. -/
def ptpChecksum (udp : Option (Nat × Bool)) (old new : List Byte) : List Byte :=
  match udp with
  | none => new
  | some (u, false) => framePut new (u + 6) [0, 0]
  | some (u, true) =>
    let n := new.length
    let so := foldSum 8 (onesSum (old.drop u))
    let sn := foldSum 8 (onesSum ((framePut new (n - 2) [0, 0]).drop u))
    framePut new (n - 2) (toBE 2 ((so + 65535 - sn % 65535) % 65535))

/-- R59: a Sync takes its transmit time; a Pdelay_Resp takes a correction that the spec leaves to
IEEE 1588-2019, here the free value `corr`; any other frame is unchanged. -/
def oneStepStamp (ns sub corr : Nat) (l : List Byte) : List Byte :=
  match ptpAt l with
  | none => l
  | some (p, udp) =>
    let kind := frameBE l p 1 % 16
    if kind = 0 then
      let c := (frameBE l (p + 8) 8 + sub * 256) % 2 ^ 64
      let m := framePut (framePut l (p + 8) (toBE 8 c)) (p + 34) (toBE 6 (ns / 1000000000) ++ toBE 4 (ns % 1000000000))
      ptpChecksum udp l m
    else if kind = 3 then ptpChecksum udp l (framePut l (p + 8) (toBE 8 (corr % 2 ^ 64)))
    else l

/-- R221, R222: whether an address of w bits lies within a prefix of a length. -/
def inPrefix (w len a b : Nat) : Bool := a >>> (w - min w len) == b >>> (w - min w len)

end Sys2Proof.Machine
end

