-- ==== Sys2Proof/Machine/Deparse.lean ====
section
/-!
DEFINITION. What the deparser does to a frame (R390, R393): pushes, pops, ENCAP, DECAP, TTL, checksums; and what the
device fills in or looks for in a frame of its own accord (R222, R224, R266).
-/
namespace Sys2Proof.Machine

/-! ### IP and layer 4 -/

/-- The IP header behind the VLAN tags of a frame: its offset and version. -/
def ipOf (l : List Byte) : Option (Nat × Nat) :=
  let (off, t) := etherType 4 12 l
  if t = 0x0800 then some (off, 4) else if t = 0x86DD then some (off, 6) else none

/-- The layer 4 header of the IP header at an offset: its offset, protocol, length and the sum of its pseudo header;
none for a fragment. -/
def l4At (l : List Byte) (off v : Nat) : Option (Nat × Nat × Nat × Nat) :=
  if v = 4 then
    let ihl := frameBE l off 1 % 16 * 4
    let n := frameBE l (off + 2) 2 - ihl
    let p := frameBE l (off + 9) 1
    if frameBE l (off + 6) 2 % 2 ^ 14 ≠ 0 then none
    else some (off + ihl, p, n, onesSum ((l.drop (off + 12)).take 8) + p + n)
  else
    let n := frameBE l (off + 4) 2
    let p := frameBE l (off + 6) 1
    some (off + 40, p, n, onesSum ((l.drop (off + 8)).take 32) + p + n)

/-- The place of a TCP or UDP checksum, and the sum of what it covers with the checksum taken as zero. -/
def l4Sum (l : List Byte) (off v : Nat) : Option (Nat × Nat) :=
  match l4At l off v with
  | some (o, p, n, pseudo) =>
    let at_ := if p = 6 then o + 16 else o + 6
    if p ≠ 6 ∧ p ≠ 17 then none
    else some (at_, pseudo + onesSum (((framePut l at_ [0, 0]).drop o).take n))
  | none => none

/-- A checksum carried over from an old sum of covered bytes to a new one. -/
def carrySum (v old new : Nat) : Nat :=
  65535 - foldSum 8 ((65535 - v % 65536) + (65535 - foldSum 8 old) + foldSum 8 new)

/-- The sum of an IPv4 header with its checksum taken as zero. -/
def ip4Sum (l : List Byte) (off : Nat) : Nat :=
  onesSum (((framePut l (off + 10) [0, 0]).drop off).take (frameBE l off 1 % 16 * 4))

/-- R393: the checksums of the outermost IP header and its layer 4 follow a rewrite. -/
def refit (old new : List Byte) : List Byte :=
  match ipOf old, ipOf new with
  | some (a, va), some (b, vb) =>
    let new := if va = 4 ∧ vb = 4 then framePut new (b + 10) (toBE 2 (carrySum (frameBE old (a + 10) 2) (ip4Sum old a) (ip4Sum new b))) else new
    match l4Sum old a va, l4Sum new b vb with
    | some (x, so), some (y, sn) =>
      let v := frameBE old x 2
      if v = 0 ∧ frameBE old (a + if va = 4 then 9 else 6) 1 = 17 then new else framePut new y (toBE 2 (carrySum v so sn))
    | _, _ => new
  | _, _ => new

/-- The TCP or UDP checksum of the IP header at an offset filled in. -/
def fillL4 (off v : Nat) (l : List Byte) : List Byte :=
  match l4Sum l off v with
  | some (x, n) =>
    let c := 65535 - foldSum 8 n
    framePut l x (toBE 2 (if c = 0 then 65535 else c))
  | none => l

/-- The checksums of the IP header at an offset and of its layer 4 filled in. -/
def fillSums (off v : Nat) (l : List Byte) : List Byte :=
  fillL4 off v (if v = 4 then fixIp4 off l else l)

/-- R379: the innermost IP header of a frame: behind one VXLAN, GENEVE or GRE tunnel. -/
def innermostIp (l : List Byte) : Option (Nat × Nat) :=
  match ipOf l with
  | none => none
  | some (off, v) =>
    let inner (o : Nat) : Option (Nat × Nat) := (ipOf (l.drop o)).map fun x => (o + x.1, x.2)
    match l4At l off v with
    | some (o, p, _, _) =>
      let port := frameBE l (o + 2) 2
      let opt := frameBE l o 1
      let t := frameBE l (o + 2) 2
      let g := o + 4 + (if bit opt 7 = 1 then 4 else 0) + (if bit opt 5 = 1 then 4 else 0) + (if bit opt 4 = 1 then 4 else 0)
      let found := if p = 17 ∧ port = 4789 then inner (o + 16)
        else if p = 17 ∧ port = 6081 then inner (o + 16 + frameBE l (o + 8) 1 % 64 * 4)
        else if p = 47 ∧ t = 0x6558 then inner g
        else if p = 47 ∧ t = 0x0800 then some (g, 4)
        else if p = 47 ∧ t = 0x86DD then some (g, 6)
        else none
      match found with
      | some x => some x
      | none => some (off, v)
    | none => some (off, v)

/-- R266: CSUM: the checksums of the innermost headers of a frame filled in. -/
def fillCsum (l : List Byte) : List Byte :=
  match innermostIp l with
  | some (off, v) => fillSums off v l
  | none => l

/-! ### The operations of R390 that change the frame -/

/-- Bytes put between the first n bytes of a frame and the rest. -/
def insertAt (l : List Byte) (n : Nat) (d : List Byte) : List Byte := l.take n ++ d ++ l.drop n

/-- Bytes taken out of a frame. -/
def removeAt (l : List Byte) (off n : Nat) : List Byte := l.take off ++ l.drop (off + n)

/-- R390: DEC_TTL: the TTL or hop limit of the outermost IP header: where it stands, and its value. -/
def ttlOf (l : List Byte) : Option (Nat × Nat) :=
  (ipOf l).map fun x => let o := x.1 + if x.2 = 4 then 8 else 7; (o, frameBE l o 1)

/-- R393: ENCAP: a template before the frame, its outer lengths and checksums filled in, and a UDP source port from FLOW_HASH. -/
def encap (template hash : Nat) (l : List Byte) : List Byte :=
  let n := Config.templateLen template % 129
  let l := toBytes n template ++ l
  match ipOf l with
  | none => l
  | some (off, v) =>
    let l := if v = 4 then framePut l (off + 2) (toBE 2 (l.length - off)) else framePut l (off + 4) (toBE 2 (l.length - off - 40))
    let l := match l4At l off v with
      | some (o, p, _, _) => if p = 17 then framePut l o (toBE 2 hash ++ (l.drop (o + 2)).take 2 ++ toBE 2 (l.length - o)) else l
      | none => l
    fillSums off v l

/-- R390, R393: one operation applied to a frame; `base` is the frame as the pipeline received it. -/
def editFrame (vec : Nat) (templates : Map Nat) (base : Nat) (l : List Byte) (op : Nat) : List Byte :=
  match byteField op 0 0 with
  | 0x05 => insertAt l 12 (toBE 2 (byteField op 1 2) ++ toBE 2 (byteField op 3 4))
  | 0x06 => if frameBE l 12 2 = 0x8100 ∨ frameBE l 12 2 = 0x88A8 then removeAt l 12 4 else l
  | 0x07 =>
    let off := (etherType 4 12 l).1
    insertAt (framePut l (off - 2) (toBE 2 0x8847)) off (toBE 4 (byteField op 1 4))
  | 0x08 =>
    let (off, t) := etherType 4 12 l
    if t = 0x8847 ∨ t = 0x8848 then
      let last := frameBE l (off + 2) 1 % 2
      let l := removeAt l off 4
      if last = 1 then framePut l (off - 2) (toBE 2 (byteField op 1 2)) else l
    else l
  | 0x09 => encap ((Map.find? templates (byteField op 1 2)).getD 0) (byteField vec 16 17) l
  | 0x0A =>
    let o := byteField vec (32 + 2 * (byteField op 1 1 % 8)) (33 + 2 * (byteField op 1 1 % 8))
    if o = 0xFFFF then l else l.drop (o + l.length - base)
  | 0x0B => match ttlOf l with
    | some (o, v) => refit l (framePut l o (toBE 1 (v - 1)))
    | none => l
  | _ => l

/-- R393: the frame as it leaves the pipeline: the bytes that the rewritten fields give, then the operations in order. -/
def deparse (vec : Nat) (templates : Map Nat) (patch : List (Nat × Byte)) (edits : List Nat) (l : List Byte) : List Byte :=
  let l' := patch.foldl (fun l e => framePut l e.1 [e.2]) l
  let l' := if patch = [] then l' else refit l l'
  edits.foldl (editFrame vec templates l.length) l'

/-! ### Addresses in a frame (R222, R224) -/

/-- R222: the outermost VLAN ID, or 0xFFF for an untagged frame. -/
def frameVid (l : List Byte) : Nat :=
  let t := frameBE l 12 2
  if t = 0x8100 ∨ t = 0x88A8 then frameBE l 14 2 % 4096 else 0xFFF

/-- R222: the protocol addresses that the IP check covers: version and address. -/
def sourceAddrs (l : List Byte) : List (Nat × Nat) :=
  let (off, t) := etherType 4 12 l
  if t = 0x0800 then [(4, frameBE l (off + 12) 4)]
  else if t = 0x0806 then [(4, frameBE l (off + 14) 4)]
  else if t = 0x86DD then
    (6, frameBE l (off + 8) 16) :: (if frameBE l (off + 6) 1 = 58 ∧ frameBE l (off + 40) 1 = 136 then [(6, frameBE l (off + 48) 16)] else [])
  else []

/-- R224: the address that an ARP request or a Neighbour Solicitation asks for. -/
def askedAddr (l : List Byte) : Option (Nat × Nat) :=
  let (off, t) := etherType 4 12 l
  if t = 0x0806 ∧ frameBE l (off + 6) 2 = 1 then some (4, frameBE l (off + 24) 4)
  else if t = 0x86DD ∧ frameBE l (off + 6) 1 = 58 ∧ frameBE l (off + 40) 1 = 135 then some (6, frameBE l (off + 48) 16)
  else none

/-- R222, R224: the Turelm header in a frame sent to the armature's UDP port: its offset. -/
def turelmAt (port : Nat) (l : List Byte) : Option Nat :=
  match ipOf l with
  | none => none
  | some (off, v) => match l4At l off v with
    | some (o, p, _, _) => if p = 17 ∧ frameBE l (o + 2) 2 = port then some (o + 8) else none
    | none => none

/-- R221: an address lies within a prefix entry. -/
def spoofHas (e : Nat) (a : Nat × Nat) : Bool :=
  (byteField e 0 0 == 3 && a.1 == 4 && inPrefix 32 (byteField e 1 1) a.2 (ofBE (toBytes 4 (e >>> 128))))
    || (byteField e 0 0 == 4 && a.1 == 6 && inPrefix 128 (byteField e 1 1) a.2 (ofBE (toBytes 16 (e >>> 128))))

/-- R221: the MAC address of an entry, as a frame spells it. -/
def spoofMac (e : Nat) : Nat := ofBE (toBytes 6 (e >>> 64))

/-- R224: six bytes of 0xFF and sixteen copies of an address, somewhere in a frame. -/
def magicFor (mac : Nat) (l : List Byte) : Bool :=
  let pat := List.replicate 6 (255 : Byte) ++ (List.replicate 16 (toBE 6 mac)).flatten
  (List.range l.length).any fun k => (l.drop k).take pat.length == pat

end Sys2Proof.Machine
end

