-- ==== Sys2Proof/Machine/Sends.lean ====
section
/-!
DEFINITION. Turelm send records (R541) as the scheduler meets them: a chunk has left its port (R532).
-/
namespace Sys2Proof.Machine

/-- R541: the send record of a message to a peer. -/
def State.send (s : State) (peer msg : Nat) : Option Send := s.tlt.sends.find? fun x => x.peer == peer && x.msg == msg

/-- A send record changed. -/
def updSend (peer msg : Nat) (f : Send → Send) (s : State) : State :=
  (s.updTlt (fun u => { u with sends := s.tlt.sends.map fun x => if x.peer = peer ∧ x.msg = msg then f x else x }))

/-- R523: the chunks of a message. -/
def chunkCount (len seg : Nat) : Nat := max 1 ((len + 2 ^ seg - 1) / 2 ^ seg)

/-- R532: a chunk has left; work without ACKED completes when the last byte of its first transmission has. -/
def chunkLeft (peer msg chunk : Nat) (s : State) : State :=
  match s.send peer msg with
  | none => s
  | some x =>
    let left := insertNat chunk x.left
    let s := updSend peer msg (fun x => { x with left := left }) s
    match x.owner with
    | .work q => if 1 ≤ x.op ∧ x.op ≤ 3 ∧ x.acked = false ∧ left.length = chunkCount x.len x.seg then finish q St.ok 0 s else s
    | _ => s

end Sys2Proof.Machine
end

