-- ==== Sys2Proof/Machine/Stroke.lean ====
section
/-!
DEFINITION. Stroke and network time (R29 to R98): the meanings of the clock, step,
realign, alignment, time-stamp, PPS and time-of-day commands.
-/
namespace Sys2Proof.Machine

/-! ### Steps (R45 to R51) -/

/-- R83, R75: the PENDING bits follow whether a step waits. -/
def stepPendingBits (s : State) : State :=
  let p := if s.stk.step.isSome || s.stk.latched.isSome then 1 else 0
  (s.set Reg.STK_STEP_STATUS_PENDING p).set Reg.STK_STATUS_STEP_PENDING p

/-- R83, R73: the outcome of a step is reported. -/
def stepResult (r : Nat) (s : State) : State :=
  raise Ev.stepDone 0 0 ((stepPendingBits s).set Reg.STK_STEP_STATUS_RESULT r)

/-- R46: s / period rounded half away from zero. -/
def roundHalfAway (n : Int) (p : Nat) : Int :=
  if 0 ≤ n then (2 * n + p) / (2 * p) else -((2 * -n + p) / (2 * p))

/-- R46, R83: SLEW_LEFT, from thousandths of a nanosecond, away from zero. -/
def slewField (ps : Int) : Nat :=
  unsigned 16 (if 0 ≤ ps then (ps + 999) / 1000 else -((-ps + 999) / 1000))

/-- R34: the stroke count and its lead after the PHC has moved. -/
def recount (floor : Nat) (s : State) : State :=
  let base := s.stk.phcNs / s.period
  let c := max floor base
  (s.set Reg.STK_COUNT_COUNT c).set Reg.STK_COUNT_LEAD_LEAD (c - base)

/-- R46, R49, R51: a step applied at this boundary. -/
def applyStep (ns : Int) (s : State) : State :=
  let p := s.period
  let k := roundHalfAway ns p
  let r := ns - k * p
  let before := s.stroke
  let s := s.updStk (fun u => { u with phcNs := ((s.stk.phcNs : Int) + k * p).toNat, slewPs := s.stk.slewPs + r * 1000 })
  let s := recount before s
  let s := s.updStk (fun u => { u with timerBacklog := s.stk.timerBacklog + (s.stroke - before) })
  let s := s.set Reg.STK_STEP_STATUS_SLEW_LEFT (slewField s.stk.slewPs)
  let s := jDevice 0x1008 0 0 [unsigned 64 ns + unsigned 64 (k * p) * 2 ^ 64 + unsigned 16 r * 2 ^ 128,
    before + s.stroke * 2 ^ 64] s
  stepResult 1 s

/-- R45, R47: a step requested by software or by a time-of-day message. `silent` leaves the
status unchanged where the step is not permitted (R72). -/
def requestStep (ns : Int) (silent : Bool) (s : State) : State × Bool :=
  let armed := s.stk.realign.isSome
  let free := s.running && s.dev != 4 && !armed
  let held := s.running && armed && !s.stk.realignLatched
  if free || held then
    let superseded := s.stk.step.isSome
    let s := s.updStk (fun u => { u with step := some ⟨ns, s.dueBoundary, held⟩ })
    let s := if superseded then stepResult 4 s else s
    (stepPendingBits s, true)
  else if silent then (s, false)
  else (stepResult 2 s, false)

/-- PHC_STEP_WRITE (R45, R47): the write is accepted, held for a realign, or refused. -/
def execPhcStepWrite (who : Issuer) (ns : Nat) (s : State) : Outcome :=
  .next <| setGate who 0x100038 s fun s =>
    let (s, ok) := requestStep (signed 64 ns) false s
    if ok then jRegWrite who 0 0x100038 ns 0 0 s else s

/-- STEP_LATCH (R45, R48): SEAL begins; the step of the next boundary is fixed. -/
def execStepLatch (s : State) : Outcome :=
  .next <|
    let s := s.updStk (fun u => { u with phase := 2 })
    let s := s.set Reg.STK_STATUS_PHASE 2
    let atTarget := s.stk.realign == some (s.stroke + 1)
    let s := if atTarget then (s.updStk (fun u => { u with realignLatched := true })) else s
    match s.stk.step with
    | some p =>
      if (p.held && atTarget) || (!p.held && decide (p.due ≤ s.stk.boundary + 1)) then
        (s.updStk (fun u => { u with step := none, latched := some p }))
      else s
    | none => s

/-- R45, R47: the steps that are due at a boundary and not held for a realign are applied. -/
def stepsDue (s : State) : State :=
  match s.stk.latched with
  | some p =>
    if p.held then s
    else applyStep p.ns (s.updStk (fun u => { u with latched := none }))
  | none =>
    match s.stk.step with
    | some p =>
      if p.held = false ∧ p.due ≤ s.stk.boundary then
        applyStep p.ns (s.updStk (fun u => { u with step := none }))
      else s
    | none => s

/-- R32, R80: the rate register takes a value, clamped to ±500 ppm. -/
def setRate (i : Int) (s : State) : State :=
  s.set Reg.STK_PHC_RATE_RATE (unsigned 32 (max (-500000000) (min 500000000 i)))

/-- SLEW_DONE (R46): SLEW_LEFT is zero and a held rate write applies. -/
def execSlewDone (s : State) : Outcome :=
  .next <|
    let s := s.updStk (fun u => { u with slewPs := 0 })
    let s := s.set Reg.STK_STEP_STATUS_SLEW_LEFT 0
    match s.stk.heldRate with
    | some r => setRate r (s.updStk (fun u => { u with heldRate := none }))
    | none => s

/-- PHC_RATE_WRITE (R32, R46): clamped, and held while a remainder is absorbed. -/
def execPhcRateWrite (who : Issuer) (rate : Nat) (s : State) : Outcome :=
  .next <| setGate who 0x100030 s fun s =>
    let i := signed 32 rate
    let excess := decide (500000000 < i) || decide (i < -500000000)
    let before := s.get Reg.STK_PHC_RATE_RATE
    let s := if excess then s.set Reg.STK_STATUS_RATE_CLAMP 1 else s
    let s := if s.stk.slewPs = 0 then setRate i s
             else (s.updStk (fun u => { u with heldRate := some i }))
    jRegWrite who 0 0x100030 rate before 0 s

/-! ### Realign (R48) -/

/-- R48: the strokes from the count to the next count with the given low 48 bits. -/
def realignAhead (count at48 : Nat) : Nat :=
  let d := (at48 + 2 ^ 48 - count % 2 ^ 48) % 2 ^ 48
  if d = 0 then 2 ^ 48 else d

/-- REALIGN_ARM (R48): armed or moved after the range check. -/
def execRealignArm (who : Issuer) (atStroke : Nat) (s : State) : Outcome :=
  .next <| setGate who 0x100040 s fun s =>
    let d := realignAhead s.stroke atStroke
    if s.running = false ∨ s.stk.realignLatched = true then s
    else if d < 2 ∨ 2 ^ 20 < d then s.set Reg.STK_STEP_STATUS_RESULT 3
    else
      let before := s.get Reg.STK_REALIGN_ARM * 2 ^ 63 + s.get Reg.STK_REALIGN_AT_STROKE
      let s := s.updStk (fun u => { u with realign := some (s.stroke + d), step := s.stk.step.map fun (p : PendStep) => { p with held := true } })
      let s := (s.set Reg.STK_REALIGN_ARM 1).set Reg.STK_REALIGN_AT_STROKE atStroke
      jRegWrite who 0 0x100040 (2 ^ 63 + atStroke) before 0 s

/-- R45, R48: the realign is disarmed and ARM cleared. -/
def disarm (s : State) : State :=
  (s.updStk (fun u => { u with realign := none, realignLatched := false })).set Reg.STK_REALIGN_ARM 0

/-- REALIGN_DISARM (R48): a step held for the realign is refused. -/
def execRealignDisarm (who : Issuer) (atStroke : Nat) (s : State) : Outcome :=
  .next <| setGate who 0x100040 s fun s =>
    if s.running = false ∨ s.stk.realignLatched = true then s
    else
      let before := s.get Reg.STK_REALIGN_ARM * 2 ^ 63 + s.get Reg.STK_REALIGN_AT_STROKE
      let armed := s.stk.realign.isSome
      let held := s.stk.step.isSome
      let s := (disarm s).set Reg.STK_REALIGN_AT_STROKE atStroke
      let s := if armed && held then stepResult 2 (s.updStk (fun u => { u with step := none })) else s
      jRegWrite who 0 0x100040 atStroke before 0 s

/-- REALIGN_TARGET (R48): the held step is applied, or the realign lapses with RESULT 5. -/
def execRealignTarget (s : State) : Outcome :=
  .next <|
    match s.stk.realign with
    | none => s
    | some t =>
      if s.stroke < t then s
      else
        let held := match s.stk.latched with
          | some p => some p
          | none => s.stk.step
        let s := disarm (s.updStk (fun u => { u with latched := none, step := none }))
        match held with
        | some p => applyStep p.ns s
        | none => stepResult 5 s

/-- R45: entry to SAFE refuses a waiting step and disarms the realign. -/
def clockAtSafe (s : State) : State :=
  let waiting := s.stk.step.isSome || s.stk.latched.isSome
  let ns := match s.stk.latched, s.stk.step with
    | some p, _ => p.ns
    | none, some p => p.ns
    | none, none => 0
  let s := disarm (s.updStk (fun u => { u with latched := none, step := none }))
  if waiting then
    jDevice 0x1008 0 St.badState [unsigned 64 ns, s.stroke + s.stroke * 2 ^ 64] (stepResult 2 s)
  else s

/-! ### Alignment (R52 to R54) -/

/-- R52, R54: ALIGN takes a class; leaving ALIGNED raises EV_STROKE_ALIGN_LOST. -/
def setAlign (a : Nat) (s : State) : State :=
  let old := s.get Reg.STK_STATUS_ALIGN
  let s := s.set Reg.STK_STATUS_ALIGN a
  if old = 1 ∧ a ≠ 1 then raise Ev.strokeAlignLost 0 0 s else s

/-- ALIGN_ESTIMATE_WRITE (R52, R84). -/
def execAlignEstimateWrite (who : Issuer) (offset : Nat) (s : State) : Outcome :=
  .next <| setGate who 0x100050 s fun s =>
    let before := s.get Reg.STK_ALIGN_EST_OFFSET
    let s := s.set Reg.STK_ALIGN_EST_OFFSET offset
    let s := s.updStk (fun u => { u with alignHold := 0 })
    let cls := if (signed 32 offset).natAbs ≤ s.get Reg.STK_ALIGN_CFG_LIMIT then 1 else 2
    jRegWrite who 0 0x100050 offset before 0 (setAlign cls s)

/-- ALIGN_HOLDOVER (R52): HOLD boundaries have passed since the last estimate. -/
def execAlignHoldover (s : State) : Outcome :=
  .next <|
    let hold := s.get Reg.STK_ALIGN_CFG_HOLD
    if hold ≠ 0 ∧ hold ≤ s.stk.alignHold ∧ s.get Reg.STK_STATUS_ALIGN ≠ 0 then setAlign 3 s else s

/-! ### Reading the clock and the time-stamps (R31, R60 to R63) -/

/-- PHC_SEC_READ (R31): the read, ns and frac past the last boundary, latches STK_PHC_NS. -/
def execPhcSecRead (who : Issuer) (ns frac : Nat) (s : State) : Outcome :=
  .next <| readGate who 0x100020 s fun s =>
    let t := s.stk.phcNs + (if s.stk.phcRunning then ns else 0)
    let f := if s.stk.phcRunning then frac else 0
    let s := s.sets [(Reg.STK_PHC_SEC_SEC, t / 1000000000), (Reg.STK_PHC_NS_NS, t % 1000000000),
      (Reg.STK_PHC_NS_FRAC, f)]
    reply who (t / 1000000000) s

/-- R61, R63: an entry put into the transmit time-stamp queue of a MAC, or lost when full. -/
def txtsPut (mac : Nat) (e : TxTs) (s : State) : State :=
  let q := (Map.find? s.stk.txts mac).getD []
  if q.length < 64 then
    let s := s.updStk (fun u => { u with txts := Map.put s.stk.txts mac (q ++ [e]) })
    if q = [] then raise Ev.txtsReady mac mac s else s
  else
    let s := countI Reg.STK_TXTS_DROP_COUNT mac s
    if s.stk.txtsOvf.contains mac then s
    else
      let s := s.updStk (fun u => { u with txtsOvf := mac :: s.stk.txtsOvf })
      raise Ev.txtsOverflow mac mac (s.set Reg.STK_STATUS_TXTS_OVF 1)

/-- R90: the STK_TXTS_INFO word of a queue. -/
def txtsInfo (q : List TxTs) : Nat :=
  match q with
  | [] => 0
  | e :: _ => 2 ^ 63 + q.length % 128 * 2 ^ 56 + e.status % 256 * 2 ^ 48 + e.sub % 256 * 2 ^ 40 + e.tsId % 2 ^ 16

/-- TXTS_INFO_READ (R62): the head is returned and removed, its time latched. -/
def execTxtsInfoRead (who : Issuer) (mac : Nat) (s : State) : Outcome :=
  .next <| readGate who (0x100200 + 16 * mac) s fun s =>
    let q := (Map.find? s.stk.txts mac).getD []
    let time := match q with
      | e :: _ => if e.status = 0 then e.time else 0
      | [] => 0
    let rest := q.drop 1
    let s := s.setI Reg.STK_TXTS_TIME_TIME mac time
    let s := (s.updStk (fun _ => { s.stk with
      txts := if rest = [] then Map.del s.stk.txts mac else Map.put s.stk.txts mac rest
      txtsOvf := if rest.length ≤ 32 then s.stk.txtsOvf.filter (fun m => m != mac) else s.stk.txtsOvf }))
    reply who (txtsInfo q) s

/-! ### PPS, 10 MHz, time of day (R67 to R72) -/

/-- PPS_IN_EDGE (R68, R95): the capture, MISSED when the last one was not read. -/
def execPpsInEdge (ns sub : Nat) (s : State) : Outcome :=
  .next <|
    let t := s.stk.phcNs + ns
    let s := if s.stk.ppsUnread then s.set Reg.STK_PPS_IN_INFO_MISSED 1 else s
    let s := s.updStk (fun u => { u with ppsUnread := true, ppsNs := t })
    let s := s.sets [(Reg.STK_PPS_IN_TS_TIME, compactTime t), (Reg.STK_PPS_IN_INFO_NEW, 1),
      (Reg.STK_PPS_IN_INFO_SUBNS, sub)]
    raise Ev.ppsIn 0 0 s

/-- PPS_IN_TS_READ (R94): the capture is returned and NEW clears. -/
def execPpsInTsRead (who : Issuer) (s : State) : Outcome :=
  .next <| readGate who 0x100408 s fun s =>
    let v := s.get Reg.STK_PPS_IN_TS_TIME
    let s := s.updStk (fun u => { u with ppsUnread := false })
    reply who v (s.set Reg.STK_PPS_IN_INFO_NEW 0)

/-- PPS_OUT_PULSE (R67): PPS_OUT asserts at the offset second, or deasserts WIDTH ms later. -/
def execPpsOutPulse (assert : Bool) (s : State) : Outcome :=
  .next (s.updStk (fun u => { u with ppsOut := assert && s.flag Reg.STK_PPS_OUT_CFG_PPS_EN && s.stk.phcRunning }))

/-- R75, R69: REF_LOCK, CLK10M_IN in lock and in use. -/
def refLock (s : State) : State :=
  s.set Reg.STK_STATUS_REF_LOCK (if s.stk.clkLock && s.flag Reg.STK_CTL_CLK10M_REF then 1 else 0)

/-- CLK10M_LOCK (R69): in lock; the PHC runs from it when selected. -/
def execClk10mLock (s : State) : Outcome :=
  .next (refLock (s.updStk (fun u => { u with clkLock := true })))

/-- CLK10M_LOCK_LOSS (R69): the PHC returns to the system reference. -/
def execClk10mLockLoss (s : State) : Outcome :=
  .next <|
    let was := s.stk.clkLock && s.flag Reg.STK_CTL_CLK10M_REF
    let s := refLock (s.updStk (fun u => { u with clkLock := false }))
    if was then raise Ev.clkRefLost 0 0 s else s

/-- R70: the XOR of bytes 2 to 14 of a time-of-day message. -/
def todChecksum (n msg acc : Nat) : Nat :=
  match n with
  | 0 => acc
  | n + 1 => todChecksum n msg (acc ^^^ byteField msg (n + 2) (n + 2))

/-- R70, R71: whether a message that ended ms milliseconds after the capture is accepted. -/
def todAccepted (msg ms : Nat) : Bool :=
  byteField msg 0 0 == 0x5A && byteField msg 1 1 == 0xA5 && byteField msg 2 2 == 1 && byteField msg 3 3 == 12
  && byteField msg 15 15 == todChecksum 13 msg 0 && bit (byteField msg 14 14) 0 == 1
  && decide (100 ≤ ms) && decide (ms ≤ 900)

/-- TOD_MESSAGE (R71, R72). -/
def execTodMessage (msg ms : Nat) (s : State) : Outcome :=
  .next <|
    if todAccepted msg ms then
      let sec := byteField msg 4 11
      let fl := byteField msg 14 14
      let s := s.sets [(Reg.STK_TOD_SEC_SEC, sec), (Reg.STK_TOD_INFO_VALID, 1),
        (Reg.STK_TOD_INFO_LEAP_PENDING, bit fl 1), (Reg.STK_TOD_INFO_LEAP_NEG, bit fl 2),
        (Reg.STK_TOD_INFO_UTC_OFFSET, byteField msg 12 13)]
      let s := raise Ev.todReceived 0 0 s
      if s.flag Reg.STK_CTL_TOD_LOAD then
        (requestStep ((sec * 1000000000 : Nat) - (s.stk.ppsNs : Int)) true s).1
      else s
    else s.set Reg.STK_STATUS_TOD_ERR 1

end Sys2Proof.Machine
end

