-- ==== Sys2Proof/Machine/Sched.lean ====
section
/-!
DEFINITION. The scheduler (R468 to R511): queues, shapers, gates, transmit lists, policers and
the SCH_CMD commands. Instants on the wire are in picoseconds of PHC time.
-/
namespace Sys2Proof.Machine

/-! ### The tree (R468, R469) -/

/-- R468: level and index of a node handle. -/
def nodeLevel (h : Nat) : Nat := h / 2 ^ 17 % 8
def nodeIndex (h : Nat) : Nat := h % 2 ^ 17

/-- R468: the handle of a port and of a class of a port. -/
def portNode (p : Nat) : Nat := 4 * 2 ^ 17 + p
def classNode (p t : Nat) : Nat := 3 * 2 ^ 17 + p * 8 + t

/-- The nodes from a node up to its port. -/
def nodePath (s : State) (fuel h : Nat) : List Nat :=
  match fuel with
  | 0 => []
  | fuel + 1 => if nodeLevel h = 4 then [h] else h :: nodePath s fuel (s.getI Reg.SCH_NODE_CFG_PARENT h)

/-- R468: the port and the class under which a queue hangs. -/
def State.queuePort (s : State) (q : Nat) : Nat := nodeIndex ((nodePath s 5 q).getLastD (portNode 0))
def State.queueClass (s : State) (q : Nat) : Nat :=
  match (nodePath s 5 q).find? fun h => nodeLevel h == 3 with
  | some h => nodeIndex h % 8
  | none => 0

/-- The frames of a queue. -/
def State.queue (s : State) (q : Nat) : List SFrame := (Map.find? s.sch.queues q).getD []

/-- A queue's frames changed. -/
def setQueue (q : Nat) (l : List SFrame) (s : State) : State :=
  (s.updSch (fun u => { u with queues := if l = [] then Map.del s.sch.queues q else Map.put s.sch.queues q l }))

/-- The children of a node. -/
def State.kids (s : State) (h : Nat) : List Nat := (Map.find? s.sch.kids h).getD []

/-- R475: a frame's bytes as transmitted, its MAC padding and FCS included. -/
def sentBytes (l : List Byte) : Nat := max 60 l.length + 4

/-- R475: the wire length of a frame on a port. -/
def wireBytes (s : State) (p : Nat) (l : List Byte) : Nat :=
  ((sentBytes l + 20 : Nat) + signed 8 (s.getI Reg.SCH_PORT_CFG_OVERHEAD p)).toNat

/-- R475: the wire time of a frame in ps. -/
def wirePs (s : State) (p : Nat) (l : List Byte) : Nat :=
  wireBytes s p l * 8000000 / max 1 (s.getI Reg.SCH_PORT_CFG_RATE_MBPS p)

/-- Bytes waiting under a node. -/
def backlog (s : State) (fuel h : Nat) : Nat :=
  match fuel with
  | 0 => 0
  | fuel + 1 =>
    if nodeLevel h = 0 then (s.queue h).foldl (fun a f => a + sentBytes f.bytes) 0
    else (s.kids h).foldl (fun a k => a + backlog s fuel k) 0

/-- R478: the credit of a node in units of 2^-16 byte. -/
def State.credit (s : State) (h : Nat) : Int := (Map.find? s.sch.credit h).getD 0

/-- R499: SCH_NODE_STATE follows a node's credit and backlog. -/
def nodeShow (h : Nat) (s : State) : State :=
  let b := backlog s 5 h
  s.setsI h [(Reg.SCH_NODE_STATE_CREDIT, unsigned 32 (s.credit h / 65536)), (Reg.SCH_NODE_STATE_WAITING, if b = 0 then 0 else 1),
    (Reg.SCH_NODE_STATE_BACKLOG_KIB, min (2 ^ 28 - 1) (b / 1024))]

/-- The nodes on a queue's path shown again. -/
def pathShow (q : Nat) (s : State) : State := (nodePath s 5 q).foldl (fun s h => nodeShow h s) s

/-- R478: a node's credit set. -/
def setCredit (h : Nat) (c : Int) (s : State) : State :=
  (s.updSch (fun u => { u with credit := if c = 0 then Map.del s.sch.credit h else Map.put s.sch.credit h c }))

/-- R478: upper and lower credit bounds of a node. -/
def creditHi (s : State) (h : Nat) : Int := ((s.getI Reg.SCH_NODE_SHAPE_HI_LIMIT h * 64 * 65536 : Nat) : Int)
def creditLo (s : State) (h : Nat) : Int := -((s.getI Reg.SCH_NODE_SHAPE_LO_LIMIT h * 64 * 65536 : Nat) : Int)

/-- R478: a placed frame charges the shapers on its path. -/
def charge (f : SFrame) (s : State) : State :=
  let p := s.queuePort f.queue
  (nodePath s 5 f.queue).foldl (fun s h =>
    if s.flagI Reg.SCH_NODE_CFG_SHAPE_EN h then
      setCredit h (max (s.credit h - ((wireBytes s p f.bytes * 65536 : Nat) : Int)) (creditLo s h)) s
    else s) s

/-! ### Gates (R482 to R487) -/

/-- The cycle of a gate list in strokes. -/
def GateList.cycle (g : GateList) : Nat := g.entries.foldl (fun a e => a + e.2) 0

/-- The entry at a place in the cycle: its index, gates, and strokes left, that one included. -/
def gateEntry (l : List (Nat × Nat)) (i at_ : Nat) : Nat × Nat × Nat :=
  match l with
  | [] => (i, 255, 0)
  | (g, n) :: t => if at_ < n then (i, g, n - at_) else gateEntry t (i + 1) (at_ - n)

/-- R485: the entry in force at an instant in ns. -/
def GateList.at_ (g : GateList) (period ns : Nat) : Nat × Nat × Nat :=
  let c := g.cycle
  if c = 0 then (0, 255, 0)
  else
    let k : Int := ((ns : Int) - (g.base : Int)) / (period : Int)
    gateEntry g.entries 0 ((k % (c : Int)).toNat)

/-- R482, R485: the list in force on a port at an instant: the pending one from its switch instant on. -/
def State.gateList (s : State) (p ns : Nat) : Option GateList :=
  match Map.find? s.sch.pend p, Map.find? s.sch.pendAt p with
  | some g, some t => if t ≤ ns then some g else Map.find? s.sch.oper p
  | _, _ => Map.find? s.sch.oper p

/-- R482: the gates of a port at an instant. -/
def State.gates (s : State) (p ns : Nat) : Nat :=
  if s.flagI Reg.SCH_PORT_CFG_GATE_EN p then
    match s.gateList p ns with
    | some g => (g.at_ s.period ns).2.1
    | none => 255
  else 255

/-- R482: gate t stays open from the instant `from_` to the instant `to_`, in ps. -/
def State.gateThrough (s : State) (p t from_ to_ : Nat) : Bool :=
  let w := s.period * 1000
  let first := from_ / w
  let n := (max from_ (to_ - 1)) / w - first + 1
  (List.range n).all fun k => bit (s.gates p ((first + k) * s.period)) t == 1

/-- The longest sum of consecutive open entries of a class. -/
def openRun (t cur best : Nat) (l : List (Nat × Nat)) : Nat :=
  match l with
  | [] => best
  | (g, n) :: r => if bit g t = 1 then openRun t (cur + n) (max best (cur + n)) r else openRun t 0 best r

/-- R483: the longest run of open strokes of a class, the cycle wrapping; none when it is always open. -/
def GateList.longest (g : GateList) (t : Nat) : Option Nat :=
  if g.entries.all fun e => bit e.1 t == 1 then none else some (min g.cycle (openRun t 0 0 (g.entries ++ g.entries)))

/-- R508: SCH_GCL_STATUS follows the list in force at the boundary. -/
def gateShow (p : Nat) (s : State) : State :=
  let s := s.setI Reg.SCH_GCL_STATUS_GATES p (s.gates p s.stk.phcNs)
  let s := (List.range 8).foldl (fun s t => s.setI Reg.SCH_NODE_STATE_GATE_OPEN (classNode p t) (bit (s.gates p s.stk.phcNs) t)) s
  match Map.find? s.sch.oper p with
  | some g =>
    let (i, _, left) := g.at_ s.period s.stk.phcNs
    s.setsI p [(Reg.SCH_GCL_STATUS_OPER_VALID, 1), (Reg.SCH_GCL_STATUS_ENTRY, i), (Reg.SCH_GCL_STATUS_CYCLE, g.cycle),
      (Reg.SCH_GCL_STATUS_REMAIN, left)]
  | none => s

/-! ### Enqueue (R471 to R473) -/

/-- R61, R63: a niche 0 frame with a time-stamp request that does not leave still returns its TS_ID. -/
def unsentStamp (p : Nat) (f : SFrame) (s : State) : State :=
  match f.tsId with
  | some id => if f.niche = 0 then txtsPut p ⟨id, 0, 0, 1⟩ s else s
  | none => s

/-- A frame ends before transmission; a SEND that carried it completes with a status. -/
def frameEnds (f : SFrame) (status : Nat) (s : State) : State :=
  let s := unsentStamp (s.queuePort f.queue) f s
  match f.seqWork with
  | some q => finish q status (f.tsId.getD 0) s
  | none => s

/-- R472: a frame is refused at its queue. -/
def queueDrop (f : SFrame) (status : Nat) (s : State) : State :=
  let s := countI Reg.SCH_Q_DROP_COUNT f.queue s
  let s := if s.flag Reg.SCH_STATUS_QUEUE_DROP then s
           else raise Ev.schQueueDrop f.queue f.queue (s.set Reg.SCH_STATUS_QUEUE_DROP 1)
  frameEnds f status s

/-- R473: a frame is longer than its class or its gates allow. -/
def sduDrop (f : SFrame) (s : State) : State :=
  let p := s.queuePort f.queue
  let s := countI Reg.SCH_SDU_DROP_COUNT p s
  let s := if s.flag Reg.SCH_STATUS_SDU_DROP then s
           else raise Ev.schSduDrop p (p + s.queueClass f.queue * 2 ^ 8) (s.set Reg.SCH_STATUS_SDU_DROP 1)
  frameEnds f St.invalid s

/-- R473, R483: no window of the list in force could hold the frame. -/
def neverFits (s : State) (f : SFrame) : Bool :=
  let p := s.queuePort f.queue
  s.flagI Reg.SCH_PORT_CFG_GATE_EN p &&
    match Map.find? s.sch.oper p with
    | some g => match g.longest (s.queueClass f.queue) with
      | some n => decide (n * s.period * 1000 < wirePs s p f.bytes)
      | none => false
    | none => false

/-- R473: a frame is longer than its class or its gates allow. -/
def sduFails (f : SFrame) (s : State) : Bool :=
  let p := s.queuePort f.queue
  let sdu := s.getI Reg.SCH_NODE_CFG_MAX_SDU (classNode p (s.queueClass f.queue))
  (sdu != 0 && decide (sdu < wireBytes s p f.bytes)) || neverFits s f

/-- R472: a frame finds no room in its queue or in the packet buffer, or no queue. -/
def queueFails (f : SFrame) (s : State) : Bool :=
  let all := s.sch.queues.foldl (fun a e => a + e.2.foldl (fun a f => a + sentBytes f.bytes) 0) 0
  decide (max 1 (s.getI Reg.SCH_QUEUE_CFG_QLIMIT_KIB f.queue) * 1024 < backlog s 5 f.queue + sentBytes f.bytes)
    || decide (40 * 2 ^ 20 + s.sch.spill < all + sentBytes f.bytes) || !(s.flagI Reg.SCH_NODE_CFG_DEFINED f.queue)

/-- R472, R473: a frame enters its queue, or is discarded. -/
def enqueue (f : SFrame) (s : State) : State :=
  let q := f.queue
  if sduFails f s then sduDrop f s
  else if queueFails f s then queueDrop f St.noResource s
  else
    let ecn := s.getI Reg.SCH_QUEUE_CFG_ECN_KIB q
    let f := if ecn ≠ 0 ∧ ecn * 1024 ≤ backlog s 5 q then { f with bytes := setCE f.bytes } else f
    pathShow q (setQueue q (s.queue q ++ [f]) s)

/-- R56, R88: a MAC's TX_TRIM in ps. -/
def txTrim (s : State) (p : Nat) : Int := signed 16 (s.getI Reg.STK_TS_TRIM_TX_TRIM p) * 250

/-- R64: the instant in ps at which a frame must start at the ball to cross the trimmed point at its launch time. -/
def launchPs (s : State) (p t : Nat) : Nat := (((t * 1000 : Nat) : Int) - txTrim s p).toNat

/-! ### Arbitration (R469) -/

/-- R469, R488: the head frame of a queue, when it may be offered at an instant. -/
def headOf (s : State) (q at_ : Nat) : Option SFrame :=
  match s.queue q with
  | f :: _ =>
    match f.launch with
    | some t => if f.late ∨ launchPs s (s.queuePort q) t ≤ at_ then some f else none
    | none => some f
  | [] => none

/-- R469: a node's shaper lets it send. -/
def shaperOpen (s : State) (h : Nat) : Bool := !(s.flagI Reg.SCH_NODE_CFG_SHAPE_EN h) || decide (0 ≤ s.credit h)

/-- The children of a node from the one after `last` on, wrapping. -/
def rotate (l : List Nat) (last : Nat) : List Nat := l.filter (fun k => decide (last < k)) ++ l.filter fun k => decide (k ≤ last)

/-- A node's turn or deficit set. -/
def setTurn (h v : Nat) (s : State) : State := s.updSch (fun u => { u with turn := Map.put s.sch.turn h v })
def setDeficit (h v : Nat) (s : State) : State := s.updSch (fun u => { u with deficit := Map.put s.sch.deficit h v })

/-- R469: deficit round robin over the eligible children of a node: from the child whose turn it is, each
visit adding its quantum, until one can send its head frame. -/
def dwrr (fuel h : Nat) (cand : List (Nat × Nat)) (s : State) : Option (Nat × State) :=
  match fuel with
  | 0 => none
  | fuel + 1 =>
    let last := (Map.find? s.sch.turn h).getD 0
    let here := cand.find? fun c => c.1 == last
    let next (s : State) : Option (Nat × State) :=
      match (rotate (cand.map (·.1)) last).head? with
      | some k =>
        let quantum := max 1 (s.getI Reg.SCH_NODE_CFG_WEIGHT k) * 64
        dwrr fuel h cand (setTurn h k (setDeficit k ((Map.find? s.sch.deficit k).getD 0 + quantum) s))
      | none => none
    match here with
    | some (k, len) =>
      let d := (Map.find? s.sch.deficit k).getD 0
      if len ≤ d then some (k, setDeficit k (d - len) s) else next s
    | none => next s

/-- R469: strict priority, round robin among equals. -/
def strictPick (h : Nat) (cand : List Nat) (s : State) : Option (Nat × State) :=
  let best := cand.foldl (fun a k => max a (s.getI Reg.SCH_NODE_CFG_PRIO k)) 0
  match (rotate (cand.filter fun k => s.getI Reg.SCH_NODE_CFG_PRIO k == best) ((Map.find? s.sch.turn h).getD 0)).head? with
  | some k => some (k, setTurn h k s)
  | none => none

/-- R469: the frame that a node offers at an instant, and the arbitration state after it is taken. -/
def pick (fuel at_ h : Nat) (s : State) : Option (SFrame × State) :=
  match fuel with
  | 0 => none
  | fuel + 1 =>
    if shaperOpen s h = false then none
    else if nodeLevel h = 0 then (headOf s h at_).map fun f => (f, s)
    else
      let offers := (s.kids h).filterMap fun k => (pick fuel at_ k s).map fun o => (k, o.1)
      let p := nodeIndex ((nodePath s 5 h).getLastD (portNode 0))
      let chosen := if s.getI Reg.SCH_NODE_CFG_MODE h = 1 then strictPick h (offers.map (·.1)) s
        else dwrr ((offers.length + 1) * 200) h (offers.map fun o => (o.1, wireBytes s p o.2.bytes)) s
      match chosen with
      | some (k, s) => pick fuel at_ k s
      | none => none

/-- R476: select: the frame of the highest class that is open, eligible and fits. -/
def select (s : State) (p at_ limit : Nat) : Option (SFrame × State) :=
  ([7, 6, 5, 4, 3, 2, 1, 0] : List Nat).findSome? fun t =>
    if bit (s.gates p (at_ / (s.period * 1000) * s.period)) t = 0 then none
    else match pick 5 at_ (classNode p t) s with
      | some (f, s') =>
        let e := at_ + wirePs s p f.bytes
        if e ≤ limit ∧ s.gateThrough p t at_ e then some (f, s') else none
      | none => none

/-! ### Transmit lists (R474 to R477, R488, R489) -/

/-- A frame leaves its queue. -/
def unqueue (f : SFrame) (s : State) : State :=
  setQueue f.queue ((s.queue f.queue).erase f) s

/-- R476, R478: a frame is placed on its port's list and charged. -/
def place (p at_ : Nat) (f : SFrame) (s : State) : State :=
  let s := charge f (unqueue f s)
  let l := (Map.find? s.sch.lists p).getD []
  let s := s.updSch (fun u => { u with lists := Map.put s.sch.lists p (l ++ [{ f with at_ := at_ }]), wireFree := Map.put s.sch.wireFree p (at_ + wirePs s p f.bytes) })
  pathShow f.queue s

/-- The late-launch policy of a port and class (R66, R96). -/
def latePolicy (s : State) (p t : Nat) : Nat := (s.getI Reg.STK_LAUNCH_CFG_POLICY p >>> (2 * t)) % 4

/-- R66, R489: a late frame: counted; dropped, or left as an ordinary head frame. -/
def lateFrame (p : Nat) (f : SFrame) (s : State) : State :=
  let s := countI Reg.STK_LATE_COUNT p s
  if latePolicy s p (s.queueClass f.queue) = 1 then
    setQueue f.queue ((s.queue f.queue).map fun g => if g = f then { g with late := true } else g) s
  else frameEnds f St.launchLate (pathShow f.queue (unqueue f s))

/-- R476, R488: the launch-time frames at the heads of a port's queues that are due before an instant in ps. -/
def dueLaunch (s : State) (p end_ : Nat) : List SFrame :=
  let heads := s.sch.queues.filterMap fun e =>
    match e.2.head? with
    | some f => if s.queuePort e.1 = p ∧ f.late = false then f.launch.map fun t => (t, f) else none
    | none => none
  let due := heads.filter fun x => decide (launchPs s p x.1 < end_)
  (sortPairs ((due.map (·.1)).zip (List.range due.length))).filterMap fun k => due[k.2]?.map (·.2)

/-- R476: build. -/
def buildList (fuel p at_ end_ : Nat) (s : State) : State :=
  match fuel with
  | 0 => s
  | fuel + 1 =>
    let res := dueLaunch s p end_
    match res with
    | f :: _ =>
      let t := launchPs s p (f.launch.getD 0)
      let e := t + wirePs s p f.bytes
      if t ≤ at_ then
        if t < at_ ∨ s.gateThrough p (s.queueClass f.queue) t e = false then buildList fuel p at_ end_ (lateFrame p f s)
        else buildList fuel p e end_ (place p t f s)
      else if end_ ≤ at_ then s
      else match select s p at_ t with
        | some (g, s') => buildList fuel p (at_ + wirePs s p g.bytes) end_ (place p at_ g s')
        | none => buildList fuel p t end_ s
    | [] =>
      if end_ ≤ at_ then s
      else match select s p at_ (at_ + 10 ^ 18) with
        | some (g, s') => buildList fuel p (at_ + wirePs s p g.bytes) end_ (place p at_ g s')
        | none => s

/-- R473: head frames that no window could hold are discarded. -/
def dropUnfit (p : Nat) (s : State) : State :=
  s.sch.queues.foldl (fun s e => match s.queue e.1 with
    | f :: _ => if s.queuePort e.1 = p ∧ neverFits s f then sduDrop f (unqueue f s) else s
    | [] => s) s

/-- The frames waiting in all queues. -/
def framesWaiting (s : State) : Nat := s.sch.queues.foldl (fun a e => a + e.2.length) 0

/-- TRANSMIT_LIST_BUILD (R474, R476, R751): the list of a port for the next stroke. -/
def execTransmitListBuild (port : Nat) (s : State) : Outcome :=
  .next <|
    if s.running = false ∨ s.getI Reg.SCH_PORT_CFG_RATE_MBPS port = 0 ∨ s.sch.linkUp.contains port = false
        ∨ s.unitServes 6 port = false
        ∨ s.sch.late.contains port = true then s
    else
      let start := (s.stk.phcNs + s.period) * 1000
      let s := dropUnfit port s
      buildList (2 * framesWaiting s + 2) port (max start ((Map.find? s.sch.wireFree port).getD 0)) (start + s.period * 1000) s

/-- R477, R476: the ordinary frames of a late list that fit from an instant to the stroke's end, with their new starts, and those that do not. -/
def refitList (s : State) (p at_ end_ : Nat) (l : List SFrame) : List SFrame × List SFrame :=
  match l with
  | [] => ([], [])
  | f :: t =>
    let e := at_ + wirePs s p f.bytes
    if at_ < end_ ∧ s.gateThrough p (s.queueClass f.queue) at_ e then
      let (k, b) := refitList s p e end_ t
      ({ f with at_ := at_ } :: k, b)
    else
      let (k, b) := refitList s p at_ end_ t
      (k, f :: b)

/-- R477: a late list is used in this stroke: ordinary frames that no longer fit return to the heads of their queues, and
launch-time frames are late. -/
def relist (p : Nat) (s : State) : State :=
  let l := (Map.find? s.sch.lists p).getD []
  let start := s.stk.phcNs * 1000
  let (keep, back) := refitList s p (max start ((Map.find? s.sch.wireFree p).getD 0)) (start + s.period * 1000) (l.filter fun f => f.launch.isNone)
  let s := s.updSch (fun u => { u with lists := if keep = [] then Map.del s.sch.lists p else Map.put s.sch.lists p keep, late := s.sch.late.filter fun q => q != p })
  let s := back.reverse.foldl (fun s f => setQueue f.queue (f :: s.queue f.queue) s) s
  (l.filter fun f => f.launch.isSome).foldl (fun s f => lateFrame p f (setQueue f.queue (f :: s.queue f.queue) s)) s

/-- FRAME_TRANSMIT (R474, R60 to R63, R266, R501): the first frame of a port's list starts on the wire; sub is the
sub-nanosecond part of its time in 2^-8 ns. -/
def execFrameTransmit (port sub : Nat) (s : State) : Outcome :=
  .next <|
    match (Map.find? s.sch.lists port).getD [] with
    | [] => s
    | f :: rest =>
      if s.sch.late.contains port then s
      else
        let at_ := (((f.at_ : Nat) : Int) + txTrim s port).toNat
        let ns := at_ / 1000
        let w := wireBytes s port f.bytes
        let s := s.updSch (fun u => { u with lists := if rest = [] then Map.del s.sch.lists port else Map.put s.sch.lists port rest })
        let (corr, s) := if f.oneStep then s.draw else (0, s)
        let bytes := if f.oneStep then oneStepStamp ns sub corr f.bytes else f.bytes
        let s := addI Reg.SCH_Q_TX_BYTE_LO_BYTES f.queue w (addI Reg.SCH_Q_TX_PKT_COUNT f.queue 1 s)
        let s := s.emit (.frame port (ofBytes bytes) (compactTime ns))
        let s := match f.tsId with
          | some id => if f.niche = 0 then txtsPut port ⟨id, compactTime ns, sub, 0⟩ s else s
          | none => s
        let s := match f.tl with
          | some (peer, msg, chunk) => chunkLeft peer msg chunk s
          | none => s
        match f.seqWork with
        | some q =>
          let time := match f.tsId with
            | some _ => if f.niche = 0 then none else some (compactTime ns)
            | none => none
          finishAs q ⟨St.ok, 0, f.tsId.getD 0, time⟩ s
        | none => s

/-! ### Refill at the boundary (R478, R480) -/

/-- R478: one shaper refilled. -/
def refill (s : State) (h : Nat) : State :=
  let gated := nodeLevel h = 3 ∧ bit (s.gates (nodeIndex h / 8) s.stk.phcNs) (nodeIndex h % 8) = 0
  if s.flagI Reg.SCH_NODE_CFG_SHAPE_EN h = false ∨ gated then s
  else
    let acc := (Map.find? s.sch.rem h).getD 0 + s.getI Reg.SCH_NODE_SHAPE_RATE h * s.period * 65536
    let s := s.updSch (fun u => { u with rem := Map.put s.sch.rem h (acc % 8000000) })
    let c := s.credit h + ((acc / 8000000 : Nat) : Int)
    let c := if backlog s 5 h = 0 ∧ s.flagI Reg.SCH_NODE_CFG_IDLE_ACCRUE h = false ∧ 0 < c then 0 else c
    nodeShow h (setCredit h (min c (creditHi s h)) s)

/-- R480: a shaper's parameters take effect. -/
def applyShaper (h value : Nat) (s : State) : State :=
  let s := s.setsI h [(Reg.SCH_NODE_SHAPE_RATE, bits value 63 32), (Reg.SCH_NODE_SHAPE_HI_LIMIT, bits value 31 16),
    (Reg.SCH_NODE_SHAPE_LO_LIMIT, bits value 15 0)]
  if s.flagI Reg.SCH_NODE_CFG_SEAMLESS h ∨ nodeLevel h = 4 then
    nodeShow h (setCredit h (max (creditLo s h) (min (creditHi s h) (s.credit h))) s)
  else
    let s := s.updSch (fun u => { u with rem := Map.del s.sch.rem h })
    nodeShow h (setCredit h (if s.flagI Reg.SCH_NODE_CFG_RESET_TO h then creditHi s h else 0) s)

/-- R481: a change of MODE or WEIGHT resets the deficits of these nodes: a node's children, or the node itself. -/
def resetDeficits (hs : List Nat) (s : State) : State :=
  (s.updSch (fun u => { u with deficit := s.sch.deficit.filter fun p => !(hs.contains p.1) }))

/-! ### Policers (R490, R491) -/

/-- R490: a policer's buckets; before its first APPLY they are full at the reset bursts. -/
def State.policer (s : State) (p : Nat) : Policer :=
  (Map.find? s.sch.policers p).getD ⟨0, 0, 9216, 0, 9216, 9216, 0, 9216, 0⟩

/-- R490: the colour that a policer gives b bytes: 0 green, 1 yellow, 2 red; and its buckets after. -/
def Policer.meter (x : Policer) (b colour : Nat) (aware : Bool) : Nat × Policer :=
  if x.mode = 0 then
    if (aware ∧ colour = 2) ∨ x.e < b then (2, x)
    else if (aware ∧ colour = 1) ∨ x.c < b then (1, { x with e := x.e - b })
    else (0, { x with e := x.e - b, c := x.c - b })
  else if (aware = false ∨ colour = 0) ∧ b ≤ x.c then (0, { x with c := x.c - b })
  else if (aware = false ∨ colour ≠ 2) ∧ b ≤ x.e then (1, { x with e := x.e - b })
  else (2, x)

/-- R490: a packet is metered and its outcome counted. -/
def runMeter (p b colour : Nat) (aware : Bool) (s : State) : Nat × State :=
  let (c, x) := (s.policer p).meter b colour aware
  let s := s.updSch (fun u => { u with policers := Map.put s.sch.policers p x })
  (c, addI (match c with
    | 0 => Reg.SCH_POL_GREEN_COUNT
    | 1 => Reg.SCH_POL_YELLOW_COUNT
    | _ => Reg.SCH_POL_RED_COUNT) p 1 s)

/-- R490: a bucket refilled for one stroke: level, remainder. -/
def bucket (rate period burst level rem : Nat) : Nat × Nat :=
  let acc := rem + rate * period
  (min burst (level + acc / 8000000), acc % 8000000)

/-- R490: both buckets of a policer refilled. -/
def Policer.refill (x : Policer) (period : Nat) : Policer :=
  let (c, cr) := bucket x.cir period x.cbs x.c x.cRem
  let (e, er) := bucket x.rate2 period x.burst2 x.e x.eRem
  { x with c := c, cRem := cr, e := e, eRem := er }

/-- POLICER_APPLY (R491): SCH_POL_CFG.APPLY is written. -/
def execPolicerApply (who : Issuer) (mode : Nat) (s : State) : Outcome :=
  .next <| setGate who 0xC00080 s fun s =>
    let p := s.get Reg.SCH_POL_SEL_POLICER
    let cir := s.getI Reg.SCH_POL_RATE_CIR p
    let rate2 := s.getI Reg.SCH_POL_RATE_SECOND_RATE p
    let cbs := s.getI Reg.SCH_POL_BURST_CBS p
    let burst2 := s.getI Reg.SCH_POL_BURST_SECOND_BURST p
    let oneStroke (rate : Nat) : Nat := (rate * s.period + 7999999) / 8000000
    if cbs < 9216 ∨ burst2 < 9216 ∨ cbs < oneStroke cir ∨ burst2 < oneStroke rate2 ∨ (mode = 0 ∧ rate2 < cir) then
      boundViolation 0xC00080 s
    else
      let before := s.getI Reg.SCH_POL_CFG_MODE p * 2
      let s := s.setI Reg.SCH_POL_CFG_MODE p mode
      jRegWrite who 0 0xC00080 (mode * 2 + 1) before 0 (s.defer (.policer p mode cir cbs rate2 burst2))

/-- R491: held parameters apply together, both buckets full. -/
def applyPolicer (p mode cir cbs rate2 burst2 : Nat) (s : State) : State :=
  (s.updSch (fun u => { u with policers := Map.put s.sch.policers p ⟨mode, cir, cbs, rate2, burst2, cbs, 0, burst2, 0⟩ }))

/-- R680: loop 5 acts on a registered node, so its RATE takes no manager write. -/
def State.rateHeld (s : State) (h : Nat) : Bool :=
  s.getI Reg.RGL_LOOP_CFG_MODE 5 == 2 && !s.flag Reg.RGL_CTL_FROZEN &&
    (List.range 240).any fun k => s.flagI Reg.RGL_BE_ENTRY_VALID k && s.getI Reg.RGL_BE_ENTRY_NODE k == h

/-- SHAPER_CHANGE (R480, R498, R680): SCH_NODE_SHAPE of the selected node is written. -/
def execShaperChange (who : Issuer) (value : Nat) (s : State) : Outcome :=
  .next <| setGate who 0xC00030 s fun s =>
    let h := s.get Reg.SCH_NODE_SEL_NODE
    if s.flagI Reg.SCH_NODE_CFG_DEFINED h = false ∨ (s.rateHeld h = true ∧ bits value 63 32 ≠ s.getI Reg.SCH_NODE_SHAPE_RATE h) then
      boundViolation 0xC00030 s
    else
      let before := s.getI Reg.SCH_NODE_SHAPE_RATE h * 2 ^ 32 + s.getI Reg.SCH_NODE_SHAPE_HI_LIMIT h * 2 ^ 16
        + s.getI Reg.SCH_NODE_SHAPE_LO_LIMIT h
      jRegWrite who 0 0xC00030 value before 0 (s.defer (.shaper h value))

/-! ### Commands (R484, R492) -/

/-- A scheduler command of the manager. -/
def schCmd (op : Nat) (who : Issuer) (niche : Nat) (desc : Option (Nat × Nat)) (act : State → Nat × State) (s : State) : Outcome :=
  let arg := s.get Reg.SCH_CMD_ARG_NICHE * 2 ^ 52 + s.get Reg.SCH_CMD_ARG_PORT * 2 ^ 48 + s.get Reg.SCH_CMD_ARG_LOCAL * 2 ^ 32
    + s.get Reg.SCH_CMD_ARG_INDEX
  let addr := if desc.isSome then 0 else s.get Reg.SCH_CMD_ADDR_ADDR
  .next <| regGate who 0xC00000 s
    (cmdStart Blk.sch ⟨op, who, niche, 0, arg, addr, 0, desc⟩ (who.role == .manager) (fun s =>
      let (st, s) := act s
      .done st 0 s))

/-- R471: the key of a niche's local queue index. -/
def localKey (n l : Nat) : Nat := n * 65536 + l

/-- QUEUE_BIND (R471, R492). -/
def execQueueBind (who : Issuer) (s : State) : Outcome :=
  let n := s.get Reg.SCH_CMD_ARG_NICHE
  let q := s.get Reg.SCH_CMD_ARG_INDEX
  let l := s.get Reg.SCH_CMD_ARG_LOCAL
  schCmd 1 who n none (fun s =>
    match s.nicheRefusal n with
    | some st => (st, s)
    | none =>
      if s.flagI Reg.SCH_NODE_CFG_DEFINED q = false then (St.notFound, s)
      else if s.tdiLocked n then (St.permission, s)
      else if s.flagI Reg.SCH_QUEUE_CFG_BOUND q ∨ (Map.find? s.sch.local_ (localKey n l)).isSome then (St.badState, s)
      else if s.quotaLeft n 3 = 0 then (St.noResource, s)
      else
        let s := s.updSch (fun u => { u with local_ := Map.put s.sch.local_ (localKey n l) q })
        (St.ok, quotaTake n 3 1 (s.setsI q [(Reg.SCH_QUEUE_CFG_NICHE, n), (Reg.SCH_QUEUE_CFG_BOUND, 1), (Reg.SCH_QUEUE_CFG_LOCAL, l)]))) s

/-- R471: a queue is unbound. -/
def unbindQueue (q : Nat) (s : State) : State :=
  let n := s.getI Reg.SCH_QUEUE_CFG_NICHE q
  let s := s.updSch (fun u => { u with local_ := Map.del s.sch.local_ (localKey n (s.getI Reg.SCH_QUEUE_CFG_LOCAL q)) })
  quotaGive n 3 1 (s.setsI q [(Reg.SCH_QUEUE_CFG_NICHE, 0), (Reg.SCH_QUEUE_CFG_BOUND, 0), (Reg.SCH_QUEUE_CFG_LOCAL, 0)])

/-- QUEUE_UNBIND (R471, R492). -/
def execQueueUnbind (who : Issuer) (s : State) : Outcome :=
  let q := s.get Reg.SCH_CMD_ARG_INDEX
  schCmd 2 who (s.getI Reg.SCH_QUEUE_CFG_NICHE q) none (fun s =>
    if s.flagI Reg.SCH_NODE_CFG_DEFINED q = false then (St.notFound, s)
    else if s.tdiLocked (s.getI Reg.SCH_QUEUE_CFG_NICHE q) then (St.permission, s)
    else if s.flagI Reg.SCH_QUEUE_CFG_BOUND q = false ∨ s.queue q ≠ [] then (St.badState, s)
    else (St.ok, unbindQueue q s)) s

/-- POLICER_BIND (R490, R492). -/
def execPolicerBind (who : Issuer) (s : State) : Outcome :=
  let n := s.get Reg.SCH_CMD_ARG_NICHE
  let p := s.get Reg.SCH_CMD_ARG_INDEX
  schCmd 3 who n none (fun s =>
    match s.nicheRefusal n with
    | some st => (st, s)
    | none =>
      if 65536 ≤ p then (St.notFound, s)
      else if s.tdiLocked n then (St.permission, s)
      else if s.flagI Reg.SCH_POL_CFG_BOUND p then (St.badState, s)
      else if s.quotaLeft n 8 = 0 then (St.noResource, s)
      else (St.ok, quotaTake n 8 1 (s.setsI p [(Reg.SCH_POL_CFG_NICHE, n), (Reg.SCH_POL_CFG_BOUND, 1)]))) s

/-- R492: a policer is unbound and its counters cleared. -/
def unbindPolicer (p : Nat) (s : State) : State :=
  quotaGive (s.getI Reg.SCH_POL_CFG_NICHE p) 8 1
    (s.setsI p [(Reg.SCH_POL_CFG_NICHE, 0), (Reg.SCH_POL_CFG_BOUND, 0), (Reg.SCH_POL_GREEN_COUNT, 0),
      (Reg.SCH_POL_YELLOW_COUNT, 0), (Reg.SCH_POL_RED_COUNT, 0)])

/-- POLICER_UNBIND (R492). -/
def execPolicerUnbind (who : Issuer) (s : State) : Outcome :=
  let p := s.get Reg.SCH_CMD_ARG_INDEX
  schCmd 4 who (s.getI Reg.SCH_POL_CFG_NICHE p) none (fun s =>
    if 65536 ≤ p then (St.notFound, s)
    else if s.tdiLocked (s.getI Reg.SCH_POL_CFG_NICHE p) then (St.permission, s)
    else if s.flagI Reg.SCH_POL_CFG_BOUND p = false then (St.badState, s)
    else (St.ok, unbindPolicer p s)) s

/-- R484: the entries of a gate list descriptor. -/
def gclEntries (d count : Nat) : List (Nat × Nat) :=
  (List.range count).map fun k => (byteField d (64 + 4 * k) (64 + 4 * k), byteField d (66 + 4 * k) (67 + 4 * k))

/-- GCL_SET (R484, R485). -/
def execGclSet (who : Issuer) (list : Nat) (s : State) : Outcome :=
  let p := byteField list 0 0
  let count := byteField list 2 3
  schCmd 5 who 0 (some (64 + 4 * min 256 count, list)) (fun s =>
    let es := gclEntries list count
    let base := expandTime s.stk.phcNs (byteField list 8 15)
    let c := es.foldl (fun a e => a + e.2) 0
    if 16 ≤ p ∨ count = 0 ∨ 256 < count ∨ s.getI Reg.SCH_PORT_CFG_RATE_MBPS p = 0 ∨ base % s.period ≠ 0 ∨ es.any (fun e => e.2 == 0) then
      (St.invalid, s)
    else
      let first := s.stk.phcNs / s.period * s.period + (s.dueBoundary - s.stk.boundary) * s.period
      let t := if first ≤ base then base else base + (first - base + c * s.period - 1) / (c * s.period) * (c * s.period)
      let s := s.updSch (fun u => { u with pend := Map.put s.sch.pend p ⟨es, base⟩, pendAt := Map.put s.sch.pendAt p t })
      (St.ok, s.setsI p [(Reg.SCH_GCL_STATUS_PENDING, 1), (Reg.SCH_GCL_PEND_SWITCH_TIME, compactTime t)])) s

/-- R484: a pending list is discarded. -/
def dropPending (p : Nat) (s : State) : State :=
  (s.updSch (fun u => { u with pend := Map.del s.sch.pend p, pendAt := Map.del s.sch.pendAt p })).setsI p
    [(Reg.SCH_GCL_STATUS_PENDING, 0), (Reg.SCH_GCL_PEND_SWITCH_TIME, 0)]

/-- GCL_CANCEL (R484). -/
def execGclCancel (who : Issuer) (s : State) : Outcome :=
  schCmd 6 who 0 none (fun s => (St.ok, dropPending (s.get Reg.SCH_CMD_ARG_PORT) s)) s

/-- GCL_SWITCH (R485, R486, R493): at the switch instant the pending list enters force. -/
def execGclSwitch (port : Nat) (s : State) : Outcome :=
  .next <|
    match Map.find? s.sch.pend port, Map.find? s.sch.pendAt port with
    | some g, some t =>
      if s.stk.phcNs < t then s
      else
        let bank := 1 - s.getI Reg.SCH_GCL_STATUS_BANK port
        let s := dropPending port (s.updSch (fun u => { u with oper := Map.put s.sch.oper port g }))
        let s := gateShow port (s.setI Reg.SCH_GCL_STATUS_BANK port bank)
        raise Ev.gclSwitch port (port + bank * 2 ^ 8) (s.set Reg.SCH_STATUS_GCL_SWITCH 1)
    | _, _ => s

end Sys2Proof.Machine
end

