-- ==== Sys2Proof/Machine/Paths.lean ====
section
/-!
DEFINITION. Paths to the peers of the fabric (R641 to R643), the packets that travel on them (R520 to R522, R633),
and transit (R644, R645).
-/
namespace Sys2Proof.Machine

/-! ### Peers -/

/-- R640: the device holds a valid ID. -/
def State.fabId (s : State) : Option Nat := if s.flag Reg.FAB_ID_VALID then some (s.get Reg.FAB_ID_ID) else none

/-- R639: the member that holds an ID. -/
def State.member (s : State) (d : Nat) : Option Member := s.fab.members.find? fun m => m.id == d

/-- R641, R670: the key of a path. -/
def pathKey (d i : Nat) : Nat := d * 64 + i

/-- R641: the paths built for a peer. -/
def State.pathsOf (s : State) (d : Nat) : List Nat := (List.range 64).filter fun i => (Map.find? s.fab.paths (pathKey d i)).isSome

/-- R642: the usable paths of a peer. -/
def State.usable (s : State) (d : Nat) : List Nat := (s.pathsOf d).filter fun i => s.getI Reg.FAB_PATH_INFO_STATE (pathKey d i) == 0

/-- A path changed behind its registers. -/
def updPath (k : Nat) (f : PathX → PathX) (s : State) : State := s.updFab (fun u => { u with paths := Map.upd s.fab.paths k f })

/-- R562, R669: what the registers show of a peer's paths. -/
def peerShow (d : Nat) (s : State) : State :=
  let u := (s.usable d).length
  let s := s.setsI d [(Reg.FAB_PEER_INFO_PATHS_UP, u), (Reg.FAB_PEER_INFO_PATHS, (s.pathsOf d).length), (Reg.TLT_PEER_INFO_PATHS, u)]
  s.setI Reg.FAB_PEER_INFO_HOPS d (s.getI Reg.FAB_PEER_INFO_HOPS d)

/-- R643, R659: a change of paths, with the event when the peer becomes reachable or unreachable. -/
def withPaths (d : Nat) (f : State → State) (s : State) : State :=
  let was := (s.usable d).length
  let s := peerShow d (f s)
  let now := (s.usable d).length
  if was = 0 ∧ 0 < now then raise Ev.fabPeerUp d d s
  else if 0 < was ∧ now = 0 then raise Ev.fabPeerDown d d (s.set Reg.FAB_STATUS_PEER_DOWN 1)
  else s

/-- R641: the UDP source port of a path. -/
def pathSport (d i resprays : Nat) : Nat := 49152 + Config.tableHash 0x641 (d + i * 2 ^ 14 + resprays * 2 ^ 20) % 16384

/-- R641: the templates over which paths may be built: their MAC marked FABRIC with its link up. -/
def State.fabTemplates (s : State) : List Nat :=
  (s.fab.templates.filter fun t => s.flagI Reg.FAB_PORT_FABRIC (byteField t.2 0 0 % 16) && s.sch.linkUp.contains (byteField t.2 0 0 % 16)).map (·.1)

/-- R641: one path of a peer built over a template. -/
def buildPath (d i t : Nat) (s : State) : State :=
  let k := pathKey d i
  let s := s.updFab (fun u => { u with paths := Map.put s.fab.paths k ⟨none, s.stk.boundary, s.stk.boundary, false⟩ })
  s.setsI k [(Reg.FAB_PATH_INFO_STATE, 0), (Reg.FAB_PATH_INFO_MAC, byteField ((Map.find? s.fab.templates t).getD 0) 0 0),
    (Reg.FAB_PATH_INFO_TEMPLATE, t), (Reg.FAB_PATH_INFO_UDP_SPORT, pathSport d i 0), (Reg.FAB_PATH_INFO_MISSES, 0), (Reg.FAB_PATH_INFO_RESPRAYS, 0)]

/-- R641: a peer gains its path set. -/
def buildPaths (d : Nat) (s : State) : State :=
  let ts := s.fabTemplates
  let n := if ts = [] then 0 else clamp 1 64 (s.get Reg.FAB_PATHCFG_PATHS_PER_PEER)
  withPaths d (fun s => (List.range n).foldl (fun s i => buildPath d i (ts.getD (i % max 1 ts.length) 0) s) s) s

/-- R639: a peer loses its path set. -/
def dropPaths (d : Nat) (s : State) : State :=
  withPaths d (fun s =>
    let s := (s.pathsOf d).foldl (fun s i => s.setsI (pathKey d i) [(Reg.FAB_PATH_INFO_STATE, 0), (Reg.FAB_PATH_INFO_MAC, 0),
      (Reg.FAB_PATH_INFO_TEMPLATE, 0), (Reg.FAB_PATH_INFO_UDP_SPORT, 0), (Reg.FAB_PATH_INFO_MISSES, 0), (Reg.FAB_PATH_INFO_RESPRAYS, 0)]) s
    (s.updFab (fun u => { u with paths := s.fab.paths.filter fun p => p.1 / 64 != d }))) s

/-- R526: weighted round robin over the usable paths, on another than `avoid` when there is one. -/
def pickPath (d : Nat) (avoid : Option Nat) (s : State) : Option (Nat × State) :=
  let u := s.usable d
  let u := if 1 < u.length then u.filter fun i => some i != avoid else u
  let deck := u.flatMap fun i => List.replicate (max 1 (s.getI Reg.FAB_PATH_INFO_WEIGHT (pathKey d i))) i
  let turn := match Map.find? s.tlt.peers d with
    | some p => p.turn
    | none => 0
  match deck[turn % max 1 deck.length]? with
  | some i => some (i, (s.updTlt (fun u => { u with peers := Map.upd s.tlt.peers d fun p => { p with turn := turn + 1 } })))
  | none => none

/-- R642: a packet has been sent on a path. -/
def pathSent (d i : Nat) (s : State) : State :=
  updPath (pathKey d i) (fun x => { x with oldest := some (x.oldest.getD s.stk.boundary), last := s.stk.boundary }) s

/-- R642: an ACK or PROBE_ACK has echoed a path; a SUSPECT or TRIAL path becomes UP at the next boundary. -/
def pathEcho (d i : Nat) (s : State) : State :=
  match Map.find? s.fab.paths (pathKey d i) with
  | none => s
  | some x =>
    let s := updPath (pathKey d i) (fun x => { x with oldest := none, echoed := true }) s
    let st := s.getI Reg.FAB_PATH_INFO_STATE (pathKey d i)
    if (st = 1 ∨ st = 3) ∧ x.echoed = false then s.defer (.pathUp (pathKey d i)) else s

/-! ### Packets (R520, R521) -/

/-- R522, R633: the bytes of a packet's extension. -/
def extLen (p : TlPkt) : Nat :=
  match p.op with
  | 0x01 => 16 | 0x02 => 16 | 0x03 => 8 | 0x04 => 16 | 0x06 => 32 | 0x07 => 8 | 0x0A => 16 | 0x0B => 16
  | 0x40 => 48 | 0x41 => 16 | 0x42 => 11 | 0x43 => 10 | 0x44 => 32 + 32 * (byteField p.ext 4 5) | 0x45 => 4 | 0x46 => 8 | 0x47 => 9
  | 0x48 => 8 + 4 * byteField p.ext 4 4 | 0x49 => 24 | 0x4A => 16 | _ => 0

/-- R521, R522: the bytes of a packet. -/
def packetBytes (p : TlPkt) : List Byte :=
  toBytes 32 (p.version * 16 + p.op * 2 ^ 8 + p.flags * 2 ^ 16 + p.epoch * 2 ^ 24 + p.src * 2 ^ 32 + p.dst * 2 ^ 48 + p.srcEp * 2 ^ 64
    + p.dstEp * 2 ^ 88 + p.seg * 2 ^ 112 + p.path * 2 ^ 120 + p.msg * 2 ^ 128 + p.off * 2 ^ 160 + p.len * 2 ^ 192 + p.oseq * 2 ^ 224)
  ++ toBytes (extLen p) p.ext ++ p.data

/-- R632: an underlay address in the IPv4-mapped form. -/
def mapped4 (a : Nat) : Bool := a / 2 ^ 32 == 0xFFFF

/-- R520, R641: a packet as a frame, under a template, to an underlay address from a UDP source port. The TTL, the
ECN bits and the IPv4 identification are free: the spec gives none. -/
def underlayFrame (t sport addr : Nat) (p : TlPkt) (s : State) : List Byte × State :=
  let (v, s) := s.draw
  let four := bit (byteField t 1 1) 1 == 1 || mapped4 addr
  let udp := toBE 2 sport ++ toBE 2 (s.get Reg.TLT_CFG_UDP_PORT) ++ toBE 2 ((packetBytes p).length + 8) ++ toBE 2 0 ++ packetBytes p
  let tos := byteField t 4 4 % 64 * 4 + v % 4
  let src := ofBE (toBytes 16 (t >>> 128))
  let ip := if four then
      [0x45] ++ toBE 1 tos ++ toBE 2 (udp.length + 20) ++ toBE 2 (v / 4) ++ toBE 2 0 ++ toBE 1 (v / 2 ^ 18) ++ toBE 1 17 ++ toBE 2 0
        ++ toBE 4 src ++ toBE 4 addr
    else toBE 4 (6 * 2 ^ 28 + tos * 2 ^ 20) ++ toBE 2 udp.length ++ toBE 1 17 ++ toBE 1 (v / 2 ^ 18) ++ toBE 16 src ++ toBE 16 addr
  let tag := if bit (byteField t 1 1) 0 = 1 then toBE 2 0x8100 ++ toBE 2 (byteField t 2 3) else []
  let eth := (toBytes 6 (t >>> 64)) ++ toBE 6 (Config.portMac (byteField t 0 0)) ++ tag ++ toBE 2 (if four then 0x0800 else 0x86DD)
  (fillSums eth.length (if four then 4 else 6) (eth ++ ip ++ udp), s)

/-- R566: a Turelm packet sent is counted. -/
def txCount (n : Nat) (s : State) : State := addI Reg.TLT_TX_BYTE_LO_BYTES 0 n (addI Reg.TLT_TX_PKT_COUNT 0 1 s)

/-- R521: a header from this device to another; the path is put in when it is dealt. -/
def State.tlHead (s : State) (op dst : Nat) : TlPkt :=
  ⟨1, op, 0, s.get Reg.TLT_CFG_EPOCH, (s.fabId).getD 0, dst, 0, 0, 0, 0, 0, 0, 0, 0, 0, [], false, false⟩

/-- R526: a packet to a peer: dealt over its paths, on a scheduler queue when one is named, else straight to its
MAC; `tl` names the message and chunk it carries. It is lost when no path is usable. -/
def sendPacket (queue : Option Nat) (tl : Option (Nat × Nat × Nat)) (avoid : Option Nat) (p : TlPkt) (s : State) : Option Nat × State :=
  match pickPath p.dst avoid s with
  | none => (none, s)
  | some (i, s) =>
    let k := pathKey p.dst i
    let p := { p with path := i }
    let t := (Map.find? s.fab.templates (s.getI Reg.FAB_PATH_INFO_TEMPLATE k)).getD 0
    let addr := match s.member p.dst with
      | some m => m.addr
      | none => 0
    let sport := s.getI Reg.FAB_PATH_INFO_UDP_SPORT k
    let s := txCount p.data.length (pathSent p.dst i s)
    match queue with
    | some q =>
      let (bytes, s) := underlayFrame t sport addr p s
      (some i, enqueue ⟨bytes, q, 0, none, none, none, false, false, 0, tl⟩ s)
    | none => (some i, s.emit (.turelm (s.getI Reg.FAB_PATH_INFO_MAC k) sport addr p))

/-- R633: a control packet on a MAC, or to an address. -/
def sendControl (mac addr : Nat) (p : TlPkt) (s : State) : State :=
  s.emit (.turelm mac (pathSport p.dst 0 0) addr p)

/-! ### Transit (R644, R645) -/

/-- R645, R659: a transit packet discarded. -/
def transitDrop (reason : Nat) (s : State) : State :=
  let s := count Reg.FAB_TRANSIT_DROP_COUNT s
  if s.flag Reg.FAB_STATUS_TRANSIT_DROP then s else raise Ev.fabTransitDrop 0 reason (s.set Reg.FAB_STATUS_TRANSIT_DROP 1)

/-- R644: the next-hop ports toward a device that are up. -/
def State.nextHops (s : State) (d : Nat) : List Nat := ((Map.find? s.fab.routes d).getD []).filter fun m => s.sch.linkUp.contains m

/-- R645: a packet that the pipeline steers to the fabric unit is forwarded toward its DST_DEVICE. -/
def transit (l : List Byte) (s : State) : State :=
  match turelmAt (s.get Reg.TLT_CFG_UDP_PORT) l with
  | none => transitDrop 0 s
  | some o =>
    let src := ofBytes ((l.drop (o + 4)).take 2) % 2 ^ 14
    let dst := ofBytes ((l.drop (o + 6)).take 2) % 2 ^ 14
    let path := ofBytes ((l.drop (o + 15)).take 1)
    if s.fabId = some dst then s
    else if s.flag Reg.FAB_CFG_MODE then transitDrop 2 s
    else
      let hops := s.nextHops dst
      match hops[Config.tableHash 0x645 (src + dst * 2 ^ 14 + path * 2 ^ 28) % max 1 hops.length]?, ttlOf l with
      | none, _ => transitDrop 0 s
      | _, none => transitDrop 0 s
      | some m, some (at_, ttl) =>
        if ttl ≤ 1 then transitDrop 1 s
        else
          let l := toBE 6 (Config.neighbourMac m) ++ toBE 6 (Config.portMac m) ++ (refit l (framePut l at_ (toBE 1 (ttl - 1)))).drop 12
          let f : SFrame := ⟨l, s.getI Reg.FAB_PORT_TRANSIT_QUEUE m, 0, none, none, none, false, false, 0, none⟩
          if sduFails f s ∨ queueFails f s then transitDrop 3 (enqueue f s)
          else addI Reg.FAB_TRANSIT_PKT_COUNT 0 1 (enqueue f s)

end Sys2Proof.Machine
end

