-- ==== Sys2Proof/Machine/Transport.lean ====
section
/-!
DEFINITION. The Turelm engine under its commands (R512 to R550): windows and keys, peers and message IDs, send records
and the chunks they send, endpoint contexts, and the end of a work entry.
-/
namespace Sys2Proof.Machine

/-! ### Work entries (R517 to R519) -/

def eEp (e : Nat) : Nat := byteField e 4 6
def eDev (e : Nat) : Nat := byteField e 8 9 % 2 ^ 14
def eDstEp (e : Nat) : Nat := byteField e 10 12
def eLen (e : Nat) : Nat := byteField e 16 19
def eRemoteKey (e : Nat) : Nat := byteField e 20 23
def eRemoteOff (e : Nat) : Nat := byteField e 24 31
def eLocalKey (e : Nat) : Nat := byteField e 32 35
def eImm (e : Nat) : Nat := byteField e 36 39
def eLocalOff (e : Nat) : Nat := byteField e 40 47
def ePd (e : Nat) : Nat := byteField e 4 5
def eSpace (e : Nat) : Nat := byteField e 6 6
def eRights (e : Nat) : Nat := byteField e 7 7
def eBase (e : Nat) : Nat := byteField e 8 15
def eWinLen (e : Nat) : Nat := byteField e 16 23
def eKey (e : Nat) : Nat := byteField e 24 27
def eEndpoint (e : Nat) : Nat := byteField e 28 30
def eQueue (e : Nat) : Nat := byteField e 32 33

/-- R649: the pool service of a device. -/
def poolEp : Nat := 0xFFFFFF

/-- A value of a class D field relative to another, by serial arithmetic. -/
def ahead (w a b : Nat) : Int := signed w (a + (2 ^ w - b % 2 ^ w))

/-- One free number below a bound; which one is a free value where the spec gives no order. -/
def freeIndex (bound : Nat) (used : List Nat) (s : State) : Option Nat × State :=
  let free := (List.range bound).filter fun i => !used.contains i
  let (v, s) := s.draw
  (free[v % max 1 free.length]?, s)

/-! ### Windows (R514, R515, R538 to R540) -/

/-- R514: the key of a window. -/
def winKey (i g : Nat) : Nat := i % 2 ^ 24 * 256 + g % 256

/-- R551: what a key of no open window answers: REVOKED unless its generation is the one in force. -/
def closedStatus (s : State) (key : Nat) : Nat :=
  match Map.find? s.tlt.gens (key / 256) with
  | some g => if g = key % 256 then St.windowInvalid else St.windowRevoked
  | none => St.windowInvalid

/-- R515, R527 check 7: the window that a key opens for a right over a range, or the status that refuses it. -/
def winCheck (s : State) (key : Nat) (allowed : Window → Bool) (right off len : Nat) : Except Nat Window :=
  match Map.find? s.tlt.wins (key / 256) with
  | none => .error (closedStatus s key)
  | some w =>
    if w.gen ≠ key % 256 then .error St.windowRevoked
    else if allowed w = false ∨ bit w.rights right = 0 then .error St.windowAccess
    else if w.len < off + len then .error St.windowRange
    else .ok w

/-- Where an offset of a STACKED or POOL window lies in device memory. -/
def winAddr (s : State) (w : Window) (off : Nat) : Nat :=
  if w.space = 1 then (s.stackedQuota w.niche).1 + w.base + off else s.fab.pool.1 + w.base + off

/-- R528: bytes placed in a window. -/
def winPut (w : Window) (off : Nat) (data : List Byte) (s : State) : State :=
  if w.space = 0 then hostPut w.niche (w.base + off) data s else memWriteList s (winAddr s w off) data

/-- R514: the window indices that are open, held, promised to a change, or a segment's. -/
def State.winsTaken (s : State) : List Nat :=
  s.tlt.wins.map (·.1) ++ s.tlt.winHold.map (·.1) ++ s.fab.segs.map (fun p => p.2.win)
    ++ s.deferred.filterMap fun d => match d.2 with
      | .winOpen i _ _ => some i
      | .winRewrite _ j _ _ => some j
      | _ => none

/-- R538: a window opens under the generation stored for its index. -/
def openWin (i : Nat) (w : Window) (s : State) : Nat × State :=
  let g := (Map.find? s.tlt.gens i).getD 1
  (winKey i g, (s.updTlt (fun u => { u with wins := Map.put s.tlt.wins i { w with gen := g }, gens := Map.put s.tlt.gens i g })))

/-- R540: a free index that stands at generation 1. -/
def freshIndex (s : State) : Option Nat × State :=
  freeIndex 65536 (s.winsTaken ++ (s.tlt.gens.filter fun p => decide (1 < p.2)).map (·.1)) s

/-- R539, R540: a window closes at the next generation; past 255 its index is held. Answers the key at the new generation. -/
def closeWin (i : Nat) (s : State) : Nat × State :=
  match Map.find? s.tlt.wins i with
  | none => (0, s)
  | some w =>
    let s := s.updTlt (fun u => { u with wins := Map.del s.tlt.wins i })
    if w.gen < 255 then (winKey i (w.gen + 1), (s.updTlt (fun u => { u with gens := Map.put s.tlt.gens i (w.gen + 1) })))
    else
      let (j, s) := freshIndex s
      (winKey (j.getD i) 1, (s.updTlt (fun u => { u with gens := Map.put s.tlt.gens i 1, winHold := Map.put s.tlt.winHold i (s.stroke + s.get Reg.TLT_HOLD_WRAP_HOLD) })))

/-! ### Peers (R524, R525) -/

/-- R524: the entry of a peer that is new or has been reset. -/
def PeerX.fresh : PeerX := { next := 0, floor := 0, done := [], txLane := [], rxLane := [], laneDone := [], turn := 0, dirty := [],
                               rate := ⟨0, 0, 0, 0, 0, 0, 0, 0, false⟩ }

/-- R524: the entry of a peer. -/
def State.peerX (s : State) (d : Nat) : PeerX := (Map.find? s.tlt.peers d).getD PeerX.fresh

/-- A peer's entry changed. -/
def updPeer (d : Nat) (f : PeerX → PeerX) (s : State) : State :=
  (s.updTlt (fun u => { u with peers := Map.put s.tlt.peers d (f (s.peerX d)) }))

/-- R524, R555, R562, R683: a peer's entry as it is when the peer is first known. -/
def newPeer (d : Nat) (s : State) : State :=
  (updPeer d (fun _ => PeerX.fresh) s).setsI d [(Reg.TLT_PEER_INFO_KNOWN, 0), (Reg.TLT_PEER_INFO_PEER_EPOCH, 0),
    (Reg.TLT_PEER_INFO_RATE_MBPS, s.getI Reg.RGL_ENV_MAX 0), (Reg.TLT_PEER_RTO_SRTT, 0), (Reg.TLT_PEER_RTO_RTO, s.get Reg.TLT_RETRY_RTO_DEFAULT)]

/-- R525: intake may issue one more ID to a peer. -/
def State.peerRoom (s : State) (d : Nat) : Bool :=
  s.tlt.sends.all fun x => x.peer != d || decide (((s.peerX d).next + 2 ^ 32 - x.msg) % 2 ^ 32 < 1024)

/-- R529, R536: the receive trackers in use: messages of more than one chunk, and held atomic results. -/
def State.trackers (s : State) : Nat :=
  (s.tlt.rx.filter fun x => decide (1 < chunkCount x.len x.seg)).length + (s.tlt.serves.filter fun x => x.op == 6).length

/-- R558: TLT_TRK follows the records. -/
def tltShow (s : State) : State := s.sets [(Reg.TLT_TRK_SEND_USED, s.tlt.sends.length), (Reg.TLT_TRK_RECV_USED, s.trackers)]

/-- R562: OUTSTANDING follows the records of a peer. -/
def peerCount (d : Nat) (s : State) : State :=
  tltShow (s.setI Reg.TLT_PEER_INFO_OUTSTANDING d (s.tlt.sends.filter fun x => x.peer == d).length)

/-! ### Send records (R523, R525, R541) -/

/-- A send record before a message fills it. -/
def Send.blank : Send :=
  { peer := 0, msg := 0, op := 0, owner := .none, ring := 0, port := none, tag := 0, niche := 0, srcEp := 0, dstEp := 0, queue := none
    len := 0, seg := 13, key := 0, off := 0, lkey := 0, loff := 0, imm := 0, atop := 0, operand := 0, compare := 0, data := [], ready := true
    acked := true, ordered := false, oseq := 0, next := 0, left := [], resent := [], held := [], rto := 0, tries := 0, busy := 0, due := 0, chunkDue := []
    lastPath := [], ackDue := none, path := 0, ces := 0 }

/-- R522: opcodes whose packets carry the sender's chunks. -/
def Send.carries (x : Send) : Bool := decide (1 ≤ x.op) && decide (x.op ≤ 3)

/-- R523: the packets that a message is. -/
def Send.packets (x : Send) : Nat := if x.carries then chunkCount x.len x.seg else 1

/-- R548: the lane of an ordered message. -/
def laneOf (a b : Nat) : Nat := (a ^^^ b) % 16

/-- R522: the extension of a message's packets. -/
def Send.ext (x : Send) : Nat :=
  match x.op with
  | 1 => x.key + x.off * 2 ^ 64
  | 2 => x.key + x.imm * 2 ^ 32 + x.off * 2 ^ 64
  | 3 => x.imm
  | 4 => x.key + x.off * 2 ^ 64
  | 6 => x.key + x.atop * 2 ^ 32 + x.off * 2 ^ 64 + x.operand * 2 ^ 128 + x.compare * 2 ^ 192
  | 0x49 => x.atop + x.off * 2 ^ 64 + x.operand * 2 ^ 128
  | _ => 0

/-- R521: one packet of a message. -/
def Send.packet (x : Send) (s : State) (k : Nat) (retry : Bool) : TlPkt :=
  { s.tlHead x.op x.peer with
    flags := if x.ordered then 1 + (if retry then 4 else 0) + laneOf x.srcEp x.dstEp * 16 else if retry then 4 else 0
    srcEp := x.srcEp, dstEp := if x.op = 8 ∨ x.op = 0xC then 0 else x.dstEp, seg := if x.op < 0x40 then x.seg else 0, msg := x.msg
    off := if x.carries then k * 2 ^ x.seg else 0, len := x.len, oseq := x.oseq, ext := x.ext
    data := if x.carries then (x.data.drop (k * 2 ^ x.seg)).take (2 ^ x.seg) else [] }

/-- R526: one packet of a message sent; a retransmission takes another path than its last and is counted. -/
def sendChunk (peer msg k : Nat) (retry : Bool) (s : State) : State :=
  match s.send peer msg with
  | none => s
  | some x =>
    let s := if retry then
        updSend peer msg (fun x => { x with resent := insertNat k x.resent })
          (updPeer peer (fun p => { p with rate := { p.rate with retx := p.rate.retx + 1 } }) (count Reg.TLT_RETX_COUNT s))
      else s
    let (i, s) := sendPacket x.queue (if x.carries then some (peer, msg, k) else none) (Map.find? x.lastPath k) (x.packet s k retry) s
    match i with
    | none => s
    | some i =>
      let s := updSend peer msg (fun x => { x with lastPath := Map.put x.lastPath k i }) s
      if x.queue.isNone ∧ x.carries then chunkLeft peer msg k s else s

/-- The lowest number that a rising list from 0 leaves out. -/
def firstGap (l : List Nat) : Nat := l.foldl (fun b k => if k = b then b + 1 else b) 0

/-- R529: the chunks that may leave now, for the first time. -/
def pump (peer msg : Nat) (s : State) : State :=
  match s.send peer msg with
  | none => s
  | some x =>
    if x.ready then
      let lim := if x.carries then min x.packets (firstGap x.held + 1024) else 1
      let s := updSend peer msg (fun x => { x with next := max x.next lim }) s
      (List.range (lim - x.next)).foldl (fun s k => sendChunk peer msg (x.next + k) false s) s
    else s

/-- R525, R541, R548: a message takes its ID, its place in its lane and its timer, and starts to leave. -/
def newSend (x : Send) (s : State) : State :=
  let p := s.peerX x.peer
  let rto := s.effI Reg.TLT_PEER_RTO_RTO x.peer
  let lane := laneOf x.srcEp x.dstEp
  let oseq := if x.ordered then (Map.find? p.txLane lane).getD 0 else 0
  let s := updPeer x.peer (fun p => { p with next := (p.next + 1) % 2 ^ 32
                                             txLane := if x.ordered then Map.put p.txLane lane ((oseq + 1) % 65536) else p.txLane }) s
  let x := { x with msg := p.next, oseq := oseq, rto := rto, due := s.stroke + rto }
  pump x.peer x.msg (peerCount x.peer (s.updTlt (fun u => { u with sends := s.tlt.sends ++ [x] })))

/-- R525, R558: a send record is free for a message to a peer. -/
def State.sendRoom (s : State) (d : Nat) : Bool :=
  s.peerRoom d && decide (s.tlt.sends.length < s.get Reg.TLT_TRK_CAP_SEND_MAX)

/-- R525: a message is settled and its record goes. -/
def dropSend (peer msg : Nat) (s : State) : State :=
  peerCount peer (s.updTlt (fun u => { u with sends := s.tlt.sends.filter fun x => !(x.peer == peer && x.msg == msg) }))

/-- R533: a message that the receiver may hold open is abandoned: its record becomes an ABANDON, retried like any packet. -/
def abandon (x : Send) (s : State) : State :=
  let rto := s.effI Reg.TLT_PEER_RTO_RTO x.peer
  let y := { x with op := 0xC, owner := .none, len := 0, data := [], queue := none, next := 0, held := [], tries := 0, busy := 0, rto := rto
                    due := s.stroke + rto, chunkDue := [], ready := true, ackDue := none }
  pump x.peer x.msg (updSend x.peer x.msg (fun _ => y) s)

/-! ### The end of a work entry (R532) -/

/-- R273, R340: a notice of a work entry: to the LINK of its ring, or to the reply channel of a tile's port. -/
def workNotice (ring : Nat) (port : Option (Nat × Nat)) (niche id obj data : Nat) (s : State) : State :=
  match port with
  | some (_, ch) =>
    noticePut ch ⟨2, id % 2 ^ 14 + 2 ^ 16 + s.now % 2 ^ 32 * 2 ^ 32 + data % 2 ^ 56 * 2 ^ 64 + 2 ^ 127, 0xFFF, niche⟩ s
  | none => raiseTo (.ring ring) id obj data s

/-- R532: a failure after its completion has committed. -/
def lateFail (x : Send) (st : Nat) (s : State) : State :=
  let s := (count Reg.TLT_LATE_FAIL_COUNT s).set Reg.TLT_STATUS_LATE_FAIL 1
  workNotice x.ring x.port x.niche Ev.tltLateFail x.ring (x.tag + st * 2 ^ 16 + x.srcEp * 2 ^ 24) s

/-- R532: a work entry ends: its completion, or in place of a SENT completion that has not committed, or as a late failure. -/
def workEnd (x : Send) (seq st result : Nat) (s : State) : State :=
  match s.flight seq with
  | some f =>
    if f.done.isNone then finish seq st result s
    else if st = St.ok then s
    else updFlight seq (fun f => { f with done := some ⟨st, 0, 0, none⟩ }) s
  | none => if st = St.ok then s else lateFail x (if st = St.aborted then St.tlAbandoned else st) s

/-- R535: a failed work of an endpoint toward a device. -/
def epFailed (ep d : Nat) (s : State) : State :=
  (s.updTlt (fun u => { u with eps := Map.upd s.tlt.eps ep fun e => { e with fails := Map.put e.fails d ((Map.find? e.fails d).getD 0 + 1) } }))

/-! ### Endpoint contexts (R544 to R546) -/

/-- An endpoint changed. -/
def updEp (ep : Nat) (f : Endpoint → Endpoint) (s : State) : State := s.updTlt (fun u => { u with eps := Map.upd s.tlt.eps ep f })

/-- R557: TLT_CTX follows the contexts and the recall queue. -/
def ctxShow (s : State) : State :=
  s.sets [(Reg.TLT_CTX_ONDIE, (s.tlt.eps.filter fun p => p.2.onDie).length),
    (Reg.TLT_CTX_EVICTED, (s.tlt.eps.filter fun p => !p.2.onDie).length), (Reg.TLT_CTX_RECALL_HELD, s.tlt.recallHeld.length)]

/-- R212, R686: a niche holds more contexts in the store than its ONDIE_ENDPOINTS guarantee. -/
def State.overGuarantee (s : State) (n : Nat) : Bool :=
  decide (s.getI Reg.NCH_QUOTA_LIMIT (quotaKey n 14) < (s.tlt.eps.filter fun p => p.2.niche == n && p.2.onDie).length)

/-- R544, R686: the context that may be evicted: the least recently used, of those outside the warm set first. -/
def State.evictable (s : State) : Option (Nat × Endpoint) :=
  let l := s.tlt.eps.filter fun p => p.2.onDie && !p.2.pin && s.overGuarantee p.2.niche && s.tlt.recallHeld.all (fun q => q.dstEp != p.1)
      && s.tlt.sends.all fun x => x.srcEp != p.1 || decide (x.packets ≤ x.next)
  let cold := l.filter fun p => (Map.find? s.rgl.warm p.1).isNone
  (if cold = [] then l else cold).foldl
    (fun b p => match b with
      | some q => if p.2.used < q.2.used then some p else some q
      | none => some p) none

/-- R544: a context leaves the store: to stacked memory, or to the host spill region of the manager PF. The bytes of a
context and its slot there are free. -/
def evict (ep : Nat) (s : State) : State :=
  match Map.find? s.tlt.eps ep with
  | none => s
  | some e =>
    let slots := s.get Reg.TLT_SPILL_LEN_SLOTS
    let host := s.flagI Reg.TLT_NCFG_HOST_TIER e.niche && decide (0 < slots)
    let (v, s) := s.draw
    let s := if host then hostPut 0 (s.get Reg.TLT_SPILL_ADDR_ADDR + 256 * (v % slots)) (toBytes 160 v) s else s
    updEp ep (fun e => { e with onDie := false, host := host }) s

/-- R544: a place in the context store, or none when nothing may be evicted. -/
def makeRoom (s : State) : Bool × State :=
  if (s.tlt.eps.filter fun p => p.2.onDie).length < 262144 then (true, s)
  else match s.evictable with
    | some (ep, _) => (true, evict ep s)
    | none => (false, s)

/-- R544: a context is used. -/
def touchEp (ep : Nat) (s : State) : State :=
  updEp ep (fun e => { e with used := s.tlt.clock }) (s.updTlt (fun u => { u with clock := s.tlt.clock + 1 }))

/-- R545, R566: the recall of a context starts, once. -/
def recallStart (ep : Nat) (s : State) : State :=
  match Map.find? s.tlt.eps ep with
  | none => s
  | some e =>
    if e.recalling then s
    else
      let s := addI Reg.TLT_RECALLS_COUNT 0 1 (updEp ep (fun e => { e with recalling := true }) s)
      let s := s.updRgl (fun u => { u with recalls := Map.put s.rgl.recalls ep ((Map.find? s.rgl.recalls ep).getD 0 + 1) })
      if e.host then needRead 0 (.context ep) s else s

/-- R225, R520: the endpoint of a niche that work names. -/
def State.ownEp (s : State) (n ep : Nat) : Option Endpoint :=
  match Map.find? s.tlt.eps ep with
  | some e => if e.niche = n then some e else none
  | none => none

/-- R515, R520: the local window that a sender names, or the status that refuses it. -/
def localCheck (s : State) (n pd key right off len : Nat) : Except Nat Window :=
  match Map.find? s.tlt.wins (key / 256) with
  | none => .error (if closedStatus s key = St.windowRevoked then St.windowRevoked else St.notFound)
  | some w =>
    if w.niche ≠ n then .error St.notFound
    else if w.gen ≠ key % 256 then .error St.windowRevoked
    else if w.len < off + len then .error St.windowRange
    else if w.pd ≠ pd ∨ bit w.rights right = 0 then .error St.windowAccess
    else .ok w

/-- R520, R640, R643: whether work can reach a device: this device has an ID, and the device a usable path. -/
def peerStatus (s : State) (d : Nat) : Nat :=
  if s.fabId.isNone then St.fabNoId
  else if (s.member d).isNone ∨ s.usable d = [] then St.tlNoPeer
  else St.ok

/-- R511, R706, R709: tenant work whose effect comes later ends: journaled when it changed something, then completed. -/
def stateDone (blk seq st result : Nat) (s : State) : State :=
  match s.flight seq with
  | some f => finish seq st result (if st = St.ok then jWork blk f result s else s)
  | none => s

end Sys2Proof.Machine
end

