-- ==== Sys2Proof/Machine/Pool.lean ====
section
/-!
DEFINITION. Pool memory as its users meet it (R646 to R652): fabric addresses, imports, grants, and the checks of the
owning device.
-/
namespace Sys2Proof.Machine

/-! ### Fabric addresses (R26) -/

def fabDev (a : Nat) : Nat := a / 2 ^ 50 % 2 ^ 14
def fabSpace (a : Nat) : Nat := a / 2 ^ 48 % 4
def fabOff (a : Nat) : Nat := a % 2 ^ 48

/-- R514: the rights a remote access needs, as bits of RIGHTS. -/
def rightWrite : Nat := 0
def rightRead : Nat := 1
def rightAtomic : Nat := 2

/-- R651: the import of a niche that covers an access and holds its right. -/
def State.importFor (s : State) (n key addr len right : Nat) : Option Import :=
  (s.fab.imports.find? fun p => p.2.niche == n && p.2.key == key && decide (p.2.base ≤ addr) && decide (addr + len ≤ p.2.base + p.2.len)
    && bit p.2.rights right == 1).map (·.2)

/-- R26, R640, R651: the status of an access to a pool address at intake; `none` names the failure of the import. -/
def poolStatus (s : State) (n key addr len right missing : Nat) : Nat :=
  if fabSpace addr ≠ 0 then St.fabSpace
  else if (s.importFor n key addr len right).isNone then missing
  else match s.fabId with
    | none => St.fabNoId
    | some d => if fabDev addr = d then St.ok else peerStatus s (fabDev addr)

/-- R652, R304: a POOL side that is served here. -/
def State.poolHere (s : State) (space addr : Nat) : Bool := space == 3 && s.fabId == some (fabDev addr)

/-! ### The owning device (R648, R649) -/

/-- R646: the segment whose window an index is. -/
def State.segOf (s : State) (win : Nat) : Option (Nat × Seg) := s.fab.segs.find? fun p => p.2.win == win

/-- R648: whether a segment's grant entries give a right to a device. -/
def Seg.grants? (g : Seg) (src right : Nat) : Bool :=
  g.grants.any fun e => decide (byteField e.2 0 1 ≤ src) && decide (src ≤ byteField e.2 2 3) && bit (byteField e.2 4 4) right == 1

/-- R649: an access that no grant allows. -/
def grantDrop (src seg : Nat) (s : State) : State :=
  let s := count Reg.FAB_GRANT_DROP_COUNT s
  if s.flag Reg.FAB_STATUS_GRANT_DROP then s else raise Ev.fabGrant seg (src + seg * 2 ^ 16) (s.set Reg.FAB_STATUS_GRANT_DROP 1)

/-- R649: check 3 at the pool service. -/
def poolOpen (s : State) (key : Nat) : Nat :=
  match s.segOf (key / 256), Map.find? s.tlt.wins (key / 256) with
  | some (_, g), some _ => if s.nicheState g.niche = 1 then St.ok else St.receiverBusy
  | some _, none => closedStatus s key
  | none, _ => St.windowInvalid

/-- R649: check 7 at the pool service, for a window offset. -/
def poolCheck (s : State) (src key off len right : Nat) : Except Nat Window :=
  match s.segOf (key / 256), Map.find? s.tlt.wins (key / 256) with
  | some (_, g), some w =>
    if w.gen ≠ key % 256 then .error St.windowRevoked
    else if g.grants? src right = false ∨ bit w.rights right = 0 then .error St.fabGrant
    else if w.len < off + len then .error St.windowRange
    else .ok w
  | some _, none => .error (closedStatus s key)
  | none, _ => .error St.windowInvalid

/-- R649: what a failed check of the pool service also does. -/
def poolRefused (src key st : Nat) (s : State) : State :=
  if st = St.fabGrant then grantDrop src ((s.segOf (key / 256)).map (·.1) |>.getD 0) s else s

/-- R652: this device's own check of an access that it serves locally, at a pool-region offset. -/
def localPool (s : State) (key off len right : Nat) : Except Nat Window :=
  match s.segOf (key / 256) with
  | none => .error St.windowInvalid
  | some (_, g) =>
    if poolOpen s key ≠ St.ok then .error (poolOpen s key)
    else if off < g.off then .error St.windowRange
    else poolCheck s ((s.fabId).getD 0) key (off - g.off) len right

/-- R654, R536: the value that an atomic leaves, if it writes. -/
def atomicNew (atop old operand compare : Nat) : Option Nat :=
  match atop with
  | 0 => some ((old + operand) % 2 ^ 64)
  | 1 => if old = compare then some operand else none
  | _ => some operand

/-- R536: an atomic on 8 bytes of device memory; answers the original value. -/
def atomicAt (addr atop operand compare : Nat) (s : State) : Nat × State :=
  let old := ofBytes (memReadList s addr 8)
  match atomicNew atop old operand compare with
  | some v => (old, memWriteList s addr (toBytes 8 v))
  | none => (old, s)

/-- A message to the pool service of another device, from an access of a niche through an import. -/
def poolSend (op : Nat) (owner : Owner) (i : Import) (addr len : Nat) (s : State) : Send :=
  { Send.blank with peer := fabDev addr, op := op, owner := owner, niche := i.niche, dstEp := poolEp
                    queue := some (s.get Reg.FAB_CFG_POOL_QUEUE), key := i.key, off := addr - i.base, len := len }

end Sys2Proof.Machine
end

