-- ==== Sys2Proof/Machine/Dma.lean ====
section
/-!
DEFINITION. The DMA engine (R296 to R324): the meanings of COPY, FILL and LIST, the start of an entry on a channel,
and the points of a pass at which its bytes have been written.
-/
namespace Sys2Proof.Machine

/-! ### Entries and elements (R299, R301) -/

def dSrcSpace (e : Nat) : Nat := byteField e 4 4
def dDstSpace (e : Nat) : Nat := byteField e 5 5
def dSrcAddr (e : Nat) : Nat := byteField e 8 15
def dDstAddr (e : Nat) : Nat := byteField e 16 23
def dSrcLine (e : Nat) : Nat := byteField e 24 27
def dDstLine (e : Nat) : Nat := byteField e 28 31
def dSrcStride (e : Nat) : Int := signed 32 (byteField e 32 35)
def dDstStride (e : Nat) : Int := signed 32 (byteField e 36 39)
def dSrcLines (e : Nat) : Nat := byteField e 40 43
def dDstLines (e : Nat) : Nat := byteField e 44 47
def dKey (e : Nat) : Nat := byteField e 48 51

/-- R298: the element is a COPY. -/
def dCopy (e : Nat) : Bool := wOpcode e == 0x40

/-- R296: the bytes of an element's stream. -/
def dTotal (e : Nat) : Nat := dDstLine e * dDstLines e

/-- R300: the ranges of a shape. -/
def dShapeOk (e : Nat) : Bool :=
  let ok (n : Nat) : Bool := decide (1 ≤ n) && decide (n ≤ 16777216)
  ok (dDstLine e) && ok (dDstLines e) && decide (dTotal e ≤ 4294967295)
    && (!dCopy e || (ok (dSrcLine e) && ok (dSrcLines e) && dSrcLine e * dSrcLines e == dTotal e))

/-- R303: the lowest and highest offset that a side touches, from its address. -/
def sideRange (line : Nat) (stride : Int) (lines : Nat) : Int × Int :=
  let far := stride * (lines - 1 : Nat)
  (min 0 far, max 0 far + ((line - 1 : Nat) : Int))

/-- R303: a side within the quota or tile memory. -/
def sideOk (s : State) (f : Flight) (space addr line : Nat) (stride : Int) (lines : Nat) : Bool :=
  let (lo, hi) := sideRange line stride lines
  spaceBounds s f space addr lo hi

/-- R302, R304: where a POOL side starts and ends. -/
def poolSpan (addr line : Nat) (stride : Int) (lines : Nat) : Nat × Nat :=
  let (lo, hi) := sideRange line stride lines
  (((addr : Int) + lo).toNat, (hi - lo + 1).toNat)

/-- R304, R651: the status of a POOL side: the import, the path, and, when it is served here, the window. -/
def poolSide (s : State) (f : Flight) (key addr line : Nat) (stride : Int) (lines right : Nat) : Nat :=
  let (a, n) := poolSpan addr line stride lines
  let st := poolStatus s f.niche key a n right St.dmaWindow
  if st ≠ St.ok then st
  else if s.poolHere 3 addr then
    match localPool s key (fabOff a) n right with
    | .error e => e
    | .ok _ => St.ok
  else St.ok

/-- R300 to R304: the status of an element when it is checked: shape, space, bounds, window. -/
def elementStatus (s : State) (f : Flight) (e : Nat) : Nat :=
  let copy := dCopy e
  if wOpcode e ≠ 0x40 ∧ wOpcode e ≠ 0x41 then St.badOpcode
  else if spaceAllowed f (dDstSpace e) = false ∨ (copy = true ∧ (spaceAllowed f (dSrcSpace e) = false ∨ (dSrcSpace e = 3 ∧ dDstSpace e = 3))) then St.dmaSpace
  else if dShapeOk e = false then St.dmaShape
  else if sideOk s f (dDstSpace e) (dDstAddr e) (dDstLine e) (dDstStride e) (dDstLines e) = false
      ∨ (copy = true ∧ sideOk s f (dSrcSpace e) (dSrcAddr e) (dSrcLine e) (dSrcStride e) (dSrcLines e) = false) then St.dmaBounds
  else if dDstSpace e = 3 then poolSide s f (dKey e) (dDstAddr e) (dDstLine e) (dDstStride e) (dDstLines e) rightWrite
  else if copy = true ∧ dSrcSpace e = 3 then poolSide s f (dKey e) (dSrcAddr e) (dSrcLine e) (dSrcStride e) (dSrcLines e) rightRead
  else St.ok

/-- R301: the elements of an entry. -/
def dCount (f : Flight) : Nat := if wOpcode f.entry = 0x42 then byteField f.entry 16 19 else 1

/-- R301: the k-th element of an entry: of a LIST in HOST, as the host holds it. -/
def dElement (s : State) (f : Flight) (host : List Nat) (k : Nat) : Nat :=
  if wOpcode f.entry = 0x42 then
    let space := byteField f.entry 4 4
    if space = 0 then host.getD k 0 else ofBytes (memReadList s (deviceAddr s f space (byteField f.entry 8 15) + 64 * k) 64)
  else f.entry

/-- R309: the bytes of a whole pass. -/
def dSum (s : State) (f : Flight) (host : List Nat) : Nat :=
  (List.range (dCount f)).foldl (fun a k => a + dTotal (dElement s f host k)) 0

/-- R309: the half point. -/
def dHalf (s : State) (f : Flight) (host : List Nat) : Nat :=
  if wOpcode f.entry = 0x42 then dSum s f host / 2
  else if 2 ≤ dDstLines f.entry then dDstLines f.entry / 2 * dDstLine f.entry
  else dTotal f.entry / 2

/-! ### Completion (R312, R315) -/

/-- R315, R321: a DMA error counted and recorded. -/
def dmaError (f : Flight) (st : Nat) (s : State) : State :=
  let s := count Reg.DMA_ERR_CNT_COUNT s
  let s := s.sets [(Reg.DMA_ERR_LAST_STATUS, st), (Reg.DMA_ERR_LAST_NICHE, f.niche), (Reg.DMA_ERR_LAST_RING, f.ring),
    (Reg.DMA_ERR_LAST_TAG, wTag f.entry)]
  if s.flag Reg.DMA_STATUS_ERR then s
  else raise Ev.dmaError 0 (st * 2 ^ 56 + f.niche * 2 ^ 44 + f.ring * 2 ^ 27 + wTag f.entry * 2 ^ 11) (s.set Reg.DMA_STATUS_ERR 1)

/-- R312: a DMA entry completes. -/
def dmaComplete (seq st bytes element : Nat) (s : State) : State :=
  match s.flight seq with
  | none => s
  | some f =>
    let s := if st = St.ok ∨ st = St.aborted then s else dmaError f st s
    finish seq st (bytes + (if wOpcode f.entry = 0x42 then element * 2 ^ 64 else 0)) s

/-- The channel on which an entry runs. -/
def State.dmaRun (s : State) (seq : Nat) : Option (Nat × DmaRun) := s.dma.channels.find? fun p => p.2.seq == seq

/-- A run changed. -/
def updRun (c : Nat) (g : DmaRun → DmaRun) (s : State) : State :=
  (s.updDma (fun u => { u with channels := Map.upd s.dma.channels c g }))

/-- R318: a channel is idle again. -/
def freeChannel (c : Nat) (s : State) : State :=
  ((s.updDma (fun u => { u with channels := Map.del s.dma.channels c }))).setsI c [(Reg.DMA_CH_STAT_BUSY, 0),
    (Reg.DMA_CH_STAT_REPEAT, 0), (Reg.DMA_CH_STAT_PRIO, 0), (Reg.DMA_CH_STAT_NICHE, 0), (Reg.DMA_CH_STAT_RING, 0), (Reg.DMA_CH_STAT_TAG, 0)]

/-- An entry leaves the engine, its messages with it; a message that its receiver may hold open is abandoned. -/
def dmaForget (seq : Nat) (s : State) : State :=
  let s := match s.dmaRun seq with
    | some (c, _) => freeChannel c s
    | none => s
  let s := s.updDma (fun u => { u with queue := s.dma.queue.filter fun q => q.seq != seq })
  (s.tlt.sends.filter fun x => x.owner == .dma seq).foldl (fun s x => abandon x s) s

/-- R312, R313: a run ends with a status. -/
def dmaStop (seq st : Nat) (s : State) : State :=
  match s.dmaRun seq with
  | some (_, r) => dmaComplete seq st r.done r.element (dmaForget seq s)
  | none => dmaComplete seq st 0 0 (dmaForget seq s)

/-! ### Moving bytes (R296, R297, R307) -/

/-- R296: how far stream byte k lies from a side's address. -/
def sideDelta (line : Nat) (stride : Int) (k : Nat) : Int := stride * (k / line : Nat) + ((k % line : Nat) : Int)

/-- A side's address 0 as a place: HOST, and the number of its first byte there or in device memory. -/
def sideBase (s : State) (f : Flight) (space addr : Nat) : Int :=
  if space = 0 then (addr : Int) else if space = 3 then ((s.fab.pool.1 + fabOff addr : Nat) : Int) else ((deviceAddr s f space addr : Nat) : Int)

/-- Whether the lines of a side cover a place, and how often. -/
def covers (base : Int) (line : Nat) (stride : Int) (lines : Nat) (a : Int) : Nat :=
  ((List.range lines).filter fun l => decide (0 ≤ a - (base + stride * (l : Nat))) && decide (a - (base + stride * (l : Nat)) < (line : Int))).length

/-- R297: a stream byte whose place is written twice, or lies where the element also reads, or that comes from where it
also writes: its final content is a free value. -/
def overlaps (s : State) (f : Flight) (e k : Nat) : Bool :=
  let db := sideBase s f (dDstSpace e) (dDstAddr e)
  let sb := sideBase s f (dSrcSpace e) (dSrcAddr e)
  let d := db + sideDelta (dDstLine e) (dDstStride e) k
  let same := dCopy e && ((dSrcSpace e == 0) == (dDstSpace e == 0)) && (dSrcSpace e != 3 || s.poolHere 3 (dSrcAddr e))
    && (dDstSpace e != 3 || s.poolHere 3 (dDstAddr e))
  decide (1 < covers db (dDstLine e) (dDstStride e) (dDstLines e) d)
    || (same && decide (0 < covers sb (dSrcLine e) (dSrcStride e) (dSrcLines e) d))
    || (same && decide (0 < covers db (dDstLine e) (dDstStride e) (dDstLines e) (sb + sideDelta (dSrcLine e) (dSrcStride e) k)))

/-- R296, R299: source byte k of the stream. -/
def streamByte (s : State) (f : Flight) (e k : Nat) : Byte :=
  if dCopy e = false then BitVec.ofNat 8 (dSrcAddr e >>> (8 * (k % 8)))
  else if dSrcSpace e = 0 ∨ (dSrcSpace e = 3 ∧ s.poolHere 3 (dSrcAddr e) = false) then f.data.getD k 0
  else memRead s (sideBase s f (dSrcSpace e) (dSrcAddr e) + sideDelta (dSrcLine e) (dSrcStride e) k).toNat

/-- Stream bytes from a to b, overlaps free. -/
def streamBytes (s : State) (f : Flight) (e a b v : Nat) : List Byte :=
  (List.range (b - a)).map fun i => if overlaps s f e (a + i) then BitVec.ofNat 8 (v >>> (8 * i)) else streamByte s f e (a + i)

/-- The parts of the destination's lines between stream bytes a and b. -/
def lineParts (line a b : Nat) : List (Nat × Nat) :=
  (List.range ((b + line - 1) / line - a / line)).map fun i => (max a ((a / line + i) * line), min b ((a / line + i + 1) * line))

/-- Stream bytes written at the destination, in rising order. -/
def writeStream (f : Flight) (e a b : Nat) (s : State) : State :=
  (lineParts (dDstLine e) a b).foldl (fun s p =>
    let (v, s) := s.draw
    let bytes := streamBytes s f e p.1 p.2 v
    let at_ := (sideBase s f (dDstSpace e) (dDstAddr e) + sideDelta (dDstLine e) (dDstStride e) p.1)
    if dDstSpace e = 0 then hostPut f.niche (at_ % 2 ^ 64).toNat bytes s
    else if dDstSpace e = 3 ∧ s.poolHere 3 (dDstAddr e) = false then s
    else memWriteList s at_.toNat bytes) s

/-- R307: the beats that carry the stream bytes below k: one for each 64-byte block of the destination in each line. -/
def beatsBelow (s : State) (f : Flight) (e k : Nat) : Nat :=
  (lineParts (dDstLine e) 0 k).foldl (fun n p =>
    let a := (sideBase s f (dDstSpace e) (dDstAddr e) + sideDelta (dDstLine e) (dDstStride e) p.1).toNat
    n + ((a + (p.2 - p.1) + 63) / 64 - a / 64)) 0

/-! ### POOL sides of other devices (R304, R652) -/

/-- The POOL side of an element at another device: whether it is read, its address and its lines. -/
def remoteSide (s : State) (e : Nat) : Option (Bool × Nat × Nat × Int × Nat) :=
  if dDstSpace e = 3 ∧ s.poolHere 3 (dDstAddr e) = false then some (false, dDstAddr e, dDstLine e, dDstStride e, dDstLines e)
  else if dCopy e = true ∧ dSrcSpace e = 3 ∧ s.poolHere 3 (dSrcAddr e) = false then some (true, dSrcAddr e, dSrcLine e, dSrcStride e, dSrcLines e)
  else none

/-- R296: the source of an element is all there. -/
def srcReady (s : State) (f : Flight) (r : DmaRun) (e : Nat) : Bool :=
  if dCopy e = false then true
  else if dSrcSpace e = 0 then decide (dTotal e ≤ f.data.length)
  else match remoteSide s e with
    | some (true, _, _, _, lines) => decide (lines ≤ r.lines)
    | _ => true

/-- Every byte of an element can be written, or, at another device, is. -/
def elementReady (s : State) (f : Flight) (r : DmaRun) (e : Nat) : Bool :=
  srcReady s f r e && match remoteSide s e with
    | some (false, _, _, _, lines) => decide (lines ≤ r.lines)
    | _ => true

/-- R304: the next message of an element's remote side, one for each line, is sent when there is room for it. -/
def remoteNext (r : DmaRun) (f : Flight) (e : Nat) (s : State) : State :=
  match remoteSide s e with
  | none => s
  | some (read, addr, line, stride, lines) =>
    let a := ((addr : Int) + stride * (r.lines : Nat)).toNat
    if lines ≤ r.lines ∨ s.tlt.sends.any (fun x => x.owner == .dma r.seq) ∨ s.sendRoom (fabDev addr) = false
        ∨ (read = false ∧ srcReady s f r e = false) then s
    else match s.importFor f.niche (dKey e) a line (if read then rightRead else rightWrite) with
      | none => dmaStop r.seq St.dmaWindow s
      | some i =>
        if peerStatus s (fabDev addr) ≠ St.ok then dmaStop r.seq (peerStatus s (fabDev addr)) s
        else
          let (v, s) := s.draw
          let x := poolSend (if read then 4 else 1) (.dma r.seq) i a line s
          newSend { x with data := if read then [] else streamBytes s f e (r.lines * line) ((r.lines + 1) * line) v } s

/-! ### A pass (R306 to R310) -/

/-- R301, R304: an element's turn has come: its reads are issued. -/
def feedElement (c : Nat) (r : DmaRun) (f : Flight) (e : Nat) (s : State) : State :=
  let s := updRun c (fun r => { r with fed := true, lines := 0 }) (updFlight r.seq (fun f => { f with data := [] }) s)
  if dCopy e = true ∧ dSrcSpace e = 0 then needRead f.niche (.work r.seq) s else s

/-- R304: a POOL side served here stands under its window's generation. -/
def poolHolds (s : State) (f : Flight) (e : Nat) : Nat :=
  if s.poolHere (dDstSpace e) (dDstAddr e) then poolSide s f (dKey e) (dDstAddr e) (dDstLine e) (dDstStride e) (dDstLines e) rightWrite
  else if dCopy e && s.poolHere (dSrcSpace e) (dSrcAddr e) then
    poolSide s f (dKey e) (dSrcAddr e) (dSrcLine e) (dSrcStride e) (dSrcLines e) rightRead
  else St.ok

/-- A run goes on to a stream position, element by element, as far as its source and its checks let it; answers
whether it is there. -/
def dmaAdvance (fuel c seq target : Nat) (s : State) : Bool × State :=
  match fuel with
  | 0 => (false, s)
  | fuel + 1 =>
    match Map.find? s.dma.channels c, s.flight seq with
    | some r, some f =>
      if r.seq ≠ seq then (false, s)
      else if target ≤ r.done then (true, s)
      else
        let e := dElement s f r.list r.element
        if r.fed = false then
          let st := elementStatus s f e
          if st ≠ St.ok then (false, dmaStop seq st s) else dmaAdvance fuel c seq target (feedElement c r f e s)
        else
          let s := remoteNext r f e s
          if (s.dmaRun seq).isNone ∨ elementReady s f r e = false then (false, s)
          else if poolHolds s f e ≠ St.ok then (false, dmaStop seq (poolHolds s f e) s)
          else
            let upto := min target (r.before + dTotal e)
            let beats := beatsBelow s f e (upto - r.before) - beatsBelow s f e (r.done - r.before)
            let s := addI Reg.DMA_BEATS_COUNT r.prio beats (writeStream f e (r.done - r.before) (upto - r.before) s)
            let excess := decide (upto = r.before + dTotal e) && decide (r.element + 1 < dCount f)
            let s := updRun c (fun r => { r with done := upto, element := if excess then r.element + 1 else r.element
                                                 before := if excess then upto else r.before, fed := !excess }) s
            dmaAdvance fuel c seq target s
    | _, _ => (false, s)

/-- Steps enough for every element of a run. -/
def dmaFuel (f : Flight) : Nat := 2 * dCount f + 2

/-- R311: a notice of a run. -/
def dmaNotice (id : Nat) (r : DmaRun) (f : Flight) (s : State) : State :=
  workNotice f.ring f.port f.niche id r.seq (wTag f.entry + f.ring * 2 ^ 16 + r.pass % 2 ^ 16 * 2 ^ 40) s

/-- R309: the half point is reached. -/
def dmaToHalf (c : Nat) (r : DmaRun) (f : Flight) (s : State) : Bool × State :=
  if r.half then (true, s)
  else
    let (ok, s) := dmaAdvance (dmaFuel f) c r.seq (dHalf s f r.list) s
    if ok then
      let s := updRun c (fun r => { r with half := true }) s
      (true, if bit (wFlags f.entry) 1 = 1 then dmaNotice Ev.dmaHalf r f s else s)
    else (false, s)

/-- DMA_HALF_POINT (R309). -/
def execDmaHalfPoint (chan : Nat) (s : State) : Outcome :=
  .next <|
    match Map.find? s.dma.channels chan with
    | none => s
    | some r => match s.flight r.seq with
      | none => s
      | some f => (dmaToHalf chan r f s).2

/-- R301: the status of the element whose turn has come and that has not been read yet: past the pass's last byte, one
that brings no byte of its own (another opcode, an empty shape). -/
def unfedStatus (s : State) (c : Nat) : Nat :=
  match Map.find? s.dma.channels c with
  | some r => match s.flight r.seq with
    | some f => if r.fed then St.ok else elementStatus s f (dElement s f r.list r.element)
    | none => St.ok
  | none => St.ok

/-- DMA_PASS_END (R309, R310, R312): every byte of the pass is written; the entry completes, or a new pass starts. -/
def execDmaPassEnd (chan : Nat) (s : State) : Outcome :=
  .next <|
    match Map.find? s.dma.channels chan with
    | none => s
    | some r => match s.flight r.seq with
      | none => s
      | some f =>
        let (ok, s) := dmaToHalf chan r f s
        if ok = false then s
        else
          let sum := dSum s f r.list
          let (ok, s) := dmaAdvance (dmaFuel f) chan r.seq sum s
          if ok = false then s
          else if unfedStatus s chan ≠ St.ok then dmaStop r.seq (unfedStatus s chan) s
          else
            let s := if bit (wFlags f.entry) 2 = 1 then dmaNotice Ev.dmaFull r f s else s
            if bit (wFlags f.entry) 3 = 1 then
              updRun chan (fun r => { r with pass := r.pass + 1, element := 0, before := 0, done := 0, half := false, fed := false, lines := 0 }) s
            else dmaComplete r.seq St.ok sum (dCount f - 1) (dmaForget r.seq s)

/-! ### Intake and channels (R305, R306) -/

/-- R306: a waiting entry put in its place in intake order. -/
def queuePut (q : DmaWait) (l : List DmaWait) : List DmaWait :=
  match l with
  | [] => [q]
  | h :: t => if q.seq < h.seq then q :: h :: t else h :: queuePut q t

/-- R305, R306: a checked entry joins the queue of its priority, clamped to its niche's cap. -/
def dmaQueue (f : Flight) (host : List Nat) (s : State) : State :=
  let asked := bits (wFlags f.entry) 5 4
  let cap := s.getI Reg.DMA_NCFG_PRIO_CAP f.niche
  let s := if asked < cap then s.set Reg.DMA_STATUS_CAP_CLAMP 1 else s
  (s.updDma (fun u => { u with queue := queuePut ⟨f.seq, f.niche, max asked cap, host⟩ s.dma.queue }))

/-- COPY and FILL at intake (R298 to R304). -/
def dmaIntake (f : Flight) (s : State) : State :=
  let st := elementStatus s f f.entry
  if st ≠ St.ok then dmaComplete f.seq st 0 0 s else dmaQueue f [] s

/-- COPY (R298, R299). -/
def execCopy (w : Work) (s : State) : Outcome := startWork w 0x40 dmaIntake s

/-- FILL (R298, R299). -/
def execFill (w : Work) (s : State) : Outcome := startWork w 0x41 dmaIntake s

/-- LIST (R301 to R303): `elements` is what a list in HOST holds. -/
def execList (w : Work) (elements : List Nat) (s : State) : Outcome :=
  startWork w 0x42 (fun f s =>
    let space := byteField f.entry 4 4
    let n := byteField f.entry 16 19
    if space = 3 ∨ spaceAllowed f space = false then dmaComplete f.seq St.dmaSpace 0 0 s
    else if n = 0 ∨ 65536 < n then dmaComplete f.seq St.dmaShape 0 0 s
    else if spaceBounds s f space (byteField f.entry 8 15) 0 (64 * n - 1) = false then dmaComplete f.seq St.dmaBounds 0 0 s
    else dmaQueue f elements s) s

/-- R306: the lowest-numbered idle, enabled channel of a priority. -/
def idleChannel (s : State) (prio : Nat) : Option Nat :=
  (List.range 64).find? fun c => s.flagI Reg.DMA_CH_CFG_EN c && s.getI Reg.DMA_CH_CFG_PRIO c == prio
    && (Map.find? s.dma.channels c).isNone

/-- R306: the waiting entry of a priority that starts next: its niche holds fewer channels than it may. -/
def nextDma (s : State) (prio : Nat) : Option DmaWait :=
  s.dma.queue.find? fun q => q.prio == prio
    && decide ((s.dma.channels.filter fun p => p.2.niche == q.niche).length < s.effI Reg.DMA_NCFG_CH_MAX q.niche)

/-- DMA_CHANNEL_START (R306, R318). -/
def execDmaChannelStart (prio : Nat) (s : State) : Outcome :=
  .next <|
    match idleChannel s prio, nextDma s prio with
    | some c, some q => match s.flight q.seq with
      | some f =>
        let r : DmaRun := { seq := q.seq, niche := q.niche, prio := prio, pass := 0, element := 0, list := q.list, before := 0, done := 0
                            half := false, fed := false, lines := 0 }
        let s := s.updDma (fun _ => { channels := Map.put s.dma.channels c r, queue := s.dma.queue.filter fun x => x.seq != q.seq })
        let s := s.setsI c [(Reg.DMA_CH_STAT_BUSY, 1), (Reg.DMA_CH_STAT_REPEAT, bit (wFlags f.entry) 3), (Reg.DMA_CH_STAT_PRIO, prio),
          (Reg.DMA_CH_STAT_NICHE, q.niche), (Reg.DMA_CH_STAT_RING, f.ring), (Reg.DMA_CH_STAT_TAG, wTag f.entry)]
        let e := dElement s f q.list 0
        if elementStatus s f e ≠ St.ok then dmaStop q.seq (elementStatus s f e) s
        else
          let s := feedElement c r f e s
          remoteNext { r with fed := true } f e s
      | none => s.updDma (fun u => { u with queue := s.dma.queue.filter fun x => x.seq != q.seq })
    | _, _ => s

/-! ### What else ends or feeds a run -/

/-- R166, R296: the host has returned an element's source bytes. -/
def dmaHostData (seq : Nat) (data : List Byte) (s : State) : State := updFlight seq (fun f => { f with data := data }) s

/-- R304: a message of a run has ended at its peer. -/
def dmaMessage (seq st : Nat) (data : List Byte) (s : State) : State :=
  if st ≠ St.ok then dmaStop seq st s
  else match s.dmaRun seq, s.flight seq with
    | some (c, r), some f =>
      let s := updRun c (fun r => { r with lines := r.lines + 1 }) (updFlight seq (fun f => { f with data := f.data ++ data }) s)
      match Map.find? s.dma.channels c with
      | some r' => remoteNext r' { f with data := f.data ++ data } (dElement s f r.list r.element) s
      | none => s
    | _, _ => s

/-- R313: an abort stops the channel at the next beat; how far the pass has come by then is a free value. -/
def dmaAbort (seq st : Nat) (s : State) : State :=
  match s.dmaRun seq, s.flight seq with
  | some (c, r), some f =>
    let e := dElement s f r.list r.element
    let (v, s) := s.draw
    let s := if r.fed && elementReady s f r e && poolHolds s f e == St.ok then
        (dmaAdvance (dmaFuel f) c seq (r.done + v % (r.before + dTotal e - r.done + 1)) s).2 else s
    dmaStop seq st s
  | _, _ => dmaStop seq st s

end Sys2Proof.Machine
end

