-- ==== Sys2Proof/Machine/Aperture.lean ====
section
/-!
DEFINITION. The BAR4 apertures (R653) and the end of a remote register access (R655).
-/
namespace Sys2Proof.Machine

/-- The completion statuses of PCIe: Successful Completion, Unsupported Request, Completer Abort. -/
def Pcie.ok : Nat := 0
def Pcie.unsupported : Nat := 1
def Pcie.abort : Nat := 4

/-- R653: the key of a slot of a function's aperture. -/
def aptKey (fn slot : Nat) : Nat := fn * 64 + slot % 64

/-- R653: the bytes of a slot. -/
def aptSlotSize (s : State) (fn : Nat) : Nat :=
  match Map.find? s.hif.fns fn with
  | some f => f.bar4 / 64
  | none => 0

/-- R653, R673: an aperture write that fails. -/
def aptError (s : State) : State := count Reg.FAB_APT_ERR_COUNT s

/-- R653: a host read of an aperture answered; Completer Abort is reported. -/
def aptReply (o : AptOp) (status : Nat) (data : List Byte) (s : State) : State :=
  (if status = Pcie.abort then s.emit (.aer o.ap (some o.rid) .completerAbort) else s).emit (.hostReply o.ap o.rid status (ofBytes data))

/-- R653: an aperture access has ended. -/
def aptDone (o : AptOp) (st : Nat) (data : List Byte) (s : State) : State :=
  let s := s.updFab (fun u => { u with apt := s.fab.apt.filter fun x => x.id != o.id })
  if o.data.isNone then (if st = St.ok then aptReply o Pcie.ok data s else aptReply o Pcie.abort [] s)
  else if st = St.ok then s else aptError s

/-- R653: the import that an access uses. -/
def aptImport (s : State) (o : AptOp) : Option Import :=
  (Map.find? s.fab.apertures (aptKey (fnKey o.ap o.rid) o.slot)).bind fun i => Map.find? s.fab.imports i

/-- R653: an access may go now: a write after the earlier writes of its slot have been sent, a read after they are acknowledged. -/
def aptTurn (s : State) (o : AptOp) : Bool :=
  s.fab.apt.all fun x => !(decide (x.id < o.id) && x.ap == o.ap && x.rid == o.rid && x.slot == o.slot && x.data.isSome
    && (o.data.isNone || !x.sent))

/-- R652, R653: one access goes to its owner: served here, or sent in the lane of its slot. -/
def aptGo (o : AptOp) (s : State) : State :=
  let right := if o.data.isSome then rightWrite else rightRead
  match aptImport s o with
  | none => aptDone o St.fabImport [] s
  | some i =>
    let addr := i.base + o.off
    let st := poolStatus s i.niche i.key addr o.len right St.fabImport
    if st ≠ St.ok then aptDone o st [] s
    else if s.poolHere 3 addr then
      match localPool s i.key (fabOff addr) o.len right with
      | .error e => aptDone o e [] (poolRefused ((s.fabId).getD 0) i.key e s)
      | .ok _ => match o.data with
        | some d => aptDone o St.ok [] (memWriteList s (s.fab.pool.1 + fabOff addr) d)
        | none => aptDone o St.ok (memReadList s (s.fab.pool.1 + fabOff addr) o.len) s
    else if s.sendRoom (fabDev addr) then
      let s := s.updFab (fun u => { u with apt := s.fab.apt.map fun x => if x.id = o.id then { x with sent := true } else x })
      let x := poolSend (if o.data.isSome then 1 else 4) (.aperture o.id) i addr o.len s
      newSend { x with srcEp := o.slot, ordered := o.data.isSome, data := o.data.getD [] } s
    else s

/-- R653: the accesses whose turn has come go. -/
def aptPump (s : State) : State :=
  (s.fab.apt.filter fun o => !o.sent).foldl (fun s o => if aptTurn s o then aptGo o s else s) s

/-- R653: a message of an access has ended. -/
def aptEnd (id st : Nat) (data : List Byte) (s : State) : State :=
  match s.fab.apt.find? fun o => o.id == id with
  | some o => aptPump (aptDone o st data s)
  | none => aptPump s

/-- APERTURE_ACCESS (R653): the host reads or writes BAR4 of a MEMEXPORT PF. -/
def execApertureAccess (who : Issuer) (off len : Nat) (data : Option (List Byte)) (s : State) : Outcome :=
  .next <|
    let fn := fnKey who.ap who.id
    let size := aptSlotSize s fn
    let len := match data with
      | some d => d.length
      | none => len
    let o : AptOp := { id := s.fab.nextApt, ap := who.ap % 4, rid := who.id % 65536, slot := off / max 1 size, off := off % max 1 size
                       len := len, data := data, sent := false, since := s.stk.phcNs }
    let fits := match aptImport s o with
      | some i => decide (o.off + len ≤ i.len)
      | none => false
    if size = 0 ∨ 64 ≤ o.slot ∨ fits = false then
      (if data.isNone then aptReply o Pcie.unsupported [] s else aptError s)
    else aptPump (s.updFab (fun u => { u with apt := s.fab.apt ++ [o], nextApt := s.fab.nextApt + 1 }))

/-- APERTURE_READ_TIMEOUT (R653): a read has not been answered within APT_TIMEOUT_US. -/
def execApertureReadTimeout (id : Nat) (s : State) : Outcome :=
  .next <|
    match s.fab.apt.find? fun o => o.id == id && o.data.isNone with
    | none => s
    | some o =>
      if o.since + s.eff Reg.FAB_PATHCFG_APT_TIMEOUT_US * 1000 ≤ s.stk.phcNs then
        let s := (s.tlt.sends.filter fun x => x.owner == .aperture id).foldl (fun s x => abandon x s) s
        aptPump (aptReply o Pcie.abort [] (s.updFab (fun u => { u with apt := s.fab.apt.filter fun x => x.id != id })))
      else s

/-- R655, R672: a remote register access has ended. -/
def regEnd (st : Nat) (data : List Byte) (s : State) : State :=
  let read := match Map.find? s.cmds 14 with
    | some p => p.op == 10
    | none => false
  cmdEnd Blk.fab st (if st = St.ok ∧ read = true then s.set Reg.FAB_RMT_DATA_DATA (ofBytes data) else s)

end Sys2Proof.Machine
end

