-- ==== Sys2Proof/Machine/StorageData.lean ====
section
/-!
DEFINITION. The data of NVMe commands (R568, R585, R586): status fields, PRPs and SGLs, the layout of blocks and
metadata, and protection information. Encodings that the NVM Express specifications fix are theirs (PRESUMED).
-/
namespace Sys2Proof.Machine

/-! ### Status fields (R583, R586) -/

/-- R583: a status field: SCT in 10 to 8, SC in 7 to 0, DNR in 14. -/
def sfOf (sct sc dnr : Nat) : Nat := sc + sct * 256 + dnr * 16384
def Nv.opcode : Nat := sfOf 0 0x01 0
def Nv.field : Nat := sfOf 0 0x02 0
def Nv.transfer : Nat := sfOf 0 0x04 0
def Nv.sequence : Nat := sfOf 0 0x0C 0
def Nv.abortRequested : Nat := sfOf 0 0x07 0
def Nv.sqDeleted : Nat := sfOf 0 0x08 0
def Nv.namespace_ : Nat := sfOf 0 0x0B 1
def Nv.sglLength : Nat := sfOf 0 0x0F 0
def Nv.lbaRange : Nat := sfOf 0 0x80 1
def Nv.cqInvalid : Nat := sfOf 1 0x00 0
def Nv.qid : Nat := sfOf 1 0x01 0
def Nv.qsize : Nat := sfOf 1 0x02 0
def Nv.abortLimit : Nat := sfOf 1 0x03 0
def Nv.aerLimit : Nat := sfOf 1 0x05 0
def Nv.fwSlot : Nat := sfOf 1 0x06 0
def Nv.fwImage : Nat := sfOf 1 0x07 0
def Nv.vector : Nat := sfOf 1 0x08 0
def Nv.logPage : Nat := sfOf 1 0x09 0
def Nv.queueDeletion : Nat := sfOf 1 0x0C 0
def Nv.notSaveable : Nat := sfOf 1 0x0D 0
def Nv.fwReset : Nat := sfOf 1 0x11 0
def Nv.selfTest : Nat := sfOf 1 0x1D 0
def Nv.compare : Nat := sfOf 2 0x85 0
def Nv.denied : Nat := sfOf 2 0x86 1
def Nv.path : Nat := sfOf 3 0x00 0

/-- R586: the NVMe status that a device status becomes; one that the table does not list is an internal path error. -/
def nvStatus (st : Nat) : Nat :=
  if st = St.ok then 0
  else if st = St.nvsGuard then sfOf 2 0x82 1
  else if st = St.nvsApptag then sfOf 2 0x83 1
  else if st = St.nvsReftag then sfOf 2 0x84 1
  else if st = St.mediaError then sfOf 2 0x81 0
  else if st = St.hostTimeout ∨ st = St.hostError ∨ st = St.translation ∨ st = St.nvsSgl then Nv.transfer
  else if st = St.windowRevoked ∨ st = St.windowAccess ∨ st = St.windowRange ∨ st = St.windowInvalid ∨ st = St.dmaWindow then Nv.denied
  else Nv.path

/-! ### Submission queue entries -/

def qOpcode (e : Nat) : Nat := byteField e 0 0
def qPsdt (e : Nat) : Nat := bits e 15 14
def qCid (e : Nat) : Nat := byteField e 2 3
def qNsid (e : Nat) : Nat := byteField e 4 7
def qMptr (e : Nat) : Nat := byteField e 16 23
def qPrp1 (e : Nat) : Nat := byteField e 24 31
def qPrp2 (e : Nat) : Nat := byteField e 32 39
def qDw (e k : Nat) : Nat := byteField e (4 * k) (4 * k + 3)
def qSlba (e : Nat) : Nat := byteField e 40 47
def qNlb (e : Nat) : Nat := qDw e 12 % 65536 + 1

/-! ### Host buffers: PRPs and SGLs (R571) -/

/-- The entries of the PRP lists that name `left` pages, when the list at hand has room for `avail` entries. -/
def prpEntries (fuel per avail left : Nat) : Nat :=
  match fuel with
  | 0 => left
  | fuel + 1 => if left ≤ avail then left else avail + prpEntries fuel per per (left + 1 - avail)

/-- The pages that the entries of PRP lists name for `len` bytes; none when an entry is not page aligned. -/
def prpWalk (ps avail left len : Nat) (l : List Nat) : Option (List (Nat × Nat)) :=
  match l with
  | [] => if left = 0 then some [] else none
  | e :: t =>
    if left = 0 then some []
    else if e % ps ≠ 0 then none
    else if avail = 1 ∧ 1 < left then prpWalk ps (ps / 8) left len t
    else (prpWalk ps (avail - 1) (left - 1) (len - ps) t).map fun r => (e, min ps len) :: r

/-- The pages after the first, and the entries of the lists at PRP2. -/
def prpPages (ps e len : Nat) : Nat :=
  let first := ps - qPrp1 e % ps
  if len ≤ first then 0 else (len - first + ps - 1) / ps
def prpListLen (ps e len : Nat) : Nat :=
  let n := prpPages ps e len
  if n ≤ 1 then 0 else prpEntries (n + 1) (ps / 8) ((ps - qPrp2 e % ps) / 8) n

/-- 8-byte numbers of a byte string. -/
def numbers8 (n : Nat) (l : List Byte) : List Nat := (List.range n).map fun k => ofBytes ((l.drop (8 * k)).take 8)

/-- The host ranges of `len` bytes under PRPs, given the bytes of the lists. -/
def prpSpans (ps e len : Nat) (host : List Byte) : Option (List (Nat × Nat)) :=
  let first := ps - qPrp1 e % ps
  let n := prpPages ps e len
  if qPrp1 e % 4 ≠ 0 then none
  else if n = 0 then some [(qPrp1 e, len)]
  else if n = 1 then (if qPrp2 e % ps ≠ 0 then none else some [(qPrp1 e, first), (qPrp2 e, len - first)])
  else if qPrp2 e % 8 ≠ 0 then none
  else (prpWalk ps ((ps - qPrp2 e % ps) / 8) n (len - first) (numbers8 (prpListLen ps e len) host)).map fun r => (qPrp1 e, first) :: r

/-- The type, address and length of an SGL descriptor; none for one that is not supported. -/
def sglDesc (d : Nat) : Option (Nat × Nat × Nat) :=
  let type := bits d 127 124
  let addr := d % 2 ^ 64
  let len := d / 2 ^ 64 % 2 ^ 32
  if bits d 123 120 ≠ 0 ∨ (type ≠ 0 ∧ type ≠ 2 ∧ type ≠ 3) ∨ addr % 4 ≠ 0 ∨ len % 4 ≠ 0 then none else some (type, addr, len)

/-- A list of SGL descriptors as data ranges; none when one is not a Data Block. -/
def sglBlocks (l : List Nat) : Option (List (Nat × Nat)) :=
  match l with
  | [] => some []
  | d :: t =>
    match sglDesc d with
    | some (0, a, n) => (sglBlocks t).map fun r => (a, n) :: r
    | _ => none

/-- 16-byte numbers of a byte string. -/
def numbers16 (n : Nat) (l : List Byte) : List Nat := (List.range n).map fun k => ofBytes ((l.drop (16 * k)).take 16)

/-- The data ranges of an SGL descriptor, given the bytes of its segments in the order read, and how many those are. -/
def sglWalk (fuel d : Nat) (host : List Byte) : Option (List (Nat × Nat) × Nat) :=
  match fuel with
  | 0 => none
  | fuel + 1 =>
    match sglDesc d with
    | some (0, a, n) => some ([(a, n)], 0)
    | some (3, _, n) => if n % 16 ≠ 0 ∨ n = 0 then none else (sglBlocks (numbers16 (n / 16) host)).map fun r => (r, n)
    | some (2, _, n) =>
      if n % 16 ≠ 0 ∨ n = 0 then none
      else
        let l := numbers16 (n / 16) host
        match sglBlocks l.dropLast, l.getLast? with
        | some r, some last =>
          if bits last 127 124 = 0 then none
          else (sglWalk fuel last (host.drop n)).map fun p => (r ++ p.1, n + p.2)
        | _, _ => none
    | _ => none

/-- Whether the host must be asked for PRP lists or SGL segments before a buffer's place is known. -/
def needsLists (ps e len : Nat) : Bool :=
  if qPsdt e = 0 then decide (0 < prpListLen ps e len) else bits (byteField e 24 39) 127 124 != 0

/-- R586: the host ranges of a buffer and how many of the host's bytes were lists, or the NVMe status of a malformed one. -/
def hostSpans (ps e len : Nat) (host : List Byte) : Except Nat (List (Nat × Nat) × Nat) :=
  if qPsdt e = 0 then
    match prpSpans ps e len host with
    | some l => .ok (l, 8 * prpListLen ps e len)
    | none => .error Nv.transfer
  else match sglWalk (host.length + 1) (byteField e 24 39) host with
    | some (l, n) => if l.foldl (fun a p => a + p.2) 0 = len then .ok (l, n) else .error Nv.sglLength
    | none => .error Nv.transfer

/-- Host ranges without their first k bytes. -/
def dropSpans (k : Nat) (l : List (Nat × Nat)) : List (Nat × Nat) :=
  match l with
  | [] => []
  | (a, n) :: t => if n ≤ k then dropSpans (k - n) t else (a + k, n - k) :: t

/-- Bytes written over host ranges of a niche. -/
def putSpans (n : Nat) (l : List (Nat × Nat)) (data : List Byte) (s : State) : State :=
  match l with
  | [] => s
  | (a, k) :: t => putSpans n t (data.drop k) (hostPut n a (data.take k) s)

/-! ### Namespaces' blocks (R572) -/

def nNiche (d : Nat) : Nat := byteField d 2 3 % 4096
def nLbads (d : Nat) : Nat := byteField d 4 4
def nMs (d : Nat) : Nat := byteField d 5 5
def nPi (d : Nat) : Nat := byteField d 6 6 % 8
def nFirst (d : Nat) : Bool := bit (byteField d 6 6) 3 == 1
def nGuard64 (d : Nat) : Bool := bits (byteField d 6 6) 5 4 == 1
def nBackend (d : Nat) : Nat := byteField d 7 7
def nSize (d : Nat) : Nat := byteField d 8 15
def nBase (d : Nat) : Nat := byteField d 16 23
def nKey (d : Nat) : Nat := byteField d 24 27
def nTargets (d : Nat) : Nat := byteField d 36 36
def nTarget (d k : Nat) : Nat := byteField d (28 + 2 * k) (28 + 2 * k) * 256 + byteField d (29 + 2 * k) (29 + 2 * k)

/-- The bytes of a block, and of a block with its metadata. -/
def nBlock (d : Nat) : Nat := 2 ^ nLbads d
def nStep (d : Nat) : Nat := nBlock d + nMs d

/-- R585: the bytes of PI. -/
def piSize (d : Nat) : Nat := if nGuard64 d then 16 else 8

/-! ### Protection information (R585) -/

/-- R585: PRACT and the three PRCHK bits: guard, application tag, reference tag. -/
def qPract (e : Nat) : Bool := bit (qDw e 12) 29 == 1
def qChk (e : Nat) : Nat := bits (qDw e 12) 28 26

/-- R585: the reference tag of a command's block i: ILBRT or EILBRT, rising by one but for type 3. -/
def piRef (d e i : Nat) : Nat :=
  let base := qDw e 14 + (if nGuard64 d then qDw e 3 % 65536 * 2 ^ 32 else 0)
  let w := if nGuard64 d then 2 ^ 48 else 2 ^ 32
  (if nPi d = 3 then base else base + i) % w

/-- A number as n bytes, most significant first. -/
def bigBytes (n v : Nat) : List Byte := (toBytes n v).reverse
def ofBig (l : List Byte) : Nat := ofBytes l.reverse

/-- R585: the guard of a block with its metadata up to the PI. -/
def piGuard (d : Nat) (data lead : List Byte) : Nat := if nGuard64 d then crc64Nvme (data ++ lead) else crcT10 (data ++ lead)

/-- PI as bytes. -/
def piBytes (d guard app ref : Nat) : List Byte :=
  if nGuard64 d then bigBytes 8 guard ++ bigBytes 2 app ++ bigBytes 6 ref
  else bigBytes 2 guard ++ bigBytes 2 app ++ bigBytes 4 ref

/-- Where the PI lies in the metadata. -/
def piAt (d : Nat) : Nat := if nFirst d then 0 else nMs d - piSize d

/-- R585: the metadata of a block with its PI put in. -/
def piPut (d : Nat) (data other : List Byte) (guard : Option Nat) (app ref : Nat) : List Byte :=
  let at_ := piAt d
  let lead := other.take at_
  lead ++ piBytes d (guard.getD (piGuard d data lead)) app ref ++ other.drop (if other.length = nMs d then at_ + piSize d else at_)

/-- R585: the check that fails on block i of a command: its device status. -/
def piCheck (d e i : Nat) (data meta_ : List Byte) : Option Nat :=
  let at_ := piAt d
  let p := (meta_.drop at_).take (piSize d)
  let g := if nGuard64 d then 8 else 2
  let guard := ofBig (p.take g)
  let app := ofBig ((p.drop g).take 2)
  let ref := ofBig (p.drop (g + 2))
  let ones := if nGuard64 d then 2 ^ 48 - 1 else 2 ^ 32 - 1
  let off := if nPi d = 3 then app == 0xFFFF && ref == ones else app == 0xFFFF
  let chk := qChk e
  let mask := qDw e 15 / 65536
  if nPi d = 0 ∨ off = true then none
  else if bit chk 2 = 1 ∧ guard ≠ piGuard d data (meta_.take at_) then some St.nvsGuard
  else if bit chk 1 = 1 ∧ (app &&& mask) ≠ ((qDw e 15 % 65536) &&& mask) then some St.nvsApptag
  else if bit chk 0 = 1 ∧ nPi d ≠ 3 ∧ ref ≠ piRef d e i then some St.nvsReftag
  else none

/-- Whether PI is inserted on a write and stripped on a read. -/
def piActs (d e : Nat) : Bool := nPi d != 0 && qPract e

/-- R585: the metadata bytes of a block that the host holds. -/
def hostMeta (d e : Nat) : Nat := if piActs d e = true ∧ nMs d = piSize d then 0 else nMs d

/-- The host's data bytes of n blocks, and the bytes at MPTR. -/
def hostData (ext : Bool) (d e n : Nat) : Nat := n * (nBlock d + if ext then hostMeta d e else 0)
def hostSide (ext : Bool) (d e n : Nat) : Nat := if ext then 0 else n * hostMeta d e

/-- One block as the host sent it, as it enters local memory: PI inserted, or checked. -/
def blockIn (d e i : Nat) (data meta_ : List Byte) : Except Nat (List Byte) :=
  if piActs d e then .ok (data ++ piPut d data meta_ none (qDw e 15 % 65536) (piRef d e i))
  else match piCheck d e i data meta_ with
    | some st => .error st
    | none => .ok (data ++ meta_)

/-- R585: blocks first to first + n - 1 of a command enter local memory; or the status of the first that fails, and its number. -/
def blocksIn (ext : Bool) (d e first n : Nat) (data side : List Byte) : Except (Nat × Nat) (List Byte) :=
  (List.range n).foldl (fun (r : Except (Nat × Nat) (List Byte)) i =>
    match r with
    | .error x => .error x
    | .ok l =>
      let step := nBlock d + if ext then hostMeta d e else 0
      let b := (data.drop (i * step)).take step
      let m := if ext then b.drop (nBlock d) else (side.drop (i * hostMeta d e)).take (hostMeta d e)
      match blockIn d e (first + i) (fit (nBlock d) b) (fit (hostMeta d e) m) with
      | .error st => .error (st, first + i)
      | .ok x => .ok (l ++ x)) (.ok [])

/-- R585: local blocks as they leave for the host: checked, and their PI stripped with PRACT; the host's data and the bytes for MPTR. -/
def blocksOut (ext : Bool) (d e first n : Nat) (loc : List Byte) : Except (Nat × Nat) (List Byte × List Byte) :=
  (List.range n).foldl (fun (r : Except (Nat × Nat) (List Byte × List Byte)) i =>
    match r with
    | .error x => .error x
    | .ok (l, m) =>
      let b := fit (nStep d) (loc.drop (i * nStep d))
      let data := b.take (nBlock d)
      let meta_ := b.drop (nBlock d)
      match piCheck d e (first + i) data meta_ with
      | some st => .error (st, first + i)
      | none =>
        let keep := if hostMeta d e = 0 then [] else meta_
        .ok (if ext then (l ++ data ++ keep, m) else (l ++ data, m ++ keep))) (.ok ([], []))

/-- R581: a zeroed block: zero data, and with PI the guard of zero data and all-ones tags. -/
def zeroBlock (d : Nat) : List Byte :=
  let data := List.replicate (nBlock d) (0 : Byte)
  let other := List.replicate (nMs d) (0 : Byte)
  if nPi d = 0 then data ++ other
  else data ++ piPut d data other none 0xFFFF (if nGuard64 d then 2 ^ 48 - 1 else 2 ^ 32 - 1)

/-- R581: n zeroed blocks. -/
def zeroBlocks (d n : Nat) : List Byte := (List.range n).foldl (fun l _ => l ++ zeroBlock d) []

end Sys2Proof.Machine
end

