-- ==== Sys2Proof/Machine/Storage.lean ====
section
/-!
DEFINITION. The storage front-end (R568 to R588): slots and handles, completion queues, notices, doorbells, fetch and
arbitration, the I/O commands, and the two work entries of back-end programs.
-/
namespace Sys2Proof.Machine

/-! ### Controllers, slots and handles (R580) -/

def updCtrl (c : Nat) (f : NvCtrl → NvCtrl) (s : State) : State := s.updNvs (fun u => { u with ctrls := Map.upd s.nvs.ctrls c f })
def updCq (c q : Nat) (f : NvCq → NvCq) (s : State) : State := updCtrl c (fun x => { x with cqs := Map.upd x.cqs q f }) s
def updSq (c q : Nat) (f : NvSq → NvSq) (s : State) : State := updCtrl c (fun x => { x with sqs := Map.upd x.sqs q f }) s
def updCmd (slot : Nat) (f : NvCmd → NvCmd) (s : State) : State := s.updNvs (fun u => { u with cmds := Map.upd s.nvs.cmds slot f })
def State.nvCtrl (s : State) (c : Nat) : Option NvCtrl := Map.find? s.nvs.ctrls c
def State.nvCq (s : State) (c q : Nat) : Option NvCq := (s.nvCtrl c).bind fun x => Map.find? x.cqs q
def State.nvSq (s : State) (c q : Nat) : Option NvSq := (s.nvCtrl c).bind fun x => Map.find? x.sqs q
def State.nvNiche (s : State) (c : Nat) : Nat := ((s.nvCtrl c).map (·.niche)).getD 0

/-- R599: the state of a controller; the event of R593 goes with it. -/
def setCtrlState (c st : Nat) (s : State) : State := s.setI Reg.NVS_CTRL_INFO_STATE c st
def ctrlEvent (c st : Nat) (s : State) : State := raise Ev.nvsCtrlState c (c + st * 2 ^ 16) s

/-- R569: the memory page size that CC gives. -/
def NvCtrl.page (x : NvCtrl) : Nat := 4096 * 2 ^ bits x.cc 10 7

/-- R580: slots in use. -/
def nvSlots (s : State) : State :=
  let n := s.nvs.cmds.length
  s.sets [(Reg.NVS_INFLIGHT_IN_USE, n), (Reg.NVS_INFLIGHT_PEAK, max n (s.get Reg.NVS_INFLIGHT_PEAK))]

/-- R580: the next slot: one never used, or the one freed first. -/
def State.nvSlot (s : State) : Option Nat := if s.nvs.fresh < 131072 then some s.nvs.fresh else s.nvs.freed.head?

/-- R580: a command takes a slot. -/
def nvTake (slot : Nat) (c : NvCmd) (s : State) : State :=
  let g := (Map.find? s.nvs.gens slot).getD 0
  nvSlots (s.updNvs (fun u => { u with cmds := Map.put s.nvs.cmds slot { c with gen := g, born := s.nvs.count }, count := s.nvs.count + 1, fresh := if slot = s.nvs.fresh then slot + 1 else s.nvs.fresh, freed := s.nvs.freed.filter (· != slot) }))

/-- R580: a handle: slot and generation. -/
def nvHandle (slot : Nat) (c : NvCmd) : Nat := slot + c.gen * 2 ^ 17

/-- R580: the command of a handle that is not retired. -/
def State.nvCmd (s : State) (h : Nat) : Option (Nat × NvCmd) :=
  match Map.find? s.nvs.cmds (h % 2 ^ 17) with
  | some c => if nvHandle (h % 2 ^ 17) c = h then some (h % 2 ^ 17, c) else none
  | none => none

/-- R580: a handle is retired, and its slot's generation raised. -/
def nvRetire (slot : Nat) (s : State) : State :=
  let g := ((Map.find? s.nvs.gens slot).getD 0 + 1) % 2 ^ 15
  nvSlots (s.updNvs (fun u => { u with cmds := Map.del s.nvs.cmds slot, gens := Map.put s.nvs.gens slot g, freed := s.nvs.freed ++ [slot] }))

/-! ### Completion queues and interrupts (R576, R577) -/

/-- R575, R576: free slots of a completion queue, and its places. -/
def NvCq.free (q : NvCq) : Nat := q.size - 1 - (q.tail + q.size - q.head) % q.size
def NvCq.places (q : NvCq) : Nat := q.free + (64 - q.held.length) - q.reserved

/-- R577: the features Interrupt Coalescing, and Coalescing Disable of a vector. -/
def featKey (fid sub : Nat) : Nat := fid * 2 ^ 20 + sub
def NvCtrl.feat (x : NvCtrl) (fid sub dflt : Nat) : Nat := (Map.find? x.feats (featKey fid sub)).getD dflt

/-- R577: an interrupt of a completion queue. -/
def nvIrq (c q : Nat) (s : State) : State :=
  match s.nvCtrl c, s.nvCq c q with
  | some x, some cq =>
    match cq.vector with
    | some v => nicheMsix x.niche v (updCq c q (fun cq => { cq with owed := 0 }) s)
    | none => s
  | _, _ => s

/-- R577: an entry has been written: its message is sent, or waits to be aggregated. -/
def nvAnnounce (c q : Nat) (s : State) : State :=
  match s.nvCtrl c, s.nvCq c q with
  | some x, some cq =>
    match cq.vector with
    | none => s
    | some v =>
      let co := x.feat 8 0 0
      let alone := q == 0 || co / 256 % 256 == 0 || bit (x.feat 9 v 0) 16 == 1
      let s := updCq c q (fun cq => { cq with owed := cq.owed + 1, since := if cq.owed = 0 then s.stk.boundary else cq.since }) s
      if alone = true ∨ co % 256 < cq.owed + 1 then nvIrq c q s else s
  | _, _ => s

/-- R576: an entry written into the next slot, with its phase tag. -/
def nvCqWrite (c q w : Nat) (s : State) : State :=
  match s.nvCq c q with
  | some cq =>
    let s := hostPut (s.nvNiche c) (cq.base + 16 * cq.tail) (toBytes 16 (w + cq.phase * 2 ^ 112)) s
    let wrap := cq.tail + 1 == cq.size
    nvAnnounce c q (updCq c q (fun cq => { cq with tail := if wrap then 0 else cq.tail + 1, phase := if wrap then 1 - cq.phase else cq.phase }) s)
  | none => s

/-- R576: a completion commits: written, or held. -/
def nvCommit (c q w : Nat) (s : State) : State :=
  match s.nvCq c q with
  | some cq =>
    let s := updCq c q (fun cq => { cq with reserved := cq.reserved - 1 }) s
    if cq.held = [] ∧ 0 < cq.free ∧ s.canIssue (s.nvNiche c) then nvCqWrite c q w s
    else updCq c q (fun cq => { cq with held := cq.held ++ [w] }) s
  | none => s

/-- R576: held completions are written while slots are free. -/
def nvDrain (fuel c q : Nat) (s : State) : State :=
  match fuel with
  | 0 => s
  | fuel + 1 =>
    match s.nvCq c q with
    | some cq =>
      match cq.held with
      | [] => s
      | w :: t =>
        if cq.free = 0 ∨ s.canIssue (s.nvNiche c) = false then s
        else nvDrain fuel c q (nvCqWrite c q w (updCq c q (fun cq => { cq with held := t }) s))
    | none => s

/-- A completion of a queue's command: dword 0, the queue's head, SQID, CID and status field. -/
def nvEntry (dw0 head sqid cid sf : Nat) : Nat :=
  dw0 % 2 ^ 32 + head % 2 ^ 16 * 2 ^ 64 + sqid % 2 ^ 16 * 2 ^ 80 + cid % 2 ^ 16 * 2 ^ 96 + sf % 2 ^ 15 * 2 ^ 113

/-! ### Errors and notices (R584, R589, R602, R603) -/

/-- R602, R603: a completion with an error counted and recorded. -/
def nvCount (c sqid cid dev sf : Nat) (s : State) : State :=
  let s := count Reg.NVS_ERR_CNT_COUNT s
  let s := s.sets [(Reg.NVS_ERR_LAST_STATUS, dev), (Reg.NVS_ERR_LAST_NVME_STATUS, sf), (Reg.NVS_ERR_LAST_CTRL, c),
    (Reg.NVS_ERR_LAST_CID, cid), (Reg.NVS_ERR_LAST_SQID, sqid)]
  if s.flag Reg.NVS_STATUS_ERR then s
  else raise Ev.nvsError 0 (sf * 2 ^ 40 + c * 2 ^ 31 + cid * 2 ^ 15 + sqid) (s.set Reg.NVS_STATUS_ERR 1)

/-- R589: an entry of the Error Information log, newest first, 64 of them. -/
def nvLogError (c sqid cid sf lba nsid : Nat) (s : State) : State :=
  updCtrl c (fun x =>
    let e := (x.errCount + 1) % 2 ^ 64 + sqid % 2 ^ 16 * 2 ^ 64 + cid % 2 ^ 16 * 2 ^ 80 + sf % 2 ^ 15 * 2 ^ 97
      + lba % 2 ^ 64 * 2 ^ 128 + nsid % 2 ^ 32 * 2 ^ 192
    { x with errCount := x.errCount + 1, errors := (e :: x.errors).take 64 }) s

/-- SMART counts: 0 data units read (in 512-byte units), 1 written, 2 read commands, 3 write commands, 4 media errors. -/
def nvSmart (c k n : Nat) (s : State) : State :=
  updCtrl c (fun x => { x with smart := Map.put x.smart k ((Map.find? x.smart k).getD 0 + n) }) s

/-- The CQE of a command and what it counts. -/
def nvPost (cmd : NvCmd) (dw0 sf dev lba : Nat) (s : State) : State :=
  match s.nvSq cmd.ctrl cmd.sqid with
  | none => s
  | some q =>
    let cid := qCid cmd.sqe
    let s := addI Reg.NVS_CMD_CNT_COUNT cmd.ctrl 1 s
    let s := if dev = St.mediaError then nvSmart cmd.ctrl 4 1 s else s
    let s := if sf % 2 ^ 11 = 0 ∨ sf = Nv.abortRequested ∨ sf = Nv.sqDeleted then s
             else nvLogError cmd.ctrl cmd.sqid cid sf lba (qNsid cmd.sqe) (nvCount cmd.ctrl cmd.sqid cid dev sf s)
    nvCommit cmd.ctrl q.cq (nvEntry dw0 q.head cmd.sqid cid sf) s

/-- R589: a held Asynchronous Event Request completes with the oldest notice. -/
def nvAsync (c : Nat) (s : State) : State :=
  match s.nvCtrl c with
  | some x =>
    match x.aers, x.notices with
    | slot :: rest, (type, info, lid) :: more =>
      match Map.find? s.nvs.cmds slot with
      | some cmd =>
        let s := updCtrl c (fun x => { x with aers := rest, notices := more, masked := if lid = 4 then x.masked else insertNat (type * 256 + lid) x.masked }) s
        nvRetire slot (nvPost cmd (type + info * 256 + lid * 65536) 0 St.ok 0 s)
      | none => updCtrl c (fun x => { x with aers := rest }) s
    | _, _ => s
  | none => s

/-- R589: a notice, unless its type waits for its log page to be read. -/
def nvNotice (c type info lid : Nat) (s : State) : State :=
  match s.nvCtrl c with
  | some x =>
    if x.masked.contains (type * 256 + lid) ∨ x.notices.any (fun n => n.1 == type && n.2.2 == lid) then s
    else nvAsync c (updCtrl c (fun x => { x with notices := x.notices ++ [(type, info, lid)] }) s)
  | none => s

/-- R589: a notice that Asynchronous Event Configuration enables by a bit. -/
def nvNoticeIf (c b type info lid : Nat) (s : State) : State :=
  match s.nvCtrl c with
  | some x => if bit (x.feat 0x0B 0 0) b = 1 then nvNotice c type info lid s else s
  | none => s

/-! ### Namespaces -/

def State.nsDesc (s : State) (ns : Nat) : Nat := ((Map.find? s.nvs.nss ns).map (·.desc)).getD 0

/-- R573: the namespace that an NSID names on a controller. -/
def State.nsOf (s : State) (c nsid : Nat) : Option Nat :=
  (s.nvs.nss.find? fun p => s.flagI Reg.NVS_NS_INFO_ATTACHED p.1 && s.getI Reg.NVS_NS_INFO_CTRL p.1 == c && s.getI Reg.NVS_NS_INFO_NSID p.1 == nsid).map (·.1)

/-- R573: a detached namespace whose commands have gone: the NS_DETACH completes. -/
def nsDetached (ns : Nat) (s : State) : State :=
  match Map.find? s.nvs.nss ns with
  | some n =>
    if n.detaching = true ∧ s.flagI Reg.NVS_NS_INFO_ATTACHED ns = false ∧ s.nvs.cmds.all (fun p => p.2.ns != ns || p.2.sqid == 0) then
      cmdEnd Blk.nvs St.ok (s.updNvs (fun u => { u with nss := Map.put s.nvs.nss ns { n with detaching := false } }))
    else s
  | none => s

/-! ### The end of a command (R580, R584) -/

/-- R591: an operation of a self-test has ended: a failure is recorded with its segment and LBA. -/
def testOpEnd (c : Nat) (failed : Option (Nat × Nat)) (s : State) : State :=
  updCtrl c (fun x => { x with test := x.test.map fun t =>
    { t with step := t.step + 1
             failed := match t.failed, failed with
               | none, some (nsid, lba) => some (t.seg, nsid, lba)
               | f, _ => f } }) s

/-- R706, R711: the admin commands that are journaled when they succeed. -/
def adminJournaled (o : Nat) : Bool := [0, 1, 4, 5, 9, 0x10, 0x11, 0x14].contains o

/-- R711: the record of an admin command. -/
def nvJournal (cmd : NvCmd) (dw0 : Nat) (s : State) : State :=
  let n := s.nvNiche cmd.ctrl
  let e : JEntry := ⟨0, 0, 0x0C00 + qOpcode cmd.sqe, .tenant, 2, 0, n, .host, s.getI Reg.NCH_INFO_AP n, s.getI Reg.NCH_INFO_RID n, 0, 0⟩
  jRecord e [cmd.ctrl + qDw cmd.sqe 0 * 2 ^ 32 + dw0 % 2 ^ 32 * 2 ^ 64 + byteField cmd.sqe 40 55 * 2 ^ 96, byteField cmd.sqe 56 63] s

/-- A command ends: its first data error, where one is recorded, is the status it reports. -/
def nvEnd (slot dw0 sf dev : Nat) (s : State) : State :=
  match Map.find? s.nvs.cmds slot with
  | none => s
  | some cmd =>
    let (sf, dev, lba) := match cmd.err with
      | some (st, lba) => (nvStatus st, st, lba)
      | none => (sf, dev, qSlba cmd.sqe)
    let s := if cmd.sqid = 0 ∧ cmd.test = false ∧ sf = 0 ∧ adminJournaled (qOpcode cmd.sqe) then nvJournal cmd dw0 s else s
    let s := nvRetire slot s
    let s := if cmd.test then testOpEnd cmd.ctrl (if sf = 0 then none else some (qNsid cmd.sqe, lba)) s else nvPost cmd dw0 sf dev lba s
    if cmd.sqid = 0 then s else nsDetached cmd.ns s

/-- R584: the first data error of a command is recorded. -/
def nvRecord (slot st lba : Nat) (s : State) : State :=
  updCmd slot (fun c => { c with err := some (c.err.getD (st, lba)) }) s

/-- A command of the front-end ends with a device status. -/
def nvFail (slot st lba : Nat) (s : State) : State := nvEnd slot 0 0 st (nvRecord slot st lba s)

/-- R598, R599: FW_PENDING follows the pending commits. -/
def fwShow (c : Nat) (s : State) : State :=
  let s := s.setI Reg.NVS_CTRL_INFO_FW_PENDING c (match s.nvCtrl c with
    | some x => if x.commit.isSome then 1 else 0
    | none => 0)
  s.set Reg.NVS_STATUS_FW_PENDING (if s.nvs.ctrls.any fun p => p.2.commit.isSome then 1 else 0)

/-- R587: what a command that ends early leaves behind: NVS_DATA stopped, its messages abandoned, its back end told, its
handle retired. -/
def nvKill (slot : Nat) (s : State) : State :=
  match Map.find? s.nvs.cmds slot with
  | none => s
  | some cmd =>
    let s := nvRetire slot s
    let s := updCtrl cmd.ctrl (fun x => { x with aers := x.aers.filter (· != slot), commit := if x.commit = some slot then none else x.commit }) s
    let s := fwShow cmd.ctrl s
    let run := s.rng.flights.filter fun f => wOpcode f.entry == 0xA0 && f.started && f.done.isNone && byteField f.entry 4 7 == nvHandle slot cmd
    let s := run.foldl (fun s f => finish f.seq St.aborted 0
      ((s.tlt.sends.filter fun x => x.owner == .nvsData f.seq).foldl (fun s x => abandon x s) s)) s
    let s := (s.tlt.sends.filter fun x => x.owner == .nvme slot).foldl (fun s x => abandon x s) s
    let s := s.updHif (fun u => { u with waiting := s.hif.waiting.filter fun w => w.2 != .nvme slot })
    if cmd.stage = 5 then
      let d := s.nsDesc cmd.ns
      let w := 1 * 2 ^ 60 + cmd.ctrl * 2 ^ 48 + cmd.sqid * 2 ^ 32 + nvHandle slot cmd
      (hwPut (nTarget d (cmd.sqid % max 1 (nTargets d))) ⟨1, w, 0xFFF, nNiche d⟩ s).1
    else s

/-! ### Doorbells (R575) -/

/-- R575: an invalid doorbell. -/
def doorbellNotice (c info : Nat) (s : State) : State :=
  nvNotice c 0 info 1 (nvLogError c 0xFFFF 0xFFFF 0 0 0 s)

/-- NVME_SQ_DOORBELL (R575). -/
def execNvmeSqDoorbell (ctrl qid value : Nat) (s : State) : Outcome :=
  .next <|
    if (s.nvCtrl ctrl).isNone ∨ s.getI Reg.NVS_CTRL_INFO_STATE ctrl ≠ 2 then s
    else match s.nvSq ctrl qid with
      | none => doorbellNotice ctrl 0 s
      | some q =>
        if q.size ≤ value then doorbellNotice ctrl 1 s
        else (updSq ctrl qid (fun q => { q with tail := value }) s).defer (.nvmeTail ctrl qid value)

/-- R575: from the boundary the queue is fetchable up to the doorbell's value. -/
def applyNvmeTail (c q tail : Nat) (s : State) : State := updSq c q (fun q => { q with seen := if tail < q.size then tail else q.seen }) s

/-- NVME_CQ_DOORBELL (R575). -/
def execNvmeCqDoorbell (ctrl qid value : Nat) (s : State) : Outcome :=
  .next <|
    if (s.nvCtrl ctrl).isNone ∨ (s.getI Reg.NVS_CTRL_INFO_STATE ctrl ≠ 2 ∧ s.getI Reg.NVS_CTRL_INFO_STATE ctrl ≠ 4) then s
    else match s.nvCq ctrl qid with
      | none => doorbellNotice ctrl 0 s
      | some q =>
        let used := (q.tail + q.size - q.head) % q.size
        if q.size ≤ value ∨ used < (value + q.size - q.head) % q.size then doorbellNotice ctrl 1 s
        else nvDrain 64 ctrl qid (updCq ctrl qid (fun q => { q with head := value }) s)

/-- INTERRUPT_COALESCE_EXPIRY (R577). -/
def execInterruptCoalesceExpiry (ctrl cq : Nat) (s : State) : Outcome :=
  .next <|
    match s.nvCtrl ctrl, s.nvCq ctrl cq with
    | some x, some q =>
      let t := x.feat 8 0 0 / 256 % 256 * 100000
      if 0 < q.owed ∧ q.since + (t + s.period - 1) / s.period ≤ s.stk.boundary then nvIrq ctrl cq s else s
    | _, _ => s

/-! ### Arbitration and fetch (R578) -/

/-- R578: entries of a queue that may be fetched. -/
def NvSq.waiting (q : NvSq) : Nat := (q.seen + q.size - q.head) % q.size

/-- R578, R227, R177, R751: whether a queue is fetchable: its controller's niche takes work. -/
def State.fetchable (s : State) (c q : Nat) : Bool :=
  match s.nvSq c q with
  | some x => s.getI Reg.NVS_CTRL_INFO_STATE c == 2 && (match s.nvCtrl c with
      | some y => s.nicheTakes y.niche
      | none => false) && x.reading == 0 && decide (0 < x.waiting) && s.nvSlot.isSome
      && (match s.nvCq c x.cq with
        | some cq => decide (0 < cq.places)
        | none => false)
  | none => false

/-- The fetchable I/O queues of a class: the first after the last one granted, round robin. -/
def nextOfClass (s : State) (c : Nat) (x : NvCtrl) (prio : Nat) : Option Nat :=
  let l := (x.sqs.filter fun p => p.1 != 0 && p.2.prio == prio && s.fetchable c p.1).map (·.1)
  let t := (Map.find? x.turn prio).getD 0
  match l.find? fun q => decide (t < q) with
  | some q => some q
  | none => l.head?

/-- R578: the weight of a class: high, medium or low. -/
def nvWeight (x : NvCtrl) (prio : Nat) : Nat := byteField (x.feat 1 0 0) (4 - prio) (4 - prio) + 1

/-- R578: the queue of a controller that is granted, and the credits after. -/
def arbitrate (s : State) (c : Nat) (x : NvCtrl) : Option Nat × Map Nat :=
  if s.fetchable c 0 then (some 0, x.credit)
  else match nextOfClass s c x 0 with
    | some q => (some q, x.credit)
    | none =>
      let has := [1, 2, 3].filter fun p => (nextOfClass s c x p).isSome
      let left (m : Map Nat) (p : Nat) : Nat := (Map.find? m p).getD 0
      let m := if has.any fun p => decide (0 < left x.credit p) then x.credit else [1, 2, 3].map fun p => (p, nvWeight x p)
      match has.find? fun p => decide (0 < left m p) with
      | some p => (nextOfClass s c x p, Map.put m p (left m p - 1))
      | none => (none, x.credit)

/-- R578: the next controller with a fetchable queue after the last one granted. -/
def nextCtrl (s : State) : Option (Nat × NvCtrl) :=
  let l := s.nvs.ctrls.filter fun p => p.2.sqs.any fun q => s.fetchable p.1 q.1
  match l.find? fun p => decide (s.nvs.turn < p.1) with
  | some p => some p
  | none => l.head?

/-- R166: the host read of a queue's entries. -/
def fetchId (c q : Nat) : Nat := 2 ^ 20 + c * 2048 + q

/-- R578: grants while the budget lasts. -/
def fetchLoop (fuel left : Nat) (s : State) : State :=
  match fuel with
  | 0 => s
  | fuel + 1 =>
    if left = 0 then s
    else match nextCtrl s with
      | none => s
      | some (c, x) =>
        match arbitrate s c x with
        | (some q, m) =>
          match s.nvSq c q with
          | none => s
          | some sq =>
            let places := ((s.nvCq c sq.cq).map (·.places)).getD 0
            let n := min (min (2 ^ (x.feat 1 0 0 % 8)) sq.waiting) (min (min places left) 8)
            let s := s.updNvs (fun u => { u with turn := c })
            let s := updCtrl c (fun x => { x with credit := m, turn := Map.put x.turn sq.prio (if q = 0 then (Map.find? x.turn sq.prio).getD 0 else q) }) s
            let s := updCq c sq.cq (fun y => { y with reserved := y.reserved + n }) s
            let s := updSq c q (fun y => { y with reading := n, head := (y.head + n) % y.size }) s
            fetchLoop fuel (left - n) (needRead x.niche (.nvme (fetchId c q)) s)
        | (none, _) => s

/-- NVME_FETCH (R578). -/
def execNvmeFetch (s : State) : Outcome :=
  .next <|
    if s.running = false ∨ s.nvs.fetchedAt = s.stk.boundary then s
    else
      let budget := s.admitted 3
      fetchLoop budget budget (s.updNvs (fun u => { u with fetchedAt := s.stk.boundary }))

/-- R166: the host has answered a fetch, or a command's read. -/
def nvmeHostData (id : Nat) (data : List Byte) (s : State) : State :=
  if 2 ^ 20 ≤ id then
    updSq (id / 2048 % 512) (id % 2048) (fun q =>
      { q with entries := q.entries ++ (List.range q.reading).map fun k => ofBytes (fit 64 ((data.drop (64 * k)).take 64)), reading := 0 }) s
  else updCmd id (fun c => { c with data := data, stage := if c.stage = 1 then 2 else c.stage }) s

/-- R586: a host read has failed: a fetch is made again, a command ends with the status. -/
def nvmeHostFail (id st : Nat) (s : State) : State :=
  if 2 ^ 20 ≤ id then
    let c := id / 2048 % 512
    let q := id % 2048
    match s.nvSq c q with
    | some x => updCq c x.cq (fun y => { y with reserved := y.reserved - x.reading })
        (updSq c q (fun y => { y with head := (y.head + y.size - y.reading) % y.size, reading := 0 }) s)
    | none => s
  else nvFail id st 0 s

/-! ### Forwarding (R579, R581, R582) -/

/-- The bytes of a command's data buffer. -/
def nvBuffer (ext : Bool) (d e : Nat) : Nat :=
  match qOpcode e with
  | 9 => 16 * (qDw e 10 % 256 + 1)
  | 1 => hostData ext d e (qNlb e)
  | 2 => hostData ext d e (qNlb e)
  | 5 => hostData ext d e (qNlb e)
  | _ => 0

/-- R582: the message that carries a command to its back end. -/
def nvMessage (kind slot : Nat) (c : NvCmd) (d : Nat) : Msg :=
  let e := c.sqe
  ⟨6, kind * 2 ^ 60 + c.ctrl * 2 ^ 48 + c.sqid * 2 ^ 32 + nvHandle slot c + (qDw e 0 + qNsid e * 2 ^ 32) * 2 ^ 64
    + byteField e 8 15 * 2 ^ 128 + byteField e 40 63 * 2 ^ 192, 0xFFF, nNiche d⟩

/-- R581: the I/O opcodes. -/
def ioOpcode (o : Nat) : Bool := [0, 1, 2, 5, 8, 9, 0x0C].contains o

/-- R572, R581, R586: what refuses an I/O command. -/
def ioRefusal (s : State) (c e : Nat) : Option Nat :=
  let o := qOpcode e
  if ioOpcode o = false then some Nv.opcode
  else if bits e 9 8 ≠ 0 then some Nv.field
  else match s.nsOf c (qNsid e) with
    | none => some Nv.namespace_
    | some ns =>
      let d := s.nsDesc ns
      if o ≠ 0 ∧ o ≠ 9 ∧ nSize d < qSlba e + qNlb e then some Nv.lbaRange
      else if 2097152 < nvBuffer (Config.extendedLba ns) d e then some Nv.field
      else none

/-- R581: whether an I/O command of a LOCAL or POOL namespace needs bytes of the host before it is served. -/
def ioReads (x : NvCtrl) (ext : Bool) (d e : Nat) : Bool :=
  match qOpcode e with
  | 1 => true
  | 5 => true
  | 9 => true
  | 2 => needsLists x.page e (nvBuffer ext d e)
  | _ => false

/-- R590: the bytes of the part that a Firmware Image Download brings. -/
def fwBytes (e : Nat) : Nat := (qDw e 10 + 1) * 4

/-- The bytes an admin command returns to its host buffer. -/
def adminOut (e : Nat) : Nat :=
  match qOpcode e with
  | 6 => 4096
  | 2 => (qDw e 10 / 65536 + qDw e 11 % 65536 * 65536 + 1) * 4
  | _ => 0

/-- R589: the admin opcodes. -/
def adminOpcode (o : Nat) : Bool := [0, 1, 2, 4, 5, 6, 8, 9, 0x0A, 0x0C, 0x10, 0x11, 0x14].contains o

/-- R589: whether an admin command needs bytes of the host before it is served. -/
def adminReads (x : NvCtrl) (e : Nat) : Bool :=
  if qOpcode e = 0x11 then true else decide (0 < adminOut e) && needsLists x.page e (adminOut e)

/-- R587, R589: the limits on outstanding Abort and Asynchronous Event Request commands. -/
def adminRefusal (s : State) (c e : Nat) : Option Nat :=
  let o := qOpcode e
  let n := (s.nvs.cmds.filter fun p => p.2.ctrl == c && p.2.sqid == 0 && qOpcode p.2.sqe == o).length
  if adminOpcode o = false then some Nv.opcode
  else if bits e 9 8 ≠ 0 then some Nv.field
  else if o = 8 ∧ 4 ≤ n then some Nv.abortLimit
  else if o = 0x0C ∧ 4 ≤ n then some Nv.aerLimit
  else none

/-- R582: the channel of an I/O command's back end, when it has one. -/
def State.targetOf (s : State) (c q e : Nat) : Option Nat :=
  if q = 0 ∨ (ioRefusal s c e).isSome then none
  else match s.nsOf c (qNsid e) with
    | some ns => if nBackend (s.nsDesc ns) < 2 then none else some (nTarget (s.nsDesc ns) (q % max 1 (nTargets (s.nsDesc ns))))
    | none => none

/-- R579, R580, R581: a fetched entry takes a slot, and is refused, prepared or forwarded. -/
def nvAdmit (slot c q e : Nat) (x : NvCtrl) (s : State) : State :=
  let ns := if q = 0 then 0 else (s.nsOf c (qNsid e)).getD 0
  let d := s.nsDesc ns
  let s := nvTake slot { gen := 0, ctrl := c, sqid := q, sqe := e, ns := ns, data := [], stage := 2, err := none, todo := [], test := false, born := 0 } s
  match if q = 0 then adminRefusal s c e else ioRefusal s c e with
  | some sf => nvEnd slot 0 sf St.ok s
  | none =>
    match s.targetOf c q e, Map.find? s.nvs.cmds slot with
    | some k, some cmd => (hwPut k (nvMessage 0 slot cmd d) (updCmd slot (fun c => { c with stage := 5 }) s)).1
    | _, _ =>
      if (if q = 0 then adminReads x e else ioReads x (Config.extendedLba ns) d e) then
        needRead x.niche (.nvme slot) (updCmd slot (fun c => { c with stage := 1 }) s)
      else s

/-- Whether an entry may go on now: its target has room. -/
def mayForward (s : State) (c q e : Nat) : Bool :=
  match s.targetOf c q e with
  | some k => decide (0 < s.chanFree k)
  | none => true

/-- NVME_COMMAND_FORWARD (R579, R581, R582): the first fetched entry of a queue that no full target holds back. -/
def execNvmeCommandForward (ctrl sqid : Nat) (s : State) : Outcome :=
  .next <|
    match s.nvCtrl ctrl, s.nvSq ctrl sqid, s.nvSlot with
    | some x, some q, some slot =>
      match q.entries.findIdx? (mayForward s ctrl sqid) with
      | some k =>
        let e := q.entries.getD k 0
        nvAdmit slot ctrl sqid e x (updSq ctrl sqid (fun q => { q with entries := q.entries.eraseIdx k }) s)
      | none => s
    | _, _, _ => s

/-! ### LOCAL and POOL namespaces (R572, R581) -/

/-- R304, R649: where bytes of a namespace stand: in device memory, or at another device. -/
def nsPlace (s : State) (d off len right : Nat) : Except Nat (Option Nat) :=
  if nBackend d = 0 then .ok (some ((s.stackedQuota (nNiche d)).1 + nBase d + off))
  else
    let a := nBase d + off
    let st := poolStatus s (nNiche d) (nKey d) a len right St.dmaWindow
    if st ≠ St.ok then .error st
    else if s.poolHere 3 a then
      match localPool s (nKey d) (fabOff a) len right with
      | .error e => .error e
      | .ok _ => .ok (some (s.fab.pool.1 + fabOff a))
    else .ok none

/-- R304: a message for a namespace at another device. -/
def nsSend (op : Nat) (owner : Owner) (d off len : Nat) (data : List Byte) (right : Nat) (s : State) : Option State :=
  match s.importFor (nNiche d) (nKey d) (nBase d + off) len right with
  | some i => some (newSend { poolSend op owner i (nBase d + off) len s with data := data } s)
  | none => none

/-- R581, R585: the bytes of a command's blocks have come: what Read, Compare and Verify do with them. -/
def nvGot (slot : Nat) (loc : List Byte) (s : State) : State :=
  match Map.find? s.nvs.cmds slot with
  | none => s
  | some cmd =>
    match s.nvCtrl cmd.ctrl with
    | none => s
    | some x =>
      let e := cmd.sqe
      let d := s.nsDesc cmd.ns
      let ext := Config.extendedLba cmd.ns
      match blocksOut ext d e 0 (qNlb e) loc with
      | .error (st, i) => nvFail slot st (qSlba e + i) s
      | .ok (data, side) =>
        match qOpcode e with
        | 2 =>
          match hostSpans x.page e data.length cmd.data with
          | .error sf => nvEnd slot 0 sf St.nvsSgl s
          | .ok (l, _) =>
            let s := hostPut x.niche (qMptr e) side (putSpans x.niche l data s)
            nvEnd slot 0 0 St.ok (nvSmart cmd.ctrl 2 1 (nvSmart cmd.ctrl 0 (qNlb e * nBlock d / 512) s))
        | 5 =>
          match hostSpans x.page e data.length cmd.data with
          | .error sf => nvEnd slot 0 sf St.nvsSgl s
          | .ok (_, n) =>
            let s := nvSmart cmd.ctrl 2 1 s
            if fit (data.length + side.length) (cmd.data.drop n) = data ++ side then nvEnd slot 0 0 St.ok s else nvEnd slot 0 Nv.compare St.ok s
        | _ => nvEnd slot 0 0 St.ok s

/-- R581: the next write of a command, to another device or here; with none left the command completes. -/
def nvWrites (fuel slot d : Nat) (s : State) : State :=
  match fuel, Map.find? s.nvs.cmds slot with
  | fuel + 1, some cmd =>
    match cmd.todo with
    | [] =>
      let s := if qOpcode cmd.sqe = 1 then
          nvSmart cmd.ctrl 3 1 (nvSmart cmd.ctrl 1 (qNlb cmd.sqe * nBlock d / 512) s) else s
      nvEnd slot 0 0 St.ok s
    | (off, data) :: t =>
      match nsPlace s d off data.length rightWrite with
      | .error st => nvFail slot st (off / nStep d) s
      | .ok (some a) => nvWrites fuel slot d (memWriteList (updCmd slot (fun c => { c with todo := t }) s) a data)
      | .ok none =>
        match nsSend 1 (.nvme slot) d off data.length data rightWrite (updCmd slot (fun c => { c with todo := t, stage := 3 }) s) with
        | some s => s
        | none => nvFail slot St.dmaWindow (off / nStep d) s
  | _, _ => s

/-- A command with bytes to write. -/
def nvStore (slot d : Nat) (l : List (Nat × List Byte)) (s : State) : State :=
  nvWrites (l.length + 1) slot d (updCmd slot (fun c => { c with todo := l }) s)

/-- A command with blocks to read; `bad` says that their memory is uncorrectable. -/
def nvLoad (slot d slba n : Nat) (bad : Bool) (s : State) : State :=
  match nsPlace s d (slba * nStep d) (n * nStep d) rightRead with
  | .error st => nvFail slot st slba s
  | .ok (some a) => if bad then nvFail slot St.mediaError slba s else nvGot slot (memReadList s a (n * nStep d)) s
  | .ok none =>
    match nsSend 4 (.nvme slot) d (slba * nStep d) (n * nStep d) [] rightRead (updCmd slot (fun c => { c with stage := 3 }) s) with
    | some s => s
    | none => nvFail slot St.dmaWindow slba s

/-- R304: a message of a command has ended at its peer. -/
def nvmeMessage (slot st : Nat) (data : List Byte) (s : State) : State :=
  match Map.find? s.nvs.cmds slot with
  | some cmd =>
    let o := qOpcode cmd.sqe
    if st ≠ St.ok then nvFail slot st (qSlba cmd.sqe) s
    else if o = 2 ∨ o = 5 ∨ o = 0x0C then nvGot slot data s
    else nvWrites (cmd.todo.length + 1) slot (s.nsDesc cmd.ns) s
  | none => s

/-- An I/O command of a LOCAL or POOL namespace that is ready to be served. -/
def nvOn (h opcode : Nat) (act : Nat → NvCmd → Nat → State → State) (s : State) : Outcome :=
  .next <|
    match s.nvCmd h with
    | some (slot, cmd) =>
      if s.running = true ∧ cmd.sqid ≠ 0 ∧ qOpcode cmd.sqe = opcode ∧ cmd.stage = 2 ∧ nBackend (s.nsDesc cmd.ns) < 2 then
        act slot cmd (s.nsDesc cmd.ns) s
      else s
    | none => s

/-- NVME_READ (R581, R585). -/
def execNvmeRead (h : Nat) (bad : Bool) (s : State) : Outcome :=
  nvOn h 2 (fun slot c d s => nvLoad slot d (qSlba c.sqe) (qNlb c.sqe) bad s) s

/-- COMPARE (R581). -/
def execCompare (h : Nat) (bad : Bool) (s : State) : Outcome :=
  nvOn h 5 (fun slot c d s => nvLoad slot d (qSlba c.sqe) (qNlb c.sqe) bad s) s

/-- VERIFY (R581). -/
def execVerify (h : Nat) (bad : Bool) (s : State) : Outcome :=
  nvOn h 0x0C (fun slot c d s => nvLoad slot d (qSlba c.sqe) (qNlb c.sqe) bad s) s

/-- NVME_WRITE (R581, R585). -/
def execNvmeWrite (h : Nat) (s : State) : Outcome :=
  nvOn h 1 (fun slot c d s =>
    match s.nvCtrl c.ctrl with
    | none => s
    | some x =>
      let e := c.sqe
      let n := qNlb e
      let ext := Config.extendedLba c.ns
      match hostSpans x.page e (hostData ext d e n) c.data with
      | .error sf => nvEnd slot 0 sf St.nvsSgl s
      | .ok (_, k) =>
        let data := (c.data.drop k).take (hostData ext d e n)
        match blocksIn ext d e 0 n data (c.data.drop (k + hostData ext d e n)) with
        | .error (st, i) => nvFail slot st (qSlba e + i) s
        | .ok l => nvStore slot d [(qSlba e * nStep d, l)] s) s

/-- WRITE_ZEROES (R581). -/
def execWriteZeroes (h : Nat) (s : State) : Outcome :=
  nvOn h 8 (fun slot c d s => nvStore slot d [(qSlba c.sqe * nStep d, zeroBlocks d (qNlb c.sqe))] s) s

/-- R581: the ranges of a Dataset Management: first block and length. -/
def dsmRanges (n : Nat) (l : List Byte) : List (Nat × Nat) :=
  (numbers16 n l).map fun r => (byteField r 8 15, byteField r 4 7)

/-- DATASET_MANAGEMENT (R581): deallocate; its other attributes have no effect. -/
def execDatasetManagement (h : Nat) (s : State) : Outcome :=
  nvOn h 9 (fun slot c d s =>
    match s.nvCtrl c.ctrl with
    | none => s
    | some x =>
      let n := qDw c.sqe 10 % 256 + 1
      match hostSpans x.page c.sqe (16 * n) c.data with
      | .error sf => nvEnd slot 0 sf St.nvsSgl s
      | .ok (_, k) =>
        let l := dsmRanges n (c.data.drop k)
        if l.any fun r => decide (nSize d < r.1 + r.2) then nvEnd slot 0 Nv.lbaRange St.ok s
        else if bit (qDw c.sqe 11) 2 = 0 then nvEnd slot 0 0 St.ok s
        else nvStore slot d (l.map fun r => (r.1 * nStep d, zeroBlocks d r.2)) s) s

/-- NVME_FLUSH (R581): a write completes only when its data is written, so nothing is left to wait for. -/
def execNvmeFlush (h : Nat) (s : State) : Outcome := nvOn h 0 (fun slot _ _ s => nvEnd slot 0 0 St.ok s) s

/-! ### The work entries of back ends (R583, R584) -/

def vDir (e : Nat) : Nat := bit (byteField e 8 8) 0
def vRaw (e : Nat) : Bool := bit (byteField e 8 8) 1 == 1
def vSpace (e : Nat) : Nat := byteField e 9 9
def vKey (e : Nat) : Nat := byteField e 12 15
def vAddr (e : Nat) : Nat := byteField e 16 23
def vFirst (e : Nat) : Nat := byteField e 24 27
def vCount (e : Nat) : Nat := byteField e 28 31

/-- The command of a back end that an entry names by its handle. -/
def State.nvOf (s : State) (f : Flight) : Option (Nat × NvCmd) :=
  match s.nvCmd (byteField f.entry 4 7) with
  | some (slot, c) => if c.stage = 5 ∧ nNiche (s.nsDesc c.ns) = f.niche then some (slot, c) else none
  | none => none

/-- The bytes that an NVS_DATA moves on its local side, in the data buffer, and at MPTR; where they start in the buffer. -/
def vLocal (d w : Nat) : Nat := if vRaw w then vCount w else vCount w * nStep d
def vHost (ext : Bool) (d e w : Nat) : Nat := if vRaw w then vCount w else hostData ext d e (vCount w)
def vStart (ext : Bool) (d e w : Nat) : Nat := if vRaw w then vFirst w else hostData ext d e (vFirst w)

/-- R583: what refuses an NVS_DATA. -/
def nvsRefusal (s : State) (f : Flight) (c : NvCmd) : Option Nat :=
  let w := f.entry
  let d := s.nsDesc c.ns
  let ext := Config.extendedLba c.ns
  let len := vLocal d w
  let lim := if vRaw w then nvBuffer ext d c.sqe else if qOpcode c.sqe = 1 ∨ qOpcode c.sqe = 2 ∨ qOpcode c.sqe = 5 then qNlb c.sqe else 0
  if vSpace w = 0 ∨ spaceAllowed f (vSpace w) = false then some St.dmaSpace
  else if lim < vFirst w + vCount w then some St.nvsRange
  else if spaceBounds s f (vSpace w) (vAddr w) 0 ((len : Int) - 1) = false then some St.dmaBounds
  else if vSpace w = 3 then
    let right := if vDir w = 0 then rightWrite else rightRead
    let st := poolStatus s f.niche (vKey w) (vAddr w) len right St.dmaWindow
    if st = St.ok then none else some st
  else none

/-- NVS_DATA ends; a data error is recorded in the command's slot. -/
def nvsEnd (seq slot st lba : Nat) (data : Bool) (s : State) : State :=
  finish seq st 0 (if data then nvRecord slot st lba s else s)

/-- R583, R585: local bytes go to the host. -/
def nvsOut (f : Flight) (slot : Nat) (c : NvCmd) (x : NvCtrl) (loc : List Byte) (s : State) : State :=
  let w := f.entry
  let e := c.sqe
  let d := s.nsDesc c.ns
  let ext := Config.extendedLba c.ns
  match hostSpans x.page e (nvBuffer ext d e) f.data with
  | .error _ => nvsEnd f.seq slot St.nvsSgl (qSlba e) true s
  | .ok (l, _) =>
    if vRaw w then nvsEnd f.seq slot St.ok 0 false (putSpans x.niche (dropSpans (vFirst w) l) loc s)
    else match blocksOut ext d e (vFirst w) (vCount w) loc with
      | .error (st, i) => nvsEnd f.seq slot st (qSlba e + i) true s
      | .ok (data, side) =>
        let s := putSpans x.niche (dropSpans (vStart ext d e w) l) data s
        nvsEnd f.seq slot St.ok 0 false (hostPut x.niche (qMptr e + hostSide ext d e (vFirst w)) side s)

/-- R583: bytes at a POOL or own local side. -/
def vPlace (s : State) (f : Flight) (len right : Nat) : Except Nat (Option Nat) :=
  let w := f.entry
  if vSpace w ≠ 3 then .ok (some (deviceAddr s f (vSpace w) (vAddr w)))
  else if s.poolHere 3 (vAddr w) then
    match localPool s (vKey w) (fabOff (vAddr w)) len right with
    | .error st => .error st
    | .ok _ => .ok (some (s.fab.pool.1 + fabOff (vAddr w)))
  else .ok none

/-- A message of an NVS_DATA to another device. -/
def vSend (op right len : Nat) (f : Flight) (data : List Byte) (s : State) : Option State :=
  match s.importFor f.niche (vKey f.entry) (vAddr f.entry) len right with
  | some i => some (newSend { poolSend op (.nvsData f.seq) i (vAddr f.entry) len s with data := data } s)
  | none => none

/-- R583, R585: host bytes go to the local side. -/
def nvsIn (f : Flight) (slot : Nat) (c : NvCmd) (x : NvCtrl) (s : State) : State :=
  let w := f.entry
  let e := c.sqe
  let d := s.nsDesc c.ns
  let ext := Config.extendedLba c.ns
  match hostSpans x.page e (nvBuffer ext d e) f.data with
  | .error _ => nvsEnd f.seq slot St.nvsSgl (qSlba e) true s
  | .ok (_, k) =>
    let data := fit (vHost ext d e w) (f.data.drop k)
    match if vRaw w then Except.ok data else blocksIn ext d e (vFirst w) (vCount w) data (f.data.drop (k + vHost ext d e w)) with
    | .error (st, i) => nvsEnd f.seq slot st (qSlba e + i) true s
    | .ok l =>
      match vPlace s f l.length rightWrite with
      | .error st => nvsEnd f.seq slot st (qSlba e) true s
      | .ok (some a) => nvsEnd f.seq slot St.ok 0 false (memWriteList s a l)
      | .ok none => (vSend 1 rightWrite l.length f l s).getD (nvsEnd f.seq slot St.dmaWindow (qSlba e) true s)

/-- NVS_DATA goes on once what it needs of the host is there. -/
def nvsRun (f : Flight) (slot : Nat) (c : NvCmd) (s : State) : State :=
  match s.nvCtrl c.ctrl with
  | none => finish f.seq St.nvsHandle 0 s
  | some x =>
    let len := vLocal (s.nsDesc c.ns) f.entry
    if vDir f.entry = 0 then nvsIn f slot c x s
    else match vPlace s f len rightRead with
      | .error st => nvsEnd f.seq slot st (qSlba c.sqe) true s
      | .ok (some a) => nvsOut f slot c x (memReadList s a len) s
      | .ok none => (vSend 4 rightRead len f [] s).getD (nvsEnd f.seq slot St.dmaWindow (qSlba c.sqe) true s)

/-- NVS_DATA (R583, R584). -/
def execNvsData (w : Work) (s : State) : Outcome :=
  startWork w 0xA0 (fun f s =>
    match s.nvOf f with
    | none => finish f.seq St.nvsHandle 0 s
    | some (slot, c) =>
      match nvsRefusal s f c, s.nvCtrl c.ctrl with
      | some st, _ => finish f.seq st 0 s
      | none, some x =>
        if vDir f.entry = 0 ∨ needsLists x.page c.sqe (nvBuffer (Config.extendedLba c.ns) (s.nsDesc c.ns) c.sqe) then
          needRead f.niche (.work f.seq) s
        else nvsRun f slot c s
      | none, none => finish f.seq St.nvsHandle 0 s) s

/-- R166: the host has answered for an NVS_DATA. -/
def nvsHostData (seq : Nat) (data : List Byte) (s : State) : State :=
  match s.flight seq with
  | some f =>
    match s.nvOf f with
    | some (slot, c) => nvsRun { f with data := data } slot c (updFlight seq (fun f => { f with data := data }) s)
    | none => finish seq St.nvsHandle 0 s
  | none => s

/-- R584: a host read of an NVS_DATA has failed. -/
def nvsHostFail (seq st : Nat) (s : State) : State :=
  match s.flight seq with
  | some f =>
    match s.nvOf f with
    | some (slot, c) => nvsEnd seq slot st (qSlba c.sqe) true s
    | none => finish seq St.nvsHandle 0 s
  | none => s

/-- R304: a message of an NVS_DATA has ended at its peer. -/
def nvsMessage (seq st : Nat) (data : List Byte) (s : State) : State :=
  match s.flight seq with
  | some f =>
    match s.nvOf f with
    | some (slot, c) =>
      match s.nvCtrl c.ctrl with
      | some x =>
        if st ≠ St.ok then nvsEnd seq slot st (qSlba c.sqe) true s
        else if vDir f.entry = 0 then finish seq St.ok 0 s
        else nvsOut f slot c x data s
      | none => finish seq St.nvsHandle 0 s
    | none => finish seq St.nvsHandle 0 s
  | none => s

/-- R268: an abort of an NVS_DATA. -/
def nvsAbort (seq st : Nat) (s : State) : State :=
  finish seq st 0 ((s.tlt.sends.filter fun x => x.owner == .nvsData seq).foldl (fun s x => abandon x s) s)

/-- NVS_COMPLETE (R583, R584, R587). -/
def execNvsComplete (w : Work) (s : State) : Outcome :=
  startWork w 0xA1 (fun f s =>
    match s.nvOf f with
    | none => finish f.seq St.nvsHandle 0 s
    | some (slot, c) =>
      let sf := byteField f.entry 8 9
      let o := qOpcode c.sqe
      let s := if c.test ∨ (o ≠ 1 ∧ o ≠ 2 ∧ o ≠ 5) then s
        else if o = 1 then nvSmart c.ctrl 3 1 (nvSmart c.ctrl 1 (qNlb c.sqe * nBlock (s.nsDesc c.ns) / 512) s)
        else nvSmart c.ctrl 2 1 (nvSmart c.ctrl 0 (qNlb c.sqe * nBlock (s.nsDesc c.ns) / 512) s)
      finish f.seq St.ok 0 (nvEnd slot (byteField f.entry 12 15) (sf % 2 ^ 11 + bit sf 14 * 2 ^ 14) St.ok s)) s

end Sys2Proof.Machine
end

