-- ==== Sys2Proof/Machine/Turelm.lean ====
section
/-!
DEFINITION. Turelm (R512 to R567): the meanings of its work entries, of the packets it receives, of its timers, and of
what reaches it at a boundary.
-/
namespace Sys2Proof.Machine

/-! ### The end of a message (R532, R533) -/

/-- R532, R535: a message is settled; its owner learns how it ended. -/
def endSend (x : Send) (st result : Nat) (data : List Byte) (s : State) : State :=
  let s := dropSend x.peer x.msg s
  let s := if st ≠ St.ok ∧ x.dstEp ≠ poolEp ∧ x.op ≠ 8 then epFailed x.srcEp x.peer s else s
  match x.owner with
  | .work q => workEnd x q st result s
  | .dma q => dmaMessage q st data s
  | .aperture id => aptEnd id st data s
  | .nvme slot => nvmeMessage slot st data s
  | .nvsData q => nvsMessage q st data s
  | .reg => regEnd st data s
  | .none => s

/-- R533: a message fails and is abandoned at its receiver. -/
def failSend (x : Send) (st : Nat) (s : State) : State :=
  let s := endSend x st 0 [] s
  let y := { x with owner := .none }
  abandon y (peerCount x.peer (s.updTlt (fun u => { u with sends := s.tlt.sends ++ [y] })))

/-- Messages that a predicate picks end with a status, without an ABANDON. -/
def endSends (p : Send → Bool) (st : Nat) (s : State) : State := (s.tlt.sends.filter p).foldl (fun s x => endSend x st 0 [] s) s

/-- R165, R225: taken work of an endpoint that cannot go on ends with a status. -/
def failEpWork (ep st : Nat) (s : State) : State :=
  let l := s.rng.flights.filter fun f => !f.started && f.done.isNone && decide (0x10 ≤ wOpcode f.entry) && decide (wOpcode f.entry ≤ 0x16)
    && eEp f.entry == ep && (match Map.find? s.tlt.eps ep with
      | some e => e.niche == f.niche
      | none => false)
  l.foldl (fun s f => finish f.seq st 0 s) s

/-! ### Work entries (R516 to R520) -/

/-- A Turelm work entry: `act` takes it when it can start, and else leaves it waiting. -/
def tlWork (w : Work) (opcode : Nat) (act : Flight → State → State) (s : State) : Outcome :=
  .next <| match s.workFlight w opcode with
    | some f => act f s
    | none => s

/-- A taken entry has started. -/
def begin_ (f : Flight) (s : State) : State := updFlight f.seq (fun f => { f with started := true }) s

/-- R544, R520: an entry of an endpoint of the niche; it waits for the recall of an evicted context. -/
def withEp (f : Flight) (act : Endpoint → State → State) (s : State) : State :=
  match s.ownEp f.niche (eEp f.entry) with
  | none => finish f.seq St.notFound 0 (begin_ f s)
  | some e =>
    if e.lost then finish f.seq St.tlNoEndpoint 0 (begin_ f s)
    else if e.onDie = false then recallStart (eEp f.entry) s
    else act e (touchEp (eEp f.entry) s)

/-- R471: the scheduler queue of an endpoint. -/
def epQueue (s : State) (e : Endpoint) : Option Nat := Map.find? s.sch.local_ (localKey e.niche e.queue)

/-- A send record for a work entry. -/
def workSend (f : Flight) (e : Endpoint) (op : Nat) (s : State) : Send :=
  { Send.blank with peer := eDev f.entry, op := op, owner := .work f.seq, ring := f.ring, port := f.port, tag := wTag f.entry, niche := f.niche
                    srcEp := eEp f.entry, dstEp := eDstEp f.entry, queue := epQueue s e, key := eRemoteKey f.entry, off := eRemoteOff f.entry
                    ordered := bit (wFlags f.entry) 2 == 1 }

/-- R520: the status of TL_WRITE, TL_WRITE_IMM, TL_SEND or TL_READ at intake, and its local window. -/
def dataCheck (s : State) (f : Flight) (e : Endpoint) (op : Nat) : Except Nat Window :=
  match localCheck s f.niche e.pd (eLocalKey f.entry) (if op = 4 then 4 else 3) (eLocalOff f.entry) (eLen f.entry) with
  | .error st => .error st
  | .ok w =>
    if peerStatus s (eDev f.entry) ≠ St.ok then .error (peerStatus s (eDev f.entry))
    else if eLen f.entry = 0 ∧ (op = 1 ∨ op = 4) then .error St.invalid
    else .ok w

/-- R517, R523, R532: a data message or a READ starts, or waits for its peer. -/
def dataWork (op : Nat) (f : Flight) (s : State) : State :=
  withEp f (fun e s =>
    match dataCheck s f e op with
    | .error st => finish f.seq st 0 (begin_ f s)
    | .ok w =>
      if s.sendRoom (eDev f.entry) = false then s
      else
        let s := begin_ f s
        let host := op != 4 && w.space == 0 && decide (0 < eLen f.entry)
        let x := { workSend f e op s with
          len := eLen f.entry, lkey := eLocalKey f.entry, loff := eLocalOff f.entry, imm := eImm f.entry, ready := !host
          acked := bit (wFlags f.entry) 1 == 1 || op == 4
          data := if op = 4 ∨ host then [] else memReadList s (winAddr s w (eLocalOff f.entry)) (eLen f.entry) }
        let s := newSend x s
        if host then needRead f.niche (.work f.seq) s else s) s

/-- TL_WRITE (R517). -/
def execTlWrite (w : Work) (s : State) : Outcome := tlWork w 0x10 (dataWork 1) s

/-- TL_WRITE_IMM (R517). -/
def execTlWriteImm (w : Work) (s : State) : Outcome := tlWork w 0x11 (dataWork 2) s

/-- TL_SEND (R517). -/
def execTlSend (w : Work) (s : State) : Outcome := tlWork w 0x12 (dataWork 3) s

/-- TL_READ (R517). -/
def execTlRead (w : Work) (s : State) : Outcome := tlWork w 0x13 (dataWork 4) s

/-- R166: the host has returned the payload of a message. -/
def turelmHostData (seq : Nat) (data : List Byte) (s : State) : State :=
  match s.tlt.sends.find? fun x => x.owner == .work seq && !x.ready with
  | some x => pump x.peer x.msg (updSend x.peer x.msg (fun x => { x with data := data, ready := true }) s)
  | none => s

/-- R166, R313: the host read of a message's payload has failed. -/
def turelmHostFail (seq st : Nat) (s : State) : State :=
  match s.tlt.sends.find? fun x => x.owner == .work seq && !x.ready with
  | some x => failSend x st s
  | none => s

/-- TL_ATOMIC (R518, R520). -/
def execTlAtomic (w : Work) (s : State) : Outcome :=
  tlWork w 0x14 (fun f s => withEp f (fun e s =>
    let en := f.entry
    let st := peerStatus s (eDev en)
    if st ≠ St.ok then finish f.seq st 0 (begin_ f s)
    else if 2 < byteField en 16 16 ∨ eRemoteOff en % 8 ≠ 0 then finish f.seq St.invalid 0 (begin_ f s)
    else if s.sendRoom (eDev en) = false then s
    else newSend { workSend f e 6 s with atop := byteField en 16 16, operand := byteField en 32 39, compare := byteField en 40 47 } (begin_ f s)) s) s

/-- R534: every earlier Turelm work of an endpoint to a device has settled. -/
def State.settledTo (s : State) (f : Flight) : Bool :=
  s.tlt.sends.all (fun x => !(x.srcEp == eEp f.entry && x.peer == eDev f.entry && x.op != 0xC && x.dstEp != poolEp))
    && s.rng.flights.all fun g => !(decide (g.seq < f.seq) && g.niche == f.niche && !g.started && g.done.isNone
      && decide (0x10 ≤ wOpcode g.entry) && decide (wOpcode g.entry ≤ 0x15) && eEp g.entry == eEp f.entry && eDev g.entry == eDev f.entry)

/-- TL_FLUSH (R519, R534). -/
def execTlFlush (w : Work) (s : State) : Outcome :=
  tlWork w 0x15 (fun f s => withEp f (fun e s =>
    let st := peerStatus s (eDev f.entry)
    if st ≠ St.ok then finish f.seq st 0 (begin_ f s)
    else if s.settledTo f = false ∨ s.sendRoom (eDev f.entry) = false then s
    else newSend { workSend f e 8 s with key := 0, off := 0, ordered := false } (begin_ f s)) s) s

/-- TL_RECV (R517, R530): the buffer is posted, or waits while the endpoint holds 512. -/
def execTlRecv (w : Work) (s : State) : Outcome :=
  tlWork w 0x16 (fun f s => withEp f (fun e s =>
    match localCheck s f.niche e.pd (eLocalKey f.entry) 4 (eLocalOff f.entry) (eLen f.entry) with
    | .error st => finish f.seq st 0 (begin_ f s)
    | .ok _ =>
      if eLen f.entry = 0 then finish f.seq St.invalid 0 (begin_ f s)
      else if 512 ≤ e.buffers.length then s
      else updEp (eEp f.entry) (fun e => { e with buffers := e.buffers ++ [f.seq] }) (begin_ f s)) s) s

/-! ### Endpoints, domains and windows (R512 to R514, R538 to R547) -/

/-- EP_OPEN (R512, R519, R544). -/
def execEpOpen (w : Work) (s : State) : Outcome :=
  startWork w 0x18 (fun f => stateWork 11 f fun s =>
    let e := f.entry
    let pin := bit (eSpace e) 0 == 1
    if Map.find? s.tlt.pds (ePd e) ≠ some f.niche ∨ (Map.find? s.sch.local_ (localKey f.niche (eQueue e))).isNone then (St.notFound, 0, s)
    else if s.quotaLeft f.niche 4 = 0 ∨ (pin = true ∧ s.quotaLeft f.niche 14 = 0) then (St.noResource, 0, s)
    else match lowestFree (s.tlt.eps.length + s.tlt.epHold.length + 1) 0 (s.tlt.eps.map (·.1) ++ s.tlt.epHold.map (·.1)) with
      | none => (St.noResource, 0, s)
      | some ep =>
        if poolEp ≤ ep then (St.noResource, 0, s)
        else
          let (room, s) := makeRoom s
          let s := quotaTake f.niche 4 1 s
          let s := if pin then quotaTake f.niche 14 1 s else s
          let x : Endpoint := { niche := f.niche, pd := ePd e, queue := eQueue e, pin := pin, onDie := room, host := false, lost := false
                                recalling := false, ring := f.ring, used := 0, buffers := [], fails := [] }
          (St.ok, ep, ctxShow (touchEp ep (s.updTlt (fun u => { u with eps := Map.put s.tlt.eps ep x }))))) s

/-- R547: the open messages of an endpoint end, its buffers too, and its ID is held. With `silent` (R228) nothing is completed. -/
def closeEp (ep : Nat) (silent : Bool) (s : State) : State :=
  match Map.find? s.tlt.eps ep with
  | none => s
  | some e =>
    let sends := s.tlt.sends.filter fun x => x.srcEp == ep && x.op != 0xC && x.dstEp != poolEp
    let s := sends.foldl (fun s x => if silent then abandon x s else failSend x St.aborted s) s
    let s := if silent then s else failEpWork ep St.aborted (e.buffers.foldl (fun s q => finish q St.aborted 0 s) s)
    let taken := (s.tlt.rx.filter fun x => x.dstEp == ep).filterMap (·.buffer)
    let s := if silent then s else taken.foldl (fun s q => finish q St.aborted 0 s) s
    let s := (s.updTlt (fun _ => { s.tlt with
      rx := s.tlt.rx.filter fun x => x.dstEp != ep
      serves := s.tlt.serves.filter fun x => x.dstEp != ep
      recallHeld := s.tlt.recallHeld.filter fun p => p.dstEp != ep
      eps := Map.del s.tlt.eps ep
      epHold := Map.put s.tlt.epHold ep (s.stroke + s.get Reg.TLT_HOLD_EP_HOLD) }))
    let s := quotaGive e.niche 4 1 s
    let s := if e.pin then quotaGive e.niche 14 1 s else s
    ctxShow (tltShow s)

/-- EP_CLOSE (R519, R547). -/
def execEpClose (w : Work) (s : State) : Outcome :=
  startWork w 0x19 (fun f s =>
    if s.flag Reg.JNL_STATUS_REGION_READY = false then finish f.seq St.busy 0 s
    else if (s.ownEp f.niche (eEndpoint f.entry)).isNone then finish f.seq St.notFound 0 s
    else s.defer (.epClose (eEndpoint f.entry) (some f.seq))) s

/-- R547: at its boundary an endpoint closes; then EP_CLOSE completes. -/
def applyEpClose (ep : Nat) (seq : Option Nat) (s : State) : State :=
  let st := if (Map.find? s.tlt.eps ep).isSome then St.ok else St.notFound
  let s := closeEp ep false s
  match seq with
  | some q => stateDone 11 q st 0 s
  | none => s

/-- EP_HOLD_EXPIRY (R547). -/
def execEpHoldExpiry (ep : Nat) (s : State) : Outcome :=
  .next <|
    match Map.find? s.tlt.epHold ep with
    | some b => if b ≤ s.stroke then (s.updTlt (fun u => { u with epHold := Map.del s.tlt.epHold ep })) else s
    | none => s

/-- R514, R519, R520: the status of a window's parameters. -/
def winStatus (s : State) (f : Flight) : Nat :=
  let e := f.entry
  if Map.find? s.tlt.pds (ePd e) ≠ some f.niche then St.notFound
  else if 1 < eSpace e ∨ 32 ≤ eRights e ∨ eWinLen e = 0 ∨ 2 ^ 48 < eWinLen e then St.invalid
  else if eSpace e = 1 ∧ (s.stackedQuota f.niche).2 < eBase e + eWinLen e then St.windowRange
  else St.ok

/-- The window that an entry describes. -/
def winOf (f : Flight) : Window := ⟨ePd f.entry, eSpace f.entry, eBase f.entry, eWinLen f.entry, eRights f.entry, f.niche, 0⟩

/-- WIN_OPEN (R514, R538). -/
def execWinOpen (w : Work) (s : State) : Outcome :=
  startWork w 0x1A (fun f s =>
    let st := winStatus s f
    if s.flag Reg.JNL_STATUS_REGION_READY = false then finish f.seq St.busy 0 s
    else if st ≠ St.ok then finish f.seq st 0 s
    else if s.quotaLeft f.niche 6 = 0 then finish f.seq St.noResource 0 s
    else match freeIndex 65536 s.winsTaken s with
      | (some i, s) => (quotaTake f.niche 6 1 s).defer (.winOpen i (winOf f) f.seq)
      | (none, s) => finish f.seq St.noResource 0 s) s

/-- R538: at its boundary a window opens and WIN_OPEN completes. -/
def applyWinOpen (i : Nat) (w : Window) (seq : Nat) (s : State) : State :=
  if (s.flight seq).isNone then s
  else
    let (k, s) := openWin i w s
    stateDone 11 seq St.ok k s

/-- R540: the open window of the niche that a KEY names, or the status that refuses it. -/
def keyNamed (s : State) (n key : Nat) : Except Nat Nat :=
  match Map.find? s.tlt.wins (key / 256) with
  | some w => if w.niche ≠ n ∨ w.space = 2 then .error St.notFound else if w.gen ≠ key % 256 then .error St.windowRevoked else .ok (key / 256)
  | none => .error (if (Map.find? s.tlt.gens (key / 256)).isSome then St.windowRevoked else St.notFound)

/-- WIN_REVOKE (R539). -/
def execWinRevoke (w : Work) (s : State) : Outcome :=
  startWork w 0x1C (fun f s =>
    if s.flag Reg.JNL_STATUS_REGION_READY = false then finish f.seq St.busy 0 s
    else match keyNamed s f.niche (eKey f.entry) with
      | .error st => finish f.seq st 0 s
      | .ok i => s.defer (.winRevoke i (some f.seq))) s

/-- WIN_REWRITE (R540). -/
def execWinRewrite (w : Work) (s : State) : Outcome :=
  startWork w 0x1B (fun f s =>
    if s.flag Reg.JNL_STATUS_REGION_READY = false then finish f.seq St.busy 0 s
    else match keyNamed s f.niche (eKey f.entry) with
      | .error st => finish f.seq st 0 s
      | .ok i =>
        if winStatus s f ≠ St.ok then finish f.seq (winStatus s f) 0 s
        else if eKey f.entry % 256 < 255 then s.defer (.winRewrite i i (winOf f) f.seq)
        else match freshIndex s with
          | (some j, s) => s.defer (.winRewrite i j (winOf f) f.seq)
          | (none, s) => finish f.seq St.noResource 0 s) s

/-- R539: at its boundary a window's generation rises and it closes; its fence is to come. -/
def applyWinRevoke (i : Nat) (seq : Option Nat) (s : State) : State :=
  match Map.find? s.tlt.wins i with
  | none => match seq with
    | some q => finish q St.windowRevoked 0 s
    | none => s
  | some w =>
    let (k, s) := closeWin i (if w.space = 2 then s else quotaGive w.niche 6 1 s)
    (s.updTlt (fun u => { u with fences := s.tlt.fences ++ [⟨i, seq, k, w.niche⟩] }))

/-- R540: at its boundary the old key is revoked and the window opens anew, under its index or another. -/
def applyWinRewrite (i j : Nat) (w : Window) (seq : Nat) (s : State) : State :=
  match Map.find? s.tlt.wins i with
  | none => finish seq St.windowRevoked 0 s
  | some _ =>
    let (_, s) := closeWin i s
    let (k, s) := openWin j w s
    (s.updTlt (fun u => { u with fences := s.tlt.fences ++ [⟨i, some seq, k, w.niche⟩] }))

/-- REVOKE_FENCE (R539): every placement that passed before the switch has been issued; the completion is written. -/
def execRevokeFence (index : Nat) (s : State) : Outcome :=
  .next <|
    match s.tlt.fences.find? fun x => x.index == index with
    | none => s
    | some x =>
      let s := s.updTlt (fun u => { u with fences := s.tlt.fences.filter fun y => y != x })
      match x.seq with
      | some q => stateDone 11 q St.ok x.key s
      | none => if (Map.find? s.cmds 14).any (fun c => c.op == 4 && (s.segOf (x.key / 256)).map (·.1) == some c.obj) then cmdEnd Blk.fab St.ok s else s

/-- WRAP_HOLD_EXPIRY (R540). -/
def execWrapHoldExpiry (index : Nat) (s : State) : Outcome :=
  .next <|
    match Map.find? s.tlt.winHold index with
    | some b => if b ≤ s.stroke then (s.updTlt (fun u => { u with winHold := Map.del s.tlt.winHold index })) else s
    | none => s

/-- PD_ALLOC (R513). -/
def execPdAlloc (w : Work) (s : State) : Outcome :=
  startWork w 0x1D (fun f => stateWork 11 f fun s =>
    if s.quotaLeft f.niche 7 = 0 then (St.noResource, 0, s)
    else match freeIndex 65536 (s.tlt.pds.map (·.1)) s with
      | (some d, s) => (St.ok, d, quotaTake f.niche 7 1 (s.updTlt (fun u => { u with pds := Map.put s.tlt.pds d f.niche })))
      | (none, s) => (St.noResource, 0, s)) s

/-- PD_FREE (R513). -/
def execPdFree (w : Work) (s : State) : Outcome :=
  startWork w 0x1E (fun f => stateWork 11 f fun s =>
    let d := ePd f.entry
    if Map.find? s.tlt.pds d ≠ some f.niche then (St.notFound, 0, s)
    else if s.tlt.eps.any (fun p => p.2.pd == d) ∨ s.tlt.wins.any (fun p => p.2.pd == d && p.2.space != 2) then (St.badState, 0, s)
    else (St.ok, 0, quotaGive f.niche 7 1 (s.updTlt (fun u => { u with pds := Map.del s.tlt.pds d })))) s

/-! ### What the receiver keeps (R525, R548, R549) -/

/-- R525: what the receiver makes of a MSG_ID. -/
inductive MsgPlace where
  | below
  | complete (status chunk : Nat)
  | open_
  | beyond
  deriving DecidableEq, Repr

/-- R525: where a MSG_ID falls. -/
def State.msgPlace (s : State) (peer msg : Nat) : MsgPlace :=
  let p := s.peerX peer
  let d := ahead 32 msg p.floor
  if d < 0 then .below
  else if 1024 ≤ d then .beyond
  else match Map.find? p.done msg with
    | some (st, k) => .complete st k
    | none => .open_

/-- R525: the floor advances over every completed ID directly above it. -/
def floorUp (fuel : Nat) (p : PeerX) : PeerX :=
  match fuel with
  | 0 => p
  | fuel + 1 => if (Map.find? p.done p.floor).isSome then floorUp fuel { p with floor := (p.floor + 1) % 2 ^ 32, done := Map.del p.done p.floor } else p

/-- R525, R527: an ID is recorded complete, with the status that its later chunks are answered with. -/
def recordDone (peer msg st chunk : Nat) (s : State) : State :=
  updPeer peer (fun p => floorUp 1025 { p with done := Map.put p.done msg (st, chunk) }) s

/-- R548: the numbers of a lane that have been delivered out of order follow the lane's next. -/
def laneUp (fuel lane : Nat) (p : PeerX) : PeerX :=
  match fuel with
  | 0 => p
  | fuel + 1 =>
    let n := (Map.find? p.rxLane lane).getD 0
    if p.laneDone.contains (lane, n) then
      laneUp fuel lane { p with rxLane := Map.put p.rxLane lane ((n + 1) % 65536), laneDone := p.laneDone.filter fun d => d != (lane, n) }
    else p

/-- R548: a message counts as delivered in its lane. -/
def laneDeliver (peer lane oseq : Nat) (s : State) : State :=
  updPeer peer (fun p => laneUp (p.laneDone.length + 2) lane { p with laneDone := p.laneDone ++ [(lane, oseq)] }) s

/-- R548: a packet's message counts as delivered when it ends in error. -/
def laneSkip (p : TlPkt) (s : State) : State := if bit p.flags 0 = 1 then laneDeliver p.src (p.flags / 16) p.oseq s else s

/-- The open message of a peer. -/
def State.rxMsg (s : State) (peer msg : Nat) : Option RxMsg := s.tlt.rx.find? fun x => x.peer == peer && x.msg == msg

/-- An open message changed, or put in place. -/
def putRx (x : RxMsg) (s : State) : State :=
  tltShow (s.updTlt (fun u => { u with rx := (s.tlt.rx.filter fun y => !(y.peer == x.peer && y.msg == x.msg)) ++ [x] }))

/-- An open message goes; a buffer that it took and did not complete is the endpoint's next again. -/
def dropRx (peer msg : Nat) (giveBack : Bool) (s : State) : State :=
  match s.rxMsg peer msg with
  | none => s
  | some x =>
    let s := match x.buffer with
      | some q => if giveBack then updEp x.dstEp (fun e => { e with buffers := q :: e.buffers }) s else s
      | none => s
    tltShow (s.updTlt (fun u => { u with rx := s.tlt.rx.filter fun y => !(y.peer == peer && y.msg == msg) }))

/-- R549: a peer shows a newer epoch. -/
def peerEpoch (d epoch msg : Nat) (s : State) : State :=
  let s := (s.setI Reg.TLT_PEER_INFO_PEER_EPOCH d epoch).set Reg.TLT_STATUS_PEER_EPOCH 1
  let s := raise Ev.tltPeerEpoch d (d + epoch * 2 ^ 16) s
  let s := (s.tlt.rx.filter fun x => x.peer == d).foldl (fun s x => dropRx d x.msg true s) s
  let s := s.updTlt (fun u => { u with serves := s.tlt.serves.filter fun x => x.peer != d })
  let s := updPeer d (fun p => { p with floor := msg, done := [], rxLane := [], laneDone := [] }) s
  let s := endSends (fun x => x.peer == d) St.tlPeerRecovery s
  tltShow (updPeer d (fun p => { p with txLane := [] }) s)

/-- R521, R527 check 1, R549, R566: a packet is counted, and dropped for its checksum, version or epoch. -/
def rxIntro (p : TlPkt) (act : State → State) (s : State) : State :=
  if s.inP1 then s else
  let s := addI Reg.TLT_RX_BYTE_LO_BYTES 0 p.data.length (addI Reg.TLT_RX_PKT_COUNT 0 1 s)
  if p.csumBad then count Reg.TLT_CSUM_DROP_COUNT s
  else if p.version ≠ 1 then s
  else if s.flagI Reg.TLT_PEER_INFO_KNOWN p.src = false then
    act (updPeer p.src id (s.setsI p.src [(Reg.TLT_PEER_INFO_KNOWN, 1), (Reg.TLT_PEER_INFO_PEER_EPOCH, p.epoch)]))
  else
    let d := ahead 8 p.epoch (s.getI Reg.TLT_PEER_INFO_PEER_EPOCH p.src)
    if d < 0 then count Reg.TLT_EPOCH_DROP_COUNT s
    else if 0 < d then act (peerEpoch p.src p.epoch p.msg s)
    else act s

/-! ### Answers (R522, R531) -/

/-- A packet that answers another, straight to a path of its sender. -/
def answer (op : Nat) (response : Bool) (p : TlPkt) (ext : Nat) (s : State) : State :=
  (sendPacket none none none { s.tlHead op p.src with flags := if response then 2 else 0, srcEp := p.dstEp, seg := p.seg, msg := p.msg, len := p.len, ext := ext } s).2

/-- R522: the extension of an ACK. -/
def ackExt (base bitmap ce path : Nat) : Nat := base % 2 ^ 32 + bitmap % 2 ^ 64 * 2 ^ 32 + min 255 ce * 2 ^ 96 + path * 2 ^ 104

/-- An ACK of a whole message. -/
def ackAll (response : Bool) (p : TlPkt) (ce : Nat) (s : State) : State := answer 0xA response p (ackExt 0xFFFFFFFF 0 ce p.path) s

/-- R522: the bitmap of the chunks held above BASE. -/
def heldBitmap (held : List Nat) : Nat :=
  let b := firstGap held
  held.foldl (fun v k => if b < k ∧ k ≤ b + 64 then v + 2 ^ (k - b - 1) else v) 0

/-- R522, R564, R565: a NAK for a packet's chunk. -/
def nak (p : TlPkt) (st chunk : Nat) (s : State) : State :=
  let s := (count Reg.TLT_NAK_TX_COUNT s).sets [(Reg.TLT_NAK_LAST_STATUS, st), (Reg.TLT_NAK_LAST_PEER, p.src),
    (Reg.TLT_NAK_LAST_ENDPOINT, p.dstEp), (Reg.TLT_NAK_LAST_RECEIVED, 0)]
  answer 0xB false p (st + chunk * 2 ^ 32) s

/-- The chunk that a packet carries. -/
def chunkOf (p : TlPkt) : Nat := p.off / 2 ^ p.seg

/-- R527: a message refused for good: NAK, recorded complete with its error, delivered in its lane. -/
def refuse (p : TlPkt) (st : Nat) (s : State) : State :=
  nak p st (chunkOf p) (laneSkip p (recordDone p.src p.msg st (chunkOf p) (dropRx p.src p.msg true s)))

/-- R525: how a packet is handled by where its MSG_ID falls. -/
def byPlace (p : TlPkt) (act : State → State) (s : State) : State :=
  match s.msgPlace p.src p.msg with
  | .beyond => count Reg.TLT_WIN_DROP_COUNT s
  | .below => ackAll false p 0 (count Reg.TLT_DUP_DROP_COUNT s)
  | .complete st k =>
    let s := count Reg.TLT_DUP_DROP_COUNT s
    if st = St.ok then ackAll false p 0 s else nak p st k s
  | .open_ => act s

/-- R545: a packet that finds no place in the recall queue. -/
def recallOverflow (p : TlPkt) (s : State) : State :=
  let s := nak p St.receiverBusy (chunkOf p) (count Reg.TLT_RECALL_OVF_COUNT s)
  if s.flag Reg.TLT_STATUS_RECALL_OVF then s else raise Ev.tltRecallOvf p.dstEp p.dstEp (s.set Reg.TLT_STATUS_RECALL_OVF 1)

/-- R544, R545: a packet for an endpoint whose context is evicted is held; else it is acted on. -/
def ifOnDie (p : TlPkt) (e : Endpoint) (act : State → State) (s : State) : State :=
  if e.onDie then act (touchEp p.dstEp s)
  else if 8 ≤ (s.tlt.recallHeld.filter fun q => q.dstEp == p.dstEp).length ∨ 16384 ≤ s.tlt.recallHeld.length then recallOverflow p s
  else ctxShow (recallStart p.dstEp (s.updTlt (fun u => { u with recallHeld := s.tlt.recallHeld ++ [p] })))

/-- R177: Turelm traffic for a niche bound to a function that is not in D0. -/
def State.nicheAsleep (s : State) (n : Nat) : Bool := s.flagI Reg.NCH_INFO_BOUND n && s.getI Reg.HIF_FN_INFO_DSTATE (s.nicheFn n) != 0

/-- R527 checks 3 and 4, R649: the target of a request: the pool service, or an endpoint whose context is on die. -/
def atTarget (p : TlPkt) (act : State → State) (s : State) : State :=
  if p.dstEp = poolEp ∧ (p.op = 1 ∨ p.op = 4 ∨ p.op = 6) then
    if s.fabId.isNone then s
    else
      let st := poolOpen s (byteField p.ext 0 3)
      if st = St.ok then act s
      else if st = St.receiverBusy then nak p st (chunkOf p) s
      else refuse p st s
  else match Map.find? s.tlt.eps p.dstEp with
    | none => refuse p St.tlNoEndpoint s
    | some e =>
      if e.lost then refuse p St.tlNoEndpoint s
      else if s.nicheState e.niche ≠ 1 then nak p St.receiverBusy (chunkOf p) s
      else if s.nicheAsleep e.niche then countPage Reg.NCH_PG_RX_DROP_COUNT e.niche s
      else ifOnDie p e act s

/-- R527 check 7, R649: the window that a request names, for a right over a range. -/
def targetWin (s : State) (p : TlPkt) (right off len : Nat) : Except Nat Window :=
  let key := byteField p.ext 0 3
  if p.dstEp = poolEp then poolCheck s p.src key off len right
  else
    let pd := (Map.find? s.tlt.eps p.dstEp).map (·.pd)
    winCheck s key (fun w => some w.pd == pd) right off len

/-- R649: what a refusal at check 7 also does, then the refusal. -/
def refuseAt (p : TlPkt) (st : Nat) (s : State) : State :=
  refuse p st (if p.dstEp = poolEp then poolRefused p.src (byteField p.ext 0 3) st s else s)

/-- R534: a HOST placement for a peer. -/
def markDirty (peer : Nat) (w : Window) (last : Nat) (s : State) : State :=
  if w.space = 0 then updPeer peer (fun p => { p with dirty := Map.put p.dirty (s.getI Reg.NCH_INFO_AP w.niche) (w.niche, last) }) s else s

/-- R527 check 5: a tracker is held or can be had; the first refusal raises its event. -/
def trackerFull (p : TlPkt) (s : State) : State :=
  let s := nak p St.receiverBusy (chunkOf p) s
  if s.flag Reg.TLT_STATUS_TRK_FULL then s else raise Ev.tltTrkFull p.src p.src (s.set Reg.TLT_STATUS_TRK_FULL 1)

/-! ### Data (R528 to R531, R548) -/

/-- R530: the RESULT of a receive completion. -/
def recvResult (x : RxMsg) : Nat :=
  (if x.op = 2 then 0 else x.len) + x.imm * 2 ^ 32 + x.peer * 2 ^ 64 + x.srcEp * 2 ^ 80 + (if x.op = 2 then 1 else 0) * 2 ^ 104

/-- R548: whether every lower number of a message's lane has been delivered. -/
def State.laneTurn (s : State) (x : RxMsg) : Bool :=
  !x.ordered || (Map.find? (s.peerX x.peer).rxLane (laneOf x.srcEp x.dstEp)).getD 0 == x.oseq

/-- The packet that an open message's ACK answers. -/
def RxMsg.pkt (x : RxMsg) (s : State) : TlPkt :=
  { s.tlHead x.op x.peer with src := x.peer, srcEp := x.srcEp, dstEp := x.dstEp, seg := x.seg, path := x.path, msg := x.msg, len := x.len }

/-- R530, R531, R548: a message whose bytes are all placed is complete: its receive completion, its ACK, its lane. -/
def deliverRx (x : RxMsg) (s : State) : State :=
  let s := dropRx x.peer x.msg false s
  let s := match x.buffer with
    | some q => finish q St.ok (recvResult x) s
    | none => s
  let s := if x.ordered then laneDeliver x.peer (laneOf x.srcEp x.dstEp) x.oseq s else s
  if (x.op = 2 ∨ x.op = 3) ∧ x.waiting = true then s
  else ackAll false (x.pkt s) x.ces (recordDone x.peer x.msg St.ok 0 s)

/-- R531, R548: the last chunk has been placed. -/
def placedAll (x : RxMsg) (s : State) : State :=
  if s.laneTurn x then deliverRx x s
  else
    let s := putRx { x with waiting := true, ackDue := none } s
    if x.op = 1 then s else ackAll false (x.pkt s) x.ces (recordDone x.peer x.msg St.ok 0 s)

/-- R528, R529: a chunk has been placed: its message holds it, and is complete when it holds every byte. -/
def chunkPlaced (x : RxMsg) (p : TlPkt) (s : State) : State :=
  let x := { x with held := insertNat (chunkOf p) x.held, ackDue := some (s.stroke + 1), path := p.path, ces := x.ces + if p.ce then 1 else 0 }
  let s := if p.dstEp = poolEp then addI Reg.FAB_POOL_OPS_COUNT 0 (if x.held.length = 1 then 1 else 0) s else s
  if x.held.length = chunkCount x.len x.seg then placedAll x s else putRx x s

/-- R530: SEND bytes go to the message's buffer, under the buffer's own window. -/
def placeSend (x : RxMsg) (q : Nat) (p : TlPkt) (s : State) : State :=
  match s.flight q, Map.find? s.tlt.eps p.dstEp with
  | some f, some e =>
    let off := eLocalOff f.entry + p.off
    if p.data = [] then chunkPlaced x p s
    else match winCheck s (eLocalKey f.entry) (fun w => w.pd == e.pd) 4 off p.data.length with
      | .error st => refuse p st (putRx x s)
      | .ok w => chunkPlaced x p (markDirty p.src w (w.base + off + p.data.length - 4) (winPut w off p.data s))
  | _, _ => s

/-- R527 check 7, R528: WRITE bytes go to the window. -/
def placeWrite (x : RxMsg) (p : TlPkt) (s : State) : State :=
  let off := byteField p.ext 8 15 + p.off
  match targetWin s p rightWrite off p.data.length with
  | .error st => refuseAt p st (if (s.rxMsg p.src p.msg).isSome then s else putRx x s)
  | .ok w => chunkPlaced x p (markDirty p.src w (w.base + off + p.data.length - 4) (winPut w off p.data s))

/-- R530: the buffer of a SEND or WRITE_IMM message: the one it has, or its endpoint's head. -/
def withBuffer (x : RxMsg) (p : TlPkt) (act : RxMsg → Nat → State → State) (s : State) : State :=
  match x.buffer, (Map.find? s.tlt.eps p.dstEp).bind fun e => e.buffers.head? with
  | some q, _ => act x q s
  | none, none => nak p St.receiverBusy (chunkOf p) s
  | none, some q =>
    match s.flight q with
    | none => nak p St.receiverBusy (chunkOf p) s
    | some f =>
      if eLen f.entry < p.len then refuse p St.tlRecvShort s
      else act { x with buffer := some q } q (updEp p.dstEp (fun e => { e with buffers := e.buffers.drop 1 }) s)

/-- R527 checks 5 to 7: a data packet of an open message at its target. -/
def rxPlace (p : TlPkt) (s : State) : State :=
  let fresh : RxMsg := { peer := p.src, msg := p.msg, op := p.op, len := p.len, seg := p.seg, srcEp := p.srcEp, dstEp := p.dstEp, buffer := none
                         imm := if p.op = 2 then byteField p.ext 4 7 else if p.op = 3 then byteField p.ext 0 3 else 0, held := []
                         ordered := bit p.flags 0 == 1, oseq := p.oseq, waiting := false, ackDue := none, path := p.path, ces := 0 }
  let x := (s.rxMsg p.src p.msg).getD fresh
  if (s.rxMsg p.src p.msg).isNone ∧ 1 < chunkCount p.len p.seg ∧ s.get Reg.TLT_TRK_CAP_RECV_MAX ≤ s.trackers then trackerFull p s
  else if firstGap x.held + 1024 ≤ (chunkOf p) then count Reg.TLT_WIN_DROP_COUNT s
  else if x.held.contains (chunkOf p) then
    count Reg.TLT_DUP_DROP_COUNT (if x.waiting then s else putRx { x with ackDue := some (s.stroke + 1), path := p.path } s)
  else if p.op = 1 then placeWrite x p s
  else if p.op = 2 then
    match targetWin s p rightWrite (byteField p.ext 8 15 + p.off) p.data.length with
    | .error st => refuseAt p st s
    | .ok _ => withBuffer x p (fun x _ s => placeWrite x p s) s
  else withBuffer x p (fun x q s => placeSend x q p s) s

/-- R525, R527: a WRITE, WRITE_IMM or SEND packet. -/
def rxData (p : TlPkt) (s : State) : State := byPlace p (atTarget p (rxPlace p)) s

/-- WIRE_DATA_RECEIVE (R527). -/
def execWireDataReceive (p : TlPkt) (s : State) : Outcome := .next (rxIntro p (rxData p) s)

/-- DEFERRED_ACK (R531): one ACK that covers every chunk held, at the first boundary after a chunk arrived. -/
def execDeferredAck (peer msg : Nat) (s : State) : Outcome :=
  .next <|
    let s := match s.rxMsg peer msg with
      | some x =>
        if x.ackDue.isSome ∧ x.ackDue.getD 0 ≤ s.stroke then
          answer 0xA false (x.pkt s) (ackExt (firstGap x.held) (heldBitmap x.held) x.ces x.path) (putRx { x with ackDue := none, ces := 0 } s)
        else s
      | none => s
    match s.send peer msg with
    | some x =>
      if x.op = 4 ∧ x.ackDue.isSome ∧ x.ackDue.getD 0 ≤ s.stroke then
        let p := { s.tlHead 5 peer with src := peer, srcEp := x.dstEp, dstEp := x.srcEp, seg := x.seg, msg := msg, len := x.len }
        answer 0xA true p (ackExt (firstGap x.held) (heldBitmap x.held) x.ces x.path) (updSend peer msg (fun x => { x with ackDue := none, ces := 0 }) s)
      else s
    | none => s

/-- ORDERED_COMPLETION_RELEASE (R548). -/
def execOrderedCompletionRelease (peer msg : Nat) (s : State) : Outcome :=
  .next <|
    match s.rxMsg peer msg with
    | some x => if x.waiting ∧ s.laneTurn x then deliverRx x s else s
    | none => s

/-! ### READ and ATOMIC at the target (R536, R537) -/

/-- The queue through which a target answers. -/
def answerQueue (s : State) (dstEp : Nat) : Option Nat :=
  if dstEp = poolEp then some (s.get Reg.FAB_CFG_POOL_QUEUE) else (Map.find? s.tlt.eps dstEp).bind fun e => epQueue s e

/-- A request being served, put in place. -/
def putServe (x : Serve) (s : State) : State :=
  tltShow (s.updTlt (fun u => { u with serves := (s.tlt.serves.filter fun y => !(y.peer == x.peer && y.msg == x.msg)) ++ [x] }))

/-- A served request goes. -/
def dropServe (peer msg : Nat) (s : State) : State :=
  tltShow (s.updTlt (fun u => { u with serves := s.tlt.serves.filter fun y => !(y.peer == peer && y.msg == msg) }))

/-- The header of a response. -/
def respHead (s : State) (op : Nat) (x : Serve) : TlPkt :=
  { s.tlHead op x.peer with flags := 2, srcEp := x.dstEp, dstEp := x.srcEp, seg := x.seg, msg := x.msg, len := x.len }

/-- R537: the READ_RESP chunks of a read. -/
def readResponse (x : Serve) (data : List Byte) (s : State) : State :=
  (List.range (chunkCount x.len x.seg)).foldl (fun s k =>
    (sendPacket (answerQueue s x.dstEp) none none { respHead s 5 x with
      off := k * 2 ^ x.seg, data := (data.drop (k * 2 ^ x.seg)).take (min (2 ^ x.seg) (x.len - k * 2 ^ x.seg)) } s).2) s

/-- R536: the ATOMIC_RESP of an atomic. -/
def atomicResponse (x : Serve) (original : List Byte) (s : State) : State :=
  (sendPacket (answerQueue s x.dstEp) none none { respHead s 7 x with ext := ofBytes original } s).2

/-- An ID is complete once its request has been carried out; an ordered one counts as delivered in its lane. -/
def served (p : TlPkt) (s : State) : State :=
  let s := if p.dstEp = poolEp then addI Reg.FAB_POOL_OPS_COUNT 0 1 s else s
  laneSkip p (recordDone p.src p.msg St.ok 0 s)

/-- The request that a packet makes. -/
def serveOf (p : TlPkt) : Serve :=
  { peer := p.src, msg := p.msg, op := p.op, srcEp := p.srcEp, dstEp := p.dstEp, len := p.len, seg := p.seg, win := byteField p.ext 0 3
    off := byteField p.ext 8 15, ext := p.ext, result := none }

/-- R527 check 7, R537: a READ_REQ at its target. -/
def serveRead (p : TlPkt) (s : State) : State :=
  let x := serveOf p
  if s.tlt.serves.any (fun y => y.peer == p.src && y.msg == p.msg) then s
  else match targetWin s p rightRead x.off p.len with
    | .error st => refuseAt p st s
    | .ok w =>
      if w.space = 0 then needRead w.niche (.serve p.src p.msg) (putServe x s)
      else readResponse x (memReadList s (winAddr s w x.off) p.len) (if s.msgPlace p.src p.msg = .open_ then served p s else s)

/-- WIRE_READ_REQ_RECEIVE (R525, R537): a repeated READ_REQ is served again in full. -/
def execWireReadReqReceive (p : TlPkt) (s : State) : Outcome :=
  .next (rxIntro p (fun s =>
    match s.msgPlace p.src p.msg with
    | .below => atTarget p (serveRead p) s
    | .complete st _ => if st = St.ok then atTarget p (serveRead p) s else byPlace p id s
    | .open_ => atTarget p (serveRead p) s
    | .beyond => byPlace p id s) s)

/-- R536, R537: an atomic has been executed: its result is kept and returned. -/
def atomicDone (x : Serve) (old : Nat) (s : State) : State :=
  atomicResponse x (toBytes 8 old) (putServe { x with result := some (toBytes 8 old) } s)

/-- R527 check 7, R536: an ATOMIC at its target. -/
def serveAtomic (p : TlPkt) (s : State) : State :=
  let x := serveOf p
  let atop := byteField p.ext 4 4
  match s.tlt.serves.find? fun y => y.peer == p.src && y.msg == p.msg with
  | some y => match y.result with
    | some r => atomicResponse y r s
    | none => s
  | none =>
    if s.get Reg.TLT_TRK_CAP_RECV_MAX ≤ s.trackers then trackerFull p s
    else match targetWin s p rightAtomic x.off 8 with
      | .error st => refuseAt p st s
      | .ok w =>
        if 2 < atop ∨ x.off % 8 ≠ 0 then refuse p St.invalid s
        else if w.space = 0 then needRead w.niche (.serve p.src p.msg) (putServe x s)
        else
          let (old, s) := atomicAt (winAddr s w x.off) atop (byteField p.ext 16 23) (byteField p.ext 24 31) s
          atomicDone x old (served p s)

/-- WIRE_ATOMIC_RECEIVE (R536, R537). -/
def execWireAtomicReceive (p : TlPkt) (s : State) : Outcome :=
  .next (rxIntro p (fun s =>
    match s.msgPlace p.src p.msg with
    | .below => count Reg.TLT_DUP_DROP_COUNT s
    | .complete st _ =>
      if st ≠ St.ok then byPlace p id s
      else match s.tlt.serves.find? fun y => y.peer == p.src && y.msg == p.msg with
        | some y => match y.result with
          | some r => atomicResponse y r (count Reg.TLT_DUP_DROP_COUNT s)
          | none => count Reg.TLT_DUP_DROP_COUNT s
        | none => count Reg.TLT_DUP_DROP_COUNT s
    | .open_ => atTarget p (serveAtomic p) s
    | .beyond => byPlace p id s) s)

/-- The packet that a request being served came as. -/
def Serve.pkt (x : Serve) (s : State) : TlPkt :=
  { s.tlHead x.op x.peer with src := x.peer, srcEp := x.srcEp, dstEp := x.dstEp, seg := x.seg, msg := x.msg, len := x.len, ext := x.ext }

/-- R536: the host has returned what a request reads: the READ is answered, or the ATOMIC computed, written and answered.
The window is checked again, so that nothing passes its revocation. -/
def serveHostData (peer msg : Nat) (data : List Byte) (s : State) : State :=
  match s.tlt.serves.find? fun y => y.peer == peer && y.msg == msg && y.result.isNone with
  | none => s
  | some x =>
    let p := x.pkt s
    match targetWin s p (if x.op = 4 then rightRead else rightAtomic) x.off (if x.op = 4 then x.len else 8) with
    | .error st => refuseAt p st (dropServe peer msg s)
    | .ok w =>
      let s := if s.msgPlace peer msg = .open_ then served p s else s
      if x.op = 4 then readResponse x data (dropServe peer msg s)
      else
        let old := ofBytes (data.take 8)
        let s := match atomicNew (byteField x.ext 4 4) old (byteField x.ext 16 23) (byteField x.ext 24 31) with
          | some v => markDirty peer w (w.base + x.off + 4) (winPut w x.off (toBytes 8 v) s)
          | none => s
        atomicDone x old s

/-- R168, R172: the host read of a request being served has failed: the request ends with the read's status. -/
def serveHostFail (peer msg st : Nat) (s : State) : State :=
  match s.tlt.serves.find? fun y => y.peer == peer && y.msg == msg && y.result.isNone with
  | none => s
  | some x =>
    let s := dropServe peer msg s
    if s.msgPlace peer msg = .open_ then refuse (x.pkt s) st s else s

/-! ### Responses at the requester (R532, R537) -/

/-- Bytes put into a byte string at an offset, the string growing with zeros as it must. -/
def bytesPut (l : List Byte) (off : Nat) (d : List Byte) : List Byte :=
  (l ++ List.replicate (off - l.length) 0).take off ++ d ++ l.drop (off + d.length)

/-- R541: progress of a message re-arms its timer. -/
def progress (peer msg : Nat) (s : State) : State :=
  let rto := s.effI Reg.TLT_PEER_RTO_RTO peer
  updSend peer msg (fun x => { x with tries := 0, rto := rto, due := s.stroke + rto }) s

/-- R532: a READ_RESP chunk has been placed. -/
def readChunk (x : Send) (p : TlPkt) (s : State) : State :=
  let y := { x with held := insertNat (chunkOf p) x.held, data := bytesPut x.data p.off p.data, ackDue := some (s.stroke + 1), path := p.path
                    ces := x.ces + if p.ce then 1 else 0 }
  let s := progress x.peer x.msg (updSend x.peer x.msg (fun _ => y) s)
  if y.held.length = chunkCount x.len x.seg then endSend y St.ok 0 y.data (ackAll true p y.ces s) else s

/-- R528, R532: a READ_RESP chunk at the requester: into the local window of a TL_READ, or to what else asked for it. -/
def rxReadResp (p : TlPkt) (s : State) : State :=
  match s.send p.src p.msg with
  | none => ackAll true p 0 (count Reg.TLT_DUP_DROP_COUNT s)
  | some x =>
    if x.op ≠ 4 then count Reg.TLT_DUP_DROP_COUNT s
    else if x.held.contains (chunkOf p) then
      count Reg.TLT_DUP_DROP_COUNT (updSend x.peer x.msg (fun x => { x with ackDue := some (s.stroke + 1), path := p.path }) s)
    else match x.owner with
      | .work _ =>
        if x.dstEp = poolEp then readChunk x p s
        else match winCheck s x.lkey (fun w => some w.pd == (Map.find? s.tlt.eps x.srcEp).map (·.pd)) 4 (x.loff + p.off) p.data.length with
          | .error st => failSend x st s
          | .ok w => readChunk x p (winPut w (x.loff + p.off) p.data s)
      | _ => readChunk x p s

/-- R527 check 4: a response for an endpoint whose context is evicted is held. -/
def atRequester (p : TlPkt) (act : State → State) (s : State) : State :=
  match Map.find? s.tlt.eps p.dstEp with
  | some e => if (s.send p.src p.msg).any (fun x => x.dstEp != poolEp) then ifOnDie p e act s else act s
  | none => act s

/-- WIRE_READ_RESP_RECEIVE (R532). -/
def execWireReadRespReceive (p : TlPkt) (s : State) : Outcome := .next (rxIntro p (atRequester p (rxReadResp p)) s)

/-- R532: an ATOMIC_RESP at the requester. -/
def rxAtomicResp (p : TlPkt) (s : State) : State :=
  let s := ackAll true p (if p.ce then 1 else 0) s
  match s.send p.src p.msg with
  | some x => if x.op = 6 then endSend x St.ok (byteField p.ext 0 7) [] s else s
  | none => count Reg.TLT_DUP_DROP_COUNT s

/-- WIRE_ATOMIC_RESP_RECEIVE (R532). -/
def execWireAtomicRespReceive (p : TlPkt) (s : State) : Outcome := .next (rxIntro p (atRequester p (rxAtomicResp p)) s)

/-! ### Flush (R534, R535) -/

/-- R534: everything placed before a FLUSH is visible: it is answered. -/
def flushAnswer (peer msg : Nat) (snap : Map (Nat × Nat)) (s : State) : State :=
  let s := s.updTlt (fun u => { u with flushes := s.tlt.flushes.filter fun x => !(x.1 == peer && x.2.1 == msg) })
  let s := updPeer peer (fun p => { p with dirty := p.dirty.filter fun d => Map.find? snap d.1 != some d.2 }) s
  let s := if s.msgPlace peer msg = .open_ then recordDone peer msg St.ok 0 s else s
  (sendPacket none none none { s.tlHead 9 peer with msg := msg } s).2

/-- WIRE_FLUSH_RECEIVE (R534): a read to the last address written through each attachment point, or the answer at once. -/
def execWireFlushReceive (p : TlPkt) (s : State) : Outcome :=
  .next (rxIntro p (fun s =>
    if s.msgPlace p.src p.msg = .beyond then count Reg.TLT_WIN_DROP_COUNT s
    else if s.tlt.flushes.any (fun x => x.1 == p.src && x.2.1 == p.msg) then s
    else
      let snap := (s.peerX p.src).dirty
      if snap = [] then flushAnswer p.src p.msg [] s
      else snap.foldl (fun s d => needRead d.2.1 (.flush p.src p.msg) s)
        (s.updTlt (fun u => { u with flushes := s.tlt.flushes ++ [(p.src, p.msg, snap)] }))) s)

/-- FLUSH_VISIBILITY_DONE (R534): no read of the FLUSH is outstanding. -/
def execFlushVisibilityDone (peer msg : Nat) (s : State) : Outcome :=
  .next <|
    match s.tlt.flushes.find? fun x => x.1 == peer && x.2.1 == msg with
    | none => s
    | some x =>
      if s.hif.tags.any (fun t => t.purpose == .flush peer msg) ∨ s.hif.waiting.any (fun w => w.2 == .flush peer msg) then s
      else flushAnswer peer msg x.2.2 s

/-- A visibility read has failed: the FLUSH is not answered, and its repetition reads again. -/
def flushReadFail (peer msg : Nat) (s : State) : State :=
  (s.updTlt (fun u => { u with flushes := s.tlt.flushes.filter fun x => !(x.1 == peer && x.2.1 == msg) }))

/-- WIRE_FLUSH_ACK_RECEIVE (R535). -/
def execWireFlushAckReceive (p : TlPkt) (s : State) : Outcome :=
  .next (rxIntro p (fun s =>
    match s.send p.src p.msg with
    | some x =>
      if x.op ≠ 8 then s
      else
        let n := ((Map.find? s.tlt.eps x.srcEp).bind fun e => Map.find? e.fails p.src).getD 0
        let s := updEp x.srcEp (fun e => { e with fails := Map.del e.fails p.src }) s
        if n = 0 then endSend x St.ok 0 [] s else endSend x St.tlFlushFailed n [] s
    | none => s) s)

/-! ### ACK, NAK and ABANDON (R533, R541) -/

/-- R684: a round-trip sample of a peer, which is a free value: the model keeps no time below the stroke. -/
def rttSample (d : Nat) (s : State) : State :=
  let (v, s) := s.draw
  let sample := v % 65536 * 65536
  let upd (r : PeerRate) : PeerRate :=
    if r.measured = false then { r with srtt := sample, rttvar := sample / 2, measured := true, samples := r.samples + 1 }
    else
      let dev := if sample ≤ r.srtt then r.srtt - sample else sample - r.srtt
      { r with rttvar := r.rttvar - r.rttvar / 4 + dev / 4, srtt := r.srtt - r.srtt / 8 + sample / 8, samples := r.samples + 1 }
  let s := updPeer d (fun p => { p with rate := upd p.rate }) s
  s.setI Reg.TLT_PEER_RTO_SRTT d ((s.peerX d).rate.srtt / 65536)

/-- R522: the chunks that an ACK names. -/
def ackChunks (n ext : Nat) : List Nat :=
  let base := byteField ext 0 3
  if base = 0xFFFFFFFF then List.range n
  else List.range (min n base) ++ ((List.range 64).filter fun i => bit (byteField ext 4 11) i == 1).map (fun i => base + 1 + i)

/-- R541: chunks of a message are acknowledged. -/
def ackSend (x : Send) (p : TlPkt) (s : State) : State :=
  let new := (ackChunks x.packets p.ext).filter fun k => decide (k < x.packets) && !x.held.contains k
  if new = [] then s
  else
    let s := if new.any (fun k => !x.resent.contains k) then rttSample x.peer s else s
    let s := updSend x.peer x.msg (fun x => { x with
      held := new.foldl (fun l k => insertNat k l) x.held, chunkDue := x.chunkDue.filter fun c => !new.contains c.1 }) s
    let s := progress x.peer x.msg s
    if x.held.length + new.length = x.packets then endSend x St.ok 0 [] s else pump x.peer x.msg s

/-- WIRE_ACK_RECEIVE (R526, R537, R541, R642). -/
def execWireAckReceive (p : TlPkt) (s : State) : Outcome :=
  .next (rxIntro p (fun s =>
    let s := pathEcho p.src (byteField p.ext 13 13) s
    let s := updPeer p.src (fun d => { d with rate := { d.rate with acked := d.rate.acked + 1, ce := d.rate.ce + byteField p.ext 12 12 } }) s
    if bit p.flags 1 = 1 then
      if byteField p.ext 0 3 = 0xFFFFFFFF ∧ s.tlt.serves.any (fun y => y.peer == p.src && y.msg == p.msg && y.result.isSome) then
        dropServe p.src p.msg s
      else s
    else match s.send p.src p.msg with
      | some x => if x.carries ∨ x.op = 0xC then ackSend x p s else s
      | none => s) s)

/-- WIRE_NAK_RECEIVE (R533, R541, R564). -/
def execWireNakReceive (p : TlPkt) (s : State) : Outcome :=
  .next (rxIntro p (fun s =>
    let st := byteField p.ext 0 0
    let k := byteField p.ext 4 7
    let x := s.send p.src p.msg
    let s := (count Reg.TLT_NAK_RX_COUNT s).sets [(Reg.TLT_NAK_LAST_STATUS, st), (Reg.TLT_NAK_LAST_PEER, p.src),
      (Reg.TLT_NAK_LAST_ENDPOINT, (x.map (·.srcEp)).getD 0), (Reg.TLT_NAK_LAST_RECEIVED, 1)]
    match x with
    | none => s
    | some x =>
      if x.op = 0xC then (if st = St.receiverBusy then s else dropSend x.peer x.msg s)
      else if st = St.receiverBusy then
        let s := updPeer p.src (fun d => { d with rate := { d.rate with busy := d.rate.busy + 1 } }) s
        let b := x.busy + 1
        let s := updSend x.peer x.msg (fun x => { x with busy := b }) s
        if s.eff Reg.TLT_RETRY_BUSY_LIMIT < b then failSend x St.receiverBusy s
        else
          let wait := min (s.eff Reg.TLT_RETRY_BUSY_BASE * 2 ^ (b - 1)) (s.eff Reg.TLT_RETRY_RTO_MAX)
          updSend x.peer x.msg (fun x => { x with chunkDue := (x.chunkDue.filter fun c => c.1 != k) ++ [(k, s.stroke + wait)] }) s
      else endSend x st 0 [] s) s)

/-- WIRE_ABANDON_RECEIVE (R533): the ID is recorded complete with no completion. -/
def execWireAbandonReceive (p : TlPkt) (s : State) : Outcome :=
  .next (rxIntro p (fun s => byPlace p (fun s =>
    let s := dropServe p.src p.msg (dropRx p.src p.msg true s)
    ackAll false p 0 (laneSkip p (recordDone p.src p.msg St.ok 0 s))) s) s)

/-! ### Timers (R541) -/

/-- MESSAGE_TIMEOUT (R541, R542). -/
def execMessageTimeout (peer msg : Nat) (s : State) : Outcome :=
  .next <|
    match s.send peer msg with
    | none => s
    | some x =>
      if s.stroke < x.due then s
      else
        let tries := x.tries + 1
        if s.eff Reg.TLT_RETRY_LIMIT < tries then
          let s := count Reg.TLT_RETRY_EXC_COUNT s
          let s := if s.flag Reg.TLT_STATUS_RETRY_EXC then s else raise Ev.tltRetryExceeded peer peer (s.set Reg.TLT_STATUS_RETRY_EXC 1)
          if x.op = 0xC then dropSend peer msg s else failSend x St.retryExceeded s
        else
          let ks := if x.carries then (List.range (min x.next x.packets)).filter fun k => !x.held.contains k else if x.ready then [0] else []
          let s := ks.foldl (fun s k => sendChunk peer msg k true s) s
          let rto := min (2 * x.rto) (s.eff Reg.TLT_RETRY_RTO_MAX)
          let (v, s) := s.draw
          updSend peer msg (fun x => { x with tries := tries, rto := rto, due := s.stroke + rto + v % (rto / 8 + 1) }) s

/-- BUSY_BACKOFF_EXPIRY (R541): the chunk is resent; the message's timer is unchanged. -/
def execBusyBackoffExpiry (peer msg chunk : Nat) (s : State) : Outcome :=
  .next <|
    match s.send peer msg with
    | none => s
    | some x =>
      match x.chunkDue.find? fun c => c.1 == chunk with
      | some c =>
        if c.2 ≤ s.stroke then
          sendChunk peer msg chunk true (updSend peer msg (fun x => { x with chunkDue := x.chunkDue.filter fun c => c.1 != chunk }) s)
        else s
      | none => s

/-! ### Contexts (R544 to R546) -/

/-- R545: a held packet handled from check 5 onwards. -/
def rxHeld (p : TlPkt) (s : State) : State :=
  match p.op with
  | 4 => serveRead p s
  | 5 => rxReadResp p s
  | 6 => serveAtomic p s
  | 7 => rxAtomicResp p s
  | _ => if s.msgPlace p.src p.msg = .open_ then rxPlace p s else byPlace p id s

/-- R545, R546: the recall of a context has ended: its held packets are handled in order, or the endpoint is lost. -/
def recallDone (ep status : Nat) (s : State) : State :=
  match Map.find? s.tlt.eps ep with
  | none => s
  | some e =>
    if e.recalling = false then s
    else
      let held := s.tlt.recallHeld.filter fun p => p.dstEp == ep
      let s := s.updTlt (fun u => { u with recallHeld := s.tlt.recallHeld.filter fun p => p.dstEp != ep })
      if status = St.ok then
        let (room, s) := makeRoom s
        let s := touchEp ep (updEp ep (fun e => { e with recalling := false, onDie := room, host := if room then false else e.host }) s)
        ctxShow (held.foldl (fun s p => rxHeld p s) s)
      else
        let s := updEp ep (fun e => { e with recalling := false, lost := true, buffers := [] }) s
        let s := held.foldl (fun s p => refuse p St.tlNoEndpoint s) s
        let s := (s.tlt.sends.filter fun x => x.srcEp == ep && x.op != 0xC && x.dstEp != poolEp).foldl (fun s x => failSend x status s) s
        let s := failEpWork ep status (e.buffers.foldl (fun s q => finish q status 0 s) s)
        ctxShow (raiseTo (.ring e.ring) Ev.tltEpLost ep ep s)

/-- CONTEXT_RECALL_DONE (R545, R546). -/
def execContextRecallDone (ep status : Nat) (s : State) : Outcome := .next (recallDone ep status s)

/-! ### Aborts, recovery and resets (R268, R547, R550) -/

/-- R533, R547: an ABORT reaches a work entry of the engine. -/
def turelmAbort (seq st : Nat) (s : State) : State :=
  match s.tlt.sends.find? fun x => x.owner == .work seq with
  | some x => failSend x st s
  | none =>
    let s := s.updTlt (fun u => { u with eps := s.tlt.eps.map fun p => (p.1, { p.2 with buffers := p.2.buffers.filter fun q => q != seq }) })
    finish seq st 0 s

/-- R532, R268: an ABORT finds a message that had completed SENT. -/
def turelmAbortLate (niche tag : Nat) (s : State) : State :=
  match s.tlt.sends.find? fun x => x.niche == niche && x.tag == tag && x.op != 0xC && match x.owner with
      | .work q => (s.flight q).isNone
      | _ => false with
  | some x => failSend x St.aborted s
  | none => s

/-- R550: at entry to RECOVERY the device's own Turelm work in flight ends. -/
def turelmRecovery (s : State) : State :=
  let s := endSends (fun x => x.op != 0xC) St.abortedRecovery s
  tltShow (s.updTlt (fun u => { u with sends := [] }))

/-- R228: every window of a niche is revoked and every endpoint closed. -/
def turelmNicheReset (n : Nat) (s : State) : State :=
  let ws := (s.tlt.wins.filter fun p => p.2.niche == n && p.2.space != 2).map (·.1)
  let s := ws.foldl (fun s i => applyWinRevoke i none s) s
  ((s.tlt.eps.filter fun p => p.2.niche == n).map (·.1)).foldl (fun s ep => closeEp ep true s) s

end Sys2Proof.Machine
end

