-- ==== Sys2Proof/Machine/Fabric.lean ====
section
/-!
DEFINITION. The fabric unit's commands (R646 to R658): pool segments, grants, imports, apertures, templates, seeds, remote
register accesses from this side, and POOL_ATOMIC.
-/
namespace Sys2Proof.Machine

/-! ### Commands (R657) -/

/-- R661: the argument of a fabric command. -/
def fabArg (s : State) : Nat :=
  s.get Reg.FAB_CMD_ARG_AP * 2 ^ 62 + s.get Reg.FAB_CMD_ARG_RID * 2 ^ 46 + s.get Reg.FAB_CMD_ARG_SLOT * 2 ^ 40
    + s.get Reg.FAB_CMD_ARG_REOPEN * 2 ^ 39 + s.get Reg.FAB_CMD_ARG_ENTRY * 2 ^ 32 + s.get Reg.FAB_CMD_ARG_INDEX * 2 ^ 14 + s.get Reg.FAB_CMD_ARG_SEG

/-- A fabric command of the manager, on an object, for a niche. -/
def fabCmd (op : Nat) (who : Issuer) (niche obj : Nat) (desc : Option (Nat × Nat)) (act : State → CmdRes) (s : State) : Outcome :=
  let addr := if desc.isSome then 0 else s.get Reg.FAB_CMD_ADDR_ADDR
  .next <| regGate who 0x1000000 s (cmdStart Blk.fab ⟨op, who, niche, obj, fabArg s, addr, 0, desc⟩ (who.role == .manager) act)

/-- R185, R657: the refusal of a command that would change a niche. -/
def fabNiche (s : State) (n : Nat) : Option Nat :=
  match s.nicheRefusal n with
  | some st => some st
  | none => if s.tdiLocked n then some St.permission else none

/-! ### Segments (R646 to R650) -/

/-- R671: the registers of a segment. -/
def segShow (g : Nat) (s : State) : State :=
  match Map.find? s.fab.segs g with
  | none => s.setsI g [(Reg.FAB_SEG_INFO_STATE, 0), (Reg.FAB_SEG_INFO_RIGHTS, 0), (Reg.FAB_SEG_INFO_NICHE, 0), (Reg.FAB_SEG_INFO_SIZE_2M, 0),
      (Reg.FAB_SEG_KEY_KEY, 0), (Reg.FAB_SEG_ADDR_VALUE, 0)]
  | some x => s.setsI g [(Reg.FAB_SEG_INFO_NICHE, x.niche), (Reg.FAB_SEG_INFO_SIZE_2M, x.len / 2 ^ 21),
      (Reg.FAB_SEG_ADDR_VALUE, (s.fabId).getD 0 * 2 ^ 50 + x.off)]

/-- R647: the ranges of a segment descriptor. -/
def segValid (d : Nat) : Bool :=
  let off := byteField d 8 15
  decide (byteField d 2 2 < 8) && decide (byteField d 3 3 < 2) && decide (1 ≤ byteField d 4 7) && (off == 2 ^ 64 - 1 || off % 2 ^ 21 == 0)
    && byteField d 16 63 == 0 && decide (byteField d 0 1 < 4096)

/-- R646: where a segment of a descriptor lies in the pool region. -/
def segPlace (s : State) (d : Nat) : Option Nat :=
  let used := s.fab.segs.map fun p => (p.2.off, p.2.len)
  let len := byteField d 4 7 * 2 ^ 21
  let off := byteField d 8 15
  if off = 2 ^ 64 - 1 then lowestFit used (2 ^ 21) len s.fab.pool.2
  else if off + len ≤ s.fab.pool.2 ∧ used.all (fun u => decide (off + len ≤ u.1) || decide (u.1 + u.2 ≤ off)) then some off
  else none

/-- R647: whether a range last belonged to another niche. -/
def segForeign (s : State) (n off len : Nat) : Bool :=
  (List.range (len / 2 ^ 21)).any fun i => match Map.find? s.fab.owners (off / 2 ^ 21 + i) with
    | some m => m != n
    | none => false

/-- SEG_CREATE (R646, R647). -/
def execSegCreate (who : Issuer) (desc : Nat) (s : State) : Outcome :=
  let n := byteField desc 0 1 % 4096
  fabCmd 1 who n 0 (some (64, desc)) (fun s =>
    if segValid desc = false then .done St.invalid 0 s
    else match fabNiche s n with
      | some st => .done st 0 s
      | none => match segPlace s desc with
        | none => .done St.fabPoolFull 0 s
        | some off =>
          let len := byteField desc 4 7 * 2 ^ 21
          let (g, s) := freeIndex 4096 (s.fab.segs.map (·.1)) s
          let (i, s) := freeIndex 65536 s.winsTaken s
          match g, i with
          | some g, some i =>
            let zero := bit (byteField desc 3 3) 0 == 1 || segForeign s n off len
            let s := s.updFab (fun u => { u with segs := Map.put s.fab.segs g ⟨off, len, n, i, []⟩ })
            .running ((s.setI Reg.FAB_SEG_INFO_RIGHTS g (byteField desc 2 2)).defer (.segOpen g zero))
          | _, _ => .done St.noResource 0 s) s

/-- R646: the window of a segment. -/
def segWindow (s : State) (g : Nat) (x : Seg) : Window := ⟨0, 2, x.off, x.len, s.getI Reg.FAB_SEG_INFO_RIGHTS g, x.niche, 0⟩

/-- The object that a running fabric command reports. -/
def fabObject (obj : Nat) (s : State) : State := s.updCmds (fun _ => Map.upd s.cmds 14 fun p => { p with obj := obj })

/-- R647: at its boundary a segment is zeroed where it must be and opens; SEG_CREATE completes. -/
def applySegOpen (g : Nat) (zero : Bool) (s : State) : State :=
  match Map.find? s.fab.segs g with
  | none => s
  | some x =>
    let s := if zero then memZero s (s.fab.pool.1 + x.off) x.len else s
    let s := s.updFab (fun u => { u with owners := (List.range (x.len / 2 ^ 21)).foldl (fun m i => Map.put m (x.off / 2 ^ 21 + i) x.niche) s.fab.owners })
    let (k, s) := openWin x.win (segWindow s g x) s
    let s := segShow g (s.setsI g [(Reg.FAB_SEG_INFO_STATE, 1), (Reg.FAB_SEG_KEY_KEY, k)])
    if (Map.find? s.cmds 14).any (fun c => c.op == 1) then cmdEnd Blk.fab St.ok (fabObject g s) else s

/-- A command on an existing segment. -/
def segCmd (op : Nat) (who : Issuer) (desc : Option (Nat × Nat)) (act : Nat → Seg → State → CmdRes) (s : State) : Outcome :=
  let g := s.get Reg.FAB_CMD_ARG_SEG
  let n := match Map.find? s.fab.segs g with
    | some x => x.niche
    | none => 0
  fabCmd op who n g desc (fun s =>
    match Map.find? s.fab.segs g with
    | none => .done St.notFound g s
    | some x => if s.tdiLocked x.niche then .done St.permission g s else act g x s) s

/-- R650: a segment's range and descriptor return. -/
def freeSeg (g : Nat) (s : State) : State := segShow g (s.updFab (fun u => { u with segs := Map.del s.fab.segs g }))

/-- SEG_DESTROY (R650). -/
def execSegDestroy (who : Issuer) (s : State) : Outcome :=
  segCmd 2 who none (fun g _ s => if s.getI Reg.FAB_SEG_INFO_STATE g ≠ 2 then .done St.badState g s else .done St.ok g (freeSeg g s)) s

/-- SEG_GRANT (R648). -/
def execSegGrant (who : Issuer) (entry : Nat) (s : State) : Outcome :=
  segCmd 3 who (some (16, entry)) (fun g _ s =>
    if 8 ≤ byteField entry 4 4 ∨ byteField entry 5 15 ≠ 0 then .done St.invalid g s
    else .done St.ok g (s.defer (.segGrant g (s.get Reg.FAB_CMD_ARG_ENTRY) (entry % 2 ^ 128)))) s

/-- R648: at its boundary a grant entry applies. -/
def applySegGrant (g entry value : Nat) (s : State) : State :=
  (s.updFab (fun u => { u with segs := Map.upd s.fab.segs g fun x => { x with grants := Map.put x.grants entry value } }))

/-- SEG_REVOKE (R650): its completion is the revoke fence. -/
def execSegRevoke (who : Issuer) (s : State) : Outcome :=
  segCmd 4 who none (fun g _ s =>
    if s.getI Reg.FAB_SEG_INFO_STATE g ≠ 1 then .done St.badState g s
    else .running (s.defer (.segRevoke g (s.flag Reg.FAB_CMD_ARG_REOPEN)))) s

/-- R650: at its boundary a segment's generation rises; it reopens or becomes CLOSED. -/
def applySegRevoke (g : Nat) (reopen : Bool) (s : State) : State :=
  match Map.find? s.fab.segs g with
  | none => s
  | some x =>
    if (Map.find? s.tlt.wins x.win).isNone then
      (s.updTlt (fun u => { u with fences := s.tlt.fences ++ [⟨x.win, none, winKey x.win 0, x.niche⟩] }))
    else
      let (k, s) := closeWin x.win s
      let s := s.updFab (fun u => { u with segs := Map.upd s.fab.segs g fun y => { y with win := k / 256 } })
      let (k, s) := if reopen then openWin (k / 256) (segWindow s g x) s else (k, s)
      let s := s.setsI g [(Reg.FAB_SEG_INFO_STATE, if reopen then 1 else 2), (Reg.FAB_SEG_KEY_KEY, k)]
      (s.updTlt (fun u => { u with fences := s.tlt.fences ++ [⟨x.win, none, k, x.niche⟩] }))

/-- R650: a niche reset closes the niche's segments; teardown destroys them, and its imports with them. -/
def fabricNicheReset (n : Nat) (teardown : Bool) (s : State) : State :=
  let gs := (s.fab.segs.filter fun p => p.2.niche == n).map (·.1)
  let s := gs.foldl (fun s g => if s.getI Reg.FAB_SEG_INFO_STATE g = 1 then applySegRevoke g false s else s) s
  if teardown then
    let s := gs.foldl (fun s g => freeSeg g s) s
    (s.updFab (fun u => { u with imports := s.fab.imports.filter fun p => p.2.niche != n }))
  else s

/-! ### Imports and apertures (R651, R653) -/

/-- IMPORT_ADD (R651). -/
def execImportAdd (who : Issuer) (entry : Nat) (s : State) : Outcome :=
  let n := byteField entry 0 1 % 4096
  fabCmd 5 who n 0 (some (32, entry)) (fun s =>
    let base := byteField entry 8 15
    if 4096 ≤ byteField entry 0 1 ∨ 8 ≤ byteField entry 2 2 ∨ byteField entry 3 3 ≠ 0 ∨ byteField entry 16 23 = 0 ∨ byteField entry 24 31 ≠ 0 then
      .done St.invalid 0 s
    else if fabSpace base ≠ 0 then .done St.fabSpace 0 s
    else match fabNiche s n with
      | some st => .done st 0 s
      | none =>
        match freeIndex 16384 (s.fab.imports.map (·.1)) s with
        | (some i, s) => .done St.ok i (s.updFab (fun _ => { s.fab with
            imports := Map.put s.fab.imports i ⟨n, byteField entry 2 2, byteField entry 4 7, base, byteField entry 16 23⟩ }))
        | (none, s) => .done St.noResource 0 s) s

/-- IMPORT_DEL (R651). -/
def execImportDel (who : Issuer) (s : State) : Outcome :=
  let i := s.get Reg.FAB_CMD_ARG_INDEX
  let n := match Map.find? s.fab.imports i with
    | some x => x.niche
    | none => 0
  fabCmd 6 who n i none (fun s =>
    match Map.find? s.fab.imports i with
    | none => .done St.notFound i s
    | some x =>
      if s.tdiLocked x.niche then .done St.permission i s
      else .done St.ok i (s.updFab (fun u => { u with imports := Map.del s.fab.imports i }))) s

/-- APERTURE_SET (R653, R657). -/
def execApertureSet (who : Issuer) (s : State) : Outcome :=
  let fn := fnKey (s.get Reg.FAB_CMD_ARG_AP) (s.get Reg.FAB_CMD_ARG_RID)
  let k := aptKey fn (s.get Reg.FAB_CMD_ARG_SLOT)
  let i := s.get Reg.FAB_CMD_ARG_INDEX
  fabCmd 7 who 0 i none (fun s =>
    match Map.find? s.hif.fns fn with
    | none => .done St.notFound i s
    | some f =>
      if f.kind ≠ 3 ∨ f.vf ≠ 0 then .done St.notFound i s
      else if i = 0x3FFFF then .done St.ok i (s.updFab (fun u => { u with apertures := Map.del s.fab.apertures k }))
      else match Map.find? s.fab.imports i with
        | none => .done St.notFound i s
        | some x =>
          if s.flagI Reg.NCH_INFO_BOUND x.niche = false ∨ s.nicheFn x.niche ≠ fn ∨ s.tdiLocked x.niche then .done St.permission i s
          else .done St.ok i (s.updFab (fun u => { u with apertures := Map.put s.fab.apertures k i }))) s

/-! ### Templates, seeds and remote registers (R641, R655, R657) -/

/-- FAB_TEMPLATE_WRITE (R641, R657). -/
def execFabTemplateWrite (who : Issuer) (template : Nat) (s : State) : Outcome :=
  let i := s.get Reg.FAB_CMD_ARG_INDEX
  fabCmd 8 who 0 i (some (64, template)) (fun s =>
    if 4096 ≤ i ∨ 16 ≤ byteField template 0 0 ∨ 4 ≤ byteField template 1 1 ∨ byteField template 5 7 ≠ 0 ∨ byteField template 14 15 ≠ 0
        ∨ byteField template 32 63 ≠ 0 then .done St.invalid i s
    else .done St.ok i (s.updFab (fun u => { u with templates := Map.put s.fab.templates i (template % 2 ^ 512) }))) s

/-- SEED_WRITE (R657). -/
def execSeedWrite (who : Issuer) (addr : Nat) (s : State) : Outcome :=
  let i := s.get Reg.FAB_CMD_ARG_SLOT
  fabCmd 9 who 0 i (some (16, addr)) (fun s =>
    if 16 ≤ i then .done St.invalid i s
    else
      let a := ofBE (toBytes 16 addr)
      .done St.ok i (s.updFab (fun u => { u with seeds := if a = 0 then Map.del s.fab.seeds i else Map.put s.fab.seeds i a }))) s

/-- R655: an access to a register of another device is sent. -/
def rmtCmd (op : Nat) (who : Issuer) (write : Bool) (s : State) : Outcome :=
  fabCmd op who 0 0 none (fun s =>
    let a := s.get Reg.FAB_RMT_ADDR_ADDR
    let d := fabDev a
    if fabSpace a ≠ 2 then .done St.fabSpace 0 s
    else if fabOff a % 8 ≠ 0 then .done St.invalid 0 s
    else if peerStatus s d ≠ St.ok then .done (peerStatus s d) 0 s
    else if s.sendRoom d = false then .done St.busy 0 s
    else .running (newSend { Send.blank with peer := d, op := 0x49, owner := .reg, atop := if write then 1 else 0, off := a
                                             operand := if write then s.get Reg.FAB_RMT_DATA_DATA else 0 } s)) s

/-- RMT_READ (R655). -/
def execRmtRead (who : Issuer) (s : State) : Outcome := rmtCmd 10 who false s

/-- RMT_WRITE (R655). -/
def execRmtWrite (who : Issuer) (s : State) : Outcome := rmtCmd 11 who true s

/-- REG_RESP (R655): the access completes, and its result is acknowledged. -/
def execRegResp (p : TlPkt) (s : State) : Outcome :=
  .next (rxIntro p (fun s =>
    let s := ackAll true p 0 s
    match s.send p.src p.msg with
    | some x => if x.op = 0x49 then endSend x (byteField p.ext 0 0) 0 (toBytes 8 (byteField p.ext 8 15)) s else s
    | none => s) s)

/-! ### Pool atomics (R654) -/

/-- POOL_ATOMIC (R654). -/
def execPoolAtomic (w : Work) (s : State) : Outcome :=
  tlWork w 0xC0 (fun f s =>
    let key := byteField f.entry 4 7
    let addr := byteField f.entry 8 15
    let atop := byteField f.entry 16 16
    let operand := byteField f.entry 24 31
    let compare := byteField f.entry 32 39
    if 2 < atop ∨ addr % 8 ≠ 0 then finish f.seq St.invalid 0 (begin_ f s)
    else
      let st := poolStatus s f.niche key addr 8 rightAtomic St.fabImport
      if st ≠ St.ok then finish f.seq st 0 (begin_ f s)
      else if s.poolHere 3 addr then
        match localPool s key (fabOff addr) 8 rightAtomic with
        | .error e => finish f.seq e 0 (begin_ f (poolRefused ((s.fabId).getD 0) key e s))
        | .ok _ =>
          let (old, s) := atomicAt (s.fab.pool.1 + fabOff addr) atop operand compare s
          finish f.seq St.ok old (begin_ f s)
      else if s.sendRoom (fabDev addr) = false then s
      else match s.importFor f.niche key addr 8 rightAtomic with
        | none => s
        | some i => newSend { poolSend 6 (.work f.seq) i addr 0 s with
            ring := f.ring, port := f.port, tag := wTag f.entry, atop := atop, operand := operand, compare := compare } (begin_ f s)) s

end Sys2Proof.Machine
end

