-- ==== Sys2Proof/Machine/Discovery.lean ====
section
/-!
DEFINITION. The fabric unit at work (R631 to R645): HELLOs, the election, device IDs, membership, routes, and the upkeep of
paths.
-/
namespace Sys2Proof.Machine

/-! ### Control packets (R633) -/

/-- R632: this device's underlay address. -/
def State.ulAddr (s : State) : Nat := s.get Reg.FAB_UL_ADDR_HI_ADDR * 2 ^ 64 + s.get Reg.FAB_UL_ADDR_LO_ADDR

/-- An address as 16 bytes in wire order, and back. -/
def wireAddr (a : Nat) : Nat := ofBytes (toBE 16 a)

/-- R112: the device's UID. -/
def State.uid (s : State) : Nat := s.get Reg.ARM_DEVICE_UID_VALUE

/-- R631: the MACs that carry fabric traffic and are up. -/
def State.fabMacs (s : State) : List Nat := (List.range 16).filter fun m => s.flagI Reg.FAB_PORT_FABRIC m && s.sch.linkUp.contains m

/-- What has been heard of a device with an ID. -/
def State.heardId (s : State) (d : Nat) : Option Heard := s.fab.heard.find? fun h => h.id == some d

/-- The MAC on which a control packet to a device leaves: its neighbour's, its route's, or the lowest fabric MAC. -/
def State.ctlMac (s : State) (d : Nat) : Nat :=
  match s.heardId d, s.nextHops d, s.fabMacs with
  | some h, _, _ => h.mac
  | none, m :: _, _ => m
  | none, [], m :: _ => m
  | none, [], [] => 0

/-- R633: a control packet to a device at an address. -/
def ctlSend (d addr : Nat) (p : TlPkt) (s : State) : State := txCount 0 (sendControl (s.ctlMac d) addr { p with dst := d } s)

/-- R633, R664: a HELLO; `known` clear asks the coordinator for a full list. -/
def State.helloPkt (s : State) (known : Bool) : TlPkt :=
  { s.tlHead 0x40 0 with
    ext := s.uid + s.get Reg.FAB_CFG_FABRIC_ID * 2 ^ 64 + s.get Reg.FAB_CFG_PRIORITY * 2 ^ 96
      + ((if s.fabId.isSome then 1 else 0) + (if s.get Reg.FAB_ID_ROLE = 4 then 2 else 0) + (if known then 4 else 0)) * 2 ^ 104
      + (s.fabId).getD 0 * 2 ^ 112 + s.get Reg.FAB_ID_COORD_ID * 2 ^ 128 + s.eff Reg.FAB_TIMING_HELLO_PERIOD * 2 ^ 144
      + s.get Reg.JNL_EPOCH_EPOCH * 2 ^ 160 + wireAddr s.ulAddr * 2 ^ 256 }

/-- R631, R635: HELLOs go on each fabric port, or to each seed. -/
def sendHellos (known : Bool) (s : State) : State :=
  let p := s.helloPkt known
  if s.flag Reg.FAB_CFG_MODE then s.fab.seeds.foldl (fun s e => ctlSend 0 e.2 p s) s
  else s.fabMacs.foldl (fun s m => txCount 0 (sendControl m 0 p s)) s

/-- R566, R633: a received control packet is counted, and dropped for its checksum or version or while the fabric is disabled. -/
def fabRx (p : TlPkt) (act : State → State) (s : State) : State :=
  let s := addI Reg.TLT_RX_PKT_COUNT 0 1 s
  if p.csumBad then count Reg.TLT_CSUM_DROP_COUNT s
  else if p.version ≠ 1 ∨ s.flag Reg.FAB_CFG_ENABLE = false then s
  else act s

/-! ### Election (R634, R635) -/

/-- R634: one candidate is better than another: PRIORITY first, then the lower UID. -/
def better (a b : Nat × Nat) : Bool := decide (b.1 < a.1) || (a.1 == b.1 && decide (a.2 < b.2))

/-- R634: the candidates that the device knows: itself, those it has heard, and those that they name; each with
PRIORITY, UID, and ID. One known only by its ID counts as the HELLO that names it. -/
def State.candidates (s : State) : List ((Nat × Nat) × Option Nat) :=
  let self := if s.get Reg.FAB_CFG_PRIORITY = 0 then [] else [((s.get Reg.FAB_CFG_PRIORITY, s.uid), s.fabId)]
  let direct := (s.fab.heard.filter fun h => h.prio != 0).map fun h => ((h.prio, h.uid), h.id)
  let named := s.fab.heard.filterMap fun h => match h.names with
    | some c => if h.id = some c ∨ s.fabId = some c ∨ (s.heardId c).isSome then none else some ((h.prio, h.uid), some c)
    | none => none
  self ++ direct ++ named

/-- R634: the best candidate. -/
def State.bestCandidate (s : State) : Option ((Nat × Nat) × Option Nat) :=
  s.candidates.foldl (fun b c => match b with
    | none => some c
    | some x => if better c.1 x.1 then some c else some x) none

/-- R634: whether this device is the best candidate. -/
def State.selfBest (s : State) : Bool := match s.bestCandidate with
  | some c => c.1.2 == s.uid && c.1.1 == s.get Reg.FAB_CFG_PRIORITY
  | none => false

/-- R634: the strokes that COORD_ID must stand unchanged. -/
def electWait (s : State) : Nat := s.eff Reg.FAB_TIMING_ELECT_WAIT * s.eff Reg.FAB_TIMING_HELLO_PERIOD

/-- R634, R635: the election starts to settle anew. -/
def electAgain (s : State) : State :=
  ((s.updFab (fun u => { u with settleAt := s.stk.boundary + electWait s }))).set Reg.FAB_ID_COORD_KNOWN 0

/-- R634, R635, R659: COORD_ID follows the best candidate; a change restarts the wait, and once a coordinator was known it is
a change of coordinator. -/
def followBest (s : State) : State :=
  let id := (s.bestCandidate.bind (·.2)).getD 0
  if s.get Reg.FAB_ID_COORD_ID = id then s
  else
    let known := s.flag Reg.FAB_ID_COORD_KNOWN
    let s := electAgain (s.set Reg.FAB_ID_COORD_ID id)
    if known then raise Ev.fabCoordChange 0 id (s.set Reg.FAB_STATUS_COORD_CHANGE 1) else s

/-- R636: the ID that the device asks for: valid, static, ID. -/
def State.preferred (s : State) : Option (Bool × Nat) :=
  if s.flag Reg.FAB_CFG_ID_STATIC then some (true, s.get Reg.FAB_ID_STATIC_ID) else s.fab.lastId.map fun d => (false, d)

/-- R636: what the coordinator answers to a request of a UID: the RESULT and the ID. -/
def decideId (s : State) (uid : Nat) (pref : Option (Bool × Nat)) : Nat × Nat :=
  let holder (d : Nat) : Option Nat := (s.member d).map (·.uid)
  let own := (s.fab.members.find? fun m => m.uid == uid).map (·.id)
  let lowest := lowestFree 16384 0 (s.fab.members.map (·.id))
  match pref with
  | some (static, d) =>
    if holder d = none ∨ holder d = some uid then (0, d)
    else if static then (1, d)
    else match lowest with
      | some k => if 16384 ≤ k then (2, 0) else (0, k)
      | none => (2, 0)
  | none => match own, lowest with
    | some d, _ => (0, d)
    | none, some k => if 16384 ≤ k then (2, 0) else (0, k)
    | none, none => (2, 0)

/-- R633, R635: an ID_REQUEST to the coordinator. -/
def sendIdRequest (s : State) : State :=
  let pref := match s.preferred with
    | some (st, d) => 2 ^ 15 + (if st then 2 ^ 14 else 0) + d
    | none => 0
  let c := s.get Reg.FAB_ID_COORD_ID
  let addr := match s.heardId c with
    | some h => h.addr
    | none => ((s.member c).map (·.addr)).getD 0
  ctlSend c addr { s.tlHead 0x41 c with ext := s.uid + pref * 2 ^ 64 + s.get Reg.JNL_EPOCH_EPOCH * 2 ^ 96 } s

/-! ### Membership (R637, R639) -/

/-- R633: the bytes of a record of a MEMBER_UPDATE. -/
def memberRec (r : Bool × Member) : Nat :=
  r.2.id + (if r.1 then 1 else 0) * 2 ^ 16 + r.2.epoch * 2 ^ 32 + r.2.uid * 2 ^ 64 + wireAddr r.2.addr * 2 ^ 128

/-- R633: a MEMBER_UPDATE. -/
def updatePkt (s : State) (v : Nat) (recs : List (Bool × Member)) (d : Nat) : TlPkt :=
  { s.tlHead 0x44 d with ext := v + recs.length * 2 ^ 32 + (recs.foldr (fun (r : Bool × Member) a => memberRec r + a * 2 ^ 256) 0) * 2 ^ 256 }

/-- R639: the updates that a member has not acknowledged are sent to it. -/
def resendUpdates (s : State) : State :=
  s.fab.acks.foldl (fun s a => match Map.find? s.fab.updates a.2 with
    | some recs => ctlSend a.1 (((s.member a.1).map (·.addr)).getD 0) (updatePkt s a.2 recs a.1) s
    | none => s) s

/-- R639: an update is issued to members, at most 64 records in each packet, under rising VERSIONs; the coordinator applies it
itself at the next boundary. -/
def issueUpdate (fuel : Nat) (recs : List (Bool × Member)) (to_ : List Nat) (own : Bool) (s : State) : State :=
  match fuel with
  | 0 => s
  | fuel + 1 =>
    if recs = [] then s
    else
      let v := (s.fab.version + 1) % 2 ^ 32
      let part := recs.take 64
      let s := s.updFab (fun u => { u with version := v, updates := Map.put s.fab.updates v part, acks := s.fab.acks ++ to_.map fun d => (d, v) })
      let s := to_.foldl (fun s d => ctlSend d (((s.member d).map (·.addr)).getD 0) (updatePkt s v part d) s) s
      let s := if own then s.defer (.fabMembers v part) else s
      issueUpdate fuel (recs.drop 64) to_ own s

/-- The members other than this device. -/
def State.others (s : State) : List Nat := (s.fab.members.filter fun m => m.uid != s.uid).map (·.id)

/-- R639: the coordinator records changes of membership and sends them to every member. -/
def memberChange (recs : List (Bool × Member)) (s : State) : State :=
  let keep := s.fab.members.filter fun m => recs.all fun r => r.2.id != m.id
  let s := s.updFab (fun u => { u with members := keep ++ (recs.filter (·.1)).map (·.2) })
  issueUpdate (recs.length + 1) recs s.others true s

/-- R637: the full list to some members. -/
def sendFull (to_ : List Nat) (own : Bool) (s : State) : State :=
  issueUpdate (s.fab.members.length + 1) (s.fab.members.map fun m => (true, m)) to_ own s

/-- R637: a new coordinator's table: its list as a member, and the IDs that members claim in their HELLOs. -/
def collectTable (s : State) : State :=
  let heard := s.fab.heard.filterMap fun h => match h.id with
    | some d => if (s.member d).isSome then none else some (⟨d, h.uid, h.epoch, h.addr⟩ : Member)
    | none => none
  (s.updFab (fun u => { u with members := s.fab.members ++ heard }))

/-- R635, R636: the device becomes coordinator and, if it has no ID, assigns itself one. -/
def becomeCoordinator (s : State) : State :=
  let s := collectTable ((s.set Reg.FAB_ID_ROLE 4).set Reg.FAB_ID_COORD_KNOWN 1)
  let s := match s.fabId with
    | some d =>
      let s := s.set Reg.FAB_ID_COORD_ID d
      (s.updFab (fun u => { u with members := (s.fab.members.filter fun m => m.id != d) ++ [(⟨d, s.uid, s.get Reg.JNL_EPOCH_EPOCH, s.ulAddr⟩ : Member)] }))
    | none =>
      match decideId s s.uid s.preferred with
      | (0, d) =>
        let s := s.updFab (fun u => { u with members := s.fab.members ++ [(⟨d, s.uid, s.get Reg.JNL_EPOCH_EPOCH, s.ulAddr⟩ : Member)] })
        (s.set Reg.FAB_ID_COORD_ID d).defer (.fabId d)
      | (r, d) => raise Ev.fabIdLost 0 (d + r * 2 ^ 16) (s.set Reg.FAB_STATUS_ID_REFUSED 1)
  sendFull s.others true s

/-- ELECTION_SETTLED (R634, R635). -/
def execElectionSettled (s : State) : Outcome :=
  .next <|
    let role := s.get Reg.FAB_ID_ROLE
    if role = 0 ∨ s.flag Reg.FAB_ID_COORD_KNOWN ∨ s.stk.boundary < s.fab.settleAt ∨ s.bestCandidate.isNone then s
    else if s.selfBest then (if role = 4 then s.set Reg.FAB_ID_COORD_KNOWN 1 else becomeCoordinator s)
    else
      let s := s.set Reg.FAB_ID_COORD_KNOWN 1
      if role = 1 ∨ role = 2 then sendIdRequest (s.set Reg.FAB_ID_ROLE 2) else s.set Reg.FAB_ID_ROLE 3

/-- The boundary from which a device heard of counts as silent (R635, R644). -/
def Heard.deadAt (h : Heard) (s : State) : Nat := h.at_ + s.eff Reg.FAB_TIMING_DEAD_HELLOS * h.period

/-- COORDINATOR_TIMEOUT (R635): nothing has been heard of the coordinator for DEAD_HELLOS periods. -/
def execCoordinatorTimeout (s : State) : Outcome :=
  .next <|
    let c := s.get Reg.FAB_ID_COORD_ID
    let voice (h : Heard) : Bool := h.id == some c || h.names == some c
    if s.get Reg.FAB_ID_ROLE ≠ 3 ∨ s.fab.heard.any (fun h => voice h && decide (s.stk.boundary < h.deadAt s)) then s
    else
      let s := s.updFab (fun u => { u with heard := s.fab.heard.filter fun h => !voice h })
      electAgain (followBest s)

/-! ### Neighbours and routes (R644) -/

/-- R644: the neighbours: devices with an ID heard on a fabric port within DEAD_HELLOS periods. -/
def State.neighbours (s : State) : List (Nat × Nat) :=
  s.fab.heard.filterMap fun h => match h.id with
    | some d => if s.stk.boundary < h.deadAt s then some (d, h.mac) else none
    | none => none

/-- R633: this device's LINK_STATE. -/
def linkPkt (s : State) : TlPkt :=
  let ns := s.neighbours.take 16
  { s.tlHead 0x48 0 with ext := s.fab.linkSeq + ns.length * 2 ^ 32 + (ns.foldr (fun n a => n.1 + n.2 * 2 ^ 16 + a * 2 ^ 32) 0) * 2 ^ 64 }

/-- R644: the link state changed or is due: it is sent on every fabric port, and the routes are to be computed again. -/
def sendLinkState (s : State) : State :=
  if s.flag Reg.FAB_CFG_MODE ∨ s.fabId.isNone then s
  else
    let s := s.updFab (fun u => { u with linkSeq := (s.fab.linkSeq + 1) % 2 ^ 32, linkAt := s.stk.boundary + 64 * s.eff Reg.FAB_TIMING_HELLO_PERIOD, routeDue := some (s.fab.routeDue.getD (s.stk.boundary + 64)) })
    s.fabMacs.foldl (fun s m => txCount 0 (sendControl m 0 (linkPkt s) s)) s

/-- LINK_STATE_TIMER (R644). -/
def execLinkStateTimer (s : State) : Outcome :=
  .next <| if s.flag Reg.FAB_CFG_ENABLE ∧ s.fab.linkAt ≤ s.stk.boundary then sendLinkState s else s

/-- LINK_STATE (R644): a newer one is kept and flooded. -/
def execLinkState (mac : Nat) (p : TlPkt) (s : State) : Outcome :=
  .next <| fabRx p (fun s =>
    let seq := byteField p.ext 0 3
    let newer := match Map.find? s.fab.linkStates p.src with
      | some (old, _) => decide (0 < ahead 32 seq old)
      | none => true
    if s.flag Reg.FAB_CFG_MODE ∨ newer = false ∨ s.fabId = some p.src then s
    else
      let ns := (List.range (min 16 (byteField p.ext 4 4))).map fun k => (byteField p.ext (8 + 4 * k) (9 + 4 * k) % 2 ^ 14, byteField p.ext (10 + 4 * k) (10 + 4 * k))
      let s := s.updFab (fun u => { u with linkStates := Map.put s.fab.linkStates p.src (seq, ns), routeDue := some (s.fab.routeDue.getD (s.stk.boundary + 64)) })
      (s.fabMacs.filter fun m => m != mac).foldl (fun s m => txCount 0 (sendControl m 0 p s)) s) s

/-- R644: the devices one hop beyond a set, with the first-hop ports that lead there. -/
def hopOut (s : State) (known : List Nat) (front : List (Nat × List Nat)) : List (Nat × List Nat) :=
  let reach := front.flatMap fun f => match Map.find? s.fab.linkStates f.1 with
    | some (_, ns) => (ns.map (·.1)).map fun d => (d, f.2)
    | none => []
  let ds := (reach.filter fun r => !known.contains r.1).foldl (fun m r => insertNat r.1 m) []
  ds.map fun d => (d, (((reach.filter fun r => r.1 == d).flatMap (·.2)).foldl (fun m p => insertNat p m) []).take 4)

/-- R644: the shortest routes, hop by hop up to 8: device, hops, ports. -/
def routesFrom (s : State) (fuel hops : Nat) (known : List Nat) (front : List (Nat × List Nat)) : List (Nat × Nat × List Nat) :=
  match fuel with
  | 0 => []
  | fuel + 1 =>
    if front = [] then []
    else front.map (fun f => (f.1, hops, f.2)) ++ routesFrom s fuel (hops + 1) (known ++ front.map (·.1)) (hopOut s (known ++ front.map (·.1)) front)

/-- R644: the first hops: the neighbours and the ports to each. -/
def firstHops (s : State) : List (Nat × List Nat) :=
  let ds := s.neighbours.foldl (fun m n => insertNat n.1 m) []
  ds.map fun d => (d, ((s.neighbours.filter fun n => n.1 == d).foldl (fun m n => insertNat n.2 m) []).take 4)

/-- ROUTE_TABLE_SWITCH (R644, R669). -/
def execRouteTableSwitch (s : State) : Outcome :=
  .next <|
    if s.fab.routeDue.isNone then s
    else
      let self := match s.fabId with
        | some d => [d]
        | none => []
      let rs : List (Nat × Nat × List Nat) := routesFrom s 8 1 self (firstHops s)
      let s := s.updFab (fun u => { u with routes := rs.foldl (fun (m : Map (List Nat)) (r : Nat × Nat × List Nat) => Map.put m r.1 r.2.2) [], routeDue := none })
      s.others.foldl (fun s d => s.setI Reg.FAB_PEER_INFO_HOPS d (match rs.find? (fun (r : Nat × Nat × List Nat) => r.1 == d) with
        | some r => r.2.1
        | none => 15)) s

/-- R644, R674: a neighbour leaves the list. -/
def neighbourGone (h : Heard) (s : State) : State :=
  let s := s.updFab (fun u => { u with heard := s.fab.heard.filter fun x => x != h })
  let s := s.setsI h.mac [(Reg.FAB_PORT_NEIGHBOUR_VALID, 0), (Reg.FAB_PORT_NEIGHBOUR, 0)]
  let s := match h.id with
    | some d => s.setI Reg.FAB_PEER_INFO_NEIGHBOUR d 0
    | none => s
  sendLinkState s

/-- NEIGHBOUR_TIMEOUT (R644). -/
def execNeighbourTimeout (mac : Nat) (s : State) : Outcome :=
  .next <|
    match s.fab.heard.find? fun h => h.mac == mac && decide (h.deadAt s ≤ s.stk.boundary) with
    | some h => followBest (neighbourGone h s)
    | none => s

/-! ### Enabling (R631, R635) -/

/-- R663: FAB_CFG as one value. -/
def fabCfg (s : State) : Nat :=
  s.get Reg.FAB_CFG_FABRIC_ID * 2 ^ 32 + s.get Reg.FAB_CFG_PRIORITY * 2 ^ 24 + s.get Reg.FAB_CFG_MODE * 2 ^ 23 + s.get Reg.FAB_CFG_ENABLE * 2 ^ 22
    + s.get Reg.FAB_CFG_RMGMT_ALLOW * 2 ^ 21 + s.get Reg.FAB_CFG_ID_STATIC * 2 ^ 20 + s.get Reg.FAB_CFG_POOL_QUEUE

/-- R635: discovery starts. -/
def fabricStart (s : State) : State :=
  let s := (s.set Reg.FAB_ID_ROLE 1).set Reg.FAB_ID_COORD_ID 0
  let s := s.updFab (fun u => { u with heard := [], helloAt := s.stk.boundary, linkAt := s.stk.boundary, asking := false })
  electAgain (followBest s)

/-- R635: the device leaves the fabric: its ID is released, the preferred ID kept. -/
def fabricStop (s : State) : State :=
  let s := s.others.foldl (fun s d => dropPaths d (s.setsI d [(Reg.FAB_PEER_INFO_PRESENT, 0), (Reg.FAB_PEER_INFO_NEIGHBOUR, 0),
    (Reg.FAB_PEER_UID_VALUE, 0)])) s
  let s := s.updFab (fun u => { u with heard := [], members := [], updates := [], acks := [], linkStates := [], routes := [], routeDue := none })
  s.sets [(Reg.FAB_ID_VALID, 0), (Reg.FAB_ID_COORD_KNOWN, 0), (Reg.FAB_ID_ROLE, 0), (Reg.FAB_ID_COORD_ID, 0), (Reg.FAB_ID_ID, 0), (Reg.FAB_MEMBERS_COUNT, 0)]

/-- R631, R663: FAB_CFG is written. -/
def fabCfgWrite (who : Issuer) (value : Nat) (s : State) : State :=
  setGate who 0x1000020 s fun s =>
    let before := fabCfg s
    let on := s.flag Reg.FAB_CFG_ENABLE
    if on ∧ (bits value 63 32 ≠ s.get Reg.FAB_CFG_FABRIC_ID ∨ bit value 23 ≠ s.get Reg.FAB_CFG_MODE) then boundViolation 0x1000020 s
    else
      let s := s.sets [(Reg.FAB_CFG_FABRIC_ID, bits value 63 32), (Reg.FAB_CFG_PRIORITY, bits value 31 24), (Reg.FAB_CFG_MODE, bit value 23),
        (Reg.FAB_CFG_ENABLE, bit value 22), (Reg.FAB_CFG_RMGMT_ALLOW, bit value 21), (Reg.FAB_CFG_ID_STATIC, bit value 20),
        (Reg.FAB_CFG_POOL_QUEUE, bits value 16 0)]
      let s := jRegWrite who 0 0x1000020 value before 0 s
      if bit value 22 = 1 ∧ on = false then fabricStart s else if bit value 22 = 0 ∧ on then fabricStop s else s

/-- FABRIC_ENABLE (R635). -/
def execFabricEnable (who : Issuer) (value : Nat) (s : State) : Outcome := .next (fabCfgWrite who (value ||| 2 ^ 22) s)

/-- FABRIC_DISABLE (R635). -/
def execFabricDisable (who : Issuer) (value : Nat) (s : State) : Outcome :=
  .next (fabCfgWrite who (value - bit value 22 * 2 ^ 22) s)

/-- HELLO_TIMER (R635, R639): HELLOs, and what is retried with them. -/
def execHelloTimer (s : State) : Outcome :=
  .next <|
    if s.flag Reg.FAB_CFG_ENABLE = false ∨ s.stk.boundary < s.fab.helloAt then s
    else
      let s := s.updFab (fun u => { u with helloAt := s.stk.boundary + s.eff Reg.FAB_TIMING_HELLO_PERIOD })
      let s := sendHellos (s.flag Reg.FAB_ID_COORD_KNOWN && !s.fab.asking) s
      let s := if s.get Reg.FAB_ID_ROLE = 2 then sendIdRequest s else s
      if s.get Reg.FAB_ID_ROLE = 4 then resendUpdates s else s

/-! ### Received control packets (R633) -/

/-- R633, R667: a HELLO of another fabric. -/
def foreignHello (s : State) : State := (count Reg.FAB_FOREIGN_HELLO_COUNT s).set Reg.FAB_STATUS_FOREIGN_HELLO 1

/-- R638: the coordinator revokes an ID that a UID may not keep. -/
def sendRevoke (uid d addr : Nat) (s : State) : State := ctlSend d addr { s.tlHead 0x43 d with ext := uid + d * 2 ^ 64 } s

/-- R637 to R639: what the coordinator learns from a HELLO: a claim of an ID, and its journal epoch. -/
def coordHears (h : Heard) (asks : Bool) (s : State) : State :=
  match h.id with
  | none => s
  | some d =>
    let s := match s.member d with
      | none => memberChange [(true, ⟨d, h.uid, h.epoch, h.addr⟩)] s
      | some m =>
        if m.uid ≠ h.uid then
          (if h.uid < m.uid then memberChange [(true, ⟨d, h.uid, h.epoch, h.addr⟩)] (sendRevoke m.uid d m.addr s) else sendRevoke h.uid d h.addr s)
        else if m.epoch ≠ h.epoch then memberChange [(true, ⟨d, h.uid, h.epoch, h.addr⟩)] s
        else s
    if asks then sendFull [d] false s else s

/-- R638: this device's ID is claimed by a lower UID, and it is itself the coordinator: it gives the ID up. -/
def ownClash (h : Heard) (s : State) : State :=
  if h.id.isSome ∧ h.id = s.fabId ∧ h.uid < s.uid then s.defer .fabIdLost else s

/-- HELLO (R633 to R639, R644, R674). -/
def execHello (mac : Nat) (p : TlPkt) (s : State) : Outcome :=
  .next <| fabRx p (fun s =>
    let e := p.ext
    let fl := byteField e 13 13
    if byteField e 8 11 ≠ s.get Reg.FAB_CFG_FABRIC_ID then foreignHello s
    else
      let h : Heard := { uid := byteField e 0 7, prio := byteField e 12 12, id := if bit fl 0 = 1 then some (byteField e 14 15 % 2 ^ 14) else none
                         names := if bit fl 2 = 1 then some (byteField e 16 17 % 2 ^ 14) else none, addr := ofBE (toBytes 16 (byteField e 32 47))
                         epoch := byteField e 20 23, period := max 1 (byteField e 18 19), mac := mac, at_ := s.stk.boundary }
      let old := s.fab.heard.find? fun x => x.uid == h.uid && x.mac == h.mac
      let fresh := (old.map (·.id)) != some h.id
      let s := s.updFab (fun u => { u with heard := (s.fab.heard.filter fun x => !(x.uid == h.uid && x.mac == h.mac)) ++ [h] })
      let direct := s.flag Reg.FAB_CFG_MODE = false
      let s := if direct then s.setsI mac [(Reg.FAB_PORT_NEIGHBOUR_VALID, 1), (Reg.FAB_PORT_NEIGHBOUR, h.id.getD 0)] else s
      let s := match h.id with
        | some d => if direct then s.setI Reg.FAB_PEER_INFO_NEIGHBOUR d 1 else s
        | none => s
      let s := followBest s
      let s := if s.get Reg.FAB_ID_ROLE = 4 then ownClash h (coordHears h (bit fl 2 == 0) s) else s
      if fresh ∧ h.id.isSome then sendLinkState s else s) s

/-- ID_REQUEST (R636, R639). -/
def execIdRequest (p : TlPkt) (s : State) : Outcome :=
  .next <| fabRx p (fun s =>
    if s.get Reg.FAB_ID_ROLE ≠ 4 then s
    else
      let uid := byteField p.ext 0 7
      let pref := byteField p.ext 8 9
      let (r, d) := decideId s uid (if bit pref 15 = 1 then some (bit pref 14 == 1, pref % 2 ^ 14) else none)
      let h := s.fab.heard.find? fun x => x.uid == uid
      let addr := (h.map (·.addr)).getD 0
      let m : Member := ⟨d, uid, byteField p.ext 12 15, addr⟩
      let s := if r ≠ 0 ∨ s.member d = some m then s
        else memberChange ((s.fab.members.filter fun x => x.uid == uid && x.id != d).map (fun x => (false, x)) ++ [(true, m)]) s
      let mac := (h.map (·.mac)).getD (s.ctlMac d)
      txCount 0 (sendControl mac addr { s.tlHead 0x42 0 with ext := uid + d * 2 ^ 64 + r * 2 ^ 80 } s)) s

/-- ID_ASSIGN (R635). -/
def execIdAssign (p : TlPkt) (s : State) : Outcome :=
  .next <| fabRx p (fun s =>
    let d := byteField p.ext 8 9 % 2 ^ 14
    let r := byteField p.ext 10 10
    if s.get Reg.FAB_ID_ROLE ≠ 2 ∨ byteField p.ext 0 7 ≠ s.uid then s
    else if r = 0 then (s.set Reg.FAB_ID_ROLE 3).defer (.fabId d)
    else raise Ev.fabIdLost 0 (d + r * 2 ^ 16) (s.set Reg.FAB_STATUS_ID_REFUSED 1)) s

/-- ID_REVOKE (R635, R638). -/
def execIdRevoke (p : TlPkt) (s : State) : Outcome :=
  .next <| fabRx p (fun s =>
    if (s.get Reg.FAB_ID_ROLE = 3 ∨ s.get Reg.FAB_ID_ROLE = 4) ∧ byteField p.ext 0 7 = s.uid ∧ s.fabId = some (byteField p.ext 8 9 % 2 ^ 14) then
      s.defer .fabIdLost
    else s) s

/-- The segments' fabric addresses follow the device's ID. -/
def segsShow (s : State) : State := s.fab.segs.foldl (fun s p => segShow p.1 s) s

/-- R635: at its boundary the ID is valid. -/
def applyFabId (d : Nat) (s : State) : State :=
  let s := s.updFab (fun u => { u with lastId := some d })
  let s := (s.set Reg.FAB_ID_VALID 1).set Reg.FAB_ID_ID d
  let s := if s.get Reg.FAB_ID_ROLE = 4 then s.set Reg.FAB_ID_COORD_ID d else s
  raise Ev.fabIdAssigned 0 d (segsShow s)

/-- R638: at its boundary the ID is released, the unsettled work ends, and the device asks again. -/
def applyFabIdLost (s : State) : State :=
  match s.fabId with
  | none => s
  | some d =>
    let s := endSends (fun x => x.op != 0xC) St.fabIdChanged s
    let s := (s.set Reg.FAB_ID_VALID 0).set Reg.FAB_ID_ROLE 2
    sendIdRequest (raise Ev.fabIdLost 0 (d + 3 * 2 ^ 16) (segsShow s))

/-- R633: a record of a MEMBER_UPDATE: whether its device is a member, and its entry. -/
def updateRec (e k : Nat) : Bool × Member :=
  let o := 32 + 32 * k
  (bit (byteField e (o + 2) (o + 2)) 0 == 1,
    ⟨byteField e o (o + 1) % 2 ^ 14, byteField e (o + 8) (o + 15), byteField e (o + 4) (o + 7), ofBE (toBytes 16 (byteField e (o + 16) (o + 31)))⟩)

/-- R639: a MEMBER_UPDATE is taken in VERSION order; a missing VERSION asks for a full list. -/
def execMemberUpdate (p : TlPkt) (s : State) : Outcome :=
  .next <| fabRx p (fun s =>
    let v := byteField p.ext 0 3
    let n := min 64 (byteField p.ext 4 5)
    let gap := ahead 32 v s.fab.version
    if s.get Reg.FAB_ID_ROLE = 4 then s
    else if gap ≤ 0 ∧ s.fab.asking = false ∧ s.fab.version ≠ 0 then
      ctlSend p.src (((s.member p.src).map (·.addr)).getD 0) { s.tlHead 0x45 p.src with ext := v } s
    else if 1 < gap ∧ s.fab.asking = false ∧ s.fab.version ≠ 0 then
      sendHellos false (s.updFab (fun u => { u with asking := true }))
    else
      let s := s.updFab (fun u => { u with version := v, asking := false })
      let s := s.defer (.fabMembers v ((List.range n).map (updateRec p.ext)))
      ctlSend p.src (((s.member p.src).map (·.addr)).getD 0) { s.tlHead 0x45 p.src with ext := v } s) s

/-- R639: a peer's entry is reset, its unsettled work ending with a status. -/
def peerReset (d st : Nat) (s : State) : State :=
  let s := endSends (fun x => x.peer == d && x.op != 0xC) st s
  let s := s.updTlt (fun u => { u with sends := s.tlt.sends.filter fun x => x.peer != d })
  let s := (s.tlt.rx.filter fun x => x.peer == d).foldl (fun s x => dropRx d x.msg true s) s
  let s := s.updTlt (fun u => { u with serves := s.tlt.serves.filter fun x => x.peer != d })
  peerCount d (newPeer d s)

/-- R639: one record of an update applies. `known` is the member that held the ID as far as this device had applied. -/
def applyRecord (r : Bool × Member) (s : State) : State :=
  let m := r.2
  let d := m.id
  let had := s.flagI Reg.FAB_PEER_INFO_PRESENT d
  let uid := s.getI Reg.FAB_PEER_UID_VALUE d
  let epoch := ((s.fab.members.find? fun x => x.id == d).map (·.epoch)).getD m.epoch
  let s := s.updFab (fun u => { u with members := (s.fab.members.filter fun x => x.id != d) ++ (if r.1 then [m] else []) })
  if m.uid = s.uid then s
  else if r.1 then
    let s := s.setsI d [(Reg.FAB_PEER_INFO_PRESENT, 1), (Reg.FAB_PEER_UID_VALUE, m.uid)]
    if had = false then
      let s := if (Map.find? s.tlt.peers d).isSome then s else newPeer d s
      buildPaths d (s.setI Reg.FAB_PEER_INFO_HOPS d (match Map.find? s.fab.routes d with
        | some _ => s.getI Reg.FAB_PEER_INFO_HOPS d
        | none => if s.flag Reg.FAB_CFG_MODE then 0 else 15))
    else if uid ≠ m.uid then peerReset d St.fabPeerReplaced s
    else if epoch ≠ m.epoch then peerReset d St.tlPeerRecovery s
    else s
  else if had then dropPaths d (s.setsI d [(Reg.FAB_PEER_INFO_PRESENT, 0), (Reg.FAB_PEER_UID_VALUE, 0)])
  else s

/-- R639, R668: at its boundary an update applies. -/
def applyMembers (v : Nat) (recs : List (Bool × Member)) (s : State) : State :=
  let s := recs.foldl (fun s r => applyRecord r s) s
  (s.set Reg.FAB_MEMBERS_VERSION v).set Reg.FAB_MEMBERS_COUNT s.fab.members.length

/-- MEMBER_ACK (R639). -/
def execMemberAck (p : TlPkt) (s : State) : Outcome :=
  .next <| fabRx p (fun s =>
    let v := byteField p.ext 0 3
    let acks := s.fab.acks.filter fun a => a != (p.src, v)
    (s.updFab (fun u' => { u' with acks := acks, updates := s.fab.updates.filter fun u => acks.any fun a => a.2 == u.1 }))) s

/-! ### Paths (R642, R643) -/

/-- R633, R642: a PROBE on a path. -/
def sendProbe (d i : Nat) (s : State) : State :=
  let k := pathKey d i
  let addr := ((s.member d).map (·.addr)).getD 0
  let p := { s.tlHead 0x46 d with path := i, ext := s.now }
  txCount 0 ((pathSent d i s).emit (.turelm (s.getI Reg.FAB_PATH_INFO_MAC k) (s.getI Reg.FAB_PATH_INFO_UDP_SPORT k) addr p))

/-- A path enters a state at this boundary. -/
def pathState (d i st : Nat) (s : State) : State :=
  updPath (pathKey d i) (fun x => { x with since := s.stk.boundary, echoed := false }) (s.setI Reg.FAB_PATH_INFO_STATE (pathKey d i) st)

/-- PROBE (R633, R642). -/
def execProbe (p : TlPkt) (s : State) : Outcome :=
  .next <| fabRx p (fun s =>
    ctlSend p.src (((s.member p.src).map (·.addr)).getD 0) { s.tlHead 0x47 p.src with ext := byteField p.ext 0 7 + p.path * 2 ^ 64 } s) s

/-- PROBE_ACK (R642). -/
def execProbeAck (p : TlPkt) (s : State) : Outcome := .next (fabRx p (pathEcho p.src (byteField p.ext 8 8 % 64)) s)

/-- PATH_SILENT (R642): UP becomes SUSPECT, with its first probe. -/
def execPathSilent (peer path : Nat) (s : State) : Outcome :=
  .next <|
    match Map.find? s.fab.paths (pathKey peer path) with
    | none => s
    | some x =>
      match x.oldest with
      | none => s
      | some b =>
        if s.getI Reg.FAB_PATH_INFO_STATE (pathKey peer path) = 0 ∧ b + s.eff Reg.FAB_TIMING_SILENT ≤ s.stk.boundary then
          sendProbe peer path (withPaths peer (fun s => pathState peer path 1 (s.setI Reg.FAB_PATH_INFO_MISSES (pathKey peer path) 0)) s)
        else s

/-- PATH_IDLE_PROBE (R642). -/
def execPathIdleProbe (peer path : Nat) (s : State) : Outcome :=
  .next <|
    match Map.find? s.fab.paths (pathKey peer path) with
    | none => s
    | some x =>
      if s.getI Reg.FAB_PATH_INFO_STATE (pathKey peer path) = 0 ∧ x.last + s.eff Reg.FAB_TIMING_PROBE_PERIOD ≤ s.stk.boundary then
        sendProbe peer path s
      else s

/-- R641, R642: a path takes the source port of its respray count and enters TRIAL, with a probe. -/
def pathTrial (d i resprays : Nat) (s : State) : State :=
  let k := pathKey d i
  sendProbe d i (pathState d i 3 (s.setsI k [(Reg.FAB_PATH_INFO_RESPRAYS, resprays), (Reg.FAB_PATH_INFO_UDP_SPORT, pathSport d i resprays),
    (Reg.FAB_PATH_INFO_MISSES, 0)]))

/-- R642, R659, R667: a path enters DOWN. -/
def pathDown (d i : Nat) (s : State) : State :=
  raise Ev.fabPathDown (pathKey d i) (d + i * 2 ^ 16) ((pathState d i 2 s).set Reg.FAB_STATUS_PATH_DOWN 1)

/-- PROBE_RETRY_EXPIRY (R642). -/
def execProbeRetryExpiry (peer path : Nat) (s : State) : Outcome :=
  .next <|
    let k := pathKey peer path
    match Map.find? s.fab.paths k with
    | none => s
    | some x =>
      let st := s.getI Reg.FAB_PATH_INFO_STATE k
      if (st ≠ 1 ∧ st ≠ 3) ∨ x.echoed = true ∨ s.stk.boundary < x.since + s.eff Reg.FAB_PATHCFG_PROBE_RETRY then s
      else
        let misses := s.getI Reg.FAB_PATH_INFO_MISSES k + 1
        let s := s.setI Reg.FAB_PATH_INFO_MISSES k misses
        if misses < s.eff Reg.FAB_PATHCFG_DOWN_MISSES then
          sendProbe peer path (updPath k (fun x => { x with since := s.stk.boundary }) s)
        else
          let s := withPaths peer (pathDown peer path) (count Reg.FAB_PATH_DOWN_CNT_COUNT s)
          let n := s.getI Reg.FAB_PATH_INFO_RESPRAYS k
          if s.flag Reg.FAB_CFG_MODE ∧ n < s.get Reg.FAB_PATHCFG_RESPRAY_LIMIT then pathTrial peer path (n + 1) s else s

/-- PATH_REVIVE (R642): a DOWN path whose link is up is tried again. -/
def execPathRevive (peer path : Nat) (s : State) : Outcome :=
  .next <|
    let k := pathKey peer path
    match Map.find? s.fab.paths k with
    | none => s
    | some x =>
      if s.getI Reg.FAB_PATH_INFO_STATE k = 2 ∧ x.since + s.get Reg.FAB_PATHCFG_REVIVE ≤ s.stk.boundary
          ∧ s.sch.linkUp.contains (s.getI Reg.FAB_PATH_INFO_MAC k) then pathTrial peer path 0 s
      else s

/-- R642, R670: at a boundary after its echo a SUSPECT or TRIAL path is UP. -/
def applyPathUp (k : Nat) (s : State) : State :=
  let st := s.getI Reg.FAB_PATH_INFO_STATE k
  if (Map.find? s.fab.paths k).isSome ∧ (st = 1 ∨ st = 3) then
    withPaths (k / 64) (fun s => pathState (k / 64) (k % 64) 0 (s.setsI k [(Reg.FAB_PATH_INFO_MISSES, 0), (Reg.FAB_PATH_INFO_RESPRAYS, 0)])) s
  else s

/-- ETH_LINK_CHANGE (R642, R766): the link of a MAC goes down or up; its paths follow at the next boundary. -/
def execEthLinkChange (mac : Nat) (up : Bool) (s : State) : Outcome :=
  .next <|
    if s.sch.linkUp.contains mac = up then s
    else
      let s := s.updSch (fun u => { u with linkUp := if up then insertNat mac s.sch.linkUp else s.sch.linkUp.filter fun m => m != mac })
      availUpdate (s.defer (.macLink mac up))

/-- R642: at its boundary a MAC's link change moves its paths. -/
def applyMacLink (mac : Nat) (up : Bool) (s : State) : State :=
  let ks := (s.fab.paths.map (·.1)).filter fun k => s.getI Reg.FAB_PATH_INFO_MAC k == mac
  if up then
    ks.foldl (fun s k => if s.getI Reg.FAB_PATH_INFO_STATE k = 2 then pathTrial (k / 64) (k % 64) (s.getI Reg.FAB_PATH_INFO_RESPRAYS k) s else s) s
  else ks.foldl (fun s k => if s.getI Reg.FAB_PATH_INFO_STATE k = 2 then s else withPaths (k / 64) (pathDown (k / 64) (k % 64)) s) s

end Sys2Proof.Machine
end

