-- ==== Sys2Proof/Machine/Tables.lean ====
section
/-!
DEFINITION. Forwarding and flow tables (R429 to R467): buckets, stash and relocation, lookups,
the manager's and the tenants' table commands, learning, aging and rehash.
-/
namespace Sys2Proof.Machine

/-! ### Stores (R430, R434) -/

/-- An empty store. -/
def Store.empty : Store := ⟨[], []⟩

/-- A table with nothing in it. -/
def TblX.empty : TblX := ⟨Store.empty, [], [], 0, 0, 0, []⟩

/-- A table behind its registers. -/
def State.tblX (s : State) (t : Nat) : TblX := (Map.find? s.tbl.tables t).getD TblX.empty

/-- A table changed. -/
def updTbl (t : Nat) (f : TblX → TblX) (s : State) : State :=
  (s.updTbl (fun u => { u with tables := Map.put s.tbl.tables t (f (s.tblX t)) }))

/-- R430: where the stash lies among the places of a store. -/
def stashBase : Nat := 2 ^ 40

/-- R430: the entries of a store in its stash. -/
def Store.stash (x : Store) : Nat := (x.slots.filter fun p => decide (stashBase ≤ p.1)).length

/-- R430: the two candidate buckets of a key. -/
def buckets (seed n key : Nat) : Nat × Nat :=
  let a := Config.tableHash seed key % max 1 n
  let b := Config.tableHash (2 ^ 32 - 1 - seed % 2 ^ 32) key % max 1 n
  (a, if a = b then a ^^^ 1 else b)

/-- The four places of a bucket. -/
def bucketPlaces (b : Nat) : List Nat := [b * 4, b * 4 + 1, b * 4 + 2, b * 4 + 3]

/-- The lowest place of some that holds no entry. -/
def Store.free (x : Store) (places : List Nat) : Option Nat := places.find? fun p => (Map.find? x.slots p).isNone

/-- R434: the other candidate bucket of the entry at a place. -/
def Store.other (x : Store) (seed n place : Nat) : Nat :=
  match Map.find? x.slots place with
  | some e =>
    let (a, b) := buckets seed n e.key
    if place / 4 = a then b else a
  | none => 0

/-- R434: one level of the breadth-first search: a complete path, its free end first, or the next level. -/
def Store.level (x : Store) (seed n : Nat) (frontier : List (List Nat)) : Option (List Nat) × List (List Nat) :=
  frontier.foldl (fun (acc : Option (List Nat) × List (List Nat)) path =>
    match acc.1 with
    | some _ => acc
    | none =>
      let b := x.other seed n (path.headD 0)
      let open_ := (bucketPlaces b).filter fun p => (Map.find? x.moves p).isNone && !path.contains p
      match x.free open_ with
      | some p => (some (p :: path), [])
      | none => (none, acc.2 ++ open_.map fun p => p :: path)) (none, [])

/-- R434: the search for a relocation path, at most `fuel` moves long. -/
def Store.search (x : Store) (seed n fuel : Nat) (frontier : List (List Nat)) : Option (List Nat) :=
  match fuel with
  | 0 => none
  | fuel + 1 =>
    match x.level seed n frontier with
    | (some path, _) => some path
    | (none, next) => if next = [] then none else x.search seed n fuel next

/-- R434: the entries of a path move, the free end first; MOVE is set at both places of each move. -/
def Store.shift (x : Store) (at_ : Nat) (path : List Nat) : Store :=
  match path with
  | dst :: src :: rest =>
    match Map.find? x.slots src with
    | some e =>
      Store.shift ⟨Map.put (Map.del x.slots src) dst e, Map.put (Map.put x.moves dst at_) src at_⟩ at_ (src :: rest)
    | none => x
  | _ => x

/-- R434: an entry placed: the store after, and whether it went to the stash; none when the table is full. -/
def Store.insert (x : Store) (seed n kicks at_ : Nat) (e : FlowEntry) : Option (Store × Bool) :=
  let (a, b) := buckets seed n e.key
  let first := bucketPlaces a ++ bucketPlaces b
  match x.free first with
  | some p => some ({ x with slots := Map.put x.slots p e }, false)
  | none =>
    let start := (first.filter fun p => (Map.find? x.moves p).isNone).map fun p => [p]
    match x.search seed n kicks start with
    | some path =>
      let y := x.shift at_ path
      some ({ y with slots := Map.put y.slots (path.getLastD 0) e }, false)
    | none =>
      match x.free ((List.range 16).map fun i => stashBase + i) with
      | some p => some ({ x with slots := Map.put x.slots p e }, true)
      | none => none

/-! ### Table properties -/

/-- R425, R429: whether a table is defined and of a kind. -/
def State.tblKind (s : State) (t kind : Nat) : Bool :=
  decide (t < 64) && s.flagI Reg.PRS_TBL_INFO_DEFINED t && s.getI Reg.PRS_TBL_INFO_KIND t == kind

/-- R429: the bucket count of a table. -/
def State.tblBuckets (s : State) (t : Nat) : Nat := s.getI Reg.PRS_TBL_CAP_CAPACITY t / 4

/-- R432: a key with the bytes beyond the table's key length taken as zero. -/
def State.tblKeyOf (s : State) (t key : Nat) : Nat := key % 2 ^ (8 * s.getI Reg.PRS_TBL_CAP_KEY_LEN t)

/-- R431: the quota units that an entry of a table takes. -/
def State.tblUnits (s : State) (t : Nat) : Nat := if s.flagI Reg.TBL_INFO_SLOT128 t then 2 else 1

/-- R457: the registers that follow a table's entries. -/
def tblShow (t : Nat) (s : State) : State :=
  let x := (s.tblX t).live
  let lens := (x.slots.map fun p => p.2.key / 2 ^ 160).eraseDups
  s.setsI t [(Reg.TBL_INFO_STASH, x.stash), (Reg.TBL_INFO_ENTRIES, x.slots.length),
    (Reg.TBL_INFO_LENGTHS, if s.tblKind t 2 then lens.length else 0)]

/-- R449: the shadow of a table, when one has been built for it. -/
def State.shadowOf (s : State) (t : Nat) : Option (Rehash × Store) :=
  match s.tbl.rehash with
  | some r =>
    match r.shadow with
    | some x => if s.get Reg.TBL_REHASH_TABLE = t ∧ s.get Reg.TBL_REHASH_STATE = 2 then some (r, x) else none
    | none => none
  | none => none

/-- R449: the rehash ends in a state, its shadow discarded; READY and FAILED raise the event. -/
def rehashTo (st : Nat) (r : Option Rehash) (s : State) : State :=
  let t := s.get Reg.TBL_REHASH_TABLE
  let s := (s.updTbl (fun u => { u with rehash := r })).set Reg.TBL_REHASH_STATE st
  if st = 2 ∨ st = 4 then raise Ev.tblRehashDone t (t + st * 2 ^ 8) s else s

/-- R449: a change of entries applied to the live store, and to the shadow while one stands. -/
def storesMap (t : Nat) (f : Map FlowEntry → Map FlowEntry) (s : State) : State :=
  let s := updTbl t (fun x => { x with live := { x.live with slots := f x.live.slots } }) s
  let s := match s.shadowOf t with
    | some (r, x) => s.updTbl (fun u => { u with rehash := some { r with shadow := some { x with slots := f x.slots } } })
    | none => s
  tblShow t s

/-- Entries changed in place. -/
def entriesMap (t : Nat) (p : FlowEntry → Bool) (f : FlowEntry → FlowEntry) (s : State) : State :=
  storesMap t (fun m => m.map fun e => if p e.2 then (e.1, f e.2) else e) s

/-! ### Length filters (R447) -/

/-- R447: the three counters of a prefix in a table's filter, by length. -/
def filterKeys (s : State) (t key : Nat) : List Nat :=
  let n := max 1 (s.getI Reg.TBL_INFO_FILTER_BITS t * s.getI Reg.PRS_TBL_CAP_CAPACITY t / 4)
  [1, 2, 3].map fun j => key / 2 ^ 160 * 2 ^ 40 + Config.tableHash (s.getI Reg.TBL_CUCKOO_SEED t + j * 2 ^ 32) key % n

/-- R448: a prefix's counters raised, to 15 at most. -/
def filterRaise (t key : Nat) (s : State) : State :=
  updTbl t (fun x => { x with filter := (filterKeys s t key).foldl (fun m k => Map.put m k (min 15 ((Map.find? m k).getD 0 + 1))) x.filter }) s

/-- R447, R448: a prefix's counters lowered; a counter at 15 stays. -/
def filterLower (t key : Nat) (s : State) : State :=
  updTbl t (fun x => { x with filter := (filterKeys s t key).foldl (fun m k =>
    let c := (Map.find? m k).getD 0
    if c = 15 ∨ c = 0 then m else Map.put m k (c - 1)) x.filter }) s

/-- R447: whether a table's filter admits a prefix. -/
def filterAdmits (s : State) (t key : Nat) : Bool :=
  key / 2 ^ 160 == 0 || (filterKeys s t key).all fun k => decide (0 < (Map.find? (s.tblX t).filter k).getD 0)

/-- R449: every counter of a table's filter built again from its entries. -/
def filterRebuild (t : Nat) (s : State) : State :=
  if s.tblKind t 2 then
    (s.tblX t).live.slots.foldl (fun s e => filterRaise t e.2.key s) (updTbl t (fun x => { x with filter := [] }) s)
  else s

/-! ### Entries go and come -/

/-- R431: the quota of a TENANT table's entry returns to its niche. -/
def entryGive (t : Nat) (e : FlowEntry) (s : State) : State :=
  if s.flagI Reg.TBL_INFO_TENANT t then quotaGive e.niche 5 (s.tblUnits t) s else s

/-- Entries removed: their quota returns, and a prefix's counters are lowered after its entry is gone. -/
def entriesDrop (t : Nat) (p : FlowEntry → Bool) (s : State) : State :=
  let gone := ((s.tblX t).live.slots.filter fun e => p e.2).map (·.2)
  let s := storesMap t (fun m => m.filter fun e => !p e.2) s
  gone.foldl (fun s e => (if s.tblKind t 2 then filterLower t e.key else id) (entryGive t e s)) s

/-- R436: the table wants a rehash. -/
def rehashNeeded (t : Nat) (s : State) : State :=
  raise Ev.tblRehashNeeded t (t + (s.tblX t).live.stash * 2 ^ 8) (s.set Reg.TBL_STATUS_REHASH_NEEDED 1)

/-- R449: an entry inserted into the shadow too; a failure there fails the rehash. -/
def shadowInsert (t : Nat) (e : FlowEntry) (s : State) : State :=
  match s.shadowOf t with
  | some (r, x) =>
    match x.insert r.seed (s.tblBuckets t) (s.effI Reg.TBL_CUCKOO_MAX_KICKS t) s.stk.boundary e with
    | some (y, _) => s.updTbl (fun u => { u with rehash := some { r with shadow := some y } })
    | none => rehashTo 4 none s
  | none => s

/-- R434, R436, R448: an entry inserted, its filter counters raised first; ST_TBL_FULL when there is no place. -/
def entryInsert (t : Nat) (e : FlowEntry) (s : State) : Nat × State :=
  match (s.tblX t).live.insert (s.getI Reg.TBL_CUCKOO_SEED t) (s.tblBuckets t) (s.effI Reg.TBL_CUCKOO_MAX_KICKS t) s.stk.boundary e with
  | none => (St.tblFull, rehashNeeded t (countI Reg.TBL_INS_FAIL_COUNT t s))
  | some (x, stashed) =>
    let s := if s.tblKind t 2 then filterRaise t e.key s else s
    let s := shadowInsert t e (updTbl t (fun y => { y with live := x }) s)
    let s := if s.flagI Reg.TBL_INFO_TENANT t then quotaTake e.niche 5 (s.tblUnits t) s else s
    let s := tblShow t s
    (St.ok, if stashed ∧ s.effI Reg.TBL_CUCKOO_STASH_WARN t ≤ x.stash then rehashNeeded t s else s)

/-- R438: whether a vector of the live version, or of OLD, uses an entry. -/
def FlowEntry.seen (old : Bool) (e : FlowEntry) : Bool :=
  e.born != 1 && !(old && e.born == 2) && (old || e.dead != 2)

/-- R431: whether an entry of a table answers to a key for a niche. -/
def State.entryFor (s : State) (t key niche : Nat) (e : FlowEntry) : Bool :=
  e.key == key && (!(s.flagI Reg.TBL_INFO_TENANT t) || e.niche == niche)

/-- The entry that a change sees: the one not deleted in the staged version. -/
def State.entryNow (s : State) (t key niche : Nat) : Option FlowEntry :=
  ((s.tblX t).live.slots.find? fun e => s.entryFor t key niche e.2 && e.2.dead == 0).map (·.2)

/-! ### Lookups (R431, R435, R447) -/

/-- R460: a lookup counted, and its hit. -/
def lookupCount (t : Nat) (hit : Bool) (s : State) : State :=
  let s := addI Reg.TBL_LOOKUPS_COUNT t 1 s
  if hit then addI Reg.TBL_HITS_COUNT t 1 s else s

/-- R431, R435: the entry that a lookup in an EXACT table hits. -/
def State.exactHit (s : State) (t key niche : Nat) (old : Bool) : Option FlowEntry :=
  ((s.tblX t).live.slots.find? fun e => s.entryFor t key niche e.2 && e.2.seen old).map (·.2)

/-- R447: the bits of a prefix table's addresses. -/
def State.addrBits (s : State) (t : Nat) : Nat := if s.tbl.v6.contains t then 128 else 32

/-- R433: the key of a prefix: length, context, and the address in wire order. -/
def pfxKey (len ctx addr : Nat) : Nat := len * 2 ^ 160 + ctx % 2 ^ 32 * 2 ^ 128 + addr % 2 ^ 128

/-- R447: the longest prefix that an address and context hit. -/
def State.prefixHit (s : State) (t ctx addr : Nat) (old : Bool) : Option FlowEntry :=
  let w := s.addrBits t
  let lens := (List.range (w + 1)).reverse
  lens.findSome? fun len =>
    let key := pfxKey len ctx (addr >>> (w - len) <<< (w - len))
    if filterAdmits s t key then
      ((s.tblX t).live.slots.find? fun e => e.2.key == key && e.2.seen old).map (·.2)
    else none

/-- R444: HIT of an entry set. -/
def markHit (t key niche : Nat) (s : State) : State :=
  entriesMap t (fun e => s.entryFor t key niche e) (fun e => { e with hit := true }) s

/-! ### Versions (R438) -/

/-- R437: the device states in which tables change. -/
def State.tblOpen (s : State) : Bool := decide (3 ≤ s.dev) && decide (s.dev ≤ 6)

/-- R396: VERSIONED mode. -/
def State.versioned (s : State) : Bool := s.dev == 3 || s.dev == 5 || s.dev == 6

/-- R399, R438: what refuses a further staged change. -/
def State.stageRefusal (s : State) : Option Nat :=
  if s.versioned = false then none
  else if s.flag Reg.PRS_VER_COMMIT_PENDING then some St.busy
  else if 4096 ≤ s.get Reg.PRS_VER_STAGED then some St.ruleStageFull
  else none

/-- R399: one more change staged, in VERSIONED mode. -/
def stageCount (s : State) : State :=
  if s.versioned then s.set Reg.PRS_VER_STAGED (s.get Reg.PRS_VER_STAGED + 1) else s

/-- R438: the marks of every table changed: entries that `gone` names go, the others are mapped. -/
def marks (gone : FlowEntry → Bool) (f : FlowEntry → FlowEntry) (s : State) : State :=
  (s.tbl.tables.map (·.1)).foldl (fun s t => entriesMap t (fun _ => true) f (entriesDrop t gone s)) s

/-- R438: the staged table changes switch with the rules. -/
def tblCommit (s : State) : State :=
  marks (fun _ => false) (fun e => { e with born := if e.born = 1 then 2 else e.born, dead := if e.dead = 1 then 2 else e.dead }) s

/-- R438: the staged table changes are dropped. -/
def tblAbort (s : State) : State :=
  marks (fun e => e.born == 1) (fun e => { e with dead := if e.dead = 1 then 0 else e.dead }) s

/-- R438: after OLD retires, dead entries go and birth marks are cleared. -/
def tblCleanup (s : State) : State :=
  marks (fun e => e.dead == 2) (fun e => { e with born := if e.born = 2 then 0 else e.born }) s

/-- R437, R438: an entry deleted: at once, or marked dead in the staged version. -/
def entryDelete (t : Nat) (p : FlowEntry → Bool) (s : State) : State :=
  if s.versioned then
    let s := entriesDrop t (fun e => p e && e.dead == 0 && e.born == 1) s
    entriesMap t (fun e => p e && e.dead == 0) (fun e => { e with dead := 1 }) s
  else entriesDrop t (fun e => p e && e.dead == 0) s

/-- R437, R438: an entry written: replaced in one write, or a second entry born in the staged version. -/
def entryWrite (t : Nat) (e : FlowEntry) (s : State) : Nat × State :=
  match s.entryNow t e.key e.niche with
  | some o =>
    if s.versioned = false ∨ o.born = 1 then
      (St.ok, entriesMap t (fun x => s.entryFor t e.key e.niche x && x.dead == 0)
        (fun x => { x with action := e.action, data := e.data, source := e.source, static := e.static, notify := e.notify,
                           learned := e.learned, ring := e.ring }) s)
    else
      let (st, s') := entryInsert t { e with born := 1, dead := 0 } s
      if st = St.ok then
        (st, entriesMap t (fun x => s.entryFor t e.key e.niche x && x.dead == 0 && x.born != 1) (fun x => { x with dead := 1 }) s')
      else (st, s')
  | none => entryInsert t { e with born := if s.versioned then 1 else 0 } s

/-! ### Commands (R432, R433, R437, R454) -/

/-- R454: a table command of the manager; `stages` for those that join the staged version. -/
def tblCmd (op : Nat) (who : Issuer) (desc : Option (Nat × Nat)) (stages : Bool) (act : State → Nat × State) (s : State) : Outcome :=
  let arg := s.get Reg.TBL_CMD_ARG_SEED * 2 ^ 32 + s.get Reg.TBL_CMD_ARG_SOURCE * 2 ^ 16 + s.get Reg.TBL_CMD_ARG_FLUSH_MATCH * 2 ^ 8
    + s.get Reg.TBL_CMD_ARG_TABLE
  let addr := if desc.isSome then 0 else s.get Reg.TBL_CMD_ADDR_ADDR
  .next <| regGate who 0xB00000 s
    (cmdStart Blk.tbl ⟨op, who, 0, 0, arg, addr, 0, desc⟩ (who.role == .manager) (fun s =>
      if s.tblOpen = false then .done St.badState 0 s
      else match if stages then s.stageRefusal else none with
        | some st => .done st 0 s
        | none =>
          let (st, s) := act s
          .done st 0 (if stages ∧ st = St.ok then stageCount s else s)))

/-- R432: the entry that a flow descriptor describes. -/
def flowEntry (s : State) (desc niche : Nat) (ring : Option Nat) : FlowEntry :=
  let t := byteField desc 0 0
  let fl := byteField desc 1 1
  ⟨s.tblKeyOf t (desc >>> 512), niche, byteField desc 4 6, byteField desc 8 15,
    if s.flagI Reg.TBL_INFO_L2 t then byteField desc 16 17 else 0, bit fl 0 == 1 && ring.isNone, bit fl 2 == 1, false, false, ring, 0, 0, none⟩

/-- R431, R432, R437, R452: the outcome of an insertion. -/
def flowInsertOn (desc : Nat) (e : FlowEntry) (s : State) : Nat × State :=
  let t := byteField desc 0 0
  match s.entryNow t e.key e.niche with
  | some o =>
    if bit (byteField desc 1 1) 1 = 0 then (St.tblExists, s)
    else if o.static ∧ e.static = false then (St.tblStatic, s)
    else if s.flagI Reg.TBL_INFO_TENANT t ∧ s.versioned ∧ s.quotaLeft e.niche 5 < s.tblUnits t then (St.noResource, s)
    else entryWrite t e s
  | none =>
    if s.flagI Reg.TBL_INFO_TENANT t ∧ s.quotaLeft e.niche 5 < s.tblUnits t then (St.noResource, s)
    else entryWrite t e s

/-- R432, R437, R452: the outcome of a deletion; `static` when the descriptor names STATIC. -/
def flowDeleteOn (t key niche : Nat) (static : Bool) (s : State) : Nat × State :=
  match s.entryNow t key niche with
  | some o =>
    if o.static ∧ static = false then (St.tblStatic, s)
    else (St.ok, entryDelete t (fun e => s.entryFor t key niche e) s)
  | none => (St.tblNoEntry, s)

/-- INSERT (R432, R434, R438). -/
def execInsert (who : Issuer) (desc : Nat) (s : State) : Outcome :=
  tblCmd 1 who (some (128, desc)) true (fun s =>
    let e := flowEntry s desc (byteField desc 2 3 % 4096) none
    if s.tblKind (byteField desc 0 0) 1 = false then (St.tblNoTable, s)
    else if s.tbl.actions ≤ e.action then (St.tblAction, s)
    else flowInsertOn desc e s) s

/-- DELETE (R432, R437, R438). -/
def execDelete (who : Issuer) (desc : Nat) (s : State) : Outcome :=
  tblCmd 2 who (some (128, desc)) true (fun s =>
    let t := byteField desc 0 0
    if s.tblKind t 1 = false then (St.tblNoTable, s)
    else flowDeleteOn t (s.tblKeyOf t (desc >>> 512)) (byteField desc 2 3 % 4096) (bit (byteField desc 1 1) 0 == 1) s) s

/-- R432: the FLAGS byte that a query returns. -/
def flowFlags (e : FlowEntry) (stashed : Bool) : Nat :=
  (if e.static then 1 else 0) + (if e.notify then 4 else 0) + (if e.learned then 8 else 0) + (if e.hit then 16 else 0)
    + if stashed then 32 else 0

/-- The entry that a query finds, and whether it lies in the stash. -/
def State.queryHit (s : State) (t key niche : Nat) : Option (FlowEntry × Bool) :=
  ((s.tblX t).live.slots.find? fun e => s.entryFor t key niche e.2 && e.2.dead == 0).map fun e => (e.2, decide (stashBase ≤ e.1))

/-- QUERY (R432): the entry found is written over bytes 0 to 17 of the descriptor. -/
def execQuery (who : Issuer) (desc : Nat) (s : State) : Outcome :=
  tblCmd 3 who (some (128, desc)) false (fun s =>
    let t := byteField desc 0 0
    if s.tblKind t 1 = false then (St.tblNoTable, s)
    else match s.queryHit t (s.tblKeyOf t (desc >>> 512)) (byteField desc 2 3 % 4096) with
      | some (e, stashed) =>
        let w := t + flowFlags e stashed * 2 ^ 8 + e.niche * 2 ^ 16 + e.action * 2 ^ 32 + e.data * 2 ^ 64 + e.source * 2 ^ 128
        (St.ok, hostPut 0 (s.get Reg.TBL_CMD_ADDR_ADDR) (toBytes 18 w) s)
      | none => (St.tblNoEntry, s)) s

/-- R433: the address of a prefix descriptor in wire order, as a number. -/
def pfxAddr (s : State) (desc : Nat) : Nat :=
  ofBE (toBytes (s.addrBits (byteField desc 0 0) / 8) (desc >>> 256))

/-- R433, R452: what refuses a prefix descriptor. -/
def pfxRefusal (s : State) (desc : Nat) : Option Nat :=
  let t := byteField desc 0 0
  let w := s.addrBits t
  let len := byteField desc 1 1
  if s.tblKind t 2 = false then some St.tblNoTable
  else if w < len ∨ pfxAddr s desc % 2 ^ (w - len) ≠ 0 then some St.tblKey
  else none

/-- PFX_INSERT (R433, R448). -/
def execPfxInsert (who : Issuer) (desc : Nat) (s : State) : Outcome :=
  tblCmd 4 who (some (64, desc)) true (fun s =>
    match pfxRefusal s desc with
    | some st => (st, s)
    | none =>
      let t := byteField desc 0 0
      let e : FlowEntry := ⟨pfxKey (byteField desc 1 1) (byteField desc 16 19) (pfxAddr s desc), 0, byteField desc 4 6,
        byteField desc 8 15, 0, false, false, false, false, none, 0, 0, none⟩
      if s.tbl.actions ≤ e.action then (St.tblAction, s)
      else if (s.entryNow t e.key 0).isSome ∧ bit (byteField desc 2 2) 1 = 0 then (St.tblExists, s)
      else entryWrite t e s) s

/-- PFX_DELETE (R433, R448). -/
def execPfxDelete (who : Issuer) (desc : Nat) (s : State) : Outcome :=
  tblCmd 5 who (some (64, desc)) true (fun s =>
    match pfxRefusal s desc with
    | some st => (st, s)
    | none => flowDeleteOn (byteField desc 0 0) (pfxKey (byteField desc 1 1) (byteField desc 16 19) (pfxAddr s desc)) 0 true s) s

/-- R443: the bridge domain of an L2 key, the first two bytes of it in wire order. -/
def l2Domain (key : Nat) : Nat := byteField key 0 0 * 256 + byteField key 1 1

/-- L2_FLUSH (R443, R455). -/
def execL2Flush (who : Issuer) (s : State) : Outcome :=
  tblCmd 6 who none false (fun s =>
    let t := s.get Reg.TBL_CMD_ARG_TABLE
    let m := s.get Reg.TBL_CMD_ARG_FLUSH_MATCH
    let src := s.get Reg.TBL_CMD_ARG_SOURCE
    let dom := s.get Reg.TBL_CMD_ARG_SEED % 2 ^ 16
    if s.tblKind t 1 = false ∨ s.flagI Reg.TBL_INFO_L2 t = false then (St.tblNoTable, s)
    else
      (St.ok, entriesDrop t (fun e => e.learned && !e.static && (bit m 0 == 0 || e.source == src)
        && (bit m 1 == 0 || l2Domain e.key == dom)) s)) s

/-! ### Rehash (R449) -/

/-- REHASH_START (R449). -/
def execRehashStart (who : Issuer) (s : State) : Outcome :=
  tblCmd 7 who none false (fun s =>
    let t := s.get Reg.TBL_CMD_ARG_TABLE
    let room := if s.flagI Reg.TBL_INFO_STACKED t then s.tbl.reserve.2 else s.tbl.reserve.1
    let st := s.get Reg.TBL_REHASH_STATE
    if s.tblKind t 1 = false ∧ s.tblKind t 2 = false then (St.tblNoTable, s)
    else if st = 1 ∨ st = 2 ∨ st = 3 then (St.busy, s)
    else if room < s.getI Reg.PRS_TBL_CAP_CAPACITY t * s.tblUnits t then (St.noResource, s)
    else
      let r : Rehash := ⟨s.get Reg.TBL_CMD_ARG_SEED, s.dueBoundary, none, none⟩
      (St.ok, rehashTo 1 (some r) (s.sets [(Reg.TBL_REHASH_TABLE, t), (Reg.TBL_REHASH_COPIED, 0)]))) s

/-- R449: every entry of a store inserted into a new one under another seed. -/
def rebuildStore (seed n kicks at_ : Nat) (l : List FlowEntry) (x : Store) : Option Store :=
  match l with
  | [] => some x
  | e :: t =>
    match x.insert seed n kicks at_ e with
    | some (y, _) => rebuildStore seed n kicks at_ t y
    | none => none

/-- REHASH_COPY_DONE (R449): every entry stands in the shadow, or one found no place there. -/
def execRehashCopyDone (s : State) : Outcome :=
  .next <|
    match s.tbl.rehash with
    | some r =>
      let t := s.get Reg.TBL_REHASH_TABLE
      let l := (s.tblX t).live.slots.map (·.2)
      if s.get Reg.TBL_REHASH_STATE ≠ 1 ∨ s.stk.boundary < r.since then s
      else match rebuildStore r.seed (s.tblBuckets t) (s.effI Reg.TBL_CUCKOO_MAX_KICKS t) s.stk.boundary l Store.empty with
        | some x =>
          if (s.stk.boundary + 1 - r.since) * 65536 < l.length then s
          else rehashTo 2 (some { r with shadow := some x }) (s.set Reg.TBL_REHASH_COPIED l.length)
        | none => rehashTo 4 none s
    | none => s

/-- REHASH_SWITCH (R449). -/
def execRehashSwitch (who : Issuer) (s : State) : Outcome :=
  tblCmd 8 who none false (fun s =>
    if s.get Reg.TBL_REHASH_STATE = 2 ∧ s.get Reg.TBL_REHASH_TABLE = s.get Reg.TBL_CMD_ARG_TABLE then
      (St.ok, s.defer (.rehashSwitch (s.get Reg.TBL_CMD_ARG_TABLE)))
    else (St.tblRehash, s)) s

/-- R449: at the boundary the shadow becomes the live table. -/
def applyRehashSwitch (t : Nat) (s : State) : State :=
  match s.shadowOf t with
  | some (r, x) =>
    let s := updTbl t (fun y => { y with live := x }) s
    let s := s.setI Reg.TBL_CUCKOO_SEED t r.seed
    let s := s.updTbl (fun u => { u with rehash := some { r with shadow := none, switchedAt := some s.stk.boundary } })
    tblShow t (filterRebuild t (s.set Reg.TBL_REHASH_STATE 3))
  | none => s

/-- REHASH_SWITCH_END (R449): 4 strokes after the switch the old table returns to the reserve. -/
def execRehashSwitchEnd (s : State) : Outcome :=
  .next <|
    match s.tbl.rehash with
    | some r =>
      match r.switchedAt with
      | some b => if b + 4 ≤ s.stk.boundary then rehashTo 0 none s else s
      | none => s
    | none => s

/-- REHASH_ABORT (R449). -/
def execRehashAbort (who : Issuer) (s : State) : Outcome :=
  tblCmd 9 who none false (fun s =>
    let st := s.get Reg.TBL_REHASH_STATE
    if (st = 1 ∨ st = 2) ∧ s.get Reg.TBL_REHASH_TABLE = s.get Reg.TBL_CMD_ARG_TABLE then (St.ok, rehashTo 0 none s)
    else (St.tblRehash, s)) s

/-- REHASH_STATE_READ (R464): a read that finds FAILED returns the state to IDLE. -/
def execRehashStateRead (who : Issuer) (s : State) : Outcome :=
  .next <| readGate who 0xB00090 s fun s =>
    let st := s.get Reg.TBL_REHASH_STATE
    let v := st * 2 ^ 61 + s.get Reg.TBL_REHASH_TABLE * 2 ^ 48 + s.get Reg.TBL_REHASH_COPIED
    reply who v (if st = 4 then s.set Reg.TBL_REHASH_STATE 0 else s)

/-! ### Tenant opcodes (R450, R451) -/

/-- R437, R439, R451: what refuses tenant table work. -/
def tenantRefusal (s : State) (desc : Nat) : Option Nat :=
  let t := byteField desc 0 0
  if s.tblOpen = false then some St.badState
  else if s.tblKind t 1 = false ∨ s.flagI Reg.TBL_INFO_TENANT t = false then some St.tblNoTable
  else if s.versioned then some St.tblVersioned
  else none

/-- FLOW_INSERT (R450, R451). -/
def execFlowInsert (w : Work) (desc : Nat) (s : State) : Outcome :=
  startWork w 0x80 (fun f => stateWork 9 f fun s =>
    let a := byteField desc 4 6
    let base := s.getI Reg.TBL_NCFG_ACT_BASE f.niche
    match tenantRefusal s desc with
    | some st => (st, 0, s)
    | none =>
      if a < base ∨ base + s.getI Reg.TBL_NCFG_ACT_COUNT f.niche ≤ a then (St.tblAction, 0, s)
      else
        let (st, s) := flowInsertOn desc (flowEntry s desc f.niche (some f.ring)) s
        (st, 0, s)) s

/-- FLOW_DELETE (R450, R451). -/
def execFlowDelete (w : Work) (desc : Nat) (s : State) : Outcome :=
  startWork w 0x81 (fun f => stateWork 9 f fun s =>
    let t := byteField desc 0 0
    match tenantRefusal s desc with
    | some st => (st, 0, s)
    | none =>
      let (st, s) := flowDeleteOn t (s.tblKeyOf t (desc >>> 512)) f.niche false s
      (st, 0, s)) s

/-- FLOW_QUERY (R450): the completion returns the entry. -/
def execFlowQuery (w : Work) (desc : Nat) (s : State) : Outcome :=
  startWork w 0x82 (fun f s =>
    let t := byteField desc 0 0
    if s.tblOpen = false then finish f.seq St.badState 0 s
    else if s.tblKind t 1 = false ∨ s.flagI Reg.TBL_INFO_TENANT t = false then finish f.seq St.tblNoTable 0 s
    else match s.queryHit t (s.tblKeyOf t (desc >>> 512)) f.niche with
      | some (e, stashed) => finish f.seq St.ok (e.action + flowFlags e stashed * 2 ^ 24 + e.data * 2 ^ 32) s
      | none => finish f.seq St.tblNoEntry 0 s) s

/-! ### Learning and aging (R440 to R446) -/

/-- R441, R461: a learn request that is not served. -/
def learnDrop (t : Nat) (s : State) : State :=
  let s := countI Reg.TBL_L2_LEARN_DROP_COUNT t s
  if s.flag Reg.TBL_STATUS_LEARN_DROP then s else raise Ev.l2LearnDrop t t (s.set Reg.TBL_STATUS_LEARN_DROP 1)

/-- R441: a learn request queued: merged with one for its key, dropped when the queue is full. -/
def learnRequest (t : Nat) (l : Learn) (s : State) : State :=
  let x := s.tblX t
  if x.learns.any (fun m => m.key == l.key) then s
  else if 4096 ≤ x.learns.length then learnDrop t s
  else updTbl t (fun x => { x with learns := x.learns ++ [l] }) s

/-- R441: the ACTION of a learned entry. -/
def learnAction (s : State) (t source niche : Nat) : Nat :=
  if bit source 15 = 1 then s.getI Reg.TBL_L2_ACT_NICHE_ACT_BASE t + niche else s.getI Reg.TBL_L2_ACT_PORT_ACT_BASE t + source % 4096

/-- R440: the outcome of a source lookup; answers whether DEST becomes DROP. -/
def sourceLookup (t key source : Nat) (s : State) : Bool × State :=
  let l : Learn := ⟨key, source, learnAction s t source (source % 4096)⟩
  match s.exactHit t key 0 false with
  | none => (false, if s.flagI Reg.TBL_L2_CFG_LEARN t then learnRequest t l (lookupCount t false s) else lookupCount t false s)
  | some e =>
    let s := lookupCount t true s
    if e.source = source then (false, markHit t key 0 s)
    else if e.static then (s.flagI Reg.TBL_L2_CFG_STATIC_DROP t, countI Reg.TBL_L2_STATIC_HIT_COUNT t s)
    else if (s.tblX t).moving.any (fun m => m.key == key) then (false, s)
    else (false, updTbl t (fun x => { x with moving := x.moving ++ [l] }) s)

/-- L2_LEARN (R441): one queued request is served, within RATE per stroke. -/
def execL2Learn (table : Nat) (s : State) : Outcome :=
  .next <|
    let x := s.tblX table
    let used := if x.learnAt = s.stk.boundary then x.learned else 0
    match x.learns with
    | [] => s
    | l :: rest =>
      if s.effI Reg.TBL_L2_CFG_RATE table ≤ used then s
      else
        let s := updTbl table (fun x => { x with learns := rest, learnAt := s.stk.boundary, learned := used + 1 }) s
        if (s.entryNow table l.key 0).isSome then s
        else
          let e : FlowEntry := ⟨l.key, 0, l.action, 0, l.source, false, false, true, true, none, 0, 0, none⟩
          let (st, s) := entryInsert table e s
          if st = St.ok then s else learnDrop table s

/-- R442: a move that came too soon after the last. -/
def flap (t : Nat) (s : State) : State :=
  let s := countI Reg.TBL_L2_FLAP_COUNT t s
  if s.flag Reg.TBL_STATUS_L2_FLAP then s else raise Ev.l2Flap t t (s.set Reg.TBL_STATUS_L2_FLAP 1)

/-- L2_MOVE (R442): a move rewrites ACTION and SOURCE, or is held back. -/
def execL2Move (table : Nat) (s : State) : Outcome :=
  .next <|
    match (s.tblX table).moving with
    | [] => s
    | l :: rest =>
      let s := updTbl table (fun x => { x with moving := rest }) s
      match s.entryNow table l.key 0 with
      | some e =>
        let soon : Bool := match e.lastMove with
          | some b => decide (s.stk.boundary < b + s.getI Reg.TBL_L2_CFG_MOVE_HOLD table)
          | none => false
        if e.learned = false then s
        else if soon then flap table s
        else
          let s := entriesMap table (fun x => x.key == l.key) (fun x => { x with action := l.action, source := l.source, lastMove := some s.stk.boundary }) s
          let s := countI Reg.TBL_L2_MOVES_COUNT table s
          if s.flag Reg.TBL_STATUS_L2_MOVE then s
          else raise Ev.l2Move table (table + l.source * 2 ^ 8) (s.set Reg.TBL_STATUS_L2_MOVE 1)
      | none => s

/-- MOVE_FLAG_CLEAR (R434): the drain interval of a place has passed: 4 strokes in a STACKED table. -/
def execMoveFlagClear (table place : Nat) (s : State) : Outcome :=
  .next <|
    match Map.find? (s.tblX table).live.moves place with
    | some b =>
      if s.flagI Reg.TBL_INFO_STACKED table ∧ s.stk.boundary < b + 4 then s
      else updTbl table (fun x => { x with live := { x.live with moves := Map.del x.live.moves place } }) s
    | none => s

/-- R444, R446: one entry visited by the sweep. -/
def visit (t place : Nat) (s : State) : State :=
  match Map.find? (s.tblX t).live.slots place with
  | some e =>
    if e.static then s
    else if e.hit then entriesMap t (fun x => x.key == e.key && x.niche == e.niche && x.born == e.born) (fun x => { x with hit := false }) s
    else
      let s := entriesDrop t (fun x => x.key == e.key && x.niche == e.niche && x.born == e.born) s
      let s := countI Reg.TBL_AGED_COUNT t s
      match e.ring with
      | some r => if e.notify then raiseTo (.ring r) Ev.flowAged e.key (t + e.data % 2 ^ 48 * 2 ^ 8) s else s
      | none => s
  | none => s

/-- AGING_SWEEP (R444, R445): the places that this stroke's share of the sweep visits. -/
def execAgingSweep (table : Nat) (s : State) : Outcome :=
  .next <|
    let period := s.getI Reg.TBL_AGE_PERIOD table
    let cap := s.getI Reg.PRS_TBL_CAP_CAPACITY table
    if period = 0 ∨ (s.tblX table).sweptAt = s.stk.boundary then s
    else
      let n := cap + 16
      let k := s.stk.boundary % period
      let lo := k * n / period
      let hi := (k + 1) * n / period
      let s := updTbl table (fun x => { x with sweptAt := s.stk.boundary }) s
      let here := ((s.tblX table).live.slots.map (·.1)).filter fun p =>
        let i := if stashBase ≤ p then cap + (p - stashBase) else p
        decide (lo ≤ i) && decide (i < hi)
      here.foldl (fun s p => visit table p s) s

end Sys2Proof.Machine
end

