-- ==== Sys2Proof/Machine/Parse.lean ====
section
/-!
DEFINITION. Parsing, classification and actions (R372 to R428): the clusters, the match pipelines, the actions,
the spreader and the reorder engine.
-/
namespace Sys2Proof.Machine

/-! ### Frames in classification -/

/-- The frame with a number. -/
def State.pkt (s : State) (id : Nat) : Option Pkt := s.prs.pkts.find? fun p => p.id == id

/-- A frame changed in its place. -/
def putPkt (p : Pkt) (s : State) : State :=
  (s.updPrs (fun u => { u with pkts := s.prs.pkts.map fun q => if q.id = p.id then p else q }))

/-- A frame gone. -/
def delPkt (id : Nat) (s : State) : State :=
  (s.updPrs (fun u => { u with pkts := s.prs.pkts.filter fun q => q.id != id }))

/-- A frame put last. -/
def lastPkt (p : Pkt) (s : State) : State :=
  let s := delPkt p.id s
  (s.updPrs (fun u => { u with pkts := s.prs.pkts ++ [p] }))

/-- Bytes of a header vector replaced. -/
def vecPut (vec off n v : Nat) : Nat :=
  vec - (vec >>> (8 * off)) % 2 ^ (8 * n) * 2 ^ (8 * off) + v % 2 ^ (8 * n) * 2 ^ (8 * off)

/-- R382: fields of the header vector. -/
def vNiche (vec : Nat) : Nat := byteField vec 30 31 % 4096
def vDest (vec : Nat) : Nat := byteField vec 26 29
def vVersion (vec : Nat) : Nat := byteField vec 6 6 % 16
def vPasses (vec : Nat) : Nat := byteField vec 6 6 / 16 % 4
def vColour (vec : Nat) : Nat := byteField vec 6 6 / 64

/-- R392: the kind and index of a DEST word. -/
def destKind (d : Nat) : Nat := d / 2 ^ 28
def destIndex (d : Nat) : Nat := d % 2 ^ 17

/-- R407: whether a frame is in flight: in the pipeline or beyond, its sequence not skipped. -/
def State.inFlight (s : State) (p : Pkt) : Bool :=
  p.at_ != .queued && p.at_ != .parsed && !(s.prs.skipped.contains (p.domain, p.seq))

/-- R419: PRS_RO_STATUS follows the frames in flight. -/
def roShow (s : State) : State :=
  let n := (s.prs.pkts.filter s.inFlight).length
  s.sets [(Reg.PRS_RO_STATUS_IN_FLIGHT, n), (Reg.PRS_RO_STATUS_PEAK, max n (s.get Reg.PRS_RO_STATUS_PEAK))]

/-- R427: QUEUE follows a cluster's input queue. -/
def clusterShow (k : Nat) (s : State) : State :=
  s.setI Reg.PRS_CL_INFO_QUEUE k (s.prs.pkts.filter fun p => p.cluster == k && p.at_ == .queued).length

/-- A frame that a work entry sent ends inside the device: its SEND completes; the spec states no status there. -/
def sendLost (p : Pkt) (s : State) : State :=
  match p.seqWork with
  | some q =>
    let (v, s) := s.draw
    finish q (v % 256) 0 s
  | none => s

/-- R420, R426: a frame counted in PRS_DEV_DROP. -/
def devDrop (reason : Nat) (p : Pkt) (s : State) : State :=
  let s := count Reg.PRS_DEV_DROP_COUNT s
  s.sets [(Reg.PRS_DROP_LAST_REASON, reason), (Reg.PRS_DROP_LAST_NICHE, vNiche p.vec), (Reg.PRS_DROP_LAST_STROKE, s.stroke),
    (Reg.PRS_STATUS_DEV_DROP, 1)]

/-! ### Clusters (R372 to R374) -/

/-- R374: a frame that finds its cluster's queue full. -/
def clusterDrop (k : Nat) (s : State) : State :=
  let s := countI Reg.PRS_CL_DROP_COUNT k s
  if s.flag Reg.PRS_STATUS_CL_DROP then s else raise Ev.prsClDrop k k (s.set Reg.PRS_STATUS_CL_DROP 1)

/-- R686: a gated cluster whose queue exceeds 32 frames ungates its engines. -/
def ungate (k : Nat) (s : State) : State :=
  let g := s.get Reg.RGL_POWER_GATED
  if bit g k = 1 then s.set Reg.RGL_POWER_GATED (g - 2 ^ k) else s

/-- R374: a frame enters its cluster's queue. -/
def admitFrame (p : Pkt) (s : State) : State :=
  if 256 ≤ (s.prs.pkts.filter fun q => q.cluster == p.cluster && q.at_ == .queued).length then sendLost p (clusterDrop p.cluster s)
  else
    let p := { p with id := s.prs.nextId }
    let s := if 32 ≤ (s.prs.pkts.filter fun q => q.cluster == p.cluster && q.at_ == .queued).length then ungate p.cluster s else s
    clusterShow p.cluster (s.updPrs (fun u => { u with pkts := s.prs.pkts ++ [p], nextId := s.prs.nextId + 1 }))

/-- R372, R760: the next of a source's clusters in round robin; a cluster in PROBATION takes its share of the rounds. -/
def dealCluster (source : Nat) (l : List Nat) (s : State) : Option (Nat × State) :=
  let t := (Map.find? s.prs.next source).getD 0
  let n := max 1 l.length
  let turn := (List.range (16 * n)).find? fun i => match l[(t + i) % n]? with
    | some k => (t + i) / n % 2 ^ s.unitShare 1 k == 0
    | none => false
  match turn with
  | some i => some (l.getD ((t + i) % n) 0, (s.updPrs (fun u => { u with next := Map.put s.prs.next source ((t + i + 1) % (16 * n)) })))
  | none => none

/-- R751: the cluster that takes an ingress lane's frames: its own, or its partner while it is out of service. -/
def laneCluster (s : State) (k : Nat) : Nat :=
  if s.unitServes 1 k then k else if s.unitServes 1 (k ^^^ 1) then k ^^^ 1 else k

/-- A frame as it enters a cluster. -/
def freshPkt (cluster source : Nat) (bytes : List Byte) (vec : Nat) (work : Option Nat) : Pkt :=
  { id := 0, cluster := cluster, source := source, pipe := if cluster < 8 then 0 else if cluster < 16 then 1 else if cluster < 20 then 0 else 1
    bytes := bytes, vec := vec, seqWork := work, at_ := .queued, entered := 0, domain := 0, seq := 0, drop := false, skip := 0, edits := []
    crypto := [], decrypted := false }

/-- R224: whether a frame matches one of a niche's wake filters. -/
def wakeMatch (s : State) (n : Nat) (x : NicheX) (l : List Byte) : Bool :=
  let es := x.spoof.map (·.2)
  let macs := (es.filter fun e => byteField e 0 0 == 1).map spoofMac
  (List.range 4).any fun f =>
    match (x.wake >>> (4 * f)) % 16 with
    | 1 => macs.contains (frameBE l 0 6)
    | 2 => macs.any fun m => magicFor m l
    | 3 => match askedAddr l with
      | some a => es.any fun e => spoofHas e a
      | none => false
    | 4 => match turelmAt (s.get Reg.TLT_CFG_UDP_PORT) l with
      | some o => match Map.find? s.tlt.eps (ofBytes ((l.drop (o + 11)).take 3)) with
        | some e => e.niche == n
        | none => false
      | none => false
    | _ => false

/-- R178: a niche's function, out of D0 with PME_En set, sends PME, or asserts WAKE_N in D3cold. -/
def wakeOne (l : List Byte) (s : State) (e : Nat × NicheX) : State :=
  let k := s.nicheFn e.1
  match Map.find? s.hif.fns k with
  | none => s
  | some f =>
    let cold := s.hif.cold.contains f.ap
    if s.flagI Reg.NCH_INFO_BOUND e.1 ∧ f.pmeEn ∧ (cold ∨ s.getI Reg.HIF_FN_INFO_DSTATE k ≠ 0) ∧ wakeMatch s e.1 e.2 l then
      if cold then (s.updHif (fun u => { u with wakeN := insertNat f.ap s.hif.wakeN })) else s.emit (.pme f.ap f.rid)
    else s

/-- FRAME_RECEIVE (R55, R57, R88, R372, R374, R178); in P1 a frame of a wake port is checked against the wake filters and
dropped (R795). -/
def execFrameReceive (mac : Nat) (data : List Byte) (ns sub : Nat) (s : State) : Outcome :=
  .next <|
    if s.running = false ∨ s.sch.linkUp.contains mac = false ∨ s.unitServes 6 mac = false then s
    else
      if s.inP1 then
        if bit (s.get Reg.PWR_LP_WAKE_PORTS) mac = 1 then count Reg.PWR_LP_DROP_COUNT (s.nch.niches.foldl (wakeOne data) s) else s
      else
      let s := s.nch.niches.foldl (wakeOne data) s
      let t := (((ns * 256 + sub : Nat) : Int) - signed 16 (s.getI Reg.STK_TS_TRIM_RX_TRIM mac) * 64).toNat
      let vec := mac + 2 ^ (8 * 4 + 6) + compactTime (t / 256) * 2 ^ 64 + t % 256 * 2 ^ 184
      match dealCluster mac ((Map.find? s.prs.lanes mac).getD []) s with
      | some (k, s) => admitFrame (freshPkt (laneCluster s k) mac data vec none) s
      | none => s

/-- R222: the failed check of a host-egress frame of a niche, if one fails. -/
def spoofFails (s : State) (n : Nat) (l : List Byte) : Option Nat :=
  match Map.find? s.nch.niches n with
  | none => none
  | some x =>
    let es := x.spoof.map (·.2)
    let on (k : Nat) : Bool := n != 0 && bit x.spoofMode k == 1
    if on 0 ∧ (es.any fun e => byteField e 0 0 == 1 && spoofMac e == frameBE l 6 6) = false then some 0
    else if on 1 ∧ (es.any fun e => byteField e 0 0 == 2 && byteField e 2 3 % 4096 == frameVid l) = false then some 1
    else if on 2 ∧ ((sourceAddrs l).all fun a => es.any fun e => spoofHas e a) = false then some 2
    else if on 3 then
      match turelmAt (s.get Reg.TLT_CFG_UDP_PORT) l with
      | some o => match Map.find? s.tlt.eps (ofBytes ((l.drop (o + 8)).take 3)) with
        | some e => if e.niche = n then none else some 3
        | none => some 3
      | none => none
    else none

/-- R223: a frame that fails is discarded, counted and recorded; its SEND completes with ST_PERMISSION. -/
def spoofDrop (n check : Nat) (p : Pkt) (s : State) : State :=
  let s := countPage Reg.NCH_PG_SPOOF_DROP_COUNT n s
  let s := s.sets [(Reg.NCH_SPOOF_LAST_CHECK, check), (Reg.NCH_SPOOF_LAST_NICHE, n), (Reg.NCH_SPOOF_LAST_STROKE, s.stroke)]
  let s := if s.flag Reg.NCH_STATUS_SPOOF then s else raise Ev.nchSpoof n (n + check * 2 ^ 16) (s.set Reg.NCH_STATUS_SPOOF 1)
  match p.seqWork with
  | some q => finish q St.permission 0 s
  | none => s

/-- R381: a verdict other than OK is counted, recorded and raised. -/
def parseExc (k engine v : Nat) (s : State) : State :=
  let s := countI Reg.PRS_CL_EXC_COUNT k s
  let s := s.sets [(Reg.PRS_EXC_LAST_CLUSTER, k), (Reg.PRS_EXC_LAST_ENGINE, engine), (Reg.PRS_EXC_LAST_VERDICT, v), (Reg.PRS_EXC_LAST_STROKE, s.stroke)]
  if s.flag Reg.PRS_STATUS_PARSE_EXC then s else raise Ev.prsParseExc k (k + v * 2 ^ 8) (s.set Reg.PRS_STATUS_PARSE_EXC 1)

/-- R382: the header vector that the cluster releases: the program gives FLAGS [5:0] and [15:8], VERDICT, FLOW_HASH, LAYERS
and FIELDS; the device gives the rest. -/
def releaseVec (p : Pkt) (vec : Nat) (dest : Nat) : Nat :=
  let fl := byteField vec 4 5
  let fl := fl - bit fl 6 * 64 - bit fl 7 * 128 + bit (byteField p.vec 4 5) 6 * 64
  let v := vecPut (vec % 2 ^ 2048) 0 2 (byteField p.vec 0 1)
  let v := vecPut v 2 2 p.bytes.length
  let v := vecPut v 4 2 fl
  let v := vecPut v 6 1 0
  let v := vecPut v 8 8 (byteField p.vec 8 15)
  let v := vecPut v 20 3 (byteField vec 16 19 % 2 ^ 20)
  let v := vecPut v 23 1 (byteField p.vec 23 23)
  let v := vecPut v 24 2 0
  let v := vecPut v 26 4 dest
  let v := vecPut v 30 2 (vNiche p.vec)
  vecPut v 48 16 0

/-- PARSE_FRAME (R373, R378 to R382, R222): an engine has parsed a frame; `vec` holds what its program wrote. -/
def execParseFrame (id engine vec : Nat) (s : State) : Outcome :=
  .next <|
    match s.pkt id with
    | none => s
    | some p =>
      if p.at_ ≠ .queued then s
      else
        let q := { p with vec := releaseVec p vec (vDest p.vec), at_ := .parsed, domain := byteField vec 16 19 % 2 ^ 20 }
        let v := byteField vec 7 7
        let s := if v = 0 then s else parseExc p.cluster engine v s
        let bad := if p.source < 16 then none else spoofFails s (vNiche p.vec) p.bytes
        match bad with
        | some c => clusterShow p.cluster (spoofDrop (vNiche p.vec) c p (delPkt id s))
        | none => clusterShow p.cluster (putPkt q s)

/-! ### Lookups (R383, R384, R386, R431) -/

/-- R398: the rules that a vector of a version uses. -/
def State.rulesFor (s : State) (version : Nat) : RuleSet := if s.get Reg.PRS_VER_LIVE = version then s.prs.live else s.prs.old

/-- R383: the key that ranges of a header vector spell. -/
def vecKey (vec : Nat) (ranges : List (Nat × Nat)) : Nat :=
  (ranges.foldl (fun (p : Nat × Nat) r => (p.1 + r.2, p.2 + (vec >>> (8 * r.1)) % 2 ^ (8 * r.2) * 2 ^ (8 * p.1))) (0, 0)).2

/-- R383: a table's key for a vector. -/
def State.tableKey (s : State) (t vec : Nat) : Nat := vecKey vec ((Map.find? s.prs.keys t).getD [])

/-- R386, R387: the rule that wins: the highest priority, then the lower group. -/
def bestRule (r : RuleSet) (t key : Nat) : Option Rule :=
  let hits := r.rules.filter fun x => x.table == t &&
    match Map.find? r.groups (t * 256 + x.group) with
    | some m => key &&& m == x.key
    | none => false
  hits.foldl (fun best x => match best with
    | none => some x
    | some b => if b.prio < x.prio ∨ (b.prio = x.prio ∧ x.group < b.group) then some x else best) none

/-- R432: DATA written into the vector at DATA_OFFSET. -/
def putData (s : State) (t : Nat) (e : FlowEntry) (p : Pkt) : Pkt :=
  { p with vec := vecPut p.vec (if s.flagI Reg.TBL_INFO_DATA_HI t then 56 else 48) 8 e.data }

/-- R440: whether a vector's source is looked up. -/
def sourceRuns (s : State) (t : Nat) (p : Pkt) : Bool :=
  let src := (vecKey p.vec ((Map.find? s.tbl.srcKeys t).getD [])) >>> 16
  byteField p.vec 7 7 == 0 && src % 2 == 0 && (decide (p.source < 16) || s.flagI Reg.TBL_L2_CFG_HOST_LEARN t)

/-- R384: one table's lookup: the action entry it names, if any. -/
def tableLookup (t : Nat) (p : Pkt) (s : State) : Option Nat × Pkt × State :=
  let r := s.rulesFor (vVersion p.vec)
  let old := s.get Reg.PRS_VER_LIVE != vVersion p.vec
  let miss := Map.find? r.defaults t
  let key := s.tableKey t p.vec
  match s.getI Reg.PRS_TBL_INFO_KIND t with
  | 0 => match bestRule r t key with
    | some x => (some x.action, p, s)
    | none => (miss, p, s)
  | 1 =>
    let l2 := s.flagI Reg.TBL_INFO_L2 t
    let hit := s.exactHit t key (vNiche p.vec) old
    let s := lookupCount t hit.isSome s
    let (drop, s) := if l2 ∧ sourceRuns s t p then sourceLookup t (vecKey p.vec ((Map.find? s.tbl.srcKeys t).getD [])) (byteField p.vec 0 1) s
                     else (false, s)
    let p := if drop then { p with drop := true } else p
    match hit with
    | some e => (some e.action, putData s t e p, if l2 then s else markHit t key (vNiche p.vec) s)
    | none => (miss, p, s)
  | 2 =>
    let n := s.addrBits t / 8
    let c := s.getI Reg.PRS_TBL_CAP_KEY_LEN t - n
    let hit := s.prefixHit t (key % 2 ^ (8 * c)) (ofBE (toBytes n (key >>> (8 * c)))) old
    let s := lookupCount t hit.isSome s
    match hit with
    | some e => (some e.action, putData s t e p, s)
    | none => (miss, p, s)
  | _ => (Map.find? s.prs.fixed t, p, s)

/-! ### Inline processing (R612 to R615) -/

/-- A frame fails inline processing: it is dropped; a SEND completes with ST_ACC_INLINE. -/
def inlineFail (reason : Nat) (p : Pkt) (s : State) : Pkt × State :=
  let (v, s) := s.draw
  let s := inlineDrop (vNiche p.vec) (v % 18) reason s
  let s := match p.seqWork with
    | some q => finish q St.accInline 0 s
    | none => s
  ({ p with drop := true, seqWork := none }, s)

/-- The bytes that inline processing of a frame gives, under an SA and its next number. -/
def inlineBytes (k : KeyEnt) (a : Sa) (l : List Byte) : List Byte := Config.accel 0x70 (k.material + a.next * 2 ^ (8 * k.len)) l

/-- R614, R393: a frame after its inline processing, unless it has grown too long. -/
def inlineDone (dec : Bool) (i : Nat) (l : List Byte) (p : Pkt) (s : State) : Pkt × State :=
  if 9212 < l.length then inlineFail 6 p s
  else ({ p with bytes := l, vec := vecPut p.vec 2 2 l.length, crypto := i :: p.crypto, decrypted := p.decrypted || dec }, s)

/-- CRYPTO (R390, R612 to R615): the frame is encrypted on egress and decrypted on ingress under its SA. -/
def cryptoAction (handle : Nat) (p : Pkt) (s : State) : Pkt × State :=
  match s.keyOf (vNiche p.vec) handle with
  | none => inlineFail 2 p s
  | some (i, k) =>
    match k.sa with
    | none => inlineFail 2 p s
    | some a =>
      let m := k.material + a.next * 2 ^ (8 * k.len)
      let tls := byteField k.material 0 0 == 3
      if Config.accelOk 0x72 m p.bytes = false then inlineFail 4 p s
      else if 16 ≤ p.source then
        if tls ∧ Config.accelOk 0x74 m p.bytes = false then inlineFail 5 p s
        else
          let (ok, s') := saSend i k a s
          if ok then inlineDone false i (inlineBytes k a p.bytes) p s' else inlineFail 3 p s
      else if tls ∧ Config.accelOk 0x74 m p.bytes = false then
        let (v, s) := s.draw
        (p, inlineDrop (vNiche p.vec) (v % 18) 5 s)
      else
        let q := ofBytes (Config.accel 0x71 m p.bytes)
        let (ok, s') := saReceive i q k a s
        if ok = false then inlineFail 1 p s
        else if Config.accelOk 0x73 m p.bytes = false then inlineFail 0 p s
        else inlineDone true i (inlineBytes k a p.bytes) p s'

/-! ### Actions (R389 to R395) -/

/-- R390: one operation of an action entry, at a stage. -/
def applyOp (stage op : Nat) (a : Pkt × State) : Pkt × State :=
  let (p, s) := a
  match byteField op 0 0 with
  | 0x01 => ({ p with vec := vecPut p.vec (byteField op 1 2) (byteField op 3 3) (byteField op 4 7) }, s)
  | 0x02 => ({ p with vec := vecPut p.vec 26 4 (byteField op 1 4) }, s)
  | 0x03 => ({ p with vec := vecPut p.vec 24 2 (byteField op 1 2) }, s)
  | 0x04 => ({ p with vec := vecPut p.vec 30 2 (byteField op 1 2 % 4096) }, s)
  | 0x0B =>
    let p := { p with edits := p.edits ++ [op] }
    match ttlOf p.bytes with
    | some (_, v) =>
      if 1 < v then (p, s)
      else if bit (byteField op 1 1) 0 = 1 then ({ p with drop := true }, s)
      else ({ p with vec := vecPut p.vec 26 4 (6 * 2 ^ 28) }, s)
    | none => (p, s)
  | 0x0C =>
    let fl := byteField op 3 3
    let (c, s) := runMeter (byteField op 1 2) (byteField p.vec 2 3 + 4) (vColour p.vec) (bit fl 0 == 1) s
    ({ p with vec := vecPut p.vec 6 1 (byteField p.vec 6 6 % 64 + c * 64), drop := p.drop || (c == 2 && bit fl 1 == 1) }, s)
  | 0x0D =>
    let i := byteField op 1 3
    (p, addI Reg.PRS_CNT_BYTE_LO_BYTES i (byteField p.vec 2 3 + 4) (addI Reg.PRS_CNT_PKT_COUNT i 1 s))
  | 0x0E => if p.drop then (p, s) else cryptoAction (byteField op 1 4) p s
  | 0x0F => ({ p with drop := true }, s)
  | 0x10 => ({ p with skip := if stage < byteField op 1 1 then max p.skip (byteField op 1 1) else p.skip }, s)
  | o => if 5 ≤ o ∧ o ≤ 0x0A then ({ p with edits := p.edits ++ [op] }, s) else (p, s)

/-- R389: the operations of an action entry in order. -/
def applyAction (stage entry : Nat) (p : Pkt) (s : State) : Pkt × State :=
  ((List.range (min 7 (byteField entry 0 0))).map fun k => byteField entry (8 * (k + 1)) (8 * (k + 1) + 7)).foldl (fun a op => applyOp stage op a) (p, s)

/-- R389: whether an operation of an action entry is allowed. -/
def opValid (op : Nat) : Bool :=
  match byteField op 0 0 with
  | 0x01 =>
    let off := byteField op 1 2
    let n := byteField op 3 3
    decide (32 ≤ off) && decide (1 ≤ n) && decide (n ≤ 4) && decide (off + n ≤ 256)
  | 0x04 => decide (byteField op 1 2 < 4096)
  | 0x09 => decide (byteField op 1 2 < 4096)
  | 0x0A => decide (byteField op 1 1 < 8)
  | 0x0D => decide (byteField op 1 3 < 262144)
  | 0x10 => decide (byteField op 1 1 < 24)
  | o => decide (o ≤ 0x10)

/-! ### The pipeline (R383 to R385) -/

/-- R383: the tables of a pipe with their first stages, in stage order. -/
def pipeTables (s : State) (pipe : Nat) : List (Nat × Nat) :=
  sortPairs (((List.range 64).filter fun t => s.flagI Reg.PRS_TBL_INFO_DEFINED t && s.getI Reg.PRS_TBL_INFO_PIPE t == pipe).map fun t =>
    (s.getI Reg.PRS_TBL_INFO_FIRST_STAGE t, t))

/-- R385, R430, R447: whether a table's lookup may park a vector. -/
def mayPark (s : State) (t : Nat) : Bool :=
  (s.getI Reg.PRS_TBL_INFO_KIND t == 1 && s.flagI Reg.TBL_INFO_STACKED t) || s.getI Reg.PRS_TBL_INFO_KIND t == 2

/-- R384, R385: a vector runs through tables; `park` names the stage at which its lookup leaves the device, 24 for none. -/
def runTables (l : List (Nat × Nat)) (park : Nat) (p : Pkt) (s : State) : Pkt × State :=
  match l with
  | [] => ({ p with at_ := .leaving }, s)
  | (stage, t) :: rest =>
    if stage < p.skip then runTables rest park p s
    else if stage = park ∧ mayPark s t then ({ p with at_ := .parked stage }, s)
    else
      let (hit, p, s) := tableLookup t p s
      match hit with
      | some a =>
        let (p, s) := applyAction stage ((Map.find? (s.rulesFor (vVersion p.vec)).actions a).getD 0) p s
        runTables rest park p s
      | none => runTables rest park p s

/-- R385: the frames parked at a stage of a pipe. -/
def State.parkedAt (s : State) (pipe stage : Nat) : Nat :=
  (s.prs.pkts.filter fun q => q.pipe == pipe && q.at_ == .parked stage).length

/-- An ordering domain. -/
def State.domain (s : State) (d : Nat) : Domain := (Map.find? s.prs.domains d).getD ⟨0, 0, []⟩

/-- An ordering domain changed. -/
def setDomain (d : Nat) (x : Domain) (s : State) : State := s.updPrs (fun u => { u with domains := Map.put s.prs.domains d x })

/-- R373, R406: whether a frame is the next of its source, or on its way round, to enter its pipeline. -/
def State.entersNext (s : State) (p : Pkt) : Bool :=
  match p.at_ with
  | .recirc => true
  | .parsed =>
    !(s.prs.pkts.any fun q => q.pipe == p.pipe && q.at_ == .recirc)
      && ((s.prs.pkts.find? fun q => q.source == p.source && (q.at_ == .queued || q.at_ == .parsed)).map (·.id) == some p.id)
  | _ => false

/-- R407: pipeline entry stalls at the in-flight limit. -/
def roFull (s : State) : State :=
  if s.flag Reg.PRS_STATUS_RO_FULL then s else raise Ev.roFull 0 0 (s.set Reg.PRS_STATUS_RO_FULL 1)

/-- PIPELINE_ENTRY (R385, R398, R406, R407). -/
def execPipelineEntry (id park : Nat) (s : State) : Outcome :=
  .next <|
    match s.pkt id with
    | none => s
    | some p =>
      if s.running = false ∨ s.entersNext p = false ∨ 256 ≤ s.parkedAt p.pipe park then s
      else if p.at_ = .parsed ∧ 65536 ≤ (s.prs.pkts.filter s.inFlight).length then roFull s
      else
        let again := p.at_ == .recirc
        let d := s.domain p.domain
        let seq := if again then p.seq else d.next
        let s := if again then s else setDomain p.domain { d with next := (d.next + 1) % 2 ^ 32 } s
        let v := s.get Reg.PRS_VER_LIVE + (vPasses p.vec + 1) % 4 * 16 + vColour p.vec * 64
        let p := { p with vec := vecPut p.vec 6 1 v, seq := seq, entered := s.stk.boundary, skip := 0, edits := [] }
        let (p, s) := runTables (pipeTables s p.pipe) park p s
        roShow (lastPkt p s)

/-- PARK_LOOKUP_RETURN (R385). -/
def execParkLookupReturn (id park : Nat) (s : State) : Outcome :=
  .next <|
    match s.pkt id with
    | none => s
    | some p =>
      match p.at_ with
      | .parked stage =>
        if stage < park ∧ 256 ≤ s.parkedAt p.pipe park then s
        else
          let (p, s) := runTables ((pipeTables s p.pipe).filter fun e => decide (stage ≤ e.1)) (if stage < park then park else 24) p s
          lastPkt p s
      | _ => s

/-! ### The reorder engine (R407 to R410) -/

/-- R249, R267: a frame goes into the oldest buffer of a RECEIVE ring. -/
def receiveFrame (r : Nat) (p : Pkt) (s : State) : State :=
  let n := s.getI Reg.RNG_INFO_NICHE r
  let k := s.nicheFn n
  let shut := s.nicheState n != 1 || !(s.flagI Reg.NCH_INFO_BOUND n) || s.getI Reg.HIF_FN_INFO_DSTATE k != 0
  if s.ringExists r = false ∨ s.flagI Reg.RNG_INFO_RECEIVE r = false then sendLost p s
  else if shut then sendLost p (countPage Reg.NCH_PG_RX_DROP_COUNT n s)
  else match s.buffers r with
    | [] => sendLost p (countI Reg.RNG_RCNT_COUNT r s)
    | b :: _ =>
      let room := byteField b.entry 4 7
      let s := hostPut n (byteField b.entry 8 15) (p.bytes.take room) s
      let fl := byteField p.vec 4 5
      let flags := bit fl 2 * 2 + bit fl 3 * 4 + if p.decrypted then 8 else 0
      let time := if s.flagI Reg.RNG_INFO_RX_TS (s.getI Reg.RNG_INFO_LINK r) ∧ bit fl 6 = 1 then some (byteField p.vec 8 15) else none
      let s := finishAs b.seq ⟨if room < p.bytes.length then St.truncated else St.ok, flags,
        p.bytes.length % 65536 + byteField p.vec 16 19 * 2 ^ 16 + byteField p.vec 24 25 * 2 ^ 48, time⟩ s
      match p.seqWork with
      | some q => finish q St.ok 0 s
      | none => s

/-- R266, R392: the frame that a scheduler queue takes. -/
def queueFrame (s : State) (q : Nat) (p : Pkt) : SFrame :=
  let w := match p.seqWork.bind s.flight with
    | some f => some f.entry
    | none => none
  let fl := match w with
    | some e => wFlags e
    | none => 0
  { bytes := p.bytes, queue := q, niche := vNiche p.vec, seqWork := p.seqWork
    launch := if bit fl 2 = 1 then w.map fun e => expandTime s.stk.phcNs (byteField e 16 23) else none
    tsId := if bit fl 1 = 1 then w.map fun e => byteField e 6 7 else none
    oneStep := bit fl 3 == 1, late := false, at_ := 0, tl := none }

/-- R392: a frame is released to its DEST. -/
def deliver (p : Pkt) (s : State) : State :=
  let i := destIndex (vDest p.vec)
  match destKind (vDest p.vec) with
  | 1 => enqueue (queueFrame s i p) s
  | 2 => receiveFrame i { p with vec := vecPut p.vec 30 2 (s.getI Reg.RNG_INFO_NICHE i) } s
  | 5 => sendLost p (transit p.bytes s)
  | 6 =>
    let (v, s) := s.draw
    let s := (hwPut i ⟨4, v % 2 ^ 256, 0xFFF, vNiche p.vec⟩ s).1
    match p.seqWork with
    | some q => finish q St.ok 0 s
    | none => s
  | _ => match p.seqWork with
    | some q => finish q St.ok 0 s
    | none => s

/-- R408: the frames of a domain that may leave, in sequence order. -/
def releaseDomain (fuel d : Nat) (s : State) : State :=
  match fuel with
  | 0 => s
  | fuel + 1 =>
    let x := s.domain d
    if x.release = x.next then s
    else if x.gone.contains x.release then
      releaseDomain fuel d (setDomain d { x with release := (x.release + 1) % 2 ^ 32, gone := x.gone.filter fun q => q != x.release } s)
    else
      let head := s.prs.pkts.find? fun p => p.domain == d && p.seq == x.release && match p.at_ with
        | .ready _ => true
        | _ => false
      match head with
      | some p => releaseDomain fuel d (deliver p (setDomain d { x with release := (x.release + 1) % 2 ^ 32 } (delPkt p.id s)))
      | none => s

/-- The releases that a domain can need at once. -/
def State.releaseFuel (s : State) (d : Nat) : Nat := s.prs.pkts.length + (s.domain d).gone.length + 1

/-- R408: releases of a domain, with what PRS_RO_STATUS shows after. -/
def release (d : Nat) (s : State) : State := roShow (releaseDomain (s.releaseFuel d) d s)

/-- R392, R408: a frame's sequence is released as a drop. -/
def dropSeq (p : Pkt) (s : State) : State :=
  let s := delPkt p.id s
  if s.prs.skipped.contains (p.domain, p.seq) then
    roShow (s.updPrs (fun u => { u with skipped := s.prs.skipped.filter fun e => e != (p.domain, p.seq) }))
  else
    let x := s.domain p.domain
    release p.domain (setDomain p.domain { x with gone := x.gone ++ [p.seq] } s)

/-- R408, R409: a frame becomes ready, or is late when its sequence has been skipped. -/
def becomeReady (p : Pkt) (s : State) : State :=
  if s.prs.skipped.contains (p.domain, p.seq) then
    count Reg.PRS_RO_LATE_COUNT (sendLost p (dropSeq p s))
  else release p.domain (putPkt { p with at_ := .ready s.stk.boundary } s)

/-- R385: a parked vector's lookup has not returned. RESIDENCY_TIMEOUT. -/
def execResidencyTimeout (id : Nat) (s : State) : Outcome :=
  .next <|
    match s.pkt id with
    | none => s
    | some p =>
      match p.at_ with
      | .parked _ => if p.entered + 4 ≤ s.stk.boundary then dropSeq p (sendLost p (devDrop 1 p s)) else s
      | _ => s

/-- PIPELINE_EXIT (R392, R393): the deparser rewrites the frame, which goes to its DEST. -/
def execPipelineExit (id : Nat) (patch : List (Nat × Byte)) (s : State) : Outcome :=
  .next <|
    match s.pkt id with
    | none => s
    | some p =>
      if p.at_ ≠ .leaving ∨ (s.prs.pkts.find? fun q => q.pipe == p.pipe && q.at_ == .leaving).map (·.id) ≠ some id then s
      else
        let kind := destKind (vDest p.vec)
        let bytes := deparse p.vec (s.rulesFor (vVersion p.vec)).templates patch p.edits p.bytes
        let big := decide (9212 < bytes.length) || decide (p.bytes.length + 128 < bytes.length)
        if p.drop ∨ kind = 0 ∨ 7 ≤ kind then dropSeq p (sendLost p s)
        else if big then dropSeq p (sendLost p (devDrop 2 p s))
        else
          let p := { p with bytes := bytes, vec := vecPut p.vec 2 2 bytes.length, crypto := [], edits := [] }
          if kind = 3 then
            let s := putPkt { p with at_ := .spread } s
            (s.updPrs (fun u => { u with spread := s.prs.spread ++ [id] }))
          else becomeReady p s

/-- R421: the tile that holds a frame, 0xFF for none. -/
def Pkt.tileOf (p : Pkt) : Nat :=
  match p.at_ with
  | .tile t _ => t
  | _ => 0xFF

/-- R408: the missing sequence at the head of a domain is skipped. -/
def skipHead (d : Nat) (s : State) : State :=
  let x := s.domain d
  let p := s.prs.pkts.find? fun p => p.domain == d && p.seq == x.release && s.inFlight p
  let s := match p with
    | some p => s.updPrs (fun u => { u with skipped := s.prs.skipped ++ [(p.domain, p.seq)] })
    | none => s
  let s := setDomain d { x with release := (x.release + 1) % 2 ^ 32 } s
  let s := count Reg.PRS_RO_SKIP_COUNT s
  let s := s.sets [(Reg.PRS_SKIP_LAST_TILE, match p with
      | some p => p.tileOf
      | none => 0xFF), (Reg.PRS_SKIP_LAST_DOMAIN, d), (Reg.PRS_SKIP_LAST_SEQ, x.release)]
  if s.flag Reg.PRS_STATUS_RO_SKIP then s else raise Ev.roSkip d d (s.set Reg.PRS_STATUS_RO_SKIP 1)

/-- R408: whether a domain's first later packet has waited SKIP_STROKES boundaries. -/
def State.skipDue (s : State) (d : Nat) : Bool :=
  (s.domain d).release != (s.domain d).next && s.prs.pkts.any fun p => p.domain == d && match p.at_ with
    | .ready b => decide (b + s.eff Reg.PRS_RO_CFG_SKIP_STROKES ≤ s.stk.boundary)
    | _ => false

/-- R408: skips, each followed by the releases it allows. -/
def skipDomain (fuel d : Nat) (s : State) : State :=
  match fuel with
  | 0 => s
  | fuel + 1 => if s.skipDue d then skipDomain fuel d (release d (skipHead d s)) else s

/-- REORDER_SKIP (R408). -/
def execReorderSkip (domain : Nat) (s : State) : Outcome := .next (skipDomain s.prs.pkts.length domain s)

/-! ### The spreader (R401, R402) -/

/-- R402: a tile in the spreader's rotation: DATAPATH, in service, not held for debug. -/
def State.spreads (s : State) (t : Nat) : Bool :=
  s.getI Reg.TIL_INFO_ROLE t == 0 && s.tileServes t && !(s.flagI Reg.TIL_INFO_DEBUG_HELD t) && (Map.find? s.til.pktChan t).isSome

/-- R402: whether a tile has a free slot and room in its packet channel. -/
def State.spreadRoom (s : State) (t : Nat) : Bool :=
  match Map.find? s.til.pktChan t with
  | some c => (Map.find? s.til.freeSlots t).getD [] != [] && decide (0 < s.chanFree (t * 256 + c)) && s.flagI Reg.TIL_CH_INFO_HW_WRITER (t * 256 + c)
  | none => false

/-- R402: the next tile in turn, and the round. -/
def nextTile (fuel last round : Nat) (s : State) : Option (Nat × Nat) :=
  match fuel with
  | 0 => none
  | fuel + 1 =>
    let wrap := last + 1 == 96
    let t := if wrap then 0 else last + 1
    let round := if wrap then round + 1 else round
    if s.spreads t ∧ round % 2 ^ s.getI Reg.TIL_INFO_SHARE_LOG2 t = 0 ∧ s.spreadRoom t then some (t, round) else nextTile fuel t round s

/-- R401: where a packet slot lies in device memory: in its tile's SHARED region. -/
def slotAddr (s : State) (t slot : Nat) : Nat := tileMemBase t + 4096 * s.getI Reg.TIL_MEM_CODE_4K t + 512 * slot

/-- R401: a packet is put into a tile's slot and its message committed. -/
def spreadTo (t slot : Nat) (p : Pkt) (s : State) : State :=
  let head := p.bytes.take 256
  let s := memWriteList s (slotAddr s t slot) (toBytes 256 p.vec ++ head)
  let w := slot % 65536 + head.length * 2 ^ 16 + p.bytes.length % 65536 * 2 ^ 32 + p.domain * 2 ^ 64 + p.seq * 2 ^ 96
    + destIndex (vDest p.vec) * 2 ^ 128 + byteField p.vec 24 25 * 2 ^ 160 + byteField p.vec 8 15 * 2 ^ 192
  let c := t * 256 + (Map.find? s.til.pktChan t).getD 0
  let s := (hwPut c ⟨4, w, 0xFFF, vNiche p.vec⟩ s).1
  let s := s.updTil (fun u => { u with freeSlots := Map.upd s.til.freeSlots t fun l => l.filter fun x => x != slot })
  putPkt { p with at_ := .tile t slot } s

/-- R422: ELIGIBLE counts the tiles now in the rotation. -/
def spreadShow (s : State) : State := s.set Reg.PRS_SPR_ELIGIBLE ((List.range 96).filter fun t => s.spreads t).length

/-- SPREADER_DISPATCH (R401, R402). -/
def execSpreaderDispatch (s : State) : Outcome :=
  .next <| spreadShow <|
    match s.prs.spread with
    | [] => s
    | id :: rest =>
      match s.pkt id, nextTile 1632 (s.get Reg.PRS_SPR_LAST) (s.get Reg.PRS_SPR_ROUND) s with
      | some p, some (t, round) =>
        let slot := ((Map.find? s.til.freeSlots t).getD []).headD 0
        let s := s.updPrs (fun u => { u with spread := rest })
        spreadTo t slot p (s.sets [(Reg.PRS_SPR_LAST, t), (Reg.PRS_SPR_ROUND, round)])
      | none, _ => s.updPrs (fun u => { u with spread := rest })
      | _, none => s

/-! ### Packets on tiles (R403 to R406, R409, R410) -/

/-- R403: a packet slot is freed. -/
def freeSlot (t slot : Nat) (s : State) : State :=
  (s.updTil (fun u => { u with freeSlots := Map.put s.til.freeSlots t (insertNat slot ((Map.find? s.til.freeSlots t).getD [])) }))

/-- R405: DEST of an edited vector names something of another niche. -/
def foreignDest (s : State) (p : Pkt) : Bool :=
  let n := vNiche p.vec
  let i := destIndex (vDest p.vec)
  n != 0 && match destKind (vDest p.vec) with
    | 1 => !(s.flagI Reg.SCH_QUEUE_CFG_BOUND i && s.getI Reg.SCH_QUEUE_CFG_NICHE i == n)
    | 2 => !(s.ringExists i && s.getI Reg.RNG_INFO_NICHE i == n)
    | _ => false

/-- R405: what the device takes from an edited vector: bytes 24 to 29 and 32 to 255. -/
def editedVec (delivered edited : Nat) : Nat :=
  vecPut (vecPut delivered 24 6 (byteField edited 24 29)) 32 224 (byteField edited 32 255)

/-- R405, R392: a packet that a tile forwards. -/
def forwardFromTile (p : Pkt) (s : State) : State :=
  let kind := destKind (vDest p.vec)
  if s.prs.skipped.contains (p.domain, p.seq) then becomeReady p s
  else if foreignDest s p then dropSeq p (sendLost p (devDrop 3 p s))
  else if kind = 3 then dropSeq p (sendLost p (devDrop 4 p s))
  else if kind = 0 ∨ 7 ≤ kind then dropSeq p (sendLost p s)
  else becomeReady p s

/-- R403 to R406, R409: a thread of a tile ends a packet with a verdict word; `scratch` is where its SCRATCH lies. -/
def endPacket (verdict scratch : Nat) (p : Pkt) (s : State) : State :=
  let s := match p.at_ with
    | .tile t slot => freeSlot t slot s
    | _ => s
  let n := bits verdict 56 48
  let src := scratch + bits verdict 31 0
  let edited : Pkt :=
    let bytes := memReadList s (src + 256) (min 256 n) ++ p.bytes.drop 256
    { p with vec := vecPut (editedVec p.vec (ofBytes (memReadList s src 256))) 2 2 bytes.length, bytes := bytes }
  match bits verdict 63 60 with
  | 0 => forwardFromTile p s
  | 1 => forwardFromTile edited s
  | 3 =>
    if s.prs.skipped.contains (p.domain, p.seq) then becomeReady p s
    else if foreignDest s edited then dropSeq p (sendLost p (devDrop 3 p s))
    else if 3 ≤ vPasses p.vec then dropSeq p (sendLost p (devDrop 5 p s))
    else putPkt { edited with at_ := .recirc } s
  | _ =>
    if s.prs.skipped.contains (p.domain, p.seq) then becomeReady p s else dropSeq p (sendLost p s)

/-- The packet that a thread's item names. -/
def State.itemPkt (s : State) (h : Nat) : Option Pkt :=
  match (s.thread h).item with
  | some (d, q) => s.prs.pkts.find? fun p => p.domain == d && p.seq == q && match p.at_ with
    | .tile t _ => t == hartTile h
    | _ => false
  | none => none

/-- R410: every outstanding sequence of a tile is skipped at once and counted in PRS_RO_LOST. -/
def loseTile (t : Nat) (s : State) : State :=
  let lost := s.prs.pkts.filter fun p => match p.at_ with
    | .tile u _ => u == t
    | _ => false
  lost.foldl (fun s p =>
    let s := match p.at_ with
      | .tile u slot => freeSlot u slot s
      | _ => s
    count Reg.PRS_RO_LOST_COUNT (sendLost p (dropSeq p s))) s

/-! ### Rule commands (R386 to R400) -/

/-- A rule set changed: the staged one in VERSIONED mode, else the live one (R396). -/
def editRules (f : RuleSet → RuleSet) (s : State) : State :=
  if s.versioned then (s.updPrs (fun u => { u with staged := f s.prs.staged })) else (s.updPrs (fun u => { u with live := f s.prs.live }))

/-- R396: the rule set that a command changes. -/
def State.editedRules (s : State) : RuleSet := if s.versioned then s.prs.staged else s.prs.live

/-- R425: the registers of every table follow the live rules. -/
def rulesShow (s : State) : State :=
  let r := s.prs.live
  (List.range 64).foldl (fun s t =>
    if s.flagI Reg.PRS_TBL_INFO_DEFINED t then
      s.setsI t [(Reg.PRS_TBL_INFO_GROUPS, (r.groups.filter fun g => g.1 / 256 == t).length),
        (Reg.PRS_TBL_INFO_RULES, (r.rules.filter fun x => x.table == t).length),
        (Reg.PRS_TBL_CAP_DEFAULT_ACTION, (Map.find? r.defaults t).getD 0),
        (Reg.PRS_TBL_CAP_DEFAULT_SET, if (Map.find? r.defaults t).isSome then 1 else 0)]
    else s) s

/-- R413: a classification command of the manager. -/
def prsCmd (op : Nat) (who : Issuer) (desc : Option (Nat × Nat)) (act : State → Nat × State) (s : State) : Outcome :=
  let arg := s.get Reg.PRS_CMD_ARG_TABLE * 2 ^ 24 + s.get Reg.PRS_CMD_ARG_INDEX
  let addr := if desc.isSome then 0 else s.get Reg.PRS_CMD_ADDR_ADDR
  .next <| regGate who 0xA00000 s
    (cmdStart Blk.prs ⟨op, who, 0, 0, arg, addr, 0, desc⟩ (who.role == .manager) (fun s =>
      let (st, s) := act s
      .done st 0 s))

/-- R396 to R399: a rule command: refused by state, by a pending commit or by a full stage, else it changes one entry. -/
def ruleCmd (op : Nat) (who : Issuer) (desc : Option (Nat × Nat)) (act : RuleSet → State → Nat × RuleSet) (s : State) : Outcome :=
  prsCmd op who desc (fun s =>
    if s.tblOpen = false then (St.badState, s)
    else match s.stageRefusal with
      | some st => (st, s)
      | none =>
        let (st, r) := act s.editedRules s
        if st = St.ok then (st, rulesShow (stageCount (editRules (fun _ => r) s))) else (st, s)) s

/-- R386, R388, R411: the table, group and masked key that a descriptor names, or a refusal. -/
def groupRefusal (s : State) (desc : Nat) : Option Nat :=
  if s.tblKind (byteField desc 0 0) 0 = false then some St.ruleNoTable
  else if 16 * s.getI Reg.PRS_TBL_INFO_STAGES (byteField desc 0 0) ≤ byteField desc 1 1 then some St.ruleNoGroup
  else none

/-- R388: the key of a group in a rule set. -/
def groupKey (desc : Nat) : Nat := byteField desc 0 0 * 256 + byteField desc 1 1

/-- R388: whether a rule of a set stands under a descriptor's group. -/
def inGroup (desc : Nat) (x : Rule) : Bool := x.table == byteField desc 0 0 && x.group == byteField desc 1 1

/-- GROUP_DEFINE (R386, R388). -/
def execGroupDefine (who : Issuer) (desc : Nat) (s : State) : Outcome :=
  ruleCmd 1 who (some (128, desc)) (fun r s =>
    match groupRefusal s desc with
    | some st => (st, r)
    | none =>
      if r.rules.any (inGroup desc) then (St.groupInUse, r)
      else (St.ok, { r with groups := Map.put r.groups (groupKey desc) (s.tblKeyOf (byteField desc 0 0) (desc >>> 512)) })) s

/-- RULE_WRITE (R386, R388). -/
def execRuleWrite (who : Issuer) (desc : Nat) (s : State) : Outcome :=
  ruleCmd 2 who (some (128, desc)) (fun r s =>
    match groupRefusal s desc, Map.find? r.groups (groupKey desc) with
    | some st, _ => (st, r)
    | none, none => (St.ruleNoGroup, r)
    | none, some m =>
      let t := byteField desc 0 0
      let x : Rule := ⟨t, byteField desc 1 1, s.tblKeyOf t (desc >>> 512) &&& m, byteField desc 2 3, byteField desc 4 6⟩
      let same (y : Rule) : Bool := inGroup desc y && y.key == x.key
      if s.tbl.actions ≤ x.action then (St.actionInvalid, r)
      else if r.rules.any same then (St.ok, { r with rules := r.rules.map fun y => if same y then x else y })
      else if s.getI Reg.PRS_TBL_CAP_CAPACITY t ≤ (r.rules.filter fun y => y.table == t).length then (St.ruleFull, r)
      else (St.ok, { r with rules := r.rules ++ [x] })) s

/-- RULE_DELETE (R386, R388). -/
def execRuleDelete (who : Issuer) (desc : Nat) (s : State) : Outcome :=
  ruleCmd 3 who (some (128, desc)) (fun r s =>
    match groupRefusal s desc, Map.find? r.groups (groupKey desc) with
    | some st, _ => (st, r)
    | none, none => (St.ruleNoGroup, r)
    | none, some m =>
      let key := s.tblKeyOf (byteField desc 0 0) (desc >>> 512) &&& m
      let same (y : Rule) : Bool := inGroup desc y && y.key == key
      if r.rules.any same then (St.ok, { r with rules := r.rules.filter fun y => !same y }) else (St.notFound, r)) s

/-- ACTION_WRITE (R389, R414). -/
def execActionWrite (who : Issuer) (entry : Nat) (s : State) : Outcome :=
  ruleCmd 4 who (some (64, entry)) (fun r s =>
    let i := s.get Reg.PRS_CMD_ARG_INDEX
    let n := byteField entry 0 0
    let ok := decide (1 ≤ n) && decide (n ≤ 7) && byteField entry 1 7 == 0 && decide (i < s.tbl.actions)
      && (List.range n).all fun k => opValid (byteField entry (8 * (k + 1)) (8 * (k + 1) + 7))
    if ok then (St.ok, { r with actions := Map.put r.actions i entry }) else (St.actionInvalid, r)) s

/-- TEMPLATE_WRITE (R390, R414). -/
def execTemplateWrite (who : Issuer) (template : Nat) (s : State) : Outcome :=
  ruleCmd 5 who (some (128, template)) (fun r s =>
    let i := s.get Reg.PRS_CMD_ARG_INDEX % 4096
    (St.ok, { r with templates := Map.put r.templates i template })) s

/-- COUNTER_CLEAR (R395). -/
def execCounterClear (who : Issuer) (s : State) : Outcome :=
  prsCmd 6 who none (fun s =>
    let i := s.get Reg.PRS_CMD_ARG_INDEX % 2 ^ 18
    (St.ok, s.setsI i [(Reg.PRS_CNT_PKT_COUNT, 0), (Reg.PRS_CNT_BYTE_LO_BYTES, 0)])) s

/-- DEFAULT_ACTION (R384, R414). -/
def execDefaultAction (who : Issuer) (s : State) : Outcome :=
  ruleCmd 7 who none (fun r s =>
    let t := s.get Reg.PRS_CMD_ARG_TABLE
    let i := s.get Reg.PRS_CMD_ARG_INDEX
    if s.flagI Reg.PRS_TBL_INFO_DEFINED t = false then (St.ruleNoTable, r)
    else if s.tbl.actions ≤ i then (St.actionInvalid, r)
    else (St.ok, { r with defaults := Map.put r.defaults t i })) s

/-- VER_COMMIT (R397 to R399). -/
def execVerCommit (who : Issuer) (s : State) : Outcome :=
  prsCmd 8 who none (fun s =>
    if s.versioned = false then (St.badState, s)
    else if s.flag Reg.PRS_VER_COMMIT_PENDING then (St.busy, s)
    else (St.ok, (s.updPrs (fun u => { u with commitDue := s.dueBoundary })).set Reg.PRS_VER_COMMIT_PENDING 1)) s

/-- R399, R438: the staged changes are discarded. -/
def abortStage (s : State) : State :=
  tblAbort ((s.updPrs (fun u => { u with staged := s.prs.live })).set Reg.PRS_VER_STAGED 0)

/-- VER_ABORT (R397, R399). -/
def execVerAbort (who : Issuer) (s : State) : Outcome :=
  prsCmd 9 who none (fun s =>
    if s.versioned = false then (St.badState, s)
    else if s.flag Reg.PRS_VER_COMMIT_PENDING then (St.busy, s)
    else (St.ok, abortStage s)) s

/-- VERSION_SWITCH (R398, R399). -/
def execVersionSwitch (s : State) : Outcome :=
  .next <|
    if s.flag Reg.PRS_VER_COMMIT_PENDING = false ∨ s.flag Reg.PRS_VER_OLD_LIVE ∨ s.stk.boundary < s.prs.commitDue then s
    else
      let v := s.get Reg.PRS_VER_LIVE
      let s := s.updPrs (fun u => { u with old := s.prs.live, live := s.prs.staged })
      let s := s.sets [(Reg.PRS_VER_OLD, v), (Reg.PRS_VER_OLD_LIVE, 1), (Reg.PRS_VER_LIVE, (v + 1) % 16), (Reg.PRS_VER_STAGED, 0),
        (Reg.PRS_VER_COMMIT_PENDING, 0), (Reg.PRS_VER_COMMIT_STROKE, s.stroke)]
      rulesShow (tblCommit s)

/-- VERSION_RETIRE (R398, R438): the last vector stamped OLD has left the pipelines. -/
def execVersionRetire (s : State) : Outcome :=
  .next <|
    let inside (p : Pkt) : Bool := vVersion p.vec == s.get Reg.PRS_VER_OLD && match p.at_ with
      | .parked _ => true
      | .leaving => true
      | _ => false
    if s.flag Reg.PRS_VER_OLD_LIVE = false ∨ s.prs.pkts.any inside then s
    else
      let s := (s.updPrs (fun u => { u with old := ⟨[], [], [], [], []⟩ })).set Reg.PRS_VER_OLD_LIVE 0
      raise Ev.prsVerDone 0 (s.get Reg.PRS_VER_LIVE) (tblCleanup s)

/-- R400: at entry to SERVICE the staged changes that no commit has taken are discarded and journaled. -/
def stageDiscard (s : State) : State :=
  let n := s.get Reg.PRS_VER_STAGED
  if n = 0 ∨ s.flag Reg.PRS_VER_COMMIT_PENDING then s
  else
    let s := jDevice 0x08E0 0 0 [n] (abortStage s)
    raise Ev.prsStageDiscard 0 n (s.set Reg.PRS_STATUS_STAGE_DISCARD 1)

end Sys2Proof.Machine
end

