-- ==== Sys2Proof/Machine/StorageAdmin.lean ====
section
/-!
DEFINITION. Storage administration (R569 to R573, R587 to R594): the admin command set, queues, aborts, firmware, the
device self-test, the controller's enable, reset and shutdown, and the manager's NVS_CMD commands.
-/
namespace Sys2Proof.Machine

/-! ### Admin commands -/

/-- An admin command that is ready to be served. -/
def adOn (h opcode : Nat) (act : Nat → NvCmd → NvCtrl → State → State) (s : State) : Outcome :=
  .next <|
    match s.nvCmd h with
    | some (slot, cmd) =>
      match s.nvCtrl cmd.ctrl with
      | some x => if cmd.sqid = 0 ∧ qOpcode cmd.sqe = opcode ∧ cmd.stage = 2 then act slot cmd x s else s
      | none => s
    | none => s

/-- Data returned to the host buffer of an admin command, which then completes. -/
def adReturn (slot : Nat) (cmd : NvCmd) (x : NvCtrl) (data : List Byte) (s : State) : State :=
  match hostSpans x.page cmd.sqe data.length cmd.data with
  | .error sf => nvEnd slot 0 sf St.nvsSgl s
  | .ok (l, _) => nvEnd slot 0 0 St.ok (putSpans x.niche l data s)

/-! ### Queues (R574, R588) -/

/-- R599: IO_SQS follows the I/O submission queues. -/
def ioSqShow (c : Nat) (s : State) : State :=
  s.setI Reg.NVS_CTRL_INFO_IO_SQS c (match s.nvCtrl c with
    | some x => (x.sqs.filter fun p => p.1 != 0).length
    | none => 0)

/-- The MSI-X vectors of a controller's function. -/
def nvVectors (s : State) (x : NvCtrl) : Nat := ((Map.find? s.hif.fns x.fn).map (·.vectors)).getD 0

/-- CREATE_IO_CQ (R574). -/
def execCreateIoCq (h : Nat) (s : State) : Outcome :=
  adOn h 5 (fun slot cmd x s =>
    let e := cmd.sqe
    let q := qDw e 10 % 65536
    let size := qDw e 10 / 65536 + 1
    let v := qDw e 11 / 65536
    if q = 0 ∨ x.maxIo < q ∨ (Map.find? x.cqs q).isSome then nvEnd slot 0 Nv.qid St.ok s
    else if size < 2 then nvEnd slot 0 Nv.qsize St.ok s
    else if bit (qDw e 11) 0 = 0 then nvEnd slot 0 Nv.field St.ok s
    else if nvVectors s x ≤ v then nvEnd slot 0 Nv.vector St.ok s
    else
      let cq : NvCq := { base := qPrp1 e, size := size, vector := if bit (qDw e 11) 1 = 1 then some v else none, head := 0, tail := 0
                         phase := 1, held := [], reserved := 0, owed := 0, since := 0 }
      nvEnd slot 0 0 St.ok (updCtrl cmd.ctrl (fun x => { x with cqs := Map.put x.cqs q cq }) s)) s

/-- CREATE_IO_SQ (R574). -/
def execCreateIoSq (h : Nat) (s : State) : Outcome :=
  adOn h 1 (fun slot cmd x s =>
    let e := cmd.sqe
    let q := qDw e 10 % 65536
    let size := qDw e 10 / 65536 + 1
    let cq := qDw e 11 / 65536
    if q = 0 ∨ x.maxIo < q ∨ (Map.find? x.sqs q).isSome ∨ s.quotaLeft x.niche 11 = 0 then nvEnd slot 0 Nv.qid St.ok s
    else if size < 2 then nvEnd slot 0 Nv.qsize St.ok s
    else if cq = 0 ∨ (Map.find? x.cqs cq).isNone then nvEnd slot 0 Nv.cqInvalid St.ok s
    else if bit (qDw e 11) 0 = 0 then nvEnd slot 0 Nv.field St.ok s
    else
      let sq : NvSq := { base := qPrp1 e, size := size, cq := cq, prio := bits (qDw e 11) 2 1, head := 0, tail := 0, seen := 0
                         reading := 0, entries := [] }
      let s := updCtrl cmd.ctrl (fun x => { x with sqs := Map.put x.sqs q sq }) (quotaTake x.niche 11 1 s)
      nvEnd slot 0 0 St.ok (ioSqShow cmd.ctrl s)) s

/-- R588: every outstanding command of a queue ends as an abort that committed first, with a status. -/
def nvEndQueue (c q sf : Nat) (s : State) : State :=
  let l := sortPairs ((s.nvs.cmds.filter fun p => p.2.ctrl == c && p.2.sqid == q && !p.2.test).map fun p => (p.2.born, p.1))
  let s := l.foldl (fun s p => match Map.find? s.nvs.cmds p.2 with
    | some cmd => nvPost cmd 0 sf St.ok 0 (nvKill p.2 s)
    | none => s) s
  match s.nvSq c q with
  | some x => x.entries.foldl (fun s e =>
      nvPost { gen := 0, ctrl := c, sqid := q, sqe := e, ns := 0, data := [], stage := 0, err := none, todo := [], test := false, born := 0 } 0 sf St.ok 0 s) s
  | none => s

/-- DELETE_IO_SQ (R588). -/
def execDeleteIoSq (h : Nat) (s : State) : Outcome :=
  adOn h 0 (fun slot cmd x s =>
    let q := qDw cmd.sqe 10 % 65536
    if q = 0 ∨ (Map.find? x.sqs q).isNone then nvEnd slot 0 Nv.qid St.ok s
    else
      let s := nvEndQueue cmd.ctrl q Nv.sqDeleted s
      let s := match s.nvSq cmd.ctrl q with
        | some y => updCq cmd.ctrl y.cq (fun z => { z with reserved := z.reserved - y.reading }) s
        | none => s
      let s := s.updHif (fun u => { u with waiting := s.hif.waiting.filter fun w => w.2 != .nvme (fetchId cmd.ctrl q) })
      let s := updCtrl cmd.ctrl (fun x => { x with sqs := Map.del x.sqs q }) (quotaGive x.niche 11 1 s)
      nvEnd slot 0 0 St.ok (ioSqShow cmd.ctrl s)) s

/-- DELETE_IO_CQ (R588). -/
def execDeleteIoCq (h : Nat) (s : State) : Outcome :=
  adOn h 4 (fun slot cmd x s =>
    let q := qDw cmd.sqe 10 % 65536
    if q = 0 ∨ (Map.find? x.cqs q).isNone then nvEnd slot 0 Nv.qid St.ok s
    else if x.sqs.any fun p => p.1 != 0 && p.2.cq == q then nvEnd slot 0 Nv.queueDeletion St.ok s
    else nvEnd slot 0 0 St.ok (updCtrl cmd.ctrl (fun x => { x with cqs := Map.del x.cqs q }) s)) s

/-! ### Identify (R571, R589) -/

/-- A number at a byte offset of a data structure. -/
def atByte (off v : Nat) : Nat := v * 2 ^ (8 * off)

/-- Text, first character in the lowest byte, padded with spaces to n bytes. -/
def padText (n : Nat) (t : String) : Nat := ofBytes (fitSpaces (t.toList.map fun c => BitVec.ofNat 8 c.toNat))
where
  /-- Bytes padded with spaces. -/
  fitSpaces (l : List Byte) : List Byte := (List.range n).map fun k => l.getD k 32

/-- R571: Identify Controller. -/
def identifyCtrl (s : State) (c : Nat) (x : NvCtrl) : Nat :=
  atByte 0 (s.get Reg.HIF_PCI_ID_VENDOR) + atByte 2 (s.get Reg.HIF_PCI_ID_VENDOR) + atByte 4 x.sn
  + atByte 24 (padText 40 "LIMHILD NGARON 96 NVME") + atByte 64 ((Map.find? x.fr x.active).getD 0) + atByte 77 9 + atByte 78 (c + 1)
  + atByte 80 0x20100 + atByte 92 0x300 + atByte 111 1 + atByte 256 0x14 + atByte 258 3 + atByte 259 3 + atByte 260 4 + atByte 261 0x26
  + atByte 262 63 + atByte 263 0 + atByte 316 (max 1 (s.getI Reg.NVS_CTRL_CFG_EDSTT c)) + atByte 512 0x66 + atByte 513 0x44 + atByte 516 64
  + atByte 520 0x8D + atByte 525 0 + atByte 536 2

/-- R572: Identify Namespace. -/
def identifyNs (ext : Bool) (d : Nat) : Nat :=
  atByte 0 (nSize d) + atByte 8 (nSize d) + atByte 16 (nSize d) + atByte 26 (if ext then 16 else 0)
  + atByte 27 (if nMs d = 0 then 0 else if ext then 1 else 2)
  + atByte 28 (if nPi d = 0 then 0 else 2 ^ (nPi d - 1) + if nFirst d then 8 else 16)
  + atByte 29 (nPi d + if nFirst d then 8 else 0) + atByte 104 (byteField d 48 63) + atByte 128 (nMs d + nLbads d * 2 ^ 16)

/-- The namespaces attached to a controller, by NSID. -/
def State.attached (s : State) (c : Nat) : List (Nat × Nat) :=
  (List.range 65).filterMap fun n => (s.nsOf c n).map fun ns => (n, ns)

/-- R589: Identify data by CNS; none where it is not supported. -/
def identifyData (s : State) (c : Nat) (x : NvCtrl) (e : Nat) : Except Nat Nat :=
  let cns := qDw e 10 % 256
  let nsid := qNsid e
  let real := decide (1 ≤ nsid) && decide (nsid ≤ 64)
  match cns with
  | 0 => if real then .ok (match s.nsOf c nsid with
      | some ns => identifyNs (Config.extendedLba ns) (s.nsDesc ns)
      | none => 0) else .error Nv.namespace_
  | 1 => .ok (identifyCtrl s c x)
  | 2 =>
    if 0xFFFFFFFE ≤ nsid then .error Nv.namespace_
    else .ok (ofBytes (((s.attached c).filter fun p => decide (nsid < p.1)).foldl (fun l p => l ++ toBytes 4 p.1) []))
  | 3 => match s.nsOf c nsid with
    | some ns => .ok (2 + atByte 1 16 + atByte 4 (byteField (s.nsDesc ns) 48 63))
    | none => .error Nv.namespace_
  | 5 =>
    if qDw e 11 / 2 ^ 24 ≠ 0 then .error Nv.field
    else match s.nsOf c nsid with
      | some ns => .ok (atByte 12 (if nGuard64 (s.nsDesc ns) then 2 * 2 ^ 7 else 0))
      | none => if real then .ok 0 else .error Nv.namespace_
  | 6 => if qDw e 11 / 2 ^ 24 ≠ 0 then .error Nv.field else .ok 0
  | _ => .error Nv.field

/-- IDENTIFY (R571, R572, R589). -/
def execIdentify (h : Nat) (s : State) : Outcome :=
  adOn h 6 (fun slot cmd x s =>
    match identifyData s cmd.ctrl x cmd.sqe with
    | .error sf => nvEnd slot 0 sf St.ok s
    | .ok v => adReturn slot cmd x (toBytes 4096 v) s) s

/-! ### Log pages (R589) -/

/-- R589: composite temperature in kelvins. -/
def composite (s : State) : Nat := (signed 8 (s.get Reg.PWR_TEMP_HOTTEST) + 273).toNat

/-- Whether the temperature lies outside the thresholds of Temperature Threshold. -/
def tempBeyond (s : State) (x : NvCtrl) : Bool :=
  decide (x.feat 4 0 0xFFFF ≤ composite s) || decide (composite s ≤ x.feat 4 1 0 && 0 < x.feat 4 1 0)

/-- R589: hours since the journal epoch began. -/
def powerOnHours (s : State) : Nat := s.stroke * s.period / 3600000000000

/-- R589: SMART / Health. -/
def smartLog (s : State) (x : NvCtrl) : Nat :=
  let n (k : Nat) : Nat := (Map.find? x.smart k).getD 0
  atByte 0 (if tempBeyond s x then 2 else 0) + atByte 1 (composite s) + atByte 3 100 + atByte 32 ((n 0 + 999) / 1000) + atByte 48 ((n 1 + 999) / 1000)
  + atByte 64 (n 2) + atByte 80 (n 3) + atByte 128 (powerOnHours s) + atByte 160 (n 4) + atByte 176 x.errCount

/-- R589: Firmware Slot Information. -/
def fwLog (x : NvCtrl) : Nat :=
  x.active + x.activate.getD 0 * 16 + atByte 8 ((Map.find? x.fr 1).getD 0) + atByte 16 ((Map.find? x.fr 2).getD 0)

/-- R589: Commands Supported and Effects. -/
def effectsLog : Nat :=
  let admin := (List.range 256).foldl (fun v o => v + if adminOpcode o then atByte (4 * o) 1 else 0) 0
  let io := (List.range 256).foldl (fun v o => v + if ioOpcode o then atByte (1024 + 4 * o) (if o = 1 ∨ o = 8 ∨ o = 9 then 3 else 1) else 0) 0
  admin + io

/-- R591: the operations of a segment over the namespaces tested. -/
def testBlocks (s : State) (t : NvTest) (ns : Nat) : Nat :=
  if t.code = 1 then min 4096 (nSize (s.nsDesc ns)) else nSize (s.nsDesc ns)
def testTotal (s : State) (t : NvTest) : Nat :=
  if t.seg = 1 then 1 else if t.seg = 2 then t.nss.length else t.nss.foldl (fun a ns => a + testBlocks s t ns) 0

/-- R591: Device Self-test: the operation under way with its completion in percent, and 20 results, newest first. -/
def testPage (s : State) (x : NvCtrl) : Nat :=
  let now := match x.test with
    | some t => t.code + atByte 1 ((t.seg - 1) * 33 + 33 * t.step / max 1 (testTotal s t))
    | none => 0
  now + (x.testLog.take 20).zipIdx.foldl (fun v p => v + atByte (4 + 28 * p.2) p.1) 0
    + ((List.range 20).foldl (fun v k => v + if x.testLog.length ≤ k then atByte (4 + 28 * k) 0xF else 0) 0)

/-- R589: a log page: its bytes and length. -/
def logPage (s : State) (x : NvCtrl) (lid : Nat) : Option (Nat × Nat) :=
  match lid with
  | 0 => some ([0, 1, 2, 3, 5, 6].foldl (fun v k => v + atByte (4 * k) 1) 0, 1024)
  | 1 => some (x.errors.zipIdx.foldl (fun v p => v + atByte (64 * p.2) p.1) 0, 4096)
  | 2 => some (smartLog s x, 512)
  | 3 => some (fwLog x, 512)
  | 5 => some (effectsLog, 4096)
  | 6 => some (testPage s x, 564)
  | _ => none

/-- GET_LOG_PAGE (R589). -/
def execGetLogPage (h : Nat) (s : State) : Outcome :=
  adOn h 2 (fun slot cmd x s =>
    let e := cmd.sqe
    let lid := qDw e 10 % 256
    let off := qDw e 12 + qDw e 13 * 2 ^ 32
    match logPage s x lid with
    | none => nvEnd slot 0 Nv.logPage St.ok s
    | some (v, len) =>
      if len < off ∨ off % 4 ≠ 0 then nvEnd slot 0 Nv.field St.ok s
      else
        let s := if bit (qDw e 10) 15 = 1 then s
          else updCtrl cmd.ctrl (fun x => { x with masked := x.masked.filter fun m => m % 256 != lid }) s
        adReturn slot cmd x (fit (adminOut e) ((toBytes len v).drop off)) s) s

/-! ### Features (R589) -/

/-- R589: the features supported. -/
def featureKnown (f : Nat) : Bool := [1, 2, 4, 7, 8, 9, 0x0A, 0x0B].contains f

/-- Which instance of a feature a command names: a threshold, or a vector. -/
def featSub (fid v : Nat) : Nat := if fid = 4 then bits v 21 20 else if fid = 9 then v % 65536 else 0

/-- The default of a feature. -/
def featDefault (fid sub : Nat) : Nat := if fid = 4 ∧ sub = 0 then 0xFFFF else if fid = 9 then sub else 0

/-- What refuses a Set Features. -/
def setRefusal (s : State) (x : NvCtrl) (e : Nat) : Option Nat :=
  let fid := qDw e 10 % 256
  let v := qDw e 11
  if featureKnown fid = false then some Nv.field
  else if bit (qDw e 10) 31 = 1 then some Nv.notSaveable
  else if fid = 2 ∧ v % 32 ≠ 0 then some Nv.field
  else if fid = 4 ∧ (1 < bits v 21 20 ∨ bits v 19 16 ≠ 0) then some Nv.field
  else if fid = 7 ∧ (v % 65536 = 0xFFFF ∨ v / 65536 = 0xFFFF) then some Nv.field
  else if fid = 7 ∧ x.sqs.any (fun p => p.1 != 0) then some Nv.sequence
  else if fid = 9 ∧ nvVectors s x ≤ v % 65536 then some Nv.field
  else none

/-- R574: Number of Queues reports the lesser of the request and MAX_IO. -/
def queuesGiven (x : NvCtrl) (v : Nat) : Nat := min (v % 65536) (x.maxIo - 1) + min (v / 65536) (x.maxIo - 1) * 2 ^ 16

/-- SET_FEATURES (R574, R577, R589). -/
def execSetFeatures (h : Nat) (s : State) : Outcome :=
  adOn h 9 (fun slot cmd x s =>
    let fid := qDw cmd.sqe 10 % 256
    let v := qDw cmd.sqe 11
    match setRefusal s x cmd.sqe with
    | some sf => nvEnd slot 0 sf St.ok s
    | none =>
      let kept := if fid = 4 then v % 65536 else if fid = 7 then queuesGiven x v else v
      let s := updCtrl cmd.ctrl (fun x => { x with feats := Map.put x.feats (featKey fid (featSub fid v)) kept }) s
      nvEnd slot (if fid = 7 then queuesGiven x v else 0) 0 St.ok s) s

/-- GET_FEATURES (R589): the current, default or saved value, or what can be done with it. -/
def execGetFeatures (h : Nat) (s : State) : Outcome :=
  adOn h 0x0A (fun slot cmd x s =>
    let fid := qDw cmd.sqe 10 % 256
    let sel := bits (qDw cmd.sqe 10) 10 8
    let sub := featSub fid (qDw cmd.sqe 11)
    let dflt := if fid = 7 then queuesGiven x 0xFFFEFFFE else featDefault fid sub
    if featureKnown fid = false ∨ 3 < sel ∨ (fid = 4 ∧ 1 < sub) ∨ (fid = 9 ∧ nvVectors s x ≤ sub) then nvEnd slot 0 Nv.field St.ok s
    else nvEnd slot (if sel = 3 then 4 else if sel = 1 then dflt else x.feat fid sub dflt) 0 St.ok s) s

/-- ASYNC_EVENT_REQUEST (R589). -/
def execAsyncEventRequest (h : Nat) (s : State) : Outcome :=
  adOn h 0x0C (fun slot cmd _ s =>
    nvAsync cmd.ctrl (updCtrl cmd.ctrl (fun x => { x with aers := x.aers ++ [slot] }) (updCmd slot (fun c => { c with stage := 6 }) s))) s

/-- R589: the composite temperature has been measured anew. -/
def nvTemperature (s : State) : State :=
  s.nvs.ctrls.foldl (fun s p => if s.getI Reg.NVS_CTRL_INFO_STATE p.1 = 2 ∧ tempBeyond s p.2 then nvNoticeIf p.1 1 1 1 2 s else s) s

/-! ### Abort (R587) -/

/-- R587: the outstanding command of a queue with a CID: the oldest in a slot. -/
def abortTarget (s : State) (c q cid self_ : Nat) : Option (Nat × NvCmd) :=
  let l := s.nvs.cmds.filter fun p => p.2.ctrl == c && p.2.sqid == q && qCid p.2.sqe == cid && p.1 != self_ && !p.2.test
  l.foldl (fun b p => match b with
    | some x => if p.2.born < x.2.born then some p else some x
    | none => some p) none

/-- R587: whether a command has passed its commit point: its last write has been issued. -/
def pastCommit (cmd : NvCmd) : Bool := cmd.stage == 3 && qOpcode cmd.sqe != 2 && qOpcode cmd.sqe != 5 && qOpcode cmd.sqe != 0x0C && cmd.todo == []

/-- NVME_ABORT (R587). -/
def execNvmeAbort (h : Nat) (s : State) : Outcome :=
  adOn h 8 (fun slot cmd _ s =>
    let q := qDw cmd.sqe 10 % 65536
    let cid := qDw cmd.sqe 10 / 65536
    let c := cmd.ctrl
    match abortTarget s c q cid slot with
    | some (t, tc) =>
      if pastCommit tc then nvEnd slot 1 0 St.ok s
      else nvEnd slot 0 0 St.ok (nvPost tc 0 Nv.abortRequested St.ok 0 (nvKill t s))
    | none =>
      match s.nvSq c q with
      | some x =>
        match x.entries.findIdx? fun e => qCid e == cid with
        | some k =>
          let e := x.entries.getD k 0
          let s := updSq c q (fun x => { x with entries := x.entries.eraseIdx k }) s
          nvEnd slot 0 0 St.ok (nvPost { cmd with sqid := q, sqe := e } 0 Nv.abortRequested St.ok 0 s)
        | none => nvEnd slot 1 0 St.ok s
      | none => nvEnd slot 1 0 St.ok s) s

/-! ### Firmware (R590) -/

/-- FIRMWARE_IMAGE_DOWNLOAD (R590). -/
def execFirmwareImageDownload (h : Nat) (s : State) : Outcome :=
  adOn h 0x11 (fun slot cmd x s =>
    let e := cmd.sqe
    let size := s.getI Reg.NVS_CTRL_FW_SIZE_MIB cmd.ctrl * 2 ^ 20
    let off := qDw e 11 * 4
    if size < off + fwBytes e then nvEnd slot 0 Nv.fwImage St.ok s
    else match hostSpans x.page e (fwBytes e) cmd.data with
      | .error sf => nvEnd slot 0 sf St.nvsSgl s
      | .ok (_, k) =>
        let at_ := (s.stackedQuota 0).1 + s.getI Reg.NVS_CTRL_FW_BASE_MIB cmd.ctrl * 2 ^ 20 + off
        nvEnd slot 0 0 St.ok (memWriteList s at_ (fit (fwBytes e) (cmd.data.drop k)))) s

/-- FIRMWARE_COMMIT (R590). -/
def execFirmwareCommit (h : Nat) (s : State) : Outcome :=
  adOn h 0x10 (fun slot cmd x s =>
    let v := qDw cmd.sqe 10
    let fs := v % 8
    let ca := bits v 5 3
    if s.getI Reg.NVS_CTRL_FW_SIZE_MIB cmd.ctrl = 0 then nvEnd slot 0 Nv.fwImage St.ok s
    else if 3 < ca then nvEnd slot 0 Nv.field St.ok s
    else if 2 < fs ∨ (ca = 2 ∧ fs = 0) then nvEnd slot 0 Nv.fwSlot St.ok s
    else if ca = 3 then nvEnd slot 0 Nv.fwReset St.ok s
    else if x.commit.isSome then s
    else
      let s := updCtrl cmd.ctrl (fun x => { x with commit := some slot }) (updCmd slot (fun c => { c with stage := 6 }) s)
      raise Ev.nvsFwCommit cmd.ctrl (cmd.ctrl + v % 64 * 2 ^ 16) (fwShow cmd.ctrl s)) s

/-! ### Self-test (R591) -/

/-- R591: a self-test ends with a result; its entry goes to the log. -/
def testEnd (c result : Nat) (s : State) : State :=
  match s.nvCtrl c with
  | none => s
  | some x =>
    match x.test with
    | none => s
    | some t =>
      let (seg, nsid, lba, valid) := match t.failed with
        | some (g, n, l) => (g, n, l, 3)
        | none => (0, t.nsid, 0, 0)
      let e := result + t.code * 16 + seg * 2 ^ 8 + valid * 2 ^ 16 + powerOnHours s % 2 ^ 64 * 2 ^ 32 + nsid % 2 ^ 32 * 2 ^ 96 + lba % 2 ^ 64 * 2 ^ 128
      let own := (s.nvs.cmds.filter fun p => p.2.ctrl == c && p.2.test).map (·.1)
      let s := own.foldl (fun s k => nvKill k s) s
      let s := updCtrl c (fun x => { x with test := none, testLog := (e :: x.testLog).take 20 }) s
      let s := raise Ev.nvsSelftest c (c + result * 2 ^ 16) (s.setI Reg.NVS_CTRL_INFO_SELFTEST c 0)
      let (v, s) := s.draw
      nvNotice c 2 (v % 256) 6 s

/-- DEVICE_SELF_TEST (R591). -/
def execDeviceSelfTest (h : Nat) (s : State) : Outcome :=
  adOn h 0x14 (fun slot cmd x s =>
    let code := qDw cmd.sqe 10 % 16
    let nsid := qNsid cmd.sqe
    let nss := if nsid = 0xFFFFFFFF then (s.attached cmd.ctrl).map (·.2) else (s.nsOf cmd.ctrl nsid).toList
    if code = 0xF then nvEnd slot 0 0 St.ok (testEnd cmd.ctrl 1 s)
    else if code ≠ 1 ∧ code ≠ 2 then nvEnd slot 0 Nv.field St.ok s
    else if x.test.isSome then nvEnd slot 0 Nv.selfTest St.ok s
    else if nsid ≠ 0 ∧ nsid ≠ 0xFFFFFFFF ∧ nss = [] then nvEnd slot 0 Nv.namespace_ St.ok s
    else
      let t : NvTest := { code := code, nsid := nsid, seg := 1, step := 0, nss := nss, failed := none, stroke := s.stk.boundary, ops := 0 }
      nvEnd slot 0 0 St.ok (updCtrl cmd.ctrl (fun x => { x with test := some t }) (s.setI Reg.NVS_CTRL_INFO_SELFTEST cmd.ctrl 1))) s

/-- R591: the namespace and block of an operation of segment 3. -/
def testPlace (s : State) (t : NvTest) (k : Nat) (l : List Nat) : Option (Nat × Nat) :=
  match l with
  | [] => none
  | ns :: rest =>
    let n := testBlocks s t ns
    if k < n then some (ns, k * nSize (s.nsDesc ns) / n) else testPlace s t (k - n) rest

/-- The segments that are done give way to the next; after the last the test ends. -/
def testAdvance (fuel c : Nat) (s : State) : State :=
  match fuel, (s.nvCtrl c).bind (·.test) with
  | fuel + 1, some t =>
    if t.step < testTotal s t then s
    else if t.seg = 3 then testEnd c (if t.failed.isSome then 7 else 0) s
    else testAdvance fuel c (updCtrl c (fun x => { x with test := some { t with seg := t.seg + 1, step := 0 } }) s)
  | _, _ => s

/-- R591: a one-block verify that the front-end makes for a self-test. -/
def testVerify (c ns lba : Nat) (bad : Bool) (s : State) : State :=
  match s.nvSlot with
  | none => s
  | some slot =>
    let d := s.nsDesc ns
    let e := 0x0C + s.getI Reg.NVS_NS_INFO_NSID ns * 2 ^ 32 + lba * 2 ^ 320 + 2 ^ 28 * 2 ^ 384
    let cmd : NvCmd := { gen := 0, ctrl := c, sqid := 0x7FF, sqe := e, ns := ns, data := [], stage := 5, err := none, todo := [], test := true, born := 0 }
    if nBackend d < 2 then nvLoad slot d lba 1 bad (nvTake slot { cmd with stage := 3 } s)
    else
      let k := nTarget d (0x7FF % max 1 (nTargets d))
      if s.chanFree k = 0 then s
      else
        let s := nvTake slot cmd s
        match Map.find? s.nvs.cmds slot with
        | some m => (hwPut k (nvMessage 2 slot m d) s).1
        | none => s

/-- SELF_TEST_WORK (R591): one operation of a self-test, at most 4 in a stroke; `bad` says that it fails. -/
def execSelfTestWork (ctrl : Nat) (bad : Bool) (s : State) : Outcome :=
  .next <|
    match s.nvCtrl ctrl with
    | none => s
    | some x =>
      match x.test with
      | none => s
      | some t =>
        let ops := if t.stroke = s.stk.boundary then t.ops else 0
        if s.running = false ∨ 4 ≤ ops ∨ x.sqs.any (fun p => s.fetchable ctrl p.1) ∨ s.nvs.cmds.any (fun p => p.2.ctrl == ctrl && p.2.test) then s
        else
          let s := updCtrl ctrl (fun x => { x with test := some { t with stroke := s.stk.boundary, ops := ops + 1 } }) s
          let s := if t.seg = 1 then testOpEnd ctrl (if bad then some (t.nsid, 0) else none) s
            else if t.seg = 2 then (match t.nss[t.step]? with
              | some ns => testVerify ctrl ns 0 bad s
              | none => s)
            else match testPlace s t t.step t.nss with
              | some (ns, lba) => testVerify ctrl ns lba bad s
              | none => s
          testAdvance 4 ctrl s

/-! ### Enable, reset and shutdown (R569, R588) -/

/-- R706, R711: the record of a CC write. -/
def ccJournal (c before : Nat) (s : State) : State :=
  let n := s.nvNiche c
  let cc := ((s.nvCtrl c).map (·.cc)).getD 0
  jEntry ⟨0, 0, 0x0CFE, .tenant, 0, 0, n, .host, s.getI Reg.NCH_INFO_AP n, s.getI Reg.NCH_INFO_RID n, 0,
    c + cc % 2 ^ 32 * 2 ^ 32 + before % 2 ^ 32 * 2 ^ 64⟩ s

/-- CC_ENABLE (R569): the host sets CC.EN, having set AQA, ASQ and ACQ. -/
def execCcEnable (ctrl cc aqa asq acq : Nat) (s : State) : Outcome :=
  .next <|
    if (s.nvCtrl ctrl).isNone ∨ s.getI Reg.NVS_CTRL_INFO_STATE ctrl ≠ 1 then s
    else
      let before := ((s.nvCtrl ctrl).map (·.cc)).getD 0
      let ok := bits cc 19 16 == 6 && bits cc 23 20 == 4 && decide (bits cc 10 7 ≤ 4) && bits cc 6 4 == 0 && decide (bits cc 13 11 ≤ 1)
        && decide (1 ≤ bits aqa 11 0) && decide (1 ≤ bits aqa 27 16)
      let cq : NvCq := { base := acq, size := bits aqa 27 16 + 1, vector := some 0, head := 0, tail := 0, phase := 1, held := [], reserved := 0, owed := 0, since := 0 }
      let sq : NvSq := { base := asq, size := bits aqa 11 0 + 1, cq := 0, prio := 0, head := 0, tail := 0, seen := 0, reading := 0, entries := [] }
      let s := updCtrl ctrl (fun x => { x with cc := cc, aqa := aqa, asq := asq, acq := acq, csts := if ok then 1 else 2
                                               sqs := if ok then [(0, sq)] else [], cqs := if ok then [(0, cq)] else [] }) s
      let s := ccJournal ctrl before s
      ctrlEvent ctrl (if ok then 2 else 5) (setCtrlState ctrl (if ok then 2 else 5) s)

/-- CC_DISABLE (R588): the host clears CC.EN. -/
def execCcDisable (ctrl : Nat) (s : State) : Outcome :=
  .next <|
    let st := s.getI Reg.NVS_CTRL_INFO_STATE ctrl
    if (s.nvCtrl ctrl).isNone ∨ (st ≠ 2 ∧ st ≠ 4 ∧ st ≠ 5) then s
    else
      let before := ((s.nvCtrl ctrl).map (·.cc)).getD 0
      let s := ccJournal ctrl before (updCtrl ctrl (fun x => { x with cc := x.cc / 2 * 2 }) s)
      (ctrlEvent ctrl 3 (setCtrlState ctrl 3 s)).defer (.nvmeReset ctrl)

/-- R588, R590: the reset of a controller: no completions, its handles retired, its queues deleted, its self-test ended, a
firmware slot that waits activated. -/
def applyNvmeReset (c : Nat) (s : State) : State :=
  match s.nvCtrl c with
  | none => s
  | some x =>
    let s := testEnd c 2 s
    let l := (s.nvs.cmds.filter fun p => p.2.ctrl == c).map (·.1)
    let s := l.foldl (fun s k => nvKill k s) s
    let s := (s.updHif (fun u => { u with waiting := s.hif.waiting.filter fun w => match w.2 with
      | .nvme id => !(decide (2 ^ 20 ≤ id) && id / 2048 % 512 == c)
      | _ => true }))
    let s := quotaGive x.niche 11 (x.sqs.filter fun p => p.1 != 0).length s
    let s := updCtrl c (fun x => { x with csts := 0, cc := x.cc / 2 * 2, sqs := [], cqs := [], feats := [], aers := [], notices := [], masked := []
                                          active := x.activate.getD x.active, activate := none, turn := [], credit := [] }) s
    setCtrlState c 1 (ioSqShow c (fwShow c s))

/-- CC_SHUTDOWN (R588): the host sets CC.SHN; fetching stops. -/
def execCcShutdown (ctrl shn : Nat) (s : State) : Outcome :=
  .next <|
    if (s.nvCtrl ctrl).isNone ∨ s.getI Reg.NVS_CTRL_INFO_STATE ctrl ≠ 2 ∨ shn = 0 then s
    else
      let before := ((s.nvCtrl ctrl).map (·.cc)).getD 0
      let s := updCtrl ctrl (fun x => { x with cc := x.cc - bits x.cc 15 14 * 2 ^ 14 + shn % 4 * 2 ^ 14, csts := 1 + 1 * 4 }) s
      setCtrlState ctrl 4 (ccJournal ctrl before s)

/-- SHUTDOWN_COMPLETE (R588): every outstanding command has completed, but for held Asynchronous Event Requests. -/
def execShutdownComplete (ctrl : Nat) (s : State) : Outcome :=
  .next <|
    match s.nvCtrl ctrl with
    | none => s
    | some x =>
      let idle := s.nvs.cmds.all (fun p => p.2.ctrl != ctrl || x.aers.contains p.1) && x.sqs.all fun p => p.2.reading == 0 && p.2.entries == []
      if s.getI Reg.NVS_CTRL_INFO_STATE ctrl = 4 ∧ bits x.csts 3 2 = 1 ∧ idle then
        ctrlEvent ctrl 4 (updCtrl ctrl (fun x => { x with csts := 1 + 2 * 4 }) s)
      else s

/-! ### The manager's commands (R571 to R573, R594) -/

/-- A storage command of the manager. -/
def nvsCmd (op : Nat) (who : Issuer) (niche obj : Nat) (desc : Option (Nat × Nat)) (act : State → CmdRes) (s : State) : Outcome :=
  let arg := s.get Reg.NVS_CMD_ARG_NS * 2 ^ 50 + s.get Reg.NVS_CMD_ARG_CTRL * 2 ^ 32 + s.get Reg.NVS_CMD_ARG_NSID
  let addr := if desc.isSome then 0 else s.get Reg.NVS_CMD_ADDR_ADDR
  .next <| regGate who 0xE00000 s (cmdStart Blk.nvs ⟨op, who, niche, obj, arg, addr, 0, desc⟩ (who.role == .manager) act)

/-- CTRL_CREATE (R571). -/
def execCtrlCreate (who : Issuer) (desc : Nat) (s : State) : Outcome :=
  let n := byteField desc 0 1 % 4096
  nvsCmd 1 who n 0 (some (64, desc)) (fun s =>
    let maxIo := byteField desc 2 3
    let fn := s.nicheFn n
    let kind := (Map.find? s.hif.fns fn).map (·.kind)
    if maxIo = 0 ∨ 1024 < maxIo ∨ byteField desc 4 7 ≠ 0 ∨ byteField desc 36 63 ≠ 0 then .done St.invalid 0 s
    else if (s.nicheRefusal n).isSome then .done ((s.nicheRefusal n).getD 0) 0 s
    else if s.flagI Reg.NCH_INFO_BOUND n = false ∨ kind ≠ some 2 ∨ s.nvs.ctrls.any (fun p => p.2.fn == fn) then .done St.badState 0 s
    else if s.quotaLeft n 10 = 0 then .done St.noResource 0 s
    else match lowestFree 512 0 (s.nvs.ctrls.map (·.1)) with
      | none => .done St.noResource 0 s
      | some c =>
        let x : NvCtrl := { niche := n, fn := fn, sn := byteField desc 8 27, maxIo := maxIo, cc := 0, csts := 0, aqa := 0, asq := 0, acq := 0
                            sqs := [], cqs := [], feats := [], aers := [], notices := [], masked := [], errors := [], errCount := 0, test := none
                            testLog := [], fr := [(1, byteField desc 28 35)], active := 1, activate := none, commit := none, smart := [], turn := []
                            credit := [] }
        let s := quotaTake n 10 1 (s.updNvs (fun u => { u with ctrls := Map.put s.nvs.ctrls c x }))
        .done St.ok c (s.setsI c [(Reg.NVS_CTRL_INFO_STATE, 1), (Reg.NVS_CTRL_INFO_AP, s.getI Reg.NCH_INFO_AP n), (Reg.NVS_CTRL_INFO_NICHE, n),
          (Reg.NVS_CTRL_INFO_IO_SQS, 0), (Reg.NVS_CTRL_INFO_RID, s.getI Reg.NCH_INFO_RID n), (Reg.NVS_CTRL_INFO_MAX_IO, maxIo),
          (Reg.NVS_CTRL_INFO_FW_PENDING, 0), (Reg.NVS_CTRL_INFO_SELFTEST, 0), (Reg.NVS_CMD_CNT_COUNT, 0)])) s

/-- R599, R601: what NVS_NS_INFO and NVS_NS_SIZE show of a namespace. -/
def nsShow (ns : Nat) (s : State) : State :=
  match Map.find? s.nvs.nss ns with
  | some n =>
    s.setsI ns [(Reg.NVS_NS_INFO_DEFINED, 1), (Reg.NVS_NS_INFO_BACKEND, nBackend n.desc), (Reg.NVS_NS_INFO_PI_TYPE, nPi n.desc),
      (Reg.NVS_NS_INFO_GUARD64, if nGuard64 n.desc then 1 else 0), (Reg.NVS_NS_INFO_LBADS, nLbads n.desc), (Reg.NVS_NS_INFO_MS, nMs n.desc),
      (Reg.NVS_NS_INFO_NICHE, nNiche n.desc), (Reg.NVS_NS_SIZE_NSZE, nSize n.desc)]
  | none =>
    s.setsI ns [(Reg.NVS_NS_INFO_DEFINED, 0), (Reg.NVS_NS_INFO_BACKEND, 0), (Reg.NVS_NS_INFO_PI_TYPE, 0), (Reg.NVS_NS_INFO_GUARD64, 0),
      (Reg.NVS_NS_INFO_LBADS, 0), (Reg.NVS_NS_INFO_MS, 0), (Reg.NVS_NS_INFO_NICHE, 0), (Reg.NVS_NS_SIZE_NSZE, 0)]

/-- R573: a namespace leaves its controller. -/
def nsLeave (ns : Nat) (s : State) : State :=
  s.setsI ns [(Reg.NVS_NS_INFO_ATTACHED, 0), (Reg.NVS_NS_INFO_CTRL, 0), (Reg.NVS_NS_INFO_NSID, 0)]

/-- A controller and its attachments go; its niche's quota returns. -/
def dropCtrl (c : Nat) (s : State) : State :=
  match s.nvCtrl c with
  | none => s
  | some x =>
    let s := (s.nvs.nss.filter fun p => s.flagI Reg.NVS_NS_INFO_ATTACHED p.1 && s.getI Reg.NVS_NS_INFO_CTRL p.1 == c).foldl (fun s p => nsLeave p.1 s) s
    let s := quotaGive x.niche 10 1 (s.updNvs (fun u => { u with ctrls := Map.del s.nvs.ctrls c }))
    s.setsI c [(Reg.NVS_CTRL_INFO_STATE, 0), (Reg.NVS_CTRL_INFO_AP, 0), (Reg.NVS_CTRL_INFO_NICHE, 0), (Reg.NVS_CTRL_INFO_IO_SQS, 0),
      (Reg.NVS_CTRL_INFO_RID, 0), (Reg.NVS_CTRL_INFO_MAX_IO, 0)]

/-- CTRL_DESTROY (R594). -/
def execCtrlDestroy (who : Issuer) (s : State) : Outcome :=
  let c := s.get Reg.NVS_CMD_ARG_CTRL
  nvsCmd 2 who (s.nvNiche c) c none (fun s =>
    if (s.nvCtrl c).isNone then .done St.notFound c s
    else if s.getI Reg.NVS_CTRL_INFO_STATE c ≠ 1 then .done St.badState c s
    else .done St.ok c (dropCtrl c s)) s

/-- R572: the ranges of a namespace descriptor. -/
def nsValid (d : Nat) : Bool :=
  let b := nBackend d
  let pi := byteField d 6 6
  (nLbads d == 9 || nLbads d == 12) && [0, 8, 16, 64].contains (nMs d) && decide (pi % 8 ≤ 3) && decide (bits pi 5 4 ≤ 1) && decide (pi < 64)
    && decide (b ≤ 3) && (nPi d == 0 || decide (piSize d ≤ nMs d)) && (decide (b < 2) || nBase d == 0) && (b != 1 || fabSpace (nBase d) == 0)
    && (b == 1 || nKey d == 0) && (if b < 2 then nTargets d == 0 else decide (1 ≤ nTargets d) && decide (nTargets d ≤ 4))
    && byteField d 37 47 == 0 && (byteField d 0 1 == 0xFFFF || decide (byteField d 0 1 ≤ 16383))

/-- R572: whether a target's tile and channel qualify. -/
def targetOk (s : State) (k : Nat) : Bool :=
  decide (k / 256 < 96) && s.getI Reg.TIL_INFO_ROLE (k / 256) == 0 && s.flagI Reg.TIL_CH_INFO_HW_WRITER k && s.flagI Reg.TIL_CH_INFO_NICHE_BEARING k

/-- NS_CREATE (R572). -/
def execNsCreate (who : Issuer) (desc : Nat) (s : State) : Outcome :=
  let n := nNiche desc
  nvsCmd 3 who n 0 (some (64, desc)) (fun s =>
    let asked := byteField desc 0 1
    let bytes := nSize desc * nStep desc
    if nsValid desc = false then .done St.invalid 0 s
    else if (s.nicheRefusal n).isSome then .done ((s.nicheRefusal n).getD 0) 0 s
    else if asked ≠ 0xFFFF ∧ (Map.find? s.nvs.nss asked).isSome then .done St.badState 0 s
    else if nBackend desc = 0 ∧ (s.stackedQuota n).2 < nBase desc + bytes then .done St.noResource 0 s
    else if 2 ≤ nBackend desc ∧ (List.range (nTargets desc)).all (fun k => targetOk s (nTarget desc k)) = false then .done St.nvsTarget 0 s
    else match if asked = 0xFFFF then lowestFree 16384 0 (s.nvs.nss.map (·.1)) else some asked with
      | none => .done St.noResource 0 s
      | some ns =>
        let s := if nBackend desc = 0 then memZero s ((s.stackedQuota n).1 + nBase desc) bytes else s
        let s := s.updNvs (fun u => { u with nss := Map.put s.nvs.nss ns ⟨desc, false⟩ })
        .done St.ok ns (nsLeave ns (nsShow ns s))) s

/-- NS_DESTROY (R573). -/
def execNsDestroy (who : Issuer) (s : State) : Outcome :=
  let ns := s.get Reg.NVS_CMD_ARG_NS
  nvsCmd 4 who (nNiche (s.nsDesc ns)) ns none (fun s =>
    if (Map.find? s.nvs.nss ns).isNone then .done St.notFound ns s
    else if s.flagI Reg.NVS_NS_INFO_ATTACHED ns then .done St.badState ns s
    else .done St.ok ns (nsShow ns (s.updNvs (fun u => { u with nss := Map.del s.nvs.nss ns })))) s

/-- NS_ATTACH (R573). -/
def execNsAttach (who : Issuer) (s : State) : Outcome :=
  let ns := s.get Reg.NVS_CMD_ARG_NS
  let c := s.get Reg.NVS_CMD_ARG_CTRL
  let nsid := s.get Reg.NVS_CMD_ARG_NSID
  nvsCmd 5 who (nNiche (s.nsDesc ns)) ns none (fun s =>
    if (Map.find? s.nvs.nss ns).isNone ∨ (s.nvCtrl c).isNone then .done St.notFound ns s
    else if nsid = 0 ∨ 64 < nsid ∨ nNiche (s.nsDesc ns) ≠ s.nvNiche c then .done St.invalid ns s
    else if s.flagI Reg.NVS_NS_INFO_ATTACHED ns ∨ (s.nsOf c nsid).isSome then .done St.badState ns s
    else .done St.ok ns (s.defer (.nsAttach ns c nsid))) s

/-- R573: at its boundary a namespace is attached. -/
def applyNsAttach (ns c nsid : Nat) (s : State) : State :=
  if (Map.find? s.nvs.nss ns).isNone ∨ (s.nvCtrl c).isNone ∨ s.flagI Reg.NVS_NS_INFO_ATTACHED ns ∨ (s.nsOf c nsid).isSome then s
  else nvNoticeIf c 8 2 0 4 (s.setsI ns [(Reg.NVS_NS_INFO_ATTACHED, 1), (Reg.NVS_NS_INFO_CTRL, c), (Reg.NVS_NS_INFO_NSID, nsid)])

/-- NS_DETACH (R573). -/
def execNsDetach (who : Issuer) (s : State) : Outcome :=
  let ns := s.get Reg.NVS_CMD_ARG_NS
  nvsCmd 6 who (nNiche (s.nsDesc ns)) ns none (fun s =>
    if (Map.find? s.nvs.nss ns).isNone then .done St.notFound ns s
    else if s.flagI Reg.NVS_NS_INFO_ATTACHED ns = false then .done St.badState ns s
    else .running (s.defer (.nsDetach ns))) s

/-- R573, R591: at its boundary a namespace is detached; the command completes when its commands are done. -/
def applyNsDetach (ns : Nat) (s : State) : State :=
  match Map.find? s.nvs.nss ns with
  | none => cmdEnd Blk.nvs St.notFound s
  | some n =>
    let c := s.getI Reg.NVS_NS_INFO_CTRL ns
    let tested : Bool := match (s.nvCtrl c).bind (·.test) with
      | some t => t.nss.contains ns
      | none => false
    let s := if tested then testEnd c 3 s else s
    let s := nsLeave ns (s.updNvs (fun u => { u with nss := Map.put s.nvs.nss ns { n with detaching := true } }))
    nsDetached ns (nvNoticeIf c 8 2 0 4 s)

/-- FW_DONE (R590). -/
def execFwDone (who : Issuer) (block : Nat) (s : State) : Outcome :=
  let c := s.get Reg.NVS_CMD_ARG_CTRL
  nvsCmd 7 who (s.nvNiche c) c (some (16, block)) (fun s =>
    match s.nvCtrl c with
    | none => .done St.notFound c s
    | some x =>
      match x.commit.bind fun slot => (Map.find? s.nvs.cmds slot).map fun cmd => (slot, cmd) with
      | none => .done St.nvsHandle c s
      | some (slot, cmd) =>
        let v := qDw cmd.sqe 10
        let fs := if v % 8 = 0 then 1 else v % 8
        let sf := byteField block 0 1 % 2 ^ 15
        let s := updCtrl c (fun x => { x with commit := none
                                              fr := if sf = 0 then Map.put x.fr fs (byteField block 8 15) else x.fr
                                              activate := if sf = 0 ∧ bits v 5 3 ≠ 0 then some fs else x.activate }) s
        .done St.ok c (nvEnd slot 0 sf St.ok (fwShow c s))) s

/-! ### What other blocks do to storage -/

/-- R588: FLR, PERST or a niche reset resets the controllers of a niche. -/
def nvNicheReset (n : Nat) (s : State) : State :=
  (s.nvs.ctrls.filter fun p => p.2.niche == n).foldl (fun s p => ctrlEvent p.1 3 (applyNvmeReset p.1 s)) s

/-- R588: teardown of a niche destroys its controllers and namespaces. -/
def nvNicheTeardown (n : Nat) (s : State) : State :=
  let s := (s.nvs.ctrls.filter fun p => p.2.niche == n).foldl (fun s p => dropCtrl p.1 (applyNvmeReset p.1 s)) s
  let gone := (s.nvs.nss.filter fun p => nNiche p.2.desc == n).map (·.1)
  gone.foldl (fun s ns => nsShow ns (nsLeave ns (s.updNvs (fun u => { u with nss := Map.del s.nvs.nss ns })))) s

/-- R586: in RECOVERY the commands in a POOL access complete as ended by it. -/
def nvRecovery (s : State) : State :=
  (s.nvs.cmds.filter fun p => p.2.stage == 3).foldl (fun s p => nvFail p.1 St.abortedRecovery (qSlba p.2.sqe) s) s

/-- R579: CSTS.CFS is set when the device enters SAFE. -/
def nvFatal (s : State) : State :=
  s.nvs.ctrls.foldl (fun s p => ctrlEvent p.1 5 (setCtrlState p.1 5 (updCtrl p.1 (fun x => { x with csts := x.csts ||| 2 }) s))) s

end Sys2Proof.Machine
end

