-- ==== Sys2Proof/Machine/Work.lean ====
section
/-!
DEFINITION. Work entries across the engines (R166 to R172, R228, R266, R268): SEND and ABORT, host read completions and
timeouts, the end of work at a niche reset, and niche reset and teardown themselves.
-/
namespace Sys2Proof.Machine

/-! ### SEND (R266) -/

/-- R372: the controller that a flight's frames leave from. -/
def sendSource (s : State) (f : Flight) : Nat := s.getI Reg.NCH_INFO_AP f.niche / 2

/-- R372, R751: the clusters that serve a controller's egress. -/
def egressClusters (s : State) (h : Nat) : List Nat := ((List.range 4).map (16 + 4 * h + ·)).filter fun k => s.unitServes 1 k

/-- R266, R372, R382: the frame of a SEND enters its egress cluster, its checksums filled when CSUM is set. -/
def sendAdmit (f : Flight) (s : State) : State :=
  let h := sendSource s f
  let q := (Map.find? s.sch.local_ (localKey f.niche (byteField f.entry 24 25))).getD 0
  let frame := f.data.take (byteField f.entry 4 5)
  let bytes := if bit (wFlags f.entry) 4 = 1 then fillCsum frame else frame
  let vec := vecPut (vecPut (vecPut 0 0 2 (0x8000 + f.niche)) 26 4 (2 ^ 28 + q)) 30 2 f.niche
  let p := freshPkt 0 (16 + h) bytes vec (some f.seq)
  let s := updFlight f.seq (fun f => { f with data := [] }) s
  match dealCluster (16 + h) (egressClusters s h) s with
  | some (k, s) => admitFrame (freshPkt k (16 + h) bytes vec (some f.seq)) s
  | none => sendLost p s

/-- Whether a host read for a flight is outstanding or waits for a tag. -/
def State.readPending (s : State) (seq : Nat) : Bool :=
  (s.hif.tags.any fun t => t.purpose == .work seq) || s.hif.waiting.any fun w => w.2 == .work seq

/-- R373: the SENDs of a controller enter their clusters in the order in which they were taken. -/
def sendPump (h : Nat) (s : State) : State :=
  let l := s.rng.flights.filter fun f => wOpcode f.entry == 1 && f.started && f.done.isNone && sendSource s f == h
  (l.foldl (fun (a : Bool × State) f =>
    if a.1 then a
    else if f.data ≠ [] then (false, sendAdmit f a.2)
    else if a.2.readPending f.seq then (true, a.2)
    else a) (false, s)).2

/-- R65: whether a launch time lies beyond the horizon of the queue's port. -/
def launchFar (s : State) (f : Flight) (q : Nat) : Bool :=
  bit (wFlags f.entry) 2 == 1 &&
    decide (s.stk.phcNs / s.period + s.effI Reg.STK_LAUNCH_CFG_HORIZON (s.queuePort q) < expandTime s.stk.phcNs (byteField f.entry 16 23) / s.period)

/-- SEND (R266, R65, R265): the frame is read, then enters classification. -/
def execSend (w : Work) (s : State) : Outcome :=
  startWork w 1 (fun f s =>
    match Map.find? s.sch.local_ (localKey f.niche (byteField f.entry 24 25)) with
    | none => finish f.seq St.notFound 0 s
    | some q =>
      if launchFar s f q then finish f.seq St.launchRange (byteField f.entry 6 7) s
      else needRead f.niche (.work f.seq) s) s

/-! ### The end of work by its engine (R268, R228, R753) -/

/-- R268, R474: a SEND whose frame is on a sealed list leaves; any other ends. -/
def sendStop (seq st : Nat) (s : State) : Option State :=
  if s.sch.lists.any fun l => l.2.any fun f => f.seqWork == some seq then none
  else match s.sch.queues.findSome? fun l => l.2.find? fun f => f.seqWork == some seq with
    | some f => some (frameEnds f st (unqueue f s))
    | none =>
      match s.prs.pkts.find? fun p => p.seqWork == some seq with
      | some p =>
        let s := finish seq st 0 s
        some (if s.inFlight p then dropSeq p s else clusterShow p.cluster (delPkt p.id s))
      | none => some (finish seq st 0 s)

/-- R268: the engine that owns a work entry ends it with a status, where it has not passed its commit point. -/
def workStop (f : Flight) (st : Nat) (s : State) : Option State :=
  let o := wOpcode f.entry
  if f.done.isSome then none
  else if f.started = false ∨ o = 2 then some (finish f.seq st 0 s)
  else if o = 1 then sendStop f.seq st s
  else if (0x10 ≤ o ∧ o ≤ 0x16) ∨ o = 0xC0 then some (turelmAbort f.seq st s)
  else if 0x40 ≤ o ∧ o ≤ 0x42 then some (dmaAbort f.seq st s)
  else if 0x60 ≤ o ∧ o ≤ 0x68 then
    some (if s.acc.work.any fun w => w.1 == f.seq then accStop f.seq st s else finish f.seq st 0 s)
  else if o = 0xA0 then some (nvsAbort f.seq st s)
  else none

/-- R748, R753: work ends with its engine's unit; what has passed its commit point completes. -/
def workKill (f : Flight) (st : Nat) (s : State) : State := (workStop f st s).getD s

/-- ABORT (R268, R532): the niche's work with the target tag is aborted, or was not found. -/
def execAbort (w : Work) (s : State) : Outcome :=
  startWork w 3 (fun f s =>
    let tag := byteField f.entry 4 5
    match s.rng.flights.find? fun g => g.niche == f.niche && g.port.isNone && wTag g.entry == tag && g.seq != f.seq && g.done.isNone with
    | none => finish f.seq St.notFound 0 (turelmAbortLate f.niche tag s)
    | some g =>
      match workStop g St.aborted s with
      | some s => finish f.seq St.ok 0 s
      | none => finish f.seq St.notFound 0 s) s

/-- R228: the engines forget a work entry, which ends without a completion. -/
def workForget (f : Flight) (s : State) : State :=
  let s := accForget f.seq (dmaForget f.seq s)
  let s := (s.tlt.sends.filter fun x => x.owner == .work f.seq || x.owner == .nvsData f.seq).foldl (fun s x => abandon x s) s
  let s := s.updTlt (fun u => { u with eps := s.tlt.eps.map fun p => (p.1, { p.2 with buffers := p.2.buffers.filter fun q => q != f.seq }) })
  if wOpcode f.entry = 1 then
    let s := updFlight f.seq (fun f => { f with done := some ⟨0, 0, 0, none⟩ }) s
    (sendStop f.seq 0 s).getD s
  else s

/-- R188, R228: work entries end without completions in every engine. -/
def forgetWork (p : Flight → Bool) (s : State) : State :=
  dropFlights p ((s.rng.flights.filter p).foldl (fun s f => workForget f s) s)

/-! ### Rings that are disabled at once (R188, R228) -/

/-- The rings of a niche. -/
def State.ringsOf (s : State) (n : Nat) : List Nat := (s.rng.rings.map (·.1)).filter fun r => s.getI Reg.RNG_INFO_NICHE r == n

/-- R188, R228, R712: every ring of a niche is disabled; its work ends without completions and the count abandoned is journaled. -/
def ringsOff (n : Nat) (s : State) : State :=
  let rs := s.ringsOf n
  let counts := rs.map fun r => (r, (s.ringFlights r).length)
  let s := forgetWork (fun f => f.niche == n && (f.port.isNone || n != 0)) s
  let s := counts.foldl (fun s c => if 0 < c.2 then jDevice 0x1006 n 0 [c.1 + c.2 * 2 ^ 32] s else s) s
  rs.foldl (fun s r =>
    let s := applyDisable r s
    if s.getI Reg.RNG_INFO_TYPE r = 0 then s.setI Reg.RNG_INFO_IDLE r 1 else s) s

/-! ### Host reads (R166 to R172) -/

/-- The niche that a host read was issued for, where its purpose tells. -/
def tagNiche (s : State) (p : Purpose) : Option Nat :=
  match p with
  | .poll r => some (s.getI Reg.RNG_INFO_NICHE r)
  | .work q => (s.flight q).map (·.niche)
  | .nvme id =>
    let c := if 2 ^ 20 ≤ id then some (id / 2048 % 512) else (Map.find? s.nvs.cmds id).map (·.ctrl)
    (c.bind fun c => Map.find? s.nvs.ctrls c).map (·.niche)
  | .context _ => some 0
  | .serve _ _ => none
  | .flush _ _ => none

/-- A poll has ended without entries. -/
def pollLost (r : Nat) (s : State) : State := updRing r (fun x => { x with polling := false }) s

/-- R166: host data arrives for a work entry. -/
def workData (seq : Nat) (data : List Byte) (s : State) : State :=
  match s.flight seq with
  | none => s
  | some f =>
    let o := wOpcode f.entry
    if o = 1 then sendPump (sendSource s f) (updFlight seq (fun f => { f with data := if data = [] then [0] else data }) s)
    else if 0x10 ≤ o ∧ o ≤ 0x16 then turelmHostData seq data s
    else if 0x40 ≤ o ∧ o ≤ 0x42 then dmaHostData seq data s
    else if 0x60 ≤ o ∧ o ≤ 0x68 then accHostData seq data s
    else if o = 0xA0 then nvsHostData seq data s
    else s

/-- R168, R172: a host read of a work entry has failed. -/
def workFail (seq st : Nat) (s : State) : State :=
  match s.flight seq with
  | none => s
  | some f =>
    let o := wOpcode f.entry
    if 0x10 ≤ o ∧ o ≤ 0x16 then turelmHostFail seq st s
    else if 0x40 ≤ o ∧ o ≤ 0x42 then dmaStop seq st s
    else if 0x60 ≤ o ∧ o ≤ 0x68 then
      if s.acc.work.any fun w => w.1 == seq then accStop seq st s else finish seq st 0 s
    else if o = 0xA0 then nvsHostFail seq st s
    else sendPump (sendSource s f) (finish seq st 0 s)

/-- The 64-byte entries in what a poll has read. -/
def pollEntries (data : List Byte) : List Nat :=
  (List.range (data.length / 64)).map fun k => ofBytes ((data.drop (64 * k)).take 64)

/-- R168, R172: a host read has failed with a status. -/
def readFailed (t : HostTag) (st : Nat) (s : State) : State :=
  match t.purpose with
  | .poll r => pollLost r s
  | .work q => workFail q st s
  | .nvme id => nvmeHostFail id st s
  | .serve p m => serveHostFail p m st s
  | .flush p m => flushReadFail p m s
  | .context ep => recallDone ep st s

/-- HOST_READ_COMPLETION (R170, R172): status 0 success, 1 Unsupported Request, 2 Completer Abort, 3 poisoned. -/
def execHostReadCompletion (ap tag status : Nat) (data : List Byte) (s : State) : Outcome :=
  .next <|
    match s.hif.tags.find? fun t => t.ap == ap && t.tag == tag with
    | none =>
      let s := patina 0x0300 Sev.warning (ap * 2 ^ 16 + tag) (countI Reg.HIF_LATE_CPL_COUNT ap s)
      let s := if s.flag Reg.HIF_STATUS_LATE_CPL then s else raise Ev.hifLateCpl ap 0 (s.set Reg.HIF_STATUS_LATE_CPL 1)
      s.emit (.aer ap none .unexpectedCompletion)
    | some t =>
      let s := if status = 0 ∧ (match t.purpose with
          | .poll _ => true
          | _ => false) = true then s else freeTag ap tag s
      let s :=
        if status ≠ 0 then readFailed t St.hostError (if status = 3 then s.emit (.aer ap (some t.rid) .poisonedTlp) else s)
        else match t.purpose with
          | .poll r => pollAnswer r (pollEntries data) s
          | .work q => workData q data s
          | .nvme id => nvmeHostData id data s
          | .serve p m => serveHostData p m data s
          | .flush _ _ => s
          | .context ep => recallDone ep St.ok s
      retryReads s

/-- R167: the sub-range that a Completion Timeout Value selects, in µs. -/
def ctoRange (v : Nat) : Nat × Nat :=
  match v with
  | 1 => (50, 100)
  | 2 => (1000, 10000)
  | _ => (50, 50000)

/-- R167: the effective completion timeout of a function, in µs. -/
def effTimeout (s : State) (fn : Nat) : Nat :=
  let (lo, hi) := ctoRange (s.getI Reg.HIF_FN_INFO_CTO_RANGE fn)
  clamp lo hi (s.eff Reg.HIF_CPL_TO_TIMEOUT_US)

/-- R167: K, the whole strokes of a timeout. -/
def timeoutStrokes (s : State) (fn : Nat) : Nat := (effTimeout s fn * 1000 + s.period - 1) / s.period

/-- READ_TIMEOUT (R167 to R169): the work ends with ST_HOST_TIMEOUT and the tag is quarantined. -/
def execReadTimeout (ap tag : Nat) (s : State) : Outcome :=
  .next <|
    match s.hif.tags.find? fun t => t.ap == ap && t.tag == tag with
    | none => s
    | some t =>
      if s.stk.boundary < t.since + timeoutStrokes s (fnKey t.ap t.rid) + 1 then s
      else
        let s := quarantine (fun u => u == t) s.stk.boundary s
        let s := countI Reg.HIF_TIMEOUT_CNT_COUNT ap s
        let s := if s.flag Reg.HIF_STATUS_CPL_TIMEOUT then s else raise Ev.hifCplTimeout ap 0 (s.set Reg.HIF_STATUS_CPL_TIMEOUT 1)
        (readFailed t St.hostTimeout s).emit (.aer ap (some t.rid) .completionTimeout)

/-- TAG_QUARANTINE_END (R169): the tag returns to its pool. -/
def execTagQuarantineEnd (ap tag : Nat) (s : State) : Outcome :=
  .next <|
    match s.hif.quar.find? fun t => t.ap == ap && t.tag == tag with
    | none => s
    | some t =>
      if s.stk.boundary < t.till then s
      else retryReads (tagCounts ap (s.updHif (fun u' => { u' with quar := s.hif.quar.filter fun u => u != t })))

/-! ### Niche reset and teardown (R228, R229) -/

/-- R228: at its boundary a niche reset starts: rings, windows, endpoints, controllers and outstanding reads. -/
def applyNicheReset (n : Nat) (s : State) : State :=
  match Map.find? s.nch.niches n with
  | none => s
  | some x =>
    if x.started then s
    else
      let s := updNiche n (fun x => { x with started := true, intake := false }) s
      let mine := s.hif.tags.filter fun t => tagNiche s t.purpose == some n
      let s := quarantine (fun t => mine.contains t) s.stk.boundary s
      let s := mine.foldl (fun s t => match t.purpose with
        | .poll r => pollLost r s
        | _ => s) s
      let s := s.updHif (fun u => { u with waiting := s.hif.waiting.filter fun w => w.1 != n })
      nvNicheReset n (fabricNicheReset n false (turelmNicheReset n (ringsOff n s)))

/-- R229: a niche that is torn down leaves every table and gives back every resource. -/
def dropNicheObjects (n : Nat) (s : State) : State :=
  let s := (s.ringsOf n).foldl (fun s r => freeRing r s) s
  let s := (s.tbl.tables.map (·.1)).foldl (fun s t => entriesDrop t (fun e => e.niche == n) s) s
  let s := ((s.sch.local_.filter fun e => e.1 / 65536 == n).map (·.2)).foldl (fun s q =>
    unbindQueue q ((s.queue q).foldl (fun s f => unqueue f s) s)) s
  let s := ((s.sch.policers.map (·.1)).filter fun p => s.flagI Reg.SCH_POL_CFG_BOUND p && s.getI Reg.SCH_POL_CFG_NICHE p == n).foldl
    (fun s p => unbindPolicer p s) s
  let s := s.updTlt (fun u => { u with pds := s.tlt.pds.filter fun p => p.2 != n })
  dropNicheKeys n (nvNicheTeardown n (fabricNicheReset n true s))

/-- NICHE_RESET_DONE (R227, R228, R229): a reset niche returns to its state; one under teardown is unbound and zeroed. -/
def execNicheResetDone (niche : Nat) (s : State) : Outcome :=
  .next <|
    match Map.find? s.nch.niches niche with
    | none => s
    | some x =>
      let st := s.nicheState niche
      if (st ≠ 4 ∧ st ≠ 5) ∨ x.started = false ∨ s.rng.flights.any (fun f => f.niche == niche && (f.port.isNone || niche != 0))
          ∨ s.tlt.fences.any (fun e => e.niche == niche) then s
      else if st = 5 then wipeNiche niche (dropNicheObjects niche (unbindNiche niche s))
      else
        let s := s.setI Reg.NCH_PG_STATUS_RESET_COUNT niche (s.getI Reg.NCH_PG_STATUS_RESET_COUNT niche + 1)
        let s := if x.cause = .unbind then unbindNiche niche s else s
        let s := updNiche niche (fun x => { x with started := false, intake := decide (x.prev = 1) }) s
        setNicheState niche (if x.prev = 2 then 3 else x.prev) s

end Sys2Proof.Machine
end

