-- ==== Sys2Proof/Machine/Hosts.lean ====
section
/-!
DEFINITION. Host controllers and functions (R157 to R210): links, fundamental and function-level resets, configuration
requests, IDE and TDISP, the manager role, and CXL memory on H1.
-/
namespace Sys2Proof.Machine

/-! ### Functions (R163, R207) -/

/-- The functions of an attachment point. -/
def State.fnsOf (s : State) (ap : Nat) : List Fn := (s.hif.fns.map (·.2)).filter fun f => f.ap == ap

/-- The key of a function. -/
def Fn.key (f : Fn) : Nat := fnKey f.ap f.rid

/-- Whether a function exists (R207). -/
def State.fnExists (s : State) (f : Fn) : Bool := s.flagI Reg.HIF_FN_INFO_EXISTS f.key

/-- R207: EFF_TIMEOUT_US and NICHES of a function follow; a function that does not exist reads zero in every field. -/
def fnShow (k : Nat) (s : State) : State :=
  if s.flagI Reg.HIF_FN_INFO_EXISTS k then fnNiches k (s.setI Reg.HIF_FN_INFO_EFF_TIMEOUT_US k (effTimeout s k))
  else s.setsI k [(Reg.HIF_FN_INFO_DSTATE, 0), (Reg.HIF_FN_INFO_FLR_BUSY, 0), (Reg.HIF_FN_INFO_TDI_STATE, 0), (Reg.HIF_FN_INFO_BME, 0),
    (Reg.HIF_FN_INFO_CTO_RANGE, 0), (Reg.HIF_FN_INFO_NICHES, 0), (Reg.HIF_FN_INFO_EFF_TIMEOUT_US, 0)]

/-! ### The manager role (R186 to R189, R204) -/

/-- The PF of an attachment point with a PF number. -/
def State.pfOf (s : State) (ap pf : Nat) : Option Fn := (s.fnsOf ap).find? fun f => f.pf == pf && f.vf == 0

/-- R186: a candidate is ready in D0, with its link up and Bus Master Enable set. -/
def State.mgrReady (s : State) (ap pf : Nat) : Bool :=
  match s.pfOf ap pf with
  | some f => s.fnExists f && s.getI Reg.HIF_FN_INFO_DSTATE f.key == 0 && s.flagI Reg.HIF_LINK_UP ap && s.flagI Reg.HIF_FN_INFO_BME f.key
  | none => false

/-- R203: the attachment points and PF numbers of the manager and the standby. -/
def State.mgrActive (s : State) : Nat × Nat := (s.get Reg.HIF_MGR_ACTIVE_AP, s.get Reg.HIF_MGR_ACTIVE_PF)
def State.mgrStandby (s : State) : Nat × Nat := (s.get Reg.HIF_MGR_STANDBY_AP, s.get Reg.HIF_MGR_STANDBY_PF)

/-- R186, R187: STANDBY_READY follows the other candidate; while the role is VACANT, either. -/
def standbyShow (s : State) : State :=
  let other := s.mgrReady s.mgrStandby.1 s.mgrStandby.2
  let r := if s.flag Reg.HIF_MGR_VACANT then other || s.mgrReady s.mgrActive.1 s.mgrActive.2 else other
  availUpdate (s.set Reg.HIF_MGR_STANDBY_READY (if r then 1 else 0))

/-- R712: the record of a move of the role. -/
def mgrRecord (from_ to_ : Nat × Nat) (s : State) : State :=
  jDevice 0x03E0 0 0 [from_.1 + from_.2 * 2 ^ 8 + to_.1 * 2 ^ 16 + to_.2 * 2 ^ 24] s

/-- R187, R188: what a move and a vacancy have in common: the rings of niche 0 are disabled, the heartbeat check is not armed. -/
def mgrLeave (s : State) : State :=
  let s := ringsOff 0 s
  raise Ev.mgrFailover 0 0
    ((s.updHif (fun u => { u with hbArmed := false, hbCount := 0, lost := false, claim := none })).set Reg.HIF_STATUS_FAILOVER 1)

/-- R187: the role moves to a PF, and niche 0 rebinds to it. -/
def moveRole (ap pf : Nat) (s : State) : State :=
  let old := s.mgrActive
  let s := mgrLeave (mgrRecord (if s.flag Reg.HIF_MGR_VACANT then (0xFF, 0xFF) else old) (ap, pf) s)
  let s := if s.mgrStandby = (ap, pf) then s.sets [(Reg.HIF_MGR_STANDBY_AP, old.1), (Reg.HIF_MGR_STANDBY_PF, old.2)] else s
  let s := s.sets [(Reg.HIF_MGR_VACANT, 0), (Reg.HIF_MGR_ACTIVE_AP, ap), (Reg.HIF_MGR_ACTIVE_PF, pf)]
  let rid := ((s.pfOf ap pf).map (·.rid)).getD 0
  let s := if (Map.find? s.nch.niches 0).isSome then
      s.setsI 0 [(Reg.NCH_INFO_BOUND, 1), (Reg.NCH_INFO_AP, ap), (Reg.NCH_INFO_RID, rid)]
    else s
  standbyShow (s.emit (.msix ap rid 0))

/-- R187: the role becomes VACANT. -/
def vacateRole (s : State) : State :=
  let s := mgrLeave (mgrRecord s.mgrActive (0xFF, 0xFF) s)
  standbyShow ((s.setI Reg.NCH_INFO_BOUND 0 0).set Reg.HIF_MGR_VACANT 1)

/-- R790: in SAFE without an armature the recovery PF of the lowest enabled attachment point whose link is up holds the role. -/
def State.recoveryRole (s : State) : Bool := s.dev == 7 && !s.arm.loaded

/-- R790: the role follows the links at once. -/
def safeRole (s : State) : State :=
  if s.recoveryRole = false ∨ (s.flag Reg.HIF_MGR_VACANT = false ∧ s.flagI Reg.HIF_LINK_UP s.mgrActive.1 = true) then s
  else match (List.range 4).find? fun a => s.flagI Reg.HIF_LINK_UP a && (s.pfOf a 0).isSome with
    | some a => moveRole a 0 s
    | none => if s.flag Reg.HIF_MGR_VACANT then s else vacateRole s

/-- R182, R186: the active manager PF is lost; the role moves at the next boundary. -/
def managerLost (s : State) : State :=
  if s.flag Reg.HIF_MGR_VACANT ∨ s.recoveryRole = true then s else (s.updHif (fun u => { u with lost := true }))

/-- Whether an issuer is the PF of an attachment point and a PF number. -/
def State.issuerIs (s : State) (who : Issuer) (c : Nat × Nat) : Bool :=
  who.origin == .host && who.ap == c.1 && match s.pfOf c.1 c.2 with
    | some f => f.rid == who.id
    | none => false

/-- R204, R711: the outcome of a write of HIF_MGR_CMD is journaled. -/
def mgrCmdRecord (op : Nat) (who : Issuer) (status : Nat) (s : State) : State :=
  let pf := ((Map.find? s.hif.fns (fnKey who.ap who.id)).map (·.pf)).getD 0
  jEntry ⟨0, 0, 0x0300 + op, who.role, if status = 0 then 0 else 4, 0, 0, who.origin, who.ap, who.id, status, who.ap + pf * 2 ^ 8⟩ s

/-- R165, R204, R709: a write of HIF_MGR_CMD by the manager or the standby, and its outcome. -/
def mgrCmd (op : Nat) (who : Issuer) (act : State → Nat × State) (s : State) : Outcome :=
  .next <|
    if s.blockAnswers 0x3000E0 = false then accessDropped who.ap 0x3000E0 8 s
    else if s.jReady who = false then s
    else
      let (st, s) := act s
      mgrCmdRecord op who st s

/-- MANAGER_HEARTBEAT (R186, R204): the check is armed and its count restarts. -/
def execManagerHeartbeat (who : Issuer) (s : State) : Outcome :=
  .next <| regGate who 0x3000D8 s fun s =>
    if who.role = .manager then (s.updHif (fun u => { u with hbArmed := true, hbCount := 0 })) else s

/-- MANAGER_HEARTBEAT_TIMEOUT (R186): HB_LIMIT boundaries have passed since the last heartbeat. -/
def execManagerHeartbeatTimeout (s : State) : Outcome :=
  .next <|
    let l := s.get Reg.HIF_MGR_HB_LIMIT
    if s.hif.hbArmed ∧ l ≠ 0 ∧ l ≤ s.hif.hbCount then managerLost s else s

/-- HANDOVER (R204, R187); with both bits set the write starts nothing. -/
def execHandover (who : Issuer) (both : Bool) (s : State) : Outcome :=
  mgrCmd 1 who (fun s =>
    if both then (St.invalid, s)
    else if s.flag Reg.HIF_MGR_VACANT = true ∨ s.issuerIs who s.mgrActive = false then (St.permission, s)
    else if s.mgrReady s.mgrStandby.1 s.mgrStandby.2 = false then (St.badState, s)
    else (St.ok, (s.updHif (fun u => { u with lost := true, claim := some s.mgrStandby })))) s

/-- TAKEOVER (R204, R187). -/
def execTakeover (who : Issuer) (s : State) : Outcome :=
  mgrCmd 2 who (fun s =>
    let vacant := s.flag Reg.HIF_MGR_VACANT
    if vacant = false ∧ s.issuerIs who s.mgrActive then (St.permission, s)
    else
      let c := if s.issuerIs who s.mgrStandby then some s.mgrStandby else if vacant && s.issuerIs who s.mgrActive then some s.mgrActive else none
      match c with
      | none => (St.badState, s)
      | some c =>
        if s.mgrReady c.1 c.2 ∧ (vacant ∨ (s.hif.lost ∧ s.flag Reg.HIF_MGR_AUTO_FAILOVER = false)) then
          (St.ok, (s.updHif (fun u => { u with claim := some c })))
        else (St.badState, s)) s

/-- MANAGER_ROLE_MOVE (R186, R187, R188). -/
def execManagerRoleMove (s : State) : Outcome :=
  .next <|
    let claim := s.hif.claim.filter fun c => s.mgrReady c.1 c.2
    if s.flag Reg.HIF_MGR_VACANT then
      match claim with
      | some c => moveRole c.1 c.2 s
      | none => s
    else if s.hif.lost = false then s
    else match claim with
      | some c => moveRole c.1 c.2 s
      | none =>
        if s.flag Reg.HIF_MGR_AUTO_FAILOVER ∧ s.mgrReady s.mgrStandby.1 s.mgrStandby.2 then moveRole s.mgrStandby.1 s.mgrStandby.2 s
        else vacateRole s

/-- STANDBY_READY (R187): a candidate becomes ready while the role is VACANT. -/
def execStandbyReady (ap pf : Nat) (s : State) : Outcome :=
  .next <|
    let s := standbyShow s
    if s.flag Reg.HIF_MGR_VACANT ∧ s.flag Reg.HIF_MGR_AUTO_FAILOVER ∧ s.mgrReady ap pf ∧ (s.mgrStandby = (ap, pf) ∨ s.mgrActive = (ap, pf)) then
      (s.updHif (fun u => { u with claim := some (ap, pf) }))
    else s

/-! ### Resets (R180 to R183) -/

/-- R157, R159: whether an attachment point is in use in its controller's mode. -/
def State.apUsed (s : State) (ap : Nat) : Bool := ap % 2 == 0 || s.getI Reg.HIF_CTL_MODE (ap / 2) == 1

/-- R196: whether AP_EN lets an attachment point's link leave Detect. -/
def State.apEnabled (s : State) (ap : Nat) : Bool := bit (s.getI Reg.HIF_CTL_AP_EN (ap / 2)) (ap % 2) == 1

/-- R751: whether a controller is drained and holds its links in Detect. -/
def State.ctrlHeld (s : State) (h : Nat) : Bool := s.unitState 5 h == 2 || s.unitState 5 h == 4

/-- R788: a link starts training, once step B2 and the deassertion of PERST have passed. -/
def startTraining (ap : Nat) (s : State) : State :=
  if s.pwr.b2 = true ∧ 2 ≤ s.dev ∧ s.apUsed ap = true ∧ s.apEnabled ap = true ∧ s.ctrlHeld (ap / 2) = false
      ∧ s.hif.perst.contains ap = false ∧ s.hif.cold.contains ap = false ∧ s.flagI Reg.HIF_LINK_UP ap = false then
    (s.updHif (fun u => { u with training := insertNat ap s.hif.training }))
  else s

/-- R180, R195, R205: a link that is up goes down, or one that trains stops. -/
def linkGoesDown (ap : Nat) (s : State) : State :=
  let s := s.updHif (fun u => { u with training := s.hif.training.filter fun a => a != ap })
  if s.flagI Reg.HIF_LINK_UP ap then
    let s := s.setsI ap [(Reg.HIF_LINK_UP, 0), (Reg.HIF_LINK_FLIT, 0), (Reg.HIF_LINK_SPEED, 0), (Reg.HIF_LINK_WIDTH, 0),
      (Reg.HIF_LINK_L0P_WIDTH, 0), (Reg.HIF_LINK_PM, 0), (Reg.HIF_LINK_IDE_LINK, 0)]
    safeRole (standbyShow (raise Ev.hifLinkDown ap 0 (s.set Reg.HIF_STATUS_LINK_CHANGE 1)))
  else s

/-- R180: a function takes its reset values; a VF is removed with its PF's VF Enable. -/
def fnReset (removed cold : Bool) (s : State) (f : Fn) : State :=
  let k := f.key
  let niches := s.boundTo k
  let tdi := if s.getI Reg.HIF_FN_INFO_TDI_STATE k = 0 then 0 else 1
  let s := s.setsI k [(Reg.HIF_FN_INFO_DSTATE, 0), (Reg.HIF_FN_INFO_FLR_BUSY, 0), (Reg.HIF_FN_INFO_TDI_STATE, tdi),
    (Reg.HIF_FN_INFO_BME, 0), (Reg.HIF_FN_INFO_CTO_RANGE, 0)]
  let s := if removed then s.setI Reg.HIF_FN_INFO_EXISTS k 0 else s
  let s := updFn k (fun f => { f with vfEnable := false, pmeEn := f.pmeEn && cold, fetch := true, notReady := true }) s
  fnShow k (niches.foldl (fun s n => functionResetsNiche n s) s)

/-- R169, R180: the outstanding reads of functions that are reset. Niche 0 is not reset: its work fails. -/
def tagsReset (hit : HostTag → Bool) (s : State) : State :=
  let gone := s.hif.tags.filter hit
  let s := quarantine hit (s.stk.boundary + 1) s
  gone.foldl (fun s t =>
    match t.purpose with
    | .poll r => pollLost r s
    | .work _ => if tagNiche s t.purpose = some 0 then readFailed t St.hostError s else s
    | .nvme _ => s
    | .serve _ _ => readFailed t St.hostError s
    | .flush _ _ => readFailed t St.hostError s
    | .context _ => readFailed t St.hostError s) s

/-- R180: translations are invalidated. -/
def atcDrop (hit : AtcEntry → Bool) (s : State) : State :=
  let s := s.updHif (fun u => { u with atc := s.hif.atc.filter fun a => !hit a })
  s.set Reg.HIF_ATC_STATUS_VALID s.hif.atc.length

/-- R202: HIF_RESET_LAST records a reset. -/
def resetLast (ap kind rid : Nat) (s : State) : State :=
  s.setsI ap [(Reg.HIF_RESET_LAST_KIND, kind), (Reg.HIF_RESET_LAST_RID, rid), (Reg.HIF_RESET_LAST_STROKE, s.stroke)]

/-- R180, R182: the reset of an attachment point: 1 PERST, 2 hot reset, 3 link down, 5 D3cold. -/
def apReset (kind ap : Nat) (s : State) : State :=
  let s := resetLast ap kind 0 s
  let s := if kind = 1 ∨ kind = 2 then raise Ev.hifReset ap kind s else s
  let s := (s.fnsOf ap).foldl (fun s f => fnReset (f.vf != 0) (kind == 5) s f) s
  let s := tagsReset (fun t => t.ap == ap) s
  let s := atcDrop (fun a => a.ap == ap) s
  let s := s.updHif (fun u => { u with ide := s.hif.ide.filter fun x => x.ap != ap })
  let s := s.setI Reg.HIF_LINK_IDE_LINK ap 0
  let s := if s.mgrActive.1 = ap then managerLost s else s
  standbyShow (if kind = 2 then s else linkGoesDown ap s)

/-- PERST_ASSERT (R159, R180). -/
def execPerstAssert (ap : Nat) (s : State) : Outcome :=
  .next <|
    let s := s.updHif (fun u => { u with perst := insertNat ap s.hif.perst })
    if s.apUsed ap = false ∨ s.dev < 2 then s else apReset 1 ap s

/-- PERST_DEASSERT (R178, R183, R788): the link trains; WAKE_N is released. -/
def execPerstDeassert (ap : Nat) (s : State) : Outcome :=
  .next <| startTraining ap (s.updHif (fun _ => { s.hif with
    perst := s.hif.perst.filter fun a => a != ap, cold := s.hif.cold.filter fun a => a != ap, wakeN := s.hif.wakeN.filter fun a => a != ap }))

/-- HOT_RESET (R180): the link is kept. -/
def execHotReset (ap : Nat) (s : State) : Outcome :=
  .next (if s.flagI Reg.HIF_LINK_UP ap then apReset 2 ap s else s)

/-- D3COLD (R177, R180): a fundamental reset until PERST is next deasserted. -/
def execD3cold (ap : Nat) (s : State) : Outcome :=
  .next <|
    if s.apUsed ap = false ∨ s.dev < 2 then s
    else apReset 5 ap (s.updHif (fun u => { u with cold := insertNat ap s.hif.cold }))

/-- R180: a link that is up goes down with every effect of the link-down column. -/
def linkDown (ap : Nat) (s : State) : State := if s.flagI Reg.HIF_LINK_UP ap then apReset 3 ap s else linkGoesDown ap s

/-- LINK_DOWN (R180): training restarts. -/
def execLinkDown (ap : Nat) (s : State) : Outcome :=
  .next (if s.flagI Reg.HIF_LINK_UP ap then startTraining ap (linkDown ap s) else s)

/-- R157, R160, R190, R196: the width and rate that a link trains to: no more than the mode and SPEED_CAP allow. -/
def linkRate (s : State) (ap speed : Nat) : Nat :=
  let h := ap / 2
  let cap := s.getI Reg.HIF_CTL_SPEED_CAP h
  let top := if s.getI Reg.HIF_CTL_MODE h = 2 then 6 else 7
  min (min speed top) (if cap = 0 then 7 else cap)

/-- LINK_UP (R195, R197, R205): the link is in L0. -/
def execLinkUp (ap speed width : Nat) (flit : Bool) (s : State) : Outcome :=
  .next <|
    if s.hif.training.contains ap = false then s
    else
      let w := min width (if s.getI Reg.HIF_CTL_MODE (ap / 2) = 1 then 8 else 16)
      let r := linkRate s ap speed
      let s := s.updHif (fun u => { u with training := s.hif.training.filter fun a => a != ap })
      let s := s.setsI ap [(Reg.HIF_LINK_UP, 1), (Reg.HIF_LINK_FLIT, if flit ∨ 6 ≤ r then 1 else 0), (Reg.HIF_LINK_SPEED, r),
        (Reg.HIF_LINK_WIDTH, w), (Reg.HIF_LINK_L0P_WIDTH, w), (Reg.HIF_LINK_PM, 0)]
      safeRole (standbyShow (raise Ev.hifLinkUp ap 0 (s.set Reg.HIF_STATUS_LINK_CHANGE 1)))

/-- AP_EN_WRITE (R196): HIF_CTL_h is written. -/
def execApEnWrite (who : Issuer) (h value : Nat) (s : State) : Outcome :=
  let off := 0x300000 + 8 * h
  .next <| setGate who off s fun s =>
    let was := s.getI Reg.HIF_CTL_AP_EN h * 2 ^ 8 + s.getI Reg.HIF_CTL_MODE h * 2 ^ 6 + s.getI Reg.HIF_CTL_SPEED_CAP h
    let s := s.setsI h [(Reg.HIF_CTL_AP_EN, bits value 9 8), (Reg.HIF_CTL_SPEED_CAP, bits value 3 0)]
    let s := [2 * h, 2 * h + 1].foldl (fun s ap => if s.apEnabled ap then startTraining ap s else linkDown ap s) s
    jRegWrite who 0 off value was 0 s

/-! ### Function-level reset and readiness (R181, R183) -/

/-- FLR (R180, R181, R182): a PF takes its VFs with it. -/
def execFlr (ap rid : Nat) (s : State) : Outcome :=
  .next <|
    match Map.find? s.hif.fns (fnKey ap rid) with
    | none => s
    | some f =>
      if s.fnExists f = false ∨ s.flagI Reg.HIF_FN_INFO_FLR_BUSY f.key = true then s
      else
        let vfs := if f.vf = 0 then (s.fnsOf ap).filter fun g => g.pf == f.pf && g.vf != 0 else []
        let s := raise Ev.hifReset ap 4 (resetLast ap 4 rid s)
        let s := vfs.foldl (fun s g => fnReset true false s g) (fnReset false false s f)
        let s := s.setI Reg.HIF_FN_INFO_FLR_BUSY f.key 1
        let rids := rid :: vfs.map (·.rid)
        let s := tagsReset (fun t => t.ap == ap && rids.contains t.rid) s
        let s := atcDrop (fun a => a.ap == ap && rids.contains a.rid) s
        let s := if f.vf = 0 then (s.updHif (fun u => { u with ide := s.hif.ide.filter fun x => x.ap != ap || x.pf != f.pf || x.link })) else s
        standbyShow (if s.mgrActive = (ap, f.pf) ∧ f.vf = 0 then managerLost s else s)

/-- FLR_COMPLETE (R181): a Function Readiness Status message is sent. -/
def execFlrComplete (ap rid : Nat) (s : State) : Outcome :=
  .next <|
    let k := fnKey ap rid
    if s.flagI Reg.HIF_FN_INFO_FLR_BUSY k then
      (updFn k (fun f => { f with notReady := false }) (s.setI Reg.HIF_FN_INFO_FLR_BUSY k 0)).emit (.readiness ap rid)
    else s

/-- FUNCTION_READY (R183): 20 ms after a reset ends the functions are ready, and each says so. -/
def execFunctionReady (ap : Nat) (s : State) : Outcome :=
  .next <|
    if s.flagI Reg.HIF_LINK_UP ap = false then s
    else (s.fnsOf ap).foldl (fun s f =>
      if s.fnExists f ∧ f.notReady ∧ s.flagI Reg.HIF_FN_INFO_FLR_BUSY f.key = false then
        (updFn f.key (fun f => { f with notReady := false }) s).emit (.readiness ap f.rid)
      else s) s

/-! ### Configuration requests (R163, R165, R181, R183, R789) -/

/-- R163: what configuration space holds at the offsets that the spec gives; the rest of it is not the spec's. -/
def configRead (s : State) (f : Fn) (off : Nat) : Nat :=
  let dev := if s.recoveryRole then 0x96FE else if f.vf = 0 then s.get Reg.HIF_PCI_ID_DEVICE_PF else s.get Reg.HIF_PCI_ID_DEVICE_VF
  let cls := if s.recoveryRole then 0x120000 else [0x120000, 0x020000, 0x010802, 0x050000].getD f.kind 0
  if off = 0 then s.get Reg.HIF_PCI_ID_VENDOR + dev * 2 ^ 16
  else if off = 8 then cls * 2 ^ 8 + Config.configSpace f.key 8 % 256
  else if off = 0x2C then s.get Reg.HIF_PCI_ID_VENDOR + s.get Reg.HIF_PCI_ID_SUBSYSTEM * 2 ^ 16
  else Config.configSpace f.key off % 2 ^ 32

/-- R163, R180: VF Enable of a PF makes its VFs exist, or removes them. -/
def setVfEnable (f : Fn) (on : Bool) (s : State) : State :=
  if f.vf ≠ 0 ∨ f.vfEnable = on then s
  else
    let vfs := (s.fnsOf f.ap).filter fun g => g.pf == f.pf && g.vf != 0
    let s := updFn f.key (fun f => { f with vfEnable := on }) s
    if on then vfs.foldl (fun s g => fnShow g.key (updFn g.key (fun g => { g with notReady := false, fetch := true })
      (s.setI Reg.HIF_FN_INFO_EXISTS g.key 1))) s
    else
      let s := vfs.foldl (fun s g => fnReset true false s g) s
      let rids := vfs.map (·.rid)
      let s := tagsReset (fun t => t.ap == f.ap && rids.contains t.rid) s
      atcDrop (fun a => a.ap == f.ap && rids.contains a.rid) s

/-- R183, R789: the completion status of a configuration request: 0 success, 1 Unsupported Request, 2 Request Retry Status. -/
def configStatus (s : State) (ap rid : Nat) : Nat :=
  match Map.find? s.hif.fns (fnKey ap rid) with
  | none => if s.fnsOf ap = [] ∧ rid % 256 = 0 then 2 else 1
  | some f =>
    if s.fnExists f = false then 1 else if f.notReady ∨ s.flagI Reg.HIF_FN_INFO_FLR_BUSY f.key then 2 else 0

/-- CONFIG_REQUEST: op 0 reads at an offset; 1 writes Bus Master Enable, 2 VF Enable, 3 PME_En, 4 the Completion Timeout
Value; any other writes a part of configuration space that the device does not act on. -/
def execConfigRequest (ap rid op value : Nat) (s : State) : Outcome :=
  .next <|
    if s.flagI Reg.HIF_LINK_UP ap = false then s
    else
      let st := configStatus s ap rid
      match Map.find? s.hif.fns (fnKey ap rid) with
      | none => s.emit (.hostReply ap rid st 0)
      | some f =>
        if st ≠ 0 then s.emit (.hostReply ap rid st 0)
        else if op = 0 then s.emit (.hostReply ap rid 0 (configRead s f value))
        else
          let v := value % 2
          let s :=
            if op = 1 then
              let s := s.setI Reg.HIF_FN_INFO_BME f.key v
              if v = 1 then retryReads s else s
            else if op = 2 then setVfEnable f (v == 1) s
            else if op = 3 then updFn f.key (fun f => { f with pmeEn := v == 1 }) s
            else if op = 4 then fnShow f.key (s.setI Reg.HIF_FN_INFO_CTO_RANGE f.key (value % 16))
            else s
          (standbyShow s).emit (.hostReply ap rid 0 0)

/-! ### IDE, TDISP and translations (R160, R184, R185) -/

/-- R197: IDE_LINK follows the link stream. -/
def ideShow (ap : Nat) (s : State) : State :=
  s.setI Reg.HIF_LINK_IDE_LINK ap (if s.hif.ide.any fun x => x.ap == ap && x.link && x.secure then 1 else 0)

/-- IDE_KEY_PROGRAM (R184): the PF's stream takes new keys and is Secure. -/
def execIdeKeyProgram (ap index pf : Nat) (link : Bool) (s : State) : Outcome :=
  .next <|
    match s.pfOf ap pf with
    | none => s
    | some f =>
      if s.fnExists f = false ∨ s.flagI Reg.HIF_LINK_UP ap = false then s
      else
        let i := if link then 0 else index
        let rest := s.hif.ide.filter fun x => !(x.ap == ap && x.index == i && x.link == link)
        ideShow ap (s.updHif (fun u => { u with ide := rest ++ [(⟨ap, i, pf, link, true⟩ : IdeStream)] }))

/-- IDE_CHECK_FAILED (R184): the request is dropped and the stream is Insecure until it is programmed again. -/
def execIdeCheckFailed (ap index : Nat) (link : Bool) (s : State) : Outcome :=
  .next <|
    let i := if link then 0 else index
    let s := match s.hif.ide.find? fun (x : IdeStream) => x.ap == ap && x.index == i && x.link == link with
      | some x => s.emit (.aer ap ((s.pfOf ap x.pf).map fun (f : Fn) => f.rid) .ideCheckFailed)
      | none => s
    ideShow ap (s.updHif (fun u => { u with ide := s.hif.ide.map fun (x : IdeStream) =>
      if x.ap = ap ∧ x.index = i ∧ x.link = link then { x with secure := false } else x }))

/-- TDISP_REQUEST (R185): msg 1 locks the TDI, 2 starts it, 3 stops it. -/
def execTdispRequest (ap rid msg : Nat) (s : State) : Outcome :=
  .next <|
    let k := fnKey ap rid
    let t := s.getI Reg.HIF_FN_INFO_TDI_STATE k
    if s.flagI Reg.HIF_FN_INFO_EXISTS k = false then s
    else if msg = 1 ∧ t ≤ 1 then s.setI Reg.HIF_FN_INFO_TDI_STATE k 2
    else if msg = 2 ∧ t = 2 then s.setI Reg.HIF_FN_INFO_TDI_STATE k 3
    else if msg = 3 ∧ t ≠ 0 then retryReads (s.setI Reg.HIF_FN_INFO_TDI_STATE k 1)
    else s

/-- TDI_ERROR (R185): a TDI that is CONFIG_LOCKED or RUN enters ERROR. -/
def execTdiError (ap rid : Nat) (s : State) : Outcome :=
  .next <|
    let k := fnKey ap rid
    let t := s.getI Reg.HIF_FN_INFO_TDI_STATE k
    if s.flagI Reg.HIF_FN_INFO_EXISTS k ∧ (t = 2 ∨ t = 3) then tdiEnterError k s else s

/-- ATS_INVALIDATION (R160): the matching translations go. -/
def execAtsInvalidation (ap rid pasid addr len : Nat) (s : State) : Outcome :=
  .next (atcDrop (fun a => a.ap == ap && a.rid == rid && a.pasid == pasid && decide (addr ≤ a.addr) && decide (a.addr < addr + len)) s)

/-! ### CXL memory (R190 to R194) -/

/-- R191: the device physical address that a decoder gives a host address, with the decoders before it below. -/
def hdmDecode (s : State) (addr : Nat) : Option Nat :=
  let one (d base0 : Nat) : Option Nat :=
    match Map.find? s.hif.hdm d with
    | some h =>
      if h.base ≤ addr ∧ addr < h.base + h.size then
        let g := 256 * 2 ^ h.gran
        some (base0 + (addr - h.base) / (g * h.ways) * g + (addr - h.base) % g)
      else none
    | none => none
  let below := match Map.find? s.hif.hdm 0 with
    | some h => h.size / h.ways
    | none => 0
  match one 0 0 with
  | some a => some a
  | none => one 1 below

/-- R208: POISONED follows the poison list. -/
def poisonShow (s : State) : State := s.set Reg.HIF_CXL_POISONED s.hif.poison.length

/-- R193: an uncorrectable error at a device physical address: the record, the list and the patina entry. -/
def cxlMedia (dpa : Nat) (s : State) : State :=
  let s := s.updHif (fun u => { u with poison := insertNat dpa s.hif.poison, cxlEvents := s.hif.cxlEvents ++ [dpa] })
  let s := patina 0x0301 Sev.error dpa (poisonShow s)
  raise Ev.cxlMedia 0 0 (s.set Reg.HIF_STATUS_CXL_ERR 1)

/-- R191, R208: the base and length of the CXL region in stacked memory, in bytes. -/
def State.cxlBytes (s : State) : Nat × Nat := (s.hif.cxlRegion.1 * 2 ^ 20, s.hif.cxlRegion.2 * 2 ^ 20)

/-- CXL_MEM_ACCESS (R191, R193): a read answers its 64 bytes, status 3 where they are poisoned, 1 where no decoder maps them. -/
def execCxlMemAccess (addr : Nat) (data : List Byte) (write bad : Bool) (s : State) : Outcome :=
  .next <|
    if s.flag Reg.HIF_CXL_CXL_MODE = false ∨ s.flagI Reg.HIF_LINK_UP 2 = false then s
    else match hdmDecode s addr with
      | none => s.emit (.hostReply 2 0 1 0)
      | some dpa =>
        let base := s.cxlBytes.1
        if s.cxlBytes.2 ≤ dpa then s.emit (.hostReply 2 0 1 0)
        else if write then (memWriteList s (base + dpa) data).emit (.hostReply 2 0 0 0)
        else if bad then (cxlMedia dpa s).emit (.hostReply 2 0 3 0)
        else if s.hif.poison.contains dpa then s.emit (.hostReply 2 0 3 0)
        else s.emit (.hostReply 2 0 0 (ofBytes (memReadList s (base + dpa) 64)))

/-- R208: the committed bit of a decoder. -/
def hdmBit (d : Nat) : Field := if d = 0 then Reg.HIF_CXL_HDM0_COMMITTED else Reg.HIF_CXL_HDM1_COMMITTED

/-- HDM_COMMIT (R191): a decoder whose settings the device supports is committed, or it is uncommitted. gran counts doublings of 256 B. -/
def execHdmCommit (decoder base size ways gran : Nat) (commit : Bool) (s : State) : Outcome :=
  .next <|
    if s.flag Reg.HIF_CXL_CXL_MODE = false then s
    else if commit = false then
      (s.updHif (fun u => { u with hdm := Map.del s.hif.hdm decoder })).set (hdmBit decoder) 0
    else
      let rest := Map.del s.hif.hdm decoder
      let used := rest.foldl (fun a p => a + p.2.size / p.2.ways) 0
      if (ways = 1 ∨ ways = 2 ∨ ways = 4 ∨ ways = 8) ∧ gran ≤ 6 ∧ 0 < size ∧ base % 2 ^ 28 = 0 ∧ size % (2 ^ 28 * ways) = 0
          ∧ used + size / ways ≤ s.cxlBytes.2 then
        (s.updHif (fun u => { u with hdm := Map.put rest decoder (⟨base, size, ways, gran⟩ : Hdm) })).set (hdmBit decoder) 1
      else s

/-- R192: the mailbox opcodes that are supported. -/
def cxlOpcodes : List Nat := [0x0100, 0x0101, 0x0300, 0x0301, 0x0400, 0x0401, 0x4000, 0x4200, 0x4300, 0x4301, 0x4302, 0x4400]

/-- A list of 64-bit values behind their count. -/
def countedList (l : List Nat) : Nat := l.length + l.foldr (fun v a => (v + a) * 2 ^ 64) 0

/-- R192: a mailbox command: return code, output payload, and the state after it. -/
def cxlMailbox (op input : Nat) (s : State) : Nat × Nat × State :=
  let lenMib := s.hif.cxlRegion.2
  match op with
  | 0x4000 => (0, lenMib / 256 * 2 ^ 128 + lenMib / 256 * 2 ^ 192, s)
  | 0x0300 => (0, if s.hif.cxlTime = 0 then 0 else (s.stk.phcNs + (s.hif.cxlTime - 1)) % 2 ^ 64, s)
  | 0x0301 => (0, 0, (s.updHif (fun u => { u with cxlTime := 1 + (input % 2 ^ 64 + 2 ^ 64 - s.stk.phcNs % 2 ^ 64) % 2 ^ 64 })))
  | 0x0400 => (0, countedList [4 * cxlOpcodes.length], s)
  | 0x0401 => (0, countedList cxlOpcodes, s)
  | 0x0100 => (0, countedList s.hif.cxlEvents, s)
  | 0x0101 => (0, 0, (s.updHif (fun u => { u with cxlEvents := s.hif.cxlEvents.drop (input % 256) })))
  | 0x4200 => (0, 0, s)
  | 0x4300 => (0, countedList s.hif.poison, s)
  | 0x4301 =>
    if input % 64 ≠ 0 ∨ s.cxlBytes.2 ≤ input % 2 ^ 64 then (2, 0, s)
    else (0, 0, poisonShow (s.updHif (fun u => { u with poison := insertNat (input % 2 ^ 64) s.hif.poison })))
  | 0x4302 =>
    let dpa := input % 2 ^ 64
    if dpa % 64 ≠ 0 ∨ s.cxlBytes.2 ≤ dpa then (2, 0, s)
    else
      let s := poisonShow (s.updHif (fun u => { u with poison := s.hif.poison.filter fun a => a != dpa }))
      (0, 0, memWriteList s (s.cxlBytes.1 + dpa) (toBytes 64 (input / 2 ^ 64)))
  | 0x4400 => (0, 0, memZero s s.cxlBytes.1 s.cxlBytes.2)
  | _ => (3, 0, s)

/-- CXL_MAILBOX_COMMAND (R192): any opcode outside the table completes with Unsupported. -/
def execCxlMailboxCommand (op input : Nat) (s : State) : Outcome :=
  .next <|
    if s.flag Reg.HIF_CXL_CXL_MODE = false then s
    else
      let (code, out, s) := cxlMailbox op input s
      s.emit (.hostReply 2 0 code out)

/-- CXL_RESET (R192): both decoders uncommitted, the region zeroed. -/
def execCxlReset (s : State) : Outcome :=
  .next <|
    if s.flag Reg.HIF_CXL_CXL_MODE = false then s
    else
      let s := (s.updHif (fun u => { u with hdm := [] })).sets [(Reg.HIF_CXL_HDM0_COMMITTED, 0), (Reg.HIF_CXL_HDM1_COMMITTED, 0)]
      memZero s s.cxlBytes.1 s.cxlBytes.2

end Sys2Proof.Machine
end

