-- ==== Sys2Proof/Machine/Journal.lean ====
section
/-!
DEFINITION. Reading and acknowledging the command journal and the patina log (R716 to R727), by the manager and over
MCTP, and the platform's register reads (R747, R797).
-/
namespace Sys2Proof.Machine

/-! ### Entries -/

/-- R710: the entry with a sequence, as far as a log of entries, newest first and ending at `head`, holds it. -/
def entryAt (log : List JEntry) (head seq : Nat) : Option JEntry := if seq = 0 ∨ head < seq then none else log[head - seq]?

/-- R717, R719: a buffer slot of a READ: the entry, or the tail cache's copy of one whose memory failed, or zero. -/
def journalSlot (s : State) (bad : List Nat) (seq : Nat) : Nat :=
  let head := s.get Reg.JNL_HEAD_SEQ
  if seq < s.get Reg.JNL_OLDEST_SEQ ∨ (bad.contains seq ∧ seq + 4096 ≤ head) then 0
  else match entryAt s.jnl.log head seq with
    | some e => e.word
    | none => 0

/-- R719: an entry of the region that suffers an uncorrectable error when it is read. -/
def journalMedia (seq : Nat) (s : State) : State :=
  let s := patina 0x1000 Sev.error seq (count Reg.JNL_MEDIA_CNT_COUNT s)
  if s.flag Reg.JNL_STATUS_MEDIA then s else raise Ev.jnlMedia 0 (seq % 2 ^ 48) (s.set Reg.JNL_STATUS_MEDIA 1)

/-- R719: the failing entries of a range that is read are counted. -/
def journalBad (bad : List Nat) (first last : Nat) (s : State) : State :=
  (bad.filter fun q => decide (first ≤ q) && decide (q ≤ last) && decide (s.get Reg.JNL_OLDEST_SEQ ≤ q)).foldl (fun s q => journalMedia q s) s

/-- R715: the oldest sequence of the previous-epoch tail, and a slot of a READ_PREV. -/
def prevOldest (s : State) : Nat := s.jnl.prevHead + 1 - s.jnl.prevTail.length
def prevSlot (s : State) (seq : Nat) : Nat :=
  match entryAt s.jnl.prevTail s.jnl.prevHead seq with
  | some e => e.word
  | none => 0

/-- R717: slots and the trailer that follows them. -/
def copyOut (slots : List Nat) (start head oldest : Nat) : List Byte :=
  let blank := (slots.filter fun w => w == 0).length
  slots.foldl (fun b w => b ++ toBytes 64 w) []
    ++ toBytes 64 (start % 2 ^ 64 + slots.length * 2 ^ 64 + blank * 2 ^ 128 + head % 2 ^ 64 * 2 ^ 192 + oldest % 2 ^ 64 * 2 ^ 256)

/-! ### JNL_CMD (R716, R717, R736) -/

/-- A journal command of the manager. -/
def jnlCmd (op : Nat) (who : Issuer) (desc : Option (Nat × Nat)) (act : State → CmdRes) (s : State) : Outcome :=
  let p : CmdPend := { op := op, who := who, niche := 0, obj := 0, arg := s.get Reg.JNL_CMD_ARG_START
                       param := if desc.isSome then 0 else s.get Reg.JNL_CMD_ADDR_ADDR
                       param2 := if desc.isSome then 0 else s.get Reg.JNL_CMD_COUNT_COUNT, desc := desc }
  .next <| regGate who 0x1200030 s (cmdStart Blk.jnl p (who.role == .manager) act)

/-- The sequences that a copy covers: COUNT of them, 0 acting as 1, up to a head. -/
def copyRange (s : State) (start head : Nat) : List Nat :=
  let n := min (max 1 (s.get Reg.JNL_CMD_COUNT_COUNT)) (head + 1 - start)
  (List.range n).map (start + ·)

/-- READ (R716, R717, R719); `bad` gives the sequences whose memory is uncorrectable. -/
def execRead (who : Issuer) (bad : List Nat) (s : State) : Outcome :=
  jnlCmd 1 who none (fun s =>
    let start := s.get Reg.JNL_CMD_ARG_START
    let head := s.get Reg.JNL_HEAD_SEQ
    if start = 0 ∨ head < start then .done St.invalid 0 s
    else
      let qs := copyRange s start head
      let data := copyOut (qs.map (journalSlot s bad)) start head (s.get Reg.JNL_OLDEST_SEQ)
      .done St.ok 0 (journalBad bad start (start + qs.length - 1) (hostPut 0 (s.get Reg.JNL_CMD_ADDR_ADDR) data s))) s

/-- READ_PREV (R716, R717). -/
def execReadPrev (who : Issuer) (s : State) : Outcome :=
  jnlCmd 2 who none (fun s =>
    let start := s.get Reg.JNL_CMD_ARG_START
    let head := s.jnl.prevHead
    if s.flag Reg.JNL_STATUS_PREV_VALID = false then .done St.notFound 0 s
    else if start = 0 ∨ head < start then .done St.invalid 0 s
    else
      let data := copyOut ((copyRange s start head).map (prevSlot s)) start head (prevOldest s)
      .done St.ok 0 (hostPut 0 (s.get Reg.JNL_CMD_ADDR_ADDR) data s)) s

/-- MARK (R712, R716). -/
def execMark (who : Issuer) (block : Nat) (s : State) : Outcome :=
  jnlCmd 3 who (some (64, block)) (fun s =>
    let s := jEntry ⟨0, 0, 0x1007, .manager, 0, 0, 0, who.origin, who.ap, who.id, 0, byteField block 0 27⟩ s
    .done St.ok 0 (s.set Reg.JNL_MARK_SEQ_SEQ (s.get Reg.JNL_HEAD_SEQ))) s

/-- JOURNAL_ACK (R718): JNL_ACK is written; a value above JNL_HEAD is a bound violation. -/
def execJournalAck (who : Issuer) (value : Nat) (s : State) : Outcome :=
  .next <| setGate who 0x1200020 s fun s =>
    if s.get Reg.JNL_HEAD_SEQ < value then boundViolation 0x1200020 s
    else
      let before := s.get Reg.JNL_ACK_ACK
      jPace (jRegWrite who 0 0x1200020 value before 0 (s.set Reg.JNL_ACK_ACK value))

/-! ### The patina log (R722, R726) -/

/-- R722: the 32 bytes of a patina entry. -/
def PEntry.word (e : PEntry) : Nat :=
  e.seq % 2 ^ 48 + (e.severity % 4 + (if e.pinned then 4 else 0) + (if e.merged then 8 else 0) + (if e.noTime then 16 else 0)) * 2 ^ 48
    + e.time % 2 ^ 64 * 2 ^ 64 + e.code % 2 ^ 16 * 2 ^ 128 + e.count % 2 ^ 16 * 2 ^ 144 + e.epoch % 2 ^ 32 * 2 ^ 160 + e.detail % 2 ^ 64 * 2 ^ 192

/-- An entry as read; zero when it is not present. -/
def patWord (e : Option PEntry) : Nat :=
  match e with
  | some e => e.word
  | none => 0

/-- R726: the entry that an accessor's PAT_RD_SEL selects. -/
def patSelected (s : State) (a : Nat) : Nat :=
  let i := s.getI Reg.PAT_RD_SEL_INDEX a
  patWord (if s.flagI Reg.PAT_RD_SEL_PINNED a then s.pat.pinned[i]? else s.pat.ring.find? fun e => e.seq % 2 ^ 48 == i)

/-- PATINA_READ_LATCH (R726): a read of PAT_RD_0 latches the whole entry for its accessor. -/
def execPatinaReadLatch (who : Issuer) (s : State) : Outcome :=
  .next <| readGate who 0x1300030 s fun s =>
    let a := accessor who
    let w := patSelected s a
    reply who (w % 2 ^ 64) (s.updPat (fun u => { u with latch := Map.put s.pat.latch a w }))

/-! ### MCTP messages (R727, R747, R780, R797) -/

/-- R780: a message that the device answers only outside AUX. -/
def mctpAwake (s : State) (f : State → State) : State := if s.dev ≤ 1 then s else f s

/-- READ_JOURNAL (R727). -/
def execReadJournal (eid start n : Nat) (bad : List Nat) (s : State) : Outcome :=
  .next <| mctpAwake s fun s =>
    let head := s.get Reg.JNL_HEAD_SEQ
    if start = 0 ∨ head < start ∨ n = 0 ∨ 16 < n then s.emit (.mctp eid St.invalid [])
    else
      let qs := (List.range (min n (head + 1 - start))).map (start + ·)
      let out := qs.map (journalSlot s bad)
      (journalBad bad start (start + qs.length - 1) s).emit (.mctp eid St.ok out)

/-- READ_PREV_JOURNAL (R727, R780). -/
def execReadPrevJournal (eid start n : Nat) (s : State) : Outcome :=
  .next <|
    let head := s.jnl.prevHead
    if s.pwr.aux = false then s
    else if s.flag Reg.JNL_STATUS_PREV_VALID = false then s.emit (.mctp eid St.notFound [])
    else if start = 0 ∨ head < start ∨ n = 0 ∨ 16 < n then s.emit (.mctp eid St.invalid [])
    else s.emit (.mctp eid St.ok (((List.range (min n (head + 1 - start))).map (start + ·)).map (prevSlot s)))

/-- READ_PATINA (R727, R780). -/
def execReadPatina (eid start n : Nat) (s : State) : Outcome :=
  .next <|
    let head := s.get Reg.PAT_HEAD_SEQ
    if s.pwr.aux = false then s
    else if start = 0 ∨ head < start ∨ n = 0 ∨ 32 < n then s.emit (.mctp eid St.invalid [])
    else s.emit (.mctp eid St.ok (((List.range (min n (head + 1 - start))).map fun k =>
      patWord (s.pat.ring.find? fun e => e.seq == start + k))))

/-- READ_PINNED (R727, R780). -/
def execReadPinned (eid start n : Nat) (s : State) : Outcome :=
  .next <|
    if s.pwr.aux = false then s
    else if n = 0 ∨ 32 < n then s.emit (.mctp eid St.invalid [])
    else s.emit (.mctp eid St.ok ((List.range n).map fun k => patWord (s.pat.pinned[start + k]?)))

/-- CLEAR_PINNED (R724, R727, R827). -/
def execClearPinned (eid : Nat) (s : State) : Outcome :=
  .next <| mctpAwake s fun s =>
    let used := s.get Reg.PAT_PIN_INFO_USED
    let s := s.updPat (fun u => { u with pinned := [], ring := s.pat.ring.map fun (e : PEntry) => { e with pinned := false } })
    let s := s.sets [(Reg.PAT_PIN_INFO_USED, 0), (Reg.PAT_STATUS_PINNED_FULL, 0)]
    let s := jEntry ⟨0, 0, 0x1105, .platform, 0, 0, 0, .mctp, 0, eid, 0, used⟩ s
    s.emit (.mctp eid St.ok [])

/-- A register of a block as the platform reads it; all ones where no register stands. -/
def mctpRead (eid lo hi off : Nat) (s : State) : State :=
  let who : Issuer := ⟨.platform, .mctp, 0, eid⟩
  if off < lo ∨ hi ≤ off then s.emit (.mctp eid St.invalid [])
  else match findReg s who off with
    | some (d, i) =>
      let (v, s) := readReg who d i s
      s.emit (.mctp eid St.ok [v])
    | none => (accessDropped 0 off 8 s).emit (.mctp eid St.ok [2 ^ 64 - 1])

/-- PWR_READ (R797, R780). -/
def execPwrRead (eid off : Nat) (s : State) : Outcome := .next (if s.pwr.aux then mctpRead eid 0x1500000 0x1600000 off s else s)

/-- SVC_READ (R747). -/
def execSvcRead (eid off : Nat) (s : State) : Outcome := .next <| mctpAwake s (mctpRead eid 0x1400000 0x1500000 off)

end Sys2Proof.Machine
end

