-- ==== Sys2Proof/Machine/Regulation.lean ====
section
/-!
DEFINITION. The regulation engine (R676 to R704): the eight loops, their runs, advice and its acceptance, envelopes, and
the merged decisions of the journal.
-/
namespace Sys2Proof.Machine

/-! ### Loops -/

/-- A loop as it stands before its first run. -/
def RglLoop.fresh : RglLoop := ⟨0, 0, 0, none, none, none, none, none⟩

def State.loop (s : State) (l : Nat) : RglLoop := (Map.find? s.rgl.loops l).getD RglLoop.fresh
def updLoop (l : Nat) (f : RglLoop → RglLoop) (s : State) : State :=
  (s.updRgl (fun u => { u with loops := Map.put s.rgl.loops l (f (s.loop l)) }))

/-- R679: the mode of a loop; the reserved value acts as OFF. -/
def State.loopMode (s : State) (l : Nat) : Nat :=
  let m := s.getI Reg.RGL_LOOP_CFG_MODE l
  if m = 3 then 0 else m

/-- R691: the loops are frozen outside SERVICE. -/
def State.frozen (s : State) : Bool := s.flag Reg.RGL_CTL_FROZEN

/-- R680: a manager write to a loop's regulated field is not applied now. -/
def State.loopActs (s : State) (l : Nat) : Bool := s.loopMode l == 2 && !s.frozen

/-- R679: a loop whose MODE changes to ACT notes when. -/
def modeChanged (l old : Nat) (s : State) : State :=
  if s.getI Reg.RGL_LOOP_CFG_MODE l = 2 ∧ old ≠ 2 then updLoop l (fun x => { x with actSince := s.stroke }) s else s

def State.envMin (s : State) (l : Nat) : Nat := s.getI Reg.RGL_ENV_MIN l
def State.envMax (s : State) (l : Nat) : Nat := s.getI Reg.RGL_ENV_MAX l
def State.loopParam (s : State) (l : Nat) : Nat := s.getI Reg.RGL_LOOP_CFG_PARAM l

/-! ### Regulated fields (R676) -/

/-- R687, R700: the entry of loop 5 that names a node. -/
def beEntry (s : State) (h : Nat) : Option Nat :=
  (List.range 240).find? fun k => s.flagI Reg.RGL_BE_ENTRY_VALID k && s.getI Reg.RGL_BE_ENTRY_NODE k == h

/-- The admission budget of a field of R688, and the power field. -/
def rglGet (s : State) (l target field : Nat) : Nat :=
  match l with
  | 0 => s.getI Reg.TLT_PEER_INFO_RATE_MBPS target
  | 1 => s.getI Reg.TLT_PEER_RTO_RTO target
  | 2 => s.getI Reg.TIL_INFO_SHARE_LOG2 target
  | 3 => if (Map.find? s.rgl.warm target).isSome then 1 else 0
  | 4 => s.getI Reg.RNG_POLL_INTERVAL target
  | 5 => s.getI Reg.SCH_NODE_SHAPE_RATE target
  | 6 => s.admitted field
  | _ => if field = 0 then s.get Reg.RGL_POWER_CONTROL_MHZ else s.get Reg.RGL_POWER_GATED

/-- A regulated field set. -/
def rglSet (l target field v : Nat) (s : State) : State :=
  match l with
  | 0 => s.setI Reg.TLT_PEER_INFO_RATE_MBPS target v
  | 1 => s.setI Reg.TLT_PEER_RTO_RTO target v
  | 2 =>
    let old := s.getI Reg.TIL_INFO_SHARE_LOG2 target
    let low := (Map.find? s.rgl.lowered target).getD 0 + v - old
    let s := s.updRgl (fun u => { u with lowered := if low = 0 then Map.del s.rgl.lowered target else Map.put s.rgl.lowered target low })
    s.setI Reg.TIL_INFO_SHARE_LOG2 target v
  | 3 => s.updRgl (fun u => { u with warm := if v = 0 then Map.del s.rgl.warm target else Map.put s.rgl.warm target ((Map.find? s.rgl.warm target).getD 0) })
  | 4 => s.setI Reg.RNG_POLL_INTERVAL target v
  | 5 => applyShaper target (v * 2 ^ 32 + s.getI Reg.SCH_NODE_SHAPE_HI_LIMIT target * 2 ^ 16 + s.getI Reg.SCH_NODE_SHAPE_LO_LIMIT target) s
  | 6 => admitShow (s.updRgl (fun u => { u with budgets := if s.admitConf field ≤ v then Map.del s.rgl.budgets field else Map.put s.rgl.budgets field v }))
  | _ => if field = 0 then s.set Reg.RGL_POWER_CONTROL_MHZ v else s.set Reg.RGL_POWER_GATED v

/-- R402, R686: a tile that loop 2 may touch: DATAPATH, its unit ACTIVE. -/
def spreadTile (s : State) (t : Nat) : Bool := s.getI Reg.TIL_INFO_ROLE t == 0 && s.unitState 0 (s.servingTile t) == 0

/-- R689: whether a target still exists. -/
def rglExists (s : State) (l target : Nat) : Bool :=
  match l with
  | 0 => (Map.find? s.tlt.peers target).isSome
  | 1 => (Map.find? s.tlt.peers target).isSome
  | 2 => spreadTile s target
  | 3 => (Map.find? s.tlt.eps target).isSome
  | 4 => s.ringExists target
  | 5 => (beEntry s target).isSome
  | _ => true

/-- R681, R683 to R686: a value held to the bounds of a loop and its target. -/
def rglClamp (s : State) (l target field v : Nat) : Nat :=
  match l with
  | 0 => clamp (s.envMin l) (s.envMax l) v
  | 1 => clamp (s.envMin l) (min (s.envMax l) (s.get Reg.TLT_RETRY_RTO_MAX)) v
  | 2 => min v (s.envMax l)
  | 3 => if v = 1 ∧ (Map.find? s.rgl.warm target).isNone ∧ s.envMax l ≤ s.rgl.warm.length then 0 else v
  | 4 => clamp (s.envMin l) (s.envMax l) (clamp (s.getI Reg.RNG_POLL_POLL_MIN target) (s.getI Reg.RNG_POLL_POLL_MAX target) v)
  | 5 => match beEntry s target with
    | some k => clamp (s.getI Reg.RGL_BE_ENTRY_MIN_MBPS k * 1000) (s.getI Reg.RGL_BE_ENTRY_MAX_MBPS k * 1000) v
    | none => v
  | 6 => clamp ((s.admitConf field * s.envMin l + 15) / 16) (s.admitConf field) v
  | _ => if field = 0 then clamp (s.envMin l) (s.envMax l) v else v

/-! ### Decision rules (R683 to R686) -/

/-- R683: alpha after a run, in units of 2^-16. -/
def nextAlpha (r : PeerRate) : Nat :=
  let f : Int := ((r.ce * 65536 / max r.acked 1 : Nat) : Int)
  ((r.alpha : Int) + (f - (r.alpha : Int)) / 16).toNat

/-- R683: the rate that a run calls for. -/
def nextRate (s : State) (d : Nat) (r : PeerRate) : Nat :=
  let rate := s.getI Reg.TLT_PEER_INFO_RATE_MBPS d
  let alpha := nextAlpha r
  let cut := if 0 < r.retx then max alpha 8192 else alpha
  rglClamp s 0 d 0 (if 0 < r.ce ∨ 0 < r.retx then rate * (131072 - cut) / 131072 else if r.busy = 0 then rate + s.loopParam 0 else rate)

/-- R684: the timer that a run calls for. -/
def nextRto (s : State) (d : Nat) (r : PeerRate) : Nat :=
  let p := 65536 * s.period
  rglClamp s 1 d 0 (((r.srtt + 4 * r.rttvar) * 16 + p - 1) / p)

/-- R685: the interval that a run calls for. -/
def nextInterval (s : State) (q : RglSample) (r : Nat) : Nat :=
  let (polls, taken, full) := (Map.find? q.rings r).getD (0, 0, false)
  let i := s.getI Reg.RNG_POLL_INTERVAL r
  rglClamp s 4 r 0 (if full then s.getI Reg.RNG_POLL_POLL_MIN r
    else if 0 < polls ∧ 4 * polls ≤ taken then i / 2
    else if 0 < polls ∧ taken = 0 then i * 2
    else i)

/-- A target's proposal, when it differs from the value in force. -/
def propose (s : State) (l target field new : Nat) : List Proposal :=
  let old := rglGet s l target field
  if old = new then [] else [⟨target, field, old, new⟩]

/-- R685: the rings of loop 4. -/
def pollRings (s : State) : List Nat :=
  (s.rng.rings.map (·.1)).filter fun r => s.getI Reg.RNG_INFO_TYPE r == 0 && !(s.flagI Reg.RNG_INFO_RESIDENT r) && s.ringEnabled r
    && s.getI Reg.RNG_POLL_INTERVAL r != 0

/-- R686: loop 2; `samples` gives the mean packet-slot occupancy of tiles over the period, in a unit of its own. -/
def spreadProps (s : State) (samples : List (Nat × Nat)) : List Proposal :=
  let l := samples.filter fun p => spreadTile s p.1
  let n := l.length
  let sum := l.foldl (fun a p => a + p.2) 0
  l.foldl (fun ps p =>
    let share := s.getI Reg.TIL_INFO_SHARE_LOG2 p.1
    let v := if sum * (100 + s.loopParam 2) < p.2 * n * 100 then rglClamp s 2 p.1 0 (share + 1)
      else if p.2 * n ≤ sum ∧ 0 < (Map.find? s.rgl.lowered p.1).getD 0 then share - 1
      else share
    ps ++ propose s 2 p.1 0 v) []

/-- R686: loop 3: endpoints that join the warm set or leave it. -/
def warmProps (s : State) (q : RglSample) : List Proposal :=
  let leave := (s.rgl.warm.filter fun p => 4 ≤ p.2 || (Map.find? s.tlt.eps p.1).isNone).map (·.1)
  let join := (q.recalls.filter fun p => decide (s.loopParam 3 ≤ p.2) && (Map.find? s.rgl.warm p.1).isNone).map (·.1)
  let room := s.envMax 3 - (s.rgl.warm.length - leave.length)
  let l := sortPairs (leave.map (fun e => (e, 0)) ++ (join.take room).map fun e => (e, 1))
  l.foldl (fun ps p => ps ++ propose s 3 p.1 0 p.2) []

/-- R686: loop 5; a sample gives an entry's port utilisation in percent, bit 8 its WAITING, bit 9 a higher class's backlog. -/
def shapeProps (s : State) (samples : List (Nat × Nat)) : List Proposal :=
  samples.foldl (fun ps p =>
    let k := p.1
    if s.flagI Reg.RGL_BE_ENTRY_VALID k then
      let h := s.getI Reg.RGL_BE_ENTRY_NODE k
      let rate := s.getI Reg.SCH_NODE_SHAPE_RATE h
      let lo := s.getI Reg.RGL_BE_ENTRY_MIN_MBPS k * 1000
      let hi := s.getI Reg.RGL_BE_ENTRY_MAX_MBPS k * 1000
      let u := p.2 % 256
      let v := if u < s.envMin 5 ∧ bit p.2 8 = 1 then rate + (hi - rate) / 8
        else if s.envMax 5 < u ∧ bit p.2 9 = 1 then rate - (rate - lo) / 8
        else rate
      ps ++ propose s 5 h 0 (if v = rate then rate else rglClamp s 5 h 0 v)
    else ps) []

/-- R686: loop 6. -/
def admitProps (s : State) (q : RglSample) : List Proposal :=
  (List.range 4).foldl (fun ps k =>
    let c := s.admitConf k
    let v := if q.overrun then rglClamp s 6 0 k (s.admitted k * 3 / 4)
      else if s.loopParam 6 ≤ s.rgl.quiet + 1 then rglClamp s 6 0 k (s.admitted k + (c + 15) / 16)
      else s.admitted k
    ps ++ propose s 6 0 k v) []

/-- R686: loop 7; a sample gives a parse cluster's peak queue over the period. -/
def powerProps (s : State) (q : RglSample) : List Proposal :=
  let w := q.watts
  let mhz := s.get Reg.RGL_POWER_CONTROL_MHZ
  let gated := s.get Reg.RGL_POWER_GATED
  let quiet := (List.range 24).foldl (fun g k => match q.given.find? fun p => p.1 == k with
    | some p => if p.2 < 16 then g ||| 2 ^ k else g
    | none => g) gated
  if s.loopParam 7 < w then propose s 7 0 0 (rglClamp s 7 0 0 (mhz - 100)) ++ propose s 7 0 1 quiet
  else if w * 100 < s.loopParam 7 * 95 then propose s 7 0 0 (rglClamp s 7 0 0 (mhz + 100)) ++ propose s 7 0 1 0
  else []

/-! ### Samples (R677) -/

/-- R677: the sample that a loop takes at its boundary; `given` carries the measures that no other block of the model counts. -/
def State.takeSample (s : State) (l : Nat) (given : List (Nat × Nat)) : RglSample where
  peers := if l < 2 then s.tlt.peers.map fun p => (p.1, p.2.rate) else []
  recalls := if l = 3 then s.rgl.recalls else []
  idle := if l = 3 then (s.rgl.warm.filter fun p => match Map.find? s.tlt.eps p.1 with
    | some e => decide (e.used < s.rgl.warmClock)
    | none => true).map (·.1) else []
  rings := if l = 4 then s.rgl.rings else []
  overrun := l == 6 && s.rgl.overrun
  watts := if l = 7 then s.get Reg.PWR_POWER_AVG_W else 0
  given := given

/-- R42: whether the sample of this stroke is dropped. -/
def State.sampleDropped (s : State) : Bool := s.rgl.dropped == some s.stroke

/-- R42, R677: what a run uses: the sample of its boundary, or the previous one where that is dropped. -/
def State.sampleFor (s : State) (l : Nat) (given : List (Nat × Nat)) : Option RglSample :=
  if s.sampleDropped then (s.loop l).sample else some (s.takeSample l given)

/-- R683: a peer's counts as sampled, with alpha as it stands. -/
def alphaNow (s : State) (p : Nat × PeerRate) : PeerRate :=
  { p.2 with alpha := match Map.find? s.tlt.peers p.1 with
    | some x => x.rate.alpha
    | none => p.2.alpha }

/-- R683: whether a peer had Turelm traffic in the period. -/
def PeerRate.active (r : PeerRate) : Bool := decide (0 < r.acked + r.ce + r.retx + r.busy)

/-- R678: a run's targets with activity, and its proposals in index order. -/
def evaluate (s : State) (l : Nat) (sample : Option RglSample) : Nat × List Proposal :=
  match sample with
  | none => (0, [])
  | some q =>
    match l with
    | 0 =>
      let t := q.peers.filter fun p => p.2.active && rglExists s 0 p.1
      (t.length, t.foldl (fun ps p => ps ++ propose s 0 p.1 0 (nextRate s p.1 (alphaNow s p))) [])
    | 1 =>
      let t := q.peers.filter fun p => decide (0 < p.2.samples) && rglExists s 1 p.1
      (t.length, t.foldl (fun ps p => ps ++ propose s 1 p.1 0 (nextRto s p.1 p.2)) [])
    | 2 => (q.given.length, spreadProps s q.given)
    | 3 => (q.recalls.length + s.rgl.warm.length, warmProps s q)
    | 4 => ((pollRings s).length, (pollRings s).foldl (fun ps r => ps ++ propose s 4 r 0 (nextInterval s q r)) [])
    | 5 => (q.given.length, shapeProps s q.given)
    | 6 => (1, admitProps s q)
    | _ => (1, powerProps s q)

/-- What a loop keeps after a run: alpha, the idle runs of the warm set, the quiet runs. -/
def afterRun (l : Nat) (q : RglSample) (s : State) : State :=
  match l with
  | 0 => (s.updTlt (fun u => { u with peers := s.tlt.peers.map fun p =>
      (p.1, match Map.find? q.peers p.1 with
        | some r => if r.active then { p.2 with rate := { p.2.rate with alpha := nextAlpha (alphaNow s (p.1, r)) } } else p.2
        | none => p.2) }))
  | 3 => s.updRgl (fun u => { u with warm := s.rgl.warm.map fun p => (p.1, if q.idle.contains p.1 then p.2 + 1 else 0) })
  | 6 => s.updRgl (fun u => { u with quiet := if q.overrun then 0 else s.rgl.quiet + 1 })
  | _ => s

/-- R677: with its sample taken, a loop's next period begins. -/
def nextPeriod (l : Nat) (s : State) : State :=
  match l with
  | 0 => (s.updTlt (fun u => { u with peers := s.tlt.peers.map fun p =>
      (p.1, { p.2 with rate := { p.2.rate with acked := 0, ce := 0, retx := 0, busy := 0 } }) }))
  | 1 => s.updTlt (fun u => { u with peers := s.tlt.peers.map fun p => (p.1, { p.2 with rate := { p.2.rate with samples := 0 } }) })
  | 3 => s.updRgl (fun u => { u with recalls := [], warmClock := s.tlt.clock })
  | 4 => s.updRgl (fun u => { u with rings := [] })
  | 6 => s.updRgl (fun u => { u with overrun := false })
  | _ => s

/-! ### Runs (R677, R678) -/

/-- R678: a run that falls due while the last is still under evaluation. -/
def runSkipped (l : Nat) (s : State) : State :=
  let s := s.setI Reg.RGL_LOOP_STAT_SKIPPED l (min 255 (s.getI Reg.RGL_LOOP_STAT_SKIPPED l + 1))
  if s.flag Reg.RGL_STATUS_SKIP then s else raise Ev.rglSkip 0 l (s.set Reg.RGL_STATUS_SKIP 1)

/-- R678: where the engine's work ends once it has evaluated n further targets, 8 192 in a stroke, after those it still has. -/
def State.busyAfter (s : State) (n : Nat) : Nat := max s.rgl.busyTo (s.stk.boundary * 8192) + n

/-- REGULATION_RUN (R42, R677, R678, R691); `samples` carries the measures that no other block of the model counts. -/
def execRegulationRun (l : Nat) (samples : List (Nat × Nat)) (s : State) : Outcome :=
  .next <|
    let p := s.effI Reg.RGL_LOOP_CFG_PERIOD l
    let x := s.loop l
    if s.frozen ∨ s.stroke % p ≠ 0 ∨ s.stroke < s.rgl.since + p ∨ x.lastRun = s.stroke then s
    else
      let s := updLoop l (fun x => { x with lastRun := s.stroke }) s
      if x.pending.isSome then runSkipped l s
      else
        let q := s.sampleFor l samples
        let (n, ps) := evaluate s l q
        let ps := ps.take (s.effI Reg.RGL_LOOP_CFG_MAX_CHANGES l)
        let till := s.busyAfter n
        let r : RglRun := ⟨x.run + 1, s.stroke, s.dueBoundary + ((till - 1) / 8192 - s.stk.boundary), ps⟩
        let dropped := s.sampleDropped
        let s := match q with
          | some q => afterRun l q s
          | none => s
        let s := if dropped then s else nextPeriod l s
        updLoop l (fun x => { x with run := x.run + 1, pending := some r, sample := q }) (s.updRgl (fun u => { u with busyTo := till }))

/-- R690: a decision merged into the loop's entry. -/
def decide_ (l run changes proposals : Nat) (ps : List Proposal) (clamped : Bool) (s : State) : State :=
  let size (p : Proposal) : Nat := max p.old p.new - min p.old p.new
  let big (a b : Proposal) : Proposal := if size a < size b then b else a
  let best := ps.foldl big ⟨0, 0, 0, 0⟩
  updLoop l (fun x => { x with merged := some (match x.merged with
    | none => ⟨run, run, 1, changes, proposals, best, clamped, s.stroke⟩
    | some m => { m with last := run, runs := if m.last = run then m.runs else m.runs + 1, changes := m.changes + changes
                         proposals := m.proposals + proposals, best := big m.best best, clamp := m.clamp || clamped }) }) s

/-- Proposals applied: each to a target that exists, clamped to the envelope in force; answers those applied. -/
def applyProps (l : Nat) (ps : List Proposal) (s : State) : List Proposal × State :=
  ps.foldl (fun (q : List Proposal × State) p =>
    if rglExists q.2 l p.target then
      let v := rglClamp q.2 l p.target p.field p.new
      (q.1 ++ [{ p with new := v }], rglSet l p.target p.field v q.2)
    else q) ([], s)

/-- R688: the advice of a run in its block, header last. -/
def writeAdvice (l : Nat) (r : RglRun) (s : State) : State :=
  let a := s.get Reg.RGL_ADV_ADDR_ADDR
  if a = 0 then s
  else
    let body := r.props.foldl (fun b p => b ++ toBytes 16 (p.target % 2 ^ 32 + p.field % 256 * 2 ^ 32 + p.old % 2 ^ 32 * 2 ^ 64 + p.new % 2 ^ 32 * 2 ^ 96)) []
    let head := toBytes 64 (r.run % 2 ^ 64 + r.stroke % 2 ^ 64 * 2 ^ 64 + l * 2 ^ 128 + r.props.length * 2 ^ 136)
    let s := hostPut 0 (a + 1024 * l) head (hostPut 0 (a + 1024 * l + 64) body s)
    raise Ev.rglAdvice 0 (l + r.props.length * 256) (s.set Reg.RGL_STATUS_ADVICE 1)

/-- REGULATION_APPLY (R678, R679, R688): at the boundary after a run's last target. -/
def execRegulationApply (l : Nat) (s : State) : Outcome :=
  .next <|
    match (s.loop l).pending with
    | none => s
    | some r =>
      if s.frozen ∨ s.stk.boundary < r.due then s
      else
        let s := updLoop l (fun x => { x with pending := none, advice := none }) s
        let s := s.setI Reg.RGL_LOOP_STAT_RUN l r.run
        let mode := s.loopMode l
        let whole := decide ((s.loop l).actSince + s.effI Reg.RGL_LOOP_CFG_PERIOD l ≤ r.stroke)
        if mode = 2 ∧ whole = true then
          let (done, s) := applyProps l r.props s
          let s := s.setI Reg.RGL_LOOP_STAT_LAST_CHANGES l done.length
          if done = [] then s else decide_ l r.run done.length 0 done false s
        else if mode = 1 ∧ r.props ≠ [] then
          let s := s.setI Reg.RGL_LOOP_STAT_LAST_CHANGES l r.props.length
          writeAdvice l r (decide_ l r.run 0 r.props.length r.props false (updLoop l (fun x => { x with advice := some r }) s))
        else s.setI Reg.RGL_LOOP_STAT_LAST_CHANGES l 0

/-! ### Envelopes (R681, R682) -/

/-- R682: the regulated fields of a loop that lie outside the envelope in force, with the values that clamping gives. -/
def outside (s : State) (l : Nat) : List Proposal :=
  match l with
  | 3 => ((s.rgl.warm.map (·.1)).drop (s.envMax 3)).map fun e => ⟨e, 0, 1, 0⟩
  | 5 => []
  | 6 => (List.range 4).foldl (fun ps k => ps ++ propose s 6 0 k (rglClamp s 6 0 k (s.admitted k))) []
  | 7 => propose s 7 0 0 (rglClamp s 7 0 0 (s.get Reg.RGL_POWER_CONTROL_MHZ))
  | 4 => (pollRings s).foldl (fun ps r => ps ++ propose s 4 r 0 (clamp (s.envMin 4) (s.envMax 4) (s.getI Reg.RNG_POLL_INTERVAL r))) []
  | 2 => ((List.range 96).filter (spreadTile s)).foldl (fun ps t => ps ++ propose s 2 t 0 (rglClamp s 2 t 0 (s.getI Reg.TIL_INFO_SHARE_LOG2 t))) []
  | _ => s.tlt.peers.foldl (fun ps p => ps ++ propose s l p.1 0 (rglClamp s l p.1 0 (rglGet s l p.1 0))) []

/-- ENVELOPE_APPLY (R682): a new envelope, or a new outer limit, applies at its boundary. -/
def execEnvelopeApply (l : Nat) (s : State) : Outcome :=
  .next <|
    let x := s.loop l
    let (lo, hi, due) := x.envNext.getD (s.envMin l, s.envMax l, 0)
    if s.stk.boundary < due then s
    else
      let fit (v : Nat) : Nat := clamp (s.getI Reg.RGL_OUTER_MIN l) (s.getI Reg.RGL_OUTER_MAX l) v
      let s := updLoop l (fun x => { x with envNext := none }) s
      let s := s.setsI l [(Reg.RGL_ENV_MIN, fit lo), (Reg.RGL_ENV_MAX, fit hi)]
      let ps := if s.loopActs l then outside s l else []
      if ps = [] then s
      else
        let s := ps.foldl (fun s p => rglSet l p.target p.field p.new s) s
        raise Ev.rglClamp 0 l ((decide_ l x.run ps.length 0 ps true s).set Reg.RGL_STATUS_CLAMP 1)

/-! ### Accepting advice (R689, R695, R696) -/

/-- R696: an acceptance ends. -/
def acceptEnd (result applied : Nat) (s : State) : State :=
  raise Ev.rglAcceptDone 0 (result + applied * 256)
    (s.sets [(Reg.RGL_ADV_STATUS_RESULT, result), (Reg.RGL_ADV_STATUS_APPLIED, applied), (Reg.RGL_ADV_STATUS_STROKE, s.stroke)])

/-- R689, R690, R712: the record of an acceptance. -/
def acceptRecord (who : Issuer) (l run mask status : Nat) (s : State) : State :=
  jEntry ⟨0, 0, 0x0FE1, .manager, if status = 0 then 0 else 4, 0, 0, who.origin, who.ap, who.id, status,
    l + run % 2 ^ 48 * 2 ^ 48 + mask % 2 ^ 64 * 2 ^ 128⟩ s

/-- R689: what refuses an acceptance: RGL_ADV_STATUS.RESULT. -/
def acceptRefusal (s : State) (l run mask : Nat) : Option Nat :=
  if s.frozen then some 4
  else if s.loopMode l ≠ 1 then some 3
  else match (s.loop l).advice with
    | none => some 2
    | some r =>
      if r.run % 2 ^ 48 ≠ run ∨ s.getI Reg.RGL_LOOP_STAT_RUN l ≠ run then some 2
      else if mask % 2 ^ r.props.length = 0 then some 5
      else none

/-- ADVICE_ACCEPT (R689). -/
def execAdviceAccept (who : Issuer) (l run : Nat) (s : State) : Outcome :=
  .next <| regGate who 0x1100018 s fun s =>
    let s := s.sets [(Reg.RGL_ADV_ACCEPT_LOOP, l), (Reg.RGL_ADV_ACCEPT_RUN, run)]
    let mask := s.get Reg.RGL_ADV_MASK_MASK
    if s.jReady who = false then s
    else match acceptRefusal s l run mask with
      | some r => acceptEnd r 0 (acceptRecord who l run mask (if r = 5 then St.invalid else St.badState) s)
      | none => (acceptRecord who l run mask St.ok s).defer (.adviceApply l run mask)

/-- R689: accepted proposals apply at their boundary, clamped to the envelope then in force. -/
def applyAdvice (l run mask : Nat) (s : State) : State :=
  match (s.loop l).advice with
  | none => acceptEnd 2 0 s
  | some r =>
    if r.run % 2 ^ 48 ≠ run then acceptEnd 2 0 s
    else
      let chosen := (r.props.zipIdx.filter fun p => bit mask p.2 == 1).map (·.1)
      let (done, s) := applyProps l chosen s
      acceptEnd 1 done.length s

/-! ### The journal's decisions (R690) -/

/-- DECISION_JOURNAL_FLUSH (R690, R712). -/
def execDecisionJournalFlush (l : Nat) (s : State) : Outcome :=
  .next <|
    match (s.loop l).merged with
    | none => s
    | some m =>
      if s.stroke < m.since + s.eff Reg.RGL_CTL_JNL_STROKES then s
      else
        let body := l + (s.loopMode l + if m.clamp then 4 else 0) * 2 ^ 8 + m.changes % 2 ^ 16 * 2 ^ 16 + m.proposals % 2 ^ 16 * 2 ^ 32
          + m.first % 2 ^ 48 * 2 ^ 48 + m.runs % 2 ^ 16 * 2 ^ 96 + m.best.target % 2 ^ 32 * 2 ^ 128 + m.best.old % 2 ^ 32 * 2 ^ 160
          + m.best.new % 2 ^ 32 * 2 ^ 192
        jDevice 0x0FE0 0 0 [body] (updLoop l (fun x => { x with merged := none }) s)

end Sys2Proof.Machine
end

