-- ==== Sys2Proof/Machine/Effects.lean ====
section
/-!
DEFINITION. What unit transitions, a re-armature, P1, SAFE and RECOVERY do in the blocks behind them: tables
that a section's rows give, tiles and their threads, clusters, slices, host controllers and ports (R751 to R760),
debug unlocks (R354), rebuilds (R763).
-/
namespace Sys2Proof.Machine

/-! ### What a section gives beside register fields (R101) -/

/-- The rows that the sections of a type in force give. -/
def State.rowsOf (s : State) (type : Nat) : List (List Nat) := (s.arm.inForce.filter fun c => c.type == type).flatMap (·.rows)

/-- Values taken two by two. -/
def pairUp (l : List Nat) : List (Nat × Nat) :=
  match l with
  | a :: b :: t => (a, b) :: pairUp t
  | _ => []

/-- A thread that the image of its tile gives, loaded and not started. -/
def loadThread (hart entry dispatch : Nat) (s : State) : State :=
  (s.updTil (fun u => { u with threads := Map.put s.til.threads hart { Thread.fresh with entry := entry, dispatch := dispatch } }))

/-- R101: one row of a section takes force: CHANNELS (2), TILE_IMAGES (3), PARSE_GRAPH (5), PIPE_CHAINS (6), MEMORY_CARVE (7),
HOST_FUNCTIONS (8), SCHEDULES (11). -/
def putRow (type : Nat) (row : List Nat) (s : State) : State :=
  match type, row with
  | 2, 0 :: t :: c :: ws => s.updTil (fun u => { u with writers := Map.put s.til.writers (t * 256 + c) ws })
  | 2, [1, t, n] => s.updTil (fun u => { u with pktSlots := Map.put s.til.pktSlots t n, freeSlots := Map.put s.til.freeSlots t (List.range n) })
  | 2, [2, t, c] => s.updTil (fun u => { u with pktChan := Map.put s.til.pktChan t c })
  | 3, [0, h, entry, dispatch] => loadThread h entry dispatch s
  | 5, 0 :: mac :: ks => s.updPrs (fun u => { u with lanes := Map.put s.prs.lanes mac ks })
  | 6, 0 :: t :: l => s.updPrs (fun u => { u with keys := Map.put s.prs.keys t (pairUp l) })
  | 6, 1 :: t :: l => s.updTbl (fun u => { u with srcKeys := Map.put s.tbl.srcKeys t (pairUp l) })
  | 6, [2, t] => s.updTbl (fun u => { u with ages := insertNat t s.tbl.ages })
  | 6, [3, t] => s.updTbl (fun u => { u with v6 := insertNat t s.tbl.v6 })
  | 6, [4, f, action] => s.updPrs (fun u => { u with fixed := Map.put s.prs.fixed f action })
  | 6, [5, onDie, stacked] => s.updTbl (fun u => { u with reserve := (onDie, stacked) })
  | 6, [6, n] => s.updTbl (fun u => { u with actions := n })
  | 7, [0, base, len] => s.updNch (fun u => { u with region := (base, len) })
  | 7, [1, base, len] => s.updFab (fun u => { u with pool := (base * 2 ^ 20, len * 2 ^ 20) })
  | 7, [2, base, len] => s.updHif (fun u => { u with cxlRegion := (base, len) })
  | 7, [3, bytes] => s.updSch (fun u => { u with spill := bytes })
  | 8, [0, ap, rid, pf, vf, kind, pages, bar2, bar4, vectors] =>
    (s.updHif (fun u => { u with fns := Map.put s.hif.fns (fnKey ap rid) (⟨ap, rid, pf, vf, kind, pages, bar2, bar4, vectors, false, false, true, true⟩ : Fn) }))
  | 11, 1 :: h :: ks => s.updSch (fun u => { u with kids := Map.put s.sch.kids h ks })
  | _, _ => s

/-- The rows of the sections in force of some types take force. -/
def applyRows (types : List Nat) (s : State) : State :=
  types.foldl (fun s t => (s.rowsOf t).foldl (fun s r => putRow t r s) s) s

/-! ### Tiles (R325, R332, R755, R760) -/

/-- The threads that TILE_IMAGES gives a tile: hart, entry point, dispatch entry. -/
def State.imageThreads (s : State) (t : Nat) : List (Nat × Nat × Nat) :=
  (s.rowsOf 3).filterMap fun r => match r with
    | [0, h, entry, dispatch] => if hartTile h = t then some (h, entry, dispatch) else none
    | _ => none

/-- R325, R755: every region of a tile's memory starts from its image. -/
def loadImage (t : Nat) (s : State) : State :=
  let s := memZero s (tileMemBase t) 0x140000
  if s.imageThreads t = [] then s
  else match s.arm.inForce.find? fun c => c.type == 3 with
    | some c => memWriteList s (tileMemBase t) ((Config.tileImage c.digest t).take 0x140000)
    | none => s

/-- The threads of a tile as its image gives them, all STOPPED. -/
def loadThreads (t : Nat) (s : State) : State :=
  (s.imageThreads t).foldl (fun s e => enterThrState e.1 0 (loadThread e.1 e.2.1 e.2.2 s)) s

/-- R332: the threads of a tile start at their entry points. -/
def startTile (t : Nat) (s : State) : State := (s.imageThreads t).foldl (fun s e => startThread e.1 s) s

/-- The channels of a tile are empty and its packet slots free. -/
def clearChannels (t : Nat) (s : State) : State :=
  let s := (List.range 256).foldl (fun s c => if s.chan (t * 256 + c) = [] then s else setChan (t * 256 + c) [] s) s
  let n := (Map.find? s.til.pktSlots t).getD 0
  (s.updTil (fun _ => { s.til with
      waiting := s.til.waiting.filter (fun w => w.chan / 256 != t && hartTile w.hart != t)
      freeSlots := if n = 0 then s.til.freeSlots else Map.put s.til.freeSlots t (List.range n) }))

/-- R755: a physical tile takes the logical tile that another served. Tile memory is the logical tile's, so a copy changes nothing. -/
def takeLogicalTile (held index : Nat) (s : State) : State :=
  let own := s.getI Reg.SVC_UNIT_INFO_LOGICAL (unitKey 0 index)
  let t := if own = 0xFF then s.getI Reg.SVC_UNIT_INFO_LOGICAL (unitKey 0 held) else own
  startTile t (loadThreads t (clearChannels t s))

/-- The logical tile of a physical tile. -/
def State.logicalOf (s : State) (p : Nat) : Nat := s.getI Reg.SVC_UNIT_INFO_LOGICAL (unitKey 0 p)

/-! ### Host controllers, ports and stage groups (R751) -/

/-- R751: the mirror of a stage group that PIPE_CHAINS marks. -/
def stageMirror (s : State) (group : Nat) : Option Nat :=
  (s.rowsOf 4).reverse.findSome? fun r => match r with
    | [0, g, m] => if g = group then some m else none
    | _ => none

/-- R751: whether a host controller holds the manager role. -/
def holdsManager (s : State) (h : Nat) : Bool := !s.flag Reg.HIF_MGR_VACANT && s.get Reg.HIF_MGR_ACTIVE_AP / 2 == h

/-- The niches other than niche 0 bound to a controller's functions. -/
def State.nichesOn (s : State) (h : Nat) : List Nat :=
  (s.nch.niches.map (·.1)).filter fun n => n != 0 && s.flagI Reg.NCH_INFO_BOUND n && s.getI Reg.NCH_INFO_AP n / 2 == h

/-- R751: a controller stops: the manager role leaves it, and its niches are quiesced. -/
def controllerStops (h : Nat) (s : State) : State :=
  let s := if holdsManager s h = false then s
    else if s.mgrReady s.mgrStandby.1 s.mgrStandby.2 then moveRole s.mgrStandby.1 s.mgrStandby.2 s
    else managerLost s
  let ns := (s.nichesOn h).filter fun n => s.nicheState n == 1
  let s := ns.foldl (fun s n => setNicheState n 2 (updNiche n (fun x => { x with intake := false }) s)) s
  (s.updSvc (fun u => { u with mgrQuiesced := s.svc.mgrQuiesced ++ ns }))

/-- R748, R760: the niches that a drain quiesced and that are still bound resume. -/
def controllerResumes (h : Nat) (s : State) : State :=
  let mine := s.nichesOn h
  let ns := s.svc.mgrQuiesced.filter fun n => mine.contains n
  let s := s.updSvc (fun u => { u with mgrQuiesced := s.svc.mgrQuiesced.filter fun n => !mine.contains n })
  ns.foldl (fun s n =>
    let st := s.nicheState n
    if st = 2 ∨ st = 3 then setNicheState n 1 (updNiche n (fun x => { x with intake := true }) s)
    else if st = 4 then updNiche n (fun x => { x with prev := 1 }) s
    else s) s

/-- R751: with DISCARD the frames waiting in a port's queues are discarded. -/
def portDiscard (p : Nat) (s : State) : State :=
  let fs := (s.sch.queues.filter fun q => s.queuePort q.1 == p).flatMap (·.2)
  fs.foldl (fun s f => queueDrop f St.aborted (unqueue f s)) s

/-- R751, R752: a unit stops taking work at its DRAINING boundary. -/
def unitStopIntake (kind index : Nat) (discard : Bool) (s : State) : State :=
  if kind = 0 then
    let t := s.logicalOf index
    if t = 0xFF then s
    else if s.getI Reg.TIL_INFO_ROLE t = 1 then
      (hwPut (supChan t) (⟨2, 3 + s.eff Reg.SVC_CTL_DRAIN_LIMIT % 2 ^ 32 * 2 ^ 32 + s.now * 2 ^ 64, 0xFFF, 0⟩ : Msg) (spreadShow s)).1
    else spreadShow s
  else if kind = 5 then controllerStops index s
  else if kind = 6 then
    let s := applyMacLink index false s
    if discard then portDiscard index s else s
  else s

/-- R748, R752: a unit whose drain is cancelled takes work again. -/
def unitResume (kind index : Nat) (s : State) : State :=
  if kind = 0 then
    let t := s.logicalOf index
    if t = 0xFF then s
    else if s.getI Reg.TIL_INFO_ROLE t = 1 then (hwPut (supChan t) (⟨2, 4 + s.now * 2 ^ 64, 0xFFF, 0⟩ : Msg) (spreadShow s)).1
    else spreadShow s
  else if kind = 5 then controllerResumes index s
  else if kind = 6 then (if s.sch.linkUp.contains index then applyMacLink index true s else s)
  else s

/-- R760: what a readmitted unit takes up again beside its work. -/
def unitRejoin (kind index : Nat) (s : State) : State :=
  if kind = 0 then
    let t := s.logicalOf index
    if t = 0xFF then s else spreadShow (startTile t (loadThreads t (loadImage t (clearChannels t s))))
  else if kind = 5 then startTraining (2 * index + 1) (startTraining (2 * index) (controllerResumes index s))
  else if kind = 6 then (if s.sch.linkUp.contains index then applyMacLink index true s else s)
  else s

/-- R753: the work that a forced hold ends. -/
def unitEndWork (kind index : Nat) (s : State) : State :=
  if kind = 0 then
    let t := s.logicalOf index
    if t = 0xFF then s
    else
      let s := loseTile t s
      (s.rng.flights.filter fun f => match f.port with
        | some (h, _) => hartTile h == t
        | none => false).foldl (fun s f => workKill f St.aborted s) s
  else if kind = 1 then
    let ps := s.prs.pkts.filter fun p => p.cluster == index && p.at_ == .queued
    ps.foldl (fun s p => clusterShow index (sendLost p (clusterDrop index (delPkt p.id s)))) s
  else if kind = 3 then
    (s.acc.work.filter fun w => w.2.1 == index).foldl (fun s w => accStop w.1 St.aborted s) s
  else if kind = 5 then
    ((s.nichesOn index).filter fun n => s.nicheState n == 2).foldl (fun s n => beginReset n .reset s) s
  else if kind = 6 then
    let fs := (Map.find? s.sch.lists index).getD []
    fs.foldl (fun s f => frameEnds f St.aborted s) (s.updSch (fun u => { u with lists := Map.del s.sch.lists index }))
  else s

/-- R751: a unit that is HELD holds its threads, its links or its port. -/
def unitHeld (kind index : Nat) (s : State) : State :=
  availUpdate <|
    if kind = 0 then
      let t := s.logicalOf index
      if t = 0xFF then s
      else
        let s := s.updTil (fun u => { u with waiting := s.til.waiting.filter fun w => w.chan / 256 != t && hartTile w.hart != t })
        spreadShow ((List.range 32).foldl (fun s i => if s.thrState (t * 32 + i) = 0 then s else enterThrState (t * 32 + i) 0 s) s)
    else if kind = 5 then linkDown (2 * index + 1) (linkDown (2 * index) s)
    else if kind = 6 then
      applyMacLink index false (s.updSch (fun u => { u with linkUp := s.sch.linkUp.filter fun m => m != index }))
    else s

/-! ### P1 (R795, R796) -/

/-- R795: every function of every attachment point is in D3hot or D3cold. -/
def allFunctionsAsleep (s : State) : Bool :=
  s.hif.fns.all fun e => !s.fnExists e.2 || s.getI Reg.HIF_FN_INFO_DSTATE e.1 == 3 || s.hif.cold.contains e.2.ap

/-- R795: no pool segment is OPEN. -/
def noSegmentOpen (s : State) : Bool := s.fab.segs.all fun g => s.getI Reg.FAB_SEG_INFO_STATE g.1 == 0

/-- R41, R796: each stroke-bound thread of the tiles receives one coalesced boundary event. -/
def strokeEdges (s : State) : State :=
  (List.range 96).foldl (fun s t =>
    let m := s.getI Reg.TIL_INFO_SB_MASK t
    (List.range 32).foldl (fun s i =>
      if bit m i = 1 then updThread (t * 32 + i) (fun x => { x with edge := x.edge ||| 2 ^ 29, stroke := true }) s else s) s) s

/-- R795: P1 at its boundary. -/
def enterP1 (s : State) : State :=
  if s.get Reg.PWR_STATE_PSTATE ≠ 1 then s
  else raise Ev.pwrPstate 0 2 ((s.set Reg.RGL_CTL_FROZEN 1).sets [(Reg.PWR_STATE_PSTATE, 2), (Reg.PWR_STATUS_PSTATE, 1)])

/-- R796: after step 18 the loops run and host fetching resumes. -/
def resumeFromP1 (s : State) : State :=
  let s := strokeEdges (enterService (s.set Reg.RGL_CTL_FROZEN 0))
  retryReads s

/-! ### SAFE (R762, R790, R579) -/

/-- R790: without an armature each enabled attachment point presents a recovery PF. -/
def recoveryPfs (s : State) : State :=
  let aps := (List.range 4).filter fun a => s.apUsed a && s.apEnabled a
  let s := aps.foldl (fun s a =>
    let s := s.updHif (fun u => { u with fns := Map.put s.hif.fns (fnKey a 0) (⟨a, 0, 0, 0, 0, 1, 0, 0, 1, false, false, true, false⟩ : Fn) })
    fnShow (fnKey a 0) (s.setI Reg.HIF_FN_INFO_EXISTS (fnKey a 0) 1)) s
  match aps.find? fun a => s.flagI Reg.HIF_LINK_UP a with
  | some a => s.sets [(Reg.HIF_MGR_VACANT, 0), (Reg.HIF_MGR_ACTIVE_AP, a), (Reg.HIF_MGR_ACTIVE_PF, 0)]
  | none => s.set Reg.HIF_MGR_VACANT 1

/-- R762, R579: the datapath stops. -/
def stopDatapath (s : State) : State :=
  let s := nvFatal s
  if s.arm.loaded then s else recoveryPfs s

/-! ### RECOVERY (R763, R764) -/

/-- R550, R763: Turelm work, and the work that waits on it, ends. -/
def abortForRecovery (s : State) : State := nvRecovery (turelmRecovery s)

/-- R763: a structure is rebuilt: 1 context store and 2 match memory from their copies, 3 the frames of a packet-buffer bank discarded,
4 every packet in flight skipped, 5 and 6 Turelm send records re-armed. -/
def rebuildStructure (structure_ : Nat) (bank : List Nat) (s : State) : State :=
  if structure_ = 3 then
    (s.prs.pkts.filter fun p => bank.contains p.id).foldl (fun s p =>
      let s := match p.seqWork with
        | some q => finish q St.abortedRecovery 0 s
        | none => s
      if s.inFlight p then dropSeq p s
      else clusterShow p.cluster (delPkt p.id s)) s
  else if structure_ = 4 then
    (s.prs.domains.map (·.1)).foldl (fun s d =>
      let n := (s.prs.pkts.filter fun p => p.domain == d && s.inFlight p).length
      (List.range n).foldl (fun s _ => if (s.domain d).release = (s.domain d).next then s else release d (skipHead d s)) s) s
  else if structure_ = 5 ∨ structure_ = 6 then
    (s.updTlt (fun u => { u with sends := s.tlt.sends.map fun (x : Send) => { x with due := s.stroke + x.rto } }))
  else s

/-! ### Debug unlock (R354, R125) -/

/-- R354, R358: the debug modules of the tiles of an unlock close. -/
def closeDebug (s : State) : State :=
  (List.range 96).foldl (fun s t =>
    if s.flagI Reg.TIL_DBG_UNLOCKED t = false then s
    else
      let s := s.setsI t [(Reg.TIL_DBG_UNLOCKED, 0), (Reg.TIL_DBG_RIGHTS, 0), (Reg.TIL_STATUS_DEBUG, 1)]
      raise Ev.tilDebug t (t + 3 * 2 ^ 8) (jDevice 0x07E0 0 0 [t + 3 * 2 ^ 8] s)) s

/-- R354: the payload of a kind 3 token opens the tiles that it names until its expiry. -/
def openDebug (payload : Nat) (s : State) : State :=
  let s := closeDebug s
  let s := s.updArm (fun u => { u with unlock := some (payload * 2 ^ 160, byteField payload 16 23) })
  (List.range 96).foldl (fun s t =>
    if bit payload t = 0 then s
    else
      let s := s.setsI t [(Reg.TIL_DBG_UNLOCKED, 1), (Reg.TIL_DBG_RIGHTS, byteField payload 12 12), (Reg.TIL_STATUS_DEBUG, 1)]
      raise Ev.tilDebug t (t + 2 * 2 ^ 8) (jDevice 0x07E0 0 0 [t + 2 * 2 ^ 8] s)) s

/-- R354: at the next boundary after the expiry halted threads resume. -/
def debugResume (s : State) : State := (List.range 3072).foldl (fun s h => resumeThread h s) s

/-- R125: a step of tally 5 disables debug for good. -/
def disableDebug (s : State) : State := s.updArm (fun u => { u with debugDisabled := true })

/-! ### A load and a restart (R109, R788, R790) -/

/-- R109, R157: the niche regions, pools, functions and threads as an armature that passed gives them. A link of a controller whose MODE
differs from `was` goes down and trains again. -/
def configureBlocks (was : List Nat) (s : State) : State :=
  let s := applyRows [0x02, 0x03, 0x05, 0x06, 0x07, 0x08, 0x0B] s
  let s := (List.range 1024).foldl (fun s i =>
    if s.getI Reg.NCH_POOL_INFO_TOTAL i = 0 then s else s.setI Reg.NCH_POOL_INFO_FREE i (s.getI Reg.NCH_POOL_INFO_TOTAL i)) s
  let s := s.tbl.ages.foldl (fun s t => s.setI Reg.TBL_AGE_PERIOD t 1171875000) s
  let s := (List.range 8).foldl (fun s l => s.setsI l [(Reg.RGL_ENV_MIN, s.getI Reg.RGL_OUTER_MIN l), (Reg.RGL_ENV_MAX, s.getI Reg.RGL_OUTER_MAX l)]) s
  let s := s.hif.fns.foldl (fun s e => if e.2.vf = 0 then fnShow e.1 (s.setI Reg.HIF_FN_INFO_EXISTS e.1 1) else s) s
  let s := (List.range 96).foldl (fun s t => if s.imageThreads t = [] then s else loadImage t s) s
  let s := s.updNch (fun u => { u with niches := Map.put s.nch.niches 0 { NicheX.fresh false with intake := true } })
  let rid := ((s.pfOf s.mgrActive.1 s.mgrActive.2).map (·.rid)).getD 0
  let s := setNicheState 0 1 s
  let s := s.setsI 0 [(Reg.NCH_INFO_BOUND, if s.flag Reg.HIF_MGR_VACANT then 0 else 1), (Reg.NCH_INFO_AP, s.mgrActive.1), (Reg.NCH_INFO_RID, rid),
    (Reg.NCH_STACKED_BASE_MIB, s.nch.region.1), (Reg.NCH_STACKED_LEN_MIB, s.getI Reg.NCH_QUOTA_LIMIT (quotaKey 0 12))]
  let s := s.set Reg.NCH_STATUS_IN_USE 1
  let s := [0, 1].foldl (fun s h =>
    if s.getI Reg.HIF_CTL_MODE h = was.getD h 0 then s
    else [2 * h, 2 * h + 1].foldl (fun s ap => startTraining ap (linkDown ap s)) s) s
  let s := (List.range 4).foldl (fun s ap => if s.flagI Reg.HIF_LINK_UP ap then s.emit (.readiness ap 65536) else s) s
  standbyShow (spreadShow (admitShow s))

/-- R109, R115: the section of a type in the armature that the boot descriptor selects. -/
def State.bootSection (s : State) (type : Nat) : Option Section :=
  match (Map.find? s.arm.armSlots (s.get Reg.ARM_BOOTDESC_ARM_SLOT)).getD [] with
  | m :: _ => m.sections.find? fun c => c.type == type
  | [] => none

/-- R157, R788: the MODE that HOST_FUNCTIONS gives a controller, known when its links train. -/
def trainMode (s : State) : State :=
  [0, 1].foldl (fun s h =>
    let v := match s.bootSection 8 with
      | some c => ((c.fields.find? fun e => e.off == 0x300000 && e.lo == 6 && e.idx == h).map (·.val)).getD 0
      | none => 0
    s.setI Reg.HIF_CTL_MODE h v) s

/-- R788, R789: links train from step B2. -/
def trainLinks (s : State) : State := (List.range 4).foldl (fun s ap => startTraining ap s) s

/-- The registers that a restart from SAFE keeps: those of the IDN, STK, ARM, HIF, JNL, PAT, SVC and PWR blocks. -/
def restartKeeps (k : Nat) : Bool :=
  let b := k / 2 ^ 32 / 128 / 2 ^ 20
  b == 0 || b == 1 || b == 2 || b == 3 || b == 18 || b == 19 || b == 20 || b == 21

/-- R16, R116, R790: a restart from SAFE: the datapath starts afresh; functions and links stay when HOST_FUNCTIONS has the same digest. -/
def restartBlocks (s : State) : State :=
  let s := closeDebug s
  let r := State.reset
  let digest (l : List Section) : Option Nat := (l.find? fun c => c.type == 8).map (·.digest)
  let same := s.arm.loaded && digest s.arm.inForce == (s.bootSection 8).map (·.digest)
  let s1 : State := { r with
    regs := s.regs.filter (fun p => restartKeeps p.1), mem := s.mem, free := s.free, stk := s.stk
    arm := { s.arm with loaded := false, job := none, unlock := none, maq := none }
    hif := { s.hif with tags := [], waiting := [] }
    svc := { r.svc with plinthSlot := s.svc.plinthSlot, recoveryStrokes := s.svc.recoveryStrokes }
    jnl := s.jnl, pat := s.pat, pwr := { s.pwr with nextStep := 0, waitSince := none }
    events := s.events, out := s.out, pending := s.pending }
  let s1 := (s1.updHif (fun _ => { s1.hif with
    quar := s.hif.quar ++ s.hif.tags.map fun (t : HostTag) => (⟨t.ap, t.tag, s.stk.boundary + s.eff Reg.HIF_TAG_QUAR_STROKES⟩ : QuarTag) }))
  let s1 := s1.sets [(Reg.PWR_SEQ_READY, 0), (Reg.PWR_SEQ_WAITING, 0), (Reg.PWR_SEQ_STEP, 0), (Reg.PWR_STATE_PSTATE, 0)]
  if same then
    s1.hif.fns.foldl (fun s e => updFn e.1 (fun f => { f with notReady := true }) s) s1
  else
    let s1 := (s.hif.fns.map (·.1)).foldl (fun s k => fnShow k (s.setI Reg.HIF_FN_INFO_EXISTS k 0)) s1
    let s1 := s1.updHif (fun u => { u with fns := [] })
    trainLinks (trainMode ((List.range 4).foldl (fun s ap => linkGoesDown ap s) s1))

end Sys2Proof.Machine
end

