-- ==== Sys2Proof/Machine/Device.lean ====
section
/-!
DEFINITION. The operations on the device as a whole: unit transitions (R748), the
re-armature job (R129), entry to SAFE (R762), the loss of main power (R781, R714),
tallies and the fuse record (R125 to R128), and the checks of an image (R109).
-/
namespace Sys2Proof.Machine

/-! ### Units (R748) -/

/-- R360, R755: the TIL block that describes a physical tile, if one does. -/
def State.tileBlock (s : State) (p : Nat) : Option Nat :=
  let l := s.getI Reg.SVC_UNIT_INFO_LOGICAL (unitKey 0 p)
  if l ≠ 0xFF then some l else if s.servingTile p = p then some p else none

/-- R748, R712, R767: a unit enters a state: register, UNIT record, event, partition count. -/
def setUnitState (kind index new : Nat) (s : State) : State :=
  let k := unitKey kind index
  let old := s.getI Reg.SVC_UNIT_INFO_STATE k
  let s := s.setsI k [(Reg.SVC_UNIT_INFO_STATE, new), (Reg.SVC_UNIT_INFO_STROKE, s.stroke)]
  let s := if kind = 0 then (match s.tileBlock index with
             | some t => s.setI Reg.TIL_INFO_UNIT_STATE t new
             | none => s)
           else if kind = 3 then s.setI Reg.ACC_SLICE_UNIT_STATE index new else s
  let s := jDevice 0x1005 0 0 [kind + index * 2 ^ 8 + old * 2 ^ 24 + new * 2 ^ 32] s
  let s := raise Ev.svcUnit k (kind + index * 2 ^ 8 + new * 2 ^ 16) (s.set Reg.SVC_STATUS_UNIT_CHANGE 1)
  partitionCount ((Map.find? s.arm.unitPart k).getD 0) s

/-- R760: a unit enters PROBATION at this boundary with a sixteenth share. -/
def enterProbation (kind index : Nat) (s : State) : State :=
  let s := setUnitState kind index 3 s
  let s := s.updSvc (fun u => { u with probation := Map.put s.svc.probation (unitKey kind index) s.stk.boundary })
  match s.tileBlock index with
  | some t => if kind = 0 then s.setI Reg.TIL_INFO_SHARE_LOG2 t 4 else s
  | none => s

/-- R755: the STANDBY tile that the device chooses for a held tile: fewest hops, lower number. -/
def nearestStandby (s : State) (t : Nat) : Option Nat :=
  let dist (a b : Nat) : Nat := (max (a / 12) (b / 12) - min (a / 12) (b / 12)) + (max (a % 12) (b % 12) - min (a % 12) (b % 12))
  let ready := (List.range 96).filter fun u =>
    s.standbyTile u && s.unitState 0 u == 0 && u != t && (Map.find? s.svc.reloading (unitKey 0 u)).isNone
  ready.foldl (fun best u => match best with
    | none => some u
    | some b => if dist t u < dist t b then some u else best) none

/-- R755: a substitute begins to load the images of a held tile's logical tile. -/
def startSubstitute (held standby : Nat) (s : State) : State :=
  (s.updSvc (fun u => { u with reloading := Map.put s.svc.reloading (unitKey 0 standby) (held + 1) }))

/-- R755, R785: a DATAPATH or CONTROL tile entering HELD is substituted by itself when AUTO_SUBST is set; in the power sequence not before step 12. -/
def autoSubstitute (index : Nat) (noSubst : Bool) (s : State) : State :=
  let role := s.getI Reg.TIL_INFO_ROLE (s.getI Reg.SVC_UNIT_INFO_LOGICAL (unitKey 0 index))
  if (s.dev = 3 ∧ s.get Reg.PWR_SEQ_STEP < 12) ∨ (s.svc.reloading.any fun p => p.2 == index + 1) then s
  else if s.flag Reg.SVC_CTL_AUTO_SUBST ∧ noSubst = false ∧ (role = 0 ∨ role = 1) ∧ s.getI Reg.SVC_UNIT_INFO_LOGICAL (unitKey 0 index) ≠ 0xFF then
    match nearestStandby s index with
    | some u => startSubstitute index u s
    | none => s
  else s

/-- R748: a unit enters HELD; its drain, probation and share end. -/
def enterHeld (kind index : Nat) (s : State) : State :=
  let k := unitKey kind index
  let noSubst := match Map.find? s.svc.drain k with
    | some d => d.noSubst
    | none => false
  let s := setUnitState kind index 2 s
  let s := s.updSvc (fun u => { u with drain := Map.del s.svc.drain k, probation := Map.del s.svc.probation k })
  let s := unitHeld kind index s
  if kind = 0 then autoSubstitute index noSubst s else s

/-- R748: a unit enters DRAINING at its boundary. -/
def enterDraining (kind index : Nat) (discard noSubst : Bool) (s : State) : State :=
  let s := setUnitState kind index 1 s
  let s := s.updSvc (fun u => { u with drain := Map.put s.svc.drain (unitKey kind index) ⟨s.stk.boundary, noSubst⟩ })
  unitStopIntake kind index discard s

/-- R748: a DRAINING unit returns to ACTIVE at its boundary. -/
def cancelDraining (kind index : Nat) (s : State) : State :=
  let s := setUnitState kind index 0 s
  let s := s.updSvc (fun u => { u with drain := Map.del s.svc.drain (unitKey kind index) })
  unitResume kind index s

/-- R748, R753, R755: a unit is forced or failed into HELD; the work still in it ends. After a failure the tile's memory is lost, and
its logical tile starts from the image. -/
def forceHeld (kind index : Nat) (s : State) : State :=
  let failed := (Map.find? s.svc.drain (unitKey kind index)).isNone
  let s := unitEndWork kind index s
  let s := if kind = 0 ∧ failed ∧ s.logicalOf index ≠ 0xFF then loadImage (s.logicalOf index) s else s
  enterHeld kind index s

/-- R756, R760: a readmitted unit, or a substitute whose images are loaded, joins at this boundary. -/
def joinUnit (kind index : Nat) (s : State) : State :=
  let k := unitKey kind index
  match Map.find? s.svc.reloading k with
  | some (held1 + 1) =>
    let s := s.updSvc (fun u => { u with reloading := Map.del s.svc.reloading k })
    if kind = 0 ∧ held1 ≠ index then
      let hk := unitKey 0 held1
      let logical := s.getI Reg.SVC_UNIT_INFO_LOGICAL hk
      let s := (s.setI Reg.SVC_UNIT_INFO_LOGICAL k logical).setI Reg.SVC_UNIT_INFO_LOGICAL hk 0xFF
      let s := takeLogicalTile held1 index s
      enterProbation 0 index s
    else if kind = 0 ∧ s.getI Reg.SVC_UNIT_INFO_LOGICAL k = 0xFF then
      setUnitState 0 index 0 s
    else unitRejoin kind index (enterProbation kind index s)
  | _ => s

/-! ### Tallies and the fuse record (R125 to R128) -/

/-- R126: the granted count of a role on a tally. -/
def grantField (r : Role) : Field :=
  match r with
  | .device => Reg.ARM_TALLY_GRANT_DEVICE
  | _ => Reg.ARM_TALLY_GRANT_PLATFORM

/-- R126: granted counts never exceed REMAINING. -/
def capGrants (t : Nat) (s : State) : State :=
  let r := s.getI Reg.ARM_TALLY_REMAINING t
  let s := s.setI Reg.ARM_TALLY_GRANT_DEVICE t (min r (s.getI Reg.ARM_TALLY_GRANT_DEVICE t))
  s.setI Reg.ARM_TALLY_GRANT_PLATFORM t (min r (s.getI Reg.ARM_TALLY_GRANT_PLATFORM t))

/-- R128: a tally whose REMAINING reaches 1 or 0 raises EV_TALLY_LOW. -/
def tallyLow (t : Nat) (s : State) : State :=
  if s.getI Reg.ARM_TALLY_REMAINING t ≤ 1 then raise Ev.tallyLow t t (s.set Reg.ARM_STATUS_TALLY_LOW 1) else s

/-- R127: one step of a tally consumed: the fuse record first, then the counts. -/
def consumeStep (t arg unit row : Nat) (s : State) : State :=
  let n := s.arm.fuseCount
  let s := s.setsI n [(Reg.ARM_FUSE_REC_DATA_VALID, 1), (Reg.ARM_FUSE_REC_DATA_UNIT, unit), (Reg.ARM_FUSE_REC_DATA_TALLY, t),
    (Reg.ARM_FUSE_REC_DATA_ARG, arg), (Reg.ARM_FUSE_REC_DATA_EPOCH, s.get Reg.JNL_EPOCH_EPOCH), (Reg.ARM_FUSE_REC_DETAIL_ROW, row)]
  let s := s.updArm (fun u => { u with fuseCount := n + 1 })
  let s := s.setI Reg.ARM_TALLY_CONSUMED t (s.getI Reg.ARM_TALLY_CONSUMED t + 1)
  let s := s.setI Reg.ARM_TALLY_REMAINING t (s.getI Reg.ARM_TALLY_REMAINING t - 1)
  tallyLow t (capGrants t s)

/-- R126: a step of tally 3 or 4 consumed by a role lowers its grant by one. -/
def consumeGranted (r : Role) (t arg unit row : Nat) (s : State) : State :=
  let g := s.getI (grantField r) t
  consumeStep t arg unit row (s.setI (grantField r) t (g - 1))

/-- R126: whether a role may consume a step: none, TALLY_EXHAUSTED or PERMISSION. -/
def tallyRefusal (r : Role) (t : Nat) (s : State) : Option Nat :=
  if s.getI Reg.ARM_TALLY_REMAINING t = 0 then some St.noResource
  else if s.getI (grantField r) t = 0 then some St.permission
  else none

/-- R761: a HELD unit is retired: one step of tally 3, RETIRED. -/
def retireUnit (r : Role) (kind index : Nat) (s : State) : State :=
  setUnitState kind index 4 (consumeGranted r 3 kind index 0 s)

/-! ### Images (R99 to R111) -/

/-- The codes of R120. -/
def Code.accepted : Nat := 1
def Code.badHeader : Nat := 2
def Code.wrongMember : Nat := 3
def Code.shapeRev : Nat := 4
def Code.signature : Nat := 5
def Code.svnBelowFloor : Nat := 6
def Code.table : Nat := 7
def Code.sectionDigest : Nat := 8
def Code.shapeExceeded : Nat := 9
def Code.inconsistent : Nat := 10
def Code.proofFailed : Nat := 11
def Code.staleBase : Nat := 12
def Code.state : Nat := 13
def Code.poolInUse : Nat := 14
def Code.tooLarge : Nat := 15
def Code.flashError : Nat := 16
def Code.busy : Nat := 17
def Code.drainTimeout : Nat := 18
def Code.applyFailed : Nat := 19
def Code.abortedState : Nat := 20
def Code.cancelled : Nat := 21
def Code.noStandby : Nat := 22
def Code.notApplied : Nat := 23
def Code.tokenInvalid : Nat := 24
def Code.tallyExhausted : Nat := 25
def Code.permission : Nat := 26

/-- R105: one signature is valid. -/
def sigValid (s : State) (g : Signature) : Bool :=
  g.keyHash == s.arm.keyHash && g.ok && s.arm.algs.contains g.alg

/-- R104, R105: a signature block is accepted. -/
def sigsAccepted (s : State) (l : List Signature) : Bool :=
  (l.length == 1 || l.length == 2) && l.all (sigValid s) && (!s.arm.pqRequired || l.any fun g => g.alg == 2)

/-- R101, R114: the types a partial image may carry. -/
def partialTypes : List Nat := [0x02, 0x03, 0x04, 0x05, 0x09, 0x0B, 0x0C, 0x0D, 0x0E, 0x0F]

/-- R102: the global section types. -/
def globalTypes : List Nat := [0x0C, 0x0D, 0x0E]

/-- R101, R114, R115: the section table of an image. -/
def tableAccepted (m : Image) : Bool :=
  let ts := m.sections.map (·.type)
  let once := ts.all fun t => (ts.filter (fun u => u == t)).length == 1
  m.tableOk && once &&
  (if m.kind = 0 then ((List.range 15).map (· + 1)).all ts.contains && ts.length == 15
   else if m.kind = 1 then
    ts.contains 0x0F && ts.all partialTypes.contains && m.sections.all fun c =>
      if globalTypes.contains c.type then c.partMask == 0
      else if c.type = 0x0F then true
      else c.partMask != 0 && (c.partMask &&& m.partMask) == c.partMask
   else true)

/-- The tile that a row of a CHANNELS or TILE_IMAGES section concerns. -/
def rowTile (type : Nat) (row : List Nat) : Option Nat :=
  match type, row with
  | 2, _ :: t :: _ => some t
  | 3, _ :: h :: _ => some (hartTile h)
  | _, _ => none

/-- R115: the rows in force after a section: those of the partitions outside its mask stay. -/
def mergeRows (parts : Map Nat) (old new : Section) : List (List Nat) :=
  if globalTypes.contains new.type then new.rows
  else (old.rows.filter fun r => match rowTile new.type r with
    | some t => bit new.partMask ((Map.find? parts (unitKey 0 t)).getD 0) == 0
    | none => true) ++ new.rows

/-- R115: the sections in force after an image, one per type. -/
def mergeSections (parts : Map Nat) (old new : List Section) : List Section :=
  old.filter (fun o => !(new.any fun c => c.type == o.type)) ++ new.map fun c =>
    match old.find? fun o => o.type == c.type with
    | some o => { c with rows := mergeRows parts o c }
    | none => c

/-- R100: a section table entry as a number of 64 bytes. -/
def sectionEntry (c : Section) : Nat :=
  c.type % 2 ^ 16 + c.version % 2 ^ 16 * 2 ^ 16 + c.partMask % 2 ^ 16 * 2 ^ 32 + c.offset % 2 ^ 32 * 2 ^ 64
    + c.length % 2 ^ 32 * 2 ^ 96 + c.digest % 2 ^ 384 * 2 ^ 128

/-- R111: the section table entries in force, ordered by TYPE, as (bytes, number). -/
def digestInput (l : List Section) : Nat × Nat :=
  ((List.range 15).map (· + 1)).foldl (fun (n, v) t =>
    match l.find? (fun c => c.type == t) with
    | some c => (n + 64, v + sectionEntry c * 2 ^ (8 * n))
    | none => (n, v)) (0, 0)

/-- R111: the effective digest of a set of sections. -/
def effDigest (l : List Section) : Nat :=
  let (n, v) := digestInput l
  Config.sha384 n v % 2 ^ 384

/-- R39, R111: the window of a proved unit in core cycles, at the shortest slewed stroke. -/
def proofWindow (period w : Nat) : Nat :=
  let ns := if w = 0 then 16 else if w = 1 then period - 32 else period
  ns * 19990 / 10000

/-- R111: the budget proof of an image re-sums within its windows, and lists digests in force. -/
def proofAccepted (period : Nat) (after : List Section) (m : Image) : Bool :=
  (m.proofDigests.all fun p => after.any fun c => c.type == p.1 && c.digest == p.2) &&
  (m.proofUnits.all fun u => decide (u.terms.foldl (· + ·) 0 ≤ proofWindow period u.window))

/-- R112, R139: the floor for an image kind. -/
def floorOf (s : State) (kind : Nat) : Nat :=
  if kind = 2 then s.get Reg.ARM_FLOOR_PLINTH else s.get Reg.ARM_FLOOR_ARMATURE

/-- R109 step 2: the header checks, as a code of R120, or 0. -/
def headerCode (s : State) (kind room : Nat) (m : Image) : Nat :=
  if m.magic ≠ 0x4E474D41 ∨ m.format ≠ 1 ∨ m.kind ≠ kind ∨ room < m.len then Code.badHeader
  else if m.member ≠ s.get Reg.IDN_PART_MEMBER then Code.wrongMember
  else if s.get Reg.IDN_SHAPE3_SHAPE_REV < m.shapeRev then Code.shapeRev
  else 0

/-- R109 steps 2 to 6, as a code of R120, or 0. -/
def imageCode26 (s : State) (kind room : Nat) (m : Image) : Nat :=
  let h := headerCode s kind room m
  if h ≠ 0 then h
  else if sigsAccepted s m.sigs = false then Code.signature
  else if m.svn < floorOf s kind then Code.svnBelowFloor
  else if tableAccepted m = false then Code.table
  else if m.digestsOk = false then Code.sectionDigest
  else if m.shapeOk = false then Code.shapeExceeded
  else 0

/-- The stroke period that the STROKE section of an image sets, else the one in force. -/
def imagePeriod (s : State) (m : Image) : Nat :=
  match m.sections.findSome? (fun c => c.fields.find? fun e => e.off == 0x100000 && e.lo == 6) with
  | some e => 128 * 2 ^ (e.val % 3)
  | none => s.period

/-- R109 steps 2 to 8, as a code of R120, or 0. -/
def imageCode (s : State) (kind : Nat) (m : Image) : Nat :=
  let c := imageCode26 s kind 67108864 m
  if c ≠ 0 then c
  else if m.consistent = false then Code.inconsistent
  else if proofAccepted (imagePeriod s m) (if kind = 0 then m.sections else mergeSections s.arm.unitPart s.arm.inForce m.sections) m = false then
    Code.proofFailed
  else 0

/-- R114: whether the sections of a partial image may be replaced in a device state. -/
def stateAllows (dev : Nat) (m : Image) : Bool :=
  (dev == 3 || dev == 4 || dev == 5 || dev == 6) && (dev != 4 || !(m.sections.any fun c => c.type == 0x09))

/-- R114: a changed pool with niches allocated (POOL_IN_USE). -/
def poolInUse (s : State) (m : Image) : Bool :=
  m.sections.any fun c => c.type == 0x0D && c.fields.any fun e =>
    e.off == 0x400040 && s.getI Reg.NCH_POOL_INFO_TOTAL e.idx != e.val &&
    s.nch.niches.any fun p => s.getI Reg.NCH_INFO_POOL p.1 == e.idx / 16

/-- R118: the checks that a partial image faces beside R109, as a code, or 0. -/
def partialCode (s : State) (m : Image) : Nat :=
  let c := imageCode26 s 1 67108864 m
  if c ≠ 0 then c
  else if m.baseDigest ≠ effDigest s.arm.inForce then Code.staleBase
  else
    let c := imageCode s 1 m
    if c ≠ 0 then c
    else if stateAllows s.dev m = false then Code.state
    else if poolInUse s m then Code.poolInUse
    else 0

/-- R111, R137: the effective digest registers. -/
def putDigest (s : State) : State :=
  let d := effDigest s.arm.inForce
  (List.range 6).foldl (fun s i => s.setI Reg.ARM_EFF_DIGEST_DIGEST i (d >>> (64 * i))) s

/-- R115: the sections of an image take force: table, register fields, partitions. -/
def applySections (l : List Section) (s : State) : State :=
  let s := s.updArm (fun u => { u with inForce := mergeSections s.arm.unitPart s.arm.inForce l })
  let s := l.foldl (fun s c =>
    let s := putSecFields c.fields s
    if c.type = 0x01 then (s.updArm (fun u => { u with unitPart := c.units })) else s) s
  putDigest s

/-! ### The re-armature job (R129 to R132) -/

/-- R129: the job's phase moves; journaled, and EV_ARM_JOB_DONE at DONE or FAILED. -/
def jobPhase (new code : Nat) (s : State) : State :=
  let old := s.get Reg.ARM_JOB_PHASE
  let mask := s.get Reg.ARM_JOB_PART_MASK
  let s := s.sets [(Reg.ARM_JOB_PHASE, new), (Reg.ARM_JOB_RESULT, code), (Reg.ARM_JOB_STROKES, 0),
    (Reg.ARM_STATUS_JOB_ACTIVE, if 1 ≤ new ∧ new ≤ 5 then 1 else 0)]
  let s := s.updArm (fun u => { u with job := s.arm.job.map fun j => { j with since := s.stk.boundary } })
  let s := jDevice 0x02E0 0 0 [old + new * 2 ^ 8 + code * 2 ^ 16 + mask * 2 ^ 32] s
  if new = 6 ∨ new = 7 then raise Ev.armJobDone 0 code s else s

/-- R130, R155: the partitions of a mask marked held by the job, or released. -/
def jobMask (mask v : Nat) (s : State) : State :=
  (List.range 16).foldl (fun s p => if bit mask p = 1 then s.setI Reg.ARM_PART_IN_JOB p v else s) s

/-- The job ends: its phase moves, and its partitions are released. -/
def jobEnd (new code : Nat) (s : State) : State :=
  let s := jobPhase new code s
  let s := jobMask (s.get Reg.ARM_JOB_PART_MASK) 0 (s.set Reg.ARM_JOB_PART_MASK 0)
  let s := jobMask 0xFFFF 0 s
  (s.updArm (fun u => { u with job := none }))

/-- R130: the units of the partitions in a mask. -/
def maskUnits (s : State) (mask : Nat) : List Nat :=
  (s.arm.unitPart.filter fun e => bit mask e.2 == 1).map (·.1)

/-- R129, R132: units that the job put into DRAINING return to ACTIVE at the next boundary. -/
def jobReleaseDrain (s : State) : State :=
  (maskUnits s (s.get Reg.ARM_JOB_PART_MASK)).foldl (fun s k =>
    if s.getI Reg.SVC_UNIT_INFO_STATE k = 1 then s.defer (.unitActive (k / 128) (k % 128)) else s) s

/-- R132: the device leaves the state the job required, or enters RECOVERY. -/
def jobAbortedState (s : State) : State :=
  match s.arm.job with
  | none => s
  | some j =>
    let ph := s.get Reg.ARM_JOB_PHASE
    if ph = 1 ∨ ph = 2 then
      if s.dev = 6 ∨ stateAllows s.dev j.image = false then jobEnd 7 Code.abortedState (jobReleaseDrain s) else s
    else s

/-- R132: at entry to SAFE every job is abandoned. -/
def jobAbandon (s : State) : State :=
  match s.arm.job with
  | none => s
  | some _ => jobEnd 7 Code.abortedState s

/-! ### SAFE and main power (R762, R714, R781) -/

/-- R762, R45, R132: the datapath stops, the clock step and the job are abandoned, SAFE is entered. -/
def enterSafe (cause : Nat) (s : State) : State :=
  let s := patina 0x1800 Sev.fatal cause s
  let s := stopDatapath (jobAbandon (clockAtSafe s))
  enterState 7 cause s

/-- R781, R714: main power is gone: what the plinth does not hold returns to its reset value;
the current tail becomes the previous-epoch tail. -/
def loseMain (s : State) : State :=
  let keep (k : Nat) : Bool :=
    let off := k / 2 ^ 32 / 128
    off < 0x100000 || (0x200048 ≤ off && off < 0x200050) || (0x200090 ≤ off && off < 0x2000E0) || (0x2000F0 ≤ off && off < 0x200200)
    || (0x1200000 ≤ off && off < 0x1200008) || (0x1300000 ≤ off && off < 0x1400000) || (0x1500000 ≤ off && off < 0x1600000)
  let r := State.reset
  let prevHead := s.get Reg.JNL_HEAD_SEQ
  let epoch := s.get Reg.JNL_EPOCH_EPOCH
  let s1 : State := { r with
    regs := s.regs.filter (fun p => keep p.1)
    free := s.free
    arm := { r.arm with
      desc0 := s.arm.desc0, desc1 := s.arm.desc1, plinthSlots := s.arm.plinthSlots, armSlots := s.arm.armSlots
      keyHash := s.arm.keyHash, newKey := s.arm.newKey, pqRequired := s.arm.pqRequired, algs := s.arm.algs
      fuseCount := s.arm.fuseCount, debugDisabled := s.arm.debugDisabled }
    jnl := { r.jnl with prevTail := s.jnl.log.take 4096, prevHead := prevHead, lastEpoch := epoch }
    pat := s.pat
    svc := { r.svc with plinthSlot := s.svc.plinthSlot }
    pwr := { r.pwr with aux := s.pwr.aux, straps := s.pwr.straps, pgFailed := s.pwr.pgFailed, poweredBy := s.pwr.poweredBy }
    hif := { r.hif with perst := s.hif.perst }
    out := s.out
    pending := s.pending }
  s1.sets [(Reg.JNL_PREV_HEAD_SEQ, prevHead), (Reg.JNL_STATUS_PREV_VALID, 1), (Reg.JNL_EPOCH_PREV_EPOCH, epoch),
    (Reg.PWR_SEQ_READY, 0), (Reg.PWR_SEQ_WAITING, 0), (Reg.PWR_SEQ_STEP, 0), (Reg.PWR_STATE_PSTATE, 0),
    (Reg.PWR_STATE_LEVEL, 0), (Reg.PWR_STATE_TEMP_LEVEL, 0), (Reg.PWR_STATE_POWER_LEVEL, 0), (Reg.PWR_TEMP_HOTTEST, 0),
    (Reg.PWR_TEMP_DIODE0, 0), (Reg.PWR_TEMP_DIODE1, 0), (Reg.PWR_TEMP_HOT_SENSOR, 0), (Reg.PWR_TEMP_PEAK, 0),
    (Reg.PWR_POWER_PEAK_W, 0), (Reg.PWR_POWER_AVG_W, 0)]

end Sys2Proof.Machine
end

