-- ==== Sys2Proof/Machine/Armature.lean ====
section
/-!
DEFINITION. The armature (R99 to R156): load at boot, maquette, partial re-armature,
persisting and flash, tokens and tallies.
-/
namespace Sys2Proof.Machine

/-! ### Flash and the boot descriptor (R106 to R108) -/

/-- R107: the boot descriptor in force: the valid copy with the higher SEQ. -/
def bootDesc (s : State) : Option BootDesc :=
  match s.arm.desc0, s.arm.desc1 with
  | some a, some b => some (if a.seq < b.seq then b else a)
  | some a, none => some a
  | none, some b => some b
  | none, none => none

/-- R153: ARM_BOOTDESC follows the descriptor in force. -/
def putBootDesc (s : State) : State :=
  match bootDesc s with
  | some d => s.sets [(Reg.ARM_BOOTDESC_PARTIALS, if d.armSlot = 0 then d.partialsA else d.partialsB),
      (Reg.ARM_BOOTDESC_ARM_SLOT, d.armSlot), (Reg.ARM_BOOTDESC_PLINTH_SLOT, d.plinthSlot), (Reg.ARM_BOOTDESC_SEQ, d.seq)]
  | none => s

/-- R107: the descriptor rewritten, with SEQ one higher, into the copy not in force. -/
def writeBootDesc (f : BootDesc → BootDesc) (s : State) : State :=
  let d := (bootDesc s).getD ⟨0, 0, 0, 0, 0⟩
  let n := { f d with seq := d.seq + 1 }
  let firstInForce := s.arm.desc0 == bootDesc s
  putBootDesc <|
    if firstInForce then (s.updArm (fun u => { u with desc1 := some n })) else (s.updArm (fun u => { u with desc0 := some n }))

/-! ### Commands (R121, R122) -/

/-- The status byte that the journal gives an outcome of R120. -/
def codeStatus (c : Nat) : Nat :=
  if c = Code.accepted then St.ok
  else if c = Code.busy then St.busy
  else if c = Code.permission then St.permission
  else if c = Code.state ∨ c = Code.notApplied then St.badState
  else if c = Code.tallyExhausted ∨ c = Code.noStandby ∨ c = Code.tooLarge then St.noResource
  else St.invalid

/-- R143, R134, R711, R827: the outcome of an armature command: journaled, then reported.
PARTIAL raises no EV_ARM_CMD_DONE when its job starts. -/
def armReport (op : Nat) (who : Issuer) (arg param param2 : Nat) (desc : Option (Nat × Nat)) (code : Nat) (event journal : Bool)
    (s : State) : State :=
  let role := if op = 7 then { who with role := Role.owner } else who
  let s := if journal then jCommand 2 ⟨op, role, 0, 0, arg, param, param2, desc⟩ (codeStatus code) s else s
  let s := s.sets [(Reg.ARM_CMD_STATUS_RESULT, code), (Reg.ARM_CMD_STATUS_OP, op), (Reg.ARM_CMD_STATUS_STROKE, s.stroke)]
  if event then raise Ev.armCmdDone 0 (code + op * 2 ^ 8) s else s

/-- R122: whether a job between CHECK and RAMP turns a command away. -/
def jobBlocks (s : State) (op : Nat) : Bool := s.flag Reg.ARM_STATUS_JOB_ACTIVE && !([5, 6, 7, 8].contains op)

/-- R121, R122, R709, R765: an armature command: the refusals all share, then its code and effect. -/
def armCmd (op : Nat) (who : Issuer) (roles : List Role) (param param2 : Nat) (desc : Option (Nat × Nat))
    (act : State → Nat × State) (s : State) : Outcome :=
  let arg := s.get Reg.ARM_CMD_ARG
  .next <|
    if s.jReady who = false then armReport op who arg param param2 desc Code.busy true false s
    else if s.flag Reg.ARM_CMD_BUSY ∨ s.svc.plinth.isSome ∨ jobBlocks s op then armReport op who arg param param2 desc Code.busy true true s
    else if roles.contains who.role = false then armReport op who arg param param2 desc Code.permission true true s
    else
      let (code, s) := act s
      armReport op who arg param param2 desc code true true s

/-- STAGE (R121, R122, R107): an image or a token copied into the staging area. -/
def execStage (who : Issuer) (image : Image) (token : Option Token) (flashOk : Bool) (s : State) : Outcome :=
  let len := if who.role = .platform then image.len else s.get Reg.ARM_STAGE_LEN_LEN
  let addr := if who.role = .platform then 0 else s.get Reg.ARM_STAGE_ADDR_ADDR
  armCmd 1 who [.manager, .platform] addr len none (fun s =>
    if 67108864 < len then (Code.tooLarge, s)
    else if flashOk = false then (Code.flashError, s)
    else match token with
      | some t => (Code.accepted, (s.updArm (fun u => { u with stagedToken := some t, staged := none })))
      | none => (Code.accepted, (s.updArm (fun u => { u with staged := some image, stagedToken := none })))) s

/-- R118: the code of a CHECK of an image, full or partial. -/
def checkCode (s : State) (m : Image) : Nat :=
  let c := if m.kind = 1 then partialCode s m else imageCode s m.kind m
  if c ≠ 0 then c
  else if m.kind = 1 ∧ (maskUnits s m.partMask).any (fun k => s.getI Reg.SVC_UNIT_INFO_STATE k != 0) then Code.busy
  else Code.accepted

/-- The tiles ACTIVE in role STANDBY. -/
def standbyTiles (s : State) : Nat := (availBits s).2

/-- MAQUETTE (R118, R119): a CHECK or SHADOW of the staged image starts. -/
def execMaquette (who : Issuer) (s : State) : Outcome :=
  let level := s.get Reg.ARM_CMD_ARG
  armCmd 2 who [.manager, .platform] (s.get Reg.ARM_MAQ_ADDR_ADDR) 0 none (fun s =>
    match s.arm.staged with
    | none => (Code.badHeader, s)
    | some m =>
      if s.running = false ∨ (level = 1 ∧ s.dev ≠ 5) ∨ 1 < level then (Code.state, s)
      else if level = 1 ∧ standbyTiles s < 2 then (Code.noStandby, s)
      else if s.arm.maq.isSome then (Code.busy, s)
      else (Code.accepted, (s.updArm (fun u => { u with maq := some ⟨level, s.stroke, checkCode s m, m.imageId⟩ })))) s

/-- MAQUETTE_REPORT_DONE (R119, R147): the report is written to ARM_MAQ_ADDR, EV_ARM_MAQ_DONE. -/
def execMaquetteReportDone (findings warnings : Nat) (report : List Byte) (s : State) : Outcome :=
  .next <|
    match s.arm.maq with
    | none => s
    | some q =>
      let head := q.imageId % 2 ^ 64 + q.level % 256 * 2 ^ 64 + q.result % 256 * 2 ^ 72 + findings % 2 ^ 16 * 2 ^ 80
        + warnings % 2 ^ 16 * 2 ^ 96 + q.start % 2 ^ 64 * 2 ^ 128 + s.stroke % 2 ^ 64 * 2 ^ 192
      let s := s.emit (.hostWrite (s.get Reg.HIF_MGR_ACTIVE_AP) (s.get Reg.HIF_MGR_ACTIVE_PF) 0 (s.get Reg.ARM_MAQ_ADDR_ADDR)
        (toBytes 64 head ++ report.take (32 * 1022)))
      let s := s.sets [(Reg.ARM_MAQ_STATUS_DONE, 1), (Reg.ARM_MAQ_STATUS_RESULT, q.result),
        (Reg.ARM_MAQ_STATUS_FINDINGS, findings), (Reg.ARM_MAQ_STATUS_WARNINGS, warnings)]
      raise Ev.armMaqDone 0 0 (s.updArm (fun u => { u with maq := none }))

/-- PARTIAL (R129, R130): a job starts in CHECK, or is refused. -/
def execPartialImage (who : Issuer) (s : State) : Outcome :=
  let arg := s.get Reg.ARM_CMD_ARG
  let rep (c : Nat) (j : Bool) (s : State) : State := armReport 3 who arg 0 0 none c (c != Code.accepted) j s
  .next <|
    if s.jReady who = false then rep Code.busy false s
    else if s.flag Reg.ARM_CMD_BUSY ∨ s.svc.plinth.isSome ∨ jobBlocks s 3 then rep Code.busy true s
    else if who.role ≠ .manager then rep Code.permission true s
    else match s.arm.staged with
      | none => rep Code.badHeader true s
      | some m =>
        if s.running = false ∨ stateAllows s.dev m = false then rep Code.state true s
        else if (maskUnits s m.partMask).any fun k => s.getI Reg.SVC_UNIT_INFO_STATE k != 0
            || (decide (k < 128) && s.flagI Reg.TIL_INFO_DEBUG_HELD k) then rep Code.busy true s
        else
          let s := (s.updArm (fun _ => { s.arm with
            job := some (⟨m, s.stk.boundary⟩ : Job) }))
          let s := jobMask m.partMask 1 (s.set Reg.ARM_JOB_PART_MASK m.partMask)
          jobPhase 1 0 (rep Code.accepted true s)

/-- JOB_CHECK_DONE (R129): the check ends: FAILED, DRAIN, or RAMP for global sections. -/
def execJobCheckDone (s : State) : Outcome :=
  .next <|
    match s.arm.job with
    | none => s
    | some j =>
      if s.get Reg.ARM_JOB_PHASE ≠ 1 then s
      else
        let c := partialCode s j.image
        if c ≠ 0 then jobEnd 7 c s
        else if j.image.partMask = 0 then (jobPhase 5 0 s).defer .jobSwitch
        else (jobPhase 2 0 s).defer (.jobDrain j.image.partMask)

/-- JOB_DRAIN_DONE (R129): all accepted work has finished; HOLD at the next boundary, then APPLY. -/
def execJobDrainDone (s : State) : Outcome :=
  .next (if s.arm.job.isSome ∧ s.get Reg.ARM_JOB_PHASE = 2 then s.defer .jobHold else s)

/-- JOB_DRAIN_TIMEOUT (R129): ARM_DRAIN_LIMIT strokes have elapsed in DRAIN. -/
def execJobDrainTimeout (s : State) : Outcome :=
  .next <|
    match s.arm.job with
    | some j =>
      if s.get Reg.ARM_JOB_PHASE = 2 ∧ j.since + clamp 256 16777216 (s.get Reg.ARM_DRAIN_LIMIT_LIMIT) ≤ s.stk.boundary then
        jobEnd 7 Code.drainTimeout (jobReleaseDrain s)
      else s
    | none => s

/-- R114, R213, R242: a pool that a partial image has changed has no niches, so all of it is free; niche 0's range follows its quota. -/
def poolsFollow (old s : State) : State :=
  let s := (List.range 1024).foldl (fun s i =>
    if s.getI Reg.NCH_POOL_INFO_TOTAL i = old.getI Reg.NCH_POOL_INFO_TOTAL i then s
    else s.setI Reg.NCH_POOL_INFO_FREE i (s.getI Reg.NCH_POOL_INFO_TOTAL i)) s
  s.setI Reg.NCH_STACKED_LEN_MIB 0 (s.getI Reg.NCH_QUOTA_LIMIT (quotaKey 0 12))

/-- R129, R131, R132: at the boundary of the switch the new content takes force, and the units enter PROBATION. -/
def jobSwitch (s : State) : State :=
  match s.arm.job with
  | none => s
  | some j =>
    let s := poolsFollow s (applySections j.image.sections s)
    let s := applyRows (j.image.sections.map (·.type)) s
    let s := s.set Reg.ARM_INFO_PARTIALS (min 15 (s.get Reg.ARM_INFO_PARTIALS + 1))
    let us := maskUnits s j.image.partMask
    let s := us.foldl (fun s k => if s.getI Reg.SVC_UNIT_INFO_STATE k = 2 then unitRejoin (k / 128) (k % 128) (enterProbation (k / 128) (k % 128) s) else s) s
    (List.range 16).foldl (fun s p => partitionCount p s) s

/-- R129: at the boundary the units of the job's partitions enter DRAINING. -/
def jobDrain (mask : Nat) (s : State) : State :=
  if s.arm.job.isNone ∨ s.get Reg.ARM_JOB_PHASE ≠ 2 then s
  else (maskUnits s mask).foldl (fun s k =>
    if s.getI Reg.SVC_UNIT_INFO_STATE k = 0 then enterDraining (k / 128) (k % 128) false true s else s) s

/-- R129: all accepted work has finished: the units are HELD, then APPLY loads them. -/
def jobHold (s : State) : State :=
  if s.arm.job.isNone ∨ s.get Reg.ARM_JOB_PHASE ≠ 2 then s
  else
    let s := jobPhase 3 0 s
    let s := (maskUnits s (s.get Reg.ARM_JOB_PART_MASK)).foldl (fun s k =>
      if s.getI Reg.SVC_UNIT_INFO_STATE k = 1 then enterHeld (k / 128) (k % 128) s else s) s
    jobPhase 4 0 s

/-- JOB_APPLY_DONE (R129, R131): the self-test of the loaded units ends. -/
def execJobApplyDone (pass : Bool) (s : State) : Outcome :=
  .next <|
    match s.arm.job with
    | some j =>
      if s.get Reg.ARM_JOB_PHASE = 4 then
        if pass then (jobPhase 5 0 s).defer .jobSwitch
        else
          let units := maskUnits s j.image.partMask
          let s := units.foldl (fun s k =>
            (s.updSvc (fun u => { u with reloading := Map.put s.svc.reloading k (k % 128 + 1) })).defer (.unitJoin (k / 128) (k % 128))) s
          jobEnd 7 Code.applyFailed s
      else s
    | none => s

/-- JOB_RAMP_DONE (R129, R133): 256 strokes after the switch the job is DONE. -/
def execJobRampDone (s : State) : Outcome :=
  .next <|
    match s.arm.job with
    | some j =>
      if s.get Reg.ARM_JOB_PHASE = 5 then
        let s := s.updArm (fun u => { u with lastDone := some j.image })
        let s := (maskUnits s j.image.partMask).foldl (fun s k =>
          if s.getI Reg.SVC_UNIT_INFO_STATE k = 3 then
            setUnitState (k / 128) (k % 128) 0 (s.updSvc (fun u => { u with probation := Map.del s.svc.probation k }))
          else s) s
        jobEnd 6 Code.accepted s
      else s
    | none => s

/-- ARM_JOB_READ (R144): a read that finds DONE or FAILED returns the job to IDLE. -/
def execArmJobRead (who : Issuer) (s : State) : Outcome :=
  .next <| readGate who 0x200070 s fun s =>
    let ph := s.get Reg.ARM_JOB_PHASE
    let v := ph * 2 ^ 60 + s.get Reg.ARM_JOB_RESULT * 2 ^ 52 + s.get Reg.ARM_JOB_PART_MASK * 2 ^ 32 + s.get Reg.ARM_JOB_STROKES
    reply who v (if (ph = 6 ∨ ph = 7) ∧ who.role = .manager then s.set Reg.ARM_JOB_PHASE 0 else s)

/-- R108: where a further partial would start in a slot, in bytes. -/
def slotUsed (l : List Image) : Nat := l.foldl (fun a m => (a + m.len + 65535) / 65536 * 65536) 0

/-- PERSIST (R121, R122, R133). -/
def execPersist (who : Issuer) (flashOk : Bool) (s : State) : Outcome :=
  armCmd 4 who [.manager] 0 0 none (fun s =>
    match s.arm.lastDone, s.arm.staged with
    | some m, some g =>
      if m ≠ g then (Code.notApplied, s)
      else
        let slot := s.get Reg.ARM_BOOTDESC_ARM_SLOT
        let imgs := (Map.find? s.arm.armSlots slot).getD []
        if 16 ≤ imgs.length ∨ 67108864 < slotUsed imgs + m.len then (Code.tooLarge, s)
        else if flashOk = false then (Code.flashError, s)
        else
          let s := s.updArm (fun u => { u with armSlots := Map.put s.arm.armSlots slot (imgs ++ [m]) })
          (Code.accepted, writeBootDesc (fun d => if slot = 0 then { d with partialsA := d.partialsA + 1 }
                                                 else { d with partialsB := d.partialsB + 1 }) s)
    | _, _ => (Code.notApplied, s)) s

/-- FLASH_WRITE (R121, R112): the staged armature or plinth image written to the inactive slot. -/
def execFlashWrite (who : Issuer) (flashOk : Bool) (s : State) : Outcome :=
  let arg := s.get Reg.ARM_CMD_ARG
  armCmd 5 who [.manager, .platform] 0 0 none (fun s =>
    match s.arm.staged with
    | none => (Code.badHeader, s)
    | some m =>
      let kind := if arg = 0 then 0 else 2
      let room := if arg = 0 then 67108864 else 16777216
      if 1 < arg then (Code.badHeader, s)
      else if room < m.len then (Code.tooLarge, s)
      else
        let c := imageCode26 s kind room m
        if c ≠ 0 then (c, s)
        else if flashOk = false then (Code.flashError, s)
        else if arg = 0 then
          let slot := 1 - s.get Reg.ARM_BOOTDESC_ARM_SLOT
          let s := s.updArm (fun u => { u with armSlots := Map.put s.arm.armSlots slot [m] })
          (Code.accepted, writeBootDesc (fun d => if slot = 0 then { d with partialsA := 0 } else { d with partialsB := 0 }) s)
        else
          let slot := 1 - s.get Reg.ARM_BOOTDESC_PLINTH_SLOT
          (Code.accepted, (s.updArm (fun u => { u with plinthSlots := Map.put s.arm.plinthSlots slot m })))) s

/-- ACTIVATE (R121): a slot selected in the boot descriptor. -/
def execActivate (who : Issuer) (arg : Nat) (flashOk : Bool) (s : State) : Outcome :=
  armCmd 6 who [.platform] 0 0 none (fun s =>
    if flashOk = false then (Code.flashError, s)
    else (Code.accepted, writeBootDesc (fun d => if bit arg 1 = 0 then { d with armSlot := bit arg 0 }
                                                else { d with plinthSlot := bit arg 0 }) s)) (s.set Reg.ARM_CMD_ARG arg)

/-- CANCEL (R121, R129): a job in CHECK or DRAIN ends as FAILED with CANCELLED. -/
def execCancel (who : Issuer) (s : State) : Outcome :=
  armCmd 8 who [.manager] 0 0 none (fun s =>
    let ph := s.get Reg.ARM_JOB_PHASE
    if s.arm.job.isSome ∧ (ph = 1 ∨ ph = 2) then (Code.accepted, jobEnd 7 Code.cancelled (jobReleaseDrain s))
    else (Code.state, s)) s

/-- COMMAND_UNDEFINED_OP (R828): an unlisted OP starts nothing and is journaled as refused. -/
def execCommandUndefinedOp (who : Issuer) (offset op : Nat) (s : State) : Outcome :=
  let blk (b : CmdBlk) : State := cmdStart b (cmdOf op who 0 0 0) true (fun s => .done St.invalid 0 s) s
  .next <| regGate who offset s fun s =>
    if offset = 0x200060 then
      if s.flag Reg.ARM_CMD_BUSY then armReport op who 0 0 0 none Code.busy true true s
      else armReport op who 0 0 0 none 0 true (s.jReady who) s
    else if offset = 0x400000 then blk Blk.nch
    else if offset = 0x500000 then blk Blk.rng
    else if offset = 0xA00000 then blk Blk.prs
    else if offset = 0xB00000 then blk Blk.tbl
    else if offset = 0xC00000 then blk Blk.sch
    else if offset = 0xE00000 then blk Blk.nvs
    else if offset = 0x1000000 then blk Blk.fab
    else if offset = 0x1200030 then blk Blk.jnl
    else if offset = 0x1400000 then blk Blk.svc
    else if offset = 0x1500000 then blk Blk.pwr
    else s

/-! ### Tokens (R123 to R127) -/

/-- R123: the staged token is presented: the checks of R123, then its effect; the nonce is
spent whatever comes of it. -/
def tokenCmd (kind : Nat) (who : Issuer) (act : Token → State → Nat × State) (s : State) : Outcome :=
  let desc := match s.arm.stagedToken with
    | some t => some (16, t.bytes % 2 ^ 128)
    | none => none
  armCmd 7 who [.manager, .platform] 0 0 desc (fun s =>
    match s.arm.stagedToken with
    | none => (Code.tokenInvalid, s)
    | some t =>
      let ok := byteField t.bytes 0 1 = 0x4F54 ∧ byteField t.bytes 2 2 = kind ∧ byteField t.bytes 4 11 = s.get Reg.ARM_DEVICE_UID_VALUE
        ∧ byteField t.bytes 12 19 = s.get Reg.ARM_NONCE_VALUE ∧ sigsAccepted s t.sigs = true
      let (code, s) := if ok then act t s else (Code.tokenInvalid, s)
      let (n, s) := s.draw
      (code, s.set Reg.ARM_NONCE_VALUE n)) s

/-- TOKEN_CONSUME_STEP (R113, R125): one step of tally 1, 2 or 5. -/
def execTokenConsumeStep (who : Issuer) (s : State) : Outcome :=
  tokenCmd 1 who (fun t s =>
    let a := byteField t.bytes 3 3
    if a ≠ 1 ∧ a ≠ 2 ∧ a ≠ 5 then (Code.tokenInvalid, s)
    else if s.getI Reg.ARM_TALLY_REMAINING a = 0 then (Code.tallyExhausted, s)
    else
      let s := consumeStep a 0 0 0 s
      let n := s.getI Reg.ARM_TALLY_CONSUMED a
      (Code.accepted,
        if a = 1 then s.set Reg.ARM_FLOOR_PLINTH n
        else if a = 2 then s.set Reg.ARM_FLOOR_ARMATURE n
        else disableDebug s)) s

/-- OWNERSHIP_TRANSFER (R124): the new key hash, effective at the next BOOT; one step of tally 0. -/
def execOwnershipTransfer (who : Issuer) (s : State) : Outcome :=
  tokenCmd 2 who (fun t s =>
    if s.getI Reg.ARM_TALLY_REMAINING 0 = 0 then (Code.tallyExhausted, s)
    else
      let s := consumeStep 0 0 0 0 s
      (Code.accepted, (s.updArm (fun u => { u with newKey := some (byteField t.bytes 20 67) })))) s

/-- DEBUG_UNLOCK (R354): the debug modules within the scope open until the token expires. -/
def execDebugUnlock (who : Issuer) (s : State) : Outcome :=
  tokenCmd 3 who (fun t s =>
    if s.arm.debugDisabled then (Code.tokenInvalid, s)
    else (Code.accepted, openDebug (byteField t.bytes 20 67) s)) s

/-- TALLY_GRANT (R126): steps of tally 3 or 4 granted to PLATFORM or DEVICE. -/
def execTallyGrant (who : Issuer) (s : State) : Outcome :=
  tokenCmd 4 who (fun t s =>
    let a := byteField t.bytes 3 3
    let g := byteField t.bytes 20 20
    let n := byteField t.bytes 21 22
    if (a ≠ 3 ∧ a ≠ 4) ∨ (g ≠ 1 ∧ g ≠ 4) then (Code.tokenInvalid, s)
    else
      let f := if g = 1 then Reg.ARM_TALLY_GRANT_PLATFORM else Reg.ARM_TALLY_GRANT_DEVICE
      let was := s.getI f a
      let now := min (min 1023 (s.getI Reg.ARM_TALLY_REMAINING a)) (was + n)
      let s := s.setI f a now
      (Code.accepted, jEntry ⟨0, 0, 0x02E1, .owner, 0, 0, 0, who.origin, who.ap, who.id, 0,
        n % 2 ^ 16 * 2 ^ 80 + (now - was) % 2 ^ 16 * 2 ^ 64⟩ s)) s

/-- DEBUG_UNLOCK_EXPIRY (R354): the unlock time has passed; halted threads resume at the next boundary. -/
def execDebugUnlockExpiry (s : State) : Outcome :=
  .next (match s.arm.unlock with
    | some _ => (closeDebug (s.updArm (fun u => { u with unlock := none }))).defer .debugResume
    | none => s)

/-! ### Load at boot (R109, R110, R761) -/

/-- R110: the persisted partials applied in order until one fails. -/
def applyPartials (i : Nat) (l : List Image) (s : State) : State :=
  match l with
  | [] => s
  | m :: rest =>
    let c := imageCode26 s 1 67108864 m
    let c := if c ≠ 0 then c else if m.baseDigest ≠ effDigest s.arm.inForce then Code.staleBase else imageCode s 1 m
    if c = 0 then
      applyPartials (i + 1) rest ((applySections m.sections s).set Reg.ARM_INFO_PARTIALS (min 15 (i + 1)))
    else
      let s := s.sets [(Reg.ARM_INFO_PARTIAL_FAULT, 1), (Reg.ARM_LOAD_STATUS_PARTIAL_INDEX, i), (Reg.ARM_LOAD_STATUS_PARTIAL_CODE, c)]
      patina 0x0203 Sev.error (i % 16 * 2 ^ 8 + c) s

/-- R761: the units that tally 3 records hold RETIRED. -/
def retiredUnits (s : State) : List Nat :=
  (List.range 1024).filterMap fun i =>
    if s.flagI Reg.ARM_FUSE_REC_DATA_VALID i && s.getI Reg.ARM_FUSE_REC_DATA_TALLY i == 3 then
      some (unitKey (s.getI Reg.ARM_FUSE_REC_DATA_ARG i) (s.getI Reg.ARM_FUSE_REC_DATA_UNIT i))
    else none

/-- R761: a STANDBY tile is free for each retired tile to which an image gives another role. -/
def retiredFit (s : State) (m : Image) : Bool :=
  let role := putSecFields (m.sections.flatMap (·.fields)) s
  let rs := retiredUnits s
  let need := (rs.filter fun k => decide (k < 96) && decide (role.getI Reg.TIL_INFO_ROLE k < 2)).length
  let free := ((List.range 96).filter fun t => role.getI Reg.TIL_INFO_ROLE t == 2 && !rs.contains t).length
  decide (need ≤ free)

/-- R109: the code of the image in a slot; an empty slot fails its header check. -/
def slotCode (s : State) (slot : Nat) : Nat :=
  match (Map.find? s.arm.armSlots slot).getD [] with
  | [] => Code.badHeader
  | m :: _ =>
    let c := imageCode s 0 m
    if c = 0 ∧ retiredFit s m = false then Code.inconsistent else c

/-- R109 step 9, R155, R773: the units as an armature that passed leaves them. -/
def configureUnits (s : State) : State :=
  let retired := retiredUnits s
  let keys := (List.range 7).flatMap fun kind => (List.range (unitCount kind)).map fun i => unitKey kind i
  let s := keys.foldl (fun s k =>
    let s := s.setI Reg.SVC_UNIT_INFO_STATE k (if retired.contains k then 4 else 0)
    if k < 128 then
      let out := retired.contains k || s.getI Reg.TIL_INFO_ROLE k == 3
      let s := s.setI Reg.TIL_INFO_UNIT_STATE k (if retired.contains k then 4 else 0)
      s.setI Reg.SVC_UNIT_INFO_LOGICAL k (if out || s.getI Reg.TIL_INFO_ROLE k == 2 then 0xFF else k)
    else s) s
  let given := keys.map fun k => (k, (Map.find? s.arm.unitPart k).getD 0)
  let used := keys.filter fun k => !(k < 128 && s.getI Reg.TIL_INFO_ROLE k == 3)
  let s := (s.updArm (fun u => { u with unitPart := given })).updSvc (fun u => { u with used := used })
  let s := (retired.filter (· < 128)).foldl (fun s k =>
    if s.getI Reg.TIL_INFO_ROLE k = 2 ∨ s.getI Reg.TIL_INFO_ROLE k = 3 then s
    else match nearestStandby s k with
      | some u =>
        (s.setI Reg.SVC_UNIT_INFO_LOGICAL u k).setI Reg.SVC_UNIT_INFO_LOGICAL k 0xFF
      | none => s) s
  (List.range 16).foldl (fun s p =>
    let s := s.setI Reg.ARM_PART_DEFINED p (if p = 0 ∨ bit (s.get Reg.ARM_INFO_PART_DEFINED) p = 1 then 1 else 0)
    partitionCount p s) s

/-- R109: a slot that passed is configured, its partials applied, and BRINGUP entered. -/
def bootFrom (slot : Nat) (fallback : Bool) (s : State) : State :=
  match (Map.find? s.arm.armSlots slot).getD [] with
  | [] => s
  | m :: partials =>
    let was := [s.getI Reg.HIF_CTL_MODE 0, s.getI Reg.HIF_CTL_MODE 1]
    let s := s.updArm (fun u => { u with inForce := [], unitPart := [], loaded := true, lastDone := none })
    let s := s.sets [(Reg.ARM_ID_IMAGE_ID, m.imageId), (Reg.ARM_INFO_SVN, m.svn), (Reg.ARM_INFO_FORMAT, m.format),
      (Reg.ARM_INFO_FALLBACK, if fallback then 1 else 0), (Reg.ARM_INFO_SLOT, slot), (Reg.ARM_INFO_PARTIALS, 0),
      (Reg.ARM_INFO_PARTIAL_FAULT, 0)]
    let s := applySections m.sections s
    let s := applyPartials 0 partials s
    let parts := s.arm.unitPart.foldl (fun a e => a ||| 2 ^ e.2) 1
    let s := configureUnits (s.set Reg.ARM_INFO_PART_DEFINED parts)
    let s := configureBlocks was s
    let s := s.updPwr (fun u => { u with nextStep := 1 })
    let s := enterState 3 0 s
    (s.updStk (fun u => { u with counting := true }))

/-- ARMATURE_BOOT_LOAD (R109, R110, R761, R725): the selected slot, else the other, else SAFE. -/
def execArmatureBootLoad (s : State) : Outcome :=
  .next <|
    if s.dev ≠ 2 then s
    else
      let s := putBootDesc s
      let sel := s.get Reg.ARM_BOOTDESC_ARM_SLOT
      let code (slot c : Nat) (s : State) : State :=
        s.set (if slot = 0 then Reg.ARM_LOAD_STATUS_SLOT_A else Reg.ARM_LOAD_STATUS_SLOT_B) c
      let plinthOk := match Map.find? s.arm.plinthSlots (s.get Reg.ARM_BOOTDESC_PLINTH_SLOT) with
        | some m => imageCode26 s 2 16777216 m == 0
        | none => match Map.find? s.arm.plinthSlots (1 - s.get Reg.ARM_BOOTDESC_PLINTH_SLOT) with
          | some m => imageCode26 s 2 16777216 m == 0
          | none => false
      if plinthOk = false then enterSafe 0 s
      else
        let c1 := slotCode s sel
        if c1 = 0 then bootFrom sel false (code sel Code.accepted s)
        else
          let s := patina 0x0201 Sev.error (sel * 2 ^ 8 + c1) (code sel c1 s)
          let c2 := slotCode s (1 - sel)
          if c2 = 0 then bootFrom (1 - sel) true (code (1 - sel) Code.accepted s)
          else
            let s := patina 0x0201 Sev.error ((1 - sel) * 2 ^ 8 + c2) (code (1 - sel) c2 s)
            let a := if sel = 0 then c1 else c2
            let b := if sel = 0 then c2 else c1
            enterSafe 0x0202 (patina 0x0202 Sev.fatal (a * 2 ^ 8 + b) s)

end Sys2Proof.Machine
end

