-- ==== Sys2Proof/Machine/Power.lean ====
section
/-!
DEFINITION. Start-up, power sequencing and power states (R780 to R808): supplies, power
steps, the device-state commands, temperature and power limits, device standby.
-/
namespace Sys2Proof.Machine

/-- The PWR_CMD commands and their roles (R797). -/
def pwrCmd (op : Nat) (who : Issuer) (roles : List Role) (act : State → CmdRes) (s : State) : Outcome :=
  .next (cmdStart Blk.pwr (cmdOf op who 0 0 0) (roles.contains who.role) act s)

/-- AUX_POWER_PRESENT (R16): OFF to AUX; the plinth starts from boot ROM. -/
def execAuxPowerPresent (s : State) : Outcome :=
  .next <|
    if s.pwr.aux then s
    else (s.updPwr (fun u => { u with aux := true })).set Reg.IDN_STATE_STATE 1

/-- AUX_POWER_LOST (R16, R126, R708, R721): OFF; grants, tails, patina log, epoch and straps are lost. -/
def execAuxPowerLost (s : State) : Outcome :=
  .next <|
    let lost := loseMain s
    let r := State.reset
    let fuse (k : Nat) : Bool :=
      let off := k / 2 ^ 32 / 128
      (0x200048 ≤ off && off < 0x200050) || (0x200098 ≤ off && off < 0x2000E0) || (0x2000F0 ≤ off && off < 0x200200)
    let s1 : State := { lost with
      regs := lost.regs.filter (fun p => fuse p.1), jnl := r.jnl, pat := r.pat
      pwr := { r.pwr with aux := false } }
    let s1 := (List.range 6).foldl (fun t i => (t.setI Reg.ARM_TALLY_GRANT_DEVICE i 0).setI Reg.ARM_TALLY_GRANT_PLATFORM i 0) s1
    s1.set Reg.IDN_STATE_STATE 0

/-- R781: main power is requested: MAIN_EN asserts. -/
def requestMain (by_ : Option Issuer) (s : State) : State :=
  (s.updPwr (fun u => { u with mainEn := true, pgFailed := false, poweredBy := by_ }))

/-- STRAP_SAMPLE (R823, R781): the straps are held; AUTO_ON requests main power. -/
def execStrapSample (autoOn : Bool) (mgmtAddr : Nat) (rgmiiEn flashMode test : Bool) (s : State) : Outcome :=
  .next <|
    let s := s.updPwr (fun u => { u with straps := some ⟨autoOn, mgmtAddr, rgmiiEn, if flashMode then 1 else 0, test⟩ })
    if autoOn ∧ s.dev = 1 ∧ s.pwr.mainEn = false then requestMain none s else s

/-- POWER_ON (R781): refused while a sensor reads at or above T_CRIT; R827: recorded when accepted. -/
def execPowerOn (eid : Nat) (hot : Int) (s : State) : Outcome :=
  .next <|
    if s.dev ≠ 1 ∨ (s.get Reg.PWR_THERM_T_CRIT : Int) ≤ hot then s.emit (.mctp eid St.badState [])
    else (requestMain (some ⟨.platform, .mctp, 0, eid⟩) s).emit (.mctp eid St.ok [])

/-- R708: the journal of a new epoch: the epoch, EPOCH_START, and the POWER_ON that began it. -/
def startEpoch (s : State) : State :=
  let last := s.jnl.lastEpoch
  let (draw, s) := if last = 0 then s.draw else (0, s)
  let e := if last = 0 then (if draw % 2 ^ 32 = 0 then 1 else draw % 2 ^ 32)
           else if (last + 1) % 2 ^ 32 = 0 then 1 else (last + 1) % 2 ^ 32
  let held := if s.flag Reg.JNL_STATUS_PREV_VALID then 1 else 0
  let s := s.sets [(Reg.JNL_EPOCH_EPOCH, e), (Reg.JNL_HEAD_SEQ, 0), (Reg.JNL_OLDEST_SEQ, 0), (Reg.JNL_CKPT_SEQ, 0)]
  let s := s.updJnl (fun u => { u with log := [], lagRaised := false, lastEpoch := e, chain := Config.sha384 4 e % 2 ^ 192 })
  let s := jDevice 0x1001 0 0 [last + s.jnl.prevHead % 2 ^ 64 * 2 ^ 32 + held * 2 ^ 96] s
  match s.pwr.poweredBy with
  | some who => jEntry ⟨0, 0, 0x1322, who.role, 0, 0, 0, who.origin, who.ap, who.id, 0, 0⟩ s
  | none => s

/-- R549: the Turelm epoch takes its value at a power-up; R123: a new nonce at every BOOT. -/
def bootDraws (s : State) : State :=
  let (n, s) := s.draw
  s.set Reg.ARM_NONCE_VALUE n

/-- R124: a new owner key takes effect at BOOT. -/
def bootKey (s : State) : State :=
  match s.arm.newKey with
  | some k => s.updArm (fun u => { u with keyHash := k, newKey := none })
  | none => s

/-- MAIN_PG_ASSERTED (R781, R783): BOOT; step B1: the uncore is ungated and the PHC starts. -/
def execMainPgAsserted (s : State) : Outcome :=
  .next <|
    if s.pwr.mainEn = false ∨ s.dev ≠ 1 then (s.updPwr (fun u => { u with mainPg := true }))
    else
      let s := s.updPwr (fun u => { u with mainPg := true, b2 := false, nextStep := 1, waitSince := none })
      let s := s.updStk (fun u => { u with phcRunning := true, phcNs := 0 })
      let s := bootKey (bootDraws (startEpoch s))
      let (ep, s) := s.draw
      enterState 2 0 (s.set Reg.TLT_CFG_EPOCH ep)

/-- MAIN_PG_TIMEOUT (R781): MAIN_EN deasserts, the device stays in AUX, patina 0x1A80. -/
def execMainPgTimeout (s : State) : Outcome :=
  .next <|
    if s.pwr.mainEn = true ∧ s.pwr.mainPg = false then
      patina 0x1A80 Sev.error 0 (s.updPwr (fun u => { u with mainEn := false, pgFailed := true }))
    else s

/-- MAIN_PG_DEASSERTED (R781): every domain is gated, the device goes to AUX, patina 0x1A81. -/
def execMainPgDeasserted (s : State) : Outcome :=
  .next <|
    if s.dev ≤ 1 then (s.updPwr (fun u => { u with mainPg := false }))
    else
      let s := patina 0x1A81 Sev.error s.dev s
      let s := if s.pwr.offJournaled then s.set Reg.IDN_STATE_STATE 1 else enterState 1 0 s
      loseMain (jobAbandon s)

/-- POWER_STEP_B2 (R783, R788): the host controllers are ungated; links with PERST deasserted train. -/
def execPowerStepB2 (s : State) : Outcome :=
  .next <|
    if 2 ≤ s.dev ∧ s.pwr.b2 = false then trainLinks (trainMode (s.updPwr (fun u => { u with b2 := true }))) else s

/-- R786: every unit the armature uses is ACTIVE, directly or through its substitute or spare. -/
def unitsReady (s : State) : Bool :=
  s.svc.used.all fun k =>
    s.getI Reg.SVC_UNIT_INFO_STATE k == 0 ||
    (decide (k < 128) && (List.range 96).any fun t =>
      s.getI Reg.SVC_UNIT_INFO_LOGICAL (unitKey 0 t) == k % 128 && s.unitState 0 t == 0) ||
    (Map.find? s.svc.replaced k).isSome

/-- R786: READY once step 18 is complete, every self-test has ended and every unit is ACTIVE. -/
def checkReady (s : State) : State :=
  if s.dev = 3 ∧ s.get Reg.PWR_SEQ_STEP = 18 ∧ unitsReady s = true ∧ s.flag Reg.PWR_SEQ_READY = false then
    raise Ev.pwrReady 0 0 ((s.set Reg.PWR_SEQ_READY 1).set Reg.PWR_STATUS_READY 1)
  else s

/-- R709: after step 4 the region is trained and the held entries are copied to it. -/
def regionReady (s : State) : State := s.set Reg.JNL_STATUS_REGION_READY 1

/-- R785: a unit that fails its self-test in its step is a unit failure. -/
def stepFailures (failed : List Nat) (s : State) : State :=
  failed.foldl (fun s k => unitFailed (k / 128) (k % 128) 0x1281 s) s
where
  /-- R748: a unit failure, with or without AUTO_HOLD. -/
  unitFailed (kind index code : Nat) (s : State) : State :=
    let s := patina 0x1281 Sev.error (kind * 2 ^ 60 + index * 2 ^ 53) s
    let s := s.setI Reg.SVC_UNIT_INFO_CAUSE (unitKey kind index) (code % 256)
    let s := s.setI Reg.SVC_UNIT_INFO_TEST (unitKey kind index) 3
    if s.flag Reg.SVC_CTL_AUTO_HOLD then
      let s := patina 0x1280 Sev.error (kind * 2 ^ 60 + index * 2 ^ 53 + code) s
      forceHeld kind index s
    else raise Ev.svcUnit (unitKey kind index) (kind + index * 2 ^ 8 + s.unitState kind index * 2 ^ 16) s

/-- R332, R783: the threads of a tile row start once its step has passed. -/
def startRow (r : Nat) (s : State) : State :=
  (List.range 96).foldl (fun s t => if s.servingTile t / 12 = r ∧ s.tileServes t then startTile t s else s) s

/-- R785: substitution of the tiles that failed waits until step 12. -/
def lateSubstitutes (s : State) : State :=
  (List.range 96).foldl (fun s t => if s.unitState 0 t = 2 then autoSubstitute t false s else s) s

/-- POWER_STEP (R783, R784, R785, R709, R786): the next domain group is ungated and tested once STEP_STROKES have passed
since the step before, or the step waits for its rail. `repairs` is what a stack reports remaining (R154). -/
def execPowerStep (regulated : Bool) (failed : List Nat) (repairs : Nat) (s : State) : Outcome :=
  .next <|
    let n := s.pwr.nextStep
    if (s.dev ≠ 3 ∧ s.get Reg.PWR_STATE_PSTATE ≠ 3) ∨ n = 0 ∨ 18 < n then checkReady s
    else if 1 < n ∧ s.stk.boundary < s.pwr.steppedAt + s.get Reg.PWR_SEQ_STEP_STROKES then s
    else if regulated = false ∨ s.pwr.mainPg = false then
      let s := s.set Reg.PWR_SEQ_WAITING 1
      (s.updPwr (fun u => { u with waitSince := some (s.pwr.waitSince.getD s.stk.boundary) }))
    else
      let s := s.updPwr (fun u => { u with nextStep := n + 1, steppedAt := s.stk.boundary, waitSince := none })
      let s := (s.set Reg.PWR_SEQ_WAITING 0).set Reg.PWR_SEQ_STEP n
      if s.dev = 3 then
        let s := if n ≤ 4 then
            let s := s.setI Reg.ARM_PPR_REMAINING (n - 1) (min repairs (473 - (List.range 4).foldl (fun a k => a + s.getI Reg.ARM_PPR_DONE k) 0))
            s.setI Reg.ARM_TALLY_REMAINING 4
              (min ((List.range 4).foldl (fun a k => a + s.getI Reg.ARM_PPR_REMAINING k) 0)
                (473 - (List.range 4).foldl (fun a k => a + s.getI Reg.ARM_PPR_DONE k) 0))
          else s
        let s := if n = 4 then regionReady s else s
        let s := stepFailures failed s
        let s := if 5 ≤ n ∧ n ≤ 12 then startRow (n - 5) s else s
        checkReady (if n = 12 then lateSubstitutes s else s)
      else if n = 18 then
        let s := raise Ev.pwrPstate 0 0 ((s.set Reg.PWR_STATE_PSTATE 0).set Reg.PWR_STATUS_PSTATE 1)
        resumeFromP1 s
      else s

/-- POWER_STEP_WAIT_EXCEEDED (R784): 65 536 strokes of waiting: uncontainable, pinned patina 0x1381. -/
def execPowerStepWaitExceeded (s : State) : Outcome :=
  .next <|
    match s.pwr.waitSince with
    | some w =>
      if w + 65536 ≤ s.stk.boundary then enterSafe 0x1381 (patina 0x1381 Sev.fatal s.pwr.nextStep s) else s
    | none => s

/-- ENTER_SERVICE (R797, R786, R400): BRINGUP to SERVICE once READY is set. -/
def execEnterService (who : Issuer) (s : State) : Outcome :=
  pwrCmd 1 who [.manager] (fun s =>
    let s := checkReady s
    if s.dev = 3 ∧ s.flag Reg.PWR_SEQ_READY then .done St.ok 0 (enterState 4 0 (stageDiscard s))
    else .done St.badState 0 s) s

/-- TEST_ENTER (R16, R797): SERVICE to TEST; the loops freeze. -/
def execTestEnter (who : Issuer) (s : State) : Outcome :=
  pwrCmd 2 who [.manager, .platform] (fun s =>
    if s.dev = 4 ∧ s.get Reg.PWR_STATE_PSTATE = 0 then .done St.ok 0 (jobAbortedState (enterState 5 0 s))
    else .done St.badState 0 s) s

/-- TEST_EXIT (R16, R797, R400): TEST to SERVICE; the loops resume. -/
def execTestExit (who : Issuer) (s : State) : Outcome :=
  pwrCmd 3 who [.manager, .platform] (fun s =>
    if s.dev = 5 then .done St.ok 0 (jobAbortedState (enterState 4 0 (stageDiscard s))) else .done St.badState 0 s) s

/-- R795: the preconditions of STANDBY. -/
def standbyAllowed (s : State) : Bool :=
  s.dev == 4 && s.get Reg.PWR_STATE_PSTATE == 0 && allFunctionsAsleep s
  && !s.flag Reg.HIF_CXL_HDM0_COMMITTED && !s.flag Reg.HIF_CXL_HDM1_COMMITTED && noSegmentOpen s
  && !s.flag Reg.FAB_CFG_ENABLE && s.arm.job.isNone

/-- STANDBY (R795): P1 at the next boundary. -/
def execStandby (who : Issuer) (s : State) : Outcome :=
  pwrCmd 4 who [.platform] (fun s =>
    if standbyAllowed s then .done St.ok 0 ((s.set Reg.PWR_STATE_PSTATE 1).defer .enterP1)
    else .done St.badState 0 s) s

/-- R796: P1 ends; the domains return in step order. -/
def leaveP1 (s : State) : State :=
  if s.get Reg.PWR_STATE_PSTATE = 2 ∨ s.get Reg.PWR_STATE_PSTATE = 1 then
    let s := s.set Reg.PWR_STATE_PSTATE 3
    ((s.updPwr (fun u => { u with nextStep := 1 })).updDeferred (fun _ => s.deferred.filter fun p => p.2 != .enterP1))
  else s

/-- WAKE (R796). -/
def execWake (who : Issuer) (s : State) : Outcome :=
  pwrCmd 5 who [.platform] (fun s =>
    if s.get Reg.PWR_STATE_PSTATE = 2 then .done St.ok 0 (leaveP1 s) else .done St.badState 0 s) s

/-- POWER_OFF (R782): the move to AUX is journaled; MAIN_EN falls 1 ms after the next boundary. -/
def execPowerOff (who : Issuer) (s : State) : Outcome :=
  pwrCmd 6 who [.platform] (fun s =>
    if s.dev ≤ 1 then .done St.badState 0 s
    else
      let s := jDevice 0x1003 0 0 [s.dev + 1 * 256] s
      .done St.ok 0 (s.updPwr (fun u => { u with offAt := some s.dueBoundary, offJournaled := true }))) s

/-- POWER_OFF_MAIN_EN_DROP (R782): MAIN_EN is deasserted. -/
def execPowerOffMainEnDrop (s : State) : Outcome :=
  .next <|
    match s.pwr.offAt with
    | some _ => s.updPwr (fun u => { u with mainEn := false, offAt := none })
    | none => s

/-- SAFE (R797, R762): the datapath stops; pinned patina. -/
def execSafe (who : Issuer) (s : State) : Outcome :=
  pwrCmd 7 who [.platform] (fun s =>
    if 2 ≤ s.dev ∧ s.dev ≤ 6 then .done St.ok 0 (enterSafe 0 s) else .done St.badState 0 s) s

/-- RESTART (R16, R116, R708, R790): SAFE to BOOT, the epoch kept, RESTART written. -/
def execRestart (who : Issuer) (s : State) : Outcome :=
  pwrCmd 8 who [.platform] (fun s =>
    if s.dev = 7 ∧ s.pwr.mainPg = true ∧ s.pwr.thermtrip = false then
      let s := jDevice 0x1002 0 0 [0] s
      .done St.ok 0 (enterState 2 0 (restartBlocks (bootKey (bootDraws s))))
    else .done St.badState 0 s) s

/-- SAFE_ENTRY (R762): an uncontainable error stops the datapath; pinned patina 0x1800. -/
def execSafeEntry (cause : Nat) (s : State) : Outcome :=
  .next (if 2 ≤ s.dev ∧ s.dev ≤ 6 then enterSafe cause s else s)

/-- R792: the throttle level follows the demands; a rise counts, level 3 writes patina 0x1382. -/
def setLevel (temp power : Nat) (s : State) : State :=
  let old := s.get Reg.PWR_STATE_LEVEL
  let new := max temp power
  let s := s.sets [(Reg.PWR_STATE_TEMP_LEVEL, temp), (Reg.PWR_STATE_POWER_LEVEL, power), (Reg.PWR_STATE_LEVEL, new)]
  if old < new then
    let s := count Reg.PWR_THROTTLE_CNT_COUNT s
    let s := if new = 3 then patina 0x1382 Sev.warning ((if temp = 3 then 1 else 0) + (if power = 3 then 2 else 0)) s else s
    if s.flag Reg.PWR_STATUS_THROTTLE then s
    else raise Ev.pwrThrottle 0 new (s.set Reg.PWR_STATUS_THROTTLE 1)
  else s

/-- R792, R803, R804: the readings and demands of one stroke. -/
def throttleUpdate (env : Env) (s : State) : State :=
  let old := s.get Reg.PWR_STATE_TEMP_LEVEL
  let t : Int := s.get Reg.PWR_THERM_T_THROTTLE
  let now := tempDemand t env.hot
  let entry : Int := t + 3 * ((old : Int) - 1)
  let cool := decide (0 < old) && decide (env.hot ≤ entry - (s.get Reg.PWR_THERM_HYST : Int))
  let coolNs := if old < now then 0 else if cool then s.pwr.coolNs + s.period else 0
  let temp := if old < now then now else if 1000000 ≤ coolNs then old - 1 else old
  let powerNs := s.pwr.powerNs + s.period
  let ms := decide (1000000 ≤ powerNs)
  let cap := s.eff Reg.PWR_CAP_WATTS
  let p := s.get Reg.PWR_STATE_POWER_LEVEL
  let power := if ms then
      (if cap < env.watts then min 3 (p + 1) else if env.watts * 100 < cap * 95 then p - 1 else p)
    else p
  let excess := if ms then (if cap < env.watts then s.pwr.overMs + 1 else 0) else s.pwr.overMs
  let peak := max (signed 8 (s.get Reg.PWR_TEMP_PEAK)) env.hot
  let s := s.updPwr (fun u => { u with coolNs := if 1000000 ≤ coolNs then 0 else coolNs, powerNs := if ms then powerNs - 1000000 else powerNs, overMs := excess, hot := env.hot })
  let s := s.sets [(Reg.PWR_TEMP_HOTTEST, unsigned 8 env.hot), (Reg.PWR_TEMP_HOT_SENSOR, env.sensor),
    (Reg.PWR_TEMP_DIODE0, unsigned 8 env.diode0), (Reg.PWR_TEMP_DIODE1, unsigned 8 env.diode1),
    (Reg.PWR_TEMP_PEAK, unsigned 8 peak), (Reg.PWR_POWER_AVG_W, env.watts),
    (Reg.PWR_POWER_PEAK_W, max (s.get Reg.PWR_POWER_PEAK_W) env.watts)]
  nvTemperature (setLevel temp power s)

/-- T_CRIT_REACHED (R793): level 3, CRIT, patina 0x1380; ALERT_N follows CRIT. -/
def execTCritReached (sensor : Nat) (hot : Int) (s : State) : Outcome :=
  .next <|
    if (s.get Reg.PWR_THERM_T_CRIT : Int) ≤ hot then
      let s := setLevel 3 (s.get Reg.PWR_STATE_POWER_LEVEL) s
      let s := patina 0x1380 Sev.error sensor s
      raise Ev.pwrCrit 0 sensor (s.set Reg.PWR_STATUS_CRIT 1)
    else s

/-- CAP_OVER_DETECTED (R793): CAP_OVER is set; ALERT_N follows. -/
def execCapOverDetected (s : State) : Outcome :=
  .next (s.set Reg.PWR_STATUS_CAP_OVER 1)

/-- THERMTRIP (R794): THERMTRIP_N asserts, main domains are gated, SAFE with pinned patina 0x1A00. -/
def execThermtrip (sensor : Nat) (s : State) : Outcome :=
  .next <|
    let s := patina 0x1A00 Sev.fatal sensor (s.updPwr (fun u => { u with thermtrip := true }))
    if 2 ≤ s.dev ∧ s.dev ≤ 6 then enterSafe 0x1A00 s else s

/-! ### Function power states (R177, R796) -/

/-- R177: at its boundary a function stops fetching, or fetches again and gets what waited for it. -/
def applyFnFetch (fn : Nat) (on : Bool) (s : State) : State :=
  let s := updFn fn (fun f => { f with fetch := on }) s
  if on then retryReads (((s.boundTo fn).flatMap fun n => s.ringsOf n).foldl (fun s r => cqRoom r s) s) else s

/-- DSTATE_CHANGE (R177, R186, R796): a function enters D0 or D3hot; ring fetching follows at the next boundary. -/
def execDstateChange (ap rid dstate : Nat) (s : State) : Outcome :=
  .next <|
    let k := fnKey ap rid
    if s.flagI Reg.HIF_FN_INFO_EXISTS k = false ∨ s.flagI Reg.HIF_FN_INFO_FLR_BUSY k = true
        ∨ s.getI Reg.HIF_FN_INFO_DSTATE k = dstate then s
    else
      let s := (s.setI Reg.HIF_FN_INFO_DSTATE k dstate).defer (.fnFetch k (dstate == 0))
      standbyShow (if dstate = 0 then leaveP1 s else s)

end Sys2Proof.Machine
end

