-- ==== Sys2Proof/Machine/Service.lean ====
section
/-!
DEFINITION. In-service repair and error recovery (R746 to R779): unit commands, self-test,
readmission, substitution, sparing and repair, retirement, containment, RECOVERY, and
plinth firmware in service.
-/
namespace Sys2Proof.Machine

/-- R770: the value of SVC_CMD_ARG. -/
def svcArg (s : State) : Nat :=
  s.get Reg.SVC_CMD_ARG_KIND * 2 ^ 60 + s.get Reg.SVC_CMD_ARG_INDEX * 2 ^ 53 + s.get Reg.SVC_CMD_ARG_DISCARD * 2 ^ 52
    + s.get Reg.SVC_CMD_ARG_NO_SUBST * 2 ^ 51 + s.get Reg.SVC_CMD_ARG_STANDBY * 2 ^ 44 + s.get Reg.SVC_CMD_ARG_ROW

/-- R130: whether a re-armature job holds the partition of a unit. -/
def jobHolds (s : State) (k : Nat) : Bool :=
  s.arm.job.isSome && bit (s.get Reg.ARM_JOB_PART_MASK) ((Map.find? s.arm.unitPart k).getD 0) == 1
    && s.get Reg.ARM_JOB_PART_MASK != 0

/-- R749: an SVC command on the unit of SVC_CMD_ARG: the refusals all unit commands share,
then what the command does. -/
def unitCmd (op : Nat) (who : Issuer) (act : Nat → Nat → State → CmdRes) (s : State) : Outcome :=
  .next <| cmdStart Blk.svc (cmdOf op who 0 (svcArg s) 0) (who.role == .platform) (fun s =>
    let kind := s.get Reg.SVC_CMD_ARG_KIND
    let index := s.get Reg.SVC_CMD_ARG_INDEX
    if s.svc.plinth.isSome then .done St.busy 0 s
    else if unitCount kind ≤ index then .done St.notFound 0 s
    else if jobHolds s (unitKey kind index) then .done St.noResource 0 s
    else act kind index s) s

/-- R757, R758: whether a stack's reserve is free for sparing. -/
def reserveReady (s : State) (stack : Nat) : Bool :=
  s.getI Reg.SVC_SPARE_STATE stack == 1 && (Map.find? s.svc.spare stack).isNone

/-- R757: sparing of a pseudo-channel starts: writes are doubled and the copier runs. -/
def startSparing (index : Nat) (s : State) : State :=
  let stack := index / 32
  let s := s.updSvc (fun u => { u with spare := Map.put s.svc.spare stack ⟨index, s.dueBoundary⟩ })
  s.setsI stack [(Reg.SVC_SPARE_STATE, 2), (Reg.SVC_SPARE_TARGET, index % 32), (Reg.SVC_SPARE_COPIED_MIB, 0)]

/-- R758, R767: sparing is refused. -/
def sparingRefused (index : Nat) (s : State) : State :=
  raise Ev.svcSpare index (index / 32 + index % 32 * 2 ^ 8 + 2 ^ 16) (s.set Reg.SVC_STATUS_SPARE 1)

/-- DRAIN (R748, R749, R751, R355). -/
def execDrain (who : Issuer) (s : State) : Outcome :=
  unitCmd 1 who (fun kind index s =>
    if kind = 0 ∧ s.flagI Reg.TIL_INFO_DEBUG_HELD index then .done St.busy 0 s
    else if s.unitState kind index ≠ 0 then .done St.badState 0 s
    else if kind = 2 ∧ stageMirror s index = none then .done St.noResource 0 s
    else if kind = 4 ∧ reserveReady s (index / 32) = false then .done St.noResource 0 (sparingRefused index s)
    else if kind = 5 ∧ holdsManager s index = true ∧ s.flag Reg.HIF_MGR_STANDBY_READY = false then .done St.badState 0 s
    else
      let s := s.defer (.unitDrain kind index (s.flag Reg.SVC_CMD_ARG_DISCARD) (s.flag Reg.SVC_CMD_ARG_NO_SUBST))
      .done St.ok 0 (if kind = 4 then startSparing index s else s)) s

/-- DRAIN_CANCEL (R748). -/
def execDrainCancel (who : Issuer) (s : State) : Outcome :=
  unitCmd 2 who (fun kind index s =>
    if s.unitState kind index ≠ 1 then .done St.badState 0 s
    else .done St.ok 0 (s.defer (.unitActive kind index))) s

/-- UNIT_DRAINED (R748): a DRAINING unit's work is finished; HELD at the next boundary. -/
def execUnitDrained (kind index : Nat) (s : State) : Outcome :=
  .next (if s.unitState kind index = 1 then s.defer (.unitHeld kind index) else s)

/-- UNIT_DRAIN_TIMEOUT (R748, R753): DRAIN_LIMIT strokes have elapsed; HELD by force. -/
def execUnitDrainTimeout (kind index : Nat) (s : State) : Outcome :=
  .next <|
    match Map.find? s.svc.drain (unitKey kind index) with
    | some d =>
      if s.unitState kind index = 1 ∧ d.since + s.eff Reg.SVC_CTL_DRAIN_LIMIT ≤ s.stk.boundary then
        s.defer (.unitForce kind index)
      else s
    | none => s

/-- TEST (R748, R754): the self-test of a HELD unit starts. -/
def execTest (who : Issuer) (s : State) : Outcome :=
  unitCmd 3 who (fun kind index s =>
    let k := unitKey kind index
    if s.unitState kind index ≠ 2 ∨ (Map.find? s.svc.testing k).isSome then .done St.badState 0 s
    else .done St.ok 0 ((s.updSvc (fun u => { u with testing := Map.put s.svc.testing k false })).setI Reg.SVC_UNIT_INFO_TEST k 1)) s

/-- READMIT (R748, R750, R760): self-test, then reload. -/
def execReadmit (who : Issuer) (s : State) : Outcome :=
  unitCmd 4 who (fun kind index s =>
    let k := unitKey kind index
    if s.unitState kind index ≠ 2 ∨ (Map.find? s.svc.testing k).isSome then .done St.badState 0 s
    else .done St.ok 0 ((s.updSvc (fun u => { u with testing := Map.put s.svc.testing k true })).setI Reg.SVC_UNIT_INFO_TEST k 1)) s

/-- TEST_DONE (R748, R754, R759): the result is reported; a readmitted unit reloads when it passes. -/
def execTestDone (kind index : Nat) (pass : Bool) (s : State) : Outcome :=
  .next <|
    let k := unitKey kind index
    match Map.find? s.svc.testing k with
    | none => s
    | some readmit =>
      let s := s.updSvc (fun u => { u with testing := Map.del s.svc.testing k })
      let s := s.setI Reg.SVC_UNIT_INFO_TEST k (if pass then 2 else 3)
      if pass = false then patina 0x1281 Sev.error (kind * 2 ^ 60 + index * 2 ^ 53) s
      else if readmit then
        if kind = 4 ∧ (Map.find? s.svc.replaced k).isSome then
          let s := s.setsI (index / 32) [(Reg.SVC_SPARE_STATE, 1), (Reg.SVC_SPARE_SPARE, index % 32)]
          setUnitState 4 index 0 s
        else (s.updSvc (fun u => { u with reloading := Map.put s.svc.reloading k (index + 1) }))
      else s

/-- ARMATURE_RELOAD_DONE (R760, R755): the reload is complete; the unit joins at the next boundary. -/
def execArmatureReloadDone (kind index : Nat) (s : State) : Outcome :=
  .next (if (Map.find? s.svc.reloading (unitKey kind index)).isSome then s.defer (.unitJoin kind index) else s)

/-- PROBATION_STEP (R760): the share doubles every 64 strokes. -/
def execProbationStep (kind index : Nat) (s : State) : Outcome :=
  .next <|
    match s.tileBlock index with
    | some t => if s.unitState kind index = 3 ∧ kind = 0 then s.setI Reg.TIL_INFO_SHARE_LOG2 t (s.unitShare 0 index) else s
    | none => s

/-- PROBATION_END (R748, R760): 256 strokes without failure. -/
def execProbationEnd (kind index : Nat) (s : State) : Outcome :=
  .next <|
    let k := unitKey kind index
    match Map.find? s.svc.probation k with
    | some b =>
      if s.unitState kind index = 3 ∧ b + 256 ≤ s.stk.boundary then
        let s := s.updSvc (fun u => { u with probation := Map.del s.svc.probation k })
        let s := match s.tileBlock index with
          | some t => if kind = 0 then s.setI Reg.TIL_INFO_SHARE_LOG2 t 0 else s
          | none => s
        setUnitState kind index 0 s
      else s
    | none => s

/-- SUBSTITUTE (R755, R749): a HELD tile's logical tile goes to a STANDBY tile. -/
def execSubstitute (who : Issuer) (s : State) : Outcome :=
  unitCmd 5 who (fun kind index s =>
    let named := s.get Reg.SVC_CMD_ARG_STANDBY
    if kind ≠ 0 ∨ s.unitState 0 index ≠ 2 ∨ s.getI Reg.SVC_UNIT_INFO_LOGICAL (unitKey 0 index) = 0xFF then .done St.badState 0 s
    else
      let pick := if named = 0x7F then nearestStandby s index
        else if named < 96 ∧ s.standbyTile named = true ∧ s.unitState 0 named = 0
            ∧ (Map.find? s.svc.reloading (unitKey 0 named)).isNone = true then some named else none
      match pick with
      | some u => .done St.ok 0 (startSubstitute index u s)
      | none => .done St.noResource 0 s) s

/-- RETIRE (R748, R749, R761, R126). -/
def execRetire (who : Issuer) (s : State) : Outcome :=
  unitCmd 6 who (fun kind index s =>
    if s.unitState kind index ≠ 2 then .done St.badState 0 s
    else match tallyRefusal who.role 3 s with
      | some st => .done st 0 s
      | none => .done St.ok 0 (retireUnit who.role kind index s)) s

/-- REPAIR (R749, R759, R126, R127): post-package repair of a row of a HELD pseudo-channel. -/
def execRepair (who : Issuer) (s : State) : Outcome :=
  unitCmd 7 who (fun kind index s =>
    if kind ≠ 4 ∨ s.unitState 4 index ≠ 2 then .done St.badState 0 s
    else match tallyRefusal who.role 4 s with
      | some st => .done st 0 s
      | none =>
        let stack := index / 32
        let s := consumeGranted who.role 4 stack (index % 32) (s.get Reg.SVC_CMD_ARG_ROW) s
        .running (s.setI Reg.ARM_PPR_REMAINING stack (s.getI Reg.ARM_PPR_REMAINING stack - 1))) s

/-- REPAIR_DONE (R759): the repair ends; it is counted when it was made. -/
def execRepairDone (index : Nat) (ok : Bool) (s : State) : Outcome :=
  .next <|
    match Map.find? s.cmds 18 with
    | some p =>
      if p.op = 7 then
        let s := if ok then s.setI Reg.ARM_PPR_DONE (index / 32) (s.getI Reg.ARM_PPR_DONE (index / 32) + 1) else s
        cmdEnd Blk.svc (if ok then St.ok else St.mediaError) s
      else s
    | none => s

/-- SPARE (R757, R758, R749): sparing of a pseudo-channel without waiting for a failure. -/
def execSpare (who : Issuer) (s : State) : Outcome :=
  unitCmd 8 who (fun kind index s =>
    if kind ≠ 4 ∨ (s.unitState 4 index ≠ 0 ∧ s.unitState 4 index ≠ 3) then .done St.badState 0 s
    else if reserveReady s (index / 32) = false then .done St.noResource 0 (sparingRefused index s)
    else .done St.ok 0 (startSparing index s)) s

/-- SPARE_SWITCH (R757): the copy has ended; the spare takes the place of the pseudo-channel. -/
def execSpareSwitch (stack : Nat) (s : State) : Outcome :=
  .next <|
    match Map.find? s.svc.spare stack with
    | none => s
    | some j =>
      let s := (s.updSvc (fun _ => { s.svc with
        spare := Map.del s.svc.spare stack
        replaced := Map.put s.svc.replaced (unitKey 4 j.pc) (unitKey 4 (stack * 32 + s.getI Reg.SVC_SPARE_SPARE stack)) }))
      let s := s.setsI stack [(Reg.SVC_SPARE_STATE, 3), (Reg.SVC_SPARE_COPIED_MIB, 768)]
      let s := raise Ev.svcSpare j.pc (stack + j.pc % 32 * 2 ^ 8) (s.set Reg.SVC_STATUS_SPARE 1)
      if s.unitState 4 j.pc = 2 then s else enterHeld 4 j.pc s

/-- PLINTH_SWITCH (R765): the plinth restarts into the slot that the boot descriptor selects. -/
def execPlinthSwitch (who : Issuer) (s : State) : Outcome :=
  .next <| cmdStart Blk.svc (cmdOf 9 who 0 (svcArg s) 0) (who.role == .platform) (fun s =>
    let slot := s.get Reg.ARM_BOOTDESC_PLINTH_SLOT
    if s.svc.plinth.isSome then .done St.busy 0 s
    else if slot = s.svc.plinthSlot then .done St.badState 0 s
    else
      let ok := match Map.find? s.arm.plinthSlots slot with
        | some m => imageCode26 s 2 16777216 m == 0
        | none => false
      if ok then
        .done St.ok 0 ((s.updSvc (fun u => { u with plinth := some ⟨slot, s.svc.plinthSlot⟩ })).set Reg.SVC_PLINTH_SWITCHING 1)
      else .done St.ok 0 (plinthOutcome 2 s)) s
where
  /-- R765, R767, R778: an outcome of a switch. -/
  plinthOutcome (r : Nat) (s : State) : State :=
    let s := s.sets [(Reg.SVC_PLINTH_RESULT, r), (Reg.SVC_PLINTH_STROKE, s.stroke), (Reg.SVC_STATUS_PLINTH, 1)]
    raise Ev.svcPlinth 0 r s

/-- R765: a switch ends with an outcome: the slot running, the RESULT, the event, the record. -/
def endPlinthSwitch (slot r : Nat) (s : State) : State :=
  let s := s.updSvc (fun u => { u with plinth := none, plinthSlot := slot })
  let s := s.sets [(Reg.SVC_PLINTH_SWITCHING, 0), (Reg.SVC_PLINTH_SLOT, slot), (Reg.SVC_PLINTH_RESULT, r),
    (Reg.SVC_PLINTH_STROKE, s.stroke), (Reg.SVC_STATUS_PLINTH, 1)]
  let s := jDevice 0x12E0 0 0 [slot + r * 2 ^ 8] s
  raise Ev.svcPlinth 0 r s

/-- PLINTH_READY (R765): the new firmware reports ready; RESULT 1. -/
def execPlinthReady (s : State) : Outcome :=
  .next <|
    match s.svc.plinth with
    | some w => endPlinthSwitch w.target 1 s
    | none => s

/-- PLINTH_SWITCH_TIMEOUT (R765): the previous slot is restarted and the boot descriptor restored. -/
def execPlinthSwitchTimeout (s : State) : Outcome :=
  .next <|
    match s.svc.plinth with
    | some w =>
      let back (d : BootDesc) : BootDesc := { d with plinthSlot := w.was }
      let s := s.updArm (fun u => { u with desc0 := s.arm.desc0.map back, desc1 := s.arm.desc1.map back })
      endPlinthSwitch w.was 3 (s.set Reg.ARM_BOOTDESC_PLINTH_SLOT w.was)
    | none => s

/-- PLINTH_LOCKSTEP_RESTART (R762, R13): the plinth restarts; the datapath is not stopped. -/
def execPlinthLockstepRestart (s : State) : Outcome :=
  .next <|
    let s := patina 0x1284 Sev.warning s.svc.plinthSlot s
    s.set Reg.SVC_PLINTH_LOCKSTEP (min 255 (s.get Reg.SVC_PLINTH_LOCKSTEP + 1))

/-- R750, R761: a failure during PROBATION: back to HELD, counted; AUTO_RETIRE at three. -/
def probationFailure (kind index : Nat) (s : State) : State :=
  let k := unitKey kind index
  let f := min 255 (s.getI Reg.SVC_UNIT_INFO_FAILS k + 1)
  let s := s.setI Reg.SVC_UNIT_INFO_FAILS k f
  let s := patina 0x1282 Sev.error (kind * 2 ^ 60 + index * 2 ^ 53 + f) s
  let s := raise Ev.svcProbationFail k (kind + index * 2 ^ 8) (s.set Reg.SVC_STATUS_PROBATION_FAIL 1)
  let s := s.defer (.unitForce kind index)
  if 3 ≤ f ∧ s.flag Reg.SVC_CTL_AUTO_RETIRE ∧ tallyRefusal .device 3 s = none then s.defer (.unitRetire kind index) else s

/-- R748, R750, R757, R758: a replaceable unit fails. -/
def unitFails (kind index code : Nat) (always : Bool) (s : State) : State :=
  let k := unitKey kind index
  let st := s.unitState kind index
  let s := patina 0x1280 Sev.error (kind * 2 ^ 60 + index * 2 ^ 53 + code % 2 ^ 16) s
  let s := s.setI Reg.SVC_UNIT_INFO_CAUSE k (code % 256)
  if s.flag Reg.SVC_CTL_AUTO_HOLD = false ∧ always = false then
    raise Ev.svcUnit k (kind + index * 2 ^ 8 + st * 2 ^ 16) s
  else if st = 3 then probationFailure kind index s
  else if kind = 4 ∧ (st = 0 ∨ st = 1) then
    if s.flag Reg.SVC_CTL_AUTO_SPARE then
      if reserveReady s (index / 32) then startSparing index s else availUpdate (sparingRefused index s)
    else availUpdate s
  else if st = 0 ∨ st = 1 then (s.updSvc (fun u => { u with drain := Map.del s.svc.drain k })).defer (.unitForce kind index)
  else s

/-- UNIT_FAILURE (R748). -/
def execUnitFailure (kind index code : Nat) (s : State) : Outcome :=
  .next (unitFails kind index code false s)

/-- CORRECTED_ERROR (R762, R748): counted toward the pseudo-channel's CE_LIMIT in 3 906 250 strokes. -/
def execCorrectedError (pc : Nat) (s : State) : Outcome :=
  .next <|
    let (n, w) := (Map.find? s.svc.ce pc).getD (0, s.stk.boundary)
    let (n, w) := if w + 3906250 ≤ s.stk.boundary then (0, s.stk.boundary) else (n, w)
    let s := s.updSvc (fun u => { u with ce := Map.put s.svc.ce pc (n + 1, w) })
    let lim := s.get Reg.SVC_LIMITS_CE_LIMIT
    if lim ≠ 0 ∧ n = lim then unitFails 4 pc 0x1280 false s else s

/-- RECOVERY_ENTRY (R762, R763): a device-contained error. The entry itself takes place at the
next boundary; more than RECOVERY_MAX entries in 3 906 250 strokes are uncontainable. -/
def execRecoveryEntry (structure_ : Nat) (bank : List Nat) (s : State) : Outcome :=
  .next <|
    let s := patina 0x1283 Sev.error structure_ s
    if s.dev = 4 ∨ s.dev = 5 then
      let recent := s.svc.recoveryStrokes.filter fun b => decide (s.stk.boundary < b + 3906250)
      if max 1 (s.get Reg.SVC_CTL_RECOVERY_MAX) ≤ recent.length then enterSafe 0x1283 s
      else (s.updSvc (fun u => { u with recoveryStrokes := recent })).defer (.enterRecovery structure_ bank)
    else if s.dev = 6 then
      let s := s.set Reg.SVC_RECOVERY_CAUSE structure_
      rebuildStructure structure_ bank (s.updSvc (fun u => { u with structures := s.svc.structures ++ [structure_], recoveryAt := s.stk.boundary }))
    else if s.dev = 3 then rebuildStructure structure_ bank s
    else s

/-- R763: what the boundary of a RECOVERY entry does. -/
def enterRecovery (structure_ : Nat) (bank : List Nat) (s : State) : State :=
  if s.dev ≠ 4 ∧ s.dev ≠ 5 then s
  else
    let seq := s.get Reg.PAT_HEAD_SEQ
    let s := enterState 6 0x1283 s
    let s := jDevice 0x1004 0 0 [0x1283 * 2 ^ 16 + seq % 2 ^ 64 * 2 ^ 32] s
    let s := s.updSvc (fun u => { u with recoveryAt := s.stk.boundary, structures := [structure_], recoveryStrokes := s.svc.recoveryStrokes ++ [s.stk.boundary] })
    let s := s.sets [(Reg.SVC_RECOVERY_ENTRIES, s.svc.recoveryStrokes.length), (Reg.SVC_RECOVERY_CAUSE, structure_),
      (Reg.SVC_RECOVERY_STROKES, 0), (Reg.SVC_STATUS_RECOVERY, 1),
      (Reg.TLT_CFG_EPOCH, s.get Reg.TLT_CFG_EPOCH + 1)]
    let s := jobAbortedState s
    let s := rebuildStructure structure_ bank (abortForRecovery s)
    raise Ev.svcRecovery 0 (structure_ * 2 ^ 8) s

/-- RECOVERY_EXIT (R763, R762): the rebuild is complete, RECOVERY_MIN has passed, RECOVERY_HOLD is
clear; a rebuild that fails is uncontainable. -/
def execRecoveryExit (rebuilt : Bool) (s : State) : Outcome :=
  .next <|
    if s.dev ≠ 6 then s
    else if rebuilt = false then enterSafe 0x1283 s
    else if s.svc.recoveryAt + s.eff Reg.SVC_LIMITS_RECOVERY_MIN ≤ s.stk.boundary ∧ s.flag Reg.SVC_CTL_RECOVERY_HOLD = false then
      let str := s.get Reg.SVC_RECOVERY_CAUSE
      let s := s.updSvc (fun u => { u with structures := [] })
      let s := s.set Reg.SVC_RECOVERY_STROKES (s.stk.boundary - s.svc.recoveryAt)
      let s := jobAbortedState (enterState 4 0 (stageDiscard s))
      let s := jDevice 0x1004 0 0 [1] s
      raise Ev.svcRecovery 0 (1 + str * 2 ^ 8) s
    else s

end Sys2Proof.Machine
end

