-- ==== Sys2Proof/Machine/TileItems.lean ====
section
/-!
DEFINITION. Items, faults, kills and wait groups of tile threads (R336, R344 to R350, R355): the end of an item, the supervisor's
KILL, RESTART and DRAIN_DONE, faults, wait-cycle reports, and tiles held for debug.
-/
namespace Sys2Proof.Machine

/-! ### Items (R336, R403, R584) -/

/-- R336: a thread leaves niche context: its registers clear. -/
def leaveNiche (h pc : Nat) (s : State) : State :=
  updThread h (fun t => { t with niche := none, item := none, xregs := [], pc := pc }) s

/-- R349: the item in hand ends without a verdict: a packet is reported to the reorder engine as dropped. -/
def itemDropped (h : Nat) (s : State) : State :=
  match s.itemPkt h with
  | some p =>
    let s := match p.at_ with
      | .tile t slot => freeSlot t slot s
      | _ => s
    dropSeq p (sendLost p s)
  | none => s

/-- TC_ITEM_DONE (R336, R337, R403 to R406): the item ends with its verdict, and the thread resumes at its dispatch entry. -/
def execTcItemDone (hart value : Nat) (s : State) : Outcome :=
  threadActs hart (fun s =>
    let t := s.thread hart
    if t.niche = none then s
    else
      let s := match s.itemPkt hart with
        | some p => endPacket value (tileMemBase (hartTile hart) + (scratchRange s hart).1) p s
        | none => s
      leaveNiche hart t.dispatch s) s

/-! ### The supervisor's KILL, RESTART and DRAIN_DONE (R332, R347, R752) -/

/-- R332, R347: the staged message of a thread is discarded, a commit that waits is withdrawn, and its item ends as for a fault. -/
def threadEnds (h : Nat) (s : State) : State :=
  let s := itemDropped h s
  let s := s.updTil (fun u => { u with waiting := s.til.waiting.filter fun w => w.hart != h })
  let s := if s.thrState h = 3 then setHalted h 0 s else s
  updThread h (fun t => { t with staged := false, stage := 0, blocked := false, niche := none, item := none, xregs := [] }) s

/-- SUP_KILL (R347): the threads of the mask stop; bit 0 is ignored. -/
def execSupKill (hart mask : Nat) (s : State) : Outcome :=
  supervisor hart (mask - mask % 2) (fun h s => if s.thrState h = 0 then s else enterThrState h 0 (threadEnds h s)) s

/-- R332, R347: every member of a group restarts at its entry point. -/
def restartGroup (t g : Nat) (s : State) : State :=
  let members := s.getI Reg.TIL_WAITGRP_MEMBERS (t * 16 + g)
  (List.range 32).foldl (fun s i =>
    if bit members i = 0 ∨ s.thrState (t * 32 + i) = 0 then s else startThread (t * 32 + i) (threadEnds (t * 32 + i) s)) s

/-- SUP_RESTART (R347). -/
def execSupRestart (hart group : Nat) (s : State) : Outcome :=
  threadActs hart (fun s => if hartThread hart = 0 then restartGroup (hartTile hart) group s else s) s

/-- SUP_DRAIN_DONE (R752): ignored while the tile is not DRAINING. -/
def execSupDrainDone (hart : Nat) (s : State) : Outcome :=
  threadActs hart (fun s =>
    let p := s.servingTile (hartTile hart)
    if hartThread hart = 0 ∧ s.getI Reg.TIL_INFO_ROLE (hartTile hart) = 1 ∧ s.unitState 0 p = 1 then s.defer (.unitHeld 0 p) else s) s

/-! ### Faults (R349, R350) -/

/-- R349: TIL_FAULT_CNT and TIL_FAULT_LAST, and the event of the first fault after FAULT was cleared. -/
def faultRecord (h mcause : Nat) (ctx : Bool) (niche : Nat) (s : State) : State :=
  let t := hartTile h
  let c := if ctx then 1 else 0
  let s := countI Reg.TIL_FAULT_CNT_COUNT t s
  let s := s.setsI t [(Reg.TIL_FAULT_LAST_CAUSE, mcause), (Reg.TIL_FAULT_LAST_NICHE_CTX, c), (Reg.TIL_FAULT_LAST_THREAD, hartThread h),
    (Reg.TIL_FAULT_LAST_NICHE, niche), (Reg.TIL_FAULT_LAST_STROKE, s.stroke)]
  if s.flagI Reg.TIL_STATUS_FAULT t then s
  else
    let word := mcause % 256 * 2 ^ 56 + c * 2 ^ 55 + hartThread h * 2 ^ 50 + niche % 4096 * 2 ^ 36 + s.stroke % 2 ^ 32
    raise Ev.tilFault t (t + word / 2 ^ 8 % 2 ^ 48 * 2 ^ 8) (s.setI Reg.TIL_STATUS_FAULT t 1)

/-- THREAD_FAULT (R349): on a DATAPATH tile the item ends, or the thread enters FAULT; the supervisor is told. -/
def execThreadFault (hart mcause mepc mtval : Nat) (s : State) : Outcome :=
  threadActs hart (fun s =>
    let t := s.thread hart
    if s.getI Reg.TIL_INFO_ROLE (hartTile hart) ≠ 0 ∨ hartThread hart = 0 then s
    else
      let ctx := t.niche.isSome
      let n := t.niche.getD 0xFFFF
      let s := if ctx then leaveNiche hart t.dispatch (itemDropped hart s) else enterThrState hart 4 s
      let s := faultRecord hart mcause ctx (t.niche.getD 0) s
      let w := 2 + hartThread hart * 2 ^ 8 + Ev.threadFault * 2 ^ 16 + n * 2 ^ 32 + (if ctx then 3 else 0) * 2 ^ 48 + s.now * 2 ^ 64
        + mcause % 2 ^ 64 * 2 ^ 128 + mepc % 2 ^ 64 * 2 ^ 192 + mtval % 2 ^ 64 * 2 ^ 256
      (hwPut (supChan (hartTile hart)) (⟨8, w, 0xFFF, 0⟩ : Msg) s).1) s

/-- SUPERVISOR_FAULT (R350): a pinned patina entry, and the tile is held at the next boundary whatever AUTO_HOLD holds. -/
def execSupervisorFault (hart mcause : Nat) (s : State) : Outcome :=
  threadActs hart (fun s =>
    let t := hartTile hart
    let p := s.servingTile t
    let s := patina 0x0701 Sev.fatal (t * 2 ^ 56 + mcause % 256) s
    let s := faultRecord hart mcause (s.thread hart).niche.isSome ((s.thread hart).niche.getD 0) s
    let s := s.setI Reg.SVC_UNIT_INFO_CAUSE (unitKey 0 p) 1
    (s.updSvc (fun u => { u with drain := Map.del s.svc.drain (unitKey 0 p) })).defer (.unitForce 0 p)) s

/-! ### Wait groups (R345 to R348) -/

/-- WAIT_CYCLE_REPORT (R345 to R348): a group has been stuck for LIMIT strokes. -/
def execWaitCycleReport (tile group : Nat) (s : State) : Outcome :=
  .next <|
    let k := tile * 16 + group
    if s.flagI Reg.TIL_WAITGRP_DEFINED k = false ∨ s.flagI Reg.TIL_WAITGRP_REPORTED k = true
        ∨ s.getI Reg.TIL_WAITGRP_COUNT k < max 1 (s.getI Reg.TIL_WAITMON_LIMIT tile) then s
    else
      let members := s.getI Reg.TIL_WAITGRP_MEMBERS k
      let s := s.setI Reg.TIL_WAITGRP_REPORTED k 1
      if bit members 0 = 1 then
        let s := patina 0x0700 Sev.error (members + tile * 2 ^ 32 + group * 2 ^ 40) s
        let s := raise Ev.waitCycle k (tile + group * 2 ^ 8 + members * 2 ^ 16) s
        if s.flagI Reg.TIL_WAITMON_PLINTH_ACTION tile then (s.updTil (fun u => { u with restarts := insertNat k s.til.restarts })) else s
      else
        let (s, ok) := hwPut (supChan tile) (waitReport tile group s) s
        if ok then s else (s.updTil (fun u => { u with reports := s.til.reports ++ [k] }))

/-- WAIT_GROUP_RESTART (R348): the plinth restarts a group at the boundary after its report, and journals it. -/
def execWaitGroupRestart (tile group : Nat) (s : State) : Outcome :=
  .next <|
    let k := tile * 16 + group
    if s.til.restarts.contains k then
      let s := restartGroup tile group (s.updTil (fun u => { u with restarts := s.til.restarts.filter fun x => x != k }))
      jDevice 0x07E0 0 0 [tile + group * 2 ^ 16] s
    else s

/-! ### Tiles held for debug (R355) -/

/-- R355: whether a stroke-bound thread of a tile is halted. -/
def State.sbHalted (s : State) (t : Nat) : Bool := s.getI Reg.TIL_DBG_HALTED t &&& s.getI Reg.TIL_INFO_SB_MASK t != 0

/-- TILE_DEBUG_HOLD (R355): at the boundary after a stroke-bound thread halted its tile is HELD for debug. -/
def execTileDebugHold (tile : Nat) (s : State) : Outcome :=
  .next <|
    let p := s.servingTile tile
    if s.sbHalted tile ∧ s.flagI Reg.TIL_INFO_DEBUG_HELD tile = false ∧ s.unitServes 0 p then
      let s := setUnitState 0 p 2 (s.updSvc (fun u => { u with probation := Map.del s.svc.probation (unitKey 0 p) }))
      let s := s.setsI tile [(Reg.TIL_INFO_DEBUG_HELD, 1), (Reg.TIL_STATUS_DEBUG, 1)]
      availUpdate (spreadShow (raise Ev.tilDebug tile tile s))
    else s

/-- TILE_DEBUG_RELEASE (R355): no stroke-bound thread of the tile remains halted; the tile enters PROBATION. -/
def execTileDebugRelease (tile : Nat) (s : State) : Outcome :=
  .next <|
    let p := s.servingTile tile
    if s.flagI Reg.TIL_INFO_DEBUG_HELD tile ∧ s.sbHalted tile = false ∧ s.unitState 0 p = 2 then
      let s := enterProbation 0 p s
      let s := s.setsI tile [(Reg.TIL_INFO_DEBUG_HELD, 0), (Reg.TIL_STATUS_DEBUG, 1)]
      availUpdate (spreadShow (raise Ev.tilDebug tile (tile + 2 ^ 8) s))
    else s

end Sys2Proof.Machine
end

