-- ==== Sys2Proof/Machine/Boundary.lean ====
section
/-!
DEFINITION. The stroke boundary (R34 to R44): the stroke count, the work of COMMIT that has no row of its own, the events of the stroke
that ended, the changes that R38 held for a boundary, and overruns.
-/
namespace Sys2Proof.Machine

/-! ### Events written once their stroke has ended (R250, R274, R275) -/

/-- R250: the 16 bytes of an event entry. -/
def eventWord (id count time data : Nat) : Nat :=
  id % 2 ^ 14 + min count 0xFFFF * 2 ^ 16 + time % 2 ^ 32 * 2 ^ 32 + data % 2 ^ 56 * 2 ^ 64 + 2 ^ 127

/-- An entry written into the next slot of an event ring. -/
def eventWrite (r w : Nat) (s : State) : State :=
  let slot := s.getI Reg.RNG_PTRS_PRODUCER r
  let s := hostPut (s.getI Reg.RNG_INFO_NICHE r) (s.getI Reg.RNG_BASE_BASE r + 16 * slot) (toBytes 16 w) s
  updRing r (fun x => { x with written := x.written + 1, owed := true }) (s.setI Reg.RNG_PTRS_PRODUCER r ((slot + 1) % s.ringSize r))

/-- R275: an entry that an event ring loses. -/
def eventLost (r time : Nat) (s : State) : State :=
  let s := (countI Reg.RNG_RCNT_COUNT r s).set Reg.RNG_STATUS_EVQ_LOST 1
  updRing r (fun x => { x with lost := x.lost + 1, firstLost := if x.lost = 0 then time else x.firstLost }) s

/-- R275: an entry for an event ring: written, behind the notice of earlier losses, or lost. -/
def eventPut (r w time : Nat) (s : State) : State :=
  let x := s.ringX r
  let free := s.ringSize r - x.written
  if s.ringEnabled r = false ∨ free = 0 then eventLost r time s
  else if x.lost = 0 then eventWrite r w s
  else
    let s := eventWrite r (eventWord Ev.evqOverflow 1 x.firstLost (min x.lost 0xFFFFFFFF)) s
    let s := updRing r (fun x => { x with lost := 0, firstLost := 0 }) s
    if free = 1 then eventLost r time s else eventWrite r w s

/-- R273, R294: where an occurrence goes: an event ring, a vector, or nowhere. -/
def eventRoute (s : State) (e : EvOcc) : Option Nat × Option Nat :=
  let linked (r : Nat) : Option Nat := if r ≠ 0x1FFFF ∧ s.ringExists r ∧ s.getI Reg.RNG_INFO_TYPE r = 2 then some r else none
  match e.target with
  | .eventRing r => (linked r, none)
  | .ring r =>
    let cq := if s.getI Reg.RNG_INFO_TYPE r = 0 then s.getI Reg.RNG_INFO_LINK r else r
    (if s.ringExists cq then linked (s.getI Reg.RNG_INFO_LINK cq) else none, none)
  | .device =>
    let d := s.getI Reg.RNG_EVROUTE_DEST e.id
    match s.getI Reg.RNG_EVROUTE_TARGET e.id with
    | 1 => (if s.rng.deadRoutes.contains e.id then none else linked d, none)
    | 2 => (none, if s.flag Reg.HIF_MGR_VACANT then none else some (d % 2048))
    | _ => (none, none)

/-- R274: the occurrences of the stroke that has ended are delivered; each vector is sent once. -/
def deliverEvents (s : State) : State :=
  let evs := s.events
  let s := s.updEvents (fun _ => [])
  let go (a : List Nat × State) (e : EvOcc) : List Nat × State :=
    match eventRoute a.2 e with
    | (some r, _) => (a.1, eventPut r (eventWord e.id e.count e.time e.data) e.time a.2)
    | (none, some v) => (if a.1.contains v then a.1 else a.1 ++ [v], a.2)
    | (none, none) => a
  let (vs, s) := evs.foldl go ([], s)
  vs.foldl (fun s v => nicheMsix 0 v s) s

/-! ### Wait groups (R343 to R345) -/

/-- R338: a channel is EXTERNAL to a group when hardware or a thread outside the group may write it. -/
def chanExternal (s : State) (members k : Nat) : Bool :=
  s.flagI Reg.TIL_CH_INFO_HW_WRITER k
    || ((Map.find? s.til.writers k).getD []).any fun h => hartTile h != k / 256 || bit members (hartThread h) == 0

/-- R344: whether a member of a group is stuck. -/
def memberStuck (s : State) (t members i : Nat) : Bool :=
  let h := t * 32 + i
  let x := s.thread h
  let m := x.waitMask
  (s.thrState h == 2 && bit m 29 == 0 && (bit m 28 == 0 || x.cmp == 2 ^ 64 - 1)
      && x.binds.all fun b => bit m b.1 == 0 || !chanExternal s members (t * 256 + b.2))
    || (s.thrState h == 1 && x.blocked && s.til.waiting.any fun w => w.hart == h && !chanExternal s members w.chan)

/-- R345: the stuck strokes of every defined group are counted. -/
def waitMonitor (s : State) : State :=
  let s := (List.range 96).foldl (fun s t => (List.range 16).foldl (fun s g =>
    let k := t * 16 + g
    if s.flagI Reg.TIL_WAITGRP_DEFINED k = false then s
    else
      let members := s.getI Reg.TIL_WAITGRP_MEMBERS k
      let stuck := !s.til.moved.contains k && (List.range 32).all fun i => bit members i == 0 || memberStuck s t members i
      if stuck = false then s.setsI k [(Reg.TIL_WAITGRP_COUNT, 0), (Reg.TIL_WAITGRP_REPORTED, 0)]
      else if s.flagI Reg.TIL_WAITGRP_REPORTED k then s
      else s.setI Reg.TIL_WAITGRP_COUNT k (min 255 (s.getI Reg.TIL_WAITGRP_COUNT k + 1))) s) s
  (s.updTil (fun u => { u with moved := [] }))

/-! ### The boundary (R34, R36) -/

/-- R41, R351: STROKE becomes pending for each stroke-bound thread; a boundary that finds the last one outstanding is missed. -/
def strokePending (s : State) : State :=
  (List.range 96).foldl (fun s t =>
    let m := s.getI Reg.TIL_INFO_SB_MASK t
    if m = 0 then s
    else (List.range 32).foldl (fun s i =>
      if bit m i = 0 then s
      else updThread (t * 32 + i) (fun x => { x with edge := x.edge ||| 2 ^ 29, stroke := true, missed := if x.stroke then x.missed + 1 else 0 }) s) s) s

/-- R46: the remainder that the slew absorbs in a stroke, at 500 ppm. -/
def slewStroke (s : State) : State :=
  let d : Int := (s.period / 2 : Nat)
  let l := s.stk.slewPs
  let l := if d < l then l - d else if l < -d then l + d else if 0 < l then 1 else if l < 0 then -1 else 0
  (s.updStk (fun u => { u with slewPs := l })).set Reg.STK_STEP_STATUS_SLEW_LEFT (slewField l)

/-- R34, R46: the boundary is counted and a step that is due is applied. -/
def countStroke (s : State) : State :=
  let p := s.period
  let s := (s.updStk (fun _ => { s.stk with
    phcNs := if s.stk.phcRunning then (s.stk.phcNs / p + 1) * p else s.stk.phcNs
    boundary := s.stk.boundary + 1, alignHold := s.stk.alignHold + 1, phase := 1 }))
  let s := recount (s.stroke + 1) (slewStroke (s.set Reg.STK_STATUS_PHASE 1))
  if s.running then stepsDue s else s

/-- R49: the timer wheel works off a backlog within a budget that the spec does not give. -/
def wheelBacklog (s : State) : State :=
  if s.stk.timerBacklog = 0 then s
  else
    let (v, s) := s.draw
    (s.updStk (fun u => { u with timerBacklog := s.stk.timerBacklog - v }))

/-- R478, R482, R490, R477: buckets refilled, gates set, and late lists taken up. -/
def schedulerBoundary (s : State) : State :=
  let s := (s.regs.filterMap fun (e : Nat × Nat) =>
      if e.1 / 2 ^ 32 = Reg.SCH_NODE_CFG_SHAPE_EN.key 0 / 2 ^ 32 ∧ e.2 = 1 then some (e.1 % 2 ^ 32) else none).foldl refill s
  let s := s.updSch (fun u => { u with policers := s.sch.policers.map fun e => (e.1, Policer.refill e.2 s.period) })
  let s := (List.range 16).foldl (fun s p => gateShow p s) s
  let late := s.sch.late
  let s := (late.filter (· < 16)).foldl (fun s p => relist p s) s
  (s.updSch (fun u => { u with late := (late.filter (16 ≤ ·)).map (· - 16) }))

/-- R757: the copier of a sparing has moved this much. -/
def sparingCopy (s : State) : State :=
  s.svc.spare.foldl (fun s e =>
    let bytes := (s.stk.boundary - e.2.since) * s.period * s.eff Reg.SVC_CTL_SPARE_GBPS
    s.setI Reg.SVC_SPARE_COPIED_MIB e.1 (min 768 (bytes / 2 ^ 20))) s

/-- The strokes that registers count while something runs (R144, R763, R186). -/
def runningStrokes (s : State) : State :=
  let s := if s.arm.job.isSome then s.set Reg.ARM_JOB_STROKES (s.get Reg.ARM_JOB_STROKES + 1) else s
  let s := if s.dev = 6 then s.set Reg.SVC_RECOVERY_STROKES (s.get Reg.SVC_RECOVERY_STROKES + 1) else s
  if s.hif.hbArmed then (s.updHif (fun u => { u with hbCount := s.hif.hbCount + 1 })) else s

/-- STROKE_BOUNDARY (R34, R36, R274, R792): the events of the stroke that ended are written, the count advances, and COMMIT's work is done.
Before the first BRINGUP no boundary is counted, and only the PHC advances (R30, R33). -/
def execStrokeBoundary (env : Env) (s : State) : Outcome :=
  .next <|
    if s.stk.counting = false then s.updStk (fun _ => { s.stk with
      phcNs := if s.stk.phcRunning then (s.stk.phcNs / s.period + 1) * s.period else s.stk.phcNs })
    else
      let s := countStroke (deliverEvents s)
      let s := sparingCopy (runningStrokes s)
      let s := if 2 ≤ s.dev then throttleUpdate env s else s
      let s := if s.running then
          let s := wheelBacklog (schedulerBoundary s)
          if s.inP1 then s else strokePending (waitMonitor s)
        else s
      availUpdate (admitShow (retryReads s))

/-! ### Changes that R38 held for a boundary -/

/-- A register field takes its new value at its boundary. -/
def applyField (f : Field) (i v : Nat) (s : State) : State :=
  let old := s.getI f i
  let s := s.setI f i v
  if f = Reg.RGL_LOOP_CFG_MODE then modeChanged i old s
  else if f = Reg.SCH_NODE_CFG_MODE ∧ old ≠ s.getI f i then resetDeficits (s.kids i) s
  else if f = Reg.SCH_NODE_CFG_WEIGHT ∧ old ≠ s.getI f i then resetDeficits [i] s
  else if f = Reg.SCH_NODE_CFG_SEAMLESS then s.set Reg.SCH_STATUS_SEAMLESS_USED (s.get Reg.SCH_STATUS_SEAMLESS_USED + s.getI f i - old)
  else s

/-- A unit's transition takes place when its state still allows it (R748). -/
def applyUnit (kind index : Nat) (when_ : Nat → Bool) (f : State → State) (s : State) : State :=
  if when_ (s.unitState kind index) then f s else s

/-- One change takes effect. -/
def applyChange (c : Change) (s : State) : State :=
  match c with
  | .field f i v => applyField f i v s
  | .unitDrain k i d n => applyUnit k i (· == 0) (enterDraining k i d n) s
  | .unitActive k i => applyUnit k i (· == 1) (cancelDraining k i) s
  | .unitHeld k i => applyUnit k i (· == 1) (enterHeld k i) s
  | .unitForce k i => applyUnit k i (fun st => st == 0 || st == 1 || st == 3) (forceHeld k i) s
  | .unitRetire k i => applyUnit k i (· == 2) (retireUnit .device k i) s
  | .unitJoin k i => joinUnit k i s
  | .jobSwitch => jobSwitch s
  | .jobDrain m => jobDrain m s
  | .jobHold => jobHold s
  | .debugResume => debugResume s
  | .enterP1 => enterP1 s
  | .enterRecovery st bank => enterRecovery st bank s
  | .ringEnable r restart => applyEnable r restart s
  | .ringDisable r => applyDisable r s
  | .nudge r => updRing r (fun x => { x with nudged := true }) s
  | .cqFreed cq => updRing cq (fun x => { x with freed := true }) s
  | .nicheActive n => applyNicheActive n s
  | .nicheReset n => applyNicheReset n s
  | .nicheIntake n takes => updNiche n (fun x => { x with intake := takes }) s
  | .logStart n base len gran => applyLogStart n base len gran s
  | .logSwap n last => applyLogSwap n last s
  | .policer p mode cir cbs rate2 burst2 => applyPolicer p mode cir cbs rate2 burst2 s
  | .shaper h v => applyShaper h v s
  | .rehashSwitch t => applyRehashSwitch t s
  | .keyDead i => applyKeyDead i s
  | .pathUp k => applyPathUp k s
  | .macLink mac up => applyMacLink mac up s
  | .fnFetch fn on => applyFnFetch fn on s
  | .epClose ep q => applyEpClose ep q s
  | .winOpen i w q => applyWinOpen i w q s
  | .winRevoke i q => applyWinRevoke i q s
  | .winRewrite i j w q => applyWinRewrite i j w q s
  | .segOpen g zero => applySegOpen g zero s
  | .segRevoke g reopen => applySegRevoke g reopen s
  | .segGrant g e v => applySegGrant g e v s
  | .fabMembers v recs => applyMembers v recs s
  | .fabId d => applyFabId d s
  | .fabIdLost => applyFabIdLost s
  | .nvmeTail c q tail => applyNvmeTail c q tail s
  | .nvmeReset c => applyNvmeReset c s
  | .nsAttach ns c nsid => applyNsAttach ns c nsid s
  | .nsDetach ns => applyNsDetach ns s
  | .adviceApply l run mask => applyAdvice l run mask s

/-- DEFERRED_CHANGE_APPLY (R38): the changes whose boundary has come take effect in the order in which they were accepted. -/
def execDeferredChangeApply (s : State) : Outcome :=
  .next <|
    if s.stk.counting = false then s
    else
      let due := s.deferred.filter fun d => decide (d.1 ≤ s.stk.boundary)
      let s := s.updDeferred (fun _ => s.deferred.filter fun d => !decide (d.1 ≤ s.stk.boundary))
      checkReady (due.foldl (fun s d => applyChange d.2 s) s)

/-! ### Overruns (R40 to R44) -/

/-- R43: an overrun is counted and recorded. -/
def overrun (kind index : Nat) (s : State) : State :=
  let s := count Reg.STK_OVR_COUNT_COUNT s
  let s := s.sets [(Reg.STK_OVR_LAST_KIND, kind), (Reg.STK_OVR_LAST_INDEX, index), (Reg.STK_OVR_LAST_STROKE, s.stroke)]
  if s.flag Reg.STK_STATUS_OVR then s else raise Ev.strokeOverrun 0 0 (s.set Reg.STK_STATUS_OVR 1)

/-- R44: a tile's overruns are exempt in its PROBATION and while it is HELD for debug. -/
def tileExempt (s : State) (t : Nat) : Bool := s.unitState 0 (s.servingTile t) == 3 || s.flagI Reg.TIL_INFO_DEBUG_HELD t

/-- THREAD_OVERRUN (R40, R41, R352): a stroke-bound thread has not signalled STROKE_DONE by the start of SEAL, or has missed a further stroke. -/
def execThreadOverrun (hart : Nat) (missed : Bool) (s : State) : Outcome :=
  .next <|
    let t := hartTile hart
    let x := s.thread hart
    if s.running = false ∨ s.inP1 = true ∨ hartOk hart = false ∨ bit (s.getI Reg.TIL_INFO_SB_MASK t) (hartThread hart) = 0
        ∨ x.stroke = false ∨ (missed = true ∧ x.missed = 0) ∨ tileExempt s t = true then s
    else overrun 0 hart (countI Reg.TIL_OVR_CNT_COUNT t s)

/-- R42, R722: the patina entry of a hardware overrun holds STK_OVR_LAST. -/
def overrunPatina (s : State) : State :=
  patina 0x0100 Sev.error (s.get Reg.STK_OVR_LAST_KIND * 2 ^ 60 + s.get Reg.STK_OVR_LAST_INDEX * 2 ^ 48 + s.get Reg.STK_OVR_LAST_STROKE) s

/-- HW_UNIT_OVERRUN (R42 to R44): a hardware unit does not finish in its phase: 1 scheduler, 2 timer wheel, 3 ring intake or poll,
4 regulation sampling, 5 another unit of COMMIT. -/
def execHwUnitOverrun (kind index : Nat) (s : State) : Outcome :=
  .next <|
    if s.running = false ∨ (kind = 2 ∧ 0 < s.stk.timerBacklog) ∨ (kind = 1 ∧ s.unitState 6 index = 3) then s
    else
      let s := if kind = 1 ∧ index < 16 then (s.updSch (fun u => { u with late := insertNat (index + 16) s.sch.late })) else s
      let s := if kind = 3 ∨ kind = 5 then (s.updRgl (fun u => { u with overrun := true })) else s
      let s := if kind = 4 then (s.updRgl (fun u => { u with dropped := some s.stroke })) else s
      overrunPatina (overrun kind (if kind = 1 then index else 0) s)

end Sys2Proof.Machine
end

