-- ==== Sys2Proof/Machine/RegWrite.lean ====
section
/-!
DEFINITION. Accesses to registers that have no row of their own (R20 to R23, R117, R706, R729), and the accesses that
arrive over the fabric (R655).
-/
namespace Sys2Proof.Machine

/-! ### Accesses that reach no register (R20) -/

/-- R20, R790: whether an access is an aligned 64-bit one that meets a register of a block that answers. -/
def State.accessOk (s : State) (a : Access0) : Bool :=
  a.size == 8 && a.offset % 8 == 0 && s.blockAnswers a.offset && (findReg s a.who a.offset).isSome

/-- INVALID_ACCESS (R20): dropped and logged; a read answers all ones. -/
def execInvalidAccess (a : Access0) (write : Bool) (s : State) : Outcome :=
  .next <|
    if s.accessOk a then s
    else
      let s := accessDropped a.who.ap a.offset a.size s
      if write then s else reply a.who (2 ^ 64 - 1) s

/-! ### Writes with a row of their own -/

/-- The state that a meaning leaves. -/
def nextOf (o : Outcome) (s : State) : State :=
  match o with
  | .next t => t
  | _ => s

/-- A write to a register whose writes have a row: that row's effect. -/
def ownWrite (who : Issuer) (off v : Nat) (s : State) : Option State :=
  let act (o : Outcome) : Option State := some (nextOf o s)
  if off = 0x100030 then act (execPhcRateWrite who (v % 2 ^ 32) s)
  else if off = 0x100038 then act (execPhcStepWrite who v s)
  else if off = 0x100040 then act (if bit v 63 = 1 then execRealignArm who (v % 2 ^ 48) s else execRealignDisarm who (v % 2 ^ 48) s)
  else if off = 0x100050 then act (execAlignEstimateWrite who (v % 2 ^ 32) s)
  else if off = 0x300000 ∨ off = 0x300008 then act (execApEnWrite who ((off - 0x300000) / 8) v s)
  else if off = 0x3000D8 then act (execManagerHeartbeat who s)
  else if off = 0x3000E0 then
    act (if bit v 63 = 1 then execHandover who (bit v 62 == 1) s else if bit v 62 = 1 then execTakeover who s else .next s)
  else if off = 0x400058 then act (execNicheCounterClear who v s)
  else if off = 0x500048 then act (execNudge who 0 (bits v 16 0) s)
  else if off = 0x500050 then act (execCqRelease who 0 (bits v 16 0) (bits v 48 32) (bit v 63 == 1) s)
  else if off = 0x500058 then act (execEqRelease who 0 (bits v 16 0) (bits v 48 32) (bit v 63 == 1) s)
  else if off = 0xC00030 then act (execShaperChange who v s)
  else if off = 0xC00080 ∧ bit v 0 = 1 then act (execPolicerApply who (bit v 1) s)
  else if off = 0x1000020 then some (fabCfgWrite who v s)
  else if off = 0x1100018 ∧ bit v 63 = 1 then act (execAdviceAccept who (bits v 62 60) (bits v 47 0) s)
  else if off = 0x1200020 then act (execJournalAck who v s)
  else none

/-! ### What a write is refused for -/

/-- R706: registers whose writes change no setting: the selectors, and the parameters that a command's record carries. -/
def unjournaled : List Nat :=
  [0x2000D0, 0x300100, 0x400020, 0x400038, 0x500020, 0x500200, 0x600400, 0x8000E0, 0xA00068, 0xA00090, 0xB00020, 0xB000A0,
    0xC00020, 0xC00068, 0xD00048, 0xD00058, 0xE00030, 0xE00050, 0x1000060, 0x1000078, 0x1000088, 0x1100040, 0x1300028, 0x1400030,
    0x200050, 0x200058, 0x200060, 0x200080, 0x400000, 0x400008, 0x400010, 0x500000, 0x500008, 0x500010, 0xA00000, 0xA00008,
    0xA00010, 0xB00000, 0xB00008, 0xB00010, 0xC00000, 0xC00008, 0xC00010, 0xE00000, 0xE00008, 0xE00010, 0x1000000, 0x1000008,
    0x1000010, 0x10000A8, 0x10000B0, 0x1100010, 0x1100018, 0x1200030, 0x1200038, 0x1200040, 0x1200048, 0x1400000, 0x1400010, 0x1500000]

/-- Whether a write to a register is journaled: it has a field that holds a setting. -/
def writeJournaled (d : RegDef) : Bool := d.fields.any (fun f => f.access == .rw) && !unjournaled.contains d.off

/-- R747, R797, R18: a write that the issuer's role may not make: the manager's to the registers of the SVC block other than
SVC_STATUS, and to the power settings. -/
def writeForbidden (who : Issuer) (off : Nat) : Bool :=
  who.role != .platform && ((off / 2 ^ 20 == 0x14 && off != 0x1400028) || [0x1500030, 0x1500038, 0x1500050].contains off)

/-- The value that a field will have once the changes already accepted have applied (R38). -/
def State.pendI (s : State) (f : Field) (i : Nat) : Nat :=
  s.deferred.foldl (fun v c => match c.2 with
    | .field g j w => if g = f ∧ j = i then w else v
    | _ => v) (s.getI f i)

/-- R308: whether a channel setting leaves a priority with no enabled channel. -/
def dmaStranded (s : State) (c en prio : Nat) : Bool :=
  (List.range 4).any fun p => (List.range 64).all fun k =>
    let e := if k = c then en else s.pendI Reg.DMA_CH_CFG_EN k
    let q := if k = c then prio else s.pendI Reg.DMA_CH_CFG_PRIO k
    !(e == 1 && q == p)

/-- R480: the flags set among the other shapers, with the changes already accepted. -/
def seamlessPending (s : State) : Nat :=
  s.deferred.foldl (fun n c => match c.2 with
    | .field g _ w => if g = Reg.SCH_NODE_CFG_SEAMLESS then n + w else n
    | _ => n) (s.get Reg.SCH_STATUS_SEAMLESS_USED)

/-- R480, R687: a node setting that sets a 241st SEAMLESS flag, clears the flag of a node registered for loop 5, or names no
node of the armature. -/
def nodeViolation (s : State) (h v : Nat) : Bool :=
  !s.flagI Reg.SCH_NODE_CFG_DEFINED h ||
  (nodeLevel h != 4 &&
    ((bit v 62 == 1 && s.pendI Reg.SCH_NODE_CFG_SEAMLESS h == 0 && decide (240 ≤ seamlessPending s))
      || (bit v 62 == 0 && (beEntry s h).isSome)))

/-- R543: the hold times of endpoints and window indices outlive every packet. -/
def holdTooShort (wrap ep limit rtoMax : Nat) : Bool :=
  decide (ep ≤ (limit + 2) * rtoMax) || decide (wrap ≤ (limit + 2) * rtoMax)

/-- R171: the completion timeout, in µs and with one stroke, reaches the quarantine. -/
def quarantineTooShort (s : State) (us strokes : Nat) : Bool :=
  decide (strokes * s.period ≤ max us 1000 * 1000 + s.period)

/-- R287, R262, R680: what refuses a poll setting: the ring, the order of the bounds, the outer limits, or a changed INTERVAL
while loop 4 acts. -/
def pollViolation (s : State) (r v : Nat) : Bool :=
  let lo := bits v 31 16
  let hi := bits v 15 0
  let outer (x : Nat) : Bool := decide (s.getI Reg.RGL_OUTER_MIN 4 ≤ x) && decide (x ≤ s.getI Reg.RGL_OUTER_MAX 4)
  !(s.ringExists r && s.getI Reg.RNG_INFO_TYPE r == 0 && s.getI Reg.RNG_INFO_RESIDENT r == 0) || decide (hi < lo) || !outer lo || !outer hi

/-- R294: what refuses an event route. -/
def routeViolation (s : State) (ev v : Nat) : Bool :=
  let r := bits v 16 0
  Ev.nicheScoped.contains ev || ev == Ev.evqOverflow ||
    (bits v 63 62 == 1 && !(s.ringExists r && s.getI Reg.RNG_INFO_TYPE r == 2 && s.getI Reg.RNG_INFO_NICHE r == 0))

/-- R331: threads that the image makes stroke-bound hold priority 0, and no others do. -/
def prioViolation (s : State) (t v : Nat) : Bool :=
  (List.range 32).any fun k => (bits v (2 * k + 1) (2 * k) == 0) != (bit (s.getI Reg.TIL_INFO_SB_MASK t) k == 1)

/-- R445, R459: an aging period for a table without aging, or shorter than its sweep. -/
def ageViolation (s : State) (t p : Nat) : Bool :=
  p != 0 && (!(s.tbl.ages.contains t) || decide (p * 16384 < s.getI Reg.PRS_TBL_CAP_CAPACITY t))

/-- R117 and the rules of each block: whether a write would exceed a bound. Where a register's table gives a range and no other
rule, a value outside it exceeds a bound (DEDUCED). -/
def writeViolation (s : State) (d : RegDef) (i v : Nat) : Bool :=
  let b (hi lo : Nat) : Nat := bits v hi lo
  let out (x lo hi : Nat) : Bool := decide (x < lo) || decide (hi < x)
  let off := d.off
  if off == 0x300040 then quarantineTooShort s (clamp Reg.HIF_CPL_TO_TIMEOUT_US.limLo (max 1 Reg.HIF_CPL_TO_TIMEOUT_US.limHi) (b 15 0)) (s.eff Reg.HIF_TAG_QUAR_STROKES)
  else if off == 0x300048 then quarantineTooShort s (s.eff Reg.HIF_CPL_TO_TIMEOUT_US) (clamp 16384 1048576 (b 31 0))
  else if off == 0x500038 then pollViolation s i v
  else if off == 0x500208 then routeViolation s i v
  else if off == 0x600000 then dmaStranded s i (b 2 2) (b 1 0)
  else if off == 0x800010 then prioViolation s i v
  else if off == 0xB00038 then ageViolation s i (b 31 0)
  else if off == 0xB00060 then !s.flagI Reg.TBL_INFO_L2 i
  else if off == 0xC00028 then nodeViolation s i v
  else if off == 0xC00040 then nodeLevel i != 0
  else if off == 0xD00008 then holdTooShort (b 63 32) (b 31 0) (s.get Reg.TLT_RETRY_LIMIT) (s.get Reg.TLT_RETRY_RTO_MAX)
  else if off == 0xD00010 then
    holdTooShort (s.get Reg.TLT_HOLD_WRAP_HOLD) (s.get Reg.TLT_HOLD_EP_HOLD) (b 31 24) (b 63 48)
      || out (b 63 48) 64 65535 || out (b 47 32) 1 (b 63 48) || b 31 24 == 0 || b 23 16 == 0 || b 15 0 == 0
  else if off == 0xD00038 || off == 0xD00040 then (off == 0xD00038 && b 11 0 != 0) || s.tlt.eps.any (fun e => e.2.host)
  else if off == 0xD00068 then s.loopActs 1 || out (b 15 0) 1 (s.get Reg.TLT_RETRY_RTO_MAX)
  else if off == 0xE00048 then
    s.flagI Reg.NVS_CTRL_INFO_FW_PENDING i || decide (64 < b 6 0) || decide ((s.stackedQuota 0).2 < (b 63 16 + b 6 0) * 2 ^ 20)
  else if off == 0x1000030 then decide (b 63 48 < 64) || decide (b 47 40 < 2) || b 39 32 == 0 || decide (b 15 0 < 4)
  else if off == 0x1000038 then b 47 40 == 0 || out (b 15 7) 10 500 || out (b 6 0) 1 64
  else if off == 0x1100008 then b 9 0 != 0
  else if off == 0x1100048 then b 63 63 == 1 && !(s.flagI Reg.SCH_NODE_CFG_SEAMLESS (b 59 40))
  else if off == 0x1100110 then
    decide (b 63 32 < b 31 0) || decide (b 31 0 < s.getI Reg.RGL_OUTER_MIN i) || decide (s.getI Reg.RGL_OUTER_MAX i < b 63 32)
  else if off == 0x1500038 then out (b 23 16) 90 110 || out (b 7 0) 1 10 || decide (b 15 8 < 70) || decide (b 23 16 < b 15 8 + 5)
  else false

/-! ### Applying a write -/

/-- A field that a write leaves as it is: what R497 says of port nodes and of nodes that are not classes, and the regulated
INTERVAL while loop 4 acts (R680). -/
def fieldIgnores (s : State) (f : Field) (i : Nat) : Bool :=
  if f = Reg.SCH_NODE_CFG_SEAMLESS ∨ f = Reg.SCH_NODE_CFG_MODE then nodeLevel i == 4
  else if f = Reg.SCH_NODE_CFG_MAX_SDU then nodeLevel i != 3
  else if f = Reg.RNG_POLL_INTERVAL then s.loopActs 4
  else false

/-- R23, R38, R729: what a write does to one field. -/
def writeField (d : RegDef) (i v : Nat) (s : State) (f : Field) : State :=
  let x := bits v (f.lo + f.width - 1) f.lo
  match f.access with
  | .rw => if fieldIgnores s f i then s else if d.deferred then s.defer (.field f i x) else s.setI f i x
  | .w1c =>
    let t := s.setI f i (s.getI f i - x)
    if f.lo != 32 || f.width != 1 || x == 0 then t
    else match d.fields.find? fun g => g.lo == 0 && g.width == 32 && g.access == .ro with
      | some g => t.setI g i 0
      | none => t
  | _ => s

/-- R23: the fields of a register that a write of 1 clears are cleared. -/
def clearFields (d : RegDef) (i v : Nat) (s : State) : State :=
  (d.fields.filter fun f => f.access == .w1c).foldl (writeField d i v) s

/-- What else follows from a setting: what other registers show of it. -/
def afterWrite (d : RegDef) (i v : Nat) (s : State) : State :=
  if d.off == 0x3000D0 then availUpdate s
  else if d.off == 0x300040 then s.hif.fns.foldl (fun s p => fnShow p.1 s) s
  else if d.off == 0x500100 then admitShow s
  else if d.off == 0x500208 then (s.updRng (fun u => { u with deadRoutes := s.rng.deadRoutes.filter fun e => e != i }))
  else if d.off == 0x500038 ∧ s.loopActs 4 = true ∧ bits v 47 32 ≠ s.getI Reg.RNG_POLL_INTERVAL i then boundViolation 0x500038 s
  else s

/-- R20 to R23, R117, R706: a write to a register, once the issuer may write registers. -/
def applyWrite (who : Issuer) (d : RegDef) (i off v : Nat) (s : State) : State :=
  let before := regValue s d i
  let journaled := writeJournaled d
  if writeForbidden who off then (if s.jReady who then jRegWrite who 0 off v before St.permission s else s)
  else if journaled = true ∧ s.jReady who = false then clearFields d i v s
  else if writeViolation s d i v then boundViolation off s
  else
    let s := if d.off == 0x1100110 then updLoop i (fun x => { x with envNext := some (bits v 31 0, bits v 63 32, s.dueBoundary) }) s
             else d.fields.foldl (writeField d i v) s
    let s := afterWrite d i v s
    if journaled then jRegWrite who 0 off v before 0 s else s

/-- A register write by an issuer. -/
def regWrite (who : Issuer) (off v : Nat) (s : State) : State :=
  match ownWrite who off v s with
  | some t => t
  | none => regGate who off s fun s =>
    if off % 8 ≠ 0 then accessDropped who.ap off 8 s
    else match findReg s who off with
      | some (d, i) => applyWrite who d i off v s
      | none => accessDropped who.ap off 8 s

/-- R747, R797: a register write of the platform: to the SVC block or the PWR block, answered with a status. -/
def mctpWrite (who : Issuer) (off v : Nat) (s : State) : State :=
  if off / 2 ^ 20 ≠ 0x14 ∧ off / 2 ^ 20 ≠ 0x15 then s.emit (.mctp who.id St.invalid [])
  else if s.blockAnswers off = false ∨ s.pwr.aux = false then s
  else
    let (st, s) := s.draw
    (regWrite who off v s).emit (.mctp who.id (st % 256) [])

/-- REGISTER_WRITE (R20 to R23, R117, R706, R747, R797). -/
def execRegisterWrite (who : Issuer) (offset value : Nat) (s : State) : Outcome :=
  .next (if who.origin = .mctp then mctpWrite { who with role := .platform } offset value s else regWrite who offset value s)

/-- SAT_CLEAR (R729): SAT of a class B counter is written with 1. -/
def execSatClear (who : Issuer) (offset : Nat) (s : State) : Outcome :=
  .next (if who.origin = .mctp then mctpWrite { who with role := .platform } offset (2 ^ 32) s else regWrite who offset (2 ^ 32) s)

/-! ### Reads that change something (R23, R729) -/

/-- A read by an issuer of a register at an offset. -/
def regRead (who : Issuer) (off : Nat) (s : State) : State :=
  readGate who off s fun s =>
    match findReg s who off with
    | some (d, i) =>
      let (v, s) := readReg who d i s
      reply who v s
    | none => reply who (2 ^ 64 - 1) (accessDropped who.ap off 8 s)

/-- COUNTER_LOW_READ (R729): the low half of an 80-bit counter is read. -/
def execCounterLowRead (who : Issuer) (offset : Nat) (s : State) : Outcome :=
  .next (if lowHalves.contains offset then regRead who offset s else s)

/-- READ_CLEARS (R23): a register with a field that reads clear is read. -/
def execReadClears (who : Issuer) (offset : Nat) (s : State) : Outcome :=
  .next <|
    if offset = 0x200070 then nextOf (execArmJobRead who s) s
    else if offset = 0xB00090 then nextOf (execRehashStateRead who s) s
    else if 0x100200 ≤ offset ∧ offset < 0x100300 ∧ offset % 16 = 0 then nextOf (execTxtsInfoRead who ((offset - 0x100200) / 16) s) s
    else regRead who offset s

/-! ### Accesses over the fabric (R655) -/

/-- A read whose reply is taken instead of sent. -/
def capture (who : Issuer) (off : Nat) (s : State) : Nat × State :=
  let t :=
    if off = 0x100020 then
      let (x, s) := s.draw
      nextOf (execPhcSecRead who (x % s.period) 0 s) s
    else if off = 0x100408 then nextOf (execPpsInTsRead who s) s
    else if off = 0x1300030 then nextOf (execPatinaReadLatch who s) s
    else if off = 0x1300038 ∨ off = 0x1300040 ∨ off = 0x1300048 then
      reply who (((Map.find? s.pat.latch (accessor who)).getD 0) / 2 ^ (64 * ((off - 0x1300030) / 8)) % 2 ^ 64) s
    else nextOf (execReadClears who off s) s
  match t.out.drop s.out.length with
  | .hostReply _ _ _ v :: _ => (v, (t.updOut (fun _ => s.out)))
  | _ => (2 ^ 64 - 1, (t.updOut (fun _ => s.out)))

/-- R655: the issuer of an access from another device: the manager's role, the device's ID. -/
def fabricIssuer (src : Nat) : Issuer := ⟨.manager, .fabric, 0, src⟩

/-- R655: an access that the target executes, or answers with ST_FAB_REMOTE: the status, the data and the state. -/
def regAccess (p : TlPkt) (s : State) : Nat × Nat × State :=
  let off := byteField p.ext 8 13
  let who := fabricIssuer p.src
  let allowed := s.flag Reg.FAB_CFG_RMGMT_ALLOW && decide (s.get Reg.FAB_RMGMT_FIRST_DEV ≤ p.src) && decide (p.src ≤ s.get Reg.FAB_RMGMT_LAST_DEV)
  if allowed = false ∨ 2 ^ 25 ≤ off ∨ off % 8 ≠ 0 ∨ (findReg s who off).isNone then (St.fabRemote, 0, s)
  else if bit p.ext 0 = 1 then (St.ok, 0, regWrite who off (byteField p.ext 16 23) s)
  else
    let (v, s) := capture who off s
    (St.ok, v, s)

/-- R655: the REG_RESP of an access. -/
def regResponse (x : Serve) (result : List Byte) (s : State) : State :=
  (sendPacket none none none { respHead s 0x4A x with ext := ofBytes result } s).2

/-- REG_ACCESS (R655): executed at most once; its response is kept as R537 keeps atomic results. -/
def execRegAccess (p : TlPkt) (s : State) : Outcome :=
  .next (rxIntro p (fun s =>
    let kept := s.tlt.serves.find? fun y => y.peer == p.src && y.msg == p.msg
    match s.msgPlace p.src p.msg with
    | .below => count Reg.TLT_DUP_DROP_COUNT s
    | .beyond => count Reg.TLT_WIN_DROP_COUNT s
    | .complete _ _ =>
      let s := count Reg.TLT_DUP_DROP_COUNT s
      match kept with
      | some y => (match y.result with
        | some r => regResponse y r s
        | none => s)
      | none => s
    | .open_ =>
      let (st, v, s) := regAccess p s
      let x := { serveOf p with result := some (toBytes 1 st ++ List.replicate 7 0 ++ toBytes 8 v) }
      regResponse x (toBytes 1 st ++ List.replicate 7 0 ++ toBytes 8 v) (putServe x (recordDone p.src p.msg St.ok 0 s))) s)

end Sys2Proof.Machine
end

