-- ==== Sys2Proof/Machine/Dispatch.lean ====
section
/-!
DEFINITION. What each command does: one arm per constructor.
-/
namespace Sys2Proof.Machine

open Sys2Proof

/-- The effect of a command on everything but the queue. -/
def exec (i : Instr) (s : State) : Host.Outcome State Fault Refusal :=
  match i with
  | .auxPowerPresent => Sys2Proof.Machine.execAuxPowerPresent s
  | .auxPowerLost => Sys2Proof.Machine.execAuxPowerLost s
  | .strapSample autoOn mgmtAddr rgmiiEn flashMode test => Sys2Proof.Machine.execStrapSample autoOn mgmtAddr rgmiiEn flashMode test s
  | .powerOn eid hot => Sys2Proof.Machine.execPowerOn eid hot s
  | .mainPgAsserted => Sys2Proof.Machine.execMainPgAsserted s
  | .mainPgTimeout => Sys2Proof.Machine.execMainPgTimeout s
  | .mainPgDeasserted => Sys2Proof.Machine.execMainPgDeasserted s
  | .powerStepB2 => Sys2Proof.Machine.execPowerStepB2 s
  | .armatureBootLoad => Sys2Proof.Machine.execArmatureBootLoad s
  | .powerStep regulated failed repairs => Sys2Proof.Machine.execPowerStep regulated failed repairs s
  | .powerStepWaitExceeded => Sys2Proof.Machine.execPowerStepWaitExceeded s
  | .enterService who => Sys2Proof.Machine.execEnterService who s
  | .testEnter who => Sys2Proof.Machine.execTestEnter who s
  | .testExit who => Sys2Proof.Machine.execTestExit who s
  | .standby who => Sys2Proof.Machine.execStandby who s
  | .wake who => Sys2Proof.Machine.execWake who s
  | .powerOff who => Sys2Proof.Machine.execPowerOff who s
  | .powerOffMainEnDrop => Sys2Proof.Machine.execPowerOffMainEnDrop s
  | .safe who => Sys2Proof.Machine.execSafe who s
  | .restart who => Sys2Proof.Machine.execRestart who s
  | .safeEntry cause => Sys2Proof.Machine.execSafeEntry cause s
  | .tCritReached sensor hot => Sys2Proof.Machine.execTCritReached sensor hot s
  | .capOverDetected => Sys2Proof.Machine.execCapOverDetected s
  | .thermtrip sensor => Sys2Proof.Machine.execThermtrip sensor s
  | .strokeBoundary env => Sys2Proof.Machine.execStrokeBoundary env s
  | .deferredChangeApply => Sys2Proof.Machine.execDeferredChangeApply s
  | .threadOverrun hart missed => Sys2Proof.Machine.execThreadOverrun hart missed s
  | .hwUnitOverrun kind index => Sys2Proof.Machine.execHwUnitOverrun kind index s
  | .phcStepWrite who ns => Sys2Proof.Machine.execPhcStepWrite who ns s
  | .stepLatch => Sys2Proof.Machine.execStepLatch s
  | .slewDone => Sys2Proof.Machine.execSlewDone s
  | .phcRateWrite who rate => Sys2Proof.Machine.execPhcRateWrite who rate s
  | .realignArm who atStroke => Sys2Proof.Machine.execRealignArm who atStroke s
  | .realignDisarm who atStroke => Sys2Proof.Machine.execRealignDisarm who atStroke s
  | .realignTarget => Sys2Proof.Machine.execRealignTarget s
  | .alignEstimateWrite who offset => Sys2Proof.Machine.execAlignEstimateWrite who offset s
  | .alignHoldover => Sys2Proof.Machine.execAlignHoldover s
  | .phcSecRead who ns frac => Sys2Proof.Machine.execPhcSecRead who ns frac s
  | .txtsInfoRead who mac => Sys2Proof.Machine.execTxtsInfoRead who mac s
  | .ppsInEdge ns sub => Sys2Proof.Machine.execPpsInEdge ns sub s
  | .ppsInTsRead who => Sys2Proof.Machine.execPpsInTsRead who s
  | .ppsOutPulse assert => Sys2Proof.Machine.execPpsOutPulse assert s
  | .clk10mLock => Sys2Proof.Machine.execClk10mLock s
  | .clk10mLockLoss => Sys2Proof.Machine.execClk10mLockLoss s
  | .todMessage msg ms => Sys2Proof.Machine.execTodMessage msg ms s
  | .stage who image token flashOk => Sys2Proof.Machine.execStage who image token flashOk s
  | .maquette who => Sys2Proof.Machine.execMaquette who s
  | .maquetteReportDone findings warnings report => Sys2Proof.Machine.execMaquetteReportDone findings warnings report s
  | .partialImage who => Sys2Proof.Machine.execPartialImage who s
  | .jobCheckDone => Sys2Proof.Machine.execJobCheckDone s
  | .jobDrainDone => Sys2Proof.Machine.execJobDrainDone s
  | .jobDrainTimeout => Sys2Proof.Machine.execJobDrainTimeout s
  | .jobApplyDone pass => Sys2Proof.Machine.execJobApplyDone pass s
  | .jobRampDone => Sys2Proof.Machine.execJobRampDone s
  | .armJobRead who => Sys2Proof.Machine.execArmJobRead who s
  | .persist who flashOk => Sys2Proof.Machine.execPersist who flashOk s
  | .flashWrite who flashOk => Sys2Proof.Machine.execFlashWrite who flashOk s
  | .activate who arg flashOk => Sys2Proof.Machine.execActivate who arg flashOk s
  | .cancel who => Sys2Proof.Machine.execCancel who s
  | .commandUndefinedOp who offset op => Sys2Proof.Machine.execCommandUndefinedOp who offset op s
  | .tokenConsumeStep who => Sys2Proof.Machine.execTokenConsumeStep who s
  | .ownershipTransfer who => Sys2Proof.Machine.execOwnershipTransfer who s
  | .debugUnlock who => Sys2Proof.Machine.execDebugUnlock who s
  | .tallyGrant who => Sys2Proof.Machine.execTallyGrant who s
  | .debugUnlockExpiry => Sys2Proof.Machine.execDebugUnlockExpiry s
  | .perstAssert ap => Sys2Proof.Machine.execPerstAssert ap s
  | .perstDeassert ap => Sys2Proof.Machine.execPerstDeassert ap s
  | .hotReset ap => Sys2Proof.Machine.execHotReset ap s
  | .linkUp ap speed width flit => Sys2Proof.Machine.execLinkUp ap speed width flit s
  | .linkDown ap => Sys2Proof.Machine.execLinkDown ap s
  | .apEnWrite who h value => Sys2Proof.Machine.execApEnWrite who h value s
  | .configRequest ap rid op value => Sys2Proof.Machine.execConfigRequest ap rid op value s
  | .flr ap rid => Sys2Proof.Machine.execFlr ap rid s
  | .flrComplete ap rid => Sys2Proof.Machine.execFlrComplete ap rid s
  | .dstateChange ap rid dstate => Sys2Proof.Machine.execDstateChange ap rid dstate s
  | .d3cold ap => Sys2Proof.Machine.execD3cold ap s
  | .hostReadCompletion ap tag status data => Sys2Proof.Machine.execHostReadCompletion ap tag status data s
  | .readTimeout ap tag => Sys2Proof.Machine.execReadTimeout ap tag s
  | .tagQuarantineEnd ap tag => Sys2Proof.Machine.execTagQuarantineEnd ap tag s
  | .ideKeyProgram ap index pf link => Sys2Proof.Machine.execIdeKeyProgram ap index pf link s
  | .ideCheckFailed ap index link => Sys2Proof.Machine.execIdeCheckFailed ap index link s
  | .tdispRequest ap rid msg => Sys2Proof.Machine.execTdispRequest ap rid msg s
  | .tdiError ap rid => Sys2Proof.Machine.execTdiError ap rid s
  | .atsInvalidation ap rid pasid addr len => Sys2Proof.Machine.execAtsInvalidation ap rid pasid addr len s
  | .managerHeartbeat who => Sys2Proof.Machine.execManagerHeartbeat who s
  | .managerHeartbeatTimeout => Sys2Proof.Machine.execManagerHeartbeatTimeout s
  | .handover who both => Sys2Proof.Machine.execHandover who both s
  | .takeover who => Sys2Proof.Machine.execTakeover who s
  | .managerRoleMove => Sys2Proof.Machine.execManagerRoleMove s
  | .standbyReady ap pf => Sys2Proof.Machine.execStandbyReady ap pf s
  | .cxlMemAccess addr data write bad => Sys2Proof.Machine.execCxlMemAccess addr data write bad s
  | .hdmCommit decoder base size ways gran commit => Sys2Proof.Machine.execHdmCommit decoder base size ways gran commit s
  | .cxlMailboxCommand op input => Sys2Proof.Machine.execCxlMailboxCommand op input s
  | .cxlReset => Sys2Proof.Machine.execCxlReset s
  | .invalidAccess a write => Sys2Proof.Machine.execInvalidAccess a write s
  | .registerWrite who offset value => Sys2Proof.Machine.execRegisterWrite who offset value s
  | .satClear who offset => Sys2Proof.Machine.execSatClear who offset s
  | .counterLowRead who offset => Sys2Proof.Machine.execCounterLowRead who offset s
  | .create who desc => Sys2Proof.Machine.execCreate who desc s
  | .bind who => Sys2Proof.Machine.execBind who s
  | .unbind who => Sys2Proof.Machine.execUnbind who s
  | .quiesce who => Sys2Proof.Machine.execQuiesce who s
  | .nicheQuiesced niche => Sys2Proof.Machine.execNicheQuiesced niche s
  | .resume who => Sys2Proof.Machine.execResume who s
  | .reset who => Sys2Proof.Machine.execReset who s
  | .nicheResetDone niche => Sys2Proof.Machine.execNicheResetDone niche s
  | .destroy who => Sys2Proof.Machine.execDestroy who s
  | .teardownDone niche => Sys2Proof.Machine.execTeardownDone niche s
  | .spoofWrite who entry => Sys2Proof.Machine.execSpoofWrite who entry s
  | .spoofMode who => Sys2Proof.Machine.execSpoofMode who s
  | .wakeSet who => Sys2Proof.Machine.execWakeSet who s
  | .logStart who block => Sys2Proof.Machine.execLogStart who block s
  | .harvest who => Sys2Proof.Machine.execHarvest who s
  | .harvestCopyDone => Sys2Proof.Machine.execHarvestCopyDone s
  | .logStop who => Sys2Proof.Machine.execLogStop who s
  | .nicheCounterClear who value => Sys2Proof.Machine.execNicheCounterClear who value s
  | .rngCreate who desc => Sys2Proof.Machine.execRngCreate who desc s
  | .rngEnable who => Sys2Proof.Machine.execRngEnable who s
  | .rngDisable who => Sys2Proof.Machine.execRngDisable who s
  | .rngDestroy who => Sys2Proof.Machine.execRngDestroy who s
  | .ringCreate w desc => Sys2Proof.Machine.execRingCreate w desc s
  | .ringEnable w => Sys2Proof.Machine.execRingEnable w s
  | .ringDisable w => Sys2Proof.Machine.execRingDisable w s
  | .ringDestroy w => Sys2Proof.Machine.execRingDestroy w s
  | .ringIdle ring => Sys2Proof.Machine.execRingIdle ring s
  | .ringPoll h => Sys2Proof.Machine.execRingPoll h s
  | .ringPollData ring entries => Sys2Proof.Machine.execRingPollData ring entries s
  | .nudge who niche ring => Sys2Proof.Machine.execNudge who niche ring s
  | .residentRingWrite who off data => Sys2Proof.Machine.execResidentRingWrite who off data s
  | .residentIntake => Sys2Proof.Machine.execResidentIntake s
  | .cqRelease who niche ring count arm => Sys2Proof.Machine.execCqRelease who niche ring count arm s
  | .eqRelease who niche ring count arm => Sys2Proof.Machine.execEqRelease who niche ring count arm s
  | .cqRestart ring => Sys2Proof.Machine.execCqRestart ring s
  | .eventMsixSend ring => Sys2Proof.Machine.execEventMsixSend ring s
  | .nop w => Sys2Proof.Machine.execNop w s
  | .send w => Sys2Proof.Machine.execSend w s
  | .recvPost w => Sys2Proof.Machine.execRecvPost w s
  | .abort w => Sys2Proof.Machine.execAbort w s
  | .copy w => Sys2Proof.Machine.execCopy w s
  | .fill w => Sys2Proof.Machine.execFill w s
  | .list w elements => Sys2Proof.Machine.execList w elements s
  | .dmaChannelStart prio => Sys2Proof.Machine.execDmaChannelStart prio s
  | .dmaHalfPoint chan => Sys2Proof.Machine.execDmaHalfPoint chan s
  | .dmaPassEnd chan => Sys2Proof.Machine.execDmaPassEnd chan s
  | .tcWait hart => Sys2Proof.Machine.execTcWait hart s
  | .threadWake hart => Sys2Proof.Machine.execThreadWake hart s
  | .timerEvent hart ns => Sys2Proof.Machine.execTimerEvent hart ns s
  | .tcBind hart value => Sys2Proof.Machine.execTcBind hart value s
  | .tcStrokeDone hart cycles => Sys2Proof.Machine.execTcStrokeDone hart cycles s
  | .tcChCommit hart value => Sys2Proof.Machine.execTcChCommit hart value s
  | .chCommitUnblock chan => Sys2Proof.Machine.execChCommitUnblock chan s
  | .tcChDiscard hart => Sys2Proof.Machine.execTcChDiscard hart s
  | .tcTake hart ch => Sys2Proof.Machine.execTcTake hart ch s
  | .tcItemDone hart value => Sys2Proof.Machine.execTcItemDone hart value s
  | .tcDmaSubmit hart value => Sys2Proof.Machine.execTcDmaSubmit hart value s
  | .supInject hart mask => Sys2Proof.Machine.execSupInject hart mask s
  | .supKill hart mask => Sys2Proof.Machine.execSupKill hart mask s
  | .supStart hart mask => Sys2Proof.Machine.execSupStart hart mask s
  | .supRestart hart group => Sys2Proof.Machine.execSupRestart hart group s
  | .supDrainDone hart => Sys2Proof.Machine.execSupDrainDone hart s
  | .threadFault hart mcause mepc mtval => Sys2Proof.Machine.execThreadFault hart mcause mepc mtval s
  | .supervisorFault hart mcause => Sys2Proof.Machine.execSupervisorFault hart mcause s
  | .waitCycleReport tile group => Sys2Proof.Machine.execWaitCycleReport tile group s
  | .waitGroupRestart tile group => Sys2Proof.Machine.execWaitGroupRestart tile group s
  | .debugAccess hart kind addr value => Sys2Proof.Machine.execDebugAccess hart kind addr value s
  | .debugHalt hart => Sys2Proof.Machine.execDebugHalt hart s
  | .debugResume hart => Sys2Proof.Machine.execDebugResume hart s
  | .tileDebugHold tile => Sys2Proof.Machine.execTileDebugHold tile s
  | .tileDebugRelease tile => Sys2Proof.Machine.execTileDebugRelease tile s
  | .stagedDiscard hart => Sys2Proof.Machine.execStagedDiscard hart s
  | .frameReceive mac data ns sub => Sys2Proof.Machine.execFrameReceive mac data ns sub s
  | .parseFrame id engine vec => Sys2Proof.Machine.execParseFrame id engine vec s
  | .pipelineEntry id park => Sys2Proof.Machine.execPipelineEntry id park s
  | .parkLookupReturn id park => Sys2Proof.Machine.execParkLookupReturn id park s
  | .residencyTimeout id => Sys2Proof.Machine.execResidencyTimeout id s
  | .pipelineExit id patch => Sys2Proof.Machine.execPipelineExit id patch s
  | .spreaderDispatch => Sys2Proof.Machine.execSpreaderDispatch s
  | .reorderSkip domain => Sys2Proof.Machine.execReorderSkip domain s
  | .groupDefine who desc => Sys2Proof.Machine.execGroupDefine who desc s
  | .ruleWrite who desc => Sys2Proof.Machine.execRuleWrite who desc s
  | .ruleDelete who desc => Sys2Proof.Machine.execRuleDelete who desc s
  | .actionWrite who entry => Sys2Proof.Machine.execActionWrite who entry s
  | .templateWrite who template => Sys2Proof.Machine.execTemplateWrite who template s
  | .counterClear who => Sys2Proof.Machine.execCounterClear who s
  | .defaultAction who => Sys2Proof.Machine.execDefaultAction who s
  | .verCommit who => Sys2Proof.Machine.execVerCommit who s
  | .verAbort who => Sys2Proof.Machine.execVerAbort who s
  | .versionSwitch => Sys2Proof.Machine.execVersionSwitch s
  | .versionRetire => Sys2Proof.Machine.execVersionRetire s
  | .insert who desc => Sys2Proof.Machine.execInsert who desc s
  | .delete who desc => Sys2Proof.Machine.execDelete who desc s
  | .query who desc => Sys2Proof.Machine.execQuery who desc s
  | .pfxInsert who desc => Sys2Proof.Machine.execPfxInsert who desc s
  | .pfxDelete who desc => Sys2Proof.Machine.execPfxDelete who desc s
  | .l2Flush who => Sys2Proof.Machine.execL2Flush who s
  | .rehashStart who => Sys2Proof.Machine.execRehashStart who s
  | .rehashCopyDone => Sys2Proof.Machine.execRehashCopyDone s
  | .rehashSwitch who => Sys2Proof.Machine.execRehashSwitch who s
  | .rehashSwitchEnd => Sys2Proof.Machine.execRehashSwitchEnd s
  | .rehashAbort who => Sys2Proof.Machine.execRehashAbort who s
  | .rehashStateRead who => Sys2Proof.Machine.execRehashStateRead who s
  | .flowInsert w desc => Sys2Proof.Machine.execFlowInsert w desc s
  | .flowDelete w desc => Sys2Proof.Machine.execFlowDelete w desc s
  | .flowQuery w desc => Sys2Proof.Machine.execFlowQuery w desc s
  | .l2Learn table => Sys2Proof.Machine.execL2Learn table s
  | .l2Move table => Sys2Proof.Machine.execL2Move table s
  | .moveFlagClear table place => Sys2Proof.Machine.execMoveFlagClear table place s
  | .agingSweep table => Sys2Proof.Machine.execAgingSweep table s
  | .queueBind who => Sys2Proof.Machine.execQueueBind who s
  | .queueUnbind who => Sys2Proof.Machine.execQueueUnbind who s
  | .policerBind who => Sys2Proof.Machine.execPolicerBind who s
  | .policerUnbind who => Sys2Proof.Machine.execPolicerUnbind who s
  | .gclSet who gcl => Sys2Proof.Machine.execGclSet who gcl s
  | .gclCancel who => Sys2Proof.Machine.execGclCancel who s
  | .gclSwitch port => Sys2Proof.Machine.execGclSwitch port s
  | .shaperChange who value => Sys2Proof.Machine.execShaperChange who value s
  | .policerApply who mode => Sys2Proof.Machine.execPolicerApply who mode s
  | .transmitListBuild port => Sys2Proof.Machine.execTransmitListBuild port s
  | .frameTransmit port sub => Sys2Proof.Machine.execFrameTransmit port sub s
  | .tlWrite w => Sys2Proof.Machine.execTlWrite w s
  | .tlWriteImm w => Sys2Proof.Machine.execTlWriteImm w s
  | .tlSend w => Sys2Proof.Machine.execTlSend w s
  | .tlRead w => Sys2Proof.Machine.execTlRead w s
  | .tlAtomic w => Sys2Proof.Machine.execTlAtomic w s
  | .tlFlush w => Sys2Proof.Machine.execTlFlush w s
  | .tlRecv w => Sys2Proof.Machine.execTlRecv w s
  | .epOpen w => Sys2Proof.Machine.execEpOpen w s
  | .epClose w => Sys2Proof.Machine.execEpClose w s
  | .epHoldExpiry ep => Sys2Proof.Machine.execEpHoldExpiry ep s
  | .winOpen w => Sys2Proof.Machine.execWinOpen w s
  | .winRewrite w => Sys2Proof.Machine.execWinRewrite w s
  | .winRevoke w => Sys2Proof.Machine.execWinRevoke w s
  | .revokeFence index => Sys2Proof.Machine.execRevokeFence index s
  | .wrapHoldExpiry index => Sys2Proof.Machine.execWrapHoldExpiry index s
  | .pdAlloc w => Sys2Proof.Machine.execPdAlloc w s
  | .pdFree w => Sys2Proof.Machine.execPdFree w s
  | .wireDataReceive p => Sys2Proof.Machine.execWireDataReceive p s
  | .wireReadReqReceive p => Sys2Proof.Machine.execWireReadReqReceive p s
  | .wireReadRespReceive p => Sys2Proof.Machine.execWireReadRespReceive p s
  | .wireAtomicReceive p => Sys2Proof.Machine.execWireAtomicReceive p s
  | .wireAtomicRespReceive p => Sys2Proof.Machine.execWireAtomicRespReceive p s
  | .wireFlushReceive p => Sys2Proof.Machine.execWireFlushReceive p s
  | .flushVisibilityDone peer msg => Sys2Proof.Machine.execFlushVisibilityDone peer msg s
  | .wireFlushAckReceive p => Sys2Proof.Machine.execWireFlushAckReceive p s
  | .wireAckReceive p => Sys2Proof.Machine.execWireAckReceive p s
  | .wireNakReceive p => Sys2Proof.Machine.execWireNakReceive p s
  | .wireAbandonReceive p => Sys2Proof.Machine.execWireAbandonReceive p s
  | .deferredAck peer msg => Sys2Proof.Machine.execDeferredAck peer msg s
  | .orderedCompletionRelease peer msg => Sys2Proof.Machine.execOrderedCompletionRelease peer msg s
  | .messageTimeout peer msg => Sys2Proof.Machine.execMessageTimeout peer msg s
  | .busyBackoffExpiry peer msg chunk => Sys2Proof.Machine.execBusyBackoffExpiry peer msg chunk s
  | .contextRecallDone ep status => Sys2Proof.Machine.execContextRecallDone ep status s
  | .nvmeSqDoorbell ctrl qid value => Sys2Proof.Machine.execNvmeSqDoorbell ctrl qid value s
  | .nvmeCqDoorbell ctrl qid value => Sys2Proof.Machine.execNvmeCqDoorbell ctrl qid value s
  | .nvmeFetch => Sys2Proof.Machine.execNvmeFetch s
  | .nvmeCommandForward ctrl sqid => Sys2Proof.Machine.execNvmeCommandForward ctrl sqid s
  | .nvmeRead h bad => Sys2Proof.Machine.execNvmeRead h bad s
  | .nvmeWrite h => Sys2Proof.Machine.execNvmeWrite h s
  | .compare h bad => Sys2Proof.Machine.execCompare h bad s
  | .writeZeroes h => Sys2Proof.Machine.execWriteZeroes h s
  | .datasetManagement h => Sys2Proof.Machine.execDatasetManagement h s
  | .verify h bad => Sys2Proof.Machine.execVerify h bad s
  | .nvmeFlush h => Sys2Proof.Machine.execNvmeFlush h s
  | .nvsData w => Sys2Proof.Machine.execNvsData w s
  | .nvsComplete w => Sys2Proof.Machine.execNvsComplete w s
  | .createIoSq h => Sys2Proof.Machine.execCreateIoSq h s
  | .deleteIoSq h => Sys2Proof.Machine.execDeleteIoSq h s
  | .createIoCq h => Sys2Proof.Machine.execCreateIoCq h s
  | .deleteIoCq h => Sys2Proof.Machine.execDeleteIoCq h s
  | .identify h => Sys2Proof.Machine.execIdentify h s
  | .getLogPage h => Sys2Proof.Machine.execGetLogPage h s
  | .setFeatures h => Sys2Proof.Machine.execSetFeatures h s
  | .getFeatures h => Sys2Proof.Machine.execGetFeatures h s
  | .asyncEventRequest h => Sys2Proof.Machine.execAsyncEventRequest h s
  | .nvmeAbort h => Sys2Proof.Machine.execNvmeAbort h s
  | .firmwareImageDownload h => Sys2Proof.Machine.execFirmwareImageDownload h s
  | .firmwareCommit h => Sys2Proof.Machine.execFirmwareCommit h s
  | .deviceSelfTest h => Sys2Proof.Machine.execDeviceSelfTest h s
  | .selfTestWork ctrl bad => Sys2Proof.Machine.execSelfTestWork ctrl bad s
  | .ccEnable ctrl cc aqa asq acq => Sys2Proof.Machine.execCcEnable ctrl cc aqa asq acq s
  | .ccDisable ctrl => Sys2Proof.Machine.execCcDisable ctrl s
  | .ccShutdown ctrl shn => Sys2Proof.Machine.execCcShutdown ctrl shn s
  | .shutdownComplete ctrl => Sys2Proof.Machine.execShutdownComplete ctrl s
  | .interruptCoalesceExpiry ctrl cq => Sys2Proof.Machine.execInterruptCoalesceExpiry ctrl cq s
  | .ctrlCreate who desc => Sys2Proof.Machine.execCtrlCreate who desc s
  | .ctrlDestroy who => Sys2Proof.Machine.execCtrlDestroy who s
  | .nsCreate who desc => Sys2Proof.Machine.execNsCreate who desc s
  | .nsDestroy who => Sys2Proof.Machine.execNsDestroy who s
  | .nsAttach who => Sys2Proof.Machine.execNsAttach who s
  | .nsDetach who => Sys2Proof.Machine.execNsDetach who s
  | .fwDone who block => Sys2Proof.Machine.execFwDone who block s
  | .cipher w => Sys2Proof.Machine.execCipher w s
  | .digest w => Sys2Proof.Machine.execDigest w s
  | .pkey w => Sys2Proof.Machine.execPkey w s
  | .compress w => Sys2Proof.Machine.execCompress w s
  | .decompress w => Sys2Proof.Machine.execDecompress w s
  | .crc w => Sys2Proof.Machine.execCrc w s
  | .ecEncode w => Sys2Proof.Machine.execEcEncode w s
  | .ecDecode w => Sys2Proof.Machine.execEcDecode w s
  | .scrub w => Sys2Proof.Machine.execScrub w s
  | .keyLoad w host => Sys2Proof.Machine.execKeyLoad w host s
  | .keyGenerate w => Sys2Proof.Machine.execKeyGenerate w s
  | .keyDestroy w => Sys2Proof.Machine.execKeyDestroy w s
  | .keyDestroyFence index => Sys2Proof.Machine.execKeyDestroyFence index s
  | .segCreate who desc => Sys2Proof.Machine.execSegCreate who desc s
  | .segDestroy who => Sys2Proof.Machine.execSegDestroy who s
  | .segGrant who entry => Sys2Proof.Machine.execSegGrant who entry s
  | .segRevoke who => Sys2Proof.Machine.execSegRevoke who s
  | .importAdd who entry => Sys2Proof.Machine.execImportAdd who entry s
  | .importDel who => Sys2Proof.Machine.execImportDel who s
  | .apertureSet who => Sys2Proof.Machine.execApertureSet who s
  | .fabTemplateWrite who template => Sys2Proof.Machine.execFabTemplateWrite who template s
  | .seedWrite who addr => Sys2Proof.Machine.execSeedWrite who addr s
  | .rmtRead who => Sys2Proof.Machine.execRmtRead who s
  | .rmtWrite who => Sys2Proof.Machine.execRmtWrite who s
  | .poolAtomic w => Sys2Proof.Machine.execPoolAtomic w s
  | .apertureAccess who off len data => Sys2Proof.Machine.execApertureAccess who off len data s
  | .apertureReadTimeout id => Sys2Proof.Machine.execApertureReadTimeout id s
  | .fabricEnable who value => Sys2Proof.Machine.execFabricEnable who value s
  | .fabricDisable who value => Sys2Proof.Machine.execFabricDisable who value s
  | .helloTimer => Sys2Proof.Machine.execHelloTimer s
  | .electionSettled => Sys2Proof.Machine.execElectionSettled s
  | .coordinatorTimeout => Sys2Proof.Machine.execCoordinatorTimeout s
  | .neighbourTimeout mac => Sys2Proof.Machine.execNeighbourTimeout mac s
  | .hello mac p => Sys2Proof.Machine.execHello mac p s
  | .idRequest p => Sys2Proof.Machine.execIdRequest p s
  | .idAssign p => Sys2Proof.Machine.execIdAssign p s
  | .idRevoke p => Sys2Proof.Machine.execIdRevoke p s
  | .memberUpdate p => Sys2Proof.Machine.execMemberUpdate p s
  | .memberAck p => Sys2Proof.Machine.execMemberAck p s
  | .probe p => Sys2Proof.Machine.execProbe p s
  | .probeAck p => Sys2Proof.Machine.execProbeAck p s
  | .linkState mac p => Sys2Proof.Machine.execLinkState mac p s
  | .linkStateTimer => Sys2Proof.Machine.execLinkStateTimer s
  | .routeTableSwitch => Sys2Proof.Machine.execRouteTableSwitch s
  | .regAccess p => Sys2Proof.Machine.execRegAccess p s
  | .regResp p => Sys2Proof.Machine.execRegResp p s
  | .pathSilent peer path => Sys2Proof.Machine.execPathSilent peer path s
  | .pathIdleProbe peer path => Sys2Proof.Machine.execPathIdleProbe peer path s
  | .probeRetryExpiry peer path => Sys2Proof.Machine.execProbeRetryExpiry peer path s
  | .pathRevive peer path => Sys2Proof.Machine.execPathRevive peer path s
  | .ethLinkChange mac up => Sys2Proof.Machine.execEthLinkChange mac up s
  | .regulationRun l samples => Sys2Proof.Machine.execRegulationRun l samples s
  | .regulationApply l => Sys2Proof.Machine.execRegulationApply l s
  | .envelopeApply l => Sys2Proof.Machine.execEnvelopeApply l s
  | .adviceAccept who l run => Sys2Proof.Machine.execAdviceAccept who l run s
  | .decisionJournalFlush l => Sys2Proof.Machine.execDecisionJournalFlush l s
  | .read who bad => Sys2Proof.Machine.execRead who bad s
  | .readPrev who => Sys2Proof.Machine.execReadPrev who s
  | .mark who block => Sys2Proof.Machine.execMark who block s
  | .journalAck who value => Sys2Proof.Machine.execJournalAck who value s
  | .patinaReadLatch who => Sys2Proof.Machine.execPatinaReadLatch who s
  | .readJournal eid start n bad => Sys2Proof.Machine.execReadJournal eid start n bad s
  | .readPrevJournal eid start n => Sys2Proof.Machine.execReadPrevJournal eid start n s
  | .readPatina eid start n => Sys2Proof.Machine.execReadPatina eid start n s
  | .readPinned eid start n => Sys2Proof.Machine.execReadPinned eid start n s
  | .clearPinned eid => Sys2Proof.Machine.execClearPinned eid s
  | .pwrRead eid off => Sys2Proof.Machine.execPwrRead eid off s
  | .svcRead eid off => Sys2Proof.Machine.execSvcRead eid off s
  | .drain who => Sys2Proof.Machine.execDrain who s
  | .drainCancel who => Sys2Proof.Machine.execDrainCancel who s
  | .unitDrained kind index => Sys2Proof.Machine.execUnitDrained kind index s
  | .unitDrainTimeout kind index => Sys2Proof.Machine.execUnitDrainTimeout kind index s
  | .test who => Sys2Proof.Machine.execTest who s
  | .testDone kind index pass => Sys2Proof.Machine.execTestDone kind index pass s
  | .readmit who => Sys2Proof.Machine.execReadmit who s
  | .probationStep kind index => Sys2Proof.Machine.execProbationStep kind index s
  | .probationEnd kind index => Sys2Proof.Machine.execProbationEnd kind index s
  | .substitute who => Sys2Proof.Machine.execSubstitute who s
  | .retire who => Sys2Proof.Machine.execRetire who s
  | .repair who => Sys2Proof.Machine.execRepair who s
  | .repairDone index ok => Sys2Proof.Machine.execRepairDone index ok s
  | .spare who => Sys2Proof.Machine.execSpare who s
  | .spareSwitch stack => Sys2Proof.Machine.execSpareSwitch stack s
  | .plinthSwitch who => Sys2Proof.Machine.execPlinthSwitch who s
  | .plinthReady => Sys2Proof.Machine.execPlinthReady s
  | .plinthSwitchTimeout => Sys2Proof.Machine.execPlinthSwitchTimeout s
  | .plinthLockstepRestart => Sys2Proof.Machine.execPlinthLockstepRestart s
  | .unitFailure kind index code => Sys2Proof.Machine.execUnitFailure kind index code s
  | .correctedError pc => Sys2Proof.Machine.execCorrectedError pc s
  | .recoveryEntry structure_ bank => Sys2Proof.Machine.execRecoveryEntry structure_ bank s
  | .recoveryExit rebuilt => Sys2Proof.Machine.execRecoveryExit rebuilt s
  | .functionReady ap => Sys2Proof.Machine.execFunctionReady ap s
  | .armatureReloadDone kind index => Sys2Proof.Machine.execArmatureReloadDone kind index s
  | .acceleratorWorkDone w slice load bad => Sys2Proof.Machine.execAcceleratorWorkDone w slice load bad s
  | .readClears who offset => Sys2Proof.Machine.execReadClears who offset s

end Sys2Proof.Machine
end

