-- ==== Sys2Proof/Machine/Step.lean ====
section
/-!
DEFINITION. One step: the command at the front of the queue is carried out over the queue's rest.
-/
namespace Sys2Proof.Machine

/-- The first waiting command is carried out; with none waiting, the block idles. -/
def step (s : State) : Outcome :=
  match s.pending with
  | c :: rest => exec c { s with pending := rest }
  | [] => .next s

/-- A state with the command that a word spells at the front of its queue; unchanged where it spells none. -/
def State.withFetchWord (s : State) (nbits w : Nat) : State :=
  match decodeTableWord nbits w with
  | some c => { s with pending := c :: s.pending }
  | none => s

end Sys2Proof.Machine
end

