-- ==== Sys2Proof/Safety.lean ====
section
/-!
DEFINITION. The terms in which claims about runs are made: what a command answers, and the canonical form of device memory.
-/
namespace Sys2Proof.Machine

/-- A command carried out on a state answers a next state, of which `p` holds. -/
def answers (c : Instr) (s : State) (p : State → Prop) : Prop := ∃ t, exec c s = .next t ∧ p t

/-- Device memory is in its canonical form: addresses strictly rising, no zero byte listed. -/
abbrev State.memOk (s : State) : Prop := Memory.wf s.mem = true

/-- A store of bytes at an address: each of its bytes reads as given after, and every other byte of device memory as before. -/
def storesAt (s t : State) (start : Nat) (l : List Byte) : Prop :=
  (∀ a, a < start ∨ start + l.length ≤ a → memRead t a = memRead s a) ∧ ∀ k (h : k < l.length), memRead t (start + k) = l[k]

/-- R273: how often a device-scoped event about an object has been raised in the running stroke. -/
def evCount (s : State) (id obj : Nat) : Nat :=
  ((s.events.filter fun e => e.id == id && e.obj == obj && decide (e.target = .device)).map (·.count)).sum

/-- Two states agree on every register field at every instance, but for the fields listed; a field is known by its register's
offset and its lowest bit there. -/
def sameRegsBut (l : List Field) (s t : State) : Prop :=
  ∀ (f : Field) (i : Nat), f.lo < 128 → (f.off, f.lo) ∉ l.map (fun g => (g.off, g.lo)) → t.getI f i = s.getI f i

/-- The parts of the state beside the registers. -/
inductive Part
  | mem | free | stk | arm | hif | nch | rng | dma | til | prs | tbl | sch | nvs | acc | tlt | fab | rgl | svc | pwr | jnl | pat | cmds
  | deferred | events | out | pending
  deriving DecidableEq, Repr

/-- Two states agree on a part. -/
def samePart (p : Part) (s t : State) : Prop :=
  match p with
  | .mem => t.mem = s.mem
  | .free => t.free = s.free
  | .stk => t.stk = s.stk
  | .arm => t.arm = s.arm
  | .hif => t.hif = s.hif
  | .nch => t.nch = s.nch
  | .rng => t.rng = s.rng
  | .dma => t.dma = s.dma
  | .til => t.til = s.til
  | .prs => t.prs = s.prs
  | .tbl => t.tbl = s.tbl
  | .sch => t.sch = s.sch
  | .nvs => t.nvs = s.nvs
  | .acc => t.acc = s.acc
  | .tlt => t.tlt = s.tlt
  | .fab => t.fab = s.fab
  | .rgl => t.rgl = s.rgl
  | .svc => t.svc = s.svc
  | .pwr => t.pwr = s.pwr
  | .jnl => t.jnl = s.jnl
  | .pat => t.pat = s.pat
  | .cmds => t.cmds = s.cmds
  | .deferred => t.deferred = s.deferred
  | .events => t.events = s.events
  | .out => t.out = s.out
  | .pending => t.pending = s.pending

/-- The frame of a command: whatever it answers, every part but those listed and every register field but those listed is as it was. -/
def keeps (c : Instr) (parts : List Part) (fields : List Field) : Prop :=
  ∀ s t : State, exec c s = .next t → (∀ p : Part, p ∉ parts → samePart p s t) ∧ sameRegsBut fields s t

/-- The frame of a command that may set any register field: every part but those listed is as it was. -/
def keepsParts (c : Instr) (parts : List Part) : Prop :=
  ∀ s t : State, exec c s = .next t → ∀ p : Part, p ∉ parts → samePart p s t

/-! ### Fields that show together -/

/-- R734, R737: what a journal entry shows. -/
def Shows.journal : List Field :=
  [Reg.JNL_CKPT_SEQ, Reg.JNL_HEAD_SEQ, Reg.JNL_OLDEST_SEQ, Reg.JNL_STATUS_LAG, Reg.JNL_STATUS_OVERRUN]

/-- R739, R741, R742: what a patina entry shows. -/
def Shows.patinaLog : List Field :=
  [Reg.PAT_HEAD_SEQ, Reg.PAT_OLDEST_SEQ, Reg.PAT_PIN_INFO_OVERFLOW,
   Reg.PAT_PIN_INFO_USED, Reg.PAT_STATUS_NEW_ENTRY, Reg.PAT_STATUS_PINNED, Reg.PAT_STATUS_PINNED_FULL]

/-- R741, R744: what a counter that saturates shows. -/
def Shows.saturation : List Field :=
  [Reg.PAT_SAT_LAST_NICHE_PAGE, Reg.PAT_SAT_LAST_OFFSET, Reg.PAT_SAT_LAST_STROKE, Reg.PAT_STATUS_CNT_SAT]

/-- R285, R286, R370: what a completion shows in its rings or in a tile channel. -/
def Shows.completions : List Field :=
  [Reg.RNG_INFO_ARMED, Reg.RNG_INFO_IDLE, Reg.RNG_PTRS_PRODUCER, Reg.RNG_PTRS_HELD, Reg.RNG_PTRS_IN_FLIGHT, Reg.TIL_CH_INFO_LEVEL]

/-- R598, R602, R603, R604: what a failed storage command shows. -/
def Shows.nvsErrors : List Field :=
  [Reg.NVS_ERR_CNT_COUNT, Reg.NVS_ERR_CNT_SAT, Reg.NVS_ERR_LAST_CID, Reg.NVS_ERR_LAST_CTRL,
   Reg.NVS_ERR_LAST_NVME_STATUS, Reg.NVS_ERR_LAST_SQID, Reg.NVS_ERR_LAST_STATUS, Reg.NVS_INFLIGHT_IN_USE, Reg.NVS_STATUS_ERR]

/-- R320, R321, R322: what a failed DMA entry shows. -/
def Shows.dmaErrors : List Field :=
  [Reg.DMA_ERR_CNT_COUNT, Reg.DMA_ERR_CNT_SAT, Reg.DMA_ERR_LAST_NICHE,
   Reg.DMA_ERR_LAST_RING, Reg.DMA_ERR_LAST_STATUS, Reg.DMA_ERR_LAST_TAG, Reg.DMA_STATUS_ERR]

/-- R318: what a DMA channel shows of its entry. -/
def Shows.dmaChannel : List Field :=
  [Reg.DMA_CH_STAT_BUSY, Reg.DMA_CH_STAT_NICHE, Reg.DMA_CH_STAT_PRIO, Reg.DMA_CH_STAT_REPEAT, Reg.DMA_CH_STAT_RING, Reg.DMA_CH_STAT_TAG]

/-- R625, R627, R628: what a failed accelerator entry shows. -/
def Shows.accErrors : List Field :=
  [Reg.ACC_ERR_CNT_COUNT, Reg.ACC_ERR_CNT_SAT, Reg.ACC_ERR_LAST_NICHE, Reg.ACC_ERR_LAST_REASON,
   Reg.ACC_ERR_LAST_SLICE, Reg.ACC_ERR_LAST_STATUS, Reg.ACC_ERR_LAST_STROKE, Reg.ACC_STATUS_ERR]

/-- R75, R92, R499, R501, R506, R510: what a frame that is queued, dropped or stamped shows. -/
def Shows.frameLeaves : List Field :=
  [Reg.SCH_NODE_STATE_BACKLOG_KIB, Reg.SCH_NODE_STATE_CREDIT, Reg.SCH_NODE_STATE_WAITING, Reg.SCH_SDU_DROP_COUNT, Reg.SCH_SDU_DROP_SAT, Reg.SCH_STATUS_SDU_DROP,
   Reg.SCH_Q_DROP_COUNT, Reg.SCH_Q_DROP_SAT, Reg.SCH_STATUS_QUEUE_DROP, Reg.STK_STATUS_TXTS_OVF, Reg.STK_TXTS_DROP_COUNT, Reg.STK_TXTS_DROP_SAT]

/-- R667, R673: what a frame in transit shows. -/
def Shows.transit : List Field :=
  [Reg.FAB_STATUS_TRANSIT_DROP, Reg.FAB_TRANSIT_DROP_COUNT, Reg.FAB_TRANSIT_DROP_SAT, Reg.FAB_TRANSIT_PKT_COUNT]

/-- R772, R776: the availability requirements met. -/
def Shows.availability : List Field :=
  [Reg.SVC_AVAIL_ALL_MET, Reg.SVC_AVAIL_HOSTS, Reg.SVC_AVAIL_PORTS, Reg.SVC_AVAIL_SPARES,
   Reg.SVC_AVAIL_STANDBY_COUNT, Reg.SVC_AVAIL_STANDBY_MGR, Reg.SVC_AVAIL_STANDBY_TILES, Reg.SVC_STATUS_AVAIL_LOST]

/-- R155, R360, R623, R772, R773: the state of a replaceable unit. -/
def Shows.unitShows : List Field :=
  [Reg.ACC_SLICE_UNIT_STATE, Reg.ARM_PART_ACTIVE, Reg.ARM_PART_UNITS,
   Reg.SVC_STATUS_UNIT_CHANGE, Reg.SVC_UNIT_INFO_STATE, Reg.SVC_UNIT_INFO_STROKE, Reg.TIL_INFO_UNIT_STATE]

/-- R197, R205: the state of a host link. -/
def Shows.linkShows : List Field :=
  [Reg.HIF_LINK_FLIT, Reg.HIF_LINK_L0P_WIDTH, Reg.HIF_LINK_PM,
   Reg.HIF_LINK_SPEED, Reg.HIF_LINK_UP, Reg.HIF_LINK_WIDTH, Reg.HIF_STATUS_LINK_CHANGE]

/-- R207: what a function shows of itself. -/
def Shows.fnShows : List Field :=
  [Reg.HIF_FN_INFO_BME, Reg.HIF_FN_INFO_CTO_RANGE, Reg.HIF_FN_INFO_EFF_TIMEOUT_US, Reg.HIF_FN_INFO_EXISTS]

/-- R144, R152, R155: what a re-armature job shows. -/
def Shows.jobShows : List Field :=
  [Reg.ARM_JOB_PART_MASK, Reg.ARM_JOB_RESULT, Reg.ARM_PART_IN_JOB, Reg.ARM_STATUS_JOB_ACTIVE]

/-- R285, R287, R292: what a ring that is created or destroyed shows. -/
def Shows.ringShows : List Field :=
  [Reg.RNG_BASE_BASE, Reg.RNG_INFO_CONTROL, Reg.RNG_INFO_LINK, Reg.RNG_INFO_NICHE, Reg.RNG_INFO_RECEIVE, Reg.RNG_INFO_RESIDENT,
   Reg.RNG_INFO_RX_TS, Reg.RNG_INFO_SIZE_LOG2, Reg.RNG_INFO_TYPE, Reg.RNG_INFO_UNORDERED, Reg.RNG_POLL_POLL_MAX, Reg.RNG_POLL_POLL_MIN]

/-- R149, R150, R152: what a consumed step shows. -/
def Shows.fuseRecord : List Field :=
  [Reg.ARM_FUSE_REC_DATA_ARG, Reg.ARM_FUSE_REC_DATA_EPOCH, Reg.ARM_FUSE_REC_DATA_TALLY, Reg.ARM_FUSE_REC_DATA_UNIT,
   Reg.ARM_FUSE_REC_DATA_VALID, Reg.ARM_FUSE_REC_DETAIL_ROW, Reg.ARM_STATUS_TALLY_LOW, Reg.ARM_TALLY_CONSUMED]

/-- R566: what a Turelm packet that leaves shows. -/
def Shows.turelmSends : List Field :=
  [Reg.TLT_TX_BYTE_LO_BYTES, Reg.TLT_TX_PKT_COUNT]

/-- R564: what a NAK received shows. -/
def Shows.nakLast : List Field :=
  [Reg.TLT_NAK_LAST_ENDPOINT, Reg.TLT_NAK_LAST_PEER, Reg.TLT_NAK_LAST_RECEIVED, Reg.TLT_NAK_LAST_STATUS]

/-- R556, R565, R672: what an access that fails late shows. -/
def Shows.lateFails : List Field :=
  [Reg.FAB_RMT_DATA_DATA, Reg.TLT_LATE_FAIL_COUNT, Reg.TLT_LATE_FAIL_SAT, Reg.TLT_STATUS_LATE_FAIL]

/-- R594, R596: what the NVS command register shows. -/
def Shows.nvsCommand : List Field :=
  [Reg.NVS_CMD_BUSY, Reg.NVS_CMD_STATUS_OBJECT, Reg.NVS_CMD_STATUS_OP, Reg.NVS_CMD_STATUS_STATUS, Reg.NVS_CMD_STATUS_STROKE]

/-- R660, R662: what the FAB command register shows. -/
def Shows.fabCommand : List Field :=
  [Reg.FAB_CMD_BUSY, Reg.FAB_CMD_STATUS_OBJECT, Reg.FAB_CMD_STATUS_OP, Reg.FAB_CMD_STATUS_STATUS, Reg.FAB_CMD_STATUS_STROKE]

/-- R236, R238: what the NCH command register shows. -/
def Shows.nchCommand : List Field :=
  [Reg.NCH_CMD_BUSY, Reg.NCH_CMD_STATUS_NICHE, Reg.NCH_CMD_STATUS_OP, Reg.NCH_CMD_STATUS_STATUS, Reg.NCH_CMD_STATUS_STROKE]

/-- R282, R283: what the RNG command register shows. -/
def Shows.rngCommand : List Field :=
  [Reg.RNG_CMD_BUSY, Reg.RNG_CMD_STATUS_RING, Reg.RNG_CMD_STATUS_OP, Reg.RNG_CMD_STATUS_STATUS, Reg.RNG_CMD_STATUS_STROKE]

/-- R413, R415: what the PRS command register shows. -/
def Shows.prsCommand : List Field :=
  [Reg.PRS_CMD_BUSY, Reg.PRS_CMD_OP, Reg.PRS_CMD_STATUS_OP, Reg.PRS_CMD_STATUS_STATUS, Reg.PRS_CMD_STATUS_STROKE]

/-- R454: what the TBL command register shows. -/
def Shows.tblCommand : List Field :=
  [Reg.TBL_CMD_BUSY, Reg.TBL_CMD_OP, Reg.TBL_CMD_STATUS_OP, Reg.TBL_CMD_STATUS_STATUS, Reg.TBL_CMD_STATUS_STROKE]

/-- R494: what the SCH command register shows. -/
def Shows.schCommand : List Field :=
  [Reg.SCH_CMD_BUSY, Reg.SCH_CMD_OP, Reg.SCH_CMD_STATUS_OP, Reg.SCH_CMD_STATUS_STATUS, Reg.SCH_CMD_STATUS_STROKE]

/-- R799: what the PWR command register shows. -/
def Shows.pwrCommand : List Field :=
  [Reg.PWR_CMD_BUSY, Reg.PWR_CMD_OP, Reg.PWR_CMD_STATUS_OP, Reg.PWR_CMD_STATUS_STATUS, Reg.PWR_CMD_STATUS_STROKE]

/-- R769: what the SVC command register shows. -/
def Shows.svcCommand : List Field :=
  [Reg.SVC_CMD_BUSY, Reg.SVC_CMD_OP, Reg.SVC_CMD_STATUS_OP, Reg.SVC_CMD_STATUS_STATUS, Reg.SVC_CMD_STATUS_STROKE]

/-- R736: what the JNL command register shows. -/
def Shows.jnlCommand : List Field :=
  [Reg.JNL_CMD_BUSY, Reg.JNL_CMD_OP, Reg.JNL_CMD_STATUS_OP, Reg.JNL_CMD_STATUS_STATUS, Reg.JNL_CMD_STATUS_STROKE]

/-! ### End of fields -/

/-- R18, R165, R709, R790: a register write of an issuer reaches its register. -/
abbrev writeOpen (s : State) (who : Issuer) (off : Nat) : Prop :=
  s.mayWriteRegs who = true ∧ s.blockAnswers off = true ∧ s.jReady who = true

/-- R790: a register read is answered. -/
abbrev readOpen (s : State) (off : Nat) : Prop := s.blockAnswers off = true

/-- R709, R828: a command of a command register starts: the journal's region is ready for its issuer and no command runs. -/
abbrev cmdOpen (s : State) (b : CmdBlk) (who : Issuer) : Prop := s.jReady who = true ∧ s.flag b.busy = false

/-- R121, R122, R709, R765: an armature command starts: no other runs, no plinth switch is under way, and no job turns it away. -/
abbrev armOpen (s : State) (op : Nat) (who : Issuer) : Prop :=
  s.jReady who = true ∧ s.flag Reg.ARM_CMD_BUSY = false ∧ s.svc.plinth = none ∧ jobBlocks s op = false

/-- R123: a staged token passes the checks of its kind. -/
abbrev tokenHolds (s : State) (kind : Nat) (t : Token) : Prop :=
  s.arm.stagedToken = some t ∧ byteField t.bytes 0 1 = 0x4F54 ∧ byteField t.bytes 2 2 = kind ∧
  byteField t.bytes 4 11 = s.get Reg.ARM_DEVICE_UID_VALUE ∧ byteField t.bytes 12 19 = s.get Reg.ARM_NONCE_VALUE ∧ sigsAccepted s t.sigs = true

/-- R165, R709, R828: a command that the manager writes into a command register of a block starts. -/
abbrev managerCmd (s : State) (b : CmdBlk) (off : Nat) (who : Issuer) : Prop :=
  who.role = .manager ∧ s.mayWriteRegs who = true ∧ s.blockAnswers off = true ∧ cmdOpen s b who

/-- R227, R234: a niche command of the manager on a niche that takes commands. -/
abbrev nicheCmd (s : State) (who : Issuer) (n : Nat) : Prop :=
  managerCmd s Blk.nch 0x400000 who ∧ s.get Reg.NCH_CMD_NICHE = n ∧ s.nicheRefusal n = none

/-- R247: a taken work entry of an opcode that starts now: its flight, the only one with its sequence number first in line. -/
abbrev takes (s : State) (w : Work) (opcode : Nat) (f : Flight) : Prop := s.workFlight w opcode = some f ∧ s.flight f.seq = some f

/-- R249, R269: a work entry has finished with a status: its completion has committed, or waits with that status for its turn. -/
abbrev finishedWith (t : State) (seq st : Nat) : Prop := ∀ g ∈ t.rng.flights, g.seq = seq → g.done.map (·.status) = some st

/-- R247: the state in which a taken work entry is handed to its engine. -/
abbrev starting (s : State) (f : Flight) : State := updFlight f.seq (fun f => { f with started := true }) s

/-- R332, R339, R795: a thread in RUN acts. -/
abbrev threadRuns (s : State) (hart : Nat) : Prop :=
  hartOk hart = true ∧ s.running = true ∧ s.inP1 = false ∧ s.thrState hart = 1 ∧ (s.thread hart).blocked = false

/-- R396 to R399, R413: a rule command of the manager on a stage that takes changes. -/
abbrev ruleOpen (s : State) (who : Issuer) : Prop :=
  managerCmd s Blk.prs 0xA00000 who ∧ s.tblOpen = true ∧ s.stageRefusal = none

/-- R437, R454: a table command of the manager in a device state that takes table commands. -/
abbrev tableOpen (s : State) (who : Issuer) : Prop := managerCmd s Blk.tbl 0xB00000 who ∧ s.tblOpen = true

/-- R385, R398: a frame whose vector stands inside its pipeline, parked or about to leave. -/
def Pkt.inPipe (p : Pkt) : Bool :=
  match p.at_ with
  | .parked _ => true
  | .leaving => true
  | _ => false

/-- R517, R520, R544: a Turelm work entry of an opcode that can start: its endpoint is its niche's, held, and its context on die. -/
abbrev tlTakes (s : State) (w : Work) (opcode : Nat) (f : Flight) (e : Endpoint) : Prop :=
  takes s w opcode f ∧ s.ownEp f.niche (eEp f.entry) = some e ∧ e.lost = false ∧ e.onDie = true

/-- R527 checks 1 and 2: a Turelm packet arrives whole, of the version and the sender's epoch in force. -/
abbrev arrives (s : State) (p : TlPkt) : Prop :=
  s.inP1 = false ∧ p.csumBad = false ∧ p.version = 1 ∧ s.flagI Reg.TLT_PEER_INFO_KNOWN p.src = true ∧
  ahead 8 p.epoch (s.getI Reg.TLT_PEER_INFO_PEER_EPOCH p.src) = 0

/-- R527 checks 3 and 4, R649: the target of a request serves it: the pool service, or an endpoint on die of an ACTIVE niche in D0. -/
abbrev targetOpen (s : State) (p : TlPkt) : Prop :=
  if p.dstEp = poolEp ∧ (p.op = 1 ∨ p.op = 4 ∨ p.op = 6) then s.fabId.isSome = true ∧ poolOpen s (byteField p.ext 0 3) = St.ok
  else ((Map.find? s.tlt.eps p.dstEp).any fun e => !e.lost && e.onDie && s.nicheState e.niche == 1 && !s.nicheAsleep e.niche) = true

/-- R566, R633: a control packet arrives whole, of the version in force, while the fabric is enabled. -/
abbrev ctlArrives (s : State) (p : TlPkt) : Prop := p.csumBad = false ∧ p.version = 1 ∧ s.flag Reg.FAB_CFG_ENABLE = true

/-- R749, R765, R828: a unit command of the platform, on a unit that exists, starts: no command or plinth switch is under way, and no
re-armature job holds the unit's partition. -/
abbrev unitOpen (s : State) (who : Issuer) (kind index : Nat) : Prop :=
  who.role = .platform ∧ s.flag Reg.SVC_CMD_BUSY = false ∧ s.svc.plinth = none ∧ s.get Reg.SVC_CMD_ARG_KIND = kind ∧
  s.get Reg.SVC_CMD_ARG_INDEX = index ∧ index < unitCount kind ∧ jobHolds s (unitKey kind index) = false

/-- R20, R706: the registers whose writes show in other registers, or wait as an envelope does. -/
def writeShows (off : Nat) : Bool := [0x1100110, 0x3000D0, 0x300040, 0x500100, 0x500208, 0x500038].contains off

/-- R20, R165, R117: a write of an issuer reaches a register that has no row of its own, is the issuer's to write, and exceeds no bound. -/
abbrev writeReaches (s : State) (who : Issuer) (off v : Nat) (d : RegDef) (i : Nat) : Prop :=
  who.origin ≠ .mctp ∧ (ownWrite who off v s).isNone = true ∧ s.mayWriteRegs who = true ∧ s.blockAnswers off = true ∧ off % 8 = 0 ∧
  findReg s who off = some (d, i) ∧ writeForbidden who off = false ∧ writeViolation s d i v = false

/-- R633: a packet of a kind has left. -/
def sentOut (t : State) (p : TlPkt → Bool) : Bool :=
  t.out.any fun o => match o with
    | .turelm _ _ _ q => p q
    | _ => false

/-- R606, R607: a slice may finish a dealt entry: it serves, and is the entry's own or of its kind while that one does not serve. -/
abbrev sliceMay (s : State) (slice k since entry : Nat) : Prop :=
  s.running = true ∧ s.unitServes 3 slice = true ∧ sliceBase slice = sliceBase k ∧ (slice = k ∨ s.unitServes 3 k = false) ∧
  scrubPaced s entry since = true

/-- A work entry under way that has not finished. -/
abbrev waits (s : State) (q : Nat) : Prop := (s.flight q).any (fun g => g.done.isNone) = true

/-- R581: an I/O command of a LOCAL or POOL namespace that is ready to be served. -/
abbrev ioReady (s : State) (h opcode slot : Nat) (c : NvCmd) : Prop :=
  s.nvCmd h = some (slot, c) ∧ s.running = true ∧ c.sqid ≠ 0 ∧ qOpcode c.sqe = opcode ∧ c.stage = 2 ∧ nBackend (s.nsDesc c.ns) < 2 ∧
  c.err = none ∧ c.test = false

/-- R589: an admin command that is ready to be served. -/
abbrev adminReady (s : State) (h opcode slot : Nat) (c : NvCmd) (x : NvCtrl) : Prop :=
  s.nvCmd h = some (slot, c) ∧ s.nvCtrl c.ctrl = some x ∧ c.sqid = 0 ∧ qOpcode c.sqe = opcode ∧ c.stage = 2 ∧ c.err = none ∧ c.test = false

/-- R576: a completion of a command has been committed to its completion queue as it stood before: written to the host at the
queue's tail with its phase tag, or held while it may not be. -/
def cqeGoes (s t : State) (c : NvCmd) (dw0 sf : Nat) : Bool :=
  match s.nvSq c.ctrl c.sqid with
  | none => true
  | some q =>
    match s.nvCq c.ctrl q.cq with
    | none => true
    | some y =>
      let w := nvEntry dw0 q.head c.sqid (qCid c.sqe) sf
      let n := s.nvNiche c.ctrl
      if y.held = [] ∧ 0 < y.free ∧ s.canIssue n then
        t.out.contains (.hostWrite (s.getI Reg.NCH_INFO_AP n) (s.getI Reg.NCH_INFO_RID n) (s.nichePasid n) (y.base + 16 * y.tail)
          (toBytes 16 (w + y.phase * 2 ^ 112)))
      else (t.nvCq c.ctrl q.cq).any fun z => z.held.contains w

end Sys2Proof.Machine
end

