-- ==== Sys2Proof/Certificates/Slice0/Obligations.lean ====
section
/-!
DEFINITION. What is to be proved of the model: what each command does to the state, what it leaves alone, and what every step keeps.
-/
open Sys2Proof Sys2Proof.Machine

/-- For every state with a command at the front of its queue, a step is what exec answers for that command on the state with the rest of the
  queue. The queue of waiting commands is the model's own (log entry 1). -/
def Obligations.StepRunsFrontCommand : Prop :=
  ∀ (c : Instr) (rest : List Instr) (s : State), s.pending = c :: rest → step s = exec c { s with pending := rest }

/-- For every state with an empty queue, a step answers that state. That the block idles between commands is the model's choice (DESIGN
  CHOICE, log entry 1): time advances only by the commands that are events in time. -/
def Obligations.IdleStepKeepsState : Prop :=
  ∀ s : State, s.pending = [] → step s = .next s

/-- For every command and every state, exec answers a next state: no command faults and none is refused. A command that the spec turns away
  (a status, a drop, a completion with an error) is a next state with the status that the spec gives. -/
def Obligations.EveryCommandAnswersNextState : Prop :=
  ∀ (c : Instr) (s : State), ∃ t : State, exec c s = .next t

/-- R6, R20, R23: In the state right after reset every instance of every register field reads the reset value of its table (the values that
  the tables leave to fuses or to the part are the model's, log entries 4 and 5), the device is in AUX, device memory lists nothing, no
  command waits and no event is raised. -/
def Obligations.ResetRegistersReadTheirResetValues : Prop :=
  (∀ (f : Field) (i : Nat), State.reset.getI f i = f.resetAt i) ∧
  State.reset.dev = 1 ∧
  State.reset.mem = [] ∧
  State.reset.pending = [] ∧
  State.reset.events = [] ∧
  State.reset.deferred = [] ∧
  State.reset.out = []

/-- R16, R152: The memory of the state right after reset is in its canonical form: addresses strictly rising, no zero byte listed. That
  memory which nothing has written reads zero is the model's choice (DESIGN CHOICE, log entry 3). -/
def Obligations.ResetMemoryIsCanonical : Prop :=
  State.reset.memOk

/-- R16, R302, R528, R621, R650: For every state whose device memory is in its canonical form, if a step answers a next state, then that
  state's memory is in its canonical form too. It holds of every command: DMA, Turelm, storage, accelerator, pool, CXL, debug and power
  commands all write memory through the same operations. -/
def Obligations.EveryStepKeepsMemoryCanonical : Prop :=
  ∀ s t : State, s.memOk → step s = .next t → t.memOk

/-- R191, R192, R353, R354, R581, R653: A CXL write, a debug write of tile or stacked memory, a write through an aperture into the local
  pool and the NVMe Write and Write Zeroes commands store their bytes at the address that the statement computes: each of them reads as
  written after, and every other byte of device memory as before. CXL_RESET zeroes the CXL range and no other byte. -/
def Obligations.StoringCommandsWriteOnlyTheirBytes : Prop :=
  (∀ (addr dpa : Nat) (data : List Byte) (bad : Bool) (s : State), s.flag Reg.HIF_CXL_CXL_MODE = true ∧ s.flagI Reg.HIF_LINK_UP 2 = true ∧
    hdmDecode s addr = some dpa ∧ dpa < s.cxlBytes.2 → answers (.cxlMemAccess addr data true bad) s fun t => storesAt s t (s.cxlBytes.1 +
    dpa) data) ∧
  (∀ s : State, s.flag Reg.HIF_CXL_CXL_MODE = true → answers .cxlReset s fun t => storesAt s t s.cxlBytes.1 (List.replicate s.cxlBytes.2 0))
    ∧
  (∀ (hart addr value : Nat) (s : State), addr < 0x140000 ∧ s.debugRight (hartTile hart) 2 = true → answers (.debugAccess hart 2 addr value)
    s fun t => storesAt s t (tileMemBase (hartTile hart) + addr) [BitVec.ofNat 8 value]) ∧
  (∀ (hart addr value : Nat) (s : State), s.debugRight (hartTile hart) 3 = true ∧ s.debugNiche ≠ 0xFFFF ∧ (s.stackedQuota s.debugNiche).1 ≤
    addr ∧ addr < (s.stackedQuota s.debugNiche).1 + (s.stackedQuota s.debugNiche).2 → answers (.debugAccess hart 4 addr value) s fun t =>
    storesAt s t addr [BitVec.ofNat 8 value]) ∧
  (∀ (who : Issuer) (off len : Nat) (d : List Byte) (i : Import) (x : Window) (size : Nat) (s : State), who.ap < 4 ∧ who.id < 65536 ∧
    s.fab.apt = [] ∧ aptSlotSize s (fnKey who.ap who.id) = size ∧ size ≠ 0 ∧ off / size < 64 ∧ (Map.find? s.fab.apertures (aptKey (fnKey
    who.ap who.id) (off / size))).bind (fun k => Map.find? s.fab.imports k) = some i ∧ off % size + d.length ≤ i.len ∧ poolStatus s i.niche
    i.key (i.base + off % size) d.length rightWrite St.fabImport = St.ok ∧ s.poolHere 3 (i.base + off % size) = true ∧ (localPool s i.key
    (fabOff (i.base + off % size)) d.length rightWrite).toOption = some x → answers (.apertureAccess who off len (some d)) s fun t =>
    storesAt s t (s.fab.pool.1 + fabOff (i.base + off % size)) d) ∧
  (∀ (h slot a k : Nat) (ext : Bool) (c : NvCmd) (x : NvCtrl) (l : List (Nat × Nat)) (blocks : List Byte) (s : State), Config.extendedLba
    c.ns = ext ∧ ioReady s h 1 slot c ∧ s.nvCtrl c.ctrl = some x ∧ (hostSpans x.page c.sqe (hostData ext (s.nsDesc c.ns) c.sqe (qNlb c.sqe))
    c.data).toOption = some (l, k) ∧ (blocksIn ext (s.nsDesc c.ns) c.sqe 0 (qNlb c.sqe) ((c.data.drop k).take (hostData ext (s.nsDesc c.ns)
    c.sqe (qNlb c.sqe))) (c.data.drop (k + hostData ext (s.nsDesc c.ns) c.sqe (qNlb c.sqe)))).toOption = some blocks ∧ (nsPlace s (s.nsDesc
    c.ns) (qSlba c.sqe * nStep (s.nsDesc c.ns)) blocks.length rightWrite).toOption = some (some a) → answers (.nvmeWrite h) s fun t =>
    storesAt s t a blocks) ∧
  (∀ (h slot a : Nat) (c : NvCmd) (s : State), ioReady s h 8 slot c ∧ (nsPlace s (s.nsDesc c.ns) (qSlba c.sqe * nStep (s.nsDesc c.ns))
    (zeroBlocks (s.nsDesc c.ns) (qNlb c.sqe)).length rightWrite).toOption = some (some a) → answers (.writeZeroes h) s fun t => storesAt s t
    a (zeroBlocks (s.nsDesc c.ns) (qNlb c.sqe)))

/-- R65: A SEND with a launch time (FLAGS bit 2) whose stroke lies more than HORIZON strokes of its queue's port after the current stroke
  finishes with ST_LAUNCH_RANGE when it is accepted; nothing of its frame is read and device memory is as before. A launch time within the
  horizon is accepted (RingTransferCommandsComplete). -/
def Obligations.LaunchBeyondHorizonIsRefused : Prop :=
  ∀ (w : Work) (f : Flight) (q : Nat) (s : State), takes s w 1 f ∧ Map.find? s.sch.local_ (localKey f.niche (byteField f.entry 24 25)) =
    some q ∧ bit (wFlags f.entry) 2 = 1 ∧ s.stk.phcNs / s.period + s.effI Reg.STK_LAUNCH_CFG_HORIZON (s.queuePort q) < expandTime
    s.stk.phcNs (byteField f.entry 16 23) / s.period → answers (.send w) s fun t => finishedWith t f.seq St.launchRange ∧ t.readPending
    f.seq = s.readPending f.seq ∧ t.hif = s.hif ∧ t.prs = s.prs ∧ t.sch = s.sch ∧ t.mem = s.mem

/-- R300: A COPY or FILL whose spaces its niche may use, and whose line lengths or counts lie outside 1 to 16 777 216, whose TOTAL lies
  outside 1 to 4 294 967 295 bytes, or (for COPY) whose SRC_LINE x SRC_LINES differs from DST_LINE x DST_LINES, finishes with ST_DMA_SHAPE
  at intake: no channel takes it, no read of its sources is issued and device memory is as before. TOTAL is DST_LINE x DST_LINES, so that
  its lower limit follows from the limits of the line. -/
def Obligations.DmaShapeIsCheckedAtIntake : Prop :=
  (∀ (w : Work) (f : Flight) (s : State), takes s w 0x40 f ∧ wOpcode f.entry = 0x40 ∧ spaceAllowed f (dDstSpace f.entry) = true ∧
    spaceAllowed f (dSrcSpace f.entry) = true ∧ ¬ (dSrcSpace f.entry = 3 ∧ dDstSpace f.entry = 3) ∧ ¬ (1 ≤ dDstLine f.entry ∧ dDstLine
    f.entry ≤ 16777216 ∧ 1 ≤ dDstLines f.entry ∧ dDstLines f.entry ≤ 16777216 ∧ dTotal f.entry ≤ 4294967295 ∧ 1 ≤ dSrcLine f.entry ∧
    dSrcLine f.entry ≤ 16777216 ∧ 1 ≤ dSrcLines f.entry ∧ dSrcLines f.entry ≤ 16777216 ∧ dSrcLine f.entry * dSrcLines f.entry = dDstLine
    f.entry * dDstLines f.entry) → answers (.copy w) s fun t => finishedWith t f.seq St.dmaShape ∧ t.dma = s.dma ∧ t.hif = s.hif ∧ t.mem =
    s.mem) ∧
  (∀ (w : Work) (f : Flight) (s : State), takes s w 0x41 f ∧ wOpcode f.entry = 0x41 ∧ spaceAllowed f (dDstSpace f.entry) = true ∧ ¬ (1 ≤
    dDstLine f.entry ∧ dDstLine f.entry ≤ 16777216 ∧ 1 ≤ dDstLines f.entry ∧ dDstLines f.entry ≤ 16777216 ∧ dTotal f.entry ≤ 4294967295) →
    answers (.fill w) s fun t => finishedWith t f.seq St.dmaShape ∧ t.dma = s.dma ∧ t.hif = s.hif ∧ t.mem = s.mem)

/-- R443: L2_FLUSH of the manager on an L2 table ends with ST_OK. An entry of the table stays exactly when it is not LEARNED, is static, or
  misses the SOURCE or the bridge domain where TBL_CMD_ARG selects it. The entries of every other table are as before. -/
def Obligations.FlushRemovesLearnedEntriesOnly : Prop :=
  ∀ (who : Issuer) (n : Nat) (s : State), tableOpen s who ∧ s.get Reg.TBL_CMD_ARG_TABLE = n ∧ s.tblKind n 1 = true ∧ s.flagI Reg.TBL_INFO_L2
    n = true → answers (.l2Flush who) s fun t => (∀ x : Nat × FlowEntry, x ∈ (t.tblX n).live.slots ↔ x ∈ (s.tblX n).live.slots ∧ ¬
    (x.2.learned = true ∧ x.2.static = false ∧ (bit (s.get Reg.TBL_CMD_ARG_FLUSH_MATCH) 0 = 1 → x.2.source = s.get Reg.TBL_CMD_ARG_SOURCE) ∧
    (bit (s.get Reg.TBL_CMD_ARG_FLUSH_MATCH) 1 = 1 → l2Domain x.2.key = s.get Reg.TBL_CMD_ARG_SEED % 2 ^ 16))) ∧ (∀ x ∈ (s.tblX
    n).live.slots, x.2.static = true → x ∈ (t.tblX n).live.slots) ∧ (∀ m, m ≠ n → (t.tblX m).live.slots = (s.tblX m).live.slots) ∧ t.get
    Reg.TBL_CMD_STATUS_STATUS = St.ok ∧ t.mem = s.mem

/-- R513: PD_ALLOC of a niche with quota left gives it a 16-bit domain that no niche held, counts it against PROT_DOMAINS and finishes with
  ST_OK; without quota it finishes with ST_NO_RESOURCE and allocates nothing. PD_FREE of a domain that an endpoint or a window uses finishes
  with ST_BAD_STATE and the domain stays allocated. -/
def Obligations.ProtectionDomainsAreUniqueAndHeldWhileUsed : Prop :=
  (∀ (w : Work) (f : Flight) (s : State), takes s w 0x1D f ∧ s.flag Reg.JNL_STATUS_REGION_READY = true ∧ s.quotaLeft f.niche 7 ≠ 0 ∧
    s.tlt.pds.length < 65536 → answers (.pdAlloc w) s fun t => (∃ d, d < 65536 ∧ Map.find? s.tlt.pds d = none ∧ t.tlt.pds = Map.put
    s.tlt.pds d f.niche) ∧ t.getI Reg.NCH_QUOTA_USED (quotaKey f.niche 7) = (s.getI Reg.NCH_QUOTA_USED (quotaKey f.niche 7) + 1) % 2 ^ 32 ∧
    finishedWith t f.seq St.ok ∧ t.mem = s.mem) ∧
  (∀ (w : Work) (f : Flight) (s : State), takes s w 0x1D f ∧ s.flag Reg.JNL_STATUS_REGION_READY = true ∧ s.quotaLeft f.niche 7 = 0 → answers
    (.pdAlloc w) s fun t => t.tlt = s.tlt ∧ finishedWith t f.seq St.noResource ∧ t.mem = s.mem) ∧
  (∀ (w : Work) (f : Flight) (d : Nat) (s : State), takes s w 0x1E f ∧ s.flag Reg.JNL_STATUS_REGION_READY = true ∧ ePd f.entry = d ∧
    Map.find? s.tlt.pds d = some f.niche ∧ ((∃ p ∈ s.tlt.eps, p.2.pd = d) ∨ ∃ p ∈ s.tlt.wins, p.2.pd = d ∧ p.2.space ≠ 2) → answers (.pdFree
    w) s fun t => t.tlt = s.tlt ∧ Map.find? t.tlt.pds d = some f.niche ∧ finishedWith t f.seq St.badState ∧ t.mem = s.mem)

/-- R793: When a sensor reads at or above T_CRIT, the temperature level and the level are 3, the newest patina entry has code 0x1380, CRIT
  is set and EV_PWR_CRIT is raised once more. When the average power has exceeded the cap for 10 ms (the command is that event), CAP_OVER is
  set. In every state ALERT_N is asserted exactly while CRIT or CAP_OVER is set. -/
def Obligations.CriticalTemperatureAndCapRaiseAlert : Prop :=
  (∀ (sensor : Nat) (hot : Int) (s : State), (s.get Reg.PWR_THERM_T_CRIT : Int) ≤ hot → answers (.tCritReached sensor hot) s fun t => t.get
    Reg.PWR_STATE_TEMP_LEVEL = 3 ∧ t.get Reg.PWR_STATE_LEVEL = 3 ∧ (t.pat.ring.head?.map (·.code)) = some 0x1380 ∧ t.get Reg.PWR_STATUS_CRIT
    = 1 ∧ evCount t Ev.pwrCrit 0 = evCount s Ev.pwrCrit 0 + 1 ∧ t.alertAsserted = true ∧ t.mem = s.mem) ∧
  (∀ s : State, answers .capOverDetected s fun t => t.get Reg.PWR_STATUS_CAP_OVER = 1 ∧ t.alertAsserted = true ∧ t.mem = s.mem) ∧
  (∀ s : State, s.alertAsserted = true ↔ s.get Reg.PWR_STATUS_CRIT = 1 ∨ s.get Reg.PWR_STATUS_CAP_OVER = 1)

/-- R127, R128: Whenever a command that consumes steps (TOKEN_CONSUME_STEP, OWNERSHIP_TRANSFER, RETIRE, REPAIR) lowers the REMAINING of a
  tally to 1 or to 0, it raises EV_TALLY_LOW for that tally once more. The first reading of tally 4 at bring-up is not taken as a fall
  (DEDUCED, log entry 31), so this is derived from R128 and not the whole of it. -/
def Obligations.LowTallyRaisesItsEvent : Prop :=
  (∀ (who : Issuer) (a : Nat) (s t : State), exec (.tokenConsumeStep who) s = .next t → t.getI Reg.ARM_TALLY_REMAINING a < s.getI
    Reg.ARM_TALLY_REMAINING a → t.getI Reg.ARM_TALLY_REMAINING a ≤ 1 → evCount t Ev.tallyLow a = evCount s Ev.tallyLow a + 1) ∧
  (∀ (who : Issuer) (a : Nat) (s t : State), exec (.ownershipTransfer who) s = .next t → t.getI Reg.ARM_TALLY_REMAINING a < s.getI
    Reg.ARM_TALLY_REMAINING a → t.getI Reg.ARM_TALLY_REMAINING a ≤ 1 → evCount t Ev.tallyLow a = evCount s Ev.tallyLow a + 1) ∧
  (∀ (who : Issuer) (a : Nat) (s t : State), exec (.retire who) s = .next t → t.getI Reg.ARM_TALLY_REMAINING a < s.getI
    Reg.ARM_TALLY_REMAINING a → t.getI Reg.ARM_TALLY_REMAINING a ≤ 1 → evCount t Ev.tallyLow a = evCount s Ev.tallyLow a + 1) ∧
  (∀ (who : Issuer) (a : Nat) (s t : State), exec (.repair who) s = .next t → t.getI Reg.ARM_TALLY_REMAINING a < s.getI
    Reg.ARM_TALLY_REMAINING a → t.getI Reg.ARM_TALLY_REMAINING a ≤ 1 → evCount t Ev.tallyLow a = evCount s Ev.tallyLow a + 1)

/-- R34, R36, R38, R40, R42, R43, R45, R46: The boundary advances the count of boundaries, a change whose boundary has come takes effect, an
  overrun is counted with its kind, and SEAL fixes the step of the next boundary. -/
def Obligations.StrokeCommandsComplete : Prop :=
  (∀ (env : Env) (s : State), s.stk.counting = true → answers (.strokeBoundary env) s fun t => t.stk.boundary = s.stk.boundary + 1 ∧
    t.stk.phase = 1) ∧
  (∀ (b v : Nat) (s : State), s.stk.counting = true ∧ b ≤ s.stk.boundary ∧ s.deferred = [(b, .field Reg.STK_CTL_PERIOD 0 v)] → answers
    .deferredChangeApply s fun t => t.get Reg.STK_CTL_PERIOD = v % 4 ∧ t.deferred = []) ∧
  (∀ (hart : Nat) (missed : Bool) (s : State), s.running = true ∧ s.inP1 = false ∧ hartOk hart = true ∧ bit (s.getI Reg.TIL_INFO_SB_MASK
    (hartTile hart)) (hartThread hart) ≠ 0 ∧ (s.thread hart).stroke = true ∧ (missed = true → (s.thread hart).missed ≠ 0) ∧ tileExempt s
    (hartTile hart) = false → answers (.threadOverrun hart missed) s fun t => t.get Reg.STK_OVR_COUNT_COUNT = min 0xFFFFFFFF (s.get
    Reg.STK_OVR_COUNT_COUNT + 1) ∧ t.get Reg.STK_OVR_LAST_KIND = 0 ∧ t.get Reg.STK_OVR_LAST_INDEX = hart % 2 ^ 12 ∧ t.mem = s.mem) ∧
  (∀ (kind index : Nat) (s : State), s.running = true ∧ 1 ≤ kind ∧ kind ≤ 5 ∧ (kind = 2 → s.stk.timerBacklog = 0) ∧ (kind = 1 → s.unitState
    6 index ≠ 3) → answers (.hwUnitOverrun kind index) s fun t => t.get Reg.STK_OVR_COUNT_COUNT = min 0xFFFFFFFF (s.get
    Reg.STK_OVR_COUNT_COUNT + 1) ∧ t.get Reg.STK_OVR_LAST_KIND = kind ∧ t.mem = s.mem) ∧
  (∀ (p : PendStep) (s : State), s.stk.step = some p ∧ p.held = false ∧ p.due ≤ s.stk.boundary + 1 → answers .stepLatch s fun t =>
    t.stk.latched = some p ∧ t.stk.step = none ∧ t.stk.phase = 2 ∧ t.get Reg.STK_STATUS_PHASE = 2) ∧
  (∀ (s : State), answers .slewDone s fun t => t.stk.slewPs = 0 ∧ t.get Reg.STK_STEP_STATUS_SLEW_LEFT = 0 ∧ t.stk.heldRate = none ∧ t.mem =
    s.mem)

/-- R32, R45, R48, R52, R83, R84: A register write that reaches its register: a step waits for its boundary, a rate is clamped, a realign is
  armed, disarmed or met, an estimate gives its class. -/
def Obligations.ClockWritesComplete : Prop :=
  (∀ (who : Issuer) (ns : Nat) (s : State), writeOpen s who 0x100038 ∧ s.running = true ∧ s.dev ≠ 4 ∧ s.stk.realign = none → answers
    (.phcStepWrite who ns) s fun t => t.stk.step = some ⟨signed 64 ns, s.dueBoundary, false⟩ ∧ t.get Reg.STK_STEP_STATUS_PENDING = 1 ∧ t.mem
    = s.mem) ∧
  (∀ (who : Issuer) (rate : Nat) (s : State), writeOpen s who 0x100030 ∧ s.stk.slewPs = 0 → answers (.phcRateWrite who rate) s fun t =>
    t.get Reg.STK_PHC_RATE_RATE = unsigned 32 (max (-500000000) (min 500000000 (signed 32 rate))) ∧ t.stk = s.stk ∧ t.mem = s.mem) ∧
  (∀ (who : Issuer) (atStroke : Nat) (s : State), writeOpen s who 0x100040 ∧ s.running = true ∧ s.stk.realignLatched = false ∧ 2 ≤
    realignAhead s.stroke atStroke ∧ realignAhead s.stroke atStroke ≤ 2 ^ 20 → answers (.realignArm who atStroke) s fun t => t.stk.realign =
    some (s.stroke + realignAhead s.stroke atStroke) ∧ t.get Reg.STK_REALIGN_ARM = 1 ∧ t.mem = s.mem) ∧
  (∀ (who : Issuer) (atStroke : Nat) (s : State), writeOpen s who 0x100040 ∧ s.running = true ∧ s.stk.realignLatched = false → answers
    (.realignDisarm who atStroke) s fun t => t.stk.realign = none ∧ t.get Reg.STK_REALIGN_ARM = 0 ∧ (s.stk.realign.isSome = true →
    t.stk.step = none) ∧ t.mem = s.mem) ∧
  (∀ (n : Nat) (s : State), s.stk.realign = some n ∧ n ≤ s.stroke → answers .realignTarget s fun t => t.stk.realign = none ∧ t.stk.step =
    none ∧ t.stk.latched = none ∧ t.get Reg.STK_REALIGN_ARM = 0 ∧ t.get Reg.STK_STEP_STATUS_RESULT = (if s.stk.step.isSome ||
    s.stk.latched.isSome then 1 else 5)) ∧
  (∀ (who : Issuer) (offset : Nat) (s : State), writeOpen s who 0x100050 → answers (.alignEstimateWrite who offset) s fun t => t.get
    Reg.STK_ALIGN_EST_OFFSET = offset % 2 ^ 32 ∧ t.get Reg.STK_STATUS_ALIGN = (if (signed 32 offset).natAbs ≤ s.get Reg.STK_ALIGN_CFG_LIMIT
    then 1 else 2) ∧ t.stk.alignHold = 0 ∧ t.mem = s.mem) ∧
  (∀ (s : State), s.get Reg.STK_ALIGN_CFG_HOLD ≠ 0 ∧ s.get Reg.STK_ALIGN_CFG_HOLD ≤ s.stk.alignHold ∧ s.get Reg.STK_STATUS_ALIGN ≠ 0 →
    answers .alignHoldover s fun t => t.get Reg.STK_STATUS_ALIGN = 3 ∧ t.stk = s.stk ∧ t.mem = s.mem)

/-- R31, R60, R62, R67, R68, R69, R71, R90, R94, R95: A latched read answers and latches, a transmit time-stamp leaves its queue, and the
  PPS, 10 MHz and time-of-day pins set what they report. -/
def Obligations.TimeCommandsComplete : Prop :=
  (∀ (who : Issuer) (ns frac : Nat) (s : State), readOpen s 0x100020 ∧ s.stk.phcRunning = true → answers (.phcSecRead who ns frac) s fun t
    => t.get Reg.STK_PHC_SEC_SEC = (s.stk.phcNs + ns) / 1000000000 % 2 ^ 64 ∧ t.get Reg.STK_PHC_NS_NS = (s.stk.phcNs + ns) % 1000000000 ∧
    t.out = (reply who ((s.stk.phcNs + ns) / 1000000000) s).out ∧ t.mem = s.mem) ∧
  (∀ (who : Issuer) (mac : Nat) (s : State), readOpen s (0x100200 + 16 * mac) → answers (.txtsInfoRead who mac) s fun t => (Map.find?
    t.stk.txts mac).getD [] = ((Map.find? s.stk.txts mac).getD []).drop 1 ∧ t.out = (reply who (txtsInfo ((Map.find? s.stk.txts mac).getD
    [])) s).out ∧ t.mem = s.mem) ∧
  (∀ (ns sub : Nat) (s : State), answers (.ppsInEdge ns sub) s fun t => t.get Reg.STK_PPS_IN_TS_TIME = compactTime (s.stk.phcNs + ns) % 2 ^
    64 ∧ t.get Reg.STK_PPS_IN_INFO_NEW = 1 ∧ t.stk.ppsNs = s.stk.phcNs + ns ∧ (s.stk.ppsUnread = true → t.get Reg.STK_PPS_IN_INFO_MISSED =
    1) ∧ t.mem = s.mem) ∧
  (∀ (who : Issuer) (s : State), readOpen s 0x100408 → answers (.ppsInTsRead who) s fun t => t.get Reg.STK_PPS_IN_INFO_NEW = 0 ∧
    t.stk.ppsUnread = false ∧ t.out = (reply who (s.get Reg.STK_PPS_IN_TS_TIME) s).out ∧ t.mem = s.mem) ∧
  (∀ (assert : Bool) (s : State), answers (.ppsOutPulse assert) s fun t => t.stk.ppsOut = (assert && s.flag Reg.STK_PPS_OUT_CFG_PPS_EN &&
    s.stk.phcRunning) ∧ t.regs = s.regs ∧ t.mem = s.mem) ∧
  (∀ (s : State), answers .clk10mLock s fun t => t.stk.clkLock = true ∧ t.flag Reg.STK_STATUS_REF_LOCK = s.flag Reg.STK_CTL_CLK10M_REF ∧
    t.mem = s.mem) ∧
  (∀ (s : State), answers .clk10mLockLoss s fun t => t.stk.clkLock = false ∧ t.get Reg.STK_STATUS_REF_LOCK = 0 ∧ t.mem = s.mem) ∧
  (∀ (msg ms : Nat) (s : State), todAccepted msg ms = true → answers (.todMessage msg ms) s fun t => t.get Reg.STK_TOD_SEC_SEC = byteField
    msg 4 11 ∧ t.get Reg.STK_TOD_INFO_VALID = 1 ∧ t.mem = s.mem)

/-- R107, R108, R118, R119, R120, R121, R122, R133, R143, R147: An armature command from a role that may give it, with a staged image that
  passes, has its effect and reports ACCEPTED. -/
def Obligations.ArmatureCommandsComplete : Prop :=
  (∀ (who : Issuer) (image : Image) (token : Option Token) (flashOk : Bool) (s : State), armOpen s 1 who ∧ (who.role = .platform ∧ image.len
    ≤ 67108864 ∨ who.role = .manager ∧ s.get Reg.ARM_STAGE_LEN_LEN ≤ 67108864) ∧ flashOk = true → answers (.stage who image token flashOk) s
    fun t => t.arm.staged = (if token.isSome then none else some image) ∧ t.arm.stagedToken = token ∧ t.get Reg.ARM_CMD_STATUS_RESULT =
    Code.accepted ∧ t.mem = s.mem) ∧
  (∀ (who : Issuer) (m : Image) (s : State), armOpen s 2 who ∧ (who.role = .platform ∨ who.role = .manager) ∧ s.arm.staged = some m ∧
    s.running = true ∧ s.get Reg.ARM_CMD_ARG ≤ 1 ∧ (s.get Reg.ARM_CMD_ARG = 1 → s.dev = 5 ∧ 2 ≤ standbyTiles s) ∧ s.arm.maq = none → answers
    (.maquette who) s fun t => t.arm.maq = some ⟨s.get Reg.ARM_CMD_ARG, s.stroke, checkCode s m, m.imageId⟩ ∧ t.get
    Reg.ARM_CMD_STATUS_RESULT = Code.accepted ∧ t.mem = s.mem) ∧
  (∀ (findings warnings : Nat) (report : List Byte) (q : MaqRun) (s : State), s.arm.maq = some q → answers (.maquetteReportDone findings
    warnings report) s fun t => t.arm.maq = none ∧ t.get Reg.ARM_MAQ_STATUS_DONE = 1 ∧ t.get Reg.ARM_MAQ_STATUS_RESULT = q.result % 2 ^ 8 ∧
    t.get Reg.ARM_MAQ_STATUS_FINDINGS = findings % 2 ^ 16 ∧ t.mem = s.mem) ∧
  (∀ (who : Issuer) (flashOk : Bool) (m : Image) (s : State), armOpen s 4 who ∧ who.role = .manager ∧ flashOk = true ∧ s.arm.lastDone = some
    m ∧ s.arm.staged = some m ∧ ((Map.find? s.arm.armSlots (s.get Reg.ARM_BOOTDESC_ARM_SLOT)).getD []).length < 16 ∧ slotUsed ((Map.find?
    s.arm.armSlots (s.get Reg.ARM_BOOTDESC_ARM_SLOT)).getD []) + m.len ≤ 67108864 → answers (.persist who flashOk) s fun t => Map.find?
    t.arm.armSlots (s.get Reg.ARM_BOOTDESC_ARM_SLOT) = some ((Map.find? s.arm.armSlots (s.get Reg.ARM_BOOTDESC_ARM_SLOT)).getD [] ++ [m]) ∧
    t.get Reg.ARM_CMD_STATUS_RESULT = Code.accepted ∧ t.mem = s.mem) ∧
  (∀ (who : Issuer) (flashOk : Bool) (m : Image) (s : State), armOpen s 5 who ∧ (who.role = .platform ∨ who.role = .manager) ∧ flashOk =
    true ∧ s.arm.staged = some m ∧ s.get Reg.ARM_CMD_ARG = 0 ∧ m.len ≤ 67108864 ∧ imageCode26 s 0 67108864 m = 0 → answers (.flashWrite who
    flashOk) s fun t => Map.find? t.arm.armSlots (1 - s.get Reg.ARM_BOOTDESC_ARM_SLOT) = some [m] ∧ t.get Reg.ARM_CMD_STATUS_RESULT =
    Code.accepted ∧ t.mem = s.mem) ∧
  (∀ (who : Issuer) (flashOk : Bool) (m : Image) (s : State), armOpen s 5 who ∧ (who.role = .platform ∨ who.role = .manager) ∧ flashOk =
    true ∧ s.arm.staged = some m ∧ s.get Reg.ARM_CMD_ARG = 1 ∧ m.len ≤ 16777216 ∧ imageCode26 s 2 16777216 m = 0 → answers (.flashWrite who
    flashOk) s fun t => Map.find? t.arm.plinthSlots (1 - s.get Reg.ARM_BOOTDESC_PLINTH_SLOT) = some m ∧ t.get Reg.ARM_CMD_STATUS_RESULT =
    Code.accepted ∧ t.mem = s.mem) ∧
  (∀ (who : Issuer) (arg : Nat) (flashOk : Bool) (s : State), armOpen s 6 who ∧ who.role = .platform ∧ flashOk = true → answers (.activate
    who arg flashOk) s fun t => (bit arg 1 = 0 → (bootDesc t).map (·.armSlot) = some (bit arg 0)) ∧ (bit arg 1 ≠ 0 → (bootDesc t).map
    (·.plinthSlot) = some (bit arg 0)) ∧ t.get Reg.ARM_CMD_STATUS_RESULT = Code.accepted ∧ t.mem = s.mem) ∧
  (∀ (who : Issuer) (offset op : Nat) (s : State), writeOpen s who offset ∧ offset = 0x200060 ∧ s.flag Reg.ARM_CMD_BUSY = false → answers
    (.commandUndefinedOp who offset op) s fun t => t.get Reg.ARM_CMD_STATUS_RESULT = 0 ∧ t.get Reg.ARM_CMD_STATUS_OP = op % 2 ^ 8 ∧ t.mem =
    s.mem) ∧
  (∀ (who : Issuer) (offset op : Nat) (b : CmdBlk) (s : State), (offset, b) ∈ [(0x400000, Blk.nch), (0x500000, Blk.rng), (0xA00000,
    Blk.prs), (0xB00000, Blk.tbl), (0xC00000, Blk.sch), (0xE00000, Blk.nvs), (0x1000000, Blk.fab), (0x1200030, Blk.jnl), (0x1400000,
    Blk.svc), (0x1500000, Blk.pwr)] ∧ writeOpen s who offset ∧ s.flag b.busy = false → answers (.commandUndefinedOp who offset op) s fun t
    => t.get b.status = St.invalid ∧ t.flag b.busy = false ∧ t.mem = s.mem) ∧
  (∀ (pm : Image) (s : State), s.dev = 2 ∧ Map.find? s.arm.plinthSlots ((putBootDesc s).get Reg.ARM_BOOTDESC_PLINTH_SLOT) = some pm ∧
    imageCode26 (putBootDesc s) 2 16777216 pm = 0 ∧ slotCode (putBootDesc s) ((putBootDesc s).get Reg.ARM_BOOTDESC_ARM_SLOT) = 0 → answers
    .armatureBootLoad s fun t => t.dev = 3 ∧ t.arm.loaded = true ∧ t.stk.counting = true ∧ t.pwr.nextStep = 1)

/-- R113, R123, R124, R125, R126, R127, R129, R130, R144, R354: A job moves through its phases, and a token that passes its checks has the
  effect of its kind. -/
def Obligations.JobAndTokenCommandsComplete : Prop :=
  (∀ (who : Issuer) (m : Image) (s : State), armOpen s 3 who ∧ who.role = .manager ∧ s.arm.staged = some m ∧ s.running = true ∧ stateAllows
    s.dev m = true ∧ ((maskUnits s m.partMask).any fun k => s.getI Reg.SVC_UNIT_INFO_STATE k != 0 || (decide (k < 128) && s.flagI
    Reg.TIL_INFO_DEBUG_HELD k)) = false → answers (.partialImage who) s fun t => t.arm.job.map (·.image) = some m ∧ t.get Reg.ARM_JOB_PHASE
    = 1 ∧ t.get Reg.ARM_CMD_STATUS_RESULT = Code.accepted ∧ t.mem = s.mem) ∧
  (∀ (j : Job) (s : State), s.arm.job = some j ∧ s.get Reg.ARM_JOB_PHASE = 1 → answers .jobCheckDone s fun t => t.get Reg.ARM_JOB_PHASE =
    (if partialCode s j.image ≠ 0 then 7 else if j.image.partMask = 0 then 5 else 2) ∧ t.mem = s.mem) ∧
  (∀ (s : State), s.arm.job.isSome = true ∧ s.get Reg.ARM_JOB_PHASE = 2 → answers .jobDrainDone s fun t => t.deferred = s.deferred ++
    [(s.dueBoundary, .jobHold)] ∧ t.regs = s.regs ∧ t.mem = s.mem) ∧
  (∀ (j : Job) (s : State), s.arm.job = some j ∧ s.get Reg.ARM_JOB_PHASE = 2 ∧ j.since + clamp 256 16777216 (s.get
    Reg.ARM_DRAIN_LIMIT_LIMIT) ≤ s.stk.boundary → answers .jobDrainTimeout s fun t => t.get Reg.ARM_JOB_PHASE = 7 ∧ t.get Reg.ARM_JOB_RESULT
    = Code.drainTimeout ∧ t.arm.job = none ∧ t.mem = s.mem) ∧
  (∀ (pass : Bool) (s : State), s.arm.job.isSome = true ∧ s.get Reg.ARM_JOB_PHASE = 4 → answers (.jobApplyDone pass) s fun t => t.get
    Reg.ARM_JOB_PHASE = (if pass then 5 else 7) ∧ (pass = true → t.deferred = s.deferred ++ [(s.dueBoundary, .jobSwitch)]) ∧ t.mem = s.mem)
    ∧
  (∀ (j : Job) (s : State), s.arm.job = some j ∧ s.get Reg.ARM_JOB_PHASE = 5 → answers .jobRampDone s fun t => t.get Reg.ARM_JOB_PHASE = 6 ∧
    t.arm.job = none ∧ t.arm.lastDone = some j.image ∧ t.mem = s.mem) ∧
  (∀ (who : Issuer) (s : State), readOpen s 0x200070 → answers (.armJobRead who) s fun t => t.out = (reply who (s.get Reg.ARM_JOB_PHASE * 2
    ^ 60 + s.get Reg.ARM_JOB_RESULT * 2 ^ 52 + s.get Reg.ARM_JOB_PART_MASK * 2 ^ 32 + s.get Reg.ARM_JOB_STROKES) s).out ∧ t.get
    Reg.ARM_JOB_PHASE = (if (s.get Reg.ARM_JOB_PHASE = 6 ∨ s.get Reg.ARM_JOB_PHASE = 7) ∧ who.role = .manager then 0 else s.get
    Reg.ARM_JOB_PHASE) ∧ t.mem = s.mem) ∧
  (∀ (who : Issuer) (s : State), armOpen s 8 who ∧ who.role = .manager ∧ s.arm.job.isSome = true ∧ (s.get Reg.ARM_JOB_PHASE = 1 ∨ s.get
    Reg.ARM_JOB_PHASE = 2) → answers (.cancel who) s fun t => t.get Reg.ARM_JOB_PHASE = 7 ∧ t.get Reg.ARM_JOB_RESULT = Code.cancelled ∧
    t.arm.job = none ∧ t.get Reg.ARM_CMD_STATUS_RESULT = Code.accepted ∧ t.mem = s.mem) ∧
  (∀ (who : Issuer) (tk : Token) (a : Nat) (s : State), armOpen s 7 who ∧ (who.role = .platform ∨ who.role = .manager) ∧ tokenHolds s 1 tk ∧
    byteField tk.bytes 3 3 = a ∧ (a = 1 ∨ a = 2 ∨ a = 5) ∧ s.getI Reg.ARM_TALLY_REMAINING a ≠ 0 → answers (.tokenConsumeStep who) s fun t =>
    t.getI Reg.ARM_TALLY_CONSUMED a = (s.getI Reg.ARM_TALLY_CONSUMED a + 1) % 2 ^ 16 ∧ t.getI Reg.ARM_TALLY_REMAINING a = (s.getI
    Reg.ARM_TALLY_REMAINING a - 1) % 2 ^ 16 ∧ t.get Reg.ARM_CMD_STATUS_RESULT = Code.accepted ∧ t.mem = s.mem) ∧
  (∀ (who : Issuer) (tk : Token) (s : State), armOpen s 7 who ∧ (who.role = .platform ∨ who.role = .manager) ∧ tokenHolds s 2 tk ∧ s.getI
    Reg.ARM_TALLY_REMAINING 0 ≠ 0 → answers (.ownershipTransfer who) s fun t => t.arm.newKey = some (byteField tk.bytes 20 67) ∧ t.get
    Reg.ARM_CMD_STATUS_RESULT = Code.accepted ∧ t.mem = s.mem) ∧
  (∀ (who : Issuer) (tk : Token) (s : State), armOpen s 7 who ∧ (who.role = .platform ∨ who.role = .manager) ∧ tokenHolds s 3 tk ∧
    s.arm.debugDisabled = false → answers (.debugUnlock who) s fun t => t.arm.unlock.map (·.2) = some (byteField (byteField tk.bytes 20 67)
    16 23) ∧ t.get Reg.ARM_CMD_STATUS_RESULT = Code.accepted ∧ t.mem = s.mem) ∧
  (∀ (who : Issuer) (tk : Token) (a : Nat) (s : State), armOpen s 7 who ∧ (who.role = .platform ∨ who.role = .manager) ∧ tokenHolds s 4 tk ∧
    byteField tk.bytes 3 3 = a ∧ (a = 3 ∨ a = 4) ∧ byteField tk.bytes 20 20 = 1 → answers (.tallyGrant who) s fun t => t.getI
    Reg.ARM_TALLY_GRANT_PLATFORM a = min (min 1023 (s.getI Reg.ARM_TALLY_REMAINING a)) (s.getI Reg.ARM_TALLY_GRANT_PLATFORM a + byteField
    tk.bytes 21 22) ∧ t.get Reg.ARM_CMD_STATUS_RESULT = Code.accepted ∧ t.mem = s.mem) ∧
  (∀ (who : Issuer) (tk : Token) (a : Nat) (s : State), armOpen s 7 who ∧ (who.role = .platform ∨ who.role = .manager) ∧ tokenHolds s 4 tk ∧
    byteField tk.bytes 3 3 = a ∧ (a = 3 ∨ a = 4) ∧ byteField tk.bytes 20 20 = 4 → answers (.tallyGrant who) s fun t => t.getI
    Reg.ARM_TALLY_GRANT_DEVICE a = min (min 1023 (s.getI Reg.ARM_TALLY_REMAINING a)) (s.getI Reg.ARM_TALLY_GRANT_DEVICE a + byteField
    tk.bytes 21 22) ∧ t.get Reg.ARM_CMD_STATUS_RESULT = Code.accepted ∧ t.mem = s.mem) ∧
  (∀ (s : State), s.arm.unlock.isSome = true → answers .debugUnlockExpiry s fun t => t.arm.unlock = none ∧ t.deferred = s.deferred ++
    [(s.dueBoundary, .debugResume)] ∧ t.mem = s.mem)

/-- R157, R159, R177, R180, R181, R183, R195, R196, R202, R205: A reset of an attachment point or a function is recorded and takes its links
  and functions down, a trained link comes up at its rate, and readiness is announced. -/
def Obligations.HostLinkCommandsComplete : Prop :=
  (∀ (ap : Nat) (s : State), ap < 4 ∧ s.apUsed ap = true ∧ 2 ≤ s.dev → answers (.perstAssert ap) s fun t => t.getI Reg.HIF_RESET_LAST_KIND
    ap = 1 ∧ t.flagI Reg.HIF_LINK_UP ap = false ∧ ap ∈ t.hif.perst) ∧
  (∀ (ap : Nat) (s : State), answers (.perstDeassert ap) s fun t => ap ∉ t.hif.perst ∧ ap ∉ t.hif.cold ∧ ap ∉ t.hif.wakeN ∧ (s.pwr.b2 = true
    → 2 ≤ s.dev → s.apUsed ap = true → s.apEnabled ap = true → s.ctrlHeld (ap / 2) = false → s.flagI Reg.HIF_LINK_UP ap = false → ap ∈
    t.hif.training) ∧ t.regs = s.regs ∧ t.mem = s.mem) ∧
  (∀ (ap : Nat) (s : State), ap < 4 ∧ s.flagI Reg.HIF_LINK_UP ap = true → answers (.hotReset ap) s fun t => t.getI Reg.HIF_RESET_LAST_KIND
    ap = 2 ∧ t.flagI Reg.HIF_LINK_UP ap = true) ∧
  (∀ (ap speed width : Nat) (flit : Bool) (s : State), ap < 4 ∧ ap ∈ s.hif.training → answers (.linkUp ap speed width flit) s fun t =>
    t.getI Reg.HIF_LINK_UP ap = 1 ∧ t.getI Reg.HIF_LINK_SPEED ap = linkRate s ap speed ∧ ap ∉ t.hif.training ∧ t.mem = s.mem) ∧
  (∀ (ap : Nat) (s : State), ap < 4 ∧ s.flagI Reg.HIF_LINK_UP ap = true → answers (.linkDown ap) s fun t => t.getI Reg.HIF_RESET_LAST_KIND
    ap = 3 ∧ t.flagI Reg.HIF_LINK_UP ap = false) ∧
  (∀ (who : Issuer) (h value : Nat) (s : State), h < 2 ∧ writeOpen s who (0x300000 + 8 * h) → answers (.apEnWrite who h value) s fun t =>
    t.getI Reg.HIF_CTL_AP_EN h = bits value 9 8 ∧ t.getI Reg.HIF_CTL_SPEED_CAP h = bits value 3 0) ∧
  (∀ (ap rid op value : Nat) (f : Fn) (s : State), s.flagI Reg.HIF_LINK_UP ap = true ∧ Map.find? s.hif.fns (fnKey ap rid) = some f ∧
    configStatus s ap rid = 0 → answers (.configRequest ap rid op value) s fun t => (op = 0 → t.out = s.out ++ [.hostReply ap rid 0
    (configRead s f value)]) ∧ (op = 1 → t.getI Reg.HIF_FN_INFO_BME f.key = value % 2) ∧ (op = 4 → t.getI Reg.HIF_FN_INFO_CTO_RANGE f.key =
    value % 16)) ∧
  (∀ (ap rid : Nat) (f : Fn) (s : State), ap < 4 ∧ Map.find? s.hif.fns (fnKey ap rid) = some f ∧ s.fnExists f = true ∧ s.flagI
    Reg.HIF_FN_INFO_FLR_BUSY f.key = false → answers (.flr ap rid) s fun t => t.getI Reg.HIF_FN_INFO_FLR_BUSY f.key = 1 ∧ t.getI
    Reg.HIF_RESET_LAST_KIND ap = 4) ∧
  (∀ (ap rid : Nat) (s : State), s.flagI Reg.HIF_FN_INFO_FLR_BUSY (fnKey ap rid) = true → answers (.flrComplete ap rid) s fun t => t.getI
    Reg.HIF_FN_INFO_FLR_BUSY (fnKey ap rid) = 0 ∧ t.out = s.out ++ [.readiness ap rid] ∧ t.mem = s.mem) ∧
  (∀ (ap : Nat) (s : State), s.flagI Reg.HIF_LINK_UP ap = true → answers (.functionReady ap) s fun t => (∀ f ∈ s.fnsOf ap, s.fnExists f =
    true → f.notReady = true → s.flagI Reg.HIF_FN_INFO_FLR_BUSY f.key = false → Out.readiness ap f.rid ∈ t.out) ∧ t.regs = s.regs ∧ t.mem =
    s.mem) ∧
  (∀ (ap : Nat) (s : State), ap < 4 ∧ s.apUsed ap = true ∧ 2 ≤ s.dev → answers (.d3cold ap) s fun t => t.getI Reg.HIF_RESET_LAST_KIND ap = 5
    ∧ t.flagI Reg.HIF_LINK_UP ap = false ∧ ap ∈ t.hif.cold)

/-- R186, R187, R188, R203, R204: A heartbeat restarts the count, a missed limit loses the role, and a claim of a ready candidate moves it.
  -/
def Obligations.ManagerRoleCommandsComplete : Prop :=
  (∀ (who : Issuer) (s : State), who.role = .manager ∧ s.mayWriteRegs who = true ∧ s.blockAnswers 0x3000D8 = true → answers
    (.managerHeartbeat who) s fun t => t.hif.hbArmed = true ∧ t.hif.hbCount = 0 ∧ t.regs = s.regs ∧ t.mem = s.mem) ∧
  (∀ (s : State), s.hif.hbArmed = true ∧ s.get Reg.HIF_MGR_HB_LIMIT ≠ 0 ∧ s.get Reg.HIF_MGR_HB_LIMIT ≤ s.hif.hbCount ∧ s.flag
    Reg.HIF_MGR_VACANT = false ∧ s.recoveryRole = false → answers .managerHeartbeatTimeout s fun t => t.hif.lost = true ∧ t.regs = s.regs ∧
    t.mem = s.mem) ∧
  (∀ (who : Issuer) (both : Bool) (s : State), s.blockAnswers 0x3000E0 = true ∧ s.jReady who = true ∧ both = false ∧ s.flag
    Reg.HIF_MGR_VACANT = false ∧ s.issuerIs who s.mgrActive = true ∧ s.mgrReady s.mgrStandby.1 s.mgrStandby.2 = true → answers (.handover
    who both) s fun t => t.hif.lost = true ∧ t.hif.claim = some s.mgrStandby ∧ t.mem = s.mem) ∧
  (∀ (who : Issuer) (s : State), s.blockAnswers 0x3000E0 = true ∧ s.jReady who = true ∧ s.issuerIs who s.mgrStandby = true ∧ s.mgrReady
    s.mgrStandby.1 s.mgrStandby.2 = true ∧ (s.flag Reg.HIF_MGR_VACANT = true ∨ s.issuerIs who s.mgrActive = false ∧ s.hif.lost = true ∧
    s.flag Reg.HIF_MGR_AUTO_FAILOVER = false) → answers (.takeover who) s fun t => t.hif.claim = some s.mgrStandby ∧ t.mem = s.mem) ∧
  (∀ (c : Nat × Nat) (s : State), s.hif.claim = some c ∧ s.mgrReady c.1 c.2 = true ∧ (s.flag Reg.HIF_MGR_VACANT = true ∨ s.hif.lost = true)
    → answers .managerRoleMove s fun t => t.get Reg.HIF_MGR_VACANT = 0 ∧ t.get Reg.HIF_MGR_ACTIVE_AP = c.1 % 4 ∧ t.get Reg.HIF_MGR_ACTIVE_PF
    = c.2 % 16 ∧ t.hif.hbArmed = false) ∧
  (∀ (ap pf : Nat) (s : State), s.flag Reg.HIF_MGR_VACANT = true ∧ s.flag Reg.HIF_MGR_AUTO_FAILOVER = true ∧ s.mgrReady ap pf = true ∧
    (s.mgrStandby = (ap, pf) ∨ s.mgrActive = (ap, pf)) → answers (.standbyReady ap pf) s fun t => t.hif.claim = some (ap, pf) ∧ t.get
    Reg.HIF_MGR_STANDBY_READY = 1 ∧ t.mem = s.mem)

/-- R160, R184, R185, R190, R191, R192, R193, R208: Streams become Secure or Insecure, a TDI moves between its states, translations go, and
  CXL accesses reach the exported region. -/
def Obligations.LinkSecurityAndCxlCommandsComplete : Prop :=
  (∀ (ap index pf : Nat) (link : Bool) (f : Fn) (s : State), s.pfOf ap pf = some f ∧ s.fnExists f = true ∧ s.flagI Reg.HIF_LINK_UP ap = true
    → answers (.ideKeyProgram ap index pf link) s fun t => (⟨ap, if link then 0 else index, pf, link, true⟩ : IdeStream) ∈ t.hif.ide ∧ t.mem
    = s.mem) ∧
  (∀ (ap index : Nat) (link : Bool) (s : State), answers (.ideCheckFailed ap index link) s fun t => (∀ x ∈ t.hif.ide, x.ap = ap → x.index =
    (if link then 0 else index) → x.link = link → x.secure = false) ∧ t.mem = s.mem) ∧
  (∀ (ap rid msg : Nat) (s : State), s.flagI Reg.HIF_FN_INFO_EXISTS (fnKey ap rid) = true ∧ (msg = 1 ∧ s.getI Reg.HIF_FN_INFO_TDI_STATE
    (fnKey ap rid) ≤ 1 ∨ msg = 2 ∧ s.getI Reg.HIF_FN_INFO_TDI_STATE (fnKey ap rid) = 2 ∨ msg = 3 ∧ s.getI Reg.HIF_FN_INFO_TDI_STATE (fnKey
    ap rid) ≠ 0) → answers (.tdispRequest ap rid msg) s fun t => t.getI Reg.HIF_FN_INFO_TDI_STATE (fnKey ap rid) = (if msg = 1 then 2 else
    if msg = 2 then 3 else 1)) ∧
  (∀ (ap rid : Nat) (s : State), s.flagI Reg.HIF_FN_INFO_EXISTS (fnKey ap rid) = true ∧ (s.getI Reg.HIF_FN_INFO_TDI_STATE (fnKey ap rid) = 2
    ∨ s.getI Reg.HIF_FN_INFO_TDI_STATE (fnKey ap rid) = 3) → answers (.tdiError ap rid) s fun t => t.getI Reg.HIF_FN_INFO_TDI_STATE (fnKey
    ap rid) = 4 ∧ t.flag Reg.HIF_STATUS_TDI_ERROR = true) ∧
  (∀ (ap rid pasid addr len : Nat) (s : State), answers (.atsInvalidation ap rid pasid addr len) s fun t => t.hif.atc = (s.hif.atc.filter
    fun a => !(a.ap == ap && a.rid == rid && a.pasid == pasid && decide (addr ≤ a.addr) && decide (a.addr < addr + len))) ∧ t.get
    Reg.HIF_ATC_STATUS_VALID = t.hif.atc.length % 2 ^ 15 ∧ t.mem = s.mem) ∧
  (∀ (addr dpa : Nat) (data : List Byte) (write bad : Bool) (s : State), s.flag Reg.HIF_CXL_CXL_MODE = true ∧ s.flagI Reg.HIF_LINK_UP 2 =
    true ∧ hdmDecode s addr = some dpa ∧ dpa < s.cxlBytes.2 → answers (.cxlMemAccess addr data write bad) s fun t => (write = true → t.mem =
    (memWriteList s (s.cxlBytes.1 + dpa) data).mem ∧ t.out = s.out ++ [.hostReply 2 0 0 0]) ∧ (write = false → t.mem = s.mem) ∧ (write =
    false → bad = false → dpa ∉ s.hif.poison → t.out = s.out ++ [.hostReply 2 0 0 (ofBytes (memReadList s (s.cxlBytes.1 + dpa) 64))]) ∧
    (write = false → bad = true → dpa ∈ t.hif.poison)) ∧
  (∀ (decoder base size ways gran : Nat) (commit : Bool) (s : State), s.flag Reg.HIF_CXL_CXL_MODE = true → answers (.hdmCommit decoder base
    size ways gran commit) s fun t => (commit = false → Map.find? t.hif.hdm decoder = none ∧ t.get (hdmBit decoder) = 0) ∧ (commit = true →
    (ways = 1 ∨ ways = 2 ∨ ways = 4 ∨ ways = 8) → gran ≤ 6 → 0 < size → base % 2 ^ 28 = 0 → size % (2 ^ 28 * ways) = 0 → (Map.del s.hif.hdm
    decoder).foldl (fun a p => a + p.2.size / p.2.ways) 0 + size / ways ≤ s.cxlBytes.2 → Map.find? t.hif.hdm decoder = some ⟨base, size,
    ways, gran⟩ ∧ t.get (hdmBit decoder) = 1) ∧ t.mem = s.mem) ∧
  (∀ (op input : Nat) (s : State), s.flag Reg.HIF_CXL_CXL_MODE = true → answers (.cxlMailboxCommand op input) s fun t => t.out = s.out ++
    [.hostReply 2 0 (cxlMailbox op input s).1 (cxlMailbox op input s).2.1] ∧ (op ∉ cxlOpcodes → (cxlMailbox op input s).1 = 3 ∧ t.mem =
    s.mem)) ∧
  (∀ (s : State), s.flag Reg.HIF_CXL_CXL_MODE = true → answers .cxlReset s fun t => t.hif.hdm = [] ∧ t.get Reg.HIF_CXL_HDM0_COMMITTED = 0 ∧
    t.mem = (memZero s s.cxlBytes.1 s.cxlBytes.2).mem)

/-- R185, R212, R213, R215, R216, R217, R227, R228, R229, R234, R235: A niche command of the manager on a niche that takes commands moves
  the niche and reports ST_OK. -/
def Obligations.NicheLifeCommandsComplete : Prop :=
  (∀ (who : Issuer) (desc n : Nat) (s : State), managerCmd s Blk.nch 0x400000 who ∧ ndValid desc = true ∧ s.poolHas desc = true ∧ n < 4096 ∧
    (byteField desc 2 3 = n ∧ Map.find? s.nch.niches n = none ∨ byteField desc 2 3 = 0xFFFF ∧ lowestFree 4096 1 (s.nch.niches.map (·.1)) =
    some n) ∧ (ndQuota desc 12 = 0 ∨ (lowestFit s.stackedUsed 1 (ndQuota desc 12) s.nch.region.2).isSome = true) → answers (.create who
    desc) s fun t => (Map.find? t.nch.niches n).isSome = true ∧ t.deferred = s.deferred ++ [(s.dueBoundary, .nicheActive n)] ∧ t.get
    Reg.NCH_CMD_STATUS_NICHE = n ∧ t.get Reg.NCH_CMD_STATUS_STATUS = St.ok ∧ t.mem = s.mem) ∧
  (∀ (who : Issuer) (n arg page : Nat) (f : Fn) (s : State), nicheCmd s who n ∧ s.get Reg.NCH_CMD_ARG_ARG = arg ∧ Map.find? s.hif.fns (fnKey
    (bits arg 17 16) (bits arg 15 0)) = some f ∧ f.kind ≠ 0 ∧ s.tdiLocked n = false ∧ s.getI Reg.HIF_FN_INFO_TDI_STATE (fnKey (bits arg 17
    16) (bits arg 15 0)) ≠ 2 ∧ s.getI Reg.HIF_FN_INFO_TDI_STATE (fnKey (bits arg 17 16) (bits arg 15 0)) ≠ 3 ∧ s.flagI
    Reg.HIF_FN_INFO_EXISTS (fnKey (bits arg 17 16) (bits arg 15 0)) = true ∧ s.flagI Reg.NCH_INFO_BOUND n = false ∧ ((s.boundTo (fnKey (bits
    arg 17 16) (bits arg 15 0))).any fun m => s.getI Reg.NCH_INFO_PASID_VALID m == bit arg 63 && (bit arg 63 == 0 || s.getI
    Reg.NCH_INFO_PASID m == bits arg 51 32)) = false ∧ lowestFree (f.pages + 1) 0 ((s.boundTo (fnKey (bits arg 17 16) (bits arg 15 0))).map
    fun m => s.getI Reg.NCH_INFO_PAGE m) = some page ∧ page < f.pages → answers (.bind who) s fun t => t.getI Reg.NCH_INFO_BOUND n = 1 ∧
    t.getI Reg.NCH_INFO_AP n = bits arg 17 16 ∧ t.getI Reg.NCH_INFO_RID n = bits arg 15 0 ∧ t.getI Reg.NCH_INFO_PAGE n = page % 2 ^ 12 ∧
    t.get Reg.NCH_CMD_STATUS_STATUS = St.ok ∧ t.mem = s.mem) ∧
  (∀ (who : Issuer) (n : Nat) (s : State), nicheCmd s who n ∧ s.tdiLocked n = false ∧ s.nicheState n = 3 ∧ s.flagI Reg.NCH_INFO_BOUND n =
    true → answers (.unbind who) s fun t => t.getI Reg.NCH_INFO_STATE n = 4 ∧ t.deferred = s.deferred ++ [(s.dueBoundary, .nicheReset n)] ∧
    t.get Reg.NCH_CMD_STATUS_STATUS = St.ok ∧ t.mem = s.mem) ∧
  (∀ (who : Issuer) (n : Nat) (s : State), nicheCmd s who n ∧ s.nicheState n = 1 → answers (.quiesce who) s fun t => t.getI
    Reg.NCH_INFO_STATE n = 2 ∧ t.deferred = s.deferred ++ [(s.dueBoundary, .nicheIntake n false)] ∧ t.get Reg.NCH_CMD_STATUS_STATUS = St.ok
    ∧ t.mem = s.mem) ∧
  (∀ (niche : Nat) (x : NicheX) (s : State), Map.find? s.nch.niches niche = some x ∧ s.nicheState niche = 2 ∧ x.intake = false ∧
    (s.rng.flights.all fun f => f.niche != niche) = true → answers (.nicheQuiesced niche) s fun t => t.getI Reg.NCH_INFO_STATE niche = 3 ∧
    t.get Reg.NCH_STATUS_QUIESCED = 1 ∧ t.mem = s.mem) ∧
  (∀ (who : Issuer) (n : Nat) (s : State), nicheCmd s who n ∧ s.nicheState n = 3 ∧ s.flagI Reg.NCH_INFO_BOUND n = true → answers (.resume
    who) s fun t => t.getI Reg.NCH_INFO_STATE n = 1 ∧ t.deferred = s.deferred ++ [(s.dueBoundary, .nicheIntake n true)] ∧ t.get
    Reg.NCH_CMD_STATUS_STATUS = St.ok ∧ t.mem = s.mem) ∧
  (∀ (who : Issuer) (n : Nat) (s : State), nicheCmd s who n → answers (.reset who) s fun t => t.getI Reg.NCH_INFO_STATE n = 4 ∧ t.deferred =
    s.deferred ++ [(s.dueBoundary, .nicheReset n)] ∧ t.get Reg.NCH_CMD_STATUS_STATUS = St.ok ∧ t.mem = s.mem) ∧
  (∀ (niche : Nat) (x : NicheX) (s : State), Map.find? s.nch.niches niche = some x ∧ s.nicheState niche = 4 ∧ x.started = true ∧
    (s.rng.flights.any fun f => f.niche == niche && (f.port.isNone || niche != 0)) = false ∧ (s.tlt.fences.any fun e => e.niche == niche) =
    false → answers (.nicheResetDone niche) s fun t => t.getI Reg.NCH_INFO_STATE niche = (if x.prev = 2 then 3 else x.prev) % 2 ^ 4 ∧ t.getI
    Reg.NCH_PG_STATUS_RESET_COUNT niche = (s.getI Reg.NCH_PG_STATUS_RESET_COUNT niche + 1) % 2 ^ 16 ∧ (x.cause = .unbind → t.getI
    Reg.NCH_INFO_BOUND niche = 0) ∧ t.mem = s.mem) ∧
  (∀ (who : Issuer) (n : Nat) (s : State), nicheCmd s who n ∧ n ≠ 0 ∧ s.nicheState n = 3 → answers (.destroy who) s fun t => t.getI
    Reg.NCH_INFO_STATE n = 5 ∧ t.deferred = s.deferred ++ [(s.dueBoundary, .nicheReset n)] ∧ t.get Reg.NCH_CMD_STATUS_STATUS = St.ok ∧ t.mem
    = s.mem) ∧
  (∀ (niche : Nat) (x : NicheX) (s : State), Map.find? s.nch.niches niche = some x ∧ s.nicheState niche = 5 ∧ x.zero = true → answers
    (.teardownDone niche) s fun t => t.getI Reg.NCH_INFO_STATE niche = 0 ∧ Map.find? t.nch.niches niche = none ∧ t.mem = s.mem)

/-- R185, R221, R222, R224, R230, R232, R233, R245: The settings of a niche that is not part of a locked TDI change, its dirty log starts
  and is harvested, and its counters clear. -/
def Obligations.NicheSettingCommandsComplete : Prop :=
  (∀ (who : Issuer) (entry n : Nat) (x : NicheX) (s : State), nicheCmd s who n ∧ s.tdiLocked n = false ∧ Map.find? s.nch.niches n = some x →
    answers (.spoofWrite who entry) s fun t => (Map.find? t.nch.niches n).map (·.spoof) = some (if byteField entry 0 0 = 0 then Map.del
    x.spoof (bits (s.get Reg.NCH_CMD_ARG_ARG) 5 0) else Map.put x.spoof (bits (s.get Reg.NCH_CMD_ARG_ARG) 5 0) (entry % 2 ^ 256)) ∧ t.get
    Reg.NCH_CMD_STATUS_STATUS = St.ok ∧ t.mem = s.mem) ∧
  (∀ (who : Issuer) (n : Nat) (x : NicheX) (s : State), nicheCmd s who n ∧ s.tdiLocked n = false ∧ Map.find? s.nch.niches n = some x →
    answers (.spoofMode who) s fun t => (Map.find? t.nch.niches n).map (·.spoofMode) = some (bits (s.get Reg.NCH_CMD_ARG_ARG) 3 0) ∧ t.get
    Reg.NCH_CMD_STATUS_STATUS = St.ok ∧ t.mem = s.mem) ∧
  (∀ (who : Issuer) (n : Nat) (x : NicheX) (s : State), nicheCmd s who n ∧ s.tdiLocked n = false ∧ Map.find? s.nch.niches n = some x →
    answers (.wakeSet who) s fun t => (Map.find? t.nch.niches n).map (·.wake) = some (bits (s.get Reg.NCH_CMD_ARG_ARG) 15 0) ∧ t.get
    Reg.NCH_CMD_STATUS_STATUS = St.ok ∧ t.mem = s.mem) ∧
  (∀ (who : Issuer) (block n : Nat) (s : State), nicheCmd s who n ∧ s.flagI Reg.NCH_INFO_LOGGING n = false ∧ logValid block = true ∧ 2 *
    bitmapLen (byteField block 8 15) (byteField block 16 16) ≤ s.getI Reg.NCH_QUOTA_LIMIT (quotaKey n 13) * 1024 → answers (.logStart who
    block) s fun t => t.deferred = s.deferred ++ [(s.dueBoundary, .logStart n (byteField block 0 7) (byteField block 8 15) (byteField block
    16 16))] ∧ t.get Reg.NCH_CMD_STATUS_STATUS = St.ok ∧ t.mem = s.mem) ∧
  (∀ (who : Issuer) (n : Nat) (s : State), nicheCmd s who n ∧ s.flagI Reg.NCH_INFO_LOGGING n = true → answers (.harvest who) s fun t =>
    t.deferred = s.deferred ++ [(s.dueBoundary, .logSwap n false)] ∧ t.get Reg.NCH_CMD_BUSY = 1 ∧ t.mem = s.mem) ∧
  (∀ (p : CmdPend) (x : NicheX) (d : DirtyLog) (r : List Nat × Nat × Nat × Nat × Nat) (s : State), Map.find? s.cmds 4 = some p ∧ Map.find?
    s.nch.niches p.niche = some x ∧ x.log = some d ∧ d.retired = some r → answers .harvestCopyDone s fun t => t.get Reg.NCH_CMD_BUSY = 0 ∧
    t.get Reg.NCH_CMD_STATUS_STATUS = St.ok ∧ Map.find? t.cmds 4 = none ∧ t.mem = s.mem) ∧
  (∀ (who : Issuer) (n : Nat) (s : State), nicheCmd s who n ∧ s.flagI Reg.NCH_INFO_LOGGING n = true → answers (.logStop who) s fun t =>
    t.deferred = s.deferred ++ [(s.dueBoundary, .logSwap n true)] ∧ t.get Reg.NCH_CMD_BUSY = 1 ∧ t.mem = s.mem) ∧
  (∀ (who : Issuer) (value : Nat) (s : State), s.mayWriteRegs who = true ∧ s.blockAnswers 0x400058 = true → answers (.nicheCounterClear who
    value) s fun t => (bit value 12 = 1 → t.getI Reg.NCH_PG_SPOOF_DROP_COUNT (bits value 11 0) = 0 ∧ t.getI Reg.NCH_PG_SPOOF_DROP_SAT (bits
    value 11 0) = 0) ∧ (bit value 13 = 1 → t.getI Reg.NCH_PG_RX_DROP_COUNT (bits value 11 0) = 0 ∧ t.getI Reg.NCH_PG_RX_DROP_SAT (bits value
    11 0) = 0) ∧ t.mem = s.mem) ∧
  (∀ (ap tag status r : Nat) (data : List Byte) (x : HostTag) (s : State), (s.hif.tags.find? fun y => y.ap == ap && y.tag == tag) = some x ∧
    x.purpose = .poll r → answers (.hostReadCompletion ap tag status data) s fun t => (t.ringX r).polling = false) ∧
  (∀ (ap tag status : Nat) (data : List Byte) (s : State), (s.hif.tags.find? fun y => y.ap == ap && y.tag == tag) = none → answers
    (.hostReadCompletion ap tag status data) s fun t => t.getI Reg.HIF_LATE_CPL_COUNT ap = min 0xFFFFFFFF (s.getI Reg.HIF_LATE_CPL_COUNT ap
    + 1) ∧ t.flag Reg.HIF_STATUS_LATE_CPL = true ∧ t.mem = s.mem) ∧
  (∀ (ap tag : Nat) (x : HostTag) (s : State), (s.hif.tags.find? fun y => y.ap == ap && y.tag == tag) = some x ∧ x.since + timeoutStrokes s
    (fnKey x.ap x.rid) + 1 ≤ s.stk.boundary → answers (.readTimeout ap tag) s fun t => (⟨x.ap, x.tag, s.stk.boundary + s.eff
    Reg.HIF_TAG_QUAR_STROKES⟩ : QuarTag) ∈ t.hif.quar ∧ t.getI Reg.HIF_TIMEOUT_CNT_COUNT ap = min 0xFFFFFFFF (s.getI
    Reg.HIF_TIMEOUT_CNT_COUNT ap + 1) ∧ t.flag Reg.HIF_STATUS_CPL_TIMEOUT = true) ∧
  (∀ (ap tag : Nat) (x : QuarTag) (s : State), (s.hif.quar.find? fun y => y.ap == ap && y.tag == tag) = some x ∧ x.till ≤ s.stk.boundary →
    answers (.tagQuarantineEnd ap tag) s fun t => x ∉ t.hif.quar ∧ t.mem = s.mem)

/-- R185, R254, R255, R257, R258, R282, R283: A ring command or opcode whose conditions hold changes its ring or waits for its boundary, and
  reports ST_OK. -/
def Obligations.RingCommandsComplete : Prop :=
  (∀ (who : Issuer) (desc r : Nat) (s : State), managerCmd s Blk.rng 0x500000 who ∧ (createRing (rdNiche desc) desc false s).1 = St.ok ∧
    (createRing (rdNiche desc) desc false s).2.1 = r → answers (.rngCreate who desc) s fun t => t.ringExists r = true ∧ t.getI
    Reg.RNG_INFO_STATE r = 1 ∧ t.getI Reg.RNG_INFO_TYPE r = rdType desc % 4 ∧ t.getI Reg.RNG_INFO_NICHE r = rdNiche desc ∧ t.get
    Reg.RNG_CMD_STATUS_STATUS = St.ok ∧ t.mem = s.mem) ∧
  (∀ (who : Issuer) (s : State), managerCmd s Blk.rng 0x500000 who ∧ enableStatus s (s.get Reg.RNG_CMD_ARG_RING) = St.ok → answers
    (.rngEnable who) s fun t => t.deferred = s.deferred ++ [(s.dueBoundary, .ringEnable (s.get Reg.RNG_CMD_ARG_RING) (s.flag
    Reg.RNG_CMD_ARG_RESTART))] ∧ t.get Reg.RNG_CMD_STATUS_STATUS = St.ok ∧ t.mem = s.mem) ∧
  (∀ (who : Issuer) (s : State), managerCmd s Blk.rng 0x500000 who ∧ disableStatus s (s.get Reg.RNG_CMD_ARG_RING) = St.ok → answers
    (.rngDisable who) s fun t => t.deferred = s.deferred ++ [(s.dueBoundary, .ringDisable (s.get Reg.RNG_CMD_ARG_RING))] ∧ t.get
    Reg.RNG_CMD_STATUS_STATUS = St.ok ∧ t.mem = s.mem) ∧
  (∀ (who : Issuer) (s : State), managerCmd s Blk.rng 0x500000 who ∧ destroyStatus s (s.get Reg.RNG_CMD_ARG_RING) = St.ok → answers
    (.rngDestroy who) s fun t => t.ringExists (s.get Reg.RNG_CMD_ARG_RING) = false ∧ t.getI Reg.RNG_INFO_STATE (s.get Reg.RNG_CMD_ARG_RING)
    = 0 ∧ t.get Reg.RNG_CMD_STATUS_STATUS = St.ok ∧ t.mem = s.mem) ∧
  (∀ (w : Work) (desc r : Nat) (f : Flight) (s : State), takes s w 4 f ∧ s.flag Reg.JNL_STATUS_REGION_READY = true ∧ (createRing f.niche
    desc true (starting s f)).1 = St.ok ∧ (createRing f.niche desc true (starting s f)).2.1 = r → answers (.ringCreate w desc) s fun t =>
    t.ringExists r = true ∧ t.getI Reg.RNG_INFO_STATE r = 1 ∧ finishedWith t f.seq St.ok ∧ t.mem = s.mem) ∧
  (∀ (w : Work) (r : Nat) (f : Flight) (s : State), takes s w 5 f ∧ s.flag Reg.JNL_STATUS_REGION_READY = true ∧ byteField f.entry 4 7 % 2 ^
    17 = r ∧ s.ringExists r = true ∧ s.getI Reg.RNG_INFO_NICHE r = f.niche ∧ enableStatus s r = St.ok → answers (.ringEnable w) s fun t =>
    t.deferred = s.deferred ++ [(s.dueBoundary, .ringEnable r (bit (byteField f.entry 8 8) 0 == 1))] ∧ finishedWith t f.seq St.ok ∧ t.mem =
    s.mem) ∧
  (∀ (w : Work) (r : Nat) (f : Flight) (s : State), takes s w 6 f ∧ s.flag Reg.JNL_STATUS_REGION_READY = true ∧ byteField f.entry 4 7 % 2 ^
    17 = r ∧ s.ringExists r = true ∧ s.getI Reg.RNG_INFO_NICHE r = f.niche ∧ disableStatus s r = St.ok → answers (.ringDisable w) s fun t =>
    t.deferred = s.deferred ++ [(s.dueBoundary, .ringDisable r)] ∧ finishedWith t f.seq St.ok ∧ t.mem = s.mem) ∧
  (∀ (w : Work) (r : Nat) (f : Flight) (s : State), takes s w 7 f ∧ s.flag Reg.JNL_STATUS_REGION_READY = true ∧ byteField f.entry 4 7 % 2 ^
    17 = r ∧ s.ringExists r = true ∧ s.getI Reg.RNG_INFO_NICHE r = f.niche ∧ destroyStatus s r = St.ok → answers (.ringDestroy w) s fun t =>
    t.ringExists r = false ∧ finishedWith t f.seq St.ok ∧ t.mem = s.mem) ∧
  (∀ (ring : Nat) (s : State), s.ringExists ring = true ∧ s.getI Reg.RNG_INFO_TYPE ring = 0 ∧ s.getI Reg.RNG_INFO_STATE ring = 1 ∧ s.flagI
    Reg.RNG_INFO_IDLE ring = false ∧ s.ringFlights ring = [] → answers (.ringIdle ring) s fun t => t.getI Reg.RNG_INFO_IDLE ring = 1 ∧
    t.events = (raiseTo (.ring ring) Ev.ringIdle ring ring s).events ∧ t.mem = s.mem)

/-- R247, R249, R251, R253, R259, R260, R261, R263, R264, R266, R267, R271: Polls and arrived entries turn into work in flight, releases
  return slots, and the generic opcodes end or wait as the spec says. -/
def Obligations.RingTransferCommandsComplete : Prop :=
  (∀ (h r : Nat) (s : State), s.dueRings h = [r] ∧ (if s.rng.pollAt = s.stk.boundary then (Map.find? s.rng.polls h).getD 0 else 0) <
    s.admitted (h + 1) ∧ (issueRead (s.getI Reg.RNG_INFO_NICHE r) (.poll r) s).2 = true → answers (.ringPoll h) s fun t => (t.ringX
    r).polling = true ∧ (t.ringX r).nudged = false ∧ (t.ringX r).lastPoll = s.stroke ∧ t.mem = s.mem) ∧
  (∀ (ring e : Nat) (entries : List Nat) (x : HostTag) (s : State), entries = [e] ∧ (s.hif.tags.find? fun y => y.purpose == .poll ring) =
    some x ∧ bit e 511 = 1 ∧ s.mayTake ring = true ∧ s.places (s.getI Reg.RNG_INFO_LINK ring) ≠ 0 ∧ s.ringAccepts ring (wOpcode e) = true ∧
    s.getI Reg.RNG_PTRS_CONSUMER ring < s.ringSize ring → answers (.ringPollData ring entries) s fun t => t.rng.flights = s.rng.flights ++
    [⟨s.rng.nextSeq, ring, s.getI Reg.RNG_INFO_NICHE ring, e, false, [], none, none⟩] ∧ (t.ringX ring).polling = false ∧ x ∉ t.hif.tags ∧
    t.mem = s.mem) ∧
  (∀ (who : Issuer) (niche ring : Nat) (s : State), s.doorbellRing niche ring 0 = true ∧ s.flagI Reg.RNG_INFO_RESIDENT ring = false →
    answers (.nudge who niche ring) s fun t => t.deferred = s.deferred ++ [(s.dueBoundary, .nudge ring)] ∧ t.regs = s.regs ∧ t.mem = s.mem)
    ∧
  (∀ (who : Issuer) (off r : Nat) (data : List Byte) (s : State), s.bar2Ring (fnKey who.ap who.id) off = some r ∧ (off - s.getI
    Reg.RNG_BASE_BASE r) % 64 + data.length ≤ 64 ∧ s.ringEnabled r = true ∧ bit ((Map.find? (s.ringX r).slots ((off - s.getI
    Reg.RNG_BASE_BASE r) / 64)).getD 0) 511 ≠ 1 → answers (.residentRingWrite who off data) s fun t => Map.find? (t.ringX r).slots ((off -
    s.getI Reg.RNG_BASE_BASE r) / 64) = some (slotPut ((Map.find? (s.ringX r).slots ((off - s.getI Reg.RNG_BASE_BASE r) / 64)).getD 0) ((off
    - s.getI Reg.RNG_BASE_BASE r) % 64) data) ∧ t.mem = s.mem) ∧
  (∀ (r slot due : Nat) (s : State), s.rng.arrived = [(r, slot, due)] ∧ due ≤ s.stk.boundary ∧ s.rng.takenAt ≠ s.stk.boundary ∧ s.mayTake r
    = true ∧ 0 < s.admitted 0 ∧ s.places (s.getI Reg.RNG_INFO_LINK r) ≠ 0 ∧ s.ringAccepts r (wOpcode ((Map.find? (s.ringX r).slots
    slot).getD 0)) = true → answers .residentIntake s fun t => t.rng.flights = s.rng.flights ++ [⟨s.rng.nextSeq, r, s.getI
    Reg.RNG_INFO_NICHE r, (Map.find? (s.ringX r).slots slot).getD 0, false, [], none, none⟩] ∧ t.rng.arrived = [] ∧ t.mem = s.mem) ∧
  (∀ (who : Issuer) (niche ring count : Nat) (arm : Bool) (s : State), s.doorbellRing niche ring 1 = true ∧ count ≤ (s.ringX ring).written →
    answers (.cqRelease who niche ring count arm) s fun t => t.getI Reg.RNG_PTRS_CONSUMER ring = (s.getI Reg.RNG_PTRS_CONSUMER ring + count)
    % s.ringSize ring % 2 ^ 16 ∧ t.mem = s.mem) ∧
  (∀ (who : Issuer) (niche ring count : Nat) (arm : Bool) (s : State), s.doorbellRing niche ring 2 = true ∧ count ≤ (s.ringX ring).written →
    answers (.eqRelease who niche ring count arm) s fun t => t.getI Reg.RNG_PTRS_CONSUMER ring = (s.getI Reg.RNG_PTRS_CONSUMER ring + count)
    % s.ringSize ring % 2 ^ 16 ∧ (t.ringX ring).written = (s.ringX ring).written - count ∧ (arm = true → s.getI Reg.RNG_INFO_LINK ring %
    65536 ≠ 0xFFFF → t.getI Reg.RNG_INFO_ARMED ring = 1) ∧ t.mem = s.mem) ∧
  (∀ (ring : Nat) (s : State), s.flagI Reg.RNG_INFO_STOPPED ring = true ∧ (s.ringX ring).freed = true ∧ 0 < s.places ring → answers
    (.cqRestart ring) s fun t => t.getI Reg.RNG_INFO_STOPPED ring = 0 ∧ (t.ringX ring).freed = false ∧ t.mem = s.mem) ∧
  (∀ (ring : Nat) (s : State), s.ringEnabled ring = true ∧ s.getI Reg.RNG_INFO_TYPE ring = 2 ∧ s.flagI Reg.RNG_INFO_ARMED ring = true ∧
    (s.ringX ring).owed = true ∧ 0 < (s.ringX ring).written ∧ ((s.ringX ring).lastMsix.all fun b => decide (b + (s.ringX ring).mod ≤
    s.stk.boundary)) = true → answers (.eventMsixSend ring) s fun t => t.getI Reg.RNG_INFO_ARMED ring = 0 ∧ (t.ringX ring).owed = false ∧
    (t.ringX ring).lastMsix = some s.stk.boundary ∧ t.out = (nicheMsix (s.getI Reg.RNG_INFO_NICHE ring) (s.getI Reg.RNG_INFO_LINK ring %
    2048) s).out ∧ t.mem = s.mem) ∧
  (∀ (w : Work) (f : Flight) (s : State), takes s w 0 f → answers (.nop w) s fun t => finishedWith t f.seq St.ok ∧ t.mem = s.mem) ∧
  (∀ (w : Work) (f : Flight) (q : Nat) (s : State), takes s w 1 f ∧ Map.find? s.sch.local_ (localKey f.niche (byteField f.entry 24 25)) =
    some q ∧ launchFar s f q = false → answers (.send w) s fun t => t.readPending f.seq = true ∧ t.mem = s.mem) ∧
  (∀ (w : Work) (f : Flight) (s : State), takes s w 2 f → answers (.recvPost w) s fun t => { f with started := true } ∈ t.buffers f.ring ∧
    t.regs = s.regs ∧ t.mem = s.mem) ∧
  (∀ (w : Work) (f g : Flight) (s : State), takes s w 3 f ∧ (s.rng.flights.find? fun g => g.niche == f.niche && g.port.isNone && wTag
    g.entry == byteField f.entry 4 5 && g.seq != f.seq && g.done.isNone) = some g ∧ s.flight g.seq = some g ∧ g.started = false → answers
    (.abort w) s fun t => finishedWith t f.seq St.ok ∧ finishedWith t g.seq St.aborted ∧ t.mem = s.mem)

/-- R298, R299, R300, R301, R302, R303, R305, R306, R309, R312, R318: An entry that passes its checks waits in its priority's queue, takes
  an idle channel, reaches its half point and ends its pass. -/
def Obligations.DmaCommandsComplete : Prop :=
  (∀ (w : Work) (f : Flight) (s : State), takes s w 0x40 f ∧ elementStatus (starting s f) f f.entry = St.ok → answers (.copy w) s fun t =>
    (⟨f.seq, f.niche, max (bits (wFlags f.entry) 5 4) (s.getI Reg.DMA_NCFG_PRIO_CAP f.niche), []⟩ : DmaWait) ∈ t.dma.queue ∧ t.mem = s.mem)
    ∧
  (∀ (w : Work) (f : Flight) (s : State), takes s w 0x41 f ∧ elementStatus (starting s f) f f.entry = St.ok → answers (.fill w) s fun t =>
    (⟨f.seq, f.niche, max (bits (wFlags f.entry) 5 4) (s.getI Reg.DMA_NCFG_PRIO_CAP f.niche), []⟩ : DmaWait) ∈ t.dma.queue ∧ t.mem = s.mem)
    ∧
  (∀ (w : Work) (elements : List Nat) (f : Flight) (s : State), takes s w 0x42 f ∧ byteField f.entry 4 4 ≠ 3 ∧ spaceAllowed f (byteField
    f.entry 4 4) = true ∧ byteField f.entry 16 19 ≠ 0 ∧ byteField f.entry 16 19 ≤ 65536 ∧ spaceBounds (starting s f) f (byteField f.entry 4
    4) (byteField f.entry 8 15) 0 (64 * byteField f.entry 16 19 - 1) = true → answers (.list w elements) s fun t => (⟨f.seq, f.niche, max
    (bits (wFlags f.entry) 5 4) (s.getI Reg.DMA_NCFG_PRIO_CAP f.niche), elements⟩ : DmaWait) ∈ t.dma.queue ∧ t.mem = s.mem) ∧
  (∀ (prio c : Nat) (q : DmaWait) (f : Flight) (s : State), idleChannel s prio = some c ∧ nextDma s prio = some q ∧ s.flight q.seq = some f
    ∧ elementStatus s f (dElement s f q.list 0) = St.ok ∧ remoteSide s (dElement s f q.list 0) = none → answers (.dmaChannelStart prio) s
    fun t => t.getI Reg.DMA_CH_STAT_BUSY c = 1 ∧ (Map.find? t.dma.channels c).map (·.seq) = some q.seq ∧ (∀ x ∈ t.dma.queue, x.seq ≠ q.seq)
    ∧ t.mem = s.mem) ∧
  (∀ (chan : Nat) (r : DmaRun) (f : Flight) (s : State), Map.find? s.dma.channels chan = some r ∧ s.flight r.seq = some f ∧ r.half = false ∧
    (dmaAdvance (dmaFuel f) chan r.seq (dHalf s f r.list) s).1 = true → answers (.dmaHalfPoint chan) s fun t => (Map.find? t.dma.channels
    chan).map (·.half) = some true ∧ t.mem = (dmaAdvance (dmaFuel f) chan r.seq (dHalf s f r.list) s).2.mem) ∧
  (∀ (chan : Nat) (r : DmaRun) (f : Flight) (s : State), Map.find? s.dma.channels chan = some r ∧ s.dmaRun r.seq = some (chan, r) ∧ s.flight
    r.seq = some f ∧ f.done = none ∧ r.half = true ∧ bit (wFlags f.entry) 3 = 0 ∧ (dmaAdvance (dmaFuel f) chan r.seq (dSum s f r.list) s).1
    = true ∧ unfedStatus (dmaAdvance (dmaFuel f) chan r.seq (dSum s f r.list) s).2 chan = St.ok → answers (.dmaPassEnd chan) s fun t =>
    Map.find? t.dma.channels chan = none ∧ t.getI Reg.DMA_CH_STAT_BUSY chan = 0 ∧ finishedWith t r.seq St.ok)

/-- R336, R337, R338, R339, R340, R341, R351, R403: A thread in RUN waits or takes its events, binds channels, commits and takes messages,
  submits work and ends its item. -/
def Obligations.ThreadCommandsComplete : Prop :=
  (∀ (hart : Nat) (s : State), threadRuns s hart → answers (.tcWait hart) s fun t => (if s.pending_ hart &&& (s.thread hart).waitMask = 0
    then t.thrState hart = 2 else t.out = s.out ++ [.load hart (s.pending_ hart &&& (s.thread hart).waitMask)]) ∧ t.mem = s.mem) ∧
  (∀ (hart : Nat) (s : State), s.thrState hart = 2 ∧ s.pending_ hart &&& (s.thread hart).waitMask ≠ 0 → answers (.threadWake hart) s fun t
    => t.thrState hart = 1 ∧ t.out = s.out ++ [.load hart (s.pending_ hart &&& (s.thread hart).waitMask)] ∧ t.mem = s.mem) ∧
  (∀ (hart ns : Nat) (s : State), (s.thread hart).cmp ≠ 2 ^ 64 - 1 ∧ s.stk.phcRunning = true ∧ (s.thread hart).cmp ≤ s.stk.phcNs + ns →
    answers (.timerEvent hart ns) s fun t => (t.thread hart).edge = (s.thread hart).edge ||| 2 ^ 28 ∧ t.regs = s.regs ∧ t.mem = s.mem) ∧
  (∀ (hart value : Nat) (s : State), threadRuns s hart ∧ bits value 12 8 ≤ 27 → answers (.tcBind hart value) s fun t => (t.thread
    hart).binds = (if bit value 15 = 1 then Map.put (s.thread hart).binds (bits value 12 8) (bits value 7 0) else Map.del (s.thread
    hart).binds (bits value 12 8)) ∧ t.regs = s.regs ∧ t.mem = s.mem) ∧
  (∀ (hart cycles : Nat) (s : State), threadRuns s hart ∧ (s.thread hart).stroke = true → answers (.tcStrokeDone hart cycles) s fun t =>
    (t.thread hart).stroke = false ∧ t.getI (sbPeak (hartThread hart / 8)) (hartTile hart) = max (s.getI (sbPeak (hartThread hart / 8))
    (hartTile hart)) (min 65535 cycles) % 2 ^ 16 ∧ t.mem = s.mem) ∧
  (∀ (hart value k : Nat) (s : State), threadRuns s hart ∧ (s.thread hart).dropped = false ∧ k = (if bits value 46 40 = 0x7F then hartTile
    hart else bits value 46 40) * 256 + bits value 7 0 ∧ 1 ≤ bits value 59 56 ∧ bits value 59 56 ≤ 8 ∧ s.mayWrite hart k = true ∧ 0 <
    s.chanFree k → answers (.tcChCommit hart value) s fun t => t.chan k = s.chan k ++ [⟨bits value 59 56, (s.thread hart).stage % 2 ^ (64 *
    bits value 59 56), hart, if s.flagI Reg.TIL_CH_INFO_NICHE_BEARING k then (s.thread hart).niche.getD 0 else 0⟩] ∧ (t.thread hart).last =
    0 ∧ (t.thread hart).staged = false ∧ t.mem = s.mem) ∧
  (∀ (chan : Nat) (w : CommitWait) (s : State), (s.til.waiting.find? fun w => w.chan == chan) = some w ∧ 0 < s.chanFree chan → answers
    (.chCommitUnblock chan) s fun t => t.chan chan = s.chan chan ++ [w.msg] ∧ (t.thread w.hart).blocked = false ∧ (t.thread w.hart).last = 0
    ∧ w ∉ t.til.waiting ∧ t.mem = s.mem) ∧
  (∀ (hart : Nat) (s : State), threadRuns s hart → answers (.tcChDiscard hart) s fun t => (t.thread hart).staged = false ∧ (t.thread
    hart).stage = 0 ∧ t.regs = s.regs ∧ t.mem = s.mem) ∧
  (∀ (hart ch : Nat) (m : Msg) (rest : List Msg) (s : State), threadRuns s hart ∧ ¬(s.flagI Reg.TIL_CH_INFO_NICHE_BEARING (hartTile hart *
    256 + ch) = true ∧ (s.thread hart).niche.isSome = true) ∧ ¬(ch = 0 ∧ hartThread hart ≠ 0) ∧ s.chan (hartTile hart * 256 + ch) = m ::
    rest → answers (.tcTake hart ch) s fun t => (t.thread hart).recv = m.data ∧ t.out = s.out ++ [.load hart (takeHeader (s.flagI
    Reg.TIL_CH_INFO_NICHE_BEARING (hartTile hart * 256 + ch)) m)] ∧ (s.til.reports = [] → t.chan (hartTile hart * 256 + ch) = rest) ∧ t.mem
    = s.mem) ∧
  (∀ (hart value : Nat) (s : State), threadRuns s hart ∧ (s.thread hart).niche ≠ none → answers (.tcItemDone hart value) s fun t =>
    (t.thread hart).niche = none ∧ (t.thread hart).item = none ∧ (t.thread hart).pc = (s.thread hart).dispatch) ∧
  (∀ (hart value : Nat) (s : State), threadRuns s hart ∧ s.flagI Reg.TIL_CH_INFO_HW_WRITER (hartTile hart * 256 + bits value 7 0) = true ∧
    s.chanFree (hartTile hart * 256 + bits value 7 0) ≠ 0 ∧ 0x10 ≤ wOpcode (s.thread hart).stage ∧ opcodeKnown (wOpcode (s.thread
    hart).stage) = true → answers (.tcDmaSubmit hart value) s fun t => t.rng.flights = s.rng.flights ++ [⟨s.rng.nextSeq, 0x1FFFF, (s.thread
    hart).niche.getD 0, (s.thread hart).stage % 2 ^ 512, false, [], none, some (hart, hartTile hart * 256 + bits value 7 0)⟩] ∧ (t.thread
    hart).last = 0 ∧ t.regs = s.regs ∧ t.mem = s.mem)

/-- R332, R345, R346, R347, R348, R349, R350, R752: The supervisor thread injects into, starts, stops and restarts threads; faults are
  counted and recorded; a stuck group is reported and restarted. -/
def Obligations.SupervisorCommandsComplete : Prop :=
  (∀ (hart mask : Nat) (s : State), threadRuns s hart ∧ hartThread hart = 0 → answers (.supInject hart mask) s fun t => (∀ i ∈ List.range
    32, bit mask i = 1 → (t.thread (hartTile hart * 32 + i)).edge = (s.thread (hartTile hart * 32 + i)).edge ||| 2 ^ 30) ∧ t.regs = s.regs ∧
    t.mem = s.mem) ∧
  (∀ (hart mask : Nat) (s : State), threadRuns s hart ∧ hartThread hart = 0 → answers (.supKill hart mask) s fun t => ∀ i ∈ List.range 32, i
    ≠ 0 → bit mask i = 1 → t.thrState (hartTile hart * 32 + i) = 0) ∧
  (∀ (hart mask : Nat) (s : State), threadRuns s hart ∧ hartThread hart = 0 → answers (.supStart hart mask) s fun t => (∀ i ∈ List.range 32,
    bit mask i = 1 → s.thrState (hartTile hart * 32 + i) = 0 ∨ s.thrState (hartTile hart * 32 + i) = 4 → t.thrState (hartTile hart * 32 + i)
    = 1) ∧ t.mem = s.mem) ∧
  (∀ (hart group : Nat) (s : State), threadRuns s hart ∧ hartThread hart = 0 → answers (.supRestart hart group) s fun t => ∀ i ∈ List.range
    32, bit (s.getI Reg.TIL_WAITGRP_MEMBERS (hartTile hart * 16 + group)) i = 1 → s.thrState (hartTile hart * 32 + i) ≠ 0 → t.thrState
    (hartTile hart * 32 + i) = 1) ∧
  (∀ (hart : Nat) (s : State), threadRuns s hart ∧ hartThread hart = 0 ∧ s.getI Reg.TIL_INFO_ROLE (hartTile hart) = 1 ∧ s.unitState 0
    (s.servingTile (hartTile hart)) = 1 → answers (.supDrainDone hart) s fun t => t.deferred = s.deferred ++ [(s.dueBoundary, .unitHeld 0
    (s.servingTile (hartTile hart)))] ∧ t.regs = s.regs ∧ t.mem = s.mem) ∧
  (∀ (hart mcause mepc mtval : Nat) (s : State), threadRuns s hart ∧ s.getI Reg.TIL_INFO_ROLE (hartTile hart) = 0 ∧ hartThread hart ≠ 0 →
    answers (.threadFault hart mcause mepc mtval) s fun t => t.getI Reg.TIL_FAULT_CNT_COUNT (hartTile hart) = min 0xFFFFFFFF (s.getI
    Reg.TIL_FAULT_CNT_COUNT (hartTile hart) + 1) ∧ t.getI Reg.TIL_FAULT_LAST_CAUSE (hartTile hart) = mcause % 2 ^ 8 ∧ t.flagI
    Reg.TIL_STATUS_FAULT (hartTile hart) = true ∧ ((s.thread hart).niche = none → t.thrState hart = 4) ∧ ((s.thread hart).niche ≠ none →
    (t.thread hart).niche = none)) ∧
  (∀ (hart mcause : Nat) (s : State), threadRuns s hart → answers (.supervisorFault hart mcause) s fun t => t.deferred = s.deferred ++
    [(s.dueBoundary, .unitForce 0 (s.servingTile (hartTile hart)))] ∧ t.getI Reg.SVC_UNIT_INFO_CAUSE (unitKey 0 (s.servingTile (hartTile
    hart))) = 1 ∧ t.getI Reg.TIL_FAULT_LAST_CAUSE (hartTile hart) = mcause % 2 ^ 8 ∧ t.mem = s.mem) ∧
  (∀ (tile group : Nat) (s : State), s.flagI Reg.TIL_WAITGRP_DEFINED (tile * 16 + group) = true ∧ s.flagI Reg.TIL_WAITGRP_REPORTED (tile *
    16 + group) = false ∧ max 1 (s.getI Reg.TIL_WAITMON_LIMIT tile) ≤ s.getI Reg.TIL_WAITGRP_COUNT (tile * 16 + group) → answers
    (.waitCycleReport tile group) s fun t => t.getI Reg.TIL_WAITGRP_REPORTED (tile * 16 + group) = 1 ∧ t.mem = s.mem) ∧
  (∀ (tile group : Nat) (s : State), tile * 16 + group ∈ s.til.restarts → answers (.waitGroupRestart tile group) s fun t => tile * 16 +
    group ∉ t.til.restarts)

/-- R332, R353, R354, R355, R357, R371: Within the rights of an unlock the debugger reads, writes, halts and resumes; a tile with a halted
  stroke-bound thread is HELD and released again. -/
def Obligations.DebugCommandsComplete : Prop :=
  (∀ (hart kind addr value : Nat) (s : State), addr < 0x140000 ∧ (kind = 1 ∧ s.debugRight (hartTile hart) 1 = true ∨ kind = 2 ∧ s.debugRight
    (hartTile hart) 2 = true) → answers (.debugAccess hart kind addr value) s fun t => (kind = 1 → t.out = s.out ++ [.dmi hart true (memRead
    s (tileMemBase (hartTile hart) + addr)).toNat] ∧ t.mem = s.mem) ∧ (kind = 2 → t.mem = (memWrite s (tileMemBase (hartTile hart) + addr)
    (BitVec.ofNat 8 value)).mem ∧ t.out = s.out ++ [.dmi hart true 0]) ∧ t.regs = s.regs) ∧
  (∀ (hart addr value : Nat) (kind : Nat) (s : State), kind = 0 ∧ s.debugRight (hartTile hart) 0 = true → answers (.debugAccess hart kind
    addr value) s fun t => t.out = s.out ++ [.dmi hart true ((Map.find? (s.thread hart).xregs addr).getD 0)] ∧ t.regs = s.regs ∧ t.mem =
    s.mem) ∧
  (∀ (hart addr value : Nat) (kind : Nat) (s : State), (kind = 3 ∨ kind = 4) ∧ s.debugRight (hartTile hart) 3 = true ∧ s.debugNiche ≠ 0xFFFF
    ∧ (s.stackedQuota s.debugNiche).1 ≤ addr ∧ addr < (s.stackedQuota s.debugNiche).1 + (s.stackedQuota s.debugNiche).2 → answers
    (.debugAccess hart kind addr value) s fun t => (kind = 3 → t.out = s.out ++ [.dmi hart true (memRead s addr).toNat] ∧ t.mem = s.mem) ∧
    (kind = 4 → t.mem = (memWrite s addr (BitVec.ofNat 8 value)).mem) ∧ t.regs = s.regs) ∧
  (∀ (hart : Nat) (s : State), s.debugRight (hartTile hart) 0 = true ∧ (s.thrState hart = 1 ∨ s.thrState hart = 2) → answers (.debugHalt
    hart) s fun t => t.thrState hart = 3 ∧ (t.thread hart).before = s.thrState hart ∧ bit (t.getI Reg.TIL_DBG_HALTED (hartTile hart))
    (hartThread hart) = 1 ∧ t.mem = s.mem) ∧
  (∀ (hart : Nat) (s : State), s.debugRight (hartTile hart) 0 = true ∧ s.thrState hart = 3 → answers (.debugResume hart) s fun t =>
    t.thrState hart = (s.thread hart).before % 16 ∧ t.mem = s.mem) ∧
  (∀ (tile : Nat) (s : State), s.sbHalted tile = true ∧ s.flagI Reg.TIL_INFO_DEBUG_HELD tile = false ∧ s.unitServes 0 (s.servingTile tile) =
    true → answers (.tileDebugHold tile) s fun t => t.getI Reg.TIL_INFO_DEBUG_HELD tile = 1 ∧ t.unitState 0 (s.servingTile tile) = 2 ∧ t.mem
    = s.mem) ∧
  (∀ (tile : Nat) (s : State), s.flagI Reg.TIL_INFO_DEBUG_HELD tile = true ∧ s.sbHalted tile = false ∧ s.unitState 0 (s.servingTile tile) =
    2 → answers (.tileDebugRelease tile) s fun t => t.getI Reg.TIL_INFO_DEBUG_HELD tile = 0 ∧ t.unitState 0 (s.servingTile tile) = 3 ∧ t.mem
    = s.mem) ∧
  (∀ (hart : Nat) (s : State), s.thrState hart = 3 ∧ (s.thread hart).staged = true ∧ (s.thread hart).haltAt + 1048576 ≤ s.stk.boundary →
    answers (.stagedDiscard hart) s fun t => (t.thread hart).staged = false ∧ (t.thread hart).stage = 0 ∧ (t.thread hart).dropped = true ∧
    t.getI Reg.TIL_STATUS_STAGED_DISCARD (hartTile hart) = 1 ∧ t.mem = s.mem)

/-- R55, R372, R373, R374, R381, R385, R392, R402, R407, R408: A frame that arrives is queued in a cluster; its vector is parsed, enters the
  pipeline in its domain's sequence, parks, returns or times out, and leaves to the spreader or the reorder engine, which skips a sequence
  that stays missing. -/
def Obligations.FrameCommandsComplete : Prop :=
  (∀ (mac : Nat) (data : List Byte) (ns sub k : Nat) (u : State) (s : State), s.running = true ∧ s.sch.linkUp.contains mac = true ∧
    s.unitServes 6 mac = true ∧ s.inP1 = false ∧ dealCluster mac ((Map.find? s.prs.lanes mac).getD []) (s.nch.niches.foldl (wakeOne data) s)
    = some (k, u) ∧ (s.prs.pkts.filter fun q => q.cluster == laneCluster u k && q.at_ == .queued).length < 256 → answers (.frameReceive mac
    data ns sub) s fun t => (t.prs.pkts.getLast?).map (fun p => (p.id, p.source, p.bytes, p.at_)) = some (s.prs.nextId, mac, data,
    PktAt.queued) ∧ t.prs.nextId = s.prs.nextId + 1 ∧ t.mem = s.mem) ∧
  (∀ (id engine vec : Nat) (p : Pkt) (s : State), s.pkt id = some p ∧ p.at_ = .queued ∧ p.source < 16 → answers (.parseFrame id engine vec)
    s fun t => t.pkt id = some { p with vec := releaseVec p vec (vDest p.vec), at_ := .parsed, domain := byteField vec 16 19 % 2 ^ 20 } ∧
    (byteField vec 7 7 ≠ 0 → t.get Reg.PRS_EXC_LAST_VERDICT = byteField vec 7 7 ∧ t.get Reg.PRS_STATUS_PARSE_EXC = 1) ∧ t.mem = s.mem) ∧
  (∀ (id park : Nat) (p : Pkt) (s : State), s.pkt id = some p ∧ s.running = true ∧ s.entersNext p = true ∧ s.parkedAt p.pipe park < 256 ∧
    (s.prs.pkts.filter s.inFlight).length < 65536 → answers (.pipelineEntry id park) s fun t => (t.prs.pkts.getLast?).map (fun q => (q.id,
    q.domain, q.seq, q.entered, q.inPipe)) = some (id, p.domain, (if p.at_ = .recirc then p.seq else (s.domain p.domain).next),
    s.stk.boundary, true) ∧ (p.at_ = .parsed → (t.domain p.domain).next = ((s.domain p.domain).next + 1) % 2 ^ 32)) ∧
  (∀ (id park stage : Nat) (p : Pkt) (s : State), s.pkt id = some p ∧ p.at_ = .parked stage ∧ park ≤ stage ∧ ((pipeTables s p.pipe).all fun
    e => decide (e.1 < 24)) = true → answers (.parkLookupReturn id park) s fun t => (t.prs.pkts.getLast?).map (fun q => (q.id, q.seq,
    q.at_)) = some (id, p.seq, PktAt.leaving)) ∧
  (∀ (id stage : Nat) (p : Pkt) (s : State), s.pkt id = some p ∧ p.at_ = .parked stage ∧ p.entered + 4 ≤ s.stk.boundary → answers
    (.residencyTimeout id) s fun t => t.pkt id = none ∧ t.get Reg.PRS_DROP_LAST_REASON = 1 ∧ t.get Reg.PRS_STATUS_DEV_DROP = 1 ∧ t.get
    Reg.PRS_DEV_DROP_COUNT = (count Reg.PRS_DEV_DROP_COUNT s).get Reg.PRS_DEV_DROP_COUNT) ∧
  (∀ (id : Nat) (patch : List (Nat × Byte)) (p : Pkt) (s : State), s.pkt id = some p ∧ p.at_ = .leaving ∧ (s.prs.pkts.find? fun q => q.pipe
    == p.pipe && q.at_ == .leaving).map (·.id) = some id ∧ (p.drop = true ∨ destKind (vDest p.vec) = 0) → answers (.pipelineExit id patch) s
    fun t => t.pkt id = none) ∧
  (∀ (id : Nat) (patch : List (Nat × Byte)) (p : Pkt) (l : List Byte) (s : State), s.pkt id = some p ∧ p.at_ = .leaving ∧ (s.prs.pkts.find?
    fun q => q.pipe == p.pipe && q.at_ == .leaving).map (·.id) = some id ∧ p.drop = false ∧ destKind (vDest p.vec) = 3 ∧ deparse p.vec
    (s.rulesFor (vVersion p.vec)).templates patch p.edits p.bytes = l ∧ l.length ≤ 9212 ∧ l.length ≤ p.bytes.length + 128 → answers
    (.pipelineExit id patch) s fun t => t.prs.spread = s.prs.spread ++ [id] ∧ (t.pkt id).map (fun q => (q.at_, q.bytes)) = some
    (PktAt.spread, l) ∧ t.mem = s.mem) ∧
  (∀ (id : Nat) (patch : List (Nat × Byte)) (p : Pkt) (l : List Byte) (s : State), s.pkt id = some p ∧ p.at_ = .leaving ∧ (s.prs.pkts.find?
    fun q => q.pipe == p.pipe && q.at_ == .leaving).map (·.id) = some id ∧ p.drop = false ∧ destKind (vDest p.vec) ∈ [1, 2, 4, 5, 6] ∧
    deparse p.vec (s.rulesFor (vVersion p.vec)).templates patch p.edits p.bytes = l ∧ l.length ≤ 9212 ∧ l.length ≤ p.bytes.length + 128 →
    answers (.pipelineExit id patch) s fun t => (t.pkt id).all (fun q => q.at_ == .ready s.stk.boundary) = true) ∧
  (∀ (id tile round : Nat) (rest : List Nat) (p : Pkt) (s : State), s.prs.spread = id :: rest ∧ s.pkt id = some p ∧ nextTile 1632 (s.get
    Reg.PRS_SPR_LAST) (s.get Reg.PRS_SPR_ROUND) s = some (tile, round) → answers .spreaderDispatch s fun t => t.prs.spread = rest ∧ t.get
    Reg.PRS_SPR_LAST = tile % 256 ∧ (t.pkt id).map (·.at_) = some (PktAt.tile tile (((Map.find? s.til.freeSlots tile).getD []).headD 0)) ∧
    memReadList t (slotAddr s tile (((Map.find? s.til.freeSlots tile).getD []).headD 0)) 256 = toBytes 256 p.vec) ∧
  (∀ (domain : Nat) (s : State), s.skipDue domain = true → answers (.reorderSkip domain) s fun t => t.get Reg.PRS_SKIP_LAST_DOMAIN = domain
    % 2 ^ 20 ∧ t.get Reg.PRS_STATUS_RO_SKIP = 1)

/-- R384, R386, R388, R389, R390, R395, R396, R397, R398, R399, R413, R414: A rule command whose conditions hold changes exactly the live
  rules in ATOMIC mode and the staged ones in VERSIONED mode; commits switch the staged version in and retire the old one. -/
def Obligations.RuleCommandsComplete : Prop :=
  (∀ (who : Issuer) (desc : Nat) (s : State), ruleOpen s who ∧ groupRefusal s desc = none ∧ s.editedRules.rules.any (inGroup desc) = false →
    answers (.groupDefine who desc) s fun t => t.editedRules =
    { s.editedRules with groups := Map.put s.editedRules.groups (groupKey desc) (s.tblKeyOf (byteField desc 0 0) (desc >>> 512)) } ∧
    (s.versioned = true → t.prs.live = s.prs.live ∧ t.get Reg.PRS_VER_STAGED = s.get Reg.PRS_VER_STAGED + 1) ∧ t.get
    Reg.PRS_CMD_STATUS_STATUS = St.ok ∧ t.mem = s.mem) ∧
  (∀ (who : Issuer) (desc m : Nat) (s : State), ruleOpen s who ∧ groupRefusal s desc = none ∧ Map.find? s.editedRules.groups (groupKey desc)
    = some m ∧ byteField desc 4 6 < s.tbl.actions ∧ (s.editedRules.rules.filter fun y => y.table == byteField desc 0 0).length < s.getI
    Reg.PRS_TBL_CAP_CAPACITY (byteField desc 0 0) → answers (.ruleWrite who desc) s fun t => (⟨byteField desc 0 0, byteField desc 1 1,
    s.tblKeyOf (byteField desc 0 0) (desc >>> 512) &&& m, byteField desc 2 3, byteField desc 4 6⟩ : Rule) ∈ t.editedRules.rules ∧
    (s.versioned = true → t.prs.live = s.prs.live ∧ t.get Reg.PRS_VER_STAGED = s.get Reg.PRS_VER_STAGED + 1) ∧ t.get
    Reg.PRS_CMD_STATUS_STATUS = St.ok ∧ t.mem = s.mem) ∧
  (∀ (who : Issuer) (desc m : Nat) (s : State), ruleOpen s who ∧ groupRefusal s desc = none ∧ Map.find? s.editedRules.groups (groupKey desc)
    = some m ∧ (s.editedRules.rules.any fun y => inGroup desc y && y.key == s.tblKeyOf (byteField desc 0 0) (desc >>> 512) &&& m) = true →
    answers (.ruleDelete who desc) s fun t => t.editedRules.rules = (s.editedRules.rules.filter fun y => !(inGroup desc y && y.key ==
    s.tblKeyOf (byteField desc 0 0) (desc >>> 512) &&& m)) ∧ (s.versioned = true → t.prs.live = s.prs.live ∧ t.get Reg.PRS_VER_STAGED =
    s.get Reg.PRS_VER_STAGED + 1) ∧ t.get Reg.PRS_CMD_STATUS_STATUS = St.ok ∧ t.mem = s.mem) ∧
  (∀ (who : Issuer) (entry : Nat) (s : State), ruleOpen s who ∧ 1 ≤ byteField entry 0 0 ∧ byteField entry 0 0 ≤ 7 ∧ byteField entry 1 7 = 0
    ∧ s.get Reg.PRS_CMD_ARG_INDEX < s.tbl.actions ∧ ((List.range (byteField entry 0 0)).all fun k => opValid (byteField entry (8 * (k + 1))
    (8 * (k + 1) + 7))) = true → answers (.actionWrite who entry) s fun t => t.editedRules.actions = Map.put s.editedRules.actions (s.get
    Reg.PRS_CMD_ARG_INDEX) entry ∧ (s.versioned = true → t.prs.live = s.prs.live ∧ t.get Reg.PRS_VER_STAGED = s.get Reg.PRS_VER_STAGED + 1)
    ∧ t.get Reg.PRS_CMD_STATUS_STATUS = St.ok ∧ t.mem = s.mem) ∧
  (∀ (who : Issuer) (template : Nat) (s : State), ruleOpen s who → answers (.templateWrite who template) s fun t => t.editedRules.templates
    = Map.put s.editedRules.templates (s.get Reg.PRS_CMD_ARG_INDEX % 4096) template ∧ (s.versioned = true → t.prs.live = s.prs.live ∧ t.get
    Reg.PRS_VER_STAGED = s.get Reg.PRS_VER_STAGED + 1) ∧ t.get Reg.PRS_CMD_STATUS_STATUS = St.ok ∧ t.mem = s.mem) ∧
  (∀ (who : Issuer) (s : State), managerCmd s Blk.prs 0xA00000 who → answers (.counterClear who) s fun t => t.getI Reg.PRS_CNT_PKT_COUNT
    (s.get Reg.PRS_CMD_ARG_INDEX % 2 ^ 18) = 0 ∧ t.getI Reg.PRS_CNT_BYTE_LO_BYTES (s.get Reg.PRS_CMD_ARG_INDEX % 2 ^ 18) = 0 ∧ t.get
    Reg.PRS_CMD_STATUS_STATUS = St.ok ∧ t.prs = s.prs ∧ t.mem = s.mem) ∧
  (∀ (who : Issuer) (s : State), ruleOpen s who ∧ s.flagI Reg.PRS_TBL_INFO_DEFINED (s.get Reg.PRS_CMD_ARG_TABLE) = true ∧ s.get
    Reg.PRS_CMD_ARG_INDEX < s.tbl.actions → answers (.defaultAction who) s fun t => t.editedRules.defaults = Map.put s.editedRules.defaults
    (s.get Reg.PRS_CMD_ARG_TABLE) (s.get Reg.PRS_CMD_ARG_INDEX) ∧ (s.versioned = true → t.prs.live = s.prs.live ∧ t.get Reg.PRS_VER_STAGED =
    s.get Reg.PRS_VER_STAGED + 1) ∧ t.get Reg.PRS_CMD_STATUS_STATUS = St.ok ∧ t.mem = s.mem) ∧
  (∀ (who : Issuer) (s : State), managerCmd s Blk.prs 0xA00000 who ∧ s.versioned = true ∧ s.flag Reg.PRS_VER_COMMIT_PENDING = false →
    answers (.verCommit who) s fun t => t.prs.commitDue = s.dueBoundary ∧ t.get Reg.PRS_VER_COMMIT_PENDING = 1 ∧ t.prs.staged = s.prs.staged
    ∧ t.prs.live = s.prs.live ∧ t.get Reg.PRS_CMD_STATUS_STATUS = St.ok ∧ t.mem = s.mem) ∧
  (∀ (who : Issuer) (s : State), managerCmd s Blk.prs 0xA00000 who ∧ s.versioned = true ∧ s.flag Reg.PRS_VER_COMMIT_PENDING = false →
    answers (.verAbort who) s fun t => t.prs.staged = s.prs.live ∧ t.prs.live = s.prs.live ∧ t.get Reg.PRS_VER_STAGED = 0 ∧ t.get
    Reg.PRS_CMD_STATUS_STATUS = St.ok ∧ t.mem = s.mem) ∧
  (∀ (s : State), s.flag Reg.PRS_VER_COMMIT_PENDING = true ∧ s.flag Reg.PRS_VER_OLD_LIVE = false ∧ s.prs.commitDue ≤ s.stk.boundary →
    answers .versionSwitch s fun t => t.prs.live = s.prs.staged ∧ t.prs.old = s.prs.live ∧ t.get Reg.PRS_VER_LIVE = (s.get Reg.PRS_VER_LIVE
    + 1) % 16 ∧ t.get Reg.PRS_VER_OLD_LIVE = 1 ∧ t.get Reg.PRS_VER_COMMIT_PENDING = 0 ∧ t.get Reg.PRS_VER_STAGED = 0 ∧ t.mem = s.mem) ∧
  (∀ (s : State), s.flag Reg.PRS_VER_OLD_LIVE = true ∧ (s.prs.pkts.all fun p => vVersion p.vec != s.get Reg.PRS_VER_OLD || !p.inPipe) = true
    → answers .versionRetire s fun t => t.get Reg.PRS_VER_OLD_LIVE = 0 ∧ t.prs.old = ⟨[], [], [], [], []⟩ ∧ t.prs.live = s.prs.live ∧ t.mem
    = s.mem)

/-- R430, R431, R432, R433, R434, R437, R438, R443, R448, R450, R451, R454: A table command whose conditions hold changes the entry it
  names, in the staged version in VERSIONED mode, and a query returns what stands there. -/
def Obligations.TableCommandsComplete : Prop :=
  (∀ (who : Issuer) (desc n : Nat) (e : FlowEntry) (s : State), tableOpen s who ∧ s.stageRefusal = none ∧ s.tblKind n 1 = true ∧ byteField
    desc 0 0 = n ∧ flowEntry s desc (byteField desc 2 3 % 4096) none = e ∧ e.action < s.tbl.actions ∧ s.entryNow n e.key e.niche = none ∧
    (s.flagI Reg.TBL_INFO_TENANT n = true → s.tblUnits n ≤ s.quotaLeft e.niche 5) ∧ ((s.tblX n).live.insert (s.getI Reg.TBL_CUCKOO_SEED n)
    (s.tblBuckets n) (s.effI Reg.TBL_CUCKOO_MAX_KICKS n) s.stk.boundary { e with born := if s.versioned then 1 else 0 }).isSome = true →
    answers (.insert who desc) s fun t => t.entryNow n e.key e.niche = some { e with born := if s.versioned then 1 else 0 } ∧ t.get
    Reg.TBL_CMD_STATUS_STATUS = St.ok ∧ t.mem = s.mem) ∧
  (∀ (who : Issuer) (desc n : Nat) (e o : FlowEntry) (s : State), tableOpen s who ∧ s.versioned = false ∧ s.tblKind n 1 = true ∧ byteField
    desc 0 0 = n ∧ flowEntry s desc (byteField desc 2 3 % 4096) none = e ∧ e.action < s.tbl.actions ∧ s.entryNow n e.key e.niche = some o ∧
    bit (byteField desc 1 1) 1 = 1 ∧ (o.static = true → e.static = true) → answers (.insert who desc) s fun t => (t.entryNow n e.key
    e.niche).map (fun x => (x.action, x.data, x.static, x.notify)) = some (e.action, e.data, e.static, e.notify) ∧ t.get
    Reg.TBL_CMD_STATUS_STATUS = St.ok ∧ t.mem = s.mem) ∧
  (∀ (who : Issuer) (desc n : Nat) (o : FlowEntry) (s : State), tableOpen s who ∧ s.stageRefusal = none ∧ s.tblKind n 1 = true ∧ byteField
    desc 0 0 = n ∧ s.entryNow n (s.tblKeyOf n (desc >>> 512)) (byteField desc 2 3 % 4096) = some o ∧ (o.static = true → bit (byteField desc
    1 1) 0 = 1) → answers (.delete who desc) s fun t => t.entryNow n (s.tblKeyOf n (desc >>> 512)) (byteField desc 2 3 % 4096) = none ∧
    t.get Reg.TBL_CMD_STATUS_STATUS = St.ok ∧ t.mem = s.mem) ∧
  (∀ (who : Issuer) (desc n : Nat) (e : FlowEntry) (stashed : Bool) (data : List Byte) (s : State), tableOpen s who ∧ s.tblKind n 1 = true ∧
    byteField desc 0 0 = n ∧ s.queryHit n (s.tblKeyOf n (desc >>> 512)) (byteField desc 2 3 % 4096) = some (e, stashed) ∧ toBytes 18 (n +
    flowFlags e stashed * 2 ^ 8 + e.niche * 2 ^ 16 + e.action * 2 ^ 32 + e.data * 2 ^ 64 + e.source * 2 ^ 128) = data → answers (.query who
    desc) s fun t => (∀ o ∈ (hostPut 0 (s.get Reg.TBL_CMD_ADDR_ADDR) data s).out, o ∈ t.out) ∧ t.tbl = s.tbl ∧ t.get
    Reg.TBL_CMD_STATUS_STATUS = St.ok ∧ t.mem = s.mem) ∧
  (∀ (who : Issuer) (desc n key : Nat) (s : State), tableOpen s who ∧ s.stageRefusal = none ∧ pfxRefusal s desc = none ∧ byteField desc 0 0
    = n ∧ pfxKey (byteField desc 1 1) (byteField desc 16 19) (pfxAddr s desc) = key ∧ byteField desc 4 6 < s.tbl.actions ∧ s.entryNow n key
    0 = none ∧ ((s.tblX n).live.insert (s.getI Reg.TBL_CUCKOO_SEED n) (s.tblBuckets n) (s.effI Reg.TBL_CUCKOO_MAX_KICKS n) s.stk.boundary
    ⟨key, 0, byteField desc 4 6, byteField desc 8 15, 0, false, false, false, false, none, if s.versioned then 1 else 0, 0, none⟩).isSome =
    true → answers (.pfxInsert who desc) s fun t => t.entryNow n key 0 = some ⟨key, 0, byteField desc 4 6, byteField desc 8 15, 0, false,
    false, false, false, none, if s.versioned then 1 else 0, 0, none⟩ ∧ t.get Reg.TBL_CMD_STATUS_STATUS = St.ok ∧ t.mem = s.mem) ∧
  (∀ (who : Issuer) (desc n key : Nat) (o : FlowEntry) (s : State), tableOpen s who ∧ s.stageRefusal = none ∧ pfxRefusal s desc = none ∧
    byteField desc 0 0 = n ∧ pfxKey (byteField desc 1 1) (byteField desc 16 19) (pfxAddr s desc) = key ∧ s.entryNow n key 0 = some o →
    answers (.pfxDelete who desc) s fun t => t.entryNow n key 0 = none ∧ t.get Reg.TBL_CMD_STATUS_STATUS = St.ok ∧ t.mem = s.mem) ∧
  (∀ (who : Issuer) (n : Nat) (s : State), tableOpen s who ∧ s.get Reg.TBL_CMD_ARG_TABLE = n ∧ s.tblKind n 1 = true ∧ s.flagI
    Reg.TBL_INFO_L2 n = true → answers (.l2Flush who) s fun t => (t.tblX n).live.slots = ((s.tblX n).live.slots.filter fun x =>
    !(x.2.learned && !x.2.static && (bit (s.get Reg.TBL_CMD_ARG_FLUSH_MATCH) 0 == 0 || x.2.source == s.get Reg.TBL_CMD_ARG_SOURCE) && (bit
    (s.get Reg.TBL_CMD_ARG_FLUSH_MATCH) 1 == 0 || l2Domain x.2.key == s.get Reg.TBL_CMD_ARG_SEED % 2 ^ 16))) ∧ t.get
    Reg.TBL_CMD_STATUS_STATUS = St.ok ∧ t.mem = s.mem) ∧
  (∀ (w : Work) (desc n : Nat) (f : Flight) (e : FlowEntry) (s : State), takes s w 0x80 f ∧ s.flag Reg.JNL_STATUS_REGION_READY = true ∧
    tenantRefusal s desc = none ∧ byteField desc 0 0 = n ∧ flowEntry s desc f.niche (some f.ring) = e ∧ s.getI Reg.TBL_NCFG_ACT_BASE f.niche
    ≤ e.action ∧ e.action < s.getI Reg.TBL_NCFG_ACT_BASE f.niche + s.getI Reg.TBL_NCFG_ACT_COUNT f.niche ∧ s.entryNow n e.key e.niche = none
    ∧ s.tblUnits n ≤ s.quotaLeft e.niche 5 ∧ ((s.tblX n).live.insert (s.getI Reg.TBL_CUCKOO_SEED n) (s.tblBuckets n) (s.effI
    Reg.TBL_CUCKOO_MAX_KICKS n) s.stk.boundary { e with born := 0 }).isSome = true → answers (.flowInsert w desc) s fun t => t.entryNow n
    e.key e.niche = some { e with born := 0 } ∧ finishedWith t f.seq St.ok ∧ t.mem = s.mem) ∧
  (∀ (w : Work) (desc n : Nat) (f : Flight) (o : FlowEntry) (s : State), takes s w 0x81 f ∧ s.flag Reg.JNL_STATUS_REGION_READY = true ∧
    tenantRefusal s desc = none ∧ byteField desc 0 0 = n ∧ s.entryNow n (s.tblKeyOf n (desc >>> 512)) f.niche = some o ∧ o.static = false →
    answers (.flowDelete w desc) s fun t => t.entryNow n (s.tblKeyOf n (desc >>> 512)) f.niche = none ∧ finishedWith t f.seq St.ok ∧ t.mem =
    s.mem) ∧
  (∀ (w : Work) (desc n : Nat) (f : Flight) (e : FlowEntry) (stashed : Bool) (s : State), takes s w 0x82 f ∧ s.tblOpen = true ∧ byteField
    desc 0 0 = n ∧ s.tblKind n 1 = true ∧ s.flagI Reg.TBL_INFO_TENANT n = true ∧ s.queryHit n (s.tblKeyOf n (desc >>> 512)) f.niche = some
    (e, stashed) → answers (.flowQuery w desc) s fun t => finishedWith t f.seq St.ok ∧ (∀ g ∈ t.rng.flights, g.seq = f.seq → g.done.map
    (·.result) = some (e.action + flowFlags e stashed * 2 ^ 24 + e.data * 2 ^ 32)) ∧ t.tbl = s.tbl ∧ t.mem = s.mem)

/-- R434, R441, R442, R444, R445, R449, R454, R464: A learn or move request is served, the aging sweep visits its share, the MOVE mark of a
  place clears, and a rehash starts, copies, switches and ends. -/
def Obligations.TableUpkeepCommandsComplete : Prop :=
  (∀ (table : Nat) (l : Learn) (rest : List Learn) (s : State), (s.tblX table).learns = l :: rest ∧ (if (s.tblX table).learnAt =
    s.stk.boundary then (s.tblX table).learned else 0) < s.effI Reg.TBL_L2_CFG_RATE table ∧ s.entryNow table l.key 0 = none ∧ ((s.tblX
    table).live.insert (s.getI Reg.TBL_CUCKOO_SEED table) (s.tblBuckets table) (s.effI Reg.TBL_CUCKOO_MAX_KICKS table) s.stk.boundary
    ⟨l.key, 0, l.action, 0, l.source, false, false, true, true, none, 0, 0, none⟩).isSome = true → answers (.l2Learn table) s fun t =>
    (t.tblX table).learns = rest ∧ (t.entryNow table l.key 0).map (fun e => (e.action, e.source, e.learned, e.hit)) = some (l.action,
    l.source, true, true) ∧ t.mem = s.mem) ∧
  (∀ (table : Nat) (l : Learn) (rest : List Learn) (e : FlowEntry) (s : State), (s.tblX table).moving = l :: rest ∧ s.entryNow table l.key 0
    = some e ∧ e.learned = true ∧ (e.lastMove.all fun b => decide (b + s.getI Reg.TBL_L2_CFG_MOVE_HOLD table ≤ s.stk.boundary)) = true →
    answers (.l2Move table) s fun t => (t.tblX table).moving = rest ∧ (t.entryNow table l.key 0).map (fun x => (x.action, x.source,
    x.lastMove)) = some (l.action, l.source, some s.stk.boundary) ∧ t.get Reg.TBL_STATUS_L2_MOVE = 1 ∧ t.mem = s.mem) ∧
  (∀ (table place b : Nat) (s : State), Map.find? (s.tblX table).live.moves place = some b ∧ (s.flagI Reg.TBL_INFO_STACKED table = true → b
    + 4 ≤ s.stk.boundary) → answers (.moveFlagClear table place) s fun t => Map.find? (t.tblX table).live.moves place = none ∧ (t.tblX
    table).live.slots = (s.tblX table).live.slots ∧ t.regs = s.regs ∧ t.mem = s.mem) ∧
  (∀ (table period n k : Nat) (s : State), s.getI Reg.TBL_AGE_PERIOD table = period ∧ s.getI Reg.PRS_TBL_CAP_CAPACITY table + 16 = n ∧
    period ≠ 0 ∧ (s.tblX table).sweptAt ≠ s.stk.boundary ∧ s.stk.boundary % period = k ∧ ((s.tblX table).live.slots.map (·.1)).Nodup →
    answers (.agingSweep table) s fun t => (t.tblX table).sweptAt = s.stk.boundary ∧ (∀ x ∈ (t.tblX table).live.slots, x.1 < stashBase → k *
    n / period ≤ x.1 → x.1 < (k + 1) * n / period → x.2.static = true ∨ x.2.hit = false) ∧ (∀ x ∈ (s.tblX table).live.slots, x.1 < stashBase
    → k * n / period ≤ x.1 → x.1 < (k + 1) * n / period → x.2.static = false → x.2.hit = false → x ∉ (t.tblX table).live.slots) ∧ t.mem =
    s.mem) ∧
  (∀ (who : Issuer) (n : Nat) (s : State), tableOpen s who ∧ s.get Reg.TBL_CMD_ARG_TABLE = n ∧ (s.tblKind n 1 = true ∨ s.tblKind n 2 = true)
    ∧ s.get Reg.TBL_REHASH_STATE ∉ [1, 2, 3] ∧ s.getI Reg.PRS_TBL_CAP_CAPACITY n * s.tblUnits n ≤ (if s.flagI Reg.TBL_INFO_STACKED n then
    s.tbl.reserve.2 else s.tbl.reserve.1) → answers (.rehashStart who) s fun t => t.get Reg.TBL_REHASH_STATE = 1 ∧ t.get
    Reg.TBL_REHASH_TABLE = n % 64 ∧ t.tbl.rehash = some ⟨s.get Reg.TBL_CMD_ARG_SEED, s.dueBoundary, none, none⟩ ∧ t.get
    Reg.TBL_CMD_STATUS_STATUS = St.ok ∧ t.mem = s.mem) ∧
  (∀ (r : Rehash) (n : Nat) (s : State), s.tbl.rehash = some r ∧ s.get Reg.TBL_REHASH_STATE = 1 ∧ s.get Reg.TBL_REHASH_TABLE = n ∧ r.since ≤
    s.stk.boundary ∧ (s.tblX n).live.slots.length ≤ (s.stk.boundary + 1 - r.since) * 65536 → answers .rehashCopyDone s fun t => (∀ x ∈
    rebuildStore r.seed (s.tblBuckets n) (s.effI Reg.TBL_CUCKOO_MAX_KICKS n) s.stk.boundary ((s.tblX n).live.slots.map (·.2)) Store.empty,
    t.get Reg.TBL_REHASH_STATE = 2 ∧ t.get Reg.TBL_REHASH_COPIED = (s.tblX n).live.slots.length % 2 ^ 32 ∧ t.tbl.rehash = some
    { r with shadow := some x }) ∧ (rebuildStore r.seed (s.tblBuckets n) (s.effI Reg.TBL_CUCKOO_MAX_KICKS n) s.stk.boundary ((s.tblX
    n).live.slots.map (·.2)) Store.empty = none → t.get Reg.TBL_REHASH_STATE = 4 ∧ t.tbl.rehash = none ∧ (t.tblX n).live = (s.tblX n).live)
    ∧ t.mem = s.mem) ∧
  (∀ (who : Issuer) (s : State), tableOpen s who ∧ s.get Reg.TBL_REHASH_STATE = 2 ∧ s.get Reg.TBL_REHASH_TABLE = s.get Reg.TBL_CMD_ARG_TABLE
    → answers (.rehashSwitch who) s fun t => t.deferred = s.deferred ++ [(s.dueBoundary, .rehashSwitch (s.get Reg.TBL_CMD_ARG_TABLE))] ∧
    t.get Reg.TBL_CMD_STATUS_STATUS = St.ok ∧ t.mem = s.mem) ∧
  (∀ (r : Rehash) (b : Nat) (s : State), s.tbl.rehash = some r ∧ r.switchedAt = some b ∧ b + 4 ≤ s.stk.boundary → answers .rehashSwitchEnd s
    fun t => t.get Reg.TBL_REHASH_STATE = 0 ∧ t.tbl.rehash = none ∧ t.tbl.tables = s.tbl.tables ∧ t.mem = s.mem) ∧
  (∀ (who : Issuer) (s : State), tableOpen s who ∧ s.get Reg.TBL_REHASH_STATE ∈ [1, 2] ∧ s.get Reg.TBL_REHASH_TABLE = s.get
    Reg.TBL_CMD_ARG_TABLE → answers (.rehashAbort who) s fun t => t.get Reg.TBL_REHASH_STATE = 0 ∧ t.tbl.rehash = none ∧ t.tbl.tables =
    s.tbl.tables ∧ t.get Reg.TBL_CMD_STATUS_STATUS = St.ok ∧ t.mem = s.mem) ∧
  (∀ (who : Issuer) (s : State), readOpen s 0xB00090 → answers (.rehashStateRead who) s fun t => t.get Reg.TBL_REHASH_STATE = (if s.get
    Reg.TBL_REHASH_STATE = 4 then 0 else s.get Reg.TBL_REHASH_STATE) ∧ t.out = (reply who (s.get Reg.TBL_REHASH_STATE * 2 ^ 61 + s.get
    Reg.TBL_REHASH_TABLE * 2 ^ 48 + s.get Reg.TBL_REHASH_COPIED) s).out ∧ t.mem = s.mem)

/-- R471, R474, R476, R480, R484, R485, R486, R490, R491, R492, R498, R501: A scheduler command whose conditions hold binds or unbinds,
  holds its change for its boundary or switches at its instant; a list is built inside its stroke and its first frame leaves on the wire. -/
def Obligations.SchedulerCommandsComplete : Prop :=
  (∀ (who : Issuer) (n q l : Nat) (s : State), managerCmd s Blk.sch 0xC00000 who ∧ s.get Reg.SCH_CMD_ARG_NICHE = n ∧ s.get
    Reg.SCH_CMD_ARG_INDEX = q ∧ s.get Reg.SCH_CMD_ARG_LOCAL = l ∧ s.nicheRefusal n = none ∧ s.flagI Reg.SCH_NODE_CFG_DEFINED q = true ∧
    s.tdiLocked n = false ∧ s.flagI Reg.SCH_QUEUE_CFG_BOUND q = false ∧ Map.find? s.sch.local_ (localKey n l) = none ∧ s.quotaLeft n 3 ≠ 0 →
    answers (.queueBind who) s fun t => Map.find? t.sch.local_ (localKey n l) = some q ∧ t.getI Reg.SCH_QUEUE_CFG_BOUND q = 1 ∧ t.getI
    Reg.SCH_QUEUE_CFG_NICHE q = n % 2 ^ 12 ∧ t.get Reg.SCH_CMD_STATUS_STATUS = St.ok ∧ t.mem = s.mem) ∧
  (∀ (who : Issuer) (q : Nat) (s : State), managerCmd s Blk.sch 0xC00000 who ∧ s.get Reg.SCH_CMD_ARG_INDEX = q ∧ s.flagI
    Reg.SCH_NODE_CFG_DEFINED q = true ∧ s.tdiLocked (s.getI Reg.SCH_QUEUE_CFG_NICHE q) = false ∧ s.flagI Reg.SCH_QUEUE_CFG_BOUND q = true ∧
    s.queue q = [] → answers (.queueUnbind who) s fun t => Map.find? t.sch.local_ (localKey (s.getI Reg.SCH_QUEUE_CFG_NICHE q) (s.getI
    Reg.SCH_QUEUE_CFG_LOCAL q)) = none ∧ t.getI Reg.SCH_QUEUE_CFG_BOUND q = 0 ∧ t.get Reg.SCH_CMD_STATUS_STATUS = St.ok ∧ t.mem = s.mem) ∧
  (∀ (who : Issuer) (n p : Nat) (s : State), managerCmd s Blk.sch 0xC00000 who ∧ s.get Reg.SCH_CMD_ARG_NICHE = n ∧ s.get
    Reg.SCH_CMD_ARG_INDEX = p ∧ s.nicheRefusal n = none ∧ p < 65536 ∧ s.tdiLocked n = false ∧ s.flagI Reg.SCH_POL_CFG_BOUND p = false ∧
    s.quotaLeft n 8 ≠ 0 → answers (.policerBind who) s fun t => t.getI Reg.SCH_POL_CFG_BOUND p = 1 ∧ t.getI Reg.SCH_POL_CFG_NICHE p = n % 2
    ^ 12 ∧ t.get Reg.SCH_CMD_STATUS_STATUS = St.ok ∧ t.mem = s.mem) ∧
  (∀ (who : Issuer) (p : Nat) (s : State), managerCmd s Blk.sch 0xC00000 who ∧ s.get Reg.SCH_CMD_ARG_INDEX = p ∧ p < 65536 ∧ s.tdiLocked
    (s.getI Reg.SCH_POL_CFG_NICHE p) = false ∧ s.flagI Reg.SCH_POL_CFG_BOUND p = true → answers (.policerUnbind who) s fun t => t.getI
    Reg.SCH_POL_CFG_BOUND p = 0 ∧ t.getI Reg.SCH_POL_GREEN_COUNT p = 0 ∧ t.getI Reg.SCH_POL_YELLOW_COUNT p = 0 ∧ t.getI
    Reg.SCH_POL_RED_COUNT p = 0 ∧ t.get Reg.SCH_CMD_STATUS_STATUS = St.ok ∧ t.mem = s.mem) ∧
  (∀ (who : Issuer) (gcl p n : Nat) (s : State), managerCmd s Blk.sch 0xC00000 who ∧ byteField gcl 0 0 = p ∧ byteField gcl 2 3 = n ∧ p < 16
    ∧ 1 ≤ n ∧ n ≤ 256 ∧ s.getI Reg.SCH_PORT_CFG_RATE_MBPS p ≠ 0 ∧ expandTime s.stk.phcNs (byteField gcl 8 15) % s.period = 0 ∧ ((gclEntries
    gcl n).all fun e => e.2 != 0) = true → answers (.gclSet who gcl) s fun t => Map.find? t.sch.pend p = some ⟨gclEntries gcl n, expandTime
    s.stk.phcNs (byteField gcl 8 15)⟩ ∧ (Map.find? t.sch.pendAt p).any (fun x => decide (expandTime s.stk.phcNs (byteField gcl 8 15) ≤ x)) =
    true ∧ t.getI Reg.SCH_GCL_STATUS_PENDING p = 1 ∧ t.sch.oper = s.sch.oper ∧ t.get Reg.SCH_CMD_STATUS_STATUS = St.ok ∧ t.mem = s.mem) ∧
  (∀ (who : Issuer) (s : State), managerCmd s Blk.sch 0xC00000 who → answers (.gclCancel who) s fun t => Map.find? t.sch.pend (s.get
    Reg.SCH_CMD_ARG_PORT) = none ∧ t.getI Reg.SCH_GCL_STATUS_PENDING (s.get Reg.SCH_CMD_ARG_PORT) = 0 ∧ t.sch.oper = s.sch.oper ∧ t.get
    Reg.SCH_CMD_STATUS_STATUS = St.ok ∧ t.mem = s.mem) ∧
  (∀ (port at_ : Nat) (g : GateList) (s : State), Map.find? s.sch.pend port = some g ∧ Map.find? s.sch.pendAt port = some at_ ∧ at_ ≤
    s.stk.phcNs → answers (.gclSwitch port) s fun t => Map.find? t.sch.oper port = some g ∧ Map.find? t.sch.pend port = none ∧ t.getI
    Reg.SCH_GCL_STATUS_PENDING port = 0 ∧ t.getI Reg.SCH_GCL_STATUS_BANK port = (1 - s.getI Reg.SCH_GCL_STATUS_BANK port) ∧ t.get
    Reg.SCH_STATUS_GCL_SWITCH = 1 ∧ t.mem = s.mem) ∧
  (∀ (who : Issuer) (value h : Nat) (s : State), writeOpen s who 0xC00030 ∧ s.get Reg.SCH_NODE_SEL_NODE = h ∧ s.flagI
    Reg.SCH_NODE_CFG_DEFINED h = true ∧ s.rateHeld h = false → answers (.shaperChange who value) s fun t => t.deferred = s.deferred ++
    [(s.dueBoundary, .shaper h value)] ∧ t.getI Reg.SCH_NODE_SHAPE_RATE h = s.getI Reg.SCH_NODE_SHAPE_RATE h ∧ t.mem = s.mem) ∧
  (∀ (who : Issuer) (mode p : Nat) (s : State), writeOpen s who 0xC00080 ∧ s.get Reg.SCH_POL_SEL_POLICER = p ∧ 9216 ≤ s.getI
    Reg.SCH_POL_BURST_CBS p ∧ 9216 ≤ s.getI Reg.SCH_POL_BURST_SECOND_BURST p ∧ (s.getI Reg.SCH_POL_RATE_CIR p * s.period + 7999999) /
    8000000 ≤ s.getI Reg.SCH_POL_BURST_CBS p ∧ (s.getI Reg.SCH_POL_RATE_SECOND_RATE p * s.period + 7999999) / 8000000 ≤ s.getI
    Reg.SCH_POL_BURST_SECOND_BURST p ∧ (mode = 0 → s.getI Reg.SCH_POL_RATE_CIR p ≤ s.getI Reg.SCH_POL_RATE_SECOND_RATE p) → answers
    (.policerApply who mode) s fun t => t.deferred = s.deferred ++ [(s.dueBoundary, .policer p mode (s.getI Reg.SCH_POL_RATE_CIR p) (s.getI
    Reg.SCH_POL_BURST_CBS p) (s.getI Reg.SCH_POL_RATE_SECOND_RATE p) (s.getI Reg.SCH_POL_BURST_SECOND_BURST p))] ∧ t.getI
    Reg.SCH_POL_CFG_MODE p = mode % 2 ∧ t.mem = s.mem) ∧
  (∀ (port start : Nat) (s : State), s.running = true ∧ s.getI Reg.SCH_PORT_CFG_RATE_MBPS port ≠ 0 ∧ s.sch.linkUp.contains port = true ∧
    s.unitServes 6 port = true ∧ s.sch.late.contains port = false ∧ (s.stk.phcNs + s.period) * 1000 = start → answers (.transmitListBuild
    port) s fun t => ((Map.find? t.sch.lists port).getD []).take ((Map.find? s.sch.lists port).getD []).length = (Map.find? s.sch.lists
    port).getD [] ∧ (((Map.find? t.sch.lists port).getD []).drop ((Map.find? s.sch.lists port).getD []).length).all (fun f => decide (start
    ≤ f.at_) && decide (f.at_ < start + s.period * 1000)) = true) ∧
  (∀ (port start at_ : Nat) (u v : State) (f : SFrame) (s : State), s.running = true ∧ s.getI Reg.SCH_PORT_CFG_RATE_MBPS port ≠ 0 ∧
    s.sch.linkUp.contains port = true ∧ s.unitServes 6 port = true ∧ s.sch.late.contains port = false ∧ (s.stk.phcNs + s.period) * 1000 =
    start ∧ max start ((Map.find? s.sch.wireFree port).getD 0) = at_ ∧ at_ < start + s.period * 1000 ∧ dropUnfit port s = u ∧ dueLaunch u
    port (start + s.period * 1000) = [] ∧ select u port at_ (at_ + 10 ^ 18) = some (f, v) → answers (.transmitListBuild port) s fun t =>
    ((Map.find? t.sch.lists port).getD [])[((Map.find? s.sch.lists port).getD []).length]? = some { f with at_ := at_ }) ∧
  (∀ (port sub : Nat) (f : SFrame) (rest : List SFrame) (s : State), (Map.find? s.sch.lists port).getD [] = f :: rest ∧ s.sch.late.contains
    port = false ∧ f.oneStep = false → answers (.frameTransmit port sub) s fun t => (Map.find? t.sch.lists port).getD [] = rest ∧ Out.frame
    port (ofBytes f.bytes) (compactTime ((((f.at_ : Nat) : Int) + txTrim s port).toNat / 1000)) ∈ t.out ∧ t.getI Reg.SCH_Q_TX_PKT_COUNT
    f.queue = (addI Reg.SCH_Q_TX_PKT_COUNT f.queue 1 s).getI Reg.SCH_Q_TX_PKT_COUNT f.queue ∧ t.mem = s.mem)

/-- R512, R513, R514, R517, R518, R519, R520, R523, R525, R534, R538, R539: A Turelm work entry whose conditions hold starts a message with
  the next ID to its peer, posts its buffer, or opens, closes or revokes what it names, at once or at its boundary. -/
def Obligations.TurelmWorkCommandsComplete : Prop :=
  (∀ (w : Work) (f : Flight) (e : Endpoint) (x : Window) (s : State), tlTakes s w 0x10 f e ∧ (dataCheck s f e 1).toOption = some x ∧
    s.sendRoom (eDev f.entry) = true → answers (.tlWrite w) s fun t => (∃ y ∈ t.tlt.sends, (y.peer, y.msg, y.op, y.owner, y.len, y.key,
    y.off) = (eDev f.entry, (s.peerX (eDev f.entry)).next, 1, Owner.work f.seq, eLen f.entry, eRemoteKey f.entry, eRemoteOff f.entry)) ∧
    (t.peerX (eDev f.entry)).next = ((s.peerX (eDev f.entry)).next + 1) % 2 ^ 32 ∧ t.mem = s.mem) ∧
  (∀ (w : Work) (f : Flight) (e : Endpoint) (x : Window) (s : State), tlTakes s w 0x11 f e ∧ (dataCheck s f e 2).toOption = some x ∧
    s.sendRoom (eDev f.entry) = true → answers (.tlWriteImm w) s fun t => (∃ y ∈ t.tlt.sends, (y.peer, y.msg, y.op, y.owner, y.len, y.key,
    y.imm) = (eDev f.entry, (s.peerX (eDev f.entry)).next, 2, Owner.work f.seq, eLen f.entry, eRemoteKey f.entry, eImm f.entry)) ∧ (t.peerX
    (eDev f.entry)).next = ((s.peerX (eDev f.entry)).next + 1) % 2 ^ 32 ∧ t.mem = s.mem) ∧
  (∀ (w : Work) (f : Flight) (e : Endpoint) (x : Window) (s : State), tlTakes s w 0x12 f e ∧ (dataCheck s f e 3).toOption = some x ∧
    s.sendRoom (eDev f.entry) = true → answers (.tlSend w) s fun t => (∃ y ∈ t.tlt.sends, (y.peer, y.msg, y.op, y.owner, y.len, y.dstEp) =
    (eDev f.entry, (s.peerX (eDev f.entry)).next, 3, Owner.work f.seq, eLen f.entry, eDstEp f.entry)) ∧ (t.peerX (eDev f.entry)).next =
    ((s.peerX (eDev f.entry)).next + 1) % 2 ^ 32 ∧ t.mem = s.mem) ∧
  (∀ (w : Work) (f : Flight) (e : Endpoint) (x : Window) (s : State), tlTakes s w 0x13 f e ∧ (dataCheck s f e 4).toOption = some x ∧
    s.sendRoom (eDev f.entry) = true → answers (.tlRead w) s fun t => (∃ y ∈ t.tlt.sends, (y.peer, y.msg, y.op, y.owner, y.len, y.lkey,
    y.loff) = (eDev f.entry, (s.peerX (eDev f.entry)).next, 4, Owner.work f.seq, eLen f.entry, eLocalKey f.entry, eLocalOff f.entry)) ∧
    (t.peerX (eDev f.entry)).next = ((s.peerX (eDev f.entry)).next + 1) % 2 ^ 32 ∧ t.mem = s.mem) ∧
  (∀ (w : Work) (f : Flight) (e : Endpoint) (s : State), tlTakes s w 0x14 f e ∧ peerStatus s (eDev f.entry) = St.ok ∧ byteField f.entry 16
    16 ≤ 2 ∧ eRemoteOff f.entry % 8 = 0 ∧ s.sendRoom (eDev f.entry) = true → answers (.tlAtomic w) s fun t => (∃ y ∈ t.tlt.sends, (y.peer,
    y.msg, y.op, y.owner, y.atop, y.operand, y.compare) = (eDev f.entry, (s.peerX (eDev f.entry)).next, 6, Owner.work f.seq, byteField
    f.entry 16 16, byteField f.entry 32 39, byteField f.entry 40 47)) ∧ t.mem = s.mem) ∧
  (∀ (w : Work) (f : Flight) (e : Endpoint) (s : State), tlTakes s w 0x15 f e ∧ peerStatus s (eDev f.entry) = St.ok ∧ s.settledTo f = true ∧
    s.sendRoom (eDev f.entry) = true → answers (.tlFlush w) s fun t => (∃ y ∈ t.tlt.sends, (y.peer, y.msg, y.op, y.owner) = (eDev f.entry,
    (s.peerX (eDev f.entry)).next, 8, Owner.work f.seq)) ∧ t.mem = s.mem) ∧
  (∀ (w : Work) (f : Flight) (e : Endpoint) (x : Window) (s : State), tlTakes s w 0x16 f e ∧ (localCheck s f.niche e.pd (eLocalKey f.entry)
    4 (eLocalOff f.entry) (eLen f.entry)).toOption = some x ∧ eLen f.entry ≠ 0 ∧ e.buffers.length < 512 → answers (.tlRecv w) s fun t =>
    (Map.find? t.tlt.eps (eEp f.entry)).map (·.buffers) = some (e.buffers ++ [f.seq]) ∧ t.regs = s.regs ∧ t.mem = s.mem) ∧
  (∀ (w : Work) (f : Flight) (ep : Nat) (s : State), takes s w 0x18 f ∧ s.flag Reg.JNL_STATUS_REGION_READY = true ∧ Map.find? s.tlt.pds (ePd
    f.entry) = some f.niche ∧ (Map.find? s.sch.local_ (localKey f.niche (eQueue f.entry))).isSome = true ∧ s.quotaLeft f.niche 4 ≠ 0 ∧ (bit
    (eSpace f.entry) 0 = 1 → s.quotaLeft f.niche 14 ≠ 0) ∧ lowestFree (s.tlt.eps.length + s.tlt.epHold.length + 1) 0 (s.tlt.eps.map (·.1) ++
    s.tlt.epHold.map (·.1)) = some ep ∧ ep < poolEp → answers (.epOpen w) s fun t => (Map.find? t.tlt.eps ep).map (fun e => (e.niche, e.pd,
    e.queue, e.pin, e.lost, e.ring)) = some (f.niche, ePd f.entry, eQueue f.entry, bit (eSpace f.entry) 0 == 1, false, f.ring) ∧
    finishedWith t f.seq St.ok ∧ t.mem = s.mem) ∧
  (∀ (w : Work) (f : Flight) (e : Endpoint) (s : State), takes s w 0x19 f ∧ s.flag Reg.JNL_STATUS_REGION_READY = true ∧ s.ownEp f.niche
    (eEndpoint f.entry) = some e → answers (.epClose w) s fun t => t.deferred = s.deferred ++ [(s.dueBoundary, .epClose (eEndpoint f.entry)
    (some f.seq))] ∧ t.tlt = s.tlt ∧ t.mem = s.mem) ∧
  (∀ (ep b : Nat) (s : State), Map.find? s.tlt.epHold ep = some b ∧ b ≤ s.stroke → answers (.epHoldExpiry ep) s fun t => Map.find?
    t.tlt.epHold ep = none ∧ t.regs = s.regs ∧ t.mem = s.mem) ∧
  (∀ (w : Work) (f : Flight) (s : State), takes s w 0x1A f ∧ s.flag Reg.JNL_STATUS_REGION_READY = true ∧ winStatus s f = St.ok ∧ s.quotaLeft
    f.niche 6 ≠ 0 ∧ s.winsTaken.length < 65536 → answers (.winOpen w) s fun t => (∃ i ∈ List.range 65536, t.deferred = s.deferred ++
    [(s.dueBoundary, .winOpen i (winOf f) f.seq)] ∧ s.winsTaken.contains i = false) ∧ t.tlt.wins = s.tlt.wins ∧ t.mem = s.mem) ∧
  (∀ (w : Work) (f : Flight) (i : Nat) (s : State), takes s w 0x1B f ∧ s.flag Reg.JNL_STATUS_REGION_READY = true ∧ (keyNamed s f.niche (eKey
    f.entry)).toOption = some i ∧ winStatus s f = St.ok ∧ eKey f.entry % 256 < 255 → answers (.winRewrite w) s fun t => t.deferred =
    s.deferred ++ [(s.dueBoundary, .winRewrite i i (winOf f) f.seq)] ∧ t.tlt = s.tlt ∧ t.mem = s.mem) ∧
  (∀ (w : Work) (f : Flight) (i : Nat) (s : State), takes s w 0x1B f ∧ s.flag Reg.JNL_STATUS_REGION_READY = true ∧ (keyNamed s f.niche (eKey
    f.entry)).toOption = some i ∧ winStatus s f = St.ok ∧ eKey f.entry % 256 = 255 ∧ s.winsTaken.length + s.tlt.gens.length < 65536 →
    answers (.winRewrite w) s fun t => (∃ j ∈ List.range 65536, t.deferred = s.deferred ++ [(s.dueBoundary, .winRewrite i j (winOf f)
    f.seq)] ∧ s.winsTaken.contains j = false) ∧ t.tlt = s.tlt ∧ t.mem = s.mem) ∧
  (∀ (w : Work) (f : Flight) (i : Nat) (s : State), takes s w 0x1C f ∧ s.flag Reg.JNL_STATUS_REGION_READY = true ∧ (keyNamed s f.niche (eKey
    f.entry)).toOption = some i → answers (.winRevoke w) s fun t => t.deferred = s.deferred ++ [(s.dueBoundary, .winRevoke i (some f.seq))]
    ∧ t.tlt = s.tlt ∧ t.mem = s.mem) ∧
  (∀ (index q : Nat) (x : Fence) (s : State), (s.tlt.fences.find? fun y => y.index == index) = some x ∧ x.seq = some q ∧ waits s q → answers
    (.revokeFence index) s fun t => x ∉ t.tlt.fences ∧ finishedWith t q St.ok ∧ t.tlt.wins = s.tlt.wins ∧ t.mem = s.mem) ∧
  (∀ (index b : Nat) (s : State), Map.find? s.tlt.winHold index = some b ∧ b ≤ s.stroke → answers (.wrapHoldExpiry index) s fun t =>
    Map.find? t.tlt.winHold index = none ∧ t.regs = s.regs ∧ t.mem = s.mem) ∧
  (∀ (w : Work) (f : Flight) (s : State), takes s w 0x1D f ∧ s.flag Reg.JNL_STATUS_REGION_READY = true ∧ s.quotaLeft f.niche 7 ≠ 0 ∧
    s.tlt.pds.length < 65536 → answers (.pdAlloc w) s fun t => (∃ d ∈ List.range 65536, Map.find? s.tlt.pds d = none ∧ t.tlt.pds = Map.put
    s.tlt.pds d f.niche) ∧ finishedWith t f.seq St.ok ∧ t.mem = s.mem) ∧
  (∀ (w : Work) (f : Flight) (d : Nat) (s : State), takes s w 0x1E f ∧ s.flag Reg.JNL_STATUS_REGION_READY = true ∧ ePd f.entry = d ∧
    Map.find? s.tlt.pds d = some f.niche ∧ (s.tlt.eps.any fun p => p.2.pd == d) = false ∧ (s.tlt.wins.any fun p => p.2.pd == d && p.2.space
    != 2) = false → answers (.pdFree w) s fun t => Map.find? t.tlt.pds d = none ∧ finishedWith t f.seq St.ok ∧ t.mem = s.mem)

/-- R522, R525, R527, R528, R529, R530, R531, R533, R534, R536, R537, R548: A request of the epoch in force at an open target with a window
  that admits it has its bytes placed or its value read or changed, and its message ID recorded. -/
def Obligations.TurelmReceiveCommandsComplete : Prop :=
  (∀ (p : TlPkt) (x : Window) (s : State), arrives s p ∧ s.msgPlace p.src p.msg = .open_ ∧ targetOpen s p ∧ s.rxMsg p.src p.msg = none ∧
    p.op = 1 ∧ chunkCount p.len p.seg = 1 ∧ chunkOf p = 0 ∧ bit p.flags 0 = 0 ∧ (targetWin s p rightWrite (byteField p.ext 8 15 + p.off)
    p.data.length).toOption = some x → answers (.wireDataReceive p) s fun t => t.mem = (winPut x (byteField p.ext 8 15 + p.off) p.data
    s).mem ∧ (∀ o ∈ (winPut x (byteField p.ext 8 15 + p.off) p.data s).out, o ∈ t.out) ∧ t.msgPlace p.src p.msg ≠ .open_) ∧
  (∀ (p : TlPkt) (x : Window) (y : RxMsg) (s : State), arrives s p ∧ s.msgPlace p.src p.msg = .open_ ∧ targetOpen s p ∧ s.rxMsg p.src p.msg
    = some y ∧ p.op = 1 ∧ y.held.contains (chunkOf p) = false ∧ chunkOf p < firstGap y.held + 1024 ∧ (insertNat (chunkOf p) y.held).length ≠
    chunkCount y.len y.seg ∧ (targetWin s p rightWrite (byteField p.ext 8 15 + p.off) p.data.length).toOption = some x → answers
    (.wireDataReceive p) s fun t => t.mem = (winPut x (byteField p.ext 8 15 + p.off) p.data s).mem ∧ (t.rxMsg p.src p.msg).map (fun z =>
    (z.held, z.ackDue)) = some (insertNat (chunkOf p) y.held, some (s.stroke + 1))) ∧
  (∀ (p : TlPkt) (e : Endpoint) (f : Flight) (x : Window) (q : Nat) (rest : List Nat) (s : State), arrives s p ∧ s.msgPlace p.src p.msg =
    .open_ ∧ targetOpen s p ∧ s.rxMsg p.src p.msg = none ∧ p.op = 3 ∧ chunkCount p.len p.seg = 1 ∧ chunkOf p = 0 ∧ bit p.flags 0 = 0 ∧
    Map.find? s.tlt.eps p.dstEp = some e ∧ e.buffers = q :: rest ∧ s.flight q = some f ∧ f.done = none ∧ p.len ≤ eLen f.entry ∧ p.data ≠ []
    ∧ (winCheck s (eLocalKey f.entry) (fun w => w.pd == e.pd) 4 (eLocalOff f.entry + p.off) p.data.length).toOption = some x → answers
    (.wireDataReceive p) s fun t => t.mem = (winPut x (eLocalOff f.entry + p.off) p.data s).mem ∧ finishedWith t q St.ok ∧ (Map.find?
    t.tlt.eps p.dstEp).map (·.buffers) = some rest ∧ t.msgPlace p.src p.msg ≠ .open_) ∧
  (∀ (p : TlPkt) (e : Endpoint) (f : Flight) (x : Window) (q : Nat) (rest : List Nat) (s : State), arrives s p ∧ s.msgPlace p.src p.msg =
    .open_ ∧ targetOpen s p ∧ s.rxMsg p.src p.msg = none ∧ p.op = 2 ∧ chunkCount p.len p.seg = 1 ∧ chunkOf p = 0 ∧ bit p.flags 0 = 0 ∧
    Map.find? s.tlt.eps p.dstEp = some e ∧ e.buffers = q :: rest ∧ s.flight q = some f ∧ f.done = none ∧ p.len ≤ eLen f.entry ∧ (targetWin s
    p rightWrite (byteField p.ext 8 15 + p.off) p.data.length).toOption = some x → answers (.wireDataReceive p) s fun t => t.mem = (winPut x
    (byteField p.ext 8 15 + p.off) p.data s).mem ∧ finishedWith t q St.ok ∧ (Map.find? t.tlt.eps p.dstEp).map (·.buffers) = some rest ∧
    t.msgPlace p.src p.msg ≠ .open_) ∧
  (∀ (p : TlPkt) (x : Window) (s : State), arrives s p ∧ s.msgPlace p.src p.msg = .open_ ∧ targetOpen s p ∧ (s.tlt.serves.any fun y =>
    y.peer == p.src && y.msg == p.msg) = false ∧ (targetWin s p rightRead (byteField p.ext 8 15) p.len).toOption = some x → answers
    (.wireReadReqReceive p) s fun t => (x.space ≠ 0 → t.msgPlace p.src p.msg ≠ .open_) ∧ (x.space = 0 → serveOf p ∈ t.tlt.serves) ∧ t.mem =
    s.mem) ∧
  (∀ (p : TlPkt) (x : Window) (s : State), arrives s p ∧ s.msgPlace p.src p.msg = .open_ ∧ targetOpen s p ∧ (s.tlt.serves.any fun y =>
    y.peer == p.src && y.msg == p.msg) = false ∧ s.trackers < s.get Reg.TLT_TRK_CAP_RECV_MAX ∧ (targetWin s p rightAtomic (byteField p.ext 8
    15) 8).toOption = some x ∧ byteField p.ext 4 4 ≤ 2 ∧ byteField p.ext 8 15 % 8 = 0 ∧ x.space ≠ 0 → answers (.wireAtomicReceive p) s fun t
    => t.mem = (atomicAt (winAddr s x (byteField p.ext 8 15)) (byteField p.ext 4 4) (byteField p.ext 16 23) (byteField p.ext 24 31) s).2.mem
    ∧ (∃ y ∈ t.tlt.serves, (y.peer, y.msg, y.result) = (p.src, p.msg, some (toBytes 8 (atomicAt (winAddr s x (byteField p.ext 8 15))
    (byteField p.ext 4 4) (byteField p.ext 16 23) (byteField p.ext 24 31) s).1))) ∧ t.msgPlace p.src p.msg ≠ .open_) ∧
  (∀ (p : TlPkt) (s : State), arrives s p ∧ s.msgPlace p.src p.msg = .open_ ∧ (s.tlt.flushes.any fun y => y.1 == p.src && y.2.1 == p.msg) =
    false → answers (.wireFlushReceive p) s fun t => ((s.peerX p.src).dirty = [] → t.msgPlace p.src p.msg ≠ .open_) ∧ ((s.peerX p.src).dirty
    ≠ [] → t.tlt.flushes = s.tlt.flushes ++ [(p.src, p.msg, (s.peerX p.src).dirty)]) ∧ t.mem = s.mem) ∧
  (∀ (p : TlPkt) (d : Map (Nat × Nat)) (s : State), arrives s p ∧ s.msgPlace p.src p.msg = .open_ ∧ (s.tlt.flushes.any fun y => y.1 == p.src
    && y.2.1 == p.msg) = false ∧ (s.peerX p.src).dirty = d ∧ d ≠ [] → answers (.wireFlushReceive p) s fun t => t.tlt.flushes = s.tlt.flushes
    ++ [(p.src, p.msg, d)] ∧ t.mem = s.mem) ∧
  (∀ (peer msg : Nat) (x : Nat × Nat × Map (Nat × Nat)) (s : State), (s.tlt.flushes.find? fun y => y.1 == peer && y.2.1 == msg) = some x ∧
    (s.hif.tags.any fun y => y.purpose == .flush peer msg) = false ∧ (s.hif.waiting.any fun y => y.2 == .flush peer msg) = false → answers
    (.flushVisibilityDone peer msg) s fun t => (t.tlt.flushes.find? fun y => y.1 == peer && y.2.1 == msg) = none ∧ t.msgPlace peer msg ≠
    .open_ ∧ t.mem = s.mem) ∧
  (∀ (p : TlPkt) (s : State), arrives s p ∧ s.msgPlace p.src p.msg = .open_ → answers (.wireAbandonReceive p) s fun t => t.rxMsg p.src p.msg
    = none ∧ (t.tlt.serves.any fun y => y.peer == p.src && y.msg == p.msg) = false ∧ t.msgPlace p.src p.msg ≠ .open_ ∧ t.mem = s.mem) ∧
  (∀ (peer msg : Nat) (x : RxMsg) (s : State), s.rxMsg peer msg = some x ∧ x.waiting = true ∧ s.laneTurn x = true → answers
    (.orderedCompletionRelease peer msg) s fun t => t.rxMsg peer msg = none ∧ (∀ q, x.buffer = some q → waits s q → finishedWith t q St.ok)
    ∧ t.mem = s.mem) ∧
  (∀ (peer msg b : Nat) (x : RxMsg) (s : State), s.rxMsg peer msg = some x ∧ x.ackDue = some b ∧ b ≤ s.stroke → answers (.deferredAck peer
    msg) s fun t => (t.rxMsg peer msg).map (fun y => (y.ackDue, y.ces, y.held)) = some (none, 0, x.held) ∧ t.mem = s.mem)

/-- R526, R532, R533, R534, R535, R537, R541, R542, R545, R546, R564: A response or acknowledgement of a message under way advances or
  settles it, a timer resends or ends it, and a recalled context returns or its endpoint is lost. -/
def Obligations.TurelmReplyCommandsComplete : Prop :=
  (∀ (p : TlPkt) (x : Send) (q : Nat) (w : Window) (s : State), arrives s p ∧ s.send p.src p.msg = some x ∧ x.op = 4 ∧ x.owner = .work q ∧
    x.dstEp ≠ poolEp ∧ (Map.find? s.tlt.eps p.dstEp).all (·.onDie) = true ∧ x.held.contains (chunkOf p) = false ∧ (winCheck s x.lkey (fun w
    => some w.pd == (Map.find? s.tlt.eps x.srcEp).map (·.pd)) 4 (x.loff + p.off) p.data.length).toOption = some w ∧ (insertNat (chunkOf p)
    x.held).length = chunkCount x.len x.seg ∧ waits s q → answers (.wireReadRespReceive p) s fun t => t.mem = (winPut w (x.loff + p.off)
    p.data s).mem ∧ t.send p.src p.msg = none ∧ finishedWith t q St.ok) ∧
  (∀ (p : TlPkt) (x : Send) (q : Nat) (w : Window) (s : State), arrives s p ∧ s.send p.src p.msg = some x ∧ x.op = 4 ∧ x.owner = .work q ∧
    x.dstEp ≠ poolEp ∧ (Map.find? s.tlt.eps p.dstEp).all (·.onDie) = true ∧ x.held.contains (chunkOf p) = false ∧ (winCheck s x.lkey (fun w
    => some w.pd == (Map.find? s.tlt.eps x.srcEp).map (·.pd)) 4 (x.loff + p.off) p.data.length).toOption = some w ∧ (insertNat (chunkOf p)
    x.held).length ≠ chunkCount x.len x.seg → answers (.wireReadRespReceive p) s fun t => t.mem = (winPut w (x.loff + p.off) p.data s).mem ∧
    (t.send p.src p.msg).map (fun y => (y.held, y.tries)) = some (insertNat (chunkOf p) x.held, 0)) ∧
  (∀ (p : TlPkt) (x : Send) (q : Nat) (s : State), arrives s p ∧ s.send p.src p.msg = some x ∧ x.op = 6 ∧ x.owner = .work q ∧ (Map.find?
    s.tlt.eps p.dstEp).all (·.onDie) = true ∧ waits s q → answers (.wireAtomicRespReceive p) s fun t => t.send p.src p.msg = none ∧
    finishedWith t q St.ok ∧ (∀ g ∈ t.rng.flights, g.seq = q → g.done.map (·.result) = some (byteField p.ext 0 7)) ∧ t.mem = s.mem) ∧
  (∀ (p : TlPkt) (x : Send) (q : Nat) (s : State), arrives s p ∧ s.send p.src p.msg = some x ∧ x.op = 8 ∧ x.owner = .work q ∧ waits s q →
    answers (.wireFlushAckReceive p) s fun t => t.send p.src p.msg = none ∧ finishedWith t q (if ((Map.find? s.tlt.eps x.srcEp).bind fun e
    => Map.find? e.fails p.src).getD 0 = 0 then St.ok else St.tlFlushFailed) ∧ t.mem = s.mem) ∧
  (∀ (p : TlPkt) (x : Send) (q : Nat) (new : List Nat) (s : State), arrives s p ∧ bit p.flags 1 = 0 ∧ s.send p.src p.msg = some x ∧
    x.carries = true ∧ ((ackChunks x.packets p.ext).filter fun k => decide (k < x.packets) && !x.held.contains k) = new ∧ new ≠ [] ∧
    x.held.length + new.length = x.packets ∧ x.owner = .work q ∧ waits s q → answers (.wireAckReceive p) s fun t => t.send p.src p.msg =
    none ∧ finishedWith t q St.ok ∧ t.mem = s.mem) ∧
  (∀ (p : TlPkt) (x : Send) (new : List Nat) (s : State), arrives s p ∧ bit p.flags 1 = 0 ∧ s.send p.src p.msg = some x ∧ x.carries = true ∧
    ((ackChunks x.packets p.ext).filter fun k => decide (k < x.packets) && !x.held.contains k) = new ∧ new ≠ [] ∧ x.held.length + new.length
    ≠ x.packets → answers (.wireAckReceive p) s fun t => (t.send p.src p.msg).map (fun y => (y.held, y.tries)) = some (new.foldl (fun l k =>
    insertNat k l) x.held, 0) ∧ t.mem = s.mem) ∧
  (∀ (p : TlPkt) (x : Send) (q : Nat) (s : State), arrives s p ∧ s.send p.src p.msg = some x ∧ x.op ≠ 0xC ∧ byteField p.ext 0 0 ≠
    St.receiverBusy ∧ byteField p.ext 0 0 ≠ St.ok ∧ x.owner = .work q ∧ waits s q → answers (.wireNakReceive p) s fun t => t.send p.src
    p.msg = none ∧ finishedWith t q (byteField p.ext 0 0) ∧ t.get Reg.TLT_NAK_LAST_STATUS = byteField p.ext 0 0 ∧ t.mem = s.mem) ∧
  (∀ (p : TlPkt) (x : Send) (s : State), arrives s p ∧ s.send p.src p.msg = some x ∧ x.op ≠ 0xC ∧ byteField p.ext 0 0 = St.receiverBusy ∧
    x.busy + 1 ≤ s.eff Reg.TLT_RETRY_BUSY_LIMIT → answers (.wireNakReceive p) s fun t => (t.send p.src p.msg).map (fun y => (y.busy,
    y.chunkDue)) = some (x.busy + 1, (x.chunkDue.filter fun c => c.1 != byteField p.ext 4 7) ++ [(byteField p.ext 4 7, s.stroke + min (s.eff
    Reg.TLT_RETRY_BUSY_BASE * 2 ^ x.busy) (s.eff Reg.TLT_RETRY_RTO_MAX))]) ∧ t.mem = s.mem) ∧
  (∀ (peer msg : Nat) (x : Send) (s : State), s.send peer msg = some x ∧ x.due ≤ s.stroke ∧ x.tries + 1 ≤ s.eff Reg.TLT_RETRY_LIMIT →
    answers (.messageTimeout peer msg) s fun t => (t.send peer msg).map (fun y => (y.tries, y.rto)) = some (x.tries + 1, min (2 * x.rto)
    (s.eff Reg.TLT_RETRY_RTO_MAX)) ∧ t.mem = s.mem) ∧
  (∀ (peer msg q : Nat) (x : Send) (s : State), s.send peer msg = some x ∧ x.due ≤ s.stroke ∧ s.eff Reg.TLT_RETRY_LIMIT < x.tries + 1 ∧ x.op
    ≠ 0xC ∧ x.owner = .work q ∧ waits s q → answers (.messageTimeout peer msg) s fun t => (t.send peer msg).map (·.op) = some 0xC ∧
    finishedWith t q St.retryExceeded ∧ t.get Reg.TLT_STATUS_RETRY_EXC = 1 ∧ t.mem = s.mem) ∧
  (∀ (peer msg chunk : Nat) (x : Send) (c : Nat × Nat) (s : State), s.send peer msg = some x ∧ (x.chunkDue.find? fun c => c.1 == chunk) =
    some c ∧ c.2 ≤ s.stroke → answers (.busyBackoffExpiry peer msg chunk) s fun t => (t.send peer msg).map (fun y => (y.chunkDue, y.due)) =
    some (x.chunkDue.filter (fun c => c.1 != chunk), x.due) ∧ t.mem = s.mem) ∧
  (∀ (ep status : Nat) (e : Endpoint) (s : State), status = St.ok ∧ Map.find? s.tlt.eps ep = some e ∧ e.recalling = true ∧
    (s.tlt.recallHeld.filter fun p => p.dstEp == ep) = [] ∧ (s.tlt.eps.filter fun p => p.2.onDie).length < 262144 → answers
    (.contextRecallDone ep status) s fun t => (Map.find? t.tlt.eps ep).map (fun y => (y.onDie, y.recalling, y.lost)) = some (true, false,
    e.lost) ∧ t.mem = s.mem) ∧
  (∀ (ep status : Nat) (e : Endpoint) (s : State), Map.find? s.tlt.eps ep = some e ∧ e.recalling = true ∧ status ≠ St.ok → answers
    (.contextRecallDone ep status) s fun t => (Map.find? t.tlt.eps ep).map (fun y => (y.recalling, y.lost)) = some (false, true) ∧
    (t.tlt.recallHeld.any fun p => p.dstEp == ep) = false ∧ t.mem = s.mem)

/-- R575, R576, R577, R578, R579, R580, R581, R582, R583, R584, R585, R587: A doorbell, fetch, forwarding or I/O command whose conditions
  hold moves its queue or its data, and a command that ends posts its completion and retires its handle. -/
def Obligations.NvmeIoCommandsComplete : Prop :=
  (∀ (ctrl qid value : Nat) (x : NvCtrl) (q : NvSq) (s : State), s.nvCtrl ctrl = some x ∧ s.getI Reg.NVS_CTRL_INFO_STATE ctrl = 2 ∧ s.nvSq
    ctrl qid = some q ∧ value < q.size → answers (.nvmeSqDoorbell ctrl qid value) s fun t => (t.nvSq ctrl qid).map (·.tail) = some value ∧
    t.deferred = s.deferred ++ [(s.dueBoundary, .nvmeTail ctrl qid value)] ∧ t.regs = s.regs ∧ t.mem = s.mem) ∧
  (∀ (ctrl qid value : Nat) (x : NvCtrl) (q : NvCq) (s : State), s.nvCtrl ctrl = some x ∧ s.getI Reg.NVS_CTRL_INFO_STATE ctrl ∈ [2, 4] ∧
    s.nvCq ctrl qid = some q ∧ value < q.size ∧ (value + q.size - q.head) % q.size ≤ (q.tail + q.size - q.head) % q.size → answers
    (.nvmeCqDoorbell ctrl qid value) s fun t => (t.nvCq ctrl qid).map (·.head) = some value ∧ t.mem = s.mem) ∧
  (∀ (ctrl cq v : Nat) (x : NvCtrl) (q : NvCq) (s : State), s.nvCtrl ctrl = some x ∧ s.nvCq ctrl cq = some q ∧ q.vector = some v ∧ 0 <
    q.owed ∧ q.since + (x.feat 8 0 0 / 256 % 256 * 100000 + s.period - 1) / s.period ≤ s.stk.boundary → answers (.interruptCoalesceExpiry
    ctrl cq) s fun t => (t.nvCq ctrl cq).map (·.owed) = some 0 ∧ t.out = (nicheMsix x.niche v s).out ∧ t.mem = s.mem) ∧
  (∀ (c q : Nat) (x : NvCtrl) (y : NvSq) (s : State), s.running = true ∧ s.nvs.fetchedAt ≠ s.stk.boundary ∧ 0 < s.admitted 3 ∧ nextCtrl s =
    some (c, x) ∧ (arbitrate s c x).1 = some q ∧ s.nvSq c q = some y → answers .nvmeFetch s fun t => (t.nvSq c q).map (·.reading) = some
    (min (min (2 ^ (x.feat 1 0 0 % 8)) y.waiting) (min (min (((s.nvCq c y.cq).map (·.places)).getD 0) (s.admitted 3)) 8)) ∧ t.nvs.fetchedAt
    = s.stk.boundary ∧ t.mem = s.mem) ∧
  (∀ (ctrl sqid slot k e : Nat) (x : NvCtrl) (q : NvSq) (s : State), s.nvCtrl ctrl = some x ∧ s.nvSq ctrl sqid = some q ∧ s.nvSlot = some
    slot ∧ q.entries.findIdx? (mayForward s ctrl sqid) = some k ∧ q.entries.getD k 0 = e ∧ (if sqid = 0 then adminRefusal s ctrl e else
    ioRefusal s ctrl e) = none ∧ s.targetOf ctrl sqid e = none ∧ (if sqid = 0 then adminReads x e else ioReads x (Config.extendedLba
    ((s.nsOf ctrl (qNsid e)).getD 0)) (s.nsDesc ((s.nsOf ctrl (qNsid e)).getD 0)) e) = false → answers (.nvmeCommandForward ctrl sqid) s fun
    t => (Map.find? t.nvs.cmds slot).map (fun c => (c.ctrl, c.sqid, c.sqe, c.stage)) = some (ctrl, sqid, e, 2) ∧ (t.nvSq ctrl sqid).map
    (·.entries) = some (q.entries.eraseIdx k) ∧ t.mem = s.mem) ∧
  (∀ (ctrl sqid slot k e j : Nat) (x : NvCtrl) (q : NvSq) (s : State), s.nvCtrl ctrl = some x ∧ s.nvSq ctrl sqid = some q ∧ s.nvSlot = some
    slot ∧ q.entries.findIdx? (mayForward s ctrl sqid) = some k ∧ q.entries.getD k 0 = e ∧ s.targetOf ctrl sqid e = some j ∧ s.flagI
    Reg.TIL_CH_INFO_HW_WRITER j = true → answers (.nvmeCommandForward ctrl sqid) s fun t => (Map.find? t.nvs.cmds slot).map (fun c =>
    (c.ctrl, c.sqid, c.sqe, c.stage)) = some (ctrl, sqid, e, 5) ∧ (t.chan j).length = (s.chan j).length + 1 ∧ t.mem = s.mem) ∧
  (∀ (ctrl sqid slot k e sf : Nat) (x : NvCtrl) (q : NvSq) (s : State), s.nvCtrl ctrl = some x ∧ s.nvSq ctrl sqid = some q ∧ s.nvSlot = some
    slot ∧ q.entries.findIdx? (mayForward s ctrl sqid) = some k ∧ q.entries.getD k 0 = e ∧ (if sqid = 0 then adminRefusal s ctrl e else
    ioRefusal s ctrl e) = some sf → answers (.nvmeCommandForward ctrl sqid) s fun t => Map.find? t.nvs.cmds slot = none ∧ cqeGoes s t ⟨0,
    ctrl, sqid, e, 0, [], 0, none, [], false, 0⟩ 0 sf = true ∧ t.mem = s.mem) ∧
  (∀ (h slot a k : Nat) (bad ext : Bool) (c : NvCmd) (x : NvCtrl) (data side : List Byte) (l : List (Nat × Nat)) (s : State),
    Config.extendedLba c.ns = ext ∧ ioReady s h 2 slot c ∧ bad = false ∧ s.nvCtrl c.ctrl = some x ∧ (nsPlace s (s.nsDesc c.ns) (qSlba c.sqe
    * nStep (s.nsDesc c.ns)) (qNlb c.sqe * nStep (s.nsDesc c.ns)) rightRead).toOption = some (some a) ∧ (blocksOut ext (s.nsDesc c.ns) c.sqe
    0 (qNlb c.sqe) (memReadList s a (qNlb c.sqe * nStep (s.nsDesc c.ns)))).toOption = some (data, side) ∧ (hostSpans x.page c.sqe
    data.length c.data).toOption = some (l, k) → answers (.nvmeRead h bad) s fun t => (∀ o ∈ (hostPut x.niche (qMptr c.sqe) side (putSpans
    x.niche l data s)).out, o ∈ t.out) ∧ Map.find? t.nvs.cmds slot = none ∧ cqeGoes s t c 0 0 = true ∧ t.mem = s.mem) ∧
  (∀ (h slot a k : Nat) (ext : Bool) (c : NvCmd) (x : NvCtrl) (l : List (Nat × Nat)) (blocks : List Byte) (s : State), Config.extendedLba
    c.ns = ext ∧ ioReady s h 1 slot c ∧ s.nvCtrl c.ctrl = some x ∧ (hostSpans x.page c.sqe (hostData ext (s.nsDesc c.ns) c.sqe (qNlb c.sqe))
    c.data).toOption = some (l, k) ∧ (blocksIn ext (s.nsDesc c.ns) c.sqe 0 (qNlb c.sqe) ((c.data.drop k).take (hostData ext (s.nsDesc c.ns)
    c.sqe (qNlb c.sqe))) (c.data.drop (k + hostData ext (s.nsDesc c.ns) c.sqe (qNlb c.sqe)))).toOption = some blocks ∧ (nsPlace s (s.nsDesc
    c.ns) (qSlba c.sqe * nStep (s.nsDesc c.ns)) blocks.length rightWrite).toOption = some (some a) → answers (.nvmeWrite h) s fun t => t.mem
    = (memWriteList s a blocks).mem ∧ Map.find? t.nvs.cmds slot = none ∧ cqeGoes s t c 0 0 = true) ∧
  (∀ (h slot a k : Nat) (bad ext : Bool) (c : NvCmd) (x : NvCtrl) (data side : List Byte) (l : List (Nat × Nat)) (s : State),
    Config.extendedLba c.ns = ext ∧ ioReady s h 5 slot c ∧ bad = false ∧ s.nvCtrl c.ctrl = some x ∧ (nsPlace s (s.nsDesc c.ns) (qSlba c.sqe
    * nStep (s.nsDesc c.ns)) (qNlb c.sqe * nStep (s.nsDesc c.ns)) rightRead).toOption = some (some a) ∧ (blocksOut ext (s.nsDesc c.ns) c.sqe
    0 (qNlb c.sqe) (memReadList s a (qNlb c.sqe * nStep (s.nsDesc c.ns)))).toOption = some (data, side) ∧ (hostSpans x.page c.sqe
    data.length c.data).toOption = some (l, k) → answers (.compare h bad) s fun t => Map.find? t.nvs.cmds slot = none ∧ cqeGoes s t c 0 (if
    fit (data.length + side.length) (c.data.drop k) = data ++ side then 0 else Nv.compare) = true ∧ t.mem = s.mem) ∧
  (∀ (h slot a : Nat) (bad ext : Bool) (c : NvCmd) (x : NvCtrl) (data : List Byte × List Byte) (s : State), Config.extendedLba c.ns = ext ∧
    ioReady s h 0x0C slot c ∧ bad = false ∧ s.nvCtrl c.ctrl = some x ∧ (nsPlace s (s.nsDesc c.ns) (qSlba c.sqe * nStep (s.nsDesc c.ns))
    (qNlb c.sqe * nStep (s.nsDesc c.ns)) rightRead).toOption = some (some a) ∧ (blocksOut ext (s.nsDesc c.ns) c.sqe 0 (qNlb c.sqe)
    (memReadList s a (qNlb c.sqe * nStep (s.nsDesc c.ns)))).toOption = some data → answers (.verify h bad) s fun t => Map.find? t.nvs.cmds
    slot = none ∧ cqeGoes s t c 0 0 = true ∧ t.mem = s.mem) ∧
  (∀ (h slot a : Nat) (c : NvCmd) (s : State), ioReady s h 8 slot c ∧ (nsPlace s (s.nsDesc c.ns) (qSlba c.sqe * nStep (s.nsDesc c.ns))
    (zeroBlocks (s.nsDesc c.ns) (qNlb c.sqe)).length rightWrite).toOption = some (some a) → answers (.writeZeroes h) s fun t => t.mem =
    (memWriteList s a (zeroBlocks (s.nsDesc c.ns) (qNlb c.sqe))).mem ∧ Map.find? t.nvs.cmds slot = none ∧ cqeGoes s t c 0 0 = true) ∧
  (∀ (h slot k : Nat) (c : NvCmd) (x : NvCtrl) (l : List (Nat × Nat)) (s : State), ioReady s h 9 slot c ∧ s.nvCtrl c.ctrl = some x ∧
    (hostSpans x.page c.sqe (16 * (qDw c.sqe 10 % 256 + 1)) c.data).toOption = some (l, k) ∧ ((dsmRanges (qDw c.sqe 10 % 256 + 1)
    (c.data.drop k)).any fun r => decide (nSize (s.nsDesc c.ns) < r.1 + r.2)) = false ∧ bit (qDw c.sqe 11) 2 = 0 → answers
    (.datasetManagement h) s fun t => Map.find? t.nvs.cmds slot = none ∧ cqeGoes s t c 0 0 = true ∧ t.mem = s.mem) ∧
  (∀ (h slot k a : Nat) (c : NvCmd) (x : NvCtrl) (l : List (Nat × Nat)) (r : Nat × Nat) (s : State), ioReady s h 9 slot c ∧ s.nvCtrl c.ctrl
    = some x ∧ (hostSpans x.page c.sqe (16 * (qDw c.sqe 10 % 256 + 1)) c.data).toOption = some (l, k) ∧ dsmRanges (qDw c.sqe 10 % 256 + 1)
    (c.data.drop k) = [r] ∧ r.1 + r.2 ≤ nSize (s.nsDesc c.ns) ∧ bit (qDw c.sqe 11) 2 = 1 ∧ (nsPlace s (s.nsDesc c.ns) (r.1 * nStep (s.nsDesc
    c.ns)) (zeroBlocks (s.nsDesc c.ns) r.2).length rightWrite).toOption = some (some a) → answers (.datasetManagement h) s fun t => t.mem =
    (memWriteList s a (zeroBlocks (s.nsDesc c.ns) r.2)).mem ∧ Map.find? t.nvs.cmds slot = none ∧ cqeGoes s t c 0 0 = true) ∧
  (∀ (h slot : Nat) (c : NvCmd) (s : State), ioReady s h 0 slot c → answers (.nvmeFlush h) s fun t => Map.find? t.nvs.cmds slot = none ∧
    cqeGoes s t c 0 0 = true ∧ t.mem = s.mem) ∧
  (∀ (w : Work) (f : Flight) (slot : Nat) (c : NvCmd) (x : NvCtrl) (s : State), takes s w 0xA0 f ∧ s.nvOf f = some (slot, c) ∧ nvsRefusal s
    f c = none ∧ s.nvCtrl c.ctrl = some x ∧ vDir f.entry = 0 → answers (.nvsData w) s fun t => t.readPending f.seq = true ∧ t.mem = s.mem) ∧
  (∀ (w : Work) (f : Flight) (slot : Nat) (c : NvCmd) (s : State), takes s w 0xA1 f ∧ s.nvOf f = some (slot, c) ∧ c.err = none ∧ c.test =
    false ∧ c.sqid ≠ 0 → answers (.nvsComplete w) s fun t => Map.find? t.nvs.cmds slot = none ∧ finishedWith t f.seq St.ok ∧ cqeGoes s t c
    (byteField f.entry 12 15) (byteField f.entry 8 9 % 2 ^ 11 + bit (byteField f.entry 8 9) 14 * 2 ^ 14) = true ∧ t.mem = s.mem)

/-- R571, R572, R574, R577, R587, R588, R589, R590, R591: An admin command whose conditions hold changes its controller's queues, features,
  firmware or self-test, or returns its data, and its completion is posted and its handle retired unless the controller holds it. -/
def Obligations.NvmeAdminCommandsComplete : Prop :=
  (∀ (h slot : Nat) (c : NvCmd) (x : NvCtrl) (q : Nat) (s : State), adminReady s h 1 slot c x ∧ qDw c.sqe 10 % 65536 = q ∧ q ≠ 0 ∧ q ≤
    x.maxIo ∧ Map.find? x.sqs q = none ∧ s.quotaLeft x.niche 11 ≠ 0 ∧ 2 ≤ qDw c.sqe 10 / 65536 + 1 ∧ qDw c.sqe 11 / 65536 ≠ 0 ∧ (Map.find?
    x.cqs (qDw c.sqe 11 / 65536)).isSome = true ∧ bit (qDw c.sqe 11) 0 = 1 → answers (.createIoSq h) s fun t => (t.nvSq c.ctrl q).map (fun y
    => (y.base, y.size, y.cq, y.prio, y.head)) = some (qPrp1 c.sqe, qDw c.sqe 10 / 65536 + 1, qDw c.sqe 11 / 65536, bits (qDw c.sqe 11) 2 1,
    0) ∧ Map.find? t.nvs.cmds slot = none ∧ cqeGoes s t c 0 0 = true ∧ t.mem = s.mem) ∧
  (∀ (h slot : Nat) (c : NvCmd) (x : NvCtrl) (q : Nat) (s : State), adminReady s h 0 slot c x ∧ qDw c.sqe 10 % 65536 = q ∧ q ≠ 0 ∧
    (Map.find? x.sqs q).isSome = true → answers (.deleteIoSq h) s fun t => t.nvSq c.ctrl q = none ∧ (t.nvs.cmds.all fun p => p.2.ctrl !=
    c.ctrl || p.2.sqid != q || p.2.test) = true ∧ Map.find? t.nvs.cmds slot = none ∧ t.mem = s.mem) ∧
  (∀ (h slot : Nat) (c : NvCmd) (x : NvCtrl) (q : Nat) (s : State), adminReady s h 5 slot c x ∧ qDw c.sqe 10 % 65536 = q ∧ q ≠ 0 ∧ q ≤
    x.maxIo ∧ Map.find? x.cqs q = none ∧ 2 ≤ qDw c.sqe 10 / 65536 + 1 ∧ bit (qDw c.sqe 11) 0 = 1 ∧ qDw c.sqe 11 / 65536 < nvVectors s x →
    answers (.createIoCq h) s fun t => (t.nvCq c.ctrl q).map (fun y => (y.base, y.size, y.vector)) = some (qPrp1 c.sqe, qDw c.sqe 10 / 65536
    + 1, if bit (qDw c.sqe 11) 1 = 1 then some (qDw c.sqe 11 / 65536) else none) ∧ Map.find? t.nvs.cmds slot = none ∧ cqeGoes s t c 0 0 =
    true ∧ t.mem = s.mem) ∧
  (∀ (h slot : Nat) (c : NvCmd) (x : NvCtrl) (q : Nat) (s : State), adminReady s h 4 slot c x ∧ qDw c.sqe 10 % 65536 = q ∧ q ≠ 0 ∧
    (Map.find? x.cqs q).isSome = true ∧ (x.sqs.any fun p => p.1 != 0 && p.2.cq == q) = false ∧ (s.nvSq c.ctrl 0).all (fun y => y.cq != q) =
    true → answers (.deleteIoCq h) s fun t => t.nvCq c.ctrl q = none ∧ Map.find? t.nvs.cmds slot = none ∧ cqeGoes s t c 0 0 = true ∧ t.mem =
    s.mem) ∧
  (∀ (h slot v k : Nat) (c : NvCmd) (x : NvCtrl) (l : List (Nat × Nat)) (s : State), adminReady s h 6 slot c x ∧ (identifyData s c.ctrl x
    c.sqe).toOption = some v ∧ (hostSpans x.page c.sqe 4096 c.data).toOption = some (l, k) → answers (.identify h) s fun t => (∀ o ∈
    (putSpans x.niche l (toBytes 4096 v) s).out, o ∈ t.out) ∧ Map.find? t.nvs.cmds slot = none ∧ cqeGoes s t c 0 0 = true ∧ t.mem = s.mem) ∧
  (∀ (h slot v len k : Nat) (c : NvCmd) (x : NvCtrl) (l : List (Nat × Nat)) (s : State), adminReady s h 2 slot c x ∧ logPage s x (qDw c.sqe
    10 % 256) = some (v, len) ∧ qDw c.sqe 12 + qDw c.sqe 13 * 2 ^ 32 ≤ len ∧ (qDw c.sqe 12 + qDw c.sqe 13 * 2 ^ 32) % 4 = 0 ∧ (hostSpans
    x.page c.sqe (adminOut c.sqe) c.data).toOption = some (l, k) → answers (.getLogPage h) s fun t => (∀ o ∈ (putSpans x.niche l (fit
    (adminOut c.sqe) ((toBytes len v).drop (qDw c.sqe 12 + qDw c.sqe 13 * 2 ^ 32))) s).out, o ∈ t.out) ∧ Map.find? t.nvs.cmds slot = none ∧
    cqeGoes s t c 0 0 = true ∧ t.mem = s.mem) ∧
  (∀ (h slot fid v : Nat) (c : NvCmd) (x : NvCtrl) (s : State), adminReady s h 9 slot c x ∧ setRefusal s x c.sqe = none ∧ qDw c.sqe 10 % 256
    = fid ∧ qDw c.sqe 11 = v → answers (.setFeatures h) s fun t => (t.nvCtrl c.ctrl).map (fun y => Map.find? y.feats (featKey fid (featSub
    fid v))) = some (some (if fid = 4 then v % 65536 else if fid = 7 then queuesGiven x v else v)) ∧ Map.find? t.nvs.cmds slot = none ∧
    cqeGoes s t c (if fid = 7 then queuesGiven x v else 0) 0 = true ∧ t.mem = s.mem) ∧
  (∀ (h slot fid sub : Nat) (c : NvCmd) (x : NvCtrl) (s : State), adminReady s h 0x0A slot c x ∧ qDw c.sqe 10 % 256 = fid ∧ featureKnown fid
    = true ∧ featSub fid (qDw c.sqe 11) = sub ∧ bits (qDw c.sqe 10) 10 8 = 0 ∧ (fid = 4 → sub ≤ 1) ∧ (fid = 9 → sub < nvVectors s x) →
    answers (.getFeatures h) s fun t => Map.find? t.nvs.cmds slot = none ∧ cqeGoes s t c (x.feat fid sub (if fid = 7 then queuesGiven x
    0xFFFEFFFE else featDefault fid sub)) 0 = true ∧ t.mem = s.mem) ∧
  (∀ (h slot : Nat) (c : NvCmd) (x : NvCtrl) (s : State), adminReady s h 0x0C slot c x ∧ x.notices = [] → answers (.asyncEventRequest h) s
    fun t => (t.nvCtrl c.ctrl).map (·.aers) = some (x.aers ++ [slot]) ∧ (Map.find? t.nvs.cmds slot).map (·.stage) = some 6 ∧ t.out = s.out ∧
    t.mem = s.mem) ∧
  (∀ (h slot type info lid : Nat) (rest : List (Nat × Nat × Nat)) (c : NvCmd) (x : NvCtrl) (s : State), adminReady s h 0x0C slot c x ∧
    x.aers = [] ∧ x.notices = (type, info, lid) :: rest → answers (.asyncEventRequest h) s fun t => (t.nvCtrl c.ctrl).map (·.notices) = some
    rest ∧ Map.find? t.nvs.cmds slot = none ∧ cqeGoes s t c (type + info * 256 + lid * 65536) 0 = true ∧ t.mem = s.mem) ∧
  (∀ (h slot j : Nat) (c d : NvCmd) (x : NvCtrl) (s : State), adminReady s h 8 slot c x ∧ abortTarget s c.ctrl (qDw c.sqe 10 % 65536) (qDw
    c.sqe 10 / 65536) slot = some (j, d) ∧ pastCommit d = false → answers (.nvmeAbort h) s fun t => Map.find? t.nvs.cmds j = none ∧
    Map.find? t.nvs.cmds slot = none ∧ t.mem = s.mem) ∧
  (∀ (h slot : Nat) (c : NvCmd) (x : NvCtrl) (s : State), adminReady s h 8 slot c x ∧ abortTarget s c.ctrl (qDw c.sqe 10 % 65536) (qDw c.sqe
    10 / 65536) slot = none ∧ (s.nvSq c.ctrl (qDw c.sqe 10 % 65536)).all (fun y => y.entries == []) = true → answers (.nvmeAbort h) s fun t
    => Map.find? t.nvs.cmds slot = none ∧ cqeGoes s t c 1 0 = true ∧ t.mem = s.mem) ∧
  (∀ (h slot k : Nat) (c : NvCmd) (x : NvCtrl) (l : List (Nat × Nat)) (s : State), adminReady s h 0x11 slot c x ∧ qDw c.sqe 11 * 4 + fwBytes
    c.sqe ≤ s.getI Reg.NVS_CTRL_FW_SIZE_MIB c.ctrl * 2 ^ 20 ∧ (hostSpans x.page c.sqe (fwBytes c.sqe) c.data).toOption = some (l, k) →
    answers (.firmwareImageDownload h) s fun t => t.mem = (memWriteList s ((s.stackedQuota 0).1 + s.getI Reg.NVS_CTRL_FW_BASE_MIB c.ctrl * 2
    ^ 20 + qDw c.sqe 11 * 4) (fit (fwBytes c.sqe) (c.data.drop k))).mem ∧ Map.find? t.nvs.cmds slot = none ∧ cqeGoes s t c 0 0 = true) ∧
  (∀ (h slot : Nat) (c : NvCmd) (x : NvCtrl) (s : State), adminReady s h 0x10 slot c x ∧ s.getI Reg.NVS_CTRL_FW_SIZE_MIB c.ctrl ≠ 0 ∧ qDw
    c.sqe 10 % 8 ≤ 2 ∧ bits (qDw c.sqe 10) 5 3 ≤ 2 ∧ (bits (qDw c.sqe 10) 5 3 = 2 → qDw c.sqe 10 % 8 ≠ 0) ∧ x.commit = none → answers
    (.firmwareCommit h) s fun t => (t.nvCtrl c.ctrl).map (·.commit) = some (some slot) ∧ (Map.find? t.nvs.cmds slot).map (·.stage) = some 6
    ∧ t.get Reg.NVS_STATUS_FW_PENDING = 1 ∧ t.mem = s.mem) ∧
  (∀ (h slot code : Nat) (c : NvCmd) (x : NvCtrl) (s : State), adminReady s h 0x14 slot c x ∧ qDw c.sqe 10 % 16 = code ∧ code ∈ [1, 2] ∧
    x.test = none ∧ qNsid c.sqe = 0xFFFFFFFF → answers (.deviceSelfTest h) s fun t => (t.nvCtrl c.ctrl).bind (·.test) = some
    { code := code, nsid := qNsid c.sqe, seg := 1, step := 0, nss := (s.attached c.ctrl).map (·.2), failed := none, stroke := s.stk.boundary, ops := 0 }
    ∧ t.getI Reg.NVS_CTRL_INFO_SELFTEST c.ctrl = 1 ∧ Map.find? t.nvs.cmds slot = none ∧ cqeGoes s t c 0 0 = true ∧ t.mem = s.mem) ∧
  (∀ (h slot : Nat) (c : NvCmd) (x : NvCtrl) (y : NvTest) (s : State), adminReady s h 0x14 slot c x ∧ qDw c.sqe 10 % 16 = 0xF ∧ x.test =
    some y → answers (.deviceSelfTest h) s fun t => (t.nvCtrl c.ctrl).map (·.test) = some none ∧ t.getI Reg.NVS_CTRL_INFO_SELFTEST c.ctrl =
    0 ∧ Map.find? t.nvs.cmds slot = none ∧ t.mem = s.mem) ∧
  (∀ (ctrl : Nat) (bad : Bool) (x : NvCtrl) (y : NvTest) (s : State), s.nvCtrl ctrl = some x ∧ x.test = some y ∧ y.seg = 1 ∧ y.step = 0 ∧
    y.failed = none ∧ y.nss ≠ [] ∧ s.running = true ∧ (if y.stroke = s.stk.boundary then y.ops else 0) < 4 ∧ (x.sqs.any fun p => s.fetchable
    ctrl p.1) = false ∧ (s.nvs.cmds.any fun p => p.2.ctrl == ctrl && p.2.test) = false → answers (.selfTestWork ctrl bad) s fun t =>
    ((t.nvCtrl ctrl).bind (·.test)).map (fun z => (z.seg, z.step, z.failed, z.stroke, z.ops)) = some (2, 0, if bad then some (1, y.nsid, 0)
    else none, s.stk.boundary, (if y.stroke = s.stk.boundary then y.ops else 0) + 1) ∧ t.mem = s.mem)

/-- R569, R570, R571, R572, R573, R588, R590, R594: A controller command whose conditions hold moves its controller's state; the manager's
  commands create, attach and destroy what they name, or wait for the boundary. -/
def Obligations.StorageControllerCommandsComplete : Prop :=
  (∀ (ctrl cc aqa asq acq : Nat) (x : NvCtrl) (s : State), s.nvCtrl ctrl = some x ∧ s.getI Reg.NVS_CTRL_INFO_STATE ctrl = 1 ∧ bits cc 19 16
    = 6 ∧ bits cc 23 20 = 4 ∧ bits cc 10 7 ≤ 4 ∧ bits cc 6 4 = 0 ∧ bits cc 13 11 ≤ 1 ∧ 1 ≤ bits aqa 11 0 ∧ 1 ≤ bits aqa 27 16 → answers
    (.ccEnable ctrl cc aqa asq acq) s fun t => t.getI Reg.NVS_CTRL_INFO_STATE ctrl = 2 ∧ (t.nvCtrl ctrl).map (fun y => (y.cc, y.csts)) =
    some (cc, 1) ∧ (t.nvSq ctrl 0).map (fun q => (q.base, q.size)) = some (asq, bits aqa 11 0 + 1) ∧ (t.nvCq ctrl 0).map (fun q => (q.base,
    q.size)) = some (acq, bits aqa 27 16 + 1) ∧ t.mem = s.mem) ∧
  (∀ (ctrl cc aqa asq acq : Nat) (x : NvCtrl) (s : State), s.nvCtrl ctrl = some x ∧ s.getI Reg.NVS_CTRL_INFO_STATE ctrl = 1 ∧ (bits cc 19 16
    ≠ 6 ∨ bits cc 23 20 ≠ 4) → answers (.ccEnable ctrl cc aqa asq acq) s fun t => t.getI Reg.NVS_CTRL_INFO_STATE ctrl = 5 ∧ (t.nvCtrl
    ctrl).map (fun y => (y.cc, y.csts)) = some (cc, 2) ∧ t.mem = s.mem) ∧
  (∀ (ctrl : Nat) (x : NvCtrl) (s : State), s.nvCtrl ctrl = some x ∧ s.getI Reg.NVS_CTRL_INFO_STATE ctrl ∈ [2, 4, 5] → answers (.ccDisable
    ctrl) s fun t => t.getI Reg.NVS_CTRL_INFO_STATE ctrl = 3 ∧ t.deferred = s.deferred ++ [(s.dueBoundary, .nvmeReset ctrl)] ∧ (t.nvCtrl
    ctrl).map (·.cc) = some (x.cc / 2 * 2) ∧ t.mem = s.mem) ∧
  (∀ (ctrl shn : Nat) (x : NvCtrl) (s : State), s.nvCtrl ctrl = some x ∧ s.getI Reg.NVS_CTRL_INFO_STATE ctrl = 2 ∧ shn ≠ 0 → answers
    (.ccShutdown ctrl shn) s fun t => t.getI Reg.NVS_CTRL_INFO_STATE ctrl = 4 ∧ (t.nvCtrl ctrl).map (fun y => bits y.csts 3 2) = some 1 ∧
    t.mem = s.mem) ∧
  (∀ (ctrl : Nat) (x : NvCtrl) (s : State), s.nvCtrl ctrl = some x ∧ s.getI Reg.NVS_CTRL_INFO_STATE ctrl = 4 ∧ bits x.csts 3 2 = 1 ∧
    (s.nvs.cmds.all fun p => p.2.ctrl != ctrl || x.aers.contains p.1) = true ∧ (x.sqs.all fun p => p.2.reading == 0 && p.2.entries == []) =
    true → answers (.shutdownComplete ctrl) s fun t => (t.nvCtrl ctrl).map (fun y => bits y.csts 3 2) = some 2 ∧ t.getI
    Reg.NVS_CTRL_INFO_STATE ctrl = 4 ∧ t.mem = s.mem) ∧
  (∀ (who : Issuer) (desc n c : Nat) (s : State), managerCmd s Blk.nvs 0xE00000 who ∧ byteField desc 0 1 % 4096 = n ∧ 1 ≤ byteField desc 2 3
    ∧ byteField desc 2 3 ≤ 1024 ∧ byteField desc 4 7 = 0 ∧ byteField desc 36 63 = 0 ∧ s.nicheRefusal n = none ∧ s.flagI Reg.NCH_INFO_BOUND n
    = true ∧ (Map.find? s.hif.fns (s.nicheFn n)).map (·.kind) = some 2 ∧ (s.nvs.ctrls.any fun p => p.2.fn == s.nicheFn n) = false ∧
    s.quotaLeft n 10 ≠ 0 ∧ lowestFree 512 0 (s.nvs.ctrls.map (·.1)) = some c → answers (.ctrlCreate who desc) s fun t => (t.nvCtrl c).map
    (fun x => (x.niche, x.fn, x.maxIo)) = some (n, s.nicheFn n, byteField desc 2 3) ∧ t.getI Reg.NVS_CTRL_INFO_STATE c = 1 ∧ t.get
    Reg.NVS_CMD_STATUS_STATUS = St.ok ∧ t.get Reg.NVS_CMD_STATUS_OBJECT = c % 2 ^ 14 ∧ t.mem = s.mem) ∧
  (∀ (who : Issuer) (c : Nat) (x : NvCtrl) (s : State), managerCmd s Blk.nvs 0xE00000 who ∧ s.get Reg.NVS_CMD_ARG_CTRL = c ∧ s.nvCtrl c =
    some x ∧ s.getI Reg.NVS_CTRL_INFO_STATE c = 1 → answers (.ctrlDestroy who) s fun t => t.nvCtrl c = none ∧ t.getI Reg.NVS_CTRL_INFO_STATE
    c = 0 ∧ t.get Reg.NVS_CMD_STATUS_STATUS = St.ok ∧ t.mem = s.mem) ∧
  (∀ (who : Issuer) (desc n ns : Nat) (s : State), managerCmd s Blk.nvs 0xE00000 who ∧ nNiche desc = n ∧ nsValid desc = true ∧
    s.nicheRefusal n = none ∧ (if byteField desc 0 1 = 0xFFFF then lowestFree 16384 0 (s.nvs.nss.map (·.1)) else some (byteField desc 0 1))
    = some ns ∧ Map.find? s.nvs.nss ns = none ∧ (nBackend desc = 0 → nBase desc + nSize desc * nStep desc ≤ (s.stackedQuota n).2) ∧ (2 ≤
    nBackend desc → ((List.range (nTargets desc)).all fun k => targetOk s (nTarget desc k)) = true) → answers (.nsCreate who desc) s fun t
    => Map.find? t.nvs.nss ns = some ⟨desc, false⟩ ∧ t.getI Reg.NVS_NS_INFO_DEFINED ns = 1 ∧ t.getI Reg.NVS_NS_INFO_ATTACHED ns = 0 ∧ t.get
    Reg.NVS_CMD_STATUS_STATUS = St.ok ∧ t.mem = (if nBackend desc = 0 then memZero s ((s.stackedQuota n).1 + nBase desc) (nSize desc * nStep
    desc) else s).mem) ∧
  (∀ (who : Issuer) (ns : Nat) (x : NvNs) (s : State), managerCmd s Blk.nvs 0xE00000 who ∧ s.get Reg.NVS_CMD_ARG_NS = ns ∧ Map.find?
    s.nvs.nss ns = some x ∧ s.flagI Reg.NVS_NS_INFO_ATTACHED ns = false → answers (.nsDestroy who) s fun t => Map.find? t.nvs.nss ns = none
    ∧ t.getI Reg.NVS_NS_INFO_DEFINED ns = 0 ∧ t.get Reg.NVS_CMD_STATUS_STATUS = St.ok ∧ t.mem = s.mem) ∧
  (∀ (who : Issuer) (ns c nsid : Nat) (x : NvNs) (y : NvCtrl) (s : State), managerCmd s Blk.nvs 0xE00000 who ∧ s.get Reg.NVS_CMD_ARG_NS = ns
    ∧ s.get Reg.NVS_CMD_ARG_CTRL = c ∧ s.get Reg.NVS_CMD_ARG_NSID = nsid ∧ Map.find? s.nvs.nss ns = some x ∧ s.nvCtrl c = some y ∧ 1 ≤ nsid
    ∧ nsid ≤ 64 ∧ nNiche (s.nsDesc ns) = s.nvNiche c ∧ s.flagI Reg.NVS_NS_INFO_ATTACHED ns = false ∧ s.nsOf c nsid = none → answers
    (.nsAttach who) s fun t => t.deferred = s.deferred ++ [(s.dueBoundary, .nsAttach ns c nsid)] ∧ t.get Reg.NVS_CMD_STATUS_STATUS = St.ok ∧
    t.mem = s.mem) ∧
  (∀ (who : Issuer) (ns : Nat) (x : NvNs) (s : State), managerCmd s Blk.nvs 0xE00000 who ∧ s.get Reg.NVS_CMD_ARG_NS = ns ∧ Map.find?
    s.nvs.nss ns = some x ∧ s.flagI Reg.NVS_NS_INFO_ATTACHED ns = true → answers (.nsDetach who) s fun t => t.deferred = s.deferred ++
    [(s.dueBoundary, .nsDetach ns)] ∧ t.get Reg.NVS_CMD_BUSY = 1 ∧ t.mem = s.mem) ∧
  (∀ (who : Issuer) (block c slot : Nat) (x : NvCtrl) (d : NvCmd) (s : State), managerCmd s Blk.nvs 0xE00000 who ∧ s.get
    Reg.NVS_CMD_ARG_CTRL = c ∧ s.nvCtrl c = some x ∧ x.commit = some slot ∧ Map.find? s.nvs.cmds slot = some d → answers (.fwDone who block)
    s fun t => (t.nvCtrl c).map (·.commit) = some none ∧ Map.find? t.nvs.cmds slot = none ∧ (byteField block 0 1 % 2 ^ 15 = 0 → (t.nvCtrl
    c).map (fun y => Map.find? y.fr (if qDw d.sqe 10 % 8 = 0 then 1 else qDw d.sqe 10 % 8)) = some (some (byteField block 8 15))) ∧ t.get
    Reg.NVS_CMD_STATUS_STATUS = St.ok ∧ t.mem = s.mem)

/-- R303, R606, R607, R608, R617, R618, R619, R620, R623: An accelerator entry whose checks hold is dealt to a slice of its kind, its HOST
  source read; its work done, it leaves the slice and ends, a CRC with ST_OK and the checksum. -/
def Obligations.AcceleratorCommandsComplete : Prop :=
  (∀ (w : Work) (f : Flight) (s : State), takes s w 0x60 f ∧ accRefusal s f = none → answers (.cipher w) s fun t => (t.acc.work.any fun a =>
    a.1 == f.seq && sliceBase a.2.1 == 0 && a.2.2 == s.stk.boundary) = true ∧ (aSrcSpace f.entry = 0 → t.readPending f.seq = true) ∧ t.mem =
    s.mem) ∧
  (∀ (w : Work) (f : Flight) (s : State), takes s w 0x61 f ∧ accRefusal s f = none → answers (.digest w) s fun t => (t.acc.work.any fun a =>
    a.1 == f.seq && sliceBase a.2.1 == 0 && a.2.2 == s.stk.boundary) = true ∧ (aSrcSpace f.entry = 0 → t.readPending f.seq = true) ∧ t.mem =
    s.mem) ∧
  (∀ (w : Work) (f : Flight) (s : State), takes s w 0x62 f ∧ accRefusal s f = none → answers (.pkey w) s fun t => (t.acc.work.any fun a =>
    a.1 == f.seq && sliceBase a.2.1 == 8 && a.2.2 == s.stk.boundary) = true ∧ (aSrcSpace f.entry = 0 → t.readPending f.seq = true) ∧ t.mem =
    s.mem) ∧
  (∀ (w : Work) (f : Flight) (s : State), takes s w 0x63 f ∧ accRefusal s f = none → answers (.compress w) s fun t => (t.acc.work.any fun a
    => a.1 == f.seq && sliceBase a.2.1 == 10 && a.2.2 == s.stk.boundary) = true ∧ (aSrcSpace f.entry = 0 → t.readPending f.seq = true) ∧
    t.mem = s.mem) ∧
  (∀ (w : Work) (f : Flight) (s : State), takes s w 0x64 f ∧ accRefusal s f = none → answers (.decompress w) s fun t => (t.acc.work.any fun
    a => a.1 == f.seq && sliceBase a.2.1 == 10 && a.2.2 == s.stk.boundary) = true ∧ (aSrcSpace f.entry = 0 → t.readPending f.seq = true) ∧
    t.mem = s.mem) ∧
  (∀ (w : Work) (f : Flight) (s : State), takes s w 0x65 f ∧ accRefusal s f = none → answers (.crc w) s fun t => (t.acc.work.any fun a =>
    a.1 == f.seq && sliceBase a.2.1 == 14 && a.2.2 == s.stk.boundary) = true ∧ (aSrcSpace f.entry = 0 → t.readPending f.seq = true) ∧ t.mem
    = s.mem) ∧
  (∀ (w : Work) (f : Flight) (s : State), takes s w 0x66 f ∧ accRefusal s f = none → answers (.ecEncode w) s fun t => (t.acc.work.any fun a
    => a.1 == f.seq && sliceBase a.2.1 == 14 && a.2.2 == s.stk.boundary) = true ∧ (aSrcSpace f.entry = 0 → t.readPending f.seq = true) ∧
    t.mem = s.mem) ∧
  (∀ (w : Work) (f : Flight) (s : State), takes s w 0x67 f ∧ accRefusal s f = none → answers (.ecDecode w) s fun t => (t.acc.work.any fun a
    => a.1 == f.seq && sliceBase a.2.1 == 14 && a.2.2 == s.stk.boundary) = true ∧ (aSrcSpace f.entry = 0 → t.readPending f.seq = true) ∧
    t.mem = s.mem) ∧
  (∀ (w : Work) (f : Flight) (s : State), takes s w 0x68 f ∧ accRefusal s f = none → answers (.scrub w) s fun t => (t.acc.work.any fun a =>
    a.1 == f.seq && sliceBase a.2.1 == 14 && a.2.2 == s.stk.boundary) = true ∧ (aSrcSpace f.entry = 0 → t.readPending f.seq = true) ∧ t.mem
    = s.mem) ∧
  (∀ (w : Work) (slice load q k since : Nat) (bad : List Nat) (f : Flight) (s : State), accHit w s = some ((q, k, since), f) ∧ sliceMay s
    slice k since f.entry ∧ f.done = none → answers (.acceleratorWorkDone w slice load bad) s fun t => (t.acc.work.any fun a => a.1 ==
    f.seq) = false ∧ (∀ g ∈ t.rng.flights, g.seq = f.seq → g.done.isSome = true) ∧ t.getI Reg.ACC_SLICE_LOAD_PCT slice = max load (s.getI
    Reg.ACC_SLICE_LOAD_PCT slice) % 256) ∧
  (∀ (w : Work) (slice load q k since : Nat) (bad : List Nat) (f : Flight) (s : State), accHit w s = some ((q, k, since), f) ∧ sliceMay s
    slice k since f.entry ∧ wOpcode f.entry = 0x65 ∧ f.done = none ∧ bad = [] → answers (.acceleratorWorkDone w slice load bad) s fun t =>
    (∀ g ∈ t.rng.flights, g.seq = f.seq → g.done.map (fun d => (d.status, d.result)) = some (St.ok, accCrc (aMode f.entry) (fit (aLen
    f.entry) (spaceRead s f (aSrcSpace f.entry) (aSrc f.entry) (aLen f.entry))))) ∧ (t.acc.work.any fun a => a.1 == f.seq) = false ∧ t.mem =
    s.mem)

/-- R609, R610, R611, R613, R707, R709: A key entry whose checks hold stores its key under a fresh handle, or ends its key at the boundary
  and, at the fence, frees it. -/
def Obligations.KeyCommandsComplete : Prop :=
  (∀ (w : Work) (host : List Byte) (f : Flight) (s : State), takes s w 0x69 f ∧ s.flag Reg.JNL_STATUS_REGION_READY = true ∧ keyRefusal s f
    true = none ∧ byteField f.entry 4 7 = 0 → answers (.keyLoad w host) s fun t => (Map.find? t.acc.keys t.acc.last).map (fun k => (k.niche,
    k.kind, k.mode, k.len, k.material, k.dead)) = some (f.niche, byteField f.entry 9 9, byteField f.entry 10 10, byteField f.entry 12 15,
    ofBytes (fit (byteField f.entry 12 15) (spaceRead s { f with data := host } (byteField f.entry 8 8) (byteField f.entry 16 23) (byteField
    f.entry 12 15))), false) ∧ finishedWith t f.seq St.ok ∧ (bit (wFlags f.entry) 1 = 0 → t.mem = s.mem)) ∧
  (∀ (w : Work) (f : Flight) (s : State), takes s w 0x6A f ∧ s.flag Reg.JNL_STATUS_REGION_READY = true ∧ keyRefusal s f (byteField f.entry 9
    9 == 2) = none → answers (.keyGenerate w) s fun t => (Map.find? t.acc.keys t.acc.last).map (fun k => (k.niche, k.kind, k.mode, k.len,
    k.dead)) = some (f.niche, byteField f.entry 9 9, byteField f.entry 10 10, byteField f.entry 12 15, false) ∧ finishedWith t f.seq St.ok ∧
    (byteField f.entry 9 9 ≠ 2 → t.mem = s.mem)) ∧
  (∀ (w : Work) (f : Flight) (i : Nat) (k : KeyEnt) (s : State), takes s w 0x6B f ∧ s.flag Reg.JNL_STATUS_REGION_READY = true ∧ s.keyOf
    f.niche (byteField f.entry 4 7) = some (i, k) ∧ (s.acc.dying.any fun d => d.1 == i) = false → answers (.keyDestroy w) s fun t =>
    t.acc.dying = s.acc.dying ++ [(i, f.seq)] ∧ t.deferred = s.deferred ++ [(s.dueBoundary, .keyDead i)] ∧ t.regs = s.regs ∧ t.mem = s.mem)
    ∧
  (∀ (index q : Nat) (k : KeyEnt) (s : State), (s.acc.dying.find? fun d => d.1 == index) = some (index, q) ∧ Map.find? s.acc.keys index =
    some k ∧ k.dead = true ∧ s.keyInUse index = false ∧ waits s q → answers (.keyDestroyFence index) s fun t => Map.find? t.acc.keys index =
    none ∧ (t.acc.dying.any fun d => d.1 == index) = false ∧ finishedWith t q St.ok ∧ t.mem = s.mem)

/-- R26, R641, R646, R647, R648, R650, R651, R653, R655, R657, R707, R828: A fabric command whose conditions hold gives, changes or ends its
  segment, import, aperture, template or seed, or sends its register access, and reports ST_OK or stays busy. -/
def Obligations.FabricCommandsComplete : Prop :=
  (∀ (who : Issuer) (desc n off : Nat) (s : State), managerCmd s Blk.fab 0x1000000 who ∧ byteField desc 0 1 % 4096 = n ∧ segValid desc =
    true ∧ fabNiche s n = none ∧ segPlace s desc = some off ∧ s.fab.segs.length < 4096 ∧ s.winsTaken.length < 65536 → answers (.segCreate
    who desc) s fun t => (∃ g ∈ List.range 4096, Map.find? s.fab.segs g = none ∧ (Map.find? t.fab.segs g).map (fun x => (x.off, x.len,
    x.niche, x.grants)) = some (off, byteField desc 4 7 * 2 ^ 21, n, []) ∧ t.deferred = s.deferred ++ [(s.dueBoundary, .segOpen g (bit
    (byteField desc 3 3) 0 == 1 || segForeign s n off (byteField desc 4 7 * 2 ^ 21)))]) ∧ t.get Reg.FAB_CMD_BUSY = 1 ∧ t.mem = s.mem) ∧
  (∀ (who : Issuer) (g : Nat) (x : Seg) (s : State), managerCmd s Blk.fab 0x1000000 who ∧ s.get Reg.FAB_CMD_ARG_SEG = g ∧ Map.find?
    s.fab.segs g = some x ∧ s.tdiLocked x.niche = false ∧ s.getI Reg.FAB_SEG_INFO_STATE g = 2 → answers (.segDestroy who) s fun t =>
    Map.find? t.fab.segs g = none ∧ t.getI Reg.FAB_SEG_INFO_STATE g = 0 ∧ t.get Reg.FAB_CMD_STATUS_STATUS = St.ok ∧ t.mem = s.mem) ∧
  (∀ (who : Issuer) (entry g : Nat) (x : Seg) (s : State), managerCmd s Blk.fab 0x1000000 who ∧ s.get Reg.FAB_CMD_ARG_SEG = g ∧ Map.find?
    s.fab.segs g = some x ∧ s.tdiLocked x.niche = false ∧ byteField entry 4 4 < 8 ∧ byteField entry 5 15 = 0 → answers (.segGrant who entry)
    s fun t => t.deferred = s.deferred ++ [(s.dueBoundary, .segGrant g (s.get Reg.FAB_CMD_ARG_ENTRY) (entry % 2 ^ 128))] ∧ t.fab = s.fab ∧
    t.get Reg.FAB_CMD_STATUS_STATUS = St.ok ∧ t.mem = s.mem) ∧
  (∀ (who : Issuer) (g : Nat) (x : Seg) (s : State), managerCmd s Blk.fab 0x1000000 who ∧ s.get Reg.FAB_CMD_ARG_SEG = g ∧ Map.find?
    s.fab.segs g = some x ∧ s.tdiLocked x.niche = false ∧ s.getI Reg.FAB_SEG_INFO_STATE g = 1 → answers (.segRevoke who) s fun t =>
    t.deferred = s.deferred ++ [(s.dueBoundary, .segRevoke g (s.flag Reg.FAB_CMD_ARG_REOPEN))] ∧ t.fab = s.fab ∧ t.get Reg.FAB_CMD_BUSY = 1
    ∧ t.mem = s.mem) ∧
  (∀ (who : Issuer) (entry n : Nat) (s : State), managerCmd s Blk.fab 0x1000000 who ∧ byteField entry 0 1 = n ∧ n < 4096 ∧ byteField entry 2
    2 < 8 ∧ byteField entry 3 3 = 0 ∧ byteField entry 16 23 ≠ 0 ∧ byteField entry 24 31 = 0 ∧ fabSpace (byteField entry 8 15) = 0 ∧ fabNiche
    s n = none ∧ s.fab.imports.length < 16384 → answers (.importAdd who entry) s fun t => (∃ i ∈ List.range 16384, Map.find? s.fab.imports i
    = none ∧ t.fab.imports = Map.put s.fab.imports i ⟨n, byteField entry 2 2, byteField entry 4 7, byteField entry 8 15, byteField entry 16
    23⟩ ∧ t.get Reg.FAB_CMD_STATUS_OBJECT = i) ∧ t.get Reg.FAB_CMD_STATUS_STATUS = St.ok ∧ t.mem = s.mem) ∧
  (∀ (who : Issuer) (i : Nat) (x : Import) (s : State), managerCmd s Blk.fab 0x1000000 who ∧ s.get Reg.FAB_CMD_ARG_INDEX = i ∧ Map.find?
    s.fab.imports i = some x ∧ s.tdiLocked x.niche = false → answers (.importDel who) s fun t => Map.find? t.fab.imports i = none ∧ t.get
    Reg.FAB_CMD_STATUS_STATUS = St.ok ∧ t.mem = s.mem) ∧
  (∀ (who : Issuer) (fn : Nat) (f : Fn) (s : State), managerCmd s Blk.fab 0x1000000 who ∧ fnKey (s.get Reg.FAB_CMD_ARG_AP) (s.get
    Reg.FAB_CMD_ARG_RID) = fn ∧ Map.find? s.hif.fns fn = some f ∧ f.kind = 3 ∧ f.vf = 0 ∧ s.get Reg.FAB_CMD_ARG_INDEX = 0x3FFFF → answers
    (.apertureSet who) s fun t => Map.find? t.fab.apertures (aptKey fn (s.get Reg.FAB_CMD_ARG_SLOT)) = none ∧ t.get
    Reg.FAB_CMD_STATUS_STATUS = St.ok ∧ t.mem = s.mem) ∧
  (∀ (who : Issuer) (fn : Nat) (f : Fn) (x : Import) (s : State), managerCmd s Blk.fab 0x1000000 who ∧ fnKey (s.get Reg.FAB_CMD_ARG_AP)
    (s.get Reg.FAB_CMD_ARG_RID) = fn ∧ Map.find? s.hif.fns fn = some f ∧ f.kind = 3 ∧ f.vf = 0 ∧ s.get Reg.FAB_CMD_ARG_INDEX ≠ 0x3FFFF ∧
    Map.find? s.fab.imports (s.get Reg.FAB_CMD_ARG_INDEX) = some x ∧ s.flagI Reg.NCH_INFO_BOUND x.niche = true ∧ s.nicheFn x.niche = fn ∧
    s.tdiLocked x.niche = false → answers (.apertureSet who) s fun t => Map.find? t.fab.apertures (aptKey fn (s.get Reg.FAB_CMD_ARG_SLOT)) =
    some (s.get Reg.FAB_CMD_ARG_INDEX) ∧ t.get Reg.FAB_CMD_STATUS_STATUS = St.ok ∧ t.mem = s.mem) ∧
  (∀ (who : Issuer) (template i : Nat) (s : State), managerCmd s Blk.fab 0x1000000 who ∧ s.get Reg.FAB_CMD_ARG_INDEX = i ∧ i < 4096 ∧
    byteField template 0 0 < 16 ∧ byteField template 1 1 < 4 ∧ byteField template 5 7 = 0 ∧ byteField template 14 15 = 0 ∧ byteField
    template 32 63 = 0 → answers (.fabTemplateWrite who template) s fun t => Map.find? t.fab.templates i = some (template % 2 ^ 512) ∧ t.get
    Reg.FAB_CMD_STATUS_STATUS = St.ok ∧ t.mem = s.mem) ∧
  (∀ (who : Issuer) (addr i : Nat) (s : State), managerCmd s Blk.fab 0x1000000 who ∧ s.get Reg.FAB_CMD_ARG_SLOT = i ∧ i < 16 → answers
    (.seedWrite who addr) s fun t => Map.find? t.fab.seeds i = (if ofBE (toBytes 16 addr) = 0 then none else some (ofBE (toBytes 16 addr)))
    ∧ t.get Reg.FAB_CMD_STATUS_STATUS = St.ok ∧ t.mem = s.mem) ∧
  (∀ (who : Issuer) (a : Nat) (s : State), managerCmd s Blk.fab 0x1000000 who ∧ s.get Reg.FAB_RMT_ADDR_ADDR = a ∧ fabSpace a = 2 ∧ fabOff a
    % 8 = 0 ∧ peerStatus s (fabDev a) = St.ok ∧ s.sendRoom (fabDev a) = true → answers (.rmtRead who) s fun t => (∃ y ∈ t.tlt.sends,
    (y.peer, y.op, y.owner, y.atop, y.off) = (fabDev a, 0x49, Owner.reg, 0, a)) ∧ t.get Reg.FAB_CMD_BUSY = 1 ∧ t.mem = s.mem) ∧
  (∀ (who : Issuer) (a : Nat) (s : State), managerCmd s Blk.fab 0x1000000 who ∧ s.get Reg.FAB_RMT_ADDR_ADDR = a ∧ fabSpace a = 2 ∧ fabOff a
    % 8 = 0 ∧ peerStatus s (fabDev a) = St.ok ∧ s.sendRoom (fabDev a) = true → answers (.rmtWrite who) s fun t => (∃ y ∈ t.tlt.sends,
    (y.peer, y.op, y.owner, y.atop, y.off, y.operand) = (fabDev a, 0x49, Owner.reg, 1, a, s.get Reg.FAB_RMT_DATA_DATA)) ∧ t.get
    Reg.FAB_CMD_BUSY = 1 ∧ t.mem = s.mem)

/-- R304, R536, R649, R651, R652, R653, R654, R655, R672: An access to pool memory through an import is served here or sent to its owner in
  order, an aperture read that is not answered in time is aborted, and a register response ends its command. -/
def Obligations.PoolAccessCommandsComplete : Prop :=
  (∀ (w : Work) (f : Flight) (x : Window) (key a atop : Nat) (s : State), takes s w 0xC0 f ∧ byteField f.entry 4 7 = key ∧ byteField f.entry
    8 15 = a ∧ byteField f.entry 16 16 = atop ∧ atop ≤ 2 ∧ a % 8 = 0 ∧ poolStatus s f.niche key a 8 rightAtomic St.fabImport = St.ok ∧
    s.poolHere 3 a = true ∧ (localPool s key (fabOff a) 8 rightAtomic).toOption = some x → answers (.poolAtomic w) s fun t => t.mem =
    (atomicAt (s.fab.pool.1 + fabOff a) atop (byteField f.entry 24 31) (byteField f.entry 32 39) s).2.mem ∧ (∀ g ∈ t.rng.flights, g.seq =
    f.seq → g.done.map (fun d => (d.status, d.result)) = some (St.ok, (atomicAt (s.fab.pool.1 + fabOff a) atop (byteField f.entry 24 31)
    (byteField f.entry 32 39) s).1))) ∧
  (∀ (w : Work) (f : Flight) (i : Import) (key a atop : Nat) (s : State), takes s w 0xC0 f ∧ byteField f.entry 4 7 = key ∧ byteField f.entry
    8 15 = a ∧ byteField f.entry 16 16 = atop ∧ atop ≤ 2 ∧ a % 8 = 0 ∧ poolStatus s f.niche key a 8 rightAtomic St.fabImport = St.ok ∧
    s.poolHere 3 a = false ∧ s.sendRoom (fabDev a) = true ∧ s.importFor f.niche key a 8 rightAtomic = some i → answers (.poolAtomic w) s fun
    t => (∃ y ∈ t.tlt.sends, (y.peer, y.op, y.owner, y.atop, y.operand, y.compare, y.key, y.off) = (fabDev a, 6, Owner.work f.seq, atop,
    byteField f.entry 24 31, byteField f.entry 32 39, key, a - i.base)) ∧ t.mem = s.mem) ∧
  (∀ (who : Issuer) (off len size : Nat) (data : Option (List Byte)) (i : Import) (x : Window) (s : State), who.ap < 4 ∧ who.id < 65536 ∧
    data = none ∧ s.fab.apt = [] ∧ aptSlotSize s (fnKey who.ap who.id) = size ∧ size ≠ 0 ∧ off / size < 64 ∧ (Map.find? s.fab.apertures
    (aptKey (fnKey who.ap who.id) (off / size))).bind (fun k => Map.find? s.fab.imports k) = some i ∧ off % size + len ≤ i.len ∧ poolStatus
    s i.niche i.key (i.base + off % size) len rightRead St.fabImport = St.ok ∧ s.poolHere 3 (i.base + off % size) = true ∧ (localPool s
    i.key (fabOff (i.base + off % size)) len rightRead).toOption = some x → answers (.apertureAccess who off len data) s fun t => t.out =
    s.out ++ [.hostReply who.ap who.id Pcie.ok (ofBytes (memReadList s (s.fab.pool.1 + fabOff (i.base + off % size)) len))] ∧ t.fab.apt = []
    ∧ t.regs = s.regs ∧ t.mem = s.mem) ∧
  (∀ (who : Issuer) (off len size : Nat) (data : Option (List Byte)) (d : List Byte) (i : Import) (x : Window) (s : State), who.ap < 4 ∧
    who.id < 65536 ∧ data = some d ∧ s.fab.apt = [] ∧ aptSlotSize s (fnKey who.ap who.id) = size ∧ size ≠ 0 ∧ off / size < 64 ∧ (Map.find?
    s.fab.apertures (aptKey (fnKey who.ap who.id) (off / size))).bind (fun k => Map.find? s.fab.imports k) = some i ∧ off % size + d.length
    ≤ i.len ∧ poolStatus s i.niche i.key (i.base + off % size) d.length rightWrite St.fabImport = St.ok ∧ s.poolHere 3 (i.base + off % size)
    = true ∧ (localPool s i.key (fabOff (i.base + off % size)) d.length rightWrite).toOption = some x → answers (.apertureAccess who off len
    data) s fun t => t.mem = (memWriteList s (s.fab.pool.1 + fabOff (i.base + off % size)) d).mem ∧ t.fab.apt = [] ∧ t.regs = s.regs ∧ t.out
    = s.out) ∧
  (∀ (who : Issuer) (off len size : Nat) (data : Option (List Byte)) (d : List Byte) (i : Import) (s : State), who.ap < 4 ∧ who.id < 65536 ∧
    data = some d ∧ s.fab.apt = [] ∧ aptSlotSize s (fnKey who.ap who.id) = size ∧ size ≠ 0 ∧ off / size < 64 ∧ (Map.find? s.fab.apertures
    (aptKey (fnKey who.ap who.id) (off / size))).bind (fun k => Map.find? s.fab.imports k) = some i ∧ off % size + d.length ≤ i.len ∧
    poolStatus s i.niche i.key (i.base + off % size) d.length rightWrite St.fabImport = St.ok ∧ s.poolHere 3 (i.base + off % size) = false ∧
    s.sendRoom (fabDev (i.base + off % size)) = true → answers (.apertureAccess who off len data) s fun t => (∃ y ∈ t.tlt.sends, (y.peer,
    y.op, y.owner, y.ordered, y.srcEp, y.data, y.off, y.key) = (fabDev (i.base + off % size), 1, Owner.aperture s.fab.nextApt, true, off /
    size, d, off % size, i.key)) ∧ t.fab.apt.map (fun o => (o.id, o.sent)) = [(s.fab.nextApt, true)] ∧ t.mem = s.mem) ∧
  (∀ (id : Nat) (o : AptOp) (s : State), (s.fab.apt.find? fun o => o.id == id && o.data.isNone) = some o ∧ o.since + s.eff
    Reg.FAB_PATHCFG_APT_TIMEOUT_US * 1000 ≤ s.stk.phcNs → answers (.apertureReadTimeout id) s fun t => (t.fab.apt.any fun x => x.id == id) =
    false ∧ .hostReply o.ap o.rid Pcie.abort 0 ∈ t.out) ∧
  (∀ (p : TlPkt) (x : Send) (c : CmdPend) (s : State), arrives s p ∧ s.send p.src p.msg = some x ∧ x.op = 0x49 ∧ x.owner = .reg ∧ byteField
    p.ext 0 0 = St.ok ∧ Map.find? s.cmds 14 = some c → answers (.regResp p) s fun t => t.send p.src p.msg = none ∧ Map.find? t.cmds 14 =
    none ∧ t.get Reg.FAB_CMD_BUSY = 0 ∧ t.get Reg.FAB_CMD_STATUS_STATUS = St.ok ∧ (c.op = 10 → t.get Reg.FAB_RMT_DATA_DATA = byteField p.ext
    8 15) ∧ t.mem = s.mem)

/-- R631, R633, R634, R635, R636, R644, R659, R663: Enabling starts discovery and disabling ends it; HELLOs go out at their time, the
  election settles after its wait, and a silent coordinator or neighbour is forgotten. -/
def Obligations.DiscoveryCommandsComplete : Prop :=
  (∀ (who : Issuer) (value : Nat) (s : State), writeOpen s who 0x1000020 ∧ s.flag Reg.FAB_CFG_ENABLE = false → answers (.fabricEnable who
    value) s fun t => t.get Reg.FAB_CFG_ENABLE = 1 ∧ t.get Reg.FAB_CFG_FABRIC_ID = bits value 63 32 ∧ t.get Reg.FAB_CFG_PRIORITY = bits
    value 31 24 ∧ t.get Reg.FAB_ID_ROLE = 1 ∧ t.get Reg.FAB_ID_COORD_KNOWN = 0 ∧ t.fab.heard = [] ∧ t.mem = s.mem) ∧
  (∀ (who : Issuer) (value : Nat) (s : State), writeOpen s who 0x1000020 ∧ s.flag Reg.FAB_CFG_ENABLE = true ∧ bits value 63 32 = s.get
    Reg.FAB_CFG_FABRIC_ID ∧ bit value 23 = s.get Reg.FAB_CFG_MODE → answers (.fabricDisable who value) s fun t => t.get Reg.FAB_CFG_ENABLE =
    0 ∧ t.get Reg.FAB_ID_VALID = 0 ∧ t.get Reg.FAB_ID_ROLE = 0 ∧ t.fab.members = [] ∧ t.fab.heard = [] ∧ t.fab.lastId = s.fab.lastId ∧ t.mem
    = s.mem) ∧
  (∀ (ok : Bool) (s : State), s.flag Reg.FAB_CFG_ENABLE = true ∧ s.flag Reg.FAB_CFG_MODE = false ∧ s.fab.helloAt ≤ s.stk.boundary ∧ (s.flag
    Reg.FAB_ID_COORD_KNOWN && !s.fab.asking) = ok → answers .helloTimer s fun t => t.fab.helloAt = s.stk.boundary + s.eff
    Reg.FAB_TIMING_HELLO_PERIOD ∧ (∀ m ∈ s.fabMacs, .turelm m (pathSport 0 0 0) 0 (s.helloPkt ok) ∈ t.out) ∧ t.mem = s.mem) ∧
  (∀ (ok : Bool) (s : State), s.flag Reg.FAB_CFG_ENABLE = true ∧ s.flag Reg.FAB_CFG_MODE = true ∧ s.fab.helloAt ≤ s.stk.boundary ∧ (s.flag
    Reg.FAB_ID_COORD_KNOWN && !s.fab.asking) = ok → answers .helloTimer s fun t => t.fab.helloAt = s.stk.boundary + s.eff
    Reg.FAB_TIMING_HELLO_PERIOD ∧ (∀ e ∈ s.fab.seeds, .turelm (s.ctlMac 0) (pathSport 0 0 0) e.2 (s.helloPkt ok) ∈ t.out) ∧ t.mem = s.mem) ∧
  (∀ (role : Nat) (s : State), s.get Reg.FAB_ID_ROLE = role ∧ role ∈ [1, 2, 3] ∧ s.flag Reg.FAB_ID_COORD_KNOWN = false ∧ s.fab.settleAt ≤
    s.stk.boundary ∧ s.bestCandidate.isSome = true ∧ s.selfBest = false → answers .electionSettled s fun t => t.get Reg.FAB_ID_COORD_KNOWN =
    1 ∧ t.get Reg.FAB_ID_ROLE = (if role = 3 then 3 else 2) ∧ t.mem = s.mem) ∧
  (∀ (role : Nat) (s : State), s.get Reg.FAB_ID_ROLE = role ∧ role ≠ 0 ∧ s.flag Reg.FAB_ID_COORD_KNOWN = false ∧ s.fab.settleAt ≤
    s.stk.boundary ∧ s.bestCandidate.isSome = true ∧ s.selfBest = true → answers .electionSettled s fun t => t.get Reg.FAB_ID_COORD_KNOWN =
    1 ∧ t.get Reg.FAB_ID_ROLE = 4 ∧ t.mem = s.mem) ∧
  (∀ (c : Nat) (s : State), s.get Reg.FAB_ID_ROLE = 3 ∧ s.get Reg.FAB_ID_COORD_ID = c ∧ (s.fab.heard.any fun h => (h.id == some c || h.names
    == some c) && decide (s.stk.boundary < h.deadAt s)) = false → answers .coordinatorTimeout s fun t => t.fab.heard = s.fab.heard.filter
    (fun h => !(h.id == some c || h.names == some c)) ∧ t.get Reg.FAB_ID_COORD_KNOWN = 0 ∧ t.fab.settleAt = s.stk.boundary + electWait s ∧
    t.mem = s.mem) ∧
  (∀ (mac : Nat) (h : Heard) (s : State), (s.fab.heard.find? fun h => h.mac == mac && decide (h.deadAt s ≤ s.stk.boundary)) = some h →
    answers (.neighbourTimeout mac) s fun t => h ∉ t.fab.heard ∧ t.getI Reg.FAB_PORT_NEIGHBOUR_VALID mac = 0 ∧ t.mem = s.mem) ∧
  (∀ (mac : Nat) (p : TlPkt) (s : State), ctlArrives s p ∧ byteField p.ext 8 11 = s.get Reg.FAB_CFG_FABRIC_ID → answers (.hello mac p) s fun
    t => (∃ h ∈ t.fab.heard, (h.uid, h.prio, h.mac, h.at_, h.epoch) = (byteField p.ext 0 7, byteField p.ext 12 12, mac, s.stk.boundary,
    byteField p.ext 20 23)) ∧ (s.flag Reg.FAB_CFG_MODE = false → t.getI Reg.FAB_PORT_NEIGHBOUR_VALID mac = 1) ∧ t.mem = s.mem)

/-- R633, R635, R636, R637, R638, R639, R641, R642, R643, R644, R766: The coordinator answers an ID request and records the member; a member
  takes the ID and the updates it is sent, gives up an ID that is revoked, and floods and applies link states. A silent path becomes SUSPECT
  and is probed, misses take it DOWN, an echo or a link brings it back, and a link change moves its paths at the boundary. -/
def Obligations.MembershipAndPathCommandsComplete : Prop :=
  (∀ (p : TlPkt) (uid d : Nat) (s : State), ctlArrives s p ∧ s.get Reg.FAB_ID_ROLE = 4 ∧ byteField p.ext 0 7 = uid ∧ decideId s uid (if bit
    (byteField p.ext 8 9) 15 = 1 then some (bit (byteField p.ext 8 9) 14 == 1, byteField p.ext 8 9 % 2 ^ 14) else none) = (0, d) → answers
    (.idRequest p) s fun t => (t.member d).map (·.uid) = some uid ∧ sentOut t (fun q => q.op == 0x42 && q.ext == uid + d * 2 ^ 64) = true ∧
    t.mem = s.mem) ∧
  (∀ (p : TlPkt) (s : State), ctlArrives s p ∧ s.get Reg.FAB_ID_ROLE = 2 ∧ byteField p.ext 0 7 = s.uid ∧ byteField p.ext 10 10 = 0 → answers
    (.idAssign p) s fun t => t.get Reg.FAB_ID_ROLE = 3 ∧ t.deferred = s.deferred ++ [(s.dueBoundary, .fabId (byteField p.ext 8 9 % 2 ^ 14))]
    ∧ t.fab = s.fab ∧ t.mem = s.mem) ∧
  (∀ (p : TlPkt) (s : State), ctlArrives s p ∧ s.get Reg.FAB_ID_ROLE ∈ [3, 4] ∧ byteField p.ext 0 7 = s.uid ∧ s.fabId = some (byteField
    p.ext 8 9 % 2 ^ 14) → answers (.idRevoke p) s fun t => t.deferred = s.deferred ++ [(s.dueBoundary, .fabIdLost)] ∧ t.fab = s.fab ∧ t.mem
    = s.mem) ∧
  (∀ (p : TlPkt) (v : Nat) (s : State), ctlArrives s p ∧ s.get Reg.FAB_ID_ROLE ≠ 4 ∧ byteField p.ext 0 3 = v ∧ (ahead 32 v s.fab.version = 1
    ∨ s.fab.version = 0 ∨ s.fab.asking = true) → answers (.memberUpdate p) s fun t => t.fab.version = v ∧ t.fab.asking = false ∧ t.deferred
    = s.deferred ++ [(s.dueBoundary, .fabMembers v ((List.range (min 64 (byteField p.ext 4 5))).map (updateRec p.ext)))] ∧ sentOut t (fun q
    => q.op == 0x45 && q.ext == v) = true ∧ t.mem = s.mem) ∧
  (∀ (p : TlPkt) (s : State), ctlArrives s p → answers (.memberAck p) s fun t => t.fab.acks = s.fab.acks.filter (fun a => a != (p.src,
    byteField p.ext 0 3)) ∧ t.fab.members = s.fab.members ∧ t.mem = s.mem) ∧
  (∀ (mac seq : Nat) (p : TlPkt) (s : State), ctlArrives s p ∧ s.flag Reg.FAB_CFG_MODE = false ∧ s.fabId ≠ some p.src ∧ byteField p.ext 0 3
    = seq ∧ ((Map.find? s.fab.linkStates p.src).all fun o => decide (0 < ahead 32 seq o.1)) = true → answers (.linkState mac p) s fun t =>
    (Map.find? t.fab.linkStates p.src).map (·.1) = some seq ∧ t.fab.routeDue.isSome = true ∧ (∀ m ∈ s.fabMacs, m ≠ mac → .turelm m
    (pathSport p.dst 0 0) 0 p ∈ t.out) ∧ t.mem = s.mem) ∧
  (∀ (d : Nat) (s : State), s.flag Reg.FAB_CFG_ENABLE = true ∧ s.fab.linkAt ≤ s.stk.boundary ∧ s.flag Reg.FAB_CFG_MODE = false ∧ s.fabId =
    some d → answers .linkStateTimer s fun t => t.fab.linkSeq = (s.fab.linkSeq + 1) % 2 ^ 32 ∧ t.fab.linkAt = s.stk.boundary + 64 * s.eff
    Reg.FAB_TIMING_HELLO_PERIOD ∧ t.fab.routeDue.isSome = true ∧ (∀ m ∈ s.fabMacs, .turelm m (pathSport 0 0 0) 0 (linkPkt t) ∈ t.out) ∧
    t.mem = s.mem) ∧
  (∀ (b : Nat) (s : State), s.fab.routeDue = some b → answers .routeTableSwitch s fun t => t.fab.routeDue = none ∧ t.fab.routes =
    (routesFrom s 8 1 s.fabId.toList (firstHops s)).foldl (fun m r => Map.put m r.1 r.2.2) [] ∧ t.mem = s.mem) ∧
  (∀ (p : TlPkt) (s : State), ctlArrives s p → answers (.probe p) s fun t => .turelm (s.ctlMac p.src) (pathSport p.src 0 0) (((s.member
    p.src).map (·.addr)).getD 0) { s.tlHead 0x47 p.src with ext := byteField p.ext 0 7 + p.path * 2 ^ 64 } ∈ t.out ∧ t.fab = s.fab ∧ t.mem =
    s.mem) ∧
  (∀ (p : TlPkt) (k : Nat) (x : PathX) (s : State), ctlArrives s p ∧ pathKey p.src (byteField p.ext 8 8 % 64) = k ∧ Map.find? s.fab.paths k
    = some x → answers (.probeAck p) s fun t => (Map.find? t.fab.paths k).map (fun y => (y.oldest, y.echoed)) = some (none, true) ∧
    t.deferred = (if (s.getI Reg.FAB_PATH_INFO_STATE k = 1 ∨ s.getI Reg.FAB_PATH_INFO_STATE k = 3) ∧ x.echoed = false then s.deferred ++
    [(s.dueBoundary, .pathUp k)] else s.deferred) ∧ t.mem = s.mem) ∧
  (∀ (peer path b : Nat) (x : PathX) (s : State), Map.find? s.fab.paths (pathKey peer path) = some x ∧ x.oldest = some b ∧ s.getI
    Reg.FAB_PATH_INFO_STATE (pathKey peer path) = 0 ∧ b + s.eff Reg.FAB_TIMING_SILENT ≤ s.stk.boundary → answers (.pathSilent peer path) s
    fun t => t.getI Reg.FAB_PATH_INFO_STATE (pathKey peer path) = 1 ∧ t.getI Reg.FAB_PATH_INFO_MISSES (pathKey peer path) = 0 ∧ .turelm
    (s.getI Reg.FAB_PATH_INFO_MAC (pathKey peer path)) (s.getI Reg.FAB_PATH_INFO_UDP_SPORT (pathKey peer path)) (((s.member peer).map
    (·.addr)).getD 0) { s.tlHead 0x46 peer with path := path, ext := s.now } ∈ t.out ∧ t.mem = s.mem) ∧
  (∀ (peer path : Nat) (x : PathX) (s : State), Map.find? s.fab.paths (pathKey peer path) = some x ∧ s.getI Reg.FAB_PATH_INFO_STATE (pathKey
    peer path) = 0 ∧ x.last + s.eff Reg.FAB_TIMING_PROBE_PERIOD ≤ s.stk.boundary → answers (.pathIdleProbe peer path) s fun t => (Map.find?
    t.fab.paths (pathKey peer path)).map (·.last) = some s.stk.boundary ∧ .turelm (s.getI Reg.FAB_PATH_INFO_MAC (pathKey peer path)) (s.getI
    Reg.FAB_PATH_INFO_UDP_SPORT (pathKey peer path)) (((s.member peer).map (·.addr)).getD 0)
    { s.tlHead 0x46 peer with path := path, ext := s.now } ∈ t.out ∧ t.mem = s.mem) ∧
  (∀ (peer path k : Nat) (x : PathX) (s : State), pathKey peer path = k ∧ Map.find? s.fab.paths k = some x ∧ s.getI Reg.FAB_PATH_INFO_STATE
    k ∈ [1, 3] ∧ x.echoed = false ∧ x.since + s.eff Reg.FAB_PATHCFG_PROBE_RETRY ≤ s.stk.boundary ∧ s.getI Reg.FAB_PATH_INFO_MISSES k + 1 <
    s.eff Reg.FAB_PATHCFG_DOWN_MISSES → answers (.probeRetryExpiry peer path) s fun t => t.getI Reg.FAB_PATH_INFO_MISSES k = (s.getI
    Reg.FAB_PATH_INFO_MISSES k + 1) % 2 ^ Reg.FAB_PATH_INFO_MISSES.width ∧ t.getI Reg.FAB_PATH_INFO_STATE k = s.getI Reg.FAB_PATH_INFO_STATE
    k ∧ .turelm (s.getI Reg.FAB_PATH_INFO_MAC k) (s.getI Reg.FAB_PATH_INFO_UDP_SPORT k) (((s.member peer).map (·.addr)).getD 0)
    { s.tlHead 0x46 peer with path := path, ext := s.now } ∈ t.out ∧ t.mem = s.mem) ∧
  (∀ (peer path k : Nat) (x : PathX) (s : State), pathKey peer path = k ∧ path < 64 ∧ Map.find? s.fab.paths k = some x ∧ s.getI
    Reg.FAB_PATH_INFO_STATE k ∈ [1, 3] ∧ x.echoed = false ∧ x.since + s.eff Reg.FAB_PATHCFG_PROBE_RETRY ≤ s.stk.boundary ∧ s.eff
    Reg.FAB_PATHCFG_DOWN_MISSES ≤ s.getI Reg.FAB_PATH_INFO_MISSES k + 1 ∧ s.flag Reg.FAB_CFG_MODE = false → answers (.probeRetryExpiry peer
    path) s fun t => t.getI Reg.FAB_PATH_INFO_STATE k = 2 ∧ t.get Reg.FAB_PATH_DOWN_CNT_COUNT = min 0xFFFFFFFF (s.get
    Reg.FAB_PATH_DOWN_CNT_COUNT + 1) ∧ t.get Reg.FAB_STATUS_PATH_DOWN = 1 ∧ t.mem = s.mem) ∧
  (∀ (peer path k : Nat) (x : PathX) (s : State), pathKey peer path = k ∧ Map.find? s.fab.paths k = some x ∧ s.getI Reg.FAB_PATH_INFO_STATE
    k = 2 ∧ x.since + s.get Reg.FAB_PATHCFG_REVIVE ≤ s.stk.boundary ∧ s.sch.linkUp.contains (s.getI Reg.FAB_PATH_INFO_MAC k) = true →
    answers (.pathRevive peer path) s fun t => t.getI Reg.FAB_PATH_INFO_STATE k = 3 ∧ t.getI Reg.FAB_PATH_INFO_MISSES k = 0 ∧ t.getI
    Reg.FAB_PATH_INFO_RESPRAYS k = 0 ∧ sentOut t (fun q => q.op == 0x46 && q.dst == peer && q.path == path) = true ∧ t.mem = s.mem) ∧
  (∀ (mac : Nat) (up : Bool) (s : State), s.sch.linkUp.contains mac ≠ up → answers (.ethLinkChange mac up) s fun t => t.sch.linkUp.contains
    mac = up ∧ t.deferred = s.deferred ++ [(s.dueBoundary, .macLink mac up)] ∧ t.mem = s.mem)

/-- R676, R677, R678, R679, R681, R682, R688, R689, R690, R691: A loop that falls due samples and evaluates, its run applies or is advised
  at its boundary, an envelope applies at its own, accepted advice waits for the boundary, and merged decisions are journaled. -/
def Obligations.RegulationCommandsComplete : Prop :=
  (∀ (l : Nat) (samples : List (Nat × Nat)) (s : State), s.frozen = false ∧ s.stroke % s.effI Reg.RGL_LOOP_CFG_PERIOD l = 0 ∧ s.rgl.since +
    s.effI Reg.RGL_LOOP_CFG_PERIOD l ≤ s.stroke ∧ (s.loop l).lastRun ≠ s.stroke ∧ (s.loop l).pending = none → answers (.regulationRun l
    samples) s fun t => (t.loop l).pending.map (fun r => (r.run, r.stroke, r.props)) = some ((s.loop l).run + 1, s.stroke, (evaluate s l
    (s.sampleFor l samples)).2.take (s.effI Reg.RGL_LOOP_CFG_MAX_CHANGES l)) ∧ (t.loop l).lastRun = s.stroke ∧ t.regs = s.regs ∧ t.mem =
    s.mem) ∧
  (∀ (l : Nat) (samples : List (Nat × Nat)) (s : State), s.frozen = false ∧ s.stroke % s.effI Reg.RGL_LOOP_CFG_PERIOD l = 0 ∧ s.rgl.since +
    s.effI Reg.RGL_LOOP_CFG_PERIOD l ≤ s.stroke ∧ (s.loop l).lastRun ≠ s.stroke ∧ (s.loop l).pending.isSome = true → answers (.regulationRun
    l samples) s fun t => t.getI Reg.RGL_LOOP_STAT_SKIPPED l = min 255 (s.getI Reg.RGL_LOOP_STAT_SKIPPED l + 1) ∧ (t.loop l).pending =
    (s.loop l).pending ∧ (t.loop l).run = (s.loop l).run ∧ t.get Reg.RGL_STATUS_SKIP = 1 ∧ t.mem = s.mem) ∧
  (∀ (l : Nat) (r : RglRun) (s : State), (s.loop l).pending = some r ∧ s.frozen = false ∧ r.due ≤ s.stk.boundary ∧ s.loopMode l = 1 ∧
    r.props ≠ [] → answers (.regulationApply l) s fun t => (t.loop l).pending = none ∧ (t.loop l).advice = some r ∧ t.getI
    Reg.RGL_LOOP_STAT_RUN l = r.run % 2 ^ 48 ∧ t.getI Reg.RGL_LOOP_STAT_LAST_CHANGES l = r.props.length % 2 ^ 8 ∧ t.mem = s.mem) ∧
  (∀ (l : Nat) (r : RglRun) (p : Proposal) (x : PeerX) (s : State), l = 0 ∧ (s.loop l).pending = some r ∧ s.frozen = false ∧ r.due ≤
    s.stk.boundary ∧ s.loopMode l = 2 ∧ (s.loop l).actSince + s.effI Reg.RGL_LOOP_CFG_PERIOD l ≤ r.stroke ∧ r.props = [p] ∧ Map.find?
    s.tlt.peers p.target = some x → answers (.regulationApply l) s fun t => (t.loop l).pending = none ∧ t.getI Reg.TLT_PEER_INFO_RATE_MBPS
    p.target = clamp (s.envMin 0) (s.envMax 0) p.new % 2 ^ 32 ∧ t.getI Reg.RGL_LOOP_STAT_RUN l = r.run % 2 ^ 48 ∧ t.getI
    Reg.RGL_LOOP_STAT_LAST_CHANGES l = 1 ∧ t.mem = s.mem) ∧
  (∀ (l : Nat) (r : RglRun) (s : State), (s.loop l).pending = some r ∧ s.frozen = false ∧ r.due ≤ s.stk.boundary ∧ s.loopMode l = 0 →
    answers (.regulationApply l) s fun t => (t.loop l).pending = none ∧ t.getI Reg.RGL_LOOP_STAT_RUN l = r.run % 2 ^ 48 ∧ t.getI
    Reg.RGL_LOOP_STAT_LAST_CHANGES l = 0 ∧ t.tlt = s.tlt ∧ t.mem = s.mem) ∧
  (∀ (l lo hi due : Nat) (s : State), (s.loop l).envNext = some (lo, hi, due) ∧ due ≤ s.stk.boundary → answers (.envelopeApply l) s fun t =>
    t.getI Reg.RGL_ENV_MIN l = clamp (s.getI Reg.RGL_OUTER_MIN l) (s.getI Reg.RGL_OUTER_MAX l) lo % 2 ^ 32 ∧ t.getI Reg.RGL_ENV_MAX l =
    clamp (s.getI Reg.RGL_OUTER_MIN l) (s.getI Reg.RGL_OUTER_MAX l) hi % 2 ^ 32 ∧ (t.loop l).envNext = none ∧ t.mem = s.mem) ∧
  (∀ (who : Issuer) (l run : Nat) (s : State), s.mayWriteRegs who = true ∧ s.blockAnswers 0x1100018 = true ∧ s.jReady who = true ∧
    acceptRefusal s l run (s.get Reg.RGL_ADV_MASK_MASK) = none → answers (.adviceAccept who l run) s fun t => t.deferred = s.deferred ++
    [(s.dueBoundary, .adviceApply l run (s.get Reg.RGL_ADV_MASK_MASK))] ∧ t.get Reg.RGL_ADV_ACCEPT_RUN = run % 2 ^ 48 ∧ (t.jnl.log.head?.map
    fun e => (e.kind, e.status)) = some (0x0FE1, 0) ∧ t.mem = s.mem) ∧
  (∀ (l : Nat) (m : RglMerge) (s : State), (s.loop l).merged = some m ∧ m.since + s.eff Reg.RGL_CTL_JNL_STROKES ≤ s.stroke → answers
    (.decisionJournalFlush l) s fun t => (t.loop l).merged = none ∧ (t.jnl.log.head?.map (·.kind)) = some 0x0FE0 ∧ t.mem = s.mem)

/-- R716, R717, R718, R719, R722, R724, R726, R727, R747, R797, R780: A journal command of the manager copies entries with their trailer to
  the host or marks the journal, JNL_ACK is taken, and MCTP messages answer with what they ask for. -/
def Obligations.JournalCommandsComplete : Prop :=
  (∀ (who : Issuer) (bad : List Nat) (start head : Nat) (s : State), managerCmd s Blk.jnl 0x1200030 who ∧ s.get Reg.JNL_CMD_ARG_START =
    start ∧ s.get Reg.JNL_HEAD_SEQ = head ∧ start ≠ 0 ∧ start ≤ head ∧ s.canIssue 0 = true → answers (.read who bad) s fun t => .hostWrite
    (s.getI Reg.NCH_INFO_AP 0) (s.getI Reg.NCH_INFO_RID 0) (s.nichePasid 0) (s.get Reg.JNL_CMD_ADDR_ADDR) (copyOut ((copyRange s start
    head).map (journalSlot s bad)) start head (s.get Reg.JNL_OLDEST_SEQ)) ∈ t.out ∧ t.get Reg.JNL_CMD_STATUS_STATUS = St.ok ∧ t.mem = s.mem)
    ∧
  (∀ (who : Issuer) (start : Nat) (s : State), managerCmd s Blk.jnl 0x1200030 who ∧ s.get Reg.JNL_CMD_ARG_START = start ∧ s.flag
    Reg.JNL_STATUS_PREV_VALID = true ∧ start ≠ 0 ∧ start ≤ s.jnl.prevHead ∧ s.canIssue 0 = true → answers (.readPrev who) s fun t =>
    .hostWrite (s.getI Reg.NCH_INFO_AP 0) (s.getI Reg.NCH_INFO_RID 0) (s.nichePasid 0) (s.get Reg.JNL_CMD_ADDR_ADDR) (copyOut ((copyRange s
    start s.jnl.prevHead).map (prevSlot s)) start s.jnl.prevHead (prevOldest s)) ∈ t.out ∧ t.get Reg.JNL_CMD_STATUS_STATUS = St.ok ∧ t.mem =
    s.mem) ∧
  (∀ (who : Issuer) (block : Nat) (s : State), managerCmd s Blk.jnl 0x1200030 who ∧ s.get Reg.JNL_HEAD_SEQ < 2 ^ 63 → answers (.mark who
    block) s fun t => (∃ e ∈ t.jnl.log, e.kind = 0x1007 ∧ e.seq = t.get Reg.JNL_MARK_SEQ_SEQ ∧ e.body = byteField block 0 27) ∧ s.get
    Reg.JNL_HEAD_SEQ < t.get Reg.JNL_MARK_SEQ_SEQ ∧ t.get Reg.JNL_CMD_STATUS_STATUS = St.ok ∧ t.mem = s.mem) ∧
  (∀ (who : Issuer) (value : Nat) (s : State), writeOpen s who 0x1200020 ∧ value ≤ s.get Reg.JNL_HEAD_SEQ → answers (.journalAck who value)
    s fun t => t.get Reg.JNL_ACK_ACK = value % 2 ^ 64 ∧ (t.jnl.log.head?.map (·.kind)) = some 0x10FF ∧ t.mem = s.mem) ∧
  (∀ (who : Issuer) (s : State), readOpen s 0x1300030 ∧ who.origin ≠ .mctp → answers (.patinaReadLatch who) s fun t => t.out = s.out ++
    [.hostReply who.ap who.id 0 (patSelected s (accessor who) % 2 ^ 64)] ∧ Map.find? t.pat.latch (accessor who) = some (patSelected s
    (accessor who)) ∧ t.regs = s.regs ∧ t.mem = s.mem) ∧
  (∀ (eid start n : Nat) (bad : List Nat) (s : State), 1 < s.dev ∧ start ≠ 0 ∧ start ≤ s.get Reg.JNL_HEAD_SEQ ∧ 1 ≤ n ∧ n ≤ 16 → answers
    (.readJournal eid start n bad) s fun t => .mctp eid St.ok (((List.range (min n (s.get Reg.JNL_HEAD_SEQ + 1 - start))).map (start +
    ·)).map (journalSlot s bad)) ∈ t.out ∧ t.mem = s.mem) ∧
  (∀ (eid start n : Nat) (s : State), s.pwr.aux = true ∧ s.flag Reg.JNL_STATUS_PREV_VALID = true ∧ start ≠ 0 ∧ start ≤ s.jnl.prevHead ∧ 1 ≤
    n ∧ n ≤ 16 → answers (.readPrevJournal eid start n) s fun t => t.out = s.out ++ [.mctp eid St.ok (((List.range (min n (s.jnl.prevHead +
    1 - start))).map (start + ·)).map (prevSlot s))] ∧ t.regs = s.regs ∧ t.mem = s.mem) ∧
  (∀ (eid start n : Nat) (s : State), s.pwr.aux = true ∧ start ≠ 0 ∧ start ≤ s.get Reg.PAT_HEAD_SEQ ∧ 1 ≤ n ∧ n ≤ 32 → answers (.readPatina
    eid start n) s fun t => t.out = s.out ++ [.mctp eid St.ok ((List.range (min n (s.get Reg.PAT_HEAD_SEQ + 1 - start))).map fun k =>
    patWord (s.pat.ring.find? fun e => e.seq == start + k))] ∧ t.regs = s.regs ∧ t.mem = s.mem) ∧
  (∀ (eid start n : Nat) (s : State), s.pwr.aux = true ∧ 1 ≤ n ∧ n ≤ 32 → answers (.readPinned eid start n) s fun t => t.out = s.out ++
    [.mctp eid St.ok ((List.range n).map fun k => patWord (s.pat.pinned[start + k]?))] ∧ t.regs = s.regs ∧ t.mem = s.mem) ∧
  (∀ (eid : Nat) (s : State), 1 < s.dev → answers (.clearPinned eid) s fun t => t.pat.pinned = [] ∧ t.get Reg.PAT_PIN_INFO_USED = 0 ∧ t.get
    Reg.PAT_STATUS_PINNED_FULL = 0 ∧ (t.jnl.log.head?.map (·.kind)) = some 0x1105 ∧ t.out = s.out ++ [.mctp eid St.ok []] ∧ t.mem = s.mem) ∧
  (∀ (eid off i : Nat) (d : RegDef) (s : State), s.pwr.aux = true ∧ 0x1500000 ≤ off ∧ off < 0x1600000 ∧ findReg s ⟨.platform, .mctp, 0, eid⟩
    off = some (d, i) → answers (.pwrRead eid off) s fun t => t.out = s.out ++ [.mctp eid St.ok [(readReg ⟨.platform, .mctp, 0, eid⟩ d i
    s).1]] ∧ t.mem = s.mem) ∧
  (∀ (eid off i : Nat) (d : RegDef) (s : State), 1 < s.dev ∧ 0x1400000 ≤ off ∧ off < 0x1500000 ∧ findReg s ⟨.platform, .mctp, 0, eid⟩ off =
    some (d, i) → answers (.svcRead eid off) s fun t => t.out = s.out ++ [.mctp eid St.ok [(readReg ⟨.platform, .mctp, 0, eid⟩ d i s).1]] ∧
    t.mem = s.mem)

/-- R16, R780, R781, R782, R783, R795, R796, R797: The supply events of R781 to R783 take effect: the device state, MAIN_EN and the straps.
  Each PWR_CMD command, from a role that may give it and in a state that allows it, moves the device and reports ST_OK. -/
def Obligations.PowerCommandsComplete : Prop :=
  (∀ (s : State), s.pwr.aux = false → answers .auxPowerPresent s fun t => t.dev = 1 ∧ t.pwr.aux = true) ∧
  (∀ (s : State), answers .auxPowerLost s fun t => t.dev = 0 ∧ t.pwr.aux = false ∧ t.pat.ring = [] ∧ t.jnl.log = []) ∧
  (∀ (autoOn : Bool) (mgmtAddr : Nat) (rgmiiEn flashMode test : Bool) (s : State), answers (.strapSample autoOn mgmtAddr rgmiiEn flashMode
    test) s fun t => (t.pwr.straps.map fun x => x.autoOn) = some autoOn ∧ (autoOn = true → s.dev = 1 → t.pwr.mainEn = true)) ∧
  (∀ (eid : Nat) (hot : Int) (s : State), s.dev = 1 ∧ hot < (s.get Reg.PWR_THERM_T_CRIT : Int) → answers (.powerOn eid hot) s fun t =>
    t.pwr.mainEn = true ∧ t.out = s.out ++ [.mctp eid St.ok []]) ∧
  (∀ (s : State), s.pwr.mainEn = true ∧ s.dev = 1 → answers .mainPgAsserted s fun t => t.dev = 2 ∧ t.stk.phcRunning = true ∧ t.pwr.mainPg =
    true) ∧
  (∀ (s : State), s.pwr.mainEn = true ∧ s.pwr.mainPg = false → answers .mainPgTimeout s fun t => t.pwr.mainEn = false ∧ t.pwr.pgFailed =
    true) ∧
  (∀ (s : State), 1 < s.dev → answers .mainPgDeasserted s fun t => t.dev = 1 ∧ t.pwr.mainPg = false ∧ t.mem = []) ∧
  (∀ (s : State), s.pwr.offAt.isSome = true → answers .powerOffMainEnDrop s fun t => t.pwr.mainEn = false ∧ t.pwr.offAt = none) ∧
  (∀ (s : State), 2 ≤ s.dev ∧ s.pwr.b2 = false → answers .powerStepB2 s fun t => t.pwr.b2 = true) ∧
  (∀ (regulated : Bool) (failed : List Nat) (repairs : Nat) (s : State), s.dev = 3 ∧ 1 ≤ s.pwr.nextStep ∧ s.pwr.nextStep ≤ 18 ∧
    s.pwr.steppedAt + s.get Reg.PWR_SEQ_STEP_STROKES ≤ s.stk.boundary ∧ s.pwr.mainPg = true ∧ regulated = true ∧ failed = [] → answers
    (.powerStep regulated failed repairs) s fun t => t.pwr.nextStep = s.pwr.nextStep + 1 ∧ t.get Reg.PWR_SEQ_STEP = s.pwr.nextStep) ∧
  (∀ (s : State), s.pwr.waitSince = some 0 ∧ 65536 ≤ s.stk.boundary → answers .powerStepWaitExceeded s fun t => t.dev = 7) ∧
  (∀ (who : Issuer) (s : State), who.role = .manager ∧ s.jReady who = true ∧ s.flag Reg.PWR_CMD_BUSY = false ∧ s.dev = 3 ∧ s.flag
    Reg.PWR_SEQ_READY = true → answers (.enterService who) s fun t => t.dev = 4 ∧ t.get Reg.PWR_CMD_STATUS_STATUS = St.ok) ∧
  (∀ (who : Issuer) (s : State), who.role = .platform ∧ s.flag Reg.PWR_CMD_BUSY = false ∧ s.dev = 4 ∧ s.get Reg.PWR_STATE_PSTATE = 0 →
    answers (.testEnter who) s fun t => t.dev = 5 ∧ t.get Reg.PWR_CMD_STATUS_STATUS = St.ok) ∧
  (∀ (who : Issuer) (s : State), who.role = .platform ∧ s.flag Reg.PWR_CMD_BUSY = false ∧ s.dev = 5 → answers (.testExit who) s fun t =>
    t.dev = 4 ∧ t.get Reg.PWR_CMD_STATUS_STATUS = St.ok) ∧
  (∀ (who : Issuer) (s : State), who.role = .platform ∧ s.flag Reg.PWR_CMD_BUSY = false ∧ standbyAllowed s = true → answers (.standby who) s
    fun t => t.deferred = s.deferred ++ [(s.dueBoundary, .enterP1)] ∧ t.get Reg.PWR_CMD_STATUS_STATUS = St.ok) ∧
  (∀ (who : Issuer) (s : State), who.role = .platform ∧ s.flag Reg.PWR_CMD_BUSY = false ∧ s.get Reg.PWR_STATE_PSTATE = 2 → answers (.wake
    who) s fun t => t.get Reg.PWR_STATE_PSTATE = 3 ∧ t.pwr.nextStep = 1 ∧ t.get Reg.PWR_CMD_STATUS_STATUS = St.ok) ∧
  (∀ (who : Issuer) (s : State), who.role = .platform ∧ s.flag Reg.PWR_CMD_BUSY = false ∧ 1 < s.dev → answers (.powerOff who) s fun t =>
    t.pwr.offAt = some s.dueBoundary ∧ t.get Reg.PWR_CMD_STATUS_STATUS = St.ok) ∧
  (∀ (who : Issuer) (s : State), who.role = .platform ∧ s.flag Reg.PWR_CMD_BUSY = false ∧ 2 ≤ s.dev ∧ s.dev ≤ 6 → answers (.safe who) s fun
    t => t.dev = 7 ∧ t.get Reg.PWR_CMD_STATUS_STATUS = St.ok) ∧
  (∀ (who : Issuer) (s : State), who.role = .platform ∧ s.flag Reg.PWR_CMD_BUSY = false ∧ s.dev = 7 ∧ s.pwr.mainPg = true ∧ s.pwr.thermtrip
    = false → answers (.restart who) s fun t => t.dev = 2 ∧ t.get Reg.PWR_CMD_STATUS_STATUS = St.ok) ∧
  (∀ (cause : Nat) (s : State), 2 ≤ s.dev ∧ s.dev ≤ 6 → answers (.safeEntry cause) s fun t => t.dev = 7) ∧
  (∀ (sensor : Nat) (hot : Int) (s : State), (s.get Reg.PWR_THERM_T_CRIT : Int) ≤ hot → answers (.tCritReached sensor hot) s fun t => t.flag
    Reg.PWR_STATUS_CRIT = true ∧ t.get Reg.PWR_STATE_TEMP_LEVEL = 3) ∧
  (∀ (s : State), answers .capOverDetected s fun t => t.flag Reg.PWR_STATUS_CAP_OVER = true ∧ t.mem = s.mem) ∧
  (∀ (sensor : Nat) (s : State), 2 ≤ s.dev ∧ s.dev ≤ 6 → answers (.thermtrip sensor) s fun t => t.dev = 7 ∧ t.pwr.thermtrip = true) ∧
  (∀ (ap rid dstate : Nat) (s : State), s.flagI Reg.HIF_FN_INFO_EXISTS (fnKey ap rid) = true ∧ s.flagI Reg.HIF_FN_INFO_FLR_BUSY (fnKey ap
    rid) = false ∧ s.getI Reg.HIF_FN_INFO_DSTATE (fnKey ap rid) = 0 ∧ dstate = 3 → answers (.dstateChange ap rid dstate) s fun t => t.getI
    Reg.HIF_FN_INFO_DSTATE (fnKey ap rid) = 3 ∧ t.deferred = s.deferred ++ [(s.dueBoundary, .fnFetch (fnKey ap rid) false)])

/-- R126, R127, R128, R748, R749, R750, R751, R754, R755, R756, R760, R761: A unit command of the platform whose conditions hold moves its
  unit at once or at the boundary and reports ST_OK; the unit's own events move it on. -/
def Obligations.UnitCommandsComplete : Prop :=
  (∀ (who : Issuer) (kind index : Nat) (s : State), unitOpen s who kind index ∧ s.unitState kind index = 0 ∧ (kind = 0 → s.flagI
    Reg.TIL_INFO_DEBUG_HELD index = false) ∧ (kind = 2 → stageMirror s index ≠ none) ∧ (kind = 4 → reserveReady s (index / 32) = true) ∧
    (kind = 5 → holdsManager s index = true → s.flag Reg.HIF_MGR_STANDBY_READY = true) → answers (.drain who) s fun t => t.deferred =
    s.deferred ++ [(s.dueBoundary, .unitDrain kind index (s.flag Reg.SVC_CMD_ARG_DISCARD) (s.flag Reg.SVC_CMD_ARG_NO_SUBST))] ∧ (kind = 4 →
    t.getI Reg.SVC_SPARE_STATE (index / 32) = 2) ∧ t.get Reg.SVC_CMD_STATUS_STATUS = St.ok ∧ t.mem = s.mem) ∧
  (∀ (who : Issuer) (kind index : Nat) (s : State), unitOpen s who kind index ∧ s.unitState kind index = 1 → answers (.drainCancel who) s
    fun t => t.deferred = s.deferred ++ [(s.dueBoundary, .unitActive kind index)] ∧ t.get Reg.SVC_CMD_STATUS_STATUS = St.ok ∧ t.svc = s.svc
    ∧ t.mem = s.mem) ∧
  (∀ (kind index : Nat) (s : State), s.unitState kind index = 1 → answers (.unitDrained kind index) s fun t => t.deferred = s.deferred ++
    [(s.dueBoundary, .unitHeld kind index)] ∧ t.regs = s.regs ∧ t.mem = s.mem) ∧
  (∀ (kind index : Nat) (d : Drain) (s : State), Map.find? s.svc.drain (unitKey kind index) = some d ∧ s.unitState kind index = 1 ∧ d.since
    + s.eff Reg.SVC_CTL_DRAIN_LIMIT ≤ s.stk.boundary → answers (.unitDrainTimeout kind index) s fun t => t.deferred = s.deferred ++
    [(s.dueBoundary, .unitForce kind index)] ∧ t.regs = s.regs ∧ t.mem = s.mem) ∧
  (∀ (who : Issuer) (kind index : Nat) (s : State), unitOpen s who kind index ∧ s.unitState kind index = 2 ∧ Map.find? s.svc.testing
    (unitKey kind index) = none → answers (.test who) s fun t => Map.find? t.svc.testing (unitKey kind index) = some false ∧ t.getI
    Reg.SVC_UNIT_INFO_TEST (unitKey kind index) = 1 ∧ t.get Reg.SVC_CMD_STATUS_STATUS = St.ok ∧ t.mem = s.mem) ∧
  (∀ (who : Issuer) (kind index : Nat) (s : State), unitOpen s who kind index ∧ s.unitState kind index = 2 ∧ Map.find? s.svc.testing
    (unitKey kind index) = none → answers (.readmit who) s fun t => Map.find? t.svc.testing (unitKey kind index) = some true ∧ t.getI
    Reg.SVC_UNIT_INFO_TEST (unitKey kind index) = 1 ∧ t.get Reg.SVC_CMD_STATUS_STATUS = St.ok ∧ t.mem = s.mem) ∧
  (∀ (kind index : Nat) (pass readmit : Bool) (s : State), Map.find? s.svc.testing (unitKey kind index) = some readmit ∧ (pass = true → kind
    = 4 → Map.find? s.svc.replaced (unitKey kind index) = none) → answers (.testDone kind index pass) s fun t => Map.find? t.svc.testing
    (unitKey kind index) = none ∧ t.getI Reg.SVC_UNIT_INFO_TEST (unitKey kind index) = (if pass then 2 else 3) ∧ (pass = true → readmit =
    true → Map.find? t.svc.reloading (unitKey kind index) = some (index + 1)) ∧ t.mem = s.mem) ∧
  (∀ (kind index : Nat) (s : State), (Map.find? s.svc.reloading (unitKey kind index)).isSome = true → answers (.armatureReloadDone kind
    index) s fun t => t.deferred = s.deferred ++ [(s.dueBoundary, .unitJoin kind index)] ∧ t.regs = s.regs ∧ t.mem = s.mem) ∧
  (∀ (kind index b : Nat) (s : State), s.tileBlock index = some b ∧ s.unitState kind index = 3 ∧ kind = 0 → answers (.probationStep kind
    index) s fun t => t.getI Reg.TIL_INFO_SHARE_LOG2 b = s.unitShare 0 index % 16 ∧ t.mem = s.mem) ∧
  (∀ (kind index b : Nat) (s : State), Map.find? s.svc.probation (unitKey kind index) = some b ∧ s.unitState kind index = 3 ∧ b + 256 ≤
    s.stk.boundary → answers (.probationEnd kind index) s fun t => t.unitState kind index = 0 ∧ Map.find? t.svc.probation (unitKey kind
    index) = none ∧ t.mem = s.mem) ∧
  (∀ (who : Issuer) (kind index u : Nat) (s : State), unitOpen s who kind index ∧ kind = 0 ∧ s.unitState 0 index = 2 ∧ s.getI
    Reg.SVC_UNIT_INFO_LOGICAL (unitKey 0 index) ≠ 0xFF ∧ s.get Reg.SVC_CMD_ARG_STANDBY = 0x7F ∧ nearestStandby s index = some u → answers
    (.substitute who) s fun t => Map.find? t.svc.reloading (unitKey 0 u) = some (index + 1) ∧ t.get Reg.SVC_CMD_STATUS_STATUS = St.ok ∧
    t.mem = s.mem) ∧
  (∀ (who : Issuer) (kind index : Nat) (s : State), unitOpen s who kind index ∧ s.unitState kind index = 2 ∧ tallyRefusal who.role 3 s =
    none → answers (.retire who) s fun t => t.unitState kind index = 4 ∧ t.getI Reg.ARM_TALLY_REMAINING 3 = (s.getI Reg.ARM_TALLY_REMAINING
    3 - 1) % 2 ^ 16 ∧ t.get Reg.SVC_CMD_STATUS_STATUS = St.ok ∧ t.mem = s.mem) ∧
  (∀ (kind index code : Nat) (s : State), s.flag Reg.SVC_CTL_AUTO_HOLD = true ∧ kind ≠ 4 ∧ s.unitState kind index ∈ [0, 1] → answers
    (.unitFailure kind index code) s fun t => t.deferred = s.deferred ++ [(s.dueBoundary, .unitForce kind index)] ∧ t.getI
    Reg.SVC_UNIT_INFO_CAUSE (unitKey kind index) = code % 256 ∧ Map.find? t.svc.drain (unitKey kind index) = none ∧ t.mem = s.mem) ∧
  (∀ (kind index code : Nat) (s : State), s.flag Reg.SVC_CTL_AUTO_HOLD = true ∧ kind = 4 ∧ s.unitState kind index = 0 ∧ s.flag
    Reg.SVC_CTL_AUTO_SPARE = true ∧ reserveReady s (index / 32) = true → answers (.unitFailure kind index code) s fun t => Map.find?
    t.svc.spare (index / 32) = some ⟨index, s.dueBoundary⟩ ∧ t.getI Reg.SVC_SPARE_STATE (index / 32) = 2 ∧ t.getI Reg.SVC_UNIT_INFO_CAUSE
    (unitKey kind index) = code % 256 ∧ t.mem = s.mem) ∧
  (∀ (kind index code : Nat) (s : State), s.flag Reg.SVC_CTL_AUTO_HOLD = true ∧ s.unitState kind index = 3 → answers (.unitFailure kind
    index code) s fun t => t.getI Reg.SVC_UNIT_INFO_FAILS (unitKey kind index) = min 255 (s.getI Reg.SVC_UNIT_INFO_FAILS (unitKey kind
    index) + 1) ∧ (s.dueBoundary, .unitForce kind index) ∈ t.deferred ∧ t.get Reg.SVC_STATUS_PROBATION_FAIL = 1 ∧ t.mem = s.mem)

/-- R126, R127, R757, R758, R759, R762, R763, R765, R767: Repair and sparing take their step and their reserve and end as their outcomes
  say; the plinth switches to the slot of the boot descriptor or back; a contained error enters RECOVERY at the boundary and the rebuild
  leaves it. -/
def Obligations.RepairCommandsComplete : Prop :=
  (∀ (who : Issuer) (kind index : Nat) (s : State), unitOpen s who kind index ∧ kind = 4 ∧ s.unitState 4 index = 2 ∧ tallyRefusal who.role 4
    s = none → answers (.repair who) s fun t => t.get Reg.SVC_CMD_BUSY = 1 ∧ t.getI Reg.ARM_PPR_REMAINING (index / 32) = (s.getI
    Reg.ARM_PPR_REMAINING (index / 32) - 1) % 2 ^ 16 ∧ t.mem = s.mem) ∧
  (∀ (index : Nat) (ok : Bool) (p : CmdPend) (s : State), Map.find? s.cmds 18 = some p ∧ p.op = 7 → answers (.repairDone index ok) s fun t
    => t.get Reg.SVC_CMD_BUSY = 0 ∧ Map.find? t.cmds 18 = none ∧ t.get Reg.SVC_CMD_STATUS_STATUS = (if ok then St.ok else St.mediaError) ∧
    (ok = true → t.getI Reg.ARM_PPR_DONE (index / 32) = (s.getI Reg.ARM_PPR_DONE (index / 32) + 1) % 2 ^ 16) ∧ t.mem = s.mem) ∧
  (∀ (who : Issuer) (kind index : Nat) (s : State), unitOpen s who kind index ∧ kind = 4 ∧ s.unitState 4 index ∈ [0, 3] ∧ reserveReady s
    (index / 32) = true → answers (.spare who) s fun t => Map.find? t.svc.spare (index / 32) = some ⟨index, s.dueBoundary⟩ ∧ t.getI
    Reg.SVC_SPARE_STATE (index / 32) = 2 ∧ t.get Reg.SVC_CMD_STATUS_STATUS = St.ok ∧ t.mem = s.mem) ∧
  (∀ (stack : Nat) (j : SpareJob) (s : State), Map.find? s.svc.spare stack = some j → answers (.spareSwitch stack) s fun t => Map.find?
    t.svc.spare stack = none ∧ t.getI Reg.SVC_SPARE_STATE stack = 3 ∧ Map.find? t.svc.replaced (unitKey 4 j.pc) = some (unitKey 4 (stack *
    32 + s.getI Reg.SVC_SPARE_SPARE stack)) ∧ t.unitState 4 j.pc = 2 ∧ t.mem = s.mem) ∧
  (∀ (who : Issuer) (slot : Nat) (m : Image) (s : State), who.role = .platform ∧ s.flag Reg.SVC_CMD_BUSY = false ∧ s.svc.plinth = none ∧
    s.get Reg.ARM_BOOTDESC_PLINTH_SLOT = slot ∧ slot ≠ s.svc.plinthSlot ∧ Map.find? s.arm.plinthSlots slot = some m ∧ imageCode26 s 2
    16777216 m = 0 → answers (.plinthSwitch who) s fun t => t.svc.plinth = some ⟨slot, s.svc.plinthSlot⟩ ∧ t.get Reg.SVC_PLINTH_SWITCHING =
    1 ∧ t.get Reg.SVC_CMD_STATUS_STATUS = St.ok ∧ t.mem = s.mem) ∧
  (∀ (p : PlinthSwitch) (s : State), s.svc.plinth = some p → answers .plinthReady s fun t => t.svc.plinth = none ∧ t.svc.plinthSlot =
    p.target ∧ t.get Reg.SVC_PLINTH_SWITCHING = 0 ∧ t.get Reg.SVC_PLINTH_SLOT = p.target % 2 ∧ t.get Reg.SVC_PLINTH_RESULT = 1 ∧ t.mem =
    s.mem) ∧
  (∀ (p : PlinthSwitch) (s : State), s.svc.plinth = some p → answers .plinthSwitchTimeout s fun t => t.svc.plinth = none ∧ t.svc.plinthSlot
    = p.was ∧ t.get Reg.ARM_BOOTDESC_PLINTH_SLOT = p.was % 2 ∧ t.get Reg.SVC_PLINTH_RESULT = 3 ∧ t.mem = s.mem) ∧
  (∀ (s : State), answers .plinthLockstepRestart s fun t => t.get Reg.SVC_PLINTH_LOCKSTEP = min 255 (s.get Reg.SVC_PLINTH_LOCKSTEP + 1) ∧
    t.dev = s.dev ∧ t.mem = s.mem) ∧
  (∀ (pc n w : Nat) (s : State), Map.find? s.svc.ce pc = some (n, w) ∧ s.stk.boundary < w + 3906250 → answers (.correctedError pc) s fun t
    => Map.find? t.svc.ce pc = some (n + 1, w) ∧ t.mem = s.mem) ∧
  (∀ (pc : Nat) (s : State), Map.find? s.svc.ce pc = none → answers (.correctedError pc) s fun t => Map.find? t.svc.ce pc = some (1,
    s.stk.boundary) ∧ t.mem = s.mem) ∧
  (∀ (structure_ : Nat) (bank : List Nat) (s : State), s.dev ∈ [4, 5] ∧ (s.svc.recoveryStrokes.filter fun b => decide (s.stk.boundary < b +
    3906250)).length < max 1 (s.get Reg.SVC_CTL_RECOVERY_MAX) → answers (.recoveryEntry structure_ bank) s fun t => t.deferred = s.deferred
    ++ [(s.dueBoundary, .enterRecovery structure_ bank)] ∧ t.dev = s.dev ∧ t.mem = s.mem) ∧
  (∀ (structure_ : Nat) (bank : List Nat) (s : State), s.dev ∈ [4, 5] ∧ max 1 (s.get Reg.SVC_CTL_RECOVERY_MAX) ≤
    (s.svc.recoveryStrokes.filter fun b => decide (s.stk.boundary < b + 3906250)).length → answers (.recoveryEntry structure_ bank) s fun t
    => t.dev = 7) ∧
  (∀ (rebuilt : Bool) (s : State), s.dev = 6 ∧ rebuilt = true ∧ s.svc.recoveryAt + s.eff Reg.SVC_LIMITS_RECOVERY_MIN ≤ s.stk.boundary ∧
    s.flag Reg.SVC_CTL_RECOVERY_HOLD = false → answers (.recoveryExit rebuilt) s fun t => t.dev = 4 ∧ t.svc.structures = [] ∧ t.get
    Reg.SVC_RECOVERY_STROKES = (s.stk.boundary - s.svc.recoveryAt) % 2 ^ 32) ∧
  (∀ (rebuilt : Bool) (s : State), s.dev = 6 ∧ rebuilt = false → answers (.recoveryExit rebuilt) s fun t => t.dev = 7)

/-- R20, R21, R23, R165, R655, R706, R725, R729, R790: An access that meets no register is dropped and logged, a read answering all ones; a
  write that reaches a register sets its field; a SAT bit written with 1 clears its counter; a low half latches its high half; a field that
  reads clear is cleared; and a register access over the fabric is executed once. -/
def Obligations.RegisterCommandsComplete : Prop :=
  (∀ (a : Access0) (write : Bool) (s : State), s.accessOk a = false ∧ write = false ∧ a.who.origin ≠ .mctp → answers (.invalidAccess a
    write) s fun t => t.out = s.out ++ [.hostReply a.who.ap a.who.id 0 (2 ^ 64 - 1)] ∧ (t.pat.ring.head?.map (·.code)) = some 0 ∧ t.mem =
    s.mem) ∧
  (∀ (a : Access0) (write : Bool) (s : State), s.accessOk a = false ∧ write = true → answers (.invalidAccess a write) s fun t => t.out =
    s.out ∧ (t.pat.ring.head?.map (·.code)) = some 0 ∧ t.jnl.log = s.jnl.log ∧ t.mem = s.mem) ∧
  (∀ (who : Issuer) (offset value i : Nat) (d : RegDef) (f : Field) (s : State), writeReaches s who offset value d i ∧ writeJournaled d =
    false ∧ writeShows d.off = false ∧ d.deferred = false ∧ d.fields = [f] ∧ f.access = .rw ∧ fieldIgnores s f i = false → answers
    (.registerWrite who offset value) s fun t => t.getI f i = bits value (f.lo + f.width - 1) f.lo ∧ t.mem = s.mem ∧ t.out = s.out) ∧
  (∀ (who : Issuer) (offset i : Nat) (d : RegDef) (c f : Field) (s : State), writeReaches s who offset (2 ^ 32) d i ∧ writeShows d.off =
    false ∧ d.fields = [f, c] ∧ c.lo = 0 ∧ c.width = 32 ∧ c.access = .ro ∧ f.lo = 32 ∧ f.width = 1 ∧ f.access = .w1c ∧ f.off = c.off ∧
    s.getI f i ≤ 1 → answers (.satClear who offset) s fun t => t.getI c i = 0 ∧ t.getI f i = 0 ∧ t.mem = s.mem) ∧
  (∀ (who : Issuer) (offset i : Nat) (d : RegDef) (f : Field) (l : List Field) (s : State), readOpen s offset ∧ lowHalves.contains offset =
    true ∧ who.origin ≠ .mctp ∧ findReg s who offset = some (d, i) ∧ d.off = offset ∧ d.fields = f :: l → answers (.counterLowRead who
    offset) s fun t => t.out = s.out ++ [.hostReply who.ap who.id 0 (s.getI f i % 2 ^ 64)] ∧ Map.find? t.jnl.counterLatch (offset * 2 ^ 20 +
    accessor who) = some (s.getI f i / 2 ^ 64) ∧ t.regs = s.regs ∧ t.mem = s.mem) ∧
  (∀ (who : Issuer) (offset i : Nat) (d : RegDef) (f : Field) (s : State), readOpen s offset ∧ offset ≠ 0x200070 ∧ offset ≠ 0xB00090 ∧
    (offset < 0x100200 ∨ 0x100300 ≤ offset) ∧ who.origin ≠ .mctp ∧ findReg s who offset = some (d, i) ∧ lowHalves.contains d.off = false ∧
    lowHalves.contains (d.off - 8) = false ∧ (d.fields.filter fun g => g.access == .rc) = [f] → answers (.readClears who offset) s fun t =>
    t.getI f i = 0 ∧ t.out = s.out ++ [.hostReply who.ap who.id 0 (if readsZero s d i then 0 else regValue s d i)] ∧ t.mem = s.mem) ∧
  (∀ (p : TlPkt) (s : State), arrives s p ∧ s.msgPlace p.src p.msg = .open_ ∧ s.flag Reg.FAB_CFG_RMGMT_ALLOW = true ∧ s.get
    Reg.FAB_RMGMT_FIRST_DEV ≤ p.src ∧ p.src ≤ s.get Reg.FAB_RMGMT_LAST_DEV ∧ byteField p.ext 8 13 < 2 ^ 25 ∧ byteField p.ext 8 13 % 8 = 0 ∧
    (findReg s (fabricIssuer p.src) (byteField p.ext 8 13)).isSome = true → answers (.regAccess p) s fun t => (∃ y ∈ t.tlt.serves, y.peer =
    p.src ∧ y.msg = p.msg ∧ y.result.map (·.take 8) = some (toBytes 1 St.ok ++ List.replicate 7 0)) ∧ t.msgPlace p.src p.msg ≠ .open_)

/-- R16, R34, R45, R52, R71, R781, R792, R793: For every state and all operands, whatever a command answers: every part of the state and
  every register field but those listed for the command is as before. Device memory is listed only for the commands that may store; where it
  is not, every byte is unchanged. The queue of waiting commands is listed for none. Only keepsParts, for commands that set register fields
  chosen by their operands or by what waits, leaves the register fields open. Not among them: AUX_POWER_LOST, MAIN_PG_DEASSERTED, RESTART,
  which set every block back. -/
def Obligations.ClockAndPowerFrames : Prop :=
  (∀ (env : Env), keeps (.strokeBoundary env) [.events, .free, .hif, .jnl, .nch, .nvs, .out, .pat, .pwr, .rng, .sch, .stk, .til]
    (Shows.journal ++ Shows.patinaLog ++ Shows.saturation ++ Shows.completions ++ Shows.nvsErrors ++ Shows.availability ++
    [Reg.ARM_JOB_STROKES, Reg.HIF_TAG_STATUS_IN_USE, Reg.HIF_TAG_STATUS_QUARANTINED, Reg.NVS_CMD_CNT_COUNT, Reg.NVS_INFLIGHT_PEAK,
    Reg.PWR_POWER_AVG_W, Reg.PWR_POWER_PEAK_W, Reg.PWR_STATE_LEVEL, Reg.PWR_STATE_POWER_LEVEL, Reg.PWR_STATE_TEMP_LEVEL,
    Reg.PWR_STATUS_THROTTLE, Reg.PWR_TEMP_DIODE0, Reg.PWR_TEMP_DIODE1, Reg.PWR_TEMP_HOTTEST, Reg.PWR_TEMP_HOT_SENSOR, Reg.PWR_TEMP_PEAK,
    Reg.PWR_THROTTLE_CNT_COUNT, Reg.PWR_THROTTLE_CNT_SAT, Reg.RGL_ADMIT_NVS_FETCH, Reg.RGL_ADMIT_POLL_H0, Reg.RGL_ADMIT_POLL_H1,
    Reg.RGL_ADMIT_RES_INTAKE, Reg.RNG_RCNT_COUNT, Reg.RNG_RCNT_SAT, Reg.RNG_STATUS_EVQ_LOST, Reg.SCH_GCL_STATUS_CYCLE,
    Reg.SCH_GCL_STATUS_ENTRY, Reg.SCH_GCL_STATUS_GATES, Reg.SCH_GCL_STATUS_OPER_VALID, Reg.SCH_GCL_STATUS_REMAIN, Reg.SCH_NODE_CFG_SHAPE_EN,
    Reg.SCH_NODE_STATE_BACKLOG_KIB, Reg.SCH_NODE_STATE_CREDIT, Reg.SCH_NODE_STATE_GATE_OPEN, Reg.SCH_NODE_STATE_WAITING,
    Reg.STK_COUNT_COUNT, Reg.STK_COUNT_LEAD_LEAD, Reg.STK_LATE_COUNT, Reg.STK_LATE_SAT, Reg.STK_STATUS_PHASE, Reg.STK_STATUS_STEP_PENDING,
    Reg.STK_STATUS_TXTS_OVF, Reg.STK_STEP_STATUS_PENDING, Reg.STK_STEP_STATUS_RESULT, Reg.STK_STEP_STATUS_SLEW_LEFT,
    Reg.STK_TXTS_DROP_COUNT, Reg.STK_TXTS_DROP_SAT, Reg.SVC_RECOVERY_STROKES, Reg.SVC_SPARE_COPIED_MIB, Reg.TIL_WAITGRP_COUNT,
    Reg.TIL_WAITGRP_REPORTED])) ∧
  (keepsParts .deferredChangeApply [.acc, .arm, .cmds, .deferred, .dma, .events, .fab, .free, .hif, .jnl, .mem, .nch, .nvs, .out, .prs,
    .rgl, .rng, .sch, .stk, .svc, .tbl, .til, .tlt]) ∧
  (∀ (hart : Nat) (missed : Bool), keeps (.threadOverrun hart missed) [.events] (Shows.saturation ++ [Reg.STK_OVR_COUNT_COUNT,
    Reg.STK_OVR_COUNT_SAT, Reg.STK_OVR_LAST_INDEX, Reg.STK_OVR_LAST_KIND, Reg.STK_OVR_LAST_STROKE, Reg.STK_STATUS_OVR,
    Reg.TIL_OVR_CNT_COUNT, Reg.TIL_OVR_CNT_SAT])) ∧
  (∀ (kind : Nat) (index : Nat), keeps (.hwUnitOverrun kind index) [.events, .pat, .rgl, .sch] (Shows.patinaLog ++ Shows.saturation ++
    [Reg.STK_OVR_COUNT_COUNT, Reg.STK_OVR_COUNT_SAT, Reg.STK_OVR_LAST_INDEX, Reg.STK_OVR_LAST_KIND, Reg.STK_OVR_LAST_STROKE,
    Reg.STK_STATUS_OVR])) ∧
  (keeps .stepLatch [.stk] ([Reg.STK_STATUS_PHASE])) ∧
  (keeps .slewDone [.stk] ([Reg.STK_PHC_RATE_RATE, Reg.STK_STEP_STATUS_SLEW_LEFT])) ∧
  (∀ (who : Issuer) (ns : Nat), keeps (.phcStepWrite who ns) [.events, .jnl, .pat, .stk] (Shows.journal ++ Shows.patinaLog ++
    [Reg.STK_STATUS_STEP_PENDING, Reg.STK_STEP_STATUS_PENDING, Reg.STK_STEP_STATUS_RESULT])) ∧
  (∀ (who : Issuer) (rate : Nat), keeps (.phcRateWrite who rate) [.events, .jnl, .pat, .stk] (Shows.journal ++ Shows.patinaLog ++
    [Reg.STK_PHC_RATE_RATE, Reg.STK_STATUS_RATE_CLAMP])) ∧
  (∀ (who : Issuer) (atStroke : Nat), keeps (.realignArm who atStroke) [.events, .jnl, .pat, .stk] (Shows.journal ++ Shows.patinaLog ++
    [Reg.STK_REALIGN_ARM, Reg.STK_REALIGN_AT_STROKE, Reg.STK_STEP_STATUS_RESULT])) ∧
  (∀ (who : Issuer) (atStroke : Nat), keeps (.realignDisarm who atStroke) [.events, .jnl, .pat, .stk] (Shows.journal ++ Shows.patinaLog ++
    [Reg.STK_REALIGN_ARM, Reg.STK_REALIGN_AT_STROKE, Reg.STK_STATUS_STEP_PENDING, Reg.STK_STEP_STATUS_PENDING, Reg.STK_STEP_STATUS_RESULT]))
    ∧
  (keeps .realignTarget [.events, .jnl, .stk] (Shows.journal ++ [Reg.STK_COUNT_COUNT, Reg.STK_COUNT_LEAD_LEAD, Reg.STK_REALIGN_ARM,
    Reg.STK_STATUS_STEP_PENDING, Reg.STK_STEP_STATUS_PENDING, Reg.STK_STEP_STATUS_RESULT, Reg.STK_STEP_STATUS_SLEW_LEFT])) ∧
  (∀ (who : Issuer) (offset : Nat), keeps (.alignEstimateWrite who offset) [.events, .jnl, .pat, .stk] (Shows.journal ++ Shows.patinaLog ++
    [Reg.STK_ALIGN_EST_OFFSET, Reg.STK_STATUS_ALIGN])) ∧
  (keeps .alignHoldover [.events] ([Reg.STK_STATUS_ALIGN])) ∧
  (∀ (who : Issuer) (ns : Nat) (frac : Nat), keeps (.phcSecRead who ns frac) [.events, .out, .pat] (Shows.patinaLog ++ [Reg.STK_PHC_NS_FRAC,
    Reg.STK_PHC_NS_NS, Reg.STK_PHC_SEC_SEC])) ∧
  (∀ (who : Issuer) (mac : Nat), keeps (.txtsInfoRead who mac) [.events, .out, .pat, .stk] (Shows.patinaLog ++ [Reg.STK_TXTS_TIME_TIME])) ∧
  (∀ (ns : Nat) (sub : Nat), keeps (.ppsInEdge ns sub) [.events, .stk] ([Reg.STK_PPS_IN_INFO_MISSED, Reg.STK_PPS_IN_INFO_NEW,
    Reg.STK_PPS_IN_INFO_SUBNS, Reg.STK_PPS_IN_TS_TIME])) ∧
  (∀ (who : Issuer), keeps (.ppsInTsRead who) [.events, .out, .pat, .stk] (Shows.patinaLog ++ [Reg.STK_PPS_IN_INFO_NEW])) ∧
  (∀ (assert : Bool), keeps (.ppsOutPulse assert) [.stk] ([])) ∧
  (keeps .clk10mLock [.stk] ([Reg.STK_STATUS_REF_LOCK])) ∧
  (keeps .clk10mLockLoss [.events, .stk] ([Reg.STK_STATUS_REF_LOCK])) ∧
  (∀ (msg : Nat) (ms : Nat), keeps (.todMessage msg ms) [.events, .stk] ([Reg.STK_STATUS_STEP_PENDING, Reg.STK_STATUS_TOD_ERR,
    Reg.STK_STEP_STATUS_PENDING, Reg.STK_STEP_STATUS_RESULT, Reg.STK_TOD_INFO_LEAP_NEG, Reg.STK_TOD_INFO_LEAP_PENDING,
    Reg.STK_TOD_INFO_UTC_OFFSET, Reg.STK_TOD_INFO_VALID, Reg.STK_TOD_SEC_SEC])) ∧
  (keeps .auxPowerPresent [.pwr] ([Reg.IDN_STATE_STATE])) ∧
  (∀ (autoOn : Bool) (mgmtAddr : Nat) (rgmiiEn : Bool) (flashMode : Bool) (test : Bool), keeps (.strapSample autoOn mgmtAddr rgmiiEn
    flashMode test) [.pwr] ([])) ∧
  (∀ (eid : Nat) (hot : Int), keeps (.powerOn eid hot) [.out, .pwr] ([])) ∧
  (keeps .mainPgAsserted [.arm, .events, .free, .jnl, .prs, .pwr, .rgl, .stk, .tlt] (Shows.journal ++ [Reg.ARM_NONCE_VALUE,
    Reg.IDN_STATE_STATE, Reg.JNL_EPOCH_EPOCH, Reg.PRS_VER_VERSIONED, Reg.RGL_CTL_FROZEN, Reg.TLT_CFG_EPOCH])) ∧
  (keeps .mainPgTimeout [.events, .pat, .pwr] (Shows.patinaLog)) ∧
  (keeps .powerOffMainEnDrop [.pwr] ([])) ∧
  (keeps .powerStepB2 [.hif, .pwr] ([Reg.HIF_CTL_MODE])) ∧
  (∀ (regulated : Bool) (failed : List Nat) (repairs : Nat), keeps (.powerStep regulated failed repairs) [.acc, .cmds, .deferred, .dma,
    .events, .fab, .free, .hif, .jnl, .mem, .nch, .nvs, .out, .pat, .prs, .pwr, .rgl, .rng, .sch, .stk, .svc, .til, .tlt] (Shows.journal ++
    Shows.patinaLog ++ Shows.saturation ++ Shows.completions ++ Shows.nvsErrors ++ Shows.dmaErrors ++ Shows.dmaChannel ++ Shows.accErrors ++
    Shows.frameLeaves ++ Shows.transit ++ Shows.availability ++ Shows.unitShows ++ Shows.linkShows ++ Shows.fnShows ++ Shows.turelmSends ++
    Shows.nakLast ++ Shows.lateFails ++ Shows.nvsCommand ++ Shows.fabCommand ++ [Reg.ACC_SLICE_QUEUED, Reg.ARM_PPR_REMAINING,
    Reg.ARM_TALLY_REMAINING, Reg.DMA_BEATS_COUNT, Reg.FAB_APT_ERR_COUNT, Reg.FAB_APT_ERR_SAT, Reg.FAB_GRANT_DROP_COUNT,
    Reg.FAB_GRANT_DROP_SAT, Reg.FAB_PATH_INFO_MISSES, Reg.FAB_PATH_INFO_RESPRAYS, Reg.FAB_PATH_INFO_STATE, Reg.FAB_PATH_INFO_UDP_SPORT,
    Reg.FAB_PEER_INFO_HOPS, Reg.FAB_PEER_INFO_PATHS, Reg.FAB_PEER_INFO_PATHS_UP, Reg.FAB_POOL_OPS_COUNT, Reg.FAB_STATUS_GRANT_DROP,
    Reg.FAB_STATUS_PATH_DOWN, Reg.FAB_STATUS_PEER_DOWN, Reg.HIF_ATC_STATUS_VALID, Reg.HIF_FN_INFO_DSTATE, Reg.HIF_FN_INFO_FLR_BUSY,
    Reg.HIF_FN_INFO_NICHES, Reg.HIF_FN_INFO_TDI_STATE, Reg.HIF_LINK_IDE_LINK, Reg.HIF_MGR_ACTIVE_AP, Reg.HIF_MGR_ACTIVE_PF,
    Reg.HIF_MGR_STANDBY_AP, Reg.HIF_MGR_STANDBY_PF, Reg.HIF_MGR_STANDBY_READY, Reg.HIF_MGR_VACANT, Reg.HIF_RESET_LAST_KIND,
    Reg.HIF_RESET_LAST_RID, Reg.HIF_RESET_LAST_STROKE, Reg.HIF_STATUS_FAILOVER, Reg.HIF_TAG_STATUS_IN_USE, Reg.HIF_TAG_STATUS_QUARANTINED,
    Reg.JNL_STATUS_REGION_READY, Reg.NCH_INFO_AP, Reg.NCH_INFO_BOUND, Reg.NCH_INFO_RID, Reg.NCH_INFO_STATE, Reg.NCH_PG_RX_DROP_COUNT,
    Reg.NCH_PG_RX_DROP_SAT, Reg.NCH_PG_STATUS_STATE, Reg.NVS_CMD_CNT_COUNT, Reg.NVS_INFLIGHT_PEAK, Reg.PRS_CL_DROP_COUNT,
    Reg.PRS_CL_DROP_SAT, Reg.PRS_CL_INFO_QUEUE, Reg.PRS_RO_LOST_COUNT, Reg.PRS_RO_LOST_SAT, Reg.PRS_RO_STATUS_IN_FLIGHT,
    Reg.PRS_RO_STATUS_PEAK, Reg.PRS_SPR_ELIGIBLE, Reg.PRS_STATUS_CL_DROP, Reg.PWR_SEQ_READY, Reg.PWR_SEQ_STEP, Reg.PWR_SEQ_WAITING,
    Reg.PWR_STATE_PSTATE, Reg.PWR_STATUS_PSTATE, Reg.PWR_STATUS_READY, Reg.RGL_CTL_FROZEN, Reg.RGL_POWER_GATED, Reg.RNG_INFO_STATE,
    Reg.RNG_RCNT_COUNT, Reg.RNG_RCNT_SAT, Reg.SVC_UNIT_INFO_CAUSE, Reg.SVC_UNIT_INFO_TEST, Reg.TIL_CH_INFO_LOST, Reg.TIL_THR_STATE_HI_STATE,
    Reg.TIL_THR_STATE_LO_STATE, Reg.TLT_CTX_EVICTED, Reg.TLT_CTX_ONDIE, Reg.TLT_CTX_RECALL_HELD, Reg.TLT_DUP_DROP_COUNT,
    Reg.TLT_DUP_DROP_SAT, Reg.TLT_NAK_TX_COUNT, Reg.TLT_NAK_TX_SAT, Reg.TLT_PEER_INFO_OUTSTANDING, Reg.TLT_PEER_INFO_PATHS,
    Reg.TLT_RETX_COUNT, Reg.TLT_RETX_SAT, Reg.TLT_STATUS_TRK_FULL, Reg.TLT_TRK_RECV_USED, Reg.TLT_TRK_SEND_USED, Reg.TLT_WIN_DROP_COUNT,
    Reg.TLT_WIN_DROP_SAT])) ∧
  (keeps .powerStepWaitExceeded [.arm, .events, .hif, .jnl, .nvs, .pat, .prs, .rgl, .stk, .tlt] (Shows.journal ++ Shows.patinaLog ++
    Shows.fnShows ++ Shows.jobShows ++ [Reg.ARM_JOB_PHASE, Reg.ARM_JOB_STROKES, Reg.HIF_FN_INFO_DSTATE, Reg.HIF_FN_INFO_FLR_BUSY,
    Reg.HIF_FN_INFO_NICHES, Reg.HIF_FN_INFO_TDI_STATE, Reg.HIF_MGR_ACTIVE_AP, Reg.HIF_MGR_ACTIVE_PF, Reg.HIF_MGR_VACANT,
    Reg.IDN_STATE_STATE, Reg.NVS_CTRL_INFO_STATE, Reg.PRS_VER_VERSIONED, Reg.RGL_CTL_FROZEN, Reg.STK_REALIGN_ARM,
    Reg.STK_STATUS_STEP_PENDING, Reg.STK_STEP_STATUS_PENDING, Reg.STK_STEP_STATUS_RESULT])) ∧
  (∀ (who : Issuer), keeps (.enterService who) [.cmds, .events, .jnl, .prs, .rgl, .tbl, .tlt] (Shows.journal ++ Shows.pwrCommand ++
    [Reg.IDN_STATE_STATE, Reg.NCH_QUOTA_USED, Reg.PRS_STATUS_STAGE_DISCARD, Reg.PRS_VER_STAGED, Reg.PRS_VER_VERSIONED, Reg.PWR_SEQ_READY,
    Reg.PWR_STATUS_READY, Reg.RGL_CTL_FROZEN, Reg.TBL_INFO_ENTRIES, Reg.TBL_INFO_LENGTHS, Reg.TBL_INFO_STASH])) ∧
  (∀ (who : Issuer), keeps (.testEnter who) [.arm, .cmds, .deferred, .events, .jnl, .prs, .rgl, .tlt] (Shows.journal ++ Shows.jobShows ++
    Shows.pwrCommand ++ [Reg.ARM_JOB_PHASE, Reg.ARM_JOB_STROKES, Reg.IDN_STATE_STATE, Reg.PRS_VER_VERSIONED, Reg.RGL_CTL_FROZEN])) ∧
  (∀ (who : Issuer), keeps (.testExit who) [.arm, .cmds, .deferred, .events, .jnl, .prs, .rgl, .tbl, .tlt] (Shows.journal ++ Shows.jobShows
    ++ Shows.pwrCommand ++ [Reg.ARM_JOB_PHASE, Reg.ARM_JOB_STROKES, Reg.IDN_STATE_STATE, Reg.NCH_QUOTA_USED, Reg.PRS_STATUS_STAGE_DISCARD,
    Reg.PRS_VER_STAGED, Reg.PRS_VER_VERSIONED, Reg.RGL_CTL_FROZEN, Reg.TBL_INFO_ENTRIES, Reg.TBL_INFO_LENGTHS, Reg.TBL_INFO_STASH])) ∧
  (∀ (who : Issuer), keeps (.standby who) [.cmds, .deferred, .events, .jnl] (Shows.journal ++ Shows.pwrCommand ++ [Reg.PWR_STATE_PSTATE])) ∧
  (∀ (who : Issuer), keeps (.wake who) [.cmds, .deferred, .events, .jnl, .pwr] (Shows.journal ++ Shows.pwrCommand ++
    [Reg.PWR_STATE_PSTATE])) ∧
  (∀ (who : Issuer), keeps (.powerOff who) [.cmds, .events, .jnl, .pwr] (Shows.journal ++ Shows.pwrCommand)) ∧
  (∀ (who : Issuer), keeps (.safe who) [.arm, .cmds, .events, .hif, .jnl, .nvs, .pat, .prs, .rgl, .stk, .tlt] (Shows.journal ++
    Shows.patinaLog ++ Shows.fnShows ++ Shows.jobShows ++ Shows.pwrCommand ++ [Reg.ARM_JOB_PHASE, Reg.ARM_JOB_STROKES,
    Reg.HIF_FN_INFO_DSTATE, Reg.HIF_FN_INFO_FLR_BUSY, Reg.HIF_FN_INFO_NICHES, Reg.HIF_FN_INFO_TDI_STATE, Reg.HIF_MGR_ACTIVE_AP,
    Reg.HIF_MGR_ACTIVE_PF, Reg.HIF_MGR_VACANT, Reg.IDN_STATE_STATE, Reg.NVS_CTRL_INFO_STATE, Reg.PRS_VER_VERSIONED, Reg.RGL_CTL_FROZEN,
    Reg.STK_REALIGN_ARM, Reg.STK_STATUS_STEP_PENDING, Reg.STK_STEP_STATUS_PENDING, Reg.STK_STEP_STATUS_RESULT])) ∧
  (∀ (cause : Nat), keeps (.safeEntry cause) [.arm, .events, .hif, .jnl, .nvs, .pat, .prs, .rgl, .stk, .tlt] (Shows.journal ++
    Shows.patinaLog ++ Shows.fnShows ++ Shows.jobShows ++ [Reg.ARM_JOB_PHASE, Reg.ARM_JOB_STROKES, Reg.HIF_FN_INFO_DSTATE,
    Reg.HIF_FN_INFO_FLR_BUSY, Reg.HIF_FN_INFO_NICHES, Reg.HIF_FN_INFO_TDI_STATE, Reg.HIF_MGR_ACTIVE_AP, Reg.HIF_MGR_ACTIVE_PF,
    Reg.HIF_MGR_VACANT, Reg.IDN_STATE_STATE, Reg.NVS_CTRL_INFO_STATE, Reg.PRS_VER_VERSIONED, Reg.RGL_CTL_FROZEN, Reg.STK_REALIGN_ARM,
    Reg.STK_STATUS_STEP_PENDING, Reg.STK_STEP_STATUS_PENDING, Reg.STK_STEP_STATUS_RESULT])) ∧
  (∀ (sensor : Nat) (hot : Int), keeps (.tCritReached sensor hot) [.events, .pat] (Shows.patinaLog ++ Shows.saturation ++
    [Reg.PWR_STATE_LEVEL, Reg.PWR_STATE_POWER_LEVEL, Reg.PWR_STATE_TEMP_LEVEL, Reg.PWR_STATUS_CRIT, Reg.PWR_STATUS_THROTTLE,
    Reg.PWR_THROTTLE_CNT_COUNT, Reg.PWR_THROTTLE_CNT_SAT])) ∧
  (keeps .capOverDetected [] ([Reg.PWR_STATUS_CAP_OVER])) ∧
  (∀ (sensor : Nat), keeps (.thermtrip sensor) [.arm, .events, .hif, .jnl, .nvs, .pat, .prs, .pwr, .rgl, .stk, .tlt] (Shows.journal ++
    Shows.patinaLog ++ Shows.fnShows ++ Shows.jobShows ++ [Reg.ARM_JOB_PHASE, Reg.ARM_JOB_STROKES, Reg.HIF_FN_INFO_DSTATE,
    Reg.HIF_FN_INFO_FLR_BUSY, Reg.HIF_FN_INFO_NICHES, Reg.HIF_FN_INFO_TDI_STATE, Reg.HIF_MGR_ACTIVE_AP, Reg.HIF_MGR_ACTIVE_PF,
    Reg.HIF_MGR_VACANT, Reg.IDN_STATE_STATE, Reg.NVS_CTRL_INFO_STATE, Reg.PRS_VER_VERSIONED, Reg.RGL_CTL_FROZEN, Reg.STK_REALIGN_ARM,
    Reg.STK_STATUS_STEP_PENDING, Reg.STK_STEP_STATUS_PENDING, Reg.STK_STEP_STATUS_RESULT])) ∧
  (∀ (ap : Nat) (rid : Nat) (dstate : Nat), keeps (.dstateChange ap rid dstate) [.deferred, .events, .pwr] (Shows.availability ++
    [Reg.HIF_FN_INFO_DSTATE, Reg.HIF_MGR_STANDBY_READY, Reg.PWR_STATE_PSTATE]))

/-- R99, R121, R127, R129, R677, R709, R721, R745, R761, R20: For every state and all operands, whatever a command answers: every part of
  the state and every register field but those listed for the command is as before. Device memory is listed only for the commands that may
  store; where it is not, every byte is unchanged. The queue of waiting commands is listed for none. Only keepsParts, for commands that set
  register fields chosen by their operands or by what waits, leaves the register fields open. -/
def Obligations.ArmatureAndServiceFrames : Prop :=
  (∀ (who : Issuer) (image : Image) (token : Option Token) (flashOk : Bool), keeps (.stage who image token flashOk) [.arm, .events, .jnl]
    (Shows.journal ++ [Reg.ARM_CMD_STATUS_OP, Reg.ARM_CMD_STATUS_RESULT, Reg.ARM_CMD_STATUS_STROKE])) ∧
  (∀ (who : Issuer), keeps (.maquette who) [.arm, .events, .jnl] (Shows.journal ++ [Reg.ARM_CMD_STATUS_OP, Reg.ARM_CMD_STATUS_RESULT,
    Reg.ARM_CMD_STATUS_STROKE])) ∧
  (∀ (findings : Nat) (warnings : Nat) (report : List Byte), keeps (.maquetteReportDone findings warnings report) [.arm, .events, .out]
    ([Reg.ARM_MAQ_STATUS_DONE, Reg.ARM_MAQ_STATUS_FINDINGS, Reg.ARM_MAQ_STATUS_RESULT, Reg.ARM_MAQ_STATUS_WARNINGS])) ∧
  (∀ (who : Issuer) (flashOk : Bool), keeps (.persist who flashOk) [.arm, .events, .jnl] (Shows.journal ++ [Reg.ARM_BOOTDESC_ARM_SLOT,
    Reg.ARM_BOOTDESC_PARTIALS, Reg.ARM_BOOTDESC_PLINTH_SLOT, Reg.ARM_BOOTDESC_SEQ, Reg.ARM_CMD_STATUS_OP, Reg.ARM_CMD_STATUS_RESULT,
    Reg.ARM_CMD_STATUS_STROKE])) ∧
  (∀ (who : Issuer) (flashOk : Bool), keeps (.flashWrite who flashOk) [.arm, .events, .jnl] (Shows.journal ++ [Reg.ARM_BOOTDESC_ARM_SLOT,
    Reg.ARM_BOOTDESC_PARTIALS, Reg.ARM_BOOTDESC_PLINTH_SLOT, Reg.ARM_BOOTDESC_SEQ, Reg.ARM_CMD_STATUS_OP, Reg.ARM_CMD_STATUS_RESULT,
    Reg.ARM_CMD_STATUS_STROKE])) ∧
  (∀ (who : Issuer) (arg : Nat) (flashOk : Bool), keeps (.activate who arg flashOk) [.arm, .events, .jnl] (Shows.journal ++
    [Reg.ARM_BOOTDESC_ARM_SLOT, Reg.ARM_BOOTDESC_PARTIALS, Reg.ARM_BOOTDESC_PLINTH_SLOT, Reg.ARM_BOOTDESC_SEQ, Reg.ARM_CMD_ARG,
    Reg.ARM_CMD_STATUS_OP, Reg.ARM_CMD_STATUS_RESULT, Reg.ARM_CMD_STATUS_STROKE])) ∧
  (∀ (who : Issuer) (offset : Nat) (op : Nat), keeps (.commandUndefinedOp who offset op) [.cmds, .events, .jnl, .pat] (Shows.journal ++
    Shows.patinaLog ++ Shows.nvsCommand ++ Shows.fabCommand ++ Shows.nchCommand ++ Shows.rngCommand ++ Shows.prsCommand ++ Shows.tblCommand
    ++ Shows.schCommand ++ Shows.pwrCommand ++ Shows.svcCommand ++ Shows.jnlCommand ++ [Reg.ARM_CMD_STATUS_OP, Reg.ARM_CMD_STATUS_RESULT,
    Reg.ARM_CMD_STATUS_STROKE])) ∧
  (keepsParts .armatureBootLoad [.acc, .arm, .cmds, .deferred, .dma, .events, .fab, .free, .hif, .jnl, .mem, .nch, .nvs, .out, .pat, .prs,
    .pwr, .rgl, .rng, .sch, .stk, .svc, .tbl, .til, .tlt]) ∧
  (∀ (who : Issuer), keeps (.partialImage who) [.arm, .events, .jnl] (Shows.journal ++ Shows.jobShows ++ [Reg.ARM_CMD_STATUS_OP,
    Reg.ARM_CMD_STATUS_RESULT, Reg.ARM_CMD_STATUS_STROKE, Reg.ARM_JOB_PHASE, Reg.ARM_JOB_STROKES])) ∧
  (keeps .jobCheckDone [.arm, .deferred, .events, .jnl] (Shows.journal ++ Shows.jobShows ++ [Reg.ARM_JOB_PHASE, Reg.ARM_JOB_STROKES])) ∧
  (keeps .jobDrainDone [.deferred] ([])) ∧
  (keeps .jobDrainTimeout [.arm, .deferred, .events, .jnl] (Shows.journal ++ Shows.jobShows ++ [Reg.ARM_JOB_PHASE, Reg.ARM_JOB_STROKES])) ∧
  (∀ (pass : Bool), keeps (.jobApplyDone pass) [.arm, .deferred, .events, .jnl, .svc] (Shows.journal ++ Shows.jobShows ++
    [Reg.ARM_JOB_PHASE, Reg.ARM_JOB_STROKES])) ∧
  (keeps .jobRampDone [.arm, .events, .jnl, .svc] (Shows.journal ++ Shows.unitShows ++ Shows.jobShows ++ [Reg.ARM_JOB_PHASE,
    Reg.ARM_JOB_STROKES])) ∧
  (∀ (who : Issuer), keeps (.armJobRead who) [.events, .out, .pat] (Shows.patinaLog ++ [Reg.ARM_JOB_PHASE])) ∧
  (∀ (who : Issuer), keeps (.cancel who) [.arm, .deferred, .events, .jnl] (Shows.journal ++ Shows.jobShows ++ [Reg.ARM_CMD_STATUS_OP,
    Reg.ARM_CMD_STATUS_RESULT, Reg.ARM_CMD_STATUS_STROKE, Reg.ARM_JOB_PHASE, Reg.ARM_JOB_STROKES])) ∧
  (∀ (who : Issuer), keeps (.tokenConsumeStep who) [.arm, .events, .free, .jnl] (Shows.journal ++ Shows.fuseRecord ++
    [Reg.ARM_CMD_STATUS_OP, Reg.ARM_CMD_STATUS_RESULT, Reg.ARM_CMD_STATUS_STROKE, Reg.ARM_FLOOR_ARMATURE, Reg.ARM_FLOOR_PLINTH,
    Reg.ARM_NONCE_VALUE, Reg.ARM_TALLY_GRANT_DEVICE, Reg.ARM_TALLY_GRANT_PLATFORM, Reg.ARM_TALLY_REMAINING])) ∧
  (∀ (who : Issuer), keeps (.ownershipTransfer who) [.arm, .events, .free, .jnl] (Shows.journal ++ Shows.fuseRecord ++
    [Reg.ARM_CMD_STATUS_OP, Reg.ARM_CMD_STATUS_RESULT, Reg.ARM_CMD_STATUS_STROKE, Reg.ARM_NONCE_VALUE, Reg.ARM_TALLY_GRANT_DEVICE,
    Reg.ARM_TALLY_GRANT_PLATFORM, Reg.ARM_TALLY_REMAINING])) ∧
  (∀ (who : Issuer), keeps (.debugUnlock who) [.arm, .events, .free, .jnl] (Shows.journal ++ [Reg.ARM_CMD_STATUS_OP,
    Reg.ARM_CMD_STATUS_RESULT, Reg.ARM_CMD_STATUS_STROKE, Reg.ARM_NONCE_VALUE, Reg.TIL_DBG_RIGHTS, Reg.TIL_DBG_UNLOCKED,
    Reg.TIL_STATUS_DEBUG])) ∧
  (∀ (who : Issuer), keeps (.tallyGrant who) [.events, .free, .jnl] (Shows.journal ++ [Reg.ARM_CMD_STATUS_OP, Reg.ARM_CMD_STATUS_RESULT,
    Reg.ARM_CMD_STATUS_STROKE, Reg.ARM_NONCE_VALUE, Reg.ARM_TALLY_GRANT_DEVICE, Reg.ARM_TALLY_GRANT_PLATFORM])) ∧
  (keeps .debugUnlockExpiry [.arm, .deferred, .events, .jnl] (Shows.journal ++ [Reg.TIL_DBG_RIGHTS, Reg.TIL_DBG_UNLOCKED,
    Reg.TIL_STATUS_DEBUG])) ∧
  (∀ (l : Nat) (samples : List (Nat × Nat)), keeps (.regulationRun l samples) [.events, .rgl, .tlt] ([Reg.RGL_LOOP_STAT_SKIPPED,
    Reg.RGL_STATUS_SKIP])) ∧
  (∀ (l : Nat), keeps (.regulationApply l) [.events, .nch, .out, .rgl, .sch] ([Reg.RGL_ADMIT_NVS_FETCH, Reg.RGL_ADMIT_POLL_H0,
    Reg.RGL_ADMIT_POLL_H1, Reg.RGL_ADMIT_RES_INTAKE, Reg.RGL_LOOP_STAT_LAST_CHANGES, Reg.RGL_LOOP_STAT_RUN, Reg.RGL_POWER_CONTROL_MHZ,
    Reg.RGL_POWER_GATED, Reg.RGL_STATUS_ADVICE, Reg.RNG_POLL_INTERVAL, Reg.SCH_NODE_SHAPE_HI_LIMIT, Reg.SCH_NODE_SHAPE_LO_LIMIT,
    Reg.SCH_NODE_SHAPE_RATE, Reg.SCH_NODE_STATE_BACKLOG_KIB, Reg.SCH_NODE_STATE_CREDIT, Reg.SCH_NODE_STATE_WAITING, Reg.TIL_INFO_SHARE_LOG2,
    Reg.TLT_PEER_INFO_RATE_MBPS, Reg.TLT_PEER_RTO_RTO])) ∧
  (∀ (l : Nat), keeps (.envelopeApply l) [.events, .rgl, .sch] ([Reg.RGL_ADMIT_NVS_FETCH, Reg.RGL_ADMIT_POLL_H0, Reg.RGL_ADMIT_POLL_H1,
    Reg.RGL_ADMIT_RES_INTAKE, Reg.RGL_ENV_MAX, Reg.RGL_ENV_MIN, Reg.RGL_POWER_CONTROL_MHZ, Reg.RGL_POWER_GATED, Reg.RGL_STATUS_CLAMP,
    Reg.RNG_POLL_INTERVAL, Reg.SCH_NODE_SHAPE_HI_LIMIT, Reg.SCH_NODE_SHAPE_LO_LIMIT, Reg.SCH_NODE_SHAPE_RATE,
    Reg.SCH_NODE_STATE_BACKLOG_KIB, Reg.SCH_NODE_STATE_CREDIT, Reg.SCH_NODE_STATE_WAITING, Reg.TIL_INFO_SHARE_LOG2,
    Reg.TLT_PEER_INFO_RATE_MBPS, Reg.TLT_PEER_RTO_RTO])) ∧
  (∀ (who : Issuer) (l : Nat) (run : Nat), keeps (.adviceAccept who l run) [.deferred, .events, .jnl, .pat] (Shows.journal ++
    Shows.patinaLog ++ [Reg.RGL_ADV_ACCEPT_LOOP, Reg.RGL_ADV_ACCEPT_RUN, Reg.RGL_ADV_STATUS_APPLIED, Reg.RGL_ADV_STATUS_RESULT,
    Reg.RGL_ADV_STATUS_STROKE])) ∧
  (∀ (l : Nat), keeps (.decisionJournalFlush l) [.events, .jnl, .rgl] (Shows.journal)) ∧
  (∀ (who : Issuer) (bad : List Nat), keeps (.read who bad) [.cmds, .events, .jnl, .nch, .out, .pat] (Shows.journal ++ Shows.patinaLog ++
    Shows.saturation ++ Shows.jnlCommand ++ [Reg.JNL_MEDIA_CNT_COUNT, Reg.JNL_MEDIA_CNT_SAT, Reg.JNL_STATUS_MEDIA])) ∧
  (∀ (who : Issuer), keeps (.readPrev who) [.cmds, .events, .jnl, .nch, .out, .pat] (Shows.journal ++ Shows.patinaLog ++ Shows.jnlCommand))
    ∧
  (∀ (who : Issuer) (block : Nat), keeps (.mark who block) [.cmds, .events, .jnl, .pat] (Shows.journal ++ Shows.patinaLog ++
    Shows.jnlCommand ++ [Reg.JNL_MARK_SEQ_SEQ])) ∧
  (∀ (who : Issuer) (value : Nat), keeps (.journalAck who value) [.events, .jnl, .pat] (Shows.journal ++ Shows.patinaLog ++
    [Reg.ARM_BOUND_LAST_OFFSET, Reg.ARM_BOUND_LAST_STROKE, Reg.ARM_STATUS_BOUND_VIOL, Reg.JNL_ACK_ACK])) ∧
  (∀ (who : Issuer), keeps (.patinaReadLatch who) [.events, .out, .pat] (Shows.patinaLog)) ∧
  (∀ (eid : Nat) (start : Nat) (n : Nat) (bad : List Nat), keeps (.readJournal eid start n bad) [.events, .out, .pat] (Shows.patinaLog ++
    Shows.saturation ++ [Reg.JNL_MEDIA_CNT_COUNT, Reg.JNL_MEDIA_CNT_SAT, Reg.JNL_STATUS_MEDIA])) ∧
  (∀ (eid : Nat) (start : Nat) (n : Nat), keeps (.readPrevJournal eid start n) [.out] ([])) ∧
  (∀ (eid : Nat) (start : Nat) (n : Nat), keeps (.readPatina eid start n) [.out] ([])) ∧
  (∀ (eid : Nat) (start : Nat) (n : Nat), keeps (.readPinned eid start n) [.out] ([])) ∧
  (∀ (eid : Nat), keeps (.clearPinned eid) [.events, .jnl, .out, .pat] (Shows.journal ++ [Reg.PAT_PIN_INFO_USED,
    Reg.PAT_STATUS_PINNED_FULL])) ∧
  (∀ (eid : Nat) (off : Nat), keeps (.pwrRead eid off) [.events, .jnl, .out, .pat] (Shows.patinaLog ++ [Reg.ACC_SLICE_LOAD_PCT,
    Reg.ARM_JOB_PHASE, Reg.ARM_MAQ_STATUS_DONE, Reg.NVS_INFLIGHT_PEAK, Reg.PRS_RO_STATUS_PEAK, Reg.PWR_POWER_PEAK_W, Reg.PWR_TEMP_PEAK,
    Reg.STK_TXTS_INFO_LEVEL, Reg.STK_TXTS_INFO_STATUS, Reg.STK_TXTS_INFO_SUBNS, Reg.STK_TXTS_INFO_TS_ID, Reg.STK_TXTS_INFO_VALID,
    Reg.TBL_REHASH_STATE, Reg.TIL_SB_PEAK_C0, Reg.TIL_SB_PEAK_C1, Reg.TIL_SB_PEAK_C2, Reg.TIL_SB_PEAK_C3])) ∧
  (∀ (eid : Nat) (off : Nat), keeps (.svcRead eid off) [.events, .jnl, .out, .pat] (Shows.patinaLog ++ [Reg.ACC_SLICE_LOAD_PCT,
    Reg.ARM_JOB_PHASE, Reg.ARM_MAQ_STATUS_DONE, Reg.NVS_INFLIGHT_PEAK, Reg.PRS_RO_STATUS_PEAK, Reg.PWR_POWER_PEAK_W, Reg.PWR_TEMP_PEAK,
    Reg.STK_TXTS_INFO_LEVEL, Reg.STK_TXTS_INFO_STATUS, Reg.STK_TXTS_INFO_SUBNS, Reg.STK_TXTS_INFO_TS_ID, Reg.STK_TXTS_INFO_VALID,
    Reg.TBL_REHASH_STATE, Reg.TIL_SB_PEAK_C0, Reg.TIL_SB_PEAK_C1, Reg.TIL_SB_PEAK_C2, Reg.TIL_SB_PEAK_C3])) ∧
  (∀ (who : Issuer), keeps (.drain who) [.cmds, .deferred, .events, .jnl, .svc] (Shows.journal ++ Shows.svcCommand ++
    [Reg.SVC_SPARE_COPIED_MIB, Reg.SVC_SPARE_STATE, Reg.SVC_SPARE_TARGET, Reg.SVC_STATUS_SPARE])) ∧
  (∀ (who : Issuer), keeps (.drainCancel who) [.cmds, .deferred, .events, .jnl] (Shows.journal ++ Shows.svcCommand)) ∧
  (∀ (kind : Nat) (index : Nat), keeps (.unitDrained kind index) [.deferred] ([])) ∧
  (∀ (kind : Nat) (index : Nat), keeps (.unitDrainTimeout kind index) [.deferred] ([])) ∧
  (∀ (who : Issuer), keeps (.test who) [.cmds, .events, .jnl, .svc] (Shows.journal ++ Shows.svcCommand ++ [Reg.SVC_UNIT_INFO_TEST])) ∧
  (∀ (who : Issuer), keeps (.readmit who) [.cmds, .events, .jnl, .svc] (Shows.journal ++ Shows.svcCommand ++ [Reg.SVC_UNIT_INFO_TEST])) ∧
  (∀ (kind : Nat) (index : Nat) (pass : Bool), keeps (.testDone kind index pass) [.events, .jnl, .pat, .svc] (Shows.journal ++
    Shows.patinaLog ++ Shows.unitShows ++ [Reg.SVC_SPARE_SPARE, Reg.SVC_SPARE_STATE, Reg.SVC_UNIT_INFO_TEST])) ∧
  (∀ (kind : Nat) (index : Nat), keeps (.armatureReloadDone kind index) [.deferred] ([])) ∧
  (∀ (kind : Nat) (index : Nat), keeps (.probationStep kind index) [] ([Reg.TIL_INFO_SHARE_LOG2])) ∧
  (∀ (kind : Nat) (index : Nat), keeps (.probationEnd kind index) [.events, .jnl, .svc] (Shows.journal ++ Shows.unitShows ++
    [Reg.TIL_INFO_SHARE_LOG2])) ∧
  (∀ (who : Issuer), keeps (.substitute who) [.cmds, .events, .jnl, .svc] (Shows.journal ++ Shows.svcCommand)) ∧
  (∀ (who : Issuer), keeps (.retire who) [.arm, .cmds, .events, .jnl] (Shows.journal ++ Shows.unitShows ++ Shows.fuseRecord ++
    Shows.svcCommand ++ [Reg.ARM_TALLY_GRANT_DEVICE, Reg.ARM_TALLY_GRANT_PLATFORM, Reg.ARM_TALLY_REMAINING])) ∧
  (∀ (kind : Nat) (index : Nat) (code : Nat), keeps (.unitFailure kind index code) [.deferred, .events, .pat, .svc] (Shows.patinaLog ++
    Shows.availability ++ [Reg.ARM_TALLY_GRANT_DEVICE, Reg.ARM_TALLY_GRANT_PLATFORM, Reg.SVC_SPARE_COPIED_MIB, Reg.SVC_SPARE_STATE,
    Reg.SVC_SPARE_TARGET, Reg.SVC_STATUS_PROBATION_FAIL, Reg.SVC_STATUS_SPARE, Reg.SVC_UNIT_INFO_CAUSE, Reg.SVC_UNIT_INFO_FAILS])) ∧
  (∀ (who : Issuer), keeps (.repair who) [.arm, .cmds, .events, .jnl] (Shows.journal ++ Shows.fuseRecord ++ Shows.svcCommand ++
    [Reg.ARM_PPR_REMAINING, Reg.ARM_TALLY_GRANT_DEVICE, Reg.ARM_TALLY_GRANT_PLATFORM, Reg.ARM_TALLY_REMAINING])) ∧
  (∀ (index : Nat) (ok : Bool), keeps (.repairDone index ok) [.cmds, .events, .jnl] (Shows.journal ++ Shows.svcCommand ++
    [Reg.ARM_PPR_DONE])) ∧
  (∀ (who : Issuer), keeps (.spare who) [.cmds, .events, .jnl, .svc] (Shows.journal ++ Shows.svcCommand ++ [Reg.SVC_SPARE_COPIED_MIB,
    Reg.SVC_SPARE_STATE, Reg.SVC_SPARE_TARGET, Reg.SVC_STATUS_SPARE])) ∧
  (∀ (stack : Nat), keeps (.spareSwitch stack) [.acc, .cmds, .deferred, .dma, .events, .fab, .free, .hif, .jnl, .mem, .nch, .nvs, .out,
    .prs, .rng, .sch, .stk, .svc, .til, .tlt] (Shows.journal ++ Shows.saturation ++ Shows.completions ++ Shows.nvsErrors ++ Shows.dmaErrors
    ++ Shows.dmaChannel ++ Shows.accErrors ++ Shows.frameLeaves ++ Shows.transit ++ Shows.availability ++ Shows.unitShows ++ Shows.linkShows
    ++ Shows.fnShows ++ Shows.turelmSends ++ Shows.nakLast ++ Shows.lateFails ++ Shows.nvsCommand ++ Shows.fabCommand ++
    [Reg.ACC_SLICE_QUEUED, Reg.FAB_APT_ERR_COUNT, Reg.FAB_APT_ERR_SAT, Reg.FAB_GRANT_DROP_COUNT, Reg.FAB_GRANT_DROP_SAT,
    Reg.FAB_PATH_INFO_MISSES, Reg.FAB_PATH_INFO_RESPRAYS, Reg.FAB_PATH_INFO_STATE, Reg.FAB_PATH_INFO_UDP_SPORT, Reg.FAB_PEER_INFO_HOPS,
    Reg.FAB_PEER_INFO_PATHS, Reg.FAB_PEER_INFO_PATHS_UP, Reg.FAB_POOL_OPS_COUNT, Reg.FAB_STATUS_GRANT_DROP, Reg.FAB_STATUS_PATH_DOWN,
    Reg.FAB_STATUS_PEER_DOWN, Reg.HIF_ATC_STATUS_VALID, Reg.HIF_FN_INFO_DSTATE, Reg.HIF_FN_INFO_FLR_BUSY, Reg.HIF_FN_INFO_NICHES,
    Reg.HIF_FN_INFO_TDI_STATE, Reg.HIF_LINK_IDE_LINK, Reg.HIF_MGR_ACTIVE_AP, Reg.HIF_MGR_ACTIVE_PF, Reg.HIF_MGR_STANDBY_AP,
    Reg.HIF_MGR_STANDBY_PF, Reg.HIF_MGR_STANDBY_READY, Reg.HIF_MGR_VACANT, Reg.HIF_RESET_LAST_KIND, Reg.HIF_RESET_LAST_RID,
    Reg.HIF_RESET_LAST_STROKE, Reg.HIF_STATUS_FAILOVER, Reg.HIF_TAG_STATUS_IN_USE, Reg.HIF_TAG_STATUS_QUARANTINED, Reg.NCH_INFO_AP,
    Reg.NCH_INFO_BOUND, Reg.NCH_INFO_RID, Reg.NCH_INFO_STATE, Reg.NCH_PG_RX_DROP_COUNT, Reg.NCH_PG_RX_DROP_SAT, Reg.NCH_PG_STATUS_STATE,
    Reg.NVS_CMD_CNT_COUNT, Reg.NVS_INFLIGHT_PEAK, Reg.PRS_CL_DROP_COUNT, Reg.PRS_CL_DROP_SAT, Reg.PRS_CL_INFO_QUEUE,
    Reg.PRS_RO_STATUS_IN_FLIGHT, Reg.PRS_RO_STATUS_PEAK, Reg.PRS_SPR_ELIGIBLE, Reg.PRS_STATUS_CL_DROP, Reg.RGL_POWER_GATED,
    Reg.RNG_INFO_STATE, Reg.RNG_RCNT_COUNT, Reg.RNG_RCNT_SAT, Reg.SVC_SPARE_COPIED_MIB, Reg.SVC_SPARE_STATE, Reg.SVC_STATUS_SPARE,
    Reg.TIL_CH_INFO_LOST, Reg.TIL_THR_STATE_HI_STATE, Reg.TIL_THR_STATE_LO_STATE, Reg.TLT_CTX_EVICTED, Reg.TLT_CTX_ONDIE,
    Reg.TLT_CTX_RECALL_HELD, Reg.TLT_DUP_DROP_COUNT, Reg.TLT_DUP_DROP_SAT, Reg.TLT_NAK_TX_COUNT, Reg.TLT_NAK_TX_SAT,
    Reg.TLT_PEER_INFO_OUTSTANDING, Reg.TLT_PEER_INFO_PATHS, Reg.TLT_RETX_COUNT, Reg.TLT_RETX_SAT, Reg.TLT_STATUS_TRK_FULL,
    Reg.TLT_TRK_RECV_USED, Reg.TLT_TRK_SEND_USED, Reg.TLT_WIN_DROP_COUNT, Reg.TLT_WIN_DROP_SAT])) ∧
  (∀ (who : Issuer), keeps (.plinthSwitch who) [.cmds, .events, .jnl, .svc] (Shows.journal ++ Shows.svcCommand ++ [Reg.SVC_PLINTH_RESULT,
    Reg.SVC_PLINTH_STROKE, Reg.SVC_PLINTH_SWITCHING, Reg.SVC_STATUS_PLINTH])) ∧
  (keeps .plinthReady [.events, .jnl, .svc] (Shows.journal ++ [Reg.SVC_PLINTH_RESULT, Reg.SVC_PLINTH_SLOT, Reg.SVC_PLINTH_STROKE,
    Reg.SVC_PLINTH_SWITCHING, Reg.SVC_STATUS_PLINTH])) ∧
  (keeps .plinthSwitchTimeout [.arm, .events, .jnl, .svc] (Shows.journal ++ [Reg.ARM_BOOTDESC_PLINTH_SLOT, Reg.SVC_PLINTH_RESULT,
    Reg.SVC_PLINTH_SLOT, Reg.SVC_PLINTH_STROKE, Reg.SVC_PLINTH_SWITCHING, Reg.SVC_STATUS_PLINTH])) ∧
  (keeps .plinthLockstepRestart [.events, .pat] (Shows.patinaLog ++ [Reg.SVC_PLINTH_LOCKSTEP])) ∧
  (∀ (pc : Nat), keeps (.correctedError pc) [.deferred, .events, .pat, .svc] (Shows.patinaLog ++ Shows.availability ++
    [Reg.ARM_TALLY_GRANT_DEVICE, Reg.ARM_TALLY_GRANT_PLATFORM, Reg.SVC_SPARE_COPIED_MIB, Reg.SVC_SPARE_STATE, Reg.SVC_SPARE_TARGET,
    Reg.SVC_STATUS_PROBATION_FAIL, Reg.SVC_STATUS_SPARE, Reg.SVC_UNIT_INFO_CAUSE, Reg.SVC_UNIT_INFO_FAILS])) ∧
  (∀ (structure_ : Nat) (bank : List Nat), keeps (.recoveryEntry structure_ bank) [.arm, .deferred, .events, .free, .hif, .jnl, .nch, .nvs,
    .out, .pat, .prs, .rgl, .rng, .sch, .stk, .svc, .til, .tlt] (Shows.journal ++ Shows.patinaLog ++ Shows.saturation ++ Shows.completions
    ++ Shows.frameLeaves ++ Shows.transit ++ Shows.fnShows ++ Shows.jobShows ++ [Reg.ARM_JOB_PHASE, Reg.ARM_JOB_STROKES,
    Reg.HIF_FN_INFO_DSTATE, Reg.HIF_FN_INFO_FLR_BUSY, Reg.HIF_FN_INFO_NICHES, Reg.HIF_FN_INFO_TDI_STATE, Reg.HIF_MGR_ACTIVE_AP,
    Reg.HIF_MGR_ACTIVE_PF, Reg.HIF_MGR_VACANT, Reg.IDN_STATE_STATE, Reg.NCH_PG_RX_DROP_COUNT, Reg.NCH_PG_RX_DROP_SAT,
    Reg.NVS_CTRL_INFO_STATE, Reg.PRS_CL_INFO_QUEUE, Reg.PRS_RO_SKIP_COUNT, Reg.PRS_RO_SKIP_SAT, Reg.PRS_RO_STATUS_IN_FLIGHT,
    Reg.PRS_RO_STATUS_PEAK, Reg.PRS_SKIP_LAST_DOMAIN, Reg.PRS_SKIP_LAST_SEQ, Reg.PRS_SKIP_LAST_TILE, Reg.PRS_STATUS_RO_SKIP,
    Reg.PRS_VER_VERSIONED, Reg.RGL_CTL_FROZEN, Reg.RNG_RCNT_COUNT, Reg.RNG_RCNT_SAT, Reg.STK_REALIGN_ARM, Reg.STK_STATUS_STEP_PENDING,
    Reg.STK_STEP_STATUS_PENDING, Reg.STK_STEP_STATUS_RESULT, Reg.SVC_RECOVERY_CAUSE])) ∧
  (∀ (rebuilt : Bool), keeps (.recoveryExit rebuilt) [.arm, .deferred, .events, .hif, .jnl, .nvs, .pat, .prs, .rgl, .stk, .svc, .tbl, .tlt]
    (Shows.journal ++ Shows.patinaLog ++ Shows.fnShows ++ Shows.jobShows ++ [Reg.ARM_JOB_PHASE, Reg.ARM_JOB_STROKES, Reg.HIF_FN_INFO_DSTATE,
    Reg.HIF_FN_INFO_FLR_BUSY, Reg.HIF_FN_INFO_NICHES, Reg.HIF_FN_INFO_TDI_STATE, Reg.HIF_MGR_ACTIVE_AP, Reg.HIF_MGR_ACTIVE_PF,
    Reg.HIF_MGR_VACANT, Reg.IDN_STATE_STATE, Reg.NCH_QUOTA_USED, Reg.NVS_CTRL_INFO_STATE, Reg.PRS_STATUS_STAGE_DISCARD, Reg.PRS_VER_STAGED,
    Reg.PRS_VER_VERSIONED, Reg.RGL_CTL_FROZEN, Reg.STK_REALIGN_ARM, Reg.STK_STATUS_STEP_PENDING, Reg.STK_STEP_STATUS_PENDING,
    Reg.STK_STEP_STATUS_RESULT, Reg.SVC_RECOVERY_STROKES, Reg.TBL_INFO_ENTRIES, Reg.TBL_INFO_LENGTHS, Reg.TBL_INFO_STASH])) ∧
  (∀ (a : Access0) (write : Bool), keeps (.invalidAccess a write) [.events, .out, .pat] (Shows.patinaLog)) ∧
  (∀ (who : Issuer) (offset : Nat) (value : Nat), keepsParts (.registerWrite who offset value) [.acc, .cmds, .deferred, .dma, .events, .fab,
    .free, .hif, .jnl, .mem, .nch, .nvs, .out, .pat, .prs, .rgl, .rng, .sch, .stk, .til, .tlt]) ∧
  (∀ (who : Issuer) (offset : Nat), keepsParts (.satClear who offset) [.acc, .cmds, .deferred, .dma, .events, .fab, .free, .hif, .jnl, .mem,
    .nch, .nvs, .out, .pat, .prs, .rgl, .rng, .sch, .stk, .til, .tlt]) ∧
  (∀ (who : Issuer) (offset : Nat), keeps (.counterLowRead who offset) [.events, .jnl, .out, .pat] (Shows.patinaLog ++
    [Reg.ACC_SLICE_LOAD_PCT, Reg.ARM_JOB_PHASE, Reg.ARM_MAQ_STATUS_DONE, Reg.NVS_INFLIGHT_PEAK, Reg.PRS_RO_STATUS_PEAK,
    Reg.PWR_POWER_PEAK_W, Reg.PWR_TEMP_PEAK, Reg.STK_TXTS_INFO_LEVEL, Reg.STK_TXTS_INFO_STATUS, Reg.STK_TXTS_INFO_SUBNS,
    Reg.STK_TXTS_INFO_TS_ID, Reg.STK_TXTS_INFO_VALID, Reg.TBL_REHASH_STATE, Reg.TIL_SB_PEAK_C0, Reg.TIL_SB_PEAK_C1, Reg.TIL_SB_PEAK_C2,
    Reg.TIL_SB_PEAK_C3])) ∧
  (∀ (who : Issuer) (offset : Nat), keeps (.readClears who offset) [.events, .jnl, .out, .pat, .stk] (Shows.patinaLog ++
    [Reg.ACC_SLICE_LOAD_PCT, Reg.ARM_JOB_PHASE, Reg.ARM_MAQ_STATUS_DONE, Reg.NVS_INFLIGHT_PEAK, Reg.PRS_RO_STATUS_PEAK,
    Reg.PWR_POWER_PEAK_W, Reg.PWR_TEMP_PEAK, Reg.STK_TXTS_INFO_LEVEL, Reg.STK_TXTS_INFO_STATUS, Reg.STK_TXTS_INFO_SUBNS,
    Reg.STK_TXTS_INFO_TS_ID, Reg.STK_TXTS_INFO_VALID, Reg.STK_TXTS_TIME_TIME, Reg.TBL_REHASH_STATE, Reg.TIL_SB_PEAK_C0, Reg.TIL_SB_PEAK_C1,
    Reg.TIL_SB_PEAK_C2, Reg.TIL_SB_PEAK_C3])) ∧
  (∀ (p : TlPkt), keepsParts (.regAccess p) [.acc, .cmds, .deferred, .dma, .events, .fab, .free, .hif, .jnl, .mem, .nch, .nvs, .out, .pat,
    .prs, .rgl, .rng, .sch, .stk, .til, .tlt])

/-- R164, R179, R187, R191, R218, R227, R230: For every state and all operands, whatever a command answers: every part of the state and
  every register field but those listed for the command is as before. Device memory is listed only for the commands that may store; where it
  is not, every byte is unchanged. The queue of waiting commands is listed for none. Only keepsParts, for commands that set register fields
  chosen by their operands or by what waits, leaves the register fields open. -/
def Obligations.HostAndNicheFrames : Prop :=
  (∀ (ap : Nat), keeps (.perstAssert ap) [.acc, .cmds, .deferred, .dma, .events, .fab, .free, .hif, .jnl, .mem, .nch, .nvs, .out, .prs,
    .rng, .sch, .stk, .til, .tlt] (Shows.journal ++ Shows.saturation ++ Shows.completions ++ Shows.nvsErrors ++ Shows.dmaErrors ++
    Shows.dmaChannel ++ Shows.accErrors ++ Shows.frameLeaves ++ Shows.transit ++ Shows.availability ++ Shows.linkShows ++ Shows.fnShows ++
    Shows.turelmSends ++ Shows.nakLast ++ Shows.lateFails ++ Shows.nvsCommand ++ Shows.fabCommand ++ [Reg.ACC_SLICE_QUEUED,
    Reg.FAB_APT_ERR_COUNT, Reg.FAB_APT_ERR_SAT, Reg.FAB_GRANT_DROP_COUNT, Reg.FAB_GRANT_DROP_SAT, Reg.FAB_POOL_OPS_COUNT,
    Reg.FAB_STATUS_GRANT_DROP, Reg.HIF_ATC_STATUS_VALID, Reg.HIF_FN_INFO_DSTATE, Reg.HIF_FN_INFO_FLR_BUSY, Reg.HIF_FN_INFO_NICHES,
    Reg.HIF_FN_INFO_TDI_STATE, Reg.HIF_LINK_IDE_LINK, Reg.HIF_MGR_ACTIVE_AP, Reg.HIF_MGR_ACTIVE_PF, Reg.HIF_MGR_STANDBY_AP,
    Reg.HIF_MGR_STANDBY_PF, Reg.HIF_MGR_STANDBY_READY, Reg.HIF_MGR_VACANT, Reg.HIF_RESET_LAST_KIND, Reg.HIF_RESET_LAST_RID,
    Reg.HIF_RESET_LAST_STROKE, Reg.HIF_STATUS_FAILOVER, Reg.HIF_TAG_STATUS_IN_USE, Reg.HIF_TAG_STATUS_QUARANTINED, Reg.NCH_INFO_AP,
    Reg.NCH_INFO_BOUND, Reg.NCH_INFO_RID, Reg.NCH_INFO_STATE, Reg.NCH_PG_RX_DROP_COUNT, Reg.NCH_PG_RX_DROP_SAT, Reg.NCH_PG_STATUS_STATE,
    Reg.NVS_CMD_CNT_COUNT, Reg.NVS_INFLIGHT_PEAK, Reg.PRS_CL_DROP_COUNT, Reg.PRS_CL_DROP_SAT, Reg.PRS_CL_INFO_QUEUE,
    Reg.PRS_RO_STATUS_IN_FLIGHT, Reg.PRS_RO_STATUS_PEAK, Reg.PRS_STATUS_CL_DROP, Reg.RGL_POWER_GATED, Reg.RNG_INFO_STATE,
    Reg.RNG_RCNT_COUNT, Reg.RNG_RCNT_SAT, Reg.TIL_CH_INFO_LOST, Reg.TLT_CTX_EVICTED, Reg.TLT_CTX_ONDIE, Reg.TLT_CTX_RECALL_HELD,
    Reg.TLT_DUP_DROP_COUNT, Reg.TLT_DUP_DROP_SAT, Reg.TLT_NAK_TX_COUNT, Reg.TLT_NAK_TX_SAT, Reg.TLT_PEER_INFO_OUTSTANDING,
    Reg.TLT_RETX_COUNT, Reg.TLT_RETX_SAT, Reg.TLT_STATUS_TRK_FULL, Reg.TLT_TRK_RECV_USED, Reg.TLT_TRK_SEND_USED, Reg.TLT_WIN_DROP_COUNT,
    Reg.TLT_WIN_DROP_SAT])) ∧
  (∀ (ap : Nat), keeps (.perstDeassert ap) [.hif] ([])) ∧
  (∀ (ap : Nat), keeps (.hotReset ap) [.acc, .cmds, .deferred, .dma, .events, .fab, .free, .hif, .jnl, .mem, .nch, .nvs, .out, .prs, .rng,
    .sch, .stk, .til, .tlt] (Shows.journal ++ Shows.saturation ++ Shows.completions ++ Shows.nvsErrors ++ Shows.dmaErrors ++
    Shows.dmaChannel ++ Shows.accErrors ++ Shows.frameLeaves ++ Shows.transit ++ Shows.availability ++ Shows.linkShows ++ Shows.fnShows ++
    Shows.turelmSends ++ Shows.nakLast ++ Shows.lateFails ++ Shows.nvsCommand ++ Shows.fabCommand ++ [Reg.ACC_SLICE_QUEUED,
    Reg.FAB_APT_ERR_COUNT, Reg.FAB_APT_ERR_SAT, Reg.FAB_GRANT_DROP_COUNT, Reg.FAB_GRANT_DROP_SAT, Reg.FAB_POOL_OPS_COUNT,
    Reg.FAB_STATUS_GRANT_DROP, Reg.HIF_ATC_STATUS_VALID, Reg.HIF_FN_INFO_DSTATE, Reg.HIF_FN_INFO_FLR_BUSY, Reg.HIF_FN_INFO_NICHES,
    Reg.HIF_FN_INFO_TDI_STATE, Reg.HIF_LINK_IDE_LINK, Reg.HIF_MGR_ACTIVE_AP, Reg.HIF_MGR_ACTIVE_PF, Reg.HIF_MGR_STANDBY_AP,
    Reg.HIF_MGR_STANDBY_PF, Reg.HIF_MGR_STANDBY_READY, Reg.HIF_MGR_VACANT, Reg.HIF_RESET_LAST_KIND, Reg.HIF_RESET_LAST_RID,
    Reg.HIF_RESET_LAST_STROKE, Reg.HIF_STATUS_FAILOVER, Reg.HIF_TAG_STATUS_IN_USE, Reg.HIF_TAG_STATUS_QUARANTINED, Reg.NCH_INFO_AP,
    Reg.NCH_INFO_BOUND, Reg.NCH_INFO_RID, Reg.NCH_INFO_STATE, Reg.NCH_PG_RX_DROP_COUNT, Reg.NCH_PG_RX_DROP_SAT, Reg.NCH_PG_STATUS_STATE,
    Reg.NVS_CMD_CNT_COUNT, Reg.NVS_INFLIGHT_PEAK, Reg.PRS_CL_DROP_COUNT, Reg.PRS_CL_DROP_SAT, Reg.PRS_CL_INFO_QUEUE,
    Reg.PRS_RO_STATUS_IN_FLIGHT, Reg.PRS_RO_STATUS_PEAK, Reg.PRS_STATUS_CL_DROP, Reg.RGL_POWER_GATED, Reg.RNG_INFO_STATE,
    Reg.RNG_RCNT_COUNT, Reg.RNG_RCNT_SAT, Reg.TIL_CH_INFO_LOST, Reg.TLT_CTX_EVICTED, Reg.TLT_CTX_ONDIE, Reg.TLT_CTX_RECALL_HELD,
    Reg.TLT_DUP_DROP_COUNT, Reg.TLT_DUP_DROP_SAT, Reg.TLT_NAK_TX_COUNT, Reg.TLT_NAK_TX_SAT, Reg.TLT_PEER_INFO_OUTSTANDING,
    Reg.TLT_RETX_COUNT, Reg.TLT_RETX_SAT, Reg.TLT_STATUS_TRK_FULL, Reg.TLT_TRK_RECV_USED, Reg.TLT_TRK_SEND_USED, Reg.TLT_WIN_DROP_COUNT,
    Reg.TLT_WIN_DROP_SAT])) ∧
  (∀ (ap : Nat) (speed : Nat) (width : Nat) (flit : Bool), keeps (.linkUp ap speed width flit) [.acc, .dma, .events, .fab, .free, .hif,
    .jnl, .nch, .out, .prs, .rng, .sch, .stk, .til, .tlt] (Shows.journal ++ Shows.saturation ++ Shows.completions ++ Shows.dmaChannel ++
    Shows.frameLeaves ++ Shows.transit ++ Shows.availability ++ Shows.linkShows ++ Shows.turelmSends ++ [Reg.ACC_SLICE_QUEUED,
    Reg.HIF_MGR_ACTIVE_AP, Reg.HIF_MGR_ACTIVE_PF, Reg.HIF_MGR_STANDBY_AP, Reg.HIF_MGR_STANDBY_PF, Reg.HIF_MGR_STANDBY_READY,
    Reg.HIF_MGR_VACANT, Reg.HIF_STATUS_FAILOVER, Reg.NCH_INFO_AP, Reg.NCH_INFO_BOUND, Reg.NCH_INFO_RID, Reg.NCH_PG_RX_DROP_COUNT,
    Reg.NCH_PG_RX_DROP_SAT, Reg.PRS_CL_INFO_QUEUE, Reg.PRS_RO_STATUS_IN_FLIGHT, Reg.PRS_RO_STATUS_PEAK, Reg.RNG_INFO_STATE,
    Reg.RNG_RCNT_COUNT, Reg.RNG_RCNT_SAT, Reg.TLT_RETX_COUNT, Reg.TLT_RETX_SAT])) ∧
  (∀ (ap : Nat), keeps (.linkDown ap) [.acc, .cmds, .deferred, .dma, .events, .fab, .free, .hif, .jnl, .mem, .nch, .nvs, .out, .prs, .rng,
    .sch, .stk, .til, .tlt] (Shows.journal ++ Shows.saturation ++ Shows.completions ++ Shows.nvsErrors ++ Shows.dmaErrors ++
    Shows.dmaChannel ++ Shows.accErrors ++ Shows.frameLeaves ++ Shows.transit ++ Shows.availability ++ Shows.linkShows ++ Shows.fnShows ++
    Shows.turelmSends ++ Shows.nakLast ++ Shows.lateFails ++ Shows.nvsCommand ++ Shows.fabCommand ++ [Reg.ACC_SLICE_QUEUED,
    Reg.FAB_APT_ERR_COUNT, Reg.FAB_APT_ERR_SAT, Reg.FAB_GRANT_DROP_COUNT, Reg.FAB_GRANT_DROP_SAT, Reg.FAB_POOL_OPS_COUNT,
    Reg.FAB_STATUS_GRANT_DROP, Reg.HIF_ATC_STATUS_VALID, Reg.HIF_FN_INFO_DSTATE, Reg.HIF_FN_INFO_FLR_BUSY, Reg.HIF_FN_INFO_NICHES,
    Reg.HIF_FN_INFO_TDI_STATE, Reg.HIF_LINK_IDE_LINK, Reg.HIF_MGR_ACTIVE_AP, Reg.HIF_MGR_ACTIVE_PF, Reg.HIF_MGR_STANDBY_AP,
    Reg.HIF_MGR_STANDBY_PF, Reg.HIF_MGR_STANDBY_READY, Reg.HIF_MGR_VACANT, Reg.HIF_RESET_LAST_KIND, Reg.HIF_RESET_LAST_RID,
    Reg.HIF_RESET_LAST_STROKE, Reg.HIF_STATUS_FAILOVER, Reg.HIF_TAG_STATUS_IN_USE, Reg.HIF_TAG_STATUS_QUARANTINED, Reg.NCH_INFO_AP,
    Reg.NCH_INFO_BOUND, Reg.NCH_INFO_RID, Reg.NCH_INFO_STATE, Reg.NCH_PG_RX_DROP_COUNT, Reg.NCH_PG_RX_DROP_SAT, Reg.NCH_PG_STATUS_STATE,
    Reg.NVS_CMD_CNT_COUNT, Reg.NVS_INFLIGHT_PEAK, Reg.PRS_CL_DROP_COUNT, Reg.PRS_CL_DROP_SAT, Reg.PRS_CL_INFO_QUEUE,
    Reg.PRS_RO_STATUS_IN_FLIGHT, Reg.PRS_RO_STATUS_PEAK, Reg.PRS_STATUS_CL_DROP, Reg.RGL_POWER_GATED, Reg.RNG_INFO_STATE,
    Reg.RNG_RCNT_COUNT, Reg.RNG_RCNT_SAT, Reg.TIL_CH_INFO_LOST, Reg.TLT_CTX_EVICTED, Reg.TLT_CTX_ONDIE, Reg.TLT_CTX_RECALL_HELD,
    Reg.TLT_DUP_DROP_COUNT, Reg.TLT_DUP_DROP_SAT, Reg.TLT_NAK_TX_COUNT, Reg.TLT_NAK_TX_SAT, Reg.TLT_PEER_INFO_OUTSTANDING,
    Reg.TLT_RETX_COUNT, Reg.TLT_RETX_SAT, Reg.TLT_STATUS_TRK_FULL, Reg.TLT_TRK_RECV_USED, Reg.TLT_TRK_SEND_USED, Reg.TLT_WIN_DROP_COUNT,
    Reg.TLT_WIN_DROP_SAT])) ∧
  (∀ (who : Issuer) (h : Nat) (value : Nat), keeps (.apEnWrite who h value) [.acc, .cmds, .deferred, .dma, .events, .fab, .free, .hif, .jnl,
    .mem, .nch, .nvs, .out, .pat, .prs, .rng, .sch, .stk, .til, .tlt] (Shows.journal ++ Shows.patinaLog ++ Shows.saturation ++
    Shows.completions ++ Shows.nvsErrors ++ Shows.dmaErrors ++ Shows.dmaChannel ++ Shows.accErrors ++ Shows.frameLeaves ++ Shows.transit ++
    Shows.availability ++ Shows.linkShows ++ Shows.fnShows ++ Shows.turelmSends ++ Shows.nakLast ++ Shows.lateFails ++ Shows.nvsCommand ++
    Shows.fabCommand ++ [Reg.ACC_SLICE_QUEUED, Reg.FAB_APT_ERR_COUNT, Reg.FAB_APT_ERR_SAT, Reg.FAB_GRANT_DROP_COUNT, Reg.FAB_GRANT_DROP_SAT,
    Reg.FAB_POOL_OPS_COUNT, Reg.FAB_STATUS_GRANT_DROP, Reg.HIF_ATC_STATUS_VALID, Reg.HIF_CTL_AP_EN, Reg.HIF_CTL_SPEED_CAP,
    Reg.HIF_FN_INFO_DSTATE, Reg.HIF_FN_INFO_FLR_BUSY, Reg.HIF_FN_INFO_NICHES, Reg.HIF_FN_INFO_TDI_STATE, Reg.HIF_LINK_IDE_LINK,
    Reg.HIF_MGR_ACTIVE_AP, Reg.HIF_MGR_ACTIVE_PF, Reg.HIF_MGR_STANDBY_AP, Reg.HIF_MGR_STANDBY_PF, Reg.HIF_MGR_STANDBY_READY,
    Reg.HIF_MGR_VACANT, Reg.HIF_RESET_LAST_KIND, Reg.HIF_RESET_LAST_RID, Reg.HIF_RESET_LAST_STROKE, Reg.HIF_STATUS_FAILOVER,
    Reg.HIF_TAG_STATUS_IN_USE, Reg.HIF_TAG_STATUS_QUARANTINED, Reg.NCH_INFO_AP, Reg.NCH_INFO_BOUND, Reg.NCH_INFO_RID, Reg.NCH_INFO_STATE,
    Reg.NCH_PG_RX_DROP_COUNT, Reg.NCH_PG_RX_DROP_SAT, Reg.NCH_PG_STATUS_STATE, Reg.NVS_CMD_CNT_COUNT, Reg.NVS_INFLIGHT_PEAK,
    Reg.PRS_CL_DROP_COUNT, Reg.PRS_CL_DROP_SAT, Reg.PRS_CL_INFO_QUEUE, Reg.PRS_RO_STATUS_IN_FLIGHT, Reg.PRS_RO_STATUS_PEAK,
    Reg.PRS_STATUS_CL_DROP, Reg.RGL_POWER_GATED, Reg.RNG_INFO_STATE, Reg.RNG_RCNT_COUNT, Reg.RNG_RCNT_SAT, Reg.TIL_CH_INFO_LOST,
    Reg.TLT_CTX_EVICTED, Reg.TLT_CTX_ONDIE, Reg.TLT_CTX_RECALL_HELD, Reg.TLT_DUP_DROP_COUNT, Reg.TLT_DUP_DROP_SAT, Reg.TLT_NAK_TX_COUNT,
    Reg.TLT_NAK_TX_SAT, Reg.TLT_PEER_INFO_OUTSTANDING, Reg.TLT_RETX_COUNT, Reg.TLT_RETX_SAT, Reg.TLT_STATUS_TRK_FULL, Reg.TLT_TRK_RECV_USED,
    Reg.TLT_TRK_SEND_USED, Reg.TLT_WIN_DROP_COUNT, Reg.TLT_WIN_DROP_SAT])) ∧
  (∀ (ap : Nat) (rid : Nat) (op : Nat) (value : Nat), keeps (.configRequest ap rid op value) [.acc, .cmds, .deferred, .dma, .events, .fab,
    .free, .hif, .jnl, .mem, .nch, .nvs, .out, .prs, .rng, .sch, .stk, .til, .tlt] (Shows.journal ++ Shows.saturation ++ Shows.completions
    ++ Shows.nvsErrors ++ Shows.dmaErrors ++ Shows.dmaChannel ++ Shows.accErrors ++ Shows.frameLeaves ++ Shows.availability ++ Shows.fnShows
    ++ Shows.turelmSends ++ Shows.nakLast ++ Shows.lateFails ++ Shows.nvsCommand ++ Shows.fabCommand ++ [Reg.ACC_SLICE_QUEUED,
    Reg.FAB_APT_ERR_COUNT, Reg.FAB_APT_ERR_SAT, Reg.FAB_GRANT_DROP_COUNT, Reg.FAB_GRANT_DROP_SAT, Reg.FAB_POOL_OPS_COUNT,
    Reg.FAB_STATUS_GRANT_DROP, Reg.HIF_ATC_STATUS_VALID, Reg.HIF_FN_INFO_DSTATE, Reg.HIF_FN_INFO_FLR_BUSY, Reg.HIF_FN_INFO_NICHES,
    Reg.HIF_FN_INFO_TDI_STATE, Reg.HIF_MGR_STANDBY_READY, Reg.HIF_TAG_STATUS_IN_USE, Reg.HIF_TAG_STATUS_QUARANTINED, Reg.NCH_INFO_STATE,
    Reg.NCH_PG_STATUS_STATE, Reg.NVS_CMD_CNT_COUNT, Reg.NVS_INFLIGHT_PEAK, Reg.PRS_CL_DROP_COUNT, Reg.PRS_CL_DROP_SAT,
    Reg.PRS_CL_INFO_QUEUE, Reg.PRS_STATUS_CL_DROP, Reg.RGL_POWER_GATED, Reg.TIL_CH_INFO_LOST, Reg.TLT_CTX_EVICTED, Reg.TLT_CTX_ONDIE,
    Reg.TLT_CTX_RECALL_HELD, Reg.TLT_DUP_DROP_COUNT, Reg.TLT_DUP_DROP_SAT, Reg.TLT_NAK_TX_COUNT, Reg.TLT_NAK_TX_SAT,
    Reg.TLT_PEER_INFO_OUTSTANDING, Reg.TLT_RETX_COUNT, Reg.TLT_RETX_SAT, Reg.TLT_STATUS_TRK_FULL, Reg.TLT_TRK_RECV_USED,
    Reg.TLT_TRK_SEND_USED, Reg.TLT_WIN_DROP_COUNT, Reg.TLT_WIN_DROP_SAT])) ∧
  (∀ (ap : Nat) (rid : Nat), keeps (.flr ap rid) [.acc, .cmds, .deferred, .dma, .events, .fab, .free, .hif, .jnl, .mem, .nch, .nvs, .out,
    .prs, .rng, .sch, .stk, .til, .tlt] (Shows.journal ++ Shows.saturation ++ Shows.completions ++ Shows.nvsErrors ++ Shows.dmaErrors ++
    Shows.dmaChannel ++ Shows.accErrors ++ Shows.frameLeaves ++ Shows.availability ++ Shows.fnShows ++ Shows.turelmSends ++ Shows.nakLast ++
    Shows.lateFails ++ Shows.nvsCommand ++ Shows.fabCommand ++ [Reg.ACC_SLICE_QUEUED, Reg.FAB_APT_ERR_COUNT, Reg.FAB_APT_ERR_SAT,
    Reg.FAB_GRANT_DROP_COUNT, Reg.FAB_GRANT_DROP_SAT, Reg.FAB_POOL_OPS_COUNT, Reg.FAB_STATUS_GRANT_DROP, Reg.HIF_ATC_STATUS_VALID,
    Reg.HIF_FN_INFO_DSTATE, Reg.HIF_FN_INFO_FLR_BUSY, Reg.HIF_FN_INFO_NICHES, Reg.HIF_FN_INFO_TDI_STATE, Reg.HIF_MGR_STANDBY_READY,
    Reg.HIF_RESET_LAST_KIND, Reg.HIF_RESET_LAST_RID, Reg.HIF_RESET_LAST_STROKE, Reg.HIF_TAG_STATUS_IN_USE, Reg.HIF_TAG_STATUS_QUARANTINED,
    Reg.NCH_INFO_STATE, Reg.NCH_PG_STATUS_STATE, Reg.NVS_CMD_CNT_COUNT, Reg.NVS_INFLIGHT_PEAK, Reg.PRS_CL_DROP_COUNT, Reg.PRS_CL_DROP_SAT,
    Reg.PRS_CL_INFO_QUEUE, Reg.PRS_STATUS_CL_DROP, Reg.RGL_POWER_GATED, Reg.TIL_CH_INFO_LOST, Reg.TLT_CTX_EVICTED, Reg.TLT_CTX_ONDIE,
    Reg.TLT_CTX_RECALL_HELD, Reg.TLT_DUP_DROP_COUNT, Reg.TLT_DUP_DROP_SAT, Reg.TLT_NAK_TX_COUNT, Reg.TLT_NAK_TX_SAT,
    Reg.TLT_PEER_INFO_OUTSTANDING, Reg.TLT_RETX_COUNT, Reg.TLT_RETX_SAT, Reg.TLT_STATUS_TRK_FULL, Reg.TLT_TRK_RECV_USED,
    Reg.TLT_TRK_SEND_USED, Reg.TLT_WIN_DROP_COUNT, Reg.TLT_WIN_DROP_SAT])) ∧
  (∀ (ap : Nat) (rid : Nat), keeps (.flrComplete ap rid) [.hif, .out] ([Reg.HIF_FN_INFO_FLR_BUSY])) ∧
  (∀ (ap : Nat), keeps (.functionReady ap) [.hif, .out] ([])) ∧
  (∀ (ap : Nat), keeps (.d3cold ap) [.acc, .cmds, .deferred, .dma, .events, .fab, .free, .hif, .jnl, .mem, .nch, .nvs, .out, .prs, .rng,
    .sch, .stk, .til, .tlt] (Shows.journal ++ Shows.saturation ++ Shows.completions ++ Shows.nvsErrors ++ Shows.dmaErrors ++
    Shows.dmaChannel ++ Shows.accErrors ++ Shows.frameLeaves ++ Shows.transit ++ Shows.availability ++ Shows.linkShows ++ Shows.fnShows ++
    Shows.turelmSends ++ Shows.nakLast ++ Shows.lateFails ++ Shows.nvsCommand ++ Shows.fabCommand ++ [Reg.ACC_SLICE_QUEUED,
    Reg.FAB_APT_ERR_COUNT, Reg.FAB_APT_ERR_SAT, Reg.FAB_GRANT_DROP_COUNT, Reg.FAB_GRANT_DROP_SAT, Reg.FAB_POOL_OPS_COUNT,
    Reg.FAB_STATUS_GRANT_DROP, Reg.HIF_ATC_STATUS_VALID, Reg.HIF_FN_INFO_DSTATE, Reg.HIF_FN_INFO_FLR_BUSY, Reg.HIF_FN_INFO_NICHES,
    Reg.HIF_FN_INFO_TDI_STATE, Reg.HIF_LINK_IDE_LINK, Reg.HIF_MGR_ACTIVE_AP, Reg.HIF_MGR_ACTIVE_PF, Reg.HIF_MGR_STANDBY_AP,
    Reg.HIF_MGR_STANDBY_PF, Reg.HIF_MGR_STANDBY_READY, Reg.HIF_MGR_VACANT, Reg.HIF_RESET_LAST_KIND, Reg.HIF_RESET_LAST_RID,
    Reg.HIF_RESET_LAST_STROKE, Reg.HIF_STATUS_FAILOVER, Reg.HIF_TAG_STATUS_IN_USE, Reg.HIF_TAG_STATUS_QUARANTINED, Reg.NCH_INFO_AP,
    Reg.NCH_INFO_BOUND, Reg.NCH_INFO_RID, Reg.NCH_INFO_STATE, Reg.NCH_PG_RX_DROP_COUNT, Reg.NCH_PG_RX_DROP_SAT, Reg.NCH_PG_STATUS_STATE,
    Reg.NVS_CMD_CNT_COUNT, Reg.NVS_INFLIGHT_PEAK, Reg.PRS_CL_DROP_COUNT, Reg.PRS_CL_DROP_SAT, Reg.PRS_CL_INFO_QUEUE,
    Reg.PRS_RO_STATUS_IN_FLIGHT, Reg.PRS_RO_STATUS_PEAK, Reg.PRS_STATUS_CL_DROP, Reg.RGL_POWER_GATED, Reg.RNG_INFO_STATE,
    Reg.RNG_RCNT_COUNT, Reg.RNG_RCNT_SAT, Reg.TIL_CH_INFO_LOST, Reg.TLT_CTX_EVICTED, Reg.TLT_CTX_ONDIE, Reg.TLT_CTX_RECALL_HELD,
    Reg.TLT_DUP_DROP_COUNT, Reg.TLT_DUP_DROP_SAT, Reg.TLT_NAK_TX_COUNT, Reg.TLT_NAK_TX_SAT, Reg.TLT_PEER_INFO_OUTSTANDING,
    Reg.TLT_RETX_COUNT, Reg.TLT_RETX_SAT, Reg.TLT_STATUS_TRK_FULL, Reg.TLT_TRK_RECV_USED, Reg.TLT_TRK_SEND_USED, Reg.TLT_WIN_DROP_COUNT,
    Reg.TLT_WIN_DROP_SAT])) ∧
  (∀ (who : Issuer), keeps (.managerHeartbeat who) [.events, .hif, .pat] (Shows.patinaLog)) ∧
  (keeps .managerHeartbeatTimeout [.hif] ([])) ∧
  (∀ (who : Issuer) (both : Bool), keeps (.handover who both) [.events, .hif, .jnl, .pat] (Shows.journal ++ Shows.patinaLog)) ∧
  (∀ (who : Issuer), keeps (.takeover who) [.events, .hif, .jnl, .pat] (Shows.journal ++ Shows.patinaLog)) ∧
  (keeps .managerRoleMove [.acc, .dma, .events, .fab, .free, .hif, .jnl, .nch, .out, .prs, .rng, .sch, .stk, .til, .tlt] (Shows.journal ++
    Shows.saturation ++ Shows.completions ++ Shows.dmaChannel ++ Shows.frameLeaves ++ Shows.transit ++ Shows.availability ++
    Shows.turelmSends ++ [Reg.ACC_SLICE_QUEUED, Reg.HIF_MGR_ACTIVE_AP, Reg.HIF_MGR_ACTIVE_PF, Reg.HIF_MGR_STANDBY_AP,
    Reg.HIF_MGR_STANDBY_PF, Reg.HIF_MGR_STANDBY_READY, Reg.HIF_MGR_VACANT, Reg.HIF_STATUS_FAILOVER, Reg.NCH_INFO_AP, Reg.NCH_INFO_BOUND,
    Reg.NCH_INFO_RID, Reg.NCH_PG_RX_DROP_COUNT, Reg.NCH_PG_RX_DROP_SAT, Reg.PRS_CL_INFO_QUEUE, Reg.PRS_RO_STATUS_IN_FLIGHT,
    Reg.PRS_RO_STATUS_PEAK, Reg.RNG_INFO_STATE, Reg.RNG_RCNT_COUNT, Reg.RNG_RCNT_SAT, Reg.TLT_RETX_COUNT, Reg.TLT_RETX_SAT])) ∧
  (∀ (ap : Nat) (pf : Nat), keeps (.standbyReady ap pf) [.events, .hif] (Shows.availability ++ [Reg.HIF_MGR_STANDBY_READY])) ∧
  (∀ (ap : Nat) (index : Nat) (pf : Nat) (link : Bool), keeps (.ideKeyProgram ap index pf link) [.hif] ([Reg.HIF_LINK_IDE_LINK])) ∧
  (∀ (ap : Nat) (index : Nat) (link : Bool), keeps (.ideCheckFailed ap index link) [.hif] ([Reg.HIF_LINK_IDE_LINK])) ∧
  (∀ (ap : Nat) (rid : Nat) (msg : Nat), keeps (.tdispRequest ap rid msg) [.hif, .out] ([Reg.HIF_FN_INFO_TDI_STATE,
    Reg.HIF_TAG_STATUS_IN_USE, Reg.HIF_TAG_STATUS_QUARANTINED])) ∧
  (∀ (ap : Nat) (rid : Nat), keeps (.tdiError ap rid) [.events] ([Reg.HIF_FN_INFO_TDI_STATE, Reg.HIF_STATUS_TDI_ERROR])) ∧
  (∀ (ap : Nat) (rid : Nat) (pasid : Nat) (addr : Nat) (len : Nat), keeps (.atsInvalidation ap rid pasid addr len) [.hif]
    ([Reg.HIF_ATC_STATUS_VALID])) ∧
  (∀ (addr : Nat) (data : List Byte) (write : Bool) (bad : Bool), keeps (.cxlMemAccess addr data write bad) [.events, .hif, .mem, .out,
    .pat] (Shows.patinaLog ++ [Reg.HIF_CXL_POISONED, Reg.HIF_STATUS_CXL_ERR])) ∧
  (∀ (decoder : Nat) (base : Nat) (size : Nat) (ways : Nat) (gran : Nat) (commit : Bool), keeps (.hdmCommit decoder base size ways gran
    commit) [.hif] ([Reg.HIF_CXL_HDM0_COMMITTED, Reg.HIF_CXL_HDM1_COMMITTED])) ∧
  (∀ (op : Nat) (input : Nat), keeps (.cxlMailboxCommand op input) [.hif, .mem, .out] ([Reg.HIF_CXL_POISONED])) ∧
  (keeps .cxlReset [.hif, .mem] ([Reg.HIF_CXL_HDM0_COMMITTED, Reg.HIF_CXL_HDM1_COMMITTED])) ∧
  (∀ (who : Issuer) (desc : Nat), keeps (.create who desc) [.cmds, .deferred, .events, .jnl, .nch, .pat] (Shows.journal ++ Shows.patinaLog
    ++ Shows.nchCommand ++ [Reg.NCH_INFO_POOL, Reg.NCH_PG_STATUS_RESET_COUNT, Reg.NCH_POOL_INFO_FREE, Reg.NCH_QUOTA_LIMIT,
    Reg.NCH_QUOTA_USED, Reg.NCH_STACKED_BASE_MIB, Reg.NCH_STACKED_LEN_MIB])) ∧
  (∀ (who : Issuer), keeps (.bind who) [.cmds, .events, .jnl, .pat] (Shows.journal ++ Shows.patinaLog ++ Shows.nchCommand ++
    [Reg.HIF_FN_INFO_NICHES, Reg.NCH_INFO_AP, Reg.NCH_INFO_BOUND, Reg.NCH_INFO_PAGE, Reg.NCH_INFO_PASID, Reg.NCH_INFO_PASID_VALID,
    Reg.NCH_INFO_RID])) ∧
  (∀ (who : Issuer), keeps (.unbind who) [.cmds, .deferred, .events, .jnl, .nch, .pat] (Shows.journal ++ Shows.patinaLog ++ Shows.nchCommand
    ++ [Reg.NCH_INFO_STATE, Reg.NCH_PG_STATUS_STATE])) ∧
  (∀ (who : Issuer), keeps (.quiesce who) [.cmds, .deferred, .events, .jnl, .pat] (Shows.journal ++ Shows.patinaLog ++ Shows.nchCommand ++
    [Reg.NCH_INFO_STATE, Reg.NCH_PG_STATUS_STATE])) ∧
  (∀ (niche : Nat), keeps (.nicheQuiesced niche) [.events] ([Reg.NCH_INFO_STATE, Reg.NCH_PG_STATUS_STATE, Reg.NCH_STATUS_QUIESCED])) ∧
  (∀ (who : Issuer), keeps (.resume who) [.cmds, .deferred, .events, .jnl, .pat] (Shows.journal ++ Shows.patinaLog ++ Shows.nchCommand ++
    [Reg.NCH_INFO_STATE, Reg.NCH_PG_STATUS_STATE])) ∧
  (∀ (who : Issuer), keeps (.reset who) [.cmds, .deferred, .events, .jnl, .nch, .pat] (Shows.journal ++ Shows.patinaLog ++ Shows.nchCommand
    ++ [Reg.NCH_INFO_STATE, Reg.NCH_PG_STATUS_STATE])) ∧
  (∀ (niche : Nat), keeps (.nicheResetDone niche) [.acc, .events, .fab, .free, .hif, .mem, .nch, .nvs, .out, .rng, .sch, .stk, .tbl, .til,
    .tlt] (Shows.saturation ++ Shows.completions ++ Shows.nvsErrors ++ Shows.frameLeaves ++ Shows.ringShows ++ Shows.turelmSends ++
    [Reg.ACC_KEYS_CACHED, Reg.ACC_KEYS_USED, Reg.FAB_SEG_ADDR_VALUE, Reg.FAB_SEG_INFO_NICHE, Reg.FAB_SEG_INFO_RIGHTS,
    Reg.FAB_SEG_INFO_SIZE_2M, Reg.FAB_SEG_INFO_STATE, Reg.FAB_SEG_KEY_KEY, Reg.HIF_ATC_STATUS_VALID, Reg.HIF_FN_INFO_NICHES,
    Reg.NCH_INFO_AP, Reg.NCH_INFO_BOUND, Reg.NCH_INFO_LOGGING, Reg.NCH_INFO_PAGE, Reg.NCH_INFO_PASID, Reg.NCH_INFO_PASID_VALID,
    Reg.NCH_INFO_RID, Reg.NCH_INFO_STATE, Reg.NCH_PG_RX_DROP_COUNT, Reg.NCH_PG_RX_DROP_SAT, Reg.NCH_PG_SPOOF_DROP_COUNT,
    Reg.NCH_PG_SPOOF_DROP_SAT, Reg.NCH_PG_STATUS_RESET_COUNT, Reg.NCH_PG_STATUS_STATE, Reg.NCH_QUOTA_USED, Reg.NVS_CMD_CNT_COUNT,
    Reg.NVS_CTRL_INFO_AP, Reg.NVS_CTRL_INFO_FW_PENDING, Reg.NVS_CTRL_INFO_IO_SQS, Reg.NVS_CTRL_INFO_MAX_IO, Reg.NVS_CTRL_INFO_NICHE,
    Reg.NVS_CTRL_INFO_RID, Reg.NVS_CTRL_INFO_SELFTEST, Reg.NVS_CTRL_INFO_STATE, Reg.NVS_INFLIGHT_PEAK, Reg.NVS_NS_INFO_ATTACHED,
    Reg.NVS_NS_INFO_BACKEND, Reg.NVS_NS_INFO_CTRL, Reg.NVS_NS_INFO_DEFINED, Reg.NVS_NS_INFO_GUARD64, Reg.NVS_NS_INFO_LBADS,
    Reg.NVS_NS_INFO_MS, Reg.NVS_NS_INFO_NICHE, Reg.NVS_NS_INFO_NSID, Reg.NVS_NS_INFO_PI_TYPE, Reg.NVS_NS_SIZE_NSZE,
    Reg.NVS_STATUS_FW_PENDING, Reg.RNG_EVROUTE_DEST, Reg.RNG_INFO_STATE, Reg.RNG_INFO_STOPPED, Reg.RNG_POLL_INTERVAL, Reg.RNG_PTRS_CONSUMER,
    Reg.RNG_RCNT_COUNT, Reg.RNG_RCNT_SAT, Reg.SCH_POL_CFG_BOUND, Reg.SCH_POL_CFG_NICHE, Reg.SCH_POL_GREEN_COUNT, Reg.SCH_POL_RED_COUNT,
    Reg.SCH_POL_YELLOW_COUNT, Reg.SCH_QUEUE_CFG_BOUND, Reg.SCH_QUEUE_CFG_LOCAL, Reg.SCH_QUEUE_CFG_NICHE, Reg.TBL_INFO_ENTRIES,
    Reg.TBL_INFO_LENGTHS, Reg.TBL_INFO_STASH, Reg.TLT_RETX_COUNT, Reg.TLT_RETX_SAT])) ∧
  (∀ (who : Issuer), keeps (.destroy who) [.cmds, .deferred, .events, .jnl, .nch, .pat] (Shows.journal ++ Shows.patinaLog ++
    Shows.nchCommand ++ [Reg.HIF_FN_INFO_TDI_STATE, Reg.HIF_STATUS_TDI_ERROR, Reg.NCH_INFO_STATE, Reg.NCH_PG_STATUS_STATE])) ∧
  (∀ (niche : Nat), keeps (.teardownDone niche) [.events, .nch] ([Reg.NCH_INFO_POOL, Reg.NCH_INFO_STATE, Reg.NCH_PG_STATUS_RESET_COUNT,
    Reg.NCH_POOL_INFO_FREE, Reg.NCH_QUOTA_LIMIT, Reg.NCH_QUOTA_USED, Reg.NCH_STACKED_BASE_MIB, Reg.NCH_STACKED_LEN_MIB,
    Reg.NCH_STATUS_IN_USE])) ∧
  (∀ (who : Issuer) (entry : Nat), keeps (.spoofWrite who entry) [.cmds, .events, .jnl, .nch, .pat] (Shows.journal ++ Shows.patinaLog ++
    Shows.nchCommand)) ∧
  (∀ (who : Issuer), keeps (.spoofMode who) [.cmds, .events, .jnl, .nch, .pat] (Shows.journal ++ Shows.patinaLog ++ Shows.nchCommand)) ∧
  (∀ (who : Issuer), keeps (.wakeSet who) [.cmds, .events, .jnl, .nch, .pat] (Shows.journal ++ Shows.patinaLog ++ Shows.nchCommand)) ∧
  (∀ (who : Issuer) (block : Nat), keeps (.logStart who block) [.cmds, .deferred, .events, .jnl, .pat] (Shows.journal ++ Shows.patinaLog ++
    Shows.nchCommand)) ∧
  (∀ (who : Issuer), keeps (.harvest who) [.cmds, .deferred, .events, .jnl, .pat] (Shows.journal ++ Shows.patinaLog ++ Shows.nchCommand)) ∧
  (keeps .harvestCopyDone [.cmds, .events, .jnl, .nch, .out] (Shows.journal ++ Shows.nchCommand ++ [Reg.NCH_QUOTA_USED])) ∧
  (∀ (who : Issuer), keeps (.logStop who) [.cmds, .deferred, .events, .jnl, .pat] (Shows.journal ++ Shows.patinaLog ++ Shows.nchCommand)) ∧
  (∀ (who : Issuer) (value : Nat), keeps (.nicheCounterClear who value) [.events, .pat] (Shows.patinaLog ++ [Reg.NCH_PG_RX_DROP_COUNT,
    Reg.NCH_PG_RX_DROP_SAT, Reg.NCH_PG_SPOOF_DROP_COUNT, Reg.NCH_PG_SPOOF_DROP_SAT])) ∧
  (∀ (ap : Nat) (tag : Nat) (status : Nat) (data : List Byte), keeps (.hostReadCompletion ap tag status data) [.acc, .cmds, .dma, .events,
    .fab, .free, .hif, .jnl, .mem, .nch, .nvs, .out, .pat, .prs, .rgl, .rng, .sch, .stk, .til, .tlt] (Shows.journal ++ Shows.patinaLog ++
    Shows.saturation ++ Shows.completions ++ Shows.nvsErrors ++ Shows.dmaErrors ++ Shows.dmaChannel ++ Shows.accErrors ++ Shows.frameLeaves
    ++ Shows.turelmSends ++ Shows.nakLast ++ Shows.lateFails ++ Shows.nvsCommand ++ Shows.fabCommand ++ [Reg.ACC_SLICE_QUEUED,
    Reg.FAB_APT_ERR_COUNT, Reg.FAB_APT_ERR_SAT, Reg.FAB_GRANT_DROP_COUNT, Reg.FAB_GRANT_DROP_SAT, Reg.FAB_POOL_OPS_COUNT,
    Reg.FAB_STATUS_GRANT_DROP, Reg.HIF_LATE_CPL_COUNT, Reg.HIF_LATE_CPL_SAT, Reg.HIF_STATUS_LATE_CPL, Reg.HIF_TAG_STATUS_IN_USE,
    Reg.HIF_TAG_STATUS_QUARANTINED, Reg.NVS_CMD_CNT_COUNT, Reg.NVS_INFLIGHT_PEAK, Reg.PRS_CL_DROP_COUNT, Reg.PRS_CL_DROP_SAT,
    Reg.PRS_CL_INFO_QUEUE, Reg.PRS_STATUS_CL_DROP, Reg.RGL_POWER_GATED, Reg.RNG_INFO_STOPPED, Reg.RNG_PTRS_CONSUMER, Reg.RNG_RCNT_COUNT,
    Reg.RNG_RCNT_SAT, Reg.TIL_CH_INFO_LOST, Reg.TLT_CTX_EVICTED, Reg.TLT_CTX_ONDIE, Reg.TLT_CTX_RECALL_HELD, Reg.TLT_DUP_DROP_COUNT,
    Reg.TLT_DUP_DROP_SAT, Reg.TLT_NAK_TX_COUNT, Reg.TLT_NAK_TX_SAT, Reg.TLT_PEER_INFO_OUTSTANDING, Reg.TLT_RETX_COUNT, Reg.TLT_RETX_SAT,
    Reg.TLT_STATUS_TRK_FULL, Reg.TLT_TRK_RECV_USED, Reg.TLT_TRK_SEND_USED, Reg.TLT_WIN_DROP_COUNT, Reg.TLT_WIN_DROP_SAT])) ∧
  (∀ (ap : Nat) (tag : Nat), keeps (.readTimeout ap tag) [.acc, .cmds, .dma, .events, .fab, .free, .hif, .jnl, .mem, .nch, .nvs, .out, .prs,
    .rng, .sch, .stk, .til, .tlt] (Shows.journal ++ Shows.saturation ++ Shows.completions ++ Shows.nvsErrors ++ Shows.dmaErrors ++
    Shows.dmaChannel ++ Shows.accErrors ++ Shows.frameLeaves ++ Shows.turelmSends ++ Shows.nakLast ++ Shows.lateFails ++ Shows.nvsCommand ++
    Shows.fabCommand ++ [Reg.ACC_SLICE_QUEUED, Reg.FAB_APT_ERR_COUNT, Reg.FAB_APT_ERR_SAT, Reg.FAB_GRANT_DROP_COUNT, Reg.FAB_GRANT_DROP_SAT,
    Reg.FAB_POOL_OPS_COUNT, Reg.FAB_STATUS_GRANT_DROP, Reg.HIF_STATUS_CPL_TIMEOUT, Reg.HIF_TAG_STATUS_IN_USE,
    Reg.HIF_TAG_STATUS_QUARANTINED, Reg.HIF_TIMEOUT_CNT_COUNT, Reg.HIF_TIMEOUT_CNT_SAT, Reg.NVS_CMD_CNT_COUNT, Reg.NVS_INFLIGHT_PEAK,
    Reg.PRS_CL_DROP_COUNT, Reg.PRS_CL_DROP_SAT, Reg.PRS_CL_INFO_QUEUE, Reg.PRS_STATUS_CL_DROP, Reg.RGL_POWER_GATED, Reg.TIL_CH_INFO_LOST,
    Reg.TLT_CTX_EVICTED, Reg.TLT_CTX_ONDIE, Reg.TLT_CTX_RECALL_HELD, Reg.TLT_DUP_DROP_COUNT, Reg.TLT_DUP_DROP_SAT, Reg.TLT_NAK_TX_COUNT,
    Reg.TLT_NAK_TX_SAT, Reg.TLT_PEER_INFO_OUTSTANDING, Reg.TLT_RETX_COUNT, Reg.TLT_RETX_SAT, Reg.TLT_STATUS_TRK_FULL, Reg.TLT_TRK_RECV_USED,
    Reg.TLT_TRK_SEND_USED, Reg.TLT_WIN_DROP_COUNT, Reg.TLT_WIN_DROP_SAT])) ∧
  (∀ (ap : Nat) (tag : Nat), keeps (.tagQuarantineEnd ap tag) [.hif, .out] ([Reg.HIF_TAG_STATUS_IN_USE, Reg.HIF_TAG_STATUS_QUARANTINED]))

/-- R247, R255, R269, R297, R324, R338, R353: For every state and all operands, whatever a command answers: every part of the state and
  every register field but those listed for the command is as before. Device memory is listed only for the commands that may store; where it
  is not, every byte is unchanged. The queue of waiting commands is listed for none. Only keepsParts, for commands that set register fields
  chosen by their operands or by what waits, leaves the register fields open. -/
def Obligations.RingAndTileFrames : Prop :=
  (∀ (who : Issuer) (desc : Nat), keeps (.rngCreate who desc) [.cmds, .events, .jnl, .pat, .rng] (Shows.journal ++ Shows.patinaLog ++
    Shows.ringShows ++ Shows.rngCommand ++ [Reg.NCH_QUOTA_USED, Reg.RNG_INFO_ARMED, Reg.RNG_INFO_IDLE, Reg.RNG_INFO_STATE,
    Reg.RNG_INFO_STOPPED, Reg.RNG_POLL_INTERVAL, Reg.RNG_PTRS_CONSUMER, Reg.RNG_PTRS_HELD, Reg.RNG_PTRS_IN_FLIGHT, Reg.RNG_PTRS_PRODUCER,
    Reg.RNG_RCNT_COUNT, Reg.RNG_RCNT_SAT])) ∧
  (∀ (who : Issuer), keeps (.rngEnable who) [.cmds, .deferred, .events, .jnl, .pat] (Shows.journal ++ Shows.patinaLog ++ Shows.rngCommand))
    ∧
  (∀ (who : Issuer), keeps (.rngDisable who) [.cmds, .deferred, .events, .jnl, .pat] (Shows.journal ++ Shows.patinaLog ++ Shows.rngCommand))
    ∧
  (∀ (who : Issuer), keeps (.rngDestroy who) [.cmds, .events, .jnl, .pat, .rng] (Shows.journal ++ Shows.patinaLog ++ Shows.ringShows ++
    Shows.rngCommand ++ [Reg.NCH_QUOTA_USED, Reg.RNG_EVROUTE_DEST, Reg.RNG_INFO_ARMED, Reg.RNG_INFO_IDLE, Reg.RNG_INFO_STATE,
    Reg.RNG_INFO_STOPPED, Reg.RNG_POLL_INTERVAL, Reg.RNG_PTRS_CONSUMER, Reg.RNG_PTRS_PRODUCER, Reg.RNG_RCNT_COUNT, Reg.RNG_RCNT_SAT])) ∧
  (∀ (w : Work) (desc : Nat), keeps (.ringCreate w desc) [.events, .jnl, .nch, .out, .rng, .til] (Shows.journal ++ Shows.completions ++
    Shows.ringShows ++ [Reg.NCH_QUOTA_USED, Reg.RNG_INFO_STATE, Reg.RNG_INFO_STOPPED, Reg.RNG_POLL_INTERVAL, Reg.RNG_PTRS_CONSUMER,
    Reg.RNG_RCNT_COUNT, Reg.RNG_RCNT_SAT])) ∧
  (∀ (w : Work), keeps (.ringEnable w) [.deferred, .events, .jnl, .nch, .out, .rng, .til] (Shows.journal ++ Shows.completions)) ∧
  (∀ (w : Work), keeps (.ringDisable w) [.deferred, .events, .jnl, .nch, .out, .rng, .til] (Shows.journal ++ Shows.completions)) ∧
  (∀ (w : Work), keeps (.ringDestroy w) [.events, .jnl, .nch, .out, .rng, .til] (Shows.journal ++ Shows.completions ++ Shows.ringShows ++
    [Reg.NCH_QUOTA_USED, Reg.RNG_EVROUTE_DEST, Reg.RNG_INFO_STATE, Reg.RNG_INFO_STOPPED, Reg.RNG_POLL_INTERVAL, Reg.RNG_PTRS_CONSUMER,
    Reg.RNG_RCNT_COUNT, Reg.RNG_RCNT_SAT])) ∧
  (∀ (ring : Nat), keeps (.ringIdle ring) [.events] ([Reg.RNG_INFO_IDLE])) ∧
  (∀ (h : Nat), keeps (.ringPoll h) [.events, .hif, .out, .rng] (Shows.saturation ++ [Reg.HIF_TAG_STATUS_IN_USE,
    Reg.HIF_TAG_STATUS_QUARANTINED, Reg.RNG_POLL_DEFER_COUNT, Reg.RNG_POLL_DEFER_SAT, Reg.RNG_STATUS_POLL_DEFER])) ∧
  (∀ (ring : Nat) (entries : List Nat), keeps (.ringPollData ring entries) [.events, .hif, .nch, .out, .rgl, .rng, .til] (Shows.saturation
    ++ Shows.completions ++ [Reg.HIF_TAG_STATUS_IN_USE, Reg.HIF_TAG_STATUS_QUARANTINED, Reg.RNG_INFO_STOPPED, Reg.RNG_PTRS_CONSUMER,
    Reg.RNG_RCNT_COUNT, Reg.RNG_RCNT_SAT])) ∧
  (∀ (who : Issuer) (niche : Nat) (ring : Nat), keeps (.nudge who niche ring) [.deferred, .events, .pat] (Shows.patinaLog ++
    [Reg.RNG_ERR_LAST_KIND, Reg.RNG_ERR_LAST_NICHE, Reg.RNG_ERR_LAST_RING, Reg.RNG_ERR_LAST_STROKE, Reg.RNG_STATUS_RING_ERR])) ∧
  (∀ (who : Issuer) (off : Nat) (data : List Byte), keeps (.residentRingWrite who off data) [.events, .pat, .rng] (Shows.patinaLog ++
    [Reg.RNG_ERR_LAST_KIND, Reg.RNG_ERR_LAST_NICHE, Reg.RNG_ERR_LAST_RING, Reg.RNG_ERR_LAST_STROKE, Reg.RNG_PTRS_PRODUCER,
    Reg.RNG_STATUS_RING_ERR])) ∧
  (keeps .residentIntake [.events, .nch, .out, .rng, .til] (Shows.saturation ++ Shows.completions ++ [Reg.RNG_INFO_STOPPED,
    Reg.RNG_PTRS_CONSUMER, Reg.RNG_RCNT_COUNT, Reg.RNG_RCNT_SAT])) ∧
  (∀ (who : Issuer) (niche : Nat) (ring : Nat) (count : Nat) (arm : Bool), keeps (.cqRelease who niche ring count arm) [.deferred, .events,
    .nch, .out, .pat, .rng, .til] (Shows.patinaLog ++ Shows.completions ++ [Reg.RNG_ERR_LAST_KIND, Reg.RNG_ERR_LAST_NICHE,
    Reg.RNG_ERR_LAST_RING, Reg.RNG_ERR_LAST_STROKE, Reg.RNG_PTRS_CONSUMER, Reg.RNG_STATUS_RING_ERR])) ∧
  (∀ (who : Issuer) (niche : Nat) (ring : Nat) (count : Nat) (arm : Bool), keeps (.eqRelease who niche ring count arm) [.events, .pat, .rng]
    (Shows.patinaLog ++ [Reg.RNG_ERR_LAST_KIND, Reg.RNG_ERR_LAST_NICHE, Reg.RNG_ERR_LAST_RING, Reg.RNG_ERR_LAST_STROKE, Reg.RNG_INFO_ARMED,
    Reg.RNG_PTRS_CONSUMER, Reg.RNG_STATUS_RING_ERR])) ∧
  (∀ (ring : Nat), keeps (.cqRestart ring) [.rng] ([Reg.RNG_INFO_STOPPED])) ∧
  (∀ (ring : Nat), keeps (.eventMsixSend ring) [.out, .rng] ([Reg.RNG_INFO_ARMED])) ∧
  (∀ (w : Work), keeps (.nop w) [.events, .nch, .out, .rng, .til] (Shows.completions)) ∧
  (∀ (w : Work), keeps (.send w) [.events, .hif, .nch, .out, .rng, .til] (Shows.completions ++ [Reg.HIF_TAG_STATUS_IN_USE,
    Reg.HIF_TAG_STATUS_QUARANTINED])) ∧
  (∀ (w : Work), keeps (.recvPost w) [.rng] ([])) ∧
  (∀ (w : Work), keeps (.abort w) [.acc, .cmds, .dma, .events, .fab, .free, .hif, .jnl, .mem, .nch, .nvs, .out, .prs, .rng, .sch, .stk,
    .til, .tlt] (Shows.journal ++ Shows.saturation ++ Shows.completions ++ Shows.nvsErrors ++ Shows.dmaErrors ++ Shows.dmaChannel ++
    Shows.accErrors ++ Shows.frameLeaves ++ Shows.transit ++ Shows.turelmSends ++ Shows.lateFails ++ Shows.nvsCommand ++ Shows.fabCommand ++
    [Reg.ACC_SLICE_QUEUED, Reg.DMA_BEATS_COUNT, Reg.FAB_APT_ERR_COUNT, Reg.FAB_APT_ERR_SAT, Reg.FAB_GRANT_DROP_COUNT,
    Reg.FAB_GRANT_DROP_SAT, Reg.FAB_STATUS_GRANT_DROP, Reg.HIF_TAG_STATUS_IN_USE, Reg.HIF_TAG_STATUS_QUARANTINED, Reg.NCH_PG_RX_DROP_COUNT,
    Reg.NCH_PG_RX_DROP_SAT, Reg.NVS_CMD_CNT_COUNT, Reg.NVS_INFLIGHT_PEAK, Reg.PRS_CL_INFO_QUEUE, Reg.PRS_RO_STATUS_IN_FLIGHT,
    Reg.PRS_RO_STATUS_PEAK, Reg.RNG_RCNT_COUNT, Reg.RNG_RCNT_SAT, Reg.TIL_CH_INFO_LOST, Reg.TLT_PEER_INFO_OUTSTANDING, Reg.TLT_RETX_COUNT,
    Reg.TLT_RETX_SAT, Reg.TLT_TRK_RECV_USED, Reg.TLT_TRK_SEND_USED])) ∧
  (∀ (w : Work), keeps (.copy w) [.dma, .events, .nch, .out, .rng, .til] (Shows.saturation ++ Shows.completions ++ Shows.dmaErrors ++
    [Reg.DMA_STATUS_CAP_CLAMP])) ∧
  (∀ (w : Work), keeps (.fill w) [.dma, .events, .nch, .out, .rng, .til] (Shows.saturation ++ Shows.completions ++ Shows.dmaErrors ++
    [Reg.DMA_STATUS_CAP_CLAMP])) ∧
  (∀ (w : Work) (elements : List Nat), keeps (.list w elements) [.dma, .events, .nch, .out, .rng, .til] (Shows.saturation ++
    Shows.completions ++ Shows.dmaErrors ++ [Reg.DMA_STATUS_CAP_CLAMP])) ∧
  (∀ (prio : Nat), keeps (.dmaChannelStart prio) [.dma, .events, .fab, .free, .hif, .nch, .out, .rng, .sch, .stk, .til, .tlt]
    (Shows.saturation ++ Shows.completions ++ Shows.dmaErrors ++ Shows.dmaChannel ++ Shows.frameLeaves ++ Shows.turelmSends ++
    [Reg.HIF_TAG_STATUS_IN_USE, Reg.HIF_TAG_STATUS_QUARANTINED, Reg.TLT_PEER_INFO_OUTSTANDING, Reg.TLT_RETX_COUNT, Reg.TLT_RETX_SAT,
    Reg.TLT_TRK_RECV_USED, Reg.TLT_TRK_SEND_USED])) ∧
  (∀ (chan : Nat), keeps (.dmaHalfPoint chan) [.dma, .events, .fab, .free, .hif, .mem, .nch, .out, .rng, .sch, .stk, .til, .tlt]
    (Shows.saturation ++ Shows.completions ++ Shows.dmaErrors ++ Shows.dmaChannel ++ Shows.frameLeaves ++ Shows.turelmSends ++
    [Reg.DMA_BEATS_COUNT, Reg.HIF_TAG_STATUS_IN_USE, Reg.HIF_TAG_STATUS_QUARANTINED, Reg.TIL_CH_INFO_LOST, Reg.TLT_PEER_INFO_OUTSTANDING,
    Reg.TLT_RETX_COUNT, Reg.TLT_RETX_SAT, Reg.TLT_TRK_RECV_USED, Reg.TLT_TRK_SEND_USED])) ∧
  (∀ (chan : Nat), keeps (.dmaPassEnd chan) [.dma, .events, .fab, .free, .hif, .mem, .nch, .out, .rng, .sch, .stk, .til, .tlt]
    (Shows.saturation ++ Shows.completions ++ Shows.dmaErrors ++ Shows.dmaChannel ++ Shows.frameLeaves ++ Shows.turelmSends ++
    [Reg.DMA_BEATS_COUNT, Reg.HIF_TAG_STATUS_IN_USE, Reg.HIF_TAG_STATUS_QUARANTINED, Reg.TIL_CH_INFO_LOST, Reg.TLT_PEER_INFO_OUTSTANDING,
    Reg.TLT_RETX_COUNT, Reg.TLT_RETX_SAT, Reg.TLT_TRK_RECV_USED, Reg.TLT_TRK_SEND_USED])) ∧
  (∀ (hart : Nat), keeps (.tcWait hart) [.out, .til] ([Reg.TIL_THR_STATE_HI_STATE, Reg.TIL_THR_STATE_LO_STATE])) ∧
  (∀ (hart : Nat), keeps (.threadWake hart) [.out, .til] ([Reg.TIL_THR_STATE_HI_STATE, Reg.TIL_THR_STATE_LO_STATE])) ∧
  (∀ (hart : Nat) (ns : Nat), keeps (.timerEvent hart ns) [.til] ([])) ∧
  (∀ (hart : Nat) (value : Nat), keeps (.tcBind hart value) [.til] ([])) ∧
  (∀ (hart : Nat) (cycles : Nat), keeps (.tcStrokeDone hart cycles) [.til] ([Reg.TIL_SB_PEAK_C0, Reg.TIL_SB_PEAK_C1, Reg.TIL_SB_PEAK_C2,
    Reg.TIL_SB_PEAK_C3])) ∧
  (∀ (hart : Nat) (value : Nat), keeps (.tcChCommit hart value) [.til] ([Reg.TIL_CH_INFO_LEVEL])) ∧
  (∀ (chan : Nat), keeps (.chCommitUnblock chan) [.til] ([Reg.TIL_CH_INFO_LEVEL])) ∧
  (∀ (hart : Nat), keeps (.tcChDiscard hart) [.til] ([])) ∧
  (∀ (hart : Nat) (ch : Nat), keeps (.tcTake hart ch) [.out, .til] ([Reg.TIL_CH_INFO_LEVEL])) ∧
  (∀ (hart : Nat) (value : Nat), keeps (.tcItemDone hart value) [.events, .free, .nch, .out, .prs, .rng, .sch, .stk, .til] (Shows.saturation
    ++ Shows.completions ++ Shows.frameLeaves ++ Shows.transit ++ [Reg.NCH_PG_RX_DROP_COUNT, Reg.NCH_PG_RX_DROP_SAT, Reg.PRS_DEV_DROP_COUNT,
    Reg.PRS_DEV_DROP_SAT, Reg.PRS_DROP_LAST_NICHE, Reg.PRS_DROP_LAST_REASON, Reg.PRS_DROP_LAST_STROKE, Reg.PRS_RO_LATE_COUNT,
    Reg.PRS_RO_LATE_SAT, Reg.PRS_RO_STATUS_IN_FLIGHT, Reg.PRS_RO_STATUS_PEAK, Reg.PRS_STATUS_DEV_DROP, Reg.RNG_RCNT_COUNT,
    Reg.RNG_RCNT_SAT])) ∧
  (∀ (hart : Nat) (value : Nat), keeps (.tcDmaSubmit hart value) [.events, .nch, .out, .rng, .til] (Shows.completions)) ∧
  (∀ (hart : Nat) (mask : Nat), keeps (.supInject hart mask) [.til] ([])) ∧
  (∀ (hart : Nat) (mask : Nat), keeps (.supKill hart mask) [.events, .free, .nch, .out, .prs, .rng, .sch, .stk, .til] (Shows.saturation ++
    Shows.completions ++ Shows.frameLeaves ++ Shows.transit ++ [Reg.NCH_PG_RX_DROP_COUNT, Reg.NCH_PG_RX_DROP_SAT,
    Reg.PRS_RO_STATUS_IN_FLIGHT, Reg.PRS_RO_STATUS_PEAK, Reg.RNG_RCNT_COUNT, Reg.RNG_RCNT_SAT, Reg.TIL_DBG_HALTED,
    Reg.TIL_THR_STATE_HI_STATE, Reg.TIL_THR_STATE_LO_STATE])) ∧
  (∀ (hart : Nat) (mask : Nat), keeps (.supStart hart mask) [.til] ([Reg.TIL_THR_STATE_HI_STATE, Reg.TIL_THR_STATE_LO_STATE])) ∧
  (∀ (hart : Nat) (group : Nat), keeps (.supRestart hart group) [.events, .free, .nch, .out, .prs, .rng, .sch, .stk, .til] (Shows.saturation
    ++ Shows.completions ++ Shows.frameLeaves ++ Shows.transit ++ [Reg.NCH_PG_RX_DROP_COUNT, Reg.NCH_PG_RX_DROP_SAT,
    Reg.PRS_RO_STATUS_IN_FLIGHT, Reg.PRS_RO_STATUS_PEAK, Reg.RNG_RCNT_COUNT, Reg.RNG_RCNT_SAT, Reg.TIL_DBG_HALTED,
    Reg.TIL_THR_STATE_HI_STATE, Reg.TIL_THR_STATE_LO_STATE])) ∧
  (∀ (hart : Nat), keeps (.supDrainDone hart) [.deferred] ([])) ∧
  (∀ (hart : Nat) (mcause : Nat) (mepc : Nat) (mtval : Nat), keeps (.threadFault hart mcause mepc mtval) [.events, .free, .nch, .out, .prs,
    .rng, .sch, .stk, .til] (Shows.saturation ++ Shows.completions ++ Shows.frameLeaves ++ Shows.transit ++ [Reg.NCH_PG_RX_DROP_COUNT,
    Reg.NCH_PG_RX_DROP_SAT, Reg.PRS_RO_STATUS_IN_FLIGHT, Reg.PRS_RO_STATUS_PEAK, Reg.RNG_RCNT_COUNT, Reg.RNG_RCNT_SAT,
    Reg.TIL_FAULT_CNT_COUNT, Reg.TIL_FAULT_CNT_SAT, Reg.TIL_FAULT_LAST_CAUSE, Reg.TIL_FAULT_LAST_NICHE, Reg.TIL_FAULT_LAST_NICHE_CTX,
    Reg.TIL_FAULT_LAST_STROKE, Reg.TIL_FAULT_LAST_THREAD, Reg.TIL_STATUS_FAULT, Reg.TIL_THR_STATE_HI_STATE, Reg.TIL_THR_STATE_LO_STATE])) ∧
  (∀ (hart : Nat) (mcause : Nat), keeps (.supervisorFault hart mcause) [.deferred, .events, .pat, .svc] (Shows.patinaLog ++ Shows.saturation
    ++ [Reg.SVC_UNIT_INFO_CAUSE, Reg.TIL_FAULT_CNT_COUNT, Reg.TIL_FAULT_CNT_SAT, Reg.TIL_FAULT_LAST_CAUSE, Reg.TIL_FAULT_LAST_NICHE,
    Reg.TIL_FAULT_LAST_NICHE_CTX, Reg.TIL_FAULT_LAST_STROKE, Reg.TIL_FAULT_LAST_THREAD, Reg.TIL_STATUS_FAULT])) ∧
  (∀ (tile : Nat) (group : Nat), keeps (.waitCycleReport tile group) [.events, .pat, .til] (Shows.patinaLog ++ [Reg.TIL_CH_INFO_LEVEL,
    Reg.TIL_WAITGRP_REPORTED])) ∧
  (∀ (tile : Nat) (group : Nat), keeps (.waitGroupRestart tile group) [.events, .free, .jnl, .nch, .out, .prs, .rng, .sch, .stk, .til]
    (Shows.journal ++ Shows.saturation ++ Shows.completions ++ Shows.frameLeaves ++ Shows.transit ++ [Reg.NCH_PG_RX_DROP_COUNT,
    Reg.NCH_PG_RX_DROP_SAT, Reg.PRS_RO_STATUS_IN_FLIGHT, Reg.PRS_RO_STATUS_PEAK, Reg.RNG_RCNT_COUNT, Reg.RNG_RCNT_SAT, Reg.TIL_DBG_HALTED,
    Reg.TIL_THR_STATE_HI_STATE, Reg.TIL_THR_STATE_LO_STATE])) ∧
  (∀ (hart : Nat) (kind : Nat) (addr : Nat) (value : Nat), keeps (.debugAccess hart kind addr value) [.events, .mem, .out, .pat]
    (Shows.patinaLog)) ∧
  (∀ (hart : Nat), keeps (.debugHalt hart) [.events, .out, .pat, .til] (Shows.patinaLog ++ [Reg.TIL_DBG_HALTED, Reg.TIL_THR_STATE_HI_STATE,
    Reg.TIL_THR_STATE_LO_STATE])) ∧
  (∀ (hart : Nat), keeps (.debugResume hart) [.events, .out, .pat, .til] (Shows.patinaLog ++ [Reg.TIL_DBG_HALTED,
    Reg.TIL_THR_STATE_HI_STATE, Reg.TIL_THR_STATE_LO_STATE])) ∧
  (∀ (tile : Nat), keeps (.tileDebugHold tile) [.events, .jnl, .svc] (Shows.journal ++ Shows.availability ++ Shows.unitShows ++
    [Reg.PRS_SPR_ELIGIBLE, Reg.TIL_INFO_DEBUG_HELD, Reg.TIL_STATUS_DEBUG])) ∧
  (∀ (tile : Nat), keeps (.tileDebugRelease tile) [.events, .jnl, .svc] (Shows.journal ++ Shows.availability ++ Shows.unitShows ++
    [Reg.PRS_SPR_ELIGIBLE, Reg.TIL_INFO_DEBUG_HELD, Reg.TIL_INFO_SHARE_LOG2, Reg.TIL_STATUS_DEBUG])) ∧
  (∀ (hart : Nat), keeps (.stagedDiscard hart) [.events, .jnl, .til] (Shows.journal ++ [Reg.TIL_STATUS_STAGED_DISCARD]))

/-- R372, R385, R396, R425, R436, R464, R487: For every state and all operands, whatever a command answers: every part of the state and
  every register field but those listed for the command is as before. Device memory is listed only for the commands that may store; where it
  is not, every byte is unchanged. The queue of waiting commands is listed for none. Only keepsParts, for commands that set register fields
  chosen by their operands or by what waits, leaves the register fields open. -/
def Obligations.DatapathFrames : Prop :=
  (∀ (mac : Nat) (data : List Byte) (ns : Nat) (sub : Nat), keeps (.frameReceive mac data ns sub) [.events, .free, .hif, .nch, .out, .prs,
    .rng, .til] (Shows.saturation ++ Shows.completions ++ [Reg.PRS_CL_DROP_COUNT, Reg.PRS_CL_DROP_SAT, Reg.PRS_CL_INFO_QUEUE,
    Reg.PRS_STATUS_CL_DROP, Reg.PWR_LP_DROP_COUNT, Reg.PWR_LP_DROP_SAT, Reg.RGL_POWER_GATED])) ∧
  (∀ (id : Nat) (engine : Nat) (vec : Nat), keeps (.parseFrame id engine vec) [.events, .nch, .out, .prs, .rng, .til] (Shows.saturation ++
    Shows.completions ++ [Reg.NCH_PG_SPOOF_DROP_COUNT, Reg.NCH_PG_SPOOF_DROP_SAT, Reg.NCH_SPOOF_LAST_CHECK, Reg.NCH_SPOOF_LAST_NICHE,
    Reg.NCH_SPOOF_LAST_STROKE, Reg.NCH_STATUS_SPOOF, Reg.PRS_CL_EXC_COUNT, Reg.PRS_CL_EXC_SAT, Reg.PRS_CL_INFO_QUEUE,
    Reg.PRS_EXC_LAST_CLUSTER, Reg.PRS_EXC_LAST_ENGINE, Reg.PRS_EXC_LAST_STROKE, Reg.PRS_EXC_LAST_VERDICT, Reg.PRS_STATUS_PARSE_EXC])) ∧
  (∀ (id : Nat) (park : Nat), keeps (.pipelineEntry id park) [.acc, .events, .free, .nch, .out, .prs, .rng, .sch, .tbl, .til]
    (Shows.saturation ++ Shows.completions ++ Shows.accErrors ++ [Reg.ACC_INLINE_DROP_COUNT, Reg.ACC_INLINE_DROP_SAT,
    Reg.ACC_STATUS_INLINE_DROP, Reg.PRS_CNT_BYTE_LO_BYTES, Reg.PRS_CNT_PKT_COUNT, Reg.PRS_RO_STATUS_IN_FLIGHT, Reg.PRS_RO_STATUS_PEAK,
    Reg.PRS_STATUS_RO_FULL, Reg.SCH_POL_GREEN_COUNT, Reg.SCH_POL_RED_COUNT, Reg.SCH_POL_YELLOW_COUNT, Reg.TBL_HITS_COUNT,
    Reg.TBL_INFO_ENTRIES, Reg.TBL_INFO_LENGTHS, Reg.TBL_INFO_STASH, Reg.TBL_L2_LEARN_DROP_COUNT, Reg.TBL_L2_LEARN_DROP_SAT,
    Reg.TBL_L2_STATIC_HIT_COUNT, Reg.TBL_L2_STATIC_HIT_SAT, Reg.TBL_LOOKUPS_COUNT, Reg.TBL_STATUS_LEARN_DROP])) ∧
  (∀ (id : Nat) (park : Nat), keeps (.parkLookupReturn id park) [.acc, .events, .free, .nch, .out, .prs, .rng, .sch, .tbl, .til]
    (Shows.saturation ++ Shows.completions ++ Shows.accErrors ++ [Reg.ACC_INLINE_DROP_COUNT, Reg.ACC_INLINE_DROP_SAT,
    Reg.ACC_STATUS_INLINE_DROP, Reg.PRS_CNT_BYTE_LO_BYTES, Reg.PRS_CNT_PKT_COUNT, Reg.SCH_POL_GREEN_COUNT, Reg.SCH_POL_RED_COUNT,
    Reg.SCH_POL_YELLOW_COUNT, Reg.TBL_HITS_COUNT, Reg.TBL_INFO_ENTRIES, Reg.TBL_INFO_LENGTHS, Reg.TBL_INFO_STASH,
    Reg.TBL_L2_LEARN_DROP_COUNT, Reg.TBL_L2_LEARN_DROP_SAT, Reg.TBL_L2_STATIC_HIT_COUNT, Reg.TBL_L2_STATIC_HIT_SAT, Reg.TBL_LOOKUPS_COUNT,
    Reg.TBL_STATUS_LEARN_DROP])) ∧
  (∀ (id : Nat), keeps (.residencyTimeout id) [.events, .free, .nch, .out, .prs, .rng, .sch, .stk, .til] (Shows.saturation ++
    Shows.completions ++ Shows.frameLeaves ++ Shows.transit ++ [Reg.NCH_PG_RX_DROP_COUNT, Reg.NCH_PG_RX_DROP_SAT, Reg.PRS_DEV_DROP_COUNT,
    Reg.PRS_DEV_DROP_SAT, Reg.PRS_DROP_LAST_NICHE, Reg.PRS_DROP_LAST_REASON, Reg.PRS_DROP_LAST_STROKE, Reg.PRS_RO_STATUS_IN_FLIGHT,
    Reg.PRS_RO_STATUS_PEAK, Reg.PRS_STATUS_DEV_DROP, Reg.RNG_RCNT_COUNT, Reg.RNG_RCNT_SAT])) ∧
  (∀ (id : Nat) (patch : List (Nat × Byte)), keeps (.pipelineExit id patch) [.events, .free, .nch, .out, .prs, .rng, .sch, .stk, .til]
    (Shows.saturation ++ Shows.completions ++ Shows.frameLeaves ++ Shows.transit ++ [Reg.NCH_PG_RX_DROP_COUNT, Reg.NCH_PG_RX_DROP_SAT,
    Reg.PRS_DEV_DROP_COUNT, Reg.PRS_DEV_DROP_SAT, Reg.PRS_DROP_LAST_NICHE, Reg.PRS_DROP_LAST_REASON, Reg.PRS_DROP_LAST_STROKE,
    Reg.PRS_RO_LATE_COUNT, Reg.PRS_RO_LATE_SAT, Reg.PRS_RO_STATUS_IN_FLIGHT, Reg.PRS_RO_STATUS_PEAK, Reg.PRS_STATUS_DEV_DROP,
    Reg.RNG_RCNT_COUNT, Reg.RNG_RCNT_SAT])) ∧
  (keeps .spreaderDispatch [.mem, .prs, .til] ([Reg.PRS_SPR_ELIGIBLE, Reg.PRS_SPR_LAST, Reg.PRS_SPR_ROUND, Reg.TIL_CH_INFO_LEVEL])) ∧
  (∀ (domain : Nat), keeps (.reorderSkip domain) [.events, .free, .nch, .out, .prs, .rng, .sch, .stk, .til] (Shows.saturation ++
    Shows.completions ++ Shows.frameLeaves ++ Shows.transit ++ [Reg.NCH_PG_RX_DROP_COUNT, Reg.NCH_PG_RX_DROP_SAT, Reg.PRS_RO_SKIP_COUNT,
    Reg.PRS_RO_SKIP_SAT, Reg.PRS_RO_STATUS_IN_FLIGHT, Reg.PRS_RO_STATUS_PEAK, Reg.PRS_SKIP_LAST_DOMAIN, Reg.PRS_SKIP_LAST_SEQ,
    Reg.PRS_SKIP_LAST_TILE, Reg.PRS_STATUS_RO_SKIP, Reg.RNG_RCNT_COUNT, Reg.RNG_RCNT_SAT])) ∧
  (∀ (who : Issuer) (desc : Nat), keeps (.groupDefine who desc) [.cmds, .events, .jnl, .pat, .prs] (Shows.journal ++ Shows.patinaLog ++
    Shows.prsCommand ++ [Reg.PRS_TBL_CAP_DEFAULT_ACTION, Reg.PRS_TBL_CAP_DEFAULT_SET, Reg.PRS_TBL_INFO_GROUPS, Reg.PRS_TBL_INFO_RULES,
    Reg.PRS_VER_STAGED])) ∧
  (∀ (who : Issuer) (desc : Nat), keeps (.ruleWrite who desc) [.cmds, .events, .jnl, .pat, .prs] (Shows.journal ++ Shows.patinaLog ++
    Shows.prsCommand ++ [Reg.PRS_TBL_CAP_DEFAULT_ACTION, Reg.PRS_TBL_CAP_DEFAULT_SET, Reg.PRS_TBL_INFO_GROUPS, Reg.PRS_TBL_INFO_RULES,
    Reg.PRS_VER_STAGED])) ∧
  (∀ (who : Issuer) (desc : Nat), keeps (.ruleDelete who desc) [.cmds, .events, .jnl, .pat, .prs] (Shows.journal ++ Shows.patinaLog ++
    Shows.prsCommand ++ [Reg.PRS_TBL_CAP_DEFAULT_ACTION, Reg.PRS_TBL_CAP_DEFAULT_SET, Reg.PRS_TBL_INFO_GROUPS, Reg.PRS_TBL_INFO_RULES,
    Reg.PRS_VER_STAGED])) ∧
  (∀ (who : Issuer) (entry : Nat), keeps (.actionWrite who entry) [.cmds, .events, .jnl, .pat, .prs] (Shows.journal ++ Shows.patinaLog ++
    Shows.prsCommand ++ [Reg.PRS_TBL_CAP_DEFAULT_ACTION, Reg.PRS_TBL_CAP_DEFAULT_SET, Reg.PRS_TBL_INFO_GROUPS, Reg.PRS_TBL_INFO_RULES,
    Reg.PRS_VER_STAGED])) ∧
  (∀ (who : Issuer) (template : Nat), keeps (.templateWrite who template) [.cmds, .events, .jnl, .pat, .prs] (Shows.journal ++
    Shows.patinaLog ++ Shows.prsCommand ++ [Reg.PRS_TBL_CAP_DEFAULT_ACTION, Reg.PRS_TBL_CAP_DEFAULT_SET, Reg.PRS_TBL_INFO_GROUPS,
    Reg.PRS_TBL_INFO_RULES, Reg.PRS_VER_STAGED])) ∧
  (∀ (who : Issuer), keeps (.counterClear who) [.cmds, .events, .jnl, .pat] (Shows.journal ++ Shows.patinaLog ++ Shows.prsCommand ++
    [Reg.PRS_CNT_BYTE_LO_BYTES, Reg.PRS_CNT_PKT_COUNT])) ∧
  (∀ (who : Issuer), keeps (.defaultAction who) [.cmds, .events, .jnl, .pat, .prs] (Shows.journal ++ Shows.patinaLog ++ Shows.prsCommand ++
    [Reg.PRS_TBL_CAP_DEFAULT_ACTION, Reg.PRS_TBL_CAP_DEFAULT_SET, Reg.PRS_TBL_INFO_GROUPS, Reg.PRS_TBL_INFO_RULES, Reg.PRS_VER_STAGED])) ∧
  (∀ (who : Issuer), keeps (.verCommit who) [.cmds, .events, .jnl, .pat, .prs] (Shows.journal ++ Shows.patinaLog ++ Shows.prsCommand ++
    [Reg.PRS_VER_COMMIT_PENDING])) ∧
  (∀ (who : Issuer), keeps (.verAbort who) [.cmds, .events, .jnl, .pat, .prs, .tbl] (Shows.journal ++ Shows.patinaLog ++ Shows.prsCommand ++
    [Reg.NCH_QUOTA_USED, Reg.PRS_VER_STAGED, Reg.TBL_INFO_ENTRIES, Reg.TBL_INFO_LENGTHS, Reg.TBL_INFO_STASH])) ∧
  (keeps .versionSwitch [.prs, .tbl] ([Reg.NCH_QUOTA_USED, Reg.PRS_TBL_CAP_DEFAULT_ACTION, Reg.PRS_TBL_CAP_DEFAULT_SET,
    Reg.PRS_TBL_INFO_GROUPS, Reg.PRS_TBL_INFO_RULES, Reg.PRS_VER_COMMIT_PENDING, Reg.PRS_VER_COMMIT_STROKE, Reg.PRS_VER_LIVE,
    Reg.PRS_VER_OLD, Reg.PRS_VER_OLD_LIVE, Reg.PRS_VER_STAGED, Reg.TBL_INFO_ENTRIES, Reg.TBL_INFO_LENGTHS, Reg.TBL_INFO_STASH])) ∧
  (keeps .versionRetire [.events, .prs, .tbl] ([Reg.NCH_QUOTA_USED, Reg.PRS_VER_OLD_LIVE, Reg.TBL_INFO_ENTRIES, Reg.TBL_INFO_LENGTHS,
    Reg.TBL_INFO_STASH])) ∧
  (∀ (who : Issuer) (desc : Nat), keeps (.insert who desc) [.cmds, .events, .jnl, .pat, .tbl] (Shows.journal ++ Shows.patinaLog ++
    Shows.saturation ++ Shows.tblCommand ++ [Reg.NCH_QUOTA_USED, Reg.PRS_VER_STAGED, Reg.TBL_INFO_ENTRIES, Reg.TBL_INFO_LENGTHS,
    Reg.TBL_INFO_STASH, Reg.TBL_INS_FAIL_COUNT, Reg.TBL_INS_FAIL_SAT, Reg.TBL_REHASH_STATE, Reg.TBL_STATUS_REHASH_NEEDED])) ∧
  (∀ (who : Issuer) (desc : Nat), keeps (.delete who desc) [.cmds, .events, .jnl, .pat, .tbl] (Shows.journal ++ Shows.patinaLog ++
    Shows.tblCommand ++ [Reg.NCH_QUOTA_USED, Reg.PRS_VER_STAGED, Reg.TBL_INFO_ENTRIES, Reg.TBL_INFO_LENGTHS, Reg.TBL_INFO_STASH])) ∧
  (∀ (who : Issuer) (desc : Nat), keeps (.query who desc) [.cmds, .events, .jnl, .nch, .out, .pat] (Shows.journal ++ Shows.patinaLog ++
    Shows.tblCommand ++ [Reg.PRS_VER_STAGED])) ∧
  (∀ (who : Issuer) (desc : Nat), keeps (.pfxInsert who desc) [.cmds, .events, .jnl, .pat, .tbl] (Shows.journal ++ Shows.patinaLog ++
    Shows.saturation ++ Shows.tblCommand ++ [Reg.NCH_QUOTA_USED, Reg.PRS_VER_STAGED, Reg.TBL_INFO_ENTRIES, Reg.TBL_INFO_LENGTHS,
    Reg.TBL_INFO_STASH, Reg.TBL_INS_FAIL_COUNT, Reg.TBL_INS_FAIL_SAT, Reg.TBL_REHASH_STATE, Reg.TBL_STATUS_REHASH_NEEDED])) ∧
  (∀ (who : Issuer) (desc : Nat), keeps (.pfxDelete who desc) [.cmds, .events, .jnl, .pat, .tbl] (Shows.journal ++ Shows.patinaLog ++
    Shows.tblCommand ++ [Reg.NCH_QUOTA_USED, Reg.PRS_VER_STAGED, Reg.TBL_INFO_ENTRIES, Reg.TBL_INFO_LENGTHS, Reg.TBL_INFO_STASH])) ∧
  (∀ (who : Issuer), keeps (.l2Flush who) [.cmds, .events, .jnl, .pat, .tbl] (Shows.journal ++ Shows.patinaLog ++ Shows.tblCommand ++
    [Reg.NCH_QUOTA_USED, Reg.PRS_VER_STAGED, Reg.TBL_INFO_ENTRIES, Reg.TBL_INFO_LENGTHS, Reg.TBL_INFO_STASH])) ∧
  (∀ (w : Work) (desc : Nat), keeps (.flowInsert w desc) [.events, .jnl, .nch, .out, .rng, .tbl, .til] (Shows.journal ++ Shows.saturation ++
    Shows.completions ++ [Reg.NCH_QUOTA_USED, Reg.TBL_INFO_ENTRIES, Reg.TBL_INFO_LENGTHS, Reg.TBL_INFO_STASH, Reg.TBL_INS_FAIL_COUNT,
    Reg.TBL_INS_FAIL_SAT, Reg.TBL_REHASH_STATE, Reg.TBL_STATUS_REHASH_NEEDED])) ∧
  (∀ (w : Work) (desc : Nat), keeps (.flowDelete w desc) [.events, .jnl, .nch, .out, .rng, .tbl, .til] (Shows.journal ++ Shows.completions
    ++ [Reg.NCH_QUOTA_USED, Reg.TBL_INFO_ENTRIES, Reg.TBL_INFO_LENGTHS, Reg.TBL_INFO_STASH])) ∧
  (∀ (w : Work) (desc : Nat), keeps (.flowQuery w desc) [.events, .nch, .out, .rng, .til] (Shows.completions)) ∧
  (∀ (table : Nat), keeps (.l2Learn table) [.events, .tbl] (Shows.saturation ++ [Reg.NCH_QUOTA_USED, Reg.TBL_INFO_ENTRIES,
    Reg.TBL_INFO_LENGTHS, Reg.TBL_INFO_STASH, Reg.TBL_INS_FAIL_COUNT, Reg.TBL_INS_FAIL_SAT, Reg.TBL_L2_LEARN_DROP_COUNT,
    Reg.TBL_L2_LEARN_DROP_SAT, Reg.TBL_REHASH_STATE, Reg.TBL_STATUS_LEARN_DROP, Reg.TBL_STATUS_REHASH_NEEDED])) ∧
  (∀ (table : Nat), keeps (.l2Move table) [.events, .tbl] (Shows.saturation ++ [Reg.TBL_INFO_ENTRIES, Reg.TBL_INFO_LENGTHS,
    Reg.TBL_INFO_STASH, Reg.TBL_L2_FLAP_COUNT, Reg.TBL_L2_FLAP_SAT, Reg.TBL_L2_MOVES_COUNT, Reg.TBL_L2_MOVES_SAT, Reg.TBL_STATUS_L2_FLAP,
    Reg.TBL_STATUS_L2_MOVE])) ∧
  (∀ (table : Nat) (place : Nat), keeps (.moveFlagClear table place) [.tbl] ([])) ∧
  (∀ (table : Nat), keeps (.agingSweep table) [.events, .tbl] (Shows.saturation ++ [Reg.NCH_QUOTA_USED, Reg.TBL_AGED_COUNT,
    Reg.TBL_AGED_SAT, Reg.TBL_INFO_ENTRIES, Reg.TBL_INFO_LENGTHS, Reg.TBL_INFO_STASH])) ∧
  (∀ (who : Issuer), keeps (.rehashStart who) [.cmds, .events, .jnl, .pat, .tbl] (Shows.journal ++ Shows.patinaLog ++ Shows.tblCommand ++
    [Reg.PRS_VER_STAGED, Reg.TBL_REHASH_COPIED, Reg.TBL_REHASH_STATE, Reg.TBL_REHASH_TABLE])) ∧
  (keeps .rehashCopyDone [.events, .tbl] ([Reg.TBL_REHASH_COPIED, Reg.TBL_REHASH_STATE])) ∧
  (∀ (who : Issuer), keeps (.rehashSwitch who) [.cmds, .deferred, .events, .jnl, .pat] (Shows.journal ++ Shows.patinaLog ++ Shows.tblCommand
    ++ [Reg.PRS_VER_STAGED])) ∧
  (keeps .rehashSwitchEnd [.events, .tbl] ([Reg.TBL_REHASH_STATE])) ∧
  (∀ (who : Issuer), keeps (.rehashAbort who) [.cmds, .events, .jnl, .pat, .tbl] (Shows.journal ++ Shows.patinaLog ++ Shows.tblCommand ++
    [Reg.PRS_VER_STAGED, Reg.TBL_REHASH_STATE])) ∧
  (∀ (who : Issuer), keeps (.rehashStateRead who) [.events, .out, .pat] (Shows.patinaLog ++ [Reg.TBL_REHASH_STATE])) ∧
  (∀ (who : Issuer), keeps (.queueBind who) [.cmds, .events, .jnl, .pat, .sch] (Shows.journal ++ Shows.patinaLog ++ Shows.schCommand ++
    [Reg.NCH_QUOTA_USED, Reg.SCH_QUEUE_CFG_BOUND, Reg.SCH_QUEUE_CFG_LOCAL, Reg.SCH_QUEUE_CFG_NICHE])) ∧
  (∀ (who : Issuer), keeps (.queueUnbind who) [.cmds, .events, .jnl, .pat, .sch] (Shows.journal ++ Shows.patinaLog ++ Shows.schCommand ++
    [Reg.NCH_QUOTA_USED, Reg.SCH_QUEUE_CFG_BOUND, Reg.SCH_QUEUE_CFG_LOCAL, Reg.SCH_QUEUE_CFG_NICHE])) ∧
  (∀ (who : Issuer), keeps (.policerBind who) [.cmds, .events, .jnl, .pat] (Shows.journal ++ Shows.patinaLog ++ Shows.schCommand ++
    [Reg.NCH_QUOTA_USED, Reg.SCH_POL_CFG_BOUND, Reg.SCH_POL_CFG_NICHE])) ∧
  (∀ (who : Issuer), keeps (.policerUnbind who) [.cmds, .events, .jnl, .pat] (Shows.journal ++ Shows.patinaLog ++ Shows.schCommand ++
    [Reg.NCH_QUOTA_USED, Reg.SCH_POL_CFG_BOUND, Reg.SCH_POL_CFG_NICHE, Reg.SCH_POL_GREEN_COUNT, Reg.SCH_POL_RED_COUNT,
    Reg.SCH_POL_YELLOW_COUNT])) ∧
  (∀ (who : Issuer) (gcl : Nat), keeps (.gclSet who gcl) [.cmds, .events, .jnl, .pat, .sch] (Shows.journal ++ Shows.patinaLog ++
    Shows.schCommand ++ [Reg.SCH_GCL_PEND_SWITCH_TIME, Reg.SCH_GCL_STATUS_PENDING])) ∧
  (∀ (who : Issuer), keeps (.gclCancel who) [.cmds, .events, .jnl, .pat, .sch] (Shows.journal ++ Shows.patinaLog ++ Shows.schCommand ++
    [Reg.SCH_GCL_PEND_SWITCH_TIME, Reg.SCH_GCL_STATUS_PENDING])) ∧
  (∀ (port : Nat), keeps (.gclSwitch port) [.events, .sch] ([Reg.SCH_GCL_PEND_SWITCH_TIME, Reg.SCH_GCL_STATUS_BANK,
    Reg.SCH_GCL_STATUS_CYCLE, Reg.SCH_GCL_STATUS_ENTRY, Reg.SCH_GCL_STATUS_GATES, Reg.SCH_GCL_STATUS_OPER_VALID, Reg.SCH_GCL_STATUS_PENDING,
    Reg.SCH_GCL_STATUS_REMAIN, Reg.SCH_NODE_STATE_GATE_OPEN, Reg.SCH_STATUS_GCL_SWITCH])) ∧
  (∀ (who : Issuer) (value : Nat), keeps (.shaperChange who value) [.deferred, .events, .jnl, .pat] (Shows.journal ++ Shows.patinaLog ++
    [Reg.ARM_BOUND_LAST_OFFSET, Reg.ARM_BOUND_LAST_STROKE, Reg.ARM_STATUS_BOUND_VIOL])) ∧
  (∀ (who : Issuer) (mode : Nat), keeps (.policerApply who mode) [.deferred, .events, .jnl, .pat] (Shows.journal ++ Shows.patinaLog ++
    [Reg.ARM_BOUND_LAST_OFFSET, Reg.ARM_BOUND_LAST_STROKE, Reg.ARM_STATUS_BOUND_VIOL, Reg.SCH_POL_CFG_MODE])) ∧
  (∀ (port : Nat), keeps (.transmitListBuild port) [.events, .nch, .out, .rng, .sch, .stk, .til] (Shows.saturation ++ Shows.completions ++
    [Reg.SCH_NODE_STATE_BACKLOG_KIB, Reg.SCH_NODE_STATE_CREDIT, Reg.SCH_NODE_STATE_WAITING, Reg.SCH_SDU_DROP_COUNT, Reg.SCH_SDU_DROP_SAT,
    Reg.SCH_STATUS_SDU_DROP, Reg.STK_LATE_COUNT, Reg.STK_LATE_SAT, Reg.STK_STATUS_TXTS_OVF, Reg.STK_TXTS_DROP_COUNT,
    Reg.STK_TXTS_DROP_SAT])) ∧
  (∀ (port : Nat) (sub : Nat), keeps (.frameTransmit port sub) [.events, .free, .nch, .out, .rng, .sch, .stk, .til, .tlt] (Shows.saturation
    ++ Shows.completions ++ [Reg.SCH_Q_TX_BYTE_LO_BYTES, Reg.SCH_Q_TX_PKT_COUNT, Reg.STK_STATUS_TXTS_OVF, Reg.STK_TXTS_DROP_COUNT,
    Reg.STK_TXTS_DROP_SAT]))

/-- R512, R517, R522, R527, R536, R540, R544: For every state and all operands, whatever a command answers: every part of the state and
  every register field but those listed for the command is as before. Device memory is listed only for the commands that may store; where it
  is not, every byte is unchanged. The queue of waiting commands is listed for none. Only keepsParts, for commands that set register fields
  chosen by their operands or by what waits, leaves the register fields open. -/
def Obligations.TurelmFrames : Prop :=
  (∀ (w : Work), keeps (.tlWrite w) [.events, .fab, .free, .hif, .nch, .out, .rgl, .rng, .sch, .stk, .til, .tlt] (Shows.saturation ++
    Shows.completions ++ Shows.frameLeaves ++ Shows.turelmSends ++ [Reg.HIF_TAG_STATUS_IN_USE, Reg.HIF_TAG_STATUS_QUARANTINED,
    Reg.TLT_PEER_INFO_OUTSTANDING, Reg.TLT_RECALLS_COUNT, Reg.TLT_RETX_COUNT, Reg.TLT_RETX_SAT, Reg.TLT_TRK_RECV_USED,
    Reg.TLT_TRK_SEND_USED])) ∧
  (∀ (w : Work), keeps (.tlWriteImm w) [.events, .fab, .free, .hif, .nch, .out, .rgl, .rng, .sch, .stk, .til, .tlt] (Shows.saturation ++
    Shows.completions ++ Shows.frameLeaves ++ Shows.turelmSends ++ [Reg.HIF_TAG_STATUS_IN_USE, Reg.HIF_TAG_STATUS_QUARANTINED,
    Reg.TLT_PEER_INFO_OUTSTANDING, Reg.TLT_RECALLS_COUNT, Reg.TLT_RETX_COUNT, Reg.TLT_RETX_SAT, Reg.TLT_TRK_RECV_USED,
    Reg.TLT_TRK_SEND_USED])) ∧
  (∀ (w : Work), keeps (.tlSend w) [.events, .fab, .free, .hif, .nch, .out, .rgl, .rng, .sch, .stk, .til, .tlt] (Shows.saturation ++
    Shows.completions ++ Shows.frameLeaves ++ Shows.turelmSends ++ [Reg.HIF_TAG_STATUS_IN_USE, Reg.HIF_TAG_STATUS_QUARANTINED,
    Reg.TLT_PEER_INFO_OUTSTANDING, Reg.TLT_RECALLS_COUNT, Reg.TLT_RETX_COUNT, Reg.TLT_RETX_SAT, Reg.TLT_TRK_RECV_USED,
    Reg.TLT_TRK_SEND_USED])) ∧
  (∀ (w : Work), keeps (.tlRead w) [.events, .fab, .free, .hif, .nch, .out, .rgl, .rng, .sch, .stk, .til, .tlt] (Shows.saturation ++
    Shows.completions ++ Shows.frameLeaves ++ Shows.turelmSends ++ [Reg.HIF_TAG_STATUS_IN_USE, Reg.HIF_TAG_STATUS_QUARANTINED,
    Reg.TLT_PEER_INFO_OUTSTANDING, Reg.TLT_RECALLS_COUNT, Reg.TLT_RETX_COUNT, Reg.TLT_RETX_SAT, Reg.TLT_TRK_RECV_USED,
    Reg.TLT_TRK_SEND_USED])) ∧
  (∀ (w : Work), keeps (.tlAtomic w) [.events, .fab, .free, .hif, .nch, .out, .rgl, .rng, .sch, .stk, .til, .tlt] (Shows.saturation ++
    Shows.completions ++ Shows.frameLeaves ++ Shows.turelmSends ++ [Reg.HIF_TAG_STATUS_IN_USE, Reg.HIF_TAG_STATUS_QUARANTINED,
    Reg.TLT_PEER_INFO_OUTSTANDING, Reg.TLT_RECALLS_COUNT, Reg.TLT_RETX_COUNT, Reg.TLT_RETX_SAT, Reg.TLT_TRK_RECV_USED,
    Reg.TLT_TRK_SEND_USED])) ∧
  (∀ (w : Work), keeps (.tlFlush w) [.events, .fab, .free, .hif, .nch, .out, .rgl, .rng, .sch, .stk, .til, .tlt] (Shows.saturation ++
    Shows.completions ++ Shows.frameLeaves ++ Shows.turelmSends ++ [Reg.HIF_TAG_STATUS_IN_USE, Reg.HIF_TAG_STATUS_QUARANTINED,
    Reg.TLT_PEER_INFO_OUTSTANDING, Reg.TLT_RECALLS_COUNT, Reg.TLT_RETX_COUNT, Reg.TLT_RETX_SAT, Reg.TLT_TRK_RECV_USED,
    Reg.TLT_TRK_SEND_USED])) ∧
  (∀ (w : Work), keeps (.tlRecv w) [.events, .hif, .nch, .out, .rgl, .rng, .til, .tlt] (Shows.completions ++ [Reg.HIF_TAG_STATUS_IN_USE,
    Reg.HIF_TAG_STATUS_QUARANTINED, Reg.TLT_RECALLS_COUNT])) ∧
  (∀ (w : Work), keeps (.epOpen w) [.events, .free, .jnl, .nch, .out, .rng, .til, .tlt] (Shows.journal ++ Shows.completions ++
    [Reg.NCH_QUOTA_USED, Reg.TLT_CTX_EVICTED, Reg.TLT_CTX_ONDIE, Reg.TLT_CTX_RECALL_HELD])) ∧
  (∀ (w : Work), keeps (.epClose w) [.deferred, .events, .nch, .out, .rng, .til] (Shows.completions)) ∧
  (∀ (ep : Nat), keeps (.epHoldExpiry ep) [.tlt] ([])) ∧
  (∀ (w : Work), keeps (.winOpen w) [.deferred, .events, .free, .nch, .out, .rng, .til] (Shows.completions ++ [Reg.NCH_QUOTA_USED])) ∧
  (∀ (w : Work), keeps (.winRewrite w) [.deferred, .events, .free, .nch, .out, .rng, .til] (Shows.completions)) ∧
  (∀ (w : Work), keeps (.winRevoke w) [.deferred, .events, .nch, .out, .rng, .til] (Shows.completions)) ∧
  (∀ (index : Nat), keeps (.revokeFence index) [.cmds, .events, .jnl, .nch, .out, .rng, .til, .tlt] (Shows.journal ++ Shows.completions ++
    Shows.fabCommand)) ∧
  (∀ (index : Nat), keeps (.wrapHoldExpiry index) [.tlt] ([])) ∧
  (∀ (w : Work), keeps (.pdAlloc w) [.events, .free, .jnl, .nch, .out, .rng, .til, .tlt] (Shows.journal ++ Shows.completions ++
    [Reg.NCH_QUOTA_USED])) ∧
  (∀ (w : Work), keeps (.pdFree w) [.events, .jnl, .nch, .out, .rng, .til, .tlt] (Shows.journal ++ Shows.completions ++
    [Reg.NCH_QUOTA_USED])) ∧
  (∀ (p : TlPkt), keeps (.wireDataReceive p) [.cmds, .dma, .events, .fab, .free, .hif, .jnl, .mem, .nch, .nvs, .out, .rgl, .rng, .sch, .stk,
    .til, .tlt] (Shows.journal ++ Shows.saturation ++ Shows.completions ++ Shows.nvsErrors ++ Shows.dmaErrors ++ Shows.dmaChannel ++
    Shows.frameLeaves ++ Shows.turelmSends ++ Shows.nakLast ++ Shows.lateFails ++ Shows.nvsCommand ++ Shows.fabCommand ++
    [Reg.FAB_APT_ERR_COUNT, Reg.FAB_APT_ERR_SAT, Reg.FAB_GRANT_DROP_COUNT, Reg.FAB_GRANT_DROP_SAT, Reg.FAB_POOL_OPS_COUNT,
    Reg.FAB_STATUS_GRANT_DROP, Reg.HIF_TAG_STATUS_IN_USE, Reg.HIF_TAG_STATUS_QUARANTINED, Reg.NCH_PG_RX_DROP_COUNT, Reg.NCH_PG_RX_DROP_SAT,
    Reg.NVS_CMD_CNT_COUNT, Reg.NVS_INFLIGHT_PEAK, Reg.TIL_CH_INFO_LOST, Reg.TLT_CSUM_DROP_COUNT, Reg.TLT_CSUM_DROP_SAT, Reg.TLT_CTX_EVICTED,
    Reg.TLT_CTX_ONDIE, Reg.TLT_CTX_RECALL_HELD, Reg.TLT_DUP_DROP_COUNT, Reg.TLT_DUP_DROP_SAT, Reg.TLT_EPOCH_DROP_COUNT,
    Reg.TLT_EPOCH_DROP_SAT, Reg.TLT_NAK_TX_COUNT, Reg.TLT_NAK_TX_SAT, Reg.TLT_PEER_INFO_KNOWN, Reg.TLT_PEER_INFO_OUTSTANDING,
    Reg.TLT_PEER_INFO_PEER_EPOCH, Reg.TLT_RECALLS_COUNT, Reg.TLT_RECALL_OVF_COUNT, Reg.TLT_RECALL_OVF_SAT, Reg.TLT_RETX_COUNT,
    Reg.TLT_RETX_SAT, Reg.TLT_RX_BYTE_LO_BYTES, Reg.TLT_RX_PKT_COUNT, Reg.TLT_STATUS_PEER_EPOCH, Reg.TLT_STATUS_RECALL_OVF,
    Reg.TLT_STATUS_TRK_FULL, Reg.TLT_TRK_RECV_USED, Reg.TLT_TRK_SEND_USED, Reg.TLT_WIN_DROP_COUNT, Reg.TLT_WIN_DROP_SAT])) ∧
  (∀ (p : TlPkt), keeps (.wireReadReqReceive p) [.cmds, .dma, .events, .fab, .free, .hif, .jnl, .mem, .nch, .nvs, .out, .rgl, .rng, .sch,
    .stk, .til, .tlt] (Shows.journal ++ Shows.saturation ++ Shows.completions ++ Shows.nvsErrors ++ Shows.dmaErrors ++ Shows.dmaChannel ++
    Shows.frameLeaves ++ Shows.turelmSends ++ Shows.nakLast ++ Shows.lateFails ++ Shows.nvsCommand ++ Shows.fabCommand ++
    [Reg.FAB_APT_ERR_COUNT, Reg.FAB_APT_ERR_SAT, Reg.FAB_GRANT_DROP_COUNT, Reg.FAB_GRANT_DROP_SAT, Reg.FAB_POOL_OPS_COUNT,
    Reg.FAB_STATUS_GRANT_DROP, Reg.HIF_TAG_STATUS_IN_USE, Reg.HIF_TAG_STATUS_QUARANTINED, Reg.NCH_PG_RX_DROP_COUNT, Reg.NCH_PG_RX_DROP_SAT,
    Reg.NVS_CMD_CNT_COUNT, Reg.NVS_INFLIGHT_PEAK, Reg.TIL_CH_INFO_LOST, Reg.TLT_CSUM_DROP_COUNT, Reg.TLT_CSUM_DROP_SAT, Reg.TLT_CTX_EVICTED,
    Reg.TLT_CTX_ONDIE, Reg.TLT_CTX_RECALL_HELD, Reg.TLT_DUP_DROP_COUNT, Reg.TLT_DUP_DROP_SAT, Reg.TLT_EPOCH_DROP_COUNT,
    Reg.TLT_EPOCH_DROP_SAT, Reg.TLT_NAK_TX_COUNT, Reg.TLT_NAK_TX_SAT, Reg.TLT_PEER_INFO_KNOWN, Reg.TLT_PEER_INFO_OUTSTANDING,
    Reg.TLT_PEER_INFO_PEER_EPOCH, Reg.TLT_RECALLS_COUNT, Reg.TLT_RECALL_OVF_COUNT, Reg.TLT_RECALL_OVF_SAT, Reg.TLT_RETX_COUNT,
    Reg.TLT_RETX_SAT, Reg.TLT_RX_BYTE_LO_BYTES, Reg.TLT_RX_PKT_COUNT, Reg.TLT_STATUS_PEER_EPOCH, Reg.TLT_STATUS_RECALL_OVF,
    Reg.TLT_TRK_RECV_USED, Reg.TLT_TRK_SEND_USED, Reg.TLT_WIN_DROP_COUNT, Reg.TLT_WIN_DROP_SAT])) ∧
  (∀ (p : TlPkt), keeps (.wireAtomicReceive p) [.cmds, .dma, .events, .fab, .free, .hif, .jnl, .mem, .nch, .nvs, .out, .rgl, .rng, .sch,
    .stk, .til, .tlt] (Shows.journal ++ Shows.saturation ++ Shows.completions ++ Shows.nvsErrors ++ Shows.dmaErrors ++ Shows.dmaChannel ++
    Shows.frameLeaves ++ Shows.turelmSends ++ Shows.nakLast ++ Shows.lateFails ++ Shows.nvsCommand ++ Shows.fabCommand ++
    [Reg.FAB_APT_ERR_COUNT, Reg.FAB_APT_ERR_SAT, Reg.FAB_GRANT_DROP_COUNT, Reg.FAB_GRANT_DROP_SAT, Reg.FAB_POOL_OPS_COUNT,
    Reg.FAB_STATUS_GRANT_DROP, Reg.HIF_TAG_STATUS_IN_USE, Reg.HIF_TAG_STATUS_QUARANTINED, Reg.NCH_PG_RX_DROP_COUNT, Reg.NCH_PG_RX_DROP_SAT,
    Reg.NVS_CMD_CNT_COUNT, Reg.NVS_INFLIGHT_PEAK, Reg.TIL_CH_INFO_LOST, Reg.TLT_CSUM_DROP_COUNT, Reg.TLT_CSUM_DROP_SAT, Reg.TLT_CTX_EVICTED,
    Reg.TLT_CTX_ONDIE, Reg.TLT_CTX_RECALL_HELD, Reg.TLT_DUP_DROP_COUNT, Reg.TLT_DUP_DROP_SAT, Reg.TLT_EPOCH_DROP_COUNT,
    Reg.TLT_EPOCH_DROP_SAT, Reg.TLT_NAK_TX_COUNT, Reg.TLT_NAK_TX_SAT, Reg.TLT_PEER_INFO_KNOWN, Reg.TLT_PEER_INFO_OUTSTANDING,
    Reg.TLT_PEER_INFO_PEER_EPOCH, Reg.TLT_RECALLS_COUNT, Reg.TLT_RECALL_OVF_COUNT, Reg.TLT_RECALL_OVF_SAT, Reg.TLT_RETX_COUNT,
    Reg.TLT_RETX_SAT, Reg.TLT_RX_BYTE_LO_BYTES, Reg.TLT_RX_PKT_COUNT, Reg.TLT_STATUS_PEER_EPOCH, Reg.TLT_STATUS_RECALL_OVF,
    Reg.TLT_STATUS_TRK_FULL, Reg.TLT_TRK_RECV_USED, Reg.TLT_TRK_SEND_USED, Reg.TLT_WIN_DROP_COUNT, Reg.TLT_WIN_DROP_SAT])) ∧
  (∀ (p : TlPkt), keeps (.wireFlushReceive p) [.cmds, .dma, .events, .fab, .free, .hif, .jnl, .mem, .nch, .nvs, .out, .rng, .sch, .stk,
    .til, .tlt] (Shows.journal ++ Shows.saturation ++ Shows.completions ++ Shows.nvsErrors ++ Shows.dmaErrors ++ Shows.dmaChannel ++
    Shows.frameLeaves ++ Shows.turelmSends ++ Shows.lateFails ++ Shows.nvsCommand ++ Shows.fabCommand ++ [Reg.FAB_APT_ERR_COUNT,
    Reg.FAB_APT_ERR_SAT, Reg.FAB_GRANT_DROP_COUNT, Reg.FAB_GRANT_DROP_SAT, Reg.FAB_STATUS_GRANT_DROP, Reg.HIF_TAG_STATUS_IN_USE,
    Reg.HIF_TAG_STATUS_QUARANTINED, Reg.NVS_CMD_CNT_COUNT, Reg.NVS_INFLIGHT_PEAK, Reg.TIL_CH_INFO_LOST, Reg.TLT_CSUM_DROP_COUNT,
    Reg.TLT_CSUM_DROP_SAT, Reg.TLT_EPOCH_DROP_COUNT, Reg.TLT_EPOCH_DROP_SAT, Reg.TLT_PEER_INFO_KNOWN, Reg.TLT_PEER_INFO_OUTSTANDING,
    Reg.TLT_PEER_INFO_PEER_EPOCH, Reg.TLT_RETX_COUNT, Reg.TLT_RETX_SAT, Reg.TLT_RX_BYTE_LO_BYTES, Reg.TLT_RX_PKT_COUNT,
    Reg.TLT_STATUS_PEER_EPOCH, Reg.TLT_TRK_RECV_USED, Reg.TLT_TRK_SEND_USED, Reg.TLT_WIN_DROP_COUNT, Reg.TLT_WIN_DROP_SAT])) ∧
  (∀ (peer : Nat) (msg : Nat), keeps (.flushVisibilityDone peer msg) [.events, .fab, .free, .nch, .out, .rng, .sch, .stk, .til, .tlt]
    (Shows.saturation ++ Shows.completions ++ Shows.frameLeaves ++ Shows.turelmSends)) ∧
  (∀ (p : TlPkt), keeps (.wireAbandonReceive p) [.cmds, .dma, .events, .fab, .free, .jnl, .mem, .nch, .nvs, .out, .rng, .sch, .stk, .til,
    .tlt] (Shows.journal ++ Shows.saturation ++ Shows.completions ++ Shows.nvsErrors ++ Shows.dmaErrors ++ Shows.dmaChannel ++
    Shows.frameLeaves ++ Shows.turelmSends ++ Shows.nakLast ++ Shows.lateFails ++ Shows.nvsCommand ++ Shows.fabCommand ++
    [Reg.FAB_APT_ERR_COUNT, Reg.FAB_APT_ERR_SAT, Reg.FAB_GRANT_DROP_COUNT, Reg.FAB_GRANT_DROP_SAT, Reg.FAB_STATUS_GRANT_DROP,
    Reg.NVS_CMD_CNT_COUNT, Reg.NVS_INFLIGHT_PEAK, Reg.TIL_CH_INFO_LOST, Reg.TLT_CSUM_DROP_COUNT, Reg.TLT_CSUM_DROP_SAT,
    Reg.TLT_DUP_DROP_COUNT, Reg.TLT_DUP_DROP_SAT, Reg.TLT_EPOCH_DROP_COUNT, Reg.TLT_EPOCH_DROP_SAT, Reg.TLT_NAK_TX_COUNT,
    Reg.TLT_NAK_TX_SAT, Reg.TLT_PEER_INFO_KNOWN, Reg.TLT_PEER_INFO_OUTSTANDING, Reg.TLT_PEER_INFO_PEER_EPOCH, Reg.TLT_RETX_COUNT,
    Reg.TLT_RETX_SAT, Reg.TLT_RX_BYTE_LO_BYTES, Reg.TLT_RX_PKT_COUNT, Reg.TLT_STATUS_PEER_EPOCH, Reg.TLT_TRK_RECV_USED,
    Reg.TLT_TRK_SEND_USED, Reg.TLT_WIN_DROP_COUNT, Reg.TLT_WIN_DROP_SAT])) ∧
  (∀ (peer : Nat) (msg : Nat), keeps (.orderedCompletionRelease peer msg) [.events, .fab, .free, .nch, .out, .rng, .sch, .stk, .til, .tlt]
    (Shows.saturation ++ Shows.completions ++ Shows.frameLeaves ++ Shows.turelmSends ++ [Reg.TLT_TRK_RECV_USED, Reg.TLT_TRK_SEND_USED])) ∧
  (∀ (peer : Nat) (msg : Nat), keeps (.deferredAck peer msg) [.events, .fab, .free, .nch, .out, .rng, .sch, .stk, .til, .tlt]
    (Shows.saturation ++ Shows.completions ++ Shows.frameLeaves ++ Shows.turelmSends ++ [Reg.TLT_TRK_RECV_USED, Reg.TLT_TRK_SEND_USED])) ∧
  (∀ (p : TlPkt), keeps (.wireReadRespReceive p) [.cmds, .dma, .events, .fab, .free, .hif, .jnl, .mem, .nch, .nvs, .out, .rgl, .rng, .sch,
    .stk, .til, .tlt] (Shows.journal ++ Shows.saturation ++ Shows.completions ++ Shows.nvsErrors ++ Shows.dmaErrors ++ Shows.dmaChannel ++
    Shows.frameLeaves ++ Shows.turelmSends ++ Shows.nakLast ++ Shows.lateFails ++ Shows.nvsCommand ++ Shows.fabCommand ++
    [Reg.FAB_APT_ERR_COUNT, Reg.FAB_APT_ERR_SAT, Reg.FAB_GRANT_DROP_COUNT, Reg.FAB_GRANT_DROP_SAT, Reg.FAB_STATUS_GRANT_DROP,
    Reg.HIF_TAG_STATUS_IN_USE, Reg.HIF_TAG_STATUS_QUARANTINED, Reg.NVS_CMD_CNT_COUNT, Reg.NVS_INFLIGHT_PEAK, Reg.TIL_CH_INFO_LOST,
    Reg.TLT_CSUM_DROP_COUNT, Reg.TLT_CSUM_DROP_SAT, Reg.TLT_CTX_EVICTED, Reg.TLT_CTX_ONDIE, Reg.TLT_CTX_RECALL_HELD, Reg.TLT_DUP_DROP_COUNT,
    Reg.TLT_DUP_DROP_SAT, Reg.TLT_EPOCH_DROP_COUNT, Reg.TLT_EPOCH_DROP_SAT, Reg.TLT_NAK_TX_COUNT, Reg.TLT_NAK_TX_SAT,
    Reg.TLT_PEER_INFO_KNOWN, Reg.TLT_PEER_INFO_OUTSTANDING, Reg.TLT_PEER_INFO_PEER_EPOCH, Reg.TLT_RECALLS_COUNT, Reg.TLT_RECALL_OVF_COUNT,
    Reg.TLT_RECALL_OVF_SAT, Reg.TLT_RETX_COUNT, Reg.TLT_RETX_SAT, Reg.TLT_RX_BYTE_LO_BYTES, Reg.TLT_RX_PKT_COUNT, Reg.TLT_STATUS_PEER_EPOCH,
    Reg.TLT_STATUS_RECALL_OVF, Reg.TLT_TRK_RECV_USED, Reg.TLT_TRK_SEND_USED])) ∧
  (∀ (p : TlPkt), keeps (.wireAtomicRespReceive p) [.cmds, .dma, .events, .fab, .free, .hif, .jnl, .mem, .nch, .nvs, .out, .rgl, .rng, .sch,
    .stk, .til, .tlt] (Shows.journal ++ Shows.saturation ++ Shows.completions ++ Shows.nvsErrors ++ Shows.dmaErrors ++ Shows.dmaChannel ++
    Shows.frameLeaves ++ Shows.turelmSends ++ Shows.nakLast ++ Shows.lateFails ++ Shows.nvsCommand ++ Shows.fabCommand ++
    [Reg.FAB_APT_ERR_COUNT, Reg.FAB_APT_ERR_SAT, Reg.FAB_GRANT_DROP_COUNT, Reg.FAB_GRANT_DROP_SAT, Reg.FAB_STATUS_GRANT_DROP,
    Reg.HIF_TAG_STATUS_IN_USE, Reg.HIF_TAG_STATUS_QUARANTINED, Reg.NVS_CMD_CNT_COUNT, Reg.NVS_INFLIGHT_PEAK, Reg.TIL_CH_INFO_LOST,
    Reg.TLT_CSUM_DROP_COUNT, Reg.TLT_CSUM_DROP_SAT, Reg.TLT_CTX_EVICTED, Reg.TLT_CTX_ONDIE, Reg.TLT_CTX_RECALL_HELD, Reg.TLT_DUP_DROP_COUNT,
    Reg.TLT_DUP_DROP_SAT, Reg.TLT_EPOCH_DROP_COUNT, Reg.TLT_EPOCH_DROP_SAT, Reg.TLT_NAK_TX_COUNT, Reg.TLT_NAK_TX_SAT,
    Reg.TLT_PEER_INFO_KNOWN, Reg.TLT_PEER_INFO_OUTSTANDING, Reg.TLT_PEER_INFO_PEER_EPOCH, Reg.TLT_RECALLS_COUNT, Reg.TLT_RECALL_OVF_COUNT,
    Reg.TLT_RECALL_OVF_SAT, Reg.TLT_RETX_COUNT, Reg.TLT_RETX_SAT, Reg.TLT_RX_BYTE_LO_BYTES, Reg.TLT_RX_PKT_COUNT, Reg.TLT_STATUS_PEER_EPOCH,
    Reg.TLT_STATUS_RECALL_OVF, Reg.TLT_TRK_RECV_USED, Reg.TLT_TRK_SEND_USED])) ∧
  (∀ (p : TlPkt), keeps (.wireFlushAckReceive p) [.cmds, .dma, .events, .fab, .free, .jnl, .mem, .nch, .nvs, .out, .rng, .sch, .stk, .til,
    .tlt] (Shows.journal ++ Shows.saturation ++ Shows.completions ++ Shows.nvsErrors ++ Shows.dmaErrors ++ Shows.dmaChannel ++
    Shows.frameLeaves ++ Shows.turelmSends ++ Shows.lateFails ++ Shows.nvsCommand ++ Shows.fabCommand ++ [Reg.FAB_APT_ERR_COUNT,
    Reg.FAB_APT_ERR_SAT, Reg.FAB_GRANT_DROP_COUNT, Reg.FAB_GRANT_DROP_SAT, Reg.FAB_STATUS_GRANT_DROP, Reg.NVS_CMD_CNT_COUNT,
    Reg.NVS_INFLIGHT_PEAK, Reg.TIL_CH_INFO_LOST, Reg.TLT_CSUM_DROP_COUNT, Reg.TLT_CSUM_DROP_SAT, Reg.TLT_EPOCH_DROP_COUNT,
    Reg.TLT_EPOCH_DROP_SAT, Reg.TLT_PEER_INFO_KNOWN, Reg.TLT_PEER_INFO_OUTSTANDING, Reg.TLT_PEER_INFO_PEER_EPOCH, Reg.TLT_RETX_COUNT,
    Reg.TLT_RETX_SAT, Reg.TLT_RX_BYTE_LO_BYTES, Reg.TLT_RX_PKT_COUNT, Reg.TLT_STATUS_PEER_EPOCH, Reg.TLT_TRK_RECV_USED,
    Reg.TLT_TRK_SEND_USED])) ∧
  (∀ (p : TlPkt), keeps (.wireAckReceive p) [.cmds, .deferred, .dma, .events, .fab, .free, .jnl, .mem, .nch, .nvs, .out, .rng, .sch, .stk,
    .til, .tlt] (Shows.journal ++ Shows.saturation ++ Shows.completions ++ Shows.nvsErrors ++ Shows.dmaErrors ++ Shows.dmaChannel ++
    Shows.frameLeaves ++ Shows.turelmSends ++ Shows.lateFails ++ Shows.nvsCommand ++ Shows.fabCommand ++ [Reg.FAB_APT_ERR_COUNT,
    Reg.FAB_APT_ERR_SAT, Reg.FAB_GRANT_DROP_COUNT, Reg.FAB_GRANT_DROP_SAT, Reg.FAB_STATUS_GRANT_DROP, Reg.NVS_CMD_CNT_COUNT,
    Reg.NVS_INFLIGHT_PEAK, Reg.TIL_CH_INFO_LOST, Reg.TLT_CSUM_DROP_COUNT, Reg.TLT_CSUM_DROP_SAT, Reg.TLT_EPOCH_DROP_COUNT,
    Reg.TLT_EPOCH_DROP_SAT, Reg.TLT_PEER_INFO_KNOWN, Reg.TLT_PEER_INFO_OUTSTANDING, Reg.TLT_PEER_INFO_PEER_EPOCH, Reg.TLT_PEER_RTO_SRTT,
    Reg.TLT_RETX_COUNT, Reg.TLT_RETX_SAT, Reg.TLT_RX_BYTE_LO_BYTES, Reg.TLT_RX_PKT_COUNT, Reg.TLT_STATUS_PEER_EPOCH, Reg.TLT_TRK_RECV_USED,
    Reg.TLT_TRK_SEND_USED])) ∧
  (∀ (p : TlPkt), keeps (.wireNakReceive p) [.cmds, .dma, .events, .fab, .free, .jnl, .mem, .nch, .nvs, .out, .rng, .sch, .stk, .til, .tlt]
    (Shows.journal ++ Shows.saturation ++ Shows.completions ++ Shows.nvsErrors ++ Shows.dmaErrors ++ Shows.dmaChannel ++ Shows.frameLeaves
    ++ Shows.turelmSends ++ Shows.nakLast ++ Shows.lateFails ++ Shows.nvsCommand ++ Shows.fabCommand ++ [Reg.FAB_APT_ERR_COUNT,
    Reg.FAB_APT_ERR_SAT, Reg.FAB_GRANT_DROP_COUNT, Reg.FAB_GRANT_DROP_SAT, Reg.FAB_STATUS_GRANT_DROP, Reg.NVS_CMD_CNT_COUNT,
    Reg.NVS_INFLIGHT_PEAK, Reg.TIL_CH_INFO_LOST, Reg.TLT_CSUM_DROP_COUNT, Reg.TLT_CSUM_DROP_SAT, Reg.TLT_EPOCH_DROP_COUNT,
    Reg.TLT_EPOCH_DROP_SAT, Reg.TLT_NAK_RX_COUNT, Reg.TLT_NAK_RX_SAT, Reg.TLT_PEER_INFO_KNOWN, Reg.TLT_PEER_INFO_OUTSTANDING,
    Reg.TLT_PEER_INFO_PEER_EPOCH, Reg.TLT_RETX_COUNT, Reg.TLT_RETX_SAT, Reg.TLT_RX_BYTE_LO_BYTES, Reg.TLT_RX_PKT_COUNT,
    Reg.TLT_STATUS_PEER_EPOCH, Reg.TLT_TRK_RECV_USED, Reg.TLT_TRK_SEND_USED])) ∧
  (∀ (peer : Nat) (msg : Nat), keeps (.messageTimeout peer msg) [.cmds, .dma, .events, .fab, .free, .jnl, .mem, .nch, .nvs, .out, .rng,
    .sch, .stk, .til, .tlt] (Shows.journal ++ Shows.saturation ++ Shows.completions ++ Shows.nvsErrors ++ Shows.dmaErrors ++
    Shows.dmaChannel ++ Shows.frameLeaves ++ Shows.turelmSends ++ Shows.lateFails ++ Shows.nvsCommand ++ Shows.fabCommand ++
    [Reg.FAB_APT_ERR_COUNT, Reg.FAB_APT_ERR_SAT, Reg.FAB_GRANT_DROP_COUNT, Reg.FAB_GRANT_DROP_SAT, Reg.FAB_STATUS_GRANT_DROP,
    Reg.NVS_CMD_CNT_COUNT, Reg.NVS_INFLIGHT_PEAK, Reg.TIL_CH_INFO_LOST, Reg.TLT_PEER_INFO_OUTSTANDING, Reg.TLT_RETRY_EXC_COUNT,
    Reg.TLT_RETRY_EXC_SAT, Reg.TLT_RETX_COUNT, Reg.TLT_RETX_SAT, Reg.TLT_STATUS_RETRY_EXC, Reg.TLT_TRK_RECV_USED, Reg.TLT_TRK_SEND_USED])) ∧
  (∀ (peer : Nat) (msg : Nat) (chunk : Nat), keeps (.busyBackoffExpiry peer msg chunk) [.events, .fab, .free, .nch, .out, .rng, .sch, .stk,
    .til, .tlt] (Shows.saturation ++ Shows.completions ++ Shows.frameLeaves ++ Shows.turelmSends ++ [Reg.TLT_RETX_COUNT, Reg.TLT_RETX_SAT]))
    ∧
  (∀ (ep : Nat) (status : Nat), keeps (.contextRecallDone ep status) [.cmds, .dma, .events, .fab, .free, .hif, .jnl, .mem, .nch, .nvs, .out,
    .rng, .sch, .stk, .til, .tlt] (Shows.journal ++ Shows.saturation ++ Shows.completions ++ Shows.nvsErrors ++ Shows.dmaErrors ++
    Shows.dmaChannel ++ Shows.frameLeaves ++ Shows.turelmSends ++ Shows.nakLast ++ Shows.lateFails ++ Shows.nvsCommand ++ Shows.fabCommand
    ++ [Reg.FAB_APT_ERR_COUNT, Reg.FAB_APT_ERR_SAT, Reg.FAB_GRANT_DROP_COUNT, Reg.FAB_GRANT_DROP_SAT, Reg.FAB_POOL_OPS_COUNT,
    Reg.FAB_STATUS_GRANT_DROP, Reg.HIF_TAG_STATUS_IN_USE, Reg.HIF_TAG_STATUS_QUARANTINED, Reg.NVS_CMD_CNT_COUNT, Reg.NVS_INFLIGHT_PEAK,
    Reg.TIL_CH_INFO_LOST, Reg.TLT_CTX_EVICTED, Reg.TLT_CTX_ONDIE, Reg.TLT_CTX_RECALL_HELD, Reg.TLT_DUP_DROP_COUNT, Reg.TLT_DUP_DROP_SAT,
    Reg.TLT_NAK_TX_COUNT, Reg.TLT_NAK_TX_SAT, Reg.TLT_PEER_INFO_OUTSTANDING, Reg.TLT_RETX_COUNT, Reg.TLT_RETX_SAT, Reg.TLT_STATUS_TRK_FULL,
    Reg.TLT_TRK_RECV_USED, Reg.TLT_TRK_SEND_USED, Reg.TLT_WIN_DROP_COUNT, Reg.TLT_WIN_DROP_SAT]))

/-- R570, R576, R581, R588, R606, R611, R616: For every state and all operands, whatever a command answers: every part of the state and
  every register field but those listed for the command is as before. Device memory is listed only for the commands that may store; where it
  is not, every byte is unchanged. The queue of waiting commands is listed for none. Only keepsParts, for commands that set register fields
  chosen by their operands or by what waits, leaves the register fields open. -/
def Obligations.StorageAndAcceleratorFrames : Prop :=
  (∀ (ctrl : Nat) (qid : Nat) (value : Nat), keeps (.nvmeSqDoorbell ctrl qid value) [.deferred, .events, .nch, .nvs, .out] (Shows.saturation
    ++ Shows.nvsErrors ++ [Reg.NVS_CMD_CNT_COUNT, Reg.NVS_INFLIGHT_PEAK])) ∧
  (∀ (ctrl : Nat) (qid : Nat) (value : Nat), keeps (.nvmeCqDoorbell ctrl qid value) [.events, .nch, .nvs, .out] (Shows.saturation ++
    Shows.nvsErrors ++ [Reg.NVS_CMD_CNT_COUNT, Reg.NVS_INFLIGHT_PEAK])) ∧
  (∀ (ctrl : Nat) (cq : Nat), keeps (.interruptCoalesceExpiry ctrl cq) [.nvs, .out] ([])) ∧
  (keeps .nvmeFetch [.hif, .nvs, .out] ([Reg.HIF_TAG_STATUS_IN_USE, Reg.HIF_TAG_STATUS_QUARANTINED])) ∧
  (∀ (ctrl : Nat) (sqid : Nat), keeps (.nvmeCommandForward ctrl sqid) [.cmds, .events, .hif, .jnl, .nch, .nvs, .out, .til] (Shows.journal ++
    Shows.saturation ++ Shows.nvsErrors ++ Shows.nvsCommand ++ [Reg.HIF_TAG_STATUS_IN_USE, Reg.HIF_TAG_STATUS_QUARANTINED,
    Reg.NVS_CMD_CNT_COUNT, Reg.NVS_INFLIGHT_PEAK, Reg.TIL_CH_INFO_LEVEL])) ∧
  (∀ (h : Nat) (bad : Bool), keeps (.nvmeRead h bad) [.cmds, .events, .fab, .free, .jnl, .nch, .nvs, .out, .rng, .sch, .stk, .til, .tlt]
    (Shows.journal ++ Shows.saturation ++ Shows.completions ++ Shows.nvsErrors ++ Shows.frameLeaves ++ Shows.turelmSends ++ Shows.nvsCommand
    ++ [Reg.NVS_CMD_CNT_COUNT, Reg.NVS_INFLIGHT_PEAK, Reg.TLT_PEER_INFO_OUTSTANDING, Reg.TLT_RETX_COUNT, Reg.TLT_RETX_SAT,
    Reg.TLT_TRK_RECV_USED, Reg.TLT_TRK_SEND_USED])) ∧
  (∀ (h : Nat), keeps (.nvmeWrite h) [.cmds, .events, .fab, .free, .jnl, .mem, .nch, .nvs, .out, .rng, .sch, .stk, .til, .tlt]
    (Shows.journal ++ Shows.saturation ++ Shows.completions ++ Shows.nvsErrors ++ Shows.frameLeaves ++ Shows.turelmSends ++ Shows.nvsCommand
    ++ [Reg.NVS_CMD_CNT_COUNT, Reg.NVS_INFLIGHT_PEAK, Reg.TLT_PEER_INFO_OUTSTANDING, Reg.TLT_RETX_COUNT, Reg.TLT_RETX_SAT,
    Reg.TLT_TRK_RECV_USED, Reg.TLT_TRK_SEND_USED])) ∧
  (∀ (h : Nat) (bad : Bool), keeps (.compare h bad) [.cmds, .events, .fab, .free, .jnl, .nch, .nvs, .out, .rng, .sch, .stk, .til, .tlt]
    (Shows.journal ++ Shows.saturation ++ Shows.completions ++ Shows.nvsErrors ++ Shows.frameLeaves ++ Shows.turelmSends ++ Shows.nvsCommand
    ++ [Reg.NVS_CMD_CNT_COUNT, Reg.NVS_INFLIGHT_PEAK, Reg.TLT_PEER_INFO_OUTSTANDING, Reg.TLT_RETX_COUNT, Reg.TLT_RETX_SAT,
    Reg.TLT_TRK_RECV_USED, Reg.TLT_TRK_SEND_USED])) ∧
  (∀ (h : Nat) (bad : Bool), keeps (.verify h bad) [.cmds, .events, .fab, .free, .jnl, .nch, .nvs, .out, .rng, .sch, .stk, .til, .tlt]
    (Shows.journal ++ Shows.saturation ++ Shows.completions ++ Shows.nvsErrors ++ Shows.frameLeaves ++ Shows.turelmSends ++ Shows.nvsCommand
    ++ [Reg.NVS_CMD_CNT_COUNT, Reg.NVS_INFLIGHT_PEAK, Reg.TLT_PEER_INFO_OUTSTANDING, Reg.TLT_RETX_COUNT, Reg.TLT_RETX_SAT,
    Reg.TLT_TRK_RECV_USED, Reg.TLT_TRK_SEND_USED])) ∧
  (∀ (h : Nat), keeps (.writeZeroes h) [.cmds, .events, .fab, .free, .jnl, .mem, .nch, .nvs, .out, .rng, .sch, .stk, .til, .tlt]
    (Shows.journal ++ Shows.saturation ++ Shows.completions ++ Shows.nvsErrors ++ Shows.frameLeaves ++ Shows.turelmSends ++ Shows.nvsCommand
    ++ [Reg.NVS_CMD_CNT_COUNT, Reg.NVS_INFLIGHT_PEAK, Reg.TLT_PEER_INFO_OUTSTANDING, Reg.TLT_RETX_COUNT, Reg.TLT_RETX_SAT,
    Reg.TLT_TRK_RECV_USED, Reg.TLT_TRK_SEND_USED])) ∧
  (∀ (h : Nat), keeps (.datasetManagement h) [.cmds, .events, .fab, .free, .jnl, .mem, .nch, .nvs, .out, .rng, .sch, .stk, .til, .tlt]
    (Shows.journal ++ Shows.saturation ++ Shows.completions ++ Shows.nvsErrors ++ Shows.frameLeaves ++ Shows.turelmSends ++ Shows.nvsCommand
    ++ [Reg.NVS_CMD_CNT_COUNT, Reg.NVS_INFLIGHT_PEAK, Reg.TLT_PEER_INFO_OUTSTANDING, Reg.TLT_RETX_COUNT, Reg.TLT_RETX_SAT,
    Reg.TLT_TRK_RECV_USED, Reg.TLT_TRK_SEND_USED])) ∧
  (∀ (h : Nat), keeps (.nvmeFlush h) [.cmds, .events, .jnl, .nch, .nvs, .out] (Shows.journal ++ Shows.saturation ++ Shows.nvsErrors ++
    Shows.nvsCommand ++ [Reg.NVS_CMD_CNT_COUNT, Reg.NVS_INFLIGHT_PEAK])) ∧
  (∀ (w : Work), keeps (.nvsData w) [.events, .fab, .free, .hif, .mem, .nch, .nvs, .out, .rng, .sch, .stk, .til, .tlt] (Shows.saturation ++
    Shows.completions ++ Shows.frameLeaves ++ Shows.turelmSends ++ [Reg.HIF_TAG_STATUS_IN_USE, Reg.HIF_TAG_STATUS_QUARANTINED,
    Reg.TLT_PEER_INFO_OUTSTANDING, Reg.TLT_RETX_COUNT, Reg.TLT_RETX_SAT, Reg.TLT_TRK_RECV_USED, Reg.TLT_TRK_SEND_USED])) ∧
  (∀ (w : Work), keeps (.nvsComplete w) [.cmds, .events, .jnl, .nch, .nvs, .out, .rng, .til] (Shows.journal ++ Shows.saturation ++
    Shows.completions ++ Shows.nvsErrors ++ Shows.nvsCommand ++ [Reg.NVS_CMD_CNT_COUNT, Reg.NVS_INFLIGHT_PEAK])) ∧
  (∀ (h : Nat), keeps (.createIoSq h) [.cmds, .events, .jnl, .nch, .nvs, .out] (Shows.journal ++ Shows.saturation ++ Shows.nvsErrors ++
    Shows.nvsCommand ++ [Reg.NCH_QUOTA_USED, Reg.NVS_CMD_CNT_COUNT, Reg.NVS_CTRL_INFO_IO_SQS, Reg.NVS_INFLIGHT_PEAK])) ∧
  (∀ (h : Nat), keeps (.deleteIoSq h) [.cmds, .events, .fab, .free, .hif, .jnl, .nch, .nvs, .out, .rng, .sch, .stk, .til, .tlt]
    (Shows.journal ++ Shows.saturation ++ Shows.completions ++ Shows.nvsErrors ++ Shows.frameLeaves ++ Shows.turelmSends ++ Shows.nvsCommand
    ++ [Reg.NCH_QUOTA_USED, Reg.NVS_CMD_CNT_COUNT, Reg.NVS_CTRL_INFO_FW_PENDING, Reg.NVS_CTRL_INFO_IO_SQS, Reg.NVS_INFLIGHT_PEAK,
    Reg.NVS_STATUS_FW_PENDING, Reg.TLT_RETX_COUNT, Reg.TLT_RETX_SAT])) ∧
  (∀ (h : Nat), keeps (.createIoCq h) [.cmds, .events, .jnl, .nch, .nvs, .out] (Shows.journal ++ Shows.saturation ++ Shows.nvsErrors ++
    Shows.nvsCommand ++ [Reg.NVS_CMD_CNT_COUNT, Reg.NVS_INFLIGHT_PEAK])) ∧
  (∀ (h : Nat), keeps (.deleteIoCq h) [.cmds, .events, .jnl, .nch, .nvs, .out] (Shows.journal ++ Shows.saturation ++ Shows.nvsErrors ++
    Shows.nvsCommand ++ [Reg.NVS_CMD_CNT_COUNT, Reg.NVS_INFLIGHT_PEAK])) ∧
  (∀ (h : Nat), keeps (.identify h) [.cmds, .events, .jnl, .nch, .nvs, .out] (Shows.journal ++ Shows.saturation ++ Shows.nvsErrors ++
    Shows.nvsCommand ++ [Reg.NVS_CMD_CNT_COUNT, Reg.NVS_INFLIGHT_PEAK])) ∧
  (∀ (h : Nat), keeps (.getLogPage h) [.cmds, .events, .jnl, .nch, .nvs, .out] (Shows.journal ++ Shows.saturation ++ Shows.nvsErrors ++
    Shows.nvsCommand ++ [Reg.NVS_CMD_CNT_COUNT, Reg.NVS_INFLIGHT_PEAK])) ∧
  (∀ (h : Nat), keeps (.setFeatures h) [.cmds, .events, .jnl, .nch, .nvs, .out] (Shows.journal ++ Shows.saturation ++ Shows.nvsErrors ++
    Shows.nvsCommand ++ [Reg.NVS_CMD_CNT_COUNT, Reg.NVS_INFLIGHT_PEAK])) ∧
  (∀ (h : Nat), keeps (.getFeatures h) [.cmds, .events, .jnl, .nch, .nvs, .out] (Shows.journal ++ Shows.saturation ++ Shows.nvsErrors ++
    Shows.nvsCommand ++ [Reg.NVS_CMD_CNT_COUNT, Reg.NVS_INFLIGHT_PEAK])) ∧
  (∀ (h : Nat), keeps (.asyncEventRequest h) [.events, .nch, .nvs, .out] (Shows.saturation ++ Shows.nvsErrors ++ [Reg.NVS_CMD_CNT_COUNT,
    Reg.NVS_INFLIGHT_PEAK])) ∧
  (∀ (h : Nat), keeps (.nvmeAbort h) [.cmds, .events, .fab, .free, .hif, .jnl, .nch, .nvs, .out, .rng, .sch, .stk, .til, .tlt]
    (Shows.journal ++ Shows.saturation ++ Shows.completions ++ Shows.nvsErrors ++ Shows.frameLeaves ++ Shows.turelmSends ++ Shows.nvsCommand
    ++ [Reg.NVS_CMD_CNT_COUNT, Reg.NVS_CTRL_INFO_FW_PENDING, Reg.NVS_INFLIGHT_PEAK, Reg.NVS_STATUS_FW_PENDING, Reg.TLT_RETX_COUNT,
    Reg.TLT_RETX_SAT])) ∧
  (∀ (h : Nat), keeps (.firmwareImageDownload h) [.cmds, .events, .jnl, .mem, .nch, .nvs, .out] (Shows.journal ++ Shows.saturation ++
    Shows.nvsErrors ++ Shows.nvsCommand ++ [Reg.NVS_CMD_CNT_COUNT, Reg.NVS_INFLIGHT_PEAK])) ∧
  (∀ (h : Nat), keeps (.firmwareCommit h) [.cmds, .events, .jnl, .nch, .nvs, .out] (Shows.journal ++ Shows.saturation ++ Shows.nvsErrors ++
    Shows.nvsCommand ++ [Reg.NVS_CMD_CNT_COUNT, Reg.NVS_CTRL_INFO_FW_PENDING, Reg.NVS_INFLIGHT_PEAK, Reg.NVS_STATUS_FW_PENDING])) ∧
  (∀ (h : Nat), keeps (.deviceSelfTest h) [.cmds, .events, .fab, .free, .hif, .jnl, .nch, .nvs, .out, .rng, .sch, .stk, .til, .tlt]
    (Shows.journal ++ Shows.saturation ++ Shows.completions ++ Shows.nvsErrors ++ Shows.frameLeaves ++ Shows.turelmSends ++ Shows.nvsCommand
    ++ [Reg.NVS_CMD_CNT_COUNT, Reg.NVS_CTRL_INFO_FW_PENDING, Reg.NVS_CTRL_INFO_SELFTEST, Reg.NVS_INFLIGHT_PEAK, Reg.NVS_STATUS_FW_PENDING,
    Reg.TLT_RETX_COUNT, Reg.TLT_RETX_SAT])) ∧
  (∀ (ctrl : Nat) (bad : Bool), keeps (.selfTestWork ctrl bad) [.cmds, .events, .fab, .free, .hif, .jnl, .nch, .nvs, .out, .rng, .sch, .stk,
    .til, .tlt] (Shows.journal ++ Shows.saturation ++ Shows.completions ++ Shows.nvsErrors ++ Shows.frameLeaves ++ Shows.turelmSends ++
    Shows.nvsCommand ++ [Reg.NVS_CMD_CNT_COUNT, Reg.NVS_CTRL_INFO_FW_PENDING, Reg.NVS_CTRL_INFO_SELFTEST, Reg.NVS_INFLIGHT_PEAK,
    Reg.NVS_STATUS_FW_PENDING, Reg.TLT_PEER_INFO_OUTSTANDING, Reg.TLT_RETX_COUNT, Reg.TLT_RETX_SAT, Reg.TLT_TRK_RECV_USED,
    Reg.TLT_TRK_SEND_USED])) ∧
  (∀ (ctrl : Nat) (cc : Nat) (aqa : Nat) (asq : Nat) (acq : Nat), keeps (.ccEnable ctrl cc aqa asq acq) [.events, .jnl, .nvs] (Shows.journal
    ++ [Reg.NVS_CTRL_INFO_STATE])) ∧
  (∀ (ctrl : Nat), keeps (.ccDisable ctrl) [.deferred, .events, .jnl, .nvs] (Shows.journal ++ [Reg.NVS_CTRL_INFO_STATE])) ∧
  (∀ (ctrl : Nat) (shn : Nat), keeps (.ccShutdown ctrl shn) [.events, .jnl, .nvs] (Shows.journal ++ [Reg.NVS_CTRL_INFO_STATE])) ∧
  (∀ (ctrl : Nat), keeps (.shutdownComplete ctrl) [.events, .nvs] ([])) ∧
  (∀ (who : Issuer) (desc : Nat), keeps (.ctrlCreate who desc) [.cmds, .events, .jnl, .nvs, .pat] (Shows.journal ++ Shows.patinaLog ++
    Shows.nvsCommand ++ [Reg.NCH_QUOTA_USED, Reg.NVS_CMD_CNT_COUNT, Reg.NVS_CTRL_INFO_AP, Reg.NVS_CTRL_INFO_FW_PENDING,
    Reg.NVS_CTRL_INFO_IO_SQS, Reg.NVS_CTRL_INFO_MAX_IO, Reg.NVS_CTRL_INFO_NICHE, Reg.NVS_CTRL_INFO_RID, Reg.NVS_CTRL_INFO_SELFTEST,
    Reg.NVS_CTRL_INFO_STATE])) ∧
  (∀ (who : Issuer), keeps (.ctrlDestroy who) [.cmds, .events, .jnl, .nvs, .pat] (Shows.journal ++ Shows.patinaLog ++ Shows.nvsCommand ++
    [Reg.NCH_QUOTA_USED, Reg.NVS_CTRL_INFO_AP, Reg.NVS_CTRL_INFO_IO_SQS, Reg.NVS_CTRL_INFO_MAX_IO, Reg.NVS_CTRL_INFO_NICHE,
    Reg.NVS_CTRL_INFO_RID, Reg.NVS_CTRL_INFO_STATE, Reg.NVS_NS_INFO_ATTACHED, Reg.NVS_NS_INFO_CTRL, Reg.NVS_NS_INFO_NSID])) ∧
  (∀ (who : Issuer) (desc : Nat), keeps (.nsCreate who desc) [.cmds, .events, .jnl, .mem, .nvs, .pat] (Shows.journal ++ Shows.patinaLog ++
    Shows.nvsCommand ++ [Reg.NVS_NS_INFO_ATTACHED, Reg.NVS_NS_INFO_BACKEND, Reg.NVS_NS_INFO_CTRL, Reg.NVS_NS_INFO_DEFINED,
    Reg.NVS_NS_INFO_GUARD64, Reg.NVS_NS_INFO_LBADS, Reg.NVS_NS_INFO_MS, Reg.NVS_NS_INFO_NICHE, Reg.NVS_NS_INFO_NSID,
    Reg.NVS_NS_INFO_PI_TYPE, Reg.NVS_NS_SIZE_NSZE])) ∧
  (∀ (who : Issuer), keeps (.nsDestroy who) [.cmds, .events, .jnl, .nvs, .pat] (Shows.journal ++ Shows.patinaLog ++ Shows.nvsCommand ++
    [Reg.NVS_NS_INFO_BACKEND, Reg.NVS_NS_INFO_DEFINED, Reg.NVS_NS_INFO_GUARD64, Reg.NVS_NS_INFO_LBADS, Reg.NVS_NS_INFO_MS,
    Reg.NVS_NS_INFO_NICHE, Reg.NVS_NS_INFO_PI_TYPE, Reg.NVS_NS_SIZE_NSZE])) ∧
  (∀ (who : Issuer), keeps (.nsAttach who) [.cmds, .deferred, .events, .jnl, .pat] (Shows.journal ++ Shows.patinaLog ++ Shows.nvsCommand)) ∧
  (∀ (who : Issuer), keeps (.nsDetach who) [.cmds, .deferred, .events, .jnl, .pat] (Shows.journal ++ Shows.patinaLog ++ Shows.nvsCommand)) ∧
  (∀ (who : Issuer) (block : Nat), keeps (.fwDone who block) [.cmds, .events, .jnl, .nch, .nvs, .out, .pat] (Shows.journal ++
    Shows.patinaLog ++ Shows.saturation ++ Shows.nvsErrors ++ Shows.nvsCommand ++ [Reg.NVS_CMD_CNT_COUNT, Reg.NVS_CTRL_INFO_FW_PENDING,
    Reg.NVS_INFLIGHT_PEAK, Reg.NVS_STATUS_FW_PENDING])) ∧
  (∀ (w : Work), keeps (.cipher w) [.acc, .events, .free, .hif, .nch, .out, .rng, .til] (Shows.saturation ++ Shows.completions ++
    Shows.accErrors ++ [Reg.ACC_SLICE_QUEUED, Reg.HIF_TAG_STATUS_IN_USE, Reg.HIF_TAG_STATUS_QUARANTINED])) ∧
  (∀ (w : Work), keeps (.digest w) [.acc, .events, .free, .hif, .nch, .out, .rng, .til] (Shows.saturation ++ Shows.completions ++
    Shows.accErrors ++ [Reg.ACC_SLICE_QUEUED, Reg.HIF_TAG_STATUS_IN_USE, Reg.HIF_TAG_STATUS_QUARANTINED])) ∧
  (∀ (w : Work), keeps (.pkey w) [.acc, .events, .free, .hif, .nch, .out, .rng, .til] (Shows.saturation ++ Shows.completions ++
    Shows.accErrors ++ [Reg.ACC_SLICE_QUEUED, Reg.HIF_TAG_STATUS_IN_USE, Reg.HIF_TAG_STATUS_QUARANTINED])) ∧
  (∀ (w : Work), keeps (.compress w) [.acc, .events, .free, .hif, .nch, .out, .rng, .til] (Shows.saturation ++ Shows.completions ++
    Shows.accErrors ++ [Reg.ACC_SLICE_QUEUED, Reg.HIF_TAG_STATUS_IN_USE, Reg.HIF_TAG_STATUS_QUARANTINED])) ∧
  (∀ (w : Work), keeps (.decompress w) [.acc, .events, .free, .hif, .nch, .out, .rng, .til] (Shows.saturation ++ Shows.completions ++
    Shows.accErrors ++ [Reg.ACC_SLICE_QUEUED, Reg.HIF_TAG_STATUS_IN_USE, Reg.HIF_TAG_STATUS_QUARANTINED])) ∧
  (∀ (w : Work), keeps (.crc w) [.acc, .events, .free, .hif, .nch, .out, .rng, .til] (Shows.saturation ++ Shows.completions ++
    Shows.accErrors ++ [Reg.ACC_SLICE_QUEUED, Reg.HIF_TAG_STATUS_IN_USE, Reg.HIF_TAG_STATUS_QUARANTINED])) ∧
  (∀ (w : Work), keeps (.ecEncode w) [.acc, .events, .free, .hif, .nch, .out, .rng, .til] (Shows.saturation ++ Shows.completions ++
    Shows.accErrors ++ [Reg.ACC_SLICE_QUEUED, Reg.HIF_TAG_STATUS_IN_USE, Reg.HIF_TAG_STATUS_QUARANTINED])) ∧
  (∀ (w : Work), keeps (.ecDecode w) [.acc, .events, .free, .hif, .nch, .out, .rng, .til] (Shows.saturation ++ Shows.completions ++
    Shows.accErrors ++ [Reg.ACC_SLICE_QUEUED, Reg.HIF_TAG_STATUS_IN_USE, Reg.HIF_TAG_STATUS_QUARANTINED])) ∧
  (∀ (w : Work), keeps (.scrub w) [.acc, .events, .free, .hif, .nch, .out, .rng, .til] (Shows.saturation ++ Shows.completions ++
    Shows.accErrors ++ [Reg.ACC_SLICE_QUEUED, Reg.HIF_TAG_STATUS_IN_USE, Reg.HIF_TAG_STATUS_QUARANTINED])) ∧
  (∀ (w : Work) (slice : Nat) (load : Nat) (bad : List Nat), keeps (.acceleratorWorkDone w slice load bad) [.acc, .events, .free, .mem,
    .nch, .out, .rng, .til] (Shows.saturation ++ Shows.completions ++ Shows.accErrors ++ [Reg.ACC_SLICE_LOAD_PCT, Reg.ACC_SLICE_QUEUED])) ∧
  (∀ (w : Work) (host : List Byte), keeps (.keyLoad w host) [.acc, .events, .free, .jnl, .mem, .nch, .out, .rng, .til] (Shows.journal ++
    Shows.saturation ++ Shows.completions ++ Shows.accErrors ++ [Reg.ACC_KEYS_CACHED, Reg.ACC_KEYS_USED, Reg.ACC_STATUS_KEYSTORE_FULL,
    Reg.NCH_QUOTA_USED])) ∧
  (∀ (w : Work), keeps (.keyGenerate w) [.acc, .events, .free, .jnl, .mem, .nch, .out, .rng, .til] (Shows.journal ++ Shows.saturation ++
    Shows.completions ++ Shows.accErrors ++ [Reg.ACC_KEYS_CACHED, Reg.ACC_KEYS_USED, Reg.ACC_STATUS_KEYSTORE_FULL, Reg.NCH_QUOTA_USED])) ∧
  (∀ (w : Work), keeps (.keyDestroy w) [.acc, .deferred, .events, .free, .nch, .out, .rng, .til] (Shows.saturation ++ Shows.completions ++
    Shows.accErrors)) ∧
  (∀ (index : Nat), keeps (.keyDestroyFence index) [.acc, .events, .jnl, .nch, .out, .rng, .til] (Shows.journal ++ Shows.completions ++
    [Reg.ACC_KEYS_CACHED, Reg.ACC_KEYS_USED, Reg.NCH_QUOTA_USED]))

/-- R629, R633, R639, R646, R649, R653, R655: For every state and all operands, whatever a command answers: every part of the state and
  every register field but those listed for the command is as before. Device memory is listed only for the commands that may store; where it
  is not, every byte is unchanged. The queue of waiting commands is listed for none. Only keepsParts, for commands that set register fields
  chosen by their operands or by what waits, leaves the register fields open. -/
def Obligations.FabricFrames : Prop :=
  (∀ (who : Issuer) (desc : Nat), keeps (.segCreate who desc) [.cmds, .deferred, .events, .fab, .free, .jnl, .pat] (Shows.journal ++
    Shows.patinaLog ++ Shows.fabCommand ++ [Reg.FAB_SEG_INFO_RIGHTS])) ∧
  (∀ (who : Issuer), keeps (.segDestroy who) [.cmds, .events, .fab, .jnl, .pat] (Shows.journal ++ Shows.patinaLog ++ Shows.fabCommand ++
    [Reg.FAB_SEG_ADDR_VALUE, Reg.FAB_SEG_INFO_NICHE, Reg.FAB_SEG_INFO_RIGHTS, Reg.FAB_SEG_INFO_SIZE_2M, Reg.FAB_SEG_INFO_STATE,
    Reg.FAB_SEG_KEY_KEY])) ∧
  (∀ (who : Issuer) (entry : Nat), keeps (.segGrant who entry) [.cmds, .deferred, .events, .jnl, .pat] (Shows.journal ++ Shows.patinaLog ++
    Shows.fabCommand)) ∧
  (∀ (who : Issuer), keeps (.segRevoke who) [.cmds, .deferred, .events, .jnl, .pat] (Shows.journal ++ Shows.patinaLog ++ Shows.fabCommand))
    ∧
  (∀ (who : Issuer) (entry : Nat), keeps (.importAdd who entry) [.cmds, .events, .fab, .free, .jnl, .pat] (Shows.journal ++ Shows.patinaLog
    ++ Shows.fabCommand)) ∧
  (∀ (who : Issuer), keeps (.importDel who) [.cmds, .events, .fab, .jnl, .pat] (Shows.journal ++ Shows.patinaLog ++ Shows.fabCommand)) ∧
  (∀ (who : Issuer), keeps (.apertureSet who) [.cmds, .events, .fab, .jnl, .pat] (Shows.journal ++ Shows.patinaLog ++ Shows.fabCommand)) ∧
  (∀ (who : Issuer) (template : Nat), keeps (.fabTemplateWrite who template) [.cmds, .events, .fab, .jnl, .pat] (Shows.journal ++
    Shows.patinaLog ++ Shows.fabCommand)) ∧
  (∀ (who : Issuer) (addr : Nat), keeps (.seedWrite who addr) [.cmds, .events, .fab, .jnl, .pat] (Shows.journal ++ Shows.patinaLog ++
    Shows.fabCommand)) ∧
  (∀ (who : Issuer), keeps (.rmtRead who) [.cmds, .events, .fab, .free, .jnl, .nch, .out, .pat, .rng, .sch, .stk, .til, .tlt] (Shows.journal
    ++ Shows.patinaLog ++ Shows.saturation ++ Shows.completions ++ Shows.frameLeaves ++ Shows.turelmSends ++ Shows.fabCommand ++
    [Reg.TLT_PEER_INFO_OUTSTANDING, Reg.TLT_RETX_COUNT, Reg.TLT_RETX_SAT, Reg.TLT_TRK_RECV_USED, Reg.TLT_TRK_SEND_USED])) ∧
  (∀ (who : Issuer), keeps (.rmtWrite who) [.cmds, .events, .fab, .free, .jnl, .nch, .out, .pat, .rng, .sch, .stk, .til, .tlt]
    (Shows.journal ++ Shows.patinaLog ++ Shows.saturation ++ Shows.completions ++ Shows.frameLeaves ++ Shows.turelmSends ++ Shows.fabCommand
    ++ [Reg.TLT_PEER_INFO_OUTSTANDING, Reg.TLT_RETX_COUNT, Reg.TLT_RETX_SAT, Reg.TLT_TRK_RECV_USED, Reg.TLT_TRK_SEND_USED])) ∧
  (∀ (w : Work), keeps (.poolAtomic w) [.events, .fab, .free, .mem, .nch, .out, .rng, .sch, .stk, .til, .tlt] (Shows.saturation ++
    Shows.completions ++ Shows.frameLeaves ++ Shows.turelmSends ++ [Reg.FAB_GRANT_DROP_COUNT, Reg.FAB_GRANT_DROP_SAT,
    Reg.FAB_STATUS_GRANT_DROP, Reg.TLT_PEER_INFO_OUTSTANDING, Reg.TLT_RETX_COUNT, Reg.TLT_RETX_SAT, Reg.TLT_TRK_RECV_USED,
    Reg.TLT_TRK_SEND_USED])) ∧
  (∀ (who : Issuer) (off : Nat) (len : Nat) (data : Option (List Byte)), keeps (.apertureAccess who off len data) [.events, .fab, .free,
    .mem, .nch, .out, .rng, .sch, .stk, .til, .tlt] (Shows.saturation ++ Shows.completions ++ Shows.frameLeaves ++ Shows.turelmSends ++
    [Reg.FAB_APT_ERR_COUNT, Reg.FAB_APT_ERR_SAT, Reg.FAB_GRANT_DROP_COUNT, Reg.FAB_GRANT_DROP_SAT, Reg.FAB_STATUS_GRANT_DROP,
    Reg.TLT_PEER_INFO_OUTSTANDING, Reg.TLT_RETX_COUNT, Reg.TLT_RETX_SAT, Reg.TLT_TRK_RECV_USED, Reg.TLT_TRK_SEND_USED])) ∧
  (∀ (id : Nat), keeps (.apertureReadTimeout id) [.events, .fab, .free, .mem, .nch, .out, .rng, .sch, .stk, .til, .tlt] (Shows.saturation ++
    Shows.completions ++ Shows.frameLeaves ++ Shows.turelmSends ++ [Reg.FAB_APT_ERR_COUNT, Reg.FAB_APT_ERR_SAT, Reg.FAB_GRANT_DROP_COUNT,
    Reg.FAB_GRANT_DROP_SAT, Reg.FAB_STATUS_GRANT_DROP, Reg.TLT_PEER_INFO_OUTSTANDING, Reg.TLT_RETX_COUNT, Reg.TLT_RETX_SAT,
    Reg.TLT_TRK_RECV_USED, Reg.TLT_TRK_SEND_USED])) ∧
  (∀ (p : TlPkt), keeps (.regResp p) [.cmds, .dma, .events, .fab, .free, .jnl, .mem, .nch, .nvs, .out, .rng, .sch, .stk, .til, .tlt]
    (Shows.journal ++ Shows.saturation ++ Shows.completions ++ Shows.nvsErrors ++ Shows.dmaErrors ++ Shows.dmaChannel ++ Shows.frameLeaves
    ++ Shows.turelmSends ++ Shows.lateFails ++ Shows.nvsCommand ++ Shows.fabCommand ++ [Reg.FAB_APT_ERR_COUNT, Reg.FAB_APT_ERR_SAT,
    Reg.FAB_GRANT_DROP_COUNT, Reg.FAB_GRANT_DROP_SAT, Reg.FAB_STATUS_GRANT_DROP, Reg.NVS_CMD_CNT_COUNT, Reg.NVS_INFLIGHT_PEAK,
    Reg.TIL_CH_INFO_LOST, Reg.TLT_CSUM_DROP_COUNT, Reg.TLT_CSUM_DROP_SAT, Reg.TLT_EPOCH_DROP_COUNT, Reg.TLT_EPOCH_DROP_SAT,
    Reg.TLT_PEER_INFO_KNOWN, Reg.TLT_PEER_INFO_OUTSTANDING, Reg.TLT_PEER_INFO_PEER_EPOCH, Reg.TLT_RETX_COUNT, Reg.TLT_RETX_SAT,
    Reg.TLT_RX_BYTE_LO_BYTES, Reg.TLT_RX_PKT_COUNT, Reg.TLT_STATUS_PEER_EPOCH, Reg.TLT_TRK_RECV_USED, Reg.TLT_TRK_SEND_USED])) ∧
  (∀ (who : Issuer) (value : Nat), keeps (.fabricEnable who value) [.events, .fab, .jnl, .pat] (Shows.journal ++ Shows.patinaLog ++
    [Reg.ARM_BOUND_LAST_OFFSET, Reg.ARM_BOUND_LAST_STROKE, Reg.ARM_STATUS_BOUND_VIOL, Reg.FAB_CFG_ENABLE, Reg.FAB_CFG_FABRIC_ID,
    Reg.FAB_CFG_ID_STATIC, Reg.FAB_CFG_MODE, Reg.FAB_CFG_POOL_QUEUE, Reg.FAB_CFG_PRIORITY, Reg.FAB_CFG_RMGMT_ALLOW, Reg.FAB_ID_COORD_ID,
    Reg.FAB_ID_COORD_KNOWN, Reg.FAB_ID_ID, Reg.FAB_ID_ROLE, Reg.FAB_ID_VALID, Reg.FAB_MEMBERS_COUNT, Reg.FAB_PATH_INFO_MAC,
    Reg.FAB_PATH_INFO_MISSES, Reg.FAB_PATH_INFO_RESPRAYS, Reg.FAB_PATH_INFO_STATE, Reg.FAB_PATH_INFO_TEMPLATE, Reg.FAB_PATH_INFO_UDP_SPORT,
    Reg.FAB_PEER_INFO_HOPS, Reg.FAB_PEER_INFO_NEIGHBOUR, Reg.FAB_PEER_INFO_PATHS, Reg.FAB_PEER_INFO_PATHS_UP, Reg.FAB_PEER_INFO_PRESENT,
    Reg.FAB_PEER_UID_VALUE, Reg.FAB_STATUS_COORD_CHANGE, Reg.FAB_STATUS_PEER_DOWN, Reg.TLT_PEER_INFO_PATHS])) ∧
  (∀ (who : Issuer) (value : Nat), keeps (.fabricDisable who value) [.events, .fab, .jnl, .pat] (Shows.journal ++ Shows.patinaLog ++
    [Reg.ARM_BOUND_LAST_OFFSET, Reg.ARM_BOUND_LAST_STROKE, Reg.ARM_STATUS_BOUND_VIOL, Reg.FAB_CFG_ENABLE, Reg.FAB_CFG_FABRIC_ID,
    Reg.FAB_CFG_ID_STATIC, Reg.FAB_CFG_MODE, Reg.FAB_CFG_POOL_QUEUE, Reg.FAB_CFG_PRIORITY, Reg.FAB_CFG_RMGMT_ALLOW, Reg.FAB_ID_COORD_ID,
    Reg.FAB_ID_COORD_KNOWN, Reg.FAB_ID_ID, Reg.FAB_ID_ROLE, Reg.FAB_ID_VALID, Reg.FAB_MEMBERS_COUNT, Reg.FAB_PATH_INFO_MAC,
    Reg.FAB_PATH_INFO_MISSES, Reg.FAB_PATH_INFO_RESPRAYS, Reg.FAB_PATH_INFO_STATE, Reg.FAB_PATH_INFO_TEMPLATE, Reg.FAB_PATH_INFO_UDP_SPORT,
    Reg.FAB_PEER_INFO_HOPS, Reg.FAB_PEER_INFO_NEIGHBOUR, Reg.FAB_PEER_INFO_PATHS, Reg.FAB_PEER_INFO_PATHS_UP, Reg.FAB_PEER_INFO_PRESENT,
    Reg.FAB_PEER_UID_VALUE, Reg.FAB_STATUS_COORD_CHANGE, Reg.FAB_STATUS_PEER_DOWN, Reg.TLT_PEER_INFO_PATHS])) ∧
  (keeps .helloTimer [.fab, .out] (Shows.turelmSends)) ∧
  (keeps .electionSettled [.deferred, .events, .fab, .out] (Shows.turelmSends ++ [Reg.FAB_ID_COORD_ID, Reg.FAB_ID_COORD_KNOWN,
    Reg.FAB_ID_ROLE, Reg.FAB_STATUS_ID_REFUSED])) ∧
  (keeps .coordinatorTimeout [.events, .fab] ([Reg.FAB_ID_COORD_ID, Reg.FAB_ID_COORD_KNOWN, Reg.FAB_STATUS_COORD_CHANGE])) ∧
  (∀ (mac : Nat), keeps (.neighbourTimeout mac) [.events, .fab, .out] (Shows.turelmSends ++ [Reg.FAB_ID_COORD_ID, Reg.FAB_ID_COORD_KNOWN,
    Reg.FAB_PEER_INFO_NEIGHBOUR, Reg.FAB_PORT_NEIGHBOUR, Reg.FAB_PORT_NEIGHBOUR_VALID, Reg.FAB_STATUS_COORD_CHANGE])) ∧
  (∀ (mac : Nat) (p : TlPkt), keeps (.hello mac p) [.deferred, .events, .fab, .out] (Shows.saturation ++ Shows.turelmSends ++
    [Reg.FAB_FOREIGN_HELLO_COUNT, Reg.FAB_FOREIGN_HELLO_SAT, Reg.FAB_ID_COORD_ID, Reg.FAB_ID_COORD_KNOWN, Reg.FAB_PEER_INFO_NEIGHBOUR,
    Reg.FAB_PORT_NEIGHBOUR, Reg.FAB_PORT_NEIGHBOUR_VALID, Reg.FAB_STATUS_COORD_CHANGE, Reg.FAB_STATUS_FOREIGN_HELLO,
    Reg.TLT_CSUM_DROP_COUNT, Reg.TLT_CSUM_DROP_SAT, Reg.TLT_RX_PKT_COUNT])) ∧
  (∀ (p : TlPkt), keeps (.idRequest p) [.deferred, .events, .fab, .out] (Shows.saturation ++ Shows.turelmSends ++ [Reg.TLT_CSUM_DROP_COUNT,
    Reg.TLT_CSUM_DROP_SAT, Reg.TLT_RX_PKT_COUNT])) ∧
  (∀ (p : TlPkt), keeps (.idAssign p) [.deferred, .events] (Shows.saturation ++ [Reg.FAB_ID_ROLE, Reg.FAB_STATUS_ID_REFUSED,
    Reg.TLT_CSUM_DROP_COUNT, Reg.TLT_CSUM_DROP_SAT, Reg.TLT_RX_PKT_COUNT])) ∧
  (∀ (p : TlPkt), keeps (.idRevoke p) [.deferred, .events] (Shows.saturation ++ [Reg.TLT_CSUM_DROP_COUNT, Reg.TLT_CSUM_DROP_SAT,
    Reg.TLT_RX_PKT_COUNT])) ∧
  (∀ (p : TlPkt), keeps (.memberUpdate p) [.deferred, .events, .fab, .out] (Shows.saturation ++ Shows.turelmSends ++
    [Reg.TLT_CSUM_DROP_COUNT, Reg.TLT_CSUM_DROP_SAT, Reg.TLT_RX_PKT_COUNT])) ∧
  (∀ (p : TlPkt), keeps (.memberAck p) [.events, .fab] (Shows.saturation ++ [Reg.TLT_CSUM_DROP_COUNT, Reg.TLT_CSUM_DROP_SAT,
    Reg.TLT_RX_PKT_COUNT])) ∧
  (∀ (mac : Nat) (p : TlPkt), keeps (.linkState mac p) [.events, .fab, .out] (Shows.saturation ++ Shows.turelmSends ++
    [Reg.TLT_CSUM_DROP_COUNT, Reg.TLT_CSUM_DROP_SAT, Reg.TLT_RX_PKT_COUNT])) ∧
  (keeps .linkStateTimer [.fab, .out] (Shows.turelmSends)) ∧
  (keeps .routeTableSwitch [.fab] ([Reg.FAB_PEER_INFO_HOPS])) ∧
  (∀ (p : TlPkt), keeps (.probe p) [.events, .out] (Shows.saturation ++ Shows.turelmSends ++ [Reg.TLT_CSUM_DROP_COUNT,
    Reg.TLT_CSUM_DROP_SAT, Reg.TLT_RX_PKT_COUNT])) ∧
  (∀ (p : TlPkt), keeps (.probeAck p) [.deferred, .events, .fab] (Shows.saturation ++ [Reg.TLT_CSUM_DROP_COUNT, Reg.TLT_CSUM_DROP_SAT,
    Reg.TLT_RX_PKT_COUNT])) ∧
  (∀ (peer : Nat) (path : Nat), keeps (.pathSilent peer path) [.events, .fab, .out] (Shows.turelmSends ++ [Reg.FAB_PATH_INFO_MISSES,
    Reg.FAB_PATH_INFO_STATE, Reg.FAB_PEER_INFO_HOPS, Reg.FAB_PEER_INFO_PATHS, Reg.FAB_PEER_INFO_PATHS_UP, Reg.FAB_STATUS_PEER_DOWN,
    Reg.TLT_PEER_INFO_PATHS])) ∧
  (∀ (peer : Nat) (path : Nat), keeps (.pathIdleProbe peer path) [.fab, .out] (Shows.turelmSends)) ∧
  (∀ (peer : Nat) (path : Nat), keeps (.probeRetryExpiry peer path) [.events, .fab, .out] (Shows.saturation ++ Shows.turelmSends ++
    [Reg.FAB_PATH_DOWN_CNT_COUNT, Reg.FAB_PATH_DOWN_CNT_SAT, Reg.FAB_PATH_INFO_MISSES, Reg.FAB_PATH_INFO_RESPRAYS, Reg.FAB_PATH_INFO_STATE,
    Reg.FAB_PATH_INFO_UDP_SPORT, Reg.FAB_PEER_INFO_HOPS, Reg.FAB_PEER_INFO_PATHS, Reg.FAB_PEER_INFO_PATHS_UP, Reg.FAB_STATUS_PATH_DOWN,
    Reg.FAB_STATUS_PEER_DOWN, Reg.TLT_PEER_INFO_PATHS])) ∧
  (∀ (peer : Nat) (path : Nat), keeps (.pathRevive peer path) [.fab, .out] (Shows.turelmSends ++ [Reg.FAB_PATH_INFO_MISSES,
    Reg.FAB_PATH_INFO_RESPRAYS, Reg.FAB_PATH_INFO_STATE, Reg.FAB_PATH_INFO_UDP_SPORT])) ∧
  (∀ (mac : Nat) (up : Bool), keeps (.ethLinkChange mac up) [.deferred, .events, .sch] (Shows.availability))
end

