-- ==== Sys2Proof/Laws/Map.lean ====
section
/-!
SUPPORT. Sparse maps: reading a key after it is put, deleted or changed.
-/
namespace Sys2Proof.Machine

variable {α : Type}

@[simp] theorem Map.find?_nil (k : Nat) : Map.find? ([] : Map α) k = none := rfl

@[simp] theorem Map.find?_put_same (m : Map α) (k : Nat) (v : α) : Map.find? (Map.put m k v) k = some v := by
  induction m with
  | nil => simp [Map.put, Map.find?]
  | cons h t ih =>
    obtain ⟨k', v'⟩ := h
    unfold Map.put
    split
    · simp [Map.find?]
    · split
      · simp [Map.find?]
      · rw [Map.find?, if_neg ‹_›, ih]

theorem Map.find?_put_ne (m : Map α) {k j : Nat} (v : α) (h : j ≠ k) : Map.find? (Map.put m k v) j = Map.find? m j := by
  induction m with
  | nil => simp [Map.put, Map.find?, h]
  | cons p t ih =>
    obtain ⟨k', v'⟩ := p
    unfold Map.put
    split
    · simp [Map.find?, h]
    · split
      · next e => subst e; simp [Map.find?, h]
      · rw [Map.find?, Map.find?, ih]

@[simp] theorem Map.find?_del_same (m : Map α) (k : Nat) : Map.find? (Map.del m k) k = none := by
  unfold Map.del
  induction m with
  | nil => rfl
  | cons p t ih =>
    obtain ⟨k', v'⟩ := p
    by_cases e : k' = k
    · simpa [List.filter_cons, e] using ih
    · rw [List.filter_cons_of_pos (by simpa using e), Map.find?, if_neg (fun h => e h.symm), ih]

theorem Map.find?_del_ne (m : Map α) {k j : Nat} (h : j ≠ k) : Map.find? (Map.del m k) j = Map.find? m j := by
  unfold Map.del
  induction m with
  | nil => rfl
  | cons p t ih =>
    obtain ⟨k', v'⟩ := p
    by_cases e : k' = k
    · rw [List.filter_cons_of_neg (by simp [e]), Map.find?, if_neg (by omega), ih]
    · rw [List.filter_cons_of_pos (by simpa using e), Map.find?, Map.find?, ih]

theorem Map.find?_upd_same (m : Map α) (k : Nat) (f : α → α) : Map.find? (Map.upd m k f) k = (Map.find? m k).map f := by
  unfold Map.upd
  cases h : Map.find? m k with
  | none => simpa using h
  | some v => simp

theorem Map.find?_upd_ne (m : Map α) {k j : Nat} (f : α → α) (h : j ≠ k) : Map.find? (Map.upd m k f) j = Map.find? m j := by
  unfold Map.upd
  split
  · exact Map.find?_put_ne m _ h
  · rfl

end Sys2Proof.Machine
end

