-- ==== Sys2Proof/Laws/State.lean ====
section
/-!
SUPPORT. What the smallest operations over State leave alone: one lemma per field per operation, so that no later proof
unfolds a record update.
-/
namespace Sys2Proof.Machine

/-! ### `regs` changed -/

@[simp] theorem State.updRegs_regs (s : State) (f : Map Nat → Map Nat) : (s.updRegs f).regs = f s.regs := rfl
@[simp] theorem State.updRegs_mem (s : State) (f : Map Nat → Map Nat) : (s.updRegs f).mem = s.mem := rfl
@[simp] theorem State.updRegs_free (s : State) (f : Map Nat → Map Nat) : (s.updRegs f).free = s.free := rfl
@[simp] theorem State.updRegs_stk (s : State) (f : Map Nat → Map Nat) : (s.updRegs f).stk = s.stk := rfl
@[simp] theorem State.updRegs_arm (s : State) (f : Map Nat → Map Nat) : (s.updRegs f).arm = s.arm := rfl
@[simp] theorem State.updRegs_hif (s : State) (f : Map Nat → Map Nat) : (s.updRegs f).hif = s.hif := rfl
@[simp] theorem State.updRegs_nch (s : State) (f : Map Nat → Map Nat) : (s.updRegs f).nch = s.nch := rfl
@[simp] theorem State.updRegs_rng (s : State) (f : Map Nat → Map Nat) : (s.updRegs f).rng = s.rng := rfl
@[simp] theorem State.updRegs_dma (s : State) (f : Map Nat → Map Nat) : (s.updRegs f).dma = s.dma := rfl
@[simp] theorem State.updRegs_til (s : State) (f : Map Nat → Map Nat) : (s.updRegs f).til = s.til := rfl
@[simp] theorem State.updRegs_prs (s : State) (f : Map Nat → Map Nat) : (s.updRegs f).prs = s.prs := rfl
@[simp] theorem State.updRegs_tbl (s : State) (f : Map Nat → Map Nat) : (s.updRegs f).tbl = s.tbl := rfl
@[simp] theorem State.updRegs_sch (s : State) (f : Map Nat → Map Nat) : (s.updRegs f).sch = s.sch := rfl
@[simp] theorem State.updRegs_nvs (s : State) (f : Map Nat → Map Nat) : (s.updRegs f).nvs = s.nvs := rfl
@[simp] theorem State.updRegs_acc (s : State) (f : Map Nat → Map Nat) : (s.updRegs f).acc = s.acc := rfl
@[simp] theorem State.updRegs_tlt (s : State) (f : Map Nat → Map Nat) : (s.updRegs f).tlt = s.tlt := rfl
@[simp] theorem State.updRegs_fab (s : State) (f : Map Nat → Map Nat) : (s.updRegs f).fab = s.fab := rfl
@[simp] theorem State.updRegs_rgl (s : State) (f : Map Nat → Map Nat) : (s.updRegs f).rgl = s.rgl := rfl
@[simp] theorem State.updRegs_svc (s : State) (f : Map Nat → Map Nat) : (s.updRegs f).svc = s.svc := rfl
@[simp] theorem State.updRegs_pwr (s : State) (f : Map Nat → Map Nat) : (s.updRegs f).pwr = s.pwr := rfl
@[simp] theorem State.updRegs_jnl (s : State) (f : Map Nat → Map Nat) : (s.updRegs f).jnl = s.jnl := rfl
@[simp] theorem State.updRegs_pat (s : State) (f : Map Nat → Map Nat) : (s.updRegs f).pat = s.pat := rfl
@[simp] theorem State.updRegs_cmds (s : State) (f : Map Nat → Map Nat) : (s.updRegs f).cmds = s.cmds := rfl
@[simp] theorem State.updRegs_deferred (s : State) (f : Map Nat → Map Nat) : (s.updRegs f).deferred = s.deferred := rfl
@[simp] theorem State.updRegs_events (s : State) (f : Map Nat → Map Nat) : (s.updRegs f).events = s.events := rfl
@[simp] theorem State.updRegs_out (s : State) (f : Map Nat → Map Nat) : (s.updRegs f).out = s.out := rfl
@[simp] theorem State.updRegs_pending (s : State) (f : Map Nat → Map Nat) : (s.updRegs f).pending = s.pending := rfl

/-! ### `mem` changed -/

@[simp] theorem State.updMem_regs (s : State) (f : List Host.Cell → List Host.Cell) : (s.updMem f).regs = s.regs := rfl
@[simp] theorem State.updMem_mem (s : State) (f : List Host.Cell → List Host.Cell) : (s.updMem f).mem = f s.mem := rfl
@[simp] theorem State.updMem_free (s : State) (f : List Host.Cell → List Host.Cell) : (s.updMem f).free = s.free := rfl
@[simp] theorem State.updMem_stk (s : State) (f : List Host.Cell → List Host.Cell) : (s.updMem f).stk = s.stk := rfl
@[simp] theorem State.updMem_arm (s : State) (f : List Host.Cell → List Host.Cell) : (s.updMem f).arm = s.arm := rfl
@[simp] theorem State.updMem_hif (s : State) (f : List Host.Cell → List Host.Cell) : (s.updMem f).hif = s.hif := rfl
@[simp] theorem State.updMem_nch (s : State) (f : List Host.Cell → List Host.Cell) : (s.updMem f).nch = s.nch := rfl
@[simp] theorem State.updMem_rng (s : State) (f : List Host.Cell → List Host.Cell) : (s.updMem f).rng = s.rng := rfl
@[simp] theorem State.updMem_dma (s : State) (f : List Host.Cell → List Host.Cell) : (s.updMem f).dma = s.dma := rfl
@[simp] theorem State.updMem_til (s : State) (f : List Host.Cell → List Host.Cell) : (s.updMem f).til = s.til := rfl
@[simp] theorem State.updMem_prs (s : State) (f : List Host.Cell → List Host.Cell) : (s.updMem f).prs = s.prs := rfl
@[simp] theorem State.updMem_tbl (s : State) (f : List Host.Cell → List Host.Cell) : (s.updMem f).tbl = s.tbl := rfl
@[simp] theorem State.updMem_sch (s : State) (f : List Host.Cell → List Host.Cell) : (s.updMem f).sch = s.sch := rfl
@[simp] theorem State.updMem_nvs (s : State) (f : List Host.Cell → List Host.Cell) : (s.updMem f).nvs = s.nvs := rfl
@[simp] theorem State.updMem_acc (s : State) (f : List Host.Cell → List Host.Cell) : (s.updMem f).acc = s.acc := rfl
@[simp] theorem State.updMem_tlt (s : State) (f : List Host.Cell → List Host.Cell) : (s.updMem f).tlt = s.tlt := rfl
@[simp] theorem State.updMem_fab (s : State) (f : List Host.Cell → List Host.Cell) : (s.updMem f).fab = s.fab := rfl
@[simp] theorem State.updMem_rgl (s : State) (f : List Host.Cell → List Host.Cell) : (s.updMem f).rgl = s.rgl := rfl
@[simp] theorem State.updMem_svc (s : State) (f : List Host.Cell → List Host.Cell) : (s.updMem f).svc = s.svc := rfl
@[simp] theorem State.updMem_pwr (s : State) (f : List Host.Cell → List Host.Cell) : (s.updMem f).pwr = s.pwr := rfl
@[simp] theorem State.updMem_jnl (s : State) (f : List Host.Cell → List Host.Cell) : (s.updMem f).jnl = s.jnl := rfl
@[simp] theorem State.updMem_pat (s : State) (f : List Host.Cell → List Host.Cell) : (s.updMem f).pat = s.pat := rfl
@[simp] theorem State.updMem_cmds (s : State) (f : List Host.Cell → List Host.Cell) : (s.updMem f).cmds = s.cmds := rfl
@[simp] theorem State.updMem_deferred (s : State) (f : List Host.Cell → List Host.Cell) : (s.updMem f).deferred = s.deferred := rfl
@[simp] theorem State.updMem_events (s : State) (f : List Host.Cell → List Host.Cell) : (s.updMem f).events = s.events := rfl
@[simp] theorem State.updMem_out (s : State) (f : List Host.Cell → List Host.Cell) : (s.updMem f).out = s.out := rfl
@[simp] theorem State.updMem_pending (s : State) (f : List Host.Cell → List Host.Cell) : (s.updMem f).pending = s.pending := rfl
@[simp] theorem State.updMem_getI (s : State) (f : List Host.Cell → List Host.Cell) (g : Field) (i : Nat) : (s.updMem f).getI g i = s.getI g i := rfl
@[simp] theorem State.updMem_get (s : State) (f : List Host.Cell → List Host.Cell) (g : Field) : (s.updMem f).get g = s.get g := rfl

/-! ### `free` changed -/

@[simp] theorem State.updFree_regs (s : State) (f : Nat → Nat) : (s.updFree f).regs = s.regs := rfl
@[simp] theorem State.updFree_mem (s : State) (f : Nat → Nat) : (s.updFree f).mem = s.mem := rfl
@[simp] theorem State.updFree_free (s : State) (f : Nat → Nat) : (s.updFree f).free = f s.free := rfl
@[simp] theorem State.updFree_stk (s : State) (f : Nat → Nat) : (s.updFree f).stk = s.stk := rfl
@[simp] theorem State.updFree_arm (s : State) (f : Nat → Nat) : (s.updFree f).arm = s.arm := rfl
@[simp] theorem State.updFree_hif (s : State) (f : Nat → Nat) : (s.updFree f).hif = s.hif := rfl
@[simp] theorem State.updFree_nch (s : State) (f : Nat → Nat) : (s.updFree f).nch = s.nch := rfl
@[simp] theorem State.updFree_rng (s : State) (f : Nat → Nat) : (s.updFree f).rng = s.rng := rfl
@[simp] theorem State.updFree_dma (s : State) (f : Nat → Nat) : (s.updFree f).dma = s.dma := rfl
@[simp] theorem State.updFree_til (s : State) (f : Nat → Nat) : (s.updFree f).til = s.til := rfl
@[simp] theorem State.updFree_prs (s : State) (f : Nat → Nat) : (s.updFree f).prs = s.prs := rfl
@[simp] theorem State.updFree_tbl (s : State) (f : Nat → Nat) : (s.updFree f).tbl = s.tbl := rfl
@[simp] theorem State.updFree_sch (s : State) (f : Nat → Nat) : (s.updFree f).sch = s.sch := rfl
@[simp] theorem State.updFree_nvs (s : State) (f : Nat → Nat) : (s.updFree f).nvs = s.nvs := rfl
@[simp] theorem State.updFree_acc (s : State) (f : Nat → Nat) : (s.updFree f).acc = s.acc := rfl
@[simp] theorem State.updFree_tlt (s : State) (f : Nat → Nat) : (s.updFree f).tlt = s.tlt := rfl
@[simp] theorem State.updFree_fab (s : State) (f : Nat → Nat) : (s.updFree f).fab = s.fab := rfl
@[simp] theorem State.updFree_rgl (s : State) (f : Nat → Nat) : (s.updFree f).rgl = s.rgl := rfl
@[simp] theorem State.updFree_svc (s : State) (f : Nat → Nat) : (s.updFree f).svc = s.svc := rfl
@[simp] theorem State.updFree_pwr (s : State) (f : Nat → Nat) : (s.updFree f).pwr = s.pwr := rfl
@[simp] theorem State.updFree_jnl (s : State) (f : Nat → Nat) : (s.updFree f).jnl = s.jnl := rfl
@[simp] theorem State.updFree_pat (s : State) (f : Nat → Nat) : (s.updFree f).pat = s.pat := rfl
@[simp] theorem State.updFree_cmds (s : State) (f : Nat → Nat) : (s.updFree f).cmds = s.cmds := rfl
@[simp] theorem State.updFree_deferred (s : State) (f : Nat → Nat) : (s.updFree f).deferred = s.deferred := rfl
@[simp] theorem State.updFree_events (s : State) (f : Nat → Nat) : (s.updFree f).events = s.events := rfl
@[simp] theorem State.updFree_out (s : State) (f : Nat → Nat) : (s.updFree f).out = s.out := rfl
@[simp] theorem State.updFree_pending (s : State) (f : Nat → Nat) : (s.updFree f).pending = s.pending := rfl
@[simp] theorem State.updFree_getI (s : State) (f : Nat → Nat) (g : Field) (i : Nat) : (s.updFree f).getI g i = s.getI g i := rfl
@[simp] theorem State.updFree_get (s : State) (f : Nat → Nat) (g : Field) : (s.updFree f).get g = s.get g := rfl

/-! ### `stk` changed -/

@[simp] theorem State.updStk_regs (s : State) (f : Stk → Stk) : (s.updStk f).regs = s.regs := rfl
@[simp] theorem State.updStk_mem (s : State) (f : Stk → Stk) : (s.updStk f).mem = s.mem := rfl
@[simp] theorem State.updStk_free (s : State) (f : Stk → Stk) : (s.updStk f).free = s.free := rfl
@[simp] theorem State.updStk_stk (s : State) (f : Stk → Stk) : (s.updStk f).stk = f s.stk := rfl
@[simp] theorem State.updStk_arm (s : State) (f : Stk → Stk) : (s.updStk f).arm = s.arm := rfl
@[simp] theorem State.updStk_hif (s : State) (f : Stk → Stk) : (s.updStk f).hif = s.hif := rfl
@[simp] theorem State.updStk_nch (s : State) (f : Stk → Stk) : (s.updStk f).nch = s.nch := rfl
@[simp] theorem State.updStk_rng (s : State) (f : Stk → Stk) : (s.updStk f).rng = s.rng := rfl
@[simp] theorem State.updStk_dma (s : State) (f : Stk → Stk) : (s.updStk f).dma = s.dma := rfl
@[simp] theorem State.updStk_til (s : State) (f : Stk → Stk) : (s.updStk f).til = s.til := rfl
@[simp] theorem State.updStk_prs (s : State) (f : Stk → Stk) : (s.updStk f).prs = s.prs := rfl
@[simp] theorem State.updStk_tbl (s : State) (f : Stk → Stk) : (s.updStk f).tbl = s.tbl := rfl
@[simp] theorem State.updStk_sch (s : State) (f : Stk → Stk) : (s.updStk f).sch = s.sch := rfl
@[simp] theorem State.updStk_nvs (s : State) (f : Stk → Stk) : (s.updStk f).nvs = s.nvs := rfl
@[simp] theorem State.updStk_acc (s : State) (f : Stk → Stk) : (s.updStk f).acc = s.acc := rfl
@[simp] theorem State.updStk_tlt (s : State) (f : Stk → Stk) : (s.updStk f).tlt = s.tlt := rfl
@[simp] theorem State.updStk_fab (s : State) (f : Stk → Stk) : (s.updStk f).fab = s.fab := rfl
@[simp] theorem State.updStk_rgl (s : State) (f : Stk → Stk) : (s.updStk f).rgl = s.rgl := rfl
@[simp] theorem State.updStk_svc (s : State) (f : Stk → Stk) : (s.updStk f).svc = s.svc := rfl
@[simp] theorem State.updStk_pwr (s : State) (f : Stk → Stk) : (s.updStk f).pwr = s.pwr := rfl
@[simp] theorem State.updStk_jnl (s : State) (f : Stk → Stk) : (s.updStk f).jnl = s.jnl := rfl
@[simp] theorem State.updStk_pat (s : State) (f : Stk → Stk) : (s.updStk f).pat = s.pat := rfl
@[simp] theorem State.updStk_cmds (s : State) (f : Stk → Stk) : (s.updStk f).cmds = s.cmds := rfl
@[simp] theorem State.updStk_deferred (s : State) (f : Stk → Stk) : (s.updStk f).deferred = s.deferred := rfl
@[simp] theorem State.updStk_events (s : State) (f : Stk → Stk) : (s.updStk f).events = s.events := rfl
@[simp] theorem State.updStk_out (s : State) (f : Stk → Stk) : (s.updStk f).out = s.out := rfl
@[simp] theorem State.updStk_pending (s : State) (f : Stk → Stk) : (s.updStk f).pending = s.pending := rfl
@[simp] theorem State.updStk_getI (s : State) (f : Stk → Stk) (g : Field) (i : Nat) : (s.updStk f).getI g i = s.getI g i := rfl
@[simp] theorem State.updStk_get (s : State) (f : Stk → Stk) (g : Field) : (s.updStk f).get g = s.get g := rfl

/-! ### `arm` changed -/

@[simp] theorem State.updArm_regs (s : State) (f : Arm → Arm) : (s.updArm f).regs = s.regs := rfl
@[simp] theorem State.updArm_mem (s : State) (f : Arm → Arm) : (s.updArm f).mem = s.mem := rfl
@[simp] theorem State.updArm_free (s : State) (f : Arm → Arm) : (s.updArm f).free = s.free := rfl
@[simp] theorem State.updArm_stk (s : State) (f : Arm → Arm) : (s.updArm f).stk = s.stk := rfl
@[simp] theorem State.updArm_arm (s : State) (f : Arm → Arm) : (s.updArm f).arm = f s.arm := rfl
@[simp] theorem State.updArm_hif (s : State) (f : Arm → Arm) : (s.updArm f).hif = s.hif := rfl
@[simp] theorem State.updArm_nch (s : State) (f : Arm → Arm) : (s.updArm f).nch = s.nch := rfl
@[simp] theorem State.updArm_rng (s : State) (f : Arm → Arm) : (s.updArm f).rng = s.rng := rfl
@[simp] theorem State.updArm_dma (s : State) (f : Arm → Arm) : (s.updArm f).dma = s.dma := rfl
@[simp] theorem State.updArm_til (s : State) (f : Arm → Arm) : (s.updArm f).til = s.til := rfl
@[simp] theorem State.updArm_prs (s : State) (f : Arm → Arm) : (s.updArm f).prs = s.prs := rfl
@[simp] theorem State.updArm_tbl (s : State) (f : Arm → Arm) : (s.updArm f).tbl = s.tbl := rfl
@[simp] theorem State.updArm_sch (s : State) (f : Arm → Arm) : (s.updArm f).sch = s.sch := rfl
@[simp] theorem State.updArm_nvs (s : State) (f : Arm → Arm) : (s.updArm f).nvs = s.nvs := rfl
@[simp] theorem State.updArm_acc (s : State) (f : Arm → Arm) : (s.updArm f).acc = s.acc := rfl
@[simp] theorem State.updArm_tlt (s : State) (f : Arm → Arm) : (s.updArm f).tlt = s.tlt := rfl
@[simp] theorem State.updArm_fab (s : State) (f : Arm → Arm) : (s.updArm f).fab = s.fab := rfl
@[simp] theorem State.updArm_rgl (s : State) (f : Arm → Arm) : (s.updArm f).rgl = s.rgl := rfl
@[simp] theorem State.updArm_svc (s : State) (f : Arm → Arm) : (s.updArm f).svc = s.svc := rfl
@[simp] theorem State.updArm_pwr (s : State) (f : Arm → Arm) : (s.updArm f).pwr = s.pwr := rfl
@[simp] theorem State.updArm_jnl (s : State) (f : Arm → Arm) : (s.updArm f).jnl = s.jnl := rfl
@[simp] theorem State.updArm_pat (s : State) (f : Arm → Arm) : (s.updArm f).pat = s.pat := rfl
@[simp] theorem State.updArm_cmds (s : State) (f : Arm → Arm) : (s.updArm f).cmds = s.cmds := rfl
@[simp] theorem State.updArm_deferred (s : State) (f : Arm → Arm) : (s.updArm f).deferred = s.deferred := rfl
@[simp] theorem State.updArm_events (s : State) (f : Arm → Arm) : (s.updArm f).events = s.events := rfl
@[simp] theorem State.updArm_out (s : State) (f : Arm → Arm) : (s.updArm f).out = s.out := rfl
@[simp] theorem State.updArm_pending (s : State) (f : Arm → Arm) : (s.updArm f).pending = s.pending := rfl
@[simp] theorem State.updArm_getI (s : State) (f : Arm → Arm) (g : Field) (i : Nat) : (s.updArm f).getI g i = s.getI g i := rfl
@[simp] theorem State.updArm_get (s : State) (f : Arm → Arm) (g : Field) : (s.updArm f).get g = s.get g := rfl

/-! ### `hif` changed -/

@[simp] theorem State.updHif_regs (s : State) (f : Hif → Hif) : (s.updHif f).regs = s.regs := rfl
@[simp] theorem State.updHif_mem (s : State) (f : Hif → Hif) : (s.updHif f).mem = s.mem := rfl
@[simp] theorem State.updHif_free (s : State) (f : Hif → Hif) : (s.updHif f).free = s.free := rfl
@[simp] theorem State.updHif_stk (s : State) (f : Hif → Hif) : (s.updHif f).stk = s.stk := rfl
@[simp] theorem State.updHif_arm (s : State) (f : Hif → Hif) : (s.updHif f).arm = s.arm := rfl
@[simp] theorem State.updHif_hif (s : State) (f : Hif → Hif) : (s.updHif f).hif = f s.hif := rfl
@[simp] theorem State.updHif_nch (s : State) (f : Hif → Hif) : (s.updHif f).nch = s.nch := rfl
@[simp] theorem State.updHif_rng (s : State) (f : Hif → Hif) : (s.updHif f).rng = s.rng := rfl
@[simp] theorem State.updHif_dma (s : State) (f : Hif → Hif) : (s.updHif f).dma = s.dma := rfl
@[simp] theorem State.updHif_til (s : State) (f : Hif → Hif) : (s.updHif f).til = s.til := rfl
@[simp] theorem State.updHif_prs (s : State) (f : Hif → Hif) : (s.updHif f).prs = s.prs := rfl
@[simp] theorem State.updHif_tbl (s : State) (f : Hif → Hif) : (s.updHif f).tbl = s.tbl := rfl
@[simp] theorem State.updHif_sch (s : State) (f : Hif → Hif) : (s.updHif f).sch = s.sch := rfl
@[simp] theorem State.updHif_nvs (s : State) (f : Hif → Hif) : (s.updHif f).nvs = s.nvs := rfl
@[simp] theorem State.updHif_acc (s : State) (f : Hif → Hif) : (s.updHif f).acc = s.acc := rfl
@[simp] theorem State.updHif_tlt (s : State) (f : Hif → Hif) : (s.updHif f).tlt = s.tlt := rfl
@[simp] theorem State.updHif_fab (s : State) (f : Hif → Hif) : (s.updHif f).fab = s.fab := rfl
@[simp] theorem State.updHif_rgl (s : State) (f : Hif → Hif) : (s.updHif f).rgl = s.rgl := rfl
@[simp] theorem State.updHif_svc (s : State) (f : Hif → Hif) : (s.updHif f).svc = s.svc := rfl
@[simp] theorem State.updHif_pwr (s : State) (f : Hif → Hif) : (s.updHif f).pwr = s.pwr := rfl
@[simp] theorem State.updHif_jnl (s : State) (f : Hif → Hif) : (s.updHif f).jnl = s.jnl := rfl
@[simp] theorem State.updHif_pat (s : State) (f : Hif → Hif) : (s.updHif f).pat = s.pat := rfl
@[simp] theorem State.updHif_cmds (s : State) (f : Hif → Hif) : (s.updHif f).cmds = s.cmds := rfl
@[simp] theorem State.updHif_deferred (s : State) (f : Hif → Hif) : (s.updHif f).deferred = s.deferred := rfl
@[simp] theorem State.updHif_events (s : State) (f : Hif → Hif) : (s.updHif f).events = s.events := rfl
@[simp] theorem State.updHif_out (s : State) (f : Hif → Hif) : (s.updHif f).out = s.out := rfl
@[simp] theorem State.updHif_pending (s : State) (f : Hif → Hif) : (s.updHif f).pending = s.pending := rfl
@[simp] theorem State.updHif_getI (s : State) (f : Hif → Hif) (g : Field) (i : Nat) : (s.updHif f).getI g i = s.getI g i := rfl
@[simp] theorem State.updHif_get (s : State) (f : Hif → Hif) (g : Field) : (s.updHif f).get g = s.get g := rfl

/-! ### `nch` changed -/

@[simp] theorem State.updNch_regs (s : State) (f : Nch → Nch) : (s.updNch f).regs = s.regs := rfl
@[simp] theorem State.updNch_mem (s : State) (f : Nch → Nch) : (s.updNch f).mem = s.mem := rfl
@[simp] theorem State.updNch_free (s : State) (f : Nch → Nch) : (s.updNch f).free = s.free := rfl
@[simp] theorem State.updNch_stk (s : State) (f : Nch → Nch) : (s.updNch f).stk = s.stk := rfl
@[simp] theorem State.updNch_arm (s : State) (f : Nch → Nch) : (s.updNch f).arm = s.arm := rfl
@[simp] theorem State.updNch_hif (s : State) (f : Nch → Nch) : (s.updNch f).hif = s.hif := rfl
@[simp] theorem State.updNch_nch (s : State) (f : Nch → Nch) : (s.updNch f).nch = f s.nch := rfl
@[simp] theorem State.updNch_rng (s : State) (f : Nch → Nch) : (s.updNch f).rng = s.rng := rfl
@[simp] theorem State.updNch_dma (s : State) (f : Nch → Nch) : (s.updNch f).dma = s.dma := rfl
@[simp] theorem State.updNch_til (s : State) (f : Nch → Nch) : (s.updNch f).til = s.til := rfl
@[simp] theorem State.updNch_prs (s : State) (f : Nch → Nch) : (s.updNch f).prs = s.prs := rfl
@[simp] theorem State.updNch_tbl (s : State) (f : Nch → Nch) : (s.updNch f).tbl = s.tbl := rfl
@[simp] theorem State.updNch_sch (s : State) (f : Nch → Nch) : (s.updNch f).sch = s.sch := rfl
@[simp] theorem State.updNch_nvs (s : State) (f : Nch → Nch) : (s.updNch f).nvs = s.nvs := rfl
@[simp] theorem State.updNch_acc (s : State) (f : Nch → Nch) : (s.updNch f).acc = s.acc := rfl
@[simp] theorem State.updNch_tlt (s : State) (f : Nch → Nch) : (s.updNch f).tlt = s.tlt := rfl
@[simp] theorem State.updNch_fab (s : State) (f : Nch → Nch) : (s.updNch f).fab = s.fab := rfl
@[simp] theorem State.updNch_rgl (s : State) (f : Nch → Nch) : (s.updNch f).rgl = s.rgl := rfl
@[simp] theorem State.updNch_svc (s : State) (f : Nch → Nch) : (s.updNch f).svc = s.svc := rfl
@[simp] theorem State.updNch_pwr (s : State) (f : Nch → Nch) : (s.updNch f).pwr = s.pwr := rfl
@[simp] theorem State.updNch_jnl (s : State) (f : Nch → Nch) : (s.updNch f).jnl = s.jnl := rfl
@[simp] theorem State.updNch_pat (s : State) (f : Nch → Nch) : (s.updNch f).pat = s.pat := rfl
@[simp] theorem State.updNch_cmds (s : State) (f : Nch → Nch) : (s.updNch f).cmds = s.cmds := rfl
@[simp] theorem State.updNch_deferred (s : State) (f : Nch → Nch) : (s.updNch f).deferred = s.deferred := rfl
@[simp] theorem State.updNch_events (s : State) (f : Nch → Nch) : (s.updNch f).events = s.events := rfl
@[simp] theorem State.updNch_out (s : State) (f : Nch → Nch) : (s.updNch f).out = s.out := rfl
@[simp] theorem State.updNch_pending (s : State) (f : Nch → Nch) : (s.updNch f).pending = s.pending := rfl
@[simp] theorem State.updNch_getI (s : State) (f : Nch → Nch) (g : Field) (i : Nat) : (s.updNch f).getI g i = s.getI g i := rfl
@[simp] theorem State.updNch_get (s : State) (f : Nch → Nch) (g : Field) : (s.updNch f).get g = s.get g := rfl

/-! ### `rng` changed -/

@[simp] theorem State.updRng_regs (s : State) (f : Rng → Rng) : (s.updRng f).regs = s.regs := rfl
@[simp] theorem State.updRng_mem (s : State) (f : Rng → Rng) : (s.updRng f).mem = s.mem := rfl
@[simp] theorem State.updRng_free (s : State) (f : Rng → Rng) : (s.updRng f).free = s.free := rfl
@[simp] theorem State.updRng_stk (s : State) (f : Rng → Rng) : (s.updRng f).stk = s.stk := rfl
@[simp] theorem State.updRng_arm (s : State) (f : Rng → Rng) : (s.updRng f).arm = s.arm := rfl
@[simp] theorem State.updRng_hif (s : State) (f : Rng → Rng) : (s.updRng f).hif = s.hif := rfl
@[simp] theorem State.updRng_nch (s : State) (f : Rng → Rng) : (s.updRng f).nch = s.nch := rfl
@[simp] theorem State.updRng_rng (s : State) (f : Rng → Rng) : (s.updRng f).rng = f s.rng := rfl
@[simp] theorem State.updRng_dma (s : State) (f : Rng → Rng) : (s.updRng f).dma = s.dma := rfl
@[simp] theorem State.updRng_til (s : State) (f : Rng → Rng) : (s.updRng f).til = s.til := rfl
@[simp] theorem State.updRng_prs (s : State) (f : Rng → Rng) : (s.updRng f).prs = s.prs := rfl
@[simp] theorem State.updRng_tbl (s : State) (f : Rng → Rng) : (s.updRng f).tbl = s.tbl := rfl
@[simp] theorem State.updRng_sch (s : State) (f : Rng → Rng) : (s.updRng f).sch = s.sch := rfl
@[simp] theorem State.updRng_nvs (s : State) (f : Rng → Rng) : (s.updRng f).nvs = s.nvs := rfl
@[simp] theorem State.updRng_acc (s : State) (f : Rng → Rng) : (s.updRng f).acc = s.acc := rfl
@[simp] theorem State.updRng_tlt (s : State) (f : Rng → Rng) : (s.updRng f).tlt = s.tlt := rfl
@[simp] theorem State.updRng_fab (s : State) (f : Rng → Rng) : (s.updRng f).fab = s.fab := rfl
@[simp] theorem State.updRng_rgl (s : State) (f : Rng → Rng) : (s.updRng f).rgl = s.rgl := rfl
@[simp] theorem State.updRng_svc (s : State) (f : Rng → Rng) : (s.updRng f).svc = s.svc := rfl
@[simp] theorem State.updRng_pwr (s : State) (f : Rng → Rng) : (s.updRng f).pwr = s.pwr := rfl
@[simp] theorem State.updRng_jnl (s : State) (f : Rng → Rng) : (s.updRng f).jnl = s.jnl := rfl
@[simp] theorem State.updRng_pat (s : State) (f : Rng → Rng) : (s.updRng f).pat = s.pat := rfl
@[simp] theorem State.updRng_cmds (s : State) (f : Rng → Rng) : (s.updRng f).cmds = s.cmds := rfl
@[simp] theorem State.updRng_deferred (s : State) (f : Rng → Rng) : (s.updRng f).deferred = s.deferred := rfl
@[simp] theorem State.updRng_events (s : State) (f : Rng → Rng) : (s.updRng f).events = s.events := rfl
@[simp] theorem State.updRng_out (s : State) (f : Rng → Rng) : (s.updRng f).out = s.out := rfl
@[simp] theorem State.updRng_pending (s : State) (f : Rng → Rng) : (s.updRng f).pending = s.pending := rfl
@[simp] theorem State.updRng_getI (s : State) (f : Rng → Rng) (g : Field) (i : Nat) : (s.updRng f).getI g i = s.getI g i := rfl
@[simp] theorem State.updRng_get (s : State) (f : Rng → Rng) (g : Field) : (s.updRng f).get g = s.get g := rfl

/-! ### `dma` changed -/

@[simp] theorem State.updDma_regs (s : State) (f : Dma → Dma) : (s.updDma f).regs = s.regs := rfl
@[simp] theorem State.updDma_mem (s : State) (f : Dma → Dma) : (s.updDma f).mem = s.mem := rfl
@[simp] theorem State.updDma_free (s : State) (f : Dma → Dma) : (s.updDma f).free = s.free := rfl
@[simp] theorem State.updDma_stk (s : State) (f : Dma → Dma) : (s.updDma f).stk = s.stk := rfl
@[simp] theorem State.updDma_arm (s : State) (f : Dma → Dma) : (s.updDma f).arm = s.arm := rfl
@[simp] theorem State.updDma_hif (s : State) (f : Dma → Dma) : (s.updDma f).hif = s.hif := rfl
@[simp] theorem State.updDma_nch (s : State) (f : Dma → Dma) : (s.updDma f).nch = s.nch := rfl
@[simp] theorem State.updDma_rng (s : State) (f : Dma → Dma) : (s.updDma f).rng = s.rng := rfl
@[simp] theorem State.updDma_dma (s : State) (f : Dma → Dma) : (s.updDma f).dma = f s.dma := rfl
@[simp] theorem State.updDma_til (s : State) (f : Dma → Dma) : (s.updDma f).til = s.til := rfl
@[simp] theorem State.updDma_prs (s : State) (f : Dma → Dma) : (s.updDma f).prs = s.prs := rfl
@[simp] theorem State.updDma_tbl (s : State) (f : Dma → Dma) : (s.updDma f).tbl = s.tbl := rfl
@[simp] theorem State.updDma_sch (s : State) (f : Dma → Dma) : (s.updDma f).sch = s.sch := rfl
@[simp] theorem State.updDma_nvs (s : State) (f : Dma → Dma) : (s.updDma f).nvs = s.nvs := rfl
@[simp] theorem State.updDma_acc (s : State) (f : Dma → Dma) : (s.updDma f).acc = s.acc := rfl
@[simp] theorem State.updDma_tlt (s : State) (f : Dma → Dma) : (s.updDma f).tlt = s.tlt := rfl
@[simp] theorem State.updDma_fab (s : State) (f : Dma → Dma) : (s.updDma f).fab = s.fab := rfl
@[simp] theorem State.updDma_rgl (s : State) (f : Dma → Dma) : (s.updDma f).rgl = s.rgl := rfl
@[simp] theorem State.updDma_svc (s : State) (f : Dma → Dma) : (s.updDma f).svc = s.svc := rfl
@[simp] theorem State.updDma_pwr (s : State) (f : Dma → Dma) : (s.updDma f).pwr = s.pwr := rfl
@[simp] theorem State.updDma_jnl (s : State) (f : Dma → Dma) : (s.updDma f).jnl = s.jnl := rfl
@[simp] theorem State.updDma_pat (s : State) (f : Dma → Dma) : (s.updDma f).pat = s.pat := rfl
@[simp] theorem State.updDma_cmds (s : State) (f : Dma → Dma) : (s.updDma f).cmds = s.cmds := rfl
@[simp] theorem State.updDma_deferred (s : State) (f : Dma → Dma) : (s.updDma f).deferred = s.deferred := rfl
@[simp] theorem State.updDma_events (s : State) (f : Dma → Dma) : (s.updDma f).events = s.events := rfl
@[simp] theorem State.updDma_out (s : State) (f : Dma → Dma) : (s.updDma f).out = s.out := rfl
@[simp] theorem State.updDma_pending (s : State) (f : Dma → Dma) : (s.updDma f).pending = s.pending := rfl
@[simp] theorem State.updDma_getI (s : State) (f : Dma → Dma) (g : Field) (i : Nat) : (s.updDma f).getI g i = s.getI g i := rfl
@[simp] theorem State.updDma_get (s : State) (f : Dma → Dma) (g : Field) : (s.updDma f).get g = s.get g := rfl

/-! ### `til` changed -/

@[simp] theorem State.updTil_regs (s : State) (f : Til → Til) : (s.updTil f).regs = s.regs := rfl
@[simp] theorem State.updTil_mem (s : State) (f : Til → Til) : (s.updTil f).mem = s.mem := rfl
@[simp] theorem State.updTil_free (s : State) (f : Til → Til) : (s.updTil f).free = s.free := rfl
@[simp] theorem State.updTil_stk (s : State) (f : Til → Til) : (s.updTil f).stk = s.stk := rfl
@[simp] theorem State.updTil_arm (s : State) (f : Til → Til) : (s.updTil f).arm = s.arm := rfl
@[simp] theorem State.updTil_hif (s : State) (f : Til → Til) : (s.updTil f).hif = s.hif := rfl
@[simp] theorem State.updTil_nch (s : State) (f : Til → Til) : (s.updTil f).nch = s.nch := rfl
@[simp] theorem State.updTil_rng (s : State) (f : Til → Til) : (s.updTil f).rng = s.rng := rfl
@[simp] theorem State.updTil_dma (s : State) (f : Til → Til) : (s.updTil f).dma = s.dma := rfl
@[simp] theorem State.updTil_til (s : State) (f : Til → Til) : (s.updTil f).til = f s.til := rfl
@[simp] theorem State.updTil_prs (s : State) (f : Til → Til) : (s.updTil f).prs = s.prs := rfl
@[simp] theorem State.updTil_tbl (s : State) (f : Til → Til) : (s.updTil f).tbl = s.tbl := rfl
@[simp] theorem State.updTil_sch (s : State) (f : Til → Til) : (s.updTil f).sch = s.sch := rfl
@[simp] theorem State.updTil_nvs (s : State) (f : Til → Til) : (s.updTil f).nvs = s.nvs := rfl
@[simp] theorem State.updTil_acc (s : State) (f : Til → Til) : (s.updTil f).acc = s.acc := rfl
@[simp] theorem State.updTil_tlt (s : State) (f : Til → Til) : (s.updTil f).tlt = s.tlt := rfl
@[simp] theorem State.updTil_fab (s : State) (f : Til → Til) : (s.updTil f).fab = s.fab := rfl
@[simp] theorem State.updTil_rgl (s : State) (f : Til → Til) : (s.updTil f).rgl = s.rgl := rfl
@[simp] theorem State.updTil_svc (s : State) (f : Til → Til) : (s.updTil f).svc = s.svc := rfl
@[simp] theorem State.updTil_pwr (s : State) (f : Til → Til) : (s.updTil f).pwr = s.pwr := rfl
@[simp] theorem State.updTil_jnl (s : State) (f : Til → Til) : (s.updTil f).jnl = s.jnl := rfl
@[simp] theorem State.updTil_pat (s : State) (f : Til → Til) : (s.updTil f).pat = s.pat := rfl
@[simp] theorem State.updTil_cmds (s : State) (f : Til → Til) : (s.updTil f).cmds = s.cmds := rfl
@[simp] theorem State.updTil_deferred (s : State) (f : Til → Til) : (s.updTil f).deferred = s.deferred := rfl
@[simp] theorem State.updTil_events (s : State) (f : Til → Til) : (s.updTil f).events = s.events := rfl
@[simp] theorem State.updTil_out (s : State) (f : Til → Til) : (s.updTil f).out = s.out := rfl
@[simp] theorem State.updTil_pending (s : State) (f : Til → Til) : (s.updTil f).pending = s.pending := rfl
@[simp] theorem State.updTil_getI (s : State) (f : Til → Til) (g : Field) (i : Nat) : (s.updTil f).getI g i = s.getI g i := rfl
@[simp] theorem State.updTil_get (s : State) (f : Til → Til) (g : Field) : (s.updTil f).get g = s.get g := rfl

/-! ### `prs` changed -/

@[simp] theorem State.updPrs_regs (s : State) (f : Prs → Prs) : (s.updPrs f).regs = s.regs := rfl
@[simp] theorem State.updPrs_mem (s : State) (f : Prs → Prs) : (s.updPrs f).mem = s.mem := rfl
@[simp] theorem State.updPrs_free (s : State) (f : Prs → Prs) : (s.updPrs f).free = s.free := rfl
@[simp] theorem State.updPrs_stk (s : State) (f : Prs → Prs) : (s.updPrs f).stk = s.stk := rfl
@[simp] theorem State.updPrs_arm (s : State) (f : Prs → Prs) : (s.updPrs f).arm = s.arm := rfl
@[simp] theorem State.updPrs_hif (s : State) (f : Prs → Prs) : (s.updPrs f).hif = s.hif := rfl
@[simp] theorem State.updPrs_nch (s : State) (f : Prs → Prs) : (s.updPrs f).nch = s.nch := rfl
@[simp] theorem State.updPrs_rng (s : State) (f : Prs → Prs) : (s.updPrs f).rng = s.rng := rfl
@[simp] theorem State.updPrs_dma (s : State) (f : Prs → Prs) : (s.updPrs f).dma = s.dma := rfl
@[simp] theorem State.updPrs_til (s : State) (f : Prs → Prs) : (s.updPrs f).til = s.til := rfl
@[simp] theorem State.updPrs_prs (s : State) (f : Prs → Prs) : (s.updPrs f).prs = f s.prs := rfl
@[simp] theorem State.updPrs_tbl (s : State) (f : Prs → Prs) : (s.updPrs f).tbl = s.tbl := rfl
@[simp] theorem State.updPrs_sch (s : State) (f : Prs → Prs) : (s.updPrs f).sch = s.sch := rfl
@[simp] theorem State.updPrs_nvs (s : State) (f : Prs → Prs) : (s.updPrs f).nvs = s.nvs := rfl
@[simp] theorem State.updPrs_acc (s : State) (f : Prs → Prs) : (s.updPrs f).acc = s.acc := rfl
@[simp] theorem State.updPrs_tlt (s : State) (f : Prs → Prs) : (s.updPrs f).tlt = s.tlt := rfl
@[simp] theorem State.updPrs_fab (s : State) (f : Prs → Prs) : (s.updPrs f).fab = s.fab := rfl
@[simp] theorem State.updPrs_rgl (s : State) (f : Prs → Prs) : (s.updPrs f).rgl = s.rgl := rfl
@[simp] theorem State.updPrs_svc (s : State) (f : Prs → Prs) : (s.updPrs f).svc = s.svc := rfl
@[simp] theorem State.updPrs_pwr (s : State) (f : Prs → Prs) : (s.updPrs f).pwr = s.pwr := rfl
@[simp] theorem State.updPrs_jnl (s : State) (f : Prs → Prs) : (s.updPrs f).jnl = s.jnl := rfl
@[simp] theorem State.updPrs_pat (s : State) (f : Prs → Prs) : (s.updPrs f).pat = s.pat := rfl
@[simp] theorem State.updPrs_cmds (s : State) (f : Prs → Prs) : (s.updPrs f).cmds = s.cmds := rfl
@[simp] theorem State.updPrs_deferred (s : State) (f : Prs → Prs) : (s.updPrs f).deferred = s.deferred := rfl
@[simp] theorem State.updPrs_events (s : State) (f : Prs → Prs) : (s.updPrs f).events = s.events := rfl
@[simp] theorem State.updPrs_out (s : State) (f : Prs → Prs) : (s.updPrs f).out = s.out := rfl
@[simp] theorem State.updPrs_pending (s : State) (f : Prs → Prs) : (s.updPrs f).pending = s.pending := rfl
@[simp] theorem State.updPrs_getI (s : State) (f : Prs → Prs) (g : Field) (i : Nat) : (s.updPrs f).getI g i = s.getI g i := rfl
@[simp] theorem State.updPrs_get (s : State) (f : Prs → Prs) (g : Field) : (s.updPrs f).get g = s.get g := rfl

/-! ### `tbl` changed -/

@[simp] theorem State.updTbl_regs (s : State) (f : Tbl → Tbl) : (s.updTbl f).regs = s.regs := rfl
@[simp] theorem State.updTbl_mem (s : State) (f : Tbl → Tbl) : (s.updTbl f).mem = s.mem := rfl
@[simp] theorem State.updTbl_free (s : State) (f : Tbl → Tbl) : (s.updTbl f).free = s.free := rfl
@[simp] theorem State.updTbl_stk (s : State) (f : Tbl → Tbl) : (s.updTbl f).stk = s.stk := rfl
@[simp] theorem State.updTbl_arm (s : State) (f : Tbl → Tbl) : (s.updTbl f).arm = s.arm := rfl
@[simp] theorem State.updTbl_hif (s : State) (f : Tbl → Tbl) : (s.updTbl f).hif = s.hif := rfl
@[simp] theorem State.updTbl_nch (s : State) (f : Tbl → Tbl) : (s.updTbl f).nch = s.nch := rfl
@[simp] theorem State.updTbl_rng (s : State) (f : Tbl → Tbl) : (s.updTbl f).rng = s.rng := rfl
@[simp] theorem State.updTbl_dma (s : State) (f : Tbl → Tbl) : (s.updTbl f).dma = s.dma := rfl
@[simp] theorem State.updTbl_til (s : State) (f : Tbl → Tbl) : (s.updTbl f).til = s.til := rfl
@[simp] theorem State.updTbl_prs (s : State) (f : Tbl → Tbl) : (s.updTbl f).prs = s.prs := rfl
@[simp] theorem State.updTbl_tbl (s : State) (f : Tbl → Tbl) : (s.updTbl f).tbl = f s.tbl := rfl
@[simp] theorem State.updTbl_sch (s : State) (f : Tbl → Tbl) : (s.updTbl f).sch = s.sch := rfl
@[simp] theorem State.updTbl_nvs (s : State) (f : Tbl → Tbl) : (s.updTbl f).nvs = s.nvs := rfl
@[simp] theorem State.updTbl_acc (s : State) (f : Tbl → Tbl) : (s.updTbl f).acc = s.acc := rfl
@[simp] theorem State.updTbl_tlt (s : State) (f : Tbl → Tbl) : (s.updTbl f).tlt = s.tlt := rfl
@[simp] theorem State.updTbl_fab (s : State) (f : Tbl → Tbl) : (s.updTbl f).fab = s.fab := rfl
@[simp] theorem State.updTbl_rgl (s : State) (f : Tbl → Tbl) : (s.updTbl f).rgl = s.rgl := rfl
@[simp] theorem State.updTbl_svc (s : State) (f : Tbl → Tbl) : (s.updTbl f).svc = s.svc := rfl
@[simp] theorem State.updTbl_pwr (s : State) (f : Tbl → Tbl) : (s.updTbl f).pwr = s.pwr := rfl
@[simp] theorem State.updTbl_jnl (s : State) (f : Tbl → Tbl) : (s.updTbl f).jnl = s.jnl := rfl
@[simp] theorem State.updTbl_pat (s : State) (f : Tbl → Tbl) : (s.updTbl f).pat = s.pat := rfl
@[simp] theorem State.updTbl_cmds (s : State) (f : Tbl → Tbl) : (s.updTbl f).cmds = s.cmds := rfl
@[simp] theorem State.updTbl_deferred (s : State) (f : Tbl → Tbl) : (s.updTbl f).deferred = s.deferred := rfl
@[simp] theorem State.updTbl_events (s : State) (f : Tbl → Tbl) : (s.updTbl f).events = s.events := rfl
@[simp] theorem State.updTbl_out (s : State) (f : Tbl → Tbl) : (s.updTbl f).out = s.out := rfl
@[simp] theorem State.updTbl_pending (s : State) (f : Tbl → Tbl) : (s.updTbl f).pending = s.pending := rfl
@[simp] theorem State.updTbl_getI (s : State) (f : Tbl → Tbl) (g : Field) (i : Nat) : (s.updTbl f).getI g i = s.getI g i := rfl
@[simp] theorem State.updTbl_get (s : State) (f : Tbl → Tbl) (g : Field) : (s.updTbl f).get g = s.get g := rfl

/-! ### `sch` changed -/

@[simp] theorem State.updSch_regs (s : State) (f : Sch → Sch) : (s.updSch f).regs = s.regs := rfl
@[simp] theorem State.updSch_mem (s : State) (f : Sch → Sch) : (s.updSch f).mem = s.mem := rfl
@[simp] theorem State.updSch_free (s : State) (f : Sch → Sch) : (s.updSch f).free = s.free := rfl
@[simp] theorem State.updSch_stk (s : State) (f : Sch → Sch) : (s.updSch f).stk = s.stk := rfl
@[simp] theorem State.updSch_arm (s : State) (f : Sch → Sch) : (s.updSch f).arm = s.arm := rfl
@[simp] theorem State.updSch_hif (s : State) (f : Sch → Sch) : (s.updSch f).hif = s.hif := rfl
@[simp] theorem State.updSch_nch (s : State) (f : Sch → Sch) : (s.updSch f).nch = s.nch := rfl
@[simp] theorem State.updSch_rng (s : State) (f : Sch → Sch) : (s.updSch f).rng = s.rng := rfl
@[simp] theorem State.updSch_dma (s : State) (f : Sch → Sch) : (s.updSch f).dma = s.dma := rfl
@[simp] theorem State.updSch_til (s : State) (f : Sch → Sch) : (s.updSch f).til = s.til := rfl
@[simp] theorem State.updSch_prs (s : State) (f : Sch → Sch) : (s.updSch f).prs = s.prs := rfl
@[simp] theorem State.updSch_tbl (s : State) (f : Sch → Sch) : (s.updSch f).tbl = s.tbl := rfl
@[simp] theorem State.updSch_sch (s : State) (f : Sch → Sch) : (s.updSch f).sch = f s.sch := rfl
@[simp] theorem State.updSch_nvs (s : State) (f : Sch → Sch) : (s.updSch f).nvs = s.nvs := rfl
@[simp] theorem State.updSch_acc (s : State) (f : Sch → Sch) : (s.updSch f).acc = s.acc := rfl
@[simp] theorem State.updSch_tlt (s : State) (f : Sch → Sch) : (s.updSch f).tlt = s.tlt := rfl
@[simp] theorem State.updSch_fab (s : State) (f : Sch → Sch) : (s.updSch f).fab = s.fab := rfl
@[simp] theorem State.updSch_rgl (s : State) (f : Sch → Sch) : (s.updSch f).rgl = s.rgl := rfl
@[simp] theorem State.updSch_svc (s : State) (f : Sch → Sch) : (s.updSch f).svc = s.svc := rfl
@[simp] theorem State.updSch_pwr (s : State) (f : Sch → Sch) : (s.updSch f).pwr = s.pwr := rfl
@[simp] theorem State.updSch_jnl (s : State) (f : Sch → Sch) : (s.updSch f).jnl = s.jnl := rfl
@[simp] theorem State.updSch_pat (s : State) (f : Sch → Sch) : (s.updSch f).pat = s.pat := rfl
@[simp] theorem State.updSch_cmds (s : State) (f : Sch → Sch) : (s.updSch f).cmds = s.cmds := rfl
@[simp] theorem State.updSch_deferred (s : State) (f : Sch → Sch) : (s.updSch f).deferred = s.deferred := rfl
@[simp] theorem State.updSch_events (s : State) (f : Sch → Sch) : (s.updSch f).events = s.events := rfl
@[simp] theorem State.updSch_out (s : State) (f : Sch → Sch) : (s.updSch f).out = s.out := rfl
@[simp] theorem State.updSch_pending (s : State) (f : Sch → Sch) : (s.updSch f).pending = s.pending := rfl
@[simp] theorem State.updSch_getI (s : State) (f : Sch → Sch) (g : Field) (i : Nat) : (s.updSch f).getI g i = s.getI g i := rfl
@[simp] theorem State.updSch_get (s : State) (f : Sch → Sch) (g : Field) : (s.updSch f).get g = s.get g := rfl

/-! ### `nvs` changed -/

@[simp] theorem State.updNvs_regs (s : State) (f : Nvs → Nvs) : (s.updNvs f).regs = s.regs := rfl
@[simp] theorem State.updNvs_mem (s : State) (f : Nvs → Nvs) : (s.updNvs f).mem = s.mem := rfl
@[simp] theorem State.updNvs_free (s : State) (f : Nvs → Nvs) : (s.updNvs f).free = s.free := rfl
@[simp] theorem State.updNvs_stk (s : State) (f : Nvs → Nvs) : (s.updNvs f).stk = s.stk := rfl
@[simp] theorem State.updNvs_arm (s : State) (f : Nvs → Nvs) : (s.updNvs f).arm = s.arm := rfl
@[simp] theorem State.updNvs_hif (s : State) (f : Nvs → Nvs) : (s.updNvs f).hif = s.hif := rfl
@[simp] theorem State.updNvs_nch (s : State) (f : Nvs → Nvs) : (s.updNvs f).nch = s.nch := rfl
@[simp] theorem State.updNvs_rng (s : State) (f : Nvs → Nvs) : (s.updNvs f).rng = s.rng := rfl
@[simp] theorem State.updNvs_dma (s : State) (f : Nvs → Nvs) : (s.updNvs f).dma = s.dma := rfl
@[simp] theorem State.updNvs_til (s : State) (f : Nvs → Nvs) : (s.updNvs f).til = s.til := rfl
@[simp] theorem State.updNvs_prs (s : State) (f : Nvs → Nvs) : (s.updNvs f).prs = s.prs := rfl
@[simp] theorem State.updNvs_tbl (s : State) (f : Nvs → Nvs) : (s.updNvs f).tbl = s.tbl := rfl
@[simp] theorem State.updNvs_sch (s : State) (f : Nvs → Nvs) : (s.updNvs f).sch = s.sch := rfl
@[simp] theorem State.updNvs_nvs (s : State) (f : Nvs → Nvs) : (s.updNvs f).nvs = f s.nvs := rfl
@[simp] theorem State.updNvs_acc (s : State) (f : Nvs → Nvs) : (s.updNvs f).acc = s.acc := rfl
@[simp] theorem State.updNvs_tlt (s : State) (f : Nvs → Nvs) : (s.updNvs f).tlt = s.tlt := rfl
@[simp] theorem State.updNvs_fab (s : State) (f : Nvs → Nvs) : (s.updNvs f).fab = s.fab := rfl
@[simp] theorem State.updNvs_rgl (s : State) (f : Nvs → Nvs) : (s.updNvs f).rgl = s.rgl := rfl
@[simp] theorem State.updNvs_svc (s : State) (f : Nvs → Nvs) : (s.updNvs f).svc = s.svc := rfl
@[simp] theorem State.updNvs_pwr (s : State) (f : Nvs → Nvs) : (s.updNvs f).pwr = s.pwr := rfl
@[simp] theorem State.updNvs_jnl (s : State) (f : Nvs → Nvs) : (s.updNvs f).jnl = s.jnl := rfl
@[simp] theorem State.updNvs_pat (s : State) (f : Nvs → Nvs) : (s.updNvs f).pat = s.pat := rfl
@[simp] theorem State.updNvs_cmds (s : State) (f : Nvs → Nvs) : (s.updNvs f).cmds = s.cmds := rfl
@[simp] theorem State.updNvs_deferred (s : State) (f : Nvs → Nvs) : (s.updNvs f).deferred = s.deferred := rfl
@[simp] theorem State.updNvs_events (s : State) (f : Nvs → Nvs) : (s.updNvs f).events = s.events := rfl
@[simp] theorem State.updNvs_out (s : State) (f : Nvs → Nvs) : (s.updNvs f).out = s.out := rfl
@[simp] theorem State.updNvs_pending (s : State) (f : Nvs → Nvs) : (s.updNvs f).pending = s.pending := rfl
@[simp] theorem State.updNvs_getI (s : State) (f : Nvs → Nvs) (g : Field) (i : Nat) : (s.updNvs f).getI g i = s.getI g i := rfl
@[simp] theorem State.updNvs_get (s : State) (f : Nvs → Nvs) (g : Field) : (s.updNvs f).get g = s.get g := rfl

/-! ### `acc` changed -/

@[simp] theorem State.updAcc_regs (s : State) (f : Acc → Acc) : (s.updAcc f).regs = s.regs := rfl
@[simp] theorem State.updAcc_mem (s : State) (f : Acc → Acc) : (s.updAcc f).mem = s.mem := rfl
@[simp] theorem State.updAcc_free (s : State) (f : Acc → Acc) : (s.updAcc f).free = s.free := rfl
@[simp] theorem State.updAcc_stk (s : State) (f : Acc → Acc) : (s.updAcc f).stk = s.stk := rfl
@[simp] theorem State.updAcc_arm (s : State) (f : Acc → Acc) : (s.updAcc f).arm = s.arm := rfl
@[simp] theorem State.updAcc_hif (s : State) (f : Acc → Acc) : (s.updAcc f).hif = s.hif := rfl
@[simp] theorem State.updAcc_nch (s : State) (f : Acc → Acc) : (s.updAcc f).nch = s.nch := rfl
@[simp] theorem State.updAcc_rng (s : State) (f : Acc → Acc) : (s.updAcc f).rng = s.rng := rfl
@[simp] theorem State.updAcc_dma (s : State) (f : Acc → Acc) : (s.updAcc f).dma = s.dma := rfl
@[simp] theorem State.updAcc_til (s : State) (f : Acc → Acc) : (s.updAcc f).til = s.til := rfl
@[simp] theorem State.updAcc_prs (s : State) (f : Acc → Acc) : (s.updAcc f).prs = s.prs := rfl
@[simp] theorem State.updAcc_tbl (s : State) (f : Acc → Acc) : (s.updAcc f).tbl = s.tbl := rfl
@[simp] theorem State.updAcc_sch (s : State) (f : Acc → Acc) : (s.updAcc f).sch = s.sch := rfl
@[simp] theorem State.updAcc_nvs (s : State) (f : Acc → Acc) : (s.updAcc f).nvs = s.nvs := rfl
@[simp] theorem State.updAcc_acc (s : State) (f : Acc → Acc) : (s.updAcc f).acc = f s.acc := rfl
@[simp] theorem State.updAcc_tlt (s : State) (f : Acc → Acc) : (s.updAcc f).tlt = s.tlt := rfl
@[simp] theorem State.updAcc_fab (s : State) (f : Acc → Acc) : (s.updAcc f).fab = s.fab := rfl
@[simp] theorem State.updAcc_rgl (s : State) (f : Acc → Acc) : (s.updAcc f).rgl = s.rgl := rfl
@[simp] theorem State.updAcc_svc (s : State) (f : Acc → Acc) : (s.updAcc f).svc = s.svc := rfl
@[simp] theorem State.updAcc_pwr (s : State) (f : Acc → Acc) : (s.updAcc f).pwr = s.pwr := rfl
@[simp] theorem State.updAcc_jnl (s : State) (f : Acc → Acc) : (s.updAcc f).jnl = s.jnl := rfl
@[simp] theorem State.updAcc_pat (s : State) (f : Acc → Acc) : (s.updAcc f).pat = s.pat := rfl
@[simp] theorem State.updAcc_cmds (s : State) (f : Acc → Acc) : (s.updAcc f).cmds = s.cmds := rfl
@[simp] theorem State.updAcc_deferred (s : State) (f : Acc → Acc) : (s.updAcc f).deferred = s.deferred := rfl
@[simp] theorem State.updAcc_events (s : State) (f : Acc → Acc) : (s.updAcc f).events = s.events := rfl
@[simp] theorem State.updAcc_out (s : State) (f : Acc → Acc) : (s.updAcc f).out = s.out := rfl
@[simp] theorem State.updAcc_pending (s : State) (f : Acc → Acc) : (s.updAcc f).pending = s.pending := rfl
@[simp] theorem State.updAcc_getI (s : State) (f : Acc → Acc) (g : Field) (i : Nat) : (s.updAcc f).getI g i = s.getI g i := rfl
@[simp] theorem State.updAcc_get (s : State) (f : Acc → Acc) (g : Field) : (s.updAcc f).get g = s.get g := rfl

/-! ### `tlt` changed -/

@[simp] theorem State.updTlt_regs (s : State) (f : Tlt → Tlt) : (s.updTlt f).regs = s.regs := rfl
@[simp] theorem State.updTlt_mem (s : State) (f : Tlt → Tlt) : (s.updTlt f).mem = s.mem := rfl
@[simp] theorem State.updTlt_free (s : State) (f : Tlt → Tlt) : (s.updTlt f).free = s.free := rfl
@[simp] theorem State.updTlt_stk (s : State) (f : Tlt → Tlt) : (s.updTlt f).stk = s.stk := rfl
@[simp] theorem State.updTlt_arm (s : State) (f : Tlt → Tlt) : (s.updTlt f).arm = s.arm := rfl
@[simp] theorem State.updTlt_hif (s : State) (f : Tlt → Tlt) : (s.updTlt f).hif = s.hif := rfl
@[simp] theorem State.updTlt_nch (s : State) (f : Tlt → Tlt) : (s.updTlt f).nch = s.nch := rfl
@[simp] theorem State.updTlt_rng (s : State) (f : Tlt → Tlt) : (s.updTlt f).rng = s.rng := rfl
@[simp] theorem State.updTlt_dma (s : State) (f : Tlt → Tlt) : (s.updTlt f).dma = s.dma := rfl
@[simp] theorem State.updTlt_til (s : State) (f : Tlt → Tlt) : (s.updTlt f).til = s.til := rfl
@[simp] theorem State.updTlt_prs (s : State) (f : Tlt → Tlt) : (s.updTlt f).prs = s.prs := rfl
@[simp] theorem State.updTlt_tbl (s : State) (f : Tlt → Tlt) : (s.updTlt f).tbl = s.tbl := rfl
@[simp] theorem State.updTlt_sch (s : State) (f : Tlt → Tlt) : (s.updTlt f).sch = s.sch := rfl
@[simp] theorem State.updTlt_nvs (s : State) (f : Tlt → Tlt) : (s.updTlt f).nvs = s.nvs := rfl
@[simp] theorem State.updTlt_acc (s : State) (f : Tlt → Tlt) : (s.updTlt f).acc = s.acc := rfl
@[simp] theorem State.updTlt_tlt (s : State) (f : Tlt → Tlt) : (s.updTlt f).tlt = f s.tlt := rfl
@[simp] theorem State.updTlt_fab (s : State) (f : Tlt → Tlt) : (s.updTlt f).fab = s.fab := rfl
@[simp] theorem State.updTlt_rgl (s : State) (f : Tlt → Tlt) : (s.updTlt f).rgl = s.rgl := rfl
@[simp] theorem State.updTlt_svc (s : State) (f : Tlt → Tlt) : (s.updTlt f).svc = s.svc := rfl
@[simp] theorem State.updTlt_pwr (s : State) (f : Tlt → Tlt) : (s.updTlt f).pwr = s.pwr := rfl
@[simp] theorem State.updTlt_jnl (s : State) (f : Tlt → Tlt) : (s.updTlt f).jnl = s.jnl := rfl
@[simp] theorem State.updTlt_pat (s : State) (f : Tlt → Tlt) : (s.updTlt f).pat = s.pat := rfl
@[simp] theorem State.updTlt_cmds (s : State) (f : Tlt → Tlt) : (s.updTlt f).cmds = s.cmds := rfl
@[simp] theorem State.updTlt_deferred (s : State) (f : Tlt → Tlt) : (s.updTlt f).deferred = s.deferred := rfl
@[simp] theorem State.updTlt_events (s : State) (f : Tlt → Tlt) : (s.updTlt f).events = s.events := rfl
@[simp] theorem State.updTlt_out (s : State) (f : Tlt → Tlt) : (s.updTlt f).out = s.out := rfl
@[simp] theorem State.updTlt_pending (s : State) (f : Tlt → Tlt) : (s.updTlt f).pending = s.pending := rfl
@[simp] theorem State.updTlt_getI (s : State) (f : Tlt → Tlt) (g : Field) (i : Nat) : (s.updTlt f).getI g i = s.getI g i := rfl
@[simp] theorem State.updTlt_get (s : State) (f : Tlt → Tlt) (g : Field) : (s.updTlt f).get g = s.get g := rfl

/-! ### `fab` changed -/

@[simp] theorem State.updFab_regs (s : State) (f : Fab → Fab) : (s.updFab f).regs = s.regs := rfl
@[simp] theorem State.updFab_mem (s : State) (f : Fab → Fab) : (s.updFab f).mem = s.mem := rfl
@[simp] theorem State.updFab_free (s : State) (f : Fab → Fab) : (s.updFab f).free = s.free := rfl
@[simp] theorem State.updFab_stk (s : State) (f : Fab → Fab) : (s.updFab f).stk = s.stk := rfl
@[simp] theorem State.updFab_arm (s : State) (f : Fab → Fab) : (s.updFab f).arm = s.arm := rfl
@[simp] theorem State.updFab_hif (s : State) (f : Fab → Fab) : (s.updFab f).hif = s.hif := rfl
@[simp] theorem State.updFab_nch (s : State) (f : Fab → Fab) : (s.updFab f).nch = s.nch := rfl
@[simp] theorem State.updFab_rng (s : State) (f : Fab → Fab) : (s.updFab f).rng = s.rng := rfl
@[simp] theorem State.updFab_dma (s : State) (f : Fab → Fab) : (s.updFab f).dma = s.dma := rfl
@[simp] theorem State.updFab_til (s : State) (f : Fab → Fab) : (s.updFab f).til = s.til := rfl
@[simp] theorem State.updFab_prs (s : State) (f : Fab → Fab) : (s.updFab f).prs = s.prs := rfl
@[simp] theorem State.updFab_tbl (s : State) (f : Fab → Fab) : (s.updFab f).tbl = s.tbl := rfl
@[simp] theorem State.updFab_sch (s : State) (f : Fab → Fab) : (s.updFab f).sch = s.sch := rfl
@[simp] theorem State.updFab_nvs (s : State) (f : Fab → Fab) : (s.updFab f).nvs = s.nvs := rfl
@[simp] theorem State.updFab_acc (s : State) (f : Fab → Fab) : (s.updFab f).acc = s.acc := rfl
@[simp] theorem State.updFab_tlt (s : State) (f : Fab → Fab) : (s.updFab f).tlt = s.tlt := rfl
@[simp] theorem State.updFab_fab (s : State) (f : Fab → Fab) : (s.updFab f).fab = f s.fab := rfl
@[simp] theorem State.updFab_rgl (s : State) (f : Fab → Fab) : (s.updFab f).rgl = s.rgl := rfl
@[simp] theorem State.updFab_svc (s : State) (f : Fab → Fab) : (s.updFab f).svc = s.svc := rfl
@[simp] theorem State.updFab_pwr (s : State) (f : Fab → Fab) : (s.updFab f).pwr = s.pwr := rfl
@[simp] theorem State.updFab_jnl (s : State) (f : Fab → Fab) : (s.updFab f).jnl = s.jnl := rfl
@[simp] theorem State.updFab_pat (s : State) (f : Fab → Fab) : (s.updFab f).pat = s.pat := rfl
@[simp] theorem State.updFab_cmds (s : State) (f : Fab → Fab) : (s.updFab f).cmds = s.cmds := rfl
@[simp] theorem State.updFab_deferred (s : State) (f : Fab → Fab) : (s.updFab f).deferred = s.deferred := rfl
@[simp] theorem State.updFab_events (s : State) (f : Fab → Fab) : (s.updFab f).events = s.events := rfl
@[simp] theorem State.updFab_out (s : State) (f : Fab → Fab) : (s.updFab f).out = s.out := rfl
@[simp] theorem State.updFab_pending (s : State) (f : Fab → Fab) : (s.updFab f).pending = s.pending := rfl
@[simp] theorem State.updFab_getI (s : State) (f : Fab → Fab) (g : Field) (i : Nat) : (s.updFab f).getI g i = s.getI g i := rfl
@[simp] theorem State.updFab_get (s : State) (f : Fab → Fab) (g : Field) : (s.updFab f).get g = s.get g := rfl

/-! ### `rgl` changed -/

@[simp] theorem State.updRgl_regs (s : State) (f : Rgl → Rgl) : (s.updRgl f).regs = s.regs := rfl
@[simp] theorem State.updRgl_mem (s : State) (f : Rgl → Rgl) : (s.updRgl f).mem = s.mem := rfl
@[simp] theorem State.updRgl_free (s : State) (f : Rgl → Rgl) : (s.updRgl f).free = s.free := rfl
@[simp] theorem State.updRgl_stk (s : State) (f : Rgl → Rgl) : (s.updRgl f).stk = s.stk := rfl
@[simp] theorem State.updRgl_arm (s : State) (f : Rgl → Rgl) : (s.updRgl f).arm = s.arm := rfl
@[simp] theorem State.updRgl_hif (s : State) (f : Rgl → Rgl) : (s.updRgl f).hif = s.hif := rfl
@[simp] theorem State.updRgl_nch (s : State) (f : Rgl → Rgl) : (s.updRgl f).nch = s.nch := rfl
@[simp] theorem State.updRgl_rng (s : State) (f : Rgl → Rgl) : (s.updRgl f).rng = s.rng := rfl
@[simp] theorem State.updRgl_dma (s : State) (f : Rgl → Rgl) : (s.updRgl f).dma = s.dma := rfl
@[simp] theorem State.updRgl_til (s : State) (f : Rgl → Rgl) : (s.updRgl f).til = s.til := rfl
@[simp] theorem State.updRgl_prs (s : State) (f : Rgl → Rgl) : (s.updRgl f).prs = s.prs := rfl
@[simp] theorem State.updRgl_tbl (s : State) (f : Rgl → Rgl) : (s.updRgl f).tbl = s.tbl := rfl
@[simp] theorem State.updRgl_sch (s : State) (f : Rgl → Rgl) : (s.updRgl f).sch = s.sch := rfl
@[simp] theorem State.updRgl_nvs (s : State) (f : Rgl → Rgl) : (s.updRgl f).nvs = s.nvs := rfl
@[simp] theorem State.updRgl_acc (s : State) (f : Rgl → Rgl) : (s.updRgl f).acc = s.acc := rfl
@[simp] theorem State.updRgl_tlt (s : State) (f : Rgl → Rgl) : (s.updRgl f).tlt = s.tlt := rfl
@[simp] theorem State.updRgl_fab (s : State) (f : Rgl → Rgl) : (s.updRgl f).fab = s.fab := rfl
@[simp] theorem State.updRgl_rgl (s : State) (f : Rgl → Rgl) : (s.updRgl f).rgl = f s.rgl := rfl
@[simp] theorem State.updRgl_svc (s : State) (f : Rgl → Rgl) : (s.updRgl f).svc = s.svc := rfl
@[simp] theorem State.updRgl_pwr (s : State) (f : Rgl → Rgl) : (s.updRgl f).pwr = s.pwr := rfl
@[simp] theorem State.updRgl_jnl (s : State) (f : Rgl → Rgl) : (s.updRgl f).jnl = s.jnl := rfl
@[simp] theorem State.updRgl_pat (s : State) (f : Rgl → Rgl) : (s.updRgl f).pat = s.pat := rfl
@[simp] theorem State.updRgl_cmds (s : State) (f : Rgl → Rgl) : (s.updRgl f).cmds = s.cmds := rfl
@[simp] theorem State.updRgl_deferred (s : State) (f : Rgl → Rgl) : (s.updRgl f).deferred = s.deferred := rfl
@[simp] theorem State.updRgl_events (s : State) (f : Rgl → Rgl) : (s.updRgl f).events = s.events := rfl
@[simp] theorem State.updRgl_out (s : State) (f : Rgl → Rgl) : (s.updRgl f).out = s.out := rfl
@[simp] theorem State.updRgl_pending (s : State) (f : Rgl → Rgl) : (s.updRgl f).pending = s.pending := rfl
@[simp] theorem State.updRgl_getI (s : State) (f : Rgl → Rgl) (g : Field) (i : Nat) : (s.updRgl f).getI g i = s.getI g i := rfl
@[simp] theorem State.updRgl_get (s : State) (f : Rgl → Rgl) (g : Field) : (s.updRgl f).get g = s.get g := rfl

/-! ### `svc` changed -/

@[simp] theorem State.updSvc_regs (s : State) (f : Svc → Svc) : (s.updSvc f).regs = s.regs := rfl
@[simp] theorem State.updSvc_mem (s : State) (f : Svc → Svc) : (s.updSvc f).mem = s.mem := rfl
@[simp] theorem State.updSvc_free (s : State) (f : Svc → Svc) : (s.updSvc f).free = s.free := rfl
@[simp] theorem State.updSvc_stk (s : State) (f : Svc → Svc) : (s.updSvc f).stk = s.stk := rfl
@[simp] theorem State.updSvc_arm (s : State) (f : Svc → Svc) : (s.updSvc f).arm = s.arm := rfl
@[simp] theorem State.updSvc_hif (s : State) (f : Svc → Svc) : (s.updSvc f).hif = s.hif := rfl
@[simp] theorem State.updSvc_nch (s : State) (f : Svc → Svc) : (s.updSvc f).nch = s.nch := rfl
@[simp] theorem State.updSvc_rng (s : State) (f : Svc → Svc) : (s.updSvc f).rng = s.rng := rfl
@[simp] theorem State.updSvc_dma (s : State) (f : Svc → Svc) : (s.updSvc f).dma = s.dma := rfl
@[simp] theorem State.updSvc_til (s : State) (f : Svc → Svc) : (s.updSvc f).til = s.til := rfl
@[simp] theorem State.updSvc_prs (s : State) (f : Svc → Svc) : (s.updSvc f).prs = s.prs := rfl
@[simp] theorem State.updSvc_tbl (s : State) (f : Svc → Svc) : (s.updSvc f).tbl = s.tbl := rfl
@[simp] theorem State.updSvc_sch (s : State) (f : Svc → Svc) : (s.updSvc f).sch = s.sch := rfl
@[simp] theorem State.updSvc_nvs (s : State) (f : Svc → Svc) : (s.updSvc f).nvs = s.nvs := rfl
@[simp] theorem State.updSvc_acc (s : State) (f : Svc → Svc) : (s.updSvc f).acc = s.acc := rfl
@[simp] theorem State.updSvc_tlt (s : State) (f : Svc → Svc) : (s.updSvc f).tlt = s.tlt := rfl
@[simp] theorem State.updSvc_fab (s : State) (f : Svc → Svc) : (s.updSvc f).fab = s.fab := rfl
@[simp] theorem State.updSvc_rgl (s : State) (f : Svc → Svc) : (s.updSvc f).rgl = s.rgl := rfl
@[simp] theorem State.updSvc_svc (s : State) (f : Svc → Svc) : (s.updSvc f).svc = f s.svc := rfl
@[simp] theorem State.updSvc_pwr (s : State) (f : Svc → Svc) : (s.updSvc f).pwr = s.pwr := rfl
@[simp] theorem State.updSvc_jnl (s : State) (f : Svc → Svc) : (s.updSvc f).jnl = s.jnl := rfl
@[simp] theorem State.updSvc_pat (s : State) (f : Svc → Svc) : (s.updSvc f).pat = s.pat := rfl
@[simp] theorem State.updSvc_cmds (s : State) (f : Svc → Svc) : (s.updSvc f).cmds = s.cmds := rfl
@[simp] theorem State.updSvc_deferred (s : State) (f : Svc → Svc) : (s.updSvc f).deferred = s.deferred := rfl
@[simp] theorem State.updSvc_events (s : State) (f : Svc → Svc) : (s.updSvc f).events = s.events := rfl
@[simp] theorem State.updSvc_out (s : State) (f : Svc → Svc) : (s.updSvc f).out = s.out := rfl
@[simp] theorem State.updSvc_pending (s : State) (f : Svc → Svc) : (s.updSvc f).pending = s.pending := rfl
@[simp] theorem State.updSvc_getI (s : State) (f : Svc → Svc) (g : Field) (i : Nat) : (s.updSvc f).getI g i = s.getI g i := rfl
@[simp] theorem State.updSvc_get (s : State) (f : Svc → Svc) (g : Field) : (s.updSvc f).get g = s.get g := rfl

/-! ### `pwr` changed -/

@[simp] theorem State.updPwr_regs (s : State) (f : Pwr → Pwr) : (s.updPwr f).regs = s.regs := rfl
@[simp] theorem State.updPwr_mem (s : State) (f : Pwr → Pwr) : (s.updPwr f).mem = s.mem := rfl
@[simp] theorem State.updPwr_free (s : State) (f : Pwr → Pwr) : (s.updPwr f).free = s.free := rfl
@[simp] theorem State.updPwr_stk (s : State) (f : Pwr → Pwr) : (s.updPwr f).stk = s.stk := rfl
@[simp] theorem State.updPwr_arm (s : State) (f : Pwr → Pwr) : (s.updPwr f).arm = s.arm := rfl
@[simp] theorem State.updPwr_hif (s : State) (f : Pwr → Pwr) : (s.updPwr f).hif = s.hif := rfl
@[simp] theorem State.updPwr_nch (s : State) (f : Pwr → Pwr) : (s.updPwr f).nch = s.nch := rfl
@[simp] theorem State.updPwr_rng (s : State) (f : Pwr → Pwr) : (s.updPwr f).rng = s.rng := rfl
@[simp] theorem State.updPwr_dma (s : State) (f : Pwr → Pwr) : (s.updPwr f).dma = s.dma := rfl
@[simp] theorem State.updPwr_til (s : State) (f : Pwr → Pwr) : (s.updPwr f).til = s.til := rfl
@[simp] theorem State.updPwr_prs (s : State) (f : Pwr → Pwr) : (s.updPwr f).prs = s.prs := rfl
@[simp] theorem State.updPwr_tbl (s : State) (f : Pwr → Pwr) : (s.updPwr f).tbl = s.tbl := rfl
@[simp] theorem State.updPwr_sch (s : State) (f : Pwr → Pwr) : (s.updPwr f).sch = s.sch := rfl
@[simp] theorem State.updPwr_nvs (s : State) (f : Pwr → Pwr) : (s.updPwr f).nvs = s.nvs := rfl
@[simp] theorem State.updPwr_acc (s : State) (f : Pwr → Pwr) : (s.updPwr f).acc = s.acc := rfl
@[simp] theorem State.updPwr_tlt (s : State) (f : Pwr → Pwr) : (s.updPwr f).tlt = s.tlt := rfl
@[simp] theorem State.updPwr_fab (s : State) (f : Pwr → Pwr) : (s.updPwr f).fab = s.fab := rfl
@[simp] theorem State.updPwr_rgl (s : State) (f : Pwr → Pwr) : (s.updPwr f).rgl = s.rgl := rfl
@[simp] theorem State.updPwr_svc (s : State) (f : Pwr → Pwr) : (s.updPwr f).svc = s.svc := rfl
@[simp] theorem State.updPwr_pwr (s : State) (f : Pwr → Pwr) : (s.updPwr f).pwr = f s.pwr := rfl
@[simp] theorem State.updPwr_jnl (s : State) (f : Pwr → Pwr) : (s.updPwr f).jnl = s.jnl := rfl
@[simp] theorem State.updPwr_pat (s : State) (f : Pwr → Pwr) : (s.updPwr f).pat = s.pat := rfl
@[simp] theorem State.updPwr_cmds (s : State) (f : Pwr → Pwr) : (s.updPwr f).cmds = s.cmds := rfl
@[simp] theorem State.updPwr_deferred (s : State) (f : Pwr → Pwr) : (s.updPwr f).deferred = s.deferred := rfl
@[simp] theorem State.updPwr_events (s : State) (f : Pwr → Pwr) : (s.updPwr f).events = s.events := rfl
@[simp] theorem State.updPwr_out (s : State) (f : Pwr → Pwr) : (s.updPwr f).out = s.out := rfl
@[simp] theorem State.updPwr_pending (s : State) (f : Pwr → Pwr) : (s.updPwr f).pending = s.pending := rfl
@[simp] theorem State.updPwr_getI (s : State) (f : Pwr → Pwr) (g : Field) (i : Nat) : (s.updPwr f).getI g i = s.getI g i := rfl
@[simp] theorem State.updPwr_get (s : State) (f : Pwr → Pwr) (g : Field) : (s.updPwr f).get g = s.get g := rfl

/-! ### `jnl` changed -/

@[simp] theorem State.updJnl_regs (s : State) (f : Jnl → Jnl) : (s.updJnl f).regs = s.regs := rfl
@[simp] theorem State.updJnl_mem (s : State) (f : Jnl → Jnl) : (s.updJnl f).mem = s.mem := rfl
@[simp] theorem State.updJnl_free (s : State) (f : Jnl → Jnl) : (s.updJnl f).free = s.free := rfl
@[simp] theorem State.updJnl_stk (s : State) (f : Jnl → Jnl) : (s.updJnl f).stk = s.stk := rfl
@[simp] theorem State.updJnl_arm (s : State) (f : Jnl → Jnl) : (s.updJnl f).arm = s.arm := rfl
@[simp] theorem State.updJnl_hif (s : State) (f : Jnl → Jnl) : (s.updJnl f).hif = s.hif := rfl
@[simp] theorem State.updJnl_nch (s : State) (f : Jnl → Jnl) : (s.updJnl f).nch = s.nch := rfl
@[simp] theorem State.updJnl_rng (s : State) (f : Jnl → Jnl) : (s.updJnl f).rng = s.rng := rfl
@[simp] theorem State.updJnl_dma (s : State) (f : Jnl → Jnl) : (s.updJnl f).dma = s.dma := rfl
@[simp] theorem State.updJnl_til (s : State) (f : Jnl → Jnl) : (s.updJnl f).til = s.til := rfl
@[simp] theorem State.updJnl_prs (s : State) (f : Jnl → Jnl) : (s.updJnl f).prs = s.prs := rfl
@[simp] theorem State.updJnl_tbl (s : State) (f : Jnl → Jnl) : (s.updJnl f).tbl = s.tbl := rfl
@[simp] theorem State.updJnl_sch (s : State) (f : Jnl → Jnl) : (s.updJnl f).sch = s.sch := rfl
@[simp] theorem State.updJnl_nvs (s : State) (f : Jnl → Jnl) : (s.updJnl f).nvs = s.nvs := rfl
@[simp] theorem State.updJnl_acc (s : State) (f : Jnl → Jnl) : (s.updJnl f).acc = s.acc := rfl
@[simp] theorem State.updJnl_tlt (s : State) (f : Jnl → Jnl) : (s.updJnl f).tlt = s.tlt := rfl
@[simp] theorem State.updJnl_fab (s : State) (f : Jnl → Jnl) : (s.updJnl f).fab = s.fab := rfl
@[simp] theorem State.updJnl_rgl (s : State) (f : Jnl → Jnl) : (s.updJnl f).rgl = s.rgl := rfl
@[simp] theorem State.updJnl_svc (s : State) (f : Jnl → Jnl) : (s.updJnl f).svc = s.svc := rfl
@[simp] theorem State.updJnl_pwr (s : State) (f : Jnl → Jnl) : (s.updJnl f).pwr = s.pwr := rfl
@[simp] theorem State.updJnl_jnl (s : State) (f : Jnl → Jnl) : (s.updJnl f).jnl = f s.jnl := rfl
@[simp] theorem State.updJnl_pat (s : State) (f : Jnl → Jnl) : (s.updJnl f).pat = s.pat := rfl
@[simp] theorem State.updJnl_cmds (s : State) (f : Jnl → Jnl) : (s.updJnl f).cmds = s.cmds := rfl
@[simp] theorem State.updJnl_deferred (s : State) (f : Jnl → Jnl) : (s.updJnl f).deferred = s.deferred := rfl
@[simp] theorem State.updJnl_events (s : State) (f : Jnl → Jnl) : (s.updJnl f).events = s.events := rfl
@[simp] theorem State.updJnl_out (s : State) (f : Jnl → Jnl) : (s.updJnl f).out = s.out := rfl
@[simp] theorem State.updJnl_pending (s : State) (f : Jnl → Jnl) : (s.updJnl f).pending = s.pending := rfl
@[simp] theorem State.updJnl_getI (s : State) (f : Jnl → Jnl) (g : Field) (i : Nat) : (s.updJnl f).getI g i = s.getI g i := rfl
@[simp] theorem State.updJnl_get (s : State) (f : Jnl → Jnl) (g : Field) : (s.updJnl f).get g = s.get g := rfl

/-! ### `pat` changed -/

@[simp] theorem State.updPat_regs (s : State) (f : Pat → Pat) : (s.updPat f).regs = s.regs := rfl
@[simp] theorem State.updPat_mem (s : State) (f : Pat → Pat) : (s.updPat f).mem = s.mem := rfl
@[simp] theorem State.updPat_free (s : State) (f : Pat → Pat) : (s.updPat f).free = s.free := rfl
@[simp] theorem State.updPat_stk (s : State) (f : Pat → Pat) : (s.updPat f).stk = s.stk := rfl
@[simp] theorem State.updPat_arm (s : State) (f : Pat → Pat) : (s.updPat f).arm = s.arm := rfl
@[simp] theorem State.updPat_hif (s : State) (f : Pat → Pat) : (s.updPat f).hif = s.hif := rfl
@[simp] theorem State.updPat_nch (s : State) (f : Pat → Pat) : (s.updPat f).nch = s.nch := rfl
@[simp] theorem State.updPat_rng (s : State) (f : Pat → Pat) : (s.updPat f).rng = s.rng := rfl
@[simp] theorem State.updPat_dma (s : State) (f : Pat → Pat) : (s.updPat f).dma = s.dma := rfl
@[simp] theorem State.updPat_til (s : State) (f : Pat → Pat) : (s.updPat f).til = s.til := rfl
@[simp] theorem State.updPat_prs (s : State) (f : Pat → Pat) : (s.updPat f).prs = s.prs := rfl
@[simp] theorem State.updPat_tbl (s : State) (f : Pat → Pat) : (s.updPat f).tbl = s.tbl := rfl
@[simp] theorem State.updPat_sch (s : State) (f : Pat → Pat) : (s.updPat f).sch = s.sch := rfl
@[simp] theorem State.updPat_nvs (s : State) (f : Pat → Pat) : (s.updPat f).nvs = s.nvs := rfl
@[simp] theorem State.updPat_acc (s : State) (f : Pat → Pat) : (s.updPat f).acc = s.acc := rfl
@[simp] theorem State.updPat_tlt (s : State) (f : Pat → Pat) : (s.updPat f).tlt = s.tlt := rfl
@[simp] theorem State.updPat_fab (s : State) (f : Pat → Pat) : (s.updPat f).fab = s.fab := rfl
@[simp] theorem State.updPat_rgl (s : State) (f : Pat → Pat) : (s.updPat f).rgl = s.rgl := rfl
@[simp] theorem State.updPat_svc (s : State) (f : Pat → Pat) : (s.updPat f).svc = s.svc := rfl
@[simp] theorem State.updPat_pwr (s : State) (f : Pat → Pat) : (s.updPat f).pwr = s.pwr := rfl
@[simp] theorem State.updPat_jnl (s : State) (f : Pat → Pat) : (s.updPat f).jnl = s.jnl := rfl
@[simp] theorem State.updPat_pat (s : State) (f : Pat → Pat) : (s.updPat f).pat = f s.pat := rfl
@[simp] theorem State.updPat_cmds (s : State) (f : Pat → Pat) : (s.updPat f).cmds = s.cmds := rfl
@[simp] theorem State.updPat_deferred (s : State) (f : Pat → Pat) : (s.updPat f).deferred = s.deferred := rfl
@[simp] theorem State.updPat_events (s : State) (f : Pat → Pat) : (s.updPat f).events = s.events := rfl
@[simp] theorem State.updPat_out (s : State) (f : Pat → Pat) : (s.updPat f).out = s.out := rfl
@[simp] theorem State.updPat_pending (s : State) (f : Pat → Pat) : (s.updPat f).pending = s.pending := rfl
@[simp] theorem State.updPat_getI (s : State) (f : Pat → Pat) (g : Field) (i : Nat) : (s.updPat f).getI g i = s.getI g i := rfl
@[simp] theorem State.updPat_get (s : State) (f : Pat → Pat) (g : Field) : (s.updPat f).get g = s.get g := rfl

/-! ### `cmds` changed -/

@[simp] theorem State.updCmds_regs (s : State) (f : Map CmdPend → Map CmdPend) : (s.updCmds f).regs = s.regs := rfl
@[simp] theorem State.updCmds_mem (s : State) (f : Map CmdPend → Map CmdPend) : (s.updCmds f).mem = s.mem := rfl
@[simp] theorem State.updCmds_free (s : State) (f : Map CmdPend → Map CmdPend) : (s.updCmds f).free = s.free := rfl
@[simp] theorem State.updCmds_stk (s : State) (f : Map CmdPend → Map CmdPend) : (s.updCmds f).stk = s.stk := rfl
@[simp] theorem State.updCmds_arm (s : State) (f : Map CmdPend → Map CmdPend) : (s.updCmds f).arm = s.arm := rfl
@[simp] theorem State.updCmds_hif (s : State) (f : Map CmdPend → Map CmdPend) : (s.updCmds f).hif = s.hif := rfl
@[simp] theorem State.updCmds_nch (s : State) (f : Map CmdPend → Map CmdPend) : (s.updCmds f).nch = s.nch := rfl
@[simp] theorem State.updCmds_rng (s : State) (f : Map CmdPend → Map CmdPend) : (s.updCmds f).rng = s.rng := rfl
@[simp] theorem State.updCmds_dma (s : State) (f : Map CmdPend → Map CmdPend) : (s.updCmds f).dma = s.dma := rfl
@[simp] theorem State.updCmds_til (s : State) (f : Map CmdPend → Map CmdPend) : (s.updCmds f).til = s.til := rfl
@[simp] theorem State.updCmds_prs (s : State) (f : Map CmdPend → Map CmdPend) : (s.updCmds f).prs = s.prs := rfl
@[simp] theorem State.updCmds_tbl (s : State) (f : Map CmdPend → Map CmdPend) : (s.updCmds f).tbl = s.tbl := rfl
@[simp] theorem State.updCmds_sch (s : State) (f : Map CmdPend → Map CmdPend) : (s.updCmds f).sch = s.sch := rfl
@[simp] theorem State.updCmds_nvs (s : State) (f : Map CmdPend → Map CmdPend) : (s.updCmds f).nvs = s.nvs := rfl
@[simp] theorem State.updCmds_acc (s : State) (f : Map CmdPend → Map CmdPend) : (s.updCmds f).acc = s.acc := rfl
@[simp] theorem State.updCmds_tlt (s : State) (f : Map CmdPend → Map CmdPend) : (s.updCmds f).tlt = s.tlt := rfl
@[simp] theorem State.updCmds_fab (s : State) (f : Map CmdPend → Map CmdPend) : (s.updCmds f).fab = s.fab := rfl
@[simp] theorem State.updCmds_rgl (s : State) (f : Map CmdPend → Map CmdPend) : (s.updCmds f).rgl = s.rgl := rfl
@[simp] theorem State.updCmds_svc (s : State) (f : Map CmdPend → Map CmdPend) : (s.updCmds f).svc = s.svc := rfl
@[simp] theorem State.updCmds_pwr (s : State) (f : Map CmdPend → Map CmdPend) : (s.updCmds f).pwr = s.pwr := rfl
@[simp] theorem State.updCmds_jnl (s : State) (f : Map CmdPend → Map CmdPend) : (s.updCmds f).jnl = s.jnl := rfl
@[simp] theorem State.updCmds_pat (s : State) (f : Map CmdPend → Map CmdPend) : (s.updCmds f).pat = s.pat := rfl
@[simp] theorem State.updCmds_cmds (s : State) (f : Map CmdPend → Map CmdPend) : (s.updCmds f).cmds = f s.cmds := rfl
@[simp] theorem State.updCmds_deferred (s : State) (f : Map CmdPend → Map CmdPend) : (s.updCmds f).deferred = s.deferred := rfl
@[simp] theorem State.updCmds_events (s : State) (f : Map CmdPend → Map CmdPend) : (s.updCmds f).events = s.events := rfl
@[simp] theorem State.updCmds_out (s : State) (f : Map CmdPend → Map CmdPend) : (s.updCmds f).out = s.out := rfl
@[simp] theorem State.updCmds_pending (s : State) (f : Map CmdPend → Map CmdPend) : (s.updCmds f).pending = s.pending := rfl
@[simp] theorem State.updCmds_getI (s : State) (f : Map CmdPend → Map CmdPend) (g : Field) (i : Nat) : (s.updCmds f).getI g i = s.getI g i := rfl
@[simp] theorem State.updCmds_get (s : State) (f : Map CmdPend → Map CmdPend) (g : Field) : (s.updCmds f).get g = s.get g := rfl

/-! ### `deferred` changed -/

@[simp] theorem State.updDeferred_regs (s : State) (f : List (Nat × Change) → List (Nat × Change)) : (s.updDeferred f).regs = s.regs := rfl
@[simp] theorem State.updDeferred_mem (s : State) (f : List (Nat × Change) → List (Nat × Change)) : (s.updDeferred f).mem = s.mem := rfl
@[simp] theorem State.updDeferred_free (s : State) (f : List (Nat × Change) → List (Nat × Change)) : (s.updDeferred f).free = s.free := rfl
@[simp] theorem State.updDeferred_stk (s : State) (f : List (Nat × Change) → List (Nat × Change)) : (s.updDeferred f).stk = s.stk := rfl
@[simp] theorem State.updDeferred_arm (s : State) (f : List (Nat × Change) → List (Nat × Change)) : (s.updDeferred f).arm = s.arm := rfl
@[simp] theorem State.updDeferred_hif (s : State) (f : List (Nat × Change) → List (Nat × Change)) : (s.updDeferred f).hif = s.hif := rfl
@[simp] theorem State.updDeferred_nch (s : State) (f : List (Nat × Change) → List (Nat × Change)) : (s.updDeferred f).nch = s.nch := rfl
@[simp] theorem State.updDeferred_rng (s : State) (f : List (Nat × Change) → List (Nat × Change)) : (s.updDeferred f).rng = s.rng := rfl
@[simp] theorem State.updDeferred_dma (s : State) (f : List (Nat × Change) → List (Nat × Change)) : (s.updDeferred f).dma = s.dma := rfl
@[simp] theorem State.updDeferred_til (s : State) (f : List (Nat × Change) → List (Nat × Change)) : (s.updDeferred f).til = s.til := rfl
@[simp] theorem State.updDeferred_prs (s : State) (f : List (Nat × Change) → List (Nat × Change)) : (s.updDeferred f).prs = s.prs := rfl
@[simp] theorem State.updDeferred_tbl (s : State) (f : List (Nat × Change) → List (Nat × Change)) : (s.updDeferred f).tbl = s.tbl := rfl
@[simp] theorem State.updDeferred_sch (s : State) (f : List (Nat × Change) → List (Nat × Change)) : (s.updDeferred f).sch = s.sch := rfl
@[simp] theorem State.updDeferred_nvs (s : State) (f : List (Nat × Change) → List (Nat × Change)) : (s.updDeferred f).nvs = s.nvs := rfl
@[simp] theorem State.updDeferred_acc (s : State) (f : List (Nat × Change) → List (Nat × Change)) : (s.updDeferred f).acc = s.acc := rfl
@[simp] theorem State.updDeferred_tlt (s : State) (f : List (Nat × Change) → List (Nat × Change)) : (s.updDeferred f).tlt = s.tlt := rfl
@[simp] theorem State.updDeferred_fab (s : State) (f : List (Nat × Change) → List (Nat × Change)) : (s.updDeferred f).fab = s.fab := rfl
@[simp] theorem State.updDeferred_rgl (s : State) (f : List (Nat × Change) → List (Nat × Change)) : (s.updDeferred f).rgl = s.rgl := rfl
@[simp] theorem State.updDeferred_svc (s : State) (f : List (Nat × Change) → List (Nat × Change)) : (s.updDeferred f).svc = s.svc := rfl
@[simp] theorem State.updDeferred_pwr (s : State) (f : List (Nat × Change) → List (Nat × Change)) : (s.updDeferred f).pwr = s.pwr := rfl
@[simp] theorem State.updDeferred_jnl (s : State) (f : List (Nat × Change) → List (Nat × Change)) : (s.updDeferred f).jnl = s.jnl := rfl
@[simp] theorem State.updDeferred_pat (s : State) (f : List (Nat × Change) → List (Nat × Change)) : (s.updDeferred f).pat = s.pat := rfl
@[simp] theorem State.updDeferred_cmds (s : State) (f : List (Nat × Change) → List (Nat × Change)) : (s.updDeferred f).cmds = s.cmds := rfl
@[simp] theorem State.updDeferred_deferred (s : State) (f : List (Nat × Change) → List (Nat × Change)) : (s.updDeferred f).deferred = f s.deferred := rfl
@[simp] theorem State.updDeferred_events (s : State) (f : List (Nat × Change) → List (Nat × Change)) : (s.updDeferred f).events = s.events := rfl
@[simp] theorem State.updDeferred_out (s : State) (f : List (Nat × Change) → List (Nat × Change)) : (s.updDeferred f).out = s.out := rfl
@[simp] theorem State.updDeferred_pending (s : State) (f : List (Nat × Change) → List (Nat × Change)) : (s.updDeferred f).pending = s.pending := rfl
@[simp] theorem State.updDeferred_getI (s : State) (f : List (Nat × Change) → List (Nat × Change)) (g : Field) (i : Nat) : (s.updDeferred f).getI g i = s.getI g i := rfl
@[simp] theorem State.updDeferred_get (s : State) (f : List (Nat × Change) → List (Nat × Change)) (g : Field) : (s.updDeferred f).get g = s.get g := rfl

/-! ### `events` changed -/

@[simp] theorem State.updEvents_regs (s : State) (f : List EvOcc → List EvOcc) : (s.updEvents f).regs = s.regs := rfl
@[simp] theorem State.updEvents_mem (s : State) (f : List EvOcc → List EvOcc) : (s.updEvents f).mem = s.mem := rfl
@[simp] theorem State.updEvents_free (s : State) (f : List EvOcc → List EvOcc) : (s.updEvents f).free = s.free := rfl
@[simp] theorem State.updEvents_stk (s : State) (f : List EvOcc → List EvOcc) : (s.updEvents f).stk = s.stk := rfl
@[simp] theorem State.updEvents_arm (s : State) (f : List EvOcc → List EvOcc) : (s.updEvents f).arm = s.arm := rfl
@[simp] theorem State.updEvents_hif (s : State) (f : List EvOcc → List EvOcc) : (s.updEvents f).hif = s.hif := rfl
@[simp] theorem State.updEvents_nch (s : State) (f : List EvOcc → List EvOcc) : (s.updEvents f).nch = s.nch := rfl
@[simp] theorem State.updEvents_rng (s : State) (f : List EvOcc → List EvOcc) : (s.updEvents f).rng = s.rng := rfl
@[simp] theorem State.updEvents_dma (s : State) (f : List EvOcc → List EvOcc) : (s.updEvents f).dma = s.dma := rfl
@[simp] theorem State.updEvents_til (s : State) (f : List EvOcc → List EvOcc) : (s.updEvents f).til = s.til := rfl
@[simp] theorem State.updEvents_prs (s : State) (f : List EvOcc → List EvOcc) : (s.updEvents f).prs = s.prs := rfl
@[simp] theorem State.updEvents_tbl (s : State) (f : List EvOcc → List EvOcc) : (s.updEvents f).tbl = s.tbl := rfl
@[simp] theorem State.updEvents_sch (s : State) (f : List EvOcc → List EvOcc) : (s.updEvents f).sch = s.sch := rfl
@[simp] theorem State.updEvents_nvs (s : State) (f : List EvOcc → List EvOcc) : (s.updEvents f).nvs = s.nvs := rfl
@[simp] theorem State.updEvents_acc (s : State) (f : List EvOcc → List EvOcc) : (s.updEvents f).acc = s.acc := rfl
@[simp] theorem State.updEvents_tlt (s : State) (f : List EvOcc → List EvOcc) : (s.updEvents f).tlt = s.tlt := rfl
@[simp] theorem State.updEvents_fab (s : State) (f : List EvOcc → List EvOcc) : (s.updEvents f).fab = s.fab := rfl
@[simp] theorem State.updEvents_rgl (s : State) (f : List EvOcc → List EvOcc) : (s.updEvents f).rgl = s.rgl := rfl
@[simp] theorem State.updEvents_svc (s : State) (f : List EvOcc → List EvOcc) : (s.updEvents f).svc = s.svc := rfl
@[simp] theorem State.updEvents_pwr (s : State) (f : List EvOcc → List EvOcc) : (s.updEvents f).pwr = s.pwr := rfl
@[simp] theorem State.updEvents_jnl (s : State) (f : List EvOcc → List EvOcc) : (s.updEvents f).jnl = s.jnl := rfl
@[simp] theorem State.updEvents_pat (s : State) (f : List EvOcc → List EvOcc) : (s.updEvents f).pat = s.pat := rfl
@[simp] theorem State.updEvents_cmds (s : State) (f : List EvOcc → List EvOcc) : (s.updEvents f).cmds = s.cmds := rfl
@[simp] theorem State.updEvents_deferred (s : State) (f : List EvOcc → List EvOcc) : (s.updEvents f).deferred = s.deferred := rfl
@[simp] theorem State.updEvents_events (s : State) (f : List EvOcc → List EvOcc) : (s.updEvents f).events = f s.events := rfl
@[simp] theorem State.updEvents_out (s : State) (f : List EvOcc → List EvOcc) : (s.updEvents f).out = s.out := rfl
@[simp] theorem State.updEvents_pending (s : State) (f : List EvOcc → List EvOcc) : (s.updEvents f).pending = s.pending := rfl
@[simp] theorem State.updEvents_getI (s : State) (f : List EvOcc → List EvOcc) (g : Field) (i : Nat) : (s.updEvents f).getI g i = s.getI g i := rfl
@[simp] theorem State.updEvents_get (s : State) (f : List EvOcc → List EvOcc) (g : Field) : (s.updEvents f).get g = s.get g := rfl

/-! ### `out` changed -/

@[simp] theorem State.updOut_regs (s : State) (f : List Out → List Out) : (s.updOut f).regs = s.regs := rfl
@[simp] theorem State.updOut_mem (s : State) (f : List Out → List Out) : (s.updOut f).mem = s.mem := rfl
@[simp] theorem State.updOut_free (s : State) (f : List Out → List Out) : (s.updOut f).free = s.free := rfl
@[simp] theorem State.updOut_stk (s : State) (f : List Out → List Out) : (s.updOut f).stk = s.stk := rfl
@[simp] theorem State.updOut_arm (s : State) (f : List Out → List Out) : (s.updOut f).arm = s.arm := rfl
@[simp] theorem State.updOut_hif (s : State) (f : List Out → List Out) : (s.updOut f).hif = s.hif := rfl
@[simp] theorem State.updOut_nch (s : State) (f : List Out → List Out) : (s.updOut f).nch = s.nch := rfl
@[simp] theorem State.updOut_rng (s : State) (f : List Out → List Out) : (s.updOut f).rng = s.rng := rfl
@[simp] theorem State.updOut_dma (s : State) (f : List Out → List Out) : (s.updOut f).dma = s.dma := rfl
@[simp] theorem State.updOut_til (s : State) (f : List Out → List Out) : (s.updOut f).til = s.til := rfl
@[simp] theorem State.updOut_prs (s : State) (f : List Out → List Out) : (s.updOut f).prs = s.prs := rfl
@[simp] theorem State.updOut_tbl (s : State) (f : List Out → List Out) : (s.updOut f).tbl = s.tbl := rfl
@[simp] theorem State.updOut_sch (s : State) (f : List Out → List Out) : (s.updOut f).sch = s.sch := rfl
@[simp] theorem State.updOut_nvs (s : State) (f : List Out → List Out) : (s.updOut f).nvs = s.nvs := rfl
@[simp] theorem State.updOut_acc (s : State) (f : List Out → List Out) : (s.updOut f).acc = s.acc := rfl
@[simp] theorem State.updOut_tlt (s : State) (f : List Out → List Out) : (s.updOut f).tlt = s.tlt := rfl
@[simp] theorem State.updOut_fab (s : State) (f : List Out → List Out) : (s.updOut f).fab = s.fab := rfl
@[simp] theorem State.updOut_rgl (s : State) (f : List Out → List Out) : (s.updOut f).rgl = s.rgl := rfl
@[simp] theorem State.updOut_svc (s : State) (f : List Out → List Out) : (s.updOut f).svc = s.svc := rfl
@[simp] theorem State.updOut_pwr (s : State) (f : List Out → List Out) : (s.updOut f).pwr = s.pwr := rfl
@[simp] theorem State.updOut_jnl (s : State) (f : List Out → List Out) : (s.updOut f).jnl = s.jnl := rfl
@[simp] theorem State.updOut_pat (s : State) (f : List Out → List Out) : (s.updOut f).pat = s.pat := rfl
@[simp] theorem State.updOut_cmds (s : State) (f : List Out → List Out) : (s.updOut f).cmds = s.cmds := rfl
@[simp] theorem State.updOut_deferred (s : State) (f : List Out → List Out) : (s.updOut f).deferred = s.deferred := rfl
@[simp] theorem State.updOut_events (s : State) (f : List Out → List Out) : (s.updOut f).events = s.events := rfl
@[simp] theorem State.updOut_out (s : State) (f : List Out → List Out) : (s.updOut f).out = f s.out := rfl
@[simp] theorem State.updOut_pending (s : State) (f : List Out → List Out) : (s.updOut f).pending = s.pending := rfl
@[simp] theorem State.updOut_getI (s : State) (f : List Out → List Out) (g : Field) (i : Nat) : (s.updOut f).getI g i = s.getI g i := rfl
@[simp] theorem State.updOut_get (s : State) (f : List Out → List Out) (g : Field) : (s.updOut f).get g = s.get g := rfl

/-! ### `pending` changed -/

@[simp] theorem State.updPending_regs (s : State) (f : List Instr → List Instr) : (s.updPending f).regs = s.regs := rfl
@[simp] theorem State.updPending_mem (s : State) (f : List Instr → List Instr) : (s.updPending f).mem = s.mem := rfl
@[simp] theorem State.updPending_free (s : State) (f : List Instr → List Instr) : (s.updPending f).free = s.free := rfl
@[simp] theorem State.updPending_stk (s : State) (f : List Instr → List Instr) : (s.updPending f).stk = s.stk := rfl
@[simp] theorem State.updPending_arm (s : State) (f : List Instr → List Instr) : (s.updPending f).arm = s.arm := rfl
@[simp] theorem State.updPending_hif (s : State) (f : List Instr → List Instr) : (s.updPending f).hif = s.hif := rfl
@[simp] theorem State.updPending_nch (s : State) (f : List Instr → List Instr) : (s.updPending f).nch = s.nch := rfl
@[simp] theorem State.updPending_rng (s : State) (f : List Instr → List Instr) : (s.updPending f).rng = s.rng := rfl
@[simp] theorem State.updPending_dma (s : State) (f : List Instr → List Instr) : (s.updPending f).dma = s.dma := rfl
@[simp] theorem State.updPending_til (s : State) (f : List Instr → List Instr) : (s.updPending f).til = s.til := rfl
@[simp] theorem State.updPending_prs (s : State) (f : List Instr → List Instr) : (s.updPending f).prs = s.prs := rfl
@[simp] theorem State.updPending_tbl (s : State) (f : List Instr → List Instr) : (s.updPending f).tbl = s.tbl := rfl
@[simp] theorem State.updPending_sch (s : State) (f : List Instr → List Instr) : (s.updPending f).sch = s.sch := rfl
@[simp] theorem State.updPending_nvs (s : State) (f : List Instr → List Instr) : (s.updPending f).nvs = s.nvs := rfl
@[simp] theorem State.updPending_acc (s : State) (f : List Instr → List Instr) : (s.updPending f).acc = s.acc := rfl
@[simp] theorem State.updPending_tlt (s : State) (f : List Instr → List Instr) : (s.updPending f).tlt = s.tlt := rfl
@[simp] theorem State.updPending_fab (s : State) (f : List Instr → List Instr) : (s.updPending f).fab = s.fab := rfl
@[simp] theorem State.updPending_rgl (s : State) (f : List Instr → List Instr) : (s.updPending f).rgl = s.rgl := rfl
@[simp] theorem State.updPending_svc (s : State) (f : List Instr → List Instr) : (s.updPending f).svc = s.svc := rfl
@[simp] theorem State.updPending_pwr (s : State) (f : List Instr → List Instr) : (s.updPending f).pwr = s.pwr := rfl
@[simp] theorem State.updPending_jnl (s : State) (f : List Instr → List Instr) : (s.updPending f).jnl = s.jnl := rfl
@[simp] theorem State.updPending_pat (s : State) (f : List Instr → List Instr) : (s.updPending f).pat = s.pat := rfl
@[simp] theorem State.updPending_cmds (s : State) (f : List Instr → List Instr) : (s.updPending f).cmds = s.cmds := rfl
@[simp] theorem State.updPending_deferred (s : State) (f : List Instr → List Instr) : (s.updPending f).deferred = s.deferred := rfl
@[simp] theorem State.updPending_events (s : State) (f : List Instr → List Instr) : (s.updPending f).events = s.events := rfl
@[simp] theorem State.updPending_out (s : State) (f : List Instr → List Instr) : (s.updPending f).out = s.out := rfl
@[simp] theorem State.updPending_pending (s : State) (f : List Instr → List Instr) : (s.updPending f).pending = f s.pending := rfl
@[simp] theorem State.updPending_getI (s : State) (f : List Instr → List Instr) (g : Field) (i : Nat) : (s.updPending f).getI g i = s.getI g i := rfl
@[simp] theorem State.updPending_get (s : State) (f : List Instr → List Instr) (g : Field) : (s.updPending f).get g = s.get g := rfl

/-! ### One register field set -/

@[simp] theorem State.setI_mem (s : State) (f : Field) (i v : Nat) : (s.setI f i v).mem = s.mem := by
  unfold State.setI; split <;> rfl
@[simp] theorem State.setI_free (s : State) (f : Field) (i v : Nat) : (s.setI f i v).free = s.free := by
  unfold State.setI; split <;> rfl
@[simp] theorem State.setI_stk (s : State) (f : Field) (i v : Nat) : (s.setI f i v).stk = s.stk := by
  unfold State.setI; split <;> rfl
@[simp] theorem State.setI_arm (s : State) (f : Field) (i v : Nat) : (s.setI f i v).arm = s.arm := by
  unfold State.setI; split <;> rfl
@[simp] theorem State.setI_hif (s : State) (f : Field) (i v : Nat) : (s.setI f i v).hif = s.hif := by
  unfold State.setI; split <;> rfl
@[simp] theorem State.setI_nch (s : State) (f : Field) (i v : Nat) : (s.setI f i v).nch = s.nch := by
  unfold State.setI; split <;> rfl
@[simp] theorem State.setI_rng (s : State) (f : Field) (i v : Nat) : (s.setI f i v).rng = s.rng := by
  unfold State.setI; split <;> rfl
@[simp] theorem State.setI_dma (s : State) (f : Field) (i v : Nat) : (s.setI f i v).dma = s.dma := by
  unfold State.setI; split <;> rfl
@[simp] theorem State.setI_til (s : State) (f : Field) (i v : Nat) : (s.setI f i v).til = s.til := by
  unfold State.setI; split <;> rfl
@[simp] theorem State.setI_prs (s : State) (f : Field) (i v : Nat) : (s.setI f i v).prs = s.prs := by
  unfold State.setI; split <;> rfl
@[simp] theorem State.setI_tbl (s : State) (f : Field) (i v : Nat) : (s.setI f i v).tbl = s.tbl := by
  unfold State.setI; split <;> rfl
@[simp] theorem State.setI_sch (s : State) (f : Field) (i v : Nat) : (s.setI f i v).sch = s.sch := by
  unfold State.setI; split <;> rfl
@[simp] theorem State.setI_nvs (s : State) (f : Field) (i v : Nat) : (s.setI f i v).nvs = s.nvs := by
  unfold State.setI; split <;> rfl
@[simp] theorem State.setI_acc (s : State) (f : Field) (i v : Nat) : (s.setI f i v).acc = s.acc := by
  unfold State.setI; split <;> rfl
@[simp] theorem State.setI_tlt (s : State) (f : Field) (i v : Nat) : (s.setI f i v).tlt = s.tlt := by
  unfold State.setI; split <;> rfl
@[simp] theorem State.setI_fab (s : State) (f : Field) (i v : Nat) : (s.setI f i v).fab = s.fab := by
  unfold State.setI; split <;> rfl
@[simp] theorem State.setI_rgl (s : State) (f : Field) (i v : Nat) : (s.setI f i v).rgl = s.rgl := by
  unfold State.setI; split <;> rfl
@[simp] theorem State.setI_svc (s : State) (f : Field) (i v : Nat) : (s.setI f i v).svc = s.svc := by
  unfold State.setI; split <;> rfl
@[simp] theorem State.setI_pwr (s : State) (f : Field) (i v : Nat) : (s.setI f i v).pwr = s.pwr := by
  unfold State.setI; split <;> rfl
@[simp] theorem State.setI_jnl (s : State) (f : Field) (i v : Nat) : (s.setI f i v).jnl = s.jnl := by
  unfold State.setI; split <;> rfl
@[simp] theorem State.setI_pat (s : State) (f : Field) (i v : Nat) : (s.setI f i v).pat = s.pat := by
  unfold State.setI; split <;> rfl
@[simp] theorem State.setI_cmds (s : State) (f : Field) (i v : Nat) : (s.setI f i v).cmds = s.cmds := by
  unfold State.setI; split <;> rfl
@[simp] theorem State.setI_deferred (s : State) (f : Field) (i v : Nat) : (s.setI f i v).deferred = s.deferred := by
  unfold State.setI; split <;> rfl
@[simp] theorem State.setI_events (s : State) (f : Field) (i v : Nat) : (s.setI f i v).events = s.events := by
  unfold State.setI; split <;> rfl
@[simp] theorem State.setI_out (s : State) (f : Field) (i v : Nat) : (s.setI f i v).out = s.out := by
  unfold State.setI; split <;> rfl
@[simp] theorem State.setI_pending (s : State) (f : Field) (i v : Nat) : (s.setI f i v).pending = s.pending := by
  unfold State.setI; split <;> rfl

/-! ### A register field set -/

@[simp] theorem State.set_mem (s : State) (f : Field) (v : Nat) : (s.set f v).mem = s.mem := State.setI_mem s f 0 v
@[simp] theorem State.set_free (s : State) (f : Field) (v : Nat) : (s.set f v).free = s.free := State.setI_free s f 0 v
@[simp] theorem State.set_stk (s : State) (f : Field) (v : Nat) : (s.set f v).stk = s.stk := State.setI_stk s f 0 v
@[simp] theorem State.set_arm (s : State) (f : Field) (v : Nat) : (s.set f v).arm = s.arm := State.setI_arm s f 0 v
@[simp] theorem State.set_hif (s : State) (f : Field) (v : Nat) : (s.set f v).hif = s.hif := State.setI_hif s f 0 v
@[simp] theorem State.set_nch (s : State) (f : Field) (v : Nat) : (s.set f v).nch = s.nch := State.setI_nch s f 0 v
@[simp] theorem State.set_rng (s : State) (f : Field) (v : Nat) : (s.set f v).rng = s.rng := State.setI_rng s f 0 v
@[simp] theorem State.set_dma (s : State) (f : Field) (v : Nat) : (s.set f v).dma = s.dma := State.setI_dma s f 0 v
@[simp] theorem State.set_til (s : State) (f : Field) (v : Nat) : (s.set f v).til = s.til := State.setI_til s f 0 v
@[simp] theorem State.set_prs (s : State) (f : Field) (v : Nat) : (s.set f v).prs = s.prs := State.setI_prs s f 0 v
@[simp] theorem State.set_tbl (s : State) (f : Field) (v : Nat) : (s.set f v).tbl = s.tbl := State.setI_tbl s f 0 v
@[simp] theorem State.set_sch (s : State) (f : Field) (v : Nat) : (s.set f v).sch = s.sch := State.setI_sch s f 0 v
@[simp] theorem State.set_nvs (s : State) (f : Field) (v : Nat) : (s.set f v).nvs = s.nvs := State.setI_nvs s f 0 v
@[simp] theorem State.set_acc (s : State) (f : Field) (v : Nat) : (s.set f v).acc = s.acc := State.setI_acc s f 0 v
@[simp] theorem State.set_tlt (s : State) (f : Field) (v : Nat) : (s.set f v).tlt = s.tlt := State.setI_tlt s f 0 v
@[simp] theorem State.set_fab (s : State) (f : Field) (v : Nat) : (s.set f v).fab = s.fab := State.setI_fab s f 0 v
@[simp] theorem State.set_rgl (s : State) (f : Field) (v : Nat) : (s.set f v).rgl = s.rgl := State.setI_rgl s f 0 v
@[simp] theorem State.set_svc (s : State) (f : Field) (v : Nat) : (s.set f v).svc = s.svc := State.setI_svc s f 0 v
@[simp] theorem State.set_pwr (s : State) (f : Field) (v : Nat) : (s.set f v).pwr = s.pwr := State.setI_pwr s f 0 v
@[simp] theorem State.set_jnl (s : State) (f : Field) (v : Nat) : (s.set f v).jnl = s.jnl := State.setI_jnl s f 0 v
@[simp] theorem State.set_pat (s : State) (f : Field) (v : Nat) : (s.set f v).pat = s.pat := State.setI_pat s f 0 v
@[simp] theorem State.set_cmds (s : State) (f : Field) (v : Nat) : (s.set f v).cmds = s.cmds := State.setI_cmds s f 0 v
@[simp] theorem State.set_deferred (s : State) (f : Field) (v : Nat) : (s.set f v).deferred = s.deferred := State.setI_deferred s f 0 v
@[simp] theorem State.set_events (s : State) (f : Field) (v : Nat) : (s.set f v).events = s.events := State.setI_events s f 0 v
@[simp] theorem State.set_out (s : State) (f : Field) (v : Nat) : (s.set f v).out = s.out := State.setI_out s f 0 v
@[simp] theorem State.set_pending (s : State) (f : Field) (v : Nat) : (s.set f v).pending = s.pending := State.setI_pending s f 0 v

/-! ### Several register fields set -/

@[simp] theorem State.setsI_mem (s : State) (i : Nat) (l : List (Field × Nat)) : (s.setsI i l).mem = s.mem := by
  unfold State.setsI
  induction l generalizing s with
  | nil => rfl
  | cons a t ih => rw [List.foldl_cons, ih, State.setI_mem]
@[simp] theorem State.setsI_free (s : State) (i : Nat) (l : List (Field × Nat)) : (s.setsI i l).free = s.free := by
  unfold State.setsI
  induction l generalizing s with
  | nil => rfl
  | cons a t ih => rw [List.foldl_cons, ih, State.setI_free]
@[simp] theorem State.setsI_stk (s : State) (i : Nat) (l : List (Field × Nat)) : (s.setsI i l).stk = s.stk := by
  unfold State.setsI
  induction l generalizing s with
  | nil => rfl
  | cons a t ih => rw [List.foldl_cons, ih, State.setI_stk]
@[simp] theorem State.setsI_arm (s : State) (i : Nat) (l : List (Field × Nat)) : (s.setsI i l).arm = s.arm := by
  unfold State.setsI
  induction l generalizing s with
  | nil => rfl
  | cons a t ih => rw [List.foldl_cons, ih, State.setI_arm]
@[simp] theorem State.setsI_hif (s : State) (i : Nat) (l : List (Field × Nat)) : (s.setsI i l).hif = s.hif := by
  unfold State.setsI
  induction l generalizing s with
  | nil => rfl
  | cons a t ih => rw [List.foldl_cons, ih, State.setI_hif]
@[simp] theorem State.setsI_nch (s : State) (i : Nat) (l : List (Field × Nat)) : (s.setsI i l).nch = s.nch := by
  unfold State.setsI
  induction l generalizing s with
  | nil => rfl
  | cons a t ih => rw [List.foldl_cons, ih, State.setI_nch]
@[simp] theorem State.setsI_rng (s : State) (i : Nat) (l : List (Field × Nat)) : (s.setsI i l).rng = s.rng := by
  unfold State.setsI
  induction l generalizing s with
  | nil => rfl
  | cons a t ih => rw [List.foldl_cons, ih, State.setI_rng]
@[simp] theorem State.setsI_dma (s : State) (i : Nat) (l : List (Field × Nat)) : (s.setsI i l).dma = s.dma := by
  unfold State.setsI
  induction l generalizing s with
  | nil => rfl
  | cons a t ih => rw [List.foldl_cons, ih, State.setI_dma]
@[simp] theorem State.setsI_til (s : State) (i : Nat) (l : List (Field × Nat)) : (s.setsI i l).til = s.til := by
  unfold State.setsI
  induction l generalizing s with
  | nil => rfl
  | cons a t ih => rw [List.foldl_cons, ih, State.setI_til]
@[simp] theorem State.setsI_prs (s : State) (i : Nat) (l : List (Field × Nat)) : (s.setsI i l).prs = s.prs := by
  unfold State.setsI
  induction l generalizing s with
  | nil => rfl
  | cons a t ih => rw [List.foldl_cons, ih, State.setI_prs]
@[simp] theorem State.setsI_tbl (s : State) (i : Nat) (l : List (Field × Nat)) : (s.setsI i l).tbl = s.tbl := by
  unfold State.setsI
  induction l generalizing s with
  | nil => rfl
  | cons a t ih => rw [List.foldl_cons, ih, State.setI_tbl]
@[simp] theorem State.setsI_sch (s : State) (i : Nat) (l : List (Field × Nat)) : (s.setsI i l).sch = s.sch := by
  unfold State.setsI
  induction l generalizing s with
  | nil => rfl
  | cons a t ih => rw [List.foldl_cons, ih, State.setI_sch]
@[simp] theorem State.setsI_nvs (s : State) (i : Nat) (l : List (Field × Nat)) : (s.setsI i l).nvs = s.nvs := by
  unfold State.setsI
  induction l generalizing s with
  | nil => rfl
  | cons a t ih => rw [List.foldl_cons, ih, State.setI_nvs]
@[simp] theorem State.setsI_acc (s : State) (i : Nat) (l : List (Field × Nat)) : (s.setsI i l).acc = s.acc := by
  unfold State.setsI
  induction l generalizing s with
  | nil => rfl
  | cons a t ih => rw [List.foldl_cons, ih, State.setI_acc]
@[simp] theorem State.setsI_tlt (s : State) (i : Nat) (l : List (Field × Nat)) : (s.setsI i l).tlt = s.tlt := by
  unfold State.setsI
  induction l generalizing s with
  | nil => rfl
  | cons a t ih => rw [List.foldl_cons, ih, State.setI_tlt]
@[simp] theorem State.setsI_fab (s : State) (i : Nat) (l : List (Field × Nat)) : (s.setsI i l).fab = s.fab := by
  unfold State.setsI
  induction l generalizing s with
  | nil => rfl
  | cons a t ih => rw [List.foldl_cons, ih, State.setI_fab]
@[simp] theorem State.setsI_rgl (s : State) (i : Nat) (l : List (Field × Nat)) : (s.setsI i l).rgl = s.rgl := by
  unfold State.setsI
  induction l generalizing s with
  | nil => rfl
  | cons a t ih => rw [List.foldl_cons, ih, State.setI_rgl]
@[simp] theorem State.setsI_svc (s : State) (i : Nat) (l : List (Field × Nat)) : (s.setsI i l).svc = s.svc := by
  unfold State.setsI
  induction l generalizing s with
  | nil => rfl
  | cons a t ih => rw [List.foldl_cons, ih, State.setI_svc]
@[simp] theorem State.setsI_pwr (s : State) (i : Nat) (l : List (Field × Nat)) : (s.setsI i l).pwr = s.pwr := by
  unfold State.setsI
  induction l generalizing s with
  | nil => rfl
  | cons a t ih => rw [List.foldl_cons, ih, State.setI_pwr]
@[simp] theorem State.setsI_jnl (s : State) (i : Nat) (l : List (Field × Nat)) : (s.setsI i l).jnl = s.jnl := by
  unfold State.setsI
  induction l generalizing s with
  | nil => rfl
  | cons a t ih => rw [List.foldl_cons, ih, State.setI_jnl]
@[simp] theorem State.setsI_pat (s : State) (i : Nat) (l : List (Field × Nat)) : (s.setsI i l).pat = s.pat := by
  unfold State.setsI
  induction l generalizing s with
  | nil => rfl
  | cons a t ih => rw [List.foldl_cons, ih, State.setI_pat]
@[simp] theorem State.setsI_cmds (s : State) (i : Nat) (l : List (Field × Nat)) : (s.setsI i l).cmds = s.cmds := by
  unfold State.setsI
  induction l generalizing s with
  | nil => rfl
  | cons a t ih => rw [List.foldl_cons, ih, State.setI_cmds]
@[simp] theorem State.setsI_deferred (s : State) (i : Nat) (l : List (Field × Nat)) : (s.setsI i l).deferred = s.deferred := by
  unfold State.setsI
  induction l generalizing s with
  | nil => rfl
  | cons a t ih => rw [List.foldl_cons, ih, State.setI_deferred]
@[simp] theorem State.setsI_events (s : State) (i : Nat) (l : List (Field × Nat)) : (s.setsI i l).events = s.events := by
  unfold State.setsI
  induction l generalizing s with
  | nil => rfl
  | cons a t ih => rw [List.foldl_cons, ih, State.setI_events]
@[simp] theorem State.setsI_out (s : State) (i : Nat) (l : List (Field × Nat)) : (s.setsI i l).out = s.out := by
  unfold State.setsI
  induction l generalizing s with
  | nil => rfl
  | cons a t ih => rw [List.foldl_cons, ih, State.setI_out]
@[simp] theorem State.setsI_pending (s : State) (i : Nat) (l : List (Field × Nat)) : (s.setsI i l).pending = s.pending := by
  unfold State.setsI
  induction l generalizing s with
  | nil => rfl
  | cons a t ih => rw [List.foldl_cons, ih, State.setI_pending]

@[simp] theorem State.sets_mem (s : State) (l : List (Field × Nat)) : (s.sets l).mem = s.mem := State.setsI_mem s 0 l
@[simp] theorem State.sets_free (s : State) (l : List (Field × Nat)) : (s.sets l).free = s.free := State.setsI_free s 0 l
@[simp] theorem State.sets_stk (s : State) (l : List (Field × Nat)) : (s.sets l).stk = s.stk := State.setsI_stk s 0 l
@[simp] theorem State.sets_arm (s : State) (l : List (Field × Nat)) : (s.sets l).arm = s.arm := State.setsI_arm s 0 l
@[simp] theorem State.sets_hif (s : State) (l : List (Field × Nat)) : (s.sets l).hif = s.hif := State.setsI_hif s 0 l
@[simp] theorem State.sets_nch (s : State) (l : List (Field × Nat)) : (s.sets l).nch = s.nch := State.setsI_nch s 0 l
@[simp] theorem State.sets_rng (s : State) (l : List (Field × Nat)) : (s.sets l).rng = s.rng := State.setsI_rng s 0 l
@[simp] theorem State.sets_dma (s : State) (l : List (Field × Nat)) : (s.sets l).dma = s.dma := State.setsI_dma s 0 l
@[simp] theorem State.sets_til (s : State) (l : List (Field × Nat)) : (s.sets l).til = s.til := State.setsI_til s 0 l
@[simp] theorem State.sets_prs (s : State) (l : List (Field × Nat)) : (s.sets l).prs = s.prs := State.setsI_prs s 0 l
@[simp] theorem State.sets_tbl (s : State) (l : List (Field × Nat)) : (s.sets l).tbl = s.tbl := State.setsI_tbl s 0 l
@[simp] theorem State.sets_sch (s : State) (l : List (Field × Nat)) : (s.sets l).sch = s.sch := State.setsI_sch s 0 l
@[simp] theorem State.sets_nvs (s : State) (l : List (Field × Nat)) : (s.sets l).nvs = s.nvs := State.setsI_nvs s 0 l
@[simp] theorem State.sets_acc (s : State) (l : List (Field × Nat)) : (s.sets l).acc = s.acc := State.setsI_acc s 0 l
@[simp] theorem State.sets_tlt (s : State) (l : List (Field × Nat)) : (s.sets l).tlt = s.tlt := State.setsI_tlt s 0 l
@[simp] theorem State.sets_fab (s : State) (l : List (Field × Nat)) : (s.sets l).fab = s.fab := State.setsI_fab s 0 l
@[simp] theorem State.sets_rgl (s : State) (l : List (Field × Nat)) : (s.sets l).rgl = s.rgl := State.setsI_rgl s 0 l
@[simp] theorem State.sets_svc (s : State) (l : List (Field × Nat)) : (s.sets l).svc = s.svc := State.setsI_svc s 0 l
@[simp] theorem State.sets_pwr (s : State) (l : List (Field × Nat)) : (s.sets l).pwr = s.pwr := State.setsI_pwr s 0 l
@[simp] theorem State.sets_jnl (s : State) (l : List (Field × Nat)) : (s.sets l).jnl = s.jnl := State.setsI_jnl s 0 l
@[simp] theorem State.sets_pat (s : State) (l : List (Field × Nat)) : (s.sets l).pat = s.pat := State.setsI_pat s 0 l
@[simp] theorem State.sets_cmds (s : State) (l : List (Field × Nat)) : (s.sets l).cmds = s.cmds := State.setsI_cmds s 0 l
@[simp] theorem State.sets_deferred (s : State) (l : List (Field × Nat)) : (s.sets l).deferred = s.deferred := State.setsI_deferred s 0 l
@[simp] theorem State.sets_events (s : State) (l : List (Field × Nat)) : (s.sets l).events = s.events := State.setsI_events s 0 l
@[simp] theorem State.sets_out (s : State) (l : List (Field × Nat)) : (s.sets l).out = s.out := State.setsI_out s 0 l
@[simp] theorem State.sets_pending (s : State) (l : List (Field × Nat)) : (s.sets l).pending = s.pending := State.setsI_pending s 0 l

/-! ### A byte of device memory written -/

@[simp] theorem memWrite_regs (s : State) (a : Nat) (b : Byte) : (memWrite s a b).regs = s.regs := by
  unfold memWrite; split <;> rfl
@[simp] theorem memWrite_free (s : State) (a : Nat) (b : Byte) : (memWrite s a b).free = s.free := by
  unfold memWrite; split <;> rfl
@[simp] theorem memWrite_stk (s : State) (a : Nat) (b : Byte) : (memWrite s a b).stk = s.stk := by
  unfold memWrite; split <;> rfl
@[simp] theorem memWrite_arm (s : State) (a : Nat) (b : Byte) : (memWrite s a b).arm = s.arm := by
  unfold memWrite; split <;> rfl
@[simp] theorem memWrite_hif (s : State) (a : Nat) (b : Byte) : (memWrite s a b).hif = s.hif := by
  unfold memWrite; split <;> rfl
@[simp] theorem memWrite_nch (s : State) (a : Nat) (b : Byte) : (memWrite s a b).nch = s.nch := by
  unfold memWrite; split <;> rfl
@[simp] theorem memWrite_rng (s : State) (a : Nat) (b : Byte) : (memWrite s a b).rng = s.rng := by
  unfold memWrite; split <;> rfl
@[simp] theorem memWrite_dma (s : State) (a : Nat) (b : Byte) : (memWrite s a b).dma = s.dma := by
  unfold memWrite; split <;> rfl
@[simp] theorem memWrite_til (s : State) (a : Nat) (b : Byte) : (memWrite s a b).til = s.til := by
  unfold memWrite; split <;> rfl
@[simp] theorem memWrite_prs (s : State) (a : Nat) (b : Byte) : (memWrite s a b).prs = s.prs := by
  unfold memWrite; split <;> rfl
@[simp] theorem memWrite_tbl (s : State) (a : Nat) (b : Byte) : (memWrite s a b).tbl = s.tbl := by
  unfold memWrite; split <;> rfl
@[simp] theorem memWrite_sch (s : State) (a : Nat) (b : Byte) : (memWrite s a b).sch = s.sch := by
  unfold memWrite; split <;> rfl
@[simp] theorem memWrite_nvs (s : State) (a : Nat) (b : Byte) : (memWrite s a b).nvs = s.nvs := by
  unfold memWrite; split <;> rfl
@[simp] theorem memWrite_acc (s : State) (a : Nat) (b : Byte) : (memWrite s a b).acc = s.acc := by
  unfold memWrite; split <;> rfl
@[simp] theorem memWrite_tlt (s : State) (a : Nat) (b : Byte) : (memWrite s a b).tlt = s.tlt := by
  unfold memWrite; split <;> rfl
@[simp] theorem memWrite_fab (s : State) (a : Nat) (b : Byte) : (memWrite s a b).fab = s.fab := by
  unfold memWrite; split <;> rfl
@[simp] theorem memWrite_rgl (s : State) (a : Nat) (b : Byte) : (memWrite s a b).rgl = s.rgl := by
  unfold memWrite; split <;> rfl
@[simp] theorem memWrite_svc (s : State) (a : Nat) (b : Byte) : (memWrite s a b).svc = s.svc := by
  unfold memWrite; split <;> rfl
@[simp] theorem memWrite_pwr (s : State) (a : Nat) (b : Byte) : (memWrite s a b).pwr = s.pwr := by
  unfold memWrite; split <;> rfl
@[simp] theorem memWrite_jnl (s : State) (a : Nat) (b : Byte) : (memWrite s a b).jnl = s.jnl := by
  unfold memWrite; split <;> rfl
@[simp] theorem memWrite_pat (s : State) (a : Nat) (b : Byte) : (memWrite s a b).pat = s.pat := by
  unfold memWrite; split <;> rfl
@[simp] theorem memWrite_cmds (s : State) (a : Nat) (b : Byte) : (memWrite s a b).cmds = s.cmds := by
  unfold memWrite; split <;> rfl
@[simp] theorem memWrite_deferred (s : State) (a : Nat) (b : Byte) : (memWrite s a b).deferred = s.deferred := by
  unfold memWrite; split <;> rfl
@[simp] theorem memWrite_events (s : State) (a : Nat) (b : Byte) : (memWrite s a b).events = s.events := by
  unfold memWrite; split <;> rfl
@[simp] theorem memWrite_out (s : State) (a : Nat) (b : Byte) : (memWrite s a b).out = s.out := by
  unfold memWrite; split <;> rfl
@[simp] theorem memWrite_pending (s : State) (a : Nat) (b : Byte) : (memWrite s a b).pending = s.pending := by
  unfold memWrite; split <;> rfl

/-! ### A range of device memory zeroed -/

@[simp] theorem memZero_regs (s : State) (a n : Nat) : (memZero s a n).regs = s.regs := rfl
@[simp] theorem memZero_free (s : State) (a n : Nat) : (memZero s a n).free = s.free := rfl
@[simp] theorem memZero_stk (s : State) (a n : Nat) : (memZero s a n).stk = s.stk := rfl
@[simp] theorem memZero_arm (s : State) (a n : Nat) : (memZero s a n).arm = s.arm := rfl
@[simp] theorem memZero_hif (s : State) (a n : Nat) : (memZero s a n).hif = s.hif := rfl
@[simp] theorem memZero_nch (s : State) (a n : Nat) : (memZero s a n).nch = s.nch := rfl
@[simp] theorem memZero_rng (s : State) (a n : Nat) : (memZero s a n).rng = s.rng := rfl
@[simp] theorem memZero_dma (s : State) (a n : Nat) : (memZero s a n).dma = s.dma := rfl
@[simp] theorem memZero_til (s : State) (a n : Nat) : (memZero s a n).til = s.til := rfl
@[simp] theorem memZero_prs (s : State) (a n : Nat) : (memZero s a n).prs = s.prs := rfl
@[simp] theorem memZero_tbl (s : State) (a n : Nat) : (memZero s a n).tbl = s.tbl := rfl
@[simp] theorem memZero_sch (s : State) (a n : Nat) : (memZero s a n).sch = s.sch := rfl
@[simp] theorem memZero_nvs (s : State) (a n : Nat) : (memZero s a n).nvs = s.nvs := rfl
@[simp] theorem memZero_acc (s : State) (a n : Nat) : (memZero s a n).acc = s.acc := rfl
@[simp] theorem memZero_tlt (s : State) (a n : Nat) : (memZero s a n).tlt = s.tlt := rfl
@[simp] theorem memZero_fab (s : State) (a n : Nat) : (memZero s a n).fab = s.fab := rfl
@[simp] theorem memZero_rgl (s : State) (a n : Nat) : (memZero s a n).rgl = s.rgl := rfl
@[simp] theorem memZero_svc (s : State) (a n : Nat) : (memZero s a n).svc = s.svc := rfl
@[simp] theorem memZero_pwr (s : State) (a n : Nat) : (memZero s a n).pwr = s.pwr := rfl
@[simp] theorem memZero_jnl (s : State) (a n : Nat) : (memZero s a n).jnl = s.jnl := rfl
@[simp] theorem memZero_pat (s : State) (a n : Nat) : (memZero s a n).pat = s.pat := rfl
@[simp] theorem memZero_cmds (s : State) (a n : Nat) : (memZero s a n).cmds = s.cmds := rfl
@[simp] theorem memZero_deferred (s : State) (a n : Nat) : (memZero s a n).deferred = s.deferred := rfl
@[simp] theorem memZero_events (s : State) (a n : Nat) : (memZero s a n).events = s.events := rfl
@[simp] theorem memZero_out (s : State) (a n : Nat) : (memZero s a n).out = s.out := rfl
@[simp] theorem memZero_pending (s : State) (a n : Nat) : (memZero s a n).pending = s.pending := rfl

/-! ### A byte string written -/

@[simp] theorem memWriteList_regs (s : State) (a : Nat) (l : List Byte) : (memWriteList s a l).regs = s.regs := by
  induction l generalizing s a with
  | nil => rfl
  | cons b t ih => rw [memWriteList, ih, memWrite_regs]
@[simp] theorem memWriteList_free (s : State) (a : Nat) (l : List Byte) : (memWriteList s a l).free = s.free := by
  induction l generalizing s a with
  | nil => rfl
  | cons b t ih => rw [memWriteList, ih, memWrite_free]
@[simp] theorem memWriteList_stk (s : State) (a : Nat) (l : List Byte) : (memWriteList s a l).stk = s.stk := by
  induction l generalizing s a with
  | nil => rfl
  | cons b t ih => rw [memWriteList, ih, memWrite_stk]
@[simp] theorem memWriteList_arm (s : State) (a : Nat) (l : List Byte) : (memWriteList s a l).arm = s.arm := by
  induction l generalizing s a with
  | nil => rfl
  | cons b t ih => rw [memWriteList, ih, memWrite_arm]
@[simp] theorem memWriteList_hif (s : State) (a : Nat) (l : List Byte) : (memWriteList s a l).hif = s.hif := by
  induction l generalizing s a with
  | nil => rfl
  | cons b t ih => rw [memWriteList, ih, memWrite_hif]
@[simp] theorem memWriteList_nch (s : State) (a : Nat) (l : List Byte) : (memWriteList s a l).nch = s.nch := by
  induction l generalizing s a with
  | nil => rfl
  | cons b t ih => rw [memWriteList, ih, memWrite_nch]
@[simp] theorem memWriteList_rng (s : State) (a : Nat) (l : List Byte) : (memWriteList s a l).rng = s.rng := by
  induction l generalizing s a with
  | nil => rfl
  | cons b t ih => rw [memWriteList, ih, memWrite_rng]
@[simp] theorem memWriteList_dma (s : State) (a : Nat) (l : List Byte) : (memWriteList s a l).dma = s.dma := by
  induction l generalizing s a with
  | nil => rfl
  | cons b t ih => rw [memWriteList, ih, memWrite_dma]
@[simp] theorem memWriteList_til (s : State) (a : Nat) (l : List Byte) : (memWriteList s a l).til = s.til := by
  induction l generalizing s a with
  | nil => rfl
  | cons b t ih => rw [memWriteList, ih, memWrite_til]
@[simp] theorem memWriteList_prs (s : State) (a : Nat) (l : List Byte) : (memWriteList s a l).prs = s.prs := by
  induction l generalizing s a with
  | nil => rfl
  | cons b t ih => rw [memWriteList, ih, memWrite_prs]
@[simp] theorem memWriteList_tbl (s : State) (a : Nat) (l : List Byte) : (memWriteList s a l).tbl = s.tbl := by
  induction l generalizing s a with
  | nil => rfl
  | cons b t ih => rw [memWriteList, ih, memWrite_tbl]
@[simp] theorem memWriteList_sch (s : State) (a : Nat) (l : List Byte) : (memWriteList s a l).sch = s.sch := by
  induction l generalizing s a with
  | nil => rfl
  | cons b t ih => rw [memWriteList, ih, memWrite_sch]
@[simp] theorem memWriteList_nvs (s : State) (a : Nat) (l : List Byte) : (memWriteList s a l).nvs = s.nvs := by
  induction l generalizing s a with
  | nil => rfl
  | cons b t ih => rw [memWriteList, ih, memWrite_nvs]
@[simp] theorem memWriteList_acc (s : State) (a : Nat) (l : List Byte) : (memWriteList s a l).acc = s.acc := by
  induction l generalizing s a with
  | nil => rfl
  | cons b t ih => rw [memWriteList, ih, memWrite_acc]
@[simp] theorem memWriteList_tlt (s : State) (a : Nat) (l : List Byte) : (memWriteList s a l).tlt = s.tlt := by
  induction l generalizing s a with
  | nil => rfl
  | cons b t ih => rw [memWriteList, ih, memWrite_tlt]
@[simp] theorem memWriteList_fab (s : State) (a : Nat) (l : List Byte) : (memWriteList s a l).fab = s.fab := by
  induction l generalizing s a with
  | nil => rfl
  | cons b t ih => rw [memWriteList, ih, memWrite_fab]
@[simp] theorem memWriteList_rgl (s : State) (a : Nat) (l : List Byte) : (memWriteList s a l).rgl = s.rgl := by
  induction l generalizing s a with
  | nil => rfl
  | cons b t ih => rw [memWriteList, ih, memWrite_rgl]
@[simp] theorem memWriteList_svc (s : State) (a : Nat) (l : List Byte) : (memWriteList s a l).svc = s.svc := by
  induction l generalizing s a with
  | nil => rfl
  | cons b t ih => rw [memWriteList, ih, memWrite_svc]
@[simp] theorem memWriteList_pwr (s : State) (a : Nat) (l : List Byte) : (memWriteList s a l).pwr = s.pwr := by
  induction l generalizing s a with
  | nil => rfl
  | cons b t ih => rw [memWriteList, ih, memWrite_pwr]
@[simp] theorem memWriteList_jnl (s : State) (a : Nat) (l : List Byte) : (memWriteList s a l).jnl = s.jnl := by
  induction l generalizing s a with
  | nil => rfl
  | cons b t ih => rw [memWriteList, ih, memWrite_jnl]
@[simp] theorem memWriteList_pat (s : State) (a : Nat) (l : List Byte) : (memWriteList s a l).pat = s.pat := by
  induction l generalizing s a with
  | nil => rfl
  | cons b t ih => rw [memWriteList, ih, memWrite_pat]
@[simp] theorem memWriteList_cmds (s : State) (a : Nat) (l : List Byte) : (memWriteList s a l).cmds = s.cmds := by
  induction l generalizing s a with
  | nil => rfl
  | cons b t ih => rw [memWriteList, ih, memWrite_cmds]
@[simp] theorem memWriteList_deferred (s : State) (a : Nat) (l : List Byte) : (memWriteList s a l).deferred = s.deferred := by
  induction l generalizing s a with
  | nil => rfl
  | cons b t ih => rw [memWriteList, ih, memWrite_deferred]
@[simp] theorem memWriteList_events (s : State) (a : Nat) (l : List Byte) : (memWriteList s a l).events = s.events := by
  induction l generalizing s a with
  | nil => rfl
  | cons b t ih => rw [memWriteList, ih, memWrite_events]
@[simp] theorem memWriteList_out (s : State) (a : Nat) (l : List Byte) : (memWriteList s a l).out = s.out := by
  induction l generalizing s a with
  | nil => rfl
  | cons b t ih => rw [memWriteList, ih, memWrite_out]
@[simp] theorem memWriteList_pending (s : State) (a : Nat) (l : List Byte) : (memWriteList s a l).pending = s.pending := by
  induction l generalizing s a with
  | nil => rfl
  | cons b t ih => rw [memWriteList, ih, memWrite_pending]

/-! ### Something leaves the block -/

@[simp] theorem State.emit_regs (s : State) (x : Out) : (s.emit x).regs = s.regs := rfl
@[simp] theorem State.emit_mem (s : State) (x : Out) : (s.emit x).mem = s.mem := rfl
@[simp] theorem State.emit_free (s : State) (x : Out) : (s.emit x).free = s.free := rfl
@[simp] theorem State.emit_stk (s : State) (x : Out) : (s.emit x).stk = s.stk := rfl
@[simp] theorem State.emit_arm (s : State) (x : Out) : (s.emit x).arm = s.arm := rfl
@[simp] theorem State.emit_hif (s : State) (x : Out) : (s.emit x).hif = s.hif := rfl
@[simp] theorem State.emit_nch (s : State) (x : Out) : (s.emit x).nch = s.nch := rfl
@[simp] theorem State.emit_rng (s : State) (x : Out) : (s.emit x).rng = s.rng := rfl
@[simp] theorem State.emit_dma (s : State) (x : Out) : (s.emit x).dma = s.dma := rfl
@[simp] theorem State.emit_til (s : State) (x : Out) : (s.emit x).til = s.til := rfl
@[simp] theorem State.emit_prs (s : State) (x : Out) : (s.emit x).prs = s.prs := rfl
@[simp] theorem State.emit_tbl (s : State) (x : Out) : (s.emit x).tbl = s.tbl := rfl
@[simp] theorem State.emit_sch (s : State) (x : Out) : (s.emit x).sch = s.sch := rfl
@[simp] theorem State.emit_nvs (s : State) (x : Out) : (s.emit x).nvs = s.nvs := rfl
@[simp] theorem State.emit_acc (s : State) (x : Out) : (s.emit x).acc = s.acc := rfl
@[simp] theorem State.emit_tlt (s : State) (x : Out) : (s.emit x).tlt = s.tlt := rfl
@[simp] theorem State.emit_fab (s : State) (x : Out) : (s.emit x).fab = s.fab := rfl
@[simp] theorem State.emit_rgl (s : State) (x : Out) : (s.emit x).rgl = s.rgl := rfl
@[simp] theorem State.emit_svc (s : State) (x : Out) : (s.emit x).svc = s.svc := rfl
@[simp] theorem State.emit_pwr (s : State) (x : Out) : (s.emit x).pwr = s.pwr := rfl
@[simp] theorem State.emit_jnl (s : State) (x : Out) : (s.emit x).jnl = s.jnl := rfl
@[simp] theorem State.emit_pat (s : State) (x : Out) : (s.emit x).pat = s.pat := rfl
@[simp] theorem State.emit_cmds (s : State) (x : Out) : (s.emit x).cmds = s.cmds := rfl
@[simp] theorem State.emit_deferred (s : State) (x : Out) : (s.emit x).deferred = s.deferred := rfl
@[simp] theorem State.emit_events (s : State) (x : Out) : (s.emit x).events = s.events := rfl
@[simp] theorem State.emit_pending (s : State) (x : Out) : (s.emit x).pending = s.pending := rfl

/-! ### A change waits for its boundary -/

@[simp] theorem State.defer_regs (s : State) (c : Change) : (s.defer c).regs = s.regs := rfl
@[simp] theorem State.defer_mem (s : State) (c : Change) : (s.defer c).mem = s.mem := rfl
@[simp] theorem State.defer_free (s : State) (c : Change) : (s.defer c).free = s.free := rfl
@[simp] theorem State.defer_stk (s : State) (c : Change) : (s.defer c).stk = s.stk := rfl
@[simp] theorem State.defer_arm (s : State) (c : Change) : (s.defer c).arm = s.arm := rfl
@[simp] theorem State.defer_hif (s : State) (c : Change) : (s.defer c).hif = s.hif := rfl
@[simp] theorem State.defer_nch (s : State) (c : Change) : (s.defer c).nch = s.nch := rfl
@[simp] theorem State.defer_rng (s : State) (c : Change) : (s.defer c).rng = s.rng := rfl
@[simp] theorem State.defer_dma (s : State) (c : Change) : (s.defer c).dma = s.dma := rfl
@[simp] theorem State.defer_til (s : State) (c : Change) : (s.defer c).til = s.til := rfl
@[simp] theorem State.defer_prs (s : State) (c : Change) : (s.defer c).prs = s.prs := rfl
@[simp] theorem State.defer_tbl (s : State) (c : Change) : (s.defer c).tbl = s.tbl := rfl
@[simp] theorem State.defer_sch (s : State) (c : Change) : (s.defer c).sch = s.sch := rfl
@[simp] theorem State.defer_nvs (s : State) (c : Change) : (s.defer c).nvs = s.nvs := rfl
@[simp] theorem State.defer_acc (s : State) (c : Change) : (s.defer c).acc = s.acc := rfl
@[simp] theorem State.defer_tlt (s : State) (c : Change) : (s.defer c).tlt = s.tlt := rfl
@[simp] theorem State.defer_fab (s : State) (c : Change) : (s.defer c).fab = s.fab := rfl
@[simp] theorem State.defer_rgl (s : State) (c : Change) : (s.defer c).rgl = s.rgl := rfl
@[simp] theorem State.defer_svc (s : State) (c : Change) : (s.defer c).svc = s.svc := rfl
@[simp] theorem State.defer_pwr (s : State) (c : Change) : (s.defer c).pwr = s.pwr := rfl
@[simp] theorem State.defer_jnl (s : State) (c : Change) : (s.defer c).jnl = s.jnl := rfl
@[simp] theorem State.defer_pat (s : State) (c : Change) : (s.defer c).pat = s.pat := rfl
@[simp] theorem State.defer_cmds (s : State) (c : Change) : (s.defer c).cmds = s.cmds := rfl
@[simp] theorem State.defer_events (s : State) (c : Change) : (s.defer c).events = s.events := rfl
@[simp] theorem State.defer_out (s : State) (c : Change) : (s.defer c).out = s.out := rfl
@[simp] theorem State.defer_pending (s : State) (c : Change) : (s.defer c).pending = s.pending := rfl

/-! ### A free value drawn -/

@[simp] theorem State.draw_regs (s : State) : (s.draw.2).regs = s.regs := rfl
@[simp] theorem State.draw_mem (s : State) : (s.draw.2).mem = s.mem := rfl
@[simp] theorem State.draw_stk (s : State) : (s.draw.2).stk = s.stk := rfl
@[simp] theorem State.draw_arm (s : State) : (s.draw.2).arm = s.arm := rfl
@[simp] theorem State.draw_hif (s : State) : (s.draw.2).hif = s.hif := rfl
@[simp] theorem State.draw_nch (s : State) : (s.draw.2).nch = s.nch := rfl
@[simp] theorem State.draw_rng (s : State) : (s.draw.2).rng = s.rng := rfl
@[simp] theorem State.draw_dma (s : State) : (s.draw.2).dma = s.dma := rfl
@[simp] theorem State.draw_til (s : State) : (s.draw.2).til = s.til := rfl
@[simp] theorem State.draw_prs (s : State) : (s.draw.2).prs = s.prs := rfl
@[simp] theorem State.draw_tbl (s : State) : (s.draw.2).tbl = s.tbl := rfl
@[simp] theorem State.draw_sch (s : State) : (s.draw.2).sch = s.sch := rfl
@[simp] theorem State.draw_nvs (s : State) : (s.draw.2).nvs = s.nvs := rfl
@[simp] theorem State.draw_acc (s : State) : (s.draw.2).acc = s.acc := rfl
@[simp] theorem State.draw_tlt (s : State) : (s.draw.2).tlt = s.tlt := rfl
@[simp] theorem State.draw_fab (s : State) : (s.draw.2).fab = s.fab := rfl
@[simp] theorem State.draw_rgl (s : State) : (s.draw.2).rgl = s.rgl := rfl
@[simp] theorem State.draw_svc (s : State) : (s.draw.2).svc = s.svc := rfl
@[simp] theorem State.draw_pwr (s : State) : (s.draw.2).pwr = s.pwr := rfl
@[simp] theorem State.draw_jnl (s : State) : (s.draw.2).jnl = s.jnl := rfl
@[simp] theorem State.draw_pat (s : State) : (s.draw.2).pat = s.pat := rfl
@[simp] theorem State.draw_cmds (s : State) : (s.draw.2).cmds = s.cmds := rfl
@[simp] theorem State.draw_deferred (s : State) : (s.draw.2).deferred = s.deferred := rfl
@[simp] theorem State.draw_events (s : State) : (s.draw.2).events = s.events := rfl
@[simp] theorem State.draw_out (s : State) : (s.draw.2).out = s.out := rfl
@[simp] theorem State.draw_pending (s : State) : (s.draw.2).pending = s.pending := rfl

/-! ### An event raised -/

@[simp] theorem raiseTo_regs (tgt : EvTarget) (id obj data : Nat) (s : State) : (raiseTo tgt id obj data s).regs = s.regs := rfl
@[simp] theorem raiseTo_mem (tgt : EvTarget) (id obj data : Nat) (s : State) : (raiseTo tgt id obj data s).mem = s.mem := rfl
@[simp] theorem raiseTo_free (tgt : EvTarget) (id obj data : Nat) (s : State) : (raiseTo tgt id obj data s).free = s.free := rfl
@[simp] theorem raiseTo_stk (tgt : EvTarget) (id obj data : Nat) (s : State) : (raiseTo tgt id obj data s).stk = s.stk := rfl
@[simp] theorem raiseTo_arm (tgt : EvTarget) (id obj data : Nat) (s : State) : (raiseTo tgt id obj data s).arm = s.arm := rfl
@[simp] theorem raiseTo_hif (tgt : EvTarget) (id obj data : Nat) (s : State) : (raiseTo tgt id obj data s).hif = s.hif := rfl
@[simp] theorem raiseTo_nch (tgt : EvTarget) (id obj data : Nat) (s : State) : (raiseTo tgt id obj data s).nch = s.nch := rfl
@[simp] theorem raiseTo_rng (tgt : EvTarget) (id obj data : Nat) (s : State) : (raiseTo tgt id obj data s).rng = s.rng := rfl
@[simp] theorem raiseTo_dma (tgt : EvTarget) (id obj data : Nat) (s : State) : (raiseTo tgt id obj data s).dma = s.dma := rfl
@[simp] theorem raiseTo_til (tgt : EvTarget) (id obj data : Nat) (s : State) : (raiseTo tgt id obj data s).til = s.til := rfl
@[simp] theorem raiseTo_prs (tgt : EvTarget) (id obj data : Nat) (s : State) : (raiseTo tgt id obj data s).prs = s.prs := rfl
@[simp] theorem raiseTo_tbl (tgt : EvTarget) (id obj data : Nat) (s : State) : (raiseTo tgt id obj data s).tbl = s.tbl := rfl
@[simp] theorem raiseTo_sch (tgt : EvTarget) (id obj data : Nat) (s : State) : (raiseTo tgt id obj data s).sch = s.sch := rfl
@[simp] theorem raiseTo_nvs (tgt : EvTarget) (id obj data : Nat) (s : State) : (raiseTo tgt id obj data s).nvs = s.nvs := rfl
@[simp] theorem raiseTo_acc (tgt : EvTarget) (id obj data : Nat) (s : State) : (raiseTo tgt id obj data s).acc = s.acc := rfl
@[simp] theorem raiseTo_tlt (tgt : EvTarget) (id obj data : Nat) (s : State) : (raiseTo tgt id obj data s).tlt = s.tlt := rfl
@[simp] theorem raiseTo_fab (tgt : EvTarget) (id obj data : Nat) (s : State) : (raiseTo tgt id obj data s).fab = s.fab := rfl
@[simp] theorem raiseTo_rgl (tgt : EvTarget) (id obj data : Nat) (s : State) : (raiseTo tgt id obj data s).rgl = s.rgl := rfl
@[simp] theorem raiseTo_svc (tgt : EvTarget) (id obj data : Nat) (s : State) : (raiseTo tgt id obj data s).svc = s.svc := rfl
@[simp] theorem raiseTo_pwr (tgt : EvTarget) (id obj data : Nat) (s : State) : (raiseTo tgt id obj data s).pwr = s.pwr := rfl
@[simp] theorem raiseTo_jnl (tgt : EvTarget) (id obj data : Nat) (s : State) : (raiseTo tgt id obj data s).jnl = s.jnl := rfl
@[simp] theorem raiseTo_pat (tgt : EvTarget) (id obj data : Nat) (s : State) : (raiseTo tgt id obj data s).pat = s.pat := rfl
@[simp] theorem raiseTo_cmds (tgt : EvTarget) (id obj data : Nat) (s : State) : (raiseTo tgt id obj data s).cmds = s.cmds := rfl
@[simp] theorem raiseTo_deferred (tgt : EvTarget) (id obj data : Nat) (s : State) : (raiseTo tgt id obj data s).deferred = s.deferred := rfl
@[simp] theorem raiseTo_out (tgt : EvTarget) (id obj data : Nat) (s : State) : (raiseTo tgt id obj data s).out = s.out := rfl
@[simp] theorem raiseTo_pending (tgt : EvTarget) (id obj data : Nat) (s : State) : (raiseTo tgt id obj data s).pending = s.pending := rfl

/-! ### A device-scoped event raised -/

@[simp] theorem raise_regs (id obj data : Nat) (s : State) : (raise id obj data s).regs = s.regs := rfl
@[simp] theorem raise_mem (id obj data : Nat) (s : State) : (raise id obj data s).mem = s.mem := rfl
@[simp] theorem raise_free (id obj data : Nat) (s : State) : (raise id obj data s).free = s.free := rfl
@[simp] theorem raise_stk (id obj data : Nat) (s : State) : (raise id obj data s).stk = s.stk := rfl
@[simp] theorem raise_arm (id obj data : Nat) (s : State) : (raise id obj data s).arm = s.arm := rfl
@[simp] theorem raise_hif (id obj data : Nat) (s : State) : (raise id obj data s).hif = s.hif := rfl
@[simp] theorem raise_nch (id obj data : Nat) (s : State) : (raise id obj data s).nch = s.nch := rfl
@[simp] theorem raise_rng (id obj data : Nat) (s : State) : (raise id obj data s).rng = s.rng := rfl
@[simp] theorem raise_dma (id obj data : Nat) (s : State) : (raise id obj data s).dma = s.dma := rfl
@[simp] theorem raise_til (id obj data : Nat) (s : State) : (raise id obj data s).til = s.til := rfl
@[simp] theorem raise_prs (id obj data : Nat) (s : State) : (raise id obj data s).prs = s.prs := rfl
@[simp] theorem raise_tbl (id obj data : Nat) (s : State) : (raise id obj data s).tbl = s.tbl := rfl
@[simp] theorem raise_sch (id obj data : Nat) (s : State) : (raise id obj data s).sch = s.sch := rfl
@[simp] theorem raise_nvs (id obj data : Nat) (s : State) : (raise id obj data s).nvs = s.nvs := rfl
@[simp] theorem raise_acc (id obj data : Nat) (s : State) : (raise id obj data s).acc = s.acc := rfl
@[simp] theorem raise_tlt (id obj data : Nat) (s : State) : (raise id obj data s).tlt = s.tlt := rfl
@[simp] theorem raise_fab (id obj data : Nat) (s : State) : (raise id obj data s).fab = s.fab := rfl
@[simp] theorem raise_rgl (id obj data : Nat) (s : State) : (raise id obj data s).rgl = s.rgl := rfl
@[simp] theorem raise_svc (id obj data : Nat) (s : State) : (raise id obj data s).svc = s.svc := rfl
@[simp] theorem raise_pwr (id obj data : Nat) (s : State) : (raise id obj data s).pwr = s.pwr := rfl
@[simp] theorem raise_jnl (id obj data : Nat) (s : State) : (raise id obj data s).jnl = s.jnl := rfl
@[simp] theorem raise_pat (id obj data : Nat) (s : State) : (raise id obj data s).pat = s.pat := rfl
@[simp] theorem raise_cmds (id obj data : Nat) (s : State) : (raise id obj data s).cmds = s.cmds := rfl
@[simp] theorem raise_deferred (id obj data : Nat) (s : State) : (raise id obj data s).deferred = s.deferred := rfl
@[simp] theorem raise_out (id obj data : Nat) (s : State) : (raise id obj data s).out = s.out := rfl
@[simp] theorem raise_pending (id obj data : Nat) (s : State) : (raise id obj data s).pending = s.pending := rfl

@[simp] theorem memWriteList_getI (s : State) (a : Nat) (l : List Byte) (g : Field) (i : Nat) : (memWriteList s a l).getI g i = s.getI g i := by
  unfold State.getI; rw [memWriteList_regs]
@[simp] theorem memWriteList_get (s : State) (a : Nat) (l : List Byte) (g : Field) : (memWriteList s a l).get g = s.get g := memWriteList_getI s a l g 0
@[simp] theorem memZero_getI (s : State) (a n : Nat) (g : Field) (i : Nat) : (memZero s a n).getI g i = s.getI g i := rfl
@[simp] theorem memZero_get (s : State) (a n : Nat) (g : Field) : (memZero s a n).get g = s.get g := memZero_getI s a n g 0
@[simp] theorem emit_getI (s : State) (x : Out) (g : Field) (i : Nat) : (s.emit x).getI g i = s.getI g i := rfl
@[simp] theorem emit_get (s : State) (x : Out) (g : Field) : (s.emit x).get g = s.get g := emit_getI s x g 0
@[simp] theorem defer_getI (s : State) (c : Change) (g : Field) (i : Nat) : (s.defer c).getI g i = s.getI g i := rfl
@[simp] theorem defer_get (s : State) (c : Change) (g : Field) : (s.defer c).get g = s.get g := defer_getI s c g 0
@[simp] theorem draw_getI (s : State) (g : Field) (i : Nat) : (s.draw.2).getI g i = s.getI g i := rfl
@[simp] theorem draw_get (s : State) (g : Field) : (s.draw.2).get g = s.get g := draw_getI s g 0
@[simp] theorem raiseTo_getI (tgt : EvTarget) (id obj data : Nat) (s : State) (g : Field) (i : Nat) : (raiseTo tgt id obj data s).getI g i = s.getI g i := rfl
@[simp] theorem raiseTo_get (tgt : EvTarget) (id obj data : Nat) (s : State) (g : Field) : (raiseTo tgt id obj data s).get g = s.get g := raiseTo_getI tgt id obj data s g 0
@[simp] theorem raise_getI (id obj data : Nat) (s : State) (g : Field) (i : Nat) : (raise id obj data s).getI g i = s.getI g i := rfl
@[simp] theorem raise_get (id obj data : Nat) (s : State) (g : Field) : (raise id obj data s).get g = s.get g := raise_getI id obj data s g 0

end Sys2Proof.Machine
end

