-- ==== Sys2Proof/Laws/Regs.lean ====
section
/-!
SUPPORT. Reading a register field after a field is set.
-/
namespace Sys2Proof.Machine

theorem State.setI_regs (s : State) (f : Field) (i v : Nat) :
    (s.setI f i v).regs =
      if v % 2 ^ f.width = f.resetAt i then Map.del s.regs (f.key i) else Map.put s.regs (f.key i) (v % 2 ^ f.width) := by
  unfold State.setI; split <;> rfl

@[simp] theorem State.getI_setI_same (s : State) (f : Field) (i v : Nat) : (s.setI f i v).getI f i = v % 2 ^ f.width := by
  rw [State.getI, State.setI_regs]
  by_cases h : v % 2 ^ f.width = f.resetAt i
  · rw [if_pos h, Map.find?_del_same]; exact h.symm
  · rw [if_neg h, Map.find?_put_same]

theorem State.getI_setI_ne (s : State) {f g : Field} {i j : Nat} (v : Nat) (h : g.key j ≠ f.key i) : (s.setI f i v).getI g j = s.getI g j := by
  rw [State.getI, State.setI_regs]
  by_cases e : v % 2 ^ f.width = f.resetAt i
  · rw [if_pos e, Map.find?_del_ne _ h]; rfl
  · rw [if_neg e, Map.find?_put_ne _ _ h]; rfl

/-- Fields of different registers, or of different places in one, keep apart at every two instances. -/
theorem Field.key_ne {f g : Field} (i j : Nat) (h : g.off * 128 + g.lo ≠ f.off * 128 + f.lo) : g.key j ≠ f.key i := by
  unfold Field.key
  have hi := Nat.mod_lt i (show 0 < 2 ^ 32 by decide)
  have hj := Nat.mod_lt j (show 0 < 2 ^ 32 by decide)
  omega

/-- Instances of one field below 2^32 keep apart. -/
theorem Field.key_ne_index (f : Field) {i j : Nat} (h : j ≠ i) (hi : i < 2 ^ 32) (hj : j < 2 ^ 32) : f.key j ≠ f.key i := by
  unfold Field.key
  rw [Nat.mod_eq_of_lt hi, Nat.mod_eq_of_lt hj]
  omega

theorem State.getI_setI_field (s : State) {f g : Field} (i j v : Nat) (h : g.off * 128 + g.lo ≠ f.off * 128 + f.lo) :
    (s.setI f i v).getI g j = s.getI g j := State.getI_setI_ne s v (Field.key_ne i j h)

@[simp] theorem State.get_set_same (s : State) (f : Field) (v : Nat) : (s.set f v).get f = v % 2 ^ f.width := State.getI_setI_same s f 0 v

theorem State.get_set_ne (s : State) {f g : Field} (v : Nat) (h : g.off * 128 + g.lo ≠ f.off * 128 + f.lo) : (s.set f v).get g = s.get g :=
  State.getI_setI_field s 0 0 v h

/-- A field's value does not depend on anything but the register map. -/
theorem State.getI_congr {s t : State} (h : s.regs = t.regs) (f : Field) (i : Nat) : s.getI f i = t.getI f i := by
  unfold State.getI; rw [h]

end Sys2Proof.Machine
end

