-- ==== Sys2Proof/Laws/Memory.lean ====
section
/-!
SUPPORT. Device memory: its canonical form is kept by every operation that writes it, and what a read sees after a write.
-/
namespace Sys2Proof.Machine

/-- The canonical form behind a lower bound on the addresses. -/
def Memory.above (lo : Nat) (m : List Host.Cell) : Prop := Memory.wf m = true ∧ ∀ p ∈ m, lo < p.1

theorem Memory.wf_nil : Memory.wf [] = true := rfl

theorem Memory.wf_cons (a : Nat) (b : BitVec 8) (t : List Host.Cell) :
    Memory.wf ((a, b) :: t) = true ↔ b ≠ 0 ∧ Memory.above a t := by
  induction t generalizing a b with
  | nil => simp [Memory.wf, Memory.above]
  | cons p t ih =>
    obtain ⟨a', b'⟩ := p
    have hw : Memory.wf ((a, b) :: (a', b') :: t) = (b != 0 && decide (a < a') && Memory.wf ((a', b') :: t)) := rfl
    rw [hw]
    simp only [Bool.and_eq_true, bne_iff_ne, ne_eq, decide_eq_true_eq, Memory.above, List.mem_cons]
    constructor
    · rintro ⟨⟨hb, hlt⟩, hrest⟩
      refine ⟨hb, hrest, ?_⟩
      rintro q (rfl | hq)
      · exact hlt
      · exact Nat.lt_trans hlt (((ih a' b').1 hrest).2.2 q hq)
    · rintro ⟨hb, hrest, hall⟩
      exact ⟨⟨hb, hall (a', b') (Or.inl rfl)⟩, hrest⟩

theorem Memory.above_cons (lo a : Nat) (b : BitVec 8) (t : List Host.Cell) :
    Memory.above lo ((a, b) :: t) ↔ lo < a ∧ b ≠ 0 ∧ Memory.above a t := by
  unfold Memory.above
  rw [Memory.wf_cons]
  simp only [List.mem_cons]
  constructor
  · rintro ⟨⟨hb, h⟩, hall⟩
    exact ⟨hall (a, b) (Or.inl rfl), hb, h⟩
  · rintro ⟨hlt, hb, h⟩
    refine ⟨⟨hb, h⟩, ?_⟩
    rintro q (rfl | hq)
    · exact hlt
    · exact Nat.lt_trans hlt (h.2 q hq)

theorem Memory.above_mono {lo lo' : Nat} {m : List Host.Cell} (h : lo' ≤ lo) (hm : Memory.above lo m) : Memory.above lo' m :=
  ⟨hm.1, fun p hp => Nat.lt_of_le_of_lt h (hm.2 p hp)⟩

theorem Memory.filter_above (lo : Nat) (f : Host.Cell → Bool) (m : List Host.Cell) (h : Memory.above lo m) : Memory.above lo (m.filter f) := by
  induction m generalizing lo with
  | nil => exact h
  | cons p t ih =>
    obtain ⟨a, b⟩ := p
    obtain ⟨hlo, hb, ht⟩ := (Memory.above_cons lo a b t).1 h
    rw [List.filter_cons]
    split
    · exact (Memory.above_cons lo a b _).2 ⟨hlo, hb, ih a ht⟩
    · exact ih lo (Memory.above_mono (Nat.le_of_lt hlo) ht)

theorem Memory.filter_wf (f : Host.Cell → Bool) (m : List Host.Cell) (h : Memory.wf m = true) : Memory.wf (m.filter f) = true := by
  cases m with
  | nil => rfl
  | cons p t =>
    obtain ⟨a, b⟩ := p
    obtain ⟨hb, ht⟩ := (Memory.wf_cons a b t).1 h
    rw [List.filter_cons]
    split
    · exact (Memory.wf_cons a b _).2 ⟨hb, Memory.filter_above a f t ht⟩
    · exact (Memory.filter_above a f t ht).1

theorem Memory.put_above (lo : Nat) (m : List Host.Cell) (k : Nat) (v : BitVec 8) (hv : v ≠ 0) (hk : lo < k) (h : Memory.above lo m) :
    Memory.above lo (Map.put m k v) := by
  induction m generalizing lo with
  | nil => exact (Memory.above_cons lo k v []).2 ⟨hk, hv, rfl, by simp⟩
  | cons p t ih =>
    obtain ⟨a, b⟩ := p
    obtain ⟨hlo, hb, ht⟩ := (Memory.above_cons lo a b t).1 h
    unfold Map.put
    split
    · next hlt => exact (Memory.above_cons lo k v _).2 ⟨hk, hv, (Memory.above_cons k a b t).2 ⟨hlt, hb, ht⟩⟩
    · split
      · next e => subst e; exact (Memory.above_cons lo k v t).2 ⟨hk, hv, ht⟩
      · exact (Memory.above_cons lo a b _).2 ⟨hlo, hb, ih a (by omega) ht⟩

theorem Memory.put_wf (m : List Host.Cell) (k : Nat) (v : BitVec 8) (hv : v ≠ 0) (h : Memory.wf m = true) : Memory.wf (Map.put m k v) = true := by
  cases m with
  | nil => simpa [Map.put, Memory.wf] using hv
  | cons p t =>
    obtain ⟨a, b⟩ := p
    obtain ⟨hb, ht⟩ := (Memory.wf_cons a b t).1 h
    unfold Map.put
    split
    · next hlt => exact (Memory.wf_cons k v _).2 ⟨hv, (Memory.above_cons k a b t).2 ⟨hlt, hb, ht⟩⟩
    · split
      · next e => subst e; exact (Memory.wf_cons k v t).2 ⟨hv, ht⟩
      · exact (Memory.wf_cons a b _).2 ⟨hb, Memory.put_above a t k v hv (by omega) ht⟩

/-- A byte written keeps the canonical form. -/
theorem memWrite_wf (s : State) (a : Nat) (b : Byte) (h : Memory.wf s.mem = true) : Memory.wf (memWrite s a b).mem = true := by
  unfold memWrite
  split
  · exact Memory.filter_wf _ _ h
  · exact Memory.put_wf _ _ _ ‹_› h

/-- A byte string written keeps the canonical form. -/
theorem memWriteList_wf (s : State) (a : Nat) (l : List Byte) (h : Memory.wf s.mem = true) : Memory.wf (memWriteList s a l).mem = true := by
  induction l generalizing s a with
  | nil => exact h
  | cons b t ih => exact ih _ _ (memWrite_wf s a b h)

/-- A range zeroed keeps the canonical form. -/
theorem memZero_wf (s : State) (a n : Nat) (h : Memory.wf s.mem = true) : Memory.wf (memZero s a n).mem = true :=
  Memory.filter_wf _ _ h

/-- A byte reads as it was last written. -/
@[simp] theorem memRead_memWrite_same (s : State) (a : Nat) (b : Byte) : memRead (memWrite s a b) a = b := by
  unfold memRead memWrite
  split
  · next h => subst h; simp
  · simp

/-- A write leaves every other byte alone. -/
theorem memRead_memWrite_ne (s : State) {a c : Nat} (b : Byte) (h : c ≠ a) : memRead (memWrite s a b) c = memRead s c := by
  unfold memRead memWrite
  split
  · exact congrArg (·.getD 0) (Map.find?_del_ne s.mem h)
  · exact congrArg (·.getD 0) (Map.find?_put_ne s.mem b h)

/-- A byte string written leaves every byte outside it alone. -/
theorem memRead_memWriteList_out (s : State) (a : Nat) (l : List Byte) {c : Nat} (h : c < a ∨ a + l.length ≤ c) :
    memRead (memWriteList s a l) c = memRead s c := by
  induction l generalizing s a with
  | nil => rfl
  | cons b t ih =>
    rw [List.length_cons] at h
    rw [memWriteList, ih _ _ (by omega), memRead_memWrite_ne _ _ (by omega)]

end Sys2Proof.Machine
end

