-- ==== Sys2Proof/Laws/Ops.lean ====
section
/-!
SUPPORT. What the shared operations of Machine/Ops.lean leave alone: the parts of the state that events, the patina log,
counters, the journal and command registers do not touch, and the registers outside their own blocks.
-/
namespace Sys2Proof.Machine

/-! ### Patina: the notice -/

@[simp] theorem patinaNotice_mem (c v : Nat) (s : State) : (patinaNotice c v s).mem = s.mem := by
  unfold patinaNotice; split <;> simp
@[simp] theorem patinaNotice_free (c v : Nat) (s : State) : (patinaNotice c v s).free = s.free := by
  unfold patinaNotice; split <;> simp
@[simp] theorem patinaNotice_stk (c v : Nat) (s : State) : (patinaNotice c v s).stk = s.stk := by
  unfold patinaNotice; split <;> simp
@[simp] theorem patinaNotice_arm (c v : Nat) (s : State) : (patinaNotice c v s).arm = s.arm := by
  unfold patinaNotice; split <;> simp
@[simp] theorem patinaNotice_hif (c v : Nat) (s : State) : (patinaNotice c v s).hif = s.hif := by
  unfold patinaNotice; split <;> simp
@[simp] theorem patinaNotice_nch (c v : Nat) (s : State) : (patinaNotice c v s).nch = s.nch := by
  unfold patinaNotice; split <;> simp
@[simp] theorem patinaNotice_rng (c v : Nat) (s : State) : (patinaNotice c v s).rng = s.rng := by
  unfold patinaNotice; split <;> simp
@[simp] theorem patinaNotice_dma (c v : Nat) (s : State) : (patinaNotice c v s).dma = s.dma := by
  unfold patinaNotice; split <;> simp
@[simp] theorem patinaNotice_til (c v : Nat) (s : State) : (patinaNotice c v s).til = s.til := by
  unfold patinaNotice; split <;> simp
@[simp] theorem patinaNotice_prs (c v : Nat) (s : State) : (patinaNotice c v s).prs = s.prs := by
  unfold patinaNotice; split <;> simp
@[simp] theorem patinaNotice_tbl (c v : Nat) (s : State) : (patinaNotice c v s).tbl = s.tbl := by
  unfold patinaNotice; split <;> simp
@[simp] theorem patinaNotice_sch (c v : Nat) (s : State) : (patinaNotice c v s).sch = s.sch := by
  unfold patinaNotice; split <;> simp
@[simp] theorem patinaNotice_nvs (c v : Nat) (s : State) : (patinaNotice c v s).nvs = s.nvs := by
  unfold patinaNotice; split <;> simp
@[simp] theorem patinaNotice_acc (c v : Nat) (s : State) : (patinaNotice c v s).acc = s.acc := by
  unfold patinaNotice; split <;> simp
@[simp] theorem patinaNotice_tlt (c v : Nat) (s : State) : (patinaNotice c v s).tlt = s.tlt := by
  unfold patinaNotice; split <;> simp
@[simp] theorem patinaNotice_fab (c v : Nat) (s : State) : (patinaNotice c v s).fab = s.fab := by
  unfold patinaNotice; split <;> simp
@[simp] theorem patinaNotice_rgl (c v : Nat) (s : State) : (patinaNotice c v s).rgl = s.rgl := by
  unfold patinaNotice; split <;> simp
@[simp] theorem patinaNotice_svc (c v : Nat) (s : State) : (patinaNotice c v s).svc = s.svc := by
  unfold patinaNotice; split <;> simp
@[simp] theorem patinaNotice_pwr (c v : Nat) (s : State) : (patinaNotice c v s).pwr = s.pwr := by
  unfold patinaNotice; split <;> simp
@[simp] theorem patinaNotice_jnl (c v : Nat) (s : State) : (patinaNotice c v s).jnl = s.jnl := by
  unfold patinaNotice; split <;> simp
@[simp] theorem patinaNotice_pat (c v : Nat) (s : State) : (patinaNotice c v s).pat = s.pat := by
  unfold patinaNotice; split <;> simp
@[simp] theorem patinaNotice_cmds (c v : Nat) (s : State) : (patinaNotice c v s).cmds = s.cmds := by
  unfold patinaNotice; split <;> simp
@[simp] theorem patinaNotice_deferred (c v : Nat) (s : State) : (patinaNotice c v s).deferred = s.deferred := by
  unfold patinaNotice; split <;> simp
@[simp] theorem patinaNotice_out (c v : Nat) (s : State) : (patinaNotice c v s).out = s.out := by
  unfold patinaNotice; split <;> simp
@[simp] theorem patinaNotice_pending (c v : Nat) (s : State) : (patinaNotice c v s).pending = s.pending := by
  unfold patinaNotice; split <;> simp

/-! ### Patina: an entry pushed -/

@[simp] theorem patinaPush_mem (e : PEntry) (s : State) : (patinaPush e s).mem = s.mem := by
  simp only [patinaPush, State.set_mem, State.updPat_mem]
@[simp] theorem patinaPush_free (e : PEntry) (s : State) : (patinaPush e s).free = s.free := by
  simp only [patinaPush, State.set_free, State.updPat_free]
@[simp] theorem patinaPush_stk (e : PEntry) (s : State) : (patinaPush e s).stk = s.stk := by
  simp only [patinaPush, State.set_stk, State.updPat_stk]
@[simp] theorem patinaPush_arm (e : PEntry) (s : State) : (patinaPush e s).arm = s.arm := by
  simp only [patinaPush, State.set_arm, State.updPat_arm]
@[simp] theorem patinaPush_hif (e : PEntry) (s : State) : (patinaPush e s).hif = s.hif := by
  simp only [patinaPush, State.set_hif, State.updPat_hif]
@[simp] theorem patinaPush_nch (e : PEntry) (s : State) : (patinaPush e s).nch = s.nch := by
  simp only [patinaPush, State.set_nch, State.updPat_nch]
@[simp] theorem patinaPush_rng (e : PEntry) (s : State) : (patinaPush e s).rng = s.rng := by
  simp only [patinaPush, State.set_rng, State.updPat_rng]
@[simp] theorem patinaPush_dma (e : PEntry) (s : State) : (patinaPush e s).dma = s.dma := by
  simp only [patinaPush, State.set_dma, State.updPat_dma]
@[simp] theorem patinaPush_til (e : PEntry) (s : State) : (patinaPush e s).til = s.til := by
  simp only [patinaPush, State.set_til, State.updPat_til]
@[simp] theorem patinaPush_prs (e : PEntry) (s : State) : (patinaPush e s).prs = s.prs := by
  simp only [patinaPush, State.set_prs, State.updPat_prs]
@[simp] theorem patinaPush_tbl (e : PEntry) (s : State) : (patinaPush e s).tbl = s.tbl := by
  simp only [patinaPush, State.set_tbl, State.updPat_tbl]
@[simp] theorem patinaPush_sch (e : PEntry) (s : State) : (patinaPush e s).sch = s.sch := by
  simp only [patinaPush, State.set_sch, State.updPat_sch]
@[simp] theorem patinaPush_nvs (e : PEntry) (s : State) : (patinaPush e s).nvs = s.nvs := by
  simp only [patinaPush, State.set_nvs, State.updPat_nvs]
@[simp] theorem patinaPush_acc (e : PEntry) (s : State) : (patinaPush e s).acc = s.acc := by
  simp only [patinaPush, State.set_acc, State.updPat_acc]
@[simp] theorem patinaPush_tlt (e : PEntry) (s : State) : (patinaPush e s).tlt = s.tlt := by
  simp only [patinaPush, State.set_tlt, State.updPat_tlt]
@[simp] theorem patinaPush_fab (e : PEntry) (s : State) : (patinaPush e s).fab = s.fab := by
  simp only [patinaPush, State.set_fab, State.updPat_fab]
@[simp] theorem patinaPush_rgl (e : PEntry) (s : State) : (patinaPush e s).rgl = s.rgl := by
  simp only [patinaPush, State.set_rgl, State.updPat_rgl]
@[simp] theorem patinaPush_svc (e : PEntry) (s : State) : (patinaPush e s).svc = s.svc := by
  simp only [patinaPush, State.set_svc, State.updPat_svc]
@[simp] theorem patinaPush_pwr (e : PEntry) (s : State) : (patinaPush e s).pwr = s.pwr := by
  simp only [patinaPush, State.set_pwr, State.updPat_pwr]
@[simp] theorem patinaPush_jnl (e : PEntry) (s : State) : (patinaPush e s).jnl = s.jnl := by
  simp only [patinaPush, State.set_jnl, State.updPat_jnl]
@[simp] theorem patinaPush_cmds (e : PEntry) (s : State) : (patinaPush e s).cmds = s.cmds := by
  simp only [patinaPush, State.set_cmds, State.updPat_cmds]
@[simp] theorem patinaPush_deferred (e : PEntry) (s : State) : (patinaPush e s).deferred = s.deferred := by
  simp only [patinaPush, State.set_deferred, State.updPat_deferred]
@[simp] theorem patinaPush_events (e : PEntry) (s : State) : (patinaPush e s).events = s.events := by
  simp only [patinaPush, State.set_events, State.updPat_events]
@[simp] theorem patinaPush_out (e : PEntry) (s : State) : (patinaPush e s).out = s.out := by
  simp only [patinaPush, State.set_out, State.updPat_out]
@[simp] theorem patinaPush_pending (e : PEntry) (s : State) : (patinaPush e s).pending = s.pending := by
  simp only [patinaPush, State.set_pending, State.updPat_pending]

/-! ### Patina: an entry pinned -/

@[simp] theorem patinaPin_mem (e : PEntry) (s : State) : (patinaPin e s).mem = s.mem := by
  unfold patinaPin; dsimp only; split <;> simp only [raise_mem, State.set_mem, State.updPat_mem]
@[simp] theorem patinaPin_free (e : PEntry) (s : State) : (patinaPin e s).free = s.free := by
  unfold patinaPin; dsimp only; split <;> simp only [raise_free, State.set_free, State.updPat_free]
@[simp] theorem patinaPin_stk (e : PEntry) (s : State) : (patinaPin e s).stk = s.stk := by
  unfold patinaPin; dsimp only; split <;> simp only [raise_stk, State.set_stk, State.updPat_stk]
@[simp] theorem patinaPin_arm (e : PEntry) (s : State) : (patinaPin e s).arm = s.arm := by
  unfold patinaPin; dsimp only; split <;> simp only [raise_arm, State.set_arm, State.updPat_arm]
@[simp] theorem patinaPin_hif (e : PEntry) (s : State) : (patinaPin e s).hif = s.hif := by
  unfold patinaPin; dsimp only; split <;> simp only [raise_hif, State.set_hif, State.updPat_hif]
@[simp] theorem patinaPin_nch (e : PEntry) (s : State) : (patinaPin e s).nch = s.nch := by
  unfold patinaPin; dsimp only; split <;> simp only [raise_nch, State.set_nch, State.updPat_nch]
@[simp] theorem patinaPin_rng (e : PEntry) (s : State) : (patinaPin e s).rng = s.rng := by
  unfold patinaPin; dsimp only; split <;> simp only [raise_rng, State.set_rng, State.updPat_rng]
@[simp] theorem patinaPin_dma (e : PEntry) (s : State) : (patinaPin e s).dma = s.dma := by
  unfold patinaPin; dsimp only; split <;> simp only [raise_dma, State.set_dma, State.updPat_dma]
@[simp] theorem patinaPin_til (e : PEntry) (s : State) : (patinaPin e s).til = s.til := by
  unfold patinaPin; dsimp only; split <;> simp only [raise_til, State.set_til, State.updPat_til]
@[simp] theorem patinaPin_prs (e : PEntry) (s : State) : (patinaPin e s).prs = s.prs := by
  unfold patinaPin; dsimp only; split <;> simp only [raise_prs, State.set_prs, State.updPat_prs]
@[simp] theorem patinaPin_tbl (e : PEntry) (s : State) : (patinaPin e s).tbl = s.tbl := by
  unfold patinaPin; dsimp only; split <;> simp only [raise_tbl, State.set_tbl, State.updPat_tbl]
@[simp] theorem patinaPin_sch (e : PEntry) (s : State) : (patinaPin e s).sch = s.sch := by
  unfold patinaPin; dsimp only; split <;> simp only [raise_sch, State.set_sch, State.updPat_sch]
@[simp] theorem patinaPin_nvs (e : PEntry) (s : State) : (patinaPin e s).nvs = s.nvs := by
  unfold patinaPin; dsimp only; split <;> simp only [raise_nvs, State.set_nvs, State.updPat_nvs]
@[simp] theorem patinaPin_acc (e : PEntry) (s : State) : (patinaPin e s).acc = s.acc := by
  unfold patinaPin; dsimp only; split <;> simp only [raise_acc, State.set_acc, State.updPat_acc]
@[simp] theorem patinaPin_tlt (e : PEntry) (s : State) : (patinaPin e s).tlt = s.tlt := by
  unfold patinaPin; dsimp only; split <;> simp only [raise_tlt, State.set_tlt, State.updPat_tlt]
@[simp] theorem patinaPin_fab (e : PEntry) (s : State) : (patinaPin e s).fab = s.fab := by
  unfold patinaPin; dsimp only; split <;> simp only [raise_fab, State.set_fab, State.updPat_fab]
@[simp] theorem patinaPin_rgl (e : PEntry) (s : State) : (patinaPin e s).rgl = s.rgl := by
  unfold patinaPin; dsimp only; split <;> simp only [raise_rgl, State.set_rgl, State.updPat_rgl]
@[simp] theorem patinaPin_svc (e : PEntry) (s : State) : (patinaPin e s).svc = s.svc := by
  unfold patinaPin; dsimp only; split <;> simp only [raise_svc, State.set_svc, State.updPat_svc]
@[simp] theorem patinaPin_pwr (e : PEntry) (s : State) : (patinaPin e s).pwr = s.pwr := by
  unfold patinaPin; dsimp only; split <;> simp only [raise_pwr, State.set_pwr, State.updPat_pwr]
@[simp] theorem patinaPin_jnl (e : PEntry) (s : State) : (patinaPin e s).jnl = s.jnl := by
  unfold patinaPin; dsimp only; split <;> simp only [raise_jnl, State.set_jnl, State.updPat_jnl]
@[simp] theorem patinaPin_cmds (e : PEntry) (s : State) : (patinaPin e s).cmds = s.cmds := by
  unfold patinaPin; dsimp only; split <;> simp only [raise_cmds, State.set_cmds, State.updPat_cmds]
@[simp] theorem patinaPin_deferred (e : PEntry) (s : State) : (patinaPin e s).deferred = s.deferred := by
  unfold patinaPin; dsimp only; split <;> simp only [raise_deferred, State.set_deferred, State.updPat_deferred]
@[simp] theorem patinaPin_out (e : PEntry) (s : State) : (patinaPin e s).out = s.out := by
  unfold patinaPin; dsimp only; split <;> simp only [raise_out, State.set_out, State.updPat_out]
@[simp] theorem patinaPin_pending (e : PEntry) (s : State) : (patinaPin e s).pending = s.pending := by
  unfold patinaPin; dsimp only; split <;> simp only [raise_pending, State.set_pending, State.updPat_pending]

/-! ### Patina: a new entry -/

@[simp] theorem patinaNew_mem (c v d : Nat) (s : State) : (patinaNew c v d s).mem = s.mem := by
  unfold patinaNew; dsimp only; repeat' split
  all_goals simp only [patinaPin_mem, patinaOverflow, State.set_mem, patinaPush_mem]
@[simp] theorem patinaNew_free (c v d : Nat) (s : State) : (patinaNew c v d s).free = s.free := by
  unfold patinaNew; dsimp only; repeat' split
  all_goals simp only [patinaPin_free, patinaOverflow, State.set_free, patinaPush_free]
@[simp] theorem patinaNew_stk (c v d : Nat) (s : State) : (patinaNew c v d s).stk = s.stk := by
  unfold patinaNew; dsimp only; repeat' split
  all_goals simp only [patinaPin_stk, patinaOverflow, State.set_stk, patinaPush_stk]
@[simp] theorem patinaNew_arm (c v d : Nat) (s : State) : (patinaNew c v d s).arm = s.arm := by
  unfold patinaNew; dsimp only; repeat' split
  all_goals simp only [patinaPin_arm, patinaOverflow, State.set_arm, patinaPush_arm]
@[simp] theorem patinaNew_hif (c v d : Nat) (s : State) : (patinaNew c v d s).hif = s.hif := by
  unfold patinaNew; dsimp only; repeat' split
  all_goals simp only [patinaPin_hif, patinaOverflow, State.set_hif, patinaPush_hif]
@[simp] theorem patinaNew_nch (c v d : Nat) (s : State) : (patinaNew c v d s).nch = s.nch := by
  unfold patinaNew; dsimp only; repeat' split
  all_goals simp only [patinaPin_nch, patinaOverflow, State.set_nch, patinaPush_nch]
@[simp] theorem patinaNew_rng (c v d : Nat) (s : State) : (patinaNew c v d s).rng = s.rng := by
  unfold patinaNew; dsimp only; repeat' split
  all_goals simp only [patinaPin_rng, patinaOverflow, State.set_rng, patinaPush_rng]
@[simp] theorem patinaNew_dma (c v d : Nat) (s : State) : (patinaNew c v d s).dma = s.dma := by
  unfold patinaNew; dsimp only; repeat' split
  all_goals simp only [patinaPin_dma, patinaOverflow, State.set_dma, patinaPush_dma]
@[simp] theorem patinaNew_til (c v d : Nat) (s : State) : (patinaNew c v d s).til = s.til := by
  unfold patinaNew; dsimp only; repeat' split
  all_goals simp only [patinaPin_til, patinaOverflow, State.set_til, patinaPush_til]
@[simp] theorem patinaNew_prs (c v d : Nat) (s : State) : (patinaNew c v d s).prs = s.prs := by
  unfold patinaNew; dsimp only; repeat' split
  all_goals simp only [patinaPin_prs, patinaOverflow, State.set_prs, patinaPush_prs]
@[simp] theorem patinaNew_tbl (c v d : Nat) (s : State) : (patinaNew c v d s).tbl = s.tbl := by
  unfold patinaNew; dsimp only; repeat' split
  all_goals simp only [patinaPin_tbl, patinaOverflow, State.set_tbl, patinaPush_tbl]
@[simp] theorem patinaNew_sch (c v d : Nat) (s : State) : (patinaNew c v d s).sch = s.sch := by
  unfold patinaNew; dsimp only; repeat' split
  all_goals simp only [patinaPin_sch, patinaOverflow, State.set_sch, patinaPush_sch]
@[simp] theorem patinaNew_nvs (c v d : Nat) (s : State) : (patinaNew c v d s).nvs = s.nvs := by
  unfold patinaNew; dsimp only; repeat' split
  all_goals simp only [patinaPin_nvs, patinaOverflow, State.set_nvs, patinaPush_nvs]
@[simp] theorem patinaNew_acc (c v d : Nat) (s : State) : (patinaNew c v d s).acc = s.acc := by
  unfold patinaNew; dsimp only; repeat' split
  all_goals simp only [patinaPin_acc, patinaOverflow, State.set_acc, patinaPush_acc]
@[simp] theorem patinaNew_tlt (c v d : Nat) (s : State) : (patinaNew c v d s).tlt = s.tlt := by
  unfold patinaNew; dsimp only; repeat' split
  all_goals simp only [patinaPin_tlt, patinaOverflow, State.set_tlt, patinaPush_tlt]
@[simp] theorem patinaNew_fab (c v d : Nat) (s : State) : (patinaNew c v d s).fab = s.fab := by
  unfold patinaNew; dsimp only; repeat' split
  all_goals simp only [patinaPin_fab, patinaOverflow, State.set_fab, patinaPush_fab]
@[simp] theorem patinaNew_rgl (c v d : Nat) (s : State) : (patinaNew c v d s).rgl = s.rgl := by
  unfold patinaNew; dsimp only; repeat' split
  all_goals simp only [patinaPin_rgl, patinaOverflow, State.set_rgl, patinaPush_rgl]
@[simp] theorem patinaNew_svc (c v d : Nat) (s : State) : (patinaNew c v d s).svc = s.svc := by
  unfold patinaNew; dsimp only; repeat' split
  all_goals simp only [patinaPin_svc, patinaOverflow, State.set_svc, patinaPush_svc]
@[simp] theorem patinaNew_pwr (c v d : Nat) (s : State) : (patinaNew c v d s).pwr = s.pwr := by
  unfold patinaNew; dsimp only; repeat' split
  all_goals simp only [patinaPin_pwr, patinaOverflow, State.set_pwr, patinaPush_pwr]
@[simp] theorem patinaNew_jnl (c v d : Nat) (s : State) : (patinaNew c v d s).jnl = s.jnl := by
  unfold patinaNew; dsimp only; repeat' split
  all_goals simp only [patinaPin_jnl, patinaOverflow, State.set_jnl, patinaPush_jnl]
@[simp] theorem patinaNew_cmds (c v d : Nat) (s : State) : (patinaNew c v d s).cmds = s.cmds := by
  unfold patinaNew; dsimp only; repeat' split
  all_goals simp only [patinaPin_cmds, patinaOverflow, State.set_cmds, patinaPush_cmds]
@[simp] theorem patinaNew_deferred (c v d : Nat) (s : State) : (patinaNew c v d s).deferred = s.deferred := by
  unfold patinaNew; dsimp only; repeat' split
  all_goals simp only [patinaPin_deferred, patinaOverflow, State.set_deferred, patinaPush_deferred]
@[simp] theorem patinaNew_out (c v d : Nat) (s : State) : (patinaNew c v d s).out = s.out := by
  unfold patinaNew; dsimp only; repeat' split
  all_goals simp only [patinaPin_out, patinaOverflow, State.set_out, patinaPush_out]
@[simp] theorem patinaNew_pending (c v d : Nat) (s : State) : (patinaNew c v d s).pending = s.pending := by
  unfold patinaNew; dsimp only; repeat' split
  all_goals simp only [patinaPin_pending, patinaOverflow, State.set_pending, patinaPush_pending]

/-! ### Patina: an occurrence -/

@[simp] theorem patina_mem (c v d : Nat) (s : State) : (patina c v d s).mem = s.mem := by
  unfold patina; repeat' split
  all_goals simp [patinaMerge]
@[simp] theorem patina_free (c v d : Nat) (s : State) : (patina c v d s).free = s.free := by
  unfold patina; repeat' split
  all_goals simp [patinaMerge]
@[simp] theorem patina_stk (c v d : Nat) (s : State) : (patina c v d s).stk = s.stk := by
  unfold patina; repeat' split
  all_goals simp [patinaMerge]
@[simp] theorem patina_arm (c v d : Nat) (s : State) : (patina c v d s).arm = s.arm := by
  unfold patina; repeat' split
  all_goals simp [patinaMerge]
@[simp] theorem patina_hif (c v d : Nat) (s : State) : (patina c v d s).hif = s.hif := by
  unfold patina; repeat' split
  all_goals simp [patinaMerge]
@[simp] theorem patina_nch (c v d : Nat) (s : State) : (patina c v d s).nch = s.nch := by
  unfold patina; repeat' split
  all_goals simp [patinaMerge]
@[simp] theorem patina_rng (c v d : Nat) (s : State) : (patina c v d s).rng = s.rng := by
  unfold patina; repeat' split
  all_goals simp [patinaMerge]
@[simp] theorem patina_dma (c v d : Nat) (s : State) : (patina c v d s).dma = s.dma := by
  unfold patina; repeat' split
  all_goals simp [patinaMerge]
@[simp] theorem patina_til (c v d : Nat) (s : State) : (patina c v d s).til = s.til := by
  unfold patina; repeat' split
  all_goals simp [patinaMerge]
@[simp] theorem patina_prs (c v d : Nat) (s : State) : (patina c v d s).prs = s.prs := by
  unfold patina; repeat' split
  all_goals simp [patinaMerge]
@[simp] theorem patina_tbl (c v d : Nat) (s : State) : (patina c v d s).tbl = s.tbl := by
  unfold patina; repeat' split
  all_goals simp [patinaMerge]
@[simp] theorem patina_sch (c v d : Nat) (s : State) : (patina c v d s).sch = s.sch := by
  unfold patina; repeat' split
  all_goals simp [patinaMerge]
@[simp] theorem patina_nvs (c v d : Nat) (s : State) : (patina c v d s).nvs = s.nvs := by
  unfold patina; repeat' split
  all_goals simp [patinaMerge]
@[simp] theorem patina_acc (c v d : Nat) (s : State) : (patina c v d s).acc = s.acc := by
  unfold patina; repeat' split
  all_goals simp [patinaMerge]
@[simp] theorem patina_tlt (c v d : Nat) (s : State) : (patina c v d s).tlt = s.tlt := by
  unfold patina; repeat' split
  all_goals simp [patinaMerge]
@[simp] theorem patina_fab (c v d : Nat) (s : State) : (patina c v d s).fab = s.fab := by
  unfold patina; repeat' split
  all_goals simp [patinaMerge]
@[simp] theorem patina_rgl (c v d : Nat) (s : State) : (patina c v d s).rgl = s.rgl := by
  unfold patina; repeat' split
  all_goals simp [patinaMerge]
@[simp] theorem patina_svc (c v d : Nat) (s : State) : (patina c v d s).svc = s.svc := by
  unfold patina; repeat' split
  all_goals simp [patinaMerge]
@[simp] theorem patina_pwr (c v d : Nat) (s : State) : (patina c v d s).pwr = s.pwr := by
  unfold patina; repeat' split
  all_goals simp [patinaMerge]
@[simp] theorem patina_jnl (c v d : Nat) (s : State) : (patina c v d s).jnl = s.jnl := by
  unfold patina; repeat' split
  all_goals simp [patinaMerge]
@[simp] theorem patina_cmds (c v d : Nat) (s : State) : (patina c v d s).cmds = s.cmds := by
  unfold patina; repeat' split
  all_goals simp [patinaMerge]
@[simp] theorem patina_deferred (c v d : Nat) (s : State) : (patina c v d s).deferred = s.deferred := by
  unfold patina; repeat' split
  all_goals simp [patinaMerge]
@[simp] theorem patina_out (c v d : Nat) (s : State) : (patina c v d s).out = s.out := by
  unfold patina; repeat' split
  all_goals simp [patinaMerge]
@[simp] theorem patina_pending (c v d : Nat) (s : State) : (patina c v d s).pending = s.pending := by
  unfold patina; repeat' split
  all_goals simp [patinaMerge]

/-! ### An access dropped -/

@[simp] theorem accessDropped_mem (a off n : Nat) (s : State) : (accessDropped a off n s).mem = s.mem := by
  simp [accessDropped]
@[simp] theorem accessDropped_free (a off n : Nat) (s : State) : (accessDropped a off n s).free = s.free := by
  simp [accessDropped]
@[simp] theorem accessDropped_stk (a off n : Nat) (s : State) : (accessDropped a off n s).stk = s.stk := by
  simp [accessDropped]
@[simp] theorem accessDropped_arm (a off n : Nat) (s : State) : (accessDropped a off n s).arm = s.arm := by
  simp [accessDropped]
@[simp] theorem accessDropped_hif (a off n : Nat) (s : State) : (accessDropped a off n s).hif = s.hif := by
  simp [accessDropped]
@[simp] theorem accessDropped_nch (a off n : Nat) (s : State) : (accessDropped a off n s).nch = s.nch := by
  simp [accessDropped]
@[simp] theorem accessDropped_rng (a off n : Nat) (s : State) : (accessDropped a off n s).rng = s.rng := by
  simp [accessDropped]
@[simp] theorem accessDropped_dma (a off n : Nat) (s : State) : (accessDropped a off n s).dma = s.dma := by
  simp [accessDropped]
@[simp] theorem accessDropped_til (a off n : Nat) (s : State) : (accessDropped a off n s).til = s.til := by
  simp [accessDropped]
@[simp] theorem accessDropped_prs (a off n : Nat) (s : State) : (accessDropped a off n s).prs = s.prs := by
  simp [accessDropped]
@[simp] theorem accessDropped_tbl (a off n : Nat) (s : State) : (accessDropped a off n s).tbl = s.tbl := by
  simp [accessDropped]
@[simp] theorem accessDropped_sch (a off n : Nat) (s : State) : (accessDropped a off n s).sch = s.sch := by
  simp [accessDropped]
@[simp] theorem accessDropped_nvs (a off n : Nat) (s : State) : (accessDropped a off n s).nvs = s.nvs := by
  simp [accessDropped]
@[simp] theorem accessDropped_acc (a off n : Nat) (s : State) : (accessDropped a off n s).acc = s.acc := by
  simp [accessDropped]
@[simp] theorem accessDropped_tlt (a off n : Nat) (s : State) : (accessDropped a off n s).tlt = s.tlt := by
  simp [accessDropped]
@[simp] theorem accessDropped_fab (a off n : Nat) (s : State) : (accessDropped a off n s).fab = s.fab := by
  simp [accessDropped]
@[simp] theorem accessDropped_rgl (a off n : Nat) (s : State) : (accessDropped a off n s).rgl = s.rgl := by
  simp [accessDropped]
@[simp] theorem accessDropped_svc (a off n : Nat) (s : State) : (accessDropped a off n s).svc = s.svc := by
  simp [accessDropped]
@[simp] theorem accessDropped_pwr (a off n : Nat) (s : State) : (accessDropped a off n s).pwr = s.pwr := by
  simp [accessDropped]
@[simp] theorem accessDropped_jnl (a off n : Nat) (s : State) : (accessDropped a off n s).jnl = s.jnl := by
  simp [accessDropped]
@[simp] theorem accessDropped_cmds (a off n : Nat) (s : State) : (accessDropped a off n s).cmds = s.cmds := by
  simp [accessDropped]
@[simp] theorem accessDropped_deferred (a off n : Nat) (s : State) : (accessDropped a off n s).deferred = s.deferred := by
  simp [accessDropped]
@[simp] theorem accessDropped_out (a off n : Nat) (s : State) : (accessDropped a off n s).out = s.out := by
  simp [accessDropped]
@[simp] theorem accessDropped_pending (a off n : Nat) (s : State) : (accessDropped a off n s).pending = s.pending := by
  simp [accessDropped]

/-! ### A bound violation -/

@[simp] theorem boundViolation_mem (off : Nat) (s : State) : (boundViolation off s).mem = s.mem := by
  unfold boundViolation; dsimp only; split <;> simp
@[simp] theorem boundViolation_free (off : Nat) (s : State) : (boundViolation off s).free = s.free := by
  unfold boundViolation; dsimp only; split <;> simp
@[simp] theorem boundViolation_stk (off : Nat) (s : State) : (boundViolation off s).stk = s.stk := by
  unfold boundViolation; dsimp only; split <;> simp
@[simp] theorem boundViolation_arm (off : Nat) (s : State) : (boundViolation off s).arm = s.arm := by
  unfold boundViolation; dsimp only; split <;> simp
@[simp] theorem boundViolation_hif (off : Nat) (s : State) : (boundViolation off s).hif = s.hif := by
  unfold boundViolation; dsimp only; split <;> simp
@[simp] theorem boundViolation_nch (off : Nat) (s : State) : (boundViolation off s).nch = s.nch := by
  unfold boundViolation; dsimp only; split <;> simp
@[simp] theorem boundViolation_rng (off : Nat) (s : State) : (boundViolation off s).rng = s.rng := by
  unfold boundViolation; dsimp only; split <;> simp
@[simp] theorem boundViolation_dma (off : Nat) (s : State) : (boundViolation off s).dma = s.dma := by
  unfold boundViolation; dsimp only; split <;> simp
@[simp] theorem boundViolation_til (off : Nat) (s : State) : (boundViolation off s).til = s.til := by
  unfold boundViolation; dsimp only; split <;> simp
@[simp] theorem boundViolation_prs (off : Nat) (s : State) : (boundViolation off s).prs = s.prs := by
  unfold boundViolation; dsimp only; split <;> simp
@[simp] theorem boundViolation_tbl (off : Nat) (s : State) : (boundViolation off s).tbl = s.tbl := by
  unfold boundViolation; dsimp only; split <;> simp
@[simp] theorem boundViolation_sch (off : Nat) (s : State) : (boundViolation off s).sch = s.sch := by
  unfold boundViolation; dsimp only; split <;> simp
@[simp] theorem boundViolation_nvs (off : Nat) (s : State) : (boundViolation off s).nvs = s.nvs := by
  unfold boundViolation; dsimp only; split <;> simp
@[simp] theorem boundViolation_acc (off : Nat) (s : State) : (boundViolation off s).acc = s.acc := by
  unfold boundViolation; dsimp only; split <;> simp
@[simp] theorem boundViolation_tlt (off : Nat) (s : State) : (boundViolation off s).tlt = s.tlt := by
  unfold boundViolation; dsimp only; split <;> simp
@[simp] theorem boundViolation_fab (off : Nat) (s : State) : (boundViolation off s).fab = s.fab := by
  unfold boundViolation; dsimp only; split <;> simp
@[simp] theorem boundViolation_rgl (off : Nat) (s : State) : (boundViolation off s).rgl = s.rgl := by
  unfold boundViolation; dsimp only; split <;> simp
@[simp] theorem boundViolation_svc (off : Nat) (s : State) : (boundViolation off s).svc = s.svc := by
  unfold boundViolation; dsimp only; split <;> simp
@[simp] theorem boundViolation_pwr (off : Nat) (s : State) : (boundViolation off s).pwr = s.pwr := by
  unfold boundViolation; dsimp only; split <;> simp
@[simp] theorem boundViolation_jnl (off : Nat) (s : State) : (boundViolation off s).jnl = s.jnl := by
  unfold boundViolation; dsimp only; split <;> simp
@[simp] theorem boundViolation_cmds (off : Nat) (s : State) : (boundViolation off s).cmds = s.cmds := by
  unfold boundViolation; dsimp only; split <;> simp
@[simp] theorem boundViolation_deferred (off : Nat) (s : State) : (boundViolation off s).deferred = s.deferred := by
  unfold boundViolation; dsimp only; split <;> simp
@[simp] theorem boundViolation_out (off : Nat) (s : State) : (boundViolation off s).out = s.out := by
  unfold boundViolation; dsimp only; split <;> simp
@[simp] theorem boundViolation_pending (off : Nat) (s : State) : (boundViolation off s).pending = s.pending := by
  unfold boundViolation; dsimp only; split <;> simp

/-! ### A class B counter -/

@[simp] theorem countAt_mem (f : Field) (i off n : Nat) (s : State) : (countAt f i off n s).mem = s.mem := by
  unfold countAt; dsimp only; split <;> simp
@[simp] theorem countAt_free (f : Field) (i off n : Nat) (s : State) : (countAt f i off n s).free = s.free := by
  unfold countAt; dsimp only; split <;> simp
@[simp] theorem countAt_stk (f : Field) (i off n : Nat) (s : State) : (countAt f i off n s).stk = s.stk := by
  unfold countAt; dsimp only; split <;> simp
@[simp] theorem countAt_arm (f : Field) (i off n : Nat) (s : State) : (countAt f i off n s).arm = s.arm := by
  unfold countAt; dsimp only; split <;> simp
@[simp] theorem countAt_hif (f : Field) (i off n : Nat) (s : State) : (countAt f i off n s).hif = s.hif := by
  unfold countAt; dsimp only; split <;> simp
@[simp] theorem countAt_nch (f : Field) (i off n : Nat) (s : State) : (countAt f i off n s).nch = s.nch := by
  unfold countAt; dsimp only; split <;> simp
@[simp] theorem countAt_rng (f : Field) (i off n : Nat) (s : State) : (countAt f i off n s).rng = s.rng := by
  unfold countAt; dsimp only; split <;> simp
@[simp] theorem countAt_dma (f : Field) (i off n : Nat) (s : State) : (countAt f i off n s).dma = s.dma := by
  unfold countAt; dsimp only; split <;> simp
@[simp] theorem countAt_til (f : Field) (i off n : Nat) (s : State) : (countAt f i off n s).til = s.til := by
  unfold countAt; dsimp only; split <;> simp
@[simp] theorem countAt_prs (f : Field) (i off n : Nat) (s : State) : (countAt f i off n s).prs = s.prs := by
  unfold countAt; dsimp only; split <;> simp
@[simp] theorem countAt_tbl (f : Field) (i off n : Nat) (s : State) : (countAt f i off n s).tbl = s.tbl := by
  unfold countAt; dsimp only; split <;> simp
@[simp] theorem countAt_sch (f : Field) (i off n : Nat) (s : State) : (countAt f i off n s).sch = s.sch := by
  unfold countAt; dsimp only; split <;> simp
@[simp] theorem countAt_nvs (f : Field) (i off n : Nat) (s : State) : (countAt f i off n s).nvs = s.nvs := by
  unfold countAt; dsimp only; split <;> simp
@[simp] theorem countAt_acc (f : Field) (i off n : Nat) (s : State) : (countAt f i off n s).acc = s.acc := by
  unfold countAt; dsimp only; split <;> simp
@[simp] theorem countAt_tlt (f : Field) (i off n : Nat) (s : State) : (countAt f i off n s).tlt = s.tlt := by
  unfold countAt; dsimp only; split <;> simp
@[simp] theorem countAt_fab (f : Field) (i off n : Nat) (s : State) : (countAt f i off n s).fab = s.fab := by
  unfold countAt; dsimp only; split <;> simp
@[simp] theorem countAt_rgl (f : Field) (i off n : Nat) (s : State) : (countAt f i off n s).rgl = s.rgl := by
  unfold countAt; dsimp only; split <;> simp
@[simp] theorem countAt_svc (f : Field) (i off n : Nat) (s : State) : (countAt f i off n s).svc = s.svc := by
  unfold countAt; dsimp only; split <;> simp
@[simp] theorem countAt_pwr (f : Field) (i off n : Nat) (s : State) : (countAt f i off n s).pwr = s.pwr := by
  unfold countAt; dsimp only; split <;> simp
@[simp] theorem countAt_jnl (f : Field) (i off n : Nat) (s : State) : (countAt f i off n s).jnl = s.jnl := by
  unfold countAt; dsimp only; split <;> simp
@[simp] theorem countAt_pat (f : Field) (i off n : Nat) (s : State) : (countAt f i off n s).pat = s.pat := by
  unfold countAt; dsimp only; split <;> simp
@[simp] theorem countAt_cmds (f : Field) (i off n : Nat) (s : State) : (countAt f i off n s).cmds = s.cmds := by
  unfold countAt; dsimp only; split <;> simp
@[simp] theorem countAt_deferred (f : Field) (i off n : Nat) (s : State) : (countAt f i off n s).deferred = s.deferred := by
  unfold countAt; dsimp only; split <;> simp
@[simp] theorem countAt_out (f : Field) (i off n : Nat) (s : State) : (countAt f i off n s).out = s.out := by
  unfold countAt; dsimp only; split <;> simp
@[simp] theorem countAt_pending (f : Field) (i off n : Nat) (s : State) : (countAt f i off n s).pending = s.pending := by
  unfold countAt; dsimp only; split <;> simp

/-! ### A class B counter of an array -/

@[simp] theorem countI_mem (f : Field) (i : Nat) (s : State) : (countI f i s).mem = s.mem := by
  simp [countI]
@[simp] theorem countI_free (f : Field) (i : Nat) (s : State) : (countI f i s).free = s.free := by
  simp [countI]
@[simp] theorem countI_stk (f : Field) (i : Nat) (s : State) : (countI f i s).stk = s.stk := by
  simp [countI]
@[simp] theorem countI_arm (f : Field) (i : Nat) (s : State) : (countI f i s).arm = s.arm := by
  simp [countI]
@[simp] theorem countI_hif (f : Field) (i : Nat) (s : State) : (countI f i s).hif = s.hif := by
  simp [countI]
@[simp] theorem countI_nch (f : Field) (i : Nat) (s : State) : (countI f i s).nch = s.nch := by
  simp [countI]
@[simp] theorem countI_rng (f : Field) (i : Nat) (s : State) : (countI f i s).rng = s.rng := by
  simp [countI]
@[simp] theorem countI_dma (f : Field) (i : Nat) (s : State) : (countI f i s).dma = s.dma := by
  simp [countI]
@[simp] theorem countI_til (f : Field) (i : Nat) (s : State) : (countI f i s).til = s.til := by
  simp [countI]
@[simp] theorem countI_prs (f : Field) (i : Nat) (s : State) : (countI f i s).prs = s.prs := by
  simp [countI]
@[simp] theorem countI_tbl (f : Field) (i : Nat) (s : State) : (countI f i s).tbl = s.tbl := by
  simp [countI]
@[simp] theorem countI_sch (f : Field) (i : Nat) (s : State) : (countI f i s).sch = s.sch := by
  simp [countI]
@[simp] theorem countI_nvs (f : Field) (i : Nat) (s : State) : (countI f i s).nvs = s.nvs := by
  simp [countI]
@[simp] theorem countI_acc (f : Field) (i : Nat) (s : State) : (countI f i s).acc = s.acc := by
  simp [countI]
@[simp] theorem countI_tlt (f : Field) (i : Nat) (s : State) : (countI f i s).tlt = s.tlt := by
  simp [countI]
@[simp] theorem countI_fab (f : Field) (i : Nat) (s : State) : (countI f i s).fab = s.fab := by
  simp [countI]
@[simp] theorem countI_rgl (f : Field) (i : Nat) (s : State) : (countI f i s).rgl = s.rgl := by
  simp [countI]
@[simp] theorem countI_svc (f : Field) (i : Nat) (s : State) : (countI f i s).svc = s.svc := by
  simp [countI]
@[simp] theorem countI_pwr (f : Field) (i : Nat) (s : State) : (countI f i s).pwr = s.pwr := by
  simp [countI]
@[simp] theorem countI_jnl (f : Field) (i : Nat) (s : State) : (countI f i s).jnl = s.jnl := by
  simp [countI]
@[simp] theorem countI_pat (f : Field) (i : Nat) (s : State) : (countI f i s).pat = s.pat := by
  simp [countI]
@[simp] theorem countI_cmds (f : Field) (i : Nat) (s : State) : (countI f i s).cmds = s.cmds := by
  simp [countI]
@[simp] theorem countI_deferred (f : Field) (i : Nat) (s : State) : (countI f i s).deferred = s.deferred := by
  simp [countI]
@[simp] theorem countI_out (f : Field) (i : Nat) (s : State) : (countI f i s).out = s.out := by
  simp [countI]
@[simp] theorem countI_pending (f : Field) (i : Nat) (s : State) : (countI f i s).pending = s.pending := by
  simp [countI]

/-! ### A class B counter that stands alone -/

@[simp] theorem count_mem (f : Field) (s : State) : (count f s).mem = s.mem := by
  simp [count]
@[simp] theorem count_free (f : Field) (s : State) : (count f s).free = s.free := by
  simp [count]
@[simp] theorem count_stk (f : Field) (s : State) : (count f s).stk = s.stk := by
  simp [count]
@[simp] theorem count_arm (f : Field) (s : State) : (count f s).arm = s.arm := by
  simp [count]
@[simp] theorem count_hif (f : Field) (s : State) : (count f s).hif = s.hif := by
  simp [count]
@[simp] theorem count_nch (f : Field) (s : State) : (count f s).nch = s.nch := by
  simp [count]
@[simp] theorem count_rng (f : Field) (s : State) : (count f s).rng = s.rng := by
  simp [count]
@[simp] theorem count_dma (f : Field) (s : State) : (count f s).dma = s.dma := by
  simp [count]
@[simp] theorem count_til (f : Field) (s : State) : (count f s).til = s.til := by
  simp [count]
@[simp] theorem count_prs (f : Field) (s : State) : (count f s).prs = s.prs := by
  simp [count]
@[simp] theorem count_tbl (f : Field) (s : State) : (count f s).tbl = s.tbl := by
  simp [count]
@[simp] theorem count_sch (f : Field) (s : State) : (count f s).sch = s.sch := by
  simp [count]
@[simp] theorem count_nvs (f : Field) (s : State) : (count f s).nvs = s.nvs := by
  simp [count]
@[simp] theorem count_acc (f : Field) (s : State) : (count f s).acc = s.acc := by
  simp [count]
@[simp] theorem count_tlt (f : Field) (s : State) : (count f s).tlt = s.tlt := by
  simp [count]
@[simp] theorem count_fab (f : Field) (s : State) : (count f s).fab = s.fab := by
  simp [count]
@[simp] theorem count_rgl (f : Field) (s : State) : (count f s).rgl = s.rgl := by
  simp [count]
@[simp] theorem count_svc (f : Field) (s : State) : (count f s).svc = s.svc := by
  simp [count]
@[simp] theorem count_pwr (f : Field) (s : State) : (count f s).pwr = s.pwr := by
  simp [count]
@[simp] theorem count_jnl (f : Field) (s : State) : (count f s).jnl = s.jnl := by
  simp [count]
@[simp] theorem count_pat (f : Field) (s : State) : (count f s).pat = s.pat := by
  simp [count]
@[simp] theorem count_cmds (f : Field) (s : State) : (count f s).cmds = s.cmds := by
  simp [count]
@[simp] theorem count_deferred (f : Field) (s : State) : (count f s).deferred = s.deferred := by
  simp [count]
@[simp] theorem count_out (f : Field) (s : State) : (count f s).out = s.out := by
  simp [count]
@[simp] theorem count_pending (f : Field) (s : State) : (count f s).pending = s.pending := by
  simp [count]

/-! ### A class A counter -/

@[simp] theorem addI_mem (f : Field) (i n : Nat) (s : State) : (addI f i n s).mem = s.mem := by
  simp [addI]
@[simp] theorem addI_free (f : Field) (i n : Nat) (s : State) : (addI f i n s).free = s.free := by
  simp [addI]
@[simp] theorem addI_stk (f : Field) (i n : Nat) (s : State) : (addI f i n s).stk = s.stk := by
  simp [addI]
@[simp] theorem addI_arm (f : Field) (i n : Nat) (s : State) : (addI f i n s).arm = s.arm := by
  simp [addI]
@[simp] theorem addI_hif (f : Field) (i n : Nat) (s : State) : (addI f i n s).hif = s.hif := by
  simp [addI]
@[simp] theorem addI_nch (f : Field) (i n : Nat) (s : State) : (addI f i n s).nch = s.nch := by
  simp [addI]
@[simp] theorem addI_rng (f : Field) (i n : Nat) (s : State) : (addI f i n s).rng = s.rng := by
  simp [addI]
@[simp] theorem addI_dma (f : Field) (i n : Nat) (s : State) : (addI f i n s).dma = s.dma := by
  simp [addI]
@[simp] theorem addI_til (f : Field) (i n : Nat) (s : State) : (addI f i n s).til = s.til := by
  simp [addI]
@[simp] theorem addI_prs (f : Field) (i n : Nat) (s : State) : (addI f i n s).prs = s.prs := by
  simp [addI]
@[simp] theorem addI_tbl (f : Field) (i n : Nat) (s : State) : (addI f i n s).tbl = s.tbl := by
  simp [addI]
@[simp] theorem addI_sch (f : Field) (i n : Nat) (s : State) : (addI f i n s).sch = s.sch := by
  simp [addI]
@[simp] theorem addI_nvs (f : Field) (i n : Nat) (s : State) : (addI f i n s).nvs = s.nvs := by
  simp [addI]
@[simp] theorem addI_acc (f : Field) (i n : Nat) (s : State) : (addI f i n s).acc = s.acc := by
  simp [addI]
@[simp] theorem addI_tlt (f : Field) (i n : Nat) (s : State) : (addI f i n s).tlt = s.tlt := by
  simp [addI]
@[simp] theorem addI_fab (f : Field) (i n : Nat) (s : State) : (addI f i n s).fab = s.fab := by
  simp [addI]
@[simp] theorem addI_rgl (f : Field) (i n : Nat) (s : State) : (addI f i n s).rgl = s.rgl := by
  simp [addI]
@[simp] theorem addI_svc (f : Field) (i n : Nat) (s : State) : (addI f i n s).svc = s.svc := by
  simp [addI]
@[simp] theorem addI_pwr (f : Field) (i n : Nat) (s : State) : (addI f i n s).pwr = s.pwr := by
  simp [addI]
@[simp] theorem addI_jnl (f : Field) (i n : Nat) (s : State) : (addI f i n s).jnl = s.jnl := by
  simp [addI]
@[simp] theorem addI_pat (f : Field) (i n : Nat) (s : State) : (addI f i n s).pat = s.pat := by
  simp [addI]
@[simp] theorem addI_cmds (f : Field) (i n : Nat) (s : State) : (addI f i n s).cmds = s.cmds := by
  simp [addI]
@[simp] theorem addI_deferred (f : Field) (i n : Nat) (s : State) : (addI f i n s).deferred = s.deferred := by
  simp [addI]
@[simp] theorem addI_events (f : Field) (i n : Nat) (s : State) : (addI f i n s).events = s.events := by
  simp [addI]
@[simp] theorem addI_out (f : Field) (i n : Nat) (s : State) : (addI f i n s).out = s.out := by
  simp [addI]
@[simp] theorem addI_pending (f : Field) (i n : Nat) (s : State) : (addI f i n s).pending = s.pending := by
  simp [addI]

/-! ### Journal: an entry put -/

@[simp] theorem jPut_mem (e : JEntry) (s : State) : (jPut e s).mem = s.mem := by
  simp only [jPut, State.set_mem, State.updJnl_mem]
@[simp] theorem jPut_free (e : JEntry) (s : State) : (jPut e s).free = s.free := by
  simp only [jPut, State.set_free, State.updJnl_free]
@[simp] theorem jPut_stk (e : JEntry) (s : State) : (jPut e s).stk = s.stk := by
  simp only [jPut, State.set_stk, State.updJnl_stk]
@[simp] theorem jPut_arm (e : JEntry) (s : State) : (jPut e s).arm = s.arm := by
  simp only [jPut, State.set_arm, State.updJnl_arm]
@[simp] theorem jPut_hif (e : JEntry) (s : State) : (jPut e s).hif = s.hif := by
  simp only [jPut, State.set_hif, State.updJnl_hif]
@[simp] theorem jPut_nch (e : JEntry) (s : State) : (jPut e s).nch = s.nch := by
  simp only [jPut, State.set_nch, State.updJnl_nch]
@[simp] theorem jPut_rng (e : JEntry) (s : State) : (jPut e s).rng = s.rng := by
  simp only [jPut, State.set_rng, State.updJnl_rng]
@[simp] theorem jPut_dma (e : JEntry) (s : State) : (jPut e s).dma = s.dma := by
  simp only [jPut, State.set_dma, State.updJnl_dma]
@[simp] theorem jPut_til (e : JEntry) (s : State) : (jPut e s).til = s.til := by
  simp only [jPut, State.set_til, State.updJnl_til]
@[simp] theorem jPut_prs (e : JEntry) (s : State) : (jPut e s).prs = s.prs := by
  simp only [jPut, State.set_prs, State.updJnl_prs]
@[simp] theorem jPut_tbl (e : JEntry) (s : State) : (jPut e s).tbl = s.tbl := by
  simp only [jPut, State.set_tbl, State.updJnl_tbl]
@[simp] theorem jPut_sch (e : JEntry) (s : State) : (jPut e s).sch = s.sch := by
  simp only [jPut, State.set_sch, State.updJnl_sch]
@[simp] theorem jPut_nvs (e : JEntry) (s : State) : (jPut e s).nvs = s.nvs := by
  simp only [jPut, State.set_nvs, State.updJnl_nvs]
@[simp] theorem jPut_acc (e : JEntry) (s : State) : (jPut e s).acc = s.acc := by
  simp only [jPut, State.set_acc, State.updJnl_acc]
@[simp] theorem jPut_tlt (e : JEntry) (s : State) : (jPut e s).tlt = s.tlt := by
  simp only [jPut, State.set_tlt, State.updJnl_tlt]
@[simp] theorem jPut_fab (e : JEntry) (s : State) : (jPut e s).fab = s.fab := by
  simp only [jPut, State.set_fab, State.updJnl_fab]
@[simp] theorem jPut_rgl (e : JEntry) (s : State) : (jPut e s).rgl = s.rgl := by
  simp only [jPut, State.set_rgl, State.updJnl_rgl]
@[simp] theorem jPut_svc (e : JEntry) (s : State) : (jPut e s).svc = s.svc := by
  simp only [jPut, State.set_svc, State.updJnl_svc]
@[simp] theorem jPut_pwr (e : JEntry) (s : State) : (jPut e s).pwr = s.pwr := by
  simp only [jPut, State.set_pwr, State.updJnl_pwr]
@[simp] theorem jPut_pat (e : JEntry) (s : State) : (jPut e s).pat = s.pat := by
  simp only [jPut, State.set_pat, State.updJnl_pat]
@[simp] theorem jPut_cmds (e : JEntry) (s : State) : (jPut e s).cmds = s.cmds := by
  simp only [jPut, State.set_cmds, State.updJnl_cmds]
@[simp] theorem jPut_deferred (e : JEntry) (s : State) : (jPut e s).deferred = s.deferred := by
  simp only [jPut, State.set_deferred, State.updJnl_deferred]
@[simp] theorem jPut_events (e : JEntry) (s : State) : (jPut e s).events = s.events := by
  simp only [jPut, State.set_events, State.updJnl_events]
@[simp] theorem jPut_out (e : JEntry) (s : State) : (jPut e s).out = s.out := by
  simp only [jPut, State.set_out, State.updJnl_out]
@[simp] theorem jPut_pending (e : JEntry) (s : State) : (jPut e s).pending = s.pending := by
  simp only [jPut, State.set_pending, State.updJnl_pending]

/-! ### Journal: a checkpoint -/

@[simp] theorem jCheckpoint_mem (s : State) : (jCheckpoint s).mem = s.mem := by
  simp [jCheckpoint]
@[simp] theorem jCheckpoint_free (s : State) : (jCheckpoint s).free = s.free := by
  simp [jCheckpoint]
@[simp] theorem jCheckpoint_stk (s : State) : (jCheckpoint s).stk = s.stk := by
  simp [jCheckpoint]
@[simp] theorem jCheckpoint_arm (s : State) : (jCheckpoint s).arm = s.arm := by
  simp [jCheckpoint]
@[simp] theorem jCheckpoint_hif (s : State) : (jCheckpoint s).hif = s.hif := by
  simp [jCheckpoint]
@[simp] theorem jCheckpoint_nch (s : State) : (jCheckpoint s).nch = s.nch := by
  simp [jCheckpoint]
@[simp] theorem jCheckpoint_rng (s : State) : (jCheckpoint s).rng = s.rng := by
  simp [jCheckpoint]
@[simp] theorem jCheckpoint_dma (s : State) : (jCheckpoint s).dma = s.dma := by
  simp [jCheckpoint]
@[simp] theorem jCheckpoint_til (s : State) : (jCheckpoint s).til = s.til := by
  simp [jCheckpoint]
@[simp] theorem jCheckpoint_prs (s : State) : (jCheckpoint s).prs = s.prs := by
  simp [jCheckpoint]
@[simp] theorem jCheckpoint_tbl (s : State) : (jCheckpoint s).tbl = s.tbl := by
  simp [jCheckpoint]
@[simp] theorem jCheckpoint_sch (s : State) : (jCheckpoint s).sch = s.sch := by
  simp [jCheckpoint]
@[simp] theorem jCheckpoint_nvs (s : State) : (jCheckpoint s).nvs = s.nvs := by
  simp [jCheckpoint]
@[simp] theorem jCheckpoint_acc (s : State) : (jCheckpoint s).acc = s.acc := by
  simp [jCheckpoint]
@[simp] theorem jCheckpoint_tlt (s : State) : (jCheckpoint s).tlt = s.tlt := by
  simp [jCheckpoint]
@[simp] theorem jCheckpoint_fab (s : State) : (jCheckpoint s).fab = s.fab := by
  simp [jCheckpoint]
@[simp] theorem jCheckpoint_rgl (s : State) : (jCheckpoint s).rgl = s.rgl := by
  simp [jCheckpoint]
@[simp] theorem jCheckpoint_svc (s : State) : (jCheckpoint s).svc = s.svc := by
  simp [jCheckpoint]
@[simp] theorem jCheckpoint_pwr (s : State) : (jCheckpoint s).pwr = s.pwr := by
  simp [jCheckpoint]
@[simp] theorem jCheckpoint_pat (s : State) : (jCheckpoint s).pat = s.pat := by
  simp [jCheckpoint]
@[simp] theorem jCheckpoint_cmds (s : State) : (jCheckpoint s).cmds = s.cmds := by
  simp [jCheckpoint]
@[simp] theorem jCheckpoint_deferred (s : State) : (jCheckpoint s).deferred = s.deferred := by
  simp [jCheckpoint]
@[simp] theorem jCheckpoint_events (s : State) : (jCheckpoint s).events = s.events := by
  simp [jCheckpoint]
@[simp] theorem jCheckpoint_out (s : State) : (jCheckpoint s).out = s.out := by
  simp [jCheckpoint]
@[simp] theorem jCheckpoint_pending (s : State) : (jCheckpoint s).pending = s.pending := by
  simp [jCheckpoint]

/-! ### Journal: what its growth raises -/

@[simp] theorem jPace_mem (s : State) : (jPace s).mem = s.mem := by
  simp only [jPace]
  repeat' split
  all_goals simp only [State.set_mem, raise_mem, State.updJnl_mem]
@[simp] theorem jPace_free (s : State) : (jPace s).free = s.free := by
  simp only [jPace]
  repeat' split
  all_goals simp only [State.set_free, raise_free, State.updJnl_free]
@[simp] theorem jPace_stk (s : State) : (jPace s).stk = s.stk := by
  simp only [jPace]
  repeat' split
  all_goals simp only [State.set_stk, raise_stk, State.updJnl_stk]
@[simp] theorem jPace_arm (s : State) : (jPace s).arm = s.arm := by
  simp only [jPace]
  repeat' split
  all_goals simp only [State.set_arm, raise_arm, State.updJnl_arm]
@[simp] theorem jPace_hif (s : State) : (jPace s).hif = s.hif := by
  simp only [jPace]
  repeat' split
  all_goals simp only [State.set_hif, raise_hif, State.updJnl_hif]
@[simp] theorem jPace_nch (s : State) : (jPace s).nch = s.nch := by
  simp only [jPace]
  repeat' split
  all_goals simp only [State.set_nch, raise_nch, State.updJnl_nch]
@[simp] theorem jPace_rng (s : State) : (jPace s).rng = s.rng := by
  simp only [jPace]
  repeat' split
  all_goals simp only [State.set_rng, raise_rng, State.updJnl_rng]
@[simp] theorem jPace_dma (s : State) : (jPace s).dma = s.dma := by
  simp only [jPace]
  repeat' split
  all_goals simp only [State.set_dma, raise_dma, State.updJnl_dma]
@[simp] theorem jPace_til (s : State) : (jPace s).til = s.til := by
  simp only [jPace]
  repeat' split
  all_goals simp only [State.set_til, raise_til, State.updJnl_til]
@[simp] theorem jPace_prs (s : State) : (jPace s).prs = s.prs := by
  simp only [jPace]
  repeat' split
  all_goals simp only [State.set_prs, raise_prs, State.updJnl_prs]
@[simp] theorem jPace_tbl (s : State) : (jPace s).tbl = s.tbl := by
  simp only [jPace]
  repeat' split
  all_goals simp only [State.set_tbl, raise_tbl, State.updJnl_tbl]
@[simp] theorem jPace_sch (s : State) : (jPace s).sch = s.sch := by
  simp only [jPace]
  repeat' split
  all_goals simp only [State.set_sch, raise_sch, State.updJnl_sch]
@[simp] theorem jPace_nvs (s : State) : (jPace s).nvs = s.nvs := by
  simp only [jPace]
  repeat' split
  all_goals simp only [State.set_nvs, raise_nvs, State.updJnl_nvs]
@[simp] theorem jPace_acc (s : State) : (jPace s).acc = s.acc := by
  simp only [jPace]
  repeat' split
  all_goals simp only [State.set_acc, raise_acc, State.updJnl_acc]
@[simp] theorem jPace_tlt (s : State) : (jPace s).tlt = s.tlt := by
  simp only [jPace]
  repeat' split
  all_goals simp only [State.set_tlt, raise_tlt, State.updJnl_tlt]
@[simp] theorem jPace_fab (s : State) : (jPace s).fab = s.fab := by
  simp only [jPace]
  repeat' split
  all_goals simp only [State.set_fab, raise_fab, State.updJnl_fab]
@[simp] theorem jPace_rgl (s : State) : (jPace s).rgl = s.rgl := by
  simp only [jPace]
  repeat' split
  all_goals simp only [State.set_rgl, raise_rgl, State.updJnl_rgl]
@[simp] theorem jPace_svc (s : State) : (jPace s).svc = s.svc := by
  simp only [jPace]
  repeat' split
  all_goals simp only [State.set_svc, raise_svc, State.updJnl_svc]
@[simp] theorem jPace_pwr (s : State) : (jPace s).pwr = s.pwr := by
  simp only [jPace]
  repeat' split
  all_goals simp only [State.set_pwr, raise_pwr, State.updJnl_pwr]
@[simp] theorem jPace_pat (s : State) : (jPace s).pat = s.pat := by
  simp only [jPace]
  repeat' split
  all_goals simp only [State.set_pat, raise_pat, State.updJnl_pat]
@[simp] theorem jPace_cmds (s : State) : (jPace s).cmds = s.cmds := by
  simp only [jPace]
  repeat' split
  all_goals simp only [State.set_cmds, raise_cmds, State.updJnl_cmds]
@[simp] theorem jPace_deferred (s : State) : (jPace s).deferred = s.deferred := by
  simp only [jPace]
  repeat' split
  all_goals simp only [State.set_deferred, raise_deferred, State.updJnl_deferred]
@[simp] theorem jPace_out (s : State) : (jPace s).out = s.out := by
  simp only [jPace]
  repeat' split
  all_goals simp only [State.set_out, raise_out, State.updJnl_out]
@[simp] theorem jPace_pending (s : State) : (jPace s).pending = s.pending := by
  simp only [jPace]
  repeat' split
  all_goals simp only [State.set_pending, raise_pending, State.updJnl_pending]

/-! ### Journal: an entry -/

@[simp] theorem jEntry_mem (e : JEntry) (s : State) : (jEntry e s).mem = s.mem := by
  simp only [jEntry]
  split <;> simp
@[simp] theorem jEntry_free (e : JEntry) (s : State) : (jEntry e s).free = s.free := by
  simp only [jEntry]
  split <;> simp
@[simp] theorem jEntry_stk (e : JEntry) (s : State) : (jEntry e s).stk = s.stk := by
  simp only [jEntry]
  split <;> simp
@[simp] theorem jEntry_arm (e : JEntry) (s : State) : (jEntry e s).arm = s.arm := by
  simp only [jEntry]
  split <;> simp
@[simp] theorem jEntry_hif (e : JEntry) (s : State) : (jEntry e s).hif = s.hif := by
  simp only [jEntry]
  split <;> simp
@[simp] theorem jEntry_nch (e : JEntry) (s : State) : (jEntry e s).nch = s.nch := by
  simp only [jEntry]
  split <;> simp
@[simp] theorem jEntry_rng (e : JEntry) (s : State) : (jEntry e s).rng = s.rng := by
  simp only [jEntry]
  split <;> simp
@[simp] theorem jEntry_dma (e : JEntry) (s : State) : (jEntry e s).dma = s.dma := by
  simp only [jEntry]
  split <;> simp
@[simp] theorem jEntry_til (e : JEntry) (s : State) : (jEntry e s).til = s.til := by
  simp only [jEntry]
  split <;> simp
@[simp] theorem jEntry_prs (e : JEntry) (s : State) : (jEntry e s).prs = s.prs := by
  simp only [jEntry]
  split <;> simp
@[simp] theorem jEntry_tbl (e : JEntry) (s : State) : (jEntry e s).tbl = s.tbl := by
  simp only [jEntry]
  split <;> simp
@[simp] theorem jEntry_sch (e : JEntry) (s : State) : (jEntry e s).sch = s.sch := by
  simp only [jEntry]
  split <;> simp
@[simp] theorem jEntry_nvs (e : JEntry) (s : State) : (jEntry e s).nvs = s.nvs := by
  simp only [jEntry]
  split <;> simp
@[simp] theorem jEntry_acc (e : JEntry) (s : State) : (jEntry e s).acc = s.acc := by
  simp only [jEntry]
  split <;> simp
@[simp] theorem jEntry_tlt (e : JEntry) (s : State) : (jEntry e s).tlt = s.tlt := by
  simp only [jEntry]
  split <;> simp
@[simp] theorem jEntry_fab (e : JEntry) (s : State) : (jEntry e s).fab = s.fab := by
  simp only [jEntry]
  split <;> simp
@[simp] theorem jEntry_rgl (e : JEntry) (s : State) : (jEntry e s).rgl = s.rgl := by
  simp only [jEntry]
  split <;> simp
@[simp] theorem jEntry_svc (e : JEntry) (s : State) : (jEntry e s).svc = s.svc := by
  simp only [jEntry]
  split <;> simp
@[simp] theorem jEntry_pwr (e : JEntry) (s : State) : (jEntry e s).pwr = s.pwr := by
  simp only [jEntry]
  split <;> simp
@[simp] theorem jEntry_pat (e : JEntry) (s : State) : (jEntry e s).pat = s.pat := by
  simp only [jEntry]
  split <;> simp
@[simp] theorem jEntry_cmds (e : JEntry) (s : State) : (jEntry e s).cmds = s.cmds := by
  simp only [jEntry]
  split <;> simp
@[simp] theorem jEntry_deferred (e : JEntry) (s : State) : (jEntry e s).deferred = s.deferred := by
  simp only [jEntry]
  split <;> simp
@[simp] theorem jEntry_out (e : JEntry) (s : State) : (jEntry e s).out = s.out := by
  simp only [jEntry]
  split <;> simp
@[simp] theorem jEntry_pending (e : JEntry) (s : State) : (jEntry e s).pending = s.pending := by
  simp only [jEntry]
  split <;> simp

/-! ### Journal: a record -/

@[simp] theorem jRecord_mem (e : JEntry) (l : List Nat) (s : State) : (jRecord e l s).mem = s.mem := by
  induction l generalizing s with
  | nil => rfl
  | cons b t ih => cases t with
    | nil => simp [jRecord]
    | cons c u => rw [jRecord, ih, jEntry_mem]; simp
@[simp] theorem jRecord_free (e : JEntry) (l : List Nat) (s : State) : (jRecord e l s).free = s.free := by
  induction l generalizing s with
  | nil => rfl
  | cons b t ih => cases t with
    | nil => simp [jRecord]
    | cons c u => rw [jRecord, ih, jEntry_free]; simp
@[simp] theorem jRecord_stk (e : JEntry) (l : List Nat) (s : State) : (jRecord e l s).stk = s.stk := by
  induction l generalizing s with
  | nil => rfl
  | cons b t ih => cases t with
    | nil => simp [jRecord]
    | cons c u => rw [jRecord, ih, jEntry_stk]; simp
@[simp] theorem jRecord_arm (e : JEntry) (l : List Nat) (s : State) : (jRecord e l s).arm = s.arm := by
  induction l generalizing s with
  | nil => rfl
  | cons b t ih => cases t with
    | nil => simp [jRecord]
    | cons c u => rw [jRecord, ih, jEntry_arm]; simp
@[simp] theorem jRecord_hif (e : JEntry) (l : List Nat) (s : State) : (jRecord e l s).hif = s.hif := by
  induction l generalizing s with
  | nil => rfl
  | cons b t ih => cases t with
    | nil => simp [jRecord]
    | cons c u => rw [jRecord, ih, jEntry_hif]; simp
@[simp] theorem jRecord_nch (e : JEntry) (l : List Nat) (s : State) : (jRecord e l s).nch = s.nch := by
  induction l generalizing s with
  | nil => rfl
  | cons b t ih => cases t with
    | nil => simp [jRecord]
    | cons c u => rw [jRecord, ih, jEntry_nch]; simp
@[simp] theorem jRecord_rng (e : JEntry) (l : List Nat) (s : State) : (jRecord e l s).rng = s.rng := by
  induction l generalizing s with
  | nil => rfl
  | cons b t ih => cases t with
    | nil => simp [jRecord]
    | cons c u => rw [jRecord, ih, jEntry_rng]; simp
@[simp] theorem jRecord_dma (e : JEntry) (l : List Nat) (s : State) : (jRecord e l s).dma = s.dma := by
  induction l generalizing s with
  | nil => rfl
  | cons b t ih => cases t with
    | nil => simp [jRecord]
    | cons c u => rw [jRecord, ih, jEntry_dma]; simp
@[simp] theorem jRecord_til (e : JEntry) (l : List Nat) (s : State) : (jRecord e l s).til = s.til := by
  induction l generalizing s with
  | nil => rfl
  | cons b t ih => cases t with
    | nil => simp [jRecord]
    | cons c u => rw [jRecord, ih, jEntry_til]; simp
@[simp] theorem jRecord_prs (e : JEntry) (l : List Nat) (s : State) : (jRecord e l s).prs = s.prs := by
  induction l generalizing s with
  | nil => rfl
  | cons b t ih => cases t with
    | nil => simp [jRecord]
    | cons c u => rw [jRecord, ih, jEntry_prs]; simp
@[simp] theorem jRecord_tbl (e : JEntry) (l : List Nat) (s : State) : (jRecord e l s).tbl = s.tbl := by
  induction l generalizing s with
  | nil => rfl
  | cons b t ih => cases t with
    | nil => simp [jRecord]
    | cons c u => rw [jRecord, ih, jEntry_tbl]; simp
@[simp] theorem jRecord_sch (e : JEntry) (l : List Nat) (s : State) : (jRecord e l s).sch = s.sch := by
  induction l generalizing s with
  | nil => rfl
  | cons b t ih => cases t with
    | nil => simp [jRecord]
    | cons c u => rw [jRecord, ih, jEntry_sch]; simp
@[simp] theorem jRecord_nvs (e : JEntry) (l : List Nat) (s : State) : (jRecord e l s).nvs = s.nvs := by
  induction l generalizing s with
  | nil => rfl
  | cons b t ih => cases t with
    | nil => simp [jRecord]
    | cons c u => rw [jRecord, ih, jEntry_nvs]; simp
@[simp] theorem jRecord_acc (e : JEntry) (l : List Nat) (s : State) : (jRecord e l s).acc = s.acc := by
  induction l generalizing s with
  | nil => rfl
  | cons b t ih => cases t with
    | nil => simp [jRecord]
    | cons c u => rw [jRecord, ih, jEntry_acc]; simp
@[simp] theorem jRecord_tlt (e : JEntry) (l : List Nat) (s : State) : (jRecord e l s).tlt = s.tlt := by
  induction l generalizing s with
  | nil => rfl
  | cons b t ih => cases t with
    | nil => simp [jRecord]
    | cons c u => rw [jRecord, ih, jEntry_tlt]; simp
@[simp] theorem jRecord_fab (e : JEntry) (l : List Nat) (s : State) : (jRecord e l s).fab = s.fab := by
  induction l generalizing s with
  | nil => rfl
  | cons b t ih => cases t with
    | nil => simp [jRecord]
    | cons c u => rw [jRecord, ih, jEntry_fab]; simp
@[simp] theorem jRecord_rgl (e : JEntry) (l : List Nat) (s : State) : (jRecord e l s).rgl = s.rgl := by
  induction l generalizing s with
  | nil => rfl
  | cons b t ih => cases t with
    | nil => simp [jRecord]
    | cons c u => rw [jRecord, ih, jEntry_rgl]; simp
@[simp] theorem jRecord_svc (e : JEntry) (l : List Nat) (s : State) : (jRecord e l s).svc = s.svc := by
  induction l generalizing s with
  | nil => rfl
  | cons b t ih => cases t with
    | nil => simp [jRecord]
    | cons c u => rw [jRecord, ih, jEntry_svc]; simp
@[simp] theorem jRecord_pwr (e : JEntry) (l : List Nat) (s : State) : (jRecord e l s).pwr = s.pwr := by
  induction l generalizing s with
  | nil => rfl
  | cons b t ih => cases t with
    | nil => simp [jRecord]
    | cons c u => rw [jRecord, ih, jEntry_pwr]; simp
@[simp] theorem jRecord_pat (e : JEntry) (l : List Nat) (s : State) : (jRecord e l s).pat = s.pat := by
  induction l generalizing s with
  | nil => rfl
  | cons b t ih => cases t with
    | nil => simp [jRecord]
    | cons c u => rw [jRecord, ih, jEntry_pat]; simp
@[simp] theorem jRecord_cmds (e : JEntry) (l : List Nat) (s : State) : (jRecord e l s).cmds = s.cmds := by
  induction l generalizing s with
  | nil => rfl
  | cons b t ih => cases t with
    | nil => simp [jRecord]
    | cons c u => rw [jRecord, ih, jEntry_cmds]; simp
@[simp] theorem jRecord_deferred (e : JEntry) (l : List Nat) (s : State) : (jRecord e l s).deferred = s.deferred := by
  induction l generalizing s with
  | nil => rfl
  | cons b t ih => cases t with
    | nil => simp [jRecord]
    | cons c u => rw [jRecord, ih, jEntry_deferred]; simp
@[simp] theorem jRecord_out (e : JEntry) (l : List Nat) (s : State) : (jRecord e l s).out = s.out := by
  induction l generalizing s with
  | nil => rfl
  | cons b t ih => cases t with
    | nil => simp [jRecord]
    | cons c u => rw [jRecord, ih, jEntry_out]; simp
@[simp] theorem jRecord_pending (e : JEntry) (l : List Nat) (s : State) : (jRecord e l s).pending = s.pending := by
  induction l generalizing s with
  | nil => rfl
  | cons b t ih => cases t with
    | nil => simp [jRecord]
    | cons c u => rw [jRecord, ih, jEntry_pending]; simp

/-! ### Journal: the device's own records -/

@[simp] theorem jDevice_mem (k n st : Nat) (l : List Nat) (s : State) : (jDevice k n st l s).mem = s.mem := by
  simp [jDevice]
@[simp] theorem jDevice_free (k n st : Nat) (l : List Nat) (s : State) : (jDevice k n st l s).free = s.free := by
  simp [jDevice]
@[simp] theorem jDevice_stk (k n st : Nat) (l : List Nat) (s : State) : (jDevice k n st l s).stk = s.stk := by
  simp [jDevice]
@[simp] theorem jDevice_arm (k n st : Nat) (l : List Nat) (s : State) : (jDevice k n st l s).arm = s.arm := by
  simp [jDevice]
@[simp] theorem jDevice_hif (k n st : Nat) (l : List Nat) (s : State) : (jDevice k n st l s).hif = s.hif := by
  simp [jDevice]
@[simp] theorem jDevice_nch (k n st : Nat) (l : List Nat) (s : State) : (jDevice k n st l s).nch = s.nch := by
  simp [jDevice]
@[simp] theorem jDevice_rng (k n st : Nat) (l : List Nat) (s : State) : (jDevice k n st l s).rng = s.rng := by
  simp [jDevice]
@[simp] theorem jDevice_dma (k n st : Nat) (l : List Nat) (s : State) : (jDevice k n st l s).dma = s.dma := by
  simp [jDevice]
@[simp] theorem jDevice_til (k n st : Nat) (l : List Nat) (s : State) : (jDevice k n st l s).til = s.til := by
  simp [jDevice]
@[simp] theorem jDevice_prs (k n st : Nat) (l : List Nat) (s : State) : (jDevice k n st l s).prs = s.prs := by
  simp [jDevice]
@[simp] theorem jDevice_tbl (k n st : Nat) (l : List Nat) (s : State) : (jDevice k n st l s).tbl = s.tbl := by
  simp [jDevice]
@[simp] theorem jDevice_sch (k n st : Nat) (l : List Nat) (s : State) : (jDevice k n st l s).sch = s.sch := by
  simp [jDevice]
@[simp] theorem jDevice_nvs (k n st : Nat) (l : List Nat) (s : State) : (jDevice k n st l s).nvs = s.nvs := by
  simp [jDevice]
@[simp] theorem jDevice_acc (k n st : Nat) (l : List Nat) (s : State) : (jDevice k n st l s).acc = s.acc := by
  simp [jDevice]
@[simp] theorem jDevice_tlt (k n st : Nat) (l : List Nat) (s : State) : (jDevice k n st l s).tlt = s.tlt := by
  simp [jDevice]
@[simp] theorem jDevice_fab (k n st : Nat) (l : List Nat) (s : State) : (jDevice k n st l s).fab = s.fab := by
  simp [jDevice]
@[simp] theorem jDevice_rgl (k n st : Nat) (l : List Nat) (s : State) : (jDevice k n st l s).rgl = s.rgl := by
  simp [jDevice]
@[simp] theorem jDevice_svc (k n st : Nat) (l : List Nat) (s : State) : (jDevice k n st l s).svc = s.svc := by
  simp [jDevice]
@[simp] theorem jDevice_pwr (k n st : Nat) (l : List Nat) (s : State) : (jDevice k n st l s).pwr = s.pwr := by
  simp [jDevice]
@[simp] theorem jDevice_pat (k n st : Nat) (l : List Nat) (s : State) : (jDevice k n st l s).pat = s.pat := by
  simp [jDevice]
@[simp] theorem jDevice_cmds (k n st : Nat) (l : List Nat) (s : State) : (jDevice k n st l s).cmds = s.cmds := by
  simp [jDevice]
@[simp] theorem jDevice_deferred (k n st : Nat) (l : List Nat) (s : State) : (jDevice k n st l s).deferred = s.deferred := by
  simp [jDevice]
@[simp] theorem jDevice_out (k n st : Nat) (l : List Nat) (s : State) : (jDevice k n st l s).out = s.out := by
  simp [jDevice]
@[simp] theorem jDevice_pending (k n st : Nat) (l : List Nat) (s : State) : (jDevice k n st l s).pending = s.pending := by
  simp [jDevice]

/-! ### Journal: a command -/

@[simp] theorem jCommand_mem (b : Nat) (p : CmdPend) (st : Nat) (s : State) : (jCommand b p st s).mem = s.mem := by
  unfold jCommand; dsimp only; split <;> simp
@[simp] theorem jCommand_free (b : Nat) (p : CmdPend) (st : Nat) (s : State) : (jCommand b p st s).free = s.free := by
  unfold jCommand; dsimp only; split <;> simp
@[simp] theorem jCommand_stk (b : Nat) (p : CmdPend) (st : Nat) (s : State) : (jCommand b p st s).stk = s.stk := by
  unfold jCommand; dsimp only; split <;> simp
@[simp] theorem jCommand_arm (b : Nat) (p : CmdPend) (st : Nat) (s : State) : (jCommand b p st s).arm = s.arm := by
  unfold jCommand; dsimp only; split <;> simp
@[simp] theorem jCommand_hif (b : Nat) (p : CmdPend) (st : Nat) (s : State) : (jCommand b p st s).hif = s.hif := by
  unfold jCommand; dsimp only; split <;> simp
@[simp] theorem jCommand_nch (b : Nat) (p : CmdPend) (st : Nat) (s : State) : (jCommand b p st s).nch = s.nch := by
  unfold jCommand; dsimp only; split <;> simp
@[simp] theorem jCommand_rng (b : Nat) (p : CmdPend) (st : Nat) (s : State) : (jCommand b p st s).rng = s.rng := by
  unfold jCommand; dsimp only; split <;> simp
@[simp] theorem jCommand_dma (b : Nat) (p : CmdPend) (st : Nat) (s : State) : (jCommand b p st s).dma = s.dma := by
  unfold jCommand; dsimp only; split <;> simp
@[simp] theorem jCommand_til (b : Nat) (p : CmdPend) (st : Nat) (s : State) : (jCommand b p st s).til = s.til := by
  unfold jCommand; dsimp only; split <;> simp
@[simp] theorem jCommand_prs (b : Nat) (p : CmdPend) (st : Nat) (s : State) : (jCommand b p st s).prs = s.prs := by
  unfold jCommand; dsimp only; split <;> simp
@[simp] theorem jCommand_tbl (b : Nat) (p : CmdPend) (st : Nat) (s : State) : (jCommand b p st s).tbl = s.tbl := by
  unfold jCommand; dsimp only; split <;> simp
@[simp] theorem jCommand_sch (b : Nat) (p : CmdPend) (st : Nat) (s : State) : (jCommand b p st s).sch = s.sch := by
  unfold jCommand; dsimp only; split <;> simp
@[simp] theorem jCommand_nvs (b : Nat) (p : CmdPend) (st : Nat) (s : State) : (jCommand b p st s).nvs = s.nvs := by
  unfold jCommand; dsimp only; split <;> simp
@[simp] theorem jCommand_acc (b : Nat) (p : CmdPend) (st : Nat) (s : State) : (jCommand b p st s).acc = s.acc := by
  unfold jCommand; dsimp only; split <;> simp
@[simp] theorem jCommand_tlt (b : Nat) (p : CmdPend) (st : Nat) (s : State) : (jCommand b p st s).tlt = s.tlt := by
  unfold jCommand; dsimp only; split <;> simp
@[simp] theorem jCommand_fab (b : Nat) (p : CmdPend) (st : Nat) (s : State) : (jCommand b p st s).fab = s.fab := by
  unfold jCommand; dsimp only; split <;> simp
@[simp] theorem jCommand_rgl (b : Nat) (p : CmdPend) (st : Nat) (s : State) : (jCommand b p st s).rgl = s.rgl := by
  unfold jCommand; dsimp only; split <;> simp
@[simp] theorem jCommand_svc (b : Nat) (p : CmdPend) (st : Nat) (s : State) : (jCommand b p st s).svc = s.svc := by
  unfold jCommand; dsimp only; split <;> simp
@[simp] theorem jCommand_pwr (b : Nat) (p : CmdPend) (st : Nat) (s : State) : (jCommand b p st s).pwr = s.pwr := by
  unfold jCommand; dsimp only; split <;> simp
@[simp] theorem jCommand_pat (b : Nat) (p : CmdPend) (st : Nat) (s : State) : (jCommand b p st s).pat = s.pat := by
  unfold jCommand; dsimp only; split <;> simp
@[simp] theorem jCommand_cmds (b : Nat) (p : CmdPend) (st : Nat) (s : State) : (jCommand b p st s).cmds = s.cmds := by
  unfold jCommand; dsimp only; split <;> simp
@[simp] theorem jCommand_deferred (b : Nat) (p : CmdPend) (st : Nat) (s : State) : (jCommand b p st s).deferred = s.deferred := by
  unfold jCommand; dsimp only; split <;> simp
@[simp] theorem jCommand_out (b : Nat) (p : CmdPend) (st : Nat) (s : State) : (jCommand b p st s).out = s.out := by
  unfold jCommand; dsimp only; split <;> simp
@[simp] theorem jCommand_pending (b : Nat) (p : CmdPend) (st : Nat) (s : State) : (jCommand b p st s).pending = s.pending := by
  unfold jCommand; dsimp only; split <;> simp

/-! ### Journal: a register write -/

@[simp] theorem jRegWrite_mem (w : Issuer) (n off v b st : Nat) (s : State) : (jRegWrite w n off v b st s).mem = s.mem := by
  simp [jRegWrite]
@[simp] theorem jRegWrite_free (w : Issuer) (n off v b st : Nat) (s : State) : (jRegWrite w n off v b st s).free = s.free := by
  simp [jRegWrite]
@[simp] theorem jRegWrite_stk (w : Issuer) (n off v b st : Nat) (s : State) : (jRegWrite w n off v b st s).stk = s.stk := by
  simp [jRegWrite]
@[simp] theorem jRegWrite_arm (w : Issuer) (n off v b st : Nat) (s : State) : (jRegWrite w n off v b st s).arm = s.arm := by
  simp [jRegWrite]
@[simp] theorem jRegWrite_hif (w : Issuer) (n off v b st : Nat) (s : State) : (jRegWrite w n off v b st s).hif = s.hif := by
  simp [jRegWrite]
@[simp] theorem jRegWrite_nch (w : Issuer) (n off v b st : Nat) (s : State) : (jRegWrite w n off v b st s).nch = s.nch := by
  simp [jRegWrite]
@[simp] theorem jRegWrite_rng (w : Issuer) (n off v b st : Nat) (s : State) : (jRegWrite w n off v b st s).rng = s.rng := by
  simp [jRegWrite]
@[simp] theorem jRegWrite_dma (w : Issuer) (n off v b st : Nat) (s : State) : (jRegWrite w n off v b st s).dma = s.dma := by
  simp [jRegWrite]
@[simp] theorem jRegWrite_til (w : Issuer) (n off v b st : Nat) (s : State) : (jRegWrite w n off v b st s).til = s.til := by
  simp [jRegWrite]
@[simp] theorem jRegWrite_prs (w : Issuer) (n off v b st : Nat) (s : State) : (jRegWrite w n off v b st s).prs = s.prs := by
  simp [jRegWrite]
@[simp] theorem jRegWrite_tbl (w : Issuer) (n off v b st : Nat) (s : State) : (jRegWrite w n off v b st s).tbl = s.tbl := by
  simp [jRegWrite]
@[simp] theorem jRegWrite_sch (w : Issuer) (n off v b st : Nat) (s : State) : (jRegWrite w n off v b st s).sch = s.sch := by
  simp [jRegWrite]
@[simp] theorem jRegWrite_nvs (w : Issuer) (n off v b st : Nat) (s : State) : (jRegWrite w n off v b st s).nvs = s.nvs := by
  simp [jRegWrite]
@[simp] theorem jRegWrite_acc (w : Issuer) (n off v b st : Nat) (s : State) : (jRegWrite w n off v b st s).acc = s.acc := by
  simp [jRegWrite]
@[simp] theorem jRegWrite_tlt (w : Issuer) (n off v b st : Nat) (s : State) : (jRegWrite w n off v b st s).tlt = s.tlt := by
  simp [jRegWrite]
@[simp] theorem jRegWrite_fab (w : Issuer) (n off v b st : Nat) (s : State) : (jRegWrite w n off v b st s).fab = s.fab := by
  simp [jRegWrite]
@[simp] theorem jRegWrite_rgl (w : Issuer) (n off v b st : Nat) (s : State) : (jRegWrite w n off v b st s).rgl = s.rgl := by
  simp [jRegWrite]
@[simp] theorem jRegWrite_svc (w : Issuer) (n off v b st : Nat) (s : State) : (jRegWrite w n off v b st s).svc = s.svc := by
  simp [jRegWrite]
@[simp] theorem jRegWrite_pwr (w : Issuer) (n off v b st : Nat) (s : State) : (jRegWrite w n off v b st s).pwr = s.pwr := by
  simp [jRegWrite]
@[simp] theorem jRegWrite_pat (w : Issuer) (n off v b st : Nat) (s : State) : (jRegWrite w n off v b st s).pat = s.pat := by
  simp [jRegWrite]
@[simp] theorem jRegWrite_cmds (w : Issuer) (n off v b st : Nat) (s : State) : (jRegWrite w n off v b st s).cmds = s.cmds := by
  simp [jRegWrite]
@[simp] theorem jRegWrite_deferred (w : Issuer) (n off v b st : Nat) (s : State) : (jRegWrite w n off v b st s).deferred = s.deferred := by
  simp [jRegWrite]
@[simp] theorem jRegWrite_out (w : Issuer) (n off v b st : Nat) (s : State) : (jRegWrite w n off v b st s).out = s.out := by
  simp [jRegWrite]
@[simp] theorem jRegWrite_pending (w : Issuer) (n off v b st : Nat) (s : State) : (jRegWrite w n off v b st s).pending = s.pending := by
  simp [jRegWrite]

/-! ### A command reported -/

@[simp] theorem cmdReport_mem (b : CmdBlk) (op st obj : Nat) (s : State) : (cmdReport b op st obj s).mem = s.mem := by
  unfold cmdReport; dsimp only; split <;> simp
@[simp] theorem cmdReport_free (b : CmdBlk) (op st obj : Nat) (s : State) : (cmdReport b op st obj s).free = s.free := by
  unfold cmdReport; dsimp only; split <;> simp
@[simp] theorem cmdReport_stk (b : CmdBlk) (op st obj : Nat) (s : State) : (cmdReport b op st obj s).stk = s.stk := by
  unfold cmdReport; dsimp only; split <;> simp
@[simp] theorem cmdReport_arm (b : CmdBlk) (op st obj : Nat) (s : State) : (cmdReport b op st obj s).arm = s.arm := by
  unfold cmdReport; dsimp only; split <;> simp
@[simp] theorem cmdReport_hif (b : CmdBlk) (op st obj : Nat) (s : State) : (cmdReport b op st obj s).hif = s.hif := by
  unfold cmdReport; dsimp only; split <;> simp
@[simp] theorem cmdReport_nch (b : CmdBlk) (op st obj : Nat) (s : State) : (cmdReport b op st obj s).nch = s.nch := by
  unfold cmdReport; dsimp only; split <;> simp
@[simp] theorem cmdReport_rng (b : CmdBlk) (op st obj : Nat) (s : State) : (cmdReport b op st obj s).rng = s.rng := by
  unfold cmdReport; dsimp only; split <;> simp
@[simp] theorem cmdReport_dma (b : CmdBlk) (op st obj : Nat) (s : State) : (cmdReport b op st obj s).dma = s.dma := by
  unfold cmdReport; dsimp only; split <;> simp
@[simp] theorem cmdReport_til (b : CmdBlk) (op st obj : Nat) (s : State) : (cmdReport b op st obj s).til = s.til := by
  unfold cmdReport; dsimp only; split <;> simp
@[simp] theorem cmdReport_prs (b : CmdBlk) (op st obj : Nat) (s : State) : (cmdReport b op st obj s).prs = s.prs := by
  unfold cmdReport; dsimp only; split <;> simp
@[simp] theorem cmdReport_tbl (b : CmdBlk) (op st obj : Nat) (s : State) : (cmdReport b op st obj s).tbl = s.tbl := by
  unfold cmdReport; dsimp only; split <;> simp
@[simp] theorem cmdReport_sch (b : CmdBlk) (op st obj : Nat) (s : State) : (cmdReport b op st obj s).sch = s.sch := by
  unfold cmdReport; dsimp only; split <;> simp
@[simp] theorem cmdReport_nvs (b : CmdBlk) (op st obj : Nat) (s : State) : (cmdReport b op st obj s).nvs = s.nvs := by
  unfold cmdReport; dsimp only; split <;> simp
@[simp] theorem cmdReport_acc (b : CmdBlk) (op st obj : Nat) (s : State) : (cmdReport b op st obj s).acc = s.acc := by
  unfold cmdReport; dsimp only; split <;> simp
@[simp] theorem cmdReport_tlt (b : CmdBlk) (op st obj : Nat) (s : State) : (cmdReport b op st obj s).tlt = s.tlt := by
  unfold cmdReport; dsimp only; split <;> simp
@[simp] theorem cmdReport_fab (b : CmdBlk) (op st obj : Nat) (s : State) : (cmdReport b op st obj s).fab = s.fab := by
  unfold cmdReport; dsimp only; split <;> simp
@[simp] theorem cmdReport_rgl (b : CmdBlk) (op st obj : Nat) (s : State) : (cmdReport b op st obj s).rgl = s.rgl := by
  unfold cmdReport; dsimp only; split <;> simp
@[simp] theorem cmdReport_svc (b : CmdBlk) (op st obj : Nat) (s : State) : (cmdReport b op st obj s).svc = s.svc := by
  unfold cmdReport; dsimp only; split <;> simp
@[simp] theorem cmdReport_pwr (b : CmdBlk) (op st obj : Nat) (s : State) : (cmdReport b op st obj s).pwr = s.pwr := by
  unfold cmdReport; dsimp only; split <;> simp
@[simp] theorem cmdReport_jnl (b : CmdBlk) (op st obj : Nat) (s : State) : (cmdReport b op st obj s).jnl = s.jnl := by
  unfold cmdReport; dsimp only; split <;> simp
@[simp] theorem cmdReport_pat (b : CmdBlk) (op st obj : Nat) (s : State) : (cmdReport b op st obj s).pat = s.pat := by
  unfold cmdReport; dsimp only; split <;> simp
@[simp] theorem cmdReport_cmds (b : CmdBlk) (op st obj : Nat) (s : State) : (cmdReport b op st obj s).cmds = s.cmds := by
  unfold cmdReport; dsimp only; split <;> simp
@[simp] theorem cmdReport_deferred (b : CmdBlk) (op st obj : Nat) (s : State) : (cmdReport b op st obj s).deferred = s.deferred := by
  unfold cmdReport; dsimp only; split <;> simp
@[simp] theorem cmdReport_out (b : CmdBlk) (op st obj : Nat) (s : State) : (cmdReport b op st obj s).out = s.out := by
  unfold cmdReport; dsimp only; split <;> simp
@[simp] theorem cmdReport_pending (b : CmdBlk) (op st obj : Nat) (s : State) : (cmdReport b op st obj s).pending = s.pending := by
  unfold cmdReport; dsimp only; split <;> simp

/-! ### A command ended -/

@[simp] theorem cmdFinish_mem (b : CmdBlk) (p : CmdPend) (st : Nat) (s : State) : (cmdFinish b p st s).mem = s.mem := by
  simp [cmdFinish]
@[simp] theorem cmdFinish_free (b : CmdBlk) (p : CmdPend) (st : Nat) (s : State) : (cmdFinish b p st s).free = s.free := by
  simp [cmdFinish]
@[simp] theorem cmdFinish_stk (b : CmdBlk) (p : CmdPend) (st : Nat) (s : State) : (cmdFinish b p st s).stk = s.stk := by
  simp [cmdFinish]
@[simp] theorem cmdFinish_arm (b : CmdBlk) (p : CmdPend) (st : Nat) (s : State) : (cmdFinish b p st s).arm = s.arm := by
  simp [cmdFinish]
@[simp] theorem cmdFinish_hif (b : CmdBlk) (p : CmdPend) (st : Nat) (s : State) : (cmdFinish b p st s).hif = s.hif := by
  simp [cmdFinish]
@[simp] theorem cmdFinish_nch (b : CmdBlk) (p : CmdPend) (st : Nat) (s : State) : (cmdFinish b p st s).nch = s.nch := by
  simp [cmdFinish]
@[simp] theorem cmdFinish_rng (b : CmdBlk) (p : CmdPend) (st : Nat) (s : State) : (cmdFinish b p st s).rng = s.rng := by
  simp [cmdFinish]
@[simp] theorem cmdFinish_dma (b : CmdBlk) (p : CmdPend) (st : Nat) (s : State) : (cmdFinish b p st s).dma = s.dma := by
  simp [cmdFinish]
@[simp] theorem cmdFinish_til (b : CmdBlk) (p : CmdPend) (st : Nat) (s : State) : (cmdFinish b p st s).til = s.til := by
  simp [cmdFinish]
@[simp] theorem cmdFinish_prs (b : CmdBlk) (p : CmdPend) (st : Nat) (s : State) : (cmdFinish b p st s).prs = s.prs := by
  simp [cmdFinish]
@[simp] theorem cmdFinish_tbl (b : CmdBlk) (p : CmdPend) (st : Nat) (s : State) : (cmdFinish b p st s).tbl = s.tbl := by
  simp [cmdFinish]
@[simp] theorem cmdFinish_sch (b : CmdBlk) (p : CmdPend) (st : Nat) (s : State) : (cmdFinish b p st s).sch = s.sch := by
  simp [cmdFinish]
@[simp] theorem cmdFinish_nvs (b : CmdBlk) (p : CmdPend) (st : Nat) (s : State) : (cmdFinish b p st s).nvs = s.nvs := by
  simp [cmdFinish]
@[simp] theorem cmdFinish_acc (b : CmdBlk) (p : CmdPend) (st : Nat) (s : State) : (cmdFinish b p st s).acc = s.acc := by
  simp [cmdFinish]
@[simp] theorem cmdFinish_tlt (b : CmdBlk) (p : CmdPend) (st : Nat) (s : State) : (cmdFinish b p st s).tlt = s.tlt := by
  simp [cmdFinish]
@[simp] theorem cmdFinish_fab (b : CmdBlk) (p : CmdPend) (st : Nat) (s : State) : (cmdFinish b p st s).fab = s.fab := by
  simp [cmdFinish]
@[simp] theorem cmdFinish_rgl (b : CmdBlk) (p : CmdPend) (st : Nat) (s : State) : (cmdFinish b p st s).rgl = s.rgl := by
  simp [cmdFinish]
@[simp] theorem cmdFinish_svc (b : CmdBlk) (p : CmdPend) (st : Nat) (s : State) : (cmdFinish b p st s).svc = s.svc := by
  simp [cmdFinish]
@[simp] theorem cmdFinish_pwr (b : CmdBlk) (p : CmdPend) (st : Nat) (s : State) : (cmdFinish b p st s).pwr = s.pwr := by
  simp [cmdFinish]
@[simp] theorem cmdFinish_pat (b : CmdBlk) (p : CmdPend) (st : Nat) (s : State) : (cmdFinish b p st s).pat = s.pat := by
  simp [cmdFinish]
@[simp] theorem cmdFinish_cmds (b : CmdBlk) (p : CmdPend) (st : Nat) (s : State) : (cmdFinish b p st s).cmds = s.cmds := by
  simp [cmdFinish]
@[simp] theorem cmdFinish_deferred (b : CmdBlk) (p : CmdPend) (st : Nat) (s : State) : (cmdFinish b p st s).deferred = s.deferred := by
  simp [cmdFinish]
@[simp] theorem cmdFinish_out (b : CmdBlk) (p : CmdPend) (st : Nat) (s : State) : (cmdFinish b p st s).out = s.out := by
  simp [cmdFinish]
@[simp] theorem cmdFinish_pending (b : CmdBlk) (p : CmdPend) (st : Nat) (s : State) : (cmdFinish b p st s).pending = s.pending := by
  simp [cmdFinish]

/-! ### SERVICE entered -/

@[simp] theorem enterService_regs (s : State) : (enterService s).regs = s.regs := by
  simp only [enterService, State.updRgl_regs, State.updTlt_regs]
@[simp] theorem enterService_mem (s : State) : (enterService s).mem = s.mem := by
  simp only [enterService, State.updRgl_mem, State.updTlt_mem]
@[simp] theorem enterService_free (s : State) : (enterService s).free = s.free := by
  simp only [enterService, State.updRgl_free, State.updTlt_free]
@[simp] theorem enterService_stk (s : State) : (enterService s).stk = s.stk := by
  simp only [enterService, State.updRgl_stk, State.updTlt_stk]
@[simp] theorem enterService_arm (s : State) : (enterService s).arm = s.arm := by
  simp only [enterService, State.updRgl_arm, State.updTlt_arm]
@[simp] theorem enterService_hif (s : State) : (enterService s).hif = s.hif := by
  simp only [enterService, State.updRgl_hif, State.updTlt_hif]
@[simp] theorem enterService_nch (s : State) : (enterService s).nch = s.nch := by
  simp only [enterService, State.updRgl_nch, State.updTlt_nch]
@[simp] theorem enterService_rng (s : State) : (enterService s).rng = s.rng := by
  simp only [enterService, State.updRgl_rng, State.updTlt_rng]
@[simp] theorem enterService_dma (s : State) : (enterService s).dma = s.dma := by
  simp only [enterService, State.updRgl_dma, State.updTlt_dma]
@[simp] theorem enterService_til (s : State) : (enterService s).til = s.til := by
  simp only [enterService, State.updRgl_til, State.updTlt_til]
@[simp] theorem enterService_prs (s : State) : (enterService s).prs = s.prs := by
  simp only [enterService, State.updRgl_prs, State.updTlt_prs]
@[simp] theorem enterService_tbl (s : State) : (enterService s).tbl = s.tbl := by
  simp only [enterService, State.updRgl_tbl, State.updTlt_tbl]
@[simp] theorem enterService_sch (s : State) : (enterService s).sch = s.sch := by
  simp only [enterService, State.updRgl_sch, State.updTlt_sch]
@[simp] theorem enterService_nvs (s : State) : (enterService s).nvs = s.nvs := by
  simp only [enterService, State.updRgl_nvs, State.updTlt_nvs]
@[simp] theorem enterService_acc (s : State) : (enterService s).acc = s.acc := by
  simp only [enterService, State.updRgl_acc, State.updTlt_acc]
@[simp] theorem enterService_fab (s : State) : (enterService s).fab = s.fab := by
  simp only [enterService, State.updRgl_fab, State.updTlt_fab]
@[simp] theorem enterService_svc (s : State) : (enterService s).svc = s.svc := by
  simp only [enterService, State.updRgl_svc, State.updTlt_svc]
@[simp] theorem enterService_pwr (s : State) : (enterService s).pwr = s.pwr := by
  simp only [enterService, State.updRgl_pwr, State.updTlt_pwr]
@[simp] theorem enterService_jnl (s : State) : (enterService s).jnl = s.jnl := by
  simp only [enterService, State.updRgl_jnl, State.updTlt_jnl]
@[simp] theorem enterService_pat (s : State) : (enterService s).pat = s.pat := by
  simp only [enterService, State.updRgl_pat, State.updTlt_pat]
@[simp] theorem enterService_cmds (s : State) : (enterService s).cmds = s.cmds := by
  simp only [enterService, State.updRgl_cmds, State.updTlt_cmds]
@[simp] theorem enterService_deferred (s : State) : (enterService s).deferred = s.deferred := by
  simp only [enterService, State.updRgl_deferred, State.updTlt_deferred]
@[simp] theorem enterService_events (s : State) : (enterService s).events = s.events := by
  simp only [enterService, State.updRgl_events, State.updTlt_events]
@[simp] theorem enterService_out (s : State) : (enterService s).out = s.out := by
  simp only [enterService, State.updRgl_out, State.updTlt_out]
@[simp] theorem enterService_pending (s : State) : (enterService s).pending = s.pending := by
  simp only [enterService, State.updRgl_pending, State.updTlt_pending]

/-! ### Another device state -/

@[simp] theorem enterState_mem (n c : Nat) (s : State) : (enterState n c s).mem = s.mem := by
  simp only [enterState]
  repeat' split
  all_goals simp
@[simp] theorem enterState_free (n c : Nat) (s : State) : (enterState n c s).free = s.free := by
  simp only [enterState]
  repeat' split
  all_goals simp
@[simp] theorem enterState_stk (n c : Nat) (s : State) : (enterState n c s).stk = s.stk := by
  simp only [enterState]
  repeat' split
  all_goals simp
@[simp] theorem enterState_arm (n c : Nat) (s : State) : (enterState n c s).arm = s.arm := by
  simp only [enterState]
  repeat' split
  all_goals simp
@[simp] theorem enterState_hif (n c : Nat) (s : State) : (enterState n c s).hif = s.hif := by
  simp only [enterState]
  repeat' split
  all_goals simp
@[simp] theorem enterState_nch (n c : Nat) (s : State) : (enterState n c s).nch = s.nch := by
  simp only [enterState]
  repeat' split
  all_goals simp
@[simp] theorem enterState_rng (n c : Nat) (s : State) : (enterState n c s).rng = s.rng := by
  simp only [enterState]
  repeat' split
  all_goals simp
@[simp] theorem enterState_dma (n c : Nat) (s : State) : (enterState n c s).dma = s.dma := by
  simp only [enterState]
  repeat' split
  all_goals simp
@[simp] theorem enterState_til (n c : Nat) (s : State) : (enterState n c s).til = s.til := by
  simp only [enterState]
  repeat' split
  all_goals simp
@[simp] theorem enterState_tbl (n c : Nat) (s : State) : (enterState n c s).tbl = s.tbl := by
  simp only [enterState]
  repeat' split
  all_goals simp
@[simp] theorem enterState_sch (n c : Nat) (s : State) : (enterState n c s).sch = s.sch := by
  simp only [enterState]
  repeat' split
  all_goals simp
@[simp] theorem enterState_nvs (n c : Nat) (s : State) : (enterState n c s).nvs = s.nvs := by
  simp only [enterState]
  repeat' split
  all_goals simp
@[simp] theorem enterState_acc (n c : Nat) (s : State) : (enterState n c s).acc = s.acc := by
  simp only [enterState]
  repeat' split
  all_goals simp
@[simp] theorem enterState_fab (n c : Nat) (s : State) : (enterState n c s).fab = s.fab := by
  simp only [enterState]
  repeat' split
  all_goals simp
@[simp] theorem enterState_svc (n c : Nat) (s : State) : (enterState n c s).svc = s.svc := by
  simp only [enterState]
  repeat' split
  all_goals simp
@[simp] theorem enterState_pwr (n c : Nat) (s : State) : (enterState n c s).pwr = s.pwr := by
  simp only [enterState]
  repeat' split
  all_goals simp
@[simp] theorem enterState_pat (n c : Nat) (s : State) : (enterState n c s).pat = s.pat := by
  simp only [enterState]
  repeat' split
  all_goals simp
@[simp] theorem enterState_cmds (n c : Nat) (s : State) : (enterState n c s).cmds = s.cmds := by
  simp only [enterState]
  repeat' split
  all_goals simp
@[simp] theorem enterState_deferred (n c : Nat) (s : State) : (enterState n c s).deferred = s.deferred := by
  simp only [enterState]
  repeat' split
  all_goals simp
@[simp] theorem enterState_out (n c : Nat) (s : State) : (enterState n c s).out = s.out := by
  simp only [enterState]
  repeat' split
  all_goals simp
@[simp] theorem enterState_pending (n c : Nat) (s : State) : (enterState n c s).pending = s.pending := by
  simp only [enterState]
  repeat' split
  all_goals simp

/-! ### The registers that the journal's operations leave alone -/

/-- A field outside the journal's block. -/
def Field.notJnl (f : Field) : Prop := f.off / 2 ^ 20 ≠ 0x12

theorem State.get_set_far (s : State) {f g : Field} (v : Nat) (h : g.off ≠ f.off) (hf : f.lo < 128) (hg : g.lo < 128) :
    (s.set f v).get g = s.get g := State.get_set_ne s v (by omega)

theorem jPut_get (e : JEntry) (s : State) {f : Field} (h : f.notJnl) (hl : f.lo < 128) : (jPut e s).get f = s.get f := by
  unfold Field.notJnl at h
  unfold jPut
  dsimp only
  rw [State.get_set_far _ _ (by intro e; rw [e] at h; exact h rfl) (by decide) hl,
    State.get_set_far _ _ (by intro e; rw [e] at h; exact h rfl) (by decide) hl]
  rfl

theorem jCheckpoint_get (s : State) {f : Field} (h : f.notJnl) (hl : f.lo < 128) : (jCheckpoint s).get f = s.get f := by
  unfold jCheckpoint
  dsimp only
  rw [State.get_set_far _ _ (by unfold Field.notJnl at h; intro e; rw [e] at h; exact h rfl) (by decide) hl, jPut_get _ _ h hl]
  rfl

theorem jPace_get (s : State) {f : Field} (h : f.notJnl) (hl : f.lo < 128) : (jPace s).get f = s.get f := by
  have k (t : State) (g : Field) (v : Nat) (hg : g.off / 2 ^ 20 = 0x12) (hgl : g.lo < 128) : (t.set g v).get f = t.get f :=
    State.get_set_far t v (by unfold Field.notJnl at h; intro e; rw [e] at h; exact h hg) hgl hl
  have r (t : State) (i b d : Nat) : (raise i b d t).get f = t.get f := State.getI_congr (raise_regs i b d t) f 0
  unfold jPace
  dsimp only
  split
  · rfl
  · repeat' split
    all_goals first
      | (rw [r, k _ _ _ (by decide) (by decide)]; exact k _ _ _ (by decide) (by decide))
      | exact k _ _ _ (by decide) (by decide)

theorem jEntry_get (e : JEntry) (s : State) {f : Field} (h : f.notJnl) (hl : f.lo < 128) : (jEntry e s).get f = s.get f := by
  unfold jEntry
  dsimp only
  rw [jPace_get _ h hl, jPut_get _ _ h hl]
  split
  · exact jCheckpoint_get s h hl
  · rfl

theorem jRecord_get (e : JEntry) (l : List Nat) (s : State) {f : Field} (h : f.notJnl) (hl : f.lo < 128) : (jRecord e l s).get f = s.get f := by
  induction l generalizing s with
  | nil => rw [jRecord]
  | cons b t ih => cases t with
    | nil => rw [jRecord, jEntry_get _ _ h hl]
    | cons c u => rw [jRecord, ih, jEntry_get _ _ h hl]; simp

theorem jDevice_get (k n st : Nat) (l : List Nat) (s : State) {f : Field} (h : f.notJnl) (hl : f.lo < 128) : (jDevice k n st l s).get f = s.get f :=
  jRecord_get _ _ _ h hl

theorem jCommand_get (b : Nat) (p : CmdPend) (st : Nat) (s : State) {f : Field} (h : f.notJnl) (hl : f.lo < 128) :
    (jCommand b p st s).get f = s.get f := by
  unfold jCommand
  dsimp only
  split <;> exact jRecord_get _ _ _ h hl

theorem jRegWrite_get (w : Issuer) (n off v b st : Nat) (s : State) {f : Field} (h : f.notJnl) (hl : f.lo < 128) :
    (jRegWrite w n off v b st s).get f = s.get f := jEntry_get _ _ h hl

end Sys2Proof.Machine
end

