-- ==== Sys2Proof/WellFormed.lean ====
section
/-!
DEFINITION. When a command is well formed: every operand lies within the width that the
spec gives it.
-/
namespace Sys2Proof

/-- A bound that an operand keeps: the number and its least and greatest value. -/
structure Bound where
  value : Nat
  least : Nat
  greatest : Nat
  deriving DecidableEq, Repr

def Bound.holds (b : Bound) : Bool := decide (b.least ≤ b.value) && decide (b.value ≤ b.greatest)

/-- x lies below n, which is not zero. -/
def below (x n : Nat) : Bound := ⟨x, 0, n - 1⟩
/-- x is held in n bits. -/
def fitsIn (x n : Nat) : Bound := ⟨x, 0, 2 ^ n - 1⟩
/-- x lies from lo to hi. -/
def within (lo x hi : Nat) : Bound := ⟨x, lo, hi⟩
/-- x is lo or more. -/
def atLeast (lo x : Nat) : Bound := ⟨x, lo, x⟩
/-- x is n. -/
def equals (x n : Nat) : Bound := ⟨x, n, n⟩

/-- What the operands of a command keep to: the widths of the fields that carry them, and the kinds of packet. -/
def Instr.bounds (i : Instr) : List Bound :=
  match i with
  | .auxPowerPresent => []
  | .auxPowerLost => []
  | .strapSample _ mgmtAddr _ _ _ => [below mgmtAddr 4]
  | .powerOn eid _ => [below eid 256]
  | .mainPgAsserted => []
  | .mainPgTimeout => []
  | .mainPgDeasserted => []
  | .powerStepB2 => []
  | .armatureBootLoad => []
  | .powerStep _ failed _ => failed.map (below · 896)
  | .powerStepWaitExceeded => []
  | .enterService _ => []
  | .testEnter _ => []
  | .testExit _ => []
  | .standby _ => []
  | .wake _ => []
  | .powerOff _ => []
  | .powerOffMainEnDrop => []
  | .safe _ => []
  | .restart _ => []
  | .safeEntry cause => [fitsIn cause 16]
  | .tCritReached sensor _ => [below sensor 24]
  | .capOverDetected => []
  | .thermtrip sensor => [below sensor 24]
  | .strokeBoundary _ => []
  | .deferredChangeApply => []
  | .threadOverrun hart _ => [below hart 3072]
  | .hwUnitOverrun kind index => [within 1 kind 5, below index 4096]
  | .phcStepWrite _ ns => [fitsIn ns 64]
  | .stepLatch => []
  | .slewDone => []
  | .phcRateWrite _ rate => [fitsIn rate 32]
  | .realignArm _ atStroke => [fitsIn atStroke 48]
  | .realignDisarm _ atStroke => [fitsIn atStroke 48]
  | .realignTarget => []
  | .alignEstimateWrite _ offset => [fitsIn offset 32]
  | .alignHoldover => []
  | .phcSecRead _ ns frac => [below ns 512, fitsIn frac 32]
  | .txtsInfoRead _ mac => [below mac 16]
  | .ppsInEdge ns sub => [below ns 512, below sub 256]
  | .ppsInTsRead _ => []
  | .ppsOutPulse _ => []
  | .clk10mLock => []
  | .clk10mLockLoss => []
  | .todMessage msg _ => [fitsIn msg 128]
  | .stage _ _ _ _ => []
  | .maquette _ => []
  | .maquetteReportDone findings warnings _ => [fitsIn findings 16, fitsIn warnings 16]
  | .partialImage _ => []
  | .jobCheckDone => []
  | .jobDrainDone => []
  | .jobDrainTimeout => []
  | .jobApplyDone _ => []
  | .jobRampDone => []
  | .armJobRead _ => []
  | .persist _ _ => []
  | .flashWrite _ _ => []
  | .activate _ arg _ => [below arg 256]
  | .cancel _ => []
  | .commandUndefinedOp _ offset op => [fitsIn offset 25, below op 256]
  | .tokenConsumeStep _ => []
  | .ownershipTransfer _ => []
  | .debugUnlock _ => []
  | .tallyGrant _ => []
  | .debugUnlockExpiry => []
  | .perstAssert ap => [below ap 4]
  | .perstDeassert ap => [below ap 4]
  | .hotReset ap => [below ap 4]
  | .linkUp ap speed width _ => [below ap 4, within 1 speed 7, within 1 width 16]
  | .linkDown ap => [below ap 4]
  | .apEnWrite _ h value => [below h 2, fitsIn value 64]
  | .configRequest ap rid _ value => [below ap 4, fitsIn rid 16, fitsIn value 32]
  | .flr ap rid => [below ap 4, fitsIn rid 16]
  | .flrComplete ap rid => [below ap 4, fitsIn rid 16]
  | .dstateChange ap rid dstate => [below ap 4, fitsIn rid 16, below dstate 4]
  | .d3cold ap => [below ap 4]
  | .hostReadCompletion ap tag status _ => [below ap 4, below tag 16384, below status 4]
  | .readTimeout ap tag => [below ap 4, below tag 16384]
  | .tagQuarantineEnd ap tag => [below ap 4, below tag 16384]
  | .ideKeyProgram ap index pf _ => [below ap 4, below index 8, below pf 16]
  | .ideCheckFailed ap index _ => [below ap 4, below index 8]
  | .tdispRequest ap rid _ => [below ap 4, fitsIn rid 16]
  | .tdiError ap rid => [below ap 4, fitsIn rid 16]
  | .atsInvalidation ap rid pasid addr len => [below ap 4, fitsIn rid 16, fitsIn pasid 21, fitsIn addr 64, within 0 len 0x10000000000000000]
  | .managerHeartbeat _ => []
  | .managerHeartbeatTimeout => []
  | .handover _ _ => []
  | .takeover _ => []
  | .managerRoleMove => []
  | .standbyReady ap pf => [below ap 4, below pf 16]
  | .cxlMemAccess addr data _ _ => [fitsIn addr 52, equals (addr % 64) 0, within 0 data.length 64]
  | .hdmCommit decoder base size ways gran _ => [below decoder 2, fitsIn base 52, fitsIn size 52, below ways 16, below gran 16]
  | .cxlMailboxCommand op _ => [fitsIn op 16]
  | .cxlReset => []
  | .invalidAccess a _ => [fitsIn a.offset 28, below a.size 65536]
  | .registerWrite _ offset value => [fitsIn offset 28, fitsIn value 64]
  | .satClear _ offset => [fitsIn offset 28]
  | .counterLowRead _ offset => [fitsIn offset 25]
  | .create _ desc => [fitsIn desc 512]
  | .bind _ => []
  | .unbind _ => []
  | .quiesce _ => []
  | .nicheQuiesced niche => [below niche 4096]
  | .resume _ => []
  | .reset _ => []
  | .nicheResetDone niche => [below niche 4096]
  | .destroy _ => []
  | .teardownDone niche => [below niche 4096]
  | .spoofWrite _ entry => [fitsIn entry 256]
  | .spoofMode _ => []
  | .wakeSet _ => []
  | .logStart _ block => [fitsIn block 256]
  | .harvest _ => []
  | .harvestCopyDone => []
  | .logStop _ => []
  | .nicheCounterClear _ value => [fitsIn value 64]
  | .rngCreate _ desc => [fitsIn desc 512]
  | .rngEnable _ => []
  | .rngDisable _ => []
  | .rngDestroy _ => []
  | .ringCreate w desc => [fitsIn w.ring 17, fitsIn w.entry 512, fitsIn desc 512]
  | .ringEnable w => [fitsIn w.ring 17, fitsIn w.entry 512]
  | .ringDisable w => [fitsIn w.ring 17, fitsIn w.entry 512]
  | .ringDestroy w => [fitsIn w.ring 17, fitsIn w.entry 512]
  | .ringIdle ring => [fitsIn ring 17]
  | .ringPoll h => [below h 2]
  | .ringPollData ring entries => [fitsIn ring 17, within 0 entries.length 8] ++ entries.map (fitsIn · 512)
  | .nudge _ niche ring => [below niche 4096, fitsIn ring 17]
  | .residentRingWrite _ _ _ => []
  | .residentIntake => []
  | .cqRelease _ niche ring count _ => [below niche 4096, fitsIn ring 17, fitsIn count 17]
  | .eqRelease _ niche ring count _ => [below niche 4096, fitsIn ring 17, fitsIn count 17]
  | .cqRestart ring => [fitsIn ring 17]
  | .eventMsixSend ring => [fitsIn ring 17]
  | .nop w => [fitsIn w.ring 17, fitsIn w.entry 512]
  | .send w => [fitsIn w.ring 17, fitsIn w.entry 512]
  | .recvPost w => [fitsIn w.ring 17, fitsIn w.entry 512]
  | .abort w => [fitsIn w.ring 17, fitsIn w.entry 512]
  | .copy w => [fitsIn w.ring 17, fitsIn w.entry 512]
  | .fill w => [fitsIn w.ring 17, fitsIn w.entry 512]
  | .list w _ => [fitsIn w.ring 17, fitsIn w.entry 512]
  | .dmaChannelStart prio => [below prio 4]
  | .dmaHalfPoint chan => [below chan 64]
  | .dmaPassEnd chan => [below chan 64]
  | .tcWait hart => [below hart 3072]
  | .threadWake hart => [below hart 3072]
  | .timerEvent hart ns => [below hart 3072, below ns 512]
  | .tcBind hart value => [below hart 3072, fitsIn value 64]
  | .tcStrokeDone hart _ => [below hart 3072]
  | .tcChCommit hart value => [below hart 3072, fitsIn value 64]
  | .chCommitUnblock chan => [below chan 24576]
  | .tcChDiscard hart => [below hart 3072]
  | .tcTake hart ch => [below hart 3072, below ch 256]
  | .tcItemDone hart value => [below hart 3072, fitsIn value 64]
  | .tcDmaSubmit hart value => [below hart 3072, fitsIn value 64]
  | .supInject hart mask => [below hart 3072, fitsIn mask 32]
  | .supKill hart mask => [below hart 3072, fitsIn mask 32]
  | .supStart hart mask => [below hart 3072, fitsIn mask 32]
  | .supRestart hart group => [below hart 3072, below group 16]
  | .supDrainDone hart => [below hart 3072]
  | .threadFault hart mcause mepc mtval => [below hart 3072, fitsIn mcause 64, fitsIn mepc 64, fitsIn mtval 64]
  | .supervisorFault hart mcause => [below hart 3072, fitsIn mcause 64]
  | .waitCycleReport tile group => [below tile 96, below group 16]
  | .waitGroupRestart tile group => [below tile 96, below group 16]
  | .debugAccess hart kind _ value => [below hart 3072, below kind 5, below value 256]
  | .debugHalt hart => [below hart 3072]
  | .debugResume hart => [below hart 3072]
  | .tileDebugHold tile => [below tile 96]
  | .tileDebugRelease tile => [below tile 96]
  | .stagedDiscard hart => [below hart 3072]
  | .frameReceive mac data _ sub => [below mac 16, within 14 data.length 9212, below sub 256]
  | .parseFrame _ engine vec => [below engine 32, fitsIn vec 2048]
  | .pipelineEntry _ park => [within 0 park 24]
  | .parkLookupReturn _ park => [within 0 park 24]
  | .residencyTimeout _ => []
  | .pipelineExit _ _ => []
  | .spreaderDispatch => []
  | .reorderSkip domain => [fitsIn domain 20]
  | .groupDefine _ desc => [fitsIn desc 1024]
  | .ruleWrite _ desc => [fitsIn desc 1024]
  | .ruleDelete _ desc => [fitsIn desc 1024]
  | .actionWrite _ entry => [fitsIn entry 512]
  | .templateWrite _ template => [fitsIn template 1024]
  | .counterClear _ => []
  | .defaultAction _ => []
  | .verCommit _ => []
  | .verAbort _ => []
  | .versionSwitch => []
  | .versionRetire => []
  | .insert _ desc => [fitsIn desc 1024]
  | .delete _ desc => [fitsIn desc 1024]
  | .query _ desc => [fitsIn desc 1024]
  | .pfxInsert _ desc => [fitsIn desc 512]
  | .pfxDelete _ desc => [fitsIn desc 512]
  | .l2Flush _ => []
  | .rehashStart _ => []
  | .rehashCopyDone => []
  | .rehashSwitch _ => []
  | .rehashSwitchEnd => []
  | .rehashAbort _ => []
  | .rehashStateRead _ => []
  | .flowInsert w desc => [fitsIn w.ring 17, fitsIn w.entry 512, fitsIn desc 1024]
  | .flowDelete w desc => [fitsIn w.ring 17, fitsIn w.entry 512, fitsIn desc 1024]
  | .flowQuery w desc => [fitsIn w.ring 17, fitsIn w.entry 512, fitsIn desc 1024]
  | .l2Learn table => [below table 64]
  | .l2Move table => [below table 64]
  | .moveFlagClear table _ => [below table 64]
  | .agingSweep table => [below table 64]
  | .queueBind _ => []
  | .queueUnbind _ => []
  | .policerBind _ => []
  | .policerUnbind _ => []
  | .gclSet _ gcl => [fitsIn gcl 8704]
  | .gclCancel _ => []
  | .gclSwitch port => [below port 16]
  | .shaperChange _ value => [fitsIn value 64]
  | .policerApply _ mode => [below mode 2]
  | .transmitListBuild port => [below port 16]
  | .frameTransmit port sub => [below port 16, below sub 256]
  | .tlWrite w => [fitsIn w.ring 17, fitsIn w.entry 512]
  | .tlWriteImm w => [fitsIn w.ring 17, fitsIn w.entry 512]
  | .tlSend w => [fitsIn w.ring 17, fitsIn w.entry 512]
  | .tlRead w => [fitsIn w.ring 17, fitsIn w.entry 512]
  | .tlAtomic w => [fitsIn w.ring 17, fitsIn w.entry 512]
  | .tlFlush w => [fitsIn w.ring 17, fitsIn w.entry 512]
  | .tlRecv w => [fitsIn w.ring 17, fitsIn w.entry 512]
  | .epOpen w => [fitsIn w.ring 17, fitsIn w.entry 512]
  | .epClose w => [fitsIn w.ring 17, fitsIn w.entry 512]
  | .epHoldExpiry ep => [fitsIn ep 24]
  | .winOpen w => [fitsIn w.ring 17, fitsIn w.entry 512]
  | .winRewrite w => [fitsIn w.ring 17, fitsIn w.entry 512]
  | .winRevoke w => [fitsIn w.ring 17, fitsIn w.entry 512]
  | .revokeFence index => [below index 65536]
  | .wrapHoldExpiry index => [below index 65536]
  | .pdAlloc w => [fitsIn w.ring 17, fitsIn w.entry 512]
  | .pdFree w => [fitsIn w.ring 17, fitsIn w.entry 512]
  | .wireDataReceive p => [equals p.ok.toNat 1, within 1 p.op 3]
  | .wireReadReqReceive p => [equals p.ok.toNat 1, equals p.op 4]
  | .wireReadRespReceive p => [equals p.ok.toNat 1, equals p.op 5]
  | .wireAtomicReceive p => [equals p.ok.toNat 1, equals p.op 6]
  | .wireAtomicRespReceive p => [equals p.ok.toNat 1, equals p.op 7]
  | .wireFlushReceive p => [equals p.ok.toNat 1, equals p.op 8]
  | .flushVisibilityDone peer msg => [fitsIn peer 14, fitsIn msg 32]
  | .wireFlushAckReceive p => [equals p.ok.toNat 1, equals p.op 9]
  | .wireAckReceive p => [equals p.ok.toNat 1, equals p.op 10]
  | .wireNakReceive p => [equals p.ok.toNat 1, equals p.op 11]
  | .wireAbandonReceive p => [equals p.ok.toNat 1, equals p.op 12]
  | .deferredAck peer msg => [fitsIn peer 14, fitsIn msg 32]
  | .orderedCompletionRelease peer msg => [fitsIn peer 14, fitsIn msg 32]
  | .messageTimeout peer msg => [fitsIn peer 14, fitsIn msg 32]
  | .busyBackoffExpiry peer msg _ => [fitsIn peer 14, fitsIn msg 32]
  | .contextRecallDone ep status => [fitsIn ep 24, below status 256]
  | .nvmeSqDoorbell ctrl qid value => [below ctrl 512, fitsIn qid 16, fitsIn value 16]
  | .nvmeCqDoorbell ctrl qid value => [below ctrl 512, fitsIn qid 16, fitsIn value 16]
  | .nvmeFetch => []
  | .nvmeCommandForward ctrl sqid => [below ctrl 512, within 0 sqid 1024]
  | .nvmeRead h _ => [fitsIn h 32]
  | .nvmeWrite h => [fitsIn h 32]
  | .compare h _ => [fitsIn h 32]
  | .writeZeroes h => [fitsIn h 32]
  | .datasetManagement h => [fitsIn h 32]
  | .verify h _ => [fitsIn h 32]
  | .nvmeFlush h => [fitsIn h 32]
  | .nvsData w => [fitsIn w.ring 17, fitsIn w.entry 512]
  | .nvsComplete w => [fitsIn w.ring 17, fitsIn w.entry 512]
  | .createIoSq h => [fitsIn h 32]
  | .deleteIoSq h => [fitsIn h 32]
  | .createIoCq h => [fitsIn h 32]
  | .deleteIoCq h => [fitsIn h 32]
  | .identify h => [fitsIn h 32]
  | .getLogPage h => [fitsIn h 32]
  | .setFeatures h => [fitsIn h 32]
  | .getFeatures h => [fitsIn h 32]
  | .asyncEventRequest h => [fitsIn h 32]
  | .nvmeAbort h => [fitsIn h 32]
  | .firmwareImageDownload h => [fitsIn h 32]
  | .firmwareCommit h => [fitsIn h 32]
  | .deviceSelfTest h => [fitsIn h 32]
  | .selfTestWork ctrl _ => [below ctrl 512]
  | .ccEnable ctrl cc aqa asq acq => [below ctrl 512, fitsIn cc 32, fitsIn aqa 32, fitsIn asq 64, fitsIn acq 64]
  | .ccDisable ctrl => [below ctrl 512]
  | .ccShutdown ctrl shn => [below ctrl 512, below shn 4]
  | .shutdownComplete ctrl => [below ctrl 512]
  | .interruptCoalesceExpiry ctrl cq => [below ctrl 512, fitsIn cq 16]
  | .ctrlCreate _ desc => [fitsIn desc 512]
  | .ctrlDestroy _ => []
  | .nsCreate _ desc => [fitsIn desc 512]
  | .nsDestroy _ => []
  | .nsAttach _ => []
  | .nsDetach _ => []
  | .fwDone _ block => [fitsIn block 128]
  | .cipher w => [fitsIn w.ring 17, fitsIn w.entry 512]
  | .digest w => [fitsIn w.ring 17, fitsIn w.entry 512]
  | .pkey w => [fitsIn w.ring 17, fitsIn w.entry 512]
  | .compress w => [fitsIn w.ring 17, fitsIn w.entry 512]
  | .decompress w => [fitsIn w.ring 17, fitsIn w.entry 512]
  | .crc w => [fitsIn w.ring 17, fitsIn w.entry 512]
  | .ecEncode w => [fitsIn w.ring 17, fitsIn w.entry 512]
  | .ecDecode w => [fitsIn w.ring 17, fitsIn w.entry 512]
  | .scrub w => [fitsIn w.ring 17, fitsIn w.entry 512]
  | .keyLoad w _ => [fitsIn w.ring 17, fitsIn w.entry 512]
  | .keyGenerate w => [fitsIn w.ring 17, fitsIn w.entry 512]
  | .keyDestroy w => [fitsIn w.ring 17, fitsIn w.entry 512]
  | .keyDestroyFence index => [fitsIn index 24]
  | .segCreate _ desc => [fitsIn desc 512]
  | .segDestroy _ => []
  | .segGrant _ entry => [fitsIn entry 128]
  | .segRevoke _ => []
  | .importAdd _ entry => [fitsIn entry 256]
  | .importDel _ => []
  | .apertureSet _ => []
  | .fabTemplateWrite _ template => [fitsIn template 512]
  | .seedWrite _ addr => [fitsIn addr 128]
  | .rmtRead _ => []
  | .rmtWrite _ => []
  | .poolAtomic w => [fitsIn w.ring 17, fitsIn w.entry 512]
  | .apertureAccess _ _ len _ => [atLeast 1 len]
  | .apertureReadTimeout _ => []
  | .fabricEnable _ value => [fitsIn value 64]
  | .fabricDisable _ value => [fitsIn value 64]
  | .helloTimer => []
  | .electionSettled => []
  | .coordinatorTimeout => []
  | .neighbourTimeout mac => [below mac 16]
  | .hello mac p => [below mac 16, equals p.ok.toNat 1, equals p.op 0x40]
  | .idRequest p => [equals p.ok.toNat 1, equals p.op 0x41]
  | .idAssign p => [equals p.ok.toNat 1, equals p.op 0x42]
  | .idRevoke p => [equals p.ok.toNat 1, equals p.op 0x43]
  | .memberUpdate p => [equals p.ok.toNat 1, equals p.op 0x44]
  | .memberAck p => [equals p.ok.toNat 1, equals p.op 0x45]
  | .probe p => [equals p.ok.toNat 1, equals p.op 0x46]
  | .probeAck p => [equals p.ok.toNat 1, equals p.op 0x47]
  | .linkState mac p => [below mac 16, equals p.ok.toNat 1, equals p.op 0x48]
  | .linkStateTimer => []
  | .routeTableSwitch => []
  | .regAccess p => [equals p.ok.toNat 1, equals p.op 0x49]
  | .regResp p => [equals p.ok.toNat 1, equals p.op 0x4A]
  | .pathSilent peer path => [fitsIn peer 14, below path 64]
  | .pathIdleProbe peer path => [fitsIn peer 14, below path 64]
  | .probeRetryExpiry peer path => [fitsIn peer 14, below path 64]
  | .pathRevive peer path => [fitsIn peer 14, below path 64]
  | .ethLinkChange mac _ => [below mac 16]
  | .regulationRun l _ => [below l 8]
  | .regulationApply l => [below l 8]
  | .envelopeApply l => [below l 8]
  | .adviceAccept _ l run => [below l 8, fitsIn run 48]
  | .decisionJournalFlush l => [below l 8]
  | .read _ _ => []
  | .readPrev _ => []
  | .mark _ block => [fitsIn block 512]
  | .journalAck _ value => [fitsIn value 64]
  | .patinaReadLatch _ => []
  | .readJournal eid start n _ => [below eid 256, fitsIn start 64, below n 256]
  | .readPrevJournal eid start n => [below eid 256, fitsIn start 64, below n 256]
  | .readPatina eid start n => [below eid 256, fitsIn start 64, below n 256]
  | .readPinned eid start n => [below eid 256, fitsIn start 16, below n 256]
  | .clearPinned eid => [below eid 256]
  | .pwrRead eid off => [below eid 256, fitsIn off 32]
  | .svcRead eid off => [below eid 256, fitsIn off 32]
  | .drain _ => []
  | .drainCancel _ => []
  | .unitDrained kind index => [below kind 7, below index 128]
  | .unitDrainTimeout kind index => [below kind 7, below index 128]
  | .test _ => []
  | .testDone kind index _ => [below kind 7, below index 128]
  | .readmit _ => []
  | .probationStep kind index => [below kind 7, below index 128]
  | .probationEnd kind index => [below kind 7, below index 128]
  | .substitute _ => []
  | .retire _ => []
  | .repair _ => []
  | .repairDone index _ => [below index 128]
  | .spare _ => []
  | .spareSwitch stack => [below stack 4]
  | .plinthSwitch _ => []
  | .plinthReady => []
  | .plinthSwitchTimeout => []
  | .plinthLockstepRestart => []
  | .unitFailure kind index code => [below kind 7, below index 128, fitsIn code 16]
  | .correctedError pc => [below pc 128]
  | .recoveryEntry structure_ _ => [within 1 structure_ 6]
  | .recoveryExit _ => []
  | .functionReady ap => [below ap 4]
  | .armatureReloadDone kind index => [below kind 7, below index 128]
  | .acceleratorWorkDone w slice load _ => [fitsIn w.ring 17, fitsIn w.entry 512, below slice 18, within 0 load 100]
  | .readClears _ offset => [fitsIn offset 25]

/-- The operands of a command lie within their widths. -/
def Instr.wellFormed (i : Instr) : Bool := i.bounds.all Bound.holds

end Sys2Proof
end

