-- ==== Sys2Proof/Tests/Slice0.lean ====
section
/-!
SUPPORT. Tests of the model: for each obligation with hypotheses a state and operands that meet them, for each check of WellFormed a
command that it refuses, and single steps on small states.
-/
set_option linter.unusedVariables false
set_option Elab.async false

namespace Sys2Proof.Tests
open Sys2Proof Sys2Proof.Machine

/-! ### Small states and operands -/

/-- A platform issuer. -/
def plat : Issuer := ⟨.platform, .mctp, 0, 8⟩
/-- The manager's issuer. -/
def mgr : Issuer := ⟨.manager, .host, 0, 0⟩
/-- A state in a device state, with the journal's region ready and main power good. -/
def inState (d : Nat) : State :=
  ((State.reset.set Reg.IDN_STATE_STATE d).set Reg.JNL_STATUS_REGION_READY 1).updPwr fun u => { u with mainEn := true, mainPg := true }
/-- A section of a type with nothing in its body. -/
def plainSection (type : Nat) : Section := ⟨type, 1, 0, 0, 0, 0, [], [], []⟩
/-- A signature that the reset fuse policy accepts. -/
def goodSig : Signature := ⟨1, 0, true⟩
/-- An image of a kind that passes every check of R109 at reset. -/
def goodImage (kind : Nat) : Image :=
  ⟨0x4E474D41, 1, kind, 0, State.reset.get Reg.IDN_PART_MEMBER, 0, 4096, 77, 0, 0, [goodSig],
    if kind = 0 then ((List.range 15).map fun t => plainSection (t + 1)) else if kind = 1 then [plainSection 15] else [], true, true, true, true, [], []⟩
/-- A token of a kind for the unit at reset; `b` is its byte 3 and `rest` its bytes from 20 on. -/
def goodToken (kind b rest : Nat) : Token := ⟨0x4F54 + kind * 2 ^ 16 + b * 2 ^ 24 + rest * 2 ^ 160, [goodSig]⟩
/-- A state in which a manager holds the role and an image is staged. -/
def staged (d : Nat) (m : Image) : State := (inState d).updArm fun u => { u with staged := some m }
/-- A state with a job under way in a phase. -/
def withJob (phase : Nat) (m : Image) : State := ((inState 4).set Reg.ARM_JOB_PHASE phase).updArm fun u => { u with job := some ⟨m, 0⟩ }
/-- A physical function 0 of attachment point 0. -/
def pf0 : Fn := ⟨0, 256, 0, 0, 0, 1, 0, 0, 1, false, false, true, false⟩
/-- The functions of hosts, their links up, the manager at attachment point 0 and the standby at 2. -/
def hosted (d : Nat) : State :=
  ((((inState d).updHif fun u => { u with fns := [(fnKey 0 256, pf0), (fnKey 2 256, { pf0 with ap := 2 })], perst := [] }).setsI 0 [(Reg.HIF_LINK_UP, 1), (Reg.HIF_MGR_VACANT, 0), (Reg.HIF_MGR_STANDBY_AP, 2)]).setI Reg.HIF_LINK_UP 2 1)
  |> (fun s => (s.setsI (fnKey 0 256) [(Reg.HIF_FN_INFO_EXISTS, 1), (Reg.HIF_FN_INFO_BME, 1)]).setsI (fnKey 2 256) [(Reg.HIF_FN_INFO_EXISTS, 1), (Reg.HIF_FN_INFO_BME, 1)])
/-- The manager function's issuer at attachment point 0, and the standby's at 2. -/
def mgrHost : Issuer := ⟨.manager, .host, 0, 256⟩
def stdHost : Issuer := ⟨.tenant, .host, 2, 256⟩
/-- A state with the CXL region of 1 GiB and a committed decoder. -/
def cxl : State := ((hosted 4).set Reg.HIF_CXL_CXL_MODE 1).updHif fun u => { u with cxlRegion := (0, 1024), hdm := [(0, ⟨0, 2 ^ 28, 1, 0⟩)] }
/-- A state with niche 5 in a niche state, selected for commands, bound or not to the function of attachment point 0. -/
def withNiche (st : Nat) : State :=
  ((((hosted 4).updNch fun u => { u with niches := [(0, NicheX.fresh false), (5, { NicheX.fresh false with intake := true })], region := (0, 4096) }).setsI 5
    [(Reg.NCH_INFO_STATE, st), (Reg.NCH_INFO_BOUND, 1), (Reg.NCH_INFO_RID, 256)]).set Reg.NCH_CMD_NICHE 5)
/-- A dirty log of niche 5. -/
def dlog : DirtyLog := ⟨0, 32768, 0, [1], 1, 0, 0, some ([1], 1, 0, 9, 0), false⟩
/-- A state in which niche 5 logs. -/
def logging : State := ((withNiche 1).updNch fun u => { u with niches := [(5, { NicheX.fresh false with log := some dlog })] }).setI Reg.NCH_INFO_LOGGING 5 1
/-- A ring as it stands when it is created. -/
def ring0 : RingX := ⟨0, false, false, none, false, 0, 0, [], false, 0, none, false, 0, 0, []⟩
/-- Niche 5 ACTIVE in SERVICE with an enabled CONTROL work ring 7, its completion ring 65536 and its event ring 98304. -/
def ringed : State :=
  ((((withNiche 1).updRng fun u => { u with rings := [(7, ring0), (65536, ring0), (98304, ring0)], nextSeq := 9 }).setsI 7
    [(Reg.RNG_INFO_STATE, 2), (Reg.RNG_INFO_CONTROL, 1), (Reg.RNG_INFO_SIZE_LOG2, 4), (Reg.RNG_INFO_NICHE, 5), (Reg.RNG_INFO_LINK, 65536), (Reg.RNG_POLL_INTERVAL, 1)]).setsI 65536
    [(Reg.RNG_INFO_STATE, 2), (Reg.RNG_INFO_TYPE, 1), (Reg.RNG_INFO_SIZE_LOG2, 4), (Reg.RNG_INFO_NICHE, 5), (Reg.RNG_INFO_LINK, 98304)]).setsI 98304
    [(Reg.RNG_INFO_STATE, 2), (Reg.RNG_INFO_TYPE, 2), (Reg.RNG_INFO_SIZE_LOG2, 4), (Reg.RNG_INFO_NICHE, 5), (Reg.RNG_INFO_LINK, 3)]
/-- A flight taken from ring 7 and not started. -/
def flightOf (entry : Nat) : Flight := ⟨1, 7, 5, entry, false, [], none, none⟩
/-- The state with that one flight, and its work entry. -/
def taken (entry : Nat) : State := ringed.updRng fun u => { u with flights := [flightOf entry] }
def workOf (entry : Nat) : Work := ⟨7, entry⟩
/-- A FILL of 8 bytes of stacked memory, by niche 0. -/
def fillEntry : Nat := 0x41 + 1 * 2 ^ 40 + 4096 * 2 ^ 128 + 8 * 2 ^ 224 + 1 * 2 ^ 352
/-- Its flight, and the channel run that carries it. -/
def fillFlight : Flight := ⟨1, 7, 0, fillEntry, true, [], none, none⟩
def fillRun : DmaRun := { seq := 1, niche := 0, prio := 0, pass := 0, element := 0, list := [], before := 0, done := 0, half := false, fed := false, lines := 0 }
def running1 : State := (ringed.updRng fun u => { u with flights := [fillFlight] }).updDma fun u => { u with channels := [(0, fillRun)] }
/-- A state in which a thread is in RUN on a DATAPATH tile. -/
def thr (hart : Nat) : State := setThrState hart 1 (inState 4)
/-- A thread with a packet niche. -/
def inNiche (hart : Nat) : State := updThread hart (fun x => { x with niche := some 5 }) (thr hart)
/-- A frame of MAC 0 in cluster 0. -/
def pkt0 (at_ : PktAt) : Pkt := { freshPkt 0 0 (List.replicate 64 1) 0 none with id := 1, at_ := at_ }
/-- A frame with a DEST kind. -/
def pktTo (kind : Nat) (at_ : PktAt) : Pkt := { pkt0 at_ with vec := kind * 2 ^ 28 * 2 ^ 208 }
/-- A state with one frame in classification. -/
def pktAt (p : Pkt) : State := (inState 4).updPrs fun u => { u with pkts := [p], nextId := 2 }
/-- A MASKED table 1 with a group, a rule, and room. -/
def ruled (d : Nat) : State :=
  ((((inState d).setsI 1 [(Reg.PRS_TBL_INFO_DEFINED, 1), (Reg.PRS_TBL_INFO_STAGES, 1), (Reg.PRS_TBL_CAP_KEY_LEN, 4), (Reg.PRS_TBL_CAP_CAPACITY, 8)]).updPrs fun u =>
    { u with live := { u.live with groups := [(256, 0xFF)] } }).updTbl fun u => { u with actions := 16 })
/-- The same with a rule for key 5. -/
def ruled1 (d : Nat) : State := (ruled d).updPrs fun u => { u with live := { u.live with rules := [⟨1, 0, 5, 0, 0⟩] } }
/-- A tile 0 in the spreader's rotation. -/
def spreadable : State :=
  (((((pktAt (pktTo 3 .spread)).updPrs fun u => { u with spread := [1] }).updTil fun u => { u with pktChan := [(0, 7)], freeSlots := [(0, [2])] }).setI
    Reg.TIL_CH_INFO_DEPTH 7 4).setI Reg.TIL_CH_INFO_HW_WRITER 7 1).set Reg.PRS_SPR_LAST 95
/-- An EXACT table 1 of 16 places with 4-byte keys, and 16 action entries. -/
def tabled (d : Nat) : State :=
  ((inState d).setsI 1 [(Reg.PRS_TBL_INFO_DEFINED, 1), (Reg.PRS_TBL_INFO_KIND, 1), (Reg.PRS_TBL_INFO_STAGES, 1), (Reg.PRS_TBL_CAP_KEY_LEN, 4), (Reg.PRS_TBL_CAP_CAPACITY, 16), (Reg.TBL_INFO_L2, 1)]).updTbl fun u =>
    { u with actions := 16, reserve := (4096, 4096) }
/-- An entry of that table, and the table holding it at place 3. -/
def entry5 : FlowEntry := ⟨5, 0, 1, 0, 9, false, false, true, false, none, 0, 0, none⟩
def tabled1 (d : Nat) (e : FlowEntry) : State := (tabled d).updTbl fun u => { u with tables := [(1, { TblX.empty with live := ⟨[(3, e)], [(3, 0)]⟩ })] }
/-- A PREFIX table 1. -/
def prefixed : State := (tabled 4).setI Reg.PRS_TBL_INFO_KIND 1 2
/-- A rehash of table 1 in a state. -/
def rehashing (st : Nat) (r : Rehash) : State := (((tabled 4).set Reg.TBL_REHASH_TABLE 1).set Reg.TBL_REHASH_STATE st |>.set Reg.TBL_CMD_ARG_TABLE 1).updTbl fun u => { u with rehash := some r }
/-- Niche 5's ring with a taken entry, beside a TENANT table 1 that it may fill. -/
def tenantTable (entry : Nat) (l : Map FlowEntry) : State :=
  ((((taken entry).setsI 1 [(Reg.PRS_TBL_INFO_DEFINED, 1), (Reg.PRS_TBL_INFO_KIND, 1), (Reg.PRS_TBL_CAP_KEY_LEN, 4), (Reg.PRS_TBL_CAP_CAPACITY, 16), (Reg.TBL_INFO_TENANT, 1)]).setI
    Reg.TBL_NCFG_ACT_COUNT 5 8).setI Reg.NCH_QUOTA_LIMIT (quotaKey 5 5) 8).updTbl fun u => { u with actions := 16, tables := [(1, { TblX.empty with live := ⟨l, []⟩ })] }
/-- A port 2 at 10 Gb/s with a class 0 and a queue 20 under it, its link up. -/
def ported : State :=
  (((((inState 4).updSch fun u => { u with linkUp := [2], kids := [(classNode 2 0, [20]), (portNode 2, [classNode 2 0])] }).setsI (portNode 2) [(Reg.SCH_NODE_CFG_DEFINED, 1)]).setsI 20
    [(Reg.SCH_NODE_CFG_DEFINED, 1), (Reg.SCH_NODE_CFG_PARENT, classNode 2 0), (Reg.SCH_NODE_CFG_WEIGHT, 10)]).setsI (classNode 2 0) [(Reg.SCH_NODE_CFG_PARENT, portNode 2), (Reg.SCH_NODE_CFG_MODE, 1)]).setI
    Reg.SCH_PORT_CFG_RATE_MBPS 2 10000
/-- A frame for queue 20. -/
def sframe : SFrame := ⟨[1, 2, 3], 20, 0, none, none, none, false, false, 0, none⟩
/-- The port with that frame queued. -/
def queued1 : State := ported.updSch fun u => { u with queues := [(20, [sframe])] }
/-- Niche 5 and queue 20 named by a scheduler command. -/
def schedArgs : State :=
  ((((ringed.setsI 20 [(Reg.SCH_NODE_CFG_DEFINED, 1)]).set Reg.SCH_CMD_ARG_NICHE 5).set Reg.SCH_CMD_ARG_INDEX 20).setI Reg.NCH_QUOTA_LIMIT (quotaKey 5 3) 8).setI Reg.NCH_QUOTA_LIMIT (quotaKey 5 8) 8
/-- An endpoint 3 of niche 5. -/
def ep5 : Endpoint := ⟨5, 1, 0, false, true, false, false, false, 7, 0, [], []⟩
/-- A window of niche 5 over 4096 bytes of its stacked memory, every right, at generation 1. -/
def win5 : Window := ⟨1, 1, 0, 4096, 31, 5, 1⟩
/-- A Turelm work entry: opcode, endpoint 3, device 9, endpoint 4 there, 16 bytes, local key of window 2. -/
def tlEntry (opcode : Nat) : Nat := opcode + 3 * 2 ^ 32 + 9 * 2 ^ 64 + 4 * 2 ^ 80 + 16 * 2 ^ 128 + (2 * 256 + 1) * 2 ^ 256
/-- The fabric as a device with ID 1 and a path to device 9 sees it, with niche 5's endpoint, domain and window. -/
def onFabric (s : State) : State :=
  (((((s.setsI 0 [(Reg.FAB_ID_VALID, 1), (Reg.FAB_ID_ID, 1), (Reg.TLT_TRK_CAP_SEND_MAX, 16), (Reg.TLT_TRK_CAP_RECV_MAX, 16)]).setsI 9 [(Reg.TLT_PEER_INFO_KNOWN, 1), (Reg.TLT_PEER_INFO_PEER_EPOCH, 2)]).updFab fun u =>
    { u with members := [⟨9, 99, 2, 0⟩], paths := [(pathKey 9 0, ⟨none, 0, 0, false⟩)] }).updTlt fun u =>
    { u with eps := [(3, ep5)], pds := [(1, 5)], wins := [(2, win5)], gens := [(2, 1)] }).updNch fun u => { u with niches := [(0, NicheX.fresh false), (5, { NicheX.fresh false with intake := true })] })
/-- The same with a taken Turelm work entry. -/
def tlState (opcode : Nat) : State := onFabric ((taken (tlEntry opcode)).updSch fun u => { u with local_ := [(localKey 5 0, 20)] })
/-- A send record of that work. -/
def send5 (op : Nat) : Send := { Send.blank with peer := 9, msg := 6, op := op, owner := .work 1, ring := 7, niche := 5, srcEp := 3, dstEp := 4, len := 16, lkey := 513 }
/-- The work started, its message with that record under way. -/
def sent (op opcode : Nat) : State := ((tlState opcode).updRng fun u => { u with flights := [{ flightOf (tlEntry opcode) with started := true }] }).updTlt fun u => { u with sends := [send5 op] }
/-- A packet of device 9 to endpoint 3. -/
def pkt9 (op msg : Nat) : TlPkt := ⟨1, op, 0, 2, 9, 1, 4, 3, 13, 0, msg, 0, 16, 0, 513, List.replicate 16 7, false, false⟩
/-- An open message of device 9 of two chunks, the first held. -/
def rx9 : RxMsg := ⟨9, 0, 1, 16384, 13, 4, 3, none, 0, [0], false, 0, false, some 0, 0, 0⟩
/-- A namespace 3 of LOCAL memory: niche 5, 512-byte blocks, 64 of them. -/
def nsd : Nat := 3 + 5 * 2 ^ 16 + 9 * 2 ^ 32 + 64 * 2 ^ 64
/-- Queue 0 and queue 1 of a controller, and the controller, niche 5's, in its function's memory. -/
def nvq (cq : Nat) : NvSq := ⟨4096, 8, cq, 0, 0, 0, 0, 0, []⟩
def nvcq : NvCq := ⟨8192, 8, some 0, 0, 0, 1, [], 1, 0, 0⟩
def nvc : NvCtrl :=
  { niche := 5, fn := 256, sn := 7, maxIo := 4, cc := 0x460001, csts := 1, aqa := 0, asq := 0, acq := 0, sqs := [(0, nvq 0), (1, nvq 1)], cqs := [(0, nvcq), (1, nvcq)], feats := [], aers := []
    notices := [], masked := [], errors := [], errCount := 0, test := none, testLog := [], fr := [(1, 5)], active := 1, activate := none, commit := none, smart := [], turn := [], credit := [] }
/-- A state with that controller in a state, one command in slot 0. -/
def storing (st : Nat) (x : NvCtrl) (cmds : Map NvCmd) : State :=
  (((withNiche 1).setsI 0 [(Reg.NVS_CTRL_INFO_STATE, st)]).setsI 3 [(Reg.NVS_NS_INFO_DEFINED, 1), (Reg.NVS_NS_INFO_ATTACHED, 1), (Reg.NVS_NS_INFO_NSID, 2), (Reg.NVS_NS_INFO_CTRL, 0)]).updNvs fun u =>
    { u with ctrls := [(0, x)], nss := [(3, ⟨nsd, false⟩)], cmds := cmds, fresh := 1 }
/-- A command of a queue, ready. -/
def nvcmd (sqid sqe : Nat) : NvCmd := { gen := 0, ctrl := 0, sqid := sqid, sqe := sqe, ns := if sqid = 0 then 0 else 3, data := [], stage := 2, err := none, todo := [], test := false, born := 0 }
def ready1 (sqid sqe : Nat) : State := storing 2 nvc [(0, nvcmd sqid sqe)]
/-- A command at its back end, of a namespace 3 that a DATAPATH tile serves. -/
def nsd2 : Nat := nsd + 2 * 2 ^ 56 + 1 * 2 ^ 288
def backed (entry sqe : Nat) : State :=
  (taken entry).updNvs fun u => { u with ctrls := [(0, nvc)], nss := [(3, ⟨nsd2, false⟩)], cmds := [(0, { nvcmd 1 sqe with stage := 5 })], fresh := 1 }
/-- A state with a symmetric key 3 of niche 5 at generation 1, and a work entry that runs on it. -/
def key5 (kind len : Nat) : KeyEnt := ⟨1, 5, kind, 1, len, 0x1234, none, some 7, false⟩
def keyed (entry kind : Nat) : State :=
  (((taken entry).updAcc fun u => { u with keys := [(3, key5 kind 16)], gens := [(3, 1)] }).setI Reg.NCH_STACKED_LEN_MIB 5 1).setI Reg.NCH_QUOTA_LIMIT (quotaKey 5 9) 8
/-- A STACKED accelerator entry: opcode, MODE, AUX, LENGTH, with key 3; source at 0, destination at 4096, room 256. -/
def accEntry (opcode mode aux len : Nat) : Nat :=
  opcode + (3 + 2 ^ 24) * 2 ^ 32 + 1 * 2 ^ 64 + 1 * 2 ^ 72 + mode * 2 ^ 80 + aux * 2 ^ 88 + len * 2 ^ 96 + 4096 * 2 ^ 192 + 256 * 2 ^ 256
/-- A key entry: opcode, KIND, MODE, LENGTH, of STACKED material at 0. -/
def keyEntry (opcode kind mode len : Nat) : Nat := opcode + 1 * 2 ^ 64 + kind * 2 ^ 72 + mode * 2 ^ 80 + len * 2 ^ 96
/-- The fabric with a pool region, an open segment 4, and an import 6 of niche 5 over the segment's memory. -/
def seg4 : Seg := ⟨0, 2 ^ 21, 5, 2, [(0, 0 + 9 * 2 ^ 16 + 7 * 2 ^ 32)]⟩
def imp6 : Import := ⟨5, 7, 513, 1 * 2 ^ 50, 2 ^ 21⟩
def imp9 : Import := ⟨5, 7, 513, 9 * 2 ^ 50, 2 ^ 21⟩
def pooled (entry : Nat) : State :=
  ((onFabric (taken entry)).updFab fun u => { u with pool := (2 ^ 32, 2 ^ 24), segs := [(4, seg4)], imports := [(6, imp6), (7, imp9)], apertures := [(aptKey 256 1, 6), (aptKey 256 2, 7)] })
  |> (fun s => ((s.setsI 4 [(Reg.FAB_SEG_INFO_STATE, 1)]).updTlt fun u => { u with wins := [(2, ⟨0, 2, 0, 2 ^ 21, 7, 5, 1⟩)] }).updHif fun u => { u with fns := [(256, { pf0 with kind := 3, bar4 := 2 ^ 20 })] })
/-- A pool atomic of address `a`: add 1. -/
def atomEntry (a : Nat) : Nat := 0xC0 + 513 * 2 ^ 32 + a * 2 ^ 64 + 1 * 2 ^ 192
/-- The fabric enabled in a role. -/
def discovering (role : Nat) : State :=
  (((onFabric ringed).sets [(Reg.FAB_CFG_ENABLE, 1), (Reg.FAB_ID_ROLE, role), (Reg.FAB_CFG_FABRIC_ID, 3)]).setI Reg.FAB_PORT_FABRIC 2 1).updSch fun u => { u with linkUp := [2] }
/-- A control packet of device 9. -/
def ctl9 (op ext : Nat) : TlPkt := ⟨1, op, 0, 2, 9, 1, 0, 0, 0, 0, 0, 0, 0, 0, ext, [], false, false⟩
/-- A neighbour 9 heard on MAC 2, long ago. -/
def heard9 : Heard := ⟨99, 4, some 9, some 9, 5, 1, 1, 2, 0⟩
def late (s : State) : State := s.updStk fun u => { u with boundary := 100000000 }
/-- A path 0 to device 9 in a state. -/
def pathIn (st : Nat) (x : PathX) : State := late (((discovering 3).setsI (pathKey 9 0) [(Reg.FAB_PATH_INFO_STATE, st), (Reg.FAB_PATH_INFO_MAC, 2)]).updFab fun u => { u with paths := [(pathKey 9 0, x)] })
/-- Long after reset, in SERVICE. -/
def at10m : State := ((inState 4).updStk fun u => { u with boundary := 10 ^ 7 }).set Reg.STK_COUNT_COUNT (2 ^ 24)
/-- A loop with a run to apply. -/
def run1 : RglRun := ⟨3, 2 ^ 23, 0, [⟨9, 0, 100, 50⟩]⟩
def looped (mode : Nat) (x : RglLoop) : State :=
  (((at10m.set Reg.RGL_CTL_FROZEN 0).setI Reg.RGL_LOOP_CFG_MODE 0 mode).updRgl fun u => { u with loops := [(0, x)] }).updTlt fun u => { u with peers := [(9, PeerX.fresh)] }
/-- A journal and a patina log with something in them. -/
def logged : State :=
  ((((hosted 4).updNch fun u => { u with niches := [(0, { NicheX.fresh false with intake := true })] }).sets [(Reg.JNL_HEAD_SEQ, 5), (Reg.PAT_HEAD_SEQ, 3)]).setsI 0
    [(Reg.NCH_INFO_STATE, 1), (Reg.NCH_INFO_BOUND, 1), (Reg.NCH_INFO_AP, 0), (Reg.NCH_INFO_RID, 256)])
/-- A unit in a state, selected for service commands. -/
def unitIn (kind index st : Nat) : State :=
  ((inState 4).sets [(Reg.SVC_CMD_ARG_KIND, kind), (Reg.SVC_CMD_ARG_INDEX, index)]).setI Reg.SVC_UNIT_INFO_STATE (unitKey kind index) st
/-- A register of the table. -/
def regAt (off : Nat) : RegDef := (Reg.table.find? fun d => d.off == off).getD ⟨off, 1, 0, 1, 0, .none, false, []⟩
def fieldAt (off k : Nat) : Field := (regAt off).fields.getD k Reg.RNG_SEL_RING

/-! ### The hypotheses of the obligations are met -/

/-- Operands and states that meet the hypotheses of StepRunsFrontCommand, clause by clause. -/
theorem test_meets_StepRunsFrontCommand :
    (∃ (c : Instr) (rest : List Instr) (s : State), s.pending = c :: rest) :=
  ⟨.standby plat, [.wake plat], State.reset.updPending fun _ => [.standby plat, .wake plat], by decide +kernel⟩

/-- Operands and states that meet the hypotheses of IdleStepKeepsState, clause by clause. -/
theorem test_meets_IdleStepKeepsState :
    (∃ (s : State), s.pending = []) :=
  ⟨State.reset, by decide +kernel⟩

/-- Operands and states that meet the hypotheses of EveryStepKeepsMemoryCanonical, clause by clause. -/
theorem test_meets_EveryStepKeepsMemoryCanonical :
    (∃ (s : State), s.memOk) :=
  ⟨State.reset.updMem fun _ => [(3, 7)], by decide +kernel⟩

/-- The same for both places of the metadata. -/
theorem test_meets_ext_1 (ext : Bool) :
    ∃ (h slot a k : Nat) (c : NvCmd) (x : NvCtrl) (l : List (Nat × Nat)) (blocks : List Byte) (s : State), c.ns = 3 ∧ ioReady s h 1 slot c ∧
      s.nvCtrl c.ctrl = some x ∧ (hostSpans x.page c.sqe (hostData ext (s.nsDesc c.ns) c.sqe (qNlb c.sqe)) c.data).toOption = some (l, k) ∧
      (blocksIn ext (s.nsDesc c.ns) c.sqe 0 (qNlb c.sqe) ((c.data.drop k).take (hostData ext (s.nsDesc c.ns) c.sqe (qNlb c.sqe)))
      (c.data.drop (k + hostData ext (s.nsDesc c.ns) c.sqe (qNlb c.sqe)))).toOption = some blocks ∧ (nsPlace s (s.nsDesc c.ns) (qSlba c.sqe
      * nStep (s.nsDesc c.ns)) blocks.length rightWrite).toOption = some (some a) := by
  cases ext <;> exact ⟨0, 0, 0, 0, nvcmd 1 (1 + 2 * 2 ^ 32 + 8192 * 2 ^ 192), nvc, [(8192, 512)], List.replicate 512 0, ready1 1 (1 + 2 * 2 ^ 32 + 8192 * 2 ^ 192), by decide +kernel⟩

/-- Operands and states that meet the hypotheses of StoringCommandsWriteOnlyTheirBytes, clause by clause. -/
theorem test_meets_StoringCommandsWriteOnlyTheirBytes :
    (∃ (addr dpa : Nat) (data : List Byte) (bad : Bool) (s : State), s.flag Reg.HIF_CXL_CXL_MODE = true ∧ s.flagI Reg.HIF_LINK_UP 2 = true ∧
      hdmDecode s addr = some dpa ∧ dpa < s.cxlBytes.2) ∧
    (∃ (s : State), s.flag Reg.HIF_CXL_CXL_MODE = true) ∧
    (∃ (hart addr value : Nat) (s : State), addr < 0x140000 ∧ s.debugRight (hartTile hart) 2 = true) ∧
    (∃ (hart addr value : Nat) (s : State), s.debugRight (hartTile hart) 3 = true ∧ s.debugNiche ≠ 0xFFFF ∧ (s.stackedQuota s.debugNiche).1
      ≤ addr ∧ addr < (s.stackedQuota s.debugNiche).1 + (s.stackedQuota s.debugNiche).2) ∧
    (∃ (who : Issuer) (off len : Nat) (d : List Byte) (i : Import) (x : Window) (size : Nat) (s : State), who.ap < 4 ∧ who.id < 65536 ∧
      s.fab.apt = [] ∧ aptSlotSize s (fnKey who.ap who.id) = size ∧ size ≠ 0 ∧ off / size < 64 ∧ (Map.find? s.fab.apertures (aptKey (fnKey
      who.ap who.id) (off / size))).bind (fun k => Map.find? s.fab.imports k) = some i ∧ off % size + d.length ≤ i.len ∧ poolStatus s
      i.niche i.key (i.base + off % size) d.length rightWrite St.fabImport = St.ok ∧ s.poolHere 3 (i.base + off % size) = true ∧ (localPool
      s i.key (fabOff (i.base + off % size)) d.length rightWrite).toOption = some x) ∧
    (∃ (h slot a k : Nat) (ext : Bool) (c : NvCmd) (x : NvCtrl) (l : List (Nat × Nat)) (blocks : List Byte) (s : State), Config.extendedLba
      c.ns = ext ∧ ioReady s h 1 slot c ∧ s.nvCtrl c.ctrl = some x ∧ (hostSpans x.page c.sqe (hostData ext (s.nsDesc c.ns) c.sqe (qNlb
      c.sqe)) c.data).toOption = some (l, k) ∧ (blocksIn ext (s.nsDesc c.ns) c.sqe 0 (qNlb c.sqe) ((c.data.drop k).take (hostData ext
      (s.nsDesc c.ns) c.sqe (qNlb c.sqe))) (c.data.drop (k + hostData ext (s.nsDesc c.ns) c.sqe (qNlb c.sqe)))).toOption = some blocks ∧
      (nsPlace s (s.nsDesc c.ns) (qSlba c.sqe * nStep (s.nsDesc c.ns)) blocks.length rightWrite).toOption = some (some a)) ∧
    (∃ (h slot a : Nat) (c : NvCmd) (s : State), ioReady s h 8 slot c ∧ (nsPlace s (s.nsDesc c.ns) (qSlba c.sqe * nStep (s.nsDesc c.ns))
      (zeroBlocks (s.nsDesc c.ns) (qNlb c.sqe)).length rightWrite).toOption = some (some a)) :=
  ⟨⟨128, 128, [7, 8], false, cxl, by decide +kernel⟩,
   ⟨cxl, by decide +kernel⟩,
   ⟨3, 16, 9, (inState 4).setsI 0 [(Reg.TIL_DBG_UNLOCKED, 1), (Reg.TIL_DBG_RIGHTS, 15)], by decide +kernel⟩,
   ⟨3, 5, 7, ((inState 4).setsI 0 [(Reg.TIL_DBG_UNLOCKED, 1), (Reg.TIL_DBG_RIGHTS, 15), (Reg.NCH_STACKED_LEN_MIB, 1)]).updArm fun u => { u with unlock := some (0, 9) }, by decide +kernel⟩,
   ⟨mgrHost, 2 ^ 14 + 64, 8, [1, 2], imp6, ⟨0, 2, 0, 2 ^ 21, 7, 5, 1⟩, 2 ^ 14, pooled 0, by decide +kernel⟩,
   (let ⟨h, slot, a, k, c, x, l, blocks, s, hn, hr⟩ := test_meets_ext_1 (Config.extendedLba 3); ⟨h, slot, a, k, Config.extendedLba 3, c, x, l, blocks, s, by rw [hn], hr⟩),
   ⟨0, 0, 512, nvcmd 1 (8 + 2 * 2 ^ 32 + 2 ^ 320), ready1 1 (8 + 2 * 2 ^ 32 + 2 ^ 320), by decide +kernel⟩⟩

/-- Operands and states that meet the hypotheses of LaunchBeyondHorizonIsRefused, clause by clause. -/
theorem test_meets_LaunchBeyondHorizonIsRefused :
    (∃ (w : Work) (f : Flight) (q : Nat) (s : State), takes s w 1 f ∧ Map.find? s.sch.local_ (localKey f.niche (byteField f.entry 24 25)) =
      some q ∧ bit (wFlags f.entry) 2 = 1 ∧ s.stk.phcNs / s.period + s.effI Reg.STK_LAUNCH_CFG_HORIZON (s.queuePort q) < expandTime
      s.stk.phcNs (byteField f.entry 16 23) / s.period) :=
  ⟨workOf (1 + 4 * 2 ^ 8 + 9 * 2 ^ 158), flightOf (1 + 4 * 2 ^ 8 + 9 * 2 ^ 158), 0, (taken (1 + 4 * 2 ^ 8 + 9 * 2 ^ 158)).updSch fun u =>
    { u with local_ := [(localKey 5 0, 0)] }, by decide +kernel⟩

/-- Operands and states that meet the hypotheses of DmaShapeIsCheckedAtIntake, clause by clause. -/
theorem test_meets_DmaShapeIsCheckedAtIntake :
    (∃ (w : Work) (f : Flight) (s : State), takes s w 0x40 f ∧ wOpcode f.entry = 0x40 ∧ spaceAllowed f (dDstSpace f.entry) = true ∧
      spaceAllowed f (dSrcSpace f.entry) = true ∧ ¬ (dSrcSpace f.entry = 3 ∧ dDstSpace f.entry = 3) ∧ ¬ (1 ≤ dDstLine f.entry ∧ dDstLine
      f.entry ≤ 16777216 ∧ 1 ≤ dDstLines f.entry ∧ dDstLines f.entry ≤ 16777216 ∧ dTotal f.entry ≤ 4294967295 ∧ 1 ≤ dSrcLine f.entry ∧
      dSrcLine f.entry ≤ 16777216 ∧ 1 ≤ dSrcLines f.entry ∧ dSrcLines f.entry ≤ 16777216 ∧ dSrcLine f.entry * dSrcLines f.entry = dDstLine
      f.entry * dDstLines f.entry)) ∧
    (∃ (w : Work) (f : Flight) (s : State), takes s w 0x41 f ∧ wOpcode f.entry = 0x41 ∧ spaceAllowed f (dDstSpace f.entry) = true ∧ ¬ (1 ≤
      dDstLine f.entry ∧ dDstLine f.entry ≤ 16777216 ∧ 1 ≤ dDstLines f.entry ∧ dDstLines f.entry ≤ 16777216 ∧ dTotal f.entry ≤ 4294967295))
      :=
  ⟨⟨⟨7, 0x40 + 1 * 2 ^ 32 + 1 * 2 ^ 40 + 4096 * 2 ^ 128 + 9 * 2 ^ 192 + 8 * 2 ^ 224 + 1 * 2 ^ 320 + 1 * 2 ^ 352⟩, ⟨1, 7, 0, 0x40 + 1 * 2 ^ 32 + 1 * 2 ^ 40 + 4096 * 2 ^ 128 + 9 * 2 ^ 192 + 8 * 2 ^ 224 + 1 * 2 ^ 320 + 1 * 2 ^ 352, false, [], none, none⟩, ringed.updRng fun u => { u with flights := [⟨1, 7, 0, 0x40 + 1 * 2 ^ 32 + 1 * 2 ^ 40 + 4096 * 2 ^ 128 + 9 * 2 ^ 192 + 8 * 2 ^ 224 + 1 * 2 ^ 320 + 1 * 2 ^ 352, false, [], none, none⟩] }, by decide +kernel⟩,
   ⟨⟨7, 0x41 + 1 * 2 ^ 40 + 8 * 2 ^ 224⟩, ⟨1, 7, 0, 0x41 + 1 * 2 ^ 40 + 8 * 2 ^ 224, false, [], none, none⟩, ringed.updRng fun u => { u with flights := [⟨1, 7, 0, 0x41 + 1 * 2 ^ 40 + 8 * 2 ^ 224, false, [], none, none⟩] }, by decide +kernel⟩⟩

/-- Operands and states that meet the hypotheses of FlushRemovesLearnedEntriesOnly, clause by clause. -/
theorem test_meets_FlushRemovesLearnedEntriesOnly :
    (∃ (who : Issuer) (n : Nat) (s : State), tableOpen s who ∧ s.get Reg.TBL_CMD_ARG_TABLE = n ∧ s.tblKind n 1 = true ∧ s.flagI
      Reg.TBL_INFO_L2 n = true) :=
  ⟨mgr, 1, (tabled1 4 entry5).set Reg.TBL_CMD_ARG_TABLE 1, by decide +kernel⟩

/-- Operands and states that meet the hypotheses of ProtectionDomainsAreUniqueAndHeldWhileUsed, clause by clause. -/
theorem test_meets_ProtectionDomainsAreUniqueAndHeldWhileUsed :
    (∃ (w : Work) (f : Flight) (s : State), takes s w 0x1D f ∧ s.flag Reg.JNL_STATUS_REGION_READY = true ∧ s.quotaLeft f.niche 7 ≠ 0 ∧
      s.tlt.pds.length < 65536) ∧
    (∃ (w : Work) (f : Flight) (s : State), takes s w 0x1D f ∧ s.flag Reg.JNL_STATUS_REGION_READY = true ∧ s.quotaLeft f.niche 7 = 0) ∧
    (∃ (w : Work) (f : Flight) (d : Nat) (s : State), takes s w 0x1E f ∧ s.flag Reg.JNL_STATUS_REGION_READY = true ∧ ePd f.entry = d ∧
      Map.find? s.tlt.pds d = some f.niche ∧ ((∃ p ∈ s.tlt.eps, p.2.pd = d) ∨ ∃ p ∈ s.tlt.wins, p.2.pd = d ∧ p.2.space ≠ 2)) :=
  ⟨⟨workOf 0x1D, flightOf 0x1D, (onFabric (taken 0x1D)).setI Reg.NCH_QUOTA_LIMIT (quotaKey 5 7) 8, by decide +kernel⟩,
   ⟨workOf 0x1D, flightOf 0x1D, onFabric (taken 0x1D), by decide +kernel⟩,
   ⟨workOf (0x1E + 1 * 2 ^ 32), flightOf (0x1E + 1 * 2 ^ 32), 1, onFabric (taken (0x1E + 1 * 2 ^ 32)), by decide +kernel⟩⟩

/-- Operands and states that meet the hypotheses of CriticalTemperatureAndCapRaiseAlert, clause by clause. -/
theorem test_meets_CriticalTemperatureAndCapRaiseAlert :
    (∃ (sensor : Nat) (hot : Int) (s : State), (s.get Reg.PWR_THERM_T_CRIT : Int) ≤ hot) :=
  ⟨2, 106, inState 4, by decide +kernel⟩

/-- Operands and states that meet the hypotheses of StrokeCommandsComplete, clause by clause. -/
theorem test_meets_StrokeCommandsComplete :
    (∃ (env : Env) (s : State), s.stk.counting = true) ∧
    (∃ (b v : Nat) (s : State), s.stk.counting = true ∧ b ≤ s.stk.boundary ∧ s.deferred = [(b, .field Reg.STK_CTL_PERIOD 0 v)]) ∧
    (∃ (hart : Nat) (missed : Bool) (s : State), s.running = true ∧ s.inP1 = false ∧ hartOk hart = true ∧ bit (s.getI Reg.TIL_INFO_SB_MASK
      (hartTile hart)) (hartThread hart) ≠ 0 ∧ (s.thread hart).stroke = true ∧ (missed = true → (s.thread hart).missed ≠ 0) ∧ tileExempt s
      (hartTile hart) = false) ∧
    (∃ (kind index : Nat) (s : State), s.running = true ∧ 1 ≤ kind ∧ kind ≤ 5 ∧ (kind = 2 → s.stk.timerBacklog = 0) ∧ (kind = 1 →
      s.unitState 6 index ≠ 3)) ∧
    (∃ (p : PendStep) (s : State), s.stk.step = some p ∧ p.held = false ∧ p.due ≤ s.stk.boundary + 1) :=
  ⟨⟨⟨40, 0, 40, 40, 50⟩, (inState 4).updStk fun u => { u with counting := true }, by decide +kernel⟩,
   ⟨0, 2, ((inState 4).updStk fun u => { u with counting := true }).updDeferred fun _ => [(0, .field Reg.STK_CTL_PERIOD 0 2)], by decide +kernel⟩,
   ⟨3, false, updThread 3 (fun x => { x with stroke := true }) ((inState 4).setI Reg.TIL_INFO_SB_MASK 0 8), by decide +kernel⟩,
   ⟨1, 5, inState 4, by decide +kernel⟩,
   ⟨⟨5, 1, false⟩, (inState 5).updStk fun u => { u with step := some ⟨5, 1, false⟩ }, by decide +kernel⟩⟩

/-- Operands and states that meet the hypotheses of ClockWritesComplete, clause by clause. -/
theorem test_meets_ClockWritesComplete :
    (∃ (who : Issuer) (ns : Nat) (s : State), writeOpen s who 0x100038 ∧ s.running = true ∧ s.dev ≠ 4 ∧ s.stk.realign = none) ∧
    (∃ (who : Issuer) (rate : Nat) (s : State), writeOpen s who 0x100030 ∧ s.stk.slewPs = 0) ∧
    (∃ (who : Issuer) (atStroke : Nat) (s : State), writeOpen s who 0x100040 ∧ s.running = true ∧ s.stk.realignLatched = false ∧ 2 ≤
      realignAhead s.stroke atStroke ∧ realignAhead s.stroke atStroke ≤ 2 ^ 20) ∧
    (∃ (who : Issuer) (atStroke : Nat) (s : State), writeOpen s who 0x100040 ∧ s.running = true ∧ s.stk.realignLatched = false) ∧
    (∃ (n : Nat) (s : State), s.stk.realign = some n ∧ n ≤ s.stroke) ∧
    (∃ (who : Issuer) (offset : Nat) (s : State), writeOpen s who 0x100050) ∧
    (∃ (s : State), s.get Reg.STK_ALIGN_CFG_HOLD ≠ 0 ∧ s.get Reg.STK_ALIGN_CFG_HOLD ≤ s.stk.alignHold ∧ s.get Reg.STK_STATUS_ALIGN ≠ 0) :=
  ⟨⟨plat, 1000, inState 5, by decide +kernel⟩,
   ⟨mgr, 600000000, (inState 5).set Reg.HIF_MGR_VACANT 0, by decide +kernel⟩,
   ⟨plat, 77, inState 5, by decide +kernel⟩,
   ⟨plat, 77, (inState 5).updStk fun u => { u with realign := some 9, step := some ⟨1, 2, true⟩ }, by decide +kernel⟩,
   ⟨0, (inState 5).updStk fun u => { u with realign := some 0, step := some ⟨1, 2, true⟩ }, by decide +kernel⟩,
   ⟨plat, 12, inState 5, by decide +kernel⟩,
   ⟨((inState 5).set Reg.STK_STATUS_ALIGN 1).updStk fun u => { u with alignHold := 3906250 }, by decide +kernel⟩⟩

/-- Operands and states that meet the hypotheses of TimeCommandsComplete, clause by clause. -/
theorem test_meets_TimeCommandsComplete :
    (∃ (who : Issuer) (ns frac : Nat) (s : State), readOpen s 0x100020 ∧ s.stk.phcRunning = true) ∧
    (∃ (who : Issuer) (mac : Nat) (s : State), readOpen s (0x100200 + 16 * mac)) ∧
    (∃ (who : Issuer) (s : State), readOpen s 0x100408) ∧
    (∃ (msg ms : Nat) (s : State), todAccepted msg ms = true) :=
  ⟨⟨mgr, 5, 6, (inState 4).updStk fun u => { u with phcRunning := true, phcNs := 7000000000 }, by decide +kernel⟩,
   ⟨plat, 3, inState 4, by decide +kernel⟩,
   ⟨plat, inState 4, by decide +kernel⟩,
   ⟨0x5A + 0xA5 * 2 ^ 8 + 2 ^ 16 + 12 * 2 ^ 24 + 5 * 2 ^ 32 + 2 ^ 112 + 9 * 2 ^ 120, 500, inState 4, by decide +kernel⟩⟩

/-- Operands and states that meet the hypotheses of ArmatureCommandsComplete, clause by clause. -/
theorem test_meets_ArmatureCommandsComplete :
    (∃ (who : Issuer) (image : Image) (token : Option Token) (flashOk : Bool) (s : State), armOpen s 1 who ∧ (who.role = .platform ∧
      image.len ≤ 67108864 ∨ who.role = .manager ∧ s.get Reg.ARM_STAGE_LEN_LEN ≤ 67108864) ∧ flashOk = true) ∧
    (∃ (who : Issuer) (m : Image) (s : State), armOpen s 2 who ∧ (who.role = .platform ∨ who.role = .manager) ∧ s.arm.staged = some m ∧
      s.running = true ∧ s.get Reg.ARM_CMD_ARG ≤ 1 ∧ (s.get Reg.ARM_CMD_ARG = 1 → s.dev = 5 ∧ 2 ≤ standbyTiles s) ∧ s.arm.maq = none) ∧
    (∃ (findings warnings : Nat) (report : List Byte) (q : MaqRun) (s : State), s.arm.maq = some q) ∧
    (∃ (who : Issuer) (flashOk : Bool) (m : Image) (s : State), armOpen s 4 who ∧ who.role = .manager ∧ flashOk = true ∧ s.arm.lastDone =
      some m ∧ s.arm.staged = some m ∧ ((Map.find? s.arm.armSlots (s.get Reg.ARM_BOOTDESC_ARM_SLOT)).getD []).length < 16 ∧ slotUsed
      ((Map.find? s.arm.armSlots (s.get Reg.ARM_BOOTDESC_ARM_SLOT)).getD []) + m.len ≤ 67108864) ∧
    (∃ (who : Issuer) (flashOk : Bool) (m : Image) (s : State), armOpen s 5 who ∧ (who.role = .platform ∨ who.role = .manager) ∧ flashOk =
      true ∧ s.arm.staged = some m ∧ s.get Reg.ARM_CMD_ARG = 0 ∧ m.len ≤ 67108864 ∧ imageCode26 s 0 67108864 m = 0) ∧
    (∃ (who : Issuer) (flashOk : Bool) (m : Image) (s : State), armOpen s 5 who ∧ (who.role = .platform ∨ who.role = .manager) ∧ flashOk =
      true ∧ s.arm.staged = some m ∧ s.get Reg.ARM_CMD_ARG = 1 ∧ m.len ≤ 16777216 ∧ imageCode26 s 2 16777216 m = 0) ∧
    (∃ (who : Issuer) (arg : Nat) (flashOk : Bool) (s : State), armOpen s 6 who ∧ who.role = .platform ∧ flashOk = true) ∧
    (∃ (who : Issuer) (offset op : Nat) (s : State), writeOpen s who offset ∧ offset = 0x200060 ∧ s.flag Reg.ARM_CMD_BUSY = false) ∧
    (∃ (who : Issuer) (offset op : Nat) (b : CmdBlk) (s : State), (offset, b) ∈ [(0x400000, Blk.nch), (0x500000, Blk.rng), (0xA00000,
      Blk.prs), (0xB00000, Blk.tbl), (0xC00000, Blk.sch), (0xE00000, Blk.nvs), (0x1000000, Blk.fab), (0x1200030, Blk.jnl), (0x1400000,
      Blk.svc), (0x1500000, Blk.pwr)] ∧ writeOpen s who offset ∧ s.flag b.busy = false) ∧
    (∃ (pm : Image) (s : State), s.dev = 2 ∧ Map.find? s.arm.plinthSlots ((putBootDesc s).get Reg.ARM_BOOTDESC_PLINTH_SLOT) = some pm ∧
      imageCode26 (putBootDesc s) 2 16777216 pm = 0 ∧ slotCode (putBootDesc s) ((putBootDesc s).get Reg.ARM_BOOTDESC_ARM_SLOT) = 0) :=
  ⟨⟨plat, goodImage 0, none, true, inState 4, by decide +kernel⟩,
   ⟨plat, goodImage 0, staged 4 (goodImage 0), by decide +kernel⟩,
   ⟨1, 2, [], ⟨0, 5, 1, 77⟩, (inState 4).updArm fun u => { u with maq := some ⟨0, 5, 1, 77⟩ }, by decide +kernel⟩,
   ⟨mgr, true, goodImage 1, (staged 4 (goodImage 1)).updArm fun u => { u with lastDone := some (goodImage 1) }, by decide +kernel⟩,
   ⟨plat, true, goodImage 0, staged 4 (goodImage 0), by decide +kernel⟩,
   ⟨plat, true, goodImage 2, (staged 4 (goodImage 2)).set Reg.ARM_CMD_ARG 1, by decide +kernel⟩,
   ⟨plat, 1, true, inState 4, by decide +kernel⟩,
   ⟨plat, 0x200060, 99, inState 4, by decide +kernel⟩,
   ⟨plat, 0x500000, 99, Blk.rng, inState 4, by decide +kernel⟩,
   ⟨goodImage 2, (inState 2).updArm fun u => { u with plinthSlots := [(0, goodImage 2)], armSlots := [(0, [goodImage 0])] }, by decide +kernel⟩⟩

/-- Operands and states that meet the hypotheses of JobAndTokenCommandsComplete, clause by clause. -/
theorem test_meets_JobAndTokenCommandsComplete :
    (∃ (who : Issuer) (m : Image) (s : State), armOpen s 3 who ∧ who.role = .manager ∧ s.arm.staged = some m ∧ s.running = true ∧
      stateAllows s.dev m = true ∧ ((maskUnits s m.partMask).any fun k => s.getI Reg.SVC_UNIT_INFO_STATE k != 0 || (decide (k < 128) &&
      s.flagI Reg.TIL_INFO_DEBUG_HELD k)) = false) ∧
    (∃ (j : Job) (s : State), s.arm.job = some j ∧ s.get Reg.ARM_JOB_PHASE = 1) ∧
    (∃ (s : State), s.arm.job.isSome = true ∧ s.get Reg.ARM_JOB_PHASE = 2) ∧
    (∃ (j : Job) (s : State), s.arm.job = some j ∧ s.get Reg.ARM_JOB_PHASE = 2 ∧ j.since + clamp 256 16777216 (s.get
      Reg.ARM_DRAIN_LIMIT_LIMIT) ≤ s.stk.boundary) ∧
    (∃ (pass : Bool) (s : State), s.arm.job.isSome = true ∧ s.get Reg.ARM_JOB_PHASE = 4) ∧
    (∃ (j : Job) (s : State), s.arm.job = some j ∧ s.get Reg.ARM_JOB_PHASE = 5) ∧
    (∃ (who : Issuer) (s : State), readOpen s 0x200070) ∧
    (∃ (who : Issuer) (s : State), armOpen s 8 who ∧ who.role = .manager ∧ s.arm.job.isSome = true ∧ (s.get Reg.ARM_JOB_PHASE = 1 ∨ s.get
      Reg.ARM_JOB_PHASE = 2)) ∧
    (∃ (who : Issuer) (tk : Token) (a : Nat) (s : State), armOpen s 7 who ∧ (who.role = .platform ∨ who.role = .manager) ∧ tokenHolds s 1 tk
      ∧ byteField tk.bytes 3 3 = a ∧ (a = 1 ∨ a = 2 ∨ a = 5) ∧ s.getI Reg.ARM_TALLY_REMAINING a ≠ 0) ∧
    (∃ (who : Issuer) (tk : Token) (s : State), armOpen s 7 who ∧ (who.role = .platform ∨ who.role = .manager) ∧ tokenHolds s 2 tk ∧ s.getI
      Reg.ARM_TALLY_REMAINING 0 ≠ 0) ∧
    (∃ (who : Issuer) (tk : Token) (s : State), armOpen s 7 who ∧ (who.role = .platform ∨ who.role = .manager) ∧ tokenHolds s 3 tk ∧
      s.arm.debugDisabled = false) ∧
    (∃ (who : Issuer) (tk : Token) (a : Nat) (s : State), armOpen s 7 who ∧ (who.role = .platform ∨ who.role = .manager) ∧ tokenHolds s 4 tk
      ∧ byteField tk.bytes 3 3 = a ∧ (a = 3 ∨ a = 4) ∧ byteField tk.bytes 20 20 = 1) ∧
    (∃ (who : Issuer) (tk : Token) (a : Nat) (s : State), armOpen s 7 who ∧ (who.role = .platform ∨ who.role = .manager) ∧ tokenHolds s 4 tk
      ∧ byteField tk.bytes 3 3 = a ∧ (a = 3 ∨ a = 4) ∧ byteField tk.bytes 20 20 = 4) ∧
    (∃ (s : State), s.arm.unlock.isSome = true) :=
  ⟨⟨mgr, goodImage 1, staged 4 (goodImage 1), by decide +kernel⟩,
   ⟨⟨goodImage 1, 0⟩, withJob 1 (goodImage 1), by decide +kernel⟩,
   ⟨withJob 2 (goodImage 1), by decide +kernel⟩,
   ⟨⟨goodImage 1, 0⟩, (withJob 2 (goodImage 1)).updStk fun u => { u with boundary := 16777216 }, by decide +kernel⟩,
   ⟨true, withJob 4 (goodImage 1), by decide +kernel⟩,
   ⟨⟨goodImage 1, 0⟩, withJob 5 (goodImage 1), by decide +kernel⟩,
   ⟨mgr, (inState 4).set Reg.ARM_JOB_PHASE 6, by decide +kernel⟩,
   ⟨mgr, withJob 2 (goodImage 1), by decide +kernel⟩,
   ⟨plat, goodToken 1 2 0, 2, (inState 4).updArm fun u => { u with stagedToken := some (goodToken 1 2 0) }, by decide +kernel⟩,
   ⟨plat, goodToken 2 0 99, (inState 4).updArm fun u => { u with stagedToken := some (goodToken 2 0 99) }, by decide +kernel⟩,
   ⟨plat, goodToken 3 0 5, (inState 4).updArm fun u => { u with stagedToken := some (goodToken 3 0 5) }, by decide +kernel⟩,
   ⟨plat, goodToken 4 3 (1 + 2 * 256), 3, (inState 4).updArm fun u => { u with stagedToken := some (goodToken 4 3 (1 + 2 * 256)) }, by decide +kernel⟩,
   ⟨plat, goodToken 4 4 (4 + 2 * 256), 4, (inState 4).updArm fun u => { u with stagedToken := some (goodToken 4 4 (4 + 2 * 256)) }, by decide +kernel⟩,
   ⟨(inState 4).updArm fun u => { u with unlock := some (3, 4) }, by decide +kernel⟩⟩

/-- Operands and states that meet the hypotheses of HostLinkCommandsComplete, clause by clause. -/
theorem test_meets_HostLinkCommandsComplete :
    (∃ (ap : Nat) (s : State), ap < 4 ∧ s.apUsed ap = true ∧ 2 ≤ s.dev) ∧
    (∃ (ap : Nat) (s : State), ap < 4 ∧ s.flagI Reg.HIF_LINK_UP ap = true) ∧
    (∃ (ap speed width : Nat) (flit : Bool) (s : State), ap < 4 ∧ ap ∈ s.hif.training) ∧
    (∃ (ap : Nat) (s : State), ap < 4 ∧ s.flagI Reg.HIF_LINK_UP ap = true) ∧
    (∃ (who : Issuer) (h value : Nat) (s : State), h < 2 ∧ writeOpen s who (0x300000 + 8 * h)) ∧
    (∃ (ap rid op value : Nat) (f : Fn) (s : State), s.flagI Reg.HIF_LINK_UP ap = true ∧ Map.find? s.hif.fns (fnKey ap rid) = some f ∧
      configStatus s ap rid = 0) ∧
    (∃ (ap rid : Nat) (f : Fn) (s : State), ap < 4 ∧ Map.find? s.hif.fns (fnKey ap rid) = some f ∧ s.fnExists f = true ∧ s.flagI
      Reg.HIF_FN_INFO_FLR_BUSY f.key = false) ∧
    (∃ (ap rid : Nat) (s : State), s.flagI Reg.HIF_FN_INFO_FLR_BUSY (fnKey ap rid) = true) ∧
    (∃ (ap : Nat) (s : State), s.flagI Reg.HIF_LINK_UP ap = true) ∧
    (∃ (ap : Nat) (s : State), ap < 4 ∧ s.apUsed ap = true ∧ 2 ≤ s.dev) :=
  ⟨⟨0, hosted 4, by decide +kernel⟩,
   ⟨2, hosted 4, by decide +kernel⟩,
   ⟨0, 6, 16, true, (inState 4).updHif fun u => { u with training := [0] }, by decide +kernel⟩,
   ⟨0, hosted 4, by decide +kernel⟩,
   ⟨plat, 0, 0x205, hosted 4, by decide +kernel⟩,
   ⟨0, 256, 1, 1, pf0, hosted 4, by decide +kernel⟩,
   ⟨0, 256, pf0, hosted 4, by decide +kernel⟩,
   ⟨0, 256, (hosted 4).setI Reg.HIF_FN_INFO_FLR_BUSY 256 1, by decide +kernel⟩,
   ⟨0, (hosted 4).updHif fun u => { u with fns := [(256, { pf0 with notReady := true })] }, by decide +kernel⟩,
   ⟨0, hosted 4, by decide +kernel⟩⟩

/-- Operands and states that meet the hypotheses of ManagerRoleCommandsComplete, clause by clause. -/
theorem test_meets_ManagerRoleCommandsComplete :
    (∃ (who : Issuer) (s : State), who.role = .manager ∧ s.mayWriteRegs who = true ∧ s.blockAnswers 0x3000D8 = true) ∧
    (∃ (s : State), s.hif.hbArmed = true ∧ s.get Reg.HIF_MGR_HB_LIMIT ≠ 0 ∧ s.get Reg.HIF_MGR_HB_LIMIT ≤ s.hif.hbCount ∧ s.flag
      Reg.HIF_MGR_VACANT = false ∧ s.recoveryRole = false) ∧
    (∃ (who : Issuer) (both : Bool) (s : State), s.blockAnswers 0x3000E0 = true ∧ s.jReady who = true ∧ both = false ∧ s.flag
      Reg.HIF_MGR_VACANT = false ∧ s.issuerIs who s.mgrActive = true ∧ s.mgrReady s.mgrStandby.1 s.mgrStandby.2 = true) ∧
    (∃ (who : Issuer) (s : State), s.blockAnswers 0x3000E0 = true ∧ s.jReady who = true ∧ s.issuerIs who s.mgrStandby = true ∧ s.mgrReady
      s.mgrStandby.1 s.mgrStandby.2 = true ∧ (s.flag Reg.HIF_MGR_VACANT = true ∨ s.issuerIs who s.mgrActive = false ∧ s.hif.lost = true ∧
      s.flag Reg.HIF_MGR_AUTO_FAILOVER = false)) ∧
    (∃ (c : Nat × Nat) (s : State), s.hif.claim = some c ∧ s.mgrReady c.1 c.2 = true ∧ (s.flag Reg.HIF_MGR_VACANT = true ∨ s.hif.lost =
      true)) ∧
    (∃ (ap pf : Nat) (s : State), s.flag Reg.HIF_MGR_VACANT = true ∧ s.flag Reg.HIF_MGR_AUTO_FAILOVER = true ∧ s.mgrReady ap pf = true ∧
      (s.mgrStandby = (ap, pf) ∨ s.mgrActive = (ap, pf))) :=
  ⟨⟨mgrHost, hosted 4, by decide +kernel⟩,
   ⟨(hosted 4).updHif fun u => { u with hbArmed := true, hbCount := 4000000 }, by decide +kernel⟩,
   ⟨mgrHost, false, hosted 4, by decide +kernel⟩,
   ⟨stdHost, (hosted 4).set Reg.HIF_MGR_VACANT 1, by decide +kernel⟩,
   ⟨(2, 0), (hosted 4).updHif fun u => { u with claim := some (2, 0), lost := true }, by decide +kernel⟩,
   ⟨2, 0, (hosted 4).set Reg.HIF_MGR_VACANT 1, by decide +kernel⟩⟩

/-- Operands and states that meet the hypotheses of LinkSecurityAndCxlCommandsComplete, clause by clause. -/
theorem test_meets_LinkSecurityAndCxlCommandsComplete :
    (∃ (ap index pf : Nat) (link : Bool) (f : Fn) (s : State), s.pfOf ap pf = some f ∧ s.fnExists f = true ∧ s.flagI Reg.HIF_LINK_UP ap =
      true) ∧
    (∃ (ap rid msg : Nat) (s : State), s.flagI Reg.HIF_FN_INFO_EXISTS (fnKey ap rid) = true ∧ (msg = 1 ∧ s.getI Reg.HIF_FN_INFO_TDI_STATE
      (fnKey ap rid) ≤ 1 ∨ msg = 2 ∧ s.getI Reg.HIF_FN_INFO_TDI_STATE (fnKey ap rid) = 2 ∨ msg = 3 ∧ s.getI Reg.HIF_FN_INFO_TDI_STATE (fnKey
      ap rid) ≠ 0)) ∧
    (∃ (ap rid : Nat) (s : State), s.flagI Reg.HIF_FN_INFO_EXISTS (fnKey ap rid) = true ∧ (s.getI Reg.HIF_FN_INFO_TDI_STATE (fnKey ap rid) =
      2 ∨ s.getI Reg.HIF_FN_INFO_TDI_STATE (fnKey ap rid) = 3)) ∧
    (∃ (addr dpa : Nat) (data : List Byte) (write bad : Bool) (s : State), s.flag Reg.HIF_CXL_CXL_MODE = true ∧ s.flagI Reg.HIF_LINK_UP 2 =
      true ∧ hdmDecode s addr = some dpa ∧ dpa < s.cxlBytes.2) ∧
    (∃ (decoder base size ways gran : Nat) (commit : Bool) (s : State), s.flag Reg.HIF_CXL_CXL_MODE = true) ∧
    (∃ (op input : Nat) (s : State), s.flag Reg.HIF_CXL_CXL_MODE = true) ∧
    (∃ (s : State), s.flag Reg.HIF_CXL_CXL_MODE = true) :=
  ⟨⟨0, 3, 0, false, pf0, hosted 4, by decide +kernel⟩,
   ⟨0, 256, 1, hosted 4, by decide +kernel⟩,
   ⟨0, 256, (hosted 4).setI Reg.HIF_FN_INFO_TDI_STATE 256 3, by decide +kernel⟩,
   ⟨128, 128, [7, 8], true, false, cxl, by decide +kernel⟩,
   ⟨1, 2 ^ 28, 2 ^ 28, 1, 0, true, cxl, by decide +kernel⟩,
   ⟨0x4000, 0, cxl, by decide +kernel⟩,
   ⟨cxl, by decide +kernel⟩⟩

/-- Operands and states that meet the hypotheses of NicheLifeCommandsComplete, clause by clause. -/
theorem test_meets_NicheLifeCommandsComplete :
    (∃ (who : Issuer) (desc n : Nat) (s : State), managerCmd s Blk.nch 0x400000 who ∧ ndValid desc = true ∧ s.poolHas desc = true ∧ n < 4096
      ∧ (byteField desc 2 3 = n ∧ Map.find? s.nch.niches n = none ∨ byteField desc 2 3 = 0xFFFF ∧ lowestFree 4096 1 (s.nch.niches.map (·.1))
      = some n) ∧ (ndQuota desc 12 = 0 ∨ (lowestFit s.stackedUsed 1 (ndQuota desc 12) s.nch.region.2).isSome = true)) ∧
    (∃ (who : Issuer) (n arg page : Nat) (f : Fn) (s : State), nicheCmd s who n ∧ s.get Reg.NCH_CMD_ARG_ARG = arg ∧ Map.find? s.hif.fns
      (fnKey (bits arg 17 16) (bits arg 15 0)) = some f ∧ f.kind ≠ 0 ∧ s.tdiLocked n = false ∧ s.getI Reg.HIF_FN_INFO_TDI_STATE (fnKey (bits
      arg 17 16) (bits arg 15 0)) ≠ 2 ∧ s.getI Reg.HIF_FN_INFO_TDI_STATE (fnKey (bits arg 17 16) (bits arg 15 0)) ≠ 3 ∧ s.flagI
      Reg.HIF_FN_INFO_EXISTS (fnKey (bits arg 17 16) (bits arg 15 0)) = true ∧ s.flagI Reg.NCH_INFO_BOUND n = false ∧ ((s.boundTo (fnKey
      (bits arg 17 16) (bits arg 15 0))).any fun m => s.getI Reg.NCH_INFO_PASID_VALID m == bit arg 63 && (bit arg 63 == 0 || s.getI
      Reg.NCH_INFO_PASID m == bits arg 51 32)) = false ∧ lowestFree (f.pages + 1) 0 ((s.boundTo (fnKey (bits arg 17 16) (bits arg 15
      0))).map fun m => s.getI Reg.NCH_INFO_PAGE m) = some page ∧ page < f.pages) ∧
    (∃ (who : Issuer) (n : Nat) (s : State), nicheCmd s who n ∧ s.tdiLocked n = false ∧ s.nicheState n = 3 ∧ s.flagI Reg.NCH_INFO_BOUND n =
      true) ∧
    (∃ (who : Issuer) (n : Nat) (s : State), nicheCmd s who n ∧ s.nicheState n = 1) ∧
    (∃ (niche : Nat) (x : NicheX) (s : State), Map.find? s.nch.niches niche = some x ∧ s.nicheState niche = 2 ∧ x.intake = false ∧
      (s.rng.flights.all fun f => f.niche != niche) = true) ∧
    (∃ (who : Issuer) (n : Nat) (s : State), nicheCmd s who n ∧ s.nicheState n = 3 ∧ s.flagI Reg.NCH_INFO_BOUND n = true) ∧
    (∃ (who : Issuer) (n : Nat) (s : State), nicheCmd s who n) ∧
    (∃ (niche : Nat) (x : NicheX) (s : State), Map.find? s.nch.niches niche = some x ∧ s.nicheState niche = 4 ∧ x.started = true ∧
      (s.rng.flights.any fun f => f.niche == niche && (f.port.isNone || niche != 0)) = false ∧ (s.tlt.fences.any fun e => e.niche == niche)
      = false) ∧
    (∃ (who : Issuer) (n : Nat) (s : State), nicheCmd s who n ∧ n ≠ 0 ∧ s.nicheState n = 3) ∧
    (∃ (niche : Nat) (x : NicheX) (s : State), Map.find? s.nch.niches niche = some x ∧ s.nicheState niche = 5 ∧ x.zero = true) :=
  ⟨⟨mgr, 0xFFFF0000 + 2 * 2 ^ 32, 6, ((hosted 4).setI Reg.NCH_POOL_INFO_FREE 15 4).setI Reg.NCH_POOL_INFO_FREE 0 9 |>.updNch fun u => { u with niches := [(0, NicheX.fresh false), (1, NicheX.fresh false), (2, NicheX.fresh false), (3, NicheX.fresh false), (4, NicheX.fresh false), (5, NicheX.fresh false)] }, by decide +kernel⟩,
   ⟨mgr, 5, 256, 0, { pf0 with kind := 1 }, (((withNiche 1).setI Reg.NCH_INFO_BOUND 5 0).set Reg.NCH_CMD_ARG_ARG 256).updHif fun u => { u with fns := [(256, { pf0 with kind := 1 })] }, by decide +kernel⟩,
   ⟨mgr, 5, withNiche 3, by decide +kernel⟩,
   ⟨mgr, 5, withNiche 1, by decide +kernel⟩,
   ⟨5, NicheX.fresh false, (withNiche 2).updNch fun u => { u with niches := [(5, NicheX.fresh false)] }, by decide +kernel⟩,
   ⟨mgr, 5, withNiche 3, by decide +kernel⟩,
   ⟨mgr, 5, withNiche 1, by decide +kernel⟩,
   ⟨5, { NicheX.fresh false with started := true }, (withNiche 4).updNch fun u => { u with niches := [(5, { NicheX.fresh false with started := true })] }, by decide +kernel⟩,
   ⟨mgr, 5, withNiche 3, by decide +kernel⟩,
   ⟨5, NicheX.fresh true, (withNiche 5).updNch fun u => { u with niches := [(5, NicheX.fresh true)] }, by decide +kernel⟩⟩

/-- Operands and states that meet the hypotheses of NicheSettingCommandsComplete, clause by clause. -/
theorem test_meets_NicheSettingCommandsComplete :
    (∃ (who : Issuer) (entry n : Nat) (x : NicheX) (s : State), nicheCmd s who n ∧ s.tdiLocked n = false ∧ Map.find? s.nch.niches n = some
      x) ∧
    (∃ (who : Issuer) (n : Nat) (x : NicheX) (s : State), nicheCmd s who n ∧ s.tdiLocked n = false ∧ Map.find? s.nch.niches n = some x) ∧
    (∃ (who : Issuer) (n : Nat) (x : NicheX) (s : State), nicheCmd s who n ∧ s.tdiLocked n = false ∧ Map.find? s.nch.niches n = some x) ∧
    (∃ (who : Issuer) (block n : Nat) (s : State), nicheCmd s who n ∧ s.flagI Reg.NCH_INFO_LOGGING n = false ∧ logValid block = true ∧ 2 *
      bitmapLen (byteField block 8 15) (byteField block 16 16) ≤ s.getI Reg.NCH_QUOTA_LIMIT (quotaKey n 13) * 1024) ∧
    (∃ (who : Issuer) (n : Nat) (s : State), nicheCmd s who n ∧ s.flagI Reg.NCH_INFO_LOGGING n = true) ∧
    (∃ (p : CmdPend) (x : NicheX) (d : DirtyLog) (r : List Nat × Nat × Nat × Nat × Nat) (s : State), Map.find? s.cmds 4 = some p ∧ Map.find?
      s.nch.niches p.niche = some x ∧ x.log = some d ∧ d.retired = some r) ∧
    (∃ (who : Issuer) (n : Nat) (s : State), nicheCmd s who n ∧ s.flagI Reg.NCH_INFO_LOGGING n = true) ∧
    (∃ (who : Issuer) (value : Nat) (s : State), s.mayWriteRegs who = true ∧ s.blockAnswers 0x400058 = true) ∧
    (∃ (ap tag status r : Nat) (data : List Byte) (x : HostTag) (s : State), (s.hif.tags.find? fun y => y.ap == ap && y.tag == tag) = some x
      ∧ x.purpose = .poll r) ∧
    (∃ (ap tag status : Nat) (data : List Byte) (s : State), (s.hif.tags.find? fun y => y.ap == ap && y.tag == tag) = none) ∧
    (∃ (ap tag : Nat) (x : HostTag) (s : State), (s.hif.tags.find? fun y => y.ap == ap && y.tag == tag) = some x ∧ x.since + timeoutStrokes
      s (fnKey x.ap x.rid) + 1 ≤ s.stk.boundary) ∧
    (∃ (ap tag : Nat) (x : QuarTag) (s : State), (s.hif.quar.find? fun y => y.ap == ap && y.tag == tag) = some x ∧ x.till ≤ s.stk.boundary)
      :=
  ⟨⟨mgr, 0x1701, 5, { NicheX.fresh false with intake := true }, withNiche 1, by decide +kernel⟩,
   ⟨mgr, 5, { NicheX.fresh false with intake := true }, withNiche 1, by decide +kernel⟩,
   ⟨mgr, 5, { NicheX.fresh false with intake := true }, withNiche 1, by decide +kernel⟩,
   ⟨mgr, 32768 * 2 ^ 64, 5, (withNiche 1).setI Reg.NCH_QUOTA_LIMIT (quotaKey 5 13) 8, by decide +kernel⟩,
   ⟨mgr, 5, logging, by decide +kernel⟩,
   ⟨cmdOf 12 mgr 5 0 0 |> (fun p => { p with niche := 5 }), { NicheX.fresh false with log := some dlog }, dlog, ([1], 1, 0, 9, 0), logging.updCmds fun _ => [(4, { cmdOf 12 mgr 5 0 0 with niche := 5 })], by decide +kernel⟩,
   ⟨mgr, 5, logging, by decide +kernel⟩,
   ⟨plat, 0x3005, withNiche 1, by decide +kernel⟩,
   ⟨0, 3, 0, 8, [], ⟨0, 3, 256, 0, .poll 8⟩, (hosted 4).updHif fun u => { u with tags := [⟨0, 3, 256, 0, .poll 8⟩] }, by decide +kernel⟩,
   ⟨0, 3, 0, [], hosted 4, by decide +kernel⟩,
   ⟨0, 3, ⟨0, 3, 256, 0, .poll 8⟩, ((hosted 4).updHif fun u => { u with tags := [⟨0, 3, 256, 0, .poll 8⟩] }).updStk fun u => { u with boundary := 1000000 }, by decide +kernel⟩,
   ⟨0, 3, ⟨0, 3, 0⟩, (hosted 4).updHif fun u => { u with quar := [⟨0, 3, 0⟩] }, by decide +kernel⟩⟩

/-- Operands and states that meet the hypotheses of RingCommandsComplete, clause by clause. -/
theorem test_meets_RingCommandsComplete :
    (∃ (who : Issuer) (desc r : Nat) (s : State), managerCmd s Blk.rng 0x500000 who ∧ (createRing (rdNiche desc) desc false s).1 = St.ok ∧
      (createRing (rdNiche desc) desc false s).2.1 = r) ∧
    (∃ (who : Issuer) (s : State), managerCmd s Blk.rng 0x500000 who ∧ enableStatus s (s.get Reg.RNG_CMD_ARG_RING) = St.ok) ∧
    (∃ (who : Issuer) (s : State), managerCmd s Blk.rng 0x500000 who ∧ disableStatus s (s.get Reg.RNG_CMD_ARG_RING) = St.ok) ∧
    (∃ (who : Issuer) (s : State), managerCmd s Blk.rng 0x500000 who ∧ destroyStatus s (s.get Reg.RNG_CMD_ARG_RING) = St.ok) ∧
    (∃ (w : Work) (desc r : Nat) (f : Flight) (s : State), takes s w 4 f ∧ s.flag Reg.JNL_STATUS_REGION_READY = true ∧ (createRing f.niche
      desc true (starting s f)).1 = St.ok ∧ (createRing f.niche desc true (starting s f)).2.1 = r) ∧
    (∃ (w : Work) (r : Nat) (f : Flight) (s : State), takes s w 5 f ∧ s.flag Reg.JNL_STATUS_REGION_READY = true ∧ byteField f.entry 4 7 % 2
      ^ 17 = r ∧ s.ringExists r = true ∧ s.getI Reg.RNG_INFO_NICHE r = f.niche ∧ enableStatus s r = St.ok) ∧
    (∃ (w : Work) (r : Nat) (f : Flight) (s : State), takes s w 6 f ∧ s.flag Reg.JNL_STATUS_REGION_READY = true ∧ byteField f.entry 4 7 % 2
      ^ 17 = r ∧ s.ringExists r = true ∧ s.getI Reg.RNG_INFO_NICHE r = f.niche ∧ disableStatus s r = St.ok) ∧
    (∃ (w : Work) (r : Nat) (f : Flight) (s : State), takes s w 7 f ∧ s.flag Reg.JNL_STATUS_REGION_READY = true ∧ byteField f.entry 4 7 % 2
      ^ 17 = r ∧ s.ringExists r = true ∧ s.getI Reg.RNG_INFO_NICHE r = f.niche ∧ destroyStatus s r = St.ok) ∧
    (∃ (ring : Nat) (s : State), s.ringExists ring = true ∧ s.getI Reg.RNG_INFO_TYPE ring = 0 ∧ s.getI Reg.RNG_INFO_STATE ring = 1 ∧ s.flagI
      Reg.RNG_INFO_IDLE ring = false ∧ s.ringFlights ring = []) :=
  ⟨⟨mgr, 0x1FFFF + 5 * 2 ^ 32 + 4 * 2 ^ 128 + 65536 * 2 ^ 160, 0, ringed.setI Reg.NCH_QUOTA_LIMIT (quotaKey 5 0) 8, by decide +kernel⟩,
   ⟨mgr, (ringed.set Reg.RNG_CMD_ARG_RING 7).setI Reg.RNG_INFO_STATE 7 1, by decide +kernel⟩,
   ⟨mgr, ringed.set Reg.RNG_CMD_ARG_RING 7, by decide +kernel⟩,
   ⟨mgr, (ringed.set Reg.RNG_CMD_ARG_RING 7).setsI 7 [(Reg.RNG_INFO_STATE, 1), (Reg.RNG_INFO_IDLE, 1)], by decide +kernel⟩,
   ⟨workOf 4, 0x1FFFF + 5 * 2 ^ 32 + 4 * 2 ^ 128 + 65536 * 2 ^ 160, 0, flightOf 4, (taken 4).setI Reg.NCH_QUOTA_LIMIT (quotaKey 5 0) 8, by decide +kernel⟩,
   ⟨workOf (5 + 65536 * 2 ^ 32), 65536, flightOf (5 + 65536 * 2 ^ 32), (taken (5 + 65536 * 2 ^ 32)).setI Reg.RNG_INFO_STATE 65536 1, by decide +kernel⟩,
   ⟨workOf (6 + 7 * 2 ^ 32), 7, flightOf (6 + 7 * 2 ^ 32), taken (6 + 7 * 2 ^ 32), by decide +kernel⟩,
   ⟨workOf (7 + 8 * 2 ^ 32), 8, flightOf (7 + 8 * 2 ^ 32), ((taken (7 + 8 * 2 ^ 32)).setsI 8 [(Reg.RNG_INFO_STATE, 1), (Reg.RNG_INFO_IDLE, 1), (Reg.RNG_INFO_NICHE, 5)]).updRng fun u => { u with rings := [(7, ring0), (8, ring0), (65536, ring0)] }, by decide +kernel⟩,
   ⟨7, ringed.setI Reg.RNG_INFO_STATE 7 1, by decide +kernel⟩⟩

/-- Operands and states that meet the hypotheses of RingTransferCommandsComplete, clause by clause. -/
theorem test_meets_RingTransferCommandsComplete :
    (∃ (h r : Nat) (s : State), s.dueRings h = [r] ∧ (if s.rng.pollAt = s.stk.boundary then (Map.find? s.rng.polls h).getD 0 else 0) <
      s.admitted (h + 1) ∧ (issueRead (s.getI Reg.RNG_INFO_NICHE r) (.poll r) s).2 = true) ∧
    (∃ (ring e : Nat) (entries : List Nat) (x : HostTag) (s : State), entries = [e] ∧ (s.hif.tags.find? fun y => y.purpose == .poll ring) =
      some x ∧ bit e 511 = 1 ∧ s.mayTake ring = true ∧ s.places (s.getI Reg.RNG_INFO_LINK ring) ≠ 0 ∧ s.ringAccepts ring (wOpcode e) = true
      ∧ s.getI Reg.RNG_PTRS_CONSUMER ring < s.ringSize ring) ∧
    (∃ (who : Issuer) (niche ring : Nat) (s : State), s.doorbellRing niche ring 0 = true ∧ s.flagI Reg.RNG_INFO_RESIDENT ring = false) ∧
    (∃ (who : Issuer) (off r : Nat) (data : List Byte) (s : State), s.bar2Ring (fnKey who.ap who.id) off = some r ∧ (off - s.getI
      Reg.RNG_BASE_BASE r) % 64 + data.length ≤ 64 ∧ s.ringEnabled r = true ∧ bit ((Map.find? (s.ringX r).slots ((off - s.getI
      Reg.RNG_BASE_BASE r) / 64)).getD 0) 511 ≠ 1) ∧
    (∃ (r slot due : Nat) (s : State), s.rng.arrived = [(r, slot, due)] ∧ due ≤ s.stk.boundary ∧ s.rng.takenAt ≠ s.stk.boundary ∧ s.mayTake
      r = true ∧ 0 < s.admitted 0 ∧ s.places (s.getI Reg.RNG_INFO_LINK r) ≠ 0 ∧ s.ringAccepts r (wOpcode ((Map.find? (s.ringX r).slots
      slot).getD 0)) = true) ∧
    (∃ (who : Issuer) (niche ring count : Nat) (arm : Bool) (s : State), s.doorbellRing niche ring 1 = true ∧ count ≤ (s.ringX
      ring).written) ∧
    (∃ (who : Issuer) (niche ring count : Nat) (arm : Bool) (s : State), s.doorbellRing niche ring 2 = true ∧ count ≤ (s.ringX
      ring).written) ∧
    (∃ (ring : Nat) (s : State), s.flagI Reg.RNG_INFO_STOPPED ring = true ∧ (s.ringX ring).freed = true ∧ 0 < s.places ring) ∧
    (∃ (ring : Nat) (s : State), s.ringEnabled ring = true ∧ s.getI Reg.RNG_INFO_TYPE ring = 2 ∧ s.flagI Reg.RNG_INFO_ARMED ring = true ∧
      (s.ringX ring).owed = true ∧ 0 < (s.ringX ring).written ∧ ((s.ringX ring).lastMsix.all fun b => decide (b + (s.ringX ring).mod ≤
      s.stk.boundary)) = true) ∧
    (∃ (w : Work) (f : Flight) (s : State), takes s w 0 f) ∧
    (∃ (w : Work) (f : Flight) (q : Nat) (s : State), takes s w 1 f ∧ Map.find? s.sch.local_ (localKey f.niche (byteField f.entry 24 25)) =
      some q ∧ launchFar s f q = false) ∧
    (∃ (w : Work) (f : Flight) (s : State), takes s w 2 f) ∧
    (∃ (w : Work) (f g : Flight) (s : State), takes s w 3 f ∧ (s.rng.flights.find? fun g => g.niche == f.niche && g.port.isNone && wTag
      g.entry == byteField f.entry 4 5 && g.seq != f.seq && g.done.isNone) = some g ∧ s.flight g.seq = some g ∧ g.started = false) :=
  ⟨⟨0, 7, ringed.set Reg.STK_COUNT_COUNT 8, by decide +kernel⟩,
   ⟨7, 2 ^ 511, [2 ^ 511], ⟨0, 3, 256, 0, .poll 7⟩, (ringed.updHif fun u => { u with tags := [⟨0, 3, 256, 0, .poll 7⟩], fns := [(256, { pf0 with fetch := true })] }), by decide +kernel⟩,
   ⟨mgr, 5, 7, ringed, by decide +kernel⟩,
   ⟨mgrHost, 67, 7, [1, 2], ringed.setI Reg.RNG_INFO_RESIDENT 7 1, by decide +kernel⟩,
   ⟨7, 0, 0, (ringed.setI Reg.RNG_INFO_RESIDENT 7 1).updRng fun u => { u with arrived := [(7, 0, 0)], takenAt := 5 }, by decide +kernel⟩,
   ⟨mgr, 5, 65536, 2, true, ringed.updRng fun u => { u with rings := [(65536, { ring0 with written := 3 })] }, by decide +kernel⟩,
   ⟨mgr, 5, 98304, 2, true, ringed.updRng fun u => { u with rings := [(98304, { ring0 with written := 3 })] }, by decide +kernel⟩,
   ⟨65536, (ringed.setI Reg.RNG_INFO_STOPPED 65536 1).updRng fun u => { u with rings := [(65536, { ring0 with freed := true })] }, by decide +kernel⟩,
   ⟨98304, (ringed.setI Reg.RNG_INFO_ARMED 98304 1).updRng fun u => { u with rings := [(98304, { ring0 with written := 3, owed := true })] }, by decide +kernel⟩,
   ⟨workOf 0, flightOf 0, taken 0, by decide +kernel⟩,
   ⟨workOf 1, flightOf 1, 0, (taken 1).updSch fun u => { u with local_ := [(localKey 5 0, 0)] }, by decide +kernel⟩,
   ⟨workOf 2, flightOf 2, taken 2, by decide +kernel⟩,
   ⟨workOf 3, flightOf 3, { flightOf 0 with seq := 2 }, ringed.updRng fun u => { u with flights := [flightOf 3, { flightOf 0 with seq := 2 }] }, by decide +kernel⟩⟩

/-- Operands and states that meet the hypotheses of DmaCommandsComplete, clause by clause. -/
theorem test_meets_DmaCommandsComplete :
    (∃ (w : Work) (f : Flight) (s : State), takes s w 0x40 f ∧ elementStatus (starting s f) f f.entry = St.ok) ∧
    (∃ (w : Work) (f : Flight) (s : State), takes s w 0x41 f ∧ elementStatus (starting s f) f f.entry = St.ok) ∧
    (∃ (w : Work) (elements : List Nat) (f : Flight) (s : State), takes s w 0x42 f ∧ byteField f.entry 4 4 ≠ 3 ∧ spaceAllowed f (byteField
      f.entry 4 4) = true ∧ byteField f.entry 16 19 ≠ 0 ∧ byteField f.entry 16 19 ≤ 65536 ∧ spaceBounds (starting s f) f (byteField f.entry
      4 4) (byteField f.entry 8 15) 0 (64 * byteField f.entry 16 19 - 1) = true) ∧
    (∃ (prio c : Nat) (q : DmaWait) (f : Flight) (s : State), idleChannel s prio = some c ∧ nextDma s prio = some q ∧ s.flight q.seq = some
      f ∧ elementStatus s f (dElement s f q.list 0) = St.ok ∧ remoteSide s (dElement s f q.list 0) = none) ∧
    (∃ (chan : Nat) (r : DmaRun) (f : Flight) (s : State), Map.find? s.dma.channels chan = some r ∧ s.flight r.seq = some f ∧ r.half = false
      ∧ (dmaAdvance (dmaFuel f) chan r.seq (dHalf s f r.list) s).1 = true) ∧
    (∃ (chan : Nat) (r : DmaRun) (f : Flight) (s : State), Map.find? s.dma.channels chan = some r ∧ s.dmaRun r.seq = some (chan, r) ∧
      s.flight r.seq = some f ∧ f.done = none ∧ r.half = true ∧ bit (wFlags f.entry) 3 = 0 ∧ (dmaAdvance (dmaFuel f) chan r.seq (dSum s f
      r.list) s).1 = true ∧ unfedStatus (dmaAdvance (dmaFuel f) chan r.seq (dSum s f r.list) s).2 chan = St.ok) :=
  ⟨⟨⟨7, 0x40 + 1 * 2 ^ 32 + 1 * 2 ^ 40 + 4096 * 2 ^ 128 + 8 * 2 ^ 192 + 8 * 2 ^ 224 + 1 * 2 ^ 320 + 1 * 2 ^ 352⟩, ⟨1, 7, 0, 0x40 + 1 * 2 ^ 32 + 1 * 2 ^ 40 + 4096 * 2 ^ 128 + 8 * 2 ^ 192 + 8 * 2 ^ 224 + 1 * 2 ^ 320 + 1 * 2 ^ 352, false, [], none, none⟩, ringed.updRng fun u => { u with flights := [⟨1, 7, 0, 0x40 + 1 * 2 ^ 32 + 1 * 2 ^ 40 + 4096 * 2 ^ 128 + 8 * 2 ^ 192 + 8 * 2 ^ 224 + 1 * 2 ^ 320 + 1 * 2 ^ 352, false, [], none, none⟩] }, by decide +kernel⟩,
   ⟨⟨7, fillEntry⟩, { fillFlight with started := false }, ringed.updRng fun u => { u with flights := [{ fillFlight with started := false }] }, by decide +kernel⟩,
   ⟨⟨7, 0x42 + 1 * 2 ^ 32 + 2 * 2 ^ 128⟩, [], ⟨1, 7, 0, 0x42 + 1 * 2 ^ 32 + 2 * 2 ^ 128, false, [], none, none⟩, ringed.updRng fun u => { u with flights := [⟨1, 7, 0, 0x42 + 1 * 2 ^ 32 + 2 * 2 ^ 128, false, [], none, none⟩] }, by decide +kernel⟩,
   ⟨0, 0, ⟨1, 0, 0, []⟩, fillFlight, (running1.setI Reg.DMA_CH_CFG_EN 0 1).updDma fun _ => { channels := [], queue := [⟨1, 0, 0, []⟩] }, by decide +kernel⟩,
   ⟨0, fillRun, fillFlight, running1, by decide +kernel⟩,
   ⟨0, { fillRun with half := true }, fillFlight, running1.updDma fun u => { u with channels := [(0, { fillRun with half := true })] }, by decide +kernel⟩⟩

/-- Operands and states that meet the hypotheses of ThreadCommandsComplete, clause by clause. -/
theorem test_meets_ThreadCommandsComplete :
    (∃ (hart : Nat) (s : State), threadRuns s hart) ∧
    (∃ (hart : Nat) (s : State), s.thrState hart = 2 ∧ s.pending_ hart &&& (s.thread hart).waitMask ≠ 0) ∧
    (∃ (hart ns : Nat) (s : State), (s.thread hart).cmp ≠ 2 ^ 64 - 1 ∧ s.stk.phcRunning = true ∧ (s.thread hart).cmp ≤ s.stk.phcNs + ns) ∧
    (∃ (hart value : Nat) (s : State), threadRuns s hart ∧ bits value 12 8 ≤ 27) ∧
    (∃ (hart cycles : Nat) (s : State), threadRuns s hart ∧ (s.thread hart).stroke = true) ∧
    (∃ (hart value k : Nat) (s : State), threadRuns s hart ∧ (s.thread hart).dropped = false ∧ k = (if bits value 46 40 = 0x7F then hartTile
      hart else bits value 46 40) * 256 + bits value 7 0 ∧ 1 ≤ bits value 59 56 ∧ bits value 59 56 ≤ 8 ∧ s.mayWrite hart k = true ∧ 0 <
      s.chanFree k) ∧
    (∃ (chan : Nat) (w : CommitWait) (s : State), (s.til.waiting.find? fun w => w.chan == chan) = some w ∧ 0 < s.chanFree chan) ∧
    (∃ (hart : Nat) (s : State), threadRuns s hart) ∧
    (∃ (hart ch : Nat) (m : Msg) (rest : List Msg) (s : State), threadRuns s hart ∧ ¬(s.flagI Reg.TIL_CH_INFO_NICHE_BEARING (hartTile hart *
      256 + ch) = true ∧ (s.thread hart).niche.isSome = true) ∧ ¬(ch = 0 ∧ hartThread hart ≠ 0) ∧ s.chan (hartTile hart * 256 + ch) = m ::
      rest) ∧
    (∃ (hart value : Nat) (s : State), threadRuns s hart ∧ (s.thread hart).niche ≠ none) ∧
    (∃ (hart value : Nat) (s : State), threadRuns s hart ∧ s.flagI Reg.TIL_CH_INFO_HW_WRITER (hartTile hart * 256 + bits value 7 0) = true ∧
      s.chanFree (hartTile hart * 256 + bits value 7 0) ≠ 0 ∧ 0x10 ≤ wOpcode (s.thread hart).stage ∧ opcodeKnown (wOpcode (s.thread
      hart).stage) = true) :=
  ⟨⟨3, thr 3, by decide +kernel⟩,
   ⟨3, updThread 3 (fun x => { x with edge := 2 ^ 30 }) (setThrState 3 2 (inState 4)), by decide +kernel⟩,
   ⟨3, 8, (updThread 3 (fun x => { x with cmp := 5 }) (thr 3)).updStk fun u => { u with phcRunning := true }, by decide +kernel⟩,
   ⟨3, 0x8205, thr 3, by decide +kernel⟩,
   ⟨3, 700, updThread 3 (fun x => { x with stroke := true }) (thr 3), by decide +kernel⟩,
   ⟨3, 2 ^ 56 + 4, 4, ((thr 3).setI Reg.TIL_CH_INFO_DEPTH 4 8).updTil fun u => { u with writers := [(4, [3])] }, by decide +kernel⟩,
   ⟨4, ⟨3, 4, ⟨1, 7, 3, 0⟩⟩, ((thr 3).setI Reg.TIL_CH_INFO_DEPTH 4 8).updTil fun u => { u with waiting := [⟨3, 4, ⟨1, 7, 3, 0⟩⟩] }, by decide +kernel⟩,
   ⟨3, thr 3, by decide +kernel⟩,
   ⟨3, 4, ⟨1, 7, 3, 0⟩, [], (thr 3).updTil fun u => { u with chans := [(4, [⟨1, 7, 3, 0⟩])] }, by decide +kernel⟩,
   ⟨3, 0, inNiche 3, by decide +kernel⟩,
   ⟨3, 4, updThread 3 (fun x => { x with stage := 0x41 }) (((thr 3).setI Reg.TIL_CH_INFO_DEPTH 4 8).setI Reg.TIL_CH_INFO_HW_WRITER 4 1), by decide +kernel⟩⟩

/-- Operands and states that meet the hypotheses of SupervisorCommandsComplete, clause by clause. -/
theorem test_meets_SupervisorCommandsComplete :
    (∃ (hart mask : Nat) (s : State), threadRuns s hart ∧ hartThread hart = 0) ∧
    (∃ (hart mask : Nat) (s : State), threadRuns s hart ∧ hartThread hart = 0) ∧
    (∃ (hart mask : Nat) (s : State), threadRuns s hart ∧ hartThread hart = 0) ∧
    (∃ (hart group : Nat) (s : State), threadRuns s hart ∧ hartThread hart = 0) ∧
    (∃ (hart : Nat) (s : State), threadRuns s hart ∧ hartThread hart = 0 ∧ s.getI Reg.TIL_INFO_ROLE (hartTile hart) = 1 ∧ s.unitState 0
      (s.servingTile (hartTile hart)) = 1) ∧
    (∃ (hart mcause mepc mtval : Nat) (s : State), threadRuns s hart ∧ s.getI Reg.TIL_INFO_ROLE (hartTile hart) = 0 ∧ hartThread hart ≠ 0) ∧
    (∃ (hart mcause : Nat) (s : State), threadRuns s hart) ∧
    (∃ (tile group : Nat) (s : State), s.flagI Reg.TIL_WAITGRP_DEFINED (tile * 16 + group) = true ∧ s.flagI Reg.TIL_WAITGRP_REPORTED (tile *
      16 + group) = false ∧ max 1 (s.getI Reg.TIL_WAITMON_LIMIT tile) ≤ s.getI Reg.TIL_WAITGRP_COUNT (tile * 16 + group)) ∧
    (∃ (tile group : Nat) (s : State), tile * 16 + group ∈ s.til.restarts) :=
  ⟨⟨0, 6, thr 0, by decide +kernel⟩,
   ⟨0, 6, setThrState 1 1 (thr 0), by decide +kernel⟩,
   ⟨0, 6, thr 0, by decide +kernel⟩,
   ⟨0, 2, (setThrState 1 2 (thr 0)).setI Reg.TIL_WAITGRP_MEMBERS 2 6, by decide +kernel⟩,
   ⟨0, ((thr 0).setI Reg.TIL_INFO_ROLE 0 1).setI Reg.SVC_UNIT_INFO_STATE 0 1, by decide +kernel⟩,
   ⟨3, 5, 0, 0, thr 3, by decide +kernel⟩,
   ⟨0, 5, thr 0, by decide +kernel⟩,
   ⟨0, 2, ((inState 4).setsI 2 [(Reg.TIL_WAITGRP_DEFINED, 1), (Reg.TIL_WAITGRP_COUNT, 255)]), by decide +kernel⟩,
   ⟨0, 2, (inState 4).updTil fun u => { u with restarts := [2] }, by decide +kernel⟩⟩

/-- Operands and states that meet the hypotheses of DebugCommandsComplete, clause by clause. -/
theorem test_meets_DebugCommandsComplete :
    (∃ (hart kind addr value : Nat) (s : State), addr < 0x140000 ∧ (kind = 1 ∧ s.debugRight (hartTile hart) 1 = true ∨ kind = 2 ∧
      s.debugRight (hartTile hart) 2 = true)) ∧
    (∃ (hart addr value : Nat) (kind : Nat) (s : State), kind = 0 ∧ s.debugRight (hartTile hart) 0 = true) ∧
    (∃ (hart addr value : Nat) (kind : Nat) (s : State), (kind = 3 ∨ kind = 4) ∧ s.debugRight (hartTile hart) 3 = true ∧ s.debugNiche ≠
      0xFFFF ∧ (s.stackedQuota s.debugNiche).1 ≤ addr ∧ addr < (s.stackedQuota s.debugNiche).1 + (s.stackedQuota s.debugNiche).2) ∧
    (∃ (hart : Nat) (s : State), s.debugRight (hartTile hart) 0 = true ∧ (s.thrState hart = 1 ∨ s.thrState hart = 2)) ∧
    (∃ (hart : Nat) (s : State), s.debugRight (hartTile hart) 0 = true ∧ s.thrState hart = 3) ∧
    (∃ (tile : Nat) (s : State), s.sbHalted tile = true ∧ s.flagI Reg.TIL_INFO_DEBUG_HELD tile = false ∧ s.unitServes 0 (s.servingTile tile)
      = true) ∧
    (∃ (tile : Nat) (s : State), s.flagI Reg.TIL_INFO_DEBUG_HELD tile = true ∧ s.sbHalted tile = false ∧ s.unitState 0 (s.servingTile tile)
      = 2) ∧
    (∃ (hart : Nat) (s : State), s.thrState hart = 3 ∧ (s.thread hart).staged = true ∧ (s.thread hart).haltAt + 1048576 ≤ s.stk.boundary) :=
  ⟨⟨3, 2, 16, 9, (inState 4).setsI 0 [(Reg.TIL_DBG_UNLOCKED, 1), (Reg.TIL_DBG_RIGHTS, 15)], by decide +kernel⟩,
   ⟨3, 5, 0, 0, (inState 4).setsI 0 [(Reg.TIL_DBG_UNLOCKED, 1), (Reg.TIL_DBG_RIGHTS, 15)], by decide +kernel⟩,
   ⟨3, 5, 7, 4, ((inState 4).setsI 0 [(Reg.TIL_DBG_UNLOCKED, 1), (Reg.TIL_DBG_RIGHTS, 15), (Reg.NCH_STACKED_LEN_MIB, 1)]).updArm fun u => { u with unlock := some (0, 9) }, by decide +kernel⟩,
   ⟨3, (thr 3).setsI 0 [(Reg.TIL_DBG_UNLOCKED, 1), (Reg.TIL_DBG_RIGHTS, 15)], by decide +kernel⟩,
   ⟨3, updThread 3 (fun x => { x with before := 2 }) ((setThrState 3 3 (inState 4)).setsI 0 [(Reg.TIL_DBG_UNLOCKED, 1), (Reg.TIL_DBG_RIGHTS, 15), (Reg.TIL_DBG_HALTED, 8)]), by decide +kernel⟩,
   ⟨0, (inState 4).setsI 0 [(Reg.TIL_DBG_HALTED, 8), (Reg.TIL_INFO_SB_MASK, 8)], by decide +kernel⟩,
   ⟨0, ((inState 4).setI Reg.TIL_INFO_DEBUG_HELD 0 1).setI Reg.SVC_UNIT_INFO_STATE 0 2, by decide +kernel⟩,
   ⟨3, (updThread 3 (fun x => { x with staged := true }) (setThrState 3 3 (inState 4))).updStk fun u => { u with boundary := 1048576 }, by decide +kernel⟩⟩

/-- Operands and states that meet the hypotheses of FrameCommandsComplete, clause by clause. -/
theorem test_meets_FrameCommandsComplete :
    (∃ (mac : Nat) (data : List Byte) (ns sub k : Nat) (u : State) (s : State), s.running = true ∧ s.sch.linkUp.contains mac = true ∧
      s.unitServes 6 mac = true ∧ s.inP1 = false ∧ dealCluster mac ((Map.find? s.prs.lanes mac).getD []) (s.nch.niches.foldl (wakeOne data)
      s) = some (k, u) ∧ (s.prs.pkts.filter fun q => q.cluster == laneCluster u k && q.at_ == .queued).length < 256) ∧
    (∃ (id engine vec : Nat) (p : Pkt) (s : State), s.pkt id = some p ∧ p.at_ = .queued ∧ p.source < 16) ∧
    (∃ (id park : Nat) (p : Pkt) (s : State), s.pkt id = some p ∧ s.running = true ∧ s.entersNext p = true ∧ s.parkedAt p.pipe park < 256 ∧
      (s.prs.pkts.filter s.inFlight).length < 65536) ∧
    (∃ (id park stage : Nat) (p : Pkt) (s : State), s.pkt id = some p ∧ p.at_ = .parked stage ∧ park ≤ stage ∧ ((pipeTables s p.pipe).all
      fun e => decide (e.1 < 24)) = true) ∧
    (∃ (id stage : Nat) (p : Pkt) (s : State), s.pkt id = some p ∧ p.at_ = .parked stage ∧ p.entered + 4 ≤ s.stk.boundary) ∧
    (∃ (id : Nat) (patch : List (Nat × Byte)) (p : Pkt) (s : State), s.pkt id = some p ∧ p.at_ = .leaving ∧ (s.prs.pkts.find? fun q =>
      q.pipe == p.pipe && q.at_ == .leaving).map (·.id) = some id ∧ (p.drop = true ∨ destKind (vDest p.vec) = 0)) ∧
    (∃ (id : Nat) (patch : List (Nat × Byte)) (p : Pkt) (l : List Byte) (s : State), s.pkt id = some p ∧ p.at_ = .leaving ∧
      (s.prs.pkts.find? fun q => q.pipe == p.pipe && q.at_ == .leaving).map (·.id) = some id ∧ p.drop = false ∧ destKind (vDest p.vec) = 3 ∧
      deparse p.vec (s.rulesFor (vVersion p.vec)).templates patch p.edits p.bytes = l ∧ l.length ≤ 9212 ∧ l.length ≤ p.bytes.length + 128) ∧
    (∃ (id : Nat) (patch : List (Nat × Byte)) (p : Pkt) (l : List Byte) (s : State), s.pkt id = some p ∧ p.at_ = .leaving ∧
      (s.prs.pkts.find? fun q => q.pipe == p.pipe && q.at_ == .leaving).map (·.id) = some id ∧ p.drop = false ∧ destKind (vDest p.vec) ∈ [1,
      2, 4, 5, 6] ∧ deparse p.vec (s.rulesFor (vVersion p.vec)).templates patch p.edits p.bytes = l ∧ l.length ≤ 9212 ∧ l.length ≤
      p.bytes.length + 128) ∧
    (∃ (id tile round : Nat) (rest : List Nat) (p : Pkt) (s : State), s.prs.spread = id :: rest ∧ s.pkt id = some p ∧ nextTile 1632 (s.get
      Reg.PRS_SPR_LAST) (s.get Reg.PRS_SPR_ROUND) s = some (tile, round)) ∧
    (∃ (domain : Nat) (s : State), s.skipDue domain = true) :=
  ⟨⟨0, [1, 2, 3], 0, 0, 0, ((inState 4).updSch fun u => { u with linkUp := [0] }).updPrs fun u => { u with lanes := [(0, [0])], next := [(0, 1)] }, ((inState 4).updSch fun u => { u with linkUp := [0] }).updPrs fun u => { u with lanes := [(0, [0])] }, by decide +kernel⟩,
   ⟨1, 0, 2 ^ 56, pkt0 .queued, pktAt (pkt0 .queued), by decide +kernel⟩,
   ⟨1, 24, pkt0 .parsed, pktAt (pkt0 .parsed), by decide +kernel⟩,
   ⟨1, 0, 3, pkt0 (.parked 3), pktAt (pkt0 (.parked 3)), by decide +kernel⟩,
   ⟨1, 3, pkt0 (.parked 3), (pktAt (pkt0 (.parked 3))).updStk fun u => { u with boundary := 4 }, by decide +kernel⟩,
   ⟨1, [], pkt0 .leaving, pktAt (pkt0 .leaving), by decide +kernel⟩,
   ⟨1, [], pktTo 3 .leaving, List.replicate 64 1, pktAt (pktTo 3 .leaving), by decide +kernel⟩,
   ⟨1, [], pktTo 6 .leaving, List.replicate 64 1, pktAt (pktTo 6 .leaving), by decide +kernel⟩,
   ⟨1, 0, 1, [], pktTo 3 .spread, spreadable, by decide +kernel⟩,
   ⟨0, (((pktAt (pkt0 (.ready 0))).updPrs fun u => { u with pkts := [{ pkt0 (.ready 0) with seq := 1 }], domains := [(0, ⟨2, 0, []⟩)] })).updStk fun u => { u with boundary := 100000 }, by decide +kernel⟩⟩

/-- Operands and states that meet the hypotheses of RuleCommandsComplete, clause by clause. -/
theorem test_meets_RuleCommandsComplete :
    (∃ (who : Issuer) (desc : Nat) (s : State), ruleOpen s who ∧ groupRefusal s desc = none ∧ s.editedRules.rules.any (inGroup desc) =
      false) ∧
    (∃ (who : Issuer) (desc m : Nat) (s : State), ruleOpen s who ∧ groupRefusal s desc = none ∧ Map.find? s.editedRules.groups (groupKey
      desc) = some m ∧ byteField desc 4 6 < s.tbl.actions ∧ (s.editedRules.rules.filter fun y => y.table == byteField desc 0 0).length <
      s.getI Reg.PRS_TBL_CAP_CAPACITY (byteField desc 0 0)) ∧
    (∃ (who : Issuer) (desc m : Nat) (s : State), ruleOpen s who ∧ groupRefusal s desc = none ∧ Map.find? s.editedRules.groups (groupKey
      desc) = some m ∧ (s.editedRules.rules.any fun y => inGroup desc y && y.key == s.tblKeyOf (byteField desc 0 0) (desc >>> 512) &&& m) =
      true) ∧
    (∃ (who : Issuer) (entry : Nat) (s : State), ruleOpen s who ∧ 1 ≤ byteField entry 0 0 ∧ byteField entry 0 0 ≤ 7 ∧ byteField entry 1 7 =
      0 ∧ s.get Reg.PRS_CMD_ARG_INDEX < s.tbl.actions ∧ ((List.range (byteField entry 0 0)).all fun k => opValid (byteField entry (8 * (k +
      1)) (8 * (k + 1) + 7))) = true) ∧
    (∃ (who : Issuer) (template : Nat) (s : State), ruleOpen s who) ∧
    (∃ (who : Issuer) (s : State), managerCmd s Blk.prs 0xA00000 who) ∧
    (∃ (who : Issuer) (s : State), ruleOpen s who ∧ s.flagI Reg.PRS_TBL_INFO_DEFINED (s.get Reg.PRS_CMD_ARG_TABLE) = true ∧ s.get
      Reg.PRS_CMD_ARG_INDEX < s.tbl.actions) ∧
    (∃ (who : Issuer) (s : State), managerCmd s Blk.prs 0xA00000 who ∧ s.versioned = true ∧ s.flag Reg.PRS_VER_COMMIT_PENDING = false) ∧
    (∃ (who : Issuer) (s : State), managerCmd s Blk.prs 0xA00000 who ∧ s.versioned = true ∧ s.flag Reg.PRS_VER_COMMIT_PENDING = false) ∧
    (∃ (s : State), s.flag Reg.PRS_VER_COMMIT_PENDING = true ∧ s.flag Reg.PRS_VER_OLD_LIVE = false ∧ s.prs.commitDue ≤ s.stk.boundary) ∧
    (∃ (s : State), s.flag Reg.PRS_VER_OLD_LIVE = true ∧ (s.prs.pkts.all fun p => vVersion p.vec != s.get Reg.PRS_VER_OLD || !p.inPipe) =
      true) :=
  ⟨⟨mgr, 0x101, ruled 4, by decide +kernel⟩,
   ⟨mgr, 0x1 + 3 * 2 ^ 32 + 7 * 2 ^ 512, 0xFF, ruled 4, by decide +kernel⟩,
   ⟨mgr, 0x1 + 5 * 2 ^ 512, 0xFF, ruled1 4, by decide +kernel⟩,
   ⟨mgr, 1 + 2 * 2 ^ 64, ruled 4, by decide +kernel⟩,
   ⟨mgr, 77, ruled 5, by decide +kernel⟩,
   ⟨mgr, (ruled 4).setI Reg.PRS_CNT_PKT_COUNT 0 9, by decide +kernel⟩,
   ⟨mgr, (ruled 4).set Reg.PRS_CMD_ARG_TABLE 1, by decide +kernel⟩,
   ⟨mgr, ruled 5, by decide +kernel⟩,
   ⟨mgr, (ruled 5).set Reg.PRS_VER_STAGED 3, by decide +kernel⟩,
   ⟨(ruled 5).set Reg.PRS_VER_COMMIT_PENDING 1, by decide +kernel⟩,
   ⟨(ruled 5).set Reg.PRS_VER_OLD_LIVE 1, by decide +kernel⟩⟩

/-- Operands and states that meet the hypotheses of TableCommandsComplete, clause by clause. -/
theorem test_meets_TableCommandsComplete :
    (∃ (who : Issuer) (desc n : Nat) (e : FlowEntry) (s : State), tableOpen s who ∧ s.stageRefusal = none ∧ s.tblKind n 1 = true ∧ byteField
      desc 0 0 = n ∧ flowEntry s desc (byteField desc 2 3 % 4096) none = e ∧ e.action < s.tbl.actions ∧ s.entryNow n e.key e.niche = none ∧
      (s.flagI Reg.TBL_INFO_TENANT n = true → s.tblUnits n ≤ s.quotaLeft e.niche 5) ∧ ((s.tblX n).live.insert (s.getI Reg.TBL_CUCKOO_SEED n)
      (s.tblBuckets n) (s.effI Reg.TBL_CUCKOO_MAX_KICKS n) s.stk.boundary { e with born := if s.versioned then 1 else 0 }).isSome = true) ∧
    (∃ (who : Issuer) (desc n : Nat) (e o : FlowEntry) (s : State), tableOpen s who ∧ s.versioned = false ∧ s.tblKind n 1 = true ∧ byteField
      desc 0 0 = n ∧ flowEntry s desc (byteField desc 2 3 % 4096) none = e ∧ e.action < s.tbl.actions ∧ s.entryNow n e.key e.niche = some o
      ∧ bit (byteField desc 1 1) 1 = 1 ∧ (o.static = true → e.static = true)) ∧
    (∃ (who : Issuer) (desc n : Nat) (o : FlowEntry) (s : State), tableOpen s who ∧ s.stageRefusal = none ∧ s.tblKind n 1 = true ∧ byteField
      desc 0 0 = n ∧ s.entryNow n (s.tblKeyOf n (desc >>> 512)) (byteField desc 2 3 % 4096) = some o ∧ (o.static = true → bit (byteField
      desc 1 1) 0 = 1)) ∧
    (∃ (who : Issuer) (desc n : Nat) (e : FlowEntry) (stashed : Bool) (data : List Byte) (s : State), tableOpen s who ∧ s.tblKind n 1 = true
      ∧ byteField desc 0 0 = n ∧ s.queryHit n (s.tblKeyOf n (desc >>> 512)) (byteField desc 2 3 % 4096) = some (e, stashed) ∧ toBytes 18 (n
      + flowFlags e stashed * 2 ^ 8 + e.niche * 2 ^ 16 + e.action * 2 ^ 32 + e.data * 2 ^ 64 + e.source * 2 ^ 128) = data) ∧
    (∃ (who : Issuer) (desc n key : Nat) (s : State), tableOpen s who ∧ s.stageRefusal = none ∧ pfxRefusal s desc = none ∧ byteField desc 0
      0 = n ∧ pfxKey (byteField desc 1 1) (byteField desc 16 19) (pfxAddr s desc) = key ∧ byteField desc 4 6 < s.tbl.actions ∧ s.entryNow n
      key 0 = none ∧ ((s.tblX n).live.insert (s.getI Reg.TBL_CUCKOO_SEED n) (s.tblBuckets n) (s.effI Reg.TBL_CUCKOO_MAX_KICKS n)
      s.stk.boundary ⟨key, 0, byteField desc 4 6, byteField desc 8 15, 0, false, false, false, false, none, if s.versioned then 1 else 0, 0,
      none⟩).isSome = true) ∧
    (∃ (who : Issuer) (desc n key : Nat) (o : FlowEntry) (s : State), tableOpen s who ∧ s.stageRefusal = none ∧ pfxRefusal s desc = none ∧
      byteField desc 0 0 = n ∧ pfxKey (byteField desc 1 1) (byteField desc 16 19) (pfxAddr s desc) = key ∧ s.entryNow n key 0 = some o) ∧
    (∃ (who : Issuer) (n : Nat) (s : State), tableOpen s who ∧ s.get Reg.TBL_CMD_ARG_TABLE = n ∧ s.tblKind n 1 = true ∧ s.flagI
      Reg.TBL_INFO_L2 n = true) ∧
    (∃ (w : Work) (desc n : Nat) (f : Flight) (e : FlowEntry) (s : State), takes s w 0x80 f ∧ s.flag Reg.JNL_STATUS_REGION_READY = true ∧
      tenantRefusal s desc = none ∧ byteField desc 0 0 = n ∧ flowEntry s desc f.niche (some f.ring) = e ∧ s.getI Reg.TBL_NCFG_ACT_BASE
      f.niche ≤ e.action ∧ e.action < s.getI Reg.TBL_NCFG_ACT_BASE f.niche + s.getI Reg.TBL_NCFG_ACT_COUNT f.niche ∧ s.entryNow n e.key
      e.niche = none ∧ s.tblUnits n ≤ s.quotaLeft e.niche 5 ∧ ((s.tblX n).live.insert (s.getI Reg.TBL_CUCKOO_SEED n) (s.tblBuckets n)
      (s.effI Reg.TBL_CUCKOO_MAX_KICKS n) s.stk.boundary { e with born := 0 }).isSome = true) ∧
    (∃ (w : Work) (desc n : Nat) (f : Flight) (o : FlowEntry) (s : State), takes s w 0x81 f ∧ s.flag Reg.JNL_STATUS_REGION_READY = true ∧
      tenantRefusal s desc = none ∧ byteField desc 0 0 = n ∧ s.entryNow n (s.tblKeyOf n (desc >>> 512)) f.niche = some o ∧ o.static = false)
      ∧
    (∃ (w : Work) (desc n : Nat) (f : Flight) (e : FlowEntry) (stashed : Bool) (s : State), takes s w 0x82 f ∧ s.tblOpen = true ∧ byteField
      desc 0 0 = n ∧ s.tblKind n 1 = true ∧ s.flagI Reg.TBL_INFO_TENANT n = true ∧ s.queryHit n (s.tblKeyOf n (desc >>> 512)) f.niche = some
      (e, stashed)) :=
  ⟨⟨mgr, 1 + 3 * 2 ^ 32 + 6 * 2 ^ 512, 1, ⟨6, 0, 3, 0, 0, false, false, false, false, none, 0, 0, none⟩, tabled 5, by decide +kernel⟩,
   ⟨mgr, 1 + 2 * 2 ^ 8 + 3 * 2 ^ 32 + 5 * 2 ^ 512, 1, ⟨5, 0, 3, 0, 0, false, false, false, false, none, 0, 0, none⟩, entry5, tabled1 4 entry5, by decide +kernel⟩,
   ⟨mgr, 1 + 5 * 2 ^ 512, 1, entry5, tabled1 5 entry5, by decide +kernel⟩,
   ⟨mgr, 1 + 5 * 2 ^ 512, 1, entry5, false, toBytes 18 (1 + 8 * 256 + 2 ^ 32 + 9 * 2 ^ 128), tabled1 4 entry5, by decide +kernel⟩,
   ⟨mgr, 1 + 8 * 2 ^ 8 + 3 * 2 ^ 32 + 10 * 2 ^ 256, 1, pfxKey 8 0 (10 * 2 ^ 24), prefixed, by decide +kernel⟩,
   ⟨mgr, 1 + 8 * 2 ^ 8 + 10 * 2 ^ 256, 1, pfxKey 8 0 (10 * 2 ^ 24), { entry5 with key := pfxKey 8 0 (10 * 2 ^ 24) }, prefixed.updTbl fun u => { u with tables := [(1, { TblX.empty with live := ⟨[(3, { entry5 with key := pfxKey 8 0 (10 * 2 ^ 24) })], []⟩ })] }, by decide +kernel⟩,
   ⟨mgr, 1, (tabled1 4 entry5).set Reg.TBL_CMD_ARG_TABLE 1, by decide +kernel⟩,
   ⟨workOf 0x80, 1 + 3 * 2 ^ 32 + 5 * 2 ^ 512, 1, flightOf 0x80, ⟨5, 5, 3, 0, 0, false, false, false, false, some 7, 0, 0, none⟩, tenantTable 0x80 [], by decide +kernel⟩,
   ⟨workOf 0x81, 1 + 5 * 2 ^ 512, 1, flightOf 0x81, { entry5 with niche := 5 }, tenantTable 0x81 [(3, { entry5 with niche := 5 })], by decide +kernel⟩,
   ⟨workOf 0x82, 1 + 5 * 2 ^ 512, 1, flightOf 0x82, { entry5 with niche := 5 }, false, tenantTable 0x82 [(3, { entry5 with niche := 5 })], by decide +kernel⟩⟩

/-- Operands and states that meet the hypotheses of TableUpkeepCommandsComplete, clause by clause. -/
theorem test_meets_TableUpkeepCommandsComplete :
    (∃ (table : Nat) (l : Learn) (rest : List Learn) (s : State), (s.tblX table).learns = l :: rest ∧ (if (s.tblX table).learnAt =
      s.stk.boundary then (s.tblX table).learned else 0) < s.effI Reg.TBL_L2_CFG_RATE table ∧ s.entryNow table l.key 0 = none ∧ ((s.tblX
      table).live.insert (s.getI Reg.TBL_CUCKOO_SEED table) (s.tblBuckets table) (s.effI Reg.TBL_CUCKOO_MAX_KICKS table) s.stk.boundary
      ⟨l.key, 0, l.action, 0, l.source, false, false, true, true, none, 0, 0, none⟩).isSome = true) ∧
    (∃ (table : Nat) (l : Learn) (rest : List Learn) (e : FlowEntry) (s : State), (s.tblX table).moving = l :: rest ∧ s.entryNow table l.key
      0 = some e ∧ e.learned = true ∧ (e.lastMove.all fun b => decide (b + s.getI Reg.TBL_L2_CFG_MOVE_HOLD table ≤ s.stk.boundary)) = true)
      ∧
    (∃ (table place b : Nat) (s : State), Map.find? (s.tblX table).live.moves place = some b ∧ (s.flagI Reg.TBL_INFO_STACKED table = true →
      b + 4 ≤ s.stk.boundary)) ∧
    (∃ (table period n k : Nat) (s : State), s.getI Reg.TBL_AGE_PERIOD table = period ∧ s.getI Reg.PRS_TBL_CAP_CAPACITY table + 16 = n ∧
      period ≠ 0 ∧ (s.tblX table).sweptAt ≠ s.stk.boundary ∧ s.stk.boundary % period = k ∧ ((s.tblX table).live.slots.map (·.1)).Nodup) ∧
    (∃ (who : Issuer) (n : Nat) (s : State), tableOpen s who ∧ s.get Reg.TBL_CMD_ARG_TABLE = n ∧ (s.tblKind n 1 = true ∨ s.tblKind n 2 =
      true) ∧ s.get Reg.TBL_REHASH_STATE ∉ [1, 2, 3] ∧ s.getI Reg.PRS_TBL_CAP_CAPACITY n * s.tblUnits n ≤ (if s.flagI Reg.TBL_INFO_STACKED n
      then s.tbl.reserve.2 else s.tbl.reserve.1)) ∧
    (∃ (r : Rehash) (n : Nat) (s : State), s.tbl.rehash = some r ∧ s.get Reg.TBL_REHASH_STATE = 1 ∧ s.get Reg.TBL_REHASH_TABLE = n ∧ r.since
      ≤ s.stk.boundary ∧ (s.tblX n).live.slots.length ≤ (s.stk.boundary + 1 - r.since) * 65536) ∧
    (∃ (who : Issuer) (s : State), tableOpen s who ∧ s.get Reg.TBL_REHASH_STATE = 2 ∧ s.get Reg.TBL_REHASH_TABLE = s.get
      Reg.TBL_CMD_ARG_TABLE) ∧
    (∃ (r : Rehash) (b : Nat) (s : State), s.tbl.rehash = some r ∧ r.switchedAt = some b ∧ b + 4 ≤ s.stk.boundary) ∧
    (∃ (who : Issuer) (s : State), tableOpen s who ∧ s.get Reg.TBL_REHASH_STATE ∈ [1, 2] ∧ s.get Reg.TBL_REHASH_TABLE = s.get
      Reg.TBL_CMD_ARG_TABLE) ∧
    (∃ (who : Issuer) (s : State), readOpen s 0xB00090) :=
  ⟨⟨1, ⟨5, 9, 1⟩, [], (tabled 4).updTbl fun u => { u with tables := [(1, { TblX.empty with learns := [⟨5, 9, 1⟩] })] }, by decide +kernel⟩,
   ⟨1, ⟨5, 10, 2⟩, [], entry5, (tabled 4).updTbl fun u => { u with tables := [(1, { TblX.empty with live := ⟨[(3, entry5)], []⟩, moving := [⟨5, 10, 2⟩] })] }, by decide +kernel⟩,
   ⟨1, 3, 0, tabled1 4 entry5, by decide +kernel⟩,
   ⟨1, 2, 32, 0, ((tabled1 4 entry5).setI Reg.TBL_AGE_PERIOD 1 2).updStk fun u => { u with boundary := 6 }, by decide +kernel⟩,
   ⟨mgr, 1, (tabled 4).set Reg.TBL_CMD_ARG_TABLE 1, by decide +kernel⟩,
   ⟨⟨7, 0, none, none⟩, 1, rehashing 1 ⟨7, 0, none, none⟩, by decide +kernel⟩,
   ⟨mgr, rehashing 2 ⟨7, 0, some Store.empty, none⟩, by decide +kernel⟩,
   ⟨⟨7, 0, none, some 0⟩, 0, (rehashing 3 ⟨7, 0, none, some 0⟩).updStk fun u => { u with boundary := 4 }, by decide +kernel⟩,
   ⟨mgr, rehashing 2 ⟨7, 0, some Store.empty, none⟩, by decide +kernel⟩,
   ⟨mgr, rehashing 4 ⟨7, 0, none, none⟩, by decide +kernel⟩⟩

/-- Operands and states that meet the hypotheses of SchedulerCommandsComplete, clause by clause. -/
theorem test_meets_SchedulerCommandsComplete :
    (∃ (who : Issuer) (n q l : Nat) (s : State), managerCmd s Blk.sch 0xC00000 who ∧ s.get Reg.SCH_CMD_ARG_NICHE = n ∧ s.get
      Reg.SCH_CMD_ARG_INDEX = q ∧ s.get Reg.SCH_CMD_ARG_LOCAL = l ∧ s.nicheRefusal n = none ∧ s.flagI Reg.SCH_NODE_CFG_DEFINED q = true ∧
      s.tdiLocked n = false ∧ s.flagI Reg.SCH_QUEUE_CFG_BOUND q = false ∧ Map.find? s.sch.local_ (localKey n l) = none ∧ s.quotaLeft n 3 ≠
      0) ∧
    (∃ (who : Issuer) (q : Nat) (s : State), managerCmd s Blk.sch 0xC00000 who ∧ s.get Reg.SCH_CMD_ARG_INDEX = q ∧ s.flagI
      Reg.SCH_NODE_CFG_DEFINED q = true ∧ s.tdiLocked (s.getI Reg.SCH_QUEUE_CFG_NICHE q) = false ∧ s.flagI Reg.SCH_QUEUE_CFG_BOUND q = true
      ∧ s.queue q = []) ∧
    (∃ (who : Issuer) (n p : Nat) (s : State), managerCmd s Blk.sch 0xC00000 who ∧ s.get Reg.SCH_CMD_ARG_NICHE = n ∧ s.get
      Reg.SCH_CMD_ARG_INDEX = p ∧ s.nicheRefusal n = none ∧ p < 65536 ∧ s.tdiLocked n = false ∧ s.flagI Reg.SCH_POL_CFG_BOUND p = false ∧
      s.quotaLeft n 8 ≠ 0) ∧
    (∃ (who : Issuer) (p : Nat) (s : State), managerCmd s Blk.sch 0xC00000 who ∧ s.get Reg.SCH_CMD_ARG_INDEX = p ∧ p < 65536 ∧ s.tdiLocked
      (s.getI Reg.SCH_POL_CFG_NICHE p) = false ∧ s.flagI Reg.SCH_POL_CFG_BOUND p = true) ∧
    (∃ (who : Issuer) (gcl p n : Nat) (s : State), managerCmd s Blk.sch 0xC00000 who ∧ byteField gcl 0 0 = p ∧ byteField gcl 2 3 = n ∧ p <
      16 ∧ 1 ≤ n ∧ n ≤ 256 ∧ s.getI Reg.SCH_PORT_CFG_RATE_MBPS p ≠ 0 ∧ expandTime s.stk.phcNs (byteField gcl 8 15) % s.period = 0 ∧
      ((gclEntries gcl n).all fun e => e.2 != 0) = true) ∧
    (∃ (who : Issuer) (s : State), managerCmd s Blk.sch 0xC00000 who) ∧
    (∃ (port at_ : Nat) (g : GateList) (s : State), Map.find? s.sch.pend port = some g ∧ Map.find? s.sch.pendAt port = some at_ ∧ at_ ≤
      s.stk.phcNs) ∧
    (∃ (who : Issuer) (value h : Nat) (s : State), writeOpen s who 0xC00030 ∧ s.get Reg.SCH_NODE_SEL_NODE = h ∧ s.flagI
      Reg.SCH_NODE_CFG_DEFINED h = true ∧ s.rateHeld h = false) ∧
    (∃ (who : Issuer) (mode p : Nat) (s : State), writeOpen s who 0xC00080 ∧ s.get Reg.SCH_POL_SEL_POLICER = p ∧ 9216 ≤ s.getI
      Reg.SCH_POL_BURST_CBS p ∧ 9216 ≤ s.getI Reg.SCH_POL_BURST_SECOND_BURST p ∧ (s.getI Reg.SCH_POL_RATE_CIR p * s.period + 7999999) /
      8000000 ≤ s.getI Reg.SCH_POL_BURST_CBS p ∧ (s.getI Reg.SCH_POL_RATE_SECOND_RATE p * s.period + 7999999) / 8000000 ≤ s.getI
      Reg.SCH_POL_BURST_SECOND_BURST p ∧ (mode = 0 → s.getI Reg.SCH_POL_RATE_CIR p ≤ s.getI Reg.SCH_POL_RATE_SECOND_RATE p)) ∧
    (∃ (port start : Nat) (s : State), s.running = true ∧ s.getI Reg.SCH_PORT_CFG_RATE_MBPS port ≠ 0 ∧ s.sch.linkUp.contains port = true ∧
      s.unitServes 6 port = true ∧ s.sch.late.contains port = false ∧ (s.stk.phcNs + s.period) * 1000 = start) ∧
    (∃ (port start at_ : Nat) (u v : State) (f : SFrame) (s : State), s.running = true ∧ s.getI Reg.SCH_PORT_CFG_RATE_MBPS port ≠ 0 ∧
      s.sch.linkUp.contains port = true ∧ s.unitServes 6 port = true ∧ s.sch.late.contains port = false ∧ (s.stk.phcNs + s.period) * 1000 =
      start ∧ max start ((Map.find? s.sch.wireFree port).getD 0) = at_ ∧ at_ < start + s.period * 1000 ∧ dropUnfit port s = u ∧ dueLaunch u
      port (start + s.period * 1000) = [] ∧ select u port at_ (at_ + 10 ^ 18) = some (f, v)) ∧
    (∃ (port sub : Nat) (f : SFrame) (rest : List SFrame) (s : State), (Map.find? s.sch.lists port).getD [] = f :: rest ∧
      s.sch.late.contains port = false ∧ f.oneStep = false) :=
  ⟨⟨mgr, 5, 20, 0, schedArgs, by decide +kernel⟩,
   ⟨mgr, 20, (schedArgs.setI Reg.SCH_QUEUE_CFG_BOUND 20 1).updSch fun u => { u with local_ := [(0, 20)] }, by decide +kernel⟩,
   ⟨mgr, 5, 20, schedArgs, by decide +kernel⟩,
   ⟨mgr, 20, (schedArgs.setI Reg.SCH_POL_CFG_BOUND 20 1).setI Reg.SCH_POL_RED_COUNT 20 7, by decide +kernel⟩,
   ⟨mgr, 2 + 2 ^ 16 + 3 * 2 ^ 512 + 2 ^ 528, 2, 1, ported, by decide +kernel⟩,
   ⟨mgr, (ported.set Reg.SCH_CMD_ARG_PORT 2).updSch fun u => { u with pend := [(2, ⟨[(3, 1)], 0⟩)], pendAt := [(2, 0)] }, by decide +kernel⟩,
   ⟨2, 0, ⟨[(3, 1)], 0⟩, ported.updSch fun u => { u with pend := [(2, ⟨[(3, 1)], 0⟩)], pendAt := [(2, 0)] }, by decide +kernel⟩,
   ⟨mgr, 5 * 2 ^ 32, 20, ported.set Reg.SCH_NODE_SEL_NODE 20, by decide +kernel⟩,
   ⟨mgr, 1, 0, (ported.setI Reg.SCH_POL_BURST_CBS 0 10000).setI Reg.SCH_POL_BURST_SECOND_BURST 0 9216, by decide +kernel⟩,
   ⟨2, 256000, queued1, by decide +kernel⟩,
   ⟨2, 256000, 256000, queued1, (setTurn (classNode 2 0) 20 queued1), sframe, queued1, by decide +kernel⟩,
   ⟨2, 0, sframe, [], ported.updSch fun u => { u with lists := [(2, [sframe])] }, by decide +kernel⟩⟩

/-- Operands and states that meet the hypotheses of TurelmWorkCommandsComplete, clause by clause. -/
theorem test_meets_TurelmWorkCommandsComplete :
    (∃ (w : Work) (f : Flight) (e : Endpoint) (x : Window) (s : State), tlTakes s w 0x10 f e ∧ (dataCheck s f e 1).toOption = some x ∧
      s.sendRoom (eDev f.entry) = true) ∧
    (∃ (w : Work) (f : Flight) (e : Endpoint) (x : Window) (s : State), tlTakes s w 0x11 f e ∧ (dataCheck s f e 2).toOption = some x ∧
      s.sendRoom (eDev f.entry) = true) ∧
    (∃ (w : Work) (f : Flight) (e : Endpoint) (x : Window) (s : State), tlTakes s w 0x12 f e ∧ (dataCheck s f e 3).toOption = some x ∧
      s.sendRoom (eDev f.entry) = true) ∧
    (∃ (w : Work) (f : Flight) (e : Endpoint) (x : Window) (s : State), tlTakes s w 0x13 f e ∧ (dataCheck s f e 4).toOption = some x ∧
      s.sendRoom (eDev f.entry) = true) ∧
    (∃ (w : Work) (f : Flight) (e : Endpoint) (s : State), tlTakes s w 0x14 f e ∧ peerStatus s (eDev f.entry) = St.ok ∧ byteField f.entry 16
      16 ≤ 2 ∧ eRemoteOff f.entry % 8 = 0 ∧ s.sendRoom (eDev f.entry) = true) ∧
    (∃ (w : Work) (f : Flight) (e : Endpoint) (s : State), tlTakes s w 0x15 f e ∧ peerStatus s (eDev f.entry) = St.ok ∧ s.settledTo f = true
      ∧ s.sendRoom (eDev f.entry) = true) ∧
    (∃ (w : Work) (f : Flight) (e : Endpoint) (x : Window) (s : State), tlTakes s w 0x16 f e ∧ (localCheck s f.niche e.pd (eLocalKey
      f.entry) 4 (eLocalOff f.entry) (eLen f.entry)).toOption = some x ∧ eLen f.entry ≠ 0 ∧ e.buffers.length < 512) ∧
    (∃ (w : Work) (f : Flight) (ep : Nat) (s : State), takes s w 0x18 f ∧ s.flag Reg.JNL_STATUS_REGION_READY = true ∧ Map.find? s.tlt.pds
      (ePd f.entry) = some f.niche ∧ (Map.find? s.sch.local_ (localKey f.niche (eQueue f.entry))).isSome = true ∧ s.quotaLeft f.niche 4 ≠ 0
      ∧ (bit (eSpace f.entry) 0 = 1 → s.quotaLeft f.niche 14 ≠ 0) ∧ lowestFree (s.tlt.eps.length + s.tlt.epHold.length + 1) 0 (s.tlt.eps.map
      (·.1) ++ s.tlt.epHold.map (·.1)) = some ep ∧ ep < poolEp) ∧
    (∃ (w : Work) (f : Flight) (e : Endpoint) (s : State), takes s w 0x19 f ∧ s.flag Reg.JNL_STATUS_REGION_READY = true ∧ s.ownEp f.niche
      (eEndpoint f.entry) = some e) ∧
    (∃ (ep b : Nat) (s : State), Map.find? s.tlt.epHold ep = some b ∧ b ≤ s.stroke) ∧
    (∃ (w : Work) (f : Flight) (s : State), takes s w 0x1A f ∧ s.flag Reg.JNL_STATUS_REGION_READY = true ∧ winStatus s f = St.ok ∧
      s.quotaLeft f.niche 6 ≠ 0 ∧ s.winsTaken.length < 65536) ∧
    (∃ (w : Work) (f : Flight) (i : Nat) (s : State), takes s w 0x1B f ∧ s.flag Reg.JNL_STATUS_REGION_READY = true ∧ (keyNamed s f.niche
      (eKey f.entry)).toOption = some i ∧ winStatus s f = St.ok ∧ eKey f.entry % 256 < 255) ∧
    (∃ (w : Work) (f : Flight) (i : Nat) (s : State), takes s w 0x1B f ∧ s.flag Reg.JNL_STATUS_REGION_READY = true ∧ (keyNamed s f.niche
      (eKey f.entry)).toOption = some i ∧ winStatus s f = St.ok ∧ eKey f.entry % 256 = 255 ∧ s.winsTaken.length + s.tlt.gens.length < 65536)
      ∧
    (∃ (w : Work) (f : Flight) (i : Nat) (s : State), takes s w 0x1C f ∧ s.flag Reg.JNL_STATUS_REGION_READY = true ∧ (keyNamed s f.niche
      (eKey f.entry)).toOption = some i) ∧
    (∃ (index q : Nat) (x : Fence) (s : State), (s.tlt.fences.find? fun y => y.index == index) = some x ∧ x.seq = some q ∧ waits s q) ∧
    (∃ (index b : Nat) (s : State), Map.find? s.tlt.winHold index = some b ∧ b ≤ s.stroke) ∧
    (∃ (w : Work) (f : Flight) (s : State), takes s w 0x1D f ∧ s.flag Reg.JNL_STATUS_REGION_READY = true ∧ s.quotaLeft f.niche 7 ≠ 0 ∧
      s.tlt.pds.length < 65536) ∧
    (∃ (w : Work) (f : Flight) (d : Nat) (s : State), takes s w 0x1E f ∧ s.flag Reg.JNL_STATUS_REGION_READY = true ∧ ePd f.entry = d ∧
      Map.find? s.tlt.pds d = some f.niche ∧ (s.tlt.eps.any fun p => p.2.pd == d) = false ∧ (s.tlt.wins.any fun p => p.2.pd == d &&
      p.2.space != 2) = false) :=
  ⟨⟨workOf (tlEntry 0x10), flightOf (tlEntry 0x10), ep5, win5, tlState 0x10, by decide +kernel⟩,
   ⟨workOf (tlEntry 0x11), flightOf (tlEntry 0x11), ep5, win5, tlState 0x11, by decide +kernel⟩,
   ⟨workOf (tlEntry 0x12), flightOf (tlEntry 0x12), ep5, win5, tlState 0x12, by decide +kernel⟩,
   ⟨workOf (tlEntry 0x13), flightOf (tlEntry 0x13), ep5, win5, tlState 0x13, by decide +kernel⟩,
   ⟨workOf (0x14 + 3 * 2 ^ 32 + 9 * 2 ^ 64), flightOf (0x14 + 3 * 2 ^ 32 + 9 * 2 ^ 64), ep5, onFabric (taken (0x14 + 3 * 2 ^ 32 + 9 * 2 ^ 64)), by decide +kernel⟩,
   ⟨workOf (tlEntry 0x15), flightOf (tlEntry 0x15), ep5, tlState 0x15, by decide +kernel⟩,
   ⟨workOf (tlEntry 0x16), flightOf (tlEntry 0x16), ep5, win5, tlState 0x16, by decide +kernel⟩,
   ⟨workOf (0x18 + 1 * 2 ^ 32), flightOf (0x18 + 1 * 2 ^ 32), 0, (onFabric ((taken (0x18 + 1 * 2 ^ 32)).updSch fun u => { u with local_ := [(localKey 5 0, 20)] })).setI Reg.NCH_QUOTA_LIMIT (quotaKey 5 4) 8, by decide +kernel⟩,
   ⟨workOf (0x19 + 3 * 2 ^ 224), flightOf (0x19 + 3 * 2 ^ 224), ep5, onFabric (taken (0x19 + 3 * 2 ^ 224)), by decide +kernel⟩,
   ⟨4, 0, (onFabric ringed).updTlt fun u => { u with epHold := [(4, 0)] }, by decide +kernel⟩,
   ⟨workOf (0x1A + 1 * 2 ^ 32 + 2 ^ 56 + 64 * 2 ^ 128), flightOf (0x1A + 1 * 2 ^ 32 + 2 ^ 56 + 64 * 2 ^ 128), (onFabric (taken (0x1A + 1 * 2 ^ 32 + 2 ^ 56 + 64 * 2 ^ 128))).setI Reg.NCH_QUOTA_LIMIT (quotaKey 5 6) 8, by decide +kernel⟩,
   ⟨workOf (0x1B + 1 * 2 ^ 32 + 2 ^ 56 + 64 * 2 ^ 128 + 513 * 2 ^ 192), flightOf (0x1B + 1 * 2 ^ 32 + 2 ^ 56 + 64 * 2 ^ 128 + 513 * 2 ^ 192), 2, onFabric (taken (0x1B + 1 * 2 ^ 32 + 2 ^ 56 + 64 * 2 ^ 128 + 513 * 2 ^ 192)), by decide +kernel⟩,
   ⟨workOf (0x1B + 1 * 2 ^ 32 + 2 ^ 56 + 64 * 2 ^ 128 + 767 * 2 ^ 192), flightOf (0x1B + 1 * 2 ^ 32 + 2 ^ 56 + 64 * 2 ^ 128 + 767 * 2 ^ 192), 2, (onFabric (taken (0x1B + 1 * 2 ^ 32 + 2 ^ 56 + 64 * 2 ^ 128 + 767 * 2 ^ 192))).updTlt fun u => { u with wins := [(2, { win5 with gen := 255 })] }, by decide +kernel⟩,
   ⟨workOf (0x1C + 513 * 2 ^ 192), flightOf (0x1C + 513 * 2 ^ 192), 2, onFabric (taken (0x1C + 513 * 2 ^ 192)), by decide +kernel⟩,
   ⟨2, 1, ⟨2, some 1, 514, 5⟩, (onFabric (taken (0x1C + 513 * 2 ^ 192))).updTlt fun u => { u with fences := [⟨2, some 1, 514, 5⟩] }, by decide +kernel⟩,
   ⟨4, 0, (onFabric ringed).updTlt fun u => { u with winHold := [(4, 0)] }, by decide +kernel⟩,
   ⟨workOf 0x1D, flightOf 0x1D, (onFabric (taken 0x1D)).setI Reg.NCH_QUOTA_LIMIT (quotaKey 5 7) 8, by decide +kernel⟩,
   ⟨workOf (0x1E + 4 * 2 ^ 32), flightOf (0x1E + 4 * 2 ^ 32), 4, (onFabric (taken (0x1E + 4 * 2 ^ 32))).updTlt fun u => { u with pds := [(1, 5), (4, 5)] }, by decide +kernel⟩⟩

/-- Operands and states that meet the hypotheses of TurelmReceiveCommandsComplete, clause by clause. -/
theorem test_meets_TurelmReceiveCommandsComplete :
    (∃ (p : TlPkt) (x : Window) (s : State), arrives s p ∧ s.msgPlace p.src p.msg = .open_ ∧ targetOpen s p ∧ s.rxMsg p.src p.msg = none ∧
      p.op = 1 ∧ chunkCount p.len p.seg = 1 ∧ chunkOf p = 0 ∧ bit p.flags 0 = 0 ∧ (targetWin s p rightWrite (byteField p.ext 8 15 + p.off)
      p.data.length).toOption = some x) ∧
    (∃ (p : TlPkt) (x : Window) (y : RxMsg) (s : State), arrives s p ∧ s.msgPlace p.src p.msg = .open_ ∧ targetOpen s p ∧ s.rxMsg p.src
      p.msg = some y ∧ p.op = 1 ∧ y.held.contains (chunkOf p) = false ∧ chunkOf p < firstGap y.held + 1024 ∧ (insertNat (chunkOf p)
      y.held).length ≠ chunkCount y.len y.seg ∧ (targetWin s p rightWrite (byteField p.ext 8 15 + p.off) p.data.length).toOption = some x) ∧
    (∃ (p : TlPkt) (e : Endpoint) (f : Flight) (x : Window) (q : Nat) (rest : List Nat) (s : State), arrives s p ∧ s.msgPlace p.src p.msg =
      .open_ ∧ targetOpen s p ∧ s.rxMsg p.src p.msg = none ∧ p.op = 3 ∧ chunkCount p.len p.seg = 1 ∧ chunkOf p = 0 ∧ bit p.flags 0 = 0 ∧
      Map.find? s.tlt.eps p.dstEp = some e ∧ e.buffers = q :: rest ∧ s.flight q = some f ∧ f.done = none ∧ p.len ≤ eLen f.entry ∧ p.data ≠
      [] ∧ (winCheck s (eLocalKey f.entry) (fun w => w.pd == e.pd) 4 (eLocalOff f.entry + p.off) p.data.length).toOption = some x) ∧
    (∃ (p : TlPkt) (e : Endpoint) (f : Flight) (x : Window) (q : Nat) (rest : List Nat) (s : State), arrives s p ∧ s.msgPlace p.src p.msg =
      .open_ ∧ targetOpen s p ∧ s.rxMsg p.src p.msg = none ∧ p.op = 2 ∧ chunkCount p.len p.seg = 1 ∧ chunkOf p = 0 ∧ bit p.flags 0 = 0 ∧
      Map.find? s.tlt.eps p.dstEp = some e ∧ e.buffers = q :: rest ∧ s.flight q = some f ∧ f.done = none ∧ p.len ≤ eLen f.entry ∧ (targetWin
      s p rightWrite (byteField p.ext 8 15 + p.off) p.data.length).toOption = some x) ∧
    (∃ (p : TlPkt) (x : Window) (s : State), arrives s p ∧ s.msgPlace p.src p.msg = .open_ ∧ targetOpen s p ∧ (s.tlt.serves.any fun y =>
      y.peer == p.src && y.msg == p.msg) = false ∧ (targetWin s p rightRead (byteField p.ext 8 15) p.len).toOption = some x) ∧
    (∃ (p : TlPkt) (x : Window) (s : State), arrives s p ∧ s.msgPlace p.src p.msg = .open_ ∧ targetOpen s p ∧ (s.tlt.serves.any fun y =>
      y.peer == p.src && y.msg == p.msg) = false ∧ s.trackers < s.get Reg.TLT_TRK_CAP_RECV_MAX ∧ (targetWin s p rightAtomic (byteField p.ext
      8 15) 8).toOption = some x ∧ byteField p.ext 4 4 ≤ 2 ∧ byteField p.ext 8 15 % 8 = 0 ∧ x.space ≠ 0) ∧
    (∃ (p : TlPkt) (s : State), arrives s p ∧ s.msgPlace p.src p.msg = .open_ ∧ (s.tlt.flushes.any fun y => y.1 == p.src && y.2.1 == p.msg)
      = false) ∧
    (∃ (p : TlPkt) (d : Map (Nat × Nat)) (s : State), arrives s p ∧ s.msgPlace p.src p.msg = .open_ ∧ (s.tlt.flushes.any fun y => y.1 ==
      p.src && y.2.1 == p.msg) = false ∧ (s.peerX p.src).dirty = d ∧ d ≠ []) ∧
    (∃ (peer msg : Nat) (x : Nat × Nat × Map (Nat × Nat)) (s : State), (s.tlt.flushes.find? fun y => y.1 == peer && y.2.1 == msg) = some x ∧
      (s.hif.tags.any fun y => y.purpose == .flush peer msg) = false ∧ (s.hif.waiting.any fun y => y.2 == .flush peer msg) = false) ∧
    (∃ (p : TlPkt) (s : State), arrives s p ∧ s.msgPlace p.src p.msg = .open_) ∧
    (∃ (peer msg : Nat) (x : RxMsg) (s : State), s.rxMsg peer msg = some x ∧ x.waiting = true ∧ s.laneTurn x = true) ∧
    (∃ (peer msg b : Nat) (x : RxMsg) (s : State), s.rxMsg peer msg = some x ∧ x.ackDue = some b ∧ b ≤ s.stroke) :=
  ⟨⟨pkt9 1 0, win5, onFabric ringed, by decide +kernel⟩,
   ⟨{ pkt9 1 0 with off := 8192, len := 24576 }, { win5 with len := 65536 }, { rx9 with len := 24576 }, (onFabric ringed).updTlt fun u => { u with wins := [(2, { win5 with len := 65536 })], rx := [{ rx9 with len := 24576 }] }, by decide +kernel⟩,
   ⟨pkt9 3 0, { ep5 with buffers := [1] }, { flightOf (tlEntry 0x16) with started := true }, win5, 1, [], (sent 3 0x16).updTlt fun u => { u with eps := [(3, { ep5 with buffers := [1] })] }, by decide +kernel⟩,
   ⟨pkt9 2 0, { ep5 with buffers := [1] }, { flightOf (tlEntry 0x16) with started := true }, win5, 1, [], (sent 3 0x16).updTlt fun u => { u with eps := [(3, { ep5 with buffers := [1] })] }, by decide +kernel⟩,
   ⟨pkt9 4 0, win5, onFabric ringed, by decide +kernel⟩,
   ⟨{ pkt9 6 0 with ext := 513 + 5 * 2 ^ 128 }, win5, onFabric ringed, by decide +kernel⟩,
   ⟨pkt9 8 0, onFabric ringed, by decide +kernel⟩,
   ⟨pkt9 8 0, [(0, (5, 4096))], (onFabric ringed).updTlt fun u => { u with peers := [(9, { PeerX.fresh with dirty := [(0, (5, 4096))] })] }, by decide +kernel⟩,
   ⟨9, 0, (9, 0, [(0, (5, 4096))]), (onFabric ringed).updTlt fun u => { u with flushes := [(9, 0, [(0, (5, 4096))])] }, by decide +kernel⟩,
   ⟨pkt9 12 0, (onFabric ringed).updTlt fun u => { u with rx := [rx9] }, by decide +kernel⟩,
   ⟨9, 0, { rx9 with waiting := true, ordered := true }, (onFabric ringed).updTlt fun u => { u with rx := [{ rx9 with waiting := true, ordered := true }] }, by decide +kernel⟩,
   ⟨9, 0, 0, rx9, (onFabric ringed).updTlt fun u => { u with rx := [rx9] }, by decide +kernel⟩⟩

/-- Operands and states that meet the hypotheses of TurelmReplyCommandsComplete, clause by clause. -/
theorem test_meets_TurelmReplyCommandsComplete :
    (∃ (p : TlPkt) (x : Send) (q : Nat) (w : Window) (s : State), arrives s p ∧ s.send p.src p.msg = some x ∧ x.op = 4 ∧ x.owner = .work q ∧
      x.dstEp ≠ poolEp ∧ (Map.find? s.tlt.eps p.dstEp).all (·.onDie) = true ∧ x.held.contains (chunkOf p) = false ∧ (winCheck s x.lkey (fun
      w => some w.pd == (Map.find? s.tlt.eps x.srcEp).map (·.pd)) 4 (x.loff + p.off) p.data.length).toOption = some w ∧ (insertNat (chunkOf
      p) x.held).length = chunkCount x.len x.seg ∧ waits s q) ∧
    (∃ (p : TlPkt) (x : Send) (q : Nat) (w : Window) (s : State), arrives s p ∧ s.send p.src p.msg = some x ∧ x.op = 4 ∧ x.owner = .work q ∧
      x.dstEp ≠ poolEp ∧ (Map.find? s.tlt.eps p.dstEp).all (·.onDie) = true ∧ x.held.contains (chunkOf p) = false ∧ (winCheck s x.lkey (fun
      w => some w.pd == (Map.find? s.tlt.eps x.srcEp).map (·.pd)) 4 (x.loff + p.off) p.data.length).toOption = some w ∧ (insertNat (chunkOf
      p) x.held).length ≠ chunkCount x.len x.seg) ∧
    (∃ (p : TlPkt) (x : Send) (q : Nat) (s : State), arrives s p ∧ s.send p.src p.msg = some x ∧ x.op = 6 ∧ x.owner = .work q ∧ (Map.find?
      s.tlt.eps p.dstEp).all (·.onDie) = true ∧ waits s q) ∧
    (∃ (p : TlPkt) (x : Send) (q : Nat) (s : State), arrives s p ∧ s.send p.src p.msg = some x ∧ x.op = 8 ∧ x.owner = .work q ∧ waits s q) ∧
    (∃ (p : TlPkt) (x : Send) (q : Nat) (new : List Nat) (s : State), arrives s p ∧ bit p.flags 1 = 0 ∧ s.send p.src p.msg = some x ∧
      x.carries = true ∧ ((ackChunks x.packets p.ext).filter fun k => decide (k < x.packets) && !x.held.contains k) = new ∧ new ≠ [] ∧
      x.held.length + new.length = x.packets ∧ x.owner = .work q ∧ waits s q) ∧
    (∃ (p : TlPkt) (x : Send) (new : List Nat) (s : State), arrives s p ∧ bit p.flags 1 = 0 ∧ s.send p.src p.msg = some x ∧ x.carries = true
      ∧ ((ackChunks x.packets p.ext).filter fun k => decide (k < x.packets) && !x.held.contains k) = new ∧ new ≠ [] ∧ x.held.length +
      new.length ≠ x.packets) ∧
    (∃ (p : TlPkt) (x : Send) (q : Nat) (s : State), arrives s p ∧ s.send p.src p.msg = some x ∧ x.op ≠ 0xC ∧ byteField p.ext 0 0 ≠
      St.receiverBusy ∧ byteField p.ext 0 0 ≠ St.ok ∧ x.owner = .work q ∧ waits s q) ∧
    (∃ (p : TlPkt) (x : Send) (s : State), arrives s p ∧ s.send p.src p.msg = some x ∧ x.op ≠ 0xC ∧ byteField p.ext 0 0 = St.receiverBusy ∧
      x.busy + 1 ≤ s.eff Reg.TLT_RETRY_BUSY_LIMIT) ∧
    (∃ (peer msg : Nat) (x : Send) (s : State), s.send peer msg = some x ∧ x.due ≤ s.stroke ∧ x.tries + 1 ≤ s.eff Reg.TLT_RETRY_LIMIT) ∧
    (∃ (peer msg q : Nat) (x : Send) (s : State), s.send peer msg = some x ∧ x.due ≤ s.stroke ∧ s.eff Reg.TLT_RETRY_LIMIT < x.tries + 1 ∧
      x.op ≠ 0xC ∧ x.owner = .work q ∧ waits s q) ∧
    (∃ (peer msg chunk : Nat) (x : Send) (c : Nat × Nat) (s : State), s.send peer msg = some x ∧ (x.chunkDue.find? fun c => c.1 == chunk) =
      some c ∧ c.2 ≤ s.stroke) ∧
    (∃ (ep status : Nat) (e : Endpoint) (s : State), status = St.ok ∧ Map.find? s.tlt.eps ep = some e ∧ e.recalling = true ∧
      (s.tlt.recallHeld.filter fun p => p.dstEp == ep) = [] ∧ (s.tlt.eps.filter fun p => p.2.onDie).length < 262144) ∧
    (∃ (ep status : Nat) (e : Endpoint) (s : State), Map.find? s.tlt.eps ep = some e ∧ e.recalling = true ∧ status ≠ St.ok) :=
  ⟨⟨pkt9 5 6, send5 4, 1, win5, sent 4 0x13, by decide +kernel⟩,
   ⟨pkt9 5 6, { send5 4 with len := 16384 }, 1, win5, (sent 4 0x13).updTlt fun u => { u with sends := [{ send5 4 with len := 16384 }] }, by decide +kernel⟩,
   ⟨pkt9 7 6, send5 6, 1, sent 6 0x14, by decide +kernel⟩,
   ⟨pkt9 9 6, send5 8, 1, sent 8 0x15, by decide +kernel⟩,
   ⟨{ pkt9 10 6 with ext := 0xFFFFFFFF }, { send5 1 with next := 1 }, 1, [0], (sent 1 0x10).updTlt fun u => { u with sends := [{ send5 1 with next := 1 }] }, by decide +kernel⟩,
   ⟨{ pkt9 10 6 with ext := 1 }, { send5 1 with next := 2, len := 16384 }, [0], (sent 1 0x10).updTlt fun u => { u with sends := [{ send5 1 with next := 2, len := 16384 }] }, by decide +kernel⟩,
   ⟨{ pkt9 11 6 with ext := 5 }, send5 1, 1, sent 1 0x10, by decide +kernel⟩,
   ⟨{ pkt9 11 6 with ext := St.receiverBusy }, send5 1, sent 1 0x10, by decide +kernel⟩,
   ⟨9, 6, { send5 1 with next := 1, rto := 2 }, (sent 1 0x10).updTlt fun u => { u with sends := [{ send5 1 with next := 1, rto := 2 }] }, by decide +kernel⟩,
   ⟨9, 6, 1, { send5 1 with next := 1, rto := 2, tries := 1000 }, (sent 1 0x10).updTlt fun u => { u with sends := [{ send5 1 with next := 1, rto := 2, tries := 1000 }] }, by decide +kernel⟩,
   ⟨9, 6, 0, { send5 1 with chunkDue := [(0, 0)] }, (0, 0), (sent 1 0x10).updTlt fun u => { u with sends := [{ send5 1 with chunkDue := [(0, 0)] }] }, by decide +kernel⟩,
   ⟨3, 0, { ep5 with onDie := false, recalling := true }, (onFabric ringed).updTlt fun u => { u with eps := [(3, { ep5 with onDie := false, recalling := true })] }, by decide +kernel⟩,
   ⟨3, 9, { ep5 with onDie := false, recalling := true }, (onFabric ringed).updTlt fun u => { u with eps := [(3, { ep5 with onDie := false, recalling := true })] }, by decide +kernel⟩⟩

/-- The same for both places of the metadata. -/
theorem test_meets_ext_2 (ext : Bool) :
    ∃ (h slot a k : Nat) (bad : Bool) (c : NvCmd) (x : NvCtrl) (data side : List Byte) (l : List (Nat × Nat)) (s : State), c.ns = 3 ∧
      ioReady s h 2 slot c ∧ bad = false ∧ s.nvCtrl c.ctrl = some x ∧ (nsPlace s (s.nsDesc c.ns) (qSlba c.sqe * nStep (s.nsDesc c.ns)) (qNlb
      c.sqe * nStep (s.nsDesc c.ns)) rightRead).toOption = some (some a) ∧ (blocksOut ext (s.nsDesc c.ns) c.sqe 0 (qNlb c.sqe) (memReadList
      s a (qNlb c.sqe * nStep (s.nsDesc c.ns)))).toOption = some (data, side) ∧ (hostSpans x.page c.sqe data.length c.data).toOption = some
      (l, k) := by
  cases ext <;> exact ⟨0, 0, 4096 * 0, 0, false, nvcmd 1 (2 + 2 * 2 ^ 32 + 8192 * 2 ^ 192), nvc, List.replicate 512 0, [], [(8192, 512)], ready1 1 (2 + 2 * 2 ^ 32 + 8192 * 2 ^ 192), by decide +kernel⟩

/-- The same for both places of the metadata. -/
theorem test_meets_ext_3 (ext : Bool) :
    ∃ (h slot a k : Nat) (c : NvCmd) (x : NvCtrl) (l : List (Nat × Nat)) (blocks : List Byte) (s : State), c.ns = 3 ∧ ioReady s h 1 slot c ∧
      s.nvCtrl c.ctrl = some x ∧ (hostSpans x.page c.sqe (hostData ext (s.nsDesc c.ns) c.sqe (qNlb c.sqe)) c.data).toOption = some (l, k) ∧
      (blocksIn ext (s.nsDesc c.ns) c.sqe 0 (qNlb c.sqe) ((c.data.drop k).take (hostData ext (s.nsDesc c.ns) c.sqe (qNlb c.sqe)))
      (c.data.drop (k + hostData ext (s.nsDesc c.ns) c.sqe (qNlb c.sqe)))).toOption = some blocks ∧ (nsPlace s (s.nsDesc c.ns) (qSlba c.sqe
      * nStep (s.nsDesc c.ns)) blocks.length rightWrite).toOption = some (some a) := by
  cases ext <;> exact ⟨0, 0, 0, 0, nvcmd 1 (1 + 2 * 2 ^ 32 + 8192 * 2 ^ 192), nvc, [(8192, 512)], List.replicate 512 0, ready1 1 (1 + 2 * 2 ^ 32 + 8192 * 2 ^ 192), by decide +kernel⟩

/-- The same for both places of the metadata. -/
theorem test_meets_ext_4 (ext : Bool) :
    ∃ (h slot a k : Nat) (bad : Bool) (c : NvCmd) (x : NvCtrl) (data side : List Byte) (l : List (Nat × Nat)) (s : State), c.ns = 3 ∧
      ioReady s h 5 slot c ∧ bad = false ∧ s.nvCtrl c.ctrl = some x ∧ (nsPlace s (s.nsDesc c.ns) (qSlba c.sqe * nStep (s.nsDesc c.ns)) (qNlb
      c.sqe * nStep (s.nsDesc c.ns)) rightRead).toOption = some (some a) ∧ (blocksOut ext (s.nsDesc c.ns) c.sqe 0 (qNlb c.sqe) (memReadList
      s a (qNlb c.sqe * nStep (s.nsDesc c.ns)))).toOption = some (data, side) ∧ (hostSpans x.page c.sqe data.length c.data).toOption = some
      (l, k) := by
  cases ext <;> exact ⟨0, 0, 4096 * 0, 0, false, nvcmd 1 (5 + 2 * 2 ^ 32 + 8192 * 2 ^ 192), nvc, List.replicate 512 0, [], [(8192, 512)], ready1 1 (5 + 2 * 2 ^ 32 + 8192 * 2 ^ 192), by decide +kernel⟩

/-- The same for both places of the metadata. -/
theorem test_meets_ext_5 (ext : Bool) :
    ∃ (h slot a : Nat) (bad : Bool) (c : NvCmd) (x : NvCtrl) (data : List Byte × List Byte) (s : State), c.ns = 3 ∧ ioReady s h 0x0C slot c
      ∧ bad = false ∧ s.nvCtrl c.ctrl = some x ∧ (nsPlace s (s.nsDesc c.ns) (qSlba c.sqe * nStep (s.nsDesc c.ns)) (qNlb c.sqe * nStep
      (s.nsDesc c.ns)) rightRead).toOption = some (some a) ∧ (blocksOut ext (s.nsDesc c.ns) c.sqe 0 (qNlb c.sqe) (memReadList s a (qNlb
      c.sqe * nStep (s.nsDesc c.ns)))).toOption = some data := by
  cases ext <;> exact ⟨0, 0, 4096 * 0, false, nvcmd 1 (0x0C + 2 * 2 ^ 32), nvc, (List.replicate 512 0, []), ready1 1 (0x0C + 2 * 2 ^ 32), by decide +kernel⟩

/-- Operands and states that meet the hypotheses of NvmeIoCommandsComplete, clause by clause. -/
theorem test_meets_NvmeIoCommandsComplete :
    (∃ (ctrl qid value : Nat) (x : NvCtrl) (q : NvSq) (s : State), s.nvCtrl ctrl = some x ∧ s.getI Reg.NVS_CTRL_INFO_STATE ctrl = 2 ∧ s.nvSq
      ctrl qid = some q ∧ value < q.size) ∧
    (∃ (ctrl qid value : Nat) (x : NvCtrl) (q : NvCq) (s : State), s.nvCtrl ctrl = some x ∧ s.getI Reg.NVS_CTRL_INFO_STATE ctrl ∈ [2, 4] ∧
      s.nvCq ctrl qid = some q ∧ value < q.size ∧ (value + q.size - q.head) % q.size ≤ (q.tail + q.size - q.head) % q.size) ∧
    (∃ (ctrl cq v : Nat) (x : NvCtrl) (q : NvCq) (s : State), s.nvCtrl ctrl = some x ∧ s.nvCq ctrl cq = some q ∧ q.vector = some v ∧ 0 <
      q.owed ∧ q.since + (x.feat 8 0 0 / 256 % 256 * 100000 + s.period - 1) / s.period ≤ s.stk.boundary) ∧
    (∃ (c q : Nat) (x : NvCtrl) (y : NvSq) (s : State), s.running = true ∧ s.nvs.fetchedAt ≠ s.stk.boundary ∧ 0 < s.admitted 3 ∧ nextCtrl s
      = some (c, x) ∧ (arbitrate s c x).1 = some q ∧ s.nvSq c q = some y) ∧
    (∃ (ctrl sqid slot k e : Nat) (x : NvCtrl) (q : NvSq) (s : State), s.nvCtrl ctrl = some x ∧ s.nvSq ctrl sqid = some q ∧ s.nvSlot = some
      slot ∧ q.entries.findIdx? (mayForward s ctrl sqid) = some k ∧ q.entries.getD k 0 = e ∧ (if sqid = 0 then adminRefusal s ctrl e else
      ioRefusal s ctrl e) = none ∧ s.targetOf ctrl sqid e = none ∧ (if sqid = 0 then adminReads x e else ioReads x (Config.extendedLba
      ((s.nsOf ctrl (qNsid e)).getD 0)) (s.nsDesc ((s.nsOf ctrl (qNsid e)).getD 0)) e) = false) ∧
    (∃ (ctrl sqid slot k e j : Nat) (x : NvCtrl) (q : NvSq) (s : State), s.nvCtrl ctrl = some x ∧ s.nvSq ctrl sqid = some q ∧ s.nvSlot =
      some slot ∧ q.entries.findIdx? (mayForward s ctrl sqid) = some k ∧ q.entries.getD k 0 = e ∧ s.targetOf ctrl sqid e = some j ∧ s.flagI
      Reg.TIL_CH_INFO_HW_WRITER j = true) ∧
    (∃ (ctrl sqid slot k e sf : Nat) (x : NvCtrl) (q : NvSq) (s : State), s.nvCtrl ctrl = some x ∧ s.nvSq ctrl sqid = some q ∧ s.nvSlot =
      some slot ∧ q.entries.findIdx? (mayForward s ctrl sqid) = some k ∧ q.entries.getD k 0 = e ∧ (if sqid = 0 then adminRefusal s ctrl e
      else ioRefusal s ctrl e) = some sf) ∧
    (∃ (h slot a k : Nat) (bad ext : Bool) (c : NvCmd) (x : NvCtrl) (data side : List Byte) (l : List (Nat × Nat)) (s : State),
      Config.extendedLba c.ns = ext ∧ ioReady s h 2 slot c ∧ bad = false ∧ s.nvCtrl c.ctrl = some x ∧ (nsPlace s (s.nsDesc c.ns) (qSlba
      c.sqe * nStep (s.nsDesc c.ns)) (qNlb c.sqe * nStep (s.nsDesc c.ns)) rightRead).toOption = some (some a) ∧ (blocksOut ext (s.nsDesc
      c.ns) c.sqe 0 (qNlb c.sqe) (memReadList s a (qNlb c.sqe * nStep (s.nsDesc c.ns)))).toOption = some (data, side) ∧ (hostSpans x.page
      c.sqe data.length c.data).toOption = some (l, k)) ∧
    (∃ (h slot a k : Nat) (ext : Bool) (c : NvCmd) (x : NvCtrl) (l : List (Nat × Nat)) (blocks : List Byte) (s : State), Config.extendedLba
      c.ns = ext ∧ ioReady s h 1 slot c ∧ s.nvCtrl c.ctrl = some x ∧ (hostSpans x.page c.sqe (hostData ext (s.nsDesc c.ns) c.sqe (qNlb
      c.sqe)) c.data).toOption = some (l, k) ∧ (blocksIn ext (s.nsDesc c.ns) c.sqe 0 (qNlb c.sqe) ((c.data.drop k).take (hostData ext
      (s.nsDesc c.ns) c.sqe (qNlb c.sqe))) (c.data.drop (k + hostData ext (s.nsDesc c.ns) c.sqe (qNlb c.sqe)))).toOption = some blocks ∧
      (nsPlace s (s.nsDesc c.ns) (qSlba c.sqe * nStep (s.nsDesc c.ns)) blocks.length rightWrite).toOption = some (some a)) ∧
    (∃ (h slot a k : Nat) (bad ext : Bool) (c : NvCmd) (x : NvCtrl) (data side : List Byte) (l : List (Nat × Nat)) (s : State),
      Config.extendedLba c.ns = ext ∧ ioReady s h 5 slot c ∧ bad = false ∧ s.nvCtrl c.ctrl = some x ∧ (nsPlace s (s.nsDesc c.ns) (qSlba
      c.sqe * nStep (s.nsDesc c.ns)) (qNlb c.sqe * nStep (s.nsDesc c.ns)) rightRead).toOption = some (some a) ∧ (blocksOut ext (s.nsDesc
      c.ns) c.sqe 0 (qNlb c.sqe) (memReadList s a (qNlb c.sqe * nStep (s.nsDesc c.ns)))).toOption = some (data, side) ∧ (hostSpans x.page
      c.sqe data.length c.data).toOption = some (l, k)) ∧
    (∃ (h slot a : Nat) (bad ext : Bool) (c : NvCmd) (x : NvCtrl) (data : List Byte × List Byte) (s : State), Config.extendedLba c.ns = ext
      ∧ ioReady s h 0x0C slot c ∧ bad = false ∧ s.nvCtrl c.ctrl = some x ∧ (nsPlace s (s.nsDesc c.ns) (qSlba c.sqe * nStep (s.nsDesc c.ns))
      (qNlb c.sqe * nStep (s.nsDesc c.ns)) rightRead).toOption = some (some a) ∧ (blocksOut ext (s.nsDesc c.ns) c.sqe 0 (qNlb c.sqe)
      (memReadList s a (qNlb c.sqe * nStep (s.nsDesc c.ns)))).toOption = some data) ∧
    (∃ (h slot a : Nat) (c : NvCmd) (s : State), ioReady s h 8 slot c ∧ (nsPlace s (s.nsDesc c.ns) (qSlba c.sqe * nStep (s.nsDesc c.ns))
      (zeroBlocks (s.nsDesc c.ns) (qNlb c.sqe)).length rightWrite).toOption = some (some a)) ∧
    (∃ (h slot k : Nat) (c : NvCmd) (x : NvCtrl) (l : List (Nat × Nat)) (s : State), ioReady s h 9 slot c ∧ s.nvCtrl c.ctrl = some x ∧
      (hostSpans x.page c.sqe (16 * (qDw c.sqe 10 % 256 + 1)) c.data).toOption = some (l, k) ∧ ((dsmRanges (qDw c.sqe 10 % 256 + 1)
      (c.data.drop k)).any fun r => decide (nSize (s.nsDesc c.ns) < r.1 + r.2)) = false ∧ bit (qDw c.sqe 11) 2 = 0) ∧
    (∃ (h slot k a : Nat) (c : NvCmd) (x : NvCtrl) (l : List (Nat × Nat)) (r : Nat × Nat) (s : State), ioReady s h 9 slot c ∧ s.nvCtrl
      c.ctrl = some x ∧ (hostSpans x.page c.sqe (16 * (qDw c.sqe 10 % 256 + 1)) c.data).toOption = some (l, k) ∧ dsmRanges (qDw c.sqe 10 %
      256 + 1) (c.data.drop k) = [r] ∧ r.1 + r.2 ≤ nSize (s.nsDesc c.ns) ∧ bit (qDw c.sqe 11) 2 = 1 ∧ (nsPlace s (s.nsDesc c.ns) (r.1 *
      nStep (s.nsDesc c.ns)) (zeroBlocks (s.nsDesc c.ns) r.2).length rightWrite).toOption = some (some a)) ∧
    (∃ (h slot : Nat) (c : NvCmd) (s : State), ioReady s h 0 slot c) ∧
    (∃ (w : Work) (f : Flight) (slot : Nat) (c : NvCmd) (x : NvCtrl) (s : State), takes s w 0xA0 f ∧ s.nvOf f = some (slot, c) ∧ nvsRefusal
      s f c = none ∧ s.nvCtrl c.ctrl = some x ∧ vDir f.entry = 0) ∧
    (∃ (w : Work) (f : Flight) (slot : Nat) (c : NvCmd) (s : State), takes s w 0xA1 f ∧ s.nvOf f = some (slot, c) ∧ c.err = none ∧ c.test =
      false ∧ c.sqid ≠ 0) :=
  ⟨⟨0, 1, 3, nvc, nvq 1, storing 2 nvc [], by decide +kernel⟩,
   ⟨0, 1, 2, { nvc with cqs := [(1, { nvcq with tail := 3 })] }, { nvcq with tail := 3 }, storing 2 { nvc with cqs := [(1, { nvcq with tail := 3 })] } [], by decide +kernel⟩,
   ⟨0, 1, 0, { nvc with cqs := [(1, { nvcq with owed := 2 })] }, { nvcq with owed := 2 }, storing 2 { nvc with cqs := [(1, { nvcq with owed := 2 })] } [], by decide +kernel⟩,
   ⟨0, 1, { nvc with sqs := [(1, { nvq 1 with seen := 3 })] }, { nvq 1 with seen := 3 }, ((storing 2 { nvc with sqs := [(1, { nvq 1 with seen := 3 })] } []).updHif fun u => { u with fns := [(256, { pf0 with fetch := true })] }).updStk fun u => { u with boundary := 5 }, by decide +kernel⟩,
   ⟨0, 1, 1, 0, 2 * 2 ^ 32, { nvc with sqs := [(1, { nvq 1 with entries := [2 * 2 ^ 32] })] }, { nvq 1 with entries := [2 * 2 ^ 32] }, storing 2 { nvc with sqs := [(1, { nvq 1 with entries := [2 * 2 ^ 32] })] } [], by decide +kernel⟩,
   ⟨0, 1, 1, 0, 2 * 2 ^ 32, 0, { nvc with sqs := [(1, { nvq 1 with entries := [2 * 2 ^ 32] })] }, { nvq 1 with entries := [2 * 2 ^ 32] }, ((storing 2 { nvc with sqs := [(1, { nvq 1 with entries := [2 * 2 ^ 32] })] } []).updNvs fun u => { u with nss := [(3, ⟨nsd2, false⟩)] }).setsI 0 [(Reg.TIL_CH_INFO_HW_WRITER, 1), (Reg.TIL_CH_INFO_DEPTH, 4)], by decide +kernel⟩,
   ⟨0, 1, 1, 0, 0x7F, Nv.opcode, { nvc with sqs := [(1, { nvq 1 with entries := [0x7F] })] }, { nvq 1 with entries := [0x7F] }, storing 2 { nvc with sqs := [(1, { nvq 1 with entries := [0x7F] })] } [], by decide +kernel⟩,
   (let ⟨h, slot, a, k, bad, c, x, data, side, l, s, hn, hr⟩ := test_meets_ext_2 (Config.extendedLba 3); ⟨h, slot, a, k, bad, Config.extendedLba 3, c, x, data, side, l, s, by rw [hn], hr⟩),
   (let ⟨h, slot, a, k, c, x, l, blocks, s, hn, hr⟩ := test_meets_ext_3 (Config.extendedLba 3); ⟨h, slot, a, k, Config.extendedLba 3, c, x, l, blocks, s, by rw [hn], hr⟩),
   (let ⟨h, slot, a, k, bad, c, x, data, side, l, s, hn, hr⟩ := test_meets_ext_4 (Config.extendedLba 3); ⟨h, slot, a, k, bad, Config.extendedLba 3, c, x, data, side, l, s, by rw [hn], hr⟩),
   (let ⟨h, slot, a, bad, c, x, data, s, hn, hr⟩ := test_meets_ext_5 (Config.extendedLba 3); ⟨h, slot, a, bad, Config.extendedLba 3, c, x, data, s, by rw [hn], hr⟩),
   ⟨0, 0, 512, nvcmd 1 (8 + 2 * 2 ^ 32 + 2 ^ 320), ready1 1 (8 + 2 * 2 ^ 32 + 2 ^ 320), by decide +kernel⟩,
   ⟨0, 0, 0, nvcmd 1 (9 + 2 * 2 ^ 32), nvc, [(0, 16)], ready1 1 (9 + 2 * 2 ^ 32), by decide +kernel⟩,
   ⟨0, 0, 0, 512, { nvcmd 1 (9 + 2 * 2 ^ 32 + 4 * 2 ^ 352) with data := toBytes 16 (1 * 2 ^ 32 + 1 * 2 ^ 64) }, nvc, [(0, 16)], (1, 1), storing 2 nvc [(0, { nvcmd 1 (9 + 2 * 2 ^ 32 + 4 * 2 ^ 352) with data := toBytes 16 (1 * 2 ^ 32 + 1 * 2 ^ 64) })], by decide +kernel⟩,
   ⟨0, 0, nvcmd 1 (2 * 2 ^ 32), ready1 1 (2 * 2 ^ 32), by decide +kernel⟩,
   ⟨workOf (0xA0 + 1 * 2 ^ 72 + 1 * 2 ^ 224), flightOf (0xA0 + 1 * 2 ^ 72 + 1 * 2 ^ 224), 0, { nvcmd 1 1 with stage := 5 }, nvc, (backed (0xA0 + 1 * 2 ^ 72 + 1 * 2 ^ 224) 1).setI Reg.NCH_STACKED_LEN_MIB 5 1, by decide +kernel⟩,
   ⟨workOf 0xA1, flightOf 0xA1, 0, { nvcmd 1 1 with stage := 5 }, backed 0xA1 1, by decide +kernel⟩⟩

/-- Operands and states that meet the hypotheses of NvmeAdminCommandsComplete, clause by clause. -/
theorem test_meets_NvmeAdminCommandsComplete :
    (∃ (h slot : Nat) (c : NvCmd) (x : NvCtrl) (q : Nat) (s : State), adminReady s h 1 slot c x ∧ qDw c.sqe 10 % 65536 = q ∧ q ≠ 0 ∧ q ≤
      x.maxIo ∧ Map.find? x.sqs q = none ∧ s.quotaLeft x.niche 11 ≠ 0 ∧ 2 ≤ qDw c.sqe 10 / 65536 + 1 ∧ qDw c.sqe 11 / 65536 ≠ 0 ∧ (Map.find?
      x.cqs (qDw c.sqe 11 / 65536)).isSome = true ∧ bit (qDw c.sqe 11) 0 = 1) ∧
    (∃ (h slot : Nat) (c : NvCmd) (x : NvCtrl) (q : Nat) (s : State), adminReady s h 0 slot c x ∧ qDw c.sqe 10 % 65536 = q ∧ q ≠ 0 ∧
      (Map.find? x.sqs q).isSome = true) ∧
    (∃ (h slot : Nat) (c : NvCmd) (x : NvCtrl) (q : Nat) (s : State), adminReady s h 5 slot c x ∧ qDw c.sqe 10 % 65536 = q ∧ q ≠ 0 ∧ q ≤
      x.maxIo ∧ Map.find? x.cqs q = none ∧ 2 ≤ qDw c.sqe 10 / 65536 + 1 ∧ bit (qDw c.sqe 11) 0 = 1 ∧ qDw c.sqe 11 / 65536 < nvVectors s x) ∧
    (∃ (h slot : Nat) (c : NvCmd) (x : NvCtrl) (q : Nat) (s : State), adminReady s h 4 slot c x ∧ qDw c.sqe 10 % 65536 = q ∧ q ≠ 0 ∧
      (Map.find? x.cqs q).isSome = true ∧ (x.sqs.any fun p => p.1 != 0 && p.2.cq == q) = false ∧ (s.nvSq c.ctrl 0).all (fun y => y.cq != q)
      = true) ∧
    (∃ (h slot v k : Nat) (c : NvCmd) (x : NvCtrl) (l : List (Nat × Nat)) (s : State), adminReady s h 6 slot c x ∧ (identifyData s c.ctrl x
      c.sqe).toOption = some v ∧ (hostSpans x.page c.sqe 4096 c.data).toOption = some (l, k)) ∧
    (∃ (h slot v len k : Nat) (c : NvCmd) (x : NvCtrl) (l : List (Nat × Nat)) (s : State), adminReady s h 2 slot c x ∧ logPage s x (qDw
      c.sqe 10 % 256) = some (v, len) ∧ qDw c.sqe 12 + qDw c.sqe 13 * 2 ^ 32 ≤ len ∧ (qDw c.sqe 12 + qDw c.sqe 13 * 2 ^ 32) % 4 = 0 ∧
      (hostSpans x.page c.sqe (adminOut c.sqe) c.data).toOption = some (l, k)) ∧
    (∃ (h slot fid v : Nat) (c : NvCmd) (x : NvCtrl) (s : State), adminReady s h 9 slot c x ∧ setRefusal s x c.sqe = none ∧ qDw c.sqe 10 %
      256 = fid ∧ qDw c.sqe 11 = v) ∧
    (∃ (h slot fid sub : Nat) (c : NvCmd) (x : NvCtrl) (s : State), adminReady s h 0x0A slot c x ∧ qDw c.sqe 10 % 256 = fid ∧ featureKnown
      fid = true ∧ featSub fid (qDw c.sqe 11) = sub ∧ bits (qDw c.sqe 10) 10 8 = 0 ∧ (fid = 4 → sub ≤ 1) ∧ (fid = 9 → sub < nvVectors s x))
      ∧
    (∃ (h slot : Nat) (c : NvCmd) (x : NvCtrl) (s : State), adminReady s h 0x0C slot c x ∧ x.notices = []) ∧
    (∃ (h slot type info lid : Nat) (rest : List (Nat × Nat × Nat)) (c : NvCmd) (x : NvCtrl) (s : State), adminReady s h 0x0C slot c x ∧
      x.aers = [] ∧ x.notices = (type, info, lid) :: rest) ∧
    (∃ (h slot j : Nat) (c d : NvCmd) (x : NvCtrl) (s : State), adminReady s h 8 slot c x ∧ abortTarget s c.ctrl (qDw c.sqe 10 % 65536) (qDw
      c.sqe 10 / 65536) slot = some (j, d) ∧ pastCommit d = false) ∧
    (∃ (h slot : Nat) (c : NvCmd) (x : NvCtrl) (s : State), adminReady s h 8 slot c x ∧ abortTarget s c.ctrl (qDw c.sqe 10 % 65536) (qDw
      c.sqe 10 / 65536) slot = none ∧ (s.nvSq c.ctrl (qDw c.sqe 10 % 65536)).all (fun y => y.entries == []) = true) ∧
    (∃ (h slot k : Nat) (c : NvCmd) (x : NvCtrl) (l : List (Nat × Nat)) (s : State), adminReady s h 0x11 slot c x ∧ qDw c.sqe 11 * 4 +
      fwBytes c.sqe ≤ s.getI Reg.NVS_CTRL_FW_SIZE_MIB c.ctrl * 2 ^ 20 ∧ (hostSpans x.page c.sqe (fwBytes c.sqe) c.data).toOption = some (l,
      k)) ∧
    (∃ (h slot : Nat) (c : NvCmd) (x : NvCtrl) (s : State), adminReady s h 0x10 slot c x ∧ s.getI Reg.NVS_CTRL_FW_SIZE_MIB c.ctrl ≠ 0 ∧ qDw
      c.sqe 10 % 8 ≤ 2 ∧ bits (qDw c.sqe 10) 5 3 ≤ 2 ∧ (bits (qDw c.sqe 10) 5 3 = 2 → qDw c.sqe 10 % 8 ≠ 0) ∧ x.commit = none) ∧
    (∃ (h slot code : Nat) (c : NvCmd) (x : NvCtrl) (s : State), adminReady s h 0x14 slot c x ∧ qDw c.sqe 10 % 16 = code ∧ code ∈ [1, 2] ∧
      x.test = none ∧ qNsid c.sqe = 0xFFFFFFFF) ∧
    (∃ (h slot : Nat) (c : NvCmd) (x : NvCtrl) (y : NvTest) (s : State), adminReady s h 0x14 slot c x ∧ qDw c.sqe 10 % 16 = 0xF ∧ x.test =
      some y) ∧
    (∃ (ctrl : Nat) (bad : Bool) (x : NvCtrl) (y : NvTest) (s : State), s.nvCtrl ctrl = some x ∧ x.test = some y ∧ y.seg = 1 ∧ y.step = 0 ∧
      y.failed = none ∧ y.nss ≠ [] ∧ s.running = true ∧ (if y.stroke = s.stk.boundary then y.ops else 0) < 4 ∧ (x.sqs.any fun p =>
      s.fetchable ctrl p.1) = false ∧ (s.nvs.cmds.any fun p => p.2.ctrl == ctrl && p.2.test) = false) :=
  ⟨⟨0, 0, nvcmd 0 (1 + (2 + 7 * 65536) * 2 ^ 320 + (1 + 65536) * 2 ^ 352), nvc, 2, (ready1 0 (1 + (2 + 7 * 65536) * 2 ^ 320 + (1 + 65536) * 2 ^ 352)).setI Reg.NCH_QUOTA_LIMIT (quotaKey 5 11) 8, by decide +kernel⟩,
   ⟨0, 0, nvcmd 0 (1 * 2 ^ 320), nvc, 1, storing 2 nvc [(0, nvcmd 0 (1 * 2 ^ 320)), (4, nvcmd 1 2)], by decide +kernel⟩,
   ⟨0, 0, nvcmd 0 (5 + (2 + 7 * 65536) * 2 ^ 320 + 3 * 2 ^ 352), nvc, 2, (ready1 0 (5 + (2 + 7 * 65536) * 2 ^ 320 + 3 * 2 ^ 352)).updHif fun u => { u with fns := [(256, { pf0 with vectors := 4 })] }, by decide +kernel⟩,
   ⟨0, 0, nvcmd 0 (4 + 1 * 2 ^ 320), { nvc with sqs := [(0, nvq 0)] }, 1, storing 2 { nvc with sqs := [(0, nvq 0)] } [(0, nvcmd 0 (4 + 1 * 2 ^ 320))], by decide +kernel⟩,
   ⟨0, 0, 2, 0, nvcmd 0 (6 + 8192 * 2 ^ 192 + 2 * 2 ^ 320), nvc, [(8192, 4096)], ready1 0 (6 + 8192 * 2 ^ 192 + 2 * 2 ^ 320), by decide +kernel⟩,
   ⟨0, 0, 1 + 5 * 2 ^ 64, 512, 0, nvcmd 0 (2 + 8192 * 2 ^ 192 + (3 + 15 * 65536) * 2 ^ 320), nvc, [(8192, 64)], ready1 0 (2 + 8192 * 2 ^ 192 + (3 + 15 * 65536) * 2 ^ 320), by decide +kernel⟩,
   ⟨0, 0, 0x0B, 5, nvcmd 0 (9 + 0x0B * 2 ^ 320 + 5 * 2 ^ 352), nvc, ready1 0 (9 + 0x0B * 2 ^ 320 + 5 * 2 ^ 352), by decide +kernel⟩,
   ⟨0, 0, 4, 0, nvcmd 0 (0x0A + 4 * 2 ^ 320), nvc, ready1 0 (0x0A + 4 * 2 ^ 320), by decide +kernel⟩,
   ⟨0, 0, nvcmd 0 0x0C, nvc, ready1 0 0x0C, by decide +kernel⟩,
   ⟨0, 0, 1, 2, 3, [], nvcmd 0 0x0C, { nvc with notices := [(1, 2, 3)] }, storing 2 { nvc with notices := [(1, 2, 3)] } [(0, nvcmd 0 0x0C)], by decide +kernel⟩,
   ⟨0, 0, 4, nvcmd 0 (8 + (1 + 9 * 65536) * 2 ^ 320), nvcmd 1 (2 + 9 * 65536), nvc, storing 2 nvc [(0, nvcmd 0 (8 + (1 + 9 * 65536) * 2 ^ 320)), (4, nvcmd 1 (2 + 9 * 65536))], by decide +kernel⟩,
   ⟨0, 0, nvcmd 0 (8 + (1 + 9 * 65536) * 2 ^ 320), nvc, ready1 0 (8 + (1 + 9 * 65536) * 2 ^ 320), by decide +kernel⟩,
   ⟨0, 0, 0, { nvcmd 0 (0x11 + 8192 * 2 ^ 192) with data := [1, 2, 3, 4] }, nvc, [(8192, 4)], (storing 2 nvc [(0, { nvcmd 0 (0x11 + 8192 * 2 ^ 192) with data := [1, 2, 3, 4] })]).setI Reg.NVS_CTRL_FW_SIZE_MIB 0 1, by decide +kernel⟩,
   ⟨0, 0, nvcmd 0 (0x10 + 9 * 2 ^ 320), nvc, (ready1 0 (0x10 + 9 * 2 ^ 320)).setI Reg.NVS_CTRL_FW_SIZE_MIB 0 1, by decide +kernel⟩,
   ⟨0, 0, 1, nvcmd 0 (0x14 + 0xFFFFFFFF * 2 ^ 32 + 1 * 2 ^ 320), nvc, ready1 0 (0x14 + 0xFFFFFFFF * 2 ^ 32 + 1 * 2 ^ 320), by decide +kernel⟩,
   ⟨0, 0, nvcmd 0 (0x14 + 0xF * 2 ^ 320), { nvc with test := some ⟨1, 2, 1, 0, [3], none, 0, 0⟩ }, ⟨1, 2, 1, 0, [3], none, 0, 0⟩, storing 2 { nvc with test := some ⟨1, 2, 1, 0, [3], none, 0, 0⟩ } [(0, nvcmd 0 (0x14 + 0xF * 2 ^ 320))], by decide +kernel⟩,
   ⟨0, true, { nvc with test := some ⟨1, 2, 1, 0, [3], none, 0, 0⟩ }, ⟨1, 2, 1, 0, [3], none, 0, 0⟩, storing 2 { nvc with test := some ⟨1, 2, 1, 0, [3], none, 0, 0⟩ } [], by decide +kernel⟩⟩

/-- Operands and states that meet the hypotheses of StorageControllerCommandsComplete, clause by clause. -/
theorem test_meets_StorageControllerCommandsComplete :
    (∃ (ctrl cc aqa asq acq : Nat) (x : NvCtrl) (s : State), s.nvCtrl ctrl = some x ∧ s.getI Reg.NVS_CTRL_INFO_STATE ctrl = 1 ∧ bits cc 19
      16 = 6 ∧ bits cc 23 20 = 4 ∧ bits cc 10 7 ≤ 4 ∧ bits cc 6 4 = 0 ∧ bits cc 13 11 ≤ 1 ∧ 1 ≤ bits aqa 11 0 ∧ 1 ≤ bits aqa 27 16) ∧
    (∃ (ctrl cc aqa asq acq : Nat) (x : NvCtrl) (s : State), s.nvCtrl ctrl = some x ∧ s.getI Reg.NVS_CTRL_INFO_STATE ctrl = 1 ∧ (bits cc 19
      16 ≠ 6 ∨ bits cc 23 20 ≠ 4)) ∧
    (∃ (ctrl : Nat) (x : NvCtrl) (s : State), s.nvCtrl ctrl = some x ∧ s.getI Reg.NVS_CTRL_INFO_STATE ctrl ∈ [2, 4, 5]) ∧
    (∃ (ctrl shn : Nat) (x : NvCtrl) (s : State), s.nvCtrl ctrl = some x ∧ s.getI Reg.NVS_CTRL_INFO_STATE ctrl = 2 ∧ shn ≠ 0) ∧
    (∃ (ctrl : Nat) (x : NvCtrl) (s : State), s.nvCtrl ctrl = some x ∧ s.getI Reg.NVS_CTRL_INFO_STATE ctrl = 4 ∧ bits x.csts 3 2 = 1 ∧
      (s.nvs.cmds.all fun p => p.2.ctrl != ctrl || x.aers.contains p.1) = true ∧ (x.sqs.all fun p => p.2.reading == 0 && p.2.entries == [])
      = true) ∧
    (∃ (who : Issuer) (desc n c : Nat) (s : State), managerCmd s Blk.nvs 0xE00000 who ∧ byteField desc 0 1 % 4096 = n ∧ 1 ≤ byteField desc 2
      3 ∧ byteField desc 2 3 ≤ 1024 ∧ byteField desc 4 7 = 0 ∧ byteField desc 36 63 = 0 ∧ s.nicheRefusal n = none ∧ s.flagI
      Reg.NCH_INFO_BOUND n = true ∧ (Map.find? s.hif.fns (s.nicheFn n)).map (·.kind) = some 2 ∧ (s.nvs.ctrls.any fun p => p.2.fn ==
      s.nicheFn n) = false ∧ s.quotaLeft n 10 ≠ 0 ∧ lowestFree 512 0 (s.nvs.ctrls.map (·.1)) = some c) ∧
    (∃ (who : Issuer) (c : Nat) (x : NvCtrl) (s : State), managerCmd s Blk.nvs 0xE00000 who ∧ s.get Reg.NVS_CMD_ARG_CTRL = c ∧ s.nvCtrl c =
      some x ∧ s.getI Reg.NVS_CTRL_INFO_STATE c = 1) ∧
    (∃ (who : Issuer) (desc n ns : Nat) (s : State), managerCmd s Blk.nvs 0xE00000 who ∧ nNiche desc = n ∧ nsValid desc = true ∧
      s.nicheRefusal n = none ∧ (if byteField desc 0 1 = 0xFFFF then lowestFree 16384 0 (s.nvs.nss.map (·.1)) else some (byteField desc 0
      1)) = some ns ∧ Map.find? s.nvs.nss ns = none ∧ (nBackend desc = 0 → nBase desc + nSize desc * nStep desc ≤ (s.stackedQuota n).2) ∧ (2
      ≤ nBackend desc → ((List.range (nTargets desc)).all fun k => targetOk s (nTarget desc k)) = true)) ∧
    (∃ (who : Issuer) (ns : Nat) (x : NvNs) (s : State), managerCmd s Blk.nvs 0xE00000 who ∧ s.get Reg.NVS_CMD_ARG_NS = ns ∧ Map.find?
      s.nvs.nss ns = some x ∧ s.flagI Reg.NVS_NS_INFO_ATTACHED ns = false) ∧
    (∃ (who : Issuer) (ns c nsid : Nat) (x : NvNs) (y : NvCtrl) (s : State), managerCmd s Blk.nvs 0xE00000 who ∧ s.get Reg.NVS_CMD_ARG_NS =
      ns ∧ s.get Reg.NVS_CMD_ARG_CTRL = c ∧ s.get Reg.NVS_CMD_ARG_NSID = nsid ∧ Map.find? s.nvs.nss ns = some x ∧ s.nvCtrl c = some y ∧ 1 ≤
      nsid ∧ nsid ≤ 64 ∧ nNiche (s.nsDesc ns) = s.nvNiche c ∧ s.flagI Reg.NVS_NS_INFO_ATTACHED ns = false ∧ s.nsOf c nsid = none) ∧
    (∃ (who : Issuer) (ns : Nat) (x : NvNs) (s : State), managerCmd s Blk.nvs 0xE00000 who ∧ s.get Reg.NVS_CMD_ARG_NS = ns ∧ Map.find?
      s.nvs.nss ns = some x ∧ s.flagI Reg.NVS_NS_INFO_ATTACHED ns = true) ∧
    (∃ (who : Issuer) (block c slot : Nat) (x : NvCtrl) (d : NvCmd) (s : State), managerCmd s Blk.nvs 0xE00000 who ∧ s.get
      Reg.NVS_CMD_ARG_CTRL = c ∧ s.nvCtrl c = some x ∧ x.commit = some slot ∧ Map.find? s.nvs.cmds slot = some d) :=
  ⟨⟨0, 0x460001, 0x00070007, 4096, 8192, nvc, storing 1 nvc [], by decide +kernel⟩,
   ⟨0, 1, 0x00070007, 4096, 8192, nvc, storing 1 nvc [], by decide +kernel⟩,
   ⟨0, nvc, storing 2 nvc [], by decide +kernel⟩,
   ⟨0, 1, nvc, storing 2 nvc [], by decide +kernel⟩,
   ⟨0, { nvc with csts := 5 }, storing 4 { nvc with csts := 5 } [], by decide +kernel⟩,
   ⟨mgr, 5 + 4 * 2 ^ 16, 5, 0, ((withNiche 1).updHif fun u => { u with fns := [(256, { pf0 with kind := 2 })] }).setI Reg.NCH_QUOTA_LIMIT (quotaKey 5 10) 8, by decide +kernel⟩,
   ⟨mgr, 0, nvc, storing 1 nvc [], by decide +kernel⟩,
   ⟨mgr, nsd, 5, 3, (withNiche 1).setI Reg.NCH_STACKED_LEN_MIB 5 1, by decide +kernel⟩,
   ⟨mgr, 3, ⟨nsd, false⟩, ((storing 1 nvc []).setI Reg.NVS_NS_INFO_ATTACHED 3 0).set Reg.NVS_CMD_ARG_NS 3, by decide +kernel⟩,
   ⟨mgr, 3, 0, 2, ⟨nsd, false⟩, nvc, (((storing 1 nvc []).setI Reg.NVS_NS_INFO_ATTACHED 3 0).set Reg.NVS_CMD_ARG_NS 3).set Reg.NVS_CMD_ARG_NSID 2, by decide +kernel⟩,
   ⟨mgr, 3, ⟨nsd, false⟩, (storing 1 nvc []).set Reg.NVS_CMD_ARG_NS 3, by decide +kernel⟩,
   ⟨mgr, 77 * 2 ^ 64, 0, 0, { nvc with commit := some 0 }, { nvcmd 0 (0x10 + 9 * 2 ^ 320) with stage := 6 }, storing 2 { nvc with commit := some 0 } [(0, { nvcmd 0 (0x10 + 9 * 2 ^ 320) with stage := 6 })], by decide +kernel⟩⟩

/-- Operands and states that meet the hypotheses of AcceleratorCommandsComplete, clause by clause. -/
theorem test_meets_AcceleratorCommandsComplete :
    (∃ (w : Work) (f : Flight) (s : State), takes s w 0x60 f ∧ accRefusal s f = none) ∧
    (∃ (w : Work) (f : Flight) (s : State), takes s w 0x61 f ∧ accRefusal s f = none) ∧
    (∃ (w : Work) (f : Flight) (s : State), takes s w 0x62 f ∧ accRefusal s f = none) ∧
    (∃ (w : Work) (f : Flight) (s : State), takes s w 0x63 f ∧ accRefusal s f = none) ∧
    (∃ (w : Work) (f : Flight) (s : State), takes s w 0x64 f ∧ accRefusal s f = none) ∧
    (∃ (w : Work) (f : Flight) (s : State), takes s w 0x65 f ∧ accRefusal s f = none) ∧
    (∃ (w : Work) (f : Flight) (s : State), takes s w 0x66 f ∧ accRefusal s f = none) ∧
    (∃ (w : Work) (f : Flight) (s : State), takes s w 0x67 f ∧ accRefusal s f = none) ∧
    (∃ (w : Work) (f : Flight) (s : State), takes s w 0x68 f ∧ accRefusal s f = none) ∧
    (∃ (w : Work) (slice load q k since : Nat) (bad : List Nat) (f : Flight) (s : State), accHit w s = some ((q, k, since), f) ∧ sliceMay s
      slice k since f.entry ∧ f.done = none) ∧
    (∃ (w : Work) (slice load q k since : Nat) (bad : List Nat) (f : Flight) (s : State), accHit w s = some ((q, k, since), f) ∧ sliceMay s
      slice k since f.entry ∧ wOpcode f.entry = 0x65 ∧ f.done = none ∧ bad = []) :=
  ⟨⟨workOf (accEntry 0x60 1 0 64), flightOf (accEntry 0x60 1 0 64), keyed (accEntry 0x60 1 0 64) 1, by decide +kernel⟩,
   ⟨workOf (accEntry 0x61 0x10 0 64), flightOf (accEntry 0x61 0x10 0 64), keyed (accEntry 0x61 0x10 0 64) 1, by decide +kernel⟩,
   ⟨workOf (accEntry 0x62 0x20 0 64), flightOf (accEntry 0x62 0x20 0 64), keyed (accEntry 0x62 0x20 0 64) 2, by decide +kernel⟩,
   ⟨workOf (accEntry 0x63 0x34 0 64), flightOf (accEntry 0x63 0x34 0 64), keyed (accEntry 0x63 0x34 0 64) 1, by decide +kernel⟩,
   ⟨workOf (accEntry 0x64 0x34 0 64), flightOf (accEntry 0x64 0x34 0 64), keyed (accEntry 0x64 0x34 0 64) 1, by decide +kernel⟩,
   ⟨workOf (accEntry 0x65 0x40 0 64), flightOf (accEntry 0x65 0x40 0 64), keyed (accEntry 0x65 0x40 0 64) 1, by decide +kernel⟩,
   ⟨workOf (accEntry 0x66 0x44 0 64 + 4 * 2 ^ 384 + 2 * 2 ^ 392), flightOf (accEntry 0x66 0x44 0 64 + 4 * 2 ^ 384 + 2 * 2 ^ 392), keyed (accEntry 0x66 0x44 0 64 + 4 * 2 ^ 384 + 2 * 2 ^ 392) 1, by decide +kernel⟩,
   ⟨workOf (accEntry 0x67 0x44 0 64 + 4 * 2 ^ 384 + 2 * 2 ^ 392 + 1 * 2 ^ 416), flightOf (accEntry 0x67 0x44 0 64 + 4 * 2 ^ 384 + 2 * 2 ^ 392 + 1 * 2 ^ 416), keyed (accEntry 0x67 0x44 0 64 + 4 * 2 ^ 384 + 2 * 2 ^ 392 + 1 * 2 ^ 416) 1, by decide +kernel⟩,
   ⟨workOf (accEntry 0x68 0x43 0 528 + 512 * 2 ^ 416), flightOf (accEntry 0x68 0x43 0 528 + 512 * 2 ^ 416), keyed (accEntry 0x68 0x43 0 528 + 512 * 2 ^ 416) 1, by decide +kernel⟩,
   ⟨workOf (accEntry 0x61 0x10 0 64), 0, 50, 1, 0, 0, [], { flightOf (accEntry 0x61 0x10 0 64) with started := true }, (keyed 0 1).updAcc (fun u => { u with work := [(1, 0, 0)] }) |> (fun s => s.updRng fun u => { u with flights := [{ flightOf (accEntry 0x61 0x10 0 64) with started := true }] }), by decide +kernel⟩,
   ⟨workOf (accEntry 0x65 0x40 0 64), 14, 50, 1, 14, 0, [], { flightOf (accEntry 0x65 0x40 0 64) with started := true }, (keyed 0 1).updAcc (fun u => { u with work := [(1, 14, 0)] }) |> (fun s => s.updRng fun u => { u with flights := [{ flightOf (accEntry 0x65 0x40 0 64) with started := true }] }), by decide +kernel⟩⟩

/-- Operands and states that meet the hypotheses of KeyCommandsComplete, clause by clause. -/
theorem test_meets_KeyCommandsComplete :
    (∃ (w : Work) (host : List Byte) (f : Flight) (s : State), takes s w 0x69 f ∧ s.flag Reg.JNL_STATUS_REGION_READY = true ∧ keyRefusal s f
      true = none ∧ byteField f.entry 4 7 = 0) ∧
    (∃ (w : Work) (f : Flight) (s : State), takes s w 0x6A f ∧ s.flag Reg.JNL_STATUS_REGION_READY = true ∧ keyRefusal s f (byteField f.entry
      9 9 == 2) = none) ∧
    (∃ (w : Work) (f : Flight) (i : Nat) (k : KeyEnt) (s : State), takes s w 0x6B f ∧ s.flag Reg.JNL_STATUS_REGION_READY = true ∧ s.keyOf
      f.niche (byteField f.entry 4 7) = some (i, k) ∧ (s.acc.dying.any fun d => d.1 == i) = false) ∧
    (∃ (index q : Nat) (k : KeyEnt) (s : State), (s.acc.dying.find? fun d => d.1 == index) = some (index, q) ∧ Map.find? s.acc.keys index =
      some k ∧ k.dead = true ∧ s.keyInUse index = false ∧ waits s q) :=
  ⟨⟨workOf (keyEntry 0x69 1 1 16), [], flightOf (keyEntry 0x69 1 1 16), keyed (keyEntry 0x69 1 1 16) 1, by decide +kernel⟩,
   ⟨workOf (keyEntry 0x6A 1 1 16), flightOf (keyEntry 0x6A 1 1 16), keyed (keyEntry 0x6A 1 1 16) 1, by decide +kernel⟩,
   ⟨workOf (accEntry 0x6B 0 0 0), flightOf (accEntry 0x6B 0 0 0), 3, key5 1 16, keyed (accEntry 0x6B 0 0 0) 1, by decide +kernel⟩,
   ⟨3, 1, { key5 1 16 with dead := true }, (keyed 0 1).updAcc (fun u => { u with keys := [(3, { key5 1 16 with dead := true })], dying := [(3, 1)] }), by decide +kernel⟩⟩

/-- Operands and states that meet the hypotheses of FabricCommandsComplete, clause by clause. -/
theorem test_meets_FabricCommandsComplete :
    (∃ (who : Issuer) (desc n off : Nat) (s : State), managerCmd s Blk.fab 0x1000000 who ∧ byteField desc 0 1 % 4096 = n ∧ segValid desc =
      true ∧ fabNiche s n = none ∧ segPlace s desc = some off ∧ s.fab.segs.length < 4096 ∧ s.winsTaken.length < 65536) ∧
    (∃ (who : Issuer) (g : Nat) (x : Seg) (s : State), managerCmd s Blk.fab 0x1000000 who ∧ s.get Reg.FAB_CMD_ARG_SEG = g ∧ Map.find?
      s.fab.segs g = some x ∧ s.tdiLocked x.niche = false ∧ s.getI Reg.FAB_SEG_INFO_STATE g = 2) ∧
    (∃ (who : Issuer) (entry g : Nat) (x : Seg) (s : State), managerCmd s Blk.fab 0x1000000 who ∧ s.get Reg.FAB_CMD_ARG_SEG = g ∧ Map.find?
      s.fab.segs g = some x ∧ s.tdiLocked x.niche = false ∧ byteField entry 4 4 < 8 ∧ byteField entry 5 15 = 0) ∧
    (∃ (who : Issuer) (g : Nat) (x : Seg) (s : State), managerCmd s Blk.fab 0x1000000 who ∧ s.get Reg.FAB_CMD_ARG_SEG = g ∧ Map.find?
      s.fab.segs g = some x ∧ s.tdiLocked x.niche = false ∧ s.getI Reg.FAB_SEG_INFO_STATE g = 1) ∧
    (∃ (who : Issuer) (entry n : Nat) (s : State), managerCmd s Blk.fab 0x1000000 who ∧ byteField entry 0 1 = n ∧ n < 4096 ∧ byteField entry
      2 2 < 8 ∧ byteField entry 3 3 = 0 ∧ byteField entry 16 23 ≠ 0 ∧ byteField entry 24 31 = 0 ∧ fabSpace (byteField entry 8 15) = 0 ∧
      fabNiche s n = none ∧ s.fab.imports.length < 16384) ∧
    (∃ (who : Issuer) (i : Nat) (x : Import) (s : State), managerCmd s Blk.fab 0x1000000 who ∧ s.get Reg.FAB_CMD_ARG_INDEX = i ∧ Map.find?
      s.fab.imports i = some x ∧ s.tdiLocked x.niche = false) ∧
    (∃ (who : Issuer) (fn : Nat) (f : Fn) (s : State), managerCmd s Blk.fab 0x1000000 who ∧ fnKey (s.get Reg.FAB_CMD_ARG_AP) (s.get
      Reg.FAB_CMD_ARG_RID) = fn ∧ Map.find? s.hif.fns fn = some f ∧ f.kind = 3 ∧ f.vf = 0 ∧ s.get Reg.FAB_CMD_ARG_INDEX = 0x3FFFF) ∧
    (∃ (who : Issuer) (fn : Nat) (f : Fn) (x : Import) (s : State), managerCmd s Blk.fab 0x1000000 who ∧ fnKey (s.get Reg.FAB_CMD_ARG_AP)
      (s.get Reg.FAB_CMD_ARG_RID) = fn ∧ Map.find? s.hif.fns fn = some f ∧ f.kind = 3 ∧ f.vf = 0 ∧ s.get Reg.FAB_CMD_ARG_INDEX ≠ 0x3FFFF ∧
      Map.find? s.fab.imports (s.get Reg.FAB_CMD_ARG_INDEX) = some x ∧ s.flagI Reg.NCH_INFO_BOUND x.niche = true ∧ s.nicheFn x.niche = fn ∧
      s.tdiLocked x.niche = false) ∧
    (∃ (who : Issuer) (template i : Nat) (s : State), managerCmd s Blk.fab 0x1000000 who ∧ s.get Reg.FAB_CMD_ARG_INDEX = i ∧ i < 4096 ∧
      byteField template 0 0 < 16 ∧ byteField template 1 1 < 4 ∧ byteField template 5 7 = 0 ∧ byteField template 14 15 = 0 ∧ byteField
      template 32 63 = 0) ∧
    (∃ (who : Issuer) (addr i : Nat) (s : State), managerCmd s Blk.fab 0x1000000 who ∧ s.get Reg.FAB_CMD_ARG_SLOT = i ∧ i < 16) ∧
    (∃ (who : Issuer) (a : Nat) (s : State), managerCmd s Blk.fab 0x1000000 who ∧ s.get Reg.FAB_RMT_ADDR_ADDR = a ∧ fabSpace a = 2 ∧ fabOff
      a % 8 = 0 ∧ peerStatus s (fabDev a) = St.ok ∧ s.sendRoom (fabDev a) = true) ∧
    (∃ (who : Issuer) (a : Nat) (s : State), managerCmd s Blk.fab 0x1000000 who ∧ s.get Reg.FAB_RMT_ADDR_ADDR = a ∧ fabSpace a = 2 ∧ fabOff
      a % 8 = 0 ∧ peerStatus s (fabDev a) = St.ok ∧ s.sendRoom (fabDev a) = true) :=
  ⟨⟨mgr, 5 + 7 * 2 ^ 16 + 1 * 2 ^ 32 + (2 ^ 64 - 1) * 2 ^ 64, 5, 2 ^ 21, (pooled 0).set Reg.JNL_STATUS_REGION_READY 1, by decide +kernel⟩,
   ⟨mgr, 4, seg4, ((pooled 0).set Reg.FAB_CMD_ARG_SEG 4).setI Reg.FAB_SEG_INFO_STATE 4 2, by decide +kernel⟩,
   ⟨mgr, 9 * 2 ^ 16 + 7 * 2 ^ 32, 4, seg4, (pooled 0).set Reg.FAB_CMD_ARG_SEG 4, by decide +kernel⟩,
   ⟨mgr, 4, seg4, (pooled 0).set Reg.FAB_CMD_ARG_SEG 4, by decide +kernel⟩,
   ⟨mgr, 5 + 7 * 2 ^ 16 + 513 * 2 ^ 32 + 9 * 2 ^ 50 * 2 ^ 64 + 4096 * 2 ^ 128, 5, pooled 0, by decide +kernel⟩,
   ⟨mgr, 6, imp6, (pooled 0).set Reg.FAB_CMD_ARG_INDEX 6, by decide +kernel⟩,
   ⟨mgr, 256, { pf0 with kind := 3, bar4 := 2 ^ 20 }, ((pooled 0).set Reg.FAB_CMD_ARG_INDEX 0x3FFFF).set Reg.FAB_CMD_ARG_RID 256, by decide +kernel⟩,
   ⟨mgr, 256, { pf0 with kind := 3, bar4 := 2 ^ 20 }, imp6, ((pooled 0).set Reg.FAB_CMD_ARG_INDEX 6).set Reg.FAB_CMD_ARG_RID 256, by decide +kernel⟩,
   ⟨mgr, 2 + 7 * 2 ^ 64, 0, pooled 0, by decide +kernel⟩,
   ⟨mgr, 7, 0, pooled 0, by decide +kernel⟩,
   ⟨mgr, 9 * 2 ^ 50 + 2 * 2 ^ 48, (pooled 0).set Reg.FAB_RMT_ADDR_ADDR (9 * 2 ^ 50 + 2 * 2 ^ 48), by decide +kernel⟩,
   ⟨mgr, 9 * 2 ^ 50 + 2 * 2 ^ 48, (pooled 0).set Reg.FAB_RMT_ADDR_ADDR (9 * 2 ^ 50 + 2 * 2 ^ 48), by decide +kernel⟩⟩

/-- Operands and states that meet the hypotheses of PoolAccessCommandsComplete, clause by clause. -/
theorem test_meets_PoolAccessCommandsComplete :
    (∃ (w : Work) (f : Flight) (x : Window) (key a atop : Nat) (s : State), takes s w 0xC0 f ∧ byteField f.entry 4 7 = key ∧ byteField
      f.entry 8 15 = a ∧ byteField f.entry 16 16 = atop ∧ atop ≤ 2 ∧ a % 8 = 0 ∧ poolStatus s f.niche key a 8 rightAtomic St.fabImport =
      St.ok ∧ s.poolHere 3 a = true ∧ (localPool s key (fabOff a) 8 rightAtomic).toOption = some x) ∧
    (∃ (w : Work) (f : Flight) (i : Import) (key a atop : Nat) (s : State), takes s w 0xC0 f ∧ byteField f.entry 4 7 = key ∧ byteField
      f.entry 8 15 = a ∧ byteField f.entry 16 16 = atop ∧ atop ≤ 2 ∧ a % 8 = 0 ∧ poolStatus s f.niche key a 8 rightAtomic St.fabImport =
      St.ok ∧ s.poolHere 3 a = false ∧ s.sendRoom (fabDev a) = true ∧ s.importFor f.niche key a 8 rightAtomic = some i) ∧
    (∃ (who : Issuer) (off len size : Nat) (data : Option (List Byte)) (i : Import) (x : Window) (s : State), who.ap < 4 ∧ who.id < 65536 ∧
      data = none ∧ s.fab.apt = [] ∧ aptSlotSize s (fnKey who.ap who.id) = size ∧ size ≠ 0 ∧ off / size < 64 ∧ (Map.find? s.fab.apertures
      (aptKey (fnKey who.ap who.id) (off / size))).bind (fun k => Map.find? s.fab.imports k) = some i ∧ off % size + len ≤ i.len ∧
      poolStatus s i.niche i.key (i.base + off % size) len rightRead St.fabImport = St.ok ∧ s.poolHere 3 (i.base + off % size) = true ∧
      (localPool s i.key (fabOff (i.base + off % size)) len rightRead).toOption = some x) ∧
    (∃ (who : Issuer) (off len size : Nat) (data : Option (List Byte)) (d : List Byte) (i : Import) (x : Window) (s : State), who.ap < 4 ∧
      who.id < 65536 ∧ data = some d ∧ s.fab.apt = [] ∧ aptSlotSize s (fnKey who.ap who.id) = size ∧ size ≠ 0 ∧ off / size < 64 ∧ (Map.find?
      s.fab.apertures (aptKey (fnKey who.ap who.id) (off / size))).bind (fun k => Map.find? s.fab.imports k) = some i ∧ off % size +
      d.length ≤ i.len ∧ poolStatus s i.niche i.key (i.base + off % size) d.length rightWrite St.fabImport = St.ok ∧ s.poolHere 3 (i.base +
      off % size) = true ∧ (localPool s i.key (fabOff (i.base + off % size)) d.length rightWrite).toOption = some x) ∧
    (∃ (who : Issuer) (off len size : Nat) (data : Option (List Byte)) (d : List Byte) (i : Import) (s : State), who.ap < 4 ∧ who.id < 65536
      ∧ data = some d ∧ s.fab.apt = [] ∧ aptSlotSize s (fnKey who.ap who.id) = size ∧ size ≠ 0 ∧ off / size < 64 ∧ (Map.find?
      s.fab.apertures (aptKey (fnKey who.ap who.id) (off / size))).bind (fun k => Map.find? s.fab.imports k) = some i ∧ off % size +
      d.length ≤ i.len ∧ poolStatus s i.niche i.key (i.base + off % size) d.length rightWrite St.fabImport = St.ok ∧ s.poolHere 3 (i.base +
      off % size) = false ∧ s.sendRoom (fabDev (i.base + off % size)) = true) ∧
    (∃ (id : Nat) (o : AptOp) (s : State), (s.fab.apt.find? fun o => o.id == id && o.data.isNone) = some o ∧ o.since + s.eff
      Reg.FAB_PATHCFG_APT_TIMEOUT_US * 1000 ≤ s.stk.phcNs) ∧
    (∃ (p : TlPkt) (x : Send) (c : CmdPend) (s : State), arrives s p ∧ s.send p.src p.msg = some x ∧ x.op = 0x49 ∧ x.owner = .reg ∧
      byteField p.ext 0 0 = St.ok ∧ Map.find? s.cmds 14 = some c) :=
  ⟨⟨workOf (atomEntry (2 ^ 50 + 64)), flightOf (atomEntry (2 ^ 50 + 64)), ⟨0, 2, 0, 2 ^ 21, 7, 5, 1⟩, 513, 2 ^ 50 + 64, 0, (pooled (atomEntry (2 ^ 50 + 64))).updFab fun u => { u with segs := [(4, { seg4 with grants := [(0, 9 * 2 ^ 16 + 7 * 2 ^ 32)] })] }, by decide +kernel⟩,
   ⟨workOf (atomEntry (9 * 2 ^ 50 + 64)), flightOf (atomEntry (9 * 2 ^ 50 + 64)), imp9, 513, 9 * 2 ^ 50 + 64, 0, pooled (atomEntry (9 * 2 ^ 50 + 64)), by decide +kernel⟩,
   ⟨mgrHost, 2 ^ 14 + 64, 8, 2 ^ 14, none, imp6, ⟨0, 2, 0, 2 ^ 21, 7, 5, 1⟩, pooled 0, by decide +kernel⟩,
   ⟨mgrHost, 2 ^ 14 + 64, 8, 2 ^ 14, some [1, 2], [1, 2], imp6, ⟨0, 2, 0, 2 ^ 21, 7, 5, 1⟩, pooled 0, by decide +kernel⟩,
   ⟨mgrHost, 2 * 2 ^ 14 + 64, 8, 2 ^ 14, some [1, 2], [1, 2], imp9, pooled 0, by decide +kernel⟩,
   ⟨3, ⟨3, 0, 256, 2, 64, 8, none, true, 0⟩, ((pooled 0).updFab fun u => { u with apt := [⟨3, 0, 256, 2, 64, 8, none, true, 0⟩] }).updStk fun u => { u with phcNs := 10 ^ 12 }, by decide +kernel⟩,
   ⟨{ pkt9 0x4A 6 with ext := 77 * 2 ^ 64 }, { send5 0x49 with owner := .reg }, cmdOf 10 mgr 0 0 0, ((pooled 0).updTlt fun u => { u with sends := [{ send5 0x49 with owner := .reg }] }).updCmds fun _ => [(14, cmdOf 10 mgr 0 0 0)], by decide +kernel⟩⟩

/-- Operands and states that meet the hypotheses of DiscoveryCommandsComplete, clause by clause. -/
theorem test_meets_DiscoveryCommandsComplete :
    (∃ (who : Issuer) (value : Nat) (s : State), writeOpen s who 0x1000020 ∧ s.flag Reg.FAB_CFG_ENABLE = false) ∧
    (∃ (who : Issuer) (value : Nat) (s : State), writeOpen s who 0x1000020 ∧ s.flag Reg.FAB_CFG_ENABLE = true ∧ bits value 63 32 = s.get
      Reg.FAB_CFG_FABRIC_ID ∧ bit value 23 = s.get Reg.FAB_CFG_MODE) ∧
    (∃ (ok : Bool) (s : State), s.flag Reg.FAB_CFG_ENABLE = true ∧ s.flag Reg.FAB_CFG_MODE = false ∧ s.fab.helloAt ≤ s.stk.boundary ∧
      (s.flag Reg.FAB_ID_COORD_KNOWN && !s.fab.asking) = ok) ∧
    (∃ (ok : Bool) (s : State), s.flag Reg.FAB_CFG_ENABLE = true ∧ s.flag Reg.FAB_CFG_MODE = true ∧ s.fab.helloAt ≤ s.stk.boundary ∧ (s.flag
      Reg.FAB_ID_COORD_KNOWN && !s.fab.asking) = ok) ∧
    (∃ (role : Nat) (s : State), s.get Reg.FAB_ID_ROLE = role ∧ role ∈ [1, 2, 3] ∧ s.flag Reg.FAB_ID_COORD_KNOWN = false ∧ s.fab.settleAt ≤
      s.stk.boundary ∧ s.bestCandidate.isSome = true ∧ s.selfBest = false) ∧
    (∃ (role : Nat) (s : State), s.get Reg.FAB_ID_ROLE = role ∧ role ≠ 0 ∧ s.flag Reg.FAB_ID_COORD_KNOWN = false ∧ s.fab.settleAt ≤
      s.stk.boundary ∧ s.bestCandidate.isSome = true ∧ s.selfBest = true) ∧
    (∃ (c : Nat) (s : State), s.get Reg.FAB_ID_ROLE = 3 ∧ s.get Reg.FAB_ID_COORD_ID = c ∧ (s.fab.heard.any fun h => (h.id == some c ||
      h.names == some c) && decide (s.stk.boundary < h.deadAt s)) = false) ∧
    (∃ (mac : Nat) (h : Heard) (s : State), (s.fab.heard.find? fun h => h.mac == mac && decide (h.deadAt s ≤ s.stk.boundary)) = some h) ∧
    (∃ (mac : Nat) (p : TlPkt) (s : State), ctlArrives s p ∧ byteField p.ext 8 11 = s.get Reg.FAB_CFG_FABRIC_ID) :=
  ⟨⟨mgr, 3 * 2 ^ 32 + 7 * 2 ^ 24, onFabric ringed, by decide +kernel⟩,
   ⟨mgr, 3 * 2 ^ 32, discovering 3, by decide +kernel⟩,
   ⟨false, discovering 2, by decide +kernel⟩,
   ⟨false, ((discovering 2).set Reg.FAB_CFG_MODE 1).updFab fun u => { u with seeds := [(0, 7)] }, by decide +kernel⟩,
   ⟨1, ((discovering 1).set Reg.FAB_CFG_PRIORITY 0).updFab fun u => { u with heard := [heard9] }, by decide +kernel⟩,
   ⟨1, (discovering 1).set Reg.FAB_CFG_PRIORITY 7, by decide +kernel⟩,
   ⟨9, late (((discovering 3).set Reg.FAB_ID_COORD_ID 9).updFab fun u => { u with heard := [heard9] }), by decide +kernel⟩,
   ⟨2, heard9, late ((discovering 3).updFab fun u => { u with heard := [heard9] }), by decide +kernel⟩,
   ⟨2, ctl9 0x40 (99 + 3 * 2 ^ 64 + 4 * 2 ^ 96), discovering 3, by decide +kernel⟩⟩

/-- Operands and states that meet the hypotheses of MembershipAndPathCommandsComplete, clause by clause. -/
theorem test_meets_MembershipAndPathCommandsComplete :
    (∃ (p : TlPkt) (uid d : Nat) (s : State), ctlArrives s p ∧ s.get Reg.FAB_ID_ROLE = 4 ∧ byteField p.ext 0 7 = uid ∧ decideId s uid (if
      bit (byteField p.ext 8 9) 15 = 1 then some (bit (byteField p.ext 8 9) 14 == 1, byteField p.ext 8 9 % 2 ^ 14) else none) = (0, d)) ∧
    (∃ (p : TlPkt) (s : State), ctlArrives s p ∧ s.get Reg.FAB_ID_ROLE = 2 ∧ byteField p.ext 0 7 = s.uid ∧ byteField p.ext 10 10 = 0) ∧
    (∃ (p : TlPkt) (s : State), ctlArrives s p ∧ s.get Reg.FAB_ID_ROLE ∈ [3, 4] ∧ byteField p.ext 0 7 = s.uid ∧ s.fabId = some (byteField
      p.ext 8 9 % 2 ^ 14)) ∧
    (∃ (p : TlPkt) (v : Nat) (s : State), ctlArrives s p ∧ s.get Reg.FAB_ID_ROLE ≠ 4 ∧ byteField p.ext 0 3 = v ∧ (ahead 32 v s.fab.version =
      1 ∨ s.fab.version = 0 ∨ s.fab.asking = true)) ∧
    (∃ (p : TlPkt) (s : State), ctlArrives s p) ∧
    (∃ (mac seq : Nat) (p : TlPkt) (s : State), ctlArrives s p ∧ s.flag Reg.FAB_CFG_MODE = false ∧ s.fabId ≠ some p.src ∧ byteField p.ext 0
      3 = seq ∧ ((Map.find? s.fab.linkStates p.src).all fun o => decide (0 < ahead 32 seq o.1)) = true) ∧
    (∃ (d : Nat) (s : State), s.flag Reg.FAB_CFG_ENABLE = true ∧ s.fab.linkAt ≤ s.stk.boundary ∧ s.flag Reg.FAB_CFG_MODE = false ∧ s.fabId =
      some d) ∧
    (∃ (b : Nat) (s : State), s.fab.routeDue = some b) ∧
    (∃ (p : TlPkt) (s : State), ctlArrives s p) ∧
    (∃ (p : TlPkt) (k : Nat) (x : PathX) (s : State), ctlArrives s p ∧ pathKey p.src (byteField p.ext 8 8 % 64) = k ∧ Map.find? s.fab.paths
      k = some x) ∧
    (∃ (peer path b : Nat) (x : PathX) (s : State), Map.find? s.fab.paths (pathKey peer path) = some x ∧ x.oldest = some b ∧ s.getI
      Reg.FAB_PATH_INFO_STATE (pathKey peer path) = 0 ∧ b + s.eff Reg.FAB_TIMING_SILENT ≤ s.stk.boundary) ∧
    (∃ (peer path : Nat) (x : PathX) (s : State), Map.find? s.fab.paths (pathKey peer path) = some x ∧ s.getI Reg.FAB_PATH_INFO_STATE
      (pathKey peer path) = 0 ∧ x.last + s.eff Reg.FAB_TIMING_PROBE_PERIOD ≤ s.stk.boundary) ∧
    (∃ (peer path k : Nat) (x : PathX) (s : State), pathKey peer path = k ∧ Map.find? s.fab.paths k = some x ∧ s.getI
      Reg.FAB_PATH_INFO_STATE k ∈ [1, 3] ∧ x.echoed = false ∧ x.since + s.eff Reg.FAB_PATHCFG_PROBE_RETRY ≤ s.stk.boundary ∧ s.getI
      Reg.FAB_PATH_INFO_MISSES k + 1 < s.eff Reg.FAB_PATHCFG_DOWN_MISSES) ∧
    (∃ (peer path k : Nat) (x : PathX) (s : State), pathKey peer path = k ∧ path < 64 ∧ Map.find? s.fab.paths k = some x ∧ s.getI
      Reg.FAB_PATH_INFO_STATE k ∈ [1, 3] ∧ x.echoed = false ∧ x.since + s.eff Reg.FAB_PATHCFG_PROBE_RETRY ≤ s.stk.boundary ∧ s.eff
      Reg.FAB_PATHCFG_DOWN_MISSES ≤ s.getI Reg.FAB_PATH_INFO_MISSES k + 1 ∧ s.flag Reg.FAB_CFG_MODE = false) ∧
    (∃ (peer path k : Nat) (x : PathX) (s : State), pathKey peer path = k ∧ Map.find? s.fab.paths k = some x ∧ s.getI
      Reg.FAB_PATH_INFO_STATE k = 2 ∧ x.since + s.get Reg.FAB_PATHCFG_REVIVE ≤ s.stk.boundary ∧ s.sch.linkUp.contains (s.getI
      Reg.FAB_PATH_INFO_MAC k) = true) ∧
    (∃ (mac : Nat) (up : Bool) (s : State), s.sch.linkUp.contains mac ≠ up) :=
  ⟨⟨ctl9 0x41 77, 77, 0, discovering 4, by decide +kernel⟩,
   ⟨ctl9 0x42 (State.reset.uid + 5 * 2 ^ 64), discovering 2, by decide +kernel⟩,
   ⟨ctl9 0x43 (State.reset.uid + 1 * 2 ^ 64), discovering 3, by decide +kernel⟩,
   ⟨ctl9 0x44 (1 + 1 * 2 ^ 32 + (4 + 65536) * 2 ^ 256), 1, discovering 3, by decide +kernel⟩,
   ⟨ctl9 0x45 1, (discovering 4).updFab fun u => { u with acks := [(9, 1), (9, 2)] }, by decide +kernel⟩,
   ⟨3, 5, ctl9 0x48 5, discovering 3, by decide +kernel⟩,
   ⟨1, discovering 3, by decide +kernel⟩,
   ⟨5, (discovering 3).updFab fun u => { u with routeDue := some 5, heard := [heard9], linkStates := [(9, (1, [(12, 0)]))] }, by decide +kernel⟩,
   ⟨ctl9 0x46 7, discovering 3, by decide +kernel⟩,
   ⟨ctl9 0x47 7, pathKey 9 0, ⟨some 0, 0, 0, false⟩, pathIn 1 ⟨some 0, 0, 0, false⟩, by decide +kernel⟩,
   ⟨9, 0, 0, ⟨some 0, 0, 0, false⟩, pathIn 0 ⟨some 0, 0, 0, false⟩, by decide +kernel⟩,
   ⟨9, 0, ⟨none, 0, 0, false⟩, pathIn 0 ⟨none, 0, 0, false⟩, by decide +kernel⟩,
   ⟨9, 0, pathKey 9 0, ⟨none, 0, 0, false⟩, pathIn 1 ⟨none, 0, 0, false⟩, by decide +kernel⟩,
   ⟨9, 0, pathKey 9 0, ⟨none, 0, 0, false⟩, (pathIn 1 ⟨none, 0, 0, false⟩).setI Reg.FAB_PATH_INFO_MISSES (pathKey 9 0) 100, by decide +kernel⟩,
   ⟨9, 0, pathKey 9 0, ⟨none, 0, 0, false⟩, pathIn 2 ⟨none, 0, 0, false⟩, by decide +kernel⟩,
   ⟨3, true, discovering 3, by decide +kernel⟩⟩

/-- Operands and states that meet the hypotheses of RegulationCommandsComplete, clause by clause. -/
theorem test_meets_RegulationCommandsComplete :
    (∃ (l : Nat) (samples : List (Nat × Nat)) (s : State), s.frozen = false ∧ s.stroke % s.effI Reg.RGL_LOOP_CFG_PERIOD l = 0 ∧ s.rgl.since
      + s.effI Reg.RGL_LOOP_CFG_PERIOD l ≤ s.stroke ∧ (s.loop l).lastRun ≠ s.stroke ∧ (s.loop l).pending = none) ∧
    (∃ (l : Nat) (samples : List (Nat × Nat)) (s : State), s.frozen = false ∧ s.stroke % s.effI Reg.RGL_LOOP_CFG_PERIOD l = 0 ∧ s.rgl.since
      + s.effI Reg.RGL_LOOP_CFG_PERIOD l ≤ s.stroke ∧ (s.loop l).lastRun ≠ s.stroke ∧ (s.loop l).pending.isSome = true) ∧
    (∃ (l : Nat) (r : RglRun) (s : State), (s.loop l).pending = some r ∧ s.frozen = false ∧ r.due ≤ s.stk.boundary ∧ s.loopMode l = 1 ∧
      r.props ≠ []) ∧
    (∃ (l : Nat) (r : RglRun) (p : Proposal) (x : PeerX) (s : State), l = 0 ∧ (s.loop l).pending = some r ∧ s.frozen = false ∧ r.due ≤
      s.stk.boundary ∧ s.loopMode l = 2 ∧ (s.loop l).actSince + s.effI Reg.RGL_LOOP_CFG_PERIOD l ≤ r.stroke ∧ r.props = [p] ∧ Map.find?
      s.tlt.peers p.target = some x) ∧
    (∃ (l : Nat) (r : RglRun) (s : State), (s.loop l).pending = some r ∧ s.frozen = false ∧ r.due ≤ s.stk.boundary ∧ s.loopMode l = 0) ∧
    (∃ (l lo hi due : Nat) (s : State), (s.loop l).envNext = some (lo, hi, due) ∧ due ≤ s.stk.boundary) ∧
    (∃ (who : Issuer) (l run : Nat) (s : State), s.mayWriteRegs who = true ∧ s.blockAnswers 0x1100018 = true ∧ s.jReady who = true ∧
      acceptRefusal s l run (s.get Reg.RGL_ADV_MASK_MASK) = none) ∧
    (∃ (l : Nat) (m : RglMerge) (s : State), (s.loop l).merged = some m ∧ m.since + s.eff Reg.RGL_CTL_JNL_STROKES ≤ s.stroke) :=
  ⟨⟨0, [], looped 2 RglLoop.fresh, by decide +kernel⟩,
   ⟨0, [], looped 2 { RglLoop.fresh with pending := some run1 }, by decide +kernel⟩,
   ⟨0, run1, looped 1 { RglLoop.fresh with pending := some run1 }, by decide +kernel⟩,
   ⟨0, run1, ⟨9, 0, 100, 50⟩, PeerX.fresh, looped 2 { RglLoop.fresh with pending := some run1 }, by decide +kernel⟩,
   ⟨0, run1, looped 0 { RglLoop.fresh with pending := some run1 }, by decide +kernel⟩,
   ⟨0, 10, 20, 0, looped 2 { RglLoop.fresh with envNext := some (10, 20, 0) }, by decide +kernel⟩,
   ⟨mgr, 0, 3, ((looped 1 { RglLoop.fresh with advice := some run1 }).setI Reg.RGL_LOOP_STAT_RUN 0 3).set Reg.RGL_ADV_MASK_MASK 1, by decide +kernel⟩,
   ⟨0, ⟨1, 1, 1, 1, 0, ⟨9, 0, 100, 50⟩, false, 0⟩, looped 2 { RglLoop.fresh with merged := some ⟨1, 1, 1, 1, 0, ⟨9, 0, 100, 50⟩, false, 0⟩ }, by decide +kernel⟩⟩

/-- Operands and states that meet the hypotheses of JournalCommandsComplete, clause by clause. -/
theorem test_meets_JournalCommandsComplete :
    (∃ (who : Issuer) (bad : List Nat) (start head : Nat) (s : State), managerCmd s Blk.jnl 0x1200030 who ∧ s.get Reg.JNL_CMD_ARG_START =
      start ∧ s.get Reg.JNL_HEAD_SEQ = head ∧ start ≠ 0 ∧ start ≤ head ∧ s.canIssue 0 = true) ∧
    (∃ (who : Issuer) (start : Nat) (s : State), managerCmd s Blk.jnl 0x1200030 who ∧ s.get Reg.JNL_CMD_ARG_START = start ∧ s.flag
      Reg.JNL_STATUS_PREV_VALID = true ∧ start ≠ 0 ∧ start ≤ s.jnl.prevHead ∧ s.canIssue 0 = true) ∧
    (∃ (who : Issuer) (block : Nat) (s : State), managerCmd s Blk.jnl 0x1200030 who ∧ s.get Reg.JNL_HEAD_SEQ < 2 ^ 63) ∧
    (∃ (who : Issuer) (value : Nat) (s : State), writeOpen s who 0x1200020 ∧ value ≤ s.get Reg.JNL_HEAD_SEQ) ∧
    (∃ (who : Issuer) (s : State), readOpen s 0x1300030 ∧ who.origin ≠ .mctp) ∧
    (∃ (eid start n : Nat) (bad : List Nat) (s : State), 1 < s.dev ∧ start ≠ 0 ∧ start ≤ s.get Reg.JNL_HEAD_SEQ ∧ 1 ≤ n ∧ n ≤ 16) ∧
    (∃ (eid start n : Nat) (s : State), s.pwr.aux = true ∧ s.flag Reg.JNL_STATUS_PREV_VALID = true ∧ start ≠ 0 ∧ start ≤ s.jnl.prevHead ∧ 1
      ≤ n ∧ n ≤ 16) ∧
    (∃ (eid start n : Nat) (s : State), s.pwr.aux = true ∧ start ≠ 0 ∧ start ≤ s.get Reg.PAT_HEAD_SEQ ∧ 1 ≤ n ∧ n ≤ 32) ∧
    (∃ (eid start n : Nat) (s : State), s.pwr.aux = true ∧ 1 ≤ n ∧ n ≤ 32) ∧
    (∃ (eid : Nat) (s : State), 1 < s.dev) ∧
    (∃ (eid off i : Nat) (d : RegDef) (s : State), s.pwr.aux = true ∧ 0x1500000 ≤ off ∧ off < 0x1600000 ∧ findReg s ⟨.platform, .mctp, 0,
      eid⟩ off = some (d, i)) ∧
    (∃ (eid off i : Nat) (d : RegDef) (s : State), 1 < s.dev ∧ 0x1400000 ≤ off ∧ off < 0x1500000 ∧ findReg s ⟨.platform, .mctp, 0, eid⟩ off
      = some (d, i)) :=
  ⟨⟨mgr, [], 1, 5, logged.set Reg.JNL_CMD_ARG_START 1, by decide +kernel⟩,
   ⟨mgr, 1, ((logged.set Reg.JNL_CMD_ARG_START 1).set Reg.JNL_STATUS_PREV_VALID 1).updJnl fun u => { u with prevHead := 3 }, by decide +kernel⟩,
   ⟨mgr, 77, logged, by decide +kernel⟩,
   ⟨mgr, 3, logged, by decide +kernel⟩,
   ⟨mgr, logged, by decide +kernel⟩,
   ⟨8, 1, 4, [], logged, by decide +kernel⟩,
   ⟨8, 1, 4, (logged.set Reg.JNL_STATUS_PREV_VALID 1).updJnl fun u => { u with prevHead := 3 }, by decide +kernel⟩,
   ⟨8, 1, 4, logged, by decide +kernel⟩,
   ⟨8, 0, 4, logged, by decide +kernel⟩,
   ⟨8, logged, by decide +kernel⟩,
   ⟨8, 0x1500018, 0, regAt 0x1500018, inState 4, by decide +kernel⟩,
   ⟨8, 0x1400018, 0, regAt 0x1400018, inState 4, by decide +kernel⟩⟩

/-- Operands and states that meet the hypotheses of PowerCommandsComplete, clause by clause. -/
theorem test_meets_PowerCommandsComplete :
    (∃ (s : State), s.pwr.aux = false) ∧
    (∃ (eid : Nat) (hot : Int) (s : State), s.dev = 1 ∧ hot < (s.get Reg.PWR_THERM_T_CRIT : Int)) ∧
    (∃ (s : State), s.pwr.mainEn = true ∧ s.dev = 1) ∧
    (∃ (s : State), s.pwr.mainEn = true ∧ s.pwr.mainPg = false) ∧
    (∃ (s : State), 1 < s.dev) ∧
    (∃ (s : State), s.pwr.offAt.isSome = true) ∧
    (∃ (s : State), 2 ≤ s.dev ∧ s.pwr.b2 = false) ∧
    (∃ (regulated : Bool) (failed : List Nat) (repairs : Nat) (s : State), s.dev = 3 ∧ 1 ≤ s.pwr.nextStep ∧ s.pwr.nextStep ≤ 18 ∧
      s.pwr.steppedAt + s.get Reg.PWR_SEQ_STEP_STROKES ≤ s.stk.boundary ∧ s.pwr.mainPg = true ∧ regulated = true ∧ failed = []) ∧
    (∃ (s : State), s.pwr.waitSince = some 0 ∧ 65536 ≤ s.stk.boundary) ∧
    (∃ (who : Issuer) (s : State), who.role = .manager ∧ s.jReady who = true ∧ s.flag Reg.PWR_CMD_BUSY = false ∧ s.dev = 3 ∧ s.flag
      Reg.PWR_SEQ_READY = true) ∧
    (∃ (who : Issuer) (s : State), who.role = .platform ∧ s.flag Reg.PWR_CMD_BUSY = false ∧ s.dev = 4 ∧ s.get Reg.PWR_STATE_PSTATE = 0) ∧
    (∃ (who : Issuer) (s : State), who.role = .platform ∧ s.flag Reg.PWR_CMD_BUSY = false ∧ s.dev = 5) ∧
    (∃ (who : Issuer) (s : State), who.role = .platform ∧ s.flag Reg.PWR_CMD_BUSY = false ∧ standbyAllowed s = true) ∧
    (∃ (who : Issuer) (s : State), who.role = .platform ∧ s.flag Reg.PWR_CMD_BUSY = false ∧ s.get Reg.PWR_STATE_PSTATE = 2) ∧
    (∃ (who : Issuer) (s : State), who.role = .platform ∧ s.flag Reg.PWR_CMD_BUSY = false ∧ 1 < s.dev) ∧
    (∃ (who : Issuer) (s : State), who.role = .platform ∧ s.flag Reg.PWR_CMD_BUSY = false ∧ 2 ≤ s.dev ∧ s.dev ≤ 6) ∧
    (∃ (who : Issuer) (s : State), who.role = .platform ∧ s.flag Reg.PWR_CMD_BUSY = false ∧ s.dev = 7 ∧ s.pwr.mainPg = true ∧
      s.pwr.thermtrip = false) ∧
    (∃ (cause : Nat) (s : State), 2 ≤ s.dev ∧ s.dev ≤ 6) ∧
    (∃ (sensor : Nat) (hot : Int) (s : State), (s.get Reg.PWR_THERM_T_CRIT : Int) ≤ hot) ∧
    (∃ (sensor : Nat) (s : State), 2 ≤ s.dev ∧ s.dev ≤ 6) ∧
    (∃ (ap rid dstate : Nat) (s : State), s.flagI Reg.HIF_FN_INFO_EXISTS (fnKey ap rid) = true ∧ s.flagI Reg.HIF_FN_INFO_FLR_BUSY (fnKey ap
      rid) = false ∧ s.getI Reg.HIF_FN_INFO_DSTATE (fnKey ap rid) = 0 ∧ dstate = 3) :=
  ⟨⟨State.reset.updPwr fun u => { u with aux := false }, by decide +kernel⟩,
   ⟨8, 40, State.reset, by decide +kernel⟩,
   ⟨State.reset.updPwr fun u => { u with mainEn := true }, by decide +kernel⟩,
   ⟨State.reset.updPwr fun u => { u with mainEn := true }, by decide +kernel⟩,
   ⟨inState 4, by decide +kernel⟩,
   ⟨(inState 4).updPwr fun u => { u with offAt := some 3 }, by decide +kernel⟩,
   ⟨inState 2, by decide +kernel⟩,
   ⟨true, [], 0, ((inState 3).updPwr fun u => { u with nextStep := 4 }).updStk fun u => { u with boundary := 10000 }, by decide +kernel⟩,
   ⟨((inState 3).updPwr fun u => { u with waitSince := some 0 }).updStk fun u => { u with boundary := 65536 }, by decide +kernel⟩,
   ⟨mgr, (inState 3).set Reg.PWR_SEQ_READY 1, by decide +kernel⟩,
   ⟨plat, inState 4, by decide +kernel⟩,
   ⟨plat, inState 5, by decide +kernel⟩,
   ⟨plat, inState 4, by decide +kernel⟩,
   ⟨plat, (inState 4).set Reg.PWR_STATE_PSTATE 2, by decide +kernel⟩,
   ⟨plat, inState 4, by decide +kernel⟩,
   ⟨plat, inState 4, by decide +kernel⟩,
   ⟨plat, inState 7, by decide +kernel⟩,
   ⟨0x1801, inState 4, by decide +kernel⟩,
   ⟨2, 106, inState 4, by decide +kernel⟩,
   ⟨3, inState 4, by decide +kernel⟩,
   ⟨0, 256, 3, (inState 4).setI Reg.HIF_FN_INFO_EXISTS 256 1, by decide +kernel⟩⟩

/-- Operands and states that meet the hypotheses of UnitCommandsComplete, clause by clause. -/
theorem test_meets_UnitCommandsComplete :
    (∃ (who : Issuer) (kind index : Nat) (s : State), unitOpen s who kind index ∧ s.unitState kind index = 0 ∧ (kind = 0 → s.flagI
      Reg.TIL_INFO_DEBUG_HELD index = false) ∧ (kind = 2 → stageMirror s index ≠ none) ∧ (kind = 4 → reserveReady s (index / 32) = true) ∧
      (kind = 5 → holdsManager s index = true → s.flag Reg.HIF_MGR_STANDBY_READY = true)) ∧
    (∃ (who : Issuer) (kind index : Nat) (s : State), unitOpen s who kind index ∧ s.unitState kind index = 1) ∧
    (∃ (kind index : Nat) (s : State), s.unitState kind index = 1) ∧
    (∃ (kind index : Nat) (d : Drain) (s : State), Map.find? s.svc.drain (unitKey kind index) = some d ∧ s.unitState kind index = 1 ∧
      d.since + s.eff Reg.SVC_CTL_DRAIN_LIMIT ≤ s.stk.boundary) ∧
    (∃ (who : Issuer) (kind index : Nat) (s : State), unitOpen s who kind index ∧ s.unitState kind index = 2 ∧ Map.find? s.svc.testing
      (unitKey kind index) = none) ∧
    (∃ (who : Issuer) (kind index : Nat) (s : State), unitOpen s who kind index ∧ s.unitState kind index = 2 ∧ Map.find? s.svc.testing
      (unitKey kind index) = none) ∧
    (∃ (kind index : Nat) (pass readmit : Bool) (s : State), Map.find? s.svc.testing (unitKey kind index) = some readmit ∧ (pass = true →
      kind = 4 → Map.find? s.svc.replaced (unitKey kind index) = none)) ∧
    (∃ (kind index : Nat) (s : State), (Map.find? s.svc.reloading (unitKey kind index)).isSome = true) ∧
    (∃ (kind index b : Nat) (s : State), s.tileBlock index = some b ∧ s.unitState kind index = 3 ∧ kind = 0) ∧
    (∃ (kind index b : Nat) (s : State), Map.find? s.svc.probation (unitKey kind index) = some b ∧ s.unitState kind index = 3 ∧ b + 256 ≤
      s.stk.boundary) ∧
    (∃ (who : Issuer) (kind index u : Nat) (s : State), unitOpen s who kind index ∧ kind = 0 ∧ s.unitState 0 index = 2 ∧ s.getI
      Reg.SVC_UNIT_INFO_LOGICAL (unitKey 0 index) ≠ 0xFF ∧ s.get Reg.SVC_CMD_ARG_STANDBY = 0x7F ∧ nearestStandby s index = some u) ∧
    (∃ (who : Issuer) (kind index : Nat) (s : State), unitOpen s who kind index ∧ s.unitState kind index = 2 ∧ tallyRefusal who.role 3 s =
      none) ∧
    (∃ (kind index code : Nat) (s : State), s.flag Reg.SVC_CTL_AUTO_HOLD = true ∧ kind ≠ 4 ∧ s.unitState kind index ∈ [0, 1]) ∧
    (∃ (kind index code : Nat) (s : State), s.flag Reg.SVC_CTL_AUTO_HOLD = true ∧ kind = 4 ∧ s.unitState kind index = 0 ∧ s.flag
      Reg.SVC_CTL_AUTO_SPARE = true ∧ reserveReady s (index / 32) = true) ∧
    (∃ (kind index code : Nat) (s : State), s.flag Reg.SVC_CTL_AUTO_HOLD = true ∧ s.unitState kind index = 3) :=
  ⟨⟨plat, 6, 2, unitIn 6 2 0, by decide +kernel⟩,
   ⟨plat, 6, 2, unitIn 6 2 1, by decide +kernel⟩,
   ⟨6, 2, unitIn 6 2 1, by decide +kernel⟩,
   ⟨6, 2, ⟨0, false⟩, ((unitIn 6 2 1).updSvc fun u => { u with drain := [(unitKey 6 2, ⟨0, false⟩)] }).updStk fun u => { u with boundary := 10 ^ 10 }, by decide +kernel⟩,
   ⟨plat, 6, 2, unitIn 6 2 2, by decide +kernel⟩,
   ⟨plat, 6, 2, unitIn 6 2 2, by decide +kernel⟩,
   ⟨6, 2, true, true, (unitIn 6 2 2).updSvc fun u => { u with testing := [(unitKey 6 2, true)] }, by decide +kernel⟩,
   ⟨6, 2, (unitIn 6 2 2).updSvc fun u => { u with reloading := [(unitKey 6 2, 3)] }, by decide +kernel⟩,
   ⟨0, 2, 2, (unitIn 0 2 3).setI Reg.SVC_UNIT_INFO_LOGICAL (unitKey 0 2) 2, by decide +kernel⟩,
   ⟨6, 2, 0, ((unitIn 6 2 3).updSvc fun u => { u with probation := [(unitKey 6 2, 0)] }).updStk fun u => { u with boundary := 300 }, by decide +kernel⟩,
   ⟨plat, 0, 2, 5, ((unitIn 0 2 2).setI Reg.SVC_UNIT_INFO_LOGICAL (unitKey 0 5) 0xFF).sets [(Reg.SVC_CMD_ARG_STANDBY, 0x7F)], by decide +kernel⟩,
   ⟨plat, 6, 2, (unitIn 6 2 2).setI Reg.ARM_TALLY_GRANT_PLATFORM 3 4, by decide +kernel⟩,
   ⟨6, 2, 7, unitIn 6 2 0, by decide +kernel⟩,
   ⟨4, 2, 7, (unitIn 4 2 0).setI Reg.SVC_SPARE_STATE 0 1, by decide +kernel⟩,
   ⟨6, 2, 7, unitIn 6 2 3, by decide +kernel⟩⟩

/-- Operands and states that meet the hypotheses of RepairCommandsComplete, clause by clause. -/
theorem test_meets_RepairCommandsComplete :
    (∃ (who : Issuer) (kind index : Nat) (s : State), unitOpen s who kind index ∧ kind = 4 ∧ s.unitState 4 index = 2 ∧ tallyRefusal who.role
      4 s = none) ∧
    (∃ (index : Nat) (ok : Bool) (p : CmdPend) (s : State), Map.find? s.cmds 18 = some p ∧ p.op = 7) ∧
    (∃ (who : Issuer) (kind index : Nat) (s : State), unitOpen s who kind index ∧ kind = 4 ∧ s.unitState 4 index ∈ [0, 3] ∧ reserveReady s
      (index / 32) = true) ∧
    (∃ (stack : Nat) (j : SpareJob) (s : State), Map.find? s.svc.spare stack = some j) ∧
    (∃ (who : Issuer) (slot : Nat) (m : Image) (s : State), who.role = .platform ∧ s.flag Reg.SVC_CMD_BUSY = false ∧ s.svc.plinth = none ∧
      s.get Reg.ARM_BOOTDESC_PLINTH_SLOT = slot ∧ slot ≠ s.svc.plinthSlot ∧ Map.find? s.arm.plinthSlots slot = some m ∧ imageCode26 s 2
      16777216 m = 0) ∧
    (∃ (p : PlinthSwitch) (s : State), s.svc.plinth = some p) ∧
    (∃ (p : PlinthSwitch) (s : State), s.svc.plinth = some p) ∧
    (∃ (pc n w : Nat) (s : State), Map.find? s.svc.ce pc = some (n, w) ∧ s.stk.boundary < w + 3906250) ∧
    (∃ (pc : Nat) (s : State), Map.find? s.svc.ce pc = none) ∧
    (∃ (structure_ : Nat) (bank : List Nat) (s : State), s.dev ∈ [4, 5] ∧ (s.svc.recoveryStrokes.filter fun b => decide (s.stk.boundary < b
      + 3906250)).length < max 1 (s.get Reg.SVC_CTL_RECOVERY_MAX)) ∧
    (∃ (structure_ : Nat) (bank : List Nat) (s : State), s.dev ∈ [4, 5] ∧ max 1 (s.get Reg.SVC_CTL_RECOVERY_MAX) ≤
      (s.svc.recoveryStrokes.filter fun b => decide (s.stk.boundary < b + 3906250)).length) ∧
    (∃ (rebuilt : Bool) (s : State), s.dev = 6 ∧ rebuilt = true ∧ s.svc.recoveryAt + s.eff Reg.SVC_LIMITS_RECOVERY_MIN ≤ s.stk.boundary ∧
      s.flag Reg.SVC_CTL_RECOVERY_HOLD = false) ∧
    (∃ (rebuilt : Bool) (s : State), s.dev = 6 ∧ rebuilt = false) :=
  ⟨⟨plat, 4, 2, ((unitIn 4 2 2).setI Reg.ARM_TALLY_REMAINING 4 2).setI Reg.ARM_TALLY_GRANT_PLATFORM 4 1, by decide +kernel⟩,
   ⟨2, true, cmdOf 7 plat 0 0 0, (unitIn 4 2 2).updCmds fun _ => [(18, cmdOf 7 plat 0 0 0)], by decide +kernel⟩,
   ⟨plat, 4, 2, (unitIn 4 2 0).setI Reg.SVC_SPARE_STATE 0 1, by decide +kernel⟩,
   ⟨0, ⟨2, 0⟩, (unitIn 4 2 0).updSvc fun u => { u with spare := [(0, ⟨2, 0⟩)] }, by decide +kernel⟩,
   ⟨plat, 1, goodImage 2, ((inState 4).set Reg.ARM_BOOTDESC_PLINTH_SLOT 1).updArm fun u => { u with plinthSlots := [(1, goodImage 2)] }, by decide +kernel⟩,
   ⟨⟨1, 0⟩, (inState 4).updSvc fun u => { u with plinth := some ⟨1, 0⟩ }, by decide +kernel⟩,
   ⟨⟨1, 0⟩, (inState 4).updSvc fun u => { u with plinth := some ⟨1, 0⟩ }, by decide +kernel⟩,
   ⟨3, 2, 0, (inState 4).updSvc fun u => { u with ce := [(3, (2, 0))] }, by decide +kernel⟩,
   ⟨3, inState 4, by decide +kernel⟩,
   ⟨3, [], inState 4, by decide +kernel⟩,
   ⟨3, [], (inState 4).updSvc fun u => { u with recoveryStrokes := List.replicate 300 0 }, by decide +kernel⟩,
   ⟨true, (inState 6).updStk fun u => { u with boundary := 10 ^ 9 }, by decide +kernel⟩,
   ⟨false, inState 6, by decide +kernel⟩⟩

/-- Operands and states that meet the hypotheses of RegisterCommandsComplete, clause by clause. -/
theorem test_meets_RegisterCommandsComplete :
    (∃ (a : Access0) (write : Bool) (s : State), s.accessOk a = false ∧ write = false ∧ a.who.origin ≠ .mctp) ∧
    (∃ (a : Access0) (write : Bool) (s : State), s.accessOk a = false ∧ write = true) ∧
    (∃ (who : Issuer) (offset value i : Nat) (d : RegDef) (f : Field) (s : State), writeReaches s who offset value d i ∧ writeJournaled d =
      false ∧ writeShows d.off = false ∧ d.deferred = false ∧ d.fields = [f] ∧ f.access = .rw ∧ fieldIgnores s f i = false) ∧
    (∃ (who : Issuer) (offset i : Nat) (d : RegDef) (c f : Field) (s : State), writeReaches s who offset (2 ^ 32) d i ∧ writeShows d.off =
      false ∧ d.fields = [f, c] ∧ c.lo = 0 ∧ c.width = 32 ∧ c.access = .ro ∧ f.lo = 32 ∧ f.width = 1 ∧ f.access = .w1c ∧ f.off = c.off ∧
      s.getI f i ≤ 1) ∧
    (∃ (who : Issuer) (offset i : Nat) (d : RegDef) (f : Field) (l : List Field) (s : State), readOpen s offset ∧ lowHalves.contains offset
      = true ∧ who.origin ≠ .mctp ∧ findReg s who offset = some (d, i) ∧ d.off = offset ∧ d.fields = f :: l) ∧
    (∃ (who : Issuer) (offset i : Nat) (d : RegDef) (f : Field) (s : State), readOpen s offset ∧ offset ≠ 0x200070 ∧ offset ≠ 0xB00090 ∧
      (offset < 0x100200 ∨ 0x100300 ≤ offset) ∧ who.origin ≠ .mctp ∧ findReg s who offset = some (d, i) ∧ lowHalves.contains d.off = false ∧
      lowHalves.contains (d.off - 8) = false ∧ (d.fields.filter fun g => g.access == .rc) = [f]) ∧
    (∃ (p : TlPkt) (s : State), arrives s p ∧ s.msgPlace p.src p.msg = .open_ ∧ s.flag Reg.FAB_CFG_RMGMT_ALLOW = true ∧ s.get
      Reg.FAB_RMGMT_FIRST_DEV ≤ p.src ∧ p.src ≤ s.get Reg.FAB_RMGMT_LAST_DEV ∧ byteField p.ext 8 13 < 2 ^ 25 ∧ byteField p.ext 8 13 % 8 = 0
      ∧ (findReg s (fabricIssuer p.src) (byteField p.ext 8 13)).isSome = true) :=
  ⟨⟨⟨mgr, 4, 4⟩, false, inState 4, by decide +kernel⟩,
   ⟨⟨mgr, 4, 4⟩, true, inState 4, by decide +kernel⟩,
   ⟨mgr, 0x500020, 7, 0, regAt 0x500020, Reg.RNG_SEL_RING, inState 4, by decide +kernel⟩,
   ⟨mgr, 0xD000C8, 0, regAt 0xD000C8, Reg.TLT_CSUM_DROP_COUNT, Reg.TLT_CSUM_DROP_SAT, inState 4, by decide +kernel⟩,
   ⟨mgr, 0xD000E8, 0, regAt 0xD000E8, fieldAt 0xD000E8 0, (regAt 0xD000E8).fields.tail, inState 4, by decide +kernel⟩,
   ⟨mgr, 0xF00000, 0, regAt 0xF00000, Reg.ACC_SLICE_LOAD_PCT, (inState 4).setI Reg.ACC_SLICE_LOAD_PCT 0 50, by decide +kernel⟩,
   ⟨pkt9 0x49 0, (onFabric ringed).sets [(Reg.FAB_CFG_RMGMT_ALLOW, 1), (Reg.FAB_RMGMT_LAST_DEV, 100)], by decide +kernel⟩⟩

/-! ### Checks of WellFormed -/

/-- Commands whose operands lie at the start of their ranges are well formed. -/
theorem test_wellFormed_accepts_01 :
    ([
    .strapSample false 0 false false false, .powerOn 0 0, .powerStep false [] 0, .safeEntry 0, .tCritReached 0 0, .thermtrip 0,
    .threadOverrun 0 false, .hwUnitOverrun 1 0, .phcStepWrite plat 0, .phcRateWrite plat 0, .realignArm plat 0, .realignDisarm plat 0,
    .alignEstimateWrite plat 0, .phcSecRead plat 0 0, .txtsInfoRead plat 0, .ppsInEdge 0 0, .todMessage 0 0, .maquetteReportDone 0 0 [],
    .activate plat 0 false, .commandUndefinedOp plat 0 0, .perstAssert 0, .perstDeassert 0, .hotReset 0, .linkUp 0 1 1 false, .linkDown 0,
    .apEnWrite plat 0 0, .configRequest 0 0 0 0, .flr 0 0, .flrComplete 0 0, .dstateChange 0 0 0, .d3cold 0, .hostReadCompletion 0 0 0 [],
    .readTimeout 0 0, .tagQuarantineEnd 0 0, .ideKeyProgram 0 0 0 false, .ideCheckFailed 0 0 false, .tdispRequest 0 0 0, .tdiError 0 0,
    .atsInvalidation 0 0 0 0 0, .standbyReady 0 0, .cxlMemAccess 0 [] false false, .hdmCommit 0 0 0 0 0 false, .cxlMailboxCommand 0 0,
    .invalidAccess ⟨plat, 0, 0⟩ false, .registerWrite plat 0 0, .satClear plat 0, .counterLowRead plat 0, .create plat 0, .nicheQuiesced 0,
    .nicheResetDone 0, .teardownDone 0, .spoofWrite plat 0, .logStart plat 0, .nicheCounterClear plat 0, .rngCreate plat 0,
    .ringCreate ⟨0, 0⟩ 0, .ringEnable ⟨0, 0⟩, .ringDisable ⟨0, 0⟩, .ringDestroy ⟨0, 0⟩, .ringIdle 0] : List Instr).all (fun c => c.wellFormed) = true := by decide +kernel

/-- Commands whose operands lie at the start of their ranges are well formed. -/
theorem test_wellFormed_accepts_02 :
    ([
    .ringPoll 0, .ringPollData 0 [], .nudge plat 0 0, .cqRelease plat 0 0 0 false, .eqRelease plat 0 0 0 false, .cqRestart 0,
    .eventMsixSend 0, .nop ⟨0, 0⟩, .send ⟨0, 0⟩, .recvPost ⟨0, 0⟩, .abort ⟨0, 0⟩, .copy ⟨0, 0⟩, .fill ⟨0, 0⟩, .list ⟨0, 0⟩ [],
    .dmaChannelStart 0, .dmaHalfPoint 0, .dmaPassEnd 0, .tcWait 0, .threadWake 0, .timerEvent 0 0, .tcBind 0 0, .tcStrokeDone 0 0,
    .tcChCommit 0 0, .chCommitUnblock 0, .tcChDiscard 0, .tcTake 0 0, .tcItemDone 0 0, .tcDmaSubmit 0 0, .supInject 0 0, .supKill 0 0,
    .supStart 0 0, .supRestart 0 0, .supDrainDone 0, .threadFault 0 0 0 0, .supervisorFault 0 0, .waitCycleReport 0 0,
    .waitGroupRestart 0 0, .debugAccess 0 0 0 0, .debugHalt 0, .debugResume 0, .tileDebugHold 0, .tileDebugRelease 0, .stagedDiscard 0,
    .frameReceive 0 (List.replicate 14 0) 0 0, .parseFrame 0 0 0, .pipelineEntry 0 0, .parkLookupReturn 0 0, .reorderSkip 0,
    .groupDefine plat 0, .ruleWrite plat 0, .ruleDelete plat 0, .actionWrite plat 0, .templateWrite plat 0, .insert plat 0, .delete plat 0,
    .query plat 0, .pfxInsert plat 0, .pfxDelete plat 0, .flowInsert ⟨0, 0⟩ 0, .flowDelete ⟨0, 0⟩ 0] : List Instr).all (fun c => c.wellFormed) = true := by decide +kernel

/-- Commands whose operands lie at the start of their ranges are well formed. -/
theorem test_wellFormed_accepts_03 :
    ([
    .flowQuery ⟨0, 0⟩ 0, .l2Learn 0, .l2Move 0, .moveFlagClear 0 0, .agingSweep 0, .gclSet plat 0, .gclSwitch 0, .shaperChange plat 0,
    .policerApply plat 0, .transmitListBuild 0, .frameTransmit 0 0, .tlWrite ⟨0, 0⟩, .tlWriteImm ⟨0, 0⟩, .tlSend ⟨0, 0⟩, .tlRead ⟨0, 0⟩,
    .tlAtomic ⟨0, 0⟩, .tlFlush ⟨0, 0⟩, .tlRecv ⟨0, 0⟩, .epOpen ⟨0, 0⟩, .epClose ⟨0, 0⟩, .epHoldExpiry 0, .winOpen ⟨0, 0⟩,
    .winRewrite ⟨0, 0⟩, .winRevoke ⟨0, 0⟩, .revokeFence 0, .wrapHoldExpiry 0, .pdAlloc ⟨0, 0⟩, .pdFree ⟨0, 0⟩,
    .wireDataReceive ⟨0, 1, 0, 0, 0, 0, 0, 0, 0, 0, 0, 0, 0, 0, 0, [], false, false⟩,
    .wireReadReqReceive ⟨0, 4, 0, 0, 0, 0, 0, 0, 0, 0, 0, 0, 0, 0, 0, [], false, false⟩,
    .wireReadRespReceive ⟨0, 5, 0, 0, 0, 0, 0, 0, 0, 0, 0, 0, 0, 0, 0, [], false, false⟩,
    .wireAtomicReceive ⟨0, 6, 0, 0, 0, 0, 0, 0, 0, 0, 0, 0, 0, 0, 0, [], false, false⟩,
    .wireAtomicRespReceive ⟨0, 7, 0, 0, 0, 0, 0, 0, 0, 0, 0, 0, 0, 0, 0, [], false, false⟩,
    .wireFlushReceive ⟨0, 8, 0, 0, 0, 0, 0, 0, 0, 0, 0, 0, 0, 0, 0, [], false, false⟩, .flushVisibilityDone 0 0,
    .wireFlushAckReceive ⟨0, 9, 0, 0, 0, 0, 0, 0, 0, 0, 0, 0, 0, 0, 0, [], false, false⟩,
    .wireAckReceive ⟨0, 10, 0, 0, 0, 0, 0, 0, 0, 0, 0, 0, 0, 0, 0, [], false, false⟩,
    .wireNakReceive ⟨0, 11, 0, 0, 0, 0, 0, 0, 0, 0, 0, 0, 0, 0, 0, [], false, false⟩,
    .wireAbandonReceive ⟨0, 12, 0, 0, 0, 0, 0, 0, 0, 0, 0, 0, 0, 0, 0, [], false, false⟩, .deferredAck 0 0, .orderedCompletionRelease 0 0,
    .messageTimeout 0 0, .busyBackoffExpiry 0 0 0, .contextRecallDone 0 0, .nvmeSqDoorbell 0 0 0, .nvmeCqDoorbell 0 0 0,
    .nvmeCommandForward 0 0, .nvmeRead 0 false, .nvmeWrite 0, .compare 0 false, .writeZeroes 0, .datasetManagement 0, .verify 0 false,
    .nvmeFlush 0, .nvsData ⟨0, 0⟩, .nvsComplete ⟨0, 0⟩, .createIoSq 0, .deleteIoSq 0, .createIoCq 0, .deleteIoCq 0] : List Instr).all (fun c => c.wellFormed) = true := by decide +kernel

/-- Commands whose operands lie at the start of their ranges are well formed. -/
theorem test_wellFormed_accepts_04 :
    ([
    .identify 0, .getLogPage 0, .setFeatures 0, .getFeatures 0, .asyncEventRequest 0, .nvmeAbort 0, .firmwareImageDownload 0,
    .firmwareCommit 0, .deviceSelfTest 0, .selfTestWork 0 false, .ccEnable 0 0 0 0 0, .ccDisable 0, .ccShutdown 0 0, .shutdownComplete 0,
    .interruptCoalesceExpiry 0 0, .ctrlCreate plat 0, .nsCreate plat 0, .fwDone plat 0, .cipher ⟨0, 0⟩, .digest ⟨0, 0⟩, .pkey ⟨0, 0⟩,
    .compress ⟨0, 0⟩, .decompress ⟨0, 0⟩, .crc ⟨0, 0⟩, .ecEncode ⟨0, 0⟩, .ecDecode ⟨0, 0⟩, .scrub ⟨0, 0⟩, .keyLoad ⟨0, 0⟩ [],
    .keyGenerate ⟨0, 0⟩, .keyDestroy ⟨0, 0⟩, .keyDestroyFence 0, .segCreate plat 0, .segGrant plat 0, .importAdd plat 0,
    .fabTemplateWrite plat 0, .seedWrite plat 0, .poolAtomic ⟨0, 0⟩, .apertureAccess plat 0 1 none, .fabricEnable plat 0,
    .fabricDisable plat 0, .neighbourTimeout 0, .hello 0 ⟨0, 0x40, 0, 0, 0, 0, 0, 0, 0, 0, 0, 0, 0, 0, 0, [], false, false⟩,
    .idRequest ⟨0, 0x41, 0, 0, 0, 0, 0, 0, 0, 0, 0, 0, 0, 0, 0, [], false, false⟩,
    .idAssign ⟨0, 0x42, 0, 0, 0, 0, 0, 0, 0, 0, 0, 0, 0, 0, 0, [], false, false⟩,
    .idRevoke ⟨0, 0x43, 0, 0, 0, 0, 0, 0, 0, 0, 0, 0, 0, 0, 0, [], false, false⟩,
    .memberUpdate ⟨0, 0x44, 0, 0, 0, 0, 0, 0, 0, 0, 0, 0, 0, 0, 0, [], false, false⟩,
    .memberAck ⟨0, 0x45, 0, 0, 0, 0, 0, 0, 0, 0, 0, 0, 0, 0, 0, [], false, false⟩,
    .probe ⟨0, 0x46, 0, 0, 0, 0, 0, 0, 0, 0, 0, 0, 0, 0, 0, [], false, false⟩,
    .probeAck ⟨0, 0x47, 0, 0, 0, 0, 0, 0, 0, 0, 0, 0, 0, 0, 0, [], false, false⟩,
    .linkState 0 ⟨0, 0x48, 0, 0, 0, 0, 0, 0, 0, 0, 0, 0, 0, 0, 0, [], false, false⟩,
    .regAccess ⟨0, 0x49, 0, 0, 0, 0, 0, 0, 0, 0, 0, 0, 0, 0, 0, [], false, false⟩,
    .regResp ⟨0, 0x4A, 0, 0, 0, 0, 0, 0, 0, 0, 0, 0, 0, 0, 0, [], false, false⟩, .pathSilent 0 0, .pathIdleProbe 0 0,
    .probeRetryExpiry 0 0, .pathRevive 0 0, .ethLinkChange 0 false, .regulationRun 0 [], .regulationApply 0, .envelopeApply 0] : List Instr).all (fun c => c.wellFormed) = true := by decide +kernel

/-- Commands whose operands lie at the start of their ranges are well formed. -/
theorem test_wellFormed_accepts_05 :
    ([
    .adviceAccept plat 0 0, .decisionJournalFlush 0, .mark plat 0, .journalAck plat 0, .readJournal 0 0 0 [], .readPrevJournal 0 0 0,
    .readPatina 0 0 0, .readPinned 0 0 0, .clearPinned 0, .pwrRead 0 0, .svcRead 0 0, .unitDrained 0 0, .unitDrainTimeout 0 0,
    .testDone 0 0 false, .probationStep 0 0, .probationEnd 0 0, .repairDone 0 false, .spareSwitch 0, .unitFailure 0 0 0, .correctedError 0,
    .recoveryEntry 1 [], .functionReady 0, .armatureReloadDone 0 0, .acceleratorWorkDone ⟨0, 0⟩ 0 0 [], .readClears plat 0] : List Instr).all (fun c => c.wellFormed) = true := by decide +kernel

/-- One operand past its range makes the command ill formed: one command for each check. -/
theorem test_wellFormed_refuses_01 :
    ([
    .strapSample false 4 false false false, .powerOn 256 0, .powerStep false [896] 0, .safeEntry (2 ^ 16), .tCritReached 24 0,
    .thermtrip 24, .threadOverrun 3072 false, .hwUnitOverrun 0 0, .hwUnitOverrun 6 0, .hwUnitOverrun 1 4096, .phcStepWrite plat (2 ^ 64),
    .phcRateWrite plat (2 ^ 32), .realignArm plat (2 ^ 48), .realignDisarm plat (2 ^ 48), .alignEstimateWrite plat (2 ^ 32),
    .phcSecRead plat 512 0, .phcSecRead plat 0 (2 ^ 32), .txtsInfoRead plat 16, .ppsInEdge 512 0, .ppsInEdge 0 256,
    .todMessage (2 ^ 128) 0, .maquetteReportDone (2 ^ 16) 0 [], .maquetteReportDone 0 (2 ^ 16) [], .activate plat 256 false,
    .commandUndefinedOp plat (2 ^ 25) 0, .commandUndefinedOp plat 0 256, .perstAssert 4, .perstDeassert 4, .hotReset 4,
    .linkUp 4 1 1 false, .linkUp 0 0 1 false, .linkUp 0 8 1 false, .linkUp 0 1 0 false, .linkUp 0 1 17 false, .linkDown 4,
    .apEnWrite plat 2 0, .apEnWrite plat 0 (2 ^ 64), .configRequest 4 0 0 0, .configRequest 0 (2 ^ 16) 0 0, .configRequest 0 0 0 (2 ^ 32),
    .flr 4 0, .flr 0 (2 ^ 16), .flrComplete 4 0, .flrComplete 0 (2 ^ 16), .dstateChange 4 0 0, .dstateChange 0 (2 ^ 16) 0,
    .dstateChange 0 0 4, .d3cold 4, .hostReadCompletion 4 0 0 [], .hostReadCompletion 0 16384 0 [], .hostReadCompletion 0 0 4 [],
    .readTimeout 4 0, .readTimeout 0 16384, .tagQuarantineEnd 4 0, .tagQuarantineEnd 0 16384, .ideKeyProgram 4 0 0 false,
    .ideKeyProgram 0 8 0 false, .ideKeyProgram 0 0 16 false, .ideCheckFailed 4 0 false, .ideCheckFailed 0 8 false] : List Instr).all (fun c => !c.wellFormed) = true := by decide +kernel

/-- One operand past its range makes the command ill formed: one command for each check. -/
theorem test_wellFormed_refuses_02 :
    ([
    .tdispRequest 4 0 0, .tdispRequest 0 (2 ^ 16) 0, .tdiError 4 0, .tdiError 0 (2 ^ 16), .atsInvalidation 4 0 0 0 0,
    .atsInvalidation 0 (2 ^ 16) 0 0 0, .atsInvalidation 0 0 (2 ^ 21) 0 0, .atsInvalidation 0 0 0 (2 ^ 64) 0,
    .atsInvalidation 0 0 0 0 (2 ^ 64 + 1), .standbyReady 4 0, .standbyReady 0 16, .cxlMemAccess (2 ^ 52) [] false false,
    .cxlMemAccess 32 [] false false, .cxlMemAccess 0 (List.replicate 65 0) false false, .hdmCommit 2 0 0 0 0 false,
    .hdmCommit 0 (2 ^ 52) 0 0 0 false, .hdmCommit 0 0 (2 ^ 52) 0 0 false, .hdmCommit 0 0 0 16 0 false, .hdmCommit 0 0 0 0 16 false,
    .cxlMailboxCommand (2 ^ 16) 0, .invalidAccess ⟨plat, 2 ^ 28, 0⟩ false, .invalidAccess ⟨plat, 0, 65536⟩ false,
    .registerWrite plat (2 ^ 28) 0, .registerWrite plat 0 (2 ^ 64), .satClear plat (2 ^ 28), .counterLowRead plat (2 ^ 25),
    .create plat (2 ^ 512), .nicheQuiesced 4096, .nicheResetDone 4096, .teardownDone 4096, .spoofWrite plat (2 ^ 256),
    .logStart plat (2 ^ 256), .nicheCounterClear plat (2 ^ 64), .rngCreate plat (2 ^ 512), .ringCreate ⟨2 ^ 17, 0⟩ 0,
    .ringCreate ⟨0, 2 ^ 512⟩ 0, .ringCreate ⟨0, 0⟩ (2 ^ 512), .ringEnable ⟨2 ^ 17, 0⟩, .ringEnable ⟨0, 2 ^ 512⟩, .ringDisable ⟨2 ^ 17, 0⟩,
    .ringDisable ⟨0, 2 ^ 512⟩, .ringDestroy ⟨2 ^ 17, 0⟩, .ringDestroy ⟨0, 2 ^ 512⟩, .ringIdle (2 ^ 17), .ringPoll 2,
    .ringPollData (2 ^ 17) [], .ringPollData 0 (List.replicate 9 0), .ringPollData 0 [2 ^ 512], .nudge plat 4096 0, .nudge plat 0 (2 ^ 17),
    .cqRelease plat 4096 0 0 false, .cqRelease plat 0 (2 ^ 17) 0 false, .cqRelease plat 0 0 (2 ^ 17) false, .eqRelease plat 4096 0 0 false,
    .eqRelease plat 0 (2 ^ 17) 0 false, .eqRelease plat 0 0 (2 ^ 17) false, .cqRestart (2 ^ 17), .eventMsixSend (2 ^ 17), .nop ⟨2 ^ 17, 0⟩,
    .nop ⟨0, 2 ^ 512⟩] : List Instr).all (fun c => !c.wellFormed) = true := by decide +kernel

/-- One operand past its range makes the command ill formed: one command for each check. -/
theorem test_wellFormed_refuses_03 :
    ([
    .send ⟨2 ^ 17, 0⟩, .send ⟨0, 2 ^ 512⟩, .recvPost ⟨2 ^ 17, 0⟩, .recvPost ⟨0, 2 ^ 512⟩, .abort ⟨2 ^ 17, 0⟩, .abort ⟨0, 2 ^ 512⟩,
    .copy ⟨2 ^ 17, 0⟩, .copy ⟨0, 2 ^ 512⟩, .fill ⟨2 ^ 17, 0⟩, .fill ⟨0, 2 ^ 512⟩, .list ⟨2 ^ 17, 0⟩ [], .list ⟨0, 2 ^ 512⟩ [],
    .dmaChannelStart 4, .dmaHalfPoint 64, .dmaPassEnd 64, .tcWait 3072, .threadWake 3072, .timerEvent 3072 0, .timerEvent 0 512,
    .tcBind 3072 0, .tcBind 0 (2 ^ 64), .tcStrokeDone 3072 0, .tcChCommit 3072 0, .tcChCommit 0 (2 ^ 64), .chCommitUnblock 24576,
    .tcChDiscard 3072, .tcTake 3072 0, .tcTake 0 256, .tcItemDone 3072 0, .tcItemDone 0 (2 ^ 64), .tcDmaSubmit 3072 0,
    .tcDmaSubmit 0 (2 ^ 64), .supInject 3072 0, .supInject 0 (2 ^ 32), .supKill 3072 0, .supKill 0 (2 ^ 32), .supStart 3072 0,
    .supStart 0 (2 ^ 32), .supRestart 3072 0, .supRestart 0 16, .supDrainDone 3072, .threadFault 3072 0 0 0, .threadFault 0 (2 ^ 64) 0 0,
    .threadFault 0 0 (2 ^ 64) 0, .threadFault 0 0 0 (2 ^ 64), .supervisorFault 3072 0, .supervisorFault 0 (2 ^ 64), .waitCycleReport 96 0,
    .waitCycleReport 0 16, .waitGroupRestart 96 0, .waitGroupRestart 0 16, .debugAccess 3072 0 0 0, .debugAccess 0 5 0 0,
    .debugAccess 0 0 0 256, .debugHalt 3072, .debugResume 3072, .tileDebugHold 96, .tileDebugRelease 96, .stagedDiscard 3072,
    .frameReceive 16 (List.replicate 14 0) 0 0] : List Instr).all (fun c => !c.wellFormed) = true := by decide +kernel

/-- One operand past its range makes the command ill formed: one command for each check. -/
theorem test_wellFormed_refuses_04 :
    ([
    .frameReceive 0 [] 0 0, .frameReceive 0 (List.replicate 9213 0) 0 0, .frameReceive 0 (List.replicate 14 0) 0 256, .parseFrame 0 32 0,
    .parseFrame 0 0 (2 ^ 2048), .pipelineEntry 0 25, .parkLookupReturn 0 25, .reorderSkip (2 ^ 20), .groupDefine plat (2 ^ 1024),
    .ruleWrite plat (2 ^ 1024), .ruleDelete plat (2 ^ 1024), .actionWrite plat (2 ^ 512), .templateWrite plat (2 ^ 1024),
    .insert plat (2 ^ 1024), .delete plat (2 ^ 1024), .query plat (2 ^ 1024), .pfxInsert plat (2 ^ 512), .pfxDelete plat (2 ^ 512),
    .flowInsert ⟨2 ^ 17, 0⟩ 0, .flowInsert ⟨0, 2 ^ 512⟩ 0, .flowInsert ⟨0, 0⟩ (2 ^ 1024), .flowDelete ⟨2 ^ 17, 0⟩ 0,
    .flowDelete ⟨0, 2 ^ 512⟩ 0, .flowDelete ⟨0, 0⟩ (2 ^ 1024), .flowQuery ⟨2 ^ 17, 0⟩ 0, .flowQuery ⟨0, 2 ^ 512⟩ 0,
    .flowQuery ⟨0, 0⟩ (2 ^ 1024), .l2Learn 64, .l2Move 64, .moveFlagClear 64 0, .agingSweep 64, .gclSet plat (2 ^ 8704), .gclSwitch 16,
    .shaperChange plat (2 ^ 64), .policerApply plat 2, .transmitListBuild 16, .frameTransmit 16 0, .frameTransmit 0 256,
    .tlWrite ⟨2 ^ 17, 0⟩, .tlWrite ⟨0, 2 ^ 512⟩, .tlWriteImm ⟨2 ^ 17, 0⟩, .tlWriteImm ⟨0, 2 ^ 512⟩, .tlSend ⟨2 ^ 17, 0⟩,
    .tlSend ⟨0, 2 ^ 512⟩, .tlRead ⟨2 ^ 17, 0⟩, .tlRead ⟨0, 2 ^ 512⟩, .tlAtomic ⟨2 ^ 17, 0⟩, .tlAtomic ⟨0, 2 ^ 512⟩, .tlFlush ⟨2 ^ 17, 0⟩,
    .tlFlush ⟨0, 2 ^ 512⟩, .tlRecv ⟨2 ^ 17, 0⟩, .tlRecv ⟨0, 2 ^ 512⟩, .epOpen ⟨2 ^ 17, 0⟩, .epOpen ⟨0, 2 ^ 512⟩, .epClose ⟨2 ^ 17, 0⟩,
    .epClose ⟨0, 2 ^ 512⟩, .epHoldExpiry (2 ^ 24), .winOpen ⟨2 ^ 17, 0⟩, .winOpen ⟨0, 2 ^ 512⟩, .winRewrite ⟨2 ^ 17, 0⟩] : List Instr).all (fun c => !c.wellFormed) = true := by decide +kernel

/-- One operand past its range makes the command ill formed: one command for each check. -/
theorem test_wellFormed_refuses_05 :
    ([
    .winRewrite ⟨0, 2 ^ 512⟩, .winRevoke ⟨2 ^ 17, 0⟩, .winRevoke ⟨0, 2 ^ 512⟩, .revokeFence 65536, .wrapHoldExpiry 65536,
    .pdAlloc ⟨2 ^ 17, 0⟩, .pdAlloc ⟨0, 2 ^ 512⟩, .pdFree ⟨2 ^ 17, 0⟩, .pdFree ⟨0, 2 ^ 512⟩,
    .wireDataReceive ⟨16, 1, 0, 0, 0, 0, 0, 0, 0, 0, 0, 0, 0, 0, 0, [], false, false⟩,
    .wireDataReceive ⟨0, 1, 256, 0, 0, 0, 0, 0, 0, 0, 0, 0, 0, 0, 0, [], false, false⟩,
    .wireDataReceive ⟨0, 1, 0, 256, 0, 0, 0, 0, 0, 0, 0, 0, 0, 0, 0, [], false, false⟩,
    .wireDataReceive ⟨0, 1, 0, 0, 2 ^ 14, 0, 0, 0, 0, 0, 0, 0, 0, 0, 0, [], false, false⟩,
    .wireDataReceive ⟨0, 1, 0, 0, 0, 2 ^ 14, 0, 0, 0, 0, 0, 0, 0, 0, 0, [], false, false⟩,
    .wireDataReceive ⟨0, 1, 0, 0, 0, 0, 2 ^ 24, 0, 0, 0, 0, 0, 0, 0, 0, [], false, false⟩,
    .wireDataReceive ⟨0, 1, 0, 0, 0, 0, 0, 2 ^ 24, 0, 0, 0, 0, 0, 0, 0, [], false, false⟩,
    .wireDataReceive ⟨0, 1, 0, 0, 0, 0, 0, 0, 256, 0, 0, 0, 0, 0, 0, [], false, false⟩,
    .wireDataReceive ⟨0, 1, 0, 0, 0, 0, 0, 0, 0, 64, 0, 0, 0, 0, 0, [], false, false⟩,
    .wireDataReceive ⟨0, 1, 0, 0, 0, 0, 0, 0, 0, 0, 2 ^ 32, 0, 0, 0, 0, [], false, false⟩,
    .wireDataReceive ⟨0, 1, 0, 0, 0, 0, 0, 0, 0, 0, 0, 2 ^ 32, 0, 0, 0, [], false, false⟩,
    .wireDataReceive ⟨0, 1, 0, 0, 0, 0, 0, 0, 0, 0, 0, 0, 2 ^ 32, 0, 0, [], false, false⟩,
    .wireDataReceive ⟨0, 1, 0, 0, 0, 0, 0, 0, 0, 0, 0, 0, 0, 2 ^ 16, 0, [], false, false⟩,
    .wireDataReceive ⟨0, 0, 0, 0, 0, 0, 0, 0, 0, 0, 0, 0, 0, 0, 0, [], false, false⟩,
    .wireDataReceive ⟨0, 4, 0, 0, 0, 0, 0, 0, 0, 0, 0, 0, 0, 0, 0, [], false, false⟩,
    .wireReadReqReceive ⟨16, 4, 0, 0, 0, 0, 0, 0, 0, 0, 0, 0, 0, 0, 0, [], false, false⟩,
    .wireReadReqReceive ⟨0, 238, 0, 0, 0, 0, 0, 0, 0, 0, 0, 0, 0, 0, 0, [], false, false⟩,
    .wireReadRespReceive ⟨16, 5, 0, 0, 0, 0, 0, 0, 0, 0, 0, 0, 0, 0, 0, [], false, false⟩,
    .wireReadRespReceive ⟨0, 238, 0, 0, 0, 0, 0, 0, 0, 0, 0, 0, 0, 0, 0, [], false, false⟩,
    .wireAtomicReceive ⟨16, 6, 0, 0, 0, 0, 0, 0, 0, 0, 0, 0, 0, 0, 0, [], false, false⟩,
    .wireAtomicReceive ⟨0, 238, 0, 0, 0, 0, 0, 0, 0, 0, 0, 0, 0, 0, 0, [], false, false⟩,
    .wireAtomicRespReceive ⟨16, 7, 0, 0, 0, 0, 0, 0, 0, 0, 0, 0, 0, 0, 0, [], false, false⟩,
    .wireAtomicRespReceive ⟨0, 238, 0, 0, 0, 0, 0, 0, 0, 0, 0, 0, 0, 0, 0, [], false, false⟩,
    .wireFlushReceive ⟨16, 8, 0, 0, 0, 0, 0, 0, 0, 0, 0, 0, 0, 0, 0, [], false, false⟩,
    .wireFlushReceive ⟨0, 238, 0, 0, 0, 0, 0, 0, 0, 0, 0, 0, 0, 0, 0, [], false, false⟩, .flushVisibilityDone (2 ^ 14) 0,
    .flushVisibilityDone 0 (2 ^ 32), .wireFlushAckReceive ⟨16, 9, 0, 0, 0, 0, 0, 0, 0, 0, 0, 0, 0, 0, 0, [], false, false⟩,
    .wireFlushAckReceive ⟨0, 238, 0, 0, 0, 0, 0, 0, 0, 0, 0, 0, 0, 0, 0, [], false, false⟩,
    .wireAckReceive ⟨16, 10, 0, 0, 0, 0, 0, 0, 0, 0, 0, 0, 0, 0, 0, [], false, false⟩,
    .wireAckReceive ⟨0, 238, 0, 0, 0, 0, 0, 0, 0, 0, 0, 0, 0, 0, 0, [], false, false⟩,
    .wireNakReceive ⟨16, 11, 0, 0, 0, 0, 0, 0, 0, 0, 0, 0, 0, 0, 0, [], false, false⟩,
    .wireNakReceive ⟨0, 238, 0, 0, 0, 0, 0, 0, 0, 0, 0, 0, 0, 0, 0, [], false, false⟩,
    .wireAbandonReceive ⟨16, 12, 0, 0, 0, 0, 0, 0, 0, 0, 0, 0, 0, 0, 0, [], false, false⟩,
    .wireAbandonReceive ⟨0, 238, 0, 0, 0, 0, 0, 0, 0, 0, 0, 0, 0, 0, 0, [], false, false⟩, .deferredAck (2 ^ 14) 0,
    .deferredAck 0 (2 ^ 32), .orderedCompletionRelease (2 ^ 14) 0, .orderedCompletionRelease 0 (2 ^ 32), .messageTimeout (2 ^ 14) 0,
    .messageTimeout 0 (2 ^ 32), .busyBackoffExpiry (2 ^ 14) 0 0, .busyBackoffExpiry 0 (2 ^ 32) 0, .contextRecallDone (2 ^ 24) 0,
    .contextRecallDone 0 256, .nvmeSqDoorbell 512 0 0, .nvmeSqDoorbell 0 (2 ^ 16) 0, .nvmeSqDoorbell 0 0 (2 ^ 16), .nvmeCqDoorbell 512 0 0,
    .nvmeCqDoorbell 0 (2 ^ 16) 0, .nvmeCqDoorbell 0 0 (2 ^ 16)] : List Instr).all (fun c => !c.wellFormed) = true := by decide +kernel

/-- One operand past its range makes the command ill formed: one command for each check. -/
theorem test_wellFormed_refuses_06 :
    ([
    .nvmeCommandForward 512 0, .nvmeCommandForward 0 1025, .nvmeRead (2 ^ 32) false, .nvmeWrite (2 ^ 32), .compare (2 ^ 32) false,
    .writeZeroes (2 ^ 32), .datasetManagement (2 ^ 32), .verify (2 ^ 32) false, .nvmeFlush (2 ^ 32), .nvsData ⟨2 ^ 17, 0⟩,
    .nvsData ⟨0, 2 ^ 512⟩, .nvsComplete ⟨2 ^ 17, 0⟩, .nvsComplete ⟨0, 2 ^ 512⟩, .createIoSq (2 ^ 32), .deleteIoSq (2 ^ 32),
    .createIoCq (2 ^ 32), .deleteIoCq (2 ^ 32), .identify (2 ^ 32), .getLogPage (2 ^ 32), .setFeatures (2 ^ 32), .getFeatures (2 ^ 32),
    .asyncEventRequest (2 ^ 32), .nvmeAbort (2 ^ 32), .firmwareImageDownload (2 ^ 32), .firmwareCommit (2 ^ 32), .deviceSelfTest (2 ^ 32),
    .selfTestWork 512 false, .ccEnable 512 0 0 0 0, .ccEnable 0 (2 ^ 32) 0 0 0, .ccEnable 0 0 (2 ^ 32) 0 0, .ccEnable 0 0 0 (2 ^ 64) 0,
    .ccEnable 0 0 0 0 (2 ^ 64), .ccDisable 512, .ccShutdown 512 0, .ccShutdown 0 4, .shutdownComplete 512, .interruptCoalesceExpiry 512 0,
    .interruptCoalesceExpiry 0 (2 ^ 16), .ctrlCreate plat (2 ^ 512), .nsCreate plat (2 ^ 512), .fwDone plat (2 ^ 128), .cipher ⟨2 ^ 17, 0⟩,
    .cipher ⟨0, 2 ^ 512⟩, .digest ⟨2 ^ 17, 0⟩, .digest ⟨0, 2 ^ 512⟩, .pkey ⟨2 ^ 17, 0⟩, .pkey ⟨0, 2 ^ 512⟩, .compress ⟨2 ^ 17, 0⟩,
    .compress ⟨0, 2 ^ 512⟩, .decompress ⟨2 ^ 17, 0⟩, .decompress ⟨0, 2 ^ 512⟩, .crc ⟨2 ^ 17, 0⟩, .crc ⟨0, 2 ^ 512⟩, .ecEncode ⟨2 ^ 17, 0⟩,
    .ecEncode ⟨0, 2 ^ 512⟩, .ecDecode ⟨2 ^ 17, 0⟩, .ecDecode ⟨0, 2 ^ 512⟩, .scrub ⟨2 ^ 17, 0⟩, .scrub ⟨0, 2 ^ 512⟩, .keyLoad ⟨2 ^ 17, 0⟩ []] : List Instr).all (fun c => !c.wellFormed) = true := by decide +kernel

/-- One operand past its range makes the command ill formed: one command for each check. -/
theorem test_wellFormed_refuses_07 :
    ([
    .keyLoad ⟨0, 2 ^ 512⟩ [], .keyGenerate ⟨2 ^ 17, 0⟩, .keyGenerate ⟨0, 2 ^ 512⟩, .keyDestroy ⟨2 ^ 17, 0⟩, .keyDestroy ⟨0, 2 ^ 512⟩,
    .keyDestroyFence (2 ^ 24), .segCreate plat (2 ^ 512), .segGrant plat (2 ^ 128), .importAdd plat (2 ^ 256),
    .fabTemplateWrite plat (2 ^ 512), .seedWrite plat (2 ^ 128), .poolAtomic ⟨2 ^ 17, 0⟩, .poolAtomic ⟨0, 2 ^ 512⟩,
    .apertureAccess plat 0 0 none, .fabricEnable plat (2 ^ 64), .fabricDisable plat (2 ^ 64), .neighbourTimeout 16,
    .hello 16 ⟨0, 0x40, 0, 0, 0, 0, 0, 0, 0, 0, 0, 0, 0, 0, 0, [], false, false⟩,
    .hello 0 ⟨16, 0x40, 0, 0, 0, 0, 0, 0, 0, 0, 0, 0, 0, 0, 0, [], false, false⟩,
    .hello 0 ⟨0, 238, 0, 0, 0, 0, 0, 0, 0, 0, 0, 0, 0, 0, 0, [], false, false⟩,
    .idRequest ⟨16, 0x41, 0, 0, 0, 0, 0, 0, 0, 0, 0, 0, 0, 0, 0, [], false, false⟩,
    .idRequest ⟨0, 238, 0, 0, 0, 0, 0, 0, 0, 0, 0, 0, 0, 0, 0, [], false, false⟩,
    .idAssign ⟨16, 0x42, 0, 0, 0, 0, 0, 0, 0, 0, 0, 0, 0, 0, 0, [], false, false⟩,
    .idAssign ⟨0, 238, 0, 0, 0, 0, 0, 0, 0, 0, 0, 0, 0, 0, 0, [], false, false⟩,
    .idRevoke ⟨16, 0x43, 0, 0, 0, 0, 0, 0, 0, 0, 0, 0, 0, 0, 0, [], false, false⟩,
    .idRevoke ⟨0, 238, 0, 0, 0, 0, 0, 0, 0, 0, 0, 0, 0, 0, 0, [], false, false⟩,
    .memberUpdate ⟨16, 0x44, 0, 0, 0, 0, 0, 0, 0, 0, 0, 0, 0, 0, 0, [], false, false⟩,
    .memberUpdate ⟨0, 238, 0, 0, 0, 0, 0, 0, 0, 0, 0, 0, 0, 0, 0, [], false, false⟩,
    .memberAck ⟨16, 0x45, 0, 0, 0, 0, 0, 0, 0, 0, 0, 0, 0, 0, 0, [], false, false⟩,
    .memberAck ⟨0, 238, 0, 0, 0, 0, 0, 0, 0, 0, 0, 0, 0, 0, 0, [], false, false⟩,
    .probe ⟨16, 0x46, 0, 0, 0, 0, 0, 0, 0, 0, 0, 0, 0, 0, 0, [], false, false⟩,
    .probe ⟨0, 238, 0, 0, 0, 0, 0, 0, 0, 0, 0, 0, 0, 0, 0, [], false, false⟩,
    .probeAck ⟨16, 0x47, 0, 0, 0, 0, 0, 0, 0, 0, 0, 0, 0, 0, 0, [], false, false⟩,
    .probeAck ⟨0, 238, 0, 0, 0, 0, 0, 0, 0, 0, 0, 0, 0, 0, 0, [], false, false⟩,
    .linkState 16 ⟨0, 0x48, 0, 0, 0, 0, 0, 0, 0, 0, 0, 0, 0, 0, 0, [], false, false⟩,
    .linkState 0 ⟨16, 0x48, 0, 0, 0, 0, 0, 0, 0, 0, 0, 0, 0, 0, 0, [], false, false⟩,
    .linkState 0 ⟨0, 238, 0, 0, 0, 0, 0, 0, 0, 0, 0, 0, 0, 0, 0, [], false, false⟩,
    .regAccess ⟨16, 0x49, 0, 0, 0, 0, 0, 0, 0, 0, 0, 0, 0, 0, 0, [], false, false⟩,
    .regAccess ⟨0, 238, 0, 0, 0, 0, 0, 0, 0, 0, 0, 0, 0, 0, 0, [], false, false⟩,
    .regResp ⟨16, 0x4A, 0, 0, 0, 0, 0, 0, 0, 0, 0, 0, 0, 0, 0, [], false, false⟩,
    .regResp ⟨0, 238, 0, 0, 0, 0, 0, 0, 0, 0, 0, 0, 0, 0, 0, [], false, false⟩, .pathSilent (2 ^ 14) 0, .pathSilent 0 64,
    .pathIdleProbe (2 ^ 14) 0, .pathIdleProbe 0 64, .probeRetryExpiry (2 ^ 14) 0, .probeRetryExpiry 0 64, .pathRevive (2 ^ 14) 0,
    .pathRevive 0 64, .ethLinkChange 16 false, .regulationRun 8 [], .regulationApply 8, .envelopeApply 8, .adviceAccept plat 8 0,
    .adviceAccept plat 0 (2 ^ 48), .decisionJournalFlush 8, .mark plat (2 ^ 512), .journalAck plat (2 ^ 64), .readJournal 256 0 0 [],
    .readJournal 0 (2 ^ 64) 0 []] : List Instr).all (fun c => !c.wellFormed) = true := by decide +kernel

/-- One operand past its range makes the command ill formed: one command for each check. -/
theorem test_wellFormed_refuses_08 :
    ([
    .readJournal 0 0 256 [], .readPrevJournal 256 0 0, .readPrevJournal 0 (2 ^ 64) 0, .readPrevJournal 0 0 256, .readPatina 256 0 0,
    .readPatina 0 (2 ^ 64) 0, .readPatina 0 0 256, .readPinned 256 0 0, .readPinned 0 (2 ^ 16) 0, .readPinned 0 0 256, .clearPinned 256,
    .pwrRead 256 0, .pwrRead 0 (2 ^ 32), .svcRead 256 0, .svcRead 0 (2 ^ 32), .unitDrained 7 0, .unitDrained 0 128, .unitDrainTimeout 7 0,
    .unitDrainTimeout 0 128, .testDone 7 0 false, .testDone 0 128 false, .probationStep 7 0, .probationStep 0 128, .probationEnd 7 0,
    .probationEnd 0 128, .repairDone 128 false, .spareSwitch 4, .unitFailure 7 0 0, .unitFailure 0 128 0, .unitFailure 0 0 (2 ^ 16),
    .correctedError 128, .recoveryEntry 0 [], .recoveryEntry 7 [], .functionReady 4, .armatureReloadDone 7 0, .armatureReloadDone 0 128,
    .acceleratorWorkDone ⟨2 ^ 17, 0⟩ 0 0 [], .acceleratorWorkDone ⟨0, 2 ^ 512⟩ 0 0 [], .acceleratorWorkDone ⟨0, 0⟩ 18 0 [],
    .acceleratorWorkDone ⟨0, 0⟩ 0 101 [], .readClears plat (2 ^ 25)] : List Instr).all (fun c => !c.wellFormed) = true := by decide +kernel

/-! ### Single steps -/

/-- What a step with one command waiting leaves, of which `p` holds. -/
def after (s : State) (c : Instr) (p : State → Bool) : Bool :=
  match step (s.updPending fun _ => [c]) with
  | .next t => p t
  | _ => false

/-- R32: a rate beyond 500 000 000 is clamped and RATE_CLAMP is set. -/
theorem test_rate_clamped : after ((inState 5).set Reg.HIF_MGR_VACANT 0) (.phcRateWrite mgr 600000000)
    (fun t => t.get Reg.STK_PHC_RATE_RATE == 500000000 && t.flag Reg.STK_STATUS_RATE_CLAMP) = true := by decide +kernel

/-- R31: the seconds and the nanoseconds of one instant: 7 s and 5 ns. -/
theorem test_phc_read_latches : after ((inState 4).updStk fun u => { u with phcRunning := true, phcNs := 7000000000 }) (.phcSecRead mgr 5 0)
    (fun t => t.get Reg.STK_PHC_SEC_SEC == 7 && t.get Reg.STK_PHC_NS_NS == 5) = true := by decide +kernel

/-- R52: an estimate of 12 ns is ALIGNED under the reset LIMIT of 12, and 13 ns is DRIFT. -/
theorem test_alignment_limit : (after (inState 5) (.alignEstimateWrite plat 12) (fun t => t.get Reg.STK_STATUS_ALIGN == 1) &&
    after (inState 5) (.alignEstimateWrite plat 13) (fun t => t.get Reg.STK_STATUS_ALIGN == 2)) = true := by decide +kernel

/-- R45: a step in SERVICE with no realign armed is refused with RESULT 2. -/
theorem test_step_refused_in_service : after (inState 4) (.phcStepWrite plat 1000)
    (fun t => t.get Reg.STK_STEP_STATUS_RESULT == 2 && t.stk.step.isNone) = true := by decide +kernel

/-- R793: CAP_OVER alone asserts ALERT_N. -/
theorem test_cap_over_alerts : after (inState 4) .capOverDetected (fun t => t.alertAsserted) = true := by decide +kernel

/-- R20: a read of an offset that is not a multiple of 8 answers all ones. -/
theorem test_misaligned_read : after (inState 4) (.invalidAccess ⟨plat, 0x100021, 8⟩ false)
    (fun t => t.out == (reply plat 0xFFFFFFFFFFFFFFFF (inState 4)).out) = true := by decide +kernel

/-- The block idles with no command waiting. -/
theorem test_idle : (match step (inState 4) with | .next t => decide (t = inState 4) | _ => false) = true := by decide +kernel

end Sys2Proof.Tests
end

section
/-!
SUPPORT. Changes: what a function of the model may set, as a set of parts of the state and places of register fields, and the state
without them. Two states that agree there differ at most in what the set names.
-/
namespace Sys2Proof.Machine

/-- What a command may change: a part of the state beside the registers, one register field (by its place: offset * 128 + lowest bit),
or register fields that its operands choose. -/
inductive Touch
  | part (p : Part)
  | place (c : Nat)
  | regs
  deriving DecidableEq, Repr

/-- The place of a field in the register map (`Field.key` without the index). -/
def Field.touch (f : Field) : Touch := .place (f.off * 128 + f.lo)

/-- A state without what a list of changes names: those parts as after reset, those fields unlisted. Two states that agree here differ at
most in what is listed. -/
def State.but (E : Touch → Bool) (s : State) : State where
  regs := if E .regs then [] else s.regs.filter fun p => !E (.place (p.1 / 2 ^ 32))
  mem := if E (.part .mem) then State.reset.mem else s.mem
  free := if E (.part .free) then State.reset.free else s.free
  stk := if E (.part .stk) then State.reset.stk else s.stk
  arm := if E (.part .arm) then State.reset.arm else s.arm
  hif := if E (.part .hif) then State.reset.hif else s.hif
  nch := if E (.part .nch) then State.reset.nch else s.nch
  rng := if E (.part .rng) then State.reset.rng else s.rng
  dma := if E (.part .dma) then State.reset.dma else s.dma
  til := if E (.part .til) then State.reset.til else s.til
  prs := if E (.part .prs) then State.reset.prs else s.prs
  tbl := if E (.part .tbl) then State.reset.tbl else s.tbl
  sch := if E (.part .sch) then State.reset.sch else s.sch
  nvs := if E (.part .nvs) then State.reset.nvs else s.nvs
  acc := if E (.part .acc) then State.reset.acc else s.acc
  tlt := if E (.part .tlt) then State.reset.tlt else s.tlt
  fab := if E (.part .fab) then State.reset.fab else s.fab
  rgl := if E (.part .rgl) then State.reset.rgl else s.rgl
  svc := if E (.part .svc) then State.reset.svc else s.svc
  pwr := if E (.part .pwr) then State.reset.pwr else s.pwr
  jnl := if E (.part .jnl) then State.reset.jnl else s.jnl
  pat := if E (.part .pat) then State.reset.pat else s.pat
  cmds := if E (.part .cmds) then State.reset.cmds else s.cmds
  deferred := if E (.part .deferred) then State.reset.deferred else s.deferred
  events := if E (.part .events) then State.reset.events else s.events
  out := if E (.part .out) then State.reset.out else s.out
  pending := if E (.part .pending) then State.reset.pending else s.pending

variable {E : Touch → Bool}

@[simp] theorem State.updMem_but (h : E (.part .mem)) (s : State) f : (s.updMem f).but E = s.but E := by
  simp only [State.but, State.updMem, h, if_true]
@[simp] theorem State.updFree_but (h : E (.part .free)) (s : State) f : (s.updFree f).but E = s.but E := by
  simp only [State.but, State.updFree, h, if_true]
@[simp] theorem State.updStk_but (h : E (.part .stk)) (s : State) f : (s.updStk f).but E = s.but E := by
  simp only [State.but, State.updStk, h, if_true]
@[simp] theorem State.updArm_but (h : E (.part .arm)) (s : State) f : (s.updArm f).but E = s.but E := by
  simp only [State.but, State.updArm, h, if_true]
@[simp] theorem State.updHif_but (h : E (.part .hif)) (s : State) f : (s.updHif f).but E = s.but E := by
  simp only [State.but, State.updHif, h, if_true]
@[simp] theorem State.updNch_but (h : E (.part .nch)) (s : State) f : (s.updNch f).but E = s.but E := by
  simp only [State.but, State.updNch, h, if_true]
@[simp] theorem State.updRng_but (h : E (.part .rng)) (s : State) f : (s.updRng f).but E = s.but E := by
  simp only [State.but, State.updRng, h, if_true]
@[simp] theorem State.updDma_but (h : E (.part .dma)) (s : State) f : (s.updDma f).but E = s.but E := by
  simp only [State.but, State.updDma, h, if_true]
@[simp] theorem State.updTil_but (h : E (.part .til)) (s : State) f : (s.updTil f).but E = s.but E := by
  simp only [State.but, State.updTil, h, if_true]
@[simp] theorem State.updPrs_but (h : E (.part .prs)) (s : State) f : (s.updPrs f).but E = s.but E := by
  simp only [State.but, State.updPrs, h, if_true]
@[simp] theorem State.updTbl_but (h : E (.part .tbl)) (s : State) f : (s.updTbl f).but E = s.but E := by
  simp only [State.but, State.updTbl, h, if_true]
@[simp] theorem State.updSch_but (h : E (.part .sch)) (s : State) f : (s.updSch f).but E = s.but E := by
  simp only [State.but, State.updSch, h, if_true]
@[simp] theorem State.updNvs_but (h : E (.part .nvs)) (s : State) f : (s.updNvs f).but E = s.but E := by
  simp only [State.but, State.updNvs, h, if_true]
@[simp] theorem State.updAcc_but (h : E (.part .acc)) (s : State) f : (s.updAcc f).but E = s.but E := by
  simp only [State.but, State.updAcc, h, if_true]
@[simp] theorem State.updTlt_but (h : E (.part .tlt)) (s : State) f : (s.updTlt f).but E = s.but E := by
  simp only [State.but, State.updTlt, h, if_true]
@[simp] theorem State.updFab_but (h : E (.part .fab)) (s : State) f : (s.updFab f).but E = s.but E := by
  simp only [State.but, State.updFab, h, if_true]
@[simp] theorem State.updRgl_but (h : E (.part .rgl)) (s : State) f : (s.updRgl f).but E = s.but E := by
  simp only [State.but, State.updRgl, h, if_true]
@[simp] theorem State.updSvc_but (h : E (.part .svc)) (s : State) f : (s.updSvc f).but E = s.but E := by
  simp only [State.but, State.updSvc, h, if_true]
@[simp] theorem State.updPwr_but (h : E (.part .pwr)) (s : State) f : (s.updPwr f).but E = s.but E := by
  simp only [State.but, State.updPwr, h, if_true]
@[simp] theorem State.updJnl_but (h : E (.part .jnl)) (s : State) f : (s.updJnl f).but E = s.but E := by
  simp only [State.but, State.updJnl, h, if_true]
@[simp] theorem State.updPat_but (h : E (.part .pat)) (s : State) f : (s.updPat f).but E = s.but E := by
  simp only [State.but, State.updPat, h, if_true]
@[simp] theorem State.updCmds_but (h : E (.part .cmds)) (s : State) f : (s.updCmds f).but E = s.but E := by
  simp only [State.but, State.updCmds, h, if_true]
@[simp] theorem State.updDeferred_but (h : E (.part .deferred)) (s : State) f : (s.updDeferred f).but E = s.but E := by
  simp only [State.but, State.updDeferred, h, if_true]
@[simp] theorem State.updEvents_but (h : E (.part .events)) (s : State) f : (s.updEvents f).but E = s.but E := by
  simp only [State.but, State.updEvents, h, if_true]
@[simp] theorem State.updOut_but (h : E (.part .out)) (s : State) f : (s.updOut f).but E = s.but E := by
  simp only [State.but, State.updOut, h, if_true]
@[simp] theorem State.updPending_but (h : E (.part .pending)) (s : State) f : (s.updPending f).but E = s.but E := by
  simp only [State.but, State.updPending, h, if_true]

@[simp] theorem State.but_ite (c : Prop) {d : Decidable c} (s t : State) : (if c then s else t).but E = if c then s.but E else t.but E :=
  apply_ite (State.but E) c s t

@[simp] theorem snd_ite {α β : Type} (c : Prop) {d : Decidable c} (p q : α × β) : (if c then p else q).2 = if c then p.2 else q.2 :=
  apply_ite Prod.snd c p q

@[simp] theorem foldl_but {α : Type} {f : State → α → State} (h : ∀ t a, (f t a).but E = t.but E) (l : List α) (s : State) :
    (l.foldl f s).but E = s.but E := by
  induction l generalizing s with
  | nil => rfl
  | cons a l ih => rw [List.foldl_cons, ih, h]

theorem foldl_snd_but {α β : Type} {f : β × State → α → β × State} (h : ∀ a x, (f a x).2.but E = a.2.but E) (l : List α)
    (a : β × State) : (l.foldl f a).2.but E = a.2.but E := by
  induction l generalizing a with
  | nil => rfl
  | cons x l ih => rw [List.foldl_cons, ih, h]

theorem Field.key_div (f : Field) (i : Nat) : f.key i / 2 ^ 32 = f.off * 128 + f.lo := by
  unfold Field.key; omega

theorem Map.filter_put {α : Type} (m : Map α) (k : Nat) (v : α) (q : Nat → Bool) (h : q k = false) :
    (Map.put m k v).filter (fun p => q p.1) = m.filter fun p => q p.1 := by
  induction m with
  | nil => simp [Map.put, h]
  | cons a t ih =>
    obtain ⟨k', v'⟩ := a
    unfold Map.put
    split
    · simp [h]
    · split
      · next e => subst e; simp [h]
      · simp only [List.filter_cons, ih]

theorem Map.filter_del {α : Type} (m : Map α) (k : Nat) (q : Nat → Bool) (h : q k = false) :
    (Map.del m k).filter (fun p => q p.1) = m.filter fun p => q p.1 := by
  rw [Map.del, List.filter_filter]
  refine List.filter_congr fun p _ => ?_
  by_cases e : p.1 = k
  · rw [e, h, Bool.false_and]
  · rw [bne_iff_ne.2 e, Bool.and_true]

@[simp] theorem State.setI_but {f : Field} (h : E f.touch) (s : State) (i v : Nat) : (s.setI f i v).but E = s.but E := by
  have q : (!E (.place (f.key i / 2 ^ 32))) = false := by rw [Field.key_div]; simpa [Field.touch] using h
  unfold State.setI
  split <;> simp only [State.but, State.updRegs, Map.filter_put _ _ _ (fun k => !E (.place (k / 2 ^ 32))) q,
    Map.filter_del _ _ (fun k => !E (.place (k / 2 ^ 32))) q]

/-- A field that the operands choose. -/
theorem State.setI_but_any (h : E .regs) (s : State) (f : Field) (i v : Nat) : (s.setI f i v).but E = s.but E := by
  unfold State.setI
  split <;> simp only [State.but, State.updRegs, h, if_true]

@[simp] theorem State.set_but {f : Field} (h : E f.touch) (s : State) (v : Nat) : (s.set f v).but E = s.but E := State.setI_but h s 0 v

@[simp] theorem State.setsI_but {l : List (Field × Nat)} (h : ∀ p ∈ l, E p.1.touch) (s : State) (i : Nat) : (s.setsI i l).but E = s.but E := by
  unfold State.setsI
  induction l generalizing s with
  | nil => rfl
  | cons p l ih => rw [List.foldl_cons, ih fun q hq => h q (List.mem_cons_of_mem p hq), State.setI_but (h p List.mem_cons_self)]

@[simp] theorem State.sets_but {l : List (Field × Nat)} (h : ∀ p ∈ l, E p.1.touch) (s : State) : (s.sets l).but E = s.but E :=
  State.setsI_but h s 0

@[simp] theorem State.emit_but (h : E (.part .out)) (s : State) (o : Out) : (s.emit o).but E = s.but E := State.updOut_but h s _


/-- What a pair's second part is, but for the changes listed, the pair's name in a match is too. -/
theorem but_of_eq {α : Type} {p : α × State} {a : α} {t : State} (e : p = (a, t)) : t.but E = p.2.but E := by rw [e]

theorem getD_but {o : Option State} {d s : State} (ho : ∀ {r}, o = some r → r.but E = s.but E) (hd : d.but E = s.but E) :
    (o.getD d).but E = s.but E := by
  cases o with
  | none => exact hd
  | some r => exact ho rfl

theorem of_ite_some {α : Type} {c : Prop} {d : Decidable c} {o q : Option α} {r : α} {P : Prop} (h1 : o = some r → P) (h2 : q = some r → P)
    (e : (if c then o else q) = some r) : P := by
  split at e
  · exact h1 e
  · exact h2 e

/-- What a running command leaves. -/
def CmdRes.but (E : Touch → Bool) (r : CmdRes) : State :=
  match r with
  | .done _ _ s => s.but E
  | .running s => s.but E

@[simp] theorem CmdRes.but_done (st obj : Nat) (s : State) : (CmdRes.done st obj s).but E = s.but E := rfl
@[simp] theorem CmdRes.but_running (s : State) : (CmdRes.running s).but E = s.but E := rfl
@[simp] theorem CmdRes.but_ite (c : Prop) {d : Decidable c} (r q : CmdRes) : (if c then r else q).but E = if c then r.but E else q.but E :=
  apply_ite (CmdRes.but E) c r q

/-- What a command answers. -/
def Outcome.but (E : Touch → Bool) (o : Outcome) : Option State :=
  match o with
  | .next s => some (s.but E)
  | _ => none

@[simp] theorem Outcome.but_next (s : State) : Outcome.but E (.next s) = some (s.but E) := rfl

theorem nextOf_but {o : Outcome} {s : State} (h : Outcome.but E o = some (s.but E)) : (nextOf o s).but E = s.but E := by
  cases o with
  | next t => exact Option.some.inj h
  | _ => cases h

end Sys2Proof.Machine
end

section
/-!
SUPPORT. For each function of the model that answers a state, the changes it makes (`f.within E`: all of them are in `E`) and the law that it
makes no others (`f_but`). A function's changes are its own and those of the functions it calls, in the order of the model's files.
-/
namespace Sys2Proof.Machine

variable {E : Touch → Bool}

/-! #### Ops -/

def memWrite.within (E : Touch → Bool) : Bool := E (.part .mem)
@[simp] theorem memWrite_but (h : memWrite.within E) (s : State) (a : ℕ) (b : Byte) : (memWrite s a b).but E = s.but E := by
  simp only [memWrite.within] at h
  simp [memWrite, h]

def memWriteList.within (E : Touch → Bool) : Bool := memWrite.within E
@[simp] theorem memWriteList_but (h : memWriteList.within E) (s : State) (a : ℕ) (l : List Byte) :
    (memWriteList s a l).but E = s.but E := by
  unfold memWriteList.within at h
  induction l generalizing s a with
  | nil => rfl
  | cons b l ih => rw [memWriteList, ih, memWrite_but h]

def memZero.within (E : Touch → Bool) : Bool := E (.part .mem)
@[simp] theorem memZero_but (h : memZero.within E) (s : State) (a : ℕ) (n : ℕ) : (memZero s a n).but E = s.but E := by
  simp only [memZero.within] at h
  simp [memZero, h]

def State.draw.within (E : Touch → Bool) : Bool := E (.part .free)
@[simp] theorem State.draw_but (h : State.draw.within E) (s : State) : (State.draw s).2.but E = s.but E := by
  simp only [State.draw.within] at h
  simp [State.draw, h]

def raiseTo.within (E : Touch → Bool) : Bool := E (.part .events)
@[simp] theorem raiseTo_but (h : raiseTo.within E) (tgt : EvTarget) (id : ℕ) (obj : ℕ) (data : ℕ) (s : State) :
    (raiseTo tgt id obj data s).but E = s.but E := by
  simp only [raiseTo.within] at h
  simp [raiseTo, h]

def raise.within (E : Touch → Bool) : Bool := raiseTo.within E
@[simp] theorem raise_but (h : raise.within E) (id : ℕ) (obj : ℕ) (data : ℕ) (s : State) : (raise id obj data s).but E = s.but E := by
  simp only [raise.within] at h
  simp [raise, h]

def patinaNotice.within (E : Touch → Bool) : Bool := raise.within E && E Reg.PAT_STATUS_NEW_ENTRY.touch
@[simp] theorem patinaNotice_but (h : patinaNotice.within E) (code : ℕ) (sev : ℕ) (s : State) :
    (patinaNotice code sev s).but E = s.but E := by
  simp only [patinaNotice.within, Bool.and_eq_true] at h
  simp [patinaNotice, h]

def patinaMerge.within (E : Touch → Bool) : Bool := E (.part .pat)
@[simp] theorem patinaMerge_but (h : patinaMerge.within E) (h' : PEntry) (t : List PEntry) (s : State) :
    (patinaMerge h' t s).but E = s.but E := by
  simp only [patinaMerge.within] at h
  simp [patinaMerge, h]

def patinaPush.within (E : Touch → Bool) : Bool := E Reg.PAT_OLDEST_SEQ.touch && E Reg.PAT_HEAD_SEQ.touch && E (.part .pat)
@[simp] theorem patinaPush_but (h : patinaPush.within E) (e : PEntry) (s : State) : (patinaPush e s).but E = s.but E := by
  simp only [patinaPush.within, Bool.and_eq_true] at h
  simp [patinaPush, h]

def patinaPin.within (E : Touch → Bool) : Bool := E (.part .pat) && E Reg.PAT_STATUS_PINNED.touch && E Reg.PAT_PIN_INFO_USED.touch &&
  raise.within E && E Reg.PAT_STATUS_PINNED_FULL.touch
@[simp] theorem patinaPin_but (h : patinaPin.within E) (e : PEntry) (s : State) : (patinaPin e s).but E = s.but E := by
  simp only [patinaPin.within, Bool.and_eq_true] at h
  simp [patinaPin, h]

def patinaOverflow.within (E : Touch → Bool) : Bool := E Reg.PAT_PIN_INFO_OVERFLOW.touch
@[simp] theorem patinaOverflow_but (h : patinaOverflow.within E) (s : State) : (patinaOverflow s).but E = s.but E := by
  simp only [patinaOverflow.within] at h
  simp [patinaOverflow, h]

def patinaNew.within (E : Touch → Bool) : Bool := patinaPush.within E && patinaPin.within E && patinaOverflow.within E
@[simp] theorem patinaNew_but (h : patinaNew.within E) (code : ℕ) (sev : ℕ) (detail : ℕ) (s : State) :
    (patinaNew code sev detail s).but E = s.but E := by
  simp only [patinaNew.within, Bool.and_eq_true] at h
  simp [patinaNew, h]

def patina.within (E : Touch → Bool) : Bool := patinaNotice.within E && patinaMerge.within E && patinaNew.within E
@[simp] theorem patina_but (h : patina.within E) (code : ℕ) (sev : ℕ) (detail : ℕ) (s : State) :
    (patina code sev detail s).but E = s.but E := by
  simp only [patina.within, Bool.and_eq_true] at h
  unfold patina
  split <;> simp [h]

def countAt.within (f : Field) (E : Touch → Bool) : Bool := E f.touch && E f.sat.touch && E Reg.PAT_STATUS_CNT_SAT.touch &&
  E Reg.PAT_SAT_LAST_STROKE.touch && E Reg.PAT_SAT_LAST_NICHE_PAGE.touch && E Reg.PAT_SAT_LAST_OFFSET.touch && raise.within E
@[simp] theorem countAt_but (f : Field) (h : countAt.within f E) (i : ℕ) (off : ℕ) (n : ℕ) (s : State) :
    (countAt f i off n s).but E = s.but E := by
  simp only [countAt.within, Bool.and_eq_true] at h
  simp [countAt, h]

def countI.within (f : Field) (E : Touch → Bool) : Bool := countAt.within f E
@[simp] theorem countI_but (f : Field) (h : countI.within f E) (i : ℕ) (s : State) : (countI f i s).but E = s.but E := by
  simp only [countI.within] at h
  simp [countI, h]

def count.within (f : Field) (E : Touch → Bool) : Bool := countI.within f E
@[simp] theorem count_but (f : Field) (h : count.within f E) (s : State) : (count f s).but E = s.but E := by
  simp only [count.within] at h
  simp [count, h]

def addI.within (f : Field) (E : Touch → Bool) : Bool := E f.touch
@[simp] theorem addI_but (f : Field) (h : addI.within f E) (i : ℕ) (n : ℕ) (s : State) : (addI f i n s).but E = s.but E := by
  simp only [addI.within] at h
  simp [addI, h]

def State.defer.within (E : Touch → Bool) : Bool := E (.part .deferred)
@[simp] theorem State.defer_but (h : State.defer.within E) (s : State) (c : Change) : (State.defer s c).but E = s.but E := by
  simp only [State.defer.within] at h
  simp [State.defer, h]

def jPut.within (E : Touch → Bool) : Bool := E (.part .jnl) && E Reg.JNL_OLDEST_SEQ.touch && E Reg.JNL_HEAD_SEQ.touch
@[simp] theorem jPut_but (h : jPut.within E) (e : JEntry) (s : State) : (jPut e s).but E = s.but E := by
  simp only [jPut.within, Bool.and_eq_true] at h
  simp [jPut, h]

def jCheckpoint.within (E : Touch → Bool) : Bool := E (.part .jnl) && jPut.within E && E Reg.JNL_CKPT_SEQ.touch
@[simp] theorem jCheckpoint_but (h : jCheckpoint.within E) (s : State) : (jCheckpoint s).but E = s.but E := by
  simp only [jCheckpoint.within, Bool.and_eq_true] at h
  simp [jCheckpoint, h]

def jPace.within (E : Touch → Bool) : Bool := E Reg.JNL_STATUS_LAG.touch && raise.within E && E (.part .jnl) &&
  E Reg.JNL_STATUS_OVERRUN.touch
@[simp] theorem jPace_but (h : jPace.within E) (s : State) : (jPace s).but E = s.but E := by
  simp only [jPace.within, Bool.and_eq_true] at h
  simp [jPace, h]

def jEntry.within (E : Touch → Bool) : Bool := jCheckpoint.within E && jPace.within E && jPut.within E
@[simp] theorem jEntry_but (h : jEntry.within E) (e : JEntry) (s : State) : (jEntry e s).but E = s.but E := by
  simp only [jEntry.within, Bool.and_eq_true] at h
  simp [jEntry, h]

def jRecord.within (E : Touch → Bool) : Bool := jEntry.within E
@[simp] theorem jRecord_but (h : jRecord.within E) (e : JEntry) (bodies : List ℕ) (s : State) : (jRecord e bodies s).but E = s.but E := by
  unfold jRecord.within at h
  induction bodies generalizing s with
  | nil => rw [jRecord]
  | cons b l ih => cases l with
    | nil => rw [jRecord, jEntry_but h]
    | cons c l => rw [jRecord, ih, jEntry_but h]; simp

def jDevice.within (E : Touch → Bool) : Bool := jRecord.within E
@[simp] theorem jDevice_but (h : jDevice.within E) (kind : ℕ) (niche : ℕ) (status : ℕ) (bodies : List ℕ) (s : State) :
    (jDevice kind niche status bodies s).but E = s.but E := by
  simp only [jDevice.within] at h
  simp [jDevice, h]

def jCommand.within (E : Touch → Bool) : Bool := jRecord.within E
@[simp] theorem jCommand_but (h : jCommand.within E) (blk : ℕ) (p : CmdPend) (status : ℕ) (s : State) :
    (jCommand blk p status s).but E = s.but E := by
  simp only [jCommand.within] at h
  unfold jCommand
  dsimp only
  split <;> simp [h]

def jRegWrite.within (E : Touch → Bool) : Bool := jEntry.within E
@[simp] theorem jRegWrite_but (h : jRegWrite.within E) (who : Issuer) (niche : ℕ) (off : ℕ) (val : ℕ) (before : ℕ) (status : ℕ)
    (s : State) : (jRegWrite who niche off val before status s).but E = s.but E := by
  simp only [jRegWrite.within] at h
  simp [jRegWrite, h]

def enterService.within (E : Touch → Bool) : Bool := E (.part .tlt) && E (.part .rgl)
@[simp] theorem enterService_but (h : enterService.within E) (s : State) : (enterService s).but E = s.but E := by
  simp only [enterService.within, Bool.and_eq_true] at h
  simp [enterService, h]

def enterState.within (E : Touch → Bool) : Bool := E Reg.PRS_VER_VERSIONED.touch && E Reg.IDN_STATE_STATE.touch && E (.part .prs) &&
  E Reg.RGL_CTL_FROZEN.touch && enterService.within E && jDevice.within E
@[simp] theorem enterState_but (h : enterState.within E) (new : ℕ) (cause : ℕ) (s : State) : (enterState new cause s).but E = s.but E := by
  simp only [enterState.within, Bool.and_eq_true] at h
  simp [enterState, h]

def boundViolation.within (E : Touch → Bool) : Bool := E Reg.ARM_BOUND_LAST_OFFSET.touch && E Reg.ARM_BOUND_LAST_STROKE.touch &&
  patina.within E && raise.within E && E Reg.ARM_STATUS_BOUND_VIOL.touch
@[simp] theorem boundViolation_but (h : boundViolation.within E) (off : ℕ) (s : State) : (boundViolation off s).but E = s.but E := by
  simp only [boundViolation.within, Bool.and_eq_true] at h
  simp [boundViolation, h]

def accessDropped.within (E : Touch → Bool) : Bool := patina.within E
@[simp] theorem accessDropped_but (h : accessDropped.within E) (ap : ℕ) (off : ℕ) (size : ℕ) (s : State) :
    (accessDropped ap off size s).but E = s.but E := by
  simp only [accessDropped.within] at h
  simp [accessDropped, h]

def cmdReport.within (b : CmdBlk) (E : Touch → Bool) : Bool := E b.status.touch && E b.op.touch && E b.stroke.touch && E b.obj.touch &&
  raise.within E
@[simp] theorem cmdReport_but (b : CmdBlk) (h : cmdReport.within b E) (op : ℕ) (status : ℕ) (obj : ℕ) (s : State) :
    (cmdReport b op status obj s).but E = s.but E := by
  simp only [cmdReport.within, Bool.and_eq_true] at h
  simp [cmdReport, h]

def cmdFinish.within (b : CmdBlk) (E : Touch → Bool) : Bool := cmdReport.within b E && jCommand.within E
@[simp] theorem cmdFinish_but (b : CmdBlk) (h : cmdFinish.within b E) (p : CmdPend) (status : ℕ) (s : State) :
    (cmdFinish b p status s).but E = s.but E := by
  simp only [cmdFinish.within, Bool.and_eq_true] at h
  simp [cmdFinish, h]

def cmdEnd.within (b : CmdBlk) (E : Touch → Bool) : Bool := cmdFinish.within b E && E b.busy.touch && E (.part .cmds)
@[simp] theorem cmdEnd_but (b : CmdBlk) (h : cmdEnd.within b E) (status : ℕ) (s : State) : (cmdEnd b status s).but E = s.but E := by
  simp only [cmdEnd.within, Bool.and_eq_true] at h
  unfold cmdEnd
  split <;> simp [h]

def cmdStart.within (b : CmdBlk) (E : Touch → Bool) : Bool := cmdReport.within b E && cmdFinish.within b E && E b.busy.touch &&
  E (.part .cmds)
@[simp] theorem cmdStart_but (b : CmdBlk) (h : cmdStart.within b E) (p : CmdPend) (allowed : Bool) (act : State → CmdRes) (s : State)
    (hact : ∀ t, (act t).but E = t.but E) : (cmdStart b p allowed act s).but E = s.but E := by
  simp only [cmdStart.within, Bool.and_eq_true] at h
  have ha := hact s
  unfold cmdStart
  split
  · simp [h]
  split
  · simp [h]
  split
  · simp [h]
  split
  · next e => rw [e, CmdRes.but_done] at ha; simp [h, ha]
  · next e => rw [e, CmdRes.but_running] at ha; simp [h, ha]

/-! #### Operands -/

def regGate.within (E : Touch → Bool) : Bool := accessDropped.within E
@[simp] theorem regGate_but (h : regGate.within E) (who : Issuer) (off : ℕ) (s : State) (f : State → State)
    (hf : ∀ t, (f t).but E = t.but E) : (regGate who off s f).but E = s.but E := by
  simp only [regGate.within] at h
  simp [regGate, h, hf]

def setGate.within (E : Touch → Bool) : Bool := regGate.within E
@[simp] theorem setGate_but (h : setGate.within E) (who : Issuer) (off : ℕ) (s : State) (f : State → State)
    (hf : ∀ t, (f t).but E = t.but E) : (setGate who off s f).but E = s.but E := by
  simp only [setGate.within] at h
  simp [setGate, h, hf]

def readGate.within (E : Touch → Bool) : Bool := E (.part .out) && accessDropped.within E
@[simp] theorem readGate_but (h : readGate.within E) (who : Issuer) (off : ℕ) (s : State) (f : State → State)
    (hf : ∀ t, (f t).but E = t.but E) : (readGate who off s f).but E = s.but E := by
  simp only [readGate.within, Bool.and_eq_true] at h
  simp [readGate, h, hf]

def reply.within (E : Touch → Bool) : Bool := E (.part .out)
@[simp] theorem reply_but (h : reply.within E) (who : Issuer) (v : ℕ) (s : State) : (reply who v s).but E = s.but E := by
  simp only [reply.within] at h
  unfold reply
  split <;> simp [h]

def putSecField.within (E : Touch → Bool) : Bool := E .regs
@[simp] theorem putSecField_but (h : putSecField.within E) (s : State) (e : SecField) : (putSecField s e).but E = s.but E := by
  simp only [putSecField.within] at h
  unfold putSecField
  split
  · exact State.setI_but_any h ..
  · rfl

def putSecFields.within (E : Touch → Bool) : Bool := putSecField.within E
@[simp] theorem putSecFields_but (h : putSecFields.within E) (l : List SecField) (s : State) : (putSecFields l s).but E = s.but E := by
  simp only [putSecFields.within] at h
  simp [putSecFields, h]

def readReg.within (E : Touch → Bool) : Bool := E (.part .jnl) && E .regs
@[simp] theorem readReg_but (h : readReg.within E) (who : Issuer) (d : RegDef) (i : ℕ) (s : State) :
    (readReg who d i s).2.but E = s.but E := by
  simp only [readReg.within, Bool.and_eq_true] at h
  unfold readReg
  dsimp only
  split
  · simp [h]
  split
  · rfl
  refine foldl_but (fun t f => ?_) _ _
  split
  · exact State.setI_but_any h.2 ..
  · rfl

/-! #### Flags -/

def partitionCount.within (E : Touch → Bool) : Bool := E Reg.ARM_PART_ACTIVE.touch && E Reg.ARM_PART_UNITS.touch
@[simp] theorem partitionCount_but (h : partitionCount.within E) (p : ℕ) (s : State) : (partitionCount p s).but E = s.but E := by
  simp only [partitionCount.within, Bool.and_eq_true] at h
  simp [partitionCount, h]

def availUpdate.within (E : Touch → Bool) : Bool := E Reg.SVC_AVAIL_STANDBY_COUNT.touch && E Reg.SVC_AVAIL_ALL_MET.touch &&
  E Reg.SVC_AVAIL_SPARES.touch && E Reg.SVC_AVAIL_PORTS.touch && E Reg.SVC_AVAIL_STANDBY_MGR.touch && E Reg.SVC_AVAIL_HOSTS.touch &&
  E Reg.SVC_AVAIL_STANDBY_TILES.touch && E Reg.SVC_STATUS_AVAIL_LOST.touch && raise.within E
@[simp] theorem availUpdate_but (h : availUpdate.within E) (s : State) : (availUpdate s).but E = s.but E := by
  simp only [availUpdate.within, Bool.and_eq_true] at h
  simp [availUpdate, h]

def admitShow.within (E : Touch → Bool) : Bool := E Reg.RGL_ADMIT_RES_INTAKE.touch && E Reg.RGL_ADMIT_POLL_H0.touch &&
  E Reg.RGL_ADMIT_POLL_H1.touch && E Reg.RGL_ADMIT_NVS_FETCH.touch
@[simp] theorem admitShow_but (h : admitShow.within E) (s : State) : (admitShow s).but E = s.but E := by
  simp only [admitShow.within, Bool.and_eq_true] at h
  simp [admitShow, h]

/-! #### Wire -/

def setNicheState.within (E : Touch → Bool) : Bool := E Reg.NCH_PG_STATUS_STATE.touch && E Reg.NCH_INFO_STATE.touch
@[simp] theorem setNicheState_but (h : setNicheState.within E) (n : ℕ) (st : ℕ) (s : State) : (setNicheState n st s).but E = s.but E := by
  simp only [setNicheState.within, Bool.and_eq_true] at h
  simp [setNicheState, h]

def quotaTake.within (E : Touch → Bool) : Bool := E Reg.NCH_QUOTA_USED.touch
@[simp] theorem quotaTake_but (h : quotaTake.within E) (n : ℕ) (res : ℕ) (k : ℕ) (s : State) : (quotaTake n res k s).but E = s.but E := by
  simp only [quotaTake.within] at h
  simp [quotaTake, h]

def quotaGive.within (E : Touch → Bool) : Bool := E Reg.NCH_QUOTA_USED.touch
@[simp] theorem quotaGive_but (h : quotaGive.within E) (n : ℕ) (res : ℕ) (k : ℕ) (s : State) : (quotaGive n res k s).but E = s.but E := by
  simp only [quotaGive.within] at h
  simp [quotaGive, h]

def dirtyMark.within (E : Touch → Bool) : Bool := E (.part .nch)
@[simp] theorem dirtyMark_but (h : dirtyMark.within E) (n : ℕ) (addr : ℕ) (len : ℕ) (s : State) :
    (dirtyMark n addr len s).but E = s.but E := by
  simp only [dirtyMark.within] at h
  unfold dirtyMark
  repeat' split
  all_goals simp [h]

def hostPut.within (E : Touch → Bool) : Bool := E (.part .out) && dirtyMark.within E
@[simp] theorem hostPut_but (h : hostPut.within E) (n : ℕ) (addr : ℕ) (data : List Byte) (s : State) :
    (hostPut n addr data s).but E = s.but E := by
  simp only [hostPut.within, Bool.and_eq_true] at h
  simp [hostPut, h]

def tagCounts.within (E : Touch → Bool) : Bool := E Reg.HIF_TAG_STATUS_IN_USE.touch && E Reg.HIF_TAG_STATUS_QUARANTINED.touch
@[simp] theorem tagCounts_but (h : tagCounts.within E) (ap : ℕ) (s : State) : (tagCounts ap s).but E = s.but E := by
  simp only [tagCounts.within, Bool.and_eq_true] at h
  simp [tagCounts, h]

def issueRead.within (E : Touch → Bool) : Bool := E (.part .hif) && tagCounts.within E && E (.part .out)
@[simp] theorem issueRead_but (h : issueRead.within E) (n : ℕ) (p : Purpose) (s : State) : (issueRead n p s).1.but E = s.but E := by
  simp only [issueRead.within, Bool.and_eq_true] at h
  unfold issueRead
  dsimp only
  split <;> simp [h]

def freeTag.within (E : Touch → Bool) : Bool := tagCounts.within E && E (.part .hif)
@[simp] theorem freeTag_but (h : freeTag.within E) (ap : ℕ) (tag : ℕ) (s : State) : (freeTag ap tag s).but E = s.but E := by
  simp only [freeTag.within, Bool.and_eq_true] at h
  simp [freeTag, h]

def quarantine.within (E : Touch → Bool) : Bool := E (.part .hif) && tagCounts.within E
@[simp] theorem quarantine_but (h : quarantine.within E) (p : HostTag → Bool) (fromB : ℕ) (s : State) :
    (quarantine p fromB s).but E = s.but E := by
  simp only [quarantine.within, Bool.and_eq_true] at h
  simp [quarantine, h]

def nicheMsix.within (E : Touch → Bool) : Bool := E (.part .out)
@[simp] theorem nicheMsix_but (h : nicheMsix.within E) (n : ℕ) (vector : ℕ) (s : State) : (nicheMsix n vector s).but E = s.but E := by
  simp only [nicheMsix.within] at h
  simp [nicheMsix, h]

def updNiche.within (E : Touch → Bool) : Bool := E (.part .nch)
@[simp] theorem updNiche_but (h : updNiche.within E) (n : ℕ) (f : NicheX → NicheX) (s : State) : (updNiche n f s).but E = s.but E := by
  simp only [updNiche.within] at h
  simp [updNiche, h]

def updFn.within (E : Touch → Bool) : Bool := E (.part .hif)
@[simp] theorem updFn_but (h : updFn.within E) (k : ℕ) (f : Fn → Fn) (s : State) : (updFn k f s).but E = s.but E := by
  simp only [updFn.within] at h
  simp [updFn, h]

/-! #### Channels -/

def setThrState.within (E : Touch → Bool) : Bool := E Reg.TIL_THR_STATE_LO_STATE.touch && E Reg.TIL_THR_STATE_HI_STATE.touch
@[simp] theorem setThrState_but (h : setThrState.within E) (h' : ℕ) (st : ℕ) (s : State) : (setThrState h' st s).but E = s.but E := by
  simp only [setThrState.within, Bool.and_eq_true] at h
  simp [setThrState, h]

def updThread.within (E : Touch → Bool) : Bool := E (.part .til)
@[simp] theorem updThread_but (h : updThread.within E) (h' : ℕ) (f : Thread → Thread) (s : State) : (updThread h' f s).but E = s.but E := by
  simp only [updThread.within] at h
  simp [updThread, h]

def groupMoved.within (E : Touch → Bool) : Bool := E (.part .til)
@[simp] theorem groupMoved_but (h : groupMoved.within E) (h' : ℕ) (s : State) : (groupMoved h' s).but E = s.but E := by
  simp only [groupMoved.within] at h
  simp [groupMoved, h]

def enterThrState.within (E : Touch → Bool) : Bool := groupMoved.within E && setThrState.within E
@[simp] theorem enterThrState_but (h : enterThrState.within E) (h' : ℕ) (st : ℕ) (s : State) : (enterThrState h' st s).but E = s.but E := by
  simp only [enterThrState.within, Bool.and_eq_true] at h
  simp [enterThrState, h]

def setChan.within (E : Touch → Bool) : Bool := E Reg.TIL_CH_INFO_LEVEL.touch && E (.part .til)
@[simp] theorem setChan_but (h : setChan.within E) (k : ℕ) (l : List Msg) (s : State) : (setChan k l s).but E = s.but E := by
  simp only [setChan.within, Bool.and_eq_true] at h
  simp [setChan, h]

def chanPut.within (E : Touch → Bool) : Bool := setChan.within E
@[simp] theorem chanPut_but (h : chanPut.within E) (k : ℕ) (m : Msg) (s : State) : (chanPut k m s).but E = s.but E := by
  simp only [chanPut.within] at h
  simp [chanPut, h]

def hwPut.within (E : Touch → Bool) : Bool := chanPut.within E
@[simp] theorem hwPut_but (h : hwPut.within E) (k : ℕ) (m : Msg) (s : State) : (hwPut k m s).1.but E = s.but E := by
  simp only [hwPut.within] at h
  unfold hwPut
  repeat' split
  all_goals simp [h]

def replyPut.within (E : Touch → Bool) : Bool := chanPut.within E && E (.part .til)
@[simp] theorem replyPut_but (h : replyPut.within E) (k : ℕ) (m : Msg) (s : State) : (replyPut k m s).but E = s.but E := by
  simp only [replyPut.within, Bool.and_eq_true] at h
  simp [replyPut, h]

def noticePut.within (E : Touch → Bool) : Bool := chanPut.within E && E Reg.TIL_CH_INFO_LOST.touch
@[simp] theorem noticePut_but (h : noticePut.within E) (k : ℕ) (m : Msg) (s : State) : (noticePut k m s).but E = s.but E := by
  simp only [noticePut.within, Bool.and_eq_true] at h
  simp [noticePut, h]

/-! #### Flights -/

def updRing.within (E : Touch → Bool) : Bool := E (.part .rng)
@[simp] theorem updRing_but (h : updRing.within E) (r : ℕ) (f : RingX → RingX) (s : State) : (updRing r f s).but E = s.but E := by
  simp only [updRing.within] at h
  simp [updRing, h]

def ringCounts.within (E : Touch → Bool) : Bool := E Reg.RNG_PTRS_IN_FLIGHT.touch && E Reg.RNG_PTRS_HELD.touch
@[simp] theorem ringCounts_but (h : ringCounts.within E) (r : ℕ) (s : State) : (ringCounts r s).but E = s.but E := by
  simp only [ringCounts.within, Bool.and_eq_true] at h
  simp [ringCounts, h]

def cqNotice.within (E : Touch → Bool) : Bool := raiseTo.within E && E Reg.RNG_INFO_ARMED.touch
@[simp] theorem cqNotice_but (h : cqNotice.within E) (cq : ℕ) (s : State) : (cqNotice cq s).but E = s.but E := by
  simp only [cqNotice.within, Bool.and_eq_true] at h
  simp [cqNotice, h]

def cqWrite.within (E : Touch → Bool) : Bool := hostPut.within E && E Reg.RNG_PTRS_PRODUCER.touch && cqNotice.within E && updRing.within E
@[simp] theorem cqWrite_but (h : cqWrite.within E) (cq : ℕ) (w : ℕ) (s : State) : (cqWrite cq w s).but E = s.but E := by
  simp only [cqWrite.within, Bool.and_eq_true] at h
  simp [cqWrite, h]

def cqCommit.within (E : Touch → Bool) : Bool := updRing.within E && cqWrite.within E && ringCounts.within E
@[simp] theorem cqCommit_but (h : cqCommit.within E) (cq : ℕ) (w : ℕ) (s : State) : (cqCommit cq w s).but E = s.but E := by
  simp only [cqCommit.within, Bool.and_eq_true] at h
  simp [cqCommit, h]

def ringIdleFlag.within (E : Touch → Bool) : Bool := E Reg.RNG_INFO_IDLE.touch
@[simp] theorem ringIdleFlag_but (h : ringIdleFlag.within E) (r : ℕ) (s : State) : (ringIdleFlag r s).but E = s.but E := by
  simp only [ringIdleFlag.within] at h
  simp [ringIdleFlag, h]

def commitOne.within (E : Touch → Bool) : Bool := E (.part .rng) && replyPut.within E && ringIdleFlag.within E && ringCounts.within E &&
  cqCommit.within E
@[simp] theorem commitOne_but (h : commitOne.within E) (f : Flight) (c : Cpl) (s : State) : (commitOne f c s).but E = s.but E := by
  simp only [commitOne.within, Bool.and_eq_true] at h
  unfold commitOne
  split <;> simp [h]

def commitRing.within (E : Touch → Bool) : Bool := commitOne.within E
@[simp] theorem commitRing_but (h : commitRing.within E) (fuel : ℕ) (r : ℕ) (s : State) : (commitRing fuel r s).but E = s.but E := by
  unfold commitRing.within at h
  induction fuel generalizing s with
  | zero => rfl
  | succ n ih =>
    rw [commitRing]
    split <;> simp [h, ih]

def updFlight.within (E : Touch → Bool) : Bool := E (.part .rng)
@[simp] theorem updFlight_but (h : updFlight.within E) (seq : ℕ) (g : Flight → Flight) (s : State) :
    (updFlight seq g s).but E = s.but E := by
  simp only [updFlight.within] at h
  simp [updFlight, h]

def finishAs.within (E : Touch → Bool) : Bool := updFlight.within E && commitRing.within E
@[simp] theorem finishAs_but (h : finishAs.within E) (seq : ℕ) (c : Cpl) (s : State) : (finishAs seq c s).but E = s.but E := by
  simp only [finishAs.within, Bool.and_eq_true] at h
  unfold finishAs
  split <;> simp [h]

def finish.within (E : Touch → Bool) : Bool := finishAs.within E
@[simp] theorem finish_but (h : finish.within E) (seq : ℕ) (status : ℕ) (result : ℕ) (s : State) :
    (finish seq status result s).but E = s.but E := by
  simp only [finish.within] at h
  simp [finish, h]

def jWork.within (E : Touch → Bool) : Bool := jRecord.within E
@[simp] theorem jWork_but (h : jWork.within E) (blk : ℕ) (f : Flight) (result : ℕ) (s : State) :
    (jWork blk f result s).but E = s.but E := by
  simp only [jWork.within] at h
  simp [jWork, h]

def stateWork.within (E : Touch → Bool) : Bool := finish.within E && jWork.within E
@[simp] theorem stateWork_but (h : stateWork.within E) (blk : ℕ) (f : Flight) (act : State → ℕ × ℕ × State) (s : State)
    (hact : ∀ t, (act t).2.2.but E = t.but E) : (stateWork blk f act s).but E = s.but E := by
  simp only [stateWork.within, Bool.and_eq_true] at h
  simp [stateWork, h, hact]

def takeEntry.within (E : Touch → Bool) : Bool := E (.part .rng) && updRing.within E && hostPut.within E &&
  E Reg.RNG_PTRS_CONSUMER.touch && E Reg.RNG_INFO_IDLE.touch && E Reg.RNG_PTRS_PRODUCER.touch && ringCounts.within E && finish.within E
@[simp] theorem takeEntry_but (h : takeEntry.within E) (r : ℕ) (e : ℕ) (s : State) : (takeEntry r e s).but E = s.but E := by
  simp only [takeEntry.within, Bool.and_eq_true] at h
  simp [takeEntry, h]

def cqStop.within (E : Touch → Bool) : Bool := raiseTo.within E && countI.within Reg.RNG_RCNT_COUNT E && E Reg.RNG_INFO_STOPPED.touch &&
  updRing.within E
@[simp] theorem cqStop_but (h : cqStop.within E) (cq : ℕ) (s : State) : (cqStop cq s).but E = s.but E := by
  simp only [cqStop.within, Bool.and_eq_true] at h
  simp [cqStop, h]

def startWork.within (E : Touch → Bool) : Bool := updFlight.within E
@[simp] theorem startWork_but (h : startWork.within E) (w : Work) (opcode : ℕ) (act : Flight → State → State) (s : State)
    (hact : ∀ a t, (act a t).but E = t.but E) : Outcome.but E (startWork w opcode act s) = some (s.but E) := by
  simp only [startWork.within] at h
  unfold startWork
  split <;> simp [h, hact]

def dropFlights.within (E : Touch → Bool) : Bool := E (.part .rng) && E (.part .til) && ringCounts.within E && updRing.within E
@[simp] theorem dropFlights_but (h : dropFlights.within E) (p : Flight → Bool) (s : State) : (dropFlights p s).but E = s.but E := by
  simp only [dropFlights.within, Bool.and_eq_true] at h
  unfold dropFlights
  dsimp only
  rw [foldl_but fun t f => ?_, State.updRng_but h.1.1.1]
  split <;> simp [h]

/-! #### Spaces -/

def spaceWrite.within (E : Touch → Bool) : Bool := hostPut.within E && memWriteList.within E
@[simp] theorem spaceWrite_but (h : spaceWrite.within E) (f : Flight) (space : ℕ) (addr : ℕ) (data : List Byte) (s : State) :
    (spaceWrite f space addr data s).but E = s.but E := by
  simp only [spaceWrite.within, Bool.and_eq_true] at h
  simp [spaceWrite, h]

def needRead.within (E : Touch → Bool) : Bool := issueRead.within E && E (.part .hif)
@[simp] theorem needRead_but (h : needRead.within E) (n : ℕ) (p : Purpose) (s : State) : (needRead n p s).but E = s.but E := by
  simp only [needRead.within, Bool.and_eq_true] at h
  unfold needRead
  dsimp only
  split <;> simp [h]

def retryReads.within (E : Touch → Bool) : Bool := needRead.within E && E (.part .hif)
@[simp] theorem retryReads_but (h : retryReads.within E) (s : State) : (retryReads s).but E = s.but E := by
  simp only [retryReads.within, Bool.and_eq_true] at h
  simp [retryReads, h]

/-! #### Keys -/

def updKey.within (E : Touch → Bool) : Bool := E (.part .acc)
@[simp] theorem updKey_but (h : updKey.within E) (i : ℕ) (f : KeyEnt → KeyEnt) (s : State) : (updKey i f s).but E = s.but E := by
  simp only [updKey.within] at h
  simp [updKey, h]

def keysShow.within (E : Touch → Bool) : Bool := E Reg.ACC_KEYS_USED.touch && E Reg.ACC_KEYS_CACHED.touch
@[simp] theorem keysShow_but (h : keysShow.within E) (s : State) : (keysShow s).but E = s.but E := by
  simp only [keysShow.within, Bool.and_eq_true] at h
  simp [keysShow, h]

def storeKey.within (E : Touch → Bool) : Bool := E (.part .acc) && keysShow.within E && quotaTake.within E
@[simp] theorem storeKey_but (h : storeKey.within E) (k : KeyEnt) (s : State) : (storeKey k s).2.but E = s.but E := by
  simp only [storeKey.within, Bool.and_eq_true] at h
  simp [storeKey, h]

def accError.within (E : Touch → Bool) : Bool := E Reg.ACC_ERR_LAST_STATUS.touch && E Reg.ACC_ERR_LAST_NICHE.touch &&
  E Reg.ACC_ERR_LAST_SLICE.touch && E Reg.ACC_ERR_LAST_REASON.touch && E Reg.ACC_ERR_LAST_STROKE.touch &&
  count.within Reg.ACC_ERR_CNT_COUNT E && raise.within E && E Reg.ACC_STATUS_ERR.touch
@[simp] theorem accError_but (h : accError.within E) (n : ℕ) (slice : ℕ) (status : ℕ) (reason : ℕ) (s : State) :
    (accError n slice status reason s).but E = s.but E := by
  simp only [accError.within, Bool.and_eq_true] at h
  simp [accError, h]

def accFinish.within (E : Touch → Bool) : Bool := finish.within E && State.draw.within E && accError.within E
@[simp] theorem accFinish_but (h : accFinish.within E) (f : Flight) (slice : Option ℕ) (status : ℕ) (result : ℕ) (s : State) :
    (accFinish f slice status result s).but E = s.but E := by
  simp only [accFinish.within, Bool.and_eq_true] at h
  unfold accFinish
  dsimp only
  repeat' split
  all_goals simp [h]

def keyStoreFull.within (E : Touch → Bool) : Bool := raise.within E && E Reg.ACC_STATUS_KEYSTORE_FULL.touch
@[simp] theorem keyStoreFull_but (h : keyStoreFull.within E) (s : State) : (keyStoreFull s).but E = s.but E := by
  simp only [keyStoreFull.within, Bool.and_eq_true] at h
  simp [keyStoreFull, h]

def loadMaterial.within (E : Touch → Bool) : Bool := storeKey.within E
@[simp] theorem loadMaterial_but (h : loadMaterial.within E) (f : Flight) (len : ℕ) (material : ℕ) (s : State) :
    (loadMaterial f len material s).2.2.but E = s.but E := by
  simp only [loadMaterial.within] at h
  simp [loadMaterial, h]

def keyRefused.within (E : Touch → Bool) : Bool := State.draw.within E && accError.within E && keyStoreFull.within E
@[simp] theorem keyRefused_but (h : keyRefused.within E) (f : Flight) (st : ℕ) (s : State) : (keyRefused f st s).2.2.but E = s.but E := by
  simp only [keyRefused.within, Bool.and_eq_true] at h
  simp [keyRefused, h]

def execKeyLoad.within (E : Touch → Bool) : Bool := startWork.within E && stateWork.within E && keyRefused.within E &&
  spaceWrite.within E && loadMaterial.within E
@[simp] theorem execKeyLoad_but (h : execKeyLoad.within E) (w : Work) (host : List Byte) (s : State) : Outcome.but E
    (execKeyLoad w host s) = some (s.but E) := by
  simp only [execKeyLoad.within, Bool.and_eq_true] at h
  unfold execKeyLoad
  refine startWork_but (by simp only [h]) _ _ _ _ fun f t => stateWork_but (by simp only [h]) _ _ _ _ fun t => ?_
  split
  · simp [h]
  dsimp only
  split
  · simp [h]
  split
  · split
    · simp [h]
    · simp [h]
  · simp [h]

def execKeyGenerate.within (E : Touch → Bool) : Bool := startWork.within E && stateWork.within E && keyRefused.within E &&
  State.draw.within E && spaceWrite.within E && loadMaterial.within E
@[simp] theorem execKeyGenerate_but (h : execKeyGenerate.within E) (w : Work) (s : State) : Outcome.but E (execKeyGenerate w s) = some
    (s.but E) := by
  simp only [execKeyGenerate.within, Bool.and_eq_true] at h
  unfold execKeyGenerate
  refine startWork_but (by simp only [h]) _ _ _ _ fun a t => ?_
  refine stateWork_but (by simp only [h]) _ _ _ _ fun t => ?_
  dsimp only
  split <;> simp [h]

def execKeyDestroy.within (E : Touch → Bool) : Bool := startWork.within E && finish.within E && accFinish.within E &&
  State.defer.within E && E (.part .acc)
@[simp] theorem execKeyDestroy_but (h : execKeyDestroy.within E) (w : Work) (s : State) : Outcome.but E (execKeyDestroy w s) = some
    (s.but E) := by
  simp only [execKeyDestroy.within, Bool.and_eq_true] at h
  unfold execKeyDestroy
  refine startWork_but (by simp only [h]) _ _ _ _ fun a t => ?_
  repeat' split
  all_goals simp [h]

def applyKeyDead.within (E : Touch → Bool) : Bool := updKey.within E
@[simp] theorem applyKeyDead_but (h : applyKeyDead.within E) (i : ℕ) (s : State) : (applyKeyDead i s).but E = s.but E := by
  simp only [applyKeyDead.within] at h
  simp [applyKeyDead, h]

def dropKey.within (E : Touch → Bool) : Bool := keysShow.within E && quotaGive.within E && E (.part .acc)
@[simp] theorem dropKey_but (h : dropKey.within E) (i : ℕ) (s : State) : (dropKey i s).but E = s.but E := by
  simp only [dropKey.within, Bool.and_eq_true] at h
  unfold dropKey
  split <;> simp [h]

def execKeyDestroyFence.within (E : Touch → Bool) : Bool := dropKey.within E && E (.part .acc) && finish.within E && jWork.within E
@[simp] theorem execKeyDestroyFence_but (h : execKeyDestroyFence.within E) (index : ℕ) (s : State) : Outcome.but E
    (execKeyDestroyFence index s) = some (s.but E) := by
  simp only [execKeyDestroyFence.within, Bool.and_eq_true] at h
  unfold execKeyDestroyFence
  dsimp only
  repeat' split
  all_goals simp [h]

def dropNicheKeys.within (E : Touch → Bool) : Bool := dropKey.within E && E (.part .acc)
@[simp] theorem dropNicheKeys_but (h : dropNicheKeys.within E) (n : ℕ) (s : State) : (dropNicheKeys n s).but E = s.but E := by
  simp only [dropNicheKeys.within, Bool.and_eq_true] at h
  simp [dropNicheKeys, h]

def saSend.within (E : Touch → Bool) : Bool := updKey.within E && raiseTo.within E
@[simp] theorem saSend_but (h : saSend.within E) (i : ℕ) (k : KeyEnt) (a : Sa) (s : State) : (saSend i k a s).2.but E = s.but E := by
  simp only [saSend.within, Bool.and_eq_true] at h
  unfold saSend
  repeat' split
  all_goals simp [h]

def saReceive.within (E : Touch → Bool) : Bool := updKey.within E
@[simp] theorem saReceive_but (h : saReceive.within E) (i : ℕ) (q : ℕ) (k : KeyEnt) (a : Sa) (s : State) :
    (saReceive i q k a s).2.but E = s.but E := by
  simp only [saReceive.within] at h
  simp [saReceive, h]

def inlineDrop.within (E : Touch → Bool) : Bool := countAt.within Reg.ACC_INLINE_DROP_COUNT E && accError.within E && raise.within E &&
  E Reg.ACC_STATUS_INLINE_DROP.touch
@[simp] theorem inlineDrop_but (h : inlineDrop.within E) (n : ℕ) (slice : ℕ) (reason : ℕ) (s : State) :
    (inlineDrop n slice reason s).but E = s.but E := by
  simp only [inlineDrop.within, Bool.and_eq_true] at h
  simp [inlineDrop, h]

/-! #### Accel -/

def accShow.within (E : Touch → Bool) : Bool := E Reg.ACC_SLICE_QUEUED.touch
@[simp] theorem accShow_but (h : accShow.within E) (s : State) : (accShow s).but E = s.but E := by
  simp only [accShow.within] at h
  simp [accShow, h]

def accDeal.within (E : Touch → Bool) : Bool := accShow.within E && E (.part .acc)
@[simp] theorem accDeal_but (h : accDeal.within E) (seq : ℕ) (opcode : ℕ) (s : State) : (accDeal seq opcode s).but E = s.but E := by
  simp only [accDeal.within, Bool.and_eq_true] at h
  simp [accDeal, h]

def accBegin.within (E : Touch → Bool) : Bool := startWork.within E && accFinish.within E && accDeal.within E && needRead.within E
@[simp] theorem accBegin_but (h : accBegin.within E) (opcode : ℕ) (w : Work) (s : State) : Outcome.but E (accBegin opcode w s) = some
    (s.but E) := by
  simp only [accBegin.within, Bool.and_eq_true] at h
  unfold accBegin
  refine startWork_but (by simp only [h]) _ _ _ _ fun a t => ?_
  split <;> simp [h]

def accForget.within (E : Touch → Bool) : Bool := accShow.within E && E (.part .acc)
@[simp] theorem accForget_but (h : accForget.within E) (seq : ℕ) (s : State) : (accForget seq s).but E = s.but E := by
  simp only [accForget.within, Bool.and_eq_true] at h
  simp [accForget, h]

def accHostData.within (E : Touch → Bool) : Bool := updFlight.within E
@[simp] theorem accHostData_but (h : accHostData.within E) (seq : ℕ) (data : List Byte) (s : State) :
    (accHostData seq data s).but E = s.but E := by
  simp only [accHostData.within] at h
  simp [accHostData, h]

def accStop.within (E : Touch → Bool) : Bool := accFinish.within E && accForget.within E
@[simp] theorem accStop_but (h : accStop.within E) (seq : ℕ) (st : ℕ) (s : State) : (accStop seq st s).but E = s.but E := by
  simp only [accStop.within, Bool.and_eq_true] at h
  unfold accStop
  split <;> simp [h]

def accWrite.within (E : Touch → Bool) : Bool := State.draw.within E && accFinish.within E && spaceWrite.within E
@[simp] theorem accWrite_but (h : accWrite.within E) (f : Flight) (slice : ℕ) (out : List Byte) (result : ℕ) (s : State) :
    (accWrite f slice out result s).but E = s.but E := by
  simp only [accWrite.within, Bool.and_eq_true] at h
  simp [accWrite, h]

def cipherDone.within (E : Touch → Bool) : Bool := accFinish.within E && spaceWrite.within E
@[simp] theorem cipherDone_but (h : cipherDone.within E) (f : Flight) (slice : ℕ) (src : List Byte) (s : State) :
    (cipherDone f slice src s).but E = s.but E := by
  simp only [cipherDone.within, Bool.and_eq_true] at h
  simp [cipherDone, h]

def digestDone.within (E : Touch → Bool) : Bool := accFinish.within E && accWrite.within E
@[simp] theorem digestDone_but (h : digestDone.within E) (f : Flight) (slice : ℕ) (src : List Byte) (s : State) :
    (digestDone f slice src s).but E = s.but E := by
  simp only [digestDone.within, Bool.and_eq_true] at h
  simp [digestDone, h]

def compressDone.within (E : Touch → Bool) : Bool := accWrite.within E
@[simp] theorem compressDone_but (h : compressDone.within E) (f : Flight) (slice : ℕ) (src : List Byte) (s : State) :
    (compressDone f slice src s).but E = s.but E := by
  simp only [compressDone.within] at h
  simp [compressDone, h]

def decompressDone.within (E : Touch → Bool) : Bool := accFinish.within E && accWrite.within E
@[simp] theorem decompressDone_but (h : decompressDone.within E) (f : Flight) (slice : ℕ) (src : List Byte) (s : State) :
    (decompressDone f slice src s).but E = s.but E := by
  simp only [decompressDone.within, Bool.and_eq_true] at h
  simp [decompressDone, h]

def crcDone.within (E : Touch → Bool) : Bool := accFinish.within E
@[simp] theorem crcDone_but (h : crcDone.within E) (f : Flight) (slice : ℕ) (src : List Byte) (s : State) :
    (crcDone f slice src s).but E = s.but E := by
  simp only [crcDone.within] at h
  simp [crcDone, h]

def ecDone.within (E : Touch → Bool) : Bool := accFinish.within E && spaceWrite.within E
@[simp] theorem ecDone_but (h : ecDone.within E) (f : Flight) (slice : ℕ) (s : State) : (ecDone f slice s).but E = s.but E := by
  simp only [ecDone.within, Bool.and_eq_true] at h
  simp [ecDone, h]

def scrubDone.within (E : Touch → Bool) : Bool := accFinish.within E && spaceWrite.within E
@[simp] theorem scrubDone_but (h : scrubDone.within E) (f : Flight) (slice : ℕ) (src : List Byte) (bad : List ℕ) (s : State) :
    (scrubDone f slice src bad s).but E = s.but E := by
  simp only [scrubDone.within, Bool.and_eq_true] at h
  simp [scrubDone, h]

def execCipher.within (E : Touch → Bool) : Bool := accBegin.within E
@[simp] theorem execCipher_but (h : execCipher.within E) (w : Work) (s : State) : Outcome.but E (execCipher w s) = some (s.but E) := by
  simp only [execCipher.within] at h
  simp [execCipher, h]

def execDigest.within (E : Touch → Bool) : Bool := accBegin.within E
@[simp] theorem execDigest_but (h : execDigest.within E) (w : Work) (s : State) : Outcome.but E (execDigest w s) = some (s.but E) := by
  simp only [execDigest.within] at h
  simp [execDigest, h]

def execPkey.within (E : Touch → Bool) : Bool := accBegin.within E
@[simp] theorem execPkey_but (h : execPkey.within E) (w : Work) (s : State) : Outcome.but E (execPkey w s) = some (s.but E) := by
  simp only [execPkey.within] at h
  simp [execPkey, h]

def execCompress.within (E : Touch → Bool) : Bool := accBegin.within E
@[simp] theorem execCompress_but (h : execCompress.within E) (w : Work) (s : State) : Outcome.but E (execCompress w s) = some
    (s.but E) := by
  simp only [execCompress.within] at h
  simp [execCompress, h]

def execDecompress.within (E : Touch → Bool) : Bool := accBegin.within E
@[simp] theorem execDecompress_but (h : execDecompress.within E) (w : Work) (s : State) : Outcome.but E (execDecompress w s) = some
    (s.but E) := by
  simp only [execDecompress.within] at h
  simp [execDecompress, h]

def execCrc.within (E : Touch → Bool) : Bool := accBegin.within E
@[simp] theorem execCrc_but (h : execCrc.within E) (w : Work) (s : State) : Outcome.but E (execCrc w s) = some (s.but E) := by
  simp only [execCrc.within] at h
  simp [execCrc, h]

def execEcEncode.within (E : Touch → Bool) : Bool := accBegin.within E
@[simp] theorem execEcEncode_but (h : execEcEncode.within E) (w : Work) (s : State) : Outcome.but E (execEcEncode w s) = some
    (s.but E) := by
  simp only [execEcEncode.within] at h
  simp [execEcEncode, h]

def execEcDecode.within (E : Touch → Bool) : Bool := accBegin.within E
@[simp] theorem execEcDecode_but (h : execEcDecode.within E) (w : Work) (s : State) : Outcome.but E (execEcDecode w s) = some
    (s.but E) := by
  simp only [execEcDecode.within] at h
  simp [execEcDecode, h]

def execScrub.within (E : Touch → Bool) : Bool := accBegin.within E
@[simp] theorem execScrub_but (h : execScrub.within E) (w : Work) (s : State) : Outcome.but E (execScrub w s) = some (s.but E) := by
  simp only [execScrub.within] at h
  simp [execScrub, h]

def accDone.within (E : Touch → Bool) : Bool := accFinish.within E && cipherDone.within E && digestDone.within E &&
  compressDone.within E && decompressDone.within E && crcDone.within E && scrubDone.within E && ecDone.within E
@[simp] theorem accDone_but (h : accDone.within E) (f : Flight) (slice : ℕ) (bad : List ℕ) (s : State) :
    (accDone f slice bad s).but E = s.but E := by
  simp only [accDone.within, Bool.and_eq_true] at h
  unfold accDone
  dsimp only
  repeat' split
  all_goals simp [h]

def execAcceleratorWorkDone.within (E : Touch → Bool) : Bool := E Reg.ACC_SLICE_LOAD_PCT.touch && accDone.within E && accForget.within E
@[simp] theorem execAcceleratorWorkDone_but (h : execAcceleratorWorkDone.within E) (w : Work) (slice : ℕ) (load : ℕ) (bad : List ℕ)
    (s : State) : Outcome.but E (execAcceleratorWorkDone w slice load bad s) = some (s.but E) := by
  simp only [execAcceleratorWorkDone.within, Bool.and_eq_true] at h
  unfold execAcceleratorWorkDone
  split <;> simp [h]

/-! #### Rings -/

def ringError.within (E : Touch → Bool) : Bool := E Reg.RNG_ERR_LAST_KIND.touch && E Reg.RNG_ERR_LAST_NICHE.touch &&
  E Reg.RNG_ERR_LAST_RING.touch && E Reg.RNG_ERR_LAST_STROKE.touch && raise.within E && E Reg.RNG_STATUS_RING_ERR.touch &&
  raiseTo.within E
@[simp] theorem ringError_but (h : ringError.within E) (kind : ℕ) (niche : ℕ) (ring : ℕ) (s : State) :
    (ringError kind niche ring s).but E = s.but E := by
  simp only [ringError.within, Bool.and_eq_true] at h
  simp [ringError, h]

def doorbellError.within (E : Touch → Bool) : Bool := ringError.within E && accessDropped.within E
@[simp] theorem doorbellError_but (h : doorbellError.within E) (who : Issuer) (off : ℕ) (niche : ℕ) (ring : ℕ) (s : State) :
    (doorbellError who off niche ring s).but E = s.but E := by
  simp only [doorbellError.within, Bool.and_eq_true] at h
  simp [doorbellError, h]

def putRing.within (E : Touch → Bool) : Bool := E (.part .rng) && quotaTake.within E && E Reg.RNG_INFO_STATE.touch &&
  E Reg.RNG_INFO_IDLE.touch && E Reg.RNG_INFO_TYPE.touch && E Reg.RNG_INFO_RESIDENT.touch && E Reg.RNG_INFO_CONTROL.touch &&
  E Reg.RNG_INFO_RECEIVE.touch && E Reg.RNG_INFO_UNORDERED.touch && E Reg.RNG_INFO_RX_TS.touch && E Reg.RNG_INFO_ARMED.touch &&
  E Reg.RNG_INFO_STOPPED.touch && E Reg.RNG_INFO_SIZE_LOG2.touch && E Reg.RNG_INFO_NICHE.touch && E Reg.RNG_INFO_LINK.touch &&
  E Reg.RNG_PTRS_PRODUCER.touch && E Reg.RNG_PTRS_CONSUMER.touch && E Reg.RNG_PTRS_HELD.touch && E Reg.RNG_PTRS_IN_FLIGHT.touch &&
  E Reg.RNG_POLL_INTERVAL.touch && E Reg.RNG_POLL_POLL_MIN.touch && E Reg.RNG_POLL_POLL_MAX.touch && E Reg.RNG_BASE_BASE.touch &&
  E Reg.RNG_RCNT_COUNT.touch && E Reg.RNG_RCNT_SAT.touch
@[simp] theorem putRing_but (h : putRing.within E) (r : ℕ) (n : ℕ) (base : ℕ) (d : ℕ) (s : State) :
    (putRing r n base d s).but E = s.but E := by
  simp only [putRing.within, Bool.and_eq_true] at h
  simp [putRing, h]

def createRing.within (E : Touch → Bool) : Bool := putRing.within E
@[simp] theorem createRing_but (h : createRing.within E) (n : ℕ) (d : ℕ) (tenant : Bool) (s : State) :
    (createRing n d tenant s).2.2.2.but E = s.but E := by
  unfold createRing.within at h
  unfold createRing
  simp only [snd_ite, State.but_ite]
  repeat refine ite_eq_left_iff.2 fun _ => ?_
  split
  · exact putRing_but h ..
  · rfl

def freeRing.within (E : Touch → Bool) : Bool := E (.part .rng) && quotaGive.within E && E Reg.RNG_INFO_STATE.touch &&
  E Reg.RNG_INFO_IDLE.touch && E Reg.RNG_INFO_TYPE.touch && E Reg.RNG_INFO_RESIDENT.touch && E Reg.RNG_INFO_CONTROL.touch &&
  E Reg.RNG_INFO_RECEIVE.touch && E Reg.RNG_INFO_UNORDERED.touch && E Reg.RNG_INFO_RX_TS.touch && E Reg.RNG_INFO_ARMED.touch &&
  E Reg.RNG_INFO_STOPPED.touch && E Reg.RNG_INFO_SIZE_LOG2.touch && E Reg.RNG_INFO_NICHE.touch && E Reg.RNG_INFO_LINK.touch &&
  E Reg.RNG_PTRS_PRODUCER.touch && E Reg.RNG_PTRS_CONSUMER.touch && E Reg.RNG_POLL_INTERVAL.touch && E Reg.RNG_POLL_POLL_MIN.touch &&
  E Reg.RNG_POLL_POLL_MAX.touch && E Reg.RNG_BASE_BASE.touch && E Reg.RNG_RCNT_COUNT.touch && E Reg.RNG_RCNT_SAT.touch
@[simp] theorem freeRing_but (h : freeRing.within E) (r : ℕ) (s : State) : (freeRing r s).but E = s.but E := by
  simp only [freeRing.within, Bool.and_eq_true] at h
  simp [freeRing, h]

def restartRing.within (E : Touch → Bool) : Bool := updRing.within E && E (.part .rng) && E Reg.RNG_PTRS_PRODUCER.touch &&
  E Reg.RNG_PTRS_CONSUMER.touch
@[simp] theorem restartRing_but (h : restartRing.within E) (r : ℕ) (s : State) : (restartRing r s).but E = s.but E := by
  simp only [restartRing.within, Bool.and_eq_true] at h
  simp [restartRing, h]

def applyEnable.within (E : Touch → Bool) : Bool := restartRing.within E && updRing.within E && E Reg.RNG_INFO_STATE.touch &&
  E Reg.RNG_INFO_ARMED.touch
@[simp] theorem applyEnable_but (h : applyEnable.within E) (r : ℕ) (restart : Bool) (s : State) :
    (applyEnable r restart s).but E = s.but E := by
  simp only [applyEnable.within, Bool.and_eq_true] at h
  simp [applyEnable, h]

def applyDisable.within (E : Touch → Bool) : Bool := E Reg.RNG_INFO_STATE.touch && E Reg.RNG_INFO_IDLE.touch
@[simp] theorem applyDisable_but (h : applyDisable.within E) (r : ℕ) (s : State) : (applyDisable r s).but E = s.but E := by
  simp only [applyDisable.within, Bool.and_eq_true] at h
  simp [applyDisable, h]

def rngCmd.within (E : Touch → Bool) : Bool := regGate.within E && cmdStart.within Blk.rng E
@[simp] theorem rngCmd_but (h : rngCmd.within E) (op : ℕ) (who : Issuer) (niche : ℕ) (ring : ℕ) (desc : Option (ℕ × ℕ))
    (act : State → CmdRes) (s : State) (hact : ∀ t, (act t).but E = t.but E) : Outcome.but E (rngCmd op who niche ring desc act s) = some
    (s.but E) := by
  simp only [rngCmd.within, Bool.and_eq_true] at h
  simp [rngCmd, h, hact]

def execRngCreate.within (E : Touch → Bool) : Bool := rngCmd.within E && createRing.within E
@[simp] theorem execRngCreate_but (h : execRngCreate.within E) (who : Issuer) (desc : ℕ) (s : State) : Outcome.but E
    (execRngCreate who desc s) = some (s.but E) := by
  simp only [execRngCreate.within, Bool.and_eq_true] at h
  simp [execRngCreate, h]

def execRngEnable.within (E : Touch → Bool) : Bool := rngCmd.within E && State.defer.within E
@[simp] theorem execRngEnable_but (h : execRngEnable.within E) (who : Issuer) (s : State) : Outcome.but E (execRngEnable who s) = some
    (s.but E) := by
  simp only [execRngEnable.within, Bool.and_eq_true] at h
  simp [execRngEnable, h]

def execRngDisable.within (E : Touch → Bool) : Bool := rngCmd.within E && State.defer.within E
@[simp] theorem execRngDisable_but (h : execRngDisable.within E) (who : Issuer) (s : State) : Outcome.but E (execRngDisable who s) = some
    (s.but E) := by
  simp only [execRngDisable.within, Bool.and_eq_true] at h
  simp [execRngDisable, h]

def execRngDestroy.within (E : Touch → Bool) : Bool := rngCmd.within E && freeRing.within E
@[simp] theorem execRngDestroy_but (h : execRngDestroy.within E) (who : Issuer) (s : State) : Outcome.but E (execRngDestroy who s) = some
    (s.but E) := by
  simp only [execRngDestroy.within, Bool.and_eq_true] at h
  simp [execRngDestroy, h]

def execRingCreate.within (E : Touch → Bool) : Bool := startWork.within E && stateWork.within E && createRing.within E
@[simp] theorem execRingCreate_but (h : execRingCreate.within E) (w : Work) (desc : ℕ) (s : State) : Outcome.but E
    (execRingCreate w desc s) = some (s.but E) := by
  simp only [execRingCreate.within, Bool.and_eq_true] at h
  unfold execRingCreate
  refine startWork_but (by simp only [h]) _ _ _ _ fun a t => ?_
  simp [h]

@[simp] theorem ownRing_but (f : Flight) (s : State) (st : State → ℕ → ℕ) (act : ℕ → State → State)
    (hact : ∀ a t, (act a t).but E = t.but E) : (ownRing f s st act).2.2.but E = s.but E := by
  simp [ownRing, hact]

def execRingEnable.within (E : Touch → Bool) : Bool := startWork.within E && stateWork.within E && 
  State.defer.within E
@[simp] theorem execRingEnable_but (h : execRingEnable.within E) (w : Work) (s : State) : Outcome.but E (execRingEnable w s) = some
    (s.but E) := by
  simp only [execRingEnable.within, Bool.and_eq_true] at h
  unfold execRingEnable
  refine startWork_but (by simp only [h]) _ _ _ _ fun a t => ?_
  refine stateWork_but (by simp only [h]) _ _ _ _ fun t => ?_
  simp [h]

def execRingDisable.within (E : Touch → Bool) : Bool := startWork.within E && stateWork.within E && 
  State.defer.within E
@[simp] theorem execRingDisable_but (h : execRingDisable.within E) (w : Work) (s : State) : Outcome.but E (execRingDisable w s) = some
    (s.but E) := by
  simp only [execRingDisable.within, Bool.and_eq_true] at h
  unfold execRingDisable
  refine startWork_but (by simp only [h]) _ _ _ _ fun a t => ?_
  refine stateWork_but (by simp only [h]) _ _ _ _ fun t => ?_
  simp [h]

def execRingDestroy.within (E : Touch → Bool) : Bool := startWork.within E && stateWork.within E && freeRing.within E
@[simp] theorem execRingDestroy_but (h : execRingDestroy.within E) (w : Work) (s : State) : Outcome.but E (execRingDestroy w s) = some
    (s.but E) := by
  simp only [execRingDestroy.within, Bool.and_eq_true] at h
  unfold execRingDestroy
  refine startWork_but (by simp only [h]) _ _ _ _ fun a t => ?_
  refine stateWork_but (by simp only [h]) _ _ _ _ fun t => ?_
  simp [h]

def execRingIdle.within (E : Touch → Bool) : Bool := raiseTo.within E && E Reg.RNG_INFO_IDLE.touch
@[simp] theorem execRingIdle_but (h : execRingIdle.within E) (ring : ℕ) (s : State) : Outcome.but E (execRingIdle ring s) = some
    (s.but E) := by
  simp only [execRingIdle.within, Bool.and_eq_true] at h
  simp [execRingIdle, h]

def deferPoll.within (E : Touch → Bool) : Bool := updRing.within E && countI.within Reg.RNG_POLL_DEFER_COUNT E && raise.within E &&
  E Reg.RNG_STATUS_POLL_DEFER.touch
@[simp] theorem deferPoll_but (h : deferPoll.within E) (h' : ℕ) (r : ℕ) (s : State) : (deferPoll h' r s).but E = s.but E := by
  simp only [deferPoll.within, Bool.and_eq_true] at h
  simp [deferPoll, h]

def issuePoll.within (E : Touch → Bool) : Bool := issueRead.within E && E (.part .rng) && updRing.within E
@[simp] theorem issuePoll_but (h : issuePoll.within E) (h' : ℕ) (r : ℕ) (s : State) : (issuePoll h' r s).but E = s.but E := by
  simp only [issuePoll.within, Bool.and_eq_true] at h
  simp [issuePoll, h]

def execRingPoll.within (E : Touch → Bool) : Bool := E (.part .rng) && issuePoll.within E && deferPoll.within E
@[simp] theorem execRingPoll_but (h : execRingPoll.within E) (h' : ℕ) (s : State) : Outcome.but E (execRingPoll h' s) = some (s.but E) := by
  simp only [execRingPoll.within, Bool.and_eq_true] at h
  simp [execRingPoll, h]

def takeList.within (E : Touch → Bool) : Bool := cqStop.within E && takeEntry.within E
@[simp] theorem takeList_but (h : takeList.within E) (r : ℕ) (l : List ℕ) (k : ℕ) (s : State) : (takeList r l k s).2.2.but E = s.but E := by
  simp only [takeList.within, Bool.and_eq_true] at h
  induction l generalizing s k with
  | nil => rfl
  | cons e l ih =>
    rw [takeList]
    split
    · rfl
    split
    · simp [h]
    · simp [h, ih]

def pollAnswer.within (E : Touch → Bool) : Bool := freeTag.within E && updRing.within E && takeList.within E && E (.part .rgl)
@[simp] theorem pollAnswer_but (h : pollAnswer.within E) (r : ℕ) (entries : List ℕ) (s : State) :
    (pollAnswer r entries s).but E = s.but E := by
  simp only [pollAnswer.within, Bool.and_eq_true] at h
  unfold pollAnswer
  split <;> simp [h]

def execRingPollData.within (E : Touch → Bool) : Bool := pollAnswer.within E
@[simp] theorem execRingPollData_but (h : execRingPollData.within E) (ring : ℕ) (entries : List ℕ) (s : State) : Outcome.but E
    (execRingPollData ring entries s) = some (s.but E) := by
  simp only [execRingPollData.within] at h
  simp [execRingPollData, h]

def execNudge.within (E : Touch → Bool) : Bool := State.defer.within E && doorbellError.within E
@[simp] theorem execNudge_but (h : execNudge.within E) (who : Issuer) (niche : ℕ) (ring : ℕ) (s : State) : Outcome.but E
    (execNudge who niche ring s) = some (s.but E) := by
  simp only [execNudge.within, Bool.and_eq_true] at h
  simp [execNudge, h]

def execResidentRingWrite.within (E : Touch → Bool) : Bool := accessDropped.within E && ringError.within E && updRing.within E &&
  E (.part .rng) && E Reg.RNG_PTRS_PRODUCER.touch
@[simp] theorem execResidentRingWrite_but (h : execResidentRingWrite.within E) (who : Issuer) (off : ℕ) (data : List Byte) (s : State) :
    Outcome.but E (execResidentRingWrite who off data s) = some (s.but E) := by
  simp only [execResidentRingWrite.within, Bool.and_eq_true] at h
  unfold execResidentRingWrite
  split <;> simp [h]

def residentOne.within (E : Touch → Bool) : Bool := cqStop.within E && E (.part .rng) && takeEntry.within E
@[simp] theorem residentOne_but (h : residentOne.within E) (a : ℕ × ℕ × ℕ) (p : List (ℕ × ℕ × ℕ) × State) :
    (residentOne a p).2.but E = p.2.but E := by
  simp only [residentOne.within, Bool.and_eq_true] at h
  simp [residentOne, h]

def execResidentIntake.within (E : Touch → Bool) : Bool := E (.part .rng) && residentOne.within E
@[simp] theorem execResidentIntake_but (h : execResidentIntake.within E) (s : State) : Outcome.but E (execResidentIntake s) = some
    (s.but E) := by
  simp only [execResidentIntake.within, Bool.and_eq_true] at h
  unfold execResidentIntake
  have hf (l : List (ℕ × ℕ × ℕ)) (p : List (ℕ × ℕ × ℕ) × State) : (l.foldl (fun p a => residentOne a p) p).2.but E = p.2.but E := by
    induction l generalizing p with
    | nil => rfl
    | cons a l ih => rw [List.foldl_cons, ih, residentOne_but h.2]
  simp only [Outcome.but_next, State.updRng_but h.1, hf]
  split <;> simp [h]

def drainHeld.within (E : Touch → Bool) : Bool := cqWrite.within E && updRing.within E
@[simp] theorem drainHeld_but (h : drainHeld.within E) (fuel : ℕ) (cq : ℕ) (s : State) : (drainHeld fuel cq s).but E = s.but E := by
  simp only [drainHeld.within, Bool.and_eq_true] at h
  induction fuel generalizing s with
  | zero => rfl
  | succ n ih =>
    rw [drainHeld]
    split
    · rfl
    · split <;> simp [h, ih]

def returnSlots.within (E : Touch → Bool) : Bool := E Reg.RNG_PTRS_CONSUMER.touch && updRing.within E
@[simp] theorem returnSlots_but (h : returnSlots.within E) (r : ℕ) (count : ℕ) (s : State) : (returnSlots r count s).but E = s.but E := by
  simp only [returnSlots.within, Bool.and_eq_true] at h
  simp [returnSlots, h]

def cqRoom.within (E : Touch → Bool) : Bool := drainHeld.within E && commitRing.within E && ringCounts.within E && State.defer.within E
@[simp] theorem cqRoom_but (h : cqRoom.within E) (cq : ℕ) (s : State) : (cqRoom cq s).but E = s.but E := by
  simp only [cqRoom.within, Bool.and_eq_true] at h
  simp [cqRoom, h]

def execCqRelease.within (E : Touch → Bool) : Bool := doorbellError.within E && ringError.within E && cqRoom.within E &&
  returnSlots.within E && E Reg.RNG_INFO_ARMED.touch && cqNotice.within E
@[simp] theorem execCqRelease_but (h : execCqRelease.within E) (who : Issuer) (niche : ℕ) (ring : ℕ) (count : ℕ) (arm : Bool) (s : State) :
    Outcome.but E (execCqRelease who niche ring count arm s) = some (s.but E) := by
  simp only [execCqRelease.within, Bool.and_eq_true] at h
  simp [execCqRelease, h]

def execEqRelease.within (E : Touch → Bool) : Bool := doorbellError.within E && ringError.within E && returnSlots.within E &&
  updRing.within E && E Reg.RNG_INFO_ARMED.touch
@[simp] theorem execEqRelease_but (h : execEqRelease.within E) (who : Issuer) (niche : ℕ) (ring : ℕ) (count : ℕ) (arm : Bool) (s : State) :
    Outcome.but E (execEqRelease who niche ring count arm s) = some (s.but E) := by
  simp only [execEqRelease.within, Bool.and_eq_true] at h
  simp [execEqRelease, h]

def execCqRestart.within (E : Touch → Bool) : Bool := updRing.within E && E Reg.RNG_INFO_STOPPED.touch
@[simp] theorem execCqRestart_but (h : execCqRestart.within E) (ring : ℕ) (s : State) : Outcome.but E (execCqRestart ring s) = some
    (s.but E) := by
  simp only [execCqRestart.within, Bool.and_eq_true] at h
  simp [execCqRestart, h]

def execEventMsixSend.within (E : Touch → Bool) : Bool := updRing.within E && E Reg.RNG_INFO_ARMED.touch && nicheMsix.within E
@[simp] theorem execEventMsixSend_but (h : execEventMsixSend.within E) (ring : ℕ) (s : State) : Outcome.but E
    (execEventMsixSend ring s) = some (s.but E) := by
  simp only [execEventMsixSend.within, Bool.and_eq_true] at h
  simp [execEventMsixSend, h]

def execNop.within (E : Touch → Bool) : Bool := startWork.within E && finish.within E
@[simp] theorem execNop_but (h : execNop.within E) (w : Work) (s : State) : Outcome.but E (execNop w s) = some (s.but E) := by
  simp only [execNop.within, Bool.and_eq_true] at h
  simp [execNop, h]

def execRecvPost.within (E : Touch → Bool) : Bool := startWork.within E
@[simp] theorem execRecvPost_but (h : execRecvPost.within E) (w : Work) (s : State) : Outcome.but E (execRecvPost w s) = some
    (s.but E) := by
  simp only [execRecvPost.within] at h
  simp [execRecvPost, h]

/-! #### Niches -/

def nchCmd.within (E : Touch → Bool) : Bool := regGate.within E && cmdStart.within Blk.nch E
@[simp] theorem nchCmd_but (h : nchCmd.within E) (op : ℕ) (who : Issuer) (desc : Option (ℕ × ℕ)) (act : ℕ → State → CmdRes) (s : State)
    (hact : ∀ a t, (act a t).but E = t.but E) : Outcome.but E (nchCmd op who desc act s) = some (s.but E) := by
  simp only [nchCmd.within, Bool.and_eq_true] at h
  simp [nchCmd, h, hact]

def nchOn.within (E : Touch → Bool) : Bool := nchCmd.within E
@[simp] theorem nchOn_but (h : nchOn.within E) (op : ℕ) (who : Issuer) (desc : Option (ℕ × ℕ)) (act : ℕ → State → ℕ × State) (s : State)
    (hact : ∀ a t, (act a t).2.but E = t.but E) : Outcome.but E (nchOn op who desc act s) = some (s.but E) := by
  simp only [nchOn.within] at h
  unfold nchOn
  refine nchCmd_but h _ _ _ _ _ fun n t => ?_
  split
  · rfl
  · exact hact n t

def drawQuotas.within (E : Touch → Bool) : Bool := E Reg.NCH_POOL_INFO_FREE.touch && E Reg.NCH_QUOTA_USED.touch &&
  E Reg.NCH_QUOTA_LIMIT.touch
@[simp] theorem drawQuotas_but (h : drawQuotas.within E) (p : ℕ) (n : ℕ) (d : ℕ) (s : State) : (drawQuotas p n d s).but E = s.but E := by
  simp only [drawQuotas.within, Bool.and_eq_true] at h
  simp [drawQuotas, h]

def execCreate.within (E : Touch → Bool) : Bool := nchCmd.within E && drawQuotas.within E && E (.part .nch) &&
  E Reg.NCH_INFO_POOL.touch && E Reg.NCH_STACKED_BASE_MIB.touch && E Reg.NCH_STACKED_LEN_MIB.touch &&
  E Reg.NCH_PG_STATUS_RESET_COUNT.touch && State.defer.within E
@[simp] theorem execCreate_but (h : execCreate.within E) (who : Issuer) (desc : ℕ) (s : State) : Outcome.but E
    (execCreate who desc s) = some (s.but E) := by
  simp only [execCreate.within, Bool.and_eq_true] at h
  unfold execCreate
  refine nchCmd_but (by simp only [h]) _ _ _ _ _ fun n t => ?_
  dsimp only
  split
  · rfl
  split
  · rfl
  split
  · rfl
  split
  · split <;> simp [h]
  · rfl

def applyNicheActive.within (E : Touch → Bool) : Bool := memZero.within E && updNiche.within E && E Reg.NCH_STATUS_IN_USE.touch &&
  setNicheState.within E
@[simp] theorem applyNicheActive_but (h : applyNicheActive.within E) (n : ℕ) (s : State) : (applyNicheActive n s).but E = s.but E := by
  simp only [applyNicheActive.within, Bool.and_eq_true] at h
  unfold applyNicheActive
  split <;> simp [h]

def fnNiches.within (E : Touch → Bool) : Bool := E Reg.HIF_FN_INFO_NICHES.touch
@[simp] theorem fnNiches_but (h : fnNiches.within E) (fn : ℕ) (s : State) : (fnNiches fn s).but E = s.but E := by
  simp only [fnNiches.within] at h
  simp [fnNiches, h]

def execBind.within (E : Touch → Bool) : Bool := nchOn.within E && E Reg.NCH_INFO_BOUND.touch && E Reg.NCH_INFO_PASID_VALID.touch &&
  E Reg.NCH_INFO_PASID.touch && E Reg.NCH_INFO_AP.touch && E Reg.NCH_INFO_RID.touch && E Reg.NCH_INFO_PAGE.touch && fnNiches.within E
@[simp] theorem execBind_but (h : execBind.within E) (who : Issuer) (s : State) : Outcome.but E (execBind who s) = some (s.but E) := by
  simp only [execBind.within, Bool.and_eq_true] at h
  unfold execBind
  refine nchOn_but (by simp only [h]) _ _ _ _ _ fun n t => ?_
  dsimp only
  split
  · rfl
  split
  · rfl
  split
  · rfl
  split
  · rfl
  split
  · split <;> simp [h]
  · rfl

def unbindNiche.within (E : Touch → Bool) : Bool := E (.part .hif) && E Reg.HIF_ATC_STATUS_VALID.touch && E Reg.NCH_INFO_BOUND.touch &&
  E Reg.NCH_INFO_PASID_VALID.touch && E Reg.NCH_INFO_PASID.touch && E Reg.NCH_INFO_AP.touch && E Reg.NCH_INFO_RID.touch &&
  E Reg.NCH_INFO_PAGE.touch && fnNiches.within E
@[simp] theorem unbindNiche_but (h : unbindNiche.within E) (n : ℕ) (s : State) : (unbindNiche n s).but E = s.but E := by
  simp only [unbindNiche.within, Bool.and_eq_true] at h
  simp [unbindNiche, h]

def beginReset.within (E : Touch → Bool) : Bool := updNiche.within E && State.defer.within E && setNicheState.within E
@[simp] theorem beginReset_but (h : beginReset.within E) (n : ℕ) (cause : ResetCause) (s : State) :
    (beginReset n cause s).but E = s.but E := by
  simp only [beginReset.within, Bool.and_eq_true] at h
  simp [beginReset, h]

def functionResetsNiche.within (E : Touch → Bool) : Bool := beginReset.within E
@[simp] theorem functionResetsNiche_but (h : functionResetsNiche.within E) (n : ℕ) (s : State) :
    (functionResetsNiche n s).but E = s.but E := by
  simp only [functionResetsNiche.within] at h
  simp [functionResetsNiche, h]

def execUnbind.within (E : Touch → Bool) : Bool := nchOn.within E && beginReset.within E
@[simp] theorem execUnbind_but (h : execUnbind.within E) (who : Issuer) (s : State) : Outcome.but E (execUnbind who s) = some
    (s.but E) := by
  simp only [execUnbind.within, Bool.and_eq_true] at h
  simp [execUnbind, h]

def execQuiesce.within (E : Touch → Bool) : Bool := nchOn.within E && State.defer.within E && setNicheState.within E
@[simp] theorem execQuiesce_but (h : execQuiesce.within E) (who : Issuer) (s : State) : Outcome.but E (execQuiesce who s) = some
    (s.but E) := by
  simp only [execQuiesce.within, Bool.and_eq_true] at h
  simp [execQuiesce, h]

def execNicheQuiesced.within (E : Touch → Bool) : Bool := raise.within E && E Reg.NCH_STATUS_QUIESCED.touch && setNicheState.within E
@[simp] theorem execNicheQuiesced_but (h : execNicheQuiesced.within E) (niche : ℕ) (s : State) : Outcome.but E
    (execNicheQuiesced niche s) = some (s.but E) := by
  simp only [execNicheQuiesced.within, Bool.and_eq_true] at h
  unfold execNicheQuiesced
  split <;> simp [h]

def execResume.within (E : Touch → Bool) : Bool := nchOn.within E && State.defer.within E && setNicheState.within E
@[simp] theorem execResume_but (h : execResume.within E) (who : Issuer) (s : State) : Outcome.but E (execResume who s) = some
    (s.but E) := by
  simp only [execResume.within, Bool.and_eq_true] at h
  simp [execResume, h]

def execReset.within (E : Touch → Bool) : Bool := nchOn.within E && beginReset.within E
@[simp] theorem execReset_but (h : execReset.within E) (who : Issuer) (s : State) : Outcome.but E (execReset who s) = some (s.but E) := by
  simp only [execReset.within, Bool.and_eq_true] at h
  simp [execReset, h]

def tdiEnterError.within (E : Touch → Bool) : Bool := raise.within E && E Reg.HIF_STATUS_TDI_ERROR.touch &&
  E Reg.HIF_FN_INFO_TDI_STATE.touch
@[simp] theorem tdiEnterError_but (h : tdiEnterError.within E) (fn : ℕ) (s : State) : (tdiEnterError fn s).but E = s.but E := by
  simp only [tdiEnterError.within, Bool.and_eq_true] at h
  simp [tdiEnterError, h]

def execDestroy.within (E : Touch → Bool) : Bool := nchOn.within E && tdiEnterError.within E && beginReset.within E
@[simp] theorem execDestroy_but (h : execDestroy.within E) (who : Issuer) (s : State) : Outcome.but E (execDestroy who s) = some
    (s.but E) := by
  simp only [execDestroy.within, Bool.and_eq_true] at h
  simp [execDestroy, h]

def wipeNiche.within (E : Touch → Bool) : Bool := memZero.within E && updNiche.within E && E Reg.NCH_INFO_LOGGING.touch &&
  E Reg.NCH_PG_SPOOF_DROP_COUNT.touch && E Reg.NCH_PG_SPOOF_DROP_SAT.touch && E Reg.NCH_PG_RX_DROP_COUNT.touch &&
  E Reg.NCH_PG_RX_DROP_SAT.touch
@[simp] theorem wipeNiche_but (h : wipeNiche.within E) (n : ℕ) (s : State) : (wipeNiche n s).but E = s.but E := by
  simp only [wipeNiche.within, Bool.and_eq_true] at h
  simp [wipeNiche, h]

def execTeardownDone.within (E : Touch → Bool) : Bool := E Reg.NCH_POOL_INFO_FREE.touch && E Reg.NCH_QUOTA_USED.touch &&
  E Reg.NCH_QUOTA_LIMIT.touch && E (.part .nch) && E Reg.NCH_INFO_STATE.touch && E Reg.NCH_INFO_POOL.touch &&
  E Reg.NCH_STACKED_BASE_MIB.touch && E Reg.NCH_STACKED_LEN_MIB.touch && E Reg.NCH_PG_STATUS_RESET_COUNT.touch &&
  E Reg.NCH_STATUS_IN_USE.touch && raise.within E
@[simp] theorem execTeardownDone_but (h : execTeardownDone.within E) (niche : ℕ) (s : State) : Outcome.but E
    (execTeardownDone niche s) = some (s.but E) := by
  simp only [execTeardownDone.within, Bool.and_eq_true] at h
  unfold execTeardownDone
  split <;> simp [h]

def execSpoofWrite.within (E : Touch → Bool) : Bool := nchOn.within E && updNiche.within E
@[simp] theorem execSpoofWrite_but (h : execSpoofWrite.within E) (who : Issuer) (entry : ℕ) (s : State) : Outcome.but E
    (execSpoofWrite who entry s) = some (s.but E) := by
  simp only [execSpoofWrite.within, Bool.and_eq_true] at h
  simp [execSpoofWrite, h]

def execSpoofMode.within (E : Touch → Bool) : Bool := nchOn.within E && updNiche.within E
@[simp] theorem execSpoofMode_but (h : execSpoofMode.within E) (who : Issuer) (s : State) : Outcome.but E (execSpoofMode who s) = some
    (s.but E) := by
  simp only [execSpoofMode.within, Bool.and_eq_true] at h
  simp [execSpoofMode, h]

def execWakeSet.within (E : Touch → Bool) : Bool := nchOn.within E && updNiche.within E
@[simp] theorem execWakeSet_but (h : execWakeSet.within E) (who : Issuer) (s : State) : Outcome.but E (execWakeSet who s) = some
    (s.but E) := by
  simp only [execWakeSet.within, Bool.and_eq_true] at h
  simp [execWakeSet, h]

def execLogStart.within (E : Touch → Bool) : Bool := nchOn.within E && State.defer.within E
@[simp] theorem execLogStart_but (h : execLogStart.within E) (who : Issuer) (block : ℕ) (s : State) : Outcome.but E
    (execLogStart who block s) = some (s.but E) := by
  simp only [execLogStart.within, Bool.and_eq_true] at h
  simp [execLogStart, h]

def applyLogStart.within (E : Touch → Bool) : Bool := updNiche.within E && E Reg.NCH_QUOTA_USED.touch && E Reg.NCH_INFO_LOGGING.touch
@[simp] theorem applyLogStart_but (h : applyLogStart.within E) (n : ℕ) (base : ℕ) (len : ℕ) (g : ℕ) (s : State) :
    (applyLogStart n base len g s).but E = s.but E := by
  simp only [applyLogStart.within, Bool.and_eq_true] at h
  simp [applyLogStart, h]

def execHarvest.within (E : Touch → Bool) : Bool := nchCmd.within E && State.defer.within E
@[simp] theorem execHarvest_but (h : execHarvest.within E) (who : Issuer) (s : State) : Outcome.but E (execHarvest who s) = some
    (s.but E) := by
  simp only [execHarvest.within, Bool.and_eq_true] at h
  unfold execHarvest
  refine nchCmd_but (by simp only [h]) _ _ _ _ _ fun a t => ?_
  split <;> simp [h]

def execLogStop.within (E : Touch → Bool) : Bool := nchCmd.within E && State.defer.within E
@[simp] theorem execLogStop_but (h : execLogStop.within E) (who : Issuer) (s : State) : Outcome.but E (execLogStop who s) = some
    (s.but E) := by
  simp only [execLogStop.within, Bool.and_eq_true] at h
  unfold execLogStop
  refine nchCmd_but (by simp only [h]) _ _ _ _ _ fun a t => ?_
  split <;> simp [h]

def applyLogSwap.within (E : Touch → Bool) : Bool := updNiche.within E && E Reg.NCH_INFO_LOGGING.touch
@[simp] theorem applyLogSwap_but (h : applyLogSwap.within E) (n : ℕ) (last : Bool) (s : State) :
    (applyLogSwap n last s).but E = s.but E := by
  simp only [applyLogSwap.within, Bool.and_eq_true] at h
  simp [applyLogSwap, h]

def execHarvestCopyDone.within (E : Touch → Bool) : Bool := hostPut.within E && updNiche.within E && E Reg.NCH_QUOTA_USED.touch &&
  cmdEnd.within Blk.nch E
@[simp] theorem execHarvestCopyDone_but (h : execHarvestCopyDone.within E) (s : State) : Outcome.but E (execHarvestCopyDone s) = some
    (s.but E) := by
  simp only [execHarvestCopyDone.within, Bool.and_eq_true] at h
  unfold execHarvestCopyDone
  repeat' split
  all_goals simp [h]

def execNicheCounterClear.within (E : Touch → Bool) : Bool := regGate.within E && E Reg.NCH_PG_SPOOF_DROP_COUNT.touch &&
  E Reg.NCH_PG_SPOOF_DROP_SAT.touch && E Reg.NCH_PG_RX_DROP_COUNT.touch && E Reg.NCH_PG_RX_DROP_SAT.touch
@[simp] theorem execNicheCounterClear_but (h : execNicheCounterClear.within E) (who : Issuer) (value : ℕ) (s : State) : Outcome.but E
    (execNicheCounterClear who value s) = some (s.but E) := by
  simp only [execNicheCounterClear.within, Bool.and_eq_true] at h
  simp [execNicheCounterClear, h]

def countPage.within (f : Field) (E : Touch → Bool) : Bool := countAt.within f E
@[simp] theorem countPage_but (f : Field) (h : countPage.within f E) (n : ℕ) (s : State) : (countPage f n s).but E = s.but E := by
  simp only [countPage.within] at h
  simp [countPage, h]

/-! #### Tiles -/

def waitReturn.within (E : Touch → Bool) : Bool := E (.part .out) && updThread.within E
@[simp] theorem waitReturn_but (h : waitReturn.within E) (h' : ℕ) (s : State) : (waitReturn h' s).but E = s.but E := by
  simp only [waitReturn.within, Bool.and_eq_true] at h
  simp [waitReturn, h]

@[simp] theorem threadActs_but (h' : ℕ) (f : State → State) (s : State) (hf : ∀ t, (f t).but E = t.but E) :
    Outcome.but E (threadActs h' f s) = some (s.but E) := by
  simp [threadActs, hf]

def execTcWait.within (E : Touch → Bool) : Bool := enterThrState.within E && waitReturn.within E
@[simp] theorem execTcWait_but (h : execTcWait.within E) (hart : ℕ) (s : State) : Outcome.but E (execTcWait hart s) = some (s.but E) := by
  simp only [execTcWait.within, Bool.and_eq_true] at h
  simp [execTcWait, h]

def execThreadWake.within (E : Touch → Bool) : Bool := waitReturn.within E && enterThrState.within E
@[simp] theorem execThreadWake_but (h : execThreadWake.within E) (hart : ℕ) (s : State) : Outcome.but E (execThreadWake hart s) = some
    (s.but E) := by
  simp only [execThreadWake.within, Bool.and_eq_true] at h
  simp [execThreadWake, h]

def execTimerEvent.within (E : Touch → Bool) : Bool := updThread.within E
@[simp] theorem execTimerEvent_but (h : execTimerEvent.within E) (hart : ℕ) (ns : ℕ) (s : State) : Outcome.but E
    (execTimerEvent hart ns s) = some (s.but E) := by
  simp only [execTimerEvent.within] at h
  simp [execTimerEvent, h]

def execTcBind.within (E : Touch → Bool) : Bool := updThread.within E
@[simp] theorem execTcBind_but (h : execTcBind.within E) (hart : ℕ) (value : ℕ) (s : State) : Outcome.but E
    (execTcBind hart value s) = some (s.but E) := by
  simp only [execTcBind.within] at h
  simp [execTcBind, h]

def execTcStrokeDone.within (E : Touch → Bool) : Bool := updThread.within E && E ((sbPeak 0).touch) &&
  E ((sbPeak 1).touch) && E ((sbPeak 2).touch) && E ((sbPeak 3).touch)
@[simp] theorem execTcStrokeDone_but (h : execTcStrokeDone.within E) (hart : ℕ) (cycles : ℕ) (s : State) : Outcome.but E
    (execTcStrokeDone hart cycles s) = some (s.but E) := by
  simp only [execTcStrokeDone.within, Bool.and_eq_true] at h
  have hp (c : ℕ) : E (sbPeak c).touch := by
    unfold sbPeak
    split <;> simp_all [sbPeak]
  unfold execTcStrokeDone
  refine threadActs_but _ _ _ fun t => ?_
  dsimp only
  split <;> simp [h, hp]

def setLast.within (E : Touch → Bool) : Bool := updThread.within E
@[simp] theorem setLast_but (h : setLast.within E) (h' : ℕ) (v : ℕ) (s : State) : (setLast h' v s).but E = s.but E := by
  simp only [setLast.within] at h
  simp [setLast, h]

def execTcChCommit.within (E : Touch → Bool) : Bool := updThread.within E && setLast.within E &&
  chanPut.within E && E (.part .til) && groupMoved.within E
@[simp] theorem execTcChCommit_but (h : execTcChCommit.within E) (hart : ℕ) (value : ℕ) (s : State) : Outcome.but E
    (execTcChCommit hart value s) = some (s.but E) := by
  simp only [execTcChCommit.within, Bool.and_eq_true] at h
  simp [execTcChCommit, h]

def execChCommitUnblock.within (E : Touch → Bool) : Bool := E (.part .til) && groupMoved.within E && chanPut.within E &&
  updThread.within E
@[simp] theorem execChCommitUnblock_but (h : execChCommitUnblock.within E) (chan : ℕ) (s : State) : Outcome.but E
    (execChCommitUnblock chan s) = some (s.but E) := by
  simp only [execChCommitUnblock.within, Bool.and_eq_true] at h
  unfold execChCommitUnblock
  split <;> simp [h]

def execTcChDiscard.within (E : Touch → Bool) : Bool := updThread.within E
@[simp] theorem execTcChDiscard_but (h : execTcChDiscard.within E) (hart : ℕ) (s : State) : Outcome.but E (execTcChDiscard hart s) = some
    (s.but E) := by
  simp only [execTcChDiscard.within] at h
  simp [execTcChDiscard, h]

def reportsWaiting.within (E : Touch → Bool) : Bool := E (.part .til)
@[simp] theorem reportsWaiting_but (h : reportsWaiting.within E) (t : ℕ) (put : ℕ → State → State) (s : State)
    (hput : ∀ a t, (put a t).but E = t.but E) : (reportsWaiting t put s).but E = s.but E := by
  simp only [reportsWaiting.within] at h
  unfold reportsWaiting
  split <;> simp [h, hput]

def execTcTake.within (E : Touch → Bool) : Bool := E (.part .out) && setChan.within E && updThread.within E &&
  reportsWaiting.within E && chanPut.within E
@[simp] theorem execTcTake_but (h : execTcTake.within E) (hart : ℕ) (ch : ℕ) (s : State) : Outcome.but E (execTcTake hart ch s) = some
    (s.but E) := by
  simp only [execTcTake.within, Bool.and_eq_true] at h
  unfold execTcTake
  refine threadActs_but _ _ _ fun t => ?_
  dsimp only
  split
  · simp [h]
  split <;> simp [h]

def execTcDmaSubmit.within (E : Touch → Bool) : Bool := setLast.within E && E (.part .til) && E (.part .rng) &&
  finish.within E
@[simp] theorem execTcDmaSubmit_but (h : execTcDmaSubmit.within E) (hart : ℕ) (value : ℕ) (s : State) : Outcome.but E
    (execTcDmaSubmit hart value s) = some (s.but E) := by
  simp only [execTcDmaSubmit.within, Bool.and_eq_true] at h
  simp [execTcDmaSubmit, h]

def threadPageWrite.within (E : Touch → Bool) : Bool := updThread.within E
@[simp] theorem threadPageWrite_but (h : threadPageWrite.within E) (hart : ℕ) (off : ℕ) (value : ℕ) (s : State) :
    (threadPageWrite hart off value s).but E = s.but E := by
  simp only [threadPageWrite.within] at h
  simp [threadPageWrite, h]

@[simp] theorem supervisor_but (hart : ℕ) (mask : ℕ) (f : ℕ → State → State) (s : State)
    (hf : ∀ a t, (f a t).but E = t.but E) : Outcome.but E (supervisor hart mask f s) = some (s.but E) := by
  simp [supervisor, hf]

def execSupInject.within (E : Touch → Bool) : Bool := updThread.within E
@[simp] theorem execSupInject_but (h : execSupInject.within E) (hart : ℕ) (mask : ℕ) (s : State) : Outcome.but E
    (execSupInject hart mask s) = some (s.but E) := by
  simp only [execSupInject.within] at h
  simp [execSupInject, h]

def startThread.within (E : Touch → Bool) : Bool := enterThrState.within E && updThread.within E
@[simp] theorem startThread_but (h : startThread.within E) (h' : ℕ) (s : State) : (startThread h' s).but E = s.but E := by
  simp only [startThread.within, Bool.and_eq_true] at h
  simp [startThread, h]

def execSupStart.within (E : Touch → Bool) : Bool := startThread.within E
@[simp] theorem execSupStart_but (h : execSupStart.within E) (hart : ℕ) (mask : ℕ) (s : State) : Outcome.but E
    (execSupStart hart mask s) = some (s.but E) := by
  simp only [execSupStart.within] at h
  simp [execSupStart, h]

def debugRefused.within (E : Touch → Bool) : Bool := E (.part .out) && patina.within E
@[simp] theorem debugRefused_but (h : debugRefused.within E) (h' : ℕ) (s : State) : (debugRefused h' s).but E = s.but E := by
  simp only [debugRefused.within, Bool.and_eq_true] at h
  simp [debugRefused, h]

def execDebugAccess.within (E : Touch → Bool) : Bool := E (.part .out) && debugRefused.within E && memWrite.within E
@[simp] theorem execDebugAccess_but (h : execDebugAccess.within E) (hart : ℕ) (kind : ℕ) (addr : ℕ) (value : ℕ) (s : State) :
    Outcome.but E (execDebugAccess hart kind addr value s) = some (s.but E) := by
  simp only [execDebugAccess.within, Bool.and_eq_true] at h
  unfold execDebugAccess
  dsimp only
  split <;> simp [h]

def setHalted.within (E : Touch → Bool) : Bool := E Reg.TIL_DBG_HALTED.touch
@[simp] theorem setHalted_but (h : setHalted.within E) (h' : ℕ) (v : ℕ) (s : State) : (setHalted h' v s).but E = s.but E := by
  simp only [setHalted.within] at h
  simp [setHalted, h]

def execDebugHalt.within (E : Touch → Bool) : Bool := debugRefused.within E && setHalted.within E && enterThrState.within E &&
  updThread.within E
@[simp] theorem execDebugHalt_but (h : execDebugHalt.within E) (hart : ℕ) (s : State) : Outcome.but E (execDebugHalt hart s) = some
    (s.but E) := by
  simp only [execDebugHalt.within, Bool.and_eq_true] at h
  simp [execDebugHalt, h]

def resumeThread.within (E : Touch → Bool) : Bool := setHalted.within E && enterThrState.within E
@[simp] theorem resumeThread_but (h : resumeThread.within E) (h' : ℕ) (s : State) : (resumeThread h' s).but E = s.but E := by
  simp only [resumeThread.within, Bool.and_eq_true] at h
  simp [resumeThread, h]

def execDebugResume.within (E : Touch → Bool) : Bool := debugRefused.within E && resumeThread.within E
@[simp] theorem execDebugResume_but (h : execDebugResume.within E) (hart : ℕ) (s : State) : Outcome.but E (execDebugResume hart s) = some
    (s.but E) := by
  simp only [execDebugResume.within, Bool.and_eq_true] at h
  simp [execDebugResume, h]

def execStagedDiscard.within (E : Touch → Bool) : Bool := updThread.within E && jDevice.within E && raise.within E &&
  E Reg.TIL_STATUS_STAGED_DISCARD.touch
@[simp] theorem execStagedDiscard_but (h : execStagedDiscard.within E) (hart : ℕ) (s : State) : Outcome.but E
    (execStagedDiscard hart s) = some (s.but E) := by
  simp only [execStagedDiscard.within, Bool.and_eq_true] at h
  simp [execStagedDiscard, h]

/-! #### Sends -/

def updSend.within (E : Touch → Bool) : Bool := E (.part .tlt)
@[simp] theorem updSend_but (h : updSend.within E) (peer : ℕ) (msg : ℕ) (f : Send → Send) (s : State) :
    (updSend peer msg f s).but E = s.but E := by
  simp only [updSend.within] at h
  simp [updSend, h]

def chunkLeft.within (E : Touch → Bool) : Bool := updSend.within E && finish.within E
@[simp] theorem chunkLeft_but (h : chunkLeft.within E) (peer : ℕ) (msg : ℕ) (chunk : ℕ) (s : State) :
    (chunkLeft peer msg chunk s).but E = s.but E := by
  simp only [chunkLeft.within, Bool.and_eq_true] at h
  unfold chunkLeft
  repeat' split
  all_goals simp [h]

/-! #### Stroke -/

def stepPendingBits.within (E : Touch → Bool) : Bool := E Reg.STK_STATUS_STEP_PENDING.touch && E Reg.STK_STEP_STATUS_PENDING.touch
@[simp] theorem stepPendingBits_but (h : stepPendingBits.within E) (s : State) : (stepPendingBits s).but E = s.but E := by
  simp only [stepPendingBits.within, Bool.and_eq_true] at h
  simp [stepPendingBits, h]

def stepResult.within (E : Touch → Bool) : Bool := raise.within E && E Reg.STK_STEP_STATUS_RESULT.touch && stepPendingBits.within E
@[simp] theorem stepResult_but (h : stepResult.within E) (r : ℕ) (s : State) : (stepResult r s).but E = s.but E := by
  simp only [stepResult.within, Bool.and_eq_true] at h
  simp [stepResult, h]

def recount.within (E : Touch → Bool) : Bool := E Reg.STK_COUNT_LEAD_LEAD.touch && E Reg.STK_COUNT_COUNT.touch
@[simp] theorem recount_but (h : recount.within E) (floor : ℕ) (s : State) : (recount floor s).but E = s.but E := by
  simp only [recount.within, Bool.and_eq_true] at h
  simp [recount, h]

def applyStep.within (E : Touch → Bool) : Bool := E (.part .stk) && recount.within E && E Reg.STK_STEP_STATUS_SLEW_LEFT.touch &&
  jDevice.within E && stepResult.within E
@[simp] theorem applyStep_but (h : applyStep.within E) (ns : ℤ) (s : State) : (applyStep ns s).but E = s.but E := by
  simp only [applyStep.within, Bool.and_eq_true] at h
  simp [applyStep, h]

def requestStep.within (E : Touch → Bool) : Bool := E (.part .stk) && stepResult.within E && stepPendingBits.within E
@[simp] theorem requestStep_but (h : requestStep.within E) (ns : ℤ) (silent : Bool) (s : State) :
    (requestStep ns silent s).1.but E = s.but E := by
  simp only [requestStep.within, Bool.and_eq_true] at h
  unfold requestStep
  dsimp only
  repeat' split
  all_goals simp [h]

def execPhcStepWrite.within (E : Touch → Bool) : Bool := setGate.within E && requestStep.within E && jRegWrite.within E
@[simp] theorem execPhcStepWrite_but (h : execPhcStepWrite.within E) (who : Issuer) (ns : ℕ) (s : State) : Outcome.but E
    (execPhcStepWrite who ns s) = some (s.but E) := by
  simp only [execPhcStepWrite.within, Bool.and_eq_true] at h
  simp [execPhcStepWrite, h]

def execStepLatch.within (E : Touch → Bool) : Bool := E (.part .stk) && E Reg.STK_STATUS_PHASE.touch
@[simp] theorem execStepLatch_but (h : execStepLatch.within E) (s : State) : Outcome.but E (execStepLatch s) = some (s.but E) := by
  simp only [execStepLatch.within, Bool.and_eq_true] at h
  unfold execStepLatch
  dsimp only
  split <;> simp [h]

def stepsDue.within (E : Touch → Bool) : Bool := applyStep.within E && E (.part .stk)
@[simp] theorem stepsDue_but (h : stepsDue.within E) (s : State) : (stepsDue s).but E = s.but E := by
  simp only [stepsDue.within, Bool.and_eq_true] at h
  unfold stepsDue
  repeat' split
  all_goals simp [h]

def setRate.within (E : Touch → Bool) : Bool := E Reg.STK_PHC_RATE_RATE.touch
@[simp] theorem setRate_but (h : setRate.within E) (i : ℤ) (s : State) : (setRate i s).but E = s.but E := by
  simp only [setRate.within] at h
  simp [setRate, h]

def execSlewDone.within (E : Touch → Bool) : Bool := E (.part .stk) && E Reg.STK_STEP_STATUS_SLEW_LEFT.touch && setRate.within E
@[simp] theorem execSlewDone_but (h : execSlewDone.within E) (s : State) : Outcome.but E (execSlewDone s) = some (s.but E) := by
  simp only [execSlewDone.within, Bool.and_eq_true] at h
  unfold execSlewDone
  dsimp only
  split <;> simp [h]

def execPhcRateWrite.within (E : Touch → Bool) : Bool := setGate.within E && E Reg.STK_STATUS_RATE_CLAMP.touch && setRate.within E &&
  E (.part .stk) && jRegWrite.within E
@[simp] theorem execPhcRateWrite_but (h : execPhcRateWrite.within E) (who : Issuer) (rate : ℕ) (s : State) : Outcome.but E
    (execPhcRateWrite who rate s) = some (s.but E) := by
  simp only [execPhcRateWrite.within, Bool.and_eq_true] at h
  simp [execPhcRateWrite, h]

def execRealignArm.within (E : Touch → Bool) : Bool := setGate.within E && E Reg.STK_STEP_STATUS_RESULT.touch && E (.part .stk) &&
  E Reg.STK_REALIGN_AT_STROKE.touch && E Reg.STK_REALIGN_ARM.touch && jRegWrite.within E
@[simp] theorem execRealignArm_but (h : execRealignArm.within E) (who : Issuer) (atStroke : ℕ) (s : State) : Outcome.but E
    (execRealignArm who atStroke s) = some (s.but E) := by
  simp only [execRealignArm.within, Bool.and_eq_true] at h
  simp [execRealignArm, h]

def disarm.within (E : Touch → Bool) : Bool := E Reg.STK_REALIGN_ARM.touch && E (.part .stk)
@[simp] theorem disarm_but (h : disarm.within E) (s : State) : (disarm s).but E = s.but E := by
  simp only [disarm.within, Bool.and_eq_true] at h
  simp [disarm, h]

def execRealignDisarm.within (E : Touch → Bool) : Bool := setGate.within E && E Reg.STK_REALIGN_AT_STROKE.touch && disarm.within E &&
  stepResult.within E && E (.part .stk) && jRegWrite.within E
@[simp] theorem execRealignDisarm_but (h : execRealignDisarm.within E) (who : Issuer) (atStroke : ℕ) (s : State) : Outcome.but E
    (execRealignDisarm who atStroke s) = some (s.but E) := by
  simp only [execRealignDisarm.within, Bool.and_eq_true] at h
  simp [execRealignDisarm, h]

def execRealignTarget.within (E : Touch → Bool) : Bool := disarm.within E && E (.part .stk) && applyStep.within E && stepResult.within E
@[simp] theorem execRealignTarget_but (h : execRealignTarget.within E) (s : State) : Outcome.but E (execRealignTarget s) = some
    (s.but E) := by
  simp only [execRealignTarget.within, Bool.and_eq_true] at h
  unfold execRealignTarget
  dsimp only
  repeat' split
  all_goals simp [h]

def clockAtSafe.within (E : Touch → Bool) : Bool := disarm.within E && E (.part .stk) && jDevice.within E && stepResult.within E
@[simp] theorem clockAtSafe_but (h : clockAtSafe.within E) (s : State) : (clockAtSafe s).but E = s.but E := by
  simp only [clockAtSafe.within, Bool.and_eq_true] at h
  simp [clockAtSafe, h]

def setAlign.within (E : Touch → Bool) : Bool := E Reg.STK_STATUS_ALIGN.touch && raise.within E
@[simp] theorem setAlign_but (h : setAlign.within E) (a : ℕ) (s : State) : (setAlign a s).but E = s.but E := by
  simp only [setAlign.within, Bool.and_eq_true] at h
  simp [setAlign, h]

def execAlignEstimateWrite.within (E : Touch → Bool) : Bool := setGate.within E && E Reg.STK_ALIGN_EST_OFFSET.touch && E (.part .stk) &&
  jRegWrite.within E && setAlign.within E
@[simp] theorem execAlignEstimateWrite_but (h : execAlignEstimateWrite.within E) (who : Issuer) (offset : ℕ) (s : State) : Outcome.but E
    (execAlignEstimateWrite who offset s) = some (s.but E) := by
  simp only [execAlignEstimateWrite.within, Bool.and_eq_true] at h
  simp [execAlignEstimateWrite, h]

def execAlignHoldover.within (E : Touch → Bool) : Bool := setAlign.within E
@[simp] theorem execAlignHoldover_but (h : execAlignHoldover.within E) (s : State) : Outcome.but E (execAlignHoldover s) = some
    (s.but E) := by
  simp only [execAlignHoldover.within] at h
  simp [execAlignHoldover, h]

def execPhcSecRead.within (E : Touch → Bool) : Bool := readGate.within E && E Reg.STK_PHC_SEC_SEC.touch && E Reg.STK_PHC_NS_NS.touch &&
  E Reg.STK_PHC_NS_FRAC.touch && reply.within E
@[simp] theorem execPhcSecRead_but (h : execPhcSecRead.within E) (who : Issuer) (ns : ℕ) (frac : ℕ) (s : State) : Outcome.but E
    (execPhcSecRead who ns frac s) = some (s.but E) := by
  simp only [execPhcSecRead.within, Bool.and_eq_true] at h
  simp [execPhcSecRead, h]

def txtsPut.within (E : Touch → Bool) : Bool := E (.part .stk) && raise.within E && countI.within Reg.STK_TXTS_DROP_COUNT E &&
  E Reg.STK_STATUS_TXTS_OVF.touch
@[simp] theorem txtsPut_but (h : txtsPut.within E) (mac : ℕ) (e : TxTs) (s : State) : (txtsPut mac e s).but E = s.but E := by
  simp only [txtsPut.within, Bool.and_eq_true] at h
  simp [txtsPut, h]

def execTxtsInfoRead.within (E : Touch → Bool) : Bool := readGate.within E && E Reg.STK_TXTS_TIME_TIME.touch && E (.part .stk) &&
  reply.within E
@[simp] theorem execTxtsInfoRead_but (h : execTxtsInfoRead.within E) (who : Issuer) (mac : ℕ) (s : State) : Outcome.but E
    (execTxtsInfoRead who mac s) = some (s.but E) := by
  simp only [execTxtsInfoRead.within, Bool.and_eq_true] at h
  simp [execTxtsInfoRead, h]

def execPpsInEdge.within (E : Touch → Bool) : Bool := E Reg.STK_PPS_IN_INFO_MISSED.touch && E (.part .stk) &&
  E Reg.STK_PPS_IN_TS_TIME.touch && E Reg.STK_PPS_IN_INFO_NEW.touch && E Reg.STK_PPS_IN_INFO_SUBNS.touch && raise.within E
@[simp] theorem execPpsInEdge_but (h : execPpsInEdge.within E) (ns : ℕ) (sub : ℕ) (s : State) : Outcome.but E
    (execPpsInEdge ns sub s) = some (s.but E) := by
  simp only [execPpsInEdge.within, Bool.and_eq_true] at h
  simp [execPpsInEdge, h]

def execPpsInTsRead.within (E : Touch → Bool) : Bool := readGate.within E && E (.part .stk) && reply.within E &&
  E Reg.STK_PPS_IN_INFO_NEW.touch
@[simp] theorem execPpsInTsRead_but (h : execPpsInTsRead.within E) (who : Issuer) (s : State) : Outcome.but E
    (execPpsInTsRead who s) = some (s.but E) := by
  simp only [execPpsInTsRead.within, Bool.and_eq_true] at h
  simp [execPpsInTsRead, h]

def execPpsOutPulse.within (E : Touch → Bool) : Bool := E (.part .stk)
@[simp] theorem execPpsOutPulse_but (h : execPpsOutPulse.within E) (assert : Bool) (s : State) : Outcome.but E
    (execPpsOutPulse assert s) = some (s.but E) := by
  simp only [execPpsOutPulse.within] at h
  simp [execPpsOutPulse, h]

def refLock.within (E : Touch → Bool) : Bool := E Reg.STK_STATUS_REF_LOCK.touch
@[simp] theorem refLock_but (h : refLock.within E) (s : State) : (refLock s).but E = s.but E := by
  simp only [refLock.within] at h
  simp [refLock, h]

def execClk10mLock.within (E : Touch → Bool) : Bool := refLock.within E && E (.part .stk)
@[simp] theorem execClk10mLock_but (h : execClk10mLock.within E) (s : State) : Outcome.but E (execClk10mLock s) = some (s.but E) := by
  simp only [execClk10mLock.within, Bool.and_eq_true] at h
  simp [execClk10mLock, h]

def execClk10mLockLoss.within (E : Touch → Bool) : Bool := refLock.within E && E (.part .stk) && raise.within E
@[simp] theorem execClk10mLockLoss_but (h : execClk10mLockLoss.within E) (s : State) : Outcome.but E (execClk10mLockLoss s) = some
    (s.but E) := by
  simp only [execClk10mLockLoss.within, Bool.and_eq_true] at h
  simp [execClk10mLockLoss, h]

def execTodMessage.within (E : Touch → Bool) : Bool := E Reg.STK_TOD_SEC_SEC.touch && E Reg.STK_TOD_INFO_VALID.touch &&
  E Reg.STK_TOD_INFO_LEAP_PENDING.touch && E Reg.STK_TOD_INFO_LEAP_NEG.touch && E Reg.STK_TOD_INFO_UTC_OFFSET.touch && raise.within E &&
  requestStep.within E && E Reg.STK_STATUS_TOD_ERR.touch
@[simp] theorem execTodMessage_but (h : execTodMessage.within E) (msg : ℕ) (ms : ℕ) (s : State) : Outcome.but E
    (execTodMessage msg ms s) = some (s.but E) := by
  simp only [execTodMessage.within, Bool.and_eq_true] at h
  simp [execTodMessage, h]

/-! #### Sched -/

def setQueue.within (E : Touch → Bool) : Bool := E (.part .sch)
@[simp] theorem setQueue_but (h : setQueue.within E) (q : ℕ) (l : List SFrame) (s : State) : (setQueue q l s).but E = s.but E := by
  simp only [setQueue.within] at h
  simp [setQueue, h]

def nodeShow.within (E : Touch → Bool) : Bool := E Reg.SCH_NODE_STATE_CREDIT.touch && E Reg.SCH_NODE_STATE_WAITING.touch &&
  E Reg.SCH_NODE_STATE_BACKLOG_KIB.touch
@[simp] theorem nodeShow_but (h : nodeShow.within E) (h' : ℕ) (s : State) : (nodeShow h' s).but E = s.but E := by
  simp only [nodeShow.within, Bool.and_eq_true] at h
  simp [nodeShow, h]

def pathShow.within (E : Touch → Bool) : Bool := nodeShow.within E
@[simp] theorem pathShow_but (h : pathShow.within E) (q : ℕ) (s : State) : (pathShow q s).but E = s.but E := by
  simp only [pathShow.within] at h
  simp [pathShow, h]

def setCredit.within (E : Touch → Bool) : Bool := E (.part .sch)
@[simp] theorem setCredit_but (h : setCredit.within E) (h' : ℕ) (c : ℤ) (s : State) : (setCredit h' c s).but E = s.but E := by
  simp only [setCredit.within] at h
  simp [setCredit, h]

def charge.within (E : Touch → Bool) : Bool := setCredit.within E
@[simp] theorem charge_but (h : charge.within E) (f : SFrame) (s : State) : (charge f s).but E = s.but E := by
  simp only [charge.within] at h
  simp [charge, h]

def gateShow.within (E : Touch → Bool) : Bool := E Reg.SCH_GCL_STATUS_GATES.touch && E Reg.SCH_NODE_STATE_GATE_OPEN.touch &&
  E Reg.SCH_GCL_STATUS_OPER_VALID.touch && E Reg.SCH_GCL_STATUS_ENTRY.touch && E Reg.SCH_GCL_STATUS_CYCLE.touch &&
  E Reg.SCH_GCL_STATUS_REMAIN.touch
@[simp] theorem gateShow_but (h : gateShow.within E) (p : ℕ) (s : State) : (gateShow p s).but E = s.but E := by
  simp only [gateShow.within, Bool.and_eq_true] at h
  unfold gateShow
  dsimp only
  split <;> simp [h]

def unsentStamp.within (E : Touch → Bool) : Bool := txtsPut.within E
@[simp] theorem unsentStamp_but (h : unsentStamp.within E) (p : ℕ) (f : SFrame) (s : State) : (unsentStamp p f s).but E = s.but E := by
  simp only [unsentStamp.within] at h
  unfold unsentStamp
  split <;> simp [h]

def frameEnds.within (E : Touch → Bool) : Bool := unsentStamp.within E && finish.within E
@[simp] theorem frameEnds_but (h : frameEnds.within E) (f : SFrame) (status : ℕ) (s : State) : (frameEnds f status s).but E = s.but E := by
  simp only [frameEnds.within, Bool.and_eq_true] at h
  unfold frameEnds
  split <;> simp [h]

def queueDrop.within (E : Touch → Bool) : Bool := countI.within Reg.SCH_Q_DROP_COUNT E && raise.within E &&
  E Reg.SCH_STATUS_QUEUE_DROP.touch && frameEnds.within E
@[simp] theorem queueDrop_but (h : queueDrop.within E) (f : SFrame) (status : ℕ) (s : State) : (queueDrop f status s).but E = s.but E := by
  simp only [queueDrop.within, Bool.and_eq_true] at h
  simp [queueDrop, h]

def sduDrop.within (E : Touch → Bool) : Bool := countI.within Reg.SCH_SDU_DROP_COUNT E && raise.within E &&
  E Reg.SCH_STATUS_SDU_DROP.touch && frameEnds.within E
@[simp] theorem sduDrop_but (h : sduDrop.within E) (f : SFrame) (s : State) : (sduDrop f s).but E = s.but E := by
  simp only [sduDrop.within, Bool.and_eq_true] at h
  simp [sduDrop, h]

def enqueue.within (E : Touch → Bool) : Bool := sduDrop.within E && queueDrop.within E && pathShow.within E && setQueue.within E
@[simp] theorem enqueue_but (h : enqueue.within E) (f : SFrame) (s : State) : (enqueue f s).but E = s.but E := by
  simp only [enqueue.within, Bool.and_eq_true] at h
  simp [enqueue, h]

def setTurn.within (E : Touch → Bool) : Bool := E (.part .sch)
@[simp] theorem setTurn_but (h : setTurn.within E) (h' : ℕ) (v : ℕ) (s : State) : (setTurn h' v s).but E = s.but E := by
  simp only [setTurn.within] at h
  simp [setTurn, h]

def setDeficit.within (E : Touch → Bool) : Bool := E (.part .sch)
@[simp] theorem setDeficit_but (h : setDeficit.within E) (h' : ℕ) (v : ℕ) (s : State) : (setDeficit h' v s).but E = s.but E := by
  simp only [setDeficit.within] at h
  simp [setDeficit, h]

def dwrr.within (E : Touch → Bool) : Bool := setTurn.within E && setDeficit.within E
theorem dwrr_but (h : dwrr.within E) (fuel : ℕ) (h' : ℕ) (cand : List (ℕ × ℕ)) (s : State) {r : ℕ × State}
    (e : dwrr fuel h' cand s = some r) : r.2.but E = s.but E := by
  simp only [dwrr.within, Bool.and_eq_true] at h
  induction fuel generalizing s r with
  | zero => cases e
  | succ n ih =>
    have step : ∀ {t r}, (match (rotate (cand.map (·.1)) ((Map.find? s.sch.turn h').getD 0)).head? with
        | some k => dwrr n h' cand (setTurn h' k
            (setDeficit k ((Map.find? s.sch.deficit k).getD 0 + max 1 (s.getI Reg.SCH_NODE_CFG_WEIGHT k) * 64) t))
        | none => none) = some r → r.2.but E = t.but E := by
      intro t r e
      split at e
      · rw [ih _ e]; simp [h]
      · cases e
    rw [dwrr] at e
    dsimp only at e
    split at e
    · split at e
      · cases e; simp [h]
      · exact step e
    · exact step e

def strictPick.within (E : Touch → Bool) : Bool := setTurn.within E
theorem strictPick_but (h : strictPick.within E) (h' : ℕ) (cand : List ℕ) (s : State) {r : ℕ × State} (e : strictPick h' cand s = some r) :
    r.2.but E = s.but E := by
  unfold strictPick.within at h
  unfold strictPick at e
  dsimp only at e
  split at e
  · cases e; simp [h]
  · cases e

def pick.within (E : Touch → Bool) : Bool := strictPick.within E && dwrr.within E
theorem pick_but (h : pick.within E) (fuel : ℕ) (at_ : ℕ) (h' : ℕ) (s : State) {r : SFrame × State} (e : pick fuel at_ h' s = some r) :
    r.2.but E = s.but E := by
  simp only [pick.within, Bool.and_eq_true] at h
  induction fuel generalizing h' s r with
  | zero => cases e
  | succ n ih =>
    rw [pick] at e
    dsimp only at e
    split at e
    · cases e
    split at e
    · obtain ⟨f, -, rfl⟩ := Option.map_eq_some_iff.1 e
      rfl
    split at e
    · next e' =>
      rw [ih _ _ e]
      split at e'
      · exact strictPick_but h.1 _ _ _ e'
      · exact dwrr_but h.2 _ _ _ _ e'
    · cases e

def select.within (E : Touch → Bool) : Bool := pick.within E
theorem select_but (h : select.within E) (s : State) (p : ℕ) (at_ : ℕ) (limit : ℕ) {r : SFrame × State}
    (e : select s p at_ limit = some r) : r.2.but E = s.but E := by
  unfold select.within at h
  obtain ⟨t, -, e⟩ := List.exists_of_findSome?_eq_some e
  split at e
  · cases e
  split at e
  · next e' =>
    dsimp only at e
    split at e
    · cases e; exact pick_but h _ _ _ _ e'
    · cases e
  · cases e

def unqueue.within (E : Touch → Bool) : Bool := setQueue.within E
@[simp] theorem unqueue_but (h : unqueue.within E) (f : SFrame) (s : State) : (unqueue f s).but E = s.but E := by
  simp only [unqueue.within] at h
  simp [unqueue, h]

def place.within (E : Touch → Bool) : Bool := charge.within E && unqueue.within E && E (.part .sch) && pathShow.within E
@[simp] theorem place_but (h : place.within E) (p : ℕ) (at_ : ℕ) (f : SFrame) (s : State) : (place p at_ f s).but E = s.but E := by
  simp only [place.within, Bool.and_eq_true] at h
  simp [place, h]

def lateFrame.within (E : Touch → Bool) : Bool := countI.within Reg.STK_LATE_COUNT E && setQueue.within E && frameEnds.within E &&
  pathShow.within E && unqueue.within E
@[simp] theorem lateFrame_but (h : lateFrame.within E) (p : ℕ) (f : SFrame) (s : State) : (lateFrame p f s).but E = s.but E := by
  simp only [lateFrame.within, Bool.and_eq_true] at h
  simp [lateFrame, h]

def buildList.within (E : Touch → Bool) : Bool := lateFrame.within E && place.within E && select.within E
@[simp] theorem buildList_but (h : buildList.within E) (fuel : ℕ) (p : ℕ) (at_ : ℕ) (end_ : ℕ) (s : State) :
    (buildList fuel p at_ end_ s).but E = s.but E := by
  simp only [buildList.within, Bool.and_eq_true] at h
  induction fuel generalizing at_ s with
  | zero => rfl
  | succ n ih =>
    rw [buildList]
    dsimp only
    split
    · split
      · split <;> simp [h, ih]
      split
      · rfl
      split
      · next e => simp [h, ih, select_but h.2 _ _ _ _ e]
      · simp [ih]
    · split
      · rfl
      split
      · next e => simp [h, ih, select_but h.2 _ _ _ _ e]
      · rfl

def dropUnfit.within (E : Touch → Bool) : Bool := sduDrop.within E && unqueue.within E
@[simp] theorem dropUnfit_but (h : dropUnfit.within E) (p : ℕ) (s : State) : (dropUnfit p s).but E = s.but E := by
  simp only [dropUnfit.within, Bool.and_eq_true] at h
  refine foldl_but (fun t e => ?_) _ _
  split
  · split <;> simp [h]
  · rfl

def execTransmitListBuild.within (E : Touch → Bool) : Bool := dropUnfit.within E && buildList.within E
@[simp] theorem execTransmitListBuild_but (h : execTransmitListBuild.within E) (port : ℕ) (s : State) : Outcome.but E
    (execTransmitListBuild port s) = some (s.but E) := by
  simp only [execTransmitListBuild.within, Bool.and_eq_true] at h
  simp [execTransmitListBuild, h]

def relist.within (E : Touch → Bool) : Bool := E (.part .sch) && setQueue.within E && lateFrame.within E
@[simp] theorem relist_but (h : relist.within E) (p : ℕ) (s : State) : (relist p s).but E = s.but E := by
  simp only [relist.within, Bool.and_eq_true] at h
  simp only [relist, foldl_but, implies_true, State.updSch_but, setQueue_but, lateFrame_but, h]

def execFrameTransmit.within (E : Touch → Bool) : Bool := E (.part .sch) && State.draw.within E &&
  addI.within Reg.SCH_Q_TX_BYTE_LO_BYTES E && addI.within Reg.SCH_Q_TX_PKT_COUNT E && E (.part .out) && txtsPut.within E &&
  chunkLeft.within E && finishAs.within E
@[simp] theorem execFrameTransmit_but (h : execFrameTransmit.within E) (port : ℕ) (sub : ℕ) (s : State) : Outcome.but E
    (execFrameTransmit port sub s) = some (s.but E) := by
  simp only [execFrameTransmit.within, Bool.and_eq_true] at h
  unfold execFrameTransmit
  repeat' split
  all_goals simp [h]

def refill.within (E : Touch → Bool) : Bool := E (.part .sch) && nodeShow.within E && setCredit.within E
@[simp] theorem refill_but (h : refill.within E) (s : State) (h' : ℕ) : (refill s h').but E = s.but E := by
  simp only [refill.within, Bool.and_eq_true] at h
  simp [refill, h]

def applyShaper.within (E : Touch → Bool) : Bool := E Reg.SCH_NODE_SHAPE_RATE.touch && E Reg.SCH_NODE_SHAPE_HI_LIMIT.touch &&
  E Reg.SCH_NODE_SHAPE_LO_LIMIT.touch && nodeShow.within E && setCredit.within E && E (.part .sch)
@[simp] theorem applyShaper_but (h : applyShaper.within E) (h' : ℕ) (value : ℕ) (s : State) : (applyShaper h' value s).but E = s.but E := by
  simp only [applyShaper.within, Bool.and_eq_true] at h
  simp [applyShaper, h]

def resetDeficits.within (E : Touch → Bool) : Bool := E (.part .sch)
@[simp] theorem resetDeficits_but (h : resetDeficits.within E) (hs : List ℕ) (s : State) : (resetDeficits hs s).but E = s.but E := by
  simp only [resetDeficits.within] at h
  simp [resetDeficits, h]

def runMeter.within (E : Touch → Bool) : Bool := E (.part .sch) && addI.within Reg.SCH_POL_GREEN_COUNT E &&
  addI.within Reg.SCH_POL_YELLOW_COUNT E && addI.within Reg.SCH_POL_RED_COUNT E
@[simp] theorem runMeter_but (h : runMeter.within E) (p : ℕ) (b : ℕ) (colour : ℕ) (aware : Bool) (s : State) :
    (runMeter p b colour aware s).2.but E = s.but E := by
  simp only [runMeter.within, Bool.and_eq_true] at h
  unfold runMeter
  dsimp only
  split <;> simp [h]

def execPolicerApply.within (E : Touch → Bool) : Bool := setGate.within E && boundViolation.within E && E Reg.SCH_POL_CFG_MODE.touch &&
  jRegWrite.within E && State.defer.within E
@[simp] theorem execPolicerApply_but (h : execPolicerApply.within E) (who : Issuer) (mode : ℕ) (s : State) : Outcome.but E
    (execPolicerApply who mode s) = some (s.but E) := by
  simp only [execPolicerApply.within, Bool.and_eq_true] at h
  simp [execPolicerApply, h]

def applyPolicer.within (E : Touch → Bool) : Bool := E (.part .sch)
@[simp] theorem applyPolicer_but (h : applyPolicer.within E) (p : ℕ) (mode : ℕ) (cir : ℕ) (cbs : ℕ) (rate2 : ℕ) (burst2 : ℕ) (s : State) :
    (applyPolicer p mode cir cbs rate2 burst2 s).but E = s.but E := by
  simp only [applyPolicer.within] at h
  simp [applyPolicer, h]

def execShaperChange.within (E : Touch → Bool) : Bool := setGate.within E && boundViolation.within E && jRegWrite.within E &&
  State.defer.within E
@[simp] theorem execShaperChange_but (h : execShaperChange.within E) (who : Issuer) (value : ℕ) (s : State) : Outcome.but E
    (execShaperChange who value s) = some (s.but E) := by
  simp only [execShaperChange.within, Bool.and_eq_true] at h
  simp [execShaperChange, h]

def schCmd.within (E : Touch → Bool) : Bool := regGate.within E && cmdStart.within Blk.sch E
@[simp] theorem schCmd_but (h : schCmd.within E) (op : ℕ) (who : Issuer) (niche : ℕ) (desc : Option (ℕ × ℕ)) (act : State → ℕ × State)
    (s : State) (hact : ∀ t, (act t).2.but E = t.but E) : Outcome.but E (schCmd op who niche desc act s) = some (s.but E) := by
  simp only [schCmd.within, Bool.and_eq_true] at h
  simp [schCmd, h, hact]

def execQueueBind.within (E : Touch → Bool) : Bool := schCmd.within E && E (.part .sch) && quotaTake.within E &&
  E Reg.SCH_QUEUE_CFG_NICHE.touch && E Reg.SCH_QUEUE_CFG_BOUND.touch && E Reg.SCH_QUEUE_CFG_LOCAL.touch
@[simp] theorem execQueueBind_but (h : execQueueBind.within E) (who : Issuer) (s : State) : Outcome.but E (execQueueBind who s) = some
    (s.but E) := by
  simp only [execQueueBind.within, Bool.and_eq_true] at h
  unfold execQueueBind
  refine schCmd_but (by simp only [h]) _ _ _ _ _ _ fun t => ?_
  split <;> simp [h]

def unbindQueue.within (E : Touch → Bool) : Bool := E (.part .sch) && quotaGive.within E && E Reg.SCH_QUEUE_CFG_NICHE.touch &&
  E Reg.SCH_QUEUE_CFG_BOUND.touch && E Reg.SCH_QUEUE_CFG_LOCAL.touch
@[simp] theorem unbindQueue_but (h : unbindQueue.within E) (q : ℕ) (s : State) : (unbindQueue q s).but E = s.but E := by
  simp only [unbindQueue.within, Bool.and_eq_true] at h
  simp [unbindQueue, h]

def execQueueUnbind.within (E : Touch → Bool) : Bool := schCmd.within E && unbindQueue.within E
@[simp] theorem execQueueUnbind_but (h : execQueueUnbind.within E) (who : Issuer) (s : State) : Outcome.but E
    (execQueueUnbind who s) = some (s.but E) := by
  simp only [execQueueUnbind.within, Bool.and_eq_true] at h
  simp [execQueueUnbind, h]

def execPolicerBind.within (E : Touch → Bool) : Bool := schCmd.within E && quotaTake.within E && E Reg.SCH_POL_CFG_NICHE.touch &&
  E Reg.SCH_POL_CFG_BOUND.touch
@[simp] theorem execPolicerBind_but (h : execPolicerBind.within E) (who : Issuer) (s : State) : Outcome.but E
    (execPolicerBind who s) = some (s.but E) := by
  simp only [execPolicerBind.within, Bool.and_eq_true] at h
  unfold execPolicerBind
  refine schCmd_but (by simp only [h]) _ _ _ _ _ _ fun t => ?_
  split <;> simp [h]

def unbindPolicer.within (E : Touch → Bool) : Bool := quotaGive.within E && E Reg.SCH_POL_CFG_NICHE.touch &&
  E Reg.SCH_POL_CFG_BOUND.touch && E Reg.SCH_POL_GREEN_COUNT.touch && E Reg.SCH_POL_YELLOW_COUNT.touch && E Reg.SCH_POL_RED_COUNT.touch
@[simp] theorem unbindPolicer_but (h : unbindPolicer.within E) (p : ℕ) (s : State) : (unbindPolicer p s).but E = s.but E := by
  simp only [unbindPolicer.within, Bool.and_eq_true] at h
  simp [unbindPolicer, h]

def execPolicerUnbind.within (E : Touch → Bool) : Bool := schCmd.within E && unbindPolicer.within E
@[simp] theorem execPolicerUnbind_but (h : execPolicerUnbind.within E) (who : Issuer) (s : State) : Outcome.but E
    (execPolicerUnbind who s) = some (s.but E) := by
  simp only [execPolicerUnbind.within, Bool.and_eq_true] at h
  simp [execPolicerUnbind, h]

def execGclSet.within (E : Touch → Bool) : Bool := schCmd.within E && E (.part .sch) && E Reg.SCH_GCL_STATUS_PENDING.touch &&
  E Reg.SCH_GCL_PEND_SWITCH_TIME.touch
@[simp] theorem execGclSet_but (h : execGclSet.within E) (who : Issuer) (list : ℕ) (s : State) : Outcome.but E
    (execGclSet who list s) = some (s.but E) := by
  simp only [execGclSet.within, Bool.and_eq_true] at h
  simp [execGclSet, h]

def dropPending.within (E : Touch → Bool) : Bool := E Reg.SCH_GCL_STATUS_PENDING.touch && E Reg.SCH_GCL_PEND_SWITCH_TIME.touch &&
  E (.part .sch)
@[simp] theorem dropPending_but (h : dropPending.within E) (p : ℕ) (s : State) : (dropPending p s).but E = s.but E := by
  simp only [dropPending.within, Bool.and_eq_true] at h
  simp [dropPending, h]

def execGclCancel.within (E : Touch → Bool) : Bool := schCmd.within E && dropPending.within E
@[simp] theorem execGclCancel_but (h : execGclCancel.within E) (who : Issuer) (s : State) : Outcome.but E (execGclCancel who s) = some
    (s.but E) := by
  simp only [execGclCancel.within, Bool.and_eq_true] at h
  simp [execGclCancel, h]

def execGclSwitch.within (E : Touch → Bool) : Bool := dropPending.within E && E (.part .sch) && gateShow.within E &&
  E Reg.SCH_GCL_STATUS_BANK.touch && raise.within E && E Reg.SCH_STATUS_GCL_SWITCH.touch
@[simp] theorem execGclSwitch_but (h : execGclSwitch.within E) (port : ℕ) (s : State) : Outcome.but E (execGclSwitch port s) = some
    (s.but E) := by
  simp only [execGclSwitch.within, Bool.and_eq_true] at h
  unfold execGclSwitch
  split <;> simp [h]

/-! #### Paths -/

def updPath.within (E : Touch → Bool) : Bool := E (.part .fab)
@[simp] theorem updPath_but (h : updPath.within E) (k : ℕ) (f : PathX → PathX) (s : State) : (updPath k f s).but E = s.but E := by
  simp only [updPath.within] at h
  simp [updPath, h]

def peerShow.within (E : Touch → Bool) : Bool := E Reg.FAB_PEER_INFO_PATHS_UP.touch && E Reg.FAB_PEER_INFO_PATHS.touch &&
  E Reg.TLT_PEER_INFO_PATHS.touch && E Reg.FAB_PEER_INFO_HOPS.touch
@[simp] theorem peerShow_but (h : peerShow.within E) (d : ℕ) (s : State) : (peerShow d s).but E = s.but E := by
  simp only [peerShow.within, Bool.and_eq_true] at h
  simp [peerShow, h]

def withPaths.within (E : Touch → Bool) : Bool := peerShow.within E && raise.within E && E Reg.FAB_STATUS_PEER_DOWN.touch
@[simp] theorem withPaths_but (h : withPaths.within E) (d : ℕ) (f : State → State) (s : State) (hf : ∀ t, (f t).but E = t.but E) :
    (withPaths d f s).but E = s.but E := by
  simp only [withPaths.within, Bool.and_eq_true] at h
  simp [withPaths, h, hf]

def buildPath.within (E : Touch → Bool) : Bool := E (.part .fab) && E Reg.FAB_PATH_INFO_STATE.touch && E Reg.FAB_PATH_INFO_MAC.touch &&
  E Reg.FAB_PATH_INFO_TEMPLATE.touch && E Reg.FAB_PATH_INFO_UDP_SPORT.touch && E Reg.FAB_PATH_INFO_MISSES.touch &&
  E Reg.FAB_PATH_INFO_RESPRAYS.touch
@[simp] theorem buildPath_but (h : buildPath.within E) (d : ℕ) (i : ℕ) (t : ℕ) (s : State) : (buildPath d i t s).but E = s.but E := by
  simp only [buildPath.within, Bool.and_eq_true] at h
  simp [buildPath, h]

def buildPaths.within (E : Touch → Bool) : Bool := withPaths.within E && buildPath.within E
@[simp] theorem buildPaths_but (h : buildPaths.within E) (d : ℕ) (s : State) : (buildPaths d s).but E = s.but E := by
  simp only [buildPaths.within, Bool.and_eq_true] at h
  unfold buildPaths
  refine withPaths_but (by simp only [h]) _ _ _ fun t => ?_
  simp [h]

def dropPaths.within (E : Touch → Bool) : Bool := withPaths.within E && E Reg.FAB_PATH_INFO_STATE.touch &&
  E Reg.FAB_PATH_INFO_MAC.touch && E Reg.FAB_PATH_INFO_TEMPLATE.touch && E Reg.FAB_PATH_INFO_UDP_SPORT.touch &&
  E Reg.FAB_PATH_INFO_MISSES.touch && E Reg.FAB_PATH_INFO_RESPRAYS.touch && E (.part .fab)
@[simp] theorem dropPaths_but (h : dropPaths.within E) (d : ℕ) (s : State) : (dropPaths d s).but E = s.but E := by
  simp only [dropPaths.within, Bool.and_eq_true] at h
  unfold dropPaths
  refine withPaths_but (by simp only [h]) _ _ _ fun t => ?_
  simp [h]

def pickPath.within (E : Touch → Bool) : Bool := E (.part .tlt)
theorem pickPath_but (h : pickPath.within E) (d : ℕ) (avoid : Option ℕ) (s : State) {r : ℕ × State} (e : pickPath d avoid s = some r) :
    r.2.but E = s.but E := by
  unfold pickPath.within at h
  unfold pickPath at e
  dsimp only at e
  split at e
  · cases e; simp [h]
  · cases e

def pathSent.within (E : Touch → Bool) : Bool := updPath.within E
@[simp] theorem pathSent_but (h : pathSent.within E) (d : ℕ) (i : ℕ) (s : State) : (pathSent d i s).but E = s.but E := by
  simp only [pathSent.within] at h
  simp [pathSent, h]

def pathEcho.within (E : Touch → Bool) : Bool := updPath.within E && State.defer.within E
@[simp] theorem pathEcho_but (h : pathEcho.within E) (d : ℕ) (i : ℕ) (s : State) : (pathEcho d i s).but E = s.but E := by
  simp only [pathEcho.within, Bool.and_eq_true] at h
  unfold pathEcho
  split <;> simp [h]

def underlayFrame.within (E : Touch → Bool) : Bool := State.draw.within E
@[simp] theorem underlayFrame_but (h : underlayFrame.within E) (t : ℕ) (sport : ℕ) (addr : ℕ) (p : TlPkt) (s : State) :
    (underlayFrame t sport addr p s).2.but E = s.but E := by
  simp only [underlayFrame.within] at h
  simp [underlayFrame, h]

def txCount.within (E : Touch → Bool) : Bool := addI.within Reg.TLT_TX_BYTE_LO_BYTES E && addI.within Reg.TLT_TX_PKT_COUNT E
@[simp] theorem txCount_but (h : txCount.within E) (n : ℕ) (s : State) : (txCount n s).but E = s.but E := by
  simp only [txCount.within, Bool.and_eq_true] at h
  simp [txCount, h]

def sendPacket.within (E : Touch → Bool) : Bool := pickPath.within E && txCount.within E && pathSent.within E &&
  underlayFrame.within E && enqueue.within E && E (.part .out)
@[simp] theorem sendPacket_but (h : sendPacket.within E) (queue : Option ℕ) (tl : Option (ℕ × ℕ × ℕ)) (avoid : Option ℕ) (p : TlPkt)
    (s : State) : (sendPacket queue tl avoid p s).2.but E = s.but E := by
  simp only [sendPacket.within, Bool.and_eq_true] at h
  unfold sendPacket
  split
  · rfl
  next e =>
  have e' := pickPath_but (E := E) (by simp only [h]) _ _ _ e
  split <;> simp_all

def sendControl.within (E : Touch → Bool) : Bool := E (.part .out)
@[simp] theorem sendControl_but (h : sendControl.within E) (mac : ℕ) (addr : ℕ) (p : TlPkt) (s : State) :
    (sendControl mac addr p s).but E = s.but E := by
  simp only [sendControl.within] at h
  simp [sendControl, h]

def transitDrop.within (E : Touch → Bool) : Bool := count.within Reg.FAB_TRANSIT_DROP_COUNT E && raise.within E &&
  E Reg.FAB_STATUS_TRANSIT_DROP.touch
@[simp] theorem transitDrop_but (h : transitDrop.within E) (reason : ℕ) (s : State) : (transitDrop reason s).but E = s.but E := by
  simp only [transitDrop.within, Bool.and_eq_true] at h
  simp [transitDrop, h]

def transit.within (E : Touch → Bool) : Bool := transitDrop.within E && enqueue.within E && addI.within Reg.FAB_TRANSIT_PKT_COUNT E
@[simp] theorem transit_but (h : transit.within E) (l : List Byte) (s : State) : (transit l s).but E = s.but E := by
  simp only [transit.within, Bool.and_eq_true] at h
  unfold transit
  dsimp only
  repeat' split
  all_goals simp [h]

/-! #### Transport -/

def freeIndex.within (E : Touch → Bool) : Bool := State.draw.within E
@[simp] theorem freeIndex_but (h : freeIndex.within E) (bound : ℕ) (used : List ℕ) (s : State) :
    (freeIndex bound used s).2.but E = s.but E := by
  simp only [freeIndex.within] at h
  simp [freeIndex, h]

def winPut.within (E : Touch → Bool) : Bool := hostPut.within E && memWriteList.within E
@[simp] theorem winPut_but (h : winPut.within E) (w : Window) (off : ℕ) (data : List Byte) (s : State) :
    (winPut w off data s).but E = s.but E := by
  simp only [winPut.within, Bool.and_eq_true] at h
  simp [winPut, h]

def openWin.within (E : Touch → Bool) : Bool := E (.part .tlt)
@[simp] theorem openWin_but (h : openWin.within E) (i : ℕ) (w : Window) (s : State) : (openWin i w s).2.but E = s.but E := by
  simp only [openWin.within] at h
  simp [openWin, h]

def freshIndex.within (E : Touch → Bool) : Bool := freeIndex.within E
@[simp] theorem freshIndex_but (h : freshIndex.within E) (s : State) : (freshIndex s).2.but E = s.but E := by
  simp only [freshIndex.within] at h
  simp [freshIndex, h]

def closeWin.within (E : Touch → Bool) : Bool := E (.part .tlt) && freshIndex.within E
@[simp] theorem closeWin_but (h : closeWin.within E) (i : ℕ) (s : State) : (closeWin i s).2.but E = s.but E := by
  simp only [closeWin.within, Bool.and_eq_true] at h
  unfold closeWin
  repeat' split
  all_goals simp [h]

def updPeer.within (E : Touch → Bool) : Bool := E (.part .tlt)
@[simp] theorem updPeer_but (h : updPeer.within E) (d : ℕ) (f : PeerX → PeerX) (s : State) : (updPeer d f s).but E = s.but E := by
  simp only [updPeer.within] at h
  simp [updPeer, h]

def newPeer.within (E : Touch → Bool) : Bool := E Reg.TLT_PEER_INFO_KNOWN.touch && E Reg.TLT_PEER_INFO_PEER_EPOCH.touch &&
  E Reg.TLT_PEER_INFO_RATE_MBPS.touch && E Reg.TLT_PEER_RTO_SRTT.touch && E Reg.TLT_PEER_RTO_RTO.touch && updPeer.within E
@[simp] theorem newPeer_but (h : newPeer.within E) (d : ℕ) (s : State) : (newPeer d s).but E = s.but E := by
  simp only [newPeer.within, Bool.and_eq_true] at h
  simp [newPeer, h]

def tltShow.within (E : Touch → Bool) : Bool := E Reg.TLT_TRK_SEND_USED.touch && E Reg.TLT_TRK_RECV_USED.touch
@[simp] theorem tltShow_but (h : tltShow.within E) (s : State) : (tltShow s).but E = s.but E := by
  simp only [tltShow.within, Bool.and_eq_true] at h
  simp [tltShow, h]

def peerCount.within (E : Touch → Bool) : Bool := tltShow.within E && E Reg.TLT_PEER_INFO_OUTSTANDING.touch
@[simp] theorem peerCount_but (h : peerCount.within E) (d : ℕ) (s : State) : (peerCount d s).but E = s.but E := by
  simp only [peerCount.within, Bool.and_eq_true] at h
  simp [peerCount, h]

def sendChunk.within (E : Touch → Bool) : Bool := updSend.within E && updPeer.within E && count.within Reg.TLT_RETX_COUNT E &&
  sendPacket.within E && chunkLeft.within E
@[simp] theorem sendChunk_but (h : sendChunk.within E) (peer : ℕ) (msg : ℕ) (k : ℕ) (retry : Bool) (s : State) :
    (sendChunk peer msg k retry s).but E = s.but E := by
  simp only [sendChunk.within, Bool.and_eq_true] at h
  unfold sendChunk
  dsimp only
  repeat' split
  all_goals simp [h]

def pump.within (E : Touch → Bool) : Bool := updSend.within E && sendChunk.within E
@[simp] theorem pump_but (h : pump.within E) (peer : ℕ) (msg : ℕ) (s : State) : (pump peer msg s).but E = s.but E := by
  simp only [pump.within, Bool.and_eq_true] at h
  unfold pump
  split <;> simp [h]

def newSend.within (E : Touch → Bool) : Bool := updPeer.within E && pump.within E && peerCount.within E && E (.part .tlt)
@[simp] theorem newSend_but (h : newSend.within E) (x : Send) (s : State) : (newSend x s).but E = s.but E := by
  simp only [newSend.within, Bool.and_eq_true] at h
  simp [newSend, h]

def dropSend.within (E : Touch → Bool) : Bool := peerCount.within E && E (.part .tlt)
@[simp] theorem dropSend_but (h : dropSend.within E) (peer : ℕ) (msg : ℕ) (s : State) : (dropSend peer msg s).but E = s.but E := by
  simp only [dropSend.within, Bool.and_eq_true] at h
  simp [dropSend, h]

def abandon.within (E : Touch → Bool) : Bool := pump.within E && updSend.within E
@[simp] theorem abandon_but (h : abandon.within E) (x : Send) (s : State) : (abandon x s).but E = s.but E := by
  simp only [abandon.within, Bool.and_eq_true] at h
  simp [abandon, h]

def workNotice.within (E : Touch → Bool) : Bool := noticePut.within E && raiseTo.within E
@[simp] theorem workNotice_but (h : workNotice.within E) (ring : ℕ) (port : Option (ℕ × ℕ)) (niche : ℕ) (id : ℕ) (obj : ℕ) (data : ℕ)
    (s : State) : (workNotice ring port niche id obj data s).but E = s.but E := by
  simp only [workNotice.within, Bool.and_eq_true] at h
  unfold workNotice
  split <;> simp [h]

def lateFail.within (E : Touch → Bool) : Bool := E Reg.TLT_STATUS_LATE_FAIL.touch && count.within Reg.TLT_LATE_FAIL_COUNT E &&
  workNotice.within E
@[simp] theorem lateFail_but (h : lateFail.within E) (x : Send) (st : ℕ) (s : State) : (lateFail x st s).but E = s.but E := by
  simp only [lateFail.within, Bool.and_eq_true] at h
  simp [lateFail, h]

def workEnd.within (E : Touch → Bool) : Bool := finish.within E && updFlight.within E && lateFail.within E
@[simp] theorem workEnd_but (h : workEnd.within E) (x : Send) (seq : ℕ) (st : ℕ) (result : ℕ) (s : State) :
    (workEnd x seq st result s).but E = s.but E := by
  simp only [workEnd.within, Bool.and_eq_true] at h
  unfold workEnd
  split <;> simp [h]

def epFailed.within (E : Touch → Bool) : Bool := E (.part .tlt)
@[simp] theorem epFailed_but (h : epFailed.within E) (ep : ℕ) (d : ℕ) (s : State) : (epFailed ep d s).but E = s.but E := by
  simp only [epFailed.within] at h
  simp [epFailed, h]

def updEp.within (E : Touch → Bool) : Bool := E (.part .tlt)
@[simp] theorem updEp_but (h : updEp.within E) (ep : ℕ) (f : Endpoint → Endpoint) (s : State) : (updEp ep f s).but E = s.but E := by
  simp only [updEp.within] at h
  simp [updEp, h]

def ctxShow.within (E : Touch → Bool) : Bool := E Reg.TLT_CTX_ONDIE.touch && E Reg.TLT_CTX_EVICTED.touch &&
  E Reg.TLT_CTX_RECALL_HELD.touch
@[simp] theorem ctxShow_but (h : ctxShow.within E) (s : State) : (ctxShow s).but E = s.but E := by
  simp only [ctxShow.within, Bool.and_eq_true] at h
  simp [ctxShow, h]

def evict.within (E : Touch → Bool) : Bool := State.draw.within E && hostPut.within E && updEp.within E
@[simp] theorem evict_but (h : evict.within E) (ep : ℕ) (s : State) : (evict ep s).but E = s.but E := by
  simp only [evict.within, Bool.and_eq_true] at h
  unfold evict
  split <;> simp [h]

def makeRoom.within (E : Touch → Bool) : Bool := evict.within E
@[simp] theorem makeRoom_but (h : makeRoom.within E) (s : State) : (makeRoom s).2.but E = s.but E := by
  simp only [makeRoom.within] at h
  unfold makeRoom
  repeat' split
  all_goals simp [h]

def touchEp.within (E : Touch → Bool) : Bool := updEp.within E && E (.part .tlt)
@[simp] theorem touchEp_but (h : touchEp.within E) (ep : ℕ) (s : State) : (touchEp ep s).but E = s.but E := by
  simp only [touchEp.within, Bool.and_eq_true] at h
  simp [touchEp, h]

def recallStart.within (E : Touch → Bool) : Bool := addI.within Reg.TLT_RECALLS_COUNT E && updEp.within E && E (.part .rgl) &&
  needRead.within E
@[simp] theorem recallStart_but (h : recallStart.within E) (ep : ℕ) (s : State) : (recallStart ep s).but E = s.but E := by
  simp only [recallStart.within, Bool.and_eq_true] at h
  unfold recallStart
  split <;> simp [h]

def stateDone.within (E : Touch → Bool) : Bool := finish.within E && jWork.within E
@[simp] theorem stateDone_but (h : stateDone.within E) (blk : ℕ) (seq : ℕ) (st : ℕ) (result : ℕ) (s : State) :
    (stateDone blk seq st result s).but E = s.but E := by
  simp only [stateDone.within, Bool.and_eq_true] at h
  unfold stateDone
  split <;> simp [h]

/-! #### Pool -/

def grantDrop.within (E : Touch → Bool) : Bool := count.within Reg.FAB_GRANT_DROP_COUNT E && raise.within E &&
  E Reg.FAB_STATUS_GRANT_DROP.touch
@[simp] theorem grantDrop_but (h : grantDrop.within E) (src : ℕ) (seg : ℕ) (s : State) : (grantDrop src seg s).but E = s.but E := by
  simp only [grantDrop.within, Bool.and_eq_true] at h
  simp [grantDrop, h]

def poolRefused.within (E : Touch → Bool) : Bool := grantDrop.within E
@[simp] theorem poolRefused_but (h : poolRefused.within E) (src : ℕ) (key : ℕ) (st : ℕ) (s : State) :
    (poolRefused src key st s).but E = s.but E := by
  simp only [poolRefused.within] at h
  simp [poolRefused, h]

def atomicAt.within (E : Touch → Bool) : Bool := memWriteList.within E
@[simp] theorem atomicAt_but (h : atomicAt.within E) (addr : ℕ) (atop : ℕ) (operand : ℕ) (compare : ℕ) (s : State) :
    (atomicAt addr atop operand compare s).2.but E = s.but E := by
  simp only [atomicAt.within] at h
  unfold atomicAt
  dsimp only
  split <;> simp [h]

/-! #### Dma -/

def dmaError.within (E : Touch → Bool) : Bool := count.within Reg.DMA_ERR_CNT_COUNT E && E Reg.DMA_ERR_LAST_STATUS.touch &&
  E Reg.DMA_ERR_LAST_NICHE.touch && E Reg.DMA_ERR_LAST_RING.touch && E Reg.DMA_ERR_LAST_TAG.touch && raise.within E &&
  E Reg.DMA_STATUS_ERR.touch
@[simp] theorem dmaError_but (h : dmaError.within E) (f : Flight) (st : ℕ) (s : State) : (dmaError f st s).but E = s.but E := by
  simp only [dmaError.within, Bool.and_eq_true] at h
  simp [dmaError, h]

def dmaComplete.within (E : Touch → Bool) : Bool := dmaError.within E && finish.within E
@[simp] theorem dmaComplete_but (h : dmaComplete.within E) (seq : ℕ) (st : ℕ) (bytes : ℕ) (element : ℕ) (s : State) :
    (dmaComplete seq st bytes element s).but E = s.but E := by
  simp only [dmaComplete.within, Bool.and_eq_true] at h
  unfold dmaComplete
  split <;> simp [h]

def updRun.within (E : Touch → Bool) : Bool := E (.part .dma)
@[simp] theorem updRun_but (h : updRun.within E) (c : ℕ) (g : DmaRun → DmaRun) (s : State) : (updRun c g s).but E = s.but E := by
  simp only [updRun.within] at h
  simp [updRun, h]

def freeChannel.within (E : Touch → Bool) : Bool := E Reg.DMA_CH_STAT_BUSY.touch && E Reg.DMA_CH_STAT_REPEAT.touch &&
  E Reg.DMA_CH_STAT_PRIO.touch && E Reg.DMA_CH_STAT_NICHE.touch && E Reg.DMA_CH_STAT_RING.touch && E Reg.DMA_CH_STAT_TAG.touch &&
  E (.part .dma)
@[simp] theorem freeChannel_but (h : freeChannel.within E) (c : ℕ) (s : State) : (freeChannel c s).but E = s.but E := by
  simp only [freeChannel.within, Bool.and_eq_true] at h
  simp [freeChannel, h]

def dmaForget.within (E : Touch → Bool) : Bool := freeChannel.within E && E (.part .dma) && abandon.within E
@[simp] theorem dmaForget_but (h : dmaForget.within E) (seq : ℕ) (s : State) : (dmaForget seq s).but E = s.but E := by
  simp only [dmaForget.within, Bool.and_eq_true] at h
  unfold dmaForget
  split <;> simp [h]

def dmaStop.within (E : Touch → Bool) : Bool := dmaComplete.within E && dmaForget.within E
@[simp] theorem dmaStop_but (h : dmaStop.within E) (seq : ℕ) (st : ℕ) (s : State) : (dmaStop seq st s).but E = s.but E := by
  simp only [dmaStop.within, Bool.and_eq_true] at h
  unfold dmaStop
  split <;> simp [h]

def writeStream.within (E : Touch → Bool) : Bool := State.draw.within E && hostPut.within E && memWriteList.within E
@[simp] theorem writeStream_but (h : writeStream.within E) (f : Flight) (e : ℕ) (a : ℕ) (b : ℕ) (s : State) :
    (writeStream f e a b s).but E = s.but E := by
  simp only [writeStream.within, Bool.and_eq_true] at h
  simp [writeStream, h]

def remoteNext.within (E : Touch → Bool) : Bool := dmaStop.within E && State.draw.within E && newSend.within E
@[simp] theorem remoteNext_but (h : remoteNext.within E) (r : DmaRun) (f : Flight) (e : ℕ) (s : State) :
    (remoteNext r f e s).but E = s.but E := by
  simp only [remoteNext.within, Bool.and_eq_true] at h
  unfold remoteNext
  dsimp only
  repeat' split
  all_goals simp [h]

def feedElement.within (E : Touch → Bool) : Bool := updRun.within E && updFlight.within E && needRead.within E
@[simp] theorem feedElement_but (h : feedElement.within E) (c : ℕ) (r : DmaRun) (f : Flight) (e : ℕ) (s : State) :
    (feedElement c r f e s).but E = s.but E := by
  simp only [feedElement.within, Bool.and_eq_true] at h
  simp [feedElement, h]

def dmaAdvance.within (E : Touch → Bool) : Bool := dmaStop.within E && feedElement.within E && remoteNext.within E &&
  addI.within Reg.DMA_BEATS_COUNT E && writeStream.within E && updRun.within E
@[simp] theorem dmaAdvance_but (h : dmaAdvance.within E) (fuel : ℕ) (c : ℕ) (seq : ℕ) (target : ℕ) (s : State) :
    (dmaAdvance fuel c seq target s).2.but E = s.but E := by
  simp only [dmaAdvance.within, Bool.and_eq_true] at h
  induction fuel generalizing s with
  | zero => rfl
  | succ n ih =>
    rw [dmaAdvance]
    split
    · simp [h, ih]
    · rfl

def dmaNotice.within (E : Touch → Bool) : Bool := workNotice.within E
@[simp] theorem dmaNotice_but (h : dmaNotice.within E) (id : ℕ) (r : DmaRun) (f : Flight) (s : State) :
    (dmaNotice id r f s).but E = s.but E := by
  simp only [dmaNotice.within] at h
  simp [dmaNotice, h]

def dmaToHalf.within (E : Touch → Bool) : Bool := dmaAdvance.within E && updRun.within E && dmaNotice.within E
@[simp] theorem dmaToHalf_but (h : dmaToHalf.within E) (c : ℕ) (r : DmaRun) (f : Flight) (s : State) :
    (dmaToHalf c r f s).2.but E = s.but E := by
  simp only [dmaToHalf.within, Bool.and_eq_true] at h
  simp [dmaToHalf, h]

def execDmaHalfPoint.within (E : Touch → Bool) : Bool := dmaToHalf.within E
@[simp] theorem execDmaHalfPoint_but (h : execDmaHalfPoint.within E) (chan : ℕ) (s : State) : Outcome.but E
    (execDmaHalfPoint chan s) = some (s.but E) := by
  simp only [execDmaHalfPoint.within] at h
  unfold execDmaHalfPoint
  repeat' split
  all_goals simp [h]

def execDmaPassEnd.within (E : Touch → Bool) : Bool := dmaToHalf.within E && dmaAdvance.within E && dmaStop.within E &&
  dmaNotice.within E && updRun.within E && dmaComplete.within E && dmaForget.within E
@[simp] theorem execDmaPassEnd_but (h : execDmaPassEnd.within E) (chan : ℕ) (s : State) : Outcome.but E (execDmaPassEnd chan s) = some
    (s.but E) := by
  simp only [execDmaPassEnd.within, Bool.and_eq_true] at h
  unfold execDmaPassEnd
  split
  · rfl
  · split <;> simp [h]

def dmaQueue.within (E : Touch → Bool) : Bool := E Reg.DMA_STATUS_CAP_CLAMP.touch && E (.part .dma)
@[simp] theorem dmaQueue_but (h : dmaQueue.within E) (f : Flight) (host : List ℕ) (s : State) : (dmaQueue f host s).but E = s.but E := by
  simp only [dmaQueue.within, Bool.and_eq_true] at h
  simp [dmaQueue, h]

def dmaIntake.within (E : Touch → Bool) : Bool := dmaComplete.within E && dmaQueue.within E
@[simp] theorem dmaIntake_but (h : dmaIntake.within E) (f : Flight) (s : State) : (dmaIntake f s).but E = s.but E := by
  simp only [dmaIntake.within, Bool.and_eq_true] at h
  simp [dmaIntake, h]

def execCopy.within (E : Touch → Bool) : Bool := startWork.within E && dmaIntake.within E
@[simp] theorem execCopy_but (h : execCopy.within E) (w : Work) (s : State) : Outcome.but E (execCopy w s) = some (s.but E) := by
  simp only [execCopy.within, Bool.and_eq_true] at h
  simp [execCopy, h]

def execFill.within (E : Touch → Bool) : Bool := startWork.within E && dmaIntake.within E
@[simp] theorem execFill_but (h : execFill.within E) (w : Work) (s : State) : Outcome.but E (execFill w s) = some (s.but E) := by
  simp only [execFill.within, Bool.and_eq_true] at h
  simp [execFill, h]

def execList.within (E : Touch → Bool) : Bool := startWork.within E && dmaComplete.within E && dmaQueue.within E
@[simp] theorem execList_but (h : execList.within E) (w : Work) (elements : List ℕ) (s : State) : Outcome.but E
    (execList w elements s) = some (s.but E) := by
  simp only [execList.within, Bool.and_eq_true] at h
  simp [execList, h]

def execDmaChannelStart.within (E : Touch → Bool) : Bool := E (.part .dma) && E Reg.DMA_CH_STAT_BUSY.touch &&
  E Reg.DMA_CH_STAT_REPEAT.touch && E Reg.DMA_CH_STAT_PRIO.touch && E Reg.DMA_CH_STAT_NICHE.touch && E Reg.DMA_CH_STAT_RING.touch &&
  E Reg.DMA_CH_STAT_TAG.touch && dmaStop.within E && feedElement.within E && remoteNext.within E
@[simp] theorem execDmaChannelStart_but (h : execDmaChannelStart.within E) (prio : ℕ) (s : State) : Outcome.but E
    (execDmaChannelStart prio s) = some (s.but E) := by
  simp only [execDmaChannelStart.within, Bool.and_eq_true] at h
  unfold execDmaChannelStart
  repeat' split
  all_goals simp [h]

def dmaHostData.within (E : Touch → Bool) : Bool := updFlight.within E
@[simp] theorem dmaHostData_but (h : dmaHostData.within E) (seq : ℕ) (data : List Byte) (s : State) :
    (dmaHostData seq data s).but E = s.but E := by
  simp only [dmaHostData.within] at h
  simp [dmaHostData, h]

def dmaMessage.within (E : Touch → Bool) : Bool := dmaStop.within E && updRun.within E && updFlight.within E && remoteNext.within E
@[simp] theorem dmaMessage_but (h : dmaMessage.within E) (seq : ℕ) (st : ℕ) (data : List Byte) (s : State) :
    (dmaMessage seq st data s).but E = s.but E := by
  simp only [dmaMessage.within, Bool.and_eq_true] at h
  unfold dmaMessage
  dsimp only
  repeat' split
  all_goals simp [h]

def dmaAbort.within (E : Touch → Bool) : Bool := State.draw.within E && dmaAdvance.within E && dmaStop.within E
@[simp] theorem dmaAbort_but (h : dmaAbort.within E) (seq : ℕ) (st : ℕ) (s : State) : (dmaAbort seq st s).but E = s.but E := by
  simp only [dmaAbort.within, Bool.and_eq_true] at h
  unfold dmaAbort
  split <;> simp [h]

/-! #### Aperture -/

def aptError.within (E : Touch → Bool) : Bool := count.within Reg.FAB_APT_ERR_COUNT E
@[simp] theorem aptError_but (h : aptError.within E) (s : State) : (aptError s).but E = s.but E := by
  simp only [aptError.within] at h
  simp [aptError, h]

def aptReply.within (E : Touch → Bool) : Bool := E (.part .out)
@[simp] theorem aptReply_but (h : aptReply.within E) (o : AptOp) (status : ℕ) (data : List Byte) (s : State) :
    (aptReply o status data s).but E = s.but E := by
  simp only [aptReply.within] at h
  simp [aptReply, h]

def aptDone.within (E : Touch → Bool) : Bool := E (.part .fab) && aptReply.within E && aptError.within E
@[simp] theorem aptDone_but (h : aptDone.within E) (o : AptOp) (st : ℕ) (data : List Byte) (s : State) :
    (aptDone o st data s).but E = s.but E := by
  simp only [aptDone.within, Bool.and_eq_true] at h
  simp [aptDone, h]

def aptGo.within (E : Touch → Bool) : Bool := aptDone.within E && poolRefused.within E && memWriteList.within E && E (.part .fab) &&
  newSend.within E
@[simp] theorem aptGo_but (h : aptGo.within E) (o : AptOp) (s : State) : (aptGo o s).but E = s.but E := by
  simp only [aptGo.within, Bool.and_eq_true] at h
  unfold aptGo
  dsimp only
  repeat' split
  all_goals simp [h]

def aptPump.within (E : Touch → Bool) : Bool := aptGo.within E
@[simp] theorem aptPump_but (h : aptPump.within E) (s : State) : (aptPump s).but E = s.but E := by
  simp only [aptPump.within] at h
  simp [aptPump, h]

def aptEnd.within (E : Touch → Bool) : Bool := aptPump.within E && aptDone.within E
@[simp] theorem aptEnd_but (h : aptEnd.within E) (id : ℕ) (st : ℕ) (data : List Byte) (s : State) :
    (aptEnd id st data s).but E = s.but E := by
  simp only [aptEnd.within, Bool.and_eq_true] at h
  unfold aptEnd
  split <;> simp [h]

def execApertureAccess.within (E : Touch → Bool) : Bool := aptReply.within E && aptError.within E && aptPump.within E && E (.part .fab)
@[simp] theorem execApertureAccess_but (h : execApertureAccess.within E) (who : Issuer) (off : ℕ) (len : ℕ) (data : Option (List Byte))
    (s : State) : Outcome.but E (execApertureAccess who off len data s) = some (s.but E) := by
  simp only [execApertureAccess.within, Bool.and_eq_true] at h
  simp [execApertureAccess, h]

def execApertureReadTimeout.within (E : Touch → Bool) : Bool := abandon.within E && aptPump.within E && aptReply.within E &&
  E (.part .fab)
@[simp] theorem execApertureReadTimeout_but (h : execApertureReadTimeout.within E) (id : ℕ) (s : State) : Outcome.but E
    (execApertureReadTimeout id s) = some (s.but E) := by
  simp only [execApertureReadTimeout.within, Bool.and_eq_true] at h
  unfold execApertureReadTimeout
  split <;> simp [h]

def regEnd.within (E : Touch → Bool) : Bool := cmdEnd.within Blk.fab E && E Reg.FAB_RMT_DATA_DATA.touch
@[simp] theorem regEnd_but (h : regEnd.within E) (st : ℕ) (data : List Byte) (s : State) : (regEnd st data s).but E = s.but E := by
  simp only [regEnd.within, Bool.and_eq_true] at h
  simp [regEnd, h]

/-! #### StorageData -/

def putSpans.within (E : Touch → Bool) : Bool := hostPut.within E
@[simp] theorem putSpans_but (h : putSpans.within E) (n : ℕ) (l : List (ℕ × ℕ)) (data : List Byte) (s : State) :
    (putSpans n l data s).but E = s.but E := by
  unfold putSpans.within at h
  induction l generalizing data s with
  | nil => rfl
  | cons p l ih => rw [putSpans, ih, hostPut_but h]

/-! #### Storage -/

def updCtrl.within (E : Touch → Bool) : Bool := E (.part .nvs)
@[simp] theorem updCtrl_but (h : updCtrl.within E) (c : ℕ) (f : NvCtrl → NvCtrl) (s : State) : (updCtrl c f s).but E = s.but E := by
  simp only [updCtrl.within] at h
  simp [updCtrl, h]

def updCq.within (E : Touch → Bool) : Bool := updCtrl.within E
@[simp] theorem updCq_but (h : updCq.within E) (c : ℕ) (q : ℕ) (f : NvCq → NvCq) (s : State) : (updCq c q f s).but E = s.but E := by
  simp only [updCq.within] at h
  simp [updCq, h]

def updSq.within (E : Touch → Bool) : Bool := updCtrl.within E
@[simp] theorem updSq_but (h : updSq.within E) (c : ℕ) (q : ℕ) (f : NvSq → NvSq) (s : State) : (updSq c q f s).but E = s.but E := by
  simp only [updSq.within] at h
  simp [updSq, h]

def updCmd.within (E : Touch → Bool) : Bool := E (.part .nvs)
@[simp] theorem updCmd_but (h : updCmd.within E) (slot : ℕ) (f : NvCmd → NvCmd) (s : State) : (updCmd slot f s).but E = s.but E := by
  simp only [updCmd.within] at h
  simp [updCmd, h]

def setCtrlState.within (E : Touch → Bool) : Bool := E Reg.NVS_CTRL_INFO_STATE.touch
@[simp] theorem setCtrlState_but (h : setCtrlState.within E) (c : ℕ) (st : ℕ) (s : State) : (setCtrlState c st s).but E = s.but E := by
  simp only [setCtrlState.within] at h
  simp [setCtrlState, h]

def ctrlEvent.within (E : Touch → Bool) : Bool := raise.within E
@[simp] theorem ctrlEvent_but (h : ctrlEvent.within E) (c : ℕ) (st : ℕ) (s : State) : (ctrlEvent c st s).but E = s.but E := by
  simp only [ctrlEvent.within] at h
  simp [ctrlEvent, h]

def nvSlots.within (E : Touch → Bool) : Bool := E Reg.NVS_INFLIGHT_IN_USE.touch && E Reg.NVS_INFLIGHT_PEAK.touch
@[simp] theorem nvSlots_but (h : nvSlots.within E) (s : State) : (nvSlots s).but E = s.but E := by
  simp only [nvSlots.within, Bool.and_eq_true] at h
  simp [nvSlots, h]

def nvTake.within (E : Touch → Bool) : Bool := nvSlots.within E && E (.part .nvs)
@[simp] theorem nvTake_but (h : nvTake.within E) (slot : ℕ) (c : NvCmd) (s : State) : (nvTake slot c s).but E = s.but E := by
  simp only [nvTake.within, Bool.and_eq_true] at h
  simp [nvTake, h]

def nvRetire.within (E : Touch → Bool) : Bool := nvSlots.within E && E (.part .nvs)
@[simp] theorem nvRetire_but (h : nvRetire.within E) (slot : ℕ) (s : State) : (nvRetire slot s).but E = s.but E := by
  simp only [nvRetire.within, Bool.and_eq_true] at h
  simp [nvRetire, h]

def nvIrq.within (E : Touch → Bool) : Bool := nicheMsix.within E && updCq.within E
@[simp] theorem nvIrq_but (h : nvIrq.within E) (c : ℕ) (q : ℕ) (s : State) : (nvIrq c q s).but E = s.but E := by
  simp only [nvIrq.within, Bool.and_eq_true] at h
  unfold nvIrq
  repeat' split
  all_goals simp [h]

def nvAnnounce.within (E : Touch → Bool) : Bool := updCq.within E && nvIrq.within E
@[simp] theorem nvAnnounce_but (h : nvAnnounce.within E) (c : ℕ) (q : ℕ) (s : State) : (nvAnnounce c q s).but E = s.but E := by
  simp only [nvAnnounce.within, Bool.and_eq_true] at h
  unfold nvAnnounce
  repeat' split
  all_goals simp [h]

def nvCqWrite.within (E : Touch → Bool) : Bool := hostPut.within E && nvAnnounce.within E && updCq.within E
@[simp] theorem nvCqWrite_but (h : nvCqWrite.within E) (c : ℕ) (q : ℕ) (w : ℕ) (s : State) : (nvCqWrite c q w s).but E = s.but E := by
  simp only [nvCqWrite.within, Bool.and_eq_true] at h
  unfold nvCqWrite
  split <;> simp [h]

def nvCommit.within (E : Touch → Bool) : Bool := updCq.within E && nvCqWrite.within E
@[simp] theorem nvCommit_but (h : nvCommit.within E) (c : ℕ) (q : ℕ) (w : ℕ) (s : State) : (nvCommit c q w s).but E = s.but E := by
  simp only [nvCommit.within, Bool.and_eq_true] at h
  unfold nvCommit
  split <;> simp [h]

def nvDrain.within (E : Touch → Bool) : Bool := nvCqWrite.within E && updCq.within E
@[simp] theorem nvDrain_but (h : nvDrain.within E) (fuel : ℕ) (c : ℕ) (q : ℕ) (s : State) : (nvDrain fuel c q s).but E = s.but E := by
  simp only [nvDrain.within, Bool.and_eq_true] at h
  induction fuel generalizing s with
  | zero => rfl
  | succ n ih =>
    rw [nvDrain]
    repeat' split
    all_goals simp [h, ih]

def nvCount.within (E : Touch → Bool) : Bool := count.within Reg.NVS_ERR_CNT_COUNT E && E Reg.NVS_ERR_LAST_STATUS.touch &&
  E Reg.NVS_ERR_LAST_NVME_STATUS.touch && E Reg.NVS_ERR_LAST_CTRL.touch && E Reg.NVS_ERR_LAST_CID.touch &&
  E Reg.NVS_ERR_LAST_SQID.touch && raise.within E && E Reg.NVS_STATUS_ERR.touch
@[simp] theorem nvCount_but (h : nvCount.within E) (c : ℕ) (sqid : ℕ) (cid : ℕ) (dev : ℕ) (sf : ℕ) (s : State) :
    (nvCount c sqid cid dev sf s).but E = s.but E := by
  simp only [nvCount.within, Bool.and_eq_true] at h
  simp [nvCount, h]

def nvLogError.within (E : Touch → Bool) : Bool := updCtrl.within E
@[simp] theorem nvLogError_but (h : nvLogError.within E) (c : ℕ) (sqid : ℕ) (cid : ℕ) (sf : ℕ) (lba : ℕ) (nsid : ℕ) (s : State) :
    (nvLogError c sqid cid sf lba nsid s).but E = s.but E := by
  simp only [nvLogError.within] at h
  simp [nvLogError, h]

def nvSmart.within (E : Touch → Bool) : Bool := updCtrl.within E
@[simp] theorem nvSmart_but (h : nvSmart.within E) (c : ℕ) (k : ℕ) (n : ℕ) (s : State) : (nvSmart c k n s).but E = s.but E := by
  simp only [nvSmart.within] at h
  simp [nvSmart, h]

def nvPost.within (E : Touch → Bool) : Bool := addI.within Reg.NVS_CMD_CNT_COUNT E && nvSmart.within E && nvLogError.within E &&
  nvCount.within E && nvCommit.within E
@[simp] theorem nvPost_but (h : nvPost.within E) (cmd : NvCmd) (dw0 : ℕ) (sf : ℕ) (dev : ℕ) (lba : ℕ) (s : State) :
    (nvPost cmd dw0 sf dev lba s).but E = s.but E := by
  simp only [nvPost.within, Bool.and_eq_true] at h
  unfold nvPost
  split <;> simp [h]

def nvAsync.within (E : Touch → Bool) : Bool := updCtrl.within E && nvRetire.within E && nvPost.within E
@[simp] theorem nvAsync_but (h : nvAsync.within E) (c : ℕ) (s : State) : (nvAsync c s).but E = s.but E := by
  simp only [nvAsync.within, Bool.and_eq_true] at h
  unfold nvAsync
  repeat' split
  all_goals simp [h]

def nvNotice.within (E : Touch → Bool) : Bool := nvAsync.within E && updCtrl.within E
@[simp] theorem nvNotice_but (h : nvNotice.within E) (c : ℕ) (type : ℕ) (info : ℕ) (lid : ℕ) (s : State) :
    (nvNotice c type info lid s).but E = s.but E := by
  simp only [nvNotice.within, Bool.and_eq_true] at h
  unfold nvNotice
  split <;> simp [h]

def nvNoticeIf.within (E : Touch → Bool) : Bool := nvNotice.within E
@[simp] theorem nvNoticeIf_but (h : nvNoticeIf.within E) (c : ℕ) (b : ℕ) (type : ℕ) (info : ℕ) (lid : ℕ) (s : State) :
    (nvNoticeIf c b type info lid s).but E = s.but E := by
  simp only [nvNoticeIf.within] at h
  unfold nvNoticeIf
  split <;> simp [h]

def nsDetached.within (E : Touch → Bool) : Bool := cmdEnd.within Blk.nvs E && E (.part .nvs)
@[simp] theorem nsDetached_but (h : nsDetached.within E) (ns : ℕ) (s : State) : (nsDetached ns s).but E = s.but E := by
  simp only [nsDetached.within, Bool.and_eq_true] at h
  unfold nsDetached
  split <;> simp [h]

def testOpEnd.within (E : Touch → Bool) : Bool := updCtrl.within E
@[simp] theorem testOpEnd_but (h : testOpEnd.within E) (c : ℕ) (failed : Option (ℕ × ℕ)) (s : State) :
    (testOpEnd c failed s).but E = s.but E := by
  simp only [testOpEnd.within] at h
  simp [testOpEnd, h]

def nvJournal.within (E : Touch → Bool) : Bool := jRecord.within E
@[simp] theorem nvJournal_but (h : nvJournal.within E) (cmd : NvCmd) (dw0 : ℕ) (s : State) : (nvJournal cmd dw0 s).but E = s.but E := by
  simp only [nvJournal.within] at h
  simp [nvJournal, h]

def nvEnd.within (E : Touch → Bool) : Bool := nvJournal.within E && nvRetire.within E && testOpEnd.within E && nvPost.within E &&
  nsDetached.within E
@[simp] theorem nvEnd_but (h : nvEnd.within E) (slot : ℕ) (dw0 : ℕ) (sf : ℕ) (dev : ℕ) (s : State) :
    (nvEnd slot dw0 sf dev s).but E = s.but E := by
  simp only [nvEnd.within, Bool.and_eq_true] at h
  unfold nvEnd
  split <;> simp [h]

def nvRecord.within (E : Touch → Bool) : Bool := updCmd.within E
@[simp] theorem nvRecord_but (h : nvRecord.within E) (slot : ℕ) (st : ℕ) (lba : ℕ) (s : State) :
    (nvRecord slot st lba s).but E = s.but E := by
  simp only [nvRecord.within] at h
  simp [nvRecord, h]

def nvFail.within (E : Touch → Bool) : Bool := nvEnd.within E && nvRecord.within E
@[simp] theorem nvFail_but (h : nvFail.within E) (slot : ℕ) (st : ℕ) (lba : ℕ) (s : State) : (nvFail slot st lba s).but E = s.but E := by
  simp only [nvFail.within, Bool.and_eq_true] at h
  simp [nvFail, h]

def fwShow.within (E : Touch → Bool) : Bool := E Reg.NVS_CTRL_INFO_FW_PENDING.touch && E Reg.NVS_STATUS_FW_PENDING.touch
@[simp] theorem fwShow_but (h : fwShow.within E) (c : ℕ) (s : State) : (fwShow c s).but E = s.but E := by
  simp only [fwShow.within, Bool.and_eq_true] at h
  simp [fwShow, h]

def nvKill.within (E : Touch → Bool) : Bool := nvRetire.within E && updCtrl.within E && fwShow.within E && finish.within E &&
  abandon.within E && E (.part .hif) && hwPut.within E
@[simp] theorem nvKill_but (h : nvKill.within E) (slot : ℕ) (s : State) : (nvKill slot s).but E = s.but E := by
  simp only [nvKill.within, Bool.and_eq_true] at h
  have hs (l : List Send) (t : State) : (l.foldl (fun s x => abandon x s) t).but E = t.but E := foldl_but (by simp [h]) l t
  unfold nvKill
  split
  · rfl
  · simp [h, hs]

def doorbellNotice.within (E : Touch → Bool) : Bool := nvNotice.within E && nvLogError.within E
@[simp] theorem doorbellNotice_but (h : doorbellNotice.within E) (c : ℕ) (info : ℕ) (s : State) :
    (doorbellNotice c info s).but E = s.but E := by
  simp only [doorbellNotice.within, Bool.and_eq_true] at h
  simp [doorbellNotice, h]

def execNvmeSqDoorbell.within (E : Touch → Bool) : Bool := doorbellNotice.within E && State.defer.within E && updSq.within E
@[simp] theorem execNvmeSqDoorbell_but (h : execNvmeSqDoorbell.within E) (ctrl : ℕ) (qid : ℕ) (value : ℕ) (s : State) : Outcome.but E
    (execNvmeSqDoorbell ctrl qid value s) = some (s.but E) := by
  simp only [execNvmeSqDoorbell.within, Bool.and_eq_true] at h
  unfold execNvmeSqDoorbell
  repeat' split
  all_goals simp [h]

def applyNvmeTail.within (E : Touch → Bool) : Bool := updSq.within E
@[simp] theorem applyNvmeTail_but (h : applyNvmeTail.within E) (c : ℕ) (q : ℕ) (tail : ℕ) (s : State) :
    (applyNvmeTail c q tail s).but E = s.but E := by
  simp only [applyNvmeTail.within] at h
  simp [applyNvmeTail, h]

def execNvmeCqDoorbell.within (E : Touch → Bool) : Bool := doorbellNotice.within E && nvDrain.within E && updCq.within E
@[simp] theorem execNvmeCqDoorbell_but (h : execNvmeCqDoorbell.within E) (ctrl : ℕ) (qid : ℕ) (value : ℕ) (s : State) : Outcome.but E
    (execNvmeCqDoorbell ctrl qid value s) = some (s.but E) := by
  simp only [execNvmeCqDoorbell.within, Bool.and_eq_true] at h
  unfold execNvmeCqDoorbell
  repeat' split
  all_goals simp [h]

def execInterruptCoalesceExpiry.within (E : Touch → Bool) : Bool := nvIrq.within E
@[simp] theorem execInterruptCoalesceExpiry_but (h : execInterruptCoalesceExpiry.within E) (ctrl : ℕ) (cq : ℕ) (s : State) : Outcome.but E
    (execInterruptCoalesceExpiry ctrl cq s) = some (s.but E) := by
  simp only [execInterruptCoalesceExpiry.within] at h
  unfold execInterruptCoalesceExpiry
  split <;> simp [h]

def fetchLoop.within (E : Touch → Bool) : Bool := E (.part .nvs) && updCtrl.within E && updCq.within E && updSq.within E &&
  needRead.within E
@[simp] theorem fetchLoop_but (h : fetchLoop.within E) (fuel : ℕ) (left : ℕ) (s : State) : (fetchLoop fuel left s).but E = s.but E := by
  simp only [fetchLoop.within, Bool.and_eq_true] at h
  induction fuel generalizing left s with
  | zero => rfl
  | succ n ih =>
    rw [fetchLoop]
    repeat' split
    all_goals simp [h, ih]

def execNvmeFetch.within (E : Touch → Bool) : Bool := fetchLoop.within E && E (.part .nvs)
@[simp] theorem execNvmeFetch_but (h : execNvmeFetch.within E) (s : State) : Outcome.but E (execNvmeFetch s) = some (s.but E) := by
  simp only [execNvmeFetch.within, Bool.and_eq_true] at h
  simp [execNvmeFetch, h]

def nvmeHostData.within (E : Touch → Bool) : Bool := updSq.within E && updCmd.within E
@[simp] theorem nvmeHostData_but (h : nvmeHostData.within E) (id : ℕ) (data : List Byte) (s : State) :
    (nvmeHostData id data s).but E = s.but E := by
  simp only [nvmeHostData.within, Bool.and_eq_true] at h
  simp [nvmeHostData, h]

def nvmeHostFail.within (E : Touch → Bool) : Bool := updCq.within E && updSq.within E && nvFail.within E
@[simp] theorem nvmeHostFail_but (h : nvmeHostFail.within E) (id : ℕ) (st : ℕ) (s : State) : (nvmeHostFail id st s).but E = s.but E := by
  simp only [nvmeHostFail.within, Bool.and_eq_true] at h
  unfold nvmeHostFail
  dsimp only
  repeat' split
  all_goals simp [h]

def nvAdmit.within (E : Touch → Bool) : Bool := nvTake.within E && nvEnd.within E && hwPut.within E && updCmd.within E &&
  needRead.within E
@[simp] theorem nvAdmit_but (h : nvAdmit.within E) (slot : ℕ) (c : ℕ) (q : ℕ) (e : ℕ) (x : NvCtrl) (s : State) :
    (nvAdmit slot c q e x s).but E = s.but E := by
  simp only [nvAdmit.within, Bool.and_eq_true] at h
  unfold nvAdmit
  dsimp only
  repeat' split
  all_goals simp [h]

def execNvmeCommandForward.within (E : Touch → Bool) : Bool := nvAdmit.within E && updSq.within E
@[simp] theorem execNvmeCommandForward_but (h : execNvmeCommandForward.within E) (ctrl : ℕ) (sqid : ℕ) (s : State) : Outcome.but E
    (execNvmeCommandForward ctrl sqid s) = some (s.but E) := by
  simp only [execNvmeCommandForward.within, Bool.and_eq_true] at h
  unfold execNvmeCommandForward
  repeat' split
  all_goals simp [h]

def nsSend.within (E : Touch → Bool) : Bool := newSend.within E
theorem nsSend_but (h : nsSend.within E) (op : ℕ) (owner : Owner) (d : ℕ) (off : ℕ) (len : ℕ) (data : List Byte) (right : ℕ) (s : State)
    {r : State} (e : nsSend op owner d off len data right s = some r) : r.but E = s.but E := by
  unfold nsSend.within at h
  unfold nsSend at e
  split at e
  · cases e; simp [h]
  · cases e

def nvGot.within (E : Touch → Bool) : Bool := nvFail.within E && nvEnd.within E && hostPut.within E && putSpans.within E &&
  nvSmart.within E
@[simp] theorem nvGot_but (h : nvGot.within E) (slot : ℕ) (loc : List Byte) (s : State) : (nvGot slot loc s).but E = s.but E := by
  simp only [nvGot.within, Bool.and_eq_true] at h
  unfold nvGot
  dsimp only
  repeat' split
  all_goals simp [h]

def nvWrites.within (E : Touch → Bool) : Bool := nvSmart.within E && nvEnd.within E && nvFail.within E && memWriteList.within E &&
  updCmd.within E && nsSend.within E
@[simp] theorem nvWrites_but (h : nvWrites.within E) (fuel : ℕ) (slot : ℕ) (d : ℕ) (s : State) :
    (nvWrites fuel slot d s).but E = s.but E := by
  simp only [nvWrites.within, Bool.and_eq_true] at h
  induction fuel generalizing s with
  | zero => rfl
  | succ n ih =>
    unfold nvWrites
    split
    · next k c e1 e2 =>
      cases e1
      split
      · split <;> simp [h]
      · split
        · simp [h]
        · simp [h, ih]
        · split
          · next e => rw [nsSend_but h.2 _ _ _ _ _ _ _ _ e, updCmd_but h.1.2]
          · simp [h]
    · rfl

def nvStore.within (E : Touch → Bool) : Bool := nvWrites.within E && updCmd.within E
@[simp] theorem nvStore_but (h : nvStore.within E) (slot : ℕ) (d : ℕ) (l : List (ℕ × List Byte)) (s : State) :
    (nvStore slot d l s).but E = s.but E := by
  simp only [nvStore.within, Bool.and_eq_true] at h
  simp [nvStore, h]

def nvLoad.within (E : Touch → Bool) : Bool := nvFail.within E && nvGot.within E && nsSend.within E && updCmd.within E
@[simp] theorem nvLoad_but (h : nvLoad.within E) (slot : ℕ) (d : ℕ) (slba : ℕ) (n : ℕ) (bad : Bool) (s : State) :
    (nvLoad slot d slba n bad s).but E = s.but E := by
  simp only [nvLoad.within, Bool.and_eq_true] at h
  unfold nvLoad
  split
  · simp [h]
  · split <;> simp [h]
  · split
    · next e => rw [nsSend_but h.1.2 _ _ _ _ _ _ _ _ e, updCmd_but h.2]
    · simp [h]

def nvmeMessage.within (E : Touch → Bool) : Bool := nvFail.within E && nvGot.within E && nvWrites.within E
@[simp] theorem nvmeMessage_but (h : nvmeMessage.within E) (slot : ℕ) (st : ℕ) (data : List Byte) (s : State) :
    (nvmeMessage slot st data s).but E = s.but E := by
  simp only [nvmeMessage.within, Bool.and_eq_true] at h
  unfold nvmeMessage
  split <;> simp [h]

@[simp] theorem nvOn_but (h' : ℕ) (opcode : ℕ) (act : ℕ → NvCmd → ℕ → State → State) (s : State)
    (hact : ∀ a b c t, (act a b c t).but E = t.but E) : Outcome.but E (nvOn h' opcode act s) = some (s.but E) := by
  unfold nvOn
  split <;> simp [hact]

def execNvmeRead.within (E : Touch → Bool) : Bool := nvLoad.within E
@[simp] theorem execNvmeRead_but (h : execNvmeRead.within E) (h' : ℕ) (bad : Bool) (s : State) : Outcome.but E
    (execNvmeRead h' bad s) = some (s.but E) := by
  simp only [execNvmeRead.within] at h
  simp [execNvmeRead, h]

def execCompare.within (E : Touch → Bool) : Bool := nvLoad.within E
@[simp] theorem execCompare_but (h : execCompare.within E) (h' : ℕ) (bad : Bool) (s : State) : Outcome.but E (execCompare h' bad s) = some
    (s.but E) := by
  simp only [execCompare.within] at h
  simp [execCompare, h]

def execVerify.within (E : Touch → Bool) : Bool := nvLoad.within E
@[simp] theorem execVerify_but (h : execVerify.within E) (h' : ℕ) (bad : Bool) (s : State) : Outcome.but E (execVerify h' bad s) = some
    (s.but E) := by
  simp only [execVerify.within] at h
  simp [execVerify, h]

def execNvmeWrite.within (E : Touch → Bool) : Bool := nvEnd.within E && nvFail.within E && nvStore.within E
@[simp] theorem execNvmeWrite_but (h : execNvmeWrite.within E) (h' : ℕ) (s : State) : Outcome.but E (execNvmeWrite h' s) = some
    (s.but E) := by
  simp only [execNvmeWrite.within, Bool.and_eq_true] at h
  unfold execNvmeWrite
  refine nvOn_but _ _ _ _ fun a b c t => ?_
  split
  · rfl
  dsimp only
  split
  · simp [h]
  · split <;> simp [h]

def execWriteZeroes.within (E : Touch → Bool) : Bool := nvStore.within E
@[simp] theorem execWriteZeroes_but (h : execWriteZeroes.within E) (h' : ℕ) (s : State) : Outcome.but E (execWriteZeroes h' s) = some
    (s.but E) := by
  simp only [execWriteZeroes.within] at h
  simp [execWriteZeroes, h]

def execDatasetManagement.within (E : Touch → Bool) : Bool := nvEnd.within E && nvStore.within E
@[simp] theorem execDatasetManagement_but (h : execDatasetManagement.within E) (h' : ℕ) (s : State) : Outcome.but E
    (execDatasetManagement h' s) = some (s.but E) := by
  simp only [execDatasetManagement.within, Bool.and_eq_true] at h
  unfold execDatasetManagement
  refine nvOn_but _ _ _ _ fun a b c t => ?_
  split
  · rfl
  dsimp only
  split
  · simp [h]
  · split
    · simp [h]
    · split <;> simp [h]

def execNvmeFlush.within (E : Touch → Bool) : Bool := nvEnd.within E
@[simp] theorem execNvmeFlush_but (h : execNvmeFlush.within E) (h' : ℕ) (s : State) : Outcome.but E (execNvmeFlush h' s) = some
    (s.but E) := by
  simp only [execNvmeFlush.within] at h
  simp [execNvmeFlush, h]

def nvsEnd.within (E : Touch → Bool) : Bool := finish.within E && nvRecord.within E
@[simp] theorem nvsEnd_but (h : nvsEnd.within E) (seq : ℕ) (slot : ℕ) (st : ℕ) (lba : ℕ) (data : Bool) (s : State) :
    (nvsEnd seq slot st lba data s).but E = s.but E := by
  simp only [nvsEnd.within, Bool.and_eq_true] at h
  simp [nvsEnd, h]

def nvsOut.within (E : Touch → Bool) : Bool := nvsEnd.within E && putSpans.within E && hostPut.within E
@[simp] theorem nvsOut_but (h : nvsOut.within E) (f : Flight) (slot : ℕ) (c : NvCmd) (x : NvCtrl) (loc : List Byte) (s : State) :
    (nvsOut f slot c x loc s).but E = s.but E := by
  simp only [nvsOut.within, Bool.and_eq_true] at h
  unfold nvsOut
  dsimp only
  repeat' split
  all_goals simp [h]

def vSend.within (E : Touch → Bool) : Bool := newSend.within E
theorem vSend_but (h : vSend.within E) (op : ℕ) (right : ℕ) (len : ℕ) (f : Flight) (data : List Byte) (s : State) {r : State}
    (e : vSend op right len f data s = some r) : r.but E = s.but E := by
  unfold vSend.within at h
  unfold vSend at e
  split at e
  · cases e; simp [h]
  · cases e

def nvsIn.within (E : Touch → Bool) : Bool := nvsEnd.within E && memWriteList.within E && vSend.within E
@[simp] theorem nvsIn_but (h : nvsIn.within E) (f : Flight) (slot : ℕ) (c : NvCmd) (x : NvCtrl) (s : State) :
    (nvsIn f slot c x s).but E = s.but E := by
  simp only [nvsIn.within, Bool.and_eq_true] at h
  unfold nvsIn
  dsimp only
  split
  · simp [h]
  split
  · simp [h]
  split
  · simp [h]
  · simp [h]
  · exact getD_but (fun e => vSend_but h.2 _ _ _ _ _ _ e) (by simp [h])

def nvsRun.within (E : Touch → Bool) : Bool := finish.within E && nvsIn.within E && nvsEnd.within E && nvsOut.within E && vSend.within E
@[simp] theorem nvsRun_but (h : nvsRun.within E) (f : Flight) (slot : ℕ) (c : NvCmd) (s : State) : (nvsRun f slot c s).but E = s.but E := by
  simp only [nvsRun.within, Bool.and_eq_true] at h
  unfold nvsRun
  split
  · simp [h]
  dsimp only
  split
  · simp [h]
  split
  · simp [h]
  · simp [h]
  · exact getD_but (fun e => vSend_but h.2 _ _ _ _ _ _ e) (by simp [h])

def execNvsData.within (E : Touch → Bool) : Bool := startWork.within E && finish.within E && needRead.within E && nvsRun.within E
@[simp] theorem execNvsData_but (h : execNvsData.within E) (w : Work) (s : State) : Outcome.but E (execNvsData w s) = some (s.but E) := by
  simp only [execNvsData.within, Bool.and_eq_true] at h
  unfold execNvsData
  refine startWork_but (by simp only [h]) _ _ _ _ fun a t => ?_
  repeat' split
  all_goals simp [h]

def nvsHostData.within (E : Touch → Bool) : Bool := nvsRun.within E && updFlight.within E && finish.within E
@[simp] theorem nvsHostData_but (h : nvsHostData.within E) (seq : ℕ) (data : List Byte) (s : State) :
    (nvsHostData seq data s).but E = s.but E := by
  simp only [nvsHostData.within, Bool.and_eq_true] at h
  unfold nvsHostData
  repeat' split
  all_goals simp [h]

def nvsHostFail.within (E : Touch → Bool) : Bool := nvsEnd.within E && finish.within E
@[simp] theorem nvsHostFail_but (h : nvsHostFail.within E) (seq : ℕ) (st : ℕ) (s : State) : (nvsHostFail seq st s).but E = s.but E := by
  simp only [nvsHostFail.within, Bool.and_eq_true] at h
  unfold nvsHostFail
  repeat' split
  all_goals simp [h]

def nvsMessage.within (E : Touch → Bool) : Bool := nvsEnd.within E && finish.within E && nvsOut.within E
@[simp] theorem nvsMessage_but (h : nvsMessage.within E) (seq : ℕ) (st : ℕ) (data : List Byte) (s : State) :
    (nvsMessage seq st data s).but E = s.but E := by
  simp only [nvsMessage.within, Bool.and_eq_true] at h
  unfold nvsMessage
  repeat' split
  all_goals simp [h]

def nvsAbort.within (E : Touch → Bool) : Bool := finish.within E && abandon.within E
@[simp] theorem nvsAbort_but (h : nvsAbort.within E) (seq : ℕ) (st : ℕ) (s : State) : (nvsAbort seq st s).but E = s.but E := by
  simp only [nvsAbort.within, Bool.and_eq_true] at h
  simp [nvsAbort, h]

def execNvsComplete.within (E : Touch → Bool) : Bool := startWork.within E && finish.within E && nvSmart.within E && nvEnd.within E
@[simp] theorem execNvsComplete_but (h : execNvsComplete.within E) (w : Work) (s : State) : Outcome.but E (execNvsComplete w s) = some
    (s.but E) := by
  simp only [execNvsComplete.within, Bool.and_eq_true] at h
  unfold execNvsComplete
  refine startWork_but (by simp only [h]) _ _ _ _ fun a t => ?_
  split <;> simp [h]

/-! #### Turelm -/

def endSend.within (E : Touch → Bool) : Bool := dropSend.within E && epFailed.within E && workEnd.within E && dmaMessage.within E &&
  aptEnd.within E && nvmeMessage.within E && nvsMessage.within E && regEnd.within E
@[simp] theorem endSend_but (h : endSend.within E) (x : Send) (st : ℕ) (result : ℕ) (data : List Byte) (s : State) :
    (endSend x st result data s).but E = s.but E := by
  simp only [endSend.within, Bool.and_eq_true] at h
  unfold endSend
  dsimp only
  split <;> simp [h]

def failSend.within (E : Touch → Bool) : Bool := endSend.within E && abandon.within E && peerCount.within E && E (.part .tlt)
@[simp] theorem failSend_but (h : failSend.within E) (x : Send) (st : ℕ) (s : State) : (failSend x st s).but E = s.but E := by
  simp only [failSend.within, Bool.and_eq_true] at h
  simp [failSend, h]

def endSends.within (E : Touch → Bool) : Bool := endSend.within E
@[simp] theorem endSends_but (h : endSends.within E) (p : Send → Bool) (st : ℕ) (s : State) : (endSends p st s).but E = s.but E := by
  simp only [endSends.within] at h
  simp [endSends, h]

def failEpWork.within (E : Touch → Bool) : Bool := finish.within E
@[simp] theorem failEpWork_but (h : failEpWork.within E) (ep : ℕ) (st : ℕ) (s : State) : (failEpWork ep st s).but E = s.but E := by
  simp only [failEpWork.within] at h
  simp [failEpWork, h]

@[simp] theorem tlWork_but (w : Work) (opcode : ℕ) (act : Flight → State → State) (s : State)
    (hact : ∀ a t, (act a t).but E = t.but E) : Outcome.but E (tlWork w opcode act s) = some (s.but E) := by
  unfold tlWork
  split <;> simp [hact]

def begin_.within (E : Touch → Bool) : Bool := updFlight.within E
@[simp] theorem begin_but (h : begin_.within E) (f : Flight) (s : State) : (begin_ f s).but E = s.but E := by
  simp only [begin_.within] at h
  simp [begin_, h]

def withEp.within (E : Touch → Bool) : Bool := finish.within E && begin_.within E && recallStart.within E && touchEp.within E
@[simp] theorem withEp_but (h : withEp.within E) (f : Flight) (act : Endpoint → State → State) (s : State)
    (hact : ∀ a t, (act a t).but E = t.but E) : (withEp f act s).but E = s.but E := by
  simp only [withEp.within, Bool.and_eq_true] at h
  unfold withEp
  split <;> simp [h, hact]

def dataWork.within (E : Touch → Bool) : Bool := withEp.within E && finish.within E && begin_.within E && newSend.within E &&
  needRead.within E
@[simp] theorem dataWork_but (h : dataWork.within E) (op : ℕ) (f : Flight) (s : State) : (dataWork op f s).but E = s.but E := by
  simp only [dataWork.within, Bool.and_eq_true] at h
  unfold dataWork
  refine withEp_but (by simp only [h]) _ _ _ fun a t => ?_
  split <;> simp [h]

def execTlWrite.within (E : Touch → Bool) : Bool := dataWork.within E
@[simp] theorem execTlWrite_but (h : execTlWrite.within E) (w : Work) (s : State) : Outcome.but E (execTlWrite w s) = some (s.but E) := by
  simp only [execTlWrite.within] at h
  simp [execTlWrite, h]

def execTlWriteImm.within (E : Touch → Bool) : Bool := dataWork.within E
@[simp] theorem execTlWriteImm_but (h : execTlWriteImm.within E) (w : Work) (s : State) : Outcome.but E (execTlWriteImm w s) = some
    (s.but E) := by
  simp only [execTlWriteImm.within] at h
  simp [execTlWriteImm, h]

def execTlSend.within (E : Touch → Bool) : Bool := dataWork.within E
@[simp] theorem execTlSend_but (h : execTlSend.within E) (w : Work) (s : State) : Outcome.but E (execTlSend w s) = some (s.but E) := by
  simp only [execTlSend.within] at h
  simp [execTlSend, h]

def execTlRead.within (E : Touch → Bool) : Bool := dataWork.within E
@[simp] theorem execTlRead_but (h : execTlRead.within E) (w : Work) (s : State) : Outcome.but E (execTlRead w s) = some (s.but E) := by
  simp only [execTlRead.within] at h
  simp [execTlRead, h]

def turelmHostData.within (E : Touch → Bool) : Bool := pump.within E && updSend.within E
@[simp] theorem turelmHostData_but (h : turelmHostData.within E) (seq : ℕ) (data : List Byte) (s : State) :
    (turelmHostData seq data s).but E = s.but E := by
  simp only [turelmHostData.within, Bool.and_eq_true] at h
  unfold turelmHostData
  split <;> simp [h]

def turelmHostFail.within (E : Touch → Bool) : Bool := failSend.within E
@[simp] theorem turelmHostFail_but (h : turelmHostFail.within E) (seq : ℕ) (st : ℕ) (s : State) :
    (turelmHostFail seq st s).but E = s.but E := by
  simp only [turelmHostFail.within] at h
  unfold turelmHostFail
  split <;> simp [h]

def execTlAtomic.within (E : Touch → Bool) : Bool := withEp.within E && finish.within E && begin_.within E &&
  newSend.within E
@[simp] theorem execTlAtomic_but (h : execTlAtomic.within E) (w : Work) (s : State) : Outcome.but E (execTlAtomic w s) = some
    (s.but E) := by
  simp only [execTlAtomic.within, Bool.and_eq_true] at h
  unfold execTlAtomic
  refine tlWork_but _ _ _ _ fun a t => ?_
  simp [h]

def execTlFlush.within (E : Touch → Bool) : Bool := withEp.within E && finish.within E && begin_.within E &&
  newSend.within E
@[simp] theorem execTlFlush_but (h : execTlFlush.within E) (w : Work) (s : State) : Outcome.but E (execTlFlush w s) = some (s.but E) := by
  simp only [execTlFlush.within, Bool.and_eq_true] at h
  unfold execTlFlush
  refine tlWork_but _ _ _ _ fun a t => ?_
  simp [h]

def execTlRecv.within (E : Touch → Bool) : Bool := withEp.within E && finish.within E && begin_.within E &&
  updEp.within E
@[simp] theorem execTlRecv_but (h : execTlRecv.within E) (w : Work) (s : State) : Outcome.but E (execTlRecv w s) = some (s.but E) := by
  simp only [execTlRecv.within, Bool.and_eq_true] at h
  unfold execTlRecv
  refine tlWork_but _ _ _ _ fun a t => ?_
  refine withEp_but (by simp only [h]) _ _ _ fun a t => ?_
  split <;> simp [h]

def execEpOpen.within (E : Touch → Bool) : Bool := startWork.within E && stateWork.within E && makeRoom.within E && quotaTake.within E &&
  ctxShow.within E && touchEp.within E && E (.part .tlt)
@[simp] theorem execEpOpen_but (h : execEpOpen.within E) (w : Work) (s : State) : Outcome.but E (execEpOpen w s) = some (s.but E) := by
  simp only [execEpOpen.within, Bool.and_eq_true] at h
  unfold execEpOpen
  refine startWork_but (by simp only [h]) _ _ _ _ fun a t => ?_
  refine stateWork_but (by simp only [h]) _ _ _ _ fun t => ?_
  split <;> simp [h]

def closeEp.within (E : Touch → Bool) : Bool := abandon.within E && failSend.within E && failEpWork.within E && finish.within E &&
  E (.part .tlt) && quotaGive.within E && ctxShow.within E && tltShow.within E
@[simp] theorem closeEp_but (h : closeEp.within E) (ep : ℕ) (silent : Bool) (s : State) : (closeEp ep silent s).but E = s.but E := by
  simp only [closeEp.within, Bool.and_eq_true] at h
  unfold closeEp
  split <;> simp [h]

def execEpClose.within (E : Touch → Bool) : Bool := startWork.within E && finish.within E && State.defer.within E
@[simp] theorem execEpClose_but (h : execEpClose.within E) (w : Work) (s : State) : Outcome.but E (execEpClose w s) = some (s.but E) := by
  simp only [execEpClose.within, Bool.and_eq_true] at h
  simp [execEpClose, h]

def applyEpClose.within (E : Touch → Bool) : Bool := closeEp.within E && stateDone.within E
@[simp] theorem applyEpClose_but (h : applyEpClose.within E) (ep : ℕ) (seq : Option ℕ) (s : State) :
    (applyEpClose ep seq s).but E = s.but E := by
  simp only [applyEpClose.within, Bool.and_eq_true] at h
  unfold applyEpClose
  dsimp only
  split <;> simp [h]

def execEpHoldExpiry.within (E : Touch → Bool) : Bool := E (.part .tlt)
@[simp] theorem execEpHoldExpiry_but (h : execEpHoldExpiry.within E) (ep : ℕ) (s : State) : Outcome.but E (execEpHoldExpiry ep s) = some
    (s.but E) := by
  simp only [execEpHoldExpiry.within] at h
  unfold execEpHoldExpiry
  split <;> simp [h]

def execWinOpen.within (E : Touch → Bool) : Bool := startWork.within E && finish.within E && freeIndex.within E &&
  State.defer.within E && quotaTake.within E
@[simp] theorem execWinOpen_but (h : execWinOpen.within E) (w : Work) (s : State) : Outcome.but E (execWinOpen w s) = some (s.but E) := by
  simp only [execWinOpen.within, Bool.and_eq_true] at h
  unfold execWinOpen
  refine startWork_but (by simp only [h]) _ _ _ _ fun f t => ?_
  dsimp only
  repeat (split; (· simp [h]))
  split
  · next e => simp [h, but_of_eq e]
  · next e => simp [h, but_of_eq e]

def applyWinOpen.within (E : Touch → Bool) : Bool := openWin.within E && stateDone.within E
@[simp] theorem applyWinOpen_but (h : applyWinOpen.within E) (i : ℕ) (w : Window) (seq : ℕ) (s : State) :
    (applyWinOpen i w seq s).but E = s.but E := by
  simp only [applyWinOpen.within, Bool.and_eq_true] at h
  simp [applyWinOpen, h]

def execWinRevoke.within (E : Touch → Bool) : Bool := startWork.within E && finish.within E && State.defer.within E
@[simp] theorem execWinRevoke_but (h : execWinRevoke.within E) (w : Work) (s : State) : Outcome.but E (execWinRevoke w s) = some
    (s.but E) := by
  simp only [execWinRevoke.within, Bool.and_eq_true] at h
  unfold execWinRevoke
  refine startWork_but (by simp only [h]) _ _ _ _ fun a t => ?_
  repeat' split
  all_goals simp [h]

def execWinRewrite.within (E : Touch → Bool) : Bool := startWork.within E && finish.within E && State.defer.within E &&
  freshIndex.within E
@[simp] theorem execWinRewrite_but (h : execWinRewrite.within E) (w : Work) (s : State) : Outcome.but E (execWinRewrite w s) = some
    (s.but E) := by
  simp only [execWinRewrite.within, Bool.and_eq_true] at h
  unfold execWinRewrite
  refine startWork_but (by simp only [h]) _ _ _ _ fun f t => ?_
  split
  · simp [h]
  split
  · simp [h]
  split
  · simp [h]
  split
  · simp [h]
  split
  · next e => simp [h, but_of_eq e]
  · next e => simp [h, but_of_eq e]

def applyWinRevoke.within (E : Touch → Bool) : Bool := finish.within E && closeWin.within E && quotaGive.within E && E (.part .tlt)
@[simp] theorem applyWinRevoke_but (h : applyWinRevoke.within E) (i : ℕ) (seq : Option ℕ) (s : State) :
    (applyWinRevoke i seq s).but E = s.but E := by
  simp only [applyWinRevoke.within, Bool.and_eq_true] at h
  unfold applyWinRevoke
  split
  · split <;> simp [h]
  · simp [h]

def applyWinRewrite.within (E : Touch → Bool) : Bool := finish.within E && closeWin.within E && openWin.within E && E (.part .tlt)
@[simp] theorem applyWinRewrite_but (h : applyWinRewrite.within E) (i : ℕ) (j : ℕ) (w : Window) (seq : ℕ) (s : State) :
    (applyWinRewrite i j w seq s).but E = s.but E := by
  simp only [applyWinRewrite.within, Bool.and_eq_true] at h
  unfold applyWinRewrite
  split <;> simp [h]

def execRevokeFence.within (E : Touch → Bool) : Bool := E (.part .tlt) && stateDone.within E && cmdEnd.within Blk.fab E
@[simp] theorem execRevokeFence_but (h : execRevokeFence.within E) (index : ℕ) (s : State) : Outcome.but E
    (execRevokeFence index s) = some (s.but E) := by
  simp only [execRevokeFence.within, Bool.and_eq_true] at h
  unfold execRevokeFence
  dsimp only
  repeat' split
  all_goals simp [h]

def execWrapHoldExpiry.within (E : Touch → Bool) : Bool := E (.part .tlt)
@[simp] theorem execWrapHoldExpiry_but (h : execWrapHoldExpiry.within E) (index : ℕ) (s : State) : Outcome.but E
    (execWrapHoldExpiry index s) = some (s.but E) := by
  simp only [execWrapHoldExpiry.within] at h
  unfold execWrapHoldExpiry
  split <;> simp [h]

def execPdAlloc.within (E : Touch → Bool) : Bool := startWork.within E && stateWork.within E && freeIndex.within E &&
  quotaTake.within E && E (.part .tlt)
@[simp] theorem execPdAlloc_but (h : execPdAlloc.within E) (w : Work) (s : State) : Outcome.but E (execPdAlloc w s) = some (s.but E) := by
  simp only [execPdAlloc.within, Bool.and_eq_true] at h
  unfold execPdAlloc
  refine startWork_but (by simp only [h]) _ _ _ _ fun f t => stateWork_but (by simp only [h]) _ _ _ _ fun t => ?_
  split
  · rfl
  split
  · next e => simp [h, but_of_eq e]
  · next e => simp [h, but_of_eq e]

def execPdFree.within (E : Touch → Bool) : Bool := startWork.within E && stateWork.within E && quotaGive.within E && E (.part .tlt)
@[simp] theorem execPdFree_but (h : execPdFree.within E) (w : Work) (s : State) : Outcome.but E (execPdFree w s) = some (s.but E) := by
  simp only [execPdFree.within, Bool.and_eq_true] at h
  unfold execPdFree
  refine startWork_but (by simp only [h]) _ _ _ _ fun a t => ?_
  simp [h]

def recordDone.within (E : Touch → Bool) : Bool := updPeer.within E
@[simp] theorem recordDone_but (h : recordDone.within E) (peer : ℕ) (msg : ℕ) (st : ℕ) (chunk : ℕ) (s : State) :
    (recordDone peer msg st chunk s).but E = s.but E := by
  simp only [recordDone.within] at h
  simp [recordDone, h]

def laneDeliver.within (E : Touch → Bool) : Bool := updPeer.within E
@[simp] theorem laneDeliver_but (h : laneDeliver.within E) (peer : ℕ) (lane : ℕ) (oseq : ℕ) (s : State) :
    (laneDeliver peer lane oseq s).but E = s.but E := by
  simp only [laneDeliver.within] at h
  simp [laneDeliver, h]

def laneSkip.within (E : Touch → Bool) : Bool := laneDeliver.within E
@[simp] theorem laneSkip_but (h : laneSkip.within E) (p : TlPkt) (s : State) : (laneSkip p s).but E = s.but E := by
  simp only [laneSkip.within] at h
  simp [laneSkip, h]

def putRx.within (E : Touch → Bool) : Bool := tltShow.within E && E (.part .tlt)
@[simp] theorem putRx_but (h : putRx.within E) (x : RxMsg) (s : State) : (putRx x s).but E = s.but E := by
  simp only [putRx.within, Bool.and_eq_true] at h
  simp [putRx, h]

def dropRx.within (E : Touch → Bool) : Bool := updEp.within E && tltShow.within E && E (.part .tlt)
@[simp] theorem dropRx_but (h : dropRx.within E) (peer : ℕ) (msg : ℕ) (giveBack : Bool) (s : State) :
    (dropRx peer msg giveBack s).but E = s.but E := by
  simp only [dropRx.within, Bool.and_eq_true] at h
  unfold dropRx
  repeat' split
  all_goals simp [h]

def peerEpoch.within (E : Touch → Bool) : Bool := E Reg.TLT_STATUS_PEER_EPOCH.touch && E Reg.TLT_PEER_INFO_PEER_EPOCH.touch &&
  raise.within E && dropRx.within E && E (.part .tlt) && updPeer.within E && endSends.within E && tltShow.within E
@[simp] theorem peerEpoch_but (h : peerEpoch.within E) (d : ℕ) (epoch : ℕ) (msg : ℕ) (s : State) :
    (peerEpoch d epoch msg s).but E = s.but E := by
  simp only [peerEpoch.within, Bool.and_eq_true] at h
  simp [peerEpoch, h]

def rxIntro.within (E : Touch → Bool) : Bool := addI.within Reg.TLT_RX_BYTE_LO_BYTES E && addI.within Reg.TLT_RX_PKT_COUNT E &&
  count.within Reg.TLT_CSUM_DROP_COUNT E && updPeer.within E && E Reg.TLT_PEER_INFO_KNOWN.touch &&
  E Reg.TLT_PEER_INFO_PEER_EPOCH.touch && count.within Reg.TLT_EPOCH_DROP_COUNT E && peerEpoch.within E
@[simp] theorem rxIntro_but (h : rxIntro.within E) (p : TlPkt) (act : State → State) (s : State) (hact : ∀ t, (act t).but E = t.but E) :
    (rxIntro p act s).but E = s.but E := by
  simp only [rxIntro.within, Bool.and_eq_true] at h
  simp [rxIntro, h, hact]

def answer.within (E : Touch → Bool) : Bool := sendPacket.within E
@[simp] theorem answer_but (h : answer.within E) (op : ℕ) (response : Bool) (p : TlPkt) (ext : ℕ) (s : State) :
    (answer op response p ext s).but E = s.but E := by
  simp only [answer.within] at h
  simp [answer, h]

def ackAll.within (E : Touch → Bool) : Bool := answer.within E
@[simp] theorem ackAll_but (h : ackAll.within E) (response : Bool) (p : TlPkt) (ce : ℕ) (s : State) :
    (ackAll response p ce s).but E = s.but E := by
  simp only [ackAll.within] at h
  simp [ackAll, h]

def nak.within (E : Touch → Bool) : Bool := E Reg.TLT_NAK_LAST_STATUS.touch && E Reg.TLT_NAK_LAST_PEER.touch &&
  E Reg.TLT_NAK_LAST_ENDPOINT.touch && E Reg.TLT_NAK_LAST_RECEIVED.touch && count.within Reg.TLT_NAK_TX_COUNT E && answer.within E
@[simp] theorem nak_but (h : nak.within E) (p : TlPkt) (st : ℕ) (chunk : ℕ) (s : State) : (nak p st chunk s).but E = s.but E := by
  simp only [nak.within, Bool.and_eq_true] at h
  simp [nak, h]

def refuse.within (E : Touch → Bool) : Bool := nak.within E && laneSkip.within E && recordDone.within E && dropRx.within E
@[simp] theorem refuse_but (h : refuse.within E) (p : TlPkt) (st : ℕ) (s : State) : (refuse p st s).but E = s.but E := by
  simp only [refuse.within, Bool.and_eq_true] at h
  simp [refuse, h]

def byPlace.within (E : Touch → Bool) : Bool := count.within Reg.TLT_WIN_DROP_COUNT E && ackAll.within E &&
  count.within Reg.TLT_DUP_DROP_COUNT E && nak.within E
@[simp] theorem byPlace_but (h : byPlace.within E) (p : TlPkt) (act : State → State) (s : State) (hact : ∀ t, (act t).but E = t.but E) :
    (byPlace p act s).but E = s.but E := by
  simp only [byPlace.within, Bool.and_eq_true] at h
  unfold byPlace
  split <;> simp [h, hact]

def recallOverflow.within (E : Touch → Bool) : Bool := nak.within E && count.within Reg.TLT_RECALL_OVF_COUNT E && raise.within E &&
  E Reg.TLT_STATUS_RECALL_OVF.touch
@[simp] theorem recallOverflow_but (h : recallOverflow.within E) (p : TlPkt) (s : State) : (recallOverflow p s).but E = s.but E := by
  simp only [recallOverflow.within, Bool.and_eq_true] at h
  simp [recallOverflow, h]

def ifOnDie.within (E : Touch → Bool) : Bool := touchEp.within E && recallOverflow.within E && ctxShow.within E &&
  recallStart.within E && E (.part .tlt)
@[simp] theorem ifOnDie_but (h : ifOnDie.within E) (p : TlPkt) (e : Endpoint) (act : State → State) (s : State)
    (hact : ∀ t, (act t).but E = t.but E) : (ifOnDie p e act s).but E = s.but E := by
  simp only [ifOnDie.within, Bool.and_eq_true] at h
  simp [ifOnDie, h, hact]

def atTarget.within (E : Touch → Bool) : Bool := nak.within E && refuse.within E && countPage.within Reg.NCH_PG_RX_DROP_COUNT E &&
  ifOnDie.within E
@[simp] theorem atTarget_but (h : atTarget.within E) (p : TlPkt) (act : State → State) (s : State) (hact : ∀ t, (act t).but E = t.but E) :
    (atTarget p act s).but E = s.but E := by
  simp only [atTarget.within, Bool.and_eq_true] at h
  unfold atTarget
  split
  · simp only [h, State.but_ite, hact, nak_but, refuse_but, ite_self]
  split
  · simp [h]
  · simp [h, hact]

def refuseAt.within (E : Touch → Bool) : Bool := refuse.within E && poolRefused.within E
@[simp] theorem refuseAt_but (h : refuseAt.within E) (p : TlPkt) (st : ℕ) (s : State) : (refuseAt p st s).but E = s.but E := by
  simp only [refuseAt.within, Bool.and_eq_true] at h
  simp [refuseAt, h]

def markDirty.within (E : Touch → Bool) : Bool := updPeer.within E
@[simp] theorem markDirty_but (h : markDirty.within E) (peer : ℕ) (w : Window) (last : ℕ) (s : State) :
    (markDirty peer w last s).but E = s.but E := by
  simp only [markDirty.within] at h
  simp [markDirty, h]

def trackerFull.within (E : Touch → Bool) : Bool := nak.within E && raise.within E && E Reg.TLT_STATUS_TRK_FULL.touch
@[simp] theorem trackerFull_but (h : trackerFull.within E) (p : TlPkt) (s : State) : (trackerFull p s).but E = s.but E := by
  simp only [trackerFull.within, Bool.and_eq_true] at h
  simp [trackerFull, h]

def deliverRx.within (E : Touch → Bool) : Bool := dropRx.within E && finish.within E && laneDeliver.within E && ackAll.within E &&
  recordDone.within E
@[simp] theorem deliverRx_but (h : deliverRx.within E) (x : RxMsg) (s : State) : (deliverRx x s).but E = s.but E := by
  simp only [deliverRx.within, Bool.and_eq_true] at h
  unfold deliverRx
  split <;> simp [h]

def placedAll.within (E : Touch → Bool) : Bool := deliverRx.within E && putRx.within E && ackAll.within E && recordDone.within E
@[simp] theorem placedAll_but (h : placedAll.within E) (x : RxMsg) (s : State) : (placedAll x s).but E = s.but E := by
  simp only [placedAll.within, Bool.and_eq_true] at h
  simp [placedAll, h]

def chunkPlaced.within (E : Touch → Bool) : Bool := addI.within Reg.FAB_POOL_OPS_COUNT E && placedAll.within E && putRx.within E
@[simp] theorem chunkPlaced_but (h : chunkPlaced.within E) (x : RxMsg) (p : TlPkt) (s : State) : (chunkPlaced x p s).but E = s.but E := by
  simp only [chunkPlaced.within, Bool.and_eq_true] at h
  simp [chunkPlaced, h]

def placeSend.within (E : Touch → Bool) : Bool := chunkPlaced.within E && refuse.within E && putRx.within E && markDirty.within E &&
  winPut.within E
@[simp] theorem placeSend_but (h : placeSend.within E) (x : RxMsg) (q : ℕ) (p : TlPkt) (s : State) :
    (placeSend x q p s).but E = s.but E := by
  simp only [placeSend.within, Bool.and_eq_true] at h
  unfold placeSend
  dsimp only
  repeat' split
  all_goals simp [h]

def placeWrite.within (E : Touch → Bool) : Bool := refuseAt.within E && putRx.within E && chunkPlaced.within E && markDirty.within E &&
  winPut.within E
@[simp] theorem placeWrite_but (h : placeWrite.within E) (x : RxMsg) (p : TlPkt) (s : State) : (placeWrite x p s).but E = s.but E := by
  simp only [placeWrite.within, Bool.and_eq_true] at h
  unfold placeWrite
  dsimp only
  split <;> simp [h]

def withBuffer.within (E : Touch → Bool) : Bool := nak.within E && refuse.within E && updEp.within E
@[simp] theorem withBuffer_but (h : withBuffer.within E) (x : RxMsg) (p : TlPkt) (act : RxMsg → ℕ → State → State) (s : State)
    (hact : ∀ a b t, (act a b t).but E = t.but E) : (withBuffer x p act s).but E = s.but E := by
  simp only [withBuffer.within, Bool.and_eq_true] at h
  unfold withBuffer
  split
  · exact hact ..
  · simp [h]
  · split
    · simp [h]
    · simp [h, hact]

def rxPlace.within (E : Touch → Bool) : Bool := trackerFull.within E && count.within Reg.TLT_WIN_DROP_COUNT E &&
  count.within Reg.TLT_DUP_DROP_COUNT E && putRx.within E && placeWrite.within E && refuseAt.within E && withBuffer.within E &&
  placeSend.within E
@[simp] theorem rxPlace_but (h : rxPlace.within E) (p : TlPkt) (s : State) : (rxPlace p s).but E = s.but E := by
  simp only [rxPlace.within, Bool.and_eq_true] at h
  unfold rxPlace
  repeat' split
  all_goals simp [h]

def rxData.within (E : Touch → Bool) : Bool := byPlace.within E && atTarget.within E && rxPlace.within E
@[simp] theorem rxData_but (h : rxData.within E) (p : TlPkt) (s : State) : (rxData p s).but E = s.but E := by
  simp only [rxData.within, Bool.and_eq_true] at h
  unfold rxData
  refine byPlace_but (by simp only [h]) _ _ _ fun t => ?_
  simp [h]

def execWireDataReceive.within (E : Touch → Bool) : Bool := rxIntro.within E && rxData.within E
@[simp] theorem execWireDataReceive_but (h : execWireDataReceive.within E) (p : TlPkt) (s : State) : Outcome.but E
    (execWireDataReceive p s) = some (s.but E) := by
  simp only [execWireDataReceive.within, Bool.and_eq_true] at h
  simp [execWireDataReceive, h]

def execDeferredAck.within (E : Touch → Bool) : Bool := answer.within E && putRx.within E && updSend.within E
@[simp] theorem execDeferredAck_but (h : execDeferredAck.within E) (peer : ℕ) (msg : ℕ) (s : State) : Outcome.but E
    (execDeferredAck peer msg s) = some (s.but E) := by
  simp only [execDeferredAck.within, Bool.and_eq_true] at h
  unfold execDeferredAck
  dsimp only
  repeat' split
  all_goals simp [h]

def execOrderedCompletionRelease.within (E : Touch → Bool) : Bool := deliverRx.within E
@[simp] theorem execOrderedCompletionRelease_but (h : execOrderedCompletionRelease.within E) (peer : ℕ) (msg : ℕ) (s : State) :
    Outcome.but E (execOrderedCompletionRelease peer msg s) = some (s.but E) := by
  simp only [execOrderedCompletionRelease.within] at h
  unfold execOrderedCompletionRelease
  split <;> simp [h]

def putServe.within (E : Touch → Bool) : Bool := tltShow.within E && E (.part .tlt)
@[simp] theorem putServe_but (h : putServe.within E) (x : Serve) (s : State) : (putServe x s).but E = s.but E := by
  simp only [putServe.within, Bool.and_eq_true] at h
  simp [putServe, h]

def dropServe.within (E : Touch → Bool) : Bool := tltShow.within E && E (.part .tlt)
@[simp] theorem dropServe_but (h : dropServe.within E) (peer : ℕ) (msg : ℕ) (s : State) : (dropServe peer msg s).but E = s.but E := by
  simp only [dropServe.within, Bool.and_eq_true] at h
  simp [dropServe, h]

def readResponse.within (E : Touch → Bool) : Bool := sendPacket.within E
@[simp] theorem readResponse_but (h : readResponse.within E) (x : Serve) (data : List Byte) (s : State) :
    (readResponse x data s).but E = s.but E := by
  simp only [readResponse.within] at h
  simp [readResponse, h]

def atomicResponse.within (E : Touch → Bool) : Bool := sendPacket.within E
@[simp] theorem atomicResponse_but (h : atomicResponse.within E) (x : Serve) (original : List Byte) (s : State) :
    (atomicResponse x original s).but E = s.but E := by
  simp only [atomicResponse.within] at h
  simp [atomicResponse, h]

def served.within (E : Touch → Bool) : Bool := addI.within Reg.FAB_POOL_OPS_COUNT E && laneSkip.within E && recordDone.within E
@[simp] theorem served_but (h : served.within E) (p : TlPkt) (s : State) : (served p s).but E = s.but E := by
  simp only [served.within, Bool.and_eq_true] at h
  simp [served, h]

def serveRead.within (E : Touch → Bool) : Bool := refuseAt.within E && needRead.within E && putServe.within E && readResponse.within E &&
  served.within E
@[simp] theorem serveRead_but (h : serveRead.within E) (p : TlPkt) (s : State) : (serveRead p s).but E = s.but E := by
  simp only [serveRead.within, Bool.and_eq_true] at h
  unfold serveRead
  dsimp only
  repeat' split
  all_goals simp [h]

def execWireReadReqReceive.within (E : Touch → Bool) : Bool := rxIntro.within E && atTarget.within E && serveRead.within E &&
  byPlace.within E
@[simp] theorem execWireReadReqReceive_but (h : execWireReadReqReceive.within E) (p : TlPkt) (s : State) : Outcome.but E
    (execWireReadReqReceive p s) = some (s.but E) := by
  simp only [execWireReadReqReceive.within, Bool.and_eq_true] at h
  have ha (t : State) : (atTarget p (serveRead p) t).but E = t.but E := atTarget_but (by simp only [h]) _ _ _ (by simp [h])
  have hb (t : State) : (byPlace p id t).but E = t.but E := byPlace_but (by simp only [h]) _ _ _ fun _ => rfl
  refine congrArg some (rxIntro_but (by simp only [h]) _ _ _ fun t => ?_)
  split <;> simp [ha, hb]

def atomicDone.within (E : Touch → Bool) : Bool := atomicResponse.within E && putServe.within E
@[simp] theorem atomicDone_but (h : atomicDone.within E) (x : Serve) (old : ℕ) (s : State) : (atomicDone x old s).but E = s.but E := by
  simp only [atomicDone.within, Bool.and_eq_true] at h
  simp [atomicDone, h]

def serveAtomic.within (E : Touch → Bool) : Bool := atomicResponse.within E && trackerFull.within E && refuseAt.within E &&
  refuse.within E && needRead.within E && putServe.within E && atomicAt.within E && atomicDone.within E && served.within E
@[simp] theorem serveAtomic_but (h : serveAtomic.within E) (p : TlPkt) (s : State) : (serveAtomic p s).but E = s.but E := by
  simp only [serveAtomic.within, Bool.and_eq_true] at h
  unfold serveAtomic
  dsimp only
  repeat' split
  all_goals simp [h]

def execWireAtomicReceive.within (E : Touch → Bool) : Bool := rxIntro.within E && count.within Reg.TLT_DUP_DROP_COUNT E &&
  byPlace.within E && atomicResponse.within E && atTarget.within E && serveAtomic.within E
@[simp] theorem execWireAtomicReceive_but (h : execWireAtomicReceive.within E) (p : TlPkt) (s : State) : Outcome.but E
    (execWireAtomicReceive p s) = some (s.but E) := by
  simp only [execWireAtomicReceive.within, Bool.and_eq_true] at h
  have ha (t : State) : (atTarget p (serveAtomic p) t).but E = t.but E := atTarget_but (by simp only [h]) _ _ _ (by simp [h])
  have hb (t : State) : (byPlace p id t).but E = t.but E := byPlace_but (by simp only [h]) _ _ _ fun _ => rfl
  refine congrArg some (rxIntro_but (by simp only [h]) _ _ _ fun t => ?_)
  split
  · simp [h]
  · split
    · exact hb t
    split
    · split <;> simp [h]
    · simp [h]
  · exact ha t
  · exact hb t

def serveHostData.within (E : Touch → Bool) : Bool := refuseAt.within E && dropServe.within E && served.within E &&
  readResponse.within E && markDirty.within E && winPut.within E && atomicDone.within E
@[simp] theorem serveHostData_but (h : serveHostData.within E) (peer : ℕ) (msg : ℕ) (data : List Byte) (s : State) :
    (serveHostData peer msg data s).but E = s.but E := by
  simp only [serveHostData.within, Bool.and_eq_true] at h
  unfold serveHostData
  dsimp only
  repeat' split
  all_goals simp [h]

def serveHostFail.within (E : Touch → Bool) : Bool := dropServe.within E && refuse.within E
@[simp] theorem serveHostFail_but (h : serveHostFail.within E) (peer : ℕ) (msg : ℕ) (st : ℕ) (s : State) :
    (serveHostFail peer msg st s).but E = s.but E := by
  simp only [serveHostFail.within, Bool.and_eq_true] at h
  unfold serveHostFail
  split <;> simp [h]

def progress.within (E : Touch → Bool) : Bool := updSend.within E
@[simp] theorem progress_but (h : progress.within E) (peer : ℕ) (msg : ℕ) (s : State) : (progress peer msg s).but E = s.but E := by
  simp only [progress.within] at h
  simp [progress, h]

def readChunk.within (E : Touch → Bool) : Bool := progress.within E && updSend.within E && endSend.within E && ackAll.within E
@[simp] theorem readChunk_but (h : readChunk.within E) (x : Send) (p : TlPkt) (s : State) : (readChunk x p s).but E = s.but E := by
  simp only [readChunk.within, Bool.and_eq_true] at h
  simp [readChunk, h]

def rxReadResp.within (E : Touch → Bool) : Bool := ackAll.within E && count.within Reg.TLT_DUP_DROP_COUNT E && updSend.within E &&
  readChunk.within E && failSend.within E && winPut.within E
@[simp] theorem rxReadResp_but (h : rxReadResp.within E) (p : TlPkt) (s : State) : (rxReadResp p s).but E = s.but E := by
  simp only [rxReadResp.within, Bool.and_eq_true] at h
  unfold rxReadResp
  repeat' split
  all_goals simp [h]

def atRequester.within (E : Touch → Bool) : Bool := ifOnDie.within E
@[simp] theorem atRequester_but (h : atRequester.within E) (p : TlPkt) (act : State → State) (s : State)
    (hact : ∀ t, (act t).but E = t.but E) : (atRequester p act s).but E = s.but E := by
  simp only [atRequester.within] at h
  unfold atRequester
  split <;> simp [h, hact]

def execWireReadRespReceive.within (E : Touch → Bool) : Bool := rxIntro.within E && atRequester.within E && rxReadResp.within E
@[simp] theorem execWireReadRespReceive_but (h : execWireReadRespReceive.within E) (p : TlPkt) (s : State) : Outcome.but E
    (execWireReadRespReceive p s) = some (s.but E) := by
  simp only [execWireReadRespReceive.within, Bool.and_eq_true] at h
  refine congrArg some (rxIntro_but (by simp only [h]) _ _ _ fun t => ?_)
  exact atRequester_but (by simp only [h]) _ _ _ (by simp [h])

def rxAtomicResp.within (E : Touch → Bool) : Bool := ackAll.within E && endSend.within E && count.within Reg.TLT_DUP_DROP_COUNT E
@[simp] theorem rxAtomicResp_but (h : rxAtomicResp.within E) (p : TlPkt) (s : State) : (rxAtomicResp p s).but E = s.but E := by
  simp only [rxAtomicResp.within, Bool.and_eq_true] at h
  unfold rxAtomicResp
  dsimp only
  split <;> simp [h]

def execWireAtomicRespReceive.within (E : Touch → Bool) : Bool := rxIntro.within E && atRequester.within E && rxAtomicResp.within E
@[simp] theorem execWireAtomicRespReceive_but (h : execWireAtomicRespReceive.within E) (p : TlPkt) (s : State) : Outcome.but E
    (execWireAtomicRespReceive p s) = some (s.but E) := by
  simp only [execWireAtomicRespReceive.within, Bool.and_eq_true] at h
  refine congrArg some (rxIntro_but (by simp only [h]) _ _ _ fun t => ?_)
  exact atRequester_but (by simp only [h]) _ _ _ (by simp [h])

def flushAnswer.within (E : Touch → Bool) : Bool := E (.part .tlt) && updPeer.within E && recordDone.within E && sendPacket.within E
@[simp] theorem flushAnswer_but (h : flushAnswer.within E) (peer : ℕ) (msg : ℕ) (snap : Map (ℕ × ℕ)) (s : State) :
    (flushAnswer peer msg snap s).but E = s.but E := by
  simp only [flushAnswer.within, Bool.and_eq_true] at h
  simp [flushAnswer, h]

def execWireFlushReceive.within (E : Touch → Bool) : Bool := rxIntro.within E && count.within Reg.TLT_WIN_DROP_COUNT E &&
  flushAnswer.within E && needRead.within E && E (.part .tlt)
@[simp] theorem execWireFlushReceive_but (h : execWireFlushReceive.within E) (p : TlPkt) (s : State) : Outcome.but E
    (execWireFlushReceive p s) = some (s.but E) := by
  simp only [execWireFlushReceive.within, Bool.and_eq_true] at h
  refine congrArg some (rxIntro_but (by simp only [h]) _ _ _ fun t => ?_)
  simp [h]

def execFlushVisibilityDone.within (E : Touch → Bool) : Bool := flushAnswer.within E
@[simp] theorem execFlushVisibilityDone_but (h : execFlushVisibilityDone.within E) (peer : ℕ) (msg : ℕ) (s : State) : Outcome.but E
    (execFlushVisibilityDone peer msg s) = some (s.but E) := by
  simp only [execFlushVisibilityDone.within] at h
  unfold execFlushVisibilityDone
  split <;> simp [h]

def flushReadFail.within (E : Touch → Bool) : Bool := E (.part .tlt)
@[simp] theorem flushReadFail_but (h : flushReadFail.within E) (peer : ℕ) (msg : ℕ) (s : State) :
    (flushReadFail peer msg s).but E = s.but E := by
  simp only [flushReadFail.within] at h
  simp [flushReadFail, h]

def execWireFlushAckReceive.within (E : Touch → Bool) : Bool := rxIntro.within E && updEp.within E && endSend.within E
@[simp] theorem execWireFlushAckReceive_but (h : execWireFlushAckReceive.within E) (p : TlPkt) (s : State) : Outcome.but E
    (execWireFlushAckReceive p s) = some (s.but E) := by
  simp only [execWireFlushAckReceive.within, Bool.and_eq_true] at h
  refine congrArg some (rxIntro_but (by simp only [h]) _ _ _ fun t => ?_)
  dsimp only
  split
  · simp [h]
  · rfl

def rttSample.within (E : Touch → Bool) : Bool := State.draw.within E && updPeer.within E && E Reg.TLT_PEER_RTO_SRTT.touch
@[simp] theorem rttSample_but (h : rttSample.within E) (d : ℕ) (s : State) : (rttSample d s).but E = s.but E := by
  simp only [rttSample.within, Bool.and_eq_true] at h
  simp [rttSample, h]

def ackSend.within (E : Touch → Bool) : Bool := rttSample.within E && updSend.within E && progress.within E && endSend.within E &&
  pump.within E
@[simp] theorem ackSend_but (h : ackSend.within E) (x : Send) (p : TlPkt) (s : State) : (ackSend x p s).but E = s.but E := by
  simp only [ackSend.within, Bool.and_eq_true] at h
  simp [ackSend, h]

def execWireAckReceive.within (E : Touch → Bool) : Bool := rxIntro.within E && pathEcho.within E && updPeer.within E &&
  dropServe.within E && ackSend.within E
@[simp] theorem execWireAckReceive_but (h : execWireAckReceive.within E) (p : TlPkt) (s : State) : Outcome.but E
    (execWireAckReceive p s) = some (s.but E) := by
  simp only [execWireAckReceive.within, Bool.and_eq_true] at h
  refine congrArg some (rxIntro_but (by simp only [h]) _ _ _ fun t => ?_)
  dsimp only
  split
  · simp [h]
  split
  · simp [h]
  · simp [h]

def execWireNakReceive.within (E : Touch → Bool) : Bool := rxIntro.within E && E Reg.TLT_NAK_LAST_STATUS.touch &&
  E Reg.TLT_NAK_LAST_PEER.touch && E Reg.TLT_NAK_LAST_ENDPOINT.touch && E Reg.TLT_NAK_LAST_RECEIVED.touch &&
  count.within Reg.TLT_NAK_RX_COUNT E && dropSend.within E && updPeer.within E && updSend.within E && failSend.within E &&
  endSend.within E
@[simp] theorem execWireNakReceive_but (h : execWireNakReceive.within E) (p : TlPkt) (s : State) : Outcome.but E
    (execWireNakReceive p s) = some (s.but E) := by
  simp only [execWireNakReceive.within, Bool.and_eq_true] at h
  refine congrArg some (rxIntro_but (by simp only [h]) _ _ _ fun t => ?_)
  dsimp only
  split
  · simp [h]
  · simp [h]

def execWireAbandonReceive.within (E : Touch → Bool) : Bool := rxIntro.within E && byPlace.within E && dropServe.within E &&
  dropRx.within E && ackAll.within E && laneSkip.within E && recordDone.within E
@[simp] theorem execWireAbandonReceive_but (h : execWireAbandonReceive.within E) (p : TlPkt) (s : State) : Outcome.but E
    (execWireAbandonReceive p s) = some (s.but E) := by
  simp only [execWireAbandonReceive.within, Bool.and_eq_true] at h
  refine congrArg some (rxIntro_but (by simp only [h]) _ _ _ fun t => byPlace_but (by simp only [h]) _ _ _ fun t => ?_)
  simp [h]

def execMessageTimeout.within (E : Touch → Bool) : Bool := count.within Reg.TLT_RETRY_EXC_COUNT E && raise.within E &&
  E Reg.TLT_STATUS_RETRY_EXC.touch && dropSend.within E && failSend.within E && sendChunk.within E && State.draw.within E &&
  updSend.within E
@[simp] theorem execMessageTimeout_but (h : execMessageTimeout.within E) (peer : ℕ) (msg : ℕ) (s : State) : Outcome.but E
    (execMessageTimeout peer msg s) = some (s.but E) := by
  simp only [execMessageTimeout.within, Bool.and_eq_true] at h
  unfold execMessageTimeout
  split <;> simp [h]

def execBusyBackoffExpiry.within (E : Touch → Bool) : Bool := sendChunk.within E && updSend.within E
@[simp] theorem execBusyBackoffExpiry_but (h : execBusyBackoffExpiry.within E) (peer : ℕ) (msg : ℕ) (chunk : ℕ) (s : State) :
    Outcome.but E (execBusyBackoffExpiry peer msg chunk s) = some (s.but E) := by
  simp only [execBusyBackoffExpiry.within, Bool.and_eq_true] at h
  unfold execBusyBackoffExpiry
  repeat' split
  all_goals simp [h]

def rxHeld.within (E : Touch → Bool) : Bool := serveRead.within E && rxReadResp.within E && serveAtomic.within E &&
  rxAtomicResp.within E && rxPlace.within E && byPlace.within E
@[simp] theorem rxHeld_but (h : rxHeld.within E) (p : TlPkt) (s : State) : (rxHeld p s).but E = s.but E := by
  simp only [rxHeld.within, Bool.and_eq_true] at h
  unfold rxHeld
  split <;> simp [h]

def recallDone.within (E : Touch → Bool) : Bool := E (.part .tlt) && makeRoom.within E && touchEp.within E && updEp.within E &&
  ctxShow.within E && rxHeld.within E && refuse.within E && failSend.within E && failEpWork.within E && finish.within E &&
  raiseTo.within E
@[simp] theorem recallDone_but (h : recallDone.within E) (ep : ℕ) (status : ℕ) (s : State) : (recallDone ep status s).but E = s.but E := by
  simp only [recallDone.within, Bool.and_eq_true] at h
  unfold recallDone
  split <;> simp [h]

def execContextRecallDone.within (E : Touch → Bool) : Bool := recallDone.within E
@[simp] theorem execContextRecallDone_but (h : execContextRecallDone.within E) (ep : ℕ) (status : ℕ) (s : State) : Outcome.but E
    (execContextRecallDone ep status s) = some (s.but E) := by
  simp only [execContextRecallDone.within] at h
  simp [execContextRecallDone, h]

def turelmAbort.within (E : Touch → Bool) : Bool := failSend.within E && E (.part .tlt) && finish.within E
@[simp] theorem turelmAbort_but (h : turelmAbort.within E) (seq : ℕ) (st : ℕ) (s : State) : (turelmAbort seq st s).but E = s.but E := by
  simp only [turelmAbort.within, Bool.and_eq_true] at h
  unfold turelmAbort
  split <;> simp [h]

def turelmAbortLate.within (E : Touch → Bool) : Bool := failSend.within E
@[simp] theorem turelmAbortLate_but (h : turelmAbortLate.within E) (niche : ℕ) (tag : ℕ) (s : State) :
    (turelmAbortLate niche tag s).but E = s.but E := by
  simp only [turelmAbortLate.within] at h
  unfold turelmAbortLate
  split <;> simp [h]

def turelmRecovery.within (E : Touch → Bool) : Bool := endSends.within E && tltShow.within E && E (.part .tlt)
@[simp] theorem turelmRecovery_but (h : turelmRecovery.within E) (s : State) : (turelmRecovery s).but E = s.but E := by
  simp only [turelmRecovery.within, Bool.and_eq_true] at h
  simp [turelmRecovery, h]

def turelmNicheReset.within (E : Touch → Bool) : Bool := applyWinRevoke.within E && closeEp.within E
@[simp] theorem turelmNicheReset_but (h : turelmNicheReset.within E) (n : ℕ) (s : State) : (turelmNicheReset n s).but E = s.but E := by
  simp only [turelmNicheReset.within, Bool.and_eq_true] at h
  simp [turelmNicheReset, h]

/-! #### Fabric -/

def fabCmd.within (E : Touch → Bool) : Bool := regGate.within E && cmdStart.within Blk.fab E
@[simp] theorem fabCmd_but (h : fabCmd.within E) (op : ℕ) (who : Issuer) (niche : ℕ) (obj : ℕ) (desc : Option (ℕ × ℕ))
    (act : State → CmdRes) (s : State) (hact : ∀ t, (act t).but E = t.but E) : Outcome.but E (fabCmd op who niche obj desc act s) = some
    (s.but E) := by
  simp only [fabCmd.within, Bool.and_eq_true] at h
  simp [fabCmd, h, hact]

def segShow.within (E : Touch → Bool) : Bool := E Reg.FAB_SEG_INFO_STATE.touch && E Reg.FAB_SEG_INFO_RIGHTS.touch &&
  E Reg.FAB_SEG_INFO_NICHE.touch && E Reg.FAB_SEG_INFO_SIZE_2M.touch && E Reg.FAB_SEG_KEY_KEY.touch && E Reg.FAB_SEG_ADDR_VALUE.touch
@[simp] theorem segShow_but (h : segShow.within E) (g : ℕ) (s : State) : (segShow g s).but E = s.but E := by
  simp only [segShow.within, Bool.and_eq_true] at h
  unfold segShow
  split <;> simp [h]

def execSegCreate.within (E : Touch → Bool) : Bool := fabCmd.within E && freeIndex.within E && E (.part .fab) && State.defer.within E &&
  E Reg.FAB_SEG_INFO_RIGHTS.touch
@[simp] theorem execSegCreate_but (h : execSegCreate.within E) (who : Issuer) (desc : ℕ) (s : State) : Outcome.but E
    (execSegCreate who desc s) = some (s.but E) := by
  simp only [execSegCreate.within, Bool.and_eq_true] at h
  unfold execSegCreate
  refine fabCmd_but (by simp only [h]) _ _ _ _ _ _ _ fun t => ?_
  split
  · rfl
  split
  · rfl
  split
  · rfl
  dsimp only
  split <;> simp [h]

def fabObject.within (E : Touch → Bool) : Bool := E (.part .cmds)
@[simp] theorem fabObject_but (h : fabObject.within E) (obj : ℕ) (s : State) : (fabObject obj s).but E = s.but E := by
  simp only [fabObject.within] at h
  simp [fabObject, h]

def applySegOpen.within (E : Touch → Bool) : Bool := memZero.within E && E (.part .fab) && openWin.within E && segShow.within E &&
  E Reg.FAB_SEG_INFO_STATE.touch && E Reg.FAB_SEG_KEY_KEY.touch && cmdEnd.within Blk.fab E && fabObject.within E
@[simp] theorem applySegOpen_but (h : applySegOpen.within E) (g : ℕ) (zero : Bool) (s : State) :
    (applySegOpen g zero s).but E = s.but E := by
  simp only [applySegOpen.within, Bool.and_eq_true] at h
  unfold applySegOpen
  split <;> simp [h]

def segCmd.within (E : Touch → Bool) : Bool := fabCmd.within E
@[simp] theorem segCmd_but (h : segCmd.within E) (op : ℕ) (who : Issuer) (desc : Option (ℕ × ℕ)) (act : ℕ → Seg → State → CmdRes)
    (s : State) (hact : ∀ a b t, (act a b t).but E = t.but E) : Outcome.but E (segCmd op who desc act s) = some (s.but E) := by
  simp only [segCmd.within] at h
  unfold segCmd
  refine fabCmd_but (by simp only [h]) _ _ _ _ _ _ _ fun t => ?_
  split
  · rfl
  · simp [hact]

def freeSeg.within (E : Touch → Bool) : Bool := segShow.within E && E (.part .fab)
@[simp] theorem freeSeg_but (h : freeSeg.within E) (g : ℕ) (s : State) : (freeSeg g s).but E = s.but E := by
  simp only [freeSeg.within, Bool.and_eq_true] at h
  simp [freeSeg, h]

def execSegDestroy.within (E : Touch → Bool) : Bool := segCmd.within E && freeSeg.within E
@[simp] theorem execSegDestroy_but (h : execSegDestroy.within E) (who : Issuer) (s : State) : Outcome.but E (execSegDestroy who s) = some
    (s.but E) := by
  simp only [execSegDestroy.within, Bool.and_eq_true] at h
  simp [execSegDestroy, h]

def execSegGrant.within (E : Touch → Bool) : Bool := segCmd.within E && State.defer.within E
@[simp] theorem execSegGrant_but (h : execSegGrant.within E) (who : Issuer) (entry : ℕ) (s : State) : Outcome.but E
    (execSegGrant who entry s) = some (s.but E) := by
  simp only [execSegGrant.within, Bool.and_eq_true] at h
  simp [execSegGrant, h]

def applySegGrant.within (E : Touch → Bool) : Bool := E (.part .fab)
@[simp] theorem applySegGrant_but (h : applySegGrant.within E) (g : ℕ) (entry : ℕ) (value : ℕ) (s : State) :
    (applySegGrant g entry value s).but E = s.but E := by
  simp only [applySegGrant.within] at h
  simp [applySegGrant, h]

def execSegRevoke.within (E : Touch → Bool) : Bool := segCmd.within E && State.defer.within E
@[simp] theorem execSegRevoke_but (h : execSegRevoke.within E) (who : Issuer) (s : State) : Outcome.but E (execSegRevoke who s) = some
    (s.but E) := by
  simp only [execSegRevoke.within, Bool.and_eq_true] at h
  simp [execSegRevoke, h]

def applySegRevoke.within (E : Touch → Bool) : Bool := E (.part .tlt) && closeWin.within E && E (.part .fab) && openWin.within E &&
  E Reg.FAB_SEG_INFO_STATE.touch && E Reg.FAB_SEG_KEY_KEY.touch
@[simp] theorem applySegRevoke_but (h : applySegRevoke.within E) (g : ℕ) (reopen : Bool) (s : State) :
    (applySegRevoke g reopen s).but E = s.but E := by
  simp only [applySegRevoke.within, Bool.and_eq_true] at h
  unfold applySegRevoke
  split <;> simp [h]

def fabricNicheReset.within (E : Touch → Bool) : Bool := applySegRevoke.within E && freeSeg.within E && E (.part .fab)
@[simp] theorem fabricNicheReset_but (h : fabricNicheReset.within E) (n : ℕ) (teardown : Bool) (s : State) :
    (fabricNicheReset n teardown s).but E = s.but E := by
  simp only [fabricNicheReset.within, Bool.and_eq_true] at h
  simp [fabricNicheReset, h]

def execImportAdd.within (E : Touch → Bool) : Bool := fabCmd.within E && freeIndex.within E && E (.part .fab)
@[simp] theorem execImportAdd_but (h : execImportAdd.within E) (who : Issuer) (entry : ℕ) (s : State) : Outcome.but E
    (execImportAdd who entry s) = some (s.but E) := by
  simp only [execImportAdd.within, Bool.and_eq_true] at h
  unfold execImportAdd
  refine fabCmd_but (by simp only [h]) _ _ _ _ _ _ _ fun t => ?_
  dsimp only
  split
  · rfl
  split
  · rfl
  split
  · rfl
  split
  · next e => simp [h, but_of_eq e]
  · next e => simp [h, but_of_eq e]

def execImportDel.within (E : Touch → Bool) : Bool := fabCmd.within E && E (.part .fab)
@[simp] theorem execImportDel_but (h : execImportDel.within E) (who : Issuer) (s : State) : Outcome.but E (execImportDel who s) = some
    (s.but E) := by
  simp only [execImportDel.within, Bool.and_eq_true] at h
  unfold execImportDel
  refine fabCmd_but (by simp only [h]) _ _ _ _ _ _ _ fun t => ?_
  split <;> simp [h]

def execApertureSet.within (E : Touch → Bool) : Bool := fabCmd.within E && E (.part .fab)
@[simp] theorem execApertureSet_but (h : execApertureSet.within E) (who : Issuer) (s : State) : Outcome.but E
    (execApertureSet who s) = some (s.but E) := by
  simp only [execApertureSet.within, Bool.and_eq_true] at h
  unfold execApertureSet
  refine fabCmd_but (by simp only [h]) _ _ _ _ _ _ _ fun t => ?_
  repeat' split
  all_goals simp [h]

def execFabTemplateWrite.within (E : Touch → Bool) : Bool := fabCmd.within E && E (.part .fab)
@[simp] theorem execFabTemplateWrite_but (h : execFabTemplateWrite.within E) (who : Issuer) (template : ℕ) (s : State) : Outcome.but E
    (execFabTemplateWrite who template s) = some (s.but E) := by
  simp only [execFabTemplateWrite.within, Bool.and_eq_true] at h
  simp [execFabTemplateWrite, h]

def execSeedWrite.within (E : Touch → Bool) : Bool := fabCmd.within E && E (.part .fab)
@[simp] theorem execSeedWrite_but (h : execSeedWrite.within E) (who : Issuer) (addr : ℕ) (s : State) : Outcome.but E
    (execSeedWrite who addr s) = some (s.but E) := by
  simp only [execSeedWrite.within, Bool.and_eq_true] at h
  simp [execSeedWrite, h]

def rmtCmd.within (E : Touch → Bool) : Bool := fabCmd.within E && newSend.within E
@[simp] theorem rmtCmd_but (h : rmtCmd.within E) (op : ℕ) (who : Issuer) (write : Bool) (s : State) : Outcome.but E
    (rmtCmd op who write s) = some (s.but E) := by
  simp only [rmtCmd.within, Bool.and_eq_true] at h
  simp [rmtCmd, h]

def execRmtRead.within (E : Touch → Bool) : Bool := rmtCmd.within E
@[simp] theorem execRmtRead_but (h : execRmtRead.within E) (who : Issuer) (s : State) : Outcome.but E (execRmtRead who s) = some
    (s.but E) := by
  simp only [execRmtRead.within] at h
  simp [execRmtRead, h]

def execRmtWrite.within (E : Touch → Bool) : Bool := rmtCmd.within E
@[simp] theorem execRmtWrite_but (h : execRmtWrite.within E) (who : Issuer) (s : State) : Outcome.but E (execRmtWrite who s) = some
    (s.but E) := by
  simp only [execRmtWrite.within] at h
  simp [execRmtWrite, h]

def execRegResp.within (E : Touch → Bool) : Bool := rxIntro.within E && ackAll.within E && endSend.within E
@[simp] theorem execRegResp_but (h : execRegResp.within E) (p : TlPkt) (s : State) : Outcome.but E (execRegResp p s) = some (s.but E) := by
  simp only [execRegResp.within, Bool.and_eq_true] at h
  refine congrArg some (rxIntro_but (by simp only [h]) _ _ _ fun t => ?_)
  dsimp only
  split
  · simp [h]
  · simp [h]

def execPoolAtomic.within (E : Touch → Bool) : Bool := finish.within E && begin_.within E && poolRefused.within E &&
  atomicAt.within E && newSend.within E
@[simp] theorem execPoolAtomic_but (h : execPoolAtomic.within E) (w : Work) (s : State) : Outcome.but E (execPoolAtomic w s) = some
    (s.but E) := by
  simp only [execPoolAtomic.within, Bool.and_eq_true] at h
  unfold execPoolAtomic
  refine tlWork_but _ _ _ _ fun f t => ?_
  dsimp only
  split
  · simp [h]
  split
  · simp [h]
  split
  · split <;> simp [h]
  split
  · rfl
  split <;> simp [h]

/-! #### Discovery -/

def ctlSend.within (E : Touch → Bool) : Bool := txCount.within E && sendControl.within E
@[simp] theorem ctlSend_but (h : ctlSend.within E) (d : ℕ) (addr : ℕ) (p : TlPkt) (s : State) : (ctlSend d addr p s).but E = s.but E := by
  simp only [ctlSend.within, Bool.and_eq_true] at h
  simp [ctlSend, h]

def sendHellos.within (E : Touch → Bool) : Bool := ctlSend.within E && txCount.within E && sendControl.within E
@[simp] theorem sendHellos_but (h : sendHellos.within E) (known : Bool) (s : State) : (sendHellos known s).but E = s.but E := by
  simp only [sendHellos.within, Bool.and_eq_true] at h
  simp [sendHellos, h]

def fabRx.within (E : Touch → Bool) : Bool := addI.within Reg.TLT_RX_PKT_COUNT E && count.within Reg.TLT_CSUM_DROP_COUNT E
@[simp] theorem fabRx_but (h : fabRx.within E) (p : TlPkt) (act : State → State) (s : State) (hact : ∀ t, (act t).but E = t.but E) :
    (fabRx p act s).but E = s.but E := by
  simp only [fabRx.within, Bool.and_eq_true] at h
  simp [fabRx, h, hact]

def electAgain.within (E : Touch → Bool) : Bool := E Reg.FAB_ID_COORD_KNOWN.touch && E (.part .fab)
@[simp] theorem electAgain_but (h : electAgain.within E) (s : State) : (electAgain s).but E = s.but E := by
  simp only [electAgain.within, Bool.and_eq_true] at h
  simp [electAgain, h]

def followBest.within (E : Touch → Bool) : Bool := electAgain.within E && E Reg.FAB_ID_COORD_ID.touch && raise.within E &&
  E Reg.FAB_STATUS_COORD_CHANGE.touch
@[simp] theorem followBest_but (h : followBest.within E) (s : State) : (followBest s).but E = s.but E := by
  simp only [followBest.within, Bool.and_eq_true] at h
  simp [followBest, h]

def sendIdRequest.within (E : Touch → Bool) : Bool := ctlSend.within E
@[simp] theorem sendIdRequest_but (h : sendIdRequest.within E) (s : State) : (sendIdRequest s).but E = s.but E := by
  simp only [sendIdRequest.within] at h
  simp [sendIdRequest, h]

def resendUpdates.within (E : Touch → Bool) : Bool := ctlSend.within E
@[simp] theorem resendUpdates_but (h : resendUpdates.within E) (s : State) : (resendUpdates s).but E = s.but E := by
  unfold resendUpdates.within at h
  refine foldl_but (fun t a => ?_) _ _
  split
  · simp [h]
  · rfl

def issueUpdate.within (E : Touch → Bool) : Bool := E (.part .fab) && ctlSend.within E && State.defer.within E
@[simp] theorem issueUpdate_but (h : issueUpdate.within E) (fuel : ℕ) (recs : List (Bool × Member)) (to_ : List ℕ) (own : Bool)
    (s : State) : (issueUpdate fuel recs to_ own s).but E = s.but E := by
  simp only [issueUpdate.within, Bool.and_eq_true] at h
  induction fuel generalizing recs s with
  | zero => rfl
  | succ n ih =>
    rw [issueUpdate]
    split
    · rfl
    · simp [h, ih]

def memberChange.within (E : Touch → Bool) : Bool := E (.part .fab) && issueUpdate.within E
@[simp] theorem memberChange_but (h : memberChange.within E) (recs : List (Bool × Member)) (s : State) :
    (memberChange recs s).but E = s.but E := by
  simp only [memberChange.within, Bool.and_eq_true] at h
  simp [memberChange, h]

def sendFull.within (E : Touch → Bool) : Bool := issueUpdate.within E
@[simp] theorem sendFull_but (h : sendFull.within E) (to_ : List ℕ) (own : Bool) (s : State) : (sendFull to_ own s).but E = s.but E := by
  simp only [sendFull.within] at h
  simp [sendFull, h]

def collectTable.within (E : Touch → Bool) : Bool := E (.part .fab)
@[simp] theorem collectTable_but (h : collectTable.within E) (s : State) : (collectTable s).but E = s.but E := by
  simp only [collectTable.within] at h
  simp [collectTable, h]

def becomeCoordinator.within (E : Touch → Bool) : Bool := collectTable.within E && E Reg.FAB_ID_COORD_KNOWN.touch &&
  E Reg.FAB_ID_ROLE.touch && E Reg.FAB_ID_COORD_ID.touch && E (.part .fab) && State.defer.within E && raise.within E &&
  E Reg.FAB_STATUS_ID_REFUSED.touch && sendFull.within E
@[simp] theorem becomeCoordinator_but (h : becomeCoordinator.within E) (s : State) : (becomeCoordinator s).but E = s.but E := by
  simp only [becomeCoordinator.within, Bool.and_eq_true] at h
  unfold becomeCoordinator
  dsimp only
  repeat' split
  all_goals simp [h]

def execElectionSettled.within (E : Touch → Bool) : Bool := E Reg.FAB_ID_COORD_KNOWN.touch && becomeCoordinator.within E &&
  sendIdRequest.within E && E Reg.FAB_ID_ROLE.touch
@[simp] theorem execElectionSettled_but (h : execElectionSettled.within E) (s : State) : Outcome.but E (execElectionSettled s) = some
    (s.but E) := by
  simp only [execElectionSettled.within, Bool.and_eq_true] at h
  simp [execElectionSettled, h]

def execCoordinatorTimeout.within (E : Touch → Bool) : Bool := E (.part .fab) && electAgain.within E && followBest.within E
@[simp] theorem execCoordinatorTimeout_but (h : execCoordinatorTimeout.within E) (s : State) : Outcome.but E
    (execCoordinatorTimeout s) = some (s.but E) := by
  simp only [execCoordinatorTimeout.within, Bool.and_eq_true] at h
  simp [execCoordinatorTimeout, h]

def sendLinkState.within (E : Touch → Bool) : Bool := E (.part .fab) && txCount.within E && sendControl.within E
@[simp] theorem sendLinkState_but (h : sendLinkState.within E) (s : State) : (sendLinkState s).but E = s.but E := by
  simp only [sendLinkState.within, Bool.and_eq_true] at h
  simp [sendLinkState, h]

def execLinkStateTimer.within (E : Touch → Bool) : Bool := sendLinkState.within E
@[simp] theorem execLinkStateTimer_but (h : execLinkStateTimer.within E) (s : State) : Outcome.but E (execLinkStateTimer s) = some
    (s.but E) := by
  simp only [execLinkStateTimer.within] at h
  simp [execLinkStateTimer, h]

def execLinkState.within (E : Touch → Bool) : Bool := fabRx.within E && E (.part .fab) && txCount.within E && sendControl.within E
@[simp] theorem execLinkState_but (h : execLinkState.within E) (mac : ℕ) (p : TlPkt) (s : State) : Outcome.but E
    (execLinkState mac p s) = some (s.but E) := by
  simp only [execLinkState.within, Bool.and_eq_true] at h
  refine congrArg some (fabRx_but (by simp only [h]) _ _ _ fun t => ?_)
  simp [h]

def execRouteTableSwitch.within (E : Touch → Bool) : Bool := E (.part .fab) && E Reg.FAB_PEER_INFO_HOPS.touch
@[simp] theorem execRouteTableSwitch_but (h : execRouteTableSwitch.within E) (s : State) : Outcome.but E (execRouteTableSwitch s) = some
    (s.but E) := by
  simp only [execRouteTableSwitch.within, Bool.and_eq_true] at h
  simp [execRouteTableSwitch, h]

def neighbourGone.within (E : Touch → Bool) : Bool := E (.part .fab) && E Reg.FAB_PORT_NEIGHBOUR_VALID.touch &&
  E Reg.FAB_PORT_NEIGHBOUR.touch && E Reg.FAB_PEER_INFO_NEIGHBOUR.touch && sendLinkState.within E
@[simp] theorem neighbourGone_but (h : neighbourGone.within E) (h' : Heard) (s : State) : (neighbourGone h' s).but E = s.but E := by
  simp only [neighbourGone.within, Bool.and_eq_true] at h
  unfold neighbourGone
  split <;> simp [h]

def execNeighbourTimeout.within (E : Touch → Bool) : Bool := followBest.within E && neighbourGone.within E
@[simp] theorem execNeighbourTimeout_but (h : execNeighbourTimeout.within E) (mac : ℕ) (s : State) : Outcome.but E
    (execNeighbourTimeout mac s) = some (s.but E) := by
  simp only [execNeighbourTimeout.within, Bool.and_eq_true] at h
  unfold execNeighbourTimeout
  split <;> simp [h]

def fabricStart.within (E : Touch → Bool) : Bool := E Reg.FAB_ID_COORD_ID.touch && E Reg.FAB_ID_ROLE.touch && E (.part .fab) &&
  electAgain.within E && followBest.within E
@[simp] theorem fabricStart_but (h : fabricStart.within E) (s : State) : (fabricStart s).but E = s.but E := by
  simp only [fabricStart.within, Bool.and_eq_true] at h
  simp [fabricStart, h]

def fabricStop.within (E : Touch → Bool) : Bool := dropPaths.within E && E Reg.FAB_PEER_INFO_PRESENT.touch &&
  E Reg.FAB_PEER_INFO_NEIGHBOUR.touch && E Reg.FAB_PEER_UID_VALUE.touch && E (.part .fab) && E Reg.FAB_ID_VALID.touch &&
  E Reg.FAB_ID_COORD_KNOWN.touch && E Reg.FAB_ID_ROLE.touch && E Reg.FAB_ID_COORD_ID.touch && E Reg.FAB_ID_ID.touch &&
  E Reg.FAB_MEMBERS_COUNT.touch
@[simp] theorem fabricStop_but (h : fabricStop.within E) (s : State) : (fabricStop s).but E = s.but E := by
  simp only [fabricStop.within, Bool.and_eq_true] at h
  simp [fabricStop, h]

def fabCfgWrite.within (E : Touch → Bool) : Bool := setGate.within E && boundViolation.within E && E Reg.FAB_CFG_FABRIC_ID.touch &&
  E Reg.FAB_CFG_PRIORITY.touch && E Reg.FAB_CFG_MODE.touch && E Reg.FAB_CFG_ENABLE.touch && E Reg.FAB_CFG_RMGMT_ALLOW.touch &&
  E Reg.FAB_CFG_ID_STATIC.touch && E Reg.FAB_CFG_POOL_QUEUE.touch && jRegWrite.within E && fabricStart.within E && fabricStop.within E
@[simp] theorem fabCfgWrite_but (h : fabCfgWrite.within E) (who : Issuer) (value : ℕ) (s : State) :
    (fabCfgWrite who value s).but E = s.but E := by
  simp only [fabCfgWrite.within, Bool.and_eq_true] at h
  simp [fabCfgWrite, h]

def execFabricEnable.within (E : Touch → Bool) : Bool := fabCfgWrite.within E
@[simp] theorem execFabricEnable_but (h : execFabricEnable.within E) (who : Issuer) (value : ℕ) (s : State) : Outcome.but E
    (execFabricEnable who value s) = some (s.but E) := by
  simp only [execFabricEnable.within] at h
  simp [execFabricEnable, h]

def execFabricDisable.within (E : Touch → Bool) : Bool := fabCfgWrite.within E
@[simp] theorem execFabricDisable_but (h : execFabricDisable.within E) (who : Issuer) (value : ℕ) (s : State) : Outcome.but E
    (execFabricDisable who value s) = some (s.but E) := by
  simp only [execFabricDisable.within] at h
  simp [execFabricDisable, h]

def execHelloTimer.within (E : Touch → Bool) : Bool := E (.part .fab) && sendHellos.within E && sendIdRequest.within E &&
  resendUpdates.within E
@[simp] theorem execHelloTimer_but (h : execHelloTimer.within E) (s : State) : Outcome.but E (execHelloTimer s) = some (s.but E) := by
  simp only [execHelloTimer.within, Bool.and_eq_true] at h
  simp only [execHelloTimer, Outcome.but_next, State.but_ite, ite_self, State.updFab_but, sendHellos_but, sendIdRequest_but, resendUpdates_but, h]

def foreignHello.within (E : Touch → Bool) : Bool := E Reg.FAB_STATUS_FOREIGN_HELLO.touch && count.within Reg.FAB_FOREIGN_HELLO_COUNT E
@[simp] theorem foreignHello_but (h : foreignHello.within E) (s : State) : (foreignHello s).but E = s.but E := by
  simp only [foreignHello.within, Bool.and_eq_true] at h
  simp [foreignHello, h]

def sendRevoke.within (E : Touch → Bool) : Bool := ctlSend.within E
@[simp] theorem sendRevoke_but (h : sendRevoke.within E) (uid : ℕ) (d : ℕ) (addr : ℕ) (s : State) :
    (sendRevoke uid d addr s).but E = s.but E := by
  simp only [sendRevoke.within] at h
  simp [sendRevoke, h]

def coordHears.within (E : Touch → Bool) : Bool := memberChange.within E && sendRevoke.within E && sendFull.within E
@[simp] theorem coordHears_but (h : coordHears.within E) (h' : Heard) (asks : Bool) (s : State) :
    (coordHears h' asks s).but E = s.but E := by
  simp only [coordHears.within, Bool.and_eq_true] at h
  unfold coordHears
  repeat' split
  all_goals simp [h]

def ownClash.within (E : Touch → Bool) : Bool := State.defer.within E
@[simp] theorem ownClash_but (h : ownClash.within E) (h' : Heard) (s : State) : (ownClash h' s).but E = s.but E := by
  simp only [ownClash.within] at h
  simp [ownClash, h]

def execHello.within (E : Touch → Bool) : Bool := fabRx.within E && foreignHello.within E && E (.part .fab) &&
  E Reg.FAB_PORT_NEIGHBOUR_VALID.touch && E Reg.FAB_PORT_NEIGHBOUR.touch && E Reg.FAB_PEER_INFO_NEIGHBOUR.touch && followBest.within E &&
  ownClash.within E && coordHears.within E && sendLinkState.within E
@[simp] theorem execHello_but (h : execHello.within E) (mac : ℕ) (p : TlPkt) (s : State) : Outcome.but E (execHello mac p s) = some
    (s.but E) := by
  simp only [execHello.within, Bool.and_eq_true] at h
  obtain ⟨⟨⟨⟨⟨⟨⟨⟨⟨hrx, hf⟩, hfab⟩, hv⟩, hn⟩, hp⟩, hb⟩, ho⟩, hc⟩, hl⟩ := h
  refine congrArg some (fabRx_but hrx _ _ _ fun t => ?_)
  extract_lets e fl h old fresh s1 direct s2 s3 s4 s5
  have e1 : s1.but E = t.but E := State.updFab_but hfab ..
  have e2 : s2.but E = t.but E := by
    rw [State.but_ite, State.setsI_but (by simp [hv, hn]), ite_self, e1]
  have e3 : s3.but E = t.but E := by
    unfold s3
    split
    · rw [State.but_ite, State.setI_but hp, ite_self, e2]
    · exact e2
  have e5 : s5.but E = t.but E := by
    rw [State.but_ite, ownClash_but ho, coordHears_but hc, ite_self, followBest_but hb, e3]
  rw [State.but_ite, State.but_ite, foreignHello_but hf, sendLinkState_but hl, ite_self, e5, ite_self]

def execIdRequest.within (E : Touch → Bool) : Bool := fabRx.within E && memberChange.within E && txCount.within E && sendControl.within E
@[simp] theorem execIdRequest_but (h : execIdRequest.within E) (p : TlPkt) (s : State) : Outcome.but E (execIdRequest p s) = some
    (s.but E) := by
  simp only [execIdRequest.within, Bool.and_eq_true] at h
  simp [execIdRequest, h]

def execIdAssign.within (E : Touch → Bool) : Bool := fabRx.within E && State.defer.within E && E Reg.FAB_ID_ROLE.touch &&
  raise.within E && E Reg.FAB_STATUS_ID_REFUSED.touch
@[simp] theorem execIdAssign_but (h : execIdAssign.within E) (p : TlPkt) (s : State) : Outcome.but E (execIdAssign p s) = some
    (s.but E) := by
  simp only [execIdAssign.within, Bool.and_eq_true] at h
  simp [execIdAssign, h]

def execIdRevoke.within (E : Touch → Bool) : Bool := fabRx.within E && State.defer.within E
@[simp] theorem execIdRevoke_but (h : execIdRevoke.within E) (p : TlPkt) (s : State) : Outcome.but E (execIdRevoke p s) = some
    (s.but E) := by
  simp only [execIdRevoke.within, Bool.and_eq_true] at h
  simp [execIdRevoke, h]

def segsShow.within (E : Touch → Bool) : Bool := segShow.within E
@[simp] theorem segsShow_but (h : segsShow.within E) (s : State) : (segsShow s).but E = s.but E := by
  simp only [segsShow.within] at h
  simp [segsShow, h]

def applyFabId.within (E : Touch → Bool) : Bool := E (.part .fab) && E Reg.FAB_ID_ID.touch && E Reg.FAB_ID_VALID.touch &&
  E Reg.FAB_ID_COORD_ID.touch && raise.within E && segsShow.within E
@[simp] theorem applyFabId_but (h : applyFabId.within E) (d : ℕ) (s : State) : (applyFabId d s).but E = s.but E := by
  simp only [applyFabId.within, Bool.and_eq_true] at h
  simp [applyFabId, h]

def applyFabIdLost.within (E : Touch → Bool) : Bool := endSends.within E && E Reg.FAB_ID_ROLE.touch && E Reg.FAB_ID_VALID.touch &&
  sendIdRequest.within E && raise.within E && segsShow.within E
@[simp] theorem applyFabIdLost_but (h : applyFabIdLost.within E) (s : State) : (applyFabIdLost s).but E = s.but E := by
  simp only [applyFabIdLost.within, Bool.and_eq_true] at h
  unfold applyFabIdLost
  split <;> simp [h]

def execMemberUpdate.within (E : Touch → Bool) : Bool := fabRx.within E && ctlSend.within E && sendHellos.within E && E (.part .fab) &&
  State.defer.within E
@[simp] theorem execMemberUpdate_but (h : execMemberUpdate.within E) (p : TlPkt) (s : State) : Outcome.but E (execMemberUpdate p s) = some
    (s.but E) := by
  simp only [execMemberUpdate.within, Bool.and_eq_true] at h
  simp [execMemberUpdate, h]

def peerReset.within (E : Touch → Bool) : Bool := endSends.within E && E (.part .tlt) && dropRx.within E && peerCount.within E &&
  newPeer.within E
@[simp] theorem peerReset_but (h : peerReset.within E) (d : ℕ) (st : ℕ) (s : State) : (peerReset d st s).but E = s.but E := by
  simp only [peerReset.within, Bool.and_eq_true] at h
  simp [peerReset, h]

def applyRecord.within (E : Touch → Bool) : Bool := E (.part .fab) && E Reg.FAB_PEER_INFO_PRESENT.touch &&
  E Reg.FAB_PEER_UID_VALUE.touch && newPeer.within E && buildPaths.within E && E Reg.FAB_PEER_INFO_HOPS.touch && peerReset.within E &&
  dropPaths.within E
@[simp] theorem applyRecord_but (h : applyRecord.within E) (r : Bool × Member) (s : State) : (applyRecord r s).but E = s.but E := by
  simp only [applyRecord.within, Bool.and_eq_true] at h
  simp [applyRecord, h]

def applyMembers.within (E : Touch → Bool) : Bool := applyRecord.within E && E Reg.FAB_MEMBERS_COUNT.touch &&
  E Reg.FAB_MEMBERS_VERSION.touch
@[simp] theorem applyMembers_but (h : applyMembers.within E) (v : ℕ) (recs : List (Bool × Member)) (s : State) :
    (applyMembers v recs s).but E = s.but E := by
  simp only [applyMembers.within, Bool.and_eq_true] at h
  simp [applyMembers, h]

def execMemberAck.within (E : Touch → Bool) : Bool := fabRx.within E && E (.part .fab)
@[simp] theorem execMemberAck_but (h : execMemberAck.within E) (p : TlPkt) (s : State) : Outcome.but E (execMemberAck p s) = some
    (s.but E) := by
  simp only [execMemberAck.within, Bool.and_eq_true] at h
  simp [execMemberAck, h]

def sendProbe.within (E : Touch → Bool) : Bool := txCount.within E && E (.part .out) && pathSent.within E
@[simp] theorem sendProbe_but (h : sendProbe.within E) (d : ℕ) (i : ℕ) (s : State) : (sendProbe d i s).but E = s.but E := by
  simp only [sendProbe.within, Bool.and_eq_true] at h
  simp [sendProbe, h]

def pathState.within (E : Touch → Bool) : Bool := updPath.within E && E Reg.FAB_PATH_INFO_STATE.touch
@[simp] theorem pathState_but (h : pathState.within E) (d : ℕ) (i : ℕ) (st : ℕ) (s : State) : (pathState d i st s).but E = s.but E := by
  simp only [pathState.within, Bool.and_eq_true] at h
  simp [pathState, h]

def execProbe.within (E : Touch → Bool) : Bool := fabRx.within E && ctlSend.within E
@[simp] theorem execProbe_but (h : execProbe.within E) (p : TlPkt) (s : State) : Outcome.but E (execProbe p s) = some (s.but E) := by
  simp only [execProbe.within, Bool.and_eq_true] at h
  simp [execProbe, h]

def execProbeAck.within (E : Touch → Bool) : Bool := fabRx.within E && pathEcho.within E
@[simp] theorem execProbeAck_but (h : execProbeAck.within E) (p : TlPkt) (s : State) : Outcome.but E (execProbeAck p s) = some
    (s.but E) := by
  simp only [execProbeAck.within, Bool.and_eq_true] at h
  simp [execProbeAck, h]

def execPathSilent.within (E : Touch → Bool) : Bool := sendProbe.within E && withPaths.within E && pathState.within E &&
  E Reg.FAB_PATH_INFO_MISSES.touch
@[simp] theorem execPathSilent_but (h : execPathSilent.within E) (peer : ℕ) (path : ℕ) (s : State) : Outcome.but E
    (execPathSilent peer path s) = some (s.but E) := by
  simp only [execPathSilent.within, Bool.and_eq_true] at h
  unfold execPathSilent
  repeat' split
  all_goals simp [h]

def execPathIdleProbe.within (E : Touch → Bool) : Bool := sendProbe.within E
@[simp] theorem execPathIdleProbe_but (h : execPathIdleProbe.within E) (peer : ℕ) (path : ℕ) (s : State) : Outcome.but E
    (execPathIdleProbe peer path s) = some (s.but E) := by
  simp only [execPathIdleProbe.within] at h
  unfold execPathIdleProbe
  split <;> simp [h]

def pathTrial.within (E : Touch → Bool) : Bool := sendProbe.within E && pathState.within E && E Reg.FAB_PATH_INFO_RESPRAYS.touch &&
  E Reg.FAB_PATH_INFO_UDP_SPORT.touch && E Reg.FAB_PATH_INFO_MISSES.touch
@[simp] theorem pathTrial_but (h : pathTrial.within E) (d : ℕ) (i : ℕ) (resprays : ℕ) (s : State) :
    (pathTrial d i resprays s).but E = s.but E := by
  simp only [pathTrial.within, Bool.and_eq_true] at h
  simp [pathTrial, h]

def pathDown.within (E : Touch → Bool) : Bool := raise.within E && E Reg.FAB_STATUS_PATH_DOWN.touch && pathState.within E
@[simp] theorem pathDown_but (h : pathDown.within E) (d : ℕ) (i : ℕ) (s : State) : (pathDown d i s).but E = s.but E := by
  simp only [pathDown.within, Bool.and_eq_true] at h
  simp [pathDown, h]

def execProbeRetryExpiry.within (E : Touch → Bool) : Bool := E Reg.FAB_PATH_INFO_MISSES.touch && sendProbe.within E &&
  updPath.within E && withPaths.within E && pathDown.within E && count.within Reg.FAB_PATH_DOWN_CNT_COUNT E && pathTrial.within E
@[simp] theorem execProbeRetryExpiry_but (h : execProbeRetryExpiry.within E) (peer : ℕ) (path : ℕ) (s : State) : Outcome.but E
    (execProbeRetryExpiry peer path s) = some (s.but E) := by
  simp only [execProbeRetryExpiry.within, Bool.and_eq_true] at h
  unfold execProbeRetryExpiry
  dsimp only
  split <;> simp [h]

def execPathRevive.within (E : Touch → Bool) : Bool := pathTrial.within E
@[simp] theorem execPathRevive_but (h : execPathRevive.within E) (peer : ℕ) (path : ℕ) (s : State) : Outcome.but E
    (execPathRevive peer path s) = some (s.but E) := by
  simp only [execPathRevive.within] at h
  unfold execPathRevive
  dsimp only
  split <;> simp [h]

def applyPathUp.within (E : Touch → Bool) : Bool := withPaths.within E && pathState.within E && E Reg.FAB_PATH_INFO_MISSES.touch &&
  E Reg.FAB_PATH_INFO_RESPRAYS.touch
@[simp] theorem applyPathUp_but (h : applyPathUp.within E) (k : ℕ) (s : State) : (applyPathUp k s).but E = s.but E := by
  simp only [applyPathUp.within, Bool.and_eq_true] at h
  simp [applyPathUp, h]

def execEthLinkChange.within (E : Touch → Bool) : Bool := E (.part .sch) && availUpdate.within E && State.defer.within E
@[simp] theorem execEthLinkChange_but (h : execEthLinkChange.within E) (mac : ℕ) (up : Bool) (s : State) : Outcome.but E
    (execEthLinkChange mac up s) = some (s.but E) := by
  simp only [execEthLinkChange.within, Bool.and_eq_true] at h
  simp [execEthLinkChange, h]

def applyMacLink.within (E : Touch → Bool) : Bool := pathTrial.within E && withPaths.within E && pathDown.within E
@[simp] theorem applyMacLink_but (h : applyMacLink.within E) (mac : ℕ) (up : Bool) (s : State) :
    (applyMacLink mac up s).but E = s.but E := by
  simp only [applyMacLink.within, Bool.and_eq_true] at h
  unfold applyMacLink
  dsimp only
  split
  · simp [h]
  · refine foldl_but (fun t k => ?_) _ _
    split
    · rfl
    · exact withPaths_but (by simp only [h]) _ _ _ (by simp [h])

/-! #### Tables -/

def updTbl.within (E : Touch → Bool) : Bool := E (.part .tbl)
@[simp] theorem updTbl_but (h : updTbl.within E) (t : ℕ) (f : TblX → TblX) (s : State) : (updTbl t f s).but E = s.but E := by
  simp only [updTbl.within] at h
  simp [updTbl, h]

def tblShow.within (E : Touch → Bool) : Bool := E Reg.TBL_INFO_STASH.touch && E Reg.TBL_INFO_ENTRIES.touch && E Reg.TBL_INFO_LENGTHS.touch
@[simp] theorem tblShow_but (h : tblShow.within E) (t : ℕ) (s : State) : (tblShow t s).but E = s.but E := by
  simp only [tblShow.within, Bool.and_eq_true] at h
  simp [tblShow, h]

def rehashTo.within (E : Touch → Bool) : Bool := E Reg.TBL_REHASH_STATE.touch && E (.part .tbl) && raise.within E
@[simp] theorem rehashTo_but (h : rehashTo.within E) (st : ℕ) (r : Option Rehash) (s : State) : (rehashTo st r s).but E = s.but E := by
  simp only [rehashTo.within, Bool.and_eq_true] at h
  simp [rehashTo, h]

def storesMap.within (E : Touch → Bool) : Bool := updTbl.within E && E (.part .tbl) && tblShow.within E
@[simp] theorem storesMap_but (h : storesMap.within E) (t : ℕ) (f : Map FlowEntry → Map FlowEntry) (s : State) :
    (storesMap t f s).but E = s.but E := by
  simp only [storesMap.within, Bool.and_eq_true] at h
  unfold storesMap
  dsimp only
  split <;> simp [h]

def entriesMap.within (E : Touch → Bool) : Bool := storesMap.within E
@[simp] theorem entriesMap_but (h : entriesMap.within E) (t : ℕ) (p : FlowEntry → Bool) (f : FlowEntry → FlowEntry) (s : State) :
    (entriesMap t p f s).but E = s.but E := by
  simp only [entriesMap.within] at h
  simp [entriesMap, h]

def filterRaise.within (E : Touch → Bool) : Bool := updTbl.within E
@[simp] theorem filterRaise_but (h : filterRaise.within E) (t : ℕ) (key : ℕ) (s : State) : (filterRaise t key s).but E = s.but E := by
  simp only [filterRaise.within] at h
  simp [filterRaise, h]

def filterLower.within (E : Touch → Bool) : Bool := updTbl.within E
@[simp] theorem filterLower_but (h : filterLower.within E) (t : ℕ) (key : ℕ) (s : State) : (filterLower t key s).but E = s.but E := by
  simp only [filterLower.within] at h
  simp [filterLower, h]

def filterRebuild.within (E : Touch → Bool) : Bool := filterRaise.within E && updTbl.within E
@[simp] theorem filterRebuild_but (h : filterRebuild.within E) (t : ℕ) (s : State) : (filterRebuild t s).but E = s.but E := by
  simp only [filterRebuild.within, Bool.and_eq_true] at h
  simp [filterRebuild, h]

def entryGive.within (E : Touch → Bool) : Bool := quotaGive.within E
@[simp] theorem entryGive_but (h : entryGive.within E) (t : ℕ) (e : FlowEntry) (s : State) : (entryGive t e s).but E = s.but E := by
  simp only [entryGive.within] at h
  simp [entryGive, h]

def entriesDrop.within (E : Touch → Bool) : Bool := storesMap.within E && filterLower.within E && entryGive.within E
@[simp] theorem entriesDrop_but (h : entriesDrop.within E) (t : ℕ) (p : FlowEntry → Bool) (s : State) :
    (entriesDrop t p s).but E = s.but E := by
  simp only [entriesDrop.within, Bool.and_eq_true] at h
  unfold entriesDrop
  rw [foldl_but fun t e => ?_, storesMap_but h.1.1]
  split <;> simp [h]

def rehashNeeded.within (E : Touch → Bool) : Bool := raise.within E && E Reg.TBL_STATUS_REHASH_NEEDED.touch
@[simp] theorem rehashNeeded_but (h : rehashNeeded.within E) (t : ℕ) (s : State) : (rehashNeeded t s).but E = s.but E := by
  simp only [rehashNeeded.within, Bool.and_eq_true] at h
  simp [rehashNeeded, h]

def shadowInsert.within (E : Touch → Bool) : Bool := E (.part .tbl) && rehashTo.within E
@[simp] theorem shadowInsert_but (h : shadowInsert.within E) (t : ℕ) (e : FlowEntry) (s : State) :
    (shadowInsert t e s).but E = s.but E := by
  simp only [shadowInsert.within, Bool.and_eq_true] at h
  unfold shadowInsert
  repeat' split
  all_goals simp [h]

def entryInsert.within (E : Touch → Bool) : Bool := rehashNeeded.within E && countI.within Reg.TBL_INS_FAIL_COUNT E &&
  filterRaise.within E && shadowInsert.within E && updTbl.within E && quotaTake.within E && tblShow.within E
@[simp] theorem entryInsert_but (h : entryInsert.within E) (t : ℕ) (e : FlowEntry) (s : State) : (entryInsert t e s).2.but E = s.but E := by
  simp only [entryInsert.within, Bool.and_eq_true] at h
  unfold entryInsert
  split <;> simp [h]

def lookupCount.within (E : Touch → Bool) : Bool := addI.within Reg.TBL_LOOKUPS_COUNT E && addI.within Reg.TBL_HITS_COUNT E
@[simp] theorem lookupCount_but (h : lookupCount.within E) (t : ℕ) (hit : Bool) (s : State) : (lookupCount t hit s).but E = s.but E := by
  simp only [lookupCount.within, Bool.and_eq_true] at h
  simp [lookupCount, h]

def markHit.within (E : Touch → Bool) : Bool := entriesMap.within E
@[simp] theorem markHit_but (h : markHit.within E) (t : ℕ) (key : ℕ) (niche : ℕ) (s : State) : (markHit t key niche s).but E = s.but E := by
  simp only [markHit.within] at h
  simp [markHit, h]

def stageCount.within (E : Touch → Bool) : Bool := E Reg.PRS_VER_STAGED.touch
@[simp] theorem stageCount_but (h : stageCount.within E) (s : State) : (stageCount s).but E = s.but E := by
  simp only [stageCount.within] at h
  simp [stageCount, h]

def marks.within (E : Touch → Bool) : Bool := entriesMap.within E && entriesDrop.within E
@[simp] theorem marks_but (h : marks.within E) (gone : FlowEntry → Bool) (f : FlowEntry → FlowEntry) (s : State) :
    (marks gone f s).but E = s.but E := by
  simp only [marks.within, Bool.and_eq_true] at h
  simp [marks, h]

def tblCommit.within (E : Touch → Bool) : Bool := marks.within E
@[simp] theorem tblCommit_but (h : tblCommit.within E) (s : State) : (tblCommit s).but E = s.but E := by
  simp only [tblCommit.within] at h
  simp [tblCommit, h]

def tblAbort.within (E : Touch → Bool) : Bool := marks.within E
@[simp] theorem tblAbort_but (h : tblAbort.within E) (s : State) : (tblAbort s).but E = s.but E := by
  simp only [tblAbort.within] at h
  simp [tblAbort, h]

def tblCleanup.within (E : Touch → Bool) : Bool := marks.within E
@[simp] theorem tblCleanup_but (h : tblCleanup.within E) (s : State) : (tblCleanup s).but E = s.but E := by
  simp only [tblCleanup.within] at h
  simp [tblCleanup, h]

def entryDelete.within (E : Touch → Bool) : Bool := entriesDrop.within E && entriesMap.within E
@[simp] theorem entryDelete_but (h : entryDelete.within E) (t : ℕ) (p : FlowEntry → Bool) (s : State) :
    (entryDelete t p s).but E = s.but E := by
  simp only [entryDelete.within, Bool.and_eq_true] at h
  simp [entryDelete, h]

def entryWrite.within (E : Touch → Bool) : Bool := entriesMap.within E && entryInsert.within E
@[simp] theorem entryWrite_but (h : entryWrite.within E) (t : ℕ) (e : FlowEntry) (s : State) : (entryWrite t e s).2.but E = s.but E := by
  simp only [entryWrite.within, Bool.and_eq_true] at h
  unfold entryWrite
  split <;> simp [h]

def tblCmd.within (E : Touch → Bool) : Bool := regGate.within E && cmdStart.within Blk.tbl E && stageCount.within E
@[simp] theorem tblCmd_but (h : tblCmd.within E) (op : ℕ) (who : Issuer) (desc : Option (ℕ × ℕ)) (stages : Bool) (act : State → ℕ × State)
    (s : State) (hact : ∀ t, (act t).2.but E = t.but E) : Outcome.but E (tblCmd op who desc stages act s) = some (s.but E) := by
  simp only [tblCmd.within, Bool.and_eq_true] at h
  unfold tblCmd
  refine congrArg some (regGate_but (by simp only [h]) _ _ _ _ (cmdStart_but Blk.tbl (by simp only [h]) _ _ _ · fun t => ?_))
  split
  · rfl
  split
  · rfl
  · simp [h, hact]

def flowInsertOn.within (E : Touch → Bool) : Bool := entryWrite.within E
@[simp] theorem flowInsertOn_but (h : flowInsertOn.within E) (desc : ℕ) (e : FlowEntry) (s : State) :
    (flowInsertOn desc e s).2.but E = s.but E := by
  simp only [flowInsertOn.within] at h
  simp only [flowInsertOn]
  split <;> simp only [State.but_ite, snd_ite, ite_self, entryWrite_but, h]

def flowDeleteOn.within (E : Touch → Bool) : Bool := entryDelete.within E
@[simp] theorem flowDeleteOn_but (h : flowDeleteOn.within E) (t : ℕ) (key : ℕ) (niche : ℕ) (static : Bool) (s : State) :
    (flowDeleteOn t key niche static s).2.but E = s.but E := by
  simp only [flowDeleteOn.within] at h
  unfold flowDeleteOn
  repeat' split
  all_goals simp [h]

def execInsert.within (E : Touch → Bool) : Bool := tblCmd.within E && flowInsertOn.within E
@[simp] theorem execInsert_but (h : execInsert.within E) (who : Issuer) (desc : ℕ) (s : State) : Outcome.but E
    (execInsert who desc s) = some (s.but E) := by
  simp only [execInsert.within, Bool.and_eq_true] at h
  simp [execInsert, h]

def execDelete.within (E : Touch → Bool) : Bool := tblCmd.within E && flowDeleteOn.within E
@[simp] theorem execDelete_but (h : execDelete.within E) (who : Issuer) (desc : ℕ) (s : State) : Outcome.but E
    (execDelete who desc s) = some (s.but E) := by
  simp only [execDelete.within, Bool.and_eq_true] at h
  simp [execDelete, h]

def execQuery.within (E : Touch → Bool) : Bool := tblCmd.within E && hostPut.within E
@[simp] theorem execQuery_but (h : execQuery.within E) (who : Issuer) (desc : ℕ) (s : State) : Outcome.but E (execQuery who desc s) = some
    (s.but E) := by
  simp only [execQuery.within, Bool.and_eq_true] at h
  unfold execQuery
  refine tblCmd_but (by simp only [h]) _ _ _ _ _ _ fun t => ?_
  dsimp only
  split
  · rfl
  split
  · simp [h]
  · rfl

def execPfxInsert.within (E : Touch → Bool) : Bool := tblCmd.within E && entryWrite.within E
@[simp] theorem execPfxInsert_but (h : execPfxInsert.within E) (who : Issuer) (desc : ℕ) (s : State) : Outcome.but E
    (execPfxInsert who desc s) = some (s.but E) := by
  simp only [execPfxInsert.within, Bool.and_eq_true] at h
  unfold execPfxInsert
  refine tblCmd_but (by simp only [h]) _ _ _ _ _ _ fun t => ?_
  split <;> simp [h]

def execPfxDelete.within (E : Touch → Bool) : Bool := tblCmd.within E && flowDeleteOn.within E
@[simp] theorem execPfxDelete_but (h : execPfxDelete.within E) (who : Issuer) (desc : ℕ) (s : State) : Outcome.but E
    (execPfxDelete who desc s) = some (s.but E) := by
  simp only [execPfxDelete.within, Bool.and_eq_true] at h
  unfold execPfxDelete
  refine tblCmd_but (by simp only [h]) _ _ _ _ _ _ fun t => ?_
  split <;> simp [h]

def execL2Flush.within (E : Touch → Bool) : Bool := tblCmd.within E && entriesDrop.within E
@[simp] theorem execL2Flush_but (h : execL2Flush.within E) (who : Issuer) (s : State) : Outcome.but E (execL2Flush who s) = some
    (s.but E) := by
  simp only [execL2Flush.within, Bool.and_eq_true] at h
  simp [execL2Flush, h]

def execRehashStart.within (E : Touch → Bool) : Bool := tblCmd.within E && rehashTo.within E && E Reg.TBL_REHASH_TABLE.touch &&
  E Reg.TBL_REHASH_COPIED.touch
@[simp] theorem execRehashStart_but (h : execRehashStart.within E) (who : Issuer) (s : State) : Outcome.but E
    (execRehashStart who s) = some (s.but E) := by
  simp only [execRehashStart.within, Bool.and_eq_true] at h
  simp [execRehashStart, h]

def execRehashCopyDone.within (E : Touch → Bool) : Bool := rehashTo.within E && E Reg.TBL_REHASH_COPIED.touch
@[simp] theorem execRehashCopyDone_but (h : execRehashCopyDone.within E) (s : State) : Outcome.but E (execRehashCopyDone s) = some
    (s.but E) := by
  simp only [execRehashCopyDone.within, Bool.and_eq_true] at h
  unfold execRehashCopyDone
  dsimp only
  repeat' split
  all_goals simp [h]

def execRehashSwitch.within (E : Touch → Bool) : Bool := tblCmd.within E && State.defer.within E
@[simp] theorem execRehashSwitch_but (h : execRehashSwitch.within E) (who : Issuer) (s : State) : Outcome.but E
    (execRehashSwitch who s) = some (s.but E) := by
  simp only [execRehashSwitch.within, Bool.and_eq_true] at h
  simp [execRehashSwitch, h]

def applyRehashSwitch.within (E : Touch → Bool) : Bool := updTbl.within E && E Reg.TBL_CUCKOO_SEED.touch && E (.part .tbl) &&
  tblShow.within E && filterRebuild.within E && E Reg.TBL_REHASH_STATE.touch
@[simp] theorem applyRehashSwitch_but (h : applyRehashSwitch.within E) (t : ℕ) (s : State) : (applyRehashSwitch t s).but E = s.but E := by
  simp only [applyRehashSwitch.within, Bool.and_eq_true] at h
  unfold applyRehashSwitch
  split <;> simp [h]

def execRehashSwitchEnd.within (E : Touch → Bool) : Bool := rehashTo.within E
@[simp] theorem execRehashSwitchEnd_but (h : execRehashSwitchEnd.within E) (s : State) : Outcome.but E (execRehashSwitchEnd s) = some
    (s.but E) := by
  simp only [execRehashSwitchEnd.within] at h
  unfold execRehashSwitchEnd
  repeat' split
  all_goals simp [h]

def execRehashAbort.within (E : Touch → Bool) : Bool := tblCmd.within E && rehashTo.within E
@[simp] theorem execRehashAbort_but (h : execRehashAbort.within E) (who : Issuer) (s : State) : Outcome.but E
    (execRehashAbort who s) = some (s.but E) := by
  simp only [execRehashAbort.within, Bool.and_eq_true] at h
  simp [execRehashAbort, h]

def execRehashStateRead.within (E : Touch → Bool) : Bool := readGate.within E && reply.within E && E Reg.TBL_REHASH_STATE.touch
@[simp] theorem execRehashStateRead_but (h : execRehashStateRead.within E) (who : Issuer) (s : State) : Outcome.but E
    (execRehashStateRead who s) = some (s.but E) := by
  simp only [execRehashStateRead.within, Bool.and_eq_true] at h
  simp [execRehashStateRead, h]

def execFlowInsert.within (E : Touch → Bool) : Bool := startWork.within E && stateWork.within E && flowInsertOn.within E
@[simp] theorem execFlowInsert_but (h : execFlowInsert.within E) (w : Work) (desc : ℕ) (s : State) : Outcome.but E
    (execFlowInsert w desc s) = some (s.but E) := by
  simp only [execFlowInsert.within, Bool.and_eq_true] at h
  unfold execFlowInsert
  refine startWork_but (by simp only [h]) _ _ _ _ fun a t => ?_
  refine stateWork_but (by simp only [h]) _ _ _ _ fun t => ?_
  split <;> simp [h]

def execFlowDelete.within (E : Touch → Bool) : Bool := startWork.within E && stateWork.within E && flowDeleteOn.within E
@[simp] theorem execFlowDelete_but (h : execFlowDelete.within E) (w : Work) (desc : ℕ) (s : State) : Outcome.but E
    (execFlowDelete w desc s) = some (s.but E) := by
  simp only [execFlowDelete.within, Bool.and_eq_true] at h
  unfold execFlowDelete
  refine startWork_but (by simp only [h]) _ _ _ _ fun a t => ?_
  refine stateWork_but (by simp only [h]) _ _ _ _ fun t => ?_
  split <;> simp [h]

def execFlowQuery.within (E : Touch → Bool) : Bool := startWork.within E && finish.within E
@[simp] theorem execFlowQuery_but (h : execFlowQuery.within E) (w : Work) (desc : ℕ) (s : State) : Outcome.but E
    (execFlowQuery w desc s) = some (s.but E) := by
  simp only [execFlowQuery.within, Bool.and_eq_true] at h
  unfold execFlowQuery
  refine startWork_but (by simp only [h]) _ _ _ _ fun f t => ?_
  dsimp only
  split
  · simp [h]
  split
  · simp [h]
  split <;> simp [h]

def learnDrop.within (E : Touch → Bool) : Bool := countI.within Reg.TBL_L2_LEARN_DROP_COUNT E && raise.within E &&
  E Reg.TBL_STATUS_LEARN_DROP.touch
@[simp] theorem learnDrop_but (h : learnDrop.within E) (t : ℕ) (s : State) : (learnDrop t s).but E = s.but E := by
  simp only [learnDrop.within, Bool.and_eq_true] at h
  simp [learnDrop, h]

def learnRequest.within (E : Touch → Bool) : Bool := learnDrop.within E && updTbl.within E
@[simp] theorem learnRequest_but (h : learnRequest.within E) (t : ℕ) (l : Learn) (s : State) : (learnRequest t l s).but E = s.but E := by
  simp only [learnRequest.within, Bool.and_eq_true] at h
  simp [learnRequest, h]

def sourceLookup.within (E : Touch → Bool) : Bool := learnRequest.within E && lookupCount.within E && markHit.within E &&
  countI.within Reg.TBL_L2_STATIC_HIT_COUNT E && updTbl.within E
@[simp] theorem sourceLookup_but (h : sourceLookup.within E) (t : ℕ) (key : ℕ) (source : ℕ) (s : State) :
    (sourceLookup t key source s).2.but E = s.but E := by
  simp only [sourceLookup.within, Bool.and_eq_true] at h
  unfold sourceLookup
  split <;> simp [h]

def execL2Learn.within (E : Touch → Bool) : Bool := updTbl.within E && entryInsert.within E && learnDrop.within E
@[simp] theorem execL2Learn_but (h : execL2Learn.within E) (table : ℕ) (s : State) : Outcome.but E (execL2Learn table s) = some
    (s.but E) := by
  simp only [execL2Learn.within, Bool.and_eq_true] at h
  unfold execL2Learn
  dsimp only
  split <;> simp [h]

def flap.within (E : Touch → Bool) : Bool := countI.within Reg.TBL_L2_FLAP_COUNT E && raise.within E && E Reg.TBL_STATUS_L2_FLAP.touch
@[simp] theorem flap_but (h : flap.within E) (t : ℕ) (s : State) : (flap t s).but E = s.but E := by
  simp only [flap.within, Bool.and_eq_true] at h
  simp [flap, h]

def execL2Move.within (E : Touch → Bool) : Bool := updTbl.within E && flap.within E && entriesMap.within E &&
  countI.within Reg.TBL_L2_MOVES_COUNT E && raise.within E && E Reg.TBL_STATUS_L2_MOVE.touch
@[simp] theorem execL2Move_but (h : execL2Move.within E) (table : ℕ) (s : State) : Outcome.but E (execL2Move table s) = some (s.but E) := by
  simp only [execL2Move.within, Bool.and_eq_true] at h
  unfold execL2Move
  dsimp only
  repeat' split
  all_goals simp [h]

def execMoveFlagClear.within (E : Touch → Bool) : Bool := updTbl.within E
@[simp] theorem execMoveFlagClear_but (h : execMoveFlagClear.within E) (table : ℕ) (place : ℕ) (s : State) : Outcome.but E
    (execMoveFlagClear table place s) = some (s.but E) := by
  simp only [execMoveFlagClear.within] at h
  unfold execMoveFlagClear
  split <;> simp [h]

def visit.within (E : Touch → Bool) : Bool := entriesMap.within E && entriesDrop.within E && countI.within Reg.TBL_AGED_COUNT E &&
  raiseTo.within E
@[simp] theorem visit_but (h : visit.within E) (t : ℕ) (place : ℕ) (s : State) : (visit t place s).but E = s.but E := by
  simp only [visit.within, Bool.and_eq_true] at h
  unfold visit
  repeat' split
  all_goals simp [h]

def execAgingSweep.within (E : Touch → Bool) : Bool := updTbl.within E && visit.within E
@[simp] theorem execAgingSweep_but (h : execAgingSweep.within E) (table : ℕ) (s : State) : Outcome.but E (execAgingSweep table s) = some
    (s.but E) := by
  simp only [execAgingSweep.within, Bool.and_eq_true] at h
  simp [execAgingSweep, h]

/-! #### Parse -/

def putPkt.within (E : Touch → Bool) : Bool := E (.part .prs)
@[simp] theorem putPkt_but (h : putPkt.within E) (p : Pkt) (s : State) : (putPkt p s).but E = s.but E := by
  simp only [putPkt.within] at h
  simp [putPkt, h]

def delPkt.within (E : Touch → Bool) : Bool := E (.part .prs)
@[simp] theorem delPkt_but (h : delPkt.within E) (id : ℕ) (s : State) : (delPkt id s).but E = s.but E := by
  simp only [delPkt.within] at h
  simp [delPkt, h]

def lastPkt.within (E : Touch → Bool) : Bool := delPkt.within E && E (.part .prs)
@[simp] theorem lastPkt_but (h : lastPkt.within E) (p : Pkt) (s : State) : (lastPkt p s).but E = s.but E := by
  simp only [lastPkt.within, Bool.and_eq_true] at h
  simp [lastPkt, h]

def roShow.within (E : Touch → Bool) : Bool := E Reg.PRS_RO_STATUS_IN_FLIGHT.touch && E Reg.PRS_RO_STATUS_PEAK.touch
@[simp] theorem roShow_but (h : roShow.within E) (s : State) : (roShow s).but E = s.but E := by
  simp only [roShow.within, Bool.and_eq_true] at h
  simp [roShow, h]

def clusterShow.within (E : Touch → Bool) : Bool := E Reg.PRS_CL_INFO_QUEUE.touch
@[simp] theorem clusterShow_but (h : clusterShow.within E) (k : ℕ) (s : State) : (clusterShow k s).but E = s.but E := by
  simp only [clusterShow.within] at h
  simp [clusterShow, h]

def sendLost.within (E : Touch → Bool) : Bool := State.draw.within E && finish.within E
@[simp] theorem sendLost_but (h : sendLost.within E) (p : Pkt) (s : State) : (sendLost p s).but E = s.but E := by
  simp only [sendLost.within, Bool.and_eq_true] at h
  unfold sendLost
  split <;> simp [h]

def devDrop.within (E : Touch → Bool) : Bool := count.within Reg.PRS_DEV_DROP_COUNT E && E Reg.PRS_DROP_LAST_REASON.touch &&
  E Reg.PRS_DROP_LAST_NICHE.touch && E Reg.PRS_DROP_LAST_STROKE.touch && E Reg.PRS_STATUS_DEV_DROP.touch
@[simp] theorem devDrop_but (h : devDrop.within E) (reason : ℕ) (p : Pkt) (s : State) : (devDrop reason p s).but E = s.but E := by
  simp only [devDrop.within, Bool.and_eq_true] at h
  simp [devDrop, h]

def clusterDrop.within (E : Touch → Bool) : Bool := countI.within Reg.PRS_CL_DROP_COUNT E && raise.within E &&
  E Reg.PRS_STATUS_CL_DROP.touch
@[simp] theorem clusterDrop_but (h : clusterDrop.within E) (k : ℕ) (s : State) : (clusterDrop k s).but E = s.but E := by
  simp only [clusterDrop.within, Bool.and_eq_true] at h
  simp [clusterDrop, h]

def ungate.within (E : Touch → Bool) : Bool := E Reg.RGL_POWER_GATED.touch
@[simp] theorem ungate_but (h : ungate.within E) (k : ℕ) (s : State) : (ungate k s).but E = s.but E := by
  simp only [ungate.within] at h
  simp [ungate, h]

def admitFrame.within (E : Touch → Bool) : Bool := sendLost.within E && clusterDrop.within E && ungate.within E &&
  clusterShow.within E && E (.part .prs)
@[simp] theorem admitFrame_but (h : admitFrame.within E) (p : Pkt) (s : State) : (admitFrame p s).but E = s.but E := by
  simp only [admitFrame.within, Bool.and_eq_true] at h
  simp [admitFrame, h]

def dealCluster.within (E : Touch → Bool) : Bool := E (.part .prs)
theorem dealCluster_but (h : dealCluster.within E) (source : ℕ) (l : List ℕ) (s : State) {r : ℕ × State}
    (e : dealCluster source l s = some r) : r.2.but E = s.but E := by
  unfold dealCluster.within at h
  unfold dealCluster at e
  dsimp only at e
  split at e
  · cases e; simp [h]
  · cases e

def wakeOne.within (E : Touch → Bool) : Bool := E (.part .hif) && E (.part .out)
@[simp] theorem wakeOne_but (h : wakeOne.within E) (l : List Byte) (s : State) (e : ℕ × NicheX) : (wakeOne l s e).but E = s.but E := by
  simp only [wakeOne.within, Bool.and_eq_true] at h
  unfold wakeOne
  dsimp only
  split <;> simp [h]

def execFrameReceive.within (E : Touch → Bool) : Bool := count.within Reg.PWR_LP_DROP_COUNT E && wakeOne.within E &&
  dealCluster.within E && admitFrame.within E
@[simp] theorem execFrameReceive_but (h : execFrameReceive.within E) (mac : ℕ) (data : List Byte) (ns : ℕ) (sub : ℕ) (s : State) :
    Outcome.but E (execFrameReceive mac data ns sub s) = some (s.but E) := by
  simp only [execFrameReceive.within, Bool.and_eq_true] at h
  refine congrArg some ?_
  split
  · rfl
  split
  · simp [h]
  dsimp only
  split
  · next e => rw [admitFrame_but h.2, dealCluster_but h.1.2 _ _ _ e]; simp [h]
  · simp [h]

def spoofDrop.within (E : Touch → Bool) : Bool := countPage.within Reg.NCH_PG_SPOOF_DROP_COUNT E && E Reg.NCH_SPOOF_LAST_CHECK.touch &&
  E Reg.NCH_SPOOF_LAST_NICHE.touch && E Reg.NCH_SPOOF_LAST_STROKE.touch && raise.within E && E Reg.NCH_STATUS_SPOOF.touch &&
  finish.within E
@[simp] theorem spoofDrop_but (h : spoofDrop.within E) (n : ℕ) (check : ℕ) (p : Pkt) (s : State) :
    (spoofDrop n check p s).but E = s.but E := by
  simp only [spoofDrop.within, Bool.and_eq_true] at h
  unfold spoofDrop
  split <;> simp [h]

def parseExc.within (E : Touch → Bool) : Bool := countI.within Reg.PRS_CL_EXC_COUNT E && E Reg.PRS_EXC_LAST_CLUSTER.touch &&
  E Reg.PRS_EXC_LAST_ENGINE.touch && E Reg.PRS_EXC_LAST_VERDICT.touch && E Reg.PRS_EXC_LAST_STROKE.touch && raise.within E &&
  E Reg.PRS_STATUS_PARSE_EXC.touch
@[simp] theorem parseExc_but (h : parseExc.within E) (k : ℕ) (engine : ℕ) (v : ℕ) (s : State) :
    (parseExc k engine v s).but E = s.but E := by
  simp only [parseExc.within, Bool.and_eq_true] at h
  simp [parseExc, h]

def execParseFrame.within (E : Touch → Bool) : Bool := parseExc.within E && clusterShow.within E && spoofDrop.within E &&
  delPkt.within E && putPkt.within E
@[simp] theorem execParseFrame_but (h : execParseFrame.within E) (id : ℕ) (engine : ℕ) (vec : ℕ) (s : State) : Outcome.but E
    (execParseFrame id engine vec s) = some (s.but E) := by
  simp only [execParseFrame.within, Bool.and_eq_true] at h
  unfold execParseFrame
  dsimp only
  repeat' split
  all_goals simp [h]

def tableLookup.within (E : Touch → Bool) : Bool := lookupCount.within E && sourceLookup.within E && markHit.within E
@[simp] theorem tableLookup_but (h : tableLookup.within E) (t : ℕ) (p : Pkt) (s : State) : (tableLookup t p s).2.2.but E = s.but E := by
  simp only [tableLookup.within, Bool.and_eq_true] at h
  unfold tableLookup
  dsimp only
  repeat' split
  all_goals simp [h]

def inlineFail.within (E : Touch → Bool) : Bool := State.draw.within E && inlineDrop.within E && finish.within E
@[simp] theorem inlineFail_but (h : inlineFail.within E) (reason : ℕ) (p : Pkt) (s : State) :
    (inlineFail reason p s).2.but E = s.but E := by
  simp only [inlineFail.within, Bool.and_eq_true] at h
  unfold inlineFail
  dsimp only
  split <;> simp [h]

def inlineDone.within (E : Touch → Bool) : Bool := inlineFail.within E
@[simp] theorem inlineDone_but (h : inlineDone.within E) (dec : Bool) (i : ℕ) (l : List Byte) (p : Pkt) (s : State) :
    (inlineDone dec i l p s).2.but E = s.but E := by
  simp only [inlineDone.within] at h
  unfold inlineDone
  repeat' split
  all_goals simp [h]

def cryptoAction.within (E : Touch → Bool) : Bool := inlineFail.within E && saSend.within E && inlineDone.within E &&
  State.draw.within E && inlineDrop.within E && saReceive.within E
@[simp] theorem cryptoAction_but (h : cryptoAction.within E) (handle : ℕ) (p : Pkt) (s : State) :
    (cryptoAction handle p s).2.but E = s.but E := by
  simp only [cryptoAction.within, Bool.and_eq_true] at h
  unfold cryptoAction
  split
  · simp [h]
  · split <;> simp [h]

def applyOp.within (E : Touch → Bool) : Bool := runMeter.within E && addI.within Reg.PRS_CNT_BYTE_LO_BYTES E &&
  addI.within Reg.PRS_CNT_PKT_COUNT E && cryptoAction.within E
@[simp] theorem applyOp_but (h : applyOp.within E) (stage : ℕ) (op : ℕ) (a : Pkt × State) : (applyOp stage op a).2.but E = a.2.but E := by
  simp only [applyOp.within, Bool.and_eq_true] at h
  unfold applyOp
  dsimp only
  repeat' split
  all_goals simp [h]

def applyAction.within (E : Touch → Bool) : Bool := applyOp.within E
@[simp] theorem applyAction_but (h : applyAction.within E) (stage : ℕ) (entry : ℕ) (p : Pkt) (s : State) :
    (applyAction stage entry p s).2.but E = s.but E := by
  unfold applyAction.within at h
  exact foldl_snd_but (fun a op => applyOp_but h ..) _ _

def runTables.within (E : Touch → Bool) : Bool := tableLookup.within E && applyAction.within E
@[simp] theorem runTables_but (h : runTables.within E) (l : List (ℕ × ℕ)) (park : ℕ) (p : Pkt) (s : State) :
    (runTables l park p s).2.but E = s.but E := by
  simp only [runTables.within, Bool.and_eq_true] at h
  induction l generalizing p s with
  | nil => rfl
  | cons x l ih =>
    rw [runTables]
    split
    · exact ih ..
    split
    · rfl
    dsimp only
    split <;> simp [h, ih]

def setDomain.within (E : Touch → Bool) : Bool := E (.part .prs)
@[simp] theorem setDomain_but (h : setDomain.within E) (d : ℕ) (x : Domain) (s : State) : (setDomain d x s).but E = s.but E := by
  simp only [setDomain.within] at h
  simp [setDomain, h]

def roFull.within (E : Touch → Bool) : Bool := raise.within E && E Reg.PRS_STATUS_RO_FULL.touch
@[simp] theorem roFull_but (h : roFull.within E) (s : State) : (roFull s).but E = s.but E := by
  simp only [roFull.within, Bool.and_eq_true] at h
  simp [roFull, h]

def execPipelineEntry.within (E : Touch → Bool) : Bool := roFull.within E && setDomain.within E && runTables.within E &&
  roShow.within E && lastPkt.within E
@[simp] theorem execPipelineEntry_but (h : execPipelineEntry.within E) (id : ℕ) (park : ℕ) (s : State) : Outcome.but E
    (execPipelineEntry id park s) = some (s.but E) := by
  simp only [execPipelineEntry.within, Bool.and_eq_true] at h
  unfold execPipelineEntry
  split <;> simp [h]

def execParkLookupReturn.within (E : Touch → Bool) : Bool := runTables.within E && lastPkt.within E
@[simp] theorem execParkLookupReturn_but (h : execParkLookupReturn.within E) (id : ℕ) (park : ℕ) (s : State) : Outcome.but E
    (execParkLookupReturn id park s) = some (s.but E) := by
  simp only [execParkLookupReturn.within, Bool.and_eq_true] at h
  unfold execParkLookupReturn
  split
  · rfl
  · split <;> simp [h]

def receiveFrame.within (E : Touch → Bool) : Bool := sendLost.within E && countPage.within Reg.NCH_PG_RX_DROP_COUNT E &&
  countI.within Reg.RNG_RCNT_COUNT E && hostPut.within E && finishAs.within E && finish.within E
@[simp] theorem receiveFrame_but (h : receiveFrame.within E) (r : ℕ) (p : Pkt) (s : State) : (receiveFrame r p s).but E = s.but E := by
  simp only [receiveFrame.within, Bool.and_eq_true] at h
  unfold receiveFrame
  repeat' split
  all_goals simp [h]

def deliver.within (E : Touch → Bool) : Bool := enqueue.within E && receiveFrame.within E && sendLost.within E && transit.within E &&
  State.draw.within E && hwPut.within E && finish.within E
@[simp] theorem deliver_but (h : deliver.within E) (p : Pkt) (s : State) : (deliver p s).but E = s.but E := by
  simp only [deliver.within, Bool.and_eq_true] at h
  unfold deliver
  dsimp only
  repeat' split
  all_goals simp [h]

def releaseDomain.within (E : Touch → Bool) : Bool := setDomain.within E && deliver.within E && delPkt.within E
@[simp] theorem releaseDomain_but (h : releaseDomain.within E) (fuel : ℕ) (d : ℕ) (s : State) :
    (releaseDomain fuel d s).but E = s.but E := by
  simp only [releaseDomain.within, Bool.and_eq_true] at h
  induction fuel generalizing s with
  | zero => rfl
  | succ n ih =>
    rw [releaseDomain]
    dsimp only
    split
    · rfl
    split
    · simp [h, ih]
    split
    · simp [h, ih]
    · rfl

def release.within (E : Touch → Bool) : Bool := roShow.within E && releaseDomain.within E
@[simp] theorem release_but (h : release.within E) (d : ℕ) (s : State) : (release d s).but E = s.but E := by
  simp only [release.within, Bool.and_eq_true] at h
  simp [release, h]

def dropSeq.within (E : Touch → Bool) : Bool := delPkt.within E && roShow.within E && E (.part .prs) && release.within E &&
  setDomain.within E
@[simp] theorem dropSeq_but (h : dropSeq.within E) (p : Pkt) (s : State) : (dropSeq p s).but E = s.but E := by
  simp only [dropSeq.within, Bool.and_eq_true] at h
  simp [dropSeq, h]

def becomeReady.within (E : Touch → Bool) : Bool := count.within Reg.PRS_RO_LATE_COUNT E && sendLost.within E && dropSeq.within E &&
  release.within E && putPkt.within E
@[simp] theorem becomeReady_but (h : becomeReady.within E) (p : Pkt) (s : State) : (becomeReady p s).but E = s.but E := by
  simp only [becomeReady.within, Bool.and_eq_true] at h
  simp [becomeReady, h]

def execResidencyTimeout.within (E : Touch → Bool) : Bool := dropSeq.within E && sendLost.within E && devDrop.within E
@[simp] theorem execResidencyTimeout_but (h : execResidencyTimeout.within E) (id : ℕ) (s : State) : Outcome.but E
    (execResidencyTimeout id s) = some (s.but E) := by
  simp only [execResidencyTimeout.within, Bool.and_eq_true] at h
  unfold execResidencyTimeout
  repeat' split
  all_goals simp [h]

def execPipelineExit.within (E : Touch → Bool) : Bool := dropSeq.within E && sendLost.within E && devDrop.within E && putPkt.within E &&
  E (.part .prs) && becomeReady.within E
@[simp] theorem execPipelineExit_but (h : execPipelineExit.within E) (id : ℕ) (patch : List (ℕ × Byte)) (s : State) : Outcome.but E
    (execPipelineExit id patch s) = some (s.but E) := by
  simp only [execPipelineExit.within, Bool.and_eq_true] at h
  unfold execPipelineExit
  split <;> simp [h]

def skipHead.within (E : Touch → Bool) : Bool := E (.part .prs) && setDomain.within E && count.within Reg.PRS_RO_SKIP_COUNT E &&
  E Reg.PRS_SKIP_LAST_TILE.touch && E Reg.PRS_SKIP_LAST_DOMAIN.touch && E Reg.PRS_SKIP_LAST_SEQ.touch && raise.within E &&
  E Reg.PRS_STATUS_RO_SKIP.touch
@[simp] theorem skipHead_but (h : skipHead.within E) (d : ℕ) (s : State) : (skipHead d s).but E = s.but E := by
  simp only [skipHead.within, Bool.and_eq_true] at h
  unfold skipHead
  dsimp only
  split <;> simp [h]

def skipDomain.within (E : Touch → Bool) : Bool := release.within E && skipHead.within E
@[simp] theorem skipDomain_but (h : skipDomain.within E) (fuel : ℕ) (d : ℕ) (s : State) : (skipDomain fuel d s).but E = s.but E := by
  simp only [skipDomain.within, Bool.and_eq_true] at h
  induction fuel generalizing s with
  | zero => rfl
  | succ n ih =>
    rw [skipDomain]
    split
    · simp [h, ih]
    · rfl

def execReorderSkip.within (E : Touch → Bool) : Bool := skipDomain.within E
@[simp] theorem execReorderSkip_but (h : execReorderSkip.within E) (domain : ℕ) (s : State) : Outcome.but E
    (execReorderSkip domain s) = some (s.but E) := by
  simp only [execReorderSkip.within] at h
  simp [execReorderSkip, h]

def spreadTo.within (E : Touch → Bool) : Bool := memWriteList.within E && hwPut.within E && E (.part .til) && putPkt.within E
@[simp] theorem spreadTo_but (h : spreadTo.within E) (t : ℕ) (slot : ℕ) (p : Pkt) (s : State) : (spreadTo t slot p s).but E = s.but E := by
  simp only [spreadTo.within, Bool.and_eq_true] at h
  simp [spreadTo, h]

def spreadShow.within (E : Touch → Bool) : Bool := E Reg.PRS_SPR_ELIGIBLE.touch
@[simp] theorem spreadShow_but (h : spreadShow.within E) (s : State) : (spreadShow s).but E = s.but E := by
  simp only [spreadShow.within] at h
  simp [spreadShow, h]

def execSpreaderDispatch.within (E : Touch → Bool) : Bool := spreadShow.within E && E (.part .prs) && spreadTo.within E &&
  E Reg.PRS_SPR_LAST.touch && E Reg.PRS_SPR_ROUND.touch
@[simp] theorem execSpreaderDispatch_but (h : execSpreaderDispatch.within E) (s : State) : Outcome.but E (execSpreaderDispatch s) = some
    (s.but E) := by
  simp only [execSpreaderDispatch.within, Bool.and_eq_true] at h
  unfold execSpreaderDispatch
  repeat' split
  all_goals simp [h]

def freeSlot.within (E : Touch → Bool) : Bool := E (.part .til)
@[simp] theorem freeSlot_but (h : freeSlot.within E) (t : ℕ) (slot : ℕ) (s : State) : (freeSlot t slot s).but E = s.but E := by
  simp only [freeSlot.within] at h
  simp [freeSlot, h]

def forwardFromTile.within (E : Touch → Bool) : Bool := becomeReady.within E && dropSeq.within E && sendLost.within E && devDrop.within E
@[simp] theorem forwardFromTile_but (h : forwardFromTile.within E) (p : Pkt) (s : State) : (forwardFromTile p s).but E = s.but E := by
  simp only [forwardFromTile.within, Bool.and_eq_true] at h
  simp [forwardFromTile, h]

def endPacket.within (E : Touch → Bool) : Bool := freeSlot.within E && forwardFromTile.within E && becomeReady.within E &&
  dropSeq.within E && sendLost.within E && devDrop.within E && putPkt.within E
@[simp] theorem endPacket_but (h : endPacket.within E) (verdict : ℕ) (scratch : ℕ) (p : Pkt) (s : State) :
    (endPacket verdict scratch p s).but E = s.but E := by
  simp only [endPacket.within, Bool.and_eq_true] at h
  unfold endPacket
  repeat' split
  all_goals simp [h]

def loseTile.within (E : Touch → Bool) : Bool := freeSlot.within E && count.within Reg.PRS_RO_LOST_COUNT E && sendLost.within E &&
  dropSeq.within E
@[simp] theorem loseTile_but (h : loseTile.within E) (t : ℕ) (s : State) : (loseTile t s).but E = s.but E := by
  simp only [loseTile.within, Bool.and_eq_true] at h
  refine foldl_but (fun t p => ?_) _ _
  dsimp only
  split <;> simp [h]

def editRules.within (E : Touch → Bool) : Bool := E (.part .prs)
@[simp] theorem editRules_but (h : editRules.within E) (f : RuleSet → RuleSet) (s : State) : (editRules f s).but E = s.but E := by
  simp only [editRules.within] at h
  simp [editRules, h]

def rulesShow.within (E : Touch → Bool) : Bool := E Reg.PRS_TBL_INFO_GROUPS.touch && E Reg.PRS_TBL_INFO_RULES.touch &&
  E Reg.PRS_TBL_CAP_DEFAULT_ACTION.touch && E Reg.PRS_TBL_CAP_DEFAULT_SET.touch
@[simp] theorem rulesShow_but (h : rulesShow.within E) (s : State) : (rulesShow s).but E = s.but E := by
  simp only [rulesShow.within, Bool.and_eq_true] at h
  simp [rulesShow, h]

def prsCmd.within (E : Touch → Bool) : Bool := regGate.within E && cmdStart.within Blk.prs E
@[simp] theorem prsCmd_but (h : prsCmd.within E) (op : ℕ) (who : Issuer) (desc : Option (ℕ × ℕ)) (act : State → ℕ × State) (s : State)
    (hact : ∀ t, (act t).2.but E = t.but E) : Outcome.but E (prsCmd op who desc act s) = some (s.but E) := by
  simp only [prsCmd.within, Bool.and_eq_true] at h
  simp [prsCmd, h, hact]

def ruleCmd.within (E : Touch → Bool) : Bool := prsCmd.within E && rulesShow.within E && stageCount.within E && editRules.within E
@[simp] theorem ruleCmd_but (h : ruleCmd.within E) (op : ℕ) (who : Issuer) (desc : Option (ℕ × ℕ)) (act : RuleSet → State → ℕ × RuleSet)
    (s : State) : Outcome.but E (ruleCmd op who desc act s) = some (s.but E) := by
  simp only [ruleCmd.within, Bool.and_eq_true] at h
  unfold ruleCmd
  refine prsCmd_but (by simp only [h]) _ _ _ _ _ fun t => ?_
  repeat' split
  all_goals simp [h]

def execGroupDefine.within (E : Touch → Bool) : Bool := ruleCmd.within E
@[simp] theorem execGroupDefine_but (h : execGroupDefine.within E) (who : Issuer) (desc : ℕ) (s : State) : Outcome.but E
    (execGroupDefine who desc s) = some (s.but E) := by
  simp only [execGroupDefine.within] at h
  simp [execGroupDefine, h]

def execRuleWrite.within (E : Touch → Bool) : Bool := ruleCmd.within E
@[simp] theorem execRuleWrite_but (h : execRuleWrite.within E) (who : Issuer) (desc : ℕ) (s : State) : Outcome.but E
    (execRuleWrite who desc s) = some (s.but E) := by
  simp only [execRuleWrite.within] at h
  simp [execRuleWrite, h]

def execRuleDelete.within (E : Touch → Bool) : Bool := ruleCmd.within E
@[simp] theorem execRuleDelete_but (h : execRuleDelete.within E) (who : Issuer) (desc : ℕ) (s : State) : Outcome.but E
    (execRuleDelete who desc s) = some (s.but E) := by
  simp only [execRuleDelete.within] at h
  simp [execRuleDelete, h]

def execActionWrite.within (E : Touch → Bool) : Bool := ruleCmd.within E
@[simp] theorem execActionWrite_but (h : execActionWrite.within E) (who : Issuer) (entry : ℕ) (s : State) : Outcome.but E
    (execActionWrite who entry s) = some (s.but E) := by
  simp only [execActionWrite.within] at h
  simp [execActionWrite, h]

def execTemplateWrite.within (E : Touch → Bool) : Bool := ruleCmd.within E
@[simp] theorem execTemplateWrite_but (h : execTemplateWrite.within E) (who : Issuer) (template : ℕ) (s : State) : Outcome.but E
    (execTemplateWrite who template s) = some (s.but E) := by
  simp only [execTemplateWrite.within] at h
  simp [execTemplateWrite, h]

def execCounterClear.within (E : Touch → Bool) : Bool := prsCmd.within E && E Reg.PRS_CNT_PKT_COUNT.touch &&
  E Reg.PRS_CNT_BYTE_LO_BYTES.touch
@[simp] theorem execCounterClear_but (h : execCounterClear.within E) (who : Issuer) (s : State) : Outcome.but E
    (execCounterClear who s) = some (s.but E) := by
  simp only [execCounterClear.within, Bool.and_eq_true] at h
  simp [execCounterClear, h]

def execDefaultAction.within (E : Touch → Bool) : Bool := ruleCmd.within E
@[simp] theorem execDefaultAction_but (h : execDefaultAction.within E) (who : Issuer) (s : State) : Outcome.but E
    (execDefaultAction who s) = some (s.but E) := by
  simp only [execDefaultAction.within] at h
  simp [execDefaultAction, h]

def execVerCommit.within (E : Touch → Bool) : Bool := prsCmd.within E && E Reg.PRS_VER_COMMIT_PENDING.touch && E (.part .prs)
@[simp] theorem execVerCommit_but (h : execVerCommit.within E) (who : Issuer) (s : State) : Outcome.but E (execVerCommit who s) = some
    (s.but E) := by
  simp only [execVerCommit.within, Bool.and_eq_true] at h
  simp [execVerCommit, h]

def abortStage.within (E : Touch → Bool) : Bool := tblAbort.within E && E Reg.PRS_VER_STAGED.touch && E (.part .prs)
@[simp] theorem abortStage_but (h : abortStage.within E) (s : State) : (abortStage s).but E = s.but E := by
  simp only [abortStage.within, Bool.and_eq_true] at h
  simp [abortStage, h]

def execVerAbort.within (E : Touch → Bool) : Bool := prsCmd.within E && abortStage.within E
@[simp] theorem execVerAbort_but (h : execVerAbort.within E) (who : Issuer) (s : State) : Outcome.but E (execVerAbort who s) = some
    (s.but E) := by
  simp only [execVerAbort.within, Bool.and_eq_true] at h
  simp [execVerAbort, h]

def execVersionSwitch.within (E : Touch → Bool) : Bool := E (.part .prs) && E Reg.PRS_VER_OLD.touch && E Reg.PRS_VER_OLD_LIVE.touch &&
  E Reg.PRS_VER_LIVE.touch && E Reg.PRS_VER_STAGED.touch && E Reg.PRS_VER_COMMIT_PENDING.touch && E Reg.PRS_VER_COMMIT_STROKE.touch &&
  rulesShow.within E && tblCommit.within E
@[simp] theorem execVersionSwitch_but (h : execVersionSwitch.within E) (s : State) : Outcome.but E (execVersionSwitch s) = some
    (s.but E) := by
  simp only [execVersionSwitch.within, Bool.and_eq_true] at h
  simp [execVersionSwitch, h]

def execVersionRetire.within (E : Touch → Bool) : Bool := E Reg.PRS_VER_OLD_LIVE.touch && E (.part .prs) && raise.within E &&
  tblCleanup.within E
@[simp] theorem execVersionRetire_but (h : execVersionRetire.within E) (s : State) : Outcome.but E (execVersionRetire s) = some
    (s.but E) := by
  simp only [execVersionRetire.within, Bool.and_eq_true] at h
  simp [execVersionRetire, h]

def stageDiscard.within (E : Touch → Bool) : Bool := jDevice.within E && abortStage.within E && raise.within E &&
  E Reg.PRS_STATUS_STAGE_DISCARD.touch
@[simp] theorem stageDiscard_but (h : stageDiscard.within E) (s : State) : (stageDiscard s).but E = s.but E := by
  simp only [stageDiscard.within, Bool.and_eq_true] at h
  simp [stageDiscard, h]

/-! #### StorageAdmin -/

@[simp] theorem adOn_but (h' : ℕ) (opcode : ℕ) (act : ℕ → NvCmd → NvCtrl → State → State) (s : State)
    (hact : ∀ a b c t, (act a b c t).but E = t.but E) : Outcome.but E (adOn h' opcode act s) = some (s.but E) := by
  refine congrArg some ?_
  split
  · split
    · split
      · exact hact ..
      · rfl
    · rfl
  · rfl

def adReturn.within (E : Touch → Bool) : Bool := nvEnd.within E && putSpans.within E
@[simp] theorem adReturn_but (h : adReturn.within E) (slot : ℕ) (cmd : NvCmd) (x : NvCtrl) (data : List Byte) (s : State) :
    (adReturn slot cmd x data s).but E = s.but E := by
  simp only [adReturn.within, Bool.and_eq_true] at h
  unfold adReturn
  split <;> simp [h]

def ioSqShow.within (E : Touch → Bool) : Bool := E Reg.NVS_CTRL_INFO_IO_SQS.touch
@[simp] theorem ioSqShow_but (h : ioSqShow.within E) (c : ℕ) (s : State) : (ioSqShow c s).but E = s.but E := by
  simp only [ioSqShow.within] at h
  simp [ioSqShow, h]

def execCreateIoCq.within (E : Touch → Bool) : Bool := nvEnd.within E && updCtrl.within E
@[simp] theorem execCreateIoCq_but (h : execCreateIoCq.within E) (h' : ℕ) (s : State) : Outcome.but E (execCreateIoCq h' s) = some
    (s.but E) := by
  simp only [execCreateIoCq.within, Bool.and_eq_true] at h
  simp [execCreateIoCq, h]

def execCreateIoSq.within (E : Touch → Bool) : Bool := nvEnd.within E && updCtrl.within E && quotaTake.within E &&
  ioSqShow.within E
@[simp] theorem execCreateIoSq_but (h : execCreateIoSq.within E) (h' : ℕ) (s : State) : Outcome.but E (execCreateIoSq h' s) = some
    (s.but E) := by
  simp only [execCreateIoSq.within, Bool.and_eq_true] at h
  simp [execCreateIoSq, h]

def nvEndQueue.within (E : Touch → Bool) : Bool := nvPost.within E && nvKill.within E
@[simp] theorem nvEndQueue_but (h : nvEndQueue.within E) (c : ℕ) (q : ℕ) (sf : ℕ) (s : State) : (nvEndQueue c q sf s).but E = s.but E := by
  simp only [nvEndQueue.within, Bool.and_eq_true] at h
  have hk (l : List (ℕ × ℕ)) (t : State) : (l.foldl (fun s p => match Map.find? s.nvs.cmds p.2 with
      | some cmd => nvPost cmd 0 sf St.ok 0 (nvKill p.2 s)
      | none => s) t).but E = t.but E := by
    refine foldl_but (fun t p => ?_) l t
    split <;> simp [h]
  unfold nvEndQueue
  dsimp only
  split
  · rw [foldl_but (by simp [h])]; exact hk ..
  · exact hk ..

def execDeleteIoSq.within (E : Touch → Bool) : Bool := nvEnd.within E && nvEndQueue.within E && updCq.within E &&
  E (.part .hif) && updCtrl.within E && quotaGive.within E && ioSqShow.within E
@[simp] theorem execDeleteIoSq_but (h : execDeleteIoSq.within E) (h' : ℕ) (s : State) : Outcome.but E (execDeleteIoSq h' s) = some
    (s.but E) := by
  simp only [execDeleteIoSq.within, Bool.and_eq_true] at h
  unfold execDeleteIoSq
  refine adOn_but _ _ _ _ fun a b c t => ?_
  dsimp only
  split
  · simp [h]
  split <;> simp [h]

def execDeleteIoCq.within (E : Touch → Bool) : Bool := nvEnd.within E && updCtrl.within E
@[simp] theorem execDeleteIoCq_but (h : execDeleteIoCq.within E) (h' : ℕ) (s : State) : Outcome.but E (execDeleteIoCq h' s) = some
    (s.but E) := by
  simp only [execDeleteIoCq.within, Bool.and_eq_true] at h
  simp [execDeleteIoCq, h]

def execIdentify.within (E : Touch → Bool) : Bool := nvEnd.within E && adReturn.within E
@[simp] theorem execIdentify_but (h : execIdentify.within E) (h' : ℕ) (s : State) : Outcome.but E (execIdentify h' s) = some (s.but E) := by
  simp only [execIdentify.within, Bool.and_eq_true] at h
  unfold execIdentify
  refine adOn_but _ _ _ _ fun a b c t => ?_
  split <;> simp [h]

def execGetLogPage.within (E : Touch → Bool) : Bool := nvEnd.within E && updCtrl.within E && adReturn.within E
@[simp] theorem execGetLogPage_but (h : execGetLogPage.within E) (h' : ℕ) (s : State) : Outcome.but E (execGetLogPage h' s) = some
    (s.but E) := by
  simp only [execGetLogPage.within, Bool.and_eq_true] at h
  unfold execGetLogPage
  refine adOn_but _ _ _ _ fun a b c t => ?_
  dsimp only
  split <;> simp [h]

def execSetFeatures.within (E : Touch → Bool) : Bool := nvEnd.within E && updCtrl.within E
@[simp] theorem execSetFeatures_but (h : execSetFeatures.within E) (h' : ℕ) (s : State) : Outcome.but E (execSetFeatures h' s) = some
    (s.but E) := by
  simp only [execSetFeatures.within, Bool.and_eq_true] at h
  unfold execSetFeatures
  refine adOn_but _ _ _ _ fun a b c t => ?_
  split <;> simp [h]

def execGetFeatures.within (E : Touch → Bool) : Bool := nvEnd.within E
@[simp] theorem execGetFeatures_but (h : execGetFeatures.within E) (h' : ℕ) (s : State) : Outcome.but E (execGetFeatures h' s) = some
    (s.but E) := by
  simp only [execGetFeatures.within] at h
  simp [execGetFeatures, h]

def execAsyncEventRequest.within (E : Touch → Bool) : Bool := nvAsync.within E && updCtrl.within E && updCmd.within E
@[simp] theorem execAsyncEventRequest_but (h : execAsyncEventRequest.within E) (h' : ℕ) (s : State) : Outcome.but E
    (execAsyncEventRequest h' s) = some (s.but E) := by
  simp only [execAsyncEventRequest.within, Bool.and_eq_true] at h
  simp [execAsyncEventRequest, h]

def nvTemperature.within (E : Touch → Bool) : Bool := nvNoticeIf.within E
@[simp] theorem nvTemperature_but (h : nvTemperature.within E) (s : State) : (nvTemperature s).but E = s.but E := by
  simp only [nvTemperature.within] at h
  simp [nvTemperature, h]

def execNvmeAbort.within (E : Touch → Bool) : Bool := nvEnd.within E && nvPost.within E && nvKill.within E &&
  updSq.within E
@[simp] theorem execNvmeAbort_but (h : execNvmeAbort.within E) (h' : ℕ) (s : State) : Outcome.but E (execNvmeAbort h' s) = some
    (s.but E) := by
  simp only [execNvmeAbort.within, Bool.and_eq_true] at h
  unfold execNvmeAbort
  refine adOn_but _ _ _ _ fun a b c t => ?_
  dsimp only
  split
  · split <;> simp [h]
  split
  · split <;> simp [h]
  · simp [h]

def execFirmwareImageDownload.within (E : Touch → Bool) : Bool := nvEnd.within E && memWriteList.within E
@[simp] theorem execFirmwareImageDownload_but (h : execFirmwareImageDownload.within E) (h' : ℕ) (s : State) : Outcome.but E
    (execFirmwareImageDownload h' s) = some (s.but E) := by
  simp only [execFirmwareImageDownload.within, Bool.and_eq_true] at h
  unfold execFirmwareImageDownload
  refine adOn_but _ _ _ _ fun a b c t => ?_
  dsimp only
  split
  · simp [h]
  split <;> simp [h]

def execFirmwareCommit.within (E : Touch → Bool) : Bool := nvEnd.within E && updCtrl.within E && updCmd.within E &&
  raise.within E && fwShow.within E
@[simp] theorem execFirmwareCommit_but (h : execFirmwareCommit.within E) (h' : ℕ) (s : State) : Outcome.but E
    (execFirmwareCommit h' s) = some (s.but E) := by
  simp only [execFirmwareCommit.within, Bool.and_eq_true] at h
  simp [execFirmwareCommit, h]

def testEnd.within (E : Touch → Bool) : Bool := nvKill.within E && updCtrl.within E && raise.within E &&
  E Reg.NVS_CTRL_INFO_SELFTEST.touch && State.draw.within E && nvNotice.within E
@[simp] theorem testEnd_but (h : testEnd.within E) (c : ℕ) (result : ℕ) (s : State) : (testEnd c result s).but E = s.but E := by
  simp only [testEnd.within, Bool.and_eq_true] at h
  unfold testEnd
  repeat' split
  all_goals simp [h]

def execDeviceSelfTest.within (E : Touch → Bool) : Bool := nvEnd.within E && testEnd.within E && updCtrl.within E &&
  E Reg.NVS_CTRL_INFO_SELFTEST.touch
@[simp] theorem execDeviceSelfTest_but (h : execDeviceSelfTest.within E) (h' : ℕ) (s : State) : Outcome.but E
    (execDeviceSelfTest h' s) = some (s.but E) := by
  simp only [execDeviceSelfTest.within, Bool.and_eq_true] at h
  simp [execDeviceSelfTest, h]

def testAdvance.within (E : Touch → Bool) : Bool := testEnd.within E && updCtrl.within E
@[simp] theorem testAdvance_but (h : testAdvance.within E) (fuel : ℕ) (c : ℕ) (s : State) : (testAdvance fuel c s).but E = s.but E := by
  simp only [testAdvance.within, Bool.and_eq_true] at h
  induction fuel generalizing s with
  | zero => rfl
  | succ n ih =>
    unfold testAdvance
    split
    · next k _ e _ =>
      cases e
      simp [h, ih]
    · rfl

def testVerify.within (E : Touch → Bool) : Bool := nvLoad.within E && nvTake.within E && hwPut.within E
@[simp] theorem testVerify_but (h : testVerify.within E) (c : ℕ) (ns : ℕ) (lba : ℕ) (bad : Bool) (s : State) :
    (testVerify c ns lba bad s).but E = s.but E := by
  simp only [testVerify.within, Bool.and_eq_true] at h
  unfold testVerify
  dsimp only
  repeat' split
  all_goals simp [h]

def execSelfTestWork.within (E : Touch → Bool) : Bool := updCtrl.within E && testOpEnd.within E && testVerify.within E &&
  testAdvance.within E
@[simp] theorem execSelfTestWork_but (h : execSelfTestWork.within E) (ctrl : ℕ) (bad : Bool) (s : State) : Outcome.but E
    (execSelfTestWork ctrl bad s) = some (s.but E) := by
  simp only [execSelfTestWork.within, Bool.and_eq_true] at h
  unfold execSelfTestWork
  dsimp only
  repeat' split
  all_goals simp [h]

def ccJournal.within (E : Touch → Bool) : Bool := jEntry.within E
@[simp] theorem ccJournal_but (h : ccJournal.within E) (c : ℕ) (before : ℕ) (s : State) : (ccJournal c before s).but E = s.but E := by
  simp only [ccJournal.within] at h
  simp [ccJournal, h]

def execCcEnable.within (E : Touch → Bool) : Bool := updCtrl.within E && ccJournal.within E && ctrlEvent.within E && setCtrlState.within E
@[simp] theorem execCcEnable_but (h : execCcEnable.within E) (ctrl : ℕ) (cc : ℕ) (aqa : ℕ) (asq : ℕ) (acq : ℕ) (s : State) : Outcome.but E
    (execCcEnable ctrl cc aqa asq acq s) = some (s.but E) := by
  simp only [execCcEnable.within, Bool.and_eq_true] at h
  simp [execCcEnable, h]

def execCcDisable.within (E : Touch → Bool) : Bool := ccJournal.within E && updCtrl.within E && State.defer.within E &&
  ctrlEvent.within E && setCtrlState.within E
@[simp] theorem execCcDisable_but (h : execCcDisable.within E) (ctrl : ℕ) (s : State) : Outcome.but E (execCcDisable ctrl s) = some
    (s.but E) := by
  simp only [execCcDisable.within, Bool.and_eq_true] at h
  simp [execCcDisable, h]

def applyNvmeReset.within (E : Touch → Bool) : Bool := testEnd.within E && nvKill.within E && E (.part .hif) && quotaGive.within E &&
  updCtrl.within E && setCtrlState.within E && ioSqShow.within E && fwShow.within E
@[simp] theorem applyNvmeReset_but (h : applyNvmeReset.within E) (c : ℕ) (s : State) : (applyNvmeReset c s).but E = s.but E := by
  simp only [applyNvmeReset.within, Bool.and_eq_true] at h
  unfold applyNvmeReset
  split <;> simp [h]

def execCcShutdown.within (E : Touch → Bool) : Bool := updCtrl.within E && setCtrlState.within E && ccJournal.within E
@[simp] theorem execCcShutdown_but (h : execCcShutdown.within E) (ctrl : ℕ) (shn : ℕ) (s : State) : Outcome.but E
    (execCcShutdown ctrl shn s) = some (s.but E) := by
  simp only [execCcShutdown.within, Bool.and_eq_true] at h
  simp [execCcShutdown, h]

def execShutdownComplete.within (E : Touch → Bool) : Bool := ctrlEvent.within E && updCtrl.within E
@[simp] theorem execShutdownComplete_but (h : execShutdownComplete.within E) (ctrl : ℕ) (s : State) : Outcome.but E
    (execShutdownComplete ctrl s) = some (s.but E) := by
  simp only [execShutdownComplete.within, Bool.and_eq_true] at h
  unfold execShutdownComplete
  split <;> simp [h]

def nvsCmd.within (E : Touch → Bool) : Bool := regGate.within E && cmdStart.within Blk.nvs E
@[simp] theorem nvsCmd_but (h : nvsCmd.within E) (op : ℕ) (who : Issuer) (niche : ℕ) (obj : ℕ) (desc : Option (ℕ × ℕ))
    (act : State → CmdRes) (s : State) (hact : ∀ t, (act t).but E = t.but E) : Outcome.but E (nvsCmd op who niche obj desc act s) = some
    (s.but E) := by
  simp only [nvsCmd.within, Bool.and_eq_true] at h
  simp [nvsCmd, h, hact]

def execCtrlCreate.within (E : Touch → Bool) : Bool := nvsCmd.within E && quotaTake.within E && E (.part .nvs) &&
  E Reg.NVS_CTRL_INFO_STATE.touch && E Reg.NVS_CTRL_INFO_AP.touch && E Reg.NVS_CTRL_INFO_NICHE.touch &&
  E Reg.NVS_CTRL_INFO_IO_SQS.touch && E Reg.NVS_CTRL_INFO_RID.touch && E Reg.NVS_CTRL_INFO_MAX_IO.touch &&
  E Reg.NVS_CTRL_INFO_FW_PENDING.touch && E Reg.NVS_CTRL_INFO_SELFTEST.touch && E Reg.NVS_CMD_CNT_COUNT.touch
@[simp] theorem execCtrlCreate_but (h : execCtrlCreate.within E) (who : Issuer) (desc : ℕ) (s : State) : Outcome.but E
    (execCtrlCreate who desc s) = some (s.but E) := by
  simp only [execCtrlCreate.within, Bool.and_eq_true] at h
  unfold execCtrlCreate
  refine nvsCmd_but (by simp only [h]) _ _ _ _ _ _ _ fun t => ?_
  repeat' split
  all_goals simp [h]

def nsShow.within (E : Touch → Bool) : Bool := E Reg.NVS_NS_INFO_DEFINED.touch && E Reg.NVS_NS_INFO_BACKEND.touch &&
  E Reg.NVS_NS_INFO_PI_TYPE.touch && E Reg.NVS_NS_INFO_GUARD64.touch && E Reg.NVS_NS_INFO_LBADS.touch && E Reg.NVS_NS_INFO_MS.touch &&
  E Reg.NVS_NS_INFO_NICHE.touch && E Reg.NVS_NS_SIZE_NSZE.touch
@[simp] theorem nsShow_but (h : nsShow.within E) (ns : ℕ) (s : State) : (nsShow ns s).but E = s.but E := by
  simp only [nsShow.within, Bool.and_eq_true] at h
  unfold nsShow
  split <;> simp [h]

def nsLeave.within (E : Touch → Bool) : Bool := E Reg.NVS_NS_INFO_ATTACHED.touch && E Reg.NVS_NS_INFO_CTRL.touch &&
  E Reg.NVS_NS_INFO_NSID.touch
@[simp] theorem nsLeave_but (h : nsLeave.within E) (ns : ℕ) (s : State) : (nsLeave ns s).but E = s.but E := by
  simp only [nsLeave.within, Bool.and_eq_true] at h
  simp [nsLeave, h]

def dropCtrl.within (E : Touch → Bool) : Bool := nsLeave.within E && quotaGive.within E && E (.part .nvs) &&
  E Reg.NVS_CTRL_INFO_STATE.touch && E Reg.NVS_CTRL_INFO_AP.touch && E Reg.NVS_CTRL_INFO_NICHE.touch &&
  E Reg.NVS_CTRL_INFO_IO_SQS.touch && E Reg.NVS_CTRL_INFO_RID.touch && E Reg.NVS_CTRL_INFO_MAX_IO.touch
@[simp] theorem dropCtrl_but (h : dropCtrl.within E) (c : ℕ) (s : State) : (dropCtrl c s).but E = s.but E := by
  simp only [dropCtrl.within, Bool.and_eq_true] at h
  unfold dropCtrl
  split <;> simp [h]

def execCtrlDestroy.within (E : Touch → Bool) : Bool := nvsCmd.within E && dropCtrl.within E
@[simp] theorem execCtrlDestroy_but (h : execCtrlDestroy.within E) (who : Issuer) (s : State) : Outcome.but E
    (execCtrlDestroy who s) = some (s.but E) := by
  simp only [execCtrlDestroy.within, Bool.and_eq_true] at h
  simp [execCtrlDestroy, h]

def execNsCreate.within (E : Touch → Bool) : Bool := nvsCmd.within E && memZero.within E && E (.part .nvs) && nsLeave.within E &&
  nsShow.within E
@[simp] theorem execNsCreate_but (h : execNsCreate.within E) (who : Issuer) (desc : ℕ) (s : State) : Outcome.but E
    (execNsCreate who desc s) = some (s.but E) := by
  simp only [execNsCreate.within, Bool.and_eq_true] at h
  unfold execNsCreate
  refine nvsCmd_but (by simp only [h]) _ _ _ _ _ _ _ fun t => ?_
  dsimp only
  iterate 5 (split; (· rfl))
  split
  · rfl
  · simp [h]

def execNsDestroy.within (E : Touch → Bool) : Bool := nvsCmd.within E && nsShow.within E && E (.part .nvs)
@[simp] theorem execNsDestroy_but (h : execNsDestroy.within E) (who : Issuer) (s : State) : Outcome.but E (execNsDestroy who s) = some
    (s.but E) := by
  simp only [execNsDestroy.within, Bool.and_eq_true] at h
  simp [execNsDestroy, h]

def execNsAttach.within (E : Touch → Bool) : Bool := nvsCmd.within E && State.defer.within E
@[simp] theorem execNsAttach_but (h : execNsAttach.within E) (who : Issuer) (s : State) : Outcome.but E (execNsAttach who s) = some
    (s.but E) := by
  simp only [execNsAttach.within, Bool.and_eq_true] at h
  simp [execNsAttach, h]

def applyNsAttach.within (E : Touch → Bool) : Bool := nvNoticeIf.within E && E Reg.NVS_NS_INFO_ATTACHED.touch &&
  E Reg.NVS_NS_INFO_CTRL.touch && E Reg.NVS_NS_INFO_NSID.touch
@[simp] theorem applyNsAttach_but (h : applyNsAttach.within E) (ns : ℕ) (c : ℕ) (nsid : ℕ) (s : State) :
    (applyNsAttach ns c nsid s).but E = s.but E := by
  simp only [applyNsAttach.within, Bool.and_eq_true] at h
  simp [applyNsAttach, h]

def execNsDetach.within (E : Touch → Bool) : Bool := nvsCmd.within E && State.defer.within E
@[simp] theorem execNsDetach_but (h : execNsDetach.within E) (who : Issuer) (s : State) : Outcome.but E (execNsDetach who s) = some
    (s.but E) := by
  simp only [execNsDetach.within, Bool.and_eq_true] at h
  simp [execNsDetach, h]

def applyNsDetach.within (E : Touch → Bool) : Bool := cmdEnd.within Blk.nvs E && testEnd.within E && nsLeave.within E &&
  E (.part .nvs) && nsDetached.within E && nvNoticeIf.within E
@[simp] theorem applyNsDetach_but (h : applyNsDetach.within E) (ns : ℕ) (s : State) : (applyNsDetach ns s).but E = s.but E := by
  simp only [applyNsDetach.within, Bool.and_eq_true] at h
  unfold applyNsDetach
  split <;> simp [h]

def execFwDone.within (E : Touch → Bool) : Bool := nvsCmd.within E && updCtrl.within E && nvEnd.within E && fwShow.within E
@[simp] theorem execFwDone_but (h : execFwDone.within E) (who : Issuer) (block : ℕ) (s : State) : Outcome.but E
    (execFwDone who block s) = some (s.but E) := by
  simp only [execFwDone.within, Bool.and_eq_true] at h
  unfold execFwDone
  refine nvsCmd_but (by simp only [h]) _ _ _ _ _ _ _ fun t => ?_
  repeat' split
  all_goals simp [h]

def nvNicheReset.within (E : Touch → Bool) : Bool := ctrlEvent.within E && applyNvmeReset.within E
@[simp] theorem nvNicheReset_but (h : nvNicheReset.within E) (n : ℕ) (s : State) : (nvNicheReset n s).but E = s.but E := by
  simp only [nvNicheReset.within, Bool.and_eq_true] at h
  simp [nvNicheReset, h]

def nvNicheTeardown.within (E : Touch → Bool) : Bool := dropCtrl.within E && applyNvmeReset.within E && nsShow.within E &&
  nsLeave.within E && E (.part .nvs)
@[simp] theorem nvNicheTeardown_but (h : nvNicheTeardown.within E) (n : ℕ) (s : State) : (nvNicheTeardown n s).but E = s.but E := by
  simp only [nvNicheTeardown.within, Bool.and_eq_true] at h
  simp [nvNicheTeardown, h]

def nvRecovery.within (E : Touch → Bool) : Bool := nvFail.within E
@[simp] theorem nvRecovery_but (h : nvRecovery.within E) (s : State) : (nvRecovery s).but E = s.but E := by
  simp only [nvRecovery.within] at h
  simp [nvRecovery, h]

def nvFatal.within (E : Touch → Bool) : Bool := ctrlEvent.within E && setCtrlState.within E && updCtrl.within E
@[simp] theorem nvFatal_but (h : nvFatal.within E) (s : State) : (nvFatal s).but E = s.but E := by
  simp only [nvFatal.within, Bool.and_eq_true] at h
  simp [nvFatal, h]

/-! #### Work -/

def sendAdmit.within (E : Touch → Bool) : Bool := updFlight.within E && dealCluster.within E && admitFrame.within E && sendLost.within E
@[simp] theorem sendAdmit_but (h : sendAdmit.within E) (f : Flight) (s : State) : (sendAdmit f s).but E = s.but E := by
  simp only [sendAdmit.within, Bool.and_eq_true] at h
  unfold sendAdmit
  dsimp only
  split
  · next e => rw [admitFrame_but h.1.2, dealCluster_but h.1.1.2 _ _ _ e, updFlight_but h.1.1.1]
  · simp [h]

def sendPump.within (E : Touch → Bool) : Bool := sendAdmit.within E
@[simp] theorem sendPump_but (h : sendPump.within E) (h' : ℕ) (s : State) : (sendPump h' s).but E = s.but E := by
  unfold sendPump.within at h
  refine foldl_snd_but (fun a f => ?_) _ _
  simp [h]

def execSend.within (E : Touch → Bool) : Bool := startWork.within E && finish.within E && needRead.within E
@[simp] theorem execSend_but (h : execSend.within E) (w : Work) (s : State) : Outcome.but E (execSend w s) = some (s.but E) := by
  simp only [execSend.within, Bool.and_eq_true] at h
  unfold execSend
  refine startWork_but (by simp only [h]) _ _ _ _ fun a t => ?_
  split <;> simp [h]

def sendStop.within (E : Touch → Bool) : Bool := frameEnds.within E && unqueue.within E && finish.within E && dropSeq.within E &&
  clusterShow.within E && delPkt.within E
theorem sendStop_but (h : sendStop.within E) (seq : ℕ) (st : ℕ) (s : State) {r : State} (e : sendStop seq st s = some r) :
    r.but E = s.but E := by
  simp only [sendStop.within, Bool.and_eq_true] at h
  unfold sendStop at e
  split at e
  · cases e
  split at e
  · cases e; simp [h]
  split at e
  · cases e; simp [h]
  · cases e; simp [h]

def workStop.within (E : Touch → Bool) : Bool := finish.within E && sendStop.within E && turelmAbort.within E && dmaAbort.within E &&
  accStop.within E && nvsAbort.within E
theorem workStop_but (h : workStop.within E) (f : Flight) (st : ℕ) (s : State) {r : State} (e : workStop f st s = some r) :
    r.but E = s.but E := by
  simp only [workStop.within, Bool.and_eq_true] at h
  unfold workStop at e
  dsimp only at e
  split at e
  · cases e
  split at e
  · cases e; simp [h]
  split at e
  · exact sendStop_but (by simp only [h]) _ _ _ e
  split at e
  · cases e; simp [h]
  split at e
  · cases e; simp [h]
  split at e
  · cases e; simp [h]
  split at e
  · cases e; simp [h]
  · cases e

def workKill.within (E : Touch → Bool) : Bool := workStop.within E
@[simp] theorem workKill_but (h : workKill.within E) (f : Flight) (st : ℕ) (s : State) : (workKill f st s).but E = s.but E := by
  unfold workKill.within at h
  exact getD_but (fun e => workStop_but h _ _ _ e) rfl

def execAbort.within (E : Touch → Bool) : Bool := startWork.within E && finish.within E && turelmAbortLate.within E && workStop.within E
@[simp] theorem execAbort_but (h : execAbort.within E) (w : Work) (s : State) : Outcome.but E (execAbort w s) = some (s.but E) := by
  simp only [execAbort.within, Bool.and_eq_true] at h
  unfold execAbort
  refine startWork_but (by simp only [h]) _ _ _ _ fun f t => ?_
  dsimp only
  split
  · simp [h]
  split
  · next e => rw [finish_but h.1.1.2, workStop_but h.2 _ _ _ e]
  · simp [h]

def workForget.within (E : Touch → Bool) : Bool := accForget.within E && dmaForget.within E && abandon.within E && E (.part .tlt) &&
  updFlight.within E && sendStop.within E
@[simp] theorem workForget_but (h : workForget.within E) (f : Flight) (s : State) : (workForget f s).but E = s.but E := by
  simp only [workForget.within, Bool.and_eq_true] at h
  unfold workForget
  dsimp only
  split
  · rw [getD_but (fun e => sendStop_but h.2 _ _ _ e) rfl]; simp [h]
  · simp [h]

def forgetWork.within (E : Touch → Bool) : Bool := dropFlights.within E && workForget.within E
@[simp] theorem forgetWork_but (h : forgetWork.within E) (p : Flight → Bool) (s : State) : (forgetWork p s).but E = s.but E := by
  simp only [forgetWork.within, Bool.and_eq_true] at h
  simp [forgetWork, h]

def ringsOff.within (E : Touch → Bool) : Bool := forgetWork.within E && jDevice.within E && applyDisable.within E &&
  E Reg.RNG_INFO_IDLE.touch
@[simp] theorem ringsOff_but (h : ringsOff.within E) (n : ℕ) (s : State) : (ringsOff n s).but E = s.but E := by
  simp only [ringsOff.within, Bool.and_eq_true] at h
  simp [ringsOff, h]

def pollLost.within (E : Touch → Bool) : Bool := updRing.within E
@[simp] theorem pollLost_but (h : pollLost.within E) (r : ℕ) (s : State) : (pollLost r s).but E = s.but E := by
  simp only [pollLost.within] at h
  simp [pollLost, h]

def workData.within (E : Touch → Bool) : Bool := sendPump.within E && updFlight.within E && turelmHostData.within E &&
  dmaHostData.within E && accHostData.within E && nvsHostData.within E
@[simp] theorem workData_but (h : workData.within E) (seq : ℕ) (data : List Byte) (s : State) : (workData seq data s).but E = s.but E := by
  simp only [workData.within, Bool.and_eq_true] at h
  unfold workData
  split <;> simp [h]

def workFail.within (E : Touch → Bool) : Bool := turelmHostFail.within E && dmaStop.within E && accStop.within E && finish.within E &&
  nvsHostFail.within E && sendPump.within E
@[simp] theorem workFail_but (h : workFail.within E) (seq : ℕ) (st : ℕ) (s : State) : (workFail seq st s).but E = s.but E := by
  simp only [workFail.within, Bool.and_eq_true] at h
  unfold workFail
  split <;> simp [h]

def readFailed.within (E : Touch → Bool) : Bool := pollLost.within E && workFail.within E && nvmeHostFail.within E &&
  serveHostFail.within E && flushReadFail.within E && recallDone.within E
@[simp] theorem readFailed_but (h : readFailed.within E) (t : HostTag) (st : ℕ) (s : State) : (readFailed t st s).but E = s.but E := by
  simp only [readFailed.within, Bool.and_eq_true] at h
  unfold readFailed
  split <;> simp [h]

def execHostReadCompletion.within (E : Touch → Bool) : Bool := patina.within E && countI.within Reg.HIF_LATE_CPL_COUNT E &&
  raise.within E && E Reg.HIF_STATUS_LATE_CPL.touch && E (.part .out) && freeTag.within E && readFailed.within E &&
  pollAnswer.within E && workData.within E && nvmeHostData.within E && serveHostData.within E && recallDone.within E &&
  retryReads.within E
@[simp] theorem execHostReadCompletion_but (h : execHostReadCompletion.within E) (ap : ℕ) (tag : ℕ) (status : ℕ) (data : List Byte)
    (s : State) : Outcome.but E (execHostReadCompletion ap tag status data s) = some (s.but E) := by
  simp only [execHostReadCompletion.within, Bool.and_eq_true] at h
  unfold execHostReadCompletion
  repeat' split
  all_goals simp [h]

def execReadTimeout.within (E : Touch → Bool) : Bool := quarantine.within E && countI.within Reg.HIF_TIMEOUT_CNT_COUNT E &&
  raise.within E && E Reg.HIF_STATUS_CPL_TIMEOUT.touch && E (.part .out) && readFailed.within E
@[simp] theorem execReadTimeout_but (h : execReadTimeout.within E) (ap : ℕ) (tag : ℕ) (s : State) : Outcome.but E
    (execReadTimeout ap tag s) = some (s.but E) := by
  simp only [execReadTimeout.within, Bool.and_eq_true] at h
  unfold execReadTimeout
  split <;> simp [h]

def execTagQuarantineEnd.within (E : Touch → Bool) : Bool := retryReads.within E && tagCounts.within E && E (.part .hif)
@[simp] theorem execTagQuarantineEnd_but (h : execTagQuarantineEnd.within E) (ap : ℕ) (tag : ℕ) (s : State) : Outcome.but E
    (execTagQuarantineEnd ap tag s) = some (s.but E) := by
  simp only [execTagQuarantineEnd.within, Bool.and_eq_true] at h
  unfold execTagQuarantineEnd
  split <;> simp [h]

def applyNicheReset.within (E : Touch → Bool) : Bool := updNiche.within E && quarantine.within E && pollLost.within E &&
  E (.part .hif) && nvNicheReset.within E && fabricNicheReset.within E && turelmNicheReset.within E && ringsOff.within E
@[simp] theorem applyNicheReset_but (h : applyNicheReset.within E) (n : ℕ) (s : State) : (applyNicheReset n s).but E = s.but E := by
  simp only [applyNicheReset.within, Bool.and_eq_true] at h
  obtain ⟨⟨⟨⟨⟨⟨⟨hu, hq⟩, hp⟩, hh⟩, hn⟩, hf⟩, ht⟩, hr⟩ := h
  unfold applyNicheReset
  split
  · rfl
  split
  · rfl
  extract_lets s1 mine s2 s3 s4
  have e3 : s3.but E = s2.but E := by
    refine foldl_but (fun t p => ?_) _ _
    split
    · exact pollLost_but hp ..
    · rfl
  rw [nvNicheReset_but hn, fabricNicheReset_but hf, turelmNicheReset_but ht, ringsOff_but hr, State.updHif_but hh, e3,
    quarantine_but hq, updNiche_but hu]

def dropNicheObjects.within (E : Touch → Bool) : Bool := freeRing.within E && entriesDrop.within E && unbindQueue.within E &&
  unqueue.within E && unbindPolicer.within E && E (.part .tlt) && dropNicheKeys.within E && nvNicheTeardown.within E &&
  fabricNicheReset.within E
@[simp] theorem dropNicheObjects_but (h : dropNicheObjects.within E) (n : ℕ) (s : State) : (dropNicheObjects n s).but E = s.but E := by
  simp only [dropNicheObjects.within, Bool.and_eq_true] at h
  have hu (l : List SFrame) (t : State) : (l.foldl (fun s f => unqueue f s) t).but E = t.but E := foldl_but (by simp [h]) l t
  unfold dropNicheObjects
  simp [h, hu]

def execNicheResetDone.within (E : Touch → Bool) : Bool := wipeNiche.within E && dropNicheObjects.within E && unbindNiche.within E &&
  E Reg.NCH_PG_STATUS_RESET_COUNT.touch && updNiche.within E && setNicheState.within E
@[simp] theorem execNicheResetDone_but (h : execNicheResetDone.within E) (niche : ℕ) (s : State) : Outcome.but E
    (execNicheResetDone niche s) = some (s.but E) := by
  simp only [execNicheResetDone.within, Bool.and_eq_true] at h
  unfold execNicheResetDone
  split <;> simp [h]

/-! #### Hosts -/

def fnShow.within (E : Touch → Bool) : Bool := fnNiches.within E && E Reg.HIF_FN_INFO_EFF_TIMEOUT_US.touch &&
  E Reg.HIF_FN_INFO_DSTATE.touch && E Reg.HIF_FN_INFO_FLR_BUSY.touch && E Reg.HIF_FN_INFO_TDI_STATE.touch &&
  E Reg.HIF_FN_INFO_BME.touch && E Reg.HIF_FN_INFO_CTO_RANGE.touch && E Reg.HIF_FN_INFO_NICHES.touch
@[simp] theorem fnShow_but (h : fnShow.within E) (k : ℕ) (s : State) : (fnShow k s).but E = s.but E := by
  simp only [fnShow.within, Bool.and_eq_true] at h
  simp [fnShow, h]

def standbyShow.within (E : Touch → Bool) : Bool := availUpdate.within E && E Reg.HIF_MGR_STANDBY_READY.touch
@[simp] theorem standbyShow_but (h : standbyShow.within E) (s : State) : (standbyShow s).but E = s.but E := by
  simp only [standbyShow.within, Bool.and_eq_true] at h
  simp [standbyShow, h]

def mgrRecord.within (E : Touch → Bool) : Bool := jDevice.within E
@[simp] theorem mgrRecord_but (h : mgrRecord.within E) (from_ : ℕ × ℕ) (to_ : ℕ × ℕ) (s : State) :
    (mgrRecord from_ to_ s).but E = s.but E := by
  simp only [mgrRecord.within] at h
  simp [mgrRecord, h]

def mgrLeave.within (E : Touch → Bool) : Bool := ringsOff.within E && raise.within E && E Reg.HIF_STATUS_FAILOVER.touch && E (.part .hif)
@[simp] theorem mgrLeave_but (h : mgrLeave.within E) (s : State) : (mgrLeave s).but E = s.but E := by
  simp only [mgrLeave.within, Bool.and_eq_true] at h
  simp [mgrLeave, h]

def moveRole.within (E : Touch → Bool) : Bool := mgrLeave.within E && mgrRecord.within E && E Reg.HIF_MGR_STANDBY_AP.touch &&
  E Reg.HIF_MGR_STANDBY_PF.touch && E Reg.HIF_MGR_VACANT.touch && E Reg.HIF_MGR_ACTIVE_AP.touch && E Reg.HIF_MGR_ACTIVE_PF.touch &&
  E Reg.NCH_INFO_BOUND.touch && E Reg.NCH_INFO_AP.touch && E Reg.NCH_INFO_RID.touch && standbyShow.within E && E (.part .out)
@[simp] theorem moveRole_but (h : moveRole.within E) (ap : ℕ) (pf : ℕ) (s : State) : (moveRole ap pf s).but E = s.but E := by
  simp only [moveRole.within, Bool.and_eq_true] at h
  simp [moveRole, h]

def vacateRole.within (E : Touch → Bool) : Bool := mgrLeave.within E && mgrRecord.within E && standbyShow.within E &&
  E Reg.HIF_MGR_VACANT.touch && E Reg.NCH_INFO_BOUND.touch
@[simp] theorem vacateRole_but (h : vacateRole.within E) (s : State) : (vacateRole s).but E = s.but E := by
  simp only [vacateRole.within, Bool.and_eq_true] at h
  simp [vacateRole, h]

def safeRole.within (E : Touch → Bool) : Bool := moveRole.within E && vacateRole.within E
@[simp] theorem safeRole_but (h : safeRole.within E) (s : State) : (safeRole s).but E = s.but E := by
  simp only [safeRole.within, Bool.and_eq_true] at h
  unfold safeRole
  repeat' split
  all_goals simp [h]

def managerLost.within (E : Touch → Bool) : Bool := E (.part .hif)
@[simp] theorem managerLost_but (h : managerLost.within E) (s : State) : (managerLost s).but E = s.but E := by
  simp only [managerLost.within] at h
  simp [managerLost, h]

def mgrCmdRecord.within (E : Touch → Bool) : Bool := jEntry.within E
@[simp] theorem mgrCmdRecord_but (h : mgrCmdRecord.within E) (op : ℕ) (who : Issuer) (status : ℕ) (s : State) :
    (mgrCmdRecord op who status s).but E = s.but E := by
  simp only [mgrCmdRecord.within] at h
  simp [mgrCmdRecord, h]

def mgrCmd.within (E : Touch → Bool) : Bool := accessDropped.within E && mgrCmdRecord.within E
@[simp] theorem mgrCmd_but (h : mgrCmd.within E) (op : ℕ) (who : Issuer) (act : State → ℕ × State) (s : State)
    (hact : ∀ t, (act t).2.but E = t.but E) : Outcome.but E (mgrCmd op who act s) = some (s.but E) := by
  simp only [mgrCmd.within, Bool.and_eq_true] at h
  simp [mgrCmd, h, hact]

def execManagerHeartbeat.within (E : Touch → Bool) : Bool := regGate.within E && E (.part .hif)
@[simp] theorem execManagerHeartbeat_but (h : execManagerHeartbeat.within E) (who : Issuer) (s : State) : Outcome.but E
    (execManagerHeartbeat who s) = some (s.but E) := by
  simp only [execManagerHeartbeat.within, Bool.and_eq_true] at h
  simp [execManagerHeartbeat, h]

def execManagerHeartbeatTimeout.within (E : Touch → Bool) : Bool := managerLost.within E
@[simp] theorem execManagerHeartbeatTimeout_but (h : execManagerHeartbeatTimeout.within E) (s : State) : Outcome.but E
    (execManagerHeartbeatTimeout s) = some (s.but E) := by
  simp only [execManagerHeartbeatTimeout.within] at h
  simp [execManagerHeartbeatTimeout, h]

def execHandover.within (E : Touch → Bool) : Bool := mgrCmd.within E && E (.part .hif)
@[simp] theorem execHandover_but (h : execHandover.within E) (who : Issuer) (both : Bool) (s : State) : Outcome.but E
    (execHandover who both s) = some (s.but E) := by
  simp only [execHandover.within, Bool.and_eq_true] at h
  simp [execHandover, h]

def execTakeover.within (E : Touch → Bool) : Bool := mgrCmd.within E && E (.part .hif)
@[simp] theorem execTakeover_but (h : execTakeover.within E) (who : Issuer) (s : State) : Outcome.but E (execTakeover who s) = some
    (s.but E) := by
  simp only [execTakeover.within, Bool.and_eq_true] at h
  unfold execTakeover
  refine mgrCmd_but (by simp only [h]) _ _ _ _ fun t => ?_
  dsimp only
  split
  · rfl
  split
  · rfl
  · simp [h]

def execManagerRoleMove.within (E : Touch → Bool) : Bool := moveRole.within E && vacateRole.within E
@[simp] theorem execManagerRoleMove_but (h : execManagerRoleMove.within E) (s : State) : Outcome.but E (execManagerRoleMove s) = some
    (s.but E) := by
  simp only [execManagerRoleMove.within, Bool.and_eq_true] at h
  unfold execManagerRoleMove
  dsimp only
  repeat' split
  all_goals simp [h]

def execStandbyReady.within (E : Touch → Bool) : Bool := standbyShow.within E && E (.part .hif)
@[simp] theorem execStandbyReady_but (h : execStandbyReady.within E) (ap : ℕ) (pf : ℕ) (s : State) : Outcome.but E
    (execStandbyReady ap pf s) = some (s.but E) := by
  simp only [execStandbyReady.within, Bool.and_eq_true] at h
  simp [execStandbyReady, h]

def startTraining.within (E : Touch → Bool) : Bool := E (.part .hif)
@[simp] theorem startTraining_but (h : startTraining.within E) (ap : ℕ) (s : State) : (startTraining ap s).but E = s.but E := by
  simp only [startTraining.within] at h
  simp [startTraining, h]

def linkGoesDown.within (E : Touch → Bool) : Bool := E (.part .hif) && E Reg.HIF_LINK_UP.touch && E Reg.HIF_LINK_FLIT.touch &&
  E Reg.HIF_LINK_SPEED.touch && E Reg.HIF_LINK_WIDTH.touch && E Reg.HIF_LINK_L0P_WIDTH.touch && E Reg.HIF_LINK_PM.touch &&
  E Reg.HIF_LINK_IDE_LINK.touch && safeRole.within E && standbyShow.within E && raise.within E && E Reg.HIF_STATUS_LINK_CHANGE.touch
@[simp] theorem linkGoesDown_but (h : linkGoesDown.within E) (ap : ℕ) (s : State) : (linkGoesDown ap s).but E = s.but E := by
  simp only [linkGoesDown.within, Bool.and_eq_true] at h
  simp [linkGoesDown, h]

def fnReset.within (E : Touch → Bool) : Bool := E Reg.HIF_FN_INFO_DSTATE.touch && E Reg.HIF_FN_INFO_FLR_BUSY.touch &&
  E Reg.HIF_FN_INFO_TDI_STATE.touch && E Reg.HIF_FN_INFO_BME.touch && E Reg.HIF_FN_INFO_CTO_RANGE.touch &&
  E Reg.HIF_FN_INFO_EXISTS.touch && updFn.within E && fnShow.within E && functionResetsNiche.within E
@[simp] theorem fnReset_but (h : fnReset.within E) (removed : Bool) (cold : Bool) (s : State) (f : Fn) :
    (fnReset removed cold s f).but E = s.but E := by
  simp only [fnReset.within, Bool.and_eq_true] at h
  simp [fnReset, h]

def tagsReset.within (E : Touch → Bool) : Bool := quarantine.within E && pollLost.within E && readFailed.within E
@[simp] theorem tagsReset_but (h : tagsReset.within E) (hit : HostTag → Bool) (s : State) : (tagsReset hit s).but E = s.but E := by
  simp only [tagsReset.within, Bool.and_eq_true] at h
  unfold tagsReset
  rw [foldl_but fun t g => ?_, quarantine_but h.1.1]
  split <;> simp [h]

def atcDrop.within (E : Touch → Bool) : Bool := E (.part .hif) && E Reg.HIF_ATC_STATUS_VALID.touch
@[simp] theorem atcDrop_but (h : atcDrop.within E) (hit : AtcEntry → Bool) (s : State) : (atcDrop hit s).but E = s.but E := by
  simp only [atcDrop.within, Bool.and_eq_true] at h
  simp [atcDrop, h]

def resetLast.within (E : Touch → Bool) : Bool := E Reg.HIF_RESET_LAST_KIND.touch && E Reg.HIF_RESET_LAST_RID.touch &&
  E Reg.HIF_RESET_LAST_STROKE.touch
@[simp] theorem resetLast_but (h : resetLast.within E) (ap : ℕ) (kind : ℕ) (rid : ℕ) (s : State) :
    (resetLast ap kind rid s).but E = s.but E := by
  simp only [resetLast.within, Bool.and_eq_true] at h
  simp [resetLast, h]

def apReset.within (E : Touch → Bool) : Bool := resetLast.within E && raise.within E && fnReset.within E && tagsReset.within E &&
  atcDrop.within E && E (.part .hif) && E Reg.HIF_LINK_IDE_LINK.touch && managerLost.within E && standbyShow.within E &&
  linkGoesDown.within E
@[simp] theorem apReset_but (h : apReset.within E) (kind : ℕ) (ap : ℕ) (s : State) : (apReset kind ap s).but E = s.but E := by
  simp only [apReset.within, Bool.and_eq_true] at h
  simp [apReset, h]

def execPerstAssert.within (E : Touch → Bool) : Bool := E (.part .hif) && apReset.within E
@[simp] theorem execPerstAssert_but (h : execPerstAssert.within E) (ap : ℕ) (s : State) : Outcome.but E (execPerstAssert ap s) = some
    (s.but E) := by
  simp only [execPerstAssert.within, Bool.and_eq_true] at h
  simp [execPerstAssert, h]

def execPerstDeassert.within (E : Touch → Bool) : Bool := startTraining.within E && E (.part .hif)
@[simp] theorem execPerstDeassert_but (h : execPerstDeassert.within E) (ap : ℕ) (s : State) : Outcome.but E
    (execPerstDeassert ap s) = some (s.but E) := by
  simp only [execPerstDeassert.within, Bool.and_eq_true] at h
  simp [execPerstDeassert, h]

def execHotReset.within (E : Touch → Bool) : Bool := apReset.within E
@[simp] theorem execHotReset_but (h : execHotReset.within E) (ap : ℕ) (s : State) : Outcome.but E (execHotReset ap s) = some (s.but E) := by
  simp only [execHotReset.within] at h
  simp [execHotReset, h]

def execD3cold.within (E : Touch → Bool) : Bool := apReset.within E && E (.part .hif)
@[simp] theorem execD3cold_but (h : execD3cold.within E) (ap : ℕ) (s : State) : Outcome.but E (execD3cold ap s) = some (s.but E) := by
  simp only [execD3cold.within, Bool.and_eq_true] at h
  simp [execD3cold, h]

def linkDown.within (E : Touch → Bool) : Bool := apReset.within E && linkGoesDown.within E
@[simp] theorem linkDown_but (h : linkDown.within E) (ap : ℕ) (s : State) : (linkDown ap s).but E = s.but E := by
  simp only [linkDown.within, Bool.and_eq_true] at h
  simp [linkDown, h]

def execLinkDown.within (E : Touch → Bool) : Bool := startTraining.within E && linkDown.within E
@[simp] theorem execLinkDown_but (h : execLinkDown.within E) (ap : ℕ) (s : State) : Outcome.but E (execLinkDown ap s) = some (s.but E) := by
  simp only [execLinkDown.within, Bool.and_eq_true] at h
  simp [execLinkDown, h]

def execLinkUp.within (E : Touch → Bool) : Bool := E (.part .hif) && E Reg.HIF_LINK_UP.touch && E Reg.HIF_LINK_FLIT.touch &&
  E Reg.HIF_LINK_SPEED.touch && E Reg.HIF_LINK_WIDTH.touch && E Reg.HIF_LINK_L0P_WIDTH.touch && E Reg.HIF_LINK_PM.touch &&
  safeRole.within E && standbyShow.within E && raise.within E && E Reg.HIF_STATUS_LINK_CHANGE.touch
@[simp] theorem execLinkUp_but (h : execLinkUp.within E) (ap : ℕ) (speed : ℕ) (width : ℕ) (flit : Bool) (s : State) : Outcome.but E
    (execLinkUp ap speed width flit s) = some (s.but E) := by
  simp only [execLinkUp.within, Bool.and_eq_true] at h
  simp [execLinkUp, h]

def execApEnWrite.within (E : Touch → Bool) : Bool := setGate.within E && E Reg.HIF_CTL_AP_EN.touch && E Reg.HIF_CTL_SPEED_CAP.touch &&
  startTraining.within E && linkDown.within E && jRegWrite.within E
@[simp] theorem execApEnWrite_but (h : execApEnWrite.within E) (who : Issuer) (h' : ℕ) (value : ℕ) (s : State) : Outcome.but E
    (execApEnWrite who h' value s) = some (s.but E) := by
  simp only [execApEnWrite.within, Bool.and_eq_true] at h
  simp [execApEnWrite, h]

def execFlr.within (E : Touch → Bool) : Bool := raise.within E && resetLast.within E && fnReset.within E &&
  E Reg.HIF_FN_INFO_FLR_BUSY.touch && tagsReset.within E && atcDrop.within E && E (.part .hif) && standbyShow.within E &&
  managerLost.within E
@[simp] theorem execFlr_but (h : execFlr.within E) (ap : ℕ) (rid : ℕ) (s : State) : Outcome.but E (execFlr ap rid s) = some (s.but E) := by
  simp only [execFlr.within, Bool.and_eq_true] at h
  unfold execFlr
  split <;> simp [h]

def execFlrComplete.within (E : Touch → Bool) : Bool := E (.part .out) && updFn.within E && E Reg.HIF_FN_INFO_FLR_BUSY.touch
@[simp] theorem execFlrComplete_but (h : execFlrComplete.within E) (ap : ℕ) (rid : ℕ) (s : State) : Outcome.but E
    (execFlrComplete ap rid s) = some (s.but E) := by
  simp only [execFlrComplete.within, Bool.and_eq_true] at h
  simp [execFlrComplete, h]

def execFunctionReady.within (E : Touch → Bool) : Bool := E (.part .out) && updFn.within E
@[simp] theorem execFunctionReady_but (h : execFunctionReady.within E) (ap : ℕ) (s : State) : Outcome.but E
    (execFunctionReady ap s) = some (s.but E) := by
  simp only [execFunctionReady.within, Bool.and_eq_true] at h
  simp [execFunctionReady, h]

def setVfEnable.within (E : Touch → Bool) : Bool := updFn.within E && fnShow.within E && E Reg.HIF_FN_INFO_EXISTS.touch &&
  fnReset.within E && tagsReset.within E && atcDrop.within E
@[simp] theorem setVfEnable_but (h : setVfEnable.within E) (f : Fn) (on : Bool) (s : State) : (setVfEnable f on s).but E = s.but E := by
  simp only [setVfEnable.within, Bool.and_eq_true] at h
  simp [setVfEnable, h]

def execConfigRequest.within (E : Touch → Bool) : Bool := E (.part .out) && E Reg.HIF_FN_INFO_BME.touch && retryReads.within E &&
  setVfEnable.within E && updFn.within E && fnShow.within E && E Reg.HIF_FN_INFO_CTO_RANGE.touch && standbyShow.within E
@[simp] theorem execConfigRequest_but (h : execConfigRequest.within E) (ap : ℕ) (rid : ℕ) (op : ℕ) (value : ℕ) (s : State) : Outcome.but E
    (execConfigRequest ap rid op value s) = some (s.but E) := by
  simp only [execConfigRequest.within, Bool.and_eq_true] at h
  unfold execConfigRequest
  repeat' split
  all_goals simp [h]

def ideShow.within (E : Touch → Bool) : Bool := E Reg.HIF_LINK_IDE_LINK.touch
@[simp] theorem ideShow_but (h : ideShow.within E) (ap : ℕ) (s : State) : (ideShow ap s).but E = s.but E := by
  simp only [ideShow.within] at h
  simp [ideShow, h]

def execIdeKeyProgram.within (E : Touch → Bool) : Bool := ideShow.within E && E (.part .hif)
@[simp] theorem execIdeKeyProgram_but (h : execIdeKeyProgram.within E) (ap : ℕ) (index : ℕ) (pf : ℕ) (link : Bool) (s : State) :
    Outcome.but E (execIdeKeyProgram ap index pf link s) = some (s.but E) := by
  simp only [execIdeKeyProgram.within, Bool.and_eq_true] at h
  unfold execIdeKeyProgram
  split <;> simp [h]

def execIdeCheckFailed.within (E : Touch → Bool) : Bool := E (.part .out) && ideShow.within E && E (.part .hif)
@[simp] theorem execIdeCheckFailed_but (h : execIdeCheckFailed.within E) (ap : ℕ) (index : ℕ) (link : Bool) (s : State) : Outcome.but E
    (execIdeCheckFailed ap index link s) = some (s.but E) := by
  simp only [execIdeCheckFailed.within, Bool.and_eq_true] at h
  unfold execIdeCheckFailed
  dsimp only
  split <;> simp [h]

def execTdispRequest.within (E : Touch → Bool) : Bool := E Reg.HIF_FN_INFO_TDI_STATE.touch && retryReads.within E
@[simp] theorem execTdispRequest_but (h : execTdispRequest.within E) (ap : ℕ) (rid : ℕ) (msg : ℕ) (s : State) : Outcome.but E
    (execTdispRequest ap rid msg s) = some (s.but E) := by
  simp only [execTdispRequest.within, Bool.and_eq_true] at h
  simp [execTdispRequest, h]

def execTdiError.within (E : Touch → Bool) : Bool := tdiEnterError.within E
@[simp] theorem execTdiError_but (h : execTdiError.within E) (ap : ℕ) (rid : ℕ) (s : State) : Outcome.but E (execTdiError ap rid s) = some
    (s.but E) := by
  simp only [execTdiError.within] at h
  simp [execTdiError, h]

def execAtsInvalidation.within (E : Touch → Bool) : Bool := atcDrop.within E
@[simp] theorem execAtsInvalidation_but (h : execAtsInvalidation.within E) (ap : ℕ) (rid : ℕ) (pasid : ℕ) (addr : ℕ) (len : ℕ)
    (s : State) : Outcome.but E (execAtsInvalidation ap rid pasid addr len s) = some (s.but E) := by
  simp only [execAtsInvalidation.within] at h
  simp [execAtsInvalidation, h]

def poisonShow.within (E : Touch → Bool) : Bool := E Reg.HIF_CXL_POISONED.touch
@[simp] theorem poisonShow_but (h : poisonShow.within E) (s : State) : (poisonShow s).but E = s.but E := by
  simp only [poisonShow.within] at h
  simp [poisonShow, h]

def cxlMedia.within (E : Touch → Bool) : Bool := E (.part .hif) && patina.within E && poisonShow.within E && raise.within E &&
  E Reg.HIF_STATUS_CXL_ERR.touch
@[simp] theorem cxlMedia_but (h : cxlMedia.within E) (dpa : ℕ) (s : State) : (cxlMedia dpa s).but E = s.but E := by
  simp only [cxlMedia.within, Bool.and_eq_true] at h
  simp [cxlMedia, h]

def execCxlMemAccess.within (E : Touch → Bool) : Bool := E (.part .out) && memWriteList.within E && cxlMedia.within E
@[simp] theorem execCxlMemAccess_but (h : execCxlMemAccess.within E) (addr : ℕ) (data : List Byte) (write : Bool) (bad : Bool)
    (s : State) : Outcome.but E (execCxlMemAccess addr data write bad s) = some (s.but E) := by
  simp only [execCxlMemAccess.within, Bool.and_eq_true] at h
  unfold execCxlMemAccess
  repeat' split
  all_goals simp [h]

def execHdmCommit.within (E : Touch → Bool) : Bool := E Reg.HIF_CXL_HDM0_COMMITTED.touch && E Reg.HIF_CXL_HDM1_COMMITTED.touch &&
  E (.part .hif)
@[simp] theorem execHdmCommit_but (h : execHdmCommit.within E) (decoder : ℕ) (base : ℕ) (size : ℕ) (ways : ℕ) (gran : ℕ) (commit : Bool)
    (s : State) : Outcome.but E (execHdmCommit decoder base size ways gran commit s) = some (s.but E) := by
  simp only [execHdmCommit.within, Bool.and_eq_true] at h
  have hd : E (hdmBit decoder).touch := by unfold hdmBit; split <;> simp only [h]
  simp [execHdmCommit, h, hd]

def cxlMailbox.within (E : Touch → Bool) : Bool := E (.part .hif) && poisonShow.within E && memWriteList.within E && memZero.within E
@[simp] theorem cxlMailbox_but (h : cxlMailbox.within E) (op : ℕ) (input : ℕ) (s : State) :
    (cxlMailbox op input s).2.2.but E = s.but E := by
  simp only [cxlMailbox.within, Bool.and_eq_true] at h
  unfold cxlMailbox
  split <;> simp [h]

def execCxlMailboxCommand.within (E : Touch → Bool) : Bool := cxlMailbox.within E && E (.part .out)
@[simp] theorem execCxlMailboxCommand_but (h : execCxlMailboxCommand.within E) (op : ℕ) (input : ℕ) (s : State) : Outcome.but E
    (execCxlMailboxCommand op input s) = some (s.but E) := by
  simp only [execCxlMailboxCommand.within, Bool.and_eq_true] at h
  simp [execCxlMailboxCommand, h]

def execCxlReset.within (E : Touch → Bool) : Bool := E Reg.HIF_CXL_HDM0_COMMITTED.touch && E Reg.HIF_CXL_HDM1_COMMITTED.touch &&
  E (.part .hif) && memZero.within E
@[simp] theorem execCxlReset_but (h : execCxlReset.within E) (s : State) : Outcome.but E (execCxlReset s) = some (s.but E) := by
  simp only [execCxlReset.within, Bool.and_eq_true] at h
  simp [execCxlReset, h]

/-! #### Journal -/

def journalMedia.within (E : Touch → Bool) : Bool := patina.within E && count.within Reg.JNL_MEDIA_CNT_COUNT E && raise.within E &&
  E Reg.JNL_STATUS_MEDIA.touch
@[simp] theorem journalMedia_but (h : journalMedia.within E) (seq : ℕ) (s : State) : (journalMedia seq s).but E = s.but E := by
  simp only [journalMedia.within, Bool.and_eq_true] at h
  simp [journalMedia, h]

def journalBad.within (E : Touch → Bool) : Bool := journalMedia.within E
@[simp] theorem journalBad_but (h : journalBad.within E) (bad : List ℕ) (first : ℕ) (last : ℕ) (s : State) :
    (journalBad bad first last s).but E = s.but E := by
  simp only [journalBad.within] at h
  simp [journalBad, h]

def jnlCmd.within (E : Touch → Bool) : Bool := regGate.within E && cmdStart.within Blk.jnl E
@[simp] theorem jnlCmd_but (h : jnlCmd.within E) (op : ℕ) (who : Issuer) (desc : Option (ℕ × ℕ)) (act : State → CmdRes) (s : State)
    (hact : ∀ t, (act t).but E = t.but E) : Outcome.but E (jnlCmd op who desc act s) = some (s.but E) := by
  simp only [jnlCmd.within, Bool.and_eq_true] at h
  simp [jnlCmd, h, hact]

def execRead.within (E : Touch → Bool) : Bool := jnlCmd.within E && journalBad.within E && hostPut.within E
@[simp] theorem execRead_but (h : execRead.within E) (who : Issuer) (bad : List ℕ) (s : State) : Outcome.but E (execRead who bad s) = some
    (s.but E) := by
  simp only [execRead.within, Bool.and_eq_true] at h
  simp [execRead, h]

def execReadPrev.within (E : Touch → Bool) : Bool := jnlCmd.within E && hostPut.within E
@[simp] theorem execReadPrev_but (h : execReadPrev.within E) (who : Issuer) (s : State) : Outcome.but E (execReadPrev who s) = some
    (s.but E) := by
  simp only [execReadPrev.within, Bool.and_eq_true] at h
  simp [execReadPrev, h]

def execMark.within (E : Touch → Bool) : Bool := jnlCmd.within E && jEntry.within E && E Reg.JNL_MARK_SEQ_SEQ.touch
@[simp] theorem execMark_but (h : execMark.within E) (who : Issuer) (block : ℕ) (s : State) : Outcome.but E (execMark who block s) = some
    (s.but E) := by
  simp only [execMark.within, Bool.and_eq_true] at h
  simp [execMark, h]

def execJournalAck.within (E : Touch → Bool) : Bool := setGate.within E && boundViolation.within E && jPace.within E &&
  jRegWrite.within E && E Reg.JNL_ACK_ACK.touch
@[simp] theorem execJournalAck_but (h : execJournalAck.within E) (who : Issuer) (value : ℕ) (s : State) : Outcome.but E
    (execJournalAck who value s) = some (s.but E) := by
  simp only [execJournalAck.within, Bool.and_eq_true] at h
  simp [execJournalAck, h]

def execPatinaReadLatch.within (E : Touch → Bool) : Bool := readGate.within E && reply.within E && E (.part .pat)
@[simp] theorem execPatinaReadLatch_but (h : execPatinaReadLatch.within E) (who : Issuer) (s : State) : Outcome.but E
    (execPatinaReadLatch who s) = some (s.but E) := by
  simp only [execPatinaReadLatch.within, Bool.and_eq_true] at h
  simp [execPatinaReadLatch, h]

@[simp] theorem mctpAwake_but (s : State) (f : State → State) (hf : ∀ t, (f t).but E = t.but E) :
    (mctpAwake s f).but E = s.but E := by
  simp [mctpAwake, hf]

def execReadJournal.within (E : Touch → Bool) : Bool := E (.part .out) && journalBad.within E
@[simp] theorem execReadJournal_but (h : execReadJournal.within E) (eid : ℕ) (start : ℕ) (n : ℕ) (bad : List ℕ) (s : State) :
    Outcome.but E (execReadJournal eid start n bad s) = some (s.but E) := by
  simp only [execReadJournal.within, Bool.and_eq_true] at h
  simp [execReadJournal, h]

def execReadPrevJournal.within (E : Touch → Bool) : Bool := E (.part .out)
@[simp] theorem execReadPrevJournal_but (h : execReadPrevJournal.within E) (eid : ℕ) (start : ℕ) (n : ℕ) (s : State) : Outcome.but E
    (execReadPrevJournal eid start n s) = some (s.but E) := by
  simp only [execReadPrevJournal.within] at h
  simp [execReadPrevJournal, h]

def execReadPatina.within (E : Touch → Bool) : Bool := E (.part .out)
@[simp] theorem execReadPatina_but (h : execReadPatina.within E) (eid : ℕ) (start : ℕ) (n : ℕ) (s : State) : Outcome.but E
    (execReadPatina eid start n s) = some (s.but E) := by
  simp only [execReadPatina.within] at h
  simp [execReadPatina, h]

def execReadPinned.within (E : Touch → Bool) : Bool := E (.part .out)
@[simp] theorem execReadPinned_but (h : execReadPinned.within E) (eid : ℕ) (start : ℕ) (n : ℕ) (s : State) : Outcome.but E
    (execReadPinned eid start n s) = some (s.but E) := by
  simp only [execReadPinned.within] at h
  simp [execReadPinned, h]

def execClearPinned.within (E : Touch → Bool) : Bool := E (.part .pat) && E Reg.PAT_PIN_INFO_USED.touch &&
  E Reg.PAT_STATUS_PINNED_FULL.touch && jEntry.within E && E (.part .out)
@[simp] theorem execClearPinned_but (h : execClearPinned.within E) (eid : ℕ) (s : State) : Outcome.but E (execClearPinned eid s) = some
    (s.but E) := by
  simp only [execClearPinned.within, Bool.and_eq_true] at h
  simp [execClearPinned, h]

def mctpRead.within (E : Touch → Bool) : Bool := E (.part .out) && readReg.within E && accessDropped.within E
@[simp] theorem mctpRead_but (h : mctpRead.within E) (eid : ℕ) (lo : ℕ) (hi : ℕ) (off : ℕ) (s : State) :
    (mctpRead eid lo hi off s).but E = s.but E := by
  simp only [mctpRead.within, Bool.and_eq_true] at h
  unfold mctpRead
  dsimp only
  repeat' split
  all_goals simp [h]

def execPwrRead.within (E : Touch → Bool) : Bool := mctpRead.within E
@[simp] theorem execPwrRead_but (h : execPwrRead.within E) (eid : ℕ) (off : ℕ) (s : State) : Outcome.but E (execPwrRead eid off s) = some
    (s.but E) := by
  simp only [execPwrRead.within] at h
  simp [execPwrRead, h]

def execSvcRead.within (E : Touch → Bool) : Bool := mctpRead.within E
@[simp] theorem execSvcRead_but (h : execSvcRead.within E) (eid : ℕ) (off : ℕ) (s : State) : Outcome.but E (execSvcRead eid off s) = some
    (s.but E) := by
  simp only [execSvcRead.within] at h
  simp [execSvcRead, h]

/-! #### Regulation -/

def updLoop.within (E : Touch → Bool) : Bool := E (.part .rgl)
@[simp] theorem updLoop_but (h : updLoop.within E) (l : ℕ) (f : RglLoop → RglLoop) (s : State) : (updLoop l f s).but E = s.but E := by
  simp only [updLoop.within] at h
  simp [updLoop, h]

def modeChanged.within (E : Touch → Bool) : Bool := updLoop.within E
@[simp] theorem modeChanged_but (h : modeChanged.within E) (l : ℕ) (old : ℕ) (s : State) : (modeChanged l old s).but E = s.but E := by
  simp only [modeChanged.within] at h
  simp [modeChanged, h]

def rglSet.within (E : Touch → Bool) : Bool := E Reg.TLT_PEER_INFO_RATE_MBPS.touch && E Reg.TLT_PEER_RTO_RTO.touch && E (.part .rgl) &&
  E Reg.TIL_INFO_SHARE_LOG2.touch && E Reg.RNG_POLL_INTERVAL.touch && applyShaper.within E && admitShow.within E &&
  E Reg.RGL_POWER_CONTROL_MHZ.touch && E Reg.RGL_POWER_GATED.touch
@[simp] theorem rglSet_but (h : rglSet.within E) (l : ℕ) (target : ℕ) (field : ℕ) (v : ℕ) (s : State) :
    (rglSet l target field v s).but E = s.but E := by
  simp only [rglSet.within, Bool.and_eq_true] at h
  unfold rglSet
  split <;> simp [h]

def afterRun.within (E : Touch → Bool) : Bool := E (.part .tlt) && E (.part .rgl)
@[simp] theorem afterRun_but (h : afterRun.within E) (l : ℕ) (q : RglSample) (s : State) : (afterRun l q s).but E = s.but E := by
  simp only [afterRun.within, Bool.and_eq_true] at h
  unfold afterRun
  split <;> simp [h]

def nextPeriod.within (E : Touch → Bool) : Bool := E (.part .tlt) && E (.part .rgl)
@[simp] theorem nextPeriod_but (h : nextPeriod.within E) (l : ℕ) (s : State) : (nextPeriod l s).but E = s.but E := by
  simp only [nextPeriod.within, Bool.and_eq_true] at h
  unfold nextPeriod
  split <;> simp [h]

def runSkipped.within (E : Touch → Bool) : Bool := E Reg.RGL_LOOP_STAT_SKIPPED.touch && raise.within E && E Reg.RGL_STATUS_SKIP.touch
@[simp] theorem runSkipped_but (h : runSkipped.within E) (l : ℕ) (s : State) : (runSkipped l s).but E = s.but E := by
  simp only [runSkipped.within, Bool.and_eq_true] at h
  simp [runSkipped, h]

def execRegulationRun.within (E : Touch → Bool) : Bool := updLoop.within E && runSkipped.within E && afterRun.within E &&
  nextPeriod.within E && E (.part .rgl)
@[simp] theorem execRegulationRun_but (h : execRegulationRun.within E) (l : ℕ) (samples : List (ℕ × ℕ)) (s : State) : Outcome.but E
    (execRegulationRun l samples s) = some (s.but E) := by
  simp only [execRegulationRun.within, Bool.and_eq_true] at h
  unfold execRegulationRun
  dsimp only
  repeat' split
  all_goals simp [h]

def decide_.within (E : Touch → Bool) : Bool := updLoop.within E
@[simp] theorem decide_but (h : decide_.within E) (l : ℕ) (run : ℕ) (changes : ℕ) (proposals : ℕ) (ps : List Proposal) (clamped : Bool)
    (s : State) : (decide_ l run changes proposals ps clamped s).but E = s.but E := by
  simp only [decide_.within] at h
  simp [decide_, h]

def applyProps.within (E : Touch → Bool) : Bool := rglSet.within E
@[simp] theorem applyProps_but (h : applyProps.within E) (l : ℕ) (ps : List Proposal) (s : State) :
    (applyProps l ps s).2.but E = s.but E := by
  unfold applyProps.within at h
  refine foldl_snd_but (fun q p => ?_) _ _
  simp [h]

def writeAdvice.within (E : Touch → Bool) : Bool := hostPut.within E && raise.within E && E Reg.RGL_STATUS_ADVICE.touch
@[simp] theorem writeAdvice_but (h : writeAdvice.within E) (l : ℕ) (r : RglRun) (s : State) : (writeAdvice l r s).but E = s.but E := by
  simp only [writeAdvice.within, Bool.and_eq_true] at h
  simp [writeAdvice, h]

def execRegulationApply.within (E : Touch → Bool) : Bool := updLoop.within E && E Reg.RGL_LOOP_STAT_RUN.touch && applyProps.within E &&
  E Reg.RGL_LOOP_STAT_LAST_CHANGES.touch && decide_.within E && writeAdvice.within E
@[simp] theorem execRegulationApply_but (h : execRegulationApply.within E) (l : ℕ) (s : State) : Outcome.but E
    (execRegulationApply l s) = some (s.but E) := by
  simp only [execRegulationApply.within, Bool.and_eq_true] at h
  unfold execRegulationApply
  split <;> simp [h]

def execEnvelopeApply.within (E : Touch → Bool) : Bool := updLoop.within E && E Reg.RGL_ENV_MIN.touch && E Reg.RGL_ENV_MAX.touch &&
  rglSet.within E && raise.within E && E Reg.RGL_STATUS_CLAMP.touch && decide_.within E
@[simp] theorem execEnvelopeApply_but (h : execEnvelopeApply.within E) (l : ℕ) (s : State) : Outcome.but E (execEnvelopeApply l s) = some
    (s.but E) := by
  simp only [execEnvelopeApply.within, Bool.and_eq_true] at h
  simp [execEnvelopeApply, h]

def acceptEnd.within (E : Touch → Bool) : Bool := raise.within E && E Reg.RGL_ADV_STATUS_RESULT.touch &&
  E Reg.RGL_ADV_STATUS_APPLIED.touch && E Reg.RGL_ADV_STATUS_STROKE.touch
@[simp] theorem acceptEnd_but (h : acceptEnd.within E) (result : ℕ) (applied : ℕ) (s : State) :
    (acceptEnd result applied s).but E = s.but E := by
  simp only [acceptEnd.within, Bool.and_eq_true] at h
  simp [acceptEnd, h]

def acceptRecord.within (E : Touch → Bool) : Bool := jEntry.within E
@[simp] theorem acceptRecord_but (h : acceptRecord.within E) (who : Issuer) (l : ℕ) (run : ℕ) (mask : ℕ) (status : ℕ) (s : State) :
    (acceptRecord who l run mask status s).but E = s.but E := by
  simp only [acceptRecord.within] at h
  simp [acceptRecord, h]

def execAdviceAccept.within (E : Touch → Bool) : Bool := regGate.within E && E Reg.RGL_ADV_ACCEPT_LOOP.touch &&
  E Reg.RGL_ADV_ACCEPT_RUN.touch && acceptEnd.within E && acceptRecord.within E && State.defer.within E
@[simp] theorem execAdviceAccept_but (h : execAdviceAccept.within E) (who : Issuer) (l : ℕ) (run : ℕ) (s : State) : Outcome.but E
    (execAdviceAccept who l run s) = some (s.but E) := by
  simp only [execAdviceAccept.within, Bool.and_eq_true] at h
  refine congrArg some (regGate_but (by simp only [h]) _ _ _ _ fun t => ?_)
  dsimp only
  split
  · simp [h]
  split <;> simp [h]

def applyAdvice.within (E : Touch → Bool) : Bool := acceptEnd.within E && applyProps.within E
@[simp] theorem applyAdvice_but (h : applyAdvice.within E) (l : ℕ) (run : ℕ) (mask : ℕ) (s : State) :
    (applyAdvice l run mask s).but E = s.but E := by
  simp only [applyAdvice.within, Bool.and_eq_true] at h
  unfold applyAdvice
  split <;> simp [h]

def execDecisionJournalFlush.within (E : Touch → Bool) : Bool := jDevice.within E && updLoop.within E
@[simp] theorem execDecisionJournalFlush_but (h : execDecisionJournalFlush.within E) (l : ℕ) (s : State) : Outcome.but E
    (execDecisionJournalFlush l s) = some (s.but E) := by
  simp only [execDecisionJournalFlush.within, Bool.and_eq_true] at h
  unfold execDecisionJournalFlush
  split <;> simp [h]

/-! #### Effects -/

def loadThread.within (E : Touch → Bool) : Bool := E (.part .til)
@[simp] theorem loadThread_but (h : loadThread.within E) (hart : ℕ) (entry : ℕ) (dispatch : ℕ) (s : State) :
    (loadThread hart entry dispatch s).but E = s.but E := by
  simp only [loadThread.within] at h
  simp [loadThread, h]

def putRow.within (E : Touch → Bool) : Bool := E (.part .til) && loadThread.within E && E (.part .prs) && E (.part .tbl) &&
  E (.part .nch) && E (.part .fab) && E (.part .hif) && E (.part .sch)
@[simp] theorem putRow_but (h : putRow.within E) (type : ℕ) (row : List ℕ) (s : State) : (putRow type row s).but E = s.but E := by
  simp only [putRow.within, Bool.and_eq_true] at h
  unfold putRow
  split <;> simp [h]

def applyRows.within (E : Touch → Bool) : Bool := putRow.within E
@[simp] theorem applyRows_but (h : applyRows.within E) (types : List ℕ) (s : State) : (applyRows types s).but E = s.but E := by
  unfold applyRows.within at h
  exact foldl_but (fun t a => foldl_but (by simp [h]) _ _) _ _

def loadImage.within (E : Touch → Bool) : Bool := memZero.within E && memWriteList.within E
@[simp] theorem loadImage_but (h : loadImage.within E) (t : ℕ) (s : State) : (loadImage t s).but E = s.but E := by
  simp only [loadImage.within, Bool.and_eq_true] at h
  unfold loadImage
  dsimp only
  repeat' split
  all_goals simp [h]

def loadThreads.within (E : Touch → Bool) : Bool := enterThrState.within E && loadThread.within E
@[simp] theorem loadThreads_but (h : loadThreads.within E) (t : ℕ) (s : State) : (loadThreads t s).but E = s.but E := by
  simp only [loadThreads.within, Bool.and_eq_true] at h
  simp [loadThreads, h]

def startTile.within (E : Touch → Bool) : Bool := startThread.within E
@[simp] theorem startTile_but (h : startTile.within E) (t : ℕ) (s : State) : (startTile t s).but E = s.but E := by
  simp only [startTile.within] at h
  simp [startTile, h]

def clearChannels.within (E : Touch → Bool) : Bool := setChan.within E && E (.part .til)
@[simp] theorem clearChannels_but (h : clearChannels.within E) (t : ℕ) (s : State) : (clearChannels t s).but E = s.but E := by
  simp only [clearChannels.within, Bool.and_eq_true] at h
  simp [clearChannels, h]

def takeLogicalTile.within (E : Touch → Bool) : Bool := startTile.within E && loadThreads.within E && clearChannels.within E
@[simp] theorem takeLogicalTile_but (h : takeLogicalTile.within E) (held : ℕ) (index : ℕ) (s : State) :
    (takeLogicalTile held index s).but E = s.but E := by
  simp only [takeLogicalTile.within, Bool.and_eq_true] at h
  simp [takeLogicalTile, h]

def controllerStops.within (E : Touch → Bool) : Bool := moveRole.within E && managerLost.within E && setNicheState.within E &&
  updNiche.within E && E (.part .svc)
@[simp] theorem controllerStops_but (h : controllerStops.within E) (h' : ℕ) (s : State) : (controllerStops h' s).but E = s.but E := by
  simp only [controllerStops.within, Bool.and_eq_true] at h
  simp [controllerStops, h]

def controllerResumes.within (E : Touch → Bool) : Bool := E (.part .svc) && setNicheState.within E && updNiche.within E
@[simp] theorem controllerResumes_but (h : controllerResumes.within E) (h' : ℕ) (s : State) : (controllerResumes h' s).but E = s.but E := by
  simp only [controllerResumes.within, Bool.and_eq_true] at h
  simp [controllerResumes, h]

def portDiscard.within (E : Touch → Bool) : Bool := queueDrop.within E && unqueue.within E
@[simp] theorem portDiscard_but (h : portDiscard.within E) (p : ℕ) (s : State) : (portDiscard p s).but E = s.but E := by
  simp only [portDiscard.within, Bool.and_eq_true] at h
  simp [portDiscard, h]

def unitStopIntake.within (E : Touch → Bool) : Bool := hwPut.within E && spreadShow.within E && controllerStops.within E &&
  applyMacLink.within E && portDiscard.within E
@[simp] theorem unitStopIntake_but (h : unitStopIntake.within E) (kind : ℕ) (index : ℕ) (discard : Bool) (s : State) :
    (unitStopIntake kind index discard s).but E = s.but E := by
  simp only [unitStopIntake.within, Bool.and_eq_true] at h
  simp [unitStopIntake, h]

def unitResume.within (E : Touch → Bool) : Bool := hwPut.within E && spreadShow.within E && controllerResumes.within E &&
  applyMacLink.within E
@[simp] theorem unitResume_but (h : unitResume.within E) (kind : ℕ) (index : ℕ) (s : State) :
    (unitResume kind index s).but E = s.but E := by
  simp only [unitResume.within, Bool.and_eq_true] at h
  simp [unitResume, h]

def unitRejoin.within (E : Touch → Bool) : Bool := spreadShow.within E && startTile.within E && loadThreads.within E &&
  loadImage.within E && clearChannels.within E && startTraining.within E && controllerResumes.within E && applyMacLink.within E
@[simp] theorem unitRejoin_but (h : unitRejoin.within E) (kind : ℕ) (index : ℕ) (s : State) :
    (unitRejoin kind index s).but E = s.but E := by
  simp only [unitRejoin.within, Bool.and_eq_true] at h
  simp [unitRejoin, h]

def unitEndWork.within (E : Touch → Bool) : Bool := loseTile.within E && workKill.within E && clusterShow.within E &&
  sendLost.within E && clusterDrop.within E && delPkt.within E && accStop.within E && beginReset.within E && frameEnds.within E &&
  E (.part .sch)
@[simp] theorem unitEndWork_but (h : unitEndWork.within E) (kind : ℕ) (index : ℕ) (s : State) :
    (unitEndWork kind index s).but E = s.but E := by
  simp only [unitEndWork.within, Bool.and_eq_true] at h
  simp [unitEndWork, h]

def unitHeld.within (E : Touch → Bool) : Bool := availUpdate.within E && E (.part .til) && spreadShow.within E &&
  enterThrState.within E && linkDown.within E && applyMacLink.within E && E (.part .sch)
@[simp] theorem unitHeld_but (h : unitHeld.within E) (kind : ℕ) (index : ℕ) (s : State) : (unitHeld kind index s).but E = s.but E := by
  simp only [unitHeld.within, Bool.and_eq_true] at h
  simp [unitHeld, h]

def strokeEdges.within (E : Touch → Bool) : Bool := updThread.within E
@[simp] theorem strokeEdges_but (h : strokeEdges.within E) (s : State) : (strokeEdges s).but E = s.but E := by
  unfold strokeEdges.within at h
  exact foldl_but (fun t a => foldl_but (by simp [h]) _ _) _ _

def enterP1.within (E : Touch → Bool) : Bool := raise.within E && E Reg.PWR_STATE_PSTATE.touch && E Reg.PWR_STATUS_PSTATE.touch &&
  E Reg.RGL_CTL_FROZEN.touch
@[simp] theorem enterP1_but (h : enterP1.within E) (s : State) : (enterP1 s).but E = s.but E := by
  simp only [enterP1.within, Bool.and_eq_true] at h
  simp [enterP1, h]

def resumeFromP1.within (E : Touch → Bool) : Bool := strokeEdges.within E && enterService.within E && E Reg.RGL_CTL_FROZEN.touch &&
  retryReads.within E
@[simp] theorem resumeFromP1_but (h : resumeFromP1.within E) (s : State) : (resumeFromP1 s).but E = s.but E := by
  simp only [resumeFromP1.within, Bool.and_eq_true] at h
  simp [resumeFromP1, h]

def recoveryPfs.within (E : Touch → Bool) : Bool := E (.part .hif) && fnShow.within E && E Reg.HIF_FN_INFO_EXISTS.touch &&
  E Reg.HIF_MGR_VACANT.touch && E Reg.HIF_MGR_ACTIVE_AP.touch && E Reg.HIF_MGR_ACTIVE_PF.touch
@[simp] theorem recoveryPfs_but (h : recoveryPfs.within E) (s : State) : (recoveryPfs s).but E = s.but E := by
  simp only [recoveryPfs.within, Bool.and_eq_true] at h
  unfold recoveryPfs
  dsimp only
  split <;> simp [h]

def stopDatapath.within (E : Touch → Bool) : Bool := nvFatal.within E && recoveryPfs.within E
@[simp] theorem stopDatapath_but (h : stopDatapath.within E) (s : State) : (stopDatapath s).but E = s.but E := by
  simp only [stopDatapath.within, Bool.and_eq_true] at h
  simp [stopDatapath, h]

def abortForRecovery.within (E : Touch → Bool) : Bool := nvRecovery.within E && turelmRecovery.within E
@[simp] theorem abortForRecovery_but (h : abortForRecovery.within E) (s : State) : (abortForRecovery s).but E = s.but E := by
  simp only [abortForRecovery.within, Bool.and_eq_true] at h
  simp [abortForRecovery, h]

def rebuildStructure.within (E : Touch → Bool) : Bool := finish.within E && dropSeq.within E && clusterShow.within E &&
  delPkt.within E && release.within E && skipHead.within E && E (.part .tlt)
@[simp] theorem rebuildStructure_but (h : rebuildStructure.within E) (structure_ : ℕ) (bank : List ℕ) (s : State) :
    (rebuildStructure structure_ bank s).but E = s.but E := by
  simp only [rebuildStructure.within, Bool.and_eq_true] at h
  unfold rebuildStructure
  split
  · refine foldl_but (fun t p => ?_) _ _
    dsimp only
    split <;> simp [h]
  split
  · exact foldl_but (fun t a => foldl_but (by simp [h]) _ _) _ _
  · simp [h]

def closeDebug.within (E : Touch → Bool) : Bool := E Reg.TIL_DBG_UNLOCKED.touch && E Reg.TIL_DBG_RIGHTS.touch &&
  E Reg.TIL_STATUS_DEBUG.touch && raise.within E && jDevice.within E
@[simp] theorem closeDebug_but (h : closeDebug.within E) (s : State) : (closeDebug s).but E = s.but E := by
  simp only [closeDebug.within, Bool.and_eq_true] at h
  simp [closeDebug, h]

def openDebug.within (E : Touch → Bool) : Bool := closeDebug.within E && E (.part .arm) && E Reg.TIL_DBG_UNLOCKED.touch &&
  E Reg.TIL_DBG_RIGHTS.touch && E Reg.TIL_STATUS_DEBUG.touch && raise.within E && jDevice.within E
@[simp] theorem openDebug_but (h : openDebug.within E) (payload : ℕ) (s : State) : (openDebug payload s).but E = s.but E := by
  simp only [openDebug.within, Bool.and_eq_true] at h
  simp [openDebug, h]

def debugResume.within (E : Touch → Bool) : Bool := resumeThread.within E
@[simp] theorem debugResume_but (h : debugResume.within E) (s : State) : (debugResume s).but E = s.but E := by
  simp only [debugResume.within] at h
  simp [debugResume, h]

def disableDebug.within (E : Touch → Bool) : Bool := E (.part .arm)
@[simp] theorem disableDebug_but (h : disableDebug.within E) (s : State) : (disableDebug s).but E = s.but E := by
  simp only [disableDebug.within] at h
  simp [disableDebug, h]

def configureBlocks.within (E : Touch → Bool) : Bool := applyRows.within E && E Reg.NCH_POOL_INFO_FREE.touch &&
  E Reg.TBL_AGE_PERIOD.touch && E Reg.RGL_ENV_MIN.touch && E Reg.RGL_ENV_MAX.touch && fnShow.within E &&
  E Reg.HIF_FN_INFO_EXISTS.touch && loadImage.within E && E (.part .nch) && setNicheState.within E && E Reg.NCH_INFO_BOUND.touch &&
  E Reg.NCH_INFO_AP.touch && E Reg.NCH_INFO_RID.touch && E Reg.NCH_STACKED_BASE_MIB.touch && E Reg.NCH_STACKED_LEN_MIB.touch &&
  E Reg.NCH_STATUS_IN_USE.touch && startTraining.within E && linkDown.within E && E (.part .out) && standbyShow.within E &&
  spreadShow.within E && admitShow.within E
@[simp] theorem configureBlocks_but (h : configureBlocks.within E) (was : List ℕ) (s : State) :
    (configureBlocks was s).but E = s.but E := by
  simp only [configureBlocks.within, Bool.and_eq_true] at h
  unfold configureBlocks
  extract_lets s1 s2 s3 s4 s5 s6 fresh s7 rid s8 s9 s10 s11 s12
  have e1 : s1.but E = s.but E := applyRows_but (by simp only [h]) ..
  have e2 : s2.but E = s1.but E := foldl_but (fun t i => by simp only [State.but_ite, State.setI_but, h, ite_self]) _ _
  have e3 : s3.but E = s2.but E := foldl_but (fun t i => by simp only [State.setI_but, h]) _ _
  have e4 : s4.but E = s3.but E := foldl_but (fun t i => State.setsI_but (by simp [h]) ..) _ _
  have e5 : s5.but E = s4.but E := foldl_but (fun t i => by simp only [State.but_ite, fnShow_but, State.setI_but, h, ite_self]) _ _
  have e6 : s6.but E = s5.but E := foldl_but (fun t i => by simp only [State.but_ite, loadImage_but, h, ite_self]) _ _
  have e7 : s7.but E = s6.but E := State.updNch_but (by simp only [h]) ..
  have e8 : s8.but E = s7.but E := setNicheState_but (by simp only [h]) ..
  have e9 : s9.but E = s8.but E := State.setsI_but (by simp [h]) ..
  have e10 : s10.but E = s9.but E := State.set_but (by simp only [h]) ..
  have e11 : s11.but E = s10.but E := by
    refine foldl_but (fun t i => ?_) _ _
    rw [State.but_ite, foldl_but (by simp [h]), ite_self]
  have e12 : s12.but E = s11.but E := foldl_but (fun t i => by simp only [State.but_ite, State.emit_but, h, ite_self]) _ _
  rw [standbyShow_but (by simp only [h]), spreadShow_but (by simp only [h]), admitShow_but (by simp only [h]), e12, e11, e10, e9, e8,
    e7, e6, e5, e4, e3,
    e2, e1]

def trainMode.within (E : Touch → Bool) : Bool := E Reg.HIF_CTL_MODE.touch
@[simp] theorem trainMode_but (h : trainMode.within E) (s : State) : (trainMode s).but E = s.but E := by
  simp only [trainMode.within] at h
  simp [trainMode, h]

def trainLinks.within (E : Touch → Bool) : Bool := startTraining.within E
@[simp] theorem trainLinks_but (h : trainLinks.within E) (s : State) : (trainLinks s).but E = s.but E := by
  simp only [trainLinks.within] at h
  simp [trainLinks, h]

/-! #### Device -/

def setUnitState.within (E : Touch → Bool) : Bool := E Reg.SVC_UNIT_INFO_STATE.touch && E Reg.SVC_UNIT_INFO_STROKE.touch &&
  E Reg.TIL_INFO_UNIT_STATE.touch && E Reg.ACC_SLICE_UNIT_STATE.touch && jDevice.within E && raise.within E &&
  E Reg.SVC_STATUS_UNIT_CHANGE.touch && partitionCount.within E
@[simp] theorem setUnitState_but (h : setUnitState.within E) (kind : ℕ) (index : ℕ) (new : ℕ) (s : State) :
    (setUnitState kind index new s).but E = s.but E := by
  simp only [setUnitState.within, Bool.and_eq_true] at h
  obtain ⟨⟨⟨⟨⟨⟨⟨hst, hsk⟩, ht⟩, ha⟩, hj⟩, hr⟩, hc⟩, hp⟩ := h
  generalize e : setUnitState = f
  delta setUnitState at e
  subst e
  beta_reduce
  extract_lets k old s1 s2
  have e1 : s1.but E = s.but E := State.setsI_but (by simp [hst, hsk]) ..
  have e2 : s2.but E = s.but E := by
    unfold s2
    clear_value s1
    split
    · split
      · rw [State.setI_but ht, e1]
      · exact e1
    · rw [State.but_ite, State.setI_but ha, ite_self, e1]
  clear_value s2
  rw [partitionCount_but hp, raise_but hr, State.set_but hc, jDevice_but hj, e2]

def enterProbation.within (E : Touch → Bool) : Bool := setUnitState.within E && E (.part .svc) && E Reg.TIL_INFO_SHARE_LOG2.touch
@[simp] theorem enterProbation_but (h : enterProbation.within E) (kind : ℕ) (index : ℕ) (s : State) :
    (enterProbation kind index s).but E = s.but E := by
  simp only [enterProbation.within, Bool.and_eq_true] at h
  generalize e : enterProbation = f
  delta enterProbation at e
  subst e
  beta_reduce
  extract_lets u v
  have hv : v.but E = s.but E := (State.updSvc_but h.1.2 _ _).trans (setUnitState_but h.1.1 ..)
  clear_value v
  split
  · rw [State.but_ite, State.setI_but h.2, ite_self, hv]
  · exact hv

def startSubstitute.within (E : Touch → Bool) : Bool := E (.part .svc)
@[simp] theorem startSubstitute_but (h : startSubstitute.within E) (held : ℕ) (standby : ℕ) (s : State) :
    (startSubstitute held standby s).but E = s.but E := by
  simp only [startSubstitute.within] at h
  simp [startSubstitute, h]

def autoSubstitute.within (E : Touch → Bool) : Bool := startSubstitute.within E
@[simp] theorem autoSubstitute_but (h : autoSubstitute.within E) (index : ℕ) (noSubst : Bool) (s : State) :
    (autoSubstitute index noSubst s).but E = s.but E := by
  simp only [autoSubstitute.within] at h
  unfold autoSubstitute
  repeat' split
  all_goals simp [h]

def enterHeld.within (E : Touch → Bool) : Bool := setUnitState.within E && E (.part .svc) && unitHeld.within E && autoSubstitute.within E
@[simp] theorem enterHeld_but (h : enterHeld.within E) (kind : ℕ) (index : ℕ) (s : State) : (enterHeld kind index s).but E = s.but E := by
  simp only [enterHeld.within, Bool.and_eq_true] at h
  simp [enterHeld, h]

def enterDraining.within (E : Touch → Bool) : Bool := setUnitState.within E && E (.part .svc) && unitStopIntake.within E
@[simp] theorem enterDraining_but (h : enterDraining.within E) (kind : ℕ) (index : ℕ) (discard : Bool) (noSubst : Bool) (s : State) :
    (enterDraining kind index discard noSubst s).but E = s.but E := by
  simp only [enterDraining.within, Bool.and_eq_true] at h
  simp [enterDraining, h]

def cancelDraining.within (E : Touch → Bool) : Bool := setUnitState.within E && E (.part .svc) && unitResume.within E
@[simp] theorem cancelDraining_but (h : cancelDraining.within E) (kind : ℕ) (index : ℕ) (s : State) :
    (cancelDraining kind index s).but E = s.but E := by
  simp only [cancelDraining.within, Bool.and_eq_true] at h
  simp [cancelDraining, h]

def forceHeld.within (E : Touch → Bool) : Bool := unitEndWork.within E && loadImage.within E && enterHeld.within E
@[simp] theorem forceHeld_but (h : forceHeld.within E) (kind : ℕ) (index : ℕ) (s : State) : (forceHeld kind index s).but E = s.but E := by
  simp only [forceHeld.within, Bool.and_eq_true] at h
  simp [forceHeld, h]

def joinUnit.within (E : Touch → Bool) : Bool := E (.part .svc) && E Reg.SVC_UNIT_INFO_LOGICAL.touch && takeLogicalTile.within E &&
  enterProbation.within E && setUnitState.within E && unitRejoin.within E
@[simp] theorem joinUnit_but (h : joinUnit.within E) (kind : ℕ) (index : ℕ) (s : State) : (joinUnit kind index s).but E = s.but E := by
  simp only [joinUnit.within, Bool.and_eq_true] at h
  simp only [joinUnit]
  split <;> simp only [State.but_ite, ite_self, State.updSvc_but, State.setI_but, takeLogicalTile_but,
    enterProbation_but, setUnitState_but, unitRejoin_but, h]

def capGrants.within (E : Touch → Bool) : Bool := E Reg.ARM_TALLY_GRANT_DEVICE.touch && E Reg.ARM_TALLY_GRANT_PLATFORM.touch
@[simp] theorem capGrants_but (h : capGrants.within E) (t : ℕ) (s : State) : (capGrants t s).but E = s.but E := by
  simp only [capGrants.within, Bool.and_eq_true] at h
  simp [capGrants, h]

def tallyLow.within (E : Touch → Bool) : Bool := raise.within E && E Reg.ARM_STATUS_TALLY_LOW.touch
@[simp] theorem tallyLow_but (h : tallyLow.within E) (t : ℕ) (s : State) : (tallyLow t s).but E = s.but E := by
  simp only [tallyLow.within, Bool.and_eq_true] at h
  simp [tallyLow, h]

def consumeStep.within (E : Touch → Bool) : Bool := E Reg.ARM_FUSE_REC_DATA_VALID.touch && E Reg.ARM_FUSE_REC_DATA_UNIT.touch &&
  E Reg.ARM_FUSE_REC_DATA_TALLY.touch && E Reg.ARM_FUSE_REC_DATA_ARG.touch && E Reg.ARM_FUSE_REC_DATA_EPOCH.touch &&
  E Reg.ARM_FUSE_REC_DETAIL_ROW.touch && E (.part .arm) && E Reg.ARM_TALLY_CONSUMED.touch && E Reg.ARM_TALLY_REMAINING.touch &&
  tallyLow.within E && capGrants.within E
@[simp] theorem consumeStep_but (h : consumeStep.within E) (t : ℕ) (arg : ℕ) (unit : ℕ) (row : ℕ) (s : State) :
    (consumeStep t arg unit row s).but E = s.but E := by
  simp only [consumeStep.within, Bool.and_eq_true] at h
  simp [consumeStep, h]

def consumeGranted.within (E : Touch → Bool) : Bool := consumeStep.within E && E Reg.ARM_TALLY_GRANT_DEVICE.touch &&
  E Reg.ARM_TALLY_GRANT_PLATFORM.touch
@[simp] theorem consumeGranted_but (h : consumeGranted.within E) (r : Role) (t : ℕ) (arg : ℕ) (unit : ℕ) (row : ℕ) (s : State) :
    (consumeGranted r t arg unit row s).but E = s.but E := by
  simp only [consumeGranted.within, Bool.and_eq_true] at h
  have hg : E (grantField r).touch := by unfold grantField; split <;> simp only [h]
  simp [consumeGranted, h, hg]

def retireUnit.within (E : Touch → Bool) : Bool := setUnitState.within E && consumeGranted.within E
@[simp] theorem retireUnit_but (h : retireUnit.within E) (r : Role) (kind : ℕ) (index : ℕ) (s : State) :
    (retireUnit r kind index s).but E = s.but E := by
  simp only [retireUnit.within, Bool.and_eq_true] at h
  simp [retireUnit, h]

def putDigest.within (E : Touch → Bool) : Bool := E Reg.ARM_EFF_DIGEST_DIGEST.touch
@[simp] theorem putDigest_but (h : putDigest.within E) (s : State) : (putDigest s).but E = s.but E := by
  simp only [putDigest.within] at h
  simp [putDigest, h]

def applySections.within (E : Touch → Bool) : Bool := E (.part .arm) && putSecFields.within E && putDigest.within E
@[simp] theorem applySections_but (h : applySections.within E) (l : List Section) (s : State) : (applySections l s).but E = s.but E := by
  simp only [applySections.within, Bool.and_eq_true] at h
  simp [applySections, h]

def jobPhase.within (E : Touch → Bool) : Bool := E Reg.ARM_JOB_PHASE.touch && E Reg.ARM_JOB_RESULT.touch &&
  E Reg.ARM_JOB_STROKES.touch && E Reg.ARM_STATUS_JOB_ACTIVE.touch && E (.part .arm) && jDevice.within E && raise.within E
@[simp] theorem jobPhase_but (h : jobPhase.within E) (new : ℕ) (code : ℕ) (s : State) : (jobPhase new code s).but E = s.but E := by
  simp only [jobPhase.within, Bool.and_eq_true] at h
  simp [jobPhase, h]

def jobMask.within (E : Touch → Bool) : Bool := E Reg.ARM_PART_IN_JOB.touch
@[simp] theorem jobMask_but (h : jobMask.within E) (mask : ℕ) (v : ℕ) (s : State) : (jobMask mask v s).but E = s.but E := by
  simp only [jobMask.within] at h
  simp [jobMask, h]

def jobEnd.within (E : Touch → Bool) : Bool := jobPhase.within E && jobMask.within E && E Reg.ARM_JOB_PART_MASK.touch && E (.part .arm)
@[simp] theorem jobEnd_but (h : jobEnd.within E) (new : ℕ) (code : ℕ) (s : State) : (jobEnd new code s).but E = s.but E := by
  simp only [jobEnd.within, Bool.and_eq_true] at h
  simp [jobEnd, h]

def jobReleaseDrain.within (E : Touch → Bool) : Bool := State.defer.within E
@[simp] theorem jobReleaseDrain_but (h : jobReleaseDrain.within E) (s : State) : (jobReleaseDrain s).but E = s.but E := by
  simp only [jobReleaseDrain.within] at h
  simp [jobReleaseDrain, h]

def jobAbortedState.within (E : Touch → Bool) : Bool := jobEnd.within E && jobReleaseDrain.within E
@[simp] theorem jobAbortedState_but (h : jobAbortedState.within E) (s : State) : (jobAbortedState s).but E = s.but E := by
  simp only [jobAbortedState.within, Bool.and_eq_true] at h
  unfold jobAbortedState
  split <;> simp [h]

def jobAbandon.within (E : Touch → Bool) : Bool := jobEnd.within E
@[simp] theorem jobAbandon_but (h : jobAbandon.within E) (s : State) : (jobAbandon s).but E = s.but E := by
  simp only [jobAbandon.within] at h
  unfold jobAbandon
  split <;> simp [h]

def enterSafe.within (E : Touch → Bool) : Bool := patina.within E && stopDatapath.within E && jobAbandon.within E &&
  clockAtSafe.within E && enterState.within E
@[simp] theorem enterSafe_but (h : enterSafe.within E) (cause : ℕ) (s : State) : (enterSafe cause s).but E = s.but E := by
  simp only [enterSafe.within, Bool.and_eq_true] at h
  simp [enterSafe, h]

/-! #### Armature -/

def putBootDesc.within (E : Touch → Bool) : Bool := E Reg.ARM_BOOTDESC_PARTIALS.touch && E Reg.ARM_BOOTDESC_ARM_SLOT.touch &&
  E Reg.ARM_BOOTDESC_PLINTH_SLOT.touch && E Reg.ARM_BOOTDESC_SEQ.touch
@[simp] theorem putBootDesc_but (h : putBootDesc.within E) (s : State) : (putBootDesc s).but E = s.but E := by
  simp only [putBootDesc.within, Bool.and_eq_true] at h
  unfold putBootDesc
  split <;> simp [h]

def writeBootDesc.within (E : Touch → Bool) : Bool := putBootDesc.within E && E (.part .arm)
@[simp] theorem writeBootDesc_but (h : writeBootDesc.within E) (f : BootDesc → BootDesc) (s : State) :
    (writeBootDesc f s).but E = s.but E := by
  simp only [writeBootDesc.within, Bool.and_eq_true] at h
  simp [writeBootDesc, h]

def armReport.within (E : Touch → Bool) : Bool := jCommand.within E && E Reg.ARM_CMD_STATUS_RESULT.touch &&
  E Reg.ARM_CMD_STATUS_OP.touch && E Reg.ARM_CMD_STATUS_STROKE.touch && raise.within E
@[simp] theorem armReport_but (h : armReport.within E) (op : ℕ) (who : Issuer) (arg : ℕ) (param : ℕ) (param2 : ℕ) (desc : Option (ℕ × ℕ))
    (code : ℕ) (event : Bool) (journal : Bool) (s : State) :
    (armReport op who arg param param2 desc code event journal s).but E = s.but E := by
  simp only [armReport.within, Bool.and_eq_true] at h
  simp [armReport, h]

def armCmd.within (E : Touch → Bool) : Bool := armReport.within E
@[simp] theorem armCmd_but (h : armCmd.within E) (op : ℕ) (who : Issuer) (roles : List Role) (param : ℕ) (param2 : ℕ)
    (desc : Option (ℕ × ℕ)) (act : State → ℕ × State) (s : State) (hact : ∀ t, (act t).2.but E = t.but E) : Outcome.but E
    (armCmd op who roles param param2 desc act s) = some (s.but E) := by
  simp only [armCmd.within] at h
  simp [armCmd, h, hact]

def execStage.within (E : Touch → Bool) : Bool := armCmd.within E && E (.part .arm)
@[simp] theorem execStage_but (h : execStage.within E) (who : Issuer) (image : Image) (token : Option Token) (flashOk : Bool) (s : State) :
    Outcome.but E (execStage who image token flashOk s) = some (s.but E) := by
  simp only [execStage.within, Bool.and_eq_true] at h
  unfold execStage
  refine armCmd_but (by simp only [h]) _ _ _ _ _ _ _ _ fun t => ?_
  repeat' split
  all_goals simp [h]

def execMaquette.within (E : Touch → Bool) : Bool := armCmd.within E && E (.part .arm)
@[simp] theorem execMaquette_but (h : execMaquette.within E) (who : Issuer) (s : State) : Outcome.but E (execMaquette who s) = some
    (s.but E) := by
  simp only [execMaquette.within, Bool.and_eq_true] at h
  unfold execMaquette
  refine armCmd_but (by simp only [h]) _ _ _ _ _ _ _ _ fun t => ?_
  split <;> simp [h]

def execMaquetteReportDone.within (E : Touch → Bool) : Bool := E (.part .out) && E Reg.ARM_MAQ_STATUS_DONE.touch &&
  E Reg.ARM_MAQ_STATUS_RESULT.touch && E Reg.ARM_MAQ_STATUS_FINDINGS.touch && E Reg.ARM_MAQ_STATUS_WARNINGS.touch && raise.within E &&
  E (.part .arm)
@[simp] theorem execMaquetteReportDone_but (h : execMaquetteReportDone.within E) (findings : ℕ) (warnings : ℕ) (report : List Byte)
    (s : State) : Outcome.but E (execMaquetteReportDone findings warnings report s) = some (s.but E) := by
  simp only [execMaquetteReportDone.within, Bool.and_eq_true] at h
  unfold execMaquetteReportDone
  split <;> simp [h]

def execPartialImage.within (E : Touch → Bool) : Bool := armReport.within E && E (.part .arm) && jobMask.within E &&
  E Reg.ARM_JOB_PART_MASK.touch && jobPhase.within E
@[simp] theorem execPartialImage_but (h : execPartialImage.within E) (who : Issuer) (s : State) : Outcome.but E
    (execPartialImage who s) = some (s.but E) := by
  simp only [execPartialImage.within, Bool.and_eq_true] at h
  unfold execPartialImage
  repeat' split
  all_goals simp [h]

def execJobCheckDone.within (E : Touch → Bool) : Bool := jobEnd.within E && State.defer.within E && jobPhase.within E
@[simp] theorem execJobCheckDone_but (h : execJobCheckDone.within E) (s : State) : Outcome.but E (execJobCheckDone s) = some (s.but E) := by
  simp only [execJobCheckDone.within, Bool.and_eq_true] at h
  unfold execJobCheckDone
  split <;> simp [h]

def execJobDrainDone.within (E : Touch → Bool) : Bool := State.defer.within E
@[simp] theorem execJobDrainDone_but (h : execJobDrainDone.within E) (s : State) : Outcome.but E (execJobDrainDone s) = some (s.but E) := by
  simp only [execJobDrainDone.within] at h
  simp [execJobDrainDone, h]

def execJobDrainTimeout.within (E : Touch → Bool) : Bool := jobEnd.within E && jobReleaseDrain.within E
@[simp] theorem execJobDrainTimeout_but (h : execJobDrainTimeout.within E) (s : State) : Outcome.but E (execJobDrainTimeout s) = some
    (s.but E) := by
  simp only [execJobDrainTimeout.within, Bool.and_eq_true] at h
  unfold execJobDrainTimeout
  split <;> simp [h]

def poolsFollow.within (E : Touch → Bool) : Bool := E Reg.NCH_POOL_INFO_FREE.touch && E Reg.NCH_STACKED_LEN_MIB.touch
@[simp] theorem poolsFollow_but (h : poolsFollow.within E) (old : State) (s : State) : (poolsFollow old s).but E = s.but E := by
  simp only [poolsFollow.within, Bool.and_eq_true] at h
  simp [poolsFollow, h]

def jobSwitch.within (E : Touch → Bool) : Bool := poolsFollow.within E && applySections.within E && applyRows.within E &&
  E Reg.ARM_INFO_PARTIALS.touch && unitRejoin.within E && enterProbation.within E && partitionCount.within E
@[simp] theorem jobSwitch_but (h : jobSwitch.within E) (s : State) : (jobSwitch s).but E = s.but E := by
  simp only [jobSwitch.within, Bool.and_eq_true] at h
  unfold jobSwitch
  split <;> simp [h]

def jobDrain.within (E : Touch → Bool) : Bool := enterDraining.within E
@[simp] theorem jobDrain_but (h : jobDrain.within E) (mask : ℕ) (s : State) : (jobDrain mask s).but E = s.but E := by
  simp only [jobDrain.within] at h
  simp [jobDrain, h]

def jobHold.within (E : Touch → Bool) : Bool := jobPhase.within E && enterHeld.within E
@[simp] theorem jobHold_but (h : jobHold.within E) (s : State) : (jobHold s).but E = s.but E := by
  simp only [jobHold.within, Bool.and_eq_true] at h
  simp [jobHold, h]

def execJobApplyDone.within (E : Touch → Bool) : Bool := State.defer.within E && jobPhase.within E && E (.part .svc) && jobEnd.within E
@[simp] theorem execJobApplyDone_but (h : execJobApplyDone.within E) (pass : Bool) (s : State) : Outcome.but E
    (execJobApplyDone pass s) = some (s.but E) := by
  simp only [execJobApplyDone.within, Bool.and_eq_true] at h
  unfold execJobApplyDone
  split <;> simp [h]

def execJobRampDone.within (E : Touch → Bool) : Bool := E (.part .arm) && setUnitState.within E && E (.part .svc) && jobEnd.within E
@[simp] theorem execJobRampDone_but (h : execJobRampDone.within E) (s : State) : Outcome.but E (execJobRampDone s) = some (s.but E) := by
  simp only [execJobRampDone.within, Bool.and_eq_true] at h
  unfold execJobRampDone
  split <;> simp [h]

def execArmJobRead.within (E : Touch → Bool) : Bool := readGate.within E && reply.within E && E Reg.ARM_JOB_PHASE.touch
@[simp] theorem execArmJobRead_but (h : execArmJobRead.within E) (who : Issuer) (s : State) : Outcome.but E (execArmJobRead who s) = some
    (s.but E) := by
  simp only [execArmJobRead.within, Bool.and_eq_true] at h
  simp [execArmJobRead, h]

def execPersist.within (E : Touch → Bool) : Bool := armCmd.within E && E (.part .arm) && writeBootDesc.within E
@[simp] theorem execPersist_but (h : execPersist.within E) (who : Issuer) (flashOk : Bool) (s : State) : Outcome.but E
    (execPersist who flashOk s) = some (s.but E) := by
  simp only [execPersist.within, Bool.and_eq_true] at h
  unfold execPersist
  refine armCmd_but (by simp only [h]) _ _ _ _ _ _ _ _ fun t => ?_
  split <;> simp [h]

def execFlashWrite.within (E : Touch → Bool) : Bool := armCmd.within E && E (.part .arm) && writeBootDesc.within E
@[simp] theorem execFlashWrite_but (h : execFlashWrite.within E) (who : Issuer) (flashOk : Bool) (s : State) : Outcome.but E
    (execFlashWrite who flashOk s) = some (s.but E) := by
  simp only [execFlashWrite.within, Bool.and_eq_true] at h
  unfold execFlashWrite
  refine armCmd_but (by simp only [h]) _ _ _ _ _ _ _ _ fun t => ?_
  split <;> simp [h]

def execActivate.within (E : Touch → Bool) : Bool := armCmd.within E && writeBootDesc.within E && E Reg.ARM_CMD_ARG.touch
@[simp] theorem execActivate_but (h : execActivate.within E) (who : Issuer) (arg : ℕ) (flashOk : Bool) (s : State) : Outcome.but E
    (execActivate who arg flashOk s) = some (s.but E) := by
  simp only [execActivate.within, Bool.and_eq_true] at h
  unfold execActivate
  repeat' split
  all_goals simp [h]

def execCancel.within (E : Touch → Bool) : Bool := armCmd.within E && jobEnd.within E && jobReleaseDrain.within E
@[simp] theorem execCancel_but (h : execCancel.within E) (who : Issuer) (s : State) : Outcome.but E (execCancel who s) = some
    (s.but E) := by
  simp only [execCancel.within, Bool.and_eq_true] at h
  simp [execCancel, h]

def execCommandUndefinedOp.within (E : Touch → Bool) : Bool := regGate.within E && armReport.within E && cmdStart.within Blk.nch E &&
  cmdStart.within Blk.rng E && cmdStart.within Blk.prs E && cmdStart.within Blk.tbl E && cmdStart.within Blk.sch E &&
  cmdStart.within Blk.nvs E && cmdStart.within Blk.fab E && cmdStart.within Blk.jnl E && cmdStart.within Blk.svc E &&
  cmdStart.within Blk.pwr E
@[simp] theorem execCommandUndefinedOp_but (h : execCommandUndefinedOp.within E) (who : Issuer) (offset : ℕ) (op : ℕ) (s : State) :
    Outcome.but E (execCommandUndefinedOp who offset op s) = some (s.but E) := by
  simp only [execCommandUndefinedOp.within, regGate.within, Bool.and_eq_true] at h
  have hb (b : CmdBlk) (hb : cmdStart.within b E) (t : State) :
      (cmdStart b (cmdOf op who 0 0 0) true (fun s => .done St.invalid 0 s) t).but E = t.but E :=
    cmdStart_but b hb _ _ _ _ fun t => rfl
  refine congrArg some ?_
  unfold regGate
  simp [h, hb]

def tokenCmd.within (E : Touch → Bool) : Bool := armCmd.within E && State.draw.within E && E Reg.ARM_NONCE_VALUE.touch
@[simp] theorem tokenCmd_but (h : tokenCmd.within E) (kind : ℕ) (who : Issuer) (act : Token → State → ℕ × State) (s : State)
    (hact : ∀ a t, (act a t).2.but E = t.but E) : Outcome.but E (tokenCmd kind who act s) = some (s.but E) := by
  simp only [tokenCmd.within, Bool.and_eq_true] at h
  unfold tokenCmd
  refine armCmd_but (by simp only [h]) _ _ _ _ _ _ _ _ fun t => ?_
  split
  · rfl
  · simp [h, hact]

def execTokenConsumeStep.within (E : Touch → Bool) : Bool := tokenCmd.within E && consumeStep.within E && E Reg.ARM_FLOOR_PLINTH.touch &&
  E Reg.ARM_FLOOR_ARMATURE.touch && disableDebug.within E
@[simp] theorem execTokenConsumeStep_but (h : execTokenConsumeStep.within E) (who : Issuer) (s : State) : Outcome.but E
    (execTokenConsumeStep who s) = some (s.but E) := by
  simp only [execTokenConsumeStep.within, Bool.and_eq_true] at h
  simp [execTokenConsumeStep, h]

def execOwnershipTransfer.within (E : Touch → Bool) : Bool := tokenCmd.within E && consumeStep.within E && E (.part .arm)
@[simp] theorem execOwnershipTransfer_but (h : execOwnershipTransfer.within E) (who : Issuer) (s : State) : Outcome.but E
    (execOwnershipTransfer who s) = some (s.but E) := by
  simp only [execOwnershipTransfer.within, Bool.and_eq_true] at h
  simp [execOwnershipTransfer, h]

def execDebugUnlock.within (E : Touch → Bool) : Bool := tokenCmd.within E && openDebug.within E
@[simp] theorem execDebugUnlock_but (h : execDebugUnlock.within E) (who : Issuer) (s : State) : Outcome.but E
    (execDebugUnlock who s) = some (s.but E) := by
  simp only [execDebugUnlock.within, Bool.and_eq_true] at h
  simp [execDebugUnlock, h]

def execTallyGrant.within (E : Touch → Bool) : Bool := tokenCmd.within E && jEntry.within E && E Reg.ARM_TALLY_GRANT_DEVICE.touch &&
  E Reg.ARM_TALLY_GRANT_PLATFORM.touch
@[simp] theorem execTallyGrant_but (h : execTallyGrant.within E) (who : Issuer) (s : State) : Outcome.but E (execTallyGrant who s) = some
    (s.but E) := by
  simp only [execTallyGrant.within, Bool.and_eq_true] at h
  unfold execTallyGrant
  refine tokenCmd_but (by simp only [h]) _ _ _ _ fun a t => ?_
  dsimp only
  split
  · rfl
  · split <;> simp [h]

def execDebugUnlockExpiry.within (E : Touch → Bool) : Bool := State.defer.within E && closeDebug.within E && E (.part .arm)
@[simp] theorem execDebugUnlockExpiry_but (h : execDebugUnlockExpiry.within E) (s : State) : Outcome.but E
    (execDebugUnlockExpiry s) = some (s.but E) := by
  simp only [execDebugUnlockExpiry.within, Bool.and_eq_true] at h
  unfold execDebugUnlockExpiry
  split <;> simp [h]

def applyPartials.within (E : Touch → Bool) : Bool := E Reg.ARM_INFO_PARTIALS.touch && applySections.within E &&
  E Reg.ARM_INFO_PARTIAL_FAULT.touch && E Reg.ARM_LOAD_STATUS_PARTIAL_INDEX.touch && E Reg.ARM_LOAD_STATUS_PARTIAL_CODE.touch &&
  patina.within E
@[simp] theorem applyPartials_but (h : applyPartials.within E) (i : ℕ) (l : List Image) (s : State) :
    (applyPartials i l s).but E = s.but E := by
  simp only [applyPartials.within, Bool.and_eq_true] at h
  induction l generalizing i s with
  | nil => rfl
  | cons m l ih =>
    rw [applyPartials]
    simp [h, ih]

def configureUnits.within (E : Touch → Bool) : Bool := E Reg.SVC_UNIT_INFO_STATE.touch && E Reg.TIL_INFO_UNIT_STATE.touch &&
  E Reg.SVC_UNIT_INFO_LOGICAL.touch && E (.part .svc) && E (.part .arm) && E Reg.ARM_PART_DEFINED.touch && partitionCount.within E
@[simp] theorem configureUnits_but (h : configureUnits.within E) (s : State) : (configureUnits s).but E = s.but E := by
  simp only [configureUnits.within, Bool.and_eq_true] at h
  unfold configureUnits
  dsimp only
  rw [foldl_but (by simp [h]), foldl_but fun t k => ?_, State.updSvc_but h.1.1.1.2, State.updArm_but h.1.1.2, foldl_but (by simp [h])]
  split
  · rfl
  split <;> simp [h]

def bootFrom.within (E : Touch → Bool) : Bool := E (.part .arm) && E Reg.ARM_ID_IMAGE_ID.touch && E Reg.ARM_INFO_SVN.touch &&
  E Reg.ARM_INFO_FORMAT.touch && E Reg.ARM_INFO_FALLBACK.touch && E Reg.ARM_INFO_SLOT.touch && E Reg.ARM_INFO_PARTIALS.touch &&
  E Reg.ARM_INFO_PARTIAL_FAULT.touch && applySections.within E && applyPartials.within E && configureUnits.within E &&
  E Reg.ARM_INFO_PART_DEFINED.touch && configureBlocks.within E && E (.part .pwr) && enterState.within E && E (.part .stk)
@[simp] theorem bootFrom_but (h : bootFrom.within E) (slot : ℕ) (fallback : Bool) (s : State) :
    (bootFrom slot fallback s).but E = s.but E := by
  simp only [bootFrom.within, Bool.and_eq_true] at h
  unfold bootFrom
  split <;> simp [h]

def execArmatureBootLoad.within (E : Touch → Bool) : Bool := putBootDesc.within E && enterSafe.within E && bootFrom.within E &&
  patina.within E && E Reg.ARM_LOAD_STATUS_SLOT_A.touch && E Reg.ARM_LOAD_STATUS_SLOT_B.touch
@[simp] theorem execArmatureBootLoad_but (h : execArmatureBootLoad.within E) (s : State) : Outcome.but E (execArmatureBootLoad s) = some
    (s.but E) := by
  simp only [execArmatureBootLoad.within, Bool.and_eq_true] at h
  unfold execArmatureBootLoad
  dsimp only
  repeat' split
  all_goals simp [h]

/-! #### Power -/

def pwrCmd.within (E : Touch → Bool) : Bool := cmdStart.within Blk.pwr E
@[simp] theorem pwrCmd_but (h : pwrCmd.within E) (op : ℕ) (who : Issuer) (roles : List Role) (act : State → CmdRes) (s : State)
    (hact : ∀ t, (act t).but E = t.but E) : Outcome.but E (pwrCmd op who roles act s) = some (s.but E) := by
  simp only [pwrCmd.within] at h
  simp [pwrCmd, h, hact]

def execAuxPowerPresent.within (E : Touch → Bool) : Bool := E Reg.IDN_STATE_STATE.touch && E (.part .pwr)
@[simp] theorem execAuxPowerPresent_but (h : execAuxPowerPresent.within E) (s : State) : Outcome.but E (execAuxPowerPresent s) = some
    (s.but E) := by
  simp only [execAuxPowerPresent.within, Bool.and_eq_true] at h
  simp [execAuxPowerPresent, h]

def requestMain.within (E : Touch → Bool) : Bool := E (.part .pwr)
@[simp] theorem requestMain_but (h : requestMain.within E) (by_ : Option Issuer) (s : State) : (requestMain by_ s).but E = s.but E := by
  simp only [requestMain.within] at h
  simp [requestMain, h]

def execStrapSample.within (E : Touch → Bool) : Bool := E (.part .pwr) && requestMain.within E
@[simp] theorem execStrapSample_but (h : execStrapSample.within E) (autoOn : Bool) (mgmtAddr : ℕ) (rgmiiEn : Bool) (flashMode : Bool)
    (test : Bool) (s : State) : Outcome.but E (execStrapSample autoOn mgmtAddr rgmiiEn flashMode test s) = some (s.but E) := by
  simp only [execStrapSample.within, Bool.and_eq_true] at h
  simp only [execStrapSample, Outcome.but_next, State.but_ite, ite_self, State.updPwr_but, requestMain_but, h]

def execPowerOn.within (E : Touch → Bool) : Bool := E (.part .out) && requestMain.within E
@[simp] theorem execPowerOn_but (h : execPowerOn.within E) (eid : ℕ) (hot : ℤ) (s : State) : Outcome.but E (execPowerOn eid hot s) = some
    (s.but E) := by
  simp only [execPowerOn.within, Bool.and_eq_true] at h
  simp [execPowerOn, h]

def startEpoch.within (E : Touch → Bool) : Bool := State.draw.within E && E Reg.JNL_EPOCH_EPOCH.touch && E Reg.JNL_HEAD_SEQ.touch &&
  E Reg.JNL_OLDEST_SEQ.touch && E Reg.JNL_CKPT_SEQ.touch && E (.part .jnl) && jDevice.within E && jEntry.within E
@[simp] theorem startEpoch_but (h : startEpoch.within E) (s : State) : (startEpoch s).but E = s.but E := by
  simp only [startEpoch.within, Bool.and_eq_true] at h
  obtain ⟨⟨⟨⟨⟨⟨⟨hd, he⟩, hh⟩, ho⟩, hc⟩, hj⟩, hdev⟩, hent⟩ := h
  obtain ⟨record, hr, hdev'⟩ : ∃ f, f = jDevice ∧ ∀ a b c l t, (f a b c l t).but E = t.but E := ⟨_, rfl, jDevice_but hdev⟩
  generalize e : startEpoch = f
  delta startEpoch at e
  rw [← hr] at e
  subst e
  beta_reduce
  extract_lets last
  split
  next d t e =>
  extract_lets ep held s1 s2 s3
  have hs : s3.but E = s.but E := by
    rw [hdev', State.updJnl_but hj, State.sets_but (by simp [he, hh, ho, hc]), but_of_eq e, snd_ite, State.but_ite, State.draw_but hd, ite_self]
  clear_value s3
  split
  · rw [jEntry_but hent, hs]
  · exact hs

def bootDraws.within (E : Touch → Bool) : Bool := State.draw.within E && E Reg.ARM_NONCE_VALUE.touch
@[simp] theorem bootDraws_but (h : bootDraws.within E) (s : State) : (bootDraws s).but E = s.but E := by
  simp only [bootDraws.within, Bool.and_eq_true] at h
  simp [bootDraws, h]

def bootKey.within (E : Touch → Bool) : Bool := E (.part .arm)
@[simp] theorem bootKey_but (h : bootKey.within E) (s : State) : (bootKey s).but E = s.but E := by
  simp only [bootKey.within] at h
  unfold bootKey
  split <;> simp [h]

def execMainPgAsserted.within (E : Touch → Bool) : Bool := E (.part .pwr) && E (.part .stk) && bootKey.within E && bootDraws.within E &&
  startEpoch.within E && State.draw.within E && enterState.within E && E Reg.TLT_CFG_EPOCH.touch
@[simp] theorem execMainPgAsserted_but (h : execMainPgAsserted.within E) (s : State) : Outcome.but E (execMainPgAsserted s) = some
    (s.but E) := by
  simp only [execMainPgAsserted.within, Bool.and_eq_true] at h
  simp [execMainPgAsserted, h]

def execMainPgTimeout.within (E : Touch → Bool) : Bool := patina.within E && E (.part .pwr)
@[simp] theorem execMainPgTimeout_but (h : execMainPgTimeout.within E) (s : State) : Outcome.but E (execMainPgTimeout s) = some
    (s.but E) := by
  simp only [execMainPgTimeout.within, Bool.and_eq_true] at h
  simp [execMainPgTimeout, h]

def execPowerStepB2.within (E : Touch → Bool) : Bool := trainLinks.within E && trainMode.within E && E (.part .pwr)
@[simp] theorem execPowerStepB2_but (h : execPowerStepB2.within E) (s : State) : Outcome.but E (execPowerStepB2 s) = some (s.but E) := by
  simp only [execPowerStepB2.within, Bool.and_eq_true] at h
  simp [execPowerStepB2, h]

def checkReady.within (E : Touch → Bool) : Bool := raise.within E && E Reg.PWR_STATUS_READY.touch && E Reg.PWR_SEQ_READY.touch
@[simp] theorem checkReady_but (h : checkReady.within E) (s : State) : (checkReady s).but E = s.but E := by
  simp only [checkReady.within, Bool.and_eq_true] at h
  simp [checkReady, h]

def regionReady.within (E : Touch → Bool) : Bool := E Reg.JNL_STATUS_REGION_READY.touch
@[simp] theorem regionReady_but (h : regionReady.within E) (s : State) : (regionReady s).but E = s.but E := by
  simp only [regionReady.within] at h
  simp [regionReady, h]

/-! #### WellFormed -/

def stepFailures.unitFailed.within (E : Touch → Bool) : Bool := patina.within E && E Reg.SVC_UNIT_INFO_CAUSE.touch &&
  E Reg.SVC_UNIT_INFO_TEST.touch && forceHeld.within E && raise.within E
@[simp] theorem stepFailures.unitFailed_but (h : stepFailures.unitFailed.within E) (kind : ℕ) (index : ℕ) (code : ℕ) (s : State) :
    (stepFailures.unitFailed kind index code s).but E = s.but E := by
  simp only [stepFailures.unitFailed.within, Bool.and_eq_true] at h
  simp [stepFailures.unitFailed, h]

/-! #### Power -/

def stepFailures.within (E : Touch → Bool) : Bool := stepFailures.unitFailed.within E
@[simp] theorem stepFailures_but (h : stepFailures.within E) (failed : List ℕ) (s : State) : (stepFailures failed s).but E = s.but E := by
  simp only [stepFailures.within] at h
  simp [stepFailures, h]

def startRow.within (E : Touch → Bool) : Bool := startTile.within E
@[simp] theorem startRow_but (h : startRow.within E) (r : ℕ) (s : State) : (startRow r s).but E = s.but E := by
  simp only [startRow.within] at h
  simp [startRow, h]

def lateSubstitutes.within (E : Touch → Bool) : Bool := autoSubstitute.within E
@[simp] theorem lateSubstitutes_but (h : lateSubstitutes.within E) (s : State) : (lateSubstitutes s).but E = s.but E := by
  simp only [lateSubstitutes.within] at h
  simp [lateSubstitutes, h]

def execPowerStep.within (E : Touch → Bool) : Bool := checkReady.within E && E Reg.PWR_SEQ_WAITING.touch && E (.part .pwr) &&
  E Reg.PWR_SEQ_STEP.touch && E Reg.ARM_PPR_REMAINING.touch && E Reg.ARM_TALLY_REMAINING.touch && regionReady.within E &&
  stepFailures.within E && startRow.within E && lateSubstitutes.within E && raise.within E && E Reg.PWR_STATUS_PSTATE.touch &&
  E Reg.PWR_STATE_PSTATE.touch && resumeFromP1.within E
@[simp] theorem execPowerStep_but (h : execPowerStep.within E) (regulated : Bool) (failed : List ℕ) (repairs : ℕ) (s : State) :
    Outcome.but E (execPowerStep regulated failed repairs s) = some (s.but E) := by
  simp only [execPowerStep.within, Bool.and_eq_true] at h
  simp [execPowerStep, h]

def execPowerStepWaitExceeded.within (E : Touch → Bool) : Bool := enterSafe.within E && patina.within E
@[simp] theorem execPowerStepWaitExceeded_but (h : execPowerStepWaitExceeded.within E) (s : State) : Outcome.but E
    (execPowerStepWaitExceeded s) = some (s.but E) := by
  simp only [execPowerStepWaitExceeded.within, Bool.and_eq_true] at h
  unfold execPowerStepWaitExceeded
  split <;> simp [h]

def execEnterService.within (E : Touch → Bool) : Bool := pwrCmd.within E && checkReady.within E && enterState.within E &&
  stageDiscard.within E
@[simp] theorem execEnterService_but (h : execEnterService.within E) (who : Issuer) (s : State) : Outcome.but E
    (execEnterService who s) = some (s.but E) := by
  simp only [execEnterService.within, Bool.and_eq_true] at h
  simp [execEnterService, h]

def execTestEnter.within (E : Touch → Bool) : Bool := pwrCmd.within E && jobAbortedState.within E && enterState.within E
@[simp] theorem execTestEnter_but (h : execTestEnter.within E) (who : Issuer) (s : State) : Outcome.but E (execTestEnter who s) = some
    (s.but E) := by
  simp only [execTestEnter.within, Bool.and_eq_true] at h
  simp [execTestEnter, h]

def execTestExit.within (E : Touch → Bool) : Bool := pwrCmd.within E && jobAbortedState.within E && enterState.within E &&
  stageDiscard.within E
@[simp] theorem execTestExit_but (h : execTestExit.within E) (who : Issuer) (s : State) : Outcome.but E (execTestExit who s) = some
    (s.but E) := by
  simp only [execTestExit.within, Bool.and_eq_true] at h
  simp [execTestExit, h]

def execStandby.within (E : Touch → Bool) : Bool := pwrCmd.within E && State.defer.within E && E Reg.PWR_STATE_PSTATE.touch
@[simp] theorem execStandby_but (h : execStandby.within E) (who : Issuer) (s : State) : Outcome.but E (execStandby who s) = some
    (s.but E) := by
  simp only [execStandby.within, Bool.and_eq_true] at h
  simp [execStandby, h]

def leaveP1.within (E : Touch → Bool) : Bool := E Reg.PWR_STATE_PSTATE.touch && E (.part .deferred) && E (.part .pwr)
@[simp] theorem leaveP1_but (h : leaveP1.within E) (s : State) : (leaveP1 s).but E = s.but E := by
  simp only [leaveP1.within, Bool.and_eq_true] at h
  simp [leaveP1, h]

def execWake.within (E : Touch → Bool) : Bool := pwrCmd.within E && leaveP1.within E
@[simp] theorem execWake_but (h : execWake.within E) (who : Issuer) (s : State) : Outcome.but E (execWake who s) = some (s.but E) := by
  simp only [execWake.within, Bool.and_eq_true] at h
  simp [execWake, h]

def execPowerOff.within (E : Touch → Bool) : Bool := pwrCmd.within E && jDevice.within E && E (.part .pwr)
@[simp] theorem execPowerOff_but (h : execPowerOff.within E) (who : Issuer) (s : State) : Outcome.but E (execPowerOff who s) = some
    (s.but E) := by
  simp only [execPowerOff.within, Bool.and_eq_true] at h
  simp [execPowerOff, h]

def execPowerOffMainEnDrop.within (E : Touch → Bool) : Bool := E (.part .pwr)
@[simp] theorem execPowerOffMainEnDrop_but (h : execPowerOffMainEnDrop.within E) (s : State) : Outcome.but E
    (execPowerOffMainEnDrop s) = some (s.but E) := by
  simp only [execPowerOffMainEnDrop.within] at h
  unfold execPowerOffMainEnDrop
  split <;> simp [h]

def execSafe.within (E : Touch → Bool) : Bool := pwrCmd.within E && enterSafe.within E
@[simp] theorem execSafe_but (h : execSafe.within E) (who : Issuer) (s : State) : Outcome.but E (execSafe who s) = some (s.but E) := by
  simp only [execSafe.within, Bool.and_eq_true] at h
  simp [execSafe, h]

def execSafeEntry.within (E : Touch → Bool) : Bool := enterSafe.within E
@[simp] theorem execSafeEntry_but (h : execSafeEntry.within E) (cause : ℕ) (s : State) : Outcome.but E (execSafeEntry cause s) = some
    (s.but E) := by
  simp only [execSafeEntry.within] at h
  simp [execSafeEntry, h]

def setLevel.within (E : Touch → Bool) : Bool := E Reg.PWR_STATE_TEMP_LEVEL.touch && E Reg.PWR_STATE_POWER_LEVEL.touch &&
  E Reg.PWR_STATE_LEVEL.touch && count.within Reg.PWR_THROTTLE_CNT_COUNT E && patina.within E && raise.within E &&
  E Reg.PWR_STATUS_THROTTLE.touch
@[simp] theorem setLevel_but (h : setLevel.within E) (temp : ℕ) (power : ℕ) (s : State) : (setLevel temp power s).but E = s.but E := by
  simp only [setLevel.within, Bool.and_eq_true] at h
  simp [setLevel, h]

def throttleUpdate.within (E : Touch → Bool) : Bool := E (.part .pwr) && E Reg.PWR_TEMP_HOTTEST.touch &&
  E Reg.PWR_TEMP_HOT_SENSOR.touch && E Reg.PWR_TEMP_DIODE0.touch && E Reg.PWR_TEMP_DIODE1.touch && E Reg.PWR_TEMP_PEAK.touch &&
  E Reg.PWR_POWER_AVG_W.touch && E Reg.PWR_POWER_PEAK_W.touch && nvTemperature.within E && setLevel.within E
@[simp] theorem throttleUpdate_but (h : throttleUpdate.within E) (env : Env) (s : State) : (throttleUpdate env s).but E = s.but E := by
  simp only [throttleUpdate.within, Bool.and_eq_true] at h
  simp [throttleUpdate, h]

def execTCritReached.within (E : Touch → Bool) : Bool := setLevel.within E && patina.within E && raise.within E &&
  E Reg.PWR_STATUS_CRIT.touch
@[simp] theorem execTCritReached_but (h : execTCritReached.within E) (sensor : ℕ) (hot : ℤ) (s : State) : Outcome.but E
    (execTCritReached sensor hot s) = some (s.but E) := by
  simp only [execTCritReached.within, Bool.and_eq_true] at h
  simp [execTCritReached, h]

def execCapOverDetected.within (E : Touch → Bool) : Bool := E Reg.PWR_STATUS_CAP_OVER.touch
@[simp] theorem execCapOverDetected_but (h : execCapOverDetected.within E) (s : State) : Outcome.but E (execCapOverDetected s) = some
    (s.but E) := by
  simp only [execCapOverDetected.within] at h
  simp [execCapOverDetected, h]

def execThermtrip.within (E : Touch → Bool) : Bool := patina.within E && E (.part .pwr) && enterSafe.within E
@[simp] theorem execThermtrip_but (h : execThermtrip.within E) (sensor : ℕ) (s : State) : Outcome.but E (execThermtrip sensor s) = some
    (s.but E) := by
  simp only [execThermtrip.within, Bool.and_eq_true] at h
  simp [execThermtrip, h]

def applyFnFetch.within (E : Touch → Bool) : Bool := updFn.within E && retryReads.within E && cqRoom.within E
@[simp] theorem applyFnFetch_but (h : applyFnFetch.within E) (fn : ℕ) (on : Bool) (s : State) : (applyFnFetch fn on s).but E = s.but E := by
  simp only [applyFnFetch.within, Bool.and_eq_true] at h
  simp [applyFnFetch, h]

def execDstateChange.within (E : Touch → Bool) : Bool := State.defer.within E && E Reg.HIF_FN_INFO_DSTATE.touch &&
  standbyShow.within E && leaveP1.within E
@[simp] theorem execDstateChange_but (h : execDstateChange.within E) (ap : ℕ) (rid : ℕ) (dstate : ℕ) (s : State) : Outcome.but E
    (execDstateChange ap rid dstate s) = some (s.but E) := by
  simp only [execDstateChange.within, Bool.and_eq_true] at h
  simp [execDstateChange, h]

/-! #### Service -/

def unitCmd.within (E : Touch → Bool) : Bool := cmdStart.within Blk.svc E
@[simp] theorem unitCmd_but (h : unitCmd.within E) (op : ℕ) (who : Issuer) (act : ℕ → ℕ → State → CmdRes) (s : State)
    (hact : ∀ a b t, (act a b t).but E = t.but E) : Outcome.but E (unitCmd op who act s) = some (s.but E) := by
  simp only [unitCmd.within] at h
  simp [unitCmd, h, hact]

def startSparing.within (E : Touch → Bool) : Bool := E (.part .svc) && E Reg.SVC_SPARE_STATE.touch && E Reg.SVC_SPARE_TARGET.touch &&
  E Reg.SVC_SPARE_COPIED_MIB.touch
@[simp] theorem startSparing_but (h : startSparing.within E) (index : ℕ) (s : State) : (startSparing index s).but E = s.but E := by
  simp only [startSparing.within, Bool.and_eq_true] at h
  simp [startSparing, h]

def sparingRefused.within (E : Touch → Bool) : Bool := raise.within E && E Reg.SVC_STATUS_SPARE.touch
@[simp] theorem sparingRefused_but (h : sparingRefused.within E) (index : ℕ) (s : State) : (sparingRefused index s).but E = s.but E := by
  simp only [sparingRefused.within, Bool.and_eq_true] at h
  simp [sparingRefused, h]

def execDrain.within (E : Touch → Bool) : Bool := unitCmd.within E && sparingRefused.within E && State.defer.within E &&
  startSparing.within E
@[simp] theorem execDrain_but (h : execDrain.within E) (who : Issuer) (s : State) : Outcome.but E (execDrain who s) = some (s.but E) := by
  simp only [execDrain.within, Bool.and_eq_true] at h
  simp [execDrain, h]

def execDrainCancel.within (E : Touch → Bool) : Bool := unitCmd.within E && State.defer.within E
@[simp] theorem execDrainCancel_but (h : execDrainCancel.within E) (who : Issuer) (s : State) : Outcome.but E
    (execDrainCancel who s) = some (s.but E) := by
  simp only [execDrainCancel.within, Bool.and_eq_true] at h
  simp [execDrainCancel, h]

def execUnitDrained.within (E : Touch → Bool) : Bool := State.defer.within E
@[simp] theorem execUnitDrained_but (h : execUnitDrained.within E) (kind : ℕ) (index : ℕ) (s : State) : Outcome.but E
    (execUnitDrained kind index s) = some (s.but E) := by
  simp only [execUnitDrained.within] at h
  simp [execUnitDrained, h]

def execUnitDrainTimeout.within (E : Touch → Bool) : Bool := State.defer.within E
@[simp] theorem execUnitDrainTimeout_but (h : execUnitDrainTimeout.within E) (kind : ℕ) (index : ℕ) (s : State) : Outcome.but E
    (execUnitDrainTimeout kind index s) = some (s.but E) := by
  simp only [execUnitDrainTimeout.within] at h
  unfold execUnitDrainTimeout
  split <;> simp [h]

def execTest.within (E : Touch → Bool) : Bool := unitCmd.within E && E Reg.SVC_UNIT_INFO_TEST.touch && E (.part .svc)
@[simp] theorem execTest_but (h : execTest.within E) (who : Issuer) (s : State) : Outcome.but E (execTest who s) = some (s.but E) := by
  simp only [execTest.within, Bool.and_eq_true] at h
  simp [execTest, h]

def execReadmit.within (E : Touch → Bool) : Bool := unitCmd.within E && E Reg.SVC_UNIT_INFO_TEST.touch && E (.part .svc)
@[simp] theorem execReadmit_but (h : execReadmit.within E) (who : Issuer) (s : State) : Outcome.but E (execReadmit who s) = some
    (s.but E) := by
  simp only [execReadmit.within, Bool.and_eq_true] at h
  simp [execReadmit, h]

def execTestDone.within (E : Touch → Bool) : Bool := E (.part .svc) && E Reg.SVC_UNIT_INFO_TEST.touch && patina.within E &&
  E Reg.SVC_SPARE_STATE.touch && E Reg.SVC_SPARE_SPARE.touch && setUnitState.within E
@[simp] theorem execTestDone_but (h : execTestDone.within E) (kind : ℕ) (index : ℕ) (pass : Bool) (s : State) : Outcome.but E
    (execTestDone kind index pass s) = some (s.but E) := by
  simp only [execTestDone.within, Bool.and_eq_true] at h
  unfold execTestDone
  dsimp only
  split <;> simp [h]

def execArmatureReloadDone.within (E : Touch → Bool) : Bool := State.defer.within E
@[simp] theorem execArmatureReloadDone_but (h : execArmatureReloadDone.within E) (kind : ℕ) (index : ℕ) (s : State) : Outcome.but E
    (execArmatureReloadDone kind index s) = some (s.but E) := by
  simp only [execArmatureReloadDone.within] at h
  simp [execArmatureReloadDone, h]

def execProbationStep.within (E : Touch → Bool) : Bool := E Reg.TIL_INFO_SHARE_LOG2.touch
@[simp] theorem execProbationStep_but (h : execProbationStep.within E) (kind : ℕ) (index : ℕ) (s : State) : Outcome.but E
    (execProbationStep kind index s) = some (s.but E) := by
  simp only [execProbationStep.within] at h
  unfold execProbationStep
  split <;> simp [h]

def execProbationEnd.within (E : Touch → Bool) : Bool := E (.part .svc) && E Reg.TIL_INFO_SHARE_LOG2.touch && setUnitState.within E
@[simp] theorem execProbationEnd_but (h : execProbationEnd.within E) (kind : ℕ) (index : ℕ) (s : State) : Outcome.but E
    (execProbationEnd kind index s) = some (s.but E) := by
  simp only [execProbationEnd.within, Bool.and_eq_true] at h
  unfold execProbationEnd
  dsimp only
  repeat' split
  all_goals simp [h]

def execSubstitute.within (E : Touch → Bool) : Bool := unitCmd.within E && startSubstitute.within E
@[simp] theorem execSubstitute_but (h : execSubstitute.within E) (who : Issuer) (s : State) : Outcome.but E (execSubstitute who s) = some
    (s.but E) := by
  simp only [execSubstitute.within, Bool.and_eq_true] at h
  unfold execSubstitute
  refine unitCmd_but (by simp only [h]) _ _ _ _ fun a b t => ?_
  dsimp only
  split
  · rfl
  split
  · simp [h]
  · rfl

def execRetire.within (E : Touch → Bool) : Bool := unitCmd.within E && retireUnit.within E
@[simp] theorem execRetire_but (h : execRetire.within E) (who : Issuer) (s : State) : Outcome.but E (execRetire who s) = some
    (s.but E) := by
  simp only [execRetire.within, Bool.and_eq_true] at h
  unfold execRetire
  refine unitCmd_but (by simp only [h]) _ _ _ _ fun a b t => ?_
  repeat' split
  all_goals simp [h]

def execRepair.within (E : Touch → Bool) : Bool := unitCmd.within E && consumeGranted.within E && E Reg.ARM_PPR_REMAINING.touch
@[simp] theorem execRepair_but (h : execRepair.within E) (who : Issuer) (s : State) : Outcome.but E (execRepair who s) = some
    (s.but E) := by
  simp only [execRepair.within, Bool.and_eq_true] at h
  unfold execRepair
  refine unitCmd_but (by simp only [h]) _ _ _ _ fun a b t => ?_
  repeat' split
  all_goals simp [h]

def execRepairDone.within (E : Touch → Bool) : Bool := E Reg.ARM_PPR_DONE.touch && cmdEnd.within Blk.svc E
@[simp] theorem execRepairDone_but (h : execRepairDone.within E) (index : ℕ) (ok : Bool) (s : State) : Outcome.but E
    (execRepairDone index ok s) = some (s.but E) := by
  simp only [execRepairDone.within, Bool.and_eq_true] at h
  unfold execRepairDone
  split <;> simp [h]

def execSpare.within (E : Touch → Bool) : Bool := unitCmd.within E && sparingRefused.within E && startSparing.within E
@[simp] theorem execSpare_but (h : execSpare.within E) (who : Issuer) (s : State) : Outcome.but E (execSpare who s) = some (s.but E) := by
  simp only [execSpare.within, Bool.and_eq_true] at h
  simp [execSpare, h]

def execSpareSwitch.within (E : Touch → Bool) : Bool := E (.part .svc) && E Reg.SVC_SPARE_STATE.touch &&
  E Reg.SVC_SPARE_COPIED_MIB.touch && raise.within E && E Reg.SVC_STATUS_SPARE.touch && enterHeld.within E
@[simp] theorem execSpareSwitch_but (h : execSpareSwitch.within E) (stack : ℕ) (s : State) : Outcome.but E
    (execSpareSwitch stack s) = some (s.but E) := by
  simp only [execSpareSwitch.within, Bool.and_eq_true] at h
  unfold execSpareSwitch
  split <;> simp [h]

/-! #### WellFormed -/

def execPlinthSwitch.plinthOutcome.within (E : Touch → Bool) : Bool := E Reg.SVC_PLINTH_RESULT.touch && E Reg.SVC_PLINTH_STROKE.touch &&
  E Reg.SVC_STATUS_PLINTH.touch && raise.within E
@[simp] theorem execPlinthSwitch.plinthOutcome_but (h : execPlinthSwitch.plinthOutcome.within E) (r : ℕ) (s : State) :
    (execPlinthSwitch.plinthOutcome r s).but E = s.but E := by
  simp only [execPlinthSwitch.plinthOutcome.within, Bool.and_eq_true] at h
  simp [execPlinthSwitch.plinthOutcome, h]

/-! #### Service -/

def execPlinthSwitch.within (E : Touch → Bool) : Bool := cmdStart.within Blk.svc E && E Reg.SVC_PLINTH_SWITCHING.touch &&
  E (.part .svc) && execPlinthSwitch.plinthOutcome.within E
@[simp] theorem execPlinthSwitch_but (h : execPlinthSwitch.within E) (who : Issuer) (s : State) : Outcome.but E
    (execPlinthSwitch who s) = some (s.but E) := by
  simp only [execPlinthSwitch.within, Bool.and_eq_true] at h
  simp [execPlinthSwitch, h]

def endPlinthSwitch.within (E : Touch → Bool) : Bool := E (.part .svc) && E Reg.SVC_PLINTH_SWITCHING.touch &&
  E Reg.SVC_PLINTH_SLOT.touch && E Reg.SVC_PLINTH_RESULT.touch && E Reg.SVC_PLINTH_STROKE.touch && E Reg.SVC_STATUS_PLINTH.touch &&
  jDevice.within E && raise.within E
@[simp] theorem endPlinthSwitch_but (h : endPlinthSwitch.within E) (slot : ℕ) (r : ℕ) (s : State) :
    (endPlinthSwitch slot r s).but E = s.but E := by
  simp only [endPlinthSwitch.within, Bool.and_eq_true] at h
  simp [endPlinthSwitch, h]

def execPlinthReady.within (E : Touch → Bool) : Bool := endPlinthSwitch.within E
@[simp] theorem execPlinthReady_but (h : execPlinthReady.within E) (s : State) : Outcome.but E (execPlinthReady s) = some (s.but E) := by
  simp only [execPlinthReady.within] at h
  unfold execPlinthReady
  split <;> simp [h]

def execPlinthSwitchTimeout.within (E : Touch → Bool) : Bool := E (.part .arm) && endPlinthSwitch.within E &&
  E Reg.ARM_BOOTDESC_PLINTH_SLOT.touch
@[simp] theorem execPlinthSwitchTimeout_but (h : execPlinthSwitchTimeout.within E) (s : State) : Outcome.but E
    (execPlinthSwitchTimeout s) = some (s.but E) := by
  simp only [execPlinthSwitchTimeout.within, Bool.and_eq_true] at h
  unfold execPlinthSwitchTimeout
  split <;> simp [h]

def execPlinthLockstepRestart.within (E : Touch → Bool) : Bool := patina.within E && E Reg.SVC_PLINTH_LOCKSTEP.touch
@[simp] theorem execPlinthLockstepRestart_but (h : execPlinthLockstepRestart.within E) (s : State) : Outcome.but E
    (execPlinthLockstepRestart s) = some (s.but E) := by
  simp only [execPlinthLockstepRestart.within, Bool.and_eq_true] at h
  simp [execPlinthLockstepRestart, h]

def probationFailure.within (E : Touch → Bool) : Bool := E Reg.SVC_UNIT_INFO_FAILS.touch && patina.within E && raise.within E &&
  E Reg.SVC_STATUS_PROBATION_FAIL.touch && State.defer.within E
@[simp] theorem probationFailure_but (h : probationFailure.within E) (kind : ℕ) (index : ℕ) (s : State) :
    (probationFailure kind index s).but E = s.but E := by
  simp only [probationFailure.within, Bool.and_eq_true] at h
  simp [probationFailure, h]

def unitFails.within (E : Touch → Bool) : Bool := patina.within E && E Reg.SVC_UNIT_INFO_CAUSE.touch && raise.within E &&
  probationFailure.within E && startSparing.within E && availUpdate.within E && sparingRefused.within E && State.defer.within E &&
  E (.part .svc)
@[simp] theorem unitFails_but (h : unitFails.within E) (kind : ℕ) (index : ℕ) (code : ℕ) (always : Bool) (s : State) :
    (unitFails kind index code always s).but E = s.but E := by
  simp only [unitFails.within, Bool.and_eq_true] at h
  simp [unitFails, h]

def execUnitFailure.within (E : Touch → Bool) : Bool := unitFails.within E
@[simp] theorem execUnitFailure_but (h : execUnitFailure.within E) (kind : ℕ) (index : ℕ) (code : ℕ) (s : State) : Outcome.but E
    (execUnitFailure kind index code s) = some (s.but E) := by
  simp only [execUnitFailure.within] at h
  simp [execUnitFailure, h]

def execCorrectedError.within (E : Touch → Bool) : Bool := E (.part .svc) && unitFails.within E
@[simp] theorem execCorrectedError_but (h : execCorrectedError.within E) (pc : ℕ) (s : State) : Outcome.but E
    (execCorrectedError pc s) = some (s.but E) := by
  simp only [execCorrectedError.within, Bool.and_eq_true] at h
  obtain ⟨window, hw⟩ : ∃ k, k = 3906250 := ⟨_, rfl⟩
  generalize e : execCorrectedError = f
  delta execCorrectedError at e
  rw [← hw] at e
  subst e
  dsimp only
  rw [Outcome.but_next, State.but_ite, unitFails_but h.2, State.updSvc_but h.1, ite_self]

def execRecoveryEntry.within (E : Touch → Bool) : Bool := patina.within E && enterSafe.within E && State.defer.within E &&
  E (.part .svc) && E Reg.SVC_RECOVERY_CAUSE.touch && rebuildStructure.within E
@[simp] theorem execRecoveryEntry_but (h : execRecoveryEntry.within E) (structure_ : ℕ) (bank : List ℕ) (s : State) : Outcome.but E
    (execRecoveryEntry structure_ bank s) = some (s.but E) := by
  simp only [execRecoveryEntry.within, Bool.and_eq_true] at h
  simp [execRecoveryEntry, h]

def enterRecovery.within (E : Touch → Bool) : Bool := enterState.within E && jDevice.within E && E (.part .svc) &&
  E Reg.SVC_RECOVERY_ENTRIES.touch && E Reg.SVC_RECOVERY_CAUSE.touch && E Reg.SVC_RECOVERY_STROKES.touch &&
  E Reg.SVC_STATUS_RECOVERY.touch && E Reg.TLT_CFG_EPOCH.touch && jobAbortedState.within E && rebuildStructure.within E &&
  abortForRecovery.within E && raise.within E
@[simp] theorem enterRecovery_but (h : enterRecovery.within E) (structure_ : ℕ) (bank : List ℕ) (s : State) :
    (enterRecovery structure_ bank s).but E = s.but E := by
  simp only [enterRecovery.within, Bool.and_eq_true] at h
  simp only [enterRecovery, State.but_ite, ite_self, implies_true, and_self, List.mem_cons, forall_eq_or_imp, List.not_mem_nil,
    false_imp_iff, enterState_but, jDevice_but, State.updSvc_but, State.sets_but, jobAbortedState_but,
    rebuildStructure_but, abortForRecovery_but, raise_but, h]

def execRecoveryExit.within (E : Touch → Bool) : Bool := enterSafe.within E && E (.part .svc) && E Reg.SVC_RECOVERY_STROKES.touch &&
  jobAbortedState.within E && enterState.within E && stageDiscard.within E && jDevice.within E && raise.within E
@[simp] theorem execRecoveryExit_but (h : execRecoveryExit.within E) (rebuilt : Bool) (s : State) : Outcome.but E
    (execRecoveryExit rebuilt s) = some (s.but E) := by
  simp only [execRecoveryExit.within, Bool.and_eq_true] at h
  simp [execRecoveryExit, h]

/-! #### TileItems -/

def leaveNiche.within (E : Touch → Bool) : Bool := updThread.within E
@[simp] theorem leaveNiche_but (h : leaveNiche.within E) (h' : ℕ) (pc : ℕ) (s : State) : (leaveNiche h' pc s).but E = s.but E := by
  simp only [leaveNiche.within] at h
  simp [leaveNiche, h]

def itemDropped.within (E : Touch → Bool) : Bool := freeSlot.within E && dropSeq.within E && sendLost.within E
@[simp] theorem itemDropped_but (h : itemDropped.within E) (h' : ℕ) (s : State) : (itemDropped h' s).but E = s.but E := by
  simp only [itemDropped.within, Bool.and_eq_true] at h
  unfold itemDropped
  repeat' split
  all_goals simp [h]

def execTcItemDone.within (E : Touch → Bool) : Bool := endPacket.within E && leaveNiche.within E
@[simp] theorem execTcItemDone_but (h : execTcItemDone.within E) (hart : ℕ) (value : ℕ) (s : State) : Outcome.but E
    (execTcItemDone hart value s) = some (s.but E) := by
  simp only [execTcItemDone.within, Bool.and_eq_true] at h
  unfold execTcItemDone
  refine threadActs_but _ _ _ fun t => ?_
  split <;> simp [h]

def threadEnds.within (E : Touch → Bool) : Bool := itemDropped.within E && E (.part .til) && setHalted.within E && updThread.within E
@[simp] theorem threadEnds_but (h : threadEnds.within E) (h' : ℕ) (s : State) : (threadEnds h' s).but E = s.but E := by
  simp only [threadEnds.within, Bool.and_eq_true] at h
  simp [threadEnds, h]

def execSupKill.within (E : Touch → Bool) : Bool := enterThrState.within E && threadEnds.within E
@[simp] theorem execSupKill_but (h : execSupKill.within E) (hart : ℕ) (mask : ℕ) (s : State) : Outcome.but E
    (execSupKill hart mask s) = some (s.but E) := by
  simp only [execSupKill.within, Bool.and_eq_true] at h
  simp [execSupKill, h]

def restartGroup.within (E : Touch → Bool) : Bool := startThread.within E && threadEnds.within E
@[simp] theorem restartGroup_but (h : restartGroup.within E) (t : ℕ) (g : ℕ) (s : State) : (restartGroup t g s).but E = s.but E := by
  simp only [restartGroup.within, Bool.and_eq_true] at h
  simp [restartGroup, h]

def execSupRestart.within (E : Touch → Bool) : Bool := restartGroup.within E
@[simp] theorem execSupRestart_but (h : execSupRestart.within E) (hart : ℕ) (group : ℕ) (s : State) : Outcome.but E
    (execSupRestart hart group s) = some (s.but E) := by
  simp only [execSupRestart.within] at h
  simp [execSupRestart, h]

def execSupDrainDone.within (E : Touch → Bool) : Bool := State.defer.within E
@[simp] theorem execSupDrainDone_but (h : execSupDrainDone.within E) (hart : ℕ) (s : State) : Outcome.but E
    (execSupDrainDone hart s) = some (s.but E) := by
  simp only [execSupDrainDone.within] at h
  simp [execSupDrainDone, h]

def faultRecord.within (E : Touch → Bool) : Bool := countI.within Reg.TIL_FAULT_CNT_COUNT E && E Reg.TIL_FAULT_LAST_CAUSE.touch &&
  E Reg.TIL_FAULT_LAST_NICHE_CTX.touch && E Reg.TIL_FAULT_LAST_THREAD.touch && E Reg.TIL_FAULT_LAST_NICHE.touch &&
  E Reg.TIL_FAULT_LAST_STROKE.touch && raise.within E && E Reg.TIL_STATUS_FAULT.touch
@[simp] theorem faultRecord_but (h : faultRecord.within E) (h' : ℕ) (mcause : ℕ) (ctx : Bool) (niche : ℕ) (s : State) :
    (faultRecord h' mcause ctx niche s).but E = s.but E := by
  simp only [faultRecord.within, Bool.and_eq_true] at h
  simp [faultRecord, h]

def execThreadFault.within (E : Touch → Bool) : Bool := leaveNiche.within E && itemDropped.within E &&
  enterThrState.within E && faultRecord.within E && hwPut.within E
@[simp] theorem execThreadFault_but (h : execThreadFault.within E) (hart : ℕ) (mcause : ℕ) (mepc : ℕ) (mtval : ℕ) (s : State) :
    Outcome.but E (execThreadFault hart mcause mepc mtval s) = some (s.but E) := by
  simp only [execThreadFault.within, Bool.and_eq_true] at h
  simp [execThreadFault, h]

def execSupervisorFault.within (E : Touch → Bool) : Bool := patina.within E && faultRecord.within E &&
  E Reg.SVC_UNIT_INFO_CAUSE.touch && State.defer.within E && E (.part .svc)
@[simp] theorem execSupervisorFault_but (h : execSupervisorFault.within E) (hart : ℕ) (mcause : ℕ) (s : State) : Outcome.but E
    (execSupervisorFault hart mcause s) = some (s.but E) := by
  simp only [execSupervisorFault.within, Bool.and_eq_true] at h
  simp [execSupervisorFault, h]

def execWaitCycleReport.within (E : Touch → Bool) : Bool := E Reg.TIL_WAITGRP_REPORTED.touch && patina.within E && raise.within E &&
  E (.part .til) && hwPut.within E
@[simp] theorem execWaitCycleReport_but (h : execWaitCycleReport.within E) (tile : ℕ) (group : ℕ) (s : State) : Outcome.but E
    (execWaitCycleReport tile group s) = some (s.but E) := by
  simp only [execWaitCycleReport.within, Bool.and_eq_true] at h
  simp [execWaitCycleReport, h]

def execWaitGroupRestart.within (E : Touch → Bool) : Bool := restartGroup.within E && E (.part .til) && jDevice.within E
@[simp] theorem execWaitGroupRestart_but (h : execWaitGroupRestart.within E) (tile : ℕ) (group : ℕ) (s : State) : Outcome.but E
    (execWaitGroupRestart tile group s) = some (s.but E) := by
  simp only [execWaitGroupRestart.within, Bool.and_eq_true] at h
  simp [execWaitGroupRestart, h]

def execTileDebugHold.within (E : Touch → Bool) : Bool := setUnitState.within E && E (.part .svc) && E Reg.TIL_INFO_DEBUG_HELD.touch &&
  E Reg.TIL_STATUS_DEBUG.touch && availUpdate.within E && spreadShow.within E && raise.within E
@[simp] theorem execTileDebugHold_but (h : execTileDebugHold.within E) (tile : ℕ) (s : State) : Outcome.but E
    (execTileDebugHold tile s) = some (s.but E) := by
  simp only [execTileDebugHold.within, Bool.and_eq_true] at h
  simp [execTileDebugHold, h]

def execTileDebugRelease.within (E : Touch → Bool) : Bool := enterProbation.within E && E Reg.TIL_INFO_DEBUG_HELD.touch &&
  E Reg.TIL_STATUS_DEBUG.touch && availUpdate.within E && spreadShow.within E && raise.within E
@[simp] theorem execTileDebugRelease_but (h : execTileDebugRelease.within E) (tile : ℕ) (s : State) : Outcome.but E
    (execTileDebugRelease tile s) = some (s.but E) := by
  simp only [execTileDebugRelease.within, Bool.and_eq_true] at h
  simp [execTileDebugRelease, h]

/-! #### Boundary -/

def eventWrite.within (E : Touch → Bool) : Bool := hostPut.within E && updRing.within E && E Reg.RNG_PTRS_PRODUCER.touch
@[simp] theorem eventWrite_but (h : eventWrite.within E) (r : ℕ) (w : ℕ) (s : State) : (eventWrite r w s).but E = s.but E := by
  simp only [eventWrite.within, Bool.and_eq_true] at h
  simp [eventWrite, h]

def eventLost.within (E : Touch → Bool) : Bool := E Reg.RNG_STATUS_EVQ_LOST.touch && countI.within Reg.RNG_RCNT_COUNT E &&
  updRing.within E
@[simp] theorem eventLost_but (h : eventLost.within E) (r : ℕ) (time : ℕ) (s : State) : (eventLost r time s).but E = s.but E := by
  simp only [eventLost.within, Bool.and_eq_true] at h
  simp [eventLost, h]

def eventPut.within (E : Touch → Bool) : Bool := eventLost.within E && eventWrite.within E && updRing.within E
@[simp] theorem eventPut_but (h : eventPut.within E) (r : ℕ) (w : ℕ) (time : ℕ) (s : State) : (eventPut r w time s).but E = s.but E := by
  simp only [eventPut.within, Bool.and_eq_true] at h
  simp [eventPut, h]

def deliverEvents.within (E : Touch → Bool) : Bool := E (.part .events) && eventPut.within E && nicheMsix.within E
@[simp] theorem deliverEvents_but (h : deliverEvents.within E) (s : State) : (deliverEvents s).but E = s.but E := by
  simp only [deliverEvents.within, Bool.and_eq_true] at h
  unfold deliverEvents
  dsimp only
  rw [foldl_but (by simp [h]), foldl_snd_but fun a e => ?_, State.updEvents_but h.1.1]
  split
  · simp [h]
  · rfl
  · rfl

def waitMonitor.within (E : Touch → Bool) : Bool := E Reg.TIL_WAITGRP_COUNT.touch && E Reg.TIL_WAITGRP_REPORTED.touch && E (.part .til)
@[simp] theorem waitMonitor_but (h : waitMonitor.within E) (s : State) : (waitMonitor s).but E = s.but E := by
  simp only [waitMonitor.within, Bool.and_eq_true] at h
  unfold waitMonitor
  rw [State.updTil_but h.2, foldl_but fun t a => foldl_but (by simp [h]) _ _]

def strokePending.within (E : Touch → Bool) : Bool := updThread.within E
@[simp] theorem strokePending_but (h : strokePending.within E) (s : State) : (strokePending s).but E = s.but E := by
  unfold strokePending.within at h
  refine foldl_but (fun t a => ?_) _ _
  dsimp only
  split
  · rfl
  · exact foldl_but (by simp [h]) _ _

def slewStroke.within (E : Touch → Bool) : Bool := E Reg.STK_STEP_STATUS_SLEW_LEFT.touch && E (.part .stk)
@[simp] theorem slewStroke_but (h : slewStroke.within E) (s : State) : (slewStroke s).but E = s.but E := by
  simp only [slewStroke.within, Bool.and_eq_true] at h
  simp [slewStroke, h]

def countStroke.within (E : Touch → Bool) : Bool := E (.part .stk) && recount.within E && slewStroke.within E &&
  E Reg.STK_STATUS_PHASE.touch && stepsDue.within E
@[simp] theorem countStroke_but (h : countStroke.within E) (s : State) : (countStroke s).but E = s.but E := by
  simp only [countStroke.within, Bool.and_eq_true] at h
  simp [countStroke, h]

def wheelBacklog.within (E : Touch → Bool) : Bool := State.draw.within E && E (.part .stk)
@[simp] theorem wheelBacklog_but (h : wheelBacklog.within E) (s : State) : (wheelBacklog s).but E = s.but E := by
  simp only [wheelBacklog.within, Bool.and_eq_true] at h
  simp [wheelBacklog, h]

def schedulerBoundary.within (E : Touch → Bool) : Bool := refill.within E && E (.part .sch) && gateShow.within E && relist.within E
@[simp] theorem schedulerBoundary_but (h : schedulerBoundary.within E) (s : State) : (schedulerBoundary s).but E = s.but E := by
  simp only [schedulerBoundary.within, Bool.and_eq_true] at h
  simp [schedulerBoundary, h]

def sparingCopy.within (E : Touch → Bool) : Bool := E Reg.SVC_SPARE_COPIED_MIB.touch
@[simp] theorem sparingCopy_but (h : sparingCopy.within E) (s : State) : (sparingCopy s).but E = s.but E := by
  simp only [sparingCopy.within] at h
  simp [sparingCopy, h]

def runningStrokes.within (E : Touch → Bool) : Bool := E Reg.ARM_JOB_STROKES.touch && E Reg.SVC_RECOVERY_STROKES.touch && E (.part .hif)
@[simp] theorem runningStrokes_but (h : runningStrokes.within E) (s : State) : (runningStrokes s).but E = s.but E := by
  simp only [runningStrokes.within, Bool.and_eq_true] at h
  simp [runningStrokes, h]

def execStrokeBoundary.within (E : Touch → Bool) : Bool := E (.part .stk) && countStroke.within E && deliverEvents.within E &&
  sparingCopy.within E && runningStrokes.within E && throttleUpdate.within E && wheelBacklog.within E && schedulerBoundary.within E &&
  strokePending.within E && waitMonitor.within E && availUpdate.within E && admitShow.within E && retryReads.within E
@[simp] theorem execStrokeBoundary_but (h : execStrokeBoundary.within E) (env : Env) (s : State) : Outcome.but E
    (execStrokeBoundary env s) = some (s.but E) := by
  simp only [execStrokeBoundary.within, Bool.and_eq_true] at h
  simp [execStrokeBoundary, h]

def applyField.within (E : Touch → Bool) : Bool := E .regs && modeChanged.within E && resetDeficits.within E &&
  E Reg.SCH_STATUS_SEAMLESS_USED.touch
@[simp] theorem applyField_but (h : applyField.within E) (f : Field) (i : ℕ) (v : ℕ) (s : State) :
    (applyField f i v s).but E = s.but E := by
  simp only [applyField.within, Bool.and_eq_true] at h
  simp [applyField, h, State.setI_but_any]

@[simp] theorem applyUnit_but (kind : ℕ) (index : ℕ) (when_ : ℕ → Bool) (f : State → State) (s : State)
    (hf : ∀ t, (f t).but E = t.but E) : (applyUnit kind index when_ f s).but E = s.but E := by
  simp [applyUnit, hf]

def applyChange.within (E : Touch → Bool) : Bool := applyField.within E && enterDraining.within E &&
  cancelDraining.within E && enterHeld.within E && forceHeld.within E && retireUnit.within E && joinUnit.within E &&
  jobSwitch.within E && jobDrain.within E && jobHold.within E && debugResume.within E && enterP1.within E && enterRecovery.within E &&
  applyEnable.within E && applyDisable.within E && updRing.within E && applyNicheActive.within E && applyNicheReset.within E &&
  updNiche.within E && applyLogStart.within E && applyLogSwap.within E && applyPolicer.within E && applyShaper.within E &&
  applyRehashSwitch.within E && applyKeyDead.within E && applyPathUp.within E && applyMacLink.within E && applyFnFetch.within E &&
  applyEpClose.within E && applyWinOpen.within E && applyWinRevoke.within E && applyWinRewrite.within E && applySegOpen.within E &&
  applySegRevoke.within E && applySegGrant.within E && applyMembers.within E && applyFabId.within E && applyFabIdLost.within E &&
  applyNvmeTail.within E && applyNvmeReset.within E && applyNsAttach.within E && applyNsDetach.within E && applyAdvice.within E
@[simp] theorem applyChange_but (h : applyChange.within E) (c : Change) (s : State) : (applyChange c s).but E = s.but E := by
  simp only [applyChange.within, Bool.and_eq_true] at h
  unfold applyChange
  split <;> simp [h]

def execDeferredChangeApply.within (E : Touch → Bool) : Bool := E (.part .deferred) && checkReady.within E && applyChange.within E
@[simp] theorem execDeferredChangeApply_but (h : execDeferredChangeApply.within E) (s : State) : Outcome.but E
    (execDeferredChangeApply s) = some (s.but E) := by
  simp only [execDeferredChangeApply.within, Bool.and_eq_true] at h
  simp [execDeferredChangeApply, h]

def overrun.within (E : Touch → Bool) : Bool := count.within Reg.STK_OVR_COUNT_COUNT E && E Reg.STK_OVR_LAST_KIND.touch &&
  E Reg.STK_OVR_LAST_INDEX.touch && E Reg.STK_OVR_LAST_STROKE.touch && raise.within E && E Reg.STK_STATUS_OVR.touch
@[simp] theorem overrun_but (h : overrun.within E) (kind : ℕ) (index : ℕ) (s : State) : (overrun kind index s).but E = s.but E := by
  simp only [overrun.within, Bool.and_eq_true] at h
  simp [overrun, h]

def execThreadOverrun.within (E : Touch → Bool) : Bool := overrun.within E && countI.within Reg.TIL_OVR_CNT_COUNT E
@[simp] theorem execThreadOverrun_but (h : execThreadOverrun.within E) (hart : ℕ) (missed : Bool) (s : State) : Outcome.but E
    (execThreadOverrun hart missed s) = some (s.but E) := by
  simp only [execThreadOverrun.within, Bool.and_eq_true] at h
  simp [execThreadOverrun, h]

def overrunPatina.within (E : Touch → Bool) : Bool := patina.within E
@[simp] theorem overrunPatina_but (h : overrunPatina.within E) (s : State) : (overrunPatina s).but E = s.but E := by
  simp only [overrunPatina.within] at h
  simp [overrunPatina, h]

def execHwUnitOverrun.within (E : Touch → Bool) : Bool := E (.part .sch) && E (.part .rgl) && overrunPatina.within E && overrun.within E
@[simp] theorem execHwUnitOverrun_but (h : execHwUnitOverrun.within E) (kind : ℕ) (index : ℕ) (s : State) : Outcome.but E
    (execHwUnitOverrun kind index s) = some (s.but E) := by
  simp only [execHwUnitOverrun.within, Bool.and_eq_true] at h
  simp [execHwUnitOverrun, h]

/-! #### RegWrite -/

def execInvalidAccess.within (E : Touch → Bool) : Bool := accessDropped.within E && reply.within E
@[simp] theorem execInvalidAccess_but (h : execInvalidAccess.within E) (a : Access0) (write : Bool) (s : State) : Outcome.but E
    (execInvalidAccess a write s) = some (s.but E) := by
  simp only [execInvalidAccess.within, Bool.and_eq_true] at h
  simp [execInvalidAccess, h]

def ownWrite.within (E : Touch → Bool) : Bool := execPhcRateWrite.within E && execPhcStepWrite.within E && execRealignArm.within E &&
  execRealignDisarm.within E && execAlignEstimateWrite.within E && execApEnWrite.within E && execManagerHeartbeat.within E &&
  execHandover.within E && execTakeover.within E && execNicheCounterClear.within E && execNudge.within E && execCqRelease.within E &&
  execEqRelease.within E && execShaperChange.within E && execPolicerApply.within E && fabCfgWrite.within E &&
  execAdviceAccept.within E && execJournalAck.within E
theorem ownWrite_but (h : ownWrite.within E) (who : Issuer) (off : ℕ) (v : ℕ) (s : State) {r : State} (e : ownWrite who off v s = some r) :
    r.but E = s.but E := by
  have act {o : Outcome} {x : State} (ho : Outcome.but E o = some (s.but E)) (e : some (nextOf o s) = some x) : x.but E = s.but E := by
    cases e; exact nextOf_but ho
  simp only [ownWrite.within, Bool.and_eq_true] at h
  obtain ⟨⟨⟨⟨⟨⟨⟨⟨⟨⟨⟨⟨⟨⟨⟨⟨⟨h1, h2⟩, h3⟩, h4⟩, h5⟩, h6⟩, h7⟩, h8⟩, h9⟩, h10⟩, h11⟩, h12⟩, h13⟩, h14⟩, h15⟩, h16⟩, h17⟩, h18⟩ := h
  revert e
  refine of_ite_some (act (execPhcRateWrite_but h1 ..)) ?_
  refine of_ite_some (act (execPhcStepWrite_but h2 ..)) ?_
  refine of_ite_some (act ?_) ?_
  · split
    · exact execRealignArm_but h3 ..
    · exact execRealignDisarm_but h4 ..
  refine of_ite_some (act (execAlignEstimateWrite_but h5 ..)) ?_
  refine of_ite_some (act (execApEnWrite_but h6 ..)) ?_
  refine of_ite_some (act (execManagerHeartbeat_but h7 ..)) ?_
  refine of_ite_some (act ?_) ?_
  · split
    · exact execHandover_but h8 ..
    split
    · exact execTakeover_but h9 ..
    · rfl
  refine of_ite_some (act (execNicheCounterClear_but h10 ..)) ?_
  refine of_ite_some (act (execNudge_but h11 ..)) ?_
  refine of_ite_some (act (execCqRelease_but h12 ..)) ?_
  refine of_ite_some (act (execEqRelease_but h13 ..)) ?_
  refine of_ite_some (act (execShaperChange_but h14 ..)) ?_
  refine of_ite_some (act (execPolicerApply_but h15 ..)) ?_
  refine of_ite_some (fun e => Option.some.inj e ▸ fabCfgWrite_but h16 ..) ?_
  refine of_ite_some (act (execAdviceAccept_but h17 ..)) ?_
  refine of_ite_some (act (execJournalAck_but h18 ..)) ?_
  exact fun e => nomatch e

def writeField.within (E : Touch → Bool) : Bool := E .regs && E (.part .deferred) && State.defer.within E
@[simp] theorem writeField_but (h : writeField.within E) (d : RegDef) (i : ℕ) (v : ℕ) (s : State) (f : Field) :
    (writeField d i v s f).but E = s.but E := by
  simp only [writeField.within, Bool.and_eq_true] at h
  unfold writeField
  dsimp only
  split
  · simp [h, State.setI_but_any]
  · split
    · simp [h, State.setI_but_any]
    split <;> simp [h, State.setI_but_any]
  · rfl

def clearFields.within (E : Touch → Bool) : Bool := writeField.within E
@[simp] theorem clearFields_but (h : clearFields.within E) (d : RegDef) (i : ℕ) (v : ℕ) (s : State) :
    (clearFields d i v s).but E = s.but E := by
  simp only [clearFields.within] at h
  simp [clearFields, h]

def afterWrite.within (E : Touch → Bool) : Bool := availUpdate.within E && fnShow.within E && admitShow.within E && E (.part .rng) &&
  boundViolation.within E
@[simp] theorem afterWrite_but (h : afterWrite.within E) (d : RegDef) (i : ℕ) (v : ℕ) (s : State) :
    (afterWrite d i v s).but E = s.but E := by
  simp only [afterWrite.within, Bool.and_eq_true] at h
  simp [afterWrite, h]

def applyWrite.within (E : Touch → Bool) : Bool := jRegWrite.within E && clearFields.within E && boundViolation.within E &&
  updLoop.within E && writeField.within E && afterWrite.within E
@[simp] theorem applyWrite_but (h : applyWrite.within E) (who : Issuer) (d : RegDef) (i : ℕ) (off : ℕ) (v : ℕ) (s : State) :
    (applyWrite who d i off v s).but E = s.but E := by
  simp only [applyWrite.within, Bool.and_eq_true] at h
  simp [applyWrite, h]

def regWrite.within (E : Touch → Bool) : Bool := ownWrite.within E && regGate.within E && accessDropped.within E && applyWrite.within E
@[simp] theorem regWrite_but (h : regWrite.within E) (who : Issuer) (off : ℕ) (v : ℕ) (s : State) :
    (regWrite who off v s).but E = s.but E := by
  simp only [regWrite.within, Bool.and_eq_true] at h
  unfold regWrite
  split
  · next e => exact ownWrite_but (by simp only [h]) _ _ _ _ e
  refine regGate_but (by simp only [h]) _ _ _ _ fun t => ?_
  split
  · simp [h]
  split <;> simp [h]

def mctpWrite.within (E : Touch → Bool) : Bool := E (.part .out) && State.draw.within E && regWrite.within E
@[simp] theorem mctpWrite_but (h : mctpWrite.within E) (who : Issuer) (off : ℕ) (v : ℕ) (s : State) :
    (mctpWrite who off v s).but E = s.but E := by
  simp only [mctpWrite.within, Bool.and_eq_true] at h
  simp [mctpWrite, h]

def execRegisterWrite.within (E : Touch → Bool) : Bool := mctpWrite.within E && regWrite.within E
@[simp] theorem execRegisterWrite_but (h : execRegisterWrite.within E) (who : Issuer) (offset : ℕ) (value : ℕ) (s : State) : Outcome.but E
    (execRegisterWrite who offset value s) = some (s.but E) := by
  simp only [execRegisterWrite.within, Bool.and_eq_true] at h
  simp [execRegisterWrite, h]

def execSatClear.within (E : Touch → Bool) : Bool := mctpWrite.within E && regWrite.within E
@[simp] theorem execSatClear_but (h : execSatClear.within E) (who : Issuer) (offset : ℕ) (s : State) : Outcome.but E
    (execSatClear who offset s) = some (s.but E) := by
  simp only [execSatClear.within, Bool.and_eq_true] at h
  simp [execSatClear, h]

def regRead.within (E : Touch → Bool) : Bool := readGate.within E && readReg.within E && reply.within E && accessDropped.within E
@[simp] theorem regRead_but (h : regRead.within E) (who : Issuer) (off : ℕ) (s : State) : (regRead who off s).but E = s.but E := by
  simp only [regRead.within, Bool.and_eq_true] at h
  unfold regRead
  refine readGate_but (by simp only [h]) _ _ _ _ fun t => ?_
  split <;> simp [h]

def execCounterLowRead.within (E : Touch → Bool) : Bool := regRead.within E
@[simp] theorem execCounterLowRead_but (h : execCounterLowRead.within E) (who : Issuer) (offset : ℕ) (s : State) : Outcome.but E
    (execCounterLowRead who offset s) = some (s.but E) := by
  simp only [execCounterLowRead.within] at h
  simp [execCounterLowRead, h]

def execReadClears.within (E : Touch → Bool) : Bool := execArmJobRead.within E && execRehashStateRead.within E &&
  execTxtsInfoRead.within E && regRead.within E
@[simp] theorem execReadClears_but (h : execReadClears.within E) (who : Issuer) (offset : ℕ) (s : State) : Outcome.but E
    (execReadClears who offset s) = some (s.but E) := by
  simp only [execReadClears.within, Bool.and_eq_true] at h
  simp [execReadClears, h, nextOf_but]

def capture.within (E : Touch → Bool) : Bool := State.draw.within E && execPhcSecRead.within E && execPpsInTsRead.within E &&
  execPatinaReadLatch.within E && reply.within E && execReadClears.within E && E (.part .out)
@[simp] theorem capture_but (h : capture.within E) (who : Issuer) (off : ℕ) (s : State) : (capture who off s).2.but E = s.but E := by
  simp only [capture.within, Bool.and_eq_true] at h
  unfold capture
  dsimp only
  split
  all_goals simp [h, nextOf_but]

def regAccess.within (E : Touch → Bool) : Bool := regWrite.within E && capture.within E
@[simp] theorem regAccess_but (h : regAccess.within E) (p : TlPkt) (s : State) : (regAccess p s).2.2.but E = s.but E := by
  simp only [regAccess.within, Bool.and_eq_true] at h
  simp [regAccess, h]

def regResponse.within (E : Touch → Bool) : Bool := sendPacket.within E
@[simp] theorem regResponse_but (h : regResponse.within E) (x : Serve) (result : List Byte) (s : State) :
    (regResponse x result s).but E = s.but E := by
  simp only [regResponse.within] at h
  simp [regResponse, h]

def execRegAccess.within (E : Touch → Bool) : Bool := rxIntro.within E && count.within Reg.TLT_DUP_DROP_COUNT E &&
  count.within Reg.TLT_WIN_DROP_COUNT E && regResponse.within E && regAccess.within E && putServe.within E && recordDone.within E
@[simp] theorem execRegAccess_but (h : execRegAccess.within E) (p : TlPkt) (s : State) : Outcome.but E (execRegAccess p s) = some
    (s.but E) := by
  simp only [execRegAccess.within, Bool.and_eq_true] at h
  refine congrArg some (rxIntro_but (by simp only [h]) _ _ _ fun t => ?_)
  dsimp only
  split
  · simp [h]
  · simp [h]
  · split
    · split <;> simp [h]
    · simp [h]
  · simp [h]

/-! #### WellFormed -/

def starting.within (E : Touch → Bool) : Bool := updFlight.within E
@[simp] theorem starting_but (h : starting.within E) (s : State) (f : Flight) : (starting s f).but E = s.but E := by
  simp only [starting.within] at h
  simp [starting, h]


end Sys2Proof.Machine
end

section
/-!
SUPPORT. From the changes of a command to its frame.
-/
namespace Sys2Proof.Machine

theorem Map.find?_filter {α : Type} (m : Map α) (k : Nat) (q : Nat → Bool) (h : q k = true) :
    Map.find? (m.filter fun p => q p.1) k = Map.find? m k := by
  induction m with
  | nil => rfl
  | cons a t ih =>
    obtain ⟨k', v⟩ := a
    by_cases e : k = k'
    · subst e; simp [h, Map.find?]
    · by_cases hq : q k' = true
      · simp [hq, Map.find?, e, ih]
      · simp [hq, Map.find?, e, ih]

/-- What a frame lists, as changes. -/
def listed (parts : List Part) (fields : List Field) : Touch → Bool
  | .part p => parts.contains p
  | .place c => fields.any fun f => f.off * 128 + f.lo == c
  | .regs => false

/-- The changes of a command whose operands choose register fields. -/
def listedParts (parts : List Part) : Touch → Bool
  | .part p => parts.contains p
  | _ => true

theorem samePart_of_but {E : Touch → Bool} {s t : State} (h : t.but E = s.but E) (p : Part) (hp : E (.part p) = false) : samePart p s t := by
  cases p
  all_goals
    have e := congrArg (fun x : State => (x.mem, x.free, x.stk, x.arm, x.hif, x.nch, x.rng, x.dma, x.til, x.prs, x.tbl, x.sch, x.nvs, x.acc,
      x.tlt, x.fab,
      x.rgl, x.svc, x.pwr, x.jnl, x.pat, x.cmds, x.deferred, x.events, x.out, x.pending)) h
    simp only [Prod.mk.injEq, State.but, hp, Bool.false_eq_true, if_false] at e
    simp only [samePart, e]

theorem getI_of_but {E : Touch → Bool} {s t : State} (h : t.but E = s.but E) (hr : E .regs = false) (f : Field) (hf : E f.touch = false) (i : Nat) :
    t.getI f i = s.getI f i := by
  have e := congrArg State.regs h
  simp only [State.but, hr, Bool.false_eq_true, if_false] at e
  have hq : (!E (.place (f.key i / 2 ^ 32))) = true := by rw [Field.key_div, Bool.not_eq_true']; exact hf
  unfold State.getI
  rw [← Map.find?_filter t.regs (f.key i) (fun k => !E (.place (k / 2 ^ 32))) hq, e, Map.find?_filter _ _ (fun k => !E (.place (k / 2 ^ 32))) hq]

theorem but_of_next {E : Touch → Bool} {o : Outcome} {s t : State} (h : Outcome.but E o = some (s.but E)) (e : o = .next t) :
    t.but E = s.but E := by
  rw [e] at h
  exact Option.some.inj h

theorem listed_part {parts : List Part} {fields : List Field} {p : Part} (hp : p ∉ parts) : listed parts fields (.part p) = false := by
  simpa [listed] using hp

theorem listed_place {parts : List Part} {fields : List Field} (hl : fields.all (fun g => g.lo < 128) = true) {f : Field} (hf : f.lo < 128)
    (hn : (f.off, f.lo) ∉ fields.map fun g => (g.off, g.lo)) : listed parts fields f.touch = false := by
  rw [Bool.eq_false_iff]
  intro h
  obtain ⟨g, hg, e⟩ := List.any_eq_true.1 h
  have hgl : g.lo < 128 := by simpa using List.all_eq_true.1 hl g hg
  have e' : g.off * 128 + g.lo = f.off * 128 + f.lo := by simpa using e
  refine hn (List.mem_map.2 ⟨g, hg, Prod.ext ?_ ?_⟩)
  · change g.off = f.off; omega
  · change g.lo = f.lo; omega

theorem keeps_of_but {c : Instr} {parts : List Part} {fields : List Field} (hl : fields.all (fun g => g.lo < 128) = true)
    (h : ∀ s, Outcome.but (listed parts fields) (exec c s) = some (s.but (listed parts fields))) : keeps c parts fields := by
  intro s t e
  have hb := but_of_next (h s) e
  exact ⟨fun p hp => samePart_of_but hb p (listed_part hp), fun f i hf hn => getI_of_but hb rfl f (listed_place hl hf hn) i⟩

theorem keepsParts_of_but {c : Instr} {parts : List Part} (h : ∀ s, Outcome.but (listedParts parts) (exec c s) = some (s.but (listedParts parts))) :
    keepsParts c parts := by
  intro s t e p hp
  exact samePart_of_but (but_of_next (h s) e) p (by simpa [listedParts] using hp)

end Sys2Proof.Machine
end

section
/-!
SUPPORT. The functions that leave device memory alone.
-/
namespace Sys2Proof.Machine
set_option Elab.async false

/-- Everything but device memory. -/
def notMem : Touch → Bool
  | .part .mem => false
  | _ => true

theorem mem_of_but {s t : State} (h : t.but notMem = s.but notMem) : t.mem = s.mem := by
  have e : (t.but notMem).mem = (s.but notMem).mem := congrArg State.mem h
  exact e

/-! #### Ops -/

@[simp] theorem cmdEnd_mem (b : CmdBlk) (status : ℕ) (s : State) : (cmdEnd b status s).mem = s.mem :=
  mem_of_but (cmdEnd_but b rfl status s)

/-! #### Flags -/

@[simp] theorem partitionCount_mem (p : ℕ) (s : State) : (partitionCount p s).mem = s.mem :=
  mem_of_but (partitionCount_but (by decide +kernel) p s)
@[simp] theorem availUpdate_mem (s : State) : (availUpdate s).mem = s.mem :=
  mem_of_but (availUpdate_but (by decide +kernel) s)
@[simp] theorem admitShow_mem (s : State) : (admitShow s).mem = s.mem :=
  mem_of_but (admitShow_but (by decide +kernel) s)

/-! #### Wire -/

@[simp] theorem setNicheState_mem (n : ℕ) (st : ℕ) (s : State) : (setNicheState n st s).mem = s.mem :=
  mem_of_but (setNicheState_but (by decide +kernel) n st s)
@[simp] theorem quotaGive_mem (n : ℕ) (res : ℕ) (k : ℕ) (s : State) : (quotaGive n res k s).mem = s.mem :=
  mem_of_but (quotaGive_but (by decide +kernel) n res k s)
@[simp] theorem hostPut_mem (n : ℕ) (addr : ℕ) (data : List Byte) (s : State) : (hostPut n addr data s).mem = s.mem :=
  mem_of_but (hostPut_but (by decide +kernel) n addr data s)
@[simp] theorem freeTag_mem (ap : ℕ) (tag : ℕ) (s : State) : (freeTag ap tag s).mem = s.mem :=
  mem_of_but (freeTag_but (by decide +kernel) ap tag s)
@[simp] theorem quarantine_mem (p : HostTag → Bool) (fromB : ℕ) (s : State) : (quarantine p fromB s).mem = s.mem :=
  mem_of_but (quarantine_but (by decide +kernel) p fromB s)
@[simp] theorem updNiche_mem (n : ℕ) (f : NicheX → NicheX) (s : State) : (updNiche n f s).mem = s.mem :=
  mem_of_but (updNiche_but (by decide +kernel) n f s)
@[simp] theorem updFn_mem (k : ℕ) (f : Fn → Fn) (s : State) : (updFn k f s).mem = s.mem :=
  mem_of_but (updFn_but (by decide +kernel) k f s)

/-! #### Channels -/

@[simp] theorem enterThrState_mem (h' : ℕ) (st : ℕ) (s : State) : (enterThrState h' st s).mem = s.mem :=
  mem_of_but (enterThrState_but (by decide +kernel) h' st s)
@[simp] theorem hwPut_mem (k : ℕ) (m : Msg) (s : State) : (hwPut k m s).1.mem = s.mem :=
  mem_of_but (hwPut_but (by decide +kernel) k m s)

/-! #### Flights -/

@[simp] theorem updRing_mem (r : ℕ) (f : RingX → RingX) (s : State) : (updRing r f s).mem = s.mem :=
  mem_of_but (updRing_but (by decide +kernel) r f s)
@[simp] theorem updFlight_mem (seq : ℕ) (g : Flight → Flight) (s : State) : (updFlight seq g s).mem = s.mem :=
  mem_of_but (updFlight_but (by decide +kernel) seq g s)
@[simp] theorem finish_mem (seq : ℕ) (status : ℕ) (result : ℕ) (s : State) : (finish seq status result s).mem = s.mem :=
  mem_of_but (finish_but (by decide +kernel) seq status result s)
@[simp] theorem jWork_mem (blk : ℕ) (f : Flight) (result : ℕ) (s : State) : (jWork blk f result s).mem = s.mem :=
  mem_of_but (jWork_but (by decide +kernel) blk f result s)

/-! #### Spaces -/

@[simp] theorem needRead_mem (n : ℕ) (p : Purpose) (s : State) : (needRead n p s).mem = s.mem :=
  mem_of_but (needRead_but (by decide +kernel) n p s)
@[simp] theorem retryReads_mem (s : State) : (retryReads s).mem = s.mem :=
  mem_of_but (retryReads_but (by decide +kernel) s)

/-! #### Keys -/

@[simp] theorem accFinish_mem (f : Flight) (slice : Option ℕ) (status : ℕ) (result : ℕ) (s : State) :
    (accFinish f slice status result s).mem = s.mem :=
  mem_of_but (accFinish_but (by decide +kernel) f slice status result s)
@[simp] theorem loadMaterial_mem (f : Flight) (len : ℕ) (material : ℕ) (s : State) : (loadMaterial f len material s).2.2.mem = s.mem :=
  mem_of_but (loadMaterial_but (by decide +kernel) f len material s)
@[simp] theorem keyRefused_mem (f : Flight) (st : ℕ) (s : State) : (keyRefused f st s).2.2.mem = s.mem :=
  mem_of_but (keyRefused_but (by decide +kernel) f st s)
@[simp] theorem applyKeyDead_mem (i : ℕ) (s : State) : (applyKeyDead i s).mem = s.mem :=
  mem_of_but (applyKeyDead_but (by decide +kernel) i s)

/-! #### Accel -/

@[simp] theorem accForget_mem (seq : ℕ) (s : State) : (accForget seq s).mem = s.mem :=
  mem_of_but (accForget_but (by decide +kernel) seq s)
@[simp] theorem accHostData_mem (seq : ℕ) (data : List Byte) (s : State) : (accHostData seq data s).mem = s.mem :=
  mem_of_but (accHostData_but (by decide +kernel) seq data s)
@[simp] theorem accStop_mem (seq : ℕ) (st : ℕ) (s : State) : (accStop seq st s).mem = s.mem :=
  mem_of_but (accStop_but (by decide +kernel) seq st s)
@[simp] theorem crcDone_mem (f : Flight) (slice : ℕ) (src : List Byte) (s : State) : (crcDone f slice src s).mem = s.mem :=
  mem_of_but (crcDone_but (by decide +kernel) f slice src s)

/-! #### Rings -/

@[simp] theorem applyEnable_mem (r : ℕ) (restart : Bool) (s : State) : (applyEnable r restart s).mem = s.mem :=
  mem_of_but (applyEnable_but (by decide +kernel) r restart s)
@[simp] theorem applyDisable_mem (r : ℕ) (s : State) : (applyDisable r s).mem = s.mem :=
  mem_of_but (applyDisable_but (by decide +kernel) r s)
@[simp] theorem pollAnswer_mem (r : ℕ) (entries : List ℕ) (s : State) : (pollAnswer r entries s).mem = s.mem :=
  mem_of_but (pollAnswer_but (by decide +kernel) r entries s)

/-! #### Niches -/

@[simp] theorem unbindNiche_mem (n : ℕ) (s : State) : (unbindNiche n s).mem = s.mem :=
  mem_of_but (unbindNiche_but (by decide +kernel) n s)
@[simp] theorem beginReset_mem (n : ℕ) (cause : ResetCause) (s : State) : (beginReset n cause s).mem = s.mem :=
  mem_of_but (beginReset_but (by decide +kernel) n cause s)
@[simp] theorem applyLogStart_mem (n : ℕ) (base : ℕ) (len : ℕ) (g : ℕ) (s : State) : (applyLogStart n base len g s).mem = s.mem :=
  mem_of_but (applyLogStart_but (by decide +kernel) n base len g s)
@[simp] theorem applyLogSwap_mem (n : ℕ) (last : Bool) (s : State) : (applyLogSwap n last s).mem = s.mem :=
  mem_of_but (applyLogSwap_but (by decide +kernel) n last s)
@[simp] theorem countPage_mem (f : Field) (n : ℕ) (s : State) : (countPage f n s).mem = s.mem :=
  mem_of_but (countPage_but f rfl n s)

/-! #### Tiles -/

@[simp] theorem debugRefused_mem (h' : ℕ) (s : State) : (debugRefused h' s).mem = s.mem :=
  mem_of_but (debugRefused_but (by decide +kernel) h' s)

/-! #### Sends -/

@[simp] theorem updSend_mem (peer : ℕ) (msg : ℕ) (f : Send → Send) (s : State) : (updSend peer msg f s).mem = s.mem :=
  mem_of_but (updSend_but (by decide +kernel) peer msg f s)

/-! #### Sched -/

@[simp] theorem frameEnds_mem (f : SFrame) (status : ℕ) (s : State) : (frameEnds f status s).mem = s.mem :=
  mem_of_but (frameEnds_but (by decide +kernel) f status s)
@[simp] theorem applyShaper_mem (h' : ℕ) (value : ℕ) (s : State) : (applyShaper h' value s).mem = s.mem :=
  mem_of_but (applyShaper_but (by decide +kernel) h' value s)
@[simp] theorem applyPolicer_mem (p : ℕ) (mode : ℕ) (cir : ℕ) (cbs : ℕ) (rate2 : ℕ) (burst2 : ℕ) (s : State) :
    (applyPolicer p mode cir cbs rate2 burst2 s).mem = s.mem :=
  mem_of_but (applyPolicer_but (by decide +kernel) p mode cir cbs rate2 burst2 s)

/-! #### Paths -/

@[simp] theorem buildPaths_mem (d : ℕ) (s : State) : (buildPaths d s).mem = s.mem :=
  mem_of_but (buildPaths_but (by decide +kernel) d s)
@[simp] theorem dropPaths_mem (d : ℕ) (s : State) : (dropPaths d s).mem = s.mem :=
  mem_of_but (dropPaths_but (by decide +kernel) d s)
@[simp] theorem pathEcho_mem (d : ℕ) (i : ℕ) (s : State) : (pathEcho d i s).mem = s.mem :=
  mem_of_but (pathEcho_but (by decide +kernel) d i s)

/-! #### Transport -/

@[simp] theorem openWin_mem (i : ℕ) (w : Window) (s : State) : (openWin i w s).2.mem = s.mem :=
  mem_of_but (openWin_but (by decide +kernel) i w s)
@[simp] theorem updPeer_mem (d : ℕ) (f : PeerX → PeerX) (s : State) : (updPeer d f s).mem = s.mem :=
  mem_of_but (updPeer_but (by decide +kernel) d f s)
@[simp] theorem newPeer_mem (d : ℕ) (s : State) : (newPeer d s).mem = s.mem :=
  mem_of_but (newPeer_but (by decide +kernel) d s)
@[simp] theorem tltShow_mem (s : State) : (tltShow s).mem = s.mem :=
  mem_of_but (tltShow_but (by decide +kernel) s)
@[simp] theorem peerCount_mem (d : ℕ) (s : State) : (peerCount d s).mem = s.mem :=
  mem_of_but (peerCount_but (by decide +kernel) d s)
@[simp] theorem sendChunk_mem (peer : ℕ) (msg : ℕ) (k : ℕ) (retry : Bool) (s : State) : (sendChunk peer msg k retry s).mem = s.mem :=
  mem_of_but (sendChunk_but (by decide +kernel) peer msg k retry s)
@[simp] theorem pump_mem (peer : ℕ) (msg : ℕ) (s : State) : (pump peer msg s).mem = s.mem :=
  mem_of_but (pump_but (by decide +kernel) peer msg s)
@[simp] theorem newSend_mem (x : Send) (s : State) : (newSend x s).mem = s.mem :=
  mem_of_but (newSend_but (by decide +kernel) x s)
@[simp] theorem dropSend_mem (peer : ℕ) (msg : ℕ) (s : State) : (dropSend peer msg s).mem = s.mem :=
  mem_of_but (dropSend_but (by decide +kernel) peer msg s)
@[simp] theorem abandon_mem (x : Send) (s : State) : (abandon x s).mem = s.mem :=
  mem_of_but (abandon_but (by decide +kernel) x s)
@[simp] theorem workEnd_mem (x : Send) (seq : ℕ) (st : ℕ) (result : ℕ) (s : State) : (workEnd x seq st result s).mem = s.mem :=
  mem_of_but (workEnd_but (by decide +kernel) x seq st result s)
@[simp] theorem epFailed_mem (ep : ℕ) (d : ℕ) (s : State) : (epFailed ep d s).mem = s.mem :=
  mem_of_but (epFailed_but (by decide +kernel) ep d s)
@[simp] theorem updEp_mem (ep : ℕ) (f : Endpoint → Endpoint) (s : State) : (updEp ep f s).mem = s.mem :=
  mem_of_but (updEp_but (by decide +kernel) ep f s)
@[simp] theorem ctxShow_mem (s : State) : (ctxShow s).mem = s.mem :=
  mem_of_but (ctxShow_but (by decide +kernel) s)
@[simp] theorem makeRoom_mem (s : State) : (makeRoom s).2.mem = s.mem :=
  mem_of_but (makeRoom_but (by decide +kernel) s)
@[simp] theorem touchEp_mem (ep : ℕ) (s : State) : (touchEp ep s).mem = s.mem :=
  mem_of_but (touchEp_but (by decide +kernel) ep s)
@[simp] theorem recallStart_mem (ep : ℕ) (s : State) : (recallStart ep s).mem = s.mem :=
  mem_of_but (recallStart_but (by decide +kernel) ep s)
@[simp] theorem stateDone_mem (blk : ℕ) (seq : ℕ) (st : ℕ) (result : ℕ) (s : State) : (stateDone blk seq st result s).mem = s.mem :=
  mem_of_but (stateDone_but (by decide +kernel) blk seq st result s)

/-! #### Pool -/

@[simp] theorem poolRefused_mem (src : ℕ) (key : ℕ) (st : ℕ) (s : State) : (poolRefused src key st s).mem = s.mem :=
  mem_of_but (poolRefused_but (by decide +kernel) src key st s)

/-! #### Dma -/

@[simp] theorem dmaComplete_mem (seq : ℕ) (st : ℕ) (bytes : ℕ) (element : ℕ) (s : State) :
    (dmaComplete seq st bytes element s).mem = s.mem :=
  mem_of_but (dmaComplete_but (by decide +kernel) seq st bytes element s)
@[simp] theorem updRun_mem (c : ℕ) (g : DmaRun → DmaRun) (s : State) : (updRun c g s).mem = s.mem :=
  mem_of_but (updRun_but (by decide +kernel) c g s)
@[simp] theorem dmaForget_mem (seq : ℕ) (s : State) : (dmaForget seq s).mem = s.mem :=
  mem_of_but (dmaForget_but (by decide +kernel) seq s)
@[simp] theorem dmaStop_mem (seq : ℕ) (st : ℕ) (s : State) : (dmaStop seq st s).mem = s.mem :=
  mem_of_but (dmaStop_but (by decide +kernel) seq st s)
@[simp] theorem remoteNext_mem (r : DmaRun) (f : Flight) (e : ℕ) (s : State) : (remoteNext r f e s).mem = s.mem :=
  mem_of_but (remoteNext_but (by decide +kernel) r f e s)
@[simp] theorem feedElement_mem (c : ℕ) (r : DmaRun) (f : Flight) (e : ℕ) (s : State) : (feedElement c r f e s).mem = s.mem :=
  mem_of_but (feedElement_but (by decide +kernel) c r f e s)
@[simp] theorem dmaNotice_mem (id : ℕ) (r : DmaRun) (f : Flight) (s : State) : (dmaNotice id r f s).mem = s.mem :=
  mem_of_but (dmaNotice_but (by decide +kernel) id r f s)
@[simp] theorem dmaHostData_mem (seq : ℕ) (data : List Byte) (s : State) : (dmaHostData seq data s).mem = s.mem :=
  mem_of_but (dmaHostData_but (by decide +kernel) seq data s)
@[simp] theorem dmaMessage_mem (seq : ℕ) (st : ℕ) (data : List Byte) (s : State) : (dmaMessage seq st data s).mem = s.mem :=
  mem_of_but (dmaMessage_but (by decide +kernel) seq st data s)

/-! #### Aperture -/

@[simp] theorem aptError_mem (s : State) : (aptError s).mem = s.mem :=
  mem_of_but (aptError_but (by decide +kernel) s)
@[simp] theorem aptReply_mem (o : AptOp) (status : ℕ) (data : List Byte) (s : State) : (aptReply o status data s).mem = s.mem :=
  mem_of_but (aptReply_but (by decide +kernel) o status data s)
@[simp] theorem aptDone_mem (o : AptOp) (st : ℕ) (data : List Byte) (s : State) : (aptDone o st data s).mem = s.mem :=
  mem_of_but (aptDone_but (by decide +kernel) o st data s)
@[simp] theorem regEnd_mem (st : ℕ) (data : List Byte) (s : State) : (regEnd st data s).mem = s.mem :=
  mem_of_but (regEnd_but (by decide +kernel) st data s)

/-! #### Storage -/

@[simp] theorem updCmd_mem (slot : ℕ) (f : NvCmd → NvCmd) (s : State) : (updCmd slot f s).mem = s.mem :=
  mem_of_but (updCmd_but (by decide +kernel) slot f s)
@[simp] theorem nvSmart_mem (c : ℕ) (k : ℕ) (n : ℕ) (s : State) : (nvSmart c k n s).mem = s.mem :=
  mem_of_but (nvSmart_but (by decide +kernel) c k n s)
@[simp] theorem nvEnd_mem (slot : ℕ) (dw0 : ℕ) (sf : ℕ) (dev : ℕ) (s : State) : (nvEnd slot dw0 sf dev s).mem = s.mem :=
  mem_of_but (nvEnd_but (by decide +kernel) slot dw0 sf dev s)
@[simp] theorem nvFail_mem (slot : ℕ) (st : ℕ) (lba : ℕ) (s : State) : (nvFail slot st lba s).mem = s.mem :=
  mem_of_but (nvFail_but (by decide +kernel) slot st lba s)
@[simp] theorem applyNvmeTail_mem (c : ℕ) (q : ℕ) (tail : ℕ) (s : State) : (applyNvmeTail c q tail s).mem = s.mem :=
  mem_of_but (applyNvmeTail_but (by decide +kernel) c q tail s)
@[simp] theorem nvmeHostData_mem (id : ℕ) (data : List Byte) (s : State) : (nvmeHostData id data s).mem = s.mem :=
  mem_of_but (nvmeHostData_but (by decide +kernel) id data s)
@[simp] theorem nvmeHostFail_mem (id : ℕ) (st : ℕ) (s : State) : (nvmeHostFail id st s).mem = s.mem :=
  mem_of_but (nvmeHostFail_but (by decide +kernel) id st s)
theorem nsSend_mem (op : ℕ) (owner : Owner) (d : ℕ) (off : ℕ) (len : ℕ) (data : List Byte) (right : ℕ) (s : State) {r : State}
    (e : nsSend op owner d off len data right s = some r) : r.mem = s.mem :=
  mem_of_but (nsSend_but (by decide +kernel) op owner d off len data right s e)
@[simp] theorem nvGot_mem (slot : ℕ) (loc : List Byte) (s : State) : (nvGot slot loc s).mem = s.mem :=
  mem_of_but (nvGot_but (by decide +kernel) slot loc s)
@[simp] theorem nvsEnd_mem (seq : ℕ) (slot : ℕ) (st : ℕ) (lba : ℕ) (data : Bool) (s : State) :
    (nvsEnd seq slot st lba data s).mem = s.mem :=
  mem_of_but (nvsEnd_but (by decide +kernel) seq slot st lba data s)
@[simp] theorem nvsOut_mem (f : Flight) (slot : ℕ) (c : NvCmd) (x : NvCtrl) (loc : List Byte) (s : State) :
    (nvsOut f slot c x loc s).mem = s.mem :=
  mem_of_but (nvsOut_but (by decide +kernel) f slot c x loc s)
theorem vSend_mem (op : ℕ) (right : ℕ) (len : ℕ) (f : Flight) (data : List Byte) (s : State) {r : State}
    (e : vSend op right len f data s = some r) : r.mem = s.mem :=
  mem_of_but (vSend_but (by decide +kernel) op right len f data s e)
@[simp] theorem nvsHostFail_mem (seq : ℕ) (st : ℕ) (s : State) : (nvsHostFail seq st s).mem = s.mem :=
  mem_of_but (nvsHostFail_but (by decide +kernel) seq st s)
@[simp] theorem nvsMessage_mem (seq : ℕ) (st : ℕ) (data : List Byte) (s : State) : (nvsMessage seq st data s).mem = s.mem :=
  mem_of_but (nvsMessage_but (by decide +kernel) seq st data s)
@[simp] theorem nvsAbort_mem (seq : ℕ) (st : ℕ) (s : State) : (nvsAbort seq st s).mem = s.mem :=
  mem_of_but (nvsAbort_but (by decide +kernel) seq st s)

/-! #### Turelm -/

@[simp] theorem failEpWork_mem (ep : ℕ) (st : ℕ) (s : State) : (failEpWork ep st s).mem = s.mem :=
  mem_of_but (failEpWork_but (by decide +kernel) ep st s)
@[simp] theorem begin_mem (f : Flight) (s : State) : (begin_ f s).mem = s.mem :=
  mem_of_but (begin_but (by decide +kernel) f s)
@[simp] theorem turelmHostData_mem (seq : ℕ) (data : List Byte) (s : State) : (turelmHostData seq data s).mem = s.mem :=
  mem_of_but (turelmHostData_but (by decide +kernel) seq data s)
@[simp] theorem applyWinOpen_mem (i : ℕ) (w : Window) (seq : ℕ) (s : State) : (applyWinOpen i w seq s).mem = s.mem :=
  mem_of_but (applyWinOpen_but (by decide +kernel) i w seq s)
@[simp] theorem applyWinRevoke_mem (i : ℕ) (seq : Option ℕ) (s : State) : (applyWinRevoke i seq s).mem = s.mem :=
  mem_of_but (applyWinRevoke_but (by decide +kernel) i seq s)
@[simp] theorem applyWinRewrite_mem (i : ℕ) (j : ℕ) (w : Window) (seq : ℕ) (s : State) : (applyWinRewrite i j w seq s).mem = s.mem :=
  mem_of_but (applyWinRewrite_but (by decide +kernel) i j w seq s)
@[simp] theorem recordDone_mem (peer : ℕ) (msg : ℕ) (st : ℕ) (chunk : ℕ) (s : State) : (recordDone peer msg st chunk s).mem = s.mem :=
  mem_of_but (recordDone_but (by decide +kernel) peer msg st chunk s)
@[simp] theorem laneSkip_mem (p : TlPkt) (s : State) : (laneSkip p s).mem = s.mem :=
  mem_of_but (laneSkip_but (by decide +kernel) p s)
@[simp] theorem putRx_mem (x : RxMsg) (s : State) : (putRx x s).mem = s.mem :=
  mem_of_but (putRx_but (by decide +kernel) x s)
@[simp] theorem dropRx_mem (peer : ℕ) (msg : ℕ) (giveBack : Bool) (s : State) : (dropRx peer msg giveBack s).mem = s.mem :=
  mem_of_but (dropRx_but (by decide +kernel) peer msg giveBack s)
@[simp] theorem ackAll_mem (response : Bool) (p : TlPkt) (ce : ℕ) (s : State) : (ackAll response p ce s).mem = s.mem :=
  mem_of_but (ackAll_but (by decide +kernel) response p ce s)
@[simp] theorem nak_mem (p : TlPkt) (st : ℕ) (chunk : ℕ) (s : State) : (nak p st chunk s).mem = s.mem :=
  mem_of_but (nak_but (by decide +kernel) p st chunk s)
@[simp] theorem refuse_mem (p : TlPkt) (st : ℕ) (s : State) : (refuse p st s).mem = s.mem :=
  mem_of_but (refuse_but (by decide +kernel) p st s)
@[simp] theorem recallOverflow_mem (p : TlPkt) (s : State) : (recallOverflow p s).mem = s.mem :=
  mem_of_but (recallOverflow_but (by decide +kernel) p s)
@[simp] theorem refuseAt_mem (p : TlPkt) (st : ℕ) (s : State) : (refuseAt p st s).mem = s.mem :=
  mem_of_but (refuseAt_but (by decide +kernel) p st s)
@[simp] theorem markDirty_mem (peer : ℕ) (w : Window) (last : ℕ) (s : State) : (markDirty peer w last s).mem = s.mem :=
  mem_of_but (markDirty_but (by decide +kernel) peer w last s)
@[simp] theorem trackerFull_mem (p : TlPkt) (s : State) : (trackerFull p s).mem = s.mem :=
  mem_of_but (trackerFull_but (by decide +kernel) p s)
@[simp] theorem chunkPlaced_mem (x : RxMsg) (p : TlPkt) (s : State) : (chunkPlaced x p s).mem = s.mem :=
  mem_of_but (chunkPlaced_but (by decide +kernel) x p s)
@[simp] theorem putServe_mem (x : Serve) (s : State) : (putServe x s).mem = s.mem :=
  mem_of_but (putServe_but (by decide +kernel) x s)
@[simp] theorem dropServe_mem (peer : ℕ) (msg : ℕ) (s : State) : (dropServe peer msg s).mem = s.mem :=
  mem_of_but (dropServe_but (by decide +kernel) peer msg s)
@[simp] theorem readResponse_mem (x : Serve) (data : List Byte) (s : State) : (readResponse x data s).mem = s.mem :=
  mem_of_but (readResponse_but (by decide +kernel) x data s)
@[simp] theorem atomicResponse_mem (x : Serve) (original : List Byte) (s : State) : (atomicResponse x original s).mem = s.mem :=
  mem_of_but (atomicResponse_but (by decide +kernel) x original s)
@[simp] theorem served_mem (p : TlPkt) (s : State) : (served p s).mem = s.mem :=
  mem_of_but (served_but (by decide +kernel) p s)
@[simp] theorem serveRead_mem (p : TlPkt) (s : State) : (serveRead p s).mem = s.mem :=
  mem_of_but (serveRead_but (by decide +kernel) p s)
@[simp] theorem atomicDone_mem (x : Serve) (old : ℕ) (s : State) : (atomicDone x old s).mem = s.mem :=
  mem_of_but (atomicDone_but (by decide +kernel) x old s)
@[simp] theorem serveHostFail_mem (peer : ℕ) (msg : ℕ) (st : ℕ) (s : State) : (serveHostFail peer msg st s).mem = s.mem :=
  mem_of_but (serveHostFail_but (by decide +kernel) peer msg st s)
@[simp] theorem progress_mem (peer : ℕ) (msg : ℕ) (s : State) : (progress peer msg s).mem = s.mem :=
  mem_of_but (progress_but (by decide +kernel) peer msg s)
@[simp] theorem flushAnswer_mem (peer : ℕ) (msg : ℕ) (snap : Map (ℕ × ℕ)) (s : State) : (flushAnswer peer msg snap s).mem = s.mem :=
  mem_of_but (flushAnswer_but (by decide +kernel) peer msg snap s)
@[simp] theorem flushReadFail_mem (peer : ℕ) (msg : ℕ) (s : State) : (flushReadFail peer msg s).mem = s.mem :=
  mem_of_but (flushReadFail_but (by decide +kernel) peer msg s)
@[simp] theorem rttSample_mem (d : ℕ) (s : State) : (rttSample d s).mem = s.mem :=
  mem_of_but (rttSample_but (by decide +kernel) d s)

/-! #### Fabric -/

@[simp] theorem segShow_mem (g : ℕ) (s : State) : (segShow g s).mem = s.mem :=
  mem_of_but (segShow_but (by decide +kernel) g s)
@[simp] theorem fabObject_mem (obj : ℕ) (s : State) : (fabObject obj s).mem = s.mem :=
  mem_of_but (fabObject_but (by decide +kernel) obj s)
@[simp] theorem applySegGrant_mem (g : ℕ) (entry : ℕ) (value : ℕ) (s : State) : (applySegGrant g entry value s).mem = s.mem :=
  mem_of_but (applySegGrant_but (by decide +kernel) g entry value s)
@[simp] theorem applySegRevoke_mem (g : ℕ) (reopen : Bool) (s : State) : (applySegRevoke g reopen s).mem = s.mem :=
  mem_of_but (applySegRevoke_but (by decide +kernel) g reopen s)
@[simp] theorem fabricNicheReset_mem (n : ℕ) (teardown : Bool) (s : State) : (fabricNicheReset n teardown s).mem = s.mem :=
  mem_of_but (fabricNicheReset_but (by decide +kernel) n teardown s)

/-! #### Discovery -/

@[simp] theorem sendIdRequest_mem (s : State) : (sendIdRequest s).mem = s.mem :=
  mem_of_but (sendIdRequest_but (by decide +kernel) s)
@[simp] theorem fabCfgWrite_mem (who : Issuer) (value : ℕ) (s : State) : (fabCfgWrite who value s).mem = s.mem :=
  mem_of_but (fabCfgWrite_but (by decide +kernel) who value s)
@[simp] theorem segsShow_mem (s : State) : (segsShow s).mem = s.mem :=
  mem_of_but (segsShow_but (by decide +kernel) s)
@[simp] theorem applyFabId_mem (d : ℕ) (s : State) : (applyFabId d s).mem = s.mem :=
  mem_of_but (applyFabId_but (by decide +kernel) d s)
@[simp] theorem applyPathUp_mem (k : ℕ) (s : State) : (applyPathUp k s).mem = s.mem :=
  mem_of_but (applyPathUp_but (by decide +kernel) k s)
@[simp] theorem applyMacLink_mem (mac : ℕ) (up : Bool) (s : State) : (applyMacLink mac up s).mem = s.mem :=
  mem_of_but (applyMacLink_but (by decide +kernel) mac up s)

/-! #### Tables -/

@[simp] theorem applyRehashSwitch_mem (t : ℕ) (s : State) : (applyRehashSwitch t s).mem = s.mem :=
  mem_of_but (applyRehashSwitch_but (by decide +kernel) t s)

/-! #### Parse -/

@[simp] theorem putPkt_mem (p : Pkt) (s : State) : (putPkt p s).mem = s.mem :=
  mem_of_but (putPkt_but (by decide +kernel) p s)
@[simp] theorem delPkt_mem (id : ℕ) (s : State) : (delPkt id s).mem = s.mem :=
  mem_of_but (delPkt_but (by decide +kernel) id s)
@[simp] theorem clusterShow_mem (k : ℕ) (s : State) : (clusterShow k s).mem = s.mem :=
  mem_of_but (clusterShow_but (by decide +kernel) k s)
@[simp] theorem sendLost_mem (p : Pkt) (s : State) : (sendLost p s).mem = s.mem :=
  mem_of_but (sendLost_but (by decide +kernel) p s)
@[simp] theorem clusterDrop_mem (k : ℕ) (s : State) : (clusterDrop k s).mem = s.mem :=
  mem_of_but (clusterDrop_but (by decide +kernel) k s)
@[simp] theorem spreadShow_mem (s : State) : (spreadShow s).mem = s.mem :=
  mem_of_but (spreadShow_but (by decide +kernel) s)
@[simp] theorem loseTile_mem (t : ℕ) (s : State) : (loseTile t s).mem = s.mem :=
  mem_of_but (loseTile_but (by decide +kernel) t s)

/-! #### StorageAdmin -/

@[simp] theorem applyNvmeReset_mem (c : ℕ) (s : State) : (applyNvmeReset c s).mem = s.mem :=
  mem_of_but (applyNvmeReset_but (by decide +kernel) c s)
@[simp] theorem nsShow_mem (ns : ℕ) (s : State) : (nsShow ns s).mem = s.mem :=
  mem_of_but (nsShow_but (by decide +kernel) ns s)
@[simp] theorem nsLeave_mem (ns : ℕ) (s : State) : (nsLeave ns s).mem = s.mem :=
  mem_of_but (nsLeave_but (by decide +kernel) ns s)
@[simp] theorem applyNsAttach_mem (ns : ℕ) (c : ℕ) (nsid : ℕ) (s : State) : (applyNsAttach ns c nsid s).mem = s.mem :=
  mem_of_but (applyNsAttach_but (by decide +kernel) ns c nsid s)
@[simp] theorem applyNsDetach_mem (ns : ℕ) (s : State) : (applyNsDetach ns s).mem = s.mem :=
  mem_of_but (applyNsDetach_but (by decide +kernel) ns s)
@[simp] theorem nvNicheReset_mem (n : ℕ) (s : State) : (nvNicheReset n s).mem = s.mem :=
  mem_of_but (nvNicheReset_but (by decide +kernel) n s)
@[simp] theorem nvRecovery_mem (s : State) : (nvRecovery s).mem = s.mem :=
  mem_of_but (nvRecovery_but (by decide +kernel) s)

/-! #### Work -/

@[simp] theorem sendPump_mem (h' : ℕ) (s : State) : (sendPump h' s).mem = s.mem :=
  mem_of_but (sendPump_but (by decide +kernel) h' s)
theorem sendStop_mem (seq : ℕ) (st : ℕ) (s : State) {r : State} (e : sendStop seq st s = some r) : r.mem = s.mem :=
  mem_of_but (sendStop_but (by decide +kernel) seq st s e)
@[simp] theorem ringsOff_mem (n : ℕ) (s : State) : (ringsOff n s).mem = s.mem :=
  mem_of_but (ringsOff_but (by decide +kernel) n s)
@[simp] theorem pollLost_mem (r : ℕ) (s : State) : (pollLost r s).mem = s.mem :=
  mem_of_but (pollLost_but (by decide +kernel) r s)
@[simp] theorem dropNicheObjects_mem (n : ℕ) (s : State) : (dropNicheObjects n s).mem = s.mem :=
  mem_of_but (dropNicheObjects_but (by decide +kernel) n s)

/-! #### Hosts -/

@[simp] theorem fnShow_mem (k : ℕ) (s : State) : (fnShow k s).mem = s.mem :=
  mem_of_but (fnShow_but (by decide +kernel) k s)
@[simp] theorem standbyShow_mem (s : State) : (standbyShow s).mem = s.mem :=
  mem_of_but (standbyShow_but (by decide +kernel) s)
@[simp] theorem managerLost_mem (s : State) : (managerLost s).mem = s.mem :=
  mem_of_but (managerLost_but (by decide +kernel) s)
@[simp] theorem startTraining_mem (ap : ℕ) (s : State) : (startTraining ap s).mem = s.mem :=
  mem_of_but (startTraining_but (by decide +kernel) ap s)
@[simp] theorem linkGoesDown_mem (ap : ℕ) (s : State) : (linkGoesDown ap s).mem = s.mem :=
  mem_of_but (linkGoesDown_but (by decide +kernel) ap s)
@[simp] theorem fnReset_mem (removed : Bool) (cold : Bool) (s : State) (f : Fn) : (fnReset removed cold s f).mem = s.mem :=
  mem_of_but (fnReset_but (by decide +kernel) removed cold s f)
@[simp] theorem atcDrop_mem (hit : AtcEntry → Bool) (s : State) : (atcDrop hit s).mem = s.mem :=
  mem_of_but (atcDrop_but (by decide +kernel) hit s)
@[simp] theorem resetLast_mem (ap : ℕ) (kind : ℕ) (rid : ℕ) (s : State) : (resetLast ap kind rid s).mem = s.mem :=
  mem_of_but (resetLast_but (by decide +kernel) ap kind rid s)
@[simp] theorem poisonShow_mem (s : State) : (poisonShow s).mem = s.mem :=
  mem_of_but (poisonShow_but (by decide +kernel) s)
@[simp] theorem cxlMedia_mem (dpa : ℕ) (s : State) : (cxlMedia dpa s).mem = s.mem :=
  mem_of_but (cxlMedia_but (by decide +kernel) dpa s)

/-! #### Regulation -/

@[simp] theorem applyAdvice_mem (l : ℕ) (run : ℕ) (mask : ℕ) (s : State) : (applyAdvice l run mask s).mem = s.mem :=
  mem_of_but (applyAdvice_but (by decide +kernel) l run mask s)

/-! #### Effects -/

@[simp] theorem applyRows_mem (types : List ℕ) (s : State) : (applyRows types s).mem = s.mem :=
  mem_of_but (applyRows_but (by decide +kernel) types s)
@[simp] theorem loadThreads_mem (t : ℕ) (s : State) : (loadThreads t s).mem = s.mem :=
  mem_of_but (loadThreads_but (by decide +kernel) t s)
@[simp] theorem startTile_mem (t : ℕ) (s : State) : (startTile t s).mem = s.mem :=
  mem_of_but (startTile_but (by decide +kernel) t s)
@[simp] theorem clearChannels_mem (t : ℕ) (s : State) : (clearChannels t s).mem = s.mem :=
  mem_of_but (clearChannels_but (by decide +kernel) t s)
@[simp] theorem takeLogicalTile_mem (held : ℕ) (index : ℕ) (s : State) : (takeLogicalTile held index s).mem = s.mem :=
  mem_of_but (takeLogicalTile_but (by decide +kernel) held index s)
@[simp] theorem controllerResumes_mem (h' : ℕ) (s : State) : (controllerResumes h' s).mem = s.mem :=
  mem_of_but (controllerResumes_but (by decide +kernel) h' s)
@[simp] theorem enterP1_mem (s : State) : (enterP1 s).mem = s.mem :=
  mem_of_but (enterP1_but (by decide +kernel) s)
@[simp] theorem resumeFromP1_mem (s : State) : (resumeFromP1 s).mem = s.mem :=
  mem_of_but (resumeFromP1_but (by decide +kernel) s)
@[simp] theorem rebuildStructure_mem (structure_ : ℕ) (bank : List ℕ) (s : State) : (rebuildStructure structure_ bank s).mem = s.mem :=
  mem_of_but (rebuildStructure_but (by decide +kernel) structure_ bank s)
@[simp] theorem closeDebug_mem (s : State) : (closeDebug s).mem = s.mem :=
  mem_of_but (closeDebug_but (by decide +kernel) s)
@[simp] theorem debugResume_mem (s : State) : (debugResume s).mem = s.mem :=
  mem_of_but (debugResume_but (by decide +kernel) s)
@[simp] theorem trainMode_mem (s : State) : (trainMode s).mem = s.mem :=
  mem_of_but (trainMode_but (by decide +kernel) s)
@[simp] theorem trainLinks_mem (s : State) : (trainLinks s).mem = s.mem :=
  mem_of_but (trainLinks_but (by decide +kernel) s)

/-! #### Device -/

@[simp] theorem setUnitState_mem (kind : ℕ) (index : ℕ) (new : ℕ) (s : State) : (setUnitState kind index new s).mem = s.mem :=
  mem_of_but (setUnitState_but (by decide +kernel) kind index new s)
@[simp] theorem enterProbation_mem (kind : ℕ) (index : ℕ) (s : State) : (enterProbation kind index s).mem = s.mem :=
  mem_of_but (enterProbation_but (by decide +kernel) kind index s)
@[simp] theorem autoSubstitute_mem (index : ℕ) (noSubst : Bool) (s : State) : (autoSubstitute index noSubst s).mem = s.mem :=
  mem_of_but (autoSubstitute_but (by decide +kernel) index noSubst s)
@[simp] theorem enterDraining_mem (kind : ℕ) (index : ℕ) (discard : Bool) (noSubst : Bool) (s : State) :
    (enterDraining kind index discard noSubst s).mem = s.mem :=
  mem_of_but (enterDraining_but (by decide +kernel) kind index discard noSubst s)
@[simp] theorem cancelDraining_mem (kind : ℕ) (index : ℕ) (s : State) : (cancelDraining kind index s).mem = s.mem :=
  mem_of_but (cancelDraining_but (by decide +kernel) kind index s)
@[simp] theorem retireUnit_mem (r : Role) (kind : ℕ) (index : ℕ) (s : State) : (retireUnit r kind index s).mem = s.mem :=
  mem_of_but (retireUnit_but (by decide +kernel) r kind index s)
@[simp] theorem applySections_mem (l : List Section) (s : State) : (applySections l s).mem = s.mem :=
  mem_of_but (applySections_but (by decide +kernel) l s)
@[simp] theorem jobPhase_mem (new : ℕ) (code : ℕ) (s : State) : (jobPhase new code s).mem = s.mem :=
  mem_of_but (jobPhase_but (by decide +kernel) new code s)
@[simp] theorem jobAbortedState_mem (s : State) : (jobAbortedState s).mem = s.mem :=
  mem_of_but (jobAbortedState_but (by decide +kernel) s)
@[simp] theorem jobAbandon_mem (s : State) : (jobAbandon s).mem = s.mem :=
  mem_of_but (jobAbandon_but (by decide +kernel) s)
@[simp] theorem enterSafe_mem (cause : ℕ) (s : State) : (enterSafe cause s).mem = s.mem :=
  mem_of_but (enterSafe_but (by decide +kernel) cause s)

/-! #### Armature -/

@[simp] theorem putBootDesc_mem (s : State) : (putBootDesc s).mem = s.mem :=
  mem_of_but (putBootDesc_but (by decide +kernel) s)
@[simp] theorem poolsFollow_mem (old : State) (s : State) : (poolsFollow old s).mem = s.mem :=
  mem_of_but (poolsFollow_but (by decide +kernel) old s)
@[simp] theorem jobDrain_mem (mask : ℕ) (s : State) : (jobDrain mask s).mem = s.mem :=
  mem_of_but (jobDrain_but (by decide +kernel) mask s)
@[simp] theorem applyPartials_mem (i : ℕ) (l : List Image) (s : State) : (applyPartials i l s).mem = s.mem :=
  mem_of_but (applyPartials_but (by decide +kernel) i l s)
@[simp] theorem configureUnits_mem (s : State) : (configureUnits s).mem = s.mem :=
  mem_of_but (configureUnits_but (by decide +kernel) s)

/-! #### Power -/

@[simp] theorem bootDraws_mem (s : State) : (bootDraws s).mem = s.mem :=
  mem_of_but (bootDraws_but (by decide +kernel) s)
@[simp] theorem bootKey_mem (s : State) : (bootKey s).mem = s.mem :=
  mem_of_but (bootKey_but (by decide +kernel) s)
@[simp] theorem checkReady_mem (s : State) : (checkReady s).mem = s.mem :=
  mem_of_but (checkReady_but (by decide +kernel) s)
@[simp] theorem regionReady_mem (s : State) : (regionReady s).mem = s.mem :=
  mem_of_but (regionReady_but (by decide +kernel) s)
@[simp] theorem startRow_mem (r : ℕ) (s : State) : (startRow r s).mem = s.mem :=
  mem_of_but (startRow_but (by decide +kernel) r s)
@[simp] theorem lateSubstitutes_mem (s : State) : (lateSubstitutes s).mem = s.mem :=
  mem_of_but (lateSubstitutes_but (by decide +kernel) s)
@[simp] theorem applyFnFetch_mem (fn : ℕ) (on : Bool) (s : State) : (applyFnFetch fn on s).mem = s.mem :=
  mem_of_but (applyFnFetch_but (by decide +kernel) fn on s)

/-! #### Boundary -/

@[simp] theorem applyField_mem (f : Field) (i : ℕ) (v : ℕ) (s : State) : (applyField f i v s).mem = s.mem :=
  mem_of_but (applyField_but (by decide +kernel) f i v s)

/-! #### RegWrite -/

@[simp] theorem applyWrite_mem (who : Issuer) (d : RegDef) (i : ℕ) (off : ℕ) (v : ℕ) (s : State) :
    (applyWrite who d i off v s).mem = s.mem :=
  mem_of_but (applyWrite_but (by decide +kernel) who d i off v s)
@[simp] theorem capture_mem (who : Issuer) (off : ℕ) (s : State) : (capture who off s).2.mem = s.mem :=
  mem_of_but (capture_but (by decide +kernel) who off s)
@[simp] theorem regResponse_mem (x : Serve) (result : List Byte) (s : State) : (regResponse x result s).mem = s.mem :=
  mem_of_but (regResponse_but (by decide +kernel) x result s)

end Sys2Proof.Machine
end

section
/-!
SUPPORT. Device memory in its canonical form: the functions that may store keep it, and so does every command.
-/
namespace Sys2Proof.Machine
set_option Elab.async false

/-- What a command answers keeps device memory in its canonical form. -/
def Outcome.memOk (o : Outcome) : Prop := ∀ t, o = .next t → t.memOk

@[simp] theorem Outcome.memOk_next (t : State) : Outcome.memOk (.next t) ↔ t.memOk :=
  ⟨fun h => h t rfl, fun h _ e => by cases e; exact h⟩

/-- What a running command leaves has device memory in its canonical form. -/
def CmdRes.memOk (r : CmdRes) : Prop :=
  match r with
  | .done _ _ s => s.memOk
  | .running s => s.memOk

@[simp] theorem CmdRes.memOk_done (st obj : Nat) (s : State) : (CmdRes.done st obj s).memOk ↔ s.memOk := Iff.rfl
@[simp] theorem CmdRes.memOk_running (s : State) : (CmdRes.running s).memOk ↔ s.memOk := Iff.rfl

@[simp] theorem State.ite_memOk (c : Prop) {d : Decidable c} (s t : State) :
    (if c then s else t).memOk ↔ if c then s.memOk else t.memOk := by split <;> rfl

theorem memOk_of_mem {s t : State} (e : t.mem = s.mem) (hs : s.memOk) : t.memOk := (congrArg Memory.wf e).trans hs

theorem memOk_of_but {s t : State} (e : t.but notMem = s.but notMem) (hs : s.memOk) : t.memOk := memOk_of_mem (mem_of_but e) hs

/-- The canonical form, as a predicate of the whole state: its proofs compare states, not memories. -/
def State.canonical (s : State) : Prop := s.memOk

theorem State.canonical_iff (s : State) : s.canonical ↔ s.memOk := Iff.rfl

theorem State.canonical.keep {s t : State} (h : s.canonical) (e : t.but notMem = s.but notMem) : t.canonical := memOk_of_but e h

theorem memOk_of_eq {α : Type} {p : α × State} {a : α} {t : State} (e : p = (a, t)) (h : p.2.memOk) : t.memOk := by
  rw [e] at h
  exact h

theorem mem_of_eq {α : Type} {p : α × State} {a : α} {t : State} (e : p = (a, t)) : t.mem = p.2.mem := by rw [e]

@[simp] theorem foldl_mem {α : Type} {f : State → α → State} (h : ∀ t a, (f t a).mem = t.mem) (l : List α) (s : State) :
    (l.foldl f s).mem = s.mem := by
  induction l generalizing s with
  | nil => rfl
  | cons a l ih => exact (ih (f s a)).trans (h s a)

@[simp] theorem foldl_memOk {α : Type} {f : State → α → State} {s : State} (hs : s.memOk)
    (h : ∀ t a, t.memOk → (f t a).memOk) (l : List α) :
    (l.foldl f s).memOk := by
  induction l generalizing s with
  | nil => exact hs
  | cons a l ih => exact ih (h s a hs)

theorem foldl_snd_memOk {α β : Type} {f : β × State → α → β × State} {a : β × State} (hs : a.2.memOk)
    (h : ∀ a x, a.2.memOk → (f a x).2.memOk)
    (l : List α) : (l.foldl f a).2.memOk := by
  induction l generalizing a with
  | nil => exact hs
  | cons x l ih => exact ih (h a x hs)

theorem foldl_canonical {α : Type} {f : State → α → State} {s : State} (hs : s.canonical)
    (h : ∀ t a, t.canonical → (f t a).canonical) (l : List α) :
    (l.foldl f s).canonical :=
  foldl_memOk hs h l

theorem getD_memOk {o : Option State} {d : State} (ho : ∀ {r}, o = some r → r.memOk) (hd : d.memOk) : (o.getD d).memOk := by
  cases o with
  | none => exact hd
  | some r => exact ho rfl

theorem nextOf_memOk {o : Outcome} {s : State} (h : Outcome.memOk o) (hs : s.memOk) : (nextOf o s).memOk := by
  cases o with
  | next t => exact h t rfl
  | _ => exact hs

/-! #### Ops -/

@[simp] theorem memWrite_memOk (s : State) (a : ℕ) (b : Byte) (hs : s.memOk) : (memWrite s a b).memOk := by
  exact memWrite_wf s a b hs

@[simp] theorem memWriteList_memOk (s : State) (a : ℕ) (l : List Byte) (hs : s.memOk) : (memWriteList s a l).memOk := by
  exact memWriteList_wf s a l hs

@[simp] theorem memZero_memOk (s : State) (a : ℕ) (n : ℕ) (hs : s.memOk) : (memZero s a n).memOk := by
  exact memZero_wf s a n hs

@[simp] theorem cmdStart_memOk (b : CmdBlk) (p : CmdPend) (allowed : Bool) (act : State → CmdRes) (s : State) (hs : s.memOk)
    (hact : ∀ t, t.memOk → (act t).memOk) : (cmdStart b p allowed act s).memOk := by
  have ha := hact s hs
  unfold cmdStart
  split
  · simp [State.memOk, hs]
  split
  · simp [State.memOk, hs]
  split
  · simp [State.memOk, hs]
  split
  · next e => rw [e, CmdRes.memOk_done] at ha; simp [State.memOk, ha]
  · next e => rw [e, CmdRes.memOk_running] at ha; simp [State.memOk, ha]

/-! #### Operands -/

@[simp] theorem regGate_memOk (who : Issuer) (off : ℕ) (s : State) (f : State → State) (hs : s.memOk) (hf : ∀ t, t.memOk → (f t).memOk) :
    (regGate who off s f).memOk := by
  unfold regGate
  split
  · exact hf s hs
  · simp [State.memOk, hs]

@[simp] theorem setGate_memOk (who : Issuer) (off : ℕ) (s : State) (f : State → State) (hs : s.memOk) (hf : ∀ t, t.memOk → (f t).memOk) :
    (setGate who off s f).memOk := by
  refine regGate_memOk _ _ _ _ hs fun t ht => ?_
  split
  · exact hf t ht
  · exact ht

/-! #### Flights -/

@[simp] theorem stateWork_memOk (blk : ℕ) (f : Flight) (act : State → ℕ × ℕ × State) (s : State) (hs : s.memOk)
    (hact : ∀ t, t.memOk → (act t).2.2.memOk) : (stateWork blk f act s).memOk := by
  unfold stateWork
  split
  · simp [State.memOk, hs]
  · have ha := hact s hs
    simp [State.memOk, ha]

@[simp] theorem startWork_memOk (w : Work) (opcode : ℕ) (act : Flight → State → State) (s : State) (hs : s.memOk)
    (hact : ∀ a t, t.memOk → (act a t).memOk) : Outcome.memOk (startWork w opcode act s) := by
  refine (Outcome.memOk_next _).2 ?_
  split
  · exact hact _ _ (by simp [State.memOk, hs])
  · exact hs

/-! #### Spaces -/

@[simp] theorem spaceWrite_memOk (f : Flight) (space : ℕ) (addr : ℕ) (data : List Byte) (s : State) (hs : s.memOk) :
    (spaceWrite f space addr data s).memOk := by
  simp [State.memOk, spaceWrite, hs]

/-! #### Keys -/

@[simp] theorem execKeyLoad_memOk (w : Work) (host : List Byte) (s : State) (hs : s.memOk) : Outcome.memOk (execKeyLoad w host s) := by
  refine startWork_memOk _ _ _ _ hs fun f t ht => stateWork_memOk _ _ _ _ ht fun t ht => ?_
  split
  · simp [State.memOk, ht]
  dsimp only
  split
  · simp [State.memOk, ht]
  split
  · split
    · simp [State.memOk, ht]
    · split <;> simp [State.memOk, ht]
  · simp [State.memOk, ht]

@[simp] theorem execKeyGenerate_memOk (w : Work) (s : State) (hs : s.memOk) : Outcome.memOk (execKeyGenerate w s) := by
  refine startWork_memOk _ _ _ _ hs fun f t ht => stateWork_memOk _ _ _ _ ht fun t ht => ?_
  dsimp only
  split
  · simp [State.memOk, ht]
  · simp [State.memOk, ht]

/-! #### Accel -/

@[simp] theorem accWrite_memOk (f : Flight) (slice : ℕ) (out : List Byte) (result : ℕ) (s : State) (hs : s.memOk) :
    (accWrite f slice out result s).memOk := by
  simp [State.memOk, accWrite, hs]

@[simp] theorem cipherDone_memOk (f : Flight) (slice : ℕ) (src : List Byte) (s : State) (hs : s.memOk) :
    (cipherDone f slice src s).memOk := by
  simp [State.memOk, cipherDone, hs]

@[simp] theorem digestDone_memOk (f : Flight) (slice : ℕ) (src : List Byte) (s : State) (hs : s.memOk) :
    (digestDone f slice src s).memOk := by
  simp [State.memOk, digestDone, hs]

@[simp] theorem compressDone_memOk (f : Flight) (slice : ℕ) (src : List Byte) (s : State) (hs : s.memOk) :
    (compressDone f slice src s).memOk := by
  simp [State.memOk, compressDone, hs]

@[simp] theorem decompressDone_memOk (f : Flight) (slice : ℕ) (src : List Byte) (s : State) (hs : s.memOk) :
    (decompressDone f slice src s).memOk := by
  simp [State.memOk, decompressDone, hs]

@[simp] theorem ecDone_memOk (f : Flight) (slice : ℕ) (s : State) (hs : s.memOk) : (ecDone f slice s).memOk := by
  unfold ecDone
  dsimp only
  split
  · simp [State.memOk, hs]
  · rw [State.memOk, accFinish_mem]
    exact foldl_memOk hs (fun t a ht => spaceWrite_memOk _ _ _ _ _ ht) _

@[simp] theorem scrubDone_memOk (f : Flight) (slice : ℕ) (src : List Byte) (bad : List ℕ) (s : State) (hs : s.memOk) :
    (scrubDone f slice src bad s).memOk := by
  simp [State.memOk, scrubDone, hs]

@[simp] theorem accDone_memOk (f : Flight) (slice : ℕ) (bad : List ℕ) (s : State) (hs : s.memOk) : (accDone f slice bad s).memOk := by
  unfold accDone
  dsimp only
  repeat' split
  all_goals simp [State.memOk, hs]

@[simp] theorem execAcceleratorWorkDone_memOk (w : Work) (slice : ℕ) (load : ℕ) (bad : List ℕ) (s : State) (hs : s.memOk) : Outcome.memOk
    (execAcceleratorWorkDone w slice load bad s) := by
  unfold execAcceleratorWorkDone
  split <;> simp [State.memOk, hs]

/-! #### Niches -/

@[simp] theorem applyNicheActive_memOk (n : ℕ) (s : State) (hs : s.memOk) : (applyNicheActive n s).memOk := by
  unfold applyNicheActive
  split <;> simp [State.memOk, hs]

@[simp] theorem wipeNiche_memOk (n : ℕ) (s : State) (hs : s.memOk) : (wipeNiche n s).memOk := by
  simp [State.memOk, wipeNiche, hs]

/-! #### Tiles -/

@[simp] theorem execDebugAccess_memOk (hart : ℕ) (kind : ℕ) (addr : ℕ) (value : ℕ) (s : State) (hs : s.memOk) : Outcome.memOk
    (execDebugAccess hart kind addr value s) := by
  unfold execDebugAccess
  repeat' split
  all_goals simp [State.memOk, hs]

/-! #### Transport -/

@[simp] theorem winPut_memOk (w : Window) (off : ℕ) (data : List Byte) (s : State) (hs : s.memOk) : (winPut w off data s).memOk := by
  simp [State.memOk, winPut, hs]

/-! #### Pool -/

@[simp] theorem atomicAt_memOk (addr : ℕ) (atop : ℕ) (operand : ℕ) (compare : ℕ) (s : State) (hs : s.memOk) :
    (atomicAt addr atop operand compare s).2.memOk := by
  unfold atomicAt
  dsimp only
  repeat' split
  all_goals simp [State.memOk, hs]

/-! #### Dma -/

@[simp] theorem writeStream_memOk (f : Flight) (e : ℕ) (a : ℕ) (b : ℕ) (s : State) (hs : s.memOk) : (writeStream f e a b s).memOk := by
  refine foldl_memOk hs (fun t a ht => ?_) _
  simp [State.memOk, ht]

@[simp] theorem dmaAdvance_memOk (fuel : ℕ) (c : ℕ) (seq : ℕ) (target : ℕ) (s : State) (hs : s.memOk) :
    (dmaAdvance fuel c seq target s).2.memOk := by
  induction fuel generalizing s with
  | zero => exact hs
  | succ n ih =>
    rw [dmaAdvance]
    split
    · split
      · exact hs
      split
      · exact hs
      dsimp only
      split
      · split
        · simp [State.memOk, hs]
        · exact ih _ (by simp [State.memOk, hs])
      · split
        · simp [State.memOk, hs]
        split
        · simp [State.memOk, hs]
        · exact ih _ (by simp [State.memOk, hs])
    · exact hs

@[simp] theorem dmaToHalf_memOk (c : ℕ) (r : DmaRun) (f : Flight) (s : State) (hs : s.memOk) : (dmaToHalf c r f s).2.memOk := by
  simp [State.memOk, dmaToHalf, hs]

@[simp] theorem execDmaHalfPoint_memOk (chan : ℕ) (s : State) (hs : s.memOk) : Outcome.memOk (execDmaHalfPoint chan s) := by
  unfold execDmaHalfPoint
  repeat' split
  all_goals simp [State.memOk, hs]

@[simp] theorem execDmaPassEnd_memOk (chan : ℕ) (s : State) (hs : s.memOk) : Outcome.memOk (execDmaPassEnd chan s) := by
  unfold execDmaPassEnd
  split
  · simp [State.memOk, hs]
  · split <;> simp [State.memOk, hs]

@[simp] theorem dmaAbort_memOk (seq : ℕ) (st : ℕ) (s : State) (hs : s.memOk) : (dmaAbort seq st s).memOk := by
  unfold dmaAbort
  split <;> simp [State.memOk, hs]

/-! #### Aperture -/

@[simp] theorem aptGo_memOk (o : AptOp) (s : State) (hs : s.memOk) : (aptGo o s).memOk := by
  unfold aptGo
  dsimp only
  repeat' split
  all_goals simp [State.memOk, hs]

@[simp] theorem aptPump_memOk (s : State) (hs : s.memOk) : (aptPump s).memOk := by
  refine foldl_memOk hs (fun t a ht => ?_) _
  split
  · exact aptGo_memOk _ _ ht
  · exact ht

@[simp] theorem aptEnd_memOk (id : ℕ) (st : ℕ) (data : List Byte) (s : State) (hs : s.memOk) : (aptEnd id st data s).memOk := by
  unfold aptEnd
  split <;> simp [State.memOk, hs]

@[simp] theorem execApertureAccess_memOk (who : Issuer) (off : ℕ) (len : ℕ) (data : Option (List Byte)) (s : State) (hs : s.memOk) :
    Outcome.memOk (execApertureAccess who off len data s) := by
  simp [State.memOk, execApertureAccess, hs]

@[simp] theorem execApertureReadTimeout_memOk (id : ℕ) (s : State) (hs : s.memOk) : Outcome.memOk (execApertureReadTimeout id s) := by
  unfold execApertureReadTimeout
  split <;> simp [State.memOk, hs]

/-! #### Storage -/

@[simp] theorem nvWrites_memOk (fuel : ℕ) (slot : ℕ) (d : ℕ) (s : State) (hs : s.memOk) : (nvWrites fuel slot d s).memOk := by
  induction fuel generalizing s with
  | zero => exact hs
  | succ n ih =>
    unfold nvWrites
    split
    · next k c e1 e2 =>
      cases e1
      split
      · split <;> simp [State.memOk, hs]
      · split
        · simp [State.memOk, hs]
        · exact ih _ (by simp [State.memOk, hs])
        · split
          · next e => exact memOk_of_mem (nsSend_mem _ _ _ _ _ _ _ _ e) (by simp [State.memOk, hs])
          · simp [State.memOk, hs]
    · exact hs

@[simp] theorem nvStore_memOk (slot : ℕ) (d : ℕ) (l : List (ℕ × List Byte)) (s : State) (hs : s.memOk) : (nvStore slot d l s).memOk := by
  simp [State.memOk, nvStore, hs]

@[simp] theorem nvmeMessage_memOk (slot : ℕ) (st : ℕ) (data : List Byte) (s : State) (hs : s.memOk) :
    (nvmeMessage slot st data s).memOk := by
  unfold nvmeMessage
  split <;> simp [State.memOk, hs]

@[simp] theorem nvOn_memOk (h' : ℕ) (opcode : ℕ) (act : ℕ → NvCmd → ℕ → State → State) (s : State) (hs : s.memOk)
    (hact : ∀ a b c t, t.memOk → (act a b c t).memOk) : Outcome.memOk (nvOn h' opcode act s) := by
  refine (Outcome.memOk_next _).2 ?_
  split
  · split
    · exact hact _ _ _ _ hs
    · exact hs
  · exact hs

@[simp] theorem execNvmeWrite_memOk (h' : ℕ) (s : State) (hs : s.memOk) : Outcome.memOk (execNvmeWrite h' s) := by
  refine nvOn_memOk _ _ _ _ hs fun a b c t ht => ?_
  split
  · exact ht
  dsimp only
  split
  · simp [State.memOk, ht]
  · split <;> simp [State.memOk, ht]

@[simp] theorem execWriteZeroes_memOk (h' : ℕ) (s : State) (hs : s.memOk) : Outcome.memOk (execWriteZeroes h' s) := by
  exact nvOn_memOk _ _ _ _ hs fun a b c t ht => nvStore_memOk _ _ _ _ ht

@[simp] theorem execDatasetManagement_memOk (h' : ℕ) (s : State) (hs : s.memOk) : Outcome.memOk (execDatasetManagement h' s) := by
  refine nvOn_memOk _ _ _ _ hs fun a b c t ht => ?_
  split
  · exact ht
  dsimp only
  split
  · simp [State.memOk, ht]
  · split
    · simp [State.memOk, ht]
    · split <;> simp [State.memOk, ht]

@[simp] theorem nvsIn_memOk (f : Flight) (slot : ℕ) (c : NvCmd) (x : NvCtrl) (s : State) (hs : s.memOk) : (nvsIn f slot c x s).memOk := by
  unfold nvsIn
  dsimp only
  split
  · simp [State.memOk, hs]
  split
  · simp [State.memOk, hs]
  split
  · simp [State.memOk, hs]
  · simp [State.memOk, hs]
  · exact getD_memOk (fun e => memOk_of_mem (vSend_mem _ _ _ _ _ _ e) hs) (by simp [State.memOk, hs])

@[simp] theorem nvsRun_memOk (f : Flight) (slot : ℕ) (c : NvCmd) (s : State) (hs : s.memOk) : (nvsRun f slot c s).memOk := by
  unfold nvsRun
  split
  · simp [State.memOk, hs]
  dsimp only
  split
  · exact nvsIn_memOk _ _ _ _ _ hs
  split
  · simp [State.memOk, hs]
  · simp [State.memOk, hs]
  · exact getD_memOk (fun e => memOk_of_mem (vSend_mem _ _ _ _ _ _ e) hs) (by simp [State.memOk, hs])

@[simp] theorem execNvsData_memOk (w : Work) (s : State) (hs : s.memOk) : Outcome.memOk (execNvsData w s) := by
  refine startWork_memOk _ _ _ _ hs fun f t ht => ?_
  split
  · simp [State.memOk, ht]
  split
  · simp [State.memOk, ht]
  · split
    · simp [State.memOk, ht]
    · exact nvsRun_memOk _ _ _ _ ht
  · simp [State.memOk, ht]

@[simp] theorem nvsHostData_memOk (seq : ℕ) (data : List Byte) (s : State) (hs : s.memOk) : (nvsHostData seq data s).memOk := by
  unfold nvsHostData
  repeat' split
  all_goals simp [State.memOk, hs]

/-! #### Turelm -/

@[simp] theorem endSend_memOk (x : Send) (st : ℕ) (result : ℕ) (data : List Byte) (s : State) (hs : s.memOk) :
    (endSend x st result data s).memOk := by
  unfold endSend
  repeat' split
  all_goals simp [State.memOk, hs]

@[simp] theorem failSend_memOk (x : Send) (st : ℕ) (s : State) (hs : s.memOk) : (failSend x st s).memOk := by
  simp [State.memOk, failSend, hs]

@[simp] theorem endSends_memOk (p : Send → Bool) (st : ℕ) (s : State) (hs : s.memOk) : (endSends p st s).memOk := by
  exact foldl_memOk hs (fun t x ht => endSend_memOk _ _ _ _ _ ht) _

@[simp] theorem tlWork_memOk (w : Work) (opcode : ℕ) (act : Flight → State → State) (s : State) (hs : s.memOk)
    (hact : ∀ a t, t.memOk → (act a t).memOk) : Outcome.memOk (tlWork w opcode act s) := by
  refine (Outcome.memOk_next _).2 ?_
  split
  · exact hact _ _ hs
  · exact hs

@[simp] theorem turelmHostFail_memOk (seq : ℕ) (st : ℕ) (s : State) (hs : s.memOk) : (turelmHostFail seq st s).memOk := by
  unfold turelmHostFail
  split <;> simp [State.memOk, hs]

@[simp] theorem closeEp_memOk (ep : ℕ) (silent : Bool) (s : State) (hs : s.memOk) : (closeEp ep silent s).memOk := by
  unfold closeEp
  split
  · exact hs
  extract_lets sends s1 s2 taken s3 s4 s5 s6 s7
  have h1 : s1.memOk := foldl_memOk hs (fun t x ht => by split <;> simp [State.memOk, ht]) _
  have h2 : s2.memOk := by unfold s2; split <;> simp [State.memOk, h1]
  have h3 : s3.memOk := by unfold s3; split <;> simp [State.memOk, h2]
  have h7 : s7.memOk := by unfold s7; split <;> simp [s6, s5, State.memOk, h3]
  simp [State.memOk, h7]

@[simp] theorem applyEpClose_memOk (ep : ℕ) (seq : Option ℕ) (s : State) (hs : s.memOk) : (applyEpClose ep seq s).memOk := by
  unfold applyEpClose
  repeat' split
  all_goals simp [State.memOk, hs]

@[simp] theorem peerEpoch_memOk (d : ℕ) (epoch : ℕ) (msg : ℕ) (s : State) (hs : s.memOk) : (peerEpoch d epoch msg s).memOk := by
  simp [State.memOk, peerEpoch, hs]

@[simp] theorem rxIntro_memOk (p : TlPkt) (act : State → State) (s : State) (hs : s.memOk) (hact : ∀ t, t.memOk → (act t).memOk) :
    (rxIntro p act s).memOk := by
  unfold rxIntro
  split
  · exact hs
  dsimp only
  split
  · simp [State.memOk, hs]
  split
  · simp [State.memOk, hs]
  split
  · exact hact _ (by simp [State.memOk, hs])
  split
  · simp [State.memOk, hs]
  split
  · exact hact _ (by simp [State.memOk, hs])
  · exact hact _ (by simp [State.memOk, hs])

@[simp] theorem byPlace_memOk (p : TlPkt) (act : State → State) (s : State) (hs : s.memOk) (hact : ∀ t, t.memOk → (act t).memOk) :
    (byPlace p act s).memOk := by
  unfold byPlace
  split
  · simp [State.memOk, hs]
  · simp [State.memOk, hs]
  · dsimp only
    split <;> simp [State.memOk, hs]
  · exact hact _ hs

@[simp] theorem ifOnDie_memOk (p : TlPkt) (e : Endpoint) (act : State → State) (s : State) (hs : s.memOk)
    (hact : ∀ t, t.memOk → (act t).memOk) : (ifOnDie p e act s).memOk := by
  unfold ifOnDie
  split
  · exact hact _ (by simp [State.memOk, hs])
  · split <;> simp [State.memOk, hs]

@[simp] theorem atTarget_memOk (p : TlPkt) (act : State → State) (s : State) (hs : s.memOk) (hact : ∀ t, t.memOk → (act t).memOk) :
    (atTarget p act s).memOk := by
  unfold atTarget
  split
  · split
    · exact hs
    dsimp only
    split
    · exact hact _ hs
    · split <;> simp [State.memOk, hs]
  split
  · simp [State.memOk, hs]
  · split
    · simp [State.memOk, hs]
    split
    · simp [State.memOk, hs]
    split
    · simp [State.memOk, hs]
    · exact ifOnDie_memOk _ _ _ _ hs hact

@[simp] theorem placeSend_memOk (x : RxMsg) (q : ℕ) (p : TlPkt) (s : State) (hs : s.memOk) : (placeSend x q p s).memOk := by
  unfold placeSend
  dsimp only
  repeat' split
  all_goals simp [State.memOk, hs]

@[simp] theorem placeWrite_memOk (x : RxMsg) (p : TlPkt) (s : State) (hs : s.memOk) : (placeWrite x p s).memOk := by
  unfold placeWrite
  dsimp only
  repeat' split
  all_goals simp [State.memOk, hs]

@[simp] theorem withBuffer_memOk (x : RxMsg) (p : TlPkt) (act : RxMsg → ℕ → State → State) (s : State) (hs : s.memOk)
    (hact : ∀ a b t, t.memOk → (act a b t).memOk) : (withBuffer x p act s).memOk := by
  unfold withBuffer
  split
  · exact hact _ _ _ hs
  · simp [State.memOk, hs]
  · split
    · simp [State.memOk, hs]
    split
    · simp [State.memOk, hs]
    · exact hact _ _ _ (by simp [State.memOk, hs])

@[simp] theorem rxPlace_memOk (p : TlPkt) (s : State) (hs : s.memOk) : (rxPlace p s).memOk := by
  unfold rxPlace
  extract_lets fresh x
  split
  · simp [State.memOk, hs]
  split
  · simp [State.memOk, hs]
  split
  · split <;> simp [State.memOk, hs]
  split
  · exact placeWrite_memOk _ _ _ hs
  split
  · split
    · simp [State.memOk, hs]
    · exact withBuffer_memOk _ _ _ _ hs fun a b t ht => placeWrite_memOk _ _ _ ht
  · exact withBuffer_memOk _ _ _ _ hs fun a b t ht => placeSend_memOk _ _ _ _ ht

@[simp] theorem rxData_memOk (p : TlPkt) (s : State) (hs : s.memOk) : (rxData p s).memOk := by
  exact byPlace_memOk _ _ _ hs fun t ht => atTarget_memOk _ _ _ ht fun t ht => rxPlace_memOk _ _ ht

@[simp] theorem execWireDataReceive_memOk (p : TlPkt) (s : State) (hs : s.memOk) : Outcome.memOk (execWireDataReceive p s) := by
  exact (Outcome.memOk_next _).2 (rxIntro_memOk _ _ _ hs fun t ht => rxData_memOk _ _ ht)

@[simp] theorem execWireReadReqReceive_memOk (p : TlPkt) (s : State) (hs : s.memOk) : Outcome.memOk (execWireReadReqReceive p s) := by
  have ha (t : State) (ht : t.memOk) : (atTarget p (serveRead p) t).memOk :=
    atTarget_memOk _ _ _ ht fun t ht => by simp [State.memOk, ht]
  have hb (t : State) (ht : t.memOk) : (byPlace p id t).memOk := byPlace_memOk _ _ _ ht fun _ ht => ht
  refine (Outcome.memOk_next _).2 (rxIntro_memOk _ _ _ hs fun t ht => ?_)
  split
  · exact ha t ht
  · split
    · exact ha t ht
    · exact hb t ht
  · exact ha t ht
  · exact hb t ht

@[simp] theorem serveAtomic_memOk (p : TlPkt) (s : State) (hs : s.memOk) : (serveAtomic p s).memOk := by
  unfold serveAtomic
  dsimp only
  repeat' split
  all_goals simp [State.memOk, hs]

@[simp] theorem execWireAtomicReceive_memOk (p : TlPkt) (s : State) (hs : s.memOk) : Outcome.memOk (execWireAtomicReceive p s) := by
  have hb (t : State) (ht : t.memOk) : (byPlace p id t).memOk := byPlace_memOk _ _ _ ht fun _ ht => ht
  refine (Outcome.memOk_next _).2 (rxIntro_memOk _ _ _ hs fun t ht => ?_)
  split
  · simp [State.memOk, ht]
  · split
    · exact hb t ht
    split
    · split <;> simp [State.memOk, ht]
    · simp [State.memOk, ht]
  · exact atTarget_memOk _ _ _ ht fun t ht => serveAtomic_memOk _ _ ht
  · exact hb t ht

@[simp] theorem serveHostData_memOk (peer : ℕ) (msg : ℕ) (data : List Byte) (s : State) (hs : s.memOk) :
    (serveHostData peer msg data s).memOk := by
  unfold serveHostData
  dsimp only
  repeat' split
  all_goals simp [State.memOk, hs]

@[simp] theorem readChunk_memOk (x : Send) (p : TlPkt) (s : State) (hs : s.memOk) : (readChunk x p s).memOk := by
  simp [State.memOk, readChunk, hs]

@[simp] theorem rxReadResp_memOk (p : TlPkt) (s : State) (hs : s.memOk) : (rxReadResp p s).memOk := by
  unfold rxReadResp
  repeat' split
  all_goals simp [State.memOk, hs]

@[simp] theorem atRequester_memOk (p : TlPkt) (act : State → State) (s : State) (hs : s.memOk) (hact : ∀ t, t.memOk → (act t).memOk) :
    (atRequester p act s).memOk := by
  unfold atRequester
  split
  · split
    · exact ifOnDie_memOk _ _ _ _ hs hact
    · exact hact _ hs
  · exact hact _ hs

@[simp] theorem execWireReadRespReceive_memOk (p : TlPkt) (s : State) (hs : s.memOk) : Outcome.memOk (execWireReadRespReceive p s) := by
  exact (Outcome.memOk_next _).2 (rxIntro_memOk _ _ _ hs fun t ht => atRequester_memOk _ _ _ ht fun t ht => rxReadResp_memOk _ _ ht)

@[simp] theorem rxAtomicResp_memOk (p : TlPkt) (s : State) (hs : s.memOk) : (rxAtomicResp p s).memOk := by
  unfold rxAtomicResp
  dsimp only
  repeat' split
  all_goals simp [State.memOk, hs]

@[simp] theorem execWireAtomicRespReceive_memOk (p : TlPkt) (s : State) (hs : s.memOk) : Outcome.memOk (execWireAtomicRespReceive p s) := by
  exact (Outcome.memOk_next _).2 (rxIntro_memOk _ _ _ hs fun t ht => atRequester_memOk _ _ _ ht fun t ht => rxAtomicResp_memOk _ _ ht)

@[simp] theorem execWireFlushReceive_memOk (p : TlPkt) (s : State) (hs : s.memOk) : Outcome.memOk (execWireFlushReceive p s) := by
  simp [State.memOk, execWireFlushReceive, hs]

@[simp] theorem execWireFlushAckReceive_memOk (p : TlPkt) (s : State) (hs : s.memOk) : Outcome.memOk (execWireFlushAckReceive p s) := by
  refine (Outcome.memOk_next _).2 (rxIntro_memOk _ _ _ hs fun t ht => ?_)
  dsimp only
  split
  · split
    · exact ht
    · split
      · exact endSend_memOk _ _ _ _ _ (by simp [State.memOk, ht])
      · exact endSend_memOk _ _ _ _ _ (by simp [State.memOk, ht])
  · exact ht

@[simp] theorem ackSend_memOk (x : Send) (p : TlPkt) (s : State) (hs : s.memOk) : (ackSend x p s).memOk := by
  simp [State.memOk, ackSend, hs]

@[simp] theorem execWireAckReceive_memOk (p : TlPkt) (s : State) (hs : s.memOk) : Outcome.memOk (execWireAckReceive p s) := by
  refine (Outcome.memOk_next _).2 (rxIntro_memOk _ _ _ hs fun t ht => ?_)
  dsimp only
  split
  · split <;> simp [State.memOk, ht]
  split
  · split
    · exact ackSend_memOk _ _ _ (by simp [State.memOk, ht])
    · simp [State.memOk, ht]
  · simp [State.memOk, ht]

@[simp] theorem execWireNakReceive_memOk (p : TlPkt) (s : State) (hs : s.memOk) : Outcome.memOk (execWireNakReceive p s) := by
  refine (Outcome.memOk_next _).2 (rxIntro_memOk _ _ _ hs fun t ht => ?_)
  have h1 : ((count Reg.TLT_NAK_RX_COUNT t).sets [(Reg.TLT_NAK_LAST_STATUS, byteField p.ext 0 0), (Reg.TLT_NAK_LAST_PEER, p.src),
      (Reg.TLT_NAK_LAST_ENDPOINT, ((t.send p.src p.msg).map (·.srcEp)).getD 0), (Reg.TLT_NAK_LAST_RECEIVED, 1)]).memOk := by
    simp [State.memOk, ht]
  dsimp only
  split
  · exact h1
  split
  · split
    · exact h1
    · exact memOk_of_mem (dropSend_mem ..) h1
  split
  · split
    · exact failSend_memOk _ _ _ (memOk_of_mem (updSend_mem ..) (memOk_of_mem (updPeer_mem ..) h1))
    · exact memOk_of_mem (updSend_mem ..) (memOk_of_mem (updSend_mem ..) (memOk_of_mem (updPeer_mem ..) h1))
  · exact endSend_memOk _ _ _ _ _ h1

@[simp] theorem execWireAbandonReceive_memOk (p : TlPkt) (s : State) (hs : s.memOk) : Outcome.memOk (execWireAbandonReceive p s) := by
  refine (Outcome.memOk_next _).2 (rxIntro_memOk _ _ _ hs fun t ht => byPlace_memOk _ _ _ ht fun t ht => ?_)
  simp [State.memOk, ht]

@[simp] theorem execMessageTimeout_memOk (peer : ℕ) (msg : ℕ) (s : State) (hs : s.memOk) : Outcome.memOk
    (execMessageTimeout peer msg s) := by
  unfold execMessageTimeout
  split <;> simp [State.memOk, hs]

@[simp] theorem rxHeld_memOk (p : TlPkt) (s : State) (hs : s.memOk) : (rxHeld p s).memOk := by
  unfold rxHeld
  split <;> simp [State.memOk, hs]

@[simp] theorem recallDone_memOk (ep : ℕ) (status : ℕ) (s : State) (hs : s.memOk) : (recallDone ep status s).memOk := by
  unfold recallDone
  split
  · exact hs
  split
  · exact hs
  dsimp only
  split
  · rw [State.memOk, ctxShow_mem]
    exact foldl_memOk (by simp [State.memOk, hs]) (fun t p ht => rxHeld_memOk _ _ ht) _
  · have h1 (t : State) (ht : t.memOk) (l : List Send) : (l.foldl (fun s x => failSend x status s) t).memOk :=
      foldl_memOk ht (fun t x ht => failSend_memOk _ _ _ ht) l
    rw [State.memOk, ctxShow_mem, raiseTo_mem, failEpWork_mem, foldl_mem (by simp)]
    exact h1 _ (by simp [State.memOk, hs]) _

@[simp] theorem execContextRecallDone_memOk (ep : ℕ) (status : ℕ) (s : State) (hs : s.memOk) : Outcome.memOk
    (execContextRecallDone ep status s) := by
  simp [State.memOk, execContextRecallDone, hs]

@[simp] theorem turelmAbort_memOk (seq : ℕ) (st : ℕ) (s : State) (hs : s.memOk) : (turelmAbort seq st s).memOk := by
  unfold turelmAbort
  split <;> simp [State.memOk, hs]

@[simp] theorem turelmAbortLate_memOk (niche : ℕ) (tag : ℕ) (s : State) (hs : s.memOk) : (turelmAbortLate niche tag s).memOk := by
  unfold turelmAbortLate
  split <;> simp [State.memOk, hs]

@[simp] theorem turelmRecovery_memOk (s : State) (hs : s.memOk) : (turelmRecovery s).memOk := by
  simp [State.memOk, turelmRecovery, hs]

@[simp] theorem turelmNicheReset_memOk (n : ℕ) (s : State) (hs : s.memOk) : (turelmNicheReset n s).memOk := by
  unfold turelmNicheReset
  exact foldl_memOk (by simp [State.memOk, hs]) (fun t e ht => closeEp_memOk _ _ _ ht) _

/-! #### Fabric -/

@[simp] theorem applySegOpen_memOk (g : ℕ) (zero : Bool) (s : State) (hs : s.memOk) : (applySegOpen g zero s).memOk := by
  unfold applySegOpen
  split <;> simp [State.memOk, hs]

@[simp] theorem execRegResp_memOk (p : TlPkt) (s : State) (hs : s.memOk) : Outcome.memOk (execRegResp p s) := by
  refine (Outcome.memOk_next _).2 (rxIntro_memOk _ _ _ hs fun t ht => ?_)
  dsimp only
  split
  · split
    · exact endSend_memOk _ _ _ _ _ (by simp [State.memOk, ht])
    · simp [State.memOk, ht]
  · simp [State.memOk, ht]

@[simp] theorem execPoolAtomic_memOk (w : Work) (s : State) (hs : s.memOk) : Outcome.memOk (execPoolAtomic w s) := by
  refine tlWork_memOk _ _ _ _ hs fun f t ht => ?_
  dsimp only
  split
  · simp [State.memOk, ht]
  split
  · simp [State.memOk, ht]
  split
  · split
    · simp [State.memOk, ht]
    · simp [State.memOk, atomicAt_memOk _ _ _ _ _ ht]
  split
  · exact ht
  split <;> simp [State.memOk, ht]

/-! #### Discovery -/

@[simp] theorem applyFabIdLost_memOk (s : State) (hs : s.memOk) : (applyFabIdLost s).memOk := by
  unfold applyFabIdLost
  split <;> simp [State.memOk, hs]

@[simp] theorem peerReset_memOk (d : ℕ) (st : ℕ) (s : State) (hs : s.memOk) : (peerReset d st s).memOk := by
  simp [State.memOk, peerReset, hs]

@[simp] theorem applyRecord_memOk (r : Bool × Member) (s : State) (hs : s.memOk) : (applyRecord r s).memOk := by
  simp [State.memOk, applyRecord, hs]

@[simp] theorem applyMembers_memOk (v : ℕ) (recs : List (Bool × Member)) (s : State) (hs : s.memOk) : (applyMembers v recs s).memOk := by
  unfold applyMembers
  rw [State.memOk, State.set_mem, State.set_mem]
  exact foldl_memOk hs (fun t r ht => applyRecord_memOk _ _ ht) _

/-! #### Parse -/

@[simp] theorem spreadTo_memOk (t : ℕ) (slot : ℕ) (p : Pkt) (s : State) (hs : s.memOk) : (spreadTo t slot p s).memOk := by
  simp [State.memOk, spreadTo, hs]

@[simp] theorem execSpreaderDispatch_memOk (s : State) (hs : s.memOk) : Outcome.memOk (execSpreaderDispatch s) := by
  unfold execSpreaderDispatch
  repeat' split
  all_goals simp [State.memOk, hs]

/-! #### StorageAdmin -/

@[simp] theorem adOn_memOk (h' : ℕ) (opcode : ℕ) (act : ℕ → NvCmd → NvCtrl → State → State) (s : State) (hs : s.memOk)
    (hact : ∀ a b c t, t.memOk → (act a b c t).memOk) : Outcome.memOk (adOn h' opcode act s) := by
  refine (Outcome.memOk_next _).2 ?_
  split
  · split
    · split
      · exact hact _ _ _ _ hs
      · exact hs
    · exact hs
  · exact hs

@[simp] theorem execFirmwareImageDownload_memOk (h' : ℕ) (s : State) (hs : s.memOk) : Outcome.memOk (execFirmwareImageDownload h' s) := by
  unfold execFirmwareImageDownload
  refine adOn_memOk _ _ _ _ hs fun slot cmd x t ht => ?_
  rw [← State.canonical_iff] at ht ⊢
  extract_lets e size off start
  split
  · exact ht.keep (nvEnd_but (by decide +kernel) ..)
  split
  · exact ht.keep (nvEnd_but (by decide +kernel) ..)
  · next k _ =>
    have h1 : State.canonical (memWriteList t start (fit (fwBytes e) (cmd.data.drop k))) := memWriteList_memOk _ _ _ ht
    exact h1.keep (nvEnd_but (by decide +kernel) ..)

@[simp] theorem nvsCmd_memOk (op : ℕ) (who : Issuer) (niche : ℕ) (obj : ℕ) (desc : Option (ℕ × ℕ)) (act : State → CmdRes) (s : State)
    (hs : s.memOk) (hact : ∀ t, t.memOk → (act t).memOk) : Outcome.memOk (nvsCmd op who niche obj desc act s) := by
  exact (Outcome.memOk_next _).2 (regGate_memOk _ _ _ _ hs fun t ht => cmdStart_memOk _ _ _ _ _ ht hact)

@[simp] theorem execNsCreate_memOk (who : Issuer) (desc : ℕ) (s : State) (hs : s.memOk) : Outcome.memOk (execNsCreate who desc s) := by
  refine nvsCmd_memOk _ _ _ _ _ _ _ hs fun t ht => ?_
  dsimp only
  iterate 5 (split; (· exact ht))
  split
  · exact ht
  · rw [CmdRes.memOk_done, State.memOk, nsLeave_mem, nsShow_mem, State.updNvs_mem]
    split
    · exact memZero_memOk _ _ _ ht
    · exact ht

/-! #### Work -/

theorem workStop_memOk (f : Flight) (st : ℕ) (s : State) (hs : s.memOk) {r : State} (e : workStop f st s = some r) : r.memOk := by
  unfold workStop at e
  dsimp only at e
  split at e
  · cases e
  split at e
  · cases e; simp [State.memOk, hs]
  split at e
  · exact memOk_of_mem (sendStop_mem _ _ _ e) hs
  split at e
  · cases e; exact turelmAbort_memOk _ _ _ hs
  split at e
  · cases e; exact dmaAbort_memOk _ _ _ hs
  split at e
  · cases e; split <;> simp [State.memOk, hs]
  split at e
  · cases e; simp [State.memOk, hs]
  · cases e

@[simp] theorem workKill_memOk (f : Flight) (st : ℕ) (s : State) (hs : s.memOk) : (workKill f st s).memOk := by
  exact getD_memOk (fun e => workStop_memOk _ _ _ hs e) hs

@[simp] theorem execAbort_memOk (w : Work) (s : State) (hs : s.memOk) : Outcome.memOk (execAbort w s) := by
  refine startWork_memOk _ _ _ _ hs fun f t ht => ?_
  dsimp only
  split
  · rw [State.memOk, finish_mem]
    exact turelmAbortLate_memOk _ _ _ ht
  split
  · next e =>
    rw [State.memOk, finish_mem]
    exact workStop_memOk _ _ _ ht e
  · simp [State.memOk, ht]

@[simp] theorem workData_memOk (seq : ℕ) (data : List Byte) (s : State) (hs : s.memOk) : (workData seq data s).memOk := by
  unfold workData
  split <;> simp [State.memOk, hs]

@[simp] theorem workFail_memOk (seq : ℕ) (st : ℕ) (s : State) (hs : s.memOk) : (workFail seq st s).memOk := by
  unfold workFail
  split <;> simp [State.memOk, hs]

@[simp] theorem readFailed_memOk (t : HostTag) (st : ℕ) (s : State) (hs : s.memOk) : (readFailed t st s).memOk := by
  unfold readFailed
  split <;> simp [State.memOk, hs]

@[simp] theorem execHostReadCompletion_memOk (ap : ℕ) (tag : ℕ) (status : ℕ) (data : List Byte) (s : State) (hs : s.memOk) : Outcome.memOk
    (execHostReadCompletion ap tag status data s) := by
  unfold execHostReadCompletion
  repeat' split
  all_goals simp [State.memOk, hs]

@[simp] theorem execReadTimeout_memOk (ap : ℕ) (tag : ℕ) (s : State) (hs : s.memOk) : Outcome.memOk (execReadTimeout ap tag s) := by
  unfold execReadTimeout
  split <;> simp [State.memOk, hs]

@[simp] theorem applyNicheReset_memOk (n : ℕ) (s : State) (hs : s.memOk) : (applyNicheReset n s).memOk := by
  unfold applyNicheReset
  split
  · exact hs
  split
  · exact hs
  extract_lets s1 mine s2 s3 s4
  have h3 : s3.mem = s2.mem := foldl_mem (fun t p => by split <;> simp) _ _
  have h4 : s4.memOk := by simp [s4, State.memOk, h3, s2, s1, hs]
  rw [State.memOk, nvNicheReset_mem, fabricNicheReset_mem]
  exact turelmNicheReset_memOk _ _ (by simp [State.memOk, h4])

@[simp] theorem execNicheResetDone_memOk (niche : ℕ) (s : State) (hs : s.memOk) : Outcome.memOk (execNicheResetDone niche s) := by
  unfold execNicheResetDone
  split <;> simp [State.memOk, hs]

/-! #### Hosts -/

@[simp] theorem tagsReset_memOk (hit : HostTag → Bool) (s : State) (hs : s.memOk) : (tagsReset hit s).memOk := by
  unfold tagsReset
  refine foldl_memOk (by simp [State.memOk, hs]) (fun t g ht => ?_) _
  split
  · simp [State.memOk, ht]
  · split
    · exact readFailed_memOk _ _ _ ht
    · exact ht
  · exact ht
  · exact readFailed_memOk _ _ _ ht
  · exact readFailed_memOk _ _ _ ht
  · exact readFailed_memOk _ _ _ ht

@[simp] theorem apReset_memOk (kind : ℕ) (ap : ℕ) (s : State) (hs : s.memOk) : (apReset kind ap s).memOk := by
  simp [State.memOk, apReset, hs]

@[simp] theorem execPerstAssert_memOk (ap : ℕ) (s : State) (hs : s.memOk) : Outcome.memOk (execPerstAssert ap s) := by
  simp [State.memOk, execPerstAssert, hs]

@[simp] theorem execHotReset_memOk (ap : ℕ) (s : State) (hs : s.memOk) : Outcome.memOk (execHotReset ap s) := by
  simp [State.memOk, execHotReset, hs]

@[simp] theorem execD3cold_memOk (ap : ℕ) (s : State) (hs : s.memOk) : Outcome.memOk (execD3cold ap s) := by
  simp [State.memOk, execD3cold, hs]

@[simp] theorem linkDown_memOk (ap : ℕ) (s : State) (hs : s.memOk) : (linkDown ap s).memOk := by
  simp [State.memOk, linkDown, hs]

@[simp] theorem execLinkDown_memOk (ap : ℕ) (s : State) (hs : s.memOk) : Outcome.memOk (execLinkDown ap s) := by
  simp [State.memOk, execLinkDown, hs]

@[simp] theorem execApEnWrite_memOk (who : Issuer) (h' : ℕ) (value : ℕ) (s : State) (hs : s.memOk) : Outcome.memOk
    (execApEnWrite who h' value s) := by
  unfold execApEnWrite
  extract_lets off
  rw [Outcome.memOk_next]
  refine setGate_memOk _ _ _ _ hs fun t ht => ?_
  rw [← State.canonical_iff] at ht ⊢
  extract_lets was s1 s2
  have h1 : s1.canonical := ht.keep (State.setsI_but (by simp [notMem, Field.touch]) ..)
  have h2 : s2.canonical := by
    refine foldl_canonical h1 (fun t ap ht => ?_) _
    split
    · exact ht.keep (startTraining_but (by decide +kernel) ..)
    · exact linkDown_memOk _ _ ht
  exact h2.keep (jRegWrite_but (by decide +kernel) ..)

@[simp] theorem execFlr_memOk (ap : ℕ) (rid : ℕ) (s : State) (hs : s.memOk) : Outcome.memOk (execFlr ap rid s) := by
  unfold execFlr
  split <;> simp [State.memOk, hs]

@[simp] theorem setVfEnable_memOk (f : Fn) (on : Bool) (s : State) (hs : s.memOk) : (setVfEnable f on s).memOk := by
  simp [State.memOk, setVfEnable, hs]

@[simp] theorem execConfigRequest_memOk (ap : ℕ) (rid : ℕ) (op : ℕ) (value : ℕ) (s : State) (hs : s.memOk) : Outcome.memOk
    (execConfigRequest ap rid op value s) := by
  unfold execConfigRequest
  repeat' split
  all_goals simp [State.memOk, hs]

@[simp] theorem execCxlMemAccess_memOk (addr : ℕ) (data : List Byte) (write : Bool) (bad : Bool) (s : State) (hs : s.memOk) :
    Outcome.memOk (execCxlMemAccess addr data write bad s) := by
  unfold execCxlMemAccess
  repeat' split
  all_goals simp [State.memOk, hs]

@[simp] theorem cxlMailbox_memOk (op : ℕ) (input : ℕ) (s : State) (hs : s.memOk) : (cxlMailbox op input s).2.2.memOk := by
  rw [← State.canonical_iff] at hs ⊢
  unfold cxlMailbox
  extract_lets n dpa s1
  split
  case h_10 =>
    split
    · exact hs
    · exact (hs.keep (State.updHif_but rfl ..)).keep (poisonShow_but (by decide +kernel) ..)
  case h_11 =>
    split
    · exact hs
    · have h1 : s1.canonical := (hs.keep (State.updHif_but rfl ..)).keep (poisonShow_but (by decide +kernel) ..)
      exact memWriteList_memOk _ _ _ h1
  case h_12 => exact memZero_memOk _ _ _ hs
  case h_3 => exact hs.keep (State.updHif_but rfl ..)
  case h_7 => exact hs.keep (State.updHif_but rfl ..)
  all_goals exact hs

@[simp] theorem execCxlMailboxCommand_memOk (op : ℕ) (input : ℕ) (s : State) (hs : s.memOk) : Outcome.memOk
    (execCxlMailboxCommand op input s) := by
  simp [State.memOk, execCxlMailboxCommand, hs]

@[simp] theorem execCxlReset_memOk (s : State) (hs : s.memOk) : Outcome.memOk (execCxlReset s) := by
  simp [State.memOk, execCxlReset, hs]

/-! #### Effects -/

@[simp] theorem loadImage_memOk (t : ℕ) (s : State) (hs : s.memOk) : (loadImage t s).memOk := by
  unfold loadImage
  dsimp only
  repeat' split
  all_goals simp [State.memOk, hs]

@[simp] theorem unitRejoin_memOk (kind : ℕ) (index : ℕ) (s : State) (hs : s.memOk) : (unitRejoin kind index s).memOk := by
  simp [State.memOk, unitRejoin, hs]

@[simp] theorem unitEndWork_memOk (kind : ℕ) (index : ℕ) (s : State) (hs : s.memOk) : (unitEndWork kind index s).memOk := by
  unfold unitEndWork
  split
  · dsimp only
    split
    · exact hs
    · exact foldl_memOk (by simp [State.memOk, hs]) (fun t f ht => workKill_memOk _ _ _ ht) _
  split
  · simp [State.memOk, hs]
  split
  · simp [State.memOk, hs]
  split
  · simp [State.memOk, hs]
  split <;> simp [State.memOk, hs]

@[simp] theorem unitHeld_memOk (kind : ℕ) (index : ℕ) (s : State) (hs : s.memOk) : (unitHeld kind index s).memOk := by
  simp [State.memOk, unitHeld, hs]

@[simp] theorem abortForRecovery_memOk (s : State) (hs : s.memOk) : (abortForRecovery s).memOk := by
  simp [State.memOk, abortForRecovery, hs]

@[simp] theorem configureBlocks_memOk (was : List ℕ) (s : State) (hs : s.memOk) : (configureBlocks was s).memOk := by
  rw [← State.canonical_iff] at hs ⊢
  unfold configureBlocks
  extract_lets s1 s2 s3 s4 s5 s6 fresh s7 rid s8 s9 s10 s11 s12
  have h1 : s1.canonical := hs.keep (applyRows_but (by decide +kernel) ..)
  have h2 : s2.canonical := h1.keep (foldl_but (fun t i => by split; exacts [rfl, State.setI_but rfl ..]) _ _)
  have h3 : s3.canonical := h2.keep (foldl_but (fun t i => State.setI_but rfl ..) _ _)
  have h4 : s4.canonical := h3.keep (foldl_but (fun t i => State.setsI_but (by simp [notMem, Field.touch]) ..) _ _)
  have h5 : s5.canonical := h4.keep (foldl_but (fun t i => by
    split; exacts [(fnShow_but (by decide +kernel) ..).trans (State.setI_but rfl ..), rfl]) _ _)
  have h6 : s6.canonical := by
    refine foldl_canonical h5 (fun t i ht => ?_) _
    split
    · exact ht
    · exact loadImage_memOk _ _ ht
  have h7 : s7.canonical := h6.keep (State.updNch_but rfl ..)
  have h8 : s8.canonical := h7.keep (setNicheState_but (by decide +kernel) ..)
  have h9 : s9.canonical := h8.keep (State.setsI_but (by simp [notMem, Field.touch]) ..)
  have h10 : s10.canonical := h9.keep (State.set_but rfl ..)
  have h11 : s11.canonical := by
    refine foldl_canonical h10 (fun t i ht => ?_) _
    split
    · exact ht
    · refine foldl_canonical ht (fun t ap ht => ?_) _
      have hl : State.canonical (linkDown ap t) := linkDown_memOk _ _ ht
      exact hl.keep (startTraining_but (by decide +kernel) ..)
  have h12 : s12.canonical := h11.keep (foldl_but (fun t i => by split; exacts [State.emit_but rfl .., rfl]) _ _)
  exact ((h12.keep (admitShow_but (by decide +kernel) ..)).keep (spreadShow_but (by decide +kernel) ..)).keep (standbyShow_but (by decide +kernel) ..)

/-! #### Device -/

@[simp] theorem enterHeld_memOk (kind : ℕ) (index : ℕ) (s : State) (hs : s.memOk) : (enterHeld kind index s).memOk := by
  generalize e : enterHeld = f
  delta enterHeld at e
  subst e
  beta_reduce
  extract_lets k noSubst s1 s2 s3
  have h3 : s3.memOk := unitHeld_memOk _ _ _ (memOk_of_but (State.updSvc_but rfl ..) (memOk_of_but (setUnitState_but (by decide +kernel) ..) hs))
  split
  · exact memOk_of_but (autoSubstitute_but (by decide +kernel) ..) h3
  · exact h3

@[simp] theorem forceHeld_memOk (kind : ℕ) (index : ℕ) (s : State) (hs : s.memOk) : (forceHeld kind index s).memOk := by
  unfold forceHeld
  extract_lets failed s1 s2
  have h1 : s1.memOk := unitEndWork_memOk _ _ _ hs
  refine enterHeld_memOk _ _ _ ?_
  unfold s2
  split
  · exact loadImage_memOk _ _ h1
  · exact h1

@[simp] theorem joinUnit_memOk (kind : ℕ) (index : ℕ) (s : State) (hs : s.memOk) : (joinUnit kind index s).memOk := by
  unfold joinUnit
  dsimp only
  repeat' split
  all_goals simp [State.memOk, hs]

/-! #### Armature -/

@[simp] theorem jobSwitch_memOk (s : State) (hs : s.memOk) : (jobSwitch s).memOk := by
  unfold jobSwitch
  split
  · exact hs
  · rw [State.memOk, foldl_mem (by simp)]
    refine foldl_memOk (by simp [State.memOk, hs]) (fun t k ht => ?_) _
    split
    · exact unitRejoin_memOk _ _ _ (by simp [State.memOk, ht])
    · exact ht

@[simp] theorem jobHold_memOk (s : State) (hs : s.memOk) : (jobHold s).memOk := by
  generalize e : jobHold = f
  delta jobHold at e
  subst e
  beta_reduce
  split
  · exact hs
  · refine memOk_of_but (jobPhase_but (by decide +kernel) ..) (foldl_memOk
      (memOk_of_but (jobPhase_but (by decide +kernel) ..) hs) (fun t k ht => ?_) _)
    split
    · exact enterHeld_memOk _ _ _ ht
    · exact ht

@[simp] theorem bootFrom_memOk (slot : ℕ) (fallback : Bool) (s : State) (hs : s.memOk) : (bootFrom slot fallback s).memOk := by
  unfold bootFrom
  split
  · exact hs
  · rw [State.memOk, State.updStk_mem, enterState_mem, State.updPwr_mem]
    exact configureBlocks_memOk _ _ (by simp [State.memOk, hs])

@[simp] theorem execArmatureBootLoad_memOk (s : State) (hs : s.memOk) : Outcome.memOk (execArmatureBootLoad s) := by
  simp [State.memOk, execArmatureBootLoad, hs]

/-! #### Power -/

@[simp] theorem pwrCmd_memOk (op : ℕ) (who : Issuer) (roles : List Role) (act : State → CmdRes) (s : State) (hs : s.memOk)
    (hact : ∀ t, t.memOk → (act t).memOk) : Outcome.memOk (pwrCmd op who roles act s) := by
  exact (Outcome.memOk_next _).2 (cmdStart_memOk _ _ _ _ _ hs hact)

/-! #### WellFormed -/

@[simp] theorem stepFailures.unitFailed_memOk (kind : ℕ) (index : ℕ) (code : ℕ) (s : State) (hs : s.memOk) :
    (stepFailures.unitFailed kind index code s).memOk := by
  simp [State.memOk, stepFailures.unitFailed, hs]

/-! #### Power -/

@[simp] theorem stepFailures_memOk (failed : List ℕ) (s : State) (hs : s.memOk) : (stepFailures failed s).memOk := by
  exact foldl_memOk hs (fun t k ht => stepFailures.unitFailed_memOk _ _ _ _ ht) _

@[simp] theorem execPowerStep_memOk (regulated : Bool) (failed : List ℕ) (repairs : ℕ) (s : State) (hs : s.memOk) : Outcome.memOk
    (execPowerStep regulated failed repairs s) := by
  simp [State.memOk, execPowerStep, hs]

/-! #### Service -/

@[simp] theorem execSpareSwitch_memOk (stack : ℕ) (s : State) (hs : s.memOk) : Outcome.memOk (execSpareSwitch stack s) := by
  unfold execSpareSwitch
  split <;> simp [State.memOk, hs]

@[simp] theorem enterRecovery_memOk (structure_ : ℕ) (bank : List ℕ) (s : State) (hs : s.memOk) :
    (enterRecovery structure_ bank s).memOk := by
  unfold enterRecovery
  split
  · exact hs
  rw [← State.canonical_iff] at hs ⊢
  extract_lets seq s1 s2 s3 s4 s5 s6
  have h1 : s1.canonical := hs.keep (enterState_but (by decide +kernel) ..)
  have h2 : s2.canonical := h1.keep (jDevice_but (by decide +kernel) ..)
  have h3 : s3.canonical := h2.keep (State.updSvc_but rfl ..)
  have h4 : s4.canonical := h3.keep (State.sets_but (by simp [notMem, Field.touch]) ..)
  have h5 : s5.canonical := h4.keep (jobAbortedState_but (by decide +kernel) ..)
  have h6 : State.canonical (abortForRecovery s5) := abortForRecovery_memOk _ h5
  have h7 : s6.canonical := h6.keep (rebuildStructure_but (by decide +kernel) ..)
  exact h7.keep (raise_but (by decide +kernel) ..)

/-! #### Boundary -/

@[simp] theorem applyChange_memOk (c : Change) (s : State) (hs : s.memOk) : (applyChange c s).memOk := by
  unfold applyChange
  split <;> simp [State.memOk, hs, applyUnit]

@[simp] theorem execDeferredChangeApply_memOk (s : State) (hs : s.memOk) : Outcome.memOk (execDeferredChangeApply s) := by
  refine (Outcome.memOk_next _).2 ?_
  split
  · exact hs
  · dsimp only
    rw [State.memOk, checkReady_mem]
    exact foldl_memOk (by simp [State.memOk, hs]) (fun t d ht => applyChange_memOk _ _ ht) _

/-! #### RegWrite -/

theorem ownWrite_memOk (who : Issuer) (off : ℕ) (v : ℕ) (s : State) (hs : s.memOk) {r : State} (e : ownWrite who off v s = some r) :
    r.memOk := by
  have keep {o : Outcome} {x : State} (ho : Outcome.but notMem o = some (s.but notMem)) (e : some (nextOf o s) = some x) : x.memOk := by
    cases e; exact memOk_of_mem (mem_of_but (nextOf_but ho)) hs
  revert e
  refine of_ite_some (keep (execPhcRateWrite_but (by decide +kernel) ..)) ?_
  refine of_ite_some (keep (execPhcStepWrite_but (by decide +kernel) ..)) ?_
  refine of_ite_some (keep ?_) ?_
  · split
    · exact execRealignArm_but (by decide +kernel) ..
    · exact execRealignDisarm_but (by decide +kernel) ..
  refine of_ite_some (keep (execAlignEstimateWrite_but (by decide +kernel) ..)) ?_
  refine of_ite_some (fun e => Option.some.inj e ▸ nextOf_memOk (execApEnWrite_memOk _ _ _ _ hs) hs) ?_
  refine of_ite_some (keep (execManagerHeartbeat_but (by decide +kernel) ..)) ?_
  refine of_ite_some (keep ?_) ?_
  · split
    · exact execHandover_but (by decide +kernel) ..
    split
    · exact execTakeover_but (by decide +kernel) ..
    · rfl
  refine of_ite_some (keep (execNicheCounterClear_but (by decide +kernel) ..)) ?_
  refine of_ite_some (keep (execNudge_but (by decide +kernel) ..)) ?_
  refine of_ite_some (keep (execCqRelease_but (by decide +kernel) ..)) ?_
  refine of_ite_some (keep (execEqRelease_but (by decide +kernel) ..)) ?_
  refine of_ite_some (keep (execShaperChange_but (by decide +kernel) ..)) ?_
  refine of_ite_some (keep (execPolicerApply_but (by decide +kernel) ..)) ?_
  refine of_ite_some (fun e => Option.some.inj e ▸ memOk_of_mem (fabCfgWrite_mem ..) hs) ?_
  refine of_ite_some (keep (execAdviceAccept_but (by decide +kernel) ..)) ?_
  refine of_ite_some (keep (execJournalAck_but (by decide +kernel) ..)) ?_
  exact fun e => nomatch e

@[simp] theorem regWrite_memOk (who : Issuer) (off : ℕ) (v : ℕ) (s : State) (hs : s.memOk) : (regWrite who off v s).memOk := by
  unfold regWrite
  split
  · next e => exact ownWrite_memOk _ _ _ _ hs e
  refine regGate_memOk _ _ _ _ hs fun t ht => ?_
  split
  · simp [State.memOk, ht]
  split <;> simp [State.memOk, ht]

@[simp] theorem mctpWrite_memOk (who : Issuer) (off : ℕ) (v : ℕ) (s : State) (hs : s.memOk) : (mctpWrite who off v s).memOk := by
  simp [State.memOk, mctpWrite, hs]

@[simp] theorem execRegisterWrite_memOk (who : Issuer) (offset : ℕ) (value : ℕ) (s : State) (hs : s.memOk) : Outcome.memOk
    (execRegisterWrite who offset value s) := by
  simp [State.memOk, execRegisterWrite, hs]

@[simp] theorem execSatClear_memOk (who : Issuer) (offset : ℕ) (s : State) (hs : s.memOk) : Outcome.memOk (execSatClear who offset s) := by
  simp [State.memOk, execSatClear, hs]

@[simp] theorem regAccess_memOk (p : TlPkt) (s : State) (hs : s.memOk) : (regAccess p s).2.2.memOk := by
  simp [State.memOk, regAccess, hs]

@[simp] theorem execRegAccess_memOk (p : TlPkt) (s : State) (hs : s.memOk) : Outcome.memOk (execRegAccess p s) := by
  refine (Outcome.memOk_next _).2 (rxIntro_memOk _ _ _ hs fun t ht => ?_)
  dsimp only
  split
  · simp [State.memOk, ht]
  · simp [State.memOk, ht]
  · split
    · split <;> simp [State.memOk, ht]
    · simp [State.memOk, ht]
  · simp [State.memOk, regAccess_memOk _ _ ht]

/-! #### Supply loss and restart -/

theorem loseMain_mem (s : State) : (loseMain s).mem = [] := by
  unfold loseMain
  rw [State.sets_mem]
  rfl

@[simp] theorem restartBlocks_mem (s : State) : (restartBlocks s).mem = s.mem := by
  have hd := closeDebug_mem s
  unfold restartBlocks
  generalize closeDebug s = c at hd ⊢
  dsimp only
  split
  · simp [hd]
  · simp [hd]

theorem execAuxPowerLost_memOk (s : State) : Outcome.memOk (execAuxPowerLost s) := by
  have hl := loseMain_mem s
  unfold execAuxPowerLost
  generalize loseMain s = c at hl ⊢
  rw [Outcome.memOk_next]
  simp [State.memOk, hl, Memory.wf_nil]

theorem execMainPgDeasserted_memOk (s : State) (hs : s.memOk) : Outcome.memOk (execMainPgDeasserted s) := by
  unfold execMainPgDeasserted
  rw [Outcome.memOk_next]
  split
  · simp [State.memOk, hs]
  · simp [State.memOk, loseMain_mem, Memory.wf_nil]

theorem execRestart_memOk (who : Issuer) (s : State) (hs : s.memOk) : Outcome.memOk (execRestart who s) := by
  refine pwrCmd_memOk _ _ _ _ _ hs fun t ht => ?_
  split
  · simp [State.memOk, ht]
  · exact ht

/-- What a command that leaves device memory alone answers. -/
theorem Outcome.memOk_of_but {o : Outcome} {s : State} (h : Outcome.but notMem o = some (s.but notMem)) (hs : s.memOk) : Outcome.memOk o :=
  fun _ e => Machine.memOk_of_but (but_of_next h e) hs

/-- R16: every command keeps device memory in its canonical form; the commands that may store have lemmas of their own, the others leave
memory alone. -/
theorem exec_memOk (c : Instr) (s : State) (hs : s.memOk) : Outcome.memOk (exec c s) := by
  cases c with
  | auxPowerPresent => exact Outcome.memOk_of_but (execAuxPowerPresent_but (by decide +kernel) s) hs
  | auxPowerLost => exact execAuxPowerLost_memOk s
  | strapSample autoOn mgmtAddr rgmiiEn flashMode test =>
    exact Outcome.memOk_of_but (execStrapSample_but (by decide +kernel) autoOn mgmtAddr rgmiiEn flashMode test s) hs
  | powerOn eid hot => exact Outcome.memOk_of_but (execPowerOn_but (by decide +kernel) eid hot s) hs
  | mainPgAsserted => exact Outcome.memOk_of_but (execMainPgAsserted_but (by decide +kernel) s) hs
  | mainPgTimeout => exact Outcome.memOk_of_but (execMainPgTimeout_but (by decide +kernel) s) hs
  | mainPgDeasserted => exact execMainPgDeasserted_memOk s hs
  | powerStepB2 => exact Outcome.memOk_of_but (execPowerStepB2_but (by decide +kernel) s) hs
  | armatureBootLoad => exact execArmatureBootLoad_memOk s hs
  | powerStep regulated failed repairs => exact execPowerStep_memOk regulated failed repairs s hs
  | powerStepWaitExceeded => exact Outcome.memOk_of_but (execPowerStepWaitExceeded_but (by decide +kernel) s) hs
  | enterService who => exact Outcome.memOk_of_but (execEnterService_but (by decide +kernel) who s) hs
  | testEnter who => exact Outcome.memOk_of_but (execTestEnter_but (by decide +kernel) who s) hs
  | testExit who => exact Outcome.memOk_of_but (execTestExit_but (by decide +kernel) who s) hs
  | standby who => exact Outcome.memOk_of_but (execStandby_but (by decide +kernel) who s) hs
  | wake who => exact Outcome.memOk_of_but (execWake_but (by decide +kernel) who s) hs
  | powerOff who => exact Outcome.memOk_of_but (execPowerOff_but (by decide +kernel) who s) hs
  | powerOffMainEnDrop => exact Outcome.memOk_of_but (execPowerOffMainEnDrop_but (by decide +kernel) s) hs
  | safe who => exact Outcome.memOk_of_but (execSafe_but (by decide +kernel) who s) hs
  | restart who => exact execRestart_memOk who s hs
  | safeEntry cause => exact Outcome.memOk_of_but (execSafeEntry_but (by decide +kernel) cause s) hs
  | tCritReached sensor hot => exact Outcome.memOk_of_but (execTCritReached_but (by decide +kernel) sensor hot s) hs
  | capOverDetected => exact Outcome.memOk_of_but (execCapOverDetected_but (by decide +kernel) s) hs
  | thermtrip sensor => exact Outcome.memOk_of_but (execThermtrip_but (by decide +kernel) sensor s) hs
  | strokeBoundary env => exact Outcome.memOk_of_but (execStrokeBoundary_but (by decide +kernel) env s) hs
  | deferredChangeApply => exact execDeferredChangeApply_memOk s hs
  | threadOverrun hart missed => exact Outcome.memOk_of_but (execThreadOverrun_but (by decide +kernel) hart missed s) hs
  | hwUnitOverrun kind index => exact Outcome.memOk_of_but (execHwUnitOverrun_but (by decide +kernel) kind index s) hs
  | phcStepWrite who ns => exact Outcome.memOk_of_but (execPhcStepWrite_but (by decide +kernel) who ns s) hs
  | stepLatch => exact Outcome.memOk_of_but (execStepLatch_but (by decide +kernel) s) hs
  | slewDone => exact Outcome.memOk_of_but (execSlewDone_but (by decide +kernel) s) hs
  | phcRateWrite who rate => exact Outcome.memOk_of_but (execPhcRateWrite_but (by decide +kernel) who rate s) hs
  | realignArm who atStroke => exact Outcome.memOk_of_but (execRealignArm_but (by decide +kernel) who atStroke s) hs
  | realignDisarm who atStroke => exact Outcome.memOk_of_but (execRealignDisarm_but (by decide +kernel) who atStroke s) hs
  | realignTarget => exact Outcome.memOk_of_but (execRealignTarget_but (by decide +kernel) s) hs
  | alignEstimateWrite who offset => exact Outcome.memOk_of_but (execAlignEstimateWrite_but (by decide +kernel) who offset s) hs
  | alignHoldover => exact Outcome.memOk_of_but (execAlignHoldover_but (by decide +kernel) s) hs
  | phcSecRead who ns frac => exact Outcome.memOk_of_but (execPhcSecRead_but (by decide +kernel) who ns frac s) hs
  | txtsInfoRead who mac => exact Outcome.memOk_of_but (execTxtsInfoRead_but (by decide +kernel) who mac s) hs
  | ppsInEdge ns sub => exact Outcome.memOk_of_but (execPpsInEdge_but (by decide +kernel) ns sub s) hs
  | ppsInTsRead who => exact Outcome.memOk_of_but (execPpsInTsRead_but (by decide +kernel) who s) hs
  | ppsOutPulse assert => exact Outcome.memOk_of_but (execPpsOutPulse_but (by decide +kernel) assert s) hs
  | clk10mLock => exact Outcome.memOk_of_but (execClk10mLock_but (by decide +kernel) s) hs
  | clk10mLockLoss => exact Outcome.memOk_of_but (execClk10mLockLoss_but (by decide +kernel) s) hs
  | todMessage msg ms => exact Outcome.memOk_of_but (execTodMessage_but (by decide +kernel) msg ms s) hs
  | stage who image token flashOk => exact Outcome.memOk_of_but (execStage_but (by decide +kernel) who image token flashOk s) hs
  | maquette who => exact Outcome.memOk_of_but (execMaquette_but (by decide +kernel) who s) hs
  | maquetteReportDone findings warnings report =>
    exact Outcome.memOk_of_but (execMaquetteReportDone_but (by decide +kernel) findings warnings report s) hs
  | partialImage who => exact Outcome.memOk_of_but (execPartialImage_but (by decide +kernel) who s) hs
  | jobCheckDone => exact Outcome.memOk_of_but (execJobCheckDone_but (by decide +kernel) s) hs
  | jobDrainDone => exact Outcome.memOk_of_but (execJobDrainDone_but (by decide +kernel) s) hs
  | jobDrainTimeout => exact Outcome.memOk_of_but (execJobDrainTimeout_but (by decide +kernel) s) hs
  | jobApplyDone pass => exact Outcome.memOk_of_but (execJobApplyDone_but (by decide +kernel) pass s) hs
  | jobRampDone => exact Outcome.memOk_of_but (execJobRampDone_but (by decide +kernel) s) hs
  | armJobRead who => exact Outcome.memOk_of_but (execArmJobRead_but (by decide +kernel) who s) hs
  | persist who flashOk => exact Outcome.memOk_of_but (execPersist_but (by decide +kernel) who flashOk s) hs
  | flashWrite who flashOk => exact Outcome.memOk_of_but (execFlashWrite_but (by decide +kernel) who flashOk s) hs
  | activate who arg flashOk => exact Outcome.memOk_of_but (execActivate_but (by decide +kernel) who arg flashOk s) hs
  | cancel who => exact Outcome.memOk_of_but (execCancel_but (by decide +kernel) who s) hs
  | commandUndefinedOp who offset op => exact Outcome.memOk_of_but (execCommandUndefinedOp_but (by decide +kernel) who offset op s) hs
  | tokenConsumeStep who => exact Outcome.memOk_of_but (execTokenConsumeStep_but (by decide +kernel) who s) hs
  | ownershipTransfer who => exact Outcome.memOk_of_but (execOwnershipTransfer_but (by decide +kernel) who s) hs
  | debugUnlock who => exact Outcome.memOk_of_but (execDebugUnlock_but (by decide +kernel) who s) hs
  | tallyGrant who => exact Outcome.memOk_of_but (execTallyGrant_but (by decide +kernel) who s) hs
  | debugUnlockExpiry => exact Outcome.memOk_of_but (execDebugUnlockExpiry_but (by decide +kernel) s) hs
  | perstAssert ap => exact execPerstAssert_memOk ap s hs
  | perstDeassert ap => exact Outcome.memOk_of_but (execPerstDeassert_but (by decide +kernel) ap s) hs
  | hotReset ap => exact execHotReset_memOk ap s hs
  | linkUp ap speed width flit => exact Outcome.memOk_of_but (execLinkUp_but (by decide +kernel) ap speed width flit s) hs
  | linkDown ap => exact execLinkDown_memOk ap s hs
  | apEnWrite who h value => exact execApEnWrite_memOk who h value s hs
  | configRequest ap rid op value => exact execConfigRequest_memOk ap rid op value s hs
  | flr ap rid => exact execFlr_memOk ap rid s hs
  | flrComplete ap rid => exact Outcome.memOk_of_but (execFlrComplete_but (by decide +kernel) ap rid s) hs
  | dstateChange ap rid dstate => exact Outcome.memOk_of_but (execDstateChange_but (by decide +kernel) ap rid dstate s) hs
  | d3cold ap => exact execD3cold_memOk ap s hs
  | hostReadCompletion ap tag status data => exact execHostReadCompletion_memOk ap tag status data s hs
  | readTimeout ap tag => exact execReadTimeout_memOk ap tag s hs
  | tagQuarantineEnd ap tag => exact Outcome.memOk_of_but (execTagQuarantineEnd_but (by decide +kernel) ap tag s) hs
  | ideKeyProgram ap index pf link => exact Outcome.memOk_of_but (execIdeKeyProgram_but (by decide +kernel) ap index pf link s) hs
  | ideCheckFailed ap index link => exact Outcome.memOk_of_but (execIdeCheckFailed_but (by decide +kernel) ap index link s) hs
  | tdispRequest ap rid msg => exact Outcome.memOk_of_but (execTdispRequest_but (by decide +kernel) ap rid msg s) hs
  | tdiError ap rid => exact Outcome.memOk_of_but (execTdiError_but (by decide +kernel) ap rid s) hs
  | atsInvalidation ap rid pasid addr len => exact Outcome.memOk_of_but (execAtsInvalidation_but (by decide +kernel) ap rid pasid addr len s) hs
  | managerHeartbeat who => exact Outcome.memOk_of_but (execManagerHeartbeat_but (by decide +kernel) who s) hs
  | managerHeartbeatTimeout => exact Outcome.memOk_of_but (execManagerHeartbeatTimeout_but (by decide +kernel) s) hs
  | handover who both => exact Outcome.memOk_of_but (execHandover_but (by decide +kernel) who both s) hs
  | takeover who => exact Outcome.memOk_of_but (execTakeover_but (by decide +kernel) who s) hs
  | managerRoleMove => exact Outcome.memOk_of_but (execManagerRoleMove_but (by decide +kernel) s) hs
  | standbyReady ap pf => exact Outcome.memOk_of_but (execStandbyReady_but (by decide +kernel) ap pf s) hs
  | cxlMemAccess addr data write bad => exact execCxlMemAccess_memOk addr data write bad s hs
  | hdmCommit decoder base size ways gran commit =>
    exact Outcome.memOk_of_but (execHdmCommit_but (by decide +kernel) decoder base size ways gran commit s) hs
  | cxlMailboxCommand op input => exact execCxlMailboxCommand_memOk op input s hs
  | cxlReset => exact execCxlReset_memOk s hs
  | invalidAccess a write => exact Outcome.memOk_of_but (execInvalidAccess_but (by decide +kernel) a write s) hs
  | registerWrite who offset value => exact execRegisterWrite_memOk who offset value s hs
  | satClear who offset => exact execSatClear_memOk who offset s hs
  | counterLowRead who offset => exact Outcome.memOk_of_but (execCounterLowRead_but (by decide +kernel) who offset s) hs
  | create who desc => exact Outcome.memOk_of_but (execCreate_but (by decide +kernel) who desc s) hs
  | bind who => exact Outcome.memOk_of_but (execBind_but (by decide +kernel) who s) hs
  | unbind who => exact Outcome.memOk_of_but (execUnbind_but (by decide +kernel) who s) hs
  | quiesce who => exact Outcome.memOk_of_but (execQuiesce_but (by decide +kernel) who s) hs
  | nicheQuiesced niche => exact Outcome.memOk_of_but (execNicheQuiesced_but (by decide +kernel) niche s) hs
  | resume who => exact Outcome.memOk_of_but (execResume_but (by decide +kernel) who s) hs
  | reset who => exact Outcome.memOk_of_but (execReset_but (by decide +kernel) who s) hs
  | nicheResetDone niche => exact execNicheResetDone_memOk niche s hs
  | destroy who => exact Outcome.memOk_of_but (execDestroy_but (by decide +kernel) who s) hs
  | teardownDone niche => exact Outcome.memOk_of_but (execTeardownDone_but (by decide +kernel) niche s) hs
  | spoofWrite who entry => exact Outcome.memOk_of_but (execSpoofWrite_but (by decide +kernel) who entry s) hs
  | spoofMode who => exact Outcome.memOk_of_but (execSpoofMode_but (by decide +kernel) who s) hs
  | wakeSet who => exact Outcome.memOk_of_but (execWakeSet_but (by decide +kernel) who s) hs
  | logStart who block => exact Outcome.memOk_of_but (execLogStart_but (by decide +kernel) who block s) hs
  | harvest who => exact Outcome.memOk_of_but (execHarvest_but (by decide +kernel) who s) hs
  | harvestCopyDone => exact Outcome.memOk_of_but (execHarvestCopyDone_but (by decide +kernel) s) hs
  | logStop who => exact Outcome.memOk_of_but (execLogStop_but (by decide +kernel) who s) hs
  | nicheCounterClear who value => exact Outcome.memOk_of_but (execNicheCounterClear_but (by decide +kernel) who value s) hs
  | rngCreate who desc => exact Outcome.memOk_of_but (execRngCreate_but (by decide +kernel) who desc s) hs
  | rngEnable who => exact Outcome.memOk_of_but (execRngEnable_but (by decide +kernel) who s) hs
  | rngDisable who => exact Outcome.memOk_of_but (execRngDisable_but (by decide +kernel) who s) hs
  | rngDestroy who => exact Outcome.memOk_of_but (execRngDestroy_but (by decide +kernel) who s) hs
  | ringCreate w desc => exact Outcome.memOk_of_but (execRingCreate_but (by decide +kernel) w desc s) hs
  | ringEnable w => exact Outcome.memOk_of_but (execRingEnable_but (by decide +kernel) w s) hs
  | ringDisable w => exact Outcome.memOk_of_but (execRingDisable_but (by decide +kernel) w s) hs
  | ringDestroy w => exact Outcome.memOk_of_but (execRingDestroy_but (by decide +kernel) w s) hs
  | ringIdle ring => exact Outcome.memOk_of_but (execRingIdle_but (by decide +kernel) ring s) hs
  | ringPoll h => exact Outcome.memOk_of_but (execRingPoll_but (by decide +kernel) h s) hs
  | ringPollData ring entries => exact Outcome.memOk_of_but (execRingPollData_but (by decide +kernel) ring entries s) hs
  | nudge who niche ring => exact Outcome.memOk_of_but (execNudge_but (by decide +kernel) who niche ring s) hs
  | residentRingWrite who off data => exact Outcome.memOk_of_but (execResidentRingWrite_but (by decide +kernel) who off data s) hs
  | residentIntake => exact Outcome.memOk_of_but (execResidentIntake_but (by decide +kernel) s) hs
  | cqRelease who niche ring count arm => exact Outcome.memOk_of_but (execCqRelease_but (by decide +kernel) who niche ring count arm s) hs
  | eqRelease who niche ring count arm => exact Outcome.memOk_of_but (execEqRelease_but (by decide +kernel) who niche ring count arm s) hs
  | cqRestart ring => exact Outcome.memOk_of_but (execCqRestart_but (by decide +kernel) ring s) hs
  | eventMsixSend ring => exact Outcome.memOk_of_but (execEventMsixSend_but (by decide +kernel) ring s) hs
  | nop w => exact Outcome.memOk_of_but (execNop_but (by decide +kernel) w s) hs
  | send w => exact Outcome.memOk_of_but (execSend_but (by decide +kernel) w s) hs
  | recvPost w => exact Outcome.memOk_of_but (execRecvPost_but (by decide +kernel) w s) hs
  | abort w => exact execAbort_memOk w s hs
  | copy w => exact Outcome.memOk_of_but (execCopy_but (by decide +kernel) w s) hs
  | fill w => exact Outcome.memOk_of_but (execFill_but (by decide +kernel) w s) hs
  | list w elements => exact Outcome.memOk_of_but (execList_but (by decide +kernel) w elements s) hs
  | dmaChannelStart prio => exact Outcome.memOk_of_but (execDmaChannelStart_but (by decide +kernel) prio s) hs
  | dmaHalfPoint chan => exact execDmaHalfPoint_memOk chan s hs
  | dmaPassEnd chan => exact execDmaPassEnd_memOk chan s hs
  | tcWait hart => exact Outcome.memOk_of_but (execTcWait_but (by decide +kernel) hart s) hs
  | threadWake hart => exact Outcome.memOk_of_but (execThreadWake_but (by decide +kernel) hart s) hs
  | timerEvent hart ns => exact Outcome.memOk_of_but (execTimerEvent_but (by decide +kernel) hart ns s) hs
  | tcBind hart value => exact Outcome.memOk_of_but (execTcBind_but (by decide +kernel) hart value s) hs
  | tcStrokeDone hart cycles => exact Outcome.memOk_of_but (execTcStrokeDone_but (by decide +kernel) hart cycles s) hs
  | tcChCommit hart value => exact Outcome.memOk_of_but (execTcChCommit_but (by decide +kernel) hart value s) hs
  | chCommitUnblock chan => exact Outcome.memOk_of_but (execChCommitUnblock_but (by decide +kernel) chan s) hs
  | tcChDiscard hart => exact Outcome.memOk_of_but (execTcChDiscard_but (by decide +kernel) hart s) hs
  | tcTake hart ch => exact Outcome.memOk_of_but (execTcTake_but (by decide +kernel) hart ch s) hs
  | tcItemDone hart value => exact Outcome.memOk_of_but (execTcItemDone_but (by decide +kernel) hart value s) hs
  | tcDmaSubmit hart value => exact Outcome.memOk_of_but (execTcDmaSubmit_but (by decide +kernel) hart value s) hs
  | supInject hart mask => exact Outcome.memOk_of_but (execSupInject_but (by decide +kernel) hart mask s) hs
  | supKill hart mask => exact Outcome.memOk_of_but (execSupKill_but (by decide +kernel) hart mask s) hs
  | supStart hart mask => exact Outcome.memOk_of_but (execSupStart_but (by decide +kernel) hart mask s) hs
  | supRestart hart group => exact Outcome.memOk_of_but (execSupRestart_but (by decide +kernel) hart group s) hs
  | supDrainDone hart => exact Outcome.memOk_of_but (execSupDrainDone_but (by decide +kernel) hart s) hs
  | threadFault hart mcause mepc mtval => exact Outcome.memOk_of_but (execThreadFault_but (by decide +kernel) hart mcause mepc mtval s) hs
  | supervisorFault hart mcause => exact Outcome.memOk_of_but (execSupervisorFault_but (by decide +kernel) hart mcause s) hs
  | waitCycleReport tile group => exact Outcome.memOk_of_but (execWaitCycleReport_but (by decide +kernel) tile group s) hs
  | waitGroupRestart tile group => exact Outcome.memOk_of_but (execWaitGroupRestart_but (by decide +kernel) tile group s) hs
  | debugAccess hart kind addr value => exact execDebugAccess_memOk hart kind addr value s hs
  | debugHalt hart => exact Outcome.memOk_of_but (execDebugHalt_but (by decide +kernel) hart s) hs
  | debugResume hart => exact Outcome.memOk_of_but (execDebugResume_but (by decide +kernel) hart s) hs
  | tileDebugHold tile => exact Outcome.memOk_of_but (execTileDebugHold_but (by decide +kernel) tile s) hs
  | tileDebugRelease tile => exact Outcome.memOk_of_but (execTileDebugRelease_but (by decide +kernel) tile s) hs
  | stagedDiscard hart => exact Outcome.memOk_of_but (execStagedDiscard_but (by decide +kernel) hart s) hs
  | frameReceive mac data ns sub => exact Outcome.memOk_of_but (execFrameReceive_but (by decide +kernel) mac data ns sub s) hs
  | parseFrame id engine vec => exact Outcome.memOk_of_but (execParseFrame_but (by decide +kernel) id engine vec s) hs
  | pipelineEntry id park => exact Outcome.memOk_of_but (execPipelineEntry_but (by decide +kernel) id park s) hs
  | parkLookupReturn id park => exact Outcome.memOk_of_but (execParkLookupReturn_but (by decide +kernel) id park s) hs
  | residencyTimeout id => exact Outcome.memOk_of_but (execResidencyTimeout_but (by decide +kernel) id s) hs
  | pipelineExit id patch => exact Outcome.memOk_of_but (execPipelineExit_but (by decide +kernel) id patch s) hs
  | spreaderDispatch => exact execSpreaderDispatch_memOk s hs
  | reorderSkip domain => exact Outcome.memOk_of_but (execReorderSkip_but (by decide +kernel) domain s) hs
  | groupDefine who desc => exact Outcome.memOk_of_but (execGroupDefine_but (by decide +kernel) who desc s) hs
  | ruleWrite who desc => exact Outcome.memOk_of_but (execRuleWrite_but (by decide +kernel) who desc s) hs
  | ruleDelete who desc => exact Outcome.memOk_of_but (execRuleDelete_but (by decide +kernel) who desc s) hs
  | actionWrite who entry => exact Outcome.memOk_of_but (execActionWrite_but (by decide +kernel) who entry s) hs
  | templateWrite who template => exact Outcome.memOk_of_but (execTemplateWrite_but (by decide +kernel) who template s) hs
  | counterClear who => exact Outcome.memOk_of_but (execCounterClear_but (by decide +kernel) who s) hs
  | defaultAction who => exact Outcome.memOk_of_but (execDefaultAction_but (by decide +kernel) who s) hs
  | verCommit who => exact Outcome.memOk_of_but (execVerCommit_but (by decide +kernel) who s) hs
  | verAbort who => exact Outcome.memOk_of_but (execVerAbort_but (by decide +kernel) who s) hs
  | versionSwitch => exact Outcome.memOk_of_but (execVersionSwitch_but (by decide +kernel) s) hs
  | versionRetire => exact Outcome.memOk_of_but (execVersionRetire_but (by decide +kernel) s) hs
  | insert who desc => exact Outcome.memOk_of_but (execInsert_but (by decide +kernel) who desc s) hs
  | delete who desc => exact Outcome.memOk_of_but (execDelete_but (by decide +kernel) who desc s) hs
  | query who desc => exact Outcome.memOk_of_but (execQuery_but (by decide +kernel) who desc s) hs
  | pfxInsert who desc => exact Outcome.memOk_of_but (execPfxInsert_but (by decide +kernel) who desc s) hs
  | pfxDelete who desc => exact Outcome.memOk_of_but (execPfxDelete_but (by decide +kernel) who desc s) hs
  | l2Flush who => exact Outcome.memOk_of_but (execL2Flush_but (by decide +kernel) who s) hs
  | rehashStart who => exact Outcome.memOk_of_but (execRehashStart_but (by decide +kernel) who s) hs
  | rehashCopyDone => exact Outcome.memOk_of_but (execRehashCopyDone_but (by decide +kernel) s) hs
  | rehashSwitch who => exact Outcome.memOk_of_but (execRehashSwitch_but (by decide +kernel) who s) hs
  | rehashSwitchEnd => exact Outcome.memOk_of_but (execRehashSwitchEnd_but (by decide +kernel) s) hs
  | rehashAbort who => exact Outcome.memOk_of_but (execRehashAbort_but (by decide +kernel) who s) hs
  | rehashStateRead who => exact Outcome.memOk_of_but (execRehashStateRead_but (by decide +kernel) who s) hs
  | flowInsert w desc => exact Outcome.memOk_of_but (execFlowInsert_but (by decide +kernel) w desc s) hs
  | flowDelete w desc => exact Outcome.memOk_of_but (execFlowDelete_but (by decide +kernel) w desc s) hs
  | flowQuery w desc => exact Outcome.memOk_of_but (execFlowQuery_but (by decide +kernel) w desc s) hs
  | l2Learn table => exact Outcome.memOk_of_but (execL2Learn_but (by decide +kernel) table s) hs
  | l2Move table => exact Outcome.memOk_of_but (execL2Move_but (by decide +kernel) table s) hs
  | moveFlagClear table place => exact Outcome.memOk_of_but (execMoveFlagClear_but (by decide +kernel) table place s) hs
  | agingSweep table => exact Outcome.memOk_of_but (execAgingSweep_but (by decide +kernel) table s) hs
  | queueBind who => exact Outcome.memOk_of_but (execQueueBind_but (by decide +kernel) who s) hs
  | queueUnbind who => exact Outcome.memOk_of_but (execQueueUnbind_but (by decide +kernel) who s) hs
  | policerBind who => exact Outcome.memOk_of_but (execPolicerBind_but (by decide +kernel) who s) hs
  | policerUnbind who => exact Outcome.memOk_of_but (execPolicerUnbind_but (by decide +kernel) who s) hs
  | gclSet who gcl => exact Outcome.memOk_of_but (execGclSet_but (by decide +kernel) who gcl s) hs
  | gclCancel who => exact Outcome.memOk_of_but (execGclCancel_but (by decide +kernel) who s) hs
  | gclSwitch port => exact Outcome.memOk_of_but (execGclSwitch_but (by decide +kernel) port s) hs
  | shaperChange who value => exact Outcome.memOk_of_but (execShaperChange_but (by decide +kernel) who value s) hs
  | policerApply who mode => exact Outcome.memOk_of_but (execPolicerApply_but (by decide +kernel) who mode s) hs
  | transmitListBuild port => exact Outcome.memOk_of_but (execTransmitListBuild_but (by decide +kernel) port s) hs
  | frameTransmit port sub => exact Outcome.memOk_of_but (execFrameTransmit_but (by decide +kernel) port sub s) hs
  | tlWrite w => exact Outcome.memOk_of_but (execTlWrite_but (by decide +kernel) w s) hs
  | tlWriteImm w => exact Outcome.memOk_of_but (execTlWriteImm_but (by decide +kernel) w s) hs
  | tlSend w => exact Outcome.memOk_of_but (execTlSend_but (by decide +kernel) w s) hs
  | tlRead w => exact Outcome.memOk_of_but (execTlRead_but (by decide +kernel) w s) hs
  | tlAtomic w => exact Outcome.memOk_of_but (execTlAtomic_but (by decide +kernel) w s) hs
  | tlFlush w => exact Outcome.memOk_of_but (execTlFlush_but (by decide +kernel) w s) hs
  | tlRecv w => exact Outcome.memOk_of_but (execTlRecv_but (by decide +kernel) w s) hs
  | epOpen w => exact Outcome.memOk_of_but (execEpOpen_but (by decide +kernel) w s) hs
  | epClose w => exact Outcome.memOk_of_but (execEpClose_but (by decide +kernel) w s) hs
  | epHoldExpiry ep => exact Outcome.memOk_of_but (execEpHoldExpiry_but (by decide +kernel) ep s) hs
  | winOpen w => exact Outcome.memOk_of_but (execWinOpen_but (by decide +kernel) w s) hs
  | winRewrite w => exact Outcome.memOk_of_but (execWinRewrite_but (by decide +kernel) w s) hs
  | winRevoke w => exact Outcome.memOk_of_but (execWinRevoke_but (by decide +kernel) w s) hs
  | revokeFence index => exact Outcome.memOk_of_but (execRevokeFence_but (by decide +kernel) index s) hs
  | wrapHoldExpiry index => exact Outcome.memOk_of_but (execWrapHoldExpiry_but (by decide +kernel) index s) hs
  | pdAlloc w => exact Outcome.memOk_of_but (execPdAlloc_but (by decide +kernel) w s) hs
  | pdFree w => exact Outcome.memOk_of_but (execPdFree_but (by decide +kernel) w s) hs
  | wireDataReceive p => exact execWireDataReceive_memOk p s hs
  | wireReadReqReceive p => exact execWireReadReqReceive_memOk p s hs
  | wireReadRespReceive p => exact execWireReadRespReceive_memOk p s hs
  | wireAtomicReceive p => exact execWireAtomicReceive_memOk p s hs
  | wireAtomicRespReceive p => exact execWireAtomicRespReceive_memOk p s hs
  | wireFlushReceive p => exact execWireFlushReceive_memOk p s hs
  | flushVisibilityDone peer msg => exact Outcome.memOk_of_but (execFlushVisibilityDone_but (by decide +kernel) peer msg s) hs
  | wireFlushAckReceive p => exact execWireFlushAckReceive_memOk p s hs
  | wireAckReceive p => exact execWireAckReceive_memOk p s hs
  | wireNakReceive p => exact execWireNakReceive_memOk p s hs
  | wireAbandonReceive p => exact execWireAbandonReceive_memOk p s hs
  | deferredAck peer msg => exact Outcome.memOk_of_but (execDeferredAck_but (by decide +kernel) peer msg s) hs
  | orderedCompletionRelease peer msg => exact Outcome.memOk_of_but (execOrderedCompletionRelease_but (by decide +kernel) peer msg s) hs
  | messageTimeout peer msg => exact execMessageTimeout_memOk peer msg s hs
  | busyBackoffExpiry peer msg chunk => exact Outcome.memOk_of_but (execBusyBackoffExpiry_but (by decide +kernel) peer msg chunk s) hs
  | contextRecallDone ep status => exact execContextRecallDone_memOk ep status s hs
  | nvmeSqDoorbell ctrl qid value => exact Outcome.memOk_of_but (execNvmeSqDoorbell_but (by decide +kernel) ctrl qid value s) hs
  | nvmeCqDoorbell ctrl qid value => exact Outcome.memOk_of_but (execNvmeCqDoorbell_but (by decide +kernel) ctrl qid value s) hs
  | nvmeFetch => exact Outcome.memOk_of_but (execNvmeFetch_but (by decide +kernel) s) hs
  | nvmeCommandForward ctrl sqid => exact Outcome.memOk_of_but (execNvmeCommandForward_but (by decide +kernel) ctrl sqid s) hs
  | nvmeRead h bad => exact Outcome.memOk_of_but (execNvmeRead_but (by decide +kernel) h bad s) hs
  | nvmeWrite h => exact execNvmeWrite_memOk h s hs
  | compare h bad => exact Outcome.memOk_of_but (execCompare_but (by decide +kernel) h bad s) hs
  | writeZeroes h => exact execWriteZeroes_memOk h s hs
  | datasetManagement h => exact execDatasetManagement_memOk h s hs
  | verify h bad => exact Outcome.memOk_of_but (execVerify_but (by decide +kernel) h bad s) hs
  | nvmeFlush h => exact Outcome.memOk_of_but (execNvmeFlush_but (by decide +kernel) h s) hs
  | nvsData w => exact execNvsData_memOk w s hs
  | nvsComplete w => exact Outcome.memOk_of_but (execNvsComplete_but (by decide +kernel) w s) hs
  | createIoSq h => exact Outcome.memOk_of_but (execCreateIoSq_but (by decide +kernel) h s) hs
  | deleteIoSq h => exact Outcome.memOk_of_but (execDeleteIoSq_but (by decide +kernel) h s) hs
  | createIoCq h => exact Outcome.memOk_of_but (execCreateIoCq_but (by decide +kernel) h s) hs
  | deleteIoCq h => exact Outcome.memOk_of_but (execDeleteIoCq_but (by decide +kernel) h s) hs
  | identify h => exact Outcome.memOk_of_but (execIdentify_but (by decide +kernel) h s) hs
  | getLogPage h => exact Outcome.memOk_of_but (execGetLogPage_but (by decide +kernel) h s) hs
  | setFeatures h => exact Outcome.memOk_of_but (execSetFeatures_but (by decide +kernel) h s) hs
  | getFeatures h => exact Outcome.memOk_of_but (execGetFeatures_but (by decide +kernel) h s) hs
  | asyncEventRequest h => exact Outcome.memOk_of_but (execAsyncEventRequest_but (by decide +kernel) h s) hs
  | nvmeAbort h => exact Outcome.memOk_of_but (execNvmeAbort_but (by decide +kernel) h s) hs
  | firmwareImageDownload h => exact execFirmwareImageDownload_memOk h s hs
  | firmwareCommit h => exact Outcome.memOk_of_but (execFirmwareCommit_but (by decide +kernel) h s) hs
  | deviceSelfTest h => exact Outcome.memOk_of_but (execDeviceSelfTest_but (by decide +kernel) h s) hs
  | selfTestWork ctrl bad => exact Outcome.memOk_of_but (execSelfTestWork_but (by decide +kernel) ctrl bad s) hs
  | ccEnable ctrl cc aqa asq acq => exact Outcome.memOk_of_but (execCcEnable_but (by decide +kernel) ctrl cc aqa asq acq s) hs
  | ccDisable ctrl => exact Outcome.memOk_of_but (execCcDisable_but (by decide +kernel) ctrl s) hs
  | ccShutdown ctrl shn => exact Outcome.memOk_of_but (execCcShutdown_but (by decide +kernel) ctrl shn s) hs
  | shutdownComplete ctrl => exact Outcome.memOk_of_but (execShutdownComplete_but (by decide +kernel) ctrl s) hs
  | interruptCoalesceExpiry ctrl cq => exact Outcome.memOk_of_but (execInterruptCoalesceExpiry_but (by decide +kernel) ctrl cq s) hs
  | ctrlCreate who desc => exact Outcome.memOk_of_but (execCtrlCreate_but (by decide +kernel) who desc s) hs
  | ctrlDestroy who => exact Outcome.memOk_of_but (execCtrlDestroy_but (by decide +kernel) who s) hs
  | nsCreate who desc => exact execNsCreate_memOk who desc s hs
  | nsDestroy who => exact Outcome.memOk_of_but (execNsDestroy_but (by decide +kernel) who s) hs
  | nsAttach who => exact Outcome.memOk_of_but (execNsAttach_but (by decide +kernel) who s) hs
  | nsDetach who => exact Outcome.memOk_of_but (execNsDetach_but (by decide +kernel) who s) hs
  | fwDone who block => exact Outcome.memOk_of_but (execFwDone_but (by decide +kernel) who block s) hs
  | cipher w => exact Outcome.memOk_of_but (execCipher_but (by decide +kernel) w s) hs
  | digest w => exact Outcome.memOk_of_but (execDigest_but (by decide +kernel) w s) hs
  | pkey w => exact Outcome.memOk_of_but (execPkey_but (by decide +kernel) w s) hs
  | compress w => exact Outcome.memOk_of_but (execCompress_but (by decide +kernel) w s) hs
  | decompress w => exact Outcome.memOk_of_but (execDecompress_but (by decide +kernel) w s) hs
  | crc w => exact Outcome.memOk_of_but (execCrc_but (by decide +kernel) w s) hs
  | ecEncode w => exact Outcome.memOk_of_but (execEcEncode_but (by decide +kernel) w s) hs
  | ecDecode w => exact Outcome.memOk_of_but (execEcDecode_but (by decide +kernel) w s) hs
  | scrub w => exact Outcome.memOk_of_but (execScrub_but (by decide +kernel) w s) hs
  | keyLoad w host => exact execKeyLoad_memOk w host s hs
  | keyGenerate w => exact execKeyGenerate_memOk w s hs
  | keyDestroy w => exact Outcome.memOk_of_but (execKeyDestroy_but (by decide +kernel) w s) hs
  | keyDestroyFence index => exact Outcome.memOk_of_but (execKeyDestroyFence_but (by decide +kernel) index s) hs
  | segCreate who desc => exact Outcome.memOk_of_but (execSegCreate_but (by decide +kernel) who desc s) hs
  | segDestroy who => exact Outcome.memOk_of_but (execSegDestroy_but (by decide +kernel) who s) hs
  | segGrant who entry => exact Outcome.memOk_of_but (execSegGrant_but (by decide +kernel) who entry s) hs
  | segRevoke who => exact Outcome.memOk_of_but (execSegRevoke_but (by decide +kernel) who s) hs
  | importAdd who entry => exact Outcome.memOk_of_but (execImportAdd_but (by decide +kernel) who entry s) hs
  | importDel who => exact Outcome.memOk_of_but (execImportDel_but (by decide +kernel) who s) hs
  | apertureSet who => exact Outcome.memOk_of_but (execApertureSet_but (by decide +kernel) who s) hs
  | fabTemplateWrite who template => exact Outcome.memOk_of_but (execFabTemplateWrite_but (by decide +kernel) who template s) hs
  | seedWrite who addr => exact Outcome.memOk_of_but (execSeedWrite_but (by decide +kernel) who addr s) hs
  | rmtRead who => exact Outcome.memOk_of_but (execRmtRead_but (by decide +kernel) who s) hs
  | rmtWrite who => exact Outcome.memOk_of_but (execRmtWrite_but (by decide +kernel) who s) hs
  | poolAtomic w => exact execPoolAtomic_memOk w s hs
  | apertureAccess who off len data => exact execApertureAccess_memOk who off len data s hs
  | apertureReadTimeout id => exact execApertureReadTimeout_memOk id s hs
  | fabricEnable who value => exact Outcome.memOk_of_but (execFabricEnable_but (by decide +kernel) who value s) hs
  | fabricDisable who value => exact Outcome.memOk_of_but (execFabricDisable_but (by decide +kernel) who value s) hs
  | helloTimer => exact Outcome.memOk_of_but (execHelloTimer_but (by decide +kernel) s) hs
  | electionSettled => exact Outcome.memOk_of_but (execElectionSettled_but (by decide +kernel) s) hs
  | coordinatorTimeout => exact Outcome.memOk_of_but (execCoordinatorTimeout_but (by decide +kernel) s) hs
  | neighbourTimeout mac => exact Outcome.memOk_of_but (execNeighbourTimeout_but (by decide +kernel) mac s) hs
  | hello mac p => exact Outcome.memOk_of_but (execHello_but (by decide +kernel) mac p s) hs
  | idRequest p => exact Outcome.memOk_of_but (execIdRequest_but (by decide +kernel) p s) hs
  | idAssign p => exact Outcome.memOk_of_but (execIdAssign_but (by decide +kernel) p s) hs
  | idRevoke p => exact Outcome.memOk_of_but (execIdRevoke_but (by decide +kernel) p s) hs
  | memberUpdate p => exact Outcome.memOk_of_but (execMemberUpdate_but (by decide +kernel) p s) hs
  | memberAck p => exact Outcome.memOk_of_but (execMemberAck_but (by decide +kernel) p s) hs
  | probe p => exact Outcome.memOk_of_but (execProbe_but (by decide +kernel) p s) hs
  | probeAck p => exact Outcome.memOk_of_but (execProbeAck_but (by decide +kernel) p s) hs
  | linkState mac p => exact Outcome.memOk_of_but (execLinkState_but (by decide +kernel) mac p s) hs
  | linkStateTimer => exact Outcome.memOk_of_but (execLinkStateTimer_but (by decide +kernel) s) hs
  | routeTableSwitch => exact Outcome.memOk_of_but (execRouteTableSwitch_but (by decide +kernel) s) hs
  | regAccess p => exact execRegAccess_memOk p s hs
  | regResp p => exact execRegResp_memOk p s hs
  | pathSilent peer path => exact Outcome.memOk_of_but (execPathSilent_but (by decide +kernel) peer path s) hs
  | pathIdleProbe peer path => exact Outcome.memOk_of_but (execPathIdleProbe_but (by decide +kernel) peer path s) hs
  | probeRetryExpiry peer path => exact Outcome.memOk_of_but (execProbeRetryExpiry_but (by decide +kernel) peer path s) hs
  | pathRevive peer path => exact Outcome.memOk_of_but (execPathRevive_but (by decide +kernel) peer path s) hs
  | ethLinkChange mac up => exact Outcome.memOk_of_but (execEthLinkChange_but (by decide +kernel) mac up s) hs
  | regulationRun l samples => exact Outcome.memOk_of_but (execRegulationRun_but (by decide +kernel) l samples s) hs
  | regulationApply l => exact Outcome.memOk_of_but (execRegulationApply_but (by decide +kernel) l s) hs
  | envelopeApply l => exact Outcome.memOk_of_but (execEnvelopeApply_but (by decide +kernel) l s) hs
  | adviceAccept who l run => exact Outcome.memOk_of_but (execAdviceAccept_but (by decide +kernel) who l run s) hs
  | decisionJournalFlush l => exact Outcome.memOk_of_but (execDecisionJournalFlush_but (by decide +kernel) l s) hs
  | read who bad => exact Outcome.memOk_of_but (execRead_but (by decide +kernel) who bad s) hs
  | readPrev who => exact Outcome.memOk_of_but (execReadPrev_but (by decide +kernel) who s) hs
  | mark who block => exact Outcome.memOk_of_but (execMark_but (by decide +kernel) who block s) hs
  | journalAck who value => exact Outcome.memOk_of_but (execJournalAck_but (by decide +kernel) who value s) hs
  | patinaReadLatch who => exact Outcome.memOk_of_but (execPatinaReadLatch_but (by decide +kernel) who s) hs
  | readJournal eid start n bad => exact Outcome.memOk_of_but (execReadJournal_but (by decide +kernel) eid start n bad s) hs
  | readPrevJournal eid start n => exact Outcome.memOk_of_but (execReadPrevJournal_but (by decide +kernel) eid start n s) hs
  | readPatina eid start n => exact Outcome.memOk_of_but (execReadPatina_but (by decide +kernel) eid start n s) hs
  | readPinned eid start n => exact Outcome.memOk_of_but (execReadPinned_but (by decide +kernel) eid start n s) hs
  | clearPinned eid => exact Outcome.memOk_of_but (execClearPinned_but (by decide +kernel) eid s) hs
  | pwrRead eid off => exact Outcome.memOk_of_but (execPwrRead_but (by decide +kernel) eid off s) hs
  | svcRead eid off => exact Outcome.memOk_of_but (execSvcRead_but (by decide +kernel) eid off s) hs
  | drain who => exact Outcome.memOk_of_but (execDrain_but (by decide +kernel) who s) hs
  | drainCancel who => exact Outcome.memOk_of_but (execDrainCancel_but (by decide +kernel) who s) hs
  | unitDrained kind index => exact Outcome.memOk_of_but (execUnitDrained_but (by decide +kernel) kind index s) hs
  | unitDrainTimeout kind index => exact Outcome.memOk_of_but (execUnitDrainTimeout_but (by decide +kernel) kind index s) hs
  | test who => exact Outcome.memOk_of_but (execTest_but (by decide +kernel) who s) hs
  | testDone kind index pass => exact Outcome.memOk_of_but (execTestDone_but (by decide +kernel) kind index pass s) hs
  | readmit who => exact Outcome.memOk_of_but (execReadmit_but (by decide +kernel) who s) hs
  | probationStep kind index => exact Outcome.memOk_of_but (execProbationStep_but (by decide +kernel) kind index s) hs
  | probationEnd kind index => exact Outcome.memOk_of_but (execProbationEnd_but (by decide +kernel) kind index s) hs
  | substitute who => exact Outcome.memOk_of_but (execSubstitute_but (by decide +kernel) who s) hs
  | retire who => exact Outcome.memOk_of_but (execRetire_but (by decide +kernel) who s) hs
  | repair who => exact Outcome.memOk_of_but (execRepair_but (by decide +kernel) who s) hs
  | repairDone index ok => exact Outcome.memOk_of_but (execRepairDone_but (by decide +kernel) index ok s) hs
  | spare who => exact Outcome.memOk_of_but (execSpare_but (by decide +kernel) who s) hs
  | spareSwitch stack => exact execSpareSwitch_memOk stack s hs
  | plinthSwitch who => exact Outcome.memOk_of_but (execPlinthSwitch_but (by decide +kernel) who s) hs
  | plinthReady => exact Outcome.memOk_of_but (execPlinthReady_but (by decide +kernel) s) hs
  | plinthSwitchTimeout => exact Outcome.memOk_of_but (execPlinthSwitchTimeout_but (by decide +kernel) s) hs
  | plinthLockstepRestart => exact Outcome.memOk_of_but (execPlinthLockstepRestart_but (by decide +kernel) s) hs
  | unitFailure kind index code => exact Outcome.memOk_of_but (execUnitFailure_but (by decide +kernel) kind index code s) hs
  | correctedError pc => exact Outcome.memOk_of_but (execCorrectedError_but (by decide +kernel) pc s) hs
  | recoveryEntry structure_ bank => exact Outcome.memOk_of_but (execRecoveryEntry_but (by decide +kernel) structure_ bank s) hs
  | recoveryExit rebuilt => exact Outcome.memOk_of_but (execRecoveryExit_but (by decide +kernel) rebuilt s) hs
  | functionReady ap => exact Outcome.memOk_of_but (execFunctionReady_but (by decide +kernel) ap s) hs
  | armatureReloadDone kind index => exact Outcome.memOk_of_but (execArmatureReloadDone_but (by decide +kernel) kind index s) hs
  | acceleratorWorkDone w slice load bad => exact execAcceleratorWorkDone_memOk w slice load bad s hs
  | readClears who offset => exact Outcome.memOk_of_but (execReadClears_but (by decide +kernel) who offset s) hs

/-- Settles O6: the front command keeps the canonical form, and taking it from the queue leaves memory alone. -/
theorem everyStepKeepsMemoryCanonical : Obligations.EveryStepKeepsMemoryCanonical := by
  unfold Obligations.EveryStepKeepsMemoryCanonical
  intro s t hs e
  unfold step at e
  split at e
  · next c rest _ => exact exec_memOk c { s with pending := rest } hs t e
  · cases e; exact hs

end Sys2Proof.Machine
end

section
/-!
CERTIFICATE. What the clock and power commands leave unchanged.
-/
namespace Sys2Proof.Machine
set_option Elab.async false

/-- Settles O53: each command's frame holds, its changes lie within what the statement lists. -/
theorem clockAndPowerFrames : Obligations.ClockAndPowerFrames := by
  unfold Obligations.ClockAndPowerFrames
  refine ⟨?_, ?_, ?_, ?_, ?_, ?_, ?_, ?_, ?_, ?_, ?_, ?_, ?_, ?_, ?_, ?_, ?_, ?_, ?_, ?_, ?_, ?_, ?_, ?_, ?_,
    ?_, ?_, ?_, ?_, ?_, ?_, ?_, ?_, ?_, ?_, ?_, ?_, ?_, ?_, ?_, ?_, ?_⟩
  · exact fun env => keeps_of_but (by decide +kernel) (execStrokeBoundary_but (by decide +kernel) env)
  · exact keepsParts_of_but (execDeferredChangeApply_but (by decide +kernel))
  · exact fun hart missed => keeps_of_but (by decide +kernel) (execThreadOverrun_but (by decide +kernel) hart missed)
  · exact fun kind index => keeps_of_but (by decide +kernel) (execHwUnitOverrun_but (by decide +kernel) kind index)
  · exact keeps_of_but (by decide +kernel) (execStepLatch_but (by decide +kernel))
  · exact keeps_of_but (by decide +kernel) (execSlewDone_but (by decide +kernel))
  · exact fun who ns => keeps_of_but (by decide +kernel) (execPhcStepWrite_but (by decide +kernel) who ns)
  · exact fun who rate => keeps_of_but (by decide +kernel) (execPhcRateWrite_but (by decide +kernel) who rate)
  · exact fun who atStroke => keeps_of_but (by decide +kernel) (execRealignArm_but (by decide +kernel) who atStroke)
  · exact fun who atStroke => keeps_of_but (by decide +kernel) (execRealignDisarm_but (by decide +kernel) who atStroke)
  · exact keeps_of_but (by decide +kernel) (execRealignTarget_but (by decide +kernel))
  · exact fun who offset => keeps_of_but (by decide +kernel) (execAlignEstimateWrite_but (by decide +kernel) who offset)
  · exact keeps_of_but (by decide +kernel) (execAlignHoldover_but (by decide +kernel))
  · exact fun who ns frac => keeps_of_but (by decide +kernel) (execPhcSecRead_but (by decide +kernel) who ns frac)
  · exact fun who mac => keeps_of_but (by decide +kernel) (execTxtsInfoRead_but (by decide +kernel) who mac)
  · exact fun ns sub => keeps_of_but (by decide +kernel) (execPpsInEdge_but (by decide +kernel) ns sub)
  · exact fun who => keeps_of_but (by decide +kernel) (execPpsInTsRead_but (by decide +kernel) who)
  · exact fun assert => keeps_of_but (by decide +kernel) (execPpsOutPulse_but (by decide +kernel) assert)
  · exact keeps_of_but (by decide +kernel) (execClk10mLock_but (by decide +kernel))
  · exact keeps_of_but (by decide +kernel) (execClk10mLockLoss_but (by decide +kernel))
  · exact fun msg ms => keeps_of_but (by decide +kernel) (execTodMessage_but (by decide +kernel) msg ms)
  · exact keeps_of_but (by decide +kernel) (execAuxPowerPresent_but (by decide +kernel))
  · exact fun autoOn mgmtAddr rgmiiEn flashMode test =>
      keeps_of_but (by decide +kernel) (execStrapSample_but (by decide +kernel) autoOn mgmtAddr rgmiiEn flashMode test)
  · exact fun eid hot => keeps_of_but (by decide +kernel) (execPowerOn_but (by decide +kernel) eid hot)
  · exact keeps_of_but (by decide +kernel) (execMainPgAsserted_but (by decide +kernel))
  · exact keeps_of_but (by decide +kernel) (execMainPgTimeout_but (by decide +kernel))
  · exact keeps_of_but (by decide +kernel) (execPowerOffMainEnDrop_but (by decide +kernel))
  · exact keeps_of_but (by decide +kernel) (execPowerStepB2_but (by decide +kernel))
  · exact fun regulated failed repairs => keeps_of_but (by decide +kernel) (execPowerStep_but (by decide +kernel) regulated failed repairs)
  · exact keeps_of_but (by decide +kernel) (execPowerStepWaitExceeded_but (by decide +kernel))
  · exact fun who => keeps_of_but (by decide +kernel) (execEnterService_but (by decide +kernel) who)
  · exact fun who => keeps_of_but (by decide +kernel) (execTestEnter_but (by decide +kernel) who)
  · exact fun who => keeps_of_but (by decide +kernel) (execTestExit_but (by decide +kernel) who)
  · exact fun who => keeps_of_but (by decide +kernel) (execStandby_but (by decide +kernel) who)
  · exact fun who => keeps_of_but (by decide +kernel) (execWake_but (by decide +kernel) who)
  · exact fun who => keeps_of_but (by decide +kernel) (execPowerOff_but (by decide +kernel) who)
  · exact fun who => keeps_of_but (by decide +kernel) (execSafe_but (by decide +kernel) who)
  · exact fun cause => keeps_of_but (by decide +kernel) (execSafeEntry_but (by decide +kernel) cause)
  · exact fun sensor hot => keeps_of_but (by decide +kernel) (execTCritReached_but (by decide +kernel) sensor hot)
  · exact keeps_of_but (by decide +kernel) (execCapOverDetected_but (by decide +kernel))
  · exact fun sensor => keeps_of_but (by decide +kernel) (execThermtrip_but (by decide +kernel) sensor)
  · exact fun ap rid dstate => keeps_of_but (by decide +kernel) (execDstateChange_but (by decide +kernel) ap rid dstate)

end Sys2Proof.Machine
end

section
/-!
CERTIFICATE. The state right after reset.
-/
namespace Sys2Proof.Machine
set_option Elab.async false

/-- Settles O4: nothing is listed after reset, so every field reads its reset value. -/
theorem resetRegistersReadTheirResetValues : Obligations.ResetRegistersReadTheirResetValues := by
  unfold Obligations.ResetRegistersReadTheirResetValues
  exact ⟨fun f i => rfl, rfl, rfl, rfl, rfl, rfl, rfl⟩

/-- Settles O5: the memory of the reset state lists nothing. -/
theorem resetMemoryIsCanonical : Obligations.ResetMemoryIsCanonical := by
  unfold Obligations.ResetMemoryIsCanonical
  exact Memory.wf_nil

end Sys2Proof.Machine
end

section
/-!
CERTIFICATE. The manager's fabric commands.
-/
namespace Sys2Proof.Machine
set_option Elab.async false

/-! ### One part, or one field, that a function leaves alone -/

/-- Every change but those of one part. -/
def butPart (p : Part) : Touch → Bool := fun c => decide (c ≠ .part p)

/-- Every change but those of one register field. -/
def butField (f : Field) : Touch → Bool := fun c => decide (c ≠ f.touch) && decide (c ≠ .regs)

theorem samePart_of_butPart {p : Part} {s t : State} (h : t.but (butPart p) = s.but (butPart p)) : samePart p s t :=
  samePart_of_but h p (by simp [butPart])

theorem getI_of_butField {f : Field} {s t : State} (h : t.but (butField f) = s.but (butField f)) (i : Nat) : t.getI f i = s.getI f i :=
  getI_of_but h (by simp [butField]) f (by simp [butField]) i

theorem get_of_butField {f : Field} {s t : State} (h : t.but (butField f) = s.but (butField f)) : t.get f = s.get f := getI_of_butField h 0

/-! ### A command register's command: accepted and ended at once, or accepted and left busy -/

theorem regGate_open {s : State} {who : Issuer} {off : Nat} {f : State → State} (hw : s.mayWriteRegs who = true) (hb : s.blockAnswers off = true) :
    regGate who off s f = f s := if_pos ⟨hw, hb⟩

theorem cmdStart_done {b : CmdBlk} {p : CmdPend} {act : State → CmdRes} {s t : State} {st o : Nat} (h : cmdOpen s b p.who)
    (ha : act s = .done st o t) : cmdStart b p true act s = cmdFinish b { p with obj := o } st t := by
  obtain ⟨hj, hb⟩ := h
  simp [cmdStart, hj, hb, ha]

theorem cmdStart_running {b : CmdBlk} {p : CmdPend} {act : State → CmdRes} {s t : State} (h : cmdOpen s b p.who) (ha : act s = .running t) :
    cmdStart b p true act s = (t.updCmds fun _ => Map.put t.cmds b.num p).set b.busy 1 := by
  obtain ⟨hj, hb⟩ := h
  simp [cmdStart, hj, hb, ha]

/-- The command that a fabric command register holds while it goes on. -/
def fabPend (op : Nat) (who : Issuer) (niche obj : Nat) (desc : Option (Nat × Nat)) (s : State) : CmdPend :=
  ⟨op, who, niche, obj, fabArg s, if desc.isSome then 0 else s.get Reg.FAB_CMD_ADDR_ADDR, 0, desc⟩

theorem fabCmd_open {s : State} {who : Issuer} (h : managerCmd s Blk.fab 0x1000000 who) (op niche obj : Nat) (desc : Option (Nat × Nat))
    (act : State → CmdRes) : fabCmd op who niche obj desc act s = .next (cmdStart Blk.fab (fabPend op who niche obj desc s) true act s) := by
  obtain ⟨hr, hw, hb, -⟩ := h
  rw [fabCmd, regGate_open hw hb, hr]
  rfl

/-- A fabric command whose action ends at once answers the state that its report leaves. -/
theorem answers_fabDone {c : Instr} {op : Nat} {who : Issuer} {niche obj : Nat} {desc : Option (Nat × Nat)} {act : State → CmdRes} {s t : State}
    {st o : Nat} {P : State → Prop} (h : managerCmd s Blk.fab 0x1000000 who) (he : exec c s = fabCmd op who niche obj desc act s)
    (ha : act s = .done st o t) (hP : ∀ p : CmdPend, p.obj = o → P (cmdFinish Blk.fab p st t)) : answers c s P := by
  obtain ⟨-, -, -, hopen⟩ := id h
  refine ⟨_, he.trans (fabCmd_open h ..), ?_⟩
  rw [cmdStart_done hopen ha]
  exact hP _ rfl

/-- A fabric command whose action goes on leaves its register busy. -/
theorem answers_fabRunning {c : Instr} {op : Nat} {who : Issuer} {niche obj : Nat} {desc : Option (Nat × Nat)} {act : State → CmdRes}
    {s t : State} {P : State → Prop} (h : managerCmd s Blk.fab 0x1000000 who) (he : exec c s = fabCmd op who niche obj desc act s)
    (ha : act s = .running t)
    (hP : ∀ p : CmdPend, P ((t.updCmds fun _ => Map.put t.cmds 14 p).set Reg.FAB_CMD_BUSY 1)) : answers c s P := by
  obtain ⟨-, -, -, hopen⟩ := id h
  refine ⟨_, he.trans (fabCmd_open h ..), ?_⟩
  rw [cmdStart_running hopen ha]
  exact hP _

/-- The fields of a command register's report apart from its status have places of their own. -/
def CmdBlk.statusApart (b : CmdBlk) : Bool := b.op.touch != b.status.touch && b.stroke.touch != b.status.touch && b.obj.touch != b.status.touch

theorem State.get_set_touch_ne (s : State) {f g : Field} (v : Nat) (h : f.touch ≠ g.touch) : (s.set f v).get g = s.get g :=
  s.get_set_ne v fun e => h (congrArg Touch.place e.symm)

theorem State.getI_raise (s : State) (id obj data i : Nat) (f : Field) : (raise id obj data s).getI f i = s.getI f i := rfl

/-- A report shows its status. -/
theorem cmdReport_status (b : CmdBlk) (h : b.statusApart) (op st obj : Nat) (s : State) :
    (cmdReport b op st obj s).get b.status = st % 2 ^ b.status.width := by
  simp only [CmdBlk.statusApart, Bool.and_eq_true, bne_iff_ne, ne_eq] at h
  obtain ⟨⟨hop, hstroke⟩, hobj⟩ := h
  have hs : (s.sets [(b.status, st), (b.op, op), (b.stroke, s.stroke)]).get b.status = st % 2 ^ b.status.width :=
    (State.get_set_touch_ne _ _ hstroke).trans ((State.get_set_touch_ne _ _ hop).trans (State.get_set_same _ _ _))
  unfold cmdReport
  dsimp only
  split
  · exact (State.get_set_touch_ne _ _ hobj).trans hs
  · exact hs

@[simp] theorem cmdFinish_fab_status (p : CmdPend) (st : Nat) (s : State) :
    (cmdFinish Blk.fab p st s).get Reg.FAB_CMD_STATUS_STATUS = st % 2 ^ 8 := cmdReport_status Blk.fab (by decide) ..

@[simp] theorem cmdFinish_fab_object (p : CmdPend) (st : Nat) (s : State) :
    (cmdFinish Blk.fab p st s).get Reg.FAB_CMD_STATUS_OBJECT = p.obj % 2 ^ 16 := State.get_set_same ..

/-- The changes of the registers of one block's report and of the journal. -/
def reportTouch (b : CmdBlk) : Touch → Bool
  | .part p => p = .jnl || p = .events || p = .pat || p = .cmds
  | .place c => c / 128 = b.status.off || c / 2 ^ 27 = 0x12 || c / 2 ^ 27 = 0x13
  | .regs => false

/-- A report leaves every register of the fabric but its own alone. -/
theorem cmdFinish_fab_getI (p : CmdPend) (st : Nat) (s : State) (f : Field) (i : Nat) (hf : reportTouch Blk.fab f.touch = false) :
    (cmdFinish Blk.fab p st s).getI f i = s.getI f i :=
  getI_of_but (cmdFinish_but Blk.fab (by decide +kernel) p st s) rfl f hf i

/-! ### Segments -/

section
variable {c : Instr} {op : Nat} {who : Issuer} {desc : Option (Nat × Nat)} {act : Nat → Seg → State → CmdRes} {s : State} {g : Nat} {x : Seg}
  {P : State → Prop}

/-- A segment command acts on the segment of FAB_CMD_ARG.SEG, which no trusted domain locks. -/
theorem answers_segDone (t : State) {st o : Nat} (h : managerCmd s Blk.fab 0x1000000 who) (hg : s.get Reg.FAB_CMD_ARG_SEG = g)
    (hx : Map.find? s.fab.segs g = some x) (hl : s.tdiLocked x.niche = false) (he : exec c s = segCmd op who desc act s)
    (ha : act g x s = .done st o t) (hP : ∀ p : CmdPend, p.obj = o → P (cmdFinish Blk.fab p st t)) : answers c s P := by
  subst hg
  exact answers_fabDone h he (by simpa [hx, hl] using ha) hP

theorem answers_segRunning (t : State) (h : managerCmd s Blk.fab 0x1000000 who) (hg : s.get Reg.FAB_CMD_ARG_SEG = g)
    (hx : Map.find? s.fab.segs g = some x) (hl : s.tdiLocked x.niche = false) (he : exec c s = segCmd op who desc act s)
    (ha : act g x s = .running t) (hP : ∀ p : CmdPend, P ((t.updCmds fun _ => Map.put t.cmds 14 p).set Reg.FAB_CMD_BUSY 1)) :
    answers c s P := by
  subst hg
  exact answers_fabRunning h he (by simpa [hx, hl] using ha) hP

end

/-- What a segment shows is set in the registers alone. -/
theorem segShow_fab (g : Nat) (s : State) : (segShow g s).fab = s.fab :=
  samePart_of_but (segShow_but (E := butPart .fab) (by decide) g s) .fab rfl

@[simp] theorem freeSeg_segs (g : Nat) (s : State) : (freeSeg g s).fab.segs = Map.del s.fab.segs g := by
  rw [freeSeg, segShow_fab]
  rfl

/-- A segment that is freed shows state 0. -/
theorem freeSeg_state (g : Nat) (s : State) : (freeSeg g s).getI Reg.FAB_SEG_INFO_STATE g = 0 := by
  have hf : Map.find? (s.updFab fun u => { u with segs := Map.del s.fab.segs g }).fab.segs g = none := Map.find?_del_same ..
  unfold freeSeg segShow
  simp only [hf]
  exact (getI_of_but (E := listed [] [Reg.FAB_SEG_INFO_RIGHTS, Reg.FAB_SEG_INFO_NICHE, Reg.FAB_SEG_INFO_SIZE_2M, Reg.FAB_SEG_KEY_KEY,
    Reg.FAB_SEG_ADDR_VALUE]) (State.setsI_but (by decide) (State.setI _ Reg.FAB_SEG_INFO_STATE g 0) g) rfl _ (by decide) _).trans
    (State.getI_setI_same ..)

@[simp] theorem freeSeg_mem (g : Nat) (s : State) : (freeSeg g s).mem = s.mem := mem_of_but (freeSeg_but (by decide) g s)

theorem segDestroy_completes (who : Issuer) (g : Nat) (x : Seg) (s : State) (h : managerCmd s Blk.fab 0x1000000 who)
    (hg : s.get Reg.FAB_CMD_ARG_SEG = g) (hx : Map.find? s.fab.segs g = some x) (hl : s.tdiLocked x.niche = false)
    (hs : s.getI Reg.FAB_SEG_INFO_STATE g = 2) : answers (.segDestroy who) s fun t => Map.find? t.fab.segs g = none ∧
      t.getI Reg.FAB_SEG_INFO_STATE g = 0 ∧ t.get Reg.FAB_CMD_STATUS_STATUS = St.ok ∧ t.mem = s.mem := by
  have e : exec (.segDestroy who) s = execSegDestroy who s := rfl
  unfold execSegDestroy at e
  refine answers_segDone (freeSeg g s) (st := St.ok) (o := g) h hg hx hl e ?_ fun p _ => ⟨by simp, ?_, by simp [St.ok], by simp⟩
  · exact if_neg (not_not_intro hs)
  · exact (cmdFinish_fab_getI p _ _ _ _ (by decide)).trans (freeSeg_state g s)

theorem segGrant_completes (who : Issuer) (entry g : Nat) (x : Seg) (s : State) (h : managerCmd s Blk.fab 0x1000000 who)
    (hg : s.get Reg.FAB_CMD_ARG_SEG = g) (hx : Map.find? s.fab.segs g = some x) (hl : s.tdiLocked x.niche = false)
    (hr : byteField entry 4 4 < 8) (hz : byteField entry 5 15 = 0) : answers (.segGrant who entry) s fun t =>
      t.deferred = s.deferred ++ [(s.dueBoundary, .segGrant g (s.get Reg.FAB_CMD_ARG_ENTRY) (entry % 2 ^ 128))] ∧ t.fab = s.fab ∧
      t.get Reg.FAB_CMD_STATUS_STATUS = St.ok ∧ t.mem = s.mem := by
  have e : exec (.segGrant who entry) s = execSegGrant who entry s := rfl
  unfold execSegGrant at e
  refine answers_segDone (s.defer (.segGrant g (s.get Reg.FAB_CMD_ARG_ENTRY) (entry % 2 ^ 128))) (st := St.ok) (o := g) h hg hx hl e ?_
    fun p _ => ⟨?_, ?_, by simp [St.ok], by simp⟩
  · exact if_neg (not_or.2 ⟨Nat.not_le.2 hr, not_not_intro hz⟩)
  · simp [State.defer]
  · simp [State.defer]

theorem segRevoke_completes (who : Issuer) (g : Nat) (x : Seg) (s : State) (h : managerCmd s Blk.fab 0x1000000 who)
    (hg : s.get Reg.FAB_CMD_ARG_SEG = g) (hx : Map.find? s.fab.segs g = some x) (hl : s.tdiLocked x.niche = false)
    (hs : s.getI Reg.FAB_SEG_INFO_STATE g = 1) : answers (.segRevoke who) s fun t =>
      t.deferred = s.deferred ++ [(s.dueBoundary, .segRevoke g (s.flag Reg.FAB_CMD_ARG_REOPEN))] ∧ t.fab = s.fab ∧
      t.get Reg.FAB_CMD_BUSY = 1 ∧ t.mem = s.mem := by
  have e : exec (.segRevoke who) s = execSegRevoke who s := rfl
  unfold execSegRevoke at e
  refine answers_segRunning (s.defer (.segRevoke g (s.flag Reg.FAB_CMD_ARG_REOPEN))) h hg hx hl e ?_
    fun p => ⟨?_, ?_, State.get_set_same .., ?_⟩
  · exact if_neg (not_not_intro hs)
  · simp [State.defer]
  · simp [State.defer]
  · simp [State.defer]

/-! ### Indices drawn -/

theorem exists_unused {bound : Nat} {used : List Nat} (h : used.length < bound) : ∃ i ∈ List.range bound, i ∉ used := by
  by_contra hn
  push Not at hn
  have hle : (List.range bound).length ≤ used.length := (List.nodup_range.subperm hn).length_le
  rw [List.length_range] at hle
  omega

/-- An index is drawn from those that are not used, when the used ones leave one of the bound. -/
theorem freeIndex_some (bound : Nat) (used : List Nat) (s : State) (h : used.length < bound) :
    ∃ g ∈ List.range bound, g ∉ used ∧ freeIndex bound used s = (some g, s.draw.2) := by
  obtain ⟨i, hi, hu⟩ := exists_unused h
  have hpos : 0 < ((List.range bound).filter fun i => !used.contains i).length :=
    List.length_pos_of_mem (List.mem_filter.2 ⟨hi, by simpa using hu⟩)
  have hlt : s.draw.1 % max 1 ((List.range bound).filter fun i => !used.contains i).length <
      ((List.range bound).filter fun i => !used.contains i).length := by
    rw [Nat.max_eq_right hpos]
    exact Nat.mod_lt _ hpos
  have hg := List.mem_filter.1 (List.getElem_mem hlt)
  exact ⟨_, hg.1, by simpa using hg.2, congrArg (·, s.draw.2) (List.getElem?_eq_getElem hlt)⟩

theorem Map.find?_none_of_notMem {α : Type} {m : Map α} {k : Nat} (h : k ∉ m.map (·.1)) : Map.find? m k = none := by
  induction m with
  | nil => rfl
  | cons a t ih =>
    obtain ⟨k', v⟩ := a
    simp only [List.map_cons, List.mem_cons, not_or] at h
    rw [Map.find?, if_neg h.1]
    exact ih h.2

/-- The state that a created segment leaves: its entry, its rights shown and its opening deferred. -/
def segOpened (desc off g win : Nat) (s : State) : State :=
  let n := byteField desc 0 1 % 4096
  let len := byteField desc 4 7 * 2 ^ 21
  ((s.updFab fun u => { u with segs := Map.put s.fab.segs g ⟨off, len, n, win, []⟩ }).setI Reg.FAB_SEG_INFO_RIGHTS g (byteField desc 2 2)).defer
    (.segOpen g (bit (byteField desc 3 3) 0 == 1 || segForeign s n off len))

theorem segCreate_completes (who : Issuer) (desc n off : Nat) (s : State) (h : managerCmd s Blk.fab 0x1000000 who)
    (hn : byteField desc 0 1 % 4096 = n) (hv : segValid desc = true) (hf : fabNiche s n = none) (hp : segPlace s desc = some off)
    (hs : s.fab.segs.length < 4096) (hw : s.winsTaken.length < 65536) : answers (.segCreate who desc) s fun t =>
      (∃ g ∈ List.range 4096, Map.find? s.fab.segs g = none ∧
        (Map.find? t.fab.segs g).map (fun x => (x.off, x.len, x.niche, x.grants)) = some (off, byteField desc 4 7 * 2 ^ 21, n, []) ∧
        t.deferred = s.deferred ++ [(s.dueBoundary, .segOpen g (bit (byteField desc 3 3) 0 == 1 ||
          segForeign s n off (byteField desc 4 7 * 2 ^ 21)))]) ∧
      t.get Reg.FAB_CMD_BUSY = 1 ∧ t.mem = s.mem := by
  subst hn
  have e : exec (.segCreate who desc) s = execSegCreate who desc s := rfl
  unfold execSegCreate at e
  obtain ⟨g, hg, hgu, eg⟩ := freeIndex_some 4096 (s.fab.segs.map (·.1)) s (by simpa using hs)
  obtain ⟨i, -, -, ei⟩ := freeIndex_some 65536 s.draw.2.winsTaken s.draw.2 hw
  refine answers_fabRunning (t := segOpened desc off g i s.draw.2.draw.2) h e ?_
    fun p => ⟨⟨g, hg, Map.find?_none_of_notMem hgu, ?_, ?_⟩, State.get_set_same .., ?_⟩
  · simp only [hv, hf, hp, eg, ei, Bool.true_eq_false, if_false]
    rfl
  · simp [segOpened, State.defer]
  · simp only [segOpened, State.defer, State.dueBoundary, State.set_deferred, State.updCmds_deferred, State.updDeferred_deferred,
      State.setI_deferred, State.setI_stk, State.updFab_deferred, State.updFab_stk]
    rfl
  · simp [segOpened, State.defer, State.draw]

/-! ### Imports, apertures, templates and seeds -/

theorem importAdd_completes (who : Issuer) (entry n : Nat) (s : State) (h : managerCmd s Blk.fab 0x1000000 who) (hn : byteField entry 0 1 = n)
    (hlt : n < 4096) (hr : byteField entry 2 2 < 8) (hz3 : byteField entry 3 3 = 0) (hlen : byteField entry 16 23 ≠ 0)
    (hz24 : byteField entry 24 31 = 0) (hsp : fabSpace (byteField entry 8 15) = 0) (hf : fabNiche s n = none)
    (hs : s.fab.imports.length < 16384) : answers (.importAdd who entry) s fun t =>
      (∃ i ∈ List.range 16384, Map.find? s.fab.imports i = none ∧ t.fab.imports = Map.put s.fab.imports i ⟨n, byteField entry 2 2,
        byteField entry 4 7, byteField entry 8 15, byteField entry 16 23⟩ ∧ t.get Reg.FAB_CMD_STATUS_OBJECT = i) ∧
      t.get Reg.FAB_CMD_STATUS_STATUS = St.ok ∧ t.mem = s.mem := by
  have e : exec (.importAdd who entry) s = execImportAdd who entry s := rfl
  unfold execImportAdd at e
  rw [hn, Nat.mod_eq_of_lt hlt] at e
  obtain ⟨i, hi, hu, ei⟩ := freeIndex_some 16384 (s.fab.imports.map (·.1)) s (by simpa using hs)
  have hi' : i < 16384 := List.mem_range.1 hi
  refine answers_fabDone (st := St.ok) (o := i) (t := s.draw.2.updFab fun _ => { s.fab with
      imports := Map.put s.fab.imports i ⟨n, byteField entry 2 2, byteField entry 4 7, byteField entry 8 15, byteField entry 16 23⟩ }) h e ?_
    fun p hp => ⟨⟨i, hi, Map.find?_none_of_notMem hu, ?_, ?_⟩, by simp [St.ok], by simp [State.draw]⟩
  · simp only [ei, hf, hsp, hz3, hlen, hz24, Nat.not_le.2 hlt, Nat.not_le.2 hr, ne_eq, not_true_eq_false, or_self, if_false]
    rfl
  · simp
  · rw [cmdFinish_fab_object, hp]
    exact Nat.mod_eq_of_lt (by omega)

theorem importDel_completes (who : Issuer) (i : Nat) (x : Import) (s : State) (h : managerCmd s Blk.fab 0x1000000 who)
    (hi : s.get Reg.FAB_CMD_ARG_INDEX = i) (hx : Map.find? s.fab.imports i = some x) (hl : s.tdiLocked x.niche = false) :
    answers (.importDel who) s fun t => Map.find? t.fab.imports i = none ∧ t.get Reg.FAB_CMD_STATUS_STATUS = St.ok ∧ t.mem = s.mem := by
  have e : exec (.importDel who) s = execImportDel who s := rfl
  unfold execImportDel at e
  subst hi
  refine answers_fabDone (st := St.ok) (o := s.get Reg.FAB_CMD_ARG_INDEX)
    (t := s.updFab fun u => { u with imports := Map.del s.fab.imports (s.get Reg.FAB_CMD_ARG_INDEX) }) h e ?_
    fun p _ => ⟨by simp, by simp [St.ok], by simp⟩
  simp [hx, hl]

theorem apertureSet_removes (who : Issuer) (fn : Nat) (f : Fn) (s : State) (h : managerCmd s Blk.fab 0x1000000 who)
    (hfn : fnKey (s.get Reg.FAB_CMD_ARG_AP) (s.get Reg.FAB_CMD_ARG_RID) = fn) (hf : Map.find? s.hif.fns fn = some f) (hk : f.kind = 3)
    (hv : f.vf = 0) (hi : s.get Reg.FAB_CMD_ARG_INDEX = 0x3FFFF) : answers (.apertureSet who) s fun t =>
      Map.find? t.fab.apertures (aptKey fn (s.get Reg.FAB_CMD_ARG_SLOT)) = none ∧ t.get Reg.FAB_CMD_STATUS_STATUS = St.ok ∧ t.mem = s.mem := by
  have e : exec (.apertureSet who) s = execApertureSet who s := rfl
  unfold execApertureSet at e
  subst hfn
  refine answers_fabDone (st := St.ok) (o := s.get Reg.FAB_CMD_ARG_INDEX) (t := s.updFab fun u => { u with
      apertures := Map.del s.fab.apertures (aptKey (fnKey (s.get Reg.FAB_CMD_ARG_AP) (s.get Reg.FAB_CMD_ARG_RID))
        (s.get Reg.FAB_CMD_ARG_SLOT)) }) h e ?_ fun p _ => ⟨by simp, by simp [St.ok], by simp⟩
  simp [hf, hk, hv, hi]

theorem apertureSet_sets (who : Issuer) (fn : Nat) (f : Fn) (x : Import) (s : State) (h : managerCmd s Blk.fab 0x1000000 who)
    (hfn : fnKey (s.get Reg.FAB_CMD_ARG_AP) (s.get Reg.FAB_CMD_ARG_RID) = fn) (hf : Map.find? s.hif.fns fn = some f) (hk : f.kind = 3)
    (hv : f.vf = 0) (hi : s.get Reg.FAB_CMD_ARG_INDEX ≠ 0x3FFFF) (hx : Map.find? s.fab.imports (s.get Reg.FAB_CMD_ARG_INDEX) = some x)
    (hb : s.flagI Reg.NCH_INFO_BOUND x.niche = true) (hn : s.nicheFn x.niche = fn) (hl : s.tdiLocked x.niche = false) :
    answers (.apertureSet who) s fun t => Map.find? t.fab.apertures (aptKey fn (s.get Reg.FAB_CMD_ARG_SLOT)) =
      some (s.get Reg.FAB_CMD_ARG_INDEX) ∧ t.get Reg.FAB_CMD_STATUS_STATUS = St.ok ∧ t.mem = s.mem := by
  have e : exec (.apertureSet who) s = execApertureSet who s := rfl
  unfold execApertureSet at e
  subst hfn
  refine answers_fabDone (st := St.ok) (o := s.get Reg.FAB_CMD_ARG_INDEX) (t := s.updFab fun u => { u with
      apertures := Map.put s.fab.apertures (aptKey (fnKey (s.get Reg.FAB_CMD_ARG_AP) (s.get Reg.FAB_CMD_ARG_RID))
        (s.get Reg.FAB_CMD_ARG_SLOT)) (s.get Reg.FAB_CMD_ARG_INDEX) }) h e ?_ fun p _ => ⟨by simp, by simp [St.ok], by simp⟩
  simp [hf, hk, hv, hi, hx, hb, hn, hl]

theorem fabTemplateWrite_completes (who : Issuer) (template i : Nat) (s : State) (h : managerCmd s Blk.fab 0x1000000 who)
    (hi : s.get Reg.FAB_CMD_ARG_INDEX = i) (hlt : i < 4096) (h0 : byteField template 0 0 < 16) (h1 : byteField template 1 1 < 4)
    (h5 : byteField template 5 7 = 0) (h14 : byteField template 14 15 = 0) (h32 : byteField template 32 63 = 0) :
    answers (.fabTemplateWrite who template) s fun t => Map.find? t.fab.templates i = some (template % 2 ^ 512) ∧
      t.get Reg.FAB_CMD_STATUS_STATUS = St.ok ∧ t.mem = s.mem := by
  have e : exec (.fabTemplateWrite who template) s = execFabTemplateWrite who template s := rfl
  unfold execFabTemplateWrite at e
  rw [hi] at e
  refine answers_fabDone (st := St.ok) (o := i) (t := s.updFab fun u => { u with templates := Map.put s.fab.templates i (template % 2 ^ 512) })
    h e (if_neg ?_) fun p _ => ⟨?_, by simp [St.ok], by simp⟩
  · omega
  · rw [cmdFinish_fab]
    exact Map.find?_put_same ..

theorem seedWrite_completes (who : Issuer) (addr i : Nat) (s : State) (h : managerCmd s Blk.fab 0x1000000 who)
    (hi : s.get Reg.FAB_CMD_ARG_SLOT = i) (hlt : i < 16) : answers (.seedWrite who addr) s fun t =>
      Map.find? t.fab.seeds i = (if ofBE (toBytes 16 addr) = 0 then none else some (ofBE (toBytes 16 addr))) ∧
      t.get Reg.FAB_CMD_STATUS_STATUS = St.ok ∧ t.mem = s.mem := by
  have e : exec (.seedWrite who addr) s = execSeedWrite who addr s := rfl
  unfold execSeedWrite at e
  rw [hi] at e
  refine answers_fabDone (st := St.ok) (o := i) (t := s.updFab fun u => { u with
      seeds := if ofBE (toBytes 16 addr) = 0 then Map.del s.fab.seeds i else Map.put s.fab.seeds i (ofBE (toBytes 16 addr)) }) h e
    (if_neg (Nat.not_le.2 hlt))
    fun p _ => ⟨?_, by simp [St.ok], by simp⟩
  rw [cmdFinish_fab, State.updFab_fab]
  split <;> simp

/-! ### Register accesses over the fabric -/

/-- What a send names: its target, its operation and its owner, and what it carries. -/
def Send.head (x : Send) : Nat × Nat × Owner × Nat × Nat × Nat := (x.peer, x.op, x.owner, x.atop, x.off, x.operand)

def State.sendHeads (s : State) : List (Nat × Nat × Owner × Nat × Nat × Nat) := s.tlt.sends.map Send.head

theorem State.sendHeads_congr {s t : State} (h : t.tlt = s.tlt) : t.sendHeads = s.sendHeads := by rw [State.sendHeads, h]; rfl

/-- The sends are as before where the TLT part is. -/
theorem sendHeads_of_but {s t : State} (h : t.but (butPart .tlt) = s.but (butPart .tlt)) :
    t.sendHeads = s.sendHeads := State.sendHeads_congr (samePart_of_butPart h)

theorem updSend_sendHeads (peer msg : Nat) (f : Send → Send) (hf : ∀ x, (f x).head = x.head) (s : State) :
    (updSend peer msg f s).sendHeads = s.sendHeads := by
  simp only [State.sendHeads, updSend, State.updTlt_tlt, List.map_map]
  refine List.map_congr_left fun x _ => ?_
  simp only [Function.comp_apply]
  split
  · exact hf x
  · rfl

theorem updPeer_sendHeads (d : Nat) (f : PeerX → PeerX) (s : State) : (updPeer d f s).sendHeads = s.sendHeads := rfl

theorem chunkLeft_sendHeads (peer msg chunk : Nat) (s : State) : (chunkLeft peer msg chunk s).sendHeads = s.sendHeads := by
  unfold chunkLeft
  cases s.send peer msg with
  | none => rfl
  | some x =>
    have hu := updSend_sendHeads peer msg (fun y => { y with left := insertNat chunk x.left }) (fun _ => rfl) s
    dsimp only
    split
    · split
      · exact (sendHeads_of_but (finish_but (by decide +kernel) ..)).trans hu
      · exact hu
    · exact hu

theorem pickPath_sendHeads {d : Nat} {avoid : Option Nat} {s : State} {r : Nat × State} (h : pickPath d avoid s = some r) :
    r.2.sendHeads = s.sendHeads := by
  unfold pickPath at h
  dsimp only at h
  split at h
  · rw [← Option.some.inj h]
    rfl
  · exact absurd h nofun

theorem sendPacket_sendHeads (queue : Option Nat) (tl : Option (Nat × Nat × Nat)) (avoid : Option Nat) (p : TlPkt) (s : State) :
    (sendPacket queue tl avoid p s).2.sendHeads = s.sendHeads := by
  unfold sendPacket
  split
  · rfl
  next i t e =>
  have ht := pickPath_sendHeads e
  have hs : (txCount p.data.length (pathSent p.dst i t)).sendHeads = t.sendHeads := by
    rw [sendHeads_of_but (txCount_but (by decide +kernel) ..), sendHeads_of_but (pathSent_but (by decide +kernel) ..)]
  cases queue with
  | none => exact hs.trans ht
  | some q =>
    refine (sendHeads_of_but (enqueue_but (by decide +kernel) ..)).trans ?_
    exact (sendHeads_of_but (underlayFrame_but (by decide +kernel) ..)).trans (hs.trans ht)

theorem sendChunk_sendHeads (peer msg k : Nat) (s : State) : (sendChunk peer msg k false s).sendHeads = s.sendHeads := by
  unfold sendChunk
  cases s.send peer msg with
  | none => rfl
  | some x =>
    have hp := sendPacket_sendHeads x.queue (if x.carries then some (peer, msg, k) else none) (Map.find? x.lastPath k) (x.packet s k false) s
    simp only [Bool.false_eq_true, if_false]
    split
    · exact hp
    · next i _ =>
      have hu := (updSend_sendHeads peer msg (fun y => { y with lastPath := Map.put y.lastPath k i }) (fun _ => rfl) _).trans hp
      split
      · exact (chunkLeft_sendHeads ..).trans hu
      · exact hu

theorem foldl_sendHeads {α : Type} {f : State → α → State} (hf : ∀ s a, (f s a).sendHeads = s.sendHeads) (l : List α) (s : State) :
    (l.foldl f s).sendHeads = s.sendHeads := by
  induction l generalizing s with
  | nil => rfl
  | cons a l ih => rw [List.foldl_cons, ih, hf]

theorem pump_sendHeads (peer msg : Nat) (s : State) : (pump peer msg s).sendHeads = s.sendHeads := by
  unfold pump
  cases s.send peer msg with
  | none => rfl
  | some x =>
    dsimp only
    split
    · refine (foldl_sendHeads (fun t k => sendChunk_sendHeads ..) _ _).trans (updSend_sendHeads _ _ _ ?_ _)
      exact fun _ => rfl
    · rfl

theorem newSend_sendHeads (x : Send) (s : State) : (newSend x s).sendHeads = s.sendHeads ++ [x.head] := by
  unfold newSend
  dsimp only
  rw [pump_sendHeads, sendHeads_of_but (peerCount_but (by decide +kernel) ..), State.sendHeads, State.updTlt_tlt, List.map_append]
  rfl

/-- A new send is among the sends, with what it names. -/
theorem mem_newSend (x : Send) (s : State) : ∃ y ∈ (newSend x s).tlt.sends, y.head = x.head := by
  have h : x.head ∈ (newSend x s).sendHeads := by
    rw [newSend_sendHeads]
    exact List.mem_append_right _ (List.mem_singleton_self _)
  exact List.mem_map.1 h

/-- The send of a register access: a read (atop 0) or a write (atop 1) at the address of FAB_RMT_ADDR. -/
def rmtSend (a : Nat) (write : Bool) (s : State) : Send :=
  { Send.blank with peer := fabDev a, op := 0x49, owner := .reg, atop := if write then 1 else 0, off := a
                    operand := if write then s.get Reg.FAB_RMT_DATA_DATA else 0 }

/-- A register access to a device that can take one is sent and leaves the command register busy. -/
theorem answers_rmtCmd {c : Instr} {op : Nat} {who : Issuer} {write : Bool} {a : Nat} {s : State} (h : managerCmd s Blk.fab 0x1000000 who)
    (ha : s.get Reg.FAB_RMT_ADDR_ADDR = a) (hsp : fabSpace a = 2) (hal : fabOff a % 8 = 0) (hp : peerStatus s (fabDev a) = St.ok)
    (hr : s.sendRoom (fabDev a) = true) (e : exec c s = rmtCmd op who write s) : answers c s fun t =>
      (∃ y ∈ t.tlt.sends, y.head = (rmtSend a write s).head) ∧ t.get Reg.FAB_CMD_BUSY = 1 ∧ t.mem = s.mem := by
  subst ha
  refine answers_fabRunning (t := newSend (rmtSend (s.get Reg.FAB_RMT_ADDR_ADDR) write s) s) h e ?_
    fun p => ⟨?_, State.get_set_same .., ?_⟩
  · simp only [hsp, hal, hp, hr, ne_eq, not_true_eq_false, Bool.true_eq_false, if_false]
    rfl
  · rw [State.set_tlt, State.updCmds_tlt]
    exact mem_newSend _ s
  · rw [State.set_mem, State.updCmds_mem]
    exact mem_of_but (newSend_but (by decide +kernel) _ s)

theorem rmtRead_completes (who : Issuer) (a : Nat) (s : State) (h : managerCmd s Blk.fab 0x1000000 who) (ha : s.get Reg.FAB_RMT_ADDR_ADDR = a)
    (hsp : fabSpace a = 2) (hal : fabOff a % 8 = 0) (hp : peerStatus s (fabDev a) = St.ok) (hr : s.sendRoom (fabDev a) = true) :
    answers (.rmtRead who) s fun t => (∃ y ∈ t.tlt.sends, (y.peer, y.op, y.owner, y.atop, y.off) = (fabDev a, 0x49, Owner.reg, 0, a)) ∧
      t.get Reg.FAB_CMD_BUSY = 1 ∧ t.mem = s.mem := by
  obtain ⟨t, et, ⟨y, hy, ey⟩, hrest⟩ := answers_rmtCmd (c := .rmtRead who) h ha hsp hal hp hr rfl
  have ey' : (y.peer, y.op, y.owner, y.atop, y.off, y.operand) = (fabDev a, 0x49, Owner.reg, 0, a, 0) := ey
  refine ⟨t, et, ⟨y, hy, ?_⟩, hrest⟩
  simp_all only [Prod.mk.injEq]

theorem rmtWrite_completes (who : Issuer) (a : Nat) (s : State) (h : managerCmd s Blk.fab 0x1000000 who) (ha : s.get Reg.FAB_RMT_ADDR_ADDR = a)
    (hsp : fabSpace a = 2) (hal : fabOff a % 8 = 0) (hp : peerStatus s (fabDev a) = St.ok) (hr : s.sendRoom (fabDev a) = true) :
    answers (.rmtWrite who) s fun t => (∃ y ∈ t.tlt.sends, (y.peer, y.op, y.owner, y.atop, y.off, y.operand) =
      (fabDev a, 0x49, Owner.reg, 1, a, s.get Reg.FAB_RMT_DATA_DATA)) ∧ t.get Reg.FAB_CMD_BUSY = 1 ∧ t.mem = s.mem :=
  answers_rmtCmd (c := .rmtWrite who) (write := true) h ha hsp hal hp hr rfl

/-- Settles O43: each command from its own lemma above. -/
theorem fabricCommandsComplete : Obligations.FabricCommandsComplete := by
  unfold Obligations.FabricCommandsComplete
  refine ⟨?_, ?_, ?_, ?_, ?_, ?_, ?_, ?_, ?_, ?_, ?_, ?_⟩
  · rintro who desc n off s ⟨h, hn, hv, hf, hp, hs, hw⟩
    exact segCreate_completes who desc n off s h hn hv hf hp hs hw
  · rintro who g x s ⟨h, hg, hx, hl, hs⟩
    exact segDestroy_completes who g x s h hg hx hl hs
  · rintro who entry g x s ⟨h, hg, hx, hl, hr, hz⟩
    exact segGrant_completes who entry g x s h hg hx hl hr hz
  · rintro who g x s ⟨h, hg, hx, hl, hs⟩
    exact segRevoke_completes who g x s h hg hx hl hs
  · rintro who entry n s ⟨h, hn, hlt, hr, hz3, hlen, hz24, hsp, hf, hs⟩
    exact importAdd_completes who entry n s h hn hlt hr hz3 hlen hz24 hsp hf hs
  · rintro who i x s ⟨h, hi, hx, hl⟩
    exact importDel_completes who i x s h hi hx hl
  · rintro who fn f s ⟨h, hfn, hf, hk, hv, hi⟩
    exact apertureSet_removes who fn f s h hfn hf hk hv hi
  · rintro who fn f x s ⟨h, hfn, hf, hk, hv, hi, hx, hb, hn, hl⟩
    exact apertureSet_sets who fn f x s h hfn hf hk hv hi hx hb hn hl
  · rintro who template i s ⟨h, hi, hlt, h0, h1, h5, h14, h32⟩
    exact fabTemplateWrite_completes who template i s h hi hlt h0 h1 h5 h14 h32
  · rintro who addr i s ⟨h, hi, hlt⟩
    exact seedWrite_completes who addr i s h hi hlt
  · rintro who a s ⟨h, ha, hsp, hal, hp, hr⟩
    exact rmtRead_completes who a s h ha hsp hal hp hr
  · rintro who a s ⟨h, ha, hsp, hal, hp, hr⟩
    exact rmtWrite_completes who a s h ha hsp hal hp hr

end Sys2Proof.Machine
end

section
/-!
CERTIFICATE. Supply events and the commands of PWR_CMD.
-/
namespace Sys2Proof.Machine
set_option Elab.async false

/-! ### What the shared operations make of the device state -/

theorem dev_of_butField {s t : State} (h : t.but (butField Reg.IDN_STATE_STATE) = s.but (butField Reg.IDN_STATE_STATE)) : t.dev = s.dev :=
  get_of_butField h

theorem dev_set (s : State) (v : Nat) : (s.set Reg.IDN_STATE_STATE v).dev = v % 8 := State.get_set_same ..

theorem dev_set_ne (s : State) {f : Field} (v : Nat) (h : f.touch ≠ Reg.IDN_STATE_STATE.touch) : (s.set f v).dev = s.dev :=
  State.get_set_touch_ne s v h

/-- A change of state leaves the state it names. -/
theorem enterState_dev (new cause : Nat) (s : State) : (enterState new cause s).dev = new % 8 := by
  unfold enterState
  extract_lets old versioned s1 s2 s3 s4
  have h1 : s1.dev = new % 8 := (dev_set_ne _ _ (by decide)).trans (dev_set s new)
  have h2 : s2.dev = new % 8 := by
    change (if versioned new = true ∧ versioned old = false then _ else _ : State).dev = _
    split <;> exact h1
  have h3 : s3.dev = new % 8 := (dev_set_ne _ _ (by decide)).trans h2
  have h4 : s4.dev = new % 8 := by
    change (if new = 4 ∧ old ≠ 4 then _ else _ : State).dev = _
    split
    · exact (dev_of_butField (enterService_but (by decide +kernel) s3)).trans h3
    · exact h3
  exact (dev_of_butField (jDevice_but (by decide +kernel) ..)).trans h4

theorem enterSafe_dev (cause : Nat) (s : State) : (enterSafe cause s).dev = 7 := enterState_dev 7 cause _

theorem patina_dev (code sev detail : Nat) (s : State) : (patina code sev detail s).dev = s.dev :=
  dev_of_butField (patina_but (by decide +kernel) ..)

theorem pwr_of_butPart {s t : State} (h : t.but (butPart .pwr) = s.but (butPart .pwr)) : t.pwr = s.pwr := samePart_of_butPart h

/-! ### Supplies -/

theorem auxPowerPresent_completes (s : State) (h : s.pwr.aux = false) : answers .auxPowerPresent s fun t => t.dev = 1 ∧ t.pwr.aux = true := by
  refine ⟨(s.updPwr fun u => { u with aux := true }).set Reg.IDN_STATE_STATE 1, ?_, dev_set .., by simp⟩
  exact congrArg Host.Outcome.next (if_neg (ne_true_of_eq_false h))

/-- A field whose places a filter of the registers keeps reads as before. -/
theorem getI_filter {s t : State} {keep : Nat → Bool} (h : t.regs = s.regs.filter fun p => keep p.1) (f : Field) (i : Nat)
    (hk : keep (f.key i) = true) : t.getI f i = s.getI f i := by
  rw [State.getI, h, Map.find?_filter _ _ keep hk]
  rfl

theorem auxPowerLost_completes (s : State) : answers .auxPowerLost s fun t =>
    t.dev = 0 ∧ t.pwr.aux = false ∧ t.pat.ring = [] ∧ t.jnl.log = [] := by
  have e : exec .auxPowerLost s = execAuxPowerLost s := rfl
  unfold execAuxPowerLost at e
  refine ⟨_, e, ?_⟩
  extract_lets lost r fuse _src s1 s2
  have hs (p : Part) : samePart p s1 s2 :=
    samePart_of_but (E := listed [] [Reg.ARM_TALLY_GRANT_DEVICE, Reg.ARM_TALLY_GRANT_PLATFORM]) (foldl_but (fun t i => by
      rw [State.setI_but (by decide), State.setI_but (by decide)]) _ _) p rfl
  refine ⟨dev_set .., ?_, ?_, ?_⟩
  · rw [State.set_pwr, show s2.pwr = s1.pwr from hs .pwr]
  · rw [State.set_pat, show s2.pat = s1.pat from hs .pat]
    rfl
  · rw [State.set_jnl, show s2.jnl = s1.jnl from hs .jnl]
    rfl

theorem requestMain_pwr (by_ : Option Issuer) (s : State) :
    (requestMain by_ s).pwr = { s.pwr with mainEn := true, pgFailed := false, poweredBy := by_ } := rfl

theorem strapSample_completes (autoOn : Bool) (mgmtAddr : Nat) (rgmiiEn flashMode test : Bool) (s : State) :
    answers (.strapSample autoOn mgmtAddr rgmiiEn flashMode test) s fun t => (t.pwr.straps.map fun x => x.autoOn) = some autoOn ∧
      (autoOn = true → s.dev = 1 → t.pwr.mainEn = true) := by
  have e : exec (.strapSample autoOn mgmtAddr rgmiiEn flashMode test) s = execStrapSample autoOn mgmtAddr rgmiiEn flashMode test s := rfl
  unfold execStrapSample at e
  refine ⟨_, e, ?_⟩
  extract_lets t
  have ht : (t.pwr.straps.map fun x => x.autoOn) = some autoOn := rfl
  by_cases h : autoOn = true ∧ t.dev = 1 ∧ t.pwr.mainEn = false
  · rw [if_pos h]
    exact ⟨ht, fun _ _ => rfl⟩
  · rw [if_neg h]
    refine ⟨ht, fun ha hd => ?_⟩
    by_contra hm
    exact h ⟨ha, hd, Bool.eq_false_iff.2 hm⟩

theorem powerOn_completes (eid : Nat) (hot : Int) (s : State) (hd : s.dev = 1) (hh : hot < (s.get Reg.PWR_THERM_T_CRIT : Int)) :
    answers (.powerOn eid hot) s fun t => t.pwr.mainEn = true ∧ t.out = s.out ++ [.mctp eid St.ok []] := by
  refine ⟨(requestMain (some ⟨.platform, .mctp, 0, eid⟩) s).emit (.mctp eid St.ok []), ?_, rfl, rfl⟩
  exact congrArg Host.Outcome.next (if_neg (not_or.2 ⟨not_not_intro hd, Int.not_le.2 hh⟩))

theorem mainPgAsserted_completes (s : State) (he : s.pwr.mainEn = true) (hd : s.dev = 1) : answers .mainPgAsserted s fun t =>
    t.dev = 2 ∧ t.stk.phcRunning = true ∧ t.pwr.mainPg = true := by
  have hc : ¬(s.pwr.mainEn = false ∨ s.dev ≠ 1) := not_or.2 ⟨by simp [he], not_not_intro hd⟩
  have e : exec .mainPgAsserted s = execMainPgAsserted s := rfl
  unfold execMainPgAsserted at e
  rw [if_neg hc] at e
  refine ⟨_, e, ?_⟩
  extract_lets s1 s2 s3
  have hp (p : Part) (h : (startEpoch.within (butPart p) && bootDraws.within (butPart p) && bootKey.within (butPart p)) = true) :
      samePart p s2 s3 := by
    simp only [Bool.and_eq_true] at h
    obtain ⟨⟨h1, h2⟩, h3⟩ := h
    exact samePart_of_butPart ((bootKey_but h3 _).trans ((bootDraws_but h2 _).trans (startEpoch_but h1 _)))
  have hstk : s3.stk = s2.stk := hp .stk (by decide +kernel)
  have hpwr : s3.pwr = s2.pwr := hp .pwr (by decide +kernel)
  refine ⟨enterState_dev 2 0 _, ?_, ?_⟩
  · rw [enterState_stk, State.set_stk, State.draw, State.updFree_stk, hstk]
    rfl
  · rw [enterState_pwr, State.set_pwr, State.draw, State.updFree_pwr, hpwr]
    rfl

theorem mainPgTimeout_completes (s : State) (he : s.pwr.mainEn = true) (hp : s.pwr.mainPg = false) : answers .mainPgTimeout s fun t =>
    t.pwr.mainEn = false ∧ t.pwr.pgFailed = true := by
  refine ⟨_, congrArg Host.Outcome.next (if_pos ⟨he, hp⟩), ?_⟩
  beta_reduce
  rw [patina_pwr]
  exact ⟨rfl, rfl⟩

theorem loseMain_dev (s : State) : (loseMain s).dev = s.dev := by
  unfold loseMain
  extract_lets keep r prevHead epoch _ _ _ _ _ s1
  have h1 : s1.dev = s.dev := getI_filter (s := s) (t := s1) (keep := keep) rfl Reg.IDN_STATE_STATE 0 (by decide)
  exact (dev_of_butField (State.sets_but (by simp only [List.forall_mem_cons]; decide) s1)).trans h1

theorem loseMain_mainPg (s : State) : (loseMain s).pwr.mainPg = false := by
  unfold loseMain
  rw [State.sets_pwr]
  rfl

theorem mainPgDeasserted_completes (s : State) (hd : 1 < s.dev) : answers .mainPgDeasserted s fun t =>
    t.dev = 1 ∧ t.pwr.mainPg = false ∧ t.mem = [] := by
  refine ⟨_, congrArg Host.Outcome.next (if_neg (Nat.not_le.2 hd)), ?_, loseMain_mainPg _, ?_⟩
  · rw [loseMain_dev, dev_of_butField (jobAbandon_but (by decide +kernel) _)]
    split
    · exact dev_set ..
    · exact enterState_dev 1 0 _
  · exact loseMain_mem _

theorem powerOffMainEnDrop_completes (s : State) (h : s.pwr.offAt.isSome = true) : answers .powerOffMainEnDrop s fun t =>
    t.pwr.mainEn = false ∧ t.pwr.offAt = none := by
  obtain ⟨b, hb⟩ := Option.isSome_iff_exists.1 h
  have e : exec .powerOffMainEnDrop s = execPowerOffMainEnDrop s := rfl
  unfold execPowerOffMainEnDrop at e
  rw [hb] at e
  exact ⟨_, e, rfl, rfl⟩

/-! ### Power steps -/

theorem powerStepB2_completes (s : State) (hd : 2 ≤ s.dev) (hb : s.pwr.b2 = false) : answers .powerStepB2 s fun t => t.pwr.b2 = true := by
  refine ⟨_, congrArg Host.Outcome.next (if_pos ⟨hd, hb⟩), ?_⟩
  beta_reduce
  rw [pwr_of_butPart (trainLinks_but (by decide +kernel) _), pwr_of_butPart (trainMode_but (by decide +kernel) _)]
  rfl

theorem powerStepWaitExceeded_completes (s : State) (hw : s.pwr.waitSince = some 0) (hb : 65536 ≤ s.stk.boundary) :
    answers .powerStepWaitExceeded s fun t => t.dev = 7 := by
  have e : exec .powerStepWaitExceeded s = execPowerStepWaitExceeded s := rfl
  unfold execPowerStepWaitExceeded at e
  rw [hw] at e
  refine ⟨_, e.trans (congrArg Host.Outcome.next (if_pos (by omega))), enterSafe_dev ..⟩

theorem safeEntry_completes (cause : Nat) (s : State) (hlo : 2 ≤ s.dev) (hhi : s.dev ≤ 6) : answers (.safeEntry cause) s fun t => t.dev = 7 :=
  ⟨_, congrArg Host.Outcome.next (if_pos ⟨hlo, hhi⟩), enterSafe_dev ..⟩

/-! ### The commands of PWR_CMD -/

theorem cmdFinish_pwr_status (p : CmdPend) (st : Nat) (s : State) : (cmdFinish Blk.pwr p st s).get Reg.PWR_CMD_STATUS_STATUS = st % 2 ^ 8 :=
  cmdReport_status Blk.pwr (by decide) ..

theorem cmdFinish_pwr_dev (p : CmdPend) (st : Nat) (s : State) : (cmdFinish Blk.pwr p st s).dev = s.dev :=
  dev_of_butField (cmdFinish_but _ (by decide +kernel) ..)

theorem jReady_of_platform {s : State} {who : Issuer} (h : who.role = .platform) : s.jReady who = true := by
  simp [State.jReady, h]

/-- A command of PWR_CMD whose action ends with ST_OK answers the state that its report leaves. -/
theorem answers_pwrDone {c : Instr} {op : Nat} {who : Issuer} {roles : List Role} {act : State → CmdRes} {s : State} {P : State → Prop}
    (t : State) (hr : roles.contains who.role = true) (hc : cmdOpen s Blk.pwr who) (he : exec c s = pwrCmd op who roles act s)
    (ha : act s = .done St.ok 0 t)
    (hP : ∀ p : CmdPend, (cmdFinish Blk.pwr p St.ok t).get Reg.PWR_CMD_STATUS_STATUS = St.ok → P (cmdFinish Blk.pwr p St.ok t)) :
    answers c s P := by
  refine ⟨_, he, ?_⟩
  rw [hr, cmdStart_done hc ha]
  exact hP _ (cmdFinish_pwr_status ..)

theorem cmdFinish_pwr_pstate (p : CmdPend) (st : Nat) (s : State) :
    (cmdFinish Blk.pwr p st s).get Reg.PWR_STATE_PSTATE = s.get Reg.PWR_STATE_PSTATE := get_of_butField (cmdFinish_but _ (by decide +kernel) ..)

/-- A platform's command whose action ends with ST_OK, and what its report leaves of the action's state. -/
theorem answers_platform {c : Instr} {op : Nat} {who : Issuer} {roles : List Role} {act : State → CmdRes} {s : State} {P : State → Prop}
    (t : State) (hr : who.role = .platform) (hb : s.flag Reg.PWR_CMD_BUSY = false) (hm : roles.contains .platform = true)
    (he : exec c s = pwrCmd op who roles act s) (ha : act s = .done St.ok 0 t)
    (hP : ∀ p : CmdPend, P (cmdFinish Blk.pwr p St.ok t)) : answers c s fun u => P u ∧ u.get Reg.PWR_CMD_STATUS_STATUS = St.ok :=
  answers_pwrDone t (by rw [hr]; exact hm) ⟨jReady_of_platform hr, hb⟩ he ha fun p hst => ⟨hP p, hst⟩

theorem checkReady_of_ready {s : State} (h : s.flag Reg.PWR_SEQ_READY = true) : checkReady s = s := by
  simp [checkReady, h]

theorem enterService_completes (who : Issuer) (s : State) (hr : who.role = .manager) (hj : s.jReady who = true)
    (hb : s.flag Reg.PWR_CMD_BUSY = false) (hd : s.dev = 3) (hy : s.flag Reg.PWR_SEQ_READY = true) :
    answers (.enterService who) s fun t => t.dev = 4 ∧ t.get Reg.PWR_CMD_STATUS_STATUS = St.ok := by
  have e : exec (.enterService who) s = execEnterService who s := rfl
  unfold execEnterService at e
  refine answers_pwrDone (enterState 4 0 (stageDiscard s)) (by rw [hr]; rfl) ⟨hj, hb⟩ e ?_ fun p hst => ⟨?_, hst⟩
  · simp only [checkReady_of_ready hy, hd, hy, and_self, if_true]
  · rw [cmdFinish_pwr_dev, enterState_dev]

theorem jobAbortedState_dev (s : State) : (jobAbortedState s).dev = s.dev := dev_of_butField (jobAbortedState_but (by decide +kernel) s)

theorem testEnter_completes (who : Issuer) (s : State) (hr : who.role = .platform) (hb : s.flag Reg.PWR_CMD_BUSY = false) (hd : s.dev = 4)
    (hp : s.get Reg.PWR_STATE_PSTATE = 0) : answers (.testEnter who) s fun t => t.dev = 5 ∧ t.get Reg.PWR_CMD_STATUS_STATUS = St.ok := by
  have e : exec (.testEnter who) s = execTestEnter who s := rfl
  unfold execTestEnter at e
  refine answers_platform _ hr hb rfl e (if_pos ⟨hd, hp⟩) fun p => ?_
  rw [cmdFinish_pwr_dev, jobAbortedState_dev, enterState_dev]

theorem testExit_completes (who : Issuer) (s : State) (hr : who.role = .platform) (hb : s.flag Reg.PWR_CMD_BUSY = false) (hd : s.dev = 5) :
    answers (.testExit who) s fun t => t.dev = 4 ∧ t.get Reg.PWR_CMD_STATUS_STATUS = St.ok := by
  have e : exec (.testExit who) s = execTestExit who s := rfl
  unfold execTestExit at e
  refine answers_platform _ hr hb rfl e (if_pos hd) fun p => ?_
  rw [cmdFinish_pwr_dev, jobAbortedState_dev, enterState_dev]

theorem standby_completes (who : Issuer) (s : State) (hr : who.role = .platform) (hb : s.flag Reg.PWR_CMD_BUSY = false)
    (ha : standbyAllowed s = true) : answers (.standby who) s fun t =>
      t.deferred = s.deferred ++ [(s.dueBoundary, .enterP1)] ∧ t.get Reg.PWR_CMD_STATUS_STATUS = St.ok := by
  have e : exec (.standby who) s = execStandby who s := rfl
  unfold execStandby at e
  refine answers_platform _ hr hb rfl e (if_pos ha) fun p => ?_
  rw [cmdFinish_deferred, State.defer, State.updDeferred_deferred, State.set_deferred, State.dueBoundary, State.set_stk]
  rfl

theorem wake_completes (who : Issuer) (s : State) (hr : who.role = .platform) (hb : s.flag Reg.PWR_CMD_BUSY = false)
    (hp : s.get Reg.PWR_STATE_PSTATE = 2) : answers (.wake who) s fun t =>
      t.get Reg.PWR_STATE_PSTATE = 3 ∧ t.pwr.nextStep = 1 ∧ t.get Reg.PWR_CMD_STATUS_STATUS = St.ok := by
  have e : exec (.wake who) s = execWake who s := rfl
  unfold execWake at e
  obtain ⟨t, et, ⟨hs, hn⟩, hst⟩ := answers_platform (P := fun t => t.get Reg.PWR_STATE_PSTATE = 3 ∧ t.pwr.nextStep = 1)
    (leaveP1 s) hr hb rfl e (if_pos hp) fun p => by
      rw [cmdFinish_pwr_pstate, cmdFinish_pwr, leaveP1, if_pos (.inl hp)]
      exact ⟨State.get_set_same .., rfl⟩
  exact ⟨t, et, hs, hn, hst⟩

theorem powerOff_completes (who : Issuer) (s : State) (hr : who.role = .platform) (hb : s.flag Reg.PWR_CMD_BUSY = false) (hd : 1 < s.dev) :
    answers (.powerOff who) s fun t => t.pwr.offAt = some s.dueBoundary ∧ t.get Reg.PWR_CMD_STATUS_STATUS = St.ok := by
  have e : exec (.powerOff who) s = execPowerOff who s := rfl
  unfold execPowerOff at e
  refine answers_platform _ hr hb rfl e (if_neg (Nat.not_le.2 hd)) fun p => ?_
  rw [cmdFinish_pwr, State.updPwr_pwr]
  simp [State.dueBoundary]

theorem safe_completes (who : Issuer) (s : State) (hr : who.role = .platform) (hb : s.flag Reg.PWR_CMD_BUSY = false) (hlo : 2 ≤ s.dev)
    (hhi : s.dev ≤ 6) : answers (.safe who) s fun t => t.dev = 7 ∧ t.get Reg.PWR_CMD_STATUS_STATUS = St.ok := by
  have e : exec (.safe who) s = execSafe who s := rfl
  unfold execSafe at e
  refine answers_platform _ hr hb rfl e (if_pos ⟨hlo, hhi⟩) fun p => ?_
  rw [cmdFinish_pwr_dev, enterSafe_dev]

theorem restart_completes (who : Issuer) (s : State) (hr : who.role = .platform) (hb : s.flag Reg.PWR_CMD_BUSY = false) (hd : s.dev = 7)
    (hp : s.pwr.mainPg = true) (ht : s.pwr.thermtrip = false) : answers (.restart who) s fun t =>
      t.dev = 2 ∧ t.get Reg.PWR_CMD_STATUS_STATUS = St.ok := by
  have e : exec (.restart who) s = execRestart who s := rfl
  unfold execRestart at e
  refine answers_platform _ hr hb rfl e (if_pos ⟨hd, hp, ht⟩) fun p => ?_
  rw [cmdFinish_pwr_dev, enterState_dev]

/-! ### Limits and function power states -/

theorem setLevel_tempLevel (temp power : Nat) (s : State) : (setLevel temp power s).get Reg.PWR_STATE_TEMP_LEVEL = temp % 4 := by
  unfold setLevel
  extract_lets old new s1 s2 s3
  have h1 : s1.get Reg.PWR_STATE_TEMP_LEVEL = temp % 4 :=
    (State.get_set_touch_ne _ _ (by dsimp only; decide)).trans
      ((State.get_set_touch_ne _ _ (by dsimp only; decide)).trans (State.get_set_same ..))
  have h2 : s2.get Reg.PWR_STATE_TEMP_LEVEL = temp % 4 := (get_of_butField (count_but _ (by decide +kernel) s1)).trans h1
  have h3 : s3.get Reg.PWR_STATE_TEMP_LEVEL = temp % 4 := by
    change (if new = 3 then _ else _ : State).get _ = _
    split
    · exact (get_of_butField (patina_but (by decide +kernel) ..)).trans h2
    · exact h2
  split
  · split
    · exact h3
    · exact (State.get_set_touch_ne _ _ (by decide)).trans h3
  · exact h1

theorem flag_set_one {s : State} {f : Field} (h : f.width = 1) : (s.set f 1).flag f = true := by
  rw [State.flag, State.get_set_same, h]
  rfl

theorem tCritReached_completes (sensor : Nat) (hot : Int) (s : State) (h : (s.get Reg.PWR_THERM_T_CRIT : Int) ≤ hot) :
    answers (.tCritReached sensor hot) s fun t => t.flag Reg.PWR_STATUS_CRIT = true ∧ t.get Reg.PWR_STATE_TEMP_LEVEL = 3 := by
  refine ⟨_, congrArg Host.Outcome.next (if_pos h), flag_set_one rfl, ?_⟩
  refine (State.get_set_touch_ne _ _ (by decide)).trans ((get_of_butField (patina_but (by decide +kernel) ..)).trans ?_)
  exact setLevel_tempLevel ..

theorem capOverDetected_completes (s : State) : answers .capOverDetected s fun t => t.flag Reg.PWR_STATUS_CAP_OVER = true ∧ t.mem = s.mem :=
  ⟨s.set Reg.PWR_STATUS_CAP_OVER 1, rfl, flag_set_one rfl, by simp⟩

theorem thermtrip_completes (sensor : Nat) (s : State) (hlo : 2 ≤ s.dev) (hhi : s.dev ≤ 6) : answers (.thermtrip sensor) s fun t =>
    t.dev = 7 ∧ t.pwr.thermtrip = true := by
  have e : exec (.thermtrip sensor) s = execThermtrip sensor s := rfl
  unfold execThermtrip at e
  refine ⟨_, e, ?_⟩
  extract_lets t
  have ht : t.dev = s.dev := patina_dev ..
  rw [ht, if_pos ⟨hlo, hhi⟩]
  beta_reduce
  rw [pwr_of_butPart (enterSafe_but (by decide +kernel) _ t)]
  refine ⟨enterSafe_dev .., ?_⟩
  change (patina 0x1A00 Sev.fatal sensor _).pwr.thermtrip = true
  rw [patina_pwr]
  rfl

theorem dstateChange_completes (ap rid dstate : Nat) (s : State) (he : s.flagI Reg.HIF_FN_INFO_EXISTS (fnKey ap rid) = true)
    (hb : s.flagI Reg.HIF_FN_INFO_FLR_BUSY (fnKey ap rid) = false) (hs : s.getI Reg.HIF_FN_INFO_DSTATE (fnKey ap rid) = 0)
    (hd : dstate = 3) : answers (.dstateChange ap rid dstate) s fun t => t.getI Reg.HIF_FN_INFO_DSTATE (fnKey ap rid) = 3 ∧
      t.deferred = s.deferred ++ [(s.dueBoundary, .fnFetch (fnKey ap rid) false)] := by
  subst hd
  have e : exec (.dstateChange ap rid 3) s = execDstateChange ap rid 3 s := rfl
  unfold execDstateChange at e
  rw [if_neg (by simp [he, hb, hs])] at e
  refine ⟨_, e, ?_, ?_⟩
  · exact (getI_of_butField (standbyShow_but (by decide +kernel) _) _).trans (State.getI_setI_same ..)
  · refine (show _ = _ from samePart_of_butPart (p := .deferred) (standbyShow_but (by decide +kernel) _)).trans ?_
    simp [State.defer, State.dueBoundary]

/-! ### The next domain group -/

/-- Every change but those of the power part and of the step shown. -/
def butStep : Touch → Bool := fun c => butPart .pwr c && butField Reg.PWR_SEQ_STEP c

theorem ite_but {E : Touch → Bool} {c : Prop} [Decidable c] {s t u : State} (ht : t.but E = s.but E) (hu : u.but E = s.but E) :
    (if c then t else u).but E = s.but E := by
  split
  · exact ht
  · exact hu

/-- The step counted and shown. -/
def stepCounted (s : State) : State :=
  ((s.updPwr fun u => { u with nextStep := s.pwr.nextStep + 1, steppedAt := s.stk.boundary, waitSince := none }).set Reg.PWR_SEQ_WAITING 0).set
    Reg.PWR_SEQ_STEP s.pwr.nextStep

theorem stepCounted_dev (s : State) : (stepCounted s).dev = s.dev :=
  (dev_set_ne _ _ (by decide)).trans (dev_set_ne _ _ (by decide))

/-- After a step that passes, in BRINGUP, the step stays counted and shown whatever else the step does. -/
theorem execPowerStep_counts (repairs : Nat) (s : State) (hd : s.dev = 3) (hlo : 1 ≤ s.pwr.nextStep) (hhi : s.pwr.nextStep ≤ 18)
    (ht : s.pwr.steppedAt + s.get Reg.PWR_SEQ_STEP_STROKES ≤ s.stk.boundary) (hp : s.pwr.mainPg = true) :
    ∃ t, execPowerStep true [] repairs s = .next t ∧ t.but butStep = (stepCounted s).but butStep := by
  have hn : ¬((s.dev ≠ 3 ∧ s.get Reg.PWR_STATE_PSTATE ≠ 3) ∨ s.pwr.nextStep = 0 ∨ 18 < s.pwr.nextStep) := by
    rintro (⟨h, -⟩ | h | h)
    · exact h hd
    · omega
    · omega
  have hw : ¬(1 < s.pwr.nextStep ∧ s.stk.boundary < s.pwr.steppedAt + s.get Reg.PWR_SEQ_STEP_STROKES) := fun h => by omega
  have hm : ¬(true = false ∨ s.pwr.mainPg = false) := by simp [hp]
  refine ⟨_, congrArg Host.Outcome.next ((if_neg hn).trans ((if_neg hw).trans ((if_neg hm).trans (if_pos ?_)))), ?_⟩
  · exact (stepCounted_dev s).trans hd
  extract_lets s3 s4 s5 s6 s7
  have h3 : s3.but butStep = (stepCounted s).but butStep := State.setI_but (by decide) ..
  have h4 : s4.but butStep = (stepCounted s).but butStep := ite_but ((State.setI_but (by decide) ..).trans h3) rfl
  have h5 : s5.but butStep = (stepCounted s).but butStep := ite_but ((regionReady_but (by decide +kernel) _).trans h4) h4
  have h7 : s7.but butStep = (stepCounted s).but butStep := ite_but ((startRow_but (by decide +kernel) ..).trans h5) h5
  exact (checkReady_but (by decide +kernel) _).trans (ite_but ((lateSubstitutes_but (by decide +kernel) _).trans h7) h7)

theorem powerStep_completes (regulated : Bool) (failed : List Nat) (repairs : Nat) (s : State) (hd : s.dev = 3) (hlo : 1 ≤ s.pwr.nextStep)
    (hhi : s.pwr.nextStep ≤ 18) (ht : s.pwr.steppedAt + s.get Reg.PWR_SEQ_STEP_STROKES ≤ s.stk.boundary) (hp : s.pwr.mainPg = true)
    (hr : regulated = true) (hf : failed = []) : answers (.powerStep regulated failed repairs) s fun t =>
      t.pwr.nextStep = s.pwr.nextStep + 1 ∧ t.get Reg.PWR_SEQ_STEP = s.pwr.nextStep := by
  subst hr hf
  obtain ⟨t, et, hb⟩ := execPowerStep_counts repairs s hd hlo hhi ht hp
  have hpwr : t.pwr = (stepCounted s).pwr := samePart_of_but hb .pwr rfl
  have hstep : t.get Reg.PWR_SEQ_STEP = (stepCounted s).get Reg.PWR_SEQ_STEP := getI_of_but hb rfl _ (by decide) 0
  refine ⟨t, et, ?_, ?_⟩
  · rw [hpwr, stepCounted, State.set_pwr, State.set_pwr]
    rfl
  · rw [hstep, stepCounted, State.get_set_same]
    exact Nat.mod_eq_of_lt (Nat.lt_of_le_of_lt hhi (by decide))

/-- Settles O49: each command from its own lemma above. -/
theorem powerCommandsComplete : Obligations.PowerCommandsComplete := by
  unfold Obligations.PowerCommandsComplete
  refine ⟨auxPowerPresent_completes, auxPowerLost_completes, strapSample_completes, ?_, ?_, ?_, mainPgDeasserted_completes,
    powerOffMainEnDrop_completes, ?_, ?_, ?_, ?_, ?_, ?_, ?_, ?_, ?_, ?_, ?_, ?_, tCritReached_completes, capOverDetected_completes, ?_, ?_⟩
  · rintro eid hot s ⟨hd, hh⟩
    exact powerOn_completes eid hot s hd hh
  · rintro s ⟨he, hd⟩
    exact mainPgAsserted_completes s he hd
  · rintro s ⟨he, hp⟩
    exact mainPgTimeout_completes s he hp
  · rintro s ⟨hd, hb⟩
    exact powerStepB2_completes s hd hb
  · rintro regulated failed repairs s ⟨hd, hlo, hhi, ht, hp, hr, hf⟩
    exact powerStep_completes regulated failed repairs s hd hlo hhi ht hp hr hf
  · rintro s ⟨hw, hb⟩
    exact powerStepWaitExceeded_completes s hw hb
  · rintro who s ⟨hr, hj, hb, hd, hy⟩
    exact enterService_completes who s hr hj hb hd hy
  · rintro who s ⟨hr, hb, hd, hp⟩
    exact testEnter_completes who s hr hb hd hp
  · rintro who s ⟨hr, hb, hd⟩
    exact testExit_completes who s hr hb hd
  · rintro who s ⟨hr, hb, ha⟩
    exact standby_completes who s hr hb ha
  · rintro who s ⟨hr, hb, hp⟩
    exact wake_completes who s hr hb hp
  · rintro who s ⟨hr, hb, hd⟩
    exact powerOff_completes who s hr hb hd
  · rintro who s ⟨hr, hb, hlo, hhi⟩
    exact safe_completes who s hr hb hlo hhi
  · rintro who s ⟨hr, hb, hd, hp, ht⟩
    exact restart_completes who s hr hb hd hp ht
  · rintro cause s ⟨hlo, hhi⟩
    exact safeEntry_completes cause s hlo hhi
  · rintro sensor s ⟨hlo, hhi⟩
    exact thermtrip_completes sensor s hlo hhi
  · rintro ap rid dstate s ⟨he, hb, hs, hd⟩
    exact dstateChange_completes ap rid dstate s he hb hs hd

end Sys2Proof.Machine
end

section
/-!
CERTIFICATE. Accesses to registers without a row of their own.
-/
namespace Sys2Proof.Machine
set_option Elab.async false

/-! ### Reads and writes that meet no register -/

/-- A reply to an issuer that is not MCTP is the host's. -/
theorem reply_eq {who : Issuer} (h : who.origin ≠ .mctp) (v : Nat) (s : State) : reply who v s = s.emit (.hostReply who.ap who.id 0 v) := by
  unfold reply
  split
  · exact absurd ‹_› h
  · rfl

theorem emit_out (s : State) (x : Out) : (s.emit x).out = s.out ++ [x] := rfl

theorem patinaPush_head (e : PEntry) (s : State) : (patinaPush e s).pat.ring.head? = some e := by
  rw [patinaPush, State.set_pat, State.set_pat, State.updPat_pat, newest, List.head?_take, if_neg (by decide), List.head?_cons]

theorem patinaPin_ring (e : PEntry) (s : State) : (patinaPin e s).pat.ring = s.pat.ring := by
  unfold patinaPin
  dsimp only
  rw [raise_pat]
  split <;> simp

theorem patinaNew_head (code sev detail : Nat) (s : State) : (patinaNew code sev detail s).pat.ring.head?.map (·.code) = some code := by
  have hp := congrArg (Option.map (·.code)) (patinaPush_head (patinaEntry code sev detail s) s)
  unfold patinaNew
  dsimp only
  split
  · rw [patinaPin_ring]; exact hp
  · split
    · rw [patinaOverflow, State.set_pat]; exact hp
    · exact hp

/-- The newest patina entry after an occurrence is of its code. -/
theorem patina_head (code sev detail : Nat) (s : State) : (patina code sev detail s).pat.ring.head?.map (·.code) = some code := by
  unfold patina
  rw [patinaNotice_pat]
  split
  · split
    next h => exact congrArg some h.1
    next => exact patinaNew_head ..
  · exact patinaNew_head ..

theorem accessDropped_head (ap off size : Nat) (s : State) : (accessDropped ap off size s).pat.ring.head?.map (·.code) = some 0 := patina_head ..

theorem invalidRead_completes (a : Access0) (s : State) (h : s.accessOk a = false) (hm : a.who.origin ≠ .mctp) :
    answers (.invalidAccess a false) s fun t => t.out = s.out ++ [.hostReply a.who.ap a.who.id 0 (2 ^ 64 - 1)] ∧
      (t.pat.ring.head?.map (·.code)) = some 0 ∧ t.mem = s.mem := by
  refine ⟨(accessDropped a.who.ap a.offset a.size s).emit (.hostReply a.who.ap a.who.id 0 (2 ^ 64 - 1)), ?_, ?_, ?_, ?_⟩
  · rw [← reply_eq hm]
    exact congrArg Host.Outcome.next (if_neg (ne_true_of_eq_false h))
  · rw [emit_out, accessDropped_out]
  · exact accessDropped_head ..
  · simp

theorem invalidWrite_completes (a : Access0) (s : State) (h : s.accessOk a = false) :
    answers (.invalidAccess a true) s fun t => t.out = s.out ∧ (t.pat.ring.head?.map (·.code)) = some 0 ∧ t.jnl.log = s.jnl.log ∧
      t.mem = s.mem := by
  refine ⟨accessDropped a.who.ap a.offset a.size s, ?_, by simp, accessDropped_head .., by simp, by simp⟩
  exact congrArg Host.Outcome.next (if_neg (ne_true_of_eq_false h))

/-! ### A write that reaches a register -/

/-- Every field of the tables is one bit wide or wider. -/
theorem table_width : Reg.table.all (fun d => d.fields.all fun f => 0 < f.width) = true := by decide +kernel

theorem findReg_mem {s : State} {who : Issuer} {off : Nat} {p : RegDef × Nat} (h : findReg s who off = some p) : p.1 ∈ Reg.table := by
  obtain ⟨d, hd, e⟩ := List.exists_of_findSome?_eq_some h
  obtain ⟨q, -, rfl⟩ := Option.map_eq_some_iff.1 e
  exact hd

/-- A write that reaches a register is applied. -/
theorem regWrite_reaches {s : State} {who : Issuer} {off v : Nat} {d : RegDef} {i : Nat} (h : writeReaches s who off v d i) :
    regWrite who off v s = applyWrite who d i off v s := by
  obtain ⟨-, ho, hw, hb, h8, hf, -, -⟩ := h
  unfold regWrite
  rw [Option.isNone_iff_eq_none.1 ho]
  simp only [regGate_open hw hb, h8, hf, ne_eq, not_true_eq_false, if_false]

/-- A write with no row and no shows of its own, unjournaled: its fields, one after the other. -/
theorem applyWrite_plain {s : State} {who : Issuer} {off v : Nat} {d : RegDef} {i : Nat} (h : writeReaches s who off v d i)
    (hj : writeJournaled d = false) (hs : writeShows d.off = false) : applyWrite who d i off v s = d.fields.foldl (writeField d i v) s := by
  obtain ⟨-, -, -, -, -, -, hf, hv⟩ := h
  simp only [writeShows, List.contains_cons, List.contains_nil, Bool.or_false, Bool.or_eq_false_iff, beq_eq_false_iff_ne, ne_eq] at hs
  simp [applyWrite, afterWrite, hf, hj, hv, hs]

theorem bits_mod {f : Field} (hw : 0 < f.width) (v : Nat) : bits v (f.lo + f.width - 1) f.lo % 2 ^ f.width = bits v (f.lo + f.width - 1) f.lo := by
  have e : f.lo + f.width - 1 + 1 - f.lo = f.width := by omega
  rw [bits, e, Nat.mod_mod]

theorem registerWrite_completes (who : Issuer) (offset value i : Nat) (d : RegDef) (f : Field) (s : State)
    (h : writeReaches s who offset value d i) (hj : writeJournaled d = false) (hs : writeShows d.off = false) (hd : d.deferred = false)
    (hf : d.fields = [f]) (ha : f.access = .rw) (hi : fieldIgnores s f i = false) : answers (.registerWrite who offset value) s fun t =>
      t.getI f i = bits value (f.lo + f.width - 1) f.lo ∧ t.mem = s.mem ∧ t.out = s.out := by
  have hw : 0 < f.width := by
    obtain ⟨-, -, -, -, -, hfind, -, -⟩ := id h
    have hall := List.all_eq_true.1 table_width d (findReg_mem hfind)
    simpa [hf] using hall
  refine ⟨s.setI f i (bits value (f.lo + f.width - 1) f.lo), ?_, ?_, by simp, by simp⟩
  · refine congrArg Host.Outcome.next ((if_neg h.1).trans ?_)
    rw [regWrite_reaches h, applyWrite_plain h hj hs, hf]
    simp [writeField, ha, hi, hd]
  · rw [State.getI_setI_same, bits_mod hw]

theorem satClear_completes (who : Issuer) (offset i : Nat) (d : RegDef) (c f : Field) (s : State)
    (h : writeReaches s who offset (2 ^ 32) d i) (hs : writeShows d.off = false) (hf : d.fields = [f, c]) (hcl : c.lo = 0) (hcw : c.width = 32)
    (hca : c.access = .ro) (hfl : f.lo = 32) (hfw : f.width = 1) (hfa : f.access = .w1c) (ho : f.off = c.off) (hv : s.getI f i ≤ 1) :
    answers (.satClear who offset) s fun t => t.getI c i = 0 ∧ t.getI f i = 0 ∧ t.mem = s.mem := by
  have hj : writeJournaled d = false := by simp [writeJournaled, hf, hca, hfa]
  have hb : bits 4294967296 32 32 = 1 := by decide
  refine ⟨(s.setI f i (s.getI f i - 1)).setI c i 0, ?_, ?_, ?_, by simp⟩
  · refine congrArg Host.Outcome.next ((if_neg h.1).trans ?_)
    rw [regWrite_reaches h, applyWrite_plain h hj hs, hf]
    simp [writeField, hfa, hfl, hfw, hb, hf, hcl, hcw, hca]
  · rw [State.getI_setI_same, Nat.zero_mod]
  · rw [State.getI_setI_field _ _ _ _ (by omega), State.getI_setI_same, Nat.sub_eq_zero_of_le hv, Nat.zero_mod]

/-! ### Reads -/

theorem readGate_open {s : State} {off : Nat} (h : s.blockAnswers off = true) (who : Issuer) (g : State → State) : readGate who off s g = g s :=
  if_pos h

/-- A read that reaches a register answers its value and leaves what the read changes. -/
theorem regRead_reaches {s : State} {who : Issuer} {off : Nat} {d : RegDef} {i : Nat} (hb : s.blockAnswers off = true)
    (hm : who.origin ≠ .mctp) (hf : findReg s who off = some (d, i)) :
    regRead who off s = (readReg who d i s).2.emit (.hostReply who.ap who.id 0 (readReg who d i s).1) := by
  unfold regRead
  rw [readGate_open hb, hf]
  exact reply_eq hm ..

theorem counterLowRead_completes (who : Issuer) (offset i : Nat) (d : RegDef) (f : Field) (l : List Field) (s : State) (hb : readOpen s offset)
    (hl : lowHalves.contains offset = true) (hm : who.origin ≠ .mctp) (hf : findReg s who offset = some (d, i)) (hd : d.off = offset)
    (hfs : d.fields = f :: l) : answers (.counterLowRead who offset) s fun t =>
      t.out = s.out ++ [.hostReply who.ap who.id 0 (s.getI f i % 2 ^ 64)] ∧
      Map.find? t.jnl.counterLatch (offset * 2 ^ 20 + accessor who) = some (s.getI f i / 2 ^ 64) ∧ t.regs = s.regs ∧ t.mem = s.mem := by
  have hr : readReg who d i s = (s.getI f i % 2 ^ 64, s.updJnl fun u =>
      { u with counterLatch := Map.put s.jnl.counterLatch (offset * 2 ^ 20 + accessor who) (s.getI f i / 2 ^ 64) }) := by
    unfold readReg
    simp only [hd, hl, hfs, if_true]
  refine ⟨_, congrArg Host.Outcome.next (if_pos hl), ?_⟩
  rw [regRead_reaches hb hm hf, hr]
  exact ⟨rfl, Map.find?_put_same .., rfl, rfl⟩

/-- The fields of a register that reading clears are cleared, one after the other. -/
theorem foldl_clear_eq (l : List Field) (i : Nat) (s : State) :
    l.foldl (fun s f => if f.access = .rc then s.setI f i 0 else s) s = (l.filter fun f => f.access == .rc).foldl (fun s f => s.setI f i 0) s := by
  induction l generalizing s with
  | nil => rfl
  | cons f l ih =>
    rw [List.foldl_cons, ih, List.filter_cons]
    by_cases e : f.access = .rc
    · simp [e]
    · simp [e]

theorem readClears_completes (who : Issuer) (offset i : Nat) (d : RegDef) (f : Field) (s : State) (hb : readOpen s offset)
    (hj : offset ≠ 0x200070) (hr : offset ≠ 0xB00090) (ht : offset < 0x100200 ∨ 0x100300 ≤ offset) (hm : who.origin ≠ .mctp)
    (hf : findReg s who offset = some (d, i)) (hl : lowHalves.contains d.off = false) (hh : lowHalves.contains (d.off - 8) = false)
    (hfs : (d.fields.filter fun g => g.access == .rc) = [f]) : answers (.readClears who offset) s fun t =>
      t.getI f i = 0 ∧ t.out = s.out ++ [.hostReply who.ap who.id 0 (if readsZero s d i then 0 else regValue s d i)] ∧ t.mem = s.mem := by
  have hrd : readReg who d i s = (if readsZero s d i then 0 else regValue s d i, s.setI f i 0) := by
    unfold readReg
    simp only [hl, hh, Bool.false_eq_true, if_false, foldl_clear_eq, hfs, List.foldl_cons, List.foldl_nil]
  have hx : exec (.readClears who offset) s = .next (regRead who offset s) :=
    congrArg Host.Outcome.next ((if_neg hj).trans ((if_neg hr).trans (if_neg (by omega))))
  refine ⟨_, hx, ?_⟩
  rw [regRead_reaches hb hm hf, hrd]
  refine ⟨?_, by rw [emit_out, State.setI_out], by simp⟩
  rw [emit_getI, State.getI_setI_same, Nat.zero_mod]

/-! ### A register access over the fabric -/

/-- A packet that arrives and is not dropped is counted, and then acted on. -/
def rxCounted (p : TlPkt) (s : State) : State := addI Reg.TLT_RX_BYTE_LO_BYTES 0 p.data.length (addI Reg.TLT_RX_PKT_COUNT 0 1 s)

theorem rxCounted_but (p : TlPkt) (s : State) : (rxCounted p s).but (listed [] [Reg.TLT_RX_BYTE_LO_BYTES, Reg.TLT_RX_PKT_COUNT]) =
    s.but (listed [] [Reg.TLT_RX_BYTE_LO_BYTES, Reg.TLT_RX_PKT_COUNT]) := by
  rw [rxCounted, addI_but _ (by decide), addI_but _ (by decide)]

theorem rxCounted_getI (p : TlPkt) (s : State) (f : Field) (i : Nat)
    (hf : listed [] [Reg.TLT_RX_BYTE_LO_BYTES, Reg.TLT_RX_PKT_COUNT] f.touch = false) : (rxCounted p s).getI f i = s.getI f i :=
  getI_of_but (rxCounted_but p s) rfl f hf i

theorem rxIntro_arrives {p : TlPkt} {s : State} (h : arrives s p) (act : State → State) : rxIntro p act s = act (rxCounted p s) := by
  obtain ⟨h1, hc, hv, hk, ha⟩ := h
  have hk' : (rxCounted p s).flagI Reg.TLT_PEER_INFO_KNOWN p.src = true := by
    rw [State.flagI, rxCounted_getI _ _ _ _ (by decide)]; exact hk
  have ha' : ahead 8 p.epoch ((rxCounted p s).getI Reg.TLT_PEER_INFO_PEER_EPOCH p.src) = 0 := by
    rw [rxCounted_getI _ _ _ _ (by decide)]; exact ha
  change (if s.inP1 then s else if p.csumBad then count Reg.TLT_CSUM_DROP_COUNT (rxCounted p s) else if p.version ≠ 1 then rxCounted p s
    else if (rxCounted p s).flagI Reg.TLT_PEER_INFO_KNOWN p.src = false then _
    else if ahead 8 p.epoch ((rxCounted p s).getI Reg.TLT_PEER_INFO_PEER_EPOCH p.src) < 0 then _
    else if 0 < ahead 8 p.epoch ((rxCounted p s).getI Reg.TLT_PEER_INFO_PEER_EPOCH p.src) then _ else act (rxCounted p s)) = _
  simp [h1, hc, hv, hk', ha']

/-- Which offsets meet a register does not depend on the state. -/
theorem findReg_isSome_congr (s t : State) (who : Issuer) (off : Nat) : (findReg s who off).isSome = (findReg t who off).isSome := by
  unfold findReg
  generalize Reg.table = l
  induction l with
  | nil => rfl
  | cons d l ih =>
    cases e : d.at? off with
    | none => simpa [List.findSome?_cons, e] using ih
    | some q => simp [e]

/-! #### Where a message that was recorded stands -/

theorem ahead_floor_next (msg floor : Nat) (h : ahead 32 msg floor < 0) (hl : -2 ^ 31 < ahead 32 msg floor) :
    ahead 32 msg ((floor + 1) % 2 ^ 32) = ahead 32 msg floor - 1 := by
  unfold ahead signed at *
  dsimp only at *
  split at h <;> split <;> rename_i h1 h2 <;> omega

theorem ahead_floor_past (msg : Nat) : ahead 32 msg ((msg + 1) % 2 ^ 32) = -1 := by
  unfold ahead signed
  dsimp only
  split <;> omega

/-- A message is recorded, or left behind the floor by no more than so many steps. -/
def PeerX.recorded (p : PeerX) (msg left : Nat) : Prop :=
  (Map.find? p.done msg).isSome = true ∨ (ahead 32 msg p.floor < 0 ∧ -2 ^ 31 + (left : Int) < ahead 32 msg p.floor)

/-- Raising the floor by one keeps a message recorded or behind it. -/
theorem recorded_step {p : PeerX} {msg left : Nat} (hl : left ≤ 2000) (h : p.recorded msg (left + 1)) :
    ({ p with floor := (p.floor + 1) % 2 ^ 32, done := Map.del p.done p.floor } : PeerX).recorded msg left := by
  obtain hd | ⟨hneg, hlow⟩ := h
  · by_cases e : msg = p.floor
    · subst e
      refine .inr ?_
      dsimp only
      rw [ahead_floor_past]
      omega
    · exact .inl ((congrArg Option.isSome (Map.find?_del_ne p.done e)).trans hd)
  · refine .inr ?_
    dsimp only
    rw [ahead_floor_next msg p.floor hneg (by omega)]
    omega

theorem floorUp_recorded (fuel msg : Nat) (p : PeerX) (hf : fuel ≤ 2000) (h : p.recorded msg fuel) : (floorUp fuel p).recorded msg 0 := by
  induction fuel generalizing p with
  | zero => exact h
  | succ n ih =>
    unfold floorUp
    split
    · exact ih _ (by omega) (recorded_step (by omega) h)
    · exact h.imp_right fun ⟨hneg, hlow⟩ => ⟨hneg, by omega⟩

theorem msgPlace_ne_open {s : State} {peer msg : Nat} (h : (s.peerX peer).recorded msg 0) : s.msgPlace peer msg ≠ .open_ := by
  unfold State.msgPlace
  dsimp only
  split
  · nofun
  next hneg =>
  split
  · nofun
  · obtain hd | ⟨hlt, -⟩ := h
    · obtain ⟨v, hv⟩ := Option.isSome_iff_exists.1 hd
      rw [hv]
      nofun
    · exact absurd hlt hneg

/-- A message recorded is no longer open, whatever the floor was. -/
theorem recordDone_recorded (peer msg st chunk : Nat) (s : State) : ((recordDone peer msg st chunk s).peerX peer).recorded msg 0 := by
  have e : (recordDone peer msg st chunk s).peerX peer =
      floorUp 1025 { s.peerX peer with done := Map.put (s.peerX peer).done msg (st, chunk) } := by
    rw [State.peerX, recordDone, updPeer, State.updTlt_tlt, Map.find?_put_same]
    rfl
  rw [e]
  exact floorUp_recorded 1025 msg _ (by omega) (.inl (by simp))

/-! #### What sending the answer keeps -/

/-- What a message's place depends on, and the accesses being served. -/
def sameServes (s t : State) : Prop :=
  t.tlt.serves = s.tlt.serves ∧ ∀ d, (t.peerX d).floor = (s.peerX d).floor ∧ (t.peerX d).done = (s.peerX d).done

theorem sameServes_of_tlt {s t : State} (h : t.tlt = s.tlt) : sameServes s t := by
  unfold sameServes State.peerX
  rw [h]
  exact ⟨rfl, fun _ => ⟨rfl, rfl⟩⟩

theorem sameServes.trans {s t u : State} (h : sameServes s t) (k : sameServes t u) : sameServes s u :=
  ⟨k.1.trans h.1, fun d => ⟨(k.2 d).1.trans (h.2 d).1, (k.2 d).2.trans (h.2 d).2⟩⟩

theorem sameServes_of_but {s t : State} (h : t.but (butPart .tlt) = s.but (butPart .tlt)) :
    sameServes s t := sameServes_of_tlt (samePart_of_butPart h)

theorem pickPath_sameServes {d : Nat} {avoid : Option Nat} {s : State} {r : Nat × State} (h : pickPath d avoid s = some r) :
    sameServes s r.2 := by
  unfold pickPath at h
  dsimp only at h
  split at h
  · rw [← Option.some.inj h]
    refine ⟨rfl, fun e => ?_⟩
    unfold State.peerX
    rw [State.updTlt_tlt]
    dsimp only
    by_cases he : e = d
    · subst he
      rw [Map.find?_upd_same]
      cases Map.find? s.tlt.peers e <;> exact ⟨rfl, rfl⟩
    · rw [Map.find?_upd_ne _ _ he]
      exact ⟨rfl, rfl⟩
  · exact absurd h nofun

theorem sendPacket_sameServes (tl : Option (Nat × Nat × Nat)) (avoid : Option Nat) (p : TlPkt) (s : State) :
    sameServes s (sendPacket none tl avoid p s).2 := by
  unfold sendPacket
  split
  · exact sameServes_of_tlt rfl
  next i t e =>
  refine (pickPath_sameServes e).trans (sameServes_of_but ?_)
  rw [State.emit_but (by decide), txCount_but (by decide +kernel), pathSent_but (by decide +kernel)]

theorem regResponse_sameServes (x : Serve) (result : List Byte) (s : State) : sameServes s (regResponse x result s) :=
  sendPacket_sameServes ..

theorem tltShow_tlt (s : State) : (tltShow s).tlt = s.tlt :=
  samePart_of_but (tltShow_but (E := butPart .tlt) (by decide +kernel) s) .tlt rfl

theorem mem_putServe (x : Serve) (s : State) : x ∈ (putServe x s).tlt.serves := by
  rw [putServe, tltShow_tlt]
  exact List.mem_append_right _ (List.mem_singleton_self x)

theorem putServe_peerX (x : Serve) (s : State) (d : Nat) : (putServe x s).peerX d = s.peerX d := by
  rw [State.peerX, putServe, tltShow_tlt]
  rfl

theorem State.msgPlace_congr {s t : State} (h : t.tlt = s.tlt) (peer msg : Nat) : t.msgPlace peer msg = s.msgPlace peer msg := by
  unfold State.msgPlace State.peerX
  rw [h]

/-- A register access that the limits of the fabric allow and that meets a register reports ST_OK. -/
theorem regAccess_status (p : TlPkt) (s : State) (ha : s.flag Reg.FAB_CFG_RMGMT_ALLOW = true) (hlo : s.get Reg.FAB_RMGMT_FIRST_DEV ≤ p.src)
    (hhi : p.src ≤ s.get Reg.FAB_RMGMT_LAST_DEV) (hb : byteField p.ext 8 13 < 2 ^ 25) (h8 : byteField p.ext 8 13 % 8 = 0)
    (hf : (findReg s (fabricIssuer p.src) (byteField p.ext 8 13)).isSome = true) : (regAccess p s).1 = St.ok := by
  have hn : (findReg s (fabricIssuer p.src) (byteField p.ext 8 13)).isNone = false := by
    rw [← Option.not_isSome, hf]; rfl
  unfold regAccess
  simp only [ha, decide_eq_true hlo, decide_eq_true hhi, Nat.not_le.2 hb, h8, hn, Bool.and_self, ne_eq, not_true_eq_false, Bool.true_eq_false,
    Bool.false_eq_true, or_self, if_false]
  split <;> rfl

/-- The answer of a register access: its status, and the value that a read found. -/
def regResult (p : TlPkt) (s : State) : List Byte :=
  toBytes 1 (regAccess p s).1 ++ List.replicate 7 0 ++ toBytes 8 (regAccess p s).2.1

/-- The access kept with its answer. -/
def regServe (p : TlPkt) (s : State) : Serve := { serveOf p with result := some (regResult p s) }

/-- The state that a register access leaves before it is answered: made, recorded and kept. -/
def regKept (p : TlPkt) (s : State) : State := putServe (regServe p s) (recordDone p.src p.msg St.ok 0 (regAccess p s).2.2)

/-- A register access whose message is open is made, recorded and answered. -/
theorem execRegAccess_open {p : TlPkt} {s : State} (h : arrives s p) (hp : s.msgPlace p.src p.msg = .open_) :
    execRegAccess p s = .next (regResponse (regServe p (rxCounted p s)) (regResult p (rxCounted p s)) (regKept p (rxCounted p s))) := by
  have hp' : (rxCounted p s).msgPlace p.src p.msg = .open_ := by
    rw [State.msgPlace_congr (samePart_of_but (rxCounted_but p s) .tlt rfl)]; exact hp
  unfold execRegAccess
  rw [rxIntro_arrives h]
  simp only [hp']
  rfl

theorem regAccess_completes (p : TlPkt) (s : State) (h : arrives s p) (hp : s.msgPlace p.src p.msg = .open_)
    (ha : s.flag Reg.FAB_CFG_RMGMT_ALLOW = true) (hlo : s.get Reg.FAB_RMGMT_FIRST_DEV ≤ p.src) (hhi : p.src ≤ s.get Reg.FAB_RMGMT_LAST_DEV)
    (hb : byteField p.ext 8 13 < 2 ^ 25) (h8 : byteField p.ext 8 13 % 8 = 0)
    (hf : (findReg s (fabricIssuer p.src) (byteField p.ext 8 13)).isSome = true) : answers (.regAccess p) s fun t =>
      (∃ y ∈ t.tlt.serves, y.peer = p.src ∧ y.msg = p.msg ∧ y.result.map (·.take 8) = some (toBytes 1 St.ok ++ List.replicate 7 0)) ∧
      t.msgPlace p.src p.msg ≠ .open_ := by
  have hst : (regAccess p (rxCounted p s)).1 = St.ok := by
    have hget (f : Field) (hf : listed [] [Reg.TLT_RX_BYTE_LO_BYTES, Reg.TLT_RX_PKT_COUNT] f.touch = false) :
        (rxCounted p s).get f = s.get f := rxCounted_getI p s f 0 hf
    refine regAccess_status p _ ?_ ?_ ?_ hb h8 ((findReg_isSome_congr ..).trans hf)
    · rw [State.flag, hget _ (by decide)]; exact ha
    · rw [hget _ (by decide)]; exact hlo
    · rw [hget _ (by decide)]; exact hhi
  have e : exec (.regAccess p) s = execRegAccess p s := rfl
  obtain ⟨hserves, hpeers⟩ := regResponse_sameServes (regServe p (rxCounted p s)) (regResult p (rxCounted p s)) (regKept p (rxCounted p s))
  refine ⟨_, e.trans (execRegAccess_open h hp), ⟨regServe p (rxCounted p s), ?_, rfl, rfl, ?_⟩, msgPlace_ne_open ?_⟩
  · rw [hserves]
    exact mem_putServe ..
  · rw [regServe, regResult, hst]
    rfl
  · have hrec := recordDone_recorded p.src p.msg St.ok 0 (regAccess p (rxCounted p s)).2.2
    rw [← putServe_peerX (regServe p (rxCounted p s))] at hrec
    obtain ⟨hfl, hdn⟩ := hpeers p.src
    rw [PeerX.recorded, hfl, hdn]
    exact hrec

/-- Settles O52: each command from its own lemma above. -/
theorem registerCommandsComplete : Obligations.RegisterCommandsComplete := by
  unfold Obligations.RegisterCommandsComplete
  refine ⟨?_, ?_, ?_, ?_, ?_, ?_, ?_⟩
  · rintro a write s ⟨h, rfl, hm⟩
    exact invalidRead_completes a s h hm
  · rintro a write s ⟨h, rfl⟩
    exact invalidWrite_completes a s h
  · rintro who offset value i d f s ⟨h, hj, hs, hd, hf, ha, hi⟩
    exact registerWrite_completes who offset value i d f s h hj hs hd hf ha hi
  · rintro who offset i d c f s ⟨h, hs, hf, hcl, hcw, hca, hfl, hfw, hfa, ho, hv⟩
    exact satClear_completes who offset i d c f s h hs hf hcl hcw hca hfl hfw hfa ho hv
  · rintro who offset i d f l s ⟨hb, hl, hm, hf, hd, hfs⟩
    exact counterLowRead_completes who offset i d f l s hb hl hm hf hd hfs
  · rintro who offset i d f s ⟨hb, hj, hr, ht, hm, hf, hl, hh, hfs⟩
    exact readClears_completes who offset i d f s hb hj hr ht hm hf hl hh hfs
  · rintro p s ⟨h, hp, ha, hlo, hhi, hb, h8, hf⟩
    exact regAccess_completes p s h hp ha hlo hhi hb h8 hf

end Sys2Proof.Machine
end

section
/-!
CERTIFICATE. The writes of the clock, realign and alignment registers.
-/
namespace Sys2Proof.Machine
set_option Elab.async false

/-! ### Writes that reach their register -/

theorem setGate_open {s : State} {who : Issuer} {off : Nat} (h : writeOpen s who off) (f : State → State) : setGate who off s f = f s := by
  obtain ⟨hw, hb, hj⟩ := h
  rw [setGate, regGate_open hw hb, if_pos hj]

/-- A register write that reaches its register answers the state that the write leaves. -/
theorem answers_setGate {c : Instr} {who : Issuer} {off : Nat} {f : State → State} {s t : State} {P : State → Prop} (h : writeOpen s who off)
    (he : exec c s = .next (setGate who off s f)) (ht : f s = t) (hP : P t) : answers c s P :=
  ⟨t, he.trans (congrArg _ ((setGate_open h f).trans ht)), hP⟩

/-- The journal keeps the registers of the clock. -/
theorem jRegWrite_get_clock (who : Issuer) (niche off val before st : Nat) (s : State) {f : Field} (h : f.off / 2 ^ 20 = 1 ∧ f.lo < 128) :
    (jRegWrite who niche off val before st s).get f = s.get f :=
  jRegWrite_get _ _ _ _ _ _ _ (by unfold Field.notJnl; omega) h.2

/-! ### Steps and rates -/

@[simp] theorem stepPendingBits_stk (s : State) : (stepPendingBits s).stk = s.stk := by simp [stepPendingBits]
@[simp] theorem stepPendingBits_mem (s : State) : (stepPendingBits s).mem = s.mem := by simp [stepPendingBits]

@[simp] theorem stepPendingBits_pending (s : State) :
    (stepPendingBits s).get Reg.STK_STEP_STATUS_PENDING = if s.stk.step.isSome || s.stk.latched.isSome then 1 else 0 := by
  refine (State.get_set_touch_ne _ _ (by decide)).trans ((State.get_set_same ..).trans ?_)
  split <;> rfl

@[simp] theorem stepResult_stk (r : Nat) (s : State) : (stepResult r s).stk = s.stk := by simp [stepResult]
@[simp] theorem stepResult_mem (r : Nat) (s : State) : (stepResult r s).mem = s.mem := by simp [stepResult]

theorem stepResult_result (r : Nat) (s : State) : (stepResult r s).get Reg.STK_STEP_STATUS_RESULT = r % 8 := State.get_set_same ..

/-- A step waits, in the place of one that waited before, whose outcome is then reported. -/
def stepWaits (p : PendStep) (s : State) : State :=
  let t := s.updStk fun u => { u with step := some p }
  if s.stk.step.isSome then stepResult 4 t else t

@[simp] theorem stepWaits_stk (p : PendStep) (s : State) : (stepWaits p s).stk = { s.stk with step := some p } := by
  unfold stepWaits
  split <;> simp

@[simp] theorem stepWaits_mem (p : PendStep) (s : State) : (stepWaits p s).mem = s.mem := by
  unfold stepWaits
  split <;> simp

/-- R45: outside SERVICE and with no realign armed, a requested step waits for its boundary. -/
theorem requestStep_free (ns : Int) (silent : Bool) {s : State} (hr : s.running = true) (hd : s.dev ≠ 4) (ha : s.stk.realign = none) :
    requestStep ns silent s = (stepPendingBits (stepWaits ⟨ns, s.dueBoundary, false⟩ s), true) := by
  simp [requestStep, stepWaits, hr, hd, ha]

theorem phcStepWrite_completes (who : Issuer) (ns : Nat) (s : State) (h : writeOpen s who 0x100038) (hr : s.running = true) (hd : s.dev ≠ 4)
    (ha : s.stk.realign = none) : answers (.phcStepWrite who ns) s fun t =>
      t.stk.step = some ⟨signed 64 ns, s.dueBoundary, false⟩ ∧ t.get Reg.STK_STEP_STATUS_PENDING = 1 ∧ t.mem = s.mem := by
  refine answers_setGate (t := jRegWrite who 0 0x100038 ns 0 0 (stepPendingBits (stepWaits ⟨signed 64 ns, s.dueBoundary, false⟩ s))) h rfl ?_
    ⟨by simp, ?_, by simp⟩
  · simp only [requestStep_free _ _ hr hd ha, if_true]
  · rw [jRegWrite_get_clock (h := by decide), stepPendingBits_pending, stepWaits_stk]
    rfl

@[simp] theorem setRate_stk (i : Int) (s : State) : (setRate i s).stk = s.stk := State.set_stk ..
@[simp] theorem setRate_mem (i : Int) (s : State) : (setRate i s).mem = s.mem := State.set_mem ..

theorem unsigned_lt (w : Nat) (i : Int) : unsigned w i < 2 ^ w := by
  have hw : (0 : Int) < ((2 ^ w : Nat) : Int) := Int.natCast_pos.2 (Nat.two_pow_pos w)
  unfold unsigned
  have hlt := Int.emod_lt_of_pos i hw
  have hge := Int.emod_nonneg i hw.ne'
  omega

@[simp] theorem setRate_rate (i : Int) (s : State) :
    (setRate i s).get Reg.STK_PHC_RATE_RATE = unsigned 32 (max (-500000000) (min 500000000 i)) :=
  (State.get_set_same ..).trans (Nat.mod_eq_of_lt (unsigned_lt 32 _))

/-- R32: a rate beyond the limits sets RATE_CLAMP. -/
def clampNoted (i : Int) (s : State) : State :=
  if decide (500000000 < i) || decide (i < -500000000) then s.set Reg.STK_STATUS_RATE_CLAMP 1 else s

@[simp] theorem clampNoted_stk (i : Int) (s : State) : (clampNoted i s).stk = s.stk := by
  unfold clampNoted
  split <;> simp

@[simp] theorem clampNoted_mem (i : Int) (s : State) : (clampNoted i s).mem = s.mem := by
  unfold clampNoted
  split <;> simp

theorem phcRateWrite_completes (who : Issuer) (rate : Nat) (s : State) (h : writeOpen s who 0x100030) (hs : s.stk.slewPs = 0) :
    answers (.phcRateWrite who rate) s fun t =>
      t.get Reg.STK_PHC_RATE_RATE = unsigned 32 (max (-500000000) (min 500000000 (signed 32 rate))) ∧ t.stk = s.stk ∧ t.mem = s.mem := by
  have hs' : (clampNoted (signed 32 rate) s).stk.slewPs = 0 := by rw [clampNoted_stk, hs]
  refine answers_setGate (t := jRegWrite who 0 0x100030 rate (s.get Reg.STK_PHC_RATE_RATE) 0 (setRate (signed 32 rate)
    (clampNoted (signed 32 rate) s))) h rfl ?_ ⟨?_, by simp, by simp⟩
  · exact congrArg (jRegWrite who 0 0x100030 rate (s.get Reg.STK_PHC_RATE_RATE) 0) (if_pos hs')
  · rw [jRegWrite_get_clock (h := by decide), setRate_rate]

/-! ### The realign -/

/-- The realign armed for a stroke, with the step that waits held for it. -/
def realignSet (target atStroke : Nat) (s : State) : State :=
  ((s.updStk fun u => { u with realign := some target, step := s.stk.step.map fun p => { p with held := true } }).set Reg.STK_REALIGN_ARM 1).set
    Reg.STK_REALIGN_AT_STROKE atStroke

theorem realignArm_completes (who : Issuer) (atStroke : Nat) (s : State) (h : writeOpen s who 0x100040) (hr : s.running = true)
    (hl : s.stk.realignLatched = false) (hlo : 2 ≤ realignAhead s.stroke atStroke) (hhi : realignAhead s.stroke atStroke ≤ 2 ^ 20) :
    answers (.realignArm who atStroke) s fun t =>
      t.stk.realign = some (s.stroke + realignAhead s.stroke atStroke) ∧ t.get Reg.STK_REALIGN_ARM = 1 ∧ t.mem = s.mem := by
  have hopen : ¬(s.running = false ∨ s.stk.realignLatched = true) := by simp [hr, hl]
  have hrange : ¬(realignAhead s.stroke atStroke < 2 ∨ 2 ^ 20 < realignAhead s.stroke atStroke) := by omega
  refine answers_setGate (t := jRegWrite who 0 0x100040 (2 ^ 63 + atStroke) (s.get Reg.STK_REALIGN_ARM * 2 ^ 63 + s.get Reg.STK_REALIGN_AT_STROKE)
    0 (realignSet (s.stroke + realignAhead s.stroke atStroke) atStroke s)) h rfl ?_ ⟨by simp [realignSet], ?_, by simp [realignSet]⟩
  · dsimp only
    rw [if_neg hopen, if_neg hrange]
    rfl
  · rw [jRegWrite_get_clock (h := by decide), realignSet, State.get_set_touch_ne _ _ (by decide), State.get_set_same]
    rfl

@[simp] theorem disarm_stk (s : State) : (disarm s).stk = { s.stk with realign := none, realignLatched := false } := by simp [disarm]
@[simp] theorem disarm_mem (s : State) : (disarm s).mem = s.mem := by simp [disarm]

@[simp] theorem disarm_arm (s : State) : (disarm s).get Reg.STK_REALIGN_ARM = 0 := State.get_set_same ..

/-- R48: a step that was held for the realign is refused with it. -/
def heldRefused (held : Bool) (s : State) : State := if held then stepResult 2 (s.updStk fun u => { u with step := none }) else s

@[simp] theorem heldRefused_stk (held : Bool) (s : State) :
    (heldRefused held s).stk = { s.stk with step := if held then none else s.stk.step } := by
  cases held <;> simp [heldRefused]

@[simp] theorem heldRefused_mem (held : Bool) (s : State) : (heldRefused held s).mem = s.mem := by
  cases held <;> simp [heldRefused]

theorem heldRefused_arm (held : Bool) (s : State) : (heldRefused held s).get Reg.STK_REALIGN_ARM = s.get Reg.STK_REALIGN_ARM := by
  cases held
  · rfl
  · exact get_of_butField (stepResult_but (by decide +kernel) ..)

theorem realignDisarm_completes (who : Issuer) (atStroke : Nat) (s : State) (h : writeOpen s who 0x100040) (hr : s.running = true)
    (hl : s.stk.realignLatched = false) : answers (.realignDisarm who atStroke) s fun t =>
      t.stk.realign = none ∧ t.get Reg.STK_REALIGN_ARM = 0 ∧ (s.stk.realign.isSome = true → t.stk.step = none) ∧ t.mem = s.mem := by
  have hopen : ¬(s.running = false ∨ s.stk.realignLatched = true) := by simp [hr, hl]
  refine answers_setGate (t := jRegWrite who 0 0x100040 atStroke (s.get Reg.STK_REALIGN_ARM * 2 ^ 63 + s.get Reg.STK_REALIGN_AT_STROKE) 0
    (heldRefused (s.stk.realign.isSome && s.stk.step.isSome) ((disarm s).set Reg.STK_REALIGN_AT_STROKE atStroke))) h rfl (if_neg hopen)
    ⟨by simp, ?_, fun ha => ?_, by simp⟩
  · rw [jRegWrite_get_clock (h := by decide), heldRefused_arm, State.get_set_touch_ne _ _ (by decide), disarm_arm]
  · cases hs : s.stk.step <;> simp [ha, hs]

@[simp] theorem recount_stk (floor : Nat) (s : State) : (recount floor s).stk = s.stk := by simp [recount]

/-- A step applied leaves what waits as it was. -/
theorem applyStep_waiting (ns : Int) (s : State) : (applyStep ns s).stk.realign = s.stk.realign ∧ (applyStep ns s).stk.step = s.stk.step ∧
    (applyStep ns s).stk.latched = s.stk.latched := by
  simp [applyStep]

theorem applyStep_result (ns : Int) (s : State) : (applyStep ns s).get Reg.STK_STEP_STATUS_RESULT = 1 := stepResult_result ..

/-- The step that a realign applies when its stroke comes: the one fixed in SEAL, else the one that waits. -/
def State.heldStep (s : State) : Option PendStep :=
  match s.stk.latched with
  | some p => some p
  | none => s.stk.step

theorem State.heldStep_isSome (s : State) : s.heldStep.isSome = (s.stk.step.isSome || s.stk.latched.isSome) := by
  unfold State.heldStep
  cases s.stk.latched <;> simp

/-- The realign ended, with no step left to wait. -/
def realignEnded (s : State) : State := disarm (s.updStk fun u => { u with latched := none, step := none })

theorem execRealignTarget_due {n : Nat} {s : State} (hn : s.stk.realign = some n) (hs : n ≤ s.stroke) :
    execRealignTarget s = .next (match s.heldStep with
      | some p => applyStep p.ns (realignEnded s)
      | none => stepResult 5 (realignEnded s)) := by
  unfold execRealignTarget
  simp only [hn, if_neg (Nat.not_lt.2 hs)]
  rfl

theorem realignTarget_completes (n : Nat) (s : State) (hn : s.stk.realign = some n) (hs : n ≤ s.stroke) :
    answers .realignTarget s fun t => t.stk.realign = none ∧ t.stk.step = none ∧ t.stk.latched = none ∧ t.get Reg.STK_REALIGN_ARM = 0 ∧
      t.get Reg.STK_STEP_STATUS_RESULT = if s.stk.step.isSome || s.stk.latched.isSome then 1 else 5 := by
  have e : exec .realignTarget s = execRealignTarget s := rfl
  refine ⟨_, e.trans (execRealignTarget_due hn hs), ?_⟩
  obtain ⟨hr, hst, hla⟩ : (realignEnded s).stk.realign = none ∧ (realignEnded s).stk.step = none ∧ (realignEnded s).stk.latched = none := by
    simp [realignEnded]
  have harm : (realignEnded s).get Reg.STK_REALIGN_ARM = 0 := disarm_arm _
  rw [← State.heldStep_isSome]
  cases s.heldStep with
  | some p =>
    obtain ⟨hr', hst', hla'⟩ := applyStep_waiting p.ns (realignEnded s)
    exact ⟨hr'.trans hr, hst'.trans hst, hla'.trans hla, (get_of_butField (applyStep_but (by decide +kernel) ..)).trans harm,
      applyStep_result ..⟩
  | none =>
    dsimp only
    rw [stepResult_stk, get_of_butField (f := Reg.STK_REALIGN_ARM) (stepResult_but (by decide +kernel) ..)]
    exact ⟨hr, hst, hla, harm, stepResult_result ..⟩

/-! ### The alignment -/

@[simp] theorem setAlign_stk (a : Nat) (s : State) : (setAlign a s).stk = s.stk := by
  unfold setAlign
  dsimp only
  split <;> simp

@[simp] theorem setAlign_mem (a : Nat) (s : State) : (setAlign a s).mem = s.mem := mem_of_but (setAlign_but (by decide +kernel) ..)

theorem setAlign_align (a : Nat) (s : State) : (setAlign a s).get Reg.STK_STATUS_ALIGN = a % 4 := by
  unfold setAlign
  dsimp only
  split
  · exact State.get_set_same ..
  · exact State.get_set_same ..

/-- R84: an estimate taken: the holdover count starts again. -/
def estimateTaken (offset : Nat) (s : State) : State := (s.set Reg.STK_ALIGN_EST_OFFSET offset).updStk fun u => { u with alignHold := 0 }

theorem estimateTaken_offset (offset : Nat) (s : State) : (estimateTaken offset s).get Reg.STK_ALIGN_EST_OFFSET = offset % 2 ^ 32 :=
  State.get_set_same ..

theorem estimateTaken_limit (offset : Nat) (s : State) : (estimateTaken offset s).get Reg.STK_ALIGN_CFG_LIMIT = s.get Reg.STK_ALIGN_CFG_LIMIT :=
  State.get_set_touch_ne _ _ (by decide)

/-- R52: the class of an estimate, aligned within the limit. -/
def estimateClass (offset limit : Nat) : Nat := if (signed 32 offset).natAbs ≤ limit then 1 else 2

theorem estimateClass_mod (offset limit : Nat) : estimateClass offset limit % 4 = estimateClass offset limit := by
  unfold estimateClass
  split <;> rfl

theorem alignEstimateWrite_completes (who : Issuer) (offset : Nat) (s : State) (h : writeOpen s who 0x100050) :
    answers (.alignEstimateWrite who offset) s fun t => t.get Reg.STK_ALIGN_EST_OFFSET = offset % 2 ^ 32 ∧
      t.get Reg.STK_STATUS_ALIGN = (if (signed 32 offset).natAbs ≤ s.get Reg.STK_ALIGN_CFG_LIMIT then 1 else 2) ∧
      t.stk.alignHold = 0 ∧ t.mem = s.mem := by
  refine answers_setGate (t := jRegWrite who 0 0x100050 offset (s.get Reg.STK_ALIGN_EST_OFFSET) 0
    (setAlign (estimateClass offset ((estimateTaken offset s).get Reg.STK_ALIGN_CFG_LIMIT)) (estimateTaken offset s))) h rfl rfl
    ⟨?_, ?_, by simp [estimateTaken], by simp [estimateTaken]⟩
  · rw [jRegWrite_get_clock (h := by decide), get_of_butField (setAlign_but (by decide +kernel) ..), estimateTaken_offset]
  · rw [jRegWrite_get_clock (h := by decide), setAlign_align, estimateTaken_limit, estimateClass_mod]
    rfl

theorem alignHoldover_completes (s : State) (h0 : s.get Reg.STK_ALIGN_CFG_HOLD ≠ 0) (hh : s.get Reg.STK_ALIGN_CFG_HOLD ≤ s.stk.alignHold)
    (ha : s.get Reg.STK_STATUS_ALIGN ≠ 0) :
    answers .alignHoldover s fun t => t.get Reg.STK_STATUS_ALIGN = 3 ∧ t.stk = s.stk ∧ t.mem = s.mem :=
  ⟨setAlign 3 s, congrArg Host.Outcome.next (if_pos ⟨h0, hh, ha⟩), setAlign_align 3 s, by simp, by simp⟩

/-- Settles O15: each command from its own lemma above. -/
theorem clockWritesComplete : Obligations.ClockWritesComplete := by
  unfold Obligations.ClockWritesComplete
  refine ⟨?_, ?_, ?_, ?_, ?_, ?_, ?_⟩
  · rintro who ns s ⟨h, hr, hd, ha⟩
    exact phcStepWrite_completes who ns s h hr hd ha
  · rintro who rate s ⟨h, hs⟩
    exact phcRateWrite_completes who rate s h hs
  · rintro who atStroke s ⟨h, hr, hl, hlo, hhi⟩
    exact realignArm_completes who atStroke s h hr hl hlo hhi
  · rintro who atStroke s ⟨h, hr, hl⟩
    exact realignDisarm_completes who atStroke s h hr hl
  · rintro n s ⟨hn, hs⟩
    exact realignTarget_completes n s hn hs
  · intro who offset s h
    exact alignEstimateWrite_completes who offset s h
  · rintro s ⟨h0, hh, ha⟩
    exact alignHoldover_completes s h0 hh ha

end Sys2Proof.Machine
end

section
/-!
CERTIFICATE. The reads and pins of network time.
-/
namespace Sys2Proof.Machine
set_option Elab.async false

/-! ### Several fields set in turn -/

theorem State.sets_nil (s : State) : s.sets [] = s := rfl

theorem State.sets_cons (s : State) (f : Field) (v : Nat) (l : List (Field × Nat)) : s.sets ((f, v) :: l) = (s.set f v).sets l := rfl

/-! ### Latched reads -/

/-- A register read that is answered leaves the state that the read leaves. -/
theorem answers_readGate {c : Instr} {who : Issuer} {off : Nat} {f : State → State} {s t : State} {P : State → Prop} (h : readOpen s off)
    (he : exec c s = .next (readGate who off s f)) (ht : f s = t) (hP : P t) : answers c s P :=
  ⟨t, he.trans (congrArg _ ((readGate_open h who f).trans ht)), hP⟩

@[simp] theorem reply_getI (who : Issuer) (v : Nat) (s : State) (f : Field) (i : Nat) : (reply who v s).getI f i = s.getI f i := by
  unfold reply
  split <;> rfl

@[simp] theorem reply_get (who : Issuer) (v : Nat) (s : State) (f : Field) : (reply who v s).get f = s.get f := reply_getI ..

@[simp] theorem reply_stk (who : Issuer) (v : Nat) (s : State) : (reply who v s).stk = s.stk := by
  unfold reply
  split <;> rfl

@[simp] theorem reply_mem (who : Issuer) (v : Nat) (s : State) : (reply who v s).mem = s.mem := by
  unfold reply
  split <;> rfl

theorem reply_out_congr (who : Issuer) (v : Nat) {s t : State} (h : t.out = s.out) : (reply who v t).out = (reply who v s).out := by
  unfold reply
  split
  · exact congrArg (· ++ _) h
  · exact congrArg (· ++ _) h

/-- The instant of a read latched in the registers of seconds, nanoseconds and fractions. -/
def phcLatched (t frac : Nat) (s : State) : State :=
  s.sets [(Reg.STK_PHC_SEC_SEC, t / 1000000000), (Reg.STK_PHC_NS_NS, t % 1000000000), (Reg.STK_PHC_NS_FRAC, frac)]

theorem phcLatched_sec (t frac : Nat) (s : State) : (phcLatched t frac s).get Reg.STK_PHC_SEC_SEC = t / 1000000000 % 2 ^ 64 := by
  unfold phcLatched
  simp (disch := decide) only [State.sets_cons, State.sets_nil, State.get_set_touch_ne, State.get_set_same]
  rfl

theorem phcLatched_ns (t frac : Nat) (s : State) : (phcLatched t frac s).get Reg.STK_PHC_NS_NS = t % 1000000000 := by
  have h : t % 1000000000 < 2 ^ 30 := by omega
  unfold phcLatched
  simp (disch := decide) only [State.sets_cons, State.sets_nil, State.get_set_touch_ne, State.get_set_same]
  exact Nat.mod_eq_of_lt h

theorem phcSecRead_completes (who : Issuer) (ns frac : Nat) (s : State) (h : readOpen s 0x100020) (hr : s.stk.phcRunning = true) :
    answers (.phcSecRead who ns frac) s fun t => t.get Reg.STK_PHC_SEC_SEC = (s.stk.phcNs + ns) / 1000000000 % 2 ^ 64 ∧
      t.get Reg.STK_PHC_NS_NS = (s.stk.phcNs + ns) % 1000000000 ∧
      t.out = (reply who ((s.stk.phcNs + ns) / 1000000000) s).out ∧ t.mem = s.mem := by
  refine answers_readGate (t := reply who ((s.stk.phcNs + ns) / 1000000000) (phcLatched (s.stk.phcNs + ns) frac s)) h rfl ?_ ⟨?_, ?_, ?_, ?_⟩
  · simp only [hr, if_true]
    rfl
  · rw [reply_get, phcLatched_sec]
  · rw [reply_get, phcLatched_ns]
  · exact reply_out_congr _ _ (State.sets_out ..)
  · rw [reply_mem, phcLatched, State.sets_mem]

/-- What a read of a transmit time-stamp leaves: its queue without its head, whose time is latched. -/
def txtsTaken (mac time : Nat) (q : List TxTs) (s : State) : State :=
  let s := s.setI Reg.STK_TXTS_TIME_TIME mac time
  s.updStk fun _ => { s.stk with
    txts := if q.drop 1 = [] then Map.del s.stk.txts mac else Map.put s.stk.txts mac (q.drop 1)
    txtsOvf := if (q.drop 1).length ≤ 32 then s.stk.txtsOvf.filter (fun m => m != mac) else s.stk.txtsOvf }

theorem txtsTaken_queue (mac time : Nat) (q : List TxTs) (s : State) : (Map.find? (txtsTaken mac time q s).stk.txts mac).getD [] = q.drop 1 := by
  unfold txtsTaken
  dsimp only [State.updStk_stk]
  split
  · next he => rw [Map.find?_del_same, he]; rfl
  · rw [Map.find?_put_same]; rfl

theorem txtsInfoRead_completes (who : Issuer) (mac : Nat) (s : State) (h : readOpen s (0x100200 + 16 * mac)) :
    answers (.txtsInfoRead who mac) s fun t =>
      (Map.find? t.stk.txts mac).getD [] = ((Map.find? s.stk.txts mac).getD []).drop 1 ∧
      t.out = (reply who (txtsInfo ((Map.find? s.stk.txts mac).getD [])) s).out ∧ t.mem = s.mem := by
  refine answers_readGate h rfl rfl ⟨?_, ?_, ?_⟩
  · rw [reply_stk]
    exact txtsTaken_queue ..
  · exact reply_out_congr _ _ (State.setI_out ..)
  · rw [reply_mem, State.updStk_mem, State.setI_mem]

theorem ppsInTsRead_completes (who : Issuer) (s : State) (h : readOpen s 0x100408) : answers (.ppsInTsRead who) s fun t =>
    t.get Reg.STK_PPS_IN_INFO_NEW = 0 ∧ t.stk.ppsUnread = false ∧ t.out = (reply who (s.get Reg.STK_PPS_IN_TS_TIME) s).out ∧ t.mem = s.mem := by
  refine answers_readGate h rfl rfl ⟨?_, by simp, reply_out_congr _ _ (State.set_out ..), by simp⟩
  rw [reply_get]
  exact State.get_set_same ..

/-! ### Pins -/

/-- R95: an edge that finds the last capture unread sets MISSED. -/
def ppsMissed (s : State) : State := if s.stk.ppsUnread then s.set Reg.STK_PPS_IN_INFO_MISSED 1 else s

/-- R68: an edge's instant captured. -/
def ppsCaptured (t c sub : Nat) (s : State) : State :=
  (s.updStk fun u => { u with ppsUnread := true, ppsNs := t }).sets [(Reg.STK_PPS_IN_TS_TIME, c), (Reg.STK_PPS_IN_INFO_NEW, 1),
    (Reg.STK_PPS_IN_INFO_SUBNS, sub)]

theorem ppsCaptured_time (t c sub : Nat) (s : State) : (ppsCaptured t c sub s).get Reg.STK_PPS_IN_TS_TIME = c % 2 ^ 64 := by
  unfold ppsCaptured
  simp (disch := decide) only [State.sets_cons, State.sets_nil, State.get_set_touch_ne, State.get_set_same]
  rfl

theorem ppsCaptured_new (t c sub : Nat) (s : State) : (ppsCaptured t c sub s).get Reg.STK_PPS_IN_INFO_NEW = 1 := by
  unfold ppsCaptured
  simp (disch := decide) only [State.sets_cons, State.sets_nil, State.get_set_touch_ne, State.get_set_same]
  rfl

theorem ppsCaptured_missed (t c sub : Nat) (s : State) :
    (ppsCaptured t c sub s).get Reg.STK_PPS_IN_INFO_MISSED = s.get Reg.STK_PPS_IN_INFO_MISSED := by
  unfold ppsCaptured
  simp (disch := decide) only [State.sets_cons, State.sets_nil, State.get_set_touch_ne]
  rfl

theorem ppsInEdge_completes (ns sub : Nat) (s : State) : answers (.ppsInEdge ns sub) s fun t =>
    t.get Reg.STK_PPS_IN_TS_TIME = compactTime (s.stk.phcNs + ns) % 2 ^ 64 ∧ t.get Reg.STK_PPS_IN_INFO_NEW = 1 ∧
    t.stk.ppsNs = s.stk.phcNs + ns ∧ (s.stk.ppsUnread = true → t.get Reg.STK_PPS_IN_INFO_MISSED = 1) ∧ t.mem = s.mem := by
  have e : exec (.ppsInEdge ns sub) s =
      .next (raise Ev.ppsIn 0 0 (ppsCaptured (s.stk.phcNs + ns) (compactTime (s.stk.phcNs + ns)) sub (ppsMissed s))) := rfl
  refine ⟨_, e, ?_, ?_, ?_, fun hu => ?_, mem_of_but (but_of_next (execPpsInEdge_but (by decide +kernel) ..) e)⟩
  · rw [raise_get, ppsCaptured_time]
  · rw [raise_get, ppsCaptured_new]
  · rw [raise_stk, ppsCaptured, State.sets_stk]
    rfl
  · rw [raise_get, ppsCaptured_missed, ppsMissed, if_pos hu, State.get_set_same]
    rfl

theorem refLock_get (s : State) : (refLock s).get Reg.STK_STATUS_REF_LOCK = if s.stk.clkLock && s.flag Reg.STK_CTL_CLK10M_REF then 1 else 0 := by
  refine (State.get_set_same ..).trans ?_
  split <;> rfl

theorem clk10mLock_completes (s : State) : answers .clk10mLock s fun t =>
    t.stk.clkLock = true ∧ t.flag Reg.STK_STATUS_REF_LOCK = s.flag Reg.STK_CTL_CLK10M_REF ∧ t.mem = s.mem := by
  refine ⟨refLock (s.updStk fun u => { u with clkLock := true }), rfl, by simp [refLock], ?_, by simp [refLock]⟩
  have hf : (s.updStk fun u => { u with clkLock := true }).flag Reg.STK_CTL_CLK10M_REF = s.flag Reg.STK_CTL_CLK10M_REF := rfl
  rw [State.flag, refLock_get, hf]
  cases s.flag Reg.STK_CTL_CLK10M_REF <;> rfl

theorem clk10mLockLoss_completes (s : State) : answers .clk10mLockLoss s fun t =>
    t.stk.clkLock = false ∧ t.get Reg.STK_STATUS_REF_LOCK = 0 ∧ t.mem = s.mem := by
  have hl : (refLock (s.updStk fun u => { u with clkLock := false })).get Reg.STK_STATUS_REF_LOCK = 0 := refLock_get _
  refine ⟨_, rfl, ?_⟩
  dsimp only
  split
  · exact ⟨by simp [refLock], hl, by simp [refLock]⟩
  · exact ⟨by simp [refLock], hl, by simp [refLock]⟩

/-- A time-of-day message taken into its registers. -/
def todTaken (msg : Nat) (s : State) : State :=
  s.sets [(Reg.STK_TOD_SEC_SEC, byteField msg 4 11), (Reg.STK_TOD_INFO_VALID, 1),
    (Reg.STK_TOD_INFO_LEAP_PENDING, bit (byteField msg 14 14) 1), (Reg.STK_TOD_INFO_LEAP_NEG, bit (byteField msg 14 14) 2),
    (Reg.STK_TOD_INFO_UTC_OFFSET, byteField msg 12 13)]

theorem todTaken_sec (msg : Nat) (s : State) : (todTaken msg s).get Reg.STK_TOD_SEC_SEC = byteField msg 4 11 := by
  have h : byteField msg 4 11 < 2 ^ 64 := Nat.mod_lt _ (Nat.two_pow_pos _)
  unfold todTaken
  simp (disch := decide) only [State.sets_cons, State.sets_nil, State.get_set_touch_ne, State.get_set_same]
  exact Nat.mod_eq_of_lt h

theorem todTaken_valid (msg : Nat) (s : State) : (todTaken msg s).get Reg.STK_TOD_INFO_VALID = 1 := by
  unfold todTaken
  simp (disch := decide) only [State.sets_cons, State.sets_nil, State.get_set_touch_ne, State.get_set_same]
  rfl

theorem todMessage_completes (msg ms : Nat) (s : State) (h : todAccepted msg ms = true) : answers (.todMessage msg ms) s fun t =>
    t.get Reg.STK_TOD_SEC_SEC = byteField msg 4 11 ∧ t.get Reg.STK_TOD_INFO_VALID = 1 ∧ t.mem = s.mem := by
  have hmem : (todTaken msg s).mem = s.mem := by simp [todTaken]
  refine ⟨_, congrArg Host.Outcome.next (if_pos h), ?_⟩
  dsimp only
  split
  · refine ⟨?_, ?_, ?_⟩
    · exact (get_of_butField (requestStep_but (by decide +kernel) ..)).trans (todTaken_sec msg s)
    · exact (get_of_butField (requestStep_but (by decide +kernel) ..)).trans (todTaken_valid msg s)
    · exact (mem_of_but (requestStep_but (by decide +kernel) ..)).trans hmem
  · exact ⟨todTaken_sec msg s, todTaken_valid msg s, hmem⟩

/-- Settles O16: each command from its own lemma above; a pulse out changes no register. -/
theorem timeCommandsComplete : Obligations.TimeCommandsComplete := by
  unfold Obligations.TimeCommandsComplete
  refine ⟨?_, ?_, ppsInEdge_completes, ppsInTsRead_completes, ?_, clk10mLock_completes, clk10mLockLoss_completes, todMessage_completes⟩
  · rintro who ns frac s ⟨h, hr⟩
    exact phcSecRead_completes who ns frac s h hr
  · intro who mac s h
    exact txtsInfoRead_completes who mac s h
  · intro assert s
    exact ⟨_, rfl, rfl, rfl, rfl⟩

end Sys2Proof.Machine
end

section
/-!
CERTIFICATE. Work that finishes at its intake: a launch time beyond the horizon.
-/
namespace Sys2Proof.Machine
set_option Elab.async false

/-! ### The flights that the end of work leaves -/

theorem rng_of_butPart {s t : State} (h : t.but (butPart .rng) = s.but (butPart .rng)) : t.rng = s.rng := samePart_of_butPart h

theorem updRing_flights (r : Nat) (f : RingX → RingX) (s : State) : (updRing r f s).rng.flights = s.rng.flights := rfl

theorem cqWrite_flights (cq w : Nat) (s : State) : (cqWrite cq w s).rng.flights = s.rng.flights := by
  unfold cqWrite
  dsimp only
  rw [rng_of_butPart (cqNotice_but (by decide +kernel) ..), updRing_flights, State.setI_rng, rng_of_butPart (hostPut_but (by decide +kernel) ..)]

theorem cqCommit_flights (cq w : Nat) (s : State) : (cqCommit cq w s).rng.flights = s.rng.flights := by
  unfold cqCommit
  dsimp only
  rw [rng_of_butPart (ringCounts_but (by decide +kernel) ..)]
  split
  · rw [cqWrite_flights, updRing_flights]
  · rw [updRing_flights, updRing_flights]

/-- A completion that commits ends its own flight and no other. -/
theorem commitOne_flights (f : Flight) (c : Cpl) (s : State) :
    (commitOne f c s).rng.flights = s.rng.flights.filter fun g => g.seq != f.seq := by
  unfold commitOne
  dsimp only
  split
  · rw [rng_of_butPart (replyPut_but (by decide +kernel) ..)]
    rfl
  · rw [rng_of_butPart (ringIdleFlag_but (by decide +kernel) ..), rng_of_butPart (ringCounts_but (by decide +kernel) ..), cqCommit_flights]
    rfl

theorem commitRing_flights_subset (fuel r : Nat) (s : State) : (commitRing fuel r s).rng.flights ⊆ s.rng.flights := by
  induction fuel generalizing s with
  | zero => exact fun _ h => h
  | succ n ih =>
    rw [commitRing]
    split
    next f c _ =>
      have hs : (commitOne f c s).rng.flights ⊆ s.rng.flights := by
        rw [commitOne_flights]
        exact List.filter_subset_self _
      exact fun g hg => hs (ih _ hg)
    · exact fun _ h => h

theorem updFlight_flight {seq : Nat} {g : Flight → Flight} (hg : ∀ f, (g f).seq = f.seq) (s : State) :
    (updFlight seq g s).flight seq = (s.flight seq).map g := by
  unfold State.flight updFlight
  rw [State.updRng_rng, List.find?_map]
  have hp : ((fun f : Flight => f.seq == seq) ∘ fun f => if f.seq = seq then g f else f) = fun f => f.seq == seq := by
    funext f
    by_cases h : f.seq = seq <;> simp [h, hg]
  rw [hp]
  cases e : s.rng.flights.find? fun f => f.seq == seq with
  | none => rfl
  | some f =>
    have hf : f.seq = seq := by simpa using List.find?_some e
    simp [hf]

/-- A work entry that finishes keeps its status until it has committed. -/
theorem finishAs_finished {seq : Nat} {s : State} {f : Flight} (hf : s.flight seq = some f) (hd : f.done = none) (c : Cpl) :
    finishedWith (finishAs seq c s) seq c.status := by
  intro g hg hseq
  unfold finishAs at hg
  simp only [hf, hd, Option.isSome_none, Bool.false_eq_true, if_false] at hg
  obtain ⟨x, -, rfl⟩ := List.mem_map.1 (commitRing_flights_subset _ _ _ hg)
  by_cases hx : x.seq = seq
  · simp [hx]
  · simp [hx] at hseq

theorem finish_finished {seq : Nat} {s : State} {f : Flight} (hf : s.flight seq = some f) (hd : f.done = none) (st result : Nat) :
    finishedWith (finish seq st result s) seq st := finishAs_finished hf hd ⟨st, 0, result, none⟩

/-! ### Work that starts -/

/-- A work entry that starts answers the state that its engine leaves. -/
theorem answers_startWork {c : Instr} {w : Work} {o : Nat} {f : Flight} {act : Flight → State → State} {s t : State} {P : State → Prop}
    (h : takes s w o f) (he : exec c s = startWork w o act s) (ht : act f (starting s f) = t) (hP : P t) : answers c s P := by
  refine ⟨t, he.trans ?_, hP⟩
  rw [startWork, h.1]
  exact congrArg Host.Outcome.next ht

/-- A work entry that starts is in flight, started, and has not finished. -/
theorem starting_flight {s : State} {w : Work} {o : Nat} {f : Flight} (h : takes s w o f) :
    (starting s f).flight f.seq = some { f with started := true } ∧ f.done = none := by
  obtain ⟨hw, hf⟩ := h
  refine ⟨(updFlight_flight (g := fun f => { f with started := true }) (fun _ => rfl) s).trans (congrArg _ hf), ?_⟩
  have hp := List.find?_some hw
  simp only [Bool.and_eq_true, Option.isNone_iff_eq_none] at hp
  obtain ⟨⟨⟨-, hd⟩, -⟩, -⟩ := hp
  exact hd

/-! ### SEND -/

/-- The path from a node up to its port stands in the registers alone. -/
theorem nodePath_updRng (s : State) (u : Rng → Rng) (fuel h : Nat) : nodePath (s.updRng u) fuel h = nodePath s fuel h := by
  induction fuel generalizing h with
  | zero => rfl
  | succ n ih =>
    unfold nodePath
    split
    · rfl
    · exact congrArg _ (ih _)

theorem launchFar_starting (s : State) (f : Flight) (q : Nat) : launchFar (starting s f) f q = launchFar s f q := by
  have hq : (starting s f).queuePort q = s.queuePort q := by rw [State.queuePort, starting, updFlight, nodePath_updRng]; rfl
  unfold launchFar
  rw [hq]
  rfl

/-- Settles O8: the SEND finishes as it starts, so nothing but its flight, its ring and what leaves is changed. -/
theorem launchBeyondHorizonIsRefused : Obligations.LaunchBeyondHorizonIsRefused := by
  unfold Obligations.LaunchBeyondHorizonIsRefused
  rintro w f q s ⟨h, hq, hb, hfar⟩
  have e : exec (.send w) s = execSend w s := rfl
  obtain ⟨hf, hd⟩ := starting_flight h
  have hl : launchFar (starting s f) f q = true := by rw [launchFar_starting, launchFar, hb, decide_eq_true hfar]; rfl
  have hq' : Map.find? (starting s f).sch.local_ (localKey f.niche (byteField f.entry 24 25)) = some q := hq
  have same (p : Part) (hp : (finish.within (butPart p) && updFlight.within (butPart p)) = true) :
      samePart p s (finish f.seq St.launchRange (byteField f.entry 6 7) (starting s f)) := by
    obtain ⟨hfin, hupd⟩ := Bool.and_eq_true_iff.1 hp
    exact samePart_of_butPart ((finish_but hfin ..).trans (updFlight_but hupd ..))
  have hhif : (finish f.seq St.launchRange (byteField f.entry 6 7) (starting s f)).hif = s.hif := same .hif (by decide +kernel)
  refine answers_startWork (t := finish f.seq St.launchRange (byteField f.entry 6 7) (starting s f)) h e ?_
    ⟨finish_finished hf hd _ _, ?_, hhif, same .prs (by decide +kernel), same .sch (by decide +kernel), same .mem (by decide +kernel)⟩
  · simp only [hq', hl, if_true]
  · rw [State.readPending, hhif]
    rfl

end Sys2Proof.Machine
end

section
/-!
SUPPORT. Frames in classification: what each operation leaves of the frames held, and which of them stay themselves.
-/
namespace Sys2Proof.Machine
set_option Elab.async false

/-! ### The frames held -/

theorem prs_of_butPart {s t : State} (h : t.but (butPart .prs) = s.but (butPart .prs)) : t.prs = s.prs := samePart_of_butPart h

theorem State.pkt_id {s : State} {id : Nat} {p : Pkt} (h : s.pkt id = some p) : p.id = id := by
  simpa using List.find?_some h

theorem State.pkt_none_iff {s : State} {id : Nat} : s.pkt id = none ↔ ∀ p ∈ s.prs.pkts, p.id ≠ id := by
  simp [State.pkt]

theorem State.pkt_congr {s t : State} (h : t.prs.pkts = s.prs.pkts) (id : Nat) : t.pkt id = s.pkt id := by rw [State.pkt, h]; rfl

theorem mem_putPkt {p q : Pkt} {s : State} (h : q ∈ (putPkt p s).prs.pkts) : q = p ∨ (q ∈ s.prs.pkts ∧ q.id ≠ p.id) := by
  obtain ⟨x, hx, rfl⟩ := List.mem_map.1 h
  by_cases e : x.id = p.id
  · exact .inl (if_pos e)
  · rw [if_neg e]
    exact .inr ⟨hx, e⟩

/-- A frame changed in its place is found there. -/
theorem putPkt_pkt {p q : Pkt} {id : Nat} {s : State} (hid : p.id = id) (h : s.pkt id = some q) : (putPkt p s).pkt id = some p := by
  subst hid
  have hp : ((fun x : Pkt => x.id == p.id) ∘ fun x => if x.id = p.id then p else x) = fun x => x.id == p.id := by
    funext x
    by_cases e : x.id = p.id <;> simp [e]
  have hq : s.prs.pkts.find? (fun x => x.id == p.id) = some q := h
  rw [State.pkt, putPkt, State.updPrs_prs, List.find?_map, hp, hq, Option.map_some, if_pos (State.pkt_id h)]

theorem lastPkt_getLast (p : Pkt) (s : State) : (lastPkt p s).prs.pkts.getLast? = some p := List.getLast?_concat

theorem roShow_prs (s : State) : (roShow s).prs = s.prs := State.sets_prs ..

theorem clusterShow_prs (k : Nat) (s : State) : (clusterShow k s).prs = s.prs := State.setI_prs ..

theorem sendLost_prs (p : Pkt) (s : State) : (sendLost p s).prs = s.prs := prs_of_butPart (sendLost_but (by decide +kernel) ..)

theorem deliver_prs (p : Pkt) (s : State) : (deliver p s).prs = s.prs := prs_of_butPart (deliver_but (by decide +kernel) ..)

/-! ### Releases only take frames away -/

theorem releaseDomain_pkts_subset (fuel d : Nat) (s : State) : (releaseDomain fuel d s).prs.pkts ⊆ s.prs.pkts := by
  induction fuel generalizing s with
  | zero => exact fun _ h => h
  | succ n ih =>
    rw [releaseDomain]
    dsimp only
    split
    · exact fun _ h => h
    split
    · exact ih _
    split
    next p _ =>
      intro q hq
      have hq' := ih _ hq
      rw [deliver_prs] at hq'
      exact List.mem_of_mem_filter hq'
    · exact fun _ h => h

theorem release_pkts_subset (d : Nat) (s : State) : (release d s).prs.pkts ⊆ s.prs.pkts := by
  rw [release, roShow_prs]
  exact releaseDomain_pkts_subset ..

/-- A frame dropped is gone. -/
theorem dropSeq_pkts_subset (p : Pkt) (s : State) : (dropSeq p s).prs.pkts ⊆ s.prs.pkts.filter fun q => q.id != p.id := by
  unfold dropSeq
  dsimp only
  split
  · rw [roShow_prs]
    exact fun _ h => h
  · exact fun _ h => release_pkts_subset _ _ h

theorem dropSeq_pkt (p : Pkt) (s : State) : (dropSeq p s).pkt p.id = none := by
  refine State.pkt_none_iff.2 fun q hq => ?_
  simpa using List.of_mem_filter (dropSeq_pkts_subset p s hq)

/-- A frame that becomes ready is ready where it is still held. -/
theorem becomeReady_at (p : Pkt) (s : State) {q : Pkt} (hq : q ∈ (becomeReady p s).prs.pkts) (hid : q.id = p.id) :
    q.at_ = .ready s.stk.boundary := by
  unfold becomeReady at hq
  split at hq
  · rw [count_prs, sendLost_prs] at hq
    have hne : q.id ≠ p.id := by simpa using List.of_mem_filter (dropSeq_pkts_subset p s hq)
    exact absurd hid hne
  · obtain rfl | ⟨-, hne⟩ := mem_putPkt (release_pkts_subset _ _ hq)
    · rfl
    · exact absurd hid hne

theorem becomeReady_pkt (p : Pkt) (s : State) : ((becomeReady p s).pkt p.id).all fun q => q.at_ == .ready s.stk.boundary := by
  cases e : (becomeReady p s).pkt p.id with
  | none => rfl
  | some q => simpa using becomeReady_at p s (List.mem_of_find?_eq_some e) (State.pkt_id e)

/-! ### Tables keep a frame's place in its domain -/

/-- What a run through tables keeps of a frame. -/
def Pkt.place (p : Pkt) : Nat × Nat × Nat × Nat := (p.id, p.domain, p.seq, p.entered)

theorem putData_place (s : State) (t : Nat) (e : FlowEntry) (p : Pkt) : (putData s t e p).place = p.place := rfl

theorem Pkt.place_dropIf (c : Prop) {d : Decidable c} (p : Pkt) : (if c then { p with drop := true } else p).place = p.place := by
  split <;> rfl

theorem tableLookup_place (t : Nat) (p : Pkt) (s : State) : (tableLookup t p s).2.1.place = p.place := by
  unfold tableLookup
  dsimp only
  split
  · split <;> rfl
  · split
    · exact (putData_place ..).trans (Pkt.place_dropIf ..)
    · exact Pkt.place_dropIf ..
  · split <;> rfl
  · rfl

theorem inlineFail_place (reason : Nat) (p : Pkt) (s : State) : (inlineFail reason p s).1.place = p.place := rfl

theorem inlineDone_place (dec : Bool) (i : Nat) (l : List Byte) (p : Pkt) (s : State) : (inlineDone dec i l p s).1.place = p.place := by
  unfold inlineDone
  split <;> rfl

theorem cryptoAction_place (handle : Nat) (p : Pkt) (s : State) : (cryptoAction handle p s).1.place = p.place := by
  unfold cryptoAction
  split
  · exact inlineFail_place ..
  split
  · exact inlineFail_place ..
  simp only [apply_ite Prod.fst, apply_ite Pkt.place, inlineFail_place, inlineDone_place, ite_self]

theorem Pkt.place_setVec (p : Pkt) (v : Nat) : { p with vec := v }.place = p.place := rfl

theorem Pkt.place_coloured (p : Pkt) (v : Nat) (b : Bool) : { p with vec := v, drop := b }.place = p.place := rfl

theorem applyOp_place (stage op : Nat) (a : Pkt × State) : (applyOp stage op a).1.place = a.1.place := by
  obtain ⟨p, s⟩ := a
  unfold applyOp
  dsimp only
  split
  case h_5 =>
    split
    · split
      · rfl
      split
      · rfl
      · exact Pkt.place_setVec { p with edits := p.edits ++ [op] } _
    · rfl
  case h_6 => exact Pkt.place_coloured ..
  case h_7 => rfl
  case h_8 =>
    split
    · rfl
    · exact cryptoAction_place ..
  case h_9 => rfl
  case h_10 => rfl
  case h_11 => split <;> rfl
  all_goals exact Pkt.place_setVec ..

theorem applyAction_place (stage entry : Nat) (p : Pkt) (s : State) : (applyAction stage entry p s).1.place = p.place := by
  unfold applyAction
  generalize (List.range _).map _ = l
  generalize ha : (p, s) = a
  have hp : p = a.1 := congrArg Prod.fst ha
  rw [hp]
  clear ha hp
  induction l generalizing a with
  | nil => rfl
  | cons op l ih => rw [List.foldl_cons, ih, applyOp_place]

/-- A frame that has run through tables is itself, and parked or about to leave. -/
theorem runTables_place (l : List (Nat × Nat)) (park : Nat) (p : Pkt) (s : State) :
    (runTables l park p s).1.place = p.place ∧ (runTables l park p s).1.inPipe = true := by
  induction l generalizing p s with
  | nil => exact ⟨rfl, rfl⟩
  | cons e l ih =>
    rw [runTables]
    dsimp only
    split
    · exact ih ..
    split
    · exact ⟨rfl, rfl⟩
    have hl := tableLookup_place e.2 p s
    split
    next a _ =>
      obtain ⟨hplace, hin⟩ := ih (applyAction e.1 _ (tableLookup e.2 p s).2.1 (tableLookup e.2 p s).2.2).1 _
      exact ⟨hplace.trans ((applyAction_place ..).trans hl), hin⟩
    · obtain ⟨hplace, hin⟩ := ih (tableLookup e.2 p s).2.1 (tableLookup e.2 p s).2.2
      exact ⟨hplace.trans hl, hin⟩

/-- A frame whose lookups all return is about to leave. -/
theorem runTables_leaving (l : List (Nat × Nat)) {park : Nat} (h : ∀ e ∈ l, e.1 ≠ park) (p : Pkt) (s : State) :
    (runTables l park p s).1.at_ = .leaving := by
  induction l generalizing p s with
  | nil => rfl
  | cons e l ih =>
    have ih' := ih fun x hx => h x (List.mem_cons_of_mem e hx)
    rw [runTables]
    dsimp only
    split
    · exact ih' ..
    split
    next hp => exact absurd hp.1 (h e List.mem_cons_self)
    split
    · exact ih' ..
    · exact ih' ..

theorem runTables_prs (l : List (Nat × Nat)) (park : Nat) (p : Pkt) (s : State) : (runTables l park p s).2.prs = s.prs :=
  prs_of_butPart (runTables_but (by decide +kernel) ..)

end Sys2Proof.Machine
end

section
/-!
CERTIFICATE. Frames through the clusters, the pipelines, the spreader and the reorder engine.
-/
namespace Sys2Proof.Machine
set_option Elab.async false

/-! ### Arrival -/

theorem dealCluster_some {source : Nat} {l : List Nat} {s u : State} {k : Nat} (h : dealCluster source l s = some (k, u)) :
    u.prs.pkts = s.prs.pkts ∧ u.prs.nextId = s.prs.nextId ∧ u.mem = s.mem := by
  unfold dealCluster at h
  dsimp only at h
  split at h
  · cases h
    exact ⟨rfl, rfl, rfl⟩
  · cases h

/-- A frame whose cluster has room is queued there, last and with the next number. -/
theorem admitFrame_admits (p : Pkt) (s : State) (h : (s.prs.pkts.filter fun q => q.cluster == p.cluster && q.at_ == .queued).length < 256) :
    (admitFrame p s).prs.pkts = s.prs.pkts ++ [{ p with id := s.prs.nextId }] ∧ (admitFrame p s).prs.nextId = s.prs.nextId + 1 ∧
    (admitFrame p s).mem = s.mem := by
  unfold admitFrame
  rw [if_neg (Nat.not_le.2 h)]
  dsimp only
  rw [clusterShow_prs, clusterShow_mem]
  split
  · have hu : (ungate p.cluster s).prs = s.prs := prs_of_butPart (ungate_but (by decide +kernel) ..)
    rw [State.updPrs_prs, hu]
    exact ⟨rfl, rfl, mem_of_but (ungate_but (by decide +kernel) ..)⟩
  · exact ⟨rfl, rfl, rfl⟩

theorem wakeAll_prs (data : List Byte) (l : Map NicheX) (s : State) : (l.foldl (wakeOne data) s).prs = s.prs :=
  prs_of_butPart (foldl_but (fun _ _ => wakeOne_but (by decide +kernel) ..) ..)

theorem wakeAll_mem (data : List Byte) (l : Map NicheX) (s : State) : (l.foldl (wakeOne data) s).mem = s.mem :=
  mem_of_but (foldl_but (fun _ _ => wakeOne_but (by decide +kernel) ..) ..)

/-- A frame received in service goes to the cluster that it is dealt to. -/
theorem execFrameReceive_dealt {mac : Nat} {data : List Byte} {k : Nat} {s u : State} (ns sub : Nat) (hr : s.running = true)
    (hl : s.sch.linkUp.contains mac = true) (hu : s.unitServes 6 mac = true) (hp : s.inP1 = false)
    (hd : dealCluster mac ((Map.find? s.prs.lanes mac).getD []) (s.nch.niches.foldl (wakeOne data) s) = some (k, u)) :
    ∃ vec, execFrameReceive mac data ns sub s = .next (admitFrame (freshPkt (laneCluster u k) mac data vec none) u) := by
  have hopen : ¬(s.running = false ∨ s.sch.linkUp.contains mac = false ∨ s.unitServes 6 mac = false) := by
    rw [hr, hl, hu]
    decide
  unfold execFrameReceive
  rw [if_neg hopen]
  simp only [hp, Bool.false_eq_true, if_false, wakeAll_prs, hd]
  exact ⟨_, rfl⟩

theorem frameReceive_completes (mac : Nat) (data : List Byte) (ns sub k : Nat) (u s : State) (hr : s.running = true)
    (hl : s.sch.linkUp.contains mac = true) (hu : s.unitServes 6 mac = true) (hp : s.inP1 = false)
    (hd : dealCluster mac ((Map.find? s.prs.lanes mac).getD []) (s.nch.niches.foldl (wakeOne data) s) = some (k, u))
    (hq : (s.prs.pkts.filter fun q => q.cluster == laneCluster u k && q.at_ == .queued).length < 256) :
    answers (.frameReceive mac data ns sub) s fun t =>
      (t.prs.pkts.getLast?).map (fun p => (p.id, p.source, p.bytes, p.at_)) = some (s.prs.nextId, mac, data, PktAt.queued) ∧
      t.prs.nextId = s.prs.nextId + 1 ∧ t.mem = s.mem := by
  have e : exec (.frameReceive mac data ns sub) s = execFrameReceive mac data ns sub s := rfl
  obtain ⟨vec, hx⟩ := execFrameReceive_dealt ns sub hr hl hu hp hd
  obtain ⟨hpk, hid, hm⟩ := dealCluster_some hd
  rw [wakeAll_prs] at hpk hid
  rw [wakeAll_mem] at hm
  obtain ⟨hl', hn', hm'⟩ := admitFrame_admits (freshPkt (laneCluster u k) mac data vec none) u (by rw [hpk]; exact hq)
  refine ⟨_, e.trans hx, ?_, ?_, hm'.trans hm⟩
  · rw [hl', List.getLast?_concat, hid]
    rfl
  · rw [hn', hid]

/-! ### Parsing -/

/-- R381: a verdict other than OK is noted. -/
def verdictNoted (k engine v : Nat) (s : State) : State := if v = 0 then s else parseExc k engine v s

theorem verdictNoted_prs (k engine v : Nat) (s : State) : (verdictNoted k engine v s).prs = s.prs := by
  unfold verdictNoted
  split
  · rfl
  · exact prs_of_butPart (parseExc_but (by decide +kernel) ..)

theorem verdictNoted_mem (k engine v : Nat) (s : State) : (verdictNoted k engine v s).mem = s.mem := by
  unfold verdictNoted
  split
  · rfl
  · exact mem_of_but (parseExc_but (by decide +kernel) ..)

/-- A status bit that an event follows is set, whether it was set before or not. -/
theorem get_setOnce {f : Field} (hf : f.width = 1) (id obj data : Nat) (s : State) :
    (if s.flag f then s else raise id obj data (s.set f 1)).get f = 1 := by
  split
  next h => exact beq_iff_eq.1 h
  · rw [raise_get, State.get_set_same, hf]
    rfl

theorem get_setOnce_ne {f g : Field} (h : f.touch ≠ g.touch) (id obj data : Nat) (s : State) :
    (if s.flag f then s else raise id obj data (s.set f 1)).get g = s.get g := by
  split
  · rfl
  · rw [raise_get, State.get_set_touch_ne _ _ h]

theorem parseExc_verdict (k engine v : Nat) (s : State) : (parseExc k engine v s).get Reg.PRS_EXC_LAST_VERDICT = v % 2 ^ 8 := by
  unfold parseExc
  dsimp only
  rw [get_setOnce_ne (by decide)]
  simp (disch := decide) only [State.sets_cons, State.sets_nil, State.get_set_touch_ne, State.get_set_same]
  rfl

theorem parseExc_status (k engine v : Nat) (s : State) : (parseExc k engine v s).get Reg.PRS_STATUS_PARSE_EXC = 1 := by
  unfold parseExc
  exact get_setOnce rfl ..

/-- A frame as its cluster's engine releases it. -/
def parsedPkt (p : Pkt) (vec : Nat) : Pkt :=
  { p with vec := releaseVec p vec (vDest p.vec), at_ := .parsed, domain := byteField vec 16 19 % 2 ^ 20 }

theorem Pkt.id_released (p : Pkt) (v d : Nat) (a : PktAt) : { p with vec := v, at_ := a, domain := d }.id = p.id := rfl

theorem parsedPkt_id (p : Pkt) (vec : Nat) : (parsedPkt p vec).id = p.id := Pkt.id_released ..

theorem execParseFrame_queued {id : Nat} {p : Pkt} {s : State} (engine vec : Nat) (hp : s.pkt id = some p) (hat : p.at_ = .queued)
    (hs : p.source < 16) : execParseFrame id engine vec s =
      .next (clusterShow p.cluster (putPkt (parsedPkt p vec) (verdictNoted p.cluster engine (byteField vec 7 7) s))) := by
  unfold execParseFrame
  simp only [hp, hat, hs, ne_eq, not_true_eq_false, if_false, if_true]
  rfl

theorem parseFrame_completes (id engine vec : Nat) (p : Pkt) (s : State) (hp : s.pkt id = some p) (hat : p.at_ = .queued)
    (hs : p.source < 16) : answers (.parseFrame id engine vec) s fun t =>
      t.pkt id = some { p with vec := releaseVec p vec (vDest p.vec), at_ := .parsed, domain := byteField vec 16 19 % 2 ^ 20 } ∧
      (byteField vec 7 7 ≠ 0 → t.get Reg.PRS_EXC_LAST_VERDICT = byteField vec 7 7 ∧ t.get Reg.PRS_STATUS_PARSE_EXC = 1) ∧ t.mem = s.mem := by
  have e : exec (.parseFrame id engine vec) s = execParseFrame id engine vec s := rfl
  have hid : (parsedPkt p vec).id = id := (parsedPkt_id p vec).trans (State.pkt_id hp)
  have hv : byteField vec 7 7 < 2 ^ 8 := Nat.mod_lt _ (Nat.two_pow_pos _)
  have hget (f : Field) (hf : f.touch ≠ Reg.PRS_CL_INFO_QUEUE.touch) (u : State) :
      (clusterShow p.cluster (putPkt (parsedPkt p vec) u)).get f = u.get f :=
    State.getI_setI_field _ _ _ _ fun h => hf (congrArg Touch.place h)
  refine ⟨_, e.trans (execParseFrame_queued engine vec hp hat hs), ?_, fun hne => ⟨?_, ?_⟩, ?_⟩
  · rw [State.pkt_congr (congrArg Prs.pkts (clusterShow_prs ..))]
    refine putPkt_pkt hid (q := p) ?_
    rw [State.pkt_congr (congrArg Prs.pkts (verdictNoted_prs ..)), hp]
  · rw [hget _ (by decide), verdictNoted, if_neg hne, parseExc_verdict, Nat.mod_eq_of_lt hv]
  · rw [hget _ (by decide), verdictNoted, if_neg hne, parseExc_status]
  · rw [clusterShow_mem, putPkt_mem, verdictNoted_mem]

/-! ### The pipeline -/

/-- The sequence that a frame enters its pipeline with: a new one of its domain, unless it is on its way round. -/
def State.entrySeq (s : State) (p : Pkt) : Nat := if p.at_ == .recirc then p.seq else (s.domain p.domain).next

/-- The state once an entering frame has its sequence. -/
def seqTaken (p : Pkt) (s : State) : State :=
  if p.at_ == .recirc then s
  else setDomain p.domain { s.domain p.domain with next := ((s.domain p.domain).next + 1) % 2 ^ 32 } s

theorem seqTaken_next {p : Pkt} (h : p.at_ = .parsed) (s : State) :
    ((seqTaken p s).domain p.domain).next = ((s.domain p.domain).next + 1) % 2 ^ 32 := by
  rw [seqTaken, h, if_neg (by decide), State.domain, setDomain, State.updPrs_prs, Map.find?_put_same]
  rfl

theorem seqTaken_stk (p : Pkt) (s : State) : (seqTaken p s).stk = s.stk := by
  unfold seqTaken
  split <;> rfl

/-- R398: the version, the passes and the colour of a vector that enters a pipeline. -/
def entryVec (p : Pkt) (s : State) : Nat :=
  vecPut p.vec 6 1 (s.get Reg.PRS_VER_LIVE + (vPasses p.vec + 1) % 4 * 16 + vColour p.vec * 64)

/-- A frame as it enters its pipeline. -/
def enteredPkt (p : Pkt) (vec seq boundary : Nat) : Pkt := { p with vec := vec, seq := seq, entered := boundary, skip := 0, edits := [] }

theorem enteredPkt_place (p : Pkt) (vec seq boundary : Nat) : (enteredPkt p vec seq boundary).place = (p.id, p.domain, seq, boundary) := rfl

/-- An entering frame run through the tables of its pipe. -/
def entryRun (park : Nat) (p : Pkt) (s : State) : Pkt × State :=
  runTables (pipeTables (seqTaken p s) p.pipe) park (enteredPkt p (entryVec p (seqTaken p s)) (s.entrySeq p) (seqTaken p s).stk.boundary)
    (seqTaken p s)

theorem execPipelineEntry_enters {id park : Nat} {p : Pkt} {s : State} (hp : s.pkt id = some p) (hr : s.running = true)
    (hn : s.entersNext p = true) (hk : s.parkedAt p.pipe park < 256) (hf : (s.prs.pkts.filter s.inFlight).length < 65536) :
    execPipelineEntry id park s = .next (roShow (lastPkt (entryRun park p s).1 (entryRun park p s).2)) := by
  have hopen : ¬(s.running = false ∨ s.entersNext p = false ∨ 256 ≤ s.parkedAt p.pipe park) := by
    rw [hr, hn]
    simpa using hk
  have hroom : ¬(p.at_ = .parsed ∧ 65536 ≤ (s.prs.pkts.filter s.inFlight).length) := fun h => absurd h.2 (Nat.not_le.2 hf)
  unfold execPipelineEntry
  rw [hp]
  dsimp only
  rw [if_neg hopen, if_neg hroom]
  rfl

theorem pipelineEntry_completes (id park : Nat) (p : Pkt) (s : State) (hp : s.pkt id = some p) (hr : s.running = true)
    (hn : s.entersNext p = true) (hk : s.parkedAt p.pipe park < 256) (hf : (s.prs.pkts.filter s.inFlight).length < 65536) :
    answers (.pipelineEntry id park) s fun t =>
      (t.prs.pkts.getLast?).map (fun q => (q.id, q.domain, q.seq, q.entered, q.inPipe)) =
        some (id, p.domain, (if p.at_ = .recirc then p.seq else (s.domain p.domain).next), s.stk.boundary, true) ∧
      (p.at_ = .parsed → (t.domain p.domain).next = ((s.domain p.domain).next + 1) % 2 ^ 32) := by
  have e : exec (.pipelineEntry id park) s = execPipelineEntry id park s := rfl
  obtain ⟨hplace, hin⟩ : (entryRun park p s).1.place = _ ∧ (entryRun park p s).1.inPipe = true := runTables_place ..
  rw [enteredPkt_place, State.pkt_id hp, seqTaken_stk] at hplace
  simp only [Pkt.place, Prod.mk.injEq] at hplace
  obtain ⟨hid, hdom, hseq, hent⟩ := hplace
  refine ⟨_, e.trans (execPipelineEntry_enters hp hr hn hk hf), ?_, fun hat => ?_⟩
  · rw [roShow_prs, lastPkt_getLast, Option.map_some, hid, hdom, hseq, hent, hin, State.entrySeq]
    simp only [beq_iff_eq]
  · have hprs : (entryRun park p s).2.prs = (seqTaken p s).prs := runTables_prs ..
    have hdom : (roShow (lastPkt (entryRun park p s).1 (entryRun park p s).2)).prs.domains = (seqTaken p s).prs.domains := by
      rw [roShow_prs, ← hprs]
      rfl
    rw [← seqTaken_next hat, State.domain, hdom]
    rfl

theorem parkLookupReturn_completes (id park stage : Nat) (p : Pkt) (s : State) (hp : s.pkt id = some p) (hat : p.at_ = .parked stage)
    (hk : park ≤ stage) (hl : ((pipeTables s p.pipe).all fun e => decide (e.1 < 24)) = true) :
    answers (.parkLookupReturn id park) s fun t =>
      (t.prs.pkts.getLast?).map (fun q => (q.id, q.seq, q.at_)) = some (id, p.seq, PktAt.leaving) := by
  have e : exec (.parkLookupReturn id park) s = execParkLookupReturn id park s := rfl
  have hne : ∀ x ∈ (pipeTables s p.pipe).filter fun e => decide (stage ≤ e.1), x.1 ≠ 24 := by
    intro x hx
    have hlt : x.1 < 24 := by simpa using List.all_eq_true.1 hl x (List.mem_of_mem_filter hx)
    omega
  unfold execParkLookupReturn at e
  rw [hp] at e
  simp only [hat, Nat.not_lt.2 hk, false_and, if_false] at e
  refine ⟨_, e, ?_⟩
  beta_reduce
  have hplace := (runTables_place ((pipeTables s p.pipe).filter fun e => decide (stage ≤ e.1)) 24 p s).1
  have hleave := runTables_leaving _ hne p s
  simp only [Pkt.place, Prod.mk.injEq] at hplace
  obtain ⟨hid, -, hseq, -⟩ := hplace
  rw [lastPkt_getLast, Option.map_some, hid, hseq, hleave, State.pkt_id hp]

theorem devDrop_reason (reason : Nat) (p : Pkt) (s : State) : (devDrop reason p s).get Reg.PRS_DROP_LAST_REASON = reason % 16 := by
  unfold devDrop
  simp (disch := decide) only [State.sets_cons, State.sets_nil, State.get_set_touch_ne, State.get_set_same]
  rfl

theorem devDrop_status (reason : Nat) (p : Pkt) (s : State) : (devDrop reason p s).get Reg.PRS_STATUS_DEV_DROP = 1 := by
  unfold devDrop
  simp (disch := decide) only [State.sets_cons, State.sets_nil, State.get_set_same]
  rfl

theorem devDrop_count (reason : Nat) (p : Pkt) (s : State) :
    (devDrop reason p s).get Reg.PRS_DEV_DROP_COUNT = (count Reg.PRS_DEV_DROP_COUNT s).get Reg.PRS_DEV_DROP_COUNT := by
  unfold devDrop
  simp (disch := decide) only [State.sets_cons, State.sets_nil, State.get_set_touch_ne]

/-- What a frame's end shows is left alone where it is dropped. -/
theorem dropSeq_sendLost_get {f : Field} (h : (dropSeq.within (butField f) && sendLost.within (butField f)) = true) (p : Pkt) (s : State) :
    (dropSeq p (sendLost p s)).get f = s.get f := by
  obtain ⟨hd, hs⟩ := Bool.and_eq_true_iff.1 h
  exact (get_of_butField (dropSeq_but hd ..)).trans (get_of_butField (sendLost_but hs ..))

theorem residencyTimeout_completes (id stage : Nat) (p : Pkt) (s : State) (hp : s.pkt id = some p) (hat : p.at_ = .parked stage)
    (hb : p.entered + 4 ≤ s.stk.boundary) : answers (.residencyTimeout id) s fun t =>
      t.pkt id = none ∧ t.get Reg.PRS_DROP_LAST_REASON = 1 ∧ t.get Reg.PRS_STATUS_DEV_DROP = 1 ∧
      t.get Reg.PRS_DEV_DROP_COUNT = (count Reg.PRS_DEV_DROP_COUNT s).get Reg.PRS_DEV_DROP_COUNT := by
  have e : exec (.residencyTimeout id) s = execResidencyTimeout id s := rfl
  unfold execResidencyTimeout at e
  rw [hp] at e
  simp only [hat, hb, if_true] at e
  obtain rfl := State.pkt_id hp
  refine ⟨_, e, dropSeq_pkt .., ?_, ?_, ?_⟩
  · rw [dropSeq_sendLost_get (by decide +kernel), devDrop_reason]
  · rw [dropSeq_sendLost_get (by decide +kernel), devDrop_status]
  · rw [dropSeq_sendLost_get (by decide +kernel), devDrop_count]

end Sys2Proof.Machine
end

section
/-!
CERTIFICATE. Frames out of the pipelines: the deparser, the spreader and the reorder engine's skips.
-/
namespace Sys2Proof.Machine
set_option Elab.async false

/-! ### Leaving the pipeline -/

/-- The frame about to leave its pipe first. -/
abbrev leavesNext (s : State) (id : Nat) (p : Pkt) : Prop :=
  s.pkt id = some p ∧ p.at_ = .leaving ∧ (s.prs.pkts.find? fun q => q.pipe == p.pipe && q.at_ == .leaving).map (·.id) = some id

theorem not_stays_of_leavesNext {s : State} {id : Nat} {p : Pkt} (h : leavesNext s id p) :
    ¬(p.at_ ≠ .leaving ∨ (s.prs.pkts.find? fun q => q.pipe == p.pipe && q.at_ == .leaving).map (·.id) ≠ some id) := by
  obtain ⟨-, hat, hfirst⟩ := h
  exact not_or.2 ⟨not_not_intro hat, not_not_intro hfirst⟩

/-- A frame to be dropped releases its sequence as a drop (R392). -/
theorem execPipelineExit_drops {s : State} {id : Nat} {p : Pkt} (patch : List (Nat × Byte)) (h : leavesNext s id p)
    (hd : p.drop = true ∨ destKind (vDest p.vec) = 0) : execPipelineExit id patch s = .next (dropSeq p (sendLost p s)) := by
  have hd' : p.drop = true ∨ destKind (vDest p.vec) = 0 ∨ 7 ≤ destKind (vDest p.vec) := hd.imp_right .inl
  unfold execPipelineExit
  rw [h.1]
  dsimp only
  rw [if_neg (not_stays_of_leavesNext h), if_pos hd']

/-- A frame as the deparser leaves it. -/
def deparsedPkt (p : Pkt) (l : List Byte) (vec : Nat) : Pkt := { p with bytes := l, vec := vec, crypto := [], edits := [] }

theorem deparsedPkt_id (p : Pkt) (l : List Byte) (vec : Nat) : (deparsedPkt p l vec).id = p.id := rfl

theorem Pkt.id_moved (p : Pkt) (a : PktAt) : { p with at_ := a }.id = p.id := rfl

/-- A frame put at the end of the spreader's queue. -/
def spreadQueued (id : Nat) (p : Pkt) (s : State) : State :=
  (putPkt { p with at_ := .spread } s).updPrs fun u => { u with spread := s.prs.spread ++ [id] }

theorem spreadQueued_pkt {p q : Pkt} {id : Nat} {s : State} (hid : p.id = id) (h : s.pkt id = some q) :
    (spreadQueued id p s).pkt id = some { p with at_ := .spread } :=
  (State.pkt_congr (s := putPkt { p with at_ := .spread } s) rfl id).trans (putPkt_pkt ((Pkt.id_moved p _).trans hid) h)

/-- A frame that fits its limits goes to the spreader, or is ready. -/
theorem execPipelineExit_leaves {s : State} {id : Nat} {p : Pkt} {l : List Byte} {patch : List (Nat × Byte)} (h : leavesNext s id p)
    (hd : p.drop = false) (hk : destKind (vDest p.vec) ≠ 0) (hk' : destKind (vDest p.vec) < 7)
    (hl : deparse p.vec (s.rulesFor (vVersion p.vec)).templates patch p.edits p.bytes = l) (hlen : l.length ≤ 9212)
    (hgrow : l.length ≤ p.bytes.length + 128) : execPipelineExit id patch s =
      .next (if destKind (vDest p.vec) = 3 then
          spreadQueued id (deparsedPkt p l (vecPut p.vec 2 2 l.length)) s
        else becomeReady (deparsedPkt p l (vecPut p.vec 2 2 l.length)) s) := by
  have hd' : ¬(p.drop = true ∨ destKind (vDest p.vec) = 0 ∨ 7 ≤ destKind (vDest p.vec)) := by
    rw [hd]
    simp [hk, hk']
  have hbig : (decide (9212 < l.length) || decide (p.bytes.length + 128 < l.length)) = false := by
    rw [decide_eq_false (Nat.not_lt.2 hlen), decide_eq_false (Nat.not_lt.2 hgrow)]
    rfl
  unfold execPipelineExit
  rw [h.1]
  dsimp only
  rw [if_neg (not_stays_of_leavesNext h), if_neg hd', hl, hbig, if_neg Bool.false_ne_true]
  rfl

theorem pipelineExit_drops (id : Nat) (patch : List (Nat × Byte)) (p : Pkt) (s : State) (h : leavesNext s id p)
    (hd : p.drop = true ∨ destKind (vDest p.vec) = 0) : answers (.pipelineExit id patch) s fun t => t.pkt id = none := by
  have e : exec (.pipelineExit id patch) s = execPipelineExit id patch s := rfl
  obtain rfl := State.pkt_id h.1
  exact ⟨_, e.trans (execPipelineExit_drops patch h hd), dropSeq_pkt ..⟩

theorem pipelineExit_spreads (id : Nat) (patch : List (Nat × Byte)) (p : Pkt) (l : List Byte) (s : State) (h : leavesNext s id p)
    (hd : p.drop = false) (hk : destKind (vDest p.vec) = 3)
    (hl : deparse p.vec (s.rulesFor (vVersion p.vec)).templates patch p.edits p.bytes = l) (hlen : l.length ≤ 9212)
    (hgrow : l.length ≤ p.bytes.length + 128) : answers (.pipelineExit id patch) s fun t =>
      t.prs.spread = s.prs.spread ++ [id] ∧ (t.pkt id).map (fun q => (q.at_, q.bytes)) = some (PktAt.spread, l) ∧ t.mem = s.mem := by
  have e : exec (.pipelineExit id patch) s = execPipelineExit id patch s := rfl
  rw [execPipelineExit_leaves h hd (by omega) (by omega) hl hlen hgrow, if_pos hk] at e
  generalize vecPut p.vec 2 2 l.length = v at e
  refine ⟨_, e, rfl, ?_, rfl⟩
  rw [spreadQueued_pkt (p := deparsedPkt p l v) ((deparsedPkt_id ..).trans (State.pkt_id h.1)) h.1]
  rfl

theorem pipelineExit_readies (id : Nat) (patch : List (Nat × Byte)) (p : Pkt) (l : List Byte) (s : State) (h : leavesNext s id p)
    (hd : p.drop = false) (hk : destKind (vDest p.vec) ∈ [1, 2, 4, 5, 6])
    (hl : deparse p.vec (s.rulesFor (vVersion p.vec)).templates patch p.edits p.bytes = l) (hlen : l.length ≤ 9212)
    (hgrow : l.length ≤ p.bytes.length + 128) : answers (.pipelineExit id patch) s fun t =>
      (t.pkt id).all (fun q => q.at_ == .ready s.stk.boundary) = true := by
  have e : exec (.pipelineExit id patch) s = execPipelineExit id patch s := rfl
  simp only [List.mem_cons, List.not_mem_nil, or_false] at hk
  rw [execPipelineExit_leaves h hd (by omega) (by omega) hl hlen hgrow, if_neg (by omega)] at e
  refine ⟨_, e, ?_⟩
  have hr := becomeReady_pkt (deparsedPkt p l (vecPut p.vec 2 2 l.length)) s
  rw [deparsedPkt_id, State.pkt_id h.1] at hr
  exact hr

/-! ### The spreader -/

theorem memReadList_congr {s t : State} {a n : Nat} (h : ∀ c, a ≤ c → c < a + n → memRead t c = memRead s c) :
    memReadList t a n = memReadList s a n := by
  induction n generalizing a with
  | zero => rfl
  | succ n ih => rw [memReadList, memReadList, h a (by omega) (by omega), ih fun c hlo hhi => h c (by omega) (by omega)]

theorem memWriteList_append (s : State) (a : Nat) (l m : List Byte) :
    memWriteList s a (l ++ m) = memWriteList (memWriteList s a l) (a + l.length) m := by
  induction l generalizing s a with
  | nil => rfl
  | cons b l ih => rw [List.cons_append, memWriteList, memWriteList, ih, List.length_cons, Nat.add_assoc, Nat.add_comm 1]

/-- A byte string reads back as it was written. -/
theorem memReadList_memWriteList (s : State) (a : Nat) (l : List Byte) : memReadList (memWriteList s a l) a l.length = l := by
  induction l generalizing s a with
  | nil => rfl
  | cons b l ih =>
    rw [List.length_cons, memReadList, memWriteList, ih, memRead_memWriteList_out _ _ _ (by omega), memRead_memWrite_same]

/-- So does the first part of a longer one. -/
theorem memReadList_memWriteList_append (s : State) (a : Nat) (l m : List Byte) : memReadList (memWriteList s a (l ++ m)) a l.length = l := by
  rw [memWriteList_append]
  refine (memReadList_congr fun c _ hc => ?_).trans (memReadList_memWriteList s a l)
  exact memRead_memWriteList_out _ _ _ (.inl hc)

theorem toBytes_length (n v : Nat) : (toBytes n v).length = n := by
  induction n generalizing v with
  | zero => rfl
  | succ n ih => rw [toBytes, List.length_cons, ih]

theorem spreadTo_mem (tile slot : Nat) (p : Pkt) (s : State) : (spreadTo tile slot p s).mem =
    (memWriteList s (slotAddr s tile slot) (toBytes 256 p.vec ++ p.bytes.take 256)).mem := by
  unfold spreadTo
  dsimp only
  rw [putPkt_mem, State.updTil_mem, hwPut_mem]

theorem memReadList_mem {s t : State} (h : t.mem = s.mem) (a n : Nat) : memReadList t a n = memReadList s a n :=
  memReadList_congr fun c _ _ => by rw [memRead, h]; rfl

/-- R401: a packet's vector stands in its slot. -/
theorem spreadTo_vec (tile slot : Nat) (p : Pkt) (s : State) :
    memReadList (spreadTo tile slot p s) (slotAddr s tile slot) 256 = toBytes 256 p.vec := by
  rw [memReadList_mem (spreadTo_mem tile slot p s)]
  have h := memReadList_memWriteList_append s (slotAddr s tile slot) (toBytes 256 p.vec) (p.bytes.take 256)
  rwa [toBytes_length] at h

theorem spreadTo_prs (tile slot : Nat) (p : Pkt) (s : State) : (spreadTo tile slot p s).prs = (putPkt { p with at_ := .tile tile slot } s).prs := by
  unfold spreadTo
  dsimp only
  generalize toBytes 256 p.vec ++ p.bytes.take 256 = l
  generalize slotAddr s tile slot = a
  generalize hm : (⟨4, _, 0xFFF, vNiche p.vec⟩ : Msg) = m
  have h : (hwPut (tile * 256 + (Map.find? (memWriteList s a l).til.pktChan tile).getD 0) m (memWriteList s a l)).1.prs = s.prs :=
    (prs_of_butPart (hwPut_but (by decide +kernel) ..)).trans (memWriteList_prs ..)
  rw [putPkt, State.updPrs_prs, State.updTil_prs, h]
  rfl

theorem spreadShow_prs (s : State) : (spreadShow s).prs = s.prs := State.set_prs ..

/-- The state in which the spreader's next packet is put into its slot. -/
def turnTaken (rest : List Nat) (tile round : Nat) (s : State) : State :=
  (s.updPrs fun u => { u with spread := rest }).sets [(Reg.PRS_SPR_LAST, tile), (Reg.PRS_SPR_ROUND, round)]

theorem turnTaken_prs (rest : List Nat) (tile round : Nat) (s : State) : (turnTaken rest tile round s).prs = { s.prs with spread := rest } :=
  State.sets_prs ..

theorem turnTaken_pkt (rest : List Nat) (tile round : Nat) (s : State) (id : Nat) : (turnTaken rest tile round s).pkt id = s.pkt id :=
  State.pkt_congr (by rw [turnTaken_prs]) id

theorem turnTaken_last (rest : List Nat) (tile round : Nat) (s : State) : (turnTaken rest tile round s).get Reg.PRS_SPR_LAST = tile % 256 := by
  unfold turnTaken
  simp (disch := decide) only [State.sets_cons, State.sets_nil, State.get_set_touch_ne, State.get_set_same]
  rfl

theorem turnTaken_slotAddr (rest : List Nat) (tile round : Nat) (s : State) (u slot : Nat) :
    slotAddr (turnTaken rest tile round s) u slot = slotAddr s u slot := by
  have h : (turnTaken rest tile round s).getI Reg.TIL_MEM_CODE_4K u = s.getI Reg.TIL_MEM_CODE_4K u := by
    rw [turnTaken, State.sets_cons, State.sets_cons, State.sets_nil, State.set, State.getI_setI_field _ _ _ _ (by decide), State.set,
      State.getI_setI_field _ _ _ _ (by decide)]
    rfl
  rw [slotAddr, h]
  rfl

theorem execSpreaderDispatch_spreads {id tile round : Nat} {rest : List Nat} {p : Pkt} {s : State} (hs : s.prs.spread = id :: rest)
    (hp : s.pkt id = some p) (hn : nextTile 1632 (s.get Reg.PRS_SPR_LAST) (s.get Reg.PRS_SPR_ROUND) s = some (tile, round)) :
    execSpreaderDispatch s = .next (spreadShow (spreadTo tile (((Map.find? s.til.freeSlots tile).getD []).headD 0) p
      (turnTaken rest tile round s))) := by
  unfold execSpreaderDispatch
  rw [hs]
  dsimp only
  rw [hp, hn]
  rfl

theorem spreaderDispatch_completes (id tile round : Nat) (rest : List Nat) (p : Pkt) (s : State) (hs : s.prs.spread = id :: rest)
    (hp : s.pkt id = some p) (hn : nextTile 1632 (s.get Reg.PRS_SPR_LAST) (s.get Reg.PRS_SPR_ROUND) s = some (tile, round)) :
    answers .spreaderDispatch s fun t => t.prs.spread = rest ∧ t.get Reg.PRS_SPR_LAST = tile % 256 ∧
      (t.pkt id).map (·.at_) = some (PktAt.tile tile (((Map.find? s.til.freeSlots tile).getD []).headD 0)) ∧
      memReadList t (slotAddr s tile (((Map.find? s.til.freeSlots tile).getD []).headD 0)) 256 = toBytes 256 p.vec := by
  have e : exec .spreaderDispatch s = execSpreaderDispatch s := rfl
  rw [execSpreaderDispatch_spreads hs hp hn] at e
  generalize ((Map.find? s.til.freeSlots tile).getD []).headD 0 = slot at e ⊢
  have hprs : (spreadShow (spreadTo tile slot p (turnTaken rest tile round s))).prs =
      (putPkt { p with at_ := .tile tile slot } (turnTaken rest tile round s)).prs := by rw [spreadShow_prs, spreadTo_prs]
  have hid : { p with at_ := .tile tile slot }.id = id := (Pkt.id_moved p _).trans (State.pkt_id hp)
  have hput := putPkt_pkt hid ((turnTaken_pkt rest tile round s id).trans hp)
  refine ⟨_, e, ?_, ?_, ?_, ?_⟩
  · rw [hprs, putPkt, State.updPrs_prs, turnTaken_prs]
  · rw [spreadShow, State.get_set_touch_ne _ _ (by decide), get_of_butField (spreadTo_but (by decide +kernel) ..), turnTaken_last]
  · rw [State.pkt_congr (congrArg Prs.pkts hprs), hput]
    rfl
  · rw [memReadList_mem (spreadShow_mem _), ← turnTaken_slotAddr rest tile round s, spreadTo_vec]

/-! ### Skips -/

/-- A skip of a domain is recorded, and RO_SKIP is set. -/
def skipShown (d : Nat) (s : State) : Prop := s.get Reg.PRS_SKIP_LAST_DOMAIN = d % 2 ^ 20 ∧ s.get Reg.PRS_STATUS_RO_SKIP = 1

theorem skipHead_shown (d : Nat) (s : State) : skipShown d (skipHead d s) := by
  unfold skipHead
  dsimp only
  refine ⟨?_, get_setOnce rfl ..⟩
  rw [get_setOnce_ne (by decide)]
  simp (disch := decide) only [State.sets_cons, State.sets_nil, State.get_set_touch_ne, State.get_set_same]
  rfl

theorem release_shown {d : Nat} {s : State} (h : skipShown d s) : skipShown d (release d s) := by
  obtain ⟨hdom, hst⟩ := h
  exact ⟨(get_of_butField (release_but (by decide +kernel) ..)).trans hdom, (get_of_butField (release_but (by decide +kernel) ..)).trans hst⟩

theorem skipDomain_shown {d : Nat} (fuel : Nat) {s : State} (h : skipShown d s) : skipShown d (skipDomain fuel d s) := by
  induction fuel generalizing s with
  | zero => exact h
  | succ n ih =>
    rw [skipDomain]
    split
    · exact ih (release_shown (skipHead_shown d s))
    · exact h

/-- A domain whose skip is due holds a frame, so that the skip is carried out. -/
theorem skipDue_pkts {d : Nat} {s : State} (h : s.skipDue d = true) : s.prs.pkts ≠ [] := by
  intro he
  rw [State.skipDue, he, List.any_nil, Bool.and_false] at h
  exact Bool.false_ne_true h

theorem reorderSkip_completes (d : Nat) (s : State) (h : s.skipDue d = true) : answers (.reorderSkip d) s fun t =>
    t.get Reg.PRS_SKIP_LAST_DOMAIN = d % 2 ^ 20 ∧ t.get Reg.PRS_STATUS_RO_SKIP = 1 := by
  obtain ⟨n, hn⟩ := Nat.exists_eq_succ_of_ne_zero (List.length_pos_iff.2 (skipDue_pkts h)).ne'
  have e : exec (.reorderSkip d) s = .next (skipDomain s.prs.pkts.length d s) := rfl
  rw [hn, skipDomain, if_pos h] at e
  exact ⟨_, e, skipDomain_shown n (release_shown (skipHead_shown d s))⟩

/-- Settles O30: each command from its own lemma above. -/
theorem frameCommandsComplete : Obligations.FrameCommandsComplete := by
  unfold Obligations.FrameCommandsComplete
  refine ⟨?_, ?_, ?_, ?_, ?_, ?_, ?_, ?_, ?_, reorderSkip_completes⟩
  · rintro mac data ns sub k u s ⟨hr, hl, hu, hp, hd, hq⟩
    exact frameReceive_completes mac data ns sub k u s hr hl hu hp hd hq
  · rintro id engine vec p s ⟨hp, hat, hs⟩
    exact parseFrame_completes id engine vec p s hp hat hs
  · rintro id park p s ⟨hp, hr, hn, hk, hf⟩
    exact pipelineEntry_completes id park p s hp hr hn hk hf
  · rintro id park stage p s ⟨hp, hat, hk, hl⟩
    exact parkLookupReturn_completes id park stage p s hp hat hk hl
  · rintro id stage p s ⟨hp, hat, hb⟩
    exact residencyTimeout_completes id stage p s hp hat hb
  · rintro id patch p s ⟨hp, hat, hf, hd⟩
    exact pipelineExit_drops id patch p s ⟨hp, hat, hf⟩ hd
  · rintro id patch p l s ⟨hp, hat, hf, hd, hk, hl, hlen, hgrow⟩
    exact pipelineExit_spreads id patch p l s ⟨hp, hat, hf⟩ hd hk hl hlen hgrow
  · rintro id patch p l s ⟨hp, hat, hf, hd, hk, hl, hlen, hgrow⟩
    exact pipelineExit_readies id patch p l s ⟨hp, hat, hf⟩ hd hk hl hlen hgrow
  · rintro id tile round rest p s ⟨hs, hp, hn⟩
    exact spreaderDispatch_completes id tile round rest p s hs hp hn

end Sys2Proof.Machine
end

section
/-!
CERTIFICATE. What the armature, repair, journal, regulation and register commands leave unchanged.
-/
namespace Sys2Proof.Machine
set_option Elab.async false

/-! ### What a read changes

A read of a register clears those of its fields that read clear (R23), and no others. -/

theorem foldl_but_of_mem {E : Touch → Bool} {α : Type} {f : State → α → State} {l : List α} (h : ∀ a ∈ l, ∀ t, (f t a).but E = t.but E)
    (s : State) : (l.foldl f s).but E = s.but E := by
  induction l generalizing s with
  | nil => rfl
  | cons a l ih => rw [List.foldl_cons, ih fun b hb => h b (List.mem_cons_of_mem a hb), h a List.mem_cons_self]

/-- The changes of a read: those of any field of the register tables that reads clear, and the latch of a counter's high half. -/
def readCleared.within (E : Touch → Bool) : Bool :=
  E (.part .jnl) && Reg.table.all fun d => d.fields.all fun f => f.access != .rc || E f.touch

section
variable {E : Touch → Bool}

theorem readReg_but_cleared (h : readCleared.within E) (who : Issuer) {d : RegDef} (hd : d ∈ Reg.table) (i : Nat) (s : State) :
    (readReg who d i s).2.but E = s.but E := by
  simp only [readCleared.within, Bool.and_eq_true, List.all_eq_true] at h
  obtain ⟨hj, hc⟩ := h
  unfold readReg
  dsimp only
  split
  · exact State.updJnl_but hj ..
  split
  · rfl
  · refine foldl_but_of_mem (fun f hf t => ?_) s
    split
    next hrc => exact State.setI_but (by simpa [hrc] using hc d hd f hf) ..
    next => rfl

def mctpRead.clearedWithin (E : Touch → Bool) : Bool := E (.part .out) && readCleared.within E && accessDropped.within E

theorem mctpRead_but_cleared (h : mctpRead.clearedWithin E) (eid lo hi off : Nat) (s : State) :
    (mctpRead eid lo hi off s).but E = s.but E := by
  simp only [mctpRead.clearedWithin, Bool.and_eq_true] at h
  obtain ⟨⟨ho, hr⟩, ha⟩ := h
  unfold mctpRead
  dsimp only
  split
  · exact State.emit_but ho ..
  split
  next hf => rw [State.emit_but ho, readReg_but_cleared hr _ (findReg_mem hf)]
  next => rw [State.emit_but ho, accessDropped_but ha]

theorem execPwrRead_but_cleared (h : mctpRead.clearedWithin E) (eid off : Nat) (s : State) :
    Outcome.but E (execPwrRead eid off s) = some (s.but E) := congrArg some (ite_but (mctpRead_but_cleared h ..) rfl)

theorem execSvcRead_but_cleared (h : mctpRead.clearedWithin E) (eid off : Nat) (s : State) :
    Outcome.but E (execSvcRead eid off s) = some (s.but E) := by
  simp [execSvcRead, mctpAwake, mctpRead_but_cleared h]

def regRead.clearedWithin (E : Touch → Bool) : Bool := readGate.within E && readCleared.within E && reply.within E && accessDropped.within E

theorem regRead_but_cleared (h : regRead.clearedWithin E) (who : Issuer) (off : Nat) (s : State) : (regRead who off s).but E = s.but E := by
  simp only [regRead.clearedWithin, Bool.and_eq_true] at h
  obtain ⟨⟨⟨hg, hr⟩, hp⟩, ha⟩ := h
  refine readGate_but hg _ _ _ _ fun t => ?_
  split
  next hf => rw [reply_but hp, readReg_but_cleared hr _ (findReg_mem hf)]
  next => rw [reply_but hp, accessDropped_but ha]

theorem execCounterLowRead_but_cleared (h : regRead.clearedWithin E) (who : Issuer) (offset : Nat) (s : State) :
    Outcome.but E (execCounterLowRead who offset s) = some (s.but E) := congrArg some (ite_but (regRead_but_cleared h ..) rfl)

def execReadClears.clearedWithin (E : Touch → Bool) : Bool :=
  execArmJobRead.within E && execRehashStateRead.within E && execTxtsInfoRead.within E && regRead.clearedWithin E

theorem execReadClears_but_cleared (h : execReadClears.clearedWithin E) (who : Issuer) (offset : Nat) (s : State) :
    Outcome.but E (execReadClears who offset s) = some (s.but E) := by
  simp only [execReadClears.clearedWithin, Bool.and_eq_true] at h
  obtain ⟨⟨⟨hj, hh⟩, ht⟩, hr⟩ := h
  exact congrArg some (ite_but (nextOf_but (execArmJobRead_but hj ..)) (ite_but (nextOf_but (execRehashStateRead_but hh ..))
    (ite_but (nextOf_but (execTxtsInfoRead_but ht ..)) (regRead_but_cleared hr ..))))

end

/-! ### The frames -/

/-- Settles O54: each command's frame holds, its changes lie within what the statement lists. -/
theorem armatureAndServiceFrames : Obligations.ArmatureAndServiceFrames := by
  unfold Obligations.ArmatureAndServiceFrames
  refine ⟨?_, ?_, ?_, ?_, ?_, ?_, ?_, ?_, ?_, ?_, ?_, ?_, ?_, ?_, ?_, ?_, ?_, ?_, ?_, ?_, ?_, ?_, ?_, ?_, ?_, ?_, ?_, ?_, ?_, ?_,
    ?_, ?_, ?_, ?_, ?_, ?_, ?_, ?_, ?_, ?_, ?_, ?_, ?_, ?_, ?_, ?_, ?_, ?_, ?_, ?_, ?_, ?_, ?_, ?_, ?_, ?_, ?_, ?_, ?_, ?_, ?_,
    ?_, ?_, ?_, ?_, ?_, ?_, ?_⟩
  · exact fun who image token flashOk => keeps_of_but (by decide +kernel) (execStage_but (by decide +kernel) who image token flashOk)
  · exact fun who => keeps_of_but (by decide +kernel) (execMaquette_but (by decide +kernel) who)
  · exact fun findings warnings report =>
      keeps_of_but (by decide +kernel) (execMaquetteReportDone_but (by decide +kernel) findings warnings report)
  · exact fun who flashOk => keeps_of_but (by decide +kernel) (execPersist_but (by decide +kernel) who flashOk)
  · exact fun who flashOk => keeps_of_but (by decide +kernel) (execFlashWrite_but (by decide +kernel) who flashOk)
  · exact fun who arg flashOk => keeps_of_but (by decide +kernel) (execActivate_but (by decide +kernel) who arg flashOk)
  · exact fun who offset op => keeps_of_but (by decide +kernel) (execCommandUndefinedOp_but (by decide +kernel) who offset op)
  · exact keepsParts_of_but (execArmatureBootLoad_but (by decide +kernel))
  · exact fun who => keeps_of_but (by decide +kernel) (execPartialImage_but (by decide +kernel) who)
  · exact keeps_of_but (by decide +kernel) (execJobCheckDone_but (by decide +kernel))
  · exact keeps_of_but (by decide +kernel) (execJobDrainDone_but (by decide +kernel))
  · exact keeps_of_but (by decide +kernel) (execJobDrainTimeout_but (by decide +kernel))
  · exact fun pass => keeps_of_but (by decide +kernel) (execJobApplyDone_but (by decide +kernel) pass)
  · exact keeps_of_but (by decide +kernel) (execJobRampDone_but (by decide +kernel))
  · exact fun who => keeps_of_but (by decide +kernel) (execArmJobRead_but (by decide +kernel) who)
  · exact fun who => keeps_of_but (by decide +kernel) (execCancel_but (by decide +kernel) who)
  · exact fun who => keeps_of_but (by decide +kernel) (execTokenConsumeStep_but (by decide +kernel) who)
  · exact fun who => keeps_of_but (by decide +kernel) (execOwnershipTransfer_but (by decide +kernel) who)
  · exact fun who => keeps_of_but (by decide +kernel) (execDebugUnlock_but (by decide +kernel) who)
  · exact fun who => keeps_of_but (by decide +kernel) (execTallyGrant_but (by decide +kernel) who)
  · exact keeps_of_but (by decide +kernel) (execDebugUnlockExpiry_but (by decide +kernel))
  · exact fun l samples => keeps_of_but (by decide +kernel) (execRegulationRun_but (by decide +kernel) l samples)
  · exact fun l => keeps_of_but (by decide +kernel) (execRegulationApply_but (by decide +kernel) l)
  · exact fun l => keeps_of_but (by decide +kernel) (execEnvelopeApply_but (by decide +kernel) l)
  · exact fun who l run => keeps_of_but (by decide +kernel) (execAdviceAccept_but (by decide +kernel) who l run)
  · exact fun l => keeps_of_but (by decide +kernel) (execDecisionJournalFlush_but (by decide +kernel) l)
  · exact fun who bad => keeps_of_but (by decide +kernel) (execRead_but (by decide +kernel) who bad)
  · exact fun who => keeps_of_but (by decide +kernel) (execReadPrev_but (by decide +kernel) who)
  · exact fun who block => keeps_of_but (by decide +kernel) (execMark_but (by decide +kernel) who block)
  · exact fun who value => keeps_of_but (by decide +kernel) (execJournalAck_but (by decide +kernel) who value)
  · exact fun who => keeps_of_but (by decide +kernel) (execPatinaReadLatch_but (by decide +kernel) who)
  · exact fun eid start n bad => keeps_of_but (by decide +kernel) (execReadJournal_but (by decide +kernel) eid start n bad)
  · exact fun eid start n => keeps_of_but (by decide +kernel) (execReadPrevJournal_but (by decide +kernel) eid start n)
  · exact fun eid start n => keeps_of_but (by decide +kernel) (execReadPatina_but (by decide +kernel) eid start n)
  · exact fun eid start n => keeps_of_but (by decide +kernel) (execReadPinned_but (by decide +kernel) eid start n)
  · exact fun eid => keeps_of_but (by decide +kernel) (execClearPinned_but (by decide +kernel) eid)
  · exact fun eid off => keeps_of_but (by decide +kernel) (execPwrRead_but_cleared (by decide +kernel) eid off)
  · exact fun eid off => keeps_of_but (by decide +kernel) (execSvcRead_but_cleared (by decide +kernel) eid off)
  · exact fun who => keeps_of_but (by decide +kernel) (execDrain_but (by decide +kernel) who)
  · exact fun who => keeps_of_but (by decide +kernel) (execDrainCancel_but (by decide +kernel) who)
  · exact fun kind index => keeps_of_but (by decide +kernel) (execUnitDrained_but (by decide +kernel) kind index)
  · exact fun kind index => keeps_of_but (by decide +kernel) (execUnitDrainTimeout_but (by decide +kernel) kind index)
  · exact fun who => keeps_of_but (by decide +kernel) (execTest_but (by decide +kernel) who)
  · exact fun who => keeps_of_but (by decide +kernel) (execReadmit_but (by decide +kernel) who)
  · exact fun kind index pass => keeps_of_but (by decide +kernel) (execTestDone_but (by decide +kernel) kind index pass)
  · exact fun kind index => keeps_of_but (by decide +kernel) (execArmatureReloadDone_but (by decide +kernel) kind index)
  · exact fun kind index => keeps_of_but (by decide +kernel) (execProbationStep_but (by decide +kernel) kind index)
  · exact fun kind index => keeps_of_but (by decide +kernel) (execProbationEnd_but (by decide +kernel) kind index)
  · exact fun who => keeps_of_but (by decide +kernel) (execSubstitute_but (by decide +kernel) who)
  · exact fun who => keeps_of_but (by decide +kernel) (execRetire_but (by decide +kernel) who)
  · exact fun kind index code => keeps_of_but (by decide +kernel) (execUnitFailure_but (by decide +kernel) kind index code)
  · exact fun who => keeps_of_but (by decide +kernel) (execRepair_but (by decide +kernel) who)
  · exact fun index ok => keeps_of_but (by decide +kernel) (execRepairDone_but (by decide +kernel) index ok)
  · exact fun who => keeps_of_but (by decide +kernel) (execSpare_but (by decide +kernel) who)
  · exact fun stack => keeps_of_but (by decide +kernel) (execSpareSwitch_but (by decide +kernel) stack)
  · exact fun who => keeps_of_but (by decide +kernel) (execPlinthSwitch_but (by decide +kernel) who)
  · exact keeps_of_but (by decide +kernel) (execPlinthReady_but (by decide +kernel))
  · exact keeps_of_but (by decide +kernel) (execPlinthSwitchTimeout_but (by decide +kernel))
  · exact keeps_of_but (by decide +kernel) (execPlinthLockstepRestart_but (by decide +kernel))
  · exact fun pc => keeps_of_but (by decide +kernel) (execCorrectedError_but (by decide +kernel) pc)
  · exact fun structure_ bank => keeps_of_but (by decide +kernel) (execRecoveryEntry_but (by decide +kernel) structure_ bank)
  · exact fun rebuilt => keeps_of_but (by decide +kernel) (execRecoveryExit_but (by decide +kernel) rebuilt)
  · exact fun a write => keeps_of_but (by decide +kernel) (execInvalidAccess_but (by decide +kernel) a write)
  · exact fun who offset value => keepsParts_of_but (execRegisterWrite_but (by decide +kernel) who offset value)
  · exact fun who offset => keepsParts_of_but (execSatClear_but (by decide +kernel) who offset)
  · exact fun who offset => keeps_of_but (by decide +kernel) (execCounterLowRead_but_cleared (by decide +kernel) who offset)
  · exact fun who offset => keeps_of_but (by decide +kernel) (execReadClears_but_cleared (by decide +kernel) who offset)
  · exact fun p => keepsParts_of_but (execRegAccess_but (by decide +kernel) p)

end Sys2Proof.Machine
end

section
/-!
CERTIFICATE. The armature's commands: staging, maquette, flash and the boot descriptor, an undefined command, and the load at boot.
-/
namespace Sys2Proof.Machine
set_option Elab.async false

/-! ### An armature command that is accepted -/

/-- What the report of an armature command changes. -/
def armReported : Touch → Bool :=
  listed [.events, .jnl] (Shows.journal ++ [Reg.ARM_CMD_STATUS_OP, Reg.ARM_CMD_STATUS_RESULT, Reg.ARM_CMD_STATUS_STROKE])

theorem armReport_reported (op : Nat) (who : Issuer) (arg param param2 : Nat) (desc : Option (Nat × Nat)) (code : Nat) (event journal : Bool)
    (s : State) : (armReport op who arg param param2 desc code event journal s).but armReported = s.but armReported :=
  armReport_but (by decide +kernel) ..

theorem armReport_result (op : Nat) (who : Issuer) (arg param param2 : Nat) (desc : Option (Nat × Nat)) (code : Nat) (event journal : Bool)
    (s : State) : (armReport op who arg param param2 desc code event journal s).get Reg.ARM_CMD_STATUS_RESULT = code % 2 ^ 8 := by
  unfold armReport
  dsimp only
  split <;> simp (disch := decide) only [raise_get, State.sets_cons, State.sets_nil, State.get_set_touch_ne, State.get_set_same] <;> rfl

theorem armReport_op (op : Nat) (who : Issuer) (arg param param2 : Nat) (desc : Option (Nat × Nat)) (code : Nat) (event journal : Bool)
    (s : State) : (armReport op who arg param param2 desc code event journal s).get Reg.ARM_CMD_STATUS_OP = op % 2 ^ 8 := by
  unfold armReport
  dsimp only
  split <;> simp (disch := decide) only [raise_get, State.sets_cons, State.sets_nil, State.get_set_touch_ne, State.get_set_same] <;> rfl

theorem arm_of_reported {s t : State} (h : t.but armReported = s.but armReported) : t.arm = s.arm := samePart_of_but h .arm rfl

theorem mem_of_reported {s t : State} (h : t.but armReported = s.but armReported) : t.mem = s.mem := samePart_of_but h .mem rfl

section
variable {c : Instr} {op : Nat} {who : Issuer} {roles : List Role} {param param2 : Nat} {desc : Option (Nat × Nat)}
  {act : State → Nat × State} {s : State}

theorem armCmd_open (h : armOpen s op who) (hr : roles.contains who.role = true) : armCmd op who roles param param2 desc act s =
    .next (armReport op who (s.get Reg.ARM_CMD_ARG) param param2 desc (act s).1 true true (act s).2) := by
  obtain ⟨hj, hb, hp, hk⟩ := h
  simp [armCmd, hj, hb, hp, hk, -List.contains_eq_mem, hr]

/-- An armature command that is accepted answers the state that its report leaves. -/
theorem answers_armCmd {u : State} {P : State → Prop} (t : State) (h : armOpen s op who) (hr : roles.contains who.role = true)
    (he : exec c u = armCmd op who roles param param2 desc act s) (ha : act s = (Code.accepted, t))
    (hP : ∀ v, v.but armReported = t.but armReported → v.get Reg.ARM_CMD_STATUS_RESULT = Code.accepted → P v) : answers c u P := by
  refine ⟨_, he.trans (armCmd_open h hr), ?_⟩
  rw [ha]
  exact hP _ (armReport_reported ..) (armReport_result ..)

theorem platform_or_manager (h : who.role = .platform ∨ who.role = .manager) : [Role.manager, .platform].contains who.role = true := by
  obtain h | h := h <;> rw [h] <;> rfl

end

/-! ### Staging and the maquette -/

/-- An image, or a token, in the staging area. -/
def stagedAs (image : Image) (token : Option Token) (s : State) : State :=
  s.updArm fun u => { u with staged := if token.isSome then none else some image, stagedToken := token }

theorem stage_completes (who : Issuer) (image : Image) (token : Option Token) (flashOk : Bool) (s : State) (h : armOpen s 1 who)
    (hr : who.role = .platform ∧ image.len ≤ 67108864 ∨ who.role = .manager ∧ s.get Reg.ARM_STAGE_LEN_LEN ≤ 67108864)
    (hf : flashOk = true) : answers (.stage who image token flashOk) s fun t =>
      t.arm.staged = (if token.isSome then none else some image) ∧ t.arm.stagedToken = token ∧
      t.get Reg.ARM_CMD_STATUS_RESULT = Code.accepted ∧ t.mem = s.mem := by
  subst hf
  have e : exec (.stage who image token true) s = execStage who image token true s := rfl
  unfold execStage at e
  have hroom : ¬67108864 < (if who.role = .platform then image.len else s.get Reg.ARM_STAGE_LEN_LEN) := by
    obtain ⟨hr, hl⟩ | ⟨hr, hl⟩ := hr
    · rw [if_pos hr]; omega
    · rw [if_neg (by rw [hr]; nofun)]; omega
  refine answers_armCmd (stagedAs image token s) h (platform_or_manager (hr.imp And.left And.left)) e ?_ fun u hu hst => ?_
  · refine (if_neg hroom).trans ((if_neg (by decide)).trans ?_)
    cases token <;> rfl
  · rw [arm_of_reported hu, mem_of_reported hu]
    exact ⟨rfl, rfl, hst, rfl⟩

theorem maquette_completes (who : Issuer) (m : Image) (s : State) (h : armOpen s 2 who) (hr : who.role = .platform ∨ who.role = .manager)
    (hm : s.arm.staged = some m) (hrun : s.running = true) (hl : s.get Reg.ARM_CMD_ARG ≤ 1)
    (h1 : s.get Reg.ARM_CMD_ARG = 1 → s.dev = 5 ∧ 2 ≤ standbyTiles s) (hq : s.arm.maq = none) : answers (.maquette who) s fun t =>
      t.arm.maq = some ⟨s.get Reg.ARM_CMD_ARG, s.stroke, checkCode s m, m.imageId⟩ ∧ t.get Reg.ARM_CMD_STATUS_RESULT = Code.accepted ∧
      t.mem = s.mem := by
  have e : exec (.maquette who) s = execMaquette who s := rfl
  unfold execMaquette at e
  have hstate : ¬(s.running = false ∨ (s.get Reg.ARM_CMD_ARG = 1 ∧ s.dev ≠ 5) ∨ 1 < s.get Reg.ARM_CMD_ARG) := by
    rintro (hr | ⟨ha, hd⟩ | ha)
    · simp [hrun] at hr
    · exact hd (h1 ha).1
    · omega
  have hroom : ¬(s.get Reg.ARM_CMD_ARG = 1 ∧ standbyTiles s < 2) := fun ⟨ha, hn⟩ => absurd (h1 ha).2 (by omega)
  refine answers_armCmd (s.updArm fun u => { u with maq := some ⟨s.get Reg.ARM_CMD_ARG, s.stroke, checkCode s m, m.imageId⟩ }) h
    (platform_or_manager hr) e ?_ fun u hu hst => ?_
  · simp only [hm, hstate, hroom, hq, if_false, Option.isSome_none, Bool.false_eq_true]
  · rw [arm_of_reported hu, mem_of_reported hu]
    exact ⟨rfl, hst, rfl⟩

theorem maquetteReportDone_completes (findings warnings : Nat) (report : List Byte) (q : MaqRun) (s : State) (h : s.arm.maq = some q) :
    answers (.maquetteReportDone findings warnings report) s fun t => t.arm.maq = none ∧ t.get Reg.ARM_MAQ_STATUS_DONE = 1 ∧
      t.get Reg.ARM_MAQ_STATUS_RESULT = q.result % 2 ^ 8 ∧ t.get Reg.ARM_MAQ_STATUS_FINDINGS = findings % 2 ^ 16 ∧ t.mem = s.mem := by
  have e : exec (.maquetteReportDone findings warnings report) s = execMaquetteReportDone findings warnings report s := rfl
  unfold execMaquetteReportDone at e
  simp only [h] at e
  refine ⟨_, e, ?_, ?_, ?_, ?_, by simp⟩
  · rw [raise_arm, State.updArm_arm]
  all_goals
    simp (disch := decide) only [raise_get, State.updArm_get, State.sets_cons, State.sets_nil, State.get_set_touch_ne, State.get_set_same]
    rfl

/-! ### Flash and the boot descriptor -/

theorem bootDesc_congr {s t : State} (h : t.arm = s.arm) : bootDesc t = bootDesc s := by
  unfold bootDesc
  rw [h]

theorem putBootDesc_arm (s : State) : (putBootDesc s).arm = s.arm := samePart_of_butPart (p := .arm) (putBootDesc_but (by decide) s)

/-- R107: a descriptor rewritten is the one in force. -/
theorem bootDesc_writeBootDesc (f : BootDesc → BootDesc) (s : State) : bootDesc (writeBootDesc f s) =
    some { f ((bootDesc s).getD ⟨0, 0, 0, 0, 0⟩) with seq := ((bootDesc s).getD ⟨0, 0, 0, 0, 0⟩).seq + 1 } := by
  unfold writeBootDesc
  dsimp only
  rw [bootDesc_congr (putBootDesc_arm _)]
  cases h0 : s.arm.desc0 with
  | none => cases h1 : s.arm.desc1 <;> simp [bootDesc, h0, h1]
  | some a =>
    cases h1 : s.arm.desc1 with
    | none => simp [bootDesc, h0, h1]
    | some b =>
      by_cases hab : a.seq < b.seq
      · have hne : a ≠ b := fun e => by rw [e] at hab; exact Nat.lt_irrefl _ hab
        simp [bootDesc, h0, h1, hab, hne]
      · simp [bootDesc, h0, h1, hab]

theorem writeBootDesc_armSlots (f : BootDesc → BootDesc) (s : State) : (writeBootDesc f s).arm.armSlots = s.arm.armSlots := by
  unfold writeBootDesc
  dsimp only
  rw [putBootDesc_arm]
  split <;> rfl

theorem writeBootDesc_mem (f : BootDesc → BootDesc) (s : State) : (writeBootDesc f s).mem = s.mem :=
  mem_of_but (writeBootDesc_but (by decide +kernel) f s)

/-- The images of a slot. -/
def State.slotImages (s : State) (slot : Nat) : List Image := (Map.find? s.arm.armSlots slot).getD []

/-- Images put in a slot. -/
def slotFilled (slot : Nat) (l : List Image) (s : State) : State := s.updArm fun u => { u with armSlots := Map.put s.arm.armSlots slot l }

/-- A slot that is filled, and the descriptor rewritten, as an armature command that is accepted leaves them. -/
theorem slotFilled_reported {u s : State} {slot : Nat} {l : List Image} {f : BootDesc → BootDesc}
    (hu : u.but armReported = (writeBootDesc f (slotFilled slot l s)).but armReported) :
    Map.find? u.arm.armSlots slot = some l ∧ u.mem = s.mem := by
  rw [arm_of_reported hu, mem_of_reported hu, writeBootDesc_armSlots, writeBootDesc_mem]
  exact ⟨Map.find?_put_same .., rfl⟩

theorem persist_completes (who : Issuer) (flashOk : Bool) (m : Image) (s : State) (h : armOpen s 4 who) (hr : who.role = .manager)
    (hf : flashOk = true) (hd : s.arm.lastDone = some m) (hm : s.arm.staged = some m)
    (hn : (s.slotImages (s.get Reg.ARM_BOOTDESC_ARM_SLOT)).length < 16)
    (hl : slotUsed (s.slotImages (s.get Reg.ARM_BOOTDESC_ARM_SLOT)) + m.len ≤ 67108864) : answers (.persist who flashOk) s fun t =>
      Map.find? t.arm.armSlots (s.get Reg.ARM_BOOTDESC_ARM_SLOT) = some (s.slotImages (s.get Reg.ARM_BOOTDESC_ARM_SLOT) ++ [m]) ∧
      t.get Reg.ARM_CMD_STATUS_RESULT = Code.accepted ∧ t.mem = s.mem := by
  subst hf
  have e : exec (.persist who true) s = execPersist who true s := rfl
  unfold execPersist at e
  have hroom : ¬(16 ≤ (s.slotImages (s.get Reg.ARM_BOOTDESC_ARM_SLOT)).length ∨
      67108864 < slotUsed (s.slotImages (s.get Reg.ARM_BOOTDESC_ARM_SLOT)) + m.len) := by omega
  refine answers_armCmd (writeBootDesc (fun d => if s.get Reg.ARM_BOOTDESC_ARM_SLOT = 0 then { d with partialsA := d.partialsA + 1 }
      else { d with partialsB := d.partialsB + 1 })
    (slotFilled (s.get Reg.ARM_BOOTDESC_ARM_SLOT) (s.slotImages (s.get Reg.ARM_BOOTDESC_ARM_SLOT) ++ [m]) s)) h (by rw [hr]; rfl) e ?_
    fun u hu hst => ?_
  · simp only [hd, hm, ne_eq, not_true_eq_false, if_false]
    exact (if_neg hroom).trans (if_neg (by decide))
  · obtain ⟨hslot, hmem⟩ := slotFilled_reported hu
    exact ⟨hslot, hst, hmem⟩

theorem flashWrite_armature_completes (who : Issuer) (flashOk : Bool) (m : Image) (s : State) (h : armOpen s 5 who)
    (hr : who.role = .platform ∨ who.role = .manager) (hf : flashOk = true) (hm : s.arm.staged = some m) (ha : s.get Reg.ARM_CMD_ARG = 0)
    (hl : m.len ≤ 67108864) (hc : imageCode26 s 0 67108864 m = 0) : answers (.flashWrite who flashOk) s fun t =>
      Map.find? t.arm.armSlots (1 - s.get Reg.ARM_BOOTDESC_ARM_SLOT) = some [m] ∧ t.get Reg.ARM_CMD_STATUS_RESULT = Code.accepted ∧
      t.mem = s.mem := by
  subst hf
  have e : exec (.flashWrite who true) s = execFlashWrite who true s := rfl
  unfold execFlashWrite at e
  refine answers_armCmd (writeBootDesc (fun d => if 1 - s.get Reg.ARM_BOOTDESC_ARM_SLOT = 0 then { d with partialsA := 0 }
      else { d with partialsB := 0 }) (slotFilled (1 - s.get Reg.ARM_BOOTDESC_ARM_SLOT) [m] s)) h (platform_or_manager hr) e ?_
    fun u hu hst => ?_
  · simp only [hm, ha, hc, Nat.not_lt.2 hl, Nat.not_lt_zero, ne_eq, not_true_eq_false, Bool.true_eq_false, if_true, if_false]
    rfl
  · obtain ⟨hslot, hmem⟩ := slotFilled_reported hu
    exact ⟨hslot, hst, hmem⟩

theorem flashWrite_plinth_completes (who : Issuer) (flashOk : Bool) (m : Image) (s : State) (h : armOpen s 5 who)
    (hr : who.role = .platform ∨ who.role = .manager) (hf : flashOk = true) (hm : s.arm.staged = some m) (ha : s.get Reg.ARM_CMD_ARG = 1)
    (hl : m.len ≤ 16777216) (hc : imageCode26 s 2 16777216 m = 0) : answers (.flashWrite who flashOk) s fun t =>
      Map.find? t.arm.plinthSlots (1 - s.get Reg.ARM_BOOTDESC_PLINTH_SLOT) = some m ∧ t.get Reg.ARM_CMD_STATUS_RESULT = Code.accepted ∧
      t.mem = s.mem := by
  subst hf
  have e : exec (.flashWrite who true) s = execFlashWrite who true s := rfl
  unfold execFlashWrite at e
  refine answers_armCmd (s.updArm fun u => { u with plinthSlots := Map.put s.arm.plinthSlots (1 - s.get Reg.ARM_BOOTDESC_PLINTH_SLOT) m }) h
    (platform_or_manager hr) e ?_ fun u hu hst => ?_
  · simp only [hm, ha, hc, Nat.not_lt.2 hl, Nat.lt_irrefl, Nat.one_ne_zero, ne_eq, not_true_eq_false, Bool.true_eq_false, if_false]
  · rw [arm_of_reported hu, mem_of_reported hu]
    exact ⟨Map.find?_put_same .., hst, rfl⟩

/-- The argument of an armature command decides nothing about whether it starts. -/
theorem armOpen_set_arg {s : State} {op : Nat} {who : Issuer} (h : armOpen s op who) (arg : Nat) :
    armOpen (s.set Reg.ARM_CMD_ARG arg) op who := by
  simpa (disch := decide) only [armOpen, State.jReady, jobBlocks, State.flag, State.get_set_touch_ne, State.set_svc] using h

/-- R121: the slot that ACTIVATE selects: bit 1 of its argument tells the plinth's from the armature's. -/
def slotSelected (arg : Nat) (d : BootDesc) : BootDesc :=
  if bit arg 1 = 0 then { d with armSlot := bit arg 0 } else { d with plinthSlot := bit arg 0 }

theorem activate_completes (who : Issuer) (arg : Nat) (flashOk : Bool) (s : State) (h : armOpen s 6 who) (hr : who.role = .platform)
    (hf : flashOk = true) : answers (.activate who arg flashOk) s fun t =>
      (bit arg 1 = 0 → (bootDesc t).map (·.armSlot) = some (bit arg 0)) ∧
      (bit arg 1 ≠ 0 → (bootDesc t).map (·.plinthSlot) = some (bit arg 0)) ∧
      t.get Reg.ARM_CMD_STATUS_RESULT = Code.accepted ∧ t.mem = s.mem := by
  subst hf
  have e : exec (.activate who arg true) s = execActivate who arg true s := rfl
  unfold execActivate at e
  refine answers_armCmd (writeBootDesc (slotSelected arg) (s.set Reg.ARM_CMD_ARG arg)) (armOpen_set_arg h arg) (by rw [hr]; rfl) e
    (if_neg (by decide)) fun u hu hst => ?_
  rw [mem_of_reported hu, bootDesc_congr (arm_of_reported hu), bootDesc_writeBootDesc, writeBootDesc_mem, State.set_mem]
  refine ⟨fun hb => ?_, fun hb => ?_, hst, rfl⟩
  · simp [slotSelected, hb]
  · simp [slotSelected, hb]

/-! ### An undefined command (R828) -/

theorem undefinedOp_armature_completes (who : Issuer) (offset op : Nat) (s : State) (h : writeOpen s who offset) (ho : offset = 0x200060)
    (hb : s.flag Reg.ARM_CMD_BUSY = false) : answers (.commandUndefinedOp who offset op) s fun t =>
      t.get Reg.ARM_CMD_STATUS_RESULT = 0 ∧ t.get Reg.ARM_CMD_STATUS_OP = op % 2 ^ 8 ∧ t.mem = s.mem := by
  subst ho
  obtain ⟨hw, ha, -⟩ := h
  have e : exec (.commandUndefinedOp who 0x200060 op) s = execCommandUndefinedOp who 0x200060 op s := rfl
  unfold execCommandUndefinedOp at e
  extract_lets blk at e
  rw [regGate_open hw ha, if_pos rfl, if_neg (by rw [hb]; decide)] at e
  exact ⟨_, e, armReport_result .., armReport_op .., mem_of_reported (armReport_reported ..)⟩

/-- The command registers of the blocks, with the offsets at which they are written. -/
def cmdRegisters : List (Nat × CmdBlk) :=
  [(0x400000, Blk.nch), (0x500000, Blk.rng), (0xA00000, Blk.prs), (0xB00000, Blk.tbl), (0xC00000, Blk.sch), (0xE00000, Blk.nvs),
    (0x1000000, Blk.fab), (0x1200030, Blk.jnl), (0x1400000, Blk.svc), (0x1500000, Blk.pwr)]

/-- A command register shows its status apart from the rest of the report, in eight bits, and its BUSY bit apart from the report. -/
theorem cmdRegisters_apart : cmdRegisters.all (fun p =>
    p.2.statusApart && p.2.status.width == 8 && cmdFinish.within p.2 (butField p.2.busy)) = true := by decide +kernel

theorem execCommandUndefinedOp_block {who : Issuer} {offset op : Nat} {b : CmdBlk} {s : State} (hm : (offset, b) ∈ cmdRegisters)
    (hw : s.mayWriteRegs who = true) (ha : s.blockAnswers offset = true) : execCommandUndefinedOp who offset op s =
      .next (cmdStart b (cmdOf op who 0 0 0) true (fun s => .done St.invalid 0 s) s) := by
  unfold execCommandUndefinedOp
  extract_lets blk
  rw [regGate_open hw ha]
  simp only [cmdRegisters, List.mem_cons, Prod.mk.injEq, List.not_mem_nil, or_false] at hm
  obtain ⟨rfl, rfl⟩ | ⟨rfl, rfl⟩ | ⟨rfl, rfl⟩ | ⟨rfl, rfl⟩ | ⟨rfl, rfl⟩ | ⟨rfl, rfl⟩ | ⟨rfl, rfl⟩ | ⟨rfl, rfl⟩ | ⟨rfl, rfl⟩ |
    ⟨rfl, rfl⟩ := hm
  all_goals simp [blk]

theorem undefinedOp_block_completes (who : Issuer) (offset op : Nat) (b : CmdBlk) (s : State) (hm : (offset, b) ∈ cmdRegisters)
    (h : writeOpen s who offset) (hb : s.flag b.busy = false) : answers (.commandUndefinedOp who offset op) s fun t =>
      t.get b.status = St.invalid ∧ t.flag b.busy = false ∧ t.mem = s.mem := by
  obtain ⟨hw, ha, hj⟩ := h
  have hapart := List.all_eq_true.1 cmdRegisters_apart _ hm
  simp only [Bool.and_eq_true, beq_iff_eq] at hapart
  obtain ⟨⟨hstatus, hwidth⟩, hbusy⟩ := hapart
  refine ⟨_, execCommandUndefinedOp_block hm hw ha, ?_⟩
  rw [cmdStart_done ⟨hj, hb⟩ rfl]
  refine ⟨?_, ?_, by simp⟩
  · rw [cmdFinish, cmdReport_status b hstatus, hwidth]
    rfl
  · rw [State.flag, get_of_butField (cmdFinish_but b hbusy ..)]
    exact hb

/-! ### The load at boot -/

/-- What each step keeps, all of them keep. -/
theorem foldl_keeps {α β : Type} {f : State → α → State} (g : State → β) (h : ∀ s a, g (f s a) = g s) (l : List α) (s : State) :
    g (l.foldl f s) = g s := by
  induction l generalizing s with
  | nil => rfl
  | cons a l ih => rw [List.foldl_cons, ih, h]

theorem arm_of_butPart {s t : State} (h : t.but (butPart .arm) = s.but (butPart .arm)) : t.arm = s.arm := samePart_of_butPart h

theorem applySections_loaded (l : List Section) (s : State) : (applySections l s).arm.loaded = s.arm.loaded := by
  unfold applySections
  dsimp only
  rw [arm_of_butPart (putDigest_but (by decide +kernel) _)]
  refine foldl_keeps (fun s => s.arm.loaded) (fun s c => ?_) l _
  have hf : (putSecFields c.fields s).arm = s.arm := arm_of_butPart (putSecFields_but (by decide +kernel) ..)
  split
  · rw [State.updArm_arm, hf]
  · rw [hf]

theorem applyPartials_loaded (i : Nat) (l : List Image) (s : State) : (applyPartials i l s).arm.loaded = s.arm.loaded := by
  induction l generalizing i s with
  | nil => rfl
  | cons m l ih =>
    rw [applyPartials]
    dsimp only
    generalize (if imageCode26 s 1 67108864 m ≠ 0 then imageCode26 s 1 67108864 m
      else if m.baseDigest ≠ effDigest s.arm.inForce then Code.staleBase else imageCode s 1 m) = c
    split
    · rw [ih, State.set_arm, applySections_loaded]
    · rw [patina_arm, State.sets_arm]

theorem configureUnits_loaded (s : State) : (configureUnits s).arm.loaded = s.arm.loaded := by
  unfold configureUnits
  extract_lets retired keys s1 given used s2 s3
  have h1 : s1.arm = s.arm := by
    refine foldl_keeps State.arm (fun s k => ?_) _ _
    dsimp only
    split <;> simp only [State.setI_arm]
  clear_value s1 given used
  have h2 : s2.arm.loaded = s1.arm.loaded := rfl
  have h3 : s3.arm = s2.arm := by
    refine foldl_keeps State.arm (fun s k => ?_) _ _
    split
    · rfl
    split <;> simp only [State.setI_arm]
  clear_value s2 s3
  refine (congrArg Arm.loaded (foldl_keeps State.arm (fun s p => ?_) _ s3)).trans ?_
  · exact (arm_of_butPart (partitionCount_but (by decide +kernel) ..)).trans (State.setI_arm ..)
  · rw [h3, h2, h1]

theorem configureBlocks_arm (was : List Nat) (s : State) : (configureBlocks was s).arm = s.arm :=
  arm_of_butPart (configureBlocks_but (by decide +kernel) was s)

/-- R109: the image of a slot named, with nothing of it in force yet. -/
def bootNamed (slot : Nat) (fallback : Bool) (m : Image) (s : State) : State :=
  (s.updArm fun u => { u with inForce := [], unitPart := [], loaded := true, lastDone := none }).sets
    [(Reg.ARM_ID_IMAGE_ID, m.imageId), (Reg.ARM_INFO_SVN, m.svn), (Reg.ARM_INFO_FORMAT, m.format),
      (Reg.ARM_INFO_FALLBACK, if fallback then 1 else 0), (Reg.ARM_INFO_SLOT, slot), (Reg.ARM_INFO_PARTIALS, 0),
      (Reg.ARM_INFO_PARTIAL_FAULT, 0)]

/-- R110: an image and its partials in force. -/
def bootApplied (m : Image) (partials : List Image) (s : State) : State := applyPartials 0 partials (applySections m.sections s)

/-- R109: the units and blocks configured as the sections in force give them. -/
def bootConfigured (was : List Nat) (s : State) : State :=
  configureBlocks was (configureUnits (s.set Reg.ARM_INFO_PART_DEFINED (s.arm.unitPart.foldl (fun a e => a ||| 2 ^ e.2) 1)))

theorem bootApplied_loaded (m : Image) (partials : List Image) (s : State) : (bootApplied m partials s).arm.loaded = s.arm.loaded := by
  rw [bootApplied, applyPartials_loaded, applySections_loaded]

theorem bootConfigured_loaded (was : List Nat) (s : State) : (bootConfigured was s).arm.loaded = s.arm.loaded := by
  rw [bootConfigured, configureBlocks_arm, configureUnits_loaded, State.set_arm]

theorem bootFrom_eq {slot : Nat} {s : State} {m : Image} {partials : List Image} (fallback : Bool)
    (h : (Map.find? s.arm.armSlots slot).getD [] = m :: partials) : bootFrom slot fallback s =
      (enterState 3 0 ((bootConfigured [s.getI Reg.HIF_CTL_MODE 0, s.getI Reg.HIF_CTL_MODE 1]
        (bootApplied m partials (bootNamed slot fallback m s))).updPwr fun u => { u with nextStep := 1 })).updStk
        fun u => { u with counting := true } := by
  unfold bootFrom
  rw [h]
  rfl

/-- A slot that passes its checks holds an image. -/
theorem slotCode_ok {s : State} {slot : Nat} (h : slotCode s slot = 0) :
    ∃ m partials, (Map.find? s.arm.armSlots slot).getD [] = m :: partials := by
  refine List.exists_cons_of_ne_nil fun he => ?_
  rw [slotCode, he] at h
  exact absurd h (show Code.badHeader ≠ 0 by decide)

theorem armatureBootLoad_completes (pm : Image) (s : State) (hd : s.dev = 2)
    (hp : Map.find? s.arm.plinthSlots ((putBootDesc s).get Reg.ARM_BOOTDESC_PLINTH_SLOT) = some pm)
    (hc : imageCode26 (putBootDesc s) 2 16777216 pm = 0) (hs : slotCode (putBootDesc s) ((putBootDesc s).get Reg.ARM_BOOTDESC_ARM_SLOT) = 0) :
    answers .armatureBootLoad s fun t => t.dev = 3 ∧ t.arm.loaded = true ∧ t.stk.counting = true ∧ t.pwr.nextStep = 1 := by
  have e : exec .armatureBootLoad s = execArmatureBootLoad s := rfl
  unfold execArmatureBootLoad at e
  rw [← putBootDesc_arm] at hp
  obtain ⟨m, partials, hm⟩ := slotCode_ok hs
  simp only [hd, hp, hc, hs, ne_eq, not_true_eq_false, if_false, if_true, beq_self_eq_true, Bool.true_eq_false] at e
  rw [bootFrom_eq false (by rw [State.set_arm]; exact hm)] at e
  refine ⟨_, e, ?_, ?_, rfl, ?_⟩
  · rw [State.dev, State.updStk_get]
    exact enterState_dev ..
  · rw [State.updStk_arm, enterState_arm, State.updPwr_arm, bootConfigured_loaded, bootApplied_loaded, bootNamed, State.sets_arm,
      State.updArm_arm]
  · rw [State.updStk_pwr, enterState_pwr, State.updPwr_pwr]

/-- Settles O17: each command from its own lemma above. -/
theorem armatureCommandsComplete : Obligations.ArmatureCommandsComplete := by
  unfold Obligations.ArmatureCommandsComplete
  refine ⟨?_, ?_, maquetteReportDone_completes, ?_, ?_, ?_, ?_, ?_, ?_, ?_⟩
  · rintro who image token flashOk s ⟨h, hr, hf⟩
    exact stage_completes who image token flashOk s h hr hf
  · rintro who m s ⟨h, hr, hm, hrun, hl, h1, hq⟩
    exact maquette_completes who m s h hr hm hrun hl h1 hq
  · rintro who flashOk m s ⟨h, hr, hf, hd, hm, hn, hl⟩
    exact persist_completes who flashOk m s h hr hf hd hm hn hl
  · rintro who flashOk m s ⟨h, hr, hf, hm, ha, hl, hc⟩
    exact flashWrite_armature_completes who flashOk m s h hr hf hm ha hl hc
  · rintro who flashOk m s ⟨h, hr, hf, hm, ha, hl, hc⟩
    exact flashWrite_plinth_completes who flashOk m s h hr hf hm ha hl hc
  · rintro who arg flashOk s ⟨h, hr, hf⟩
    exact activate_completes who arg flashOk s h hr hf
  · rintro who offset op s ⟨h, ho, hb⟩
    exact undefinedOp_armature_completes who offset op s h ho hb
  · rintro who offset op b s ⟨hm, h, hb⟩
    exact undefinedOp_block_completes who offset op b s hm h hb
  · rintro pm s ⟨hd, hp, hc, hs⟩
    exact armatureBootLoad_completes pm s hd hp hc hs

end Sys2Proof.Machine
end

section
/-!
CERTIFICATE. The re-armature job, and the tokens.
-/
namespace Sys2Proof.Machine
set_option Elab.async false

/-! ### Fields set in turn, changes deferred, and memory -/

theorem State.setsI_nil (s : State) (i : Nat) : s.setsI i [] = s := rfl

theorem State.setsI_cons (s : State) (i : Nat) (f : Field) (v : Nat) (l : List (Field × Nat)) :
    s.setsI i ((f, v) :: l) = (s.setI f i v).setsI i l := rfl

theorem State.getI_setI_touch_ne (s : State) {f g : Field} (i j v : Nat) (h : f.touch ≠ g.touch) : (s.setI f i v).getI g j = s.getI g j :=
  s.getI_setI_field i j v fun e => h (congrArg Touch.place e.symm)

/-- A change deferred behind operations that defer nothing and leave the clock alone. -/
theorem defer_deferred {s t : State} (hd : t.deferred = s.deferred) (hs : t.stk = s.stk) (c : Change) :
    (t.defer c).deferred = s.deferred ++ [(s.dueBoundary, c)] := by
  rw [State.defer, State.updDeferred_deferred, hd, State.dueBoundary, hs]
  rfl

/-- A command whose changes leave memory alone answers a state with the same memory. -/
theorem mem_of_answer {c : Instr} {s t : State} (h : Outcome.but notMem (exec c s) = some (s.but notMem)) (e : exec c s = .next t) :
    t.mem = s.mem := mem_of_but (but_of_next h e)

/-! ### What a job's phase shows -/

theorem jDevice_get_of {f : Field} (h : jDevice.within (butField f) = true) (kind niche status : Nat) (bodies : List Nat) (s : State) :
    (jDevice kind niche status bodies s).get f = s.get f := get_of_butField (jDevice_but h ..)

theorem jobPhase_phase (new code : Nat) (s : State) : (jobPhase new code s).get Reg.ARM_JOB_PHASE = new % 2 ^ 4 := by
  unfold jobPhase
  dsimp only
  split <;> simp (disch := decide) only [raise_get, jDevice_get_of, State.updArm_get, State.sets_cons, State.sets_nil, State.get_set_touch_ne,
    State.get_set_same] <;> rfl

theorem jobPhase_result (new code : Nat) (s : State) : (jobPhase new code s).get Reg.ARM_JOB_RESULT = code % 2 ^ 8 := by
  unfold jobPhase
  dsimp only
  split <;> simp (disch := decide) only [raise_get, jDevice_get_of, State.updArm_get, State.sets_cons, State.sets_nil, State.get_set_touch_ne,
    State.get_set_same] <;> rfl

theorem jobPhase_arm (new code : Nat) (s : State) :
    (jobPhase new code s).arm = { s.arm with job := s.arm.job.map fun j => { j with since := s.stk.boundary } } := by
  unfold jobPhase
  dsimp only
  split
  · rw [raise_arm, jDevice_arm, State.updArm_arm, State.sets_arm, State.sets_stk]
  · rw [jDevice_arm, State.updArm_arm, State.sets_arm, State.sets_stk]

theorem jobPhase_deferred (new code : Nat) (s : State) : (jobPhase new code s).deferred = s.deferred :=
  samePart_of_butPart (p := .deferred) (jobPhase_but (by decide +kernel) new code s)

theorem jobPhase_stk (new code : Nat) (s : State) : (jobPhase new code s).stk = s.stk :=
  samePart_of_butPart (p := .stk) (jobPhase_but (by decide +kernel) new code s)

/-- A change deferred behind a move of the job's phase. -/
theorem jobPhase_defer (new code : Nat) (c : Change) (s : State) :
    ((jobPhase new code s).defer c).deferred = s.deferred ++ [(s.dueBoundary, c)] :=
  defer_deferred (jobPhase_deferred ..) (jobPhase_stk ..) c

theorem jobMask_get {f : Field} (h : jobMask.within (butField f) = true) (mask v : Nat) (s : State) : (jobMask mask v s).get f = s.get f :=
  get_of_butField (jobMask_but h mask v s)

theorem jobMask_arm (mask v : Nat) (s : State) : (jobMask mask v s).arm = s.arm := arm_of_butPart (jobMask_but (by decide) mask v s)

/-- The end of a job leaves its phase as it last moved. -/
theorem jobEnd_get {f : Field} (h : f.touch ≠ Reg.ARM_JOB_PART_MASK.touch) (hm : jobMask.within (butField f) = true) (new code : Nat) (s : State) :
    (jobEnd new code s).get f = (jobPhase new code s).get f := by
  unfold jobEnd
  dsimp only
  rw [State.updArm_get, jobMask_get hm, jobMask_get hm, State.get_set_touch_ne _ _ h.symm]

theorem jobEnd_phase (new code : Nat) (s : State) : (jobEnd new code s).get Reg.ARM_JOB_PHASE = new % 2 ^ 4 :=
  (jobEnd_get (by decide) (by decide) new code s).trans (jobPhase_phase ..)

theorem jobEnd_result (new code : Nat) (s : State) : (jobEnd new code s).get Reg.ARM_JOB_RESULT = code % 2 ^ 8 :=
  (jobEnd_get (by decide) (by decide) new code s).trans (jobPhase_result ..)

theorem jobEnd_arm (new code : Nat) (s : State) : (jobEnd new code s).arm = { s.arm with job := none } := by
  unfold jobEnd
  dsimp only
  rw [State.updArm_arm, jobMask_arm, jobMask_arm, State.set_arm, jobPhase_arm]

theorem jobEnd_mem (new code : Nat) (s : State) : (jobEnd new code s).mem = s.mem := mem_of_but (jobEnd_but (by decide +kernel) new code s)

theorem jobReleaseDrain_mem (s : State) : (jobReleaseDrain s).mem = s.mem := mem_of_but (jobReleaseDrain_but (by decide +kernel) s)

/-! ### The job's phases -/

/-- R129: a job for a partial image, its partitions marked. -/
def jobStarted (m : Image) (s : State) : State :=
  jobMask m.partMask 1 ((s.updArm fun _ => { s.arm with job := some ⟨m, s.stk.boundary⟩ }).set Reg.ARM_JOB_PART_MASK m.partMask)

theorem partialImage_completes (who : Issuer) (m : Image) (s : State) (h : armOpen s 3 who) (hr : who.role = .manager)
    (hm : s.arm.staged = some m) (hrun : s.running = true) (ha : stateAllows s.dev m = true)
    (hu : ((maskUnits s m.partMask).any fun k => s.getI Reg.SVC_UNIT_INFO_STATE k != 0 ||
      (decide (k < 128) && s.flagI Reg.TIL_INFO_DEBUG_HELD k)) = false) : answers (.partialImage who) s fun t =>
      t.arm.job.map (·.image) = some m ∧ t.get Reg.ARM_JOB_PHASE = 1 ∧ t.get Reg.ARM_CMD_STATUS_RESULT = Code.accepted ∧ t.mem = s.mem := by
  obtain ⟨hj, hb, hp, hk⟩ := h
  have e : exec (.partialImage who) s = .next (jobPhase 1 0 (armReport 3 who (s.get Reg.ARM_CMD_ARG) 0 0 none Code.accepted false true
      (jobStarted m s))) := by
    have e : exec (.partialImage who) s = execPartialImage who s := rfl
    rw [e, execPartialImage]
    simp only [hj, hb, hp, hk, hr, hm, hrun, ha, hu, Option.isSome_none, Bool.false_eq_true, Bool.true_eq_false, or_self, ne_eq,
      not_true_eq_false, if_false, bne_self_eq_false, jobStarted]
  refine ⟨_, e, ?_, jobPhase_phase .., ?_, ?_⟩
  · rw [jobPhase_arm, arm_of_reported (armReport_reported ..), jobStarted, jobMask_arm, State.set_arm]
    rfl
  · rw [get_of_butField (jobPhase_but (by decide +kernel) ..), armReport_result]
    rfl
  · rw [jobPhase_mem, mem_of_reported (armReport_reported ..), jobStarted, mem_of_but (jobMask_but (by decide) ..)]
    simp

theorem jobCheckDone_completes (j : Job) (s : State) (h : s.arm.job = some j) (hp : s.get Reg.ARM_JOB_PHASE = 1) :
    answers .jobCheckDone s fun t =>
      t.get Reg.ARM_JOB_PHASE = (if partialCode s j.image ≠ 0 then 7 else if j.image.partMask = 0 then 5 else 2) ∧ t.mem = s.mem := by
  have e : exec .jobCheckDone s = execJobCheckDone s := rfl
  unfold execJobCheckDone at e
  simp only [h, hp, ne_eq, not_true_eq_false, if_false] at e
  refine ⟨_, e, ?_, mem_of_answer (execJobCheckDone_but (by decide +kernel) s) e⟩
  split
  · exact jobEnd_phase ..
  split <;> rw [defer_get] <;> exact jobPhase_phase ..

theorem jobDrainDone_completes (s : State) (h : s.arm.job.isSome = true) (hp : s.get Reg.ARM_JOB_PHASE = 2) : answers .jobDrainDone s fun t =>
    t.deferred = s.deferred ++ [(s.dueBoundary, .jobHold)] ∧ t.regs = s.regs ∧ t.mem = s.mem :=
  ⟨s.defer .jobHold, congrArg Host.Outcome.next (if_pos ⟨h, hp⟩), rfl, rfl, rfl⟩

theorem jobDrainTimeout_completes (j : Job) (s : State) (h : s.arm.job = some j) (hp : s.get Reg.ARM_JOB_PHASE = 2)
    (hl : j.since + clamp 256 16777216 (s.get Reg.ARM_DRAIN_LIMIT_LIMIT) ≤ s.stk.boundary) : answers .jobDrainTimeout s fun t =>
      t.get Reg.ARM_JOB_PHASE = 7 ∧ t.get Reg.ARM_JOB_RESULT = Code.drainTimeout ∧ t.arm.job = none ∧ t.mem = s.mem := by
  have e : exec .jobDrainTimeout s = execJobDrainTimeout s := rfl
  unfold execJobDrainTimeout at e
  simp only [h, hp, hl, and_self, if_true] at e
  refine ⟨_, e, jobEnd_phase .., jobEnd_result .., ?_, ?_⟩
  · rw [jobEnd_arm]
  · rw [jobEnd_mem, jobReleaseDrain_mem]

theorem jobApplyDone_completes (pass : Bool) (s : State) (h : s.arm.job.isSome = true) (hp : s.get Reg.ARM_JOB_PHASE = 4) :
    answers (.jobApplyDone pass) s fun t => t.get Reg.ARM_JOB_PHASE = (if pass then 5 else 7) ∧
      (pass = true → t.deferred = s.deferred ++ [(s.dueBoundary, .jobSwitch)]) ∧ t.mem = s.mem := by
  obtain ⟨j, hj⟩ := Option.isSome_iff_exists.1 h
  have e : exec (.jobApplyDone pass) s = execJobApplyDone pass s := rfl
  unfold execJobApplyDone at e
  simp only [hj, hp, if_true] at e
  refine ⟨_, e, ?_, ?_, mem_of_answer (execJobApplyDone_but (by decide +kernel) pass s) e⟩
  · cases pass
    · exact jobEnd_phase ..
    · simp only [if_true]
      rw [defer_get]
      exact jobPhase_phase ..
  · rintro rfl
    exact jobPhase_defer ..

theorem jobRampDone_completes (j : Job) (s : State) (h : s.arm.job = some j) (hp : s.get Reg.ARM_JOB_PHASE = 5) :
    answers .jobRampDone s fun t => t.get Reg.ARM_JOB_PHASE = 6 ∧ t.arm.job = none ∧ t.arm.lastDone = some j.image ∧ t.mem = s.mem := by
  have e : exec .jobRampDone s = execJobRampDone s := rfl
  unfold execJobRampDone at e
  simp only [h, hp, if_true] at e
  refine ⟨_, e, jobEnd_phase .., congrArg Arm.job (jobEnd_arm ..), (congrArg Arm.lastDone (jobEnd_arm ..)).trans ?_,
    mem_of_answer (execJobRampDone_but (by decide +kernel) s) e⟩
  refine (congrArg Arm.lastDone (foldl_keeps State.arm (fun s k => ?_) _ _)).trans rfl
  split
  · exact arm_of_butPart (setUnitState_but (by decide +kernel) ..)
  · rfl

theorem armJobRead_completes (who : Issuer) (s : State) (h : readOpen s 0x200070) : answers (.armJobRead who) s fun t =>
    t.out = (reply who (s.get Reg.ARM_JOB_PHASE * 2 ^ 60 + s.get Reg.ARM_JOB_RESULT * 2 ^ 52 + s.get Reg.ARM_JOB_PART_MASK * 2 ^ 32 +
      s.get Reg.ARM_JOB_STROKES) s).out ∧
    t.get Reg.ARM_JOB_PHASE = (if (s.get Reg.ARM_JOB_PHASE = 6 ∨ s.get Reg.ARM_JOB_PHASE = 7) ∧ who.role = .manager then 0
      else s.get Reg.ARM_JOB_PHASE) ∧ t.mem = s.mem := by
  refine answers_readGate h rfl rfl ⟨?_, ?_, ?_⟩
  · refine reply_out_congr _ _ ?_
    split
    · rw [State.set_out]
    · rfl
  · rw [reply_get]
    split
    · exact State.get_set_same ..
    · rfl
  · rw [reply_mem]
    split
    · rw [State.set_mem]
    · rfl

theorem cancel_completes (who : Issuer) (s : State) (h : armOpen s 8 who) (hr : who.role = .manager) (hj : s.arm.job.isSome = true)
    (hp : s.get Reg.ARM_JOB_PHASE = 1 ∨ s.get Reg.ARM_JOB_PHASE = 2) : answers (.cancel who) s fun t =>
      t.get Reg.ARM_JOB_PHASE = 7 ∧ t.get Reg.ARM_JOB_RESULT = Code.cancelled ∧ t.arm.job = none ∧
      t.get Reg.ARM_CMD_STATUS_RESULT = Code.accepted ∧ t.mem = s.mem := by
  have e : exec (.cancel who) s = execCancel who s := rfl
  unfold execCancel at e
  refine answers_armCmd (jobEnd 7 Code.cancelled (jobReleaseDrain s)) h (by rw [hr]; rfl) e (if_pos ⟨hj, hp⟩) fun u hu hst => ?_
  refine ⟨(getI_of_but hu rfl _ (by decide) 0).trans (jobEnd_phase ..), (getI_of_but hu rfl _ (by decide) 0).trans (jobEnd_result ..), ?_, hst, ?_⟩
  · rw [arm_of_reported hu, jobEnd_arm]
  · rw [mem_of_reported hu, jobEnd_mem, jobReleaseDrain_mem]

/-! ### Tokens -/

/-- What the nonce of a presented token and the report of its command change. -/
def tokenReported : Touch → Bool := listed [.events, .free, .jnl]
  (Shows.journal ++ [Reg.ARM_CMD_STATUS_OP, Reg.ARM_CMD_STATUS_RESULT, Reg.ARM_CMD_STATUS_STROKE, Reg.ARM_NONCE_VALUE])

theorem arm_of_tokenReported {s t : State} (h : t.but tokenReported = s.but tokenReported) : t.arm = s.arm := samePart_of_but h .arm rfl

theorem mem_of_tokenReported {s t : State} (h : t.but tokenReported = s.but tokenReported) : t.mem = s.mem := samePart_of_but h .mem rfl

/-- A token that passes its checks and has its effect: the nonce is spent, and the command reports ACCEPTED. -/
theorem answers_tokenCmd {c : Instr} {kind : Nat} {who : Issuer} {tk : Token} {act : Token → State → Nat × State} {s : State}
    {P : State → Prop} (t : State) (h : armOpen s 7 who) (hr : who.role = .platform ∨ who.role = .manager) (ht : tokenHolds s kind tk)
    (he : exec c s = tokenCmd kind who act s) (ha : act tk s = (Code.accepted, t))
    (hP : ∀ u, u.but tokenReported = t.but tokenReported → u.get Reg.ARM_CMD_STATUS_RESULT = Code.accepted → P u) : answers c s P := by
  obtain ⟨hs, hmagic, hkind, huid, hnonce, hsig⟩ := ht
  unfold tokenCmd at he
  refine ⟨_, he.trans (armCmd_open h (platform_or_manager hr)), ?_⟩
  simp only [hs, hmagic, hkind, huid, hnonce, hsig, ha, and_self, if_true]
  refine hP _ ((armReport_but (by decide +kernel) ..).trans ?_) (armReport_result ..)
  rw [State.set_but (by decide), State.draw_but (by decide)]

/-- R127: a step counts as consumed. -/
theorem consumeStep_consumed (t arg unit row : Nat) (s : State) :
    (consumeStep t arg unit row s).getI Reg.ARM_TALLY_CONSUMED t = (s.getI Reg.ARM_TALLY_CONSUMED t + 1) % 2 ^ 16 := by
  unfold consumeStep
  extract_lets n s1 s2 s3 s4
  have h1 : s1.getI Reg.ARM_TALLY_CONSUMED t = s.getI Reg.ARM_TALLY_CONSUMED t := by
    simp (disch := decide) only [s1, State.setsI_cons, State.setsI_nil, State.getI_setI_touch_ne]
  rw [getI_of_butField (tallyLow_but (by decide) ..), getI_of_butField (capGrants_but (by decide) ..), State.getI_setI_field _ _ _ _ (by decide),
    State.getI_setI_same, State.updArm_getI, h1]
  rfl

/-- R127: a step no longer remains. -/
theorem consumeStep_remaining (t arg unit row : Nat) (s : State) :
    (consumeStep t arg unit row s).getI Reg.ARM_TALLY_REMAINING t = (s.getI Reg.ARM_TALLY_REMAINING t - 1) % 2 ^ 16 := by
  unfold consumeStep
  extract_lets n s1 s2 s3 s4
  have h1 : s1.getI Reg.ARM_TALLY_REMAINING t = s.getI Reg.ARM_TALLY_REMAINING t := by
    simp (disch := decide) only [s1, State.setsI_cons, State.setsI_nil, State.getI_setI_touch_ne]
  rw [getI_of_butField (tallyLow_but (by decide) ..), getI_of_butField (capGrants_but (by decide) ..), State.getI_setI_same,
    State.getI_setI_field _ _ _ _ (by decide), State.updArm_getI, h1]
  rfl

theorem consumeStep_mem (t arg unit row : Nat) (s : State) : (consumeStep t arg unit row s).mem = s.mem :=
  mem_of_but (consumeStep_but (by decide +kernel) ..)

/-- R113, R125: what a consumed step of tally 1, 2 or 5 brings about beside its count. -/
def stepEffect (a : Nat) (s : State) : State :=
  if a = 1 then s.set Reg.ARM_FLOOR_PLINTH (s.getI Reg.ARM_TALLY_CONSUMED a)
  else if a = 2 then s.set Reg.ARM_FLOOR_ARMATURE (s.getI Reg.ARM_TALLY_CONSUMED a)
  else disableDebug s

/-- What the effects of a step change. -/
def stepEffects : Touch → Bool := listed [.arm] [Reg.ARM_FLOOR_PLINTH, Reg.ARM_FLOOR_ARMATURE]

theorem stepEffect_but (a : Nat) (s : State) : (stepEffect a s).but stepEffects = s.but stepEffects :=
  ite_but (State.set_but (by decide) ..) (ite_but (State.set_but (by decide) ..) (disableDebug_but (by decide) s))

theorem tokenConsumeStep_completes (who : Issuer) (tk : Token) (a : Nat) (s : State) (h : armOpen s 7 who)
    (hr : who.role = .platform ∨ who.role = .manager) (ht : tokenHolds s 1 tk) (hb : byteField tk.bytes 3 3 = a) (ha : a = 1 ∨ a = 2 ∨ a = 5)
    (hn : s.getI Reg.ARM_TALLY_REMAINING a ≠ 0) : answers (.tokenConsumeStep who) s fun t =>
      t.getI Reg.ARM_TALLY_CONSUMED a = (s.getI Reg.ARM_TALLY_CONSUMED a + 1) % 2 ^ 16 ∧
      t.getI Reg.ARM_TALLY_REMAINING a = (s.getI Reg.ARM_TALLY_REMAINING a - 1) % 2 ^ 16 ∧
      t.get Reg.ARM_CMD_STATUS_RESULT = Code.accepted ∧ t.mem = s.mem := by
  have e : exec (.tokenConsumeStep who) s = execTokenConsumeStep who s := rfl
  unfold execTokenConsumeStep at e
  have hk : ¬(a ≠ 1 ∧ a ≠ 2 ∧ a ≠ 5) := by omega
  refine answers_tokenCmd (stepEffect a (consumeStep a 0 0 0 s)) h hr ht e ?_ fun u hu hst => ?_
  · rw [hb]
    exact (if_neg hk).trans (if_neg hn)
  · have he := stepEffect_but a (consumeStep a 0 0 0 s)
    refine ⟨?_, ?_, hst, ?_⟩
    · rw [getI_of_but hu rfl _ (by decide), getI_of_but he rfl _ (by decide), consumeStep_consumed]
    · rw [getI_of_but hu rfl _ (by decide), getI_of_but he rfl _ (by decide), consumeStep_remaining]
    · rw [mem_of_tokenReported hu, samePart_of_but he .mem rfl, consumeStep_mem]

theorem ownershipTransfer_completes (who : Issuer) (tk : Token) (s : State) (h : armOpen s 7 who)
    (hr : who.role = .platform ∨ who.role = .manager) (ht : tokenHolds s 2 tk) (hn : s.getI Reg.ARM_TALLY_REMAINING 0 ≠ 0) :
    answers (.ownershipTransfer who) s fun t => t.arm.newKey = some (byteField tk.bytes 20 67) ∧
      t.get Reg.ARM_CMD_STATUS_RESULT = Code.accepted ∧ t.mem = s.mem := by
  have e : exec (.ownershipTransfer who) s = execOwnershipTransfer who s := rfl
  unfold execOwnershipTransfer at e
  refine answers_tokenCmd ((consumeStep 0 0 0 0 s).updArm fun u => { u with newKey := some (byteField tk.bytes 20 67) }) h hr ht e (if_neg hn)
    fun u hu hst => ?_
  rw [arm_of_tokenReported hu, mem_of_tokenReported hu, State.updArm_arm, State.updArm_mem, consumeStep_mem]
  exact ⟨rfl, hst, rfl⟩

theorem openDebug_unlock (payload : Nat) (s : State) : (openDebug payload s).arm.unlock.map (·.2) = some (byteField payload 16 23) := by
  unfold openDebug
  dsimp only
  rw [foldl_keeps State.arm (fun s t => ?_)]
  · rfl
  · split
    · rfl
    · rw [raise_arm, jDevice_arm, State.setsI_arm]

theorem debugUnlock_completes (who : Issuer) (tk : Token) (s : State) (h : armOpen s 7 who) (hr : who.role = .platform ∨ who.role = .manager)
    (ht : tokenHolds s 3 tk) (hd : s.arm.debugDisabled = false) : answers (.debugUnlock who) s fun t =>
      t.arm.unlock.map (·.2) = some (byteField (byteField tk.bytes 20 67) 16 23) ∧ t.get Reg.ARM_CMD_STATUS_RESULT = Code.accepted ∧
      t.mem = s.mem := by
  have e : exec (.debugUnlock who) s = execDebugUnlock who s := rfl
  unfold execDebugUnlock at e
  refine answers_tokenCmd (openDebug (byteField tk.bytes 20 67) s) h hr ht e (if_neg (by rw [hd]; decide)) fun u hu hst => ⟨?_, hst, ?_⟩
  · rw [arm_of_tokenReported hu, openDebug_unlock]
  · rw [mem_of_tokenReported hu, mem_of_but (openDebug_but (by decide +kernel) ..)]

/-- R126: the grant of a role on a tally, raised as far as what remains of it allows, and journaled. -/
theorem tallyGrant_grants {f : Field} {g a n now : Nat} (who : Issuer) (tk : Token) (s : State) (h : armOpen s 7 who)
    (hr : who.role = .platform ∨ who.role = .manager) (ht : tokenHolds s 4 tk) (hb : byteField tk.bytes 3 3 = a) (ha : a = 3 ∨ a = 4)
    (hg : byteField tk.bytes 20 20 = g) (hf : (g = 1 ∧ f = Reg.ARM_TALLY_GRANT_PLATFORM) ∨ (g = 4 ∧ f = Reg.ARM_TALLY_GRANT_DEVICE))
    (hn : byteField tk.bytes 21 22 = n) (hnow : now = min (min 1023 (s.getI Reg.ARM_TALLY_REMAINING a)) (s.getI f a + n)) :
    answers (.tallyGrant who) s fun t => t.getI f a = now ∧ t.get Reg.ARM_CMD_STATUS_RESULT = Code.accepted ∧ t.mem = s.mem := by
  have e : exec (.tallyGrant who) s = execTallyGrant who s := rfl
  unfold execTallyGrant at e
  have hk : ¬((a ≠ 3 ∧ a ≠ 4) ∨ (g ≠ 1 ∧ g ≠ 4)) := by omega
  have hfield : (if g = 1 then Reg.ARM_TALLY_GRANT_PLATFORM else Reg.ARM_TALLY_GRANT_DEVICE) = f := by
    obtain ⟨rfl, rfl⟩ | ⟨rfl, rfl⟩ := hf <;> rfl
  have hw : f.width = 10 := by obtain ⟨-, rfl⟩ | ⟨-, rfl⟩ := hf <;> rfl
  have hj : tokenReported f.touch = false ∧ jEntry.within (butField f) = true := by
    obtain ⟨-, rfl⟩ | ⟨-, rfl⟩ := hf <;> decide
  refine answers_tokenCmd (jEntry ⟨0, 0, 0x02E1, .owner, 0, 0, 0, who.origin, who.ap, who.id, 0,
      n % 2 ^ 16 * 2 ^ 80 + (now - s.getI f a) % 2 ^ 16 * 2 ^ 64⟩ (s.setI f a now)) h hr ht e ?_ fun u hu hst => ⟨?_, hst, ?_⟩
  · simp only [hb, hg, hn, if_neg hk, hfield, hnow]
  · rw [getI_of_but hu rfl _ hj.1, getI_of_butField (jEntry_but hj.2 ..), State.getI_setI_same, hw]
    exact Nat.mod_eq_of_lt (by omega)
  · rw [mem_of_tokenReported hu, jEntry_mem, State.setI_mem]

theorem closeDebug_arm (s : State) : (closeDebug s).arm = s.arm := arm_of_butPart (closeDebug_but (by decide +kernel) s)

theorem closeDebug_deferred (s : State) : (closeDebug s).deferred = s.deferred :=
  samePart_of_butPart (p := .deferred) (closeDebug_but (by decide +kernel) s)

theorem closeDebug_stk (s : State) : (closeDebug s).stk = s.stk := samePart_of_butPart (p := .stk) (closeDebug_but (by decide +kernel) s)

theorem debugUnlockExpiry_completes (s : State) (h : s.arm.unlock.isSome = true) : answers .debugUnlockExpiry s fun t =>
    t.arm.unlock = none ∧ t.deferred = s.deferred ++ [(s.dueBoundary, .debugResume)] ∧ t.mem = s.mem := by
  obtain ⟨x, hx⟩ := Option.isSome_iff_exists.1 h
  have e : exec .debugUnlockExpiry s = execDebugUnlockExpiry s := rfl
  unfold execDebugUnlockExpiry at e
  simp only [hx] at e
  refine ⟨_, e, ?_, defer_deferred ?_ ?_ _, mem_of_answer (execDebugUnlockExpiry_but (by decide +kernel) s) e⟩
  · rw [State.defer, State.updDeferred_arm, closeDebug_arm, State.updArm_arm]
  · rw [closeDebug_deferred, State.updArm_deferred]
  · rw [closeDebug_stk, State.updArm_stk]

/-- Settles O18: each command from its own lemma above. -/
theorem jobAndTokenCommandsComplete : Obligations.JobAndTokenCommandsComplete := by
  unfold Obligations.JobAndTokenCommandsComplete
  refine ⟨?_, ?_, ?_, ?_, ?_, ?_, armJobRead_completes, ?_, ?_, ?_, ?_, ?_, ?_, debugUnlockExpiry_completes⟩
  · rintro who m s ⟨h, hr, hm, hrun, ha, hu⟩
    exact partialImage_completes who m s h hr hm hrun ha hu
  · rintro j s ⟨h, hp⟩
    exact jobCheckDone_completes j s h hp
  · rintro s ⟨h, hp⟩
    exact jobDrainDone_completes s h hp
  · rintro j s ⟨h, hp, hl⟩
    exact jobDrainTimeout_completes j s h hp hl
  · rintro pass s ⟨h, hp⟩
    exact jobApplyDone_completes pass s h hp
  · rintro j s ⟨h, hp⟩
    exact jobRampDone_completes j s h hp
  · rintro who s ⟨h, hr, hj, hp⟩
    exact cancel_completes who s h hr hj hp
  · rintro who tk a s ⟨h, hr, ht, hb, ha, hn⟩
    exact tokenConsumeStep_completes who tk a s h hr ht hb ha hn
  · rintro who tk s ⟨h, hr, ht, hn⟩
    exact ownershipTransfer_completes who tk s h hr ht hn
  · rintro who tk s ⟨h, hr, ht, hd⟩
    exact debugUnlock_completes who tk s h hr ht hd
  · rintro who tk a s ⟨h, hr, ht, hb, ha, hg⟩
    exact tallyGrant_grants who tk s h hr ht hb ha hg (.inl ⟨rfl, rfl⟩) rfl rfl
  · rintro who tk a s ⟨h, hr, ht, hb, ha, hg⟩
    exact tallyGrant_grants who tk s h hr ht hb ha hg (.inr ⟨rfl, rfl⟩) rfl rfl

end Sys2Proof.Machine
end

section
/-!
CERTIFICATE. The replaceable units.
-/
namespace Sys2Proof.Machine
set_option Elab.async false

/-! ### A unit command that is carried out -/

/-- What the report of an SVC command changes. -/
def svcReported : Touch → Bool := listed [.events, .free, .jnl]
  (Shows.journal ++ [Reg.SVC_CMD_STATUS_OP, Reg.SVC_CMD_STATUS_STATUS, Reg.SVC_CMD_STATUS_STROKE, Reg.SVC_CMD_OP])

theorem svcFinish_reported (p : CmdPend) (st : Nat) (s : State) : (cmdFinish Blk.svc p st s).but svcReported = s.but svcReported :=
  cmdFinish_but Blk.svc (by decide +kernel) p st s

theorem svcFinish_status (p : CmdPend) (st : Nat) (s : State) : (cmdFinish Blk.svc p st s).get Reg.SVC_CMD_STATUS_STATUS = st % 2 ^ 8 :=
  cmdReport_status Blk.svc (by decide) ..

theorem svc_of_svcReported {s t : State} (h : t.but svcReported = s.but svcReported) : t.svc = s.svc := samePart_of_but h .svc rfl

theorem deferred_of_svcReported {s t : State} (h : t.but svcReported = s.but svcReported) : t.deferred = s.deferred :=
  samePart_of_but h .deferred rfl

theorem mem_of_svcReported {s t : State} (h : t.but svcReported = s.but svcReported) : t.mem = s.mem := samePart_of_but h .mem rfl

theorem svcOpen {who : Issuer} {s : State} (hr : who.role = .platform) (hb : s.flag Reg.SVC_CMD_BUSY = false) (op : Nat) :
    cmdOpen s Blk.svc (cmdOf op who 0 (svcArg s) 0).who := ⟨jReady_of_platform (who := who) hr, hb⟩

/-- An open SVC command of the platform whose action ends with ST_OK answers the state that its report leaves. -/
theorem answers_svcDone {c : Instr} {op : Nat} {who : Issuer} {act : State → CmdRes} {s : State} {P : State → Prop} (t : State)
    (hr : who.role = .platform) (hb : s.flag Reg.SVC_CMD_BUSY = false)
    (he : exec c s = .next (cmdStart Blk.svc (cmdOf op who 0 (svcArg s) 0) (who.role == .platform) act s)) (ha : act s = .done St.ok 0 t)
    (hP : ∀ u, u.but svcReported = t.but svcReported → u.get Reg.SVC_CMD_STATUS_STATUS = St.ok → P u) : answers c s P := by
  refine ⟨_, he, ?_⟩
  rw [show (who.role == .platform) = true by rw [hr]; rfl, cmdStart_done (svcOpen hr hb op) ha]
  exact hP _ (svcFinish_reported ..) (svcFinish_status ..)

/-- The refusals that unit commands share do not stand in the way of an open one. -/
theorem unitCmd_open {who : Issuer} {kind index : Nat} {s : State} (h : unitOpen s who kind index) (op : Nat) (act : Nat → Nat → State → CmdRes) :
    ∃ a : State → CmdRes, a s = act kind index s ∧
      unitCmd op who act s = .next (cmdStart Blk.svc (cmdOf op who 0 (svcArg s) 0) (who.role == .platform) a s) := by
  obtain ⟨-, -, hpl, rfl, rfl, hi, hj⟩ := h
  refine ⟨_, ?_, rfl⟩
  simp only [hpl, hj, Nat.not_le.2 hi, Option.isSome_none, Bool.false_eq_true, if_false]

/-- A unit command whose action ends with ST_OK answers the state that its report leaves. -/
theorem answers_unitDone {c : Instr} {op : Nat} {who : Issuer} {kind index : Nat} {act : Nat → Nat → State → CmdRes} {s : State}
    {P : State → Prop} (t : State) (h : unitOpen s who kind index) (he : exec c s = unitCmd op who act s)
    (ha : act kind index s = .done St.ok 0 t)
    (hP : ∀ u, u.but svcReported = t.but svcReported → u.get Reg.SVC_CMD_STATUS_STATUS = St.ok → P u) : answers c s P := by
  obtain ⟨a, has, e⟩ := unitCmd_open h op act
  obtain ⟨hr, hb, -⟩ := h
  exact answers_svcDone t hr hb (he.trans e) (has.trans ha) hP

/-- A unit command whose action goes on leaves SVC_CMD busy. -/
theorem answers_unitRunning {c : Instr} {op : Nat} {who : Issuer} {kind index : Nat} {act : Nat → Nat → State → CmdRes} {s : State}
    {P : State → Prop} (t : State) (h : unitOpen s who kind index) (he : exec c s = unitCmd op who act s)
    (ha : act kind index s = .running t) (hP : ∀ p, P ((t.updCmds fun _ => Map.put t.cmds 18 p).set Reg.SVC_CMD_BUSY 1)) : answers c s P := by
  obtain ⟨a, has, e⟩ := unitCmd_open h op act
  obtain ⟨hr, hb, -⟩ := h
  refine ⟨_, he.trans e, ?_⟩
  rw [show (who.role == .platform) = true by rw [hr]; rfl, cmdStart_running (svcOpen hr hb op) (has.trans ha)]
  exact hP _

/-! ### What the units' operations set and leave alone -/

theorem svc_of_butPart {s t : State} (h : t.but (butPart .svc) = s.but (butPart .svc)) : t.svc = s.svc := samePart_of_butPart h

/-- A unit's entry to a state shows the state. -/
theorem setUnitState_state (kind index new : Nat) (s : State) : (setUnitState kind index new s).unitState kind index = new % 8 := by
  unfold setUnitState State.unitState
  extract_lets k old s1 s2 s3 s4
  have h1 : s1.getI Reg.SVC_UNIT_INFO_STATE k = new % 8 := by
    simp (disch := decide) only [s1, State.setsI_cons, State.setsI_nil, State.getI_setI_touch_ne, State.getI_setI_same]
    rfl
  have h2 : s2.getI Reg.SVC_UNIT_INFO_STATE k = new % 8 := by
    change (if kind = 0 then _ else _ : State).getI _ _ = _
    split
    · split
      · exact (State.getI_setI_touch_ne _ _ _ _ (by decide)).trans h1
      · exact h1
    split
    · exact (State.getI_setI_touch_ne _ _ _ _ (by decide)).trans h1
    · exact h1
  have h3 : s3.getI Reg.SVC_UNIT_INFO_STATE k = new % 8 := (getI_of_butField (jDevice_but (by decide +kernel) ..) k).trans h2
  rw [getI_of_butField (partitionCount_but (by decide) ..) k, State.getI_raise, State.set, State.getI_setI_touch_ne _ 0 k _ (by decide), h3]

theorem setUnitState_svc (kind index new : Nat) (s : State) : (setUnitState kind index new s).svc = s.svc :=
  svc_of_butPart (setUnitState_but (by decide +kernel) ..)

/-- R126: a step consumed by a role no longer remains. -/
theorem consumeGranted_remaining (r : Role) (t arg unit row : Nat) (s : State) :
    (consumeGranted r t arg unit row s).getI Reg.ARM_TALLY_REMAINING t = (s.getI Reg.ARM_TALLY_REMAINING t - 1) % 2 ^ 16 := by
  unfold consumeGranted
  dsimp only
  rw [consumeStep_remaining, State.getI_setI_touch_ne]
  cases r <;> decide

theorem startSparing_spare (index : Nat) (s : State) :
    Map.find? (startSparing index s).svc.spare (index / 32) = some ⟨index, s.dueBoundary⟩ := by
  rw [startSparing, State.setsI_svc]
  exact Map.find?_put_same ..

theorem startSparing_state (index : Nat) (s : State) : (startSparing index s).getI Reg.SVC_SPARE_STATE (index / 32) = 2 := by
  unfold startSparing
  simp (disch := decide) only [State.setsI_cons, State.setsI_nil, State.getI_setI_touch_ne, State.getI_setI_same]
  rfl

theorem startSparing_deferred (index : Nat) (s : State) : (startSparing index s).deferred = s.deferred :=
  samePart_of_butPart (p := .deferred) (startSparing_but (by decide) index s)

theorem startSparing_mem (index : Nat) (s : State) : (startSparing index s).mem = s.mem := mem_of_but (startSparing_but (by decide) index s)

/-! ### Drain -/

theorem drain_completes (who : Issuer) (kind index : Nat) (s : State) (h : unitOpen s who kind index) (hs : s.unitState kind index = 0)
    (h0 : kind = 0 → s.flagI Reg.TIL_INFO_DEBUG_HELD index = false) (h2 : kind = 2 → stageMirror s index ≠ none)
    (h4 : kind = 4 → reserveReady s (index / 32) = true)
    (h5 : kind = 5 → holdsManager s index = true → s.flag Reg.HIF_MGR_STANDBY_READY = true) : answers (.drain who) s fun t =>
      t.deferred = s.deferred ++
        [(s.dueBoundary, .unitDrain kind index (s.flag Reg.SVC_CMD_ARG_DISCARD) (s.flag Reg.SVC_CMD_ARG_NO_SUBST))] ∧
      (kind = 4 → t.getI Reg.SVC_SPARE_STATE (index / 32) = 2) ∧ t.get Reg.SVC_CMD_STATUS_STATUS = St.ok ∧ t.mem = s.mem := by
  have e : exec (.drain who) s = execDrain who s := rfl
  unfold execDrain at e
  refine answers_unitDone (if kind = 4 then startSparing index (s.defer (.unitDrain kind index (s.flag Reg.SVC_CMD_ARG_DISCARD)
      (s.flag Reg.SVC_CMD_ARG_NO_SUBST))) else s.defer (.unitDrain kind index (s.flag Reg.SVC_CMD_ARG_DISCARD)
      (s.flag Reg.SVC_CMD_ARG_NO_SUBST))) h e ?_ fun u hu hst => ⟨?_, ?_, hst, ?_⟩
  · have n0 : ¬(kind = 0 ∧ s.flagI Reg.TIL_INFO_DEBUG_HELD index = true) := fun ⟨hk, hf⟩ => Bool.false_ne_true ((h0 hk).symm.trans hf)
    have n2 : ¬(kind = 2 ∧ stageMirror s index = none) := fun ⟨hk, hf⟩ => h2 hk hf
    have n4 : ¬(kind = 4 ∧ reserveReady s (index / 32) = false) := fun ⟨hk, hf⟩ => Bool.false_ne_true (hf.symm.trans (h4 hk))
    have n5 : ¬(kind = 5 ∧ holdsManager s index = true ∧ s.flag Reg.HIF_MGR_STANDBY_READY = false) :=
      fun ⟨hk, hm, hf⟩ => Bool.false_ne_true (hf.symm.trans (h5 hk hm))
    simp only [n0, n2, n4, n5, hs, ne_eq, not_true_eq_false, if_false]
  · rw [deferred_of_svcReported hu]
    split
    · rw [startSparing_deferred]
      rfl
    · rfl
  · rintro hk
    rw [getI_of_but hu rfl _ (by decide), if_pos hk, startSparing_state]
  · rw [mem_of_svcReported hu]
    split
    · rw [startSparing_mem]
      rfl
    · rfl

theorem drainCancel_completes (who : Issuer) (kind index : Nat) (s : State) (h : unitOpen s who kind index) (hs : s.unitState kind index = 1) :
    answers (.drainCancel who) s fun t => t.deferred = s.deferred ++ [(s.dueBoundary, .unitActive kind index)] ∧
      t.get Reg.SVC_CMD_STATUS_STATUS = St.ok ∧ t.svc = s.svc ∧ t.mem = s.mem := by
  have e : exec (.drainCancel who) s = execDrainCancel who s := rfl
  unfold execDrainCancel at e
  exact answers_unitDone (s.defer (.unitActive kind index)) h e (if_neg (not_not_intro hs)) fun u hu hst =>
    ⟨(deferred_of_svcReported hu).trans rfl, hst, (svc_of_svcReported hu).trans (State.defer_svc ..),
      (mem_of_svcReported hu).trans (State.defer_mem ..)⟩

theorem unitDrained_completes (kind index : Nat) (s : State) (hs : s.unitState kind index = 1) : answers (.unitDrained kind index) s fun t =>
    t.deferred = s.deferred ++ [(s.dueBoundary, .unitHeld kind index)] ∧ t.regs = s.regs ∧ t.mem = s.mem :=
  ⟨s.defer (.unitHeld kind index), congrArg Host.Outcome.next (if_pos hs), rfl, rfl, rfl⟩

theorem unitDrainTimeout_completes (kind index : Nat) (d : Drain) (s : State) (hd : Map.find? s.svc.drain (unitKey kind index) = some d)
    (hs : s.unitState kind index = 1) (hl : d.since + s.eff Reg.SVC_CTL_DRAIN_LIMIT ≤ s.stk.boundary) :
    answers (.unitDrainTimeout kind index) s fun t =>
      t.deferred = s.deferred ++ [(s.dueBoundary, .unitForce kind index)] ∧ t.regs = s.regs ∧ t.mem = s.mem := by
  have e : exec (.unitDrainTimeout kind index) s = execUnitDrainTimeout kind index s := rfl
  unfold execUnitDrainTimeout at e
  simp only [hd, hs, hl, and_self, if_true] at e
  exact ⟨_, e, rfl, rfl, rfl⟩

/-! ### Test, readmission, probation -/

/-- R754: the self-test of a unit begins, before a readmission or alone. -/
def testStarted (k : Nat) (readmit : Bool) (s : State) : State :=
  (s.updSvc fun u => { u with testing := Map.put s.svc.testing k readmit }).setI Reg.SVC_UNIT_INFO_TEST k 1

/-- A unit command that begins the self-test of its unit. -/
theorem answers_testStarted {c : Instr} {op : Nat} {who : Issuer} {kind index : Nat} {act : Nat → Nat → State → CmdRes} {s : State}
    (readmit : Bool) (h : unitOpen s who kind index) (he : exec c s = unitCmd op who act s)
    (ha : act kind index s = .done St.ok 0 (testStarted (unitKey kind index) readmit s)) : answers c s fun t =>
      Map.find? t.svc.testing (unitKey kind index) = some readmit ∧ t.getI Reg.SVC_UNIT_INFO_TEST (unitKey kind index) = 1 ∧
      t.get Reg.SVC_CMD_STATUS_STATUS = St.ok ∧ t.mem = s.mem := by
  refine answers_unitDone _ h he ha fun u hu hst => ⟨?_, ?_, hst, ?_⟩
  · rw [svc_of_svcReported hu, testStarted, State.setI_svc]
    exact Map.find?_put_same ..
  · rw [getI_of_but hu rfl _ (by decide), testStarted, State.getI_setI_same]
    rfl
  · rw [mem_of_svcReported hu, testStarted, State.setI_mem, State.updSvc_mem]

theorem test_completes (who : Issuer) (kind index : Nat) (s : State) (h : unitOpen s who kind index) (hs : s.unitState kind index = 2)
    (ht : Map.find? s.svc.testing (unitKey kind index) = none) : answers (.test who) s fun t =>
      Map.find? t.svc.testing (unitKey kind index) = some false ∧ t.getI Reg.SVC_UNIT_INFO_TEST (unitKey kind index) = 1 ∧
      t.get Reg.SVC_CMD_STATUS_STATUS = St.ok ∧ t.mem = s.mem := by
  have e : exec (.test who) s = execTest who s := rfl
  unfold execTest at e
  exact answers_testStarted false h e (if_neg (by simp [hs, ht]))

theorem readmit_completes (who : Issuer) (kind index : Nat) (s : State) (h : unitOpen s who kind index) (hs : s.unitState kind index = 2)
    (ht : Map.find? s.svc.testing (unitKey kind index) = none) : answers (.readmit who) s fun t =>
      Map.find? t.svc.testing (unitKey kind index) = some true ∧ t.getI Reg.SVC_UNIT_INFO_TEST (unitKey kind index) = 1 ∧
      t.get Reg.SVC_CMD_STATUS_STATUS = St.ok ∧ t.mem = s.mem := by
  have e : exec (.readmit who) s = execReadmit who s := rfl
  unfold execReadmit at e
  exact answers_testStarted true h e (if_neg (by simp [hs, ht]))

/-- R754: the result of a unit's self-test shows, and the test is over. -/
def testEnded (k : Nat) (pass : Bool) (s : State) : State :=
  (s.updSvc fun u => { u with testing := Map.del s.svc.testing k }).setI Reg.SVC_UNIT_INFO_TEST k (if pass then 2 else 3)

theorem testEnded_testing (k : Nat) (pass : Bool) (s : State) : Map.find? (testEnded k pass s).svc.testing k = none := by
  rw [testEnded, State.setI_svc]
  exact Map.find?_del_same ..

theorem testEnded_test (k : Nat) (pass : Bool) (s : State) :
    (testEnded k pass s).getI Reg.SVC_UNIT_INFO_TEST k = if pass then 2 else 3 := by
  rw [testEnded, State.getI_setI_same]
  cases pass <;> rfl

theorem testEnded_svc (k : Nat) (pass : Bool) (s : State) :
    (testEnded k pass s).svc = { s.svc with testing := Map.del s.svc.testing k } := by
  rw [testEnded, State.setI_svc]
  rfl

/-- R760: the armature of a unit is loaded anew into the unit itself. -/
def reloadStarted (kind index : Nat) (s : State) : State :=
  s.updSvc fun u => { u with reloading := Map.put s.svc.reloading (unitKey kind index) (index + 1) }

theorem reloadStarted_testing (kind index : Nat) (s : State) : (reloadStarted kind index s).svc.testing = s.svc.testing := rfl

theorem reloadStarted_getI (kind index : Nat) (s : State) (f : Field) (i : Nat) : (reloadStarted kind index s).getI f i = s.getI f i := rfl

theorem reloadStarted_reloading (kind index : Nat) (s : State) :
    Map.find? (reloadStarted kind index s).svc.reloading (unitKey kind index) = some (index + 1) := Map.find?_put_same ..

/-- A self-test that fails is an error of the patina; one that passes reloads a unit that is to be readmitted. -/
theorem exec_testDone (kind index : Nat) (pass readmit : Bool) (s : State)
    (ht : Map.find? s.svc.testing (unitKey kind index) = some readmit)
    (hp : pass = true → kind = 4 → Map.find? s.svc.replaced (unitKey kind index) = none) :
    exec (.testDone kind index pass) s = .next (
      if pass = false then patina 0x1281 Sev.error (kind * 2 ^ 60 + index * 2 ^ 53) (testEnded (unitKey kind index) pass s)
      else if readmit then reloadStarted kind index (testEnded (unitKey kind index) pass s)
      else testEnded (unitKey kind index) pass s) := by
  have e : exec (.testDone kind index pass) s = execTestDone kind index pass s := rfl
  rw [e, execTestDone]
  simp only [ht]
  cases pass with
  | false => rfl
  | true =>
    have hn : ¬(kind = 4 ∧ (Map.find? (testEnded (unitKey kind index) true s).svc.replaced (unitKey kind index)).isSome = true) := by
      rintro ⟨hk, hf⟩
      rw [testEnded_svc] at hf
      exact Bool.false_ne_true ((congrArg Option.isSome (hp rfl hk)).symm.trans hf)
    cases readmit with
    | false => rfl
    | true => exact congrArg Host.Outcome.next (if_neg hn)

theorem testDone_completes (kind index : Nat) (pass readmit : Bool) (s : State)
    (ht : Map.find? s.svc.testing (unitKey kind index) = some readmit)
    (hp : pass = true → kind = 4 → Map.find? s.svc.replaced (unitKey kind index) = none) : answers (.testDone kind index pass) s fun t =>
      Map.find? t.svc.testing (unitKey kind index) = none ∧
      t.getI Reg.SVC_UNIT_INFO_TEST (unitKey kind index) = (if pass then 2 else 3) ∧
      (pass = true → readmit = true → Map.find? t.svc.reloading (unitKey kind index) = some (index + 1)) ∧ t.mem = s.mem := by
  have e := exec_testDone kind index pass readmit s ht hp
  refine ⟨_, e, ?_, ?_, ?_, mem_of_answer (execTestDone_but (by decide +kernel) kind index pass s) e⟩
  · split
    · rw [patina_svc, testEnded_testing]
    split
    · rw [reloadStarted_testing, testEnded_testing]
    · exact testEnded_testing ..
  · split
    · rw [getI_of_butField (patina_but (by decide +kernel) ..), testEnded_test]
    split
    · rw [reloadStarted_getI, testEnded_test]
    · exact testEnded_test ..
  · rintro rfl rfl
    exact reloadStarted_reloading ..

theorem armatureReloadDone_completes (kind index : Nat) (s : State) (h : (Map.find? s.svc.reloading (unitKey kind index)).isSome = true) :
    answers (.armatureReloadDone kind index) s fun t =>
      t.deferred = s.deferred ++ [(s.dueBoundary, .unitJoin kind index)] ∧ t.regs = s.regs ∧ t.mem = s.mem :=
  ⟨s.defer (.unitJoin kind index), congrArg Host.Outcome.next (if_pos h), rfl, rfl, rfl⟩

theorem probationStep_completes (index b : Nat) (s : State) (hb : s.tileBlock index = some b) (hs : s.unitState 0 index = 3) :
    answers (.probationStep 0 index) s fun t =>
      t.getI Reg.TIL_INFO_SHARE_LOG2 b = s.unitShare 0 index % 16 ∧ t.mem = s.mem := by
  have e : exec (.probationStep 0 index) s = execProbationStep 0 index s := rfl
  unfold execProbationStep at e
  simp only [hb, hs, and_self, if_true] at e
  exact ⟨_, e, State.getI_setI_same .., State.setI_mem ..⟩

theorem probationEnd_completes (kind index b : Nat) (s : State) (hb : Map.find? s.svc.probation (unitKey kind index) = some b)
    (hs : s.unitState kind index = 3) (hl : b + 256 ≤ s.stk.boundary) : answers (.probationEnd kind index) s fun t =>
      t.unitState kind index = 0 ∧ Map.find? t.svc.probation (unitKey kind index) = none ∧ t.mem = s.mem := by
  have e : exec (.probationEnd kind index) s = execProbationEnd kind index s := rfl
  unfold execProbationEnd at e
  simp only [hb, hs, hl, and_self, if_true] at e
  refine ⟨_, e, setUnitState_state .., ?_, mem_of_answer (execProbationEnd_but (by decide +kernel) kind index s) e⟩
  rw [setUnitState_svc]
  split
  · split
    · rw [State.setI_svc]
      exact Map.find?_del_same ..
    · exact Map.find?_del_same ..
  · exact Map.find?_del_same ..

/-! ### Substitution and retirement -/

theorem substitute_completes (who : Issuer) (index u : Nat) (s : State) (h : unitOpen s who 0 index) (hs : s.unitState 0 index = 2)
    (hl : s.getI Reg.SVC_UNIT_INFO_LOGICAL (unitKey 0 index) ≠ 0xFF) (ha : s.get Reg.SVC_CMD_ARG_STANDBY = 0x7F)
    (hn : nearestStandby s index = some u) : answers (.substitute who) s fun t =>
      Map.find? t.svc.reloading (unitKey 0 u) = some (index + 1) ∧ t.get Reg.SVC_CMD_STATUS_STATUS = St.ok ∧ t.mem = s.mem := by
  have e : exec (.substitute who) s = execSubstitute who s := rfl
  unfold execSubstitute at e
  refine answers_unitDone (startSubstitute index u s) h e ?_ fun v hv hst =>
    ⟨?_, hst, (mem_of_svcReported hv).trans (State.updSvc_mem ..)⟩
  · simp only [hs, hl, ha, hn, ne_eq, not_true_eq_false, or_self, if_false, if_true]
  · rw [svc_of_svcReported hv]
    exact Map.find?_put_same ..

theorem retire_completes (who : Issuer) (kind index : Nat) (s : State) (h : unitOpen s who kind index) (hs : s.unitState kind index = 2)
    (ht : tallyRefusal who.role 3 s = none) : answers (.retire who) s fun t => t.unitState kind index = 4 ∧
      t.getI Reg.ARM_TALLY_REMAINING 3 = (s.getI Reg.ARM_TALLY_REMAINING 3 - 1) % 2 ^ 16 ∧
      t.get Reg.SVC_CMD_STATUS_STATUS = St.ok ∧ t.mem = s.mem := by
  have e : exec (.retire who) s = execRetire who s := rfl
  unfold execRetire at e
  refine answers_unitDone (retireUnit who.role kind index s) h e ?_ fun u hu hst => ⟨?_, ?_, hst, ?_⟩
  · simp only [hs, ht, ne_eq, not_true_eq_false, if_false]
  · rw [State.unitState, getI_of_but hu rfl _ (by decide)]
    exact setUnitState_state ..
  · rw [getI_of_but hu rfl _ (by decide), retireUnit, getI_of_butField (setUnitState_but (by decide +kernel) ..), consumeGranted_remaining]
  · rw [mem_of_svcReported hu, mem_of_but (retireUnit_but (by decide +kernel) ..)]

/-! ### Failure -/

/-- R750: a failed unit's cause shows, and the patina holds the error. -/
def causeShown (kind index code : Nat) (s : State) : State :=
  (patina 0x1280 Sev.error (kind * 2 ^ 60 + index * 2 ^ 53 + code % 2 ^ 16) s).setI Reg.SVC_UNIT_INFO_CAUSE (unitKey kind index) (code % 256)

/-- What showing a failed unit's cause changes. -/
def causeShows : Touch → Bool := listed [.events, .free, .jnl, .pat]
  (Shows.journal ++ Shows.patinaLog ++ Shows.saturation ++ [Reg.SVC_UNIT_INFO_CAUSE])

theorem causeShown_but (kind index code : Nat) (s : State) : (causeShown kind index code s).but causeShows = s.but causeShows := by
  rw [causeShown, State.setI_but (by decide), patina_but (by decide +kernel)]

theorem causeShown_cause (kind index code : Nat) (s : State) :
    (causeShown kind index code s).getI Reg.SVC_UNIT_INFO_CAUSE (unitKey kind index) = code % 256 := by
  rw [causeShown, State.getI_setI_same]
  exact Nat.mod_mod ..

theorem causeShown_getI {f : Field} (h : causeShows f.touch = false) (kind index code : Nat) (s : State) (i : Nat) :
    (causeShown kind index code s).getI f i = s.getI f i := getI_of_but (causeShown_but ..) rfl f h i

theorem causeShown_flag {f : Field} (h : causeShows f.touch = false) (kind index code : Nat) (s : State) :
    (causeShown kind index code s).flag f = s.flag f := congrArg (· == 1) (causeShown_getI h kind index code s 0)

theorem causeShown_svc (kind index code : Nat) (s : State) : (causeShown kind index code s).svc = s.svc :=
  samePart_of_but (causeShown_but ..) .svc rfl

theorem causeShown_deferred (kind index code : Nat) (s : State) : (causeShown kind index code s).deferred = s.deferred :=
  samePart_of_but (causeShown_but ..) .deferred rfl

theorem causeShown_dueBoundary (kind index code : Nat) (s : State) : (causeShown kind index code s).dueBoundary = s.dueBoundary := by
  have h : (causeShown kind index code s).stk = s.stk := samePart_of_but (causeShown_but ..) .stk rfl
  rw [State.dueBoundary, State.dueBoundary, h]

theorem causeShown_reserveReady (kind index code stack : Nat) (s : State) :
    reserveReady (causeShown kind index code s) stack = reserveReady s stack := by
  rw [reserveReady, reserveReady, causeShown_getI (by decide), causeShown_svc]

/-- R748: with AUTO_HOLD set, a failure takes the unit out of service as its state asks. -/
theorem unitFails_autoHold (kind index code : Nat) (s : State) (h : s.flag Reg.SVC_CTL_AUTO_HOLD = true) :
    unitFails kind index code false s =
      if s.unitState kind index = 3 then probationFailure kind index (causeShown kind index code s)
      else if kind = 4 ∧ (s.unitState kind index = 0 ∨ s.unitState kind index = 1) then
        if s.flag Reg.SVC_CTL_AUTO_SPARE then
          if reserveReady s (index / 32) then startSparing index (causeShown kind index code s)
          else availUpdate (sparingRefused index (causeShown kind index code s))
        else availUpdate (causeShown kind index code s)
      else if s.unitState kind index = 0 ∨ s.unitState kind index = 1 then
        ((causeShown kind index code s).updSvc fun u => { u with drain := Map.del s.svc.drain (unitKey kind index) }).defer
          (.unitForce kind index)
      else causeShown kind index code s := by
  have h1 : (causeShown kind index code s).flag Reg.SVC_CTL_AUTO_HOLD = true := by rw [causeShown_flag (by decide), h]
  rw [← causeShown_flag (f := Reg.SVC_CTL_AUTO_SPARE) (by decide) kind index code s, ← causeShown_reserveReady kind index code (index / 32) s,
    ← causeShown_svc kind index code s]
  refine if_neg ?_
  rintro ⟨hf, -⟩
  exact Bool.false_ne_true (hf.symm.trans h1)

theorem unitFailure_forces (kind index code : Nat) (s : State) (h : s.flag Reg.SVC_CTL_AUTO_HOLD = true) (hk : kind ≠ 4)
    (hs : s.unitState kind index ∈ [0, 1]) : answers (.unitFailure kind index code) s fun t =>
      t.deferred = s.deferred ++ [(s.dueBoundary, .unitForce kind index)] ∧
      t.getI Reg.SVC_UNIT_INFO_CAUSE (unitKey kind index) = code % 256 ∧ Map.find? t.svc.drain (unitKey kind index) = none ∧ t.mem = s.mem := by
  have hs : s.unitState kind index = 0 ∨ s.unitState kind index = 1 := by simpa using hs
  have e : exec (.unitFailure kind index code) s = .next (unitFails kind index code false s) := rfl
  refine ⟨_, e, ?_, ?_, ?_, mem_of_answer (execUnitFailure_but (by decide +kernel) kind index code s) e⟩ <;>
    rw [unitFails_autoHold kind index code s h, if_neg (by omega), if_neg (fun h4 => hk h4.1), if_pos hs]
  · rw [State.defer, State.updDeferred_deferred, State.updSvc_deferred, causeShown_deferred]
    exact congrArg (fun b => s.deferred ++ [(b, Change.unitForce kind index)]) (causeShown_dueBoundary kind index code s)
  · rw [defer_getI, State.updSvc_getI, causeShown_cause]
  · rw [State.defer_svc]
    exact Map.find?_del_same ..

theorem unitFailure_spares (index code : Nat) (s : State) (h : s.flag Reg.SVC_CTL_AUTO_HOLD = true)
    (hs : s.unitState 4 index = 0) (ha : s.flag Reg.SVC_CTL_AUTO_SPARE = true) (hr : reserveReady s (index / 32) = true) :
    answers (.unitFailure 4 index code) s fun t => Map.find? t.svc.spare (index / 32) = some ⟨index, s.dueBoundary⟩ ∧
      t.getI Reg.SVC_SPARE_STATE (index / 32) = 2 ∧ t.getI Reg.SVC_UNIT_INFO_CAUSE (unitKey 4 index) = code % 256 ∧ t.mem = s.mem := by
  have e : exec (.unitFailure 4 index code) s = .next (unitFails 4 index code false s) := rfl
  refine ⟨_, e, ?_, ?_, ?_, mem_of_answer (execUnitFailure_but (by decide +kernel) 4 index code s) e⟩ <;>
    rw [unitFails_autoHold 4 index code s h, if_neg (by omega), if_pos ⟨rfl, .inl hs⟩, if_pos ha, if_pos hr]
  · rw [startSparing_spare, causeShown_dueBoundary]
  · rw [startSparing_state]
  · rw [getI_of_butField (startSparing_but (by decide) ..), causeShown_cause]

/-! ### Failure in PROBATION -/

/-- R750: a failure in PROBATION is counted, up to 255. -/
theorem probationFailure_fails (kind index : Nat) (s : State) : (probationFailure kind index s).getI Reg.SVC_UNIT_INFO_FAILS (unitKey kind index) =
    min 255 (s.getI Reg.SVC_UNIT_INFO_FAILS (unitKey kind index) + 1) := by
  unfold probationFailure
  extract_lets k f s1 s2 s3 s4
  have h1 : s1.getI Reg.SVC_UNIT_INFO_FAILS k = f := (State.getI_setI_same ..).trans (Nat.mod_eq_of_lt (by change min 255 _ < 256; omega))
  have h2 : s2.getI Reg.SVC_UNIT_INFO_FAILS k = f := (getI_of_butField (patina_but (by decide +kernel) ..) k).trans h1
  have h3 : s3.getI Reg.SVC_UNIT_INFO_FAILS k = f := by
    rw [State.getI_raise, State.set, State.getI_setI_touch_ne _ 0 k _ (by decide), h2]
  split
  · rw [defer_getI, defer_getI, h3]
  · rw [defer_getI, h3]

theorem probationFailure_status (kind index : Nat) (s : State) : (probationFailure kind index s).get Reg.SVC_STATUS_PROBATION_FAIL = 1 := by
  unfold probationFailure
  extract_lets k f s1 s2 s3 s4
  have h3 : s3.get Reg.SVC_STATUS_PROBATION_FAIL = 1 := by
    rw [raise_get, State.get_set_same]
    rfl
  split
  · rw [defer_get, defer_get, h3]
  · rw [defer_get, h3]

/-- R750: at the boundary after a failure in PROBATION the unit is HELD by force. -/
theorem probationFailure_forces (kind index : Nat) (s : State) :
    (s.dueBoundary, .unitForce kind index) ∈ (probationFailure kind index s).deferred := by
  unfold probationFailure
  extract_lets k f s1 s2 s3 s4
  have h4 : (s.dueBoundary, .unitForce kind index) ∈ s4.deferred := by
    have hd : s3.deferred = s.deferred := by rw [raise_deferred, State.set_deferred, patina_deferred, State.setI_deferred]
    have hs : s3.stk = s.stk := by rw [raise_stk, State.set_stk, patina_stk, State.setI_stk]
    rw [defer_deferred hd hs]
    exact List.mem_append_right _ (List.mem_singleton.2 rfl)
  split
  · rw [State.defer, State.updDeferred_deferred]
    exact List.mem_append_left _ h4
  · exact h4

theorem unitFailure_probation (kind index code : Nat) (s : State) (h : s.flag Reg.SVC_CTL_AUTO_HOLD = true) (hs : s.unitState kind index = 3) :
    answers (.unitFailure kind index code) s fun t =>
      t.getI Reg.SVC_UNIT_INFO_FAILS (unitKey kind index) = min 255 (s.getI Reg.SVC_UNIT_INFO_FAILS (unitKey kind index) + 1) ∧
      (s.dueBoundary, .unitForce kind index) ∈ t.deferred ∧ t.get Reg.SVC_STATUS_PROBATION_FAIL = 1 ∧ t.mem = s.mem := by
  have e : exec (.unitFailure kind index code) s = .next (unitFails kind index code false s) := rfl
  refine ⟨_, e, ?_, ?_, ?_, mem_of_answer (execUnitFailure_but (by decide +kernel) kind index code s) e⟩ <;>
    rw [unitFails_autoHold kind index code s h, if_pos hs]
  · rw [probationFailure_fails, causeShown_getI (by decide)]
  · rw [← causeShown_dueBoundary kind index code s]
    exact probationFailure_forces ..
  · exact probationFailure_status ..

/-- Settles O50: each command from its own lemma above. -/
theorem unitCommandsComplete : Obligations.UnitCommandsComplete := by
  unfold Obligations.UnitCommandsComplete
  refine ⟨?_, ?_, ?_, ?_, ?_, ?_, ?_, armatureReloadDone_completes, ?_, ?_, ?_, ?_, ?_, ?_, ?_⟩
  · rintro who kind index s ⟨h, hs, h0, h2, h4, h5⟩
    exact drain_completes who kind index s h hs h0 h2 h4 h5
  · rintro who kind index s ⟨h, hs⟩
    exact drainCancel_completes who kind index s h hs
  · exact unitDrained_completes
  · rintro kind index d s ⟨hd, hs, hl⟩
    exact unitDrainTimeout_completes kind index d s hd hs hl
  · rintro who kind index s ⟨h, hs, ht⟩
    exact test_completes who kind index s h hs ht
  · rintro who kind index s ⟨h, hs, ht⟩
    exact readmit_completes who kind index s h hs ht
  · rintro kind index pass readmit s ⟨ht, hp⟩
    exact testDone_completes kind index pass readmit s ht hp
  · rintro _ index b s ⟨hb, hs, rfl⟩
    exact probationStep_completes index b s hb hs
  · rintro kind index b s ⟨hb, hs, hl⟩
    exact probationEnd_completes kind index b s hb hs hl
  · rintro who _ index u s ⟨h, rfl, hs, hl, ha, hn⟩
    exact substitute_completes who index u s h hs hl ha hn
  · rintro who kind index s ⟨h, hs, ht⟩
    exact retire_completes who kind index s h hs ht
  · rintro kind index code s ⟨h, hk, hs⟩
    exact unitFailure_forces kind index code s h hk hs
  · rintro _ index code s ⟨h, rfl, hs, ha, hr⟩
    exact unitFailure_spares index code s h hs ha hr
  · rintro kind index code s ⟨h, hs⟩
    exact unitFailure_probation kind index code s h hs

end Sys2Proof.Machine
end

section
/-!
CERTIFICATE. Repair, sparing, the plinth's slots and RECOVERY.
-/
namespace Sys2Proof.Machine
set_option Elab.async false

/-! ### Repair -/

/-- R759: a repair takes one of the rows that its stack has in reserve. -/
def pprTaken (stack : Nat) (s : State) : State := s.setI Reg.ARM_PPR_REMAINING stack (s.getI Reg.ARM_PPR_REMAINING stack - 1)

theorem repair_completes (who : Issuer) (index : Nat) (s : State) (h : unitOpen s who 4 index) (hs : s.unitState 4 index = 2)
    (ht : tallyRefusal who.role 4 s = none) : answers (.repair who) s fun t => t.get Reg.SVC_CMD_BUSY = 1 ∧
      t.getI Reg.ARM_PPR_REMAINING (index / 32) = (s.getI Reg.ARM_PPR_REMAINING (index / 32) - 1) % 2 ^ 16 ∧ t.mem = s.mem := by
  have e : exec (.repair who) s = execRepair who s := rfl
  unfold execRepair at e
  refine answers_unitRunning (pprTaken (index / 32) (consumeGranted who.role 4 (index / 32) (index % 32) (s.get Reg.SVC_CMD_ARG_ROW) s)) h e
    ((if_neg (by simp [hs])).trans ?_) fun p => ⟨State.get_set_same .., ?_, ?_⟩
  · simp only [ht]
    rfl
  · rw [State.set, State.getI_setI_touch_ne _ _ _ _ (by decide), State.updCmds_getI, pprTaken, State.getI_setI_same,
      getI_of_butField (consumeGranted_but (by decide +kernel) ..)]
    rfl
  · rw [State.set_mem, State.updCmds_mem, pprTaken, State.setI_mem, mem_of_but (consumeGranted_but (by decide +kernel) ..)]

/-- The end of a running SVC command. -/
theorem svcEnd_eq {s : State} {p : CmdPend} (h : Map.find? s.cmds 18 = some p) (st : Nat) :
    cmdEnd Blk.svc st s = cmdFinish Blk.svc p st ((s.updCmds fun _ => Map.del s.cmds 18).set Reg.SVC_CMD_BUSY 0) := by
  have h : Map.find? s.cmds Blk.svc.num = some p := h
  rw [cmdEnd, h]
  rfl

/-- R759: a repair that was made is counted. -/
def repairCounted (index : Nat) (ok : Bool) (s : State) : State :=
  if ok then s.setI Reg.ARM_PPR_DONE (index / 32) (s.getI Reg.ARM_PPR_DONE (index / 32) + 1) else s

theorem repairCounted_cmds (index : Nat) (ok : Bool) (s : State) : (repairCounted index ok s).cmds = s.cmds := by
  cases ok
  · rfl
  · exact State.setI_cmds ..

theorem repairDone_completes (index : Nat) (ok : Bool) (p : CmdPend) (s : State) (h : Map.find? s.cmds 18 = some p) (ho : p.op = 7) :
    answers (.repairDone index ok) s fun t => t.get Reg.SVC_CMD_BUSY = 0 ∧ Map.find? t.cmds 18 = none ∧
      t.get Reg.SVC_CMD_STATUS_STATUS = (if ok then St.ok else St.mediaError) ∧
      (ok = true → t.getI Reg.ARM_PPR_DONE (index / 32) = (s.getI Reg.ARM_PPR_DONE (index / 32) + 1) % 2 ^ 16) ∧ t.mem = s.mem := by
  have e : exec (.repairDone index ok) s = .next (cmdEnd Blk.svc (if ok then St.ok else St.mediaError) (repairCounted index ok s)) := by
    have e : exec (.repairDone index ok) s = execRepairDone index ok s := rfl
    rw [e, execRepairDone]
    simp only [h, ho, if_true, repairCounted]
  have h : Map.find? (repairCounted index ok s).cmds 18 = some p := (congrArg (Map.find? · 18) (repairCounted_cmds ..)).trans h
  have hm := mem_of_answer (execRepairDone_but (by decide +kernel) index ok s) e
  rw [svcEnd_eq h] at e hm
  have hb := svcFinish_reported p (if ok then St.ok else St.mediaError)
    (((repairCounted index ok s).updCmds fun _ => Map.del (repairCounted index ok s).cmds 18).set Reg.SVC_CMD_BUSY 0)
  refine ⟨_, e, ?_, ?_, ?_, ?_, hm⟩
  · exact (getI_of_but hb rfl _ (by decide) 0).trans (State.get_set_same ..)
  · rw [cmdFinish_cmds, State.set_cmds]
    exact Map.find?_del_same ..
  · rw [svcFinish_status]
    cases ok <;> rfl
  · rintro rfl
    rw [getI_of_but hb rfl _ (by decide), State.set, State.getI_setI_touch_ne _ _ _ _ (by decide), State.updCmds_getI]
    exact State.getI_setI_same ..

/-! ### Sparing -/

theorem spare_completes (who : Issuer) (index : Nat) (s : State) (h : unitOpen s who 4 index) (hs : s.unitState 4 index ∈ [0, 3])
    (hr : reserveReady s (index / 32) = true) : answers (.spare who) s fun t =>
      Map.find? t.svc.spare (index / 32) = some ⟨index, s.dueBoundary⟩ ∧ t.getI Reg.SVC_SPARE_STATE (index / 32) = 2 ∧
      t.get Reg.SVC_CMD_STATUS_STATUS = St.ok ∧ t.mem = s.mem := by
  have e : exec (.spare who) s = execSpare who s := rfl
  unfold execSpare at e
  have hs : s.unitState 4 index = 0 ∨ s.unitState 4 index = 3 := by simpa using hs
  refine answers_unitDone (startSparing index s) h e ((if_neg (by omega)).trans (if_neg (by rw [hr]; decide))) fun u hu hst => ⟨?_, ?_, hst, ?_⟩
  · rw [svc_of_svcReported hu, startSparing_spare]
  · rw [getI_of_but hu rfl _ (by decide), startSparing_state]
  · rw [mem_of_svcReported hu, startSparing_mem]

theorem unitHeld_pseudoChannel (index : Nat) (s : State) : unitHeld 4 index s = availUpdate s := rfl

/-- A pseudo-channel enters HELD: its drain and its probation end. -/
theorem enterHeld_pseudoChannel (index : Nat) (s : State) : enterHeld 4 index s = availUpdate ((setUnitState 4 index 2 s).updSvc fun u => { u with
    drain := Map.del (setUnitState 4 index 2 s).svc.drain (unitKey 4 index)
    probation := Map.del (setUnitState 4 index 2 s).svc.probation (unitKey 4 index) }) := by
  unfold enterHeld
  dsimp only
  rw [if_neg (by decide), unitHeld_pseudoChannel]

theorem availUpdate_svc (s : State) : (availUpdate s).svc = s.svc := svc_of_butPart (availUpdate_but (by decide) s)

theorem enterHeld_pseudoChannel_svc (index : Nat) (s : State) : (enterHeld 4 index s).svc =
    { s.svc with drain := Map.del s.svc.drain (unitKey 4 index), probation := Map.del s.svc.probation (unitKey 4 index) } := by
  rw [enterHeld_pseudoChannel, availUpdate_svc, State.updSvc_svc, setUnitState_svc]

theorem enterHeld_pseudoChannel_state (index : Nat) (s : State) : (enterHeld 4 index s).unitState 4 index = 2 := by
  rw [enterHeld_pseudoChannel, State.unitState, getI_of_butField (availUpdate_but (by decide) _), State.updSvc_getI]
  exact setUnitState_state ..

theorem enterHeld_pseudoChannel_mem (index : Nat) (s : State) : (enterHeld 4 index s).mem = s.mem := by
  rw [enterHeld_pseudoChannel, mem_of_but (availUpdate_but (by decide) _), State.updSvc_mem, setUnitState_mem]

/-- R757: the spare takes the place of the pseudo-channel that it copied. -/
def spareSwitched (stack : Nat) (j : SpareJob) (s : State) : State :=
  raise Ev.svcSpare j.pc (stack + j.pc % 32 * 2 ^ 8)
    (((s.updSvc fun _ => { s.svc with
        spare := Map.del s.svc.spare stack
        replaced := Map.put s.svc.replaced (unitKey 4 j.pc) (unitKey 4 (stack * 32 + s.getI Reg.SVC_SPARE_SPARE stack)) }).setsI stack
      [(Reg.SVC_SPARE_STATE, 3), (Reg.SVC_SPARE_COPIED_MIB, 768)]).set Reg.SVC_STATUS_SPARE 1)

theorem spareSwitched_svc (stack : Nat) (j : SpareJob) (s : State) : (spareSwitched stack j s).svc = { s.svc with
    spare := Map.del s.svc.spare stack
    replaced := Map.put s.svc.replaced (unitKey 4 j.pc) (unitKey 4 (stack * 32 + s.getI Reg.SVC_SPARE_SPARE stack)) } := by
  rw [spareSwitched, raise_svc, State.set_svc, State.setsI_svc]
  rfl

theorem spareSwitched_state (stack : Nat) (j : SpareJob) (s : State) : (spareSwitched stack j s).getI Reg.SVC_SPARE_STATE stack = 3 := by
  rw [spareSwitched]
  simp (disch := decide) only [raise_getI, State.set, State.setsI_cons, State.setsI_nil, State.getI_setI_touch_ne, State.getI_setI_same]
  rfl

theorem spareSwitched_mem (stack : Nat) (j : SpareJob) (s : State) : (spareSwitched stack j s).mem = s.mem := by
  rw [spareSwitched, raise_mem, State.set_mem, State.setsI_mem, State.updSvc_mem]

theorem spareSwitch_completes (stack : Nat) (j : SpareJob) (s : State) (h : Map.find? s.svc.spare stack = some j) :
    answers (.spareSwitch stack) s fun t => Map.find? t.svc.spare stack = none ∧ t.getI Reg.SVC_SPARE_STATE stack = 3 ∧
      Map.find? t.svc.replaced (unitKey 4 j.pc) = some (unitKey 4 (stack * 32 + s.getI Reg.SVC_SPARE_SPARE stack)) ∧
      t.unitState 4 j.pc = 2 ∧ t.mem = s.mem := by
  have e : exec (.spareSwitch stack) s = .next (if (spareSwitched stack j s).unitState 4 j.pc = 2 then spareSwitched stack j s
      else enterHeld 4 j.pc (spareSwitched stack j s)) := by
    have e : exec (.spareSwitch stack) s = execSpareSwitch stack s := rfl
    rw [e, execSpareSwitch]
    simp only [h]
    rfl
  refine ⟨_, e, ?_⟩
  split
  · next hs =>
    refine ⟨?_, spareSwitched_state .., ?_, hs, spareSwitched_mem ..⟩ <;> rw [spareSwitched_svc]
    · exact Map.find?_del_same ..
    · exact Map.find?_put_same ..
  · refine ⟨?_, ?_, ?_, enterHeld_pseudoChannel_state .., ?_⟩
    · rw [enterHeld_pseudoChannel_svc, spareSwitched_svc]
      exact Map.find?_del_same ..
    · rw [getI_of_butField (enterHeld_but (by decide +kernel) ..), spareSwitched_state]
    · rw [enterHeld_pseudoChannel_svc, spareSwitched_svc]
      exact Map.find?_put_same ..
    · rw [enterHeld_pseudoChannel_mem, spareSwitched_mem]

/-! ### The plinth's slots -/

theorem plinthSwitch_completes (who : Issuer) (slot : Nat) (m : Image) (s : State) (hr : who.role = .platform)
    (hb : s.flag Reg.SVC_CMD_BUSY = false) (hp : s.svc.plinth = none) (hd : s.get Reg.ARM_BOOTDESC_PLINTH_SLOT = slot)
    (hn : slot ≠ s.svc.plinthSlot) (hm : Map.find? s.arm.plinthSlots slot = some m) (hc : imageCode26 s 2 16777216 m = 0) :
    answers (.plinthSwitch who) s fun t => t.svc.plinth = some ⟨slot, s.svc.plinthSlot⟩ ∧ t.get Reg.SVC_PLINTH_SWITCHING = 1 ∧
      t.get Reg.SVC_CMD_STATUS_STATUS = St.ok ∧ t.mem = s.mem := by
  have e : exec (.plinthSwitch who) s = execPlinthSwitch who s := rfl
  unfold execPlinthSwitch at e
  refine answers_svcDone ((s.updSvc fun u => { u with plinth := some ⟨slot, s.svc.plinthSlot⟩ }).set Reg.SVC_PLINTH_SWITCHING 1) hr hb e ?_
    fun u hu hst => ⟨?_, ?_, hst, ?_⟩
  · simp only [hp, hd, hn, hm, hc, Option.isSome_none, Bool.false_eq_true, if_false, BEq.rfl, if_true]
  · rw [svc_of_svcReported hu, State.set_svc]
    rfl
  · exact (getI_of_but hu rfl _ (by decide) 0).trans (State.get_set_same ..)
  · rw [mem_of_svcReported hu, State.set_mem, State.updSvc_mem]

theorem endPlinthSwitch_svc (slot r : Nat) (s : State) : (endPlinthSwitch slot r s).svc = { s.svc with plinth := none, plinthSlot := slot } := by
  rw [endPlinthSwitch, raise_svc, jDevice_svc, State.sets_svc]
  rfl

theorem endPlinthSwitch_fields (slot r : Nat) (s : State) : (endPlinthSwitch slot r s).get Reg.SVC_PLINTH_SWITCHING = 0 ∧
    (endPlinthSwitch slot r s).get Reg.SVC_PLINTH_SLOT = slot % 2 ∧ (endPlinthSwitch slot r s).get Reg.SVC_PLINTH_RESULT = r % 2 ^ 4 := by
  unfold endPlinthSwitch
  dsimp only
  simp (disch := decide) only [raise_get, jDevice_get_of, State.sets_cons, State.sets_nil, State.get_set_touch_ne, State.get_set_same]
  exact ⟨rfl, rfl, rfl⟩

theorem endPlinthSwitch_result (slot r : Nat) (s : State) : (endPlinthSwitch slot r s).get Reg.SVC_PLINTH_RESULT = r % 2 ^ 4 := by
  obtain ⟨-, -, h⟩ := endPlinthSwitch_fields slot r s
  exact h

theorem endPlinthSwitch_mem (slot r : Nat) (s : State) : (endPlinthSwitch slot r s).mem = s.mem :=
  mem_of_but (endPlinthSwitch_but (by decide +kernel) ..)

theorem plinthReady_completes (p : PlinthSwitch) (s : State) (h : s.svc.plinth = some p) : answers .plinthReady s fun t =>
    t.svc.plinth = none ∧ t.svc.plinthSlot = p.target ∧ t.get Reg.SVC_PLINTH_SWITCHING = 0 ∧ t.get Reg.SVC_PLINTH_SLOT = p.target % 2 ∧
    t.get Reg.SVC_PLINTH_RESULT = 1 ∧ t.mem = s.mem := by
  have e : exec .plinthReady s = execPlinthReady s := rfl
  unfold execPlinthReady at e
  simp only [h] at e
  obtain ⟨hsw, hsl, hre⟩ := endPlinthSwitch_fields p.target 1 s
  exact ⟨_, e, by rw [endPlinthSwitch_svc], by rw [endPlinthSwitch_svc], hsw, hsl, hre, endPlinthSwitch_mem ..⟩

theorem plinthSwitchTimeout_completes (p : PlinthSwitch) (s : State) (h : s.svc.plinth = some p) : answers .plinthSwitchTimeout s fun t =>
    t.svc.plinth = none ∧ t.svc.plinthSlot = p.was ∧ t.get Reg.ARM_BOOTDESC_PLINTH_SLOT = p.was % 2 ∧ t.get Reg.SVC_PLINTH_RESULT = 3 ∧
    t.mem = s.mem := by
  have e : exec .plinthSwitchTimeout s = execPlinthSwitchTimeout s := rfl
  unfold execPlinthSwitchTimeout at e
  simp only [h] at e
  refine ⟨_, e, by rw [endPlinthSwitch_svc], by rw [endPlinthSwitch_svc], ?_, endPlinthSwitch_result .., ?_⟩
  · rw [get_of_butField (endPlinthSwitch_but (by decide +kernel) ..)]
    exact State.get_set_same ..
  · rw [endPlinthSwitch_mem, State.set_mem, State.updArm_mem]

theorem plinthLockstepRestart_completes (s : State) : answers .plinthLockstepRestart s fun t =>
    t.get Reg.SVC_PLINTH_LOCKSTEP = min 255 (s.get Reg.SVC_PLINTH_LOCKSTEP + 1) ∧ t.dev = s.dev ∧ t.mem = s.mem := by
  have e : exec .plinthLockstepRestart s = execPlinthLockstepRestart s := rfl
  unfold execPlinthLockstepRestart at e
  refine ⟨_, e, ?_, ?_, ?_⟩
  · rw [State.get_set_same, get_of_butField (patina_but (by decide +kernel) ..)]
    exact Nat.mod_eq_of_lt (by change min 255 _ < 256; omega)
  · rw [dev_set_ne _ _ (by decide), patina_dev]
  · rw [State.set_mem, patina_mem]

/-! ### Corrected errors -/

/-- R762: a failure leaves the count of corrected errors alone. -/
theorem unitFails_ce (kind index code : Nat) (always : Bool) (s : State) : (unitFails kind index code always s).svc.ce = s.svc.ce := by
  have hp (s : State) : (probationFailure kind index s).svc = s.svc := svc_of_butPart (probationFailure_but (by decide +kernel) ..)
  have hr (s : State) : (sparingRefused index s).svc = s.svc := svc_of_butPart (sparingRefused_but (by decide +kernel) ..)
  have hs (s : State) : (startSparing index s).svc.ce = s.svc.ce := by
    rw [startSparing, State.setsI_svc]
    rfl
  unfold unitFails
  extract_lets k st s1 s2
  have h2 : s2.svc = s.svc := by rw [State.setI_svc, patina_svc]
  clear_value st s2
  rw [← h2]
  split
  · rw [raise_svc]
  split
  · rw [hp]
  split
  · split
    · split
      · rw [hs]
      · rw [availUpdate_svc, hr]
    · rw [availUpdate_svc]
  split
  · rw [State.defer_svc]
    rfl
  · rfl

/-- R762: one more corrected error of a pseudo-channel, in the window that began at a boundary. -/
def ceCounted (pc n w : Nat) (s : State) : State := s.updSvc fun u => { u with ce := Map.put s.svc.ce pc (n + 1, w) }

/-- R762: the count goes on in its window, and the pseudo-channel fails when it was at its limit. -/
theorem exec_correctedError (pc n w : Nat) (s : State)
    (h : (Map.find? s.svc.ce pc).getD (0, s.stk.boundary) = (n, w)) (hw : ¬w + 3906250 ≤ s.stk.boundary) :
    exec (.correctedError pc) s = .next (
      if (ceCounted pc n w s).get Reg.SVC_LIMITS_CE_LIMIT ≠ 0 ∧ n = (ceCounted pc n w s).get Reg.SVC_LIMITS_CE_LIMIT then
        unitFails 4 pc 0x1280 false (ceCounted pc n w s)
      else ceCounted pc n w s) := by
  have e : exec (.correctedError pc) s = execCorrectedError pc s := rfl
  -- The window's length becomes a variable first: the kernel would count its numeral out.
  obtain ⟨window, hwin⟩ : ∃ k, k = 3906250 := ⟨_, rfl⟩
  rw [← hwin] at hw
  rw [e]
  generalize ef : execCorrectedError = f
  delta execCorrectedError at ef
  rw [← hwin] at ef
  subst ef
  simp only [h, hw, if_false]
  rfl

theorem correctedError_counts (pc n w : Nat) (s : State) (h : (Map.find? s.svc.ce pc).getD (0, s.stk.boundary) = (n, w))
    (hw : s.stk.boundary < w + 3906250) : answers (.correctedError pc) s fun t => Map.find? t.svc.ce pc = some (n + 1, w) ∧ t.mem = s.mem := by
  have e := exec_correctedError pc n w s h (Nat.not_le.2 hw)
  have hc : Map.find? (ceCounted pc n w s).svc.ce pc = some (n + 1, w) := Map.find?_put_same ..
  refine ⟨_, e, ?_, mem_of_answer (execCorrectedError_but (by decide +kernel) pc s) e⟩
  split
  · rw [unitFails_ce, hc]
  · exact hc

/-! ### RECOVERY -/

theorem recoveryEntry_defers (structure_ : Nat) (bank : List Nat) (s : State) (hd : s.dev ∈ [4, 5])
    (hm : (s.svc.recoveryStrokes.filter fun b => decide (s.stk.boundary < b + 3906250)).length < max 1 (s.get Reg.SVC_CTL_RECOVERY_MAX)) :
    answers (.recoveryEntry structure_ bank) s fun t =>
      t.deferred = s.deferred ++ [(s.dueBoundary, .enterRecovery structure_ bank)] ∧ t.dev = s.dev ∧ t.mem = s.mem := by
  have e : exec (.recoveryEntry structure_ bank) s = execRecoveryEntry structure_ bank s := rfl
  unfold execRecoveryEntry at e
  have hd : s.dev = 4 ∨ s.dev = 5 := by simpa using hd
  have hx : (patina 0x1283 Sev.error structure_ s).get Reg.SVC_CTL_RECOVERY_MAX = s.get Reg.SVC_CTL_RECOVERY_MAX :=
    get_of_butField (patina_but (by decide +kernel) ..)
  simp only [patina_dev, patina_svc, patina_stk, hx, hd, Nat.not_le.2 hm, if_true, if_false] at e
  refine ⟨_, e, defer_deferred ?_ ?_ _, ?_, ?_⟩
  · rw [State.updSvc_deferred, patina_deferred]
  · rw [State.updSvc_stk, patina_stk]
  · exact (defer_get ..).trans (patina_dev ..)
  · rw [State.defer_mem, State.updSvc_mem, patina_mem]

theorem recoveryEntry_safe (structure_ : Nat) (bank : List Nat) (s : State) (hd : s.dev ∈ [4, 5])
    (hm : max 1 (s.get Reg.SVC_CTL_RECOVERY_MAX) ≤ (s.svc.recoveryStrokes.filter fun b => decide (s.stk.boundary < b + 3906250)).length) :
    answers (.recoveryEntry structure_ bank) s fun t => t.dev = 7 := by
  have e : exec (.recoveryEntry structure_ bank) s = execRecoveryEntry structure_ bank s := rfl
  unfold execRecoveryEntry at e
  have hd : s.dev = 4 ∨ s.dev = 5 := by simpa using hd
  have hx : (patina 0x1283 Sev.error structure_ s).get Reg.SVC_CTL_RECOVERY_MAX = s.get Reg.SVC_CTL_RECOVERY_MAX :=
    get_of_butField (patina_but (by decide +kernel) ..)
  simp only [patina_dev, patina_svc, patina_stk, hx, hd, hm, if_true] at e
  exact ⟨_, e, enterSafe_dev ..⟩

/-- R763: RECOVERY is over: the time it took shows, and nothing waits to be rebuilt. -/
def recoveryEnded (s : State) : State :=
  (s.updSvc fun u => { u with structures := [] }).set Reg.SVC_RECOVERY_STROKES (s.stk.boundary - s.svc.recoveryAt)

theorem recoveryEnded_structures (s : State) : (recoveryEnded s).svc.structures = [] := by
  rw [recoveryEnded, State.set_svc]
  rfl

theorem recoveryExit_completes (s : State) (hd : s.dev = 6) (hl : s.svc.recoveryAt + s.eff Reg.SVC_LIMITS_RECOVERY_MIN ≤ s.stk.boundary)
    (hh : s.flag Reg.SVC_CTL_RECOVERY_HOLD = false) : answers (.recoveryExit true) s fun t => t.dev = 4 ∧ t.svc.structures = [] ∧
      t.get Reg.SVC_RECOVERY_STROKES = (s.stk.boundary - s.svc.recoveryAt) % 2 ^ 32 := by
  have e : exec (.recoveryExit true) s = .next (raise Ev.svcRecovery 0 (1 + s.get Reg.SVC_RECOVERY_CAUSE * 2 ^ 8)
      (jDevice 0x1004 0 0 [1] (jobAbortedState (enterState 4 0 (stageDiscard (recoveryEnded s)))))) := by
    have e : exec (.recoveryExit true) s = execRecoveryExit true s := rfl
    rw [e, execRecoveryExit]
    simp only [hd, hl, hh, ne_eq, not_true_eq_false, Bool.true_eq_false, and_self, if_false, if_true]
    rfl
  refine ⟨_, e, ?_, ?_, ?_⟩
  · rw [State.dev, raise_get, jDevice_get_of (by decide +kernel)]
    exact (jobAbortedState_dev _).trans (enterState_dev ..)
  · rw [raise_svc, jDevice_svc, svc_of_butPart (jobAbortedState_but (by decide +kernel) _), enterState_svc,
      svc_of_butPart (stageDiscard_but (by decide +kernel) _), recoveryEnded_structures]
  · rw [raise_get, jDevice_get_of (by decide +kernel), get_of_butField (jobAbortedState_but (by decide +kernel) _),
      get_of_butField (enterState_but (by decide +kernel) ..), get_of_butField (stageDiscard_but (by decide +kernel) _)]
    exact State.get_set_same ..

theorem recoveryExit_safe (s : State) (hd : s.dev = 6) : answers (.recoveryExit false) s fun t => t.dev = 7 := by
  have e : exec (.recoveryExit false) s = execRecoveryExit false s := rfl
  unfold execRecoveryExit at e
  rw [if_neg (not_not_intro hd), if_pos rfl] at e
  exact ⟨_, e, enterSafe_dev ..⟩

/-- Settles O51: each command from its own lemma above. -/
theorem repairCommandsComplete : Obligations.RepairCommandsComplete := by
  unfold Obligations.RepairCommandsComplete
  refine ⟨?_, ?_, ?_, spareSwitch_completes, ?_, plinthReady_completes, plinthSwitchTimeout_completes, plinthLockstepRestart_completes,
    ?_, ?_, ?_, ?_, ?_, ?_⟩
  · rintro who _ index s ⟨h, rfl, hs, ht⟩
    exact repair_completes who index s h hs ht
  · rintro index ok p s ⟨h, ho⟩
    exact repairDone_completes index ok p s h ho
  · rintro who _ index s ⟨h, rfl, hs, hr⟩
    exact spare_completes who index s h hs hr
  · rintro who slot m s ⟨hr, hb, hp, hd, hn, hm, hc⟩
    exact plinthSwitch_completes who slot m s hr hb hp hd hn hm hc
  · rintro pc n w s ⟨h, hw⟩
    exact correctedError_counts pc n w s (by rw [h]; rfl) hw
  · rintro pc s h
    exact correctedError_counts pc 0 _ s (by rw [h]; rfl) (by omega)
  · rintro structure_ bank s ⟨hd, hm⟩
    exact recoveryEntry_defers structure_ bank s hd hm
  · rintro structure_ bank s ⟨hd, hm⟩
    exact recoveryEntry_safe structure_ bank s hd hm
  · rintro _ s ⟨hd, rfl, hl, hh⟩
    exact recoveryExit_completes s hd hl hh
  · rintro _ s ⟨hd, rfl⟩
    exact recoveryExit_safe s hd

end Sys2Proof.Machine
end

section
/-!
CERTIFICATE. What the host-link and niche commands leave unchanged.
-/
namespace Sys2Proof.Machine
set_option Elab.async false

/-- R184: A device right after reset, but for one Secure selective stream of attachment point 0. -/
def State.oneStream : State := State.reset.updHif fun u => { u with ide := [⟨0, 0, 0, false, true⟩] }

/-- R184: A failed check of a known stream is reported to the host, so something leaves the device. -/
theorem execIdeCheckFailed_oneStream_out :
    ∃ t, exec (.ideCheckFailed 0 0 false) State.oneStream = .next t ∧ t.out = [.aer 0 none .ideCheckFailed] :=
  ⟨_, rfl, by decide +kernel⟩

/-- Refutes O55: a failed IDE check of a stream that the device knows emits an AER message, but the frame of IDE_CHECK_FAILED lists
only the host interface's own part and `LINK.IDE_LINK`, and so claims that nothing leaves. -/
theorem not_hostAndNicheFrames : ¬ Obligations.HostAndNicheFrames := by
  unfold Obligations.HostAndNicheFrames
  rintro ⟨_, _, _, _, _, _, _, _, _, _, _, _, _, _, _, _, _, _, ideCheckFailedFrame, _⟩
  obtain ⟨t, next, emitted⟩ := execIdeCheckFailed_oneStream_out
  obtain ⟨sameParts, _⟩ := ideCheckFailedFrame 0 0 false _ t next
  have same : t.out = State.oneStream.out := sameParts .out (by decide)
  have silent : State.oneStream.out = [] := rfl
  rw [emitted, silent] at same
  exact List.cons_ne_nil _ _ same

end Sys2Proof.Machine
end

section
/-!
CERTIFICATE. The manager role: heartbeats, claims and the move.
-/
namespace Sys2Proof.Machine
set_option Elab.async false

/-! ### Parts that an operation leaves alone -/

theorem hif_of_butPart {s t : State} (h : t.but (butPart .hif) = s.but (butPart .hif)) : t.hif = s.hif := samePart_of_butPart h

theorem flag_of_butField {f : Field} {s t : State} (h : t.but (butField f) = s.but (butField f)) : t.flag f = s.flag f := by
  rw [State.flag, State.flag, get_of_butField h]

theorem flagI_of_butField {f : Field} {s t : State} (h : t.but (butField f) = s.but (butField f)) (i : Nat) : t.flagI f i = s.flagI f i := by
  rw [State.flagI, State.flagI, getI_of_butField h]

/-- Fields set in turn, whatever their values, change no more than their places. -/
theorem State.setsI_but_of {E : Touch → Bool} {l : List (Field × Nat)} (h : (l.all fun p => E p.1.touch) = true) (s : State) (i : Nat) :
    (s.setsI i l).but E = s.but E := State.setsI_but (List.all_eq_true.1 h) s i

theorem State.sets_but_of {E : Touch → Bool} {l : List (Field × Nat)} (h : (l.all fun p => E p.1.touch) = true) (s : State) :
    (s.sets l).but E = s.but E := State.setsI_but_of h s 0

theorem standbyShow_hif (s : State) : (standbyShow s).hif = s.hif := hif_of_butPart (standbyShow_but (by decide +kernel) s)

/-- STANDBY_READY and the availability that follows it are no part of what makes a candidate ready. -/
theorem standbyShow_mgrReady (s : State) (ap pf : Nat) : (standbyShow s).mgrReady ap pf = s.mgrReady ap pf := by
  have pfOf : (standbyShow s).pfOf ap pf = s.pfOf ap pf := by rw [State.pfOf, State.fnsOf, standbyShow_hif]; rfl
  unfold State.mgrReady State.fnExists
  rw [pfOf]
  cases s.pfOf ap pf with
  | none => rfl
  | some f =>
    dsimp only
    rw [flagI_of_butField (standbyShow_but (by decide +kernel) s), getI_of_butField (standbyShow_but (by decide +kernel) s),
      flagI_of_butField (standbyShow_but (by decide +kernel) s), flagI_of_butField (standbyShow_but (by decide +kernel) s)]

/-! ### Heartbeats -/

theorem managerHeartbeat_completes (who : Issuer) (s : State) (hr : who.role = .manager) (hw : s.mayWriteRegs who = true)
    (hb : s.blockAnswers 0x3000D8 = true) : answers (.managerHeartbeat who) s fun t =>
      t.hif.hbArmed = true ∧ t.hif.hbCount = 0 ∧ t.regs = s.regs ∧ t.mem = s.mem := by
  refine ⟨s.updHif fun u => { u with hbArmed := true, hbCount := 0 }, congrArg Host.Outcome.next ?_, rfl, rfl, rfl, rfl⟩
  exact (regGate_open hw hb).trans (if_pos hr)

theorem managerLost_eq {s : State} (hv : s.flag Reg.HIF_MGR_VACANT = false) (hr : s.recoveryRole = false) :
    managerLost s = s.updHif fun u => { u with lost := true } := by
  simp [managerLost, hv, hr]

theorem managerHeartbeatTimeout_completes (s : State) (ha : s.hif.hbArmed = true) (hl : s.get Reg.HIF_MGR_HB_LIMIT ≠ 0)
    (hc : s.get Reg.HIF_MGR_HB_LIMIT ≤ s.hif.hbCount) (hv : s.flag Reg.HIF_MGR_VACANT = false) (hr : s.recoveryRole = false) :
    answers .managerHeartbeatTimeout s fun t => t.hif.lost = true ∧ t.regs = s.regs ∧ t.mem = s.mem := by
  refine ⟨s.updHif fun u => { u with lost := true }, congrArg Host.Outcome.next ?_, rfl, rfl, rfl⟩
  exact (if_pos ⟨ha, hl, hc⟩).trans (managerLost_eq hv hr)

/-! ### Claims -/

theorem mgrCmdRecord_hif (op : Nat) (who : Issuer) (st : Nat) (s : State) : (mgrCmdRecord op who st s).hif = s.hif :=
  hif_of_butPart (mgrCmdRecord_but (by decide +kernel) ..)

theorem mgrCmdRecord_mem (op : Nat) (who : Issuer) (st : Nat) (s : State) : (mgrCmdRecord op who st s).mem = s.mem :=
  mem_of_but (mgrCmdRecord_but (by decide +kernel) ..)

/-- A write of HIF_MGR_CMD that is taken leaves the host interface as its action sets it. -/
theorem answers_mgrCmd {c : Instr} {op : Nat} {who : Issuer} {act : State → Nat × State} {s : State} {st : Nat} (u : Hif → Hif)
    {P : State → Prop} (hb : s.blockAnswers 0x3000E0 = true) (hj : s.jReady who = true) (he : exec c s = mgrCmd op who act s)
    (ha : act s = (st, s.updHif u)) (hP : ∀ t : State, t.hif = u s.hif → t.mem = s.mem → P t) : answers c s P := by
  refine ⟨mgrCmdRecord op who st (s.updHif u), he.trans ?_, hP _ (mgrCmdRecord_hif ..) (mgrCmdRecord_mem ..)⟩
  simp only [mgrCmd, hb, hj, ha, Bool.true_eq_false, if_false]

theorem handover_completes (who : Issuer) (s : State) (hb : s.blockAnswers 0x3000E0 = true) (hj : s.jReady who = true)
    (hv : s.flag Reg.HIF_MGR_VACANT = false) (hi : s.issuerIs who s.mgrActive = true)
    (hr : s.mgrReady s.mgrStandby.1 s.mgrStandby.2 = true) : answers (.handover who false) s fun t =>
      t.hif.lost = true ∧ t.hif.claim = some s.mgrStandby ∧ t.mem = s.mem := by
  have e : exec (.handover who false) s = execHandover who false s := rfl
  unfold execHandover at e
  refine answers_mgrCmd (st := St.ok) (fun u => { u with lost := true, claim := some s.mgrStandby }) hb hj e ?_
    fun t hhif hmem => ⟨by rw [hhif], by rw [hhif], hmem⟩
  simp [hv, hi, hr]

/-- R187: an issuer that may take the role over: of a vacant role, or of a lost one that does not move by itself. -/
abbrev mayTakeOver (s : State) (who : Issuer) : Prop :=
  s.flag Reg.HIF_MGR_VACANT = true ∨ s.issuerIs who s.mgrActive = false ∧ s.hif.lost = true ∧ s.flag Reg.HIF_MGR_AUTO_FAILOVER = false

theorem takeover_completes (who : Issuer) (s : State) (hb : s.blockAnswers 0x3000E0 = true) (hj : s.jReady who = true)
    (hi : s.issuerIs who s.mgrStandby = true) (hr : s.mgrReady s.mgrStandby.1 s.mgrStandby.2 = true) (hm : mayTakeOver s who) :
    answers (.takeover who) s fun t => t.hif.claim = some s.mgrStandby ∧ t.mem = s.mem := by
  have e : exec (.takeover who) s = execTakeover who s := rfl
  unfold execTakeover at e
  refine answers_mgrCmd (st := St.ok) (fun u => { u with claim := some s.mgrStandby }) hb hj e ?_
    fun t hhif hmem => ⟨by rw [hhif], hmem⟩
  obtain hv | ⟨ha, hl, hf⟩ := hm
  · simp [hv, hi, hr]
  · simp [ha, hl, hf, hi, hr]

/-! ### The move -/

theorem mgrLeave_hbArmed (s : State) : (mgrLeave s).hif.hbArmed = false := by
  unfold mgrLeave
  dsimp only
  rw [raise_hif, State.set_hif]
  rfl

/-- R187: the role once it has moved, before niche 0 rebinds. -/
def roleGiven (ap pf : Nat) (s : State) : State :=
  let left := mgrLeave (mgrRecord (if s.flag Reg.HIF_MGR_VACANT then (0xFF, 0xFF) else s.mgrActive) (ap, pf) s)
  (if left.mgrStandby = (ap, pf) then
    left.sets [(Reg.HIF_MGR_STANDBY_AP, s.mgrActive.1), (Reg.HIF_MGR_STANDBY_PF, s.mgrActive.2)] else left).sets
    [(Reg.HIF_MGR_VACANT, 0), (Reg.HIF_MGR_ACTIVE_AP, ap), (Reg.HIF_MGR_ACTIVE_PF, pf)]

/-- R187: niche 0, where it exists, is bound to the manager PF. -/
def managerBound (ap rid : Nat) (s : State) : State :=
  if (Map.find? s.nch.niches 0).isSome then s.setsI 0 [(Reg.NCH_INFO_BOUND, 1), (Reg.NCH_INFO_AP, ap), (Reg.NCH_INFO_RID, rid)] else s

theorem moveRole_eq (ap pf : Nat) (s : State) :
    let rid := (((roleGiven ap pf s).pfOf ap pf).map (·.rid)).getD 0
    moveRole ap pf s = standbyShow ((managerBound ap rid (roleGiven ap pf s)).emit (.msix ap rid 0)) := rfl

theorem managerBound_but {E : Touch → Bool} (h : E Reg.NCH_INFO_BOUND.touch && E Reg.NCH_INFO_AP.touch && E Reg.NCH_INFO_RID.touch)
    (ap rid : Nat) (s : State) : (managerBound ap rid s).but E = s.but E := by
  simp only [Bool.and_eq_true] at h
  exact ite_but (State.setsI_but (by simp [h]) s 0) rfl

/-- What follows a move leaves a field of the role as it was given. -/
theorem moveRole_get {f : Field} (h : standbyShow.within (butField f) = true)
    (hb : (butField f Reg.NCH_INFO_BOUND.touch && butField f Reg.NCH_INFO_AP.touch && butField f Reg.NCH_INFO_RID.touch) = true)
    (ap pf : Nat) (s : State) : (moveRole ap pf s).get f = (roleGiven ap pf s).get f := by
  rw [moveRole_eq, get_of_butField (standbyShow_but h _), emit_get, get_of_butField (managerBound_but hb ..)]

/-- A move gives the role to the PF named. -/
theorem moveRole_role (ap pf : Nat) (s : State) : (moveRole ap pf s).get Reg.HIF_MGR_VACANT = 0 ∧
    (moveRole ap pf s).get Reg.HIF_MGR_ACTIVE_AP = ap % 4 ∧ (moveRole ap pf s).get Reg.HIF_MGR_ACTIVE_PF = pf % 16 := by
  refine ⟨(moveRole_get (by decide +kernel) (by decide +kernel) ..).trans ?_,
    (moveRole_get (by decide +kernel) (by decide +kernel) ..).trans ?_,
    (moveRole_get (by decide +kernel) (by decide +kernel) ..).trans ?_⟩
  all_goals
    simp (disch := decide) only [roleGiven, State.sets_cons, State.sets_nil, State.get_set_touch_ne, State.get_set_same]
    rfl

/-- After a move no heartbeat is awaited before the first. -/
theorem moveRole_hbArmed (ap pf : Nat) (s : State) : (moveRole ap pf s).hif.hbArmed = false := by
  rw [moveRole_eq, standbyShow_hif, State.emit_hif, hif_of_butPart (managerBound_but (by decide +kernel) ..)]
  unfold roleGiven
  dsimp only
  rw [State.sets_hif]
  exact (congrArg Hif.hbArmed (hif_of_butPart (ite_but (State.sets_but_of rfl _) rfl))).trans (mgrLeave_hbArmed _)

theorem execManagerRoleMove_claimed {c : Nat × Nat} {s : State} (hc : s.hif.claim = some c) (hr : s.mgrReady c.1 c.2 = true)
    (hm : s.flag Reg.HIF_MGR_VACANT = true ∨ s.hif.lost = true) : execManagerRoleMove s = .next (moveRole c.1 c.2 s) := by
  have hf : s.hif.claim.filter (fun c => s.mgrReady c.1 c.2) = some c := by simp [hc, Option.filter, hr]
  unfold execManagerRoleMove
  simp only [hf]
  obtain hv | hl := hm
  · simp [hv]
  · simp [hl]

theorem managerRoleMove_completes (c : Nat × Nat) (s : State) (hc : s.hif.claim = some c) (hr : s.mgrReady c.1 c.2 = true)
    (hm : s.flag Reg.HIF_MGR_VACANT = true ∨ s.hif.lost = true) : answers .managerRoleMove s fun t => t.get Reg.HIF_MGR_VACANT = 0 ∧
      t.get Reg.HIF_MGR_ACTIVE_AP = c.1 % 4 ∧ t.get Reg.HIF_MGR_ACTIVE_PF = c.2 % 16 ∧ t.hif.hbArmed = false := by
  obtain ⟨vacant, ap, pf⟩ := moveRole_role c.1 c.2 s
  exact ⟨_, execManagerRoleMove_claimed hc hr hm, vacant, ap, pf, moveRole_hbArmed ..⟩

/-! ### Standby -/

/-- While the role is vacant, a candidate that is ready shows as a standby that is ready. -/
theorem standbyShow_ready {ap pf : Nat} {s : State} (hv : s.flag Reg.HIF_MGR_VACANT = true) (hr : s.mgrReady ap pf = true)
    (hc : s.mgrStandby = (ap, pf) ∨ s.mgrActive = (ap, pf)) : (standbyShow s).get Reg.HIF_MGR_STANDBY_READY = 1 := by
  unfold standbyShow
  dsimp only
  rw [get_of_butField (availUpdate_but (by decide +kernel) _), State.get_set_same, hv]
  obtain h | h := hc
  · simp only [h, hr, if_true, Bool.true_or]
    rfl
  · simp only [h, hr, if_true, Bool.or_true]
    rfl

theorem standbyReady_completes (ap pf : Nat) (s : State) (hv : s.flag Reg.HIF_MGR_VACANT = true)
    (ha : s.flag Reg.HIF_MGR_AUTO_FAILOVER = true) (hr : s.mgrReady ap pf = true) (hc : s.mgrStandby = (ap, pf) ∨ s.mgrActive = (ap, pf)) :
    answers (.standbyReady ap pf) s fun t => t.hif.claim = some (ap, pf) ∧ t.get Reg.HIF_MGR_STANDBY_READY = 1 ∧ t.mem = s.mem := by
  have standby : (standbyShow s).mgrStandby = s.mgrStandby := by
    rw [State.mgrStandby, get_of_butField (standbyShow_but (by decide +kernel) s), get_of_butField (standbyShow_but (by decide +kernel) s)]
    rfl
  have active : (standbyShow s).mgrActive = s.mgrActive := by
    rw [State.mgrActive, get_of_butField (standbyShow_but (by decide +kernel) s), get_of_butField (standbyShow_but (by decide +kernel) s)]
    rfl
  have e : exec (.standbyReady ap pf) s = execStandbyReady ap pf s := rfl
  have hgo : (standbyShow s).flag Reg.HIF_MGR_VACANT = true ∧ (standbyShow s).flag Reg.HIF_MGR_AUTO_FAILOVER = true ∧
      (standbyShow s).mgrReady ap pf = true ∧ ((standbyShow s).mgrStandby = (ap, pf) ∨ (standbyShow s).mgrActive = (ap, pf)) := by
    rw [flag_of_butField (standbyShow_but (by decide +kernel) s), flag_of_butField (standbyShow_but (by decide +kernel) s),
      standbyShow_mgrReady, standby, active]
    exact ⟨hv, ha, hr, hc⟩
  unfold execStandbyReady at e
  dsimp only at e
  rw [if_pos hgo] at e
  exact ⟨_, e, rfl, (State.updHif_get ..).trans (standbyShow_ready hv hr hc), (State.updHif_mem ..).trans (standbyShow_mem s)⟩

/-- Settles O20: each command from its own lemma above. -/
theorem managerRoleCommandsComplete : Obligations.ManagerRoleCommandsComplete := by
  unfold Obligations.ManagerRoleCommandsComplete
  refine ⟨?_, ?_, ?_, ?_, ?_, ?_⟩
  · rintro who s ⟨hr, hw, hb⟩
    exact managerHeartbeat_completes who s hr hw hb
  · rintro s ⟨ha, hl, hc, hv, hr⟩
    exact managerHeartbeatTimeout_completes s ha hl hc hv hr
  · rintro who both s ⟨hb, hj, rfl, hv, hi, hr⟩
    exact handover_completes who s hb hj hv hi hr
  · rintro who s ⟨hb, hj, hi, hr, hm⟩
    exact takeover_completes who s hb hj hi hr hm
  · rintro c s ⟨hc, hr, hm⟩
    exact managerRoleMove_completes c s hc hr hm
  · rintro ap pf s ⟨hv, ha, hr, hc⟩
    exact standbyReady_completes ap pf s hv ha hr hc

end Sys2Proof.Machine
end

section
/-!
CERTIFICATE. Link security and CXL: IDE streams, TDIs, translations, decoders and the exported region.
-/
namespace Sys2Proof.Machine
set_option Elab.async false

/-! ### IDE streams -/

theorem ideShow_hif (ap : Nat) (s : State) : (ideShow ap s).hif = s.hif := State.setI_hif ..

theorem ideShow_mem (ap : Nat) (s : State) : (ideShow ap s).mem = s.mem := State.setI_mem ..

theorem ideKeyProgram_completes (ap index pf : Nat) (link : Bool) (f : Fn) (s : State) (hp : s.pfOf ap pf = some f)
    (he : s.fnExists f = true) (hu : s.flagI Reg.HIF_LINK_UP ap = true) : answers (.ideKeyProgram ap index pf link) s fun t =>
      (⟨ap, if link then 0 else index, pf, link, true⟩ : IdeStream) ∈ t.hif.ide ∧ t.mem = s.mem := by
  have e : exec (.ideKeyProgram ap index pf link) s = execIdeKeyProgram ap index pf link s := rfl
  simp only [execIdeKeyProgram, hp, he, hu, Bool.true_eq_false, or_self, if_false] at e
  refine ⟨_, e, ?_, ideShow_mem ..⟩
  rw [ideShow_hif]
  exact List.mem_append_right _ (List.mem_singleton_self _)

/-- R184: the streams once those of an attachment point, index and kind are Insecure. -/
def ideInsecure (ap index : Nat) (link : Bool) (l : List IdeStream) : List IdeStream :=
  l.map fun x => if x.ap = ap ∧ x.index = index ∧ x.link = link then { x with secure := false } else x

theorem ideInsecure_secure {ap index : Nat} {link : Bool} {l : List IdeStream} {x : IdeStream} (hx : x ∈ ideInsecure ap index link l)
    (ha : x.ap = ap) (hi : x.index = index) (hl : x.link = link) : x.secure = false := by
  obtain ⟨y, -, rfl⟩ := List.mem_map.1 hx
  by_cases h : y.ap = ap ∧ y.index = index ∧ y.link = link
  · rw [if_pos h]
  · simp only [if_neg h] at ha hi hl
    exact absurd ⟨ha, hi, hl⟩ h

theorem ideCheckFailed_completes (ap index : Nat) (link : Bool) (s : State) : answers (.ideCheckFailed ap index link) s fun t =>
      (∀ x ∈ t.hif.ide, x.ap = ap → x.index = (if link then 0 else index) → x.link = link → x.secure = false) ∧ t.mem = s.mem := by
  refine ⟨_, rfl, fun x hx ha hi hl => ?_, ?_⟩
  · rw [ideShow_hif] at hx
    exact ideInsecure_secure hx ha hi hl
  · rw [ideShow_mem, State.updHif_mem]
    split <;> rfl

/-! ### TDIs -/

theorem retryReads_getI_of {f : Field} (h : retryReads.within (butField f) = true) (s : State) (i : Nat) :
    (retryReads s).getI f i = s.getI f i := getI_of_butField (retryReads_but h s) i

theorem tdispRequest_completes (ap rid msg : Nat) (s : State) (he : s.flagI Reg.HIF_FN_INFO_EXISTS (fnKey ap rid) = true)
    (hm : msg = 1 ∧ s.getI Reg.HIF_FN_INFO_TDI_STATE (fnKey ap rid) ≤ 1 ∨ msg = 2 ∧ s.getI Reg.HIF_FN_INFO_TDI_STATE (fnKey ap rid) = 2 ∨
      msg = 3 ∧ s.getI Reg.HIF_FN_INFO_TDI_STATE (fnKey ap rid) ≠ 0) : answers (.tdispRequest ap rid msg) s fun t =>
      t.getI Reg.HIF_FN_INFO_TDI_STATE (fnKey ap rid) = (if msg = 1 then 2 else if msg = 2 then 3 else 1) := by
  have e : exec (.tdispRequest ap rid msg) s = execTdispRequest ap rid msg s := rfl
  obtain ⟨rfl, h⟩ | ⟨rfl, h⟩ | ⟨rfl, h⟩ := hm
  · refine ⟨s.setI Reg.HIF_FN_INFO_TDI_STATE (fnKey ap rid) 2, e.trans ?_, State.getI_setI_same ..⟩
    simp [execTdispRequest, he, h]
  · refine ⟨s.setI Reg.HIF_FN_INFO_TDI_STATE (fnKey ap rid) 3, e.trans ?_, State.getI_setI_same ..⟩
    simp [execTdispRequest, he, h]
  · refine ⟨retryReads (s.setI Reg.HIF_FN_INFO_TDI_STATE (fnKey ap rid) 1), e.trans ?_, ?_⟩
    · simp [execTdispRequest, he, h]
    · exact (retryReads_getI_of (by decide +kernel) ..).trans (State.getI_setI_same ..)

theorem tdiEnterError_error {fn : Nat} {s : State} (h : s.getI Reg.HIF_FN_INFO_TDI_STATE fn ≠ 4) :
    (tdiEnterError fn s).getI Reg.HIF_FN_INFO_TDI_STATE fn = 4 ∧ (tdiEnterError fn s).flag Reg.HIF_STATUS_TDI_ERROR = true := by
  rw [tdiEnterError, if_neg h]
  constructor
  · exact (State.getI_setI_touch_ne _ _ _ _ (by decide)).trans (State.getI_setI_same ..)
  · exact flag_set_one rfl

theorem tdiError_completes (ap rid : Nat) (s : State) (he : s.flagI Reg.HIF_FN_INFO_EXISTS (fnKey ap rid) = true)
    (ht : s.getI Reg.HIF_FN_INFO_TDI_STATE (fnKey ap rid) = 2 ∨ s.getI Reg.HIF_FN_INFO_TDI_STATE (fnKey ap rid) = 3) :
    answers (.tdiError ap rid) s fun t =>
      t.getI Reg.HIF_FN_INFO_TDI_STATE (fnKey ap rid) = 4 ∧ t.flag Reg.HIF_STATUS_TDI_ERROR = true :=
  ⟨_, congrArg Host.Outcome.next (if_pos ⟨he, ht⟩), tdiEnterError_error (by omega)⟩

/-! ### Translations -/

theorem atcDrop_atc (hit : AtcEntry → Bool) (s : State) : (atcDrop hit s).hif.atc = s.hif.atc.filter fun a => !hit a := by
  rw [atcDrop, State.set_hif]
  rfl

theorem atcDrop_valid (hit : AtcEntry → Bool) (s : State) :
    (atcDrop hit s).get Reg.HIF_ATC_STATUS_VALID = (atcDrop hit s).hif.atc.length % 2 ^ 15 := by
  rw [atcDrop_atc]
  exact State.get_set_same ..

theorem atsInvalidation_completes (ap rid pasid addr len : Nat) (s : State) : answers (.atsInvalidation ap rid pasid addr len) s fun t =>
      t.hif.atc = (s.hif.atc.filter fun a =>
        !(a.ap == ap && a.rid == rid && a.pasid == pasid && decide (addr ≤ a.addr) && decide (a.addr < addr + len))) ∧
      t.get Reg.HIF_ATC_STATUS_VALID = t.hif.atc.length % 2 ^ 15 ∧ t.mem = s.mem :=
  ⟨_, rfl, atcDrop_atc .., atcDrop_valid .., atcDrop_mem ..⟩

/-! ### CXL memory -/

/-- R191: a host access that a committed decoder maps into the exported region, while the CXL link is up. -/
structure CxlMaps (s : State) (addr dpa : Nat) : Prop where
  mode : s.flag Reg.HIF_CXL_CXL_MODE = true
  link : s.flagI Reg.HIF_LINK_UP 2 = true
  decoded : hdmDecode s addr = some dpa
  inside : dpa < s.cxlBytes.2

/-- R191, R193: what a CXL access leaves that reaches the exported region. -/
def cxlAccessed (dpa : Nat) (data : List Byte) (write bad : Bool) (s : State) : State :=
  if write then (memWriteList s (s.cxlBytes.1 + dpa) data).emit (.hostReply 2 0 0 0)
  else if bad then (cxlMedia dpa s).emit (.hostReply 2 0 3 0)
  else if s.hif.poison.contains dpa then s.emit (.hostReply 2 0 3 0)
  else s.emit (.hostReply 2 0 0 (ofBytes (memReadList s (s.cxlBytes.1 + dpa) 64)))

theorem exec_cxlMemAccess {s : State} {addr dpa : Nat} (h : CxlMaps s addr dpa) (data : List Byte) (write bad : Bool) :
    exec (.cxlMemAccess addr data write bad) s = .next (cxlAccessed dpa data write bad s) := by
  have e : exec (.cxlMemAccess addr data write bad) s = execCxlMemAccess addr data write bad s := rfl
  obtain ⟨hm, hu, hd, hi⟩ := h
  simp only [execCxlMemAccess, hm, hu, hd, Nat.not_le.2 hi, Bool.true_eq_false, or_self, if_false] at e
  exact e

theorem mem_insertNat (k : Nat) (l : List Nat) : k ∈ insertNat k l := by
  induction l with
  | nil => exact List.mem_singleton_self k
  | cons h t ih =>
    unfold insertNat
    split
    · exact List.mem_cons_self
    · split
      next e => exact e ▸ List.mem_cons_self
      next => exact List.mem_cons_of_mem _ ih

theorem cxlMedia_poison (dpa : Nat) (s : State) : dpa ∈ (cxlMedia dpa s).hif.poison := by
  unfold cxlMedia poisonShow
  dsimp only
  rw [raise_hif, State.set_hif, hif_of_butPart (patina_but (by decide +kernel) ..), State.set_hif]
  exact mem_insertNat dpa s.hif.poison

theorem cxlMemAccess_completes (addr dpa : Nat) (data : List Byte) (write bad : Bool) (s : State) (h : CxlMaps s addr dpa) :
    answers (.cxlMemAccess addr data write bad) s fun t =>
      (write = true → t.mem = (memWriteList s (s.cxlBytes.1 + dpa) data).mem ∧ t.out = s.out ++ [.hostReply 2 0 0 0]) ∧
      (write = false → t.mem = s.mem) ∧
      (write = false → bad = false → dpa ∉ s.hif.poison →
        t.out = s.out ++ [.hostReply 2 0 0 (ofBytes (memReadList s (s.cxlBytes.1 + dpa) 64))]) ∧
      (write = false → bad = true → dpa ∈ t.hif.poison) := by
  refine ⟨_, exec_cxlMemAccess h data write bad, ?_⟩
  cases write with
  | true =>
    refine ⟨fun _ => ⟨rfl, ?_⟩, nofun, nofun, nofun⟩
    exact (emit_out ..).trans (congrArg (· ++ _) (memWriteList_out ..))
  | false =>
    cases bad with
    | true => exact ⟨nofun, fun _ => cxlMedia_mem dpa s, nofun, fun _ _ => cxlMedia_poison dpa s⟩
    | false =>
      refine ⟨nofun, fun _ => ?_, fun _ _ hp => ?_, nofun⟩
      · unfold cxlAccessed
        simp only [Bool.false_eq_true, if_false]
        split <;> rfl
      · unfold cxlAccessed
        simp only [Bool.false_eq_true, if_false, List.contains_iff_mem, hp]
        rfl

/-! ### Decoders -/

theorem hdmBit_width (d : Nat) : (hdmBit d).width = 1 := by
  unfold hdmBit
  split <;> rfl

/-- R191: the settings of a decoder that the device supports. -/
structure HdmFits (s : State) (decoder base size ways gran : Nat) : Prop where
  interleaves : ways = 1 ∨ ways = 2 ∨ ways = 4 ∨ ways = 8
  granular : gran ≤ 6
  nonempty : 0 < size
  aligned : base % 2 ^ 28 = 0
  whole : size % (2 ^ 28 * ways) = 0
  room : (Map.del s.hif.hdm decoder).foldl (fun a p => a + p.2.size / p.2.ways) 0 + size / ways ≤ s.cxlBytes.2

theorem exec_hdmUncommit (decoder base size ways gran : Nat) {s : State} (hm : s.flag Reg.HIF_CXL_CXL_MODE = true) :
    exec (.hdmCommit decoder base size ways gran false) s =
      .next ((s.updHif fun u => { u with hdm := Map.del s.hif.hdm decoder }).set (hdmBit decoder) 0) := by
  have e : exec (.hdmCommit decoder base size ways gran false) s = execHdmCommit decoder base size ways gran false s := rfl
  simpa only [execHdmCommit, hm, Bool.true_eq_false, if_false, if_true] using e

theorem exec_hdmCommit {decoder base size ways gran : Nat} {s : State} (hm : s.flag Reg.HIF_CXL_CXL_MODE = true)
    (h : HdmFits s decoder base size ways gran) : exec (.hdmCommit decoder base size ways gran true) s =
      .next ((s.updHif fun u => { u with hdm := Map.put (Map.del s.hif.hdm decoder) decoder ⟨base, size, ways, gran⟩ }).set
        (hdmBit decoder) 1) := by
  have e : exec (.hdmCommit decoder base size ways gran true) s = execHdmCommit decoder base size ways gran true s := rfl
  obtain ⟨hw, hg, hs, hb, hz, hr⟩ := h
  simpa only [execHdmCommit, hm, hw, hg, hs, hb, hz, hr, Bool.true_eq_false, if_false, and_self, if_true] using e

theorem execHdmCommit_mem (decoder base size ways gran : Nat) (commit : Bool) {s t : State}
    (e : exec (.hdmCommit decoder base size ways gran commit) s = .next t) : t.mem = s.mem :=
  mem_of_answer (execHdmCommit_but (by decide +kernel) ..) e

theorem hdmCommit_completes (decoder base size ways gran : Nat) (commit : Bool) (s : State) (hm : s.flag Reg.HIF_CXL_CXL_MODE = true) :
    answers (.hdmCommit decoder base size ways gran commit) s fun t =>
      (commit = false → Map.find? t.hif.hdm decoder = none ∧ t.get (hdmBit decoder) = 0) ∧
      (commit = true → HdmFits s decoder base size ways gran →
        Map.find? t.hif.hdm decoder = some ⟨base, size, ways, gran⟩ ∧ t.get (hdmBit decoder) = 1) ∧ t.mem = s.mem := by
  cases commit with
  | false =>
    have e := exec_hdmUncommit decoder base size ways gran hm
    refine ⟨_, e, fun _ => ⟨?_, ?_⟩, nofun, execHdmCommit_mem _ _ _ _ _ _ e⟩
    · rw [State.set_hif]
      exact Map.find?_del_same ..
    · rw [State.get_set_same, Nat.zero_mod]
  | true =>
    obtain ⟨t, e⟩ : ∃ t, exec (.hdmCommit decoder base size ways gran true) s = .next t := ⟨_, rfl⟩
    refine ⟨t, e, nofun, fun _ h => ?_, execHdmCommit_mem _ _ _ _ _ _ e⟩
    obtain rfl := Host.Outcome.next.inj (e.symm.trans (exec_hdmCommit hm h))
    refine ⟨?_, ?_⟩
    · rw [State.set_hif]
      exact Map.find?_put_same ..
    · rw [State.get_set_same, hdmBit_width]
      rfl

/-! ### The mailbox and the reset -/

/-- No mailbox command writes to the host: its answer is all that leaves. -/
theorem cxlMailbox_out (op input : Nat) (s : State) : (cxlMailbox op input s).2.2.out = s.out :=
  samePart_of_butPart (p := .out) (cxlMailbox_but (by decide +kernel) op input s)

/-- An opcode outside the table is Unsupported. -/
theorem cxlMailbox_unsupported {op : Nat} (h : op ∉ cxlOpcodes) (input : Nat) (s : State) : cxlMailbox op input s = (3, 0, s) := by
  unfold cxlMailbox
  dsimp only
  split
  case h_13 => rfl
  all_goals exact absurd (by decide) h

theorem cxlMailboxCommand_completes (op input : Nat) (s : State) (hm : s.flag Reg.HIF_CXL_CXL_MODE = true) :
    answers (.cxlMailboxCommand op input) s fun t =>
      t.out = s.out ++ [.hostReply 2 0 (cxlMailbox op input s).1 (cxlMailbox op input s).2.1] ∧
      (op ∉ cxlOpcodes → (cxlMailbox op input s).1 = 3 ∧ t.mem = s.mem) := by
  have e : exec (.cxlMailboxCommand op input) s = execCxlMailboxCommand op input s := rfl
  simp only [execCxlMailboxCommand, hm, Bool.true_eq_false, if_false] at e
  refine ⟨_, e, ?_, fun h => ?_⟩
  · rw [emit_out, cxlMailbox_out]
  · simp [cxlMailbox_unsupported h]

/-- R192: what a CXL reset leaves: no decoder committed, the exported region zeroed. -/
def cxlCleared (s : State) : State :=
  memZero ((s.updHif fun u => { u with hdm := [] }).sets [(Reg.HIF_CXL_HDM0_COMMITTED, 0), (Reg.HIF_CXL_HDM1_COMMITTED, 0)])
    s.cxlBytes.1 s.cxlBytes.2

theorem exec_cxlReset {s : State} (hm : s.flag Reg.HIF_CXL_CXL_MODE = true) : exec .cxlReset s = .next (cxlCleared s) := by
  have e : exec .cxlReset s = execCxlReset s := rfl
  simp only [execCxlReset, hm, Bool.true_eq_false, if_false, State.cxlBytes, State.sets_hif] at e
  exact e

theorem cxlCleared_mem (s : State) : (cxlCleared s).mem = (memZero s s.cxlBytes.1 s.cxlBytes.2).mem := by
  simp [cxlCleared, memZero]

theorem cxlReset_completes (s : State) (hm : s.flag Reg.HIF_CXL_CXL_MODE = true) : answers .cxlReset s fun t =>
      t.hif.hdm = [] ∧ t.get Reg.HIF_CXL_HDM0_COMMITTED = 0 ∧ t.mem = (memZero s s.cxlBytes.1 s.cxlBytes.2).mem := by
  refine ⟨_, exec_cxlReset hm, ?_, ?_, cxlCleared_mem s⟩
  · simp [cxlCleared, memZero]
  · rw [cxlCleared, memZero_get]
    simp (disch := decide) only [State.sets_cons, State.sets_nil, State.get_set_touch_ne, State.get_set_same]
    rfl

/-- Settles O21: each command from its own lemma above. -/
theorem linkSecurityAndCxlCommandsComplete : Obligations.LinkSecurityAndCxlCommandsComplete := by
  unfold Obligations.LinkSecurityAndCxlCommandsComplete
  refine ⟨?_, ?_, ?_, ?_, ?_, ?_, ?_, ?_, ?_⟩
  · rintro ap index pf link f s ⟨hp, he, hu⟩
    exact ideKeyProgram_completes ap index pf link f s hp he hu
  · exact ideCheckFailed_completes
  · rintro ap rid msg s ⟨he, hm⟩
    exact tdispRequest_completes ap rid msg s he hm
  · rintro ap rid s ⟨he, ht⟩
    exact tdiError_completes ap rid s he ht
  · exact atsInvalidation_completes
  · rintro addr dpa data write bad s ⟨hm, hu, hd, hi⟩
    exact cxlMemAccess_completes addr dpa data write bad s ⟨hm, hu, hd, hi⟩
  · intro decoder base size ways gran commit s hm
    obtain ⟨t, e, uncommitted, committed, hmem⟩ := hdmCommit_completes decoder base size ways gran commit s hm
    exact ⟨t, e, uncommitted, fun hc hw hg hs hb hz hr => committed hc ⟨hw, hg, hs, hb, hz, hr⟩, hmem⟩
  · exact cxlMailboxCommand_completes
  · exact cxlReset_completes

end Sys2Proof.Machine
end

section
/-!
CERTIFICATE. The commands that store bytes at an address which their operands or the state give.
-/
namespace Sys2Proof.Machine
set_option Elab.async false

/-! ### Bytes stored -/

theorem memRead_congr {s t : State} (h : t.mem = s.mem) (a : Nat) : memRead t a = memRead s a := by rw [memRead, memRead, h]

/-- Each byte of a string written reads as written. -/
theorem memRead_memWriteList_in (s : State) (a : Nat) (l : List Byte) (k : Nat) (h : k < l.length) : memRead (memWriteList s a l) (a + k) = l[k] := by
  induction l generalizing s a k with
  | nil => exact absurd h (Nat.not_lt_zero k)
  | cons b l ih =>
    rw [memWriteList]
    cases k with
    | zero => exact (memRead_memWriteList_out _ _ _ (.inl (Nat.lt_succ_self a))).trans (memRead_memWrite_same s a b)
    | succ k =>
      rw [show a + (k + 1) = a + 1 + k by omega]
      exact ih _ _ k (by simpa using h)

/-- What a byte string written leaves of memory depends on memory alone. -/
theorem memWriteList_mem_congr {s t : State} (h : t.mem = s.mem) (a : Nat) (l : List Byte) :
    (memWriteList t a l).mem = (memWriteList s a l).mem := by
  induction l generalizing s t a with
  | nil => exact h
  | cons b l ih => exact ih (by unfold memWrite; split <;> simp [h]) (a + 1)

/-- A state whose memory is that of a byte string written has stored it. -/
theorem storesAt_of_mem {s t : State} {a : Nat} {l : List Byte} (h : t.mem = (memWriteList s a l).mem) : storesAt s t a l :=
  ⟨fun c hc => (memRead_congr h c).trans (memRead_memWriteList_out s a l hc),
    fun k hk => (memRead_congr h _).trans (memRead_memWriteList_in s a l k hk)⟩

/-- A range zeroed reads as zero. -/
theorem memRead_memZero_in (s : State) {a n c : Nat} (hlo : a ≤ c) (hhi : c < a + n) : memRead (memZero s a n) c = 0 := by
  have gone : Map.find? (memZero s a n).mem c = none := Map.find?_none_of_notMem fun hc => by
    obtain ⟨p, hp, rfl⟩ := List.mem_map.1 hc
    obtain ⟨-, kept⟩ := List.mem_filter.1 hp
    simp only [Bool.or_eq_true, decide_eq_true_eq] at kept
    omega
  rw [memRead, gone]
  rfl

/-- A range zeroed leaves every byte outside it alone. -/
theorem memRead_memZero_out (s : State) {a n c : Nat} (h : c < a ∨ a + n ≤ c) : memRead (memZero s a n) c = memRead s c :=
  congrArg (·.getD 0) (Map.find?_filter s.mem c (fun p => decide (p < a) || decide (a + n ≤ p)) (by simpa using h))

/-- A state whose memory is that of a range zeroed has stored zeros there. -/
theorem storesAt_of_memZero {s t : State} {a n : Nat} (h : t.mem = (memZero s a n).mem) : storesAt s t a (List.replicate n 0) := by
  refine ⟨fun c hc => (memRead_congr h c).trans (memRead_memZero_out s ?_), fun k hk => (memRead_congr h _).trans ?_⟩
  · rwa [List.length_replicate] at hc
  · rw [List.length_replicate] at hk
    rw [List.getElem_replicate]
    exact memRead_memZero_in s (Nat.le_add_right a k) (by omega)

/-! ### CXL -/

theorem cxlMemAccess_stores {s : State} {addr dpa : Nat} (h : CxlMaps s addr dpa) (data : List Byte) (bad : Bool) :
    answers (.cxlMemAccess addr data true bad) s fun t => storesAt s t (s.cxlBytes.1 + dpa) data :=
  ⟨_, exec_cxlMemAccess h data true bad, storesAt_of_mem rfl⟩

theorem cxlReset_stores {s : State} (h : s.flag Reg.HIF_CXL_CXL_MODE = true) :
    answers .cxlReset s fun t => storesAt s t s.cxlBytes.1 (List.replicate s.cxlBytes.2 0) :=
  ⟨_, exec_cxlReset h, storesAt_of_memZero (cxlCleared_mem s)⟩

/-! ### Debug accesses -/

theorem debugWriteTile_stores {hart addr : Nat} (value : Nat) {s : State} (ha : addr < 0x140000)
    (hr : s.debugRight (hartTile hart) 2 = true) : answers (.debugAccess hart 2 addr value) s fun t =>
      storesAt s t (tileMemBase (hartTile hart) + addr) [BitVec.ofNat 8 value] :=
  ⟨_, congrArg Host.Outcome.next (if_pos ⟨hr, decide_eq_true ha⟩), storesAt_of_mem rfl⟩

theorem debugWriteStacked_stores {hart addr : Nat} (value : Nat) {s : State} (hr : s.debugRight (hartTile hart) 3 = true)
    (hn : s.debugNiche ≠ 0xFFFF) (hlo : (s.stackedQuota s.debugNiche).1 ≤ addr)
    (hhi : addr < (s.stackedQuota s.debugNiche).1 + (s.stackedQuota s.debugNiche).2) :
    answers (.debugAccess hart 4 addr value) s fun t => storesAt s t addr [BitVec.ofNat 8 value] := by
  refine ⟨_, congrArg Host.Outcome.next (if_pos ?_), storesAt_of_mem rfl⟩
  simp only [Bool.and_eq_true, bne_iff_ne, decide_eq_true_eq]
  exact ⟨⟨⟨hr, hn⟩, hlo⟩, hhi⟩

/-! ### Apertures into the local pool -/

/-- R653: the access that a host write to an aperture makes. -/
def aptWrite (who : Issuer) (off size : Nat) (d : List Byte) (s : State) : AptOp :=
  ⟨s.fab.nextApt, who.ap % 4, who.id % 65536, off / max 1 size, off % max 1 size, d.length, some d, false, s.stk.phcNs⟩

/-- An access put behind the others of the apertures. -/
def aptQueued (o : AptOp) (s : State) : State := s.updFab fun u => { u with apt := s.fab.apt ++ [o], nextApt := s.fab.nextApt + 1 }

theorem exec_apertureWrite {who : Issuer} {off size : Nat} (len : Nat) {d : List Byte} {i : Import} {s : State}
    (hs : aptSlotSize s (fnKey who.ap who.id) = size) (hz : size ≠ 0) (ho : off / size < 64)
    (hi : aptImport s (aptWrite who off size d s) = some i) (hf : off % size + d.length ≤ i.len) :
    exec (.apertureAccess who off len (some d)) s = .next (aptPump (aptQueued (aptWrite who off size d s) s)) := by
  have e : exec (.apertureAccess who off len (some d)) s = execApertureAccess who off len (some d) s := rfl
  have hm : max 1 size = size := Nat.max_eq_right (Nat.one_le_iff_ne_zero.2 hz)
  subst hs
  refine e.trans (congrArg Host.Outcome.next (if_neg ?_))
  change ¬(_ ∨ 64 ≤ off / max 1 _ ∨ (match aptImport s (aptWrite who off _ d s) with
    | some i => decide (off % max 1 _ + d.length ≤ i.len)
    | none => false) = false)
  rw [hi, hm]
  simp [hz, ho, hf]

/-- The only access of the apertures has its turn. -/
theorem aptPump_single {o : AptOp} {s : State} (ha : s.fab.apt = [o]) (ho : o.sent = false) : aptPump s = aptGo o s := by
  have turn : aptTurn s o = true := by simp [aptTurn, ha]
  simp [aptPump, ha, ho, turn]

/-- R652, R653: a write served here stores its bytes in the pool. -/
theorem aptGo_stores {o : AptOp} {d : List Byte} {i : Import} {x : Window} {s : State} (hd : o.data = some d) (hi : aptImport s o = some i)
    (hst : poolStatus s i.niche i.key (i.base + o.off) o.len rightWrite St.fabImport = St.ok)
    (hh : s.poolHere 3 (i.base + o.off) = true) (hl : localPool s i.key (fabOff (i.base + o.off)) o.len rightWrite = .ok x) :
    (aptGo o s).mem = (memWriteList s (s.fab.pool.1 + fabOff (i.base + o.off)) d).mem := by
  simp [aptGo, hd, hi, hst, hh, hl]

theorem of_toOption_eq_some {ε α : Type} {r : Except ε α} {a : α} (h : r.toOption = some a) : r = .ok a := by
  cases r with
  | error e => cases h
  | ok b => exact congrArg Except.ok (Option.some.inj h)

theorem aptWrite_import (who : Issuer) (off size : Nat) (d : List Byte) (s : State) (hm : max 1 size = size) :
    aptImport s (aptWrite who off size d s) =
      (Map.find? s.fab.apertures (aptKey (fnKey who.ap who.id) (off / size))).bind fun k => Map.find? s.fab.imports k := by
  simp [aptImport, aptWrite, fnKey, hm]

theorem apertureWrite_stores (who : Issuer) (off len : Nat) (d : List Byte) (i : Import) (x : Window) (size : Nat) (s : State)
    (ha : s.fab.apt = []) (hs : aptSlotSize s (fnKey who.ap who.id) = size) (hz : size ≠ 0) (ho : off / size < 64)
    (hi : (Map.find? s.fab.apertures (aptKey (fnKey who.ap who.id) (off / size))).bind (fun k => Map.find? s.fab.imports k) = some i)
    (hf : off % size + d.length ≤ i.len)
    (hst : poolStatus s i.niche i.key (i.base + off % size) d.length rightWrite St.fabImport = St.ok)
    (hh : s.poolHere 3 (i.base + off % size) = true)
    (hl : (localPool s i.key (fabOff (i.base + off % size)) d.length rightWrite).toOption = some x) :
    answers (.apertureAccess who off len (some d)) s fun t => storesAt s t (s.fab.pool.1 + fabOff (i.base + off % size)) d := by
  have hm : max 1 size = size := Nat.max_eq_right (Nat.one_le_iff_ne_zero.2 hz)
  have himp : aptImport s (aptWrite who off size d s) = some i := (aptWrite_import who off size d s hm).trans hi
  refine ⟨_, exec_apertureWrite len hs hz ho himp hf, storesAt_of_mem ?_⟩
  rw [aptPump_single (o := aptWrite who off size d s) (by simp [aptQueued, ha]) rfl]
  have hoff : (aptWrite who off size d s).off = off % size := by rw [aptWrite, hm]
  have stored := aptGo_stores (o := aptWrite who off size d s) (s := aptQueued (aptWrite who off size d s) s) (d := d) (i := i) (x := x)
    rfl himp (by rw [hoff]; exact hst) (by rw [hoff]; exact hh) (by rw [hoff]; exact of_toOption_eq_some hl)
  rw [hoff] at stored
  exact stored.trans (memWriteList_mem_congr (s := s) (t := aptQueued (aptWrite who off size d s) s) rfl ..)

/-! ### NVMe -/

theorem nvCmd_find {s : State} {h slot : Nat} {c : NvCmd} (e : s.nvCmd h = some (slot, c)) : Map.find? s.nvs.cmds slot = some c := by
  unfold State.nvCmd at e
  split at e
  next c' hc =>
    split at e
    next =>
      obtain ⟨rfl, rfl⟩ := Prod.mk.inj (Option.some.inj e)
      exact hc
    next => cases e
  next => cases e

/-- An I/O command that is ready is served as its opcode says. -/
theorem nvOn_ready {s : State} {h o slot : Nat} {c : NvCmd} (hr : ioReady s h o slot c) (act : Nat → NvCmd → Nat → State → State) :
    nvOn h o act s = .next (act slot c (s.nsDesc c.ns) s) := by
  obtain ⟨hc, hrun, hq, ho, hst, hb, -, -⟩ := hr
  simp only [nvOn, hc, hrun, ho, hst, hb, ne_eq, hq, not_false_eq_true, and_self, if_true]

/-- A command whose bytes have all been written ends, and stores no more. -/
theorem nvWrites_done {fuel slot d : Nat} {c : NvCmd} {s : State} (h : Map.find? s.nvs.cmds slot = some c) (ht : c.todo = []) :
    (nvWrites (fuel + 1) slot d s).mem = s.mem := by
  unfold nvWrites
  simp only [h, ht]
  split <;> simp

theorem updCmd_find {slot : Nat} {c : NvCmd} {s : State} (f : NvCmd → NvCmd) (h : Map.find? s.nvs.cmds slot = some c) :
    Map.find? (updCmd slot f s).nvs.cmds slot = some (f c) :=
  (Map.find?_upd_same s.nvs.cmds slot f).trans (congrArg (Option.map f) h)

theorem nsPlace_updCmd (slot : Nat) (f : NvCmd → NvCmd) (s : State) (d off len right : Nat) :
    nsPlace (updCmd slot f s) d off len right = nsPlace s d off len right := rfl

/-- R581: one range of a namespace that stands in device memory is stored where it stands. -/
theorem nvStore_local {slot d off a : Nat} {c : NvCmd} {l : List Byte} {s : State} (h : Map.find? s.nvs.cmds slot = some c)
    (hp : nsPlace s d off l.length rightWrite = .ok (some a)) : (nvStore slot d [(off, l)] s).mem = (memWriteList s a l).mem := by
  have hu := updCmd_find (fun c => { c with todo := [(off, l)] }) h
  have hw := updCmd_find (fun c => { c with todo := [] }) hu
  rw [nvStore, List.length_singleton]
  unfold nvWrites
  simp only [hu, nsPlace_updCmd, hp]
  rw [nvWrites_done (c := { c with todo := [] }) ?_ rfl]
  · exact memWriteList_mem_congr ((updCmd_mem ..).trans (updCmd_mem ..)) a l
  · rw [memWriteList_nvs]
    exact hw

theorem nvmeWrite_stores (h slot a k : Nat) (c : NvCmd) (x : NvCtrl) (l : List (Nat × Nat)) (blocks : List Byte) (s : State)
    (hr : ioReady s h 1 slot c) (hx : s.nvCtrl c.ctrl = some x)
    (hs : hostSpans x.page c.sqe (hostData (Config.extendedLba c.ns) (s.nsDesc c.ns) c.sqe (qNlb c.sqe)) c.data = .ok (l, k))
    (hb : blocksIn (Config.extendedLba c.ns) (s.nsDesc c.ns) c.sqe 0 (qNlb c.sqe)
      ((c.data.drop k).take (hostData (Config.extendedLba c.ns) (s.nsDesc c.ns) c.sqe (qNlb c.sqe)))
      (c.data.drop (k + hostData (Config.extendedLba c.ns) (s.nsDesc c.ns) c.sqe (qNlb c.sqe))) = .ok blocks)
    (hp : nsPlace s (s.nsDesc c.ns) (qSlba c.sqe * nStep (s.nsDesc c.ns)) blocks.length rightWrite = .ok (some a)) :
    answers (.nvmeWrite h) s fun t => storesAt s t a blocks := by
  have e : exec (.nvmeWrite h) s = execNvmeWrite h s := rfl
  rw [execNvmeWrite, nvOn_ready hr] at e
  refine ⟨_, e, storesAt_of_mem ?_⟩
  simp only [hx, hs, hb]
  exact nvStore_local (nvCmd_find hr.1) hp

theorem writeZeroes_stores (h slot a : Nat) (c : NvCmd) (s : State) (hr : ioReady s h 8 slot c)
    (hp : nsPlace s (s.nsDesc c.ns) (qSlba c.sqe * nStep (s.nsDesc c.ns)) (zeroBlocks (s.nsDesc c.ns) (qNlb c.sqe)).length rightWrite =
      .ok (some a)) : answers (.writeZeroes h) s fun t => storesAt s t a (zeroBlocks (s.nsDesc c.ns) (qNlb c.sqe)) := by
  have e : exec (.writeZeroes h) s = execWriteZeroes h s := rfl
  rw [execWriteZeroes, nvOn_ready hr] at e
  exact ⟨_, e, storesAt_of_mem (nvStore_local (nvCmd_find hr.1) hp)⟩

/-- Settles O7: each command from its own lemma above. -/
theorem storingCommandsWriteOnlyTheirBytes : Obligations.StoringCommandsWriteOnlyTheirBytes := by
  unfold Obligations.StoringCommandsWriteOnlyTheirBytes
  refine ⟨?_, ?_, ?_, ?_, ?_, ?_, ?_⟩
  · rintro addr dpa data bad s ⟨hm, hu, hd, hi⟩
    exact cxlMemAccess_stores ⟨hm, hu, hd, hi⟩ data bad
  · exact fun s hm => cxlReset_stores hm
  · rintro hart addr value s ⟨ha, hr⟩
    exact debugWriteTile_stores value ha hr
  · rintro hart addr value s ⟨hr, hn, hlo, hhi⟩
    exact debugWriteStacked_stores value hr hn hlo hhi
  · rintro who off len d i x size s ⟨-, -, ha, hs, hz, ho, hi, hf, hst, hh, hl⟩
    exact apertureWrite_stores who off len d i x size s ha hs hz ho hi hf hst hh hl
  · rintro h slot a k ext c x l blocks s ⟨rfl, hr, hx, hs, hb, hp⟩
    exact nvmeWrite_stores h slot a k c x l blocks s hr hx (of_toOption_eq_some hs) (of_toOption_eq_some hb) (of_toOption_eq_some hp)
  · rintro h slot a c s ⟨hr, hp⟩
    exact writeZeroes_stores h slot a c s hr (of_toOption_eq_some hp)

end Sys2Proof.Machine
end

section
/-!
SUPPORT. Commands that the manager writes into a command register of a block: ended at once with a report, or left running.
-/
namespace Sys2Proof.Machine
set_option Elab.async false

section
variable {b : CmdBlk} {off : Nat} {c : Instr} {p : CmdPend} {act : State → CmdRes} {s : State} {P : State → Prop}

/-- A command of the manager whose action ends at once answers the state that its report leaves. -/
theorem answers_managerDone {st o : Nat} {t : State} (h : managerCmd s b off p.who)
    (he : exec c s = .next (regGate p.who off s (cmdStart b p (p.who.role == .manager) act))) (ha : act s = .done st o t)
    (hP : P (cmdFinish b { p with obj := o } st t)) : answers c s P := by
  obtain ⟨hr, hw, hb, hopen⟩ := h
  refine ⟨_, he, ?_⟩
  rw [regGate_open hw hb, hr, show (Role.manager == Role.manager) = true from rfl, cmdStart_done hopen ha]
  exact hP

/-- A command of the manager whose action goes on leaves its register busy. -/
theorem answers_managerRunning {t : State} (h : managerCmd s b off p.who)
    (he : exec c s = .next (regGate p.who off s (cmdStart b p (p.who.role == .manager) act))) (ha : act s = .running t)
    (hP : P ((t.updCmds fun _ => Map.put t.cmds b.num p).set b.busy 1)) : answers c s P := by
  obtain ⟨hr, hw, hb, hopen⟩ := h
  refine ⟨_, he, ?_⟩
  rw [regGate_open hw hb, hr, show (Role.manager == Role.manager) = true from rfl, cmdStart_running hopen ha]
  exact hP

end

/-- A report shows the object of its command. -/
theorem cmdFinish_obj {b : CmdBlk} (h : b.hasObj = true) (p : CmdPend) (st : Nat) (s : State) :
    (cmdFinish b p st s).get b.obj = p.obj % 2 ^ b.obj.width := by
  unfold cmdFinish cmdReport
  simp only [h, if_true]
  exact State.get_set_same ..

end Sys2Proof.Machine
end

section
/-!
CERTIFICATE. Rings: their creation, their changes of state, by the manager and by a tenant's opcodes.
-/
namespace Sys2Proof.Machine
set_option Elab.async false

/-! ### The rings that the end of work leaves -/

/-- Whether a ring has a poll under way; none for a ring that does not exist. -/
def State.pollings (s : State) (r : Nat) : Option Bool := (Map.find? s.rng.rings r).map (·.polling)

theorem State.ringExists_eq (s : State) (r : Nat) : s.ringExists r = (s.pollings r).isSome := Option.isSome_map.symm

theorem State.pollings_congr {s t : State} (h : t.rng = s.rng) : t.pollings = s.pollings := by
  funext r
  rw [State.pollings, h]
  rfl

theorem updRing_pollings {q : Nat} {f : RingX → RingX} (hf : ∀ x, (f x).polling = x.polling) (s : State) :
    (updRing q f s).pollings = s.pollings := by
  funext r
  unfold State.pollings updRing
  rw [State.updRng_rng]
  by_cases h : r = q
  · subst h
    rw [Map.find?_upd_same]
    cases Map.find? s.rng.rings r <;> simp [hf]
  · rw [Map.find?_upd_ne _ _ h]

theorem cqWrite_pollings (cq w : Nat) (s : State) : (cqWrite cq w s).pollings = s.pollings := by
  unfold cqWrite
  dsimp only
  rw [State.pollings_congr (rng_of_butPart (cqNotice_but (by decide +kernel) ..))]
  refine (updRing_pollings (by exact fun _ => rfl) _).trans (State.pollings_congr ?_)
  rw [State.setI_rng, rng_of_butPart (hostPut_but (by decide +kernel) ..)]

theorem cqCommit_pollings (cq w : Nat) (s : State) : (cqCommit cq w s).pollings = s.pollings := by
  unfold cqCommit
  dsimp only
  rw [State.pollings_congr (rng_of_butPart (ringCounts_but (by decide +kernel) ..))]
  split
  · exact (cqWrite_pollings ..).trans (updRing_pollings (by exact fun _ => rfl) _)
  · exact (updRing_pollings (by exact fun _ => rfl) _).trans (updRing_pollings (by exact fun _ => rfl) _)

theorem commitOne_pollings (f : Flight) (c : Cpl) (s : State) : (commitOne f c s).pollings = s.pollings := by
  unfold commitOne
  dsimp only
  split
  · rw [State.pollings_congr (rng_of_butPart (replyPut_but (by decide +kernel) ..))]
    rfl
  · rw [State.pollings_congr (rng_of_butPart (ringIdleFlag_but (by decide +kernel) ..)),
      State.pollings_congr (rng_of_butPart (ringCounts_but (by decide +kernel) ..)), cqCommit_pollings]
    rfl

theorem commitRing_pollings (fuel r : Nat) (s : State) : (commitRing fuel r s).pollings = s.pollings := by
  induction fuel generalizing s with
  | zero => rfl
  | succ n ih =>
    rw [commitRing]
    split
    · exact (ih _).trans (commitOne_pollings ..)
    · rfl

theorem finishAs_pollings (seq : Nat) (c : Cpl) (s : State) : (finishAs seq c s).pollings = s.pollings := by
  unfold finishAs
  split
  · split
    · rfl
    · exact commitRing_pollings ..
  · rfl

theorem finish_pollings (seq st result : Nat) (s : State) : (finish seq st result s).pollings = s.pollings := finishAs_pollings ..

theorem finish_ringExists (seq st result : Nat) (s : State) (r : Nat) : (finish seq st result s).ringExists r = s.ringExists r := by
  rw [State.ringExists_eq, State.ringExists_eq, finish_pollings]

/-! ### Creating a ring -/

/-- R255: a creation that is not refused puts the ring it reports. -/
def createdRing (n d : Nat) (s : State) (x : Nat × Nat × Nat × State) : Prop :=
  x.1 = St.ok → ∃ base, x.2.2.2 = putRing x.2.1 n base d s

theorem createdRing_ite {p : Prop} [Decidable p] {n d : Nat} {s : State} {st : Nat} {x : Nat × Nat × Nat × State} (hst : st ≠ St.ok)
    (h : createdRing n d s x) : createdRing n d s (if p then (st, 0, 0, s) else x) := by
  by_cases hp : p
  · rw [if_pos hp]
    exact fun e => absurd e hst
  · rwa [if_neg hp]

theorem createRing_created (n d : Nat) (tenant : Bool) (s : State) : createdRing n d s (createRing n d tenant s) := by
  unfold createRing
  iterate 10 refine createdRing_ite (by decide) ?_
  split
  · exact fun _ => ⟨_, rfl⟩
  · exact fun h => absurd (show St.noResource = St.ok from h) (by decide)

theorem putRing_exists (r n base d : Nat) (s : State) : (putRing r n base d s).ringExists r = true := by
  unfold State.ringExists putRing quotaTake
  rw [State.setsI_rng, State.setI_rng, State.updRng_rng, Map.find?_put_same]
  rfl

theorem putRing_state (r n base d : Nat) (s : State) : (putRing r n base d s).getI Reg.RNG_INFO_STATE r = 1 := by
  simp (disch := decide) only [putRing, State.setsI_cons, State.setsI_nil, State.getI_setI_touch_ne, State.getI_setI_same]
  rfl

theorem putRing_type (r n base d : Nat) (s : State) : (putRing r n base d s).getI Reg.RNG_INFO_TYPE r = rdType d % 4 := by
  simp (disch := decide) only [putRing, State.setsI_cons, State.setsI_nil, State.getI_setI_touch_ne, State.getI_setI_same]
  rfl

theorem rdNiche_lt (d : Nat) : rdNiche d < 2 ^ 12 := by
  unfold rdNiche
  exact Nat.mod_lt _ (by decide)

theorem putRing_niche (r base d : Nat) (s : State) : (putRing r (rdNiche d) base d s).getI Reg.RNG_INFO_NICHE r = rdNiche d := by
  simp (disch := decide) only [putRing, State.setsI_cons, State.setsI_nil, State.getI_setI_touch_ne, State.getI_setI_same]
  exact Nat.mod_eq_of_lt (rdNiche_lt d)

theorem putRing_flight (r n base d : Nat) (s : State) (seq : Nat) : (putRing r n base d s).flight seq = s.flight seq := by
  unfold State.flight putRing quotaTake
  rw [State.setsI_rng, State.setI_rng]
  rfl

/-! ### Freeing a ring -/

theorem freeRing_exists (r : Nat) (s : State) : (freeRing r s).ringExists r = false := by
  unfold State.ringExists freeRing
  dsimp only
  rw [State.setsI_rng, State.updRng_rng]
  exact congrArg Option.isSome (Map.find?_del_same ..)

theorem freeRing_state (r : Nat) (s : State) : (freeRing r s).getI Reg.RNG_INFO_STATE r = 0 := by
  simp (disch := decide) only [freeRing, State.setsI_cons, State.setsI_nil, State.getI_setI_touch_ne, State.getI_setI_same]
  rfl

theorem freeRing_flight (r : Nat) (s : State) (seq : Nat) : (freeRing r s).flight seq = s.flight seq := by
  unfold State.flight freeRing quotaGive
  dsimp only
  rw [State.setsI_rng, State.updRng_rng, State.setI_rng]
  rfl

/-! ### The manager's commands -/

/-- A report of a ring command leaves the registers of rings alone. -/
theorem cmdFinish_rng_getI {f : Field} (h : cmdFinish.within Blk.rng (butField f) = true) (p : CmdPend) (st : Nat) (s : State) (i : Nat) :
    (cmdFinish Blk.rng p st s).getI f i = s.getI f i := getI_of_butField (cmdFinish_but _ h ..) i

theorem cmdFinish_rng_exists (p : CmdPend) (st : Nat) (s : State) (r : Nat) : (cmdFinish Blk.rng p st s).ringExists r = s.ringExists r := by
  rw [State.ringExists, cmdFinish_rng]
  rfl

theorem cmdFinish_rng_ok (p : CmdPend) (s : State) : (cmdFinish Blk.rng p St.ok s).get Reg.RNG_CMD_STATUS_STATUS = St.ok :=
  cmdReport_status Blk.rng (by decide) ..

/-- The command that the ring command register holds while it goes on. -/
def rngPend (op : Nat) (who : Issuer) (niche ring : Nat) (desc : Option (Nat × Nat)) (s : State) : CmdPend :=
  ⟨op, who, niche, ring, s.get Reg.RNG_CMD_ARG_RESTART * 2 ^ 63 + s.get Reg.RNG_CMD_ARG_RING,
    if desc.isSome then 0 else s.get Reg.RNG_CMD_ADDR_ADDR, 0, desc⟩

section
variable {c : Instr} {who : Issuer} {op niche ring : Nat} {desc : Option (Nat × Nat)} {act : State → CmdRes} {s : State}

/-- A ring command of the manager whose action ends at once answers the state that its report leaves. -/
theorem answers_rngDone {st o : Nat} {t : State} {P : State → Prop} (h : managerCmd s Blk.rng 0x500000 who)
    (he : exec c s = rngCmd op who niche ring desc act s) (ha : act s = .done st o t)
    (hP : ∀ p : CmdPend, P (cmdFinish Blk.rng p st t)) : answers c s P := by
  have e : rngCmd op who niche ring desc act s =
      .next (regGate who 0x500000 s (cmdStart Blk.rng (rngPend op who niche ring desc s) (who.role == .manager) act)) := rfl
  exact answers_managerDone (p := rngPend op who niche ring desc s) h (he.trans e) ha (hP _)

/-- A ring command whose action defers a change, and changes nothing else, reports ST_OK. -/
theorem rngCmd_defers {d : Change} {o : Nat} (h : managerCmd s Blk.rng 0x500000 who) (he : exec c s = rngCmd op who niche ring desc act s)
    (ha : act s = .done St.ok o (s.defer d)) : answers c s fun t =>
      t.deferred = s.deferred ++ [(s.dueBoundary, d)] ∧ t.get Reg.RNG_CMD_STATUS_STATUS = St.ok ∧ t.mem = s.mem :=
  answers_rngDone h he ha fun _ =>
    ⟨(cmdFinish_deferred ..).trans (defer_deferred rfl rfl _), cmdFinish_rng_ok .., (cmdFinish_mem ..).trans rfl⟩

end

theorem rngCreate_completes (who : Issuer) (desc r : Nat) (s : State) (h : managerCmd s Blk.rng 0x500000 who)
    (hok : (createRing (rdNiche desc) desc false s).1 = St.ok) (hr : (createRing (rdNiche desc) desc false s).2.1 = r) :
    answers (.rngCreate who desc) s fun t => t.ringExists r = true ∧ t.getI Reg.RNG_INFO_STATE r = 1 ∧
      t.getI Reg.RNG_INFO_TYPE r = rdType desc % 4 ∧ t.getI Reg.RNG_INFO_NICHE r = rdNiche desc ∧
      t.get Reg.RNG_CMD_STATUS_STATUS = St.ok ∧ t.mem = s.mem := by
  have e : exec (.rngCreate who desc) s = execRngCreate who desc s := rfl
  have hm : (createRing (rdNiche desc) desc false s).2.2.2.mem = s.mem := mem_of_but (createRing_but (E := butPart .mem) (by decide +kernel) ..)
  obtain ⟨base, hc⟩ := createRing_created (rdNiche desc) desc false s hok
  rw [hr] at hc
  rw [hc] at hm
  refine answers_rngDone (st := St.ok) (o := r) (t := putRing r (rdNiche desc) base desc s) h e ?_ fun p =>
    ⟨?_, ?_, ?_, ?_, cmdFinish_rng_ok .., (cmdFinish_mem ..).trans hm⟩
  · exact congr (congr (congrArg CmdRes.done hok) hr) hc
  · rw [cmdFinish_rng_exists, putRing_exists]
  · rw [cmdFinish_rng_getI (by decide +kernel), putRing_state]
  · rw [cmdFinish_rng_getI (by decide +kernel), putRing_type]
  · rw [cmdFinish_rng_getI (by decide +kernel), putRing_niche]

theorem rngEnable_completes (who : Issuer) (s : State) (h : managerCmd s Blk.rng 0x500000 who)
    (hs : enableStatus s (s.get Reg.RNG_CMD_ARG_RING) = St.ok) : answers (.rngEnable who) s fun t =>
      t.deferred = s.deferred ++ [(s.dueBoundary, .ringEnable (s.get Reg.RNG_CMD_ARG_RING) (s.flag Reg.RNG_CMD_ARG_RESTART))] ∧
      t.get Reg.RNG_CMD_STATUS_STATUS = St.ok ∧ t.mem = s.mem := by
  have e : exec (.rngEnable who) s = execRngEnable who s := rfl
  exact rngCmd_defers h e (congrArg₂ (CmdRes.done · _ ·) hs (if_pos hs))

theorem rngDisable_completes (who : Issuer) (s : State) (h : managerCmd s Blk.rng 0x500000 who)
    (hs : disableStatus s (s.get Reg.RNG_CMD_ARG_RING) = St.ok) : answers (.rngDisable who) s fun t =>
      t.deferred = s.deferred ++ [(s.dueBoundary, .ringDisable (s.get Reg.RNG_CMD_ARG_RING))] ∧
      t.get Reg.RNG_CMD_STATUS_STATUS = St.ok ∧ t.mem = s.mem := by
  have e : exec (.rngDisable who) s = execRngDisable who s := rfl
  exact rngCmd_defers h e (congrArg₂ (CmdRes.done · _ ·) hs (if_pos hs))

theorem rngDestroy_completes (who : Issuer) (s : State) (h : managerCmd s Blk.rng 0x500000 who)
    (hs : destroyStatus s (s.get Reg.RNG_CMD_ARG_RING) = St.ok) : answers (.rngDestroy who) s fun t =>
      t.ringExists (s.get Reg.RNG_CMD_ARG_RING) = false ∧ t.getI Reg.RNG_INFO_STATE (s.get Reg.RNG_CMD_ARG_RING) = 0 ∧
      t.get Reg.RNG_CMD_STATUS_STATUS = St.ok ∧ t.mem = s.mem := by
  have e : exec (.rngDestroy who) s = execRngDestroy who s := rfl
  have hm : (freeRing (s.get Reg.RNG_CMD_ARG_RING) s).mem = s.mem := mem_of_but (freeRing_but (E := butPart .mem) (by decide +kernel) ..)
  refine answers_rngDone (t := freeRing (s.get Reg.RNG_CMD_ARG_RING) s) h e
    (congrArg₂ (CmdRes.done · _ ·) hs (if_pos hs)) fun p => ⟨?_, ?_, cmdFinish_rng_ok .., (cmdFinish_mem ..).trans hm⟩
  · rw [cmdFinish_rng_exists, freeRing_exists]
  · rw [cmdFinish_rng_getI (by decide +kernel), freeRing_state]

/-! ### A tenant's opcodes -/

/-- What work that changes state leaves when it ends with ST_OK. -/
def workDone (blk : Nat) (f : Flight) (result : Nat) (t : State) : State := finish f.seq St.ok result (jWork blk f result t)

/-- Tenant work whose action ends with ST_OK, and keeps the flights, answers the state that its completion leaves. -/
theorem answers_stateWork {c : Instr} {w : Work} {o blk : Nat} {f : Flight} {act : Flight → State → Nat × Nat × State} {s t : State}
    {result : Nat} {P : State → Prop} (h : takes s w o f) (hr : s.flag Reg.JNL_STATUS_REGION_READY = true)
    (he : exec c s = startWork w o (fun f => stateWork blk f (act f)) s) (ha : act f (starting s f) = (St.ok, result, t))
    (ht : t.flight f.seq = (starting s f).flight f.seq)
    (hP : finishedWith (workDone blk f result t) f.seq St.ok → P (workDone blk f result t)) : answers c s P := by
  have hready : ¬ (starting s f).flag Reg.JNL_STATUS_REGION_READY = false := by
    rw [show (starting s f).flag Reg.JNL_STATUS_REGION_READY = s.flag Reg.JNL_STATUS_REGION_READY from rfl, hr]
    decide
  obtain ⟨hf, hd⟩ := starting_flight h
  have hj : (jWork blk f result t).flight f.seq = some { f with started := true } := by
    rw [State.flight, rng_of_butPart (jWork_but (by decide +kernel) ..)]
    exact ht.trans hf
  have hfin : finishedWith (workDone blk f result t) f.seq St.ok := by
    rw [workDone]
    exact finish_finished hj hd St.ok result
  refine answers_startWork h he ?_ (hP hfin)
  rw [stateWork, if_neg hready, ha, workDone]
  dsimp only
  rw [if_pos rfl]

theorem workDone_mem (blk : Nat) (f : Flight) (result : Nat) (t : State) : (workDone blk f result t).mem = t.mem :=
  (finish_mem ..).trans (jWork_mem ..)

theorem workDone_ringExists (blk : Nat) (f : Flight) (result : Nat) (t : State) (r : Nat) :
    (workDone blk f result t).ringExists r = t.ringExists r := by
  rw [workDone, finish_ringExists, State.ringExists, rng_of_butPart (jWork_but (by decide +kernel) ..)]
  rfl

theorem workDone_deferred (blk : Nat) (f : Flight) (result : Nat) (t : State) : (workDone blk f result t).deferred = t.deferred :=
  (show _ = _ from samePart_of_butPart (p := .deferred) (finish_but (by decide +kernel) ..)).trans
    (samePart_of_butPart (p := .deferred) (jWork_but (by decide +kernel) ..))

theorem workDone_getI {g : Field} (h : (finish.within (butField g) && jWork.within (butField g)) = true) (blk : Nat) (f : Flight)
    (result : Nat) (t : State) (i : Nat) : (workDone blk f result t).getI g i = t.getI g i := by
  obtain ⟨hf, hj⟩ := Bool.and_eq_true_iff.1 h
  exact (getI_of_butField (finish_but hf ..) i).trans (getI_of_butField (jWork_but hj ..) i)

theorem ringCreate_completes (w : Work) (desc r : Nat) (f : Flight) (s : State) (h : takes s w 4 f)
    (hready : s.flag Reg.JNL_STATUS_REGION_READY = true) (hok : (createRing f.niche desc true (starting s f)).1 = St.ok)
    (hr : (createRing f.niche desc true (starting s f)).2.1 = r) : answers (.ringCreate w desc) s fun t =>
      t.ringExists r = true ∧ t.getI Reg.RNG_INFO_STATE r = 1 ∧ finishedWith t f.seq St.ok ∧ t.mem = s.mem := by
  have e : exec (.ringCreate w desc) s = execRingCreate w desc s := rfl
  have hm : (createRing f.niche desc true (starting s f)).2.2.2.mem = s.mem :=
    mem_of_but (createRing_but (E := butPart .mem) (by decide +kernel) ..)
  obtain ⟨base, hc⟩ := createRing_created f.niche desc true (starting s f) hok
  rw [hr] at hc
  rw [hc] at hm
  refine answers_stateWork (blk := 5) (t := putRing r f.niche base desc (starting s f))
    (result := r + (createRing f.niche desc true (starting s f)).2.2.1 * 2 ^ 32) h hready e ?_ (putRing_flight ..)
    fun hf => ⟨?_, ?_, hf, (workDone_mem ..).trans hm⟩
  · simp only [hok, hr, hc, if_true]
  · rw [workDone_ringExists, putRing_exists]
  · rw [workDone_getI (by decide +kernel), putRing_state]

section
variable {f : Flight} {s : State} {r : Nat}

/-- A ring opcode acts on its own ring whose status allows it. -/
theorem ownRing_ok {st : State → Nat → Nat} {act : Nat → State → State} (hn : byteField f.entry 4 7 % 2 ^ 17 = r)
    (hx : s.ringExists r = true) (ho : s.getI Reg.RNG_INFO_NICHE r = f.niche) (hs : st s r = St.ok) :
    ownRing f s st act = (St.ok, 0, act r s) := by
  subst hn
  unfold ownRing
  simp only [hx, ho, hs, Bool.true_eq_false, ne_eq, not_true, or_self, if_false, if_true]

end

theorem ringEnable_completes (w : Work) (r : Nat) (f : Flight) (s : State) (h : takes s w 5 f)
    (hready : s.flag Reg.JNL_STATUS_REGION_READY = true) (hn : byteField f.entry 4 7 % 2 ^ 17 = r) (hx : s.ringExists r = true)
    (ho : s.getI Reg.RNG_INFO_NICHE r = f.niche) (hs : enableStatus s r = St.ok) : answers (.ringEnable w) s fun t =>
      t.deferred = s.deferred ++ [(s.dueBoundary, .ringEnable r (bit (byteField f.entry 8 8) 0 == 1))] ∧
      finishedWith t f.seq St.ok ∧ t.mem = s.mem := by
  have e : exec (.ringEnable w) s = execRingEnable w s := rfl
  exact answers_stateWork h hready e (ownRing_ok (s := starting s f) hn hx ho hs) rfl
    fun hf => ⟨(workDone_deferred ..).trans (defer_deferred rfl rfl _), hf, workDone_mem ..⟩

theorem ringDisable_completes (w : Work) (r : Nat) (f : Flight) (s : State) (h : takes s w 6 f)
    (hready : s.flag Reg.JNL_STATUS_REGION_READY = true) (hn : byteField f.entry 4 7 % 2 ^ 17 = r) (hx : s.ringExists r = true)
    (ho : s.getI Reg.RNG_INFO_NICHE r = f.niche) (hs : disableStatus s r = St.ok) : answers (.ringDisable w) s fun t =>
      t.deferred = s.deferred ++ [(s.dueBoundary, .ringDisable r)] ∧ finishedWith t f.seq St.ok ∧ t.mem = s.mem := by
  have e : exec (.ringDisable w) s = execRingDisable w s := rfl
  exact answers_stateWork h hready e (ownRing_ok (s := starting s f) hn hx ho hs) rfl
    fun hf => ⟨(workDone_deferred ..).trans (defer_deferred rfl rfl _), hf, workDone_mem ..⟩

theorem ringDestroy_completes (w : Work) (r : Nat) (f : Flight) (s : State) (h : takes s w 7 f)
    (hready : s.flag Reg.JNL_STATUS_REGION_READY = true) (hn : byteField f.entry 4 7 % 2 ^ 17 = r) (hx : s.ringExists r = true)
    (ho : s.getI Reg.RNG_INFO_NICHE r = f.niche) (hs : destroyStatus s r = St.ok) : answers (.ringDestroy w) s fun t =>
      t.ringExists r = false ∧ finishedWith t f.seq St.ok ∧ t.mem = s.mem := by
  have e : exec (.ringDestroy w) s = execRingDestroy w s := rfl
  have hm : (freeRing r (starting s f)).mem = s.mem := mem_of_but (freeRing_but (E := butPart .mem) (by decide +kernel) ..)
  exact answers_stateWork h hready e (ownRing_ok (s := starting s f) hn hx ho hs) (freeRing_flight ..)
    fun hf => ⟨(workDone_ringExists ..).trans (freeRing_exists ..), hf, (workDone_mem ..).trans hm⟩

theorem ringIdle_completes (ring : Nat) (s : State) (hx : s.ringExists ring = true) (ht : s.getI Reg.RNG_INFO_TYPE ring = 0)
    (hs : s.getI Reg.RNG_INFO_STATE ring = 1) (hi : s.flagI Reg.RNG_INFO_IDLE ring = false) (hf : s.ringFlights ring = []) :
    answers (.ringIdle ring) s fun t => t.getI Reg.RNG_INFO_IDLE ring = 1 ∧
      t.events = (raiseTo (.ring ring) Ev.ringIdle ring ring s).events ∧ t.mem = s.mem := by
  refine ⟨_, congrArg Host.Outcome.next (if_pos ⟨hx, ht, hs, hi, hf⟩), ?_, rfl, rfl⟩
  exact (State.getI_setI_same ..).trans rfl

/-- Settles O24: the manager's commands report as their actions end, the opcodes finish as theirs do, and neither touches a ring
  that the action put, freed or left. -/
theorem ringCommandsComplete : Obligations.RingCommandsComplete := by
  unfold Obligations.RingCommandsComplete
  refine ⟨?_, ?_, ?_, ?_, ?_, ?_, ?_, ?_, ?_⟩
  · rintro who desc r s ⟨h, hok, hr⟩
    exact rngCreate_completes who desc r s h hok hr
  · rintro who s ⟨h, hs⟩
    exact rngEnable_completes who s h hs
  · rintro who s ⟨h, hs⟩
    exact rngDisable_completes who s h hs
  · rintro who s ⟨h, hs⟩
    exact rngDestroy_completes who s h hs
  · rintro w desc r f s ⟨h, hready, hok, hr⟩
    exact ringCreate_completes w desc r f s h hready hok hr
  · rintro w r f s ⟨h, hready, hn, hx, ho, hs⟩
    exact ringEnable_completes w r f s h hready hn hx ho hs
  · rintro w r f s ⟨h, hready, hn, hx, ho, hs⟩
    exact ringDisable_completes w r f s h hready hn hx ho hs
  · rintro w r f s ⟨h, hready, hn, hx, ho, hs⟩
    exact ringDestroy_completes w r f s h hready hn hx ho hs
  · rintro ring s ⟨hx, ht, hs, hi, hf⟩
    exact ringIdle_completes ring s hx ht hs hi hf

end Sys2Proof.Machine
end

section
/-!
CERTIFICATE. The life of a niche: created, bound, quiesced, reset and torn down.
-/
namespace Sys2Proof.Machine
set_option Elab.async false

/-! ### The manager's niche commands -/

/-- The command that the niche command register holds while it goes on. -/
def nchPend (op : Nat) (who : Issuer) (n : Nat) (desc : Option (Nat × Nat)) (s : State) : CmdPend :=
  ⟨op, who, n, n, s.get Reg.NCH_CMD_ARG_ARG, if desc.isSome then 0 else s.get Reg.NCH_CMD_ADDR_ADDR, 0, desc⟩

/-- A report of a niche command leaves the registers of niches alone. -/
theorem cmdFinish_nch_getI {f : Field} (h : cmdFinish.within Blk.nch (butField f) = true) (p : CmdPend) (st : Nat) (s : State) (i : Nat) :
    (cmdFinish Blk.nch p st s).getI f i = s.getI f i := getI_of_butField (cmdFinish_but _ h ..) i

theorem cmdFinish_nch_ok (p : CmdPend) (s : State) : (cmdFinish Blk.nch p St.ok s).get Reg.NCH_CMD_STATUS_STATUS = St.ok :=
  cmdReport_status Blk.nch (by decide) ..

section
variable {c : Instr} {who : Issuer} {op n : Nat} {desc : Option (Nat × Nat)} {s t : State} {P : State → Prop}

/-- A niche command other than CREATE acts on the niche of NCH_CMD.NICHE, which takes commands, and reports ST_OK. -/
theorem answers_nchOn {act : Nat → State → Nat × State} (h : nicheCmd s who n) (hop : op ≠ 1) (he : exec c s = nchOn op who desc act s)
    (ha : act n s = (St.ok, t)) (hP : ∀ p : CmdPend, P (cmdFinish Blk.nch p St.ok t)) : answers c s P := by
  obtain ⟨hm, hn, href⟩ := h
  have e : exec c s = .next (regGate who 0x400000 s (cmdStart Blk.nch (nchPend op who n desc s) (who.role == .manager) fun s =>
      match s.nicheRefusal n with
      | some st => .done st n s
      | none => .done (act n s).1 n (act n s).2)) := by
    subst hn
    rw [he, nchOn, nchCmd, if_neg hop]
    rfl
  refine answers_managerDone (p := nchPend op who n desc s) (st := St.ok) (o := n) (t := t) hm e ?_ (hP _)
  simp only [href, ha]

/-- A niche command that goes on leaves its register busy. -/
theorem answers_nchRunning {act : Nat → State → CmdRes} (h : nicheCmd s who n) (hop : op ≠ 1) (he : exec c s = nchCmd op who desc act s)
    (ha : act n s = .running t) (hP : ∀ p : CmdPend, P ((t.updCmds fun _ => Map.put t.cmds 4 p).set Reg.NCH_CMD_BUSY 1)) :
    answers c s P := by
  obtain ⟨hm, hn, -⟩ := h
  have e : exec c s = .next (regGate who 0x400000 s (cmdStart Blk.nch (nchPend op who n desc s) (who.role == .manager) (act n))) := by
    subst hn
    rw [he, nchCmd, if_neg hop]
    rfl
  exact answers_managerRunning (p := nchPend op who n desc s) hm e ha (hP _)

end

/-! ### The operations on a niche -/

theorem setNicheState_state (n st : Nat) (s : State) : (setNicheState n st s).getI Reg.NCH_INFO_STATE n = st % 2 ^ 4 :=
  (State.getI_setI_touch_ne _ _ _ _ (by decide)).trans (State.getI_setI_same ..)

theorem beginReset_state (n : Nat) (cause : ResetCause) (s : State) :
    (beginReset n cause s).getI Reg.NCH_INFO_STATE n = if cause = .destroy then 5 else 4 := by
  refine (setNicheState_state ..).trans ?_
  split <;> rfl

theorem setNicheState_deferred (n st : Nat) (s : State) : (setNicheState n st s).deferred = s.deferred :=
  (State.setI_deferred ..).trans (State.setI_deferred ..)

theorem setNicheState_stk (n st : Nat) (s : State) : (setNicheState n st s).stk = s.stk := (State.setI_stk ..).trans (State.setI_stk ..)

theorem beginReset_deferred {n : Nat} {cause : ResetCause} {s u : State} (hd : u.deferred = s.deferred) (hk : u.stk = s.stk) :
    (beginReset n cause u).deferred = s.deferred ++ [(s.dueBoundary, .nicheReset n)] :=
  defer_deferred (by exact (setNicheState_deferred ..).trans hd) (by exact (setNicheState_stk ..).trans hk) _

theorem fnNiches_getI {f : Field} (h : Reg.HIF_FN_INFO_NICHES.touch ≠ f.touch) (fn : Nat) (s : State) (i : Nat) :
    (fnNiches fn s).getI f i = s.getI f i := State.getI_setI_touch_ne _ _ _ _ h

theorem unbindNiche_bound (n : Nat) (s : State) : (unbindNiche n s).getI Reg.NCH_INFO_BOUND n = 0 := by
  unfold unbindNiche
  dsimp only
  rw [fnNiches_getI (by decide)]
  simp (disch := decide) only [State.setsI_cons, State.setsI_nil, State.getI_setI_touch_ne, State.getI_setI_same]
  rfl

/-! ### CREATE -/

/-- What CREATE makes of a niche before its state changes at the boundary. -/
def nicheCreated (desc n b : Nat) (s : State) : State :=
  let s := drawQuotas (byteField desc 0 0) n desc s
  let s := s.updNch fun u => { u with niches := Map.put s.nch.niches n (NicheX.fresh (bit (byteField desc 1 1) 0 == 1)) }
  s.setsI n [(Reg.NCH_INFO_POOL, byteField desc 0 0),
    (Reg.NCH_STACKED_BASE_MIB, if ndQuota desc 12 = 0 then 0 else s.nch.region.1 + b),
    (Reg.NCH_STACKED_LEN_MIB, ndQuota desc 12), (Reg.NCH_PG_STATUS_RESET_COUNT, 0)]

theorem nicheCreated_find (desc n b : Nat) (s : State) : (Map.find? (nicheCreated desc n b s).nch.niches n).isSome = true := by
  unfold nicheCreated
  dsimp only
  rw [State.setsI_nch, State.updNch_nch, Map.find?_put_same]
  rfl

theorem nicheCreated_deferred (desc n b : Nat) (s : State) : (nicheCreated desc n b s).deferred = s.deferred := by
  unfold nicheCreated
  dsimp only
  rw [State.setsI_deferred, State.updNch_deferred]
  exact samePart_of_butPart (p := .deferred) (drawQuotas_but (by decide +kernel) ..)

theorem nicheCreated_stk (desc n b : Nat) (s : State) : (nicheCreated desc n b s).stk = s.stk := by
  unfold nicheCreated
  dsimp only
  rw [State.setsI_stk, State.updNch_stk]
  exact samePart_of_butPart (p := .stk) (drawQuotas_but (by decide +kernel) ..)

theorem nicheCreated_mem (desc n b : Nat) (s : State) : (nicheCreated desc n b s).mem = s.mem := by
  unfold nicheCreated
  dsimp only
  rw [State.setsI_mem, State.updNch_mem]
  exact mem_of_but (drawQuotas_but (by decide +kernel) ..)

theorem create_completes (who : Issuer) (desc n : Nat) (s : State) (h : managerCmd s Blk.nch 0x400000 who) (hv : ndValid desc = true)
    (hp : s.poolHas desc = true) (hn : n < 4096) (hid : byteField desc 2 3 = n ∧ Map.find? s.nch.niches n = none ∨
      byteField desc 2 3 = 0xFFFF ∧ lowestFree 4096 1 (s.nch.niches.map (·.1)) = some n)
    (hb : ndQuota desc 12 = 0 ∨ (lowestFit s.stackedUsed 1 (ndQuota desc 12) s.nch.region.2).isSome = true) :
    answers (.create who desc) s fun t => (Map.find? t.nch.niches n).isSome = true ∧
      t.deferred = s.deferred ++ [(s.dueBoundary, .nicheActive n)] ∧ t.get Reg.NCH_CMD_STATUS_NICHE = n ∧
      t.get Reg.NCH_CMD_STATUS_STATUS = St.ok ∧ t.mem = s.mem := by
  have e : exec (.create who desc) s = execCreate who desc s := rfl
  have hasked : ¬ (byteField desc 2 3 ≠ 0xFFFF ∧ (Map.find? s.nch.niches (byteField desc 2 3)).isSome = true) := by
    obtain ⟨rfl, hfree⟩ | ⟨hany, -⟩ := hid
    · simp [hfree]
    · exact fun hx => hx.1 hany
  have hpick : (if byteField desc 2 3 = 0xFFFF then lowestFree 4096 1 (s.nch.niches.map (·.1)) else some (byteField desc 2 3)) = some n := by
    obtain ⟨hasks, -⟩ | ⟨hany, hlow⟩ := hid
    · rw [hasks, if_neg (by omega)]
    · rw [if_pos hany, hlow]
  obtain ⟨b, hbase⟩ : ∃ b, (if ndQuota desc 12 = 0 then some 0 else lowestFit s.stackedUsed 1 (ndQuota desc 12) s.nch.region.2) = some b := by
    obtain hz | hfit := hb
    · exact ⟨0, if_pos hz⟩
    · split
      · exact ⟨0, rfl⟩
      · exact Option.isSome_iff_exists.1 hfit
  unfold execCreate nchCmd at e
  refine answers_managerDone (p := nchPend 1 who 0 (some (64, desc)) s) (st := St.ok) (o := n)
    (t := (nicheCreated desc n b s).defer (.nicheActive n)) h e ?_ ⟨?_, ?_, ?_, cmdFinish_nch_ok .., ?_⟩
  · simp only [hv, hp, hpick, hbase, if_neg hasked, Bool.true_eq_false, if_false, if_neg (Nat.not_le.2 hn)]
    rfl
  · rw [cmdFinish_nch]
    exact nicheCreated_find ..
  · rw [cmdFinish_deferred]
    exact defer_deferred (nicheCreated_deferred ..) (nicheCreated_stk ..) _
  · exact (cmdFinish_obj rfl ..).trans (Nat.mod_eq_of_lt hn)
  · rw [cmdFinish_mem]
    exact nicheCreated_mem ..

/-! ### BIND and UNBIND -/

/-- R215: a niche bound to a function, with its page and its PASID. -/
def nicheBound (n arg page : Nat) (s : State) : State :=
  fnNiches (fnKey (bits arg 17 16) (bits arg 15 0)) (s.setsI n [(Reg.NCH_INFO_BOUND, 1), (Reg.NCH_INFO_PASID_VALID, bit arg 63),
    (Reg.NCH_INFO_PASID, if bit arg 63 = 1 then bits arg 51 32 else 0), (Reg.NCH_INFO_AP, bits arg 17 16),
    (Reg.NCH_INFO_RID, bits arg 15 0), (Reg.NCH_INFO_PAGE, page)])

theorem nicheBound_info (n arg page : Nat) (s : State) : (nicheBound n arg page s).getI Reg.NCH_INFO_BOUND n = 1 ∧
    (nicheBound n arg page s).getI Reg.NCH_INFO_AP n = bits arg 17 16 ∧ (nicheBound n arg page s).getI Reg.NCH_INFO_RID n = bits arg 15 0 ∧
    (nicheBound n arg page s).getI Reg.NCH_INFO_PAGE n = page % 2 ^ 12 := by
  unfold nicheBound
  simp (disch := decide) only [fnNiches_getI, State.setsI_cons, State.setsI_nil, State.getI_setI_touch_ne, State.getI_setI_same]
  exact ⟨rfl, Nat.mod_mod .., Nat.mod_mod .., rfl⟩

theorem nicheBound_mem (n arg page : Nat) (s : State) : (nicheBound n arg page s).mem = s.mem := by
  unfold nicheBound fnNiches
  rw [State.setI_mem, State.setsI_mem]

theorem bind_completes (who : Issuer) (n arg page : Nat) (f : Fn) (s : State) (h : nicheCmd s who n)
    (harg : s.get Reg.NCH_CMD_ARG_ARG = arg) (hf : Map.find? s.hif.fns (fnKey (bits arg 17 16) (bits arg 15 0)) = some f)
    (hk : f.kind ≠ 0) (hl : s.tdiLocked n = false)
    (h2 : s.getI Reg.HIF_FN_INFO_TDI_STATE (fnKey (bits arg 17 16) (bits arg 15 0)) ≠ 2)
    (h3 : s.getI Reg.HIF_FN_INFO_TDI_STATE (fnKey (bits arg 17 16) (bits arg 15 0)) ≠ 3)
    (hx : s.flagI Reg.HIF_FN_INFO_EXISTS (fnKey (bits arg 17 16) (bits arg 15 0)) = true) (hb : s.flagI Reg.NCH_INFO_BOUND n = false)
    (ho : ((s.boundTo (fnKey (bits arg 17 16) (bits arg 15 0))).any fun m => s.getI Reg.NCH_INFO_PASID_VALID m == bit arg 63 &&
      (bit arg 63 == 0 || s.getI Reg.NCH_INFO_PASID m == bits arg 51 32)) = false)
    (hpage : lowestFree (f.pages + 1) 0 ((s.boundTo (fnKey (bits arg 17 16) (bits arg 15 0))).map fun m => s.getI Reg.NCH_INFO_PAGE m) =
      some page) (hlt : page < f.pages) : answers (.bind who) s fun t => t.getI Reg.NCH_INFO_BOUND n = 1 ∧
      t.getI Reg.NCH_INFO_AP n = bits arg 17 16 ∧ t.getI Reg.NCH_INFO_RID n = bits arg 15 0 ∧ t.getI Reg.NCH_INFO_PAGE n = page % 2 ^ 12 ∧
      t.get Reg.NCH_CMD_STATUS_STATUS = St.ok ∧ t.mem = s.mem := by
  have e : exec (.bind who) s = execBind who s := rfl
  unfold execBind at e
  obtain ⟨hbound, hap, hrid, hpg⟩ := nicheBound_info n arg page s
  refine answers_nchOn (t := nicheBound n arg page s) h (by decide) e ?_ fun p =>
    ⟨(cmdFinish_nch_getI (by decide +kernel) ..).trans hbound, (cmdFinish_nch_getI (by decide +kernel) ..).trans hap,
      (cmdFinish_nch_getI (by decide +kernel) ..).trans hrid, (cmdFinish_nch_getI (by decide +kernel) ..).trans hpg,
      cmdFinish_nch_ok .., (cmdFinish_mem ..).trans (nicheBound_mem ..)⟩
  simp only [harg, hf, hk, hl, h2, h3, hx, hb, ho, hpage, Bool.false_eq_true, Bool.true_eq_false, or_self, if_false,
    if_neg (Nat.not_le.2 hlt)]
  rfl

/-! ### Commands that change the niche's state and wait for a boundary -/

section
variable {c : Instr} {who : Issuer} {op n v : Nat} {act : Nat → State → Nat × State} {s t : State} {d : Change}

/-- A niche command whose action shows a state and defers a change reports ST_OK. -/
theorem nchOn_defers (h : nicheCmd s who n) (hop : op ≠ 1) (he : exec c s = nchOn op who none act s) (ha : act n s = (St.ok, t))
    (hv : t.getI Reg.NCH_INFO_STATE n = v) (hd : t.deferred = s.deferred ++ [(s.dueBoundary, d)]) (hm : t.mem = s.mem) :
    answers c s fun t => t.getI Reg.NCH_INFO_STATE n = v ∧ t.deferred = s.deferred ++ [(s.dueBoundary, d)] ∧
      t.get Reg.NCH_CMD_STATUS_STATUS = St.ok ∧ t.mem = s.mem :=
  answers_nchOn h hop he ha fun _ => ⟨(cmdFinish_nch_getI (by decide +kernel) ..).trans hv, (cmdFinish_deferred ..).trans hd,
    cmdFinish_nch_ok .., (cmdFinish_mem ..).trans hm⟩

end

theorem unbind_completes (who : Issuer) (n : Nat) (s : State) (h : nicheCmd s who n) (hl : s.tdiLocked n = false)
    (hs : s.nicheState n = 3) (hb : s.flagI Reg.NCH_INFO_BOUND n = true) : answers (.unbind who) s fun t =>
      t.getI Reg.NCH_INFO_STATE n = 4 ∧ t.deferred = s.deferred ++ [(s.dueBoundary, .nicheReset n)] ∧
      t.get Reg.NCH_CMD_STATUS_STATUS = St.ok ∧ t.mem = s.mem := by
  have e : exec (.unbind who) s = execUnbind who s := rfl
  unfold execUnbind at e
  refine nchOn_defers (t := beginReset n .unbind s) h (by decide) e ?_ (beginReset_state ..) (beginReset_deferred rfl rfl) (beginReset_mem ..)
  simp only [hl, hs, hb, Bool.false_eq_true, Bool.true_eq_false, ne_eq, not_true, or_self, if_false]

theorem quiesce_completes (who : Issuer) (n : Nat) (s : State) (h : nicheCmd s who n) (hs : s.nicheState n = 1) :
    answers (.quiesce who) s fun t => t.getI Reg.NCH_INFO_STATE n = 2 ∧
      t.deferred = s.deferred ++ [(s.dueBoundary, .nicheIntake n false)] ∧ t.get Reg.NCH_CMD_STATUS_STATUS = St.ok ∧ t.mem = s.mem := by
  have e : exec (.quiesce who) s = execQuiesce who s := rfl
  unfold execQuiesce at e
  refine nchOn_defers (t := (setNicheState n 2 s).defer (.nicheIntake n false)) h (by decide) e ?_ (setNicheState_state ..)
    (defer_deferred (setNicheState_deferred ..) (setNicheState_stk ..) _) (setNicheState_mem ..)
  simp only [hs, ne_eq, not_true, if_false]

theorem resume_completes (who : Issuer) (n : Nat) (s : State) (h : nicheCmd s who n) (hs : s.nicheState n = 3)
    (hb : s.flagI Reg.NCH_INFO_BOUND n = true) : answers (.resume who) s fun t => t.getI Reg.NCH_INFO_STATE n = 1 ∧
      t.deferred = s.deferred ++ [(s.dueBoundary, .nicheIntake n true)] ∧ t.get Reg.NCH_CMD_STATUS_STATUS = St.ok ∧ t.mem = s.mem := by
  have e : exec (.resume who) s = execResume who s := rfl
  unfold execResume at e
  refine nchOn_defers (t := (setNicheState n 1 s).defer (.nicheIntake n true)) h (by decide) e ?_ (setNicheState_state ..)
    (defer_deferred (setNicheState_deferred ..) (setNicheState_stk ..) _) (setNicheState_mem ..)
  simp only [hs, hb, Bool.true_eq_false, ne_eq, not_true, or_self, if_false]

theorem reset_completes (who : Issuer) (n : Nat) (s : State) (h : nicheCmd s who n) : answers (.reset who) s fun t =>
      t.getI Reg.NCH_INFO_STATE n = 4 ∧ t.deferred = s.deferred ++ [(s.dueBoundary, .nicheReset n)] ∧
      t.get Reg.NCH_CMD_STATUS_STATUS = St.ok ∧ t.mem = s.mem := by
  have e : exec (.reset who) s = execReset who s := rfl
  exact nchOn_defers (t := beginReset n .reset s) h (by decide) e rfl (beginReset_state ..) (beginReset_deferred rfl rfl) (beginReset_mem ..)

/-- R185: a TDI in ERROR is recorded in its function's register, a status bit and an event. -/
theorem tdiEnterError_same (fn : Nat) (s : State) : (tdiEnterError fn s).deferred = s.deferred ∧ (tdiEnterError fn s).stk = s.stk ∧
    (tdiEnterError fn s).mem = s.mem :=
  ⟨samePart_of_butPart (p := .deferred) (tdiEnterError_but (by decide +kernel) ..),
    samePart_of_butPart (p := .stk) (tdiEnterError_but (by decide +kernel) ..),
    mem_of_but (tdiEnterError_but (by decide +kernel) ..)⟩

theorem destroy_completes (who : Issuer) (n : Nat) (s : State) (h : nicheCmd s who n) (h0 : n ≠ 0) (hs : s.nicheState n = 3) :
    answers (.destroy who) s fun t => t.getI Reg.NCH_INFO_STATE n = 5 ∧
      t.deferred = s.deferred ++ [(s.dueBoundary, .nicheReset n)] ∧ t.get Reg.NCH_CMD_STATUS_STATUS = St.ok ∧ t.mem = s.mem := by
  have e : exec (.destroy who) s = execDestroy who s := rfl
  unfold execDestroy at e
  obtain ⟨u, hu, hd, hk, hm⟩ : ∃ u, (if s.tdiLocked n then tdiEnterError (s.nicheFn n) s else s) = u ∧ u.deferred = s.deferred ∧
      u.stk = s.stk ∧ u.mem = s.mem := by
    split
    · exact ⟨_, rfl, tdiEnterError_same ..⟩
    · exact ⟨_, rfl, rfl, rfl, rfl⟩
  refine nchOn_defers (t := beginReset n .destroy u) h (by decide) e ?_ (beginReset_state ..) (beginReset_deferred hd hk)
    ((beginReset_mem ..).trans hm)
  simp only [if_neg h0, hs, ne_eq, not_true, if_false, hu]

/-! ### A niche's own steps -/

theorem nicheQuiesced_completes (niche : Nat) (x : NicheX) (s : State) (hx : Map.find? s.nch.niches niche = some x)
    (hs : s.nicheState niche = 2) (hi : x.intake = false) (hf : (s.rng.flights.all fun f => f.niche != niche) = true) :
    answers (.nicheQuiesced niche) s fun t => t.getI Reg.NCH_INFO_STATE niche = 3 ∧ t.get Reg.NCH_STATUS_QUIESCED = 1 ∧ t.mem = s.mem := by
  have e : exec (.nicheQuiesced niche) s = execNicheQuiesced niche s := rfl
  unfold execNicheQuiesced at e
  simp only [hx, hs, hi, hf, and_self, if_true] at e
  refine ⟨_, e, ?_, State.get_set_same .., (State.set_mem ..).trans (setNicheState_mem ..)⟩
  exact (State.getI_setI_touch_ne _ _ _ _ (by decide)).trans (setNicheState_state ..)

theorem unbindNiche_resetCount (n m : Nat) (s : State) :
    (unbindNiche n s).getI Reg.NCH_PG_STATUS_RESET_COUNT m = s.getI Reg.NCH_PG_STATUS_RESET_COUNT m :=
  getI_of_butField (unbindNiche_but (by decide +kernel) ..) m

/-- R227: a niche leaves RESETTING for the state it had, with its intake as that state says. -/
def nicheReturned (n : Nat) (prev : Nat) (s : State) : State :=
  setNicheState n (if prev = 2 then 3 else prev) (updNiche n (fun x => { x with started := false, intake := decide (x.prev = 1) }) s)

theorem nicheReturned_getI {f : Field} (h : (setNicheState.within (butField f) && updNiche.within (butField f)) = true) (n prev : Nat)
    (s : State) (i : Nat) : (nicheReturned n prev s).getI f i = s.getI f i := by
  obtain ⟨h1, h2⟩ := Bool.and_eq_true_iff.1 h
  exact (getI_of_butField (setNicheState_but h1 ..) i).trans (getI_of_butField (updNiche_but h2 ..) i)

/-- R227: what the end of a reset leaves of the count and of the bound niche, before the niche takes its state. -/
def resetEnded (n : Nat) (cause : ResetCause) (s : State) : State :=
  let s := s.setI Reg.NCH_PG_STATUS_RESET_COUNT n (s.getI Reg.NCH_PG_STATUS_RESET_COUNT n + 1)
  if cause = .unbind then unbindNiche n s else s

theorem resetEnded_count (n : Nat) (cause : ResetCause) (s : State) : (resetEnded n cause s).getI Reg.NCH_PG_STATUS_RESET_COUNT n =
    (s.getI Reg.NCH_PG_STATUS_RESET_COUNT n + 1) % 2 ^ 16 := by
  unfold resetEnded
  dsimp only
  split
  · exact (unbindNiche_resetCount ..).trans (State.getI_setI_same ..)
  · exact State.getI_setI_same ..

theorem resetEnded_mem (n : Nat) (cause : ResetCause) (s : State) : (resetEnded n cause s).mem = s.mem := by
  unfold resetEnded
  dsimp only
  split
  · exact (unbindNiche_mem ..).trans (State.setI_mem ..)
  · exact State.setI_mem ..

theorem resetEnded_bound (n : Nat) (s : State) : (resetEnded n .unbind s).getI Reg.NCH_INFO_BOUND n = 0 := by
  unfold resetEnded
  dsimp only
  rw [if_pos rfl]
  exact unbindNiche_bound ..

theorem nicheResetDone_completes (niche : Nat) (x : NicheX) (s : State) (hx : Map.find? s.nch.niches niche = some x)
    (hs : s.nicheState niche = 4) (hst : x.started = true)
    (hf : (s.rng.flights.any fun f => f.niche == niche && (f.port.isNone || niche != 0)) = false)
    (hfe : (s.tlt.fences.any fun e => e.niche == niche) = false) : answers (.nicheResetDone niche) s fun t =>
      t.getI Reg.NCH_INFO_STATE niche = (if x.prev = 2 then 3 else x.prev) % 2 ^ 4 ∧
      t.getI Reg.NCH_PG_STATUS_RESET_COUNT niche = (s.getI Reg.NCH_PG_STATUS_RESET_COUNT niche + 1) % 2 ^ 16 ∧
      (x.cause = .unbind → t.getI Reg.NCH_INFO_BOUND niche = 0) ∧ t.mem = s.mem := by
  have e : exec (.nicheResetDone niche) s = execNicheResetDone niche s := rfl
  unfold execNicheResetDone at e
  have hgo : ¬ ((s.nicheState niche ≠ 4 ∧ s.nicheState niche ≠ 5) ∨ x.started = false ∨
      (s.rng.flights.any fun f => f.niche == niche && (f.port.isNone || niche != 0)) = true ∨
      (s.tlt.fences.any fun e => e.niche == niche) = true) := by
    simp [hs, hst, hf, hfe]
  have h5 : s.nicheState niche ≠ 5 := by omega
  simp only [hx, if_neg hgo, if_neg h5] at e
  refine ⟨nicheReturned niche x.prev (resetEnded niche x.cause s), e, setNicheState_state .., ?_, fun hc => ?_, ?_⟩
  · exact (nicheReturned_getI (by decide +kernel) ..).trans (resetEnded_count niche x.cause s)
  · rw [nicheReturned_getI (by decide +kernel), hc]
    exact resetEnded_bound niche s
  · exact (setNicheState_mem ..).trans ((updNiche_mem ..).trans (resetEnded_mem niche x.cause s))

/-- R229: the quotas of a niche, and its place, back in its pool. -/
def quotasReturned (n : Nat) (s : State) : State :=
  let p := s.getI Reg.NCH_INFO_POOL n
  let s := (List.range 15).foldl (fun s res =>
    let k := quotaKey n res
    let s := s.setI Reg.NCH_POOL_INFO_FREE (p * 16 + res) (s.getI Reg.NCH_POOL_INFO_FREE (p * 16 + res) + s.getI Reg.NCH_QUOTA_LIMIT k)
    (s.setI Reg.NCH_QUOTA_LIMIT k 0).setI Reg.NCH_QUOTA_USED k 0) s
  s.setI Reg.NCH_POOL_INFO_FREE (p * 16 + 15) (s.getI Reg.NCH_POOL_INFO_FREE (p * 16 + 15) + 1)

/-- R229: a niche that is FREE. -/
def nicheFreed (n : Nat) (s : State) : State :=
  (s.updNch fun u => { u with niches := Map.del s.nch.niches n }).setsI n [(Reg.NCH_INFO_STATE, 0), (Reg.NCH_INFO_POOL, 0),
    (Reg.NCH_STACKED_BASE_MIB, 0), (Reg.NCH_STACKED_LEN_MIB, 0), (Reg.NCH_PG_STATUS_RESET_COUNT, 0)]

theorem nicheFreed_state (n : Nat) (s : State) : (nicheFreed n s).getI Reg.NCH_INFO_STATE n = 0 := by
  simp (disch := decide) only [nicheFreed, State.setsI_cons, State.setsI_nil, State.getI_setI_touch_ne, State.getI_setI_same]
  exact Nat.zero_mod _

theorem nicheFreed_find (n : Nat) (s : State) : Map.find? (nicheFreed n s).nch.niches n = none := by
  rw [nicheFreed, State.setsI_nch]
  exact Map.find?_del_same ..

/-- R229, R235: what the end of a teardown leaves. -/
def teardownEnded (n : Nat) (s : State) : State :=
  let t := nicheFreed n (quotasReturned n s)
  raise Ev.nchCmdDone n (St.ok + n * 2 ^ 8) (t.set Reg.NCH_STATUS_IN_USE (t.get Reg.NCH_STATUS_IN_USE - 1))

theorem teardownDone_completes (niche : Nat) (x : NicheX) (s : State) (hx : Map.find? s.nch.niches niche = some x)
    (hs : s.nicheState niche = 5) (hz : x.zero = true) : answers (.teardownDone niche) s fun t =>
      t.getI Reg.NCH_INFO_STATE niche = 0 ∧ Map.find? t.nch.niches niche = none ∧ t.mem = s.mem := by
  have e : exec (.teardownDone niche) s = execTeardownDone niche s := rfl
  unfold execTeardownDone at e
  rw [hx] at e
  replace e : exec (.teardownDone niche) s = .next (teardownEnded niche s) := by
    refine e.trans ?_
    dsimp only
    rw [if_pos ⟨hs, hz⟩]
    unfold teardownEnded nicheFreed quotasReturned
    with_reducible rfl
  refine ⟨_, e, ?_, ?_, mem_of_answer (execTeardownDone_but (by decide +kernel) niche s) e⟩
  · rw [teardownEnded, State.getI_raise]
    exact (State.getI_setI_touch_ne _ _ _ _ (by decide)).trans (nicheFreed_state ..)
  · rw [teardownEnded, raise_nch, State.set_nch]
    exact nicheFreed_find ..

/-- Settles O22: each command reports what its action leaves, and the report touches no register of a niche. -/
theorem nicheLifeCommandsComplete : Obligations.NicheLifeCommandsComplete := by
  unfold Obligations.NicheLifeCommandsComplete
  refine ⟨?_, ?_, ?_, ?_, ?_, ?_, ?_, ?_, ?_, ?_⟩
  · rintro who desc n s ⟨h, hv, hp, hn, hid, hb⟩
    exact create_completes who desc n s h hv hp hn hid hb
  · rintro who n arg page f s ⟨h, harg, hf, hk, hl, h2, h3, hx, hb, ho, hpage, hlt⟩
    exact bind_completes who n arg page f s h harg hf hk hl h2 h3 hx hb ho hpage hlt
  · rintro who n s ⟨h, hl, hs, hb⟩
    exact unbind_completes who n s h hl hs hb
  · rintro who n s ⟨h, hs⟩
    exact quiesce_completes who n s h hs
  · rintro niche x s ⟨hx, hs, hi, hf⟩
    exact nicheQuiesced_completes niche x s hx hs hi hf
  · rintro who n s ⟨h, hs, hb⟩
    exact resume_completes who n s h hs hb
  · rintro who n s h
    exact reset_completes who n s h
  · rintro niche x s ⟨hx, hs, hst, hf, hfe⟩
    exact nicheResetDone_completes niche x s hx hs hst hf hfe
  · rintro who n s ⟨h, h0, hs⟩
    exact destroy_completes who n s h h0 hs
  · rintro niche x s ⟨hx, hs, hz⟩
    exact teardownDone_completes niche x s hx hs hz

end Sys2Proof.Machine
end

section
/-!
SUPPORT. The lists of attachment points and of quarantined tags, which the ends of host reads and the moves of the manager's role keep.
-/
namespace Sys2Proof.Machine
set_option Elab.async false

/-- The attachment points in PERST, in D3cold and in training, and the tags in quarantine. -/
def State.hostLists (s : State) : List Nat × List Nat × List Nat × List QuarTag := (s.hif.perst, s.hif.cold, s.hif.training, s.hif.quar)

theorem State.hostLists_congr {s t : State} (h : t.hif = s.hif) : t.hostLists = s.hostLists := by rw [State.hostLists, h]; rfl

theorem State.hostLists_of_but {s t : State} (h : t.but (butPart .hif) = s.but (butPart .hif)) : t.hostLists = s.hostLists :=
  State.hostLists_congr (hif_of_butPart h)

theorem foldl_hostLists {α : Type} {f : State → α → State} (hf : ∀ s a, (f s a).hostLists = s.hostLists) (l : List α) (s : State) :
    (l.foldl f s).hostLists = s.hostLists := by
  induction l generalizing s with
  | nil => rfl
  | cons a l ih => exact (ih _).trans (hf s a)

/-! ### Host reads -/

theorem tagCounts_hif (ap : Nat) (s : State) : (tagCounts ap s).hif = s.hif := State.setsI_hif ..

theorem issueRead_hostLists (n : Nat) (p : Purpose) (s : State) : (issueRead n p s).1.hostLists = s.hostLists := by
  unfold issueRead
  dsimp only
  split
  · exact (State.hostLists_congr (tagCounts_hif ..)).trans rfl
  · rfl

theorem needRead_hostLists (n : Nat) (p : Purpose) (s : State) : (needRead n p s).hostLists = s.hostLists := by
  unfold needRead
  by_cases hc : s.canIssue n = true
  · simp only [hc, if_true]
    split
    · exact issueRead_hostLists ..
    · rfl
  · simp only [hc]
    rfl

theorem retryReads_hostLists (s : State) : (retryReads s).hostLists = s.hostLists := by
  unfold retryReads
  exact (foldl_hostLists (fun _ _ => needRead_hostLists ..) _ _).trans rfl

theorem serveRead_hostLists (p : TlPkt) (s : State) : (serveRead p s).hostLists = s.hostLists := by
  unfold serveRead
  dsimp only
  split
  · rfl
  · split
    · exact State.hostLists_of_but (refuseAt_but (by decide +kernel) ..)
    · split
      · exact (needRead_hostLists ..).trans (State.hostLists_of_but (putServe_but (by decide +kernel) ..))
      · refine (State.hostLists_of_but (readResponse_but (by decide +kernel) ..)).trans ?_
        split
        · exact State.hostLists_of_but (served_but (by decide +kernel) ..)
        · rfl

theorem serveAtomic_hostLists (p : TlPkt) (s : State) : (serveAtomic p s).hostLists = s.hostLists := by
  unfold serveAtomic
  dsimp only
  split
  · split
    · exact State.hostLists_of_but (atomicResponse_but (by decide +kernel) ..)
    · rfl
  · split
    · exact State.hostLists_of_but (trackerFull_but (by decide +kernel) ..)
    · split
      · exact State.hostLists_of_but (refuseAt_but (by decide +kernel) ..)
      · split
        · exact State.hostLists_of_but (refuse_but (by decide +kernel) ..)
        · split
          · exact (needRead_hostLists ..).trans (State.hostLists_of_but (putServe_but (by decide +kernel) ..))
          · exact (State.hostLists_of_but (atomicDone_but (by decide +kernel) ..)).trans
              ((State.hostLists_of_but (served_but (by decide +kernel) ..)).trans (State.hostLists_of_but (atomicAt_but (by decide +kernel) ..)))

theorem rxHeld_hostLists (p : TlPkt) (s : State) : (rxHeld p s).hostLists = s.hostLists := by
  unfold rxHeld
  split
  · exact serveRead_hostLists ..
  · exact State.hostLists_of_but (rxReadResp_but (by decide +kernel) ..)
  · exact serveAtomic_hostLists ..
  · exact State.hostLists_of_but (rxAtomicResp_but (by decide +kernel) ..)
  · split
    · exact State.hostLists_of_but (rxPlace_but (by decide +kernel) ..)
    · exact State.hostLists_of_but (byPlace_but (by decide +kernel) _ _ _ fun _ => rfl)

theorem recallDone_hostLists (ep status : Nat) (s : State) : (recallDone ep status s).hostLists = s.hostLists := by
  unfold recallDone
  split
  · rfl
  · split
    · rfl
    · dsimp only
      split
      · refine (State.hostLists_of_but (ctxShow_but (by decide +kernel) _)).trans
          ((foldl_hostLists (fun _ _ => rxHeld_hostLists ..) _ _).trans ?_)
        refine (State.hostLists_of_but (touchEp_but (by decide +kernel) ..)).trans ?_
        refine (State.hostLists_of_but (updEp_but (by decide +kernel) ..)).trans ?_
        exact (State.hostLists_of_but (makeRoom_but (by decide +kernel) _)).trans rfl
      · refine (State.hostLists_of_but (ctxShow_but (by decide +kernel) _)).trans ?_
        refine (State.hostLists_of_but (raiseTo_but (by decide +kernel) ..)).trans ?_
        refine (State.hostLists_of_but (failEpWork_but (by decide +kernel) ..)).trans ?_
        refine (foldl_hostLists (fun _ _ => State.hostLists_of_but (finish_but (by decide +kernel) ..)) _ _).trans ?_
        refine (foldl_hostLists (fun _ _ => State.hostLists_of_but (failSend_but (by decide +kernel) ..)) _ _).trans ?_
        refine (foldl_hostLists (fun _ _ => State.hostLists_of_but (refuse_but (by decide +kernel) ..)) _ _).trans ?_
        exact (State.hostLists_of_but (updEp_but (by decide +kernel) ..)).trans rfl

theorem readFailed_hostLists (x : HostTag) (st : Nat) (s : State) : (readFailed x st s).hostLists = s.hostLists := by
  unfold readFailed
  split
  · exact State.hostLists_of_but (pollLost_but (by decide +kernel) ..)
  · exact State.hostLists_of_but (workFail_but (by decide +kernel) ..)
  · exact State.hostLists_of_but (nvmeHostFail_but (by decide +kernel) ..)
  · exact State.hostLists_of_but (serveHostFail_but (by decide +kernel) ..)
  · exact State.hostLists_of_but (flushReadFail_but (by decide +kernel) ..)
  · exact recallDone_hostLists ..

/-! ### The manager's role -/

theorem ringsOff_hif (n : Nat) (s : State) : (ringsOff n s).hif = s.hif := hif_of_butPart (ringsOff_but (by decide +kernel) ..)

theorem mgrLeave_hostLists (s : State) : (mgrLeave s).hostLists = s.hostLists := by
  unfold mgrLeave
  dsimp only
  refine (State.hostLists_congr ((raise_hif ..).trans (State.set_hif ..))).trans ?_
  exact State.hostLists_congr (t := ringsOff 0 s) (ringsOff_hif ..)

theorem mgrRecord_hif (a b : Nat × Nat) (s : State) : (mgrRecord a b s).hif = s.hif := hif_of_butPart (mgrRecord_but (by decide +kernel) ..)

theorem vacateRole_hostLists (s : State) : (vacateRole s).hostLists = s.hostLists := by
  unfold vacateRole
  dsimp only
  refine (State.hostLists_congr ((standbyShow_hif _).trans ((State.set_hif ..).trans (State.setI_hif ..)))).trans ?_
  exact (mgrLeave_hostLists _).trans (State.hostLists_congr (mgrRecord_hif ..))

theorem moveRole_hostLists (ap pf : Nat) (s : State) : (moveRole ap pf s).hostLists = s.hostLists := by
  rw [moveRole_eq]
  refine (State.hostLists_congr ((standbyShow_hif _).trans (State.emit_hif ..))).trans ?_
  refine (State.hostLists_of_but (managerBound_but (by decide +kernel) ..)).trans ?_
  refine (State.hostLists_congr (State.sets_hif ..)).trans ?_
  refine (State.hostLists_of_but (ite_but (State.sets_but_of rfl _) rfl)).trans ?_
  exact (mgrLeave_hostLists _).trans (State.hostLists_congr (mgrRecord_hif ..))

theorem safeRole_hostLists (s : State) : (safeRole s).hostLists = s.hostLists := by
  unfold safeRole
  split
  · rfl
  · split
    · exact moveRole_hostLists ..
    · split
      · rfl
      · exact vacateRole_hostLists s

end Sys2Proof.Machine
end

section
/-!
CERTIFICATE. The settings of a niche, its dirty log and its counters, and the host reads that end.
-/
namespace Sys2Proof.Machine
set_option Elab.async false

/-! ### Settings -/

theorem updNiche_find {n : Nat} {x : NicheX} {s : State} (h : Map.find? s.nch.niches n = some x) (f : NicheX → NicheX) :
    Map.find? (updNiche n f s).nch.niches n = some (f x) := by
  unfold updNiche
  rw [State.updNch_nch, Map.find?_upd_same, h]
  rfl

section
variable {c : Instr} {who : Issuer} {op n : Nat} {desc : Option (Nat × Nat)} {act : Nat → State → Nat × State} {x : NicheX} {s : State}

/-- A niche command whose action sets a niche's own part, and nothing else, reports ST_OK. -/
theorem nchOn_sets {α : Type} {get : NicheX → α} {v : α} {f : NicheX → NicheX} (h : nicheCmd s who n) (hop : op ≠ 1)
    (hx : Map.find? s.nch.niches n = some x) (he : exec c s = nchOn op who desc act s) (ha : act n s = (St.ok, updNiche n f s))
    (hv : get (f x) = v) : answers c s fun t =>
      (Map.find? t.nch.niches n).map get = some v ∧ t.get Reg.NCH_CMD_STATUS_STATUS = St.ok ∧ t.mem = s.mem := by
  refine answers_nchOn h hop he ha fun p => ⟨?_, cmdFinish_nch_ok .., (cmdFinish_mem ..).trans (updNiche_mem ..)⟩
  rw [cmdFinish_nch, updNiche_find hx, ← hv]
  rfl

end

theorem spoofWrite_completes (who : Issuer) (entry n : Nat) (x : NicheX) (s : State) (h : nicheCmd s who n) (hl : s.tdiLocked n = false)
    (hx : Map.find? s.nch.niches n = some x) : answers (.spoofWrite who entry) s fun t =>
      (Map.find? t.nch.niches n).map (·.spoof) = some (if byteField entry 0 0 = 0 then Map.del x.spoof (bits (s.get Reg.NCH_CMD_ARG_ARG) 5 0)
        else Map.put x.spoof (bits (s.get Reg.NCH_CMD_ARG_ARG) 5 0) (entry % 2 ^ 256)) ∧
      t.get Reg.NCH_CMD_STATUS_STATUS = St.ok ∧ t.mem = s.mem := by
  have e : exec (.spoofWrite who entry) s = execSpoofWrite who entry s := rfl
  unfold execSpoofWrite at e
  exact nchOn_sets h (by decide) hx e (if_neg (by simp [hl])) rfl

theorem spoofMode_completes (who : Issuer) (n : Nat) (x : NicheX) (s : State) (h : nicheCmd s who n) (hl : s.tdiLocked n = false)
    (hx : Map.find? s.nch.niches n = some x) : answers (.spoofMode who) s fun t =>
      (Map.find? t.nch.niches n).map (·.spoofMode) = some (bits (s.get Reg.NCH_CMD_ARG_ARG) 3 0) ∧
      t.get Reg.NCH_CMD_STATUS_STATUS = St.ok ∧ t.mem = s.mem := by
  have e : exec (.spoofMode who) s = execSpoofMode who s := rfl
  unfold execSpoofMode at e
  exact nchOn_sets h (by decide) hx e (if_neg (by simp [hl])) rfl

theorem wakeSet_completes (who : Issuer) (n : Nat) (x : NicheX) (s : State) (h : nicheCmd s who n) (hl : s.tdiLocked n = false)
    (hx : Map.find? s.nch.niches n = some x) : answers (.wakeSet who) s fun t =>
      (Map.find? t.nch.niches n).map (·.wake) = some (bits (s.get Reg.NCH_CMD_ARG_ARG) 15 0) ∧
      t.get Reg.NCH_CMD_STATUS_STATUS = St.ok ∧ t.mem = s.mem := by
  have e : exec (.wakeSet who) s = execWakeSet who s := rfl
  unfold execWakeSet at e
  exact nchOn_sets h (by decide) hx e (if_neg (by simp [hl])) rfl

/-! ### The dirty log -/

theorem logStart_completes (who : Issuer) (block n : Nat) (s : State) (h : nicheCmd s who n) (hl : s.flagI Reg.NCH_INFO_LOGGING n = false)
    (hv : logValid block = true) (hq : 2 * bitmapLen (byteField block 8 15) (byteField block 16 16) ≤
      s.getI Reg.NCH_QUOTA_LIMIT (quotaKey n 13) * 1024) : answers (.logStart who block) s fun t =>
      t.deferred = s.deferred ++ [(s.dueBoundary, .logStart n (byteField block 0 7) (byteField block 8 15) (byteField block 16 16))] ∧
      t.get Reg.NCH_CMD_STATUS_STATUS = St.ok ∧ t.mem = s.mem := by
  have e : exec (.logStart who block) s = execLogStart who block s := rfl
  unfold execLogStart at e
  refine answers_nchOn (t := s.defer (.logStart n (byteField block 0 7) (byteField block 8 15) (byteField block 16 16))) h (by decide) e ?_
    fun p => ⟨(cmdFinish_deferred ..).trans (defer_deferred rfl rfl _), cmdFinish_nch_ok .., cmdFinish_mem ..⟩
  simp only [hl, hv, Bool.false_eq_true, Bool.true_eq_false, if_false, if_neg (Nat.not_lt.2 hq)]

section
variable {c : Instr} {who : Issuer} {op n : Nat} {last : Bool} {s : State}

/-- HARVEST and LOG_STOP of a niche that logs wait for the swap of its bitmaps, and go on. -/
theorem logSwap_runs (h : nicheCmd s who n) (hl : s.flagI Reg.NCH_INFO_LOGGING n = true) (hop : op ≠ 1)
    (he : exec c s = nchCmd op who none (fun n s =>
      match s.nicheRefusal n with
      | some st => .done st n s
      | none => if s.flagI Reg.NCH_INFO_LOGGING n then .running (s.defer (.logSwap n last)) else .done St.badState n s) s) :
    answers c s fun t => t.deferred = s.deferred ++ [(s.dueBoundary, .logSwap n last)] ∧ t.get Reg.NCH_CMD_BUSY = 1 ∧ t.mem = s.mem := by
  obtain ⟨-, -, href⟩ := id h
  refine answers_nchRunning (t := s.defer (.logSwap n last)) h hop he ?_
    fun p => ⟨(State.set_deferred ..).trans (defer_deferred rfl rfl _), State.get_set_same .., State.set_mem ..⟩
  simp only [href, hl, if_true]

end

theorem harvest_completes (who : Issuer) (n : Nat) (s : State) (h : nicheCmd s who n) (hl : s.flagI Reg.NCH_INFO_LOGGING n = true) :
    answers (.harvest who) s fun t => t.deferred = s.deferred ++ [(s.dueBoundary, .logSwap n false)] ∧ t.get Reg.NCH_CMD_BUSY = 1 ∧
      t.mem = s.mem := by
  have e : exec (.harvest who) s = execHarvest who s := rfl
  exact logSwap_runs h hl (by decide) e

theorem logStop_completes (who : Issuer) (n : Nat) (s : State) (h : nicheCmd s who n) (hl : s.flagI Reg.NCH_INFO_LOGGING n = true) :
    answers (.logStop who) s fun t => t.deferred = s.deferred ++ [(s.dueBoundary, .logSwap n true)] ∧ t.get Reg.NCH_CMD_BUSY = 1 ∧
      t.mem = s.mem := by
  have e : exec (.logStop who) s = execLogStop who s := rfl
  exact logSwap_runs h hl (by decide) e

/-- A command that ends with ST_OK leaves its register free and reports it. -/
theorem cmdEnd_nch {p : CmdPend} {s : State} (h : Map.find? s.cmds 4 = some p) : (cmdEnd Blk.nch St.ok s).get Reg.NCH_CMD_BUSY = 0 ∧
    (cmdEnd Blk.nch St.ok s).get Reg.NCH_CMD_STATUS_STATUS = St.ok ∧ Map.find? (cmdEnd Blk.nch St.ok s).cmds 4 = none := by
  have e : cmdEnd Blk.nch St.ok s = cmdFinish Blk.nch p St.ok ((s.updCmds fun _ => Map.del s.cmds 4).set Reg.NCH_CMD_BUSY 0) := by
    unfold cmdEnd
    rw [show Map.find? s.cmds Blk.nch.num = some p from h]
    rfl
  rw [e]
  refine ⟨?_, cmdFinish_nch_ok .., ?_⟩
  · exact (get_of_butField (cmdFinish_but Blk.nch (by decide +kernel) ..)).trans (State.get_set_same ..)
  · rw [cmdFinish_cmds, State.set_cmds]
    exact Map.find?_del_same ..

/-- R232: what a harvest leaves once its copy is written, before its command ends. -/
def harvestCopied (p : CmdPend) (d : DirtyLog) (bytes : List Byte) (s : State) : State :=
  let s := updNiche p.niche (fun x => { x with log := if d.last then none else some { d with retired := none } }) (hostPut 0 p.param bytes s)
  if d.last then s.setI Reg.NCH_QUOTA_USED (quotaKey p.niche 13) 0 else s

theorem harvestCopied_cmds (p : CmdPend) (d : DirtyLog) (bytes : List Byte) (s : State) : (harvestCopied p d bytes s).cmds = s.cmds := by
  have h : (updNiche p.niche (fun x => { x with log := if d.last then none else some { d with retired := none } })
      (hostPut 0 p.param bytes s)).cmds = s.cmds := samePart_of_butPart (p := .cmds) (hostPut_but (by decide +kernel) ..)
  unfold harvestCopied
  dsimp only
  split
  · exact (State.setI_cmds ..).trans h
  · exact h

theorem harvestCopyDone_completes (p : CmdPend) (x : NicheX) (d : DirtyLog) (r : List Nat × Nat × Nat × Nat × Nat) (s : State)
    (hp : Map.find? s.cmds 4 = some p) (hx : Map.find? s.nch.niches p.niche = some x) (hd : x.log = some d) (hr : d.retired = some r) :
    answers .harvestCopyDone s fun t => t.get Reg.NCH_CMD_BUSY = 0 ∧ t.get Reg.NCH_CMD_STATUS_STATUS = St.ok ∧
      Map.find? t.cmds 4 = none ∧ t.mem = s.mem := by
  have e : exec .harvestCopyDone s = execHarvestCopyDone s := rfl
  obtain ⟨pages, writes, oor, swap, since⟩ := r
  obtain ⟨bytes, hb⟩ : ∃ bytes, execHarvestCopyDone s = .next (cmdEnd Blk.nch St.ok (harvestCopied p d bytes s)) := by
    unfold execHarvestCopyDone
    simp only [hp, hx, hd, hr, Option.bind_some]
    exact ⟨_, rfl⟩
  obtain ⟨hbusy, hok, hfree⟩ := cmdEnd_nch ((congrArg (Map.find? · 4) (harvestCopied_cmds p d bytes s)).trans hp)
  exact ⟨_, e.trans hb, hbusy, hok, hfree, mem_of_answer (execHarvestCopyDone_but (by decide +kernel) s) (e.trans hb)⟩

/-! ### Counters -/

/-- R245: the spoof drops of a niche cleared, where the value asks. -/
def spoofDropsCleared (value : Nat) (s : State) : State :=
  if bit value 12 = 1 then s.setsI (bits value 11 0) [(Reg.NCH_PG_SPOOF_DROP_COUNT, 0), (Reg.NCH_PG_SPOOF_DROP_SAT, 0)] else s

/-- R245: the receive drops of a niche cleared, where the value asks. -/
def rxDropsCleared (value : Nat) (s : State) : State :=
  if bit value 13 = 1 then s.setsI (bits value 11 0) [(Reg.NCH_PG_RX_DROP_COUNT, 0), (Reg.NCH_PG_RX_DROP_SAT, 0)] else s

theorem rxDropsCleared_but {E : Touch → Bool} (h : E Reg.NCH_PG_RX_DROP_COUNT.touch && E Reg.NCH_PG_RX_DROP_SAT.touch) (value : Nat)
    (s : State) : (rxDropsCleared value s).but E = s.but E := by
  simp only [Bool.and_eq_true] at h
  exact ite_but (State.setsI_but (by simp [h]) s _) rfl

/-- R245: a counter of a niche's page, and its saturation, read zero once they are cleared, and a clear elsewhere leaves them. -/
theorem dropsCleared {f g : Field} (n : Nat) (h : g.touch ≠ f.touch) (s : State) :
    (s.setsI n [(f, 0), (g, 0)]).getI f n = 0 ∧ (s.setsI n [(f, 0), (g, 0)]).getI g n = 0 := by
  simp only [State.setsI_cons, State.setsI_nil, State.getI_setI_same, State.getI_setI_touch_ne _ _ _ _ h, Nat.zero_mod, and_self]

theorem nicheCounterClear_completes (who : Issuer) (value : Nat) (s : State) (hw : s.mayWriteRegs who = true)
    (hb : s.blockAnswers 0x400058 = true) : answers (.nicheCounterClear who value) s fun t =>
      (bit value 12 = 1 → t.getI Reg.NCH_PG_SPOOF_DROP_COUNT (bits value 11 0) = 0 ∧ t.getI Reg.NCH_PG_SPOOF_DROP_SAT (bits value 11 0) = 0) ∧
      (bit value 13 = 1 → t.getI Reg.NCH_PG_RX_DROP_COUNT (bits value 11 0) = 0 ∧ t.getI Reg.NCH_PG_RX_DROP_SAT (bits value 11 0) = 0) ∧
      t.mem = s.mem := by
  have e : exec (.nicheCounterClear who value) s = .next (rxDropsCleared value (spoofDropsCleared value s)) :=
    (show _ = execNicheCounterClear who value s from rfl).trans (congrArg Host.Outcome.next (regGate_open hw hb))
  refine ⟨_, e, fun h => ?_, fun h => ?_, mem_of_answer (execNicheCounterClear_but (by decide +kernel) who value s) e⟩
  · have keep {f : Field} (hf : (butField f Reg.NCH_PG_RX_DROP_COUNT.touch && butField f Reg.NCH_PG_RX_DROP_SAT.touch) = true) (u : State)
        (i : Nat) : (rxDropsCleared value u).getI f i = u.getI f i := getI_of_butField (rxDropsCleared_but hf ..) i
    rw [keep (by decide), keep (by decide), spoofDropsCleared, if_pos h]
    exact dropsCleared _ (by decide) s
  · rw [rxDropsCleared, if_pos h]
    exact dropsCleared _ (by decide) _

/-- A counter's saturation is recorded in registers that are not the counter. -/
def countsApart (f : Field) : Bool := [f.sat, Reg.PAT_STATUS_CNT_SAT, Reg.PAT_SAT_LAST_STROKE, Reg.PAT_SAT_LAST_NICHE_PAGE,
  Reg.PAT_SAT_LAST_OFFSET].all fun g => g.touch != f.touch

/-- R729: a counter of 32 bits that counts one stops at its largest value. -/
theorem countI_count {f : Field} (hw : f.width = 32) (hf : countsApart f = true) (i : Nat) (s : State) :
    (countI f i s).getI f i = min 0xFFFFFFFF (s.getI f i + 1) := by
  simp only [countsApart, List.all_cons, List.all_nil, Bool.and_true, Bool.and_eq_true, bne_iff_ne, ne_eq] at hf
  obtain ⟨hsat, hst, hstroke, hpage, hoff⟩ := hf
  have hc : (s.setI f i (min 0xFFFFFFFF (s.getI f i + 1))).getI f i = min 0xFFFFFFFF (s.getI f i + 1) := by
    rw [State.getI_setI_same, hw]
    exact Nat.mod_eq_of_lt (by omega)
  unfold countI countAt
  dsimp only
  split
  · simp only [State.getI_raise, State.sets_cons, State.sets_nil, State.set, State.getI_setI_touch_ne _ _ _ _ hsat,
      State.getI_setI_touch_ne _ _ _ _ hst, State.getI_setI_touch_ne _ _ _ _ hstroke, State.getI_setI_touch_ne _ _ _ _ hpage,
      State.getI_setI_touch_ne _ _ _ _ hoff]
    exact hc
  · exact hc

/-! ### Polls that end -/

theorem State.ringX_polling (s : State) (r : Nat) : (s.ringX r).polling = (s.pollings r).getD false := by
  unfold State.ringX State.pollings
  cases Map.find? s.rng.rings r <;> rfl

theorem State.pollings_of_but {s t : State} (h : t.but (butPart .rng) = s.but (butPart .rng)) : t.pollings = s.pollings :=
  State.pollings_congr (rng_of_butPart h)

theorem pollLost_polling (r : Nat) (s : State) : ((pollLost r s).pollings r).getD false = false := by
  unfold State.pollings pollLost updRing
  rw [State.updRng_rng, Map.find?_upd_same]
  cases Map.find? s.rng.rings r <;> rfl

theorem freeTag_pollings (ap tag : Nat) (s : State) : (freeTag ap tag s).pollings = s.pollings :=
  State.pollings_of_but (freeTag_but (by decide +kernel) ..)

theorem retryReads_pollings (s : State) : (retryReads s).pollings = s.pollings := State.pollings_of_but (retryReads_but (by decide +kernel) s)

/-- R247: what the entry taken makes of its slot, resident or in host memory. -/
def slotTaken (r n slot : Nat) (s : State) : State :=
  if s.flagI Reg.RNG_INFO_RESIDENT r then
    updRing r (fun x => { x with slots := Map.upd x.slots slot fun w => w % 2 ^ 504 + w / 2 ^ 504 % 128 * 2 ^ 504 }) s
  else hostPut n (s.getI Reg.RNG_BASE_BASE r + 64 * slot + 63) [0] s

theorem slotTaken_pollings (r n slot : Nat) (s : State) : (slotTaken r n slot s).pollings = s.pollings := by
  unfold slotTaken
  split
  · exact updRing_pollings (by exact fun _ => rfl) s
  · exact State.pollings_of_but (hostPut_but (by decide +kernel) ..)

/-- R247: the indices of a ring once an entry is taken. -/
def indicesTaken (r slot : Nat) (s : State) : State :=
  let s := s.setsI r [(Reg.RNG_PTRS_CONSUMER, (slot + 1) % s.ringSize r), (Reg.RNG_INFO_IDLE, 0)]
  if s.flagI Reg.RNG_INFO_RESIDENT r then s else s.setI Reg.RNG_PTRS_PRODUCER r ((slot + 1) % s.ringSize r)

theorem indicesTaken_rng (r slot : Nat) (s : State) : (indicesTaken r slot s).rng = s.rng := by
  unfold indicesTaken
  dsimp only
  split
  · exact State.setsI_rng ..
  · exact (State.setI_rng ..).trans (State.setsI_rng ..)

/-- R247, R252: an entry taken: in flight, with a place reserved for its completion. -/
def entryTaken (r e : Nat) (s : State) : State :=
  let n := s.getI Reg.RNG_INFO_NICHE r
  let cq := s.getI Reg.RNG_INFO_LINK r
  let slot := s.getI Reg.RNG_PTRS_CONSUMER r
  let s := s.updRng fun u => { u with nextSeq := s.rng.nextSeq + 1,
                                      flights := s.rng.flights ++ [(⟨s.rng.nextSeq, r, n, e, false, [], none, none⟩ : Flight)] }
  let s := slotTaken r n slot (updRing cq (fun x => { x with reserved := x.reserved + 1 }) s)
  ringCounts cq (ringCounts r (indicesTaken r slot s))

theorem entryTaken_pollings (r e : Nat) (s : State) : (entryTaken r e s).pollings = s.pollings := by
  unfold entryTaken
  dsimp only
  refine (State.pollings_of_but (ringCounts_but (by decide +kernel) ..)).trans ?_
  refine (State.pollings_of_but (ringCounts_but (by decide +kernel) ..)).trans ?_
  refine (State.pollings_congr (indicesTaken_rng ..)).trans ((slotTaken_pollings ..).trans ?_)
  exact (updRing_pollings (by exact fun _ => rfl) _).trans rfl

theorem takeEntry_eq (r e : Nat) (s : State) : takeEntry r e s = if (entryTaken r e s).ringAccepts r (wOpcode e) then entryTaken r e s
    else finish s.rng.nextSeq St.badOpcode 0 (entryTaken r e s) := rfl

theorem takeEntry_pollings (r e : Nat) (s : State) : (takeEntry r e s).pollings = s.pollings := by
  rw [takeEntry_eq]
  split
  · exact entryTaken_pollings ..
  · exact (finish_pollings ..).trans (entryTaken_pollings ..)

theorem cqStop_pollings (cq : Nat) (s : State) : (cqStop cq s).pollings = s.pollings := by
  unfold cqStop
  split
  · rfl
  · refine (State.pollings_of_but (raiseTo_but (by decide +kernel) ..)).trans ?_
    refine (State.pollings_congr ((countI_rng ..).trans (State.setI_rng ..))).trans ?_
    exact updRing_pollings (by exact fun _ => rfl) s

theorem takeList_pollings (r : Nat) (l : List Nat) (k : Nat) (s : State) : (takeList r l k s).2.2.pollings = s.pollings := by
  induction l generalizing k s with
  | nil => rfl
  | cons e l ih =>
    rw [takeList]
    split
    · rfl
    · split
      · exact cqStop_pollings ..
      · exact (ih ..).trans (takeEntry_pollings ..)

/-- R259, R685: what a ring keeps of the answer of a poll: how many entries were taken, and whether more may wait. -/
def pollNoted (r : Nat) (res : Nat × Bool × State) : State :=
  let s := res.2.2
  let c := (Map.find? s.rgl.rings r).getD (0, 0, false)
  let s := s.updRgl fun u => { u with rings := Map.put s.rgl.rings r (c.1 + 1, c.2.1 + res.1, c.2.2 || res.1 == 8) }
  if res.1 = 8 ∨ res.2.1 then updRing r (fun x => { x with more := true }) s else s

theorem pollNoted_pollings (r : Nat) (res : Nat × Bool × State) : (pollNoted r res).pollings = res.2.2.pollings := by
  unfold pollNoted
  dsimp only
  split
  · exact (updRing_pollings (by exact fun _ => rfl) _).trans rfl
  · rfl

theorem pollAnswer_eq {r : Nat} {s : State} {y : HostTag} (hy : (s.hif.tags.find? fun t => t.purpose == .poll r) = some y)
    (entries : List Nat) : ∃ l, pollAnswer r entries s = pollNoted r (takeList r l 0 (freeTag y.ap y.tag (pollLost r s))) := by
  refine ⟨entries.take (min 8 ((freeTag y.ap y.tag (pollLost r s)).ringSize r -
    (freeTag y.ap y.tag (pollLost r s)).getI Reg.RNG_PTRS_CONSUMER r)), ?_⟩
  unfold pollAnswer pollNoted pollLost
  rw [hy]

/-- The answer of a poll ends it. -/
theorem pollAnswer_polling {r : Nat} {s : State} {x : HostTag} (hx : x ∈ s.hif.tags) (hp : x.purpose = .poll r) (entries : List Nat) :
    ((pollAnswer r entries s).pollings r).getD false = false := by
  obtain ⟨y, hy⟩ : ∃ y, (s.hif.tags.find? fun t => t.purpose == .poll r) = some y :=
    Option.isSome_iff_exists.1 (List.find?_isSome.2 ⟨x, hx, by simp [hp]⟩)
  obtain ⟨l, hl⟩ := pollAnswer_eq hy entries
  rw [hl, pollNoted_pollings, takeList_pollings, freeTag_pollings]
  exact pollLost_polling r s

theorem hostReadCompletion_poll (ap tag status r : Nat) (data : List Byte) (x : HostTag) (s : State)
    (hx : (s.hif.tags.find? fun y => y.ap == ap && y.tag == tag) = some x) (hp : x.purpose = .poll r) :
    answers (.hostReadCompletion ap tag status data) s fun t => (t.ringX r).polling = false := by
  have e : exec (.hostReadCompletion ap tag status data) s = execHostReadCompletion ap tag status data s := rfl
  unfold execHostReadCompletion at e
  simp only [hx, hp] at e
  refine ⟨_, e, ?_⟩
  dsimp only
  rw [State.ringX_polling, retryReads_pollings]
  by_cases h0 : status = 0
  · simp only [h0, ne_eq, not_true, and_self, if_true, if_false]
    exact pollAnswer_polling (List.mem_of_find?_eq_some hx) hp _
  · simp only [h0, ne_eq, not_false_iff, if_true, readFailed, hp]
    exact pollLost_polling ..

/-! ### Late completions and timeouts -/

theorem emit_flag (s : State) (x : Out) (f : Field) : (s.emit x).flag f = s.flag f := rfl

/-- A status flag that is set, with its event, where it is not set yet. -/
def setOnce (f : Field) (id obj : Nat) (s : State) : State := if s.flag f then s else raise id obj 0 (s.set f 1)

theorem setOnce_flag {f : Field} (hw : f.width = 1) (id obj : Nat) (s : State) : (setOnce f id obj s).flag f = true := by
  unfold setOnce
  by_cases h : s.flag f = true
  · rw [if_pos h, h]
  · rw [if_neg h]
    exact (flag_set_one hw : (s.set f 1).flag f = true)

theorem setOnce_getI {f g : Field} (h : f.touch ≠ g.touch) (id obj i : Nat) (s : State) : (setOnce f id obj s).getI g i = s.getI g i := by
  unfold setOnce
  split
  · rfl
  · exact State.getI_setI_touch_ne _ _ _ _ h

theorem setOnce_mem (f : Field) (id obj : Nat) (s : State) : (setOnce f id obj s).mem = s.mem := by
  unfold setOnce
  split
  · rfl
  · exact State.set_mem ..

theorem setOnce_hif (f : Field) (id obj : Nat) (s : State) : (setOnce f id obj s).hif = s.hif := by
  unfold setOnce
  split
  · rfl
  · exact State.set_hif ..

/-- R170: a completion that no read awaits, counted and recorded. -/
def lateCompleted (ap tag : Nat) (s : State) : State :=
  setOnce Reg.HIF_STATUS_LATE_CPL Ev.hifLateCpl ap
    (patina 0x0300 Sev.warning (ap * 2 ^ 16 + tag) (countI Reg.HIF_LATE_CPL_COUNT ap s))

theorem hostReadCompletion_late (ap tag status : Nat) (data : List Byte) (s : State)
    (hx : (s.hif.tags.find? fun y => y.ap == ap && y.tag == tag) = none) : answers (.hostReadCompletion ap tag status data) s fun t =>
      t.getI Reg.HIF_LATE_CPL_COUNT ap = min 0xFFFFFFFF (s.getI Reg.HIF_LATE_CPL_COUNT ap + 1) ∧
      t.flag Reg.HIF_STATUS_LATE_CPL = true ∧ t.mem = s.mem := by
  have e : exec (.hostReadCompletion ap tag status data) s =
      .next ((lateCompleted ap tag s).emit (.aer ap none .unexpectedCompletion)) := by
    refine (show _ = execHostReadCompletion ap tag status data s from rfl).trans ?_
    unfold execHostReadCompletion
    simp only [hx]
    rfl
  refine ⟨_, e, (emit_getI ..).trans ?_, (emit_flag ..).trans (setOnce_flag rfl ..), (State.emit_mem ..).trans ?_⟩
  · rw [lateCompleted, setOnce_getI (by decide), getI_of_butField (patina_but (by decide +kernel) ..)]
    exact countI_count rfl (by decide) ap s
  · rw [lateCompleted, setOnce_mem, patina_mem, countI_mem]

theorem quarantine_quar {p : HostTag → Bool} {x : HostTag} {s : State} (hx : x ∈ s.hif.tags) (hp : p x = true) (b : Nat) :
    (⟨x.ap, x.tag, b + s.eff Reg.HIF_TAG_QUAR_STROKES⟩ : QuarTag) ∈ (quarantine p b s).hif.quar := by
  unfold quarantine
  dsimp only
  rw [hif_of_butPart (foldl_but (fun _ _ => tagCounts_but (by decide +kernel) ..) ..)]
  exact List.mem_append_right _ (List.mem_map.2 ⟨x, List.mem_filter.2 ⟨hx, hp⟩, rfl⟩)

theorem State.quar_of_hostLists {s t : State} (h : t.hostLists = s.hostLists) : t.hif.quar = s.hif.quar := congrArg (·.2.2.2) h

/-- R167, R168: a host read's tag quarantined and its timeout counted, before its work ends. -/
def readTimedOut (ap : Nat) (x : HostTag) (s : State) : State :=
  setOnce Reg.HIF_STATUS_CPL_TIMEOUT Ev.hifCplTimeout ap
    (countI Reg.HIF_TIMEOUT_CNT_COUNT ap (quarantine (fun u => u == x) s.stk.boundary s))

theorem readTimedOut_quar {ap : Nat} {x : HostTag} {s : State} (hx : x ∈ s.hif.tags) :
    (⟨x.ap, x.tag, s.stk.boundary + s.eff Reg.HIF_TAG_QUAR_STROKES⟩ : QuarTag) ∈ (readTimedOut ap x s).hif.quar := by
  rw [readTimedOut, setOnce_hif, countI_hif]
  exact quarantine_quar (p := fun u => u == x) hx (beq_self_eq_true x) s.stk.boundary

theorem readTimedOut_count (ap : Nat) (x : HostTag) (s : State) : (readTimedOut ap x s).getI Reg.HIF_TIMEOUT_CNT_COUNT ap =
    min 0xFFFFFFFF (s.getI Reg.HIF_TIMEOUT_CNT_COUNT ap + 1) := by
  rw [readTimedOut, setOnce_getI (by decide), countI_count rfl (by decide), getI_of_butField (quarantine_but (by decide +kernel) ..)]

theorem readTimedOut_flag (ap : Nat) (x : HostTag) (s : State) : (readTimedOut ap x s).flag Reg.HIF_STATUS_CPL_TIMEOUT = true :=
  setOnce_flag rfl ..

theorem readTimeout_completes (ap tag : Nat) (x : HostTag) (s : State)
    (hx : (s.hif.tags.find? fun y => y.ap == ap && y.tag == tag) = some x)
    (hd : x.since + timeoutStrokes s (fnKey x.ap x.rid) + 1 ≤ s.stk.boundary) : answers (.readTimeout ap tag) s fun t =>
      (⟨x.ap, x.tag, s.stk.boundary + s.eff Reg.HIF_TAG_QUAR_STROKES⟩ : QuarTag) ∈ t.hif.quar ∧
      t.getI Reg.HIF_TIMEOUT_CNT_COUNT ap = min 0xFFFFFFFF (s.getI Reg.HIF_TIMEOUT_CNT_COUNT ap + 1) ∧
      t.flag Reg.HIF_STATUS_CPL_TIMEOUT = true := by
  have e : exec (.readTimeout ap tag) s = .next ((readFailed x St.hostTimeout (readTimedOut ap x s)).emit
      (.aer ap (some x.rid) .completionTimeout)) := by
    refine (show _ = execReadTimeout ap tag s from rfl).trans ?_
    unfold execReadTimeout
    simp only [hx, if_neg (Nat.not_lt.2 hd)]
    rfl
  refine ⟨_, e, ?_, ?_, ?_⟩
  · rw [State.emit_hif, State.quar_of_hostLists (readFailed_hostLists ..)]
    exact readTimedOut_quar (List.mem_of_find?_eq_some hx)
  · exact (emit_getI ..).trans ((getI_of_butField (readFailed_but (by decide +kernel) ..) ap).trans (readTimedOut_count ..))
  · exact (emit_flag ..).trans ((flag_of_butField (readFailed_but (by decide +kernel) ..)).trans (readTimedOut_flag ..))

theorem tagQuarantineEnd_completes (ap tag : Nat) (x : QuarTag) (s : State)
    (hx : (s.hif.quar.find? fun y => y.ap == ap && y.tag == tag) = some x) (hd : x.till ≤ s.stk.boundary) :
    answers (.tagQuarantineEnd ap tag) s fun t => x ∉ t.hif.quar ∧ t.mem = s.mem := by
  have e : exec (.tagQuarantineEnd ap tag) s = execTagQuarantineEnd ap tag s := rfl
  unfold execTagQuarantineEnd at e
  simp only [hx, if_neg (Nat.not_lt.2 hd)] at e
  refine ⟨_, e, ?_, mem_of_answer (execTagQuarantineEnd_but (by decide +kernel) ap tag s) e⟩
  rw [State.quar_of_hostLists (retryReads_hostLists _), tagCounts_hif]
  simp

/-- Settles O23: a setting changes the niche's own part alone, a poll ends in its ring whatever its answer brings, and the ends of
  reads leave the quarantined tags. -/
theorem nicheSettingCommandsComplete : Obligations.NicheSettingCommandsComplete := by
  unfold Obligations.NicheSettingCommandsComplete
  refine ⟨?_, ?_, ?_, ?_, ?_, ?_, ?_, ?_, ?_, ?_, ?_, ?_⟩
  · rintro who entry n x s ⟨h, hl, hx⟩
    exact spoofWrite_completes who entry n x s h hl hx
  · rintro who n x s ⟨h, hl, hx⟩
    exact spoofMode_completes who n x s h hl hx
  · rintro who n x s ⟨h, hl, hx⟩
    exact wakeSet_completes who n x s h hl hx
  · rintro who block n s ⟨h, hl, hv, hq⟩
    exact logStart_completes who block n s h hl hv hq
  · rintro who n s ⟨h, hl⟩
    exact harvest_completes who n s h hl
  · rintro p x d r s ⟨hp, hx, hd, hr⟩
    exact harvestCopyDone_completes p x d r s hp hx hd hr
  · rintro who n s ⟨h, hl⟩
    exact logStop_completes who n s h hl
  · rintro who value s ⟨hw, hb⟩
    exact nicheCounterClear_completes who value s hw hb
  · rintro ap tag status r data x s ⟨hx, hp⟩
    exact hostReadCompletion_poll ap tag status r data x s hx hp
  · rintro ap tag status data s hx
    exact hostReadCompletion_late ap tag status data s hx
  · rintro ap tag x s ⟨hx, hd⟩
    exact readTimeout_completes ap tag x s hx hd
  · rintro ap tag x s ⟨hx, hd⟩
    exact tagQuarantineEnd_completes ap tag x s hx hd

end Sys2Proof.Machine
end

section
/-!
CERTIFICATE. The host links: resets of attachment points and of functions, links that train and go down, and readiness.
-/
namespace Sys2Proof.Machine
set_option Elab.async false

/-! ### The attachment points held in reset -/

/-- The attachment points in PERST and in D3cold. -/
def State.heldAps (s : State) : List Nat × List Nat := (s.hif.perst, s.hif.cold)

theorem State.heldAps_congr {s t : State} (h : t.hif = s.hif) : t.heldAps = s.heldAps := by rw [State.heldAps, h]; rfl

theorem State.heldAps_of_lists {s t : State} (h : t.hostLists = s.hostLists) : t.heldAps = s.heldAps := congrArg (fun l => (l.1, l.2.1)) h

theorem State.perst_of_heldAps {s t : State} (h : t.heldAps = s.heldAps) : t.hif.perst = s.hif.perst := congrArg Prod.fst h

theorem State.cold_of_heldAps {s t : State} (h : t.heldAps = s.heldAps) : t.hif.cold = s.hif.cold := congrArg Prod.snd h

theorem foldl_heldAps {α : Type} {f : State → α → State} (hf : ∀ s a, (f s a).heldAps = s.heldAps) (l : List α) (s : State) :
    (l.foldl f s).heldAps = s.heldAps := by
  induction l generalizing s with
  | nil => rfl
  | cons a l ih => exact (ih _).trans (hf s a)

theorem quarantine_heldAps (p : HostTag → Bool) (b : Nat) (s : State) : (quarantine p b s).heldAps = s.heldAps := by
  unfold quarantine
  dsimp only
  exact (State.heldAps_congr (hif_of_butPart (foldl_but (fun _ _ => tagCounts_but (by decide +kernel) ..) ..))).trans rfl

theorem tagsReset_heldAps (hit : HostTag → Bool) (s : State) : (tagsReset hit s).heldAps = s.heldAps := by
  unfold tagsReset
  refine (foldl_heldAps (fun u x => ?_) _ _).trans (quarantine_heldAps ..)
  split
  · exact State.heldAps_congr (hif_of_butPart (pollLost_but (by decide +kernel) ..))
  · split
    · exact State.heldAps_of_lists (readFailed_hostLists ..)
    · rfl
  · rfl
  · exact State.heldAps_of_lists (readFailed_hostLists ..)
  · exact State.heldAps_of_lists (readFailed_hostLists ..)
  · exact State.heldAps_of_lists (readFailed_hostLists ..)

theorem fnReset_heldAps (removed cold : Bool) (s : State) (f : Fn) : (fnReset removed cold s f).heldAps = s.heldAps := by
  unfold fnReset
  dsimp only
  refine (State.heldAps_congr (hif_of_butPart (fnShow_but (by decide +kernel) ..))).trans ?_
  refine (State.heldAps_congr (hif_of_butPart (foldl_but (fun _ _ => functionResetsNiche_but (by decide +kernel) ..) ..))).trans ?_
  refine Eq.trans (b := State.heldAps (if removed then _ else _)) rfl ?_
  split
  · exact State.heldAps_congr ((State.setI_hif ..).trans (State.setsI_hif ..))
  · exact State.heldAps_congr (State.setsI_hif ..)

theorem managerLost_heldAps (s : State) : (managerLost s).heldAps = s.heldAps := by
  unfold managerLost
  split <;> rfl

theorem atcDrop_heldAps (hit : AtcEntry → Bool) (s : State) : (atcDrop hit s).heldAps = s.heldAps :=
  (State.heldAps_congr (State.set_hif ..)).trans rfl

/-- R180: a link that is up, shown down. -/
def linkShownDown (ap : Nat) (s : State) : State :=
  (s.setsI ap [(Reg.HIF_LINK_UP, 0), (Reg.HIF_LINK_FLIT, 0), (Reg.HIF_LINK_SPEED, 0), (Reg.HIF_LINK_WIDTH, 0),
    (Reg.HIF_LINK_L0P_WIDTH, 0), (Reg.HIF_LINK_PM, 0), (Reg.HIF_LINK_IDE_LINK, 0)]).set Reg.HIF_STATUS_LINK_CHANGE 1

/-- R195: a link that trains, stopped. -/
def trainingStopped (ap : Nat) (s : State) : State := s.updHif fun u => { u with training := s.hif.training.filter fun a => a != ap }

theorem linkGoesDown_eq (ap : Nat) (s : State) : linkGoesDown ap s = if (trainingStopped ap s).flagI Reg.HIF_LINK_UP ap then
    safeRole (standbyShow (raise Ev.hifLinkDown ap 0 (linkShownDown ap (trainingStopped ap s)))) else trainingStopped ap s := rfl

theorem linkShownDown_hif (ap : Nat) (s : State) : (linkShownDown ap s).hif = s.hif := (State.set_hif ..).trans (State.setsI_hif ..)

theorem linkGoesDown_heldAps (ap : Nat) (s : State) : (linkGoesDown ap s).heldAps = s.heldAps := by
  rw [linkGoesDown_eq]
  split
  · refine (State.heldAps_of_lists (safeRole_hostLists _)).trans ((State.heldAps_congr (standbyShow_hif _)).trans ?_)
    exact (State.heldAps_congr ((raise_hif ..).trans (linkShownDown_hif ..))).trans rfl
  · rfl

/-! ### The reset of an attachment point -/

/-- R202: a reset recorded, with its event where it has one. -/
def resetSeen (kind ap : Nat) (s : State) : State :=
  if kind = 1 ∨ kind = 2 then raise Ev.hifReset ap kind (resetLast ap kind 0 s) else resetLast ap kind 0 s

/-- R180: the functions of an attachment point take their reset values. -/
def apFunctionsReset (kind ap : Nat) (s : State) : State := (s.fnsOf ap).foldl (fun s f => fnReset (f.vf != 0) (kind == 5) s f) s

/-- R180, R182: the reads, the translations and the streams of an attachment point go, and the manager with it. -/
def apCleared (ap : Nat) (s : State) : State :=
  let s := atcDrop (fun a => a.ap == ap) (tagsReset (fun t => t.ap == ap) s)
  let s := (s.updHif fun u => { u with ide := s.hif.ide.filter fun x => x.ap != ap }).setI Reg.HIF_LINK_IDE_LINK ap 0
  if s.mgrActive.1 = ap then managerLost s else s

/-- R180: a reset before its link follows. -/
def apUnlinked (kind ap : Nat) (s : State) : State := apCleared ap (apFunctionsReset kind ap (resetSeen kind ap s))

theorem apReset_eq (kind ap : Nat) (s : State) :
    apReset kind ap s = standbyShow (if kind = 2 then apUnlinked kind ap s else linkGoesDown ap (apUnlinked kind ap s)) := rfl

/-- What a reset changes once it is recorded, its link apart. -/
def apUnlinked.within (E : Touch → Bool) : Bool := fnReset.within E && tagsReset.within E && atcDrop.within E && E (.part .hif) &&
  E Reg.HIF_LINK_IDE_LINK.touch && managerLost.within E

theorem apUnlinked_but {E : Touch → Bool} (h : apUnlinked.within E = true) (kind ap : Nat) (s : State) :
    (apUnlinked kind ap s).but E = (resetSeen kind ap s).but E := by
  simp only [apUnlinked.within, Bool.and_eq_true] at h
  have hf (u : State) : (apFunctionsReset kind ap u).but E = u.but E := foldl_but (fun _ _ => fnReset_but (by simp only [h]) ..) ..
  have hc (u : State) : (apCleared ap u).but E = u.but E := by simp [apCleared, h]
  exact (hc _).trans (hf _)

theorem apUnlinked_heldAps (kind ap : Nat) (s : State) : (apUnlinked kind ap s).heldAps = s.heldAps := by
  have hf (u : State) : (apFunctionsReset kind ap u).heldAps = u.heldAps := foldl_heldAps (fun _ _ => fnReset_heldAps ..) ..
  have hr : (resetSeen kind ap s).heldAps = s.heldAps := by
    unfold resetSeen
    split <;> exact State.heldAps_congr (State.setsI_hif ..)
  have hc (u : State) : (apCleared ap u).heldAps = u.heldAps := by
    have hi (v : State) : ((v.updHif fun h => { h with ide := v.hif.ide.filter fun x => x.ap != ap }).setI Reg.HIF_LINK_IDE_LINK ap 0).heldAps =
        v.heldAps := (State.heldAps_congr (State.setI_hif ..)).trans rfl
    unfold apCleared
    dsimp only
    split
    · exact (managerLost_heldAps _).trans ((hi _).trans ((atcDrop_heldAps ..).trans (tagsReset_heldAps ..)))
    · exact (hi _).trans ((atcDrop_heldAps ..).trans (tagsReset_heldAps ..))
  exact (hc _).trans ((hf _).trans hr)

theorem apReset_heldAps (kind ap : Nat) (s : State) : (apReset kind ap s).heldAps = s.heldAps := by
  rw [apReset_eq]
  refine (State.heldAps_congr (standbyShow_hif _)).trans ?_
  split
  · exact apUnlinked_heldAps ..
  · exact (linkGoesDown_heldAps ..).trans (apUnlinked_heldAps ..)

theorem resetLast_kind (ap kind rid : Nat) (s : State) : (resetLast ap kind rid s).getI Reg.HIF_RESET_LAST_KIND ap = kind % 2 ^ 4 := by
  simp (disch := decide) only [resetLast, State.setsI_cons, State.setsI_nil, State.getI_setI_touch_ne, State.getI_setI_same]
  rfl

theorem resetSeen_kind (kind ap : Nat) (s : State) : (resetSeen kind ap s).getI Reg.HIF_RESET_LAST_KIND ap = kind % 2 ^ 4 := by
  unfold resetSeen
  split
  · exact (State.getI_raise ..).trans (resetLast_kind ..)
  · exact resetLast_kind ..

/-- A reset records its kind. -/
theorem apReset_kind (kind ap : Nat) (s : State) : (apReset kind ap s).getI Reg.HIF_RESET_LAST_KIND ap = kind % 2 ^ 4 := by
  have hu : (apUnlinked kind ap s).getI Reg.HIF_RESET_LAST_KIND ap = kind % 2 ^ 4 :=
    (getI_of_butField (apUnlinked_but (by decide +kernel) ..) ap).trans (resetSeen_kind ..)
  rw [apReset_eq]
  refine (getI_of_butField (standbyShow_but (by decide +kernel) _) ap).trans ?_
  split
  · exact hu
  · exact (getI_of_butField (linkGoesDown_but (by decide +kernel) ..) ap).trans hu

theorem linkShownDown_up (ap : Nat) (s : State) : (linkShownDown ap s).flagI Reg.HIF_LINK_UP ap = false := by
  have h : (linkShownDown ap s).getI Reg.HIF_LINK_UP ap = 0 := by
    rw [linkShownDown, State.set]
    simp (disch := decide) only [State.setsI_cons, State.setsI_nil, State.getI_setI_touch_ne, State.getI_setI_same]
    rfl
  rw [State.flagI, h]
  rfl

theorem raise_flagI (id obj data i : Nat) (s : State) (f : Field) : (raise id obj data s).flagI f i = s.flagI f i := rfl

theorem linkGoesDown_up (ap : Nat) (s : State) : (linkGoesDown ap s).flagI Reg.HIF_LINK_UP ap = false := by
  rw [linkGoesDown_eq]
  split
  · refine (flagI_of_butField (safeRole_but (by decide +kernel) _) ap).trans ?_
    refine (flagI_of_butField (standbyShow_but (by decide +kernel) _) ap).trans ?_
    exact (raise_flagI ..).trans (linkShownDown_up ..)
  next h => exact Bool.eq_false_iff.2 h

/-- A reset other than a hot reset takes the link down. -/
theorem apReset_up {kind : Nat} (h : kind ≠ 2) (ap : Nat) (s : State) : (apReset kind ap s).flagI Reg.HIF_LINK_UP ap = false := by
  rw [apReset_eq, if_neg h]
  exact (flagI_of_butField (standbyShow_but (by decide +kernel) _) ap).trans (linkGoesDown_up ..)

/-- A hot reset keeps the link. -/
theorem apReset_hot_up (ap : Nat) (s : State) : (apReset 2 ap s).flagI Reg.HIF_LINK_UP ap = s.flagI Reg.HIF_LINK_UP ap := by
  rw [apReset_eq, if_pos rfl]
  refine (flagI_of_butField (standbyShow_but (by decide +kernel) _) ap).trans ?_
  refine (flagI_of_butField (apUnlinked_but (by decide +kernel) ..) ap).trans ?_
  exact flagI_of_butField (resetLast_but (by decide +kernel) ap 2 0 s) ap

theorem perstAssert_completes (ap : Nat) (s : State) (hu : s.apUsed ap = true) (hd : 2 ≤ s.dev) : answers (.perstAssert ap) s fun t =>
      t.getI Reg.HIF_RESET_LAST_KIND ap = 1 ∧ t.flagI Reg.HIF_LINK_UP ap = false ∧ ap ∈ t.hif.perst := by
  have hgo : ¬ (s.apUsed ap = false ∨ s.dev < 2) := not_or.2 ⟨by simp [hu], Nat.not_lt.2 hd⟩
  refine ⟨_, congrArg Host.Outcome.next (if_neg hgo), apReset_kind 1 ap _, apReset_up (by decide) .., ?_⟩
  rw [State.perst_of_heldAps (apReset_heldAps ..)]
  exact mem_insertNat ap s.hif.perst

theorem d3cold_completes (ap : Nat) (s : State) (hu : s.apUsed ap = true) (hd : 2 ≤ s.dev) : answers (.d3cold ap) s fun t =>
      t.getI Reg.HIF_RESET_LAST_KIND ap = 5 ∧ t.flagI Reg.HIF_LINK_UP ap = false ∧ ap ∈ t.hif.cold := by
  have hgo : ¬ (s.apUsed ap = false ∨ s.dev < 2) := not_or.2 ⟨by simp [hu], Nat.not_lt.2 hd⟩
  refine ⟨_, congrArg Host.Outcome.next (if_neg hgo), apReset_kind 5 ap _, apReset_up (by decide) .., ?_⟩
  rw [State.cold_of_heldAps (apReset_heldAps ..)]
  exact mem_insertNat ap s.hif.cold

theorem hotReset_completes (ap : Nat) (s : State) (hu : s.flagI Reg.HIF_LINK_UP ap = true) : answers (.hotReset ap) s fun t =>
      t.getI Reg.HIF_RESET_LAST_KIND ap = 2 ∧ t.flagI Reg.HIF_LINK_UP ap = true :=
  ⟨_, congrArg Host.Outcome.next (if_pos hu), apReset_kind 2 ap s, (apReset_hot_up ap s).trans hu⟩

theorem startTraining_regs (ap : Nat) (s : State) : (startTraining ap s).regs = s.regs := by
  unfold startTraining
  split <;> rfl

theorem startTraining_getI (ap : Nat) (s : State) (f : Field) (i : Nat) : (startTraining ap s).getI f i = s.getI f i := by
  unfold startTraining
  split <;> rfl

theorem startTraining_flagI (ap : Nat) (s : State) (f : Field) (i : Nat) : (startTraining ap s).flagI f i = s.flagI f i :=
  congrArg (· == 1) (startTraining_getI ap s f i)

theorem linkDown_completes (ap : Nat) (s : State) (hu : s.flagI Reg.HIF_LINK_UP ap = true) : answers (.linkDown ap) s fun t =>
      t.getI Reg.HIF_RESET_LAST_KIND ap = 3 ∧ t.flagI Reg.HIF_LINK_UP ap = false := by
  have hl : linkDown ap s = apReset 3 ap s := if_pos hu
  refine ⟨_, congrArg Host.Outcome.next (if_pos hu), ?_, ?_⟩
  · rw [startTraining_getI, hl]
    exact apReset_kind 3 ap s
  · rw [startTraining_flagI, hl]
    exact apReset_up (by decide) ap s

/-! ### Links that train -/

/-- R178, R183: an attachment point released from its resets. -/
def perstReleased (ap : Nat) (s : State) : State := s.updHif fun _ => { s.hif with
  perst := s.hif.perst.filter fun a => a != ap, cold := s.hif.cold.filter fun a => a != ap, wakeN := s.hif.wakeN.filter fun a => a != ap }

theorem startTraining_held (ap : Nat) (s : State) : (startTraining ap s).hif.perst = s.hif.perst ∧
    (startTraining ap s).hif.cold = s.hif.cold ∧ (startTraining ap s).hif.wakeN = s.hif.wakeN := by
  unfold startTraining
  split <;> exact ⟨rfl, rfl, rfl⟩

theorem notMem_released (ap : Nat) (l : List Nat) : ap ∉ l.filter fun a => a != ap := by simp

theorem released_contains (ap : Nat) (l : List Nat) : (l.filter fun a => a != ap).contains ap = false := by simp

theorem startTraining_trains {ap : Nat} {s : State} (h : s.pwr.b2 = true ∧ 2 ≤ s.dev ∧ s.apUsed ap = true ∧ s.apEnabled ap = true ∧
    s.ctrlHeld (ap / 2) = false ∧ s.hif.perst.contains ap = false ∧ s.hif.cold.contains ap = false ∧
    s.flagI Reg.HIF_LINK_UP ap = false) : ap ∈ (startTraining ap s).hif.training := by
  unfold startTraining
  rw [if_pos h]
  exact mem_insertNat ap s.hif.training

theorem perstDeassert_completes (ap : Nat) (s : State) : answers (.perstDeassert ap) s fun t =>
      ap ∉ t.hif.perst ∧ ap ∉ t.hif.cold ∧ ap ∉ t.hif.wakeN ∧
      (s.pwr.b2 = true → 2 ≤ s.dev → s.apUsed ap = true → s.apEnabled ap = true → s.ctrlHeld (ap / 2) = false →
        s.flagI Reg.HIF_LINK_UP ap = false → ap ∈ t.hif.training) ∧ t.regs = s.regs ∧ t.mem = s.mem := by
  have e : exec (.perstDeassert ap) s = .next (startTraining ap (perstReleased ap s)) := rfl
  obtain ⟨hperst, hcold, hwake⟩ := startTraining_held ap (perstReleased ap s)
  refine ⟨_, e, ?_, ?_, ?_, fun hb hd hu he hc hl => ?_, startTraining_regs .., startTraining_mem ..⟩
  · rw [hperst]
    exact notMem_released ap s.hif.perst
  · rw [hcold]
    exact notMem_released ap s.hif.cold
  · rw [hwake]
    exact notMem_released ap s.hif.wakeN
  · exact startTraining_trains ⟨hb, hd, hu, he, hc, released_contains ap s.hif.perst, released_contains ap s.hif.cold, hl⟩

theorem linkRate_le (s : State) (ap speed : Nat) : linkRate s ap speed ≤ 7 := by
  unfold linkRate
  dsimp only
  refine (Nat.min_le_left ..).trans ((Nat.min_le_right ..).trans ?_)
  split <;> decide

/-- R195, R197: a link in L0. -/
def linkShownUp (ap speed width : Nat) (flit : Bool) (s : State) : State :=
  let w := min width (if s.getI Reg.HIF_CTL_MODE (ap / 2) = 1 then 8 else 16)
  let r := linkRate s ap speed
  ((trainingStopped ap s).setsI ap [(Reg.HIF_LINK_UP, 1), (Reg.HIF_LINK_FLIT, if flit ∨ 6 ≤ r then 1 else 0), (Reg.HIF_LINK_SPEED, r),
    (Reg.HIF_LINK_WIDTH, w), (Reg.HIF_LINK_L0P_WIDTH, w), (Reg.HIF_LINK_PM, 0)]).set Reg.HIF_STATUS_LINK_CHANGE 1

theorem linkShownUp_shows (ap speed width : Nat) (flit : Bool) (s : State) :
    (linkShownUp ap speed width flit s).getI Reg.HIF_LINK_UP ap = 1 ∧
    (linkShownUp ap speed width flit s).getI Reg.HIF_LINK_SPEED ap = linkRate s ap speed := by
  unfold linkShownUp
  dsimp only
  rw [State.set]
  simp (disch := decide) only [State.setsI_cons, State.setsI_nil, State.getI_setI_touch_ne, State.getI_setI_same]
  exact ⟨rfl, Nat.mod_eq_of_lt (Nat.lt_of_le_of_lt (linkRate_le ..) (by decide))⟩

theorem linkShownUp_training (ap speed width : Nat) (flit : Bool) (s : State) :
    (linkShownUp ap speed width flit s).hif.training = s.hif.training.filter fun a => a != ap := by
  rw [linkShownUp, State.set_hif, State.setsI_hif]
  rfl

theorem State.training_of_hostLists {s t : State} (h : t.hostLists = s.hostLists) : t.hif.training = s.hif.training := congrArg (·.2.2.1) h

theorem linkUp_completes (ap speed width : Nat) (flit : Bool) (s : State) (ht : ap ∈ s.hif.training) :
    answers (.linkUp ap speed width flit) s fun t => t.getI Reg.HIF_LINK_UP ap = 1 ∧
      t.getI Reg.HIF_LINK_SPEED ap = linkRate s ap speed ∧ ap ∉ t.hif.training ∧ t.mem = s.mem := by
  have hc : ¬ s.hif.training.contains ap = false := by simp [ht]
  have e : exec (.linkUp ap speed width flit) s =
      .next (safeRole (standbyShow (raise Ev.hifLinkUp ap 0 (linkShownUp ap speed width flit s)))) := by
    refine (show _ = execLinkUp ap speed width flit s from rfl).trans ?_
    unfold execLinkUp linkShownUp trainingStopped
    rw [if_neg hc]
  obtain ⟨hup, hspeed⟩ := linkShownUp_shows ap speed width flit s
  have keep {f : Field} (h : (safeRole.within (butField f) && standbyShow.within (butField f)) = true) (u : State) :
      (safeRole (standbyShow u)).getI f ap = u.getI f ap := by
    obtain ⟨hs, hb⟩ := Bool.and_eq_true_iff.1 h
    exact (getI_of_butField (safeRole_but hs _) ap).trans (getI_of_butField (standbyShow_but hb _) ap)
  refine ⟨_, e, (keep (by decide +kernel) _).trans ((State.getI_raise ..).trans hup),
    (keep (by decide +kernel) _).trans ((State.getI_raise ..).trans hspeed), ?_,
    mem_of_answer (execLinkUp_but (by decide +kernel) ap speed width flit s) e⟩
  rw [State.training_of_hostLists (safeRole_hostLists _), standbyShow_hif, raise_hif, linkShownUp_training]
  exact notMem_released ap s.hif.training

/-! ### AP_EN -/

/-- R196: the links of a controller follow the bits of AP_EN. -/
def apEnFollowed (h : Nat) (s : State) : State :=
  [2 * h, 2 * h + 1].foldl (fun s ap => if s.apEnabled ap then startTraining ap s else linkDown ap s) s

theorem apEnFollowed_but {E : Touch → Bool} (h : (startTraining.within E && linkDown.within E) = true) (k : Nat) (s : State) :
    (apEnFollowed k s).but E = s.but E := by
  obtain ⟨ht, hd⟩ := Bool.and_eq_true_iff.1 h
  exact foldl_but (fun _ _ => ite_but (startTraining_but ht ..) (linkDown_but hd ..)) ..

/-- R196: HIF_CTL_h as written. -/
def ctlWritten (h value : Nat) (s : State) : State := s.setsI h [(Reg.HIF_CTL_AP_EN, bits value 9 8), (Reg.HIF_CTL_SPEED_CAP, bits value 3 0)]

theorem ctlWritten_shows (h value : Nat) (s : State) : (ctlWritten h value s).getI Reg.HIF_CTL_AP_EN h = bits value 9 8 ∧
    (ctlWritten h value s).getI Reg.HIF_CTL_SPEED_CAP h = bits value 3 0 := by
  unfold ctlWritten
  simp (disch := decide) only [State.setsI_cons, State.setsI_nil, State.getI_setI_touch_ne, State.getI_setI_same]
  exact ⟨Nat.mod_mod .., Nat.mod_mod ..⟩

theorem apEnWrite_completes (who : Issuer) (h value : Nat) (s : State) (hw : writeOpen s who (0x300000 + 8 * h)) :
    answers (.apEnWrite who h value) s fun t => t.getI Reg.HIF_CTL_AP_EN h = bits value 9 8 ∧
      t.getI Reg.HIF_CTL_SPEED_CAP h = bits value 3 0 := by
  have e : exec (.apEnWrite who h value) s = execApEnWrite who h value s := rfl
  obtain ⟨hen, hcap⟩ := ctlWritten_shows h value s
  have keep {f : Field} (hf : (jRegWrite.within (butField f) && (startTraining.within (butField f) && linkDown.within (butField f))) = true)
      (off before : Nat) : (jRegWrite who 0 off value before 0 (apEnFollowed h (ctlWritten h value s))).getI f h =
        (ctlWritten h value s).getI f h := by
    obtain ⟨hj, hl⟩ := Bool.and_eq_true_iff.1 hf
    exact (getI_of_butField (jRegWrite_but hj ..) h).trans (getI_of_butField (apEnFollowed_but hl ..) h)
  exact answers_setGate hw e rfl ⟨(keep (by decide +kernel) ..).trans hen, (keep (by decide +kernel) ..).trans hcap⟩

/-! ### Configuration requests -/

theorem configStatus_exists {s : State} {ap rid : Nat} {f : Fn} (hf : Map.find? s.hif.fns (fnKey ap rid) = some f)
    (h : configStatus s ap rid = 0) : s.flagI Reg.HIF_FN_INFO_EXISTS f.key = true := by
  by_contra hx
  have hn : s.fnExists f = false := Bool.eq_false_iff.2 hx
  simp only [configStatus, hf, hn, if_true] at h
  exact absurd h (by decide)

/-- R207: what a function that exists shows leaves its settings. -/
theorem fnShow_timeoutRange {k : Nat} {s : State} (h : s.flagI Reg.HIF_FN_INFO_EXISTS k = true) :
    (fnShow k s).getI Reg.HIF_FN_INFO_CTO_RANGE k = s.getI Reg.HIF_FN_INFO_CTO_RANGE k := by
  rw [fnShow, if_pos h]
  exact (fnNiches_getI (by decide) ..).trans (State.getI_setI_touch_ne _ _ _ _ (by decide))

section
variable {ap rid value : Nat} {f : Fn} {s : State}

theorem configRequest_reads (hu : s.flagI Reg.HIF_LINK_UP ap = true) (hf : Map.find? s.hif.fns (fnKey ap rid) = some f)
    (hs : configStatus s ap rid = 0) : execConfigRequest ap rid 0 value s = .next (s.emit (.hostReply ap rid 0 (configRead s f value))) := by
  unfold execConfigRequest
  simp only [hu, hf, hs, Bool.true_eq_false, ne_eq, not_true, if_false, if_true]

theorem configRequest_bme (hu : s.flagI Reg.HIF_LINK_UP ap = true) (hf : Map.find? s.hif.fns (fnKey ap rid) = some f)
    (hs : configStatus s ap rid = 0) : execConfigRequest ap rid 1 value s = .next ((standbyShow (if value % 2 = 1 then
      retryReads (s.setI Reg.HIF_FN_INFO_BME f.key (value % 2)) else s.setI Reg.HIF_FN_INFO_BME f.key (value % 2))).emit
      (.hostReply ap rid 0 0)) := by
  unfold execConfigRequest
  simp only [hu, hf, hs, Bool.true_eq_false, ne_eq, not_true, if_false, if_true, one_ne_zero]

theorem configRequest_range (hu : s.flagI Reg.HIF_LINK_UP ap = true) (hf : Map.find? s.hif.fns (fnKey ap rid) = some f)
    (hs : configStatus s ap rid = 0) : execConfigRequest ap rid 4 value s =
      .next ((standbyShow (fnShow f.key (s.setI Reg.HIF_FN_INFO_CTO_RANGE f.key (value % 16)))).emit (.hostReply ap rid 0 0)) := by
  unfold execConfigRequest
  simp only [hu, hf, hs, Bool.true_eq_false, ne_eq, not_true, if_false, if_true, OfNat.ofNat_ne_zero, OfNat.ofNat_ne_one, Nat.reduceEqDiff]

end

theorem configRequest_completes (ap rid op value : Nat) (f : Fn) (s : State) (hu : s.flagI Reg.HIF_LINK_UP ap = true)
    (hf : Map.find? s.hif.fns (fnKey ap rid) = some f) (hs : configStatus s ap rid = 0) : answers (.configRequest ap rid op value) s fun t =>
      (op = 0 → t.out = s.out ++ [.hostReply ap rid 0 (configRead s f value)]) ∧
      (op = 1 → t.getI Reg.HIF_FN_INFO_BME f.key = value % 2) ∧ (op = 4 → t.getI Reg.HIF_FN_INFO_CTO_RANGE f.key = value % 16) := by
  have e : exec (.configRequest ap rid op value) s = execConfigRequest ap rid op value s := rfl
  obtain ⟨t, ht⟩ : ∃ t, execConfigRequest ap rid op value s = .next t := ⟨_, rfl⟩
  refine ⟨t, e.trans ht, ?_, ?_, ?_⟩
  · rintro rfl
    obtain rfl := Host.Outcome.next.inj ((configRequest_reads hu hf hs).symm.trans ht)
    exact emit_out ..
  · rintro rfl
    obtain rfl := Host.Outcome.next.inj ((configRequest_bme hu hf hs).symm.trans ht)
    refine (emit_getI ..).trans ((getI_of_butField (standbyShow_but (by decide +kernel) _) _).trans ?_)
    have hb : (s.setI Reg.HIF_FN_INFO_BME f.key (value % 2)).getI Reg.HIF_FN_INFO_BME f.key = value % 2 :=
      (State.getI_setI_same ..).trans (Nat.mod_mod ..)
    split
    · exact (retryReads_getI_of (by decide +kernel) ..).trans hb
    · exact hb
  · rintro rfl
    obtain rfl := Host.Outcome.next.inj ((configRequest_range hu hf hs).symm.trans ht)
    have hx : (s.setI Reg.HIF_FN_INFO_CTO_RANGE f.key (value % 16)).flagI Reg.HIF_FN_INFO_EXISTS f.key = true :=
      (congrArg (· == 1) (State.getI_setI_touch_ne _ _ _ _ (by decide))).trans (configStatus_exists hf hs)
    refine (emit_getI ..).trans ((getI_of_butField (standbyShow_but (by decide +kernel) _) _).trans ?_)
    exact (fnShow_timeoutRange hx).trans ((State.getI_setI_same ..).trans (Nat.mod_mod ..))

/-! ### Function-level resets and readiness -/

/-- R181, R182: an FLR recorded, with its functions at their reset values. -/
def flrBegun (ap rid : Nat) (f : Fn) (vfs : List Fn) (s : State) : State :=
  vfs.foldl (fun s g => fnReset true false s g) (fnReset false false (raise Ev.hifReset ap 4 (resetLast ap 4 rid s)) f)

/-- R180, R182: what goes with the functions that an FLR resets. -/
def flrCleared (ap : Nat) (f : Fn) (rids : List Nat) (s : State) : State :=
  let s := atcDrop (fun a => a.ap == ap && rids.contains a.rid) (tagsReset (fun t => t.ap == ap && rids.contains t.rid) s)
  let s := if f.vf = 0 then (s.updHif (fun u => { u with ide := s.hif.ide.filter fun x => x.ap != ap || x.pf != f.pf || x.link })) else s
  standbyShow (if s.mgrActive = (ap, f.pf) ∧ f.vf = 0 then managerLost s else s)

def flrCleared.within (E : Touch → Bool) : Bool := tagsReset.within E && atcDrop.within E && E (.part .hif) && managerLost.within E &&
  standbyShow.within E

theorem flrCleared_but {E : Touch → Bool} (h : flrCleared.within E = true) (ap : Nat) (f : Fn) (rids : List Nat) (s : State) :
    (flrCleared ap f rids s).but E = s.but E := by
  simp only [flrCleared.within, Bool.and_eq_true] at h
  simp [flrCleared, h]

theorem flrBegun_kind (ap rid : Nat) (f : Fn) (vfs : List Fn) (s : State) :
    (flrBegun ap rid f vfs s).getI Reg.HIF_RESET_LAST_KIND ap = 4 := by
  refine (getI_of_butField (foldl_but (fun _ _ => fnReset_but (by decide +kernel) ..) ..) ap).trans ?_
  exact (getI_of_butField (fnReset_but (by decide +kernel) ..) ap).trans (resetLast_kind ..)

theorem flr_completes (ap rid : Nat) (f : Fn) (s : State) (hf : Map.find? s.hif.fns (fnKey ap rid) = some f) (hx : s.fnExists f = true)
    (hb : s.flagI Reg.HIF_FN_INFO_FLR_BUSY f.key = false) : answers (.flr ap rid) s fun t =>
      t.getI Reg.HIF_FN_INFO_FLR_BUSY f.key = 1 ∧ t.getI Reg.HIF_RESET_LAST_KIND ap = 4 := by
  have hgo : ¬ (s.fnExists f = false ∨ s.flagI Reg.HIF_FN_INFO_FLR_BUSY f.key = true) := by simp [hx, hb]
  obtain ⟨vfs, e⟩ : ∃ vfs, exec (.flr ap rid) s = .next (flrCleared ap f (rid :: vfs.map (·.rid))
      ((flrBegun ap rid f vfs s).setI Reg.HIF_FN_INFO_FLR_BUSY f.key 1)) := by
    refine ⟨if f.vf = 0 then (s.fnsOf ap).filter fun g => g.pf == f.pf && g.vf != 0 else [], ?_⟩
    refine (show _ = execFlr ap rid s from rfl).trans ?_
    unfold execFlr
    simp only [hf, if_neg hgo]
    rfl
  refine ⟨_, e, ?_, ?_⟩
  · exact (getI_of_butField (flrCleared_but (by decide +kernel) ..) _).trans (State.getI_setI_same ..)
  · refine (getI_of_butField (flrCleared_but (by decide +kernel) ..) ap).trans ?_
    exact (State.getI_setI_touch_ne _ _ _ _ (by decide)).trans (flrBegun_kind ..)

theorem flrComplete_completes (ap rid : Nat) (s : State) (hb : s.flagI Reg.HIF_FN_INFO_FLR_BUSY (fnKey ap rid) = true) :
    answers (.flrComplete ap rid) s fun t => t.getI Reg.HIF_FN_INFO_FLR_BUSY (fnKey ap rid) = 0 ∧
      t.out = s.out ++ [.readiness ap rid] ∧ t.mem = s.mem := by
  refine ⟨_, congrArg Host.Outcome.next (if_pos hb), ?_, ?_, ?_⟩
  · exact (emit_getI ..).trans (State.getI_setI_same ..)
  · exact (emit_out ..).trans (congrArg (· ++ _) (State.setI_out ..))
  · exact (State.emit_mem ..).trans (State.setI_mem ..)

/-- R183: a function of an attachment point that becomes ready says so. -/
def sayReady (ap : Nat) (s : State) (f : Fn) : State :=
  if s.fnExists f ∧ f.notReady ∧ s.flagI Reg.HIF_FN_INFO_FLR_BUSY f.key = false then
    (updFn f.key (fun f => { f with notReady := false }) s).emit (.readiness ap f.rid)
  else s

theorem sayReady_regs (ap : Nat) (s : State) (f : Fn) : (sayReady ap s f).regs = s.regs := by
  unfold sayReady
  split <;> rfl

theorem sayReady_mem (ap : Nat) (s : State) (f : Fn) : (sayReady ap s f).mem = s.mem := by
  unfold sayReady
  split <;> rfl

theorem sayReady_out (ap : Nat) (s : State) (f : Fn) : s.out ⊆ (sayReady ap s f).out := by
  unfold sayReady
  split
  · rw [emit_out]
    exact List.subset_append_left ..
  · exact fun _ h => h

theorem foldl_sayReady (ap : Nat) (l : List Fn) (s : State) : (l.foldl (sayReady ap) s).regs = s.regs ∧
    (l.foldl (sayReady ap) s).mem = s.mem ∧ s.out ⊆ (l.foldl (sayReady ap) s).out := by
  induction l generalizing s with
  | nil => exact ⟨rfl, rfl, fun _ h => h⟩
  | cons f l ih =>
    obtain ⟨hr, hm, ho⟩ := ih (sayReady ap s f)
    exact ⟨hr.trans (sayReady_regs ..), hm.trans (sayReady_mem ..), fun _ h => ho (sayReady_out ap s f h)⟩

theorem State.flagI_of_regs {s t : State} (h : t.regs = s.regs) (f : Field) (i : Nat) : t.flagI f i = s.flagI f i :=
  congrArg (· == 1) (State.getI_congr h f i)

/-- Each of the functions that become ready says so, whatever those before it say. -/
theorem readiness_said {ap : Nat} {l : List Fn} {s t : State} {f : Fn} (hr : t.regs = s.regs) (hf : f ∈ l) (hx : s.fnExists f = true)
    (hn : f.notReady = true) (hb : s.flagI Reg.HIF_FN_INFO_FLR_BUSY f.key = false) :
    Out.readiness ap f.rid ∈ (l.foldl (sayReady ap) t).out := by
  induction l generalizing t with
  | nil => exact absurd hf List.not_mem_nil
  | cons g l ih =>
    obtain rfl | hf := List.mem_cons.1 hf
    · have hgo : t.fnExists f = true ∧ f.notReady = true ∧ t.flagI Reg.HIF_FN_INFO_FLR_BUSY f.key = false :=
        ⟨(State.flagI_of_regs hr ..).trans hx, hn, (State.flagI_of_regs hr ..).trans hb⟩
      obtain ⟨-, -, ho⟩ := foldl_sayReady ap l (sayReady ap t f)
      refine ho ?_
      rw [sayReady, if_pos hgo, emit_out]
      exact List.mem_append_right _ (List.mem_singleton_self _)
    · exact ih ((sayReady_regs ..).trans hr) hf

theorem functionReady_completes (ap : Nat) (s : State) (hu : s.flagI Reg.HIF_LINK_UP ap = true) : answers (.functionReady ap) s fun t =>
      (∀ f ∈ s.fnsOf ap, s.fnExists f = true → f.notReady = true → s.flagI Reg.HIF_FN_INFO_FLR_BUSY f.key = false →
        Out.readiness ap f.rid ∈ t.out) ∧ t.regs = s.regs ∧ t.mem = s.mem := by
  have hgo : ¬ s.flagI Reg.HIF_LINK_UP ap = false := by simp [hu]
  have e : exec (.functionReady ap) s = .next ((s.fnsOf ap).foldl (sayReady ap) s) :=
    (show _ = execFunctionReady ap s from rfl).trans (congrArg Host.Outcome.next (if_neg hgo))
  obtain ⟨hr, hm, -⟩ := foldl_sayReady ap (s.fnsOf ap) s
  exact ⟨_, e, fun f hf hx hn hb => readiness_said rfl hf hx hn hb, hr, hm⟩

/-- Settles O19: a reset is recorded first and its link follows last, and what it clears between them touches neither register; links
  that train or go down keep what they show through the moves of the manager's role. -/
theorem hostLinkCommandsComplete : Obligations.HostLinkCommandsComplete := by
  unfold Obligations.HostLinkCommandsComplete
  refine ⟨?_, ?_, ?_, ?_, ?_, ?_, ?_, ?_, ?_, ?_, ?_⟩
  · rintro ap s ⟨-, hu, hd⟩
    exact perstAssert_completes ap s hu hd
  · exact perstDeassert_completes
  · rintro ap s ⟨-, hu⟩
    exact hotReset_completes ap s hu
  · rintro ap speed width flit s ⟨-, ht⟩
    exact linkUp_completes ap speed width flit s ht
  · rintro ap s ⟨-, hu⟩
    exact linkDown_completes ap s hu
  · rintro who h value s ⟨-, hw⟩
    exact apEnWrite_completes who h value s hw
  · rintro ap rid op value f s ⟨hu, hf, hs⟩
    exact configRequest_completes ap rid op value f s hu hf hs
  · rintro ap rid f s ⟨-, hf, hx, hb⟩
    exact flr_completes ap rid f s hf hx hb
  · exact flrComplete_completes
  · exact functionReady_completes
  · rintro ap s ⟨-, hu, hd⟩
    exact d3cold_completes ap s hu hd

end Sys2Proof.Machine
end

section
/-!
CERTIFICATE. What the ring, DMA, tile, thread and debug commands leave unchanged.
-/
namespace Sys2Proof.Machine
set_option Elab.async false

/-- Settles O56: each command's frame holds, its changes lie within what the statement lists. -/
theorem ringAndTileFrames : Obligations.RingAndTileFrames := by
  unfold Obligations.RingAndTileFrames
  refine ⟨?_, ?_, ?_, ?_, ?_, ?_, ?_, ?_, ?_, ?_, ?_, ?_, ?_, ?_, ?_, ?_, ?_, ?_, ?_, ?_, ?_, ?_, ?_, ?_, ?_, ?_, ?_, ?_, ?_, ?_,
    ?_, ?_, ?_, ?_, ?_, ?_, ?_, ?_, ?_, ?_, ?_, ?_, ?_, ?_, ?_, ?_, ?_, ?_, ?_, ?_, ?_, ?_, ?_, ?_⟩
  · exact fun who desc => keeps_of_but (by decide +kernel) (execRngCreate_but (by decide +kernel) who desc)
  · exact fun who => keeps_of_but (by decide +kernel) (execRngEnable_but (by decide +kernel) who)
  · exact fun who => keeps_of_but (by decide +kernel) (execRngDisable_but (by decide +kernel) who)
  · exact fun who => keeps_of_but (by decide +kernel) (execRngDestroy_but (by decide +kernel) who)
  · exact fun w desc => keeps_of_but (by decide +kernel) (execRingCreate_but (by decide +kernel) w desc)
  · exact fun w => keeps_of_but (by decide +kernel) (execRingEnable_but (by decide +kernel) w)
  · exact fun w => keeps_of_but (by decide +kernel) (execRingDisable_but (by decide +kernel) w)
  · exact fun w => keeps_of_but (by decide +kernel) (execRingDestroy_but (by decide +kernel) w)
  · exact fun ring => keeps_of_but (by decide +kernel) (execRingIdle_but (by decide +kernel) ring)
  · exact fun h => keeps_of_but (by decide +kernel) (execRingPoll_but (by decide +kernel) h)
  · exact fun ring entries => keeps_of_but (by decide +kernel) (execRingPollData_but (by decide +kernel) ring entries)
  · exact fun who niche ring => keeps_of_but (by decide +kernel) (execNudge_but (by decide +kernel) who niche ring)
  · exact fun who off data => keeps_of_but (by decide +kernel) (execResidentRingWrite_but (by decide +kernel) who off data)
  · exact keeps_of_but (by decide +kernel) (execResidentIntake_but (by decide +kernel))
  · exact fun who niche ring count arm => keeps_of_but (by decide +kernel) (execCqRelease_but (by decide +kernel) who niche ring count arm)
  · exact fun who niche ring count arm => keeps_of_but (by decide +kernel) (execEqRelease_but (by decide +kernel) who niche ring count arm)
  · exact fun ring => keeps_of_but (by decide +kernel) (execCqRestart_but (by decide +kernel) ring)
  · exact fun ring => keeps_of_but (by decide +kernel) (execEventMsixSend_but (by decide +kernel) ring)
  · exact fun w => keeps_of_but (by decide +kernel) (execNop_but (by decide +kernel) w)
  · exact fun w => keeps_of_but (by decide +kernel) (execSend_but (by decide +kernel) w)
  · exact fun w => keeps_of_but (by decide +kernel) (execRecvPost_but (by decide +kernel) w)
  · exact fun w => keeps_of_but (by decide +kernel) (execAbort_but (by decide +kernel) w)
  · exact fun w => keeps_of_but (by decide +kernel) (execCopy_but (by decide +kernel) w)
  · exact fun w => keeps_of_but (by decide +kernel) (execFill_but (by decide +kernel) w)
  · exact fun w elements => keeps_of_but (by decide +kernel) (execList_but (by decide +kernel) w elements)
  · exact fun prio => keeps_of_but (by decide +kernel) (execDmaChannelStart_but (by decide +kernel) prio)
  · exact fun chan => keeps_of_but (by decide +kernel) (execDmaHalfPoint_but (by decide +kernel) chan)
  · exact fun chan => keeps_of_but (by decide +kernel) (execDmaPassEnd_but (by decide +kernel) chan)
  · exact fun hart => keeps_of_but (by decide +kernel) (execTcWait_but (by decide +kernel) hart)
  · exact fun hart => keeps_of_but (by decide +kernel) (execThreadWake_but (by decide +kernel) hart)
  · exact fun hart ns => keeps_of_but (by decide +kernel) (execTimerEvent_but (by decide +kernel) hart ns)
  · exact fun hart value => keeps_of_but (by decide +kernel) (execTcBind_but (by decide +kernel) hart value)
  · exact fun hart cycles => keeps_of_but (by decide +kernel) (execTcStrokeDone_but (by decide +kernel) hart cycles)
  · exact fun hart value => keeps_of_but (by decide +kernel) (execTcChCommit_but (by decide +kernel) hart value)
  · exact fun chan => keeps_of_but (by decide +kernel) (execChCommitUnblock_but (by decide +kernel) chan)
  · exact fun hart => keeps_of_but (by decide +kernel) (execTcChDiscard_but (by decide +kernel) hart)
  · exact fun hart ch => keeps_of_but (by decide +kernel) (execTcTake_but (by decide +kernel) hart ch)
  · exact fun hart value => keeps_of_but (by decide +kernel) (execTcItemDone_but (by decide +kernel) hart value)
  · exact fun hart value => keeps_of_but (by decide +kernel) (execTcDmaSubmit_but (by decide +kernel) hart value)
  · exact fun hart mask => keeps_of_but (by decide +kernel) (execSupInject_but (by decide +kernel) hart mask)
  · exact fun hart mask => keeps_of_but (by decide +kernel) (execSupKill_but (by decide +kernel) hart mask)
  · exact fun hart mask => keeps_of_but (by decide +kernel) (execSupStart_but (by decide +kernel) hart mask)
  · exact fun hart group => keeps_of_but (by decide +kernel) (execSupRestart_but (by decide +kernel) hart group)
  · exact fun hart => keeps_of_but (by decide +kernel) (execSupDrainDone_but (by decide +kernel) hart)
  · exact fun hart mcause mepc mtval => keeps_of_but (by decide +kernel) (execThreadFault_but (by decide +kernel) hart mcause mepc mtval)
  · exact fun hart mcause => keeps_of_but (by decide +kernel) (execSupervisorFault_but (by decide +kernel) hart mcause)
  · exact fun tile group => keeps_of_but (by decide +kernel) (execWaitCycleReport_but (by decide +kernel) tile group)
  · exact fun tile group => keeps_of_but (by decide +kernel) (execWaitGroupRestart_but (by decide +kernel) tile group)
  · exact fun hart kind addr value => keeps_of_but (by decide +kernel) (execDebugAccess_but (by decide +kernel) hart kind addr value)
  · exact fun hart => keeps_of_but (by decide +kernel) (execDebugHalt_but (by decide +kernel) hart)
  · exact fun hart => keeps_of_but (by decide +kernel) (execDebugResume_but (by decide +kernel) hart)
  · exact fun tile => keeps_of_but (by decide +kernel) (execTileDebugHold_but (by decide +kernel) tile)
  · exact fun tile => keeps_of_but (by decide +kernel) (execTileDebugRelease_but (by decide +kernel) tile)
  · exact fun hart => keeps_of_but (by decide +kernel) (execStagedDiscard_but (by decide +kernel) hart)

end Sys2Proof.Machine
end

section
/-!
CERTIFICATE. Rings: the polls issued and answered, the entries taken, and the slots released.
-/
namespace Sys2Proof.Machine
set_option Elab.async false

/-! ### What a command keeps of device memory -/

theorem mem_of_next {c : Instr} {s t : State} (h : Outcome.but notMem (exec c s) = some (s.but notMem)) (e : exec c s = .next t) :
    t.mem = s.mem := mem_of_but (but_of_next h e)

/-! ### A ring's own part -/

theorem Map.find?_isSome_of_mem {α : Type} {m : Map α} {p : Nat × α} (h : p ∈ m) : (Map.find? m p.1).isSome = true := by
  induction m with
  | nil => cases h
  | cons q m ih =>
    rw [Map.find?]
    split
    · rfl
    · next hne => exact ih ((List.mem_cons.1 h).resolve_left fun e => hne (congrArg Prod.fst e))

theorem updRing_ringX {r : Nat} {s : State} (h : s.ringExists r = true) (f : RingX → RingX) : (updRing r f s).ringX r = f (s.ringX r) := by
  obtain ⟨x, hx⟩ := Option.isSome_iff_exists.1 h
  unfold State.ringX updRing
  rw [State.updRng_rng, Map.find?_upd_same, hx]
  rfl

/-- What an update of a ring's own part leaves of every ring. -/
theorem updRing_ringX_keeps {α : Type} {g : RingX → α} {f : RingX → RingX} (hf : ∀ x, g (f x) = g x) (q r : Nat) (s : State) :
    g ((updRing q f s).ringX r) = g (s.ringX r) := by
  by_cases h : r = q
  · subst h
    unfold State.ringX updRing
    rw [State.updRng_rng, Map.find?_upd_same]
    cases Map.find? s.rng.rings r <;> simp [hf]
  · unfold State.ringX updRing
    rw [State.updRng_rng, Map.find?_upd_ne _ _ h]

theorem State.ringX_congr {s t : State} (h : t.rng.rings = s.rng.rings) (r : Nat) : t.ringX r = s.ringX r := by
  rw [State.ringX, h]
  rfl

/-- A ring whose own part differs anywhere from that of an absent ring exists. -/
theorem ringExists_of_ringX {α : Type} [DecidableEq α] {g : RingX → α} {s : State} {r : Nat}
    (h : g (s.ringX r) ≠ g (State.reset.ringX 0)) : s.ringExists r = true := by
  unfold State.ringExists
  cases e : Map.find? s.rng.rings r with
  | some x => rfl
  | none => exact absurd (congrArg (fun o => g (Option.getD o _)) e) h

/-! ### Polls -/

theorem mem_insertPair {a b : Nat × Nat} {l : List (Nat × Nat)} : a ∈ insertPair b l ↔ a = b ∨ a ∈ l := by
  induction l with
  | nil => simp [insertPair]
  | cons c l ih =>
    rw [insertPair]
    split
    · exact List.mem_cons
    · rw [List.mem_cons, ih, List.mem_cons]
      exact or_left_comm

theorem mem_sortPairs {a : Nat × Nat} {l : List (Nat × Nat)} : a ∈ sortPairs l ↔ a ∈ l := by
  induction l with
  | nil => exact Iff.rfl
  | cons b l ih => rw [sortPairs, List.foldr_cons, mem_insertPair, List.mem_cons, ← ih]; rfl

theorem ringExists_of_dueRings {s : State} {h r : Nat} (hr : r ∈ s.dueRings h) : s.ringExists r = true := by
  obtain ⟨a, ha, rfl⟩ := List.mem_map.1 hr
  obtain ⟨p, hp, e⟩ := List.mem_filterMap.1 (mem_sortPairs.1 ha)
  split at e
  · split at e
    · obtain rfl := Option.some.inj e
      exact Map.find?_isSome_of_mem hp
    · cases e
  · cases e

/-- R260: the controllers' polls are counted anew at each boundary. -/
def pollsOpened (s : State) : State :=
  if s.rng.pollAt = s.stk.boundary then s else s.updRng fun u => { u with pollAt := s.stk.boundary, polls := [] }

/-- A poll that is issued leaves its ring with a poll under way. -/
theorem issuePoll_ringX {h r : Nat} {s : State} (hok : (issueRead (s.getI Reg.RNG_INFO_NICHE r) (.poll r) s).2 = true)
    (hx : s.ringExists r = true) : (issuePoll h r s).ringX r =
      { s.ringX r with lastPoll := s.stroke, nudged := false, more := false, dueSince := none, polling := true } := by
  have hrng : (issueRead (s.getI Reg.RNG_INFO_NICHE r) (.poll r) s).1.rng = s.rng := rng_of_butPart (issueRead_but (by decide +kernel) ..)
  unfold issuePoll
  simp only [hok, if_true]
  rw [updRing_ringX, State.ringX, State.updRng_rng, hrng]
  · rfl
  · rw [State.ringExists, State.updRng_rng, hrng]
    exact hx

/-- Whether a host read is issued depends on the tags and the register map alone. -/
theorem issueRead_issued (n : Nat) (p : Purpose) (s : State) : (issueRead n p s).2 =
    (lowestFree 16384 0 ((s.hif.tags.filter fun t => t.ap == s.getI Reg.NCH_INFO_AP n).map (·.tag) ++
      (s.hif.quar.filter fun t => t.ap == s.getI Reg.NCH_INFO_AP n).map (·.tag))).isSome := by
  unfold issueRead
  dsimp only
  split <;> simp [*]

theorem pollsOpened_dueRings (s : State) (h : Nat) : (pollsOpened s).dueRings h = s.dueRings h := by
  unfold pollsOpened
  split <;> rfl

theorem pollsOpened_admitted (s : State) (k : Nat) : (pollsOpened s).admitted k = s.admitted k := by
  unfold pollsOpened
  split <;> rfl

theorem pollsOpened_stroke (s : State) : (pollsOpened s).stroke = s.stroke := by
  unfold pollsOpened
  split <;> rfl

theorem pollsOpened_ringExists (s : State) (r : Nat) : (pollsOpened s).ringExists r = s.ringExists r := by
  unfold pollsOpened
  split <;> rfl

theorem pollsOpened_polls (s : State) (h : Nat) : (Map.find? (pollsOpened s).rng.polls h).getD 0 =
    if s.rng.pollAt = s.stk.boundary then (Map.find? s.rng.polls h).getD 0 else 0 := by
  unfold pollsOpened
  split <;> rfl

theorem pollsOpened_issued (s : State) (r : Nat) (p : Purpose) :
    (issueRead ((pollsOpened s).getI Reg.RNG_INFO_NICHE r) p (pollsOpened s)).2 = (issueRead (s.getI Reg.RNG_INFO_NICHE r) p s).2 := by
  rw [issueRead_issued, issueRead_issued]
  unfold pollsOpened
  split <;> rfl

theorem ringPoll_completes (h r : Nat) (s : State) (hdue : s.dueRings h = [r])
    (hbudget : (if s.rng.pollAt = s.stk.boundary then (Map.find? s.rng.polls h).getD 0 else 0) < s.admitted (h + 1))
    (hok : (issueRead (s.getI Reg.RNG_INFO_NICHE r) (.poll r) s).2 = true) : answers (.ringPoll h) s fun t =>
      (t.ringX r).polling = true ∧ (t.ringX r).nudged = false ∧ (t.ringX r).lastPoll = s.stroke ∧ t.mem = s.mem := by
  have hx : s.ringExists r = true := ringExists_of_dueRings (h := h) (by rw [hdue]; exact List.mem_singleton_self r)
  have hs : exec (.ringPoll h) s = execRingPoll h s := rfl
  have hn : execRingPoll h s = .next (issuePoll h r (pollsOpened s)) := by
    refine congrArg Host.Outcome.next (show _ = _ from ?_ : ((pollsOpened s).dueRings h).foldl (fun s r =>
      if (Map.find? s.rng.polls h).getD 0 < s.admitted (h + 1) then issuePoll h r s else deferPoll h r s) (pollsOpened s) = _)
    rw [pollsOpened_dueRings, hdue]
    exact if_pos (by rwa [pollsOpened_polls, pollsOpened_admitted])
  have hX := issuePoll_ringX (h := h) ((pollsOpened_issued ..).trans hok) ((pollsOpened_ringExists ..).trans hx)
  refine ⟨_, hs.trans hn, ?_, ?_, ?_, mem_of_next (execRingPoll_but (by decide +kernel) h s) (hs.trans hn)⟩
  · rw [hX]
  · rw [hX]
  · rw [hX]
    exact pollsOpened_stroke s

/-! ### An entry taken -/

def entryTaken.within (E : Touch → Bool) : Bool := E (.part .rng) && updRing.within E && hostPut.within E &&
  E Reg.RNG_PTRS_CONSUMER.touch && E Reg.RNG_INFO_IDLE.touch && E Reg.RNG_PTRS_PRODUCER.touch && ringCounts.within E

theorem entryTaken_but {E : Touch → Bool} (h : entryTaken.within E) (r e : Nat) (s : State) : (entryTaken r e s).but E = s.but E := by
  simp only [entryTaken.within, Bool.and_eq_true] at h
  simp [entryTaken, slotTaken, indicesTaken, h]

theorem slotTaken_flights (r n slot : Nat) (s : State) : (slotTaken r n slot s).rng.flights = s.rng.flights := by
  unfold slotTaken
  split
  · rfl
  · rw [rng_of_butPart (hostPut_but (by decide +kernel) ..)]

theorem entryTaken_flights (r e : Nat) (s : State) : (entryTaken r e s).rng.flights =
    s.rng.flights ++ [⟨s.rng.nextSeq, r, s.getI Reg.RNG_INFO_NICHE r, e, false, [], none, none⟩] := by
  unfold entryTaken
  dsimp only
  rw [rng_of_butPart (ringCounts_but (by decide +kernel) ..), rng_of_butPart (ringCounts_but (by decide +kernel) ..), indicesTaken_rng,
    slotTaken_flights, updRing_flights]
  rfl

/-- An entry of an opcode that its ring accepts waits for its engine. -/
theorem takeEntry_accepted {r e : Nat} {s : State} (h : s.ringAccepts r (wOpcode e) = true) : takeEntry r e s = entryTaken r e s := by
  have hr : (entryTaken r e s).flagI Reg.RNG_INFO_RECEIVE r = s.flagI Reg.RNG_INFO_RECEIVE r :=
    congrArg (· == 1) (getI_of_butField (entryTaken_but (by decide +kernel) ..) r)
  have hc : (entryTaken r e s).flagI Reg.RNG_INFO_CONTROL r = s.flagI Reg.RNG_INFO_CONTROL r :=
    congrArg (· == 1) (getI_of_butField (entryTaken_but (by decide +kernel) ..) r)
  have ha : (entryTaken r e s).ringAccepts r (wOpcode e) = s.ringAccepts r (wOpcode e) := by
    unfold State.ringAccepts
    rw [hr, hc]
  rw [takeEntry_eq, if_pos (ha.trans h)]

theorem takeList_single {r e : Nat} {s : State} (ho : bit e 511 = 1) (hm : s.mayTake r = true)
    (hp : s.places (s.getI Reg.RNG_INFO_LINK r) ≠ 0) (ha : s.ringAccepts r (wOpcode e) = true) :
    takeList r [e] 0 s = (1, false, entryTaken r e s) := by
  rw [takeList, if_neg (by simp [ho, hm]), if_neg hp, takeEntry_accepted ha]
  rfl

/-! ### The answer of a poll -/

/-- R170, R259: a poll's tag returned, and the poll ended. -/
def pollEnded (x : HostTag) (r : Nat) (s : State) : State := freeTag x.ap x.tag (pollLost r s)

theorem pollEnded_getI {f : Field} (h : freeTag.within (butField f) = true) (x : HostTag) (r : Nat) (s : State) (i : Nat) :
    (pollEnded x r s).getI f i = s.getI f i := (getI_of_butField (freeTag_but h ..) i).trans rfl

theorem pollEnded_rng (x : HostTag) (r : Nat) (s : State) : (pollEnded x r s).rng = (pollLost r s).rng :=
  rng_of_butPart (freeTag_but (by decide +kernel) ..)

theorem pollEnded_hif (x : HostTag) (r : Nat) (s : State) : (pollEnded x r s).hif =
    { s.hif with tags := s.hif.tags.filter fun t => !(t.ap == x.ap && t.tag == x.tag) } := by
  rw [pollEnded, freeTag, tagCounts_hif]
  rfl

theorem pollEnded_nch (x : HostTag) (r : Nat) (s : State) : (pollEnded x r s).nch = s.nch :=
  (samePart_of_butPart (p := .nch) (freeTag_but (by decide +kernel) ..) : (pollEnded x r s).nch = (pollLost r s).nch)

theorem pollEnded_mayTake (x : HostTag) (r : Nat) (s : State) : (pollEnded x r s).mayTake r = s.mayTake r := by
  have hl : (pollEnded x r s).ringFlights r = s.ringFlights r := by
    rw [State.ringFlights, pollEnded_rng]
    rfl
  have hn (n : Nat) : (pollEnded x r s).nicheTakes n = s.nicheTakes n := by
    simp (disch := decide +kernel) only [State.nicheTakes, State.nicheFn, State.flagI, pollEnded_nch, pollEnded_hif, pollEnded_getI]
  have he : (pollEnded x r s).ringEnabled r = s.ringEnabled r := congrArg (· == 2) (pollEnded_getI (by decide +kernel) ..)
  have hd : (pollEnded x r s).dev = s.dev := pollEnded_getI (by decide +kernel) ..
  have hp : (pollEnded x r s).inP1 = s.inP1 := congrArg (fun v => decide (2 ≤ v)) (pollEnded_getI (by decide +kernel) ..)
  unfold State.mayTake State.running State.flagI
  rw [he, hd, hp, hl, hn, pollEnded_getI (f := Reg.RNG_INFO_NICHE) (by decide +kernel), pollEnded_getI (f := Reg.RNG_INFO_LINK)
    (by decide +kernel), pollEnded_getI (f := Reg.RNG_INFO_STOPPED) (by decide +kernel),
    pollEnded_getI (f := Reg.RNG_INFO_RECEIVE) (by decide +kernel)]

theorem pollEnded_ringX_keeps {α : Type} {g : RingX → α} (hg : ∀ x, g { x with polling := false } = g x) (x : HostTag) (r q : Nat)
    (s : State) : g ((pollEnded x r s).ringX q) = g (s.ringX q) := by
  rw [State.ringX_congr (congrArg Rng.rings (pollEnded_rng x r s))]
  exact updRing_ringX_keeps hg r q s

theorem pollEnded_ringSize (x : HostTag) (r q : Nat) (s : State) : (pollEnded x r s).ringSize q = s.ringSize q :=
  congrArg (2 ^ ·) (pollEnded_getI (by decide +kernel) ..)

theorem pollEnded_places (x : HostTag) (r q : Nat) (s : State) : (pollEnded x r s).places q = s.places q := by
  simp only [State.places, State.ringFree, pollEnded_ringSize, pollEnded_ringX_keeps (g := RingX.written) (fun _ => rfl),
    pollEnded_ringX_keeps (g := RingX.held) (fun _ => rfl), pollEnded_ringX_keeps (g := RingX.reserved) (fun _ => rfl)]

theorem pollEnded_ringAccepts (x : HostTag) (r o : Nat) (s : State) : (pollEnded x r s).ringAccepts r o = s.ringAccepts r o := by
  unfold State.ringAccepts State.flagI
  rw [pollEnded_getI (by decide +kernel), pollEnded_getI (by decide +kernel)]

theorem pollNoted_flights (r : Nat) (res : Nat × Bool × State) : (pollNoted r res).rng.flights = res.2.2.rng.flights := by
  unfold pollNoted
  dsimp only
  split <;> rfl

theorem pollNoted_hif (r : Nat) (res : Nat × Bool × State) : (pollNoted r res).hif = res.2.2.hif := by
  unfold pollNoted
  dsimp only
  split <;> rfl

/-- The entry that a poll brings is taken. -/
theorem pollAnswer_single {r e : Nat} {x : HostTag} {s : State} (hx : (s.hif.tags.find? fun t => t.purpose == .poll r) = some x)
    (ho : bit e 511 = 1) (hm : s.mayTake r = true) (hp : s.places (s.getI Reg.RNG_INFO_LINK r) ≠ 0)
    (ha : s.ringAccepts r (wOpcode e) = true) (hroom : s.getI Reg.RNG_PTRS_CONSUMER r < s.ringSize r) :
    pollAnswer r [e] s = pollNoted r (1, false, entryTaken r e (pollEnded x r s)) := by
  have hroom' : [e].take (min 8 ((pollEnded x r s).ringSize r - (pollEnded x r s).getI Reg.RNG_PTRS_CONSUMER r)) = [e] := by
    rw [pollEnded_ringSize, pollEnded_getI (by decide +kernel)]
    exact List.take_of_length_le (by simp only [List.length_singleton]; omega)
  have htake : takeList r [e] 0 (pollEnded x r s) = (1, false, entryTaken r e (pollEnded x r s)) := by
    refine takeList_single ho ((pollEnded_mayTake ..).trans hm) ?_ ((pollEnded_ringAccepts ..).trans ha)
    rwa [pollEnded_getI (by decide +kernel), pollEnded_places]
  have hanswer : pollAnswer r [e] s = pollNoted r (takeList r ([e].take (min 8 ((pollEnded x r s).ringSize r -
      (pollEnded x r s).getI Reg.RNG_PTRS_CONSUMER r))) 0 (pollEnded x r s)) := by
    unfold pollAnswer pollNoted pollEnded pollLost
    rw [hx]
  rw [hanswer, hroom', htake]

theorem ringPollData_completes (ring e : Nat) (x : HostTag) (s : State)
    (hx : (s.hif.tags.find? fun y => y.purpose == .poll ring) = some x) (ho : bit e 511 = 1) (hm : s.mayTake ring = true)
    (hp : s.places (s.getI Reg.RNG_INFO_LINK ring) ≠ 0) (ha : s.ringAccepts ring (wOpcode e) = true)
    (hroom : s.getI Reg.RNG_PTRS_CONSUMER ring < s.ringSize ring) : answers (.ringPollData ring [e]) s fun t =>
      t.rng.flights = s.rng.flights ++ [⟨s.rng.nextSeq, ring, s.getI Reg.RNG_INFO_NICHE ring, e, false, [], none, none⟩] ∧
      (t.ringX ring).polling = false ∧ x ∉ t.hif.tags ∧ t.mem = s.mem := by
  have hs : exec (.ringPollData ring [e]) s = execRingPollData ring [e] s := rfl
  have hn : exec (.ringPollData ring [e]) s = .next (pollNoted ring (1, false, entryTaken ring e (pollEnded x ring s))) :=
    hs.trans (congrArg Host.Outcome.next (pollAnswer_single hx ho hm hp ha hroom))
  refine ⟨_, hn, ?_, ?_, ?_, mem_of_next (execRingPollData_but (by decide +kernel) ring [e] s) hn⟩
  · rw [pollNoted_flights, entryTaken_flights, pollEnded_rng, pollEnded_getI (by decide +kernel)]
    rfl
  · rw [State.ringX_polling, pollNoted_pollings, entryTaken_pollings, pollEnded, freeTag_pollings]
    exact pollLost_polling ring s
  · rw [pollNoted_hif, hif_of_butPart (entryTaken_but (by decide +kernel) ..), pollEnded_hif]
    simp

/-! ### Doorbells and resident rings -/

theorem nudge_completes (who : Issuer) (niche ring : Nat) (s : State) (hd : s.doorbellRing niche ring 0 = true)
    (hr : s.flagI Reg.RNG_INFO_RESIDENT ring = false) : answers (.nudge who niche ring) s fun t =>
      t.deferred = s.deferred ++ [(s.dueBoundary, .nudge ring)] ∧ t.regs = s.regs ∧ t.mem = s.mem :=
  ⟨s.defer (.nudge ring), congrArg Host.Outcome.next (if_pos ⟨hd, hr⟩), defer_deferred rfl rfl _, rfl, rfl⟩

/-- R263: the slot of a resident ring once bytes are written over it. -/
def slotWritten (r slot w : Nat) (s : State) : State := updRing r (fun x => { x with slots := Map.put x.slots slot w }) s

/-- R264: an entry whose OWN bit is now set arrives in its ring. -/
def slotArrived (r slot w : Nat) (s : State) : State :=
  if bit w 511 = 1 then
    (s.updRng fun u => { u with arrived := s.rng.arrived ++ [(r, slot, s.dueBoundary)] }).setI Reg.RNG_PTRS_PRODUCER r
      ((slot + 1) % s.ringSize r)
  else s

theorem slotArrived_ringX (r slot w q : Nat) (s : State) : (slotArrived r slot w s).ringX q = s.ringX q := by
  refine State.ringX_congr ?_ q
  unfold slotArrived
  split
  · rw [State.setI_rng]
    rfl
  · rfl

theorem ringExists_of_bar2Ring {s : State} {fn off r : Nat} (h : s.bar2Ring fn off = some r) : s.ringExists r = true := by
  obtain ⟨p, hp, rfl⟩ := Option.map_eq_some_iff.1 h
  exact Map.find?_isSome_of_mem (List.mem_of_find?_eq_some hp)

theorem residentRingWrite_completes (who : Issuer) (off r slot w : Nat) (data : List Byte) (s : State)
    (hr : s.bar2Ring (fnKey who.ap who.id) off = some r) (hfit : (off - s.getI Reg.RNG_BASE_BASE r) % 64 + data.length ≤ 64)
    (hen : s.ringEnabled r = true) (hslot : (off - s.getI Reg.RNG_BASE_BASE r) / 64 = slot)
    (hw : (Map.find? (s.ringX r).slots slot).getD 0 = w) (hown : bit w 511 ≠ 1) :
    answers (.residentRingWrite who off data) s fun t =>
      Map.find? (t.ringX r).slots slot = some (slotPut w ((off - s.getI Reg.RNG_BASE_BASE r) % 64) data) ∧ t.mem = s.mem := by
  have hs : exec (.residentRingWrite who off data) s = execResidentRingWrite who off data s := rfl
  have hn : execResidentRingWrite who off data s =
      .next (slotArrived r slot (slotPut w ((off - s.getI Reg.RNG_BASE_BASE r) % 64) data)
        (slotWritten r slot (slotPut w ((off - s.getI Reg.RNG_BASE_BASE r) % 64) data) s)) := by
    subst hw hslot
    unfold execResidentRingWrite
    simp only [hr, if_neg (Nat.not_lt.2 hfit), hen, Bool.true_eq_false, if_false, if_neg hown]
    rfl
  refine ⟨_, hs.trans hn, ?_, mem_of_next (execResidentRingWrite_but (by decide +kernel) who off data s) (hs.trans hn)⟩
  rw [slotArrived_ringX, slotWritten, updRing_ringX (ringExists_of_bar2Ring hr)]
  exact Map.find?_put_same ..

/-- R264: what intake has taken is counted anew at each boundary. -/
def intakeOpened (s : State) : State := s.updRng fun u => { u with takenAt := s.stk.boundary, taken := 0, takenRing := [] }

/-- R264: an entry counted among those taken at this boundary. -/
def intakeCounted (r k : Nat) (s : State) : State :=
  s.updRng fun u => { u with taken := s.rng.taken + 1, takenRing := Map.put s.rng.takenRing r (k + 1) }

theorem residentOne_taken {r slot due : Nat} {s : State} (hdue : due ≤ s.stk.boundary) (hm : s.mayTake r = true)
    (hk : (Map.find? s.rng.takenRing r).getD 0 = 0) (hb : s.rng.taken < s.admitted 0) (hp : s.places (s.getI Reg.RNG_INFO_LINK r) ≠ 0)
    (ha : s.ringAccepts r (wOpcode ((Map.find? (s.ringX r).slots slot).getD 0)) = true) :
    residentOne (r, slot, due) ([], s) = ([], entryTaken r ((Map.find? (s.ringX r).slots slot).getD 0) (intakeCounted r 0 s)) := by
  unfold residentOne
  dsimp only
  rw [hk, if_neg (by simp [hm, hdue, hb]), if_neg hp]
  exact congrArg (Prod.mk []) (takeEntry_accepted (s := intakeCounted r 0 s) ha)

theorem residentIntake_completes (r slot due : Nat) (s : State) (harr : s.rng.arrived = [(r, slot, due)]) (hdue : due ≤ s.stk.boundary)
    (hat : s.rng.takenAt ≠ s.stk.boundary) (hm : s.mayTake r = true) (hb : 0 < s.admitted 0)
    (hp : s.places (s.getI Reg.RNG_INFO_LINK r) ≠ 0)
    (ha : s.ringAccepts r (wOpcode ((Map.find? (s.ringX r).slots slot).getD 0)) = true) : answers .residentIntake s fun t =>
      t.rng.flights = s.rng.flights ++ [⟨s.rng.nextSeq, r, s.getI Reg.RNG_INFO_NICHE r, (Map.find? (s.ringX r).slots slot).getD 0,
        false, [], none, none⟩] ∧ t.rng.arrived = [] ∧ t.mem = s.mem := by
  have hX : (intakeOpened s).ringX r = s.ringX r := rfl
  have hone := residentOne_taken (s := intakeOpened s) (slot := slot) hdue hm rfl hb hp ha
  rw [hX] at hone
  have hs : exec .residentIntake s = execResidentIntake s := rfl
  have hn : execResidentIntake s = .next ((entryTaken r ((Map.find? (s.ringX r).slots slot).getD 0)
      (intakeCounted r 0 (intakeOpened s))).updRng fun u => { u with arrived := [] }) := by
    unfold execResidentIntake
    rw [if_neg hat]
    refine (show _ = Host.Outcome.next ((s.rng.arrived.foldl (fun p a => residentOne a p) ([], intakeOpened s)).2.updRng fun u =>
      { u with arrived := (s.rng.arrived.foldl (fun p a => residentOne a p) ([], intakeOpened s)).1 }) from rfl).trans ?_
    rw [harr, List.foldl_cons, List.foldl_nil, hone]
  refine ⟨_, hs.trans hn, ?_, rfl, mem_of_next (execResidentIntake_but (by decide +kernel) s) (hs.trans hn)⟩
  rw [State.updRng_rng]
  dsimp only
  rw [entryTaken_flights]
  rfl

/-! ### Releases -/

theorem returnSlots_consumer (r count : Nat) (s : State) : (returnSlots r count s).getI Reg.RNG_PTRS_CONSUMER r =
    (s.getI Reg.RNG_PTRS_CONSUMER r + count) % s.ringSize r % 2 ^ 16 := State.getI_setI_same ..

theorem doorbellRing_iff {s : State} {niche ring type : Nat} : s.doorbellRing niche ring type = true ↔
    s.ringExists ring = true ∧ s.getI Reg.RNG_INFO_NICHE ring = niche ∧ s.getI Reg.RNG_INFO_TYPE ring = type := by
  simp only [State.doorbellRing, Bool.and_eq_true, beq_iff_eq, and_assoc]

/-- R276: a completion ring armed again by a release: its notice follows at once where entries are left. -/
def cqRearmed (ring : Nat) (arm : Bool) (s : State) : State :=
  if arm ∧ s.getI Reg.RNG_INFO_LINK ring ≠ 0x1FFFF then
    if 0 < ((s.setI Reg.RNG_INFO_ARMED ring 1).ringX ring).written then cqNotice ring (s.setI Reg.RNG_INFO_ARMED ring 1)
    else s.setI Reg.RNG_INFO_ARMED ring 1
  else s

def cqRearmed.within (E : Touch → Bool) : Bool := E Reg.RNG_INFO_ARMED.touch && cqNotice.within E

theorem cqRearmed_but {E : Touch → Bool} (h : cqRearmed.within E) (ring : Nat) (arm : Bool) (s : State) :
    (cqRearmed ring arm s).but E = s.but E := by
  simp only [cqRearmed.within, Bool.and_eq_true] at h
  simp [cqRearmed, h]

theorem cqRelease_completes (who : Issuer) (niche ring count : Nat) (arm : Bool) (s : State) (hd : s.doorbellRing niche ring 1 = true)
    (hc : count ≤ (s.ringX ring).written) : answers (.cqRelease who niche ring count arm) s fun t =>
      t.getI Reg.RNG_PTRS_CONSUMER ring = (s.getI Reg.RNG_PTRS_CONSUMER ring + count) % s.ringSize ring % 2 ^ 16 ∧ t.mem = s.mem := by
  have hs : exec (.cqRelease who niche ring count arm) s = execCqRelease who niche ring count arm s := rfl
  have hn : execCqRelease who niche ring count arm s = .next (cqRearmed ring arm (cqRoom ring (returnSlots ring count s))) := by
    unfold execCqRelease
    dsimp only
    rw [if_neg (by simp [hd]), if_neg (Nat.not_lt.2 hc)]
    rfl
  refine ⟨_, hs.trans hn, ?_, mem_of_next (execCqRelease_but (by decide +kernel) who niche ring count arm s) (hs.trans hn)⟩
  rw [getI_of_butField (cqRearmed_but (by decide +kernel) ..), getI_of_butField (cqRoom_but (by decide +kernel) ..), returnSlots_consumer]

/-- R276: an event ring armed again by a release: it owes its vector where entries are left. -/
def eqRearmed (ring : Nat) (arm : Bool) (s : State) : State :=
  if arm ∧ s.getI Reg.RNG_INFO_LINK ring % 65536 ≠ 0xFFFF then
    updRing ring (fun x => { x with owed := decide (0 < x.written) }) (s.setI Reg.RNG_INFO_ARMED ring 1)
  else s

theorem eqRearmed_written (ring q : Nat) (arm : Bool) (s : State) : ((eqRearmed ring arm s).ringX q).written = (s.ringX q).written := by
  unfold eqRearmed
  split
  · exact (updRing_ringX_keeps (g := RingX.written) (by exact fun _ => rfl) ..).trans
      (congrArg RingX.written (State.ringX_congr (congrArg Rng.rings (State.setI_rng ..)) q))
  · rfl

theorem eqRearmed_consumer (ring q : Nat) (arm : Bool) (s : State) :
    (eqRearmed ring arm s).getI Reg.RNG_PTRS_CONSUMER q = s.getI Reg.RNG_PTRS_CONSUMER q := by
  unfold eqRearmed
  split
  · exact State.getI_setI_touch_ne s ring q 1 (by decide)
  · rfl

theorem eqRearmed_armed {ring : Nat} {arm : Bool} {s : State} (ha : arm = true) (hl : s.getI Reg.RNG_INFO_LINK ring % 65536 ≠ 0xFFFF) :
    (eqRearmed ring arm s).getI Reg.RNG_INFO_ARMED ring = 1 := by
  rw [eqRearmed, if_pos ⟨ha, hl⟩]
  exact State.getI_setI_same ..

theorem returnSlots_written {r : Nat} {s : State} (hx : s.ringExists r = true) (count : Nat) :
    ((returnSlots r count s).ringX r).written = (s.ringX r).written - count := by
  rw [returnSlots, State.ringX_congr (congrArg Rng.rings (State.setI_rng ..)), updRing_ringX hx]

theorem eqRelease_completes (who : Issuer) (niche ring count : Nat) (arm : Bool) (s : State) (hd : s.doorbellRing niche ring 2 = true)
    (hc : count ≤ (s.ringX ring).written) : answers (.eqRelease who niche ring count arm) s fun t =>
      t.getI Reg.RNG_PTRS_CONSUMER ring = (s.getI Reg.RNG_PTRS_CONSUMER ring + count) % s.ringSize ring % 2 ^ 16 ∧
      (t.ringX ring).written = (s.ringX ring).written - count ∧
      (arm = true → s.getI Reg.RNG_INFO_LINK ring % 65536 ≠ 0xFFFF → t.getI Reg.RNG_INFO_ARMED ring = 1) ∧ t.mem = s.mem := by
  have hs : exec (.eqRelease who niche ring count arm) s = execEqRelease who niche ring count arm s := rfl
  have hn : execEqRelease who niche ring count arm s = .next (eqRearmed ring arm (returnSlots ring count s)) := by
    unfold execEqRelease
    dsimp only
    rw [if_neg (by simp [hd]), if_neg (Nat.not_lt.2 hc)]
    rfl
  obtain ⟨hx, -, -⟩ := doorbellRing_iff.1 hd
  refine ⟨_, hs.trans hn, ?_, ?_, fun ha hl => eqRearmed_armed ha ?_,
    mem_of_next (execEqRelease_but (by decide +kernel) who niche ring count arm s) (hs.trans hn)⟩
  · rw [eqRearmed_consumer, returnSlots_consumer]
  · rw [eqRearmed_written, returnSlots_written hx]
  · rwa [getI_of_butField (returnSlots_but (by decide +kernel) ..)]

theorem cqRestart_completes (ring : Nat) (s : State) (hst : s.flagI Reg.RNG_INFO_STOPPED ring = true)
    (hf : (s.ringX ring).freed = true) (hp : 0 < s.places ring) : answers (.cqRestart ring) s fun t =>
      t.getI Reg.RNG_INFO_STOPPED ring = 0 ∧ (t.ringX ring).freed = false ∧ t.mem = s.mem := by
  have hx : s.ringExists ring = true := ringExists_of_ringX (g := RingX.freed) (by rw [hf]; decide)
  have hs : exec (.cqRestart ring) s = execCqRestart ring s := rfl
  have hn : execCqRestart ring s = .next (updRing ring (fun x => { x with freed := false }) (s.setI Reg.RNG_INFO_STOPPED ring 0)) :=
    congrArg Host.Outcome.next (if_pos ⟨hst, hf, hp⟩)
  refine ⟨_, hs.trans hn, ?_, ?_, mem_of_next (execCqRestart_but (by decide +kernel) ring s) (hs.trans hn)⟩
  · exact State.getI_setI_same ..
  · rw [updRing_ringX (by rw [State.ringExists, State.setI_rng]; exact hx)]

/-- R276: an event ring's vector is sent: the ring is no longer armed and owes nothing. -/
def msixSent (ring : Nat) (s : State) : State :=
  updRing ring (fun x => { x with owed := false, lastMsix := some s.stk.boundary }) (s.setI Reg.RNG_INFO_ARMED ring 0)

theorem msixSent_getI {f : Field} (h : Reg.RNG_INFO_ARMED.touch ≠ f.touch) (ring : Nat) (s : State) (i : Nat) :
    (msixSent ring s).getI f i = s.getI f i := State.getI_setI_touch_ne s ring i 0 h

theorem msixSent_canIssue (ring n : Nat) (s : State) : (msixSent ring s).canIssue n = s.canIssue n := by
  simp (disch := decide) only [State.canIssue, State.dev, State.get, State.flagI, State.nicheFn, msixSent_getI]

theorem nicheMsix_out (n v : Nat) (s : State) : (nicheMsix n v s).out =
    if s.canIssue n then s.out ++ [.msix (s.getI Reg.NCH_INFO_AP n) (s.getI Reg.NCH_INFO_RID n) v] else s.out := by
  unfold nicheMsix
  split <;> rfl

theorem msixSent_ringX {ring : Nat} {s : State} (hx : s.ringExists ring = true) :
    (msixSent ring s).ringX ring = { s.ringX ring with owed := false, lastMsix := some s.stk.boundary } := by
  rw [msixSent, updRing_ringX (by rw [State.ringExists, State.setI_rng]; exact hx), State.ringX_congr (congrArg Rng.rings (State.setI_rng ..))]

theorem eventMsixSend_completes (ring : Nat) (s : State) (hen : s.ringEnabled ring = true) (ht : s.getI Reg.RNG_INFO_TYPE ring = 2)
    (har : s.flagI Reg.RNG_INFO_ARMED ring = true) (ho : (s.ringX ring).owed = true) (hw : 0 < (s.ringX ring).written)
    (hdue : ((s.ringX ring).lastMsix.all fun b => decide (b + (s.ringX ring).mod ≤ s.stk.boundary)) = true) :
    answers (.eventMsixSend ring) s fun t => t.getI Reg.RNG_INFO_ARMED ring = 0 ∧ (t.ringX ring).owed = false ∧
      (t.ringX ring).lastMsix = some s.stk.boundary ∧
      t.out = (nicheMsix (s.getI Reg.RNG_INFO_NICHE ring) (s.getI Reg.RNG_INFO_LINK ring % 2048) s).out ∧ t.mem = s.mem := by
  have hx : s.ringExists ring = true := ringExists_of_ringX (g := RingX.owed) (by rw [ho]; decide)
  have hs : exec (.eventMsixSend ring) s = execEventMsixSend ring s := rfl
  have hn : execEventMsixSend ring s = .next (nicheMsix (s.getI Reg.RNG_INFO_NICHE ring) (s.getI Reg.RNG_INFO_LINK ring % 2048)
      (msixSent ring s)) := by
    rw [← msixSent_getI (f := Reg.RNG_INFO_NICHE) (by decide) ring s, ← msixSent_getI (f := Reg.RNG_INFO_LINK) (by decide) ring s]
    refine congrArg Host.Outcome.next (if_pos ⟨hen, ht, har, ho, hw, ?_⟩)
    cases hm : (s.ringX ring).lastMsix with
    | none => rfl
    | some b => simpa [hm] using hdue
  have hrng : (nicheMsix (s.getI Reg.RNG_INFO_NICHE ring) (s.getI Reg.RNG_INFO_LINK ring % 2048) (msixSent ring s)).rng =
      (msixSent ring s).rng := rng_of_butPart (nicheMsix_but (by decide +kernel) ..)
  refine ⟨_, hs.trans hn, ?_, ?_, ?_, ?_, mem_of_next (execEventMsixSend_but (by decide +kernel) ring s) (hs.trans hn)⟩
  · rw [getI_of_butField (nicheMsix_but (by decide +kernel) ..)]
    exact State.getI_setI_same ..
  · rw [State.ringX_congr (congrArg Rng.rings hrng), msixSent_ringX hx]
  · rw [State.ringX_congr (congrArg Rng.rings hrng), msixSent_ringX hx]
  · rw [nicheMsix_out, nicheMsix_out, msixSent_canIssue, msixSent_getI (by decide), msixSent_getI (by decide)]
    rfl

end Sys2Proof.Machine
end

section
/-!
CERTIFICATE. The generic opcodes, and with them the transfers of the rings.
-/
namespace Sys2Proof.Machine
set_option Elab.async false

/-! ### Generic opcodes -/

theorem nop_completes (w : Work) (f : Flight) (s : State) (h : takes s w 0 f) : answers (.nop w) s fun t =>
    finishedWith t f.seq St.ok ∧ t.mem = s.mem := by
  have e : exec (.nop w) s = execNop w s := rfl
  obtain ⟨hf, hd⟩ := starting_flight h
  exact answers_startWork h e rfl ⟨finish_finished hf hd St.ok 0, finish_mem ..⟩

theorem readPending_iff {s : State} {seq : Nat} : s.readPending seq = true ↔
    (∃ t ∈ s.hif.tags, t.purpose = .work seq) ∨ ∃ w ∈ s.hif.waiting, w.2 = .work seq := by
  simp [State.readPending]

/-- A read that is issued holds a tag of its purpose. -/
theorem issueRead_tag {n : Nat} {p : Purpose} {s : State} (h : (issueRead n p s).2 = true) :
    ∃ t ∈ (issueRead n p s).1.hif.tags, t.purpose = p := by
  unfold issueRead at h ⊢
  dsimp only at h ⊢
  split at h
  · rw [tagCounts_hif]
    exact ⟨_, List.mem_append_right _ (List.mem_singleton_self _), rfl⟩
  · cases h

/-- A read that work needs is outstanding, or waits. -/
theorem needRead_pending (n seq : Nat) (s : State) : (needRead n (.work seq) s).readPending seq = true := by
  rw [readPending_iff]
  by_cases h : s.canIssue n = true ∧ (issueRead n (.work seq) s).2 = true
  · obtain ⟨hc, hi⟩ := h
    refine Or.inl ?_
    rw [needRead, if_pos hc]
    dsimp only
    rw [if_pos hi]
    exact issueRead_tag hi
  · refine Or.inr ⟨(n, .work seq), ?_, rfl⟩
    have hok : ¬ (if s.canIssue n then issueRead n (.work seq) s else (s, false)).2 = true := by
      by_cases hc : s.canIssue n = true
      · rw [if_pos hc]
        exact fun hi => h ⟨hc, hi⟩
      · rw [if_neg hc]
        exact Bool.false_ne_true
    rw [needRead]
    dsimp only
    rw [if_neg hok]
    exact List.mem_append_right _ (List.mem_singleton_self _)

theorem send_completes (w : Work) (f : Flight) (q : Nat) (s : State) (h : takes s w 1 f)
    (hq : Map.find? s.sch.local_ (localKey f.niche (byteField f.entry 24 25)) = some q) (hl : launchFar s f q = false) :
    answers (.send w) s fun t => t.readPending f.seq = true ∧ t.mem = s.mem := by
  have e : exec (.send w) s = execSend w s := rfl
  have hq' : Map.find? (starting s f).sch.local_ (localKey f.niche (byteField f.entry 24 25)) = some q := hq
  refine answers_startWork (t := needRead f.niche (.work f.seq) (starting s f)) h e ?_ ⟨needRead_pending .., needRead_mem ..⟩
  simp only [hq', launchFar_starting, hl, Bool.false_eq_true, if_false]

/-- What the predicate of a taken work entry says of its flight. -/
theorem takes_fields {s : State} {w : Work} {o : Nat} {f : Flight} (h : takes s w o f) :
    f ∈ s.rng.flights ∧ wOpcode f.entry = o ∧ f.done = none := by
  obtain ⟨hw, -⟩ := h
  have hp := List.find?_some hw
  simp only [Bool.and_eq_true, Option.isNone_iff_eq_none, beq_iff_eq] at hp
  obtain ⟨⟨⟨-, hd⟩, ho⟩, -⟩ := hp
  exact ⟨List.mem_of_find?_eq_some hw, ho, hd⟩

theorem recvPost_completes (w : Work) (f : Flight) (s : State) (h : takes s w 2 f) : answers (.recvPost w) s fun t =>
    { f with started := true } ∈ t.buffers f.ring ∧ t.regs = s.regs ∧ t.mem = s.mem := by
  have e : exec (.recvPost w) s = execRecvPost w s := rfl
  obtain ⟨hf, ho, hd⟩ := takes_fields h
  refine answers_startWork (t := starting s f) h e rfl ⟨List.mem_filter.2 ⟨?_, ?_⟩, rfl, rfl⟩
  · exact List.mem_map.2 ⟨f, hf, if_pos rfl⟩
  · simp [ho, hd]

/-! ### ABORT -/

/-- R247: a flight of a sequence number marked as started. -/
def startedIf (seq : Nat) (f : Flight) : Flight := if f.seq = seq then { f with started := true } else f

theorem starting_flights (s : State) (f : Flight) : (starting s f).rng.flights = s.rng.flights.map (startedIf f.seq) := rfl

theorem startedIf_ne {seq : Nat} {f : Flight} (h : f.seq ≠ seq) : startedIf seq f = f := if_neg h

/-- A choice among the flights that does not ask whether they have started chooses alike as one starts. -/
theorem starting_find {p : Flight → Bool} (hp : ∀ f, p { f with started := true } = p f) (s : State) (f : Flight) :
    (starting s f).rng.flights.find? p = (s.rng.flights.find? p).map (startedIf f.seq) := by
  have hc : (p ∘ startedIf f.seq) = p := by
    funext g
    rw [Function.comp_apply, startedIf]
    split
    · exact hp g
    · rfl
  rw [starting_flights, List.find?_map, hc]

theorem commitOne_flight (f : Flight) (c : Cpl) (s : State) (q : Nat) :
    (commitOne f c s).flight q = s.flight q ∨ (commitOne f c s).flight q = none := by
  unfold State.flight
  rw [commitOne_flights, List.find?_filter]
  by_cases h : q = f.seq
  · exact Or.inr (List.find?_eq_none.2 fun g _ => by simp [h])
  · refine Or.inl (congrArg (List.find? · _) (funext fun g => ?_))
    by_cases hg : g.seq = q <;> simp [hg, h]

/-- Completions that commit leave a flight as it is, or end it. -/
theorem commitRing_flight (fuel r : Nat) (s : State) (q : Nat) :
    (commitRing fuel r s).flight q = s.flight q ∨ (commitRing fuel r s).flight q = none := by
  induction fuel generalizing s with
  | zero => exact Or.inl rfl
  | succ n ih =>
    rw [commitRing]
    split
    next f c _ =>
      rcases ih (commitOne f c s) with h | h
      · exact (commitOne_flight f c s q).imp h.trans h.trans
      · exact Or.inr h
    · exact Or.inl rfl

theorem updFlight_flight_ne {seq q : Nat} {g : Flight → Flight} (hg : ∀ f, (g f).seq = f.seq) (h : q ≠ seq) (s : State) :
    (updFlight seq g s).flight q = s.flight q := by
  unfold State.flight updFlight
  rw [State.updRng_rng, List.find?_map]
  have hp : ((fun f : Flight => f.seq == q) ∘ fun f => if f.seq = seq then g f else f) = fun f => f.seq == q := by
    funext f
    rw [Function.comp_apply]
    split
    · rw [hg]
    · rfl
  rw [hp]
  cases e : s.rng.flights.find? fun f => f.seq == q with
  | none => rfl
  | some f =>
    have hf : f.seq = q := by simpa using List.find?_some e
    rw [Option.map_some, if_neg (hf ▸ h)]

/-- A work entry that finishes leaves every other as it is, or ended. -/
theorem finish_flight_ne {seq q : Nat} (h : q ≠ seq) (st result : Nat) (s : State) :
    (finish seq st result s).flight q = s.flight q ∨ (finish seq st result s).flight q = none := by
  unfold finish finishAs
  split
  · split
    · exact Or.inl rfl
    · rw [← updFlight_flight_ne (g := fun f => { f with done := some ⟨st, 0, result, none⟩ }) (fun _ => rfl) h s]
      exact commitRing_flight ..
  · exact Or.inl rfl

/-- A work entry that has finished keeps its status as another finishes. -/
theorem finishedWith_finish_ne {seq q st : Nat} {s : State} (hf : finishedWith s q st) (h : q ≠ seq) (st' result : Nat) :
    finishedWith (finish seq st' result s) q st := by
  unfold finish finishAs
  split
  · split
    · exact hf
    · intro g hg hq
      obtain ⟨x, hx, rfl⟩ := List.mem_map.1 (commitRing_flights_subset _ _ _ hg)
      have hne : x.seq ≠ seq := by
        intro e
        rw [if_pos e] at hq
        exact h (hq.symm.trans e)
      rw [if_neg hne] at hq ⊢
      exact hf x hx hq
  · exact hf

/-- A work entry with no status yet finishes with the status given, or has ended already. -/
theorem finish_finishedWith {seq : Nat} {s : State} {f : Flight} (h : s.flight seq = some f ∨ s.flight seq = none) (hd : f.done = none)
    (st result : Nat) : finishedWith (finish seq st result s) seq st := by
  rcases h with h | h
  · exact finish_finished h hd st result
  · have hsame : finish seq st result s = s := by rw [finish, finishAs, h]
    rw [hsame]
    exact fun g hg hq => absurd hq (by simpa using List.find?_eq_none.1 h g hg)

theorem workStop_unstarted {f : Flight} (hd : f.done = none) (hs : f.started = false) (st : Nat) (s : State) :
    workStop f st s = some (finish f.seq st 0 s) := by
  unfold workStop
  simp only [hd, hs, Option.isSome_none, Bool.false_eq_true, if_false, true_or, if_true]

/-- The work of a niche that an ABORT names by its tag. -/
def abortNames (f g : Flight) : Bool :=
  g.niche == f.niche && g.port.isNone && wTag g.entry == byteField f.entry 4 5 && g.seq != f.seq && g.done.isNone

theorem abort_completes (w : Work) (f g : Flight) (s : State) (h : takes s w 3 f) (hg : s.rng.flights.find? (abortNames f) = some g)
    (hgf : s.flight g.seq = some g) (hgs : g.started = false) : answers (.abort w) s fun t =>
      finishedWith t f.seq St.ok ∧ finishedWith t g.seq St.aborted ∧ t.mem = s.mem := by
  have e : exec (.abort w) s = execAbort w s := rfl
  obtain ⟨hf, hd⟩ := starting_flight h
  have ht := List.find?_some hg
  simp only [abortNames, Bool.and_eq_true, bne_iff_ne, Option.isNone_iff_eq_none] at ht
  obtain ⟨⟨-, hne⟩, hgd⟩ := ht
  have hfind : (starting s f).rng.flights.find? (abortNames f) = some g := by
    rw [starting_find (by exact fun _ => rfl), hg, Option.map_some, startedIf_ne hne]
  have hgs' : (starting s f).flight g.seq = some g := (updFlight_flight_ne (by exact fun _ => rfl) hne s).trans hgf
  have hga : finishedWith (finish g.seq St.aborted 0 (starting s f)) g.seq St.aborted := finish_finished hgs' hgd St.aborted 0
  have hfo : (finish g.seq St.aborted 0 (starting s f)).flight f.seq = some { f with started := true } ∨
      (finish g.seq St.aborted 0 (starting s f)).flight f.seq = none :=
    (finish_flight_ne hne.symm St.aborted 0 (starting s f)).imp_left (·.trans hf)
  refine answers_startWork (t := finish f.seq St.ok 0 (finish g.seq St.aborted 0 (starting s f))) h e ?_
    ⟨finish_finishedWith hfo hd St.ok 0, finishedWith_finish_ne hga hne St.ok 0, (finish_mem ..).trans (finish_mem ..)⟩
  dsimp only
  unfold abortNames at hfind
  rw [hfind]
  dsimp only
  rw [workStop_unstarted hgd hgs]

/-! ### The obligation -/

/-- Settles O25: polls and arrived entries become the flight that an accepted entry taken leaves, releases move a ring's indices past its
slots, and the generic opcodes finish, wait for their read, join their buffers or end the work they name. -/
theorem ringTransferCommandsComplete : Obligations.RingTransferCommandsComplete := by
  unfold Obligations.RingTransferCommandsComplete
  refine ⟨?_, ?_, ?_, ?_, ?_, ?_, ?_, ?_, ?_, ?_, ?_, ?_, ?_⟩
  · rintro h r s ⟨hdue, hbudget, hok⟩
    exact ringPoll_completes h r s hdue hbudget hok
  · rintro ring e _ x s ⟨rfl, hx, ho, hm, hp, ha, hroom⟩
    exact ringPollData_completes ring e x s hx ho hm hp ha hroom
  · rintro who niche ring s ⟨hd, hr⟩
    exact nudge_completes who niche ring s hd hr
  · rintro who off r data s ⟨hr, hfit, hen, hown⟩
    exact residentRingWrite_completes who off r _ _ data s hr hfit hen rfl rfl hown
  · rintro r slot due s ⟨harr, hdue, hat, hm, hb, hp, ha⟩
    exact residentIntake_completes r slot due s harr hdue hat hm hb hp ha
  · rintro who niche ring count arm s ⟨hd, hc⟩
    exact cqRelease_completes who niche ring count arm s hd hc
  · rintro who niche ring count arm s ⟨hd, hc⟩
    exact eqRelease_completes who niche ring count arm s hd hc
  · rintro ring s ⟨hst, hf, hp⟩
    exact cqRestart_completes ring s hst hf hp
  · rintro ring s ⟨hen, ht, har, ho, hw, hdue⟩
    exact eventMsixSend_completes ring s hen ht har ho hw hdue
  · exact fun w f s h => nop_completes w f s h
  · rintro w f q s ⟨h, hq, hl⟩
    exact send_completes w f q s h hq hl
  · exact fun w f s h => recvPost_completes w f s h
  · rintro w f g s ⟨h, hg, hgf, hgs⟩
    exact abort_completes w f g s h hg hgf hgs

end Sys2Proof.Machine
end
